-- ==== Sys2Proof/Word.lean ====
section
/-! DEFINITION. The word types of the Z20's registers and memory, and the plainest reading of a
field of a word.  Registers are kept as natural numbers below 2^width once they are stored; an
operand that software writes whole is a bit vector of the register's width. -/

namespace Sys2Proof

/-- One byte of HBM, tilth, host or NAND data. -/
abbrev Byte := BitVec 8
/-- A 16-bit word. -/
abbrev Half := BitVec 16
/-- A 32-bit word. -/
abbrev Word32 := BitVec 32
/-- A 64-bit word: the natural width of most control-window registers. -/
abbrev Word := BitVec 64
/-- A 128-bit word. -/
abbrev Word128 := BitVec 128

end Sys2Proof
end

