-- ==== Sys2Proof/Syntax.lean ====
section
/-! DEFINITION. The commands of the Z20 block: one constructor per row of spec/opcode_table.json, in its order, with
the operands the row's rule gives the event. -/

namespace Sys2Proof

/-- The three windows of the host (R252) and the configuration space. -/
inductive Window where
  | control | doorbell | aperture | config
  deriving DecidableEq, Repr

/-- A host memory request (R252, R290-R296): the host's address, the offset in its window, which the base registers give and
the command fills in; length in bytes, first and last dword byte enables, Requester ID, transaction tag,
payload (of a write or an AtomicOp), the EP bit, whether a PASID prefix is carried, and for an AtomicOp whether it is a
CAS of 64 bits, which the command sets. -/
structure MemReq where
  addr : Nat := 0
  off : Nat := 0
  len : Nat
  fbe : BitVec 4 := 0xF
  lbe : BitVec 4 := 0xF
  rid : Half := 0
  tag : Nat := 0
  data : List Byte := []
  ep : Bool := false
  pasid : Bool := false
  atomic : Option Bool := none
  deriving DecidableEq, Repr

/-- States of the LTSSM short of L0 that training comes to (R275). -/
inductive TrainStop where
  | detect | polling | configuration | loopback
  deriving DecidableEq, Repr

/-- What the link partner offers at training (R234, R235, R240, R284): its fastest rate code 1-6, the usable
lanes, FLIT mode, CXL as alternate protocol, the credits it advertises, Scaled Flow Control, latency-optimized flits of CXL,
and where training has come to if it has not ended in L0. -/
structure LinkOffer where
  speed : Nat
  lanes : Nat
  flit : Bool
  cxl : Bool
  posted : Nat := 128
  nonPosted : Nat := 64
  scaled : Bool := true
  lowLatency : Bool := false
  stop : Option TrainStop := none
  deriving DecidableEq, Repr

/-- Kinds of AtomicOp a host can send (R249). -/
inductive AtomicKind where
  | cas | fetchAdd | swap
  deriving DecidableEq, Repr

/-- Requests the Z20 treats as unsupported (the rows of R307). -/
inductive UrKind where
  | noWindow | d3hot | notBacked | atomicOp | wideRegisterRead | pasidPrefix | ioOrLock
  deriving DecidableEq, Repr

/-- The freeze causes of R313. -/
inductive FreezeBy where
  | software | gateUe | faultReaction | packageFenced
  deriving DecidableEq, Repr

/-- The three dictionary routes of R168: field network, mirror (host), manager. -/
inductive Route where
  | F | H | M
  deriving DecidableEq, Repr

/-- A 64-byte descriptor as the Z20 reads it: its header fields (R342, R343) and its 32-byte body.
`rsv` says that some reserved bit or encoding of the header is not 0 (R344). -/
structure Desc where
  opcode : Nat := 0
  waitEn : Bool := false
  signalEn : Bool := false
  stampEn : Bool := false
  halfStampEn : Bool := false
  recordEn : Bool := false
  ro : Bool := false
  abort : Bool := false
  barrier : Bool := false
  waitCond : Nat := 0
  signalSet : Bool := false
  halfSignal : Bool := false
  rsv : Bool := false
  waitStake : Nat := 0
  signalStake : Nat := 0
  waitValue : Nat := 0
  signalValue : Nat := 0
  stampValue : Nat := 0
  stampAddr : Nat := 0
  body : List Byte := []
  deriving DecidableEq, Repr

/-- A translation of an ATS Translation Completion (R443): untranslated address, size, translated address, R and W. -/
structure AtsEntry where
  va : Nat
  size : Nat
  addr : Nat
  r : Bool
  w : Bool
  deriving DecidableEq, Repr


/-- An event that arrives in Fallow with its bit of FALLOW_WAKE_MASK clear (R72). -/
inductive FallowEvent where
  | window (win : Window) (write : Bool) (r : MemReq)
  | request (val : Nat)
  | frame
  | timer
  deriving DecidableEq, Repr

/-- The resets whose ending event is a step of its own (R120). -/
inductive ResetKind where
  | module | fundamental | hot | headland | plot (p : Fin 16) | tram (d : Fin 2)
  deriving DecidableEq, Repr

/-- What a row of the dictionary operations brings: an Ethernet frame of the field network from its destination address on,
which is checked and queued as its own bytes say; or the Headland takes the request of the field queue, of the mirror or
of the manager route whose turn it is (R201, R206, R209, R211). -/
inductive DictReq where
  | frame (bytes : List Byte)
  | field
  | mirror
  | manager
  deriving DecidableEq, Repr

/-- How a read of the host fails (R288, R289). -/
inductive HostFail where
  | ur | ca | timeout
  deriving DecidableEq, Repr

/-- What the host answers to the host-memory reads that one command makes: the bytes in the order in which it reads them, each with
its poison, or the failure of the request behind them. -/
structure HostRead where
  data : List (Byte × Bool) := []
  fail : Option HostFail := none
  deriving DecidableEq, Repr

/-- Message kinds (R647). -/
inductive MsgKind where
  | stileWrite | writeAck | readReq | readRsp | stakeAdd | stakeSet | stakeRead | stakeAck | stakeRsp
  | mgmt | join | joinAck | heartbeat | faultReport | halt | memberReset | powerLoss
  | timeAnnounce | timeSync | timeEcho | ident
  deriving DecidableEq, Repr

/-- A Tramline message: the header of R646 and its payload; `marks` are the poisoned payload granules. -/
structure Msg where
  kind : MsgKind := .stileWrite
  dst : Nat := 0
  src : Nat := 0
  hop : Nat := 0
  slice : Nat := 0
  tag : Nat := 0
  window : Nat := 0
  aux : Nat := 0
  addr : Nat := 0
  marks : List Nat := []
  relayed : Bool := false
  ordered : Bool := false
  broadcast : Bool := false
  payload : List Byte := []
  deriving DecidableEq, Repr

/-- Classes of a fabric port as an IDENT names them (R631, R637). -/
inductive PortClass where
  | sled | rack | optical | s64
  deriving DecidableEq, Repr

/-- What the manager found at a member for a restart (R831): the member's address, the 32 bytes of its latest entry for
the lot that SLICE_LOT names, and the tickets of the entries for that lot that hold acres. -/
structure RestartEntry where
  member : Nat
  latest : List Byte
  held : List Nat
  deriving DecidableEq, Repr

/-- The fields of a write of LOT_CMD (R697) but for OP; `rsv`: a byte that must be 0 is not. -/
structure LotCmd where
  lot : Nat
  pasid : Nat := 0
  size : Nat := 0
  base : Nat := 0
  rights : Nat := 0
  rsv : Bool := false
  deriving DecidableEq, Repr

/-- What a full read of a band found (R691, R709): sectors that needed a retry, the deepest step, the most bits
corrected in a sector, sectors rebuilt from parity, sectors of the generation that are uncorrectable, the band's effective
age in hours, the channel's retry order where it learned one (channel, value), and the erase blocks in which sectors were
rebuilt. -/
structure BandRead where
  retries : Nat := 0
  step : Nat := 0
  bits : Nat := 0
  rebuilt : Nat := 0
  lost : List Nat := []
  age : Nat := 0
  order : Option (Nat × Nat) := none
  blocks : List Nat := []
  deriving DecidableEq, Repr

/-- What the NAND answers to a SEED operation (R713): program or erase status failed, the deepest retry step, the most
bits corrected in one sector, the uncorrectable sectors (counted from the first byte read), how many sectors needed a
retry, and the host's answer to the reads of a buffer in its memory. -/
structure NandResult where
  failed : Bool := false
  step : Nat := 0
  bits : Nat := 0
  lost : List Nat := []
  retries : Nat := 0
  host : HostRead := {}
  deriving DecidableEq, Repr

/-- An event as a die reports it (R741): source, access kind, master, failing address, and the die of a UCIe event. -/
structure EvArg where
  source : Nat
  access : Nat := 0
  masterKind : Nat := 0
  master : Nat := 0
  addr : Option Nat := none
  die : Option Nat := none
  deriving DecidableEq, Repr


/-- The commands the block takes, in the order of the opcode table. -/
inductive Instr where
  /-- R135: POWER_ON; the time to charge the bulk capacitance in ms, the readings of the sensors. -/
  | powerOn (inrush : Nat) (readings : List (Nat × Int))
  /-- R63: The input falls below 42.0 V for less than 2 µs; the dip is ignored and counted in DIP_COUNT. -/
  | inputDip
  /-- R64: A brown-out is detected and the hold-up sequence stops the clocks, completes in-flight programs and removes power. -/
  | brownout
  /-- R63: The input stays above 62.0 V for 10 µs; the brown-out sequence runs and the module is held off until the input recovers. -/
  | inputOv
  /-- R68: the domain, numbered as DOMAIN_ON. -/
  | vregFault (domain : Fin 24)
  /-- R70: a write of PWR_REQUEST by a route. -/
  | pwrRequestWrite (route : Route) (val : Byte)
  /-- R70: Entry to Fallow completes: domains switch off and the HBM enters self-refresh. -/
  | fallowEntryComplete
  /-- R71: a wake event, by its bit of FALLOW_WAKE_MASK. -/
  | fallowWakeEvent (cause : Fin 4)
  /-- R72: an event whose mask bit is clear. -/
  | fallowMaskedEvent (e : FallowEvent)
  /-- R74: The wake reaches Tilled and the held requests are served in order of arrival. -/
  | fallowWakeComplete
  /-- R109: A held non-posted request is not served within 1 ms and is completed with Completer Abort. -/
  | holdBufferTimeout
  /-- R75: a trigger for plot p. -/
  | plotWakeTrigger (p : Fin 16)
  /-- R76: the wake of plot p completes. -/
  | plotWakeComplete (p : Fin 16)
  /-- R79: plot p is gated. -/
  | plotIdleGate (p : Fin 16)
  /-- R75: a write of PLOT_HOLD. -/
  | plotHoldWrite (route : Route) (mask : Half)
  /-- R81: The rack reference is judged not valid; Tick switches to the fallback and the PLLs enter holdover. -/
  | rackrefLost
  /-- R81: The reference has been valid for 1 ms; Tick switches back at an in-phase edge. -/
  | rackrefRestored
  /-- R82: the trim that the measurement gives. -/
  | tickTrimUpdate (trim : Word32)
  /-- R85: The reference has never been valid since power-on; the ports stay down and RACKREF_ABSENT is raised. -/
  | rackrefAbsent
  /-- R86: The Headland fast clock stops after HFAST_IDLE without work. -/
  | hfastIdleStop
  /-- R86: Work arrives while the Headland fast clock is stopped, and the clock starts within 10 µs. -/
  | hfastStart
  /-- R87: input voltage (mV) and current (mA), package power and its average over CAP_WINDOW (mW), and the level that the
  capping loop decides. -/
  | powerSummation (vin iin power avg : Nat) (level : Fin 17)
  /-- R87: the comparator acts on the peak, or on its duration, and requires a level. -/
  | peakLimit (duration : Bool) (level : Fin 17)
  /-- R60: The Headland is silent for more than 50 ms and the Gate applies the 600 W floor. -/
  | headlandSilent
  /-- R91: SHED# is recognised as asserted and the package goes to the floor throttle. -/
  | shedAssert
  /-- R91: SHED# is recognised as de-asserted and the release ramp starts. -/
  | shedDeassert
  /-- R91: A step of the SHED release ramp falls due and the throttle is lowered by one level. -/
  | shedReleaseStep
  /-- R94: a reading at or above a throttle threshold, in 1/16 degree. -/
  | thermThrottle (sensor : Fin 90) (temp : Int)
  /-- R94: readings taken since, and a cap step. -/
  | thermCapStep (readings : List (Nat × Int))
  /-- R94: a reading at or above an alarm threshold. -/
  | thermAlarm (sensor : Fin 90) (temp : Int)
  /-- R95: a reading at or above a trip threshold. -/
  | thermTrip (sensor : Fin 90) (temp : Int)
  /-- R96: the sensor that failed. -/
  | sensorFailed (sensor : Fin 90)
  /-- R98: a write of CAL_UNLOCK. -/
  | calUnlock (route : Route) (key : Word32)
  /-- R98: The 60 s calibration unlock, or the 10 s key hold-off, expires. -/
  | calUnlockExpiry
  /-- R99: a write of CAL_COMMIT. -/
  | calCommit (route : Route) (val : Word32)
  /-- R99: The calibration commit completes and CAL_COMMIT_STATUS reads done. -/
  | calCommitDone
  /-- R121: MODRST# is recognised as asserted and the module is taken down as at brown-out. -/
  | moduleResetAssert
  /-- R121: de-assertion of MODRST#, with the readings of the sensors (R122). -/
  | moduleResetDeassert (readings : List (Nat × Int))
  /-- R123: PERST# is recognised as asserted and the fundamental reset clears the host face and the GCORE function state. -/
  | perstAssert
  /-- R150: A PERST# pulse shorter than 1 µs is ignored and counted. -/
  | perstGlitch
  /-- R126: PERST# is de-asserted and the LTSSM enters Detect within 20 ms. -/
  | perstDeassert
  /-- R126: a hot reset, or a link disable. -/
  | hotReset (disable : Bool)
  /-- R318: the link goes down; the newest fault records that had left and were not acknowledged (R762). -/
  | dlDown (lost : Nat)
  /-- R302: A write of Initiate Function Level Reset starts FLR: doorbells stop and the posted queue is discarded. -/
  | initiateFlr
  /-- R305: FLR completes with the furrows disabled, the caches cleared, the stakes at zero and the fabric membership dropped. -/
  | flrComplete
  /-- R120: the reset whose ending event happens. -/
  | resetComplete (k : ResetKind)
  /-- R125: an acre. -/
  | hbmScrubAcre (acre : Fin 6144)
  /-- R128: the watchdog expires; the CRC of the rotation queue in AON RAM (R722). -/
  | hlWatchdog (crcOk : Bool)
  /-- R128: a write of HL_RESET_REQUEST. -/
  | hlResetRequest (route : Route) (key : Word32) (crcOk : Bool)
  /-- R129: the Headland restarts. -/
  | headlandReset (crcOk : Bool)
  /-- R132: a write of PLOT_FENCE. -/
  | plotFence (route : Route) (mask : Half)
  /-- R133: a write of PLOT_RESET. -/
  | plotReset (route : Route) (mask : Half)
  /-- R134: a write of TRAM_RESET. -/
  | tramReset (route : Route) (mask : Byte)
  /-- R144: the tries, each of four readings of the pins in the layout of STRAP_SAMPLED. -/
  | strapSample (tries : List (List Nat))
  /-- R147: a pin, numbered as in STRAP_SAMPLED. -/
  | strapChanged (pin : Fin 15)
  /-- R140: The boot ROM reads boot control, selects an image, verifies it and jumps to it, or falls back. -/
  | bootImageSelect
  /-- R158: The boot ROM does not jump within 100 ms and counts a failed trial. -/
  | bootRomTimeout
  /-- R142: ROM recovery; the NOR does not answer. -/
  | romRecovery (norDead : Bool)
  /-- R141: A trial image has run for 30 s without reset and marks itself active. -/
  | trialImageConfirm
  /-- R135: training completes; the values that it learned for lost items (R101). -/
  | hbmTrainingDone (learned : List (Nat × Nat))
  /-- R196, R199: a HELLO request. -/
  | hello (q : DictReq)
  /-- R198: a READ operation. -/
  | odRead (q : DictReq)
  /-- R198: a WRITE operation. -/
  | odWrite (q : DictReq)
  /-- R197: a READ_BLOCK operation. -/
  | readBlock (q : DictReq)
  /-- R197: a WRITE_BLOCK operation. -/
  | writeBlock (q : DictReq)
  /-- R197: a DESCRIBE operation. -/
  | describe (q : DictReq)
  /-- R179: a TXN_OPEN operation. -/
  | txnOpen (q : DictReq)
  /-- R180: a TXN_CHECK operation. -/
  | txnCheck (q : DictReq)
  /-- R181: a TXN_APPLY operation. -/
  | txnApply (q : DictReq)
  /-- R182: a TXN_DROP operation. -/
  | txnDrop (q : DictReq)
  /-- R182: a transaction has had no operation for 1 s. -/
  | txnExpiry (route : Route)
  /-- R202: a NOTIFY_ACK frame. -/
  | notifyAck (q : DictReq)
  /-- R199: a SESSION_RESET request. -/
  | sessionReset (q : DictReq)
  /-- R192, R195, R200, R193: a frame of the field network, as the Z20 receives it. -/
  | foreignFrame (bytes : List Byte)
  /-- R187: the evaluation of the subscriptions, once every 1 ms. -/
  | notifyEvaluation
  /-- R202: a NOTIFY has been unacknowledged for 10 ms. -/
  | notifyResend (seq : Nat)
  /-- R206: a write of SLOT_CTRL. -/
  | slotGo (slot : Fin 16) (val : Word) (rid : Half)
  /-- R209: a MGMT request arrives on the manager route. -/
  | mgmtRequest (p : Fin 13) (m : Msg)
  /-- R174: a write of PERSIST_COMMIT. -/
  | persistCommit (route : Route) (val : Byte)
  /-- R174, R176: a pending commit starts. -/
  | persistCommitStart
  /-- R174, R175: the bank has been written. -/
  | persistCommitDone
  /-- R178: a write of PERSIST_DEFAULTS. -/
  | persistDefaults (route : Route) (key : Word32)
  /-- R183: a write of LOCK_REQUEST. -/
  | lockRequest (route : Route) (mask : Half)
  /-- R183: a lock has lasted 10 s. -/
  | lockExpiry (route : Route)
  /-- R203: a write of HOP_KEY_SWITCH. -/
  | hopKeySwitch (route : Route) (val : Byte)
  /-- R219: a write of FW_BEGIN. -/
  | fwBegin (route : Route) (len : Word32)
  /-- R219: the erase of the inactive slot has ended. -/
  | fwEraseDone
  /-- R219: a WRITE_BLOCK to FW_DATA. -/
  | fwData (route : Route) (off : Word32) (data : List Byte)
  /-- R219, R140: FW_VERIFY; `ok` is the outcome of the check, `version` the version word of the image. -/
  | fwVerify (route : Route) (ok : Bool) (version : Word32)
  /-- R219, R128: a write of FW_ACTIVATE; `crcOk` is the CRC of the rotation queue in AON RAM. -/
  | fwActivate (route : Route) (key : Word32) (crcOk : Bool)
  /-- R141: a write of FW_CONFIRM. -/
  | fwConfirm (route : Route) (val : Byte)
  /-- R219: the owner has made no operation for 10 s. -/
  | fwOwnerExpiry
  /-- R215: a read of a control-window register that takes the low half of a 64-bit counter, or any other register. -/
  | counterLowRead (r : MemReq)
  /-- R215: a read of the high half of a 64-bit counter. -/
  | counterHighRead (r : MemReq)
  /-- R244: a configuration request to a dword without a row of its own. -/
  | configRequest (write : Bool) (off : BitVec 12) (be : BitVec 4) (val : Word32) (rid : Half)
  /-- R256: a write of the BAR Size field of the Resizable BAR control register. -/
  | barSizeWrite (size : BitVec 6) (rid : Half)
  /-- R297: Bus Master Enable is cleared. -/
  | busMasterClear
  /-- R300: Bus Master Enable is set. -/
  | busMasterSet
  /-- R235: training ends in L0 with the partner's offer. -/
  | linkTrained (offer : LinkOffer)
  /-- R258: the link has been idle for ASPM_L1_IDLE. -/
  | aspmL1Entry
  /-- R260: the transmitted traffic stayed below a quarter for L0P_IDLE. -/
  | l0pNarrow
  /-- R260: more than 16 KiB queued, or a request of the partner. -/
  | l0pWiden
  /-- R259: an LTR message falls due. -/
  | ltrSend
  /-- R262: PowerState is written with D3hot. -/
  | d3hotEntry
  /-- R262: the move from D3hot to D0 takes effect. -/
  | d3hotExit
  /-- R263: a window request could not be served within 5 ms. -/
  | windowRequestLate (win : Window) (write : Bool) (r : MemReq)
  /-- R255: a write of APERTURE_MAP. -/
  | apertureMapWrite (val : Word) (rid : Half)
  /-- R282: a host read of the aperture. -/
  | apertureRead (r : MemReq)
  /-- R281: a host write of the aperture. -/
  | apertureWrite (r : MemReq)
  /-- R249: an AtomicOp to a window; only a CAS of 8 bytes to the aperture or the stake window is served. -/
  | atomicCas (kind : AtomicKind) (size : Nat) (r : MemReq) (compare swap : Word)
  /-- R291: a host write of the control window. -/
  | registerWrite (r : MemReq)
  /-- R307: a request that is unsupported. -/
  | unsupportedRequest (kind : UrKind) (posted : Bool) (r : MemReq)
  /-- R287: a completion with data for an outstanding tag; `last` on its last completion. -/
  | readCompletion (tag : Nat) (data : List Byte) (last : Bool)
  /-- R312: the same with EP set. -/
  | poisonedCompletion (tag : Nat) (data : List Byte) (last : Bool)
  /-- R288: the completion timeout of a tag expires. -/
  | completionTimeout (tag : Nat)
  /-- R289: a completion with UR status (CA when `ca`). -/
  | urCaCompletion (tag : Nat) (ca : Bool)
  /-- R306: a completion for a tag neither outstanding nor quarantined. -/
  | unexpectedCompletion (tag : Nat)
  /-- R314: a freeze cause is registered. -/
  | freeze (cause : FreezeBy)
  /-- R316: FREEZE_CTRL.RELEASE is written. -/
  | freezeRelease
  /-- R296: 1 is written to MMIO_ERR_INFO.VALID. -/
  | mmioErrRearm
  /-- R323: a W1C write of ATTN_CAUSE; `again` are the event causes set again in the same Gate cycle. -/
  | attnCauseClear (val again : Word)
  /-- R320: the line is pending with the conditions met. -/
  | assertInta
  /-- R320: the line stops being pending or Interrupt Disable is set. -/
  | deassertInta
  /-- R321: ATTN_HOLDOFF expires. -/
  | attnHoldoffExpiry
  /-- R364: FCTX_CTRL.ENABLE is written 1. -/
  | furrowEnable (n : Fin 4096)
  /-- R365: FCTX_CTRL.ENABLE is written 0. -/
  | furrowDisable (n : Fin 4096)
  /-- R365: every descriptor of a DISABLING furrow is DONE. -/
  | furrowDisabled (n : Fin 4096)
  /-- R363: FCTX_CTRL.DRAIN is written 1. -/
  | drain (n : Fin 4096)
  /-- R363: the last entry of a drain completes. -/
  | drainComplete (n : Fin 4096)
  /-- R366: FCTX_CTRL.RESUME is written 1. -/
  | resume (n : Fin 4096)
  /-- R367: a write of FCTX_CTRL.PRIO. -/
  | prio (n : Fin 4096) (prio : Fin 8)
  /-- R338: a write of a context register: 0 FCTX_RING, 1 FCTX_BIND, 2 FCTX_QUOTA, 3 FCTX_RECORD, 4 FCTX_SHADOW. -/
  | fctxWrite (n : Fin 4096) (reg : Fin 5) (val : Word) (rid : Half)
  /-- R349: a tail doorbell. -/
  | dbTail (n : Fin 4096) (tail : Word32) (rid : Half)
  /-- R353: a 64-byte inline descriptor. -/
  | dbInline (n : Fin 4096) (data : List Byte) (rid : Half)
  /-- R351: the fetcher chooses a furrow and issues a ring read. -/
  | ringFetch
  /-- R370: the ring read of a tag completes with its bytes. -/
  | ringEntriesReceived (tag : Nat) (data : List Byte)
  /-- R352: the ring read of a tag ends in UR, CA, a timeout or poison. -/
  | ringFault (tag : Nat)
  /-- R341: a head write-back is issued. -/
  | headWriteback (n : Fin 4096)
  /-- R454: the last lookup of a descriptor resolves. -/
  | descriptorSown (n : Fin 4096) (seq : Nat)
  /-- R398: the first descriptor of a furrow that has not started reaches the start point. -/
  | startPointReached (n : Fin 4096)
  /-- R358: the start competition of an engine is decided: 0 no engine, 1 the Drill, 2 the plots, 3 the seedbank. -/
  | descriptorStart (engine : Fin 4)
  /-- R359: a descriptor reaches its half point. -/
  | halfPoint (n : Fin 4096) (seq : Nat)
  /-- R359: a descriptor's engine has finished. -/
  | descriptorComplete (n : Fin 4096) (seq : Nat)
  /-- R397: a host write of STAKE_VALUE. -/
  | stakeSet (k : Fin 65536) (val : Word)
  /-- R397: a host write of STAKE_ADD. -/
  | stakeAdd (k : Fin 65536) (val : Word)
  /-- R394: a write of STAKE_GROUP. -/
  | stakeGroupWrite (g : Fin 1024) (val : Word) (rid : Half)
  /-- R405: the check of the deadlines, every 10 us. -/
  | stakeDeadlineCheck
  /-- R407: a read of STAKE_TO_NEXT. -/
  | stakeToNext (r : MemReq)
  /-- R407: a write of STAKE_WAIT_CANCEL. -/
  | stakeWaitCancel (handle : Fin 16384) (gen : Half)
  /-- R428: PCTX_CTRL of context slot c is written with VALID set. -/
  | pctxValid (c : Fin 16384) (val : Word) (rid : Half)
  /-- R459: the executor takes an INVAL_RANGE command. -/
  | invalRange
  /-- R451: the executor takes an INVAL_PASID command. -/
  | invalPasid
  /-- R451: the executor takes an INVAL_ALL command. -/
  | invalAll
  /-- R451: the executor takes a PARCEL_INSTALL command. -/
  | parcelInstall
  /-- R451: the executor takes a PARCEL_REMOVE command. -/
  | parcelRemove
  /-- R451: the executor takes a PASID_RETIRE command. -/
  | pasidRetire
  /-- R451: the executor takes a SYNC command. -/
  | sync
  /-- R461: an engine acknowledges, numbered as CMD_ACK_PENDING [20:0]. -/
  | engineAcknowledge (engine : Fin 21)
  /-- R462: the last acknowledgement has arrived. -/
  | invalidationComplete
  /-- R463: an ATS Invalidate Request with its ITag, PASID prefix, Global bit and range. -/
  | atsInvalidateRequest (itag : Nat) (pasid : Option Nat) (global : Bool) (start len : Nat)
  /-- R435: the read of walk slot `walk` completes with its bytes. -/
  | walkerCompletion (walk : Nat) (data : List Byte)
  /-- R438: the CAS of a walk slot completes with the value found. -/
  | adCasCompletion (walk : Nat) (found : Word)
  /-- R440: a walker read or CAS ends with UR, CA, a timeout or poison. -/
  | walkError (walk : Nat)
  /-- R443: an ATS Translation Completion; `ok` is false for UR and CA status. -/
  | atsTranslationCompletion (walk : Nat) (ok : Bool) (xs : List AtsEntry)
  /-- R446: the acre entry of a walk slot is read. -/
  | acreEntryRead (walk : Nat)
  /-- R465: the INVAL_ALL of a mode switch completes. -/
  | xlateModeSwitchDone
  /-- R490: the oldest unwritten fault record is written to the ring. -/
  | faultRecordWrite
  /-- R489: the open batch closes. -/
  | faultBatchClose
  /-- R492: a write of FAULT_HEAD. -/
  | faultHeadWrite (val : Word32) (rid : Half)
  /-- R492: a write of FAULT_CTRL. -/
  | faultCtrlWrite (val : Word) (rid : Half)
  /-- R493: FAULT_RESPOND with CODE 0. -/
  | retry (handle : Fin 16384) (gen : Half)
  /-- R493: FAULT_RESPOND with CODE 1. -/
  | fail (handle : Fin 16384) (gen : Half)
  /-- R493: FAULT_RESPOND with CODE 2. -/
  | deny (handle : Fin 16384) (gen : Half)
  /-- R507: FAULT_RESPOND with CODE 3. -/
  | migrate4k (handle : Fin 16384) (gen : Half) (rid : Half)
  /-- R507: FAULT_RESPOND with CODE 4. -/
  | migrate2m (handle : Fin 16384) (gen : Half) (rid : Half)
  /-- R493: FAULT_RESPOND_BATCH with CODE 0. -/
  | batchRetry (batch : Half)
  /-- R493: FAULT_RESPOND_BATCH with CODE 1. -/
  | batchFail (batch : Half)
  /-- R493: FAULT_RESPOND_BATCH with CODE 2. -/
  | batchDeny (batch : Half)
  /-- R487: an entry has been pending for FAULT_TIMEOUT_MS. -/
  | faultTimeout (handle : Fin 16384)
  /-- R495: a page request group is sent. -/
  | pageRequestSend
  /-- R495: a PRG Response with Success. -/
  | prgResponseSuccess (prg : Fin 512) (pasid : Option Nat)
  /-- R495: a PRG Response with Invalid Request. -/
  | prgResponseInvalid (prg : Fin 512) (pasid : Option Nat)
  /-- R495: a PRG Response with Response Failure. -/
  | prgResponseFailure (prg : Fin 512) (pasid : Option Nat)
  /-- R495: a PRG Response that matches no group. -/
  | prgResponseUnexpected (prg : Fin 512) (pasid : Option Nat)
  /-- R496: a PRI Reset. -/
  | priReset
  /-- R497: a migration epoch ends. -/
  | migEpoch
  /-- R500: the first region of the hot-region list is promoted, or a promotion in progress goes on; `pages` is how many pages its
  lookups reach now. -/
  | promotion (pages : Nat)
  /-- R500: the copy of a promotion completes; `h` is what the host answers to its reads. -/
  | promotionCopyDone (h : HostRead)
  /-- R503: a Z20-made overlay is evicted; `pages` is how many of its dirty pages are handled now. -/
  | eviction (parcel : Fin 65536) (pages : Nat)
  /-- R506: a read of MIG_HOT_NEXT. -/
  | migHotNext (r : MemReq)
  /-- R499: a write of a register of a migration window: 0 MIGW_CTRL, 1 MIGW_START, 2 MIGW_LENGTH. -/
  | migWindowWrite (w : Fin 64) (reg : Fin 3) (val : Word) (rid : Half)
  /-- R501: a write of MIG_POOL. -/
  | migPoolWrite (val : Word) (rid : Half)
  /-- R508: a CXL.mem read of a 64-byte line. -/
  | cxlMemRead (line : Nat)
  /-- R511: a CXL.mem write of a 64-byte line; `keeps` says that the host may still hold it. -/
  | cxlMemWrite (line : Nat) (data : List Byte) (poison keeps : Bool)
  /-- R509: the host answers a back-invalidate snoop, with data where it held the line modified. -/
  | bisnpResponse (line : Nat) (data : Option (List Byte))
  /-- R510: a write of COH_WINDOW[k]. -/
  | cohWindowWrite (k : Fin 16) (val : Word) (rid : Half)
  /-- R516: a host snoop of the device coherent cache; `inv` invalidates the line. -/
  | hostSnoop (line : Nat) (inv : Bool)
  /-- R537: ROW_CTRL.GO. -/
  | rowGo (row : Fin 64) (rid : Half)
  /-- R539: ROW_CTRL.CHAIN_GO. -/
  | chainGo (row : Fin 64) (rid : Half)
  /-- R559: ROW_CTRL.STOP. -/
  | rowStop (row : Fin 64)
  /-- R559: ROW_CTRL.CLEAR. -/
  | rowClear (row : Fin 64)
  /-- R540: ROW_KICK. -/
  | rowKick (row : Fin 64) (rid : Half)
  /-- R529: a write of ROW_BIND. -/
  | rowBindWrite (row : Fin 64) (val : Word) (rid : Half)
  /-- R543: a write of ROW_QUOTA of a row, or of STILE_RX (none). -/
  | quotaWrite (row : Option (Fin 64)) (val : Word) (rid : Half)
  /-- R539: the chain read of a tag completes with its bytes, or fails (none). -/
  | chainEntriesReceived (tag : Nat) (data : Option (List Byte))
  /-- R541: the Coulter's next turn. -/
  | coulterIssue
  /-- R542: the Press's next turn. -/
  | pressWrite
  /-- R550: the Harrow's next grant. -/
  | harrowGrant
  /-- R574: the read request of a fabric tag gets no response within REMOTE_READ_TIMEOUT. -/
  | remoteReadTimeout (tag : Nat)
  /-- R582: the start competition of the plots is decided. -/
  | programClaim
  /-- R586: a claimed plot loads; the answers to its reads of the container and of the arguments. -/
  | programLoad (plot : Fin 16) (c a : HostRead)
  /-- R597: the plot issues its next command, NOP. -/
  | nop (plot : Fin 16)
  /-- R597: the plot issues its next command, END. -/
  | endProgram (plot : Fin 16)
  /-- R597: the plot issues its next command, LOOP. -/
  | plotLoop (plot : Fin 16)
  /-- R597: the plot issues its next command, ENDLOOP. -/
  | endloop (plot : Fin 16)
  /-- R597: the plot issues its next command, SETI. -/
  | seti (plot : Fin 16)
  /-- R597: the plot issues its next command, ADDI. -/
  | addi (plot : Fin 16)
  /-- R597: the plot issues its next command, LDI. -/
  | ldi (plot : Fin 16)
  /-- R597: the plot issues its next command, FENCE. -/
  | fence (plot : Fin 16)
  /-- R597: the plot issues its next command, MARK_HALF. -/
  | markHalf (plot : Fin 16)
  /-- R597: the plot issues its next command, TRAP. -/
  | trap (plot : Fin 16)
  /-- R597: the plot issues its next command, SWAIT. -/
  | swait (plot : Fin 16)
  /-- R597: the plot issues its next command, SJOIN. -/
  | sjoin (plot : Fin 16)
  /-- R597: the plot issues its next command, STEST. -/
  | stest (plot : Fin 16)
  /-- R597: the plot issues its next command, SSIG. -/
  | ssig (plot : Fin 16)
  /-- R597: the plot issues its next command, SREMOTE. -/
  | sremote (plot : Fin 16)
  /-- R597: the plot issues its next command, LOAD. -/
  | plotLoad (plot : Fin 16) (h : HostRead)
  /-- R597: the plot issues its next command, STORE. -/
  | plotStore (plot : Fin 16)
  /-- R597: the plot issues its next command, TCOPY. -/
  | tcopy (plot : Fin 16)
  /-- R597: the plot issues its next command, FEED. -/
  | feed (plot : Fin 16)
  /-- R597: the plot issues its next command, UNFEED. -/
  | unfeed (plot : Fin 16)
  /-- R552: a row's paced transfer has written the feed request being served. -/
  | feedServed (row : Fin 64)
  /-- R597: the plot issues its next command, BLOAD. -/
  | bload (plot : Fin 16)
  /-- R597: the plot issues its next command, MATMUL. -/
  | matmul (plot : Fin 16)
  /-- R597: the plot issues its next command, ACC_CLEAR. -/
  | accClear (plot : Fin 16)
  /-- R597: the plot issues its next command, ACC_ADDW. -/
  | accAddw (plot : Fin 16)
  /-- R597: the plot issues its next command, ACC_STORE. -/
  | accStore (plot : Fin 16)
  /-- R597: the plot issues its next command, VBIN. -/
  | vbin (plot : Fin 16)
  /-- R597: the plot issues its next command, VFMA. -/
  | vfma (plot : Fin 16)
  /-- R597: the plot issues its next command, VUN. -/
  | vun (plot : Fin 16)
  /-- R597: the plot issues its next command, VCVT. -/
  | vcvt (plot : Fin 16)
  /-- R597: the plot issues its next command, VMULS. -/
  | vmuls (plot : Fin 16)
  /-- R597: the plot issues its next command, VRED. -/
  | vred (plot : Fin 16)
  /-- R597: the plot issues its next command, VADDW. -/
  | vaddw (plot : Fin 16)
  /-- R597: the plot issues its next command, VROUNDW. -/
  | vroundw (plot : Fin 16)
  /-- R610: the plot issues its next command, GLEAN, whose descriptor is of kind GATHER. -/
  | gather (plot : Fin 16) (h : HostRead)
  /-- R610: the plot issues its next command, GLEAN, whose descriptor is of kind SCATTER. -/
  | scatter (plot : Fin 16) (h : HostRead)
  /-- R610: the plot issues its next command, GLEAN, whose descriptor is of kind SCATTER_ADD. -/
  | scatterAdd (plot : Fin 16) (h : HostRead)
  /-- R610: the plot issues its next command, GLEAN, whose descriptor is of kind SCATTER_ADDW. -/
  | scatterAddw (plot : Fin 16) (h : HostRead)
  /-- R610: the plot issues its next command, GLEAN, whose descriptor is of kind CSR_EXPAND. -/
  | csrExpand (plot : Fin 16) (h : HostRead)
  /-- R590, R629: PLOT_CTRL is written with HALT set. -/
  | plotHalt (plot : Fin 16) (rid : Half)
  /-- R589: a plot's program has failed, or its next command is one that R596 ends it for. -/
  | programFailure (plot : Fin 16)
  /-- R621, R629: TILTH_SPLIT is written. -/
  | tilthSplitWrite (plot : Fin 16) (val : Word) (rid : Half)
  /-- R636: the PHY of a port has trained, at full width or at half width, with its worst margins (1/1000 UI, mV). -/
  | portTrained (p : Fin 13) (full : Bool) (timing voltage : Nat)
  /-- R637: an IDENT arrives: address, class and index of the port at the far end, plane and rack from an S64, DUPLICATE. -/
  | ident (p : Fin 13) (addr : Nat) (cls : PortClass) (idx : Nat) (s64 : Option (Nat × Nat)) (dup : Bool)
  /-- R636: a port loses its link. -/
  | portDown (p : Fin 13)
  /-- R636: 100 ms after a port went DOWN or REFUSED. -/
  | portRetry (p : Fin 13)
  /-- R635: the margins measured, by port: timing in 1/1000 UI, voltage in mV. -/
  | portMarginCheck (margins frames : List (Nat × Nat × Nat))
  /-- R639: the ports of the mask retrain once. -/
  | portRetrain (ports : BitVec 13)
  /-- R653: a STILE_WRITE arrives at a port. -/
  | stileWrite (p : Fin 13) (m : Msg)
  /-- R655: a WRITE_ACK arrives. -/
  | writeAck (p : Fin 13) (m : Msg)
  /-- R655: a READ_REQ arrives. -/
  | readReq (p : Fin 13) (m : Msg)
  /-- R647: a READ_RSP arrives. -/
  | readRsp (p : Fin 13) (m : Msg)
  /-- R400: a STAKE_ADD arrives. -/
  | remoteStakeAdd (p : Fin 13) (m : Msg)
  /-- R400: a STAKE_SET arrives. -/
  | remoteStakeSet (p : Fin 13) (m : Msg)
  /-- R655: a STAKE_READ arrives. -/
  | stakeRead (p : Fin 13) (m : Msg)
  /-- R647: a STAKE_ACK arrives. -/
  | stakeAck (p : Fin 13) (m : Msg)
  /-- R647: a STAKE_RSP arrives. -/
  | stakeRsp (p : Fin 13) (m : Msg)
  /-- R643: a message arrives whose DST is another package. -/
  | messageRelay (p : Fin 13) (m : Msg)
  /-- R646: a malformed message arrives. -/
  | protocolDiscard (p : Fin 13) (bytes : List Byte)
  /-- R666: a JOIN arrives. -/
  | sliceJoin (p : Fin 13) (m : Msg)
  /-- R665: a JOIN_ACK arrives at the manager. -/
  | joinAck (p : Fin 13) (m : Msg)
  /-- R668: a HEARTBEAT arrives. -/
  | heartbeat (p : Fin 13) (m : Msg)
  /-- R668: the 100 us heartbeat falls due. -/
  | heartbeatSend
  /-- R668: 330 us without a heartbeat: of the manager (none), or of a member at the manager. -/
  | heartbeatMissed (who : Option (BitVec 12))
  /-- R671: a FAULT_REPORT arrives. -/
  | faultReport (p : Fin 13) (m : Msg)
  /-- R673: a HALT arrives. -/
  | haltMessage (p : Fin 13) (m : Msg)
  /-- R671: a MEMBER_RESET arrives. -/
  | memberReset (p : Fin 13) (m : Msg)
  /-- R672: a POWER_LOSS arrives. -/
  | powerLoss (p : Fin 13) (m : Msg)
  /-- R665: MGR_CMD is written with 1. -/
  | mgrCmdForm
  /-- R671: MGR_CMD is written with 2. -/
  | mgrCmdDissolve
  /-- R665: 10 ms after a formation began. -/
  | formationTimeout
  /-- R675: the automatic restart, with what the manager found at each member. -/
  | sliceRestart (entries : List RestartEntry)
  /-- R667: SLICE_RELEASE is written with 1. -/
  | sliceRelease
  /-- R656: a write of a stile window: 0 STILE_CTRL, 1 STILE_BASE, 2 STILE_SIZE, 3 STILE_SENDERS. -/
  | stileCtrlWrite (w : Fin 4096) (reg : Fin 4) (val : Word) (rid : Half)
  /-- R656: the last accepted message of a cleared window completes. -/
  | stileDrainDone (w : Fin 4096)
  /-- R660: a rising edge of EPOCH at an instant (ns). -/
  | epochPulse (at_ : Nat)
  /-- R659: 1.1 ms after the previous recognised or expected pulse. -/
  | epochMissing
  /-- R661: a TIME_ANNOUNCE arrives. -/
  | timeAnnounce (p : Fin 13) (m : Msg)
  /-- R661: the time master announces the next epoch. -/
  | timeAnnounceSend
  /-- R661: 2 ms of silence of every higher-ranking module. -/
  | timeMasterTakeover
  /-- R663: a TIME_SYNC arrives. -/
  | timeSync (p : Fin 13) (m : Msg)
  /-- R663: a TIME_ECHO arrives. -/
  | timeEcho (p : Fin 13) (m : Msg)
  /-- R697: LOT_CMD CREATE. -/
  | lotCreate (c : LotCmd)
  /-- R706: LOT_CMD DELETE. -/
  | lotDelete (c : LotCmd)
  /-- R697: LOT_CMD DRAFT_OPEN. -/
  | draftOpen (c : LotCmd)
  /-- R698: LOT_CMD DRAFT_COMMIT. -/
  | draftCommit (c : LotCmd)
  /-- R697: LOT_CMD DRAFT_ABORT. -/
  | draftAbort (c : LotCmd)
  /-- R697: LOT_CMD REBIND. -/
  | rebind (c : LotCmd)
  /-- R706: every block that held the wrapped key of a deleted lot is erased. -/
  | keyDestroyDone (lot : Fin 16384)
  /-- R704: the replay completes, after the time it took. -/
  | ftlReplay (us : Word32)
  /-- R702: the checkpoint is rewritten. -/
  | checkpointRewrite
  /-- R709: scrub has read a band in full. -/
  | scrub (band : Fin 15616) (r : BandRead)
  /-- R709: a band that meets a refresh condition is relocated. -/
  | bandRefresh (band : Fin 15616)
  /-- R708: the least-worn band that holds data is relocated. -/
  | wearMove
  /-- R730: a program (or an erase) of a block fails. -/
  | programFailRetire (block : Fin 131072) (erase : Bool)
  /-- R694: a die stops answering. -/
  | seedDieFailed (die : Fin 64)
  /-- R710: a NAND sensor reaches the trip threshold. -/
  | seedThermOff
  /-- R710: both NAND sensors have read below 75 degrees for 10 s. -/
  | seedThermReturn
  /-- R711: the format completes. -/
  | ftlFormatDone
  /-- R713: the started SEED descriptor of a furrow is executed. -/
  | seedRead (n : Fin 4096) (seq : Nat) (r : NandResult)
  /-- R713: the started SEED descriptor of a furrow is executed. -/
  | seedProgram (n : Fin 4096) (seq : Nat) (r : NandResult)
  /-- R713: the started SEED descriptor of a furrow is executed. -/
  | seedErase (n : Fin 4096) (seq : Nat) (r : NandResult)
  /-- R713: the started SEED descriptor of a furrow is executed. -/
  | markBad (n : Fin 4096) (seq : Nat) (r : NandResult)
  /-- R715: 32 bytes are written to ROT_SUBMIT on a route. -/
  | rotSubmit (route : Route) (data : List Byte)
  /-- R719: ROT_CMD GO_SOW. -/
  | goSow (ticket : Word32)
  /-- R719: ROT_CMD GO_REAP. -/
  | goReap (ticket : Word32)
  /-- R716: ROT_CMD CANCEL. -/
  | cancel (ticket : Word32)
  /-- R719: the engine starts the next sow. -/
  | sowStart
  /-- R717: the sow that runs completes. -/
  | sowComplete
  /-- R719: the 10 us check. -/
  | reapStart
  /-- R718: the reap that runs completes. -/
  | reapComplete
  /-- R719: a SOWN entry passes its TRAIN_LIMIT. -/
  | trainLimitExpiry (ticket : Word32)
  /-- R722: ROT_POOL_RESET is written. -/
  | rotPoolReset (key : Word32)
  /-- R720: ROT_POOL is written. -/
  | rotPoolWrite (val : Word32)
  /-- R741: the collector registers an event: the oldest on the sideband ring, or one that a die's detector sends. -/
  | faultEvent (e : Option EvArg)
  /-- R739, R740: a Tick sample of a die's EVENT pair or FATAL pair: levels of P and N. -/
  | railSample (die : Fin 19) (fatalPair p n : Bool)
  /-- R741: a die's FATAL pair is asserted and no source number has come for 2 µs. -/
  | fatalUnspec (die : Fin 19)
  /-- R755: the record writer at a Tick edge. -/
  | recordWriter
  /-- R747: an escalation window closes. -/
  | escWindowClose (source : Fin 2048)
  /-- R748: a source has been quiet for QUIET_MS. -/
  | sourceQuiet (source : Fin 2048)
  /-- R759: the ring writer. -/
  | hostRingWrite
  /-- R760: a write of FC_RING_HEAD. -/
  | fcRingHeadWrite (val : Word32) (rid : Half)
  /-- R758: a write of FC_RING_CTRL. -/
  | fcRingEnable (val : Word32) (rid : Half)
  /-- R764: a write of FC_POP. -/
  | fcPop (val : Word) (rid : Half)
  /-- R765: a read of RECORD_NEXT. -/
  | recordNext (route : Route)
  /-- R750: FC_REACT with a job halt. -/
  | fcReactJobHalt (source : Fin 2048) (rid : Half)
  /-- R750: FC_REACT with a plot fence. -/
  | fcReactPlotFence (source : Fin 2048) (rid : Half)
  /-- R750: FC_REACT with a die reset. -/
  | fcReactDieReset (source : Fin 2048) (rid : Half)
  /-- R750: FC_REACT with a freeze. -/
  | fcReactFreeze (source : Fin 2048) (rid : Half)
  /-- R752: FC_REACT with a package fence. -/
  | fcReactPackageFence (source : Fin 2048) (rid : Half)
  /-- R743: 1 is written to STICKY; `again` is an event of the source registered in the same Tick cycle. -/
  | stickyClear (source : Fin 2048) (again : Option EvArg)
  /-- R745: a write of a source's CFG, in its register, or through the dictionary by a route. -/
  | fcSrcCfgWrite (source : Fin 2048) (val : Word) (route : Option Route) (rid : Half)
  /-- R767: the Headland writes a fatal record into the fatal log. -/
  | fatalLogWrite
  /-- R768: a write of FORCE_ARM. -/
  | forceArm (route : Route) (key : Word32)
  /-- R768: the arming expires. -/
  | forceArmExpiry
  /-- R769: a write of FORCE_EVENT.k, k from 1 to 32. -/
  | forceEvent (route : Route) (k : Fin 32) (val : Word)
  /-- R769: a write of FORCE_LEVEL.k. -/
  | forceLevel (route : Route) (k : Fin 32) (val : Word)
  /-- R770: a write of FORCE_RAIL, or of RAIL_LEVEL. -/
  | forceRail (route : Route) (level : Bool) (val : Word)
  /-- R464, R465, R785: a write of SPLIT_WALK. -/
  | splitWalk (route : Route) (val : Byte)
  /-- R785, R520: a write of SPLIT_FAULT. -/
  | splitFault (route : Route) (val : Byte)
  /-- R501, R506, R785: a write of SPLIT_MIG. -/
  | splitMig (route : Route) (val : Byte)
  /-- R711, R785: a write of SPLIT_FTL. -/
  | splitFtl (route : Route) (val : Byte)
  /-- R719, R785: a write of SPLIT_ROTATION. -/
  | splitRotation (route : Route) (val : Byte)
  /-- R750, R785: a write of SPLIT_CLASSIFY. -/
  | splitClassify (route : Route) (val : Byte)
  /-- R239, R785: a write of SPLIT_RETRAIN. -/
  | splitRetrain (route : Route) (val : Byte)
  /-- R90, R785: a write of SPLIT_CAP. -/
  | splitCap (route : Route) (val : Byte)
  /-- R408, R785: a write of SPLIT_STAKE_TO. -/
  | splitStakeTo (route : Route) (val : Byte)
  /-- R789: the period of POWER; whether the cause has held for its time (1 s, or 10 s of headroom), and whether
  PEAK_EVENTS has risen by more than 10 in the last 1 s. -/
  | policyPower (held peaks : Bool)
  /-- R789: the period of MIGRATION; promotions and evictions in the last 16 epochs, and whether the frames used stayed
  below half the pool and the hot list empty throughout them. -/
  | policyMigration (promotions evictions : Nat) (idle : Bool)
  /-- R789: the period of SEEDBANK, 60 s. -/
  | policySeedbank
  /-- R789, R239: the period of LINK; FEC corrections and replays of the host link in the 1 s window, and the ports whose
  margin has stayed at 1.5 times the limits of R635 for 10 min. -/
  | policyLink (fec replays : Nat) (restored : BitVec 13)
  /-- R789: the period of FAULT_THRESHOLD; for a source, its events of the last 24 h and of the 7 days before. -/
  | policyFaultThreshold (rates : List (Nat × Nat × Nat))
  /-- R789: ROTATION; by how much a sow has started later than the predicted end of the current training, and whether
  WAIT_POOL has been set for 10 s. -/
  | policyRotation (late : Option Word32) (waited : Bool)
  /-- R789: FALLOW; whether the conditions of R70 have held for IDLE_S, or WAKE_AFTER_S has passed in Fallow. -/
  | policyFallow (due : Bool)
  /-- R790: a write of the MODE of a policy. -/
  | policyModeWrite (policy : Fin 7) (route : Route) (val : Byte)
  /-- R287: the quarantine of a tag ends. -/
  | tagQuarantineEnd (tag : Nat)
  /-- R77: The next waiting plot's regulator ramp starts, 110 µs after the previous ramp, in ascending plot number. -/
  | plotRampStart
  /-- R278: the partner returns posted and non-posted credits. -/
  | flowControlUpdate (posted nonPosted : Nat)
  /-- R649: a receiver returns credits of a port and virtual channel, in units of 64 bytes. -/
  | fabricCreditReturn (p : Fin 13) (vc : Fin 3) (n : Nat)
  /-- R58: the link leaves L1 or its substates on a request of either end. -/
  | aspmL1Exit
  /-- R273: the link enters Recovery at the host's or the standard's demand. -/
  | linkRecovery
  /-- R748: the condition of a level source ends. -/
  | levelConditionEnd (source : Fin 2048)
  /-- R190: no PLCA beacon is seen; or, in fallback, one is seen again. -/
  | plcaFallback (beacon : Bool)
  deriving DecidableEq, Repr

end Sys2Proof
end

