-- ==== Sys2Proof/Decode.lean ====
section
/-! DEFINITION. Commands from table words.  spec/opcode_table.json gives no row any bits: commands arrive as events
with operands, not as words. -/

namespace Sys2Proof

/-- The command a word spells by the table's bits: none, since no row has bits. -/
def decodeTableWord (_nbits _w : Nat) : Option Instr := none

end Sys2Proof
end

