-- ==== Sys2Proof/Config.lean ====
section
/-! DEFINITION. What an implementation fixes and the values the spec leaves open. Every constant here is opaque:
no proof can see its value, so a statement about it holds whatever it is (log entries 2 and 3). -/

namespace Sys2Proof.Config

/-- A fresh free value for each count of State.free: session nonces (R199), undefined results. -/
opaque freeValue : Nat → Nat

/-- What a byte of NAND that nothing has programmed since its erase, or a spare byte that the Z20's own code fills, reads
as in host-assisted mode (R713): array address and State.free. -/
opaque nandFree : Nat → Nat → BitVec 8

/-- The result of a vector function where the enclosure of Machine/Transcend.lean is too wide to round; never
needed for the formats of R598 as far as is known (log entry 4). Arguments: function code, type code, operand. -/
opaque vectorResult : Nat → Nat → Nat → Nat

/-- Package serial number, MAC address, manufacturing date, carrier revision and boot ROM version: factory values
of OD 0x1000 (R230). -/
opaque serial : Nat
opaque macAddr : Nat
opaque mfgDate : Nat
opaque carrierRev : Nat
opaque bootRomVersion : Nat
/-- CRC-32 of the calibration set as the factory stored it (R116), and the item of 0x2860 to 0x2867 that holds the offset of
a sensor, as its distance from 0x2860: R101 gives the items to die groups without naming them. -/
opaque calCrc : Nat
opaque offsetItem : Nat → Nat
/-- DIE of a record of a UCIe source that no die sent (R754, log entry 165), by its source. -/
opaque ucieDie : Nat → Nat
/-- The field key of the factory (R203): 32 bytes. -/
opaque fieldKey : Nat
/-- Spares at shipment and factory bad blocks (R731). -/
opaque spareInitial : Nat
opaque factoryBad : Nat

end Sys2Proof.Config
end

