-- ==== Sys2Proof/Machine/State.lean ====
section
/-! DEFINITION. The state of the Z20 block as plain data, its stops, and the state right after reset.

Sparse tables (furrows, stakes, rows, plots, object values, registers, memory) are lists of (key, value) pairs with
strictly rising keys that list no value equal to the table's default; Machine/Ops.lean reads and writes them. -/

namespace Sys2Proof.Machine

/-! ### Events and records of the fault collector (chapter 15) -/

/-- Classes of an event (R744), from low to high. -/
inductive Cls where
  | corrected | contained | fatal
  deriving DecidableEq, Repr

/-- What a die sends with an event (R741, R754): access kind, master, failing address, and for a UCIe source the
die that sent it. `port` and `cause` go into the payload of a FAULT_REPORT (R670). -/
structure Cap where
  access : Nat := 0
  masterKind : Nat := 0
  master : Nat := 0
  addr : Option Nat := none
  die : Option Nat := none
  deriving DecidableEq, Repr

/-- An event on its way to the collector over the sideband ring (R741), or injected by force (R769). -/
structure Event where
  source : Nat
  cap : Cap := {}
  forced : Bool := false
  deriving DecidableEq, Repr

/-- A 32-byte record (R754). `seq` is none until the record is written into the internal queue. -/
structure Record where
  source : Nat
  cls : Cls
  escalated : Bool := false
  forced : Bool := false
  rail : Bool := false
  rep : Nat := 0
  reaction : Nat := 0
  cap : Cap := {}
  time : Nat := 0
  timeAligned : Bool := false
  lost : Nat := 0
  firstError : Bool := false
  ovf : Bool := false
  live : Bool := false
  hostReact : Bool := false
  die : Nat := 0
  seq : Option Nat := none
  deriving DecidableEq, Repr

/-! ### The object dictionary, the field network and the mirror (chapter 4) -/

/-- One write or check entry (R197): index, subindex, type code, data. -/
structure WEntry where
  idx : Nat
  sub : Nat
  ty : Nat
  data : List Byte
  deriving DecidableEq, Repr

/-- One response entry: index, subindex, type, status (R204), data. -/
structure REntry where
  idx : Nat
  sub : Nat
  ty : Nat
  status : Nat
  data : List Byte := []
  deriving DecidableEq, Repr

/-- A description entry (R197). -/
structure DEntry where
  idx : Nat
  sub : Nat
  ty : Nat
  acc : Nat
  roles : Nat
  persist : Nat
  status : Nat
  len : Nat
  deriving DecidableEq, Repr

/-- The answer to a request on a route: overall status, transaction identifier, entries, descriptions, and the
nonce or serial number that HELLO, SESSION_RESET and STALE_NONCE carry. -/
structure Answer where
  route : Route
  status : Nat
  seq : Nat := 0
  txn : Nat := 0
  entries : List REntry := []
  descs : List DEntry := []
  nonce : Option Nat := none
  node : Nat := 0
  serial : Nat := 0
  deriving DecidableEq, Repr

/-- An open transaction (R179): identifier, staged entries in order (true: a check), time of the last operation. -/
structure Txn where
  id : Nat
  staged : List (Bool × WEntry) := []
  last : Nat := 0
  deriving DecidableEq, Repr

/-- PERSIST_STATUS (R231). -/
inductive CommitState where
  | idle | pending | busy | done | failed
  deriving DecidableEq, Repr

/-- A persistence bank (R173): sequence number, CRC state, committed values of the P objects, the fatal log among them (newest
first, at most 16) and the bad-block table (rising). -/
structure Bank where
  seq : Nat := 0
  crcOk : Bool := true
  vals : List (Nat × Nat) := []
  log : List Record := []
  bad : List Nat := []
  deriving DecidableEq, Repr

/-- A notification record (R188). -/
structure Notify where
  idx : Nat
  sub : Nat
  ty : Nat
  lost : Nat
  timeValid : Bool
  truncated : Bool
  domainOff : Bool
  number : Nat
  time : Nat
  value : Nat
  deriving DecidableEq, Repr

/-- What the Headland keeps for a subscription: value last notified, value at the last evaluation, time of the
last record, lost count since it, whether it is paused in DOMAIN_OFF, whether a change awaits its interval. -/
structure Sub where
  lastVal : Option Nat := none
  seen : Option Nat := none
  lastAt : Option Nat := none
  lost : Nat := 0
  paused : Bool := false
  due : Bool := false
  deriving DecidableEq, Repr

/-- A request of the field network (R194): source MAC address and node, operation, nonce, SEQ, TXN, body. -/
structure FieldReq where
  mac : Nat
  node : Nat
  op : Nat
  nonce : Nat
  seq : Nat
  txn : Nat
  body : List Byte
  deriving DecidableEq, Repr

/-- A NOTIFY frame awaiting its acknowledgement (R202): transmit SEQ, record, frame, resends made, time last sent. -/
structure Unacked where
  seq : Nat
  note : Notify
  resends : Nat := 0
  at_ : Nat := 0
  deriving DecidableEq, Repr

/-- A mirror slot (R233): SLOT_CTRL fields, state, status, response length, DONE_COUNT, response. -/
structure MSlot where
  op : Nat := 0
  txn : Nat := 0
  bodyLen : Nat := 0
  state : Nat := 0                       -- 0 IDLE, 1 BUSY, 2 DONE
  status : Nat := 0
  rspLen : Nat := 0
  doneCount : Nat := 0
  deriving DecidableEq, Repr

/-- The dictionary server. Object values stand in State.od. -/
structure Dict where
  banks : Bank × Bank := ({}, {})
  bankB : Bool := false                  -- the second bank is in use
  commit : CommitState := .idle
  own : Bool := false                    -- the pending commit is the Headland's own (R177)
  again : Bool := false                  -- a further commit is pending behind a BUSY one (R176)
  againOwn : Bool := false
  snapshot : List (Nat × Nat) := []
  lastStart : Option Nat := none
  txns : List (Route × Txn) := []
  nextTxn : Nat := 1
  locks : List (Route × Nat × Nat) := [] -- route, groups held, end time
  subs : List (Nat × Sub) := []
  answers : List Answer := []            -- answers given, oldest first
  mgrSent : List Notify := []            -- notifications sent to the manager
  mgrQueue : List Msg := []              -- manager requests accepted and not yet executed, oldest first (R209)
  lastRoute : Route := .M                -- route whose waiting operation was taken last (R211)
  deriving DecidableEq, Repr

/-- The Headland Object Protocol (R190-R203). -/
structure Hop where
  nonce : Nat := 0
  key : Option Nat := none               -- the field key in use; none: the factory's
  staged : Option Nat := none
  high : Nat := 0                        -- H; 0 when none was accepted
  window : Nat := 0                      -- bit j: H - j accepted
  waiting : List FieldReq := []          -- accepted requests not yet executed, oldest first (R201)
  kept : List (Nat × List Byte) := []    -- the last 8 responses by SEQ, newest first
  txSeq : Nat := 1
  unacked : List Unacked := []
  frames : List (List Byte) := []        -- frames sent, oldest first
  second : Nat := 0                      -- second the rate counts refer to
  rates : List (Nat × Nat) := []         -- requests executed this second per source MAC
  hellos : Nat := 0                      -- HELLOs served this second
  plca : Nat := 2                        -- PLCA_STATUS
  deriving DecidableEq, Repr

/-- The dictionary mirror (R205-R208, R232, R233). -/
structure Mirror where
  slots : List (Nat × MSlot) := []
  head : Nat := 0
  tail : Nat := 0
  lost : Nat := 0
  lostOvf : Bool := false
  requests : Nat := 0
  reqOvf : Bool := false
  order : List Nat := []                 -- BUSY slots in order of GO
  deriving DecidableEq, Repr

/-- Firmware update (R219). -/
inductive FwStatus where
  | idle | erasing | receiving | verifying | verified | failed | activating
  deriving DecidableEq, Repr

/-- State of the firmware download. -/
structure FwUpdate where
  status : FwStatus := .idle
  owner : Option Route := none
  length : Nat := 0
  received : Nat := 0
  lastOp : Nat := 0
  version : Nat := 0                     -- version word of the image received
  deriving DecidableEq, Repr

/-! ### Power, clocks, thermal, calibration, resets and boot (chapters 2, 3 and 17) -/

/-- A CXL.mem request (R508): line, data of a write, poison, whether the host may hold
the line after it. -/
structure CxlReq where
  line : Nat
  write : Bool
  data : List Byte := []
  poison : Bool := false
  keeps : Bool := true
  deriving DecidableEq, Repr

/-- A request held by the GLINK, or the first one refused in Fallow (R72, R73): of a window, or a CXL.mem request (`cxl`). -/
structure Held where
  win : Window
  write : Bool
  r : MemReq
  since : Nat
  cxl : Option CxlReq := none
  deriving DecidableEq, Repr

/-- Where the package stands between off and its power states (R69, R70, R74). -/
inductive PMode where
  | off | starting | fallow | entering | waking | up
  deriving DecidableEq, Repr

/-- Power, limits, sensors and clocks. -/
structure Power where
  mode : PMode := .off
  ovHold : Option Nat := none            -- held off after an overvoltage detected then (R63)
  brownAt : Option Nat := none           -- when the latest brown-out was detected (R64, R110)
  modrst : Bool := false                 -- MODRST# recognised asserted
  perst : Bool := true                   -- PERST# recognised asserted; its pin is pulled to ground (R809)
  powerAt : Option Nat := none           -- when the firmware began to switch on the domains of this start-up (R135)
  startAt : Nat := 0                     -- start condition of the latest start-up
  bulkAt : Nat := 0                      -- when the bulk capacitance is charged after the latest power-on (R62)
  brownBefore : Bool := false            -- a brown-out ended the last run (R118)
  tripBefore : Bool := false
  aon : Bool := false                    -- AON is on
  wakeAt : Nat := 0                      -- time of the wake event being served
  wakeLatch : Bool := false              -- a wake event waits for the firmware (R157)
  entryAbandoned : Bool := false         -- a wake event arrived during entry to Fallow (R104)
  hold : List Held := []                 -- requests held for a wake, in order of arrival (R73)
  refused : Nat := 0                     -- window requests refused in Fallow, saturating (R72)
  refusedFirst : Option Held := none
  deferredTimer : Bool := false          -- the wake timer of FALLOW waits for a wake (R72)
  fallowAt : Nat := 0                    -- when Fallow was entered
  lastRamp : Option Nat := none          -- start of the latest plot ramp (R77)
  capLevel : Nat := 0                    -- throttle level the capping loop chose
  peakLevel : Nat := 0                   -- level the comparator requires
  peakDuration : Bool := false
  shed : Bool := false                   -- SHED# recognised asserted
  shedLevel : Nat := 0                   -- 16 while asserted, falling on the release ramp (R91)
  shedFrom : Nat := 0                    -- when the release ramp began, and the level it leads to
  shedTo : Nat := 0
  orphan : Bool := false                 -- the Gate holds the 600 W floor (R60)
  thermCap : Nat := 2500                 -- cap set by a thermal throttle, W (R94), and when it last moved
  capStepAt : Option Nat := none
  capHost : Bool := false                -- power capping is in host-assisted mode since the latest summation (R785)
  sensorFloor : Bool := false            -- floor throttle until reset (R96)
  plotHeldOff : Nat := 0                 -- plots whose sensors have all failed (R96)
  refresh2x : Nat := 0                   -- stacks refreshing at twice the rate
  nandPause : Bool := false              -- new programs and erases pause (R94)
  opticalOff : Nat := 0                  -- optical engines switched off by their trip (R93)
  temps : List (Nat × Nat) := []         -- readings after offset as I16, by sensor, unlisted 0
  tripped : Bool := false                -- THERMTRIP# asserted, trip latched
  tripClass : Nat := 0
  refValid : Bool := false               -- rack reference valid (R81)
  refEver : Bool := false                -- valid at some time since power-on (R85)
  refSince : Nat := 0
  tickRef : Bool := false                -- Tick runs from the rack reference
  holdover : Nat := 0                    -- PLL_LOCK [23:20]
  hfast : Bool := false                  -- the Headland fast clock runs, and when it last had work (R86)
  hfastAt : Nat := 0
  scrub : List (Nat × Nat) := []         -- ranges [lo, hi) of scrub-pending acres (R125)
  pins : Nat := 0x7FFF                   -- live strap levels; a pin left open reads 1 (R143)
  hot : Nat := 0                         -- sensors that reached their throttle threshold and have not cooled (R94)
  energyFrac : Nat := 0                  -- energy below 1 mJ, in units of 10 nJ
  sums : List Nat := []                  -- the last ten sums of package power, newest first
  silentDue : Bool := false              -- HEADLAND_SILENT is raised when GCORE is next on (R109)
  deriving DecidableEq, Repr

/-- The calibration set (R97-R103). Values and origins in use are object values. -/
structure Calib where
  unlockF : Option Nat := none           -- end of the field route's unlock
  unlockH : Option Nat := none
  hold : Option Nat := none              -- key writes are refused until then
  stored : List (Nat × Nat × Nat) := []  -- item, origin and value in the NOR; unlisted: FACTORY, 0
  crcOk : Bool := true
  crc : Option Nat := none               -- CRC-32 of the set as stored; none: as the factory wrote it
  busy : Option Nat := none              -- time of the commit in progress
  resetWaits : Bool := false             -- a software Headland reset waits for the commit (R131)
  deriving DecidableEq, Repr

/-- A copy of boot control (R139). -/
structure BootCtl where
  seq : Nat := 0
  active : Nat := 0
  pending : Option Nat := none
  trials : Nat := 0
  bad : Nat := 0                         -- bit 0: image A marked bad, bit 1: image B
  crcOk : Bool := true
  deriving DecidableEq, Repr

/-- Headland, firmware boot, NOR images (R128-R131, R139-R142). -/
structure Headland where
  running : Bool := false                -- firmware runs
  silentSince : Nat := 0                 -- when it last answered, or went silent (R60)
  since : Nat := 0                       -- when the firmware started
  image : Nat := 0                       -- running image
  bootState : Nat := 0                   -- BOOT_STATE
  bootA : BootCtl := { seq := 1 }
  bootB : BootCtl := {}
  full : Nat := 1                        -- bit 0: slot A holds an image, bit 1: slot B
  genuine : Nat := 1                     -- slots whose image passes R140's checks
  verA : Nat := 0
  verB : Nat := 0
  romFails : Nat := 0                    -- boots in a row that did not jump to an image (R158)
  fallback : Bool := false               -- FW_FALLBACK since the last image activation (R141)
  deriving DecidableEq, Repr


/-! ### The host link and the transaction layer (chapters 5 and 6) -/

/-- The kinds of TLP and message the Z20 sends to its host. -/
inductive TlpKind where
  | memRead | memWrite | cas | cplData | cplUr | cplCa | assertInta | deassertInta | errMsg (severity : Nat)
  | ltr | atsRequest | pageRequest | atsInvalidateCpl | prgLast
  deriving DecidableEq, Repr

/-- Who a TLP or an outstanding request belongs to. -/
inductive Owner where
  | none
  | furrowRing (furrow index count : Nat) -- ring read of `count` entries from `index` on (R351)
  | shadow (furrow : Nat)                -- head write-back (R341)
  | record (furrow seq : Nat)            -- completion record (R361)
  | stamp (furrow seq : Nat)             -- stamp or half-stamp (R360)
  | row (row id off : Nat)               -- data of transfer `id` of a row at stream offset `off`
  | chain (row addr : Nat)               -- chain read of a row (R539)
  | rowStamp (row : Nat)
  | gleaner (plot : Nat)                 -- host write of a plot's program
  | seed (furrow seq : Nat)              -- data of a SEED descriptor
  | walk (id : Nat)                      -- walker read, CAS or ATS request of a walk slot
  | deadRing (furrow : Nat)              -- ring read of a furrow that has left service: what it brings is discarded (R365)
  | deadRow (row : Nat)                  -- read of a transfer that has left its row
  | fcBody (seq : Nat) | fcValid (seq : Nat)   -- collector host ring (R759)
  | faultRec (index : Nat)               -- page-fault ring record (R488)
  | cmdStamp (ticket : Nat)              -- invalidation stamp (R453)
  | pageReq (prg : Nat)
  | dcc (line : Nat)
  deriving DecidableEq, Repr

/-- One TLP of the Z20: kind, address, payload, requested length, tag, PASID prefix, Relaxed Ordering, EP. -/
structure Tlp where
  kind : TlpKind
  addr : Nat := 0
  data : List Byte := []
  len : Nat := 0
  tag : Nat := 0
  pasid : Option Nat := none
  priv : Bool := false                   -- Privileged Mode Requested, of an ATS Translation Request (R443)
  xlated : Bool := false                 -- Address Type: true is 0b10, Translated (R423)
  ro : Bool := false
  ep : Bool := false
  va : Option Nat := none                -- the address that `addr` was translated from, of a write of an engine (R461)
  owner : Owner := .none
  deriving DecidableEq, Repr

/-- Why a tag is out of use (R287): its request timed out, or it was outstanding at an FLR or at entry to Frozen. -/
inductive Quarantine where
  | no | timedOut | abandoned
  deriving DecidableEq, Repr

/-- A tag in use: its number, the request's owner, address and length, the bytes already received, quarantine. -/
structure TagUse where
  tag : Nat
  owner : Owner
  addr : Nat
  len : Nat
  got : List (Byte × Bool) := []         -- with the marks of poisoned completions
  at_ : Nat := 0                         -- when it was issued, or its quarantine began
  va : Nat := 0                          -- of a row's read: the address it was translated from
  stale : Bool := false                  -- its translation was dropped by an invalidation (R461)
  quar : Quarantine := .no
  deriving DecidableEq, Repr

/-- LTSSM states as OD 0x3000.06 numbers them (R275). -/
inductive Ltssm where
  | detect | polling | configuration | l0 | recovery | l1 | l11 | l12 | disabled | hotReset | loopback
  deriving DecidableEq, Repr

/-- PowerState of the function (R262). -/
inductive DState where
  | d0 | d3hot | leaving (back : Bool)   -- `back`: D3hot was written again during the move to D0
  deriving DecidableEq, Repr

/-- The host link (R234-R241, R258-R273). -/
structure Link where
  ltssm : Ltssm := .detect
  up : Bool := false
  speed : Nat := 0
  width : Nat := 0
  flit : Bool := false
  protocol : Nat := 0                    -- OD 0x3000.05
  l0pWidth : Nat := 0
  stewardRetrain : Bool := false         -- a steward retraining is in progress
  retrainFrom : Nat := 0                 -- no steward retraining starts before this time (R239, R273)
  ltrReported : Nat := 0
  widthLimit : Nat := 16                 -- present limit for training: R238
  rxPosted : Nat × Nat := (0, 0)         -- credits the Z20 advertised: posted and non-posted, header and data (R284);
  rxNonPosted : Nat × Nat := (0, 0)      --   those for completions are infinite
  scaled : Bool := false                 -- Scaled Flow Control was negotiated
  lowLatency : Bool := false             -- latency-optimized 256B flits were negotiated with CXL (R240)
  deriving DecidableEq, Repr

/-- The transaction layer and the host face (R277-R333). -/
structure HostFace where
  queue : List Tlp := []                 -- admitted, not yet sent, in order (R278, R297)
  blocked : List Tlp := []               -- producers that found the posted queue full (R278)
  wire : List Tlp := []                  -- TLPs sent, oldest first
  pCredit : Nat := 0
  npCredit : Nat := 0
  tags : List TagUse := []
  power : DState := .d0
  frozen : Bool := false
  frozenSinceFlr : Bool := false         -- the Frozen state was entered after the Initiate FLR write (R327)
  inFlr : Bool := false
  attnAsserted : Bool := false
  attnHoldoff : Option Nat := none       -- when the holdoff ends (R321)
  poison : List (Nat × Bool) := []       -- marked HBM granules, by granule number (R309)
  deriving DecidableEq, Repr

/-! ### Furrows and stakes (chapters 7 and 8) -/

/-- FCTX_STATUS.STATE (R363). -/
inductive FState where
  | disabled | enabled | draining | error | disabling
  deriving DecidableEq, Repr

/-- The part of a furrow that is not a register of its context: state, indices (R339), flags and errors. -/
structure Furrow where
  state : FState := .disabled
  head : Nat := 0
  tail : Nat := 0
  seq : Nat := 0
  fetching : Nat := 0                    -- entries in flight of ring reads
  drainTail : Nat := 0
  early : List (Nat × Nat × List Byte) := []  -- entries that have arrived and are not accepted: index, count, bytes
  gaps : List (Nat × Nat) := []          -- entries whose ring read failed, to be read again: index, count (R352)
  tailRejected : Bool := false
  inlineRejected : Bool := false
  errCode : Nat := 0
  errSeq : Nat := 0
  shadowQueued : Bool := false           -- a head write-back is in the posted queue (R341)
  shadowDue : Bool := false              -- HEAD has advanced since the last one was formed
  deriving DecidableEq, Repr

/-- Descriptor states held in the furrow store (R347). -/
inductive DescState where
  | unsown | sown | waiting | started
  deriving DecidableEq, Repr

/-- A resolved target of a translation (R422). -/
inductive Target where
  | host (addr : Nat) | hbm (addr : Nat) | tilth (plot off : Nat)
  deriving DecidableEq, Repr

/-- Source spaces of a Plat lookup. -/
inductive Space where
  | host | devlocal
  deriving DecidableEq, Repr

/-- A translation held in a store slot or with an engine (R456): the range (false: the source or first, true: the destination
or second), the space of which invalidations drop it (none: a tilth address or a bypass furrow's), virtual address, offset from the range's
start, length, target. -/
structure AheadX where
  dst : Bool
  space : Option Space
  va : Nat
  off : Nat
  len : Nat
  at_ : Target
  deriving DecidableEq, Repr

/-- A failure that run-ahead found (R457): whether for a write, code, address. -/
structure AheadFail where
  wr : Bool
  code : Nat
  va : Nat
  deriving DecidableEq, Repr

/-- One slot of the furrow store (R354). -/
structure Slot where
  furrow : Nat
  seq : Nat
  d : Desc
  inl : Bool := false
  recalled : Bool := false
  state : DescState := .unsown
  wait : Option Nat := none              -- wait entry held
  waitFull : Bool := false               -- its wait found no free entry (R402)
  waitMet : Bool := false
  atStart : Option Nat := none           -- time since which it stands ready at the start point (R358)
  halfDone : Bool := false
  halfDenied : Bool := false             -- its half signal was refused by the group
  endMask : Nat := 0                     -- PROGRAM: plots on which the program has ended, and the first failure,
  endCode : Nat := 0                     --   flags and poison of those plots, and the plots that executed MARK_HALF
  endFlags : Nat := 0
  endPoison : Bool := false
  endAddr : Nat := 0
  halfMask : Nat := 0
  stampAt : Option Target := none        -- translated stamp and record addresses
  recordAt : Option Target := none
  tailFail : Option (Nat × Nat) := none  -- a STARTED one's stamp or record address failed to translate again: code, address
  harrow : List Nat := []                -- Harrow slot contents copied at sowing (R534)
  tile : Nat := 16                       -- TILE_LOG2 and RUNAHEAD_TILES when it was sown (R456)
  tiles : Nat := 4
  pasid : Nat := 0
  ahead : List AheadX := []              -- translations of its ranges that it holds (R456)
  fails : List AheadFail := []           -- failures that run-ahead found since it was sown (R457)
  waitAt : Option Nat := none            -- the byte of its buffer at which it was last counted as waiting (R457)
  stampBad : Bool := false               -- its stamp address did not translate
  recordBad : Bool := false
  doomed : Bool := false                 -- it named a plot that has been reset since (R133)
  result : Option (Nat × Nat × Nat) := none  -- engine finished: code, engine result, fault address
  deriving DecidableEq, Repr

/-- An inline descriptor in staging (R353): accepted once HEAD has reached `after`. -/
structure Staged where
  furrow : Nat
  after : Nat
  d : Desc
  deriving DecidableEq, Repr

/-- Who waits on a stake (R402, R420: KIND and WHO). -/
inductive Waiter where
  | desc (furrow seq : Nat) | armed (furrow seq : Nat) | plot (plot slot : Nat) | chain (row : Nat)
  deriving DecidableEq, Repr

/-- One wait entry in use: handle, stake, condition (true: equal), value, waiter, deadline, and whether it
stands on the timeout queue. -/
structure Wait where
  handle : Nat
  stake : Nat
  equal : Bool
  value : Nat
  who : Waiter
  deadline : Option Nat
  queued : Bool := false
  deriving DecidableEq, Repr

/-- The furrow store and the stake home. -/
structure Gcore where
  furrows : List (Nat × Furrow) := []
  store : List Slot := []
  staging : List Staged := []
  lastFetch : Nat := 0                   -- furrow served last by the fetcher
  lastStart : List (Nat × Nat) := []     -- per engine, the furrow served last by the competition
  stakes : List (Nat × Nat) := []        -- values, unlisted 0
  waits : List Wait := []                -- in the order they were placed
  waitGen : List (Nat × Nat) := []       -- use counts of wait entries
  met : List Wait := []                  -- met, not yet released
  toQueue : List Nat := []               -- timeout queue: handles
  wrapValid : Bool := false              -- STAKE_WRAP_INFO.VALID, and its other fields: source, stake, who (R391)
  wrapInfo : Nat × Nat × Nat := (0, 0, 0)
  deriving DecidableEq, Repr

/-! ### Plat, page faults, migration and the coherent windows (chapters 9 and 10) -/

/-- The right an access needs (R431); the order is the order of strength of R484. -/
inductive Access where
  | read | write | atomic
  deriving DecidableEq, Repr

/-- A translation stream (R441); a row's transfer has one for its source side and one for its destination side. -/
inductive Stream where
  | sow (furrow seq : Nat) | row (row id : Nat) (dst : Bool) | gleaner (plot : Nat) | tram (die : Nat) | remote (die : Nat)
  | mig (evict : Bool)                   -- the pages that a promotion, or an eviction, translates (R500, R503)
  deriving DecidableEq, Repr

/-- Where a cached translation came from (R455). -/
inductive XSource where
  | table | ats | acre | parcel
  deriving DecidableEq, Repr

/-- One Plat cache entry (R455): `va` to `va + size - 1` of the space under the PASID maps to `base` on. -/
structure Xlat where
  pasid : Nat
  space : Space
  va : Nat
  size : Nat
  base : Target
  r : Bool
  w : Bool
  a : Bool
  source : XSource
  dirty : Bool := true
  user : Bool := true                    -- a request that is not privileged may use it
  deriving DecidableEq, Repr

/-- What a walk slot is doing. -/
inductive WalkKind where
  | table | ats | acre | cas
  deriving DecidableEq, Repr

/-- A walk cache entry (R436): context slot, level it was read at, the virtual addresses it covers, the next table,
the level that refused writing, and whether every level so far grants unprivileged use. -/
structure WalkEnt where
  ctx : Nat
  level : Nat
  va : Nat
  span : Nat
  table : Nat
  noWrite : Option Nat
  userOk : Bool
  deriving DecidableEq, Repr

/-- A walk slot in use (R441): its stream, context slot, address and access, the level being read and the
table address, the level whose entry refused writing, the CAS tries made, the entry value the CAS compares with, staleness (R459). -/
structure Walk where
  id : Nat
  kind : WalkKind
  stream : Stream
  ctx : Nat
  pasid : Nat
  priv : Bool
  space : Space
  va : Nat
  access : Access
  level : Nat := 0
  table : Nat := 0
  noWrite : Option Nat := none
  userOk : Bool := true
  cas : Nat := 0
  entry : Nat := 0
  issued : Bool := true
  stale : Bool := false
  drops : List (Nat × Nat) := []         -- ranges dropped since it started: it installs nothing there (R459)
  deriving DecidableEq, Repr

/-- A parcel (R448); `overlay` parcels made by migration carry `z20` (R500). -/
structure Parcel where
  pasid : Nat := 0
  space : Space := .host
  start : Nat := 0
  length : Nat := 0
  target : Target := .host 0
  r : Bool := false
  w : Bool := false
  a : Bool := false
  overlay : Bool := false
  z20 : Bool := false
  dirty : List Nat := []                 -- dirty 4 KiB pages of a Z20-made overlay (R502)
  valid : Bool := false
  deriving DecidableEq, Repr

/-- What follows the completion of an invalidation of the Z20's own: of a promotion's region, of its overlay's installation
(R500), of a sow (R717), of a reap's unmapping and of its restored rights (R718), of the unmapping of acres that a CANCEL frees
(R59). -/
inductive Own where
  | no | free (ticket : Nat) | region | overlay | sow (ticket : Nat) | reap (ticket : Nat) | keep (ticket : Nat)
  deriving DecidableEq, Repr

/-- A command queued at Plat's executor (R450-R453, R463). -/
structure PlatCmd where
  ticket : Option Nat                    -- host ticket; none for Headland, ATS and internal commands
  kind : Nat
  space : Nat
  stampEn : Bool := false
  parcel : Nat := 0
  pasid : Nat := 0
  target : Nat := 0
  plot : Nat := 0
  rights : Nat := 0
  overlay : Bool := false
  rsv : Bool := false
  start : Nat := 0
  length : Nat := 0
  targetAddr : Nat := 0
  stampAddr : Nat := 0
  ats : Option Nat := none               -- ITag of an ATS Invalidate Request
  headland : Bool := false
  modeSwitch : Bool := false             -- the INVAL_ALL of a translation-mode switch (R465)
  own : Own := .no                       -- what a command of the Z20's own goes on with at its completion
  allPasids : Bool := false
  deriving DecidableEq, Repr

/-- Plat (R422-R480). PLAT_CTRL, templates, contexts and CMD_W words are control-window registers. -/
structure Plat where
  mode : Bool := false                   -- true: host-assisted
  switching : Option Bool := none        -- the mode being switched to
  cache : List Xlat := []
  walkCache : List WalkEnt := []
  walks : List Walk := []
  slotWait : List Walk := []             -- misses that wait for a walk slot, in order of arrival (R441)
  parcels : List (Nat × Parcel) := []
  queue : List PlatCmd := []
  atsHeld : List PlatCmd := []           -- ATS Invalidate Requests past the 32, in the posted receive buffer (R463)
  ownHeld : List PlatCmd := []           -- commands of the rotation engine past the 8 of its queue (R453)
  executing : Option PlatCmd := none
  dropUntil : Nat := 0                   -- when the drop phase of the executing command ends, and the recall phase (R459)
  recallUntil : Nat := 0
  acks : Nat := 0                        -- CMD_ACK_PENDING [20:0]
  retiring : Option Nat := none
  ticketNext : Nat := 0
  ticketDone : Nat := 0
  lastResult : Nat := 0
  rejected : Bool := false
  deriving DecidableEq, Repr

/-- A fault entry (R484). -/
structure FaultEntry where
  handle : Nat
  gen : Nat
  pasid : Nat
  priv : Bool
  space : Space
  page : Nat
  access : Access
  reason : Nat
  level : Nat
  streams : List (Stream × Nat)          -- the streams that wait, each with the address of its lookup
  source : Nat × Nat := (0, 0)           -- SOURCE and SEQ of its record (R488)
  pri : Bool
  recorded : Bool := false
  resolved : Bool := false
  autoRetried : Bool := false
  batch : Nat := 0
  createdAt : Nat := 0
  prg : Option Nat := none
  deriving DecidableEq, Repr

/-- A stall fault that found no free entry (R485). -/
structure StalledFault where
  stream : Stream
  pasid : Nat
  priv : Bool
  space : Space
  va : Nat
  access : Access
  reason : Nat
  level : Nat
  pri : Bool
  deriving DecidableEq, Repr

/-- Page faults, PRI and migration (R481-R507). -/
structure Faults where
  entries : List FaultEntry := []
  gens : List (Nat × Nat) := []
  waiting : List StalledFault := []      -- stall faults without an entry, in order (R485)
  index : Nat := 0                       -- next ring index to write
  tail : Nat := 0
  batch : Nat := 0
  batchOpen : Option (Nat × Nat) := none -- records in the open batch, time it opened
  full : Bool := false
  mode : Bool := false                   -- true: host-assisted resolution
  prgs : List (Nat × Nat × List Nat) := []  -- PRG index, PASID, handles
  priResponseFailure : Bool := false
  priUnexpected : Bool := false
  deriving DecidableEq, Repr

/-- An access counter (R497). -/
structure AccCounter where
  pasid : Nat
  region : Nat
  count : Nat
  hot : Bool := false                    -- placed on the list since it last fell below half the threshold
  marked : Bool := false                 -- hot, waiting for room on the list
  deriving DecidableEq, Repr

/-- A promotion in progress (R500). -/
structure Promotion where
  pasid : Nat
  region : Nat
  frame : Nat
  pages : List Target := []              -- where its pages lie, from the first on, as far as they are translated
  copied : Bool := false                 -- the frame holds the region; its overlay is being installed
  deriving DecidableEq, Repr

/-- Migration (R497-R507). MIG_POOL and MIG_WINDOW are registers. -/
structure Migration where
  hostMode : Bool := true                -- host-assisted after reset (R528)
  counters : List (Nat × AccCounter) := []    -- by the index of ACC_ENTRY
  hot : List (Nat × Nat) := []           -- PASID and region, oldest first, at most 256
  copying : Option Promotion := none
  evicting : Option Nat := none          -- parcel of the overlay whose eviction runs
  fails : List (Bool × Nat) := []        -- pages that did not translate; true: for the eviction
  banned : List (Nat × Nat × Nat) := []  -- PASID, region, epoch until which it is not promoted
  skipped : List (Nat × Nat) := []       -- candidates skipped for want of a frame, listed again at the next epoch
  epoch : Nat := 0
  rowOwner : Nat := 0                    -- owner ROW[MIG_ROW] had before (R529)
  migRow : Nat := 63                     -- row in use by the migration engine
  deriving DecidableEq, Repr

/-- An answer on CXL.mem or CXL.cache: line address, data of a read, poison, whether no decoder covers the address. -/
structure CxlRsp where
  line : Nat
  data : List Byte := []
  poison : Bool := false
  uncovered : Bool := false
  deriving DecidableEq, Repr

/-- A back-invalidate snoop (R509): first line, lines of its block form (1, 2 or 4), BISnpInv, lines not yet answered. -/
structure Snoop where
  line : Nat
  n : Nat
  inv : Bool
  left : List Nat
  deriving DecidableEq, Repr

/-- The coherent windows (R508-R516). -/
structure Coherent where
  snoopFilter : List (Nat × Bool) := []  -- lines of coherent windows the host may hold; true: maybe modified
  waiting : List CxlReq := []            -- host requests that wait for room in the snoop filter
  outstanding : List Snoop := []         -- snoops in flight, at most 256
  changing : List Nat := []              -- windows whose VALID is being cleared
  dcc : List (Nat × Bool × List Byte) := []  -- device coherent cache lines; true: modified
  rsp : List CxlRsp := []                -- answers to CXL.mem requests and host snoops, oldest first
  bisnp : List (Nat × Nat × Bool) := []  -- snoops sent, oldest first: line, lines, BISnpInv
  hdmSize : Nat := 0
  scrubbing : List Nat := []             -- lines snooped because a scrub replaces them: their data is dropped (R512)
  stores : List (Owner × Nat × List Byte) := []  -- stamps and records for HBM that wait for a snoop, oldest first (R509)
  deriving DecidableEq, Repr

/-! ### Drill (chapter 11) -/

/-- ROW_STATUS.STATE (R559). -/
inductive RowState where
  | idle | active | chainEnd | parked | stopping | error
  deriving DecidableEq, Repr

/-- Where a transfer of a row came from. -/
inductive XferFrom where
  | furrow (furrow seq : Nat) | direct | chain (addr : Nat)
  deriving DecidableEq, Repr

/-- A piece of stream read into the Hopper (R541): offset, length, and its bytes with their poison marks once they have
arrived. -/
structure Piece where
  off : Nat
  len : Nat
  data : List (Byte × Bool) := []
  arrived : Bool := false
  deriving DecidableEq, Repr

/-- A physical extent of a range (R554): stream offset, first location, bytes. -/
structure Extent where
  off : Nat
  at_ : Target
  len : Nat
  deriving DecidableEq, Repr

/-- A transfer in flight on a row (R530, R545-R558). -/
structure Xfer where
  id : Nat := 0
  src : XferFrom
  d : Desc
  harrow : List Nat := []
  pasid : Nat := 0
  priv : Bool := false
  bypass : Bool := false
  begun : Bool := false                  -- checked, translated and started
  readPos : Nat := 0                     -- stream bytes for which reads were issued
  readAuth : Nat := 0                    -- stream offset up to which the Coulter may read, and the Press write; LENGTH
  pressAuth : Nat := 0                   --   for a transfer that is not paced
  reqStart : Nat := 0                    -- stream offset at which the feed request being served began (R552)
  reqRead : Nat := 0                     -- and how far the stream was read then (R553)
  pieces : List Piece := []              -- read, not yet through the Harrow or pressed, in stream order
  ready : List (Byte × Bool) := []       -- bytes through the Harrow, next to be pressed
  pressPos : Nat := 0                    -- stream bytes written
  poisoned : Bool := false
  halfDone : Bool := false
  halfDenied : Bool := false
  stampBad : Bool := false               -- the stamp address of an owned row's transfer did not translate
  die : Nat := 0                         -- Tramline die that its stile writes leave by (R488)
  prio : Nat := 4                        -- priority of its furrow when it started (R380); 4 on an owned row
  waitPlaced : Bool := false
  waitFull : Bool := false               -- its wait found no free entry (R402)
  waitMet : Bool := true
  tile : Nat := 16                       -- TILE_LOG2 and RUNAHEAD_TILES as they stood when it was sown (R456)
  tiles : Nat := 4
  ahead : List AheadX := []              -- translations that run-ahead holds with the engine (R456)
  fails : List AheadFail := []           -- failures found ahead of the Coulter and of the Press (R457)
  srcWait : Option Nat := none           -- the byte at which it was last counted as waiting for run-ahead
  dstWait : Option Nat := none
  endAt : Option (Nat × Nat) := none     -- the source ends here: code and fault address once its bytes are written
  finished : Option (Nat × Nat) := none  -- code, fault address
  stampAt : Option Target := none
  ext : List Extent := []                -- physical source, and how far it is known (R554)
  extPos : Nat := 0
  dext : List Extent := []
  dextPos : Nat := 0
  judged : Bool := false                 -- the overlap was judged
  memmove : Bool := false                -- counted in MEMMOVES
  deriving DecidableEq, Repr

/-- The part of a row that is not a register of its block. -/
structure Row where
  state : RowState := .idle
  before : RowState := .idle             -- the state a PARKED row left
  kick : Bool := false
  hopWait : Bool := false                -- its next read found no Hopper space (R795)
  done : Bool := false
  code : Nat := 0
  xfers : List Xfer := []
  delivered : Nat := 0
  pos : Option Nat := none               -- ROW_POS
  chainNext : Option Nat := none         -- next chain address to read; none: no chain or end mark read
  chainBusy : Bool := false              -- a chain read is outstanding
  hasChain : Bool := false
  linkAt : Option Nat := none            -- address of the end-of-chain mark accepted
  nextId : Nat := 0                      -- identifier of the next transfer
  bytes : Nat := 0
  ovf : Bool := false
  deriving DecidableEq, Repr

/-- A feed of a plot (R551): outstanding requests oldest first (length, index register that receives the count,
burst started). -/
structure Feed where
  reqs : List (Nat × Nat × Bool) := []
  bound : Option (Nat × Nat) := none     -- row and transfer bound
  deriving DecidableEq, Repr

/-- The Drill. -/
structure Drill where
  rows : List (Nat × Row) := []
  lastCoulter : Nat := 63
  lastPress : Nat := 63
  lastHarrow : Nat := 63
  feeds : List (Nat × Feed) := []        -- by plot * 4 + channel
  deriving DecidableEq, Repr

/-! ### Plots (chapter 12) -/

/-- PLOT_STATUS.STATE (R629). -/
inductive PState where
  | gated | waking | idle | loading | scrubbing | running | halting | fenced
  deriving DecidableEq, Repr

/-- A view of a container (R584). -/
structure View where
  space : Nat
  arg : Nat
  x : Nat
  base : Nat
  ystride : Nat
  y : Nat
  deriving DecidableEq, Repr

/-- A resident program (R586). -/
structure Program where
  id : Nat
  pasid : Nat
  crc : Nat
  views : List View
  cmds : List Nat                        -- each command as its 128 bits
  place : Nat := 0                       -- where it lies in the program store, and its bytes there
  size : Nat := 0
  deriving DecidableEq, Repr

/-- A cell of a bed or a wide partial (R602, R604): FIX as its 120-bit two's complement, and five flags. -/
structure Wide where
  fix : BitVec 120 := 0
  inexact : Bool := false
  ovf : Bool := false
  nan : Bool := false
  pinf : Bool := false
  ninf : Bool := false
  deriving DecidableEq, Repr

/-- A stationary tile (R601): type code, bytes, column-major, and the columns that poisoned granules reach. -/
structure Tile where
  ty : Nat := 0
  data : List Byte := []
  trans : Bool := false
  bad : List Nat := []
  deriving DecidableEq, Repr

/-- A bed (R578): two stationary buffers, MODE, EW and the accumulator cells (row * 256 + column). An unlisted cell is zero,
or, from a program start to the next ACC_CLEAR, a free value drawn from `base` on; `bad` lists the cells computed from
poisoned granules. -/
structure Bed where
  buf0 : Tile := {}
  buf1 : Tile := {}
  mode : Nat := 0
  ew : Int := 56
  base : Option Nat := none
  cells : List (Nat × Wide) := []
  bad : List (Nat × Bool) := []
  deriving DecidableEq, Repr

/-- Per-program arithmetic flags in the layout of PLOT_ARITH (R588, R629). -/
structure Arith where
  inexact : Bool := false
  ovf : Bool := false
  nan : Bool := false
  intSat : Bool := false
  fp8Sat : Bool := false
  oob : Bool := false
  trunc : Bool := false
  deriving DecidableEq, Repr

/-- A plot: compute power, sequencer, beds, tilth. -/
structure Plot where
  state : PState := .gated
  rampQueued : Bool := false             -- waits for its regulator ramp (R77)
  ramping : Bool := false
  off : Bool := false                    -- fenced, and its compute is off
  resetting : Bool := false              -- a plot reset is in progress (R133)
  idleSince : Nat := 0
  lastCode : Nat := 0
  trapCode : Nat := 0
  furrow : Nat := 0
  seq : Nat := 0
  pc : Nat := 0
  programId : Nat := 0
  owner : Option Nat := none             -- TILTH_OWNER
  arith : Arith := {}                    -- PLOT_ARITH
  flags : Arith := {}                    -- per-program flags
  poisoned : Bool := false
  macs : Nat := 0
  macsOvf : Bool := false
  stalledStake : Bool := false
  stalledFeed : Bool := false
  feedWait : Option Nat := none          -- channel whose FEED with WAIT stalls issue
  idx : List (Nat × Nat) := []           -- I[1]..I[15], unlisted 0
  slots : List (Nat × Nat) := []         -- wait slots: slot number and wait handle, busy ones
  loops : List (Nat × Nat) := []         -- innermost first: first body command, iterations left
  mask : Nat := 0
  pasid : Nat := 0
  priv : Bool := false
  abort : Bool := false
  bypass : Bool := false
  args : List Nat := []
  halfDone : Bool := false
  ended : Option Nat := none             -- code the program ended with, until the descriptor completes
  endAddr : Nat := 0                     -- the address whose access failed
  gbuf : List Xlat := []                 -- the gleaner's translation buffer, at most 1,024 entries (R461)
  waitAt : Option Nat := none            -- the address at which its program was last counted as waiting (R457)
  prog : Option Program := none
  resident : List Program := []          -- most recently started first
  beds : List Bed := [{}, {}, {}, {}]
  tilth : List Host.Cell := []
  poison : List (Nat × Bool) := []
  gcache : List (Nat × Nat × Nat × List Byte) := []  -- view base, row, PASID, bytes
  deriving DecidableEq, Repr

/-! ### The fault collector (chapter 15) -/

/-- The state the collector holds for one source (R742-R748). `cond` and `forcedCond` are a level source's real
and forced condition; `window` is the time an escalation window opened and its count; `quietFrom` is the time the
quiet time began with whether a recovery is due at its end; `lastAt` is the Tick of the last record written. -/
structure Src where
  sticky : Bool := false
  live : Bool := false
  escalated : Bool := false
  react : Nat := 0                       -- code of the latest reaction taken
  events : Nat := 0
  lost : Nat := 0
  recoveries : Nat := 0
  eventsOvf : Bool := false
  lostOvf : Bool := false
  recoveriesOvf : Bool := false
  first : Option Record := none
  cond : Bool := false
  forcedCond : Bool := false
  window : Option (Nat × Nat) := none
  quietFrom : Option (Nat × Bool) := none
  pending : Bool := false
  lastAt : Option Nat := none
  lostSince : Nat := 0
  deriving DecidableEq, Repr

/-- A staging entry (R755): the record in the making, whether it is eligible at once, and whether it belongs to
its source's pending latch (an FC_REACT record does not). -/
structure StagingEntry where
  r : Record
  now : Bool := false
  latch : Bool := true
  deriving DecidableEq, Repr

/-- The collector (R734-R767). -/
structure Collector where
  ring : List Event := []                -- events sent over the sideband ring, not yet registered
  srcs : List (Nat × Src) := []
  staging : List StagingEntry := []
  queue : List Record := []
  seq : Nat := 0
  ovfNext : Bool := false                -- the next record carries OVF (R757)
  queueOvf : Bool := false
  stagingFull : Bool := false
  fatalLost : Bool := false
  stagingArmed : Bool := true            -- FC_STAGING_FULL may be raised again (R756)
  queueArmed : Bool := true
  lost : Nat := 0
  dropped : Nat := 0
  lostOvf : Bool := false
  droppedOvf : Bool := false
  mode : Bool := false                   -- true: host-assisted
  ringEnable : Bool := false
  head : Nat := 0
  tail : Nat := 0
  inFlight : List Nat := []              -- SEQs of records whose writes are in the posted queue
  unacked : List Nat := []               -- sources whose record has left but is not acknowledged (R762)
  railAgreed : Nat := 0                  -- bit 2d + p: pair p of die d agreed at its last sample
  railOn : List (Nat × Nat) := []        -- dies whose domain is on, with the time of their first sample
  railFault : Nat := 0                   -- RAIL_STATE
  fatalHigh : Nat := 0                   -- bit d: the FATAL pair of die d was asserted at its last sample
  fatalSeen : List (Nat × Nat) := []     -- dies whose FATAL pair was sampled asserted, time, no source yet
  due : List Record := []                -- fatal records that the next Tick edge writes (R755)
  fatalLog : List Record := []           -- newest first, at most 16, persistent (R767)
  fatalPending : List Record := []       -- fatal records the Headland has yet to write there
  armedUntil : Option Nat := none        -- forcing armed (R768)
  popped : List Record := []             -- records handed out by RECORD_NEXT and FC_POP, oldest first
  packageFenced : Bool := false          -- a package fence holds (R752)
  deriving DecidableEq, Repr

/-! ### Tramlines, Rack Time and slices (chapter 13) -/

/-- Port states of R636. -/
inductive PortState where
  | off | training | ident | up | half | refused | down
  deriving DecidableEq, Repr

/-- A fabric port (R631-R639, R687). `timing` is 1/1000 UI and `voltage` mV of the worst lane; credits are per
virtual channel, in units of 64 bytes. -/
structure Port where
  state : PortState := .off
  lanes : Nat := 0
  peer : Nat := 0
  peerPort : Nat := 0
  reason : Nat := 0
  timing : Nat := 0
  voltage : Nat := 0
  credits : List Nat := [0, 0, 0]
  returned : List Nat := [0, 0, 0]       -- credits given back to the sender, by virtual channel (R649)
  retries : Nat := 0
  retryAt : Nat := 0
  deriving DecidableEq, Repr

/-- Who sent an outstanding fabric request. -/
inductive FabOwner where
  | row (row id off len : Nat) | plotSignal (plot : Nat) | none
  deriving DecidableEq, Repr

/-- An outstanding fabric request of this package: tag, kind, destination, owner, deadline. -/
structure FabReq where
  tag : Nat
  kind : MsgKind
  dst : Nat
  owner : FabOwner
  deadline : Option Nat := none
  port : Nat := 0                        -- port it left by
  deriving DecidableEq, Repr

/-- A stake operation held under R644: its message, its owner, and the tags of the earlier writes to its destination. -/
structure OrderedOp where
  m : Msg
  owner : FabOwner
  after : List Nat
  deriving DecidableEq, Repr

/-- Fabric: ports, messages sent, messages held for credit or for ORDERED, outstanding requests. -/
structure Fabric where
  ports : List (Nat × Port) := []
  sent : List (Nat × Msg) := []          -- port and message, oldest first
  held : List (Nat × Msg) := []          -- waiting for credit, by port, in order
  ordered : List OrderedOp := []         -- stake operations held behind unacknowledged writes (R644)
  waiting : List (Nat × Msg) := []       -- accepted messages that wait for a plot's wake or a snoop (R654): port, message
  owed : List (Nat × Nat) := []          -- VC0 credits withheld while the share of the Hopper is exhausted: port, units
  reqs : List FabReq := []
  nextTag : Nat := 1
  turn : Nat := 0                        -- rack port taken last by a spread message (R644)
  draining : List Nat := []              -- stile windows with DRAINING set (R656)
  dieReset : List Nat := []              -- Tramline dies in reset
  lateTags : List Nat := []              -- reads that timed out (R574)
  deriving DecidableEq, Repr

/-- RT_STATE (R687). -/
inductive RtState where
  | unset | aligned | freeRun | holdover
  deriving DecidableEq, Repr

/-- Rack Time and the time master (R658-R663). `base` and `baseAt` give Rack Time as base + the time since. -/
structure RackTime where
  state : RtState := .unset
  base : Nat := 0
  baseAt : Nat := 0
  slew : Int := 0                        -- error at `baseAt` that is slewed out (R660), in units
  running : Bool := false                -- the first pulse has been recognised
  epoch : Nat := 0
  lastSeen : Option Nat := none          -- last recognised pulse
  lastPulse : Option Nat := none         -- last recognised or expected pulse
  missing : Nat := 0                     -- pulses missing in a row
  announced : Option (Nat × Nat) := none -- number announced for the next pulse, and the rank of the sender
  lastHigher : Option Nat := none        -- time of the last announcement of a higher-ranking module
  hadAnnounce : Bool := false
  master : Bool := false
  lastError : Int := 0                   -- ps
  lastOffset : List (Nat × Int) := []    -- measured offset per optical port (R663), in units of Rack Time
  portsUpAt : Option Nat := none         -- since when rack ports are up
  deriving DecidableEq, Repr

/-- SLICE_STATE (R667). -/
inductive SliceState where
  | none | active | halted
  deriving DecidableEq, Repr

/-- Member side of a slice (R664-R673). -/
structure Slice where
  state : SliceState := .none
  id : Nat := 0
  index : Nat := 0
  count : Nat := 0
  mgrAddr : Nat := 0xFFFF
  haltCause : Nat := 0
  haltSource : Nat := 0
  barrier : Nat := 0
  lastHeartbeat : Nat := 0
  routes : List (Nat × Nat) := []        -- TRAM_ROUTE words, unlisted 0
  optical : List (Nat × Nat × Nat) := [] -- optical ports named by tramlines of the slice: port, peer, peer port
  joining : Option Nat := none           -- a JOIN_ACK that waits for the firmware: slice id
  deriving DecidableEq, Repr

/-- MGR_STATE (R687). -/
inductive MgrState where
  | idle | forming | active | halted | restarting
  deriving DecidableEq, Repr

/-- An entry of the manager's list of tramlines (R665): both ends, address and optical port. -/
structure Tramline where
  a : Nat
  pa : Nat
  b : Nat
  pb : Nat
  deriving DecidableEq, Repr

/-- Manager side of a slice (R665-R675). -/
structure Manager where
  state : MgrState := .idle
  members : List Nat := []
  spares : List Nat := []
  tramlines : List Tramline := []
  result : Nat := 0
  acks : List (Nat × Nat × Nat) := []    -- address, status, generation
  heartbeats : List (Nat × Nat) := []    -- address, time of the last one
  faultLog : List (Nat × Msg) := []      -- Rack Time of receipt and the report, oldest first
  excluded : List Nat := []              -- member addresses; 0x8000 + k for tramline k of the list
  restartGen : Nat := 0
  restarting : Bool := false             -- the formation in progress was made by a restart
  startedAt : Nat := 0
  cause : Nat := 0                       -- cause of the latest halt, the address blamed, and the port of a link
  blamed : Nat := 0
  blamedPort : Option Nat := none
  lost : List Nat := []                  -- tramlines of the list that have failed
  old : List Nat := []                   -- members of the halted slice during a restart
  orders : List (Nat × Nat) := []        -- members whose answers to the writes of R831 are out, and how many
  deriving DecidableEq, Repr


/-! ### The seedbank and rotation (chapter 14) -/

/-- FTL_STATE (R731). -/
inductive FtlState where
  | ready | replaying | formatting | readOnly | off | host
  deriving DecidableEq, Repr

/-- LOT_STATE (R696). -/
inductive LotState where
  | free | empty | ready | draft | rotating | deleting
  deriving DecidableEq, Repr

/-- A committed generation (R698): number, base, bytes of its sectors (decrypted), damaged sectors. -/
structure Gen where
  num : Nat
  base : Option Nat
  data : List Host.Cell := []
  damaged : List Nat := []
  deriving DecidableEq, Repr

/-- A draft (R697, R700). -/
structure Draft where
  data : List Host.Cell := []
  tainted : Bool := false
  programs : Nat := 0                    -- sectors programmed
  base : Option Nat := none
  prior : LotState := .empty             -- state before DRAFT_OPEN
  deriving DecidableEq, Repr

/-- A lot (R695). `key` numbers the lot key drawn at CREATE; 0 is none. -/
structure Lot where
  state : LotState := .free
  pasid : Nat := 0
  size : Nat := 0
  dlvBase : Nat := 0
  rights : Nat := 0
  key : Nat := 0
  gens : List Gen := []                  -- newest first, at most two
  draft : Option Draft := none
  deriving DecidableEq, Repr

/-- A band that holds data (R689, R707): its lot and generation (none while it belongs to a draft), the cycle count
of its blocks, the time of its last full read or program, reads since it was programmed, effective age in hours. -/
structure Band where
  lot : Nat
  gen : Option Nat
  cycles : Nat := 0
  readAt : Nat := 0
  reads : Nat := 0
  age : Nat := 0
  step : Nat := 0                        -- what the latest full read found: deepest retry step, most bits corrected,
  bits : Nat := 0                        --   whether a sector was rebuilt from parity
  rebuilt : Bool := false
  deriving DecidableEq, Repr

/-- An erase block in use: cycle count, next unprogrammed page group where the controller knows it (R713). -/
structure Block where
  pe : Nat := 0
  next : Option Nat := none
  aborted : Bool := false                -- its erase was aborted (R65)
  rebuiltAt : Option Nat := none         -- when a sector of it was last rebuilt from parity (R694)
  deriving DecidableEq, Repr

/-- The seedbank controller and the NAND array. -/
structure Seed where
  state : FtlState := .off
  lots : List (Nat × Lot) := []
  nextKey : Nat := 1
  bands : List (Nat × Band) := []        -- bands that hold data, by band number
  freeCycles : List (Nat × Nat) := []    -- cycle counts of free bands, unlisted `formats`
  blocks : List (Nat × Block) := []      -- by 2048 * (8 * channel + die) + block
  bad : List Nat := []                   -- bad-block table, rising
  raw : List Host.Cell := []             -- page contents written in host-assisted mode, by byte address
  records : Nat := 0                     -- journal records since the checkpoint
  checkpointAt : Nat := 0
  wrapped : List (Nat × Nat × Nat) := [] -- deleted lots whose wrapped key is still in NAND: lot, key, time
  spareUsed : Nat := 0
  lostBands : Nat := 0
  coolSince : Option Nat := none         -- since when both NAND sensors read below 75 degrees
  unformatted : Bool := false            -- a format of the array is due or runs (R711)
  formats : Nat := 0                     -- formats of the array: a cycle of every block each (R711)
  waiting : Option (Nat × LotCmd) := none -- lot command that waits for programs to be possible: OP, fields (R697, R710)
  order : List (Nat × Nat) := []         -- started SEED descriptors in the order in which they started (R713)
  deriving DecidableEq, Repr

/-- ENTRY_STATE (R716). -/
inductive RotState where
  | queued | sowing | sown | reaping | done | failed | abandoned
  deriving DecidableEq, Repr

/-- A rotation entry (R715, R716). `step` is the step of R717 or R718 in progress. -/
structure RotEntry where
  ticket : Nat
  raw : List Byte
  lot : Nat
  flags : Nat
  gen : Nat
  sownStake : Nat
  reapedStake : Nat
  doneStake : Nat
  doneValue : Nat
  trainLimit : Nat
  state : RotState := .queued
  code : Nat := 0
  genSown : Nat := 0xFFFFFFFF
  genCommitted : Nat := 0xFFFFFFFF
  held : Bool := false                   -- ACRES_HELD
  limitPassed : Bool := false
  tSown : Nat := 0
  tDone : Nat := 0
  sownAt : Nat := 0
  acres : List Nat := []                 -- pool acres it owns, in order
  step : Nat := 0
  want : Nat := 0                        -- ordered and waiting: 1 GO_SOW, 2 GO_REAP, 3 CANCEL
  deriving DecidableEq, Repr

/-- The rotation engine (R715-R722). -/
structure Rotor where
  entries : List RotEntry := []          -- in ticket order
  past : List RotEntry := []             -- entries that left the queue, newest first, at most 64
  next : Nat := 1
  waitPool : Bool := false
  quarantined : Bool := false
  freeing : List (Nat × List Nat) := []  -- acres that an ended entry leaves, until they are unmapped: its ticket (R59)
  submitted : List (Route × Nat) := []   -- ROT_SUBMIT_STATUS per route
  rotSel : List (Route × Nat) := []
  lotSel : List (Route × Nat) := []
  deriving DecidableEq, Repr

/-! ### The steward (chapter 16) -/

/-- A decision-log entry (R793). -/
structure Decision where
  seq : Nat
  policy : Nat
  outcome : Nat
  reason : Nat
  timeValid : Bool
  route : Nat := 0
  idx : Nat
  sub : Nat
  old : Nat
  new : Nat
  measure : Int
  time : Nat
  deriving DecidableEq, Repr

/-- What the steward keeps: objects its policies have moved with their base values, overrides in force (object and
end), latest advice per object (value and time), last retrainings and widths per port, and whether the wake timer
of FALLOW has run. -/
structure Steward where
  log : List Decision := []              -- newest first, at most 1,024
  base : List (Nat × Nat) := []
  holds : List (Nat × Nat) := []
  advice : List (Nat × Nat × Nat) := []
  portAt : List (Nat × Nat) := []        -- last retraining of a fabric port
  portTries : List (Nat × List Nat) := [] -- times of retrainings that left a port marginal
  deriving DecidableEq, Repr



/-- The state of the block.  `od` holds the value of every dictionary object that is not a view of another field
(index * 256 + subindex, unlisted: the Default column), 64-bit counters among them; `reg` holds the control-window
registers that software writes (by offset in the control window, unlisted: the After reset column); `cfg` the
configuration space dwords (by offset). -/
structure State where
  now : Nat                              -- ns since manufacture's first power-on (the model's own; log entry 5)
  free : Nat                             -- free values drawn so far (the model's own; log entry 2)
  od : List (Nat × Nat)
  reg : List (Nat × Nat)
  cfg : List (Nat × Nat)
  latch : List (Nat × Nat)               -- latched high halves of 64-bit counters, by register offset (R215)
  link : Link
  host : HostFace
  g : Gcore
  plat : Plat
  flt : Faults
  mig : Migration
  coh : Coherent
  drill : Drill
  plots : List (Nat × Plot)
  hbm : List Host.Cell
  fc : Collector
  dict : Dict
  hop : Hop
  mir : Mirror
  fw : FwUpdate
  fab : Fabric
  time : RackTime
  slice : Slice
  mgr : Manager
  pwr : Power
  cal : Calib
  hl : Headland
  seed : Seed
  rot : Rotor
  stw : Steward
  pending : List Instr                   -- the commands waiting, first in first out
  deriving DecidableEq, Repr

/-- Faults: none of the Z20's errors stops the block; each is an effect on State. -/
inductive Fault where
  /-- Raised by no command: kept so that the type is inhabited. Safe. -/
  | none
  deriving DecidableEq, Repr

/-- Refusals. -/
inductive Refusal where
  /-- Raised by exec for a command without a meaning. Safe: the run ends. -/
  | notModelled (mnemonic : String)
  deriving DecidableEq, Repr

/-- What a command answers. -/
abbrev Out := Host.Outcome State Fault Refusal

/-- The block right after reset: no input power, PERST# and every table at its After-reset values, nothing pending. -/
def State.reset : State where
  now := 0
  free := 0
  od := []
  reg := []
  cfg := []
  latch := []
  link := {}
  host := {}
  g := {}
  plat := {}
  flt := {}
  mig := {}
  coh := {}
  drill := {}
  plots := []
  hbm := []
  fc := {}
  dict := {}
  hop := {}
  mir := {}
  fw := {}
  fab := {}
  time := {}
  slice := {}
  mgr := {}
  pwr := {}
  cal := {}
  hl := {}
  seed := {}
  rot := {}
  stw := {}
  pending := []

end Sys2Proof.Machine
end

