-- ==== Sys2Proof/Machine/Objects.lean ====
section
/-! DEFINITION. The object dictionary's table: every object of spec/02 to spec/17's tables (R115, R116, R161, R162,
R230, R231, R275, R334, R385, R421, R480, R528, R577, R630, R687, R731-R733, R782, R783, R801-R803, R828-R830),
with its type, access code, roles, default and persistence, and the range of values its Meaning column allows.
An object is named by index * 256 + subindex. -/

namespace Sys2Proof.Machine

/-- Types of a subindex (R165). -/
inductive ObjTy where
  | u8 | u16 | u32 | u64 | u128 | i8 | i16 | i32 | i64 | str (n : Nat) | oct (n : Nat) | dom
  deriving DecidableEq, Repr

/-- Access codes (R6, R167). -/
inductive Acc where
  | ro | rw | wo | w1c | w1s | rc | rws | rwp | const
  deriving DecidableEq, Repr

/-- Values a write may carry; a bit outside a mask is a reserved bit (R4, R169). -/
inductive Range where
  | any | le (n : Nat) | btw (lo hi : Nat) | oneOf (l : List Nat) | mask (m : Nat)
  deriving DecidableEq, Repr

/-- A row of the table: index, first and last subindex, type, access, roles (bit 0 F, bit 1 H, bit 2 M),
default, persistence (0 none, 1 P, 2 C), range. -/
structure ObjRow where
  idx : Nat
  lo : Nat
  hi : Nat
  ty : ObjTy
  acc : Acc
  roles : Nat
  dflt : Nat
  persist : Nat
  range : Range
  deriving DecidableEq, Repr

/-- Size of a value in bytes (R165); 0 for a DOM. -/
def ObjTy.size : ObjTy → Nat
  | .u8 | .i8 => 1 | .u16 | .i16 => 2 | .u32 | .i32 => 4 | .u64 | .i64 => 8 | .u128 => 16
  | .str n => n | .oct n => n | .dom => 0

/-- Type codes (R165). -/
def ObjTy.code : ObjTy → Nat
  | .u8 => 1 | .u16 => 2 | .u32 => 3 | .u64 => 4 | .u128 => 5 | .i8 => 9 | .i16 => 10 | .i32 => 11 | .i64 => 12
  | .str _ => 16 | .oct _ => 17 | .dom => 18

/-- Signed types compare signed (R186). -/
def ObjTy.signed : ObjTy → Bool
  | .i8 | .i16 | .i32 | .i64 => true
  | _ => false

/-- The access codes numbered in the order of R6's table (R197). -/
def Acc.code : Acc → Nat
  | .ro => 0 | .rw => 1 | .wo => 2 | .w1c => 3 | .w1s => 4 | .rc => 5 | .rws => 6 | .rwp => 7 | .const => 8

/-- Whether a value lies in a range. -/
def Range.allows (v : Nat) : Range → Bool
  | .any => true
  | .le n => v ≤ n
  | .btw lo hi => lo ≤ v && v ≤ hi
  | .oneOf l => l.contains v
  | .mask m => v &&& m == v

def objTable1_0 : List ObjRow := [
  ⟨0x1000, 1, 1, .u16, .const, 7, 8061, 0, .any⟩,
  ⟨0x1000, 2, 2, .u16, .const, 7, 2592, 0, .any⟩,
  ⟨0x1000, 3, 3, .u8, .const, 7, 16, 0, .any⟩,
  ⟨0x1000, 4, 4, (.str 16), .const, 7, 0x30325a206c6172726f53, 0, .any⟩,
  ⟨0x1000, 5, 5, .u64, .const, 7, 0, 0, .any⟩,
  ⟨0x1000, 6, 6, (.oct 6), .const, 7, 0, 0, .any⟩,
  ⟨0x1000, 7, 7, .u32, .const, 3, 0, 0, .any⟩,
  ⟨0x1000, 8, 8, .u8, .const, 7, 0, 0, .any⟩,
  ⟨0x1000, 9, 9, .u32, .ro, 7, 0, 0, .any⟩,
  ⟨0x1000, 10, 10, .u32, .const, 3, 0, 0, .any⟩,
  ⟨0x1000, 11, 11, .u16, .const, 7, 1, 0, .any⟩,
  ⟨0x1001, 1, 1, .u8, .const, 7, 16, 0, .any⟩,
  ⟨0x1001, 2, 2, .u64, .const, 7, 0x6000000000, 0, .any⟩,
  ⟨0x1001, 3, 3, .u16, .const, 7, 4096, 0, .any⟩,
  ⟨0x1001, 4, 4, .u8, .const, 7, 64, 0, .any⟩,
  ⟨0x1001, 5, 5, .u32, .const, 7, 0x10000, 0, .any⟩,
  ⟨0x1001, 6, 6, .u16, .const, 7, 0x4000, 0, .any⟩,
  ⟨0x1001, 7, 7, .u64, .const, 7, 0x80000000000, 0, .any⟩,
  ⟨0x1001, 8, 8, .u16, .const, 7, 0x4000, 0, .any⟩,
  ⟨0x1100, 1, 1, .u8, .rwp, 3, 32, 1, .btw 16 255⟩,
  ⟨0x1100, 2, 2, .u8, .rwp, 3, 0, 1, .le 3⟩,
  ⟨0x1100, 3, 3, .u8, .rwp, 3, 128, 1, .any⟩,
  ⟨0x1100, 4, 4, .u8, .ro, 3, 0, 0, .any⟩,
  ⟨0x1100, 5, 5, .u64, .ro, 3, 0, 0, .any⟩,
  ⟨0x1100, 6, 6, .u64, .ro, 3, 0, 0, .any⟩,
  ⟨0x1100, 7, 7, .u64, .ro, 3, 0, 0, .any⟩,
  ⟨0x1100, 8, 8, .u64, .ro, 3, 0, 0, .any⟩,
  ⟨0x1100, 9, 9, .u64, .ro, 3, 0, 0, .any⟩,
  ⟨0x1100, 10, 10, .u64, .ro, 3, 0, 0, .any⟩,
  ⟨0x1100, 11, 11, .u64, .ro, 3, 0, 0, .any⟩,
  ⟨0x1100, 254, 254, .u64, .w1c, 3, 0, 0, .any⟩,
  ⟨0x1110, 1, 1, .u32, .ro, 3, 0, 0, .any⟩,
  ⟨0x1110, 2, 2, .u32, .ro, 3, 0, 1, .any⟩,
  ⟨0x1110, 3, 3, (.oct 32), .wo, 3, 0, 0, .any⟩,
  ⟨0x1110, 4, 4, .u8, .wo, 3, 0, 0, .btw 1 1⟩,
  ⟨0x1110, 5, 5, .u8, .const, 3, 64, 0, .any⟩,
  ⟨0x1110, 6, 6, .u16, .rwp, 3, 2000, 1, .btw 100 10000⟩,
  ⟨0x1130, 1, 1, .u8, .rwp, 3, 1, 1, .le 1⟩,
  ⟨0x1130, 2, 2, .u16, .ro, 7, 0xffff, 0, .any⟩,
  ⟨0x1130, 3, 3, .u64, .ro, 3, 0, 0, .any⟩]

def objTable1_1 : List ObjRow := [
  ⟨0x1130, 4, 4, .u64, .ro, 3, 0, 0, .any⟩,
  ⟨0x1130, 254, 254, .u64, .w1c, 3, 0, 0, .any⟩,
  ⟨0x1200, 1, 1, .u8, .wo, 3, 0, 0, .btw 1 1⟩,
  ⟨0x1200, 2, 2, .u8, .ro, 3, 0, 0, .any⟩,
  ⟨0x1200, 3, 3, .u32, .wo, 3, 0, 0, .any⟩,
  ⟨0x1200, 4, 4, .u32, .ro, 3, 0, 0, .any⟩,
  ⟨0x1200, 5, 5, .u32, .ro, 3, 0, 1, .any⟩,
  ⟨0x1200, 6, 6, .u8, .ro, 7, 0, 0, .any⟩,
  ⟨0x1210, 1, 1, .u16, .rw, 7, 0, 0, .mask 0x81FE⟩,
  ⟨0x1210, 2, 2, .u16, .ro, 7, 0, 0, .any⟩,
  ⟨0x1210, 3, 3, .u16, .ro, 7, 0, 0, .any⟩,
  ⟨0x1210, 4, 4, .u16, .ro, 7, 0, 0, .any⟩,
  ⟨0x1210, 5, 5, .u64, .ro, 3, 0, 0, .any⟩,
  ⟨0x1210, 254, 254, .u64, .w1c, 3, 0, 0, .any⟩,
  ⟨0x1300, 1, 1, (.oct 6), .rwp, 1, 0, 1, .any⟩,
  ⟨0x1300, 2, 2, .u64, .ro, 3, 0, 0, .any⟩,
  ⟨0x1300, 254, 254, .u64, .w1c, 3, 0, 0, .any⟩,
  ⟨0x1301, 1, 32, .u64, .rwp, 7, 0, 1, .any⟩,
  ⟨0x1302, 1, 32, .u64, .rwp, 7, 0, 1, .any⟩,
  ⟨0x1880, 1, 1, .u32, .w1c, 3, 0, 0, .mask 0x1FFF⟩,
  ⟨0x1880, 2, 2, .u8, .ro, 7, 0, 0, .any⟩,
  ⟨0x1880, 3, 3, .u32, .ro, 3, 0, 1, .any⟩,
  ⟨0x1880, 4, 4, .u64, .ro, 3, 0, 0, .any⟩,
  ⟨0x1880, 5, 5, .u64, .ro, 3, 0, 0, .any⟩,
  ⟨0x1880, 6, 6, .u64, .ro, 3, 0, 0, .any⟩,
  ⟨0x1880, 7, 7, .u32, .ro, 3, 0, 1, .any⟩,
  ⟨0x1880, 8, 8, .u64, .ro, 3, 0, 0, .any⟩,
  ⟨0x1880, 254, 254, .u64, .w1c, 3, 0, 0, .any⟩,
  ⟨0x1881, 1, 1, .u8, .ro, 7, 0, 0, .any⟩,
  ⟨0x1881, 2, 2, .u32, .ro, 3, 0, 0, .any⟩,
  ⟨0x1881, 3, 3, .u8, .ro, 3, 0, 0, .any⟩,
  ⟨0x1882, 1, 1, .u8, .rwp, 3, 0, 1, .le 1⟩,
  ⟨0x1882, 2, 2, .u16, .ro, 3, 0, 0, .any⟩,
  ⟨0x1883, 1, 1, .u32, .wo, 3, 0, 0, .any⟩,
  ⟨0x1883, 2, 2, .u16, .rwp, 1, 200, 1, .btw 50 1000⟩,
  ⟨0x1884, 1, 1, .u8, .ro, 7, 0, 0, .any⟩,
  ⟨0x1884, 2, 2, .u8, .ro, 3, 0, 0, .any⟩,
  ⟨0x1884, 3, 3, .u8, .ro, 3, 0, 0, .any⟩,
  ⟨0x1884, 4, 4, .u8, .ro, 3, 0, 0, .any⟩,
  ⟨0x1884, 5, 5, .u8, .ro, 3, 0, 0, .any⟩,
  ⟨0x1884, 6, 6, .u32, .ro, 3, 0, 0, .any⟩,
  ⟨0x1885, 1, 1, .u16, .ro, 7, 0, 0, .any⟩,
  ⟨0x1885, 2, 2, .u16, .wo, 3, 0, 0, .any⟩]

def objTable1_2 : List ObjRow := [
  ⟨0x1885, 3, 3, .u16, .w1s, 3, 0, 0, .any⟩,
  ⟨0x1885, 4, 4, .u8, .wo, 3, 0, 0, .mask 3⟩,
  ⟨0x1890, 1, 1, .u8, .ro, 3, 0, 0, .any⟩,
  ⟨0x1890, 2, 2, .u32, .wo, 3, 0, 0, .btw 1 3997696⟩,
  ⟨0x1890, 3, 3, .dom, .wo, 3, 0, 0, .any⟩,
  ⟨0x1890, 4, 4, .u8, .ro, 3, 0, 0, .any⟩,
  ⟨0x1890, 5, 5, .u8, .wo, 3, 0, 0, .btw 1 1⟩,
  ⟨0x1890, 6, 6, .u32, .wo, 3, 0, 0, .any⟩,
  ⟨0x1890, 7, 7, .u8, .wo, 3, 0, 0, .btw 1 1⟩,
  ⟨0x1890, 8, 8, .u32, .ro, 3, 0, 0, .any⟩,
  ⟨0x1890, 9, 9, .u32, .ro, 3, 0, 0, .any⟩,
  ⟨0x1890, 10, 10, .u8, .ro, 3, 0, 0, .any⟩,
  ⟨0x1890, 11, 11, .u32, .ro, 3, 0, 0, .any⟩]

def objTable1 : List ObjRow := objTable1_0 ++ objTable1_1 ++ objTable1_2

def objTable2_0 : List ObjRow := [
  ⟨0x2000, 1, 1, .u8, .ro, 7, 0, 0, .any⟩,
  ⟨0x2000, 2, 2, .u8, .rw, 3, 0, 0, .le 3⟩,
  ⟨0x2000, 3, 3, .u16, .ro, 3, 0, 0, .any⟩,
  ⟨0x2000, 4, 4, .u16, .ro, 7, 0, 0, .any⟩,
  ⟨0x2000, 5, 5, .u16, .rw, 3, 0, 0, .any⟩,
  ⟨0x2000, 6, 6, .u32, .rwp, 3, 0x2710, 1, .any⟩,
  ⟨0x2000, 7, 7, .u32, .rwp, 3, 15, 1, .mask 0xF⟩,
  ⟨0x2010, 1, 1, .u32, .ro, 7, 0, 0, .any⟩,
  ⟨0x2010, 2, 2, .u32, .ro, 7, 0, 0, .any⟩,
  ⟨0x2010, 3, 3, .u32, .ro, 7, 0, 0, .any⟩,
  ⟨0x2010, 4, 4, .u64, .ro, 3, 0, 1, .any⟩,
  ⟨0x2010, 5, 5, .u64, .ro, 3, 0, 0, .any⟩,
  ⟨0x2010, 254, 254, .u64, .w1c, 3, 0, 0, .any⟩,
  ⟨0x2020, 1, 1, .u32, .ro, 7, 0, 0, .any⟩,
  ⟨0x2020, 2, 2, .u64, .ro, 7, 0, 0, .any⟩,
  ⟨0x2020, 3, 3, .u64, .ro, 3, 0, 0, .any⟩,
  ⟨0x2020, 4, 4, .u8, .ro, 7, 0, 0, .any⟩,
  ⟨0x2020, 254, 254, .u64, .w1c, 3, 0, 0, .any⟩,
  ⟨0x2021, 1, 1, .u16, .rwp, 3, 2500, 1, .btw 600 2500⟩,
  ⟨0x2021, 2, 2, .u16, .rwp, 3, 10, 1, .btw 1 100⟩,
  ⟨0x2021, 3, 3, .u8, .rw, 2, 0, 0, .le 16⟩,
  ⟨0x2021, 4, 4, .u16, .ro, 7, 0, 0, .any⟩,
  ⟨0x2030, 1, 1, .u8, .ro, 7, 0, 0, .any⟩,
  ⟨0x2030, 2, 2, .u64, .ro, 3, 0, 0, .any⟩,
  ⟨0x2030, 3, 3, .u16, .rwp, 3, 1000, 1, .le 10000⟩,
  ⟨0x2030, 254, 254, .u64, .w1c, 3, 0, 0, .any⟩,
  ⟨0x2040, 1, 1, .u8, .ro, 7, 0, 0, .any⟩,
  ⟨0x2040, 2, 2, .u8, .ro, 7, 0, 0, .any⟩,
  ⟨0x2040, 3, 3, .u64, .ro, 3, 0, 0, .any⟩,
  ⟨0x2040, 4, 4, .u16, .rwp, 3, 100, 1, .btw 10 10000⟩,
  ⟨0x2040, 5, 5, .u32, .ro, 7, 0, 0, .any⟩,
  ⟨0x2040, 254, 254, .u64, .w1c, 3, 0, 0, .any⟩,
  ⟨0x2050, 1, 1, .u32, .ro, 7, 0, 0, .any⟩,
  ⟨0x2060, 1, 1, .i16, .ro, 7, 0, 0, .any⟩,
  ⟨0x2060, 2, 2, .u8, .ro, 7, 0, 0, .any⟩,
  ⟨0x2060, 3, 3, .u128, .ro, 3, 0, 0, .any⟩,
  ⟨0x2061, 1, 90, .i16, .ro, 7, 0, 0, .any⟩,
  ⟨0x2062, 1, 10, .i16, .rwp, 3, 0, 1, .any⟩,
  ⟨0x2063, 1, 1, .u8, .ro, 3, 0, 0, .any⟩,
  ⟨0x2063, 2, 2, .u8, .ro, 3, 0, 0, .any⟩,
  ⟨0x2070, 1, 1, .u16, .ro, 7, 0, 0, .any⟩,
  ⟨0x2070, 2, 2, .u64, .ro, 3, 0, 0, .any⟩,
  ⟨0x2070, 3, 3, .u16, .ro, 3, 0, 0, .any⟩,
  ⟨0x2070, 4, 4, .u32, .rw, 3, 0xffffffff, 0, .btw 0xFFFFFFFF 0xFFFFFFFF⟩]

def objTable2_1 : List ObjRow := [
  ⟨0x2070, 5, 5, .u32, .rw, 3, 0, 0, .btw 0 0⟩,
  ⟨0x2070, 254, 254, .u64, .w1c, 3, 0, 0, .any⟩,
  ⟨0x2800, 1, 1, .u16, .const, 3, 1, 0, .any⟩,
  ⟨0x2800, 2, 2, .u32, .ro, 3, 0, 0, .any⟩,
  ⟨0x2800, 3, 3, .u8, .ro, 3, 0, 0, .any⟩,
  ⟨0x2800, 4, 4, .u32, .ro, 3, 0, 2, .any⟩,
  ⟨0x2800, 5, 5, .u32, .wo, 3, 0, 0, .btw 1 1⟩,
  ⟨0x2800, 6, 6, .u8, .ro, 3, 0, 0, .any⟩,
  ⟨0x2801, 1, 1, .u32, .wo, 3, 0, 0, .any⟩,
  ⟨0x2801, 2, 2, .u8, .ro, 3, 0, 0, .any⟩,
  ⟨0x2801, 3, 3, .u16, .ro, 3, 0, 0, .any⟩]

def objTable2 : List ObjRow := objTable2_0 ++ objTable2_1

def objTable3_0 : List ObjRow := [
  ⟨0x3000, 1, 1, .u8, .ro, 7, 0, 0, .any⟩,
  ⟨0x3000, 2, 2, .u8, .ro, 7, 0, 0, .any⟩,
  ⟨0x3000, 3, 3, .u8, .ro, 7, 0, 0, .any⟩,
  ⟨0x3000, 4, 4, .u8, .ro, 7, 0, 0, .any⟩,
  ⟨0x3000, 5, 5, .u8, .ro, 7, 0, 0, .any⟩,
  ⟨0x3000, 6, 6, .u8, .ro, 3, 0, 0, .any⟩,
  ⟨0x3000, 7, 7, .u8, .ro, 3, 0, 0, .any⟩,
  ⟨0x3001, 1, 1, .u8, .rwp, 3, 6, 1, .btw 1 6⟩,
  ⟨0x3001, 2, 2, .u8, .rwp, 3, 16, 1, .oneOf [1, 4, 8, 16]⟩,
  ⟨0x3002, 1, 1, .u16, .rwp, 3, 32, 1, .btw 4 10000⟩,
  ⟨0x3002, 2, 2, .u16, .rwp, 3, 8, 1, .btw 1 1000⟩,
  ⟨0x3002, 3, 3, .u8, .rwp, 3, 4, 1, .oneOf [1, 4, 8]⟩,
  ⟨0x3002, 4, 4, .u32, .rwp, 3, 0x4e20, 1, .le 33554432⟩,
  ⟨0x3002, 5, 5, .u32, .rwp, 3, 0xf4240, 1, .le 33554432⟩,
  ⟨0x3003, 1, 1, .u64, .ro, 3, 0, 0, .any⟩,
  ⟨0x3003, 2, 2, .u64, .ro, 3, 0, 0, .any⟩,
  ⟨0x3003, 3, 3, .u64, .ro, 3, 0, 0, .any⟩,
  ⟨0x3003, 4, 4, .u64, .ro, 3, 0, 0, .any⟩,
  ⟨0x3003, 5, 5, .u64, .ro, 3, 0, 0, .any⟩,
  ⟨0x3003, 6, 6, .u64, .ro, 3, 0, 0, .any⟩,
  ⟨0x3003, 7, 7, .u64, .ro, 3, 0, 0, .any⟩,
  ⟨0x3003, 8, 8, .u64, .ro, 3, 0, 0, .any⟩,
  ⟨0x3003, 254, 254, .u64, .w1c, 3, 0, 0, .any⟩,
  ⟨0x3010, 1, 1, .u64, .ro, 3, 0, 0, .any⟩,
  ⟨0x3010, 2, 2, .u64, .ro, 3, 0, 0, .any⟩,
  ⟨0x3010, 3, 3, .u64, .ro, 3, 0, 0, .any⟩,
  ⟨0x3010, 4, 4, .u64, .ro, 3, 0, 0, .any⟩,
  ⟨0x3010, 5, 5, .u64, .ro, 3, 0, 0, .any⟩,
  ⟨0x3010, 6, 6, .u64, .ro, 3, 0, 0, .any⟩,
  ⟨0x3010, 7, 7, .u64, .ro, 3, 0, 0, .any⟩,
  ⟨0x3010, 8, 8, .u64, .ro, 3, 0, 0, .any⟩,
  ⟨0x3010, 9, 9, .u64, .ro, 3, 0, 0, .any⟩,
  ⟨0x3010, 10, 10, .u64, .ro, 3, 0, 0, .any⟩,
  ⟨0x3010, 11, 11, .u64, .ro, 3, 0, 0, .any⟩,
  ⟨0x3010, 12, 12, .u8, .ro, 7, 0, 0, .any⟩,
  ⟨0x3010, 254, 254, .u64, .w1c, 3, 0, 0, .any⟩,
  ⟨0x3100, 1, 1, .u64, .ro, 3, 0, 0, .any⟩,
  ⟨0x3100, 2, 2, .u64, .ro, 3, 0, 0, .any⟩,
  ⟨0x3100, 3, 3, .u64, .ro, 3, 0, 0, .any⟩,
  ⟨0x3100, 4, 4, .u64, .ro, 3, 0, 0, .any⟩]

def objTable3_1 : List ObjRow := [
  ⟨0x3100, 5, 5, .u64, .ro, 3, 0, 0, .any⟩,
  ⟨0x3100, 6, 6, .u64, .ro, 3, 0, 0, .any⟩,
  ⟨0x3100, 7, 7, .u64, .ro, 3, 0, 0, .any⟩,
  ⟨0x3100, 8, 8, .u64, .ro, 3, 0, 0, .any⟩,
  ⟨0x3100, 9, 9, .u64, .ro, 3, 0, 0, .any⟩,
  ⟨0x3100, 10, 10, .u16, .rw, 3, 0, 0, .btw 0 0⟩,
  ⟨0x3100, 11, 11, .u16, .ro, 7, 0, 0, .any⟩,
  ⟨0x3100, 254, 254, .u64, .w1c, 3, 0, 0, .any⟩,
  ⟨0x3200, 1, 1, .u64, .ro, 3, 0, 0, .any⟩,
  ⟨0x3200, 2, 2, .u64, .ro, 3, 0, 0, .any⟩,
  ⟨0x3200, 3, 3, .u64, .ro, 3, 0, 0, .any⟩,
  ⟨0x3200, 4, 4, .u64, .ro, 3, 0, 0, .any⟩,
  ⟨0x3200, 5, 5, .u64, .ro, 3, 0, 0, .any⟩,
  ⟨0x3200, 6, 6, .u64, .ro, 3, 0, 0, .any⟩,
  ⟨0x3200, 7, 7, .u64, .ro, 3, 0, 0, .any⟩,
  ⟨0x3200, 8, 8, .u64, .ro, 3, 0, 0, .any⟩,
  ⟨0x3200, 9, 9, .u64, .ro, 3, 0, 0, .any⟩,
  ⟨0x3200, 10, 10, .u64, .ro, 3, 0, 0, .any⟩,
  ⟨0x3200, 11, 11, .u64, .ro, 3, 0, 0, .any⟩,
  ⟨0x3200, 12, 12, .u64, .ro, 3, 0, 0, .any⟩,
  ⟨0x3200, 13, 13, .u64, .ro, 3, 0, 0, .any⟩,
  ⟨0x3200, 254, 254, .u64, .w1c, 3, 0, 0, .any⟩,
  ⟨0x3201, 1, 1, .u8, .ro, 7, 0, 0, .any⟩,
  ⟨0x3201, 2, 2, .u64, .ro, 3, 0, 0, .any⟩,
  ⟨0x3201, 3, 3, .u16, .ro, 3, 0, 0, .any⟩,
  ⟨0x3201, 4, 4, .u32, .ro, 3, 0, 0, .any⟩,
  ⟨0x3201, 5, 5, .u16, .ro, 7, 0, 0, .any⟩,
  ⟨0x3201, 254, 254, .u64, .w1c, 3, 0, 0, .any⟩,
  ⟨0x3202, 1, 1, .u8, .ro, 7, 0, 0, .any⟩,
  ⟨0x3202, 2, 2, .u32, .rwp, 3, 0, 1, .le 600000⟩,
  ⟨0x3202, 3, 3, .u64, .ro, 3, 0, 0, .any⟩,
  ⟨0x3202, 4, 4, .u64, .ro, 3, 0, 0, .any⟩,
  ⟨0x3202, 5, 5, .u64, .ro, 3, 0, 0, .any⟩,
  ⟨0x3202, 6, 6, .u64, .ro, 3, 0, 0, .any⟩,
  ⟨0x3202, 7, 7, .u64, .ro, 3, 0, 0, .any⟩,
  ⟨0x3202, 8, 8, .u64, .ro, 3, 0, 0, .any⟩,
  ⟨0x3202, 9, 9, .u64, .ro, 3, 0, 0, .any⟩,
  ⟨0x3202, 10, 10, .u64, .ro, 3, 0, 0, .any⟩,
  ⟨0x3202, 11, 11, .u64, .ro, 3, 0, 0, .any⟩,
  ⟨0x3202, 12, 12, .u64, .ro, 3, 0, 0, .any⟩,
  ⟨0x3202, 13, 13, .u64, .ro, 3, 0, 0, .any⟩]

def objTable3_2 : List ObjRow := [
  ⟨0x3202, 254, 254, .u64, .w1c, 3, 0, 0, .any⟩,
  ⟨0x3204, 1, 1, .u8, .ro, 7, 1, 0, .any⟩,
  ⟨0x3204, 2, 2, .u32, .rwp, 3, 1000, 1, .btw 100 1000000⟩,
  ⟨0x3204, 3, 3, .u32, .rwp, 3, 0x4000, 1, .btw 64 4294967295⟩,
  ⟨0x3204, 4, 4, .u8, .rwp, 3, 63, 1, .le 63⟩,
  ⟨0x3204, 5, 5, .u16, .rwp, 3, 0xfc00, 1, .any⟩,
  ⟨0x3204, 6, 6, .u16, .rwp, 3, 1024, 1, .le 1024⟩,
  ⟨0x3204, 7, 7, .u64, .ro, 3, 0, 0, .any⟩,
  ⟨0x3204, 8, 8, .u64, .ro, 3, 0, 0, .any⟩,
  ⟨0x3204, 9, 9, .u64, .ro, 3, 0, 0, .any⟩,
  ⟨0x3204, 10, 10, .u64, .ro, 3, 0, 0, .any⟩,
  ⟨0x3204, 11, 11, .u16, .ro, 3, 0, 0, .any⟩,
  ⟨0x3204, 254, 254, .u64, .w1c, 3, 0, 0, .any⟩,
  ⟨0x3205, 1, 1, .u8, .ro, 7, 0, 0, .any⟩,
  ⟨0x3205, 2, 2, .u32, .ro, 3, 0, 0, .any⟩,
  ⟨0x3205, 3, 3, .u64, .ro, 3, 0, 0, .any⟩,
  ⟨0x3205, 4, 4, .u64, .ro, 3, 0, 0, .any⟩,
  ⟨0x3205, 5, 5, .u64, .ro, 3, 0, 0, .any⟩,
  ⟨0x3205, 6, 6, .u64, .ro, 3, 0, 0, .any⟩,
  ⟨0x3205, 7, 7, .u64, .ro, 3, 0, 0, .any⟩,
  ⟨0x3205, 254, 254, .u64, .w1c, 3, 0, 0, .any⟩,
  ⟨0x3300, 1, 1, .u64, .ro, 3, 0, 0, .any⟩,
  ⟨0x3300, 2, 2, .u64, .ro, 3, 0, 0, .any⟩,
  ⟨0x3300, 3, 3, .u64, .ro, 3, 0, 0, .any⟩,
  ⟨0x3300, 4, 4, .u64, .ro, 3, 0, 0, .any⟩,
  ⟨0x3300, 5, 5, .u64, .ro, 3, 0, 0, .any⟩,
  ⟨0x3300, 6, 6, .u64, .ro, 3, 0, 0, .any⟩,
  ⟨0x3300, 7, 7, .u64, .ro, 3, 0, 0, .any⟩,
  ⟨0x3300, 8, 8, .u64, .ro, 3, 0, 0, .any⟩,
  ⟨0x3300, 9, 9, .u16, .rw, 3, 0, 0, .btw 0 0⟩,
  ⟨0x3300, 10, 10, .u32, .rwp, 3, 1000, 1, .btw 10 1000000⟩,
  ⟨0x3300, 254, 254, .u64, .w1c, 3, 0, 0, .any⟩]

def objTable3 : List ObjRow := objTable3_0 ++ objTable3_1 ++ objTable3_2

def objTable4 : List ObjRow := [
  ⟨0x4000, 1, 1, .u64, .ro, 3, 0, 0, .any⟩,
  ⟨0x4000, 2, 2, .u64, .ro, 3, 0, 0, .any⟩,
  ⟨0x4000, 3, 3, .u64, .ro, 3, 0, 0, .any⟩,
  ⟨0x4000, 4, 4, .u64, .ro, 3, 0, 0, .any⟩,
  ⟨0x4000, 5, 5, .u64, .ro, 3, 0, 0, .any⟩,
  ⟨0x4000, 6, 6, .u64, .ro, 7, 0, 0, .any⟩,
  ⟨0x4000, 7, 7, .u64, .ro, 3, 0, 0, .any⟩,
  ⟨0x4000, 8, 8, .u64, .ro, 3, 0, 0, .any⟩,
  ⟨0x4000, 9, 9, .u64, .ro, 3, 0, 0, .any⟩,
  ⟨0x4000, 10, 10, .u64, .ro, 3, 0, 0, .any⟩,
  ⟨0x4000, 254, 254, .u64, .w1c, 3, 0, 0, .any⟩,
  ⟨0x4001, 1, 16, .u8, .ro, 7, 0, 0, .any⟩,
  ⟨0x4800, 1, 1, .u16, .ro, 7, 0, 0, .any⟩,
  ⟨0x4800, 2, 2, .u16, .rw, 3, 0, 0, .btw 0 0⟩,
  ⟨0x4800, 3, 3, .u64, .ro, 3, 0, 0, .any⟩,
  ⟨0x4800, 4, 4, .u64, .ro, 3, 0, 0, .any⟩,
  ⟨0x4800, 5, 5, .u64, .ro, 3, 0, 0, .any⟩,
  ⟨0x4800, 6, 6, .u64, .ro, 3, 0, 0, .any⟩,
  ⟨0x4800, 7, 7, .u64, .ro, 3, 0, 0, .any⟩,
  ⟨0x4800, 8, 8, .u64, .ro, 3, 0, 0, .any⟩,
  ⟨0x4800, 9, 9, .u64, .ro, 3, 0, 0, .any⟩,
  ⟨0x4800, 10, 10, .u64, .ro, 3, 0, 0, .any⟩,
  ⟨0x4800, 254, 254, .u64, .w1c, 3, 0, 0, .any⟩,
  ⟨0x4801, 1, 1, .u32, .rwp, 3, 0x989680, 1, .le 4000000000⟩,
  ⟨0x4801, 2, 2, .u8, .ro, 7, 0, 0, .any⟩]

def objTable5_0 : List ObjRow := [
  ⟨0x5000, 1, 1, .u16, .ro, 7, 0, 0, .any⟩,
  ⟨0x5000, 2, 2, .u16, .ro, 7, 0, 0, .any⟩,
  ⟨0x5000, 3, 3, .u8, .ro, 7, 0, 0, .any⟩,
  ⟨0x5000, 4, 4, .u8, .ro, 7, 0, 0, .any⟩,
  ⟨0x5000, 5, 5, .u8, .ro, 7, 0, 0, .any⟩,
  ⟨0x5000, 6, 6, .u16, .ro, 3, 0, 0, .any⟩,
  ⟨0x5000, 7, 7, .u16, .w1c, 3, 0, 0, .mask 0x7FFF⟩,
  ⟨0x5000, 8, 8, .u8, .ro, 7, 0, 0, .any⟩,
  ⟨0x5000, 9, 9, .u8, .ro, 3, 0, 0, .any⟩,
  ⟨0x5001, 1, 1, .u16, .rwp, 3, 0, 1, .mask 0x7FFF⟩,
  ⟨0x5001, 2, 2, .u16, .ro, 3, 0, 0, .any⟩,
  ⟨0x5010, 1, 13, .u32, .ro, 7, 0, 0, .any⟩,
  ⟨0x5011, 1, 13, .u64, .ro, 3, 0, 0, .any⟩,
  ⟨0x5011, 254, 254, .u64, .w1c, 3, 0, 0, .any⟩,
  ⟨0x5012, 1, 13, .u64, .ro, 3, 0, 0, .any⟩,
  ⟨0x5012, 254, 254, .u64, .w1c, 3, 0, 0, .any⟩,
  ⟨0x5013, 1, 13, .u32, .ro, 7, 0, 0, .any⟩,
  ⟨0x5014, 1, 1, .u16, .rwp, 3, 8191, 1, .mask 0x1FFF⟩,
  ⟨0x5015, 1, 1, .u64, .ro, 3, 0, 0, .any⟩,
  ⟨0x5015, 254, 254, .u64, .w1c, 3, 0, 0, .any⟩,
  ⟨0x5016, 1, 1, .u64, .ro, 3, 0, 0, .any⟩,
  ⟨0x5016, 2, 2, .u64, .ro, 3, 0, 0, .any⟩,
  ⟨0x5016, 3, 3, .u64, .ro, 3, 0, 0, .any⟩,
  ⟨0x5016, 4, 4, .u64, .ro, 3, 0, 0, .any⟩,
  ⟨0x5016, 5, 5, .u64, .ro, 3, 0, 0, .any⟩,
  ⟨0x5016, 6, 6, .u64, .ro, 3, 0, 0, .any⟩,
  ⟨0x5016, 7, 7, .u64, .ro, 3, 0, 0, .any⟩,
  ⟨0x5016, 254, 254, .u64, .w1c, 3, 0, 0, .any⟩,
  ⟨0x5020, 1, 1, .u8, .ro, 7, 0, 0, .any⟩,
  ⟨0x5020, 2, 2, .u64, .ro, 7, 0, 0, .any⟩,
  ⟨0x5020, 3, 3, .u64, .ro, 7, 0, 0, .any⟩,
  ⟨0x5020, 4, 4, .u64, .ro, 3, 0, 0, .any⟩,
  ⟨0x5020, 5, 5, .u64, .ro, 3, 0, 0, .any⟩,
  ⟨0x5020, 6, 6, .u8, .rwp, 3, 0, 1, .le 2⟩,
  ⟨0x5020, 7, 7, .i64, .rw, 4, 0, 0, .any⟩,
  ⟨0x5020, 8, 8, .i32, .ro, 3, 0, 0, .any⟩,
  ⟨0x5020, 254, 254, .u64, .w1c, 3, 0, 0, .any⟩,
  ⟨0x5030, 1, 1, .u8, .ro, 7, 0, 0, .any⟩,
  ⟨0x5030, 2, 2, .u32, .ro, 7, 0, 0, .any⟩,
  ⟨0x5030, 3, 3, .u16, .ro, 7, 0, 0, .any⟩,
  ⟨0x5030, 4, 4, .u16, .ro, 7, 0, 0, .any⟩]

def objTable5_1 : List ObjRow := [
  ⟨0x5030, 5, 5, .u64, .rw, 3, 0, 0, .mask 0x80000FFFFFFFFFFF⟩,
  ⟨0x5030, 6, 6, .u32, .rw, 3, 0, 0, .mask 0xFFFFF⟩,
  ⟨0x5030, 7, 7, .u8, .rwp, 3, 1, 1, .le 1⟩,
  ⟨0x5030, 8, 8, .u8, .ro, 7, 0, 0, .any⟩,
  ⟨0x5030, 9, 9, .u16, .ro, 7, 0, 0, .any⟩,
  ⟨0x5030, 10, 10, .u64, .ro, 3, 0, 0, .any⟩,
  ⟨0x5030, 11, 11, .u32, .ro, 7, 0, 0, .any⟩,
  ⟨0x5030, 12, 12, .u8, .wo, 3, 0, 0, .btw 1 1⟩,
  ⟨0x5030, 13, 13, .u16, .rw, 3, 0xffff, 0, .any⟩,
  ⟨0x5030, 254, 254, .u64, .w1c, 3, 0, 0, .any⟩,
  ⟨0x5040, 1, 1, .u8, .ro, 3, 0, 0, .any⟩,
  ⟨0x5040, 2, 2, .u32, .rw, 3, 0, 0, .any⟩,
  ⟨0x5040, 3, 3, .dom, .rw, 3, 0, 0, .any⟩,
  ⟨0x5040, 4, 4, .dom, .rw, 3, 0, 0, .any⟩,
  ⟨0x5040, 5, 5, .dom, .rw, 3, 0, 0, .any⟩,
  ⟨0x5040, 6, 6, .u32, .rw, 3, 0, 0, .any⟩,
  ⟨0x5040, 7, 7, .u8, .wo, 3, 0, 0, .btw 1 2⟩,
  ⟨0x5040, 8, 8, .u16, .ro, 3, 0, 0, .any⟩,
  ⟨0x5040, 9, 9, .u8, .rwp, 3, 1, 1, .le 1⟩,
  ⟨0x5040, 10, 10, .dom, .ro, 3, 0, 0, .any⟩,
  ⟨0x5040, 11, 11, .u32, .ro, 3, 0, 0, .any⟩,
  ⟨0x5040, 12, 12, .dom, .ro, 3, 0, 0, .any⟩,
  ⟨0x5050, 1, 64, .u32, .ro, 7, 0, 0, .any⟩]

def objTable5 : List ObjRow := objTable5_0 ++ objTable5_1

def objTable6_0 : List ObjRow := [
  ⟨0x6000, 1, 8, .u32, .const, 7, 0, 0, .any⟩,
  ⟨0x6001, 1, 1, .u8, .ro, 7, 0, 0, .any⟩,
  ⟨0x6001, 2, 2, .u8, .ro, 7, 0, 0, .any⟩,
  ⟨0x6001, 3, 3, .u32, .ro, 3, 0, 0, .any⟩,
  ⟨0x6010, 1, 1, .u32, .ro, 7, 0, 0, .any⟩,
  ⟨0x6010, 2, 2, .u32, .ro, 7, 0, 0, .any⟩,
  ⟨0x6010, 3, 3, .u32, .ro, 7, 0, 0, .any⟩,
  ⟨0x6010, 4, 4, .u8, .ro, 7, 0, 0, .any⟩,
  ⟨0x6010, 5, 5, .u16, .const, 3, 0, 0, .any⟩,
  ⟨0x6010, 6, 6, .u16, .ro, 7, 0, 0, .any⟩,
  ⟨0x6010, 7, 7, .u16, .const, 3, 0, 0, .any⟩,
  ⟨0x6010, 8, 8, .u32, .ro, 3, 0, 0, .any⟩,
  ⟨0x6010, 9, 9, .u64, .ro, 7, 0, 0, .any⟩,
  ⟨0x6010, 10, 10, .u64, .ro, 3, 0, 0, .any⟩,
  ⟨0x6010, 11, 11, .u64, .ro, 3, 0, 0, .any⟩,
  ⟨0x6010, 12, 12, .u64, .ro, 3, 0, 0, .any⟩,
  ⟨0x6010, 13, 13, .u64, .ro, 3, 0, 0, .any⟩,
  ⟨0x6010, 14, 14, .u64, .ro, 3, 0, 0, .any⟩,
  ⟨0x6010, 15, 15, .u64, .ro, 3, 0, 0, .any⟩,
  ⟨0x6010, 16, 16, .u64, .ro, 3, 0, 0, .any⟩,
  ⟨0x6010, 17, 17, .u32, .ro, 3, 0, 0, .any⟩,
  ⟨0x6010, 254, 254, .u64, .w1c, 3, 0, 0, .any⟩,
  ⟨0x6020, 1, 1, .u8, .rwp, 3, 30, 1, .btw 1 90⟩,
  ⟨0x6020, 2, 2, .u16, .rwp, 3, 100, 1, .btw 10 2000⟩,
  ⟨0x6020, 3, 3, .u8, .rwp, 3, 4, 1, .btw 1 15⟩,
  ⟨0x6020, 4, 4, .u8, .rwp, 3, 60, 1, .btw 10 100⟩,
  ⟨0x6020, 5, 5, .u16, .rwp, 3, 200, 1, .btw 50 1000⟩,
  ⟨0x6020, 6, 6, .u32, .rwp, 3, 0x186a0, 1, .btw 10000 1000000⟩,
  ⟨0x6030, 1, 1, .dom, .ro, 3, 0, 1, .any⟩,
  ⟨0x6100, 1, 1, (.oct 16), .wo, 3, 0, 0, .any⟩,
  ⟨0x6100, 2, 2, .u32, .ro, 3, 0, 0, .any⟩,
  ⟨0x6100, 3, 3, .u16, .ro, 7, 0, 0, .any⟩,
  ⟨0x6100, 4, 4, .u64, .ro, 7, 0x70000000000, 0, .any⟩,
  ⟨0x6100, 5, 5, .u64, .ro, 7, 0, 0, .any⟩,
  ⟨0x6100, 6, 6, .u16, .rw, 7, 0, 0, .le 16383⟩,
  ⟨0x6101, 1, 1, .u8, .ro, 7, 0, 0, .any⟩,
  ⟨0x6101, 2, 2, .u32, .ro, 7, 0, 0, .any⟩,
  ⟨0x6101, 3, 3, .u16, .ro, 7, 0, 0, .any⟩,
  ⟨0x6101, 4, 4, .u16, .ro, 7, 0, 0, .any⟩,
  ⟨0x6101, 5, 5, .u8, .ro, 7, 0, 0, .any⟩]

def objTable6_1 : List ObjRow := [
  ⟨0x6101, 6, 6, .u32, .ro, 7, 0xffffffff, 0, .any⟩,
  ⟨0x6101, 7, 7, .u32, .ro, 7, 0xffffffff, 0, .any⟩,
  ⟨0x6101, 8, 8, .u8, .ro, 7, 0, 0, .any⟩,
  ⟨0x6101, 9, 9, .u64, .ro, 3, 0, 0, .any⟩,
  ⟨0x6200, 1, 1, .u8, .ro, 7, 0, 0, .any⟩,
  ⟨0x6200, 2, 2, .u8, .rw, 7, 0, 0, .le 1⟩,
  ⟨0x6200, 3, 3, (.oct 32), .wo, 7, 0, 0, .any⟩,
  ⟨0x6200, 4, 4, .u32, .ro, 7, 0, 0, .any⟩,
  ⟨0x6200, 5, 5, .u64, .wo, 7, 0, 0, .any⟩,
  ⟨0x6200, 6, 6, .u32, .rwp, 3, 0, 1, .mask 0x1FFF1FFF⟩,
  ⟨0x6200, 7, 7, .u32, .rwp, 3, 0, 1, .mask 0x07FF03FF⟩,
  ⟨0x6200, 8, 8, .u8, .rwp, 3, 2, 1, .btw 1 8⟩,
  ⟨0x6200, 9, 9, .u32, .ro, 7, 0, 0, .any⟩,
  ⟨0x6200, 10, 10, .u16, .ro, 7, 0, 0, .any⟩,
  ⟨0x6200, 11, 11, .u32, .wo, 3, 0, 0, .any⟩,
  ⟨0x6200, 12, 12, .u64, .ro, 3, 0, 0, .any⟩,
  ⟨0x6200, 13, 13, .u64, .ro, 3, 0, 0, .any⟩,
  ⟨0x6200, 14, 14, .u64, .ro, 3, 0, 0, .any⟩,
  ⟨0x6200, 15, 15, .u64, .ro, 3, 0, 0, .any⟩,
  ⟨0x6200, 16, 16, .u64, .ro, 3, 0, 0, .any⟩,
  ⟨0x6200, 17, 17, .u64, .ro, 3, 0, 0, .any⟩,
  ⟨0x6200, 18, 18, .u32, .rw, 7, 0, 0, .any⟩,
  ⟨0x6200, 254, 254, .u64, .w1c, 3, 0, 0, .any⟩,
  ⟨0x6201, 1, 1, .u8, .ro, 7, 0, 0, .any⟩,
  ⟨0x6201, 2, 2, (.oct 32), .ro, 7, 0, 0, .any⟩,
  ⟨0x6201, 3, 3, .u16, .ro, 7, 0, 0, .any⟩,
  ⟨0x6201, 4, 4, .u32, .ro, 7, 0xffffffff, 0, .any⟩,
  ⟨0x6201, 5, 5, .u32, .ro, 7, 0xffffffff, 0, .any⟩,
  ⟨0x6201, 6, 6, .u8, .ro, 7, 0, 0, .any⟩,
  ⟨0x6201, 7, 7, .u64, .ro, 3, 0, 0, .any⟩,
  ⟨0x6201, 8, 8, .u64, .ro, 3, 0, 0, .any⟩]

def objTable6 : List ObjRow := objTable6_0 ++ objTable6_1

def objTable7 : List ObjRow := [
  ⟨0x7000, 1, 1, .u8, .ro, 7, 0, 0, .any⟩,
  ⟨0x7000, 2, 2, .u16, .ro, 7, 0, 0, .any⟩,
  ⟨0x7000, 3, 3, .u8, .ro, 3, 0, 0, .any⟩,
  ⟨0x7000, 4, 4, .u64, .ro, 3, 0, 0, .any⟩,
  ⟨0x7000, 5, 5, .u64, .ro, 3, 0, 0, .any⟩,
  ⟨0x7000, 6, 6, .u64, .ro, 3, 0, 0, .any⟩,
  ⟨0x7000, 7, 7, .u64, .ro, 7, 0, 0, .any⟩,
  ⟨0x7000, 8, 8, .u64, .ro, 3, 0, 0, .any⟩,
  ⟨0x7000, 9, 9, .u8, .rwp, 3, 32, 1, .btw 1 255⟩,
  ⟨0x7000, 10, 10, .u16, .ro, 7, 0xffff, 0, .any⟩,
  ⟨0x7000, 11, 11, .u64, .ro, 7, 0, 0, .any⟩,
  ⟨0x7000, 254, 254, .u64, .w1c, 3, 0, 0, .any⟩,
  ⟨0x7001, 1, 1, (.oct 32), .rc, 7, 0, 0, .any⟩,
  ⟨0x7002, 1, 1, .dom, .ro, 3, 0, 1, .any⟩]

def objTable8_0 : List ObjRow := [
  ⟨0x8000, 1, 1, .u8, .rw, 3, 0, 0, .le 1⟩,
  ⟨0x8000, 2, 2, .u8, .rw, 3, 0, 0, .le 1⟩,
  ⟨0x8000, 3, 3, .u8, .rw, 3, 1, 0, .le 1⟩,
  ⟨0x8000, 4, 4, .u8, .rwp, 3, 0, 1, .le 1⟩,
  ⟨0x8000, 5, 5, .u8, .rwp, 3, 0, 1, .le 1⟩,
  ⟨0x8000, 6, 6, .u8, .rw, 3, 0, 0, .le 1⟩,
  ⟨0x8000, 7, 7, .u8, .rwp, 3, 0, 1, .le 1⟩,
  ⟨0x8000, 8, 8, .u8, .rw, 3, 0, 0, .le 1⟩,
  ⟨0x8000, 9, 9, .u8, .rw, 3, 0, 0, .le 1⟩,
  ⟨0x8000, 10, 10, .u16, .ro, 7, 0, 0, .any⟩,
  ⟨0x8000, 11, 11, .u64, .ro, 3, 0, 0, .any⟩,
  ⟨0x8000, 254, 254, .u64, .w1c, 3, 0, 0, .any⟩,
  ⟨0x8001, 1, 1, .u32, .rwp, 3, 3600, 1, .le 86400⟩,
  ⟨0x8001, 2, 2, .u32, .ro, 7, 0, 0, .any⟩,
  ⟨0x8001, 3, 3, .u64, .ro, 3, 0, 0, .any⟩,
  ⟨0x8001, 4, 4, .dom, .ro, 3, 0, 0, .any⟩,
  ⟨0x8001, 5, 5, .u64, .ro, 3, 0, 0, .any⟩,
  ⟨0x8001, 254, 254, .u64, .w1c, 3, 0, 0, .any⟩,
  ⟨0x8010, 1, 1, .u8, .rwp, 3, 2, 1, .le 2⟩,
  ⟨0x8010, 2, 2, .u32, .ro, 7, 0xffffffff, 0, .any⟩,
  ⟨0x8010, 3, 3, .u8, .rwp, 3, 5, 1, .btw 1 20⟩,
  ⟨0x8010, 4, 4, .u16, .rwp, 3, 50, 1, .btw 10 500⟩,
  ⟨0x8010, 5, 5, .u16, .rwp, 3, 1200, 1, .btw 600 2500⟩,
  ⟨0x8011, 1, 1, .u8, .rwp, 3, 2, 1, .le 2⟩,
  ⟨0x8011, 2, 2, .u32, .ro, 7, 0xffffffff, 0, .any⟩,
  ⟨0x8011, 3, 3, .u32, .rwp, 3, 1024, 1, .btw 64 4294967295⟩,
  ⟨0x8011, 4, 4, .u32, .rwp, 3, 0x100000, 1, .any⟩,
  ⟨0x8012, 1, 1, .u8, .rwp, 3, 2, 1, .le 2⟩,
  ⟨0x8012, 2, 2, .u32, .ro, 7, 0xffffffff, 0, .any⟩,
  ⟨0x8012, 3, 3, .u16, .rwp, 3, 10, 1, .btw 10 2000⟩,
  ⟨0x8012, 4, 4, .u16, .rwp, 3, 2000, 1, .btw 10 2000⟩,
  ⟨0x8012, 5, 5, .u16, .rwp, 3, 100, 1, .btw 50 1000⟩,
  ⟨0x8013, 1, 1, .u8, .rwp, 3, 2, 1, .le 2⟩,
  ⟨0x8013, 2, 2, .u32, .ro, 7, 0xffffffff, 0, .any⟩,
  ⟨0x8013, 3, 3, .u32, .rwp, 3, 0x186a0, 1, .any⟩,
  ⟨0x8013, 4, 4, .u8, .rwp, 3, 3, 1, .btw 1 10⟩,
  ⟨0x8013, 5, 5, .u16, .wo, 3, 0, 0, .mask 0x1FFF⟩,
  ⟨0x8014, 1, 1, .u8, .rwp, 3, 1, 1, .le 2⟩,
  ⟨0x8014, 2, 2, .u32, .ro, 7, 0xffffffff, 0, .any⟩,
  ⟨0x8014, 3, 3, .u8, .rwp, 3, 8, 1, .btw 1 255⟩]

def objTable8_1 : List ObjRow := [
  ⟨0x8015, 1, 1, .u8, .rwp, 3, 1, 1, .le 2⟩,
  ⟨0x8015, 2, 2, .u32, .ro, 7, 0xffffffff, 0, .any⟩,
  ⟨0x8015, 3, 3, .u8, .rwp, 3, 3, 1, .btw 1 8⟩,
  ⟨0x8016, 1, 1, .u8, .rwp, 3, 0, 1, .le 2⟩,
  ⟨0x8016, 2, 2, .u32, .ro, 7, 0xffffffff, 0, .any⟩,
  ⟨0x8016, 3, 3, .u32, .rwp, 3, 600, 1, .btw 10 86400⟩,
  ⟨0x8016, 4, 4, .u32, .rwp, 3, 0, 1, .any⟩]

def objTable8 : List ObjRow := objTable8_0 ++ objTable8_1

def objTableF : List ObjRow := [
  ⟨0xF000, 1, 1, .u32, .wo, 3, 0, 0, .any⟩,
  ⟨0xF000, 2, 2, .u16, .ro, 3, 0, 0, .any⟩,
  ⟨0xF001, 1, 1, .u64, .rw, 3, 0, 0, .mask 0x3FFFFFFFFF⟩,
  ⟨0xF001, 2, 2, .u64, .rw, 3, 0, 0, .mask 0x3FFFFFFFFF⟩,
  ⟨0xF100, 1, 32, .u64, .w1s, 3, 0, 0, .any⟩,
  ⟨0xF101, 1, 32, .u64, .rw, 3, 0, 0, .any⟩,
  ⟨0xF102, 1, 1, .u64, .ro, 3, 0, 0, .any⟩,
  ⟨0xF102, 254, 254, .u64, .w1c, 3, 0, 0, .any⟩]

/-- The fault collector's per-source objects 0x7100 + s (R782). -/
def objTableSrc : List ObjRow := [
  ⟨0x7100, 1, 1, .u16, .ro, 7, 0, 0, .any⟩, ⟨0x7100, 2, 2, .u32, .ro, 7, 0, 0, .any⟩,
  ⟨0x7100, 3, 3, .u16, .ro, 3, 0, 0, .any⟩, ⟨0x7100, 4, 4, .u16, .ro, 3, 0, 0, .any⟩,
  ⟨0x7100, 5, 5, .u8, .wo, 3, 0, 0, .btw 1 1⟩, ⟨0x7100, 6, 6, .u64, .rwp, 3, 0, 1, .mask 0xFFFFFFFFFFFF⟩,
  ⟨0x7100, 7, 7, .oct 32, .ro, 7, 0, 0, .any⟩, ⟨0x7100, 0xFE, 0xFE, .u64, .w1c, 3, 0, 0, .any⟩]

/-- The shape of every calibration item (R116): the origin tag and the value. How many value subindices an item
has stands in a report outside the spec; the model gives each item one U32 value (log entry 21). -/
def objTableCal : List ObjRow := [
  ⟨0x2810, 1, 1, .u8, .ro, 3, 0, 2, .any⟩, ⟨0x2810, 2, 2, .u32, .rwp, 3, 0, 2, .any⟩]

/-- The calibration items (R101). -/
def calItems : List Nat :=
  [0x2810, 0x2811, 0x2812, 0x2813, 0x2814, 0x2815, 0x2816, 0x2817, 0x2818, 0x2819, 0x281A, 0x281B, 0x281C, 0x281D,
   0x281E, 0x2830, 0x2831, 0x2832, 0x2833, 0x2834, 0x2835, 0x2836, 0x2837, 0x2840, 0x2848, 0x2849, 0x284A, 0x284B,
   0x284C, 0x284D, 0x284E, 0x284F, 0x2860, 0x2861, 0x2862, 0x2863, 0x2864, 0x2865, 0x2866, 0x2867, 0x2870, 0x2878]

/-- The rows of an index (R163): none where the index holds no object (R218). -/
def objRows (i : Nat) : List ObjRow :=
  if calItems.contains i then objTableCal
  else if 0x7100 ≤ i && i < 0x7900 then objTableSrc
  else match i / 0x1000 with
    | 1 => objTable1.filter (fun r => r.idx == i)
    | 2 => objTable2.filter (fun r => r.idx == i)
    | 3 => objTable3.filter (fun r => r.idx == i)
    | 4 => objTable4.filter (fun r => r.idx == i)
    | 5 => objTable5.filter (fun r => r.idx == i)
    | 6 => objTable6.filter (fun r => r.idx == i)
    | 7 => objTable7.filter (fun r => r.idx == i)
    | 8 => objTable8.filter (fun r => r.idx == i)
    | 15 => objTableF.filter (fun r => r.idx == i)
    | _ => []

/-- The number N of value subindices that subindex 0 reads (R163). -/
def objCount (i : Nat) : Nat :=
  let rs := (objRows i).filter (fun r => r.hi < 0xF0)
  let top := rs.foldl (fun n r => max n r.hi) 0
  if calItems.contains i then top - 1 else top

/-- The row of a subindex; subindex 0 is a CONST U8 of every object (R163). DESIGN CHOICE (log entry 156): every role may read
subindex 0. -/
def objRow? (i sub : Nat) : Option ObjRow :=
  match objRows i with
  | [] => none
  | rs => if sub = 0 then some ⟨i, 0, 0, .u8, .const, 7, objCount i, 0, .any⟩
          else rs.find? (fun r => decide (r.lo ≤ sub) && decide (sub ≤ r.hi))

/-- The throttle and alarm thresholds of R93, in 1/16 of a degree: logic, HBM, power stage, NAND, optical. -/
def thermDefault (sub : Nat) : Nat :=
  match sub with
  | 1 => 1520
  | 2 => 1600
  | 3 => 1360
  | 4 => 1520
  | 5 => 1760
  | 6 => 1920
  | 7 => 1120
  | 8 => 1280
  | 9 => 1120
  | 10 => 1200
  | _ => 0

/-- What the table of R736 gives a source: kind, base class, contained reaction, recovery by reset only, fixed. -/
structure SrcInfo where
  level : Bool := false
  cls : Nat
  react : Nat := 0
  byReset : Bool := false
  fixed : Bool := false
  deriving DecidableEq, Repr

/-- A fixed fatal event source. -/
def srcFatal (react : Nat := 0) : SrcInfo := { cls := 2, react := react, byReset := true, fixed := true }

/-- The sources of R736 below 0x100. -/
def srcInfoModule (n : Nat) : Option SrcInfo :=
  if n ≤ 1 then some srcFatal
  else if n = 2 then some { level := true, cls := 0 }
  else if n = 3 then some { cls := 0 }
  else if 8 ≤ n && n < 0x20 then some srcFatal
  else match n with
    | 0x20 => some { level := true, cls := 0 }
    | 0x21 => some { level := true, cls := 1 }
    | 0x22 => some srcFatal
    | 0x23 => some { level := true, cls := 1, byReset := true }
    | 0x40 => some { level := true, cls := 0 }
    | 0x41 => some { level := true, cls := 1 }
    | 0x42 => some { level := true, cls := 0 }
    | 0x60 => some { cls := 1 }
    | 0x61 => some { cls := 1 }
    | 0x62 => some { cls := 1 }
    | 0x63 => some srcFatal
    | 0x64 => some { cls := 1, byReset := true }
    | 0x65 => some { cls := 1, byReset := true }
    | 0x66 => some { cls := 1, byReset := true }
    | 0x67 => some { cls := 1, byReset := true }
    | 0x68 => some { cls := 0 }
    | 0x69 => some { cls := 0 }
    | 0x6A => some srcFatal
    | 0x80 => some { cls := 1 }
    | 0x81 => some { cls := 1, byReset := true }
    | 0x82 => some { level := true, cls := 0, byReset := true }
    | 0x83 => some { level := true, cls := 1, byReset := true }
    | 0x84 => some { cls := 0 }
    | 0x85 => some { level := true, cls := 1 }
    | 0x86 => some { cls := 0 }
    | 0x87 => some { cls := 1, byReset := true }
    | 0xC0 => some { cls := 0 }
    | 0xC1 => some { cls := 0 }
    | 0xC2 => some { cls := 1, byReset := true }
    | 0xC3 => some { cls := 1 }
    | _ =>
      if 0xD0 ≤ n && n < 0xF6 then
        if n % 2 = 0 then some { level := true, cls := 0 }
        else some { level := true, cls := 1, byReset := true, fixed := true,
                    react := (if n < 0xF0 then 2 else if n = 0xF1 then 4 else 3) }
      else none

/-- The sources of the Gate and the UCIe links. -/
def srcInfoGate (n : Nat) : Option SrcInfo :=
  if 0x280 ≤ n then
    (if n < 0x280 + 76 then some (if n % 2 = 0 then { cls := 0, react := 1 } else srcFatal) else none)
  else if 0x140 ≤ n && n ≤ 0x146 then some { cls := 0 }
  else if 0x160 ≤ n && n ≤ 0x162 then some { cls := 0 }
  else match n with
    | 0x100 => some { cls := 0 }
    | 0x101 => some { cls := 1 }
    | 0x102 => some { cls := 0 }
    | 0x103 => some { cls := 1, react := 4, fixed := true }
    | 0x104 => some { cls := 0 }
    | 0x105 => some { cls := 0 }
    | 0x106 => some { cls := 0 }
    | 0x107 => some { cls := 0 }
    | 0x108 => some { cls := 0 }
    | 0x109 => some { level := true, cls := 1 }
    | 0x10A => some { cls := 1, byReset := true }
    | 0x10B => some { cls := 0 }
    | 0x10C => some { level := true, cls := 1 }
    | 0x170 => some { cls := 1 }
    | 0x180 => some { cls := 1 }
    | 0x181 => some { cls := 0 }
    | 0x182 => some { cls := 1 }
    | 0x183 => some { cls := 1 }
    | 0x184 => some { cls := 1 }
    | 0x27F => some srcFatal
    | _ => none

/-- The sources of a plot, an HBM stack and a Tramline die, by their offset. -/
def srcInfoPlot (o : Nat) : Option SrcInfo :=
  match o with
  | 0 => some { cls := 0, react := 2 }
  | 1 => some { cls := 1 }
  | 2 => some { cls := 1, react := 2, byReset := true }
  | 3 => some { cls := 1, react := 2, byReset := true }
  | 4 => some { cls := 1, react := 2, byReset := true }
  | 5 => some { cls := 1, react := 2, byReset := true }
  | 6 => some { cls := 1, react := 2, byReset := true }
  | 7 => some { cls := 0 }
  | 8 => some srcFatal
  | 9 => some { cls := 1, react := 2, byReset := true }
  | 0x3F => some srcFatal
  | _ => none
def srcInfoHbm (o : Nat) : Option SrcInfo :=
  match o with
  | 0 => some { cls := 0, react := 1 }
  | 1 => some { cls := 1 }
  | 2 => some { cls := 1, react := 1 }
  | _ => none
def srcInfoTram (first : Bool) (o : Nat) : Option SrcInfo :=
  if o < 4 then some { cls := 1 }
  else match o with
    | 4 => some { level := true, cls := 0 }
    | 5 => some { cls := 0, react := 3 }
    | 6 => some { cls := 1, react := 3, byReset := true }
    | 0x10 => if first then some { level := true, cls := 1 } else none
    | 0x11 => if first then some { cls := 0 } else none
    | 0x12 => if first then some { cls := 0 } else none
    | 0x3F => some (srcFatal 3)
    | _ => none

/-- The table of R736; none for a reserved number (R735). -/
def srcInfo (n : Nat) : Option SrcInfo :=
  if n < 0x100 then srcInfoModule n
  else if n < 0x300 then srcInfoGate n
  else if n < 0x700 then srcInfoPlot (n % 0x40)
  else if n < 0x780 then srcInfoHbm (n % 0x10)
  else if n < 0x800 then srcInfoTram (decide (n < 0x7C0)) (n % 0x40)
  else none

/-- The sources that escalate after power-on (R738): HOST_LINK_CE, UCIE_CE, PLOT_TILTH_CE, HBM_CE, TRAM_LINK_CE. -/
def srcEscalates (n : Nat) : Bool :=
  n == 0x100 || (decide (0x280 ≤ n) && decide (n < 0x2CC) && n % 2 == 0)
    || (decide (0x300 ≤ n) && decide (n < 0x700) && n % 0x40 == 0)
    || (decide (0x700 ≤ n) && decide (n < 0x780) && n % 0x10 == 0) || n == 0x785 || n == 0x7C5

/-- FC_SRC_CFG bits [47:0] after power-on with no committed setting (R738, R781). -/
def srcCfgDefault (n : Nat) : Nat :=
  match srcInfo n with
  | some i => i.cls + i.react * 2 ^ 2 + 2 ^ 5 + (if srcEscalates n then 2 ^ 6 + 64 * 2 ^ 8 else 0) + 1000 * 2 ^ 16 + 1000 * 2 ^ 32
  | none => 0

/-- The Default column (R172). -/
def odDefault (k : Nat) : Nat :=
  if k / 256 = 0x2062 then thermDefault (k % 256)
  else if 0x7100 ≤ k / 256 && k / 256 < 0x7900 && k % 256 = 6 then srcCfgDefault (k / 256 - 0x7100)
  else match objRow? (k / 256) (k % 256) with
    | some r => r.dflt
    | none => 0

namespace O
abbrev vendorId : Nat := 0x100001
abbrev deviceId : Nat := 0x100002
abbrev stepping : Nat := 0x100003
abbrev product : Nat := 0x100004
abbrev serial : Nat := 0x100005
abbrev macAddr : Nat := 0x100006
abbrev mfgDate : Nat := 0x100007
abbrev carrierRev : Nat := 0x100008
abbrev fwVersion : Nat := 0x100009
abbrev bootromVersion : Nat := 0x10000A
abbrev dictVersion : Nat := 0x10000B
abbrev plotCount : Nat := 0x100101
abbrev hbmBytes : Nat := 0x100102
abbrev furrowCount : Nat := 0x100103
abbrev rowCount : Nat := 0x100104
abbrev stakeCount : Nat := 0x100105
abbrev pasidContexts : Nat := 0x100106
abbrev seedRawBytes : Nat := 0x100107
abbrev lotLimit : Nat := 0x100108
abbrev plcaToTimer : Nat := 0x110001
abbrev plcaBurstCount : Nat := 0x110002
abbrev plcaBurstTimer : Nat := 0x110003
abbrev plcaStatus : Nat := 0x110004
abbrev framesRx : Nat := 0x110005
abbrev framesTx : Nat := 0x110006
abbrev fallbacks : Nat := 0x110007
abbrev foreignDropped : Nat := 0x110008
abbrev authDropped : Nat := 0x110009
abbrev replayDropped : Nat := 0x11000A
abbrev rateDropped : Nat := 0x11000B
abbrev hopNonce : Nat := 0x111001
abbrev hopKeyGen : Nat := 0x111002
abbrev hopKeyNew : Nat := 0x111003
abbrev hopKeySwitch : Nat := 0x111004
abbrev hopWindow : Nat := 0x111005
abbrev hopRateLimit : Nat := 0x111006
abbrev mgrRouteEnable : Nat := 0x113001
abbrev mgrAddr : Nat := 0x113002
abbrev mgrOps : Nat := 0x113003
abbrev mgrRefused : Nat := 0x113004
abbrev persistCommit : Nat := 0x120001
abbrev persistStatus : Nat := 0x120002
abbrev persistDefaults : Nat := 0x120003
abbrev persistSeq : Nat := 0x120004
abbrev persistCommits : Nat := 0x120005
abbrev persistDirty : Nat := 0x120006
abbrev lockRequest : Nat := 0x121001
abbrev lockHeldF : Nat := 0x121002
abbrev lockHeldH : Nat := 0x121003
abbrev lockHeldM : Nat := 0x121004
abbrev txnExpired : Nat := 0x121005
abbrev notifyDestMac : Nat := 0x130001
abbrev notifyLost : Nat := 0x130002
abbrev subscription : Nat := 0x130101
abbrev subThreshold : Nat := 0x130201
abbrev resetCause : Nat := 0x188001
abbrev lastStartCause : Nat := 0x188002
abbrev powerOnCount : Nat := 0x188003
abbrev perstCount : Nat := 0x188004
abbrev hotResetCount : Nat := 0x188005
abbrev flrCount : Nat := 0x188006
abbrev hlResetCount : Nat := 0x188007
abbrev perstGlitchCount : Nat := 0x188008
abbrev startPhase : Nat := 0x188101
abbrev startTime : Nat := 0x188102
abbrev hbmTrainSource : Nat := 0x188103
abbrev hbmScrubOnReset : Nat := 0x188201
abbrev scrubPending : Nat := 0x188202
abbrev hlResetRequest : Nat := 0x188301
abbrev hlWdtTimeout : Nat := 0x188302
abbrev bootImage : Nat := 0x188401
abbrev bootState : Nat := 0x188402
abbrev trialsLeft : Nat := 0x188403
abbrev imageAStatus : Nat := 0x188404
abbrev imageBStatus : Nat := 0x188405
abbrev bootControlSeq : Nat := 0x188406
abbrev plotFenced : Nat := 0x188501
abbrev plotReset : Nat := 0x188502
abbrev plotFence : Nat := 0x188503
abbrev tramReset : Nat := 0x188504
abbrev fwTarget : Nat := 0x189001
abbrev fwBegin : Nat := 0x189002
abbrev fwData : Nat := 0x189003
abbrev fwStatus : Nat := 0x189004
abbrev fwVerify : Nat := 0x189005
abbrev fwActivate : Nat := 0x189006
abbrev fwConfirm : Nat := 0x189007
abbrev fwVersionA : Nat := 0x189008
abbrev fwVersionB : Nat := 0x189009
abbrev fwOwner : Nat := 0x18900A
abbrev fwReceived : Nat := 0x18900B
abbrev pwrState : Nat := 0x200001
abbrev pwrRequest : Nat := 0x200002
abbrev pwrReqStatus : Nat := 0x200003
abbrev plotPowered : Nat := 0x200004
abbrev plotHold : Nat := 0x200005
abbrev plotIdleTimeout : Nat := 0x200006
abbrev fallowWakeMask : Nat := 0x200007
abbrev vin : Nat := 0x201001
abbrev iin : Nat := 0x201002
abbrev pin : Nat := 0x201003
abbrev brownoutCount : Nat := 0x201004
abbrev dipCount : Nat := 0x201005
abbrev pkgPower : Nat := 0x202001
abbrev pkgEnergy : Nat := 0x202002
abbrev peakEvents : Nat := 0x202003
abbrev throttleLevel : Nat := 0x202004
abbrev powerCap : Nat := 0x202101
abbrev capWindow : Nat := 0x202102
abbrev hostThrottle : Nat := 0x202103
abbrev capReason : Nat := 0x202104
abbrev shedState : Nat := 0x203001
abbrev shedCount : Nat := 0x203002
abbrev shedReleaseRamp : Nat := 0x203003
abbrev tickSource : Nat := 0x204001
abbrev rackrefValid : Nat := 0x204002
abbrev tickSwitchCount : Nat := 0x204003
abbrev hfastIdle : Nat := 0x204004
abbrev pllLock : Nat := 0x204005
abbrev domainOn : Nat := 0x205001
abbrev hottest : Nat := 0x206001
abbrev hottestSensor : Nat := 0x206002
abbrev sensorFailed : Nat := 0x206003
abbrev temp : Nat := 0x206101
abbrev thermThresh : Nat := 0x206201
abbrev tripLatched : Nat := 0x206301
abbrev tripSensor : Nat := 0x206302
abbrev signalLive : Nat := 0x207001
abbrev signalChanges : Nat := 0x207002
abbrev inrushMs : Nat := 0x207003
abbrev vinMin : Nat := 0x207004
abbrev iinMax : Nat := 0x207005
abbrev calFormat : Nat := 0x280001
abbrev calCrc : Nat := 0x280002
abbrev calState : Nat := 0x280003
abbrev calCommits : Nat := 0x280004
abbrev calCommit : Nat := 0x280005
abbrev calCommitStatus : Nat := 0x280006
abbrev calUnlock : Nat := 0x280101
abbrev calUnlocked : Nat := 0x280102
abbrev calUnlockLeft : Nat := 0x280103
abbrev linkUp : Nat := 0x300001
abbrev linkSpeed : Nat := 0x300002
abbrev linkWidth : Nat := 0x300003
abbrev linkFlit : Nat := 0x300004
abbrev linkProtocol : Nat := 0x300005
abbrev ltssmState : Nat := 0x300006
abbrev l0pWidth : Nat := 0x300007
abbrev linkSpeedMax : Nat := 0x300101
abbrev linkWidthMax : Nat := 0x300102
abbrev aspmL1Idle : Nat := 0x300201
abbrev l0pIdle : Nat := 0x300202
abbrev l0pMinWidth : Nat := 0x300203
abbrev ltrActive : Nat := 0x300204
abbrev ltrFallow : Nat := 0x300205
abbrev recoveryCount : Nat := 0x300301
abbrev l1Entries : Nat := 0x300302
abbrev l12Entries : Nat := 0x300303
abbrev l0pChanges : Nat := 0x300304
abbrev fecCorrected : Nat := 0x300305
abbrev replays : Nat := 0x300306
abbrev speedChanges : Nat := 0x300307
abbrev mmioLateCount : Nat := 0x300308
abbrev cplTimeouts : Nat := 0x301001
abbrev urReceived : Nat := 0x301002
abbrev caReceived : Nat := 0x301003
abbrev unexpectedCpl : Nat := 0x301004
abbrev poisonReceived : Nat := 0x301005
abbrev poisonSent : Nat := 0x301006
abbrev urSent : Nat := 0x301007
abbrev caSent : Nat := 0x301008
abbrev mmioDiscarded : Nat := 0x301009
abbrev freezes : Nat := 0x30100A
abbrev lateCplDiscarded : Nat := 0x30100B
abbrev frozenNow : Nat := 0x30100C
abbrev doorbells : Nat := 0x310001
abbrev inlineAccepted : Nat := 0x310002
abbrev ringEntries : Nat := 0x310003
abbrev tailRejected : Nat := 0x310004
abbrev inlineDiscarded : Nat := 0x310005
abbrev descFailed : Nat := 0x310006
abbrev stamps : Nat := 0x310007
abbrev records3100 : Nat := 0x310008
abbrev storeFull : Nat := 0x310009
abbrev storeHigh : Nat := 0x31000A
abbrev furrowsEnabled : Nat := 0x31000B
abbrev lookups : Nat := 0x320001
abbrev misses : Nat := 0x320002
abbrev walks : Nat := 0x320003
abbrev walkerReads : Nat := 0x320004
abbrev adCas : Nat := 0x320005
abbrev adCasRetries : Nat := 0x320006
abbrev atsRequests : Nat := 0x320007
abbrev atsInvalidations : Nat := 0x320008
abbrev commands : Nat := 0x320009
abbrev recalls : Nat := 0x32000A
abbrev runaheadWaits : Nat := 0x32000B
abbrev walkErrors : Nat := 0x32000C
abbrev denials : Nat := 0x32000D
abbrev xlateMode : Nat := 0x320101
abbrev modeSwitches : Nat := 0x320102
abbrev cacheUsed : Nat := 0x320103
abbrev parcelsUsed : Nat := 0x320104
abbrev contextsValid : Nat := 0x320105
abbrev faultMode : Nat := 0x320201
abbrev faultTimeoutMs : Nat := 0x320202
abbrev faults : Nat := 0x320203
abbrev faultsAttached : Nat := 0x320204
abbrev faultsAborted : Nat := 0x320205
abbrev autoRetries : Nat := 0x320206
abbrev responses : Nat := 0x320207
abbrev staleResponses : Nat := 0x320208
abbrev ringFullEvents : Nat := 0x320209
abbrev pageRequests : Nat := 0x32020A
abbrev prgResponses : Nat := 0x32020B
abbrev prgUnexpected : Nat := 0x32020C
abbrev faultTimeouts : Nat := 0x32020D
abbrev migMode : Nat := 0x320401
abbrev migEpochUs : Nat := 0x320402
abbrev migHotThreshold : Nat := 0x320403
abbrev migRow : Nat := 0x320404
abbrev migParcelFirst : Nat := 0x320405
abbrev migParcelCount : Nat := 0x320406
abbrev promotions : Nat := 0x320407
abbrev evictions : Nat := 0x320408
abbrev writebackBytes : Nat := 0x320409
abbrev writebackLost : Nat := 0x32040A
abbrev countersInUse : Nat := 0x32040B
abbrev cohActive : Nat := 0x320501
abbrev sfUsed : Nat := 0x320502
abbrev bisnpSent : Nat := 0x320503
abbrev sfEvictions : Nat := 0x320504
abbrev dccHits : Nat := 0x320505
abbrev dccMisses : Nat := 0x320506
abbrev dccWritebacks : Nat := 0x320507
abbrev bytesRead : Nat := 0x330001
abbrev bytesWritten : Nat := 0x330002
abbrev descriptors : Nat := 0x330003
abbrev harrowBytes : Nat := 0x330004
abbrev memmoves : Nat := 0x330005
abbrev feedRequests : Nat := 0x330006
abbrev feedWithdrawn : Nat := 0x330007
abbrev remoteLate : Nat := 0x330008
abbrev hopperHigh : Nat := 0x330009
abbrev remoteReadTimeout : Nat := 0x33000A
abbrev programsRun : Nat := 0x400001
abbrev programsFailed : Nat := 0x400002
abbrev programLoads : Nat := 0x400003
abbrev residentHits : Nat := 0x400004
abbrev scrubs : Nat := 0x400005
abbrev macs : Nat := 0x400006
abbrev gleanIndices : Nat := 0x400007
abbrev gleanCacheHits : Nat := 0x400008
abbrev gleanOob : Nat := 0x400009
abbrev inexactCells : Nat := 0x40000A
abbrev plotState : Nat := 0x400101
abbrev waitersInUse : Nat := 0x480001
abbrev waitersHigh : Nat := 0x480002
abbrev ops : Nat := 0x480003
abbrev waitsMet : Nat := 0x480004
abbrev timeouts : Nat := 0x480005
abbrev wraps : Nat := 0x480006
abbrev denied : Nat := 0x480007
abbrev remoteOps : Nat := 0x480008
abbrev remoteRefused : Nat := 0x480009
abbrev waiterFull : Nat := 0x48000A
abbrev stakeTimeoutUs : Nat := 0x480101
abbrev timeoutMode : Nat := 0x480102
abbrev strapSampled : Nat := 0x500001
abbrev pkgAddr : Nat := 0x500002
abbrev pkgAddrValid : Nat := 0x500003
abbrev t1sNode : Nat := 0x500004
abbrev hostMode : Nat := 0x500005
abbrev strapLive : Nat := 0x500006
abbrev strapChanged : Nat := 0x500007
abbrev strapStatus : Nat := 0x500008
abbrev strapTries : Nat := 0x500009
abbrev gpEnable : Nat := 0x500101
abbrev gpIn : Nat := 0x500102
abbrev portStatus : Nat := 0x501001
abbrev portCorrected : Nat := 0x501101
abbrev portReplays : Nat := 0x501201
abbrev portMargin : Nat := 0x501301
abbrev portEnable : Nat := 0x501401
abbrev retrains : Nat := 0x501501
abbrev msgsTx : Nat := 0x501601
abbrev msgsRx : Nat := 0x501602
abbrev relayed : Nat := 0x501603
abbrev stileRefused : Nat := 0x501604
abbrev portDownFails : Nat := 0x501605
abbrev misrouted : Nat := 0x501606
abbrev protocolDiscards : Nat := 0x501607
abbrev rtState : Nat := 0x502001
abbrev rackTime : Nat := 0x502002
abbrev epoch : Nat := 0x502003
abbrev epochIgnored : Nat := 0x502004
abbrev rtSteps : Nat := 0x502005
abbrev timeMaster : Nat := 0x502006
abbrev sliceTimeOffset : Nat := 0x502007
abbrev lastEpochError : Nat := 0x502008
abbrev sliceState : Nat := 0x503001
abbrev sliceId : Nat := 0x503002
abbrev memberIndex : Nat := 0x503003
abbrev memberCount : Nat := 0x503004
abbrev sliceAccept : Nat := 0x503005
abbrev slicePasid : Nat := 0x503006
abbrev haltAction : Nat := 0x503007
abbrev haltCause : Nat := 0x503008
abbrev haltSource : Nat := 0x503009
abbrev hbMissed : Nat := 0x50300A
abbrev barrierStakes : Nat := 0x50300B
abbrev sliceRelease : Nat := 0x50300C
abbrev sliceLot : Nat := 0x50300D
abbrev mgrState : Nat := 0x504001
abbrev mgrSliceId : Nat := 0x504002
abbrev mgrMembers : Nat := 0x504003
abbrev mgrSpares : Nat := 0x504004
abbrev mgrTramlines : Nat := 0x504005
abbrev mgrBarrier : Nat := 0x504006
abbrev mgrCmd : Nat := 0x504007
abbrev mgrResult : Nat := 0x504008
abbrev restartAuto : Nat := 0x504009
abbrev mgrFaultLog : Nat := 0x50400A
abbrev restartGen : Nat := 0x50400B
abbrev mgrExcluded : Nat := 0x50400C
abbrev tramRoute : Nat := 0x505001
abbrev geometry : Nat := 0x600001
abbrev ftlMode : Nat := 0x600101
abbrev ftlState : Nat := 0x600102
abbrev replayUs : Nat := 0x600103
abbrev peMin : Nat := 0x601001
abbrev peAvg : Nat := 0x601002
abbrev peMax : Nat := 0x601003
abbrev lifeUsed : Nat := 0x601004
abbrev spareInitial : Nat := 0x601005
abbrev spareLeft : Nat := 0x601006
abbrev factoryBad : Nat := 0x601007
abbrev grownBad : Nat := 0x601008
abbrev diesFailed : Nat := 0x601009
abbrev lotBytes : Nat := 0x60100A
abbrev nandBytes : Nat := 0x60100B
abbrev retryReads : Nat := 0x60100C
abbrev parityRebuilds : Nat := 0x60100D
abbrev ueSectors : Nat := 0x60100E
abbrev refreshes : Nat := 0x60100F
abbrev wearMoves : Nat := 0x601010
abbrev scrubLagH : Nat := 0x601011
abbrev scrubInterval : Nat := 0x602001
abbrev scrubRate : Nat := 0x602002
abbrev refreshRetry : Nat := 0x602003
abbrev refreshBits : Nat := 0x602004
abbrev wearSpread : Nat := 0x602005
abbrev readDisturb : Nat := 0x602006
abbrev badblocks : Nat := 0x603001
abbrev lotCmd : Nat := 0x610001
abbrev lotCmdStatus : Nat := 0x610002
abbrev lotsUsed : Nat := 0x610003
abbrev lotCapacity : Nat := 0x610004
abbrev lotReserved : Nat := 0x610005
abbrev lotSel : Nat := 0x610006
abbrev lotState : Nat := 0x610101
abbrev lotPasid : Nat := 0x610102
abbrev lotSize : Nat := 0x610103
abbrev lotDlvBase : Nat := 0x610104
abbrev lotRights : Nat := 0x610105
abbrev genNewest : Nat := 0x610106
abbrev genOther : Nat := 0x610107
abbrev lotFlags : Nat := 0x610108
abbrev lotStored : Nat := 0x610109
abbrev rotMode : Nat := 0x620001
abbrev rotRun : Nat := 0x620002
abbrev rotSubmit : Nat := 0x620003
abbrev rotSubmitStatus : Nat := 0x620004
abbrev rotCmd : Nat := 0x620005
abbrev rotPool : Nat := 0x620006
abbrev rotStakes : Nat := 0x620007
abbrev residentMax : Nat := 0x620008
abbrev rotStatus : Nat := 0x620009
abbrev poolFree : Nat := 0x62000A
abbrev rotPoolReset : Nat := 0x62000B
abbrev sows : Nat := 0x62000C
abbrev reaps : Nat := 0x62000D
abbrev rotFailed : Nat := 0x62000E
abbrev rotAbandoned : Nat := 0x62000F
abbrev sowBytes : Nat := 0x620010
abbrev reapBytes : Nat := 0x620011
abbrev rotSel : Nat := 0x620012
abbrev entryState : Nat := 0x620101
abbrev entry : Nat := 0x620102
abbrev entryCode : Nat := 0x620103
abbrev genSown : Nat := 0x620104
abbrev genCommitted : Nat := 0x620105
abbrev entryFlags : Nat := 0x620106
abbrev tSown : Nat := 0x620107
abbrev tDone : Nat := 0x620108
abbrev fcMode : Nat := 0x700001
abbrev queued : Nat := 0x700002
abbrev fatalUsed : Nat := 0x700003
abbrev records7000 : Nat := 0x700004
abbrev dropped : Nat := 0x700005
abbrev lost : Nat := 0x700006
abbrev fatalLostCount : Nat := 0x700007
abbrev ringRecords : Nat := 0x700008
abbrev recSpacing : Nat := 0x700009
abbrev lastFatal : Nat := 0x70000A
abbrev railState : Nat := 0x70000B
abbrev recordNext : Nat := 0x700101
abbrev fatalLog : Nat := 0x700201
abbrev splitWalk : Nat := 0x800001
abbrev splitFault : Nat := 0x800002
abbrev splitMig : Nat := 0x800003
abbrev splitFtl : Nat := 0x800004
abbrev splitRotation : Nat := 0x800005
abbrev splitClassify : Nat := 0x800006
abbrev splitRetrain : Nat := 0x800007
abbrev splitCap : Nat := 0x800008
abbrev splitStakeTo : Nat := 0x800009
abbrev splitPending : Nat := 0x80000A
abbrev splitSwitches : Nat := 0x80000B
abbrev overrideHoldS : Nat := 0x800101
abbrev logSeq : Nat := 0x800102
abbrev logOverwritten : Nat := 0x800103
abbrev log : Nat := 0x800104
abbrev decisions : Nat := 0x800105
abbrev policyPowerMode : Nat := 0x801001
abbrev policyPowerLastSeq : Nat := 0x801002
abbrev marginC : Nat := 0x801003
abbrev stepW : Nat := 0x801004
abbrev floorW : Nat := 0x801005
abbrev policyMigrationMode : Nat := 0x801101
abbrev policyMigrationLastSeq : Nat := 0x801102
abbrev threshMin : Nat := 0x801103
abbrev threshMax : Nat := 0x801104
abbrev policySeedbankMode : Nat := 0x801201
abbrev policySeedbankLastSeq : Nat := 0x801202
abbrev rateMin : Nat := 0x801203
abbrev rateMax : Nat := 0x801204
abbrev spreadMin : Nat := 0x801205
abbrev policyLinkMode : Nat := 0x801301
abbrev policyLinkLastSeq : Nat := 0x801302
abbrev hostCeRate : Nat := 0x801303
abbrev retrainLimit : Nat := 0x801304
abbrev portRetrain : Nat := 0x801305
abbrev policyFaultMode : Nat := 0x801401
abbrev policyFaultLastSeq : Nat := 0x801402
abbrev escMin : Nat := 0x801403
abbrev policyRotationMode : Nat := 0x801501
abbrev policyRotationLastSeq : Nat := 0x801502
abbrev residentLimit : Nat := 0x801503
abbrev policyFallowMode : Nat := 0x801601
abbrev policyFallowLastSeq : Nat := 0x801602
abbrev idleS : Nat := 0x801603
abbrev wakeAfterS : Nat := 0x801604
abbrev forceArm : Nat := 0xF00001
abbrev forceLeft : Nat := 0xF00002
abbrev forceRail : Nat := 0xF00101
abbrev railLevel : Nat := 0xF00102
abbrev forceEvent : Nat := 0xF10001
abbrev forceLevel : Nat := 0xF10101
abbrev forcedCount : Nat := 0xF10201
end O

end Sys2Proof.Machine
end

