-- ==== Sys2Proof/Machine/Ops.lean ====
section
/-! DEFINITION. The named operations over the sparse tables, memory, object values, registers and engines that every
family uses. -/

namespace Sys2Proof.Machine

/-! ### Sparse tables -/

/-- The value listed under a key. -/
def kvFind {α : Type} : List (Nat × α) → Nat → Option α
  | [], _ => none
  | (a, v) :: m, k => if a = k then some v else if k < a then none else kvFind m k

/-- The table without a key. -/
def kvErase {α : Type} : List (Nat × α) → Nat → List (Nat × α)
  | [], _ => []
  | (a, v) :: m, k => if a = k then m else if k < a then (a, v) :: m else (a, v) :: kvErase m k

/-- The table with a key listed. -/
def kvPut {α : Type} : List (Nat × α) → Nat → α → List (Nat × α)
  | [], k, v => [(k, v)]
  | (a, w) :: m, k, v => if a = k then (k, v) :: m else if k < a then (k, v) :: (a, w) :: m else (a, w) :: kvPut m k v

/-- The value of a key: what is listed, or the default. -/
def kvGet {α : Type} (d : α) (m : List (Nat × α)) (k : Nat) : α := (kvFind m k).getD d

/-- Write a value; the default is not listed, so equal tables are equal data. -/
def kvSet {α : Type} [DecidableEq α] (d : α) (m : List (Nat × α)) (k : Nat) (v : α) : List (Nat × α) :=
  if v = d then kvErase m k else kvPut m k v

/-- Keys strictly rising from `lo` on, no value equal to the default. -/
def kvWfFrom {α : Type} [DecidableEq α] (d : α) : Nat → List (Nat × α) → Bool
  | _, [] => true
  | lo, (a, v) :: m => decide (lo ≤ a) && !decide (v = d) && kvWfFrom d (a + 1) m

/-- The canonical form of a sparse table. -/
def kvWf {α : Type} [DecidableEq α] (d : α) (m : List (Nat × α)) : Bool := kvWfFrom d 0 m

/-! ### Bits and bytes -/

/-- Bits [hi:lo] of a register value (R3). -/
def fld (v hi lo : Nat) : Nat := (v / 2 ^ lo) % 2 ^ (hi + 1 - lo)

/-- Bit n. -/
def bit (v n : Nat) : Bool := v.testBit n

/-- A value with bits [hi:lo] replaced. -/
def setFld (v hi lo x : Nat) : Nat :=
  v - fld v hi lo * 2 ^ lo + (x % 2 ^ (hi + 1 - lo)) * 2 ^ lo

/-- A value with bit n set to b. -/
def setBit (v n : Nat) (b : Bool) : Nat := setFld v n n (if b then 1 else 0)

/-- A Boolean as a bit. -/
def b2n (b : Bool) : Nat := if b then 1 else 0

/-- The number little-endian bytes spell (R2). -/
def leNat : List Byte → Nat
  | [] => 0
  | b :: bs => b.toNat + 256 * leNat bs

/-- The n little-endian bytes of a number. -/
def natLe : Nat → Nat → List Byte
  | 0, _ => []
  | n + 1, v => BitVec.ofNat 8 v :: natLe n (v / 256)

/-- Two's complement of width w read as an integer. -/
def sext (w v : Nat) : Int := if v % 2 ^ w < 2 ^ (w - 1) then (v % 2 ^ w : Int) else (v % 2 ^ w : Int) - (2 ^ w : Int)

/-- An integer as two's complement of width w. -/
def toTwos (w : Nat) (i : Int) : Nat := (i % (2 ^ w : Int)).toNat

/-- `n` bytes of a list from an offset, as a number. -/
def bytesAt (bs : List Byte) (off n : Nat) : Nat := leNat ((bs.drop off).take n)

/-! ### Memory -/

/-- What a byte of HBM or tilth that nothing has written reads as (log entry 6). -/
def memDefault : Byte := 0

/-- One byte. -/
def memByte (m : List Host.Cell) (a : Nat) : Byte := kvGet memDefault m a

/-- `n` bytes from an address. -/
def memRead (m : List Host.Cell) (a : Nat) : Nat → List Byte
  | 0 => []
  | n + 1 => memByte m a :: memRead m (a + 1) n

/-- Write bytes from an address. -/
def memWrite (m : List Host.Cell) (a : Nat) : List Byte → List Host.Cell
  | [] => m
  | b :: bs => memWrite (kvSet memDefault m a b) (a + 1) bs

/-- Write the bytes whose byte enable is set. -/
def memWriteEn (m : List Host.Cell) (a : Nat) : List (Byte × Bool) → List Host.Cell
  | [] => m
  | (b, e) :: bs => memWriteEn (if e then kvSet memDefault m a b else m) (a + 1) bs

/-- The entries below `lo` and from `hi` on: the range [lo, hi) zeroed. -/
def memZero {α : Type} (m : List (Nat × α)) (lo hi : Nat) : List (Nat × α) :=
  m.filter (fun c => decide (c.1 < lo) || decide (hi ≤ c.1))

/-- The memory's canonical form. -/
def Memory.wf (m : List Host.Cell) : Bool := kvWf memDefault m

/-! ### Object values and counters -/

/-- The stored value of an object (index * 256 + subindex). -/
def State.val (s : State) (k : Nat) : Nat := kvGet (odDefault k) s.od k

/-- Store an object value. -/
def State.setVal (s : State) (k v : Nat) : State := { s with od := kvSet (odDefault k) s.od k v }

/-- Add to a 64-bit event counter; a wrap sets its sticky overflow bit (R216). -/
def State.bumpBy (s : State) (k n : Nat) : State :=
  let v := s.val k + n
  if v < 2 ^ 64 then s.setVal k v
  else
    let o := k / 256 * 256 + 0xFE
    (s.setVal k (v % 2 ^ 64)).setVal o (s.val o ||| 2 ^ (k % 256 - 1))

/-- Count one event. -/
def State.bump (s : State) (k : Nat) : State := s.bumpBy k 1

/-! ### Control-window registers -/

namespace Rg
abbrev apertureMap : Nat := 0x100
abbrev freezeCause : Nat := 0x210
abbrev freezeStatus : Nat := 0x21C
abbrev freezeDiscards : Nat := 0x220
abbrev hostErrOvf : Nat := 0x228
abbrev attnCause : Nat := 0x400
abbrev attnMask : Nat := 0x408
abbrev attnHoldoff : Nat := 0x414
abbrev attnAsserts : Nat := 0x418
abbrev mmioErrInfo : Nat := 0x600
abbrev mmioErrOffset : Nat := 0x608
abbrev mmioErrCount : Nat := 0x610
abbrev cohWindow (k : Nat) : Nat := 0x800 + k * 8
abbrev stile (w off : Nat) : Nat := 0x40000 + w * 0x20 + off
abbrev row (r off : Nat) : Nat := 0x100000 + r * 0x100 + off
abbrev stileRx : Nat := 0x140010
abbrev drillTags : Nat := 0x140018
abbrev harrow (k off : Nat) : Nat := 0x150000 + k * 0x40 + off
abbrev platCtrl : Nat := 0x200008
abbrev tmplA (t : Nat) : Nat := 0x200100 + t * 0x10
abbrev tmplB (t : Nat) : Nat := 0x200108 + t * 0x10
abbrev cmdW (i : Nat) : Nat := 0x200200 + i * 8
abbrev parcelSel : Nat := 0x200300
abbrev faultRing : Nat := 0x201000
abbrev faultCtrl : Nat := 0x201008
abbrev faultHead : Nat := 0x201010
abbrev faultTarget : Nat := 0x201028
abbrev migPool : Nat := 0x202000
abbrev migWindow (w off : Nat) : Nat := 0x202100 + w * 0x20 + off
abbrev pctx (c off : Nat) : Nat := 0x280000 + c * 0x20 + off
abbrev fctx (n off : Nat) : Nat := 0x300000 + n * 0x40 + off
abbrev furrowAge : Nat := 0x340008
abbrev stakeGroup (gr : Nat) : Nat := 0x500000 + gr * 8
abbrev fcRingBase : Nat := 0x1000010
abbrev tilthSplit (n : Nat) : Nat := 0x2000028 + n * 0x100000
end Rg

/-- The After reset column of the control-window registers that software writes, where it is not 0 (R333, R383,
R384, R478, R525, R575, R576, R629). -/
def regReset (a : Nat) : Nat :=
  if a < 0x100000 then (if a = Rg.attnHoldoff then 10 else 0)
  else if a < 0x140000 then (if a % 0x100 = 0x60 then 16 + 128 * 2 ^ 16 + 64 * 2 ^ 32 else 0)
  else if a < 0x150000 then (if a = Rg.stileRx then 512 + 1024 * 2 ^ 16 else if a = Rg.drillTags then 32 else 0)
  else if a < 0x151000 then
    (if a % 0x40 = 0 then 8 * 2 ^ 8 + 2 ^ 16 + 3 * 2 ^ 24 else if a % 0x40 = 8 then 1 else if a % 0x40 = 0x20 then 1 else 0)
  else if a = Rg.platCtrl then 16 + 4 * 2 ^ 8 + 16 * 2 ^ 16 + 2 ^ 24 + 2 ^ 25
  else if 0x200100 ≤ a && a < 0x200180 then
    (if a % 16 = 0 then 12 * 2 ^ 3 + 9 * 2 ^ 8 + 9 * 2 ^ 12 + 2 ^ 16 + 51 * 2 ^ 24
     else if a % 16 = 8 then 2 ^ 6 + 2 * 2 ^ 12 + 5 * 2 ^ 18 + 6 * 2 ^ 24 + 7 * 2 ^ 30 else 0)
  else if a = Rg.faultCtrl then 64 * 2 ^ 8 + 2 * 2 ^ 16
  else if 0x300000 ≤ a && a < 0x340000 then (if a % 0x40 = 0x10 then 256 + 16 * 2 ^ 32 else 0)
  else if a = Rg.furrowAge then 100
  else if 0x2000000 ≤ a && a < 0x3000000 then (if a % 0x100000 = 0x28 then 16 else 0)
  else 0

/-- The stored value of a register, by its offset in the control window. -/
def State.rg (s : State) (a : Nat) : Nat := kvGet (regReset a) s.reg a

/-- Store a register value. -/
def State.setRg (s : State) (a v : Nat) : State := { s with reg := kvSet (regReset a) s.reg a v }

/-- Forget the registers of the range [lo, hi): they take their After-reset values. -/
def State.resetRegs (s : State) (lo hi : Nat) : State := { s with reg := memZero s.reg lo hi }

/-- Count in a 64-bit counter register; a wrap sets bit `ovf` of the register `o` (R216). -/
def State.bumpRg (s : State) (a o ovf : Nat) : State :=
  let v := s.rg a + 1
  if v < 2 ^ 64 then s.setRg a v else (s.setRg a 0).setRg o (s.rg o ||| 2 ^ ovf)

/-! ### The persistence bank in use (R173) -/

/-- The bank in use. -/
def State.bank (s : State) : Bank := if s.dict.bankB then s.dict.banks.2 else s.dict.banks.1

/-- Write to the bank in use what is not left to a commit: a fatal record (R767), a bad block (R711; log entry 153). -/
def State.setBank (s : State) (f : Bank → Bank) : State :=
  let b := s.dict.banks
  { s with dict := { s.dict with banks := if s.dict.bankB then (b.1, f b.2) else (f b.1, b.2) } }

/-! ### Free values and time -/

/-- Draw a free value. -/
def State.draw (s : State) : Nat × State := (Config.freeValue s.free, { s with free := s.free + 1 })

/-- Objects of the origin and the value of a calibration item. -/
def calOrigin (i : Nat) : Nat := i * 256 + 1
def calValue (i : Nat) : Nat := i * 256 + 2

/-- Set an item. -/
def State.setCal (s : State) (i origin value : Nat) : State := (s.setVal (calOrigin i) origin).setVal (calValue i) value

/-- An item learned by the module: origin SELF where no valid value exists (R101). -/
def State.relearn (s : State) (i v : Nat) : State :=
  if s.val (calOrigin i) = 0 then s.setCal i 2 v else s

/-- Learn an item that holds its default (R101): what the training found, or a free value. -/
def State.learn (s : State) (learned : List (Nat × Nat)) (i : Nat) : State :=
  match learned.find? (fun e => e.1 == i) with
  | some (_, v) => s.relearn i (v % 2 ^ 32)
  | none => if s.val (calOrigin i) = 0 then (let d := s.draw; d.2.relearn i (d.1 % 2 ^ 32)) else s

/-- Let time pass up to a moment (an expiry event happens at its deadline; log entry 5). -/
def State.until_ (s : State) (t : Nat) : State := { s with now := max s.now t }

/-- Rack Time now (R658, R660): 65,536 units per ns since the last pulse, in steps of 40,960, and what is left of an error that is slewed
out over 100 µs; 0 until the first pulse was recognised. -/
def State.rackTime (s : State) : Nat :=
  let t := s.now - s.time.baseAt
  let slew := s.time.slew * (100000 - min t 100000 : Nat) / 100000
  if s.time.running then ((s.time.base + t * 65536 / 40960 * 40960 : Nat) + slew).toNat % 2 ^ 64 else 0

/-- Rack Time is valid (R188, R661): a pulse was recognised, and an announcement has arrived. -/
def State.timeValid (s : State) : Bool := s.time.running && !(s.time.state == .unset)

/-- The Headland answers: a silence of it is over (R60). -/
def State.hlAnswers (s : State) : State :=
  { s with pwr := { s.pwr with orphan := false }, hl := { s.hl with silentSince := s.now } }

/-- Work for the Headland's fast clock: it runs, from now on for HFAST_IDLE at least (R86). -/
def State.hlWork (s : State) : State := { s with pwr := { s.pwr with hfast := true, hfastAt := s.now } }

/-! ### Fault events -/

/-- A die sends an event to the collector over the sideband ring (R741); Collector.lean registers it. -/
def State.raise (s : State) (source : Nat) (cap : Cap := {}) : State :=
  { s with fc := { s.fc with ring := s.fc.ring ++ [{ source := source, cap := cap }] } }

/-- Raise only when a condition holds. -/
def State.raiseIf (s : State) (c : Bool) (source : Nat) (cap : Cap := {}) : State :=
  if c then s.raise source cap else s

namespace Sc
abbrev brownout : Nat := 0x000
abbrev inputOv : Nat := 0x001
abbrev shedActive : Nat := 0x002
abbrev peakLimit : Nat := 0x003
abbrev vreg (domain : Nat) : Nat := 0x008 + domain
abbrev thermThrottle : Nat := 0x020
abbrev thermAlarm : Nat := 0x021
abbrev thermTrip : Nat := 0x022
abbrev sensorFailed : Nat := 0x023
abbrev tickRefLost : Nat := 0x040
abbrev rackrefAbsent : Nat := 0x041
abbrev pllHoldover : Nat := 0x042
abbrev hlWatchdog : Nat := 0x060
abbrev fwImageBad : Nat := 0x061
abbrev fwFallback : Nat := 0x062
abbrev fwRecovery : Nat := 0x063
abbrev persistCrc : Nat := 0x064
abbrev calCrc : Nat := 0x065
abbrev strapUnstable : Nat := 0x066
abbrev strapParity : Nat := 0x067
abbrev strapChanged : Nat := 0x068
abbrev seedUe : Nat := 0x080
abbrev seedDieFailed : Nat := 0x081
abbrev seedSpareLow : Nat := 0x082
abbrev seedReadOnly : Nat := 0x083
abbrev seedReplayDiscard : Nat := 0x084
abbrev seedThermOff : Nat := 0x085
abbrev seedProgramFail : Nat := 0x086
abbrev rotPoolLost : Nat := 0x087
abbrev fcQueueOvf : Nat := 0x0C0
abbrev fcStagingFull : Nat := 0x0C1
abbrev fcFatalLost : Nat := 0x0C2
abbrev fcRingFault : Nat := 0x0C3
abbrev hostLinkCe : Nat := 0x100
abbrev hostLinkUe : Nat := 0x101
abbrev hostInternalCe : Nat := 0x102
abbrev hostInternalUe : Nat := 0x103
abbrev hostPoisonRx : Nat := 0x104
abbrev hostCplTimeout : Nat := 0x105
abbrev hostUnexpCpl : Nat := 0x106
abbrev hostUrSent : Nat := 0x107
abbrev hostCaSent : Nat := 0x108
abbrev hostFrozen : Nat := 0x109
abbrev hostCxlFallback : Nat := 0x10A
abbrev cfgRebarBusy : Nat := 0x10B
abbrev headlandSilent : Nat := 0x10C
abbrev mmioShape : Nat := 0x140
abbrev mmioValue : Nat := 0x141
abbrev mmioPoisoned : Nat := 0x142
abbrev mmioLate : Nat := 0x143
abbrev mmioFenced : Nat := 0x144
abbrev earlyAccess : Nat := 0x145
abbrev frozenDiscard : Nat := 0x146
abbrev furrowTail : Nat := 0x160
abbrev furrowInline : Nat := 0x161
abbrev furrowRing : Nat := 0x162
abbrev stakeWrap : Nat := 0x170
abbrev platTableBad : Nat := 0x180
abbrev platCasLimit : Nat := 0x181
abbrev platWalkError : Nat := 0x182
abbrev migWritebackLost : Nat := 0x183
abbrev dccWritebackLost : Nat := 0x184
abbrev gateFatalUnspec : Nat := 0x27F
abbrev plot (n off : Nat) : Nat := 0x300 + n * 0x40 + off
abbrev tram (n off : Nat) : Nat := 0x780 + n * 0x40 + off
end Sc

/-! ### Dictionary status codes (R204) -/

namespace Od
abbrev busy : Nat := 1
abbrev noObject : Nat := 2
abbrev noSubindex : Nat := 3
abbrev typeMismatch : Nat := 4
abbrev readOnly : Nat := 5
abbrev roleDenied : Nat := 6
abbrev locked : Nat := 7
abbrev range : Nat := 8
abbrev state : Nat := 9
abbrev conflict : Nat := 10
abbrev noTxn : Nat := 11
abbrev txnFull : Nat := 12
abbrev tooLong : Nat := 13
abbrev badOp : Nat := 14
abbrev staleNonce : Nat := 15
abbrev notManager : Nat := 16
abbrev keyWrong : Nat := 17
abbrev keyHoldoff : Nat := 18
abbrev domainOff : Nat := 19
abbrev abandoned : Nat := 20
end Od

/-! ### Pieces of State -/

/-- Furrow n. -/
def State.fur (s : State) (n : Nat) : Furrow := kvGet {} s.g.furrows n
def State.setFur (s : State) (n : Nat) (f : Furrow) : State :=
  { s with g := { s.g with furrows := kvSet {} s.g.furrows n f } }
/-- Row r. -/
def State.row (s : State) (r : Nat) : Row := kvGet {} s.drill.rows r
def State.setRow (s : State) (r : Nat) (x : Row) : State :=
  { s with drill := { s.drill with rows := kvSet {} s.drill.rows r x } }
/-- Plot n. -/
def State.plot (s : State) (n : Nat) : Plot := kvGet {} s.plots n
def State.setPlot (s : State) (n : Nat) (p : Plot) : State := { s with plots := kvSet {} s.plots n p }
def State.modPlot (s : State) (n : Nat) (f : Plot → Plot) : State := s.setPlot n (f (s.plot n))
/-- Fabric port p. -/
def State.port (s : State) (p : Nat) : Port := kvGet {} s.fab.ports p
def State.setPort (s : State) (p : Nat) (x : Port) : State :=
  { s with fab := { s.fab with ports := kvSet {} s.fab.ports p x } }
/-- Source n of the collector. -/
def State.src (s : State) (n : Nat) : Src := kvGet {} s.fc.srcs n
def State.setSrc (s : State) (n : Nat) (x : Src) : State :=
  { s with fc := { s.fc with srcs := kvSet {} s.fc.srcs n x } }
/-- Feed ch of plot p. -/
def State.feed (s : State) (p ch : Nat) : Feed := kvGet {} s.drill.feeds (p * 4 + ch)
def State.setFeed (s : State) (p ch : Nat) (x : Feed) : State :=
  { s with drill := { s.drill with feeds := kvSet {} s.drill.feeds (p * 4 + ch) x } }
/-- Stake value. -/
def State.stake (s : State) (k : Nat) : Nat := kvGet 0 s.g.stakes k

/-- Apply a state change for each element of a list, in order. -/
def State.each {α : Type} (s : State) (l : List α) (f : State → α → State) : State := l.foldl f s

end Sys2Proof.Machine
end

