-- ==== Sys2Proof/Machine/CfgSpace.lean ====
section
/-! DEFINITION. The configuration space (R243-R251, R256): reset values and the bits that a write changes, by dword
offset, and the fields the rest of the model reads.  The spec gives the capability list and the fields; the places of
the fields inside the standard's capabilities are those of the PCI Express Base Specification (log entry 7). -/

namespace Sys2Proof.Machine

/-- Reset value of a dword of configuration space. -/
def cfgReset (off : Nat) : Nat :=
  match off with
  | 0x000 => 0x0A201F7D
  | 0x004 => 0x00100000
  | 0x008 => 0x12000010
  | 0x010 => 0x4
  | 0x018 => 0x4
  | 0x020 => 0xC
  | 0x02C => 0x00011F7D
  | 0x034 => 0x40
  | 0x03C => 0x01FF
  | 0x040 => 0x00035001
  | 0x044 => 0x8
  | 0x050 => 0x00020010
  | 0x054 => 2 + 0x20 + 7 * 2 ^ 6 + 6 * 2 ^ 9 + 2 ^ 15 + 2 ^ 28
  | 0x058 => 0x2110
  | 0x05C => 6 + 16 * 2 ^ 4 + 2 * 2 ^ 10 + 3 * 2 ^ 15 + 2 ^ 22
  | 0x074 => 0xE + 2 ^ 4 + 2 ^ 11 + 2 ^ 16 + 2 ^ 17
  | 0x07C => 0x7E
  | 0x080 => 6
  | 0x100 => 0x14820001
  | 0x10C => 0x00462030
  | 0x114 => 0xE000
  | 0x118 => 0xA0
  | 0x148 => 0x15810003
  | 0x158 => 0x1601001B
  | 0x15C => 0x1404
  | 0x160 => 0x1701000F
  | 0x164 => 0x60
  | 0x170 => 0x18010013
  | 0x174 => 2 ^ 31
  | 0x178 => 16384
  | 0x180 => 0x1C010015
  | 0x184 => 0x00FFC000
  | 0x188 => 4 + 0x20 + 10 * 2 ^ 8
  | 0x1C0 => 0x1D01001E
  | 0x1C4 => 0x1F + 30 * 2 ^ 8 + 2 ^ 16 + 7 * 2 ^ 19
  | 0x1D0 => 0x1E010025
  | 0x1D4 => 0x80000001
  | 0x1E0 => 0x21010026
  | 0x210 => 0x2401002A
  | 0x240 => 0x28010031
  | 0x280 => 0x2D010027
  | 0x2D0 => 0x3E010019
  | 0x3E0 => 0x3F01002F
  | 0x3E4 => 0x26
  | 0x3F0 => 0x40010018
  | 0x400 => 0x0001000B
  | 0x404 => 0x02010001
  | 0x40C => 0x00800000
  | 0x410 => 0x00800000
  | _ => 0

/-- Bits of a dword that a configuration write sets and clears. -/
def cfgRw (off : Nat) : Nat :=
  match off with
  | 0x004 => 0x0546
  | 0x00C => 0xFF
  | 0x010 => 0xFC000000
  | 0x014 => 0xFFFFFFFF
  | 0x018 => 0xFF000000
  | 0x01C => 0xFFFFFFFF
  | 0x020 => 0xC0000000
  | 0x024 => 0xFFFFFFFF
  | 0x03C => 0xFF
  | 0x058 => 0x79FF
  | 0x060 => 0x01CB
  | 0x078 => 0x145F
  | 0x080 => 0xFF
  | 0x108 => 0x0FFFFFF0
  | 0x10C => 0x0FFFFFF0
  | 0x114 => 0xFFFF
  | 0x118 => 0x140
  | 0x15C => 0x50000
  | 0x164 => 0x801F0000
  | 0x174 => 1
  | 0x17C => 0xFFFFFFFF
  | 0x1C8 => 0xE3FFFF0F
  | 0x1CC => 0xFB
  | 0x1D4 => 0x80000000
  | 0x3E8 => 0x7F
  | 0x3F4 => 0xFFFFFFFF
  | _ => if 0x288 ≤ off && off < 0x2C8 then 0xFF7F else 0

/-- Bits that a configuration write of 1 clears. -/
def cfgW1c (off : Nat) : Nat :=
  match off with
  | 0x004 => 0xF9000000
  | 0x058 => 0x000F0000
  | 0x104 => 0x0FFFFFF0
  | 0x110 => 0xFFFF
  | 0x174 => 0x00030000
  | _ => 0

/-- The RWS fields: kept by every reset but power-on and module reset (R119, R257). -/
def cfgSticky (off : Nat) : Bool :=
  (decide (0x104 ≤ off) && decide (off < 0x148)) || off == 0x080

/-- A configuration dword as stored. -/
def State.cfgv (s : State) (off : Nat) : Nat := kvGet (cfgReset off) s.cfg off

/-- Store a configuration dword. -/
def State.setCfg (s : State) (off v : Nat) : State := { s with cfg := kvSet (cfgReset off) s.cfg off v }

/-- Set bits of a configuration dword. -/
def State.orCfg (s : State) (off m : Nat) : State := s.setCfg off (s.cfgv off ||| m)

/-- Command register bits. -/
def State.memEnable (s : State) : Bool := bit (s.cfgv 0x004) 1
def State.bme (s : State) : Bool := bit (s.cfgv 0x004) 2
def State.intxDisable (s : State) : Bool := bit (s.cfgv 0x004) 10
def State.serrEnable (s : State) : Bool := bit (s.cfgv 0x004) 8

/-- Max_Payload_Size and Max_Read_Request_Size as the Z20 acts on them (R246, R267). -/
def State.maxPayload (s : State) : Nat := min 512 (128 * 2 ^ fld (s.cfgv 0x058) 7 5)
def State.maxRead (s : State) : Nat := min 4096 (128 * 2 ^ fld (s.cfgv 0x058) 14 12)

/-- Relaxed Ordering Enable. -/
def State.roEnable (s : State) : Bool := bit (s.cfgv 0x058) 4

/-- AtomicOp Requester Enable. -/
def State.atomicEnable (s : State) : Bool := bit (s.cfgv 0x078) 6

/-- PASID Enable, ATS Enable, Page Request Enable. -/
def State.pasidEnable (s : State) : Bool := bit (s.cfgv 0x15C) 16
def State.atsEnable (s : State) : Bool := bit (s.cfgv 0x164) 31
def State.priEnable (s : State) : Bool := bit (s.cfgv 0x174) 0

/-- LTR Mechanism Enable and L0p Enable. -/
def State.ltrEnable (s : State) : Bool := bit (s.cfgv 0x078) 10
def State.l0pEnable (s : State) : Bool := bit (s.cfgv 0x3E8) 3

/-- BAR Size field of the Resizable BAR control register (R256). -/
def State.barSize (s : State) : Nat := fld (s.cfgv 0x188) 13 8

/-- The tag row of R248: lowest tag, number of tags in the row, limit of outstanding requests. -/
def State.tagRow (s : State) : Nat × Nat × Nat :=
  if bit (s.cfgv 0x3E8) 2 && s.link.flit then (0, 16384, 2048)
  else if bit (s.cfgv 0x078) 12 then (256, 768, 768)
  else if bit (s.cfgv 0x058) 8 then (0, 256, 256)
  else (0, 32, 32)

/-- The completion timeout in force, in ns (R265): upper end of the sub-range, 50 ms for 0 and for values not
advertised; 64 s while Completion Timeout Disable is set. -/
def State.cplTimeout (s : State) : Nat :=
  if bit (s.cfgv 0x078) 4 then 64000000000
  else match fld (s.cfgv 0x078) 3 0 with
    | 5 => 55000000
    | 6 => 210000000
    | 9 => 900000000
    | 10 => 3500000000
    | 13 => 13000000000
    | 14 => 64000000000
    | _ => 50000000

/-- Reset of the configuration space: everything that is not sticky; the BAR Size field is kept by an FLR (R257). -/
def State.resetCfg (s : State) (keepSticky keepBar : Bool) : State :=
  { s with cfg := s.cfg.filter (fun c => (keepSticky && cfgSticky c.1) || (keepBar && c.1 == 0x188)) }

end Sys2Proof.Machine
end

