-- ==== Sys2Proof/Machine/Hbm.lean ====
section
/-! DEFINITION. HBM and tilth: bytes with a poison mark for every aligned 64-byte granule (R309), the scrub of
pending acres (R125), and the power state as software reads it. -/

namespace Sys2Proof.Machine

/-- A store with poison marks: bytes and marked granules. -/
abbrev Store := List Host.Cell × List (Nat × Bool)

/-- The granules that `len` bytes from `a` touch. -/
def granules (a len : Nat) : List Nat :=
  if len = 0 then [] else (List.range ((a + len - 1) / 64 - a / 64 + 1)).map (· + a / 64)

/-- Whether any byte of the range lies in a marked granule (R311). -/
def marked (p : List (Nat × Bool)) (a len : Nat) : Bool := (granules a len).any (fun g => kvGet false p g)

/-- The marks after a write of enabled bytes: bad data marks every granule it touches; clean data clears the mark of
a granule it covers whole and leaves the mark of one it covers in part (R309). -/
def markWrite (p : List (Nat × Bool)) (a : Nat) (en : List Bool) (bad : Bool) : List (Nat × Bool) :=
  (granules a en.length).foldl (fun p g =>
    let lo := max a (g * 64)
    let hi := min (a + en.length) (g * 64 + 64)
    let here := (en.drop (lo - a)).take (hi - lo)
    if bad then (if here.any id then kvSet false p g true else p)
    else if hi - lo = 64 && here.all id then kvSet false p g false else p) p

/-- Write bytes with enables and a poison mark. -/
def storeWrite (m : Store) (a : Nat) (d : List (Byte × Bool)) (bad : Bool) : Store :=
  (memWriteEn m.1 a d, markWrite m.2 a (d.map (·.2)) bad)

/-- All bytes enabled. -/
def enAll (bs : List Byte) : List (Byte × Bool) := bs.map (fun b => (b, true))

/-- Zero the range [lo, hi) and clear its marks. -/
def storeZero (m : Store) (lo hi : Nat) : Store := (memZero m.1 lo hi, memZero m.2 (lo / 64) (hi / 64))

/-- Bytes of an acre (64 MiB) and acres of the HBM (R37). -/
abbrev acreBytes : Nat := 0x4000000
abbrev hbmAcres : Nat := 6144
abbrev hbmBytes : Nat := 0x6000000000

/-- The stack that a device-local address lies on: 768 contiguous acres each (R37). -/
def stackOf (a : Nat) : Nat := a / 0xC00000000

/-- HBM with its marks. -/
def State.hbmStore (s : State) : Store := (s.hbm, s.host.poison)
def State.setHbm (s : State) (m : Store) : State := { s with hbm := m.1, host := { s.host with poison := m.2 } }

/-- Remove an acre from ranges of scrub-pending acres. -/
def unpend (l : List (Nat × Nat)) (k : Nat) : List (Nat × Nat) :=
  l.flatMap (fun r => if r.1 ≤ k && k < r.2 then
      (if r.1 < k then [(r.1, k)] else []) ++ (if k + 1 < r.2 then [(k + 1, r.2)] else [])
    else [r])

/-- Whether an acre is scrub pending. -/
def State.scrubPending (s : State) (k : Nat) : Bool := s.pwr.scrub.any (fun r => r.1 ≤ k && k < r.2)

/-- The scrub of an acre is held: a BISnpInv for a tracked line of it has not been sent (R512). -/
def State.scrubHeld (s : State) (k : Nat) : Bool :=
  s.coh.scrubbing.any (fun g => g * 64 / acreBytes == k && !s.coh.outstanding.any (fun o => o.inv && o.left.contains g))

/-- Scrub one acre: zeros with fresh ECC, marks cleared, no longer pending (R125). -/
def State.scrubAcre (s : State) (k : Nat) : State :=
  if s.scrubPending k && !s.scrubHeld k then
    { s.setHbm (storeZero s.hbmStore (k * acreBytes) ((k + 1) * acreBytes)) with
      pwr := { s.pwr with scrub := unpend s.pwr.scrub k } }
  else s

/-- The acres that an access touches are scrubbed first (R125). -/
def State.scrubFor (s : State) (a len : Nat) : State :=
  let s := s.scrubAcre (a / acreBytes)
  if len = 0 then s else s.scrubAcre ((a + len - 1) / acreBytes)

/-- Every acre is marked scrub pending again (R125). -/
def State.pendScrub (s : State) : State := { s with pwr := { s.pwr with scrub := [(0, hbmAcres)] } }

/-- Write HBM at a device-local address. -/
def State.hbmWrite (s : State) (a : Nat) (d : List (Byte × Bool)) (bad : Bool := false) : State :=
  let s := s.scrubFor a d.length
  s.setHbm (storeWrite s.hbmStore a d bad)

/-- Read HBM: the state after any scrub, the bytes, and whether a marked granule was touched. -/
def State.hbmRead (s : State) (a n : Nat) : State × List Byte × Bool :=
  let s := s.scrubFor a n
  (s, memRead s.hbm a n, marked s.host.poison a n)

/-! ### The snoops of device-side accesses (R509) -/

/-- The valid coherent window an address lies in. -/
def State.cohWindowOf (s : State) (a : Nat) : Option Nat :=
  (List.range 16).find? (fun k =>
    let w := s.rg (Rg.cohWindow k)
    bit w 63 && decide (fld w 12 0 ≤ a / acreBytes) && decide (a / acreBytes < fld w 12 0 + fld w 28 16))

/-- Whether the host may hold a line; whether it may hold it modified. -/
def State.tracked (s : State) (line : Nat) : Bool := (kvFind s.coh.snoopFilter line).isSome
def State.maybeModified (s : State) (line : Nat) : Bool := (kvFind s.coh.snoopFilter line).getD false

/-- A line has a snoop in flight. -/
def State.snooped (s : State) (line : Nat) : Bool := s.coh.outstanding.any (fun o => o.left.contains line)

/-- The snoops for lines in rising order: the block forms for aligned runs of 4 and 2 lines (R509). -/
def snoopRuns : Nat → List Nat → List (Nat × Nat)
  | 0, _ => []
  | _, [] => []
  | k + 1, g :: ls =>
    if g % 4 = 0 && ls.take 3 == [g + 1, g + 2, g + 3] then (g, 4) :: snoopRuns k (ls.drop 3)
    else if g % 2 = 0 && ls.take 1 == [g + 1] then (g, 2) :: snoopRuns k (ls.drop 1)
    else (g, 1) :: snoopRuns k ls

/-- Send back-invalidate snoops for lines, at most 256 outstanding; none in D3hot (R509, R512). -/
def State.snoops (s : State) (lines : List Nat) (inv : Bool) : State :=
  if !(s.host.power == .d0) then s
  else
    let ls := lines.filter (fun g => !s.snooped g)
    let rs := (snoopRuns ls.length ls).take (256 - s.coh.outstanding.length)
    ({ s with coh := { s.coh with
        outstanding := s.coh.outstanding ++ rs.map (fun r => { line := r.1, n := r.2, inv := inv, left := (List.range r.2).map (· + r.1) }),
        bisnp := s.coh.bisnp ++ rs.map (fun r => (r.1, r.2, inv)) } } : State).bumpBy O.bisnpSent rs.length

/-- The lines of an access to HBM that the host must give up first (R509). -/
def State.cohLines (s : State) (write : Bool) (a len : Nat) : List Nat :=
  (granules a len).filter (fun g => (s.cohWindowOf (g * 64)).isSome && (if write then s.tracked g else s.maybeModified g))

/-- A device-side access to HBM (R509): true where it may proceed; else the snoops it needs are sent and it waits. An acre still
scrub pending is scrubbed first, which may need snoops of its own (R125, R512). -/
def State.cohAccess (s : State) (write : Bool) (a len : Nat) : State × Bool :=
  if s.scrubHeld (a / acreBytes) || s.scrubHeld ((a + (len - 1)) / acreBytes) then (s.snoops s.coh.scrubbing true, false)
  else
    let l := s.cohLines write a len
    if l.isEmpty then (s, true) else (s.snoops l write, false)

/-- An access of the rotation engine to whole acres (R509): true where it may proceed; else the snoops it needs are sent. -/
def State.cohAcres (s : State) (write : Bool) (acres : List Nat) : State × Bool :=
  if acres.any s.scrubHeld then (s.snoops s.coh.scrubbing true, false)
  else
  let l := (s.coh.snoopFilter.filter (fun e => acres.contains (e.1 * 64 / acreBytes) && (s.cohWindowOf (e.1 * 64)).isSome && (write || e.2))).map (fun e => e.1)
  if l.isEmpty then (s, true) else (s.snoops l write, false)

/-- Writes to HBM that were held for their snoops, once their lines are free, in order (R509). -/
def storesLoop : Nat → State → State
  | 0, s => s
  | n + 1, s =>
    match s.coh.stores with
    | [] => s
    | w :: ws =>
      if (s.cohLines true w.2.1 w.2.2.length).isEmpty then
        storesLoop n ({ s with coh := { s.coh with stores := ws } }.hbmWrite w.2.1 (enAll w.2.2))
      else s.snoops (s.cohLines true w.2.1 w.2.2.length) true

def State.cohStores (s : State) : State := storesLoop s.coh.stores.length s

/-- A stamp or a record is written to HBM (R509): behind the writes that wait for a snoop where its own line needs one. -/
def State.hbmStoreAt (s : State) (a : Nat) (bs : List Byte) (o : Owner) : State :=
  if (s.cohLines true a bs.length).isEmpty then s.hbmWrite a (enAll bs)
  else ({ s with coh := { s.coh with stores := s.coh.stores ++ [(o, a, bs)] } } : State).cohStores

/-! ### Tilth and the power state -/

/-- Tilth of a plot with its marks. -/
def State.tilthStore (s : State) (n : Nat) : Store := ((s.plot n).tilth, (s.plot n).poison)
def State.setTilth (s : State) (n : Nat) (m : Store) : State := s.modPlot n (fun p => { p with tilth := m.1, poison := m.2 })

/-- A plot is powered and ready. -/
def Plot.ready (p : Plot) : Bool := !(p.state == .gated) && !(p.state == .waking)

/-- The compute of a plot is on (R66): neither gated nor waiting for its ramp. -/
def Plot.powered (p : Plot) : Bool := !(p.state == .gated) && !(p.state == .waking && !p.ramping) && !(p.off && !p.ramping)

/-- Some plot is powered (R69). -/
def State.anyPlot (s : State) : Bool := (List.range 16).any (fun n => (s.plot n).powered)

/-- Ask a gated plot to wake (R75); one held gated for want of sensors stays so (R96). -/
def State.askPlot (s : State) (n : Nat) : State :=
  if (s.plot n).state == .gated && !bit s.pwr.plotHeldOff n then s.modPlot n (fun y => { y with rampQueued := true }) else s

/-- PWR_STATE (R115): 0 Fallow, 1 Tilled, 2 Sown, 3 in transition. -/
def State.pwrState (s : State) : Nat :=
  match s.pwr.mode with
  | .fallow => 0
  | .up => if s.anyPlot then 2 else 1
  | _ => 3

/-- GCORE is on and its core is ready. -/
def State.gcoreUp (s : State) : Bool := s.pwr.mode == .up

/-! ### Domains and clocks of a start-up and a wake (R74, R135); each step stands done at the time of its row (log entry 119) -/

/-- A start-up has gone on for `d` ns since the firmware began to switch domains on. -/
def State.startedFor (s : State) (d : Nat) : Bool := match s.pwr.powerAt with | some t => decide (t + d ≤ s.now) | none => false

/-- A domain or clock by power state: on from `start` ns of a start-up and from `wake` ns of a wake on (none: on all along),
and in Fallow where `low`. -/
def State.onFrom (s : State) (low : Bool) (start : Nat) (wake : Option Nat) : Bool :=
  match s.pwr.mode with
  | .off => false
  | .starting => s.startedFor start
  | .fallow => low
  | .waking => match wake with | some w => decide (s.pwr.wakeAt + w ≤ s.now) | none => true
  | .entering => true
  | .up => true

/-- The HBM domain is on. -/
def State.hbmOn (s : State) : Bool := s.onFrom true 1000000 none
/-- The GLINK is on and enabled. -/
def State.glinkOn (s : State) : Bool := s.onFrom true 1100000 none
/-- RTR, GCORE and the Tramline dies are on. -/
def State.gcoreOn (s : State) : Bool := s.onFrom false 1200000 (some 70000)
/-- The Gate's and the Tramline dies' PLLs are locked. -/
def State.pllOn (s : State) : Bool := s.onFrom false 1250000 (some 100000)
/-- The Gate core is ready to answer before Tilled (R137): the die resets are released. -/
def State.gateReady (s : State) : Bool := s.onFrom false 2300000 (some 180000)

end Sys2Proof.Machine
end

