-- ==== Sys2Proof/Machine/Tx.lean ====
section
/-! DEFINITION. The transaction layer (R277-R333): the attention line's causes, MMIO error capture, AER, the posted
queue and what leaves it, tags, and completions of host requests. -/

namespace Sys2Proof.Machine

/-! ### The attention line -/

namespace At
abbrev furrowError : Nat := 2
abbrev rowError : Nat := 3
abbrev stakeTimeout : Nat := 4
abbrev dictNotify : Nat := 5
abbrev rotation : Nat := 7
abbrev steward : Nat := 8
abbrev slice : Nat := 9
abbrev power : Nat := 11
abbrev mmioError : Nat := 12
abbrev hostReqError : Nat := 13
end At

/-- Set an event cause (R333). -/
def State.attn (s : State) (n : Nat) : State := s.setRg Rg.attnCause (s.rg Rg.attnCause ||| 2 ^ n)

/-- The level causes that stand: FAULT (R760), PAGE_FAULT (R490), FROZEN (R314), MIGRATION (R506). -/
def State.levelCauses (s : State) : Nat :=
  b2n (s.fc.tail != s.fc.head || (!s.fc.ringEnable && s.fc.queue.any (fun r => !(r.cls == .corrected))))
  + 2 * b2n (s.flt.tail != s.rg Rg.faultHead)
  + 2 ^ 6 * b2n s.host.frozen
  + 2 ^ 10 * b2n (s.mig.hostMode && !s.mig.hot.isEmpty)

/-- ATTN_CAUSE as it reads. -/
def State.attnCauses (s : State) : Nat := s.rg Rg.attnCause ||| s.levelCauses

/-- The line is pending (R319). -/
def State.linePending (s : State) : Bool := s.attnCauses &&& s.rg Rg.attnMask != 0

/-- Put a TLP or message at the end of the queue, without a check for room. -/
def State.enqueue (s : State) (t : Tlp) : State := { s with host := { s.host with queue := s.host.queue ++ [t] } }

/-! ### AER -/

namespace Ue
abbrev poison : Nat := 12
abbrev cplTimeout : Nat := 14
abbrev completerAbort : Nat := 15
abbrev unexpCpl : Nat := 16
abbrev malformed : Nat := 18
abbrev unsupported : Nat := 20
abbrev internal : Nat := 22
end Ue

/-- The header of a request as the header log keeps it: a memory request of four dwords, then its PASID prefix where it
carries one, in which the PASID is a free value. -/
def State.reqHeader (s : State) (write : Bool) (r : MemReq) : List Nat :=
  [(if write then 0x60 else if r.atomic.isSome then 0x6E else 0x20) * 2 ^ 24 + b2n r.ep * 2 ^ 14 + (r.len + 3) / 4 % 2 ^ 10,
   r.rid.toNat * 2 ^ 16 + r.tag % 2 ^ 8 * 2 ^ 8 + r.lbe.toNat * 2 ^ 4 + r.fbe.toNat,
   r.addr / 2 ^ 32 % 2 ^ 32, r.addr % 2 ^ 32 / 4 * 4]
  ++ (if r.pasid then [0x91 * 2 ^ 24 + Config.freeValue s.free % 2 ^ 22] else [])

/-- The header of a completion in the header log; what it says beside its kind, length and tag is a free value. -/
def State.cplHeader (s : State) (tag len : Nat) (ep : Bool) : List Nat :=
  let f := Config.freeValue s.free
  [0x4A * 2 ^ 24 + b2n ep * 2 ^ 14 + (len + 3) / 4 % 2 ^ 10, f % 2 ^ 32, f / 2 ^ 32 % 2 ^ 16 * 2 ^ 16 + tag % 2 ^ 8 * 2 ^ 8 + f / 2 ^ 48 % 2 ^ 7]

/-- The header log, and the TLP prefix log. -/
def State.logHeader (s : State) (hdr : List Nat) : State :=
  s.each ((List.range hdr.length).zip hdr) (fun s e => s.setCfg (if e.1 < 4 then 0x11C + 4 * e.1 else 0x138) (e.2 % 2 ^ 32))

/-- A correctable error of the link or the Gate in AER (R306): its status bit, Device Status, and a message where the host
enables one. -/
def State.aerCorr (s : State) (n : Nat) : State :=
  let s := (s.orCfg 0x110 (2 ^ n)).orCfg 0x058 (2 ^ 16)
  if bit (s.cfgv 0x114) n || !bit (s.cfgv 0x058) 0 || s.host.inFlr then s else s.enqueue { kind := .errMsg 0 }

/-- The header and prefix logs and the first error pointer take an error while the pointer names no error that stands and the
error is not masked. -/
def State.aerFirst (s : State) (ue : Nat) (hdr : List Nat) : State :=
  if bit (s.cfgv 0x108) ue || bit (s.cfgv 0x104) (fld (s.cfgv 0x118) 4 0) then s
  else (s.setCfg 0x118 (setBit (setFld (s.cfgv 0x118) 4 0 ue) 11 (4 < hdr.length))).logHeader hdr

/-- An error message where the host enables one: not of a masked error, of an Unsupported Request only with its reporting enable;
Signaled System Error is set where SERR# Enable sends one. -/
def State.aerMessage (s : State) (ue sev : Nat) : State :=
  if bit (s.cfgv 0x108) ue || s.host.inFlr || (ue = Ue.unsupported && !bit (s.cfgv 0x058) 3) then s
  else if sev = 0 then (if bit (s.cfgv 0x058) 0 then s.enqueue { kind := .errMsg 0 } else s)
  else if bit (s.cfgv 0x058) sev || s.serrEnable then
    let s := s.enqueue { kind := .errMsg sev }
    if s.serrEnable then s.orCfg 0x004 (2 ^ 30) else s
  else s

/-- Log an error in AER (R306) as the PCI Express Base Specification does (log entry 7): Device Status; of an error that is not
advisory the status bit, the header log and a message; of an `advisory` one of non-fatal severity the Advisory Non-Fatal status
bit, and the rest with ERR_COR unless that is masked. -/
def State.aer (s : State) (ue : Nat) (advisory : Bool := false) (hdr : List Nat := []) : State :=
  let fatal := bit (s.cfgv 0x10C) ue
  let adv := advisory && !fatal
  let s := s.orCfg 0x058 (2 ^ (if adv then 16 else if fatal then 18 else 17) ||| (if ue = Ue.unsupported then 2 ^ 19 else 0))
  let s := if adv then s.orCfg 0x110 (2 ^ 13) else s
  if adv && bit (s.cfgv 0x114) 13 then s
  else ((s.aerFirst ue hdr).orCfg 0x104 (2 ^ ue)).aerMessage ue (if adv then 0 else if fatal then 2 else 1)

/-! ### MMIO errors (R296) -/

/-- The kinds of MMIO_ERR_INFO. -/
inductive MmioKind where
  | shape | value | poisoned | late | frozenDiscard | early | fenced
  deriving DecidableEq, Repr

/-- KIND's encoding. -/
def MmioKind.code : MmioKind → Nat
  | .shape => 0 | .value => 1 | .poisoned => 2 | .late => 3 | .frozenDiscard => 4 | .early => 5 | .fenced => 6

/-- The fault source of a kind. -/
def MmioKind.source : MmioKind → Nat
  | .shape => Sc.mmioShape | .value => Sc.mmioValue | .poisoned => Sc.mmioPoisoned | .late => Sc.mmioLate
  | .frozenDiscard => Sc.frozenDiscard | .early => Sc.earlyAccess | .fenced => Sc.mmioFenced

/-- WINDOW's encoding. -/
def windowCode : Window → Nat
  | .control => 0 | .doorbell => 1 | .aperture => 2 | .config => 3

/-- MMIO_ERR_INFO for a request. -/
def mmioInfo (k : MmioKind) (w : Window) (write : Bool) (r : MemReq) : Nat :=
  1 + k.code * 2 + windowCode w * 2 ^ 4 + b2n write * 2 ^ 6 + (r.len % 2 ^ 13) * 2 ^ 16
    + r.fbe.toNat * 2 ^ 32 + r.lbe.toNat * 2 ^ 36 + r.rid.toNat * 2 ^ 40

/-- Capture the request in MMIO_ERR_INFO where it is armed, with the MMIO_ERROR cause. -/
def State.mmioCapture (s : State) (k : MmioKind) (w : Window) (write : Bool) (r : MemReq) : State :=
  if bit (s.rg Rg.mmioErrInfo) 0 then s
  else ((s.setRg Rg.mmioErrInfo (mmioInfo k w write r)).setRg Rg.mmioErrOffset (r.off % 2 ^ 39)).attn At.mmioError

/-- Log an MMIO error: fault source, count, capture.  A posted request is counted as discarded (R334). -/
def State.mmioErr (s : State) (k : MmioKind) (w : Window) (write : Bool) (r : MemReq) : State :=
  let s := s.raise k.source { access := if write then 2 else 1, masterKind := 1, addr := some r.off }
  let s := s.bumpRg Rg.mmioErrCount Rg.hostErrOvf 2
  let s := if write && !(w == .config) then s.bump O.mmioDiscarded else s
  s.mmioCapture k w write r

/-- Log a register value that is not accepted (R5): MMIO_VALUE in the control window. -/
def State.valueErr (s : State) (off len : Nat) (rid : Half) : State :=
  s.mmioErr .value .control true { off := off, len := len, lbe := (if len ≤ 4 then 0 else 0xF), rid := rid }

/-! ### The posted queue and what leaves it -/

/-- Posted kinds: writes and messages. -/
def TlpKind.posted : TlpKind → Bool
  | .memRead | .cas | .atsRequest | .cplData | .cplUr | .cplCa => false
  | _ => true

/-- Completions: they take none of the partner's credits, since a root port advertises infinite ones. -/
def TlpKind.cpl : TlpKind → Bool
  | .cplData | .cplUr | .cplCa => true
  | _ => false

/-- Messages and completions are not gated by Bus Master Enable, nor by Frozen (R297, R315). -/
def TlpKind.free : TlpKind → Bool
  | .assertInta | .deassertInta | .errMsg _ | .ltr | .atsInvalidateCpl | .cplData | .cplUr | .cplCa => true
  | _ => false

/-- Requests of the Z20 may leave: the link is in L0, the function in D0, Bus Master Enable set, not Frozen, no FLR. -/
def State.mayRequest (s : State) : Bool :=
  s.link.up && s.link.ltssm == .l0 && s.host.power == .d0 && s.bme && !s.host.frozen && !s.host.inFlr

/-- An INTx message. -/
def TlpKind.intx : TlpKind → Bool
  | .assertInta | .deassertInta => true
  | _ => false

/-- What Bus Master Enable does not gate may leave: completions, the answer to an ATS invalidation (R471), outside an FLR messages (R302), and INTx messages in D0 (R322). -/
def State.mayMessage (s : State) (k : TlpKind) : Bool :=
  s.link.up && s.link.ltssm == .l0 && (k.cpl || k == .atsInvalidateCpl || !s.host.inFlr) && (!k.intx || s.host.power == .d0)

/-- What follows when a TLP has left, by its owner: a head write-back makes room for the next (R341), a TLP
sent with EP is counted (R311; a poisoned write sets Master Data Parity Error where Parity Error Response is set), and a fault record leaves the internal queue with its VALID word (R759). -/
def State.left (s : State) (t : Tlp) : State :=
  let s := if t.ep then s.bump O.poisonSent else s
  let s := if t.ep && t.kind.posted && !t.kind.free && bit (s.cfgv 0x004) 6 then s.orCfg 0x004 (2 ^ 24) else s
  let s := { s with host := { s.host with wire := s.host.wire ++ [t] } }
  match t.owner with
  | .shadow n => s.setFur n { s.fur n with shadowQueued := false }
  | .fcValid q =>
    match s.fc.queue.find? (fun r => r.seq == some q) with
    | some r =>
      let s' : State := { s with fc := { s.fc with inFlight := s.fc.inFlight.filter (· != q), unacked := s.fc.unacked ++ [r.source],
                                                   queue := s.fc.queue.filter (fun r => r.seq != some q),
                                                   queueArmed := s.fc.queueArmed || !(r.cls == .fatal) } }
      s'.bump O.ringRecords
    | none => s
  | _ => s

/-- One pass over the queue in order.  A posted TLP never passes another; a non-posted one never passes a posted
one; a posted one may pass a non-posted one that lacks credits; a message passes what a gate holds (R277, R297, R301); a
completion passes every TLP but a posted one with Relaxed Ordering clear that stands in the posted queue (R279).
`kp`, `kn` and `kc` say that a posted TLP, a non-posted one, and one that a completion may not pass has stayed. -/
def leavePass : State → List Tlp → Bool → Bool → Bool → State × List Tlp
  | s, [], _, _, _ => (s, [])
  | s, t :: ts, kp, kn, kc =>
    let gate := if t.kind.free then s.mayMessage t.kind else s.mayRequest
    let stay := !gate ||
      (if t.kind.cpl then kc
       else if t.kind.posted then s.host.pCredit == 0 || (kp && (!t.kind.free || s.mayRequest || t.kind == .atsInvalidateCpl))
       else s.host.npCredit == 0 || kp || kn)
    if stay then
      let r := leavePass s ts (kp || t.kind.posted) (kn || !(t.kind.posted || t.kind.cpl))
        (kc || (t.kind.posted && !t.ro && (t.kind.free || s.mayRequest)))
      (r.1, t :: r.2)
    else
      let s := if t.kind.cpl then s
               else if t.kind.posted then { s with host := { s.host with pCredit := s.host.pCredit - 1 } }
               else { s with host := { s.host with npCredit := s.host.npCredit - 1 } }
      leavePass (s.left t) ts kp kn kc

/-- The posted TLPs of the queue; the limit of 512 (R278). -/
def State.postedHeld (s : State) : Nat := (s.host.queue.filter (fun t => t.kind.posted && !t.kind.free)).length

/-- Producers that waited enter the queue while it has room. -/
def admitBlocked : Nat → List Tlp → List Tlp → List Tlp × List Tlp
  | _, q, [] => (q, [])
  | room, q, t :: ts => if room = 0 then (q, t :: ts) else admitBlocked (room - 1) (q ++ [t]) ts

/-- TLPs leave the transaction layer while credits and the gates allow. -/
def State.drain (s : State) : State :=
  let step (s : State) : State :=
    let r := leavePass { s with host := { s.host with queue := [] } } s.host.queue false false false
    let s := { r.1 with host := { r.1.host with queue := r.2 } }
    let a := admitBlocked (512 - s.postedHeld) s.host.queue s.host.blocked
    { s with host := { s.host with queue := a.1, blocked := a.2 } }
  let s := step s
  if s.host.blocked.isEmpty then (if s.host.queue.isEmpty then s else step s) else step (step s)

/-- The Address Type of a data request: Translated in host-assisted translation mode (R423). -/
def State.addrType (s : State) (t : Tlp) : Tlp := { t with xlated := t.pasid.isSome && s.plat.mode && !(t.kind == .atsRequest) }

/-- Admit a posted TLP: it enters the queue, or its producer waits (R278).  While Frozen and during an FLR it is
discarded (R302, R315). -/
def State.post (s : State) (t : Tlp) : State :=
  if s.host.frozen || s.host.inFlr then s
  else
    let t := s.addrType t
    let s := if 512 ≤ s.postedHeld || !s.host.blocked.isEmpty then
        { s with host := { s.host with blocked := s.host.blocked ++ [t] } }
      else { s with host := { s.host with queue := s.host.queue ++ [t] } }
    s.drain

/-- Send a message. -/
def State.message (s : State) (k : TlpKind) : State :=
  (s.enqueue { kind := k }).drain

/-- Discard the posted queue and everything held with it (R302, R314, R318); answers the number of posted TLPs. -/
def State.discardPosted (s : State) : State × Nat :=
  let n := (s.host.queue.filter (fun t => t.kind.posted && !t.kind.free)).length + s.host.blocked.length
  ({ s with host := { s.host with queue := s.host.queue.filter (fun t => t.kind.free), blocked := [] } }, n)

/-! ### Tags (R285, R287) -/

/-- Outstanding requests: not the tags quarantined after their timeout (R333). -/
def State.readsOutstanding (s : State) : Nat := (s.host.tags.filter (fun t => !(t.quar == .timedOut))).length

/-- The smallest tag of the row in force that is not in use (R285; the choice among free tags is log entry 8). -/
def State.freeTag (s : State) : Option Nat :=
  let r := s.tagRow
  ((List.range (min r.2.1 2049)).map (· + r.1)).find? (fun t => s.host.tags.all (fun u => u.tag != t))

/-- Plat's requests: walker reads, accessed/dirty CAS and ATS Translation Requests. -/
def Owner.plat : Owner → Bool
  | .walk _ => true
  | _ => false

/-- Whether a requester may issue: one sixteenth of the limit is kept for Plat, whose requests use that reserve first; the
rest share what is left (R285). -/
def State.tagRoom (s : State) (plat : Bool) : Bool :=
  let lim := s.tagRow.2.2
  let walks := (s.host.tags.filter (fun t => !(t.quar == .timedOut) && t.owner.plat)).length
  let rest := s.readsOutstanding - walks
  decide (s.readsOutstanding < lim) && (plat || decide (rest + (walks - lim / 16) < lim - lim / 16))

/-- Issue a non-posted request: take a tag and queue the TLP.  None where no tag is free or requests may not be
issued. -/
def State.request (s : State) (t : Tlp) (plat : Bool := false) : Option (Nat × State) :=
  if s.host.frozen || s.host.inFlr || !s.bme || !(s.host.power == .d0) || !s.link.up then none
  else if !s.tagRoom plat then none
  else match s.freeTag with
    | none => none
    | some g =>
      let u : TagUse := { tag := g, owner := t.owner, addr := t.addr, len := t.len, at_ := s.now }
      let s := { s with host := { s.host with tags := s.host.tags ++ [u] } }
      some (g, (s.enqueue (s.addrType { t with tag := g })).drain)

/-- The use of a tag. -/
def State.tagUse (s : State) (g : Nat) : Option TagUse := s.host.tags.find? (fun u => u.tag == g)

/-- Free a tag. -/
def State.freeTagUse (s : State) (g : Nat) : State :=
  { s with host := { s.host with tags := s.host.tags.filter (fun u => u.tag != g) } }

/-- Change the use of a tag. -/
def State.setTag (s : State) (g : Nat) (f : TagUse → TagUse) : State :=
  { s with host := { s.host with tags := s.host.tags.map (fun u => if u.tag == g then f u else u) } }

/-- A completion for a quarantined tag is discarded and counted (R287); an abandoned request's tag is then free. -/
def State.lateCompletion (s : State) (u : TagUse) (last : Bool) : State :=
  let s := s.bump O.lateCplDiscarded
  if u.quar == .abandoned && last then s.freeTagUse u.tag else s

/-- Every outstanding request is abandoned and its tag quarantined until its completion or timeout (R287). -/
def State.abandonTags (s : State) : State :=
  { s with host := { s.host with tags := s.host.tags.map (fun u => if u.quar == .no then { u with quar := .abandoned } else u) } }

/-- The status code of a descriptor whose host read fails (R288, R289). -/
def failCode : HostFail → Nat
  | .ur => 0x30 | .ca => 0x31 | .timeout => 0x32

/-- What a UR or CA completion, or the timeout, of a read leaves beside its owner's failure: counts, status bits, the
attention cause. -/
def State.readFails (s : State) (e : HostFail) (addr : Nat) : State :=
  (match e with
    | .ur => (s.bump O.urReceived).orCfg 0x004 (2 ^ 29)
    | .ca => (s.bump O.caReceived).orCfg 0x004 (2 ^ 28)
    | .timeout => ((s.bump O.cplTimeouts).raise Sc.hostCplTimeout { addr := some addr }).aer Ue.cplTimeout).attn At.hostReqError

/-- A read of host memory that one command issues and ends fails: a timeout comes after the timeout period, and the tag it
had is quarantined. -/
def State.hostReadFails (s : State) (e : HostFail) (addr : Nat) : State :=
  match e, s.freeTag with
  | .timeout, some g =>
    let s := s.until_ (s.now + s.cplTimeout)
    let u : TagUse := { tag := g, owner := .none, addr := addr, len := 0, at_ := s.now, quar := .timedOut }
    ({ s with host := { s.host with tags := s.host.tags ++ [u] } } : State).readFails e addr
  | _, _ => s.readFails e addr

/-! ### Completions of the host's requests -/

/-- Complete a host request with data; EP where a byte is poisoned (R311). -/
def State.completeData (s : State) (r : MemReq) (data : List Byte) (ep : Bool := false) : State :=
  (s.enqueue { kind := .cplData, tag := r.tag, addr := r.off, data := data, ep := ep }).drain

/-- The completions of a read, split at multiples of Max_Payload_Size; each with EP where it carries a marked byte (R282). -/
def cplSplit : Nat → Nat → Nat → List (Byte × Bool) → List (Nat × List (Byte × Bool))
  | 0, _, a, d => [(a, d)]
  | n + 1, mps, a, d =>
    let k := mps - a % mps
    if d.length ≤ k then [(a, d)] else (a, d.take k) :: cplSplit n mps (a + k) (d.drop k)

/-- Complete a read with data and its marks. -/
def State.completeMarked (s : State) (r : MemReq) (d : List (Byte × Bool)) : State :=
  ((cplSplit r.len s.maxPayload r.off d).foldl (fun (s : State) (c : Nat × List (Byte × Bool)) =>
    s.enqueue { kind := .cplData, tag := r.tag, addr := c.1, data := c.2.map (fun (y : Byte × Bool) => y.1),
                ep := c.2.any (fun (y : Byte × Bool) => y.2) }) s).drain

/-- Treat a request as unsupported (R307): UR completion for a non-posted one, discard for a posted one. -/
def State.unsupported (s : State) (r : MemReq) (posted : Bool) : State :=
  let s := (s.bump O.urSent).raise Sc.hostUrSent { access := if posted then 2 else 1, addr := some r.off }
  let hdr := s.reqHeader posted r
  if posted then (s.bump O.mmioDiscarded).aer Ue.unsupported false hdr
  else ((s.aer Ue.unsupported true hdr).enqueue { kind := .cplUr, tag := r.tag, addr := r.off }).drain

/-- End a request with Completer Abort (R308). -/
def State.completerAbort (s : State) (r : MemReq) (posted : Bool) : State :=
  let s := ((s.bump O.caSent).raise Sc.hostCaSent { access := if posted then 2 else 1, addr := some r.off }).orCfg 0x004 (2 ^ 27)
  let s := s.aer Ue.completerAbort (!posted) (s.reqHeader posted r)
  if posted then s
  else (s.enqueue { kind := .cplCa, tag := r.tag, addr := r.off }).drain

/-- A write longer than Max_Payload_Size is malformed (R294, R306): discarded, HOST_LINK_UE, AER as the standard has it. -/
def State.malformed (s : State) (r : MemReq) : State := ((s.bump O.mmioDiscarded).raise Sc.hostLinkUe).aer Ue.malformed false (s.reqHeader true r)

/-- INTA is de-asserted: the holdoff starts (R321). -/
def State.deassert (s : State) : State :=
  if s.host.attnAsserted then
    ({ s with host := { s.host with attnAsserted := false, attnHoldoff := (if s.rg Rg.attnHoldoff = 0 then none else some (s.now + s.rg Rg.attnHoldoff * 1000)) } }).message .deassertInta
  else s

/-- In L1 or one of its substates. -/
def State.inL1 (s : State) : Bool := s.link.ltssm == .l1 || s.link.ltssm == .l11 || s.link.ltssm == .l12

/-- The link leaves L1 for L0, through Recovery, as the standard has it (R275). -/
def State.leaveL1 (s : State) : State := ({ s with link := { s.link with ltssm := .l0 } } : State).bump O.recoveryCount

/-- Assert INTA where the line is pending and the conditions of R320 hold; from L1 the link first goes to L0. -/
def State.assert (s : State) : State :=
  if s.linePending && !s.host.attnAsserted && !s.intxDisable && s.host.power == .d0 && s.link.up && s.host.attnHoldoff.isNone
      && !s.host.inFlr then
    let s := if s.inL1 then s.leaveL1 else s
    let s := s.bumpRg Rg.attnAsserts Rg.hostErrOvf 1
    ({ s with host := { s.host with attnAsserted := true } } : State).message .assertInta
  else s

end Sys2Proof.Machine
end

