-- ==== Sys2Proof/Machine/Gate.lean ====
section
/-! DEFINITION. What happens to a memory request of the host before its window serves it: link, FLR, D3hot and decode
(R303, R307), Fallow (R71-R73), start-up (R137), the Frozen state (R315) and poison (R310). -/

namespace Sys2Proof.Machine

/-- The blocks of the control window that answer before Tilled and in Frozen: Gate identity and global control, the
dictionary mirror, the fault collector mirror (R137, R315). -/
def globalBlock (win : Window) (off : Nat) : Bool :=
  win == .control && (decide (off < 0x100000) || (decide (0x800000 ≤ off) && decide (off < 0x2000000)))

/-- A wake event (R71, R104): it starts the wake from Fallow and the fast clock with it (R74), or abandons the entry in progress; without firmware it
stands in the AON wake latch (R157). -/
def State.wakeEvent (s : State) : State :=
  match s.pwr.mode with
  | .fallow =>
    if s.hl.running then ({ s with pwr := { s.pwr with mode := .waking, wakeAt := s.now } } : State).hlWork
    else { s with pwr := { s.pwr with wakeLatch := true } }
  | .entering => { s with pwr := { s.pwr with entryAbandoned := true, wakeAt := s.now } }
  | _ => s

/-- The request hold buffer takes 64 posted and 32 non-posted requests, of the windows and of CXL.mem together; beyond that
the partner keeps them, for want of credits (R73). -/
def State.holdRequest (s : State) (win : Window) (write : Bool) (r : MemReq) (cxl : Option CxlReq := none) : State :=
  if (if write then 64 else 32) ≤ (s.pwr.hold.filter (fun h => h.write == write)).length then s
  else { s with pwr := { s.pwr with hold := s.pwr.hold ++ [{ win := win, write := write, r := r, since := s.now, cxl := cxl }] } }

/-- A request in Fallow whose wake is masked is counted, and the first one kept (R72); its logging waits. -/
def State.noteRefused (s : State) (win : Window) (write : Bool) (r : MemReq) : State :=
  let h : Held := { win := win, write := write, r := r, since := s.now }
  { s with pwr := { s.pwr with refused := min (s.pwr.refused + 1) (2 ^ 32 - 1),
                                refusedFirst := (match s.pwr.refusedFirst with | some x => some x | none => some h) } }

/-- A window request in Fallow whose wake is masked (R72): Completer Abort or discard at once. During entry to Fallow, of which
the spec says nothing, it is refused the same way (log entry 82). -/
def State.refuseFallow (s : State) (win : Window) (write : Bool) (r : MemReq) : State :=
  let s := s.noteRefused win write r
  if write then s.bump O.mmioDiscarded else ((s.orCfg 0x004 (2 ^ 27)).enqueue { kind := .cplCa, tag := r.tag, addr := r.off }).drain

/-- A poisoned TLP was received (R306, R310): counted, raised, Detected Parity Error. -/
def State.poisonSeen (s : State) : State :=
  ((s.bump O.poisonReceived).raise Sc.hostPoisonRx).orCfg 0x004 (2 ^ 31)

/-- A poisoned TLP and its place in AER; `carried`: its poison goes on with the data. -/
def State.poisonRx (s : State) (carried : Bool) (hdr : List Nat) : State := s.poisonSeen.aer Ue.poison carried hdr

/-- A completion with EP arrives; Master Data Parity Error where Parity Error Response is set (as the standard defines). -/
def State.poisonedCpl (s : State) (carried : Bool) (tag len : Nat) : State :=
  let s := if bit (s.cfgv 0x004) 6 then s.orCfg 0x004 (2 ^ 24) else s
  s.poisonRx carried (s.cplHeader tag len true)

/-- Count a request discarded in Frozen, and log it. -/
def State.frozenDiscardOp (s : State) (win : Window) (write : Bool) (r : MemReq) : State :=
  (s.bumpRg Rg.freezeDiscards Rg.hostErrOvf 0).mmioErr .frozenDiscard win write r

/-- A request stands behind an earlier one that is held: writes take effect in order of arrival, a read follows every
earlier write, and the reads of the control and doorbell windows complete in order (R281, R282). -/
def State.behind (s : State) (win : Window) (write : Bool) : Bool :=
  s.pwr.hold.any (fun h => h.write || (!write && !(win == .aperture) && !(h.win == .aperture)))

/-- A window serves a request once GCORE is ready (R137, R281, R310, R315): in Frozen and before Tilled only the global block
does, a request behind a held one waits, and a poisoned register write is ignored. -/
def State.serveNow (s : State) (win : Window) (write : Bool) (r : MemReq) : State × Bool :=
  let hdr := s.reqHeader write r
  let global := globalBlock win r.off
  if s.host.frozen && !global then
    let s := s.frozenDiscardOp win write r
    (if write then (if r.ep then s.aer Ue.poison false hdr else s) else s.completeMarked r (List.replicate r.len (0xFF, false)), false)
  else if s.behind win write then (s.holdRequest win write r, false)
  else if s.pwr.mode == .starting && !global then
    (if write then (let s := s.mmioErr .early win write r; if r.ep then s.aer Ue.poison false hdr else s)
     else s.completeMarked r (List.replicate r.len (0, false)), false)
  else if write && r.ep && !(win == .aperture) then ((s.aer Ue.poison false hdr).mmioErr .poisoned win write r, false)
  else (s, true)

/-- Whether a window serves a request that has been accepted, and the state after what else happens to it. -/
def State.serveGate (s : State) (win : Window) (write : Bool) (r : MemReq) : State × Bool :=
  match s.pwr.mode with
    | .off => (s, false)
    | .fallow =>
      if bit (s.val O.fallowWakeMask) 0 then ((s.holdRequest win write r).wakeEvent, false) else (s.refuseFallow win write r, false)
    | .entering =>
      if bit (s.val O.fallowWakeMask) 0 then ((s.holdRequest win write r).wakeEvent, false) else (s.refuseFallow win write r, false)
    | .waking => (s.holdRequest win write r, false)
    | .starting => if s.gateReady then s.serveNow win write r else (s.holdRequest win write r, false)
    | .up => s.serveNow win write r

/-- A memory request during an FLR is discarded without completion and without logging (R303); a posted one is counted (R334). -/
def State.flrDiscard (s : State) (write : Bool) : State := if write then s.bump O.mmioDiscarded else s

/-- Whether a window serves a memory request that arrives. -/
def State.admitReq (s : State) (win : Window) (write : Bool) (r : MemReq) : State × Bool :=
  if !s.link.up || s.pwr.mode == .off then (s, false)
  else if s.host.inFlr then (s.flrDiscard write, false)
  else
    let s := if r.ep then s.poisonSeen else s
    if !(s.host.power == .d0) || !s.memEnable || r.pasid then (s.unsupported r write, false)
    else s.serveGate win write r

/-- The base address of a window: its two base address dwords. -/
def State.barAt (s : State) (off : Nat) : Nat := s.cfgv off / 16 * 16 + s.cfgv (off + 4) * 2 ^ 32

/-- The window that a host address lies in, and the offset in it (R252). Where bases overlap the first of the three takes it
(log entry 120). -/
def State.locate (s : State) (r : MemReq) : Option (Window × Nat) :=
  let inside (bar size : Nat) : Bool := decide (s.barAt bar ≤ r.addr) && decide (r.addr + max r.len 1 - s.barAt bar ≤ size)
  if inside 0x010 (2 ^ 26) then some (.control, r.addr - s.barAt 0x010)
  else if inside 0x018 (2 ^ 24) then some (.doorbell, r.addr - s.barAt 0x018)
  else if inside 0x020 (2 ^ (20 + s.barSize)) then some (.aperture, r.addr - s.barAt 0x020)
  else none

/-- A memory request that matches no window (R307). -/
def State.noWindow (s : State) (r : MemReq) (posted : Bool) : State :=
  if !s.link.up || s.pwr.mode == .off then s
  else if s.host.inFlr then s.flrDiscard posted
  else (if r.ep then s.poisonSeen else s).unsupported r posted

/-- Every byte enable is set. -/
def reqFull (r : MemReq) : Bool := r.fbe == 0xF && (r.len ≤ 4 || r.lbe == 0xF)

/-- Answer a register read from the aligned 8-byte word it lies in (R291). -/
def State.answerWord (s : State) (r : MemReq) (v : Nat) : State :=
  s.completeData r (((natLe 8 v).drop (r.off % 8)).take r.len)

end Sys2Proof.Machine
end

