-- ==== Sys2Proof/Machine/Stake.lean ====
section
/-! DEFINITION. Stakes, their groups and waits (R386-R421), and what a descriptor does when it completes or reaches
its half point (R359-R366): signal, record, stamp, furrow error.  A stake operation moves the waits it meets to
`g.met`; `releaseWaits` releases them in the order in which they were placed. -/

namespace Sys2Proof.Machine

/-! ### Furrow context fields -/

def State.ringLog2 (s : State) (n : Nat) : Nat := fld (s.rg (Rg.fctx n 0x00)) 4 0
def State.ringBase (s : State) (n : Nat) : Nat := s.rg (Rg.fctx n 0x00) / 4096 * 4096
def State.furPasid (s : State) (n : Nat) : Nat := fld (s.rg (Rg.fctx n 0x08)) 19 0
def State.furPriv (s : State) (n : Nat) : Bool := bit (s.rg (Rg.fctx n 0x08)) 20
def State.furBypass (s : State) (n : Nat) : Bool := bit (s.rg (Rg.fctx n 0x08)) 21
def State.furErrCont (s : State) (n : Nat) : Bool := bit (s.rg (Rg.fctx n 0x08)) 22
def State.storeMax (s : State) (n : Nat) : Nat := fld (s.rg (Rg.fctx n 0x10)) 12 0
def State.storeMin (s : State) (n : Nat) : Nat := fld (s.rg (Rg.fctx n 0x10)) 28 16
def State.inlineLimit (s : State) (n : Nat) : Nat := fld (s.rg (Rg.fctx n 0x10)) 38 32
def State.recordLog2 (s : State) (n : Nat) : Nat := fld (s.rg (Rg.fctx n 0x18)) 4 0
def State.recordBase (s : State) (n : Nat) : Nat := s.rg (Rg.fctx n 0x18) / 4096 * 4096
def State.shadowEn (s : State) (n : Nat) : Bool := bit (s.rg (Rg.fctx n 0x20)) 0
def State.shadowAddr (s : State) (n : Nat) : Nat := s.rg (Rg.fctx n 0x20) / 8 * 8
def State.prioOf (s : State) (n : Nat) : Nat := fld (s.rg (Rg.fctx n 0x28)) 10 8

/-- Address of a record slot (R361). -/
def State.recordSlot (s : State) (n q : Nat) : Nat := s.recordBase n + q % 2 ^ s.recordLog2 n * 32

/-- The PASID a furrow's descriptor data carries: none for a bypass furrow (R277). -/
def State.furTag (s : State) (n : Nat) : Option Nat := if s.furBypass n then none else some (s.furPasid n)

/-! ### Slots of the furrow store -/

/-- The slot of a descriptor. -/
def State.slot (s : State) (n q : Nat) : Option Slot := s.g.store.find? (fun x => x.furrow == n && x.seq == q)

/-- Change the slot of a descriptor. -/
def State.modSlot (s : State) (n q : Nat) (f : Slot → Slot) : State :=
  { s with g := { s.g with store := s.g.store.map (fun x => if x.furrow == n && x.seq == q then f x else x) } }

/-- Free the slot of a descriptor. -/
def State.dropSlot (s : State) (n q : Nat) : State :=
  { s with g := { s.g with store := s.g.store.filter (fun x => !(x.furrow == n && x.seq == q)) } }

/-- The slots of a furrow. -/
def State.slotsOf (s : State) (n : Nat) : List Slot := s.g.store.filter (fun x => x.furrow == n)

/-! ### Stake groups and operations -/

/-- STAKE_GROUP of a stake. -/
def State.group (s : State) (k : Nat) : Nat := s.rg (Rg.stakeGroup (k / 64))

/-- Who operates on a stake (R391, R392). -/
inductive Issuer where
  | host | furrow (n : Nat) | row (r pasid : Nat) (bypass : Bool) | program (plot pasid : Nat) (bypass : Bool) | remote (package : Nat) | headland
  deriving DecidableEq, Repr

/-- The permission of R392. -/
def State.stakeOk (s : State) (i : Issuer) (k : Nat) : Bool :=
  let g := s.group k
  let byPasid (p : Nat) (bypass : Bool) : Bool :=
    bypass || (fld g 21 20 == 2) || (fld g 21 20 == 1 && fld g 19 0 == p)
  match i with
  | .host => true
  | .headland => true
  | .furrow n => byPasid (s.furPasid n) (s.furBypass n)
  | .program _ p _ => byPasid p false
  | .row _ p b => byPasid p b
  | .remote _ => bit g 22

/-- A wait's condition (R388). -/
def condMet (equal : Bool) (value v : Nat) : Bool := if equal then value == v else decide (v ≤ value)

/-- A wait that passed its deadline goes to the timeout queue once, while it has room (R407). -/
def State.queueTimeout (s : State) (w : Wait) : State :=
  if w.queued || 256 ≤ s.g.toQueue.length then s
  else
    ({ s with g := { s.g with toQueue := s.g.toQueue ++ [w.handle],
                               waits := s.g.waits.map (fun (x : Wait) => if x.handle == w.handle then { x with queued := true } else x) } }.attn At.stakeTimeout).bump O.timeouts

/-- The waits past their deadlines, in the order in which they were placed. -/
def State.lateWaits (s : State) : List Wait := s.g.waits.filter (fun w => match w.deadline with | some d => decide (d ≤ s.now) | none => false)

/-- In host-assisted mode the late waits that found the timeout queue full take its free entries (R407). -/
def State.queueMore (s : State) : State := if s.val O.splitStakeTo = 0 then s else s.each s.lateWaits (fun s w => s.queueTimeout w)

/-- Late waits take the entries that leaving waits free in the timeout queue (R407). -/
def State.requeue (s t : State) : State := if t.g.toQueue.length < s.g.toQueue.length then t.queueMore else t

/-- Compare the value a stake holds with the waits placed on it: the waits met leave the wait entries and stand in
`met`, in the order of placement (R390, R403). -/
def State.compareWaits (s : State) (k : Nat) : State :=
  let v := s.stake k
  let met := s.g.waits.filter (fun w => w.stake == k && condMet w.equal v w.value)
  if met.isEmpty then s
  else
    let s := s.bumpBy O.waitsMet met.length
    s.requeue { s with g := { s.g with waits := s.g.waits.filter (fun w => !(w.stake == k && condMet w.equal v w.value)),
                                       toQueue := s.g.toQueue.filter (fun h => met.all (fun w => w.handle != h)),
                                       met := s.g.met ++ met } }

/-- Store a value and compare. -/
def State.putStake (s : State) (k v : Nat) : State :=
  let s := s.bump O.ops
  ({ s with g := { s.g with stakes := kvSet 0 s.g.stakes k v } } : State).compareWaits k

/-- Source and WHO of STAKE_WRAP_INFO. -/
def Issuer.wrap : Issuer → Nat × Nat
  | .host => (0, 0)
  | .furrow n => (1, n)
  | .program p _ _ => (2, p)
  | .row r _ _ => (1, r)
  | .remote a => (3, a)
  | .headland => (0, 0)

/-- Set a stake (R387). -/
def State.stakeSetOp (s : State) (k v : Nat) : State := s.putStake k (v % 2 ^ 64)

/-- Add to a stake, with wrap detection (R391). -/
def State.stakeAddOp (s : State) (i : Issuer) (k v : Nat) : State :=
  let sum := s.stake k + v % 2 ^ 64
  let s := if sum < 2 ^ 64 then s else
    let s := (s.raise Sc.stakeWrap).bump O.wraps
    if s.g.wrapValid then s
    else { s with g := { s.g with wrapValid := true, wrapInfo := (i.wrap.1, k, i.wrap.2) } }
  s.putStake k (sum % 2 ^ 64)

/-! ### Waits -/

/-- Wait entries: 16,128 for descriptors, armed stamps and chains, 16 for each plot (R402). Plot p owns the handles
from 16128 + 16 p on (log entry 9). -/
def Waiter.handles : Waiter → List Nat
  | .plot p slot => [16128 + 16 * p + slot % 16]
  | _ => List.range 16128

/-- The entry a new wait takes: the smallest free handle of its share. -/
def State.freeHandle (s : State) (w : Waiter) : Option Nat :=
  match w with
  | .plot _ _ => w.handles.find? (fun h => s.g.waits.all (fun x => x.handle != h))
  | _ =>
    let used := (s.g.waits.filter (fun x => decide (x.handle < 16128))).map (·.handle)
    (List.range (used.length + 1)).find? (fun h => decide (h < 16128) && !used.contains h)

/-- Place a wait (R398, R402, R405): none where no entry is free. A condition that already holds is met at once. -/
def State.placeWait (s : State) (k : Nat) (equal : Bool) (v : Nat) (who : Waiter) : Option State :=
  match s.freeHandle who with
  | none => none
  | some h =>
    let t := s.val O.stakeTimeoutUs
    let dl := if t = 0 || bit (s.group k) 23 then none else some (s.now + t * 1000)
    let w : Wait := { handle := h, stake := k, equal := equal, value := v, who := who, deadline := dl }
    let s := { s with g := { s.g with waits := s.g.waits ++ [w],
                                       waitGen := kvSet 0 s.g.waitGen h ((kvGet 0 s.g.waitGen h + 1) % 2 ^ 16) } }
    let s := if s.val O.waitersHigh < s.g.waits.length then s.setVal O.waitersHigh s.g.waits.length else s
    some (s.compareWaits k)

/-- Withdraw the waits a condition names. -/
def State.withdraw (s : State) (f : Waiter → Bool) : State :=
  let gone := s.g.waits.filter (fun w => f w.who)
  s.requeue { s with g := { s.g with waits := s.g.waits.filter (fun w => !f w.who),
                                     met := s.g.met.filter (fun w => !f w.who),
                                     toQueue := s.g.toQueue.filter (fun h => gone.all (fun w => w.handle != h)) } }

/-! ### Furrow errors -/

/-- A furrow enters ERROR (R366): code, SEQ, the attention cause.  A furrow that is disabling
or disabled stays so, and one in ERROR keeps its first failure, but for an inline overflow (R353). -/
def State.furrowFail (s : State) (n code q : Nat) : State :=
  let f := s.fur n
  match f.state with
  | .enabled | .draining =>
    (s.setFur n { f with state := .error, errCode := code, errSeq := q }).attn At.furrowError
  | .error => if code = 0xD0 then (s.setFur n { f with errCode := code, errSeq := q }).attn At.furrowError else s
  | _ => s

/-! ### Completion -/

/-- Write bytes to a translated address: a posted write to the host, or a write to HBM or tilth. -/
def State.writeTarget (s : State) (t : Target) (va : Nat) (bs : List Byte) (pasid : Option Nat) (o : Owner) : State :=
  match t with
  | .host a => s.post { kind := .memWrite, addr := a, data := bs, len := bs.length, pasid := pasid, va := some va, owner := o }
  | .hbm a => s.hbmStoreAt a bs o
  | .tilth p off => s.setTilth p (storeWrite (s.tilthStore p) off (enAll bs) false)

/-- A completion record (R361). -/
def recordBytes (q code opcode : Nat) (inl recalled : Bool) (result fault time : Nat) : List Byte :=
  natLe 4 q ++ natLe 2 code ++ natLe 1 opcode ++ natLe 1 (b2n inl + 2 * b2n recalled) ++ natLe 4 result
    ++ natLe 4 0 ++ natLe 8 fault ++ natLe 8 time

/-- A stamp or half-stamp (R360). -/
def stampBytes (value code : Nat) (half : Bool) : List Byte := natLe 4 value ++ natLe 2 code ++ natLe 2 (if half then 0x8000 else 0)

/-- A completion code that is no failure (R362). -/
def codeOk (c : Nat) : Bool := c == 0 || c == 1

/-- Apply a descriptor's signal under its group's right (R359, R393); false where the right is withdrawn. -/
def State.signal (s : State) (i : Issuer) (set : Bool) (k v : Nat) : State × Bool :=
  if s.stakeOk i k then ((if set then s.stakeSetOp k v else s.stakeAddOp i k v), true)
  else (s, false)

/-- The count of descriptors that have completed, with whatever status, by opcode (R577, R630). -/
def State.countDone (s : State) (opcode code : Nat) : State :=
  match opcode with
  | 1 => s.bump O.descriptors
  | 2 => if codeOk code then s.bump O.programsRun else (s.bump O.programsRun).bump O.programsFailed
  | _ => s

/-- A descriptor completes or fails (R359): signal, record, stamp, slot freed, furrow error (R366). -/
def State.finish (s : State) (n q code result fault : Nat) : State :=
  match s.slot n q with
  | none => s
  | some x =>
    let d := x.d
    let tail := x.tailFail.getD (0x21, 0)
    let bad := codeOk code && x.tailFail.isSome
    let fault := if bad then tail.2 else fault
    let code := if bad then tail.1 else if codeOk code && x.halfDenied then 0x21 else code
    let (s, code) :=
      if codeOk code && d.signalEn then
        let r := s.signal (.furrow n) d.signalSet d.signalStake d.signalValue
        (r.1, if r.2 then code else 0x21)
      else (s, code)
    let s := if d.recordEn then
        match x.recordAt with
        | some t => (s.writeTarget t (s.recordSlot n q) (recordBytes q code d.opcode x.inl x.recalled result fault s.rackTime) (s.furTag n) (.record n q)).bump O.records3100
        | none => s
      else s
    let lost := d.stampEn && x.stampAt.isNone
    let s := if d.stampEn then
        match x.stampAt with
        | some t => (s.writeTarget t d.stampAddr (stampBytes d.stampValue code false) (s.furTag n) (.stamp n q)).bump O.stamps
        | none => s
      else s
    let s := (s.dropSlot n q).countDone d.opcode code
    if codeOk code then s
    else
      let s := s.bump O.descFailed
      if lost then s.furrowFail n 0xD2 q
      else if s.furErrCont n || code == 0x90 then s
      else s.furrowFail n code q

/-- The half point of a descriptor (R359): half signal, then half-stamp. -/
def State.half (s : State) (n q : Nat) : State :=
  match s.slot n q with
  | none => s
  | some x =>
    if x.halfDone then s else
    let d := x.d
    let s := s.modSlot n q (fun x => { x with halfDone := true })
    let s :=
      if d.halfSignal then
        let r := s.signal (.furrow n) false d.signalStake d.signalValue
        if r.2 then r.1 else r.1.modSlot n q (fun x => { x with halfDenied := true })
      else s
    if d.halfStampEn then
      match x.stampAt with
      | some t => (s.writeTarget t d.stampAddr (stampBytes d.stampValue 0 true) (s.furTag n) (.stamp n q)).bump O.stamps
      | none => s
    else s

/-- A descriptor waits at its start point: it has not been recalled since its wait was placed (R460). -/
def State.waits (s : State) (n q : Nat) : Bool := match s.slot n q with | some x => x.state == .waiting | none => false

/-- Release one wait that was met (R403): a descriptor may start, an armed stamp completes, a plot's slot is free, a
chain entry goes on.  A recalled descriptor keeps its wait's met state (R460). -/
def State.releaseOne (s : State) (w : Wait) : State :=
  let met (n q : Nat) : State := s.modSlot n q (fun x =>
    { x with waitMet := true, wait := none, atStart := (if x.state == .waiting then some s.now else none) })
  match w.who with
  | .desc n q => met n q
  | .armed n q => if s.waits n q then s.finish n q 0 0 0 else met n q
  | .plot p slot => s.modPlot p (fun x => { x with slots := x.slots.filter (fun y => y.1 != slot) })
  | .chain r => s.setRow r { s.row r with xfers := match (s.row r).xfers with
      | [] => []
      | y :: ys => { y with waitMet := true } :: ys }

/-- Release the waits met, in order, and those that the releases meet in turn. -/
def releaseLoop : Nat → State → State
  | 0, s => s
  | n + 1, s =>
    match s.g.met with
    | [] => s
    | w :: ws => releaseLoop n ({ s with g := { s.g with met := ws } }.releaseOne w)

/-- Release every wait that was met. A wait is released once, so the waits placed bound the number of releases. -/
def State.releaseWaits (s : State) : State := releaseLoop (s.g.waits.length + s.g.met.length) s

/-- Forget stakes, groups, waits and the timeout queue (R411). -/
def State.clearStakes (s : State) : State :=
  let s := s.resetRegs (Rg.stakeGroup 0) (Rg.stakeGroup 1024)
  { s with
    g := { s.g with stakes := [], waits := [], met := [], toQueue := [], wrapValid := false, wrapInfo := (0, 0, 0) } }

end Sys2Proof.Machine
end

