-- ==== Sys2Proof/Machine/Plat.lean ====
section
/-! DEFINITION. Plat: context slots, lookups, the walker, page faults and the drop and recall of an invalidation
(R422-R507).  A lookup answers a target, a denial, or that its stream waits. -/

namespace Sys2Proof.Machine

/-! ### Hopper space (R286, R543) -/

/-- Bytes in 64-byte granules. -/
def granular (n : Nat) : Nat := (n + 63) / 64 * 64

/-- Hopper bytes a transfer holds. -/
def Xfer.held (x : Xfer) : Nat := (x.pieces.map (fun (p : Piece) => granular p.len)).foldl (· + ·) (granular x.ready.length)

/-- Hopper bytes reserved for the completions of outstanding reads of some owners. -/
def State.tagsHeld (s : State) (f : Owner → Bool) : Nat :=
  ((s.host.tags.filter (fun u => u.quar == .no && f u.owner)).map (fun u => granular u.len)).foldl (· + ·) 0

/-- Hopper bytes a row holds, its chain reads among them; its reserve and limit in bytes. -/
def State.rowHeld (s : State) (r : Nat) : Nat :=
  ((s.row r).xfers.map Xfer.held).foldl (· + ·) (s.tagsHeld (fun o => match o with | .chain k _ | .deadRow k => k == r | _ => false))
def State.hopMin (s : State) (r : Nat) : Nat := fld (s.rg (Rg.row r 0x60)) 11 0 * 4096
def State.hopMax (s : State) (r : Nat) : Nat := fld (s.rg (Rg.row r 0x60)) 27 16 * 4096

/-- Hopper bytes that stile receive holds: messages that wait for their target. -/
def State.stileRxHeld (s : State) : Nat := (s.fab.waiting.map (fun x => granular x.2.payload.length)).foldl (· + ·) 0

/-- Hopper bytes in use: rows, stile receive, and the reads of the fetcher and of the walker (log entry 126). -/
def State.hopperUsed (s : State) : Nat :=
  ((List.range 64).map s.rowHeld).foldl (· + ·) (s.stileRxHeld + s.tagsHeld (fun o => match o with | .furrowRing _ _ _ | .deadRing _ | .walk _ => true | _ => false))

/-- Reserves that stand unused, but for those of row `r`. -/
def State.unusedReserves (s : State) (r : Nat) : Nat :=
  ((List.range 64).map (fun k => if k = r then 0 else s.hopMin k - s.rowHeld k)).foldl (· + ·) (fld (s.rg Rg.stileRx) 11 0 * 4096 - s.stileRxHeld)

/-- Whether a row may take n bytes of Hopper space (R543). -/
def State.hopperRoom (s : State) (r n : Nat) : Bool :=
  let held := s.rowHeld r
  decide (held < s.hopMax r)
    && (decide (held + granular n ≤ s.hopMin r) || decide (s.hopperUsed + granular n + s.unusedReserves r ≤ 2048 * 4096))

/-- The share of stile receive is exhausted: its limit, or neither its reserve nor free space takes more (R543, R649). -/
def State.stileRxFull (s : State) : Bool :=
  decide (fld (s.rg Rg.stileRx) 27 16 * 4096 ≤ s.stileRxHeld)
    || (decide (fld (s.rg Rg.stileRx) 11 0 * 4096 ≤ s.stileRxHeld) && decide (2048 * 4096 ≤ s.hopperUsed + s.unusedReserves 64))

/-- Whether the fetcher or the walker may: what no reserve needs. -/
def State.hopperFree (s : State) (n : Nat) : Bool := decide (s.hopperUsed + granular n + s.unusedReserves 64 ≤ 2048 * 4096)

/-! ### Contexts and templates -/

/-- The valid context slot of a PASID (R428). -/
def State.ctxOf (s : State) (pasid : Nat) : Option Nat :=
  (s.reg.find? (fun c => decide (0x280000 ≤ c.1) && decide (c.1 < 0x300000) && c.1 % 0x20 == 0
    && bit c.2 63 && fld c.2 19 0 == pasid)).map (fun c => (c.1 - 0x280000) / 0x20)

/-- The valid context slots. -/
def State.ctxsValid (s : State) : List Nat :=
  (s.reg.filter (fun c => decide (0x280000 ≤ c.1) && decide (c.1 < 0x300000) && c.1 % 0x20 == 0 && bit c.2 63)).map
    (fun c => (c.1 - 0x280000) / 0x20)

def State.pctxCtrl (s : State) (c : Nat) : Nat := s.rg (Rg.pctx c 0x00)
def State.pctxRoot (s : State) (c : Nat) : Nat := s.rg (Rg.pctx c 0x08) / 4096 * 4096
def State.acreCount (s : State) (c : Nat) : Nat := fld (s.rg (Rg.pctx c 0x10)) 14 0
def State.acreBase (s : State) (c : Nat) : Nat := fld (s.rg (Rg.pctx c 0x10)) 38 16 * 65536

/-- A host format template (R432). -/
structure Tmpl where
  a : Nat
  b : Nat
  deriving DecidableEq, Repr

def State.tmpl (s : State) (t : Nat) : Tmpl := { a := s.rg (Rg.tmplA t), b := s.rg (Rg.tmplB t) }
def State.tmplOf (s : State) (c : Nat) : Tmpl := s.tmpl (fld (s.pctxCtrl c) 22 20)

namespace Tmpl
def levels (t : Tmpl) : Nat := fld t.a 2 0
def granule (t : Tmpl) : Nat := fld t.a 7 3
def indexBits (t : Tmpl) : Nat := fld t.a 11 8
def topBits (t : Tmpl) : Nat := fld t.a 15 12
def leafLevels (t : Tmpl) : Nat := fld t.a 20 16
def addrHi (t : Tmpl) : Nat := fld t.a 29 24
def canonical (t : Tmpl) : Bool := bit t.a 30
def adEn (t : Tmpl) : Bool := bit t.b 37
def userEn (t : Tmpl) : Bool := bit t.b 38
def psEn (t : Tmpl) : Bool := bit t.b 39
/-- Virtual address width. -/
def width (t : Tmpl) : Nat := t.granule + t.indexBits * (t.levels - 1) + t.topBits
/-- log2 of the span of one entry at a level. -/
def spanLog (t : Tmpl) (l : Nat) : Nat := t.granule + t.indexBits * l
/-- Index at a level (R432). -/
def index (t : Tmpl) (l va : Nat) : Nat :=
  va / 2 ^ t.spanLog l % 2 ^ (if l + 1 = t.levels then t.topBits else t.indexBits)
/-- R433: the bits above the width. -/
def vaOk (t : Tmpl) (va : Nat) : Bool :=
  let w := t.width
  let top := va / 2 ^ w
  if t.canonical then (if bit va (w - 1) then top == 2 ^ (64 - w) - 1 else top == 0) else top == 0
def present (t : Tmpl) (e : Nat) : Bool := bit e (fld t.b 5 0)
def writes (t : Tmpl) (e : Nat) : Bool := bit e (fld t.b 11 6) != bit t.b 36
def user (t : Tmpl) (e : Nat) : Bool := bit e (fld t.b 17 12)
def accessed (t : Tmpl) (e : Nat) : Bool := bit e (fld t.b 23 18)
def dirty (t : Tmpl) (e : Nat) : Bool := bit e (fld t.b 29 24)
def ps (t : Tmpl) (e : Nat) : Bool := bit e (fld t.b 35 30)
/-- The entry with ACCESSED, and DIRTY for a write, set (R438). -/
def mark (t : Tmpl) (e : Nat) (wr : Bool) : Nat :=
  let e := e ||| 2 ^ fld t.b 23 18
  if wr then e ||| 2 ^ fld t.b 29 24 else e
/-- Output address of a leaf at a level: entry bits [ADDR_HI : span log2]. -/
def leafBase (t : Tmpl) (l e : Nat) : Nat := fld e t.addrHi (t.spanLog l) * 2 ^ t.spanLog l
/-- Next table of a non-leaf entry. -/
def next (t : Tmpl) (e : Nat) : Nat := fld e t.addrHi t.granule * 2 ^ t.granule
end Tmpl

/-! ### Streams -/

/-- Who looks up: the stream and the identity of the furrow from which the work came. -/
structure Who where
  stream : Stream
  pasid : Nat
  priv : Bool
  bypass : Bool
  deriving DecidableEq, Repr

/-- What a lookup answers: a target with the bytes to the end of the translation, a refusal, or a wait. -/
inductive Lk where
  | at_ (t : Target) (room : Nat) | denied | wait
  deriving DecidableEq, Repr

/-- The FAULT_ACTION of a stream's work: true is abort (R482). -/
def State.streamAborts (s : State) : Stream → Bool
  | .sow n q => match s.slot n q with | some x => x.d.abort | none => true
  | .row r id _ => match (s.row r).xfers.find? (fun x => x.id == id) with | some x => x.d.abort | none => true
  | .gleaner p => (s.plot p).abort
  | .tram _ | .remote _ | .mig _ => true

/-- A lookup of a descriptor at its sowing stream fails.  Of one that is UNSOWN, its stamp or record address does not
translate, or a range does not start; it keeps its first failure.  A SOWN or WAITING one keeps what run-ahead found (R457); of a
STARTED one, the stamp or record address is lost (R461), or the buffer of a SEED descriptor fails it. -/
def Slot.failAt (x : Slot) (rec : Nat) (acc : Access) (code va : Nat) : Slot :=
  let wr := !(acc == .read)
  let stamp := wr && x.d.stampEn && x.d.stampAddr == va && x.stampAt.isNone
  let record := wr && x.d.recordEn && rec == va && x.recordAt.isNone
  match x.state with
  | .unsown =>
    { x with stampBad := x.stampBad || stamp, recordBad := x.recordBad || record,
             result := (if x.result.isSome then x.result else some (code, 0, va)) }
  | .started =>
    { x with stampBad := x.stampBad || stamp, recordBad := x.recordBad || record,
             tailFail := (if x.tailFail.isNone && (stamp || record) then some (code, va) else x.tailFail),
             result := (if x.d.opcode == 3 && !stamp && !record && x.result.isNone then some (code, 0, va) else x.result) }
  | _ => { x with fails := x.fails ++ [{ wr := wr, code := code, va := va }] }

/-- A lookup of a row's transfer fails.  Of one that has not begun, and of the stamp of one on an owned row, it ends the transfer;
of a begun one it is kept until the engine reaches the byte (R457). -/
def Xfer.lookupFails (x : Xfer) (acc : Access) (code va : Nat) : Xfer :=
  let owned := match x.src with | .furrow _ _ => false | _ => true
  let stamp := owned && !(acc == .read) && x.d.stampEn && x.d.stampAddr == va && x.stampAt.isNone
  let x := if stamp then { x with stampBad := true } else x
  if x.finished.isSome then x
  else if !x.begun || stamp then { x with finished := some (code, va) }
  else { x with fails := x.fails ++ [{ wr := !(acc == .read), code := code, va := va }] }

/-- The work of a stream fails with a code at an address: a sowing descriptor, a row's transfer, or a plot's program
(R482).  A failure found ahead of the engine waits until it reaches the byte (R457); that of an owned row's stamp ends the
transfer. -/
def State.failStream (s : State) (st : Stream) (acc : Access) (code va : Nat) : State :=
  match st with
  | .sow n q => s.modSlot n q (fun x => x.failAt (s.recordSlot n q) acc code va)
  | .row r id _ => s.setRow r { s.row r with xfers := (s.row r).xfers.map (fun (x : Xfer) =>
      if x.id == id then x.lookupFails acc code va else x) }
  | .gleaner p => s.modPlot p (fun x => if x.ended.isSome then x else { x with ended := some code, endAddr := va })
  | .tram _ | .remote _ => s
  | .mig e => { s with mig := { s.mig with fails := (e, va / 4096 * 4096) :: s.mig.fails } }

/-- Deny a lookup (R431). -/
def State.deny (s : State) : State := s.bump O.denials

/-- The stream waits on a pending fault: any, or one of a page. -/
def State.streamFaulted (s : State) (st : Stream) : Bool :=
  s.flt.entries.any (fun e => e.streams.any (fun x => x.1 == st)) || s.flt.waiting.any (fun w => w.stream == st)
def State.faultWaiting (s : State) (st : Stream) (va : Nat) : Bool :=
  s.flt.entries.any (fun e => e.streams.any (fun x => x.1 == st && x.2 / 4096 == va / 4096))
    || s.flt.waiting.any (fun w => w.stream == st && w.va / 4096 == va / 4096)

/-! ### Faults (R481-R487) -/

namespace Rs
abbrev notPresent : Nat := 1
abbrev writeDenied : Nat := 2
abbrev userDenied : Nat := 3
abbrev adUpdate : Nat := 4
abbrev adCasLimit : Nat := 5
abbrev acreInvalid : Nat := 6
end Rs

/-- Order of strength of access kinds (R484). -/
def Access.rank : Access → Nat
  | .read => 0 | .write => 1 | .atomic => 2

/-- Whether a host page lies wholly in a valid migration window of its PASID (R499). -/
def State.inWindow (s : State) (pasid va len : Nat) : Bool :=
  (List.range 64).any (fun w =>
    let c := s.rg (Rg.migWindow w 0x00)
    bit c 63 && fld c 19 0 == pasid && decide (s.rg (Rg.migWindow w 0x08) ≤ va)
      && decide (va + len ≤ s.rg (Rg.migWindow w 0x08) + s.rg (Rg.migWindow w 0x10)))

/-- The smallest handle of a fault entry not in use. -/
def State.freeFault (s : State) : Option Nat :=
  (List.range (s.flt.entries.length + 1)).find? (fun h => decide (h < 16384) && s.flt.entries.all (fun e => e.handle != h))

/-- SOURCE and SEQ of a fault record (R488): kind and furrow, plot or Tramline die, and the descriptor's SEQ.  The local range
of a stile write is looked up by the Tramline sender it leaves by.  A
transfer that no furrow's descriptor started runs ahead for its row's owner: furrow 0, SEQ 0. -/
def State.faultSource (s : State) : Stream → Nat × Nat
  | .sow n q => (n * 16, q)
  | .row r id _ => (match (s.row r).xfers.find? (fun x => x.id == id) with
      | some x =>
        let q := (match x.src with | .furrow _ q => q | _ => 0)
        if bytesAt x.d.body 20 1 / 16 = 3 then (3 + x.die * 16, q)
        else (match x.src with | .furrow n _ => (1 + n * 16, q) | _ => (1, 0))
      | none => (1, 0))
  | .gleaner p => (2 + p * 16, 0)
  | .tram d => (3 + d * 16, 0)
  | .remote d => (3 + d * 16, 0)
  | .mig _ => (1, 0)

/-- Attach a stall fault to a pending entry, take a free one, or wait for one (R484, R485). -/
def State.stallFault (s : State) (w : StalledFault) : State :=
  match s.flt.entries.find? (fun e => !e.resolved && e.pasid == w.pasid && e.space == w.space && e.page == w.va / 4096 * 4096
      && e.pri == w.pri && decide (w.access.rank ≤ e.access.rank)) with
  | some e =>
    let s := s.bump O.faultsAttached
    { s with flt := { s.flt with entries := s.flt.entries.map (fun (x : FaultEntry) =>
        if x.handle == e.handle && !x.streams.contains (w.stream, w.va) then { x with streams := x.streams ++ [(w.stream, w.va)] } else x) } }
  | none =>
    match s.freeFault with
    | none => { s with flt := { s.flt with waiting := s.flt.waiting ++ [w] } }
    | some h =>
      let e : FaultEntry := { handle := h, gen := kvGet 0 s.flt.gens h, pasid := w.pasid, priv := w.priv, space := w.space,
                              page := w.va / 4096 * 4096, access := w.access, reason := w.reason, level := w.level,
                              streams := [(w.stream, w.va)], source := s.faultSource w.stream, pri := w.pri, createdAt := s.now }
      let s := s.bump O.faults
      { s with flt := { s.flt with entries := s.flt.entries ++ [e] } }

/-- A lookup ends as faulted: abort fails the work with XLATE_FAULT, stall takes a fault entry (R482). A fault for PRI
takes the abort action while PRI Enable is clear (R495). -/
def State.fault (s : State) (who : Who) (space : Space) (va : Nat) (acc : Access) (reason level : Nat) (pri : Bool) : State :=
  if s.streamAborts who.stream || (pri && !s.priEnable) then (s.failStream who.stream acc 0x20 va).bump O.faultsAborted
  else s.stallFault { stream := who.stream, pasid := who.pasid, priv := who.priv, space := space,
                      va := va, access := acc, reason := reason, level := level, pri := pri }

/-- Free the entries that are resolved and whose record, if they have one, is written (R486); stall faults that
waited for an entry take the free ones in order. -/
def State.reapFaults (s : State) : State :=
  let done (e : FaultEntry) : Bool := e.resolved && (e.recorded || e.pri)
  let gone := s.flt.entries.filter done
  let gens := gone.foldl (fun g e => kvSet 0 g e.handle ((e.gen + 1) % 2 ^ 16)) s.flt.gens
  let ws := s.flt.waiting
  let s := { s with flt := { s.flt with entries := s.flt.entries.filter (fun e => !done e), gens := gens, waiting := [] } }
  ws.foldl (fun s w => s.stallFault w) s

/-- How a fault entry is resolved (R486). -/
inductive Resolve where
  | retry | failed | denied
  deriving DecidableEq, Repr

/-- Resolve a fault entry: its streams repeat their lookup, or fail. -/
def State.resolve (s : State) (h : Nat) (r : Resolve) (auto : Bool := false) : State :=
  match s.flt.entries.find? (fun e => e.handle == h && !e.resolved) with
  | none => s
  | some e =>
    let s := match r with
      | .retry => s
      | .failed => s.each e.streams (fun s st => s.failStream st.1 e.access 0x20 st.2)
      | .denied => s.each e.streams (fun s st => s.failStream st.1 e.access 0x21 st.2)
    ({ s with flt := { s.flt with entries := s.flt.entries.map (fun (x : FaultEntry) =>
        if x.handle == h then { x with resolved := true, streams := [], autoRetried := x.autoRetried || auto } else x) } }).reapFaults

/-- The release of Frozen fails every entry that no stream waits on (R521). -/
def State.failIdleFaults (s : State) : State :=
  s.each (s.flt.entries.filter (fun e => !e.resolved && e.streams.isEmpty)) (fun s e => s.resolve e.handle .failed)

/-! ### Parcels and the cache -/

/-- Access right of an entry or parcel with separate bits. -/
def hasRight (r w a : Bool) : Access → Bool
  | .read => r | .write => w | .atomic => a

/-- The parcel that governs an address (R449): overlays first, then the lowest index. -/
def State.parcelFor (s : State) (pasid : Nat) (space : Space) (va : Nat) : Option (Nat × Parcel) :=
  let hit (p : Parcel) : Bool := p.valid && p.pasid == pasid && p.space == space && decide (p.start ≤ va) && decide (va < p.start + p.length)
  match s.plat.parcels.find? (fun p => p.2.overlay && hit p.2) with
  | some p => some p
  | none => s.plat.parcels.find? (fun p => hit p.2)

/-- The migration engine's own lookups take the ordinary translation, beneath the Z20-made overlays (R503). -/
def Stream.beneath : Stream → Bool
  | .mig _ => true
  | _ => false

/-- The parcel that governs a lookup. -/
def State.parcelOf (s : State) (st : Stream) (pasid : Nat) (space : Space) (va : Nat) : Option (Nat × Parcel) :=
  if st.beneath then
    ({ s with plat := { s.plat with parcels := s.plat.parcels.filter (fun p => !p.2.z20) } } : State).parcelFor pasid space va
  else s.parcelFor pasid space va

/-- Bytes from an address to the start of the next parcel of its PASID and space, at most n: what lies beyond has its own
precedence (R449). -/
def State.parcelClip (s : State) (pasid : Nat) (space : Space) (va n : Nat) : Nat :=
  s.plat.parcels.foldl (fun m p =>
    if p.2.valid && p.2.pasid == pasid && p.2.space == space && decide (va < p.2.start) then min m (p.2.start - va) else m) n

/-- The target at an offset of a base. -/
def Target.plus : Target → Nat → Target
  | .host a, k => .host (a + k)
  | .hbm a, k => .hbm (a + k)
  | .tilth p o, k => .tilth p (o + k)

/-- Install a translation, the oldest leaving where the cache of 32,768 is full (R455). -/
def State.install (s : State) (x : Xlat) : State :=
  { s with plat := { s.plat with cache := (x :: s.plat.cache.filter (fun y =>
      !(y.pasid == x.pasid && y.space == x.space && y.va == x.va && y.size == x.size))).take 32768 } }

/-- The cache entry that serves an access: the right is held, a write needs DIRTY, an unprivileged request USER. -/
def State.cached (s : State) (who : Who) (space : Space) (va : Nat) (acc : Access) : Option Xlat :=
  s.plat.cache.find? (fun x => x.pasid == who.pasid && x.space == space && decide (x.va ≤ va) && decide (va < x.va + x.size)
    && hasRight x.r x.w x.a acc && (acc == .read || x.dirty) && (who.priv || x.user)
    && !(who.stream.beneath && x.source == .parcel))

/-! ### Walk slots (R435-R446) -/

/-- The translation stream of a lookup (R441): the sowing of one furrow is one stream. -/
def Stream.key : Stream → Stream
  | .sow n _ => .sow n 0
  | st => st

/-- Two misses ask for the same translation. -/
def Walk.same (x y : Walk) : Bool := x.stream == y.stream && x.space == y.space && x.va / 4096 == y.va / 4096 && x.access == y.access

/-- Walk slots that a stream holds, and whether it may take one more. -/
def State.slotsHeld (s : State) (st : Stream) : Nat := (s.plat.walks.filter (fun x => x.stream.key == st.key)).length
def State.slotFree (s : State) (st : Stream) : Bool :=
  decide (s.plat.walks.length < 256) && decide (s.slotsHeld st < fld (s.rg Rg.platCtrl) 22 16)

/-- A miss takes a walk slot. -/
def State.takeSlot (s : State) (w : Walk) : State :=
  let id := (s.plat.walks.map (·.id)).foldl max 0 + 1
  let s := if w.kind == .table then s.bump O.walks else s
  { s with plat := { s.plat with walks := s.plat.walks ++ [{ w with id := id }] } }

/-- Start a walk slot, or leave the stream waiting for one (R441). -/
def State.startWalk (s : State) (w : Walk) : State :=
  if (s.plat.walks ++ s.plat.slotWait).any (fun x => x.same w) then s
  else if s.slotFree w.stream then s.takeSlot w
  else { s with plat := { s.plat with slotWait := s.plat.slotWait ++ [w] } }

/-- A freed slot goes to a waiting stream that holds none, else to another that may take one, the streams in turn: the one served
comes last (R441). -/
def State.grantSlot (s : State) : State :=
  let next := match s.plat.slotWait.find? (fun w => s.slotFree w.stream && s.slotsHeld w.stream == 0) with
    | some w => some w
    | none => s.plat.slotWait.find? (fun w => s.slotFree w.stream)
  match next with
  | none => s
  | some w =>
    let rest := s.plat.slotWait.erase w
    let mine (x : Walk) : Bool := x.stream.key == w.stream.key
    ({ s with plat := { s.plat with slotWait := rest.filter (fun x => !mine x) ++ rest.filter mine } } : State).takeSlot w

def State.grantSlots (s : State) : State := s.each s.plat.slotWait (fun s _ => s.grantSlot)

/-- Replace a walk slot. -/
def State.setWalk (s : State) (w : Walk) : State :=
  { s with plat := { s.plat with walks := s.plat.walks.map (fun x => if x.id == w.id then w else x) } }

/-- Free a walk slot. -/
def State.endWalk (s : State) (id : Nat) : State :=
  ({ s with plat := { s.plat with walks := s.plat.walks.filter (fun x => x.id != id) } } : State).grantSlots

/-- Whether the walker reads the aligned 64-byte group at a level (R435; log entry 10). -/
def State.groupRead (s : State) (t : Tmpl) (l : Nat) : Bool :=
  bit (s.rg Rg.platCtrl) 24 && (l == 0 || (t.psEn && bit t.leafLevels l))

/-- The TLP a walk slot needs next. -/
def State.walkTlp (s : State) (w : Walk) : Option Tlp :=
  let t := s.tmplOf w.ctx
  let e := w.table + 8 * t.index w.level w.va
  match w.kind with
  | .table => some (if s.groupRead t w.level then { kind := .memRead, addr := e / 64 * 64, len := 64, owner := .walk w.id }
                    else { kind := .memRead, addr := e, len := 8, owner := .walk w.id })
  | .cas => some { kind := .cas, addr := e, len := 8, owner := .walk w.id,
                   data := natLe 8 w.entry ++ natLe 8 (t.mark w.entry (!(w.access == .read))) }
  | .ats =>
    let g := if t.levels = 0 then 12 else t.granule
    let span := 8 * 2 ^ g
    some { kind := .atsRequest, addr := w.va / span * span, len := span, owner := .walk w.id, pasid := some w.pasid, priv := w.priv }
  | .acre => none

/-- The identity of a walk. -/
def Walk.who (w : Walk) : Who := { stream := w.stream, pasid := w.pasid, priv := w.priv, bypass := false }

/-- Issue what the walk slots wait to send, oldest first, while Plat's share of tags lasts.  A CAS that waits when AtomicOp
Requester Enable is clear ends as a fault (R439). -/
def State.issueWalks (s : State) : State :=
  s.each (s.plat.walks.filter (fun w => !w.issued)) (fun s w =>
    if w.kind == .cas && !s.atomicEnable then
      (if w.stale then s.endWalk w.id else (s.endWalk w.id).fault w.who .host w.va w.access Rs.adUpdate w.level false)
    else match s.walkTlp w with
    | none => s
    | some t =>
      match (if s.hopperFree t.len then s.request t true else none) with
      | none => s
      | some r =>
        let s := r.2.setWalk { w with issued := true }
        match w.kind with
        | .table => s.bump O.walkerReads
        | .cas => s.bump O.adCas
        | .ats => s.bump O.atsRequests
        | .acre => s)

/-- AtomicOp Requester Enable has been cleared: a CAS that has not left goes back to its slot (R439). -/
def State.recallCas (s : State) : State :=
  let mine := (s.host.queue.filter (fun t => t.kind == .cas)).map (fun t => t.tag)
  let ids := s.host.tags.filterMap (fun u => if mine.contains u.tag then (match u.owner with | .walk id => some id | _ => none) else none)
  ({ s with host := { s.host with queue := s.host.queue.filter (fun t => !(t.kind == .cas)),
                                  tags := s.host.tags.filter (fun u => !mine.contains u.tag) },
            plat := { s.plat with walks := s.plat.walks.map (fun w => if ids.contains w.id then { w with issued := false } else w) } } : State).issueWalks

/-- Work that is cancelled leaves the lists (R486). -/
def State.leaveFaults (s : State) (f : Stream → Bool) : State :=
  (({ s with
    flt := { s.flt with
      entries := s.flt.entries.map (fun e => { e with streams := e.streams.filter (fun x => !f x.1) }),
      waiting := s.flt.waiting.filter (fun w => !f w.stream) },
    plat := { s.plat with walks := s.plat.walks.filter (fun w => !f w.stream),
                          slotWait := s.plat.slotWait.filter (fun w => !f w.stream) } } : State).grantSlots).issueWalks

/-- Begin the resolution of a host-space miss: a hardware walk from the lowest level the walk cache holds, or an ATS
request; held during a mode switch (R435, R436, R443, R465). -/
def State.missHost (s : State) (who : Who) (c va : Nat) (acc : Access) : State :=
  if s.plat.switching.isSome then s
  else if s.plat.mode then
    (s.startWalk { id := 0, kind := .ats, stream := who.stream, ctx := c, pasid := who.pasid, priv := who.priv,
                   space := .host, va := va, access := acc, issued := false }).issueWalks
  else
    let t := s.tmplOf c
    let hits := if bit (s.rg Rg.platCtrl) 25 then
        s.plat.walkCache.filter (fun e => e.ctx == c && decide (e.va ≤ va) && decide (va < e.va + e.span)) else []
    let best := hits.foldl (fun b e => match b with
      | none => some e
      | some x => if e.level < x.level then some e else b) (none : Option WalkEnt)
    let w : Walk := { id := 0, kind := .table, stream := who.stream, ctx := c, pasid := who.pasid, priv := who.priv,
                      space := .host, va := va, access := acc, issued := false,
                      level := (match best with | some e => e.level - 1 | none => t.levels - 1),
                      table := (match best with | some e => e.table | none => s.pctxRoot c),
                      noWrite := (match best with | some e => e.noWrite | none => none),
                      userOk := (match best with | some e => e.userOk | none => true) }
    (s.startWalk w).issueWalks

/-! ### Lookups (R422-R431, R449) -/

/-- Bytes from an address to the end of its aligned 1 GiB, inside a parcel (R455). -/
def gibClip (start len va : Nat) : Nat × Nat :=
  let lo := max start (va / 2 ^ 30 * 2 ^ 30)
  let hi := min (start + len) (va / 2 ^ 30 * 2 ^ 30 + 2 ^ 30)
  (lo, hi - lo)

/-- A promotion holds lookups in its region (R500). -/
def State.regionHeld (s : State) (pasid va : Nat) : Bool :=
  match s.mig.copying with
  | some p => p.pasid == pasid && va / 2 ^ 21 * 2 ^ 21 == p.region
  | none => false

/-- A lookup is held: for the answer to a fault, or for the copy of a promotion, which alone looks up its region (R500). -/
def State.lookupHeld (s : State) (who : Who) (space : Space) (va : Nat) : Bool :=
  s.faultWaiting who.stream va || (space == .host && !who.stream.beneath && s.regionHeld who.pasid va)

/-- A walk slot for the lookup is in use, or waited for. -/
def State.lookupWalks (s : State) (who : Who) (space : Space) (va : Nat) (acc : Access) : Bool :=
  (s.plat.walks ++ s.plat.slotWait).any (fun x => x.stream == who.stream && x.space == space && x.va / 4096 == va / 4096 && x.access == acc)

/-- A lookup misses where it starts a walk slot or comes to wait for one; one held by a mode switch counts nothing. -/
def State.missed (s t : State) : State :=
  if s.plat.walks.length + s.plat.slotWait.length < t.plat.walks.length + t.plat.slotWait.length then (t.bump O.lookups).bump O.misses else t

/-- Look up an address under the parcel that governs it (R431, R449): the Plat cache takes its extent, clipped (R455). -/
def State.lookupParcel (s : State) (who : Who) (space : Space) (va : Nat) (acc : Access) (p : Parcel) : State × Lk :=
  let s := (if (s.cached who space va acc).isSome then s else s.bump O.misses).bump O.lookups
  if hasRight p.r p.w p.a acc then
    let g := gibClip p.start p.length va
    let s := s.install { pasid := who.pasid, space := space, va := g.1, size := g.2,
                         base := p.target.plus (g.1 - p.start), r := p.r, w := p.w, a := p.a, source := .parcel }
    (s, .at_ (p.target.plus (va - p.start)) (s.parcelClip who.pasid space va (g.1 + g.2 - va)))
  else (s.deny, .denied)

/-- Look up an address that no parcel covers and the Plat cache does not hold: its table, or the acre table (R432, R445). -/
def State.lookupTable (s : State) (who : Who) (space : Space) (va : Nat) (acc : Access) (c : Nat) : State × Lk :=
  let missed := (s.bump O.lookups).bump O.misses
  match space with
  | .host =>
    let t := s.tmplOf c
    if t.levels = 0 && !s.plat.mode then (missed.deny, .denied)
    else if t.levels != 0 && !t.vaOk va then (missed.deny, .denied)
    else (s.missed (s.missHost who c va acc), .wait)
  | .devlocal =>
    if bit (s.pctxCtrl c) 26 then
      if va < hbmBytes then (missed, .at_ (.hbm va) (s.parcelClip who.pasid space va (hbmBytes - va))) else (missed.deny, .denied)
    else if s.acreCount c * acreBytes ≤ va then (missed.deny, .denied)
    else (s.missed (s.startWalk { id := 0, kind := .acre, stream := who.stream, ctx := c, pasid := who.pasid,
                                  priv := who.priv, space := .devlocal, va := va, access := acc }), .wait)

/-- Look up an address of the host or the device-local space: a parcel governs before what the cache holds of a table (R449). -/
def State.lookup (s : State) (who : Who) (space : Space) (va : Nat) (acc : Access) : State × Lk :=
  if who.bypass && space == .host then (s, .at_ (.host va) (2 ^ 64 - va))
  else match s.ctxOf who.pasid with
    | none => (s.deny, .denied)
    | some c =>
      if !bit (s.pctxCtrl c) (match space with | .host => 24 | .devlocal => 25) then ((s.bump O.lookups).deny, .denied)
      else if s.lookupHeld who space va then (s.issueWalks, .wait)
      else match s.parcelOf who.stream who.pasid space va with
        | some (_, p) => s.lookupParcel who space va acc p
        | none => match s.cached who space va acc with
          | some x => (s.bump O.lookups, .at_ (x.base.plus (va - x.va)) (s.parcelClip who.pasid space va (x.va + x.size - va)))
          | none => if s.lookupWalks who space va acc then (s.issueWalks, .wait) else s.lookupTable who space va acc c

/-- Resolve a tilth address (R426). -/
def State.lookupTilth (s : State) (pasid plot off : Nat) : State × Lk :=
  match s.ctxOf pasid with
  | none => (s.deny, .denied)
  | some c =>
    if bit (s.pctxCtrl c) (32 + plot) && decide (plot < 16) && decide (off < 2 ^ 28) then (s, .at_ (.tilth plot off) (2 ^ 28 - off))
    else (s.deny, .denied)

/-! ### What the walk slots' completions do -/

/-- Whether what a walk found for a range may be installed: none of it was dropped since the walk started (R459). -/
def Walk.keeps (w : Walk) (lo hi : Nat) : Bool := w.drops.all (fun d => !(decide (lo < d.2) && decide (d.1 < hi)))

/-- Install the leaf a walk found, unless an invalidation has dropped a part of it since the walk started. -/
def State.installLeaf (s : State) (w : Walk) (t : Tmpl) (l e va : Nat) (wr user : Bool) : State :=
  let size := 2 ^ t.spanLog l
  let lo := va / size * size
  let wr := wr && (!t.adEn || t.dirty e)
  if !w.keeps lo (lo + size) then s
  else s.install { pasid := w.pasid, space := .host, va := lo, size := size, base := .host (t.leafBase l e),
                   r := true, w := wr, a := wr, source := .table, dirty := !t.adEn || t.dirty e, user := !t.userEn || user }

/-- A walk ends as a fault for a reason at a level. -/
def State.walkFault (s : State) (w : Walk) (reason level : Nat) : State :=
  (s.endWalk w.id).fault w.who .host w.va w.access reason level false

/-- Check a leaf entry for a walk (R434, R438): faults, a CAS to set ACCESSED and DIRTY, or the installation. -/
def State.walkLeaf (s : State) (w : Walk) (t : Tmpl) (e : Nat) : State :=
  let wr := w.noWrite.isNone && t.writes e
  let us := w.userOk && t.user e
  let need := !(w.access == .read)
  if need && !wr then s.walkFault w Rs.writeDenied (w.noWrite.getD w.level)
  else if t.userEn && !w.priv && !us then s.walkFault w Rs.userDenied w.level
  else if t.adEn && (!t.accessed e || (need && !t.dirty e)) then
    if !s.atomicEnable then s.walkFault w Rs.adUpdate w.level
    else
      let s := if w.cas = 0 then s else s.bump O.adCasRetries
      (s.setWalk { w with kind := .cas, entry := e, issued := false }).issueWalks
  else (s.installLeaf w t w.level e w.va wr us).endWalk w.id

/-- The entries of a group read other than the one walked: each present leaf is installed, with ACCESSED set where
the template maintains it (R435, R438). -/
def State.installGroup (s : State) (w : Walk) (t : Tmpl) (data : List Byte) : State :=
  let i := t.index w.level w.va
  let size := 2 ^ t.spanLog w.level
  s.each (List.range 8) (fun s k =>
    let j := i / 8 * 8 + k
    let e := bytesAt data (8 * k) 8
    if j == i || !t.present e || (t.adEn && !t.accessed e) then s
    else if w.level != 0 && !(t.psEn && t.ps e && bit t.leafLevels w.level) then s
    else s.installLeaf w t w.level e (w.va / size * size / (size * 8) * (size * 8) + k * size) (w.noWrite.isNone && t.writes e) (w.userOk && t.user e))

/-- The walk cache takes a non-leaf entry, unless an invalidation has dropped a part of its span since the walk started (R436). -/
def State.cacheWalk (s : State) (w : Walk) (e : WalkEnt) : State :=
  if bit (s.rg Rg.platCtrl) 25 && w.keeps e.va (e.va + e.span) then
    { s with plat := { s.plat with walkCache := (e :: s.plat.walkCache).take 4096 } } else s

/-- The entry that a walk finds at its level (R434, R437): a fault, a leaf, a malformed table, or the next level. -/
def State.walkEntry (s : State) (w : Walk) (t : Tmpl) (e : Nat) : State :=
  if !t.present e then s.walkFault w Rs.notPresent w.level
  else if w.level == 0 || (t.psEn && t.ps e && bit t.leafLevels w.level) then s.walkLeaf w t e
  else if t.psEn && t.ps e then
    (((s.endWalk w.id).raise Sc.platTableBad).deny).failStream w.stream w.access 0x21 w.va
  else
    let span := 2 ^ t.spanLog w.level
    let w' := { w with kind := .table, level := w.level - 1, table := t.next e, noWrite := (if w.noWrite.isNone && !t.writes e then some w.level else w.noWrite),
                       userOk := w.userOk && t.user e, cas := 0, issued := false }
    ((s.cacheWalk w { ctx := w.ctx, level := w.level, va := w.va / span * span, span := span,
                      table := w'.table, noWrite := w'.noWrite, userOk := w'.userOk }).setWalk w').issueWalks

/-- A walker read completes (R435-R437): a group read installs its other leaves, whatever the entry walked is. -/
def State.walkerDone (s : State) (id : Nat) (data : List Byte) : State :=
  match s.plat.walks.find? (fun w => w.id == id && w.kind == .table && w.issued) with
  | none => s
  | some w =>
    if w.stale then (s.endWalk id).issueWalks
    else
      let t := s.tmplOf w.ctx
      let e := bytesAt data (if 64 ≤ data.length then t.index w.level w.va % 8 * 8 else 0) 8
      let s := if 64 ≤ data.length then s.installGroup w t data else s
      (s.walkEntry w t e).issueWalks

/-- An accessed or dirty CAS completes with the value that stood at the entry (R438): where that has changed, the walk goes on with
it, and a fourth failed CAS is a fault. -/
def State.casDone (s : State) (id found : Nat) : State :=
  match s.plat.walks.find? (fun w => w.id == id && w.kind == .cas && w.issued) with
  | none => s
  | some w =>
    if w.stale then (s.endWalk id).issueWalks
    else
      let t := s.tmplOf w.ctx
      if found == w.entry then
        let e := t.mark w.entry (!(w.access == .read))
        (((s.installLeaf w t w.level e w.va (w.noWrite.isNone && t.writes e) (w.userOk && t.user e)).endWalk id)).issueWalks
      else if 3 ≤ w.cas then ((s.raise Sc.platCasLimit).walkFault w Rs.adCasLimit w.level).issueWalks
      else (s.walkEntry { w with cas := w.cas + 1 } t found).issueWalks

/-- A walker read or CAS ends in error (R440). -/
def State.walkFailed (s : State) (id : Nat) : State :=
  match s.plat.walks.find? (fun w => w.id == id) with
  | none => s
  | some w =>
    let s := ((s.endWalk id).raise Sc.platWalkError { addr := some w.va }).bump O.walkErrors
    (if w.stale then s else s.failStream w.stream w.access 0x20 w.va).issueWalks

/-- An ATS Translation Completion (R443, R444): translations are installed, but for those that an invalidation has dropped a part of;
a missing right faults through PRI; UR and CA deny. -/
def State.atsDone (s : State) (id : Nat) (ok : Bool) (xs : List AtsEntry) : State :=
  match s.plat.walks.find? (fun w => w.id == id && w.kind == .ats && w.issued) with
  | none => s
  | some w =>
    let s := s.endWalk id
    if w.stale then s.issueWalks
    else if !ok then (s.deny.failStream w.stream w.access 0x21 w.va).issueWalks
    else
      let s := s.each (xs.filter (fun x => (x.r || x.w) && w.keeps x.va (x.va + x.size))) (fun s x => s.install
        { pasid := w.pasid, space := .host, va := x.va, size := x.size, base := .host x.addr, r := x.r, w := x.w, a := x.w, source := .ats })
      let good := xs.any (fun x => decide (x.va ≤ w.va) && decide (w.va < x.va + x.size) && hasRight x.r x.w x.w w.access)
      (if good then s else s.fault w.who .host w.va w.access Rs.notPresent 0 true).issueWalks

/-- An acre entry read from HBM (R445, R446). -/
def State.acreDone (s : State) (id : Nat) : State :=
  match s.plat.walks.find? (fun w => w.id == id && w.kind == .acre) with
  | none => s
  | some w =>
    let s := s.endWalk id
    (if w.stale then s
    else
      let r := s.hbmRead (s.acreBase w.ctx + 8 * (w.va / acreBytes)) 8
      let s := r.1
      let e := leNat r.2.1
      if !bit e 0 then s.fault w.who .devlocal w.va w.access Rs.acreInvalid 0xFF false
      else if fld e 7 4 != 0 || fld e 63 21 != 0 || hbmAcres ≤ fld e 20 8 then
        ((s.raise Sc.platTableBad).deny).failStream w.stream w.access 0x21 w.va
      else if !hasRight (bit e 1) (bit e 2) (bit e 3) w.access then s.deny.failStream w.stream w.access 0x21 w.va
      else if !w.keeps (w.va / acreBytes * acreBytes) (w.va / acreBytes * acreBytes + acreBytes) then s
      else s.install { pasid := w.pasid, space := .devlocal, va := w.va / acreBytes * acreBytes, size := acreBytes,
                       base := .hbm (fld e 20 8 * acreBytes), r := bit e 1, w := bit e 2, a := bit e 3, source := .acre }).issueWalks

/-! ### Invalidation (R459-R461) -/

/-- What an invalidation covers: one PASID or all, host and device-local spaces, [lo, hi). -/
structure Cover where
  pasid : Option Nat
  host : Bool
  dev : Bool
  lo : Nat
  hi : Nat
  deriving DecidableEq, Repr

def Cover.hits (c : Cover) (pasid : Nat) (space : Space) (lo hi : Nat) : Bool :=
  (match c.pasid with | some p => p == pasid | none => true)
  && (match space with | .host => c.host | .devlocal => c.dev) && decide (lo < c.hi) && decide (c.lo < hi)

/-- A held translation lies under an invalidation. -/
def Cover.hitsHeld (c : Cover) (pasid : Nat) (e : AheadX) : Bool :=
  match e.space with | some sp => c.hits pasid sp e.va (e.va + e.len) | none => false

/-- The translation that a descriptor holds of its stamp address, or of its record slot, lies under an invalidation. -/
def State.stampUnder (s : State) (c : Cover) (x : Slot) : Bool :=
  x.stampAt.isSome && !s.furBypass x.furrow && c.hits x.pasid .host x.d.stampAddr (x.d.stampAddr + 8)
def State.recordUnder (s : State) (c : Cover) (x : Slot) : Bool :=
  let a := s.recordSlot x.furrow x.seq
  x.recordAt.isSome && !s.furBypass x.furrow && c.hits x.pasid .host a (a + 32)

/-- A promotion's pages under an invalidation are translated, and the region is copied, again. -/
def State.dropPromotion (s : State) (c : Cover) : State :=
  match s.mig.copying with
  | none => s
  | some p =>
    let n := if c.hits p.pasid .host p.region (p.region + 2 ^ 21) then (max c.lo p.region - p.region) / 4096 else 512
    { s with mig := { s.mig with copying := some { p with pages := p.pages.take n, copied := p.copied && decide (512 ≤ n) } } }

/-- The engines drop the translations they hold for a range: run-ahead's past the first tile of descriptors that have not started,
those of the transfers of the rows, the gleaners' buffers, the stamps and records of started descriptors, and a promotion's; the reads
that a row issued under them have to end first (R461). -/
def State.dropAhead (s : State) (c : Cover) : State :=
  let under (u : TagUse) : Bool := match u.owner with
    | .row r id _ => (match (s.row r).xfers.find? (fun x => x.id == id) with
        | some x => !x.bypass && c.hits x.pasid .host u.va (u.va + u.len)
        | none => false)
    | _ => false
  let s : State := { s with host := { s.host with tags := s.host.tags.map (fun u => if under u then { u with stale := true } else u) } }
  let s := s.each (s.drill.rows.map (fun e => e.1)) (fun s r => s.setRow r { s.row r with xfers := (s.row r).xfers.map (fun x =>
    { x with ahead := x.ahead.filter (fun e => !c.hitsHeld x.pasid e),
             stampAt := (if !x.bypass && c.hits x.pasid .host x.d.stampAddr (x.d.stampAddr + 8) then none else x.stampAt) }) })
  let s := s.each (s.plots.map (fun e => e.1)) (fun s p => s.modPlot p (fun y =>
    { y with gbuf := y.gbuf.filter (fun e => !c.hits e.pasid e.space e.va (e.va + e.size)) }))
  let s := s.dropPromotion c
  { s with g := { s.g with store := s.g.store.map (fun x => if x.state == .started then
      { x with stampAt := (if s.stampUnder c x then none else x.stampAt),
               recordAt := (if s.recordUnder c x then none else x.recordAt) }
    else { x with ahead := x.ahead.filter (fun e => decide (e.off < 2 ^ x.tile) || !c.hitsHeld x.pasid e) }) } }

/-- A walk under an invalidation: one for the range is stale; another installs nothing of the range (R459). -/
def Walk.under (c : Cover) (w : Walk) : Walk :=
  if c.hits w.pasid w.space w.va (w.va + 1) then { w with stale := true }
  else if c.hits w.pasid w.space c.lo c.hi then { w with drops := (c.lo, c.hi) :: w.drops } else w

/-- Drop phase: cache and walk cache entries go, walks of the range become stale (R459); the engines drop what they hold. -/
def State.dropXlats (s : State) (c : Cover) : State :=
  let s := s.dropAhead c
  { s with plat := { s.plat with
      cache := s.plat.cache.filter (fun x => !c.hits x.pasid x.space x.va (x.va + x.size)),
      walkCache := s.plat.walkCache.filter (fun e => !(c.host
        && (match c.pasid with | some p => fld (s.pctxCtrl e.ctx) 19 0 == p | none => true)
        && decide (e.va < c.hi) && decide (c.lo < e.va + e.span))),
      walks := s.plat.walks.map (Walk.under c),
      slotWait := s.plat.slotWait.filter (fun w => !c.hits w.pasid w.space w.va (w.va + 1)) } }

/-- Recall phase: descriptors that have not started and hold a translation of the range return to UNSOWN; they lose every
translation and leave the lists in which their lookups stand (R460). -/
def State.recallSlots (s : State) (c : Cover) : State :=
  let held (x : Slot) : Bool := !(x.state == .started)
    && (x.ahead.any (c.hitsHeld x.pasid) || s.stampUnder c x || s.recordUnder c x)
  let gone := s.g.store.filter held
  if gone.isEmpty then s
  else
    let s := (s.bumpBy O.recalls gone.length).leaveFaults (fun st => gone.any (fun x => st == Stream.sow x.furrow x.seq))
    { s with g := { s.g with store := s.g.store.map (fun x => if gone.any (fun y => y.furrow == x.furrow && y.seq == x.seq) then
        { x with state := .unsown, ahead := [], fails := [], stampAt := none, recordAt := none, atStart := none, recalled := true } else x) } }

/-- The engines that hold translations, as CMD_ACK_PENDING numbers them: Coulter, Press, 16 gleaners, both Tramline senders and
the device coherent cache, which acknowledges at once in PCIe mode (R461). -/
def State.allEngines (s : State) : Nat := 2 ^ 20 - 1 + 2 ^ 20 * b2n (s.link.up && s.link.protocol == 1)

/-- Auto-retry of pending ring entries whose page a completed invalidation covers (R494). -/
def State.autoRetry (s : State) (c : Cover) : State :=
  if s.flt.mode then s
  else s.each (s.flt.entries.filter (fun e => !e.resolved && !e.pri && c.hits e.pasid e.space e.page (e.page + 4096)))
    (fun s e => (s.resolve e.handle .retry true).bump O.autoRetries)

/-- Auto-retry of the AD_UPDATE entries, when AtomicOp Requester Enable is set (R494). -/
def State.autoRetryAd (s : State) : State :=
  if s.flt.mode then s
  else s.each (s.flt.entries.filter (fun e => !e.resolved && !e.pri && e.reason == Rs.adUpdate))
    (fun s e => (s.resolve e.handle .retry true).bump O.autoRetries)

/-- Commands of the rotation engine in its queue of 8 (R453). -/
def State.ownQueued (s : State) : Nat := (s.plat.queue.filter (fun c => c.headland && !c.modeSwitch)).length

/-- A command enters the executor's queue; behind ATS Invalidate Requests that wait in the receive buffer it comes after them (R463). -/
def State.queueCmd (s : State) (c : PlatCmd) : State :=
  if s.plat.atsHeld.isEmpty then { s with plat := { s.plat with queue := s.plat.queue ++ [c] } }
  else { s with plat := { s.plat with atsHeld := s.plat.atsHeld ++ [c] } }

/-- An invalidation of the Z20's own enters the executor's queue (R500, R717, R718); one of the rotation engine waits while the 8
places of its queue are taken (R453). -/
def State.ownCommand (s : State) (c : PlatCmd) : State :=
  if c.headland && (decide (8 ≤ s.ownQueued) || !s.plat.ownHeld.isEmpty) then { s with plat := { s.plat with ownHeld := s.plat.ownHeld ++ [c] } }
  else s.queueCmd c

/-- A command of the Z20's own is queued or executing. -/
def State.ownPending (s : State) (o : Own) : Bool :=
  (s.plat.queue ++ s.plat.ownHeld ++ s.plat.atsHeld).any (fun c => c.own == o) || (match s.plat.executing with | some c => c.own == o | none => false)

/-- Flush every cache (R314). -/
def State.flushPlat (s : State) : State :=
  let s := s.dropAhead { pasid := none, host := true, dev := true, lo := 0, hi := 2 ^ 65 }
  { s with plat := { s.plat with cache := [], walkCache := [], walks := s.plat.walks.map (fun w => { w with stale := true }), slotWait := [] } }

/-- Z20-made overlays that an invalidation of the host space overlaps: they are evicted first (R503). -/
def State.overlaysIn (s : State) (c : Cover) : List (Nat × Parcel) :=
  s.plat.parcels.filter (fun p => p.2.valid && p.2.z20 && c.hits p.2.pasid p.2.space p.2.start (p.2.start + p.2.length))

/-- A write through Z20-made overlays sets the dirty bits of the pages that each governs (R502). -/
def State.noteOverlay (s : State) (pasid va len : Nat) : State :=
  let c : Cover := { pasid := some pasid, host := true, dev := false, lo := va, hi := va + len }
  if len = 0 then s
  else s.each (s.overlaysIn c) (fun s e =>
    let p := e.2
    let lo := (max va p.start - p.start) / 4096
    let hi := (min (va + len) (p.start + p.length) - 1 - p.start) / 4096
    let mine (k : Nat) : Bool := (s.parcelFor pasid .host (p.start + k * 4096)).any (fun x => x.1 == e.1)
    let pages := ((List.range (hi + 1 - lo)).map (· + lo)).filter (fun k => mine k && !p.dirty.contains k)
    { s with plat := { s.plat with parcels := kvPut s.plat.parcels e.1 { p with dirty := p.dirty ++ pages } } })

/-! ### Access counters (R497, R498) -/

/-- Count host-space data accesses inside one 2 MiB region: the granules touched go to its counter, the first free one at its
first access. -/
def State.countRegion (s : State) (pasid va len : Nat) : State :=
  let region := va / 2 ^ 21 * 2 ^ 21
  let n := (granules va len).length
  let thr := s.val O.migHotThreshold
  let bump (c : AccCounter) : AccCounter × Bool :=
    let k := min (c.count + n) (2 ^ 32 - 1)
    let hotNow := decide (thr ≤ k) && !c.hot && s.inWindow pasid region (2 ^ 21)
    ({ c with count := k, hot := c.hot || hotNow, marked := c.marked || hotNow }, hotNow)
  let cs := match s.mig.counters.find? (fun c => c.2.pasid == pasid && c.2.region == region) with
    | some c => kvPut s.mig.counters c.1 (bump c.2).1
    | none => match (List.range 16384).find? (fun i => (kvFind s.mig.counters i).isNone) with
      | some i => kvPut s.mig.counters i (bump { pasid := pasid, region := region, count := 0 }).1
      | none => s.mig.counters
  { s with mig := { s.mig with counters := cs } }

/-- Count host-space data accesses, region by region (R497). -/
def State.countAccess (s : State) (pasid va len : Nat) : State :=
  if len = 0 then s
  else s.each ((List.range ((va + len - 1) / 2 ^ 21 + 1 - va / 2 ^ 21)).map (· + va / 2 ^ 21)) (fun s k =>
    let lo := max va (k * 2 ^ 21)
    s.countRegion pasid lo (min (va + len) (k * 2 ^ 21 + 2 ^ 21) - lo))

/-- Marked regions enter the hot-region list while it has room (R498). -/
def State.listHot (s : State) : State :=
  s.each s.mig.counters (fun s e =>
    if e.2.marked && s.mig.hot.length < 256 then
      { s with mig := { s.mig with
          hot := s.mig.hot ++ [(e.2.pasid, e.2.region)],
          counters := kvPut s.mig.counters e.1 { e.2 with marked := false } } }
    else s)

end Sys2Proof.Machine
end

