-- ==== Sys2Proof/Machine/PlatCmd.lean ====
section
/-! DEFINITION. Plat's registers, its command executor and the completions of its walks (R428-R466, R478, R479). -/

namespace Sys2Proof.Machine

/-! ### Registers -/

/-- The bits of PCTX_CTRL that are not reserved (R479). -/
abbrev pctxMask : Nat := 0x8000FFFF3F7FFFFF

/-- A write of PCTX_CTRL[c] (R428, R429): ignored and logged on a valid slot, and where VALID would name PASID 0 or a
PASID that is valid in another slot. -/
def State.writePctxCtrl (s : State) (c val : Nat) (rid : Half) : State :=
  let v := val &&& pctxMask
  let off := Rg.pctx c 0
  if bit (s.rg off) 63 then (if v = s.rg off then s else s.valueErr off 8 rid)
  else if bit v 63 && (fld v 19 0 == 0 || (s.ctxOf (fld v 19 0)).isSome) then s.valueErr off 8 rid
  else s.setRg off v

/-- A write of PCTX_ROOT or PCTX_ACRE (R429, R479). -/
def State.writePctxOther (s : State) (c off val : Nat) (rid : Half) : State :=
  let a := Rg.pctx c off
  if bit (s.rg (Rg.pctx c 0)) 63 then s.valueErr a 8 rid
  else if off = 0x08 then s.setRg a (val / 4096 * 4096)
  else if off = 0x10 then
    let v := val &&& (0x7FFF + (2 ^ 39 - 2 ^ 16))
    if 16384 < fld v 14 0 || hbmBytes ≤ fld v 38 16 * 65536 then s.valueErr a 8 rid else s.setRg a v
  else s

/-- A write of a template register while no valid context names it (R478); reserved encodings are not accepted. -/
def State.writeTmpl (s : State) (t : Nat) (b : Bool) (val : Nat) (rid : Half) : State :=
  let off := if b then Rg.tmplB t else Rg.tmplA t
  if s.ctxsValid.any (fun c => fld (s.pctxCtrl c) 22 20 == t) then s.valueErr off 8 rid
  else if b then s.setRg off (val % 2 ^ 40)
  else
    let v := val &&& 0x7F1FFFFF
    if 5 < fld v 2 0 || fld v 7 3 < 12 || 16 < fld v 7 3 || fld v 11 8 < 4 || 13 < fld v 11 8
        || fld v 15 12 < 1 || 13 < fld v 15 12 || !bit v 16 || fld v 29 24 < 32
        || 64 < fld v 7 3 + fld v 11 8 * (fld v 2 0 - 1) + fld v 15 12 then s.valueErr off 8 rid
    else s.setRg off v

/-- A write of PLAT_CTRL (R478). -/
def State.writePlatCtrl (s : State) (val : Nat) (rid : Half) : State :=
  let v := val &&& 0x37F1F1F
  if fld v 4 0 < 14 || 20 < fld v 4 0 || fld v 12 8 < 1 || 16 < fld v 12 8 || fld v 22 16 < 1 || 64 < fld v 22 16 then
    s.valueErr Rg.platCtrl 8 rid
  else s.setRg Rg.platCtrl v

/-- Host commands queued or executing (R478). -/
def State.cmdQueued (s : State) : Nat :=
  ((s.plat.queue ++ s.plat.atsHeld).filter (fun c => c.ticket.isSome)).length
    + (match s.plat.executing with | some c => b2n c.ticket.isSome | none => 0)

/-- A write of 1 to CMD_SUBMIT copies the five words into the queue under the next ticket (R450). -/
def State.cmdSubmit (s : State) (rid : Half) : State :=
  if 64 ≤ s.cmdQueued then
    { s with plat := { s.plat with rejected := true } }.valueErr 0x200228 8 rid
  else
    let w := fun i => s.rg (Rg.cmdW i)
    let c : PlatCmd :=
      { ticket := some s.plat.ticketNext, kind := fld (w 0) 7 0, space := fld (w 0) 9 8, stampEn := bit (w 0) 10,
        parcel := fld (w 0) 31 16, pasid := fld (w 0) 51 32, target := fld (w 0) 53 52, plot := fld (w 0) 57 54,
        rights := fld (w 0) 60 58, overlay := bit (w 0) 61 && fld (w 0) 7 0 == 4, rsv := fld (w 0) 15 11 != 0 || fld (w 0) 63 62 != 0 || fld (w 4) 2 0 != 0,
        start := w 1, length := w 2, targetAddr := w 3, stampAddr := w 4 / 8 * 8 }
    let t := s.queueCmd c
    { t with plat := { t.plat with ticketNext := (s.plat.ticketNext + 1) % 2 ^ 16 } }

/-! ### The executor -/

/-- What a command's invalidation covers (R451). -/
def PlatCmd.cover (c : PlatCmd) : Cover :=
  let all := c.kind == 3 || c.allPasids
  let whole := c.kind == 2 || c.kind == 3 || c.kind == 6
  { pasid := if all then none else some c.pasid,
    host := c.kind == 6 || c.space == 0 || (c.space == 2 && decide (c.kind ≤ 3)),
    dev := c.kind == 6 || c.space == 1 || (c.space == 2 && decide (c.kind ≤ 3)),
    lo := if whole then 0 else c.start,
    hi := if whole then 2 ^ 65 else c.start + c.length }

/-- The source range lies inside the template's width, on one side of the addresses that are not canonical, or ACRE_COUNT; one of
both spaces inside both (R452). -/
def State.cmdRangeOk (s : State) (c : PlatCmd) (ctx : Nat) : Bool :=
  if c.start % 4096 != 0 || c.length = 0 || c.length % 4096 != 0 then false
  else if c.kind == 4 && decide (2 ^ 40 < c.length) then false
  else
    let stop := c.start + c.length
    let dev := if bit (s.pctxCtrl ctx) 26 then decide (stop ≤ hbmBytes) else decide (stop ≤ s.acreCount ctx * acreBytes)
    let t := s.tmplOf ctx
    let w := t.width
    let host := decide (stop ≤ 2 ^ 64) && (t.levels == 0 || (t.vaOk c.start && t.vaOk (stop - 1)
      && (!t.canonical || decide (64 ≤ w) || bit c.start (w - 1) == bit (stop - 1) (w - 1))))
    (c.space == 0 || dev) && (c.space == 1 || host)

/-- The result of a command's checks (R452); 0 starts it. -/
def State.cmdCheck (s : State) (c : PlatCmd) : Nat :=
  if c.kind == 0 || 7 < c.kind || c.rsv || c.space == 3
      || (c.kind == 4 && (decide (1 < c.space) || c.target == 3)) then 1
  else if c.kind == 3 || c.kind == 7 || c.ats.isSome || (c.kind == 1 && c.own != .no) then 0
  else match s.ctxOf c.pasid with
    | none => 3
    | some ctx =>
      if (c.kind == 1 || c.kind == 4) && !s.cmdRangeOk c ctx then 2
      else if c.own == .overlay && !s.mig.copying.any (fun p => p.copied) then 7
      else if c.kind == 4 then
        let p := kvGet {} s.plat.parcels c.parcel
        let lim := match c.target with | 1 => hbmBytes | 2 => 2 ^ 28 | _ => 2 ^ 64
        if p.valid then 4
        else if 1024 ≤ (s.plat.parcels.filter (fun x => x.2.valid && x.2.pasid == c.pasid)).length then 5
        else if c.targetAddr % 4096 != 0 || lim < c.targetAddr + c.length then 7 else 0
      else if c.kind == 5 then
        let p := kvGet {} s.plat.parcels c.parcel
        if c.overlay then 0 else if !p.valid then 6 else if p.pasid != c.pasid then 9 else 0
      else if c.kind == 6 then
        if (s.reg.filter (fun r => decide (0x300000 ≤ r.1) && decide (r.1 < 0x340000) && r.1 % 0x40 == 0x08)).any (fun r =>
              fld r.2 19 0 == c.pasid && !((s.fur ((r.1 - 0x300000) / 0x40)).state == .disabled))
            || s.rot.entries.any (fun e => (e.state == .sowing || e.state == .reaping) && (kvGet {} s.seed.lots e.lot).pasid == c.pasid) then 8
        else 0
      else 0

/-- The parcel a PARCEL_INSTALL names. -/
def PlatCmd.toParcel (c : PlatCmd) (z20 : Bool) : Parcel :=
  { pasid := c.pasid, space := if c.space == 0 then .host else .devlocal, start := c.start, length := c.length,
    target := (match c.target with | 0 => .host c.targetAddr | 1 => .hbm c.targetAddr | _ => .tilth c.plot c.targetAddr),
    r := bit c.rights 0, w := bit c.rights 1, a := bit c.rights 2, overlay := c.overlay, z20 := z20, valid := true }

/-- Store a parcel, or forget it. -/
def State.putParcel (s : State) (i : Nat) (p : Parcel) : State :=
  { s with plat := { s.plat with parcels := kvSet {} s.plat.parcels i p } }

/-- A promotion is abandoned: not again for 8 epochs (R500 step 3). -/
def State.abandonPromotion (s : State) (pasid region : Nat) : State :=
  let s := s.leaveFaults (fun st => st == .mig false)
  { s with mig := { s.mig with copying := none, fails := s.mig.fails.filter (fun f => f.1),
                               banned := s.mig.banned ++ [(pasid, region, s.mig.epoch + 8)] } }

/-- The overlay's installation has ended (R500 steps 5 and 6): the held lookups go on, through the overlay; a failed one
abandons the promotion. -/
def State.promoted (s : State) (ok : Bool) : State :=
  match s.mig.copying with
  | none => s
  | some c =>
    if ok then ({ s with mig := { s.mig with copying := none } } : State).bump O.promotions
    else s.abandonPromotion c.pasid c.region

/-- ATS Invalidate Requests queued or executing (R463). -/
def State.atsQueued (s : State) : Nat :=
  (s.plat.queue.filter (fun c => c.ats.isSome)).length + (match s.plat.executing with | some c => b2n c.ats.isSome | none => 0)

/-- What waits in the receive buffer, and the commands behind it, enter the queue in their order while at most 32 ATS requests are
there (R463). -/
def atsLoop : List PlatCmd → State → State
  | [], s => { s with plat := { s.plat with atsHeld := [] } }
  | c :: rest, s =>
    if c.ats.isSome && decide (32 ≤ s.atsQueued) then { s with plat := { s.plat with atsHeld := c :: rest } }
    else atsLoop rest { s with plat := { s.plat with queue := s.plat.queue ++ [c] } }

def State.atsNext (s : State) : State := atsLoop s.plat.atsHeld s

/-- A command of the rotation engine that waited takes a place of its queue (R453). -/
def State.ownNext (s : State) : State :=
  match s.plat.ownHeld with
  | [] => s
  | c :: rest => if 8 ≤ s.ownQueued then s else ({ s with plat := { s.plat with ownHeld := rest } } : State).queueCmd c

/-- Completion of a command (R453, R462): its own effect, ticket, result, stamp or ATS Invalidate Completion. -/
def State.cmdDone (s : State) (c : PlatCmd) (result : Nat) : State :=
  let s := (State.atsNext { s with plat := { s.plat with executing := none, acks := 0 } }).ownNext
  let s := if result != 0 then s
    else match c.kind with
      | 5 => (s.dropXlats c.cover).putParcel c.parcel {}
      | 6 =>
        let s := { s with plat := { s.plat with parcels := s.plat.parcels.filter (fun p => p.2.pasid != c.pasid), retiring := none } }
        (match s.ctxOf c.pasid with | some k => s.setRg (Rg.pctx k 0) (setBit (s.pctxCtrl k) 63 false) | none => s)
      | _ => s
  let s := match c.ats with
    | some itag => ((s.bump O.atsInvalidations).enqueue { kind := .atsInvalidateCpl, tag := itag }).drain
    | none => if c.ticket.isSome || (c.headland && !c.modeSwitch) then s.bump O.commands else s
  let s := match c.ticket with
    | some t =>
      let s := { s with plat := { s.plat with ticketDone := t, lastResult := result } }
      if c.stampEn then
        s.post { kind := .memWrite, addr := c.stampAddr / 8 * 8, data := natLe 8 (t + result * 2 ^ 32), len := 8, owner := .cmdStamp t }
      else s
    | none => s
  let s := if c.own == .overlay then s.promoted (result == 0) else s
  if result = 0 && c.kind != 7 then s.autoRetry c.cover else s

/-- A PARCEL_REMOVE carries out the invalidation of its parcel's source range (R451). -/
def State.withRange (s : State) (c : PlatCmd) : PlatCmd :=
  let p := kvGet {} s.plat.parcels c.parcel
  if c.kind == 5 && p.valid then
    { c with space := (match p.space with | .host => 0 | .devlocal => 1), start := p.start, length := p.length }
  else c

/-- The executor takes the command at the head of its queue where it has the kind named or a reserved one: a failed check completes it
at once; otherwise the drop and recall phases run, which take two free times within 1 µs, and the acknowledgements are collected (R452, R459). An invalidation
that overlaps a Z20-made overlay starts only after the overlay's eviction (R503). -/
def State.runCmd (s : State) (kind : Nat) : State :=
  match s.plat.executing, s.plat.queue with
  | none, c :: rest =>
    if c.kind != kind && c.kind != 0 && c.kind ≤ 7 then s
    else if s.cmdCheck c = 0 && c.kind != 7 && (s.withRange c).cover.host && !(s.overlaysIn (s.withRange c).cover).isEmpty then s
    else
      let r := s.cmdCheck c
      let c := s.withRange c
      let s := { s with plat := { s.plat with queue := rest } }
      if r != 0 || c.kind == 7 then s.cmdDone c r
      else
        let s := if c.kind == 4 then s.putParcel c.parcel (c.toParcel (c.own == .overlay)) else s
        let s := if c.kind == 6 then { s with plat := { s.plat with retiring := some c.pasid } } else s
        let s := (s.dropXlats c.cover).recallSlots c.cover
        let d := s.draw
        let a := d.1 % 1000
        let b := d.1 / 1000 % 1000
        { d.2 with plat := { d.2.plat with executing := some c, acks := s.allEngines,
                                           dropUntil := s.now + min a b, recallUntil := s.now + max a b } }
  | _, _ => s

/-- PCTX_VALID (R428). -/
def execPctxValid (c : Fin 16384) (val : Word) (rid : Half) (s : State) : Out := .next (s.writePctxCtrl c val.toNat rid)
/-- INVAL_RANGE (R459). -/
def execInvalRange (s : State) : Out := .next (s.runCmd 1)
/-- INVAL_PASID (R451). -/
def execInvalPasid (s : State) : Out := .next (s.runCmd 2)
/-- INVAL_ALL (R451). -/
def execInvalAll (s : State) : Out := .next (s.runCmd 3)
/-- PARCEL_INSTALL (R451): the parcel governs from the drop phase on. -/
def execParcelInstall (s : State) : Out := .next (s.runCmd 4)
/-- PARCEL_REMOVE (R451): the parcel governs until the command completes. -/
def execParcelRemove (s : State) : Out := .next (s.runCmd 5)
/-- PASID_RETIRE (R451, R429). -/
def execPasidRetire (s : State) : Out := .next (s.runCmd 6)
/-- SYNC (R451): every earlier command has completed when it is executed. -/
def execSync (s : State) : Out := .next (s.runCmd 7)

/-- ATS_INVALIDATE_REQUEST (R463): queued and executed in order of arrival; a 33rd waits in the receive buffer. -/
def execAtsInvalidateRequest (itag : Nat) (pasid : Option Nat) (global : Bool) (start len : Nat) (s : State) : Out :=
  let c : PlatCmd := { ticket := none, kind := 1, space := 0, pasid := pasid.getD 0, start := start, length := len,
                       ats := some itag, allPasids := global || pasid.isNone }
  .next (if 32 ≤ s.atsQueued then { s with plat := { s.plat with atsHeld := s.plat.atsHeld ++ [c] } } else s.queueCmd c)

/-- Free the tag of a walk slot's request; false where the tag was quarantined, and its completion is discarded. -/
def State.consumeWalk (s : State) (id : Nat) : State × Bool :=
  match s.host.tags.find? (fun u => u.owner == .walk id && u.quar == .no) with
  | some u => (s.freeTagUse u.tag, true)
  | none => match s.host.tags.find? (fun u => u.owner == .walk id) with
    | none => (s, true)
    | some u => (s.lateCompletion u true, false)

/-- WALKER_COMPLETION (R435). -/
def execWalkerCompletion (walk : Nat) (data : List Byte) (s : State) : Out :=
  let r := s.consumeWalk walk
  .next (if r.2 then r.1.walkerDone walk data else r.1)

/-- AD_CAS_COMPLETION (R438). -/
def execAdCasCompletion (walk : Nat) (found : Word) (s : State) : Out :=
  let r := s.consumeWalk walk
  .next (if r.2 then r.1.casDone walk found.toNat else r.1)

/-- WALK_ERROR (R440). -/
def execWalkError (walk : Nat) (s : State) : Out :=
  let r := s.consumeWalk walk
  .next (if r.2 then r.1.walkFailed walk else r.1)

/-- ATS_TRANSLATION_COMPLETION (R443). -/
def execAtsTranslationCompletion (walk : Nat) (ok : Bool) (xs : List AtsEntry) (s : State) : Out :=
  let r := s.consumeWalk walk
  .next (if r.2 then r.1.atsDone walk ok xs else r.1)

/-- ACRE_ENTRY_READ (R446). -/
def execAcreEntryRead (walk : Nat) (s : State) : Out := .next (s.acreDone walk)

/-- XLATE_MODE_SWITCH_DONE (R465): the INVAL_ALL of the switch completes and the new mode takes effect. -/
def execXlateModeSwitchDone (s : State) : Out :=
  match s.plat.executing, s.plat.switching with
  | some c, some m =>
    if c.modeSwitch && s.plat.acks = 0 then
      let s := s.cmdDone c 0
      let s := { s with plat := { s.plat with mode := m, switching := none } }
      let s := (s.setVal O.splitWalk (b2n m)).bump O.modeSwitches
      .next (s.bump O.splitSwitches)
    else .next s
  | _, _ => .next s

end Sys2Proof.Machine
end

