-- ==== Sys2Proof/Machine/Fault.lean ====
section
/-! DEFINITION. The page-fault ring, its batches and responses, PRI (R488-R496, R507, R525). -/

namespace Sys2Proof.Machine

/-! ### The ring -/

def State.faultRingLog2 (s : State) : Nat := fld (s.rg Rg.faultRing) 4 0
def State.faultRingBase (s : State) : Nat := s.rg Rg.faultRing / 4096 * 4096
def State.faultRingOn (s : State) : Bool := bit (s.rg Rg.faultCtrl) 0

/-- The ring is full (R490). -/
def State.faultRingFull (s : State) : Bool :=
  (s.flt.index + 2 ^ 32 - s.rg Rg.faultHead) % 2 ^ 32 == 2 ^ s.faultRingLog2

/-- Keep RING_FULL; a transition to full is counted (R491). -/
def State.noteRingFull (s : State) : State :=
  let f := s.faultRingOn && s.faultRingFull
  let s := if f && !s.flt.full then s.bump O.ringFullEvents else s
  { s with flt := { s.flt with full := f } }

/-- The 32-byte record of an entry at a ring index (R488). -/
def State.faultRecord (s : State) (e : FaultEntry) : List Byte :=
  let i := s.flt.index
  let acc := match e.access with | .read => 0 | .write => 1 | .atomic => 2
  let dev := e.space == .devlocal
  natLe 8 e.page
    ++ natLe 4 (e.pasid % 2 ^ 20 + b2n e.priv * 2 ^ 20 + acc * 2 ^ 21 + b2n dev * 2 ^ 23 + e.reason * 2 ^ 24)
    ++ natLe 1 (if dev then 0xFF else e.level)
    ++ natLe 1 (b2n e.autoRetried + 2 * b2n (!dev && s.inWindow e.pasid e.page 4096))
    ++ natLe 2 e.source.1 ++ natLe 4 e.source.2 ++ natLe 2 e.handle ++ natLe 2 e.gen ++ natLe 2 s.flt.batch
    ++ natLe 5 0 ++ natLe 1 (128 * (1 - i / 2 ^ s.faultRingLog2 % 2))

/-- Close the open batch: its number advances and FAULT_TAIL is published (R489). -/
def State.closeBatch (s : State) : State :=
  { s with flt := { s.flt with batch := (s.flt.batch + 1) % 2 ^ 16, batchOpen := none, tail := s.flt.index } }

/-- FAULT_RECORD_WRITE (R490): the oldest entry without a record, where a slot is free, requests may leave and the posted queue
has room (R278), so that every record of a batch is in the queue when it closes (R489). -/
def execFaultRecordWrite (s : State) : Out :=
  if !s.faultRingOn || s.faultRingFull || !s.mayRequest || 512 ≤ s.postedHeld || !s.host.blocked.isEmpty then .next s
  else match s.flt.entries.find? (fun e => !e.pri && !e.recorded) with
    | none => .next s
    | some e =>
      let i := s.flt.index
      let a := s.faultRingBase + i % 2 ^ s.faultRingLog2 * 32
      let s := s.post { kind := .memWrite, addr := a, data := s.faultRecord e, len := 32, owner := .faultRec i }
      let opened : Nat × Nat := match s.flt.batchOpen with | some b => (b.1 + 1, b.2) | none => (1, s.now)
      let s := { s with flt := { s.flt with
        index := (i + 1) % 2 ^ 32,
        batchOpen := some opened,
        entries := s.flt.entries.map (fun (x : FaultEntry) =>
          if x.handle == e.handle then { x with recorded := true, batch := s.flt.batch } else x) } }
      let s := if fld (s.rg Rg.faultCtrl) 14 8 ≤ opened.1 then s.closeBatch else s
      .next s.noteRingFull.reapFaults

/-- FAULT_BATCH_CLOSE (R489): BATCH_WINDOW_US have passed since the batch opened. -/
def execFaultBatchClose (s : State) : Out :=
  match s.flt.batchOpen with
  | none => .next s
  | some b => .next (s.until_ (b.2 + fld (s.rg Rg.faultCtrl) 25 16 * 1000)).closeBatch

/-- A write of FAULT_HEAD (R492). -/
def State.writeFaultHead (s : State) (val : Nat) (rid : Half) : State :=
  let h := s.rg Rg.faultHead
  if (s.flt.tail + 2 ^ 32 - h) % 2 ^ 32 < (val + 2 ^ 32 - h) % 2 ^ 32 then s.valueErr Rg.faultHead 4 rid
  else (s.setRg Rg.faultHead val).noteRingFull

/-- A write of FAULT_CTRL (R492, R525): batch fields and their reserved encodings, ENABLE. -/
def State.writeFaultCtrl (s : State) (val : Nat) (rid : Half) : State :=
  let v := val &&& 0x3FF7F01
  let old := s.rg Rg.faultCtrl
  if fld v 14 8 < 1 || 64 < fld v 14 8 || fld v 25 16 < 1 || 1000 < fld v 25 16 then s.valueErr Rg.faultCtrl 8 rid
  else if bit old 0 && v / 2 != old / 2 then s.valueErr Rg.faultCtrl 8 rid
  else if bit v 0 && !bit old 0 then
    if s.faultRingLog2 = 0 then s.valueErr Rg.faultCtrl 8 rid
    else
      let s := (s.setRg Rg.faultCtrl v).setRg Rg.faultHead 0
      { s with flt := { s.flt with index := 0, tail := 0, batchOpen := none, full := false } }
  else (s.setRg Rg.faultCtrl v).noteRingFull

/-- A write of FAULT_RING (R492): only while ENABLE is 0; RING_LOG2 1-3 and 15-31 are reserved. -/
def State.writeFaultRing (s : State) (val : Nat) (rid : Half) : State :=
  let l := fld val 4 0
  if s.faultRingOn || (0 < l && l < 4) || 14 < l then s.valueErr Rg.faultRing 8 rid
  else s.setRg Rg.faultRing (val / 4096 * 4096 + l)

/-- A write of FAULT_TARGET. -/
def State.writeFaultTarget (s : State) (val : Nat) : State := s.setRg Rg.faultTarget (val % 2 ^ 39 / 4096 * 4096)

/-- FAULT_HEAD_WRITE. -/
def execFaultHeadWrite (val : Word32) (rid : Half) (s : State) : Out := .next (s.writeFaultHead val.toNat rid)
/-- FAULT_CTRL_WRITE. -/
def execFaultCtrlWrite (val : Word) (rid : Half) (s : State) : Out := .next (s.writeFaultCtrl val.toNat rid)

/-! ### Responses (R493, R507) -/

/-- The pending entry a response names. -/
def State.faultFor (s : State) (handle gen : Nat) : Option FaultEntry :=
  s.flt.entries.find? (fun e => e.handle == handle && e.gen == gen && !e.resolved)

/-- Respond to an entry; a response that matches no pending entry is stale (R493). -/
def State.respond (s : State) (handle gen : Nat) (r : Resolve) : State :=
  match s.faultFor handle gen with
  | none => s.bump O.staleResponses
  | some _ => (s.bump O.responses).resolve handle r

/-- The smallest index of the reserved range without a valid parcel. -/
def State.freeReserved (s : State) : Option Nat :=
  ((List.range (s.val O.migParcelCount)).map (· + s.val O.migParcelFirst)).find? (fun i => !(kvGet {} s.plat.parcels i).valid)

/-- The parcels a PASID holds. -/
def State.parcelsOf (s : State) (pasid : Nat) : Nat :=
  (s.plat.parcels.filter (fun x => x.2.valid && x.2.pasid == pasid)).length

/-- A migrate response (R507): a fault overlay of 2^k bytes, then retry; fail and MMIO_VALUE where it cannot be. -/
def State.respondMigrate (s : State) (handle gen k : Nat) (rid : Half) : State :=
  match s.faultFor handle gen with
  | none => s.bump O.staleResponses
  | some e =>
    let t := s.rg Rg.faultTarget
    let bad := ((s.bump O.responses).resolve handle .failed).valueErr 0x201020 8 rid
    if e.pri || e.space == .devlocal || e.reason != Rs.notPresent then bad
    else match s.freeReserved with
      | none => bad
      | some i =>
        if 1024 ≤ s.parcelsOf e.pasid || hbmBytes < t + 2 ^ k || t % 2 ^ k != 0 then bad
        else
          let start := e.page / 2 ^ k * 2 ^ k
          let s := s.putParcel i
            { pasid := e.pasid, space := .host, start := start, length := 2 ^ k, target := .hbm t,
              r := true, w := true, a := true, overlay := true, valid := true }
          let c : Cover := { pasid := some e.pasid, host := true, dev := false, lo := start, hi := start + 2 ^ k }
          let s := (s.dropXlats c).recallSlots c
          (s.bump O.responses).resolve handle .retry

/-- Resolve every pending ring entry of a batch (R493). -/
def State.respondBatch (s : State) (batch : Nat) (r : Resolve) : State :=
  s.each (s.flt.entries.filter (fun e => e.recorded && !e.resolved && !e.pri && e.batch == batch))
    (fun s e => (s.bump O.responses).resolve e.handle r)

/-- A write of FAULT_RESPOND (R493, R525). -/
def State.writeFaultRespond (s : State) (val : Nat) (rid : Half) : State :=
  let h := fld val 13 0
  let g := fld val 31 16
  match fld val 34 32 with
  | 0 => s.respond h g .retry
  | 1 => s.respond h g .failed
  | 2 => s.respond h g .denied
  | 3 => s.respondMigrate h g 12 rid
  | 4 => s.respondMigrate h g 21 rid
  | _ => s.valueErr 0x201020 8 rid

/-- A write of FAULT_RESPOND_BATCH (R493, R525). -/
def State.writeFaultRespondBatch (s : State) (val : Nat) (rid : Half) : State :=
  match fld val 18 16 with
  | 0 => s.respondBatch (fld val 15 0) .retry
  | 1 => s.respondBatch (fld val 15 0) .failed
  | 2 => s.respondBatch (fld val 15 0) .denied
  | _ => s.valueErr 0x201030 8 rid

/-- RETRY. -/
def execRetry (handle : Fin 16384) (gen : Half) (s : State) : Out := .next (s.respond handle gen.toNat .retry)
/-- FAIL. -/
def execFail (handle : Fin 16384) (gen : Half) (s : State) : Out := .next (s.respond handle gen.toNat .failed)
/-- DENY. -/
def execDeny (handle : Fin 16384) (gen : Half) (s : State) : Out := .next (s.respond handle gen.toNat .denied)
/-- MIGRATE_4K. -/
def execMigrate4k (handle : Fin 16384) (gen : Half) (rid : Half) (s : State) : Out :=
  .next (s.respondMigrate handle gen.toNat 12 rid)
/-- MIGRATE_2M. -/
def execMigrate2m (handle : Fin 16384) (gen : Half) (rid : Half) (s : State) : Out :=
  .next (s.respondMigrate handle gen.toNat 21 rid)
/-- BATCH_RETRY. -/
def execBatchRetry (batch : Half) (s : State) : Out := .next (s.respondBatch batch.toNat .retry)
/-- BATCH_FAIL. -/
def execBatchFail (batch : Half) (s : State) : Out := .next (s.respondBatch batch.toNat .failed)
/-- BATCH_DENY. -/
def execBatchDeny (batch : Half) (s : State) : Out := .next (s.respondBatch batch.toNat .denied)

/-- FAULT_TIMEOUT (R487): the entry has been pending for FAULT_TIMEOUT_MS. -/
def execFaultTimeout (handle : Fin 16384) (s : State) : Out :=
  let t := s.val O.faultTimeoutMs
  match s.flt.entries.find? (fun e => e.handle == handle.val && !e.resolved) with
  | some e => if t = 0 then .next s
              else .next (((s.until_ (e.createdAt + t * 1000000)).bump O.faultTimeouts).resolve handle .failed)
  | none => .next s

/-! ### PRI (R495, R496) -/

/-- Page Requests outstanding. -/
def State.pagesOut (s : State) : Nat := (s.flt.prgs.map (fun g => g.2.2.length)).foldl (· + ·) 0

/-- The entries of the next group: those of the oldest unsent entry's PASID created in one batch window with it, at
most 64 and no more than the allocation leaves. -/
def State.nextPrg (s : State) : List FaultEntry :=
  match s.flt.entries.find? (fun e => e.pri && !e.resolved && e.prg.isNone) with
  | none => []
  | some o =>
    let w := fld (s.rg Rg.faultCtrl) 25 16 * 1000
    (s.flt.entries.filter (fun e => e.pri && !e.resolved && e.prg.isNone && e.pasid == o.pasid
        && decide (e.createdAt ≤ o.createdAt + w))).take (min 64 (s.cfgv 0x17C - s.pagesOut))

/-- The end of the batch window of the next group. -/
def State.prgDue (s : State) : Nat :=
  ((s.nextPrg.head?.map (fun e => e.createdAt)).getD 0) + fld (s.rg Rg.faultCtrl) 25 16 * 1000

/-- PAGE_REQUEST_SEND (R495): at the end of the batch window, or once the group holds 64 requests. -/
def execPageRequestSend (s : State) : Out :=
  let es := s.nextPrg
  match (List.range 512).find? (fun i => s.flt.prgs.all (fun g => g.1 != i)) with
  | none => .next s
  | some i =>
    if es.isEmpty || !s.priEnable || s.flt.priResponseFailure || !s.mayRequest then .next s
    else
      let s := if es.length < 64 then s.until_ s.prgDue else s
      let hs := es.map (·.handle)
      let last := hs.getLastD 0
      let s := { s with flt := { s.flt with
        prgs := s.flt.prgs ++ [(i, (es.map (fun (e : FaultEntry) => e.pasid)).headD 0, hs)],
        entries := s.flt.entries.map (fun (e : FaultEntry) => if hs.contains e.handle then { e with prg := some i } else e) } }
      .next (s.each es (fun s (e : FaultEntry) =>
        (s.post { kind := (if e.handle == last then .prgLast else .pageRequest), addr := e.page, tag := i, pasid := some e.pasid,
                  data := natLe 1 (1 + 2 * b2n (!(e.access == .read)) + 4 * b2n e.priv), owner := .pageReq i }).bump O.pageRequests))

/-- The group a PRG Response names, with its PASID. -/
def State.prgOf (s : State) (prg : Nat) (pasid : Option Nat) : Option (List Nat) :=
  (s.flt.prgs.find? (fun g => g.1 == prg && pasid == some g.2.1)).map (·.2.2)

/-- A PRG Response that matches no group: discarded, Unexpected PRG Response set, counted (R495). -/
def State.prgUnexpectedOp (s : State) : State := (s.orCfg 0x174 (2 ^ 17)).bump O.prgUnexpected

/-- A stream waits on an entry of the group. -/
def State.prgLive (s : State) (prg : Nat) : Bool := s.flt.entries.any (fun e => e.pri && e.prg == some prg && !e.resolved && !e.streams.isEmpty)

/-- A PRG Response (R495); in Frozen it is discarded (R315); one whose entries are all cancelled only frees its index (R496). -/
def State.prgResponse (s : State) (prg : Nat) (pasid : Option Nat) (r : Resolve) : State :=
  if s.host.frozen then s else match s.prgOf prg pasid with
  | none => s.prgUnexpectedOp
  | some hs =>
    let live := s.prgLive prg
    let s := { s with flt := { s.flt with prgs := s.flt.prgs.filter (fun g => g.1 != prg) } }
    let s := s.each (hs.filter (fun h => s.flt.entries.any (fun e => e.handle == h && e.prg == some prg && !e.resolved)))
      (fun s h => s.resolve h r)
    if live then s.bump O.prgResponses else s

/-- PRG_RESPONSE_SUCCESS. -/
def execPrgResponseSuccess (prg : Fin 512) (pasid : Option Nat) (s : State) : Out := .next (s.prgResponse prg pasid .retry)
/-- PRG_RESPONSE_INVALID. -/
def execPrgResponseInvalid (prg : Fin 512) (pasid : Option Nat) (s : State) : Out := .next (s.prgResponse prg pasid .failed)
/-- PRG_RESPONSE_FAILURE: Page Requests stop until the host clears PRI Enable and sets Reset; no effect of a response whose entries
are all cancelled (R496). -/
def execPrgResponseFailure (prg : Fin 512) (pasid : Option Nat) (s : State) : Out :=
  if s.host.frozen then .next s else match s.prgOf prg pasid with
  | none => .next s.prgUnexpectedOp
  | some _ =>
    let live := s.prgLive prg
    let s := s.prgResponse prg pasid .failed
    if !live then .next s else
    .next { s.orCfg 0x174 (2 ^ 16) with flt := { s.flt with priResponseFailure := true } }
/-- PRG_RESPONSE_UNEXPECTED: a response whose PASID or index matches no group in use. -/
def execPrgResponseUnexpected (prg : Fin 512) (pasid : Option Nat) (s : State) : Out :=
  if s.host.frozen then .next s else match s.prgOf prg pasid with
  | none => .next s.prgUnexpectedOp
  | some _ => .next s

/-- PRI Reset frees every index (R496); an entry whose request was outstanding is unsent again. -/
def State.priResetOp (s : State) : State :=
  { s with flt := { s.flt with
      prgs := [], priResponseFailure := s.flt.priResponseFailure && s.priEnable,
      entries := s.flt.entries.map (fun e => { e with prg := none }) } }

/-- PRI_RESET. -/
def execPriReset (s : State) : Out := .next s.priResetOp

end Sys2Proof.Machine
end

