-- ==== Sys2Proof/Machine/Migr.lean ====
section
/-! DEFINITION. Migration: epochs, promotions, evictions, windows and pool (R497-R504, R526). -/

namespace Sys2Proof.Machine

/-- Whether a region may be placed on the hot-region list: not barred after an abandoned promotion. -/
def State.regionBarred (s : State) (pasid region : Nat) : Bool :=
  s.mig.banned.any (fun b => b.1 == pasid && b.2.1 == region && decide (s.mig.epoch < b.2.2))

/-- Place a region at the end of the hot-region list, or mark its counter where the list is full (R498). -/
def State.listRegion (s : State) (pasid region : Nat) : State :=
  if s.mig.hot.contains (pasid, region) then s
  else if s.mig.hot.length < 256 then { s with mig := { s.mig with hot := s.mig.hot ++ [(pasid, region)] } }
  else { s with mig := { s.mig with counters := s.mig.counters.map (fun (c : Nat × AccCounter) =>
    if c.2.pasid == pasid && c.2.region == region then (c.1, { c.2 with marked := true }) else c) } }

/-- MIG_EPOCH (R497, R498, R500): counts halve, counters at 0 are freed, regions below half the threshold may become
hot again, skipped candidates return to the list, bars that have run out end. -/
def execMigEpoch (s : State) : Out :=
  let thr := s.val O.migHotThreshold
  let m := s.mig
  let half (c : AccCounter) : AccCounter := { c with count := c.count / 2, hot := c.hot && decide (thr ≤ 2 * (c.count / 2)) }
  let halved := m.counters.map (fun (c : Nat × AccCounter) => (c.1, half c.2))
  let s := { s with mig := { m with
    epoch := m.epoch + 1,
    counters := halved.filter (fun c => decide (c.2.count ≠ 0)),
    banned := m.banned.filter (fun b => decide (m.epoch + 1 < b.2.2)),
    skipped := [] } }
  .next (s.each m.skipped (fun s r => s.listRegion r.1 r.2)).listHot

/-! ### The pool -/

def State.poolFirst (s : State) : Nat := fld (s.rg Rg.migPool) 12 0
def State.poolAcres (s : State) : Nat := fld (s.rg Rg.migPool) 28 16

/-- Z20-made overlays. -/
def State.z20Overlays (s : State) : List (Nat × Parcel) := s.plat.parcels.filter (fun p => p.2.valid && p.2.z20)

/-- The frame a target is, as an HBM address. -/
def Target.hbmAddr : Target → Nat
  | .hbm a => a | .host _ => 0 | .tilth _ _ => 0

/-- Frames in use. -/
def State.framesUsed (s : State) : List Nat :=
  s.z20Overlays.map (fun p => p.2.target.hbmAddr) ++ (match s.mig.copying with | some c => [c.frame] | none => [])

/-- The lowest free frame of the pool (32 per acre). -/
def State.freeFrame (s : State) : Option Nat :=
  let used := s.framesUsed
  ((List.range (min (s.poolAcres * 32) (used.length + 1))).map (fun k => s.poolFirst * acreBytes + k * 2 ^ 21)).find?
    (fun f => !used.contains f)

/-- Count of a region's counter. -/
def State.accCount (s : State) (pasid region : Nat) : Nat :=
  match s.mig.counters.find? (fun c => c.2.pasid == pasid && c.2.region == region) with | some c => c.2.count | none => 0

/-- The Z20-made overlay whose counter is lowest. -/
def State.coldest (s : State) : Option (Nat × Parcel) :=
  s.z20Overlays.foldl (fun b p => match b with
    | none => some p
    | some q => if s.accCount p.2.pasid p.2.start < s.accCount q.2.pasid q.2.start then some p else some q) none

/-- The overlay that has to go before a candidate can be promoted (R500 step 1). -/
def State.victimFor (s : State) (pasid region : Nat) : Option (Nat × Parcel) :=
  match s.freeFrame, s.coldest with
  | none, some p => if 2 * s.accCount p.2.pasid p.2.start < s.accCount pasid region then some p else none
  | _, _ => none

/-- The candidate leaves the list. -/
def State.unlist (s : State) : State := { s with mig := { s.mig with hot := s.mig.hot.drop 1 } }

/-- The internal INVAL_RANGE of a region (R500 step 2). -/
def regionInval (pasid region : Nat) : PlatCmd :=
  { ticket := none, kind := 1, space := 0, pasid := pasid, start := region, length := 2 ^ 21, own := .region }

/-- The executor's PARCEL_INSTALL of a Z20-made overlay (R500 step 5). -/
def overlayInstall (i pasid region frame : Nat) : PlatCmd :=
  { ticket := none, kind := 4, space := 0, parcel := i, pasid := pasid, target := 1, rights := 7, overlay := true,
    start := region, length := 2 ^ 21, targetAddr := frame, own := .overlay }

/-! ### Evictions (R503, R504) -/

/-- Whether an overlay has to be evicted: for the next promotion, before the command at the head of the executor's
queue, or by a PARCEL_REMOVE of its parcel. -/
def State.evictionDue (s : State) (i : Nat) (p : Parcel) : Bool :=
  (match s.mig.hot with
    | (q, r) :: _ => !s.mig.hostMode && (match s.victimFor q r with | some v => v.1 == i | none => false)
    | [] => false)
  || (s.plat.executing.isNone && (match s.plat.queue with
    | c :: _ => s.cmdCheck c == 0 && c.kind != 7
        && ((c.kind == 5 && c.parcel == i)
          || ((s.withRange c).cover.host && (s.withRange c).cover.hits p.pasid .host p.start (p.start + p.length)))
    | [] => false))

/-! ### Registers -/

/-- A write of a register of MIG_WINDOW[w] (R499). -/
def State.writeMigWindow (s : State) (w reg val : Nat) (rid : Half) : State :=
  let a := Rg.migWindow w (8 * reg)
  let ctrl := s.rg (Rg.migWindow w 0)
  match reg with
  | 0 =>
    let v := val &&& (2 ^ 63 + 0xFFFFF)
    if bit ctrl 63 && bit v 63 then (if v = ctrl then s else s.valueErr a 8 rid) else s.setRg a v
  | _ => if bit ctrl 63 then s.valueErr a 8 rid else s.setRg a (val / 2 ^ 21 * 2 ^ 21)

/-- MIG_WINDOW_WRITE. -/
def execMigWindowWrite (w : Fin 64) (reg : Fin 3) (val : Word) (rid : Half) (s : State) : Out :=
  .next (s.writeMigWindow w reg val.toNat rid)

/-- A write of MIG_POOL (R501, R526). -/
def State.writeMigPool (s : State) (val : Nat) (rid : Half) : State :=
  let v := val &&& 0x1FFF1FFF
  if !s.mig.hostMode || !s.z20Overlays.isEmpty || hbmAcres ≤ fld v 12 0 || hbmAcres < fld v 12 0 + fld v 28 16 then
    s.valueErr Rg.migPool 8 rid
  else s.setRg Rg.migPool v

/-- MIG_POOL_WRITE. -/
def execMigPoolWrite (val : Word) (rid : Half) (s : State) : Out := .next (s.writeMigPool val.toNat rid)

/-- MIG_HOT_NEXT as it reads, and the state after a full-width read (R506, R526): the head entry is removed; always
0 in hardware mode. -/
def State.readHotNext (s : State) (full : Bool) : State × Nat :=
  match s.mig.hot with
  | (p, r) :: _ =>
    if s.mig.hostMode then ((if full then s.unlist.listHot else s), p % 2 ^ 20 + 2 ^ 20 + r / 2 ^ 21 * 2 ^ 21) else (s, 0)
  | [] => (s, 0)

end Sys2Proof.Machine
end

