-- ==== Sys2Proof/Machine/Sow.lean ====
section
/-! DEFINITION. Descriptors as the Z20 reads them (R342-R346), their bodies (R533, R580, R712), the checks of their
fields (R344, R534, R581), their sowing (R393, R454) and their acceptance into the furrow store (R347, R353, R354). -/

namespace Sys2Proof.Machine

/-! ### Layout -/

/-- The header and body of the 64 bytes of a descriptor (R342). -/
def parseDesc (b : List Byte) : Desc :=
  let fl := bytesAt b 1 1
  let ct := bytesAt b 2 1
  { opcode := bytesAt b 0 1, waitEn := bit fl 0, signalEn := bit fl 1, stampEn := bit fl 2, halfStampEn := bit fl 3,
    recordEn := bit fl 4, ro := bit fl 5, abort := bit fl 6, barrier := bit fl 7,
    waitCond := fld ct 1 0, signalSet := bit ct 2, halfSignal := bit ct 3, rsv := fld ct 7 4 != 0 || bytesAt b 3 1 != 0,
    waitStake := bytesAt b 4 2, signalStake := bytesAt b 6 2, waitValue := bytesAt b 8 8, signalValue := bytesAt b 16 4,
    stampValue := bytesAt b 20 4, stampAddr := bytesAt b 24 8, body := (b.drop 32).take 32 }

end Sys2Proof.Machine

namespace Sys2Proof

/-- Fields of a DRILL body (R533). -/
def Desc.src (d : Desc) : Nat := Machine.bytesAt d.body 0 8
def Desc.dst (d : Desc) : Nat := Machine.bytesAt d.body 8 8
def Desc.length (d : Desc) : Nat := Machine.bytesAt d.body 16 4
def Desc.srcSpace (d : Desc) : Nat := Machine.bytesAt d.body 20 1 % 16
def Desc.dstSpace (d : Desc) : Nat := Machine.bytesAt d.body 20 1 / 16
def Desc.harrowEn (d : Desc) : Bool := Machine.bit (Machine.bytesAt d.body 21 1) 0
def Desc.paced (d : Desc) : Bool := Machine.bit (Machine.bytesAt d.body 21 1) 1
def Desc.link (d : Desc) : Bool := Machine.bit (Machine.bytesAt d.body 21 1) 2
def Desc.xform (d : Desc) : Nat := Machine.bytesAt d.body 22 1 % 64
def Desc.feedPlot (d : Desc) : Nat := Machine.bytesAt d.body 23 1 % 16
def Desc.feedCh (d : Desc) : Nat := Machine.bytesAt d.body 23 1 / 16 % 4

/-- Fields of a PROGRAM body (R580). -/
def Desc.container (d : Desc) : Nat := Machine.bytesAt d.body 0 8
def Desc.argAddr (d : Desc) : Nat := Machine.bytesAt d.body 8 8
def Desc.containerLen (d : Desc) : Nat := Machine.bytesAt d.body 16 4
def Desc.plotMask (d : Desc) : Nat := Machine.bytesAt d.body 20 2
def Desc.cspace (d : Desc) : Nat := Machine.bytesAt d.body 22 1 % 16
def Desc.aspace (d : Desc) : Nat := Machine.bytesAt d.body 22 1 / 16
def Desc.argWords (d : Desc) : Nat := Machine.bytesAt d.body 23 1
def Desc.noScrub (d : Desc) : Bool := Machine.bit (Machine.bytesAt d.body 24 1) 0
def Desc.reload (d : Desc) : Bool := Machine.bit (Machine.bytesAt d.body 24 1) 1

/-- Fields of a SEED body (R712). -/
def Desc.buf (d : Desc) : Nat := Machine.bytesAt d.body 0 8
def Desc.naddr (d : Desc) : Nat := Machine.bytesAt d.body 8 4
def Desc.sop (d : Desc) : Nat := Machine.bytesAt d.body 12 1
def Desc.bspace (d : Desc) : Nat := Machine.bytesAt d.body 13 1
def Desc.count (d : Desc) : Nat := Machine.bytesAt d.body 14 2
def Desc.raw (d : Desc) : Bool := Machine.bit (Machine.bytesAt d.body 16 1) 0
/-- The bytes of one page in a SEED buffer: 16 KiB, with RAW 18,432 (R713). -/
def Desc.pageBytes (d : Desc) : Nat := if d.raw then 18432 else 16384
def Desc.noRetry (d : Desc) : Bool := Machine.bit (Machine.bytesAt d.body 16 1) 1

end Sys2Proof

namespace Sys2Proof.Machine

/-! ### Harrow patterns (R546, R547) -/

/-- A pattern: line length, lines, planes, strides. -/
structure Pat where
  x : Nat
  y : Nat
  z : Nat
  ys : Nat
  zs : Nat
  deriving DecidableEq, Repr

/-- Offset of a stream byte from the start address. -/
def Pat.at_ (p : Pat) (k : Nat) : Nat := k / (p.x * p.y) * p.zs + k / p.x % p.y * p.ys + k % p.x

/-- Bytes of stream a pattern holds. -/
def Pat.bytes (p : Pat) : Nat := p.x * p.y * p.z

/-- Bytes from a stream byte to the end of its line. -/
def Pat.lineLeft (p : Pat) (k : Nat) : Nat := p.x - k % p.x

/-- Distance from the lowest byte of a pattern to the byte after its highest (R555). -/
def Pat.extent (p : Pat) : Nat := (p.z - 1) * p.zs + (p.y - 1) * p.ys + p.x

/-- Every aligned 4 KiB of stream is an aligned 4 KiB of the pattern's range, from an aligned start (log entry 127). -/
def Pat.units (p : Pat) : Bool :=
  ((p.y == 1 || p.ys == p.x) && (p.z == 1 || p.zs == p.y * p.x))
    || (p.x % 4096 == 0 && (p.y == 1 || p.ys % 4096 == 0) && (p.z == 1 || p.zs % 4096 == 0))

/-- A contiguous range. -/
def Pat.flat (n : Nat) : Pat := { x := n, y := 1, z := 1, ys := 0, zs := 0 }

/-- The contents of Harrow slot k: HX_OP, source shape and strides, destination shape and strides (R576). -/
def State.harrowSlot (s : State) (k : Nat) : List Nat := (List.range 7).map (fun i => s.rg (Rg.harrow k (8 * i)))

/-- A slot's source pattern (i = 1) or destination pattern (i = 4). -/
def slotPat (h : List Nat) (i : Nat) : Pat :=
  let sh := h.getD i 0
  { x := fld sh 20 0, y := fld sh 47 32 + 1, z := fld sh 63 48 + 1, ys := h.getD (i + 1) 0 % 2 ^ 48, zs := h.getD (i + 2) 0 % 2 ^ 48 }

def hxOp (h : List Nat) : Nat := fld (h.getD 0 0) 3 0
def hxW (h : List Nat) : Nat := fld (h.getD 0 0) 11 8
def hxE (h : List Nat) : Nat := 2 ^ fld (h.getD 0 0) 14 12
def hxC (h : List Nat) : Nat := 2 ^ fld (h.getD 0 0) 18 16
def hxB (h : List Nat) : Nat := 2 ^ fld (h.getD 0 0) 27 24

/-- The unit of an operation (R547). -/
def hxUnit (h : List Nat) : Nat :=
  match hxOp h with
  | 0 => 1
  | 5 => hxE h
  | _ => hxB h

/-- The element size that start addresses are aligned to: that of the operations that have elements. -/
def hxAlign (h : List Nat) : Nat :=
  match hxOp h with
  | 3 | 4 | 5 => hxE h
  | _ => 1

/-- The parameters of a slot's operation are valid (R547). -/
def hxValid (h : List Nat) : Bool :=
  let bl := fld (h.getD 0 0) 27 24
  let block := decide (3 ≤ bl) && decide (bl ≤ 12)
  match hxOp h with
  | 0 => true
  | 1 | 2 => (hxW h == 1 || hxW h == 2 || hxW h == 4 || hxW h == 8) && block
  | 3 | 4 => decide (1 ≤ fld (h.getD 0 0) 18 16) && decide (fld (h.getD 0 0) 18 16 ≤ 4) && decide (hxE h ≤ 8) && block
              && decide (hxC h * hxE h ≤ hxB h)
  | 5 => decide (2 ≤ hxE h) && decide (hxE h ≤ 16)
  | _ => false

/-- A line length in range (R546). -/
def Pat.ok (p : Pat) : Bool := decide (1 ≤ p.x) && decide (p.x ≤ 1048576)

/-- A destination pattern that might write a byte twice (R546). -/
def Pat.folds (p : Pat) : Bool :=
  (decide (1 < p.y) && decide (p.ys < p.x)) || (decide (1 < p.z) && decide (p.zs < (p.y - 1) * p.ys + p.x))

/-! ### Field checks: 0 passes, else the failure's status code -/

/-- Host package address of an encoded stile address; window; offset (R535). -/
def stilePkg (a : Nat) : Nat := fld a 63 52
def stileWin (a : Nat) : Nat := fld a 51 40
def stileOff (a : Nat) : Nat := fld a 39 0

/-- The bits of an address field that must be 0 (R535). -/
def addrRsv (sp a : Nat) : Bool :=
  match sp with
  | 1 => decide (2 ^ 40 ≤ a)
  | 2 => decide (2 ^ 32 ≤ a)
  | 4 => decide (2 ^ 49 ≤ a)
  | _ => false

/-- The seedbank FTL is in host-assisted mode, its domain on or off (R346, R710, R711). -/
def State.ftlHost (s : State) : Bool := s.seed.state == .host || (s.seed.state == .off && bit (s.val O.splitFtl) 0)

/-- The header's checks (R344): opcode, reserved fields, forbidden combinations, alignment. -/
def State.headerCheck (s : State) (recordLog2 : Nat) (d : Desc) : Nat :=
  if 3 < d.opcode || (d.opcode == 3 && !s.ftlHost) then 0x10
  else if d.rsv || (d.waitEn && decide (1 < d.waitCond)) || (d.opcode == 0 && leNat d.body != 0)
      || (d.halfStampEn && !d.stampEn) || (d.halfSignal && !(d.signalEn && !d.signalSet))
      || (d.recordEn && recordLog2 == 0) then 0x11
  else if d.stampEn && d.stampAddr % 8 != 0 then 0x12
  else 0

/-- A DRILL body's checks (R534-R536, R546, R547, R552), with the Harrow slot it names. -/
def State.drillCheck (s : State) (d : Desc) (h : List Nat) : Nat :=
  let sp := slotPat h 1
  let dp := slotPat h 4
  let len := d.length
  if d.link || 8 ≤ bytesAt d.body 21 1 || 64 ≤ bytesAt d.body 22 1 || 64 ≤ bytesAt d.body 23 1 || bytesAt d.body 24 8 != 0
      || 5 < d.srcSpace || 4 < d.dstSpace || addrRsv d.srcSpace d.src || addrRsv d.dstSpace d.dst then 0x11
  else if (d.srcSpace == 4 && d.dstSpace == 4) || (d.srcSpace == 3 && d.dstSpace == 3)
      || (d.srcSpace == 3 && stilePkg d.src == s.val O.pkgAddr) || (d.dstSpace == 3 && stilePkg d.dst == s.val O.pkgAddr) then 0x11
  else if len = 0 || (d.harrowEn && (sp.bytes != len || dp.bytes != len)) then 0x13
  else if (d.srcSpace == 4 && (d.src % 4096 != 0 || len % 4096 != 0)) || (d.dstSpace == 4 && (d.dst % 4096 != 0 || len % 4096 != 0))
      || (d.harrowEn && d.dstSpace == 4 && !dp.units)
      || (d.harrowEn && ((d.srcSpace != 5 && d.src % hxAlign h != 0) || d.dst % hxAlign h != 0)) then 0x12
  else if d.harrowEn && (!sp.ok || !dp.ok || !hxValid h || dp.folds || len % hxUnit h != 0) then 0x103
  else if d.paced && (d.dstSpace != 2 || d.dst / 2 ^ 28 != d.feedPlot || (d.harrowEn && (dp.y != 1 || dp.z != 1))) then 0x106
  else if (d.srcSpace == 4 || d.dstSpace == 4) && s.seed.state == .host then 0x107
  else 0

/-- A PROGRAM body's checks (R581). -/
def State.programCheck (s : State) (d : Desc) (pasid : Nat) (priv : Bool) : Nat :=
  let mask := match s.ctxOf pasid with | some c => fld (s.pctxCtrl c) 47 32 | none => 0
  if d.plotMask = 0 || 2 < d.cspace || 2 < d.aspace || 64 < d.argWords || 4 ≤ bytesAt d.body 24 1 || bytesAt d.body 25 7 != 0
      || addrRsv d.cspace d.container || addrRsv d.aspace d.argAddr || (d.noScrub && !priv) then 0x11
  else if d.containerLen < 64 || 0x4000000 < d.containerLen then 0x13
  else if d.plotMask &&& mask != d.plotMask || (d.cspace == 2 && !bit mask (d.container / 2 ^ 28))
      || (d.argWords != 0 && d.aspace == 2 && !bit mask (d.argAddr / 2 ^ 28)) then 0x21
  else 0

/-- A SEED body's checks (R712). -/
def seedCheck (d : Desc) (priv : Bool) : Nat :=
  if 3 < d.sop || 2 < d.bspace || 4 ≤ bytesAt d.body 16 1 || bytesAt d.body 17 15 != 0 || 2 ^ 29 ≤ d.naddr
      || addrRsv d.bspace d.buf then 0x11
  else if !priv then 0x21
  else 0

/-- Every check of a furrow's descriptor. -/
def State.descCheck (s : State) (n : Nat) (d : Desc) : Nat :=
  let h := s.headerCheck (s.recordLog2 n) d
  if h != 0 then h
  else match d.opcode with
    | 1 => s.drillCheck d (s.harrowSlot d.xform)
    | 2 => s.programCheck d (s.furPasid n) (s.furPriv n)
    | 3 => seedCheck d (s.furPriv n)
    | _ => 0

/-! ### Lots as the Drill meets them (R699) -/

/-- A lot. -/
def State.lot (s : State) (n : Nat) : Lot := kvGet {} s.seed.lots n
def State.setLot (s : State) (n : Nat) (x : Lot) : State := { s with seed := { s.seed with lots := kvSet {} s.seed.lots n x } }
def State.setSeed (s : State) (f : Seed → Seed) : State := { s with seed := f s.seed }

/-- What the controller answers to an access. -/
inductive SeedAns where
  | ok | wait | fail (code : Nat)
  deriving DecidableEq, Repr

/-- Whether a unit of a lot can be reached. -/
def State.seedAnswer (s : State) (write : Bool) (lot off len : Nat) : SeedAns :=
  match s.seed.state with
  | .replaying => .wait
  | .off => .fail 0x306
  | .host => .fail 0x107
  | .formatting => .fail 0x107
  | _ =>
    let l := s.lot lot
    if l.size * acreBytes < off + len then .fail 0x107
    else if write then
      (if !(l.state == .draft) then .fail 0x107
       else if s.seed.state == .readOnly then .fail 0x319
       else if s.pwr.nandPause then .wait else .ok)
    else match l.state with
      | .free => .fail 0x107
      | .empty => .fail 0x107
      | .deleting => .fail 0x107
      | _ => if l.gens.isEmpty then .fail 0x107 else .ok

/-- What stops a transfer at its start: a range in the seedbank that cannot be reached (R699); code and address. -/
def State.lotStart (s : State) (d : Desc) (h : List Nat) : Option (Nat × Nat) :=
  let len (i : Nat) : Nat := if d.harrowEn then (slotPat h i).extent else d.length
  let ask (write : Bool) (sp a i : Nat) : Option (Nat × Nat) :=
    if sp = 4 then (match s.seedAnswer write (fld a 48 35) (fld a 34 0) (len i) with | .fail c => some (c, a) | _ => none) else none
  match ask false d.srcSpace d.src 1 with
  | some e => some e
  | none => ask true d.dstSpace d.dst 4

/-! ### Resolving an address of a space -/

/-- Resolve the location at a distance from an encoded start address, for the spaces that Plat translates. -/
def State.resolveAt (s : State) (who : Who) (sp start delta : Nat) (acc : Access) : State × Lk :=
  match sp with
  | 0 => s.lookup who .host ((start + delta) % 2 ^ 64) acc
  | 1 => s.lookup who .devlocal (start + delta) acc
  | _ => s.lookupTilth who.pasid (start / 2 ^ 28) (start % 2 ^ 28 + delta)

/-- The start of a range that a descriptor names (R454): Plat's spaces, STILE_EN (R427), the lot's binding (R699). -/
def State.resolveStart (s : State) (who : Who) (sp start : Nat) (acc : Access) : State × Lk :=
  match sp with
  | 0 | 1 | 2 => s.resolveAt who sp start 0 acc
  | 3 => match s.ctxOf who.pasid with
    | some c => if bit (s.pctxCtrl c) 27 then (s, .at_ (.host 0) 0) else (s.deny, .denied)
    | none => (s.deny, .denied)
  | 4 => match s.ctxOf who.pasid with
    | some c =>
      if (kvGet {} s.seed.lots (fld start 48 35)).pasid == who.pasid || bit (s.pctxCtrl c) 26 then (s, .at_ (.host 0) 0)
      else (s.deny, .denied)
    | none => (s.deny, .denied)
  | _ => (s, .at_ (.host 0) 0)

/-- A range that a descriptor names (R454): the source or first (false) or the destination or second; space, encoded start, bytes
from its lowest to its highest address, access. -/
structure Side where
  dst : Bool
  sp : Nat
  start : Nat
  len : Nat
  acc : Access
  deriving DecidableEq, Repr

/-- The ranges of a descriptor's body, with the Harrow slot it names. -/
def descRanges (d : Desc) (h : List Nat) : List Side :=
  let span (i : Nat) : Nat := if d.harrowEn then (slotPat h i).extent else d.length
  match d.opcode with
  | 1 => [{ dst := false, sp := d.srcSpace, start := d.src, len := span 1, acc := .read },
          { dst := true, sp := d.dstSpace, start := d.dst, len := span 4, acc := .write }]
  | 2 => [{ dst := false, sp := d.cspace, start := d.container, len := d.containerLen, acc := .read }]
         ++ (if d.argWords = 0 then [] else [{ dst := true, sp := d.aspace, start := d.argAddr, len := 8 * d.argWords, acc := .read }])
  | 3 => if d.sop = 0 then [{ dst := false, sp := d.bspace, start := d.buf, len := d.count * d.pageBytes, acc := .write }]
         else if d.sop = 1 then [{ dst := false, sp := d.bspace, start := d.buf, len := 4 * d.count * d.pageBytes, acc := .read }] else []
  | _ => []

/-! ### Run-ahead (R43, R456, R457) -/

/-- The address at an offset of a range. -/
def Side.va (r : Side) (off : Nat) : Nat := (r.start + off) % 2 ^ 64

/-- The space whose invalidations drop a translation of a range: none for tilth and for a bypass furrow's host addresses. -/
def Side.space (r : Side) (bypass : Bool) : Option Space :=
  match r.sp with
  | 0 => if bypass then none else some .host
  | 1 => some .devlocal
  | _ => none

/-- The held translation that covers an offset of a range. -/
def heldAt (l : List AheadX) (dst : Bool) (off : Nat) : Option AheadX :=
  l.find? (fun e => e.dst == dst && decide (e.off ≤ off) && decide (off < e.off + e.len))

/-- The failure found ahead that lies in the page of an address. -/
def failAt (l : List AheadFail) (acc : Access) (va : Nat) : Option AheadFail :=
  l.find? (fun f => f.wr == !(acc == .read) && f.va / 4096 == va / 4096)

/-- Look up what is not held of a range from an offset up to an end, in address order; a miss goes on with the next group of pages
while the stream may hold another walk slot, and past a page that fails. Answers the translations held then. -/
def aheadLoop : Nat → State → Who → Side → List AheadFail → List AheadX → Nat → Nat → State × List AheadX
  | 0, s, _, _, _, held, _, _ => (s, held)
  | fuel + 1, s, who, r, fails, held, off, stop =>
    if stop ≤ off || s.streamFaulted who.stream then (s, held)
    else match heldAt held r.dst off with
      | some e => aheadLoop fuel s who r fails held (e.off + e.len) stop
      | none =>
        let va := r.va off
        let next := off + (4096 - va % 4096)
        if (failAt fails r.acc va).isSome then aheadLoop fuel s who r fails held next stop
        else
          let k := s.resolveAt who r.sp r.start off r.acc
          match k.2 with
          | .at_ t room =>
            let n := min room (stop - off)
            aheadLoop fuel k.1 who r fails (held ++ [{ dst := r.dst, space := r.space who.bypass, va := va, off := off, len := n, at_ := t }]) (off + n) stop
          | .denied => aheadLoop fuel (k.1.failStream who.stream r.acc 0x21 va) who r fails held next stop
          | .wait =>
            if fld (k.1.rg Rg.platCtrl) 22 16 ≤ (k.1.plat.walks.filter (fun w => w.stream == who.stream)).length then (k.1, held)
            else
              let g := if bit (k.1.rg Rg.platCtrl) 24 then 32768 else 4096
              aheadLoop fuel k.1 who r fails held (off + (g - va % g)) stop

/-! ### Sowing -/

/-- The identity of a furrow's sowing stream. -/
def State.sowWho (s : State) (n q : Nat) : Who :=
  { stream := .sow n q, pasid := s.furPasid n, priv := s.furPriv n, bypass := s.furBypass n }

/-- A sowing descriptor fails, unless it has failed already; of a STARTED one the stamp or record address does (R461). -/
def State.sowFail (s : State) (n q code addr : Nat) : State :=
  s.modSlot n q (fun x => if x.state == .started then { x with tailFail := (if x.tailFail.isSome then x.tailFail else some (code, addr)) }
    else if x.result.isSome then x else { x with result := some (code, 0, addr) })

/-- The Harrow slot that a descriptor names. -/
def State.harrowOf (s : State) (d : Desc) : List Nat := if d.opcode == 1 && d.harrowEn then s.harrowSlot d.xform else []

/-- Look up the start of each range of a body that is not held yet; true where one waits. -/
def State.sowRanges (s : State) (n q : Nat) (l : List Side) : State × Bool :=
  l.foldl (fun (a : State × Bool) (r : Side) =>
    if (match a.1.slot n q with | some x => (heldAt x.ahead r.dst 0).isSome | none => true) then a
    else
      let who := a.1.sowWho n q
      let k := a.1.resolveStart who r.sp r.start r.acc
      match k.2 with
      | .at_ t room =>
        if 2 < r.sp then (k.1, a.2)
        else
          let e : AheadX := { dst := r.dst, space := r.space who.bypass, va := r.start, off := 0, len := min room r.len, at_ := t }
          (k.1.modSlot n q (fun x => { x with ahead := x.ahead ++ [e] }), a.2)
      | .denied => (k.1.sowFail n q 0x21 r.start, a.2)
      | .wait => (k.1, true)) (s, false)

/-- Run-ahead of a SOWN or WAITING descriptor: RUNAHEAD_TILES tiles from the start of each range (R456). -/
def State.slotAhead (s : State) (n q : Nat) : State :=
  match s.slot n q with
  | none => s
  | some x =>
    if x.state == .unsown || x.state == .started || x.result.isSome then s
    else s.each ((descRanges x.d x.harrow).filter (fun r => decide (r.sp ≤ 2))) (fun s r =>
      let stop := min r.len (x.tiles * 2 ^ x.tile)
      let held := (match s.slot n q with | some y => y.ahead | none => [])
      let k := aheadLoop (stop / 4096 + 3) s (s.sowWho n q) r x.fails held 0 stop
      k.1.modSlot n q (fun y => { y with ahead := k.2 }))

/-- Translate the stamp and record addresses; true where one waits. -/
def State.sowTail (s : State) (n q : Nat) : State × Bool :=
  match s.slot n q with
  | none => (s, false)
  | some x =>
    let d := x.d
    let (s, w) :=
      if d.stampEn && x.stampAt.isNone && !x.stampBad then
        if d.stampAddr % 8 != 0 then (s.modSlot n q (fun x => { x with stampBad := true }), false)
        else
          let k := s.lookup (s.sowWho n q) .host d.stampAddr .write
          match k.2 with
          | .at_ t _ => (k.1.modSlot n q (fun x => { x with stampAt := some t }), false)
          | .denied => ((k.1.modSlot n q (fun x => { x with stampBad := true })).sowFail n q 0x21 d.stampAddr, false)
          | .wait => (k.1, true)
      else (s, false)
    if d.recordEn && x.recordAt.isNone && !x.recordBad && s.recordLog2 n != 0 then
      let a := s.recordSlot n q
      let k := s.lookup (s.sowWho n q) .host a .write
      match k.2 with
      | .at_ t _ => (k.1.modSlot n q (fun x => { x with recordAt := some t }), w)
      | .denied => ((k.1.modSlot n q (fun x => { x with recordBad := true })).sowFail n q 0x21 a, w)
      | .wait => (k.1, true)
    else (s, w)

/-- Try the lookups of an UNSOWN descriptor; it is SOWN when every one is resolved (R454).  One that has failed needs
its stamp and record addresses only, and its failure takes effect at the start point of its furrow (log entry 11).  For a SOWN or
WAITING one, run-ahead goes on. -/
def State.sowTry (s : State) (n q : Nat) : State :=
  match s.slot n q with
  | none => s
  | some x =>
    if x.state == .started then s
    else if !(x.state == .unsown) then s.slotAhead n q
    else
      let h := s.harrowOf x.d
      let (s, w) := if x.result.isSome then (s, false) else s.sowRanges n q (descRanges x.d h)
      let bad (s : State) (k : Nat) : Bool := !s.stakeOk (.furrow n) k
      let s := if (x.d.waitEn && bad s x.d.waitStake) || (x.d.signalEn && bad s x.d.signalStake) then s.sowFail n q 0x21 0 else s
      let failed := (match s.slot n q with | some y => y.result.isSome | none => true)
      let (s, w') := s.sowTail n q
      if (w && !failed) || w' then s
      else if (match s.slot n q with
          | some y => (x.d.stampEn && y.stampAt.isNone && !y.stampBad) || (x.d.recordEn && y.recordAt.isNone && !y.recordBad && s.recordLog2 n != 0)
          | none => true) then s
      else
        (s.modSlot n q (fun y => { y with state := .sown, harrow := h, tile := fld (s.rg Rg.platCtrl) 4 0, tiles := fld (s.rg Rg.platCtrl) 12 8 })).slotAhead n q

/-- An armed stamp (R345). -/
def armedStamp (d : Desc) : Bool := d.opcode == 0 && d.waitEn && d.stampEn && !d.barrier

/-- A descriptor that holds no later one of its furrow: started, or an armed stamp that is UNSOWN or WAITING (R345, R357). -/
def Slot.passed (x : Slot) : Bool := x.state == .started || (armedStamp x.d && (x.state == .waiting || x.state == .unsown))

/-- The descriptors of a furrow that its sowing stream translates: those passed over, and up to 16 past the one at its start point
(R442). -/
def State.sowWindow (s : State) (n : Nat) : List Slot :=
  let l := s.slotsOf n
  (l.takeWhile Slot.passed).filter (fun x => !(x.state == .started)) ++ (l.dropWhile Slot.passed).take 17

/-- Sow what the stream reaches, and run ahead of what is sown. -/
def State.sowAhead (s : State) (n : Nat) : State := s.each (s.sowWindow n) (fun s x => s.sowTry n x.seq)

/-- A descriptor that was cancelled or has failed completes once its stamp and record addresses are settled. -/
def State.cancelTry (s : State) (n q : Nat) : State :=
  let s := s.sowTry n q
  match s.slot n q with
  | some x => match x.state, x.result with
    | .unsown, _ => s
    | .started, _ => s
    | _, some e => s.finish n q e.1 e.2.1 e.2.2
    | _, none => s
  | none => s

/-! ### The store (R354) -/

/-- Furrows that are not DISABLED. -/
def State.furrowsOn (s : State) : List Nat := (s.g.furrows.filter (fun f => !(f.2.state == .disabled))).map (fun f => f.1)

/-- Entries of a furrow for which ring reads are in flight or have arrived. -/
def Furrow.inFlight (f : Furrow) : Nat := f.fetching - (f.gaps.map (fun g => g.2)).foldl (· + ·) 0

/-- Slots that a furrow holds, with or without those that its entries in flight will take. -/
def State.ownSlots (s : State) (n : Nat) (fetch : Bool) : Nat := (s.slotsOf n).length + (if fetch then (s.fur n).inFlight else 0)

/-- How many slots a furrow may still take: for an acceptance, or beyond what is in flight for a fetch (R354). -/
def State.slotRoom (s : State) (n : Nat) (fetch : Bool) : Nat :=
  let own := s.ownSlots n fetch
  let used := s.g.store.length + (if fetch then (s.g.furrows.map (fun f => f.2.inFlight)).foldl (· + ·) 0 else 0)
  let held := ((s.furrowsOn.filter (fun m => m != n)).map (fun m => s.storeMin m - s.ownSlots m fetch)).foldl (· + ·) 0
  min (s.storeMax n - own) (max (32768 - used - held) (s.storeMin n - own))

/-- A descriptor takes the next SEQ and a slot (R339, R347). -/
def State.pushSlot (s : State) (n : Nat) (d : Desc) (inl : Bool) (result : Option (Nat × Nat × Nat)) : State :=
  let f := s.fur n
  let x : Slot := { furrow := n, seq := f.seq, d := d, inl := inl, pasid := s.furPasid n, result := result }
  let s := s.setFur n { f with seq := (f.seq + 1) % 2 ^ 32 }
  let s := { s with g := { s.g with store := s.g.store ++ [x] } }
  let s := if s.g.store.length = 32768 then s.bump O.storeFull else s
  let s := if s.val O.storeHigh < s.g.store.length then s.setVal O.storeHigh s.g.store.length else s
  if inl then s.bump O.inlineAccepted else s

/-- A descriptor is accepted: it takes a slot, its fields are checked, and it is sown.  A tilth that its context does not hold is a
denial (R431). -/
def State.accept (s : State) (n : Nat) (d : Desc) (inl : Bool) : State :=
  let c := s.descCheck n d
  let s := if d.opcode == 2 && c == 0x21 then s.deny else s
  (s.pushSlot n d inl (if c = 0 then none else some (c, 0, 0))).sowAhead n

/-- The staged inline descriptors of a furrow. -/
def State.stagedOf (s : State) (n : Nat) : List Staged := s.g.staging.filter (fun x => x.furrow == n)

/-- Remove the first staged descriptor of a furrow. -/
def dropStaged (n : Nat) : List Staged → List Staged
  | [] => []
  | x :: xs => if x.furrow = n then xs else x :: dropStaged n xs

/-- The first staged descriptor of a furrow leaves staging. -/
def State.unstage (s : State) (n : Nat) : State := { s with g := { s.g with staging := dropStaged n s.g.staging } }

/-- The entry at HEAD is consumed and accepted (R339). -/
def State.takeEntry (s : State) (n : Nat) (e : Nat × Nat × List Byte) : State :=
  let f := s.fur n
  let rest := if e.2.1 ≤ 1 then [] else [((e.1 + 1) % 2 ^ 32, e.2.1 - 1, e.2.2.drop 64)]
  let s := s.setFur n { f with head := (f.head + 1) % 2 ^ 32, fetching := f.fetching - 1,
                               early := rest ++ f.early.filter (fun x => x.1 != e.1), shadowDue := f.shadowDue || s.shadowEn n }
  (s.bump O.ringEntries).accept n (parseDesc (e.2.2.take 64)) false

/-- A furrow takes its next descriptor into the store: the staged one whose turn has come, else the entry at HEAD, where a slot is
free (R353, R354).  None while Frozen (R315).  One that is disabling takes its staged ones as cancelled (R365). -/
def State.takeNext (s : State) (n : Nat) : Option State :=
  let f := s.fur n
  let entry : Option State := (f.early.find? (fun e => e.1 == f.head)).map (fun e => s.takeEntry n e)
  if s.host.frozen || s.slotRoom n false = 0 then none
  else match f.state with
    | .disabled => none
    | .disabling => (s.stagedOf n).head?.map (fun x =>
        ((s.unstage n).pushSlot n { x.d with abort := true } true (some (0x90, 0, 0))).cancelTry n f.seq)
    | _ => match s.stagedOf n with
      | x :: _ => if x.after = f.head then some ((s.unstage n).accept n x.d true) else entry
      | [] => entry

/-- Take descriptors as long as there is one to take. -/
def takeLoop : Nat → State → Nat → State
  | 0, s, _ => s
  | k + 1, s, n => match s.takeNext n with
    | some t => takeLoop k t n
    | none => s

/-- The furrow has something to accept. -/
def State.toAccept (s : State) (n : Nat) : Nat :=
  (s.stagedOf n).length + ((s.fur n).early.map (fun e => e.2.1)).foldl (· + ·) 0

/-- A furrow accepts what it may. -/
def State.acceptAll (s : State) (n : Nat) : State := takeLoop (s.toAccept n) s n

/-- Stakes are settled: the waits met are released, and what waits for a slot takes those that are free now (R353, R374, R403). -/
def State.settleStakes (s : State) : State :=
  let s := s.releaseWaits
  s.each (s.furrowsOn.filter (fun n => decide (0 < s.toAccept n))) (fun s n => s.acceptAll n)

end Sys2Proof.Machine
end

