-- ==== Sys2Proof/Machine/Drill.lean ====
section
/-! DEFINITION. The Drill's rows (R529-R560): Hopper and tag accounting, the Harrow's operations, overlap, the start and
the completion of a transfer, chains, and the row registers.  Rows.lean moves the bytes. -/

namespace Sys2Proof.Machine

/-! ### Rows and transfers -/

def State.rowOwner (s : State) (r : Nat) : Nat := fld (s.rg (Rg.row r 0x28)) 23 22
def State.rowPasid (s : State) (r : Nat) : Nat := fld (s.rg (Rg.row r 0x28)) 19 0
def State.rowPriv (s : State) (r : Nat) : Bool := bit (s.rg (Rg.row r 0x28)) 20
def State.rowBypass (s : State) (r : Nat) : Bool := bit (s.rg (Rg.row r 0x28)) 21

/-- Change a transfer of a row. -/
def State.modXfer (s : State) (r id : Nat) (f : Xfer → Xfer) : State :=
  s.setRow r { s.row r with xfers := (s.row r).xfers.map (fun x => if x.id == id then f x else x) }

/-- A transfer of a row. -/
def State.xfer (s : State) (r id : Nat) : Option Xfer := (s.row r).xfers.find? (fun x => x.id == id)

/-- Source and destination pattern. -/
def Xfer.spat (x : Xfer) : Pat := if x.d.harrowEn then slotPat x.harrow 1 else Pat.flat x.d.length
def Xfer.dpat (x : Xfer) : Pat := if x.d.harrowEn then slotPat x.harrow 4 else Pat.flat x.d.length

/-- The identity a transfer is translated under, for its source or destination side. -/
def Xfer.who (x : Xfer) (r : Nat) (dst : Bool) : Who :=
  { stream := .row r x.id dst, pasid := x.pasid, priv := x.priv, bypass := x.bypass }

/-- The PASID on host data TLPs. -/
def Xfer.tagPasid (x : Xfer) : Option Nat := if x.bypass then none else some x.pasid

/-- Space and start address of a side of a transfer, the address at a distance, and the range as sowing looks it up. -/
def Xfer.sideSpace (x : Xfer) (dst : Bool) : Nat := if dst then x.d.dstSpace else x.d.srcSpace
def Xfer.sideStart (x : Xfer) (dst : Bool) : Nat := if dst then x.d.dst else x.d.src
def Xfer.sideVa (x : Xfer) (dst : Bool) (off : Nat) : Nat := (x.sideStart dst + off) % 2 ^ 64
def Xfer.sidePat (x : Xfer) (dst : Bool) : Pat := if dst then x.dpat else x.spat
def Xfer.side (x : Xfer) (dst : Bool) : Side :=
  { dst := dst, sp := x.sideSpace dst, start := x.sideStart dst, len := (x.sidePat dst).extent, acc := if dst then .write else .read }

/-- The address of a stream byte on a side: what a record reports of an access that fails there (R361). -/
def Xfer.byteVa (x : Xfer) (dst : Bool) (k : Nat) : Nat := x.sideVa dst ((x.sidePat dst).at_ k)

/-! ### Hopper space and tags (R543, R544) -/

/-- The sum of all reserves, in bins. -/
def State.reserves (s : State) : Nat :=
  ((List.range 64).map (fun r => fld (s.rg (Rg.row r 0x60)) 11 0)).foldl (· + ·) (fld (s.rg Rg.stileRx) 11 0)

def State.tagMax (s : State) (r : Nat) : Nat := fld (s.rg (Rg.row r 0x60)) 42 32

/-- Keep HOPPER_HIGH. -/
def State.noteHopper (s : State) : State :=
  let bins := (s.hopperUsed + 4095) / 4096
  if s.val O.hopperHigh < bins then s.setVal O.hopperHigh bins else s

/-- The limits of R544 for the tag enables in force: the fetcher's reserve and its maximum. -/
def State.fetchTags (s : State) : Nat × Nat :=
  match s.tagRow.2.2 with
  | 2048 => (8, 64)
  | 768 => (8, 64)
  | 256 => (4, 60)
  | _ => (2, 7)

/-- Tags held by the fetcher, by the rows and gleaners together, and by one row. -/
def State.fetcherTags (s : State) : Nat :=
  (s.host.tags.filter (fun u => match u.owner with | .furrowRing _ _ _ | .deadRing _ => true | _ => false)).length
def State.dataTags (s : State) : Nat :=
  (s.host.tags.filter (fun u => match u.owner with | .row _ _ _ | .chain _ _ | .gleaner _ | .deadRow _ => true | _ => false)).length
def State.rowTags (s : State) (r : Nat) : Nat :=
  (s.host.tags.filter (fun u => match u.owner with | .row k _ _ | .chain k _ | .deadRow k => k == r | _ => false)).length

/-- Whether a row may take a host tag. -/
def State.rowTagRoom (s : State) (r : Nat) : Bool :=
  let lim := s.tagRow.2.2
  decide (s.rowTags r < s.tagMax r) && decide (s.dataTags < lim - lim / 16 - s.fetchTags.1)

/-- The transfer the Coulter reads for: the first of its row whose reads are not all issued (R531). -/
def Row.reading (x : Row) : Option Xfer :=
  x.xfers.find? (fun y => y.finished.isNone && y.endAt.isNone && decide (y.readPos < y.d.length))

/-- The priority of a row with a transfer (R795): its furrow's when the transfer started; 4 for an owned row, 0 for ROW[MIG_ROW]. -/
def State.rowPrio (s : State) (r : Nat) (x : Xfer) : Nat :=
  match s.rowOwner r with | 0 => x.prio | 1 => 4 | _ => 0

/-- Another row waits for Hopper space ahead of this one: its current descriptor has the higher priority, or the same, and its turn
comes first (R795). -/
def State.hopperAhead (s : State) (r : Nat) : Bool :=
  let prio (k : Nat) : Nat := match (s.row k).reading with | some x => s.rowPrio k x | none => 0
  let turn (k : Nat) : Nat := (k + 127 - s.drill.lastCoulter) % 64
  s.drill.rows.any (fun e => e.1 != r && e.2.hopWait && e.2.state == .active && e.2.reading.isSome
    && (decide (prio r < prio e.1) || (prio r == prio e.1 && decide (turn e.1 < turn r))))

/-- A row asks for Hopper space for its next read: what fits its unused reserve it has; more only in its turn (R543, R795). -/
def State.takeHopper (s : State) (r n : Nat) : State × Bool :=
  let ok := s.hopperRoom r n && (decide (s.rowHeld r + granular n ≤ s.hopMin r) || !s.hopperAhead r)
  (s.setRow r { s.row r with hopWait := !ok }, ok)

/-! ### The Harrow's operations (R547-R549), on bytes with their poison marks -/

/-- Bit b of value v of a block of W-bit values (R548). -/
def planeBit (w : Nat) (bs : List Byte) (v b : Nat) : Bool :=
  (bs.getD (v * w / 8) 0).getLsbD (v * w % 8 + b)

/-- A byte from its eight bits. -/
def byteOf (f : Nat → Bool) : Byte :=
  BitVec.ofNat 8 ((List.range 8).foldl (fun a i => a + b2n (f i) * 2 ^ i) 0)

/-- PLANE_SPLIT of one block. -/
def planeSplit (w : Nat) (bs : List Byte) : List Byte :=
  let per := bs.length / w
  (List.range bs.length).map (fun i => byteOf (fun k => planeBit w bs (i % per * 8 + k) (i / per)))

/-- PLANE_MERGE of one block. -/
def planeMerge (w : Nat) (bs : List Byte) : List Byte :=
  let per := bs.length / w
  (List.range bs.length).map (fun i => byteOf (fun k =>
    let v := (i * 8 + k) / w
    (bs.getD ((i * 8 + k) % w * per + v / 8) 0).getLsbD (v % 8)))

/-- Where INTERLEAVE puts input byte i of a block: C channels of elements of E bytes (R549). -/
def interleavePos (c e b i : Nat) : Nat :=
  let per := b / c
  (i % per / e * c + i / per) * e + i % e

/-- INTERLEAVE and its inverse on one block. -/
def interleave {α : Type} (d : α) (c e : Nat) (bs : List α) : List α :=
  let b := bs.length
  (List.range b).map (fun o => bs.getD (((List.range b).find? (fun i => interleavePos c e b i == o)).getD 0) d)
def deinterleave {α : Type} (d : α) (c e : Nat) (bs : List α) : List α :=
  (List.range bs.length).map (fun i => bs.getD (interleavePos c e bs.length i) d)

/-- Blocks of n elements. -/
def blocksOf {α : Type} (n : Nat) (l : List α) : List (List α) :=
  (List.range (if n = 0 then 0 else l.length / n)).map (fun k => (l.drop (k * n)).take n)

/-- A slot's operation on bytes of whole units.  A plane operation mixes every byte of a block, so one poisoned byte
poisons its block. -/
def harrowOp (h : List Nat) (bs : List (Byte × Bool)) : List (Byte × Bool) :=
  let z : Byte × Bool := (0, false)
  let plane (f : List Byte → List Byte) : List (Byte × Bool) :=
    (blocksOf (hxB h) bs).flatMap (fun b =>
      let bad := b.any (fun y => y.2)
      (f (b.map (fun y => y.1))).map (fun y => (y, bad)))
  match hxOp h with
  | 1 => plane (planeSplit (hxW h))
  | 2 => plane (planeMerge (hxW h))
  | 3 => (blocksOf (hxB h) bs).flatMap (interleave z (hxC h) (hxE h))
  | 4 => (blocksOf (hxB h) bs).flatMap (deinterleave z (hxC h) (hxE h))
  | 5 => (blocksOf (hxE h) bs).flatMap List.reverse
  | _ => bs

/-! ### Overlap (R554-R556) -/

/-- Physical class and address of a target. -/
def Target.cls : Target → Nat
  | .host _ => 0 | .hbm _ => 1 | .tilth p _ => 2 + p
def Target.addr : Target → Nat
  | .host a => a | .hbm a => a | .tilth _ o => o

/-- Whether the spaces of a transfer can meet in one physical class. -/
def Xfer.mayOverlap (x : Xfer) : Bool :=
  decide (x.d.srcSpace ≤ 2) && decide (x.d.dstSpace ≤ 2)
    && !(x.d.srcSpace == 2 && x.d.dstSpace == 2 && x.d.src / 2 ^ 28 != x.d.dst / 2 ^ 28)

/-- Add an extent, merged with the last one where it continues it. -/
def addExtent (l : List Extent) (e : Extent) : List Extent :=
  match l.getLast? with
  | some y => if y.off + y.len = e.off && y.at_.cls == e.at_.cls && y.at_.addr + y.len = e.at_.addr then
      l.dropLast ++ [{ y with len := y.len + e.len }] else l ++ [e]
  | none => [e]

/-- Translate a side of a transfer from where its extents end; true once the whole range is known, or its list ends at
an address that does not translate (R457, R554). -/
def extendLoop : Nat → State → Nat → Nat → Bool → State × Bool
  | 0, s, _, _, _ => (s, true)
  | fuel + 1, s, r, id, dst =>
    match s.xfer r id with
    | none => (s, true)
    | some x =>
      let ra := x.side dst
      let pos := if dst then x.dextPos else x.extPos
      if ra.len ≤ pos || (failAt x.fails ra.acc (ra.va pos)).isSome || x.finished.isSome then (s, true)
      else
        let k := s.resolveAt (x.who r dst) ra.sp ra.start pos ra.acc
        match k.2 with
        | .wait => (k.1, (match k.1.xfer r id with | some y => (failAt y.fails ra.acc (ra.va pos)).isSome | none => true))
        | .denied => (k.1, true)
        | .at_ t room =>
          let n := min room (ra.len - pos)
          let s := k.1.modXfer r id (fun y =>
            if dst then { y with dext := addExtent y.dext { off := pos, at_ := t, len := n }, dextPos := pos + n }
            else { y with ext := addExtent y.ext { off := pos, at_ := t, len := n }, extPos := pos + n })
          if 4096 < (match s.xfer r id with | some y => y.ext.length | none => 0) then
            (s.modXfer r id (fun y => { y with finished := some (0x105, 0) }), true)
          else extendLoop fuel s r id dst

/-- Two extents share a byte. -/
def extentsMeet (a b : Extent) : Bool :=
  a.at_.cls == b.at_.cls && decide (a.at_.addr < b.at_.addr + b.len) && decide (b.at_.addr < a.at_.addr + a.len)

/-- Before a transfer's first write: its source is translated, and a Harrow transfer is judged (R554, R555).  False
while translations are outstanding. -/
def State.judge (s : State) (r id : Nat) : State × Bool :=
  match s.xfer r id with
  | none => (s, false)
  | some x =>
    if x.judged || !x.mayOverlap then (s, true)
    else
      let a := extendLoop (x.spat.extent + 1) s r id false
      let b := if x.d.harrowEn then extendLoop (x.dpat.extent + 1) a.1 r id true else (a.1, true)
      if !(a.2 && b.2) then (b.1, false)
      else
        let meets := x.d.harrowEn && (match b.1.xfer r id with
          | some y => y.ext.any (fun e => y.dext.any (extentsMeet e)) | none => false)
        (b.1.modXfer r id (fun y => { y with judged := true,
                                             finished := if meets && y.finished.isNone then some (0x14, 0) else y.finished }), true)

/-- The last source byte, not yet read, that a write of stream bytes [j, j + k) to a target would destroy (R556). -/
def Xfer.hazard (x : Xfer) (t : Target) (j k : Nat) : Option Nat :=
  if !x.mayOverlap || x.d.harrowEn then none
  else x.ext.foldl (fun m e =>
    let lo := max t.addr e.at_.addr
    let hi := min (t.addr + k) (e.at_.addr + e.len)
    if e.at_.cls == t.cls && lo < hi then
      let i := e.off + (hi - 1 - e.at_.addr)
      let first := e.off + (lo - e.at_.addr)
      let unread := (x.readPos ≤ i && x.endAt.isNone) || x.pieces.any (fun p => !p.arrived && decide (p.off ≤ i) && decide (first < p.off + p.len))
      if j + (hi - 1 - t.addr) < i && unread then some (max i (m.getD 0)) else m
    else m) none

/-! ### Feeds (R551-R553) -/

/-- The oldest request of a feed is served: its count goes to the plot's index register, and a FEED with WAIT goes on. -/
def State.feedReport (s : State) (p ch count : Nat) : State :=
  let f := s.feed p ch
  match f.reqs with
  | [] => s
  | (_, k, _) :: rest =>
    let s := s.setFeed p ch { f with reqs := rest }
    (s.modPlot p (fun y => { y with idx := (if k = 0 then y.idx else kvSet 0 y.idx k count),
                                    feedWait := (if y.feedWait == some ch && rest.isEmpty then none else y.feedWait) })).bump O.feedRequests

/-- A transfer leaves its feed: a request being served reports what was written (R552, R553). -/
def State.unbindFeed (s : State) (r : Nat) (x : Xfer) : State :=
  if !x.d.paced then s
  else
    let f := s.feed x.d.feedPlot x.d.feedCh
    if f.bound != some (r, x.id) then s
    else
      let s := match f.reqs with
        | (_, _, true) :: _ => s.feedReport x.d.feedPlot x.d.feedCh (x.pressPos - x.reqStart)
        | _ => s
      s.setFeed x.d.feedPlot x.d.feedCh { s.feed x.d.feedPlot x.d.feedCh with bound := none }

/-! ### Completion (R557-R559) -/

/-- Bytes delivered: writes to a stile count once they are acknowledged. -/
def State.delivered (s : State) (r : Nat) (x : Xfer) : Nat :=
  s.fab.reqs.foldl (fun m q => match q.owner with
    | .row k id off _ => if k == r && id == x.id && q.kind == .stileWrite then min m off else m
    | _ => m) x.pressPos

/-- The half point H (R558). -/
def Xfer.halfAt (x : Xfer) : Nat := x.d.length / 128 * 64

/-- Code and fault address of a transfer that has ended. -/
def State.outcome (s : State) (r : Nat) (x : Xfer) : Option (Nat × Nat) :=
  match x.finished with
  | some e => some e
  | none =>
    if x.begun && x.d.length ≤ s.delivered r x then some (b2n x.poisoned, 0)
    else match x.endAt with
      | some e => if x.pieces.isEmpty && x.ready.isEmpty && s.delivered r x = x.pressPos then some e else none
      | none => none

/-- A row leaves its transfers' host reads: what they bring is discarded. -/
def State.dropReads (s : State) (r id : Nat) : State :=
  { s with
    host := { s.host with tags := s.host.tags.map (fun (u : TagUse) => match u.owner with
      | .row k i _ => if k == r && i == id then { u with owner := .deadRow r } else u
      | _ => u) },
    fab := { s.fab with reqs := s.fab.reqs.filter (fun q => match q.owner with
      | .row k i _ _ => !(k == r && i == id && q.kind == .readReq)
      | _ => true) } }

/-- The front transfer leaves its row. -/
def State.popXfer (s : State) (r : Nat) (x : Xfer) : State :=
  let s := ((s.unbindFeed r x).dropReads r x.id).leaveFaults (fun st => match st with
    | .row k id _ => k == r && id == x.id | _ => false)
  s.setRow r { s.row r with xfers := (s.row r).xfers.filter (fun y => y.id != x.id), delivered := s.delivered r x }

/-- The state of a row whose last transfer left. -/
def State.rowIdle (s : State) (r : Nat) : State :=
  let x := s.row r
  if !x.xfers.isEmpty || x.hasChain then s
  else match x.state with
    | .active => s.setRow r { x with state := .idle }
    | .stopping => s.setRow r { x with state := .idle }
    | .parked => s.setRow r { x with before := .idle }
    | _ => s

/-- A pool row whose every transfer is cancelled is STOPPING until they have left (R559, R561). -/
def State.stopPool (s : State) (r : Nat) : State :=
  let x := s.row r
  if x.state == .active && s.rowOwner r == 0 && !x.xfers.isEmpty && x.xfers.all (fun y => match y.finished with | some e => e.1 == 0x90 | none => false) then
    s.setRow r { x with state := .stopping }
  else s

/-- An owned row fails (R559): ERROR, its code and position, the attention cause; what it holds is discarded. -/
def State.rowError (s : State) (r code : Nat) (pos : Option Nat) : State :=
  let s := s.each (s.row r).xfers (fun s x => s.popXfer r x)
  let s := s.withdraw (fun w => match w with | .chain k => k == r | _ => false)
  let x := s.row r
  (s.setRow r { x with state := .error, code := code, pos := (if pos.isSome then pos else x.pos), kick := false,
                       chainNext := none, hasChain := false, linkAt := none }).attn At.rowError

/-- The issuer an owned row is (R532). -/
def State.rowIssuer (s : State) (r : Nat) : Issuer := .row r (s.rowPasid r) (s.rowBypass r)

/-- The stamp address of a transfer of an owned row is translated, again where an invalidation dropped it; false while that waits. -/
def State.rowStamp (s : State) (r : Nat) (x : Xfer) : State × Bool :=
  if !x.d.stampEn || x.stampAt.isSome || x.stampBad || x.d.stampAddr % 8 != 0 then (s, true)
  else
    let k := s.lookup (x.who r false) .host x.d.stampAddr .write
    match k.2 with
    | .at_ t _ => (k.1.modXfer r x.id (fun y => { y with stampAt := some t }), true)
    | .denied => (k.1.failStream (.row r x.id false) .write 0x21 x.d.stampAddr, true)
    | .wait => (k.1, match k.1.xfer r x.id with | some y => y.stampBad | none => true)

/-- The half point of an entry or a direct transfer of an owned row. -/
def State.rowHalf (s : State) (r : Nat) (x : Xfer) : State :=
  if x.halfDone then s
  else
    let s := s.modXfer r x.id (fun y => { y with halfDone := true })
    let s := if x.d.halfSignal then
        let k := s.signal (s.rowIssuer r) false x.d.signalStake x.d.signalValue
        if k.2 then k.1.settleStakes else k.1.modXfer r x.id (fun y => { y with halfDenied := true })
      else s
    if x.d.halfStampEn then
      match x.stampAt with
      | some t => (s.writeTarget t x.d.stampAddr (stampBytes x.d.stampValue 0 true) x.tagPasid (.rowStamp r)).bump O.stamps
      | none => s
    else s

/-- The half point of the front transfer of an owned row, once its bytes are delivered (R558). -/
def State.rowHalves (s : State) (r : Nat) : State :=
  match (s.row r).xfers with
  | y :: _ =>
    if s.rowOwner r = 1 && y.begun && !y.halfDone && y.halfAt != 0 && y.halfAt ≤ s.delivered r y then
      let k := s.rowStamp r y
      if k.2 then k.1.rowHalf r ((k.1.xfer r y.id).getD y) else k.1
    else s
  | [] => s

/-- The front transfer of an owned row completes or fails (R537, R538, R559): its stamp is written last; a failure of the transfer
ends the row in ERROR. -/
def State.completeOwned (s : State) (r : Nat) (x : Xfer) (code : Nat) : State :=
  let s := if codeOk code then s.rowHalf r x else s
  let x := (s.xfer r x.id).getD x
  let code := if codeOk code && x.halfDenied then 0x21 else code
  let k := if codeOk code && x.d.signalEn then s.signal (s.rowIssuer r) x.d.signalSet x.d.signalStake x.d.signalValue else (s, true)
  let code := if k.2 then code else 0x21
  let s := k.1
  let s := if x.d.stampEn then (match x.stampAt with
      | some t => (s.writeTarget t x.d.stampAddr (stampBytes x.d.stampValue code false) x.tagPasid (.rowStamp r)).bump O.stamps
      | none => s)
    else s
  let s := s.popXfer r x
  let s := match x.src with
    | .chain _ => s.bump O.descriptors
    | .direct => s.setRow r { s.row r with done := true, code := code }
    | .furrow _ _ => s
  let s := if codeOk code then (s.setRow r { s.row r with code := code }).rowIdle r
    else s.rowError r code (match x.src with | .chain a => some a | _ => none)
  s.settleStakes

/-- The front transfer of an owned row leaves once its stamp address is translated; true where it has left. -/
def State.leaveOwned (s : State) (r : Nat) (x : Xfer) (code : Nat) : State × Bool :=
  let k := s.rowStamp r x
  let y := (k.1.xfer r x.id).getD x
  if k.2 then (k.1.completeOwned r y (match y.finished with | some e => e.1 | none => code), true) else (k.1, false)

/-- A furrow's transfer leaves its row, and the descriptor completes (R359). -/
def State.completeFurrow (s : State) (r : Nat) (x : Xfer) (n q code addr : Nat) : State :=
  let got := s.delivered r x
  let s := if codeOk code || x.halfAt ≤ got && x.halfAt != 0 then s.half n q else s
  let s := (s.popXfer r x).rowIdle r
  (s.finish n q code got addr).settleStakes

/-! ### Starting the front transfer of an owned row (R532, R539) -/

/-- Place the wait of a chain entry; one that finds no free entry is counted once (R402). -/
def State.chainWait (s : State) (r : Nat) (x : Xfer) : State :=
  if !x.d.waitEn || x.waitPlaced then s
  else if !s.stakeOk (s.rowIssuer r) x.d.waitStake then s.modXfer r x.id (fun y => { y with finished := some (0x21, 0) })
  else
    match (s.modXfer r x.id (fun y => { y with waitPlaced := true, waitMet := false })).placeWait x.d.waitStake (x.d.waitCond == 1) x.d.waitValue (.chain r) with
    | some t => t.settleStakes
    | none => if x.waitFull then s else (s.modXfer r x.id (fun y => { y with waitFull := true })).bump O.waiterFull

/-- Look up the start of a side of a transfer that holds no translation of it; true where it is resolved. -/
def State.beginSide (s : State) (r id : Nat) (dst : Bool) : State × Bool :=
  match s.xfer r id with
  | none => (s, true)
  | some x =>
    let ra := x.side dst
    if (heldAt x.ahead dst 0).isSome || x.finished.isSome then (s, true)
    else
      let k := s.resolveStart (x.who r dst) ra.sp ra.start ra.acc
      match k.2 with
      | .at_ t room =>
        (k.1.modXfer r id (fun y => if 2 < ra.sp then y else
          { y with ahead := y.ahead ++ [{ dst := dst, space := ra.space y.bypass, va := ra.start, off := 0, len := min room ra.len, at_ := t }] }), true)
      | .denied => (k.1.modXfer r id (fun y => { y with finished := some (0x21, ra.start) }), true)
      | .wait => (k.1, match k.1.xfer r id with | some y => y.finished.isSome | none => true)

/-- Translate the start addresses and the stamp of a transfer, as sowing would (R539); true when all are resolved. -/
def State.beginLookups (s : State) (r : Nat) (x : Xfer) : State × Bool :=
  let a := s.beginSide r x.id false
  let b := a.1.beginSide r x.id true
  let c := b.1.rowStamp r ((b.1.xfer r x.id).getD x)
  (c.1, a.2 && b.2 && c.2)

/-- The transfers that an owned row has accepted are translated before they come to its front (R539). -/
def State.rowAhead (s : State) (r : Nat) : State :=
  s.each ((s.row r).xfers.filter (fun x => !x.begun && x.finished.isNone)) (fun s x => (s.beginLookups r x).1)

/-- The front transfer of an owned row begins once it is translated and its wait is met. -/
def State.beginFront (s : State) (r : Nat) : State :=
  match (s.row r).xfers with
  | [] => s
  | x :: _ =>
    if x.begun || x.finished.isSome || !((s.row r).state == .active) then s
    else
      let bad := (x.d.signalEn && !s.stakeOk (s.rowIssuer r) x.d.signalStake) || (x.d.waitEn && !s.stakeOk (s.rowIssuer r) x.d.waitStake)
      if bad && !x.waitPlaced then s.modXfer r x.id (fun y => { y with finished := some (0x21, 0) })
      else
        let k := s.beginLookups r x
        if !k.2 then k.1
        else
          let s := k.1.chainWait r x
          match s.xfer r x.id with
          | some y =>
            if y.finished.isNone && y.waitMet && (!y.d.waitEn || y.waitPlaced) then
              s.modXfer r x.id (fun z => { z with begun := true, readAuth := (if z.d.paced then 0 else z.d.length),
                                                  pressAuth := (if z.d.paced then 0 else z.d.length),
                                                  finished := s.lotStart x.d x.harrow })
            else s
          | none => s

/-! ### Chains (R538-R540) -/

/-- Read chain entries ahead: at most 8, not across a 4 KiB boundary, at most 32 accepted entries in flight. -/
def State.chainRead (s : State) (r : Nat) : State :=
  let x := s.row r
  match x.chainNext with
  | none => s
  | some a =>
    if x.chainBusy || !(x.state == .active) || 32 ≤ x.xfers.length || !s.rowTagRoom r then s
    else
      let n := if x.linkAt == some a then 1 else min 8 (min ((4096 - a % 4096) / 64) (32 - x.xfers.length))
      match (if s.hopperRoom r (64 * n) then s.request { kind := .memRead, addr := a, len := 64 * n, owner := .chain r a } else none) with
      | none => s
      | some t => t.2.setRow r { t.2.row r with chainBusy := true }

/-- Accept one chain entry (R538, R539). -/
def State.acceptEntry (s : State) (r a : Nat) (b : List Byte) : State :=
  let d := parseDesc b
  let row := s.row r
  let blank : Xfer :=
    { id := row.nextId, src := .chain a, d := d, pasid := s.rowPasid r, priv := s.rowPriv r, bypass := s.rowBypass r,
      tile := fld (s.rg Rg.platCtrl) 4 0, tiles := fld (s.rg Rg.platCtrl) 12 8 }
  let push (x : Xfer) : State :=
    s.setRow r { row with xfers := row.xfers ++ [x], nextId := row.nextId + 1, chainNext := some (a + 64), linkAt := none }
  if d.opcode == 1 && d.link then
    let rest := b.take 32 ++ [0, 0, 0, 0, 0, 0, 0, 0] ++ b.drop 40
    let plain := leNat rest == 1 + 4 * 2 ^ (8 * 53)
    if !plain || d.src % 64 != 0 then push { blank with d := {}, finished := some (0x102, a) }
    else if d.src = 0 then s.setRow r { row with chainNext := none, linkAt := some a }
    else s.setRow r { row with chainNext := some d.src, linkAt := none }
  else if d.opcode != 1 || d.recordEn then push { blank with d := {}, finished := some (0x102, a) }
  else
    let h := if d.harrowEn then s.harrowSlot d.xform else []
    let c := s.headerCheck 1 d
    let c := if c != 0 then c else s.drillCheck d (s.harrowSlot d.xform)
    push { blank with harrow := h, finished := if c = 0 then none else some (c, 0) }

/-- Accept the entries of a chain read in order; a link or a malformed entry ends it. -/
def acceptEntries : Nat → State → Nat → Nat → List Byte → State
  | 0, s, _, _, _ => s
  | n + 1, s, r, a, bs =>
    if bs.length < 64 || (s.row r).chainNext != some a then s
    else acceptEntries n (s.acceptEntry r a (bs.take 64)) r (a + 64) (bs.drop 64)

/-- At the end of a chain: the entries before the mark are done, and the row waits there, or reads the link again where
a kick is pending (R540). -/
def State.chainEnd (s : State) (r : Nat) : State :=
  let x := s.row r
  match x.linkAt with
  | some a =>
    if x.hasChain && x.xfers.isEmpty && x.chainNext.isNone && x.state == .active then
      if x.kick then s.setRow r { x with kick := false, chainNext := some a }
      else s.setRow r { x with state := .chainEnd, pos := some a }
    else s
  | none => s

/-- Bring an owned row forward: completed transfers leave, the next one begins, the chain is read ahead. -/
def settleRow : Nat → State → Nat → State
  | 0, s, _ => s
  | n + 1, s, r =>
    let x := s.row r
    if s.rowOwner r != 1 || !(x.state == .active) then s
    else match x.xfers with
      | [] => (s.chainEnd r).chainRead r
      | y :: _ =>
        match s.outcome r y with
        | some e =>
          let k := s.leaveOwned r y e.1
          if k.2 then settleRow n k.1 r else k.1
        | none =>
          let s := match y.src with | .chain a => s.setRow r { s.row r with pos := some a } | _ => s
          let s := (s.beginFront r).rowAhead r
          match (s.row r).xfers with
          | z :: _ => if (s.outcome r z).isSome then settleRow n s r else s.chainRead r
          | [] => s

def State.settle (s : State) (r : Nat) : State := settleRow 80 s r

/-! ### Acknowledgement of an invalidation (R461) -/

/-- The Tramline die that owns a port (R30). -/
def portDie (p : Nat) : Nat := if p = 1 || (7 ≤ p && p ≤ 10) || p = 12 then 1 else 0

/-- The Coulter has reads in flight under dropped translations. -/
def State.coulterBusy (s : State) : Bool := s.host.tags.any (fun u => u.stale && u.quar == .no)

/-- A write under a translation of a range. -/
def Cover.hitsWrite (c : Cover) (t : Tlp) : Bool :=
  match t.pasid, t.va with | some p, some v => c.hits p .host v (v + t.len) | _, _ => false

/-- Writes under a translation of a range that have not entered the posted queue: those of a plot's gleaner, or else those of the
Press.  Writes held under a cleared Bus Master Enable are not in the posted queue (R279). -/
def State.writesBusy (s : State) (c : Cover) (plot : Option Nat) : Bool :=
  (s.host.blocked ++ (if s.bme then [] else s.host.queue)).any (fun t =>
    (match t.owner with | .gleaner p => plot == some p | _ => plot.isNone) && c.hitsWrite t)

/-- A Tramline sender awaits the acknowledgement of a stile write that was read from a range. -/
def State.tsendBusy (s : State) (c : Cover) (die : Nat) : Bool :=
  s.fab.reqs.any (fun q => q.kind == .stileWrite && portDie q.port == die && (match q.owner with
    | .row r id off n => (match s.xfer r id with
      | some x =>
        let lo := x.byteVa false off
        let hi := if x.d.harrowEn then x.sideVa false 0 + x.spat.extent else lo + n
        (match (x.side false).space x.bypass with
          | some sp => c.hits x.pasid sp (if x.d.harrowEn then x.sideVa false 0 else lo) hi
          | none => false)
      | none => false)
    | _ => false))

/-- An engine still has accesses in flight under translations that it dropped.  An access of the coherent cache ends with
the command that makes it. -/
def State.engineBusy (s : State) (c : Cover) (engine : Nat) : Bool :=
  if engine = 0 then s.coulterBusy
  else if engine = 1 then s.writesBusy c none
  else if engine < 18 then s.writesBusy c (some (engine - 2))
  else if engine < 20 then s.tsendBusy c (engine - 18)
  else false

/-- ENGINE_ACKNOWLEDGE (R461): an engine whose accesses under dropped translations have drained acknowledges. -/
def execEngineAcknowledge (engine : Fin 21) (s : State) : Out :=
  match s.plat.executing with
  | none => .next s
  | some c =>
    if s.engineBusy c.cover engine then .next s
    else .next { s with plat := { s.plat with acks := setBit s.plat.acks engine false } }

/-! ### Row control (R532, R537-R540, R559) -/

/-- ROW_BIND names a valid context and a permitted bypass (R532). -/
def State.bindOk (s : State) (r : Nat) : Bool :=
  match s.ctxOf (s.rowPasid r) with
  | none => false
  | some c => !s.rowBypass r || (s.rowPriv r && bit (s.pctxCtrl c) 28)

/-- The state a row starts in: PARKED while Bus Master Enable is clear. -/
def State.rowStarted (s : State) (x : Row) : Row :=
  if s.bme then { x with state := .active } else { x with state := .parked, before := .active }

/-- The descriptor of a direct transfer (R537). -/
def State.directDesc (s : State) (r : Nat) : Desc :=
  let c := s.rg (Rg.row r 0x18)
  let g := s.rg (Rg.row r 0x20)
  { opcode := 1, ro := bit c 22, abort := bit c 23, signalEn := bit c 24, signalStake := fld g 15 0, signalValue := fld g 63 32,
    body := natLe 8 (s.rg (Rg.row r 0)) ++ natLe 8 (s.rg (Rg.row r 8)) ++ natLe 4 (s.rg (Rg.row r 0x10) % 2 ^ 32)
      ++ natLe 1 (fld c 7 0) ++ natLe 1 (fld c 9 8) ++ natLe 1 (fld c 15 10) ++ natLe 1 (fld c 19 16 + 16 * fld c 21 20)
      ++ natLe 8 0 }

/-- ROW_CTRL.GO (R537). -/
def State.goOp (s : State) (r : Nat) (rid : Half) : State :=
  let x := s.row r
  if s.rowOwner r != 1 || !(x.state == .idle) then s.valueErr (Rg.row r 0x38) 8 rid
  else if !s.bindOk r then s.setRow r { x with code := 0x21 }
  else
    let d := s.directDesc r
    let c := s.drillCheck d (s.harrowSlot d.xform)
    let y : Xfer :=
      { id := x.nextId, src := .direct, d := d, harrow := (if d.harrowEn then s.harrowSlot d.xform else []),
        pasid := s.rowPasid r, priv := s.rowPriv r, bypass := s.rowBypass r,
        tile := fld (s.rg Rg.platCtrl) 4 0, tiles := fld (s.rg Rg.platCtrl) 12 8,
        finished := if c = 0 then none else some (c, 0) }
    (s.setRow r (s.rowStarted { x with xfers := [y], nextId := x.nextId + 1, pos := none, delivered := 0 })).settle r

/-- ROW_CTRL.CHAIN_GO (R539). -/
def State.chainGoOp (s : State) (r : Nat) (rid : Half) : State :=
  let x := s.row r
  if s.rowOwner r != 1 || !(x.state == .idle) then s.valueErr (Rg.row r 0x38) 8 rid
  else if !s.bindOk r then s.setRow r { x with code := 0x21 }
  else
    let a := s.rg (Rg.row r 0x30) / 64 * 64
    (s.setRow r (s.rowStarted { x with hasChain := true, chainNext := some a, linkAt := none, pos := some a, delivered := 0,
                                       kick := false })).settle r

/-- Nothing of a row is in flight. -/
def State.rowDrained (s : State) (r : Nat) : Bool :=
  s.rowTags r == 0 && s.fab.reqs.all (fun q => match q.owner with | .row k _ _ _ => k != r | _ => true)

/-- A STOPPING owned row that has drained goes to ERROR with ROW_STOPPED; its front entry fails with that code. -/
def State.stopDrained (s : State) (r : Nat) : State :=
  let x := s.row r
  if !(x.state == .stopping) || s.rowOwner r != 1 || !s.rowDrained r then s
  else match x.xfers with
    | y :: _ => (s.leaveOwned r y 0x100).1
    | [] => s.rowError r 0x100 none

/-- ROW_CTRL.STOP (R559): an owned row only. -/
def State.stopOp (s : State) (r : Nat) : State :=
  let x := s.row r
  if s.rowOwner r != 1 then s
  else match x.state with
    | .chainEnd => s.setRow r { x with state := .idle, hasChain := false, linkAt := none, kick := false }
    | .active => (s.setRow r { x with state := .stopping }).stopDrained r
    | .parked => (s.setRow r { x with state := .stopping }).stopDrained r
    | _ => s

/-- ROW_CTRL.CLEAR (R559). -/
def State.clearOp (s : State) (r : Nat) : State :=
  let x := s.row r
  if x.state == .error then s.setRow r { x with state := .idle } else s

/-- ROW_KICK (R540). -/
def State.kickOp (s : State) (r : Nat) (rid : Half) : State :=
  let x := s.row r
  match x.state with
  | .chainEnd => (s.setRow r { x with state := .active, chainNext := x.linkAt }).settle r
  | .active | .parked | .stopping =>
    if x.hasChain then s.setRow r { x with kick := true } else s.valueErr (Rg.row r 0x40) 8 rid
  | _ => s.valueErr (Rg.row r 0x40) 8 rid

/-- A write of ROW_CTRL. -/
def State.writeRowCtrl (s : State) (r val : Nat) (rid : Half) : State :=
  let s := if bit val 3 then s.clearOp r else s
  let s := if bit val 2 then s.stopOp r else s
  if bit val 0 then s.goOp r rid else if bit val 1 then s.chainGoOp r rid else s

/-- A write of ROW_BIND (R529). -/
def State.writeRowBind (s : State) (r val : Nat) (rid : Half) : State :=
  let v := val % 2 ^ 24
  if !((s.row r).state == .idle) || s.rowOwner r == 2 || 2 ≤ fld v 23 22 then s.valueErr (Rg.row r 0x28) 8 rid
  else s.setRg (Rg.row r 0x28) v

/-- A write of a direct register or ROW_CHAIN: only while IDLE (R537), and no reserved space (R5, R535). -/
def State.writeRowDirect (s : State) (r off val : Nat) (rid : Half) : State :=
  if !((s.row r).state == .idle) || (off = 0x18 && (5 < fld val 3 0 || 5 < fld val 7 4)) then s.valueErr (Rg.row r off) 8 rid
  else
    let v := match off with
      | 0x10 => val % 2 ^ 32
      | 0x18 => val % 2 ^ 25
      | 0x20 => val &&& 0xFFFFFFFF0000FFFF
      | 0x30 => val / 64 * 64
      | _ => val
    s.setRg (Rg.row r off) v

/-- A write of ROW_QUOTA (R543, R575). -/
def State.writeRowQuota (s : State) (r val : Nat) (rid : Half) : State :=
  let a := Rg.row r 0x60
  let v := val &&& 0x7FF0FFF0FFF
  let sum := s.reserves - fld (s.rg a) 11 0 + fld v 11 0
  if 2048 < sum || fld v 27 16 < 1 || 2048 < fld v 27 16 || fld v 42 32 < 1 || 1912 < fld v 42 32 then s.valueErr a 8 rid
  else s.setRg a v

/-- A write of STILE_RX. -/
def State.writeStileRx (s : State) (val : Nat) (rid : Half) : State :=
  let v := val &&& 0xFFF0FFF
  let sum := s.reserves - fld (s.rg Rg.stileRx) 11 0 + fld v 11 0
  if 2048 < sum || fld v 27 16 < 1 || 2048 < fld v 27 16 then s.valueErr Rg.stileRx 8 rid else s.setRg Rg.stileRx v

/-- A write of DRILL_TAGS. -/
def State.writeDrillTags (s : State) (val : Nat) (rid : Half) : State :=
  let v := val % 256
  if v < 1 || 128 < v then s.valueErr Rg.drillTags 8 rid else s.setRg Rg.drillTags v

/-- A write of a Harrow slot register: values out of range are stored (R576). -/
def State.writeHarrow (s : State) (k off val : Nat) : State :=
  let m := match off with
    | 0 => 0xF077F0F
    | 0x08 => 0xFFFFFFFF001FFFFF
    | 0x20 => 0xFFFFFFFF001FFFFF
    | _ => 2 ^ 48 - 1
  s.setRg (Rg.harrow k off) (val &&& m)

/-- GO. -/
def execRowGo (row : Fin 64) (rid : Half) (s : State) : Out := .next (s.goOp row rid)
/-- CHAIN_GO. -/
def execChainGo (row : Fin 64) (rid : Half) (s : State) : Out := .next (s.chainGoOp row rid)
/-- STOP. -/
def execRowStop (row : Fin 64) (s : State) : Out := .next (s.stopOp row)
/-- CLEAR. -/
def execRowClear (row : Fin 64) (s : State) : Out := .next (s.clearOp row)
/-- ROW_KICK. -/
def execRowKick (row : Fin 64) (rid : Half) (s : State) : Out := .next (s.kickOp row rid)
/-- ROW_BIND_WRITE. -/
def execRowBindWrite (row : Fin 64) (val : Word) (rid : Half) (s : State) : Out := .next (s.writeRowBind row val.toNat rid)
/-- QUOTA_WRITE. -/
def execQuotaWrite (row : Option (Fin 64)) (val : Word) (rid : Half) (s : State) : Out :=
  match row with
  | some r => .next (s.writeRowQuota r val.toNat rid)
  | none => .next (s.writeStileRx val.toNat rid)

/-- The entries of a chain read, or its failure (R539). -/
def State.chainDone (s : State) (r a : Nat) (data : Option (List Byte)) : State :=
  let x := s.row r
  let s := s.setRow r { x with chainBusy := false }
  if !x.hasChain || x.chainNext != some a then s
  else match data with
    | some bs => (acceptEntries 8 s r a bs).settle r
    | none =>
      let y : Xfer := { id := x.nextId, src := .chain a, d := {}, finished := some (0x101, a) }
      (s.setRow r { s.row r with xfers := x.xfers ++ [y], nextId := x.nextId + 1, chainNext := none }).settle r

/-- CHAIN_ENTRIES_RECEIVED. -/
def execChainEntriesReceived (tag : Nat) (data : Option (List Byte)) (s : State) : Out :=
  match s.tagUse tag with
  | some u =>
    match u.owner with
    | .chain r a =>
      if u.quar == .no then .next ((s.freeTagUse tag).chainDone r a data) else .next (s.lateCompletion u true)
    | _ => .next s
  | none => .next s

end Sys2Proof.Machine
end

