-- ==== Sys2Proof/Machine/PlotBase.lean ====
section
/-! DEFINITION. The end of a program on a plot, by its END, by a failure or by a halt (R588-R590), and the withdrawal of
feed requests (R553). -/

namespace Sys2Proof.Machine

/-- The tilth of a plot as an engine reaches it: fenced, waking, or ready (R75, R132). -/
inductive TilthAns where
  | ready | waits | fenced
  deriving DecidableEq, Repr

/-- An access to a plot's tilth: a gated plot is asked to wake. -/
def State.reachTilth (s : State) (p : Nat) : State × TilthAns :=
  let x := s.plot p
  if x.state == .fenced then (s, .fenced)
  else if x.ready then (s.modPlot p (fun y => { y with idleSince := s.now }), .ready)
  else (s.askPlot p, .waits)

/-- The layout of PLOT_ARITH (R629), and the OR of two sets of flags. -/
def Arith.bits (a : Arith) : Nat :=
  b2n a.inexact + 2 * b2n a.ovf + 4 * b2n a.nan + 8 * b2n a.intSat + 16 * b2n a.fp8Sat + 32 * b2n a.oob + 64 * b2n a.trunc
def Arith.or (a b : Arith) : Arith :=
  { inexact := a.inexact || b.inexact, ovf := a.ovf || b.ovf, nan := a.nan || b.nan, intSat := a.intSat || b.intSat,
    fp8Sat := a.fp8Sat || b.fp8Sat, oob := a.oob || b.oob, trunc := a.trunc || b.trunc }

/-- Withdraw the newest outstanding request of a feed (R553): one for which a read was issued is held in the Hopper. -/
def State.withdrawNewest (s : State) (p ch : Nat) : State :=
  let f := s.feed p ch
  match f.reqs.getLast? with
  | none => s
  | some (_, _, started) =>
    let s := s.setFeed p ch { f with reqs := f.reqs.dropLast }
    let s := if f.reqs.length = 1 && (s.plot p).feedWait == some ch then s.modPlot p (fun y => { y with feedWait := none }) else s
    if !started then s
    else
      match f.bound with
      | none => s
      | some (r, id) =>
        let begun (x : Xfer) : Bool := decide (x.reqRead < x.readPos)
        let s := if (s.row r).xfers.any (fun x => x.id == id && begun x) then s.bump O.feedWithdrawn else s
        s.setRow r { s.row r with xfers := (s.row r).xfers.map (fun x =>
          if x.id == id then { x with pressAuth := x.pressPos, readAuth := (if begun x then x.readAuth else x.readPos) } else x) }

/-- Withdraw every request of a plot's feeds. -/
def State.withdrawFeeds (s : State) (p : Nat) : State :=
  s.each (List.range 4) (fun s ch => s.each (List.range 4) (fun s _ => s.withdrawNewest p ch))

/-- A program leaves its plot (R588, R590): waits and feed requests are withdrawn, signals not yet registered dropped,
its flags go into PLOT_ARITH; tilth keeps its contents. -/
def State.leavePlot (s : State) (p : Nat) : State :=
  let s := s.withdraw (fun w => match w with | .plot k _ => k == p | _ => false)
  let s := s.withdrawFeeds p
  let s := { s with fab := { s.fab with ordered := s.fab.ordered.filter (fun m => !(m.owner == FabOwner.plotSignal p)) } }
  let s := s.leaveFaults (fun st => st == Stream.gleaner p)
  s.modPlot p (fun x => { x with
    state := (match x.state with | .gated => .gated | .waking => .waking | .fenced => .fenced | _ => .idle),
    arith := x.arith.or x.flags,
    mask := 0, gbuf := [], waitAt := none, slots := [], loops := [], stalledStake := false, stalledFeed := false, feedWait := none, ended := none,
    idleSince := s.now })

/-- A program fails on its plot, at an address: issue stops, the failing command stays in PLOT_PC, and the first failure stands
(R589). -/
def State.failPlotAt (s : State) (p code addr : Nat) : State :=
  s.modPlot p (fun x => if x.ended.isSome then x else { x with ended := some code, endAddr := addr })

/-- A program fails on its plot for want of no address. -/
def State.failPlot (s : State) (p code : Nat) : State := s.failPlotAt p code 0

/-- The program of a descriptor ends on a plot with a code, after an access to an address that failed: the descriptor keeps the first
failure, the flags and the poison of its plots. -/
def State.endPlot (s : State) (p code addr : Nat) : State :=
  let x := s.plot p
  let s := s.modSlot x.furrow x.seq (fun y =>
    if bit y.endMask p then y
    else { y with endMask := y.endMask + 2 ^ p, endCode := (if codeOk y.endCode then code else y.endCode),
                  endAddr := (if codeOk y.endCode then addr else y.endAddr),
                  endFlags := y.endFlags ||| x.flags.bits, endPoison := y.endPoison || x.poisoned })
  let s := s.modPlot p (fun y => { y with lastCode := code })
  s.leavePlot p

/-- A plot runs a program: loading, scrubbing, running or waiting for its wake with the program claimed. -/
def Plot.busy (p : Plot) : Bool :=
  p.mask != 0 && (p.state == .loading || p.state == .scrubbing || p.state == .running || p.state == .halting || p.state == .waking || p.state == .gated)

/-- The plots a descriptor's program is still on. -/
def State.plotsOf (s : State) (n q : Nat) : List Nat :=
  match s.slot n q with
  | some y => (List.range 16).filter (fun p => bit y.d.plotMask p && !bit y.endMask p && (s.plot p).furrow == n && (s.plot p).seq == q)
  | none => []

/-- Halt a descriptor's program on every plot it is still on. -/
def State.haltProgram (s : State) (n q code : Nat) (addr : Nat := 0) : State := s.each (s.plotsOf n q) (fun s p => s.endPlot p code addr)

end Sys2Proof.Machine
end

