-- ==== Sys2Proof/Machine/Furrow.lean ====
section
/-! DEFINITION. Furrows: context registers, doorbells, fetching, acceptance, start and completion of descriptors
(R335-R385), and the host's stake operations (R397-R407). -/

namespace Sys2Proof.Machine

/-! ### Context registers (R338, R383) -/

/-- The ring or record log2 encodings that are not reserved. -/
def log2Ok (l : Nat) : Bool := l == 0 || (decide (4 ≤ l) && decide (l ≤ 16))

/-- A write of a context register: only while DISABLED, reserved encodings not accepted. -/
def State.writeFctx (s : State) (n reg val : Nat) (rid : Half) : State :=
  let a := Rg.fctx n (8 * reg)
  let bad := s.valueErr a 8 rid
  if !((s.fur n).state == .disabled) then bad
  else match reg with
    | 0 => if log2Ok (fld val 4 0) then s.setRg a (val / 4096 * 4096 + fld val 4 0) else bad
    | 1 => s.setRg a (val % 2 ^ 23)
    | 2 =>
      let v := val &&& 0x7F1FFF1FFF
      if fld v 12 0 < 1 || 4096 < fld v 12 0 || 4096 < fld v 28 16 || 64 < fld v 38 32 then bad else s.setRg a v
    | 3 => if log2Ok (fld val 4 0) then s.setRg a (val / 4096 * 4096 + fld val 4 0) else bad
    | 4 => s.setRg a (val / 8 * 8 + val % 2)
    | _ => s

/-! ### Doorbells (R349, R353) -/

/-- A tail doorbell: accepted where it is ahead of TAIL and leaves no more than the ring holds (R349, R371). -/
def State.tailOp (s : State) (n t : Nat) : State :=
  let s := s.bump O.doorbells
  let f := s.fur n
  let reject (s : State) : State := (s.raise Sc.furrowTail { masterKind := 2, master := n }).bump O.tailRejected
  match f.state with
  | .enabled | .error =>
    let d := (t + 2 ^ 32 - f.tail) % 2 ^ 32
    let k := (t + 2 ^ 32 - f.head) % 2 ^ 32
    if d = 0 then s
    else if k ≤ 2 ^ s.ringLog2 n && decide ((f.tail + 2 ^ 32 - f.head) % 2 ^ 32 < k) then s.setFur n { f with tail := t }
    else reject (s.setFur n { f with tailRejected := true })
  | _ => reject s

/-- An inline descriptor. -/
def State.inlineOp (s : State) (n : Nat) (data : List Byte) : State :=
  let f := s.fur n
  match f.state with
  | .enabled | .error =>
    let p := (s.stagedOf n).length
    if p < s.inlineLimit n then
      let x : Staged := { furrow := n, after := f.tail, d := parseDesc data }
      { s with g := { s.g with staging := s.g.staging ++ [x] } }.acceptAll n
    else
      let q := (f.seq + (f.tail + 2 ^ 32 - f.head) + p) % 2 ^ 32
      ((s.raise Sc.furrowInline { masterKind := 2, master := n }).bump O.inlineDiscarded).furrowFail n 0xD0 q
  | _ => ((s.setFur n { f with inlineRejected := true }).raise Sc.furrowInline { masterKind := 2, master := n }).bump O.inlineDiscarded

/-- DB_TAIL. -/
def execDbTail (n : Fin 4096) (tail : Word32) (rid : Half) (s : State) : Out :=
  let k := s.admitReq .doorbell true { off := n.val * 0x1000, addr := s.barAt 0x018 + n.val * 0x1000, len := 4, rid := rid, data := natLe 4 tail.toNat }
  .next (if k.2 then k.1.tailOp n tail.toNat else k.1)
/-- DB_INLINE. -/
def execDbInline (n : Fin 4096) (data : List Byte) (rid : Half) (s : State) : Out :=
  let r : MemReq := { off := n.val * 0x1000 + 0x800, addr := s.barAt 0x018 + n.val * 0x1000 + 0x800, len := data.length, rid := rid, data := data }
  let k := s.admitReq .doorbell true r
  .next (if !k.2 then k.1 else if data.length = 64 then k.1.inlineOp n data else k.1.mmioErr .shape .doorbell true r)

/-! ### Fetching (R351, R352) -/

/-- The first number of a rising list after `last`, else the first. -/
def takeTurn (l : List Nat) (last : Nat) : Option Nat :=
  match l.find? (fun k => decide (last < k)) with
  | some k => some k
  | none => l.head?

/-- Where the next ring read of a furrow begins, and how many published entries lie there in a row that have yet to be read: those of
a failed read first (R352). -/
def State.fetchFrom (s : State) (n : Nat) : Nat × Nat :=
  let f := s.fur n
  match f.gaps with
  | g :: _ => g
  | [] =>
    let start := (f.head + f.fetching) % 2 ^ 32
    (start, (f.tail + 2 ^ 32 - start) % 2 ^ 32)

/-- Entries that the next ring read of a furrow would take; 0 where it is not eligible. -/
def State.fetchSize (s : State) (n : Nat) : Nat :=
  let f := s.fur n
  if !(f.state == .enabled || f.state == .draining) then 0
  else
    let g := s.fetchFrom n
    let ahead (i : Nat) : Nat := (i + 2 ^ 32 - f.head) % 2 ^ 32
    let before := ((s.stagedOf n).filter (fun x => decide (ahead x.after ≤ ahead g.1))).length
    min (min g.2 (s.slotRoom n true - before)) (min (min 64 (s.maxRead / 64)) (2 ^ s.ringLog2 n - g.1 % 2 ^ s.ringLog2 n))

/-- Those of a list with the highest priority. -/
def highest (l : List Nat) (p : Nat → Nat) : List Nat :=
  let m := (l.map p).foldl max 0
  l.filter (fun k => p k == m)

/-- A ring read of k entries from an index on has been issued. -/
def Furrow.fetched (f : Furrow) (k : Nat) : Furrow :=
  match f.gaps with
  | g :: gs => { f with gaps := (if g.2 ≤ k then [] else [((g.1 + k) % 2 ^ 32, g.2 - k)]) ++ gs }
  | [] => { f with fetching := f.fetching + k }

/-- RING_FETCH (R351): highest priority first, equal priorities in turn. -/
def execRingFetch (s : State) : Out :=
  if s.fetchTags.2 ≤ s.fetcherTags then .next s
  else match takeTurn (highest (s.furrowsOn.filter (fun n => decide (0 < s.fetchSize n))) s.prioOf) s.g.lastFetch with
    | none => .next s
    | some n =>
      let k := s.fetchSize n
      let start := (s.fetchFrom n).1
      match (if s.hopperFree (64 * k) then s.request { kind := .memRead, addr := s.ringBase n + start % 2 ^ s.ringLog2 n * 64,
                                                       len := 64 * k, owner := .furrowRing n start k } else none) with
      | none => .next s
      | some t =>
        let s := t.2.setFur n ((t.2.fur n).fetched k)
        .next { s with g := { s.g with lastFetch := n } }

/-- A ring read completes: its entries are accepted in their turn; those of a furrow that has left service are not executed. -/
def State.ringDone (s : State) (n start k : Nat) (data : List Byte) : State :=
  let f := s.fur n
  match f.state with
  | .enabled | .draining | .error => (s.setFur n { f with early := f.early ++ [(start, k, data)] }).acceptAll n
  | _ => s

/-- The ring reads of a furrow are abandoned: those that have not left are withdrawn, and what the others bring is discarded (R365). -/
def State.dropRing (s : State) (n : Nat) : State :=
  let mine (o : Owner) : Bool := match o with | .furrowRing m _ _ => m == n | _ => false
  let unsent := (s.host.queue.filter (fun t => mine t.owner)).map (fun t => t.tag)
  let s : State := { s with host := { s.host with
    queue := s.host.queue.filter (fun t => !mine t.owner),
    tags := (s.host.tags.filter (fun u => !(mine u.owner && unsent.contains u.tag))).map (fun u =>
      if mine u.owner then { u with owner := .deadRing n } else u) } }
  s.setFur n { s.fur n with fetching := 0, early := [], gaps := [] }

/-- A ring read of a furrow in service fails (R352): HEAD stays at its first entry, and its entries are read again after RESUME;
other reads go on.  ERR_SEQ is the SEQ that the first entry would have received. -/
def State.ringFailed (s : State) (n start k : Nat) : State :=
  let f := s.fur n
  let ahead (i : Nat) : Nat := (i + 2 ^ 32 - f.head) % 2 ^ 32
  let q := (f.seq + ahead start + ((s.stagedOf n).filter (fun x => decide (ahead x.after ≤ ahead start))).length) % 2 ^ 32
  let lower := f.gaps.filter (fun g => decide (ahead g.1 < ahead start))
  let s := s.setFur n { f with gaps := lower ++ [(start, k)] ++ f.gaps.filter (fun g => !lower.contains g) }
  (s.raise Sc.furrowRing { masterKind := 2, master := n }).furrowFail n 0xD1 q

/-- RING_ENTRIES_RECEIVED. -/
def execRingEntriesReceived (tag : Nat) (data : List Byte) (s : State) : Out :=
  match s.tagUse tag with
  | some u => if u.quar != .no then .next (match u.owner with | .furrowRing _ _ _ | .deadRing _ => s.lateCompletion u true | _ => s)
    else match u.owner with
    | .furrowRing n start k => .next ((s.freeTagUse tag).ringDone n start k data)
    | .deadRing _ => .next (s.freeTagUse tag)
    | _ => .next s
  | none => .next s
/-- RING_FAULT. -/
def execRingFault (tag : Nat) (s : State) : Out :=
  match s.tagUse tag with
  | some u => if u.quar != .no then .next (match u.owner with | .furrowRing _ _ _ | .deadRing _ => s.lateCompletion u true | _ => s)
    else match u.owner with
    | .furrowRing n st k => .next ((s.freeTagUse tag).ringFailed n st k)
    | .deadRing _ => .next (s.freeTagUse tag)
    | _ => .next s
  | none => .next s

/-- HEAD_WRITEBACK (R341): at most one of a furrow in the posted queue. -/
def execHeadWriteback (n : Fin 4096) (s : State) : Out :=
  let f := s.fur n
  if f.shadowDue && !f.shadowQueued && s.shadowEn n && !s.host.frozen && !s.host.inFlr then
    .next ((s.setFur n { f with shadowDue := false, shadowQueued := true }).post
      { kind := .memWrite, addr := s.shadowAddr n, data := natLe 4 f.head ++ natLe 4 f.tail, len := 8, owner := .shadow n })
  else .next s

/-! ### States of a furrow (R363-R366) -/

/-- The code of a refused enable, 0 where it is accepted (R356, R364, R424, R430). -/
def State.enableCheck (s : State) (n : Nat) : Nat :=
  let on := s.furrowsOn.filter (fun m => m != n)
  let ctxOk := match s.ctxOf (s.furPasid n) with
    | none => false
    | some c => (!s.furPriv n || bit (s.pctxCtrl c) 29) && (!s.furBypass n || (s.furPriv n && bit (s.pctxCtrl c) 28))
  if !ctxOk then 0xE0
  else if s.ringLog2 n = 0 then 0xE1
  else if s.storeMax n < s.storeMin n || 32768 < (on.map s.storeMin).foldl (· + ·) (s.storeMin n)
      || 4096 < (on.map s.inlineLimit).foldl (· + ·) (s.inlineLimit n) then 0xE2
  else if s.recordLog2 n != 0 && s.recordBase n = 0 then 0xE3
  else 0

/-- ENABLE written 1 (R364). -/
def State.enableOp (s : State) (n : Nat) : State :=
  let f := s.fur n
  if !(f.state == .disabled) then s
  else
    let c := s.enableCheck n
    if c != 0 then s.setFur n { f with errCode := c }
    else s.setFur n { tailRejected := f.tailRejected, inlineRejected := f.inlineRejected, shadowQueued := f.shadowQueued, state := .enabled }

/-- Cancel one descriptor of a furrow that is being disabled (R365). -/
def State.cancelSlot (s : State) (n : Nat) (x : Slot) : State :=
  if x.state == .started then
    match x.d.opcode with
    | 1 => s.each (s.drill.rows.map (fun e => e.1)) (fun s r => (s.setRow r { s.row r with xfers := (s.row r).xfers.map (fun (y : Xfer) =>
        if y.src == XferFrom.furrow n x.seq && y.finished.isNone then { y with finished := some (0x90, 0) } else y) }).stopPool r)
    | 2 => s.haltProgram n x.seq 0x90
    | _ => s
  else
    let s := s.withdraw (fun w => match w with | .desc m q => m == n && q == x.seq | .armed m q => m == n && q == x.seq | _ => false)
    let s := s.leaveFaults (fun st => st == Stream.sow n x.seq)
    let s := s.modSlot n x.seq (fun y => { y with result := some (0x90, 0, 0), d := { y.d with abort := true },
                                                   wait := none })
    s.cancelTry n x.seq

/-- ENABLE written 0 (R365): what has a slot is cancelled, and staged descriptors are as slots become free. -/
def State.disableOp (s : State) (n : Nat) : State :=
  match (s.fur n).state with
  | .enabled | .draining | .error =>
    let s := s.dropRing n
    let s := s.setFur n { s.fur n with state := .disabling }
    (s.each (s.slotsOf n) (fun s x => s.cancelSlot n x)).settleStakes
  | _ => s

/-- The furrow still has a ring read, a record or a stamp on its way: its ring and record area are accessed (R365; log entry 164). -/
def State.furrowBusy (s : State) (n : Nat) : Bool :=
  let mine (o : Owner) : Bool := match o with | .stamp m _ => m == n | .record m _ => m == n | _ => false
  (s.host.queue ++ s.host.blocked).any (fun t => mine t.owner) || s.coh.stores.any (fun w => mine w.1) || s.host.tags.any (fun u => u.owner == .deadRing n && u.quar == .no)

/-- Every descriptor of a DISABLING furrow is DONE, and what it sent has left. -/
def State.disabledOp (s : State) (n : Nat) : State :=
  if (s.fur n).state == .disabling && (s.slotsOf n).isEmpty && (s.stagedOf n).isEmpty && !s.furrowBusy n then
    s.setFur n { s.fur n with state := .disabled }
  else s

/-- DRAIN (R363). -/
def State.drainOp (s : State) (n : Nat) : State :=
  let f := s.fur n
  if f.state == .enabled then s.setFur n { f with state := .draining, drainTail := f.tail } else s

/-- RESUME (R366). -/
def State.resumeOp (s : State) (n : Nat) : State :=
  let f := s.fur n
  if f.state == .error then s.setFur n { f with state := .enabled } else s

/-- PRIO (R367). -/
def State.prioOp (s : State) (n p : Nat) : State := s.setRg (Rg.fctx n 0x28) (p % 8 * 256 + s.rg (Rg.fctx n 0x28) % 2)

/-- ENABLE as it is written last (R383, R6); it acts on the furrow (R363). -/
def State.enableBit (s : State) (n : Nat) (on : Bool) : State :=
  let s := s.setRg (Rg.fctx n 0x28) (setBit (s.rg (Rg.fctx n 0x28)) 0 on)
  if !on then s.disableOp n else if (s.fur n).state == .disabled then s.enableOp n else s

/-- A write of FCTX_CTRL (R383). -/
def State.writeFctxCtrl (s : State) (n val : Nat) : State :=
  let was := (s.fur n).state
  let s := (s.prioOp n (fld val 10 8)).enableBit n (bit val 0)
  if !bit val 0 || was == .disabled then s
  else
    let s := if bit val 1 then s.drainOp n else s
    if bit val 2 then s.resumeOp n else s

/-- FURROW_ENABLE. -/
def execFurrowEnable (n : Fin 4096) (s : State) : Out := .next (s.enableBit n true)
/-- FURROW_DISABLE. -/
def execFurrowDisable (n : Fin 4096) (s : State) : Out := .next (s.enableBit n false)
/-- FURROW_DISABLED. -/
def execFurrowDisabled (n : Fin 4096) (s : State) : Out := .next (s.disabledOp n)
/-- DRAIN. -/
def execDrain (n : Fin 4096) (s : State) : Out := .next (s.drainOp n)
/-- DRAIN_COMPLETE: every entry below the drain tail is complete. -/
def execDrainComplete (n : Fin 4096) (s : State) : Out :=
  let f := s.fur n
  if f.state == .draining && f.head = f.drainTail && (s.slotsOf n).isEmpty && (s.stagedOf n).isEmpty then
    .next (s.setFur n { f with state := .disabled })
  else .next s
/-- RESUME. -/
def execResume (n : Fin 4096) (s : State) : Out := .next (s.resumeOp n)
/-- PRIO. -/
def execPrio (n : Fin 4096) (prio : Fin 8) (s : State) : Out := .next (s.prioOp n prio)
/-- FCTX_WRITE. -/
def execFctxWrite (n : Fin 4096) (reg : Fin 5) (val : Word) (rid : Half) (s : State) : Out :=
  .next (s.writeFctx n reg val.toNat rid)

/-- DESCRIPTOR_SOWN (R454): the last lookup resolves; a cancelled descriptor then completes. -/
def execDescriptorSown (n : Fin 4096) (seq : Nat) (s : State) : Out :=
  if (s.fur n).state == .disabling then .next (s.cancelTry n seq).settleStakes
  else if (s.sowWindow n).any (fun x => x.seq == seq) then .next (s.sowTry n seq)
  else .next s

/-- Every furrow is disabled without stamps: staging, store and their waits are gone (R305); at a release from Frozen the
descriptors that have started stay (R316). -/
def State.dropFurrows (s : State) (keepStarted : Bool := false) : State :=
  let s := s.withdraw (fun w => match w with | .desc _ _ => true | .armed _ _ => true | _ => false)
  let s := s.leaveFaults (fun st => match st with | .sow _ _ => true | _ => false)
  let s := s.each s.furrowsOn (fun s n =>
    let s := s.dropRing n
    s.setFur n { s.fur n with state := .disabled })
  { s with g := { s.g with staging := [], store := s.g.store.filter (fun x => keepStarted && x.state == .started) } }

/-! ### Start (R345, R357, R358, R398) -/

/-- The descriptor at the start point of a furrow. -/
def State.front (s : State) (n : Nat) : Option Slot :=
  (s.slotsOf n).find? (fun x => !x.passed)

/-- Descriptors of a furrow may start. -/
def State.mayStart (s : State) (n : Nat) : Bool :=
  ((s.fur n).state == .enabled || (s.fur n).state == .draining) && !s.host.frozen

/-- START_POINT_REACHED: the descriptor's failure takes effect, or it places its wait, or it stands ready; one that was recalled goes
on with the wait it has (R460). -/
def execStartPointReached (n : Fin 4096) (s : State) : Out :=
  match s.front n with
  | none => .next s
  | some x =>
    if !s.mayStart n || !(x.state == .sown) then .next s
    else match x.result with
      | some e => .next (((s.finish n x.seq e.1 e.2.1 e.2.2).settleStakes).sowAhead n)
      | none =>
        if !x.d.waitEn || x.waitMet then
          .next (s.modSlot n x.seq (fun y => { y with atStart := (match y.atStart with | some t => some t | none => some s.now) }))
        else if x.wait.isSome then .next (s.modSlot n x.seq (fun y => { y with state := .waiting }))
        else if !s.stakeOk (.furrow n) x.d.waitStake then .next (((s.finish n x.seq 0x21 0 0).settleStakes).sowAhead n)
        else
          let who : Waiter := if armedStamp x.d then .armed n x.seq else .desc n x.seq
          let t := s.modSlot n x.seq (fun y => { y with state := .waiting, wait := s.freeHandle who })
          match t.placeWait x.d.waitStake (x.d.waitCond == 1) x.d.waitValue who with
          | some u => .next (u.settleStakes.sowAhead n)
          | none => .next (if x.waitFull then s else (s.modSlot n x.seq (fun y => { y with waitFull := true })).bump O.waiterFull)

/-- The descriptor of a furrow that stands ready for an engine. -/
def State.ready (s : State) (n engine : Nat) : Option Slot :=
  match s.front n with
  | none => none
  | some x =>
    let go := x.state == .sown || (x.state == .waiting && x.waitMet)
    let first := (s.slotsOf n).head?.map (fun (y : Slot) => y.seq) == some x.seq
    if s.mayStart n && go && (!x.d.waitEn || x.waitMet) && x.result.isNone && (!x.d.barrier || first) && x.d.opcode == engine then some x
    else none

/-- Its priority in the competition, with ageing (R358). -/
def State.startPrio (s : State) (engine n : Nat) : Nat :=
  let lim := fld (s.rg Rg.furrowAge) 15 0
  match s.ready n engine with
  | some x => match x.atStart with
    | some t => if lim != 0 && lim * 1000 < s.now - t then 7 else s.prioOf n
    | none => s.prioOf n
  | none => 0

/-- The winner of the competition for an engine. -/
def State.winner (s : State) (engine : Nat) : Option (Nat × Slot) :=
  let l := s.furrowsOn.filter (fun n => (s.ready n engine).isSome)
  match takeTurn (highest l (s.startPrio engine)) (kvGet 4095 s.g.lastStart engine) with
  | some n => (s.ready n engine).map (fun x => (n, x))
  | none => none

/-- The winner is STARTED. -/
def State.markStarted (s : State) (engine n q : Nat) : State :=
  let s := s.modSlot n q (fun y => { y with state := .started, ahead := [], fails := [] })
  { s with g := { s.g with lastStart := kvPut s.g.lastStart engine n } }

/-- A NOP completes when it starts (R345). -/
def State.startNop (s : State) : State :=
  match s.winner 0 with
  | none => s
  | some (n, x) =>
    let s := (s.markStarted 0 n x.seq).half n x.seq
    ((s.finish n x.seq 0 0 0).settleStakes).sowAhead n

/-- The address that a descriptor whose target plot was reset or fenced could not access (R133, R361): the first of its ranges that
lies in tilth. -/
def doomedAddr (x : Slot) : Nat :=
  match (descRanges x.d x.harrow).find? (fun r => r.sp == 2) with | some r => r.start | none => 0

/-- The pool row that takes a descriptor (R530). -/
def State.poolRow (s : State) : Option Nat :=
  let pool := (List.range 64).filter (fun r => s.rowOwner r == 0)
  match pool.find? (fun r => (s.row r).state == .idle && s.bme) with
  | some r => some r
  | none =>
    let l := pool.filter (fun r => (s.row r).state == .active && decide ((s.row r).xfers.length < 32))
    let m := (l.map (fun r => (s.row r).xfers.length)).foldl min 32
    l.find? (fun r => (s.row r).xfers.length == m)

/-- A DRILL descriptor wins and is assigned to its row. -/
def State.startDrill (s : State) : State :=
  match s.winner 1, s.poolRow with
  | some (n, x), some r =>
    if x.doomed then (((s.markStarted 1 n x.seq).finish n x.seq 0x40 0 (doomedAddr x)).settleStakes).sowAhead n else
    let s := s.markStarted 1 n x.seq
    let row := s.row r
    let y : Xfer :=
      { id := row.nextId, finished := s.lotStart x.d x.harrow, src := .furrow n x.seq, d := x.d, harrow := x.harrow, pasid := s.furPasid n, priv := s.furPriv n,
        bypass := s.furBypass n, prio := s.prioOf n, tile := x.tile, tiles := x.tiles, ahead := x.ahead, fails := x.fails, begun := true, readAuth := (if x.d.paced then 0 else x.d.length),
        pressAuth := (if x.d.paced then 0 else x.d.length) }
    (s.setRow r { row with state := .active, xfers := row.xfers ++ [y], nextId := row.nextId + 1 }).sowAhead n
  | _, _ => s

/-- A SEED descriptor wins: the seedbank controller holds it. -/
def State.startSeed (s : State) : State :=
  match s.winner 3 with
  | some (n, x) =>
    if x.doomed then (((s.markStarted 3 n x.seq).finish n x.seq 0x40 0 (doomedAddr x)).settleStakes).sowAhead n
    else
      let live (e : Nat × Nat) : Bool := match s.slot e.1 e.2 with | some y => y.state == .started && y.result.isNone | none => false
      ((s.markStarted 3 n x.seq).setSeed (fun d => { d with order := d.order.filter live ++ [(n, x.seq)] })).sowAhead n
  | none => s

/-! ### Completion (R359) -/

/-- The row whose front transfer is a descriptor. -/
def State.rowOf (s : State) (n q : Nat) : Option (Nat × Xfer) :=
  s.drill.rows.findSome? (fun r => match r.2.xfers with
    | x :: _ => if x.src == XferFrom.furrow n q then some (r.1, x) else none
    | [] => none)

/-- The engine of a started descriptor has finished: a row's front transfer, every plot of a program (R588), or the
seedbank controller.  Its stamp and record are translated again where an invalidation dropped them (R461). -/
def State.completeOp (s : State) (n q : Nat) : State :=
  let k := s.sowTail n q
  let s := k.1
  match s.slot n q with
  | none => s
  | some x =>
    if !(x.state == .started) || k.2 then s
    else match x.d.opcode with
      | 1 => match s.rowOf n q with
        | some (r, y) => match s.outcome r y with
          | some e => (s.completeFurrow r y n q e.1 e.2).sowAhead n
          | none => s
        | none => s
      | 2 =>
        if x.endMask &&& x.d.plotMask != x.d.plotMask then s
        else
          let code := if codeOk x.endCode then b2n x.endPoison else x.endCode
          let s := if codeOk code then s.half n q else s
          ((s.finish n q code (if codeOk code then x.endFlags else 0) x.endAddr).settleStakes).sowAhead n
      | _ => match x.result with
        | some e =>
          if s.host.blocked.any (fun t => t.owner == .seed n q) then s else
          let s := if codeOk e.1 then s.half n q else s
          ((s.finish n q e.1 e.2.1 e.2.2).settleStakes).sowAhead n
        | none => s

/-- DESCRIPTOR_COMPLETE. -/
def execDescriptorComplete (n : Fin 4096) (seq : Nat) (s : State) : Out := .next (s.completeOp n seq)

/-- A half-stamp's address is translated again where an invalidation dropped it; true while that waits. -/
def State.halfTail (s : State) (n q : Nat) : State × Bool :=
  match s.slot n q with
  | some x => if x.state == .started && x.d.halfStampEn && !x.halfDone then s.sowTail n q else (s, false)
  | none => (s, false)

/-- HALF_POINT (R558, R591): the bytes delivered reach H, or every plot has executed MARK_HALF. -/
def execHalfPoint (n : Fin 4096) (seq : Nat) (s : State) : Out :=
  let k := s.halfTail n seq
  let s := k.1
  match s.slot n seq with
  | none => .next s
  | some x =>
    if !(x.state == .started) || k.2 then .next s
    else match x.d.opcode with
      | 1 => match s.rowOf n seq with
        | some (r, y) => if y.halfAt != 0 && y.halfAt ≤ s.delivered r y then .next (s.half n seq).settleStakes else .next s
        | none => .next s
      | 2 => if x.halfMask &&& x.d.plotMask = x.d.plotMask then .next (s.half n seq).settleStakes else .next s
      | _ => .next s

/-! ### Stakes: the host's operations and the deadlines -/

/-- The offset a stake register request has. -/
def State.stakeReq (s : State) (off v : Nat) : MemReq := { off := off, addr := s.barAt 0x010 + off, len := 8, data := natLe 8 v }

/-- STAKE_SET (R387, R397). -/
def execStakeSet (k : Fin 65536) (val : Word) (s : State) : Out :=
  let a := s.admitReq .control true (s.stakeReq (0x400000 + k.val * 8) val.toNat)
  .next (if a.2 then (a.1.stakeSetOp k val.toNat).settleStakes else a.1)
/-- STAKE_ADD (R387, R391, R397). -/
def execStakeAdd (k : Fin 65536) (val : Word) (s : State) : Out :=
  let a := s.admitReq .control true (s.stakeReq (0x480000 + k.val * 8) val.toNat)
  .next (if a.2 then (a.1.stakeAddOp .host k val.toNat).settleStakes else a.1)

/-- A write of STAKE_GROUP (R394, R420): MODE 3 is reserved. -/
def State.writeStakeGroup (s : State) (g val : Nat) (rid : Half) : State :=
  let v := val % 2 ^ 24
  if fld v 21 20 = 3 then s.valueErr (Rg.stakeGroup g) 8 rid else s.setRg (Rg.stakeGroup g) v

/-- STAKE_GROUP_WRITE. -/
def execStakeGroupWrite (g : Fin 1024) (val : Word) (rid : Half) (s : State) : Out := .next (s.writeStakeGroup g val.toNat rid)

/-- A wait ends by timeout or cancel (R406).  A recalled descriptor fails once its stamp and record addresses are settled. -/
def State.endWait (s : State) (w : Wait) : State :=
  let ended (s : State) (n q : Nat) : State :=
    if s.waits n q then s.finish n q 0x80 0 0
    else s.modSlot n q (fun x => { x with wait := none, result := (if x.result.isSome then x.result else some (0x80, 0, 0)) })
  let s := { s with g := { s.g with waits := s.g.waits.filter (fun x => x.handle != w.handle),
                                     toQueue := s.g.toQueue.filter (fun h => h != w.handle) } }
  match w.who with
  | .desc n q => ended s n q
  | .armed n q => ended s n q
  | .plot p _ => s.modPlot p (fun x => if x.ended.isSome then x else { x with ended := some 0x80 })
  | .chain r =>
    let s := s.setRow r { s.row r with xfers := match (s.row r).xfers with
      | [] => []
      | x :: xs => { x with finished := some (0x80, 0) } :: xs }
    s.settle r

/-- STAKE_DEADLINE_CHECK (R405-R408). -/
def execStakeDeadlineCheck (s : State) : Out :=
  if s.val O.splitStakeTo = 0 then
    .next (s.each s.lateWaits (fun s w => if w.queued then s.endWait w else (s.endWait w).bump O.timeouts)).settleStakes
  else .next s.queueMore

/-- STAKE_TO_NEXT as it reads, and the state after a full-width read. -/
def State.popTimeout (s : State) (full : Bool) : State × Nat :=
  match s.g.toQueue with
  | [] => (s, 0)
  | h :: hs =>
    let s' := if full then ({ s with g := { s.g with toQueue := hs } } : State).queueMore else s
    match s.g.waits.find? (fun w => w.handle == h) with
    | none => (s', 0)
    | some w =>
      let k : Nat × Nat := match w.who with | .desc n _ => (0, n) | .armed n _ => (1, n) | .plot p _ => (2, p) | .chain r => (0, r)
      (s', w.stake + 2 ^ 16 + k.1 * 2 ^ 17 + b2n w.equal * 2 ^ 19 + k.2 * 2 ^ 20 + h * 2 ^ 32 + kvGet 0 s.g.waitGen h * 2 ^ 48)

/-- STAKE_WAIT_CANCEL (R407). -/
def State.cancelWait (s : State) (h gen : Nat) : State :=
  match s.g.waits.find? (fun w => w.handle == h) with
  | some w => if kvGet 0 s.g.waitGen h = gen then (s.endWait w).settleStakes.queueMore else s
  | none => s

/-- STAKE_WAIT_CANCEL. -/
def execStakeWaitCancel (handle : Fin 16384) (gen : Half) (s : State) : Out := .next (s.cancelWait handle gen.toNat)

end Sys2Proof.Machine
end

