-- ==== Sys2Proof/Machine/Coh.lean ====
section
/-! DEFINITION. The coherent windows, CXL.mem and the device coherent cache (R508-R516, R527). -/

namespace Sys2Proof.Machine

/-- CXL.cache and CXL.mem are enabled (R241, R508). -/
def State.cxlOn (s : State) : Bool := s.link.up && s.link.protocol == 1

/-- Track a line that the host may hold from now on. -/
def State.track (s : State) (line : Nat) (modified : Bool) : State :=
  { s with coh := { s.coh with snoopFilter := kvPut s.coh.snoopFilter line modified } }

/-- The host holds a line no longer. -/
def State.untrack (s : State) (line : Nat) : State :=
  { s with coh := { s.coh with snoopFilter := kvErase s.coh.snoopFilter line } }

/-- Answer a CXL.mem request or a host snoop. -/
def State.cxlAnswer (s : State) (r : CxlRsp) : State := { s with coh := { s.coh with rsp := s.coh.rsp ++ [r] } }

/-- Entries of the snoop filter. -/
abbrev sfSize : Nat := 4194304

/-- Serve a CXL.mem request (R508, R511): beyond the committed size no decoder covers it; a new line of a coherent
window that finds the snoop filter full waits for a victim of its own, and one to an acre still scrub pending waits for the snoops
of that scrub (R512). -/
def State.cxlServe (s : State) (q : CxlReq) : State :=
  let a := q.line * 64
  if s.coh.hdmSize ≤ a then s.cxlAnswer { line := q.line, uncovered := true }
  else
    let cov := (s.cohWindowOf a).isSome
    if cov && !s.tracked q.line && (!q.write || q.keeps) && sfSize ≤ s.coh.snoopFilter.length then
      let s := match s.coh.snoopFilter.find? (fun v => !s.snooped v.1 && decide (((s.coh.outstanding.filter (fun o => o.inv)).map (fun o => o.left.length)).sum ≤ s.coh.waiting.length)) with
        | some v =>
          let t := s.snoops [v.1] true
          if s.coh.outstanding.length < t.coh.outstanding.length then t.bump O.sfEvictions else t
        | none => s
      { s with coh := { s.coh with waiting := s.coh.waiting ++ [q] } }
    else if s.scrubHeld (a / acreBytes) then
      let s := s.snoops s.coh.scrubbing true
      { s with coh := { s.coh with waiting := s.coh.waiting ++ [q] } }
    else if q.write then
      let s := s.hbmWrite a (enAll q.data) q.poison
      let s := if !cov then s else if q.keeps then s.track q.line false else s.untrack q.line
      s.cxlAnswer { line := q.line }
    else
      let r := s.hbmRead a 64
      let s := if cov then r.1.track q.line true else r.1
      s.cxlAnswer { line := q.line, data := r.2.1, poison := r.2.2 }

/-- A CXL.mem request that the host face does not serve: a read returns poison, a write is discarded, completed. -/
def State.cxlRefuse (s : State) (q : CxlReq) : State := s.cxlAnswer { line := q.line, poison := !q.write }

/-- A CXL.mem request as a request of the hold buffer: a read is non-posted, a write posted. -/
def CxlReq.req (q : CxlReq) : MemReq := { off := q.line * 64, len := 64 }

/-- A CXL.mem request once GCORE is ready: refused in Frozen and in D3hot, and before Tilled as the aperture window is
(log entry 121); one behind a held one waits. -/
def State.cxlNow (s : State) (q : CxlReq) : State :=
  if s.host.frozen || !(s.host.power == .d0) then (s.frozenDiscardOp .aperture q.write q.req).cxlRefuse q
  else if s.pwr.mode == .starting then
    if q.write then (s.mmioErr .early .aperture true q.req).cxlRefuse q else s.cxlAnswer { line := q.line, data := List.replicate 64 0 }
  else s.cxlServe q

/-- A CXL.mem request of the host (R508, R512, R71-R73): it wakes the module and is held, or is refused. -/
def State.cxlRequest (s : State) (q : CxlReq) : State :=
  if !s.cxlOn then s
  else match s.pwr.mode with
    | .off => s
    | .fallow | .entering =>
      if bit (s.val O.fallowWakeMask) 0 then (s.holdRequest .aperture q.write q.req (some q)).wakeEvent
      else (s.noteRefused .aperture q.write q.req).cxlRefuse q
    | .waking => s.holdRequest .aperture q.write q.req (some q)
    | .starting => if s.gateReady then s.cxlNow q else s.holdRequest .aperture q.write q.req (some q)
    | .up => s.cxlNow q

/-- CXL_MEM_READ. -/
def execCxlMemRead (line : Nat) (s : State) : Out := .next (s.cxlRequest { line := line, write := false })
/-- CXL_MEM_WRITE. -/
def execCxlMemWrite (line : Nat) (data : List Byte) (poison keeps : Bool) (s : State) : Out :=
  .next (s.cxlRequest { line := line, write := true, data := data.take 64, poison := poison, keeps := keeps })

/-- The tracked lines of a coherent window. -/
def State.windowLines (s : State) (k : Nat) : List Nat :=
  let w := s.rg (Rg.cohWindow k)
  (s.coh.snoopFilter.filter (fun e => decide (fld w 12 0 ≤ e.1 * 64 / acreBytes) && decide (e.1 * 64 / acreBytes < fld w 12 0 + fld w 28 16))).map (fun e => e.1)

/-- A window whose VALID is being cleared: BISnpInv for what is tracked; the clear takes effect once it is sent for every line
(R510). -/
def State.cohChange (s : State) (k : Nat) : State :=
  let s := s.snoops (s.windowLines k) true
  if (s.windowLines k).all (fun g => s.coh.outstanding.any (fun o => o.inv && o.left.contains g)) then
    let s := s.setRg (Rg.cohWindow k) (setBit (s.rg (Rg.cohWindow k)) 63 false)
    { s with coh := { s.coh with changing := s.coh.changing.filter (fun j => j != k) } }
  else s

/-- The snoops that a scrub and windows being cleared still need; then writes to HBM and requests that waited go on. -/
def State.cohGo (s : State) : State :=
  let s := s.snoops s.coh.scrubbing true
  let s := (s.each s.coh.changing (fun s k => s.cohChange k)).cohStores
  let w := s.coh.waiting
  let s' : State := { s with coh := { s.coh with waiting := [] } }
  s'.each w (fun s q => s.cxlServe q)

/-- The host's answer to a snoop for a line (R509): its data goes to HBM, then windows being cleared, scrubs and requests that
waited for room in the snoop filter go on. -/
def State.bisnpDone (s : State) (line : Nat) (data : Option (List Byte)) : State :=
  match s.coh.outstanding.find? (fun o => o.left.contains line) with
  | none => s
  | some o =>
    let left := (s.coh.outstanding.map (fun (x : Snoop) => { x with left := x.left.filter (fun g => g != line) })).filter (fun x => !x.left.isEmpty)
    let s := { s with coh := { s.coh with outstanding := left } }
    let s := match data with
      | some d => if s.coh.scrubbing.contains line then s else s.hbmWrite (line * 64) (enAll (d.take 64))
      | none => s
    let s : State := if o.inv then { s with coh := { s.coh with scrubbing := s.coh.scrubbing.filter (fun l => l != line) } } else s
    (if o.inv then s.untrack line else if s.tracked line then s.track line false else s).cohGo

/-- A write of COH_WINDOW[k] (R510, R527). -/
def State.writeCohWindow (s : State) (k val : Nat) (rid : Half) : State :=
  let a := Rg.cohWindow k
  let v := val &&& (2 ^ 63 + 0x1FFF1FFF)
  if bit (s.rg a) 63 then
    if bit v 63 then s.valueErr a 8 rid
    else
      let s' : State := { s with coh := { s.coh with changing := s.coh.changing.filter (fun j => j != k) ++ [k] } }
      (s'.cohChange k).cohStores
  else if hbmAcres ≤ fld v 12 0 || hbmAcres < fld v 12 0 + fld v 28 16 || (bit v 63 && fld v 28 16 = 0) then s.valueErr a 8 rid
  else s.setRg a v

/-- COH_WINDOW_WRITE. -/
def execCohWindowWrite (k : Fin 16) (val : Word) (rid : Half) (s : State) : Out := .next (s.writeCohWindow k val.toNat rid)

/-- HOST_SNOOP (R516): answered in every host-face state, with data for a modified line. -/
def execHostSnoop (line : Nat) (inv : Bool) (s : State) : Out :=
  if !s.cxlOn then .next s
  else
    let hit := s.coh.dcc.find? (fun e => e.1 == line)
    let left := if inv then s.coh.dcc.filter (fun e => e.1 != line)
      else s.coh.dcc.map (fun e => if e.1 == line then (e.1, false, e.2.2) else e)
    let s : State := { s with coh := { s.coh with dcc := left } }
    .next (s.cxlAnswer { line := line, data := (match hit with | some (_, true, d) => d | _ => []) })

/-- Write back every modified line of the device coherent cache and invalidate all; lost where the link cannot carry
the write-backs (R516). -/
def State.flushDcc (s : State) (reachable : Bool) : State :=
  let s := s.each (s.coh.dcc.filter (fun e => e.2.1)) (fun s e =>
    if reachable then
      let t : Tlp := { kind := .memWrite, addr := e.1 * 64, data := e.2.2, len := 64, owner := .dcc e.1 }
      let s' : State := { s with host := { s.host with wire := s.host.wire ++ [t] } }
      s'.bump O.dccWritebacks
    else s.raise Sc.dccWritebackLost { addr := some (e.1 * 64) })
  { s with coh := { s.coh with dcc := [] } }

/-- What a fundamental reset, a hot reset and DL_Down do to the coherent windows (R512). -/
def State.resetCoh (s : State) : State :=
  let s := s.each (List.range 16) (fun s k => s.setRg (Rg.cohWindow k) 0)
  let s := s.resetRegs 0x80000 0x100000
  ({ s with coh := { s.coh with snoopFilter := [], outstanding := [], changing := [], waiting := [], hdmSize := 0, scrubbing := [] } } : State).cohStores

end Sys2Proof.Machine
end

