-- ==== Sys2Proof/Machine/Fabric.lean ====
section
/-! DEFINITION. The fabric ports (R631-R639), routing (R642-R644), credits (R649), what this package sends through
stiles and what becomes of the answers, and stile receive (R652-R656). -/

namespace Sys2Proof.Machine

/-! ### Ports -/

/-- The port carries messages. -/
def Port.active (x : Port) : Bool := x.state == .up || x.state == .half

/-- This package's address. -/
def State.addr (s : State) : Nat := s.val O.pkgAddr

/-- Rack, sled and position of a package address (R145). -/
def rackOf (a : Nat) : Nat := fld a 11 6
def sledOf (a : Nat) : Nat := fld a 5 2
def posOf (a : Nat) : Nat := fld a 1 0

/-- The Tramline dies are powered and not in reset. -/
def State.dieOn (s : State) (d : Nat) : Bool := s.gcoreOn && !s.fab.dieReset.contains d

/-- The optical engine of a port is off since its trip (R93, log entry 155). -/
def State.engineOff (s : State) (p : Nat) : Bool := decide (11 ≤ p) && bit s.pwr.opticalOff (p - 11)

/-- The conditions under which a port may leave OFF (R634, R638). -/
def State.portAllowed (s : State) (p : Nat) : Bool :=
  s.val O.pkgAddrValid == 1 && s.pwr.refEver && bit (s.val O.portEnable) p && s.dieOn (portDie p)
    && (decide (p < 11) || (s.slice.state == .active && s.slice.optical.any (fun o => o.1 == p)))

/-- A marginal port (R635). -/
def Port.marginal (x : Port) : Bool := decide (x.timing < 150) || decide (x.voltage < 12)

/-- Some rack port carries messages (R661). -/
def State.rackPortsUp (s : State) : Bool := (List.range 8).any (fun k => (s.port (3 + k)).active)

/-- Keep the time since which rack ports are up. -/
def State.noteRackPorts (s : State) : State :=
  if s.rackPortsUp then
    (if s.time.portsUpAt.isSome then s else { s with time := { s.time with portsUpAt := some s.now } })
  else { s with time := { s.time with portsUpAt := none, master := false } }

/-! ### Sending -/

/-- The virtual channel of a kind (R645). -/
def msgVc : MsgKind → Nat
  | .stileWrite | .readReq | .stakeAdd | .stakeSet | .stakeRead => 0
  | .writeAck | .readRsp | .stakeAck | .stakeRsp => 1
  | _ => 2

/-- The code of a kind (R647). -/
def kindCode : MsgKind → Nat
  | .stileWrite => 1 | .writeAck => 2 | .readReq => 3 | .readRsp => 4 | .stakeAdd => 5 | .stakeSet => 6 | .stakeRead => 7
  | .stakeAck => 8 | .stakeRsp => 9 | .mgmt => 0x10 | .join => 0x11 | .joinAck => 0x12 | .heartbeat => 0x13 | .faultReport => 0x14
  | .halt => 0x15 | .memberReset => 0x16 | .powerLoss => 0x17 | .timeAnnounce => 0x20 | .timeSync => 0x21 | .timeEcho => 0x22
  | .ident => 0x30

/-- A message on the wire: the 40-byte header of R646, little-endian (R2), and the payload. -/
def wireBytes (m : Msg) : List Byte :=
  let marks := m.marks.foldl (fun v g => setBit v g true) 0
  natLe 1 (kindCode m.kind) ++ natLe 1 (b2n (!m.marks.isEmpty) + 2 * b2n m.relayed + 4 * b2n m.ordered + 8 * b2n m.broadcast)
    ++ natLe 2 m.dst ++ natLe 2 m.src ++ natLe 2 m.payload.length ++ natLe 4 m.slice ++ natLe 4 m.tag ++ natLe 2 m.window
    ++ natLe 2 m.aux ++ natLe 2 m.hop ++ natLe 2 0 ++ natLe 8 m.addr ++ natLe 8 marks ++ m.payload

/-- Credits a message takes: 64-byte units of header and payload (R649). -/
def msgUnits (m : Msg) : Nat := ((wireBytes m).length + 63) / 64

/-- Put a message on a port: it is sent where credits allow and none of its channel waits there, else it waits. -/
def State.putOn (s : State) (p : Nat) (m : Msg) : State :=
  let x := s.port p
  let vc := (msgVc m.kind)
  let have_ := x.credits.getD vc 0
  if m.kind == .ident || ((msgUnits m) ≤ have_ && s.fab.held.all (fun h => !(h.1 == p && msgVc h.2.kind == vc))) then
    let s := if m.kind == .ident then s else s.setPort p { x with credits := x.credits.set vc (have_ - (msgUnits m)) }
    let s' : State := { s with fab := { s.fab with sent := s.fab.sent ++ [(p, m)] } }
    s'.bump O.msgsTx
  else { s with fab := { s.fab with held := s.fab.held ++ [(p, m)] } }

/-- The first active rack port at or after rack port k, in ascending order mod 8. -/
def State.rackPortFrom (s : State) (k : Nat) : Option Nat :=
  ((List.range 8).map (fun i => 3 + (k + i) % 8)).find? (fun p => (s.port p).active)

/-- The rack port of a message (R644): in turn for STILE_WRITE and READ_REQ, else the destination's fixed port. -/
def State.rackPortFor (s : State) (k : MsgKind) (dst : Nat) : Option Nat :=
  match k with
  | .stileWrite => s.rackPortFrom (s.fab.turn + 1)
  | .readReq => s.rackPortFrom (s.fab.turn + 1)
  | _ => s.rackPortFrom ((sledOf dst * 4 + posOf dst) % 8)

/-- TRAM_ROUTE of a rack. -/
def State.tramRoute (s : State) (r : Nat) : Nat := kvGet 0 s.slice.routes r

/-- Next hop and port for a message (R642); none where no port the table allows is up. -/
def State.route (s : State) (k : MsgKind) (dst : Nat) : Option (Nat × Nat) :=
  let me := s.addr
  let sled := (posOf dst + 4 - posOf me + 3) % 4
  if rackOf dst = rackOf me then
    if sledOf dst = sledOf me && sled < 3 && (s.port sled).active then some (dst, sled)
    else (s.rackPortFor k dst).map (fun p => (dst, p))
  else
    let w := s.tramRoute (rackOf dst)
    let gw := fld w 11 0
    let op := 11 + fld w 12 12
    if !bit w 13 then none
    else if gw = me then (if (s.port op).active then some ((s.port op).peer, op) else none)
    else (s.rackPortFor k dst).map (fun p => (gw, p))

/-- Note the rack port a spread message took. -/
def State.noteTurn (s : State) (k : MsgKind) (p : Nat) : State :=
  if (k == .stileWrite || k == .readReq) && 3 ≤ p && p < 11 then { s with fab := { s.fab with turn := p - 3 } } else s

/-- Send a message by R642; false where no port takes it. -/
def State.sendMsg (s : State) (m : Msg) : State × Bool :=
  match s.route m.kind m.dst with
  | none => (s, false)
  | some (hop, p) => ((s.noteTurn m.kind p).putOn p { m with hop := hop }, true)

/-- The SLICE field of what this package sends (R646). -/
def State.sliceField (s : State) : Nat := if s.slice.state == .active then s.slice.id else 0

/-- Send a message without an answer, dropped where no port takes it; one that names a slice keeps it. -/
def State.tell (s : State) (m : Msg) : State :=
  (s.sendMsg { m with src := s.addr, slice := if m.slice = 0 then s.sliceField else m.slice }).1

/-- Issue a request; false where it fails at the sender with PORT_DOWN (R642). -/
def State.fabRequest (s : State) (m : Msg) (o : FabOwner) (deadline : Option Nat) : State × Bool :=
  let m := { m with src := s.addr, slice := s.sliceField, tag := s.fab.nextTag % 2 ^ 32 }
  let r := s.sendMsg m
  if r.2 then
    let q : FabReq := { tag := m.tag, kind := m.kind, dst := m.dst, owner := o, deadline := deadline,
                        port := (match s.route m.kind m.dst with | some x => x.2 | none => 0) }
    ({ r.1 with fab := { r.1.fab with reqs := r.1.fab.reqs ++ [q], nextTag := s.fab.nextTag + 1 } }, true)
  else (s.bump O.portDownFails, false)

/-- A remote stake operation: held behind the earlier writes to its destination (R644). -/
def State.stakeRequest (s : State) (m : Msg) (o : FabOwner) : State × Bool :=
  let before := (s.fab.reqs.filter (fun q => q.dst == m.dst && q.kind == .stileWrite)).map (fun (q : FabReq) => q.tag)
  if before.isEmpty && s.fab.ordered.all (fun h => h.m.dst != m.dst) then s.fabRequest { m with ordered := true } o none
  else ({ s with fab := { s.fab with ordered := s.fab.ordered ++ [{ m := { m with ordered := true }, owner := o, after := before }] } }, true)

/-! ### What becomes of a request -/

/-- Stream bytes of a transfer's piece have arrived. -/
def State.pieceArrives (s : State) (r id off : Nat) (d : List (Byte × Bool)) : State :=
  s.modXfer r id (fun x => { x with pieces := x.pieces.map (fun (p : Piece) =>
    if p.off == off && !p.arrived then { p with data := d.take p.len, arrived := true } else p) })

/-- The read of a piece failed: the source ends there with a code and its address; what was read beyond it is dropped
(R557). -/
def State.pieceFails (s : State) (r id off code : Nat) : State :=
  s.modXfer r id (fun x =>
    if x.pieces.any (fun p => p.off == off) then
      { x with pieces := x.pieces.filter (fun p => decide (p.off < off)), readPos := off, endAt := some (code, x.byteVa false off) }
    else x)

/-- A write of a transfer failed at a stream offset. -/
def State.writeFails (s : State) (r id off code : Nat) : State :=
  s.modXfer r id (fun x =>
    { x with pressPos := min x.pressPos off, finished := (match x.finished with | some e => some e | none => some (code, x.byteVa true off)) })

/-- A fabric request ends with a status other than OK. -/
def State.fabFail (s : State) (q : FabReq) (code : Nat) : State :=
  match q.owner with
  | .row r id off _ => if q.kind == .readReq then s.pieceFails r id off code else s.writeFails r id off code
  | .plotSignal p => if (s.plot p).state == .running then s.failPlot p code else s
  | .none => s

/-- What follows the end of a request: its row goes on, or ends where it was stopping. -/
def State.fabSettle (s : State) (q : FabReq) : State :=
  match q.owner with
  | .row r _ _ _ => ((s.rowHalves r).settle r).stopDrained r
  | _ => s

/-- Send the stake operations whose earlier writes are all acknowledged. -/
def State.releaseOrdered (s : State) : State :=
  let l := s.fab.ordered
  let s := { s with fab := { s.fab with ordered := [] } }
  let s : State := s
  l.foldl (fun s h =>
    let after := h.after.filter (fun t => s.fab.reqs.any (fun q => q.tag == t && q.kind == .stileWrite))
    if after.isEmpty && s.fab.ordered.all (fun k => k.m.dst != h.m.dst) then
      let r := s.fabRequest h.m h.owner none
      if r.2 then r.1 else r.1.fabFail { tag := 0, kind := h.m.kind, dst := h.m.dst, owner := h.owner } 0x51
    else { s with fab := { s.fab with ordered := s.fab.ordered ++ [{ h with after := after }] } }) s

/-- A port carries messages no longer: what waited there takes another way (R642), or fails with what was sent through it and not yet
answered with PORT_DOWN (R561). -/
def State.dropPort (s : State) (p : Nat) : State :=
  let mine := s.fab.held.filter (fun h => h.1 == p)
  let is (q : FabReq) (h : Nat × Msg) : Bool := q.tag == h.2.tag && q.dst == h.2.dst && q.kind == h.2.kind && h.2.src == s.addr
  let lost := s.fab.reqs.filter (fun q => q.port == p && ((s.route q.kind q.dst).isNone || mine.all (fun h => !is q h)))
  let s : State := { s with fab := { s.fab with
    held := s.fab.held.filter (fun h => h.1 != p), owed := s.fab.owed.filter (fun o => o.1 != p),
    reqs := s.fab.reqs.filter (fun q => !lost.contains q) } }
  let s := s.each mine (fun s h =>
    match s.route h.2.kind h.2.dst with
    | some x =>
      let s := (s.sendMsg h.2).1
      { s with fab := { s.fab with reqs := s.fab.reqs.map (fun (q : FabReq) => if is q h then { q with port := x.2 } else q) } }
    | none => s)
  let s := s.each lost (fun s q => (s.bump O.portDownFails).fabFail q 0x51)
  s.releaseOrdered.each lost (fun s q => s.fabSettle q)

/-- Every port goes OFF where the conditions fail, and starts training where they have come to hold. -/
def State.refreshPorts (s : State) : State :=
  s.each (List.range 13) (fun s p =>
    let x := s.port p
    if !s.portAllowed p then
      (if x.state == .off then s
       else
         let t := s.setPort p { reason := 5 }
         if x.active then t.noteRackPorts.dropPort p else t)
    else if x.state == .off then s.setPort p { state := .training }
    else s)

/-- Take the outstanding request an answer names. -/
def State.takeReq (s : State) (k : MsgKind) (m : Msg) : Option (FabReq × State) :=
  match s.fab.reqs.find? (fun q => q.tag == m.tag && q.kind == k && q.dst == m.src) with
  | none => none
  | some q => some (q, { s with fab := { s.fab with reqs := s.fab.reqs.filter (fun x => !(x.tag == q.tag && x.kind == q.kind)) } })

/-- An acknowledgement of a write or of a stake operation (R655, R647). -/
def State.ackDone (s : State) (k : MsgKind) (m : Msg) : State :=
  match s.takeReq k m with
  | none => s
  | some (q, s) =>
    let s := if m.aux = 0 then s else s.fabFail q m.aux
    s.releaseOrdered.fabSettle q

/-- STAKE_ACK answers an add or a set. -/
def State.stakeAckDone (s : State) (m : Msg) : State :=
  match s.takeReq .stakeAdd m with
  | some _ => s.ackDone .stakeAdd m
  | none => s.ackDone .stakeSet m

/-- The bytes of a payload with their marks (R648). -/
def msgBytes (m : Msg) : List (Byte × Bool) :=
  m.payload.mapIdx (fun i b => (b, m.marks.contains (i / 64)))

/-- A READ_RSP (R647, R574). -/
def State.readRspDone (s : State) (m : Msg) : State :=
  if s.fab.lateTags.contains m.tag then
    let s : State := { s with fab := { s.fab with lateTags := s.fab.lateTags.filter (fun t => t != m.tag) } }
    s.bump O.remoteLate
  else match s.takeReq .readReq m with
    | none => s
    | some (q, s) =>
      let s := if m.aux != 0 then s.fabFail q m.aux
        else match q.owner with
          | .row r id off len =>
            if m.payload.length = len then
              (s.pieceArrives r id off (msgBytes m)).modXfer r id (fun x => { x with poisoned := x.poisoned || !m.marks.isEmpty })
            else s
          | _ => s
      s.fabSettle q

/-! ### Receiving -/

/-- A message with its fields as wide as R646 gives them. -/
def onWire (m : Msg) : Msg :=
  { m with dst := m.dst % 2 ^ 12, src := m.src % 2 ^ 12, hop := m.hop % 2 ^ 12, slice := m.slice % 2 ^ 32, tag := m.tag % 2 ^ 32,
           window := m.window % 2 ^ 12, aux := m.aux % 2 ^ 16, addr := m.addr % 2 ^ 64 }

/-- The receiver discards these bytes (R646): a reserved field that is not 0, a reserved KIND, a LEN that disagrees with the frame, MARKS
without POISON. -/
def wireBad (b : List Byte) : Bool :=
  let kind := bytesAt b 0 1
  let flags := bytesAt b 1 1
  let len := bytesAt b 6 2
  b.length < 40 || !((1 ≤ kind && kind ≤ 9) || (0x10 ≤ kind && kind ≤ 0x17) || (0x20 ≤ kind && kind ≤ 0x22) || kind == 0x30)
    || 32 ≤ flags || (bit flags 4 && kind != 0x30)
    || 2 ^ 12 ≤ bytesAt b 2 2 || 2 ^ 12 ≤ bytesAt b 4 2 || 2 ^ 12 ≤ bytesAt b 16 2 || 2 ^ 12 ≤ bytesAt b 20 2 || bytesAt b 22 2 != 0
    || 4096 < len || b.length != 40 + len || (!bit flags 0 && bytesAt b 32 8 != 0)

/-- Credits go back to a sender; those of VC0 wait while the share of stile receive is exhausted (R649). -/
def State.giveBack (s : State) (p vc n : Nat) : State :=
  if vc = 0 && s.stileRxFull then { s with fab := { s.fab with owed := s.fab.owed ++ [(p, n)] } }
  else s.setPort p { s.port p with returned := (s.port p).returned.set vc ((s.port p).returned.getD vc 0 + n) }

/-- The credits withheld go back once there is room. -/
def State.payOwed (s : State) : State :=
  if s.stileRxFull then s
  else
    let l := s.fab.owed
    let s : State := { s with fab := { s.fab with owed := [] } }
    s.each l (fun s x => s.giveBack x.1 0 x.2)

/-- What a port delivers: true where this package is the message's destination.  A message for another next hop is
discarded (R678); one for another destination is relayed by a member of a slice, and discarded otherwise (R643). -/
def State.receive (s : State) (p : Nat) (m : Msg) : State × Bool :=
  if !(s.port p).active then (s, false)
  else
    let s := s.bump O.msgsRx
    if m.hop != s.addr then (s.bump O.misrouted, false)
    else if m.dst == s.addr then (s, true)
    else if !(s.slice.state == .active) || (11 ≤ p && rackOf m.dst != rackOf s.addr) then (s.bump O.misrouted, false)
    else
      let r := s.sendMsg { m with relayed := true }
      if r.2 then (r.1.bump O.relayed, false) else (s.bump O.misrouted, false)

/-- Registers of a stile window. -/
def State.stile (s : State) (w i : Nat) : Nat := s.rg (Rg.stile w (8 * i))

/-- The right a kind needs and the checks of R653 before the lookup; none where they pass. -/
def State.stileRefuses (s : State) (p : Nat) (m : Msg) : Option Nat :=
  let c := s.stile m.window 0
  let se := s.stile m.window 3
  let size := fld (s.stile m.window 2) 27 0 * 4096
  let len := match m.kind with | .readReq => m.aux | _ => m.payload.length
  let stake := m.kind == .stakeAdd || m.kind == .stakeSet || m.kind == .stakeRead
  let first := fld se 31 16
  if s.host.inFlr || s.fc.packageFenced || s.fab.dieReset.contains (portDie p) then some 0x50
  else if fld se 1 0 = 0 && !(s.slice.state == .active && s.slice.id == fld (s.stile m.window 2) 63 32 && m.slice == s.slice.id) then some 0x50
  else if !bit c 0 || (fld se 1 0 = 1 && m.src != fld se 15 4) then some 0x52
  else if !bit c (match m.kind with | .stileWrite => 1 | .readReq => 2 | _ => 3) then some 0x52
  else if !stake && size < m.addr + len then some 0x52
  else if stake && (m.aux < first || first + fld se 48 32 ≤ m.aux || !s.stakeOk (.remote m.src) m.aux) then some 0x52
  else none

/-- The target of a data message; refused, or waiting for a plot's wake or a snoop (R653, R654). -/
def State.stileTarget (s : State) (p : Nat) (m : Msg) (len : Nat) : State × Lk :=
  let c := s.stile m.window 0
  let a := s.stile m.window 1 / 4096 * 4096 + m.addr
  let wr := m.kind == .stileWrite
  let who : Who := { stream := .tram (portDie p), pasid := fld c 35 16, priv := false, bypass := false }
  if fld c 5 4 = 1 then
    let plot := fld c 9 6
    match s.lookupTilth who.pasid plot a with
    | (s, .at_ t n) =>
      if len > n || (s.plot plot).state == .fenced then (s, .denied)
      else if (s.plot plot).ready then (s.modPlot plot (fun x => { x with idleSince := s.now }), .at_ t n)
      else (s.askPlot plot, .wait)
    | (s, _) => (s, .denied)
  else
    let acc : Access := if wr then .write else .read
    let k := s.lookup who .devlocal a acc
    match k.2 with
    | .at_ (.hbm h) n =>
      let b := k.1.cohAccess wr h len
      if b.2 then (b.1, .at_ (.hbm h) n) else (b.1, .wait)
    | .at_ _ _ => (k.1, .denied)
    | .denied => (k.1, .denied)
    | .wait =>
      let s := k.1.each (k.1.plat.walks.filter (fun w => w.stream == .tram (portDie p))) (fun s w => s.acreDone w.id)
      match s.cached who .devlocal a acc with
      | some x =>
        match x.base.plus (a - x.va) with
        | .hbm h =>
          let b := s.cohAccess wr h len
          if b.2 then (b.1, .at_ (.hbm h) (x.va + x.size - a)) else (b.1, .wait)
        | _ => (s, .denied)
      | none => (s, if s.plat.slotWait.any (fun w => w.stream == .tram (portDie p)) then .wait else .denied)

/-- Bytes cut where granules meet, each piece with its address. -/
def granulePieces : Nat → Nat → List (Byte × Bool) → List (Nat × List (Byte × Bool))
  | 0, _, _ => []
  | n + 1, a, d =>
    if d.isEmpty then []
    else
      let k := 64 - a % 64
      (a, d.take k) :: granulePieces n (a + k) (d.drop k)

/-- Write bytes granule by granule, each with its mark (R648). -/
def State.putMarked (s : State) (t : Target) (d : List (Byte × Bool)) : State :=
  let all (l : List (Byte × Bool)) : List (Byte × Bool) := l.map (fun (y : Byte × Bool) => (y.1, true))
  match t with
  | .hbm a => s.each (granulePieces d.length a d) (fun s b => s.hbmWrite b.1 (all b.2) (b.2.any (fun y => y.2)))
  | .tilth p o => s.each (granulePieces d.length o d) (fun s b =>
      s.setTilth p (storeWrite (s.tilthStore p) b.1 (all b.2) (b.2.any (fun y => y.2))))
  | .host _ => s

/-- Read bytes with their marks, by the granule of the memory they lie in. -/
def State.getMarked (s : State) (t : Target) (len : Nat) : State × List (Byte × Bool) :=
  match t with
  | .hbm a =>
    let r := s.hbmRead a len
    (r.1, r.2.1.mapIdx (fun i b => (b, kvGet false r.1.host.poison ((a + i) / 64))))
  | .tilth p o =>
    let m := s.tilthStore p
    (s, (memRead m.1 o len).mapIdx (fun i b => (b, kvGet false m.2 ((o + i) / 64))))
  | .host _ => (s, [])

/-- The answer to a message. -/
def State.answerMsg (s : State) (m : Msg) (k : MsgKind) (status : Nat) : State :=
  s.tell { kind := k, dst := m.src, tag := m.tag, window := m.window, aux := status }

/-- The kind of answer (R647). -/
def answerKind : MsgKind → MsgKind
  | .stileWrite => .writeAck
  | .readReq => .readRsp
  | .stakeRead => .stakeRsp
  | _ => .stakeAck

/-- Refuse a message with a status. -/
def State.refuseMsg (s : State) (m : Msg) (code : Nat) : State :=
  let s := s.bump O.stileRefused
  let s := if (msgVc m.kind) == 0 && !(m.kind == .stileWrite) && !(m.kind == .readReq) then
      let s := s.bump O.remoteRefused
      if code = 0x52 then s.bump O.denied else s
    else s
  s.answerMsg m (answerKind m.kind) code

/-- Serve a message that has arrived at its destination (R653-R655); it is kept where its target must first wake, or a
snoop must be answered. -/
def State.stileServe (s : State) (p : Nat) (m : Msg) : State :=
  match s.stileRefuses p m with
  | some code => s.refuseMsg m code
  | none =>
    match m.kind with
    | .stileWrite =>
      let k := s.stileTarget p m m.payload.length
      match k.2 with
      | .at_ t _ => (k.1.putMarked t (msgBytes m)).answerMsg m .writeAck 0
      | .denied => k.1.refuseMsg m 0x52
      | .wait => { k.1 with fab := { k.1.fab with waiting := k.1.fab.waiting ++ [(p, m)] } }
    | .readReq =>
      let k := s.stileTarget p m m.aux
      match k.2 with
      | .at_ t _ =>
        let d := k.1.getMarked t m.aux
        let marks := (List.range 64).filter (fun g => ((d.2.drop (64 * g)).take 64).any (fun y => y.2))
        d.1.tell { kind := .readRsp, dst := m.src, tag := m.tag, window := m.window, marks := marks,
                   payload := d.2.map (fun (y : Byte × Bool) => y.1) }
      | .denied => k.1.refuseMsg m 0x52
      | .wait => { k.1 with fab := { k.1.fab with waiting := k.1.fab.waiting ++ [(p, m)] } }
    | .stakeAdd => (((s.bump O.remoteOps).stakeAddOp (.remote m.src) m.aux m.addr).answerMsg m .stakeAck 0).settleStakes
    | .stakeSet => (((s.bump O.remoteOps).stakeSetOp m.aux m.addr).answerMsg m .stakeAck 0).settleStakes
    | .stakeRead => (s.bump O.remoteOps).tell { kind := .stakeRsp, dst := m.src, tag := m.tag, window := m.window, addr := s.stake m.aux }
    | _ => s

/-- The windows whose accepted messages have all completed stop draining. -/
def State.drainStiles (s : State) : State :=
  { s with fab := { s.fab with draining := s.fab.draining.filter (fun w => s.fab.waiting.any (fun x => x.2.window == w)) } }

/-- Serve again the messages that waited: those accepted before VALID was cleared complete (R656). -/
def State.stileRetry (s : State) : State :=
  let l := s.fab.waiting
  let s0 : State := { s with fab := { s.fab with waiting := [] } }
  (s0.each l (fun s x =>
    let k := s.stileTarget x.1 x.2 (match x.2.kind with | .readReq => x.2.aux | _ => x.2.payload.length)
    let done (s : State) : State := s.giveBack x.1 0 (msgUnits x.2)
    match k.2 with
    | .wait => { k.1 with fab := { k.1.fab with waiting := k.1.fab.waiting ++ [x] } }
    | .denied => done (k.1.refuseMsg x.2 0x52)
    | .at_ t _ =>
      if x.2.kind == .stileWrite then done ((k.1.putMarked t (msgBytes x.2)).answerMsg x.2 .writeAck 0)
      else
        let d := k.1.getMarked t x.2.aux
        let marks := (List.range 64).filter (fun g => ((d.2.drop (64 * g)).take 64).any (fun y => y.2))
        done (d.1.tell { kind := .readRsp, dst := x.2.src, tag := x.2.tag, window := x.2.window, marks := marks,
                         payload := d.2.map (fun (y : Byte × Bool) => y.1) }))).payOwed

/-- A write of a register of a stile window (R656, R686). -/
def State.writeStile (s : State) (w reg val : Nat) (rid : Half) : State :=
  let a := Rg.stile w (8 * reg)
  let old := s.stile w 0
  let busy := bit old 0 || s.fab.draining.contains w
  match reg with
  | 0 =>
    let v := val &&& (0xFFFFF * 2 ^ 16 + 0x3FF)
    let other := v / 2 != old / 2
    if 2 ≤ fld v 5 4 then s.valueErr a 8 rid else
    let s := if busy && other then s.valueErr a 8 rid else s
    if bit old 0 && !bit v 0 then
      let s := s.setRg a (setBit old 0 false)
      if s.fab.waiting.any (fun x => x.2.window == w) then { s with fab := { s.fab with draining := s.fab.draining ++ [w] } } else s
    else if busy && other then s
    else s.setRg a v
  | 1 => if busy then s.valueErr a 8 rid else s.setRg a (val % 2 ^ 40 / 4096 * 4096)
  | 2 =>
    let v := val &&& (0xFFFFFFFF * 2 ^ 32 + 0xFFFFFFF)
    if busy || fld v 27 0 = 0 then s.valueErr a 8 rid else s.setRg a v
  | _ =>
    let v := val &&& (0x1FFFF * 2 ^ 32 + 0xFFFFFFF3 + 0)
    if busy || fld v 1 0 = 3 || 65536 < fld v 48 32 then s.valueErr a 8 rid else s.setRg a v

/-- STILE_CTRL_WRITE. -/
def execStileCtrlWrite (w : Fin 4096) (reg : Fin 4) (val : Word) (rid : Half) (s : State) : Out :=
  .next (s.writeStile w reg val.toNat rid)

/-- STILE_DRAIN_DONE. -/
def execStileDrainDone (w : Fin 4096) (s : State) : Out :=
  let s := s.stileRetry
  .next { s with fab := { s.fab with draining := s.fab.draining.filter (fun k => k != w.val || s.fab.waiting.any (fun x => x.2.window == k)) } }

/-- Deliver a message of a kind to a handler, where this package is its destination; its credits go back, but those of one that waits
for its target. -/
def State.onMsg (s : State) (p : Nat) (m : Msg) (k : MsgKind) (f : State → Msg → State) : State :=
  if !(s.port p).active then s
  else
    let m := onWire { m with kind := k }
    let r := s.receive p m
    let t := if r.2 then f r.1 m else r.1
    if s.fab.waiting.length < t.fab.waiting.length then t else t.giveBack p (msgVc k) (msgUnits m)

/-- STILE_WRITE. -/
def execStileWrite (p : Fin 13) (m : Msg) (s : State) : Out := .next (s.onMsg p m .stileWrite (fun s m => s.stileServe p m))
/-- READ_REQ. -/
def execReadReq (p : Fin 13) (m : Msg) (s : State) : Out := .next (s.onMsg p m .readReq (fun s m => s.stileServe p m))
/-- REMOTE_STAKE_ADD. -/
def execRemoteStakeAdd (p : Fin 13) (m : Msg) (s : State) : Out := .next (s.onMsg p m .stakeAdd (fun s m => s.stileServe p m))
/-- REMOTE_STAKE_SET. -/
def execRemoteStakeSet (p : Fin 13) (m : Msg) (s : State) : Out := .next (s.onMsg p m .stakeSet (fun s m => s.stileServe p m))
/-- STAKE_READ. -/
def execStakeRead (p : Fin 13) (m : Msg) (s : State) : Out := .next (s.onMsg p m .stakeRead (fun s m => s.stileServe p m))
/-- WRITE_ACK. -/
def execWriteAck (p : Fin 13) (m : Msg) (s : State) : Out := .next (s.onMsg p m .writeAck (fun s m => s.ackDone .stileWrite m))
/-- READ_RSP. -/
def execReadRsp (p : Fin 13) (m : Msg) (s : State) : Out := .next (s.onMsg p m .readRsp (fun s m => s.readRspDone m))
/-- STAKE_ACK. -/
def execStakeAck (p : Fin 13) (m : Msg) (s : State) : Out := .next (s.onMsg p m .stakeAck (fun s m => s.stakeAckDone m))
/-- STAKE_RSP. -/
def execStakeRsp (p : Fin 13) (m : Msg) (s : State) : Out := .next (s.onMsg p m .stakeRsp (fun s m => s.ackDone .stakeRead m))
/-- MESSAGE_RELAY. -/
def execMessageRelay (p : Fin 13) (m : Msg) (s : State) : Out := .next (s.onMsg p m m.kind (fun s _ => s))

/-- PROTOCOL_DISCARD (R646). -/
def execProtocolDiscard (p : Fin 13) (bytes : List Byte) (s : State) : Out :=
  .next (if (s.port p).active && wireBad bytes then ((s.bump O.msgsRx).bump O.protocolDiscards).raise (Sc.tram (portDie p) 3) else s)

/-- FABRIC_CREDIT_RETURN (R649): a sender blocked on the credits goes on. -/
def execFabricCreditReturn (p : Fin 13) (vc : Fin 3) (n : Nat) (s : State) : Out :=
  let x := s.port p
  if !x.active then .next s
  else
    let s := s.setPort p { x with credits := x.credits.set vc (x.credits.getD vc 0 + n) }
    let l := s.fab.held
    let s : State := { s with fab := { s.fab with held := [] } }
    .next (s.each l (fun s h => s.putOn h.1 h.2))

/-- PORT_TRAINED: margins are measured, presets whose calibration is lost are learned (R101), and this end sends its IDENT (R636, R637). -/
def execPortTrained (p : Fin 13) (full : Bool) (timing voltage : Nat) (s : State) : Out :=
  let x := s.port p
  if !(x.state == .training) || s.engineOff p then .next s
  else
    let lanes := if p.val < 3 then 8 else 4
    let s := s.setPort p { x with state := .ident, lanes := (if full then lanes else lanes / 2), timing := timing, voltage := voltage, reason := 0 }
    let s := s.learn [] (0x2811 + p)
    let cls := if p.val < 3 then 0 else if p.val < 11 then 1 else 2
    let idx := if p.val < 3 then p.val else if p.val < 11 then p - 3 else p - 11
    .next (s.putOn p { kind := .ident, src := s.addr,
                       payload := natLe 2 s.addr ++ natLe 1 cls ++ natLe 1 idx ++ natLe 8 Config.serial })

/-- What an IDENT must show on a port (R637): 0 where it does, 1 miswired, 2 a duplicate address. -/
def State.identFault (s : State) (p addr : Nat) (cls : PortClass) (idx : Nat) (s64 : Option (Nat × Nat)) (dup : Bool) : Nat :=
  let me := s.addr
  if p < 3 then
    if addr == me then 2
    else if cls == .sled && rackOf addr == rackOf me && sledOf addr == sledOf me && posOf addr == (posOf me + p + 1) % 4 && idx + p == 2 then 0
    else 1
  else if p < 11 then
    if dup then 2
    else if cls == .s64 && s64 == some (p - 3, rackOf me) && idx == sledOf me * 4 + posOf me then 0
    else 1
  else if cls == .optical && s.slice.optical.contains (p, addr, idx) then 0 else 1

/-- PORT_RETRY (R636). -/
def execPortRetry (p : Fin 13) (s : State) : Out :=
  let x := s.port p
  let s := s.until_ x.retryAt
  if (x.state == .down || x.state == .refused) && s.portAllowed p && !s.engineOff p then .next (s.setPort p { state := .training })
  else .next s

/-- PORT_MARGIN_CHECK (R635), with the corrected frames and the replays that the link layers counted since the last one (R639). -/
def execPortMarginCheck (margins frames : List (Nat × Nat × Nat)) (s : State) : Out :=
  let s := s.each frames (fun s e => if e.1 < 13 && (s.port e.1).active then
    (s.bumpBy (O.portCorrected + e.1) e.2.1).bumpBy (O.portReplays + e.1) e.2.2 else s)
  .next (s.each margins (fun s e =>
    let x := s.port e.1
    if e.1 < 13 && x.active then
      let y := { x with timing := e.2.1, voltage := e.2.2 }
      let s := s.setPort e.1 { y with reason := (if y.marginal then 3 else 0) }
      s.raiseIf (y.marginal && !x.marginal) (Sc.tram (portDie e.1) 4)
    else s))

/-- A port in service retrains: it keeps its link-layer state and its traffic (R639). -/
def State.retrainPort (s : State) (p : Nat) : State :=
  if (s.port p).active then (s.setPort p { s.port p with retries := (s.port p).retries + 1 }).bump O.retrains else s

/-- PORT_RETRAIN. -/
def execPortRetrain (ports : BitVec 13) (s : State) : Out :=
  .next (s.each ((List.range 13).filter (fun p => ports.getLsbD p)) (fun s p => s.retrainPort p))

/-- REMOTE_READ_TIMEOUT (R574). -/
def execRemoteReadTimeout (tag : Nat) (s : State) : Out :=
  match s.fab.reqs.find? (fun q => q.tag == tag && q.kind == .readReq) with
  | none => .next s
  | some q =>
    let s := s.until_ (q.deadline.getD 0)
    let s := { s with fab := { s.fab with reqs := s.fab.reqs.filter (fun x => !(x.tag == tag && x.kind == .readReq)), lateTags := s.fab.lateTags ++ [tag] } }
    .next ((State.fabFail s q 0x108).fabSettle q)

end Sys2Proof.Machine
end

