-- ==== Sys2Proof/Machine/Seed.lean ====
section
/-! DEFINITION. The seedbank controller (R688-R714): lots, drafts and generations, the bands they occupy, replay,
endurance, and the SEED operations of host-assisted mode. -/

namespace Sys2Proof.Machine

/-- Bytes of a sector and sectors of a band (R689, R691). -/
abbrev sectorBytes : Nat := 4096
abbrev bandSectors : Nat := 126976

/-- The sectors that a list of cells touches, rising. -/
def sectorsOf (m : List Host.Cell) : List Nat :=
  m.foldl (fun l c => if l.getLast? == some (c.1 / sectorBytes) then l else l ++ [c.1 / sectorBytes]) []

/-- The newest committed generation's number; 0xFFFFFFFF for none (R698). -/
def noGen : Nat := 0xFFFFFFFF
def Lot.newest (l : Lot) : Nat := match l.gens with | g :: _ => g.num | [] => noGen
def Lot.gen (l : Lot) (n : Nat) : Option Gen := l.gens.find? (fun g => g.num == n)

/-- The state of a lot without draft or entry. -/
def Lot.rest (l : Lot) : LotState := if l.gens.isEmpty then .empty else .ready

/-- Reserved bytes of a lot and of all (R695). -/
def Lot.reserved (l : Lot) : Nat := match l.state with | .free => 0 | _ => 3 * l.size * acreBytes
def State.lotReserved (s : State) : Nat := (s.seed.lots.map (fun e => e.2.reserved)).foldl (· + ·) 0

/-! ### Journal and bands -/

/-- Program one journal record into both copies (R702). -/
def State.journal (s : State) : State :=
  (s.setSeed (fun d => { d with records := d.records + 1 })).bumpBy O.nandBytes 8192

/-- Cycle count of a band that holds no data. -/
def State.freePe (s : State) (b : Nat) : Nat := kvGet s.seed.formats s.seed.freeCycles b

/-- A free band: of the lowest cycle count for data (R707), of the highest for a wear move (R708); ties: the lowest number. -/
def State.freeBand (s : State) (lowest : Bool) : Option Nat :=
  let used := s.seed.bands.map (fun e => e.1)
  (List.range (15616 - s.seed.lostBands)).foldl (fun best b =>
    if used.contains b then best
    else match best with
      | none => some b
      | some k => if (if lowest then s.freePe b < s.freePe k else s.freePe k < s.freePe b) then some b else best) none

/-- Put a band to use; its blocks were erased since it was freed (R707). -/
def State.takeBand (s : State) (b lot : Nat) (gen : Option Nat) : State :=
  s.setSeed (fun d => { d with
    bands := kvPut d.bands b { lot := lot, gen := gen, cycles := s.freePe b + 1, readAt := s.now },
    freeCycles := kvErase d.freeCycles b })

/-- The bands of a generation, or of the draft (none), rejoin the free list. -/
def State.freeBands (s : State) (lot : Nat) (gen : Option Nat) : State :=
  s.each (s.seed.bands.filter (fun e => e.2.lot == lot && e.2.gen == gen)) (fun s e =>
    s.setSeed (fun d => { d with bands := kvErase d.bands e.1, freeCycles := kvSet d.formats d.freeCycles e.1 e.2.cycles }))

/-- Bands enough for the sectors a draft has programmed. -/
def growLoop : Nat → State → Nat → Nat → State
  | 0, s, _, _ => s
  | n + 1, s, lot, programs =>
    let held := (s.seed.bands.filter (fun e => e.2.lot == lot && e.2.gen == none)).length
    if programs ≤ held * bandSectors then s
    else match s.freeBand true with
      | some b => growLoop n (s.takeBand b lot none) lot programs
      | none => s

/-- Program n sectors of a draft (R689, R707): data, parity, counters, bands. -/
def State.programSectors (s : State) (lot n : Nat) : State :=
  let l := s.lot lot
  match l.draft with
  | none => s
  | some d =>
    let d := { d with programs := d.programs + n }
    let s := (s.setLot lot { l with draft := some d }).bumpBy O.lotBytes (n * sectorBytes)
    growLoop 70 (s.bumpBy O.nandBytes (n * sectorBytes + (n * sectorBytes + 30) / 31)) lot d.programs

/-! ### Drafts and commits -/

/-- Discard a draft; its bands rejoin the free list. -/
def State.dropDraft (s : State) (lot : Nat) : State :=
  (s.setLot lot { s.lot lot with draft := none }).freeBands lot none

/-- The number of the next commit (R698). -/
def Lot.nextGen (l : Lot) : Nat := match l.gens with | g :: _ => g.num + 1 | [] => 1

/-- Commit the draft as a new generation and free what R698 does not retain.  Generation numbers stay in range: the
callers refuse a number above 0xFFFFFFFE. -/
def State.commit (s : State) (lot : Nat) : State :=
  let l := s.lot lot
  match l.draft with
  | none => s
  | some d =>
    let g : Gen := { num := l.nextGen, base := d.base, data := d.data }
    let keep := match d.base with
      | some b => l.gens.filter (fun x => x.num == b)
      | none => l.gens.take 1
    let gone := l.gens.filter (fun x => keep.all (fun k => k.num != x.num))
    let s := s.setSeed (fun e => { e with bands := e.bands.map (fun x =>
      if x.2.lot == lot && x.2.gen == none then (x.1, { x.2 with gen := some g.num }) else x) })
    let s := s.each gone (fun s x => s.freeBands lot (some x.num))
    (s.setLot lot { s.lot lot with gens := g :: keep, draft := none }).journal

/-! ### Drill access to a lot (R699, R700) -/

/-- Read bytes of a lot's newest committed generation; a damaged sector arrives poisoned (R691). -/
def State.lotRead (s : State) (lot off len : Nat) : List (Byte × Bool) :=
  match (s.lot lot).gens with
  | g :: _ => (memRead g.data off len).mapIdx (fun i b => (b, g.damaged.contains ((off + i) / sectorBytes)))
  | [] => []

/-- A read of a stored sector counts for the band that holds it (R709, log entry 128). -/
def State.noteLotRead (s : State) (lot off : Nat) : State :=
  match (s.lot lot).gens with
  | [] => s
  | g :: _ =>
    let l := sectorsOf g.data
    let k := off / sectorBytes
    if !l.contains k then s
    else match (s.seed.bands.filter (fun e => e.2.lot == lot && e.2.gen == some g.num))[(l.filter (fun x => decide (x < k))).length / bandSectors]? with
      | some e => s.setSeed (fun d => { d with bands := kvPut d.bands e.1 { e.2 with reads := e.2.reads + 1 } })
      | none => s

/-- Write whole sectors into a lot's draft; false, with the draft tainted, where a byte is poisoned (R700). -/
def State.draftWrite (s : State) (lot off : Nat) (d : List (Byte × Bool)) : State × Bool :=
  let l := s.lot lot
  match l.draft with
  | none => (s, false)
  | some x =>
    if d.any (fun y => y.2) then (s.setLot lot { l with draft := some { x with tainted := true } }, false)
    else
      let bs := d.map (fun (y : Byte × Bool) => y.1)
      let n := ((List.range (d.length / sectorBytes)).filter (fun k => ((bs.drop (k * sectorBytes)).take sectorBytes).any (fun b => b != 0))).length
      ((s.setLot lot { l with draft := some { x with data := memWrite x.data off bs } }).programSectors lot n, true)

/-! ### Lot commands (R697) -/

/-- A started descriptor reads (or writes) the lot. -/
def State.lotBusy (s : State) (lot : Nat) (write : Bool) : Bool :=
  s.drill.rows.any (fun r => r.2.xfers.any (fun x => x.begun &&
    (if write then x.d.dstSpace == 4 && fld x.d.dst 48 35 == lot else x.d.srcSpace == 4 && fld x.d.src 48 35 == lot)))

/-- A started descriptor touches the seedbank (R711). -/
def State.seedTouched (s : State) : Bool :=
  s.g.store.any (fun x => x.d.opcode == 3 && x.state == .started && x.result.isNone)
    || s.drill.rows.any (fun r => r.2.xfers.any (fun x => x.begun && x.finished.isNone && (x.d.srcSpace == 4 || x.d.dstSpace == 4)))

/-- Record the outcome of a lot command. -/
def State.lotStatus (s : State) (op code : Nat) : State := s.setVal O.lotCmdStatus (code + op * 2 ^ 16)

/-- The states of R697 in which a command is allowed. -/
def lotAllowed (op : Nat) (st : LotState) : Bool :=
  match op with
  | 1 => st == .free
  | 4 => st == .draft
  | 5 => st == .draft
  | _ => st == .empty || st == .ready

/-- Whether the fields of a command are in range. -/
def LotCmd_ok (op : Nat) (c : LotCmd) : Bool :=
  !c.rsv && decide (c.lot < 16384) && decide (c.pasid < 2 ^ 20)
    && (!(op == 1) || (decide (1 ≤ c.size) && decide (c.size ≤ 512)))
    && (!(op == 1) || (decide (c.base + c.size ≤ 16384) && decide (c.rights < 8)))

/-- A lot command with a reserved encoding or a field out of range. -/
def State.lotCmdBad (s : State) (op : Nat) (c : LotCmd) : Bool :=
  op == 0 || decide (6 < op) || !LotCmd_ok op c || (op == 6 && (decide (16384 < c.base + (s.lot c.lot).size) || decide (8 ≤ c.rights)))

/-- Why a lot command is refused (R697, R704): the dictionary status; 0 where it is accepted. -/
def State.lotRefused (s : State) (op : Nat) (c : LotCmd) : Nat :=
  let l := s.lot c.lot
  if s.seed.waiting.isSome || s.seed.state == .replaying || s.seed.state == .formatting then Od.busy
  else if s.lotCmdBad op c then Od.range
  else if s.seed.state == .host then Od.state
  else if s.seed.state == .off then 0
  else if !lotAllowed op l.state || (op == 2 && (l.pasid != c.pasid || s.lotBusy c.lot false)) || (op == 4 && s.lotBusy c.lot true) then Od.state
  else 0

/-- What an accepted lot command does, with its outcome in LOT_CMD_STATUS. -/
def State.lotRun (s : State) (op : Nat) (c : LotCmd) : State :=
  let l := s.lot c.lot
  match op with
  | 1 =>
    if s.val O.lotCapacity < s.lotReserved + 3 * c.size * acreBytes then s.lotStatus 1 0x310
    else
      let s := s.setLot c.lot { state := .empty, pasid := c.pasid, size := c.size, dlvBase := c.base, rights := c.rights, key := s.seed.nextKey }
      ((s.setSeed (fun d => { d with nextKey := d.nextKey + 1 })).journal).lotStatus 1 0
  | 2 =>
    let s := s.each l.gens (fun s g => s.freeBands c.lot (some g.num))
    let s := s.setLot c.lot { l with state := .deleting, gens := [], key := 0 }
    ((s.setSeed (fun d => { d with wrapped := d.wrapped ++ [(c.lot, l.key, s.now)] })).journal).lotStatus 2 0
  | 3 =>
    if s.seed.state == .readOnly then s.lotStatus 3 0x319
    else
      let d : Draft := { base := (if l.gens.isEmpty then none else some l.newest), prior := l.state }
      (s.setLot c.lot { l with state := .draft, draft := some d }).lotStatus 3 0
  | 4 =>
    if s.seed.state == .readOnly then s.lotStatus 4 0x319
    else if (match l.draft with | some d => d.tainted | none => false) then s.lotStatus 4 0x312
    else if 0xFFFFFFFE < l.nextGen then s.lotStatus 4 0x313
    else
      let s := s.commit c.lot
      (s.setLot c.lot { s.lot c.lot with state := .ready }).lotStatus 4 0
  | 5 =>
    let prior := match l.draft with | some d => d.prior | none => l.rest
    let s := s.dropDraft c.lot
    (s.setLot c.lot { s.lot c.lot with state := prior }).lotStatus 5 0
  | _ => ((s.setLot c.lot { l with pasid := c.pasid, dlvBase := c.base, rights := c.rights }).journal).lotStatus 6 0

/-- A lot command: the dictionary status of the write (R697).  One that programs the journal stays BUSY while new programs
pause (R710); with SEED off its outcome is SEED_OFF (log entry 129). -/
def State.lotOp (s : State) (op : Nat) (c : LotCmd) : State × Nat :=
  let e := s.lotRefused op c
  if e != 0 then (s, e)
  else if s.seed.state == .off then (s.lotStatus op 0x306, 0)
  else if s.pwr.nandPause && op != 3 && op != 5 then
    ((s.setSeed (fun d => { d with waiting := some (op, c) })).lotStatus op (2 ^ 24), 0)
  else (s.hlWork.lotRun op c, 0)

/-- The lot command that waited runs once programs are possible again. -/
def State.lotResume (s : State) : State :=
  match s.seed.waiting with
  | some (op, c) =>
    if s.pwr.nandPause || !(s.seed.state == .ready || s.seed.state == .readOnly) then s
    else (s.setSeed (fun d => { d with waiting := none })).lotRun op c
  | none => s

/-- It ends with a code where the controller stops. -/
def State.lotDrop (s : State) (code : Nat) : State :=
  match s.seed.waiting with
  | some (op, _) => (s.setSeed (fun d => { d with waiting := none })).lotStatus op code
  | none => s

/-- A lot command as it reaches running firmware (R130, log entry 130). -/
def State.lotCommand (s : State) (op : Nat) (c : LotCmd) : State := if s.hl.running then (s.lotOp op c).1 else s

/-- CREATE. -/
def execLotCreate (c : LotCmd) (s : State) : Out := .next (s.lotCommand 1 c)
/-- DELETE. -/
def execLotDelete (c : LotCmd) (s : State) : Out := .next (s.lotCommand 2 c)
/-- DRAFT_OPEN. -/
def execDraftOpen (c : LotCmd) (s : State) : Out := .next (s.lotCommand 3 c)
/-- DRAFT_COMMIT. -/
def execDraftCommit (c : LotCmd) (s : State) : Out := .next (s.lotCommand 4 c)
/-- DRAFT_ABORT. -/
def execDraftAbort (c : LotCmd) (s : State) : Out := .next (s.lotCommand 5 c)
/-- REBIND. -/
def execRebind (c : LotCmd) (s : State) : Out := .next (s.lotCommand 6 c)

/-- The FTL may read: in hardware mode with SEED on and replayed. -/
def State.ftlUp (s : State) : Bool := s.hl.running && (s.seed.state == .ready || s.seed.state == .readOnly)

/-- New programs and erases are possible (R94, R710). -/
def State.nandPrograms (s : State) : Bool := s.ftlUp && !s.pwr.nandPause

/-- The checkpoint is written anew (R702). -/
def State.checkpoint (s : State) : State := s.setSeed (fun d => { d with records := 0, checkpointAt := s.now })

/-- CHECKPOINT_REWRITE: after 4,096 records or 60 s. -/
def execCheckpointRewrite (s : State) : Out :=
  if !s.nandPrograms then .next s
  else if 4096 ≤ s.seed.records then .next s.checkpoint
  else .next (s.until_ (s.seed.checkpointAt + 60000000000)).checkpoint

/-- KEY_DESTROY_DONE (R706): the checkpoint is rewritten and every block that held the wrapped key erased; the lot is FREE. -/
def execKeyDestroyDone (lot : Fin 16384) (s : State) : Out :=
  if s.nandPrograms && s.seed.wrapped.any (fun w => w.1 == lot.val) then
    let s := (s.setSeed (fun d => { d with wrapped := d.wrapped.filter (fun w => w.1 != lot.val) })).checkpoint
    .next (if (s.lot lot).state == .deleting then s.setLot lot {} else s)
  else .next s

/-! ### Replay, endurance, retirement -/

/-- What a start of the controller does to the blocks: how far each has been programmed is not known (R713), and one whose
erase was aborted is erased again (R65, R704). -/
def startedBlocks (m : List (Nat × Block)) : List (Nat × Block) :=
  (m.map (fun (b : Nat × Block) => (b.1, { b.2 with pe := b.2.pe + b2n b.2.aborted, next := none, aborted := false }))).filter
    (fun b => decide (b.2 ≠ {}))

/-- The controller starts (R704): it replays; in host-assisted mode there is no journal to replay, and a
format that was cut short starts anew (log entry 131). -/
def State.seedStart (s : State) : State :=
  if bit (s.val O.splitFtl) 0 then s.setSeed (fun d => { d with state := .host, coolSince := none, blocks := startedBlocks d.blocks })
  else s.setSeed (fun d => { d with state := (if d.unformatted then .formatting else .replaying), coolSince := none })

/-- A format of the array begins (R711), with SEED off once it is on again. -/
def State.formatOp (s : State) : State :=
  s.setSeed (fun d => { d with unformatted := true, state := (if d.state == .off then .off else .formatting) })

/-- Discard every draft (R704). -/
def State.dropDrafts (s : State) (raise_ : Bool) : State :=
  s.each (s.seed.lots.filter (fun e => e.2.draft.isSome)) (fun s e =>
    let s := s.dropDraft e.1
    let l := s.lot e.1
    (s.setLot e.1 (if l.state == .draft then { l with state := l.rest } else l)).raiseIf raise_ Sc.seedReplayDiscard)

/-- READ_ONLY where capacity fell below what is reserved (R694). -/
def State.capacityCheck (s : State) : State :=
  if s.val O.lotCapacity < s.lotReserved && s.seed.state == .ready then
    (s.setSeed (fun d => { d with state := .readOnly })).raise Sc.seedReadOnly
  else s

/-- The effective age exceeds a quarter of the retention life (R693, R709).  L falls
log-linearly from 10 years at 300 cycles to 1 year at 3,000: age > 21,900 h * 10^(-x / 2,700) with x = pe - 300. -/
def agedOut (pe age : Nat) : Bool :=
  let x := min (pe - 300) 2700
  decide (21900 ^ 2700 < age ^ 2700 * 10 ^ x)

/-- A band meets a refresh condition (R709). -/
def State.needsRefresh (s : State) (b : Band) : Bool :=
  decide (s.val O.refreshRetry ≤ b.step) || decide (s.val O.refreshBits ≤ b.bits) || b.rebuilt
    || agedOut b.cycles b.age || decide (s.val O.readDisturb < b.reads)

/-- Relocate a band's data into a free band (R708): journalled, its generation unchanged. -/
def State.relocate (s : State) (b : Nat) (x : Band) (lowest : Bool) : State :=
  match s.freeBand lowest with
  | none => s
  | some k =>
    let s := s.setSeed (fun d => { d with
      bands := kvPut (kvErase d.bands b) k { lot := x.lot, gen := x.gen, cycles := s.freePe k + 1, readAt := s.now },
      freeCycles := kvSet d.formats (kvErase d.freeCycles k) b x.cycles })
    s.journal.bumpBy O.nandBytes 0x20000000

/-- BAND_REFRESH (R709). -/
def execBandRefresh (band : Fin 15616) (s : State) : Out :=
  match kvFind s.seed.bands band with
  | none => .next s
  | some b => if s.nandPrograms && s.needsRefresh b then .next ((s.relocate band b true).bump O.refreshes) else .next s

/-- The least-worn band that holds data. -/
def State.leastWorn (s : State) : Option (Nat × Band) :=
  s.seed.bands.foldl (fun m e => match m with
    | none => some e
    | some x => if e.2.cycles < x.2.cycles then some e else m) none

/-- Cycle counts of the bands: least, greatest, sum. -/
def State.peList (s : State) : List Nat :=
  s.seed.bands.map (fun e => e.2.cycles) ++ s.seed.freeCycles.map (fun e => e.2)
def State.peMax (s : State) : Nat := s.peList.foldl max s.seed.formats
def State.peMin (s : State) : Nat :=
  if s.peList.length < 15616 - s.seed.lostBands then s.seed.formats else s.peList.foldl min s.peMax
def State.peAvg (s : State) : Nat :=
  let n := 15616 - s.seed.lostBands
  (s.peList.foldl (· + ·) 0 + (n - s.peList.length) * s.seed.formats) / max 1 n

/-- WEAR_MOVE (R708). -/
def execWearMove (s : State) : Out :=
  if !s.nandPrograms || s.peMax - s.peMin ≤ s.val O.wearSpread then .next s
  else match s.leastWorn with
    | some e => .next ((s.relocate e.1 e.2 false).bump O.wearMoves)
    | none => .next s

/-- Spares left. -/
def State.spareLeft (s : State) : Nat := Config.spareInitial - s.seed.spareUsed

/-- A block enters the bad-block table, which the Headland keeps among the persistent objects (R711). -/
def State.setBad (s : State) (block : Nat) : State :=
  let bad := s.seed.bad.filter (fun b => decide (b < block)) ++ block :: s.seed.bad.filter (fun b => decide (block < b))
  (s.setSeed (fun d => { d with bad := bad })).setBank (fun b => { b with bad := bad })

/-- Retire a block (R694): a spare takes its place; without spares a band is lost. -/
def State.retire (s : State) (block : Nat) : State :=
  if s.seed.bad.contains block then s
  else
    let had := s.spareLeft
    let s := (s.setBad block).setVal O.grownBad (s.val O.grownBad + 1)
    let s := if s.seed.state == .host || s.seed.state == .formatting then s else s.journal
    let s := if had = 0 then
        (s.setSeed (fun d => { d with lostBands := d.lostBands + 1 })).setVal O.lotCapacity (s.val O.lotCapacity - 0x1F000000)
      else s.setSeed (fun d => { d with spareUsed := d.spareUsed + 1 })
    (s.raiseIf (had == 1025) Sc.seedSpareLow).capacityCheck

/-- A die fails (R694): every block of it is retired, its bands are rebuilt. -/
def State.failDie (s : State) (die : Nat) : State :=
  if bit (s.val O.diesFailed) die then s
  else
    let s := s.each (List.range 2048) (fun s b => s.retire (2048 * die + b))
    (s.setVal O.diesFailed (s.val O.diesFailed ||| 2 ^ die)).raise Sc.seedDieFailed

/-- A block fails: it is retired, and its die where that passes 256 retired blocks. -/
def State.retireBlock (s : State) (block : Nat) : State :=
  let s := s.retire block
  let die := block / 2048
  if 256 < (s.seed.bad.filter (fun b => b / 2048 == die)).length then s.failDie die else s

/-- A sector of a block was rebuilt from parity: the second time within 30 days retires the block (R694). -/
def State.rebuiltBlock (s : State) (block : Nat) : State :=
  let b : Block := kvGet {} s.seed.blocks block
  let again := match b.rebuiltAt with | some t => decide (s.now ≤ t + 2592000000000000) | none => false
  let s := s.setSeed (fun d => { d with blocks := kvPut d.blocks block { b with rebuiltAt := some s.now } })
  if again then s.retireBlock block else s

/-- SCRUB (R709): what a full read of a band finds, with the retry order it learns (R101). -/
def execScrub (band : Fin 15616) (r : BandRead) (s : State) : Out :=
  match kvFind s.seed.bands band with
  | none => .next s
  | some b =>
    if !s.ftlUp then .next s
    else
      let b' : Band := { b with readAt := s.now, reads := b.reads + 1, age := r.age, step := r.step, bits := r.bits, rebuilt := decide (0 < r.rebuilt) }
      let s := s.hlWork.setSeed (fun d => { d with bands := kvPut d.bands band b' })
      let s := ((s.bumpBy O.retryReads r.retries).bumpBy O.parityRebuilds r.rebuilt).bumpBy O.ueSectors r.lost.length
      let l := s.lot b.lot
      let s := if r.lost.isEmpty then s
        else (s.setLot b.lot { l with gens := l.gens.map (fun (g : Gen) =>
          if some g.num == b.gen then { g with damaged := (g.damaged ++ r.lost.filter (fun k => !g.damaged.contains k)) } else g) }).raise Sc.seedUe
      let s := match r.order with
        | some (ch, v) => if ch < 8 && (s.val (calOrigin (0x2848 + ch)) = 0 || s.val (calOrigin (0x2848 + ch)) = 2)
            then s.setCal (0x2848 + ch) 2 (v % 2 ^ 32) else s
        | none => s
      .next (s.each (r.blocks.filter (fun k => decide (k < 131072))) (fun s k => s.rebuiltBlock k))

/-- PROGRAM_FAIL_RETIRE (R694, R730): in hardware mode and during a format. -/
def execProgramFailRetire (block : Fin 131072) (erase : Bool) (s : State) : Out :=
  .next (if s.ftlUp || s.seed.state == .formatting then (s.raiseIf (!erase) Sc.seedProgramFail).retireBlock block else s)

/-- SEED_DIE_FAILED. -/
def execSeedDieFailed (die : Fin 64) (s : State) : Out := .next (if s.seed.state == .off then s else s.failDie die)

/-- FTL_FORMAT_DONE (R711): READY with every lot FREE. -/
def execFtlFormatDone (s : State) : Out :=
  if s.seed.state == .formatting then
    let s := s.hlWork.setSeed (fun d => { d with
      state := .ready, unformatted := false, lots := [], bands := [], raw := [], wrapped := [], formats := d.formats + 1,
      freeCycles := (d.freeCycles ++ d.bands.map (fun e => (e.1, e.2.cycles))).foldl (fun m e => kvSet (d.formats + 1) m e.1 (e.2 + 1)) [],
      blocks := (d.blocks.map (fun (e : Nat × Block) => (e.1, { e.2 with next := none, aborted := false }))).filter (fun e => decide (e.2 ≠ {})) })
    .next ((s.checkpoint.capacityCheck).bump O.splitSwitches)
  else .next s

/-! ### SEED operations (R712, R713) -/

/-- Fields of NADDR. -/
def nCh (a : Nat) : Nat := fld a 2 0
def nDie (a : Nat) : Nat := fld a 5 3
def nPlane (a : Nat) : Nat := fld a 7 6
def nBlock (a : Nat) : Nat := fld a 18 8
def nPage (a : Nat) : Nat := fld a 28 19
/-- Number of the erase block an address names. -/
def nBlockId (a : Nat) : Nat := (nCh a * 8 + nDie a) * 2048 + nBlock a

/-- Array address of a byte: block, page group, plane, byte of the page and its spare. -/
def nandAddr (block page plane byte : Nat) : Nat := ((block * 1024 + page) * 4 + plane) * 18432 + byte

/-- A byte of the array: what was programmed, or a free value. -/
def State.nandByte (s : State) (a : Nat) : Byte :=
  match kvFind s.seed.raw a with | some b => b | none => Config.nandFree a s.free

/-- Forget what a block holds. -/
def State.nandErase (s : State) (block : Nat) : State :=
  s.setSeed (fun d => { d with
    raw := memZero d.raw (nandAddr block 0 0 0) (nandAddr (block + 1) 0 0 0),
    blocks := kvSet {} d.blocks block { pe := (kvGet {} d.blocks block).pe + 1, next := some 0 } })

/-- What a block holds is not given any more. -/
def State.forgetBlock (s : State) (block : Nat) : State :=
  s.setSeed (fun d => { d with raw := memZero d.raw (nandAddr block 0 0 0) (nandAddr (block + 1) 0 0 0) })

/-- Program bytes at an array address. -/
def nandPut (m : List Host.Cell) (a : Nat) : List Byte → List Host.Cell
  | [] => m
  | b :: bs => nandPut (kvPut m a b) (a + 1) bs

/-- Send bytes to host memory in writes of at most the payload size, not across 4 KiB; EP where a byte is poisoned. -/
def hostPieces : Nat → State → Nat → Nat → List (Byte × Bool) → Option Nat → Bool → Owner → State
  | 0, s, _, _, _, _, _, _ => s
  | n + 1, s, a, va, d, pasid, ro, o =>
    if d.isEmpty then s
    else
      let k := min (min s.maxPayload d.length) (4096 - a % 4096)
      let b := d.take k
      let s := s.post { kind := .memWrite, addr := a, data := b.map (fun (y : Byte × Bool) => y.1), len := k, pasid := pasid,
                        ro := ro && s.roEnable, ep := b.any (fun y => y.2), va := some va, owner := o }
      hostPieces n s (a + k) (va + k) (d.drop k) pasid ro o

/-- Write bytes with their marks to a target that an address was translated to. -/
def State.putBytes (s : State) (t : Target) (va : Nat) (d : List (Byte × Bool)) (pasid : Option Nat) (ro : Bool) (o : Owner) : State :=
  match t with
  | .host a => hostPieces (d.length + 1) s a va d pasid ro o
  | _ => s.putMarked t d

/-- What becomes of a buffer that is translated: its extents, or the byte that waits or is denied. -/
inductive BufAns where
  | ok (l : List (Target × Nat)) | waits (pos : Nat) | denied (pos : Nat)
  deriving DecidableEq, Repr

/-- Resolve a buffer page by page: the targets with their lengths, up to a byte that waits or is denied. -/
def resolveLoop : Nat → State → Who → Nat → Nat → Nat → Nat → Access → List (Target × Nat) → State × BufAns
  | 0, s, _, _, _, _, _, _, acc => (s, .ok acc)
  | fuel + 1, s, who, sp, start, pos, len, a, acc =>
    if len ≤ pos then (s, .ok acc)
    else
      let k := s.resolveAt who sp start pos a
      match k.2 with
      | .wait => (k.1, .waits pos)
      | .denied => (k.1, .denied pos)
      | .at_ t room =>
        let n := min room (len - pos)
        resolveLoop fuel k.1 who sp start (pos + n) len a (acc ++ [(t, n)])

/-- Write a buffer from an address on: one piece per extent. -/
def putExtents : List (Target × Nat) → State → Nat → List (Byte × Bool) → Option Nat → Bool → Owner → State
  | [], s, _, _, _, _, _ => s
  | (t, n) :: l, s, va, d, pasid, ro, o => putExtents l (s.putBytes t va (d.take n) pasid ro o) (va + n) (d.drop n) pasid ro o

/-- Read extents; the bytes of host memory come with the command. -/
def readExt : List (Target × Nat) → State → List (Byte × Bool) → List (Byte × Bool) → State × List (Byte × Bool)
  | [], s, _, got => (s, got)
  | (t, n) :: l, s, host, got =>
    match t with
    | .host _ => readExt l s (host.drop n) (got ++ (host ++ List.replicate n (0, false)).take n)
    | _ =>
      let r := s.getMarked t n
      readExt l r.1 host (got ++ r.2)

/-- Bytes of the extents that lie in host memory; whether there are any. -/
def hostBytes (l : List (Target × Nat)) : Nat := (l.map (fun e => match e.1 with | .host _ => e.2 | _ => 0)).foldl (· + ·) 0
def anyHost (l : List (Target × Nat)) : Bool := l.any (fun e => match e.1 with | .host _ => true | _ => false)

/-- The host address `n` bytes into the host parts of extents. -/
def hostAt : List (Target × Nat) → Nat → Nat
  | [], _ => 0
  | (.host a, k) :: l, n => if n < k then a + n else hostAt l (n - k)
  | _ :: l, n => hostAt l n

/-- The host address of the request behind the bytes that arrived for the reads of extents. -/
def hostFailAt (ext : List (Target × Nat)) (h : HostRead) : Nat := hostAt ext (min h.data.length (hostBytes ext - 1))

/-- The host's answer to the reads of extents: the request behind the bytes that arrived fails, with a code; poison is logged and
goes on with the data. -/
def State.hostAnswers (s : State) (ext : List (Target × Nat)) (h : HostRead) (host : List (Byte × Bool)) : State × Option Nat :=
  if !anyHost ext then (s, none)
  else match h.fail with
    | some e => (s.hostReadFails e (hostFailAt ext h), some (failCode e))
    | none => ((if (host.take (hostBytes ext)).any (fun y => y.2) then s.poisonedCpl true 0 (hostBytes ext) else s), none)

/-- An extent may be accessed now: host requests may leave, a read has Hopper space (R286) and a tag of the share of rows and
gleaners (R285), no snoop is due (R509), the plot is awake, or it is fenced (0x40). `some 0`: it waits. -/
def State.reachOne (s : State) (t : Target) (n : Nat) (acc : Access) : State × Option Nat :=
  match t with
  | .host _ =>
    (s, if s.mayRequest && (acc == .write || (s.tagRoom false && s.freeTag.isSome && s.hopperFree (min n s.maxRead))) then none else some 0)
  | .hbm a =>
    let c := s.cohAccess (!(acc == .read)) a n
    (c.1, if c.2 then none else some 0)
  | .tilth q _ =>
    let c := s.reachTilth q
    (c.1, match c.2 with | .ready => none | .waits => some 0 | .fenced => some 0x40)

/-- Every extent of a buffer may be accessed now. -/
def reachBuf : List (Target × Nat) → State → Access → State × Option Nat
  | [], s, _ => (s, none)
  | (t, n) :: l, s, acc =>
    let c := s.reachOne t n acc
    match c.2 with
    | some e => (c.1, some e)
    | none => reachBuf l c.1 acc

/-- A SEED descriptor that has started and has no result. -/
def State.seedDesc (s : State) (n q sop : Nat) : Option Slot :=
  match s.slot n q with
  | some x => if x.d.opcode == 3 && x.d.sop == sop && x.state == .started && x.result.isNone then some x else none
  | none => none

/-- Descriptors to one die execute in the order in which they started (R713). -/
def State.seedTurn (s : State) (n q : Nat) (d : Desc) : Bool :=
  let die (a : Nat) : Nat := nCh a * 8 + nDie a
  (s.seed.order.find? (fun e => match s.slot e.1 e.2 with
    | some y => y.state == .started && y.result.isNone && die y.d.naddr == die d.naddr
    | none => false)) == some (n, q)

/-- Its result. -/
def State.seedResult (s : State) (n q code result addr : Nat) : State :=
  s.modSlot n q (fun x => { x with result := some (code, result, addr) })

/-- What stops a SEED operation before it begins: SEED_OFF, SEED_ADDRESS, SEED_BAD_BLOCK, SEED_ORDER; 0 for nothing. -/
def State.seedOpCheck (s : State) (d : Desc) : Nat :=
  let a := d.naddr
  let blk := nBlockId a
  let single := nPage a != 0 || nPlane a != 0 || d.count != 1
  if s.seed.state == .off then 0x306
  else if d.count = 0 || 64 < d.count || 1024 < nPage a + d.count || (d.sop = 1 && nPlane a != 0) || (2 ≤ d.sop && single) then 0x305
  else if (d.sop = 1 || d.sop = 2) && s.seed.bad.contains blk then 0x304
  else if d.sop = 1 && (match (kvGet {} s.seed.blocks blk).next with | some k => k != nPage a | none => false) then 0x303
  else 0

/-- The extents of a buffer once it is translated and every one may be accessed; what fails it ends the descriptor, the code and
the buffer's address going into its record. -/
def State.seedBuf (s : State) (n q : Nat) (d : Desc) (len : Nat) (acc : Access) : State × Option (List (Target × Nat)) :=
  let k := resolveLoop (len + 1) s (s.sowWho n q) d.bspace d.buf 0 len acc []
  match k.2 with
  | .waits pos =>
    if (match s.slot n q with | some x => x.waitAt == some pos | none => true) then (k.1, none)
    else ((k.1.modSlot n q (fun x => { x with waitAt := some pos })).bump O.runaheadWaits, none)
  | .denied pos => (k.1.seedResult n q 0x21 0 ((d.buf + pos) % 2 ^ 64), none)
  | .ok ext =>
    let r := reachBuf ext k.1 acc
    match r.2 with
    | none => (r.1, some ext)
    | some 0 => (r.1, none)
    | some c => (r.1.seedResult n q c 0 d.buf, none)

/-- A SEED descriptor whose turn at its die it is: the state once the fast clock runs for it (R86) and what stops it is checked, and
its slot where it goes on. New programs and erases wait while the NAND is hot (R94). -/
def State.seedBegin (s : State) (n q sop : Nat) : State × Option Slot :=
  match s.seedDesc n q sop with
  | none => (s, none)
  | some x =>
    if !s.seedTurn n q x.d then (s, none)
    else
      let c := s.seedOpCheck x.d
      if c != 0 then (s.hlWork.seedResult n q c 0 0, none)
      else if s.pwr.nandPause && (sop == 1 || sop == 2) then (s, none)
      else (s.hlWork, some x)

/-- SEED_READ: pages with ECC and retries into the buffer; an uncorrectable sector arrives poisoned. With NO_RETRY no step of
retries is taken, and with RAW nothing is corrected either (R712). -/
def execSeedRead (n : Fin 4096) (seq : Nat) (r : NandResult) (s : State) : Out :=
  let b := s.seedBegin n seq 0
  match b.2 with
  | none => .next b.1
  | some x =>
    let d := x.d
    let per := d.pageBytes
    let k := b.1.seedBuf n seq d (d.count * per) .write
    match k.2 with
    | none => .next k.1
    | some ext =>
      let bs := (List.range (d.count * per)).map (fun i =>
        (k.1.nandByte (nandAddr (nBlockId d.naddr) (nPage d.naddr + i / per) (nPlane d.naddr) (i % per)),
         !d.raw && r.lost.contains (i / sectorBytes)))
      let s := putExtents ext { k.1 with free := k.1.free + 1 } d.buf bs (k.1.furTag n) d.ro (.seed n seq)
      let bad := !d.raw && !r.lost.isEmpty
      let s := if bad then (s.bumpBy O.ueSectors r.lost.length).raise Sc.seedUe else s
      let retry := !d.raw && !d.noRetry
      let s := if retry then s.bumpBy O.retryReads r.retries else s
      .next (s.seedResult n seq (if bad then 0x302 else 0) ((if retry then r.step % 256 else 0) + (if d.raw then 0 else r.bits % 256 * 256)) 0)

/-- SEED_PROGRAM: page groups in order, once the buffer is read; where the status is failed, what they hold is not given. -/
def execSeedProgram (n : Fin 4096) (seq : Nat) (r : NandResult) (s : State) : Out :=
  let b := s.seedBegin n seq 1
  match b.2 with
  | none => .next b.1
  | some x =>
    let d := x.d
    let per := d.pageBytes
    let k := b.1.seedBuf n seq d (d.count * per * 4) .read
    match k.2 with
    | none => .next k.1
    | some ext =>
      let h := k.1.hostAnswers ext r.host r.host.data
      match h.2 with
      | some c => .next (h.1.seedResult n seq c 0 (hostFailAt ext r.host))
      | none =>
        let g := readExt ext h.1 r.host.data []
        let blk := nBlockId d.naddr
        if g.2.any (fun y => y.2) then .next (g.1.seedResult n seq 0x60 0 d.buf)
        else
          let bs := g.2.map (fun (y : Byte × Bool) => y.1)
          let raw := if r.failed then g.1.seed.raw else (List.range (d.count * 4)).foldl (fun m i =>
            nandPut m (nandAddr blk (nPage d.naddr + i / 4) (i % 4) 0) ((bs.drop (i * per)).take per)) g.1.seed.raw
          let old : Block := kvGet {} g.1.seed.blocks blk
          let s := g.1.setSeed (fun e => { e with raw := raw, blocks := kvPut e.blocks blk { old with next := some (nPage d.naddr + d.count) } })
          let s := s.bumpBy O.nandBytes (d.count * 4 * 16384)
          .next (s.seedResult n seq (if r.failed then 0x300 else 0) 0 0)

/-- SEED_ERASE. -/
def execSeedErase (n : Fin 4096) (seq : Nat) (r : NandResult) (s : State) : Out :=
  let b := s.seedBegin n seq 2
  match b.2 with
  | none => .next b.1
  | some x =>
    if r.failed then .next ((b.1.forgetBlock (nBlockId x.d.naddr)).seedResult n seq 0x301 0 0)
    else .next ((b.1.nandErase (nBlockId x.d.naddr)).seedResult n seq 0 0 0)

/-- MARK_BAD. -/
def execMarkBad (n : Fin 4096) (seq : Nat) (_r : NandResult) (s : State) : Out :=
  let b := s.seedBegin n seq 3
  match b.2 with
  | none => .next b.1
  | some x =>
    let blk := nBlockId x.d.naddr
    let s := if b.1.seed.bad.contains blk then b.1 else b.1.setBad blk
    .next (s.seedResult n seq 0 0 0)

/-- Fail what reaches the seedbank when its domain goes off (R710): SEED descriptors and Drill transfers. -/
def State.seedOffFails (s : State) : State :=
  let s := s.each (s.g.store.filter (fun x => x.d.opcode == 3 && x.state == .started && x.result.isNone)) (fun s x => s.seedResult x.furrow x.seq 0x306 0 0)
  let off (x : Xfer) : Xfer :=
    if x.begun && (x.d.srcSpace == 4 || x.d.dstSpace == 4) && x.finished.isNone then { x with finished := some (0x306, 0) } else x
  s.each s.drill.rows (fun s r => s.setRow r.1 { s.row r.1 with xfers := (s.row r.1).xfers.map off })

end Sys2Proof.Machine
end

