-- ==== Sys2Proof/Machine/Rotate.lean ====
section
/-! DEFINITION. The rotation engine (R715-R730): entries, sows, reaps, scheduling, and what resets and halts do to it. -/

namespace Sys2Proof.Machine

/-- Stakes in the groups that ROT_STAKES names (R715). -/
def State.rotStake (s : State) (k : Nat) : Bool :=
  let v := s.val O.rotStakes
  decide (fld v 9 0 ≤ k / 64) && decide (k / 64 < fld v 9 0 + fld v 26 16)

/-- The fields of 32 bytes written to ROT_SUBMIT. -/
def parseEntry (t : Nat) (b : List Byte) : RotEntry :=
  { ticket := t, raw := b, lot := bytesAt b 0 2, flags := bytesAt b 2 1, gen := bytesAt b 4 4, sownStake := bytesAt b 8 2,
    reapedStake := bytesAt b 10 2, doneStake := bytesAt b 12 2, doneValue := bytesAt b 16 8, trainLimit := bytesAt b 24 4 }

namespace RotEntry
def reap (e : RotEntry) : Bool := bit e.flags 0
def keep (e : RotEntry) : Bool := bit e.flags 1
def sowSig (e : RotEntry) : Bool := bit e.flags 2
def reapSig (e : RotEntry) : Bool := bit e.flags 3
end RotEntry

/-- Change an entry. -/
def State.modEntry (s : State) (t : Nat) (f : RotEntry → RotEntry) : State :=
  { s with rot := { s.rot with entries := s.rot.entries.map (fun e => if e.ticket == t then f e else e) } }

/-- An entry of the queue. -/
def State.entry (s : State) (t : Nat) : Option RotEntry := s.rot.entries.find? (fun e => e.ticket == t)

/-- An entry with a reserved encoding or a field out of range (R715). -/
def State.rotEntryBad (s : State) (e : RotEntry) : Bool :=
  decide (16384 ≤ e.lot) || decide (16 ≤ e.flags) || bytesAt e.raw 3 1 != 0 || bytesAt e.raw 14 2 != 0 || bytesAt e.raw 28 4 != 0
    || (e.sowSig && !s.rotStake e.sownStake) || (e.reapSig && !s.rotStake e.reapedStake) || (e.reap && !s.rotStake e.doneStake)

/-- A lot command that waits names the lot (R697). -/
def State.lotWaits (s : State) (lot : Nat) : Bool := match s.seed.waiting with | some (_, c) => c.lot == lot | none => false

/-- ROT_SUBMIT (R715): the dictionary status of the write. -/
def State.rotSubmitOp (s : State) (route : Route) (b : List Byte) : State × Nat :=
  let e := parseEntry s.rot.next b
  let l := s.lot e.lot
  if b.length != 32 then (s, Od.typeMismatch)
  else if s.seed.state == .replaying then (s, Od.busy)
  else if s.rotEntryBad e then (s, Od.range)
  else if bit (s.val O.splitFtl) 0 || !(l.state == .empty || l.state == .ready) || s.lotWaits e.lot then (s, Od.state)
  else if 256 ≤ s.rot.entries.length then (s, Od.busy)
  else
    let s := s.setLot e.lot { l with state := .rotating }
    ({ s with rot := { s.rot with
        entries := s.rot.entries ++ [e], next := s.rot.next + 1,
        submitted := s.rot.submitted.filter (fun x => !(x.1 == route)) ++ [(route, e.ticket)] } }, 0)

/-- A rotation command as it reaches running firmware that does not replay (R130, R704, log entry 130). -/
def State.rotCommand (s : State) (f : State → State × Nat) : State :=
  if s.hl.running && !(s.seed.state == .replaying) then (f s.hlWork).1 else s

/-! ### The pool (R720) -/

def State.rotFirst (s : State) : Nat := fld (s.val O.rotPool) 12 0
def State.rotAcres (s : State) : Nat := fld (s.val O.rotPool) 28 16

/-- Pool acres that entries own, or that are still being unmapped (R59). -/
def State.acresOwned (s : State) : List Nat :=
  s.rot.entries.flatMap (fun e => e.acres) ++ s.rot.freeing.flatMap (fun e => e.2)

/-- Free pool acres, ascending. -/
def State.acresFree (s : State) : List Nat :=
  ((List.range s.rotAcres).map (· + s.rotFirst)).filter (fun a => !s.acresOwned.contains a)

/-- A pool outside HBM, or across the migration pool (R720). -/
def State.rotPoolBad (s : State) (v : Nat) : Bool :=
  let first := fld v 12 0
  let n := fld v 28 16
  decide (hbmAcres < first + n) || (decide (first < s.poolFirst + s.poolAcres) && decide (s.poolFirst < first + n) && n != 0 && s.poolAcres != 0)

/-- ROT_POOL (R720): the dictionary status of the write. -/
def State.rotPoolOp (s : State) (v : Nat) : State × Nat :=
  if s.rotPoolBad v then (s, Od.range)
  else if !s.acresOwned.isEmpty then (s, Od.state)
  else (s.setVal O.rotPool (v &&& 0x1FFF1FFF), 0)

/-- ROT_POOL_WRITE. -/
def execRotPoolWrite (val : Word32) (s : State) : Out := .next (s.rotCommand (fun s => s.rotPoolOp val.toNat))

/-- ROT_POOL_RESET (R722). -/
def State.rotPoolResetOp (s : State) (key : Nat) : State × Nat :=
  if key = 0x5EED0A0A then ({ s with rot := { s.rot with quarantined := false } }, 0) else (s, Od.keyWrong)

/-- ROT_POOL_RESET. -/
def execRotPoolReset (key : Word32) (s : State) : Out := .next (s.rotCommand (fun s => s.rotPoolResetOp key.toNat))

/-! ### Ends of entries (R716) -/

/-- An entry without acres leaves the queue; its lot is at rest again (R696).  An empty queue sets the ROTATION cause in
hardware mode while ROT_RUN is 1 (R719). -/
def State.leaveQueue (s : State) (e : RotEntry) : State :=
  let l := s.lot e.lot
  let s := if l.state == .rotating then s.setLot e.lot { l with state := l.rest } else s
  let s : State := { s with rot := { s.rot with
    entries := s.rot.entries.filter (fun x => x.ticket != e.ticket),
    past := (e :: s.rot.past).take 64 } }
  if s.rot.entries.isEmpty && s.val O.splitRotation == 0 && s.val O.rotRun == 1 then s.attn At.rotation else s

/-- An entry ends FAILED or ABANDONED with a code, holding its acres where it has any. -/
def State.endEntry (s : State) (t : Nat) (abandoned : Bool) (code : Nat) : State :=
  match s.entry t with
  | none => s
  | some e =>
    let s := (if abandoned && e.state == .abandoned then s else s.bump (if abandoned then O.rotAbandoned else O.rotFailed)).attn At.rotation
    let s : State := if e.state == .sowing then { s with rot := { s.rot with waitPool := false } } else s
    let e := { e with state := (if abandoned then .abandoned else .failed), code := code, held := !e.acres.isEmpty, want := 0, step := 0 }
    if e.acres.isEmpty then s.leaveQueue e else s.modEntry t (fun _ => e)

/-- The acre table of a context: the address of the entry of a device-local acre (R445). -/
def State.acreEntryAt (s : State) (ctx k : Nat) : Nat := s.acreBase ctx + 8 * k

/-- Rewrite the acre entries of a lot's range. -/
def State.eachAcreEntry (s : State) (l : Lot) (f : Nat → Nat → Nat) : State :=
  match s.ctxOf l.pasid with
  | none => s
  | some c => (List.range l.size).foldl (fun s i =>
      let a := s.acreEntryAt c (l.dlvBase + i)
      let r := s.hbmRead a 8
      r.1.hbmWrite a (enAll (natLe 8 (f i (leNat r.2.1))))) s

/-- The engine may read, or write, the acre entries of a lot's range now: the host holds no line of them that it must give up
first (R509). -/
def State.acreTableGo (s : State) (l : Lot) (write : Bool) : State × Bool :=
  match s.ctxOf l.pasid with
  | none => (s, true)
  | some c => s.cohAccess write (s.acreEntryAt c l.dlvBase) (8 * l.size)

/-- An acre entry written with V = 0: the rule gives no other field, so R, W, A and ACRE are free (log entry 2). -/
def unmapped (s : State) (i : Nat) : Nat := Config.freeValue (s.free + i) % 2 ^ 21 &&& 0x1FFF0E

/-- The draws of `unmapped` over a lot are used up. -/
def State.drewAcres (s : State) (l : Lot) : State := { s with free := s.free + l.size }

/-- The engine's INVAL_RANGE over a lot's device-local range, through its own queue (R447, R453). -/
def State.invalLot (s : State) (l : Lot) (o : Own) : State :=
  s.ownCommand { ticket := none, headland := true, kind := 1, space := 1, pasid := l.pasid, start := l.dlvBase * acreBytes,
                 length := l.size * acreBytes, own := o }

/-- Free the acres of an entry: they are unmapped, and return to the pool once the invalidation of the range has completed (R59). -/
def State.freeAcres (s : State) (t : Nat) : State :=
  match s.entry t with
  | none => s
  | some e =>
    let l := s.lot e.lot
    let s := if e.acres.isEmpty then s
      else
        let s := ((s.eachAcreEntry l (fun i v => if e.acres.contains (fld v 20 8) && i < l.size then unmapped s i else v)).drewAcres l).invalLot l (.free t)
        { s with rot := { s.rot with freeing := s.rot.freeing ++ [(t, e.acres)] } }
    s.modEntry t (fun x => { x with acres := [], held := false })

/-! ### Sowing (R717) -/

/-- A sow or a reap may start: PERST# is not asserted and the FTL serves (R710, R719, R722, R729). -/
def State.rotRuns (s : State) : Bool :=
  !s.pwr.perst && s.pwr.mode == .up && s.ftlUp && !s.rot.quarantined && !s.fc.packageFenced

def State.sowing (s : State) : Option RotEntry := s.rot.entries.find? (fun e => e.state == .sowing)
def State.reaping (s : State) : Option RotEntry := s.rot.entries.find? (fun e => e.state == .reaping)

/-- Entries that count against RESIDENT_MAX. -/
def State.residents (s : State) : Nat :=
  (s.rot.entries.filter (fun e => e.state == .sowing || e.state == .sown || e.state == .reaping || !e.acres.isEmpty)).length

/-- The generation an entry sows: its number (none: sow zeros), or a failure. -/
def sowGen (l : Lot) (gen : Nat) : Option (Option Gen) :=
  if gen = noGen then some none
  else if gen = 0 then (match l.gens with | g :: _ => some (some g) | [] => none)
  else (match l.gen gen with | some g => some (some g) | none => none)

/-- Step 1: the checks; 0 where they pass. -/
def State.sowCheck (s : State) (e : RotEntry) : State × Nat :=
  let l := s.lot e.lot
  match s.ctxOf l.pasid with
  | none => (s, 0x314)
  | some c =>
    if !bit (s.pctxCtrl c) 25 || s.acreCount c < l.dlvBase + l.size then (s, 0x314)
    else
      let s := s.scrubFor (s.acreEntryAt c l.dlvBase) (8 * l.size)
      if (List.range l.size).any (fun i => bit (leNat (memRead s.hbm (s.acreEntryAt c (l.dlvBase + i)) 8)) 0) then (s, 0x315)
      else (s, if (sowGen l e.gen).isNone then 0x311 else 0)

/-- Step 2: take free acres of the pool, or wait for them. -/
def State.takeAcres (s : State) (t : Nat) : State :=
  match s.entry t with
  | none => s
  | some e =>
    let l := s.lot e.lot
    let free := s.acresFree
    if free.length < l.size then { s with rot := { s.rot with waitPool := true } }
    else
      let s : State := { s with rot := { s.rot with waitPool := false } }
      s.modEntry t (fun x => { x with acres := free.take l.size, step := 3 })

/-- Start the sow of an entry; it waits while the host holds a modified line of the acre table (R509). -/
def State.startSow (s : State) (t : Nat) : State :=
  match s.entry t with
  | none => s
  | some e =>
    let k := s.acreTableGo (s.lot e.lot) false
    let r := k.1.hlWork.sowCheck e
    let s := r.1
    if !k.2 then k.1.modEntry t (fun x => { x with want := 1 })
    else if r.2 != 0 then s.endEntry t false r.2
    else (s.modEntry t (fun x => { x with state := .sowing, step := 2, want := 0 })).takeAcres t

/-- The next sow: the oldest QUEUED entry in hardware mode, the oldest one ordered by GO_SOW in host-assisted mode. -/
def State.nextSow (s : State) : Option RotEntry :=
  if s.val O.splitRotation == 0 then
    (if s.val O.rotRun == 1 && s.residents < s.val O.residentMax then s.rot.entries.find? (fun e => e.state == .queued) else none)
  else s.rot.entries.find? (fun e => e.state == .queued && e.want == 1)

/-- An entry that holds acres ends by CANCEL (R716), once the host holds no line of the acre table (R509); until then it is
ordered and waits. -/
def State.cancelHeld (s : State) (t : Nat) : State :=
  match s.entry t with
  | none => s
  | some e =>
    let k := s.acreTableGo (s.lot e.lot) true
    if !k.2 && !e.acres.isEmpty then k.1.modEntry t (fun x => { x with want := 3 })
    else if e.state == .sown then (s.freeAcres t).endEntry t false 0x31A
    else match (s.freeAcres t).entry t with
      | some x => (s.freeAcres t).leaveQueue { x with want := 0 }
      | none => s

/-- The CANCELs that wait, in ticket order. -/
def State.cancelWaits (s : State) : State :=
  s.each (s.rot.entries.filter (fun e => e.want == 3)) (fun s e => s.cancelHeld e.ticket)

/-- SOW_START; CANCELs that wait come first. -/
def execSowStart (s : State) : Out :=
  let s := s.cancelWaits
  if !s.rotRuns || s.sowing.isSome then .next s
  else match s.nextSow with
    | some e => .next (s.startSow e.ticket)
    | none => .next s

/-- GO_SOW (R719): STATE outside host-assisted mode and for an entry that is not QUEUED; a sow that runs delays it. -/
def State.goSowOp (s : State) (t : Nat) : State × Nat :=
  match s.entry t with
  | none => (s, Od.state)
  | some e =>
    if s.seed.state == .replaying then (s, Od.busy)
    else if s.val O.splitRotation == 0 || !(e.state == .queued) then (s, Od.state)
    else if s.rotRuns && s.sowing.isNone then (s.startSow t, 0)
    else (s.modEntry t (fun x => { x with want := 1 }), 0)

/-- GO_SOW. -/
def execGoSow (ticket : Word32) (s : State) : Out := .next (s.rotCommand (fun s => s.goSowOp ticket.toNat))

/-- The cells of [lo, hi), moved so that lo becomes base. -/
def moveCells (m : List Host.Cell) (lo hi base : Nat) : List Host.Cell :=
  (m.filter (fun c => decide (lo ≤ c.1) && decide (c.1 < hi))).map (fun (c : Host.Cell) => (c.1 - lo + base, c.2))

/-- Fill an acre with a part of a generation; a damaged sector arrives poisoned (R691). -/
def State.fillAcre (s : State) (acre : Nat) (g : Option Gen) (off : Nat) : State :=
  let s := s.scrubAcre acre
  let b := acre * acreBytes
  let data := match g with | some g => moveCells g.data off (off + acreBytes) b | none => []
  let bad := match g with
    | some g => g.damaged.filter (fun k => decide (off ≤ k * sectorBytes) && decide (k * sectorBytes < off + acreBytes))
    | none => []
  let m := data.foldl (fun (m : List Host.Cell) c => kvSet memDefault m c.1 c.2) (memZero s.hbm b (b + acreBytes))
  let p := memZero s.host.poison (b / 64) ((b + acreBytes) / 64)
  let p := bad.foldl (fun p k => (List.range 64).foldl (fun p i => kvPut p ((b + (k * sectorBytes - off)) / 64 + i) true) p) p
  s.setHbm (m, p)

/-- Step 6 of a sow, once its invalidation has completed. -/
def State.sownOp (s : State) (t : Nat) : State :=
  match s.entry t with
  | none => s
  | some e =>
    let l := s.lot e.lot
    match sowGen l e.gen with
    | none => s
    | some g =>
      if !(e.state == .sowing && e.step == 5) then s
      else
        let damaged := match g with | some g => !g.damaged.isEmpty | none => false
        let s := s.modEntry t (fun x => { x with
          state := .sown, code := (if damaged then 0x316 else 0), genSown := (match g with | some g => g.num | none => noGen),
          tSown := s.rackTime, sownAt := s.now, step := 0, held := true })
        let s := (s.bump O.sows).bumpBy O.sowBytes (l.size * acreBytes)
        if e.sowSig then (s.stakeAddOp .headland e.sownStake 1).settleStakes else s

/-- SOW_COMPLETE: steps 3 to 5, once the host holds no line of the acres and of the acre table (R509); step 6 follows when the invalidation
completes. -/
def execSowComplete (s : State) : Out :=
  match s.sowing with
  | none => .next s
  | some e0 =>
    let s := if e0.acres.isEmpty then s.takeAcres e0.ticket else s
    match s.entry e0.ticket with
    | none => .next s
    | some e =>
      let l := s.lot e.lot
      if e.acres.isEmpty || e.step == 5 || !s.ftlUp then .next s
      else match sowGen l e.gen with
        | none => .next (s.endEntry e.ticket false 0x311)
        | some g =>
          let k := s.cohAcres true e.acres
          let q := k.1.acreTableGo l true
          if !k.2 || !q.2 then .next q.1 else
          let s := q.1
          let s := (e.acres.mapIdx (fun i a => (i, a))).foldl (fun s (x : Nat × Nat) => s.fillAcre x.2 g (x.1 * acreBytes)) s
          let s := s.eachAcreEntry l (fun i _ => 1 + l.rights * 2 + e.acres.getD i 0 * 256)
          let s := (s.invalLot l (.sow e.ticket)).modEntry e.ticket (fun x => { x with step := 5 })
          let s := s.setSeed (fun d => { d with bands := d.bands.map (fun (b : Nat × Band) =>
            if b.2.lot == e.lot && (match g with | some g => b.2.gen == some g.num | none => false) then (b.1, { b.2 with reads := b.2.reads + 1 }) else b) })
          .next s

/-! ### Reaping (R718) -/

/-- Start the reap of an entry: step 1, once the host holds no line of the acre table (R509). -/
def State.startReap (s : State) (t : Nat) : State :=
  match s.entry t with
  | none => s
  | some e =>
    let l := s.lot e.lot
    let k := s.acreTableGo l true
    if s.seed.state == .readOnly then s.endEntry t false 0x319
    else if 0xFFFFFFFE < l.nextGen then s.endEntry t false 0x313
    else if !k.2 then k.1.modEntry t (fun x => { x with want := 2 })
    else
      let s := if e.keep then s.eachAcreEntry l (fun _ v => setFld v 3 2 0)
        else (s.eachAcreEntry l (fun i _ => unmapped s i)).drewAcres l
      s.hlWork.invalLot l (.reap t) |>.modEntry t (fun x => { x with state := .reaping, step := 1, want := 0 })

/-- Step 2 of a reap, once the tenant's acres are unmapped: the engine's draft is opened. -/
def State.unmappedOp (s : State) (t : Nat) : State :=
  match s.entry t with
  | none => s
  | some e =>
    if !(e.state == .reaping && e.step == 1) then s
    else
      let l := s.lot e.lot
      let base := if e.genSown = noGen then none else if (l.gen e.genSown).isSome then some e.genSown else none
      let s := s.setLot e.lot { s.lot e.lot with draft := some { base := base, prior := .rotating } }
      s.modEntry t (fun x => { x with step := 2 })

/-- The next reap: one ordered by GO_REAP, or in hardware mode a SOWN entry whose DONE is met; the oldest first. -/
def State.nextReap (s : State) : Option RotEntry :=
  s.rot.entries.find? (fun e => e.want == 2
    || (s.val O.splitRotation == 0 && e.state == .sown && e.want != 3 && e.reap && decide (e.doneValue ≤ s.stake e.doneStake)))

/-- Reaps may start. -/
def State.reapRuns (s : State) : Bool := s.rotRuns && s.reaping.isNone && !s.pwr.nandPause

/-- REAP_START; CANCELs that wait come first. -/
def execReapStart (s : State) : Out :=
  let s := s.cancelWaits
  if !s.reapRuns then .next s
  else match s.nextReap with
    | some e => .next (s.startReap e.ticket)
    | none => .next s

/-- GO_REAP (R716, R719). -/
def State.goReapOp (s : State) (t : Nat) : State × Nat :=
  match s.entry t with
  | none => (s, Od.state)
  | some e =>
    if s.seed.state == .replaying then (s, Od.busy)
    else if e.want == 3 || !(e.state == .sown || ((e.state == .failed || e.state == .abandoned) && e.held)) then (s, Od.state)
    else if s.reapRuns then (s.startReap t, 0)
    else (s.modEntry t (fun x => { x with want := 2 }), 0)

/-- GO_REAP. -/
def execGoReap (ticket : Word32) (s : State) : Out := .next (s.rotCommand (fun s => s.goReapOp ticket.toNat))

/-- The bytes of an entry's acres, in the order of the lot, and whether a granule is poisoned. -/
def State.acreData (s : State) (acres : List Nat) : List Host.Cell × Bool :=
  ((acres.mapIdx (fun i a => (i, a))).flatMap (fun (x : Nat × Nat) => moveCells s.hbm (x.2 * acreBytes) ((x.2 + 1) * acreBytes) (x.1 * acreBytes)),
   s.host.poison.any (fun p => acres.contains (p.1 * 64 / acreBytes)))

/-- REAP_SIG (R718). -/
def State.reapSignal (s : State) (e : RotEntry) : State :=
  if e.reapSig then (s.stakeAddOp .headland e.reapedStake 1).settleStakes else s

/-- Step 6 of a reap that has committed: the acres go back, or stay with W and A restored (R718). -/
def State.reapRelease (s : State) (t num : Nat) : State :=
  match s.entry t with
  | none => s
  | some e =>
    let l := s.lot e.lot
    let s := (s.bump O.reaps).bumpBy O.reapBytes (l.size * acreBytes)
    let s := s.modEntry t (fun x => { x with genCommitted := num, code := 0, step := 6 })
    if e.keep then (s.eachAcreEntry l (fun _ v => v ||| (l.rights &&& 6) * 2)).invalLot l (.keep t)
    else
      let s := s.modEntry t (fun x => { x with state := .done, acres := [], held := false, tDone := s.rackTime, step := 0 })
      match s.entry t with
      | some e' => (s.leaveQueue e').reapSignal e
      | none => s

/-- The end of a KEEP reap, once the restored rights' invalidation has completed; while the controller is stopped it waits
for the replay (`step` 7, R721). -/
def State.keptOp (s : State) (t : Nat) : State :=
  match s.entry t with
  | none => s
  | some e =>
    if !(e.state == .reaping && decide (6 ≤ e.step)) then s
    else if !s.ftlUp then s.modEntry t (fun x => { x with step := 7 })
    else (s.modEntry t (fun x => { x with state := .sown, step := 0 })).reapSignal e

/-- After the replay the last steps that waited for it are taken (R721). -/
def State.keptAfterReplay (s : State) : State :=
  s.each (s.rot.entries.filter (fun e => e.state == .reaping && e.step == 7)) (fun s e => s.keptOp e.ticket)

/-- REAP_COMPLETE: steps 3 to 6, with the lines that the host held modified (R509). -/
def execReapComplete (s : State) : Out :=
  match s.reaping with
  | none => .next s
  | some e =>
    if !s.nandPrograms || e.step != 2 then .next s
    else if s.seed.state == .readOnly then .next ((s.dropDraft e.lot).endEntry e.ticket false 0x319)
    else
      let k := s.cohAcres false e.acres
      let q := if e.keep then k.1.acreTableGo (s.lot e.lot) true else (k.1, true)
      if !k.2 || !q.2 then .next q.1 else
      let s := q.1.each e.acres (fun s a => s.scrubAcre a)
      let d := s.acreData e.acres
      if d.2 then .next ((s.dropDraft e.lot).endEntry e.ticket false 0x317)
      else
        let l := s.lot e.lot
        let n := (sectorsOf d.1).length
        let s := s.setLot e.lot { l with draft := l.draft.map (fun x => { x with data := d.1 }) }
        let s := s.programSectors e.lot n
        let num := l.nextGen
        .next ((s.commit e.lot).reapRelease e.ticket num)

/-- What the rotation engine goes on with when an invalidation of its own completes (R717, R718). -/
def State.ownDone (s : State) (o : Own) : State :=
  match o with
  | .sow t => s.sownOp t
  | .reap t => s.unmappedOp t
  | .keep t => s.keptOp t
  | .free t => { s with rot := { s.rot with freeing := s.rot.freeing.filter (fun e => e.1 != t) } }
  | _ => s

/-- INVALIDATION_COMPLETE (R462): every engine has acknowledged. -/
def execInvalidationComplete (s : State) : Out :=
  match s.plat.executing with
  | some c => if s.plat.acks = 0 && !c.modeSwitch then .next ((s.cmdDone c 0).ownDone c.own) else .next s
  | none => .next s

/-- CANCEL (R716); a sow that waits for acres of the pool is cancelled too (R728). -/
def State.cancelOp (s : State) (t : Nat) : State × Nat :=
  match s.entry t with
  | none => (s, Od.state)
  | some e =>
    if s.seed.state == .replaying then (s, Od.busy)
    else match e.state with
      | .queued => (s.endEntry t false 0x31A, 0)
      | .sowing =>
        if e.acres.isEmpty then
          let s : State := { s with rot := { s.rot with waitPool := false } }
          (s.endEntry t false 0x31A, 0)
        else (s, Od.state)
      | .sown => (s.cancelHeld t, 0)
      | .failed => (s.cancelHeld t, 0)
      | .abandoned => (s.cancelHeld t, 0)
      | _ => (s, Od.state)

/-- CANCEL. -/
def execCancel (ticket : Word32) (s : State) : Out := .next (s.rotCommand (fun s => s.cancelOp ticket.toNat))

/-- TRAIN_LIMIT_EXPIRY (R719): once for each entry. -/
def execTrainLimitExpiry (ticket : Word32) (s : State) : Out :=
  match s.entry ticket.toNat with
  | none => .next s
  | some e =>
    if e.state == .sown && !e.limitPassed && e.trainLimit != 0 then
      let s := s.until_ (e.sownAt + e.trainLimit * 1000000000)
      .next ((s.hlWork.modEntry e.ticket (fun x => { x with limitPassed := true })).attn At.rotation)
    else .next s

/-! ### Resets, power loss, halts (R721, R722) -/

/-- Power-on, module reset, brown-out: queue and ownership map are lost, every lot is READY or EMPTY. -/
def State.rotPowerLoss (s : State) : State :=
  let s := s.each (s.seed.lots.filter (fun e => e.2.state == .rotating)) (fun s e => s.setLot e.1 { e.2 with state := e.2.rest })
  { s with rot := { s.rot with entries := [], past := [], waitPool := false, quarantined := false, freeing := [] } }

/-- A reap that has not committed (R721). -/
def RotEntry.uncommitted (e : RotEntry) : Bool := e.state == .reaping && decide (e.step < 6)

/-- Fundamental reset, hot reset, FLR: every entry becomes ABANDONED and its acres are freed; a reap that has committed is
DONE; ROT_RUN becomes 0. -/
def State.rotFundamental (s : State) : State :=
  let s := s.setVal O.rotRun 0
  s.each s.rot.entries (fun s e =>
    let s := if e.uncommitted then s.dropDraft e.lot else s
    let free (x : RotEntry) : RotEntry := { x with acres := [], held := false }
    if e.state == .reaping && !e.uncommitted then
      s.leaveQueue { free e with state := .done, tDone := s.rackTime, step := 0 }
    else (s.modEntry e.ticket free).endEntry e.ticket true 0x318)

/-- A sow that runs and a reap that has not committed become ABANDONED and held; replay discards the draft. -/
def State.rotHeld (s : State) : State :=
  s.each (s.rot.entries.filter (fun e => e.state == .sowing || e.uncommitted)) (fun s e => s.endEntry e.ticket true 0x318)

/-- Headland reset with the CRC of the AON RAM (R722). -/
def State.rotHeadlandReset (s : State) (crcOk : Bool) : State :=
  if crcOk then s.rotHeld
  else
    let s := s.rotPowerLoss
    let s : State := { s with rot := { s.rot with quarantined := true } }
    s.raise Sc.rotPoolLost

/-- Slice halt (R673): a reap of the lot that has not committed is abandoned, held. -/
def State.rotSliceHalt (s : State) (lot : Nat) : State :=
  s.each (s.rot.entries.filter (fun e => e.lot == lot && e.uncommitted)) (fun s e => (s.dropDraft e.lot).endEntry e.ticket true 0x318)

/-- SEED_THERM_OFF (R710). -/
def State.seedOffOp (s : State) : State :=
  if s.seed.state == .off then s
  else
    let s := s.each (s.rot.entries.filter (fun e => e.state == .sowing)) (fun s e => s.endEntry e.ticket false 0x306)
    let s := (s.rotHeld).lotDrop 0x306
    let s := (s.setSeed (fun d => { d with state := .off, coolSince := none })).seedOffFails
    s.raise Sc.seedThermOff

/-- SEED_THERM_OFF. -/
def execSeedThermOff (s : State) : Out := .next s.seedOffOp

/-- SEED_THERM_RETURN (R710): both NAND sensors have read below 75 degrees for 10 s; the domain comes back and the controller
replays. -/
def execSeedThermReturn (s : State) : Out :=
  match s.seed.coolSince with
  | some t => .next (if s.seed.state == .off && s.hl.running then (s.until_ (t + 10000000000)).seedStart else s)
  | none => .next s

end Sys2Proof.Machine
end

