-- ==== Sys2Proof/Machine/Slice.lean ====
section
/-! DEFINITION. Port identity, Rack Time, and the slice hierarchy (R636-R685). -/

namespace Sys2Proof.Machine

/-! ### Fault records as bytes (R754) -/

/-- The class as it is encoded. -/
def Cls.code : Cls → Nat
  | .corrected => 0 | .contained => 1 | .fatal => 2

/-- The 32 bytes of a record. -/
def recordLayout (r : Record) : List Byte :=
  natLe 2 (r.source % 2048 + r.cls.code * 2 ^ 11 + b2n r.escalated * 2 ^ 13 + b2n r.forced * 2 ^ 14 + b2n r.rail * 2 ^ 15)
    ++ natLe 2 (min r.rep 0xFFFF) ++ natLe 1 r.cap.access ++ natLe 1 r.reaction
    ++ natLe 2 (r.cap.master % 4096 + r.cap.masterKind * 4096) ++ natLe 8 (r.cap.addr.getD 0) ++ natLe 8 r.time
    ++ natLe 2 (min r.lost 0xFFFF)
    ++ natLe 1 (b2n r.cap.addr.isSome + 2 * b2n r.firstError + 4 * b2n r.ovf + 8 * b2n r.live + 16 * b2n r.timeAligned + 32 * b2n r.hostReact)
    ++ natLe 1 r.die ++ natLe 4 (match r.seq with | some q => q % 2 ^ 31 + 2 ^ 31 | none => 0)

/-! ### Membership -/

/-- The subscriptions delivered on the manager route are disabled when membership ends (R210). -/
def State.dropRouteM (s : State) : State :=
  s.each (List.range 32) (fun s i =>
    let k := O.subscription + i
    if fld (s.val k) 29 28 = 2 && fld (s.val k) 26 24 != 0 then s.setVal k (setFld (s.val k) 26 24 0) else s)

/-- Membership is lost with the power of the Tramline dies: no word goes out, and nothing of the manager is kept. -/
def State.loseSlice (s : State) : State := ({ s with slice := {}, mgr := {} } : State).dropRouteM

/-- A message leaves from every Tramline die that is on (R672): from its own port on the way, or from a rack port of its own
where the next hop is in this rack. -/
def State.tellDies (s : State) (m : Msg) : State :=
  let m := { m with src := s.addr, slice := s.sliceField }
  s.each ([0, 1].filter (fun d => s.dieOn d)) (fun s d =>
    match s.route m.kind m.dst with
    | none => s
    | some (hop, p) =>
      if portDie p = d then s.putOn p { m with hop := hop }
      else if rackOf hop = rackOf s.addr then
        match (List.range 11).find? (fun q => 3 ≤ q && portDie q == d && (s.port q).active) with
        | some q => s.putOn q { m with hop := hop }
        | none => s
      else s)

/-- This package is the manager of its slice. -/
def State.isManager (s : State) : Bool := s.mgr.state == .active || s.mgr.state == .forming || s.mgr.state == .restarting

/-- The slice ends here: optical ports go OFF. -/
def State.endOptical (s : State) : State :=
  { s with slice := { s.slice with optical := [] } }.refreshPorts

/-- Every outstanding request fails with a code. -/
def State.failReqs (s : State) (code : Nat) : State :=
  let l := s.fab.reqs
  let s : State := { s with fab := { s.fab with reqs := [] } }
  s.each l (fun s q => (s.fabFail q code).fabSettle q)

/-- Transfers in flight toward members fail with MEMBER_RESET (R673). -/
def State.failStiles (s : State) : State :=
  let s : State := { s with fab := { s.fab with ordered := [] } }
  let s := s.failReqs 0x50
  let hit (x : Xfer) : Xfer :=
    if x.begun && (x.d.srcSpace == 3 || x.d.dstSpace == 3) && x.finished.isNone && x.endAt.isNone then { x with finished := some (0x50, x.byteVa (x.d.dstSpace == 3) 0) } else x
  s.each s.drill.rows (fun s r => (s.setRow r.1 { s.row r.1 with xfers := (s.row r.1).xfers.map hit }).settle r.1)

/-- Every furrow bound to SLICE_PASID is disabled (R673, R365). -/
def State.disableJob (s : State) : State :=
  if s.val O.haltAction != 1 then s
  else
    let p := fld (s.val O.slicePasid) 19 0
    s.each (s.g.furrows.filter (fun f => !(f.2.state == .disabled) && s.furPasid f.1 == p)) (fun s f => s.disableOp f.1)

/-- The member goes to HALTED (R673). -/
def State.haltMember (s : State) (cause source : Nat) : State :=
  if !(s.slice.state == .active) then s
  else
    let s : State := { s with slice := { s.slice with state := .halted, haltCause := cause, haltSource := source, joining := none } }
    let s := (s.attn At.slice).failStiles
    ((s.rotSliceHalt (s.val O.sliceLot)).disableJob).endOptical

/-- Tell a message to a package, or handle it here when it is this one: heartbeats and halts of the manager to itself
do not travel. -/
def State.tellMember (s : State) (a : Nat) (m : Msg) : State := if a = s.addr then s else s.tell { m with dst := a }

/-- Every member of the manager's slice but itself. -/
def State.others (s : State) : List Nat := s.mgr.members.filter (fun a => a != s.addr)

/-- The manager halts the slice (R671). -/
def State.haltSlice (s : State) (cause blamed : Nat) (port : Option Nat) : State :=
  if !(s.mgr.state == .active || s.mgr.state == .restarting || s.mgr.state == .forming) then s
  else
    let s := s.each s.others (fun s a => s.tellMember a { kind := .halt, aux := cause, addr := blamed })
    let s : State := { s with mgr := { s.mgr with state := .halted, cause := cause, blamed := blamed, blamedPort := port } }
    s.haltMember cause blamed

/-- The payload of a FAULT_REPORT (R647). -/
def reportPayload (cause port : Nat) (r : Option Record) : List Byte :=
  natLe 1 cause ++ natLe 1 port ++ (match r with | some r => recordLayout r | none => natLe 32 0)

/-- Send a FAULT_REPORT to the manager (R670), or take it here. -/
def State.report (s : State) (cause port : Nat) (r : Option Record) : State :=
  if !(s.slice.state == .active) then s
  else
    let m : Msg := { kind := .faultReport, dst := s.slice.mgrAddr, src := s.addr, slice := s.slice.id, payload := reportPayload cause port r }
    if s.slice.mgrAddr = s.addr then
      let s : State := { s with mgr := { s.mgr with faultLog := (s.mgr.faultLog ++ [(s.rackTime, m)]).drop (s.mgr.faultLog.length + 1 - 1024) } }
      s.haltSlice cause s.addr (if cause = 2 then some port else none)
    else s.tell m

/-- A port of this package that carries slice traffic, or that a tramline of the slice names (R670). -/
def State.portInSlice (s : State) (p : Nat) : Bool :=
  s.slice.state == .active && (p < 11 || s.slice.optical.any (fun o => o.1 == p))

/-- A port goes DOWN (R636, R670). -/
def State.downPort (s : State) (p : Nat) (reason : Nat) (raise_ report_ : Bool) : State :=
  let x := s.port p
  if !x.active then s
  else
    let s := (s.setPort p { x with state := .down, lanes := 0, reason := reason, credits := [0, 0, 0], returned := [0, 0, 0], retryAt := s.now + 100000000 }).noteRackPorts
    let s := (s.raiseIf raise_ (Sc.tram (portDie p) 0) { addr := some p }).dropPort p
    if report_ && s.portInSlice p then s.report 2 p none else s

/-- PORT_DOWN. -/
def execPortDown (p : Fin 13) (s : State) : Out := .next (s.downPort p 4 true true)

/-! ### Membership ends -/

/-- A reset of the package or of a Tramline die ends membership at once: NONE (R667), MEMBER_RESET to the manager
(R672), every delivery on the manager route disabled (R210). -/
def State.leaveSlice (s : State) : State :=
  match s.slice.state with
  | .none => s
  | st =>
    let s := if s.isManager then s.each s.others (fun s a => s.tellMember a { kind := .halt, aux := 8, addr := s.addr })
      else if st == .active && s.slice.mgrAddr != s.addr then s.tellDies { kind := .memberReset, dst := s.slice.mgrAddr } else s
    let s : State := { s with
      slice := { s.slice with state := .none, mgrAddr := 0xFFFF, routes := [], optical := [], joining := none },
      mgr := { s.mgr with state := (if s.isManager then .halted else s.mgr.state), cause := (if s.isManager then 8 else s.mgr.cause), blamed := s.addr } }
    s.dropRouteM.failStiles.refreshPorts

/-- TRAM_RESET of a die (R134): its ports go down, what is outstanding through them fails with the port-down status (R149),
membership of every slice drops, the manager hears of it from the other die; Rack Time starts anew where both dies are in reset (R658). -/
def State.resetDie (s : State) (d : Nat) : State :=
  if s.fab.dieReset.contains d then s
  else
    let s := s.each ((List.range 13).filter (fun p => portDie p == d)) (fun s p => s.downPort p 4 false false)
    let s : State := { s with fab := { s.fab with dieReset := s.fab.dieReset ++ [d] } }
    let s := if s.fab.dieReset.length = 2 then { s with time := { portsUpAt := s.time.portsUpAt, hadAnnounce := s.time.hadAnnounce } } else s
    s.leaveSlice.refreshPorts

/-- The reset of a die ends (R120): its ports may train again. -/
def State.dieResetDone (s : State) (d : Nat) : State :=
  { s with fab := { s.fab with dieReset := s.fab.dieReset.filter (fun x => x != d) } }.refreshPorts

/-! ### Formation (R665, R666) -/

/-- TRAM_ROUTE words for the members of rack r: the first tramline that joins each pair of racks. -/
def routesFrom (ts : List Tramline) (r : Nat) : List (Nat × Nat) :=
  (List.range 64).filterMap (fun q =>
    if q = r then none
    else match ts.find? (fun t => (rackOf t.a == r && rackOf t.b == q) || (rackOf t.b == r && rackOf t.a == q)) with
      | some t => some (q, if rackOf t.a = r then t.a + (t.pa % 2) * 2 ^ 12 + 2 ^ 13 else t.b + (t.pb % 2) * 2 ^ 12 + 2 ^ 13)
      | none => none)

/-- The optical ports of a package that the tramlines name: port, peer, peer port. -/
def opticalOf (ts : List Tramline) (a : Nat) : List (Nat × Nat × Nat) :=
  ts.flatMap (fun t => (if t.a = a then [(11 + t.pa % 2, t.b, t.pb)] else []) ++ (if t.b = a then [(11 + t.pb % 2, t.a, t.pa)] else []))

/-- The payload of a JOIN in the order of R665; its layout is log entry 30. -/
def joinPayload (id index count mgr barrier : Nat) (routes : List (Nat × Nat)) (opt : List (Nat × Nat × Nat)) : List Byte :=
  natLe 4 id ++ natLe 2 index ++ natLe 2 count ++ natLe 2 mgr ++ natLe 4 barrier
    ++ (List.range 64).flatMap (fun r => natLe 4 (kvGet 0 routes r))
    ++ natLe 1 opt.length ++ opt.flatMap (fun o => natLe 1 o.1 ++ natLe 2 o.2.1 ++ natLe 1 o.2.2)

/-- The generation a member reports (R666): the newest committed one of the lot that SLICE_LOT names. -/
def State.sliceGen (s : State) : Nat :=
  let n := s.val O.sliceLot
  let l := s.lot n
  if 16384 ≤ n || l.pasid != fld (s.val O.slicePasid) 19 0 then noGen else l.newest

/-- The conditions of R666 for accepting a JOIN. -/
def State.joinOk (s : State) (mgr id : Nat) : Bool :=
  let a := s.val O.sliceAccept
  bit a 63 && fld a 43 32 == mgr && decide (fld a 31 0 ≤ id)
    && (s.slice.state == .none || (s.slice.state == .halted && s.slice.mgrAddr == mgr && decide (s.slice.id < id)))
    && s.val O.pkgAddrValid == 1 && (s.time.state == .aligned || s.time.state == .freeRun)

/-- Become a member. -/
def State.becomeMember (s : State) (id index count mgr barrier : Nat) (routes : List (Nat × Nat)) (opt : List (Nat × Nat × Nat)) : State :=
  let s : State := { s with slice := { s.slice with
    state := .active, id := id, index := index, count := count, mgrAddr := mgr, barrier := barrier, routes := routes,
    optical := opt, lastHeartbeat := s.now, joining := none } }
  (s.attn At.slice).refreshPorts

/-- Answer a JOIN (R666, R682): the generation comes from the seedbank controller once the firmware runs. -/
def State.joinAnswer (s : State) (mgr id code : Nat) : State :=
  if code = 0 && (!s.hl.running || s.seed.state == .replaying) then { s with slice := { s.slice with joining := some id } }
  else s.tell { kind := .joinAck, dst := mgr, slice := id, payload := natLe 2 code ++ natLe 4 (if code = 0 then s.sliceGen else noGen) }

/-- The JOIN_ACK that waited for the firmware. -/
def State.joinResume (s : State) : State :=
  match s.slice.joining with
  | some id =>
    if s.hl.running && !(s.seed.state == .replaying) then
      ({ s with slice := { s.slice with joining := none } } : State).joinAnswer s.slice.mgrAddr id 0
    else s
  | none => s

/-- JOIN. -/
def execSliceJoin (p : Fin 13) (m : Msg) (s : State) : Out :=
  .next (s.onMsg p m .join (fun s m =>
    let b := m.payload
    let id := bytesAt b 0 4
    let mgr := bytesAt b 8 2
    if s.joinOk mgr id then
      let routes := ((List.range 64).map (fun r => (r, bytesAt b (14 + 4 * r) 4))).filter (fun x => decide (x.2 ≠ 0))
      let opt := (List.range (bytesAt b 270 1)).map (fun k => (bytesAt b (271 + 4 * k) 1, bytesAt b (272 + 4 * k) 2, bytesAt b (274 + 4 * k) 1))
      (s.becomeMember id (bytesAt b 4 2) (bytesAt b 6 2) mgr (bytesAt b 10 4) routes opt).joinAnswer mgr id 0
    else s.joinAnswer mgr id 0x50))

/-- The lists are valid: addresses of packages, none twice, tramlines between optical ports. -/
def Manager.listsOk (g : Manager) (me : Nat) : Bool :=
  g.members.all (fun a => decide (a < 4096)) && g.members.Nodup && !g.members.contains me && decide (g.members.length ≤ 4095)
    && g.tramlines.all (fun t => decide (t.a < 4096) && decide (t.b < 4096) && decide (t.pa < 2) && decide (t.pb < 2) && rackOf t.a != rackOf t.b)

/-- The tramlines in use: those of the list that have not failed. -/
def State.tramlinesUsed (s : State) : List Tramline :=
  (s.mgr.tramlines.mapIdx (fun i t => (i, t))).filterMap (fun (x : Nat × Tramline) => if s.mgr.lost.contains x.1 then none else some x.2)

/-- The racks of a list of packages. -/
def racksOf (l : List Nat) : List Nat := (l.map rackOf).dedup

/-- Some pair of racks of the slice has no tramline. -/
def State.noRoute (s : State) (members : List Nat) : Bool :=
  let rs := racksOf members
  rs.any (fun r => rs.any (fun q => r != q && (kvFind (routesFrom s.tramlinesUsed r) q).isNone))

/-- Send the JOINs of a formation; the manager itself is member 0. -/
def State.form (s : State) (id : Nat) (restart : Bool) : State :=
  let all := s.addr :: s.mgr.members
  let ts := s.tramlinesUsed
  let s : State := { s with mgr := { s.mgr with
    state := (if restart then .restarting else .forming), acks := [], heartbeats := all.map (fun a => (a, s.now)), excluded := [],
    restarting := restart, orders := [], startedAt := s.now, result := 0 } }
  let s := (s.setVal O.mgrSliceId id).setVal O.mgrResult 0
  let b := s.val O.mgrBarrier
  let s := s.becomeMember id 0 all.length s.addr b (routesFrom ts (rackOf s.addr)) (opticalOf ts s.addr)
  let s : State := { s with mgr := { s.mgr with acks := [(s.addr, 0, s.sliceGen)] } }
  (s.mgr.members.mapIdx (fun i a => (i, a))).foldl (fun s (x : Nat × Nat) =>
    s.tell { kind := .join, dst := x.2, payload := joinPayload id (x.1 + 1) all.length s.addr b (routesFrom ts (rackOf x.2)) (opticalOf ts x.2) }) s

/-- A formation fails with a result (R665): the members that had joined are halted with cause DISSOLVED. -/
def State.formFails (s : State) (result : Nat) (bad : List Nat) : State :=
  let joined := (s.mgr.acks.filter (fun a => a.2.1 == 0)).map (fun (a : Nat × Nat × Nat) => a.1)
  let s := s.each (joined.filter (fun a => a != s.addr)) (fun s a => s.tellMember a { kind := .halt, aux := 7, addr := s.addr })
  let s : State := { s with mgr := { s.mgr with state := .halted, cause := 7, blamedPort := none, excluded := s.mgr.excluded ++ bad, restarting := false } }
  (s.setVal O.mgrResult result).haltMember 7 s.addr

/-- The manager's own optical ports that tramlines name are up. -/
def State.ownTramlinesUp (s : State) : Bool := s.slice.optical.all (fun o => (s.port o.1).active)

/-- Generation g of a restart (R674): the lowest of the numbers reported. -/
def State.restartGenOf (s : State) : Nat := (s.mgr.acks.map (fun (a : Nat × Nat × Nat) => a.2.2)).foldl min noGen

/-- The slice is ACTIVE when every member has answered OK and every tramline is up (R665). -/
def State.checkActive (s : State) : State :=
  if !(s.mgr.state == .forming || s.mgr.state == .restarting) then s
  else if (s.addr :: s.mgr.members).all (fun a => s.mgr.acks.any (fun k => k.1 == a && k.2.1 == 0)) && s.ownTramlinesUp then
    let s : State := { s with mgr := { s.mgr with state := .active, restartGen := (if s.mgr.restarting then s.restartGenOf else s.mgr.restartGen) } }
    (s.setVal O.restartGen s.mgr.restartGen).attn At.slice
  else s

/-- MGR_CMD FORM (R665): the dictionary status of the write. -/
def State.formOp (s : State) : State × Nat :=
  match s.mgr.state with
  | .forming => (s, Od.state)
  | .restarting => (s, Od.state)
  | .active => (s.setVal O.mgrResult 1, 0)
  | _ =>
    let s : State := { s with mgr := { s.mgr with lost := [], old := [] } }
    if !(s.mgr.listsOk s.addr) then (s.setVal O.mgrResult 5, 0)
    else if s.noRoute (s.addr :: s.mgr.members) then (s.setVal O.mgrResult 4, 0)
    else if s.slice.state == .active then (s.setVal O.mgrResult 1, 0)
    else ((s.form (s.val O.mgrSliceId) false).checkActive, 0)

/-- MGR_CMD_FORM. -/
def execMgrCmdForm (s : State) : Out := .next s.formOp.1

/-- MGR_CMD DISSOLVE (R671). -/
def State.dissolveOp (s : State) : State × Nat :=
  match s.mgr.state with
  | .forming => (s, Od.state)
  | .restarting => (s, Od.state)
  | _ => (s.haltSlice 7 s.addr none, 0)

/-- MGR_CMD_DISSOLVE. -/
def execMgrCmdDissolve (s : State) : Out := .next s.dissolveOp.1

/-- FORMATION_TIMEOUT (R665). -/
def execFormationTimeout (s : State) : Out :=
  if !(s.mgr.state == .forming || s.mgr.state == .restarting) then .next s
  else
    let s := s.until_ (s.mgr.startedAt + 10000000)
    let refused := (s.mgr.acks.filter (fun a => a.2.1 != 0)).map (fun (a : Nat × Nat × Nat) => a.1)
    let silent := s.mgr.members.filter (fun a => s.mgr.acks.all (fun k => k.1 != a))
    .next (if !refused.isEmpty then s.formFails 1 refused
      else if !silent.isEmpty then s.formFails 2 silent
      else s.formFails 3 ((s.mgr.tramlines.mapIdx (fun i t => (i, t))).filterMap (fun (x : Nat × Tramline) =>
        if x.2.a = s.addr || x.2.b = s.addr then some (0x8000 + x.1) else none)))

/-- A spare whose rack has a tramline route to every rack of the slice (R675). -/
def State.spareFits (s : State) (rest : List Nat) (a : Nat) : Bool := !(s.noRoute (a :: rest)) && !rest.contains a

/-- A member of a restart holds no generation (R674): a spare is passed over for the next one that fits. -/
def State.passOver (s : State) (a : Nat) : State :=
  let rest := s.mgr.members.filter (fun x => x != a)
  if s.mgr.old.contains a then s.formFails 6 [a]
  else match s.mgr.spares.find? (fun x => s.spareFits (s.addr :: rest) x) with
    | none => s.formFails 6 [a]
    | some b =>
      let i := s.mgr.members.findIdx (fun x => x == a)
      let s : State := { s with mgr := { s.mgr with
        members := s.mgr.members.map (fun x => if x = a then b else x), spares := s.mgr.spares.filter (fun x => x != b),
        excluded := s.mgr.excluded ++ [a], acks := s.mgr.acks.filter (fun k => k.1 != a) } }
      let ts := s.tramlinesUsed
      let s := s.tell { kind := .halt, dst := a, aux := 7, addr := s.addr }
      s.tell { kind := .join, dst := b,
               payload := joinPayload (s.val O.mgrSliceId) (i + 1) (s.mgr.members.length + 1) s.addr (s.val O.mgrBarrier) (routesFrom ts (rackOf b)) (opticalOf ts b) }

/-- JOIN_ACK (R665, R671, R674). -/
def execJoinAck (p : Fin 13) (m : Msg) (s : State) : Out :=
  .next (s.onMsg p m .joinAck (fun s m =>
    let code := bytesAt m.payload 0 2
    let gen := bytesAt m.payload 2 4
    if !(s.mgr.state == .forming || s.mgr.state == .restarting) || m.slice != s.val O.mgrSliceId || !s.mgr.members.contains m.src then s
    else if s.mgr.restarting && code != 0 then s.haltSlice 3 m.src none
    else if s.mgr.restarting && gen == noGen then s.passOver m.src
    else
      let s : State := { s with mgr := { s.mgr with acks := s.mgr.acks.filter (fun k => k.1 != m.src) ++ [(m.src, code, gen)] } }
      s.checkActive))

/-! ### Heartbeats (R668) -/

/-- SLICE_STATE's encoding. -/
def SliceState.code : SliceState → Nat
  | .none => 0 | .active => 1 | .halted => 2

/-- HEARTBEAT. -/
def execHeartbeat (p : Fin 13) (m : Msg) (s : State) : Out :=
  .next (s.onMsg p m .heartbeat (fun s m =>
    if m.slice != s.slice.id || !(s.slice.state == .active) then s
    else
      let s : State := if m.src = s.slice.mgrAddr then { s with slice := { s.slice with lastHeartbeat := s.now } } else s
      if s.isManager && s.mgr.members.contains m.src then
        { s with mgr := { s.mgr with heartbeats := s.mgr.heartbeats.map (fun h => if h.1 = m.src then (h.1, s.now) else h) } }
      else s))

/-- HEARTBEAT_SEND. -/
def execHeartbeatSend (s : State) : Out :=
  if !(s.slice.state == .active) then .next s
  else
    let m : Msg := { kind := .heartbeat, payload := natLe 1 s.slice.state.code }
    .next (if s.isManager then s.each s.others (fun s a => s.tellMember a m) else s.tellMember s.slice.mgrAddr m)

/-- HEARTBEAT_MISSED. -/
def execHeartbeatMissed (who : Option (BitVec 12)) (s : State) : Out :=
  if !(s.slice.state == .active) then .next s
  else match who with
    | none =>
      if s.slice.mgrAddr = s.addr then .next s
      else .next (((s.until_ (s.slice.lastHeartbeat + 330000)).bumpBy O.hbMissed 3).haltMember 5 s.slice.mgrAddr)
    | some a =>
      match s.mgr.heartbeats.find? (fun h => h.1 == a.toNat) with
      | some h =>
        if s.mgr.state == .active && s.mgr.members.contains a.toNat then
          .next (((s.until_ (h.2 + 330000)).bumpBy O.hbMissed 3).haltSlice 4 a.toNat none)
        else .next s
      | none => .next s

/-! ### Faults and halts (R670-R675) -/

/-- The module at the far end of a port of a member: in its sled, or over a tramline of the list. -/
def State.neighbourOf (s : State) (a p : Nat) : Option Nat :=
  if p < 3 then some (a / 4 * 4 + (posOf a + p + 1) % 4)
  else ((opticalOf s.mgr.tramlines a).find? (fun o => o.1 == p)).map (fun o => o.2.1)

/-- FAULT_REPORT: logged, at most 1,024 entries, and the slice halts; the report of a POWER_LOSS blames the member that lost its power
(R671). -/
def execFaultReport (p : Fin 13) (m : Msg) (s : State) : Out :=
  .next (s.onMsg p m .faultReport (fun s m =>
    if !s.isManager || m.slice != s.slice.id || !s.mgr.members.contains m.src then s
    else
      let s : State := { s with mgr := { s.mgr with faultLog := (s.mgr.faultLog ++ [(s.rackTime, m)]).drop (s.mgr.faultLog.length + 1 - 1024) } }
      let cause := bytesAt m.payload 0 1
      let port := bytesAt m.payload 1 1
      if cause = 6 then
        match s.neighbourOf m.src port with
        | some a => if s.mgr.members.contains a then s.haltSlice 6 a none else s
        | none => s
      else s.haltSlice cause m.src (if cause = 2 then some port else none)))

/-- HALT. -/
def execHaltMessage (p : Fin 13) (m : Msg) (s : State) : Out :=
  .next (s.onMsg p m .halt (fun s m => if m.slice == s.slice.id && m.src == s.slice.mgrAddr then s.haltMember m.aux m.addr else s))

/-- MEMBER_RESET. -/
def execMemberReset (p : Fin 13) (m : Msg) (s : State) : Out :=
  .next (s.onMsg p m .memberReset (fun s m => if s.isManager && s.mgr.members.contains m.src then s.haltSlice 3 m.src none else s))

/-- POWER_LOSS (R672): the port goes DOWN without TRAM_PORT_DOWN; the manager halts the slice, a member reports it. -/
def execPowerLoss (p : Fin 13) (m : Msg) (s : State) : Out :=
  if !(s.port p).active then .next s
  else
    let m := onWire m
    let s := (s.bump O.msgsRx).giveBack p 2 (msgUnits m)
    let relayed := m.src != (s.port p).peer
    let s := if relayed then s else s.downPort p 4 false false
    if s.isManager then .next (if s.mgr.members.contains m.src then s.haltSlice 6 m.src none else s)
    else .next (s.report 6 p none)

/-- Brown-out, module reset: POWER_LOSS on every active port to its peer, and a copy to the manager (R64, R672). -/
def State.sendPowerLoss (s : State) : State :=
  let s := s.each ((List.range 13).filter (fun p => (s.port p).active)) (fun s p =>
    s.putOn p { kind := .powerLoss, src := s.addr, dst := (s.port p).peer, hop := (s.port p).peer })
  let mgr := s.slice.mgrAddr
  let gw := fld (s.tramRoute (rackOf mgr)) 11 0
  if !(s.slice.state == .active) || mgr = s.addr then s
  else match s.rackPortFor .powerLoss mgr with
    | some p => s.putOn p { kind := .powerLoss, src := s.addr, slice := s.sliceField, dst := mgr, hop := if rackOf mgr = rackOf s.addr then mgr else gw }
    | none => s

/-- SLICE_RELEASE (R667). -/
def State.releaseOp (s : State) : State :=
  if s.slice.state == .halted then
    let s : State := { s with slice := { s.slice with state := .none, mgrAddr := 0xFFFF, routes := [] } }
    s.dropRouteM.refreshPorts
  else s

/-- SLICE_RELEASE. -/
def execSliceRelease (s : State) : Out := .next s.releaseOp

/-! ### Restart (R674-R676, R831) -/

/-- A management request of the manager: its envelope (R650) and body. -/
def mgmtPayload (op : Nat) (body : List Byte) : List Byte :=
  natLe 1 0 ++ natLe 1 op ++ natLe 2 0 ++ natLe 2 0 ++ natLe 2 body.length ++ natLe 4 0 ++ body

/-- A WRITE body (R197) of one entry: head, index, subindex, type code, length, data, padded to 4 bytes. -/
def writeBody (k ty : Nat) (d : List Byte) : List Byte :=
  natLe 4 1 ++ natLe 2 (k / 256) ++ natLe 1 (k % 256) ++ natLe 1 ty ++ natLe 2 d.length ++ d
    ++ natLe ((4 - (d.length + 6) % 4) % 4) 0

/-- The tramline whose failure a member reported. -/
def State.failedTramline (s : State) : Option Nat :=
  match s.mgr.blamedPort with
  | some p => (List.range s.mgr.tramlines.length).find? (fun i => match s.mgr.tramlines[i]? with
      | some t => !s.mgr.lost.contains i && ((t.a == s.mgr.blamed && 11 + t.pa == p) || (t.b == s.mgr.blamed && 11 + t.pb == p))
      | none => false)
  | none => none

/-- The member list of a restart (R675); none: no automatic restart. -/
def State.restartList (s : State) : Option State :=
  let g := s.mgr
  let s : State := { s with mgr := { g with old := s.addr :: g.members } }
  if g.cause = 2 then
    match g.blamedPort with
    | none => none
    | some p =>
      if p < 11 then some s
      else match s.failedTramline with
        | none => none
        | some i =>
          let s : State := { s with mgr := { s.mgr with lost := s.mgr.lost ++ [i] } }
          if s.noRoute (s.addr :: g.members) then none else some s
  else if g.cause = 1 || g.cause = 3 || g.cause = 4 || g.cause = 6 then
    if g.blamed = s.addr then none
    else
      let rest := g.members.filter (fun a => a != g.blamed)
      match g.spares.find? (fun a => s.spareFits (s.addr :: rest) a) with
      | none => none
      | some b => some { s with mgr := { s.mgr with
          members := g.members.map (fun a => if a = g.blamed then b else a), spares := g.spares.filter (fun a => a != b) } }
  else none

/-- The writes of R831 to one member: CANCEL of the entries that hold acres, the sow of generation g, ROT_RUN = 1. -/
def State.orderSow (s : State) (e : RestartEntry) (g : Nat) : State :=
  let raw := e.latest.take 4 ++ natLe 4 g ++ e.latest.drop 8
  if e.member = s.addr then
    let refused (r : State × Nat) : State := if r.2 = 0 then r.1 else r.1.haltSlice 3 s.addr none
    let s := s.each e.held (fun s t => refused (s.cancelOp t))
    (refused (s.rotSubmitOp .M raw)).setVal O.rotRun 1
  else
    let w (k ty : Nat) (d : List Byte) (s : State) : State := s.tell { kind := .mgmt, dst := e.member, payload := mgmtPayload 2 (writeBody k ty d) }
    let s := s.each e.held (fun s t => w O.rotCmd 4 (natLe 8 (3 + t * 2 ^ 32)) s)
    let s := w O.rotRun 1 [1] (w O.rotSubmit 0x11 raw s)
    { s with mgr := { s.mgr with orders := kvPut s.mgr.orders e.member (e.held.length + 2) } }

/-- The answer of a member to a write of R831: a refusal halts the new slice, blaming the member. -/
def State.orderAnswered (s : State) (member status : Nat) : State :=
  match kvFind s.mgr.orders member with
  | none => s
  | some k =>
    let left := if k ≤ 1 then kvErase s.mgr.orders member else kvPut s.mgr.orders member (k - 1)
    if status = 0 then { s with mgr := { s.mgr with orders := left } }
    else ({ s with mgr := { s.mgr with orders := [] } } : State).haltSlice 3 member none

/-- SLICE_RESTART: the manager forms the next slice where R675 allows, and it holds a generation itself (R674); once that slice is ACTIVE it orders the sows of
generation g on every member. -/
def execSliceRestart (entries : List RestartEntry) (s : State) : Out :=
  if s.mgr.state == .active && s.mgr.restarting then
    let s := s.each (entries.filter (fun e => (s.addr :: s.mgr.members).contains e.member)) (fun s e => s.orderSow e s.mgr.restartGen)
    .next ({ s with mgr := { s.mgr with restarting := false } }.attn At.slice)
  else if s.mgr.state == .halted && s.val O.restartAuto == 1 then
    match s.restartList with
    | none => .next s
    | some t =>
      if s.sliceGen = noGen then
        .next ({ s with mgr := { s.mgr with excluded := [s.addr] } }.setVal O.mgrResult 6)
      else .next ((t.form (t.val O.mgrSliceId + 1) true).checkActive)
  else .next s

/-! ### IDENT (R637) -/

/-- IDENT. -/
def execIdent (p : Fin 13) (addr : Nat) (cls : PortClass) (idx : Nat) (s64 : Option (Nat × Nat)) (dup : Bool) (s : State) : Out :=
  let x := s.port p
  if !(x.state == .ident) then .next s
  else
    let d := portDie p
    match s.identFault p addr cls idx s64 dup with
    | 0 =>
      let full := if p.val < 3 then 8 else 4
      let s := s.setPort p { x with state := (if x.lanes < full then .half else .up), peer := addr % 4096, peerPort := idx % 16,
                                    reason := (if x.marginal then 3 else 0) }
      .next ((s.noteRackPorts.raiseIf x.marginal (Sc.tram d 4)).checkActive)
    | f =>
      let s := s.setPort p { x with state := .refused, reason := f, retryAt := s.now + 100000000 }
      if 11 ≤ p.val then .next (if s.portInSlice p then s.report 2 p none else s)
      else
        let s := s.raiseIf (f == 1 || p.val < 3) (Sc.tram d 1) { addr := some p }
        .next (s.raiseIf (f == 2) (Sc.tram d 2) { addr := some p })

/-! ### Rack Time (R658-R663) -/

/-- Units of Rack Time in an epoch of 1 ms, and in 4 ns. -/
abbrev epochUnits : Nat := 65536000000
abbrev slewUnits : Nat := 262144

/-- RT_STATE after a recognised pulse: UNSET before the first announcement, HOLDOVER without the reference. -/
def State.rtAfter (s : State) : RtState :=
  if !s.time.hadAnnounce then .unset else if s.pwr.refValid then .aligned else .holdover

/-- The epoch number expected at the next pulse (R661). -/
def State.nextEpoch (s : State) : Nat :=
  match s.time.announced with
  | some a => a.1
  | none => if s.time.running then s.time.epoch + 1 else 0

/-- The active optical ports that this package is a gateway on. -/
def State.gatewayPorts (s : State) : List Nat := [11, 12].filter (fun p => (s.port p).active && s.slice.state == .active)

/-- A recognised pulse: Rack Time is compared with the expected epoch, and slewed or set (R660). -/
def State.pulse (s : State) : State :=
  let e := s.nextEpoch
  let want := e * epochUnits
  let have_ := s.rackTime
  let err : Int := (have_ : Int) - (want : Int)
  let slew := decide (err.natAbs ≤ slewUnits) && s.time.running
  let s := if err.natAbs ≤ slewUnits then s else s.bump O.rtSteps
  let s : State := { s with time := { s.time with
    base := want % 2 ^ 64, baseAt := s.now, slew := (if slew then err else 0), running := true, epoch := e, lastSeen := some s.now, lastPulse := some s.now, missing := 0,
    announced := none, lastError := err * 1000 / 65536, state := s.rtAfter } }
  s.each s.gatewayPorts (fun s p => s.putOn p { kind := .timeSync, src := s.addr, dst := (s.port p).peer, hop := (s.port p).peer,
                                                 payload := natLe 8 s.rackTime })

/-- EPOCH_PULSE. -/
def execEpochPulse (at_ : Nat) (s : State) : Out :=
  let s := s.until_ at_
  match s.time.lastSeen with
  | some t =>
    if s.now < t + 900000 then .next (s.bump O.epochIgnored)
    else .next (s.pulse)
  | none => .next s.pulse

/-- EPOCH_MISSING (R659): the third in a row raises EPOCH_LOST. -/
def execEpochMissing (s : State) : Out :=
  match s.time.lastPulse with
  | none => .next s
  | some t =>
    let s := (s.until_ (t + 1100000)).bump O.epochIgnored
    let n := s.time.missing + 1
    let s : State := { s with time := { s.time with
      missing := n, lastPulse := some (t + 1000000), epoch := s.nextEpoch, announced := none,
      state := (if 3 ≤ n && s.time.hadAnnounce then .freeRun else s.time.state) } }
    .next (s.raiseIf (n == 3) (Sc.tram 0 0x10))

/-- The rank of a module for time master: lower ranks higher; none for a module that never takes the role (R661). -/
def timeRank (tm addr : Nat) : Option Nat :=
  match tm with
  | 0 => some (4096 + addr)
  | 1 => some addr
  | _ => none

/-- This module's rank. -/
def State.ownRank (s : State) : Option Nat := timeRank (s.val O.timeMaster) s.addr

/-- TIME_ANNOUNCE: the number of the next epoch and its sender's rank. -/
def execTimeAnnounce (p : Fin 13) (m : Msg) (s : State) : Out :=
  if !(s.port p).active || m.src == s.addr then .next s
  else
    let m := onWire m
    let s := (s.bump O.msgsRx).giveBack p 2 (msgUnits m)
    let e := bytesAt m.payload 0 8
    match timeRank (bytesAt m.payload 8 1) m.src with
    | none => .next s
    | some r =>
      let conflict := match s.time.announced with | some a => a.1 != e && a.2 != r | none => false
      let s := s.raiseIf conflict (Sc.tram 0 0x11)
      let better := match s.time.announced with | some a => decide (r ≤ a.2) | none => true
      let higher := match s.ownRank with | some q => decide (r < q) | none => true
      let s : State := { s with time := { s.time with
        announced := (if better then some (e, r) else s.time.announced), hadAnnounce := true,
        lastHigher := (if higher then some s.now else s.time.lastHigher), master := s.time.master && !higher } }
      .next s

/-- TIME_ANNOUNCE_SEND: on one rack port with BROADCAST, and on the sled ports. -/
def execTimeAnnounceSend (s : State) : Out :=
  if !s.time.master || !s.rackPortsUp then .next s
  else
    let e := s.nextEpoch
    let rank := s.ownRank.getD 8191
    let better := match s.time.announced with | some a => decide (rank ≤ a.2) | none => true
    let s : State := { s with time := { s.time with announced := (if better then some (e, rank) else s.time.announced), hadAnnounce := true } }
    let m : Msg := { kind := .timeAnnounce, src := s.addr, payload := natLe 8 e ++ natLe 1 (s.val O.timeMaster) ++ natLe 7 0 }
    let s := match s.rackPortFrom 0 with
      | some p => s.putOn p { m with broadcast := true }
      | none => s
    .next (s.each ((List.range 3).filter (fun p => (s.port p).active)) (fun s p => s.putOn p { m with dst := (s.port p).peer, hop := (s.port p).peer }))

/-- TIME_MASTER_TAKEOVER: 2 ms of silence of every higher-ranking module, with rack ports up as long. -/
def execTimeMasterTakeover (s : State) : Out :=
  match s.ownRank, s.time.portsUpAt with
  | some _, some up =>
    if s.time.master || !s.rackPortsUp || s.val O.pkgAddrValid != 1 then .next s
    else
      let since := max up (s.time.lastHigher.getD 0)
      let s := s.until_ (since + 2000000)
      .next { s with time := { s.time with master := true } }
  | _, _ => .next s

/-- TIME_SYNC (R663). -/
def execTimeSync (p : Fin 13) (m : Msg) (s : State) : Out :=
  if !(s.port p).active then .next s
  else
    let m := onWire m
    let s := (s.bump O.msgsRx).giveBack p 2 (msgUnits m)
    let t := s.rackTime
    .next (s.putOn p { kind := .timeEcho, src := s.addr, dst := m.src, hop := m.src, payload := m.payload.take 8 ++ natLe 8 t ++ natLe 8 t })

/-- TIME_ECHO (R663): the offset of the peer's rack, the path taken as symmetric; two successive measurements that
differ by more than 40 ns raise TIME_UNLOCKED; the manager passes the offset to the members of that rack. -/
def execTimeEcho (p : Fin 13) (m : Msg) (s : State) : Out :=
  if !(s.port p).active then .next s
  else
    let m := onWire m
    let s := (s.bump O.msgsRx).giveBack p 2 (msgUnits m)
    let t1 : Int := bytesAt m.payload 0 8
    let t2 : Int := bytesAt m.payload 8 8
    let t3 : Int := bytesAt m.payload 16 8
    let t4 : Int := s.rackTime
    let off := ((t2 - t1) + (t3 - t4)) / 2
    let old := s.time.lastOffset.find? (fun o => o.1 == p.val)
    let jump := match old with | some o => decide (40 * 65536 < (o.2 - off).natAbs) | none => false
    let s := s.raiseIf jump (Sc.tram 0 0x12)
    let s : State := { s with time := { s.time with lastOffset := s.time.lastOffset.filter (fun o => o.1 != p.val) ++ [(p.val, off)] } }
    if s.isManager then
      .next (s.each (s.others.filter (fun a => rackOf a == rackOf m.src)) (fun s a =>
        s.tell { kind := .mgmt, dst := a, payload := mgmtPayload 2 (writeBody O.sliceTimeOffset 0x0C (natLe 8 (toTwos 64 (-off)))) }))
    else .next s

end Sys2Proof.Machine
end

