-- ==== Sys2Proof/Machine/Rows.lean ====
section
/-! DEFINITION. The movement of bytes through the Drill: the Coulter's reads (R541), the Harrow's grants (R550), the
Press's writes (R542), feeds in service (R552). -/

namespace Sys2Proof.Machine

/-! ### Feeds in service (R552) -/

/-- A paced transfer is bound to its feed, and the oldest request of the feed is being served: it stands as it was where the feed is
another transfer's or has no request.  On a fenced plot it fails (R561). -/
def State.feedStart (s : State) (r : Nat) (x : Xfer) : State :=
  if !x.d.paced then s
  else
    let p := x.d.feedPlot
    let ch := x.d.feedCh
    let f := s.feed p ch
    if (s.plot p).state == .fenced then s.modXfer r x.id (fun y => { y with finished := some (0x40, x.byteVa true x.pressPos) })
    else if f.bound.isSome && f.bound != some (r, x.id) then s
    else
      let s := s.setFeed p ch { f with bound := some (r, x.id) }
      match f.reqs with
      | [] => s
      | (len, k, started) :: rest =>
        if started then s
        else
          let s := s.setFeed p ch { f with bound := some (r, x.id), reqs := (len, k, true) :: rest }
          let auth := min x.d.length (x.pressPos + len)
          s.modXfer r x.id (fun y =>
            { y with reqStart := y.pressPos, reqRead := y.readPos, pressAuth := auth, readAuth := max y.readAuth auth })

/-- FEED_SERVED: the request being served has been written to tilth. -/
def execFeedServed (row : Fin 64) (s : State) : Out :=
  match (s.row row).xfers with
  | [] => .next s
  | x :: _ =>
    match (s.feed x.d.feedPlot x.d.feedCh).reqs with
    | (_, _, true) :: _ =>
      if x.d.paced && (s.feed x.d.feedPlot x.d.feedCh).bound == some (row.val, x.id) && x.pressPos = x.pressAuth then
        .next ((s.feedReport x.d.feedPlot x.d.feedCh (x.pressPos - x.reqStart)).settle row)
      else .next s
    | _ => .next s

/-! ### Run-ahead (R456, R457) -/

/-- What the data path finds at a byte: a held translation, a failure found ahead, or nothing yet. -/
inductive Ahead where
  | at_ (t : Target) (room : Nat) | fails (code va : Nat) | waits
  deriving DecidableEq, Repr

/-- Run-ahead of a side: RUNAHEAD_TILES tiles beyond the engine's position; what lies behind is let go. -/
def State.runAhead (s : State) (r : Nat) (x : Xfer) (dst : Bool) (off : Nat) : State :=
  let tile := 2 ^ x.tile
  let ra := x.side dst
  let stop := min ra.len (((off + tile - 1) / tile + x.tiles) * tile)
  let held := x.ahead.filter (fun e => e.dst != dst || decide (off < e.off + e.len))
  let k := aheadLoop ((stop - off) / 4096 + 3) s (x.who r dst) ra x.fails held off stop
  k.1.modXfer r x.id (fun y => { y with ahead := k.2 })

/-- The translation of a byte of a side, as the data path has it: what run-ahead holds.  A wait at a byte is counted once. -/
def State.aheadAt (s : State) (r : Nat) (x : Xfer) (dst : Bool) (off : Nat) : State × Ahead :=
  let s := s.runAhead r x dst off
  match s.xfer r x.id with
  | none => (s, .waits)
  | some y => match heldAt y.ahead dst off with
    | some e => (s, .at_ (e.at_.plus (off - e.off)) (e.len - (off - e.off)))
    | none => match failAt y.fails (y.side dst).acc (y.sideVa dst off) with
      | some f => (s, .fails f.code f.va)
      | none =>
        if (if dst then y.dstWait else y.srcWait) == some off then (s, .waits)
        else (((s.modXfer r x.id (fun z => if dst then { z with dstWait := some off } else { z with srcWait := some off })).bump O.runaheadWaits), .waits)

/-- A transfer to a stile is about to read: its source is looked up by the Tramline sender that its writes leave by (R488). -/
def State.senderDie (s : State) (r : Nat) (x : Xfer) : State :=
  match (if x.d.dstSpace = 3 then s.route .stileWrite (stilePkg x.d.dst) else none) with
  | some p => s.modXfer r x.id (fun y => { y with die := portDie p.2 })
  | none => s

/-! ### The Coulter -/

/-- A piece of stream is on its way, or has arrived with its bytes. -/
def State.addPiece (s : State) (r id off len : Nat) (d : Option (List (Byte × Bool))) : State :=
  let p : Piece := { off := off, len := len, data := d.getD [], arrived := d.isSome }
  let bad := match d with | some l => l.any (fun y => y.2) | none => false
  (s.modXfer r id (fun x => { x with pieces := x.pieces ++ [p], readPos := off + len, poisoned := x.poisoned || bad })).noteHopper

/-- The source of a transfer ends at its read position with a code and an address (R557). -/
def State.endSource (s : State) (r id code addr : Nat) : State :=
  s.modXfer r id (fun x => { x with endAt := some (code, addr) })

/-- Read a piece from HBM or tilth at once (R541): true where it was read, or the source ended. -/
def State.readLocal (s : State) (r : Nat) (x : Xfer) (t : Target) (n : Nat) : State × Bool :=
  let take (s : State) (n : Nat) : State × Bool :=
    let h := s.takeHopper r n
    if !h.2 then (h.1, false)
    else
      let d := h.1.getMarked t n
      ((d.1.addPiece r x.id x.readPos n (some d.2)).bumpBy O.bytesRead n, true)
  match t with
  | .hbm a =>
    let n := min n (512 - a % 64)
    let c := s.cohAccess false a n
    if c.2 then take c.1 n else (c.1, false)
  | .tilth p o =>
    let k := s.reachTilth p
    match k.2 with
    | .fenced => (k.1.endSource r x.id 0x40 (x.byteVa false x.readPos), true)
    | .waits => (k.1, false)
    | .ready => take k.1 (min n (512 - o % 64))
  | .host _ => (s, false)

/-- Issue a host read of at most Max_Read_Request_Size, not across 4 KiB. -/
def State.readHost (s : State) (r : Nat) (x : Xfer) (a n va : Nat) : State × Bool :=
  let n := min (min n s.maxRead) (4096 - a % 4096)
  if !s.rowTagRoom r then (s.setRow r { s.row r with hopWait := false }, false)
  else
    let h := s.takeHopper r n
    if !h.2 then (h.1, false)
    else match h.1.request { kind := .memRead, addr := a, len := n, pasid := x.tagPasid, ro := x.d.ro && s.roEnable, owner := .row r x.id x.readPos } with
      | none => (h.1, false)
      | some t => (((t.2.setTag t.1 (fun u => { u with va := va })).addPiece r x.id x.readPos n none).bumpBy O.bytesRead n, true)

/-- The next request of a transfer whose reads are not all issued: true where one was issued, or the source ended. -/
def State.readNext (s : State) (r : Nat) (x : Xfer) : State × Bool :=
  let k := x.readPos
  let run := min (x.spat.lineLeft k) (min x.readAuth x.d.length - k)
  let delta := x.spat.at_ k
  if run = 0 then (s, false)
  else match x.d.srcSpace with
    | 5 =>
      let n := min run 512
      let h := s.takeHopper r n
      if !h.2 then (h.1, false)
      else
        let pat := natLe 8 x.d.src
        (h.1.addPiece r x.id k n (some ((List.range n).map (fun i => (pat.getD ((k + i) % 8) 0, false)))), true)
    | 3 =>
      let off := stileOff x.d.src + delta
      let n := min run (4096 - off % 4096)
      let h := s.takeHopper r n
      if !h.2 then (h.1, false)
      else
        let m : Msg := { kind := .readReq, dst := stilePkg x.d.src, window := stileWin x.d.src, addr := off, aux := n }
        let q := h.1.fabRequest m (.row r x.id k n) (some (s.now + s.val O.remoteReadTimeout * 1000))
        if q.2 then ((q.1.addPiece r x.id k n none).bumpBy O.bytesRead n, true) else (q.1.endSource r x.id 0x51 (x.byteVa false k), true)
    | 4 =>
      let lot := fld x.d.src 48 35
      let off := fld x.d.src 34 0 + delta
      let n := min run (4096 - off % 4096)
      match s.seedAnswer false lot off n with
      | .fail c => (s.endSource r x.id c (x.byteVa false k), true)
      | .wait => (s, false)
      | .ok =>
        let h := s.takeHopper r n
        if !h.2 then (h.1, false)
        else (((h.1.addPiece r x.id k n (some (s.lotRead lot off n))).bumpBy O.bytesRead n).noteLotRead lot off, true)
    | sp =>
      let va := x.sideVa false delta
      let t := s.aheadAt r x false delta
      match t.2 with
      | .fails code at_ => (t.1.endSource r x.id code at_, true)
      | .waits => (t.1, false)
      | .at_ tg room =>
        let n := min run room
        let a := match tg with
          | .host h => t.1.readHost r x h n va
          | _ => t.1.readLocal r x tg n
        if a.2 && sp = 0 && !x.bypass then
          let got := (match a.1.xfer r x.id with | some y => y.readPos | none => k) - k
          ((a.1.countAccess x.pasid va got).listHot, true)
        else a

/-- One turn of a row at the Coulter. -/
def State.coulterRow (s : State) (r : Nat) : State × Bool :=
  let row := s.row r
  if !(row.state == .active) then (s, false)
  else match row.reading with
    | none => (s, false)
    | some x =>
      if !x.begun then (s, false)
      else
        let f := (s.feedStart r x).senderDie r x
        match f.xfer r x.id with
        | none => (f, false)
        | some y =>
          if y.finished.isSome then (f.settle r, true)
          else
            let a := f.readNext r y
            if a.2 then (a.1.settle r, true) else a

/-- The rows in turn, beginning after one. -/
def turnOrder (last : Nat) : List Nat := (List.range 64).map (fun i => (last + 1 + i) % 64)

/-- The first row, in an order, for which a turn does something. -/
def firstTurn : List Nat → State → (State → Nat → State × Bool) → State × Option Nat
  | [], s, _ => (s, none)
  | r :: rs, s, f =>
    let a := f s r
    if a.2 then (a.1, some r) else firstTurn rs a.1 f

/-- COULTER_ISSUE. -/
def execCoulterIssue (s : State) : Out :=
  if s.host.frozen then .next s
  else
    let a := firstTurn (turnOrder s.drill.lastCoulter) s (fun s r => s.coulterRow r)
    match a.2 with
    | some r => .next { a.1 with drill := { a.1.drill with lastCoulter := r } }
    | none => .next a.1

/-! ### The Harrow -/

/-- The bytes that have arrived in stream order, and the pieces behind them. -/
def arrivedPrefix : List Piece → List (Byte × Bool) × List Piece
  | [] => ([], [])
  | p :: ps =>
    if p.arrived then
      let r := arrivedPrefix ps
      (p.data ++ r.1, r.2)
    else ([], p :: ps)

/-- Take n stream bytes off the front of the pieces. -/
def takePieces : List Piece → Nat → List Piece
  | [], _ => []
  | p :: ps, n =>
    if n = 0 then p :: ps
    else if p.len ≤ n then takePieces ps (n - p.len)
    else { p with off := p.off + n, len := p.len - n, data := p.data.drop n } :: ps

/-- The transfer whose bytes go through the Harrow next: the first of its row that has pieces. -/
def Row.harrowing (x : Row) : Option Xfer := x.xfers.find? (fun y => y.finished.isNone && !y.pieces.isEmpty)

/-- One grant of the Harrow to a row: up to 4 KiB of stream in whole units, or one block. -/
def State.harrowRow (s : State) (r : Nat) : State × Bool :=
  let row := s.row r
  if !(row.state == .active) then (s, false)
  else match row.harrowing with
    | none => (s, false)
    | some x =>
      if !x.d.harrowEn then (s, false)
      else
        let u := hxUnit x.harrow
        let avail := (arrivedPrefix x.pieces).1
        let n := min avail.length (max 4096 u) / u * u
        if n = 0 then
          (if x.endAt.isSome && x.pieces.all (fun p => p.arrived) then
             (s.modXfer r x.id (fun y => { y with pieces := [] }), true) else (s, false))
        else
          let out := harrowOp x.harrow (avail.take n)
          ((s.modXfer r x.id (fun y => { y with pieces := takePieces y.pieces n, ready := y.ready ++ out })).bumpBy O.harrowBytes n, true)

/-- A row's priority at the Harrow (R795); none where nothing of it goes there. -/
def State.harrowPrio (s : State) (r : Nat) : Option Nat := (s.row r).harrowing.map (fun x => s.rowPrio r x)

/-- HARROW_GRANT: the highest priority first, rows in turn within one. -/
def execHarrowGrant (s : State) : Out :=
  let order := (List.range 8).reverse.flatMap (fun q => (turnOrder s.drill.lastHarrow).filter (fun r => s.harrowPrio r == some q))
  let a := firstTurn order s (fun s r => s.harrowRow r)
  match a.2 with
  | some r => .next ({ a.1 with drill := { a.1.drill with lastHarrow := r } }.settle r)
  | none => .next a.1

/-! ### The Press -/

/-- Bytes that need no Harrow are ready as they arrive. -/
def State.pullReady (s : State) (r : Nat) (x : Xfer) : State :=
  if x.d.harrowEn then s
  else
    let a := arrivedPrefix x.pieces
    if a.1.isEmpty then s else s.modXfer r x.id (fun y => { y with pieces := a.2, ready := y.ready ++ a.1 })

/-- Bytes of a transfer have been written: the Hopper is freed, counters and half points follow. -/
def State.pressed (s : State) (r : Nat) (x : Xfer) (n : Nat) (bad : Bool) : State :=
  let s := s.modXfer r x.id (fun y => { y with pressPos := y.pressPos + n, ready := y.ready.drop n, poisoned := y.poisoned || bad })
  let s := s.bumpBy O.bytesWritten n
  let row := s.row r
  let b := row.bytes + n
  (s.setRow r { row with bytes := b % 2 ^ 64, ovf := row.ovf || decide (2 ^ 64 ≤ b) }).rowHalves r

/-- The bytes of one write to a translated target, of at most n. -/
def State.pieceLen (s : State) (t : Target) (n : Nat) : Nat :=
  match t with
  | .host a => min (min n s.maxPayload) (4096 - a % 4096)
  | .hbm a => min n (512 - a % 64)
  | .tilth _ o => min n (512 - o % 64)

/-- Write a piece of ready bytes to a translated target: the number written, none where it waits. -/
def State.pressTo (s : State) (r : Nat) (x : Xfer) (t : Target) (n : Nat) : State × Option Nat :=
  match t with
  | .host a =>
    if 512 ≤ s.postedHeld || !s.host.blocked.isEmpty || s.host.frozen then (s, none)
    else (hostPieces (n + 1) s a (x.byteVa true x.pressPos) (x.ready.take n) x.tagPasid x.d.ro (.row r x.id x.pressPos), some n)
  | .hbm a =>
    let c := s.cohAccess true a n
    if c.2 then (c.1.putMarked (.hbm a) (x.ready.take n), some n) else (c.1, none)
  | .tilth p o =>
    let k := s.reachTilth p
    match k.2 with
    | .ready => (k.1.putMarked (.tilth p o) (x.ready.take n), some n)
    | .waits => (k.1, none)
    | .fenced => (k.1.modXfer r x.id (fun y => { y with finished := some (0x40, x.byteVa true x.pressPos) }), some 0)

/-- The length of the next write: a shorter one where the read-ahead of the whole piece would not fit HOP_MAX (R556). -/
def State.pressLen (s : State) (r : Nat) (x : Xfer) (t : Target) (n : Nat) : Nat :=
  let fits (k : Nat) : Bool := match x.hazard t x.pressPos k with | some i => decide (i + 1 - x.pressPos ≤ s.hopMax r) | none => true
  if fits n then n else if 64 < n && fits 64 then 64 else min n 1

/-- The overlap hazard of a write (R556): true where the write must wait for reads; a span above HOP_MAX fails. -/
def State.hazardWait (s : State) (r : Nat) (x : Xfer) (t : Target) (n : Nat) : State × Bool :=
  match x.hazard t x.pressPos n with
  | none => (s, false)
  | some i =>
    if s.hopMax r < i + 1 - x.pressPos then (s.modXfer r x.id (fun y => { y with finished := some (0x104, 0) }), true)
    else if x.memmove then (s, true)
    else ((s.modXfer r x.id (fun y => { y with memmove := true })).bump O.memmoves, true)

/-- Write the next piece of a transfer: true where something was written, or the transfer ended. -/
def State.writeNext (s : State) (r : Nat) (x : Xfer) : State × Bool :=
  let j := x.pressPos
  let run := min x.ready.length (min (x.dpat.lineLeft j) (min x.pressAuth x.d.length - j))
  let delta := x.dpat.at_ j
  if run = 0 then (s, false)
  else match x.d.dstSpace with
    | 3 =>
      let off := stileOff x.d.dst + delta
      let n := min run (4096 - off % 4096)
      let d := x.ready.take n
      let marks := (List.range 64).filter (fun g => ((d.drop (64 * g)).take 64).any (fun y => y.2))
      let m : Msg := { kind := .stileWrite, dst := stilePkg x.d.dst, window := stileWin x.d.dst, addr := off, marks := marks,
                       payload := d.map (fun (y : Byte × Bool) => y.1) }
      let q := s.fabRequest m (.row r x.id j n) none
      if q.2 then (q.1.pressed r x n (!marks.isEmpty), true)
      else (q.1.modXfer r x.id (fun y => { y with finished := some (0x51, x.byteVa true j) }), true)
    | 4 =>
      let lot := fld x.d.dst 48 35
      let off := fld x.d.dst 34 0 + delta
      if min x.ready.length (x.pressAuth - j) < 4096 then
        (if x.endAt.isSome && x.pieces.isEmpty then (s.modXfer r x.id (fun y => { y with ready := [] }), true) else (s, false))
      else match s.seedAnswer true lot off 4096 with
        | .fail c => (s.modXfer r x.id (fun y => { y with finished := some (c, x.byteVa true j) }), true)
        | .wait => (s, false)
        | .ok =>
          let w := s.draftWrite lot off (x.ready.take 4096)
          if w.2 then (w.1.pressed r x 4096 false, true)
          else (w.1.modXfer r x.id (fun y => { y with finished := some (0x60, x.byteVa true j) }), true)
    | sp =>
      let va := x.sideVa true delta
      let t := s.aheadAt r x true delta
      match t.2 with
      | .fails code at_ => (t.1.modXfer r x.id (fun y => { y with finished := some (code, at_) }), true)
      | .waits => (t.1, false)
      | .at_ tg room =>
        let n := s.pressLen r x tg (s.pieceLen tg (min run room))
        let h := t.1.hazardWait r x tg n
        if h.2 then (h.1, (match h.1.xfer r x.id with | some y => y.finished.isSome | none => true))
        else
          let w := h.1.pressTo r x tg n
          match w.2 with
          | none => (w.1, false)
          | some 0 => (w.1, true)
          | some n =>
            let bad := (x.ready.take n).any (fun y => y.2)
            let s := w.1.pressed r x n bad
            let s := if sp = 0 && !x.bypass then ((s.noteOverlay x.pasid va n).countAccess x.pasid va n).listHot else s
            (s, true)

/-- The transfer the Press writes for: the first of its row with bytes left to write. -/
def Row.pressing (x : Row) : Option Xfer :=
  x.xfers.find? (fun y => y.finished.isNone && decide (y.pressPos < y.d.length)
    && !(y.endAt.isSome && y.pieces.isEmpty && y.ready.isEmpty))

/-- The front transfer of an owned row that has ended away from the Press, or has yet to begin: what it waited for may
have come (an answered fault, R482, R493).  Answers whether it moved. -/
def State.frontMoves (s : State) (r : Nat) : Option (State × Bool) :=
  match (s.row r).xfers with
  | y :: _ =>
    if s.rowOwner r = 1 && ((s.outcome r y).isSome || !y.begun) then
      let t := s.settle r
      match (t.row r).xfers with
      | z :: _ => some (t, z.id != y.id || z.begun || z.finished.isSome)
      | [] => some (t, true)
    else none
  | [] => none

/-- One turn of a row at the Press: a row that stops leaves its front transfer once it has drained; a front transfer that has ended leaves, one that may begin begins; otherwise the
Press writes. -/
def State.pressRow (s : State) (r : Nat) : State × Bool :=
  let row := s.row r
  if row.state == .stopping then
    let t := s.stopDrained r
    (t, !((t.row r).state == .stopping))
  else if !(row.state == .active) then (s, false)
  else match s.frontMoves r with
  | some a => a
  | none => match row.pressing with
    | none => (s, false)
    | some x =>
      if !x.begun then (s, false)
      else
        let f := s.feedStart r x
        let s := f.pullReady r x
        match s.xfer r x.id with
        | none => (s, false)
        | some y =>
          if y.finished.isSome then (s.settle r, true)
          else if y.ready.isEmpty then (s, false)
          else
            let g := s.judge r x.id
            if !g.2 then (g.1, false)
            else match g.1.xfer r x.id with
              | none => (g.1, false)
              | some z => if z.finished.isSome then (g.1.settle r, true) else
                let a := g.1.writeNext r z
                if a.2 then (a.1.settle r, true) else a

/-- PRESS_WRITE. -/
def execPressWrite (s : State) : Out :=
  let a := firstTurn (turnOrder s.drill.lastPress) s (fun s r => s.pressRow r)
  match a.2 with
  | some r => .next { a.1 with drill := { a.1.drill with lastPress := r } }
  | none => .next a.1

end Sys2Proof.Machine
end

