-- ==== Sys2Proof/Machine/Arith.lean ====
section
/-! DEFINITION. Number formats (R598), exact arithmetic on them, rounding (R599, R600) and wide partials (R602-R606). -/

namespace Sys2Proof.Machine

/-! ### Formats (R598) -/

/-- A number of a floating-point format: NaN, an infinity, or (-1)^neg * m * 2^e. -/
inductive Num where
  | nan | inf (neg : Bool) | fin (neg : Bool) (m : Nat) (e : Int)
  deriving DecidableEq, Repr

/-- A floating-point format: exponent bits, fraction bits, bias. -/
structure Fmt where
  exp : Nat
  frac : Nat
  bias : Nat
  deriving DecidableEq, Repr

/-- The formats by type code. -/
def fmtOf : Nat → Option Fmt
  | 0 => some { exp := 4, frac := 3, bias := 7 }
  | 1 => some { exp := 5, frac := 2, bias := 15 }
  | 2 => some { exp := 8, frac := 7, bias := 127 }
  | 3 => some { exp := 5, frac := 10, bias := 15 }
  | 4 => some { exp := 8, frac := 23, bias := 127 }
  | _ => none

/-- Bits of an element of a type. -/
def typeBits : Nat → Nat
  | 0 | 1 | 5 => 8
  | 2 | 3 => 16
  | 6 => 4
  | 4 | 7 => 32
  | _ => 128

/-- The canonical NaN of a type. -/
def canonNan : Nat → Nat
  | 0 => 0x7F
  | 1 => 0x7E
  | 2 => 0x7FC0
  | 3 => 0x7E00
  | _ => 0x7FC00000

/-- The magnitude code of the first value that is not finite: NaN of E4M3, infinity of the others. -/
def topCode (t : Nat) (f : Fmt) : Nat := if t = 0 then 0x7F else (2 ^ f.exp - 1) * 2 ^ f.frac

/-- The number that the bits of a floating-point type spell. -/
def numOf (t bits : Nat) : Num :=
  match fmtOf t with
  | none => .nan
  | some f =>
    let c := bits % 2 ^ (f.exp + f.frac)
    let neg := bit bits (f.exp + f.frac)
    if topCode t f ≤ c then (if t != 0 && c = topCode t f then .inf neg else .nan)
    else
      let x := c / 2 ^ f.frac
      let m := c % 2 ^ f.frac
      if x = 0 then .fin neg m (1 - (f.bias : Int) - f.frac) else .fin neg (2 ^ f.frac + m) ((x : Int) - f.bias - f.frac)

/-! ### Rounding (R599, R600) -/

/-- Rounding: to nearest even, toward zero, stochastic with its value r. -/
inductive Rm where
  | nearest | zero | stochastic (r : Nat)
  deriving DecidableEq, Repr

/-- An integer quotient by 2^d rounded. -/
def roundShift (rm : Rm) (m d : Nat) : Nat :=
  let q := m / 2 ^ d
  let rest := m % 2 ^ d
  let up := match rm with
    | .nearest => decide (2 ^ d < 2 * rest) || (2 * rest == 2 ^ d && q % 2 == 1)
    | .zero => false
    | .stochastic r => decide (r < rest * 65536 / 2 ^ d)
  if up then q + 1 else q

/-- The magnitude code of a positive value m * 2^e rounded to a format whose exponents have no upper end. `more` says
that the value lies above m * 2^e by less than one unit of m. -/
def roundCode (f : Fmt) (rm : Rm) (m : Nat) (e : Int) (more : Bool) : Nat :=
  let m' := if more then m * 2 ^ 64 + 1 else m
  let e' := if more then e - 64 else e
  let lead := e' + Nat.log2 m'
  let q := max lead (1 - (f.bias : Int)) - f.frac
  let sig := if q ≤ e' then m' * 2 ^ (e' - q).toNat else roundShift rm m' (q - e').toNat
  (q + f.frac + f.bias - 1).toNat * 2 ^ f.frac + sig

/-- The bits of a sign and a magnitude code. -/
def signed (f : Fmt) (neg : Bool) (c : Nat) : Nat := b2n neg * 2 ^ (f.exp + f.frac) + c

/-- Round to a type (R598-R600): overflow gives an infinity, or the largest finite value toward zero; E4M3 saturates, which the second
component tells. -/
def roundTo (t : Nat) (rm : Rm) (neg : Bool) (m : Nat) (e : Int) (more : Bool) : Nat × Bool :=
  match fmtOf t with
  | none => (0, false)
  | some f =>
    let c := if m = 0 then 0 else roundCode f rm m e more
    if c < topCode t f then (signed f neg c, false)
    else if t = 0 then (signed f neg (topCode t f - 1), true)
    else if rm == .zero then (signed f neg (topCode t f - 1), false)
    else (signed f neg (topCode t f), false)

/-- The bits of a number in a type. -/
def encodeNum (t : Nat) (rm : Rm) (x : Num) (more : Bool := false) : Nat × Bool :=
  match x with
  | .nan => (canonNan t, false)
  | .inf neg => match fmtOf t with
    | some f => if t = 0 then (signed f neg (topCode t f - 1), true) else (signed f neg (topCode t f), false)
    | none => (0, false)
  | .fin neg m e => roundTo t rm neg m e more

/-- Whether the bits of a type are a NaN. -/
def isNanBits (t bits : Nat) : Bool := match numOf t bits with | .nan => true | _ => false

/-! ### Exact operations (R599) -/

/-- The signed integer of a finite number at a scale not above its own. -/
def scaled (neg : Bool) (m : Nat) (e e0 : Int) : Int :=
  let k : Int := (m * 2 ^ (e - e0).toNat : Nat)
  if neg then -k else k

/-- A number from a signed integer and a scale; zero takes the given sign. -/
def ofScaled (v : Int) (e : Int) (zeroNeg : Bool) : Num :=
  if v = 0 then .fin zeroNeg 0 0 else .fin (decide (v < 0)) v.natAbs e

def Num.negate : Num → Num
  | .nan => .nan
  | .inf n => .inf (!n)
  | .fin n m e => .fin (!n) m e

def Num.abs : Num → Num
  | .nan => .nan
  | .inf _ => .inf false
  | .fin _ m e => .fin false m e

def Num.add : Num → Num → Num
  | .nan, _ => .nan
  | _, .nan => .nan
  | .inf a, .inf b => if a == b then .inf a else .nan
  | .inf a, _ => .inf a
  | _, .inf b => .inf b
  | .fin n m e, .fin n' m' e' =>
    let e0 := min e e'
    ofScaled (scaled n m e e0 + scaled n' m' e' e0) e0 (n && n')

def Num.mul : Num → Num → Num
  | .nan, _ => .nan
  | _, .nan => .nan
  | .inf a, .inf b => .inf (a != b)
  | .inf a, .fin n m _ => if m = 0 then .nan else .inf (a != n)
  | .fin n m _, .inf b => if m = 0 then .nan else .inf (n != b)
  | .fin n m e, .fin n' m' e' => .fin (n != n') (m * m') (e + e')

/-- A quotient with 2^40 and more in its significand, and whether the exact one lies above it. -/
def Num.div : Num → Num → Num × Bool
  | .nan, _ => (.nan, false)
  | _, .nan => (.nan, false)
  | .inf _, .inf _ => (.nan, false)
  | .inf a, .fin n _ _ => (.inf (a != n), false)
  | .fin n _ _, .inf b => (.fin (n != b) 0 0, false)
  | .fin n m e, .fin n' m' e' =>
    if m' = 0 then (if m = 0 then (.nan, false) else (.inf (n != n'), false))
    else
      let k := 48 + Nat.log2 m'
      (.fin (n != n') (m * 2 ^ k / m') (e - e' - k), m * 2 ^ k % m' != 0)

/-- Integer square root, one result bit for each bit of fuel. -/
def isqrtFrom : Nat → Nat → Nat → Nat
  | 0, _, r => r
  | k + 1, n, r =>
    let t := r + 2 ^ k
    isqrtFrom k n (if t * t ≤ n then t else r)

def isqrt (n : Nat) : Nat := isqrtFrom (Nat.log2 n / 2 + 1) n 0

def Num.sqrt : Num → Num × Bool
  | .nan => (.nan, false)
  | .inf n => (if n then .nan else .inf false, false)
  | .fin n m e =>
    if m = 0 then (.fin n 0 0, false)
    else if n then (.nan, false)
    else
      let m2 := if e % 2 = 0 then m * 2 ^ 96 else m * 2 ^ 97
      let e2 := if e % 2 = 0 then e - 96 else e - 97
      let r := isqrt m2
      (.fin false r (e2 / 2), r * r != m2)

/-- 1 / sqrt(x). -/
def Num.rsqrt : Num → Num × Bool
  | .nan => (.nan, false)
  | .inf n => (if n then .nan else .fin false 0 0, false)
  | .fin n m e =>
    if m = 0 then (.inf n, false)
    else if n then (.nan, false)
    else
      let m2 := if e % 2 = 0 then m else 2 * m
      let e2 := if e % 2 = 0 then e else e - 1
      let r := isqrt (2 ^ 192 / m2)
      (.fin false r (-(e2 / 2) - 96), r * r * m2 != 2 ^ 192)

/-- Whether x lies above y, for numbers that are not NaN; zeros compare equal. -/
def Num.gt (x y : Num) : Bool :=
  match x, y with
  | .nan, _ => false
  | _, .nan => false
  | .inf a, .inf b => !a && b
  | .inf a, _ => !a
  | _, .inf b => b
  | .fin n m e, .fin n' m' e' => let e0 := min e e'; decide (scaled n' m' e' e0 < scaled n m e e0)

/-- The larger or smaller of two elements. The spec states no result for a NaN operand, nor the sign of the zero of two
zeros that differ in sign: a free value then (log entry 31). -/
def pickNum (t : Nat) (larger : Bool) (free a b : Nat) : Nat :=
  match numOf t a, numOf t b with
  | .nan, _ => let v := Config.freeValue free % 2 ^ typeBits t; if isNanBits t v then canonNan t else v
  | _, .nan => let v := Config.freeValue free % 2 ^ typeBits t; if isNanBits t v then canonNan t else v
  | .fin n 0 e, .fin n' 0 _ => if n = n' then a else (encodeNum t .nearest (.fin (Config.freeValue free % 2 == 1) 0 e)).1
  | x, y => if (if larger then x.gt y else y.gt x) then a else b

/-- VBIN's operations; none for a reserved one. -/
def vbin (t op free a b : Nat) : Option Nat :=
  let x := numOf t a
  let y := numOf t b
  let out (r : Num × Bool) : Option Nat := some (encodeNum t .nearest r.1 r.2).1
  match op with
  | 0 => out (x.add y, false)
  | 1 => out (x.add y.negate, false)
  | 2 => out (x.mul y, false)
  | 3 => out (x.div y)
  | 4 => some (pickNum t true free a b)
  | 5 => some (pickNum t false free a b)
  | _ => none

/-- floor(log2 |x|) of a finite non-zero number. -/
def Num.exponent : Num → Option Int
  | .fin _ m e => if m = 0 then none else some (e + Nat.log2 m)
  | _ => none

/-! ### Conversion (R600) -/

/-- The value r of stochastic rounding for an element index and a seed. -/
def stochasticR (seed i : Nat) : Nat :=
  let x := (seed + i * 0x9E3779B97F4A7C15) % 2 ^ 64
  let x := x ^^^ (x / 2 ^ 30)
  let x := x * 0xBF58476D1CE4E5B9 % 2 ^ 64
  let x := x ^^^ (x / 2 ^ 27)
  x / 2 ^ 48

/-- The exact value of an element: floating-point or integer. -/
def elemNum (t bits : Nat) : Num :=
  match t with
  | 5 => ofScaled (sext 8 bits) 0 false
  | 6 => ofScaled (sext 4 bits) 0 false
  | 7 => ofScaled (sext 32 bits) 0 false
  | _ => numOf t bits

/-- A number converted to a w-bit integer, and whether it saturated or was NaN. -/
def toInt (w : Nat) (rm : Rm) : Num → Nat × Bool
  | .nan => (0, true)
  | .inf neg => (if neg then 2 ^ (w - 1) else 2 ^ (w - 1) - 1, true)
  | .fin neg m e =>
    let k := if 0 ≤ e then m * 2 ^ e.toNat else roundShift rm m (-e).toNat
    if neg then (if 2 ^ (w - 1) < k then (2 ^ (w - 1), true) else ((2 ^ w - k) % 2 ^ w, false))
    else if 2 ^ (w - 1) ≤ k then (2 ^ (w - 1) - 1, true) else (k, false)

/-- Convert an element: the bits, FP8_SAT and INT_SAT. -/
def convert (dt st : Nat) (rm : Rm) (bits : Nat) : Nat × Bool × Bool :=
  let x := elemNum st bits
  if dt = 5 || dt = 6 || dt = 7 then
    let r := toInt (typeBits dt) rm x
    (r.1, false, r.2)
  else
    let r := encodeNum dt rm x
    (r.1, r.2, false)

/-! ### Elements in tilth -/

/-- Words of k bytes. -/
def splitWords (k : Nat) : Nat → List Byte → List Nat
  | 0, _ => []
  | n + 1, bs => leNat (bs.take k) :: splitWords k n (bs.drop k)

/-- The first n elements that bytes hold; INT4 lies two to a byte, the low nibble first. -/
def elems (t n : Nat) (bs : List Byte) : List Nat :=
  if t = 6 then (bs.flatMap (fun b => [b.toNat % 16, b.toNat / 16])).take n
  else splitWords (typeBits t / 8) n bs

/-- Nibbles in pairs. -/
def packNibbles : List Nat → List Byte
  | [] => []
  | [a] => [BitVec.ofNat 8 (a % 16)]
  | a :: b :: l => BitVec.ofNat 8 (a % 16 + b % 16 * 16) :: packNibbles l

/-- The bytes of elements. -/
def packElems (t : Nat) (l : List Nat) : List Byte :=
  if t = 6 then packNibbles l else l.flatMap (fun v => natLe (typeBits t / 8) v)

/-! ### Wide partials (R602-R606) -/

namespace Wide

/-- The 16 bytes of a wide partial (R604). -/
def code (w : Wide) : Nat :=
  w.fix.toNat + 2 ^ 120 * (b2n w.inexact + 2 * b2n w.ovf + 4 * b2n w.nan + 8 * b2n w.pinf + 16 * b2n w.ninf)

end Wide

/-- The wide partial that 128 bits spell. -/
def wideOf (v : Nat) : Wide :=
  { fix := BitVec.ofNat 120 v, inexact := bit v 120, ovf := bit v 121, nan := bit v 122, pinf := bit v 123, ninf := bit v 124 }

/-- Sum of wide partials: FIX modulo 2^120, flags ORed (R605). -/
def wideAdd (a b : Wide) : Wide :=
  { fix := a.fix + b.fix, inexact := a.inexact || b.inexact, ovf := a.ovf || b.ovf, nan := a.nan || b.nan,
    pinf := a.pinf || b.pinf, ninf := a.ninf || b.ninf }

/-- What a number adds to a cell under EW (R602, R603): its image and flags. -/
def image (ew : Int) : Num → Wide
  | .nan => { nan := true }
  | .inf neg => { pinf := !neg, ninf := neg }
  | .fin neg m e =>
    if m = 0 then {}
    else
      let lsb := ew - 88
      let k := if lsb ≤ e then m * 2 ^ (e - lsb).toNat else m / 2 ^ (lsb - e).toNat
      { fix := if neg then -(BitVec.ofNat 120 k) else BitVec.ofNat 120 k,
        inexact := decide (e < lsb) && m % 2 ^ (lsb - e).toNat != 0,
        ovf := decide (ew + 8 ≤ e + Nat.log2 m) }

/-- A wide partial rounded to FP32, BF16 or FP16 (R606). -/
def roundWide (t : Nat) (ew : Int) (w : Wide) : Nat :=
  if w.nan || (w.pinf && w.ninf) then canonNan t
  else if w.ovf then (if t = 4 then 0x7FC00001 else canonNan t)
  else if w.pinf then (encodeNum t .nearest (.inf false)).1
  else if w.ninf then (encodeNum t .nearest (.inf true)).1
  else
    let v := w.fix.toInt
    if v = 0 then 0 else (encodeNum t .nearest (.fin (decide (v < 0)) v.natAbs (ew - 88))).1

/-- FIX saturated to INT32, and whether it saturated. -/
def wideInt (w : Wide) : Nat × Bool :=
  let v := w.fix.toInt
  if 2 ^ 31 ≤ v then (2 ^ 31 - 1, true) else if v < -(2 ^ 31) then (2 ^ 31, true) else (toTwos 32 v, false)

/-! ### Beds (R601) -/

/-- The accumulator MODE that a pair of stationary and streamed types needs; none where no such pair exists. -/
def pairMode (b a : Nat) : Option Nat :=
  if b ≤ 1 && a ≤ 1 then some 0
  else if (b = 2 && a = 2) || (b = 3 && a = 3) then some 1
  else if (b = 5 && a = 5) || (b = 6 && a = 6) then some 2
  else none

/-- K of a stationary type. -/
def depthOf (t : Nat) : Nat := if t = 6 then 512 else 256

/-- One dot product of a row of A and a column of B. -/
def dotImage (ew : Int) : List Num → List Num → Wide
  | a :: as, b :: bs => wideAdd (image ew (a.mul b)) (dotImage ew as bs)
  | _, _ => {}

/-- Element (k, n) of a stationary tile of depth K lies at this index (R601). -/
def tileIndex (depth : Nat) (trans : Bool) (k n : Nat) : Nat := if trans then n * depth + k else k * 256 + n

end Sys2Proof.Machine
end

