-- ==== Sys2Proof/Machine/Transcend.lean ====
section
/-! DEFINITION. The unary vector functions, correctly rounded (R599): each result is enclosed between two dyadic numbers,
and where both round to one value, that is the exact result's rounding.  An enclosure too wide to decide leaves the result
to Config.vectorResult (log entry 4). -/

namespace Sys2Proof.Machine

/-- A value between lo * 2^e and hi * 2^e. -/
structure Encl where
  lo : Int
  hi : Int
  e : Int
  deriving DecidableEq, Repr

/-- Rounded up quotient of naturals. -/
def ceilDiv (a b : Nat) : Nat := (a + b - 1) / b

/-- Terms of e^y - 1 - ... from a term on, y = Y / 2^p below 2^-8: floors summed, then ceilings. -/
def expTerms (p lo hi : Nat) : Nat → Nat → Nat → Nat → Nat × Nat
  | 0, _, _, _ => (0, 2)
  | n + 1, i, a, b =>
    let r := expTerms p lo hi n (i + 1) (a * lo / 2 ^ p / (i + 1)) (ceilDiv (ceilDiv (b * hi) (2 ^ p)) (i + 1))
    (a + r.1, b + r.2)

/-- An enclosure at scale 2^-p squared k times. -/
def squareTimes (p : Nat) : Nat → Nat → Nat → Nat × Nat
  | 0, a, b => (a, b)
  | k + 1, a, b => squareTimes p k (a * a / 2 ^ p) (ceilDiv (b * b) (2 ^ p))

/-- e^x at scale 2^-p for x = X / 2^p below 2^8: the sixteenth halving, a series, sixteen squarings. -/
def expPos (p x : Nat) : Nat × Nat :=
  let t := expTerms p (x / 65536) (x / 65536 + 1) (p / 8) 0 (2 ^ p) (2 ^ p)
  squareTimes p 16 t.1 t.2

/-- atanh(t) at scale 2^-p for t between a and b over 2^p, at most 1/3: the terms t^(2i+1) / (2i+1). -/
def atanhTerms (p a2 b2 : Nat) : Nat → Nat → Nat → Nat → Nat × Nat
  | 0, _, _, _ => (0, 2)
  | n + 1, i, a, b =>
    let r := atanhTerms p a2 b2 n (i + 1) (a * a2 / 2 ^ p) (ceilDiv (b * b2) (2 ^ p))
    (a / (2 * i + 1) + r.1, ceilDiv b (2 * i + 1) + r.2)

/-- atanh(num / den). -/
def atanhPos (p num den : Nat) : Nat × Nat :=
  let a := num * 2 ^ p / den
  let b := ceilDiv (num * 2 ^ p) den
  atanhTerms p (a * a / 2 ^ p) (ceilDiv (b * b) (2 ^ p)) (p / 3) 0 a b

/-- atan(1/n) at scale 2^-p: terms of the alternating series, floors and ceilings kept apart. -/
def atanTerms (p n2 : Nat) : Nat → Nat → Nat → Nat → Int × Int
  | 0, _, _, _ => (-2, 2)
  | k + 1, i, a, b =>
    let r := atanTerms p n2 k (i + 1) (a / n2) (ceilDiv b n2)
    let lo : Int := (a / (2 * i + 1) : Nat)
    let hi : Int := (ceilDiv b (2 * i + 1) : Nat)
    (lo - r.2, hi - r.1)

def atanInv (p n : Nat) : Int × Int := atanTerms p (n * n) (p / 4) 0 (2 ^ p / n) (ceilDiv (2 ^ p) n)

/-- Pi at scale 2^-p: 16 atan(1/5) - 4 atan(1/239). -/
def piEncl (p : Nat) : Int × Int :=
  let a := atanInv p 5
  let b := atanInv p 239
  (16 * a.1 - 4 * b.2, 16 * a.2 - 4 * b.1)

/-- 1 / sqrt(2 pi) at scale 2^-p. -/
def invSqrtTau (p : Nat) : Nat × Nat :=
  let c := piEncl p
  (isqrt (2 ^ (3 * p) / (2 * c.2.toNat)), isqrt (2 ^ (3 * p) / (2 * c.1.toNat)) + 1)

/-- x + x^3/3 + x^5/15 + ... at scale 2^-p: the terms x^(2k+1) / (2k+1)!!. -/
def phiTerms (p lo2 hi2 : Nat) : Nat → Nat → Nat → Nat → Nat × Nat
  | 0, _, _, _ => (0, 2)
  | n + 1, i, a, b =>
    let r := phiTerms p lo2 hi2 n (i + 1) (a * lo2 / 2 ^ p / (2 * i + 3)) (ceilDiv (ceilDiv (b * hi2) (2 ^ p)) (2 * i + 3))
    (a + r.1, b + r.2)

/-- The normal distribution between 0 and x = X / 2^p, at most 16, at scale 2^-p. -/
def phiPos (p x : Nat) : Nat × Nat :=
  let lo2 := x * x / 2 ^ p
  let hi2 := ceilDiv (x * x) (2 ^ p)
  let s := phiTerms p lo2 hi2 900 0 x x
  let ea := expPos p (lo2 / 2)
  let eb := expPos p (hi2 / 2 + 1)
  let c := invSqrtTau p
  (s.1 * c.1 / eb.2, ceilDiv (s.2 * c.2) ea.1)

/-- The fixed-point value of m * 2^e at scale 2^-p, exact where e is at least -p. -/
def fixed (p m : Nat) (e : Int) : Nat := if 0 ≤ e + p then m * 2 ^ (e + p).toNat else m / 2 ^ (-(e + p)).toNat

/-- log2 of a bound on |x|: |x| lies in [2^lead, 2^(lead+1)). -/
def leadOf (m : Nat) (e : Int) : Int := e + Nat.log2 m

/-- e^x for x = (-1)^neg m 2^e, m positive. -/
def exp' (neg : Bool) (m : Nat) (e : Int) : Encl :=
  if 8 ≤ leadOf m e then (if neg then { lo := 1, hi := 2, e := -1000 } else { lo := 1, hi := 2, e := 1000 })
  else if leadOf m e < -60 then
    (if neg then { lo := 2 ^ 80 - 2 ^ 22, hi := 2 ^ 80 - 1, e := -80 } else { lo := 2 ^ 80 + 1, hi := 2 ^ 80 + 2 ^ 22, e := -80 })
  else
    let r := expPos 256 (fixed 256 m e)
    if neg then { lo := (2 ^ 1000 / r.2 : Nat), hi := (ceilDiv (2 ^ 1000) r.1 : Nat), e := -744 }
    else { lo := (r.1 : Nat), hi := (r.2 : Nat), e := -256 }

/-- log of m * 2^e, not 1. -/
def log' (m : Nat) (e : Int) : Encl :=
  let p := 256
  let l := Nat.log2 m
  let up := decide (3 * 2 ^ l ≤ 2 * m)
  let k : Int := e + l + (if up then 1 else 0)
  let d := if up then 2 ^ (l + 1) else 2 ^ l
  let t := if d ≤ m then atanhPos p (m - d) (m + d) else atanhPos p (d - m) (m + d)
  let part : Int × Int := if d ≤ m then (2 * t.1, 2 * t.2) else (-(2 * t.2 : Int), -(2 * t.1 : Int))
  let ln2 := atanhPos p 1 3
  let whole : Int × Int := if 0 ≤ k then (k * (2 * ln2.1), k * (2 * ln2.2)) else (k * (2 * ln2.2), k * (2 * ln2.1))
  { lo := part.1 + whole.1, hi := part.2 + whole.2, e := -(p : Int) }

/-- tanh of m * 2^e, m positive. -/
def tanh' (m : Nat) (e : Int) : Encl :=
  if 7 ≤ leadOf m e then { lo := 2 ^ 80 - 1, hi := 2 ^ 80, e := -80 }
  else if leadOf m e < -40 then { lo := (m * 2 ^ 78 - m : Nat), hi := (m * 2 ^ 78 : Nat), e := e - 78 }
  else
    let r := expPos 256 (2 * fixed 256 m e)
    let one := 2 ^ 256
    { lo := ((r.1 - one) * 2 ^ 256 / (r.1 + one) : Nat), hi := (ceilDiv ((r.2 - one) * 2 ^ 256) (r.2 + one) : Nat), e := -256 }

/-- 1 / (1 + e^-x) for x = (-1)^neg m 2^e, m positive. -/
def sigmoid' (neg : Bool) (m : Nat) (e : Int) : Encl :=
  if 8 ≤ leadOf m e then (if neg then { lo := 1, hi := 2, e := -1000 } else { lo := 2 ^ 80 - 1, hi := 2 ^ 80, e := -80 })
  else if leadOf m e < -60 then
    (if neg then { lo := 2 ^ 80 - 2 ^ 22, hi := 2 ^ 80 - 1, e := -81 } else { lo := 2 ^ 80 + 1, hi := 2 ^ 80 + 2 ^ 22, e := -81 })
  else
    let r := expPos 256 (fixed 256 m e)
    let one := 2 ^ 256
    if neg then { lo := (2 ^ 1000 / (one + r.2) : Nat), hi := (ceilDiv (2 ^ 1000) (one + r.1) : Nat), e := -744 }
    else { lo := (r.1 * 2 ^ 256 / (r.1 + one) : Nat), hi := (ceilDiv (r.2 * 2 ^ 256) (r.2 + one) : Nat), e := -256 }

/-- The magnitude of x * Phi(x) for x = (-1)^neg m 2^e, m positive. -/
def gelu' (neg : Bool) (m : Nat) (e : Int) : Encl :=
  if 4 ≤ leadOf m e then
    (if neg then { lo := 1, hi := 2, e := -1000 } else { lo := (m * 2 ^ 80 - m : Nat), hi := (m * 2 ^ 80 : Nat), e := e - 80 })
  else if leadOf m e < -60 then
    let sq : Int := (m * m : Nat)
    let half : Int := if 2 * e - 2 ≤ e - 1 then (m * 2 ^ (1 - e).toNat : Nat) else 0
    if neg then { lo := half - 2 * sq, hi := half - sq, e := 2 * e - 2 } else { lo := half + sq, hi := half + 2 * sq, e := 2 * e - 2 }
  else
    let p := 512
    let r := phiPos p (fixed p m e)
    let h := 2 ^ 511
    if neg then { lo := (m * (h - r.2) : Nat), hi := (m * (h - r.1) : Nat), e := e - p }
    else { lo := (m * (h + r.1) : Nat), hi := (m * (h + r.2) : Nat), e := e - p }

/-- The number at one end of an enclosure. -/
def endNum (neg : Bool) (v e : Int) : Num := .fin (neg != decide (v < 0)) v.natAbs e

/-- An enclosed value rounded to a type; its sign turned where `neg` holds. -/
def roundEncl (t fn arg : Nat) (neg : Bool) (c : Encl) : Nat :=
  let a := (encodeNum t .nearest (endNum neg c.lo c.e)).1
  let b := (encodeNum t .nearest (endNum neg c.hi c.e)).1
  if a = b then a else Config.vectorResult fn t arg

/-- VUN's functions (R597, R599); none for a reserved one. -/
def vun (t fn free bits : Nat) : Option Nat :=
  let x := numOf t bits
  let out (r : Num × Bool) : Option Nat := some (encodeNum t .nearest r.1 r.2).1
  let one : Num := .fin false 1 0
  match fn with
  | 0 => match x with
    | .fin n m e => if m = 0 then out (one, false) else some (roundEncl t 0 bits false (exp' n m e))
    | .inf n => out (if n then .fin false 0 0 else .inf false, false)
    | .nan => out (.nan, false)
  | 1 => match x with
    | .fin n m e =>
      if m = 0 then out (.inf true, false)
      else if n then out (.nan, false)
      else if 2 ^ Nat.log2 m = m && e + Nat.log2 m = 0 then out (.fin false 0 0, false)
      else some (roundEncl t 1 bits false (log' m e))
    | .inf n => out (if n then .nan else .inf false, false)
    | .nan => out (.nan, false)
  | 2 => out (one.div x)
  | 3 => out x.rsqrt
  | 4 => out x.sqrt
  | 5 => match x with
    | .fin n m e => if m = 0 then out (x, false) else some (roundEncl t 5 bits n (tanh' m e))
    | .inf n => out (.fin n 1 0, false)
    | .nan => out (.nan, false)
  | 6 => match x with
    | .fin n m e => if m = 0 then out (.fin false 1 (-1), false) else some (roundEncl t 6 bits false (sigmoid' n m e))
    | .inf n => out (if n then .fin false 0 0 else one, false)
    | .nan => out (.nan, false)
  | 7 => match x with
    | .fin n m e => if m = 0 then out (x, false) else some (roundEncl t 7 bits n (gelu' n m e))
    | .inf n =>
      if n then (let v := Config.freeValue free % 2 ^ typeBits t; some (if isNanBits t v then canonNan t else v))
      else out (.inf false, false)
    | .nan => out (.nan, false)
  | 8 => out (x.abs, false)
  | 9 => out (x.negate, false)
  | _ => none

end Sys2Proof.Machine
end

