-- ==== Sys2Proof/Machine/Plot.lean ====
section
/-! DEFINITION. Programs on plots: claim and load (R580-R587), the sequencer and its commands for control, stakes and
feeds (R592-R597, R614, R615), halts and failures (R588-R591), the registers of a plot that software writes (R629). -/

namespace Sys2Proof.Machine

/-! ### Tilth and index registers -/

/-- DATA_TOP of a plot (R579). -/
def State.dataTop (s : State) (p : Nat) : Nat := 0xFC00000 - fld (s.rg (Rg.tilthSplit p)) 6 0 * 0x100000

/-- An index register: I[0] reads the plot number (R594). -/
def State.idx (s : State) (p k : Nat) : Nat := if k = 0 then p else kvGet 0 (s.plot p).idx k

/-- Write an index register; a write of I[0] ends the program (R594). -/
def State.setIdx (s : State) (p k v : Nat) : State :=
  if k = 0 then s.failPlot p 0x203 else s.modPlot p (fun x => { x with idx := kvSet 0 x.idx k (v % 2 ^ 64) })

/-- The offset that a tilth reference in bits [lo+31:lo] of a command names (R596). -/
def State.tref (s : State) (p v lo : Nat) : Nat :=
  let k := fld v (lo + 31) (lo + 28)
  (fld v (lo + 27) lo + (if k = 0 then 0 else s.idx p k)) % 2 ^ 64

/-! ### Reaching memory -/

/-- Whether a command may reach a range: its extents, a wait, or the code that ends the program and the address that failed. -/
inductive Reach where
  | ok (l : List (Target × Nat)) | waits | fails (code addr : Nat)
  deriving DecidableEq, Repr

/-- The identity of a plot's accesses (R584, R613). -/
def State.plotWho (s : State) (p : Nat) : Who :=
  let x := s.plot p
  { stream := .gleaner p, pasid := x.pasid, priv := x.priv, bypass := x.bypass }

/-- The PASID prefix of a plot's host traffic (R277). -/
def State.plotTag (s : State) (p : Nat) : Option Nat := if (s.plot p).bypass then none else some (s.plot p).pasid

/-- Each extent may be accessed now, and one in tilth ends at the plot's DATA_TOP at the latest (R579, R616). -/
def reachAll : List (Target × Nat) → State → Access → State × Option Nat
  | [], s, _ => (s, none)
  | (t, n) :: l, s, acc =>
    let c := s.reachOne t n acc
    match c.2 with
    | some e => (c.1, some e)
    | none => if (match t with | .tilth q o => decide (s.dataTop q < o + n) | _ => false) then (c.1, some 0x204) else reachAll l c.1 acc

/-- A translation that a plot's gleaner keeps in its buffer of 1,024 entries (R461). -/
def State.keepXlat (s : State) (p : Nat) (e : Xlat) : State := s.modPlot p (fun x => { x with gbuf := (e :: x.gbuf).take 1024 })

/-- A plot's access waits for a translation: counted once at an address (R457). -/
def State.plotWaits (s : State) (p va : Nat) : State :=
  if (s.plot p).waitAt == some va then s else (s.modPlot p (fun x => { x with waitAt := some va })).bump O.runaheadWaits

/-- Resolve a byte of a range for a plot: as the buffer of its gleaner has it, or by a lookup, which the buffer keeps (R461). -/
def State.plotLookup (s : State) (p : Nat) (ra : Side) (off : Nat) : State × Lk :=
  let who := s.plotWho p
  let va := ra.va off
  match ra.space who.bypass with
  | none => s.resolveAt who ra.sp ra.start off ra.acc
  | some space =>
    match (s.plot p).gbuf.find? (fun e => e.pasid == who.pasid && e.space == space && decide (e.va ≤ va) && decide (va < e.va + e.size)
        && hasRight e.r e.w e.a ra.acc) with
    | some e => (s, .at_ (e.base.plus (va - e.va)) (e.va + e.size - va))
    | none =>
      let k := s.resolveAt who ra.sp ra.start off ra.acc
      match k.2 with
      | .at_ t room =>
        ((k.1.modPlot p (fun x => { x with waitAt := none })).keepXlat p
          { pasid := who.pasid, space := space, va := va, size := room, base := t, r := ra.acc == .read, w := ra.acc == .write,
            a := ra.acc == .atomic, source := .table }, .at_ t room)
      | .wait => (k.1.plotWaits p va, .wait)
      | .denied => k

/-- Resolve a range for a plot from an offset up to an end: its extents, a wait, or the address that is denied. -/
def plotLoop : Nat → State → Nat → Side → Nat → Nat → List (Target × Nat) → State × Reach
  | 0, s, _, _, _, _, l => (s, .ok l)
  | fuel + 1, s, p, ra, off, stop, l =>
    if stop ≤ off then (s, .ok l)
    else
      let k := s.plotLookup p ra off
      match k.2 with
      | .wait => (k.1, .waits)
      | .denied => (k.1, .fails 0x21 (ra.va off))
      | .at_ t room =>
        let n := min room (stop - off)
        plotLoop fuel k.1 p ra (off + n) stop (l ++ [(t, n)])

/-- Reach the bytes from `lo` to `hi` past a start address of a space. -/
def State.reachRange (s : State) (p sp start lo hi : Nat) (acc : Access) : State × Reach :=
  let ra : Side := { dst := false, sp := sp, start := start, len := hi, acc := acc }
  let k := plotLoop (hi - lo + 1) s p ra lo hi []
  match k.2 with
  | .ok l =>
    let r := reachAll l k.1 acc
    match r.2 with
    | none => (r.1, .ok l)
    | some 0 => (r.1, .waits)
    | some c => (r.1, .fails c (ra.va lo))
  | _ => k

/-- Reach several ranges, in order. -/
def reachRanges : List (Nat × Nat) → State → Nat → Nat → Nat → Access → List (Target × Nat) → State × Reach
  | [], s, _, _, _, _, l => (s, .ok l)
  | (lo, hi) :: rs, s, p, sp, start, acc, l =>
    let r := s.reachRange p sp start lo hi acc
    match r.2 with
    | .ok k => reachRanges rs r.1 p sp start acc (l ++ k)
    | _ => r

/-- The relaxed-ordering bit of the descriptor whose program a plot runs (R277). -/
def State.plotRo (s : State) (p : Nat) : Bool := match s.slot (s.plot p).furrow (s.plot p).seq with | some x => x.d.ro | none => false

/-- The addresses that the extents of ranges past a start address were translated from. -/
def extVas : List (Target × Nat) → List (Nat × Nat) → Nat → List Nat
  | [], _, _ => []
  | _ :: l, [], start => start :: extVas l [] start
  | (_, n) :: l, (lo, hi) :: rs, start => (start + lo) % 2 ^ 64 :: extVas l (if lo + n < hi then (lo + n, hi) :: rs else rs) start

/-- Extents of ranges past a start address, each with the address that it was translated from. -/
def withVas (l : List (Target × Nat)) (rs : List (Nat × Nat)) (start : Nat) : List ((Target × Nat) × Nat) :=
  l.zip (extVas l (rs.filter (fun r => decide (r.1 < r.2))) start)

/-- Write extents of a plot in order. -/
def writeExt : List ((Target × Nat) × Nat) → State → List (Byte × Bool) → Nat → State
  | [], s, _, _ => s
  | ((t, n), va) :: l, s, d, p => writeExt l (s.putBytes t va (d.take n) (s.plotTag p) (s.plotRo p) (.gleaner p)) (d.drop n) p

/-- Write bytes at a 64-byte aligned offset of a plot's own tilth, granule by granule with its mark; a marked granule is
remembered for the descriptor's status (R588). -/
def State.putTilth (s : State) (p off : Nat) (d : List (Byte × Bool)) : State :=
  let s := s.putMarked (.tilth p off) d
  if d.any (fun y => y.2) then s.modPlot p (fun x => { x with poisoned := true }) else s

/-! ### Claiming (R582) -/

/-- A plot that a program may claim: IDLE, or GATED and able to wake. -/
def State.claimable (s : State) (p : Nat) : Bool :=
  let x := s.plot p
  x.mask == 0 && (x.state == .idle || (x.state == .gated && !bit s.pwr.plotHeldOff p))

/-- The plots of a mask. -/
def plotsIn (mask : Nat) : List Nat := (List.range 16).filter (fun p => bit mask p)

/-- A ready PROGRAM descriptor can go on: it claims every plot, or a fenced plot fails it. -/
def State.canClaim (s : State) (x : Slot) : Bool :=
  let d := x.d
  x.doomed || (plotsIn d.plotMask).any (fun p => (s.plot p).state == .fenced) || (plotsIn d.plotMask).all (fun p => s.claimable p)

/-- The winner among the descriptors that can claim their plots. -/
def State.claimWinner (s : State) : Option (Nat × Slot) :=
  let can (n : Nat) : Bool := match s.ready n 2 with | some x => s.canClaim x | none => false
  match takeTurn (highest (s.furrowsOn.filter can) (s.startPrio 2)) (kvGet 4095 s.g.lastStart 2) with
  | some n => (s.ready n 2).map (fun x => (n, x))
  | none => none

/-- A PROGRAM descriptor claims every plot of its mask in one Gate cycle; a gated plot is woken. -/
def State.claim (s : State) : State :=
  match s.claimWinner with
  | none => s
  | some (n, x) =>
    if x.doomed || (plotsIn x.d.plotMask).any (fun p => (s.plot p).state == .fenced) then
      ((s.finish n x.seq 0x40 0 (doomedAddr x)).settleStakes).sowAhead n
    else
      let s := s.markStarted 2 n x.seq
      let s := s.each (plotsIn x.d.plotMask) (fun s p => s.modPlot p (fun (y : Plot) =>
        { y with state := (if y.state == .idle then .loading else y.state), rampQueued := y.rampQueued || y.state == .gated,
                 mask := x.d.plotMask, furrow := n, seq := x.seq, pc := 0, pasid := s.furPasid n, priv := s.furPriv n,
                 bypass := s.furBypass n, abort := x.d.abort, ended := none, endAddr := 0, flags := {}, poisoned := false, prog := none }))
      s.sowAhead n

/-- PROGRAM_CLAIM. -/
def execProgramClaim (s : State) : Out := .next s.claim

/-- DESCRIPTOR_START (R358). -/
def execDescriptorStart (engine : Fin 4) (s : State) : Out :=
  .next (match engine with
    | 0 => s.startNop
    | 1 => s.startDrill
    | 2 => s.claim
    | 3 => s.startSeed)

/-! ### The container (R583-R587) -/

/-- A view of a container (R584); none where a field is reserved or out of range. -/
def parseView (b : List Byte) : Option View :=
  let v : View := { space := bytesAt b 0 1, arg := bytesAt b 1 1, x := bytesAt b 4 4, base := bytesAt b 8 8,
                    ystride := bytesAt b 16 8, y := bytesAt b 24 4 }
  if 2 < v.space || (64 ≤ v.arg && v.arg != 0xFF) || bytesAt b 2 2 != 0 || v.x = 0 || 0x1000000 < v.x || bytesAt b 28 4 != 0
      || addrRsv v.space v.base then none
  else some v

/-- Views from a list of bytes. -/
def parseViews : Nat → List Byte → Option (List View)
  | 0, _ => some []
  | n + 1, b =>
    match parseView (b.take 32), parseViews n (b.drop 32) with
    | some v, some l => some (v :: l)
    | _, _ => none

/-- One bit of CRC-32 (IEEE 802.3, reflected). -/
def crcBits : Nat → Nat → Nat
  | 0, c => c
  | n + 1, c => crcBits n (if c % 2 = 1 then (c / 2) ^^^ 0xEDB88320 else c / 2)

/-- CRC-32 of bytes (log entry 32). -/
def crc32 (bs : List Byte) : Nat := (bs.foldl (fun c b => crcBits 8 (c ^^^ b.toNat)) 0xFFFFFFFF) ^^^ 0xFFFFFFFF

/-- The header of a container (R583). -/
structure Header where
  magic : Nat
  version : Nat
  cmds : Nat
  views : Nat
  rsv : Bool
  consts : Nat
  constTilth : Nat
  argTilth : Nat
  need : Nat
  id : Nat
  crc : Nat
  deriving DecidableEq, Repr

def parseHeader (b : List Byte) : Header :=
  { magic := bytesAt b 0 4, version := bytesAt b 4 2, cmds := bytesAt b 6 2, views := bytesAt b 8 1,
    rsv := bytesAt b 9 7 != 0 || bytesAt b 44 20 != 0, consts := bytesAt b 16 4, constTilth := bytesAt b 20 4,
    argTilth := bytesAt b 24 4, need := bytesAt b 28 4, id := bytesAt b 32 8, crc := bytesAt b 40 4 }

/-- Bytes of header, views and commands. -/
def Header.textBytes (h : Header) : Nat := 64 + 32 * h.views + 16 * h.cmds

/-- The checks of R585: 0 passes. A key that is resident is not read again, so its CRC and views are not checked again. -/
def containerCheck (h : Header) (b : List Byte) (len top argWords : Nat) (hit : Bool) : Nat :=
  if h.magic != 0x544F4C50 || h.version != 1 || h.rsv || h.cmds = 0 || 0x1000000 < h.consts || h.constTilth % 64 != 0
      || h.argTilth % 64 != 0 || len != h.textBytes + h.consts then 0x200
  else if !hit && crc32 (b.take 40 ++ List.replicate 4 0 ++ b.drop 44) != h.crc then 0x201
  else if top < h.need || (h.consts != 0 && top < h.constTilth + h.consts) || (argWords != 0 && top < h.argTilth + 8 * argWords) then 0x202
  else if !hit && (parseViews h.views (b.drop 64)).isNone then 0x200
  else 0

/-- Commands from a list of bytes. -/
def parseCmds : Nat → List Byte → List Nat
  | 0, _ => []
  | n + 1, b => leNat (b.take 16) :: parseCmds n (b.drop 16)

/-- The lowest place of the program store with room for `size` bytes, none where the residents leave none (log entry
33). -/
def placeFor (l : List Program) (size : Nat) : Option Nat :=
  let free (a : Nat) : Bool := decide (a + size ≤ 0x10000000) && l.all (fun g => decide (a + size ≤ g.place) || decide (g.place + g.size ≤ a))
  ((0xFC00000 :: l.map (fun g => g.place + g.size)).filter free).head?

/-- Evict the programs least recently started until one more fits: at most 8, 4 MiB (R586). -/
def evictFor : Nat → List Program → Nat → List Program
  | 0, l, _ => l
  | n + 1, l, size => if l.length < 8 && (placeFor l size).isSome then l else evictFor n l.dropLast size

/-- The rank of a plot in a mask (R594). -/
def rankIn (mask p : Nat) : Nat := ((List.range p).filter (fun k => bit mask k)).length

/-- A bed at a program start: what its accumulator holds is open (R624; log entry 34), the stationary buffers stay. -/
def Bed.atStart (b : Bed) (free : Nat) : Bed :=
  let m := Config.freeValue free % 3
  { b with base := some (free + 2), cells := [], bad := [], mode := m,
           ew := (if m = 0 then 56 else if m = 2 then 88 else ((Config.freeValue (free + 1) % 641 : Nat) : Int) - 320) }

/-- The plot's tilth at a change of owner: data area and gleaner cache zeroed (R587). -/
def State.scrubTilth (s : State) (p : Nat) : State :=
  let s := (s.setTilth p (storeZero (s.tilthStore p) 0 0xFC00000)).bump O.scrubs
  s.modPlot p (fun x => { x with gcache := [] })

/-- The program starts on a plot: owner and scrub, store, constants, arguments, index registers (R586, R587, R594). -/
def State.startProgram (s : State) (p : Nat) (x : Slot) (h : Header) (g : Program) (hit : Bool) (consts args : List (Byte × Bool)) : State :=
  let y := s.plot p
  let s := if y.owner == some y.pasid || x.d.noScrub then s else s.scrubTilth p
  let s := s.bump (if hit then O.residentHits else O.programLoads)
  let words := splitWords 8 x.d.argWords (args.map (fun (z : Byte × Bool) => z.1))
  let free := s.free
  let full := words ++ (List.range (64 - words.length)).map (fun i => Config.freeValue (free + i) % 2 ^ 64)
  let rank := rankIn y.mask p
  let s := { s with free := free + 64 + 4 * 65540 }
  let s := s.modPlot p (fun z => { z with
    owner := some z.pasid, state := .running, pc := 0, programId := h.id, prog := some g, args := full,
    idx := kvSet 0 (kvSet 0 [] 1 rank) 2 (plotsIn z.mask).length, flags := {}, poisoned := false, halfDone := false,
    slots := [], loops := [], stalledStake := false, stalledFeed := false, feedWait := none, ended := none,
    resident := g :: z.resident.filter (fun r => !(r.id == g.id && r.pasid == g.pasid && r.crc == g.crc)),
    beds := z.beds.mapIdx (fun i b => b.atStart (free + 64 + i * 65540)) })
  (s.putTilth p h.constTilth consts).putTilth p h.argTilth args

/-- Load a claimed plot from the bytes of its container and of its arguments. -/
def State.loadPlot (s : State) (p : Nat) (x : Slot) (c a : List (Byte × Bool)) : State :=
  let y := s.plot p
  let b := c.map (fun (z : Byte × Bool) => z.1)
  let h := parseHeader b
  let found := if x.d.reload then none else y.resident.find? (fun r => r.id == h.id && r.pasid == y.pasid && r.crc == h.crc)
  let code := containerCheck h b x.d.containerLen (s.dataTop p) x.d.argWords found.isSome
  if code != 0 then s.failPlot p code
  else
    let consts := c.drop h.textBytes
    match found with
    | some g => s.startProgram p x h g true consts a
    | none =>
      let old := y.resident.filter (fun r => !(r.id == h.id && r.pasid == y.pasid && r.crc == h.crc))
      let kept := evictFor 9 old h.textBytes
      let place := (placeFor kept h.textBytes).getD 0xFC00000
      let g : Program := { id := h.id, pasid := y.pasid, crc := h.crc, views := (parseViews h.views (b.drop 64)).getD [],
                           cmds := parseCmds h.cmds (b.drop (64 + 32 * h.views)), place := place, size := h.textBytes }
      let s := s.modPlot p (fun z => { z with resident := kept })
      let s := s.setTilth p (storeWrite (s.tilthStore p) place (enAll (b.take h.textBytes)) false)
      s.startProgram p x h g false consts a

/-- PROGRAM_LOAD (R585, R586). -/
def execProgramLoad (plot : Fin 16) (c a : HostRead) (s : State) : Out :=
  let y := s.plot plot
  match s.slot y.furrow y.seq with
  | none => .next s
  | some x =>
    if !(y.state == .loading) || y.ended.isSome then .next s
    else
      let rc := s.reachRange plot x.d.cspace x.d.container 0 x.d.containerLen .read
      match rc.2 with
      | .waits => .next rc.1
      | .fails k a => .next (rc.1.failPlotAt plot k a)
      | .ok lc =>
        let ra := rc.1.reachRange plot x.d.aspace x.d.argAddr 0 (8 * x.d.argWords) .read
        match ra.2 with
        | .waits => .next ra.1
        | .fails k a => .next (ra.1.failPlotAt plot k a)
        | .ok la =>
          let hc := ra.1.hostAnswers lc c c.data
          match hc.2 with
          | some k => .next (hc.1.failPlotAt plot k (hostFailAt lc c))
          | none =>
            let ha := hc.1.hostAnswers la a a.data
            match ha.2 with
            | some k => .next (ha.1.failPlotAt plot k (hostFailAt la a))
            | none =>
              let bc := readExt lc ha.1 c.data []
              let ba := readExt la bc.1 a.data []
              .next (ba.1.loadPlot plot x bc.2 ba.2)

/-! ### Issue (R592, R596) -/

/-- The command a plot would issue next: its program runs, has not failed, and no FEED with WAIT holds it. -/
def State.nextCmd (s : State) (p : Nat) : Option Nat :=
  let x := s.plot p
  if x.state == .running && x.ended.isNone && x.feedWait.isNone then
    match x.prog with
    | some g => g.cmds[x.pc]?
    | none => none
  else none

/-- No bit outside the fields is set. -/
def onlyFields (v : Nat) (l : List (Nat × Nat)) : Bool :=
  v == (l.map (fun f => fld v f.1 f.2 * 2 ^ f.2)).foldl (· + ·) (v % 256)

/-- Issue a command of an OP: none issues where the plot's next command is another; a reserved bit ends the program. -/
def State.issue (s : State) (p op : Nat) (fields : List (Nat × Nat)) (f : Nat → State) : State :=
  match s.nextCmd p with
  | none => s
  | some v => if v % 256 != op then s else if onlyFields v fields then f v else s.failPlot p 0x203

/-- Go on to a command; one past the last ends the program (log entry 35). -/
def State.jump (s : State) (p pc : Nat) : State :=
  let s := s.modPlot p (fun x => { x with pc := pc, stalledStake := false, stalledFeed := false })
  match (s.plot p).prog with
  | some g => if pc < g.cmds.length then s else s.failPlot p 0x203
  | none => s

/-- The next command in order, unless the program has failed. -/
def State.advance (s : State) (p : Nat) : State :=
  if (s.plot p).ended.isSome then s else s.jump p ((s.plot p).pc + 1)

/-- Issue waits for a stake. -/
def State.stallStake (s : State) (p : Nat) : State := s.modPlot p (fun x => { x with stalledStake := true })

/-- Host writes of a plot have not entered the posted queue yet (R54). -/
def State.writesOut (s : State) (p : Nat) : Bool := s.host.blocked.any (fun t => t.owner == .gleaner p)

/-- Remote signals of a plot are still under way, or its host writes. -/
def State.signalsOut (s : State) (p : Nat) : Bool :=
  s.writesOut p || s.fab.reqs.any (fun q => q.owner == FabOwner.plotSignal p) || s.fab.ordered.any (fun m => m.owner == FabOwner.plotSignal p)

/-! ### Control commands (R597) -/

/-- NOP. -/
def execNop (plot : Fin 16) (s : State) : Out := .next (s.issue plot 0x00 [] (fun _ => s.advance plot))

/-- END (R588): after every earlier command has completed. -/
def execEndProgram (plot : Fin 16) (s : State) : Out :=
  .next (s.issue plot 0x01 [] (fun _ => if s.signalsOut plot then s else s.endPlot plot 0 0))

/-- LOOP. -/
def execPlotLoop (plot : Fin 16) (s : State) : Out :=
  .next (s.issue plot 0x02 [(31, 16)] (fun v =>
    let x := s.plot plot
    if fld v 31 16 = 0 then s.failPlot plot 0x203
    else if 4 ≤ x.loops.length then s.failPlot plot 0x207
    else (s.setPlot plot { x with loops := (x.pc + 1, fld v 31 16) :: x.loops }).advance plot))

/-- ENDLOOP. -/
def execEndloop (plot : Fin 16) (s : State) : Out :=
  .next (s.issue plot 0x03 [] (fun _ =>
    let x := s.plot plot
    match x.loops with
    | [] => s.failPlot plot 0x207
    | (start, left) :: rest =>
      if 1 < left then (s.setPlot plot { x with loops := (start, left - 1) :: rest }).jump plot start
      else (s.setPlot plot { x with loops := rest }).advance plot))

/-- SETI. -/
def execSeti (plot : Fin 16) (s : State) : Out :=
  .next (s.issue plot 0x04 [(15, 12), (127, 64)] (fun v => (s.setIdx plot (fld v 15 12) (fld v 127 64)).advance plot))

/-- ADDI. -/
def execAddi (plot : Fin 16) (s : State) : Out :=
  .next (s.issue plot 0x05 [(15, 12), (19, 16), (127, 64)] (fun v =>
    (s.setIdx plot (fld v 15 12) (s.idx plot (fld v 19 16) + fld v 127 64)).advance plot))

/-- LDI. -/
def execLdi (plot : Fin 16) (s : State) : Out :=
  .next (s.issue plot 0x06 [(15, 12), (63, 32)] (fun v =>
    let a := s.tref plot v 32
    if a % 8 != 0 then s.failPlot plot 0x203
    else if s.dataTop plot < a + 8 then s.failPlot plot 0x204
    else (s.setIdx plot (fld v 15 12) (leNat (memRead (s.plot plot).tilth a 8))).advance plot))

/-- FENCE. -/
def execFence (plot : Fin 16) (s : State) : Out :=
  .next (s.issue plot 0x07 [] (fun _ => if s.signalsOut plot then s else s.advance plot))

/-- MARK_HALF (R591). -/
def execMarkHalf (plot : Fin 16) (s : State) : Out :=
  .next (s.issue plot 0x08 [] (fun _ =>
    if s.signalsOut plot then s
    else
      let x := s.plot plot
      let s := s.modSlot x.furrow x.seq (fun y => { y with halfMask := y.halfMask ||| 2 ^ plot.val })
      (s.modPlot plot (fun y => { y with halfDone := true })).advance plot))

/-- TRAP. -/
def execTrap (plot : Fin 16) (s : State) : Out :=
  .next (s.issue plot 0x09 [(31, 16)] (fun v => (s.modPlot plot (fun x => { x with trapCode := fld v 31 16 })).failPlot plot 0x205))

/-! ### Stakes (R615) -/

/-- A plot's right to a stake; a refusal is counted and ends its program (R393). -/
def State.plotStake (s : State) (p k : Nat) (f : State) : State :=
  let x := s.plot p
  if s.stakeOk (.program p x.pasid x.bypass) k then f else (s.bump O.denied).failPlot p 0x21

/-- V + I[k] mod 2^64 (R596). -/
def State.value (s : State) (p v : Nat) : Nat := (fld v 127 64 + s.idx p (fld v 15 12)) % 2 ^ 64

/-- SWAIT. -/
def execSwait (plot : Fin 16) (s : State) : Out :=
  .next (s.issue plot 0x10 [(8, 8), (15, 12), (31, 16), (35, 32), (127, 64)] (fun v =>
    let k := fld v 31 16
    let slot := fld v 35 32
    if (s.plot plot).slots.any (fun y => y.1 == slot) then s.stallStake plot
    else s.plotStake plot k (
      match s.freeHandle (.plot plot slot) with
      | none => s.stallStake plot
      | some h =>
        let t := (s.modPlot plot (fun x => { x with slots := kvPut x.slots slot h })).advance plot
        match t.placeWait k (bit v 8) (s.value plot v) (.plot plot slot) with
        | some u => u.settleStakes
        | none => s.stallStake plot)))

/-- SJOIN. -/
def execSjoin (plot : Fin 16) (s : State) : Out :=
  .next (s.issue plot 0x11 [(31, 16)] (fun v =>
    if (s.plot plot).slots.any (fun y => bit (fld v 31 16) y.1) then s.stallStake plot else s.advance plot))

/-- STEST. -/
def execStest (plot : Fin 16) (s : State) : Out :=
  .next (s.issue plot 0x12 [(8, 8), (15, 12), (19, 16), (47, 32), (127, 64)] (fun v =>
    let k := fld v 47 32
    s.plotStake plot k ((s.setIdx plot (fld v 19 16) (b2n (condMet (bit v 8) (s.stake k) (s.value plot v)))).advance plot)))

/-- SSIG (R595): every earlier write of the program has been acknowledged. -/
def execSsig (plot : Fin 16) (s : State) : Out :=
  .next (s.issue plot 0x13 [(8, 8), (15, 12), (31, 16), (127, 64)] (fun v =>
    let k := fld v 31 16
    let x := s.plot plot
    if s.writesOut plot then s else s.plotStake plot k (
      ((if bit v 8 then s.stakeSetOp k (s.value plot v) else s.stakeAddOp (.program plot x.pasid x.bypass) k (s.value plot v)).advance plot).settleStakes)))

/-- SREMOTE: a remote add or set through a stile; it needs STILE_EN, and names another package (R427, R615, R657). -/
def execSremote (plot : Fin 16) (s : State) : Out :=
  .next (s.issue plot 0x14 [(8, 8), (15, 12), (31, 16), (43, 32), (59, 48), (127, 64)] (fun v =>
    if fld v 43 32 = s.addr then s.failPlot plot 0x52
    else if s.writesOut plot then s else
    let r := s.resolveStart (s.plotWho plot) 3 0 .write
    match r.2 with
    | .at_ _ _ =>
      let m : Msg := { kind := (if bit v 8 then .stakeSet else .stakeAdd), dst := fld v 43 32, window := fld v 59 48,
                       aux := fld v 31 16, addr := s.value plot v }
      let q := r.1.stakeRequest m (.plotSignal plot)
      if q.2 then q.1.advance plot else q.1.failPlot plot 0x51
    | _ => r.1.failPlot plot 0x21))

/-! ### Feeds (R614) -/

/-- FEED: a fifth outstanding request stalls issue. -/
def execFeed (plot : Fin 16) (s : State) : Out :=
  .next (s.issue plot 0x23 [(10, 8), (15, 12), (47, 16)] (fun v =>
    let ch := fld v 9 8
    let len := fld v 47 16
    let f := s.feed plot ch
    if len % 64 != 0 || 0x100000 < len || fld v 15 12 = 0 then s.failPlot plot 0x203
    else if 4 ≤ f.reqs.length then s.modPlot plot (fun x => { x with stalledFeed := true })
    else
      let s := (s.setFeed plot ch { f with reqs := f.reqs ++ [(len, fld v 15 12, false)] }).advance plot
      if bit v 10 then s.modPlot plot (fun x => { x with feedWait := some ch, stalledFeed := true }) else s))

/-- UNFEED (R553). -/
def execUnfeed (plot : Fin 16) (s : State) : Out :=
  .next (s.issue plot 0x24 [(9, 8)] (fun v => (s.withdrawNewest plot (fld v 9 8)).advance plot))

/-! ### Failure, halt, the plot's registers -/

/-- The OPs of R597. -/
def opKnown (op : Nat) : Bool :=
  decide (op ≤ 0x09) || (decide (0x10 ≤ op) && decide (op ≤ 0x14)) || (decide (0x20 ≤ op) && decide (op ≤ 0x24))
  || (decide (0x30 ≤ op) && decide (op ≤ 0x34)) || (decide (0x40 ≤ op) && decide (op ≤ 0x47)) || op == 0x50

/-- What is wrong with the descriptor of a GLEAN before its KIND is known (R596, R609). -/
def State.gleanFailure (s : State) (p v : Nat) : Option Nat :=
  let a := s.tref p v 16
  if !onlyFields v [(47, 16)] || a % 64 != 0 then some 0x203
  else if s.dataTop p < a + 64 then some 0x204
  else if 4 < (memByte (s.plot p).tilth a).toNat then some 0x203
  else none

/-- The code a plot's program has failed with: one recorded, or that of a next command for which the table has no
meaning: a reserved OP, a GLEAN whose KIND is reserved or out of reach (R596, R609). -/
def State.failure (s : State) (p : Nat) : Option Nat :=
  match (s.plot p).ended with
  | some c => some c
  | none => match s.nextCmd p with
    | some v => if !opKnown (v % 256) then some 0x203 else if v % 256 = 0x50 then s.gleanFailure p v else none
    | none => none

/-- PROGRAM_FAILURE (R589): the program is halted on every plot of its mask, with the first failure's code. -/
def execProgramFailure (plot : Fin 16) (s : State) : Out :=
  let x := s.plot plot
  match s.failure plot with
  | some c => if x.busy then .next (s.haltProgram x.furrow x.seq c x.endAddr).settleStakes else .next s
  | none => .next s

/-- A request to a plot's window or tilth (R75, R308): a gated plot is woken and the request held; a fenced plot's ends
with Completer Abort. -/
def State.plotWindow (s : State) (n : Nat) (win : Window) (write : Bool) (r : MemReq) : State × Bool :=
  let x := s.plot n
  if x.state == .fenced then ((s.mmioErr .fenced win write r).completerAbort r write, false)
  else if x.ready then (s, true)
  else
    ((s.askPlot n).holdRequest win write r, false)

/-- Offset of a plot's registers in the control window (R629). -/
def plotReg (n off : Nat) : Nat := 0x2000000 + n * 0x100000 + off

/-- A write of PLOT_CTRL. -/
def State.writePlotCtrl (s : State) (n val : Nat) : State :=
  let x := s.plot n
  if bit val 0 && x.busy then (s.haltProgram x.furrow x.seq 0x206).settleStakes else s

/-- HALT. -/
def execPlotHalt (plot : Fin 16) (rid : Half) (s : State) : Out :=
  let r : MemReq := { off := plotReg plot 0x30, addr := s.barAt 0x010 + plotReg plot 0x30, len := 8, rid := rid, data := natLe 8 1 }
  let a := s.admitReq .control true r
  if !a.2 then .next a.1
  else
    let w := a.1.plotWindow plot .control true r
    .next (if w.2 then w.1.writePlotCtrl plot 1 else w.1)

/-- A write of TILTH_SPLIT: only while IDLE; 65-127 are reserved; a change empties the gleaner cache (R612, R621). -/
def State.writeTilthSplit (s : State) (n val : Nat) (rid : Half) : State :=
  let x := s.plot n
  let v := val % 128
  if !(x.state == .idle) || 64 < v then s.valueErr (Rg.tilthSplit n) 8 rid
  else if v = fld (s.rg (Rg.tilthSplit n)) 6 0 then s
  else (s.setRg (Rg.tilthSplit n) v).modPlot n (fun y => { y with gcache := [] })

/-- TILTH_SPLIT_WRITE. -/
def execTilthSplitWrite (plot : Fin 16) (val : Word) (rid : Half) (s : State) : Out :=
  let r : MemReq := { off := Rg.tilthSplit plot, addr := s.barAt 0x010 + Rg.tilthSplit plot, len := 8, rid := rid, data := natLe 8 val.toNat }
  let a := s.admitReq .control true r
  if !a.2 then .next a.1
  else
    let w := a.1.plotWindow plot .control true r
    .next (if w.2 then w.1.writeTilthSplit plot val.toNat rid else w.1)

end Sys2Proof.Machine
end

