-- ==== Sys2Proof/Machine/PlotUnits.lean ====
section
/-! DEFINITION. The move engine, the beds and the vector unit (R597-R606). -/

namespace Sys2Proof.Machine

/-! ### Views (R584) -/

/-- The start address of a view for a plot: its base and its argument. -/
def State.viewBase (s : State) (p : Nat) (v : View) : Nat :=
  (v.base + (if v.arg = 0xFF then 0 else (s.plot p).args.getD v.arg 0)) % 2 ^ (if v.space = 2 then 32 else 64)

/-- A view of the running program. -/
def State.view? (s : State) (p k : Nat) : Option View :=
  match (s.plot p).prog with
  | some g => g.views[k]?
  | none => none

/-- The lines that LOAD and STORE move: none where a line is not one of the view's (log entry 36). -/
def lineRanges (v : View) (first count : Nat) : Option (List (Nat × Nat)) :=
  if v.y < first + count then none
  else some ((List.range count).map (fun i => ((first + i) * v.ystride, (first + i) * v.ystride + v.x)))

/-- Account for an access of the host space (R497, R502). -/
def State.noteLines (s : State) (p : Nat) (v : View) (l : List (Nat × Nat)) (write : Bool) : State :=
  if v.space != 0 || (s.plot p).bypass then s
  else
    let base := s.viewBase p v
    let pasid := (s.plot p).pasid
    (s.each l (fun s (r : Nat × Nat) =>
      let va := (base + r.1) % 2 ^ 64
      let s := if write then s.noteOverlay pasid va (r.2 - r.1) else s
      s.countAccess pasid va (r.2 - r.1))).listHot

/-! ### The move engine -/

/-- LOAD. -/
def execPlotLoad (plot : Fin 16) (h : HostRead) (s : State) : Out :=
  .next (s.issue plot 0x20 [(15, 12), (23, 16), (63, 32), (95, 64), (127, 96)] (fun v =>
    match s.view? plot (fld v 23 16) with
    | none => s.failPlot plot 0x203
    | some w =>
      let dst := s.tref plot v 32
      let count := fld v 127 96
      match lineRanges w ((fld v 95 64 + s.idx plot (fld v 15 12)) % 2 ^ 64) count with
      | none => s.failPlot plot 0x204
      | some l =>
        if s.dataTop plot < dst + count * w.x then s.failPlot plot 0x204
        else
          let r := reachRanges l s plot w.space (s.viewBase plot w) .read []
          match r.2 with
          | .waits => r.1
          | .fails c a => r.1.failPlotAt plot c a
          | .ok ext =>
            let a := r.1.hostAnswers ext h h.data
            match a.2 with
            | some c => a.1.failPlotAt plot c (hostFailAt ext h)
            | none =>
              let b := readExt ext a.1 h.data []
              ((b.1.putTilth plot dst b.2).noteLines plot w l false).advance plot))

/-- STORE. -/
def execPlotStore (plot : Fin 16) (s : State) : Out :=
  .next (s.issue plot 0x21 [(15, 12), (23, 16), (63, 32), (95, 64), (127, 96)] (fun v =>
    match s.view? plot (fld v 23 16) with
    | none => s.failPlot plot 0x203
    | some w =>
      let src := s.tref plot v 32
      let count := fld v 127 96
      match lineRanges w ((fld v 95 64 + s.idx plot (fld v 15 12)) % 2 ^ 64) count with
      | none => s.failPlot plot 0x204
      | some l =>
        if s.dataTop plot < src + count * w.x then s.failPlot plot 0x204
        else
          let r := reachRanges l s plot w.space (s.viewBase plot w) .write []
          match r.2 with
          | .waits => r.1
          | .fails c a => r.1.failPlotAt plot c a
          | .ok ext =>
            let b := r.1.getMarked (.tilth plot src) (count * w.x)
            let s := writeExt (withVas ext l (s.viewBase plot w)) b.1 b.2 plot
            let s := if b.2.any (fun y => y.2) then s.modPlot plot (fun x => { x with poisoned := true }) else s
            (s.noteLines plot w l true).advance plot))

/-- TCOPY: into the plot's own tilth, or another's that its TILTH_MASK allows (R616). -/
def execTcopy (plot : Fin 16) (s : State) : Out :=
  .next (s.issue plot 0x22 [(12, 8), (47, 16), (79, 48), (111, 80)] (fun v =>
    let src := s.tref plot v 16
    let dst := s.tref plot v 48
    let len := fld v 111 80
    let other := bit v 12
    if src % 64 != 0 || dst % 64 != 0 || len % 64 != 0 then s.failPlot plot 0x203
    else if s.dataTop plot < src + len || (!other && s.dataTop plot < dst + len) then s.failPlot plot 0x204
    else if !other then
      let b := s.getMarked (.tilth plot src) len
      (b.1.putTilth plot dst b.2).advance plot
    else if 2 ^ 28 ≤ dst then s.failPlot plot 0x204
    else
      let r := s.reachRange plot 2 (fld v 11 8 * 2 ^ 28 + dst) 0 len .write
      match r.2 with
      | .waits => r.1
      | .fails c a => r.1.failPlotAt plot c a
      | .ok ext =>
        let b := r.1.getMarked (.tilth plot src) len
        let s := writeExt (withVas ext [(0, len)] (fld v 11 8 * 2 ^ 28 + dst)) b.1 b.2 plot
        let s := if b.2.any (fun y => y.2) then s.modPlot plot (fun x => { x with poisoned := true }) else s
        s.advance plot))

/-! ### Per-program flags -/

/-- OR flags into the program's. -/
def State.orFlags (s : State) (p : Nat) (a : Arith) : State := s.modPlot p (fun x => { x with flags := x.flags.or a })

/-! ### Beds (R601-R606) -/

/-- A bed of a plot. -/
def State.bed (s : State) (p b : Nat) : Bed := (s.plot p).beds.getD b {}
def State.setBed (s : State) (p b : Nat) (x : Bed) : State := s.modPlot p (fun y => { y with beds := y.beds.set b x })

/-- A cell of the accumulator. -/
def Bed.cell (b : Bed) (i : Nat) : Wide :=
  match kvFind b.cells i with
  | some w => w
  | none => match b.base with
    | none => {}
    | some n => wideOf (Config.freeValue (n + i))

/-- Cells from one index on replaced. -/
def Bed.setCells (b : Bed) (lo : Nat) (l : List (Wide × Bool)) : Bed :=
  let hi := lo + l.length
  { b with cells := b.cells.filter (fun c => decide (c.1 < lo)) ++ l.mapIdx (fun i (w : Wide × Bool) => (lo + i, w.1))
                      ++ b.cells.filter (fun c => decide (hi ≤ c.1)),
           bad := b.bad.filter (fun c => decide (c.1 < lo))
                      ++ (l.mapIdx (fun i (w : Wide × Bool) => (lo + i, w.2))).filter (fun c => c.2)
                      ++ b.bad.filter (fun c => decide (hi ≤ c.1)) }

/-- The bytes of a stationary tile of a type. -/
def tileBytes (t : Nat) : Nat := depthOf t * 256 * typeBits t / 8

/-- The byte of a tile that holds element i. -/
def elemByte (t i : Nat) : Nat := i * typeBits t / 8

/-- BLOAD. -/
def execBload (plot : Fin 16) (s : State) : Out :=
  .next (s.issue plot 0x30 [(11, 8), (23, 16), (63, 32)] (fun v =>
    let t := fld v 23 16
    let src := s.tref plot v 32
    if (pairMode t t).isNone || src % 64 != 0 then s.failPlot plot 0x203
    else if s.dataTop plot < src + tileBytes t then s.failPlot plot 0x204
    else
      let m := s.getMarked (.tilth plot src) (tileBytes t)
      let marks := (m.2.map (fun (y : Byte × Bool) => y.2)).toArray
      let trans := bit v 11
      let badCol (n : Nat) : Bool := marks.any id &&
        (List.range (depthOf t)).any (fun k => marks.getD (elemByte t (tileIndex (depthOf t) trans k n)) false)
      let tile : Tile := { ty := t, data := m.2.map (fun (y : Byte × Bool) => y.1), trans := trans, bad := (List.range 256).filter badCol }
      let b := s.bed plot (fld v 9 8)
      (s.setBed plot (fld v 9 8) (if bit v 10 then { b with buf1 := tile } else { b with buf0 := tile })).advance plot))

/-- Columns of a tile, each K numbers. -/
def tileColumns (t : Tile) : List (List Num) :=
  let e := ((elems t.ty (depthOf t.ty * 256) t.data).map (elemNum t.ty)).toArray
  (List.range 256).map (fun n => (List.range (depthOf t.ty)).map (fun k => e.getD (tileIndex (depthOf t.ty) t.trans k n) (.fin false 0 0)))

/-- Rows of K numbers. -/
def rowsOf (k : Nat) : Nat → List Num → List (List Num)
  | 0, _ => []
  | n + 1, l => l.take k :: rowsOf k n (l.drop k)

/-- ROW0 and M of a bed command in bits [lo+31:lo] are in range (R596). -/
def rowsOk (m row0 : Nat) : Bool := decide (1 ≤ m) && decide (m ≤ 256) && decide (row0 + m ≤ 256)

/-- Count MACs (R629, R630). -/
def State.countMacs (s : State) (p n : Nat) : State :=
  let s := s.bumpBy O.macs n
  s.modPlot p (fun x => { x with macs := (x.macs + n) % 2 ^ 64, macsOvf := x.macsOvf || decide (2 ^ 64 ≤ x.macs + n) })

/-- MATMUL (R601, R602). -/
def execMatmul (plot : Fin 16) (s : State) : Out :=
  .next (s.issue plot 0x31 [(10, 8), (23, 16), (63, 32), (79, 64), (95, 80)] (fun v =>
    let k := fld v 9 8
    let b := s.bed plot k
    let tile := if bit v 10 then b.buf1 else b.buf0
    let ta := fld v 23 16
    let a := s.tref plot v 32
    let m := fld v 79 64
    let row0 := fld v 95 80
    let depth := depthOf ta
    let rowBytes := depth * typeBits ta / 8
    if pairMode tile.ty ta != some b.mode || !rowsOk m row0 || a % 64 != 0 then s.failPlot plot 0x203
    else if s.dataTop plot < a + m * rowBytes then s.failPlot plot 0x204
    else
      let g := s.getMarked (.tilth plot a) (m * rowBytes)
      let rows := rowsOf depth m ((elems ta (m * depth) (g.2.map (fun (y : Byte × Bool) => y.1))).map (elemNum ta))
      let cols := tileColumns tile
      let cells := (rows.mapIdx (fun i r =>
        let badRow := ((g.2.drop (i * rowBytes)).take rowBytes).any (fun y => y.2)
        cols.mapIdx (fun n c =>
          let j := (row0 + i) * 256 + n
          (wideAdd (b.cell j) (dotImage b.ew r c), badRow || tile.bad.contains n || kvGet false b.bad j)))).flatten
      ((s.setBed plot k (b.setCells (row0 * 256) cells)).countMacs plot (m * depth * 256)).advance plot))

/-- ACC_CLEAR: MODE 0 and 2 have a fixed EW (R601; log entry 37). -/
def execAccClear (plot : Fin 16) (s : State) : Out :=
  .next (s.issue plot 0x32 [(9, 8), (23, 16), (27, 24), (47, 32)] (fun v =>
    let mode := fld v 23 16
    let ew := sext 16 (fld v 47 32 + s.idx plot (fld v 27 24))
    if 2 < mode || (mode = 1 && (ew < -320 || 320 < ew)) then s.failPlot plot 0x203
    else
      let b := s.bed plot (fld v 9 8)
      let b' : Bed := { b with mode := mode, ew := (if mode = 0 then 56 else if mode = 2 then 88 else ew), base := none, cells := [], bad := [] }
      (s.setBed plot (fld v 9 8) b').advance plot))

/-- ACC_ADDW (R605). -/
def execAccAddw (plot : Fin 16) (s : State) : Out :=
  .next (s.issue plot 0x33 [(9, 8), (63, 32), (79, 64), (95, 80)] (fun v =>
    let k := fld v 9 8
    let b := s.bed plot k
    let src := s.tref plot v 32
    let m := fld v 79 64
    let row0 := fld v 95 80
    if !rowsOk m row0 || src % 64 != 0 then s.failPlot plot 0x203
    else if s.dataTop plot < src + m * 4096 then s.failPlot plot 0x204
    else
      let g := s.getMarked (.tilth plot src) (m * 4096)
      let cells := (elems 8 (m * 256) (g.2.map (fun (y : Byte × Bool) => y.1))).mapIdx (fun i w =>
        let j := row0 * 256 + i
        (wideAdd (b.cell j) (wideOf w), ((g.2.drop (16 * i)).take 16).any (fun y => y.2) || kvGet false b.bad j))
      (s.setBed plot k (b.setCells (row0 * 256) cells)).advance plot))

/-- The type that ACC_STORE writes under FMT. -/
def fmtType : Nat → Option Nat
  | 0 => some 4
  | 1 => some 2
  | 2 => some 3
  | 3 => some 8
  | 4 => some 7
  | _ => none

/-- What rounding a cell to a floating-point type adds to the flags (R606). -/
def roundFlags (t : Nat) (w : Wide) (bits : Nat) : Arith :=
  { inexact := w.inexact, ovf := w.ovf, nan := w.nan || isNanBits t bits }

/-- Flags of several. -/
def orAll (l : List Arith) : Arith := l.foldl Arith.or {}

/-- Elements with their poison as bytes with their marks. -/
def packMarked (t : Nat) (l : List (Nat × Bool)) : List (Byte × Bool) :=
  l.flatMap (fun (y : Nat × Bool) => (natLe (typeBits t / 8) y.1).map (fun b => (b, y.2)))

/-- ACC_STORE (R606). -/
def execAccStore (plot : Fin 16) (s : State) : Out :=
  .next (s.issue plot 0x34 [(9, 8), (13, 11), (63, 32), (79, 64), (95, 80)] (fun v =>
    let b := s.bed plot (fld v 9 8)
    let dst := s.tref plot v 32
    let m := fld v 79 64
    let row0 := fld v 95 80
    match fmtType (fld v 13 11) with
    | none => s.failPlot plot 0x203
    | some t =>
      if !rowsOk m row0 || dst % 64 != 0 || (t = 7 && b.mode != 2) then s.failPlot plot 0x203
      else if s.dataTop plot < dst + m * 32 * typeBits t then s.failPlot plot 0x204
      else
        let cells := (List.range (m * 256)).map (fun i => (b.cell (row0 * 256 + i), kvGet false b.bad (row0 * 256 + i)))
        let out := cells.map (fun (c : Wide × Bool) =>
          if t = 8 then (c.1.code, c.2) else if t = 7 then ((wideInt c.1).1, c.2) else (roundWide t b.ew c.1, c.2))
        let flags := orAll (cells.map (fun (c : Wide × Bool) =>
          if t = 8 then {} else if t = 7 then { intSat := (wideInt c.1).2 } else roundFlags t c.1 (roundWide t b.ew c.1)))
        let s := if t = 8 || t = 7 then s else s.bumpBy O.inexactCells (cells.filter (fun (c : Wide × Bool) => c.1.inexact)).length
        ((s.putTilth plot dst (packMarked t out)).orFlags plot flags).advance plot))

/-! ### The vector unit (R597-R600, R605, R606) -/

/-- An operand of a vector command: tilth offset and type, n elements. -/
def State.operand (s : State) (p off t n : Nat) : List Nat := elems t n (memRead (s.plot p).tilth off (n * typeBits t / 8))

/-- Bytes of n elements. -/
def elemsBytes (t n : Nat) : Nat := n * typeBits t / 8

/-- Result bytes with the marks of R309: a granule is marked where a granule holding an input of one of its elements is. -/
def State.putVector (s : State) (p d t : Nat) (l : List Nat) (ins : List (Nat × Nat)) : State :=
  let bs := packElems t l
  let per := 512 / typeBits t
  let badGranule (g : Nat) : Bool := ins.any (fun (i : Nat × Nat) =>
    marked (s.plot p).poison (i.1 + elemsBytes i.2 (g * per)) (max 1 (elemsBytes i.2 per)))
  s.putTilth p d (bs.mapIdx (fun i b => (b, badGranule (i / 64))))

/-- The checks of a vector command: alignment and N, then the ranges; `ops` gives offset and bytes of each operand. -/
def State.vecOk (s : State) (p n : Nat) (ops : List (Nat × Nat)) (f : State) : State :=
  if n = 0 || ops.any (fun (o : Nat × Nat) => o.1 % 64 != 0) then s.failPlot p 0x203
  else if ops.any (fun (o : Nat × Nat) => decide (s.dataTop p < o.1 + o.2)) then s.failPlot p 0x204
  else f

/-- The types of VBIN, VFMA, VUN, VMULS and VRED. -/
def vecType (t : Nat) : Bool := t == 2 || t == 3 || t == 4

/-- NAN where a result is one. -/
def nanFlag (t : Nat) (l : List Nat) : Arith := { nan := l.any (isNanBits t) }

/-- Combine three lists of equal length. -/
def zip3 (f : Nat → Nat → Nat → Nat → Nat) (a b c : List Nat) : List Nat :=
  (a.zip (b.zip c)).mapIdx (fun i (x : Nat × Nat × Nat) => f i x.1 x.2.1 x.2.2)

/-- VBIN. -/
def execVbin (plot : Fin 16) (s : State) : Out :=
  .next (s.issue plot 0x40 [(15, 8), (47, 16), (79, 48), (111, 80), (127, 112)] (fun v =>
    let op := fld v 11 8
    let t := fld v 15 12
    let n := fld v 127 112 * 64
    let a := s.tref plot v 16
    let b := s.tref plot v 48
    let d := s.tref plot v 80
    let w := elemsBytes t n
    if !vecType t || 5 < op then s.failPlot plot 0x203
    else s.vecOk plot n [(a, w), (b, w), (d, w)] (
      let l := ((s.operand plot a t n).zip (s.operand plot b t n)).mapIdx (fun i (x : Nat × Nat) => (vbin t op (s.free + i) x.1 x.2).getD 0)
      ((({ s with free := s.free + n } : State).putVector plot d t l [(a, t), (b, t)]).orFlags plot (nanFlag t l)).advance plot)))

/-- VFMA: D = A * B + D. -/
def execVfma (plot : Fin 16) (s : State) : Out :=
  .next (s.issue plot 0x41 [(15, 12), (47, 16), (79, 48), (111, 80), (127, 112)] (fun v =>
    let t := fld v 15 12
    let n := fld v 127 112 * 64
    let a := s.tref plot v 16
    let b := s.tref plot v 48
    let d := s.tref plot v 80
    let w := elemsBytes t n
    if !vecType t then s.failPlot plot 0x203
    else s.vecOk plot n [(a, w), (b, w), (d, w)] (
      let l := zip3 (fun _ x y z => (encodeNum t .nearest (((numOf t x).mul (numOf t y)).add (numOf t z))).1)
        (s.operand plot a t n) (s.operand plot b t n) (s.operand plot d t n)
      ((s.putVector plot d t l [(a, t), (b, t), (d, t)]).orFlags plot (nanFlag t l)).advance plot)))

/-- VUN. -/
def execVun (plot : Fin 16) (s : State) : Out :=
  .next (s.issue plot 0x42 [(15, 8), (47, 16), (79, 48), (95, 80)] (fun v =>
    let fn := fld v 11 8
    let t := fld v 15 12
    let n := fld v 95 80 * 64
    let a := s.tref plot v 16
    let d := s.tref plot v 48
    let w := elemsBytes t n
    if !vecType t || 9 < fn then s.failPlot plot 0x203
    else s.vecOk plot n [(a, w), (d, w)] (
      let l := (s.operand plot a t n).mapIdx (fun i x => (vun t fn (s.free + i) x).getD 0)
      ((({ s with free := s.free + n } : State).putVector plot d t l [(a, t)]).orFlags plot (nanFlag t l)).advance plot)))

/-- VCVT (R600). -/
def execVcvt (plot : Fin 16) (s : State) : Out :=
  .next (s.issue plot 0x43 [(15, 8), (47, 16), (79, 48), (95, 80), (103, 96), (107, 104)] (fun v =>
    let dt := fld v 11 8
    let st := fld v 15 12
    let n := fld v 95 80 * 64
    let a := s.tref plot v 16
    let d := s.tref plot v 48
    let mode := fld v 103 96
    let seed := s.idx plot (fld v 107 104)
    if 7 < dt || 7 < st || 2 < mode then s.failPlot plot 0x203
    else s.vecOk plot n [(a, elemsBytes st n), (d, elemsBytes dt n)] (
      let r := (s.operand plot a st n).mapIdx (fun i x =>
        convert dt st (if mode = 0 then .nearest else if mode = 1 then .zero else .stochastic (stochasticR seed i)) x)
      let l := r.map (fun (x : Nat × Bool × Bool) => x.1)
      let flags : Arith := { nan := !(dt == 5 || dt == 6 || dt == 7) && l.any (isNanBits dt), fp8Sat := r.any (fun x => x.2.1), intSat := r.any (fun x => x.2.2) }
      ((s.putVector plot d dt l [(a, st)]).orFlags plot flags).advance plot)))

/-- VMULS: the scalar S is FP32. -/
def execVmuls (plot : Fin 16) (s : State) : Out :=
  .next (s.issue plot 0x44 [(15, 12), (47, 16), (79, 48), (95, 80), (127, 96)] (fun v =>
    let t := fld v 15 12
    let n := fld v 95 80 * 64
    let a := s.tref plot v 16
    let d := s.tref plot v 48
    let w := elemsBytes t n
    if !vecType t then s.failPlot plot 0x203
    else s.vecOk plot n [(a, w), (d, w)] (
      let k := numOf 4 (fld v 127 96)
      let l := (s.operand plot a t n).map (fun x => (encodeNum t .nearest ((numOf t x).mul k)).1)
      ((s.putVector plot d t l [(a, t)]).orFlags plot (nanFlag t l)).advance plot)))

/-- The largest exponent of the elements (R597). -/
def maxExp (t : Nat) (l : List Nat) : Int :=
  if l.any (fun x => match numOf t x with | .fin _ _ _ => false | _ => true) then 32767
  else (l.filterMap (fun x => (numOf t x).exponent)).foldl max (-32768)

/-- The largest or smallest of elements, taken in order. -/
def pickAll (t : Nat) (larger : Bool) (free : Nat) : List Nat → Nat
  | [] => 0
  | x :: xs => (xs.foldl (fun (a : Nat × Nat) y => (pickNum t larger a.2 a.1 y, a.2 + 1)) (x, free)).1

/-- VRED. -/
def execVred (plot : Fin 16) (s : State) : Out :=
  .next (s.issue plot 0x45 [(15, 8), (47, 16), (79, 48), (95, 80), (111, 96)] (fun v =>
    let op := fld v 11 8
    let t := fld v 15 12
    let n := fld v 95 80 * 64
    let a := s.tref plot v 16
    let d := s.tref plot v 48
    let w := elemsBytes t n
    let out := if op = 0 then 16 else if op = 3 then 8 else typeBits t / 8
    if !vecType t || 3 < op then s.failPlot plot 0x203
    else s.vecOk plot n [(a, w), (d, out)] (
      let l := s.operand plot a t n
      let bad := marked (s.plot plot).poison a w
      let r := match op with
        | 0 => natLe 16 ((l.map (fun x => image (sext 16 (fld v 111 96)) (numOf t x))).foldl wideAdd {}).code
        | 1 => natLe out (pickAll t true s.free l)
        | 2 => natLe out (pickAll t false s.free l)
        | _ => natLe 8 (toTwos 64 (maxExp t l))
      let flags : Arith := if op = 1 || op = 2 then nanFlag t [leNat r] else {}
      ((({ s with free := s.free + n } : State).putTilth plot d (r.map (fun b => (b, bad)))).orFlags plot flags).advance plot)))

/-- VADDW (R605). -/
def execVaddw (plot : Fin 16) (s : State) : Out :=
  .next (s.issue plot 0x46 [(47, 16), (79, 48), (111, 80), (127, 112)] (fun v =>
    let n := fld v 127 112 * 64
    let a := s.tref plot v 16
    let b := s.tref plot v 48
    let d := s.tref plot v 80
    s.vecOk plot n [(a, 16 * n), (b, 16 * n), (d, 16 * n)] (
      let l := ((s.operand plot a 8 n).zip (s.operand plot b 8 n)).map (fun (x : Nat × Nat) => (wideAdd (wideOf x.1) (wideOf x.2)).code)
      (s.putVector plot d 8 l [(a, 8), (b, 8)]).advance plot)))

/-- VROUNDW (R606). -/
def execVroundw (plot : Fin 16) (s : State) : Out :=
  .next (s.issue plot 0x47 [(11, 8), (47, 16), (79, 48), (95, 80), (111, 96)] (fun v =>
    let t := fld v 11 8
    let n := fld v 95 80 * 64
    let a := s.tref plot v 16
    let d := s.tref plot v 48
    let ew := sext 16 (fld v 111 96)
    if !vecType t then s.failPlot plot 0x203
    else s.vecOk plot n [(a, 16 * n), (d, elemsBytes t n)] (
      let ws := (s.operand plot a 8 n).map wideOf
      let l := ws.map (roundWide t ew)
      let flags := orAll (ws.map (fun w => roundFlags t w (roundWide t ew w)))
      let s := s.bumpBy O.inexactCells (ws.filter (fun w => w.inexact)).length
      ((s.putVector plot d t l [(a, 8)]).orFlags plot flags).advance plot)))

end Sys2Proof.Machine
end

