-- ==== Sys2Proof/Machine/Glean.lean ====
section
/-! DEFINITION. The gleaner (R609-R613) and its device coherent cache in CXL mode (R513). -/

namespace Sys2Proof.Machine

/-! ### The device coherent cache -/

/-- Lines of the device coherent cache: 4 MiB. -/
abbrev dccLines : Nat := 65536

/-- Put a line into the cache; where it is full the line held longest leaves, written back if modified (log entry 38). -/
def State.dccPut (s : State) (line : Nat) (modified : Bool) (d : List Byte) : State :=
  if s.coh.dcc.any (fun e => e.1 == line) then
    { s with coh := { s.coh with dcc := s.coh.dcc.map (fun e => if e.1 == line then (line, e.2.1 || modified, d) else e) } }
  else
    let s := if s.coh.dcc.length < dccLines then s else
      match s.coh.dcc with
      | [] => s
      | e :: es =>
        let s := { s with coh := { s.coh with dcc := es } }
        if e.2.1 then
          let t : Tlp := { kind := .memWrite, addr := e.1 * 64, data := e.2.2, len := 64, owner := .dcc e.1 }
          (s.post t).bump O.dccWritebacks
        else s
    { s with coh := { s.coh with dcc := s.coh.dcc ++ [(line, modified, d)] } }

/-- A line for an access: from the cache, or 64 bytes of the host's answer. -/
def State.dccGet (s : State) (line : Nat) (host : List (Byte × Bool)) : State × List (Byte × Bool) × List (Byte × Bool) :=
  match s.coh.dcc.find? (fun e => e.1 == line) with
  | some e => (s.bump O.dccHits, enAll e.2.2 |>.map (fun (y : Byte × Bool) => (y.1, false)), host)
  | none =>
    let d := (host ++ List.replicate 64 (0, false)).take 64
    let s := s.bump O.dccMisses
    (if d.any (fun y => y.2) then s else s.dccPut line false (d.map (fun (y : Byte × Bool) => y.1)), d, host.drop 64)

/-- The part of line g that a range [a, a + n) covers: first and last byte within the line. -/
def linePart (a n g : Nat) : Nat × Nat := (max a (g * 64) - g * 64, min (a + n) (g * 64 + 64) - g * 64)

/-- Read n bytes of host memory for the gleaner. -/
def State.gleanHostRead (s : State) (a n : Nat) (host : List (Byte × Bool)) : State × List (Byte × Bool) × List (Byte × Bool) :=
  if s.cxlOn then
    (granules a n).foldl (fun (acc : State × List (Byte × Bool) × List (Byte × Bool)) g =>
      let k := linePart a n g
      let r := acc.1.dccGet g acc.2.2
      (r.1, acc.2.1 ++ (r.2.1.drop k.1).take (k.2 - k.1), r.2.2)) (s, [], host)
  else (s, (host ++ List.replicate n (0, false)).take n, host.drop n)

/-- Write bytes to host memory for the gleaner of plot p: through the cache in CXL mode. -/
def State.gleanHostWrite (s : State) (a va : Nat) (d : List (Byte × Bool)) (p : Nat) (host : List (Byte × Bool)) :
    State × List (Byte × Bool) :=
  if s.cxlOn then
    (granules a d.length).foldl (fun (acc : State × List (Byte × Bool)) g =>
      let k := linePart a d.length g
      let r := acc.1.dccGet g acc.2
      let old := r.2.1.map (fun (y : Byte × Bool) => y.1)
      let new := ((d.drop (g * 64 + k.1 - a)).take (k.2 - k.1)).map (fun (y : Byte × Bool) => y.1)
      (r.1.dccPut g true (old.take k.1 ++ new ++ old.drop k.2), r.2.2)) (s, host)
  else (s.putBytes (.host a) va d (s.plotTag p) (s.plotRo p) (.gleaner p), host)

/-- Read extents for the gleaner: the bytes and what is left of the host's answer. -/
def gleanRead : List (Target × Nat) → State → List (Byte × Bool) → State × List (Byte × Bool) × List (Byte × Bool)
  | [], s, host => (s, [], host)
  | (t, n) :: l, s, host =>
    let r : State × List (Byte × Bool) × List (Byte × Bool) := match t with
      | .host a => s.gleanHostRead a n host
      | _ => let m := s.getMarked t n; (m.1, m.2, host)
    let q := gleanRead l r.1 r.2.2
    (q.1, r.2.1 ++ q.2.1, q.2.2)

/-- Write extents for the gleaner. -/
def gleanWrite : List ((Target × Nat) × Nat) → State → List (Byte × Bool) → Nat → List (Byte × Bool) → State × List (Byte × Bool)
  | [], s, _, _, host => (s, host)
  | ((t, n), va) :: l, s, d, p, host =>
    let r : State × List (Byte × Bool) := match t with
      | .host a => s.gleanHostWrite a va (d.take n) p host
      | _ => (s.putMarked t (d.take n), host)
    gleanWrite l r.1 (d.drop n) p r.2

/-! ### The descriptor (R609) -/

/-- A gleaner descriptor with its tilth references resolved. -/
structure Gl where
  kind : Nat
  cache : Bool
  nullSkip : Bool
  width : Nat
  view : Nat
  view2 : Nat
  idx : Nat
  count : Nat
  data : Nat
  rowOff : Nat
  rowBytes : Nat
  outCount : Nat
  cap : Nat
  rsv : Bool
  deriving DecidableEq, Repr

/-- Read the descriptor at an offset of tilth. -/
def State.gleanDesc (s : State) (p a : Nat) : Gl :=
  let v := leNat (memRead (s.plot p).tilth a 64)
  { kind := fld v 7 0, cache := bit v 8, width := (if bit v 9 then 8 else 4), nullSkip := bit v 10, view := fld v 23 16,
    view2 := fld v 31 24, idx := s.tref p v 32, count := fld v 95 64, data := s.tref p v 96, rowOff := fld v 159 128,
    rowBytes := fld v 191 160, outCount := s.tref p v 192, cap := fld v 255 224,
    rsv := fld v 15 11 != 0 || fld v 511 256 != 0 }

/-- The code that ends the program for a descriptor of R609 with its table view, 0 for none. -/
def State.gleanCheck (s : State) (p : Nat) (d : Gl) (w : View) : Nat :=
  let top := s.dataTop p
  let csr := d.kind == 4
  if d.rsv || d.idx % 64 != 0 || d.data % 64 != 0 || (csr && d.outCount % 64 != 0) then 0x203
  else if !csr && (d.rowBytes = 0 || w.x < d.rowOff + d.rowBytes) then 0x203
  else if (d.kind == 2 && (d.rowOff % 4 != 0 || d.rowBytes % 4 != 0)) || (d.kind == 3 && (d.rowOff % 16 != 0 || d.rowBytes % 16 != 0)) then 0x203
  else if top < d.idx + d.count * d.width || (!csr && top < d.data + d.count * d.rowBytes)
      || (csr && (top < d.data + 4 * d.cap || top < d.outCount + 4)) then 0x204
  else 0

/-- What an index names: a row, nothing without a flag, or nothing out of range (R610). -/
inductive Pick where
  | row (i : Nat) | null | out
  deriving DecidableEq, Repr

/-- The indices of a descriptor. -/
def State.picks (s : State) (p : Nat) (d : Gl) (bound : Nat) : List Pick :=
  (splitWords d.width d.count (memRead (s.plot p).tilth d.idx (d.count * d.width))).map (fun i =>
    if d.nullSkip && i = 256 ^ d.width - 1 then .null else if i < bound then .row i else .out)

/-- Issue a GLEAN of a kind: the descriptor and its table view, checked. -/
def State.glean (s : State) (p kind : Nat) (f : Gl → View → State) : State :=
  match s.nextCmd p with
  | none => s
  | some v =>
    if v % 256 != 0x50 || (s.gleanFailure p v).isSome then s
    else
      let d := s.gleanDesc p (s.tref p v 16)
      if d.kind != kind then s
      else match s.view? p d.view with
        | none => s.failPlot p 0x203
        | some w =>
          let c := s.gleanCheck p d w
          if c != 0 then s.failPlot p c else f d w

/-- Count a GLEAN's indices and set OOB (R610, R630). -/
def State.gleanCount (s : State) (p : Nat) (l : List Pick) : State :=
  let n := (l.filter (fun x => x == .out)).length
  let s := (s.bumpBy O.gleanIndices l.length).bumpBy O.gleanOob n
  s.orFlags p { oob := decide (0 < n) }

/-- What becomes of rows that are reached: their extents, a wait, or the code that ends the program and the address that failed. -/
inductive RowsAns where
  | ok (l : List (List (Target × Nat))) | waits | fails (code addr : Nat)
  deriving DecidableEq, Repr

/-- Reach the rows of a list in order: for each index its extents; nothing for one that names no row. -/
def reachRows : List Pick → State → Nat → View → Nat → Nat → Access → List (List (Target × Nat)) → State × RowsAns
  | [], s, _, _, _, _, _, acc => (s, .ok acc)
  | .row i :: l, s, p, w, off, n, a, acc =>
    let r := s.reachRange p w.space (s.viewBase p w) (i * w.ystride + off) (i * w.ystride + off + n) a
    match r.2 with
    | .ok e => reachRows l r.1 p w off n a (acc ++ [e])
    | .waits => (r.1, .waits)
    | .fails c a => (r.1, .fails c a)
  | _ :: l, s, p, w, off, n, a, acc => reachRows l s p w off n a (acc ++ [[]])

/-- After the rows were reached: wait, fail, or go on; a failed host read ends the program. -/
def afterReach (r : State × RowsAns) (p : Nat) (h : HostRead) (f : State → List (List (Target × Nat)) → State) : State :=
  match r.2 with
  | .waits => r.1
  | .fails c a => r.1.failPlotAt p c a
  | .ok ext =>
    let a := r.1.hostAnswers ext.flatten h h.data
    match a.2 with
    | some c => a.1.failPlotAt p c (hostFailAt ext.flatten h)
    | none => f a.1 ext

/-! ### GATHER -/

/-- Bytes of rows that the gleaner cache of a plot may hold. -/
def State.gcacheRoom (s : State) (p : Nat) : Nat := fld (s.rg (Rg.tilthSplit p)) 6 0 * 0x100000

/-- Keep a row in the gleaner cache, the rows kept longest leaving (log entry 38). -/
def fitCache : Nat → Nat → List (Nat × Nat × Nat × List Byte) → List (Nat × Nat × Nat × List Byte)
  | 0, _, l => l
  | n + 1, room, l => if (l.map (fun e => e.2.2.2.length)).foldl (· + ·) 0 ≤ room then l else fitCache n room (l.drop 1)

def State.gcachePut (s : State) (p base i : Nat) (d : List Byte) : State :=
  if s.gcacheRoom p < d.length then s
  else s.modPlot p (fun x => { x with gcache := fitCache (x.gcache.length + 1) (s.gcacheRoom p) (x.gcache ++ [(base, i, x.pasid, d)]) })

/-- A row that the gleaner cache holds. -/
def State.gcacheGet (s : State) (p base i : Nat) : Option (List Byte) :=
  ((s.plot p).gcache.find? (fun e => e.1 == base && e.2.1 == i && e.2.2.1 == (s.plot p).pasid)).map (fun e => e.2.2.2)

/-- Gather rows one after another, those read counted as accesses (R497): the state, the packed bytes and what is left of the host's answer. -/
def gatherRows : List (Pick × List (Target × Nat)) → State → Nat → Gl → View → List (Byte × Bool) → State × List (Byte × Bool)
  | [], s, _, _, _, _ => (s, [])
  | (k, ext) :: l, s, p, d, w, host =>
    let base := s.viewBase p w
    let r : State × List (Byte × Bool) × List (Byte × Bool) := match k with
      | .row i =>
        let at_ := i * w.ystride
        if !d.cache then gleanRead ext (s.noteLines p w [(at_ + d.rowOff, at_ + d.rowOff + d.rowBytes)] false) host
        else match s.gcacheGet p base i with
          | some b => (s.bump O.gleanCacheHits, (((b.drop d.rowOff).take d.rowBytes).map (fun y => (y, false))), host)
          | none =>
            let g := gleanRead ext (s.noteLines p w [(at_, at_ + w.x)] false) host
            let s := if g.2.1.any (fun y => y.2) then g.1 else g.1.gcachePut p base i (g.2.1.map (fun (y : Byte × Bool) => y.1))
            (s, (g.2.1.drop d.rowOff).take d.rowBytes, g.2.2)
      | _ => (s, List.replicate d.rowBytes (0, false), host)
    let q := gatherRows l r.1 p d w r.2.2
    (q.1, r.2.1 ++ q.2)

/-- GATHER: with CACHE_EN whole rows are read and kept (R612). -/
def execGather (plot : Fin 16) (h : HostRead) (s : State) : Out :=
  .next (s.glean plot 0 (fun d w =>
    let l := s.picks plot d w.y
    let base := s.viewBase plot w
    let need := l.map (fun k => match k with
      | .row i => if d.cache && (s.gcacheGet plot base i).isSome then Pick.null else k
      | _ => k)
    let r := if d.cache then reachRows need s plot w 0 w.x .read [] else reachRows need s plot w d.rowOff d.rowBytes .read []
    afterReach r plot h (fun s ext =>
      let g := gatherRows (l.zip ext) s plot d w h.data
      ((g.1.putTilth plot d.data g.2).gleanCount plot l).advance plot)))

/-! ### Scatters -/

/-- Add FP32 elements, each rounded to nearest even; a poisoned input marks the result. -/
def addFp32 : Nat → List (Byte × Bool) → List (Byte × Bool) → List (Byte × Bool)
  | 0, _, _ => []
  | n + 1, a, b =>
    let num (l : List (Byte × Bool)) : Num := numOf 4 (leNat ((l.take 4).map (fun (y : Byte × Bool) => y.1)))
    let bad := (a.take 4).any (fun y => y.2) || (b.take 4).any (fun y => y.2)
    (natLe 4 (encodeNum 4 .nearest ((num a).add (num b))).1).map (fun y => (y, bad)) ++ addFp32 n (a.drop 4) (b.drop 4)

/-- Add wide partials (R605). -/
def addW128 : Nat → List (Byte × Bool) → List (Byte × Bool) → List (Byte × Bool)
  | 0, _, _ => []
  | n + 1, a, b =>
    let num (l : List (Byte × Bool)) : Wide := wideOf (leNat ((l.take 16).map (fun (y : Byte × Bool) => y.1)))
    let bad := (a.take 16).any (fun y => y.2) || (b.take 16).any (fun y => y.2)
    (natLe 16 (wideAdd (num a) (num b)).code).map (fun y => (y, bad)) ++ addW128 n (a.drop 16) (b.drop 16)

/-- Forget a cached row that this plot scatters to (R612). -/
def State.gcacheDrop (s : State) (p base i : Nat) : State :=
  s.modPlot p (fun x => { x with gcache := x.gcache.filter (fun e => !(e.1 == base && e.2.1 == i && e.2.2.1 == x.pasid)) })

/-- Scatter rows in index order: 1 stores, 2 adds FP32, 3 adds wide partials. -/
def scatterRows : List (Pick × List (Target × Nat)) → State → Nat → Gl → View → Nat → List (Byte × Bool) → List (Byte × Bool) → State
  | [], s, _, _, _, _, _, _ => s
  | (k, ext) :: l, s, p, d, v, base, data, host =>
    let row := data.take d.rowBytes
    match k with
    | .row i =>
      let old : State × List (Byte × Bool) × List (Byte × Bool) := if d.kind = 1 then (s, [], host) else gleanRead ext s host
      let new := if d.kind = 1 then row else if d.kind = 2 then addFp32 (d.rowBytes / 4) old.2.1 row else addW128 (d.rowBytes / 16) old.2.1 row
      let nan := d.kind = 2 && (splitWords 4 (d.rowBytes / 4) (new.map (fun (y : Byte × Bool) => y.1))).any (isNanBits 4)
      let lo := i * v.ystride + d.rowOff
      let w := gleanWrite (withVas ext [(lo, lo + d.rowBytes)] base) old.1 new p old.2.2
      let s := (w.1.gcacheDrop p base i).orFlags p { nan := nan }
      let s := if new.any (fun y => y.2) then s.modPlot p (fun x => { x with poisoned := true }) else s
      scatterRows l s p d v base (data.drop d.rowBytes) w.2
    | _ => scatterRows l s p d v base (data.drop d.rowBytes) host

/-- The three scatters: rows reached first, then written in index order. -/
def State.scatter (s : State) (p kind : Nat) (h : HostRead) : State :=
  s.glean p kind (fun d w =>
    let l := s.picks p d w.y
    let base := s.viewBase p w
    afterReach (reachRows l s p w d.rowOff d.rowBytes (if kind = 1 then .write else .atomic) []) p h (fun s ext =>
      let b := s.getMarked (.tilth p d.data) (d.count * d.rowBytes)
      let s := scatterRows (l.zip ext) b.1 p d w base b.2 h.data
      let ranges := l.filterMap (fun k => match k with | .row i => some (i * w.ystride + d.rowOff, i * w.ystride + d.rowOff + d.rowBytes) | _ => none)
      ((s.gleanCount p l).noteLines p w ranges true).advance p))

/-- SCATTER. -/
def execScatter (plot : Fin 16) (h : HostRead) (s : State) : Out := .next (s.scatter plot 1 h)
/-- SCATTER_ADD. -/
def execScatterAdd (plot : Fin 16) (h : HostRead) (s : State) : Out := .next (s.scatter plot 2 h)
/-- SCATTER_ADDW. -/
def execScatterAddw (plot : Fin 16) (h : HostRead) (s : State) : Out := .next (s.scatter plot 3 h)

/-! ### CSR_EXPAND -/

/-- The byte ranges, past the start of a view, of bytes [a, a + n) of its lines laid end to end. -/
def viewBytes (w : View) (a n : Nat) : List (Nat × Nat) :=
  if n = 0 then []
  else (List.range ((a + n - 1) / w.x + 1 - a / w.x)).map (fun k =>
    let line := a / w.x + k
    let lo := max a (line * w.x)
    let hi := min (a + n) (line * w.x + w.x)
    (line * w.ystride + lo % w.x, line * w.ystride + lo % w.x + (hi - lo)))

/-- Read bytes of a view for the gleaner: code 0 where it waits, or the code that ends the program and the
address that failed. -/
def State.gleanBytes (s : State) (p : Nat) (w : View) (a n : Nat) (h : HostRead) (host : List (Byte × Bool)) :
    State × Except (Nat × Nat) (List (Byte × Bool) × List (Byte × Bool)) :=
  let r := reachRanges (viewBytes w a n) s p w.space (s.viewBase p w) .read []
  match r.2 with
  | .waits => (r.1, .error (0, 0))
  | .fails c a => (r.1, .error (c, a))
  | .ok ext =>
    let k := r.1.hostAnswers ext h host
    match k.2 with
    | some c => (k.1, .error (c, hostFailAt ext h))
    | none =>
      let g := gleanRead ext (k.1.noteLines p w (viewBytes w a n) false) host
      (g.1, .ok g.2)

/-- Expand nodes in order while the output has room: entries, whether some were out of range, whether CAP was reached. -/
def csrNodes : List Pick → State → Nat → View → View → Nat → HostRead → List (Byte × Bool) → List (Byte × Bool) → Nat
    → State × Except (Nat × Nat) (List (Byte × Bool) × Nat × Bool)
  | [], s, _, _, _, _, _, _, out, oob => (s, .ok (out, oob, false))
  | .null :: l, s, p, w, w2, cap, h, host, out, oob => csrNodes l s p w w2 cap h host out oob
  | .out :: l, s, p, w, w2, cap, h, host, out, oob => csrNodes l s p w w2 cap h host out (oob + 1)
  | .row v :: l, s, p, w, w2, cap, h, host, out, oob =>
    let r := s.gleanBytes p w (8 * v) 16 h host
    match r.2 with
    | .error c => (r.1, .error c)
    | .ok (b, host) =>
      let lo := leNat ((b.take 8).map (fun (y : Byte × Bool) => y.1))
      let hi := leNat (((b.drop 8).take 8).map (fun (y : Byte × Bool) => y.1))
      let bad := b.any (fun y => y.2)
      let top := w2.x * w2.y / 4
      let inside := min hi top
      let room := cap - out.length / 4
      let n := min (inside - lo) room
      let q := r.1.gleanBytes p w2 (4 * lo) (4 * n) h host
      match q.2 with
      | .error c => (q.1, .error c)
      | .ok (e, host) =>
        let out := out ++ e.map (fun (y : Byte × Bool) => (y.1, y.2 || bad))
        if room < inside - lo then (q.1, .ok (out, oob, true))
        else csrNodes l q.1 p w w2 cap h host out (if inside < hi && lo < hi then oob + 1 else oob)

/-- CSR_EXPAND (R610). -/
def execCsrExpand (plot : Fin 16) (h : HostRead) (s : State) : Out :=
  .next (s.glean plot 4 (fun d w =>
    match s.view? plot d.view2 with
    | none => s.failPlot plot 0x203
    | some w2 =>
      let l := s.picks plot d (w.x * w.y / 8 - 1)
      let r := csrNodes l s plot w w2 d.cap h h.data [] 0
      match r.2 with
      | .error (c, a) => if c = 0 then r.1 else r.1.failPlotAt plot c a
      | .ok (out, oob, full) =>
        let s := (r.1.putTilth plot d.data out).putTilth plot d.outCount (enAll (natLe 4 (out.length / 4)) |>.map (fun (y : Byte × Bool) => (y.1, false)))
        let s := (s.bumpBy O.gleanIndices l.length).bumpBy O.gleanOob oob
        (s.orFlags plot { oob := decide (0 < oob), trunc := full }).advance plot))

end Sys2Proof.Machine
end

