-- ==== Sys2Proof/Machine/Reset.lean ====
section
/-! DEFINITION. What the resets clear and keep (chapter 3, R117-R160): the function state of GCORE, power-on and module
reset, the Headland reset, the fence and the reset of a plot, persistence at a start, and the boot of the firmware. -/

namespace Sys2Proof.Machine

/-! ### Commits of the Headland's own (R177) -/

/-- A commit of the Headland's own counters falls due; it merges with one that is pending. -/
def State.ownCommit (s : State) : State :=
  match s.dict.commit with
  | .pending => s
  | .busy => { s with dict := { s.dict with again := true, againOwn := s.dict.againOwn || !s.dict.again } }
  | _ => { s with dict := { s.dict with commit := .pending, own := true } }

/-- An RWP object with Persist P. -/
def rwpP (k : Nat) : Bool :=
  match objRow? (k / 256) (k % 256) with
  | some r => r.acc == .rwp && r.persist == 1
  | none => false

/-- A counter of the Headland with Persist P. -/
def counterP (k : Nat) : Bool :=
  match objRow? (k / 256) (k % 256) with
  | some r => r.acc == .ro && r.persist != 0
  | none => false

/-- An RO object with Persist P: a persistent counter of the Headland (R174, R177). -/
def ownCounter (k : Nat) : Bool :=
  match objRow? (k / 256) (k % 256) with
  | some r => r.acc == .ro && r.persist == 1
  | none => false

/-- RWP items held in hardware, which keep their value across a Headland reset (R8). -/
def hardRwp (k : Nat) : Bool :=
  k / 256 == 0x8000 || (decide (0x7100 ≤ k / 256) && decide (k / 256 < 0x7900)) || k == O.recSpacing

/-- Choose the bank at a start: CRC passes, the higher sequence number (R173). -/
def State.chooseBank (s : State) : State :=
  let a := s.dict.banks.1
  let b := s.dict.banks.2
  { s with dict := { s.dict with bankB := b.crcOk && (!a.crcOk || decide (a.seq < b.seq)) } }

/-- Neither bank passes its CRC. -/
def State.banksLost (s : State) : Bool := !s.dict.banks.1.crcOk && !s.dict.banks.2.crcOk

/-- What the bank in use holds; nothing where neither passes its CRC. -/
def State.stored (s : State) : Bank := if s.banksLost then {} else s.bank

/-- The RWP objects that `f` picks take their committed values, or where there are none their defaults (R173). -/
def State.restore (s : State) (f : Nat → Bool) : State :=
  let od := s.od.filter (fun e => !(rwpP e.1 && f e.1))
  { s with od := (s.stored.vals.filter (fun e => rwpP e.1 && f e.1)).foldl (fun m e => kvSet (odDefault e.1) m e.1 e.2) od }

/-! ### The function state of GCORE (R119) -/

/-- A plot loses its program, tilth, resident programs and gleaner cache; it keeps its power state and fence. -/
def Plot.cleared (p : Plot) (now : Nat) : Plot :=
  { state := (match p.state with | .gated => .gated | .waking => .waking | .fenced => .fenced | _ => .idle),
    rampQueued := p.rampQueued, ramping := p.ramping, off := p.off, resetting := p.resetting, idleSince := now }

/-- While migration runs in hardware mode, ROW[MIG_ROW] belongs to it (R529). -/
def State.bindMigRow (s : State) : State :=
  if s.mig.hostMode then s
  else
    let a := Rg.row s.mig.migRow 0x28
    { s.setRg a (setFld (s.rg a) 23 22 2) with mig := { s.mig with rowOwner := fld (s.rg a) 23 22 } }

/-- ROW[MIG_ROW] returns to the owner it had before, as migration leaves hardware mode (R529). -/
def State.unbindMigRow (s : State) : State :=
  if s.mig.hostMode then s
  else
    let a := Rg.row s.mig.migRow 0x28
    { s.setRg a (setFld (s.rg a) 23 22 s.mig.rowOwner) with mig := { s.mig with hostMode := true, rowOwner := 0 } }

/-- The selectors that a host-face reset returns to their defaults (R785). -/
def State.resetSplit (s : State) : State :=
  let s := s.unbindMigRow
  let s := s.each [O.splitWalk, O.splitFault, O.splitMig, O.splitClassify, O.splitCap, O.splitStakeTo] (fun s k => s.setVal k (odDefault k))
  { s with plat := { s.plat with mode := false, switching := none }, flt := { s.flt with mode := false }, fc := { s.fc with mode := false } }

/-- Everything that GCORE, RTR and the plots hold, but for COH_WINDOW and the registers of the global block. -/
def State.clearGcore (s : State) : State :=
  let s : State := { s with
    g := {}, drill := {},
    plat := { mode := s.plat.switching.getD s.plat.mode },
    flt := { mode := s.flt.mode },
    mig := { hostMode := s.mig.hostMode, migRow := s.mig.migRow },
    rot := { s.rot with freeing := [] },
    plots := (s.plots.map (fun (e : Nat × Plot) => (e.1, e.2.cleared s.now))).filter (fun e => decide (e.2 ≠ {})) }
  (((s.resetRegs 0x40000 0x80000).resetRegs 0x100000 0x800000).resetRegs 0x2000000 0x3000000).bindMigRow

/-- Frozen is released, unless the package is fenced (R317). -/
def State.unfreeze (s : State) : State :=
  let k := s.rg Rg.freezeCause &&& 8
  let s' : State := { s with host := { s.host with frozen := k != 0 } }
  s'.setRg Rg.freezeCause k

/-- The erases in progress: of SEED descriptors that have begun at their die. -/
def State.erasing (s : State) : List Slot :=
  s.g.store.filter (fun x => x.d.opcode == 3 && x.d.sop == 2 && x.state == .started && x.result.isNone
    && s.seedTurn x.furrow x.seq x.d && s.seedOpCheck x.d == 0 && !s.pwr.nandPause)

/-- An erase in progress completes although its descriptor goes (R148). -/
def State.endErases (s : State) : State := s.each s.erasing (fun s x => s.nandErase (nBlockId x.d.naddr))

/-- Every erase in progress is aborted (R65, R131, R148): its block holds nothing known until it is erased again. -/
def State.abortErases (s : State) : State :=
  s.each s.erasing (fun s x =>
    s.setSeed (fun d => { d with
      raw := memZero d.raw (nandAddr (nBlockId x.d.naddr) 0 0 0) (nandAddr (nBlockId x.d.naddr + 1) 0 0 0),
      blocks := kvPut d.blocks (nBlockId x.d.naddr) { kvGet {} d.blocks (nBlockId x.d.naddr) with next := none, aborted := true } }))

/-- The scrub that HBM_SCRUB_ON_RESET orders (R125, R512). -/
def State.scrubOnReset (s : State) : State :=
  if s.val O.hbmScrubOnReset = 1 && s.hbmOn then
    let lines := (s.coh.snoopFilter.map (fun e => e.1)).filter (fun g => (s.cohWindowOf (g * 64)).isSome)
    ({ s with coh := { s.coh with scrubbing := lines } } : State).pendScrub.snoops lines true
  else s

/-- The reset's part of the function state (R119): fundamental reset, hot reset and DL_Down; FLR (`flr`, R305). -/
def State.clearFunction (s : State) (flr : Bool) : State :=
  let s := s.flushDcc (flr && s.link.up && s.link.ltssm == .l0)
  let waiting := s.fab.waiting
  let s : State := { s with fab := { s.fab with waiting := [] } }
  let s := (s.each waiting (fun s x => (s.refuseMsg x.2 0x50).giveBack x.1 0 (msgUnits x.2))).payOwed
  let s := s.rotFundamental
  let s := s.endErases.resetSplit.clearGcore
  let s := s.leaveSlice
  let s : State := { s with fab := { s.fab with reqs := [], ordered := [] } }
  let s := if flr then s else s.resetCoh
  let s := s.scrubOnReset
  let s := if flr && s.host.frozenSinceFlr then s else s.unfreeze
  let cause := s.rg Rg.freezeCause
  let s := ((s.resetRegs 0 0x800).resetRegs 0x880 0x40000).setRg Rg.freezeCause cause
  let s := s.resetRegs Rg.fcRingBase (Rg.fcRingBase + 8)
  let fc := { s.fc with ringEnable := false, head := 0, tail := 0, inFlight := [] }
  let s : State := { s with fc := fc, latch := [] }
  if flr then
    ({ s with host := { s.host with inFlr := false, power := .d0, attnAsserted := false, attnHoldoff := none } } : State).resetCfg true true
  else
    ({ s with host := { poison := s.host.poison, wire := s.host.wire, frozen := s.host.frozen },
              pwr := { s.pwr with hold := [], refused := 0, refusedFirst := none },
              link := { widthLimit := s.link.widthLimit, retrainFrom := s.link.retrainFrom } } : State).resetCfg true false

/-- A cause of RESET_CAUSE (R161). -/
def State.cause (s : State) (n : Nat) : State := s.setVal O.resetCause (s.val O.resetCause ||| 2 ^ n)

/-- A fundamental reset, hot reset or DL_Down (R119, R123, R126), in every power state: what is off holds nothing to clear. -/
def State.hostReset (s : State) : State := s.clearFunction false

/-! ### Calibration (R97-R103) -/

/-- Load the set from the NOR, or use defaults where its CRC fails (R102). -/
def State.loadCal (s : State) : State :=
  let s := s.each calItems (fun s i =>
    if !s.cal.crcOk then s.setCal i 0 0
    else match s.cal.stored.find? (fun e => e.1 == i) with
      | some (_, o, v) => s.setCal i o v
      | none => s.setCal i 1 0)
  let s := (s.setVal O.calState (b2n (!s.cal.crcOk))).setVal O.calCrc (s.cal.crc.getD Config.calCrc % 2 ^ 32)
  s.raiseIf (!s.cal.crcOk) Sc.calCrc

/-- The 1,200 W derate (R102, R103): while a factory-only item reads DEFAULT, and after a failed CRC until a commit stores a
valid set (log entry 88). -/
def State.derate (s : State) : Bool :=
  s.val O.calState == 1 || [0x2860, 0x2861, 0x2862, 0x2863, 0x2864, 0x2865, 0x2866, 0x2867, 0x2870, 0x2878].any (fun i => s.val (calOrigin i) == 0)

/-- A commit in progress when power or the Headland goes has failed: the stored set's CRC does too, and what CRC word the half
written set carries is a free value (R131, R148). -/
def State.tearCal (s : State) : State :=
  if s.cal.busy.isSome then
    let d := s.draw
    ({ d.2 with cal := { s.cal with busy := none, crcOk := false, stored := [], crc := some (d.1 % 2 ^ 32) } } : State).setVal O.calCommitStatus 3
  else s

/-! ### Boot control (R139-R141) -/

/-- The copy of boot control in use, and an update of it (R139, R140). -/
def Headland.bootB? (h : Headland) : Bool := h.bootB.crcOk && (!h.bootA.crcOk || decide (h.bootA.seq < h.bootB.seq))
def Headland.boot (h : Headland) : BootCtl := if h.bootB? then h.bootB else h.bootA
def Headland.setBoot (h : Headland) (f : BootCtl → BootCtl) : Headland :=
  let c := f { h.boot with seq := h.boot.seq + 1, crcOk := true }
  if h.bootB? then { h with bootA := c } else { h with bootB := c }

/-- Slot `i` holds an image that passes the checks of R140. -/
def Headland.good (h : Headland) (i : Nat) : Bool := bit h.full i && bit h.genuine i

/-- A firmware download is cut short: the slot it wrote is marked bad (R148). -/
def State.tearFw (s : State) : State :=
  match s.fw.status with
  | .idle | .failed | .verified => { s with fw := {} }
  | .activating => s
  | _ =>
    let i := 1 - s.hl.image
    { s with fw := {}, hl := ({ s.hl with genuine := setBit s.hl.genuine i false }).setBoot (fun c => { c with bad := setBit c.bad i true }) }

/-! ### Power-on and module reset (R117-R122, R135) -/

/-- Everything volatile is gone: what is kept is in the NOR, the NAND and the fuses, and the readings of the sensors and
pins (R119). -/
def State.cold (s : State) : State :=
  let s := ((s.tearCal.tearFw).rotPowerLoss).abortErases
  let s := s.chooseBank
  let bank := s.stored
  let kept := (bank.vals.filter (fun e => ownCounter e.1)).foldl (fun m e => kvSet (odDefault e.1) m e.1 e.2)
    (s.od.filter (fun e => counterP e.1 && !ownCounter e.1))
  let t : State := { State.reset with
    now := s.now, free := s.free, pending := s.pending, od := kept, host := { wire := s.host.wire },
    dict := { banks := s.dict.banks, bankB := s.dict.bankB },
    hop := { key := s.hop.key },
    cal := { stored := s.cal.stored, crcOk := s.cal.crcOk, crc := s.cal.crc },
    hl := { s.hl with running := false, silentSince := s.now, since := 0, romFails := 0, bootState := 0 },
    seed := { s.seed with state := .off, coolSince := none, waiting := none, order := [], bad := bank.bad },
    rot := {},
    fc := { fatalLog := bank.log },
    pwr := { ovHold := s.pwr.ovHold, brownAt := s.pwr.brownAt, bulkAt := s.pwr.bulkAt, modrst := s.pwr.modrst, perst := s.pwr.perst, brownBefore := s.pwr.brownBefore,
             tripBefore := s.pwr.tripBefore, temps := s.pwr.temps, tripped := s.pwr.tripped, tripClass := s.pwr.tripClass,
             pins := s.pwr.pins } }
  let t := t.restore (fun _ => true)
  let m (k : Nat) : Bool := t.val k == 1
  ({ t with plat := { mode := m O.splitWalk }, flt := { mode := m O.splitFault },
            mig := { hostMode := m O.splitMig, migRow := t.val O.migRow },
            fc := { t.fc with mode := m O.splitClassify } } : State).bindMigRow

/-- Sensors of a class, its throttle threshold's object, its trip threshold in 1/16 degree (R93). -/
def thermClass (n : Nat) : Nat := if n < 74 then 0 else if n < 82 then 1 else if n < 84 then 3 else if n < 88 then 2 else 4
def tripAt (c : Nat) : Nat := match c with | 0 => 1760 | 1 => 1680 | 2 => 2080 | 3 => 1440 | _ => 1280

/-- Readings arrive. -/
def State.takeReadings (s : State) (l : List (Nat × Int)) : State :=
  { s with pwr := { s.pwr with temps := l.foldl (fun m e => kvSet 0 m (e.1 % 90) (toTwos 16 e.2)) s.pwr.temps } }

/-- The members of the die or part a sensor is on (R92, R96). -/
def thermPart (n : Nat) : List Nat :=
  if n < 64 then [n / 4 * 4, n / 4 * 4 + 1, n / 4 * 4 + 2, n / 4 * 4 + 3]
  else if n < 68 then [64, 65, 66, 67]
  else if n < 74 then [n / 2 * 2, n / 2 * 2 + 1]
  else if n < 82 then [n]
  else if n < 84 then [82, 83]
  else if n < 88 then [84, 85, 86, 87]
  else [n]

/-- The offset item of a sensor still holds its default (R101). -/
def State.offsetLost (s : State) (n : Nat) : Bool := s.val ((0x2860 + Config.offsetItem n % 8) * 256 + 1) == 0

/-- Sensor n is marked failed. -/
def State.sensorBad (s : State) (n : Nat) : Bool := bit (s.val O.sensorFailed) n

/-- The reading of a sensor after its offset, with 10 degrees more while the offset is a default (R101); a failed one takes the
hottest working one of its part plus 10 degrees (R96); where none works, what was drawn when the last failed. -/
def State.reading (s : State) (n : Nat) : Int :=
  let raw (m : Nat) : Int := sext 16 (kvGet 0 s.pwr.temps m) + (if s.offsetLost m then 160 else 0)
  if s.sensorBad n then
    match (thermPart n).filter (fun m => !s.sensorBad m) with
    | [] => raw n
    | m :: ms => ms.foldl (fun t k => max t (raw k)) (raw m) + 160
  else raw n

/-- A plot goes off (R78): tilth, resident programs and gleaner cache are destroyed; TILTH_OWNER, which only a program
start changes (R587), and the plot's counts stay. -/
def State.gatePlot (s : State) (n : Nat) : State :=
  s.modPlot n (fun y => { state := .gated, owner := y.owner, arith := y.arith, macs := y.macs, macsOvf := y.macsOvf })

/-- A plot without a working sensor is gated and held gated (R96): its program ends with a code the spec does not state. -/
def State.holdOff (s : State) (n : Nat) : State :=
  let x := s.plot n
  let s := if x.busy then
      let d := s.draw
      (d.2.haltProgram x.furrow x.seq (d.1 % 65536)).settleStakes
    else s
  let s : State := { s with pwr := { s.pwr with plotHeldOff := setBit s.pwr.plotHeldOff n true } }
  if (s.plot n).state == .fenced then s.modPlot n (fun y => { y with off := true, rampQueued := false, ramping := false }) else s.gatePlot n

/-- A sensor fails (R96): it is marked; a plot without a working one goes off, another die or a stack sets the floor. The power
stage, the NAND package and the optical engines are no die of those. -/
def State.failSensor (s : State) (n : Nat) : State :=
  if s.sensorBad n then s
  else
    let s := (s.setVal O.sensorFailed (s.val O.sensorFailed + 2 ^ n)).raise Sc.sensorFailed
    let part := thermPart n
    if !part.all (fun m => s.sensorBad m) then s
    else
      let d := s.draw
      let s := d.2.takeReadings (part.map (fun m => (m, sext 16 d.1)))
      if n < 64 then s.holdOff (n / 4)
      else if n < 82 then { s with pwr := { s.pwr with sensorFloor := true } }
      else s

/-- Since when both NAND sensors have read below 75 degrees, while SEED is off (R710). -/
def State.noteCool (s : State) : State :=
  if s.seed.state == .off then
    let cool := decide (s.reading 82 < 1200) && decide (s.reading 83 < 1200)
    s.setSeed (fun d => { d with coolSince := (if cool then some (d.coolSince.getD s.now) else none) })
  else s

/-- Readings as the sensors report them (R96): outside -40 to 150 degrees a sensor has failed; one that answers in range again is
marked no longer (log entry 84). -/
def State.sense (s : State) (l : List (Nat × Int)) : State :=
  s.each l (fun s e =>
    let n := e.1 % 90
    if e.2 < -640 || 2400 < e.2 then s.failSensor n
    else
      let s := s.takeReadings [(n, e.2)]
      (if s.sensorBad n then s.setVal O.sensorFailed (s.val O.sensorFailed - 2 ^ n) else s).noteCool)

/-- Every sensor of the tripping class reads at least 15 degrees below its trip threshold (R95, R122). -/
def State.cooled (s : State) : Bool :=
  (List.range 90).all (fun n => thermClass n != s.pwr.tripClass || decide (s.reading n ≤ (tripAt s.pwr.tripClass : Int) - 240))

/-- A start-up begins (R121, R135): `why` is LAST_START_CAUSE, where a trip is named first and a brown-out next, also one after
which power returned with MODRST# held (log entry 87), `bits` are the causes registered, and `keep` says that RESET_CAUSE is kept.
While a trip holds it back its causes are registered all the same, and TRIP_SENSOR keeps its value as long as TRIP_LATCHED reads 1
(log entry 87). -/
def State.startUp (s : State) (why : Nat) (bits : List Nat) (keep : Bool) : State :=
  let old := if keep then s.val O.resetCause else 0
  let t := s.cold
  let t := if t.pwr.tripped then t.setVal O.tripSensor (s.val O.tripSensor) else t
  let causes := bits ++ (if t.pwr.brownBefore then [2] else []) ++ (if t.pwr.tripBefore then [3] else [])
  let all := causes.foldl (fun m n => m ||| 2 ^ n) old
  if t.pwr.tripped && !t.cooled then
    (({ t with pwr := { t.pwr with aon := true } } : State).setVal O.startPhase 7).setVal O.resetCause all
  else
    let why := if t.pwr.tripBefore then 2 else if t.pwr.brownBefore then 1 else why
    let t := if t.pwr.brownBefore then t.bump O.brownoutCount else t
    let t : State := { t with pwr := { t.pwr with mode := .starting, aon := true, startAt := t.now, hfast := true, hfastAt := t.now,
                                                  brownBefore := false, tripBefore := false, tripped := false, tripClass := 0, ovHold := none } }
    let t := ((t.setVal O.resetCause all).setVal O.lastStartCause why).setVal O.tripSensor 0
    (t.bump O.powerOnCount).setVal O.startPhase 1

/-- POWER_ON (R63, R135): the start condition holds, after an overvoltage 10 ms later at the earliest; `inrush` is the time to
charge the bulk capacitance in ms, and the sensors read as given. A start that a trip held back goes on. -/
def execPowerOn (inrush : Nat) (readings : List (Nat × Int)) (s : State) : Out :=
  if !(s.pwr.mode == .off) || (s.pwr.aon && !s.pwr.tripped) then .next s
  else
    let s := match s.pwr.ovHold with | some t => s.until_ (t + 10000000) | none => s
    let s := s.takeReadings readings
    let s : State := if s.pwr.aon then s else { s with pwr := { s.pwr with bulkAt := s.now + 30000000 } }
    if s.pwr.modrst then
      let t : State := { s.cold with pwr := { s.cold.pwr with aon := true, ovHold := none } }
      .next ((if t.pwr.tripped then t.setVal O.tripSensor (s.val O.tripSensor) else t).cause 0)
    else
      .next (((s.startUp 0 (if s.pwr.aon then [] else [0]) s.pwr.aon).setVal O.inrushMs (inrush % 65536)).sense readings)

/-- Registers and objects of GCORE and of the Tramline dies, which go with their power (R837). -/
def State.dropVolatile (s : State) : State :=
  let volatile (k : Nat) : Bool :=
    let i := k / 256
    (i == 0x3100 || (decide (0x3200 ≤ i) && decide (i ≤ 0x3205)) || i == 0x3300 || i == 0x4000 || i == 0x4800 || i == 0x4801
      || (decide (0x5010 ≤ i) && decide (i ≤ 0x5016)) || i == 0x5020 || (decide (0x5030 ≤ i) && decide (i ≤ 0x5050)))
    && !rwpP k && k != O.sliceAccept
  { s with od := s.od.filter (fun e => !volatile e.1) }

/-- The dies, the host link and the Headland go off; AON stays where `aon` (R64, R121). -/
def State.goDark (s : State) (aon : Bool) : State :=
  let s := (s.abortErases.loseSlice).dropVolatile
  { s with
    pwr := { s.pwr with mode := .off, aon := aon, powerAt := none, hold := [], hfast := false, holdover := 0, scrub := [], lastRamp := none,
                         refused := 0, refusedFirst := none, entryAbandoned := false, silentDue := false },
    reg := [], cfg := [], latch := [],
    link := {}, host := { wire := s.host.wire }, g := {}, drill := {}, coh := {}, fab := {}, plots := [], hbm := [], time := {},
    plat := { mode := s.plat.mode }, flt := { mode := s.flt.mode }, mig := { hostMode := s.mig.hostMode, migRow := s.mig.migRow },
    fc := { s.fc with ringEnable := false, head := 0, tail := 0, inFlight := [], unacked := [] },
    hl := { s.hl with running := false, silentSince := s.now, bootState := 0 },
    seed := { s.seed with state := .off, coolSince := none, waiting := none, order := [] } }

/-- The brown-out sequence (R64): the peers and the manager hear of it, in-flight programs complete, power goes. After an
overvoltage no start follows until the input has been below its limit for 10 ms (R63). -/
def State.brownoutOp (s : State) (ov : Bool) : State :=
  let s : State := { s with pwr := { s.pwr with ovHold := (if ov then some s.now else s.pwr.ovHold) } }
  if s.pwr.mode == .off && !s.pwr.aon then s
  else
    let s := if ov then s.raise 0x001 else s
    let s := (s.raise Sc.brownout).bump O.brownoutCount
    let s := s.sendPowerLoss
    let sent := s.fab.sent
    let s := (s.tearCal.tearFw).goDark false
    { s with pwr := { s.pwr with brownBefore := true, brownAt := some s.now }, fab := { s.fab with sent := sent } }

/-- BROWNOUT. -/
def execBrownout (s : State) : Out := .next (s.brownoutOp false)

/-- INPUT_OV (R63). -/
def execInputOv (s : State) : Out := .next (s.brownoutOp true)

/-- INPUT_DIP (R63). -/
def execInputDip (s : State) : Out := .next (if s.pwr.aon then s.bump O.dipCount else s)

/-- MODULE_RESET_ASSERT (R121, R152): as a brown-out from its second row on; the fabric hears MEMBER_RESET. -/
def execModuleResetAssert (s : State) : Out :=
  if s.pwr.modrst then .next s
  else
    let s := s.bump O.signalChanges
    if !s.pwr.aon then .next { s with pwr := { s.pwr with modrst := true } }
    else
      let s := s.leaveSlice
      let sent := s.fab.sent
      let s := (s.tearCal.tearFw).goDark true
      .next { s with pwr := { s.pwr with modrst := true }, fab := { s.fab with sent := sent } }

/-- MODULE_RESET_DEASSERT (R121, R122): start-up runs from its 0.5 ms step. -/
def execModuleResetDeassert (readings : List (Nat × Int)) (s : State) : Out :=
  if !s.pwr.modrst then .next s
  else
    let s : State := { s with pwr := { s.pwr with modrst := false } }
    let s := s.bump O.signalChanges
    if !s.pwr.aon then .next s
    else
      let n := s.val O.signalChanges
      .next ((((s.takeReadings readings).startUp 3 [1] true).setVal O.signalChanges n).sense readings)

/-- PERST_GLITCH (R150). -/
def execPerstGlitch (s : State) : Out := .next (if s.pwr.aon then s.bump O.perstGlitchCount else s)

/-- PERST_ASSERT (R123). -/
def execPerstAssert (s : State) : Out :=
  if s.pwr.perst then .next s
  else
    let s := if s.pwr.aon then (((s.bump O.signalChanges).bump O.perstCount).cause 7).hostReset else s
    .next { s with pwr := { s.pwr with perst := true } }

/-- PERST_DEASSERT (R124, R126): the LTSSM enters Detect once the GLINK is enabled. -/
def execPerstDeassert (s : State) : Out :=
  if !s.pwr.perst then .next s
  else
    let s : State := { s with pwr := { s.pwr with perst := false } }
    .next (if s.pwr.aon then s.bump O.signalChanges else s)

/-- HOT_RESET (R126): a hot reset in training sets, or a link disable. -/
def execHotReset (disable : Bool) (s : State) : Out :=
  if !s.glinkOn || s.pwr.perst then .next s
  else
    let s := ((s.bump O.hotResetCount).cause 8).hostReset
    .next { s with link := { s.link with ltssm := (if disable then .disabled else .hotReset) } }

/-- A record of source n is dropped or lost: its LOST, and the count its next record carries (R742, R754). -/
def State.srcLost (s : State) (n : Nat) : State :=
  let x := s.src n
  s.setSrc n { x with lost := (x.lost + 1) % 2 ^ 16, lostOvf := x.lostOvf || decide (2 ^ 16 ≤ x.lost + 1), lostSince := x.lostSince + 1 }

/-- FC_LOST counts one. -/
def State.fcLostOne (s : State) : State :=
  { s with fc := { s.fc with lost := (s.fc.lost + 1) % 2 ^ 64, lostOvf := s.fc.lostOvf || decide (2 ^ 64 ≤ s.fc.lost + 1) } }

/-- DL_DOWN (R318, R126, R762): `lost` is the number of the newest fault records that had left and were not acknowledged
by the link partner's data link layer. -/
def execDlDown (lost : Nat) (s : State) : Out :=
  if !s.link.up then .next s
  else
    let gone := s.fc.unacked.drop (s.fc.unacked.length - lost)
    let s := s.each gone (fun s n =>
      ((s.srcLost n).fcLostOne).raise Sc.fcRingFault)
    let s : State := { s with fc := { s.fc with unacked := [] } }
    .next (((s.bump O.hotResetCount).cause 9).hostReset)

/-- The Initiate Function Level Reset write (R302): Deassert_INTA, doorbells stop, the posted queue is discarded, what is
outstanding is abandoned. -/
def State.flrOp (s : State) : State :=
  if !s.link.up || s.pwr.perst then s
  else
    let s := (s.bump O.flrCount).cause 10
    let s := s.deassert
    let s := s.discardPosted.1.abandonTags
    { s with host := { s.host with inFlr := true, frozenSinceFlr := false } }

/-- INITIATE_FLR. -/
def execInitiateFlr (s : State) : Out := .next s.flrOp

/-- An ATS invalidation has not been completed: one waits, runs, or its completion has not left (R471). -/
def State.atsOpen (s : State) : Bool :=
  decide (0 < s.atsQueued) || s.plat.atsHeld.any (fun c => c.ats.isSome) || s.host.queue.any (fun t => t.kind == .atsInvalidateCpl)

/-- FLR_COMPLETE (R305), once the window requests received before the Initiate FLR write have executed (R303) and the ATS
invalidations are completed (R471). -/
def execFlrComplete (s : State) : Out :=
  if !s.host.inFlr || s.pwr.hold.any (fun h => h.cxl.isNone) || s.atsOpen then .next s else .next (s.clearFunction true).cohGo

/-- HBM_SCRUB_ACRE (R125). -/
def execHbmScrubAcre (acre : Fin 6144) (s : State) : Out := .next (s.scrubAcre acre)

/-! ### The Headland (R128-R131, R139-R142, R158) -/

/-- ROM recovery (R142): AON is the only domain that is on, the host sees no link, and the field role alone is served. It is neither
a power-on nor a module reset, so a package fence holds on (R317, R333). -/
def State.romRecoveryOp (s : State) : State :=
  let d := s.draw
  let held := d.2.pwr.mode == .off
  let fence := d.2.rg Rg.freezeCause &&& 8
  let s := (d.2.rotPowerLoss.goDark true).setRg Rg.freezeCause fence
  let s : State := { s with hl := { s.hl with bootState := 3, running := false, romFails := 0 }, fw := {},
                            pwr := { s.pwr with mode := (if held then .off else .starting), hfast := true, hfastAt := s.now, orphan := false },
                            host := { s.host with frozen := fence != 0 },
                            hop := { key := s.hop.key, nonce := d.1 % 2 ^ 32, plca := s.hop.plca, frames := s.hop.frames } }
  let s := s.raise Sc.fwRecovery
  if held then s else s.setVal O.startPhase 6

/-- The firmware runs (R135, R129): its session nonce is drawn, the persistent objects and the calibration set are checked
and loaded, its own commit falls due, and a start-up goes on to power the domains once the bulk capacitance is charged (R62),
which a module reset does not undo (R121). DEDUCED (log entry 162): R102's 'does not write the NOR on its own' is read of the
calibration set, so the commit of counters of R177 falls due while calibration defaults are in use too. -/
def State.firmwareStarts (s : State) : State :=
  let d := s.draw
  let on := if s.pwr.mode == .starting then some (s.pwr.powerAt.getD (max s.now s.pwr.bulkAt)) else s.pwr.powerAt
  let s : State := { d.2 with
    hl := { s.hl with running := true, since := s.now, silentSince := s.now, romFails := 0 },
    hop := { key := s.hop.key, nonce := d.1 % 2 ^ 32, plca := s.hop.plca, frames := s.hop.frames }, fw := {},
    pwr := { s.pwr with orphan := false, hfast := true, hfastAt := s.now, powerAt := on } }
  let s := s.raiseIf s.banksLost Sc.persistCrc
  let s := (s.loadCal).ownCommit
  let s := if s.seed.state == .formatting || s.seed.state == .off && !(s.pwr.mode == .starting) then s
    else s.seedStart
  let s := if s.pwr.wakeLatch then ({ s with pwr := { s.pwr with wakeLatch := false } } : State).wakeEvent else s
  (if s.pwr.mode == .starting then s.setVal O.startPhase 1 else s).joinResume

/-- The boot ROM jumps to image i; its version word is the firmware's. -/
def State.jump_ (s : State) (i st : Nat) : State :=
  let s : State := { s with hl := { s.hl with image := i, bootState := st } }
  s.firmwareStarts

/-- An image that does not verify is marked bad (R140). -/
def State.markBad (s : State) (i : Nat) : State :=
  (({ s with hl := s.hl.setBoot (fun c => { c with bad := setBit c.bad i true }) } : State)).raise Sc.fwImageBad

/-- Verify image i, then the other, which is marked as the first where it fails too (R140, log entry 122). -/
def State.verify (s : State) (i st : Nat) : State :=
  if s.hl.good i then s.jump_ i st
  else
    let s := s.markBad i
    if s.hl.good (1 - i) then s.jump_ (1 - i) 0 else (s.markBad (1 - i)).romRecoveryOp

/-- BOOT_IMAGE_SELECT (R140, R141): a pending image with trials left runs on trial; otherwise the active image. -/
def execBootImageSelect (s : State) : Out :=
  if !s.pwr.aon || s.pwr.modrst || s.hl.running || s.hl.bootState == 3 || (s.pwr.mode == .off && !s.pwr.tripped) then .next s
  else if bit (s.val O.strapSampled) 14 == false && s.val O.strapTries != 0 then .next s.romRecoveryOp
  else
    let c := s.hl.boot
    match c.pending with
    | some i =>
      if 0 < c.trials then
        .next (({ s with hl := s.hl.setBoot (fun c => { c with trials := c.trials - 1 }) } : State).verify i 1)
      else
        let s : State := { s with hl := { s.hl.setBoot (fun c => { c with pending := none }) with fallback := true } }
        .next ((s.raise Sc.fwFallback).verify c.active 0)
    | none => .next (s.verify c.active 0)

/-- BOOT_ROM_TIMEOUT (R158): the boot is restarted three times; the fourth timeout in a row enters ROM recovery. -/
def execBootRomTimeout (s : State) : Out :=
  if !s.pwr.aon || s.pwr.modrst || s.hl.running || s.hl.bootState == 3 then .next s
  else
    let c := s.hl.boot
    let h := if c.pending.isSome && 0 < c.trials then s.hl.setBoot (fun c => { c with trials := c.trials - 1 }) else s.hl
    let s : State := { s with hl := { h with romFails := h.romFails + 1 } }
    .next (if 4 ≤ s.hl.romFails then s.romRecoveryOp else s)

/-- ROM_RECOVERY (R142): no image verifies, FWRECOV# was sampled asserted, or the NOR does not answer. -/
def execRomRecovery (norDead : Bool) (s : State) : Out :=
  if !s.pwr.aon || s.pwr.modrst || s.hl.running || s.hl.bootState == 3 then .next s
  else if norDead || (!s.hl.good 0 && !s.hl.good 1) || (s.val O.strapTries != 0 && !bit (s.val O.strapSampled) 14) then .next s.romRecoveryOp
  else .next s

/-- The image on trial becomes the active one (R141). -/
def State.confirmOp (s : State) : State :=
  if s.hl.running && s.hl.bootState == 1 then
    { s with hl := ({ s.hl with bootState := 0 }).setBoot (fun c => { c with active := s.hl.image, pending := none, trials := 0 }) }
  else s

/-- TRIAL_IMAGE_CONFIRM: it has run for 30 s. -/
def execTrialImageConfirm (s : State) : Out :=
  if s.hl.running && s.hl.bootState == 1 then .next (s.until_ (s.hl.since + 30000000000)).confirmOp else .next s

/-- Mirror slots that are BUSY complete with a status (R207). -/
def State.endSlots (s : State) (status : Nat) : State :=
  let done (m : MSlot) : MSlot := if m.state == 1 then { m with state := 2, status := status, rspLen := 0, doneCount := (m.doneCount + 1) % 2 ^ 16 } else m
  let n := (s.mir.slots.filter (fun e => e.2.state == 1)).length
  let r := s.mir.requests + n
  { s with mir := { s.mir with slots := s.mir.slots.map (fun e => (e.1, done e.2)), order := [],
                               requests := r % 2 ^ 64, reqOvf := s.mir.reqOvf || decide (2 ^ 64 ≤ r) } }

/-- The Headland is reset (R129): sessions, transactions, locks and uncommitted values go; `crcOk` is the CRC of the
rotation queue in AON RAM (R722). -/
def State.headlandReset (s : State) (crcOk : Bool) : State :=
  let s := (s.bump O.hlResetCount).endSlots Od.abandoned
  let s := ((s.tearCal.tearFw).rotHeadlandReset crcOk).abortErases
  let s := (s.lotDrop 0).restore (fun k => !hardRwp k)
  let s := if s.seed.state == .off || s.seed.state == .formatting then s else s.setSeed (fun d => { d with state := .replaying })
  { s with
    hl := { s.hl with running := false, silentSince := s.now, romFails := 0, bootState := (if s.hl.bootState = 3 then 0 else s.hl.bootState) },
    dict := { banks := s.dict.banks, bankB := s.dict.bankB, nextTxn := s.dict.nextTxn, answers := s.dict.answers, mgrSent := s.dict.mgrSent,
              lastStart := s.dict.lastStart },
    hop := { key := s.hop.key, plca := s.hop.plca, frames := s.hop.frames },
    cal := { s.cal with unlockF := none, unlockH := none, hold := none, resetWaits := false },
    fc := { s.fc with fatalPending := [], fatalLog := s.stored.log },
    stw := { s.stw with base := [], holds := [], advice := [], portAt := [], portTries := [] } }

/-- HEADLAND_RESET (R129). The row names no trigger: it counts in HL_RESET_COUNT and sets no bit of RESET_CAUSE, which the watchdog,
the software reset and an activation set in their own rows (log entry 154). -/
def execHeadlandReset (crcOk : Bool) (s : State) : Out :=
  if s.pwr.aon && !s.pwr.modrst then .next (s.headlandReset crcOk) else .next s

/-- HL_WATCHDOG (R128): a calibration commit does not hold it back. -/
def execHlWatchdog (crcOk : Bool) (s : State) : Out :=
  if s.pwr.aon && !s.pwr.modrst && s.hl.running then .next (((s.raise Sc.hlWatchdog).cause 4).headlandReset crcOk) else .next s

/-- Groups a route holds locked (R183). -/
def State.lockHeld (s : State) (r : Route) : Nat :=
  match s.dict.locks.find? (fun e => e.1 == r) with
  | some e => if s.now < e.2.2 then e.2.1 else 0
  | none => 0

/-- The bit of a route in a Roles column. -/
def routeBit (r : Route) : Nat := match r with | .F => 0 | .H => 1 | .M => 2

/-- Another route holds the group of an index; LOCK_REQUEST is never locked (R183). -/
def State.groupLocked (s : State) (r : Route) (idx : Nat) : Bool :=
  idx != 0x1210 && [Route.F, Route.H, Route.M].any (fun q => !(q == r) && bit (s.lockHeld q) (idx / 0x1000))

/-- A write of object k by a route reaches running firmware, the route carries the role, and no other route holds the group
(R130, R168, R183). -/
def State.served (s : State) (route : Route) (k : Nat) : Bool :=
  s.hl.running && !s.groupLocked route (k / 256)
    && (match objRow? (k / 256) (k % 256) with | some row => bit row.roles (routeBit route) | none => false)

/-- A write of HL_RESET_REQUEST: the key resets the Headland, once a calibration commit has ended (R128, R131). -/
def State.hlResetOp (s : State) (key : Nat) (crcOk : Bool) : State × Nat :=
  if key != 0x4EAD0000 then (s, Od.keyWrong)
  else if s.cal.busy.isSome then ({ s with cal := { s.cal with resetWaits := true } }, 0)
  else ((s.cause 5).headlandReset crcOk, 0)

/-- HL_RESET_REQUEST. -/
def execHlResetRequest (route : Route) (key : Word32) (crcOk : Bool) (s : State) : Out :=
  .next (if s.served route 0x188301 then (s.hlResetOp key.toNat crcOk).1 else s)

/-- ROT_SUBMIT. -/
def execRotSubmit (route : Route) (data : List Byte) (s : State) : Out :=
  .next (if s.served route 0x620003 then (s.hlWork.rotSubmitOp route data).1 else s)

/-- FTL_REPLAY (R704), once SEED is on (R62): drafts are discarded, a block whose erase was aborted is erased again (R65), the last step of a KEEP reap
that was held up is taken (R721), and a JOIN_ACK that waited for the lot generation goes out (R682). -/
def execFtlReplay (us : Word32) (s : State) : Out :=
  if !(s.seed.state == .replaying && s.hl.running) then .next s
  else
    let s := if s.pwr.mode == .starting then s.until_ (s.pwr.powerAt.getD s.now) else s
    let s := s.dropDrafts true
    let s := s.setSeed (fun d => { d with state := .ready, blocks := startedBlocks d.blocks })
    .next (((s.setVal O.replayUs us.toNat).capacityCheck).keptAfterReplay).joinResume

/-! ### Plots (R132, R133, R159) -/

/-- Fence a plot: its program halts with TARGET_FENCED. -/
def State.fencePlot (s : State) (p : Nat) : State :=
  let x := s.plot p
  if x.state == .fenced then s
  else
    let s := if x.busy then (s.haltProgram x.furrow x.seq 0x40).settleStakes else s
    s.modPlot p (fun y => { y with state := .fenced, off := !x.powered, mask := 0 })

/-- A write of PLOT_FENCE, a set bit fences. -/
def State.plotFenceOp (s : State) (mask : Nat) : State := s.each (List.range 16) (fun s p => if bit mask p then s.fencePlot p else s)

/-- PLOT_FENCE. -/
def execPlotFence (route : Route) (mask : Half) (s : State) : Out :=
  .next (if s.served route 0x188503 then s.plotFenceOp mask.toNat else s)

/-- A descriptor names plot p: a program on it, or an end of data in its tilth or on its feeds. -/
def Desc.names (d : Desc) (p : Nat) : Bool :=
  match d.opcode with
  | 1 => (d.srcSpace == 2 && d.src / 2 ^ 28 == p) || (d.dstSpace == 2 && d.dst / 2 ^ 28 == p) || (d.paced && d.feedPlot == p)
  | 2 => bit d.plotMask p
  | 3 => d.bspace == 2 && d.buf / 2 ^ 28 == p
  | _ => false

/-- The next address of a transfer in the tilth of a plot that it names. -/
def Xfer.tilthVa (x : Xfer) (p : Nat) : Nat :=
  if x.d.srcSpace == 2 && x.d.src / 2 ^ 28 == p then x.byteVa false x.readPos else x.byteVa true x.pressPos

/-- Descriptors that name a plot and have not completed fail with TARGET_FENCED (R133), a program too whose part on that plot has
ended while other plots of its mask run it. -/
def State.failNaming (s : State) (p : Nat) : State :=
  let s : State := { s with g := { s.g with store := s.g.store.map (fun (x : Slot) => if Desc.names x.d p && !(x.state == .started) then { x with doomed := true } else x) } }
  let now := s.g.store.filter (fun (x : Slot) => Desc.names x.d p && x.state == .started && x.result.isNone)
  let s := s.each (now.filter (fun x => x.d.opcode == 3)) (fun s x => s.seedResult x.furrow x.seq 0x40 0 (doomedAddr x))
  let s := (s.each (now.filter (fun x => x.d.opcode == 2)) (fun s x => s.haltProgram x.furrow x.seq 0x40 (doomedAddr x))).settleStakes
  let hit (x : Xfer) : Xfer := if Desc.names x.d p && x.finished.isNone && x.endAt.isNone then { x with finished := some (0x40, x.tilthVa p) } else x
  s.each s.drill.rows (fun s r => (s.setRow r.1 { s.row r.1 with xfers := (s.row r.1).xfers.map hit }).settle r.1)

/-- A reset that covers a die releases its held sources (R749): LIVE and ESCALATED clear; a rail source whose pair still agrees
raises again at the next sample. -/
def State.releaseSources (s : State) (f : Nat → Bool) : State :=
  let isRail (n : Nat) : Bool := decide (0x0D0 ≤ n) && decide (n < 0x0F6)
  { s with fc := { s.fc with
      srcs := s.fc.srcs.map (fun (e : Nat × Src) => (e.1,
        if f e.1 then { e.2 with live := false, escalated := false, react := 0, window := none, quietFrom := none,
                                 cond := e.2.cond && !isRail e.1 }
        else e.2)),
      railFault := (List.range 38).foldl (fun m k => if f (0x0D0 + k) then setBit m k false else m) s.fc.railFault } }

/-- The sources of plot n: its own block and the rail sources of its die. -/
def plotSource (n k : Nat) : Bool :=
  (decide (Sc.plot n 0 ≤ k) && decide (k < Sc.plot n 0x40)) || k == 0x0D0 + 2 * n || k == 0x0D1 + 2 * n

/-- The sources of Tramline die d. -/
def tramSource (d k : Nat) : Bool :=
  (decide (Sc.tram d 0 ≤ k) && decide (k < Sc.tram d 0x40)) || k == 0x0D0 + 2 * (17 + d) || k == 0x0D1 + 2 * (17 + d)

/-- PLOT_RESET begins (R133, R159): fenced, gated, then woken. A plot held gated for want of sensors loses its fence and
stays gated (log entry 90). -/
def State.resetPlot (s : State) (p : Nat) : State :=
  let s := (s.fencePlot p).failNaming p
  let s := s.withdraw (fun w => match w with | .plot k _ => k == p | _ => false)
  let out := bit s.pwr.plotHeldOff p
  let s := if out then s.releaseSources (plotSource p) else s
  s.modPlot p (fun y => { Plot.cleared y s.now with state := (if out then .gated else .fenced), off := !out, rampQueued := !out, ramping := false,
                                                     resetting := !out, owner := y.owner, arith := y.arith, macs := y.macs, macsOvf := y.macsOvf })

/-- A write of PLOT_RESET: R159; outside Tilled and Sown it answers DOMAIN_OFF (log entry 90). -/
def State.plotResetOp (s : State) (mask : Nat) : State × Nat :=
  if !s.gcoreUp then (s, Od.domainOff)
  else if mask = 0 then (s, 0)
  else ((s.each (List.range 16) (fun s p => if bit mask p then s.resetPlot p else s)).cause 11, 0)

/-- PLOT_RESET. -/
def execPlotReset (route : Route) (mask : Half) (s : State) : Out :=
  .next (if s.served route 0x188502 then (s.plotResetOp mask.toNat).1 else s)

/-- A plot is ready (R76): tilth zero, sequencer reset, and after a plot reset its fence clear, what arrived for it meanwhile
having failed (R133). -/
def State.plotReady (s : State) (p : Nat) : State :=
  let x := s.plot p
  let s := if x.resetting then s.failNaming p else s
  let s := s.modPlot p (fun y => { y with
    state := (if x.state == .fenced && !x.resetting then .fenced else if x.mask != 0 then .loading else .idle),
    rampQueued := false, ramping := false, off := false, resetting := false, idleSince := s.now,
    tilth := [], poison := [], resident := [], prog := none, gcache := [], idx := [], loops := [], slots := [], pc := 0 })
  if x.resetting then s.releaseSources (plotSource p) else s

/-! ### Tramline dies (R134) -/

/-- A write of TRAM_RESET. -/
def State.tramResetOp (s : State) (mask : Nat) : State × Nat :=
  if 4 ≤ mask then (s, Od.range)
  else if !(s.pwr.mode == .up) then (s, Od.domainOff)
  else if mask = 0 then (s, 0)
  else ((s.each [0, 1] (fun s d => if bit mask d then s.resetDie d else s)).cause 12, 0)

/-- TRAM_RESET. -/
def execTramReset (route : Route) (mask : Byte) (s : State) : Out :=
  .next (if s.served route 0x188504 then (s.tramResetOp mask.toNat).1 else s)

end Sys2Proof.Machine
end

