-- ==== Sys2Proof/Machine/Power.lean ====
section
/-! DEFINITION. Power states, plot gating, clocks, the power envelope, the thermal limits, the calibration set and the
straps (chapters 2, 3 and 17: R60-R115, R143-R147, R818). -/

namespace Sys2Proof.Machine

/-! ### Domains (R66-R68) -/

/-- The seedbank has work for the firmware: a replay, a format, a lot command that waits, a started descriptor (R86). -/
def State.seedWork (s : State) : Bool :=
  s.seed.state == .replaying || s.seed.state == .formatting || s.seed.waiting.isSome || s.seedTouched

/-- The SEED domain is on: on demand, while the seedbank has work (R66, log entry 132), in a start-up not before the bulk capacitance
is charged (R62). -/
def State.seedOn (s : State) : Bool :=
  if s.pwr.mode == .starting && !s.startedFor 0 then false
  else match s.seed.state with
  | .off => false
  | .replaying => true
  | .formatting => true
  | _ => s.sowing.isSome || s.reaping.isSome || !s.seed.wrapped.isEmpty || s.seed.lots.any (fun e => e.2.draft.isSome) || s.seedTouched

/-- DOMAIN_ON. -/
def State.domainOn (s : State) : Nat :=
  b2n s.pwr.aon + 2 * b2n s.hbmOn + 4 * b2n s.glinkOn + 0x78 * b2n s.gcoreOn
  + 2 ^ 7 * b2n s.seedOn
  + ((List.range 16).map (fun n => if (s.plot n).powered then 2 ^ (8 + n) else 0)).foldl (· + ·) 0

/-- VREG_FAULT (R68). -/
def execVregFault (domain : Fin 24) (s : State) : Out := .next (s.raiseIf (bit s.domainOn domain) (Sc.vreg domain))

/-! ### Power requests and Fallow (R69-R74, R104, R105) -/

/-- The conditions of R70 that fail, bit c - 1 for condition c. -/
def State.fallowFails (s : State) : Nat :=
  b2n (!s.furrowsOn.isEmpty) + 2 * b2n (s.g.store.any (fun x => !(x.state == .unsown)))
  + 4 * b2n (s.drill.rows.any (fun r => !(r.2.state == .idle)))
  + 8 * b2n ((List.range 16).any (fun n => (s.plot n).powered || (s.plot n).rampQueued))
  + 16 * b2n (s.sowing.isSome || s.reaping.isSome)
  + 32 * b2n (!(s.slice.state == .none))
  + 64 * b2n (!(s.host.power == .d0))

/-- PWR_REQ_STATUS: state (0 idle, 1 done, 2 refused, 3 in progress) and failed conditions. -/
def State.reqStatus (s : State) (st fails : Nat) : State := s.setVal O.pwrReqStatus (st * 2 ^ 14 + fails)

/-- Ask every plot. -/
def State.askAll (s : State) : State := s.each (List.range 16) (fun s n => s.askPlot n)

/-- Request 3 is done once every plot is on. -/
def State.noteSown (s : State) : State :=
  if s.val O.pwrRequest = 3 && s.val O.pwrReqStatus = 3 * 2 ^ 14 && (List.range 16).all (fun n => (s.plot n).ready || bit s.pwr.plotHeldOff n) then
    s.reqStatus 1 0
  else s

/-- What PWR_REQUEST holds takes effect in Tilled or Sown. -/
def State.applyRequest (s : State) : State :=
  match s.val O.pwrRequest with
  | 1 =>
    let f := s.fallowFails
    if f = 0 then ({ s with pwr := { s.pwr with mode := .entering, entryAbandoned := false } } : State).reqStatus 3 0 else s.reqStatus 2 f
  | 2 => s.reqStatus 1 0
  | 3 => (s.askAll.reqStatus 3 0).noteSown
  | _ => s.reqStatus 0 0

/-- A write of PWR_REQUEST (R70, R71, R105). During start-up, during a wake and with the module off, for which the spec gives no
outcome, the value is stored and answered OK: Tilled takes a value of 2 or 3 up when it is reached, and after start-up a
request for Fallow too, while a wake overrides it (log entry 81). -/
def State.pwrRequestOp (s : State) (v : Nat) : State × Nat :=
  if 3 < v then (s, Od.range)
  else
    let s := s.setVal O.pwrRequest v
    match s.pwr.mode with
    | .up => (s.applyRequest, 0)
    | .fallow =>
      if 2 ≤ v then (if bit (s.val O.fallowWakeMask) 1 then (s.wakeEvent.reqStatus 3 0, 0) else (s, 0))
      else (s.reqStatus (if v = 1 then 1 else 0) 0, 0)
    | .entering =>
      if 2 ≤ v then (if bit (s.val O.fallowWakeMask) 1 then (s.wakeEvent.reqStatus 3 0, 0) else (s, 0)) else (s, 0)
    | .waking => (if v = 1 then s.reqStatus 0 0 else s.reqStatus (if v = 0 then 0 else 3) 0, 0)
    | _ => (s.reqStatus (if v = 0 then 0 else 3) 0, 0)

/-- PWR_REQUEST_WRITE. -/
def execPwrRequestWrite (route : Route) (val : Byte) (s : State) : Out :=
  .next (if s.served route 0x200002 then (s.pwrRequestOp val.toNat).1 else s)

/-- FALLOW_WAKE_EVENT (R71). -/
def execFallowWakeEvent (cause : Fin 4) (s : State) : Out :=
  .next (if bit (s.val O.fallowWakeMask) cause then s.wakeEvent else s)

/-- FALLOW_MASKED_EVENT (R72): a window request is refused, a request for Tilled or Sown stored, a timer's action deferred;
a frame is answered from AON or refused, which its own command does. -/
def execFallowMaskedEvent (e : FallowEvent) (s : State) : Out :=
  if !(s.pwr.mode == .fallow) then .next s
  else
    let m := s.val O.fallowWakeMask
    match e with
    | .window win write r => .next (if bit m 0 then s else s.refuseFallow win write r)
    | .request v => .next (if bit m 1 || 3 < v then s else s.setVal O.pwrRequest v)
    | .frame => .next s
    | .timer => .next (if bit m 3 || s.val O.wakeAfterS = 0 || s.now < s.pwr.fallowAt + s.val O.wakeAfterS * 1000000000 then s
        else { s with pwr := { s.pwr with deferredTimer := true } })

/-- Fallow is entered (R70, R516): GCORE, RTR and the Tramline dies go off with what they hold. -/
def State.enterFallow (s : State) : State :=
  let s := s.flushDcc (s.link.up && s.link.ltssm == .l0)
  let s := s.clearGcore.dropVolatile
  let s := s.each (List.range 16) (fun s k => s.setRg (Rg.cohWindow k) 0)
  ({ s with
     fab := {}, time := {}, mgr := {},
     coh := { s.coh with snoopFilter := [], outstanding := [], changing := [], waiting := [], scrubbing := [] },
     pwr := { s.pwr with mode := .fallow, fallowAt := s.now, entryAbandoned := false, lastRamp := none, holdover := s.pwr.holdover &&& 8 } } : State).reqStatus 1 0

/-! ### Plots (R75-R79, R106, R107) -/

/-- PLOT_WAKE_TRIGGER (R75). -/
def execPlotWakeTrigger (p : Fin 16) (s : State) : Out := .next (if s.pwr.mode == .up then s.askPlot p else s)

/-- PLOT_RAMP_START (R77, R107): the lowest plot that waits, 110 µs after the ramp before it, not while SHED# holds. -/
def execPlotRampStart (s : State) : Out :=
  if s.pwr.shed || !(s.pwr.mode == .up) then .next s
  else match (List.range 16).find? (fun n => (s.plot n).rampQueued && !(s.plot n).ramping) with
    | none => .next s
    | some n =>
      let s := match s.pwr.lastRamp with | some t => s.until_ (t + 110000) | none => s
      let s := s.modPlot n (fun y => { y with ramping := true, state := (if y.state == .gated then .waking else y.state) })
      .next { s with pwr := { s.pwr with lastRamp := some s.now } }

/-- PLOT_IDLE_GATE (R79): idle for PLOT_IDLE_TIMEOUT, its PLOT_HOLD bit clear. A fenced plot whose compute is on goes off and stays
fenced. -/
def execPlotIdleGate (p : Fin 16) (s : State) : Out :=
  let x := s.plot p
  let t := s.val O.plotIdleTimeout
  if (x.state == .idle || (x.state == .fenced && !x.off && !x.ramping)) && !x.busy && x.slots.isEmpty && t != 0
      && !bit (s.val O.plotHold) p then
    let s := s.until_ (x.idleSince + t * 1000)
    let g := s.gatePlot p
    .next (if x.state == .fenced then g.modPlot p (fun y => { y with state := .fenced, off := true }) else g)
  else .next s

/-- A write of PLOT_HOLD (R75): its bits keep plots on, and wake those that are gated. -/
def State.plotHoldOp (s : State) (mask : Nat) : State :=
  let s := s.setVal O.plotHold (mask % 65536)
  if s.pwr.mode == .up then s.each (List.range 16) (fun s n => if bit mask n then s.askPlot n else s) else s

/-- PLOT_HOLD_WRITE. -/
def execPlotHoldWrite (route : Route) (mask : Half) (s : State) : Out :=
  .next (if s.served route 0x200005 then s.plotHoldOp mask.toNat else s)

/-! ### Clocks (R80-R86) -/

/-- PLLs of the plots that are locked (R83): a plot's PLL locks while it ramps. -/
def State.plotPlls (s : State) : List Nat := (List.range 16).filter (fun n => (s.plot n).powered && !(s.plot n).ramping)

/-- RACKREF_LOST (R81, R84): Tick moves to the fallback, PLLs locked to the reference hold over. -/
def execRackrefLost (s : State) : Out :=
  if !s.pwr.refValid then .next s
  else
    let hold := b2n s.pllOn + 2 * b2n (s.pllOn && s.dieOn 0) + 4 * b2n (s.pllOn && s.dieOn 1) + 8 * b2n s.pwr.hfast
    let locked := hold != 0 || !s.plotPlls.isEmpty
    let s : State := { s with pwr := { s.pwr with refValid := false, tickRef := false, holdover := hold },
                              time := { s.time with state := (if s.time.state == .aligned then .holdover else s.time.state) } }
    .next (((s.bump O.tickSwitchCount).raise Sc.tickRefLost).raiseIf locked Sc.pllHoldover)

/-- RACKREF_RESTORED (R81, R84, R85): the reference has been valid for 1 ms. -/
def execRackrefRestored (s : State) : Out :=
  if s.pwr.refValid || !s.pwr.aon then .next s
  else
    .next ({ s with pwr := { s.pwr with refValid := true, refEver := true, refSince := s.now, tickRef := true, holdover := 0 } } : State).refreshPorts

/-- TICK_TRIM_UPDATE (R82): the trim measured against the reference, origin SELF. -/
def execTickTrimUpdate (trim : Word32) (s : State) : Out :=
  .next (if s.pwr.refValid && s.hl.running then s.setCal 0x2840 2 trim.toNat else s)

/-- RACKREF_ABSENT (R85). -/
def execRackrefAbsent (s : State) : Out := .next (s.raiseIf (!s.pwr.refEver && s.pwr.aon) Sc.rackrefAbsent)

/-- The firmware has work for the fast clock: a route operation waits, a fault record is on its way, a rotation runs, the seedbank has work (R86). -/
def State.hasWork (s : State) : Bool :=
  !s.mir.order.isEmpty || !s.dict.mgrQueue.isEmpty || !s.hop.waiting.isEmpty || !s.fc.staging.isEmpty || s.sowing.isSome || s.reaping.isSome || s.seedWork

/-- HFAST_IDLE_STOP (R86): HFAST_IDLE has passed without work. A clock that stops leaves holdover with its PLL. -/
def execHfastIdleStop (s : State) : Out :=
  if !s.pwr.hfast || !s.hl.running || s.hasWork then .next s
  else
    let s := s.until_ (s.pwr.hfastAt + s.val O.hfastIdle * 1000)
    .next { s with pwr := { s.pwr with hfast := false, holdover := s.pwr.holdover &&& 7 } }

/-- HFAST_START (R86): work arrives. -/
def execHfastStart (s : State) : Out := .next (if s.pwr.aon then s.hlWork else s)

/-! ### The power envelope (R60, R87-R91) -/

/-- The effective cap, in W (R89). -/
def State.effCap (s : State) : Nat := min (min (s.val O.powerCap) (if s.derate then 1200 else 2500)) s.pwr.thermCap

/-- The level that the limits other than SHED# set (R90, R91). -/
def State.otherLevel (s : State) : Nat :=
  max (max (if s.pwr.capHost then s.val O.hostThrottle else 0) s.pwr.capLevel)
    (max s.pwr.peakLevel (if s.pwr.orphan || s.pwr.sensorFloor then 16 else 0))

/-- THROTTLE_LEVEL: the level in force (R88, R90). -/
def State.throttle (s : State) : Nat := max s.otherLevel s.pwr.shedLevel

/-- CAP_REASON: the limits in force (R89). -/
def State.capReason (s : State) : Nat :=
  let c := s.effCap
  b2n (c < 2500 && s.val O.powerCap == c) + 2 * b2n (0 < s.pwr.peakLevel && !s.pwr.peakDuration)
  + 4 * b2n (0 < s.pwr.peakLevel && s.pwr.peakDuration) + 8 * b2n (s.pwr.shed || 0 < s.pwr.shedLevel) + 16 * b2n s.pwr.orphan
  + 32 * b2n ((s.pwr.thermCap < 2500 && s.pwr.thermCap == c) || s.pwr.sensorFloor) + 64 * b2n (s.derate && c == 1200)
  + 128 * b2n (s.pwr.capHost && 0 < s.val O.hostThrottle)

/-- The POWER cause follows a change of CAP_REASON (R333). -/
def State.noteReason (s : State) (old : Nat) : State := if s.capReason = old then s else s.attn At.power

/-- POWER_SUMMATION (R87, R90): readings at the input, package power and its average over CAP_WINDOW in mW, and the level that
the loop decides; in host-assisted mode, which the selector enters and leaves here (R785), only a thermal cap requires one. -/
def execPowerSummation (vin iin power avg : Nat) (level : Fin 17) (s : State) : Out :=
  if !s.pwr.aon || !s.hl.running then .next s
  else
    let old := s.capReason
    let s := s.hlAnswers
    let host := s.val O.splitCap == 1
    let e := s.pwr.energyFrac + power
    let sums := (power :: s.pwr.sums).take 10
    let gain := if s.val (calOrigin 0x2878) = 0 then avg * 105 / 100 else avg
    let above (w : Nat) : Bool := decide (w * 1000 < gain)
    let cap := if host then (if s.pwr.thermCap < 2500 && above s.pwr.thermCap then max 1 level.val else 0)
      else if above s.effCap then max 1 level.val else level.val
    let calm := decide (power ≤ 2500000)
    let s : State := { s with pwr := { s.pwr with energyFrac := e % 100000, sums := sums, capLevel := cap, capHost := host,
                                                   peakLevel := (if calm then 0 else s.pwr.peakLevel) } }
    let s := s.bumpBy O.pkgEnergy (e / 100000)
    let s := (s.setVal O.pkgPower (sums.foldl (· + ·) 0 / sums.length)).setVal O.vin vin
    let s := (s.setVal O.iin iin).setVal O.pin (vin * iin / 1000)
    let s := (s.setVal O.vinMin (min vin (s.val O.vinMin))).setVal O.iinMax (max iin (s.val O.iinMax))
    .next (s.noteReason old)

/-- PEAK_LIMIT (R87): the comparator acts without the Headland. -/
def execPeakLimit (duration : Bool) (level : Fin 17) (s : State) : Out :=
  if !s.pwr.aon then .next s
  else
    let old := s.capReason
    let s : State := { s with pwr := { s.pwr with peakLevel := max 1 level.val, peakDuration := duration } }
    .next (((s.bump O.peakEvents).raise Sc.peakLimit).noteReason old)

/-- HEADLAND_SILENT (R60, R109): more than 50 ms without an answer; the Gate holds the 600 W floor. -/
def execHeadlandSilent (s : State) : Out :=
  if s.pwr.orphan || !s.pwr.aon then .next s
  else
    let old := s.capReason
    let s := s.until_ (s.hl.silentSince + 50000001)
    let up := s.gcoreOn
    let s : State := { s with pwr := { s.pwr with orphan := true, silentDue := !up } }
    .next ((s.raiseIf up Sc.headlandSilent).noteReason old)

/-- SHED_ASSERT (R91): the floor. -/
def execShedAssert (s : State) : Out :=
  if s.pwr.shed || !s.pwr.aon then .next s
  else
    let s : State := { s with pwr := { s.pwr with shed := true, shedLevel := 16 } }
    .next ((((s.bump O.shedCount).bump O.signalChanges).raise Sc.shedActive).attn At.power)

/-- SHED_DEASSERT (R91): the release ramp starts; a ramp of 0 µs ends at once. -/
def execShedDeassert (s : State) : Out :=
  if !s.pwr.shed then .next s
  else
    let keep := s.val O.shedReleaseRamp != 0 && decide (s.otherLevel < 16)
    let s : State := { s with pwr := { s.pwr with shed := false, shedLevel := (if keep then 16 else 0), shedFrom := s.now, shedTo := s.otherLevel } }
    .next ((s.bump O.signalChanges).attn At.power)

/-- SHED_RELEASE_STEP (R91): one level less, in equal steps over SHED_RELEASE_RAMP, down to what the other limits set. -/
def execShedReleaseStep (s : State) : Out :=
  if s.pwr.shed || s.pwr.shedLevel = 0 then .next s
  else
    let old := s.capReason
    let l := s.pwr.shedLevel - 1
    let s := s.until_ (s.pwr.shedFrom + s.val O.shedReleaseRamp * 1000 * (16 - l) / (16 - s.pwr.shedTo))
    .next (({ s with pwr := { s.pwr with shedLevel := (if l ≤ s.otherLevel then 0 else l) } } : State).noteReason old)

/-! ### Thermal (R92-R96, R818) -/

/-- Throttle and alarm thresholds of a class, in 1/16 degree. -/
def State.thrAt (s : State) (c : Nat) : Int := sext 16 (s.val (O.thermThresh + 2 * c))
def State.alarmAt (s : State) (c : Nat) : Int := sext 16 (s.val (O.thermThresh + 2 * c + 1))

/-- THERM_THROTTLE (R94). -/
def execThermThrottle (sensor : Fin 90) (temp : Int) (s : State) : Out :=
  if !s.pwr.aon then .next s
  else
    let s := s.sense [(sensor.val, temp)]
    let c := thermClass sensor
    if s.reading sensor < s.thrAt c then .next s
    else
      let s : State := { s with pwr := { s.pwr with
        hot := setBit s.pwr.hot sensor true,
        capStepAt := (if s.pwr.capStepAt.isNone && decide (c ≤ 2) then some s.now else s.pwr.capStepAt),
        refresh2x := (if c = 1 then setBit s.pwr.refresh2x (sensor.val - 74) true else s.pwr.refresh2x),
        nandPause := s.pwr.nandPause || c == 3 } }
      let s := s.raise Sc.thermThrottle
      .next (if c = 4 then (s.raise Sc.thermAlarm).attn At.power else s)

/-- A sensor stands above its threshold, or has not yet fallen 2 degrees below it (R94). -/
def State.stillHot (s : State) (n : Nat) : Bool :=
  let t := s.thrAt (thermClass n)
  decide (t ≤ s.reading n) || (bit s.pwr.hot n && decide (t - 32 < s.reading n))

/-- THERM_CAP_STEP (R94): with the readings taken since, the effective cap goes down 100 W each 1 ms while hot, to the floor at
the lowest; else the thermal cap rises by 100 W each 10 ms. -/
def execThermCapStep (readings : List (Nat × Int)) (s : State) : Out :=
  if !s.pwr.aon then .next s
  else
    let old := s.capReason
    let s := s.sense readings
    let hot := (List.range 90).filter (fun n => s.stillHot n)
    let capping := hot.any (fun n => decide (thermClass n ≤ 2))
    let nand := [82, 83].any (fun n => decide (s.thrAt 3 ≤ s.reading n))
    let s := match s.pwr.capStepAt with
      | some t => s.until_ (t + (if capping then 1000000 else 10000000))
      | none => s
    let cap := if capping then max 600 (s.effCap - 100) else min 2500 (s.pwr.thermCap + 100)
    let s : State := { s with pwr := { s.pwr with
      hot := hot.foldl (fun m n => m + 2 ^ n) 0,
      refresh2x := (hot.filter (fun n => thermClass n == 1)).foldl (fun m n => m + 2 ^ (n - 74)) 0,
      nandPause := nand, thermCap := cap,
      capStepAt := (if !capping && cap = 2500 then none else some s.now) } }
    .next (s.noteReason old).lotResume

/-- THERM_ALARM (R94). -/
def execThermAlarm (sensor : Fin 90) (temp : Int) (s : State) : Out :=
  if !s.pwr.aon then .next s
  else
    let s := s.sense [(sensor.val, temp)]
    .next (if s.alarmAt (thermClass sensor) ≤ s.reading sensor then (s.raise Sc.thermAlarm).attn At.power else s)

/-- THERM_TRIP (R93, R95, R110): an optical engine that trips goes off with its port, which trains no more (log entry 155); a package trip takes every domain but AON and SEED off in hardware, asserts THERMTRIP# and
latches; SEED follows once its page programs are complete. A trip within the 3 ms of a brown-out's sequence latches all the
same. -/
def execThermTrip (sensor : Fin 90) (temp : Int) (s : State) : Out :=
  let dying := match s.pwr.brownAt with | some t => !s.pwr.aon && decide (s.now < t + 3000000) | none => false
  if !s.pwr.aon && !dying then .next s
  else
    let s := s.sense [(sensor.val, temp)]
    let c := thermClass sensor
    if s.reading sensor < (tripAt c : Int) then .next s
    else match c with
      | 3 => .next s.seedOffOp
      | 4 =>
        let k := sensor.val - 88
        let s := s.downPort (11 + k) 4 true true
        let y := s.port (11 + k)
        let s := if y.state == .ident then s.setPort (11 + k) { y with state := .training, lanes := 0 } else s
        .next { s with pwr := { s.pwr with opticalOff := setBit s.pwr.opticalOff k true } }
      | _ =>
        if s.pwr.tripped then .next s
        else
          let hl := s.hl
          let s := (s.raise Sc.thermTrip).setVal O.tripSensor sensor
          let s := if dying then s else (s.rotPowerLoss).goDark true
          .next { s with pwr := { s.pwr with tripped := true, tripBefore := true, tripClass := c }, hl := hl }

/-- SENSOR_FAILED (R96): it has stopped answering. -/
def execSensorFailed (sensor : Fin 90) (s : State) : Out :=
  .next (if s.pwr.aon then (s.failSensor sensor).noteReason s.capReason else s)

/-! ### Calibration (R98, R99, R113) -/

/-- The unlock of a route. -/
def State.unlocked (s : State) (r : Route) : Bool :=
  match r with | .F => s.cal.unlockF.isSome | .H => s.cal.unlockH.isSome | .M => false

/-- A write of CAL_UNLOCK (R98). -/
def State.calUnlockOp (s : State) (r : Route) (key : Nat) : State × Nat :=
  let put (s : State) (v : Option Nat) : State :=
    match r with
    | .F => { s with cal := { s.cal with unlockF := v } }
    | .H => { s with cal := { s.cal with unlockH := v } }
    | .M => s
  if r == .M then (s, Od.roleDenied)
  else if key = 0 then (put s none, 0)
  else if (match s.cal.hold with | some t => decide (s.now < t) | none => false) then (s, Od.keyHoldoff)
  else if key != 0x5EEDCA1B then ({ s with cal := { s.cal with hold := some (s.now + 10000000000) } }, Od.keyWrong)
  else (put s (some (s.now + 60000000000)), 0)

/-- CAL_UNLOCK. -/
def execCalUnlock (route : Route) (key : Word32) (s : State) : Out :=
  .next (if s.served route 0x280101 then (s.calUnlockOp route key.toNat).1 else s)

/-- CAL_UNLOCK_EXPIRY: the earliest of the unlocks and the hold-off ends. -/
def execCalUnlockExpiry (s : State) : Out :=
  let ends := s.cal.unlockF.toList ++ s.cal.unlockH.toList ++ s.cal.hold.toList
  match ends with
  | [] => .next s
  | t :: ts =>
    let s := s.until_ (ts.foldl min t)
    let left (o : Option Nat) : Option Nat := match o with | some t => if t ≤ s.now then none else some t | none => none
    .next { s with cal := { s.cal with unlockF := left s.cal.unlockF, unlockH := left s.cal.unlockH, hold := left s.cal.hold } }

/-- A write of CAL_COMMIT (R99, R113). -/
def State.calCommitOp (s : State) (r : Route) (v : Nat) : State × Nat :=
  if !s.unlocked r then (s, Od.locked)
  else if v != 1 then (s, Od.range)
  else if s.cal.busy.isSome then (s, Od.busy)
  else (({ s with cal := { s.cal with busy := some s.now } } : State).setVal O.calCommitStatus 1, 0)

/-- CAL_COMMIT. -/
def execCalCommit (route : Route) (val : Word32) (s : State) : Out :=
  .next (if s.served route 0x280005 then (s.calCommitOp route val.toNat).1 else s)

/-- CAL_COMMIT_DONE (R99): the set in use is stored under a new CRC, items written since the commit was asked for included (log
entry 88); a software reset that waited takes place (R131). -/
def execCalCommitDone (s : State) : Out :=
  match s.cal.busy with
  | none => .next s
  | some _ =>
    let set := calItems.map (fun i => (i, s.val (calOrigin i), s.val (calValue i)))
    let d := s.draw
    let wait := s.cal.resetWaits
    let s : State := { d.2 with cal := { s.cal with busy := none, stored := set, crcOk := true, crc := some (d.1 % 2 ^ 32), resetWaits := false } }
    let s := ((s.setVal O.calCommitStatus 2).setVal O.calState 0).setVal O.calCrc (d.1 % 2 ^ 32)
    let s := s.bump O.calCommits
    .next (if wait then (s.cause (if s.fw.status == .activating then 6 else 5)).headlandReset true else s)

/-! ### Straps (R143-R147) -/

/-- The first try whose four readings of every pin agree, of at most 16 (R144). -/
def firstStable : Nat → List (List Nat) → Nat → Option (Nat × Nat)
  | _, [], _ => none
  | 0, _, _ => none
  | n + 1, t :: ts, k =>
    match t with
    | a :: as => if t.length = 4 && as.all (fun b => b % 2 ^ 15 == a % 2 ^ 15) then some (a % 2 ^ 15, k) else firstStable n ts (k + 1)
    | [] => firstStable n ts (k + 1)

/-- Even parity over RACK, SLED and SPAR (R145). -/
def parityOk (v : Nat) : Bool := ((List.range 11).filter (fun k => bit v (2 + k))).length % 2 == 0

/-- STRAP_SAMPLE (R144-R146): four readings a try, up to 16 tries, once a start has AON on, held back by a trip or not. -/
def execStrapSample (tries : List (List Nat)) (s : State) : Out :=
  if !s.pwr.aon || s.pwr.modrst || s.val O.strapTries != 0 then .next s
  else
    let last := (((tries.take 16).getLastD []).getLastD 0) % 2 ^ 15
    let put (s : State) (v addrOk status n : Nat) : State :=
      let s := ((s.setVal O.strapSampled v).setVal O.pkgAddr (fld v 11 6 * 64 + fld v 5 2 * 4 + fld v 1 0)).setVal O.pkgAddrValid addrOk
      let s := ((s.setVal O.t1sNode (fld v 1 0 + 1)).setVal O.hostMode (1 - fld v 13 13)).setVal O.strapStatus status
      let s := s.setVal O.strapTries n
      { s with pwr := { s.pwr with pins := last } }
    match firstStable 16 tries 1 with
    | some (v, k) =>
      if parityOk v then .next (put s v 1 0 k) else .next ((put s v 0 2 k).raise Sc.strapParity)
    | none =>
      if tries.length < 16 then .next s
      else
        let d := s.draw
        .next ((put d.2 (d.1 % 2 ^ 13 + 2 ^ 13 + 2 ^ 14) 0 1 16).raise Sc.strapUnstable)

/-- STRAP_CHANGED (R147): flagged and ignored, unless the pin is a general-purpose input. -/
def execStrapChanged (pin : Fin 15) (s : State) : Out :=
  if !s.pwr.aon || s.val O.strapTries = 0 then .next s
  else
    let s : State := { s with pwr := { s.pwr with pins := setBit s.pwr.pins pin (!bit s.pwr.pins pin) } }
    if bit (s.val O.gpEnable) pin then .next s
    else .next ((s.setVal O.strapChanged (s.val O.strapChanged ||| 2 ^ pin.val)).raise Sc.strapChanged)

/-- HBM training, and the ending of start-up (R135, R136): lost items are learned, Tilled is reported. -/
def State.trainingDone (s : State) (learned : List (Nat × Nat)) : State :=
  let s := s.until_ (s.pwr.powerAt.getD s.now + 2300000)
  let lost := (List.range 8).any (fun k => s.val (calOrigin (0x2830 + k)) == 0)
  let s := s.each (0x281E :: (List.range 8).map (fun k => 0x2830 + k)) (fun s i => s.learn learned i)
  let s : State := { s with pwr := { s.pwr with mode := .up } }
  ((s.setVal O.hbmTrainSource (b2n lost)).setVal O.startPhase 5).setVal O.startTime ((s.now - s.pwr.startAt) / 1000 % 2 ^ 32)

end Sys2Proof.Machine
end

