-- ==== Sys2Proof/Machine/Collector.lean ====
section
/-! DEFINITION. The fault collector (chapter 15, R734-R783): registration and classification of events, reactions, records,
the internal queue, the host ring, force injection, and entry to Frozen (R313-R315). -/

namespace Sys2Proof.Machine

/-! ### Sources -/

/-- CFG of a source in force, without its constant bits (R745, R781). -/
def State.srcCfg (s : State) (n : Nat) : Nat := s.val ((0x7100 + n) * 256 + 6)
def State.srcBase (s : State) (n : Nat) : Nat := fld (s.srcCfg n) 1 0
def State.srcReaction (s : State) (n : Nat) : Nat := fld (s.srcCfg n) 4 2
def State.srcRecord (s : State) (n : Nat) : Bool := bit (s.srcCfg n) 5
def State.srcEscTo (s : State) (n : Nat) : Nat := fld (s.srcCfg n) 7 6
def State.srcEscCount (s : State) (n : Nat) : Nat := fld (s.srcCfg n) 15 8
/-- ESC_WINDOW_MS and QUIET_MS, in ns. -/
def State.srcWindow (s : State) (n : Nat) : Nat := fld (s.srcCfg n) 31 16 * 1000000
def State.srcQuiet (s : State) (n : Nat) : Nat := fld (s.srcCfg n) 47 32 * 1000000

/-- The class in force: the higher of the base class and, while escalated, ESC_TO (R744). -/
def State.classInForce (s : State) (n : Nat) (escalated : Bool) : Nat :=
  max (s.srcBase n) (if escalated then s.srcEscTo n else 0)

/-- A class by its code. -/
def clsOf (n : Nat) : Cls := match n with | 0 => .corrected | 1 => .contained | _ => .fatal

/-- Groups of sources (R735). -/
def isPlotSrc (n : Nat) : Bool := decide (0x300 ≤ n) && decide (n < 0x700)
def isTramSrc (n : Nat) : Bool := decide (0x780 ≤ n) && decide (n < 0x800)
def isRailSrc (n : Nat) : Bool := decide (0x0D0 ≤ n) && decide (n < 0x0F6)

/-- DIE of a source (R754); for a UCIe source the die that sent the event, and a free value where no die sent one, as when it is
forced or FC_REACT names it (log entry 165). -/
def dieOf (n : Nat) (sent : Option Nat) : Nat :=
  if isRailSrc n then (n - 0x0D0) / 2
  else if n < 0x060 then 20
  else if n < 0x080 then 19
  else if n < 0x0C0 then 20
  else if n < 0x100 then 19
  else if n < 0x280 then 16
  else if n < 0x300 then sent.getD (Config.ucieDie n % 32)
  else if n < 0x700 then (n - 0x300) / 0x40
  else if n < 0x780 then 21 + (n - 0x700) / 0x10
  else if n < 0x7C0 then 17 else 18

/-! ### Entry to Frozen (R313-R315) -/

/-- A row with descriptors in flight goes to ERROR, and they fail with HOST_FROZEN (R315). -/
def State.freezeRow (s : State) (r : Nat) : State :=
  let x := s.row r
  if x.xfers.isEmpty then s
  else
    let x : Row := if x.state == .parked then { x with state := x.before } else x
    let hit (y : Xfer) : Xfer := if y.finished.isNone then { y with finished := some (0x33, 0) } else y
    let s := s.setRow r { x with state := (if x.state == .stopping then .active else x.state), xfers := x.xfers.map hit }
    if s.rowOwner r = 1 then s.settle r
    else
      let s := s.each (s.row r).xfers (fun s y => match y.src with
        | .furrow n q => s.completeFurrow r y n q ((y.finished.getD (0x33, 0)).1) 0
        | _ => s.popXfer r y)
      (s.setRow r { s.row r with state := .error, code := 0x33 }).attn At.rowError

/-- A freeze cause is registered: bit 0 SOFTWARE, 1 GATE_UE, 2 FAULT_REACTION, 3 PACKAGE_FENCED.  On entry the posted queue and
what is held with it is discarded and counted, Plat's caches are flushed, outstanding requests are abandoned. -/
def State.freezeOp (s : State) (cause : Nat) : State :=
  let s := s.setRg Rg.freezeCause (s.rg Rg.freezeCause ||| 2 ^ cause)
  if s.host.frozen then s
  else
    let d := s.discardPosted
    let n := s.rg Rg.freezeDiscards + d.2
    let s := d.1.setRg Rg.freezeDiscards (n % 2 ^ 64)
    let s := if n < 2 ^ 64 then s else s.setRg Rg.hostErrOvf (s.rg Rg.hostErrOvf ||| 1)
    let s := s.flushPlat.abandonTags
    let s : State := { s with
      plat := { s.plat with walks := [] },
      g := { s.g with furrows := (s.g.furrows.map (fun (e : Nat × Furrow) => (e.1, { e.2 with shadowQueued := false }))).filter (fun e => decide (e.2 ≠ {})) },
      host := { s.host with frozen := true, frozenSinceFlr := s.host.inFlr },
      fc := { s.fc with inFlight := [] } }
    let s := (s.raise Sc.hostFrozen).bump O.freezes
    s.each (s.drill.rows.map (fun e => e.1)) (fun s r => s.freezeRow r)

/-! ### Reactions (R751-R753) -/

/-- The record that a FAULT_REPORT carries: the event's own, or where it made none, one built from the first-error capture with
LOST 0xFFFF (R766). -/
def State.reportRecord (s : State) (n : Nat) (r : Option Record) : Option Record :=
  match r with
  | some r => some r
  | none => (s.src n).first.map (fun (r : Record) => { r with lost := 0xFFFF })

/-- An ACTIVE member reports a fault and halts (R670, R753). -/
def State.memberFault (s : State) (r : Option Record) : State :=
  if s.slice.state == .active then (s.report 1 0 r).haltMember 1 s.addr else s

/-- Job halt (R753): the manager hears of it and the member halts; a program on the source's plot fails with DEVICE_UE. -/
def State.jobHalt (s : State) (n : Nat) (r : Option Record) : State :=
  let s := s.memberFault (s.reportRecord n r)
  if isPlotSrc n then
    let x := s.plot ((n - 0x300) / 0x40)
    if x.busy then (s.haltProgram x.furrow x.seq 0x61).settleStakes else s
  else s

/-- What a package fence does but for its job halt (R752). -/
def State.fencePackage (s : State) : State :=
  let s := (s.plotFenceOp 0xFFFF).freezeOp 3
  let s : State := { s with fc := { s.fc with packageFenced := true } }
  s.each (s.rot.entries.filter (fun e => e.uncommitted)) (fun s e => (s.dropDraft e.lot).endEntry e.ticket true 0x318)

/-- The reset of a Tramline die by the collector, unless it is in reset (R134, R161). -/
def State.reactDieReset (s : State) (d : Nat) : State :=
  if s.fab.dieReset.contains d then s else (s.cause 12).resetDie d

/-- The plot, and the Tramline die, that a source's reaction acts on. -/
def srcPlot (n : Nat) : Nat := if isRailSrc n then (n - 0x0D0) / 2 else (n - 0x300) / 0x40
def srcTram (n : Nat) : Nat := if isRailSrc n then (n - 0x0D0) / 2 - 17 else (n - 0x780) / 0x40

/-- Take a reaction by its code (R751, R754): 6 the fatal reset of a Tramline die, 7 the power and thermal sequences, which run of
themselves. -/
def State.react (s : State) (n code : Nat) (r : Option Record) : State :=
  match code with
  | 1 => s.jobHalt n r
  | 2 => s.fencePlot (srcPlot n)
  | 3 => s.reactDieReset (srcTram n)
  | 4 => s.freezeOp 2
  | 5 =>
    let s := s.jobHalt n r
    if s.fc.packageFenced then s else s.fencePackage
  | 6 => (s.jobHalt n r).reactDieReset (srcTram n)
  | _ => s

/-- REACTED (R742): the effect of the source's latest reaction still holds. -/
def State.reacted (s : State) (n : Nat) : Bool :=
  match (s.src n).react with
  | 1 => s.slice.state == .halted
  | 2 => (s.plot (srcPlot n)).state == .fenced
  | 3 => s.fab.dieReset.contains (srcTram n)
  | 4 => s.host.frozen
  | 5 => s.fc.packageFenced
  | 6 => s.fab.dieReset.contains (srcTram n)
  | _ => false

/-- The reaction a class takes for a source (R750, R751). -/
def State.reactionFor (s : State) (n cls : Nat) : Nat :=
  match cls with
  | 0 => 0
  | 1 =>
    let fixed := match srcInfo n with | some i => i.fixed | none => false
    if s.fc.mode && !fixed then 0 else s.srcReaction n
  | _ => if n = 0 || n = 1 || n = 0x22 then 7 else if isTramSrc n then 6 else 5

/-! ### Staging (R755, R756) -/

/-- The staging FIFO has had a free entry once more. -/
def Collector.unstage (c : Collector) (st : List StagingEntry) : Collector :=
  { c with staging := st, stagingArmed := c.stagingArmed || decide (st.length < 64) }

/-- A record finds the staging FIFO full: it is lost (R756). -/
def State.stagingLoss (s : State) (n : Nat) : State :=
  let s := (s.srcLost n).fcLostOne
  let armed := s.fc.stagingArmed
  let s : State := { s with fc := { s.fc with stagingFull := true, stagingArmed := false } }
  s.raiseIf armed Sc.fcStagingFull

/-- Take a staging entry; answers whether there was room. -/
def State.stage (s : State) (e : StagingEntry) : State × Bool :=
  if 64 ≤ s.fc.staging.length then (s.stagingLoss e.r.source, false)
  else ({ s with fc := { s.fc with staging := s.fc.staging ++ [e] } }, true)

/-- An event joins the pending record of its source (R755, R778). -/
def joinRecord (old new : Record) : Record :=
  { old with
    rep := old.rep + 1, firstError := old.firstError || new.firstError,
    cls := (if old.cls.code < new.cls.code then new.cls else old.cls),
    escalated := old.escalated || new.escalated,
    reaction := (if new.reaction = 0 then old.reaction else new.reaction) }

/-- Put an event's record where it goes; answers the record it stands in. `now` makes a new entry eligible at once. -/
def State.placeRecord (s : State) (n : Nat) (r : Record) (now : Bool) : State × Option Record :=
  if !s.srcRecord n then (s, none)
  else match s.fc.staging.find? (fun e => e.latch && e.r.source == n) with
    | some e =>
      let j := joinRecord e.r r
      let raised := decide (e.r.cls.code < r.cls.code)
      if raised && r.cls == .fatal then
        let s : State := { s with fc := { s.fc.unstage (s.fc.staging.filter (fun x => !(x.latch && x.r.source == n))) with due := s.fc.due ++ [j] } }
        (s.setSrc n { s.src n with pending := false }, some j)
      else
        ({ s with fc := { s.fc with staging := s.fc.staging.map (fun (x : StagingEntry) =>
            if x.latch && x.r.source == n then { x with r := j, now := x.now || raised } else x) } }, some j)
    | none =>
      if r.cls == .fatal then ({ s with fc := { s.fc with due := s.fc.due ++ [r] } }, some r)
      else
        let p := s.stage { r := r, now := now }
        if p.2 then (p.1.setSrc n { p.1.src n with pending := true }, some r) else (p.1, none)

/-! ### Registration (R742-R750) -/

/-- The escalation window after an event (R747): whether the event escalates the source, and the window left open. -/
def State.countWindow (s : State) (n : Nat) (x : Src) : Bool × Option (Nat × Nat) :=
  if s.fc.mode || s.srcEscCount n = 0 || x.escalated then (false, none)
  else
    let w : Nat × Nat := match x.window with
      | some (t, c) => if s.now < t + s.srcWindow n then (t, c + 1) else (s.now, 1)
      | none => (s.now, 1)
    if s.srcEscCount n ≤ w.2 then (true, none) else (false, some w)

/-- A source's state after an event (R742, R743, R748); `r` is the event's record. -/
def Src.onEvent (x : Src) (i : SrcInfo) (now : Nat) (escalated : Bool) (window : Option (Nat × Nat)) (r : Record) : Src :=
  let holds := i.level && (x.cond || x.forcedCond)
  let live := x.live || i.byReset || !i.level || holds
  { x with
    sticky := true, live := live,
    escalated := escalated, window := window,
    events := (x.events + 1) % 2 ^ 32, eventsOvf := x.eventsOvf || decide (2 ^ 32 ≤ x.events + 1),
    first := (if x.first.isNone then some { r with firstError := true, live := live } else x.first),
    react := (if r.reaction = 0 then x.react else r.reaction),
    quietFrom :=
      if i.byReset || holds then none
      else some (now, !i.level || escalated || (match x.quietFrom with | some q => q.2 | none => false)) }

/-- Register an event: state, class, reaction, record (R734, R741). A level source whose condition holds already raises
nothing more (R736); `start` marks the start of a condition. -/
def State.registerEvent (s : State) (e : Event) (start : Bool := true) : State :=
  let n := e.source
  match srcInfo n with
  | none => s
  | some i =>
    let x := s.src n
    let held := x.cond || x.forcedCond
    let s := if i.level && start then
        s.setSrc n (if e.forced then { x with forcedCond := true } else { x with cond := true })
      else s
    if i.level && start && held then s
    else
      let x := s.src n
      let w := s.countWindow n x
      let escalated := x.escalated || w.1
      let c := s.classInForce n escalated
      let code := s.reactionFor n c
      let r : Record :=
        { source := n, cls := clsOf c, escalated := escalated, forced := e.forced, rail := isRailSrc n, reaction := code, cap := e.cap,
          time := s.rackTime, timeAligned := s.time.state == .aligned, firstError := x.first.isNone, die := dieOf n e.cap.die }
      let s := s.setSrc n (x.onEvent i s.now escalated w.2 r)
      let s := if 2 ≤ c then
          let s : State := { s with fc := { s.fc with fatalSeen := s.fc.fatalSeen.filter (fun f => e.forced || f.1 != r.die) } }
          s.setVal O.lastFatal n
        else s
      let p := s.placeRecord n r (w.1 && c != s.classInForce n false)
      p.1.react n code p.2

/-- The capture an operand describes. -/
def evOf (a : EvArg) : Event :=
  { source := a.source % 2048, cap := { access := a.access, masterKind := a.masterKind, master := a.master, addr := a.addr, die := a.die } }

/-- The AER bits of an event that the link or the Gate reports (R306); which of the errors that share a source it is is a free
value, as is the header of a TLP that was discarded. -/
def State.linkAer (s : State) (n : Nat) : State :=
  let pick (l : List Nat) : Nat := l.getD (Config.freeValue s.free % l.length) 0
  if n = Sc.hostLinkCe then ({ s with free := s.free + 1 } : State).aerCorr (pick [0, 6, 7, 8, 12])
  else if n = Sc.hostLinkUe then ({ s with free := s.free + 1 } : State).aer (pick [4, 13, 17, 18, 19]) false (s.cplHeader 0 0 false)
  else if n = Sc.hostInternalCe then s.aerCorr 14
  else if n = Sc.hostInternalUe then (s.aer Ue.internal).freezeOp 1
  else s

/-- An uncorrectable ECC error found on a read marks its granule of HBM or tilth (R309); a stack reports its own addresses (R37). -/
def State.eccMark (s : State) (a : EvArg) : State :=
  let n := a.source % 2048
  match a.addr with
  | none => s
  | some x =>
    if a.access = 2 then s
    else if 0x700 ≤ n && n < 0x780 && n % 0x10 = 1 && x < hbmBytes && stackOf x = (n - 0x700) / 0x10 then s.setHbm (s.hbmStore.1, kvSet false s.hbmStore.2 (x / 64) true)
    else if isPlotSrc n && n % 0x40 = 1 && x < 2 ^ 28 then
      let p := (n - 0x300) / 0x40
      s.setTilth p ((s.tilthStore p).1, kvSet false (s.tilthStore p).2 (x / 64) true)
    else s

/-- An uncorrectable internal error of a plot, of its beds, its units, its private store or its router, ends its program with
DEVICE_UE (chapter 12). -/
def State.plotError (s : State) (n : Nat) : State :=
  if isPlotSrc n && [2, 3, 4, 5, 6, 8].contains (n % 0x40) then
    let x := s.plot ((n - 0x300) / 0x40)
    if x.busy then (s.haltProgram x.furrow x.seq 0x61).settleStakes else s
  else s

/-- FAULT_EVENT (R741). The collector works in every state in which AON is on (R734). -/
def execFaultEvent (e : Option EvArg) (s : State) : Out :=
  if !s.pwr.aon then .next s
  else match e with
    | some a => .next ((((s.linkAer (a.source % 2048)).eccMark a).plotError (a.source % 2048)).registerEvent (evOf a))
    | none => match s.fc.ring with
      | [] => .next s
      | x :: xs => .next (({ s with fc := { s.fc with ring := xs } } : State).registerEvent x)

/-! ### Conditions, windows and quiet time (R747, R748) -/

/-- A level source's condition ends: LIVE follows it, and the quiet time begins. -/
def State.conditionEnd (s : State) (n : Nat) (forced : Bool) : State :=
  match srcInfo n with
  | none => s
  | some i =>
    let x := s.src n
    if !i.level || !(if forced then x.forcedCond else x.cond) then s
    else
      let x : Src := if forced then { x with forcedCond := false } else { x with cond := false }
      if x.cond || x.forcedCond || i.byReset then s.setSrc n x
      else s.setSrc n { x with live := false, quietFrom := some (s.now, true) }

/-- What the state shows of a level source's condition. -/
def State.condHolds (s : State) (n : Nat) : Bool :=
  if isRailSrc n then bit s.fc.railFault (n - 0x0D0)
  else if n = Sc.shedActive then s.pwr.shed
  else if n = Sc.thermThrottle then s.pwr.hot != 0
  else if n = Sc.thermAlarm then (List.range 90).any (fun k => decide (s.alarmAt (thermClass k) ≤ s.reading k))
  else if n = Sc.tickRefLost then !s.pwr.tickRef
  else if n = Sc.rackrefAbsent then !s.pwr.refEver
  else if n = Sc.pllHoldover then s.pwr.holdover != 0
  else if n = Sc.seedThermOff then s.seed.state == .off
  else if n = Sc.hostFrozen then s.host.frozen
  else if n = Sc.tram 0 4 || n = Sc.tram 1 4 then s.fab.ports.any (fun e => srcTram n == portDie e.1 && e.2.marginal)
  else false

/-- LEVEL_CONDITION_END: of a condition that holds no more. -/
def execLevelConditionEnd (source : Fin 2048) (s : State) : Out :=
  .next (if s.condHolds source then s else s.conditionEnd source false)

/-- ESC_WINDOW_CLOSE: ESC_WINDOW_MS have passed without the count. -/
def execEscWindowClose (source : Fin 2048) (s : State) : Out :=
  match (s.src source).window with
  | none => .next s
  | some w =>
    let s := s.until_ (w.1 + s.srcWindow source)
    .next (s.setSrc source { s.src source with window := none })

/-- SOURCE_QUIET: QUIET_MS have passed since the quiet time began. -/
def execSourceQuiet (source : Fin 2048) (s : State) : Out :=
  match (s.src source).quietFrom with
  | none => .next s
  | some q =>
    let s := s.until_ (q.1 + s.srcQuiet source)
    let x := s.src source
    .next (s.setSrc source { x with
      live := false, escalated := false, window := none, quietFrom := none,
      recoveries := (x.recoveries + b2n q.2) % 2 ^ 16, recoveriesOvf := x.recoveriesOvf || decide (2 ^ 16 ≤ x.recoveries + b2n q.2) })

/-! ### Rails (R739-R741) -/

/-- The power domain of die d is on. -/
def State.railDieOn (s : State) (d : Nat) : Bool :=
  if d < 16 then (s.plot d).powered
  else s.gcoreOn

/-- A FATAL pair goes asserted: the fatal reaction begins at the sample (R741, R751).  A package's slice halts once the source is
registered, whose record the report carries (log entry 133). -/
def State.fatalSample (s : State) (d : Nat) : State :=
  if bit s.fc.fatalHigh d then s
  else
    let s : State := { s with fc := { s.fc with fatalHigh := setBit s.fc.fatalHigh d true, fatalSeen := s.fc.fatalSeen ++ [(d, s.now)] } }
    if 17 ≤ d then (s.jobHalt (Sc.tram (d - 17) 0x3F) none).reactDieReset (d - 17)
    else if s.fc.packageFenced then s else s.fencePackage

/-- RAIL_SAMPLE. -/
def execRailSample (die : Fin 19) (fatalPair p n : Bool) (s : State) : Out :=
  if !s.pwr.aon then .next s
  else
    let k := 2 * die.val + b2n fatalPair
    let src := 0x0D0 + k
    let clear (s : State) : State :=
      let c : Collector := { s.fc with railAgreed := setBit s.fc.railAgreed k false, railFault := setBit s.fc.railFault k false,
                                       fatalHigh := (if fatalPair then setBit s.fc.fatalHigh die (s.railDieOn die && p && !n) else s.fc.fatalHigh) }
      ({ s with fc := c } : State).conditionEnd src false
    if !s.railDieOn die then
      let on := s.fc.railOn.filter (fun e => e.1 != die.val)
      let s := clear s
      .next { s with fc := { s.fc with railOn := on } }
    else match kvFind s.fc.railOn die with
      | none => .next { s with fc := { s.fc with railOn := kvPut s.fc.railOn die s.now } }
      | some t =>
        if s.now < t + 10000 then .next s
        else
          let forced := bit (s.val O.forceRail) k
          let lvl := bit (s.val O.railLevel) k
          let p := if forced then lvl else p
          let n := if forced then lvl else n
          if p == n then
            if bit s.fc.railAgreed k && !bit s.fc.railFault k then
              let s : State := { s with fc := { s.fc with railFault := setBit s.fc.railFault k true } }
              .next (s.registerEvent { source := src })
            else .next { s with fc := { s.fc with railAgreed := setBit s.fc.railAgreed k true } }
          else
            let s := if fatalPair && p then s.fatalSample die else s
            .next (clear s)

/-- FATAL_UNSPEC (R741): 2 µs after the sample. -/
def execFatalUnspec (die : Fin 19) (s : State) : Out :=
  match s.fc.fatalSeen.find? (fun f => f.1 == die.val) with
  | none => .next s
  | some f =>
    let s := s.until_ (f.2 + 2000)
    .next (s.registerEvent { source := (if die.val < 16 then Sc.plot die 0x3F else if die.val = 16 then Sc.gateFatalUnspec else Sc.tram (die.val - 17) 0x3F) })

/-! ### The record writer and the internal queue (R754-R757) -/

/-- Corrected and contained records in the internal queue. -/
def State.plainQueued (s : State) : Nat := (s.fc.queue.filter (fun r => !(r.cls == .fatal))).length

/-- A record enters the internal queue, or is dropped or lost (R757). -/
def State.enterQueue (s : State) (r : Record) : State :=
  let n := r.source
  if r.cls == .fatal && 1024 ≤ s.fc.queue.length then
    let s : State := { s with fc := { s.fc with fatalLost := true } }
    (((s.srcLost n).bump O.fatalLostCount).raise Sc.fcFatalLost).setVal O.lastFatal n
  else if !(r.cls == .fatal) && (1008 ≤ s.plainQueued || 1024 ≤ s.fc.queue.length) then
    let s := s.srcLost n
    let armed := s.fc.queueArmed
    let s : State := { s with fc := { s.fc with
      dropped := (s.fc.dropped + 1) % 2 ^ 64, droppedOvf := s.fc.droppedOvf || decide (2 ^ 64 ≤ s.fc.dropped + 1),
      queueOvf := true, ovfNext := true, queueArmed := false } }
    s.raiseIf armed Sc.fcQueueOvf
  else
    let x := s.src n
    let q := s.fc.seq
    let r : Record := { r with seq := some q, lost := min x.lostSince 0xFFFF, live := x.live, ovf := s.fc.ovfNext, rep := min r.rep 0xFFFF }
    let first := if r.firstError then x.first.map (fun (f : Record) => if f.seq.isNone then { f with seq := some q } else f) else x.first
    let s := s.setSrc n { x with lostSince := 0, lastAt := some (s.now / 320), first := first }
    let s : State := { s with fc := { s.fc with
      queue := s.fc.queue ++ [r], seq := (q + 1) % 2 ^ 31, ovfNext := false,
      fatalPending := (if r.cls == .fatal && s.hl.running then s.fc.fatalPending ++ [r] else s.fc.fatalPending) } }
    (if s.hl.running then s.hlWork else s).bump O.records7000

/-- When a staging entry is eligible, in ns: at once, or REC_SPACING Tick cycles after its source's previous record. -/
def State.eligibleAt (s : State) (e : StagingEntry) : Nat :=
  if e.now then 0
  else match (s.src e.r.source).lastAt with
    | some t => (t + s.val O.recSpacing) * 320
    | none => 0

/-- RECORD_WRITER: at the next Tick edge at which something is eligible, the fatal records that are due and then the oldest
eligible entry. -/
def execRecordWriter (s : State) : Out :=
  let edge := (s.now / 320 + 1) * 320
  let first := (s.fc.staging.map (fun e => s.eligibleAt e)).foldl min (2 ^ 80)
  if s.fc.due.isEmpty && s.fc.staging.isEmpty then .next s
  else
    let s := s.until_ (if s.fc.due.isEmpty then max edge first else edge)
    let l := s.fc.due
    let s := ({ s with fc := { s.fc with due := [] } } : State).each l (fun s r => s.enterQueue r)
    match s.fc.staging.find? (fun e => decide (s.eligibleAt e ≤ s.now)) with
    | none => .next s
    | some e =>
      let i := s.fc.staging.findIdx (fun e => decide (s.eligibleAt e ≤ s.now))
      let s : State := { s with fc := s.fc.unstage (s.fc.staging.eraseIdx i) }
      let s := if e.latch then s.setSrc e.r.source { s.src e.r.source with pending := false } else s
      .next (s.enterQueue e.r)

/-- The head record leaves the internal queue. -/
def State.popQueue (s : State) : State :=
  match s.fc.queue with
  | [] => s
  | r :: rs => { s with fc := { s.fc with queue := rs, queueArmed := s.fc.queueArmed || !(r.cls == .fatal), popped := s.fc.popped ++ [r] } }

/-! ### The host ring (R758-R764) -/

def State.fcRingLog2 (s : State) : Nat := fld (s.rg Rg.fcRingBase) 4 0
def State.fcRingFull (s : State) : Bool := (s.fc.tail + 2 ^ 32 - s.fc.head) % 2 ^ 32 == 2 ^ s.fcRingLog2

/-- HOST_RING_WRITE (R759, R761): two posted writes, bytes [27:0] and then the VALID word, once both can enter the posted queue. -/
def execHostRingWrite (s : State) : Out :=
  if !s.fc.ringEnable || s.fcRingFull || !s.bme || s.host.frozen || s.host.inFlr || !s.gcoreUp || !(s.host.power == .d0) || !s.link.up
      || 511 ≤ s.postedHeld || !s.host.blocked.isEmpty then .next s
  else match s.fc.queue.find? (fun r => match r.seq with | some q => !s.fc.inFlight.contains q | none => false) with
    | none => .next s
    | some r =>
      let q := r.seq.getD 0
      let a := s.rg Rg.fcRingBase / 4096 * 4096 + s.fc.tail % 2 ^ s.fcRingLog2 * 32
      let b := recordLayout r
      let s : State := { s with fc := { s.fc with inFlight := s.fc.inFlight ++ [q], tail := (s.fc.tail + 1) % 2 ^ 32 } }
      let s := s.post { kind := .memWrite, addr := a, data := b.take 28, len := 28, owner := .fcBody q }
      .next (s.post { kind := .memWrite, addr := a + 28, data := b.drop 28, len := 4, owner := .fcValid q })

/-- A write of FC_RING_BASE (R758): only while ENABLE is 0; RING_LOG2 1-3 and 17-31 are reserved. -/
def State.writeFcRingBase (s : State) (val : Nat) (rid : Half) : State :=
  let l := fld val 4 0
  if s.fc.ringEnable || (0 < l && l < 4) || 16 < l then s.valueErr Rg.fcRingBase 8 rid
  else s.setRg Rg.fcRingBase (val % 2 ^ 64 / 4096 * 4096 + l)

/-- A write of FC_RING_HEAD (R760). -/
def State.writeFcHead (s : State) (val : Nat) (rid : Half) : State :=
  if (s.fc.tail + 2 ^ 32 - s.fc.head) % 2 ^ 32 < (val + 2 ^ 32 - s.fc.head) % 2 ^ 32 then s.valueErr 0x1000020 4 rid
  else { s with fc := { s.fc with head := val % 2 ^ 32 } }

/-- A write of FC_RING_CTRL (R758). -/
def State.writeFcCtrl (s : State) (val : Nat) (rid : Half) : State :=
  if !bit val 0 then { s with fc := { s.fc with ringEnable := false } }
  else if s.fc.ringEnable then s
  else if s.fcRingLog2 < 4 || 16 < s.fcRingLog2 then s.valueErr 0x1000018 4 rid
  else { s with fc := { s.fc with ringEnable := true, head := 0, tail := 0 } }

/-- A write of FC_POP (R764). -/
def State.writeFcPop (s : State) (val : Nat) (rid : Half) : State :=
  match s.fc.queue with
  | r :: _ => if !s.fc.ringEnable && r.seq == some (val % 2 ^ 31) then s.popQueue else s.valueErr 0x1000048 8 rid
  | [] => s.valueErr 0x1000048 8 rid

/-- FC_RING_HEAD_WRITE. -/
def execFcRingHeadWrite (val : Word32) (rid : Half) (s : State) : Out := .next (s.writeFcHead val.toNat rid)
/-- FC_RING_ENABLE. -/
def execFcRingEnable (val : Word32) (rid : Half) (s : State) : Out := .next (s.writeFcCtrl val.toNat rid)
/-- FC_POP. -/
def execFcPop (val : Word) (rid : Half) (s : State) : Out := .next (s.writeFcPop val.toNat rid)

/-- A read of RECORD_NEXT (R765): the bytes it answers, and the status. -/
def State.recordNextOp (s : State) : State × Nat × List Byte :=
  if s.fc.ringEnable then (s, Od.state, [])
  else match s.fc.queue with
    | [] => (s, 0, natLe 32 0)
    | r :: _ => (s.popQueue, 0, recordLayout r)

/-- RECORD_NEXT: every role may read it; the firmware serves it. -/
def execRecordNext (route : Route) (s : State) : Out :=
  if !s.hl.running || (route == .M && s.slice.state == .none) then .next s else .next s.recordNextOp.1

/-! ### FC_REACT (R750, R751, R779) -/

/-- A reaction code that the source's group allows. -/
def codeAllowed (n code : Nat) : Bool :=
  (srcInfo n).isSome && (code == 1 || (code == 2 && isPlotSrc n) || (code == 3 && isTramSrc n) || code == 4 || code == 5)

/-- A write of FC_REACT. -/
def State.fcReact (s : State) (n code : Nat) (rid : Half) : State :=
  if !codeAllowed n code then s.valueErr 0x1000040 8 rid
  else
    let x := s.src n
    let r : Record :=
      { source := n, cls := clsOf (s.classInForce n x.escalated), escalated := x.escalated, rail := isRailSrc n, reaction := code,
        time := s.rackTime, timeAligned := s.time.state == .aligned, hostReact := true, die := dieOf n none }
    let s := s.setSrc n { x with react := code }
    let p := s.stage { r := r, now := true, latch := false }
    p.1.react n code (if p.2 then some r else none)

/-- FC_REACT_JOB_HALT. -/
def execFcReactJobHalt (source : Fin 2048) (rid : Half) (s : State) : Out := .next (s.fcReact source 1 rid)
/-- FC_REACT_PLOT_FENCE. -/
def execFcReactPlotFence (source : Fin 2048) (rid : Half) (s : State) : Out := .next (s.fcReact source 2 rid)
/-- FC_REACT_DIE_RESET. -/
def execFcReactDieReset (source : Fin 2048) (rid : Half) (s : State) : Out := .next (s.fcReact source 3 rid)
/-- FC_REACT_FREEZE. -/
def execFcReactFreeze (source : Fin 2048) (rid : Half) (s : State) : Out := .next (s.fcReact source 4 rid)
/-- FC_REACT_PACKAGE_FENCE. -/
def execFcReactPackageFence (source : Fin 2048) (rid : Half) (s : State) : Out := .next (s.fcReact source 5 rid)

/-! ### STICKY and CFG (R743, R745) -/

/-- 1 is written to STICKY: STICKY, FIRST_VALID and the capture clear together. -/
def State.clearSticky (s : State) (n : Nat) : State := s.setSrc n { s.src n with sticky := false, first := none }

/-- STICKY_CLEAR: an event registered in the same Tick cycle stands after the write. -/
def execStickyClear (source : Fin 2048) (again : Option EvArg) (s : State) : Out :=
  let s := s.clearSticky source
  match again with
  | some a => .next (s.registerEvent { (evOf a) with source := source })
  | none => .next s

/-- Whether a CFG value may be written to a source (R745, R781). -/
def State.srcCfgOk (s : State) (n v : Nat) : Bool :=
  match srcInfo n with
  | none => false
  | some i =>
    let rc := fld v 4 2
    fld v 1 0 != 3 && decide (rc ≤ 4) && fld v 7 6 != 3 && fld v 31 16 != 0 && fld v 47 32 != 0
      && (!i.fixed || v % 2 ^ 6 == s.srcCfg n % 2 ^ 6) && (i.fixed || rc != 2 || isPlotSrc n) && (i.fixed || rc != 3 || isTramSrc n)

/-- Write a source's CFG: answers whether it was accepted. -/
def State.setSrcCfg (s : State) (n v : Nat) : State × Bool :=
  let v := v % 2 ^ 48
  if s.srcCfgOk n v then (s.setVal ((0x7100 + n) * 256 + 6) v, true) else (s, false)

/-- The registers of a source start here (R781). -/
def srcReg (n off : Nat) : Nat := 0x1010000 + n * 0x40 + off

/-- FC_SRC_CFG written by register: ignored and logged where it may not be; a reserved source ignores writes. -/
def State.writeSrcCfg (s : State) (n v : Nat) (rid : Half) : State :=
  if (srcInfo n).isNone then s
  else
    let r := s.setSrcCfg n v
    if r.2 then r.1 else s.valueErr (srcReg n 0x10) 8 rid

/-- CFG written through the dictionary: RANGE where it may not be, READ_ONLY for a reserved source. -/
def State.odSrcCfg (s : State) (n v : Nat) : State × Nat :=
  if (srcInfo n).isNone then (s, Od.readOnly)
  else
    let r := s.setSrcCfg n v
    (r.1, if r.2 then 0 else Od.range)

/-- FC_SRC_CFG_WRITE. -/
def execFcSrcCfgWrite (source : Fin 2048) (val : Word) (route : Option Route) (rid : Half) (s : State) : Out :=
  match route with
  | none => .next (s.writeSrcCfg source val.toNat rid)
  | some r => .next (if s.served r ((0x7100 + source) * 256 + 6) then (s.odSrcCfg source val.toNat).1 else s)

/-- FATAL_LOG_WRITE (R767). -/
def execFatalLogWrite (s : State) : Out :=
  if !s.hl.running then .next s
  else match s.fc.fatalPending with
    | [] => .next s
    | r :: rs =>
      let log := (r :: s.fc.fatalLog).take 16
      .next (({ s with fc := { s.fc with fatalLog := log, fatalPending := rs } } : State).setBank (fun b => { b with log := log }))

/-! ### Forcing (R768-R770) -/

/-- The sources of a force word whose bit is set. -/
def forceBits (k v : Nat) : List Nat := ((List.range 64).filter (fun j => bit v j)).map (fun j => 64 * k + j)

/-- The collector is armed (R768). -/
def State.armed (s : State) : Bool := match s.fc.armedUntil with | some t => decide (s.now < t) | none => false

/-- Arming ends: every force bit clears, forced conditions end. -/
def State.disarm (s : State) : State :=
  let s : State := { s with fc := { s.fc with armedUntil := none } }
  let s := s.each (s.fc.srcs.map (fun e => e.1)) (fun s n => s.conditionEnd n true)
  (s.each (List.range 32) (fun s k => s.setVal (O.forceLevel + k) 0)).setVal O.forceRail 0

/-- A write of FORCE_ARM. -/
def State.forceArmOp (s : State) (r : Route) (key : Nat) : State × Nat :=
  if r == .M then (s, Od.roleDenied)
  else if key = 0 then (s.disarm, 0)
  else if key != 0xF0CE0001 then (s, Od.keyWrong)
  else ({ s with fc := { s.fc with armedUntil := some (s.now + 60000000000) } }, 0)

/-- FORCE_ARM. -/
def execForceArm (route : Route) (key : Word32) (s : State) : Out :=
  .next (if s.served route 0xF00001 then (s.forceArmOp route key.toNat).1 else s)

/-- FORCE_ARM_EXPIRY. -/
def execForceArmExpiry (s : State) : Out :=
  match s.fc.armedUntil with
  | none => .next s
  | some t => .next (s.until_ t).disarm

/-- A write of FORCE_EVENT: one event of each source named (R769). -/
def State.forceEventOp (s : State) (k v : Nat) : State × Nat :=
  if !s.armed then (s, Od.locked)
  else (s.each ((forceBits k v).filter (fun n => (srcInfo n).isSome)) (fun s n =>
    (s.registerEvent { source := n, forced := true } false).bump O.forcedCount), 0)

/-- FORCE_EVENT. -/
def execForceEvent (route : Route) (k : Fin 32) (val : Word) (s : State) : Out :=
  .next (if s.served route (0xF10001 + k) then (s.forceEventOp k val.toNat).1 else s)

/-- A write of FORCE_LEVEL: conditions of level sources start, and those of bits written 0 end. -/
def State.forceLevelOp (s : State) (k v : Nat) : State × Nat :=
  if !s.armed then (s, Od.locked)
  else
    let s := s.setVal (O.forceLevel + k) (v % 2 ^ 64)
    (s.each (List.range 64) (fun s j =>
      let n := 64 * k + j
      match srcInfo n with
      | none => s
      | some i =>
        if !i.level then s
        else if bit v j then
          (if (s.src n).forcedCond then s
           else
             let fresh := !(s.src n).cond
             let s := s.registerEvent { source := n, forced := true }
             if fresh then s.bump O.forcedCount else s)
        else s.conditionEnd n true), 0)

/-- FORCE_LEVEL. -/
def execForceLevel (route : Route) (k : Fin 32) (val : Word) (s : State) : Out :=
  .next (if s.served route (0xF10101 + k) then (s.forceLevelOp k val.toNat).1 else s)

/-- A write of FORCE_RAIL or RAIL_LEVEL; bits above pair 37 are reserved. -/
def State.forceRailOp (s : State) (level : Bool) (v : Nat) : State × Nat :=
  if !s.armed then (s, Od.locked)
  else if 2 ^ 38 ≤ v then (s, Od.range)
  else (s.setVal (if level then O.railLevel else O.forceRail) v, 0)

/-- FORCE_RAIL. -/
def execForceRail (route : Route) (level : Bool) (val : Word) (s : State) : Out :=
  .next (if s.served route (if level then 0xF00102 else 0xF00101) then (s.forceRailOp level val.toNat).1 else s)

/-! ### Registers (R780, R781) -/

/-- FC_SRC_STATUS. -/
def State.srcStatus (s : State) (n : Nat) : Nat :=
  match srcInfo n with
  | none => 0
  | some i =>
    let x := s.src n
    b2n x.sticky + 2 * b2n x.live + 4 * b2n x.escalated + 8 * b2n (i.byReset && x.live) + 16 * b2n (s.reacted n) + 32 * b2n x.first.isSome
      + 64 * b2n x.pending + 2 ^ 8 * b2n x.eventsOvf + 2 ^ 9 * b2n x.lostOvf + 2 ^ 10 * b2n x.recoveriesOvf
      + 2 ^ 16 * s.classInForce n x.escalated

/-- FC_SRC_COUNT. -/
def State.srcCount (s : State) (n : Nat) : Nat :=
  let x := s.src n
  x.events + x.lost * 2 ^ 32 + x.recoveries * 2 ^ 48

/-- FC_SRC_CFG as it reads, with its constant bits. -/
def State.srcCfgRead (s : State) (n : Nat) : Nat :=
  match srcInfo n with
  | none => 0
  | some i => s.srcCfg n + 2 ^ 48 * b2n i.byReset + 2 ^ 49 * b2n i.fixed + 2 ^ 50 * b2n i.level

/-- The 32 bytes of the first-error capture. -/
def State.srcFirst (s : State) (n : Nat) : List Byte :=
  match (s.src n).first with | some r => recordLayout r | none => natLe 32 0

/-- Fatal records beyond 1,008 slots. -/
def State.fatalUsed (s : State) : Nat := s.fc.queue.length - 1008

/-- FC_STATUS. -/
def State.fcStatus (s : State) : Nat :=
  s.fc.queue.length + s.fatalUsed * 2 ^ 11 + 2 ^ 16 * b2n s.fc.queueOvf + 2 ^ 17 * b2n s.fc.stagingFull
    + 2 ^ 18 * b2n (s.fc.ringEnable && s.fcRingFull) + 2 ^ 19 * b2n s.fc.fatalLost + 2 ^ 20 * b2n s.fc.mode + 2 ^ 21 * b2n s.armed

/-- The head record as FC_PEEK reads it. -/
def State.fcPeek (s : State) : List Byte :=
  match s.fc.queue with
  | r :: _ => if s.fc.ringEnable then natLe 32 0 else recordLayout r
  | [] => natLe 32 0

/-- A bit per source of the word of 64 sources. -/
def State.srcMap (s : State) (k : Nat) (f : Src → Bool) : Nat :=
  ((List.range 64).filter (fun j => f (s.src (64 * k + j)))).foldl (fun m j => m + 2 ^ j) 0

/-- The aligned 8-byte word at an offset of the collector's registers. -/
def State.readCollector (s : State) (off : Nat) : Nat :=
  if 0x1010000 ≤ off && off < 0x1030000 then
    let n := (off - 0x1010000) / 0x40
    if (srcInfo n).isNone then 0
    else match off % 0x40 / 8 with
      | 0 => s.srcStatus n
      | 1 => s.srcCount n
      | 2 => s.srcCfgRead n
      | 4 => bytesAt (s.srcFirst n) 0 8
      | 5 => bytesAt (s.srcFirst n) 8 8
      | 6 => bytesAt (s.srcFirst n) 16 8
      | 7 => bytesAt (s.srcFirst n) 24 8
      | _ => 0
  else
    let o := (off - 0x1000000) / 8 * 8
    if 0x100 ≤ o && o < 0x200 then s.srcMap ((o - 0x100) / 8) (fun x => x.sticky)
    else if 0x200 ≤ o && o < 0x300 then s.srcMap ((o - 0x200) / 8) (fun x => x.live)
    else match o with
      | 0x00 => 2048 + 1024 * 2 ^ 12 + 16 * 2 ^ 23 + 64 * 2 ^ 28 + 16 * 2 ^ 35
      | 0x08 => s.fcStatus
      | 0x10 => s.rg Rg.fcRingBase
      | 0x18 => b2n s.fc.ringEnable
      | 0x20 => s.fc.head + s.fc.tail * 2 ^ 32
      | 0x28 => s.fc.lost
      | 0x30 => s.fc.dropped
      | 0x38 => b2n s.fc.lostOvf + 2 * b2n s.fc.droppedOvf
      | 0x60 => bytesAt s.fcPeek 0 8
      | 0x68 => bytesAt s.fcPeek 8 8
      | 0x70 => bytesAt s.fcPeek 16 8
      | 0x78 => bytesAt s.fcPeek 24 8
      | _ => 0

/-- A write of FC_SRC_STATUS: STICKY and the overflow bits are W1C. -/
def State.writeSrcStatus (s : State) (n v : Nat) : State :=
  let s := if bit v 0 then s.clearSticky n else s
  let x := s.src n
  s.setSrc n { x with eventsOvf := x.eventsOvf && !bit v 8, lostOvf := x.lostOvf && !bit v 9, recoveriesOvf := x.recoveriesOvf && !bit v 10 }

/-- Code 1-5 of FC_REACT; 0, 6 and 7 are reserved. -/
def State.writeFcReact (s : State) (v : Nat) (rid : Half) : State := s.fcReact (fld v 10 0) (fld v 18 16) rid

/-- A write to the collector's registers at their own offset: none where the offset holds none that software writes. -/
def State.writeCollector (s : State) (off v : Nat) (rid : Half) : Option State :=
  if 0x1010000 ≤ off && off < 0x1030000 then
    let n := (off - 0x1010000) / 0x40
    match off % 0x40 with
    | 0x00 => some (if (srcInfo n).isSome then s.writeSrcStatus n v else s)
    | 0x10 => some (s.writeSrcCfg n v rid)
    | _ => none
  else match off - 0x1000000 with
    | 0x08 => some { s with fc := { s.fc with queueOvf := s.fc.queueOvf && !bit v 16, stagingFull := s.fc.stagingFull && !bit v 17, fatalLost := s.fc.fatalLost && !bit v 19 } }
    | 0x10 => some (s.writeFcRingBase v rid)
    | 0x18 => some (s.writeFcCtrl v rid)
    | 0x20 => some (s.writeFcHead v rid)
    | 0x38 => some { s with fc := { s.fc with lostOvf := s.fc.lostOvf && !bit v 0, droppedOvf := s.fc.droppedOvf && !bit v 1 } }
    | 0x40 => some (s.writeFcReact v rid)
    | 0x48 => some (s.writeFcPop v rid)
    | _ => none

end Sys2Proof.Machine
end

