-- ==== Sys2Proof/Machine/HostLink.lean ====
section
/-! DEFINITION. The host link, its power management and the configuration space (chapter 5, R234-R276), and Bus Master Enable
(R297-R300). -/

namespace Sys2Proof.Machine

/-! ### Training (R234, R235, R238, R240, R241) -/

/-- The largest width of x16, x8, x4, x1 that the usable lanes and the limit allow. -/
def widthFor (lanes limit : Nat) : Nat :=
  let n := min lanes limit
  if 16 ≤ n then 16 else if 8 ≤ n then 8 else if 4 ≤ n then 4 else if 1 ≤ n then 1 else 0

/-- The LTSSM state of a training that has not ended. -/
def trainState (t : TrainStop) : Ltssm :=
  match t with | .detect => .detect | .polling => .polling | .configuration => .configuration | .loopback => .loopback

/-- Training comes to a state short of L0: from Detect any, from Recovery Configuration (R275). -/
def State.trainStop (s : State) (t : TrainStop) : State :=
  if !s.glinkOn || s.pwr.perst then s
  else if s.link.up && !(s.link.ltssm == .recovery && t == .configuration) then s
  else { s with link := { s.link with ltssm := trainState t } }

/-- LINK_TRAINED: the link reaches L0 from Detect, or returns to it from Recovery; presets whose calibration is lost are learned
(R136, R236). The Z20 advertises its receive credits (R284). -/
def execLinkTrained (offer : LinkOffer) (s : State) : Out :=
  match offer.stop with
  | some t => .next (s.trainStop t)
  | none =>
  let width := widthFor offer.lanes (s.val O.linkWidthMax)
  let top := min (min offer.speed 6) (s.val O.linkSpeedMax)
  let s := match s.pwr.powerAt with | some t => if s.pwr.mode == .starting then s.until_ (t + 1100000) else s | none => s
  let speed := if (if s.link.up then s.link.flit else offer.flit) then top else min top 5
  if !s.glinkOn || s.pwr.perst || width = 0 || speed = 0 then .next s
  else if s.link.up then
    if !(s.link.ltssm == .recovery || s.link.ltssm == .configuration) then .next s
    else
      let s := if speed = s.link.speed then s else s.bump O.speedChanges
      let s := s.learn [] 0x2810
      .next ({ s with link := { s.link with ltssm := .l0, speed := speed, width := width, l0pWidth := width, stewardRetrain := false } } : State).drain
  else
    let want := s.val O.hostMode == 1
    let cxl := want && offer.cxl && offer.flit
    let s := s.learn [] 0x2810
    let s : State := { s with
      link := { s.link with ltssm := .l0, up := true, speed := speed, width := width, flit := offer.flit, l0pWidth := width,
                            protocol := (if cxl then 1 else if want then 2 else 0), widthLimit := s.val O.linkWidthMax, stewardRetrain := false,
                            rxPosted := (128, 2048), rxNonPosted := (64, 16), scaled := offer.scaled,
                            lowLatency := cxl && offer.lowLatency },
      host := { s.host with pCredit := offer.posted, npCredit := offer.nonPosted } }
    .next ((s.raiseIf (want && !cxl) Sc.hostCxlFallback).drain).assert

/-- LINK_RECOVERY (R239, R273, R275): a steward retraining in progress is abandoned, counted once more and held off for 10 s. -/
def execLinkRecovery (s : State) : Out :=
  if !s.link.up then .next s
  else
    let s := s.bump O.recoveryCount
    let s := if s.link.stewardRetrain then
        let s := s.bump O.recoveryCount
        { s with link := { s.link with stewardRetrain := false, retrainFrom := s.now + 10000000000 } }
      else s
    .next { s with link := { s.link with ltssm := .recovery } }

/-! ### Link power management (R258-R262) -/

/-- LTR_L1.2_THRESHOLD in ns. -/
def State.l12Threshold (s : State) : Nat := fld (s.cfgv 0x1C8) 25 16 * 32 ^ min 5 (fld (s.cfgv 0x1C8) 31 29)

/-- ASPM_L1_ENTRY (R258, R271): the link has been idle for ASPM_L1_IDLE. -/
def execAspmL1Entry (s : State) : Out :=
  if !s.link.up || !(s.link.ltssm == .l0) || !bit (s.cfgv 0x060) 1 || !s.host.queue.isEmpty || !s.host.blocked.isEmpty
      || s.readsOutstanding != 0 then .next s
  else
    let c := s.cfgv 0x1C8
    let l12 := bit c 2 && s.ltrEnable && decide (0 < s.link.ltrReported) && decide (s.l12Threshold ≤ s.link.ltrReported)
    let s := s.bump O.l1Entries
    let s := if l12 then s.bump O.l12Entries else s
    .next { s with link := { s.link with ltssm := (if l12 then .l12 else if bit c 3 then .l11 else .l1) } }

/-- ASPM_L1_EXIT. -/
def execAspmL1Exit (s : State) : Out :=
  if s.inL1 then .next s.leaveL1.drain.assert else .next s

/-- The lowest width of L0p: L0P_MIN_WIDTH and the Target Link Width. -/
def State.l0pFloor (s : State) : Nat :=
  let t := fld (s.cfgv 0x3E8) 6 4
  max (s.val O.l0pMinWidth) (if t ≤ 4 then 2 ^ t else 1)

/-- L0P_NARROW (R260): one halving step. -/
def execL0pNarrow (s : State) : Out :=
  let w := s.link.l0pWidth
  let n := match w with | 16 => 8 | 8 => 4 | 4 => 1 | _ => w
  if !s.link.up || !(s.link.ltssm == .l0) || !s.link.flit || !s.l0pEnable || n = w || n < s.l0pFloor then .next s
  else .next (({ s with link := { s.link with l0pWidth := n } } : State).bump O.l0pChanges)

/-- L0P_WIDEN (R260, R272): the full trained width. -/
def execL0pWiden (s : State) : Out :=
  if !s.link.up || !s.link.flit || s.link.l0pWidth = s.link.width then .next s
  else .next (({ s with link := { s.link with l0pWidth := s.link.width } } : State).bump O.l0pChanges)

/-- A latency of the LTR capability in ns: value and scale. -/
def ltrNs (v : Nat) : Nat := fld v 9 0 * 32 ^ min 5 (fld v 12 10)

/-- LTR_SEND (R259): one message with the value for snoop and no-snoop latency, capped as the host wrote. -/
def execLtrSend (s : State) : Out :=
  if !s.ltrEnable || !s.link.up || s.host.inFlr then .next s
  else
    let v := if s.pwr.mode == .fallow then s.val O.ltrFallow else s.val O.ltrActive
    let snoop := min v (ltrNs (s.cfgv 0x3F4 % 2 ^ 16))
    let noSnoop := min v (ltrNs (s.cfgv 0x3F4 / 2 ^ 16))
    let s : State := { s with link := { s.link with ltrReported := snoop } }
    .next ((s.enqueue { kind := .ltr, data := natLe 4 snoop ++ natLe 4 noSnoop }).drain)

/-- D3hot is entered: memory decode, requests and INTx messages stop, function state stays; an entry to Fallow under way is
abandoned, since condition 7 of R70 fails (R262). -/
def State.d3Enter (s : State) : State :=
  match s.host.power with
  | .d0 =>
    let t := s.deassert
    { t with host := { t.host with power := .d3hot }, pwr := { t.pwr with entryAbandoned := t.pwr.entryAbandoned || t.pwr.mode == .entering } }
  | .leaving _ => { s with host := { s.host with power := .leaving true } }
  | .d3hot => s

/-- D3HOT_ENTRY. -/
def execD3hotEntry (s : State) : Out := .next s.d3Enter

/-! ### Bus Master Enable (R297-R300, R324) -/

/-- Every row stops at a request boundary and enters PARKED. -/
def State.parkRows (s : State) : State :=
  if !s.gcoreUp then s
  else s.each (List.range 64) (fun s r =>
    let x := s.row r
    if x.state == .parked then s else s.setRow r { x with state := .parked, before := x.state })

/-- Rows resume where they stopped; one kicked at the end of its chain reads the link again (R540). -/
def State.unparkRows (s : State) : State :=
  let s := s.each (List.range 64) (fun s r =>
    let x := s.row r
    if !(x.state == .parked) then s
    else if x.before == .chainEnd && x.kick then
      s.setRow r { x with state := .active, before := .idle, kick := false, chainNext := x.linkAt }
    else s.setRow r { x with state := x.before, before := .idle })
  s.each (List.range 64) (fun s r => (s.settle r).stopDrained r)

/-- Bus Master Enable changes. -/
def State.setBme (s : State) (on : Bool) : State :=
  if s.bme == on then s
  else
    let s := s.setCfg 0x004 (setBit (s.cfgv 0x004) 2 on)
    if on then ((s.drain).unparkRows).issueWalks else s.parkRows

/-- BUS_MASTER_CLEAR. -/
def execBusMasterClear (s : State) : Out := .next (s.setBme false)
/-- BUS_MASTER_SET. -/
def execBusMasterSet (s : State) : Out := .next (s.setBme true)

/-! ### The windows' placement (R255, R256) -/

/-- A configuration write with a value that is not allowed (R5, R256, R265, R267): a request of one dword, so no last
dword byte enables; `m` is the mask of the bytes it enables. -/
def State.cfgErr (s : State) (off m : Nat) (rid : Half) : State :=
  let be := b2n (bit m 0) + 2 * b2n (bit m 8) + 4 * b2n (bit m 16) + 8 * b2n (bit m 24)
  s.mmioErr .value .config true { off := off, len := 4, fbe := BitVec.ofNat 4 be, lbe := 0, rid := rid }

/-- A write of the BAR Size field. -/
def State.writeBarSize (s : State) (size m : Nat) (rid : Half) : State :=
  if size < 10 || 19 < size then s.cfgErr 0x188 m rid
  else if size = s.barSize then s
  else if s.memEnable then s.raise Sc.cfgRebarBusy
  else
    let s := s.setCfg 0x188 (setFld (s.cfgv 0x188) 13 8 size)
    ((s.setCfg 0x020 (cfgReset 0x020)).setCfg 0x024 0).setRg Rg.apertureMap 0

/-- BAR_SIZE_WRITE. -/
def execBarSizeWrite (size : BitVec 6) (rid : Half) (s : State) : Out := .next (s.writeBarSize size.toNat (2 ^ 32 - 1) rid)

/-- A write of APERTURE_MAP: BASE must be a multiple of the window's size. -/
def State.writeApertureMap (s : State) (val : Nat) (rid : Half) : State :=
  let b := fld val 8 0
  if b % 2 ^ (s.barSize - 10) != 0 then s.valueErr Rg.apertureMap 8 rid else s.setRg Rg.apertureMap b

/-- APERTURE_MAP_WRITE. -/
def execApertureMapWrite (val : Word) (rid : Half) (s : State) : Out := .next (s.writeApertureMap val.toNat rid)

/-! ### Configuration requests (R243-R251) -/

/-- The dwords of the CXL DVSECs in CXL mode (R242, R245, R251); the places inside them are those of the CXL specification. -/
def State.cxlDword (s : State) (off : Nat) : Nat :=
  match off with
  | 0x300 => 0x34010023
  | 0x304 => 0x1E98 + 2 * 2 ^ 16 + 0x3C * 2 ^ 20
  | 0x308 => 0x17 * 2 ^ 16
  | 0x30C => if s.cxlOn then 7 else 2
  | 0x314 => 0x402 * 2 ^ 16
  | 0x318 => 0x60
  | 0x31C => 3
  | 0x340 => 0x36010023
  | 0x344 => 0x1E98 + 2 * 2 ^ 16 + 0x20 * 2 ^ 20
  | 0x348 => 7 + 0x2007 * 2 ^ 16
  | 0x34C => if s.link.up && s.link.protocol = 1 then (7 + 0x2000 * b2n s.link.lowLatency) * 2 ^ 16 else 0
  | 0x360 => 0x3E010023
  | 0x364 => 0x1E98 + 0x14 * 2 ^ 20
  | 0x368 => 8
  | 0x36C => 0x100 + 0x80000
  | _ => 0

/-- What the margining status of a lane reports for the command in its control register (R246): the capabilities, the voltage
and timing steps and the largest timing offset; a margining step reports a free error count (log entries 7 and 112). -/
def State.marginReport (s : State) (ctrl : Nat) : Nat :=
  ctrl % 128 + 256 * (match fld ctrl 5 3, fld ctrl 15 8 with
    | 1, 0x88 => 3
    | 1, 0x89 => 64
    | 1, 0x8A => 32
    | 1, 0x8B => 40
    | 1, _ => Config.freeValue s.free % 256
    | 3, _ => Config.freeValue s.free % 256
    | 4, _ => Config.freeValue s.free % 256
    | _, p => p)

/-- A dword of configuration space as it reads. -/
def State.cfgRead (s : State) (off : Nat) : Nat :=
  let cxl := s.val O.hostMode == 1
  if 0x300 ≤ off && off < 0x3E0 then (if cxl then s.cxlDword off else 0)
  else match off with
    | 0x004 => setBit (s.cfgv 0x004) 19 s.linePending
    | 0x044 => setFld (s.cfgv 0x044) 1 0 (if s.host.power == .d3hot then 3 else 0)
    | 0x058 => setBit (s.cfgv 0x058) 21 (!s.host.tags.isEmpty)
    | 0x060 => s.cfgv 0x060 % 2 ^ 16 + s.link.speed * 2 ^ 16 + s.link.width * 2 ^ 20
    | 0x14C => Config.serial % 2 ^ 32
    | 0x150 => Config.serial / 2 ^ 32 % 2 ^ 32
    | 0x174 => setBit (s.cfgv 0x174) 24 (!s.priEnable && s.flt.prgs.isEmpty)
    | 0x2D0 => if cxl then 0x30010019 else s.cfgv off
    | 0x414 => s.val O.pkgAddr % 4096 + 2 ^ 12 * s.val O.pkgAddrValid + 2 ^ 13 * s.val O.hostMode
    | 0x3E4 => s.cfgv off + (if s.link.flit then 8 else 0)
    | 0x418 => if s.pwr.powerAt.isSome then (if s.hl.image = 0 then s.hl.verA else s.hl.verB) else 0
    | _ => if 0x288 ≤ off && off < 0x2C8 then s.cfgv off % 2 ^ 16 + s.marginReport (s.cfgv off % 2 ^ 16) * 2 ^ 16 else s.cfgv off

/-- The bits of a value that byte enables let through. -/
def beMask (be : BitVec 4) : Nat := ((List.range 4).filter (fun i => bit be.toNat i)).foldl (fun m i => m + 255 * 2 ^ (8 * i)) 0

/-- The bits of the aperture base that are RW: those from the window's size up (R247). -/
def State.cfgRwNow (s : State) (off : Nat) : Nat :=
  let z := s.barSize + 20
  match off with
  | 0x020 => if 32 ≤ z then 0 else 2 ^ 32 - 2 ^ z
  | 0x024 => if 32 ≤ z then 2 ^ 32 - 2 ^ (z - 32) else 2 ^ 32 - 1
  | _ => cfgRw off

/-- What a configuration write does beside storing its bits, by the fields it changes. -/
def State.cfgEffects (s : State) (off old new m val : Nat) (rid : Half) : State :=
  match off with
  | 0x004 =>
    let s := s.setBme (bit new 2)
    if bit new 10 && !bit old 10 then s.deassert else if !bit new 10 && bit old 10 then s.assert else s
  | 0x044 =>
    if m % 4 != 3 then s
    else match val % 4 with
      | 3 => s.d3Enter
      | 0 => if s.host.power == .d3hot then { s with host := { s.host with power := .leaving false } } else s
      | _ => s
  | 0x058 =>
    let s := if (bit m 7 && 2 < fld new 7 5) || (bit m 14 && 5 < fld new 14 12) then s.cfgErr 0x058 m rid else s
    if bit (val &&& m) 15 then s.flrOp else s
  | 0x078 =>
    let t := fld new 3 0
    let s := if bit new 6 && !bit old 6 then s.autoRetryAd else if bit old 6 && !bit new 6 then s.recallCas else s
    if bit m 0 && !(t == 0 || t == 5 || t == 6 || t == 9 || t == 10 || t == 13 || t == 14) then s.cfgErr 0x078 m rid else s
  | 0x174 => if bit (val &&& m) 1 then s.priResetOp else s
  | 0x188 => if m / 256 % 256 = 255 then s.writeBarSize (fld val 13 8) m rid else s
  | _ => s

/-- A configuration write; one to an RWS field during an FLR is ignored (R27). -/
def State.cfgWrite (s : State) (off : Nat) (be : BitVec 4) (val : Nat) (rid : Half) : State :=
  let m := if s.host.inFlr && cfgSticky off then 0 else beMask be
  let old := s.cfgv off
  let rw := s.cfgRwNow off &&& m
  let w1c := cfgW1c off &&& m &&& val
  let new := ((old &&& (2 ^ 32 - 1 - rw)) ||| (val &&& rw)) &&& (2 ^ 32 - 1 - w1c)
  let keep := if off = 0x004 then setBit new 2 (bit old 2) else new
  (s.setCfg off keep).cfgEffects off old new m val rid

/-- CONFIG_REQUEST (R244): answered by the GLINK in every power state, during FLR and in Frozen. -/
def execConfigRequest (write : Bool) (off : BitVec 12) (be : BitVec 4) (val : Word32) (rid : Half) (s : State) : Out :=
  let o := off.toNat / 4 * 4
  if !s.link.up || !s.glinkOn || s.pwr.perst then .next s
  else if write then .next ((s.cfgWrite o be val.toNat rid).enqueue { kind := .cplData, addr := o }).drain
  else .next (s.enqueue { kind := .cplData, addr := o, data := natLe 4 (s.cfgRead o) }).drain

end Sys2Proof.Machine
end

