-- ==== Sys2Proof/Machine/HostTxn.lean ====
section
/-! DEFINITION. Completions of the Z20's requests, tags, flow control, entry to and release from Frozen, and the attention line
(chapter 6, R277-R334). -/

namespace Sys2Proof.Machine

/-! ### Completions (R287-R289, R306, R312) -/

/-- Row r goes on after something happened to its reads. -/
def State.rowMoves (s : State) (r : Nat) : State := (s.settle r).stopDrained r

/-- A request ends without its data: its owner fails with a code. -/
def State.ownerFails (s : State) (u : TagUse) (code : Nat) : State :=
  match u.owner with
  | .furrowRing n st k => s.ringFailed n st k
  | .chain r a => s.chainDone r a none
  | .row r id off => (s.pieceFails r id off code).rowMoves r
  | .deadRow r => s.rowMoves r
  | .walk id =>
    if s.plat.walks.any (fun w => w.id == id && w.kind == .ats) && code != 0x32 then s.atsDone id false [] else s.walkFailed id
  | _ => s

/-- The data of a request is complete. -/
def State.ownerDone (s : State) (u : TagUse) (d : List (Byte × Bool)) : State :=
  let bytes := d.map (fun (x : Byte × Bool) => x.1)
  let bad := d.any (fun x => x.2)
  match u.owner with
  | .furrowRing n st k => if bad then s.ringFailed n st k else s.ringDone n st k bytes
  | .chain r a => s.chainDone r a (if bad then none else some bytes)
  | .row r id off => (s.pieceArrives r id off d).rowMoves r
  | .deadRow r => s.rowMoves r
  | .walk id =>
    if bad then s.walkFailed id
    else if s.plat.walks.any (fun w => w.id == id && w.kind == .cas) then s.casDone id (bytesAt bytes 0 8)
    else s.walkerDone id bytes
  | _ => s

/-- The data goes on with its poison (R306, R312): a Drill read. -/
def TagUse.carries (u : TagUse) : Bool := match u.owner with | .row _ _ _ => true | _ => false

/-- A completion for a tag that is neither outstanding nor quarantined is discarded (R306, R329). -/
def State.unexpectedOp (s : State) (tag len : Nat) : State :=
  ((s.bump O.unexpectedCpl).raise Sc.hostUnexpCpl).aer Ue.unexpCpl true (s.cplHeader tag len false)

/-- A completion with data arrives; `ep` marks the granules it fills. -/
def State.completion (s : State) (tag : Nat) (data : List Byte) (last ep : Bool) : State :=
  match s.tagUse tag with
  | none => s.unexpectedOp tag data.length
  | some u =>
    if u.quar != .no then s.lateCompletion u last
    else
      let got := u.got ++ data.map (fun b => (b, ep))
      if last then (s.freeTagUse tag).ownerDone u got else s.setTag tag (fun u => { u with got := got })

/-- READ_COMPLETION. -/
def execReadCompletion (tag : Nat) (data : List Byte) (last : Bool) (s : State) : Out := .next (s.completion tag data last false)

/-- POISONED_COMPLETION. -/
def execPoisonedCompletion (tag : Nat) (data : List Byte) (last : Bool) (s : State) : Out :=
  let carried := match s.tagUse tag with | some u => u.carries | none => false
  .next ((s.poisonedCpl carried tag data.length).completion tag data last true)

/-- COMPLETION_TIMEOUT (R288): the request is abandoned and its tag quarantined for one more period; a tag that was quarantined
at an FLR or at entry to Frozen is free. -/
def execCompletionTimeout (tag : Nat) (s : State) : Out :=
  match s.tagUse tag with
  | none => .next s
  | some u =>
    match u.quar with
    | .timedOut => .next s
    | .abandoned => .next ((s.until_ (u.at_ + s.cplTimeout)).freeTagUse tag)
    | .no =>
      let s := s.until_ (u.at_ + s.cplTimeout)
      let s := s.setTag tag (fun u => { u with quar := .timedOut, owner := .none, got := [], at_ := s.now })
      .next ((s.readFails .timeout u.addr).ownerFails u 0x32)

/-- UR_CA_COMPLETION (R289). -/
def execUrCaCompletion (tag : Nat) (ca : Bool) (s : State) : Out :=
  match s.tagUse tag with
  | none => .next (s.unexpectedOp tag 0)
  | some u =>
    if u.quar != .no then .next (s.lateCompletion u true)
    else
      let e : HostFail := if ca then .ca else .ur
      .next (((s.readFails e u.addr).freeTagUse tag).ownerFails u (failCode e))

/-- UNEXPECTED_COMPLETION. -/
def execUnexpectedCompletion (tag : Nat) (s : State) : Out :=
  match s.tagUse tag with
  | none => .next (s.unexpectedOp tag 0)
  | some _ => .next s

/-- TAG_QUARANTINE_END (R287): one more timeout period has passed. -/
def execTagQuarantineEnd (tag : Nat) (s : State) : Out :=
  match s.tagUse tag with
  | some u => if u.quar == .timedOut then .next ((s.until_ (u.at_ + s.cplTimeout)).freeTagUse tag) else .next s
  | none => .next s

/-- FLOW_CONTROL_UPDATE (R278): credits return and what waits leaves. -/
def execFlowControlUpdate (posted nonPosted : Nat) (s : State) : Out :=
  if !s.link.up then .next s
  else
    .next (({ s with host := { s.host with pCredit := s.host.pCredit + posted, npCredit := s.host.npCredit + nonPosted } } : State).drain).settleStakes

/-! ### Frozen (R313-R317) -/

/-- A freeze cause is registered. -/
def State.freezeBy (s : State) (c : FreezeBy) : State :=
  match c with
  | .software => s.freezeOp 0
  | .gateUe => ((s.raise Sc.hostInternalUe).aer Ue.internal).freezeOp 1
  | .faultReaction => s.freezeOp 2
  | .packageFenced => if s.fc.packageFenced then s else (s.memberFault none).fencePackage

/-- FREEZE. -/
def execFreeze (cause : FreezeBy) (s : State) : Out := .next (if s.pwr.aon then s.freezeBy cause else s)

/-- A write of FREEZE_CTRL.RELEASE (R316): FREEZE_STATUS gives the first condition that fails. -/
def State.leaveFrozen (s : State) : State :=
  let result (s : State) (n : Nat) : State := s.setRg Rg.freezeStatus n
  if !s.host.frozen then result s 5
  else if s.fc.packageFenced then result s 2
  else if s.bme then result s 3
  else if s.readsOutstanding != 0 then result s 4
  else
    let s := s.dropFurrows true
    let s := s.each (s.drill.rows.map (fun e => e.1)) (fun s r => s.setRow r
      { s.row r with state := .idle, before := .idle, xfers := [], kick := false, hasChain := false, chainNext := none, chainBusy := false, linkAt := none })
    let s := s.failIdleFaults
    let s : State := { s with host := { s.host with frozen := false, frozenSinceFlr := false } }
    result (s.setRg Rg.freezeCause 0) 1

/-- FREEZE_RELEASE. -/
def execFreezeRelease (s : State) : Out := .next s.leaveFrozen

/-! ### MMIO errors and the attention line (R296, R319-R323) -/

/-- 1 is written to MMIO_ERR_INFO.VALID. -/
def State.rearmOp (s : State) : State := s.setRg Rg.mmioErrInfo (setBit (s.rg Rg.mmioErrInfo) 0 false)

/-- MMIO_ERR_REARM. -/
def execMmioErrRearm (s : State) : Out := .next s.rearmOp

/-- Event causes of ATTN_CAUSE. -/
abbrev eventCauses : Nat := 0x3BBC

/-- A W1C write of ATTN_CAUSE; causes set again in the same cycle stay. -/
def State.clearCauses (s : State) (val again : Nat) : State :=
  let c := s.rg Rg.attnCause
  s.setRg Rg.attnCause ((c - (c &&& val &&& eventCauses)) ||| (again &&& eventCauses))

/-- The line follows a change of its causes: it is asserted or de-asserted. -/
def State.lineMoves (s : State) : State := if s.linePending then s.assert else s.deassert

/-- ATTN_CAUSE_CLEAR. -/
def execAttnCauseClear (val again : Word) (s : State) : Out := .next (s.clearCauses val.toNat again.toNat).lineMoves

/-- ASSERT_INTA: the line is pending and the conditions of R320 hold. -/
def execAssertInta (s : State) : Out := .next s.assert

/-- DEASSERT_INTA: the line is no longer pending, or Interrupt Disable is set. -/
def execDeassertInta (s : State) : Out := .next (if s.linePending && !s.intxDisable then s else s.deassert)

/-- ATTN_HOLDOFF_EXPIRY (R321): ATTN_HOLDOFF has elapsed since the Deassert_INTA. -/
def execAttnHoldoffExpiry (s : State) : Out :=
  match s.host.attnHoldoff with
  | none => .next s
  | some t =>
    let s := s.until_ t
    .next ({ s with host := { s.host with attnHoldoff := none } } : State).assert

end Sys2Proof.Machine
end

