-- ==== Sys2Proof/Machine/Split.lean ====
section
/-! DEFINITION. The movable split: the mode selectors of OD 0x8000 (R784-R786), and what the steward keeps: its decision
log, base values and overrides (R790-R794). -/

namespace Sys2Proof.Machine

/-! ### Selectors -/

/-- The mode in force of a movable function: true is host-assisted (R784). -/
def State.splitMode (s : State) (sub : Nat) : Bool :=
  match sub with
  | 1 => s.plat.mode
  | 2 => s.flt.mode
  | 3 => s.mig.hostMode
  | 4 => s.val O.splitFtl == 1 || s.seed.unformatted
  | 6 => s.fc.mode
  | _ => s.val (0x800000 + sub) == 1

/-- A switch of a selector is in progress (SPLIT_PENDING). -/
def State.splitBusy (s : State) (sub : Nat) : Bool :=
  match sub with
  | 1 => s.plat.switching.isSome
  | 4 => s.seed.unformatted
  | _ => false

/-- SPLIT_PENDING. -/
def State.splitPendingBits (s : State) : Nat := b2n (s.splitBusy 1) + 8 * b2n (s.splitBusy 4)

/-- A switch is complete: it is counted. -/
def State.splitDone (s : State) : State := s.bump O.splitSwitches

/-- Whether a switch of address translation is accepted (R464). -/
def State.walkSwitchOk (s : State) (host : Bool) : Bool :=
  if host then s.atsEnable && s.pasidEnable
  else s.ctxsValid.all (fun c => !bit (s.pctxCtrl c) 24 || (decide ((s.tmplOf c).levels ≠ 0) && s.pctxRoot c != 0))

/-- A switch of address translation begins (R465): walks and ATS requests in flight are stale, and its INVAL_ALL of the host space joins
the executor's queue. While GCORE is off, nothing is cached and the copy of the mode changes at once (R837). -/
def State.walkSwitch (s : State) (host : Bool) : State :=
  if !s.gcoreOn then
    ((({ s with plat := { s.plat with mode := host } } : State).setVal O.splitWalk (b2n host)).bump O.modeSwitches).splitDone
  else
    let s : State := { s with plat := { s.plat with
      switching := some host,
      walks := s.plat.walks.map (fun w => if w.space == .host then { w with stale := true } else w),
      slotWait := s.plat.slotWait.filter (fun w => !(w.space == .host)) } }
    s.queueCmd { ticket := none, kind := 3, space := 0, headland := true, modeSwitch := true }

/-- A SEED descriptor has started: the switch back is refused (R711). -/
def State.seedStarted (s : State) : Bool := s.g.store.any (fun x => x.state == .started && (x.d.opcode == 3))

/-- A switch of the seedbank FTL (R711): to raw blocks at once, back by a format. -/
def State.ftlSwitch (s : State) (host : Bool) : State × Nat :=
  if (if host then s.seedTouched else s.seedStarted) then (s, Od.state)
  else if host then
    if s.seed.waiting.isSome || s.seed.lots.any (fun l => !(l.2.state == .free)) || !s.rot.entries.isEmpty || !(s.seed.state == .ready || s.seed.state == .readOnly)
    then (s, Od.state)
    else (((s.setSeed (fun d => { d with state := .host })).setVal O.splitFtl 1).ownCommit.splitDone, 0)
  else ((s.formatOp.setVal O.splitFtl 0).ownCommit, 0)

/-- Fault classification moves (R750): to the host, escalations that stand are cleared; either way no window is open. -/
def State.classifySwitch (s : State) (host : Bool) : State :=
  let fc : Collector := s.fc
  let calm (x : Src) : Src := { x with escalated := x.escalated && !host, window := none }
  { s with fc := { fc with mode := host, srcs := (fc.srcs.map (fun (e : Nat × Src) => (e.1, calm e.2))).filter (fun e => decide (e.2 ≠ {})) } }

/-- Migration moves to hardware mode (R501), or back (R506). -/
def State.migSwitch (s : State) (host : Bool) : State × Nat :=
  if host then
    let s := match s.mig.copying with | some c => s.abandonPromotion c.pasid c.region | none => s
    (s.unbindMigRow.splitDone, 0)
  else if s.plat.switching.isSome || s.poolAcres = 0 || s.val O.migParcelCount = 0 || !((s.row (s.val O.migRow)).state == .idle) then (s, Od.state)
  else
    let s : State := { s with mig := { s.mig with hostMode := false, migRow := s.val O.migRow } }
    (s.bindMigRow.splitDone, 0)

/-- A selector whose mode takes effect at once and has no state beside its object. -/
def State.plainSwitch (s : State) (sub v : Nat) : State × Nat := ((s.setVal (0x800000 + sub) v).splitDone, 0)

/-- A write of a selector by a route: the status it answers (R785). -/
def State.splitOp (s : State) (sub v : Nat) (route : Route) : State × Nat :=
  if 1 < v then (s, Od.range)
  else if s.splitBusy sub then (s, Od.state)
  else if s.splitMode sub == (v == 1) then (s, 0)
  else match sub with
    | 1 => if s.walkSwitchOk (v == 1) then (s.walkSwitch (v == 1), 0) else (s, Od.state)
    | 2 =>
      let s : State := ({ s with flt := { s.flt with mode := v == 1 } } : State).splitDone
      (if s.atomicEnable then s.autoRetryAd else s, 0)
    | 3 => s.migSwitch (v == 1)
    | 4 => s.ftlSwitch (v == 1)
    | 6 => ((s.classifySwitch (v == 1)).splitDone, 0)
    | 8 => if v = 1 && !(route == .H) then (s, Od.roleDenied) else
        let old := s.capReason
        let r := s.plainSwitch 8 v
        (r.1.noteReason old, r.2)
    | _ => s.plainSwitch sub v

/-- A selector write of a route that carries the role, with firmware to serve it. -/
def State.splitWrite (s : State) (sub v : Nat) (route : Route) : State := if s.served route (0x800000 + sub) then (s.splitOp sub v route).1 else s

/-- SPLIT_WALK. -/
def execSplitWalk (route : Route) (val : Byte) (s : State) : Out := .next (s.splitWrite 1 val.toNat route)
/-- SPLIT_FAULT. -/
def execSplitFault (route : Route) (val : Byte) (s : State) : Out := .next (s.splitWrite 2 val.toNat route)
/-- SPLIT_MIG. -/
def execSplitMig (route : Route) (val : Byte) (s : State) : Out := .next (s.splitWrite 3 val.toNat route)
/-- SPLIT_FTL. -/
def execSplitFtl (route : Route) (val : Byte) (s : State) : Out := .next (s.splitWrite 4 val.toNat route)
/-- SPLIT_ROTATION. -/
def execSplitRotation (route : Route) (val : Byte) (s : State) : Out := .next (s.splitWrite 5 val.toNat route)
/-- SPLIT_CLASSIFY. -/
def execSplitClassify (route : Route) (val : Byte) (s : State) : Out := .next (s.splitWrite 6 val.toNat route)
/-- SPLIT_RETRAIN. -/
def execSplitRetrain (route : Route) (val : Byte) (s : State) : Out := .next (s.splitWrite 7 val.toNat route)
/-- SPLIT_CAP. -/
def execSplitCap (route : Route) (val : Byte) (s : State) : Out := .next (s.splitWrite 8 val.toNat route)
/-- SPLIT_STAKE_TO. -/
def execSplitStakeTo (route : Route) (val : Byte) (s : State) : Out := .next (s.splitWrite 9 val.toNat route)

/-! ### The decision log (R793) -/

/-- MODE of a policy: 0 Off, 1 Advise, 2 Auto. -/
def State.policyMode (s : State) (i : Nat) : Nat := s.val ((0x8010 + i) * 256 + 1)

/-- The selector a policy is tied to (R789); FALLOW is tied to none. -/
def policySplit (i : Nat) : Nat := match i with | 0 => 8 | 1 => 3 | 2 => 4 | 3 => 7 | 4 => 6 | 5 => 5 | _ => 0

/-- The mode a policy runs in: Auto acts as Advise while its function is host-assisted (R788). -/
def State.policyRuns (s : State) (i : Nat) : Nat :=
  let m := s.policyMode i
  if m = 2 && policySplit i != 0 && s.splitMode (policySplit i) then 1 else m

/-- The policy that governs an object (R789). -/
def policyOf (k : Nat) : Option Nat :=
  if k = O.powerCap then some 0
  else if k = O.migHotThreshold then some 1
  else if k = O.scrubRate || k = O.wearSpread then some 2
  else if decide (0x7100 ≤ k / 256) && decide (k / 256 < 0x7900) && k % 256 = 6 && srcEscalates (k / 256 - 0x7100) then some 4
  else if k = O.residentMax then some 5
  else if k = O.pwrRequest then some 6
  else none

/-- The governed value an object holds: of a source's setting, its ESC_COUNT. -/
def governed (k v : Nat) : Nat := if k % 256 = 6 && 0x7100 ≤ k / 256 then fld v 15 8 else v

/-- Write an entry of the decision log (R793): newest first, at most 1,024; one that overwrites another is counted. -/
def State.logDecision (s : State) (policy outcome reason : Nat) (idx sub old new : Nat) (measure : Int) (route : Nat := 0) : State :=
  let n := s.val O.logSeq
  let d : Decision := { seq := n, policy := policy, outcome := outcome, reason := reason, timeValid := s.timeValid, route := route,
                        idx := idx, sub := sub, old := old, new := new, measure := measure, time := s.rackTime }
  let full := decide (1024 ≤ s.stw.log.length)
  let s : State := { s with stw := { s.stw with log := d :: s.stw.log.take 1023 } }
  let s := (s.setVal O.logSeq ((n + 1) % 2 ^ 32)).bump O.decisions
  let s := if full then s.bump O.logOverwritten else s
  s.setVal ((0x8010 + policy) * 256 + 2) n

/-- The 32 bytes of an entry (R793). -/
def Decision.bytes (d : Decision) : List Byte :=
  natLe 4 d.seq ++ [BitVec.ofNat 8 d.policy, BitVec.ofNat 8 d.outcome, BitVec.ofNat 8 d.reason, BitVec.ofNat 8 (b2n d.timeValid + 2 * d.route)]
    ++ natLe 2 d.idx ++ [BitVec.ofNat 8 d.sub, 0] ++ natLe 4 d.old ++ natLe 4 d.new ++ natLe 4 (toTwos 32 d.measure) ++ natLe 8 d.time

/-- LOG as READ_BLOCK gives it: entry n at offset (n mod 1,024) * 32. -/
def State.logBytes (s : State) : List Byte :=
  (List.range 1024).flatMap (fun k => match s.stw.log.find? (fun d => d.seq % 1024 == k) with
    | some d => d.bytes
    | none => List.replicate 32 0)

/-! ### Base values and overrides (R790-R792) -/

/-- The base value of a governed object: what it held before its policy moved it, or what it holds. -/
def State.baseValue (s : State) (k : Nat) : Nat := (kvFind s.stw.base k).getD (governed k (s.val k))

/-- Write a governed object. -/
def State.setGoverned (s : State) (k v : Nat) : State :=
  if k % 256 = 6 && 0x7100 ≤ k / 256 then s.setVal k (setFld (s.val k) 15 8 v) else s.setVal k v

/-- A policy moves an object; its base is kept until it stands at it again. -/
def State.moveGoverned (s : State) (k v : Nat) : State :=
  let b := s.baseValue k
  let base := if v = b then kvErase s.stw.base k else kvPut s.stw.base k b
  ({ s with stw := { s.stw with base := base } } : State).setGoverned k v

/-- Number of a route in the log. -/
def routeCode (r : Route) : Nat := match r with | .F => 0 | .H => 1 | .M => 2

/-- A route has written a governed object (R792): the value is the new base, and while its policy runs this is an
override. `old` is the value before. -/
def State.overrideBy (s : State) (route : Route) (k old : Nat) : State :=
  match policyOf k with
  | none => s
  | some i =>
    let s : State := { s with stw := { s.stw with base := kvErase s.stw.base k } }
    if s.policyMode i = 0 then s
    else
      let new := governed k (s.val k)
      let s := s.logDecision i 2 0x81 (k / 256) (k % 256) (governed k old) new 0 (routeCode route)
      { s with stw := { s.stw with holds := kvPut s.stw.holds k (s.now + s.val O.overrideHoldS * 1000000000) } }

/-- A policy's object is held by an override. -/
def State.overridden (s : State) (k : Nat) : Bool := match kvFind s.stw.holds k with | some t => decide (s.now < t) | none => false

/-- A policy is turned Off or Advise (R790): each object it has moved returns to its base, logged RESTORED. -/
def State.restorePolicy (s : State) (i : Nat) : State :=
  s.each (s.stw.base.filter (fun e => policyOf e.1 == some i)) (fun s e =>
    let old := governed e.1 (s.val e.1)
    let cap := s.capReason
    ((s.moveGoverned e.1 e.2).noteReason cap).logDecision i 4 0x80 (e.1 / 256) (e.1 % 256) old e.2 0)

/-- A write of a policy's MODE. -/
def State.policyModeOp (s : State) (i v : Nat) : State × Nat :=
  if 2 < v then (s, Od.range)
  else
    let s := s.setVal ((0x8010 + i) * 256 + 1) v
    (if v = 2 then s else s.restorePolicy i, 0)

/-- POLICY_MODE_WRITE. -/
def execPolicyModeWrite (policy : Fin 7) (route : Route) (val : Byte) (s : State) : Out :=
  .next (if s.served route ((0x8010 + policy) * 256 + 1) then (s.policyModeOp policy val.toNat).1 else s)

end Sys2Proof.Machine
end

