-- ==== Sys2Proof/Machine/DictRead.lean ====
section
/-! DEFINITION. What every dictionary object reads (R163-R171, and the object tables of every chapter): a stored value, or a
view of the state it names. -/

namespace Sys2Proof.Machine

/-- What a table by route holds for a route. -/
def routeGet {α : Type} (d : α) (l : List (Route × α)) (r : Route) : α :=
  match l.find? (fun e => e.1 == r) with | some e => e.2 | none => d

/-- A table by route with an entry replaced. -/
def routeSet {α : Type} (l : List (Route × α)) (r : Route) (v : α) : List (Route × α) :=
  l.filter (fun e => !(e.1 == r)) ++ [(r, v)]

/-- A mask of the numbers below n that satisfy f. -/
def maskOf (n : Nat) (f : Nat → Bool) : Nat := ((List.range n).filter f).foldl (fun m i => m + 2 ^ i) 0

/-- Whole seconds left until a moment. -/
def State.secondsLeft (s : State) (t : Option Nat) : Nat := match t with | some t => (t - s.now + 999999999) / 1000000000 | none => 0

/-- An RWP object with Persist P differs from its committed value (PERSIST_DIRTY). -/
def State.dirty (s : State) : Bool :=
  let base (k : Nat) : Nat := s.val k
  s.od.any (fun e => rwpP e.1 && kvGet (odDefault e.1) s.stored.vals e.1 != base e.1)
    || s.stored.vals.any (fun e => rwpP e.1 && e.2 != s.val e.1)

/-! ### Codes of states -/

def CommitState.code : CommitState → Nat | .idle => 0 | .pending => 1 | .busy => 2 | .done => 3 | .failed => 4
def FwStatus.code : FwStatus → Nat
  | .idle => 0 | .erasing => 1 | .receiving => 2 | .verifying => 3 | .verified => 4 | .failed => 5 | .activating => 6
def Ltssm.code : Ltssm → Nat
  | .detect => 0 | .polling => 1 | .configuration => 2 | .l0 => 3 | .recovery => 4 | .l1 => 5 | .l11 => 6 | .l12 => 7
  | .disabled => 8 | .hotReset => 9 | .loopback => 10
def PState.code : PState → Nat
  | .gated => 0 | .waking => 1 | .idle => 2 | .loading => 3 | .scrubbing => 4 | .running => 5 | .halting => 6 | .fenced => 7
def PortState.code : PortState → Nat
  | .off => 0 | .training => 1 | .ident => 2 | .up => 3 | .half => 4 | .refused => 5 | .down => 6
def RtState.code : RtState → Nat | .unset => 0 | .aligned => 1 | .freeRun => 2 | .holdover => 3
def MgrState.code : MgrState → Nat | .idle => 0 | .forming => 1 | .active => 2 | .halted => 3 | .restarting => 4
def FtlState.code : FtlState → Nat
  | .ready => 0 | .replaying => 1 | .formatting => 2 | .readOnly => 3 | .off => 4 | .host => 5
def LotState.code : LotState → Nat
  | .free => 0 | .empty => 1 | .ready => 2 | .draft => 3 | .rotating => 4 | .deleting => 5
def RotState.code : RotState → Nat
  | .queued => 0 | .sowing => 1 | .sown => 2 | .reaping => 3 | .done => 4 | .failed => 5 | .abandoned => 6

/-! ### Views, by range of indices -/

/-- The rest of the boot control in use: an image's status (R161): valid, bad or empty. -/
def Headland.imageStatus (h : Headland) (i : Nat) : Nat := if !bit h.full i then 2 else b2n (bit h.boot.bad i)

/-- Version word of an image slot; 0 if empty. -/
def Headland.version (h : Headland) (i : Nat) : Nat := if !bit h.full i then 0 else if i = 0 then h.verA else h.verB

/-- START_PHASE (R161): what a start-up has stored, and from the firmware's start on its progress by the clock. -/
def State.startPhaseCode (s : State) : Nat :=
  match s.pwr.powerAt with
  | some t =>
    if s.pwr.mode == .starting && s.val O.startPhase = 1 then
      (if s.now < t then 2 else if !s.gateReady then 3 else 4)
    else s.val O.startPhase
  | none => s.val O.startPhase

/-- 0x1000-0x1FFF: identity, communication, persistence, reset and boot. -/
def State.view1 (s : State) (r : Route) (k : Nat) : Option Nat :=
  match k with
  | 0x100005 => some Config.serial
  | 0x100006 => some (Config.macAddr % 2 ^ 48)
  | 0x100007 => some Config.mfgDate
  | 0x100008 => some Config.carrierRev
  | 0x100009 => some (if s.hl.running then s.hl.version s.hl.image else 0)
  | 0x10000A => some Config.bootRomVersion
  | 0x110004 => some s.hop.plca
  | 0x111001 => some s.hop.nonce
  | 0x113002 => some s.slice.mgrAddr
  | 0x120002 => some (if s.dict.again then 1 else s.dict.commit.code)
  | 0x120004 => some s.bank.seq
  | 0x120006 => some (b2n s.dirty)
  | 0x121001 => some (s.lockHeld r)
  | 0x121002 => some (s.lockHeld .F)
  | 0x121003 => some (s.lockHeld .H)
  | 0x121004 => some (s.lockHeld .M)
  | 0x188101 => some s.startPhaseCode
  | 0x188202 => some ((s.pwr.scrub.map (fun e => e.2 - e.1)).foldl (· + ·) 0)
  | 0x188401 => some s.hl.image
  | 0x188402 => some (if s.hl.bootState = 0 && s.hl.fallback then 2 else s.hl.bootState)
  | 0x188403 => some (if s.hl.boot.pending.isSome then s.hl.boot.trials else 0)
  | 0x188404 => some (s.hl.imageStatus 0)
  | 0x188405 => some (s.hl.imageStatus 1)
  | 0x188406 => some s.hl.boot.seq
  | 0x188501 => some (maskOf 16 (fun n => (s.plot n).state == .fenced))
  | 0x188503 => some (maskOf 16 (fun n => (s.plot n).state == .fenced))
  | 0x189001 => some (1 - s.hl.image)
  | 0x189004 => some s.fw.status.code
  | 0x189008 => some (s.hl.version 0)
  | 0x189009 => some (s.hl.version 1)
  | 0x18900A => some (match s.fw.owner with | none => 0 | some .F => 1 | some _ => 2)
  | 0x18900B => some s.fw.received
  | _ => none

/-- The hottest working sensor (R92): its number, and its reading after the offset. -/
def State.hottestOf (s : State) : Nat :=
  (List.range 90).foldl (fun b n => if s.reading b < s.reading n then n else b) 0

/-- PWR_STATE (R69). -/
def State.pwrStateCode (s : State) : Nat :=
  match s.pwr.mode with
  | .up => if (List.range 16).any (fun n => (s.plot n).powered) then 2 else 1
  | .fallow => 0
  | _ => 3

/-- The reference clock and CLKREQ# as the module sees them: known while the link is up, else what the host drives. -/
def State.hostPins (s : State) : Nat :=
  let sub := s.link.ltssm == .l11 || s.link.ltssm == .l12
  if s.link.up && !sub then 0x30 else if s.link.up then 0x20 * (Config.freeValue s.free % 2) else 0x10 * (Config.freeValue s.free % 4)

/-- SIGNAL_LIVE. -/
def State.signalLive (s : State) : Nat :=
  b2n s.pwr.perst + 2 * b2n s.pwr.modrst + 4 * b2n s.pwr.shed + 8 * b2n s.pwr.tripped + s.hostPins + 0x40 * b2n s.pwr.refValid
    + 0x80 * b2n (match s.time.lastSeen with | some t => decide (s.now ≤ t + 1100000) | none => false)

/-- PLL_LOCK. -/
def State.pllLock (s : State) : Nat :=
  s.plotPlls.foldl (fun m n => m + 2 ^ n) 0 + 0x10000 * b2n s.pllOn + 0x20000 * b2n (s.pllOn && s.dieOn 0) + 0x40000 * b2n (s.pllOn && s.dieOn 1)
    + 0x80000 * b2n s.pwr.hfast + 0x100000 * (s.pwr.holdover % 16)

/-- 0x2000-0x2FFF: power, clocks, thermal, calibration. DESIGN CHOICE (log entry 163): CAL_UNLOCK_LEFT reads the longer of the two
routes' unlocks, in whole seconds rounded up, whoever reads it. -/
def State.view2 (s : State) (k : Nat) : Option Nat :=
  match k with
  | 0x200001 => some s.pwrStateCode
  | 0x200004 => some (maskOf 16 (fun n => (s.plot n).powered))
  | 0x202004 => some s.throttle
  | 0x202104 => some s.capReason
  | 0x203001 => some (b2n s.pwr.shed)
  | 0x204001 => some (b2n (!s.pwr.tickRef))
  | 0x204002 => some (b2n s.pwr.refValid)
  | 0x204005 => some s.pllLock
  | 0x205001 => some s.domainOn
  | 0x206001 => some (toTwos 16 (s.reading s.hottestOf))
  | 0x206002 => some s.hottestOf
  | 0x206301 => some (b2n s.pwr.tripped)
  | 0x207001 => some s.signalLive
  | 0x280102 => some (b2n (s.unlocked .F) + 2 * b2n (s.unlocked .H))
  | 0x280103 => some (max (s.secondsLeft s.cal.unlockF) (s.secondsLeft s.cal.unlockH))
  | _ => if k / 256 = 0x2061 then some (toTwos 16 (s.reading (k % 256 - 1))) else none

/-- COH_STATUS.ACTIVE (R509). -/
def State.cohActive (s : State) : Bool := s.cxlOn

/-- 0x3000-0x4FFF: host link, furrows, Plat, Drill, plots, stakes. -/
def State.view3 (s : State) (k : Nat) : Option Nat :=
  match k with
  | 0x300001 => some (b2n s.link.up)
  | 0x300002 => some (if s.link.up then s.link.speed else 0)
  | 0x300003 => some (if s.link.up then s.link.width else 0)
  | 0x300004 => some (b2n (s.link.up && s.link.flit))
  | 0x300005 => some s.link.protocol
  | 0x300006 => some s.link.ltssm.code
  | 0x300007 => some (if s.link.up then s.link.l0pWidth else 0)
  | 0x30100C => some (b2n s.host.frozen)
  | 0x31000B => some s.furrowsOn.length
  | 0x320101 => some (b2n s.plat.mode)
  | 0x320103 => some s.plat.cache.length
  | 0x320104 => some (s.plat.parcels.filter (fun p => p.2.valid)).length
  | 0x320105 => some s.ctxsValid.length
  | 0x320201 => some (b2n s.flt.mode)
  | 0x320401 => some (b2n s.mig.hostMode)
  | 0x32040B => some s.mig.counters.length
  | 0x320501 => some (b2n s.cohActive)
  | 0x320502 => some s.coh.snoopFilter.length
  | 0x480001 => some s.g.waits.length
  | 0x480102 => some (s.val O.splitStakeTo)
  | _ =>
    if k / 256 = 0x4001 then
      let x := s.plot (k % 256 - 1)
      some (if x.off then PState.gated.code else x.state.code)
    else none

/-- PORT_STATUS of a port. -/
def Port.word (x : Port) : Nat :=
  x.state.code + x.lanes % 16 * 2 ^ 4 + x.peer % 4096 * 2 ^ 8 + x.peerPort % 16 * 2 ^ 20 + x.reason % 16 * 2 ^ 24

/-- 0x5000-0x5FFF: location, fabric, time, slices. -/
def State.view5 (s : State) (k : Nat) : Option Nat :=
  match k with
  | 0x500006 => some s.pwr.pins
  | 0x500102 => some (s.pwr.pins &&& s.val O.gpEnable)
  | 0x502001 => some s.time.state.code
  | 0x502002 => some s.rackTime
  | 0x502003 => some s.time.epoch
  | 0x502008 => some (toTwos 32 s.time.lastError)
  | 0x503001 => some s.slice.state.code
  | 0x503002 => some s.slice.id
  | 0x503003 => some s.slice.index
  | 0x503004 => some s.slice.count
  | 0x503008 => some s.slice.haltCause
  | 0x503009 => some s.slice.haltSource
  | 0x50300B => some s.slice.barrier
  | 0x504001 => some s.mgr.state.code
  | _ => match k / 256 with
    | 0x5010 => some (s.port (k % 256 - 1)).word
    | 0x5013 => some ((s.port (k % 256 - 1)).timing % 65536 + (s.port (k % 256 - 1)).voltage % 65536 * 65536)
    | 0x5050 => some (s.tramRoute (k % 256 - 1))
    | _ => none

/-- Cycle counts in force: of the bands, or of the blocks in host-assisted mode. -/
def State.peAll (s : State) : Nat × Nat × Nat :=
  if s.seed.state == .host then
    let good := 131072 - s.seed.bad.length
    let l := s.seed.blocks.map (fun e => e.2.pe)
    let f := s.seed.formats
    (f + (if l.length < good then 0 else l.foldl min (l.foldl max 0)), f + l.foldl (· + ·) 0 / max 1 good, f + l.foldl max 0)
  else (s.peMin, s.peAvg, s.peMax)

/-- Bytes a lot stores: the sectors of both generations. -/
def Lot.stored (l : Lot) : Nat := (l.gens.map (fun (g : Gen) => (sectorsOf g.data).length * sectorBytes)).foldl (· + ·) 0

/-- The lot a route selected. -/
def State.selLot (s : State) (r : Route) : Lot := s.lot (routeGet 0 s.rot.lotSel r)

/-- The entry a route selected, in the queue or among the last 64 that left it. -/
def State.selEntry (s : State) (r : Route) : Option RotEntry :=
  let t := routeGet 0 s.rot.rotSel r
  match s.entry t with
  | some e => some e
  | none => s.rot.past.find? (fun e => e.ticket == t)

/-- 0x6000-0x6FFF: seedbank, lots, rotation. -/
def State.view6 (s : State) (r : Route) (k : Nat) : Option Nat :=
  let l := s.selLot r
  let ent (f : RotEntry → Nat) (d : Nat) : Option Nat := some (match s.selEntry r with | some e => f e | none => d)
  match k with
  | 0x600101 => some (b2n (s.splitMode 4))
  | 0x600102 => some s.seed.state.code
  | 0x601001 => some s.peAll.1
  | 0x601002 => some s.peAll.2.1
  | 0x601003 => some s.peAll.2.2
  | 0x601004 => some (min 255 (s.peAll.2.1 * 100 / 3000))
  | 0x601005 => some Config.spareInitial
  | 0x601006 => some s.spareLeft
  | 0x601007 => some Config.factoryBad
  | 0x601011 => some ((s.now - (s.seed.bands.map (fun e => e.2.readAt)).foldl min s.now) / 3600000000000)
  | 0x610003 => some (s.seed.lots.filter (fun e => !(e.2.state == .free))).length
  | 0x610005 => some s.lotReserved
  | 0x610006 => some (routeGet 0 s.rot.lotSel r)
  | 0x610101 => some l.state.code
  | 0x610102 => some l.pasid
  | 0x610103 => some l.size
  | 0x610104 => some l.dlvBase
  | 0x610105 => some l.rights
  | 0x610106 => some l.newest
  | 0x610107 => some (match l.gens with | _ :: g :: _ => g.num | _ => noGen)
  | 0x610108 => some (b2n (match l.gens with | g :: _ => !g.damaged.isEmpty | [] => false)
      + 2 * b2n (match l.gens with | _ :: g :: _ => !g.damaged.isEmpty | _ => false)
      + 4 * b2n (match l.draft with | some d => d.tainted | none => false))
  | 0x610109 => some l.stored
  | 0x620001 => some (s.val O.splitRotation)
  | 0x620004 => some (routeGet 0 s.rot.submitted r)
  | 0x620009 => some ((s.rot.entries.filter (fun e => e.state == .queued)).length % 512 + 2 ^ 16 * b2n s.rot.waitPool
      + 2 ^ 17 * b2n s.rot.quarantined + 2 ^ 18 * b2n s.sowing.isSome + 2 ^ 19 * b2n s.reaping.isSome)
  | 0x62000A => some s.acresFree.length
  | 0x620012 => some (routeGet 0 s.rot.rotSel r)
  | 0x620101 => ent (fun e => e.state.code) 7
  | 0x620102 => ent (fun e => leNat e.raw) 0
  | 0x620103 => ent (fun e => e.code) 0
  | 0x620104 => ent (fun e => e.genSown) noGen
  | 0x620105 => ent (fun e => e.genCommitted) noGen
  | 0x620106 => ent (fun e => b2n e.held + 2 * b2n e.limitPassed) 0
  | 0x620107 => ent (fun e => e.tSown) 0
  | 0x620108 => ent (fun e => e.tDone) 0
  | _ => none

/-- Sticky overflow bits of counters that the collector keeps, in the places of R216. -/
def ovfBits (l : List (Nat × Bool)) : Nat := l.foldl (fun m e => m ||| (if e.2 then 2 ^ (e.1 - 1) else 0)) 0

/-- 0x7000-0xFFFF: fault collector, steward, forcing. -/
def State.view7 (s : State) (k : Nat) : Option Nat :=
  let i := k / 256
  if 0x7100 ≤ i && i < 0x7900 then
    let n := i - 0x7100
    match k % 256 with
    | 1 => some (s.srcStatus n)
    | 2 => some (s.src n).events
    | 3 => some (s.src n).lost
    | 4 => some (s.src n).recoveries
    | 7 => some (leNat (s.srcFirst n))
    | 0xFE => some (ovfBits [(2, (s.src n).eventsOvf), (3, (s.src n).lostOvf), (4, (s.src n).recoveriesOvf)])
    | _ => none
  else match k with
    | 0x700001 => some (b2n s.fc.mode)
    | 0x700002 => some s.fc.queue.length
    | 0x700003 => some s.fatalUsed
    | 0x700005 => some s.fc.dropped
    | 0x700006 => some s.fc.lost
    | 0x70000B => some s.fc.railFault
    | 0x7000FE => some (s.val k ||| ovfBits [(5, s.fc.droppedOvf), (6, s.fc.lostOvf)])
    | 0x800001 => some (b2n (s.splitMode 1))
    | 0x800002 => some (b2n (s.splitMode 2))
    | 0x800003 => some (b2n (s.splitMode 3))
    | 0x800004 => some (b2n (s.splitMode 4))
    | 0x800006 => some (b2n (s.splitMode 6))
    | 0x80000A => some s.splitPendingBits
    | 0xF00002 => some (s.secondsLeft s.fc.armedUntil)
    | _ => if i = 0xF100 then some 0 else none

/-- The value of an object as a route reads it: a view, or what is stored. -/
def State.odLive (s : State) (r : Route) (k : Nat) : Nat :=
  let v := match k / 0x100000 with
    | 1 => s.view1 r k
    | 2 => s.view2 k
    | 3 => s.view3 k
    | 4 => s.view3 k
    | 5 => s.view5 k
    | 6 => s.view6 r k
    | _ => s.view7 k
  v.getD (s.val k)

/-- The bytes of a DOM that can be read. -/
def State.domBytes (s : State) (k : Nat) : List Byte :=
  match k with
  | 0x504003 => s.mgr.members.flatMap (fun a => natLe 2 a)
  | 0x504004 => s.mgr.spares.flatMap (fun a => natLe 2 a)
  | 0x504005 => s.mgr.tramlines.flatMap (fun t => natLe 2 t.a ++ natLe 1 t.pa ++ natLe 2 t.b ++ natLe 1 t.pb ++ natLe 2 0)
  | 0x50400A => s.mgr.faultLog.flatMap (fun e => natLe 8 e.1 ++ e.2.payload)
  | 0x50400C => s.mgr.excluded.flatMap (fun a => natLe 2 a)
  | 0x603001 => (List.range 16384).map (fun j => BitVec.ofNat 8 (maskOf 8 (fun b => s.seed.bad.contains (8 * j + b))))
  | 0x700201 => (s.fc.fatalLog.flatMap recordLayout) ++ List.replicate (32 * (16 - s.fc.fatalLog.length)) 0
  | 0x800104 => s.logBytes
  | _ => []

/-! ### Where objects are held (R837) -/

/-- The object is volatile: not an RWP object with Persist P. -/
def volatileObj (k : Nat) : Bool := !rwpP k

/-- The domain of an object is off (R171, R837). -/
def State.odOff (s : State) (k : Nat) : Bool :=
  let i := k / 256
  let on := s.gcoreOn
  let gcore := i == 0x3100 || (decide (0x3200 ≤ i) && decide (i ≤ 0x3205)) || i == 0x3300 || i == 0x4000 || (decide (0x4800 ≤ i) && decide (i ≤ 0x4801))
  let tram := (decide (0x5010 ≤ i) && decide (i ≤ 0x5016)) || i == 0x5020 || (decide (0x5030 ≤ i) && decide (i ≤ 0x5050))
  volatileObj k && !on && (gcore || (tram && k != O.sliceAccept))

/-- While the seedbank replays, lot and rotation objects are refused (R704). -/
def State.odBusy (s : State) (k : Nat) : Bool :=
  (k / 256 == 0x6100 || k / 256 == 0x6101 || k / 256 == 0x6200 || k / 256 == 0x6201) && s.seed.state == .replaying

end Sys2Proof.Machine
end

