-- ==== Sys2Proof/Machine/Persist.lean ====
section
/-! DEFINITION. Persistence commits (R173-R178), locks (R183), the field key (R203) and the firmware update (R219). -/

namespace Sys2Proof.Machine

/-! ### Commits -/

/-- A route's commit falls due (R174, R176): it merges with one that is pending, or stands pending behind one that runs. -/
def State.commitOp (s : State) : State :=
  match s.dict.commit with
  | .pending => { s with dict := { s.dict with own := false } }
  | .busy => { s with dict := { s.dict with again := true, againOwn := false } }
  | _ => { s with dict := { s.dict with commit := .pending, own := false } }

/-- The values a commit stores (R174, R177, R786, R791): the Headland's own persistent counters; and of a route's commit every
RWP object with Persist P, one that a policy has moved at its base, of the Headland's own what was committed before, and
SPLIT_FTL. -/
def State.snapshotVals (s : State) : List (Nat × Nat) :=
  let put (m : List (Nat × Nat)) (e : Nat × Nat) : List (Nat × Nat) := kvSet (odDefault e.1) m e.1 e.2
  let rwp :=
    if s.dict.own then kvSet (odDefault O.splitFtl) (s.stored.vals.filter (fun e => rwpP e.1)) O.splitFtl (s.val O.splitFtl)
    else
      (s.stw.base.filter (fun e => rwpP e.1)).foldl (fun m e => put m (e.1,
        if e.1 % 256 = 6 && 0x7100 ≤ e.1 / 256 then setFld (s.val e.1) 15 8 e.2 else e.2)) (s.od.filter (fun e => rwpP e.1))
  (s.od.filter (fun e => ownCounter e.1)).foldl put rwp

/-- PERSIST_COMMIT_START: at most once a second (R176). -/
def execPersistCommitStart (s : State) : Out :=
  if !s.hl.running || !(s.dict.commit == .pending) then .next s
  else
    let s := match s.dict.lastStart with | some t => s.until_ (t + 1000000000) | none => s
    let snap := s.snapshotVals
    let torn (b : Bank) : Bank := { b with crcOk := false }
    let banks := if s.dict.bankB then (torn s.dict.banks.1, s.dict.banks.2) else (s.dict.banks.1, torn s.dict.banks.2)
    .next { s with dict := { s.dict with commit := .busy, lastStart := some s.now, snapshot := snap, banks := banks } }

/-- PERSIST_COMMIT_DONE: the bank written becomes the bank in use (R175). -/
def execPersistCommitDone (s : State) : Out :=
  if !s.hl.running || !(s.dict.commit == .busy) then .next s
  else
    let d := s.dict
    let commits := (s.val O.persistCommits + 1) % 2 ^ 32
    let b : Bank := { seq := (s.bank.seq + 1) % 2 ^ 32, vals := kvSet 0 d.snapshot O.persistCommits commits, log := s.fc.fatalLog, bad := s.seed.bad }
    let s : State := { s with dict := { d with
      banks := (if d.bankB then (b, d.banks.2) else (d.banks.1, b)), bankB := !d.bankB, snapshot := [],
      commit := (if d.again then .pending else .done), own := d.again && d.againOwn, again := false, againOwn := false } }
    .next (s.setVal O.persistCommits commits)

/-- Every RWP object with Persist P takes its default (R178); a governed object stands at its base again, a selector
switches, the seedbank's by its format (log entry 125). -/
def State.toDefaults (s : State) : State :=
  let ftl := s.val O.splitFtl == 1
  let moved := [5, 7].filter (fun k => s.splitMode k)
  let old := s.capReason
  let s : State := { s with od := s.od.filter (fun e => !rwpP e.1), stw := { s.stw with base := [] },
                            dict := { s.dict with subs := [] } }
  let s := if ftl then s.formatOp else s
  let s := s.each moved (fun s _ => s.splitDone)
  (s.noteReason old).refreshPorts

/-- A write of PERSIST_DEFAULTS. -/
def State.defaultsOp (s : State) (key : Nat) : State × Nat :=
  if key != 0xDEF00001 then (s, Od.keyWrong)
  else
    let s := s.toDefaults
    (({ s with fc := { s.fc with fatalLog := [] } } : State).commitOp, 0)

/-- PERSIST_COMMIT. -/
def execPersistCommit (route : Route) (val : Byte) (s : State) : Out :=
  .next (if s.served route 0x120001 && val == 1 then s.commitOp else s)

/-- PERSIST_DEFAULTS. -/
def execPersistDefaults (route : Route) (key : Word32) (s : State) : Out :=
  .next (if s.served route 0x120003 then (s.defaultsOp key.toNat).1 else s)

/-! ### Locks (R183) -/

/-- A write of LOCK_REQUEST: the groups no other route holds. -/
def State.lockOp (s : State) (r : Route) (mask : Nat) : State :=
  let others := ([Route.F, Route.H, Route.M].filter (fun q => !(q == r))).foldl (fun m q => m ||| s.lockHeld q) 0
  let grant := maskOf 16 (fun g => bit mask g && !bit others g)
  { s with dict := { s.dict with locks := routeSet s.dict.locks r (grant, s.now + 10000000000) } }

/-- LOCK_REQUEST: reserved bits are refused. -/
def execLockRequest (route : Route) (mask : Half) (s : State) : Out :=
  .next (if s.hl.running && mask.toNat &&& 0x81FE == mask.toNat then s.lockOp route mask.toNat else s)

/-- LOCK_EXPIRY. -/
def execLockExpiry (route : Route) (s : State) : Out :=
  match s.dict.locks.find? (fun e => e.1 == route) with
  | none => .next s
  | some e =>
    let s := s.until_ e.2.2
    .next { s with dict := { s.dict with locks := s.dict.locks.filter (fun x => !(x.1 == route)) } }

/-! ### The field key (R199, R203) -/

/-- A new session: a nonce is drawn, and nothing has been accepted under it (R199, R200). -/
def State.newSession (s : State) : State :=
  let d := s.draw
  { d.2 with hop := { d.2.hop with nonce := d.1 % 2 ^ 32, high := 0, window := 0, kept := [] } }

/-- A write of HOP_KEY_SWITCH. -/
def State.keySwitchOp (s : State) : State × Nat :=
  match s.hop.staged with
  | none => (s, Od.state)
  | some k =>
    let s : State := { s with hop := { s.hop with key := some k, staged := none } }
    ((s.newSession.setVal O.hopKeyGen ((s.val O.hopKeyGen + 1) % 2 ^ 32)).ownCommit, 0)

/-- HOP_KEY_SWITCH. -/
def execHopKeySwitch (route : Route) (val : Byte) (s : State) : Out :=
  .next (if s.served route 0x111004 && val == 1 then s.keySwitchOp.1 else s)

/-! ### Firmware update (R219, R142) -/

/-- The firmware-update objects are served: by the firmware, or in ROM recovery to the field route (R168). -/
def State.fwServed (s : State) (r : Route) (k : Nat) : Bool := s.served r k || (s.hl.bootState == 3 && !s.hl.running && r == .F)

/-- The slot a download writes: the inactive one. DESIGN CHOICE (log entry 160): while an image runs on trial that is the slot that
is not running. -/
def State.fwSlot (s : State) : Nat := 1 - s.hl.image

/-- Another route owns the download (R185). -/
def State.fwOwned (s : State) (r : Route) : Bool := match s.fw.owner with | some o => !(o == r) | none => false

/-- A write of FW_BEGIN: the inactive slot is erased. -/
def State.fwBeginOp (s : State) (r : Route) (len : Nat) : State × Nat :=
  if s.fwOwned r then (s, Od.locked)
  else if len = 0 || 3997696 < len then (s, Od.range)
  else if s.fw.status == .idle || s.fw.status == .verified || s.fw.status == .failed then
    let i := s.fwSlot
    ({ s with fw := { status := .erasing, owner := some r, length := len, lastOp := s.now },
              hl := { s.hl with full := setBit s.hl.full i false, genuine := setBit s.hl.genuine i false } }, 0)
  else (s, Od.state)

/-- A WRITE_BLOCK to FW_DATA of n bytes. Out of the sequence there is no offset for it to have (STATE); in it, any offset but the
next is refused with RANGE. -/
def State.fwDataOp (s : State) (r : Route) (off n : Nat) : State × Nat :=
  if s.fwOwned r then (s, Od.locked)
  else if off % 4 != 0 || n = 0 || 1024 < n then (s, Od.range)
  else if !(s.fw.status == .receiving) then (s, Od.state)
  else if off != s.fw.received || s.fw.length < off + n then (s, Od.range)
  else ({ s with fw := { s.fw with received := off + n, lastOp := s.now }, hl := { s.hl with full := setBit s.hl.full s.fwSlot true } }, 0)

/-- A write of FW_VERIFY: the check of R140 begins once the length is reached. -/
def State.fwVerifyOp (s : State) (r : Route) : State × Nat :=
  if s.fwOwned r then (s, Od.locked)
  else if s.fw.status == .receiving && s.fw.received == s.fw.length then
    ({ s with fw := { s.fw with status := .verifying, lastOp := s.now } }, 0)
  else (s, Od.state)

/-- The check ends: the image is genuine, with a version word, or not. -/
def State.fwVerified (s : State) (ok : Bool) (version : Nat) : State :=
  let i := s.fwSlot
  let hl := { s.hl with genuine := setBit s.hl.genuine i ok,
                        verA := (if i = 0 then version else s.hl.verA), verB := (if i = 0 then s.hl.verB else version) }
  { s with fw := { s.fw with status := (if ok then .verified else .failed), owner := none, version := version },
           hl := hl.setBoot (fun c => { c with bad := setBit c.bad i (!ok) }) }

/-- A write of FW_ACTIVATE: the slot is pending with 3 trial boots; the Headland resets, or in ROM recovery starts the image. -/
def State.fwActivateOp (s : State) (key : Nat) (crcOk : Bool) : State × Nat :=
  if key != 0xF1A5C0DE then (s, Od.keyWrong)
  else if !(s.fw.status == .verified) then (s, Od.state)
  else
    let i := s.fwSlot
    let rom := !s.hl.running
    let hl := s.hl.setBoot (fun c => { c with pending := some i, trials := (if rom then 2 else 3) })
    let s : State := { s with hl := { hl with fallback := false }, fw := { s.fw with status := .activating, owner := none } }
    if rom then ((s.cause 6).jump_ i 1, 0)
    else if s.cal.busy.isSome then ({ s with cal := { s.cal with resetWaits := true } }, 0)
    else ((s.cause 6).headlandReset crcOk, 0)

/-- A write of FW_CONFIRM. -/
def State.fwConfirmOp (s : State) (r : Route) : State × Nat :=
  if s.fwOwned r then (s, Od.locked)
  else if s.hl.running && s.hl.bootState == 1 then (s.confirmOp, 0)
  else (s, Od.state)

/-- FW_BEGIN. -/
def execFwBegin (route : Route) (len : Word32) (s : State) : Out :=
  .next (if s.fwServed route 0x189002 then (s.fwBeginOp route len.toNat).1 else s)

/-- FW_ERASE_DONE. -/
def execFwEraseDone (s : State) : Out :=
  if s.fw.status == .erasing then .next { s with fw := { s.fw with status := .receiving } } else .next s

/-- FW_DATA. -/
def execFwData (route : Route) (off : Word32) (data : List Byte) (s : State) : Out :=
  .next (if s.fwServed route 0x189003 then (s.fwDataOp route off.toNat data.length).1 else s)

/-- FW_VERIFY: the write and the check it starts, or the end of the check that a WRITE started. -/
def execFwVerify (route : Route) (ok : Bool) (version : Word32) (s : State) : Out :=
  if !s.fwServed route 0x189005 then .next s
  else
    let s := if s.fw.status == .receiving then (s.fwVerifyOp route).1 else s
    .next (if s.fw.status == .verifying then s.fwVerified ok version.toNat else s)

/-- FW_ACTIVATE. -/
def execFwActivate (route : Route) (key : Word32) (crcOk : Bool) (s : State) : Out :=
  .next (if s.fwServed route 0x189006 then (s.fwActivateOp key.toNat crcOk).1 else s)

/-- FW_CONFIRM. -/
def execFwConfirm (route : Route) (val : Byte) (s : State) : Out :=
  .next (if s.fwServed route 0x189007 && val == 1 then (s.fwConfirmOp route).1 else s)

/-- FW_OWNER_EXPIRY: the download ends; what it wrote is no image (log entry 60). -/
def execFwOwnerExpiry (s : State) : Out :=
  match s.fw.owner with
  | none => .next s
  | some _ => .next ((s.until_ (s.fw.lastOp + 10000000000)).tearFw)

end Sys2Proof.Machine
end

