-- ==== Sys2Proof/Machine/DictWrite.lean ====
section
/-! DEFINITION. Writes of dictionary objects: the checks in the order of R836, and the effect of a write (R167-R171). -/

namespace Sys2Proof.Machine

/-! ### The checks (R836) -/

/-- NO_OBJECT, NO_SUBINDEX, the limit of ROM recovery and ROLE_DENIED: a code, or the object's row (R164, R168). -/
def State.lookupObj (s : State) (r : Route) (idx sub : Nat) : Nat × Option ObjRow :=
  match objRows idx with
  | [] => (Od.noObject, none)
  | _ => match objRow? idx sub with
    | none => (Od.noSubindex, none)
    | some row =>
      if s.hl.bootState == 3 && !s.hl.running && !(idx == 0x1000 || idx == 0x1001 || idx == 0x1890) then (Od.state, some row)
      else if !bit row.roles (routeBit r) then (Od.roleDenied, some row)
      else (0, some row)

/-- The type code or the size of a value is wrong (R166); a DOM takes block operations only. -/
def typeBad (row : ObjRow) (ty n : Nat) : Bool :=
  row.ty.code != ty || (match row.ty with | .dom => true | .str _ => false | t => t.size != n)

/-- LOCKED (R183-R185, R768): another route holds the group or owns the object, or an unlock or the arming is missing. -/
def State.objLocked (s : State) (r : Route) (idx sub : Nat) : Bool :=
  s.groupLocked r idx
    || (idx == 0x1890 && s.fwOwned r)
    || ((calItems.contains idx || (idx == 0x2800 && sub == 5)) && !s.unlocked r)
    || ((idx == 0xF001 || idx == 0xF100 || idx == 0xF101) && s.fc.armedUntil.isNone)

/-- KEY_HOLDOFF and KEY_WRONG. -/
def keyCheck (k v : Nat) : Nat :=
  match k with
  | 0x120003 => if v = 0xDEF00001 then 0 else Od.keyWrong
  | 0x188301 => if v = 0x4EAD0000 then 0 else Od.keyWrong
  | 0x189006 => if v = 0xF1A5C0DE then 0 else Od.keyWrong
  | 0x62000B => if v = 0x5EED0A0A then 0 else Od.keyWrong
  | 0xF00001 => if v = 0 || v = 0xF0CE0001 then 0 else Od.keyWrong
  | _ => 0

/-- ROLE_DENIED of a value (R186, R785): a subscription, or its threshold, whose delivery route is not the writer's own, and
SPLIT_CAP to host-assisted mode from another route than the host's. -/
def State.valueDenied (s : State) (r : Route) (k v : Nat) : Bool :=
  let own (w : Nat) : Bool := fld w 29 28 == routeBit r
  let held (n : Nat) : Bool := let old := s.val (O.subscription + n); fld old 26 24 != 0 && !own old
  match k / 256 with
  | 0x1301 => (!own v && fld v 29 28 != 3) || held (k % 256 - 1)
  | 0x1302 => held (k % 256 - 1)
  | _ => k == O.splitCap && v == 1 && !(r == .H)

/-- Conditions of a subscription (R186): it names a numeric subindex that the route may read. DESIGN CHOICE (log entry 157):
a subindex that is not numeric is refused with TYPE_MISMATCH, and with condition 0 what is named is not looked at. -/
def State.subCheck (s : State) (r : Route) (v : Nat) : Nat :=
  if fld v 27 27 != 0 || fld v 31 30 != 0 || fld v 63 48 != 0 || 4 < fld v 26 24 || fld v 29 28 = 3 then Od.range
  else if fld v 26 24 = 0 then 0
  else
    let o := s.lookupObj r (fld v 15 0) (fld v 23 16)
    if o.1 != 0 then o.1
    else match o.2 with
      | none => Od.noObject
      | some row =>
        match row.ty with
        | .dom => Od.typeMismatch
        | .str _ => Od.typeMismatch
        | .oct _ => Od.typeMismatch
        | _ => if fld v 47 32 = 0 then Od.range else 0

/-- The fields of a LOT_CMD (R697). -/
def parseLotCmd (b : List Byte) : LotCmd :=
  { lot := bytesAt b 2 2, pasid := bytesAt b 4 3 % 2 ^ 20, size := bytesAt b 8 2, base := bytesAt b 10 2, rights := bytesAt b 12 1,
    rsv := bytesAt b 1 1 != 0 || 2 ^ 20 ≤ bytesAt b 4 3 || bytesAt b 7 1 != 0 || bytesAt b 13 3 != 0 }

/-- RANGE, and the checks of a subscription (R169, R186, R229). -/
def State.rangeCheck (s : State) (r : Route) (row : ObjRow) (k : Nat) (data : List Byte) : Nat :=
  let v := leNat data
  let bad (b : Bool) : Nat := if b then Od.range else 0
  if (match row.ty with | .str n => decide (n < data.length) | _ => false) then Od.range
  else if !row.range.allows v then Od.range
  else match k / 256 with
    | 0x2062 => bad (decide (sext 16 (thermDefault (k % 256)) < sext 16 v))
    | 0x1301 => s.subCheck r v
    | _ => match k with
      | 0x320405 => bad (decide (65536 < v + s.val O.migParcelCount))
      | 0x320406 => bad (decide (1024 < v) || decide (65536 < s.val O.migParcelFirst + v))
      | 0x503005 => 0
      | 0x50300D => bad (decide (16383 < v) && v != 0xFFFF)
      | 0x610001 => bad (s.lotCmdBad (bytesAt data 0 1) (parseLotCmd data))
      | 0x610006 => bad (decide (16383 < v))
      | 0x620003 => bad (s.rotEntryBad (parseEntry s.rot.next data))
      | 0x620005 => bad (fld v 31 8 != 0 || fld v 7 0 = 0 || 3 < fld v 7 0)
      | 0x620006 => bad (s.rotPoolBad v)
      | 0x620007 => bad (decide (1024 < fld v 9 0 + fld v 26 16))
      | 0x801104 => bad (decide (v < s.val O.threshMin))
      | _ => bad (decide (0x7100 ≤ k / 256) && decide (k / 256 < 0x7900) && k % 256 == 6 && !s.srcCfgOk (k / 256 - 0x7100) (v % 2 ^ 48))

/-! ### Effects -/

/-- A write of LOT_CMD. -/
def State.lotCmdOp (s : State) (b : List Byte) : State × Nat := s.lotOp (bytesAt b 0 1) (parseLotCmd b)

/-- A write of ROT_CMD. -/
def State.rotCmdOp (s : State) (v : Nat) : State × Nat :=
  if fld v 31 8 != 0 then (s, Od.range)
  else match fld v 7 0 with
    | 1 => s.goSowOp (fld v 63 32)
    | 2 => s.goReapOp (fld v 63 32)
    | 3 => s.cancelOp (fld v 63 32)
    | _ => (s, Od.range)

/-- A write of a calibration item's value (R98, R99). -/
def State.calItemOp (s : State) (r : Route) (i v : Nat) : State × Nat :=
  if s.unlocked r then (s.setCal i 3 v, 0) else (s, Od.locked)

/-- A write of a manager list takes effect while no slice forms or restarts. -/
def State.mgrFree (s : State) : Bool := s.mgr.state == .idle || s.mgr.state == .halted

/-- A write of bit 0-12 of PORT_RETRAIN. -/
def State.portRetrainOp (s : State) (v : Nat) : State := s.each ((List.range 13).filter (fun p => bit v p)) (fun s p => s.retrainPort p)

/-- A plain value is stored. -/
def State.store (s : State) (k v : Nat) : State × Nat := (s.setVal k v, 0)

/-- The effect of a write that has passed the checks, and its status: 0x1000-0x1FFF. -/
def State.apply1 (s : State) (r : Route) (k : Nat) (data : List Byte) : State × Nat :=
  let v := leNat data
  match k with
  | 0x111003 => ({ s with hop := { s.hop with staged := some v } }, 0)
  | 0x111004 => s.keySwitchOp
  | 0x120001 => (s.commitOp, 0)
  | 0x120003 => s.defaultsOp v
  | 0x121001 => (s.lockOp r v, 0)
  | 0x188001 => s.store k (s.val k &&& (v ^^^ 0xFFFFFFFF))
  | 0x188301 =>
    let d := s.draw
    d.2.hlResetOp v (d.1 % 2 == 1)
  | 0x188502 => s.plotResetOp v
  | 0x188503 => (s.plotFenceOp v, 0)
  | 0x188504 => s.tramResetOp v
  | 0x189002 => s.fwBeginOp r v
  | 0x189005 => s.fwVerifyOp r
  | 0x189006 =>
    let d := s.draw
    d.2.fwActivateOp v (d.1 % 2 == 1)
  | 0x189007 => s.fwConfirmOp r
  | _ =>
    let s := if k / 256 = 0x1301 then { s with dict := { s.dict with subs := kvErase s.dict.subs (k % 256) } } else s
    s.store k v

/-- 0x2000-0x2FFF. -/
def State.apply2 (s : State) (r : Route) (k v : Nat) : State × Nat :=
  match k with
  | 0x200002 => s.pwrRequestOp v
  | 0x200005 => (s.plotHoldOp v, 0)
  | 0x280005 => s.calCommitOp r v
  | 0x280101 => s.calUnlockOp r v
  | _ =>
    if calItems.contains (k / 256) then s.calItemOp r (k / 256) v
    else
      let old := s.capReason
      ((s.setVal k v).noteReason old, 0)

/-- 0x3000-0x4FFF. -/
def State.apply3 (s : State) (k v : Nat) : State × Nat :=
  match k with
  | 0x320405 => if s.mig.hostMode then s.store k v else (s, Od.state)
  | 0x320406 => if s.mig.hostMode then s.store k v else (s, Od.state)
  | 0x31000A => s.store k s.g.store.length
  | 0x480002 => s.store k s.g.waits.length
  | 0x330009 => s.store k s.hopperUsed
  | _ => s.store k v

/-- 0x5000-0x5FFF. -/
def State.apply5 (s : State) (k v : Nat) : State × Nat :=
  match k with
  | 0x500007 => s.store k (s.val k &&& (v ^^^ 0xFFFF))
  | 0x501401 => ((s.setVal k v).refreshPorts, 0)
  | 0x50300C => if s.slice.state == .halted then (s.releaseOp, 0) else (s, Od.state)
  | 0x504002 => if s.mgrFree then s.store k v else (s, Od.state)
  | 0x504007 => match v with
    | 1 => s.formOp
    | 2 => s.dissolveOp
    | _ => (s, Od.range)
  | _ => s.store k v

/-- 0x6000-0x6FFF. -/
def State.apply6 (s : State) (r : Route) (k : Nat) (data : List Byte) : State × Nat :=
  let v := leNat data
  match k with
  | 0x610001 => s.lotCmdOp data
  | 0x610006 => ({ s with rot := { s.rot with lotSel := routeSet s.rot.lotSel r v } }, 0)
  | 0x620003 => s.rotSubmitOp r data
  | 0x620005 => s.rotCmdOp v
  | 0x620006 => s.rotPoolOp v
  | 0x62000B => s.rotPoolResetOp v
  | 0x620012 => ({ s with rot := { s.rot with rotSel := routeSet s.rot.rotSel r v } }, 0)
  | _ => s.store k v

/-- The overflow bits a source keeps (R216). -/
def Src.clearOvf (x : Src) (v : Nat) : Src :=
  { x with eventsOvf := x.eventsOvf && !bit v 1, lostOvf := x.lostOvf && !bit v 2, recoveriesOvf := x.recoveriesOvf && !bit v 3 }

/-- 0x7000-0xFFFF. -/
def State.apply7 (s : State) (r : Route) (k v : Nat) : State × Nat :=
  let i := k / 256
  if 0x7100 ≤ i && i < 0x7900 then
    let n := i - 0x7100
    match k % 256 with
    | 5 => (s.clearSticky n, 0)
    | 6 => s.odSrcCfg n v
    | 0xFE => (s.setSrc n ((s.src n).clearOvf v), 0)
    | _ => (s, 0)
  else if i = 0x8000 && 1 ≤ k % 256 && k % 256 ≤ 9 then s.splitOp (k % 256) v r
  else if 0x8010 ≤ i && i ≤ 0x8016 && k % 256 = 1 then s.policyModeOp (i - 0x8010) v
  else if k = O.portRetrain then (s.portRetrainOp v, 0)
  else match i with
    | 0xF000 => s.forceArmOp r v
    | 0xF001 => s.forceRailOp (k % 256 == 2) v
    | 0xF100 => s.forceEventOp (k % 256 - 1) v
    | 0xF101 => s.forceLevelOp (k % 256 - 1) v
    | _ => s.store k v

/-- W1C of a COUNTER_OVF (R216): a 1 clears its bit. -/
def State.clearOvfOp (s : State) (k v : Nat) : State :=
  if k = 0x7000FE then
    let s : State := { s with fc := { s.fc with droppedOvf := s.fc.droppedOvf && !bit v 4, lostOvf := s.fc.lostOvf && !bit v 5 } }
    s.setVal k (s.val k &&& (v ^^^ 0xFFFFFFFFFFFFFFFF))
  else if 0x710000 ≤ k && k < 0x790000 then s.setSrc (k / 256 - 0x7100) ((s.src (k / 256 - 0x7100)).clearOvf v)
  else s.setVal k (s.val k &&& (v ^^^ 0xFFFFFFFFFFFFFFFF))

/-- The effect of a write and its status; a governed object that a route has written is an override (R792). -/
def State.odApply (s : State) (r : Route) (k : Nat) (data : List Byte) : State × Nat :=
  let v := leNat data
  let old := s.val k
  if k % 256 = 0xFE then (s.clearOvfOp k v, 0)
  else
    let o := match k / 0x100000 with
      | 1 => s.apply1 r k data
      | 2 => s.apply2 r k v
      | 3 => s.apply3 k v
      | 4 => s.apply3 k v
      | 5 => s.apply5 k v
      | 6 => s.apply6 r k data
      | _ => s.apply7 r k v
    if o.2 = 0 then (o.1.overrideBy r k old, 0) else o

/-- CFG of a source that no component raises (R781). -/
def srcReserved (idx sub : Nat) : Bool := decide (0x7100 ≤ idx) && decide (idx < 0x7900) && sub == 6 && (srcInfo (idx - 0x7100)).isNone

/-- The checks before the domain and the state, with the keys (`keys`) for a write that is to take effect now; for a
check of a transaction an object may be read-only. -/
def State.odCheck (s : State) (r : Route) (e : WEntry) (check keys : Bool) : Nat :=
  let o := s.lookupObj r e.idx e.sub
  match o.2 with
  | none => o.1
  | some row =>
    if o.1 != 0 then o.1
    else if !check && s.valueDenied r (e.idx * 256 + e.sub) (leNat e.data) then Od.roleDenied
    else if typeBad row e.ty e.data.length then Od.typeMismatch
    else if !check && (row.acc == .ro || row.acc == .const || srcReserved e.idx e.sub) then Od.readOnly
    else if s.objLocked r e.idx e.sub then Od.locked
    else
      let k := e.idx * 256 + e.sub
      let c := if keys then keyCheck k (leNat e.data) else 0
      if c != 0 then c else s.rangeCheck r row k e.data

/-- Execute a write entry: its effect and status; a write of an RC subindex has no effect (R6). -/
def State.odWrite (s : State) (r : Route) (e : WEntry) : State × Nat :=
  let c := s.odCheck r e false true
  let k := e.idx * 256 + e.sub
  if c != 0 then (s, c)
  else if s.odOff k then (s, Od.domainOff)
  else if s.odBusy k then (s, Od.busy)
  else if (objRow? e.idx e.sub).any (fun row => row.acc == .rc) then (s, 0)
  else s.odApply r k e.data

/-- The bytes of an object's value. -/
def State.odBytes (s : State) (r : Route) (row : ObjRow) (k : Nat) : List Byte :=
  match row.ty with
  | .str n => (natLe n (s.odLive r k)).reverse.dropWhile (fun b => b == 0) |>.reverse
  | t => natLe t.size (s.odLive r k)

/-- Execute a read entry: status and data (R167). -/
def State.odRead (s : State) (r : Route) (idx sub ty : Nat) : State × Nat × List Byte :=
  let o := s.lookupObj r idx sub
  match o.2 with
  | none => (s, o.1, [])
  | some row =>
    let k := idx * 256 + sub
    if o.1 != 0 then (s, o.1, [])
    else if row.ty.code != ty || row.ty == .dom then (s, Od.typeMismatch, [])
    else if s.odOff k then (s, Od.domainOff, [])
    else if row.acc == .wo then (s, 0, natLe row.ty.size 0)
    else if s.odBusy k then (s, Od.busy, [])
    else if k = O.recordNext then s.recordNextOp
    else if sub = 0 then (s, 0, natLe 1 row.dflt)
    else (s, 0, s.odBytes r row k)

/-! ### Blocks (R197) -/

/-- The pairs of a list of 2-byte addresses. -/
def addrsOf : List Byte → List Nat
  | a :: b :: l => leNat [a, b] :: addrsOf l
  | _ => []

/-- The tramlines of a list of 8-byte entries (R665). -/
def tramsOf (b : List Byte) : List Tramline :=
  (List.range (b.length / 8)).map (fun j =>
    { a := bytesAt b (8 * j) 2, pa := bytesAt b (8 * j + 2) 1, b := bytesAt b (8 * j + 3) 2, pb := bytesAt b (8 * j + 5) 1 })

/-- A block written to a manager list at an offset: what stood from there on is replaced (log entry 61). -/
def State.mgrListOp (s : State) (k off : Nat) (data : List Byte) : State × Nat :=
  let unit := if k = O.mgrTramlines then 8 else 2
  let most := if k = O.mgrMembers then 4095 else if k = O.mgrSpares then 256 else 128
  let old := s.domBytes k
  let b := old.take off ++ data
  if old.length < off || b.length % unit != 0 || most < b.length / unit then (s, Od.range)
  else if s.odOff k then (s, Od.domainOff)
  else match k with
    | 0x504003 => ({ s with mgr := { s.mgr with members := addrsOf b } }, 0)
    | 0x504004 => ({ s with mgr := { s.mgr with spares := addrsOf b } }, 0)
    | _ => ({ s with mgr := { s.mgr with tramlines := tramsOf b } }, 0)

/-- Execute a block write. -/
def State.blockWrite (s : State) (r : Route) (idx sub ty off len : Nat) (data : List Byte) : State × Nat :=
  let o := s.lookupObj r idx sub
  match o.2 with
  | none => (s, o.1)
  | some row =>
    let k := idx * 256 + sub
    if o.1 != 0 then (s, o.1)
    else if row.ty.code != ty || !(row.ty == .dom) then (s, Od.typeMismatch)
    else if row.acc == .ro || row.acc == .const then (s, Od.readOnly)
    else if s.objLocked r idx sub then (s, Od.locked)
    else if off % 4 != 0 || len = 0 || 1024 < len then (s, Od.range)
    else if k = O.fwData then s.fwDataOp r off len
    else s.mgrListOp k off (data.take len)

/-- Execute a block read: what the DOM holds from the offset on (log entry 61). -/
def State.blockRead (s : State) (r : Route) (idx sub ty off len : Nat) : Nat × List Byte :=
  let o := s.lookupObj r idx sub
  match o.2 with
  | none => (o.1, [])
  | some row =>
    let k := idx * 256 + sub
    if o.1 != 0 then (o.1, [])
    else if row.ty.code != ty || !(row.ty == .dom) then (Od.typeMismatch, [])
    else if off % 4 != 0 || len = 0 || 1024 < len then (Od.range, [])
    else if s.odOff k then (Od.domainOff, [])
    else if row.acc == .wo then (0, natLe len 0)
    else
      let b := s.domBytes k
      if b.length ≤ off && off != 0 then (Od.range, []) else (0, (b.drop off).take len)

end Sys2Proof.Machine
end

