-- ==== Sys2Proof/Machine/Hmac.lean ====
section
/-! DEFINITION. HMAC-SHA-256 (R195), as FIPS 180-4 and FIPS 198-1 define it (log entry 123). Words are natural numbers below
2^32; block and word order is big-endian. -/

namespace Sys2Proof.Machine

/-- The number big-endian bytes spell, and the n big-endian bytes of a number. -/
def beNat (b : List Byte) : Nat := leNat b.reverse
def natBe (n v : Nat) : List Byte := (natLe n v).reverse

/-- Rotation of a 32-bit word to the right. -/
def rotr32 (n x : Nat) : Nat := x / 2 ^ n ||| x * 2 ^ (32 - n) % 2 ^ 32

/-- The round constants. -/
def shaK : List Nat :=
  [0x428a2f98, 0x71374491, 0xb5c0fbcf, 0xe9b5dba5, 0x3956c25b, 0x59f111f1, 0x923f82a4, 0xab1c5ed5]
    ++ [0xd807aa98, 0x12835b01, 0x243185be, 0x550c7dc3, 0x72be5d74, 0x80deb1fe, 0x9bdc06a7, 0xc19bf174]
    ++ [0xe49b69c1, 0xefbe4786, 0x0fc19dc6, 0x240ca1cc, 0x2de92c6f, 0x4a7484aa, 0x5cb0a9dc, 0x76f988da]
    ++ [0x983e5152, 0xa831c66d, 0xb00327c8, 0xbf597fc7, 0xc6e00bf3, 0xd5a79147, 0x06ca6351, 0x14292967]
    ++ [0x27b70a85, 0x2e1b2138, 0x4d2c6dfc, 0x53380d13, 0x650a7354, 0x766a0abb, 0x81c2c92e, 0x92722c85]
    ++ [0xa2bfe8a1, 0xa81a664b, 0xc24b8b70, 0xc76c51a3, 0xd192e819, 0xd6990624, 0xf40e3585, 0x106aa070]
    ++ [0x19a4c116, 0x1e376c08, 0x2748774c, 0x34b0bcb5, 0x391c0cb3, 0x4ed8aa4a, 0x5b9cca4f, 0x682e6ff3]
    ++ [0x748f82ee, 0x78a5636f, 0x84c87814, 0x8cc70208, 0x90befffa, 0xa4506ceb, 0xbef9a3f7, 0xc67178f2]

/-- The eight working words. -/
structure Sha where
  a : Nat
  b : Nat
  c : Nat
  d : Nat
  e : Nat
  f : Nat
  g : Nat
  h : Nat
  deriving DecidableEq, Repr

/-- The initial hash value. -/
def shaInit : Sha := ⟨0x6a09e667, 0xbb67ae85, 0x3c6ef372, 0xa54ff53a, 0x510e527f, 0x9b05688c, 0x1f83d9ab, 0x5be0cd19⟩

/-- n further words of the message schedule; the newest word stands first. -/
def shaExpand : Nat → List Nat → List Nat
  | 0, w => w
  | n + 1, w =>
    let x := w.getD 1 0
    let y := w.getD 14 0
    let s1 := rotr32 17 x ^^^ rotr32 19 x ^^^ x / 2 ^ 10
    let s0 := rotr32 7 y ^^^ rotr32 18 y ^^^ y / 2 ^ 3
    shaExpand n ((s1 + w.getD 6 0 + s0 + w.getD 15 0) % 2 ^ 32 :: w)

/-- One round with its constant and schedule word. -/
def shaRound (s : Sha) (kw : Nat × Nat) : Sha :=
  let t1 := s.h + (rotr32 6 s.e ^^^ rotr32 11 s.e ^^^ rotr32 25 s.e) + ((s.e &&& s.f) ^^^ ((2 ^ 32 - 1 - s.e) &&& s.g)) + kw.1 + kw.2
  let t2 := (rotr32 2 s.a ^^^ rotr32 13 s.a ^^^ rotr32 22 s.a) + ((s.a &&& s.b) ^^^ (s.a &&& s.c) ^^^ (s.b &&& s.c))
  ⟨(t1 + t2) % 2 ^ 32, s.a, s.b, s.c, (s.d + t1) % 2 ^ 32, s.e, s.f, s.g⟩

/-- One 64-byte block. -/
def shaBlock (s : Sha) (b : List Byte) : Sha :=
  let w := (shaExpand 48 ((List.range 16).map (fun i => beNat ((b.drop (4 * i)).take 4))).reverse).reverse
  let t := (shaK.zip w).foldl shaRound s
  let add (x y : Nat) : Nat := (x + y) % 2 ^ 32
  ⟨add s.a t.a, add s.b t.b, add s.c t.c, add s.d t.d, add s.e t.e, add s.f t.f, add s.g t.g, add s.h t.h⟩

/-- The SHA-256 digest of a message. -/
def sha256 (m : List Byte) : List Byte :=
  let p := m ++ [0x80] ++ natLe ((119 - m.length % 64) % 64) 0 ++ natBe 8 (8 * m.length)
  let t := (List.range (p.length / 64)).foldl (fun s i => shaBlock s ((p.drop (64 * i)).take 64)) shaInit
  [t.a, t.b, t.c, t.d, t.e, t.f, t.g, t.h].flatMap (natBe 4)

/-- HMAC-SHA-256 of a message under a key of at most 64 bytes. -/
def hmac (key m : List Byte) : List Byte :=
  let k := key ++ natLe (64 - key.length) 0
  sha256 (k.map (fun b => b ^^^ 0x5C) ++ sha256 (k.map (fun b => b ^^^ 0x36) ++ m))

end Sys2Proof.Machine
end

