-- ==== Sys2Proof/Machine/Dict.lean ====
section
/-! DEFINITION. Dictionary operations (R194-R213): requests of the three routes, transactions, notifications, the field
network, the mirror's slots and the manager route. -/

namespace Sys2Proof.Machine

/-! ### Bodies (R197) -/

/-- A length padded to 4 bytes. -/
def pad4 (n : Nat) : Nat := (n + 3) / 4 * 4

/-- The entry count of a body's head: 1 to 64. -/
def bodyCount (b : List Byte) : Option Nat :=
  let n := bytesAt b 0 1
  if b.length < 4 || n = 0 || 64 < n then none else some n

/-- n read entries. -/
def readEntries : Nat → List Byte → Option (List WEntry)
  | 0, _ => some []
  | n + 1, b =>
    if b.length < 4 then none
    else (readEntries n (b.drop 4)).map (fun (l : List WEntry) =>
      { idx := bytesAt b 0 2, sub := bytesAt b 2 1, ty := bytesAt b 3 1, data := [] } :: l)

/-- n write entries. -/
def writeEntries : Nat → List Byte → Option (List WEntry)
  | 0, _ => some []
  | n + 1, b =>
    let len := bytesAt b 4 2
    if b.length < 6 + len then none
    else (writeEntries n (b.drop (pad4 (6 + len)))).map (fun (l : List WEntry) =>
      { idx := bytesAt b 0 2, sub := bytesAt b 2 1, ty := bytesAt b 3 1, data := (b.drop 6).take len } :: l)

/-- The read entries of a body, and its write entries. -/
def parseReads (b : List Byte) : Option (List WEntry) := (bodyCount b).bind (fun n => readEntries n (b.drop 4))
def parseWrites (b : List Byte) : Option (List WEntry) := (bodyCount b).bind (fun n => writeEntries n (b.drop 4))

/-- A body holds one block entry, of a write with its data. -/
def blockOk (b : List Byte) (write : Bool) : Bool :=
  bodyCount b == some 1 && decide (16 + (if write then bytesAt b 12 2 else 0) ≤ b.length)

/-- A response entry and a description, as bytes. -/
def REntry.bytes (e : REntry) : List Byte :=
  natLe 2 e.idx ++ natLe 1 e.sub ++ natLe 1 e.ty ++ natLe 2 e.status ++ natLe 2 e.data.length ++ e.data
    ++ natLe (pad4 e.data.length - e.data.length) 0
def DEntry.bytes (e : DEntry) : List Byte :=
  natLe 2 e.idx ++ natLe 1 e.sub ++ natLe 1 e.ty ++ natLe 1 e.acc ++ natLe 1 e.roles ++ natLe 1 e.persist
    ++ natLe 1 e.status ++ natLe 4 e.len

/-- The body of an answer; a refusal of the whole request carries none. -/
def Answer.body (a : Answer) : List Byte :=
  if a.entries.isEmpty && a.descs.isEmpty then []
  else natLe 4 (a.entries.length + a.descs.length) ++ a.entries.flatMap REntry.bytes ++ a.descs.flatMap DEntry.bytes

/-- Bytes of body a route carries in a response (R198). -/
def routeLimit (r : Route) : Nat := match r with | .F => 1464 | .H => 2048 | .M => 4084

/-- Size of an entry's object as a response counts it. -/
def entrySize (e : WEntry) : Nat := match objRow? e.idx e.sub with | some row => row.ty.size | none => 0

/-- The largest response a list of read entries can produce. -/
def mostBytes (es : List WEntry) : Nat := es.foldl (fun n e => n + 8 + pad4 (entrySize e)) 4

/-! ### Entries -/

/-- The Headland serves requests: by its firmware, or in ROM recovery. -/
def State.hlAlive (s : State) : Bool := s.hl.running || s.hl.bootState == 3

/-- The Headland has gone on since an operation began: no reset has ended it. -/
def State.sameRun (s : State) (running : Bool) : Bool := s.hl.running == running && s.hlAlive

/-- The first status of a list that is not OK. -/
def firstBad (l : List Nat) : Nat := (l.find? (fun c => c != 0)).getD 0

/-- Execute read entries in order, each on its own (R198). -/
def State.readAll (s : State) (r : Route) (es : List WEntry) : State × List REntry :=
  es.foldl (fun (a : State × List REntry) e =>
    let o := a.1.odRead r e.idx e.sub e.ty
    (o.1, a.2 ++ [{ idx := e.idx, sub := e.sub, ty := e.ty, status := o.2.1, data := o.2.2 }])) (s, [])

/-- Execute write entries in order. A write that resets the Headland takes its effect after all the others: the operation has
its whole effect (R222). -/
def State.writeAll (s : State) (r : Route) (es : List WEntry) : State × List REntry :=
  let ok (e : WEntry) (c : Nat) : REntry := { idx := e.idx, sub := e.sub, ty := e.ty, status := c }
  let o := es.foldl (fun (a : State × List REntry × List WEntry) e =>
    let x := a.1.odWrite r e
    if x.1.sameRun s.hl.running then (x.1, a.2.1 ++ [ok e x.2], a.2.2) else (a.1, a.2.1 ++ [ok e x.2], a.2.2 ++ [e])) (s, [], [])
  ((match o.2.2 with | [] => o.1 | e :: _ => (o.1.odWrite r e).1), o.2.1)

/-- Describe an entry (R197). DESIGN CHOICE (log entry 159): an object whose domain is off is described with status 0. -/
def State.describeEntry (s : State) (r : Route) (e : WEntry) : DEntry :=
  let o := s.lookupObj r e.idx e.sub
  match o.2 with
  | some row =>
    if o.1 = 0 then
      { idx := e.idx, sub := e.sub, ty := row.ty.code, acc := row.acc.code, roles := row.roles, persist := row.persist, status := 0,
        len := (match row.ty with | .dom => 2 ^ 32 - 1 | t => t.size) }
    else { idx := e.idx, sub := e.sub, ty := 0, acc := 0xFF, roles := 0, persist := 0, status := o.1, len := 0 }
  | none => { idx := e.idx, sub := e.sub, ty := 0, acc := 0xFF, roles := 0, persist := 0, status := o.1, len := 0 }

/-! ### Transactions (R179-R182) -/

/-- The open transaction of a route, if it has this identifier. -/
def State.txnOf (s : State) (r : Route) (id : Nat) : Option Txn :=
  (s.dict.txns.find? (fun e => e.1 == r && e.2.id == id)).map (fun e => e.2)

/-- Replace or close the transaction of a route. -/
def State.setTxn (s : State) (r : Route) (t : Txn) : State := { s with dict := { s.dict with txns := routeSet s.dict.txns r t } }
def State.closeTxn (s : State) (r : Route) : State := { s with dict := { s.dict with txns := s.dict.txns.filter (fun e => !(e.1 == r)) } }

/-- The next identifier: 1 to 0xFFFF, and none that is open. -/
def State.freshTxn (s : State) : Nat :=
  let next (n : Nat) : Nat := n % 0xFFFF + 1
  let open_ (n : Nat) : Bool := s.dict.txns.any (fun e => e.2.id == n)
  let a := next (s.dict.nextTxn + 0xFFFE)
  if !open_ a then a else if !open_ (next a) then next a else next (next a)

/-- TXN_OPEN. -/
def State.txnOpenOp (s : State) (r : Route) : State × Nat × Nat :=
  if s.dict.txns.any (fun e => e.1 == r) then (s, Od.state, 0)
  else
    let id := s.freshTxn
    let s := s.setTxn r { id := id, last := s.now }
    ({ s with dict := { s.dict with nextTxn := id % 0xFFFF + 1 } }, 0, id)

/-- Stage one entry: validated now against type, range, role and locks (R180). -/
def State.stageEntry (s : State) (r : Route) (check : Bool) (t : Txn) (e : WEntry) : Txn × Nat :=
  let c := s.odCheck r e check false
  if c != 0 then (t, c)
  else if 64 ≤ t.staged.length || 4096 < (t.staged.map (fun x => x.2.data.length)).foldl (· + ·) e.data.length then (t, Od.txnFull)
  else ({ t with staged := t.staged ++ [(check, e)] }, 0)

/-- Stage the entries of a WRITE or a TXN_CHECK. -/
def State.stageAll (s : State) (r : Route) (check : Bool) (t : Txn) (es : List WEntry) : State × List REntry :=
  let o := es.foldl (fun (a : Txn × List REntry) e =>
    let x := s.stageEntry r check a.1 e
    (x.1, a.2 ++ [{ idx := e.idx, sub := e.sub, ty := e.ty, status := x.2 }])) (t, [])
  (s.setTxn r o.1, o.2)

/-- What a staged check meets: the subindex is compared with the staged value (R181). -/
def State.checkEntry (s : State) (r : Route) (e : WEntry) : Nat :=
  let o := s.odRead r e.idx e.sub e.ty
  if o.2.1 != 0 then o.2.1 else if o.2.2 == e.data then 0 else Od.conflict

/-- What the staged entries meet, in staging order: a check the state before the apply, a write the state that the writes before
it leave (R181; log entry 124). -/
def State.tryStaged (s : State) (r : Route) (l : List (Bool × WEntry)) : List (WEntry × Nat) :=
  let ws := (s.writeAll r ((l.filter (fun x => !x.1)).map (fun x => x.2))).2
  (l.foldl (fun (a : List (WEntry × Nat) × List REntry) x =>
    if x.1 then (a.1 ++ [(x.2, s.checkEntry r x.2)], a.2)
    else (a.1 ++ [(x.2, ((a.2.head?).map (fun (e : REntry) => e.status)).getD 0)], a.2.tail)) ([], ws)).1

/-- TXN_APPLY: every entry is tried; if none fails every write is applied in staging order and the transaction closes. A
wrong unlock key starts its hold-off even so (R98). -/
def State.txnApplyOp (s : State) (r : Route) (t : Txn) : State × Nat :=
  match (s.tryStaged r t.staged).find? (fun x => x.2 != 0) with
  | some x => (if x.2 = Od.keyWrong && x.1.idx = 0x2801 then (s.odWrite r x.1).1 else s, x.2)
  | none => (((s.writeAll r ((t.staged.filter (fun x => !x.1)).map (fun x => x.2))).1).closeTxn r, 0)

/-- TXN_EXPIRY: a transaction is dropped 1 s after its last operation (R182, R221). -/
def execTxnExpiry (route : Route) (s : State) : Out :=
  match s.dict.txns.find? (fun e => e.1 == route) with
  | none => .next s
  | some e => .next (((s.until_ (e.2.last + 1000000000)).closeTxn route).bump O.txnExpired)

/-! ### One operation -/

/-- An answer that refuses the whole request. -/
def refusal (r : Route) (txn code : Nat) : Answer := { route := r, status := code, txn := txn }

/-- An answer with entries. -/
def withEntries (r : Route) (txn : Nat) (l : List REntry) : Answer :=
  { route := r, txn := txn, status := firstBad (l.map (fun e => e.status)), entries := l }

/-- READ. -/
def State.runRead (s : State) (r : Route) (txn : Nat) (b : List Byte) : State × Answer :=
  match parseReads b with
  | none => (s, refusal r txn Od.tooLong)
  | some es =>
    if routeLimit r < mostBytes es then (s, refusal r txn Od.tooLong)
    else
      let o := s.readAll r es
      (o.1, withEntries r txn o.2)

/-- WRITE: its entries take effect, or are staged in the transaction it names (R196). -/
def State.runWrite (s : State) (r : Route) (txn : Nat) (b : List Byte) : State × Answer :=
  match parseWrites b with
  | none => (s, refusal r txn Od.tooLong)
  | some es =>
    let o := match s.txnOf r txn with
      | some t => if txn = 0 then s.writeAll r es else s.stageAll r false t es
      | none => s.writeAll r es
    (o.1, withEntries r txn o.2)

/-- TXN_CHECK. -/
def State.runCheck (s : State) (r : Route) (txn : Nat) (b : List Byte) : State × Answer :=
  match s.txnOf r txn, parseWrites b with
  | none, _ => (s, refusal r txn Od.noTxn)
  | _, none => (s, refusal r txn Od.tooLong)
  | some t, some es =>
    let o := s.stageAll r true t es
    (o.1, withEntries r txn o.2)

/-- DESCRIBE. -/
def State.runDescribe (s : State) (r : Route) (txn : Nat) (b : List Byte) : State × Answer :=
  match parseReads b with
  | none => (s, refusal r txn Od.tooLong)
  | some es =>
    let l := es.map (fun e => s.describeEntry r e)
    (s, { route := r, txn := txn, status := firstBad (l.map (fun (e : DEntry) => e.status)), descs := l })

/-- READ_BLOCK. -/
def State.runReadBlock (s : State) (r : Route) (txn : Nat) (b : List Byte) : State × Answer :=
  let len := bytesAt b 12 2
  if !blockOk b false || routeLimit r < 12 + pad4 len then (s, refusal r txn Od.tooLong)
  else
    let o := s.blockRead r (bytesAt b 4 2) (bytesAt b 6 1) (bytesAt b 7 1) (bytesAt b 8 4) len
    (s, withEntries r txn [{ idx := bytesAt b 4 2, sub := bytesAt b 6 1, ty := bytesAt b 7 1, status := o.1, data := o.2 }])

/-- WRITE_BLOCK. -/
def State.runWriteBlock (s : State) (r : Route) (txn : Nat) (b : List Byte) : State × Answer :=
  let len := bytesAt b 12 2
  if !blockOk b true then (s, refusal r txn Od.tooLong)
  else
    let o := s.blockWrite r (bytesAt b 4 2) (bytesAt b 6 1) (bytesAt b 7 1) (bytesAt b 8 4) len ((b.drop 16).take len)
    (o.1, withEntries r txn [{ idx := bytesAt b 4 2, sub := bytesAt b 6 1, ty := bytesAt b 7 1, status := o.2 }])

/-- An operation names a transaction: it must be open and the route's own; its 1 s starts again (R182). -/
def State.nameTxn (s : State) (r : Route) (txn : Nat) : Option State :=
  if txn = 0 then some s
  else (s.txnOf r txn).map (fun (t : Txn) => s.setTxn r { t with last := s.now })

/-- The owner of a firmware download has made an operation. -/
def State.noteOwner (s : State) (r : Route) : State :=
  if s.fw.owner == some r then { s with fw := { s.fw with lastOp := s.now } } else s

/-- Run one of the operations all routes carry; every other is refused with BAD_OP (R196). -/
def State.dictRun (s : State) (r : Route) (op txn : Nat) (b : List Byte) : State × Answer :=
  if op = 0 || 9 < op then (s, refusal r txn Od.badOp)
  else
    let s := s.hlAnswers.noteOwner r
    match s.nameTxn r txn with
    | none => (s, refusal r txn Od.noTxn)
    | some s =>
      match op with
      | 1 => s.runRead r txn b
      | 2 => s.runWrite r txn b
      | 3 => s.runReadBlock r txn b
      | 4 => s.runWriteBlock r txn b
      | 5 => s.runDescribe r txn b
      | 6 =>
        let o := s.txnOpenOp r
        (o.1, { route := r, status := o.2.1, txn := o.2.2 })
      | 7 => s.runCheck r txn b
      | 8 => match s.txnOf r txn with
        | none => (s, refusal r txn Od.noTxn)
        | some t =>
          let o := s.txnApplyOp r t
          (o.1, refusal r txn o.2)
      | _ => match s.txnOf r txn with
        | none => (s, refusal r txn Od.noTxn)
        | some _ => (s.closeTxn r, refusal r txn 0)

/-- An answer is given. -/
def State.giveAnswer (s : State) (a : Answer) : State := { s with dict := { s.dict with answers := s.dict.answers ++ [a] } }

/-! ### The field network (R192-R203) -/

/-- The key of the field role, as bytes, and the module's node (R191). -/
def State.fieldKey (s : State) : List Byte := natLe 32 (s.hop.key.getD Config.fieldKey)
def State.node (s : State) : Nat := s.val O.t1sNode

/-- The 16 bytes of a tag (R195): addresses and payload bytes 0 to 19 + BODY_LEN, under a key. -/
def hopTag (key addressed : List Byte) : List Byte := (hmac key addressed).take 16

/-- A HOP frame from its destination address on (R194, R195). An OCT6 address stands in the order of its octets, the
EtherType in network order, and every HOP field little-endian (R2). -/
def State.hopFrame (s : State) (key : List Byte) (mac op flags dstNode seq txn status : Nat) (body : List Byte) : List Byte :=
  let addrs := natLe 6 mac ++ natLe 6 Config.macAddr
  let p := natLe 1 1 ++ natLe 1 1 ++ natLe 1 op ++ natLe 1 flags ++ natLe 1 dstNode ++ natLe 1 s.node ++ natLe 2 body.length
    ++ natLe 4 s.hop.nonce ++ natLe 4 seq ++ natLe 2 txn ++ natLe 2 status ++ body
  let q := p ++ hopTag key (addrs ++ p)
  addrs ++ natBe 2 0x88B5 ++ q ++ natLe (46 - q.length) 0

/-- The body of a response of operation op: of HELLO, of SESSION_RESET and STALE_NONCE, or the entries'. -/
def hopBody (op : Nat) (a : Answer) : List Byte :=
  match a.nonce with
  | some n => natLe 4 n ++ (if op = 0 then natLe 1 a.node ++ natLe 3 0 ++ natLe 8 a.serial else [])
  | none => a.body

/-- A frame is sent on the field network. -/
def State.sendBytes (s : State) (f : List Byte) : State :=
  ({ s with hop := { s.hop with frames := s.hop.frames ++ [f] } } : State).bump O.framesTx

/-- The response frame to a request, tagged with a key. -/
def State.responseTo (s : State) (key : List Byte) (q : FieldReq) (a : Answer) : List Byte :=
  s.hopFrame key q.mac q.op 3 q.node q.seq a.txn a.status (hopBody q.op a)

/-- A request is answered under the key in use. -/
def State.answerField (s : State) (q : FieldReq) (a : Answer) : State :=
  let a : Answer := { a with seq := q.seq }
  (s.giveAnswer a).sendBytes (s.responseTo s.fieldKey q a)

/-- A HOP frame for this module arrives: it is counted, the node has a link, and the firmware has work (R86). -/
def State.frameIn (s : State) : State :=
  let s := s.hlWork.bump O.framesRx
  if s.hop.plca = 2 then { s with hop := { s.hop with plca := 0 } } else s

/-- The rate counts of a new second start at 0. DESIGN CHOICE (log entry 158): a second of R193 and R199 is a whole second of
State.now. -/
def State.hopSecond (s : State) : State :=
  let n := s.now / 1000000000
  if s.hop.second = n then s else { s with hop := { s.hop with second := n, rates := [], hellos := 0 } }

/-- SEQ has been accepted under the current nonce (R200). -/
def Hop.accepted (h : Hop) (seq : Nat) : Bool := decide (seq ≤ h.high) && bit h.window (h.high - seq)

/-- SEQ may be accepted: above H, or in the window and not accepted before. -/
def Hop.fresh (h : Hop) (seq : Nat) : Bool :=
  seq != 0 && (decide (h.high < seq) || (decide (h.high < seq + 64) && !h.accepted seq))

/-- SEQ is accepted: H and the window move. -/
def Hop.accept (h : Hop) (seq : Nat) : Hop :=
  if h.high < seq then { h with high := seq, window := (h.window * 2 ^ min 64 (seq - h.high)) % 2 ^ 64 ||| 1 }
  else { h with window := setBit h.window (h.high - seq) true }

/-- Requests of a source MAC executed in this second. -/
def State.hopRate (s : State) (mac : Nat) : Nat := kvGet 0 s.hop.rates mac

/-- A request is put in the queue of field requests. -/
def State.queueField (s : State) (q : FieldReq) : State := ({ s with hop := { s.hop with waiting := s.hop.waiting ++ [q] } } : State).hlWork

/-- The queue of 8 takes no further request, or the firmware is being activated (R201, R207). -/
def State.fieldBusy (s : State) : Bool := decide (8 ≤ s.hop.waiting.length) || s.fw.status == .activating

/-- An authentic request other than a HELLO (R193, R199-R201): a stale nonce is answered with the current one; a NOTIFY_ACK frees
its NOTIFY; a repeat of one of the last 8 is answered again; a replay or one over the rate is discarded; one that finds the
queue full is answered with BUSY; any other is accepted. -/
def State.fieldRequest (s : State) (q : FieldReq) : State :=
  if q.nonce != s.hop.nonce then s.answerField q { route := .F, status := Od.staleNonce, txn := q.txn, nonce := some s.hop.nonce }
  else if q.op = 0xB then { s with hop := { s.hop with unacked := s.hop.unacked.filter (fun u => u.seq != q.seq) } }
  else match s.hop.kept.find? (fun e => e.1 == q.seq) with
    | some e => s.sendBytes e.2
    | none =>
      if !s.hop.fresh q.seq then s.bump O.replayDropped
      else if s.val O.hopRateLimit ≤ s.hopRate q.mac then s.bump O.rateDropped
      else if s.fieldBusy then s.answerField q { route := .F, status := Od.busy, txn := q.txn }
      else ({ s with hop := { s.hop.accept q.seq with rates := kvSet 0 s.hop.rates q.mac (s.hopRate q.mac + 1) } } : State).queueField q

/-- A frame of the field network arrives (R192, R194, R195): what it is, its own bytes say. DESIGN CHOICE (log entry 161): in ROM
recovery too the field key authenticates it. -/
def State.frameReceived (s : State) (f : List Byte) : State :=
  let dst := bytesAt f 0 6
  let p := f.drop 14
  let op := bytesAt p 2 1
  let len := bytesAt p 6 2
  let q : FieldReq := { mac := bytesAt f 6 6, node := bytesAt p 5 1, op := op, nonce := bytesAt p 8 4, seq := bytesAt p 12 4,
                        txn := bytesAt p 16 2, body := (p.drop 20).take len }
  let tag := (p.drop (20 + len)).take 16
  if !s.hlAlive || !s.pwr.aon then s
  else if beNat ((f.drop 12).take 2) != 0x88B5 || !(dst == Config.macAddr % 2 ^ 48 || (dst == 2 ^ 48 - 1 && op == 0)) then
    s.bump O.foreignDropped
  else
    let s := s.frameIn.hopSecond
    if 1500 < p.length || bytesAt p 0 1 != 1 || bytesAt p 1 1 != 1 then s
    else if !(tag == hopTag s.fieldKey (f.take 12 ++ p.take (20 + len))) && !(op == 0 && tag == natLe 16 0) then s.bump O.authDropped
    else if bytesAt p 4 1 != s.node && !(op == 0 && bytesAt p 4 1 == 0xFF) then s
    else if op != 0 then s.fieldRequest q
    else if s.fieldBusy then s.answerField q { route := .F, status := Od.busy, txn := q.txn }
    else s.queueField q

/-- A HOP frame to a power, clock or thermal object wakes the module from Fallow (R71), but for a write of PWR_REQUEST that
asks for Tilled or Sown, which wakes under its own bit. -/
def fieldWakes (op txn : Nat) (b : List Byte) : Bool :=
  let hit (e : WEntry) : Bool := decide (0x2000 ≤ e.idx) && decide (e.idx ≤ 0x20FF)
  let asks (e : WEntry) : Bool := e.idx == 0x2000 && e.sub == 2 && txn == 0 && (leNat e.data == 2 || leNat e.data == 3)
  match op with
  | 1 | 5 => ((parseReads b).getD []).any hit
  | 2 => ((parseWrites b).getD []).any (fun e => hit e && !asks e)
  | 7 => ((parseWrites b).getD []).any hit
  | 3 | 4 => decide (0x2000 ≤ bytesAt b 4 2) && decide (bytesAt b 4 2 ≤ 0x20FF)
  | _ => false

/-- An operation of the field route. -/
def State.fieldOp (s : State) (op txn : Nat) (b : List Byte) : State × Answer :=
  let s := if fieldWakes op txn b && bit (s.val O.fallowWakeMask) 2 then s.wakeEvent else s
  s.dictRun .F op txn b

/-- The route r has an operation waiting. -/
def State.routeWaits (s : State) (r : Route) : Bool :=
  match r with | .F => !s.hop.waiting.isEmpty | .H => !s.mir.order.isEmpty | .M => !s.dict.mgrQueue.isEmpty

/-- The route after r in the order F, H, M. -/
def nextRoute (r : Route) : Route := match r with | .F => .H | .H => .M | .M => .F

/-- It is the turn of route r (R211): no route between the one served last and r has an operation waiting. -/
def State.turn (s : State) (r : Route) : Bool :=
  let a := nextRoute s.dict.lastRoute
  let b := nextRoute a
  r == a || (!s.routeWaits a && (r == b || !s.routeWaits b))

/-- What the Headland does with a field request: HELLO, at most 10 in a second (R199), SESSION_RESET, or an operation of all
routes. -/
def State.fieldRun (s : State) (q : FieldReq) : State × Option Answer :=
  if q.op = 0 then
    if 10 ≤ s.hop.hellos then (s.bump O.rateDropped, none)
    else
      let s : State := { s with hop := { s.hop with hellos := s.hop.hellos + 1 } }
      match s.nameTxn .F q.txn with
      | none => (s, some (refusal .F q.txn Od.noTxn))
      | some s => (s, some { route := .F, status := 0, txn := q.txn, nonce := some s.hop.nonce, node := s.node, serial := Config.serial })
  else if q.op = 0xC then
    match s.nameTxn .F q.txn with
    | none => (s, some (refusal .F q.txn Od.noTxn))
    | some s =>
      let t := s.newSession
      (t, some { route := .F, status := 0, txn := q.txn, nonce := some t.hop.nonce })
  else
    let o := s.fieldOp q.op q.txn q.body
    (o.1, some o.2)

/-- The Headland takes the field request whose turn it is. A row of the table takes a request of its own operation, or one of
an operation that no route carries. The response is tagged with the key that was in use before (R203), and kept if the
session goes on (R200); a Headland reset leaves none (R222). -/
def State.fieldTake (s : State) (want : Nat) : State :=
  match s.hop.waiting with
  | [] => s
  | q :: rest =>
    if !s.hlAlive || !(q.op == want || q.op == 0xA || decide (0xC < q.op)) || !s.turn .F then s
    else
      let key := s.fieldKey
      let o := (({ s with hop := { s.hop with waiting := rest }, dict := { s.dict with lastRoute := .F } } : State).hopSecond).fieldRun q
      match o.2 with
      | none => o.1
      | some a =>
        if !o.1.sameRun s.hl.running then o.1
        else
          let a : Answer := { a with seq := q.seq }
          let f := o.1.responseTo key q a
          let t := (o.1.giveAnswer a).sendBytes f
          if q.op = 0 || q.nonce != t.hop.nonce then t else { t with hop := { t.hop with kept := ((q.seq, f) :: t.hop.kept).take 8 } }

/-! ### The mirror (R205-R208) -/

/-- Slot n, and its place in the control window. -/
def State.mslot (s : State) (n : Nat) : MSlot := kvGet {} s.mir.slots n
def State.setSlot (s : State) (n : Nat) (m : MSlot) : State := { s with mir := { s.mir with slots := kvSet {} s.mir.slots n m } }
abbrev slotBase (n : Nat) : Nat := 0x820000 + n * 0x1000

/-- Bytes of a buffer area, from an aligned offset in the control window. -/
def State.areaRead (s : State) (a n : Nat) : List Byte :=
  ((List.range ((n + 7) / 8)).flatMap (fun j => natLe 8 (s.rg (a + 8 * j)))).take n

/-- Bytes stored in a buffer area from an aligned offset. -/
def State.areaWrite (s : State) (a : Nat) (d : List Byte) : State :=
  s.each (List.range ((d.length + 7) / 8)) (fun s j =>
    let w := (d.drop (8 * j)).take 8
    s.setRg (a + 8 * j) (setFld (s.rg (a + 8 * j)) (8 * w.length - 1) 0 (leNat w)))

/-- One more slot request has completed. -/
def State.countMirror (s : State) : State :=
  let r := s.mir.requests + 1
  { s with mir := { s.mir with requests := r % 2 ^ 64, reqOvf := s.mir.reqOvf || decide (2 ^ 64 ≤ r) } }

/-- A slot completes: its status, and the response in its area; TXN_OPEN's identifier stands in SLOT_CTRL. -/
def State.slotDone (s : State) (n status txn : Nat) (body : List Byte) : State :=
  let m := s.mslot n
  let m : MSlot := { m with state := 2, status := status, rspLen := body.length, doneCount := (m.doneCount + 1) % 2 ^ 16,
                            txn := (if m.op = 6 && status = 0 then txn else m.txn) }
  ((s.setSlot n m).areaWrite (slotBase n + 0x800) body).countMirror

/-- The firmware answers slots (R207). -/
def State.mirrorServed (s : State) : Bool := s.hl.running && !(s.fw.status == .activating)

/-- A write of SLOT_CTRL that the Gate has admitted (R206, R207). -/
def State.slotWrite (s : State) (slot val : Nat) (rid : Half) : State :=
  let m := s.mslot slot
  let go := bit val 63
  if m.state = 1 then (if go then s.valueErr (slotBase slot) 8 rid else s)
  else
    let m : MSlot := { m with op := fld val 7 0, txn := fld val 31 16, bodyLen := fld val 42 32 }
    let s := s.setSlot slot m
    if !go then s
    else if !s.mirrorServed then (s.slotDone slot Od.busy 0 []).giveAnswer (refusal .H 0 Od.busy)
    else if m.bodyLen < 4 || 1792 < m.bodyLen then (s.slotDone slot Od.tooLong 0 []).giveAnswer (refusal .H 0 Od.tooLong)
    else
      let s := (s.setSlot slot { m with state := 1 }).hlWork
      { s with mir := { s.mir with order := s.mir.order ++ [slot] } }

/-- SLOT_GO. -/
def execSlotGo (slot : Fin 16) (val : Word) (rid : Half) (s : State) : Out := .next (s.slotWrite slot val.toNat rid)

/-- The Headland takes the mirror request whose turn it is (R206, R211): the slot's registers and request area are read
now. A row of the table takes a request of its own operation, or one of an operation no route carries. -/
def State.mirrorOp (s : State) (want : Nat) : State :=
  match s.mir.order with
  | [] => s
  | n :: rest =>
    let m := s.mslot n
    let mine := m.op == want || m.op == 0 || decide (9 < m.op)
    if !s.hl.running || !mine || !s.turn .H then s
    else
      let o := s.dictRun .H m.op m.txn (s.areaRead (slotBase n + 0x100) m.bodyLen)
      if !o.1.sameRun true || (o.1.mslot n).state != 1 then o.1
      else
        let t : State := { o.1 with mir := { o.1.mir with order := rest }, dict := { o.1.dict with lastRoute := .H } }
        (t.slotDone n o.2.status o.2.txn o.2.body).giveAnswer o.2

/-! ### The manager route (R209, R228, R650) -/

/-- A management response. -/
def mgmtResponse (m : Msg) (a : Answer) : Msg :=
  let b := a.body
  { kind := .mgmt, dst := m.src,
    payload := natLe 1 1 ++ natLe 1 (bytesAt m.payload 1 1) ++ natLe 2 a.txn ++ natLe 2 a.status ++ natLe 2 b.length
      ++ (m.payload.drop 8).take 4 ++ b }

/-- The sender is the manager of a slice of which this package is a member, and the route is enabled. -/
def State.fromManager (s : State) (m : Msg) : Bool :=
  !(s.slice.state == .none) && s.slice.mgrAddr == m.src && s.val O.mgrRouteEnable == 1

/-- Answer a manager request. -/
def State.mgmtAnswer (s : State) (m : Msg) (a : Answer) : State :=
  ((if s.hl.running then s.hlWork else s).giveAnswer a).tell (mgmtResponse m a)

/-- A request that finds the manager route closed. -/
def State.mgmtRefuse (s : State) (m : Msg) : State :=
  (s.mgmtAnswer m (refusal .M (bytesAt m.payload 2 2) Od.notManager)).bump O.mgrRefused

/-- MGMT_REQUEST; an answer to this package's own writes may end a restart (R831). -/
def execMgmtRequest (p : Fin 13) (m : Msg) (s : State) : Out :=
  .next (s.onMsg p m .mgmt (fun s m =>
    if bytesAt m.payload 0 1 != 0 then s.orderAnswered m.src (bytesAt m.payload 4 2)
    else if !s.hl.running || s.fw.status == .activating then s.mgmtAnswer m (refusal .M (bytesAt m.payload 2 2) Od.busy)
    else if !s.fromManager m then s.mgmtRefuse m
    else if 8 ≤ s.dict.mgrQueue.length then s.mgmtAnswer m (refusal .M (bytesAt m.payload 2 2) Od.busy)
    else ({ s with dict := { s.dict with mgrQueue := s.dict.mgrQueue ++ [m] } } : State).hlWork))

/-- The Headland takes the manager request whose turn it is. -/
def State.managerOp (s : State) (want : Nat) : State :=
  match s.dict.mgrQueue with
  | [] => s
  | m :: rest =>
    let op := bytesAt m.payload 1 1
    let txn := bytesAt m.payload 2 2
    let len := bytesAt m.payload 6 2
    let mine := op == want || op == 0 || decide (9 < op)
    if !s.hl.running || !mine || !s.turn .M then s
    else
      let s : State := { s with dict := { s.dict with mgrQueue := rest, lastRoute := .M } }
      if !s.fromManager m then s.mgmtRefuse m
      else
        let o := if m.payload.length < 12 + len then (s, refusal .M txn Od.tooLong) else s.dictRun .M op txn ((m.payload.drop 12).take len)
        if o.1.sameRun true then (o.1.mgmtAnswer m o.2).bump O.mgrOps else o.1

/-- An operation that all routes carry. -/
def State.dictOp (s : State) (op : Nat) (q : DictReq) : State :=
  match q with
  | .frame f => s.frameReceived f
  | .field => s.fieldTake op
  | .mirror => s.mirrorOp op
  | .manager => s.managerOp op

/-- READ. -/
def execOdRead (q : DictReq) (s : State) : Out := .next (s.dictOp 1 q)
/-- WRITE. -/
def execOdWrite (q : DictReq) (s : State) : Out := .next (s.dictOp 2 q)
/-- READ_BLOCK. -/
def execReadBlock (q : DictReq) (s : State) : Out := .next (s.dictOp 3 q)
/-- WRITE_BLOCK. -/
def execWriteBlock (q : DictReq) (s : State) : Out := .next (s.dictOp 4 q)
/-- DESCRIBE. -/
def execDescribe (q : DictReq) (s : State) : Out := .next (s.dictOp 5 q)
/-- TXN_OPEN. -/
def execTxnOpen (q : DictReq) (s : State) : Out := .next (s.dictOp 6 q)
/-- TXN_CHECK. -/
def execTxnCheck (q : DictReq) (s : State) : Out := .next (s.dictOp 7 q)
/-- TXN_APPLY. -/
def execTxnApply (q : DictReq) (s : State) : Out := .next (s.dictOp 8 q)
/-- TXN_DROP. -/
def execTxnDrop (q : DictReq) (s : State) : Out := .next (s.dictOp 9 q)

/-- HELLO (R196, R199). -/
def execHello (q : DictReq) (s : State) : Out := .next (s.dictOp 0 q)
/-- SESSION_RESET (R199, R200). -/
def execSessionReset (q : DictReq) (s : State) : Out := .next (s.dictOp 0xC q)
/-- NOTIFY_ACK (R202). -/
def execNotifyAck (q : DictReq) (s : State) : Out := .next (s.dictOp 0xB q)

/-- FOREIGN_FRAME: a frame as the Z20 receives it. -/
def execForeignFrame (bytes : List Byte) (s : State) : Out := .next (s.frameReceived bytes)

/-- PLCA_FALLBACK (R190): no beacon is seen and the node falls back to CSMA/CD, or a beacon is seen again and it follows PLCA. -/
def execPlcaFallback (beacon : Bool) (s : State) : Out :=
  if !s.pwr.aon || (s.hop.plca == 1) != beacon then .next s
  else if beacon then .next { s with hop := { s.hop with plca := 0 } }
  else .next (({ s with hop := { s.hop with plca := 1 } } : State).bump O.fallbacks)

/-! ### Notifications (R186-R189, R202, R208, R210) -/

/-- The kept state of subscription n (1-32). -/
def State.sub (s : State) (n : Nat) : Sub := kvGet {} s.dict.subs n
def State.setSub (s : State) (n : Nat) (x : Sub) : State := { s with dict := { s.dict with subs := kvPut s.dict.subs n x } }

/-- A notification is lost: counted for its subscription's next record, over all routes, and on the host route in the mirror. -/
def State.loseNotify (s : State) (n : Nat) (r : Nat) : State :=
  let x := s.sub n
  let s := (s.setSub n { x with lost := min 0xFFFF (x.lost + 1) }).bump O.notifyLost
  if r = 1 then
    let l := s.mir.lost + 1
    { s with mir := { s.mir with lost := l % 2 ^ 64, lostOvf := s.mir.lostOvf || decide (2 ^ 64 ≤ l) } }
  else s

/-- The 32 bytes of a record (R188). -/
def Notify.bytes (x : Notify) : List Byte :=
  natLe 2 x.idx ++ natLe 1 x.sub ++ natLe 1 x.ty ++ natLe 2 x.lost
    ++ natLe 1 (b2n x.timeValid + 2 * b2n x.truncated + 4 * b2n x.domainOff + 128) ++ natLe 1 x.number ++ natLe 8 x.time ++ natLe 16 x.value

/-- Send a NOTIFY, also again: to NOTIFY_DEST_MAC as it now is, under the nonce and the key in use (R202, R203). -/
def State.sendNotify (s : State) (u : Unacked) : State :=
  s.sendBytes (s.hopFrame s.fieldKey (s.val O.notifyDestMac) 0xA 2 0 u.seq 0 0 u.note.bytes)

/-- Deliver a record on its route. -/
def State.deliver (s : State) (n r : Nat) (x : Notify) : State :=
  let sent (s : State) : State := s.setSub n { s.sub n with lost := 0 }
  match r with
  | 0 =>
    if s.val O.notifyDestMac = 0 || 8 ≤ s.hop.unacked.length then s.loseNotify n 0
    else
      let u : Unacked := { seq := s.hop.txSeq, note := x, at_ := s.now }
      let s : State := { s with hop := { s.hop with unacked := s.hop.unacked ++ [u], txSeq := s.hop.txSeq % (2 ^ 32 - 1) + 1 } }
      (sent s).sendNotify u
  | 1 =>
    let ctrl := s.rg 0x800018
    if !bit ctrl 0 || 256 ≤ (s.mir.tail + 2 ^ 32 - s.mir.head) % 2 ^ 32 then s.loseNotify n 1
    else
      let s : State := { s with mir := { s.mir with tail := (s.mir.tail + 1) % 2 ^ 32 } }
      let s := (sent s).areaWrite (0x810000 + (s.mir.tail + 255) % 256 * 32) x.bytes
      if bit ctrl 1 then s.attn At.dictNotify else s
  | _ =>
    if s.slice.state == .none then s.loseNotify n 2
    else
      let s : State := { s with dict := { s.dict with mgrSent := s.dict.mgrSent ++ [x] } }
      let b := x.bytes
      let m : Msg := { kind := .mgmt, dst := s.slice.mgrAddr,
                       payload := natLe 1 2 ++ natLe 1 0xA ++ natLe 2 0 ++ natLe 2 0 ++ natLe 2 b.length ++ natLe 4 0 ++ b }
      (sent s).tellMember s.slice.mgrAddr m

/-- The record of a subscription now (R188). -/
def State.noteOf (s : State) (n v : Nat) (row : ObjRow) (off : Bool) (value : Nat) : Notify :=
  { idx := fld v 15 0, sub := fld v 23 16, ty := row.ty.code, lost := (s.sub n).lost, timeValid := s.timeValid, truncated := false,
    domainOff := off, number := n, time := (if s.timeValid then s.rackTime else 0), value := (if off then 0 else value) }

/-- Compare two values in an object's type. -/
def lessIn (row : ObjRow) (a b : Nat) : Bool :=
  if row.ty.signed then decide (sext (8 * row.ty.size) a < sext (8 * row.ty.size) b) else decide (a < b)

/-- The condition of a subscription between two evaluations (R186). -/
def subMet (row : ObjRow) (cond cur seen last thr : Nat) : Bool :=
  let t := if row.ty.signed then toTwos (8 * row.ty.size) (sext 64 thr) else thr
  match cond with
  | 1 => cur != last
  | 2 => !lessIn row t seen && lessIn row t cur
  | 3 => !lessIn row seen t && lessIn row cur t
  | _ => false

/-- Evaluate subscription n (R187, R189): the first evaluation is the baseline. -/
def State.evalSub (s : State) (n : Nat) : State :=
  let v := s.val (O.subscription + (n - 1))
  let cond := fld v 26 24
  let gap := fld v 47 32 * 1000000
  let k := fld v 15 0 * 256 + fld v 23 16
  let x := s.sub n
  let mayNow := match x.lastAt with | some t => decide (t + gap ≤ s.now) | none => true
  if cond = 0 then s
  else match objRow? (fld v 15 0) (fld v 23 16) with
    | none => s
    | some row =>
      if s.odOff k then
        if x.paused || !mayNow then s
        else ((s.setSub n { x with paused := true, due := false, lastAt := some s.now }).deliver n (fld v 29 28) (s.noteOf n v row true 0))
      else
        let r : Route := match fld v 29 28 with | 0 => .F | 1 => .H | _ => .M
        let cur := if row.acc == .wo then 0 else s.odLive r k
        match x.seen, x.lastVal with
        | some seen, some last =>
          let due := x.due || (if cond = 4 then mayNow else subMet row cond cur seen last (s.val (O.subThreshold + (n - 1))))
          if due && mayNow then
            (s.setSub n { x with paused := false, due := false, seen := some cur, lastVal := some cur, lastAt := some s.now }).deliver n
              (fld v 29 28) (s.noteOf n v row false cur)
          else s.setSub n { x with paused := false, due := due, seen := some cur }
        | _, _ => s.setSub n { x with paused := false, seen := some cur, lastVal := some cur,
                                      lastAt := (if cond = 4 then some s.now else x.lastAt) }

/-- NOTIFY_EVALUATION. -/
def execNotifyEvaluation (s : State) : Out :=
  .next (if s.hl.running then s.each (List.range 32) (fun s n => s.evalSub (n + 1)) else s)

/-- NOTIFY_RESEND: 10 ms unacknowledged; after 3 resends, or with no destination any more, it is lost (R202). -/
def execNotifyResend (seq : Nat) (s : State) : Out :=
  match s.hop.unacked.find? (fun u => u.seq == seq) with
  | none => .next s
  | some u =>
    if !s.hl.running then .next s
    else
      let s := s.until_ (u.at_ + 10000000)
      if 3 ≤ u.resends || s.val O.notifyDestMac = 0 then
        .next (({ s with hop := { s.hop with unacked := s.hop.unacked.filter (fun w => w.seq != seq) } } : State).loseNotify u.note.number 0)
      else
        let w : Unacked := { u with resends := u.resends + 1, at_ := s.now }
        let s : State := { s with hop := { s.hop with unacked := s.hop.unacked.map (fun y => if y.seq == seq then w else y) } }
        .next (s.hlWork.sendNotify w)

end Sys2Proof.Machine
end

