-- ==== Sys2Proof/Machine/Policy.lean ====
section
/-! DEFINITION. The steward's seven policies (R788-R794). -/

namespace Sys2Proof.Machine

/-- The steward's turn: the firmware runs and no route operation waits (R792). -/
def State.stewardTurn (s : State) : Bool := s.hl.running && s.hop.waiting.isEmpty && s.mir.order.isEmpty && s.dict.mgrQueue.isEmpty

/-- A timer of the steward: its action where it is the steward's turn (R86, R792). -/
def State.steward (s : State) (f : State → State) : State := if s.stewardTurn then f s.hlWork else s

/-- A decision in Advise (R792): logged and signalled, unless it repeats the previous advice for the same thing (`k`)
within 60 s. -/
def State.adviseOn (s : State) (k policy reason idx sub old new : Nat) (measure : Int) : State :=
  if s.stw.advice.any (fun e => e.1 == k && e.2.1 == new && decide (s.now < e.2.2 + 60000000000)) then s
  else
    let s := (s.logDecision policy 1 reason idx sub old new measure).attn At.steward
    { s with stw := { s.stw with advice := s.stw.advice.filter (fun e => e.1 != k) ++ [(k, new, s.now)] } }

/-- Advice about a dictionary object. -/
def State.advise (s : State) (policy reason idx sub old new : Nat) (measure : Int) : State :=
  s.adviseOn (idx * 256 + sub) policy reason idx sub old new measure

/-- The dictionary refuses the steward's write of an object: a route holds its group, or its domain is off (R792). -/
def State.stewardRefused (s : State) (k : Nat) : Bool :=
  [Route.F, Route.H, Route.M].any (fun q => bit (s.lockHeld q) (k / 0x100000)) || s.odOff k || s.odBusy k

/-- A policy decides on a value of a governed object: written in Auto, proposed in Advise. -/
def State.decideOn (s : State) (policy reason k new : Nat) (measure : Int) : State :=
  let old := governed k (s.val k)
  if s.overridden k || new = old then s
  else match s.policyRuns policy with
    | 0 => s
    | 1 => s.advise policy reason (k / 256) (k % 256) old new measure
    | _ =>
      if s.stewardRefused k then s.logDecision policy 3 0x82 (k / 256) (k % 256) old new measure
      else
        let cap := s.capReason
        ((s.moveGoverned k new).noteReason cap).logDecision policy 0 reason (k / 256) (k % 256) old new measure

/-! ### POWER -/

/-- The hottest reading of a class of sensors. -/
def State.hottest (s : State) (c : Nat) : Int :=
  match (List.range 90).filter (fun n => thermClass n == c) with
  | [] => 0
  | n :: l => l.foldl (fun m i => max m (s.reading i)) (s.reading n)

/-- How far the hottest reading of a class stands below its throttle threshold. -/
def State.marginOf (s : State) (c : Nat) : Int := s.thrAt c - s.hottest c

/-- The class of the logic, HBM and power-stage classes that stands closest to its threshold. -/
def State.closest (s : State) : Nat := [1, 2].foldl (fun b c => if s.marginOf c < s.marginOf b then c else b) 0

/-- POWER decides. -/
def State.powerDecide (s : State) (held peaks : Bool) : State :=
  let m : Int := (s.val O.marginC * 16 : Nat)
  let c := s.closest
  let cap := s.val O.powerCap
  let down := min cap (max (s.val O.floorW) (cap - s.val O.stepW))
  let up := max cap (min (s.baseValue O.powerCap) (cap + s.val O.stepW))
  if held && decide (s.marginOf c ≤ m) then s.decideOn 0 (c + 1) O.powerCap down (s.hottest c)
  else if peaks then s.decideOn 0 4 O.powerCap down (s.val O.peakEvents)
  else if held && decide (m + 48 < s.marginOf c) then s.decideOn 0 5 O.powerCap up (s.hottest c)
  else s

/-- POLICY_POWER. -/
def execPolicyPower (held peaks : Bool) (s : State) : Out := .next (s.steward (fun s => s.powerDecide held peaks))

/-! ### MIGRATION, SEEDBANK, FAULT_THRESHOLD, ROTATION -/

/-- MIGRATION decides: `idle` says that the hot list stayed empty and frames used below half the pool for 16 epochs. -/
def State.migDecide (s : State) (promotions evictions : Nat) (idle : Bool) : State :=
  let v := s.val O.migHotThreshold
  if promotions < 2 * evictions then s.decideOn 1 1 O.migHotThreshold (max v (min (s.val O.threshMax) (2 * v))) evictions
  else if idle && s.mig.hot.isEmpty && decide (2 * s.framesUsed.length < 32 * s.poolAcres) then
    s.decideOn 1 2 O.migHotThreshold (min v (max (s.val O.threshMin) (v / 2))) s.framesUsed.length
  else s

/-- POLICY_MIGRATION. -/
def execPolicyMigration (promotions evictions : Nat) (idle : Bool) (s : State) : Out :=
  .next (s.steward (fun s => s.migDecide promotions evictions idle))

/-- SEEDBANK decides. -/
def State.seedDecide (s : State) : State :=
  let lag := s.odLive .H O.scrubLagH
  let all := s.val O.scrubInterval * 24
  let v := s.val O.scrubRate
  let base := s.baseValue O.scrubRate
  let s := if 80 * all ≤ 100 * lag then s.decideOn 2 1 O.scrubRate (max v (min (s.val O.rateMax) (2 * v))) lag
    else if 100 * lag < 50 * all then s.decideOn 2 2 O.scrubRate (min v (max base (max (s.val O.rateMin) (v / 2)))) lag
    else s
  let life := s.odLive .H O.lifeUsed
  let spread := s.baseValue O.wearSpread
  if 50 ≤ life then s.decideOn 2 3 O.wearSpread (min spread (max (s.val O.spreadMin) (spread / 2))) life else s

/-- POLICY_SEEDBANK. -/
def execPolicySeedbank (s : State) : Out := .next (s.steward State.seedDecide)

/-- ESC_COUNT of one source: halved when the rate rises, doubled toward its base when it falls. -/
def State.escDecide (s : State) (source day week : Nat) : State :=
  let k := (0x7100 + source) * 256 + 6
  let v := governed k (s.val k)
  if !srcEscalates source then s
  else if 0 < day && 2 * week ≤ 7 * day then s.decideOn 4 1 k (min v (max (s.val O.escMin) (v / 2))) day
  else if 14 * day ≤ week then s.decideOn 4 2 k (max v (min (s.baseValue k) (2 * v))) day
  else s

/-- POLICY_FAULT_THRESHOLD. -/
def execPolicyFaultThreshold (rates : List (Nat × Nat × Nat)) (s : State) : Out :=
  .next (s.steward (fun s => s.each rates (fun s e => s.escDecide e.1 e.2.1 e.2.2)))

/-- Acres of the lot the next entry in the queue would sow. -/
def State.nextLotAcres (s : State) : Option Nat := (s.rot.entries.find? (fun e => e.state == .queued)).map (fun (e : RotEntry) => (s.lot e.lot).size)

/-- ROTATION decides: `late` is by how much a sow started after the predicted end of the current training. -/
def State.rotationDecide (s : State) (late : Option Word32) (waited : Bool) : State :=
  let v := s.val O.residentMax
  let room := match s.nextLotAcres with | some n => decide (n ≤ s.acresFree.length) | none => false
  match late with
  | some d => if room && v < s.val O.residentLimit then s.decideOn 5 1 O.residentMax (v + 1) (sext 32 d.toNat) else s
  | none => if waited && s.rot.waitPool && 1 < v then s.decideOn 5 2 O.residentMax (v - 1) s.acresFree.length else s

/-- POLICY_ROTATION. -/
def execPolicyRotation (late : Option Word32) (waited : Bool) (s : State) : Out := .next (s.steward (fun s => s.rotationDecide late waited))

/-! ### LINK -/

/-- The state code of a port in the log. -/
def State.portCode (s : State) (p : Nat) : Nat := (s.port p).state.code

/-- Full lanes of a port. -/
def fullLanes (p : Nat) : Nat := if p < 3 then 8 else 4

/-- A port action of LINK, at most one per port in 10 s: `half` the width it retrains to. -/
def State.portAct (s : State) (reason p : Nat) (half : Bool) : State :=
  let x := s.port p
  let new : PortState := if half then .half else .up
  let sub := p + 1
  let margin : Int := (x.timing + x.voltage * 65536 : Nat)
  match s.policyRuns 3 with
  | 0 => s
  | 1 => s.advise 3 reason 0x5010 sub x.state.code new.code margin
  | _ =>
    let old := x.state.code
    let s := s.retrainPort p
    let y := s.port p
    let s := s.setPort p { y with state := new, lanes := (if half then fullLanes p / 2 else fullLanes p) }
    let tries := (kvGet [] s.stw.portTries p).filter (fun t => decide (s.now < t + 600000000000))
    let kept := if reason = 2 then kvPut s.stw.portTries p (tries ++ [s.now]) else kvErase s.stw.portTries p
    let s : State := { s with stw := { s.stw with portAt := kvPut s.stw.portAt p s.now, portTries := kept } }
    s.logDecision 3 0 reason 0x5010 sub old (s.portCode p) margin

/-- LINK looks at a port. -/
def State.portDecide (s : State) (p : Nat) (restored : Bool) : State :=
  let x := s.port p
  let soon := match kvFind s.stw.portAt p with | some t => decide (s.now < t + 10000000000) | none => false
  let tries := ((kvGet [] s.stw.portTries p).filter (fun t => decide (s.now < t + 600000000000))).length
  if !x.active || soon then s
  else if x.marginal then
    if x.state == .up && s.val O.retrainLimit ≤ tries then s.portAct 3 p true else s.portAct 2 p (x.state == .half)
  else if restored && x.state == .half && 225 ≤ x.timing && 18 ≤ x.voltage then s.portAct 4 p false
  else s

/-- LINK looks at the host link: it re-equalizes when the corrected count of the window exceeds HOST_CE_RATE, at most once
in 10 s (R239). The place of the link in a log entry is not stated: a free value. -/
def State.linkDecide (s : State) (count : Nat) : State :=
  if !s.link.up || count ≤ s.val O.hostCeRate then s
  else
    let d := s.draw
    let at_ := d.1 % 2 ^ 24
    let old := s.link.ltssm.code
    match s.policyRuns 3 with
    | 0 => s
    | 1 => d.2.adviseOn (2 ^ 24) 3 1 (at_ / 256) (at_ % 256) old Ltssm.recovery.code count
    | _ =>
      if !(s.link.ltssm == .l0) || s.now < s.link.retrainFrom then s
      else
        let s : State := { d.2 with link := { s.link with ltssm := .recovery, stewardRetrain := true, retrainFrom := s.now + 10000000000 } }
        (s.bump O.recoveryCount).logDecision 3 0 1 (at_ / 256) (at_ % 256) old Ltssm.recovery.code count

/-- LINK decides on the host link and on each port. -/
def State.linkPolicy (s : State) (count : Nat) (restored : BitVec 13) : State :=
  if s.policyRuns 3 = 0 then s
  else (s.linkDecide count).each (List.range 13) (fun s p => s.portDecide p (restored.getLsbD p))

/-- POLICY_LINK. -/
def execPolicyLink (fec replays : Nat) (restored : BitVec 13) (s : State) : Out :=
  let s := if s.link.up then (s.bumpBy O.fecCorrected fec).bumpBy O.replays replays else s
  .next (s.steward (fun s => s.linkPolicy (fec + replays) restored))

/-! ### FALLOW -/

/-- FALLOW acts on PWR_REQUEST: 1 asks for Fallow, 2 for Tilled. -/
def State.fallowAct (s : State) (reason v measure : Nat) : State :=
  let old := s.val O.pwrRequest
  if s.overridden O.pwrRequest then s
  else match s.policyRuns 6 with
    | 0 => s
    | 1 => s.advise 6 reason 0x2000 2 old v measure
    | _ =>
      if s.stewardRefused O.pwrRequest then s.logDecision 6 3 0x82 0x2000 2 old v measure
      else
        let s := s.logDecision 6 0 reason 0x2000 2 old v measure
        if v = 1 then (s.pwrRequestOp 1).1
        else if s.pwr.mode == .fallow then ((s.setVal O.pwrRequest 2).wakeEvent).reqStatus 3 0
        else s.setVal O.pwrRequest 2

/-- FALLOW decides: `due` says that its conditions have held for IDLE_S, or its timer. In Fallow the timer wakes the module,
or waits for the next wake where the mask keeps it from waking (R72). -/
def State.fallowDecide (s : State) (due : Bool) : State :=
  if !due then s
  else match s.pwr.mode with
    | .up => if s.fallowFails = 0 then s.fallowAct 1 1 (s.val O.idleS) else s
    | .fallow =>
      if s.val O.wakeAfterS = 0 || s.policyRuns 6 = 0 then s
      else
        let s := s.until_ (s.pwr.fallowAt + s.val O.wakeAfterS * 1000000000)
        if bit (s.val O.fallowWakeMask) 3 then s.fallowAct 2 2 (s.val O.wakeAfterS)
        else { s with pwr := { s.pwr with deferredTimer := true } }
    | _ => s

/-- POLICY_FALLOW. -/
def execPolicyFallow (due : Bool) (s : State) : Out := .next (s.steward (fun s => s.fallowDecide due))

end Sys2Proof.Machine
end

