-- ==== Sys2Proof/Machine/HostReg.lean ====
section
/-! DEFINITION. What the host's memory requests do: access shapes and registers of the control window (R291, R292), the
doorbell window (R293, R348), the aperture window (R253-R255, R294, R309-R311), AtomicOps (R249), unsupported requests
(R307), requests that cannot be served in time (R263), and the answers to back-invalidate snoops (R509). -/

namespace Sys2Proof.Machine

/-! ### Access shapes -/

/-- The byte enables of a request, one per byte. -/
def reqEnables (r : MemReq) : List Bool :=
  (List.range r.len).map (fun i =>
    let a := r.off + i
    if a / 4 = r.off / 4 then bit r.fbe.toNat (a % 4)
    else if a / 4 = (r.off + r.len - 1) / 4 then bit r.lbe.toNat (a % 4)
    else true)

/-- Every byte of a request is enabled. -/
def reqWhole (r : MemReq) : Bool := (reqEnables r).all id

/-- The registers of an aligned 8-byte word of the control window: 0 reserved, 1 one 64-bit register, 2 a 32-bit register
in the low half, 3 two 32-bit registers (R291; the register tables of the chapters). -/
def gateWord (w : Nat) : Nat :=
  if 0x40000 ≤ w && w < 0x60000 then 1
  else if 0x800 ≤ w && w < 0x880 then 1
  else if [0x0, 0x100, 0x200, 0x210, 0x220, 0x300, 0x400, 0x408, 0x418, 0x600, 0x608, 0x610, 0x880].contains w then 1
  else if [0x218, 0x410, 0x81000, 0x81200, 0x81210, 0x81218, 0x81240].contains w then 3
  else if [0x228, 0x81008, 0x81220].contains w then 2
  else 0

/-- The same for Plat, page faults, migration and contexts. -/
def platWord (w : Nat) : Nat :=
  let o := w - 0x200000
  if 0x280000 ≤ w then 1
  else if 0x40000 ≤ o then 1
  else if 0x100 ≤ o && o < 0x180 then 1
  else if 0x200 ≤ o && o < 0x240 then 1
  else if 0x308 ≤ o && o < 0x328 then 1
  else if 0x2100 ≤ o && o < 0x2900 then (if o % 0x20 < 0x18 then 1 else 0)
  else if [0x0, 0x8, 0x10, 0x1000, 0x1008, 0x1018, 0x1020, 0x1028, 0x1030, 0x2000, 0x2008, 0x2010].contains o then 1
  else if o = 0x300 then 2
  else if o = 0x1010 then 3
  else 0

/-- The same for the mirror and the collector. -/
def mirrorWord (w : Nat) : Nat :=
  let o := w - 0x800000
  if w < 0x1000000 then
    (if 0x20000 ≤ o && o < 0x30000 then (if o % 0x1000 < 0x10 then 1 else 0)
     else if [0x0, 0x20, 0x30].contains o then 1
     else if [0x8, 0x18, 0x28].contains o then 2
     else if o = 0x10 then 3 else 0)
  else
    let c := w - 0x1000000
    if 0x10000 ≤ c then (if c < 0x30000 && c % 0x40 != 0x18 then 1 else 0)
    else if 0x100 ≤ c then (if c < 0x300 then 1 else 0)
    else if [0x18, 0x38].contains c then 2
    else if c = 0x20 then 3
    else if c ≤ 0x10 || (0x28 ≤ c && c ≤ 0x30) || c = 0x40 || c = 0x48 || (0x60 ≤ c && c < 0x80) then 1
    else 0

/-- The registers of an aligned word of the control window. -/
def wordKind (w : Nat) : Nat :=
  if w < 0x100000 then gateWord w
  else if w < 0x104000 then (if w % 0x100 ≤ 0x68 then 1 else if w % 0x100 = 0x70 then 2 else 0)
  else if w < 0x140000 then 0
  else if w < 0x150000 then (if w ≤ 0x140020 then 1 else 0)
  else if w < 0x200000 then (if w < 0x151000 && w % 0x40 < 0x38 then 1 else 0)
  else if w < 0x300000 then platWord w
  else if w < 0x340000 then 1
  else if w < 0x400000 then (if w = 0x340000 then 1 else if w = 0x340008 then 2 else if 0x340100 ≤ w && w < 0x340300 then 1 else 0)
  else if w < 0x800000 then
    (if w < 0x502000 then 1 else if [0x510000, 0x510008, 0x510018].contains w then 1
     else if [0x510010, 0x510020].contains w then 2 else 0)
  else if w < 0x2000000 then mirrorWord w
  else if w < 0x3000000 then (if w % 0x100000 < 0x40 then 1 else if w % 0x100000 = 0x40 then 2 else 0)
  else 0

/-- The same as the module is strapped: the CXL component registers are reserved in PCIe mode (R251). -/
def State.wordKindNow (s : State) (w : Nat) : Nat :=
  if 0x81000 ≤ w && w < 0x82000 && s.val O.hostMode = 0 then 0 else wordKind w

/-- The buffer area an offset lies in, as its bounds (R292): request and response areas, notification ring. -/
def bufferArea (o : Nat) : Option (Nat × Nat) :=
  if 0x810000 ≤ o && o < 0x812000 then some (0x810000, 0x812000)
  else if 0x820000 ≤ o && o < 0x830000 then
    let b := o / 0x1000 * 0x1000
    if o % 0x1000 < 0x100 then none else if o % 0x1000 < 0x800 then some (b + 0x100, b + 0x800) else some (b + 0x800, b + 0x1000)
  else none

/-- A request lies inside one buffer area. -/
def inBuffer (r : MemReq) : Bool :=
  match bufferArea r.off with | some (lo, hi) => decide (lo ≤ r.off) && decide (r.off + r.len ≤ hi) | none => false

/-- The plot whose window an offset of the control window lies in. -/
def plotWindowOf (o : Nat) : Option Nat := if 0x2000000 ≤ o && o < 0x3000000 then some ((o - 0x2000000) / 0x100000) else none

/-! ### Reading registers -/

/-- The encodings of FCTX_STATUS.STATE and ROW_STATUS.STATE. -/
def FState.code : FState → Nat | .disabled => 0 | .enabled => 1 | .draining => 2 | .error => 3 | .disabling => 4
def RowState.code : RowState → Nat | .idle => 0 | .active => 1 | .chainEnd => 2 | .parked => 3 | .stopping => 4 | .error => 5

/-- GATE_ID, HOST_STATUS, ATTN_STATUS, COH_STATUS and what else the global block reads (R276, R333, R527). -/
def State.gateRead (s : State) (w : Nat) : Nat :=
  if w = 0x0 then
    0x1F7D + 0x0A20 * 2 ^ 16 + 0x10 * 2 ^ 32 + s.val O.pkgAddr % 4096 * 2 ^ 40 + s.val O.pkgAddrValid % 2 * 2 ^ 52
      + s.val O.hostMode % 2 * 2 ^ 53
  else if w = 0x100 then s.rg w + s.barSize * 2 ^ 16
  else if w = 0x200 then
    b2n s.host.frozen + 2 * b2n (!s.bme && (List.range 64).all (fun r => (s.row r).state == .parked))
      + 4 * b2n (s.host.tags.any (fun u => !(u.quar == .no))) + s.readsOutstanding % 4096 * 2 ^ 16 + min s.postedHeld 512 * 2 ^ 32
  else if w = 0x218 then s.rg Rg.freezeCause % 2 + s.rg Rg.freezeStatus % 8 * 2 ^ 32
  else if w = 0x300 then s.rackTime
  else if w = 0x400 then s.attnCauses
  else if w = 0x410 then
    b2n s.linePending + 2 * b2n s.host.attnAsserted + 4 * b2n s.host.attnHoldoff.isSome + s.rg Rg.attnHoldoff * 2 ^ 32
  else if w = 0x880 then b2n s.cxlOn + 2 * b2n (!s.coh.changing.isEmpty) + s.coh.snoopFilter.length * 2 ^ 32
  else if 0x40000 ≤ w && w < 0x60000 && w % 0x20 = 0 then
    s.rg w + 2 ^ 62 * b2n (s.fab.draining.contains ((w - 0x40000) / 0x20))
  else if 0x81000 ≤ w && w < 0x82000 then
    (match w with
      | 0x81000 => 0x02110001 + 0x20030005 * 2 ^ 32
      | 0x81008 => 0x2401000C
      | 0x81240 => 1 + s.rg 0x81244 * 2 ^ 32
      | _ => s.rg w + s.rg (w + 4) * 2 ^ 32)
  else s.rg w

/-- The words of a furrow's context (R382), FURROW_STORE and FURROW_ERR_MAP (R383). -/
def State.furrowRead (s : State) (w : Nat) : Nat :=
  if w < 0x340000 then
    let n := (w - 0x300000) / 0x40
    let f := s.fur n
    match w % 0x40 with
    | 0x28 => s.rg w % 2 + 2 * b2n (f.state == .draining) + s.prioOf n * 2 ^ 8
    | 0x30 => f.state.code + 8 * b2n f.tailRejected + 16 * b2n f.inlineRejected + (s.slotsOf n).length * 2 ^ 16
        + (s.stagedOf n).length * 2 ^ 32
    | 0x38 => f.errCode + f.errSeq * 2 ^ 32
    | _ => s.rg w
  else if w = 0x340000 then
    s.g.store.length + ((s.furrowsOn.map (fun m => s.storeMin m)).foldl (· + ·) 0) * 2 ^ 16 + s.g.staging.length * 2 ^ 32
      + ((s.furrowsOn.map (fun m => s.inlineLimit m)).foldl (· + ·) 0) * 2 ^ 48
  else if w = 0x340008 then s.rg w
  else (s.furrowsOn.filter (fun m => (s.fur m).state == .error && m / 64 == (w - 0x340100) / 8)).foldl (fun v m => v + 2 ^ (m % 64)) 0

/-- A parcel as PARCEL_R0 shows it (R478). -/
def State.parcelRead (s : State) (w : Nat) : Nat :=
  let p := kvGet {} s.plat.parcels (s.rg Rg.parcelSel)
  let t : Nat × Nat × Nat := match p.target with | .host a => (0, 0, a) | .hbm a => (1, 0, a) | .tilth n o => (2, n, o)
  if !p.valid then 0
  else if w = 0x200308 then
    Config.freeValue s.free % 256 + (match p.space with | .host => 0 | .devlocal => 1) * 2 ^ 8 + s.rg Rg.parcelSel * 2 ^ 16
      + p.pasid * 2 ^ 32 + t.1 * 2 ^ 52 + t.2.1 * 2 ^ 54 + b2n p.r * 2 ^ 58 + b2n p.w * 2 ^ 59 + b2n p.a * 2 ^ 60
      + b2n p.overlay * 2 ^ 61 + 2 ^ 62
  else if w = 0x200310 then p.start
  else if w = 0x200318 then p.length
  else t.2.2

/-- An entry of PRI waits unsent because the allocation is exhausted (R495). -/
def State.priStalled (s : State) : Bool :=
  let out := (s.flt.prgs.map (fun g => g.2.2.length)).foldl (· + ·) 0
  s.flt.entries.any (fun e => e.pri && !e.resolved && e.prg.isNone) && decide (s.cfgv 0x17C ≤ out)

/-- The words of Plat, page faults and migration (R478, R479, R525, R526). -/
def State.platRead (s : State) (w : Nat) : Nat :=
  let o := w - 0x200000
  if 0x280000 ≤ w then
    if w % 0x20 = 0x18 then
      let pasid := fld (s.pctxCtrl ((w - 0x280000) / 0x20)) 19 0
      (s.furrowsOn.filter (fun n => s.furPasid n == pasid)).length + s.parcelsOf pasid * 2 ^ 16 + 2 ^ 32 * b2n (s.plat.retiring == some pasid)
    else s.rg w
  else if 0x40000 ≤ o then
    match kvFind s.mig.counters ((o - 0x40000) / 0x10) with
    | none => 0
    | some c =>
      if o % 0x10 = 8 then c.region / 2 ^ 21 * 2 ^ 21
      else c.pasid % 2 ^ 20 + 2 ^ 20
        + 2 ^ 21 * b2n (s.z20Overlays.any (fun p => p.2.pasid == c.pasid && p.2.start == c.region)) + c.count % 2 ^ 32 * 2 ^ 32
  else if 0x308 ≤ o && o < 0x328 then s.parcelRead w
  else match o with
    | 0x0 => 32768 + 256 * 2 ^ 16 + 8 * 2 ^ 25 + 16 * 2 ^ 32 + 14 * 2 ^ 37 + 1024 * 2 ^ 42
    | 0x10 => b2n s.plat.mode + 2 * b2n s.plat.switching.isSome + s.plat.walks.length * 2 ^ 16 + s.plat.cache.length * 2 ^ 32
    | 0x200 => s.rg w &&& 0x3FFFFFFFFFFF07FF
    | 0x220 => s.rg w / 8 * 8
    | 0x228 => 0
    | 0x230 => s.plat.ticketNext + s.plat.ticketDone * 2 ^ 16 + s.cmdQueued * 2 ^ 32 + 2 ^ 39 * b2n s.plat.rejected + s.plat.lastResult * 2 ^ 48
    | 0x238 => s.plat.acks % 2 ^ 21 + (if s.plat.executing.isNone then 0 else if s.now < s.plat.dropUntil then 1 else if s.now < s.plat.recallUntil then 2 else 3) * 2 ^ 21
    | 0x1010 => s.rg w + s.flt.tail * 2 ^ 32
    | 0x1018 => (s.flt.entries.filter (fun e => !e.resolved)).length + 2 ^ 15 * b2n s.flt.full + 2 ^ 16 * b2n (!s.flt.waiting.isEmpty)
        + 2 ^ 17 * b2n s.priStalled + s.flt.batch * 2 ^ 32
    | 0x1020 => 0
    | 0x1030 => 0
    | 0x2008 => (s.readHotNext false).2
    | 0x2010 => s.framesUsed.length + 2 ^ 18 * b2n (s.mig.copying.isSome || s.mig.evicting.isSome) + s.mig.hot.length * 2 ^ 32
    | _ => s.rg w

/-- A paced transfer holds data that no request asks for (R553). -/
def State.rowKeeps (s : State) (r : Nat) : Bool :=
  (s.row r).xfers.any (fun x => x.d.paced && x.begun && decide (x.pressAuth ≤ x.pressPos) && (!x.ready.isEmpty || !x.pieces.isEmpty))

/-- The words of a row and of the global Drill block (R575, R576). -/
def State.drillRead (s : State) (w : Nat) : Nat :=
  if w < 0x140000 then
    let r := (w - 0x100000) / 0x100
    let x := s.row r
    match w % 0x100 with
    | 0x38 => 0
    | 0x40 => 0
    | 0x48 => x.state.code + 8 * b2n x.kick + 16 * b2n x.done + 32 * b2n (s.rowKeeps r) + x.code * 2 ^ 16 + x.xfers.length * 2 ^ 32
    | 0x50 => (match x.xfers with | y :: _ => s.delivered r y | [] => x.delivered) % 2 ^ 32
    | 0x58 => match x.pos with | some a => 1 + a / 64 * 64 | none => 0
    | 0x68 => x.bytes
    | 0x70 => b2n x.ovf
    | _ => s.rg w
  else match w with
    | 0x140000 => 64 + 2048 * 2 ^ 8 + 64 * 2 ^ 20 + 4 * 2 ^ 27
    | 0x140008 => (s.hopperUsed + 4095) / 4096 + s.reserves * 2 ^ 16
    | 0x140020 => maskOf 64 (fun r => s.rowOwner r == 0)
    | _ => s.rg w

/-- The words of the stake window (R420). -/
def State.stakeRead (s : State) (w : Nat) : Nat :=
  if w < 0x480000 then s.stake ((w - 0x400000) / 8)
  else if w < 0x500000 then 0
  else match w with
    | 0x510000 => (s.popTimeout false).2
    | 0x510008 => 0
    | 0x510010 => s.g.toQueue.length
        + 2 ^ 9 * b2n (s.val O.splitStakeTo != 0 && s.g.waits.any (fun x => !x.queued && (match x.deadline with | some d => decide (d ≤ s.now) | none => false)))
    | 0x510018 => b2n s.g.wrapValid + s.g.wrapInfo.1 * 2 + s.g.wrapInfo.2.1 * 2 ^ 16 + s.g.wrapInfo.2.2 % 4096 * 2 ^ 32
    | 0x510020 => s.g.waits.length
    | _ => s.rg w

/-- The words of the mirror (R232, R233). -/
def State.mirrorRead (s : State) (w : Nat) : Nat :=
  if 0x820000 ≤ w then
    let m := s.mslot ((w - 0x820000) / 0x1000)
    if w % 0x1000 = 0 then m.op + m.txn * 2 ^ 16 + m.bodyLen * 2 ^ 32 + 2 ^ 63 * b2n (m.state == 1)
    else m.state + m.status * 2 ^ 16 + m.rspLen * 2 ^ 32 + m.doneCount * 2 ^ 48
  else match w - 0x800000 with
    | 0x0 => 1 + 16 * 2 ^ 8 + 1792 * 2 ^ 16 + 2048 * 2 ^ 32 + 256 * 2 ^ 48
    | 0x8 => b2n s.mirrorServed + 2 * b2n (!s.hl.running) + 4 * b2n (s.fw.status == .activating)
    | 0x10 => s.mir.head + s.mir.tail * 2 ^ 32
    | 0x18 => s.rg w
    | 0x20 => s.mir.lost
    | 0x28 => b2n s.mir.lostOvf + 2 * b2n s.mir.reqOvf
    | _ => s.mir.requests

/-- The words of a plot's window (R629). -/
def State.plotRead (s : State) (w : Nat) : Nat :=
  let n := (w - 0x2000000) / 0x100000
  let x := s.plot n
  match w % 0x100000 with
  | 0x00 => x.state.code + 16 * b2n x.stalledStake + 32 * b2n x.stalledFeed + x.lastCode * 2 ^ 16 + x.trapCode * 2 ^ 32
  | 0x08 => x.pc + x.furrow * 2 ^ 16 + x.seq * 2 ^ 32
  | 0x10 => x.programId
  | 0x18 => match x.owner with | some p => p + 2 ^ 20 | none => 0
  | 0x20 => x.arith.bits
  | 0x30 => 0
  | 0x38 => x.macs
  | 0x40 => b2n x.macsOvf
  | _ => s.rg w

/-- An aligned word of the control window as it reads now. -/
def State.readWord (s : State) (w : Nat) : Nat :=
  if s.wordKindNow w = 0 then 0
  else if w < 0x100000 then s.gateRead w
  else if w < 0x150000 then s.drillRead w
  else if w < 0x200000 then s.rg w
  else if w < 0x300000 then s.platRead w
  else if w < 0x400000 then s.furrowRead w
  else if w < 0x800000 then s.stakeRead w
  else if w < 0x1000000 then s.mirrorRead w
  else if w < 0x2000000 then s.readCollector w
  else s.plotRead w

/-- The 64-bit counters that R215 lets two 32-bit reads take, and the stake values (R396). -/
def counterWord (w : Nat) : Bool :=
  [0x220, 0x300, 0x418, 0x610, 0x800020, 0x800030, 0x1000028, 0x1000030].contains w
    || (decide (0x100000 ≤ w) && decide (w < 0x104000) && w % 0x100 == 0x68)
    || (decide (0x400000 ≤ w) && decide (w < 0x480000))
    || (decide (0x2000000 ≤ w) && decide (w < 0x3000000) && w % 0x100000 == 0x38)

/-- What a read of an aligned word gives, with its side effects: the latch of R215, and the RC registers, which only a
read of their every byte clears (R7): `whole` says that its byte enables are all set. -/
def State.takeWord (s : State) (w off len : Nat) (whole : Bool) : State × Nat :=
  let v := s.readWord w
  if counterWord w && len = 4 && off = w then ({ s with latch := kvPut s.latch w (v / 2 ^ 32) }, v)
  else if counterWord w && len = 4 && off = w + 4 then
    match kvFind s.latch w with
    | some h => ({ s with latch := kvErase s.latch w }, h * 2 ^ 32)
    | none => (s, v)
  else if w = 0x510000 && len = 8 && whole then s.popTimeout true
  else if w = 0x202008 && len = 8 && whole then s.readHotNext true
  else if w = 0x200308 then (s.draw.2, v)
  else (s, v)

/-! ### Completions with data (R282, R311) -/

/-- The marks of the bytes of a range. -/
def byteMarks (p : List (Nat × Bool)) (a n : Nat) : List Bool := (List.range n).map (fun i => kvGet false p ((a + i) / 64))

/-! ### Reading and writing the control window -/

/-- A request passes the gate: as it arrives, or from the hold buffer. -/
def State.gateReq (s : State) (held : Bool) (win : Window) (write : Bool) (r : MemReq) : State × Bool :=
  if held then s.serveGate win write r else s.admitReq win write r

/-- A read of the control window (R291, R292). -/
def State.controlRead (s : State) (held : Bool) (r : MemReq) : State :=
  let a := s.gateReq held .control false r
  if !a.2 then a.1
  else
    let p := match plotWindowOf r.off with | some n => a.1.plotWindow n .control false r | none => (a.1, true)
    if !p.2 then p.1
    else
      let s := p.1
      if inBuffer r && r.len ≤ s.maxRead then
        s.completeMarked r ((((s.areaRead (r.off / 8 * 8) (r.off % 8 + r.len)).drop (r.off % 8))).map (fun b => (b, false)))
      else if 8 < r.len || r.off / 8 != (r.off + r.len - 1) / 8 then (s.mmioErr .shape .control false r).unsupported r false
      else
        let t := s.takeWord (r.off / 8 * 8) r.off r.len (reqWhole r)
        t.1.answerWord r t.2

/-- The CXL component registers (R251, R508; their layout is PRESUMED, log entry 7): the capability headers at 0x81000, the HDM
decoder capability at 0x81200 with the enable at +0x04, base at +0x10 and +0x14, size at +0x18 and +0x1C, control at +0x20
with COMMIT bit 9 and COMMITTED bit 10, and the back-invalidate decoder capability at 0x81240 (R242). -/
def State.writeHdm (s : State) (a v : Nat) : State :=
  let on := bit (s.rg 0x81220) 10
  if a = 0x81220 then
    let size := s.rg 0x81218 + s.rg 0x8121C * 2 ^ 32
    if !bit v 9 then
      { s.setRg a (v % 2 ^ 13 &&& 0x1AFF) with coh := { s.coh with hdmSize := 0 } }
    else if on then s
    else if fld v 7 4 = 0 && size != 0 && size ≤ hbmBytes then
      { s.setRg a ((v % 2 ^ 13 &&& 0x1AFF) + 2 ^ 9 + 2 ^ 10) with coh := { s.coh with hdmSize := size } }
    else s.setRg a ((v % 2 ^ 13 &&& 0x12FF) + 2 ^ 9 + 2 ^ 11)
  else if a = 0x81204 then s.setRg a (v &&& 2)
  else if a = 0x81244 then s.setRg a (v &&& 2)
  else if on || a < 0x81210 || 0x81220 < a then s
  else s.setRg a (if a = 0x81210 || a = 0x81218 then v / 2 ^ 28 * 2 ^ 28 else v)

/-- A write of a register of the Gate's global block. -/
def State.gateWrite (s : State) (a v : Nat) (rid : Half) : State :=
  if 0x40000 ≤ a && a < 0x60000 then s.writeStile ((a - 0x40000) / 0x20) (a % 0x20 / 8) v rid
  else if 0x800 ≤ a && a < 0x880 then s.writeCohWindow ((a - 0x800) / 8) v rid
  else if 0x81000 ≤ a then s.writeHdm a v
  else match a with
    | 0x100 => s.writeApertureMap v rid
    | 0x218 =>
      let s := if bit v 0 then s.freezeBy .software else s
      if bit v 1 then s.leaveFrozen else s
    | 0x228 => s.setRg a (s.rg a - (s.rg a &&& v))
    | 0x400 => (s.clearCauses v 0).lineMoves
    | 0x408 => (s.setRg a (v % 2 ^ 14)).lineMoves
    | 0x414 => if 1000 < v % 2 ^ 16 then s.valueErr a 4 rid else s.setRg a (v % 2 ^ 16)
    | 0x600 => if bit v 0 then s.rearmOp else s
    | _ => s

/-- A write of a register of a row, of the Drill's global block or of a Harrow slot. -/
def State.drillWrite (s : State) (a v : Nat) (rid : Half) : State :=
  if a < 0x140000 then
    let r := (a - 0x100000) / 0x100
    let x := s.row r
    match a % 0x100 with
    | 0x28 => s.writeRowBind r v rid
    | 0x38 => s.writeRowCtrl r v rid
    | 0x40 => if bit v 0 then s.kickOp r rid else s
    | 0x48 => if bit v 4 then s.setRow r { x with done := false } else s
    | 0x60 => s.writeRowQuota r v rid
    | 0x70 => if bit v 0 then s.setRow r { x with ovf := false } else s
    | o => if o ≤ 0x30 then s.writeRowDirect r o v rid else s
  else if a < 0x150000 then
    (if a = Rg.stileRx then s.writeStileRx v rid else if a = Rg.drillTags then s.writeDrillTags v rid else s)
  else s.writeHarrow ((a - 0x150000) / 0x40) (a % 0x40) v

/-- A write of a register of Plat, page faults, migration or a context. -/
def State.platWrite (s : State) (a v : Nat) (rid : Half) : State :=
  let o := a - 0x200000
  if 0x280000 ≤ a then
    let c := (a - 0x280000) / 0x20
    match a % 0x20 with
    | 0x00 => s.writePctxCtrl c v rid
    | 0x18 => s
    | off => s.writePctxOther c off v rid
  else if 0x40000 ≤ o then s
  else if 0x100 ≤ o && o < 0x180 then s.writeTmpl ((o - 0x100) / 0x10) (o % 0x10 == 8) v rid
  else if o = 0x200 && fld v 53 52 = 3 then s.valueErr a 8 rid
  else if 0x200 ≤ o && o < 0x228 then s.setRg a v
  else if 0x2100 ≤ o && o < 0x2900 then s.writeMigWindow ((o - 0x2100) / 0x20) (o % 0x20 / 8) v rid
  else if o = 0x8 then s.writePlatCtrl v rid
  else if o = 0x228 then (if bit v 0 then s.cmdSubmit rid else s)
  else if o = 0x230 then (if bit v 39 then { s with plat := { s.plat with rejected := false } } else s)
  else if o = 0x300 then s.setRg a (v % 2 ^ 16)
  else if o = 0x1000 then s.writeFaultRing v rid
  else if o = 0x1008 then s.writeFaultCtrl v rid
  else if o = 0x1010 then s.writeFaultHead v rid
  else if o = 0x1020 then s.writeFaultRespond v rid
  else if o = 0x1028 then s.writeFaultTarget v
  else if o = 0x1030 then s.writeFaultRespondBatch v rid
  else if o = 0x2000 then s.writeMigPool v rid
  else s

/-- A write of a register of a furrow context, or of the furrows' global block. -/
def State.furrowWrite (s : State) (a v : Nat) (rid : Half) : State :=
  if a < 0x340000 then
    let n := (a - 0x300000) / 0x40
    let f := s.fur n
    match a % 0x40 with
    | 0x28 => s.writeFctxCtrl n v
    | 0x30 => s.setFur n { f with tailRejected := f.tailRejected && !bit v 3, inlineRejected := f.inlineRejected && !bit v 4 }
    | 0x38 => s
    | o => s.writeFctx n (o / 8) v rid
  else if a = 0x340008 then (if 10000 < v % 2 ^ 16 then s.valueErr a 4 rid else s.setRg a (v % 2 ^ 16))
  else s

/-- A write of the stake window. -/
def State.stakeWrite (s : State) (a v : Nat) (rid : Half) : State :=
  if a < 0x480000 then (s.stakeSetOp ((a - 0x400000) / 8) v).settleStakes
  else if a < 0x500000 then (s.stakeAddOp .host ((a - 0x480000) / 8) v).settleStakes
  else if a < 0x502000 then s.writeStakeGroup ((a - 0x500000) / 8) v rid
  else if a = 0x510008 then s.cancelWait (fld v 13 0) (fld v 31 16)
  else if a = 0x510018 then (if bit v 0 then { s with g := { s.g with wrapValid := false } } else s)
  else s

/-- A write of a register of the mirror. -/
def State.mirrorWrite (s : State) (a v : Nat) (rid : Half) : State :=
  if 0x820000 ≤ a then (if a % 0x1000 = 0 then s.slotWrite ((a - 0x820000) / 0x1000) v rid else s)
  else match a with
    | 0x800010 => { s with mir := { s.mir with head := v % 2 ^ 32 } }
    | 0x800018 => s.setRg a (v % 4)
    | 0x800028 => { s with mir := { s.mir with lostOvf := s.mir.lostOvf && !bit v 0, reqOvf := s.mir.reqOvf && !bit v 1 } }
    | _ => s

/-- A write of a register of a plot's window. -/
def State.plotWrite (s : State) (a v : Nat) (rid : Half) : State :=
  let n := (a - 0x2000000) / 0x100000
  match a % 0x100000 with
  | 0x20 => s.modPlot n (fun x => { x with arith :=
      { inexact := x.arith.inexact && !bit v 0, ovf := x.arith.ovf && !bit v 1, nan := x.arith.nan && !bit v 2,
        intSat := x.arith.intSat && !bit v 3, fp8Sat := x.arith.fp8Sat && !bit v 4, oob := x.arith.oob && !bit v 5,
        trunc := x.arith.trunc && !bit v 6 } })
  | 0x28 => s.writeTilthSplit n v rid
  | 0x30 => s.writePlotCtrl n v
  | 0x40 => if bit v 0 then s.modPlot n (fun x => { x with macsOvf := false }) else s
  | _ => s

/-- A register takes a write of its own width at its own offset; a register that software does not write keeps its
value. -/
def State.writeReg (s : State) (a v : Nat) (rid : Half) : State :=
  if a < 0x100000 then s.gateWrite a v rid
  else if a < 0x200000 then s.drillWrite a v rid
  else if a < 0x300000 then s.platWrite a v rid
  else if a < 0x400000 then s.furrowWrite a v rid
  else if a < 0x800000 then s.stakeWrite a v rid
  else if a < 0x1000000 then s.mirrorWrite a v rid
  else if a < 0x2000000 then (s.writeCollector a v rid).getD s
  else s.plotWrite a v rid

/-- A write to a buffer area, with its byte enables (R292). -/
def State.bufferWrite (s : State) (r : MemReq) : State :=
  ((r.data.zip (reqEnables r)).foldl (fun (x : State × Nat) (d : Byte × Bool) =>
    (if d.2 then x.1.setRg (x.2 / 8 * 8) (setFld (x.1.rg (x.2 / 8 * 8)) (8 * (x.2 % 8) + 7) (8 * (x.2 % 8)) d.1.toNat) else x.1, x.2 + 1))
    (s, r.off)).1

/-- MMIO_ERR_INFO shows the request itself where the register's write captured an error (R296). -/
def State.recapture (s t : State) (r : MemReq) : State :=
  if !bit (s.rg Rg.mmioErrInfo) 0 && bit (t.rg Rg.mmioErrInfo) 0 then
    (t.setRg Rg.mmioErrInfo (mmioInfo .value .control true r)).setRg Rg.mmioErrOffset (r.off % 2 ^ 39)
  else t

/-- A write to the control window that a block serves: shapes of R291. -/
def State.controlApply (s : State) (r : MemReq) : State :=
  let w := r.off / 8 * 8
  let v := leNat (r.data.take r.len)
  let shape := s.mmioErr .shape .control true r
  if inBuffer r && r.len ≤ s.maxPayload then s.bufferWrite r
  else if r.off / 8 != (r.off + r.len - 1) / 8 then shape
  else match s.wordKindNow w with
    | 0 => s.bump O.mmioDiscarded
    | 1 => if r.off = w && r.len = 8 && reqWhole r then s.recapture (s.writeReg w v r.rid) r else shape
    | k =>
      if r.off = w && r.len = 8 && reqWhole r then
        let t := s.writeReg w (v % 2 ^ 32) r.rid
        s.recapture (if k = 3 then t.writeReg (w + 4) (v / 2 ^ 32) r.rid else t) r
      else if r.len = 4 && reqWhole r && r.off = w then s.recapture (s.writeReg w v r.rid) r
      else if k = 2 && w + 4 ≤ r.off then s.bump O.mmioDiscarded
      else if r.len = 4 && reqWhole r && r.off = w + 4 then s.recapture (s.writeReg (w + 4) v r.rid) r
      else shape

/-- A write of the control window. -/
def State.controlWrite (s : State) (held : Bool) (r : MemReq) : State :=
  let a := s.gateReq held .control true r
  if !a.2 then a.1
  else match plotWindowOf r.off with
    | some n =>
      let p := a.1.plotWindow n .control true r
      if p.2 then p.1.controlApply r else p.1
    | none => a.1.controlApply r

/-! ### The doorbell window (R293, R348) -/

/-- A write of the doorbell window. -/
def State.doorbellWrite (s : State) (held : Bool) (r : MemReq) : State :=
  let a := s.gateReq held .doorbell true r
  if !a.2 then a.1
  else
    let s := a.1
    let n := r.off / 0x1000
    let o := r.off % 0x1000
    let v := leNat (r.data.take r.len)
    if o = 0 && (r.len = 4 || r.len = 8) && reqWhole r then
      (if 2 ^ 32 ≤ v then s.mmioErr .value .doorbell true r else s.tailOp n v)
    else if 0x800 ≤ o && o % 0x40 = 0 && r.len = 64 && reqWhole r then s.inlineOp n r.data
    else s.mmioErr .shape .doorbell true r

/-- A read of the doorbell window: DB_INDEX and DB_STATE; every other offset reads 0. -/
def State.doorbellRead (s : State) (held : Bool) (r : MemReq) : State :=
  let a := s.gateReq held .doorbell false r
  if !a.2 then a.1
  else
    let s := a.1
    let f := s.fur (r.off / 0x1000)
    let v := match r.off % 0x1000 / 8 * 8 with
      | 0x80 => f.head + f.tail * 2 ^ 32
      | 0x88 => f.seq + f.state.code * 2 ^ 32
      | _ => 0
    if r.len ≤ 8 && r.off / 8 = (r.off + r.len - 1) / 8 then s.answerWord r v
    else s.completeMarked r (List.replicate r.len (0, false))

/-! ### The aperture window (R253-R255) -/

/-- Where an aperture request goes. -/
inductive ApTarget where
  | hbm (a : Nat) | tilth (p off : Nat)
  deriving DecidableEq, Repr

/-- The part of the aperture space a request reaches, none where any of it is not backed. -/
def State.apTarget (s : State) (off len : Nat) : Option ApTarget :=
  let a := fld (s.rg Rg.apertureMap) 8 0 * 2 ^ 30 + off
  let e := a + max len 1
  if 2 ^ (20 + s.barSize) < off + max len 1 then none
  else if e ≤ hbmBytes then some (.hbm a)
  else if 0x7000000000 ≤ a && e ≤ 0x7100000000 && (a - 0x7000000000) / 0x10000000 = (e - 1 - 0x7000000000) / 0x10000000 then
    some (.tilth ((a - 0x7000000000) / 0x10000000) (a % 0x10000000))
  else none

/-- A request reaches its target: a snoop or a plot's wake may have to come first, and it is then held. -/
def State.reachAp (s : State) (t : ApTarget) (write snoopsWrite : Bool) (r : MemReq) : State × Bool :=
  match t with
  | .hbm a =>
    let c := s.cohAccess snoopsWrite a r.len
    if c.2 then c else (c.1.holdRequest .aperture write r, false)
  | .tilth p _ =>
    let w := s.plotWindow p .aperture write r
    (if w.2 then w.1.modPlot p (fun x => { x with idleSince := s.now }) else w.1, w.2)

/-- A host write reaches a plot's program store: every resident program whose bytes it touches goes (R586). A write into the
gleaner cache drops rows, which ones the spec leaves open. -/
def State.touchTilth (s : State) (p off : Nat) (en : List Bool) : State :=
  let hit (lo hi : Nat) : Bool := ((List.range en.length).filter (fun i => (en[i]?).getD false)).any (fun i => lo ≤ off + i && off + i < hi)
  let s := s.modPlot p (fun x => { x with resident := x.resident.filter (fun g => !hit g.place (g.place + g.size)) })
  if hit (s.dataTop p) 0xFC00000 && !(s.plot p).gcache.isEmpty then
    let d := s.draw
    d.2.modPlot p (fun x => { x with gcache := (x.gcache.mapIdx (fun i e => (i, e))).filterMap (fun y => if bit d.1 y.1 then some y.2 else none) })
  else s

/-- Store the enabled bytes at a target. -/
def State.putAp (s : State) (t : ApTarget) (d : List (Byte × Bool)) (bad : Bool) : State :=
  match t with
  | .hbm a => s.hbmWrite a d bad
  | .tilth p o => (s.setTilth p (storeWrite (s.tilthStore p) o d bad)).touchTilth p o (d.map (fun (y : Byte × Bool) => y.2))

/-- The bytes at a target with their marks. -/
def State.getAp (s : State) (t : ApTarget) (n : Nat) : State × List (Byte × Bool) :=
  match t with
  | .hbm a => let r := s.hbmRead a n; (r.1, r.2.1.zip (byteMarks r.1.host.poison a n))
  | .tilth p o => (s, (memRead (s.plot p).tilth o n).zip (byteMarks (s.plot p).poison o n))

/-- A read of the aperture. -/
def State.apertureReadOp (s : State) (held : Bool) (r : MemReq) : State :=
  let a := s.gateReq held .aperture false r
  if !a.2 then a.1
  else if s.maxRead < r.len then a.1.unsupported r false
  else match a.1.apTarget r.off r.len with
    | none => a.1.unsupported r false
    | some t =>
      let k := a.1.reachAp t false false r
      if !k.2 then k.1
      else
        let d := k.1.getAp t r.len
        d.1.completeMarked r d.2

/-- A write of the aperture. -/
def State.apertureWriteOp (s : State) (held : Bool) (r : MemReq) : State :=
  let a := s.gateReq held .aperture true r
  if !a.2 then a.1
  else if s.maxPayload < r.len then a.1.malformed r
  else match a.1.apTarget r.off r.len with
    | none => a.1.unsupported r true
    | some t =>
      let k := a.1.reachAp t true true r
      if !k.2 then k.1
      else
        let s := if r.ep then k.1.aer Ue.poison true (k.1.reqHeader true r) else k.1
        s.putAp t ((r.data.take r.len).zip (reqEnables r)) r.ep

/-! ### AtomicOps (R249) -/

/-- The two operands of a CAS, as the request carries them. -/
def casCompare (r : MemReq) : Nat := leNat (r.data.take 8)
def casSwap (r : MemReq) : Nat := leNat ((r.data.drop 8).take 8)

/-- A CAS of 64 bits, which answers the value found: on the aperture, or on a stake value. -/
def State.casOp (s : State) (held : Bool) (win : Window) (r : MemReq) : State :=
  let a := s.gateReq held win false r
  if !a.2 then a.1
  else
    let s := a.1
    if r.ep then s.unsupported r false
    else if win == .aperture then
      match s.apTarget r.off 8 with
      | none => s.unsupported r false
      | some t =>
        let k := s.reachAp t false true r
        if !k.2 then k.1
        else
          let d := k.1.getAp t 8
          let found := leNat (d.2.map (fun (y : Byte × Bool) => y.1))
          let s := if found = casCompare r then d.1.putAp t (enAll (natLe 8 (casSwap r))) false else d.1
          s.completeMarked r d.2
    else if win == .control && decide (0x400000 ≤ r.off) && decide (r.off < 0x480000) && r.off % 8 == 0 then
      let k := (r.off - 0x400000) / 8
      let found := s.stake k
      let s := if found = casCompare r then (s.putStake k (casSwap r)).settleStakes else s.bump O.ops
      s.completeData r (natLe 8 found)
    else s.unsupported r false

/-- An AtomicOp: only a CAS of 64 bits is served (R307). -/
def State.atomicAt (s : State) (held : Bool) (win : Window) (r : MemReq) : State :=
  if r.atomic == some true then s.casOp held win r
  else
    let a := s.gateReq held win false r
    if a.2 then a.1.unsupported r false else a.1

/-! ### Requests by window, and requests that were held -/

/-- A read of a window. -/
def State.readAt (s : State) (held : Bool) (win : Window) (r : MemReq) : State :=
  match win with
  | .control => s.controlRead held r
  | .doorbell => s.doorbellRead held r
  | .aperture => s.apertureReadOp held r
  | .config => s

/-- A write of a window. -/
def State.writeAt (s : State) (held : Bool) (win : Window) (r : MemReq) : State :=
  match win with
  | .control => s.controlWrite held r
  | .doorbell => s.doorbellWrite held r
  | .aperture => s.apertureWriteOp held r
  | .config => s

/-- A request goes to the window it lies in, or matches none (R252, R307). -/
def State.atWindow (s : State) (r : MemReq) (posted : Bool) (f : Window → MemReq → State) (w : Option (Window × Nat)) : State :=
  match w with
  | some w => f w.1 { r with off := w.2 }
  | none => s.noWindow r posted

/-- A memory read of the host: the base registers give its window (R252). -/
def State.hostRead (s : State) (r : MemReq) : State :=
  let r : MemReq := { r with data := [], atomic := none }
  s.atWindow r false (s.readAt false) (s.locate r)

/-- A memory write of the host. -/
def State.hostWrite (s : State) (r : MemReq) : State :=
  let r : MemReq := { r with atomic := none }
  s.atWindow r true (s.writeAt false) (s.locate r)

/-- An AtomicOp of the host; `cas`: a CAS of 64 bits. -/
def State.hostAtomic (s : State) (cas : Bool) (r : MemReq) : State :=
  let r : MemReq := { r with atomic := some cas }
  s.atWindow r false (s.atomicAt false) (s.locate r)

/-- Serve a request from the hold buffer; one that must wait again stands in its place with its time of arrival. -/
def State.serveHeld (s : State) (h : Held) : State :=
  let n := s.pwr.hold.length
  let s := match h.cxl with
    | some q => s.cxlNow q
    | none => if h.write then s.writeAt true h.win h.r else if h.r.atomic.isSome then s.atomicAt true h.win h.r else s.readAt true h.win h.r
  if n < s.pwr.hold.length then { s with pwr := { s.pwr with hold := s.pwr.hold.dropLast ++ [h] } } else s

/-- Serve the hold buffer in order of arrival (R73). -/
def State.serveHolds (s : State) : State :=
  let l := s.pwr.hold
  ({ s with pwr := { s.pwr with hold := [] } } : State).each l (fun s h => s.serveHeld h)

/-- A held request is answered with Completer Abort, or discarded, and logged as late (R263, R308). -/
def State.lateRequest (s : State) (h : Held) : State :=
  let s : State := { s with pwr := { s.pwr with hold := s.pwr.hold.filter (fun x => x != h) } }
  ((s.completerAbort h.r h.write).mmioErr .late h.win h.write h.r).bump O.mmioLateCount

/-! ### The commands -/

/-- APERTURE_READ: a memory read, at the host's address; the base registers decide which window serves it (R252). -/
def execApertureRead (r : MemReq) (s : State) : Out := .next (s.hostRead r)

/-- APERTURE_WRITE: a memory write. -/
def execApertureWrite (r : MemReq) (s : State) : Out := .next (s.hostWrite r)

/-- ATOMIC_CAS: every AtomicOp but a CAS of 64 bits to the aperture or a stake value is unsupported. -/
def execAtomicCas (kind : AtomicKind) (size : Nat) (r : MemReq) (compare swap : Word) (s : State) : Out :=
  .next (s.hostAtomic (kind == .cas && size == 8) { r with len := size, data := natLe 8 compare.toNat ++ natLe 8 swap.toNat })

/-- REGISTER_WRITE: a write of the control or the doorbell window. -/
def execRegisterWrite (r : MemReq) (s : State) : Out := .next (s.hostWrite r)

/-- The host address of an offset of the control window. -/
def State.atControl (s : State) (off : Nat) : Nat := s.barAt 0x010 + off

/-- COUNTER_LOW_READ: a register read; the low half of a counter latches its high half (R215), any other register reads as it
is now, in the doorbell window too (R293). -/
def execCounterLowRead (r : MemReq) (s : State) : Out := .next (s.hostRead r)

/-- COUNTER_HIGH_READ: a 4-byte read of the high half takes the latched value and releases the latch. -/
def execCounterHighRead (r : MemReq) (s : State) : Out := .next (s.hostRead { r with addr := r.addr / 8 * 8 + 4, len := 4 })

/-- STAKE_TO_NEXT: a read of every byte removes the head entry (R407, R7). -/
def execStakeToNext (r : MemReq) (s : State) : Out := .next (s.hostRead { r with addr := s.atControl (0x510000 + r.off % 8) })

/-- MIG_HOT_NEXT: a read of every byte removes the head entry (R506, R7). -/
def execMigHotNext (r : MemReq) (s : State) : Out := .next (s.hostRead { r with addr := s.atControl (0x202008 + r.off % 8) })

/-- UNSUPPORTED_REQUEST (R307): the rows of its table; a wide register read is logged under MMIO_SHAPE too. A request that the
row does not fit is none. -/
def execUnsupportedRequest (kind : UrKind) (posted : Bool) (r : MemReq) (s : State) : Out :=
  if !s.link.up || s.pwr.mode == .off || s.host.inFlr then .next s
  else
    let ur (s : State) : State := (if r.ep then s.poisonSeen else s).unsupported r posted
    match kind with
    | .wideRegisterRead => .next (s.hostRead { r with len := max 9 r.len })
    | .d3hot => .next (if s.host.power == .d0 then s else ur s)
    | .noWindow => .next (if s.memEnable && (s.locate r).isSome then s else ur s)
    | .notBacked => .next (if posted then s.hostWrite r else s.hostRead r)
    | .atomicOp => .next (s.hostAtomic false r)
    | .pasidPrefix => .next (if posted then s.hostWrite { r with pasid := true } else s.hostRead { r with pasid := true })
    | .ioOrLock => .next (ur s)

/-- WINDOW_REQUEST_LATE (R263): 5 ms after its arrival a held request has not been served. -/
def execWindowRequestLate (win : Window) (write : Bool) (r : MemReq) (s : State) : Out :=
  match s.pwr.hold.find? (fun h => h.win == win && h.write == write && h.r == r && h.cxl.isNone) with
  | none => .next s
  | some h =>
    if s.pwr.mode == .up || s.pwr.mode == .starting then .next ((s.until_ (h.since + 5000000)).lateRequest h).serveHolds
    else .next ((s.until_ (h.since + 5000000)).lateRequest h)

/-- BISNP_RESPONSE (R509): the host's data goes to HBM, and the accesses that waited go on. -/
def execBisnpResponse (line : Nat) (data : Option (List Byte)) (s : State) : Out :=
  .next ((s.bisnpDone line data).stileRetry).serveHolds

end Sys2Proof.Machine
end

