-- ==== Sys2Proof/Machine/Promote.lean ====
section
/-! DEFINITION. Promotions and evictions (R500, R503, R504): the pages that the migration engine translates, the copy by
ROW[MIG_ROW], and the write-back. -/

namespace Sys2Proof.Machine

/-- The identity under which a promotion or an eviction looks up the pages of a PASID (R500, R503). -/
def migWho (evict : Bool) (pasid : Nat) : Who := { stream := .mig evict, pasid := pasid, priv := false, bypass := false }

/-! ### Promotions (R500) -/

/-- PROMOTION, step 1: the first region of the list gets a frame and its internal INVAL_RANGE is submitted; lookups in the region
are held from here on. -/
def State.beginPromotion (s : State) : State :=
  match s.mig.hot with
  | [] => s
  | (p, r) :: _ =>
    if s.mig.hostMode || !s.mayRequest then s
    else if !s.inWindow p r (2 ^ 21) || s.regionBarred p r then s.unlist.listHot
    else match s.freeFrame with
      | none =>
        if (s.victimFor p r).isSome then s
        else
          let s := s.unlist
          ({ s with mig := { s.mig with skipped := s.mig.skipped ++ [(p, r)] } } : State).listHot
      | some f =>
        let s := s.unlist.listHot
        ({ s with mig := { s.mig with copying := some { pasid := p, region := r, frame := f } } } : State).ownCommand (regionInval p r)

/-- PROMOTION, step 3: translate pages of the region for write, in order, up to one that waits; one that does not translate abandons
the promotion. -/
def promoteLoop : Nat → State → State
  | 0, s => s
  | n + 1, s =>
    match s.mig.copying with
    | none => s
    | some c =>
      if 512 ≤ c.pages.length then s
      else
        let a := s.lookup (migWho false c.pasid) .host (c.region + c.pages.length * 4096) .write
        match a.2 with
        | .at_ t _ => promoteLoop n { a.1 with mig := { a.1.mig with copying := some { c with pages := c.pages ++ [t] } } }
        | .denied => a.1.abandonPromotion c.pasid c.region
        | .wait => if a.1.mig.fails.any (fun f => !f.1) then a.1.abandonPromotion c.pasid c.region else a.1

/-- PROMOTION (R500 steps 1 to 3): a promotion begins, or the one in progress translates up to so many of its pages once the
invalidation of its region has completed. -/
def execPromotion (pages : Nat) (s : State) : Out :=
  match s.mig.copying with
  | none => .next s.beginPromotion
  | some c =>
    if s.ownPending .region || !s.mayRequest then .next s
    else if s.mig.fails.any (fun f => !f.1) then .next (s.abandonPromotion c.pasid c.region)
    else .next (promoteLoop pages s)

/-- The overlay's installation is submitted to the executor, or the promotion is abandoned where no parcel is left (R500 step 5). -/
def State.installOverlay (s : State) (c : Promotion) : State :=
  match s.freeReserved with
  | none => s.abandonPromotion c.pasid c.region
  | some i =>
    if 1024 ≤ s.parcelsOf c.pasid then s.abandonPromotion c.pasid c.region
    else ({ s with mig := { s.mig with copying := some { c with copied := true } } } : State).ownCommand (overlayInstall i c.pasid c.region c.frame)

/-- Copy a region into its frame, with the poison of what is read (R500 step 4, R312). -/
def State.copyRegion (s : State) (c : Promotion) (ext : List (Target × Nat)) (host : List (Byte × Bool)) : State :=
  let g := readExt ext s host []
  let s := (g.1.putMarked (.hbm c.frame) g.2).countAccess c.pasid c.region (2 ^ 21)
  ((s.bumpBy O.bytesRead (2 ^ 21)).bumpBy O.bytesWritten (2 ^ 21)).listHot

/-- PROMOTION_COPY_DONE (R500 steps 4 and 5): once every page is translated, ROW[MIG_ROW] reads them and writes the frame; a read
that the host fails abandons the promotion. -/
def execPromotionCopyDone (h : HostRead) (s : State) : Out :=
  match s.mig.copying with
  | none => .next s
  | some c =>
    let ext := c.pages.map (fun t => (t, 4096))
    if c.copied || c.pages.length < 512 || !s.mayRequest || s.ownPending .region then .next s
    else
      let r := reachBuf ext s .read
      match r.2 with
      | some 0 => .next r.1
      | some _ => .next (r.1.abandonPromotion c.pasid c.region)
      | none =>
        let w := r.1.reachOne (.hbm c.frame) (2 ^ 21) .write
        if w.2.isSome then .next w.1
        else
          let a := w.1.hostAnswers ext h h.data
          match a.2 with
          | some _ => .next (a.1.abandonPromotion c.pasid c.region)
          | none => .next ((a.1.copyRegion c ext h.data).installOverlay c)

/-! ### Evictions (R503, R504) -/

/-- A page of an overlay is no longer dirty. -/
def State.cleanPage (s : State) (i page : Nat) : State :=
  let p := kvGet {} s.plat.parcels i
  s.putParcel i { p with dirty := p.dirty.filter (fun k => k != page) }

/-- A dirty page is lost (R504). -/
def State.losePage (s : State) (i page : Nat) : State :=
  let s : State := { s with mig := { s.mig with fails := s.mig.fails.filter (fun f => !f.1) } }
  ((s.cleanPage i page).raise Sc.migWritebackLost).bump O.writebackLost

/-- Write a dirty page back to a target, with its poison; false where it waits (R503). -/
def State.writePage (s : State) (i : Nat) (p : Parcel) (page : Nat) (t : Target) : State × Bool :=
  let a := p.target.hbmAddr + page * 4096
  let r := s.reachOne (.hbm a) 4096 .read
  if r.2.isSome then (r.1, false)
  else
    let w := r.1.reachOne t 4096 .write
    match w.2 with
    | some 0 => (w.1, false)
    | some _ => (w.1.losePage i page, true)
    | none =>
      let g := w.1.getMarked (.hbm a) 4096
      (((g.1.putBytes t (p.start + page * 4096) g.2 (some p.pasid) false .none).cleanPage i page).bumpBy O.writebackBytes 4096, true)

/-- Write back dirty pages, or lose those that do not translate, up to one that waits. -/
def evictLoop : Nat → State → Nat → State
  | 0, s, _ => s
  | n + 1, s, i =>
    let p := kvGet {} s.plat.parcels i
    match p.dirty with
    | [] => s
    | k :: _ =>
      if s.host.frozen || s.mig.fails.any (fun f => f.1) then evictLoop n (s.losePage i k) i
      else
        let a := s.lookup (migWho true p.pasid) .host (p.start + k * 4096) .write
        match a.2 with
        | .at_ t _ =>
          let w := a.1.writePage i p k t
          if w.2 then evictLoop n w.1 i else w.1
        | .denied => evictLoop n (a.1.losePage i k) i
        | .wait => if a.1.mig.fails.any (fun f => f.1) then evictLoop n (a.1.losePage i k) i else a.1

/-- An overlay without dirty pages goes: its parcel is removed, and its frame is free; a PARCEL_REMOVE of it at the head of the
executor's queue then completes with OK. -/
def State.evictEnd (s : State) (i : Nat) : State :=
  let p := kvGet {} s.plat.parcels i
  if !p.dirty.isEmpty then s
  else
    let c : Cover := { pasid := some p.pasid, host := true, dev := false, lo := p.start, hi := p.start + p.length }
    let s := ((s.putParcel i {}).dropXlats c).recallSlots c
    let s := { s with
      plat := { s.plat with queue := (match s.plat.queue with
        | q :: qs => (if q.kind == 5 && q.parcel == i then { q with overlay := true } else q) :: qs
        | [] => []) },
      mig := { s.mig with evicting := none } }
    s.bump O.evictions

/-- EVICTION (R503): up to so many dirty pages of an overlay are written back or lost, and it goes once none is left.  It waits while
Bus Master Enable is clear; one eviction runs at a time. -/
def execEviction (parcel : Fin 65536) (pages : Nat) (s : State) : Out :=
  let p := kvGet {} s.plat.parcels parcel
  if !p.valid || !p.z20 then .next s
  else if (match s.mig.evicting with | some i => i != parcel.val | none => !s.evictionDue parcel p) then .next s
  else if !s.host.frozen && !s.mayRequest then .next s
  else .next ((evictLoop pages { s with mig := { s.mig with evicting := some parcel.val } } parcel).evictEnd parcel)

end Sys2Proof.Machine
end

