-- ==== Sys2Proof/Machine/Serve.lean ====
section
/-! DEFINITION. The endings of power transitions (R70-R76, R104-R109, R120, R135): what was held for them is served. -/

namespace Sys2Proof.Machine

/-- PLOT_HOLD wakes its plots (R75). -/
def State.askHeld (s : State) : State :=
  let hold := s.val O.plotHold
  s.each (List.range 16) (fun s n => if bit hold n then s.askPlot n else s)

/-- GCORE and the Tramline dies are on: ports go on, a Headland silence that waited is raised (R109), held plots wake. -/
def State.coreOn (s : State) : State :=
  let s := s.raiseIf s.pwr.silentDue Sc.headlandSilent
  let s : State := { s with pwr := { s.pwr with silentDue := false } }
  s.refreshPorts.askHeld

/-- The requests that the GLINK refused in Fallow are logged now (R72): MMIO_LATE once for each, both counts, and the first
one captured. -/
def State.logRefused (s : State) : State :=
  match s.pwr.refusedFirst with
  | none => s
  | some h =>
    let n := s.pwr.refused
    let s := s.each (List.range n) (fun s i =>
      s.raise Sc.mmioLate (if i = 0 then { access := if h.write then 2 else 1, masterKind := 1, addr := some h.r.off } else {}))
    let v := s.rg Rg.mmioErrCount + n
    let s := s.setRg Rg.mmioErrCount (v % 2 ^ 64)
    let s := if 2 ^ 64 ≤ v then s.setRg Rg.hostErrOvf (s.rg Rg.hostErrOvf ||| 2 ^ 2) else s
    let s := (s.bumpBy O.mmioLateCount n).mmioCapture .late h.win h.write h.r
    let s := s.attn At.mmioError
    { s with pwr := { s.pwr with refused := 0, refusedFirst := none } }

/-- The entry to Fallow is abandoned at the end of its step: the module is in Tilled again (R104), what was refused during
the step is logged, and plots that PLOT_HOLD names since wake. -/
def State.backToTilled (s : State) : State :=
  let s : State := { s with pwr := { s.pwr with mode := .up, entryAbandoned := false } }
  let s := s.logRefused.askHeld
  (if 2 ≤ s.val O.pwrRequest then s.applyRequest else s.reqStatus 0 0).serveHolds

/-- FALLOW_ENTRY_COMPLETE: a condition of R70 that no longer holds, D3hot for one (R262), abandons the entry too. -/
def execFallowEntryComplete (s : State) : Out :=
  if !(s.pwr.mode == .entering) then .next s
  else .next (if s.pwr.entryAbandoned || s.fallowFails != 0 then s.backToTilled else s.enterFallow)

/-- FALLOW_WAKE_COMPLETE (R74): Tilled is reported; what R72 deferred happens; held requests start in order of arrival
(R73). A wake overrides a request for Fallow (R105). -/
def execFallowWakeComplete (s : State) : Out :=
  if !(s.pwr.mode == .waking) then .next s
  else
    let s := s.until_ (s.pwr.wakeAt + 180000)
    let s : State := ({ s with pwr := { s.pwr with mode := .up } } : State).hlWork
    let s := s.logRefused.coreOn
    let s := if 2 ≤ s.val O.pwrRequest then s.applyRequest else s
    let s := if s.pwr.deferredTimer then
        let t : State := { s with pwr := { s.pwr with deferredTimer := false } }
        t.fallowAct 2 2 (t.val O.wakeAfterS)
      else s
    .next s.serveHolds

/-- HOLD_BUFFER_TIMEOUT (R109, R308): the oldest request held for a wake or a start has waited 1 ms. It ends with Completer Abort,
or is discarded; of CXL.mem, a read returns poison and a write its completion. -/
def execHoldBufferTimeout (s : State) : Out :=
  match s.pwr.hold with
  | [] => .next s
  | h :: rest =>
    if s.pwr.mode == .up then .next s
    else
      let s := s.until_ (h.since + 1000000)
      let s : State := { s with pwr := { s.pwr with hold := rest } }
      .next (match h.cxl with | some q => s.cxlRefuse q | none => (if h.write then s.bump O.mmioDiscarded else s).completerAbort h.r h.write)

/-- A plot is ready: its program loads, the requests that waited for it proceed. -/
def State.plotUp (s : State) (p : Nat) : State := (s.plotReady p).noteSown.stileRetry.serveHolds

/-- PLOT_WAKE_COMPLETE (R76). -/
def execPlotWakeComplete (p : Fin 16) (s : State) : Out :=
  .next (if (s.plot p).ramping && !(s.plot p).resetting then s.plotUp p else s)

/-- RESET_COMPLETE (R120): a plot reset ends with the plot ready, a Tramline die reset with its ports in training; the other
resets end with an event that has its own command (Tilled reported, the LTSSM, firmware running). -/
def execResetComplete (k : ResetKind) (s : State) : Out :=
  match k with
  | .plot p => .next (if (s.plot p).ramping && (s.plot p).resetting then s.plotUp p else s)
  | .tram d => .next (if s.fab.dieReset.contains d then (s.dieResetDone d).releaseSources (tramSource d) else s)
  | _ => .next s

/-- HBM_TRAINING_DONE (R135): the Gate core is ready and Tilled is reported. The firmware trains the stacks, after a Headland reset
anew (R148). -/
def execHbmTrainingDone (learned : List (Nat × Nat)) (s : State) : Out :=
  if !(s.pwr.mode == .starting) || s.pwr.powerAt.isNone || !s.hl.running then .next s
  else
    let s := (s.trainingDone learned).coreOn
    .next (if s.val O.pwrRequest = 0 then s else s.applyRequest).serveHolds

/-- D3HOT_EXIT (R262): the move to D0 takes effect; a write of D3hot during it then acts. Accesses that waited for a snoop go
on (R512). -/
def execD3hotExit (s : State) : Out :=
  match s.host.power with
  | .d0 => .next s
  | .leaving true => .next { s with host := { s.host with power := .d3hot } }
  | _ => .next (({ s with host := { s.host with power := .d0 } } : State).drain).assert.cohGo.stileRetry.serveHolds

end Sys2Proof.Machine
end

