-- ==== Sys2Proof/Machine/Dispatch.lean ====
section
/-! DEFINITION. The meaning of every command: one arm per constructor of Instr. -/

namespace Sys2Proof.Machine

def exec (i : Instr) (s : State) : Host.Outcome State Fault Refusal :=
  match i with
  | .powerOn inrush readings => Sys2Proof.Machine.execPowerOn inrush readings s
  | .inputDip => Sys2Proof.Machine.execInputDip s
  | .brownout => Sys2Proof.Machine.execBrownout s
  | .inputOv => Sys2Proof.Machine.execInputOv s
  | .vregFault domain => Sys2Proof.Machine.execVregFault domain s
  | .pwrRequestWrite route val => Sys2Proof.Machine.execPwrRequestWrite route val s
  | .fallowEntryComplete => Sys2Proof.Machine.execFallowEntryComplete s
  | .fallowWakeEvent cause => Sys2Proof.Machine.execFallowWakeEvent cause s
  | .fallowMaskedEvent e => Sys2Proof.Machine.execFallowMaskedEvent e s
  | .fallowWakeComplete => Sys2Proof.Machine.execFallowWakeComplete s
  | .holdBufferTimeout => Sys2Proof.Machine.execHoldBufferTimeout s
  | .plotWakeTrigger p => Sys2Proof.Machine.execPlotWakeTrigger p s
  | .plotWakeComplete p => Sys2Proof.Machine.execPlotWakeComplete p s
  | .plotIdleGate p => Sys2Proof.Machine.execPlotIdleGate p s
  | .plotHoldWrite route mask => Sys2Proof.Machine.execPlotHoldWrite route mask s
  | .rackrefLost => Sys2Proof.Machine.execRackrefLost s
  | .rackrefRestored => Sys2Proof.Machine.execRackrefRestored s
  | .tickTrimUpdate trim => Sys2Proof.Machine.execTickTrimUpdate trim s
  | .rackrefAbsent => Sys2Proof.Machine.execRackrefAbsent s
  | .hfastIdleStop => Sys2Proof.Machine.execHfastIdleStop s
  | .hfastStart => Sys2Proof.Machine.execHfastStart s
  | .powerSummation vin iin power avg level => Sys2Proof.Machine.execPowerSummation vin iin power avg level s
  | .peakLimit duration level => Sys2Proof.Machine.execPeakLimit duration level s
  | .headlandSilent => Sys2Proof.Machine.execHeadlandSilent s
  | .shedAssert => Sys2Proof.Machine.execShedAssert s
  | .shedDeassert => Sys2Proof.Machine.execShedDeassert s
  | .shedReleaseStep => Sys2Proof.Machine.execShedReleaseStep s
  | .thermThrottle sensor temp => Sys2Proof.Machine.execThermThrottle sensor temp s
  | .thermCapStep readings => Sys2Proof.Machine.execThermCapStep readings s
  | .thermAlarm sensor temp => Sys2Proof.Machine.execThermAlarm sensor temp s
  | .thermTrip sensor temp => Sys2Proof.Machine.execThermTrip sensor temp s
  | .sensorFailed sensor => Sys2Proof.Machine.execSensorFailed sensor s
  | .calUnlock route key => Sys2Proof.Machine.execCalUnlock route key s
  | .calUnlockExpiry => Sys2Proof.Machine.execCalUnlockExpiry s
  | .calCommit route val => Sys2Proof.Machine.execCalCommit route val s
  | .calCommitDone => Sys2Proof.Machine.execCalCommitDone s
  | .moduleResetAssert => Sys2Proof.Machine.execModuleResetAssert s
  | .moduleResetDeassert readings => Sys2Proof.Machine.execModuleResetDeassert readings s
  | .perstAssert => Sys2Proof.Machine.execPerstAssert s
  | .perstGlitch => Sys2Proof.Machine.execPerstGlitch s
  | .perstDeassert => Sys2Proof.Machine.execPerstDeassert s
  | .hotReset disable => Sys2Proof.Machine.execHotReset disable s
  | .dlDown lost => Sys2Proof.Machine.execDlDown lost s
  | .initiateFlr => Sys2Proof.Machine.execInitiateFlr s
  | .flrComplete => Sys2Proof.Machine.execFlrComplete s
  | .resetComplete k => Sys2Proof.Machine.execResetComplete k s
  | .hbmScrubAcre acre => Sys2Proof.Machine.execHbmScrubAcre acre s
  | .hlWatchdog crcOk => Sys2Proof.Machine.execHlWatchdog crcOk s
  | .hlResetRequest route key crcOk => Sys2Proof.Machine.execHlResetRequest route key crcOk s
  | .headlandReset crcOk => Sys2Proof.Machine.execHeadlandReset crcOk s
  | .plotFence route mask => Sys2Proof.Machine.execPlotFence route mask s
  | .plotReset route mask => Sys2Proof.Machine.execPlotReset route mask s
  | .tramReset route mask => Sys2Proof.Machine.execTramReset route mask s
  | .strapSample tries => Sys2Proof.Machine.execStrapSample tries s
  | .strapChanged pin => Sys2Proof.Machine.execStrapChanged pin s
  | .bootImageSelect => Sys2Proof.Machine.execBootImageSelect s
  | .bootRomTimeout => Sys2Proof.Machine.execBootRomTimeout s
  | .romRecovery norDead => Sys2Proof.Machine.execRomRecovery norDead s
  | .trialImageConfirm => Sys2Proof.Machine.execTrialImageConfirm s
  | .hbmTrainingDone learned => Sys2Proof.Machine.execHbmTrainingDone learned s
  | .hello q => Sys2Proof.Machine.execHello q s
  | .odRead q => Sys2Proof.Machine.execOdRead q s
  | .odWrite q => Sys2Proof.Machine.execOdWrite q s
  | .readBlock q => Sys2Proof.Machine.execReadBlock q s
  | .writeBlock q => Sys2Proof.Machine.execWriteBlock q s
  | .describe q => Sys2Proof.Machine.execDescribe q s
  | .txnOpen q => Sys2Proof.Machine.execTxnOpen q s
  | .txnCheck q => Sys2Proof.Machine.execTxnCheck q s
  | .txnApply q => Sys2Proof.Machine.execTxnApply q s
  | .txnDrop q => Sys2Proof.Machine.execTxnDrop q s
  | .txnExpiry route => Sys2Proof.Machine.execTxnExpiry route s
  | .notifyAck q => Sys2Proof.Machine.execNotifyAck q s
  | .sessionReset q => Sys2Proof.Machine.execSessionReset q s
  | .foreignFrame bytes => Sys2Proof.Machine.execForeignFrame bytes s
  | .notifyEvaluation => Sys2Proof.Machine.execNotifyEvaluation s
  | .notifyResend seq => Sys2Proof.Machine.execNotifyResend seq s
  | .slotGo slot val rid => Sys2Proof.Machine.execSlotGo slot val rid s
  | .mgmtRequest p m => Sys2Proof.Machine.execMgmtRequest p m s
  | .persistCommit route val => Sys2Proof.Machine.execPersistCommit route val s
  | .persistCommitStart => Sys2Proof.Machine.execPersistCommitStart s
  | .persistCommitDone => Sys2Proof.Machine.execPersistCommitDone s
  | .persistDefaults route key => Sys2Proof.Machine.execPersistDefaults route key s
  | .lockRequest route mask => Sys2Proof.Machine.execLockRequest route mask s
  | .lockExpiry route => Sys2Proof.Machine.execLockExpiry route s
  | .hopKeySwitch route val => Sys2Proof.Machine.execHopKeySwitch route val s
  | .fwBegin route len => Sys2Proof.Machine.execFwBegin route len s
  | .fwEraseDone => Sys2Proof.Machine.execFwEraseDone s
  | .fwData route off data => Sys2Proof.Machine.execFwData route off data s
  | .fwVerify route ok version => Sys2Proof.Machine.execFwVerify route ok version s
  | .fwActivate route key crcOk => Sys2Proof.Machine.execFwActivate route key crcOk s
  | .fwConfirm route val => Sys2Proof.Machine.execFwConfirm route val s
  | .fwOwnerExpiry => Sys2Proof.Machine.execFwOwnerExpiry s
  | .counterLowRead r => Sys2Proof.Machine.execCounterLowRead r s
  | .counterHighRead r => Sys2Proof.Machine.execCounterHighRead r s
  | .configRequest write off be val rid => Sys2Proof.Machine.execConfigRequest write off be val rid s
  | .barSizeWrite size rid => Sys2Proof.Machine.execBarSizeWrite size rid s
  | .busMasterClear => Sys2Proof.Machine.execBusMasterClear s
  | .busMasterSet => Sys2Proof.Machine.execBusMasterSet s
  | .linkTrained offer => Sys2Proof.Machine.execLinkTrained offer s
  | .aspmL1Entry => Sys2Proof.Machine.execAspmL1Entry s
  | .l0pNarrow => Sys2Proof.Machine.execL0pNarrow s
  | .l0pWiden => Sys2Proof.Machine.execL0pWiden s
  | .ltrSend => Sys2Proof.Machine.execLtrSend s
  | .d3hotEntry => Sys2Proof.Machine.execD3hotEntry s
  | .d3hotExit => Sys2Proof.Machine.execD3hotExit s
  | .windowRequestLate win write r => Sys2Proof.Machine.execWindowRequestLate win write r s
  | .apertureMapWrite val rid => Sys2Proof.Machine.execApertureMapWrite val rid s
  | .apertureRead r => Sys2Proof.Machine.execApertureRead r s
  | .apertureWrite r => Sys2Proof.Machine.execApertureWrite r s
  | .atomicCas kind size r compare swap => Sys2Proof.Machine.execAtomicCas kind size r compare swap s
  | .registerWrite r => Sys2Proof.Machine.execRegisterWrite r s
  | .unsupportedRequest kind posted r => Sys2Proof.Machine.execUnsupportedRequest kind posted r s
  | .readCompletion tag data last => Sys2Proof.Machine.execReadCompletion tag data last s
  | .poisonedCompletion tag data last => Sys2Proof.Machine.execPoisonedCompletion tag data last s
  | .completionTimeout tag => Sys2Proof.Machine.execCompletionTimeout tag s
  | .urCaCompletion tag ca => Sys2Proof.Machine.execUrCaCompletion tag ca s
  | .unexpectedCompletion tag => Sys2Proof.Machine.execUnexpectedCompletion tag s
  | .freeze cause => Sys2Proof.Machine.execFreeze cause s
  | .freezeRelease => Sys2Proof.Machine.execFreezeRelease s
  | .mmioErrRearm => Sys2Proof.Machine.execMmioErrRearm s
  | .attnCauseClear val again => Sys2Proof.Machine.execAttnCauseClear val again s
  | .assertInta => Sys2Proof.Machine.execAssertInta s
  | .deassertInta => Sys2Proof.Machine.execDeassertInta s
  | .attnHoldoffExpiry => Sys2Proof.Machine.execAttnHoldoffExpiry s
  | .furrowEnable n => Sys2Proof.Machine.execFurrowEnable n s
  | .furrowDisable n => Sys2Proof.Machine.execFurrowDisable n s
  | .furrowDisabled n => Sys2Proof.Machine.execFurrowDisabled n s
  | .drain n => Sys2Proof.Machine.execDrain n s
  | .drainComplete n => Sys2Proof.Machine.execDrainComplete n s
  | .resume n => Sys2Proof.Machine.execResume n s
  | .prio n prio => Sys2Proof.Machine.execPrio n prio s
  | .fctxWrite n reg val rid => Sys2Proof.Machine.execFctxWrite n reg val rid s
  | .dbTail n tail rid => Sys2Proof.Machine.execDbTail n tail rid s
  | .dbInline n data rid => Sys2Proof.Machine.execDbInline n data rid s
  | .ringFetch => Sys2Proof.Machine.execRingFetch s
  | .ringEntriesReceived tag data => Sys2Proof.Machine.execRingEntriesReceived tag data s
  | .ringFault tag => Sys2Proof.Machine.execRingFault tag s
  | .headWriteback n => Sys2Proof.Machine.execHeadWriteback n s
  | .descriptorSown n seq => Sys2Proof.Machine.execDescriptorSown n seq s
  | .startPointReached n => Sys2Proof.Machine.execStartPointReached n s
  | .descriptorStart engine => Sys2Proof.Machine.execDescriptorStart engine s
  | .halfPoint n seq => Sys2Proof.Machine.execHalfPoint n seq s
  | .descriptorComplete n seq => Sys2Proof.Machine.execDescriptorComplete n seq s
  | .stakeSet k val => Sys2Proof.Machine.execStakeSet k val s
  | .stakeAdd k val => Sys2Proof.Machine.execStakeAdd k val s
  | .stakeGroupWrite g val rid => Sys2Proof.Machine.execStakeGroupWrite g val rid s
  | .stakeDeadlineCheck => Sys2Proof.Machine.execStakeDeadlineCheck s
  | .stakeToNext r => Sys2Proof.Machine.execStakeToNext r s
  | .stakeWaitCancel handle gen => Sys2Proof.Machine.execStakeWaitCancel handle gen s
  | .pctxValid c val rid => Sys2Proof.Machine.execPctxValid c val rid s
  | .invalRange => Sys2Proof.Machine.execInvalRange s
  | .invalPasid => Sys2Proof.Machine.execInvalPasid s
  | .invalAll => Sys2Proof.Machine.execInvalAll s
  | .parcelInstall => Sys2Proof.Machine.execParcelInstall s
  | .parcelRemove => Sys2Proof.Machine.execParcelRemove s
  | .pasidRetire => Sys2Proof.Machine.execPasidRetire s
  | .sync => Sys2Proof.Machine.execSync s
  | .engineAcknowledge engine => Sys2Proof.Machine.execEngineAcknowledge engine s
  | .invalidationComplete => Sys2Proof.Machine.execInvalidationComplete s
  | .atsInvalidateRequest itag pasid global start len => Sys2Proof.Machine.execAtsInvalidateRequest itag pasid global start len s
  | .walkerCompletion walk data => Sys2Proof.Machine.execWalkerCompletion walk data s
  | .adCasCompletion walk found => Sys2Proof.Machine.execAdCasCompletion walk found s
  | .walkError walk => Sys2Proof.Machine.execWalkError walk s
  | .atsTranslationCompletion walk ok xs => Sys2Proof.Machine.execAtsTranslationCompletion walk ok xs s
  | .acreEntryRead walk => Sys2Proof.Machine.execAcreEntryRead walk s
  | .xlateModeSwitchDone => Sys2Proof.Machine.execXlateModeSwitchDone s
  | .faultRecordWrite => Sys2Proof.Machine.execFaultRecordWrite s
  | .faultBatchClose => Sys2Proof.Machine.execFaultBatchClose s
  | .faultHeadWrite val rid => Sys2Proof.Machine.execFaultHeadWrite val rid s
  | .faultCtrlWrite val rid => Sys2Proof.Machine.execFaultCtrlWrite val rid s
  | .retry handle gen => Sys2Proof.Machine.execRetry handle gen s
  | .fail handle gen => Sys2Proof.Machine.execFail handle gen s
  | .deny handle gen => Sys2Proof.Machine.execDeny handle gen s
  | .migrate4k handle gen rid => Sys2Proof.Machine.execMigrate4k handle gen rid s
  | .migrate2m handle gen rid => Sys2Proof.Machine.execMigrate2m handle gen rid s
  | .batchRetry batch => Sys2Proof.Machine.execBatchRetry batch s
  | .batchFail batch => Sys2Proof.Machine.execBatchFail batch s
  | .batchDeny batch => Sys2Proof.Machine.execBatchDeny batch s
  | .faultTimeout handle => Sys2Proof.Machine.execFaultTimeout handle s
  | .pageRequestSend => Sys2Proof.Machine.execPageRequestSend s
  | .prgResponseSuccess prg pasid => Sys2Proof.Machine.execPrgResponseSuccess prg pasid s
  | .prgResponseInvalid prg pasid => Sys2Proof.Machine.execPrgResponseInvalid prg pasid s
  | .prgResponseFailure prg pasid => Sys2Proof.Machine.execPrgResponseFailure prg pasid s
  | .prgResponseUnexpected prg pasid => Sys2Proof.Machine.execPrgResponseUnexpected prg pasid s
  | .priReset => Sys2Proof.Machine.execPriReset s
  | .migEpoch => Sys2Proof.Machine.execMigEpoch s
  | .promotion pages => Sys2Proof.Machine.execPromotion pages s
  | .promotionCopyDone h => Sys2Proof.Machine.execPromotionCopyDone h s
  | .eviction parcel pages => Sys2Proof.Machine.execEviction parcel pages s
  | .migHotNext r => Sys2Proof.Machine.execMigHotNext r s
  | .migWindowWrite w reg val rid => Sys2Proof.Machine.execMigWindowWrite w reg val rid s
  | .migPoolWrite val rid => Sys2Proof.Machine.execMigPoolWrite val rid s
  | .cxlMemRead line => Sys2Proof.Machine.execCxlMemRead line s
  | .cxlMemWrite line data poison keeps => Sys2Proof.Machine.execCxlMemWrite line data poison keeps s
  | .bisnpResponse line data => Sys2Proof.Machine.execBisnpResponse line data s
  | .cohWindowWrite k val rid => Sys2Proof.Machine.execCohWindowWrite k val rid s
  | .hostSnoop line inv => Sys2Proof.Machine.execHostSnoop line inv s
  | .rowGo row rid => Sys2Proof.Machine.execRowGo row rid s
  | .chainGo row rid => Sys2Proof.Machine.execChainGo row rid s
  | .rowStop row => Sys2Proof.Machine.execRowStop row s
  | .rowClear row => Sys2Proof.Machine.execRowClear row s
  | .rowKick row rid => Sys2Proof.Machine.execRowKick row rid s
  | .rowBindWrite row val rid => Sys2Proof.Machine.execRowBindWrite row val rid s
  | .quotaWrite row val rid => Sys2Proof.Machine.execQuotaWrite row val rid s
  | .chainEntriesReceived tag data => Sys2Proof.Machine.execChainEntriesReceived tag data s
  | .coulterIssue => Sys2Proof.Machine.execCoulterIssue s
  | .pressWrite => Sys2Proof.Machine.execPressWrite s
  | .harrowGrant => Sys2Proof.Machine.execHarrowGrant s
  | .remoteReadTimeout tag => Sys2Proof.Machine.execRemoteReadTimeout tag s
  | .programClaim => Sys2Proof.Machine.execProgramClaim s
  | .programLoad plot c a => Sys2Proof.Machine.execProgramLoad plot c a s
  | .nop plot => Sys2Proof.Machine.execNop plot s
  | .endProgram plot => Sys2Proof.Machine.execEndProgram plot s
  | .plotLoop plot => Sys2Proof.Machine.execPlotLoop plot s
  | .endloop plot => Sys2Proof.Machine.execEndloop plot s
  | .seti plot => Sys2Proof.Machine.execSeti plot s
  | .addi plot => Sys2Proof.Machine.execAddi plot s
  | .ldi plot => Sys2Proof.Machine.execLdi plot s
  | .fence plot => Sys2Proof.Machine.execFence plot s
  | .markHalf plot => Sys2Proof.Machine.execMarkHalf plot s
  | .trap plot => Sys2Proof.Machine.execTrap plot s
  | .swait plot => Sys2Proof.Machine.execSwait plot s
  | .sjoin plot => Sys2Proof.Machine.execSjoin plot s
  | .stest plot => Sys2Proof.Machine.execStest plot s
  | .ssig plot => Sys2Proof.Machine.execSsig plot s
  | .sremote plot => Sys2Proof.Machine.execSremote plot s
  | .plotLoad plot h => Sys2Proof.Machine.execPlotLoad plot h s
  | .plotStore plot => Sys2Proof.Machine.execPlotStore plot s
  | .tcopy plot => Sys2Proof.Machine.execTcopy plot s
  | .feed plot => Sys2Proof.Machine.execFeed plot s
  | .unfeed plot => Sys2Proof.Machine.execUnfeed plot s
  | .feedServed row => Sys2Proof.Machine.execFeedServed row s
  | .bload plot => Sys2Proof.Machine.execBload plot s
  | .matmul plot => Sys2Proof.Machine.execMatmul plot s
  | .accClear plot => Sys2Proof.Machine.execAccClear plot s
  | .accAddw plot => Sys2Proof.Machine.execAccAddw plot s
  | .accStore plot => Sys2Proof.Machine.execAccStore plot s
  | .vbin plot => Sys2Proof.Machine.execVbin plot s
  | .vfma plot => Sys2Proof.Machine.execVfma plot s
  | .vun plot => Sys2Proof.Machine.execVun plot s
  | .vcvt plot => Sys2Proof.Machine.execVcvt plot s
  | .vmuls plot => Sys2Proof.Machine.execVmuls plot s
  | .vred plot => Sys2Proof.Machine.execVred plot s
  | .vaddw plot => Sys2Proof.Machine.execVaddw plot s
  | .vroundw plot => Sys2Proof.Machine.execVroundw plot s
  | .gather plot h => Sys2Proof.Machine.execGather plot h s
  | .scatter plot h => Sys2Proof.Machine.execScatter plot h s
  | .scatterAdd plot h => Sys2Proof.Machine.execScatterAdd plot h s
  | .scatterAddw plot h => Sys2Proof.Machine.execScatterAddw plot h s
  | .csrExpand plot h => Sys2Proof.Machine.execCsrExpand plot h s
  | .plotHalt plot rid => Sys2Proof.Machine.execPlotHalt plot rid s
  | .programFailure plot => Sys2Proof.Machine.execProgramFailure plot s
  | .tilthSplitWrite plot val rid => Sys2Proof.Machine.execTilthSplitWrite plot val rid s
  | .portTrained p full timing voltage => Sys2Proof.Machine.execPortTrained p full timing voltage s
  | .ident p addr cls idx s64 dup => Sys2Proof.Machine.execIdent p addr cls idx s64 dup s
  | .portDown p => Sys2Proof.Machine.execPortDown p s
  | .portRetry p => Sys2Proof.Machine.execPortRetry p s
  | .portMarginCheck margins frames => Sys2Proof.Machine.execPortMarginCheck margins frames s
  | .portRetrain ports => Sys2Proof.Machine.execPortRetrain ports s
  | .stileWrite p m => Sys2Proof.Machine.execStileWrite p m s
  | .writeAck p m => Sys2Proof.Machine.execWriteAck p m s
  | .readReq p m => Sys2Proof.Machine.execReadReq p m s
  | .readRsp p m => Sys2Proof.Machine.execReadRsp p m s
  | .remoteStakeAdd p m => Sys2Proof.Machine.execRemoteStakeAdd p m s
  | .remoteStakeSet p m => Sys2Proof.Machine.execRemoteStakeSet p m s
  | .stakeRead p m => Sys2Proof.Machine.execStakeRead p m s
  | .stakeAck p m => Sys2Proof.Machine.execStakeAck p m s
  | .stakeRsp p m => Sys2Proof.Machine.execStakeRsp p m s
  | .messageRelay p m => Sys2Proof.Machine.execMessageRelay p m s
  | .protocolDiscard p bytes => Sys2Proof.Machine.execProtocolDiscard p bytes s
  | .sliceJoin p m => Sys2Proof.Machine.execSliceJoin p m s
  | .joinAck p m => Sys2Proof.Machine.execJoinAck p m s
  | .heartbeat p m => Sys2Proof.Machine.execHeartbeat p m s
  | .heartbeatSend => Sys2Proof.Machine.execHeartbeatSend s
  | .heartbeatMissed who => Sys2Proof.Machine.execHeartbeatMissed who s
  | .faultReport p m => Sys2Proof.Machine.execFaultReport p m s
  | .haltMessage p m => Sys2Proof.Machine.execHaltMessage p m s
  | .memberReset p m => Sys2Proof.Machine.execMemberReset p m s
  | .powerLoss p m => Sys2Proof.Machine.execPowerLoss p m s
  | .mgrCmdForm => Sys2Proof.Machine.execMgrCmdForm s
  | .mgrCmdDissolve => Sys2Proof.Machine.execMgrCmdDissolve s
  | .formationTimeout => Sys2Proof.Machine.execFormationTimeout s
  | .sliceRestart entries => Sys2Proof.Machine.execSliceRestart entries s
  | .sliceRelease => Sys2Proof.Machine.execSliceRelease s
  | .stileCtrlWrite w reg val rid => Sys2Proof.Machine.execStileCtrlWrite w reg val rid s
  | .stileDrainDone w => Sys2Proof.Machine.execStileDrainDone w s
  | .epochPulse at_ => Sys2Proof.Machine.execEpochPulse at_ s
  | .epochMissing => Sys2Proof.Machine.execEpochMissing s
  | .timeAnnounce p m => Sys2Proof.Machine.execTimeAnnounce p m s
  | .timeAnnounceSend => Sys2Proof.Machine.execTimeAnnounceSend s
  | .timeMasterTakeover => Sys2Proof.Machine.execTimeMasterTakeover s
  | .timeSync p m => Sys2Proof.Machine.execTimeSync p m s
  | .timeEcho p m => Sys2Proof.Machine.execTimeEcho p m s
  | .lotCreate c => Sys2Proof.Machine.execLotCreate c s
  | .lotDelete c => Sys2Proof.Machine.execLotDelete c s
  | .draftOpen c => Sys2Proof.Machine.execDraftOpen c s
  | .draftCommit c => Sys2Proof.Machine.execDraftCommit c s
  | .draftAbort c => Sys2Proof.Machine.execDraftAbort c s
  | .rebind c => Sys2Proof.Machine.execRebind c s
  | .keyDestroyDone lot => Sys2Proof.Machine.execKeyDestroyDone lot s
  | .ftlReplay us => Sys2Proof.Machine.execFtlReplay us s
  | .checkpointRewrite => Sys2Proof.Machine.execCheckpointRewrite s
  | .scrub band r => Sys2Proof.Machine.execScrub band r s
  | .bandRefresh band => Sys2Proof.Machine.execBandRefresh band s
  | .wearMove => Sys2Proof.Machine.execWearMove s
  | .programFailRetire block erase => Sys2Proof.Machine.execProgramFailRetire block erase s
  | .seedDieFailed die => Sys2Proof.Machine.execSeedDieFailed die s
  | .seedThermOff => Sys2Proof.Machine.execSeedThermOff s
  | .seedThermReturn => Sys2Proof.Machine.execSeedThermReturn s
  | .ftlFormatDone => Sys2Proof.Machine.execFtlFormatDone s
  | .seedRead n seq r => Sys2Proof.Machine.execSeedRead n seq r s
  | .seedProgram n seq r => Sys2Proof.Machine.execSeedProgram n seq r s
  | .seedErase n seq r => Sys2Proof.Machine.execSeedErase n seq r s
  | .markBad n seq r => Sys2Proof.Machine.execMarkBad n seq r s
  | .rotSubmit route data => Sys2Proof.Machine.execRotSubmit route data s
  | .goSow ticket => Sys2Proof.Machine.execGoSow ticket s
  | .goReap ticket => Sys2Proof.Machine.execGoReap ticket s
  | .cancel ticket => Sys2Proof.Machine.execCancel ticket s
  | .sowStart => Sys2Proof.Machine.execSowStart s
  | .sowComplete => Sys2Proof.Machine.execSowComplete s
  | .reapStart => Sys2Proof.Machine.execReapStart s
  | .reapComplete => Sys2Proof.Machine.execReapComplete s
  | .trainLimitExpiry ticket => Sys2Proof.Machine.execTrainLimitExpiry ticket s
  | .rotPoolReset key => Sys2Proof.Machine.execRotPoolReset key s
  | .rotPoolWrite val => Sys2Proof.Machine.execRotPoolWrite val s
  | .faultEvent e => Sys2Proof.Machine.execFaultEvent e s
  | .railSample die fatalPair p n => Sys2Proof.Machine.execRailSample die fatalPair p n s
  | .fatalUnspec die => Sys2Proof.Machine.execFatalUnspec die s
  | .recordWriter => Sys2Proof.Machine.execRecordWriter s
  | .escWindowClose source => Sys2Proof.Machine.execEscWindowClose source s
  | .sourceQuiet source => Sys2Proof.Machine.execSourceQuiet source s
  | .hostRingWrite => Sys2Proof.Machine.execHostRingWrite s
  | .fcRingHeadWrite val rid => Sys2Proof.Machine.execFcRingHeadWrite val rid s
  | .fcRingEnable val rid => Sys2Proof.Machine.execFcRingEnable val rid s
  | .fcPop val rid => Sys2Proof.Machine.execFcPop val rid s
  | .recordNext route => Sys2Proof.Machine.execRecordNext route s
  | .fcReactJobHalt source rid => Sys2Proof.Machine.execFcReactJobHalt source rid s
  | .fcReactPlotFence source rid => Sys2Proof.Machine.execFcReactPlotFence source rid s
  | .fcReactDieReset source rid => Sys2Proof.Machine.execFcReactDieReset source rid s
  | .fcReactFreeze source rid => Sys2Proof.Machine.execFcReactFreeze source rid s
  | .fcReactPackageFence source rid => Sys2Proof.Machine.execFcReactPackageFence source rid s
  | .stickyClear source again => Sys2Proof.Machine.execStickyClear source again s
  | .fcSrcCfgWrite source val route rid => Sys2Proof.Machine.execFcSrcCfgWrite source val route rid s
  | .fatalLogWrite => Sys2Proof.Machine.execFatalLogWrite s
  | .forceArm route key => Sys2Proof.Machine.execForceArm route key s
  | .forceArmExpiry => Sys2Proof.Machine.execForceArmExpiry s
  | .forceEvent route k val => Sys2Proof.Machine.execForceEvent route k val s
  | .forceLevel route k val => Sys2Proof.Machine.execForceLevel route k val s
  | .forceRail route level val => Sys2Proof.Machine.execForceRail route level val s
  | .splitWalk route val => Sys2Proof.Machine.execSplitWalk route val s
  | .splitFault route val => Sys2Proof.Machine.execSplitFault route val s
  | .splitMig route val => Sys2Proof.Machine.execSplitMig route val s
  | .splitFtl route val => Sys2Proof.Machine.execSplitFtl route val s
  | .splitRotation route val => Sys2Proof.Machine.execSplitRotation route val s
  | .splitClassify route val => Sys2Proof.Machine.execSplitClassify route val s
  | .splitRetrain route val => Sys2Proof.Machine.execSplitRetrain route val s
  | .splitCap route val => Sys2Proof.Machine.execSplitCap route val s
  | .splitStakeTo route val => Sys2Proof.Machine.execSplitStakeTo route val s
  | .policyPower held peaks => Sys2Proof.Machine.execPolicyPower held peaks s
  | .policyMigration promotions evictions idle => Sys2Proof.Machine.execPolicyMigration promotions evictions idle s
  | .policySeedbank => Sys2Proof.Machine.execPolicySeedbank s
  | .policyLink fec replays restored => Sys2Proof.Machine.execPolicyLink fec replays restored s
  | .policyFaultThreshold rates => Sys2Proof.Machine.execPolicyFaultThreshold rates s
  | .policyRotation late waited => Sys2Proof.Machine.execPolicyRotation late waited s
  | .policyFallow due => Sys2Proof.Machine.execPolicyFallow due s
  | .policyModeWrite policy route val => Sys2Proof.Machine.execPolicyModeWrite policy route val s
  | .tagQuarantineEnd tag => Sys2Proof.Machine.execTagQuarantineEnd tag s
  | .plotRampStart => Sys2Proof.Machine.execPlotRampStart s
  | .flowControlUpdate posted nonPosted => Sys2Proof.Machine.execFlowControlUpdate posted nonPosted s
  | .fabricCreditReturn p vc n => Sys2Proof.Machine.execFabricCreditReturn p vc n s
  | .aspmL1Exit => Sys2Proof.Machine.execAspmL1Exit s
  | .linkRecovery => Sys2Proof.Machine.execLinkRecovery s
  | .levelConditionEnd source => Sys2Proof.Machine.execLevelConditionEnd source s
  | .plcaFallback beacon => Sys2Proof.Machine.execPlcaFallback beacon s

end Sys2Proof.Machine
end

