-- ==== Sys2Proof/Machine/Tick.lean ====
section
/-! DEFINITION. What the block does when no command waits. -/

namespace Sys2Proof.Machine

/-- One Tick of 320 ns passes (R80); everything that falls due at a moment is a command of its own (log entry 1). -/
def idle (s : State) : Out := .next { s with now := s.now + 320 }

end Sys2Proof.Machine
end

