-- ==== Sys2Proof/Safety.lean ====
section
/-! DEFINITION. What counts as a safe state, in the terms the claims use. -/

namespace Sys2Proof.Machine

/-- Keys strictly rising from `lo` on. -/
def kvRises {α : Type} : Nat → List (Nat × α) → Bool
  | _, [] => true
  | lo, (a, _) :: m => decide (lo ≤ a) && kvRises (a + 1) m

/-- A table whose keys strictly rise: no key is listed twice. -/
def Rises {α : Type} (m : List (Nat × α)) : Prop := kvRises 0 m = true

/-- The tilth of a plot and its poison marks are in canonical form. -/
def Plot.Wf (p : Plot) : Prop := Memory.wf p.tilth = true ∧ kvWf false p.poison = true

/-- The plots are listed in order, each once, with their tilth in canonical form. -/
def PlotsWf (m : List (Nat × Plot)) : Prop := Rises m ∧ ∀ e ∈ m, e.2.Wf

/-- The invariant of the block.  HBM and its poison marks are in canonical form: keys strictly rising, nothing listed that
equals what an unlisted place reads as; so is the tilth of every plot.  Every register table lists a register at most once, in order: dictionary values,
control-window registers, configuration dwords, latched counter halves, plots, furrows, stakes, rows, feeds, ports and
fault sources. -/
def State.Inv (s : State) : Prop :=
  Memory.wf s.hbm = true ∧ kvWf false s.host.poison = true ∧ Rises s.od ∧ Rises s.reg ∧ Rises s.cfg ∧ Rises s.latch ∧
  PlotsWf s.plots ∧ Rises s.g.furrows ∧ Rises s.g.stakes ∧ Rises s.drill.rows ∧ Rises s.drill.feeds ∧ Rises s.fab.ports ∧
  Rises s.fc.srcs

/-- The command completes: executed on s it answers a next state, of which P holds. -/
def Completes (c : Instr) (s : State) (P : State → Prop) : Prop := ∃ t, exec c s = .next t ∧ P t

/-- It is mirror slot n's turn: firmware runs, the slot is BUSY and the oldest one, its operation is `op`, and no other
route's request stands before it (R205, R211). -/
def State.SlotTurn (s : State) (n op : Nat) : Prop :=
  s.hl.running = true ∧ s.mir.order.head? = some n ∧ s.turn .H = true ∧ (s.mslot n).op = op ∧ (s.mslot n).state = 1

/-- The request body that a mirror slot holds. -/
def State.slotBody (s : State) (n : Nat) : List Byte := s.areaRead (slotBase n + 0x100) (s.mslot n).bodyLen

/-- Port p carries messages and the message is for this package (R642). -/
def State.Receives (s : State) (p : Nat) (m : Msg) : Prop := (s.port p).active = true ∧ m.hop % 2 ^ 12 = s.addr ∧ m.dst % 2 ^ 12 = s.addr

end Sys2Proof.Machine
end

