-- ==== Sys2Proof/Frames.lean ====
section
/-! DEFINITION. Conditions that the statements name: when the link sends at once, and which commands may change what. -/

/-- An ordinary memory request: no PASID prefix, not poisoned. -/
def Sys2Proof.MemReq.Plain (r : Sys2Proof.MemReq) : Prop := r.pasid = false ∧ r.ep = false

namespace Sys2Proof.Machine

/-- The link is up in L0, nothing waits to be sent and a posted credit is at hand: a message leaves at once (R278, R322). -/
def State.SendsNow (s : State) : Prop :=
  s.link.up = true ∧ s.link.ltssm = .l0 ∧ s.host.queue = [] ∧ s.host.blocked = [] ∧ 0 < s.host.pCredit ∧ s.host.inFlr = false

/-- Posted writes of the Z20 may leave as well: Bus Master Enable, D0, not Frozen (R278, R297, R315). -/
def State.WritesNow (s : State) : Prop :=
  s.SendsNow ∧ s.bme = true ∧ s.host.power = .d0 ∧ s.host.frozen = false

/-- No wait that was met stands to be released and no furrow has a descriptor to accept: settling the stakes changes nothing
(R353, R403). -/
def State.Settled (s : State) : Prop := s.g.met = [] ∧ s.furrowsOn.filter (fun n => decide (0 < s.toAccept n)) = []

/-- Counter k has counted one event between s and t (R216). -/
def State.Counts (s t : State) (k : Nat) : Prop := t.val k = (s.val k + 1) % 2 ^ 64

/-- The source n was raised, with nothing said of where (R734). -/
def State.Raises (s t : State) (n : Nat) : Prop := t.fc.ring = s.fc.ring ++ [{ source := n }]

/-- The payload of an Ethernet frame, the request it carries, and its tag (R194, R195). -/
def hopPayload (f : List Byte) : List Byte := f.drop 14
def hopRequest (f : List Byte) : FieldReq :=
  let p := hopPayload f
  { mac := bytesAt f 6 6, node := bytesAt p 5 1, op := bytesAt p 2 1, nonce := bytesAt p 8 4, seq := bytesAt p 12 4, txn := bytesAt p 16 2,
    body := (p.drop 20).take (bytesAt p 6 2) }

/-- A HOP request for this module that its tag proves authentic, of another operation than HELLO (R192, R194, R195). -/
def State.Authentic (s : State) (f : List Byte) : Prop :=
  let p := hopPayload f
  bytesAt f 0 6 = Config.macAddr % 2 ^ 48 ∧ (f.drop 12).take 2 = [0x88, 0xB5] ∧ p.length ≤ 1500 ∧ bytesAt p 0 1 = 1 ∧ bytesAt p 1 1 = 1 ∧
  bytesAt p 4 1 = s.node ∧ bytesAt p 2 1 ≠ 0 ∧
  (p.drop (20 + bytesAt p 6 2)).take 16 = hopTag s.fieldKey (f.take 12 ++ p.take (20 + bytesAt p 6 2))

/-- Host requests are served at once: the link is up, the block is up in D0 with memory accesses enabled, no FLR runs, it
is not frozen and no request waits in the hold buffer (R262, R269, R281, R302, R315). -/
def State.ServesHost (s : State) : Prop :=
  s.link.up = true ∧ s.pwr.mode = .up ∧ s.host.inFlr = false ∧ s.host.power = .d0 ∧ s.memEnable = true ∧ s.host.frozen = false ∧
  s.pwr.hold = []

/-- What byte x of memory m reads as after the bytes d, each with its enable, are written from address a on. -/
def byteAfter (m : List Host.Cell) (a : Nat) (d : List (Byte × Bool)) (x : Nat) : Byte :=
  if a ≤ x then (match d[x - a]? with | some (b, true) => b | _ => memByte m x) else memByte m x

/-- Plot p would issue command v, of the code `op` and with no bit outside the fields set, and it is not the last command of its
program (R592, R596). -/
def State.Issues (s : State) (p op v : Nat) (fields : List (Nat × Nat)) : Prop :=
  s.nextCmd p = some v ∧ v % 256 = op ∧ onlyFields v fields = true ∧
  (s.plot p).prog.map (fun g => decide ((s.plot p).pc + 1 < g.cmds.length)) = some true

/-- The plot as it stands when its command has been issued: the next command in order is due and nothing stalls issue (R592). -/
def State.issued (s : State) (p : Nat) : Plot :=
  { s.plot p with pc := (s.plot p).pc + 1, stalledStake := false, stalledFeed := false }

/-- Plot p has gone on to its next command and stored the bytes `bs` at offset d of its tilth, and nothing else there (R592). -/
def State.Stores (s t : State) (p d : Nat) (bs : List Byte) : Prop :=
  (t.plot p).pc = (s.plot p).pc + 1 ∧ memRead (t.plot p).tilth d bs.length = bs ∧ t.hbm = s.hbm ∧ t.reg = s.reg ∧ t.g = s.g ∧
  ∀ x, x < d ∨ d + bs.length ≤ x → memByte (t.plot p).tilth x = memByte (s.plot p).tilth x

/-- The bytes that extents hold: in HBM, in tilth, and in host memory, whose bytes come with the command. -/
def State.extBytes (s : State) : List (Target × Nat) → List Byte → List Byte
  | [], _ => []
  | (.hbm a, n) :: l, h => memRead s.hbm a n ++ s.extBytes l h
  | (.tilth q o, n) :: l, h => memRead (s.plot q).tilth o n ++ s.extBytes l h
  | (.host _, n) :: l, h => (h ++ List.replicate n 0).take n ++ s.extBytes l (h.drop n)

/-- The host answers a plot's reads with data that is not poisoned (R288, R289, R309). -/
def Clean (h : HostRead) : Prop := h.fail = none ∧ h.data.all (fun y => !y.2) = true

/-- No memory granule is poisoned, no acre waits to be scrubbed or for the lines a scrub calls back, the host holds no line, and no translation is cached, walked or faulting
(R309, R455, R509). -/
def State.Clear (s : State) : Prop :=
  s.host.poison = [] ∧ s.pwr.scrub = [] ∧ s.coh.scrubbing = [] ∧ s.coh.snoopFilter = [] ∧ s.plat.cache = [] ∧ s.plat.parcels = [] ∧
  s.plat.walks = [] ∧ s.plat.slotWait = [] ∧ s.flt.entries = [] ∧ s.flt.waiting = []

/-- A PASID has a context that maps device-local addresses to HBM one to one (R425). -/
def State.Maps (s : State) (pasid : Nat) : Prop :=
  (s.ctxOf pasid).map (fun c => bit (s.pctxCtrl c) 25 && bit (s.pctxCtrl c) 26) = some true

/-- Device-local addresses of plot p's program are reached at once, and nothing in its tilth is poisoned. -/
def State.Direct (s : State) (p : Nat) : Prop := s.Clear ∧ (s.plot p).poison = [] ∧ s.Maps (s.plot p).pasid

/-- The parts of the state: time and the counter of free values, dictionary values, control-window registers, configuration dwords, latched
counter halves, the link, the host's side, furrows and stakes, PLAT, page faults, migration, coherence, the Drill, plots, HBM, the fault
collector, dictionary sessions, the HOP session, the mirror, firmware download, fabric, Rack Time, slice, manager, power, calibration, the
Headland, seedbank, rotation, and the steward. -/
inductive Part where
  | now | free | od | reg | cfg | latch | link | host | g | plat | flt | mig | coh | drill | plots | hbm | fc | dict | hop | mir | fw
  | fab | time | slice | mgr | pwr | cal | hl | seed | rot | stw
  deriving DecidableEq, Repr

/-- The parts of the state that a command may change; every other part it leaves as it is. -/
def partsOf : Sys2Proof.Instr → List Part
  | .inputDip .. | .tickTrimUpdate .. | .perstGlitch .. | .forceRail .. =>
    [.od]
  | .mmioErrRearm .. | .prio .. =>
    [.reg]
  | .furrowDisabled .. | .drain .. | .drainComplete .. | .resume .. =>
    [.g]
  | .engineAcknowledge .. | .atsInvalidateRequest .. =>
    [.plat]
  | .priReset .. =>
    [.flt]
  | .migEpoch .. =>
    [.mig]
  | .hostSnoop .. =>
    [.coh]
  | .rowClear .. =>
    [.drill]
  | .plotWakeTrigger .. | .nop .. | .plotLoop .. | .endloop .. | .seti .. | .addi .. | .ldi .. | .fence .. | .trap .. |
  .sjoin .. | .accClear .. =>
    [.plots]
  | .vregFault .. | .rackrefAbsent .. | .recordNext .. | .levelConditionEnd .. =>
    [.fc]
  | .persistCommit .. | .lockRequest .. =>
    [.dict]
  | .fwEraseDone .. =>
    [.fw]
  | .fallowWakeEvent .. | .hfastStart .. =>
    [.pwr]
  | .calUnlock .. =>
    [.cal]
  | .fwConfirm .. =>
    [.hl]
  | .keyDestroyDone .. =>
    [.seed]
  | .prgResponseUnexpected .. =>
    [.od, .cfg]
  | .aspmL1Entry .. | .l0pNarrow .. | .l0pWiden .. | .linkRecovery .. =>
    [.od, .link]
  | .tagQuarantineEnd .. =>
    [.now, .host]
  | .faultBatchClose .. =>
    [.now, .flt]
  | .plotIdleGate .. =>
    [.now, .plots]
  | .plotHoldWrite .. | .stest .. =>
    [.od, .plots]
  | .markHalf .. =>
    [.g, .plots]
  | .feed .. =>
    [.drill, .plots]
  | .escWindowClose .. | .sourceQuiet .. =>
    [.now, .fc]
  | .protocolDiscard .. | .forceArm .. =>
    [.od, .fc]
  | .persistCommitStart .. | .lockExpiry .. =>
    [.now, .dict]
  | .persistCommitDone .. =>
    [.od, .dict]
  | .fatalLogWrite .. =>
    [.fc, .dict]
  | .plcaFallback .. =>
    [.od, .hop]
  | .portRetry .. =>
    [.now, .fab]
  | .portRetrain .. | .messageRelay .. | .heartbeatSend .. | .timeSync .. | .fabricCreditReturn .. =>
    [.od, .fab]
  | .timeMasterTakeover .. =>
    [.now, .time]
  | .hfastIdleStop .. =>
    [.now, .pwr]
  | .perstDeassert .. | .rotPoolWrite .. =>
    [.od, .pwr]
  | .calUnlockExpiry .. =>
    [.now, .cal]
  | .calCommit .. =>
    [.od, .cal]
  | .trialImageConfirm .. =>
    [.now, .hl]
  | .fwBegin .. | .fwData .. | .fwVerify .. =>
    [.fw, .hl]
  | .checkpointRewrite .. | .seedThermReturn .. =>
    [.now, .seed]
  | .bandRefresh .. | .wearMove .. =>
    [.od, .seed]
  | .rotPoolReset .. =>
    [.pwr, .rot]
  | .unfeed .. =>
    [.od, .drill, .plots]
  | .forceArmExpiry .. =>
    [.now, .od, .fc]
  | .apertureMapWrite .. | .fctxWrite .. | .stakeGroupWrite .. | .pctxValid .. | .migWindowWrite .. | .migPoolWrite .. |
  .rowBindWrite .. | .quotaWrite .. | .fcRingHeadWrite .. | .fcRingEnable .. | .fcPop .. | .fcSrcCfgWrite .. =>
    [.od, .reg, .fc]
  | .txnExpiry .. =>
    [.now, .od, .dict]
  | .portTrained .. =>
    [.free, .od, .fab]
  | .portMarginCheck .. =>
    [.od, .fc, .fab]
  | .timeAnnounceSend .. =>
    [.od, .fab, .time]
  | .shedReleaseStep .. =>
    [.now, .reg, .pwr]
  | .shedDeassert .. =>
    [.od, .reg, .pwr]
  | .plotRampStart .. =>
    [.now, .plots, .pwr]
  | .pwrRequestWrite .. =>
    [.od, .plots, .pwr]
  | .hbmScrubAcre .. =>
    [.host, .hbm, .pwr]
  | .strapChanged .. =>
    [.od, .fc, .pwr]
  | .fwOwnerExpiry .. =>
    [.now, .fw, .hl]
  | .lotCreate .. | .lotDelete .. | .draftOpen .. | .draftCommit .. | .draftAbort .. | .rebind .. =>
    [.od, .pwr, .seed]
  | .seedErase .. =>
    [.g, .pwr, .seed]
  | .rotSubmit .. =>
    [.pwr, .seed, .rot]
  | .policyModeWrite .. =>
    [.od, .reg, .stw]
  | .barSizeWrite .. =>
    [.od, .reg, .cfg, .fc]
  | .unexpectedCompletion .. =>
    [.od, .cfg, .host, .fc]
  | .faultHeadWrite .. | .faultCtrlWrite .. =>
    [.od, .reg, .flt, .fc]
  | .hopKeySwitch .. =>
    [.free, .od, .dict, .hop]
  | .stileCtrlWrite .. =>
    [.od, .reg, .fc, .fab]
  | .epochMissing .. =>
    [.now, .od, .fc, .time]
  | .epochPulse .. =>
    [.now, .od, .fab, .time]
  | .timeAnnounce .. | .timeEcho .. =>
    [.od, .fc, .fab, .time]
  | .heartbeat .. =>
    [.od, .fab, .slice, .mgr]
  | .bload .. | .accAddw .. | .vfma .. | .vcvt .. | .vmuls .. | .vaddw .. =>
    [.host, .plots, .hbm, .pwr]
  | .recordWriter .. =>
    [.now, .od, .fc, .pwr]
  | .strapSample .. =>
    [.free, .od, .fc, .pwr]
  | .headlandSilent .. =>
    [.now, .reg, .fc, .pwr]
  | .peakLimit .. | .shedAssert .. =>
    [.od, .reg, .fc, .pwr]
  | .foreignFrame .. =>
    [.od, .dict, .hop, .pwr]
  | .rackrefLost .. =>
    [.od, .fc, .time, .pwr]
  | .powerSummation .. =>
    [.od, .reg, .pwr, .hl]
  | .programFailRetire .. | .seedDieFailed .. =>
    [.od, .fc, .dict, .seed]
  | .ftlFormatDone .. =>
    [.od, .fc, .pwr, .seed]
  | .markBad .. =>
    [.g, .dict, .pwr, .seed]
  | .trainLimitExpiry .. =>
    [.now, .reg, .pwr, .rot]
  | .policyPower .. | .policyMigration .. | .policySeedbank .. | .policyFaultThreshold .. | .policyRotation .. =>
    [.od, .reg, .pwr, .stw]
  | .ringFault .. =>
    [.od, .reg, .host, .g, .fc]
  | .initiateFlr .. | .deassertInta .. | .ringFetch .. | .headWriteback .. | .hostRingWrite .. =>
    [.od, .cfg, .host, .g, .fc]
  | .vbin .. | .vun .. | .vred .. =>
    [.free, .host, .plots, .hbm, .pwr]
  | .matmul .. | .accStore .. | .vroundw .. =>
    [.od, .host, .plots, .hbm, .pwr]
  | .scrub .. =>
    [.od, .fc, .dict, .pwr, .seed]
  | .retry .. | .fail .. | .deny .. | .batchRetry .. | .batchFail .. | .batchDeny .. =>
    [.od, .g, .flt, .mig, .drill, .plots]
  | .ltrSend .. =>
    [.od, .cfg, .link, .host, .g, .fc]
  | .faultRecordWrite .. =>
    [.od, .cfg, .host, .g, .flt, .fc]
  | .notifyEvaluation .. =>
    [.od, .reg, .dict, .hop, .mir, .fab]
  | .fallowMaskedEvent .. | .d3hotEntry .. =>
    [.od, .cfg, .host, .g, .fc, .pwr]
  | .slotGo .. =>
    [.od, .reg, .fc, .dict, .mir, .pwr]
  | .notifyResend .. =>
    [.now, .od, .dict, .hop, .mir, .pwr]
  | .policyFallow .. =>
    [.now, .od, .reg, .plots, .pwr, .stw]
  | .faultTimeout .. =>
    [.now, .od, .g, .flt, .mig, .drill, .plots]
  | .prgResponseSuccess .. | .prgResponseInvalid .. | .prgResponseFailure .. =>
    [.od, .cfg, .g, .flt, .mig, .drill, .plots]
  | .attnCauseClear .. | .assertInta .. | .aspmL1Exit .. =>
    [.od, .reg, .cfg, .link, .host, .g, .fc]
  | .pageRequestSend .. =>
    [.now, .od, .cfg, .host, .g, .flt, .fc]
  | .dbTail .. =>
    [.od, .reg, .cfg, .host, .g, .fc, .pwr]
  | .cxlMemRead .. | .cxlMemWrite .. | .cohWindowWrite .. =>
    [.od, .reg, .host, .coh, .hbm, .fc, .pwr]
  | .seedThermOff .. =>
    [.od, .reg, .g, .drill, .fc, .seed, .rot]
  | .policyLink .. =>
    [.free, .od, .reg, .link, .fab, .pwr, .stw]
  | .attnHoldoffExpiry .. =>
    [.now, .od, .reg, .cfg, .link, .host, .g, .fc]
  | .holdBufferTimeout .. =>
    [.now, .od, .cfg, .host, .g, .coh, .fc, .pwr]
  | .tilthSplitWrite .. =>
    [.od, .reg, .cfg, .host, .g, .plots, .fc, .pwr]
  | .goSow .. =>
    [.od, .reg, .host, .coh, .hbm, .pwr, .seed, .rot]
  | .linkTrained .. =>
    [.now, .free, .od, .reg, .cfg, .link, .host, .g, .fc]
  | .sowComplete .. =>
    [.od, .reg, .host, .plat, .coh, .hbm, .pwr, .seed, .rot]
  | .walkerCompletion .. | .adCasCompletion .. | .walkError .. | .atsTranslationCompletion .. | .promotion .. =>
    [.od, .cfg, .host, .g, .plat, .flt, .mig, .drill, .plots, .fc]
  | .goReap .. | .cancel .. | .sowStart .. | .reapStart .. =>
    [.free, .od, .reg, .host, .plat, .coh, .hbm, .pwr, .seed, .rot]
  | .freezeRelease .. | .xlateModeSwitchDone .. | .migrate4k .. | .migrate2m .. =>
    [.od, .reg, .cfg, .host, .g, .plat, .flt, .mig, .drill, .plots, .fc]
  | .sremote .. =>
    [.od, .cfg, .host, .g, .plat, .flt, .mig, .drill, .plots, .fc, .fab]
  | .invalRange .. | .invalPasid .. | .invalAll .. | .parcelInstall .. | .parcelRemove .. | .pasidRetire .. | .sync ..
  =>
    [.free, .od, .reg, .cfg, .host, .g, .plat, .flt, .mig, .drill, .plots, .fc]
  | .endProgram .. =>
    [.od, .reg, .cfg, .host, .g, .plat, .flt, .mig, .drill, .plots, .fc, .fab]
  | .acreEntryRead .. =>
    [.od, .cfg, .host, .g, .plat, .flt, .mig, .drill, .plots, .hbm, .fc, .pwr]
  | .counterLowRead .. | .counterHighRead .. | .apertureRead .. | .stakeToNext .. | .migHotNext .. =>
    [.free, .od, .reg, .cfg, .latch, .host, .g, .mig, .coh, .plots, .hbm, .fc, .pwr]
  | .eviction .. | .plotStore .. | .tcopy .. =>
    [.od, .cfg, .host, .g, .plat, .flt, .mig, .coh, .drill, .plots, .hbm, .fc, .pwr]
  | .splitWalk .. | .splitFault .. | .splitMig .. | .splitFtl .. | .splitRotation .. | .splitClassify .. |
  .splitRetrain .. | .splitCap .. | .splitStakeTo .. =>
    [.od, .reg, .cfg, .host, .g, .plat, .flt, .mig, .drill, .plots, .fc, .dict, .seed]
  | .calCommitDone .. | .hlWatchdog .. | .hlResetRequest .. | .headlandReset .. =>
    [.free, .od, .reg, .fc, .dict, .hop, .mir, .fw, .cal, .hl, .seed, .rot, .stw]
  | .seedRead .. =>
    [.free, .od, .cfg, .host, .g, .plat, .flt, .mig, .coh, .drill, .plots, .hbm, .fc, .pwr]
  | .dbInline .. | .ringEntriesReceived .. | .descriptorSown .. | .startPointReached .. | .halfPoint .. | .stakeSet .. |
  .stakeAdd .. | .programClaim .. | .swait .. | .ssig .. | .flowControlUpdate .. =>
    [.od, .reg, .cfg, .host, .g, .plat, .flt, .mig, .coh, .drill, .plots, .hbm, .fc, .pwr]
  | .stileDrainDone .. =>
    [.od, .cfg, .host, .g, .plat, .flt, .mig, .coh, .drill, .plots, .hbm, .fc, .fab, .pwr]
  | .promotionCopyDone .. | .plotLoad .. | .gather .. | .scatter .. | .scatterAdd .. | .scatterAddw .. | .csrExpand ..
  =>
    [.now, .od, .reg, .cfg, .host, .g, .plat, .flt, .mig, .coh, .drill, .plots, .hbm, .fc, .pwr]
  | .atomicCas .. =>
    [.free, .od, .reg, .cfg, .host, .g, .plat, .flt, .mig, .coh, .drill, .plots, .hbm, .fc, .pwr]
  | .plotFence .. | .plotReset .. | .busMasterClear .. | .busMasterSet .. | .readCompletion .. | .poisonedCompletion ..
  | .urCaCompletion .. | .furrowEnable .. | .furrowDisable .. | .descriptorComplete .. | .stakeDeadlineCheck .. |
  .stakeWaitCancel .. | .rowGo .. | .chainGo .. | .rowStop .. | .rowKick .. | .chainEntriesReceived .. | .harrowGrant ..
  | .feedServed .. | .plotHalt .. | .programFailure .. | .stileWrite .. | .writeAck .. | .readReq .. | .readRsp .. |
  .remoteStakeAdd .. | .remoteStakeSet .. | .stakeRead .. | .stakeAck .. | .stakeRsp .. =>
    [.od, .reg, .cfg, .host, .g, .plat, .flt, .mig, .coh, .drill, .plots, .hbm, .fc, .fab, .pwr]
  | .descriptorStart .. =>
    [.od, .reg, .cfg, .host, .g, .plat, .flt, .mig, .coh, .drill, .plots, .hbm, .fc, .pwr, .seed]
  | .programLoad .. =>
    [.now, .free, .od, .reg, .cfg, .host, .g, .plat, .flt, .mig, .coh, .drill, .plots, .hbm, .fc, .pwr]
  | .completionTimeout .. | .remoteReadTimeout .. =>
    [.now, .od, .reg, .cfg, .host, .g, .plat, .flt, .mig, .coh, .drill, .plots, .hbm, .fc, .fab, .pwr]
  | .sensorFailed .. =>
    [.free, .od, .reg, .cfg, .host, .g, .plat, .flt, .mig, .coh, .drill, .plots, .hbm, .fc, .fab, .pwr]
  | .configRequest .. =>
    [.od, .reg, .cfg, .link, .host, .g, .plat, .flt, .mig, .coh, .drill, .plots, .hbm, .fc, .fab, .pwr]
  | .rackrefRestored .. =>
    [.od, .reg, .cfg, .host, .g, .plat, .flt, .mig, .coh, .drill, .plots, .hbm, .fc, .fab, .time, .pwr]
  | .seedProgram .. =>
    [.now, .od, .reg, .cfg, .host, .g, .plat, .flt, .mig, .coh, .drill, .plots, .hbm, .fc, .pwr, .seed]
  | .coulterIssue .. | .pressWrite .. =>
    [.od, .reg, .cfg, .host, .g, .plat, .flt, .mig, .coh, .drill, .plots, .hbm, .fc, .fab, .pwr, .seed]
  | .invalidationComplete .. | .reapComplete .. =>
    [.od, .reg, .cfg, .host, .g, .plat, .flt, .mig, .coh, .drill, .plots, .hbm, .fc, .pwr, .seed, .rot]
  | .fwActivate .. =>
    [.free, .od, .reg, .fc, .dict, .hop, .mir, .fw, .fab, .slice, .pwr, .cal, .hl, .seed, .rot, .stw]
  | .sliceJoin .. | .sliceRelease .. =>
    [.od, .reg, .cfg, .host, .g, .plat, .flt, .mig, .coh, .drill, .plots, .hbm, .fc, .fab, .time, .slice, .pwr]
  | .thermThrottle .. | .thermAlarm .. =>
    [.free, .od, .reg, .cfg, .host, .g, .plat, .flt, .mig, .coh, .drill, .plots, .hbm, .fc, .fab, .pwr, .seed]
  | .mgrCmdForm .. =>
    [.od, .reg, .cfg, .host, .g, .plat, .flt, .mig, .coh, .drill, .plots, .hbm, .fc, .fab, .time, .slice, .mgr, .pwr]
  | .thermCapStep .. =>
    [.now, .free, .od, .reg, .cfg, .host, .g, .plat, .flt, .mig, .coh, .drill, .plots, .hbm, .fc, .fab, .pwr, .seed]
  | .ftlReplay .. =>
    [.now, .od, .reg, .cfg, .host, .g, .plat, .flt, .mig, .coh, .drill, .plots, .hbm, .fc, .fab, .slice, .pwr, .seed,
     .rot]
  | .haltMessage .. =>
    [.od, .reg, .cfg, .host, .g, .plat, .flt, .mig, .coh, .drill, .plots, .hbm, .fc, .fab, .time, .slice, .pwr, .seed,
     .rot]
  | .persistDefaults .. =>
    [.od, .reg, .cfg, .host, .g, .plat, .flt, .mig, .coh, .drill, .plots, .hbm, .fc, .dict, .fab, .time, .pwr, .seed,
     .stw]
  | .tramReset .. | .freeze .. | .ident .. | .portDown .. | .joinAck .. | .faultReport .. | .memberReset .. |
  .powerLoss .. | .mgrCmdDissolve .. | .railSample .. | .fcReactJobHalt .. | .fcReactPlotFence .. | .fcReactDieReset ..
  | .fcReactFreeze .. | .fcReactPackageFence .. | .stickyClear .. | .forceEvent .. | .forceLevel .. =>
    [.od, .reg, .cfg, .host, .g, .plat, .flt, .mig, .coh, .drill, .plots, .hbm, .fc, .fab, .time, .slice, .mgr, .pwr,
     .seed, .rot]
  | .heartbeatMissed .. | .formationTimeout .. | .fatalUnspec .. =>
    [.now, .od, .reg, .cfg, .host, .g, .plat, .flt, .mig, .coh, .drill, .plots, .hbm, .fc, .fab, .time, .slice, .mgr,
     .pwr, .seed, .rot]
  | .sliceRestart .. | .faultEvent .. =>
    [.free, .od, .reg, .cfg, .host, .g, .plat, .flt, .mig, .coh, .drill, .plots, .hbm, .fc, .fab, .time, .slice, .mgr,
     .pwr, .seed, .rot]
  | .mgmtRequest .. =>
    [.od, .reg, .cfg, .host, .g, .plat, .flt, .mig, .coh, .drill, .plots, .hbm, .fc, .dict, .fab, .time, .slice, .mgr,
     .pwr, .seed, .rot]
  | .perstAssert .. | .hotReset .. | .dlDown .. | .flrComplete .. =>
    [.od, .reg, .cfg, .latch, .link, .host, .g, .plat, .flt, .mig, .coh, .drill, .plots, .hbm, .fc, .fab, .time, .slice,
     .mgr, .pwr, .seed, .rot]
  | .apertureWrite .. | .registerWrite .. =>
    [.free, .od, .reg, .cfg, .link, .host, .g, .plat, .flt, .mig, .coh, .drill, .plots, .hbm, .fc, .dict, .mir, .fab,
     .time, .slice, .mgr, .pwr, .seed, .rot]
  | .thermTrip .. =>
    [.free, .od, .reg, .cfg, .latch, .link, .host, .g, .plat, .flt, .mig, .coh, .drill, .plots, .hbm, .fc, .fab, .time,
     .slice, .mgr, .pwr, .hl, .seed, .rot]
  | .brownout .. | .inputOv .. | .moduleResetAssert .. =>
    [.free, .od, .reg, .cfg, .latch, .link, .host, .g, .plat, .flt, .mig, .coh, .drill, .plots, .hbm, .fc, .fw, .fab,
     .time, .slice, .mgr, .pwr, .cal, .hl, .seed]
  | .fallowEntryComplete .. | .plotWakeComplete .. | .resetComplete .. | .d3hotExit .. | .unsupportedRequest .. |
  .bisnpResponse .. =>
    [.free, .od, .reg, .cfg, .latch, .link, .host, .g, .plat, .flt, .mig, .coh, .drill, .plots, .hbm, .fc, .dict, .mir,
     .fab, .time, .slice, .mgr, .pwr, .seed, .rot]
  | .hbmTrainingDone .. | .windowRequestLate .. =>
    [.now, .free, .od, .reg, .cfg, .latch, .link, .host, .g, .plat, .flt, .mig, .coh, .drill, .plots, .hbm, .fc, .dict,
     .mir, .fab, .time, .slice, .mgr, .pwr, .seed, .rot]
  | .bootRomTimeout .. | .romRecovery .. =>
    [.free, .od, .reg, .cfg, .latch, .link, .host, .g, .plat, .flt, .mig, .coh, .drill, .plots, .hbm, .fc, .hop, .fw,
     .fab, .time, .slice, .mgr, .pwr, .hl, .seed, .rot]
  | .bootImageSelect .. =>
    [.free, .od, .reg, .cfg, .latch, .link, .host, .g, .plat, .flt, .mig, .coh, .drill, .plots, .hbm, .fc, .dict, .hop,
     .fw, .fab, .time, .slice, .mgr, .pwr, .hl, .seed, .rot]
  | .fallowWakeComplete .. =>
    [.now, .free, .od, .reg, .cfg, .latch, .link, .host, .g, .plat, .flt, .mig, .coh, .drill, .plots, .hbm, .fc, .dict,
     .mir, .fab, .time, .slice, .mgr, .pwr, .seed, .rot, .stw]
  | .hello .. | .odRead .. | .odWrite .. | .readBlock .. | .writeBlock .. | .describe .. | .txnOpen .. | .txnCheck .. |
  .txnApply .. | .txnDrop .. | .notifyAck .. | .sessionReset .. =>
    [.free, .od, .reg, .cfg, .host, .g, .plat, .flt, .mig, .coh, .drill, .plots, .hbm, .fc, .dict, .hop, .mir, .fw, .fab,
     .time, .slice, .mgr, .pwr, .cal, .hl, .seed, .rot, .stw]
  | .moduleResetDeassert .. =>
    [.free, .od, .reg, .cfg, .latch, .link, .host, .g, .plat, .flt, .mig, .coh, .drill, .plots, .hbm, .fc, .dict, .hop,
     .mir, .fw, .fab, .time, .slice, .mgr, .pwr, .cal, .hl, .seed, .rot, .stw]
  | .powerOn .. =>
    [.now, .free, .od, .reg, .cfg, .latch, .link, .host, .g, .plat, .flt, .mig, .coh, .drill, .plots, .hbm, .fc, .dict,
     .hop, .mir, .fw, .fab, .time, .slice, .mgr, .pwr, .cal, .hl, .seed, .rot, .stw]

/-- Every part of the state but those listed is as it was, no waiting command came or went, and time has not run back. -/
def State.SameBut (ps : List Part) (s t : State) : Prop :=
  (.now ∈ ps ∨ t.now = s.now) ∧
  (.free ∈ ps ∨ t.free = s.free) ∧
  (.od ∈ ps ∨ t.od = s.od) ∧
  (.reg ∈ ps ∨ t.reg = s.reg) ∧
  (.cfg ∈ ps ∨ t.cfg = s.cfg) ∧
  (.latch ∈ ps ∨ t.latch = s.latch) ∧
  (.link ∈ ps ∨ t.link = s.link) ∧
  (.host ∈ ps ∨ t.host = s.host) ∧
  (.g ∈ ps ∨ t.g = s.g) ∧
  (.plat ∈ ps ∨ t.plat = s.plat) ∧
  (.flt ∈ ps ∨ t.flt = s.flt) ∧
  (.mig ∈ ps ∨ t.mig = s.mig) ∧
  (.coh ∈ ps ∨ t.coh = s.coh) ∧
  (.drill ∈ ps ∨ t.drill = s.drill) ∧
  (.plots ∈ ps ∨ t.plots = s.plots) ∧
  (.hbm ∈ ps ∨ t.hbm = s.hbm) ∧
  (.fc ∈ ps ∨ t.fc = s.fc) ∧
  (.dict ∈ ps ∨ t.dict = s.dict) ∧
  (.hop ∈ ps ∨ t.hop = s.hop) ∧
  (.mir ∈ ps ∨ t.mir = s.mir) ∧
  (.fw ∈ ps ∨ t.fw = s.fw) ∧
  (.fab ∈ ps ∨ t.fab = s.fab) ∧
  (.time ∈ ps ∨ t.time = s.time) ∧
  (.slice ∈ ps ∨ t.slice = s.slice) ∧
  (.mgr ∈ ps ∨ t.mgr = s.mgr) ∧
  (.pwr ∈ ps ∨ t.pwr = s.pwr) ∧
  (.cal ∈ ps ∨ t.cal = s.cal) ∧
  (.hl ∈ ps ∨ t.hl = s.hl) ∧
  (.seed ∈ ps ∨ t.seed = s.seed) ∧
  (.rot ∈ ps ∨ t.rot = s.rot) ∧
  (.stw ∈ ps ∨ t.stw = s.stw) ∧
  t.pending = s.pending ∧ s.now ≤ t.now

/-- A completion of 8 bytes or fewer that answers request r with the bytes d. -/
def cplOf (r : MemReq) (d : List Byte) : Tlp := { kind := .cplData, tag := r.tag, addr := r.off, data := d }

end Sys2Proof.Machine
end

