-- ==== Sys2Proof/Certificates/Slice0/Obligations.lean ====
section
/-! DEFINITION. The statements for the provers. -/

open Sys2Proof Sys2Proof.Machine

/-- FURROW_ENABLE of a DISABLED furrow whose context passes the checks of R364 enables it, with HEAD, TAIL and SEQ at 0; ENABLE is 1 then and PRIO
as it was. FURROW_DISABLE of an ENABLED furrow without descriptors begins the disabling and leaves HEAD; FURROW_DISABLED of one without
descriptors whose ring reads, records and stamps have left ends it. DRAIN of an ENABLED furrow notes the tail to drain to, and
DRAIN_COMPLETE disables a furrow without descriptors whose HEAD is that tail. RESUME of a furrow in ERROR enables it with HEAD and TAIL as
they were. PRIO sets the priority and keeps ENABLE. None of them changes HBM. -/
def Obligations.FurrowStatesComplete : Prop :=
  (∀ (s : State) (n : Fin 4096), s.Inv → (s.fur n).state = .disabled → s.enableCheck n = 0 →
    Completes (.furrowEnable n) s fun t =>
      (t.fur n).state = .enabled ∧ (t.fur n).head = 0 ∧ (t.fur n).tail = 0 ∧ (t.fur n).seq = 0 ∧ bit (t.rg (Rg.fctx n 0x28)) 0 = true ∧
      t.prioOf n = s.prioOf n ∧ t.hbm = s.hbm) ∧
  (∀ (s : State) (n : Fin 4096), s.Inv → (s.fur n).state = .enabled → s.slotsOf n = [] → s.stagedOf n = [] → s.Settled →
    Completes (.furrowDisable n) s fun t =>
      (t.fur n).state = .disabling ∧ (t.fur n).head = (s.fur n).head ∧ bit (t.rg (Rg.fctx n 0x28)) 0 = false ∧ t.hbm = s.hbm) ∧
  (∀ (s : State) (n : Fin 4096), s.Inv → (s.fur n).state = .disabling → s.slotsOf n = [] → s.stagedOf n = [] → s.furrowBusy n = false →
    Completes (.furrowDisabled n) s fun t =>
      (t.fur n).state = .disabled ∧ t.reg = s.reg ∧ t.hbm = s.hbm) ∧
  (∀ (s : State) (n : Fin 4096), s.Inv → (s.fur n).state = .enabled →
    Completes (.drain n) s fun t =>
      (t.fur n).state = .draining ∧ (t.fur n).drainTail = (s.fur n).tail ∧ t.reg = s.reg ∧ t.hbm = s.hbm) ∧
  (∀ (s : State) (n : Fin 4096), s.Inv → (s.fur n).state = .draining → (s.fur n).head = (s.fur n).drainTail → s.slotsOf n = [] → s.stagedOf n = [] →
    Completes (.drainComplete n) s fun t =>
      (t.fur n).state = .disabled ∧ t.reg = s.reg ∧ t.hbm = s.hbm) ∧
  (∀ (s : State) (n : Fin 4096), s.Inv → (s.fur n).state = .error →
    Completes (.resume n) s fun t =>
      (t.fur n).state = .enabled ∧ (t.fur n).head = (s.fur n).head ∧ (t.fur n).tail = (s.fur n).tail ∧ t.reg = s.reg ∧ t.hbm = s.hbm) ∧
  (∀ (s : State) (n : Fin 4096) (p : Fin 8), s.Inv →
    Completes (.prio n p) s fun t =>
      t.prioOf n = p ∧ bit (t.rg (Rg.fctx n 0x28)) 0 = bit (s.rg (Rg.fctx n 0x28)) 0 ∧ t.g = s.g ∧ t.hbm = s.hbm)

/-- A write of context register 0 to 4 of a DISABLED furrow with no reserved encoding is stored field by field. DB_TAIL of an ENABLED furrow with an
index ahead of TAIL, or TAIL itself, that the ring has room for moves TAIL there, is counted, and leaves HEAD and HBM. DB_INLINE with 64
bytes to an ENABLED furrow with room for it and with published entries still to be consumed stages the descriptor behind them. -/
def Obligations.FurrowContextsAndDoorbellsComplete : Prop :=
  (∀ (s : State) (n : Fin 4096) (v : Word) (rid : Half), s.Inv → (s.fur n).state = .disabled → log2Ok (fld v.toNat 4 0) = true →
    Completes (.fctxWrite n 0 v rid) s fun t =>
      t.ringLog2 n = fld v.toNat 4 0 ∧ t.ringBase n = v.toNat / 4096 * 4096 ∧ t.g = s.g ∧ t.od = s.od ∧ t.hbm = s.hbm) ∧
  (∀ (s : State) (n : Fin 4096) (v : Word) (rid : Half), s.Inv → (s.fur n).state = .disabled →
    Completes (.fctxWrite n 1 v rid) s fun t =>
      t.furPasid n = fld v.toNat 19 0 ∧ t.furPriv n = bit v.toNat 20 ∧ t.furBypass n = bit v.toNat 21 ∧ t.furErrCont n = bit v.toNat 22 ∧ t.g = s.g ∧
      t.od = s.od) ∧
  (∀ (s : State) (n : Fin 4096) (v : Word) (rid : Half), s.Inv → (s.fur n).state = .disabled → 1 ≤ fld v.toNat 12 0 → fld v.toNat 12 0 ≤ 4096 →
      fld v.toNat 28 16 ≤ 4096 → fld v.toNat 38 32 ≤ 64 →
    Completes (.fctxWrite n 2 v rid) s fun t =>
      t.storeMax n = fld v.toNat 12 0 ∧ t.storeMin n = fld v.toNat 28 16 ∧ t.inlineLimit n = fld v.toNat 38 32 ∧ t.g = s.g ∧ t.od = s.od) ∧
  (∀ (s : State) (n : Fin 4096) (v : Word) (rid : Half), s.Inv → (s.fur n).state = .disabled → log2Ok (fld v.toNat 4 0) = true →
    Completes (.fctxWrite n 3 v rid) s fun t =>
      t.recordLog2 n = fld v.toNat 4 0 ∧ t.recordBase n = v.toNat / 4096 * 4096 ∧ t.g = s.g ∧ t.od = s.od) ∧
  (∀ (s : State) (n : Fin 4096) (v : Word) (rid : Half), s.Inv → (s.fur n).state = .disabled →
    Completes (.fctxWrite n 4 v rid) s fun t =>
      t.shadowEn n = bit v.toNat 0 ∧ t.shadowAddr n = v.toNat / 8 * 8 ∧ t.g = s.g ∧ t.od = s.od) ∧
  (∀ (s : State) (n : Fin 4096) (v : Word32) (rid : Half), s.Inv → s.ServesHost → (s.fur n).state = .enabled →
      (v.toNat + 2 ^ 32 - (s.fur n).head) % 2 ^ 32 ≤ 2 ^ s.ringLog2 n → (s.fur n).tail < 2 ^ 32 → (s.fur n).tail = v.toNat ∨
      ((s.fur n).tail + 2 ^ 32 - (s.fur n).head) % 2 ^ 32 < (v.toNat + 2 ^ 32 - (s.fur n).head) % 2 ^ 32 →
    Completes (.dbTail n v rid) s fun t =>
      (t.fur n).tail = v.toNat ∧ (t.fur n).head = (s.fur n).head ∧ s.Counts t O.doorbells ∧ t.hbm = s.hbm) ∧
  (∀ (s : State) (n : Fin 4096) (d : List Byte) (rid : Half), s.Inv → s.ServesHost → (s.fur n).state = .enabled → d.length = 64 → s.stagedOf n = [] →
      (s.fur n).early = [] → 0 < s.inlineLimit n → (s.fur n).tail ≠ (s.fur n).head →
    Completes (.dbInline n d rid) s fun t =>
      t.g.staging = s.g.staging ++ [{ furrow := n, after := (s.fur n).tail, d := parseDesc d }] ∧ t.g.store = s.g.store ∧ t.hbm = s.hbm)

/-- RING_FETCH, with one furrow that has entries to fetch and none to read again, a fetcher tag and Hopper space free, reads its next entries and
counts them in flight. RING_ENTRIES_RECEIVED of the read at HEAD of an ENABLED furrow with room for its entries and nothing else to accept
consumes them: HEAD and SEQ advance by their number, which is counted. RING_FAULT of the read at HEAD puts the furrow in ERROR with
RING_READ and raises FURROW_RING and the attention cause. HEAD_WRITEBACK of an enabled shadow posts HEAD and TAIL to its address.
DESCRIPTOR_SOWN of a lone NOP without a wait, signal, stamp and record makes it SOWN. START_POINT_REACHED of a SOWN descriptor without a wait
notes the time it stands ready; that of a lone one with a permitted wait that is not met makes it WAITING and places the wait. -/
def Obligations.FurrowFetchAndStartComplete : Prop :=
  (∀ (s : State) (n : Fin 4096) (g : Nat), s.furrowsOn.filter (fun m => decide (0 < s.fetchSize m)) = [n.val] → s.fetcherTags < s.fetchTags.2 →
      s.hopperFree (64 * s.fetchSize n) = true → s.mayRequest = true → s.tagRoom false = true → s.freeTag = some g → (s.fur n).gaps = [] →
    Completes (.ringFetch) s fun t =>
      (t.fur n).fetching = (s.fur n).fetching + s.fetchSize n ∧ (t.fur n).head = (s.fur n).head ∧ t.g.lastFetch = n ∧ (∃ u ∈ t.host.tags, u.tag = g ∧
      u.owner = .furrowRing n (((s.fur n).head + (s.fur n).fetching) % 2 ^ 32) (s.fetchSize n))) ∧
  (∀ (s : State) (g : Nat) (d : List Byte) (n : Fin 4096) (k : Nat) (u : TagUse), s.Inv → s.tagUse g = some u →
      u.owner = .furrowRing n (s.fur n).head k → u.quar = .no → (s.fur n).state = .enabled → (s.fur n).early = [] → s.stagedOf n = [] → 1 ≤ k →
      s.host.frozen = false → k ≤ s.slotRoom n false →
    Completes (.ringEntriesReceived g d) s fun t =>
      (t.fur n).head = ((s.fur n).head + k) % 2 ^ 32 ∧ (t.fur n).seq = ((s.fur n).seq + k) % 2 ^ 32 ∧ (t.fur n).tail = (s.fur n).tail ∧
      t.val O.ringEntries = (s.val O.ringEntries + k) % 2 ^ 64) ∧
  (∀ (s : State) (g : Nat) (n : Fin 4096) (k : Nat) (u : TagUse), s.Inv → s.tagUse g = some u → u.owner = .furrowRing n (s.fur n).head k →
      u.quar = .no → (s.fur n).state = .enabled →
    Completes (.ringFault g) s fun t =>
      (t.fur n).state = .error ∧ (t.fur n).errCode = 0xD1 ∧ (t.fur n).head = (s.fur n).head ∧
      t.fc.ring = s.fc.ring ++ [{ source := Sc.furrowRing, cap := { masterKind := 2, master := n } }] ∧
      bit (t.rg Rg.attnCause) At.furrowError = true) ∧
  (∀ (s : State) (n : Fin 4096), s.Inv → s.WritesNow → (s.fur n).shadowDue = true → (s.fur n).shadowQueued = false → s.shadowEn n = true →
    Completes (.headWriteback n) s fun t =>
      (t.fur n).shadowDue = false ∧
      t.host.wire = s.host.wire ++ [{ kind := .memWrite, addr := s.shadowAddr n, data := natLe 4 (s.fur n).head ++ natLe 4 (s.fur n).tail, len := 8, owner := .shadow n }] ∧
      t.hbm = s.hbm) ∧
  (∀ (s : State) (n : Fin 4096) (x : Slot), s.g.store = [x] → x.furrow = n → x.state = .unsown → x.result = none → x.d.opcode = 0 →
      x.d.waitEn = false → x.d.signalEn = false → x.d.stampEn = false → x.d.recordEn = false → (s.fur n).state = .enabled →
    Completes (.descriptorSown n x.seq) s fun t =>
      (t.slot n x.seq).map (fun y => (y.state, y.result)) = some (.sown, none) ∧ t.hbm = s.hbm) ∧
  (∀ (s : State) (n : Fin 4096) (x : Slot), s.front n = some x → s.slot n x.seq = some x → s.mayStart n = true → x.state = .sown → x.result = none →
      x.d.waitEn = false → x.atStart = none →
    Completes (.startPointReached n) s fun t =>
      t.slot n x.seq = some { x with atStart := some s.now } ∧ t.reg = s.reg ∧ t.hbm = s.hbm) ∧
  (∀ (s : State) (n : Fin 4096) (x : Slot) (h : Nat), s.front n = some x → s.g.store = [x] → s.mayStart n = true → x.state = .sown → x.result = none →
      x.d.waitEn = true → x.wait = none → x.waitMet = false → armedStamp x.d = false → s.stakeOk (.furrow n) x.d.waitStake = true →
      s.freeHandle (.desc n x.seq) = some h → condMet (x.d.waitCond == 1) (s.stake x.d.waitStake) x.d.waitValue = false → s.Settled → s.g.waits = [] →

    Completes (.startPointReached n) s fun t =>
      (t.slot n x.seq).map (fun y => (y.state, y.wait)) = some (.waiting, some h) ∧ (∃ w ∈ t.g.waits, w.handle = h ∧ w.stake = x.d.waitStake ∧
      w.value = x.d.waitValue ∧ w.equal = (x.d.waitCond == 1) ∧ w.who = .desc n x.seq))

/-- Of a STARTED PROGRAM descriptor whose stamp and record addresses are translated: HALF_POINT, once every plot has executed MARK_HALF, marks the
half point, and DESCRIPTOR_COMPLETE, once every plot's program has ended, frees the slot. STAKE_SET and STAKE_ADD change the stake's value
and count the operation; a sum that wraps raises STAKE_WRAP, waits on other stakes and the store stay, and a lone wait that is met is
released and counted. STAKE_GROUP_WRITE stores a group with no reserved MODE. STAKE_DEADLINE_CHECK in hardware mode, with no wait of a
chain, leaves no wait past its deadline, and in host-assisted mode queues a lone late wait for the host. STAKE_WAIT_CANCEL of the lone
wait of a WAITING descriptor, with its generation, ends it and frees the descriptor's slot. -/
def Obligations.DescriptorsCompleteAndStakesComplete : Prop :=
  (∀ (s : State) (n : Fin 4096) (q : Nat) (x : Slot), s.slot n q = some x → x.state = .started → x.d.opcode = 2 →
      x.halfMask &&& x.d.plotMask = x.d.plotMask → x.halfDone = false → (x.d.stampEn = true → x.stampAt.isSome = true) → (x.d.recordEn = true →
      x.recordAt.isSome = true) → s.Settled → s.g.waits = [] →
    Completes (.halfPoint n q) s fun t =>
      (t.slot n q).map (fun y => y.halfDone) = some true) ∧
  (∀ (s : State) (n : Fin 4096) (q : Nat) (x : Slot), s.slot n q = some x → x.state = .started → x.d.opcode = 2 →
      x.endMask &&& x.d.plotMask = x.d.plotMask → (x.d.stampEn = true → x.stampAt.isSome = true) → (x.d.recordEn = true → x.recordAt.isSome = true) →
      s.Settled →
    Completes (.descriptorComplete n q) s fun t =>
      t.slot n q = none) ∧
  (∀ (s : State) (k : Fin 65536) (v : Word), s.Inv → s.ServesHost → s.Settled → (∀ w ∈ s.g.waits, w.stake ≠ k) →
    Completes (.stakeSet k v) s fun t =>
      t.stake k = v.toNat ∧ s.Counts t O.ops ∧ t.g.waits = s.g.waits ∧ t.g.store = s.g.store ∧ t.reg = s.reg ∧ t.hbm = s.hbm) ∧
  (∀ (s : State) (k : Fin 65536) (v : Word) (w : Wait) (n : Nat) (q : Nat), s.Inv → s.ServesHost → s.Settled → s.g.waits = [w] → w.stake = k →
      condMet w.equal v.toNat w.value = true → w.who = .desc n q →
    Completes (.stakeSet k v) s fun t =>
      t.stake k = v.toNat ∧ t.g.waits = [] ∧ (t.slot n q).map (fun y => y.waitMet) = (s.slot n q).map (fun _ => true) ∧ s.Counts t O.waitsMet) ∧
  (∀ (s : State) (k : Fin 65536) (v : Word), s.Inv → s.ServesHost → s.Settled → (∀ w ∈ s.g.waits, w.stake ≠ k) →
    Completes (.stakeAdd k v) s fun t =>
      t.stake k = (s.stake k + v.toNat) % 2 ^ 64 ∧ s.Counts t O.ops ∧ (2 ^ 64 ≤ s.stake k + v.toNat → s.Raises t Sc.stakeWrap) ∧
      t.g.waits = s.g.waits ∧ t.g.store = s.g.store ∧ t.hbm = s.hbm) ∧
  (∀ (s : State) (g : Fin 1024) (v : Word) (rid : Half), s.Inv → fld v.toNat 21 20 ≠ 3 →
    Completes (.stakeGroupWrite g v rid) s fun t =>
      t.rg (Rg.stakeGroup g) = v.toNat % 2 ^ 24 ∧ t.g = s.g ∧ t.hbm = s.hbm) ∧
  (∀ (s : State), s.val O.splitStakeTo = 0 → s.Settled → s.g.waits.all (fun w => match w.who with | .chain _ => false | _ => true) = true →
    Completes (.stakeDeadlineCheck) s fun t =>
      t.lateWaits = []) ∧
  (∀ (s : State) (w : Wait) (d : Nat), s.Inv → s.val O.splitStakeTo ≠ 0 → s.g.waits = [w] → w.deadline = some d → d ≤ s.now → w.queued = false →
      s.g.toQueue = [] →
    Completes (.stakeDeadlineCheck) s fun t =>
      t.g.toQueue = [w.handle] ∧ t.g.waits = [{ w with queued := true }] ∧ bit (t.rg Rg.attnCause) At.stakeTimeout = true ∧ s.Counts t O.timeouts) ∧
  (∀ (s : State) (h : Fin 16384) (gen : Half) (w : Wait) (n : Nat) (q : Nat), s.g.waits = [w] → w.handle = h → w.who = .desc n q →
      s.waits n q = true → kvGet 0 s.g.waitGen h = gen.toNat → s.Settled →
    Completes (.stakeWaitCancel h gen) s fun t =>
      t.g.waits = [] ∧ t.slot n q = none)

/-- PWR_REQUEST_WRITE of 1 in Tilled with no condition of R70 failing begins the entry to Fallow, stays 1 and reads status 'in progress'; with a
failing condition the module stays in Tilled and the status is 'refused' with the failing conditions' bits. FALLOW_WAKE_EVENT in Fallow, its
mask bit set and firmware running, begins the wake. FALLOW_MASKED_EVENT of a request stores it and stays in Fallow; of the wake timer, past
WAKE_AFTER, it notes that the timer's action is deferred. FALLOW_ENTRY_COMPLETE with no condition of R70 failing enters Fallow.
FALLOW_WAKE_COMPLETE with nothing deferred, nothing held and no entry requested brings Tilled with the fast clock on, 180 microseconds after
the wake began at the earliest. HOLD_BUFFER_TIMEOUT takes the oldest held request off, 1 ms after its arrival at the earliest, and counts
a Completer Abort. -/
def Obligations.PowerRequestsComplete : Prop :=
  -- the entry is accepted (R70)
  (∀ (s : State) (r : Route), s.Inv → s.served r 0x200002 = true → s.pwr.mode = .up → (s.setVal O.pwrRequest 1).fallowFails = 0 →
    Completes (.pwrRequestWrite r 1) s fun t =>
      t.pwr.mode = .entering ∧ t.val O.pwrRequest = 1 ∧ t.val O.pwrReqStatus = 3 * 2 ^ 14 ∧ t.reg = s.reg ∧ t.hbm = s.hbm) ∧
  -- the entry is refused (R70)
  (∀ (s : State) (r : Route), s.Inv → s.served r 0x200002 = true → s.pwr.mode = .up → (s.setVal O.pwrRequest 1).fallowFails ≠ 0 →
    Completes (.pwrRequestWrite r 1) s fun t =>
      t.pwr.mode = .up ∧ t.val O.pwrRequest = 1 ∧ t.val O.pwrReqStatus = 2 * 2 ^ 14 + (s.setVal O.pwrRequest 1).fallowFails ∧ t.reg = s.reg ∧
      t.hbm = s.hbm) ∧
  -- R71
  (∀ (s : State) (c : Fin 4), s.pwr.mode = .fallow → s.hl.running = true → bit (s.val O.fallowWakeMask) c = true →
    Completes (.fallowWakeEvent c) s fun t =>
      t.pwr.mode = .waking ∧ t.pwr.wakeAt = s.now ∧ t.od = s.od ∧ t.hbm = s.hbm) ∧
  -- R72
  (∀ (s : State) (v : Nat), s.Inv → s.pwr.mode = .fallow → bit (s.val O.fallowWakeMask) 1 = false → v ≤ 3 →
    Completes (.fallowMaskedEvent (.request v)) s fun t =>
      t.pwr.mode = .fallow ∧ t.val O.pwrRequest = v ∧ t.reg = s.reg ∧ t.hbm = s.hbm) ∧
  -- R72
  (∀ (s : State), s.pwr.mode = .fallow → bit (s.val O.fallowWakeMask) 3 = false → s.val O.wakeAfterS ≠ 0 →
      s.pwr.fallowAt + s.val O.wakeAfterS * 1000000000 ≤ s.now →
    Completes (.fallowMaskedEvent .timer) s fun t =>
      t.pwr.mode = .fallow ∧ t.pwr.deferredTimer = true ∧ t.od = s.od) ∧
  -- R70
  (∀ (s : State), s.Inv → s.pwr.mode = .entering → s.pwr.entryAbandoned = false → s.fallowFails = 0 →
    Completes (.fallowEntryComplete) s fun t =>
      t.pwr.mode = .fallow ∧ t.pwr.fallowAt = s.now ∧ t.val O.pwrReqStatus = 2 ^ 14 ∧ t.hl = s.hl) ∧
  -- R74
  (∀ (s : State), s.Inv → s.pwr.mode = .waking → s.pwr.deferredTimer = false → s.pwr.hold = [] → s.val O.pwrRequest < 2 →
    Completes (.fallowWakeComplete) s fun t =>
      t.pwr.mode = .up ∧ t.pwr.hfast = true ∧ t.now = max s.now (s.pwr.wakeAt + 180000) ∧ t.pwr.refusedFirst = none) ∧
  -- R109, R308
  (∀ (s : State) (h : Held) (l : List Held), s.Inv → s.pwr.mode ≠ .up → s.pwr.hold = h :: l → h.cxl = none →
    Completes (.holdBufferTimeout) s fun t =>
      t.pwr.hold = l ∧ t.now = max s.now (h.since + 1000000) ∧ s.Counts t O.caSent)

/-- VREG_FAULT of a domain that is on raises that domain's source. PLOT_WAKE_TRIGGER of a gated plot that is not held off queues its ramp and
changes no other plot. PLOT_RAMP_START in Tilled without SHED ramps the lowest plot that waits, 110 microseconds after the ramp before it at
the earliest. PLOT_WAKE_COMPLETE of a waking plot leaves it idle with empty tilth. PLOT_IDLE_GATE of an idle plot without work gates it with
empty tilth, PLOT_IDLE_TIMEOUT after it went idle at the earliest, and keeps its owner. PLOT_HOLD_WRITE stores the mask, and in Tilled every
gated plot that the mask names and that is not held off queues its ramp. -/
def Obligations.PlotPowerCompletes : Prop :=
  -- R68
  (∀ (s : State) (d : Fin 24), bit s.domainOn d = true →
    Completes (.vregFault d) s fun t =>
      s.Raises t (Sc.vreg d) ∧ t.od = s.od ∧ t.pwr = s.pwr) ∧
  -- R75
  (∀ (s : State) (p : Fin 16), s.Inv → s.pwr.mode = .up → (s.plot p).state = .gated → bit s.pwr.plotHeldOff p = false →
    Completes (.plotWakeTrigger p) s fun t =>
      t.plot p = { s.plot p with rampQueued := true } ∧ (∀ q : Fin 16, q ≠ p → t.plot q = s.plot q) ∧ t.od = s.od) ∧
  -- R77, R107
  (∀ (s : State) (n : Nat), s.Inv → s.pwr.shed = false → s.pwr.mode = .up →
      (List.range 16).find? (fun n => (s.plot n).rampQueued && !(s.plot n).ramping) = some n →
    Completes (.plotRampStart) s fun t =>
      (t.plot n).ramping = true ∧ (t.plot n).state = (if (s.plot n).state = .gated then .waking else (s.plot n).state) ∧ t.pwr.lastRamp = some t.now ∧
      t.now = (match s.pwr.lastRamp with | some l => max s.now (l + 110000) | none => s.now)) ∧
  -- R76
  (∀ (s : State) (p : Fin 16), s.Inv → (s.plot p).ramping = true → (s.plot p).resetting = false → (s.plot p).state = .waking →
      (s.plot p).busy = false → s.fab.waiting = [] → s.fab.owed = [] → s.pwr.hold = [] →
    Completes (.plotWakeComplete p) s fun t =>
      (t.plot p).state = .idle ∧ (t.plot p).ramping = false ∧ (t.plot p).tilth = [] ∧ (t.plot p).idleSince = s.now) ∧
  -- R78, R79
  (∀ (s : State) (p : Fin 16), s.Inv → (s.plot p).state = .idle → (s.plot p).busy = false → (s.plot p).slots = [] → s.val O.plotIdleTimeout ≠ 0 →
      bit (s.val O.plotHold) p = false →
    Completes (.plotIdleGate p) s fun t =>
      (t.plot p).state = .gated ∧ (t.plot p).tilth = [] ∧ (t.plot p).owner = (s.plot p).owner ∧
      t.now = max s.now ((s.plot p).idleSince + s.val O.plotIdleTimeout * 1000)) ∧
  -- R75
  (∀ (s : State) (r : Route) (m : Half), s.Inv → s.served r 0x200005 = true →
    Completes (.plotHoldWrite r m) s fun t =>
      t.val O.plotHold = m.toNat ∧ (s.pwr.mode = .up → ∀ p : Fin 16, bit m.toNat p = true → (s.plot p).state = .gated →
      bit s.pwr.plotHeldOff p = false → (t.plot p).rampQueued = true))

/-- RACKREF_LOST with a valid reference moves Tick to the fallback and counts the switch, takes aligned time into holdover, and raises
TICK_REF_LOST, and PLL_HOLDOVER where a PLL is on. RACKREF_RESTORED returns Tick to the reference with no PLL in holdover.
TICK_TRIM_UPDATE stores the measured trim with origin SELF. RACKREF_ABSENT where no reference was ever seen is raised. HFAST_IDLE_STOP with no
work stops the fast clock, HFAST_IDLE after the last work at the earliest. HFAST_START starts it. -/
def Obligations.ClocksComplete : Prop :=
  -- R81, R84
  (∀ (s : State), s.Inv → s.pwr.refValid = true →
    Completes (.rackrefLost) s fun t =>
      t.pwr.refValid = false ∧ t.pwr.tickRef = false ∧ s.Counts t O.tickSwitchCount ∧ (s.time.state = .aligned → t.time.state = .holdover) ∧
      ({ source := Sc.tickRefLost } : Event) ∈ t.fc.ring ∧ (s.pllOn = true → ({ source := Sc.pllHoldover } : Event) ∈ t.fc.ring)) ∧
  -- R81, R84
  (∀ (s : State), s.pwr.refValid = false → s.pwr.aon = true →
    Completes (.rackrefRestored) s fun t =>
      t.pwr.refValid = true ∧ t.pwr.refEver = true ∧ t.pwr.refSince = s.now ∧ t.pwr.tickRef = true ∧ t.pwr.holdover = 0) ∧
  -- R82
  (∀ (s : State) (v : Word32), s.Inv → s.pwr.refValid = true → s.hl.running = true →
    Completes (.tickTrimUpdate v) s fun t =>
      t.val (calOrigin 0x2840) = 2 ∧ t.val (calValue 0x2840) = v.toNat ∧ t.pwr = s.pwr ∧ t.reg = s.reg) ∧
  -- R85
  (∀ (s : State), s.pwr.refEver = false → s.pwr.aon = true →
    Completes (.rackrefAbsent) s fun t =>
      s.Raises t Sc.rackrefAbsent ∧ t.od = s.od ∧ t.pwr = s.pwr) ∧
  -- R86
  (∀ (s : State), s.pwr.hfast = true → s.hl.running = true → s.hasWork = false →
    Completes (.hfastIdleStop) s fun t =>
      t.pwr.hfast = false ∧ t.now = max s.now (s.pwr.hfastAt + s.val O.hfastIdle * 1000) ∧ bit t.pwr.holdover 3 = false ∧ t.od = s.od) ∧
  -- R86
  (∀ (s : State), s.pwr.aon = true →
    Completes (.hfastStart) s fun t =>
      t.pwr.hfast = true ∧ t.pwr.hfastAt = s.now ∧ t.od = s.od ∧ t.reg = s.reg)

/-- POWER_SUMMATION while the Headland runs takes the sample into the ten sums, PKG_POWER as their mean and the energy remainder, sets VIN, IIN
and PIN, keeps the lowest VIN and the highest IIN, and ends the peak limit where the power is at most 2,500 W; where the host does not hold
the cap and the average stands above the effective cap, the loop's level is at least 1. PEAK_LIMIT sets the peak limit to at least 1, counts it
and raises PEAK_LIMIT. HEADLAND_SILENT holds level 16, 50 ms after the last answer at the earliest, and raises its source in Tilled or leaves
it due in Fallow. SHED_ASSERT holds level 16, is counted, and raises SHED_ACTIVE and the POWER cause. SHED_DEASSERT ends SHED: its level stays
16 where a release ramp is set and no other limit holds 16, else it ends. SHED_RELEASE_STEP lowers the level by one, and ends the ramp
where another limit holds as much.
With the reading that the command brings: THERM_THROTTLE of a sensor at its threshold, no optical one, raises THERM_THROTTLE and marks the
sensor hot; a SEED sensor pauses the NAND, a sensor of a stack doubles its refresh, and a sensor of R94's capping classes starts the cap steps.
THERM_CAP_STEP sets the thermal cap 100 W below the effective cap, at least 600 W, while a capping sensor is still hot, and else raises it by
100 W up to 2,500 W. THERM_ALARM of a sensor at the alarm threshold raises THERM_ALARM and the POWER cause. THERM_TRIP of a sensor of the
package at its trip threshold latches, keeps the class and AON, takes the rest off with HBM and plots, and raises THERM_TRIP; of an optical
engine it turns that engine off and trips nothing else. SENSOR_FAILED of a sensor whose part keeps another valid one sets its bit, raises
SENSOR_FAILED and changes no plot. -/
def Obligations.EnvelopeAndThermalComplete : Prop :=
  -- R60, R87, R90
  (∀ (s : State) (vin iin p avg : Nat) (l : Fin 17), s.Inv → s.pwr.aon = true → s.hl.running = true →
    Completes (.powerSummation vin iin p avg l) s fun t =>
      t.pwr.energyFrac = (s.pwr.energyFrac + p) % 100000 ∧ t.pwr.sums = (p :: s.pwr.sums).take 10 ∧ t.val O.vin = vin ∧ t.val O.iin = iin ∧
      t.val O.pin = vin * iin / 1000 ∧ t.val O.pkgPower = ((p :: s.pwr.sums).take 10).foldl (· + ·) 0 / ((p :: s.pwr.sums).take 10).length ∧
      (s.val O.splitCap ≠ 1 → s.pwr.orphan = false → s.effCap * 1000 < avg → 1 ≤ t.pwr.capLevel) ∧ t.val O.vinMin = min vin (s.val O.vinMin) ∧
      t.val O.iinMax = max iin (s.val O.iinMax) ∧ (p ≤ 2500000 → t.pwr.peakLevel = 0) ∧ t.pwr.capHost = (s.val O.splitCap == 1)) ∧
  -- R87
  (∀ (s : State) (d : Bool) (l : Fin 17), s.Inv → s.pwr.aon = true →
    Completes (.peakLimit d l) s fun t =>
      t.pwr.peakLevel = max 1 l.val ∧ t.pwr.peakDuration = d ∧ s.Counts t O.peakEvents ∧ s.Raises t Sc.peakLimit ∧ max 1 l.val ≤ t.throttle) ∧
  -- R60, R109
  (∀ (s : State), s.Inv → s.pwr.orphan = false → s.pwr.aon = true →
    Completes (.headlandSilent) s fun t =>
      t.pwr.orphan = true ∧ 16 ≤ t.throttle ∧ t.now = max s.now (s.hl.silentSince + 50000001) ∧ (s.pwr.mode = .up → s.Raises t Sc.headlandSilent) ∧
      (s.pwr.mode = .fallow → t.pwr.silentDue = true)) ∧
  -- R91
  (∀ (s : State), s.Inv → s.pwr.shed = false → s.pwr.aon = true →
    Completes (.shedAssert) s fun t =>
      t.pwr.shed = true ∧ 16 ≤ t.throttle ∧ s.Counts t O.shedCount ∧ s.Counts t O.signalChanges ∧ s.Raises t Sc.shedActive ∧
      bit (t.rg Rg.attnCause) At.power = true) ∧
  -- R91
  (∀ (s : State), s.Inv → s.pwr.shed = true →
    Completes (.shedDeassert) s fun t =>
      t.pwr.shed = false ∧ bit (t.rg Rg.attnCause) At.power = true ∧ t.pwr.shedLevel = (if s.val O.shedReleaseRamp ≠ 0 ∧
      s.otherLevel < 16 then 16 else 0) ∧ s.Counts t O.signalChanges) ∧
  -- R91
  (∀ (s : State), s.Inv → s.pwr.shed = false → s.pwr.shedLevel ≠ 0 →
    Completes (.shedReleaseStep) s fun t =>
      t.pwr.shed = false ∧ t.pwr.shedLevel = (if s.pwr.shedLevel - 1 ≤ s.otherLevel then 0 else s.pwr.shedLevel - 1) ∧ t.od = s.od) ∧
  -- R94
  (∀ (s : State) (n : Fin 90) (v : Int), s.Inv → s.pwr.aon = true → s.thrAt (thermClass n) ≤ (s.sense [(n.val, v)]).reading n → thermClass n ≠ 4 →
    Completes (.thermThrottle n v) s fun t =>
      (s.sense [(n.val, v)]).Raises t Sc.thermThrottle ∧ t.pwr.hot = setBit s.pwr.hot n true ∧ (thermClass n = 3 → t.pwr.nandPause = true) ∧
      (thermClass n = 1 → t.pwr.refresh2x = setBit s.pwr.refresh2x (n.val - 74) true) ∧ (thermClass n ≤ 2 → t.pwr.capStepAt.isSome = true)) ∧
  -- R94
  (∀ (s : State) (l : List (Nat × Int)), s.Inv → s.pwr.aon = true →
    Completes (.thermCapStep l) s fun t =>
      t.pwr.thermCap = (if (List.range 90).any (fun n => (s.sense l).stillHot n && decide (thermClass n ≤ 2)) then max 600 ((s.sense l).effCap - 100) else min 2500 (s.pwr.thermCap + 100))) ∧
  -- R94
  (∀ (s : State) (n : Fin 90) (v : Int), s.Inv → s.pwr.aon = true → (s.sense [(n.val, v)]).alarmAt (thermClass n) ≤ (s.sense [(n.val, v)]).reading n →

    Completes (.thermAlarm n v) s fun t =>
      (s.sense [(n.val, v)]).Raises t Sc.thermAlarm ∧ bit (t.rg Rg.attnCause) At.power = true) ∧
  -- R93, R95
  (∀ (s : State) (n : Fin 90) (v : Int), s.Inv → s.pwr.aon = true → s.pwr.tripped = false → thermClass n ≤ 2 →
      (tripAt (thermClass n) : Int) ≤ (s.sense [(n.val, v)]).reading n →
    Completes (.thermTrip n v) s fun t =>
      t.pwr.tripped = true ∧ t.pwr.mode = .off ∧ t.pwr.aon = true ∧ t.pwr.tripClass = thermClass n ∧ t.hbm = [] ∧ t.plots = [] ∧
      { source := Sc.thermTrip } ∈ t.fc.ring) ∧
  -- R93: an optical engine trips alone
  (∀ (s : State) (n : Fin 90) (v : Int), s.pwr.aon = true → thermClass n = 4 → (tripAt 4 : Int) ≤ (s.sense [(n.val, v)]).reading n →
    Completes (.thermTrip n v) s fun t =>
      bit t.pwr.opticalOff (n.val - 88) = true ∧ t.pwr.tripped = s.pwr.tripped) ∧
  -- R96
  (∀ (s : State) (n : Fin 90), s.Inv → s.pwr.aon = true → s.sensorBad n = false → s.val O.sensorFailed < 2 ^ 90 →
      (thermPart n).any (fun m => decide (m ≠ n.val) && !s.sensorBad m) = true →
    Completes (.sensorFailed n) s fun t =>
      t.val O.sensorFailed = s.val O.sensorFailed + 2 ^ n.val ∧ s.Raises t Sc.sensorFailed ∧ t.plots = s.plots)

/-- CAL_UNLOCK with the key, no hold-off running, unlocks route F for 60 s; with a wrong key on route H it starts a hold-off of 10 s.
CAL_UNLOCK_EXPIRY of route F's unlock ends it, at its time at the earliest. CAL_COMMIT of an unlocked route with no commit running
starts one. CAL_COMMIT_DONE ends the commit: every item's origin and value in use is stored, the stored set is valid, and CAL_COMMITS counts.
STRAP_SAMPLE takes the first stable try whose parity is right and sets address, host mode and field node from it. STRAP_CHANGED of a pin that
is no general-purpose input sets its bit and raises STRAP_CHANGED. -/
def Obligations.CalibrationCompletes : Prop :=
  -- R98
  (∀ (s : State) (k : Word32), s.served .F 0x280101 = true → k.toNat = 0x5EEDCA1B → s.cal.hold = none →
    Completes (.calUnlock .F k) s fun t =>
      t.cal.unlockF = some (s.now + 60000000000) ∧ t.cal.unlockH = s.cal.unlockH ∧ t.od = s.od) ∧
  -- R98: the hold-off after a wrong key
  (∀ (s : State) (k : Word32), s.served .H 0x280101 = true → k.toNat ≠ 0x5EEDCA1B → k.toNat ≠ 0 → s.cal.hold = none →
    Completes (.calUnlock .H k) s fun t =>
      t.cal.unlockH = s.cal.unlockH ∧ t.cal.hold = some (s.now + 10000000000) ∧ t.od = s.od) ∧
  -- R98
  (∀ (s : State) (e : Nat), s.cal.unlockF = some e → s.cal.unlockH = none → s.cal.hold = none →
    Completes (.calUnlockExpiry) s fun t =>
      t.cal.unlockF = none ∧ t.now = max s.now e ∧ t.od = s.od) ∧
  -- R99
  (∀ (s : State) (r : Route), s.Inv → s.served r 0x280005 = true → s.unlocked r = true → s.cal.busy = none →
    Completes (.calCommit r 1) s fun t =>
      t.cal.busy = some s.now ∧ t.val O.calCommitStatus = 1 ∧ t.cal.stored = s.cal.stored) ∧
  -- R99, R113
  (∀ (s : State) (b : Nat), s.Inv → s.cal.busy = some b → s.cal.resetWaits = false →
    Completes (.calCommitDone) s fun t =>
      t.cal.busy = none ∧ t.cal.crcOk = true ∧ t.val O.calCommitStatus = 2 ∧ t.val O.calState = 0 ∧ s.Counts t O.calCommits ∧
      t.cal.stored = calItems.map (fun i => (i, s.val (calOrigin i), s.val (calValue i)))) ∧
  -- R144-R146
  (∀ (s : State) (tries : List (List Nat)) (v k : Nat), s.Inv → s.pwr.aon = true → s.pwr.modrst = false → s.val O.strapTries = 0 →
      firstStable 16 tries 1 = some (v, k) → parityOk v = true →
    Completes (.strapSample tries) s fun t =>
      t.val O.strapSampled = v ∧ t.val O.strapTries = k ∧ t.val O.strapStatus = 0 ∧ t.val O.pkgAddrValid = 1 ∧
      t.val O.pkgAddr = fld v 11 6 * 64 + fld v 5 2 * 4 + fld v 1 0 ∧ t.val O.hostMode = 1 - fld v 13 13 ∧ t.val O.t1sNode = fld v 1 0 + 1) ∧
  -- R147
  (∀ (s : State) (n : Fin 15), s.Inv → s.pwr.aon = true → s.val O.strapTries ≠ 0 → bit (s.val O.gpEnable) n = false →
    Completes (.strapChanged n) s fun t =>
      t.val O.strapChanged = s.val O.strapChanged ||| 2 ^ n.val ∧ t.pwr.pins = setBit s.pwr.pins n (!bit s.pwr.pins n) ∧ s.Raises t Sc.strapChanged)

/-- POWER_ON of a module that is off, held by neither a trip nor MODRST#, starts it: start-up step 1, AON on, the inrush time stored, the start
cause named (a trip before a brown-out before power-on), the start 10 ms after an overvoltage at the earliest. BROWNOUT and INPUT_OV turn
the module off with AON; HBM, plots and the running firmware are lost. INPUT_DIP counts and changes no power state. MODULE_RESET_ASSERT turns
everything but AON off. MODULE_RESET_DEASSERT, with AON on and no trip, begins start-up step 1, counts the change of the signal, sets bit 1
of RESET_CAUSE, and names the module reset as the start cause unless a brown-out came before. -/
def Obligations.PowerCycleCompletes : Prop :=
  -- R63, R135, R161
  (∀ (s : State) (ms : Nat) (l : List (Nat × Int)), s.Inv → s.pwr.mode = .off → s.pwr.aon = false → s.pwr.modrst = false → s.pwr.tripped = false →
    Completes (.powerOn ms l) s fun t =>
      t.pwr.mode = .starting ∧ t.pwr.aon = true ∧ t.val O.startPhase = 1 ∧ t.val O.inrushMs = ms % 65536 ∧
      t.val O.lastStartCause = (if s.pwr.tripBefore then 2 else if s.pwr.brownBefore then 1 else 0) ∧
      t.pwr.startAt = (match s.pwr.ovHold with | some x => max s.now (x + 10000000) | none => s.now)) ∧
  -- R64
  (∀ (s : State), s.pwr.aon = true →
    Completes (.brownout) s fun t =>
      t.pwr.mode = .off ∧ t.pwr.aon = false ∧ t.pwr.brownBefore = true ∧ t.pwr.brownAt = some t.now ∧ t.hbm = [] ∧ t.plots = [] ∧
      t.hl.running = false ∧ t.link = {}) ∧
  -- R63
  (∀ (s : State), s.pwr.aon = true →
    Completes (.inputOv) s fun t =>
      t.pwr.mode = .off ∧ t.pwr.aon = false ∧ t.pwr.ovHold.isSome = true ∧ t.hbm = [] ∧ t.plots = [] ∧ t.hl.running = false) ∧
  -- R63
  (∀ (s : State), s.Inv → s.pwr.aon = true →
    Completes (.inputDip) s fun t =>
      s.Counts t O.dipCount ∧ t.pwr = s.pwr ∧ t.reg = s.reg ∧ t.hbm = s.hbm) ∧
  -- R121
  (∀ (s : State), s.pwr.modrst = false → s.pwr.aon = true →
    Completes (.moduleResetAssert) s fun t =>
      t.pwr.mode = .off ∧ t.pwr.aon = true ∧ t.pwr.modrst = true ∧ t.hbm = [] ∧ t.plots = [] ∧ t.hl.running = false ∧ t.link = {}) ∧
  -- R121, R161
  (∀ (s : State) (l : List (Nat × Int)), s.Inv → s.pwr.modrst = true → s.pwr.aon = true → s.pwr.tripped = false → s.pwr.tripBefore = false →
    Completes (.moduleResetDeassert l) s fun t =>
      t.pwr.mode = .starting ∧ t.pwr.modrst = false ∧ t.val O.startPhase = 1 ∧ t.val O.lastStartCause = (if s.pwr.brownBefore then 1 else 3) ∧
      s.Counts t O.signalChanges ∧ bit (t.val O.resetCause) 1 = true)

/-- PERST_GLITCH counts and changes neither host interface nor link. PERST_ASSERT, HOT_RESET and DL_DOWN take the link down, drop the queue and
the outstanding requests and return the function to D0. PERST_DEASSERT releases the pin and leaves the link. INITIATE_FLR marks the function as
in FLR, discards what waited for the posted queue, deasserts the interrupt, leaves no tag in ordinary use, and counts. FLR_COMPLETE, with
nothing held, no ATS invalidation open and nothing waiting for a snoop, ends the FLR with the function in D0. RESET_COMPLETE of a Tramline die
ends that die's reset. HBM_SCRUB_ACRE of a pending acre that no snoop holds back zeroes the acre and no other byte, and it is pending no
longer. -/
def Obligations.HostResetCompletes : Prop :=
  -- R150
  (∀ (s : State), s.Inv → s.pwr.aon = true →
    Completes (.perstGlitch) s fun t =>
      s.Counts t O.perstGlitchCount ∧ t.pwr = s.pwr ∧ t.host = s.host ∧ t.link = s.link) ∧
  -- R119, R123
  (∀ (s : State), s.pwr.perst = false → s.pwr.aon = true →
    Completes (.perstAssert) s fun t =>
      t.host.tags = [] ∧ t.host.queue = [] ∧ t.host.power = .d0 ∧ t.link.up = false ∧ t.link.ltssm = .detect ∧ t.pwr.perst = true ∧
      t.fc.ringEnable = false) ∧
  -- R124
  (∀ (s : State), s.Inv → s.pwr.perst = true → s.pwr.aon = true →
    Completes (.perstDeassert) s fun t =>
      t.pwr.perst = false ∧ s.Counts t O.signalChanges ∧ t.link = s.link ∧ t.host = s.host) ∧
  -- R126
  (∀ (s : State) (d : Bool), s.glinkOn = true → s.pwr.perst = false →
    Completes (.hotReset d) s fun t =>
      t.link.ltssm = (if d then .disabled else .hotReset) ∧ t.link.up = false ∧ t.host.tags = [] ∧ t.host.queue = [] ∧ t.host.power = .d0) ∧
  -- R126, R318
  (∀ (s : State) (n : Nat), s.link.up = true →
    Completes (.dlDown n) s fun t =>
      t.link.up = false ∧ t.link.ltssm = .detect ∧ t.host.tags = [] ∧ t.host.queue = [] ∧ t.host.power = .d0 ∧ t.fc.ringEnable = false ∧
      t.fc.unacked = []) ∧
  -- R302
  (∀ (s : State), s.Inv → s.link.up = true → s.pwr.perst = false →
    Completes (.initiateFlr) s fun t =>
      t.host.inFlr = true ∧ t.host.attnAsserted = false ∧ t.host.blocked = [] ∧ (∀ u ∈ t.host.tags, u.quar ≠ .no) ∧ s.Counts t O.flrCount ∧
      t.hbm = s.hbm) ∧
  -- R305
  (∀ (s : State), s.host.inFlr = true → s.pwr.hold = [] → s.atsOpen = false → s.coh = {} →
    Completes (.flrComplete) s fun t =>
      t.host.inFlr = false ∧ t.host.power = .d0 ∧ t.host.attnAsserted = false ∧ t.latch = [] ∧ t.fc.ringEnable = false) ∧
  -- R120
  (∀ (s : State) (d : Fin 2), s.Inv → s.fab.dieReset.contains d.val = true →
    Completes (.resetComplete (.tram d)) s fun t =>
      t.fab.dieReset.contains d.val = false ∧ t.hbm = s.hbm) ∧
  -- R125
  (∀ (s : State) (k : Fin 6144) (a : Nat), s.Inv → s.scrubPending k = true → s.scrubHeld k = false →
    Completes (.hbmScrubAcre k) s fun t =>
      memByte t.hbm a = (if k * acreBytes ≤ a ∧ a < (k + 1) * acreBytes then memDefault else memByte s.hbm a) ∧ t.scrubPending k = false ∧
      t.od = s.od)

/-- BOOT_IMAGE_SELECT with no image pending and a good active image runs it. BOOT_ROM_TIMEOUT before the fourth in a row counts and leaves the
firmware stopped. ROM_RECOVERY enters ROM recovery: no firmware, no link, no HBM, no download, and FW_RECOVERY raised. TRIAL_IMAGE_CONFIRM
makes the image that runs on trial the active one, 30 s after its start at the earliest. HEADLAND_RESET, HL_WATCHDOG and HL_RESET_REQUEST with
its key stop the firmware and drop transactions, locks and route F's calibration unlock; HBM stays. -/
def Obligations.BootCompletes : Prop :=
  -- R140
  (∀ (s : State), s.pwr.aon = true → s.pwr.modrst = false → s.pwr.mode = .starting → s.hl.running = false → s.hl.bootState ≠ 3 →
      s.val O.strapTries = 0 → s.hl.boot.pending = none → s.hl.good s.hl.boot.active = true →
    Completes (.bootImageSelect) s fun t =>
      t.hl.running = true ∧ t.hl.image = s.hl.boot.active ∧ t.hl.bootState = 0 ∧ t.hl.since = s.now) ∧
  -- R158
  (∀ (s : State), s.pwr.aon = true → s.pwr.modrst = false → s.hl.running = false → s.hl.bootState ≠ 3 → s.hl.romFails < 3 →
    Completes (.bootRomTimeout) s fun t =>
      t.hl.romFails = s.hl.romFails + 1 ∧ t.hl.running = false ∧ t.od = s.od ∧ t.pwr = s.pwr) ∧
  -- R142
  (∀ (s : State), s.pwr.aon = true → s.pwr.modrst = false → s.hl.running = false → s.hl.bootState ≠ 3 →
    Completes (.romRecovery true) s fun t =>
      t.hl.bootState = 3 ∧ t.hl.running = false ∧ t.fw = {} ∧ t.link = {} ∧ t.hbm = [] ∧ { source := Sc.fwRecovery } ∈ t.fc.ring) ∧
  -- R141
  (∀ (s : State), s.hl.running = true → s.hl.bootState = 1 →
    Completes (.trialImageConfirm) s fun t =>
      t.hl.bootState = 0 ∧ t.now = max s.now (s.hl.since + 30000000000) ∧ t.hl.boot.active = s.hl.image ∧ t.hl.boot.pending = none) ∧
  -- R131
  (∀ (s : State) (ok : Bool), s.pwr.aon = true → s.pwr.modrst = false →
    Completes (.headlandReset ok) s fun t =>
      t.hl.running = false ∧ t.dict.txns = [] ∧ t.dict.locks = [] ∧ t.cal.unlockF = none ∧ t.cal.unlockH = none ∧ t.hop.kept = [] ∧
      t.hl.silentSince = s.now ∧ t.hbm = s.hbm) ∧
  -- R128
  (∀ (s : State) (ok : Bool), s.pwr.aon = true → s.pwr.modrst = false → s.hl.running = true →
    Completes (.hlWatchdog ok) s fun t =>
      t.hl.running = false ∧ t.dict.txns = [] ∧ t.dict.locks = [] ∧ t.cal.unlockF = none ∧ t.hop.kept = [] ∧ t.hbm = s.hbm) ∧
  -- R128
  (∀ (s : State) (r : Route) (ok : Bool), s.served r 0x188301 = true → s.cal.busy = none →
    Completes (.hlResetRequest r 0x4EAD0000 ok) s fun t =>
      t.hl.running = false ∧ t.dict.txns = [] ∧ t.dict.locks = [] ∧ t.cal.unlockF = none ∧ t.hbm = s.hbm)

/-- FTL_REPLAY ends the replay and stores its time. PLOT_FENCE fences a plot of its mask that is not fenced. PLOT_RESET in Tilled fences a plot
of its mask, empties its tilth and queues its ramp. TRAM_RESET in Tilled puts a die of its mask in reset. HBM_TRAINING_DONE in start-up with
power on and firmware running brings Tilled and start phase 5, 2.3 ms after the power at the earliest. D3HOT_EXIT with nothing held or
waiting returns the function to D0 and changes neither power state nor HBM. -/
def Obligations.PartResetsComplete : Prop :=
  -- R704
  (∀ (s : State) (us : Word32), s.Inv → s.hl.running = true → s.seed.state = .replaying → s.slice.joining = none →
    Completes (.ftlReplay us) s fun t =>
      t.val O.replayUs = us.toNat ∧ t.seed.state ≠ .replaying) ∧
  -- R132
  (∀ (s : State) (r : Route) (m : Half) (p : Fin 16), s.Inv → s.served r 0x188503 = true → bit m.toNat p = true → (s.plot p).state ≠ .fenced →
    Completes (.plotFence r m) s fun t =>
      (t.plot p).state = .fenced ∧ (t.plot p).mask = 0 ∧ (t.plot p).off = !(s.plot p).powered) ∧
  -- R133
  (∀ (s : State) (r : Route) (m : Half) (p : Fin 16), s.Inv → s.served r 0x188502 = true → s.pwr.mode = .up → bit m.toNat p = true →
      bit s.pwr.plotHeldOff p = false →
    Completes (.plotReset r m) s fun t =>
      (t.plot p).state = .fenced ∧ (t.plot p).resetting = true ∧ (t.plot p).rampQueued = true ∧ (t.plot p).tilth = []) ∧
  -- R134
  (∀ (s : State) (r : Route) (m : Byte) (d : Fin 2), s.Inv → s.served r 0x188504 = true → s.pwr.mode = .up → m.toNat < 4 → bit m.toNat d = true →
    Completes (.tramReset r m) s fun t =>
      t.fab.dieReset.contains d.val = true) ∧
  -- R135
  (∀ (s : State) (l : List (Nat × Nat)) (a : Nat), s.Inv → s.pwr.mode = .starting → s.pwr.powerAt = some a → s.val O.pwrRequest = 0 →
      s.hl.running = true → s.pwr.hold = [] →
    Completes (.hbmTrainingDone l) s fun t =>
      t.pwr.mode = .up ∧ t.val O.startPhase = 5 ∧ t.now = max s.now (a + 2300000)) ∧
  -- R262
  (∀ (s : State), s.Inv → s.host.power = .leaving false → s.pwr.hold = [] → s.coh.scrubbing = [] → s.coh.changing = [] → s.coh.stores = [] →
      s.coh.waiting = [] → s.fab.waiting = [] → s.fab.owed = [] →
    Completes (.d3hotExit) s fun t =>
      t.host.power = .d0 ∧ t.pwr = s.pwr ∧ t.hbm = s.hbm)

/-- On the host route, at the turn of a slot, outside a transaction, the slot becomes DONE. A READ of one entry is answered with the entry's
status and data; DESCRIBE of one entry with its description, and no dictionary value changes; READ_BLOCK with the status of the block read,
and no dictionary value changes; a WRITE of one entry, and a WRITE_BLOCK, that change neither the Headland's state nor the mirror, with the
status of the write: dictionary values and HBM, or manager and download, are as the write leaves them. SLOT_GO of a slot that is not PENDING, with
the mirror served and a body of 4 to 1,792 bytes, makes it PENDING with its operation, transaction and length and queues it last. -/
def Obligations.DictionaryReadsComplete : Prop :=
  -- READ (R197, R198)
  (∀ (s : State) (n : Nat) (e : WEntry), s.SlotTurn n 1 → (s.mslot n).txn = 0 → parseReads (s.slotBody n) = some [e] → mostBytes [e] ≤ 2048 →
    Completes (.odRead .mirror) s fun t =>
      (t.mslot n).state = 2 ∧ (t.mslot n).status = ((s.hlAnswers.noteOwner .H).odRead .H e.idx e.sub e.ty).2.1 ∧
      t.dict.answers = s.dict.answers ++ [withEntries .H 0 [{ idx := e.idx, sub := e.sub, ty := e.ty, status := ((s.hlAnswers.noteOwner .H).odRead .H e.idx e.sub e.ty).2.1, data := ((s.hlAnswers.noteOwner .H).odRead .H e.idx e.sub e.ty).2.2 }]] ∧
      t.mir.order = s.mir.order.tail) ∧
  -- DESCRIBE (R197)
  (∀ (s : State) (n : Nat) (e : WEntry), s.SlotTurn n 5 → (s.mslot n).txn = 0 → parseReads (s.slotBody n) = some [e] →
    Completes (.describe .mirror) s fun t =>
      (t.mslot n).state = 2 ∧
      t.dict.answers = s.dict.answers ++ [{ route := .H, txn := 0, status := firstBad [((s.hlAnswers.noteOwner .H).describeEntry .H e).status], descs := [(s.hlAnswers.noteOwner .H).describeEntry .H e] }] ∧
      t.od = s.od) ∧
  -- READ_BLOCK (R197)
  (∀ (s : State) (n : Nat) (b : List Byte), s.SlotTurn n 3 → (s.mslot n).txn = 0 → s.slotBody n = b → blockOk b false = true →
      12 + pad4 (bytesAt b 12 2) ≤ 2048 →
    Completes (.readBlock .mirror) s fun t =>
      (t.mslot n).state = 2 ∧
      (t.mslot n).status = ((s.hlAnswers.noteOwner .H).blockRead .H (bytesAt b 4 2) (bytesAt b 6 1) (bytesAt b 7 1) (bytesAt b 8 4) (bytesAt b 12 2)).1 ∧
      t.od = s.od) ∧
  -- WRITE (R196, R197)
  (∀ (s : State) (n : Nat) (e : WEntry) (u : State) (k : Nat), s.SlotTurn n 2 → (s.mslot n).txn = 0 → parseWrites (s.slotBody n) = some [e] →
      (s.hlAnswers.noteOwner .H).odWrite .H e = (u, k) → u.hl = (s.hlAnswers.noteOwner .H).hl → u.mir = s.mir →
    Completes (.odWrite .mirror) s fun t =>
      (t.mslot n).state = 2 ∧ (t.mslot n).status = k ∧ t.od = u.od ∧ t.hbm = u.hbm) ∧
  -- WRITE_BLOCK (R197)
  (∀ (s : State) (n : Nat) (b : List Byte) (u : State) (k : Nat), s.SlotTurn n 4 → (s.mslot n).txn = 0 → s.slotBody n = b → blockOk b true = true →
      (s.hlAnswers.noteOwner .H).blockWrite .H (bytesAt b 4 2) (bytesAt b 6 1) (bytesAt b 7 1) (bytesAt b 8 4) (bytesAt b 12 2) ((b.drop 16).take (bytesAt b 12 2)) = (u,
      k) → u.hl = (s.hlAnswers.noteOwner .H).hl → u.mir = s.mir →
    Completes (.writeBlock .mirror) s fun t =>
      (t.mslot n).state = 2 ∧ (t.mslot n).status = k ∧ t.mgr = u.mgr ∧ t.fw = u.fw) ∧
  -- SLOT_GO: an accepted request queues (R206)
  (∀ (s : State) (n : Fin 16) (v : Word) (rid : Half), (s.mslot n).state ≠ 1 → bit v.toNat 63 = true → s.mirrorServed = true → 4 ≤ fld v.toNat 42 32 →
      fld v.toNat 42 32 ≤ 1792 →
    Completes (.slotGo n v rid) s fun t =>
      (t.mslot n).state = 1 ∧ (t.mslot n).op = fld v.toNat 7 0 ∧ (t.mslot n).txn = fld v.toNat 31 16 ∧ (t.mslot n).bodyLen = fld v.toNat 42 32 ∧
      t.mir.order = s.mir.order ++ [n.val] ∧ t.reg = s.reg)

/-- At the turn of a mirror slot: TXN_OPEN with no transaction open opens the host route's and names it in the slot; where one is open, it
answers STATE and leaves it. TXN_CHECK of one entry whose check passes stages it. TXN_DROP closes the transaction. TXN_APPLY of staged checks
that all pass closes it; where an entry fails, it answers that entry's status and the transaction stays. In these the dictionary's values stay.
TXN_EXPIRY of the only transaction ends it, 1 s after its last operation at the earliest, and counts it. -/
def Obligations.TransactionsComplete : Prop :=
  -- R179
  (∀ (s : State) (n : Nat), s.SlotTurn n 6 → (s.mslot n).txn = 0 → s.dict.txns = [] →
    Completes (.txnOpen .mirror) s fun t =>
      (t.mslot n).state = 2 ∧ (t.mslot n).status = 0 ∧ t.dict.txns = [(.H, { id := s.freshTxn, last := s.now })] ∧ (t.mslot n).txn = s.freshTxn) ∧
  -- R179: one is open
  (∀ (s : State) (n : Nat) (x : Txn), s.SlotTurn n 6 → (s.mslot n).txn = 0 → s.dict.txns = [(.H, x)] →
    Completes (.txnOpen .mirror) s fun t =>
      (t.mslot n).state = 2 ∧ (t.mslot n).status = Od.state ∧ t.dict.txns = s.dict.txns) ∧
  -- R180
  (∀ (s : State) (n : Nat) (x : Txn) (e : WEntry), s.SlotTurn n 7 → (s.mslot n).txn = x.id → x.id ≠ 0 → s.dict.txns = [(.H, x)] →
      parseWrites (s.slotBody n) = some [e] → x.staged = [] → e.data.length ≤ 4096 →
      ((s.hlAnswers.noteOwner .H).setTxn .H { x with last := s.now }).odCheck .H e true false = 0 →
    Completes (.txnCheck .mirror) s fun t =>
      (t.mslot n).status = 0 ∧ t.dict.txns = [(.H, { x with last := s.now, staged := [(true, e)] })] ∧ t.od = s.od) ∧
  -- R182
  (∀ (s : State) (n : Nat) (x : Txn), s.SlotTurn n 9 → (s.mslot n).txn = x.id → x.id ≠ 0 → s.dict.txns = [(.H, x)] →
    Completes (.txnDrop .mirror) s fun t =>
      (t.mslot n).status = 0 ∧ t.dict.txns = [] ∧ t.od = s.od) ∧
  -- R181: every check holds
  (∀ (s : State) (n : Nat) (x : Txn), s.SlotTurn n 8 → (s.mslot n).txn = x.id → x.id ≠ 0 → s.dict.txns = [(.H, x)] →
      x.staged.all (fun y => y.1) = true →
      (((s.hlAnswers.noteOwner .H).setTxn .H { x with last := s.now }).tryStaged .H x.staged).find? (fun y => y.2 != 0) = none →
    Completes (.txnApply .mirror) s fun t =>
      (t.mslot n).status = 0 ∧ t.dict.txns = [] ∧ t.od = s.od) ∧
  -- R181: an entry fails
  (∀ (s : State) (n : Nat) (x : Txn) (y : WEntry × Nat), s.SlotTurn n 8 → (s.mslot n).txn = x.id → x.id ≠ 0 → s.dict.txns = [(.H, x)] →
      (((s.hlAnswers.noteOwner .H).setTxn .H { x with last := s.now }).tryStaged .H x.staged).find? (fun y => y.2 != 0) = some y → y.1.idx ≠ 0x2801 →
    Completes (.txnApply .mirror) s fun t =>
      (t.mslot n).status = y.2 ∧ t.dict.txns = [(.H, { x with last := s.now })] ∧ t.od = s.od ∧ t.hl.running = true) ∧
  -- R182, R221
  (∀ (s : State) (r : Route) (x : Txn), s.Inv → s.dict.txns = [(r, x)] →
    Completes (.txnExpiry r) s fun t =>
      t.dict.txns = [] ∧ s.Counts t O.txnExpired ∧ t.now = max s.now (x.last + 1000000000) ∧ t.reg = s.reg ∧ t.hbm = s.hbm)

/-- At the turn of the field queue, HELLO within its rate is answered with nonce, node and serial number in one frame, and SESSION_RESET draws a
new nonce with no request number accepted yet, and keeps the key. An authentic NOTIFY_ACK of the session frees its NOTIFY. A frame of another
EtherType is counted as foreign and changes neither field network nor dictionary state. PLCA_FALLBACK enters CSMA/CD and counts; a beacon seen
again ends it. NOTIFY_RESEND of the only unacknowledged NOTIFY, with fewer than 3 resends and a destination set, sends its record to the
destination of now under the key of now, 10 ms after the last sending at the earliest. NOTIFY_EVALUATION, of the only subscription, on a change of
a readable value, with a destination set and nothing unacknowledged, sends a record of the new value. -/
def Obligations.FieldNetworkCompletes : Prop :=
  -- R196, R199
  (∀ (s : State) (q : FieldReq) (l : List FieldReq), s.hop.waiting = q :: l → s.hlAlive = true → s.turn .F = true → q.op = 0 →
      (s.hop.second = s.now / 1000000000 → s.hop.hellos < 10) →
    Completes (.hello .field) s fun t =>
      t.hop.waiting = l ∧
      t.dict.answers = s.dict.answers ++ [{ route := .F, status := 0, seq := q.seq, txn := q.txn, nonce := some s.hop.nonce, node := s.node, serial := Config.serial }] ∧
      t.hop.frames.length = s.hop.frames.length + 1 ∧ t.hop.nonce = s.hop.nonce) ∧
  -- R199, R200: the nonce is a free value
  (∀ (s : State) (q : FieldReq) (l : List FieldReq), s.hop.waiting = q :: l → s.hl.running = true → s.turn .F = true → q.op = 0xC →
    Completes (.sessionReset .field) s fun t =>
      t.hop.waiting = l ∧ t.hop.nonce = Config.freeValue s.free % 2 ^ 32 ∧ t.hop.high = 0 ∧ t.hop.window = 0 ∧ (∀ e ∈ t.hop.kept, e.1 = q.seq) ∧
      t.hop.key = s.hop.key) ∧
  -- R193, R202
  (∀ (s : State) (f : List Byte), s.hlAlive = true → s.pwr.aon = true → s.Authentic f → (hopRequest f).op = 0xB → (hopRequest f).nonce = s.hop.nonce →

    Completes (.notifyAck (.frame f)) s fun t =>
      t.hop.unacked = s.hop.unacked.filter (fun u => u.seq != (hopRequest f).seq) ∧ t.hop.waiting = s.hop.waiting ∧ t.reg = s.reg) ∧
  -- R192
  (∀ (s : State) (f : List Byte), s.Inv → s.hlAlive = true → s.pwr.aon = true → (f.drop 12).take 2 ≠ [0x88, 0xB5] →
    Completes (.foreignFrame f) s fun t =>
      s.Counts t O.foreignDropped ∧ t.hop = s.hop ∧ t.dict = s.dict) ∧
  -- R190
  (∀ (s : State), s.Inv → s.pwr.aon = true → s.hop.plca ≠ 1 →
    Completes (.plcaFallback false) s fun t =>
      t.hop = { s.hop with plca := 1 } ∧ s.Counts t O.fallbacks) ∧
  -- R190: a beacon is seen again
  (∀ (s : State), s.pwr.aon = true → s.hop.plca = 1 →
    Completes (.plcaFallback true) s fun t =>
      t.hop = { s.hop with plca := 0 } ∧ t.od = s.od) ∧
  -- R202
  (∀ (s : State) (q : Nat) (u : Unacked), s.hop.unacked = [u] → u.seq = q → u.resends < 3 → s.val O.notifyDestMac ≠ 0 → s.hl.running = true →
    Completes (.notifyResend q) s fun t =>
      t.now = max s.now (u.at_ + 10000000) ∧ t.hop.unacked = [{ u with resends := u.resends + 1, at_ := t.now }] ∧
      t.hop.frames = s.hop.frames ++ [s.hopFrame s.fieldKey (s.val O.notifyDestMac) 0xA 2 0 u.seq 0 0 u.note.bytes]) ∧
  -- R186-R188: a watched value has changed
  (∀ (s : State) (row : ObjRow) (old cur : Nat), s.Inv → s.hl.running = true → (∀ n : Fin 31, s.val (O.subscription + (n.val + 1)) = 0) →
      fld (s.val O.subscription) 26 24 = 1 → fld (s.val O.subscription) 29 28 = 0 →
      objRow? (fld (s.val O.subscription) 15 0) (fld (s.val O.subscription) 23 16) = some row →
      s.odOff (fld (s.val O.subscription) 15 0 * 256 + fld (s.val O.subscription) 23 16) = false → row.acc ≠ .wo →
      s.odLive .F (fld (s.val O.subscription) 15 0 * 256 + fld (s.val O.subscription) 23 16) = cur →
      s.sub 1 = { lastVal := some old, seen := some old } → cur ≠ old → s.val O.notifyDestMac ≠ 0 → s.hop.unacked = [] →
    Completes (.notifyEvaluation) s fun t =>
      t.hop.unacked.map (fun u => (u.note.idx, u.note.sub, u.note.value, u.note.number, u.at_)) = [(fld (s.val O.subscription) 15 0,
      fld (s.val O.subscription) 23 16, cur, 1, s.now)])

/-- PERSIST_COMMIT of a served route, no commit pending or busy, stands pending. PERSIST_COMMIT_START starts it with the values of now and the
other bank torn, 1 s after the start before it at the earliest. PERSIST_COMMIT_DONE with no further commit asked for puts the written bank, with
the snapshot, the fatal log and the bad blocks, in use and counts. PERSIST_DEFAULTS with its key clears the fatal log and asks for a commit.
LOCK_REQUEST of groups that can be locked, none being locked, grants them to the route for 10 s. LOCK_EXPIRY of the only lock drops it, at its
time at the earliest. HOP_KEY_SWITCH puts the staged key in use, with no request number accepted and no answer kept, and counts the key's
generation. -/
def Obligations.PersistenceCompletes : Prop :=
  -- R174
  (∀ (s : State) (r : Route), s.served r 0x120001 = true → s.dict.commit = .idle ∨ s.dict.commit = .done →
    Completes (.persistCommit r 1) s fun t =>
      t.dict.commit = .pending ∧ t.dict.own = false ∧ t.od = s.od) ∧
  -- R175, R176
  (∀ (s : State), s.hl.running = true → s.dict.commit = .pending →
    Completes (.persistCommitStart) s fun t =>
      t.dict.commit = .busy ∧ t.dict.lastStart = some t.now ∧ t.dict.snapshot = s.snapshotVals ∧
      (if s.dict.bankB then t.dict.banks.1.crcOk else t.dict.banks.2.crcOk) = false ∧
      t.now = (match s.dict.lastStart with | some l => max s.now (l + 1000000000) | none => s.now)) ∧
  -- R175
  (∀ (s : State), s.Inv → s.hl.running = true → s.dict.commit = .busy → s.dict.again = false →
    Completes (.persistCommitDone) s fun t =>
      t.dict.commit = .done ∧ t.dict.bankB = !s.dict.bankB ∧
      t.bank = { seq := (s.bank.seq + 1) % 2 ^ 32, vals := kvSet 0 s.dict.snapshot O.persistCommits ((s.val O.persistCommits + 1) % 2 ^ 32), log := s.fc.fatalLog, bad := s.seed.bad } ∧
      t.val O.persistCommits = (s.val O.persistCommits + 1) % 2 ^ 32) ∧
  -- R178
  (∀ (s : State) (r : Route), s.served r 0x120003 = true →
    Completes (.persistDefaults r 0xDEF00001) s fun t =>
      t.fc.fatalLog = [] ∧ (t.dict.commit = .pending ∨ t.dict.again = true)) ∧
  -- R183
  (∀ (s : State) (r : Route) (m : Half), s.hl.running = true → m.toNat &&& 0x81FE = m.toNat → s.dict.locks = [] →
    Completes (.lockRequest r m) s fun t =>
      t.dict.locks = [(r, maskOf 16 (fun g => bit m.toNat g), s.now + 10000000000)] ∧ t.od = s.od) ∧
  -- R183
  (∀ (s : State) (r : Route) (g : Nat) (e : Nat), s.dict.locks = [(r, g, e)] →
    Completes (.lockExpiry r) s fun t =>
      t.dict.locks = [] ∧ t.now = max s.now e ∧ t.od = s.od) ∧
  -- R203
  (∀ (s : State) (r : Route) (k : Nat), s.Inv → s.served r 0x111004 = true → s.hop.staged = some k →
    Completes (.hopKeySwitch r 1) s fun t =>
      t.hop.key = some k ∧ t.hop.staged = none ∧ t.hop.high = 0 ∧ t.hop.kept = [] ∧ t.val O.hopKeyGen = (s.val O.hopKeyGen + 1) % 2 ^ 32)

/-- FW_BEGIN of an idle download with a length the slot holds makes the route its owner and erases the slot. FW_ERASE_DONE opens it for data.
FW_DATA of the owner, next in order and within the length, counts what was received. FW_VERIFY of a complete download ends verified or failed,
with no owner, and stores the version. FW_ACTIVATE of a verified download with its key stops the firmware and drops transactions and locks.
FW_CONFIRM of an image on trial, no download being owned, makes it the active one. FW_OWNER_EXPIRY drops a download that receives, 10 s after
its last operation at the earliest. -/
def Obligations.FirmwareDownloadCompletes : Prop :=
  -- R219
  (∀ (s : State) (r : Route) (n : Word32), s.fwServed r 0x189002 = true → s.fw.status = .idle → s.fw.owner = none → n.toNat ≠ 0 → n.toNat ≤ 3997696 →
    Completes (.fwBegin r n) s fun t =>
      t.fw.status = .erasing ∧ t.fw.owner = some r ∧ t.fw.length = n.toNat ∧ t.fw.received = 0 ∧ bit t.hl.full s.fwSlot = false ∧ t.od = s.od) ∧
  -- R219
  (∀ (s : State), s.fw.status = .erasing →
    Completes (.fwEraseDone) s fun t =>
      t.fw = { s.fw with status := .receiving } ∧ t.hl = s.hl ∧ t.od = s.od) ∧
  -- R219
  (∀ (s : State) (r : Route) (off : Word32) (d : List Byte), s.fwServed r 0x189003 = true → s.fw.owner = some r → s.fw.status = .receiving →
      off.toNat % 4 = 0 → d ≠ [] → d.length ≤ 1024 → off.toNat = s.fw.received → off.toNat + d.length ≤ s.fw.length →
    Completes (.fwData r off d) s fun t =>
      t.fw.received = s.fw.received + d.length ∧ t.fw.lastOp = s.now ∧ t.fw.status = .receiving ∧ bit t.hl.full s.fwSlot = true) ∧
  -- R140, R219
  (∀ (s : State) (r : Route) (ok : Bool) (v : Word32), s.fwServed r 0x189005 = true → s.fw.owner = some r → s.fw.status = .receiving →
      s.fw.received = s.fw.length →
    Completes (.fwVerify r ok v) s fun t =>
      t.fw.status = (if ok then .verified else .failed) ∧ t.fw.owner = none ∧ t.fw.version = v.toNat ∧ bit t.hl.genuine s.fwSlot = ok) ∧
  -- R141, R219
  (∀ (s : State) (r : Route) (ok : Bool), s.served r 0x189006 = true → s.fw.status = .verified → s.cal.busy = none →
    Completes (.fwActivate r 0xF1A5C0DE ok) s fun t =>
      t.hl.running = false ∧ t.dict.txns = [] ∧ t.dict.locks = []) ∧
  -- R141
  (∀ (s : State) (r : Route), s.served r 0x189007 = true → s.fw.owner = none → s.hl.bootState = 1 →
    Completes (.fwConfirm r 1) s fun t =>
      t.hl.bootState = 0 ∧ t.hl.boot.active = s.hl.image ∧ t.hl.boot.pending = none ∧ t.od = s.od) ∧
  -- R185, R219
  (∀ (s : State) (r : Route), s.fw.owner = some r → s.fw.status = .receiving →
    Completes (.fwOwnerExpiry) s fun t =>
      t.fw = {} ∧ t.now = max s.now (s.fw.lastOp + 10000000000) ∧ bit t.hl.boot.bad (1 - s.hl.image) = true)

/-- Each selector of OD 0x8000 of a function that the hardware holds, written 1 on a route that is served for it, hands the function to the host.
SPLIT_WALK with GCORE on, the host's services enabled and no ATS request held begins the switch: its INVAL_ALL joins the executor's queue.
SPLIT_FAULT, SPLIT_ROTATION, SPLIT_CLASSIFY, SPLIT_RETRAIN and SPLIT_STAKE_TO, and SPLIT_CAP on route H, switch at once and count;
SPLIT_CLASSIFY clears escalations and windows. SPLIT_MIG switches at once and gives the migration row back. SPLIT_FTL of an idle seedbank with
no lot and no rotation gives the host the raw blocks. SPLIT_CAP on route F changes nothing. -/
def Obligations.SplitsComplete : Prop :=
  -- R464, R465
  (∀ (s : State) (r : Route), s.served r 0x800001 = true → s.gcoreOn = true → s.plat.switching = none → s.plat.mode = false →
      s.walkSwitchOk true = true → s.plat.atsHeld = [] →
    Completes (.splitWalk r 1) s fun t =>
      t.plat.switching = some true ∧ t.plat.mode = false ∧
      t.plat.queue = s.plat.queue ++ [{ ticket := none, kind := 3, space := 0, headland := true, modeSwitch := true }] ∧ t.od = s.od) ∧
  -- R785
  (∀ (s : State) (r : Route), s.Inv → s.served r 0x800002 = true → s.flt.mode = false → s.atomicEnable = false →
    Completes (.splitFault r 1) s fun t =>
      t.flt.mode = true ∧ s.Counts t O.splitSwitches) ∧
  -- R785
  (∀ (s : State) (r : Route), s.served r 0x800003 = true → s.mig.hostMode = false →
    Completes (.splitMig r 1) s fun t =>
      t.mig.hostMode = true ∧ t.mig.rowOwner = 0) ∧
  -- R711
  (∀ (s : State) (r : Route), s.Inv → s.served r 0x800004 = true → s.splitBusy 4 = false → s.seed.state = .ready → s.val O.splitFtl = 0 →
      s.seedTouched = false → s.seed.waiting = none → s.seed.lots = [] → s.rot.entries = [] →
    Completes (.splitFtl r 1) s fun t =>
      t.seed.state = .host ∧ t.val O.splitFtl = 1) ∧
  -- R785
  (∀ (s : State) (r : Route), s.Inv → s.served r 0x800005 = true → s.val O.splitRotation = 0 →
    Completes (.splitRotation r 1) s fun t =>
      t.val O.splitRotation = 1 ∧ s.Counts t O.splitSwitches) ∧
  -- R750
  (∀ (s : State) (r : Route), s.Inv → s.served r 0x800006 = true → s.fc.mode = false →
    Completes (.splitClassify r 1) s fun t =>
      t.fc.mode = true ∧ (∀ e ∈ t.fc.srcs, e.2.escalated = false ∧ e.2.window = none) ∧ s.Counts t O.splitSwitches) ∧
  -- R785
  (∀ (s : State) (r : Route), s.Inv → s.served r 0x800007 = true → s.val O.splitRetrain = 0 →
    Completes (.splitRetrain r 1) s fun t =>
      t.val O.splitRetrain = 1 ∧ s.Counts t O.splitSwitches) ∧
  -- R785
  (∀ (s : State), s.Inv → s.served .H 0x800008 = true → s.val O.splitCap = 0 →
    Completes (.splitCap .H 1) s fun t =>
      t.val O.splitCap = 1 ∧ s.Counts t O.splitSwitches) ∧
  -- R782: only the host takes power capping
  (∀ (s : State), s.val O.splitCap = 0 →
    Completes (.splitCap .F 1) s fun t =>
      t = s) ∧
  -- R785
  (∀ (s : State) (r : Route), s.Inv → s.served r 0x800009 = true → s.val O.splitStakeTo = 0 →
    Completes (.splitStakeTo r 1) s fun t =>
      t.val O.splitStakeTo = 1 ∧ s.Counts t O.splitSwitches)

/-- POLICY_MODE_WRITE on a served route sets the policy's mode. On the steward's turn, in Auto, with no override and no refusal of the steward's
write: POWER lowers the cap by STEP_W, not below FLOOR_W, where the margin of the closest part is at most MARGIN_C, and logs it; MIGRATION doubles the
hot threshold up to its bound where promotions are fewer than twice the evictions; SEEDBANK doubles the scrub rate up to its bound where the
scrub lags 80 % of its interval; FAULT_THRESHOLD halves a source's ESC_COUNT, not below its bound, where its rate doubles; ROTATION admits one
more resident lot where the next one fits the free acres; FALLOW asks for Fallow where no condition of R70 fails, and logs it, and in Fallow with
its wake masked it notes the timer's deferred action. LINK with the link up adds up the error counts. -/
def Obligations.PoliciesComplete : Prop :=
  -- R788
  (∀ (s : State) (i : Fin 7) (r : Route), s.Inv → s.served r ((0x8010 + i) * 256 + 1) = true →
    Completes (.policyModeWrite i r 2) s fun t =>
      t.policyMode i = 2 ∧ t.stw = s.stw ∧ t.reg = s.reg) ∧
  -- POWER
  (∀ (s : State) (peaks : Bool), s.Inv → s.stewardTurn = true → s.marginOf s.closest ≤ ((s.val O.marginC * 16 : Nat) : Int) →
      s.overridden O.powerCap = false → s.policyRuns 0 = 2 → s.stewardRefused O.powerCap = false →
      min (s.val O.powerCap) (max (s.val O.floorW) (s.val O.powerCap - s.val O.stepW)) ≠ s.val O.powerCap →
    Completes (.policyPower true peaks) s fun t =>
      t.val O.powerCap = min (s.val O.powerCap) (max (s.val O.floorW) (s.val O.powerCap - s.val O.stepW)) ∧ t.stw.log.head?.map (fun d => (d.policy,
      d.outcome, d.reason, d.new)) = some (0, 0, s.closest + 1, min (s.val O.powerCap) (max (s.val O.floorW) (s.val O.powerCap - s.val O.stepW)))) ∧
  -- MIGRATION
  (∀ (s : State) (p e : Nat) (idle : Bool), s.Inv → s.stewardTurn = true → p < 2 * e → s.overridden O.migHotThreshold = false → s.policyRuns 1 = 2 →
      s.stewardRefused O.migHotThreshold = false →
      max (s.val O.migHotThreshold) (min (s.val O.threshMax) (2 * s.val O.migHotThreshold)) ≠ s.val O.migHotThreshold →
    Completes (.policyMigration p e idle) s fun t =>
      t.val O.migHotThreshold = max (s.val O.migHotThreshold) (min (s.val O.threshMax) (2 * s.val O.migHotThreshold))) ∧
  -- SEEDBANK
  (∀ (s : State), s.Inv → s.stewardTurn = true → 80 * (s.val O.scrubInterval * 24) ≤ 100 * s.odLive .H O.scrubLagH →
      s.overridden O.scrubRate = false → s.policyRuns 2 = 2 → s.stewardRefused O.scrubRate = false →
      max (s.val O.scrubRate) (min (s.val O.rateMax) (2 * s.val O.scrubRate)) ≠ s.val O.scrubRate → s.overridden O.wearSpread = true →
    Completes (.policySeedbank) s fun t =>
      t.val O.scrubRate = max (s.val O.scrubRate) (min (s.val O.rateMax) (2 * s.val O.scrubRate))) ∧
  -- FAULT_THRESHOLD
  (∀ (s : State) (n day week : Nat), s.Inv → s.stewardTurn = true → n < 0x800 → srcEscalates n = true → 0 < day → 2 * week ≤ 7 * day →
      s.overridden ((0x7100 + n) * 256 + 6) = false → s.policyRuns 4 = 2 → s.stewardRefused ((0x7100 + n) * 256 + 6) = false →
      min (fld (s.val ((0x7100 + n) * 256 + 6)) 15 8) (max (s.val O.escMin) (fld (s.val ((0x7100 + n) * 256 + 6)) 15 8 / 2)) ≠ fld (s.val ((0x7100 + n) * 256 + 6)) 15 8 →

    Completes (.policyFaultThreshold [(n, day, week)]) s fun t =>
      t.val ((0x7100 + n) * 256 + 6) = setFld (s.val ((0x7100 + n) * 256 + 6)) 15 8 (min (fld (s.val ((0x7100 + n) * 256 + 6)) 15 8) (max (s.val O.escMin) (fld (s.val ((0x7100 + n) * 256 + 6)) 15 8 / 2)))) ∧
  -- ROTATION
  (∀ (s : State) (d : Word32) (w : Bool) (n : Nat), s.Inv → s.stewardTurn = true → s.nextLotAcres = some n → n ≤ s.acresFree.length →
      s.val O.residentMax < s.val O.residentLimit → s.overridden O.residentMax = false → s.policyRuns 5 = 2 → s.stewardRefused O.residentMax = false →

    Completes (.policyRotation (some d) w) s fun t =>
      t.val O.residentMax = s.val O.residentMax + 1) ∧
  -- LINK: the error counts
  (∀ (s : State) (fec rep : Nat) (b : BitVec 13), s.Inv → s.link.up = true → s.stewardTurn = false →
    Completes (.policyLink fec rep b) s fun t =>
      t.val O.fecCorrected = (s.val O.fecCorrected + fec) % 2 ^ 64 ∧ t.val O.replays = (s.val O.replays + rep) % 2 ^ 64 ∧ t.reg = s.reg ∧
      t.stw = s.stw) ∧
  -- FALLOW: the wake timer, masked
  (∀ (s : State), s.stewardTurn = true → s.pwr.mode = .fallow → s.val O.wakeAfterS ≠ 0 → s.policyRuns 6 ≠ 0 → bit (s.val O.fallowWakeMask) 3 = false →

    Completes (.policyFallow true) s fun t =>
      t.pwr.deferredTimer = true ∧ t.now = max s.now (s.pwr.fallowAt + s.val O.wakeAfterS * 1000000000) ∧ t.od = s.od) ∧
  -- FALLOW: after IDLE_S
  (∀ (s : State), s.Inv → s.stewardTurn = true → s.pwr.mode = .up → s.fallowFails = 0 → s.overridden O.pwrRequest = false → s.policyRuns 6 = 2 →
      s.stewardRefused O.pwrRequest = false →
    Completes (.policyFallow true) s fun t =>
      t.val O.pwrRequest = 1 ∧ t.stw.log.head?.map (fun d => (d.policy, d.outcome, d.new)) = some (6, 0, 1))

/-- With the host served and messages leaving at once: APERTURE_READ of HBM that no coherent line covers, with nothing to scrub and no poison, within
one completion, is answered with the bytes that stand there, and changes no memory, register, dictionary value or plot. APERTURE_WRITE there
stores exactly its enabled bytes. ATOMIC_CAS of 8 aligned bytes answers the value found and stores the new one where it was as compared,
and changes no other byte. REGISTER_WRITE stores a command word written whole, and ATTN_HOLDOFF up to 1,000. COUNTER_LOW_READ of 4 bytes of
a counter answers its low half and latches the high half. COUNTER_HIGH_READ answers the latched half and releases it. -/
def Obligations.HostMemoryRequestsComplete : Prop :=
  -- R253, R294
  (∀ (s : State) (r : MemReq) (off a : Nat), s.ServesHost → s.SendsNow → r.Plain → s.locate r = some (.aperture, off) →
      s.apTarget off r.len = some (.hbm a) → s.coh.snoopFilter = [] → s.pwr.scrub = [] → s.coh.scrubbing = [] → s.host.poison = [] → 0 < r.len →
      r.len ≤ s.maxRead → off % s.maxPayload + r.len ≤ s.maxPayload →
    Completes (.apertureRead r) s fun t =>
      t.host.wire = s.host.wire ++ [{ kind := .cplData, tag := r.tag, addr := off, data := memRead s.hbm a r.len }] ∧ t.hbm = s.hbm ∧ t.od = s.od ∧
      t.reg = s.reg ∧ t.plots = s.plots) ∧
  -- R253, R294
  (∀ (s : State) (r : MemReq) (off a : Nat), s.ServesHost → s.SendsNow → r.Plain → s.Inv → s.locate r = some (.aperture, off) →
      s.apTarget off r.len = some (.hbm a) → s.coh.snoopFilter = [] → s.pwr.scrub = [] → s.coh.scrubbing = [] → 0 < r.len → r.len ≤ s.maxPayload →
    Completes (.apertureWrite r) s fun t =>
      t.host.wire = s.host.wire ∧ t.od = s.od ∧ t.reg = s.reg ∧ t.plots = s.plots ∧ (∀ x,
      memByte t.hbm x = byteAfter s.hbm a ((r.data.take r.len).zip (reqEnables { r with off := off })) x)) ∧
  -- R249
  (∀ (s : State) (r : MemReq) (c w : Word) (off a : Nat), s.ServesHost → s.SendsNow → r.Plain → s.Inv →
      s.locate { r with len := 8 } = some (.aperture, off) → s.apTarget off 8 = some (.hbm a) → s.coh.snoopFilter = [] → s.pwr.scrub = [] →
      s.coh.scrubbing = [] → s.host.poison = [] → off % 8 = 0 →
    Completes (.atomicCas .cas 8 r c w) s fun t =>
      t.host.wire = s.host.wire ++ [{ kind := .cplData, tag := r.tag, addr := off, data := memRead s.hbm a 8 }] ∧ t.od = s.od ∧ t.reg = s.reg ∧
      t.plots = s.plots ∧ (∀ x,
      memByte t.hbm x = if leNat (memRead s.hbm a 8) = c.toNat then byteAfter s.hbm a (enAll (natLe 8 w.toNat)) x else memByte s.hbm x)) ∧
  -- R454, R479: the command words
  (∀ (s : State) (r : MemReq) (off : Nat) (k : Fin 5), s.ServesHost → s.SendsNow → r.Plain → s.locate r = some (.control, off) →
      off = 0x200200 + 8 * k → r.len = 8 → reqWhole { r with off := off } = true → r.data.length = 8 → s.Inv →
    Completes (.registerWrite r) s fun t =>
      t.rg off = leNat r.data ∧ t.od = s.od ∧ t.hbm = s.hbm ∧ t.cfg = s.cfg ∧ t.host.wire = s.host.wire) ∧
  -- R333: ATTN_HOLDOFF
  (∀ (s : State) (r : MemReq), s.ServesHost → s.SendsNow → r.Plain → s.locate r = some (.control, 0x414) → r.len = 4 → r.fbe = 0xF →
      r.data.length = 4 → leNat r.data ≤ 1000 → s.Inv →
    Completes (.registerWrite r) s fun t =>
      t.rg Rg.attnHoldoff = leNat r.data ∧ t.od = s.od ∧ t.hbm = s.hbm ∧ t.cfg = s.cfg ∧ t.host.wire = s.host.wire) ∧
  -- R215
  (∀ (s : State) (r : MemReq) (off : Nat), s.ServesHost → s.SendsNow → r.Plain → s.locate r = some (.control, off) → counterWord off = true →
      off < 0x2000000 → r.len = 4 →
    Completes (.counterLowRead r) s fun t =>
      kvFind t.latch off = some (s.readWord off / 2 ^ 32) ∧
      t.host.wire = s.host.wire ++ [{ kind := .cplData, tag := r.tag, addr := off, data := natLe 4 (s.readWord off) }] ∧ t.reg = s.reg ∧
      t.od = s.od) ∧
  -- R215
  (∀ (s : State) (r : MemReq) (off h : Nat), s.Inv → s.ServesHost → s.SendsNow → r.Plain →
      s.locate { r with addr := r.addr / 8 * 8 + 4, len := 4 } = some (.control, off + 4) → counterWord off = true → off < 0x2000000 →
      kvFind s.latch off = some h →
    Completes (.counterHighRead r) s fun t =>
      kvFind t.latch off = none ∧ t.host.wire = s.host.wire ++ [{ kind := .cplData, tag := r.tag, addr := off + 4, data := natLe 4 h }] ∧
      t.reg = s.reg ∧ t.od = s.od)

/-- STAKE_TO_NEXT and MIG_HOT_NEXT of 8 bytes, all enabled, in the cases named, answer the head entry and remove it. UNSUPPORTED_REQUEST of a posted
request that matches no window counts, is counted as discarded, and raises its source with its address. WINDOW_REQUEST_LATE ends the only
held request, 5 ms after its arrival at the earliest, and counts it and a Completer Abort. BISNP_RESPONSE with data to the only snoop
outstanding, of one line, with nothing waiting for it, ends the snoop: its line is tracked no longer and its data stands in HBM. -/
def Obligations.HostReadsOfQueuesAndErrorsComplete : Prop :=
  -- R407
  (∀ (s : State) (r : MemReq) (h : Nat) (hs : List Nat) (w : Wait), s.ServesHost → s.SendsNow → r.Plain →
      s.locate { r with addr := s.atControl 0x510000 } = some (.control, 0x510000) → r.off % 8 = 0 → r.len = 8 →
      reqWhole { r with off := 0x510000 } = true → s.g.toQueue = h :: hs → s.g.waits = [w] → w.handle = h → w.queued = true → w.who = .desc 3 4 →
      w.equal = false →
    Completes (.stakeToNext r) s fun t =>
      t.g.toQueue = hs ∧
      t.host.wire = s.host.wire ++ [{ kind := .cplData, tag := r.tag, addr := 0x510000, data := natLe 8 (w.stake + 2 ^ 16 + 3 * 2 ^ 20 + h * 2 ^ 32 + kvGet 0 s.g.waitGen h * 2 ^ 48) }]) ∧
  -- R506
  (∀ (s : State) (r : MemReq) (p a : Nat), s.ServesHost → s.SendsNow → r.Plain → s.locate { r with addr := s.atControl 0x202008 } = some (.control,
      0x202008) → r.off % 8 = 0 → r.len = 8 → reqWhole { r with off := 0x202008 } = true → s.mig.hot = [(p, a)] → s.mig.hostMode = true →
      s.mig.counters = [] →
    Completes (.migHotNext r) s fun t =>
      t.mig.hot = [] ∧
      t.host.wire = s.host.wire ++ [{ kind := .cplData, tag := r.tag, addr := 0x202008, data := natLe 8 (p % 2 ^ 20 + 2 ^ 20 + a / 2 ^ 21 * 2 ^ 21) }] ∧
      t.reg = s.reg ∧ t.od = s.od) ∧
  -- R307
  (∀ (s : State) (r : MemReq), s.Inv → s.ServesHost → s.locate r = none → r.ep = false →
    Completes (.unsupportedRequest .noWindow true r) s fun t =>
      s.Counts t O.urSent ∧ s.Counts t O.mmioDiscarded ∧ t.host.wire = s.host.wire ∧ t.hbm = s.hbm ∧ t.reg = s.reg ∧
      t.fc.ring = s.fc.ring ++ [{ source := Sc.hostUrSent, cap := { access := 2, addr := some r.off } }]) ∧
  -- R263
  (∀ (s : State) (h : Held), s.Inv → s.pwr.hold = [h] → h.cxl = none → ¬ (s.pwr.mode = .up) → ¬ (s.pwr.mode = .starting) →
    Completes (.windowRequestLate h.win h.write h.r) s fun t =>
      t.pwr.hold = [] ∧ t.now = max s.now (h.since + 5000000) ∧ s.Counts t O.mmioLateCount ∧ s.Counts t O.caSent ∧ t.hbm = s.hbm) ∧
  -- R509
  (∀ (s : State) (o : Snoop) (d : List Byte), s.Inv → s.coh.outstanding = [o] → o.left = [o.line] → o.inv = true → s.coh.changing = [] →
      s.coh.scrubbing = [] → s.coh.waiting = [] → s.pwr.hold = [] → s.pwr.scrub = [] → s.fab.waiting = [] → s.fab.owed = [] → s.coh.stores = [] →
      d.length = 64 →
    Completes (.bisnpResponse o.line (some d)) s fun t =>
      t.coh.outstanding = [] ∧ t.tracked o.line = false ∧ (∀ x, memByte t.hbm x = byteAfter s.hbm (o.line * 64) (enAll d) x))

/-- LINK_TRAINED of a link that is down, with FLIT mode offered and nothing to send, brings L0 at the highest common speed and width and takes the
partner's credits. LINK_RECOVERY enters Recovery and counts one; ahead of a retrain of the steward's it counts two and opens its 10 s window.
ASPM_L1_ENTRY of an idle link that may enters L1 and counts, ASPM_L1_EXIT with nothing to send returns to L0 and counts a recovery. L0P_NARROW from
16 lanes, where enabled and not below the floor, halves the width; L0P_WIDEN restores it. LTR_SEND outside Fallow reports the active latency,
capped as the host wrote. D3HOT_ENTRY without an asserted interrupt sets D3hot; registers, configuration, GCORE's state and HBM stay. -/
def Obligations.LinkTrainsAndSavesPower : Prop :=
  -- R234, R235, R284
  (∀ (s : State) (o : LinkOffer), s.Inv → s.glinkOn = true → s.pwr.perst = false → s.link.up = false → s.pwr.mode ≠ .starting →
      0 < widthFor o.lanes (s.val O.linkWidthMax) → o.flit = true → 0 < min (min o.speed 6) (s.val O.linkSpeedMax) → s.host.queue = [] →
      s.host.blocked = [] → s.linePending = false →
    Completes (.linkTrained o) s fun t =>
      t.link.up = true ∧ t.link.ltssm = .l0 ∧ t.link.flit = true ∧ t.link.speed = min (min o.speed 6) (s.val O.linkSpeedMax) ∧
      t.link.width = widthFor o.lanes (s.val O.linkWidthMax) ∧ t.link.l0pWidth = t.link.width ∧ t.host.pCredit = o.posted ∧
      t.host.npCredit = o.nonPosted ∧ t.link.rxPosted = (128, 2048) ∧ t.hbm = s.hbm ∧ t.cfg = s.cfg) ∧
  -- R239
  (∀ (s : State), s.Inv → s.link.up = true → s.link.stewardRetrain = false →
    Completes (.linkRecovery) s fun t =>
      t.link = { s.link with ltssm := .recovery } ∧ s.Counts t O.recoveryCount ∧ t.host = s.host ∧ t.cfg = s.cfg) ∧
  -- R273
  (∀ (s : State), s.Inv → s.link.up = true → s.link.stewardRetrain = true →
    Completes (.linkRecovery) s fun t =>
      t.link = { s.link with ltssm := .recovery, stewardRetrain := false, retrainFrom := s.now + 10000000000 } ∧
      t.val O.recoveryCount = (s.val O.recoveryCount + 2) % 2 ^ 64 ∧ t.host = s.host) ∧
  -- R258
  (∀ (s : State), s.Inv → s.link.up = true → s.link.ltssm = .l0 → bit (s.cfgv 0x060) 1 = true → s.host.queue = [] → s.host.blocked = [] →
      s.readsOutstanding = 0 → bit (s.cfgv 0x1C8) 2 = false → bit (s.cfgv 0x1C8) 3 = false →
    Completes (.aspmL1Entry) s fun t =>
      t.link = { s.link with ltssm := .l1 } ∧ s.Counts t O.l1Entries ∧ t.host = s.host) ∧
  -- R258, R275
  (∀ (s : State), s.Inv → s.inL1 = true → s.host.queue = [] → s.host.blocked = [] → s.linePending = false →
    Completes (.aspmL1Exit) s fun t =>
      t.link = { s.link with ltssm := .l0 } ∧ s.Counts t O.recoveryCount ∧ t.host = s.host ∧ t.reg = s.reg) ∧
  -- R260
  (∀ (s : State), s.Inv → s.link.up = true → s.link.ltssm = .l0 → s.link.flit = true → s.l0pEnable = true → s.link.l0pWidth = 16 → s.l0pFloor ≤ 8 →
    Completes (.l0pNarrow) s fun t =>
      t.link = { s.link with l0pWidth := 8 } ∧ s.Counts t O.l0pChanges ∧ t.host = s.host) ∧
  -- R260, R272
  (∀ (s : State), s.Inv → s.link.up = true → s.link.flit = true → s.link.l0pWidth ≠ s.link.width →
    Completes (.l0pWiden) s fun t =>
      t.link = { s.link with l0pWidth := s.link.width } ∧ s.Counts t O.l0pChanges ∧ t.host = s.host) ∧
  -- R259
  (∀ (s : State), s.SendsNow → s.ltrEnable = true → s.pwr.mode ≠ .fallow →
    Completes (.ltrSend) s fun t =>
      t.link = { s.link with ltrReported := min (s.val O.ltrActive) (ltrNs (s.cfgv 0x3F4 % 2 ^ 16)) } ∧
      t.host.wire = s.host.wire ++ [{ kind := .ltr, data := natLe 4 (min (s.val O.ltrActive) (ltrNs (s.cfgv 0x3F4 % 2 ^ 16))) ++ natLe 4 (min (s.val O.ltrActive) (ltrNs (s.cfgv 0x3F4 / 2 ^ 16))) }] ∧
      t.od = s.od) ∧
  -- R262
  (∀ (s : State), s.host.power = .d0 → s.host.attnAsserted = false →
    Completes (.d3hotEntry) s fun t =>
      t.host = { s.host with power := .d3hot } ∧ t.reg = s.reg ∧ t.cfg = s.cfg ∧ t.g = s.g ∧ t.hbm = s.hbm)

/-- CONFIG_REQUEST, messages leaving at once: a read is answered with the dword as it reads and changes nothing; a write of Interrupt Line stores its
enabled byte and is answered. BAR_SIZE_WRITE of another size that is advertised, with Memory Space Enable clear, takes it and resets the aperture's
base and its map. APERTURE_MAP_WRITE of a multiple of the window's size is stored. BUS_MASTER_CLEAR with GCORE up parks the 64 rows.
BUS_MASTER_SET with no row at work, no walk and nothing queued leaves every row idle and sends nothing. -/
def Obligations.ConfigurationCompletes : Prop :=
  -- R244
  (∀ (s : State) (off : BitVec 12) (be : BitVec 4) (v : Word32) (rid : Half), s.SendsNow → s.glinkOn = true → s.pwr.perst = false →
    Completes (.configRequest false off be v rid) s fun t =>
      t.host.wire = s.host.wire ++ [{ kind := .cplData, addr := off.toNat / 4 * 4, data := natLe 4 (s.cfgRead (off.toNat / 4 * 4)) }] ∧
      t.cfg = s.cfg ∧ t.reg = s.reg ∧ t.od = s.od ∧ t.hbm = s.hbm) ∧
  -- R243, R244: Interrupt Line
  (∀ (s : State) (be : BitVec 4) (v : Word32) (rid : Half), s.Inv → s.SendsNow → s.glinkOn = true → s.pwr.perst = false → bit be.toNat 0 = true →
    Completes (.configRequest true 0x03C be v rid) s fun t =>
      t.cfgv 0x03C = setFld (s.cfgv 0x03C) 7 0 (v.toNat % 256) ∧ t.host.wire = s.host.wire ++ [{ kind := .cplData, addr := 0x03C }] ∧ t.reg = s.reg ∧
      t.od = s.od ∧ t.hbm = s.hbm) ∧
  -- R256
  (∀ (s : State) (z : BitVec 6) (rid : Half), s.Inv → 10 ≤ z.toNat → z.toNat ≤ 19 → z.toNat ≠ s.barSize → s.memEnable = false →
    Completes (.barSizeWrite z rid) s fun t =>
      t.barSize = z.toNat ∧ t.cfgv 0x020 = 0xC ∧ t.cfgv 0x024 = 0 ∧ t.rg Rg.apertureMap = 0 ∧ t.od = s.od ∧ t.hbm = s.hbm ∧ t.host = s.host) ∧
  -- R255
  (∀ (s : State) (v : Word) (rid : Half), s.Inv → fld v.toNat 8 0 % 2 ^ (s.barSize - 10) = 0 →
    Completes (.apertureMapWrite v rid) s fun t =>
      t.rg Rg.apertureMap = fld v.toNat 8 0 ∧ t.od = s.od ∧ t.cfg = s.cfg ∧ t.hbm = s.hbm ∧ t.host = s.host) ∧
  -- R297, R299
  (∀ (s : State), s.Inv → s.bme = true → s.gcoreUp = true →
    Completes (.busMasterClear) s fun t =>
      t.bme = false ∧ (∀ r : Fin 64, (t.row r).state = .parked) ∧ t.reg = s.reg ∧ t.od = s.od ∧ t.hbm = s.hbm ∧ t.host = s.host) ∧
  -- R299, R300
  (∀ (s : State), s.Inv → s.bme = false → s.drill.rows = [] → s.host.queue = [] → s.host.blocked = [] → s.plat.walks = [] →
    Completes (.busMasterSet) s fun t =>
      t.bme = true ∧ (∀ r : Fin 64, (t.row r).state = .idle) ∧ t.hbm = s.hbm ∧ t.host.wire = s.host.wire)

/-- READ_COMPLETION that is not the last one keeps its data with the tag's use and changes nothing else; the last one of a ring read at HEAD,
the package not frozen, consumes its entries and frees the tag. POISONED_COMPLETION that is not the last keeps its data marked, counts,
      and raises its source.
COMPLETION_TIMEOUT and UR_CA_COMPLETION of a ring read at HEAD put the furrow in ERROR, count and set the HOST_REQ_ERROR cause; a timed-out tag is
quarantined, and TAG_QUARANTINE_END of the only one frees it one period later at the earliest. UNEXPECTED_COMPLETION counts and is raised.
FLOW_CONTROL_UPDATE with nothing to send adds the partner's credits. -/
def Obligations.CompletionsAndCreditsComplete : Prop :=
  -- R287
  (∀ (s : State) (g : Nat) (d : List Byte) (u : TagUse), s.host.tags = [u] → u.tag = g → u.quar = .no →
    Completes (.readCompletion g d false) s fun t =>
      t = { s with host := { s.host with tags := [{ u with got := u.got ++ d.map (fun b => (b, false)) }] } }) ∧
  -- R287: a ring read whose data is complete
  (∀ (s : State) (g : Nat) (d : List Byte) (u : TagUse) (n : Fin 4096) (k : Nat), s.Inv → s.tagUse g = some u →
      u.owner = .furrowRing n (s.fur n).head k → u.quar = .no → (s.fur n).state = .enabled → (s.fur n).early = [] → s.stagedOf n = [] →
      s.host.frozen = false → 1 ≤ k → u.got = [] →
    Completes (.readCompletion g d true) s fun t =>
      (t.fur n).head = ((s.fur n).head + k) % 2 ^ 32 ∧ (t.fur n).seq = ((s.fur n).seq + k) % 2 ^ 32 ∧ t.tagUse g = none) ∧
  -- R306, R312
  (∀ (s : State) (g : Nat) (d : List Byte) (u : TagUse), s.host.tags = [u] → u.tag = g → u.quar = .no → s.Inv →
    Completes (.poisonedCompletion g d false) s fun t =>
      t.host.tags = [{ u with got := u.got ++ d.map (fun b => (b, true)) }] ∧ s.Counts t O.poisonReceived ∧
      { source := Sc.hostPoisonRx } ∈ t.fc.ring ∧ t.hbm = s.hbm) ∧
  -- R288
  (∀ (s : State) (g : Nat) (u : TagUse) (n : Fin 4096) (k : Nat), s.host.tags = [u] → u.tag = g → u.quar = .no → s.Inv →
      u.owner = .furrowRing n (s.fur n).head k → (s.fur n).state = .enabled →
    Completes (.completionTimeout g) s fun t =>
      (t.fur n).state = .error ∧ (t.fur n).errCode = 0xD1 ∧ t.now = max s.now (u.at_ + s.cplTimeout) ∧
      t.host.tags = [{ u with quar := .timedOut, owner := .none, got := [], at_ := t.now }] ∧ s.Counts t O.cplTimeouts ∧
      bit (t.rg Rg.attnCause) At.hostReqError = true) ∧
  -- R289
  (∀ (s : State) (g : Nat) (ca : Bool) (u : TagUse) (n : Fin 4096) (k : Nat), s.host.tags = [u] → u.tag = g → u.quar = .no → s.Inv →
      u.owner = .furrowRing n (s.fur n).head k → (s.fur n).state = .enabled →
    Completes (.urCaCompletion g ca) s fun t =>
      (t.fur n).state = .error ∧ (t.fur n).errCode = 0xD1 ∧ t.host.tags = [] ∧ s.Counts t (if ca then O.caReceived else O.urReceived) ∧
      bit (t.rg Rg.attnCause) At.hostReqError = true ∧ bit (t.cfgv 0x004) (if ca then 28 else 29) = true) ∧
  -- R306, R329
  (∀ (s : State) (g : Nat), s.Inv → s.tagUse g = none →
    Completes (.unexpectedCompletion g) s fun t =>
      s.Counts t O.unexpectedCpl ∧ s.Raises t Sc.hostUnexpCpl ∧ t.host.tags = s.host.tags ∧ t.hbm = s.hbm ∧ t.reg = s.reg) ∧
  -- R287
  (∀ (s : State) (g : Nat) (u : TagUse), s.host.tags = [u] → u.tag = g → u.quar = .timedOut →
    Completes (.tagQuarantineEnd g) s fun t =>
      t = { s with now := max s.now (u.at_ + s.cplTimeout), host := { s.host with tags := [] } }) ∧
  -- R278
  (∀ (s : State) (p n : Nat), s.link.up = true → s.host.queue = [] → s.host.blocked = [] → s.Settled →
    Completes (.flowControlUpdate p n) s fun t =>
      t.host = { s.host with pCredit := s.host.pCredit + p, npCredit := s.host.npCredit + n } ∧ t.reg = s.reg ∧ t.od = s.od ∧ t.hbm = s.hbm)

/-- FREEZE by software outside Frozen, no row at work, enters it, counts and raises its source. FREEZE_RELEASE with Bus Master Enable clear, no
read outstanding, no row at work and the package not fenced leaves it with result 1 and no cause. MMIO_ERR_REARM arms the capture and
keeps its other fields. ATTN_CAUSE_CLEAR clears the event causes written 1 that are not set again. ASSERT_INTA and DEASSERT_INTA, messages
leaving at once in D0, send the message where the line's condition holds. ATTN_HOLDOFF_EXPIRY with the line's condition gone ends the holdoff, at
its time at the earliest. -/
def Obligations.FreezeAndAttentionComplete : Prop :=
  -- R313, R314
  (∀ (s : State), s.Inv → s.pwr.aon = true → s.host.frozen = false → s.drill.rows = [] →
    Completes (.freeze .software) s fun t =>
      t.host.frozen = true ∧ bit (t.rg Rg.freezeCause) 0 = true ∧ s.Counts t O.freezes ∧ { source := Sc.hostFrozen } ∈ t.fc.ring ∧
      t.host.blocked = [] ∧ t.hbm = s.hbm) ∧
  -- R316
  (∀ (s : State), s.Inv → s.host.frozen = true → s.fc.packageFenced = false → s.bme = false → s.readsOutstanding = 0 → s.drill.rows = [] →
    Completes (.freezeRelease) s fun t =>
      t.host.frozen = false ∧ t.rg Rg.freezeStatus = 1 ∧ t.rg Rg.freezeCause = 0 ∧ t.g.staging = []) ∧
  -- R296
  (∀ (s : State), s.Inv →
    Completes (.mmioErrRearm) s fun t =>
      bit (t.rg Rg.mmioErrInfo) 0 = false ∧ fld (t.rg Rg.mmioErrInfo) 63 1 = fld (s.rg Rg.mmioErrInfo) 63 1 ∧ t.od = s.od ∧ t.cfg = s.cfg ∧
      t.hbm = s.hbm) ∧
  -- R319
  (∀ (s : State) (v a : Word), s.Inv →
    Completes (.attnCauseClear v a) s fun t =>
      t.rg Rg.attnCause = ((s.rg Rg.attnCause - (s.rg Rg.attnCause &&& v.toNat &&& eventCauses)) ||| (a.toNat &&& eventCauses)) ∧ t.hbm = s.hbm) ∧
  -- R320
  (∀ (s : State), s.SendsNow → s.linePending = true → s.host.attnAsserted = false → s.intxDisable = false → s.host.power = .d0 →
      s.host.attnHoldoff = none → s.Inv →
    Completes (.assertInta) s fun t =>
      t.host.attnAsserted = true ∧ t.host.wire = s.host.wire ++ [{ kind := .assertInta }] ∧ t.rg Rg.attnAsserts = (s.rg Rg.attnAsserts + 1) % 2 ^ 64 ∧
      t.od = s.od) ∧
  -- R321
  (∀ (s : State), s.SendsNow → s.linePending = false → s.host.attnAsserted = true → s.host.power = .d0 →
    Completes (.deassertInta) s fun t =>
      t.host.attnAsserted = false ∧ t.host.wire = s.host.wire ++ [{ kind := .deassertInta }] ∧
      t.host.attnHoldoff = (if s.rg Rg.attnHoldoff = 0 then none else some (s.now + s.rg Rg.attnHoldoff * 1000)) ∧ t.reg = s.reg ∧ t.od = s.od) ∧
  -- R321
  (∀ (s : State) (h : Nat), s.host.attnHoldoff = some h → s.linePending = false →
    Completes (.attnHoldoffExpiry) s fun t =>
      t.host.attnHoldoff = none ∧ t.now = max s.now h ∧ t.reg = s.reg ∧ t.od = s.od ∧ t.host.wire = s.host.wire)

/-- A lone command at the head of the executor's queue whose checks pass, with no parcels, no tags and no row at work, begins executing: INVAL_RANGE,
INVAL_PASID, INVAL_ALL and PASID_RETIRE drop from the cache exactly the translations they cover and ask every engine to acknowledge, and
PASID_RETIRE notes the PASID as retiring. PARCEL_INSTALL installs its parcel and asks the engines. PARCEL_REMOVE of a parcel of the host's drops its
range, asks the engines and leaves the parcel in force. SYNC with a ticket and no stamp, nothing being held back,
      completes at once with result 0 and counts. ENGINE_ACKNOWLEDGE of
an idle engine takes its bit and nothing else. ATS_INVALIDATE_REQUEST with fewer than 32 queued and none held enters the queue. XLATE_MODE_SWITCH_DONE of
the switch that executes, every engine having acknowledged, puts the new mode in force and counts. PCTX_VALID of a context that is not valid,
with a PASID no context has, stores it. -/
def Obligations.TranslationCommandsComplete : Prop :=
  -- R451, R459
  (∀ (s : State) (c : PlatCmd), s.plat.executing = none → s.plat.queue = [c] → c.kind = 1 → s.cmdCheck c = 0 → s.plat.parcels = [] →
      s.host.tags = [] → s.drill.rows = [] →
    Completes (.invalRange) s fun t =>
      t.plat.executing = some c ∧ t.plat.queue = [] ∧ t.plat.acks = s.allEngines ∧
      t.plat.cache = s.plat.cache.filter (fun x => !c.cover.hits x.pasid x.space x.va (x.va + x.size)) ∧ t.hbm = s.hbm ∧ t.reg = s.reg) ∧
  -- R451, R459
  (∀ (s : State) (c : PlatCmd), s.plat.executing = none → s.plat.queue = [c] → c.kind = 2 → s.cmdCheck c = 0 → s.plat.parcels = [] →
      s.host.tags = [] → s.drill.rows = [] →
    Completes (.invalPasid) s fun t =>
      t.plat.executing = some c ∧ t.plat.queue = [] ∧ t.plat.acks = s.allEngines ∧
      t.plat.cache = s.plat.cache.filter (fun x => !c.cover.hits x.pasid x.space x.va (x.va + x.size)) ∧ t.hbm = s.hbm ∧ t.reg = s.reg) ∧
  -- R451, R459
  (∀ (s : State) (c : PlatCmd), s.plat.executing = none → s.plat.queue = [c] → c.kind = 3 → s.cmdCheck c = 0 → s.plat.parcels = [] →
      s.host.tags = [] → s.drill.rows = [] →
    Completes (.invalAll) s fun t =>
      t.plat.executing = some c ∧ t.plat.queue = [] ∧ t.plat.acks = s.allEngines ∧
      t.plat.cache = s.plat.cache.filter (fun x => !c.cover.hits x.pasid x.space x.va (x.va + x.size)) ∧ t.hbm = s.hbm ∧ t.reg = s.reg) ∧
  -- R451
  (∀ (s : State) (c : PlatCmd), s.plat.executing = none → s.plat.queue = [c] → c.kind = 4 → s.cmdCheck c = 0 → s.plat.parcels = [] →
      s.host.tags = [] → s.drill.rows = [] → c.own = .no →
    Completes (.parcelInstall) s fun t =>
      t.plat.executing = some c ∧ t.plat.queue = [] ∧ t.plat.acks = s.allEngines ∧ kvGet {} t.plat.parcels c.parcel = c.toParcel false ∧
      t.hbm = s.hbm ∧ t.reg = s.reg) ∧
  -- R451
  (∀ (s : State) (c : PlatCmd) (p : Parcel), s.plat.executing = none → s.plat.queue = [c] → c.kind = 5 → s.cmdCheck c = 0 →
      s.plat.parcels = [(c.parcel, p)] → p.valid = true → p.z20 = false → s.host.tags = [] → s.drill.rows = [] →
    Completes (.parcelRemove) s fun t =>
      t.plat.executing = some (s.withRange c) ∧ t.plat.queue = [] ∧ t.plat.acks = s.allEngines ∧ t.plat.parcels = s.plat.parcels ∧
      t.plat.cache = s.plat.cache.filter (fun x => !(s.withRange c).cover.hits x.pasid x.space x.va (x.va + x.size)) ∧ t.hbm = s.hbm ∧
      t.reg = s.reg) ∧
  -- R451, R429
  (∀ (s : State) (c : PlatCmd), s.plat.executing = none → s.plat.queue = [c] → c.kind = 6 → s.cmdCheck c = 0 → s.plat.parcels = [] →
      s.host.tags = [] → s.drill.rows = [] →
    Completes (.pasidRetire) s fun t =>
      t.plat.executing = some c ∧ t.plat.retiring = some c.pasid ∧ t.plat.queue = [] ∧ t.plat.acks = s.allEngines ∧
      t.plat.cache = s.plat.cache.filter (fun x => !c.cover.hits x.pasid x.space x.va (x.va + x.size)) ∧ t.hbm = s.hbm ∧ t.reg = s.reg) ∧
  -- R451
  (∀ (s : State) (c : PlatCmd) (k : Nat), s.Inv → s.plat.executing = none → s.plat.queue = [c] → c.kind = 7 → s.cmdCheck c = 0 → c.ticket = some k →
      c.stampEn = false → c.ats = none → c.own = .no → s.plat.atsHeld = [] → s.plat.ownHeld = [] →
    Completes (.sync) s fun t =>
      t.plat.ticketDone = k ∧ t.plat.lastResult = 0 ∧ t.plat.executing = none ∧ t.plat.queue = [] ∧ t.plat.cache = s.plat.cache ∧
      s.Counts t O.commands ∧ t.hbm = s.hbm ∧ t.reg = s.reg) ∧
  -- R461
  (∀ (s : State) (e : Fin 21) (c : PlatCmd), s.plat.executing = some c → s.engineBusy c.cover e = false →
    Completes (.engineAcknowledge e) s fun t =>
      t = { s with plat := { s.plat with acks := setBit s.plat.acks e false } }) ∧
  -- R463
  (∀ (s : State) (i : Nat) (p : Option Nat) (g : Bool) (a n : Nat), s.atsQueued < 32 → s.plat.atsHeld = [] →
    Completes (.atsInvalidateRequest i p g a n) s fun t =>
      t = { s with plat := { s.plat with queue := s.plat.queue ++ [{ ticket := none, kind := 1, space := 0, pasid := p.getD 0, start := a, length := n, ats := some i, allPasids := g || p.isNone }] } }) ∧
  -- R465
  (∀ (s : State) (c : PlatCmd) (m : Bool), s.Inv → s.plat.executing = some c → s.plat.switching = some m →
      c = { ticket := none, kind := 3, space := 0, headland := true, modeSwitch := true } → s.plat.acks = 0 → s.flt.entries = [] →
      s.plat.atsHeld = [] →
    Completes (.xlateModeSwitchDone) s fun t =>
      t.plat.mode = m ∧ t.plat.switching = none ∧ t.plat.executing = none ∧ t.val O.splitWalk = b2n m ∧ s.Counts t O.modeSwitches ∧
      s.Counts t O.splitSwitches ∧ t.hbm = s.hbm ∧ t.reg = s.reg) ∧
  -- R428
  (∀ (s : State) (c : Fin 16384) (v : Word) (rid : Half), s.Inv → bit (s.pctxCtrl c) 63 = false → bit v.toNat 63 = true → fld v.toNat 19 0 ≠ 0 →
      s.ctxOf (fld v.toNat 19 0) = none →
    Completes (.pctxValid c v rid) s fun t =>
      t.pctxCtrl c = v.toNat &&& pctxMask ∧ t.od = s.od ∧ t.hbm = s.hbm ∧ t.plat = s.plat)

/-- For a lone walk in flight: WALKER_COMPLETION of one entry, a present level 0 leaf that grants the access, without ACCESSED and DIRTY and
without the user bit, installs its translation first and frees the walk slot. AD_CAS_COMPLETION with the compared value, for a write, does
the same with ACCESSED and DIRTY set. ATS_TRANSLATION_COMPLETION of one readable extent that covers the address installs it. ACRE_ENTRY_READ of a
valid entry that grants the access installs the acre. WALK_ERROR of a gleaner's walk counts, is raised with the address, and ends the plot's
program with XLATE_FAULT. -/
def Obligations.WalksComplete : Prop :=
  -- R434, R435
  (∀ (s : State) (w : Walk) (d : List Byte) (f : Tmpl) (e : Nat), s.plat.walks = [w] → w.kind = .table → w.issued = true → w.stale = false →
      s.host.tags = [] → s.plat.slotWait = [] → w.level = 0 → d.length = 8 → f = s.tmplOf w.ctx → e = leNat d → f.present e = true → f.adEn = false →
      f.userEn = false → w.noWrite = none → w.access = .read ∨ f.writes e = true →
    Completes (.walkerCompletion w.id d) s fun t =>
      t.plat.walks = [] ∧
      t.plat.cache.head? = some { pasid := w.pasid, space := .host, va := w.va / 2 ^ f.granule * 2 ^ f.granule, size := 2 ^ f.granule, base := .host (f.leafBase 0 e), r := true, w := f.writes e, a := f.writes e, source := .table } ∧
      t.hbm = s.hbm ∧ t.reg = s.reg) ∧
  -- R438
  (∀ (s : State) (w : Walk) (v : Word) (f : Tmpl), s.plat.walks = [w] → w.kind = .cas → w.issued = true → w.stale = false → s.host.tags = [] →
      s.plat.slotWait = [] → w.level = 0 → w.entry = v.toNat → f = s.tmplOf w.ctx → f.adEn = true → f.userEn = false → w.noWrite = none →
      w.access = .write → f.writes (f.mark w.entry true) = true → f.dirty (f.mark w.entry true) = true →
    Completes (.adCasCompletion w.id v) s fun t =>
      t.plat.walks = [] ∧
      t.plat.cache.head? = some { pasid := w.pasid, space := .host, va := w.va / 2 ^ f.granule * 2 ^ f.granule, size := 2 ^ f.granule, base := .host (f.leafBase 0 (f.mark w.entry true)), r := true, w := true, a := true, source := .table } ∧
      t.hbm = s.hbm ∧ t.reg = s.reg) ∧
  -- R443
  (∀ (s : State) (w : Walk) (x : AtsEntry), s.plat.walks = [w] → w.kind = .ats → w.issued = true → w.stale = false → s.host.tags = [] →
      s.plat.slotWait = [] → w.access = .read → x.r = true → x.va ≤ w.va → w.va < x.va + x.size →
    Completes (.atsTranslationCompletion w.id true [x]) s fun t =>
      t.plat.walks = [] ∧
      t.plat.cache.head? = some { pasid := w.pasid, space := .host, va := x.va, size := x.size, base := .host x.addr, r := x.r, w := x.w, a := x.w, source := .ats } ∧
      t.hbm = s.hbm ∧ t.reg = s.reg) ∧
  -- R445, R446
  (∀ (s : State) (w : Walk) (e : Nat), s.plat.walks = [w] → w.kind = .acre → w.stale = false → s.plat.slotWait = [] → s.pwr.scrub = [] →
      s.coh.scrubbing = [] → e = leNat (memRead s.hbm (s.acreBase w.ctx + 8 * (w.va / acreBytes)) 8) → bit e 0 = true → fld e 7 4 = 0 →
      fld e 63 21 = 0 → fld e 20 8 < hbmAcres → hasRight (bit e 1) (bit e 2) (bit e 3) w.access = true →
    Completes (.acreEntryRead w.id) s fun t =>
      t.plat.walks = [] ∧
      t.plat.cache.head? = some { pasid := w.pasid, space := .devlocal, va := w.va / acreBytes * acreBytes, size := acreBytes, base := .hbm (fld e 20 8 * acreBytes), r := bit e 1, w := bit e 2, a := bit e 3, source := .acre } ∧
      t.hbm = s.hbm ∧ t.reg = s.reg) ∧
  -- R440
  (∀ (s : State) (w : Walk) (p : Fin 16), s.Inv → s.plat.walks = [w] → w.kind = .table → w.issued = true → w.stale = false → s.host.tags = [] →
      s.plat.slotWait = [] → w.stream = .gleaner p → (s.plot p).ended = none →
    Completes (.walkError w.id) s fun t =>
      t.plat.walks = [] ∧ s.Counts t O.walkErrors ∧ t.fc.ring = s.fc.ring ++ [{ source := Sc.platWalkError, cap := { addr := some w.va } }] ∧
      (t.plot p).ended = some 0x20 ∧ t.plat.cache = s.plat.cache ∧ t.hbm = s.hbm)

/-- FAULT_RECORD_WRITE of the only entry, writes leaving at once and the ring neither off nor full, posts its record at the ring's index and opens a
batch. FAULT_BATCH_CLOSE publishes the index as FAULT_TAIL, at the end of the batch window at the earliest. FAULT_HEAD_WRITE of a head not past the tail
is stored. FAULT_CTRL_WRITE that enables the ring with accepted values is stored and starts the ring at 0. RETRY, FAIL and DENY of the only
entry, on which one gleaner waits, count and free it; RETRY also advances its handle's generation and leaves the plots,
      FAIL ends the plot's program with
XLATE_FAULT, DENY with XLATE_DENIED. MIGRATE_4K and MIGRATE_2M of it, where a parcel and an aligned target are at hand and nothing else works,
place a fault overlay over the page, count and free the entry, and leave the plots. -/
def Obligations.PageFaultRingCompletes : Prop :=
  -- R488, R490
  (∀ (s : State) (e : FaultEntry), s.WritesNow → s.Inv → s.faultRingOn = true → s.faultRingFull = false → s.flt.entries = [e] → e.pri = false →
      e.recorded = false → e.resolved = false → s.flt.waiting = [] → s.flt.batchOpen = none → 2 ≤ fld (s.rg Rg.faultCtrl) 14 8 →
    Completes (.faultRecordWrite) s fun t =>
      t.host.wire = s.host.wire ++ [{ kind := .memWrite, addr := s.faultRingBase + s.flt.index % 2 ^ s.faultRingLog2 * 32, data := s.faultRecord e, len := 32, owner := .faultRec s.flt.index }] ∧
      t.flt.index = (s.flt.index + 1) % 2 ^ 32 ∧ t.flt.batchOpen = some (1, s.now) ∧ t.flt.tail = s.flt.tail ∧
      t.flt.entries = [{ e with recorded := true, batch := s.flt.batch }] ∧ t.hbm = s.hbm) ∧
  -- R489
  (∀ (s : State) (n b : Nat), s.flt.batchOpen = some (n, b) →
    Completes (.faultBatchClose) s fun t =>
      t = { s with now := max s.now (b + fld (s.rg Rg.faultCtrl) 25 16 * 1000), flt := { s.flt with batch := (s.flt.batch + 1) % 2 ^ 16, batchOpen := none, tail := s.flt.index } }) ∧
  -- R492
  (∀ (s : State) (v : Word32) (rid : Half), s.Inv →
      (v.toNat + 2 ^ 32 - s.rg Rg.faultHead) % 2 ^ 32 ≤ (s.flt.tail + 2 ^ 32 - s.rg Rg.faultHead) % 2 ^ 32 →
    Completes (.faultHeadWrite v rid) s fun t =>
      t.rg Rg.faultHead = v.toNat ∧ t.flt.tail = s.flt.tail ∧ t.flt.entries = s.flt.entries ∧ t.hbm = s.hbm) ∧
  -- R492, R525
  (∀ (s : State) (v : Word) (rid : Half), s.Inv → bit (s.rg Rg.faultCtrl) 0 = false → bit v.toNat 0 = true → s.faultRingLog2 ≠ 0 →
      1 ≤ fld v.toNat 14 8 → fld v.toNat 14 8 ≤ 64 → 1 ≤ fld v.toNat 25 16 → fld v.toNat 25 16 ≤ 1000 →
    Completes (.faultCtrlWrite v rid) s fun t =>
      t.rg Rg.faultCtrl = v.toNat &&& 0x3FF7F01 ∧ t.rg Rg.faultHead = 0 ∧ t.flt.index = 0 ∧ t.flt.tail = 0 ∧ t.flt.batchOpen = none ∧
      t.flt.entries = s.flt.entries ∧ t.od = s.od) ∧
  -- R486, R493
  (∀ (s : State) (e : FaultEntry) (h : Fin 16384) (k : Half) (p : Fin 16) (va : Nat), s.Inv → s.flt.entries = [e] → e.handle = h → e.gen = k.toNat →
      e.resolved = false → e.pri = false → e.recorded = true → e.streams = [(.gleaner p, va)] → (s.plot p).ended = none → s.flt.waiting = [] →
    Completes (.retry h k) s fun t =>
      t.flt.entries = [] ∧ kvGet 0 t.flt.gens h = (e.gen + 1) % 2 ^ 16 ∧ s.Counts t O.responses ∧ t.plots = s.plots ∧ t.hbm = s.hbm ∧ t.reg = s.reg) ∧
  -- R486, R493
  (∀ (s : State) (e : FaultEntry) (h : Fin 16384) (k : Half) (p : Fin 16) (va : Nat), s.Inv → s.flt.entries = [e] → e.handle = h → e.gen = k.toNat →
      e.resolved = false → e.pri = false → e.recorded = true → e.streams = [(.gleaner p, va)] → (s.plot p).ended = none → s.flt.waiting = [] →
    Completes (.fail h k) s fun t =>
      t.flt.entries = [] ∧ s.Counts t O.responses ∧ (t.plot p).ended = some 0x20 ∧ t.hbm = s.hbm ∧ t.reg = s.reg) ∧
  -- R486, R493
  (∀ (s : State) (e : FaultEntry) (h : Fin 16384) (k : Half) (p : Fin 16) (va : Nat), s.Inv → s.flt.entries = [e] → e.handle = h → e.gen = k.toNat →
      e.resolved = false → e.pri = false → e.recorded = true → e.streams = [(.gleaner p, va)] → (s.plot p).ended = none → s.flt.waiting = [] →
    Completes (.deny h k) s fun t =>
      t.flt.entries = [] ∧ s.Counts t O.responses ∧ (t.plot p).ended = some 0x21 ∧ t.hbm = s.hbm ∧ t.reg = s.reg) ∧
  -- R507
  (∀ (s : State) (e : FaultEntry) (h : Fin 16384) (k : Half) (p : Fin 16) (va : Nat) (rid : Half) (i : Nat), s.Inv → s.flt.entries = [e] →
      e.handle = h → e.gen = k.toNat → e.resolved = false → e.pri = false → e.recorded = true → e.streams = [(.gleaner p, va)] →
      (s.plot p).ended = none → s.flt.waiting = [] → e.space = .host → e.reason = Rs.notPresent → s.freeReserved = some i →
      s.parcelsOf e.pasid < 1024 → s.rg Rg.faultTarget + 2 ^ 12 ≤ hbmBytes → s.rg Rg.faultTarget % 2 ^ 12 = 0 → s.host.tags = [] → s.drill.rows = [] →
      s.g.store = [] →
    Completes (.migrate4k h k rid) s fun t =>
      t.flt.entries = [] ∧ s.Counts t O.responses ∧
      kvGet {} t.plat.parcels i = { pasid := e.pasid, space := .host, start := e.page / 2 ^ 12 * 2 ^ 12, length := 2 ^ 12, target := .hbm (s.rg Rg.faultTarget), r := true, w := true, a := true, overlay := true, valid := true } ∧
      t.plots = s.plots ∧ t.hbm = s.hbm ∧ t.reg = s.reg) ∧
  -- R507
  (∀ (s : State) (e : FaultEntry) (h : Fin 16384) (k : Half) (p : Fin 16) (va : Nat) (rid : Half) (i : Nat), s.Inv → s.flt.entries = [e] →
      e.handle = h → e.gen = k.toNat → e.resolved = false → e.pri = false → e.recorded = true → e.streams = [(.gleaner p, va)] →
      (s.plot p).ended = none → s.flt.waiting = [] → e.space = .host → e.reason = Rs.notPresent → s.freeReserved = some i →
      s.parcelsOf e.pasid < 1024 → s.rg Rg.faultTarget + 2 ^ 21 ≤ hbmBytes → s.rg Rg.faultTarget % 2 ^ 21 = 0 → s.host.tags = [] → s.drill.rows = [] →
      s.g.store = [] →
    Completes (.migrate2m h k rid) s fun t =>
      t.flt.entries = [] ∧ s.Counts t O.responses ∧
      kvGet {} t.plat.parcels i = { pasid := e.pasid, space := .host, start := e.page / 2 ^ 21 * 2 ^ 21, length := 2 ^ 21, target := .hbm (s.rg Rg.faultTarget), r := true, w := true, a := true, overlay := true, valid := true } ∧
      t.plots = s.plots ∧ t.hbm = s.hbm ∧ t.reg = s.reg)

/-- BATCH_RETRY, BATCH_FAIL and BATCH_DENY of the batch of the only entry, on which one gleaner waits, count and free it; the last two end the
plot's program with XLATE_FAULT and XLATE_DENIED. FAULT_TIMEOUT of it counts, frees it and ends the program, FAULT_TIMEOUT_MS after it was made
at the earliest. PAGE_REQUEST_SEND of the only entry, writes leaving at once and PRI enabled,
      sends it as a group of one and counts. A PRG Response for the
group counts, frees its index and entry, and ends the program unless it is Success; Response Failure also stops later requests. One that matches no
group counts and sets its status bit. PRI_RESET frees every index and marks every entry as unsent. -/
def Obligations.BatchesAndPageRequestsComplete : Prop :=
  -- R493
  (∀ (s : State) (e : FaultEntry) (b : Half) (p : Fin 16) (va : Nat), s.Inv → s.flt.entries = [e] → e.batch = b.toNat → e.resolved = false →
      e.pri = false → e.recorded = true → e.streams = [(.gleaner p, va)] → (s.plot p).ended = none → s.flt.waiting = [] →
    Completes (.batchRetry b) s fun t =>
      t.flt.entries = [] ∧ s.Counts t O.responses ∧ t.plots = s.plots ∧ t.hbm = s.hbm ∧ t.reg = s.reg) ∧
  -- R493
  (∀ (s : State) (e : FaultEntry) (b : Half) (p : Fin 16) (va : Nat), s.Inv → s.flt.entries = [e] → e.batch = b.toNat → e.resolved = false →
      e.pri = false → e.recorded = true → e.streams = [(.gleaner p, va)] → (s.plot p).ended = none → s.flt.waiting = [] →
    Completes (.batchFail b) s fun t =>
      t.flt.entries = [] ∧ s.Counts t O.responses ∧ (t.plot p).ended = some 0x20 ∧ t.hbm = s.hbm ∧ t.reg = s.reg) ∧
  -- R493
  (∀ (s : State) (e : FaultEntry) (b : Half) (p : Fin 16) (va : Nat), s.Inv → s.flt.entries = [e] → e.batch = b.toNat → e.resolved = false →
      e.pri = false → e.recorded = true → e.streams = [(.gleaner p, va)] → (s.plot p).ended = none → s.flt.waiting = [] →
    Completes (.batchDeny b) s fun t =>
      t.flt.entries = [] ∧ s.Counts t O.responses ∧ (t.plot p).ended = some 0x21 ∧ t.hbm = s.hbm ∧ t.reg = s.reg) ∧
  -- R487
  (∀ (s : State) (e : FaultEntry) (h : Fin 16384) (p : Fin 16) (va : Nat), s.Inv → s.flt.entries = [e] → e.handle = h → e.resolved = false →
      e.pri = false → e.recorded = true → e.streams = [(.gleaner p, va)] → (s.plot p).ended = none → s.flt.waiting = [] → s.val O.faultTimeoutMs ≠ 0 →

    Completes (.faultTimeout h) s fun t =>
      t.flt.entries = [] ∧ s.Counts t O.faultTimeouts ∧ t.now = max s.now (e.createdAt + s.val O.faultTimeoutMs * 1000000) ∧
      (t.plot p).ended = some 0x20 ∧ t.hbm = s.hbm ∧ t.reg = s.reg) ∧
  -- R495
  (∀ (s : State) (e : FaultEntry), s.Inv → s.WritesNow → s.flt.entries = [e] → e.pri = true → e.resolved = false → e.prg = none → e.access = .read →
      e.priv = false → s.flt.prgs = [] → s.priEnable = true → s.flt.priResponseFailure = false → 0 < s.cfgv 0x17C →
    Completes (.pageRequestSend) s fun t =>
      t.flt.prgs = [(0, e.pasid, [e.handle])] ∧ t.flt.entries = [{ e with prg := some 0 }] ∧ s.Counts t O.pageRequests ∧ (∃ w,
      t.host.wire = s.host.wire ++ [w] ∧ w.kind = .prgLast ∧ w.addr = e.page ∧ w.pasid = some e.pasid ∧ w.data = [1])) ∧
  -- R495
  (∀ (s : State) (e : FaultEntry) (g : Fin 512) (q : Nat) (p : Fin 16) (va : Nat), s.Inv → s.host.frozen = false → s.flt.prgs = [(g.val, q,
      [e.handle])] → s.flt.entries = [e] → e.pri = true → e.resolved = false → e.prg = some g.val → e.streams = [(.gleaner p, va)] →
      (s.plot p).ended = none → s.flt.waiting = [] →
    Completes (.prgResponseSuccess g (some q)) s fun t =>
      t.flt.prgs = [] ∧ t.flt.entries = [] ∧ s.Counts t O.prgResponses ∧ t.plots = s.plots ∧ t.hbm = s.hbm ∧ t.reg = s.reg) ∧
  -- R495
  (∀ (s : State) (e : FaultEntry) (g : Fin 512) (q : Nat) (p : Fin 16) (va : Nat), s.Inv → s.host.frozen = false → s.flt.prgs = [(g.val, q,
      [e.handle])] → s.flt.entries = [e] → e.pri = true → e.resolved = false → e.prg = some g.val → e.streams = [(.gleaner p, va)] →
      (s.plot p).ended = none → s.flt.waiting = [] →
    Completes (.prgResponseInvalid g (some q)) s fun t =>
      t.flt.prgs = [] ∧ t.flt.entries = [] ∧ s.Counts t O.prgResponses ∧ (t.plot p).ended = some 0x20 ∧ t.hbm = s.hbm ∧ t.reg = s.reg) ∧
  -- R495
  (∀ (s : State) (e : FaultEntry) (g : Fin 512) (q : Nat) (p : Fin 16) (va : Nat), s.Inv → s.host.frozen = false → s.flt.prgs = [(g.val, q,
      [e.handle])] → s.flt.entries = [e] → e.pri = true → e.resolved = false → e.prg = some g.val → e.streams = [(.gleaner p, va)] →
      (s.plot p).ended = none → s.flt.waiting = [] →
    Completes (.prgResponseFailure g (some q)) s fun t =>
      t.flt.prgs = [] ∧ t.flt.entries = [] ∧ s.Counts t O.prgResponses ∧ (t.plot p).ended = some 0x20 ∧ t.flt.priResponseFailure = true ∧
      bit (t.cfgv 0x174) 16 = true ∧ t.hbm = s.hbm ∧ t.reg = s.reg) ∧
  -- R495
  (∀ (s : State) (g : Fin 512) (q : Option Nat), s.Inv → s.host.frozen = false → s.prgOf g q = none →
    Completes (.prgResponseUnexpected g q) s fun t =>
      s.Counts t O.prgUnexpected ∧ bit (t.cfgv 0x174) 17 = true ∧ t.flt = s.flt ∧ t.hbm = s.hbm ∧ t.reg = s.reg) ∧
  -- R496
  (∀ (s : State),
    Completes (.priReset) s fun t =>
      t = { s with flt := { s.flt with prgs := [], priResponseFailure := s.flt.priResponseFailure && s.priEnable, entries := s.flt.entries.map (fun e => { e with prg := none }) } })

/-- MIG_EPOCH halves the only access counter, of 2 or more. PROMOTION of the only hot region, with a free frame and no region in copy, begins: the frame is
taken, the region leaves the list and its INVAL_RANGE is queued; of a promotion in progress whose next page translates for write, it notes where
the page lies. PROMOTION_COPY_DONE with every page translated, all in HBM, marks the region as copied and queues the overlay's installation.
EVICTION of a clean overlay that has to go, nothing else at work, removes it and counts. MIG_WINDOW_WRITE of CTRL and START of a window that is not
valid, and MIG_POOL_WRITE of a pool within HBM in host mode with no overlay standing, are stored.
Of a line that the decoder covers and no coherent window holds, with nothing to scrub, CXL_MEM_READ without poison is answered with the
line and changes nothing else; CXL_MEM_WRITE of 64 bytes stores exactly them and is answered. COH_WINDOW_WRITE of a window that is not
valid, with a range within HBM, is stored. HOST_SNOOP of the only line held, modified, is answered with its data; an invalidating one takes the line,
      another leaves
it unmodified. -/
def Obligations.MigrationAndCoherenceComplete : Prop :=
  -- R497
  (∀ (s : State) (i : Nat) (c : AccCounter), s.mig.counters = [(i, c)] → s.mig.skipped = [] → c.marked = false → 2 ≤ c.count →
    Completes (.migEpoch) s fun t =>
      t.mig.epoch = s.mig.epoch + 1 ∧ t.mig.counters = [(i,
      { c with count := c.count / 2, hot := c.hot && decide (s.val O.migHotThreshold ≤ 2 * (c.count / 2)) })] ∧ t.mig.hot = s.mig.hot ∧ t.od = s.od ∧
      t.reg = s.reg) ∧
  -- R500
  (∀ (s : State) (k : Nat) (p r f : Nat), s.mig.hot = [(p, r)] → s.mig.hostMode = false → s.mig.copying = none → s.mayRequest = true →
      s.inWindow p r (2 ^ 21) = true → s.regionBarred p r = false → s.freeFrame = some f → s.mig.counters = [] → s.plat.atsHeld = [] →
    Completes (.promotion k) s fun t =>
      t.mig.copying = some { pasid := p, region := r, frame := f } ∧ t.mig.hot = [] ∧ t.plat.queue = s.plat.queue ++ [regionInval p r] ∧
      t.reg = s.reg ∧ t.hbm = s.hbm ∧ t.od = s.od) ∧
  -- R500
  (∀ (s : State) (c : Promotion) (x : Target) (n : Nat), s.mig.copying = some c → s.ownPending .region = false → s.mayRequest = true →
      s.mig.fails = [] → c.pages.length < 512 → (s.lookup (migWho false c.pasid) .host (c.region + c.pages.length * 4096) .write).2 = .at_ x n →
    Completes (.promotion 1) s fun t =>
      t.mig.copying = some { c with pages := c.pages ++ [x] } ∧ t.reg = s.reg ∧ t.hbm = s.hbm) ∧
  -- R500
  (∀ (s : State) (h : HostRead) (c : Promotion) (i : Nat), s.Inv → s.mig.copying = some c → c.copied = false → c.pages.length = 512 →
      c.pages.all (fun x => match x with | .hbm _ => true | _ => false) = true → s.mayRequest = true → s.ownPending .region = false →
      s.freeReserved = some i → s.parcelsOf c.pasid < 1024 → s.pwr.scrub = [] → s.coh.snoopFilter = [] → s.coh.scrubbing = [] → s.host.poison = [] →
      s.mig.counters = [] → s.plat.atsHeld = [] →
    Completes (.promotionCopyDone h) s fun t =>
      t.mig.copying = some { c with copied := true } ∧ t.plat.queue = s.plat.queue ++ [overlayInstall i c.pasid c.region c.frame] ∧ t.reg = s.reg) ∧
  -- R503
  (∀ (s : State) (i : Fin 65536) (n : Nat) (p : Parcel), s.Inv → s.plat.parcels = [(i.val, p)] → p.valid = true → p.z20 = true →
      s.evictionDue i p = true → s.mig.evicting = none → s.mayRequest = true → p.dirty = [] → s.host.tags = [] → s.drill.rows = [] → s.g.store = [] →
    Completes (.eviction i n) s fun t =>
      t.plat.parcels = [] ∧ s.Counts t O.evictions ∧ t.host.wire = s.host.wire ∧ t.hbm = s.hbm ∧ t.reg = s.reg) ∧
  -- R499
  (∀ (s : State) (w : Fin 64) (v : Word) (rid : Half), s.Inv → bit (s.rg (Rg.migWindow w 0)) 63 = false →
    Completes (.migWindowWrite w 0 v rid) s fun t =>
      t.rg (Rg.migWindow w 0) = v.toNat &&& (2 ^ 63 + 0xFFFFF) ∧ t.od = s.od ∧ t.hbm = s.hbm ∧ t.mig = s.mig) ∧
  -- R499
  (∀ (s : State) (w : Fin 64) (v : Word) (rid : Half), s.Inv → bit (s.rg (Rg.migWindow w 0)) 63 = false →
    Completes (.migWindowWrite w 1 v rid) s fun t =>
      t.rg (Rg.migWindow w 8) = v.toNat / 2 ^ 21 * 2 ^ 21 ∧ t.rg (Rg.migWindow w 0) = s.rg (Rg.migWindow w 0) ∧ t.od = s.od ∧ t.hbm = s.hbm) ∧
  -- R501, R526
  (∀ (s : State) (v : Word) (rid : Half), s.Inv → s.mig.hostMode = true → s.z20Overlays = [] → fld v.toNat 12 0 < hbmAcres →
      fld v.toNat 12 0 + fld v.toNat 28 16 ≤ hbmAcres →
    Completes (.migPoolWrite v rid) s fun t =>
      t.rg Rg.migPool = v.toNat &&& 0x1FFF1FFF ∧ t.od = s.od ∧ t.hbm = s.hbm ∧ t.mig = s.mig) ∧
  -- R508
  (∀ (s : State) (l : Nat), s.cxlOn = true → s.pwr.mode = .up → s.host.frozen = false → s.host.power = .d0 → l * 64 < s.coh.hdmSize →
      s.cohWindowOf (l * 64) = none → s.pwr.scrub = [] → s.coh.scrubbing = [] → s.host.poison = [] →
    Completes (.cxlMemRead l) s fun t =>
      t = { s with coh := { s.coh with rsp := s.coh.rsp ++ [{ line := l, data := memRead s.hbm (l * 64) 64 }] } }) ∧
  -- R508
  (∀ (s : State) (l : Nat) (d : List Byte) (k : Bool), s.Inv → s.cxlOn = true → s.pwr.mode = .up → s.host.frozen = false → s.host.power = .d0 →
      l * 64 < s.coh.hdmSize → s.cohWindowOf (l * 64) = none → s.pwr.scrub = [] → s.coh.scrubbing = [] → d.length = 64 →
    Completes (.cxlMemWrite l d false k) s fun t =>
      t.coh = { s.coh with rsp := s.coh.rsp ++ [{ line := l }] } ∧ (∀ x, memByte t.hbm x = byteAfter s.hbm (l * 64) (enAll d) x) ∧ t.od = s.od ∧
      t.reg = s.reg) ∧
  -- R510, R527
  (∀ (s : State) (k : Fin 16) (v : Word) (rid : Half), s.Inv → bit (s.rg (Rg.cohWindow k)) 63 = false → fld v.toNat 12 0 < hbmAcres →
      fld v.toNat 12 0 + fld v.toNat 28 16 ≤ hbmAcres → 0 < fld v.toNat 28 16 →
    Completes (.cohWindowWrite k v rid) s fun t =>
      t.rg (Rg.cohWindow k) = v.toNat &&& (2 ^ 63 + 0x1FFF1FFF) ∧ t.od = s.od ∧ t.hbm = s.hbm ∧ t.coh = s.coh) ∧
  -- R516
  (∀ (s : State) (l : Nat) (d : List Byte), s.cxlOn = true → s.coh.dcc = [(l, true, d)] →
    Completes (.hostSnoop l true) s fun t =>
      t = { s with coh := { s.coh with dcc := [], rsp := s.coh.rsp ++ [{ line := l, data := d }] } }) ∧
  -- R516
  (∀ (s : State) (l : Nat) (d : List Byte), s.cxlOn = true → s.coh.dcc = [(l, true, d)] →
    Completes (.hostSnoop l false) s fun t =>
      t = { s with coh := { s.coh with dcc := [(l, false, d)], rsp := s.coh.rsp ++ [{ line := l, data := d }] } })

/-- With firmware running, the controller READY, the NAND not paused and a command that is not refused, LOT_CMD_STATUS reads success of the command, and
HBM and registers stay. CREATE within the capacity makes the lot EMPTY with a key of its own; DELETE drops its generations and hands its key to
destruction; DRAFT_OPEN of a lot of one generation opens a draft on it; DRAFT_COMMIT of an untainted draft, generation numbers being left,
      makes it the
newest generation and the lot READY; DRAFT_ABORT discards it; REBIND changes the binding. With programs possible, KEY_DESTROY_DONE frees the only
lot, which was being deleted, and CHECKPOINT_REWRITE leaves no record since the checkpoint, 60 s after the last one at the earliest unless 4,096
records have gathered. -/
def Obligations.LotCommandsComplete : Prop :=
  -- R697
  (∀ (s : State) (c : LotCmd), s.Inv → s.hl.running = true → s.seed.state = .ready → s.pwr.nandPause = false → s.lotRefused 1 c = 0 →
      s.lotReserved + 3 * c.size * acreBytes ≤ s.val O.lotCapacity →
    Completes (.lotCreate c) s fun t =>
      t.lot c.lot = { state := .empty, pasid := c.pasid, size := c.size, dlvBase := c.base, rights := c.rights, key := s.seed.nextKey } ∧
      t.seed.nextKey = s.seed.nextKey + 1 ∧ t.val O.lotCmdStatus = 1 * 2 ^ 16 ∧ t.hbm = s.hbm ∧ t.reg = s.reg) ∧
  -- R697, R706
  (∀ (s : State) (c : LotCmd) (l : Lot), s.Inv → s.hl.running = true → s.seed.state = .ready → s.pwr.nandPause = false → s.lotRefused 2 c = 0 →
      l = s.lot c.lot →
    Completes (.lotDelete c) s fun t =>
      t.lot c.lot = { l with state := .deleting, gens := [], key := 0 } ∧ t.seed.wrapped = s.seed.wrapped ++ [(c.lot, l.key, s.now)] ∧
      t.val O.lotCmdStatus = 2 * 2 ^ 16 ∧ t.hbm = s.hbm ∧ t.reg = s.reg) ∧
  -- R697
  (∀ (s : State) (c : LotCmd) (l : Lot) (g : Gen), s.Inv → s.hl.running = true → s.seed.state = .ready → s.pwr.nandPause = false →
      s.lotRefused 3 c = 0 → l = s.lot c.lot → l.gens = [g] →
    Completes (.draftOpen c) s fun t =>
      t.lot c.lot = { l with state := .draft, draft := some { base := some g.num, prior := l.state } } ∧ t.val O.lotCmdStatus = 3 * 2 ^ 16 ∧
      t.hbm = s.hbm ∧ t.reg = s.reg) ∧
  -- R697, R698
  (∀ (s : State) (c : LotCmd) (l : Lot) (d : Draft), s.Inv → s.hl.running = true → s.seed.state = .ready → s.pwr.nandPause = false →
      s.lotRefused 4 c = 0 → l = s.lot c.lot → l.draft = some d → d.tainted = false → l.nextGen ≤ 0xFFFFFFFE →
    Completes (.draftCommit c) s fun t =>
      (t.lot c.lot).state = .ready ∧ (t.lot c.lot).draft = none ∧
      (t.lot c.lot).gens.head? = some { num := l.nextGen, base := d.base, data := d.data } ∧ (t.lot c.lot).pasid = l.pasid ∧
      (t.lot c.lot).key = l.key ∧ t.val O.lotCmdStatus = 4 * 2 ^ 16 ∧ t.hbm = s.hbm ∧ t.reg = s.reg) ∧
  -- R697
  (∀ (s : State) (c : LotCmd) (l : Lot) (d : Draft), s.Inv → s.hl.running = true → s.seed.state = .ready → s.pwr.nandPause = false →
      s.lotRefused 5 c = 0 → l = s.lot c.lot → l.draft = some d →
    Completes (.draftAbort c) s fun t =>
      t.lot c.lot = { l with state := d.prior, draft := none } ∧ t.val O.lotCmdStatus = 5 * 2 ^ 16 ∧ t.hbm = s.hbm ∧ t.reg = s.reg) ∧
  -- R697
  (∀ (s : State) (c : LotCmd) (l : Lot), s.Inv → s.hl.running = true → s.seed.state = .ready → s.pwr.nandPause = false → s.lotRefused 6 c = 0 →
      l = s.lot c.lot →
    Completes (.rebind c) s fun t =>
      t.lot c.lot = { l with pasid := c.pasid, dlvBase := c.base, rights := c.rights } ∧ t.val O.lotCmdStatus = 6 * 2 ^ 16 ∧ t.hbm = s.hbm ∧
      t.reg = s.reg) ∧
  -- R706
  (∀ (s : State) (k : Fin 16384) (l : Lot) (i m : Nat), s.nandPrograms = true → s.seed.lots = [(k.val, l)] → l.state = .deleting →
      s.seed.wrapped = [(k.val, i, m)] →
    Completes (.keyDestroyDone k) s fun t =>
      t.lot k = {} ∧ t.seed.wrapped = [] ∧ t.seed.records = 0 ∧ t.od = s.od ∧ t.hbm = s.hbm) ∧
  -- R702
  (∀ (s : State), s.nandPrograms = true →
    Completes (.checkpointRewrite) s fun t =>
      t.seed = { s.seed with records := 0, checkpointAt := t.now } ∧
      t.now = (if 4096 ≤ s.seed.records then s.now else max s.now (s.seed.checkpointAt + 60000000000)) ∧ t.od = s.od ∧ t.hbm = s.hbm)

/-- SCRUB of a band, nothing lost, stores what its full read found and counts retries. BAND_REFRESH of the only band, where it needs one, and WEAR_MOVE,
where the spread of wear is too wide, put it into a free band under its lot and generation, and count. PROGRAM_FAIL_RETIRE of a block not yet bad,
fewer than 256 being bad on its die, makes it bad, uses a spare or loses a band, and counts. SEED_DIE_FAILED of a READY controller marks die and
blocks bad and raises its source. FTL_FORMAT_DONE leaves the seedbank READY and empty and counts the format and the switch. SEED_THERM_OFF with nothing at
work turns it off and raises its source; SEED_THERM_RETURN in hardware mode starts the replay, 10 s below the limit at the earliest. -/
def Obligations.SeedbankUpkeepCompletes : Prop :=
  -- R709
  (∀ (s : State) (k : Fin 15616) (r : BandRead) (b : Band), s.Inv → kvFind s.seed.bands k = some b → s.ftlUp = true → r.lost = [] → r.order = none →
      r.blocks = [] →
    Completes (.scrub k r) s fun t =>
      kvFind t.seed.bands k = some { b with readAt := s.now, reads := b.reads + 1, age := r.age, step := r.step, bits := r.bits, rebuilt := decide (0 < r.rebuilt) } ∧
      t.seed.lots = s.seed.lots ∧ t.val O.retryReads = (s.val O.retryReads + r.retries) % 2 ^ 64 ∧ t.hbm = s.hbm) ∧
  -- R708, R709
  (∀ (s : State) (k : Fin 15616) (b : Band) (j : Nat), s.Inv → s.nandPrograms = true → s.seed.bands = [(k.val, b)] → s.needsRefresh b = true →
      s.freeBand true = some j →
    Completes (.bandRefresh k) s fun t =>
      t.seed.bands = [(j, { lot := b.lot, gen := b.gen, cycles := s.freePe j + 1, readAt := s.now })] ∧ t.seed.lots = s.seed.lots ∧ t.hbm = s.hbm ∧
      s.Counts t O.refreshes) ∧
  -- R708
  (∀ (s : State) (k : Fin 15616) (b : Band) (j : Nat), s.Inv → s.nandPrograms = true → s.seed.bands = [(k.val, b)] →
      s.val O.wearSpread < s.peMax - s.peMin → s.freeBand false = some j →
    Completes (.wearMove) s fun t =>
      t.seed.bands = [(j, { lot := b.lot, gen := b.gen, cycles := s.freePe j + 1, readAt := s.now })] ∧ t.seed.lots = s.seed.lots ∧ t.hbm = s.hbm ∧
      s.Counts t O.wearMoves) ∧
  -- R694
  (∀ (s : State) (b : Fin 131072) (e : Bool), s.Inv → s.ftlUp = true → s.seed.bad.contains b = false →
      (s.seed.bad.filter (fun x => x / 2048 == b.val / 2048)).length < 256 →
    Completes (.programFailRetire b e) s fun t =>
      t.seed.bad.contains b.val = true ∧ t.seed.spareUsed = s.seed.spareUsed + (if s.spareLeft = 0 then 0 else 1) ∧
      t.seed.lostBands = s.seed.lostBands + (if s.spareLeft = 0 then 1 else 0) ∧ t.val O.grownBad = (s.val O.grownBad + 1) ∧
      t.seed.lots = s.seed.lots ∧ (e = false → { source := Sc.seedProgramFail } ∈ t.fc.ring) ∧ t.hbm = s.hbm) ∧
  -- R694
  (∀ (s : State) (d : Fin 64), s.Inv → s.seed.state = .ready → bit (s.val O.diesFailed) d = false →
    Completes (.seedDieFailed d) s fun t =>
      bit (t.val O.diesFailed) d = true ∧ (∀ b : Fin 2048, t.seed.bad.contains (2048 * d.val + b) = true) ∧
      { source := Sc.seedDieFailed } ∈ t.fc.ring ∧ t.seed.lots = s.seed.lots ∧ t.hbm = s.hbm) ∧
  -- R711
  (∀ (s : State), s.Inv → s.seed.state = .formatting →
    Completes (.ftlFormatDone) s fun t =>
      t.seed.state = .ready ∧ t.seed.lots = [] ∧ t.seed.bands = [] ∧ t.seed.raw = [] ∧ t.seed.formats = s.seed.formats + 1 ∧
      s.Counts t O.splitSwitches ∧ t.hbm = s.hbm) ∧
  -- R710
  (∀ (s : State), s.seed.state = .ready → s.rot.entries = [] → s.seed.waiting = none → s.g.store = [] → s.drill.rows = [] →
    Completes (.seedThermOff) s fun t =>
      t.seed.state = .off ∧ t.seed.lots = s.seed.lots ∧ s.Raises t Sc.seedThermOff ∧ t.od = s.od ∧ t.hbm = s.hbm) ∧
  -- R710
  (∀ (s : State) (m : Nat), s.seed.coolSince = some m → s.seed.state = .off → s.hl.running = true → s.seed.unformatted = false →
      bit (s.val O.splitFtl) 0 = false →
    Completes (.seedThermReturn) s fun t =>
      t.seed.state = .replaying ∧ t.seed.lots = s.seed.lots ∧ t.now = max s.now (m + 10000000000) ∧ t.od = s.od)

/-- The only descriptor, started, whose die's turn it is and which the checks pass: SEED_READ and SEED_PROGRAM of a furrow with BYPASS, of a buffer in host
memory that is reached at once, with the host's answer whole and not poisoned: the read, nothing lost,
      ends with 0 and what the pages' reads found and counts
the retries; the program ends with 0 or SEED_PROGRAM_FAIL and its block is programmed up to the pages it names. SEED_ERASE that succeeds empties the block and
counts a cycle. MARK_BAD puts the block in the bad-block table. HBM stays.
REAP_START and GO_REAP of the only entry, SOWN, that does not keep its acres, generation numbers being left, with no line of the acre table for the
host to give up and a place in the executor's queue of the Headland, begin its reap: its range's invalidation is queued. REAP_COMPLETE of one acre,
      with no poison and nothing to snoop or scrub, commits the lot's next generation, which holds the
acre's bytes, and the entry leaves the queue as DONE and counts. TRAIN_LIMIT_EXPIRY of the only entry, SOWN, sets the ROTATION cause,
      at the entry's limit
at the earliest. -/
def Obligations.SeedDescriptorsAndReapsComplete : Prop :=
  -- R712, R713
  (∀ (s : State) (n : Fin 4096) (q : Nat) (r : NandResult) (x : Slot), s.Inv → s.seedDesc n q 0 = some x → s.seedTurn n q x.d = true →
      s.seedOpCheck x.d = 0 → s.g.store = [x] → s.furBypass n = true → s.mayRequest = true → x.d.bspace = 0 → x.d.raw = false → x.d.noRetry = false →
      r.lost = [] →
    Completes (.seedRead n q r) s fun t =>
      (t.slot n q).map (fun y => y.result) = some (some (0, r.step % 256 + r.bits % 256 * 256, 0)) ∧
      t.val O.retryReads = (s.val O.retryReads + r.retries) % 2 ^ 64 ∧ t.seed = s.seed ∧ t.hbm = s.hbm) ∧
  -- R712, R713
  (∀ (s : State) (n : Fin 4096) (q : Nat) (r : NandResult) (x : Slot), s.Inv → s.seedDesc n q 1 = some x → s.seedTurn n q x.d = true →
      s.seedOpCheck x.d = 0 → s.g.store = [x] → s.pwr.nandPause = false → s.furBypass n = true → s.mayRequest = true → s.tagRoom false = true →
      s.freeTag.isSome = true → s.hopperFree (min (x.d.count * x.d.pageBytes * 4) s.maxRead) = true → x.d.bspace = 0 → x.d.raw = false →
      r.host.fail = none → r.host.data.all (fun y => !y.2) = true →
    Completes (.seedProgram n q r) s fun t =>
      (t.slot n q).map (fun y => y.result) = some (some (if r.failed then 0x300 else 0, 0, 0)) ∧
      (kvGet {} t.seed.blocks (nBlockId x.d.naddr)).next = some (nPage x.d.naddr + x.d.count) ∧ t.seed.bad = s.seed.bad ∧ t.hbm = s.hbm) ∧
  -- R712
  (∀ (s : State) (n : Fin 4096) (q : Nat) (r : NandResult) (x : Slot), s.seedDesc n q 2 = some x → s.seedTurn n q x.d = true → s.seedOpCheck x.d = 0 →
      s.g.store = [x] → s.pwr.nandPause = false → r.failed = false →
    Completes (.seedErase n q r) s fun t =>
      (t.slot n q).map (fun y => y.result) = some (some (0, 0, 0)) ∧
      kvGet {} t.seed.blocks (nBlockId x.d.naddr) = { pe := (kvGet {} s.seed.blocks (nBlockId x.d.naddr)).pe + 1, next := some 0 } ∧
      t.seed.raw = memZero s.seed.raw (nandAddr (nBlockId x.d.naddr) 0 0 0) (nandAddr (nBlockId x.d.naddr + 1) 0 0 0) ∧ t.hbm = s.hbm) ∧
  -- R712
  (∀ (s : State) (n : Fin 4096) (q : Nat) (r : NandResult) (x : Slot), s.seedDesc n q 3 = some x → s.seedTurn n q x.d = true → s.seedOpCheck x.d = 0 →
      s.g.store = [x] →
    Completes (.markBad n q r) s fun t =>
      (t.slot n q).map (fun y => y.result) = some (some (0, 0, 0)) ∧ t.seed.bad.contains (nBlockId x.d.naddr) = true ∧ t.seed.blocks = s.seed.blocks ∧
      t.hbm = s.hbm) ∧
  -- R718, R719
  (∀ (s : State) (e : RotEntry), s.reapRuns = true → s.rot.entries = [e] → e.state = .sown → e.keep = false → (s.lot e.lot).nextGen ≤ 0xFFFFFFFE →
      s.seed.state = .ready → (s.acreTableGo (s.lot e.lot) true).2 = true → s.plat.atsHeld = [] → s.plat.ownHeld = [] → s.ownQueued < 8 →
      s.nextReap = some e →
    Completes (.reapStart) s fun t =>
      t.rot.entries = [{ e with state := .reaping, step := 1, want := 0 }] ∧
      t.plat.queue = s.plat.queue ++ [{ ticket := none, headland := true, kind := 1, space := 1, pasid := (s.lot e.lot).pasid, start := (s.lot e.lot).dlvBase * acreBytes, length := (s.lot e.lot).size * acreBytes, own := .reap e.ticket }] ∧
      t.seed = s.seed ∧ t.od = s.od) ∧
  -- R716, R719
  (∀ (s : State) (k : Word32) (e : RotEntry), s.reapRuns = true → s.rot.entries = [e] → e.state = .sown → e.keep = false →
      (s.lot e.lot).nextGen ≤ 0xFFFFFFFE → s.seed.state = .ready → (s.acreTableGo (s.lot e.lot) true).2 = true → s.plat.atsHeld = [] →
      s.plat.ownHeld = [] → s.ownQueued < 8 → s.hl.running = true → e.ticket = k.toNat →
    Completes (.goReap k) s fun t =>
      t.rot.entries = [{ e with state := .reaping, step := 1, want := 0 }] ∧
      t.plat.queue = s.plat.queue ++ [{ ticket := none, headland := true, kind := 1, space := 1, pasid := (s.lot e.lot).pasid, start := (s.lot e.lot).dlvBase * acreBytes, length := (s.lot e.lot).size * acreBytes, own := .reap e.ticket }] ∧
      t.seed = s.seed ∧ t.od = s.od) ∧
  -- R718
  (∀ (s : State) (e : RotEntry) (a : Nat) (l : Lot) (d : Draft), s.Inv → s.nandPrograms = true → s.seed.state = .ready → s.rot.entries = [e] →
      e.state = .reaping → e.step = 2 → e.acres = [a] → e.keep = false → e.reapSig = false → l = s.lot e.lot → l.draft = some d →
      l.state = .rotating → l.nextGen ≤ 0xFFFFFFFE → s.host.poison = [] → s.coh.snoopFilter = [] → s.pwr.scrub = [] → s.coh.scrubbing = [] →
    Completes (.reapComplete) s fun t =>
      t.rot.entries = [] ∧
      (t.lot e.lot).gens.head? = some { num := l.nextGen, base := d.base, data := moveCells s.hbm (a * acreBytes) ((a + 1) * acreBytes) 0 } ∧
      (t.lot e.lot).state = .ready ∧ (t.lot e.lot).draft = none ∧ s.Counts t O.reaps ∧ t.rot.past.head?.map (fun (x : RotEntry) => (x.ticket, x.state,
      x.genCommitted)) = some (e.ticket, .done, l.nextGen) ∧ t.hbm = s.hbm) ∧
  -- R719
  (∀ (s : State) (k : Word32) (e : RotEntry), s.Inv → s.rot.entries = [e] → e.ticket = k.toNat → e.state = .sown → e.limitPassed = false →
      e.trainLimit ≠ 0 →
    Completes (.trainLimitExpiry k) s fun t =>
      t.rot.entries = [{ e with limitPassed := true }] ∧ t.now = max s.now (e.sownAt + e.trainLimit * 1000000000) ∧
      bit (t.rg Rg.attnCause) At.rotation = true ∧ t.seed = s.seed ∧ t.od = s.od ∧ t.hbm = s.hbm)

/-- ROT_SUBMIT on a served route, of an entry without a reserved encoding, of a READY lot, with fewer than 256 entries, queues it under its ticket and its
lot becomes ROTATING. SOW_START and GO_SOW of the only entry, QUEUED, whose checks pass, whose lot fits the free acres and whose acre-table
lines the host need not give up, with nothing to scrub, make it SOWING with the lowest free acres. SOW_COMPLETE of the only entry,
      which sows zeros into one acre, with a place in the
executor's queue of the Headland, zeroes the acre, writes its acre-table entry and queues the engine's
invalidation; INVALIDATION_COMPLETE, every engine having acknowledged,
      makes an entry that sows zeros and signals no stake SOWN, and counts. CANCEL of the
only entry, QUEUED, takes it from the queue as FAILED, gives its lot back, counts and sets the ROTATION cause. ROT_POOL_WRITE of an accepted pool
while no acre of it is in use stores it. ROT_POOL_RESET with its key lifts the quarantine. -/
def Obligations.RotationSowsComplete : Prop :=
  -- R715
  (∀ (s : State) (r : Route) (b : List Byte) (l : Lot), s.served r 0x620003 = true → b.length = 32 → s.seed.state = .ready →
      s.rotEntryBad (parseEntry s.rot.next b) = false → bit (s.val O.splitFtl) 0 = false → l = s.lot (parseEntry s.rot.next b).lot →
      l.state = .ready → s.seed.waiting = none → s.rot.entries.length < 256 →
    Completes (.rotSubmit r b) s fun t =>
      t.rot.entries = s.rot.entries ++ [parseEntry s.rot.next b] ∧ t.rot.next = s.rot.next + 1 ∧
      t.lot (parseEntry s.rot.next b).lot = { l with state := .rotating } ∧ t.od = s.od ∧ t.hbm = s.hbm) ∧
  -- R717, R719
  (∀ (s : State) (e : RotEntry), s.rotRuns = true → s.rot.entries = [e] → e.state = .queued → (s.hlWork.sowCheck e).2 = 0 →
      (s.lot e.lot).size ≤ s.acresFree.length → s.pwr.scrub = [] → (s.acreTableGo (s.lot e.lot) false).2 = true → s.nextSow = some e →
    Completes (.sowStart) s fun t =>
      t.rot.entries = [{ e with state := .sowing, step := 3, want := 0, acres := s.acresFree.take (s.lot e.lot).size }] ∧ t.seed = s.seed ∧
      t.od = s.od ∧ t.hbm = s.hbm) ∧
  -- R719
  (∀ (s : State) (k : Word32) (e : RotEntry), s.rotRuns = true → s.rot.entries = [e] → e.state = .queued → (s.hlWork.sowCheck e).2 = 0 →
      (s.lot e.lot).size ≤ s.acresFree.length → s.pwr.scrub = [] → (s.acreTableGo (s.lot e.lot) false).2 = true → s.hl.running = true →
      s.val O.splitRotation = 1 → e.ticket = k.toNat →
    Completes (.goSow k) s fun t =>
      t.rot.entries = [{ e with state := .sowing, step := 3, want := 0, acres := s.acresFree.take (s.lot e.lot).size }] ∧ t.seed = s.seed ∧
      t.od = s.od ∧ t.hbm = s.hbm) ∧
  -- R717
  (∀ (s : State) (e : RotEntry) (a c : Nat) (l : Lot), s.Inv → s.ftlUp = true → s.rot.entries = [e] → e.state = .sowing → e.step = 3 → e.acres = [a] →
      e.gen = noGen → l = s.lot e.lot → l.size = 1 → l.rights < 8 → a < 6144 → s.ctxOf l.pasid = some c → s.coh.snoopFilter = [] → s.pwr.scrub = [] →
      s.coh.scrubbing = [] → s.acreEntryAt c l.dlvBase / acreBytes ≠ a → s.plat.atsHeld = [] → s.plat.ownHeld = [] → s.ownQueued < 8 →
    Completes (.sowComplete) s fun t =>
      t.rot.entries = [{ e with step := 5 }] ∧ (∀ x, a * acreBytes ≤ x → x < (a + 1) * acreBytes → memByte t.hbm x = memDefault) ∧
      memRead t.hbm (s.acreEntryAt c l.dlvBase) 8 = natLe 8 (1 + l.rights * 2 + a * 256) ∧
      t.plat.queue = s.plat.queue ++ [{ ticket := none, headland := true, kind := 1, space := 1, pasid := l.pasid, start := l.dlvBase * acreBytes, length := acreBytes, own := .sow e.ticket }] ∧
      t.od = s.od) ∧
  -- R453, R462, R717
  (∀ (s : State) (c : PlatCmd) (e : RotEntry), s.Inv → s.plat.executing = some c → s.plat.acks = 0 → c.modeSwitch = false → c.kind = 1 →
      c.ats = none → c.ticket = none → c.headland = true → c.own = .sow e.ticket → s.rot.entries = [e] → e.state = .sowing → e.step = 5 →
      e.gen = noGen → e.sowSig = false → s.flt.entries = [] → s.plat.atsHeld = [] →
    Completes (.invalidationComplete) s fun t =>
      t.plat.executing = none ∧
      t.rot.entries = [{ e with state := .sown, code := 0, genSown := noGen, tSown := s.rackTime, sownAt := s.now, step := 0, held := true }] ∧
      s.Counts t O.commands ∧ s.Counts t O.sows ∧ t.hbm = s.hbm ∧ t.reg = s.reg) ∧
  -- R716
  (∀ (s : State) (k : Word32) (e : RotEntry) (l : Lot), s.Inv → s.hl.running = true → s.seed.state = .ready → s.rot.entries = [e] →
      e.ticket = k.toNat → e.state = .queued → e.acres = [] → l = s.lot e.lot → l.state = .rotating →
    Completes (.cancel k) s fun t =>
      t.rot.entries = [] ∧ t.rot.past.head?.map (fun (x : RotEntry) => (x.ticket, x.state, x.code)) = some (e.ticket, .failed, 0x31A) ∧
      t.lot e.lot = { l with state := l.rest } ∧ s.Counts t O.rotFailed ∧ bit (t.rg Rg.attnCause) At.rotation = true ∧ t.hbm = s.hbm) ∧
  -- R720
  (∀ (s : State) (v : Word32), s.Inv → s.hl.running = true → s.seed.state = .ready → s.rotPoolBad v.toNat = false → s.acresOwned = [] →
    Completes (.rotPoolWrite v) s fun t =>
      t.val O.rotPool = v.toNat &&& 0x1FFF1FFF ∧ t.rot = s.rot ∧ t.reg = s.reg ∧ t.hbm = s.hbm) ∧
  -- R722
  (∀ (s : State), s.hl.running = true → s.seed.state = .ready →
    Completes (.rotPoolReset 0x5EED0A0A) s fun t =>
      t.rot = { s.rot with quarantined := false } ∧ t.od = s.od ∧ t.hbm = s.hbm ∧ t.seed = s.seed)

/-- FAULT_EVENT of the oldest event of the sideband ring, or of one that the host link's logic reports, of a source without level that is CORRECTED in force,
does not escalate and records: the source counts it, is STICKY and LIVE with its first capture, and it takes the only staging entry. RAIL_SAMPLE of a
powered die 10 microseconds on: an unequal pair clears the rail's agreement, the first agreeing pair sets it and changes nothing else,
      and a second pair on
a line that has not faulted registers the rail's source. FATAL_UNSPEC of the only die whose high level stands unexplained,
      in a fenced package outside a
slice, the die doing nothing, registers its unspecified fatal source,
      2 microseconds later at the earliest. ESC_WINDOW_CLOSE and SOURCE_QUIET end window and
LIVE, at their times at the earliest; the quiet source keeps STICKY. LEVEL_CONDITION_END of a condition that holds no longer drops LIVE. STICKY_CLEAR of
a source clears STICKY and its capture and keeps LIVE and the count. -/
def Obligations.EventsRegister : Prop :=
  -- R741, R742
  (∀ (s : State) (n : Nat) (i : SrcInfo) (e : Event) (es : List Event), s.Inv → s.pwr.aon = true → s.fc.ring = e :: es → e.source = n →
      srcInfo n = some i → i.level = false → s.classInForce n (s.src n).escalated = 0 → s.srcEscCount n = 0 → s.srcRecord n = true →
      s.fc.staging = [] →
    Completes (.faultEvent none) s fun t =>
      (t.src n).events = ((s.src n).events + 1) % 2 ^ 32 ∧ (t.src n).sticky = true ∧ (t.src n).live = true ∧ (t.src n).first.isSome = true ∧
      t.fc.staging.map (fun e => (e.r.source, e.r.cls, e.r.rep, e.now)) = [(n, .corrected, 0, false)] ∧ t.fc.ring = es ∧ t.od = s.od ∧
      t.hbm = s.hbm) ∧
  -- R741, R742
  (∀ (s : State) (n : Nat) (i : SrcInfo) (a : EvArg), s.Inv → s.pwr.aon = true → a.source = n → 0x140 ≤ n → n < 0x170 → srcInfo n = some i →
      i.level = false → s.classInForce n (s.src n).escalated = 0 → s.srcEscCount n = 0 → s.srcRecord n = true → s.fc.staging = [] →
    Completes (.faultEvent (some a)) s fun t =>
      (t.src n).events = ((s.src n).events + 1) % 2 ^ 32 ∧ (t.src n).sticky = true ∧ (t.src n).live = true ∧ (t.src n).first.isSome = true ∧
      t.fc.staging.map (fun e => (e.r.source, e.r.cls, e.r.rep, e.now)) = [(n, .corrected, 0, false)] ∧ t.fc.ring = s.fc.ring ∧ t.od = s.od ∧
      t.hbm = s.hbm) ∧
  -- R740
  (∀ (s : State) (d : Fin 19) (f : Bool) (m : Nat), s.Inv → s.pwr.aon = true → s.railDieOn d = true → kvFind s.fc.railOn d = some m →
      m + 10000 ≤ s.now → bit (s.val O.forceRail) (2 * d + b2n f) = false →
    Completes (.railSample d f false true) s fun t =>
      bit t.fc.railAgreed (2 * d + b2n f) = false ∧ bit t.fc.railFault (2 * d + b2n f) = false ∧ (f = true → bit t.fc.fatalHigh d = false) ∧
      t.fc.ring = s.fc.ring ∧ t.od = s.od ∧ t.hbm = s.hbm) ∧
  -- R740
  (∀ (s : State) (d : Fin 19) (f x : Bool) (m : Nat), s.pwr.aon = true → s.railDieOn d = true → kvFind s.fc.railOn d = some m → m + 10000 ≤ s.now →
      bit (s.val O.forceRail) (2 * d + b2n f) = false → bit s.fc.railAgreed (2 * d + b2n f) = false →
    Completes (.railSample d f x x) s fun t =>
      t = { s with fc := { s.fc with railAgreed := setBit s.fc.railAgreed (2 * d + b2n f) true } }) ∧
  -- R739, R740
  (∀ (s : State) (d : Fin 19) (x : Bool) (m : Nat) (n : Nat), s.Inv → s.pwr.aon = true → s.railDieOn d = true → kvFind s.fc.railOn d = some m →
      m + 10000 ≤ s.now → bit (s.val O.forceRail) (2 * d + b2n false) = false → bit s.fc.railAgreed (2 * d) = true →
      bit s.fc.railFault (2 * d) = false → n = 0xD0 + 2 * d.val → (s.src n).cond = false → (s.src n).forcedCond = false →
      s.classInForce n (s.src n).escalated = 0 → s.srcEscCount n = 0 →
    Completes (.railSample d false x x) s fun t =>
      bit t.fc.railFault (2 * d) = true ∧ (t.src n).cond = true ∧ (t.src n).sticky = true ∧ (t.src n).live = true ∧
      (t.src n).events = ((s.src n).events + 1) % 2 ^ 32) ∧
  -- R741
  (∀ (s : State) (d : Fin 19) (m n : Nat), s.Inv → s.fc.fatalSeen = [(d.val, m)] →
      n = (if d.val < 16 then Sc.plot d 0x3F else if d.val = 16 then Sc.gateFatalUnspec else Sc.tram (d - 17) 0x3F) → s.slice.state = .none →
      s.fc.packageFenced = true → (d.val < 16 → (s.plot d).busy = false) → (17 ≤ d.val → s.fab.dieReset.contains (d - 17) = true) →
      s.srcRecord n = false →
    Completes (.fatalUnspec d) s fun t =>
      t.now = max s.now (m + 2000) ∧ t.fc.fatalSeen = [] ∧ t.val O.lastFatal = n ∧ (t.src n).sticky = true ∧
      (t.src n).events = ((s.src n).events + 1) % 2 ^ 32 ∧ t.hbm = s.hbm) ∧
  -- R747
  (∀ (s : State) (n : Fin 2048) (a b : Nat), s.Inv → (s.src n).window = some (a, b) →
    Completes (.escWindowClose n) s fun t =>
      t.src n = { s.src n with window := none } ∧ t.now = max s.now (a + s.srcWindow n) ∧ t.od = s.od) ∧
  -- R748
  (∀ (s : State) (n : Fin 2048) (a : Nat) (b : Bool), s.Inv → (s.src n).quietFrom = some (a, b) →
    Completes (.sourceQuiet n) s fun t =>
      (t.src n).live = false ∧ (t.src n).escalated = false ∧ (t.src n).quietFrom = none ∧
      (t.src n).recoveries = ((s.src n).recoveries + b2n b) % 2 ^ 16 ∧ (t.src n).sticky = (s.src n).sticky ∧ t.now = max s.now (a + s.srcQuiet n) ∧
      t.od = s.od) ∧
  -- R736, R748
  (∀ (s : State) (n : Fin 2048) (i : SrcInfo), s.Inv → srcInfo n = some i → i.level = true → i.byReset = false → (s.src n).cond = true →
      (s.src n).forcedCond = false → s.condHolds n = false →
    Completes (.levelConditionEnd n) s fun t =>
      t.src n = { s.src n with cond := false, live := false, quietFrom := some (s.now, true) } ∧ t.od = s.od) ∧
  -- R743
  (∀ (s : State) (n : Fin 2048), s.Inv →
    Completes (.stickyClear n none) s fun t =>
      (t.src n).sticky = false ∧ (t.src n).first = none ∧ (t.src n).events = (s.src n).events ∧ (t.src n).live = (s.src n).live ∧ t.od = s.od ∧
      t.hbm = s.hbm)

/-- RECORD_WRITER moves the only staging entry, not FATAL, into the empty internal queue under the next SEQ, at the next edge at which it is eligible.
HOST_RING_WRITE of the only record, writes leaving at once and the ring on and not full, posts it and then its VALID word,
      advances the tail and counts.
FC_RING_HEAD_WRITE of a head not past the tail stores it. FC_RING_ENABLE of a ring that is off and of a legal size starts it at 0; written 0,
      it turns it
off. FC_POP of the head's SEQ and RECORD_NEXT, the ring being off,
      take the head record. FATAL_LOG_WRITE puts the oldest pending fatal record at the head of
the fatal log, which persists. FC_SRC_CFG_WRITE of an accepted value, from the host link or a served route, stores it. -/
def Obligations.RecordsComplete : Prop :=
  -- R755, R757
  (∀ (s : State) (e : StagingEntry), s.Inv → s.fc.staging = [e] → s.fc.due = [] → s.fc.queue = [] → (e.r.cls == .fatal) = false →
      s.eligibleAt e ≤ 2 ^ 80 →
    Completes (.recordWriter) s fun t =>
      t.fc.staging = [] ∧ t.fc.queue.map (fun r => (r.source, r.cls, r.seq)) = [(e.r.source, e.r.cls, some s.fc.seq)] ∧
      t.fc.seq = (s.fc.seq + 1) % 2 ^ 31 ∧ t.now = max s.now (max ((s.now / 320 + 1) * 320) (s.eligibleAt e)) ∧ s.Counts t O.records7000) ∧
  -- R759
  (∀ (s : State) (r : Record) (q : Nat), s.Inv → s.WritesNow → 2 ≤ s.host.pCredit → s.gcoreUp = true → s.fc.ringEnable = true → s.fcRingFull = false →
      s.fc.queue = [r] → r.seq = some q → s.fc.inFlight = [] →
    Completes (.hostRingWrite) s fun t =>
      t.host.wire = s.host.wire ++ [{ kind := .memWrite, addr := s.rg Rg.fcRingBase / 4096 * 4096 + s.fc.tail % 2 ^ s.fcRingLog2 * 32, data := (recordLayout r).take 28, len := 28, owner := .fcBody q }, { kind := .memWrite, addr := s.rg Rg.fcRingBase / 4096 * 4096 + s.fc.tail % 2 ^ s.fcRingLog2 * 32 + 28, data := (recordLayout r).drop 28, len := 4, owner := .fcValid q }] ∧
      t.fc.queue = [] ∧ t.fc.tail = (s.fc.tail + 1) % 2 ^ 32 ∧ s.Counts t O.ringRecords ∧ t.hbm = s.hbm) ∧
  -- R760
  (∀ (s : State) (v : Word32) (rid : Half), (v.toNat + 2 ^ 32 - s.fc.head) % 2 ^ 32 ≤ (s.fc.tail + 2 ^ 32 - s.fc.head) % 2 ^ 32 →
    Completes (.fcRingHeadWrite v rid) s fun t =>
      t = { s with fc := { s.fc with head := v.toNat } }) ∧
  -- R758
  (∀ (s : State) (v : Word32) (rid : Half), bit v.toNat 0 = true → s.fc.ringEnable = false → 4 ≤ s.fcRingLog2 → s.fcRingLog2 ≤ 16 →
    Completes (.fcRingEnable v rid) s fun t =>
      t = { s with fc := { s.fc with ringEnable := true, head := 0, tail := 0 } }) ∧
  -- R758
  (∀ (s : State) (v : Word32) (rid : Half), bit v.toNat 0 = false →
    Completes (.fcRingEnable v rid) s fun t =>
      t = { s with fc := { s.fc with ringEnable := false } }) ∧
  -- R764
  (∀ (s : State) (v : Word) (rid : Half) (r : Record) (rs : List Record), s.fc.queue = r :: rs → s.fc.ringEnable = false →
      r.seq = some (v.toNat % 2 ^ 31) →
    Completes (.fcPop v rid) s fun t =>
      t = { s with fc := { s.fc with queue := rs, queueArmed := s.fc.queueArmed || !(r.cls == .fatal), popped := s.fc.popped ++ [r] } }) ∧
  -- R765
  (∀ (s : State) (r : Route) (x : Record) (rs : List Record), s.hl.running = true → r = .F ∨ r = .H → s.fc.queue = x :: rs → s.fc.ringEnable = false →

    Completes (.recordNext r) s fun t =>
      t = { s with fc := { s.fc with queue := rs, queueArmed := s.fc.queueArmed || !(x.cls == .fatal), popped := s.fc.popped ++ [x] } }) ∧
  -- R767
  (∀ (s : State) (r : Record) (rs : List Record), s.hl.running = true → s.fc.fatalPending = r :: rs →
    Completes (.fatalLogWrite) s fun t =>
      t.fc = { s.fc with fatalLog := (r :: s.fc.fatalLog).take 16, fatalPending := rs } ∧ t.bank.log = (r :: s.fc.fatalLog).take 16 ∧ t.od = s.od ∧
      t.hbm = s.hbm) ∧
  -- R745, R781
  (∀ (s : State) (n : Fin 2048) (v : Word) (rid : Half), s.Inv → s.srcCfgOk n (v.toNat % 2 ^ 48) = true →
    Completes (.fcSrcCfgWrite n v none rid) s fun t =>
      t.srcCfg n = v.toNat % 2 ^ 48 ∧ t.fc = s.fc ∧ t.reg = s.reg ∧ t.hbm = s.hbm) ∧
  -- R745, R781
  (∀ (s : State) (n : Fin 2048) (v : Word) (r : Route) (rid : Half), s.Inv → s.srcCfgOk n (v.toNat % 2 ^ 48) = true →
      s.served r ((0x7100 + n) * 256 + 6) = true →
    Completes (.fcSrcCfgWrite n v (some r) rid) s fun t =>
      t.srcCfg n = v.toNat % 2 ^ 48 ∧ t.fc = s.fc ∧ t.reg = s.reg ∧ t.hbm = s.hbm)

/-- FC_REACT of a code that the source's group allows: outside a slice and with nothing staged, a record of the reaction is staged, and the job halt leaves
the slice, the plot fence fences an idle plot, the die reset puts the Tramline die in reset, the freeze enters Frozen and counts, the package fence
fences every plot and freezes. The job halt of an ACTIVE member that is not its own manager halts it. FORCE_ARM with its key arms forcing for 60 s.
FORCE_ARM_EXPIRY disarms and clears what was forced, at its time at the earliest. While armed, on a served route, FORCE_EVENT of one CORRECTED source
registers it with a forced record, FORCE_LEVEL of one level source raises its condition, both count, and FORCE_RAIL stores its mask. -/
def Obligations.ReactionsAndForcingComplete : Prop :=
  -- R750, R753: no member of a slice
  (∀ (s : State) (n : Fin 2048) (rid : Half), s.Inv → codeAllowed n 1 = true → s.fc.staging = [] → s.slice.state = .none → isPlotSrc n = false →
    Completes (.fcReactJobHalt n rid) s fun t =>
      (t.src n).react = 1 ∧ t.fc.staging.map (fun e => (e.r.source, e.r.reaction, e.r.hostReact, e.now, e.latch)) = [(n.val, 1, true, true, false)] ∧
      t.slice = s.slice ∧ t.hbm = s.hbm ∧ t.od = s.od) ∧
  -- R753: an ACTIVE member halts
  (∀ (s : State) (n : Fin 2048) (rid : Half), s.Inv → codeAllowed n 1 = true → s.fc.staging = [] → s.slice.state = .active → isPlotSrc n = false →
      s.slice.mgrAddr ≠ s.addr →
    Completes (.fcReactJobHalt n rid) s fun t =>
      t.slice.state = .halted ∧ t.slice.haltCause = 1 ∧ t.slice.haltSource = s.addr) ∧
  -- R751
  (∀ (s : State) (n : Fin 2048) (rid : Half), s.Inv → codeAllowed n 2 = true → s.fc.staging = [] → s.slice.state = .none → isPlotSrc n = true →
      (s.plot (srcPlot n)).busy = false →
    Completes (.fcReactPlotFence n rid) s fun t =>
      (t.src n).react = 2 ∧ t.fc.staging.map (fun e => (e.r.source, e.r.reaction, e.r.hostReact, e.now, e.latch)) = [(n.val, 2, true, true, false)] ∧
      (t.plot (srcPlot n)).state = .fenced ∧ t.hbm = s.hbm ∧ t.od = s.od) ∧
  -- R751, R134
  (∀ (s : State) (n : Fin 2048) (rid : Half), s.Inv → codeAllowed n 3 = true → s.fc.staging = [] → s.slice.state = .none → s.drill.rows = [] →
      s.fab = {} →
    Completes (.fcReactDieReset n rid) s fun t =>
      (t.src n).react = 3 ∧ t.fc.staging.map (fun e => (e.r.source, e.r.reaction, e.r.hostReact, e.now, e.latch)) = [(n.val, 3, true, true, false)] ∧
      t.fab.dieReset.contains (srcTram n) = true) ∧
  -- R751, R313
  (∀ (s : State) (n : Fin 2048) (rid : Half), s.Inv → codeAllowed n 4 = true → s.fc.staging = [] → s.slice.state = .none → s.host.frozen = false →
      s.drill.rows = [] →
    Completes (.fcReactFreeze n rid) s fun t =>
      (t.src n).react = 4 ∧ t.fc.staging.map (fun e => (e.r.source, e.r.reaction, e.r.hostReact, e.now, e.latch)) = [(n.val, 4, true, true, false)] ∧
      t.host.frozen = true ∧ bit (t.rg Rg.freezeCause) 2 = true ∧ s.Counts t O.freezes ∧ t.hbm = s.hbm) ∧
  -- R752
  (∀ (s : State) (n : Fin 2048) (rid : Half), s.Inv → codeAllowed n 5 = true → s.fc.staging = [] → s.slice.state = .none →
      s.fc.packageFenced = false → s.drill.rows = [] → s.g.store = [] →
    Completes (.fcReactPackageFence n rid) s fun t =>
      (t.src n).react = 5 ∧ t.fc.staging.map (fun e => (e.r.source, e.r.reaction, e.r.hostReact, e.now, e.latch)) = [(n.val, 5, true, true, false)] ∧
      t.fc.packageFenced = true ∧ t.host.frozen = true ∧ (∀ p : Fin 16, (t.plot p).state = .fenced)) ∧
  -- R768
  (∀ (s : State) (r : Route), s.served r 0xF00001 = true → r ≠ .M →
    Completes (.forceArm r 0xF0CE0001) s fun t =>
      t = { s with fc := { s.fc with armedUntil := some (s.now + 60000000000) } }) ∧
  -- R768
  (∀ (s : State) (a : Nat), s.Inv → s.fc.armedUntil = some a → s.fc.srcs = [] →
    Completes (.forceArmExpiry) s fun t =>
      t.fc = { s.fc with armedUntil := none } ∧ t.now = max s.now a ∧ t.val O.forceRail = 0 ∧ (∀ k : Fin 32, t.val (O.forceLevel + k) = 0)) ∧
  -- R769
  (∀ (s : State) (r : Route) (k : Fin 32) (v : Word) (n : Nat) (i : SrcInfo), s.Inv → s.armed = true → s.served r (0xF10001 + k) = true →
      forceBits k v.toNat = [n] → srcInfo n = some i → i.level = false → s.classInForce n (s.src n).escalated = 0 → s.srcEscCount n = 0 →
      s.srcRecord n = true → s.fc.staging = [] →
    Completes (.forceEvent r k v) s fun t =>
      (t.src n).events = ((s.src n).events + 1) % 2 ^ 32 ∧ (t.src n).sticky = true ∧ t.fc.staging.map (fun e => (e.r.source, e.r.cls,
      e.r.forced)) = [(n, .corrected, true)] ∧ s.Counts t O.forcedCount ∧ t.hbm = s.hbm) ∧
  -- R769
  (∀ (s : State) (r : Route) (k : Fin 32) (v : Word) (n : Nat) (i : SrcInfo), s.Inv → s.armed = true → s.served r (0xF10101 + k) = true →
      forceBits k v.toNat = [n] → srcInfo n = some i → i.level = true → s.fc.srcs = [] → s.classInForce n false = 0 → s.srcEscCount n = 0 →
    Completes (.forceLevel r k v) s fun t =>
      t.val (O.forceLevel + k) = v.toNat ∧ (t.src n).forcedCond = true ∧ (t.src n).sticky = true ∧ (t.src n).live = true ∧ s.Counts t O.forcedCount ∧
      t.hbm = s.hbm) ∧
  -- R770
  (∀ (s : State) (r : Route) (l : Bool) (v : Word), s.Inv → s.armed = true → s.served r (if l then 0xF00102 else 0xF00101) = true → v.toNat < 2 ^ 38 →

    Completes (.forceRail r l v) s fun t =>
      t.val (if l then O.railLevel else O.forceRail) = v.toNat ∧ t.fc = s.fc ∧ t.reg = s.reg ∧ t.hbm = s.hbm)

/-- Of a command that issues: NOP goes on to the next command. LOOP of a count other than 0 with fewer than four loops open opens one; ENDLOOP goes back to the
first command of its body while iterations are left and closes the loop after the last. SETI, ADDI and LDI (of 8 aligned bytes of tilth) write an index register
other than I[0]. FENCE and MARK_HALF go on when no signal and no host write of the plot is out; MARK_HALF notes the half point in its descriptor. Nothing
else of the block changes. -/
def Obligations.PlotControlCompletes : Prop :=
  -- R597
  (∀ (s : State) (p : Fin 16) (v : Nat), s.Inv → s.Issues p 0x00 v [] →
    Completes (.nop p) s fun t =>
      t = s.setPlot p (s.issued p)) ∧
  -- R597
  (∀ (s : State) (p : Fin 16) (v : Nat), s.Inv → s.Issues p 0x02 v [(31, 16)] → fld v 31 16 ≠ 0 → (s.plot p).loops.length < 4 →
    Completes (.plotLoop p) s fun t =>
      t = s.setPlot p { s.issued p with loops := ((s.plot p).pc + 1, fld v 31 16) :: (s.plot p).loops }) ∧
  -- R597
  (∀ (s : State) (p : Fin 16) (v : Nat) (a n : Nat) (l : List (Nat × Nat)), s.Inv → s.Issues p 0x03 v [] → (s.plot p).loops = (a, n) :: l → n ≤ 1 →
    Completes (.endloop p) s fun t =>
      t = s.setPlot p { s.issued p with loops := l }) ∧
  -- R597
  (∀ (s : State) (p : Fin 16) (v : Nat) (a n : Nat) (l : List (Nat × Nat)), s.Inv → s.Issues p 0x03 v [] → (s.plot p).loops = (a, n) :: l → 1 < n →
      a ≤ (s.plot p).pc →
    Completes (.endloop p) s fun t =>
      t = s.setPlot p { s.issued p with loops := (a, n - 1) :: l, pc := a }) ∧
  -- R594, R597
  (∀ (s : State) (p : Fin 16) (v : Nat), s.Inv → s.Issues p 0x04 v [(15, 12), (127, 64)] → fld v 15 12 ≠ 0 →
    Completes (.seti p) s fun t =>
      t = s.setPlot p { s.issued p with idx := kvSet 0 (s.plot p).idx (fld v 15 12) (fld v 127 64) }) ∧
  -- R594, R597
  (∀ (s : State) (p : Fin 16) (v : Nat), s.Inv → s.Issues p 0x05 v [(15, 12), (19, 16), (127, 64)] → fld v 15 12 ≠ 0 →
    Completes (.addi p) s fun t =>
      t = s.setPlot p { s.issued p with idx := kvSet 0 (s.plot p).idx (fld v 15 12) ((s.idx p (fld v 19 16) + fld v 127 64) % 2 ^ 64) }) ∧
  -- R596, R597
  (∀ (s : State) (p : Fin 16) (v : Nat), s.Inv → s.Issues p 0x06 v [(15, 12), (63, 32)] → fld v 15 12 ≠ 0 → s.tref p v 32 % 8 = 0 →
      s.tref p v 32 + 8 ≤ s.dataTop p →
    Completes (.ldi p) s fun t =>
      t = s.setPlot p { s.issued p with idx := kvSet 0 (s.plot p).idx (fld v 15 12) (leNat (memRead (s.plot p).tilth (s.tref p v 32) 8)) }) ∧
  -- R597
  (∀ (s : State) (p : Fin 16) (v : Nat), s.Inv → s.Issues p 0x07 v [] → s.signalsOut p = false →
    Completes (.fence p) s fun t =>
      t = s.setPlot p (s.issued p)) ∧
  -- R591
  (∀ (s : State) (p : Fin 16) (v : Nat), s.Inv → s.Issues p 0x08 v [] → s.signalsOut p = false →
    Completes (.markHalf p) s fun t =>
      t = (s.modSlot (s.plot p).furrow (s.plot p).seq (fun y => { y with halfMask := y.halfMask ||| 2 ^ p.val })).setPlot p { s.issued p with halfDone := true })

/-- DESCRIPTOR_START starts the winner of the competition for its engine: a NOP without signal, stamp and record leaves its slot free; a DRILL descriptor
between HBM, tilth and the host goes to the pool's row; a SEED descriptor goes last in the controller's order; and a PROGRAM whose plots are idle, as
PROGRAM_CLAIM does, claims every plot of its mask at once and no other. PROGRAM_LOAD of a container in one extent of HBM, without arguments,
      that passes the
checks starts the program at its first command. END with nothing out and no walk in flight ends the program on its plot with code 0; TRAP records its code. PROGRAM_FAILURE
and HALT, of a program on one plot with nothing waiting for it and no walk in flight, end it with the code that was recorded,
      and with 0x206. TILTH_SPLIT_WRITE of an IDLE plot, up to
64, stores the split and keeps the tilth. -/
def Obligations.ProgramsStartAndEnd : Prop :=
  -- R345, R359
  (∀ (s : State) (n : Nat) (x : Slot), s.winner 0 = some (n, x) → s.slot n x.seq = some x → x.halfDone = false → x.halfDenied = false →
      x.d.signalEn = false → x.d.halfSignal = false → x.d.recordEn = false → x.d.stampEn = false → x.d.halfStampEn = false → s.Settled → s.Inv →
    Completes (.descriptorStart 0) s fun t =>
      t.slot n x.seq = none ∧ (t.fur n).state = (s.fur n).state ∧ t.od = s.od) ∧
  -- R358, R530
  (∀ (s : State) (n r : Nat) (x : Slot), s.Inv → s.winner 1 = some (n, x) → s.poolRow = some r → x.doomed = false → x.d.srcSpace < 4 →
      x.d.dstSpace < 4 → s.slot n x.seq = some x →
    Completes (.descriptorStart 1) s fun t =>
      (t.row r).state = .active ∧ (t.row r).xfers.map (fun y => (y.id, y.src, y.d)) = (s.row r).xfers.map (fun y => (y.id, y.src,
      y.d)) ++ [((s.row r).nextId, .furrow n x.seq, x.d)] ∧ kvGet 4095 t.g.lastStart 1 = n ∧ (t.slot n x.seq).map (·.state) = some .started) ∧
  -- R358, R582
  (∀ (s : State) (n : Nat) (x : Slot), s.Inv → s.claimWinner = some (n, x) → x.doomed = false → (∀ p : Fin 16, bit x.d.plotMask p = true →
      (s.plot p).state = .idle) → s.slot n x.seq = some x →
    Completes (.descriptorStart 2) s fun t =>
      (∀ p : Fin 16, bit x.d.plotMask p = true → (t.plot p).state = .loading ∧ (t.plot p).mask = x.d.plotMask ∧ (t.plot p).furrow = n ∧
      (t.plot p).seq = x.seq ∧ (t.plot p).pc = 0 ∧ (t.plot p).pasid = s.furPasid n ∧ (t.plot p).bypass = s.furBypass n) ∧ (∀ p : Fin 16,
      bit x.d.plotMask p = false → t.plot p = s.plot p) ∧ (t.slot n x.seq).map (·.state) = some .started) ∧
  -- R582
  (∀ (s : State) (n : Nat) (x : Slot), s.Inv → s.claimWinner = some (n, x) → x.doomed = false → (∀ p : Fin 16, bit x.d.plotMask p = true →
      (s.plot p).state = .idle) → s.slot n x.seq = some x →
    Completes (.programClaim) s fun t =>
      (∀ p : Fin 16, bit x.d.plotMask p = true → (t.plot p).state = .loading ∧ (t.plot p).mask = x.d.plotMask ∧ (t.plot p).furrow = n ∧
      (t.plot p).seq = x.seq ∧ (t.plot p).pc = 0 ∧ (t.plot p).pasid = s.furPasid n ∧ (t.plot p).bypass = s.furBypass n) ∧ (∀ p : Fin 16,
      bit x.d.plotMask p = false → t.plot p = s.plot p) ∧ (t.slot n x.seq).map (·.state) = some .started) ∧
  -- R358, R713
  (∀ (s : State) (n : Nat) (x : Slot), s.Inv → s.winner 3 = some (n, x) → x.doomed = false → s.slot n x.seq = some x →
    Completes (.descriptorStart 3) s fun t =>
      t.seed.order.getLast? = some (n, x.seq) ∧ kvGet 4095 t.g.lastStart 3 = n ∧ (t.slot n x.seq).map (·.state) = some .started) ∧
  -- R583, R585, R586, R594
  (∀ (s : State) (p : Fin 16) (c d : HostRead) (a room : Nat) (x : Slot) (b : List Byte), s.Inv → (s.plot p).state = .loading →
      (s.plot p).ended = none → s.slot (s.plot p).furrow (s.plot p).seq = some x → x.d.cspace = 1 → x.d.argWords = 0 →
      (s.lookup (s.plotWho p) .devlocal x.d.container .read).2 = .at_ (.hbm a) room → x.d.containerLen ≤ room → s.coh.snoopFilter = [] →
      s.host.poison = [] → s.pwr.scrub = [] → s.coh.scrubbing = [] → (s.plot p).resident = [] → b = memRead s.hbm a x.d.containerLen →
      containerCheck (parseHeader b) b x.d.containerLen (s.dataTop p) 0 false = 0 →
    Completes (.programLoad p c d) s fun t =>
      (t.plot p).state = .running ∧ (t.plot p).pc = 0 ∧ (t.plot p).programId = (parseHeader b).id ∧ (t.plot p).owner = some (s.plot p).pasid ∧
      (t.plot p).prog.map (fun g => (g.cmds, g.views, g.pasid)) = some (parseCmds (parseHeader b).cmds (b.drop (64 + 32 * (parseHeader b).views)),
      (parseViews (parseHeader b).views (b.drop 64)).getD [], (s.plot p).pasid) ∧ t.idx p 1 = rankIn (s.plot p).mask p ∧ (t.plot p).loops = [] ∧
      (t.plot p).slots = [] ∧ t.hbm = s.hbm ∧ t.host = s.host) ∧
  -- R588
  (∀ (s : State) (p : Fin 16) (v : Nat) (y : Slot), s.Inv → s.nextCmd p = some v → v = 1 → s.signalsOut p = false →
      s.slot (s.plot p).furrow (s.plot p).seq = some y → bit y.endMask p = false → codeOk y.endCode = true → s.drill.feeds = [] → s.g.waits = [] →
      s.flt.entries = [] → s.plat.walks = [] → s.plat.slotWait = [] →
    Completes (.endProgram p) s fun t =>
      (t.plot p).state = .idle ∧ (t.plot p).lastCode = 0 ∧ (t.plot p).mask = 0 ∧ (t.plot p).arith = (s.plot p).arith.or (s.plot p).flags ∧
      (t.plot p).tilth = (s.plot p).tilth ∧ (t.plot p).idleSince = s.now ∧
      t.slot (s.plot p).furrow (s.plot p).seq = some { y with endMask := y.endMask + 2 ^ p.val, endCode := 0, endFlags := y.endFlags ||| (s.plot p).flags.bits, endPoison := y.endPoison || (s.plot p).poisoned } ∧
      t.od = s.od ∧ t.hbm = s.hbm) ∧
  -- R597
  (∀ (s : State) (p : Fin 16) (v : Nat), s.nextCmd p = some v → v % 256 = 9 → onlyFields v [(31, 16)] = true → s.Inv →
    Completes (.trap p) s fun t =>
      t = s.setPlot p { s.plot p with trapCode := fld v 31 16, ended := some 0x205 }) ∧
  -- R589
  (∀ (s : State) (p : Fin 16) (c : Nat) (y : Slot), s.Inv → s.failure p = some c → s.plotsOf (s.plot p).furrow (s.plot p).seq = [p.val] →
      (s.plot p).state = .running → (s.plot p).mask ≠ 0 → s.slot (s.plot p).furrow (s.plot p).seq = some y → codeOk y.endCode = true →
      s.drill.feeds = [] → s.g.waits = [] → s.flt.entries = [] → s.plat.walks = [] → s.plat.slotWait = [] → s.Settled →
    Completes (.programFailure p) s fun t =>
      (t.plot p).state = .idle ∧ (t.plot p).lastCode = c ∧ (t.plot p).mask = 0 ∧ (t.plot p).ended = none ∧ (t.plot p).tilth = (s.plot p).tilth ∧
      (t.slot (s.plot p).furrow (s.plot p).seq).map (fun z => (z.endMask, z.endCode)) = some (y.endMask + 2 ^ p.val, c) ∧ t.hbm = s.hbm ∧
      t.od = s.od) ∧
  -- R590, R629
  (∀ (s : State) (p : Fin 16) (rid : Half) (y : Slot), s.Inv → s.ServesHost → s.plotsOf (s.plot p).furrow (s.plot p).seq = [p.val] →
      (s.plot p).state = .running → (s.plot p).mask ≠ 0 → s.slot (s.plot p).furrow (s.plot p).seq = some y → codeOk y.endCode = true →
      s.drill.feeds = [] → s.g.waits = [] → s.flt.entries = [] → s.plat.walks = [] → s.plat.slotWait = [] → s.Settled →
    Completes (.plotHalt p rid) s fun t =>
      (t.plot p).state = .idle ∧ (t.plot p).lastCode = 0x206 ∧ (t.plot p).mask = 0 ∧ (t.plot p).ended = none ∧ (t.plot p).tilth = (s.plot p).tilth ∧
      (t.slot (s.plot p).furrow (s.plot p).seq).map (fun z => (z.endMask, z.endCode)) = some (y.endMask + 2 ^ p.val, 0x206) ∧ t.hbm = s.hbm) ∧
  -- R579, R612, R621
  (∀ (s : State) (p : Fin 16) (v : Word) (rid : Half), s.Inv → s.ServesHost → (s.plot p).state = .idle → v.toNat % 128 ≤ 64 →
    Completes (.tilthSplitWrite p v rid) s fun t =>
      fld (t.rg (Rg.tilthSplit p)) 6 0 = v.toNat % 128 ∧ (t.plot p).tilth = (s.plot p).tilth ∧ (t.plot p).state = .idle ∧
      (v.toNat % 128 ≠ fld (s.rg (Rg.tilthSplit p)) 6 0 → (t.plot p).gcache = []) ∧ t.hbm = s.hbm)

/-- With a right to the stake: SWAIT with a free wait slot, of a condition that does not hold, no other wait being met, places the wait. STEST into a
register other than I[0] writes 1 or 0 by the condition. SSIG with no write of the plot out and no wait placed sets the stake,
      or adds to it where the sum does
not wrap, counts the operation and changes no other stake. SJOIN goes on when none of its slots is busy. SREMOTE of another package,
      behind what is ordered to it,
puts a remote add or set last in that order. FEED with fewer than four requests puts its request behind them,
      and waits where it says so; UNFEED withdraws the
newest where it was not started. -/
def Obligations.PlotStakesAndFeedsComplete : Prop :=
  -- R402, R615
  (∀ (s : State) (p : Fin 16) (v : Nat) (h : Nat), s.Inv → s.Issues p 0x10 v [(8, 8), (15, 12), (31, 16), (35, 32), (127, 64)] →
      s.stakeOk (.program p (s.plot p).pasid (s.plot p).bypass) (fld v 31 16) = true → (s.plot p).slots.any (fun y => y.1 == fld v 35 32) = false →
      s.freeHandle (.plot p (fld v 35 32)) = some h → condMet (bit v 8) (s.stake (fld v 31 16)) (s.value p v) = false → s.Settled → (∀ w ∈ s.g.waits,
      condMet w.equal (s.stake w.stake) w.value = false) →
    Completes (.swait p) s fun t =>
      t.plot p = { s.issued p with slots := kvPut (s.plot p).slots (fld v 35 32) h } ∧ t.g.waits.map (fun w => (w.handle, w.stake, w.equal, w.value,
      w.who)) = s.g.waits.map (fun w => (w.handle, w.stake, w.equal, w.value, w.who)) ++ [(h, fld v 31 16, bit v 8, s.value p v,
      .plot p (fld v 35 32))] ∧ t.g.stakes = s.g.stakes ∧ t.hbm = s.hbm) ∧
  -- R615
  (∀ (s : State) (p : Fin 16) (v : Nat), s.Inv → s.Issues p 0x11 v [(31, 16)] → (s.plot p).slots.any (fun y => bit (fld v 31 16) y.1) = false →
    Completes (.sjoin p) s fun t =>
      t = s.setPlot p (s.issued p)) ∧
  -- R615
  (∀ (s : State) (p : Fin 16) (v : Nat), s.Inv → s.Issues p 0x12 v [(8, 8), (15, 12), (19, 16), (47, 32), (127, 64)] →
      s.stakeOk (.program p (s.plot p).pasid (s.plot p).bypass) (fld v 47 32) = true → fld v 19 16 ≠ 0 →
    Completes (.stest p) s fun t =>
      t = s.setPlot p { s.issued p with idx := kvSet 0 (s.plot p).idx (fld v 19 16) (if (if bit v 8 then s.stake (fld v 47 32) = s.value p v else s.value p v ≤ s.stake (fld v 47 32)) then 1 else 0) }) ∧
  -- R387, R615
  (∀ (s : State) (p : Fin 16) (v : Nat), s.Inv → s.Issues p 0x13 v [(8, 8), (15, 12), (31, 16), (127, 64)] →
      s.stakeOk (.program p (s.plot p).pasid (s.plot p).bypass) (fld v 31 16) = true → s.writesOut p = false → s.Settled → s.g.waits = [] →
      bit v 8 = true →
    Completes (.ssig p) s fun t =>
      t.stake (fld v 31 16) = s.value p v ∧ t.plot p = s.issued p ∧ s.Counts t O.ops ∧ t.hbm = s.hbm ∧ t.fc = s.fc ∧ (∀ j : Fin 65536,
      j.val ≠ fld v 31 16 → t.stake j = s.stake j)) ∧
  -- R387, R391, R615
  (∀ (s : State) (p : Fin 16) (v : Nat), s.Inv → s.Issues p 0x13 v [(8, 8), (15, 12), (31, 16), (127, 64)] →
      s.stakeOk (.program p (s.plot p).pasid (s.plot p).bypass) (fld v 31 16) = true → s.writesOut p = false → s.Settled → s.g.waits = [] →
      bit v 8 = false → s.stake (fld v 31 16) + s.value p v < 2 ^ 64 →
    Completes (.ssig p) s fun t =>
      t.stake (fld v 31 16) = s.stake (fld v 31 16) + s.value p v ∧ t.plot p = s.issued p ∧ s.Counts t O.ops ∧ t.hbm = s.hbm ∧ t.fc = s.fc ∧
      (∀ j : Fin 65536, j.val ≠ fld v 31 16 → t.stake j = s.stake j)) ∧
  -- R427, R615, R646: behind the writes to the same package
  (∀ (s : State) (p : Fin 16) (v : Nat) (c : Nat), s.Inv → s.Issues p 0x14 v [(8, 8), (15, 12), (31, 16), (43, 32), (59, 48), (127, 64)] →
      fld v 43 32 ≠ s.addr → s.writesOut p = false → s.ctxOf (s.plot p).pasid = some c → bit (s.pctxCtrl c) 27 = true →
      s.fab.ordered.any (fun h => h.m.dst == fld v 43 32) = true →
    Completes (.sremote p) s fun t =>
      t.plot p = s.issued p ∧ t.fab.ordered.map (fun o => (o.m, o.owner)) = s.fab.ordered.map (fun o => (o.m,
      o.owner)) ++ [({ kind := (if bit v 8 then .stakeSet else .stakeAdd), dst := fld v 43 32, window := fld v 59 48, aux := fld v 31 16, addr := s.value p v, ordered := true }, .plotSignal p)] ∧
      t.g = s.g ∧ t.od = s.od ∧ t.hbm = s.hbm) ∧
  -- R614
  (∀ (s : State) (p : Fin 16) (v : Nat), s.Inv → s.Issues p 0x23 v [(10, 8), (15, 12), (47, 16)] → fld v 47 16 % 64 = 0 → fld v 47 16 ≤ 0x100000 →
      fld v 15 12 ≠ 0 → (s.feed p (fld v 9 8)).reqs.length < 4 → bit v 10 = false →
    Completes (.feed p) s fun t =>
      t = (s.setFeed p (fld v 9 8) { s.feed p (fld v 9 8) with reqs := (s.feed p (fld v 9 8)).reqs ++ [(fld v 47 16, fld v 15 12, false)] }).setPlot p (s.issued p)) ∧
  -- R614
  (∀ (s : State) (p : Fin 16) (v : Nat), s.Inv → s.Issues p 0x23 v [(10, 8), (15, 12), (47, 16)] → fld v 47 16 % 64 = 0 → fld v 47 16 ≤ 0x100000 →
      fld v 15 12 ≠ 0 → (s.feed p (fld v 9 8)).reqs.length < 4 → bit v 10 = true →
    Completes (.feed p) s fun t =>
      t = (s.setFeed p (fld v 9 8) { s.feed p (fld v 9 8) with reqs := (s.feed p (fld v 9 8)).reqs ++ [(fld v 47 16, fld v 15 12, false)] }).setPlot p { s.issued p with feedWait := some (fld v 9 8), stalledFeed := true }) ∧
  -- R553, R614
  (∀ (s : State) (p : Fin 16) (v : Nat) (l : List (Nat × Nat × Bool)) (a b : Nat), s.Inv → s.Issues p 0x24 v [(9, 8)] →
      (s.feed p (fld v 9 8)).reqs = l ++ [(a, b, false)] → (s.plot p).feedWait = none →
    Completes (.unfeed p) s fun t =>
      t = (s.setFeed p (fld v 9 8) { s.feed p (fld v 9 8) with reqs := l }).setPlot p (s.issued p))

/-- Of a command that issues, of a plot that maps its ranges directly: LOAD of lines inside its view that are all reached stores their bytes at DST. STORE to one
extent of HBM writes tilth there and changes no other byte; to one extent of host memory within a page and a payload it sends one posted write. TCOPY copies
within the tilth, or into one extent of another plot's. BLOAD fills a stationary buffer, ACC_CLEAR sets MODE and EW and empties the cells,
      and ACC_ADDW adds
wide partials to the cells of its rows. -/
def Obligations.PlotMovesComplete : Prop :=
  -- R597
  (∀ (s : State) (p : Fin 16) (v : Nat) (w : View) (l : List (Nat × Nat)) (e : List (Target × Nat)) (h : HostRead), s.Inv → s.Issues p 0x20 v [(15,
      12), (23, 16), (63, 32), (95, 64), (127, 96)] → s.view? p (fld v 23 16) = some w →
      lineRanges w ((fld v 95 64 + s.idx p (fld v 15 12)) % 2 ^ 64) (fld v 127 96) = some l → s.tref p v 32 + fld v 127 96 * w.x ≤ s.dataTop p →
      (reachRanges l s p w.space (s.viewBase p w) .read []).2 = .ok e → s.Direct p → Clean h →
    Completes (.plotLoad p h) s fun t =>
      s.Stores t p (s.tref p v 32) (s.extBytes e (h.data.map (fun y => y.1)))) ∧
  -- R597: to one extent of HBM
  (∀ (s : State) (p : Fin 16) (v : Nat) (w : View) (l : List (Nat × Nat)) (e : List (Target × Nat)) (a n : Nat), s.Inv → s.Issues p 0x21 v [(15, 12),
      (23, 16), (63, 32), (95, 64), (127, 96)] → s.view? p (fld v 23 16) = some w →
      lineRanges w ((fld v 95 64 + s.idx p (fld v 15 12)) % 2 ^ 64) (fld v 127 96) = some l → s.tref p v 32 + fld v 127 96 * w.x ≤ s.dataTop p →
      (reachRanges l s p w.space (s.viewBase p w) .write []).2 = .ok e → s.Direct p → e = [(.hbm a, n)] →
    Completes (.plotStore p) s fun t =>
      memRead t.hbm a n = memRead (s.plot p).tilth (s.tref p v 32) n ∧ (∀ x, x < a ∨ a + n ≤ x → memByte t.hbm x = memByte s.hbm x) ∧
      (t.plot p).tilth = (s.plot p).tilth ∧ (t.plot p).pc = (s.plot p).pc + 1 ∧ t.reg = s.reg ∧ t.g = s.g) ∧
  -- R597: one extent of host memory
  (∀ (s : State) (p : Fin 16) (v : Nat) (w : View) (l : List (Nat × Nat)) (e : List (Target × Nat)) (a n : Nat), s.Inv → s.Issues p 0x21 v [(15, 12),
      (23, 16), (63, 32), (95, 64), (127, 96)] → s.view? p (fld v 23 16) = some w →
      lineRanges w ((fld v 95 64 + s.idx p (fld v 15 12)) % 2 ^ 64) (fld v 127 96) = some l → s.tref p v 32 + fld v 127 96 * w.x ≤ s.dataTop p →
      (reachRanges l s p w.space (s.viewBase p w) .write []).2 = .ok e → s.Direct p → s.WritesNow → e = [(.host a, n)] → 0 < n → n ≤ s.maxPayload →
      a % 4096 + n ≤ 4096 → s.mig = {} →
    Completes (.plotStore p) s fun t =>
      t.host.wire.map (fun x => (x.kind, x.addr, x.data, x.owner)) = s.host.wire.map (fun x => (x.kind, x.addr, x.data, x.owner)) ++ [(.memWrite, a,
      memRead (s.plot p).tilth (s.tref p v 32) n, .gleaner p)] ∧ (t.plot p).tilth = (s.plot p).tilth ∧ (t.plot p).pc = (s.plot p).pc + 1 ∧
      t.hbm = s.hbm ∧ t.reg = s.reg) ∧
  -- R597
  (∀ (s : State) (p : Fin 16) (v : Nat), s.Inv → s.Issues p 0x22 v [(12, 8), (47, 16), (79, 48), (111, 80)] → s.tref p v 16 % 64 = 0 →
      s.tref p v 48 % 64 = 0 → fld v 111 80 % 64 = 0 → s.tref p v 16 + fld v 111 80 ≤ s.dataTop p → s.Direct p → bit v 12 = false →
      s.tref p v 48 + fld v 111 80 ≤ s.dataTop p →
    Completes (.tcopy p) s fun t =>
      s.Stores t p (s.tref p v 48) (memRead (s.plot p).tilth (s.tref p v 16) (fld v 111 80)) ∧ t.od = s.od) ∧
  -- R597, R616
  (∀ (s : State) (p : Fin 16) (v : Nat) (q : Fin 16) (o : Nat), s.Inv → s.Issues p 0x22 v [(12, 8), (47, 16), (79, 48), (111, 80)] →
      s.tref p v 16 % 64 = 0 → s.tref p v 48 % 64 = 0 → fld v 111 80 % 64 = 0 → s.tref p v 16 + fld v 111 80 ≤ s.dataTop p → s.Direct p →
      bit v 12 = true → s.tref p v 48 < 2 ^ 28 →
      (s.reachRange p 2 (fld v 11 8 * 2 ^ 28 + s.tref p v 48) 0 (fld v 111 80) .write).2 = .ok [(.tilth q o, fld v 111 80)] → q ≠ p →
      (s.plot q).poison = [] →
    Completes (.tcopy p) s fun t =>
      memRead (t.plot q).tilth o (fld v 111 80) = memRead (s.plot p).tilth (s.tref p v 16) (fld v 111 80) ∧ (t.plot p).tilth = (s.plot p).tilth ∧
      (t.plot p).pc = (s.plot p).pc + 1 ∧ t.hbm = s.hbm ∧ t.g = s.g) ∧
  -- R597, R601
  (∀ (s : State) (p : Fin 16) (v : Nat), s.Inv → s.Issues p 0x30 v [(11, 8), (23, 16), (63, 32)] →
      (pairMode (fld v 23 16) (fld v 23 16)).isSome = true → s.tref p v 32 % 64 = 0 → s.tref p v 32 + tileBytes (fld v 23 16) ≤ s.dataTop p →
      s.Direct p → bit v 10 = false → (s.plot p).beds.length = 4 →
    Completes (.bload p) s fun t =>
      t.bed p (fld v 9 8) = { s.bed p (fld v 9 8) with buf0 := { ty := fld v 23 16, data := memRead (s.plot p).tilth (s.tref p v 32) (tileBytes (fld v 23 16)), trans := bit v 11 } } ∧
      (t.plot p).pc = (s.plot p).pc + 1 ∧ (t.plot p).tilth = (s.plot p).tilth ∧ t.hbm = s.hbm ∧ t.od = s.od) ∧
  -- R597, R601
  (∀ (s : State) (p : Fin 16) (v : Nat), s.Inv → s.Issues p 0x30 v [(11, 8), (23, 16), (63, 32)] →
      (pairMode (fld v 23 16) (fld v 23 16)).isSome = true → s.tref p v 32 % 64 = 0 → s.tref p v 32 + tileBytes (fld v 23 16) ≤ s.dataTop p →
      s.Direct p → bit v 10 = true → (s.plot p).beds.length = 4 →
    Completes (.bload p) s fun t =>
      t.bed p (fld v 9 8) = { s.bed p (fld v 9 8) with buf1 := { ty := fld v 23 16, data := memRead (s.plot p).tilth (s.tref p v 32) (tileBytes (fld v 23 16)), trans := bit v 11 } } ∧
      (t.plot p).pc = (s.plot p).pc + 1 ∧ (t.plot p).tilth = (s.plot p).tilth ∧ t.hbm = s.hbm ∧ t.od = s.od) ∧
  -- R597, R601
  (∀ (s : State) (p : Fin 16) (v : Nat), s.Inv → s.Issues p 0x32 v [(9, 8), (23, 16), (27, 24), (47, 32)] → fld v 23 16 ≤ 2 → (fld v 23 16 = 1 →
      -320 ≤ sext 16 (fld v 47 32 + s.idx p (fld v 27 24)) ∧ sext 16 (fld v 47 32 + s.idx p (fld v 27 24)) ≤ 320) → (s.plot p).beds.length = 4 →
    Completes (.accClear p) s fun t =>
      t.bed p (fld v 9 8) = { s.bed p (fld v 9 8) with mode := fld v 23 16, ew := (if fld v 23 16 = 0 then 56 else if fld v 23 16 = 2 then 88 else sext 16 (fld v 47 32 + s.idx p (fld v 27 24))), base := none, cells := [], bad := [] } ∧
      (t.plot p).pc = (s.plot p).pc + 1 ∧ (t.plot p).tilth = (s.plot p).tilth ∧ t.hbm = s.hbm ∧ t.od = s.od) ∧
  -- R605
  (∀ (s : State) (p : Fin 16) (v : Nat), s.Inv → s.Issues p 0x33 v [(9, 8), (63, 32), (79, 64), (95, 80)] →
      rowsOk (fld v 79 64) (fld v 95 80) = true → s.tref p v 32 % 64 = 0 → s.tref p v 32 + fld v 79 64 * 4096 ≤ s.dataTop p → s.Direct p →
      (s.plot p).beds.length = 4 →
    Completes (.accAddw p) s fun t =>
      (∀ i < fld v 79 64 * 256,
      (t.bed p (fld v 9 8)).cell (fld v 95 80 * 256 + i) = wideAdd ((s.bed p (fld v 9 8)).cell (fld v 95 80 * 256 + i)) (wideOf (leNat (memRead (s.plot p).tilth (s.tref p v 32 + 16 * i) 16)))) ∧
      (t.plot p).pc = (s.plot p).pc + 1 ∧ (t.plot p).tilth = (s.plot p).tilth ∧ t.hbm = s.hbm ∧ t.od = s.od)

/-- Of a command that issues, with operands in place: MATMUL of types of the bed's mode adds to each cell of its rows the image of the dot product of its row and
column, and counts the MACs. ACC_STORE of cells that hold no bad data stores them rounded to FP32, BF16 or FP16, as they are (W128),
      or saturated (INT32 of an
integer bed). VROUNDW stores wide partials rounded to FP16,
      BF16 or FP32. VADDW stores the sums of wide partials. VRED of these three types stores the wide
sum, the greatest exponent, or the maximum or minimum, where the spec leaves a choice open a free value. -/
def Obligations.BedsAndReductionsComplete : Prop :=
  -- R601, R602, R629
  (∀ (s : State) (p : Fin 16) (v : Nat) (x : Tile) (k : Nat), s.Inv → s.Issues p 0x31 v [(10, 8), (23, 16), (63, 32), (79, 64), (95, 80)] →
      x = (if bit v 10 then (s.bed p (fld v 9 8)).buf1 else (s.bed p (fld v 9 8)).buf0) →
      pairMode x.ty (fld v 23 16) = some (s.bed p (fld v 9 8)).mode → rowsOk (fld v 79 64) (fld v 95 80) = true → s.tref p v 32 % 64 = 0 →
      k = depthOf (fld v 23 16) → s.tref p v 32 + fld v 79 64 * (k * typeBits (fld v 23 16) / 8) ≤ s.dataTop p → s.Direct p → depthOf x.ty = k →
      (s.plot p).beds.length = 4 →
    Completes (.matmul p) s fun t =>
      (∀ i < fld v 79 64, ∀ n < 256,
      (t.bed p (fld v 9 8)).cell ((fld v 95 80 + i) * 256 + n) = wideAdd ((s.bed p (fld v 9 8)).cell ((fld v 95 80 + i) * 256 + n)) (dotImage (s.bed p (fld v 9 8)).ew ((elems (fld v 23 16) k (memRead (s.plot p).tilth (s.tref p v 32 + i * (k * typeBits (fld v 23 16) / 8)) (k * typeBits (fld v 23 16) / 8))).map (elemNum (fld v 23 16))) ((List.range k).map (fun q => elemNum x.ty ((elems x.ty (k * 256) x.data).getD (if x.trans then n * k + q else q * 256 + n) 0))))) ∧
      (t.plot p).macs = ((s.plot p).macs + fld v 79 64 * k * 256) % 2 ^ 64 ∧ (t.plot p).pc = (s.plot p).pc + 1 ∧ (t.plot p).tilth = (s.plot p).tilth ∧
      t.hbm = s.hbm) ∧
  -- R606: FP32, BF16 and FP16
  (∀ (s : State) (p : Fin 16) (v : Nat) (y : Nat), s.Inv → s.Issues p 0x34 v [(9, 8), (13, 11), (63, 32), (79, 64), (95, 80)] → (fld v 13 11 = 0 ∧
      y = 4) ∨ (fld v 13 11 = 1 ∧ y = 2) ∨ (fld v 13 11 = 2 ∧ y = 3) → rowsOk (fld v 79 64) (fld v 95 80) = true → s.tref p v 32 % 64 = 0 →
      s.tref p v 32 + fld v 79 64 * 32 * typeBits y ≤ s.dataTop p → s.Direct p → (s.bed p (fld v 9 8)).bad = [] →
    Completes (.accStore p) s fun t =>
      s.Stores t p (s.tref p v 32) (((List.range (fld v 79 64 * 256)).map (fun i => (s.bed p (fld v 9 8)).cell (fld v 95 80 * 256 + i))).flatMap (fun w => natLe (typeBits y / 8) (roundWide y (s.bed p (fld v 9 8)).ew w)))) ∧
  -- R604, R606: W128
  (∀ (s : State) (p : Fin 16) (v : Nat), s.Inv → s.Issues p 0x34 v [(9, 8), (13, 11), (63, 32), (79, 64), (95, 80)] → fld v 13 11 = 3 →
      rowsOk (fld v 79 64) (fld v 95 80) = true → s.tref p v 32 % 64 = 0 → s.tref p v 32 + fld v 79 64 * 4096 ≤ s.dataTop p → s.Direct p →
      (s.bed p (fld v 9 8)).bad = [] →
    Completes (.accStore p) s fun t =>
      s.Stores t p (s.tref p v 32) (((List.range (fld v 79 64 * 256)).map (fun i => (s.bed p (fld v 9 8)).cell (fld v 95 80 * 256 + i))).flatMap (fun w => natLe 16 w.code))) ∧
  -- R606: INT32
  (∀ (s : State) (p : Fin 16) (v : Nat), s.Inv → s.Issues p 0x34 v [(9, 8), (13, 11), (63, 32), (79, 64), (95, 80)] → fld v 13 11 = 4 →
      (s.bed p (fld v 9 8)).mode = 2 → rowsOk (fld v 79 64) (fld v 95 80) = true → s.tref p v 32 % 64 = 0 →
      s.tref p v 32 + fld v 79 64 * 1024 ≤ s.dataTop p → s.Direct p → (s.bed p (fld v 9 8)).bad = [] →
    Completes (.accStore p) s fun t =>
      s.Stores t p (s.tref p v 32) (((List.range (fld v 79 64 * 256)).map (fun i => (s.bed p (fld v 9 8)).cell (fld v 95 80 * 256 + i))).flatMap (fun w => natLe 4 (toTwos 32 (max (-(2 ^ 31)) (min (2 ^ 31 - 1) w.fix.toInt)))))) ∧
  -- R605: SUMW
  (∀ (s : State) (p : Fin 16) (v : Nat), s.Inv → s.Issues p 0x45 v [(15, 8), (47, 16), (79, 48), (95, 80), (111, 96)] → (fld v 15 12 = 2 ∨
      fld v 15 12 = 3 ∨ fld v 15 12 = 4) → fld v 95 80 ≠ 0 → s.tref p v 16 % 64 = 0 →
      s.tref p v 16 + ((fld v 95 80 * 64) * typeBits (fld v 15 12) / 8) ≤ s.dataTop p → s.Direct p → fld v 11 8 = 0 → s.tref p v 48 % 64 = 0 →
      s.tref p v 48 + 16 ≤ s.dataTop p →
    Completes (.vred p) s fun t =>
      s.Stores t p (s.tref p v 48) (natLe 16 (((s.operand p (s.tref p v 16) (fld v 15 12) (fld v 95 80 * 64)).map (fun x => image (sext 16 (fld v 111 96)) (numOf (fld v 15 12) x))).foldl wideAdd {}).code)) ∧
  -- R597: MAXEXP
  (∀ (s : State) (p : Fin 16) (v : Nat), s.Inv → s.Issues p 0x45 v [(15, 8), (47, 16), (79, 48), (95, 80), (111, 96)] → (fld v 15 12 = 2 ∨
      fld v 15 12 = 3 ∨ fld v 15 12 = 4) → fld v 95 80 ≠ 0 → s.tref p v 16 % 64 = 0 →
      s.tref p v 16 + ((fld v 95 80 * 64) * typeBits (fld v 15 12) / 8) ≤ s.dataTop p → s.Direct p → fld v 11 8 = 3 → s.tref p v 48 % 64 = 0 →
      s.tref p v 48 + 8 ≤ s.dataTop p →
    Completes (.vred p) s fun t =>
      s.Stores t p (s.tref p v 48) (natLe 8 (toTwos 64 (maxExp (fld v 15 12) (s.operand p (s.tref p v 16) (fld v 15 12) (fld v 95 80 * 64)))))) ∧
  -- R597: max and min; a choice the spec leaves open is a free value
  (∀ (s : State) (p : Fin 16) (v : Nat) (g : Bool), s.Inv → s.Issues p 0x45 v [(15, 8), (47, 16), (79, 48), (95, 80), (111, 96)] → (fld v 15 12 = 2 ∨
      fld v 15 12 = 3 ∨ fld v 15 12 = 4) → fld v 95 80 ≠ 0 → s.tref p v 16 % 64 = 0 →
      s.tref p v 16 + ((fld v 95 80 * 64) * typeBits (fld v 15 12) / 8) ≤ s.dataTop p → s.Direct p → fld v 11 8 = (if g then 1 else 2) →
      s.tref p v 48 % 64 = 0 → s.tref p v 48 + typeBits (fld v 15 12) / 8 ≤ s.dataTop p →
    Completes (.vred p) s fun t =>
      s.Stores t p (s.tref p v 48) (natLe (typeBits (fld v 15 12) / 8) (pickAll (fld v 15 12) g s.free (s.operand p (s.tref p v 16) (fld v 15 12) (fld v 95 80 * 64))))) ∧
  -- R605
  (∀ (s : State) (p : Fin 16) (v : Nat), s.Inv → s.Issues p 0x46 v [(47, 16), (79, 48), (111, 80), (127, 112)] → fld v 127 112 ≠ 0 →
      s.tref p v 16 % 64 = 0 → s.tref p v 16 + 16 * (fld v 127 112 * 64) ≤ s.dataTop p → s.tref p v 48 % 64 = 0 →
      s.tref p v 48 + 16 * (fld v 127 112 * 64) ≤ s.dataTop p → s.tref p v 80 % 64 = 0 → s.tref p v 80 + 16 * (fld v 127 112 * 64) ≤ s.dataTop p →
      s.Direct p →
    Completes (.vaddw p) s fun t =>
      s.Stores t p (s.tref p v 80) (((s.operand p (s.tref p v 16) 8 (fld v 127 112 * 64)).zip (s.operand p (s.tref p v 48) 8 (fld v 127 112 * 64))).flatMap (fun x => natLe 16 (wideAdd (wideOf x.1) (wideOf x.2)).code))) ∧
  -- R606
  (∀ (s : State) (p : Fin 16) (v : Nat), s.Inv → s.Issues p 0x47 v [(11, 8), (47, 16), (79, 48), (95, 80), (111, 96)] → (fld v 11 8 = 2 ∨
      fld v 11 8 = 3 ∨ fld v 11 8 = 4) → fld v 95 80 ≠ 0 → s.tref p v 16 % 64 = 0 → s.tref p v 16 + 16 * (fld v 95 80 * 64) ≤ s.dataTop p →
      s.tref p v 48 % 64 = 0 → s.tref p v 48 + ((fld v 95 80 * 64) * typeBits (fld v 11 8) / 8) ≤ s.dataTop p → s.Direct p →
    Completes (.vroundw p) s fun t =>
      s.Stores t p (s.tref p v 48) ((s.operand p (s.tref p v 16) 8 (fld v 95 80 * 64)).flatMap (fun x => natLe (typeBits (fld v 11 8) / 8) (roundWide (fld v 11 8) (sext 16 (fld v 111 96)) (wideOf x)))))

/-- Of a command that issues, with operands in place, of FP16, BF16 or FP32: VBIN add, subtract, multiply and divide, VFMA and VMULS store at D the exact result of
each element rounded once to the type; VBIN maximum and minimum store the greater or smaller element,
      a free value where the spec leaves the choice open; VUN
stores its function FN of each element; each sets the NAN flag where a result is a NaN. VCVT stores each element converted under its rounding and sets the
saturation flags. -/
def Obligations.VectorCommandsComplete : Prop :=
  -- R597, R599
  (∀ (s : State) (p : Fin 16) (v : Nat) (r : List Nat), s.Inv → s.Issues p 0x40 v [(15, 8), (47, 16), (79, 48), (111, 80), (127, 112)] →
      (fld v 15 12 = 2 ∨ fld v 15 12 = 3 ∨ fld v 15 12 = 4) → fld v 127 112 ≠ 0 → s.tref p v 16 % 64 = 0 →
      s.tref p v 16 + ((fld v 127 112 * 64) * typeBits (fld v 15 12) / 8) ≤ s.dataTop p → s.tref p v 48 % 64 = 0 →
      s.tref p v 48 + ((fld v 127 112 * 64) * typeBits (fld v 15 12) / 8) ≤ s.dataTop p → s.tref p v 80 % 64 = 0 →
      s.tref p v 80 + ((fld v 127 112 * 64) * typeBits (fld v 15 12) / 8) ≤ s.dataTop p → s.Direct p → fld v 11 8 = 0 →
      r = ((s.operand p (s.tref p v 16) (fld v 15 12) (fld v 127 112 * 64)).zip (s.operand p (s.tref p v 48) (fld v 15 12) (fld v 127 112 * 64))).map (fun x => (encodeNum (fld v 15 12) .nearest ((numOf (fld v 15 12) x.1).add (numOf (fld v 15 12) x.2))).1) →

    Completes (.vbin p) s fun t =>
      s.Stores t p (s.tref p v 80) (r.flatMap (fun x => natLe (typeBits (fld v 15 12) / 8) x)) ∧
      (t.plot p).flags.nan = ((s.plot p).flags.nan || r.any (isNanBits (fld v 15 12))) ∧ t.od = s.od) ∧
  -- R597, R599
  (∀ (s : State) (p : Fin 16) (v : Nat) (r : List Nat), s.Inv → s.Issues p 0x40 v [(15, 8), (47, 16), (79, 48), (111, 80), (127, 112)] →
      (fld v 15 12 = 2 ∨ fld v 15 12 = 3 ∨ fld v 15 12 = 4) → fld v 127 112 ≠ 0 → s.tref p v 16 % 64 = 0 →
      s.tref p v 16 + ((fld v 127 112 * 64) * typeBits (fld v 15 12) / 8) ≤ s.dataTop p → s.tref p v 48 % 64 = 0 →
      s.tref p v 48 + ((fld v 127 112 * 64) * typeBits (fld v 15 12) / 8) ≤ s.dataTop p → s.tref p v 80 % 64 = 0 →
      s.tref p v 80 + ((fld v 127 112 * 64) * typeBits (fld v 15 12) / 8) ≤ s.dataTop p → s.Direct p → fld v 11 8 = 1 →
      r = ((s.operand p (s.tref p v 16) (fld v 15 12) (fld v 127 112 * 64)).zip (s.operand p (s.tref p v 48) (fld v 15 12) (fld v 127 112 * 64))).map (fun x => (encodeNum (fld v 15 12) .nearest ((numOf (fld v 15 12) x.1).add (numOf (fld v 15 12) x.2).negate)).1) →

    Completes (.vbin p) s fun t =>
      s.Stores t p (s.tref p v 80) (r.flatMap (fun x => natLe (typeBits (fld v 15 12) / 8) x)) ∧
      (t.plot p).flags.nan = ((s.plot p).flags.nan || r.any (isNanBits (fld v 15 12))) ∧ t.od = s.od) ∧
  -- R597, R599
  (∀ (s : State) (p : Fin 16) (v : Nat) (r : List Nat), s.Inv → s.Issues p 0x40 v [(15, 8), (47, 16), (79, 48), (111, 80), (127, 112)] →
      (fld v 15 12 = 2 ∨ fld v 15 12 = 3 ∨ fld v 15 12 = 4) → fld v 127 112 ≠ 0 → s.tref p v 16 % 64 = 0 →
      s.tref p v 16 + ((fld v 127 112 * 64) * typeBits (fld v 15 12) / 8) ≤ s.dataTop p → s.tref p v 48 % 64 = 0 →
      s.tref p v 48 + ((fld v 127 112 * 64) * typeBits (fld v 15 12) / 8) ≤ s.dataTop p → s.tref p v 80 % 64 = 0 →
      s.tref p v 80 + ((fld v 127 112 * 64) * typeBits (fld v 15 12) / 8) ≤ s.dataTop p → s.Direct p → fld v 11 8 = 2 →
      r = ((s.operand p (s.tref p v 16) (fld v 15 12) (fld v 127 112 * 64)).zip (s.operand p (s.tref p v 48) (fld v 15 12) (fld v 127 112 * 64))).map (fun x => (encodeNum (fld v 15 12) .nearest ((numOf (fld v 15 12) x.1).mul (numOf (fld v 15 12) x.2))).1) →

    Completes (.vbin p) s fun t =>
      s.Stores t p (s.tref p v 80) (r.flatMap (fun x => natLe (typeBits (fld v 15 12) / 8) x)) ∧
      (t.plot p).flags.nan = ((s.plot p).flags.nan || r.any (isNanBits (fld v 15 12))) ∧ t.od = s.od) ∧
  -- R597, R599
  (∀ (s : State) (p : Fin 16) (v : Nat) (r : List Nat), s.Inv → s.Issues p 0x40 v [(15, 8), (47, 16), (79, 48), (111, 80), (127, 112)] →
      (fld v 15 12 = 2 ∨ fld v 15 12 = 3 ∨ fld v 15 12 = 4) → fld v 127 112 ≠ 0 → s.tref p v 16 % 64 = 0 →
      s.tref p v 16 + ((fld v 127 112 * 64) * typeBits (fld v 15 12) / 8) ≤ s.dataTop p → s.tref p v 48 % 64 = 0 →
      s.tref p v 48 + ((fld v 127 112 * 64) * typeBits (fld v 15 12) / 8) ≤ s.dataTop p → s.tref p v 80 % 64 = 0 →
      s.tref p v 80 + ((fld v 127 112 * 64) * typeBits (fld v 15 12) / 8) ≤ s.dataTop p → s.Direct p → fld v 11 8 = 3 →
      r = ((s.operand p (s.tref p v 16) (fld v 15 12) (fld v 127 112 * 64)).zip (s.operand p (s.tref p v 48) (fld v 15 12) (fld v 127 112 * 64))).map (fun x => (encodeNum (fld v 15 12) .nearest ((numOf (fld v 15 12) x.1).div (numOf (fld v 15 12) x.2)).1 ((numOf (fld v 15 12) x.1).div (numOf (fld v 15 12) x.2)).2).1) →

    Completes (.vbin p) s fun t =>
      s.Stores t p (s.tref p v 80) (r.flatMap (fun x => natLe (typeBits (fld v 15 12) / 8) x)) ∧
      (t.plot p).flags.nan = ((s.plot p).flags.nan || r.any (isNanBits (fld v 15 12))) ∧ t.od = s.od) ∧
  -- R597: max and min; where the spec leaves the choice open, a free value
  (∀ (s : State) (p : Fin 16) (v : Nat) (r : List Nat), s.Inv → s.Issues p 0x40 v [(15, 8), (47, 16), (79, 48), (111, 80), (127, 112)] →
      (fld v 15 12 = 2 ∨ fld v 15 12 = 3 ∨ fld v 15 12 = 4) → fld v 127 112 ≠ 0 → s.tref p v 16 % 64 = 0 →
      s.tref p v 16 + ((fld v 127 112 * 64) * typeBits (fld v 15 12) / 8) ≤ s.dataTop p → s.tref p v 48 % 64 = 0 →
      s.tref p v 48 + ((fld v 127 112 * 64) * typeBits (fld v 15 12) / 8) ≤ s.dataTop p → s.tref p v 80 % 64 = 0 →
      s.tref p v 80 + ((fld v 127 112 * 64) * typeBits (fld v 15 12) / 8) ≤ s.dataTop p → s.Direct p → (fld v 11 8 = 4 ∨ fld v 11 8 = 5) →
      r = ((s.operand p (s.tref p v 16) (fld v 15 12) (fld v 127 112 * 64)).zip (s.operand p (s.tref p v 48) (fld v 15 12) (fld v 127 112 * 64))).mapIdx (fun i x => pickNum (fld v 15 12) (fld v 11 8 == 4) (s.free + i) x.1 x.2) →

    Completes (.vbin p) s fun t =>
      s.Stores t p (s.tref p v 80) (r.flatMap (fun x => natLe (typeBits (fld v 15 12) / 8) x)) ∧
      (t.plot p).flags.nan = ((s.plot p).flags.nan || r.any (isNanBits (fld v 15 12))) ∧ t.od = s.od) ∧
  -- R597, R599
  (∀ (s : State) (p : Fin 16) (v : Nat) (r : List Nat), s.Inv → s.Issues p 0x41 v [(15, 12), (47, 16), (79, 48), (111, 80), (127, 112)] →
      (fld v 15 12 = 2 ∨ fld v 15 12 = 3 ∨ fld v 15 12 = 4) → fld v 127 112 ≠ 0 → s.tref p v 16 % 64 = 0 →
      s.tref p v 16 + ((fld v 127 112 * 64) * typeBits (fld v 15 12) / 8) ≤ s.dataTop p → s.tref p v 48 % 64 = 0 →
      s.tref p v 48 + ((fld v 127 112 * 64) * typeBits (fld v 15 12) / 8) ≤ s.dataTop p → s.tref p v 80 % 64 = 0 →
      s.tref p v 80 + ((fld v 127 112 * 64) * typeBits (fld v 15 12) / 8) ≤ s.dataTop p → s.Direct p →
      r = ((s.operand p (s.tref p v 16) (fld v 15 12) (fld v 127 112 * 64)).zip ((s.operand p (s.tref p v 48) (fld v 15 12) (fld v 127 112 * 64)).zip (s.operand p (s.tref p v 80) (fld v 15 12) (fld v 127 112 * 64)))).map (fun x => (encodeNum (fld v 15 12) .nearest (((numOf (fld v 15 12) x.1).mul (numOf (fld v 15 12) x.2.1)).add (numOf (fld v 15 12) x.2.2))).1) →

    Completes (.vfma p) s fun t =>
      s.Stores t p (s.tref p v 80) (r.flatMap (fun x => natLe (typeBits (fld v 15 12) / 8) x)) ∧
      (t.plot p).flags.nan = ((s.plot p).flags.nan || r.any (isNanBits (fld v 15 12))) ∧ t.od = s.od) ∧
  -- R597, R599: the function FN of each element
  (∀ (s : State) (p : Fin 16) (v : Nat) (r : List Nat), s.Inv → s.Issues p 0x42 v [(15, 8), (47, 16), (79, 48), (95, 80)] → (fld v 15 12 = 2 ∨
      fld v 15 12 = 3 ∨ fld v 15 12 = 4) → fld v 95 80 ≠ 0 → s.tref p v 16 % 64 = 0 →
      s.tref p v 16 + ((fld v 95 80 * 64) * typeBits (fld v 15 12) / 8) ≤ s.dataTop p → s.tref p v 48 % 64 = 0 →
      s.tref p v 48 + ((fld v 95 80 * 64) * typeBits (fld v 15 12) / 8) ≤ s.dataTop p → s.Direct p → fld v 11 8 ≤ 9 →
      r = (s.operand p (s.tref p v 16) (fld v 15 12) (fld v 95 80 * 64)).mapIdx (fun i x => (vun (fld v 15 12) (fld v 11 8) (s.free + i) x).getD 0) →
    Completes (.vun p) s fun t =>
      s.Stores t p (s.tref p v 48) (r.flatMap (fun x => natLe (typeBits (fld v 15 12) / 8) x)) ∧
      (t.plot p).flags.nan = ((s.plot p).flags.nan || r.any (isNanBits (fld v 15 12))) ∧ t.od = s.od) ∧
  -- R597, R599
  (∀ (s : State) (p : Fin 16) (v : Nat) (r : List Nat), s.Inv → s.Issues p 0x44 v [(15, 12), (47, 16), (79, 48), (95, 80), (127, 96)] →
      (fld v 15 12 = 2 ∨ fld v 15 12 = 3 ∨ fld v 15 12 = 4) → fld v 95 80 ≠ 0 → s.tref p v 16 % 64 = 0 →
      s.tref p v 16 + ((fld v 95 80 * 64) * typeBits (fld v 15 12) / 8) ≤ s.dataTop p → s.tref p v 48 % 64 = 0 →
      s.tref p v 48 + ((fld v 95 80 * 64) * typeBits (fld v 15 12) / 8) ≤ s.dataTop p → s.Direct p →
      r = (s.operand p (s.tref p v 16) (fld v 15 12) (fld v 95 80 * 64)).map (fun x => (encodeNum (fld v 15 12) .nearest ((numOf (fld v 15 12) x).mul (numOf 4 (fld v 127 96)))).1) →

    Completes (.vmuls p) s fun t =>
      s.Stores t p (s.tref p v 48) (r.flatMap (fun x => natLe (typeBits (fld v 15 12) / 8) x)) ∧
      (t.plot p).flags.nan = ((s.plot p).flags.nan || r.any (isNanBits (fld v 15 12))) ∧ t.od = s.od) ∧
  -- R600
  (∀ (s : State) (p : Fin 16) (v : Nat) (r : List (Nat × Bool × Bool)), s.Inv → s.Issues p 0x43 v [(15, 8), (47, 16), (79, 48), (95, 80), (103, 96),
      (107, 104)] → fld v 11 8 ≤ 7 → fld v 15 12 ≤ 7 → fld v 103 96 ≤ 2 → fld v 95 80 ≠ 0 → s.tref p v 16 % 64 = 0 →
      s.tref p v 16 + ((fld v 95 80 * 64) * typeBits (fld v 15 12) / 8) ≤ s.dataTop p → s.tref p v 48 % 64 = 0 →
      s.tref p v 48 + ((fld v 95 80 * 64) * typeBits (fld v 11 8) / 8) ≤ s.dataTop p → s.Direct p →
      r = (s.operand p (s.tref p v 16) (fld v 15 12) (fld v 95 80 * 64)).mapIdx (fun i x => convert (fld v 11 8) (fld v 15 12) (if fld v 103 96 = 0 then .nearest else if fld v 103 96 = 1 then .zero else .stochastic (stochasticR (s.idx p (fld v 107 104)) i)) x) →

    Completes (.vcvt p) s fun t =>
      s.Stores t p (s.tref p v 48) (packElems (fld v 11 8) (r.map (fun x => x.1))) ∧
      (t.plot p).flags.fp8Sat = ((s.plot p).flags.fp8Sat || r.any (fun x => x.2.1)) ∧
      (t.plot p).flags.intSat = ((s.plot p).flags.intSat || r.any (fun x => x.2.2)) ∧ t.od = s.od)

/-- Of a GLEAN command that issues, checks passed, with its table in HBM that the context maps directly and no NULL_SKIP: GATHER stores the rows of its indices one after
another, and zeros for an index out of range; without CACHE_EN it marks OUT_OF_BOUNDS then, and with CACHE_EN and an empty cache it stores the same.
SCATTER puts each row of DATA in the table row that its index alone names; SCATTER_ADD and SCATTER_ADDW add it there, as FP32 and as wide partials; no
byte outside the table changes. CSR_EXPAND within its capacity appends the neighbours of its nodes and writes their number to OUT_COUNT. -/
def Obligations.GleanerCompletes : Prop :=
  -- R610
  (∀ (s : State) (p : Fin 16) (v : Nat) (h : HostRead) (d : Gl) (w : View) (b : Nat), s.Inv → s.Issues p 0x50 v [(47, 16)] →
      s.gleanFailure p v = none → d = s.gleanDesc p (s.tref p v 16) → d.kind = 0 → s.view? p d.view = some w → s.gleanCheck p d w = 0 → w.space = 1 →
      b = s.viewBase p w → b + w.y * w.ystride + w.x ≤ hbmBytes → s.Direct p → (s.plot p).state = .running → d.cache = false → d.nullSkip = false →
    Completes (.gather p h) s fun t =>
      s.Stores t p d.data ((List.range d.count).flatMap (fun j => let i := (leNat (memRead (s.plot p).tilth (d.idx + j * d.width) d.width)); if i < w.y then memRead s.hbm (b + i * w.ystride + d.rowOff) d.rowBytes else List.replicate d.rowBytes 0)) ∧
      (t.plot p).flags.oob = ((s.plot p).flags.oob || (List.range d.count).any (fun j => decide (w.y ≤ (leNat (memRead (s.plot p).tilth (d.idx + j * d.width) d.width)))))) ∧
  -- R610, R612: with CACHE_EN
  (∀ (s : State) (p : Fin 16) (v : Nat) (h : HostRead) (d : Gl) (w : View) (b : Nat), s.Inv → s.Issues p 0x50 v [(47, 16)] →
      s.gleanFailure p v = none → d = s.gleanDesc p (s.tref p v 16) → d.kind = 0 → s.view? p d.view = some w → s.gleanCheck p d w = 0 → w.space = 1 →
      b = s.viewBase p w → b + w.y * w.ystride + w.x ≤ hbmBytes → s.Direct p → (s.plot p).state = .running → d.cache = true → d.nullSkip = false →
      (s.plot p).gcache = [] →
    Completes (.gather p h) s fun t =>
      s.Stores t p d.data ((List.range d.count).flatMap (fun j => let i := (leNat (memRead (s.plot p).tilth (d.idx + j * d.width) d.width)); if i < w.y then memRead s.hbm (b + i * w.ystride + d.rowOff) d.rowBytes else List.replicate d.rowBytes 0))) ∧
  -- R610
  (∀ (s : State) (p : Fin 16) (v : Nat) (h : HostRead) (d : Gl) (w : View) (b : Nat), s.Inv → s.Issues p 0x50 v [(47, 16)] →
      s.gleanFailure p v = none → d = s.gleanDesc p (s.tref p v 16) → d.kind = 1 → s.view? p d.view = some w → s.gleanCheck p d w = 0 → w.space = 1 →
      b = s.viewBase p w → b + w.y * w.ystride + w.x ≤ hbmBytes → s.Direct p → (s.plot p).state = .running → d.nullSkip = false → w.x ≤ w.ystride →
    Completes (.scatter p h) s fun t =>
      (∀ j < d.count, ∀ i < w.y, (leNat (memRead (s.plot p).tilth (d.idx + j * d.width) d.width)) = i → (∀ k < d.count, k ≠ j →
      leNat (memRead (s.plot p).tilth (d.idx + k * d.width) d.width) ≠ i) →
      memRead t.hbm (b + i * w.ystride + d.rowOff) d.rowBytes = memRead (s.plot p).tilth (d.data + j * d.rowBytes) d.rowBytes) ∧ (∀ x, x < b ∨
      b + w.y * w.ystride ≤ x → memByte t.hbm x = memByte s.hbm x) ∧ (t.plot p).tilth = (s.plot p).tilth ∧ (t.plot p).pc = (s.plot p).pc + 1 ∧
      t.reg = s.reg ∧ t.g = s.g) ∧
  -- R610, R611: an index named once
  (∀ (s : State) (p : Fin 16) (v : Nat) (h : HostRead) (d : Gl) (w : View) (b : Nat), s.Inv → s.Issues p 0x50 v [(47, 16)] →
      s.gleanFailure p v = none → d = s.gleanDesc p (s.tref p v 16) → d.kind = 2 → s.view? p d.view = some w → s.gleanCheck p d w = 0 → w.space = 1 →
      b = s.viewBase p w → b + w.y * w.ystride + w.x ≤ hbmBytes → s.Direct p → (s.plot p).state = .running → d.nullSkip = false → w.x ≤ w.ystride →
    Completes (.scatterAdd p h) s fun t =>
      (∀ j < d.count, ∀ i < w.y, (leNat (memRead (s.plot p).tilth (d.idx + j * d.width) d.width)) = i → (∀ k < d.count, k ≠ j →
      leNat (memRead (s.plot p).tilth (d.idx + k * d.width) d.width) ≠ i) → ∀ q < d.rowBytes / 4,
      memRead t.hbm (b + i * w.ystride + d.rowOff + 4 * q) 4 = natLe 4 (encodeNum 4 .nearest ((numOf 4 (leNat (memRead s.hbm (b + i * w.ystride + d.rowOff + 4 * q) 4))).add (numOf 4 (leNat (memRead (s.plot p).tilth (d.data + j * d.rowBytes + 4 * q) 4))))).1) ∧
      (∀ x, x < b ∨ b + w.y * w.ystride ≤ x → memByte t.hbm x = memByte s.hbm x) ∧ (t.plot p).tilth = (s.plot p).tilth ∧
      (t.plot p).pc = (s.plot p).pc + 1 ∧ t.reg = s.reg ∧ t.g = s.g) ∧
  -- R610, R611: an index named once
  (∀ (s : State) (p : Fin 16) (v : Nat) (h : HostRead) (d : Gl) (w : View) (b : Nat), s.Inv → s.Issues p 0x50 v [(47, 16)] →
      s.gleanFailure p v = none → d = s.gleanDesc p (s.tref p v 16) → d.kind = 3 → s.view? p d.view = some w → s.gleanCheck p d w = 0 → w.space = 1 →
      b = s.viewBase p w → b + w.y * w.ystride + w.x ≤ hbmBytes → s.Direct p → (s.plot p).state = .running → d.nullSkip = false → w.x ≤ w.ystride →
    Completes (.scatterAddw p h) s fun t =>
      (∀ j < d.count, ∀ i < w.y, (leNat (memRead (s.plot p).tilth (d.idx + j * d.width) d.width)) = i → (∀ k < d.count, k ≠ j →
      leNat (memRead (s.plot p).tilth (d.idx + k * d.width) d.width) ≠ i) → ∀ q < d.rowBytes / 16,
      memRead t.hbm (b + i * w.ystride + d.rowOff + 16 * q) 16 = natLe 16 (wideAdd (wideOf (leNat (memRead s.hbm (b + i * w.ystride + d.rowOff + 16 * q) 16))) (wideOf (leNat (memRead (s.plot p).tilth (d.data + j * d.rowBytes + 16 * q) 16)))).code) ∧
      (∀ x, x < b ∨ b + w.y * w.ystride ≤ x → memByte t.hbm x = memByte s.hbm x) ∧ (t.plot p).tilth = (s.plot p).tilth ∧
      (t.plot p).pc = (s.plot p).pc + 1 ∧ t.reg = s.reg ∧ t.g = s.g) ∧
  -- R610
  (∀ (s : State) (p : Fin 16) (v : Nat) (h : HostRead) (d : Gl) (w : View) (b : Nat) (u : View) (c : Nat), s.Inv → s.Issues p 0x50 v [(47, 16)] →
      s.gleanFailure p v = none → d = s.gleanDesc p (s.tref p v 16) → d.kind = 4 → s.view? p d.view = some w → s.gleanCheck p d w = 0 → w.space = 1 →
      b = s.viewBase p w → b + w.y * w.ystride + w.x ≤ hbmBytes → s.Direct p → (s.plot p).state = .running → d.nullSkip = false →
      s.view? p d.view2 = some u → u.space = 1 → c = s.viewBase p u → c + u.x * u.y ≤ hbmBytes → w.ystride = w.x → u.ystride = u.x →
      d.data + 4 * d.cap ≤ d.outCount → (∀ j < d.count, (leNat (memRead (s.plot p).tilth (d.idx + j * d.width) d.width)) + 1 < w.x * w.y / 8 ∧
      leNat (memRead s.hbm (b + 8 * (leNat (memRead (s.plot p).tilth (d.idx + j * d.width) d.width))) 8) ≤ leNat (memRead s.hbm (b + 8 * ((leNat (memRead (s.plot p).tilth (d.idx + j * d.width) d.width)) + 1)) 8) ∧
      leNat (memRead s.hbm (b + 8 * ((leNat (memRead (s.plot p).tilth (d.idx + j * d.width) d.width)) + 1)) 8) ≤ u.x * u.y / 4) →
      ((List.range d.count).flatMap (fun j => (let i := (leNat (memRead (s.plot p).tilth (d.idx + j * d.width) d.width)); memRead s.hbm (c + 4 * leNat (memRead s.hbm (b + 8 * i) 8)) (4 * (leNat (memRead s.hbm (b + 8 * (i + 1)) 8) - leNat (memRead s.hbm (b + 8 * i) 8)))))).length ≤ 4 * d.cap →

    Completes (.csrExpand p h) s fun t =>
      memRead (t.plot p).tilth d.data ((List.range d.count).flatMap (fun j => (let i := (leNat (memRead (s.plot p).tilth (d.idx + j * d.width) d.width)); memRead s.hbm (c + 4 * leNat (memRead s.hbm (b + 8 * i) 8)) (4 * (leNat (memRead s.hbm (b + 8 * (i + 1)) 8) - leNat (memRead s.hbm (b + 8 * i) 8)))))).length = ((List.range d.count).flatMap (fun j => (let i := (leNat (memRead (s.plot p).tilth (d.idx + j * d.width) d.width)); memRead s.hbm (c + 4 * leNat (memRead s.hbm (b + 8 * i) 8)) (4 * (leNat (memRead s.hbm (b + 8 * (i + 1)) 8) - leNat (memRead s.hbm (b + 8 * i) 8)))))) ∧
      memRead (t.plot p).tilth d.outCount 4 = natLe 4 (((List.range d.count).flatMap (fun j => (let i := (leNat (memRead (s.plot p).tilth (d.idx + j * d.width) d.width)); memRead s.hbm (c + 4 * leNat (memRead s.hbm (b + 8 * i) 8)) (4 * (leNat (memRead s.hbm (b + 8 * (i + 1)) 8) - leNat (memRead s.hbm (b + 8 * i) 8)))))).length / 4) ∧
      (t.plot p).flags = (s.plot p).flags ∧ (t.plot p).pc = (s.plot p).pc + 1 ∧ t.hbm = s.hbm ∧ t.reg = s.reg ∧ t.g = s.g)

/-- GO of an owned IDLE row with a valid binding and a transfer that passes the checks queues the direct transfer; CHAIN_GO sets out for the chain at ROW_CHAIN. With Bus
Master Enable clear the row is PARKED, to be ACTIVE later; else GO between places in HBM makes it ACTIVE with the transfer begun, and CHAIN_GO with
room and a tag at hand makes it ACTIVE with its chain read out. STOP of a row at its chain end makes it IDLE, of a drained row without transfers ERROR with ROW_STOPPED
and the ROW_ERROR cause, of another it waits. CLEAR leaves ERROR. ROW_KICK is kept until the end mark is reached; at it, it goes on, here up to a read
that waits for a tag. ROW_BIND_WRITE of an IDLE row and QUOTA_WRITE store an accepted value. CHAIN_ENTRIES_RECEIVED of a lone link with NEXT 0
stops the row at its chain end, and of a lone transfer that passes the checks, for a PARKED row, queues it. -/
def Obligations.RowCommandsComplete : Prop :=
  -- R297, R537
  (∀ (s : State) (r : Fin 64) (rid : Half), s.Inv → s.rowOwner r = 1 → (s.row r).state = .idle → s.bindOk r = true → s.bme = false →
      s.drillCheck (s.directDesc r) (s.harrowSlot (s.directDesc r).xform) = 0 →
    Completes (.rowGo r rid) s fun t =>
      (t.row r).state = .parked ∧ (t.row r).before = .active ∧ (t.row r).xfers.map (fun y => (y.id, y.src, y.d, y.begun)) = [((s.row r).nextId,
      .direct, s.directDesc r, false)] ∧ (t.row r).delivered = 0 ∧ t.hbm = s.hbm ∧ t.reg = s.reg ∧ t.g = s.g) ∧
  -- R537: between places in HBM
  (∀ (s : State) (r : Fin 64) (rid : Half), s.Inv → s.rowOwner r = 1 → (s.row r).state = .idle → s.bindOk r = true → s.bme = true →
      s.drillCheck (s.directDesc r) (s.harrowSlot (s.directDesc r).xform) = 0 → s.Clear → s.Maps (s.rowPasid r) → (s.directDesc r).srcSpace = 1 →
      (s.directDesc r).src < hbmBytes → (s.directDesc r).dstSpace = 1 → (s.directDesc r).dst < hbmBytes → 0 < (s.directDesc r).length →
      ((s.directDesc r).signalEn = true → s.stakeOk (s.rowIssuer r) (s.directDesc r).signalStake = true) →
    Completes (.rowGo r rid) s fun t =>
      (t.row r).state = .active ∧ (t.row r).xfers.map (fun y => (y.id, y.src, y.d, y.begun, y.finished)) = [((s.row r).nextId, .direct,
      s.directDesc r, true, none)] ∧ t.hbm = s.hbm ∧ t.reg = s.reg ∧ t.g = s.g) ∧
  -- R297, R539
  (∀ (s : State) (r : Fin 64) (rid : Half), s.Inv → s.rowOwner r = 1 → (s.row r).state = .idle → s.bindOk r = true → s.bme = false →
    Completes (.chainGo r rid) s fun t =>
      (t.row r).state = .parked ∧ (t.row r).before = .active ∧ (t.row r).hasChain = true ∧
      (t.row r).chainNext = some (s.rg (Rg.row r 0x30) / 64 * 64) ∧ (t.row r).pos = some (s.rg (Rg.row r 0x30) / 64 * 64) ∧
      (t.row r).xfers = (s.row r).xfers ∧ t.hbm = s.hbm ∧ t.reg = s.reg ∧ t.g = s.g) ∧
  -- R539
  (∀ (s : State) (r : Fin 64) (rid : Half) (g : Nat), s.Inv → s.rowOwner r = 1 → (s.row r).state = .idle → s.bindOk r = true → s.bme = true →
      (s.row r).xfers = [] → (s.row r).chainBusy = false → s.rowTagRoom r = true → s.hopperRoom r 512 = true → s.mayRequest = true →
      s.tagRoom false = true → s.freeTag = some g → (∀ n : Fin 513, s.hopperRoom r n = true) →
    Completes (.chainGo r rid) s fun t =>
      (t.row r).state = .active ∧ (t.row r).hasChain = true ∧ (t.row r).chainBusy = true ∧
      (t.row r).chainNext = some (s.rg (Rg.row r 0x30) / 64 * 64) ∧ (∃ u ∈ t.host.tags, u.tag = g ∧
      u.owner = .chain r (s.rg (Rg.row r 0x30) / 64 * 64)) ∧ t.hbm = s.hbm ∧ t.g = s.g) ∧
  -- R559
  (∀ (s : State) (r : Fin 64), s.Inv → s.rowOwner r = 1 → (s.row r).state = .chainEnd →
    Completes (.rowStop r) s fun t =>
      t = s.setRow r { s.row r with state := .idle, hasChain := false, linkAt := none, kick := false }) ∧
  -- R559
  (∀ (s : State) (r : Fin 64), s.Inv → s.rowOwner r = 1 → (s.row r).state = .active ∨ (s.row r).state = .parked → s.rowDrained r = true →
      (s.row r).xfers = [] →
    Completes (.rowStop r) s fun t =>
      (t.row r).state = .error ∧ (t.row r).code = 0x100 ∧ (t.row r).hasChain = false ∧ bit (t.rg Rg.attnCause) At.rowError = true ∧ t.hbm = s.hbm ∧
      t.od = s.od) ∧
  -- R559
  (∀ (s : State) (r : Fin 64), s.Inv → s.rowOwner r = 1 → (s.row r).state = .active ∨ (s.row r).state = .parked → s.rowDrained r = false →
    Completes (.rowStop r) s fun t =>
      t = s.setRow r { s.row r with state := .stopping }) ∧
  -- R559
  (∀ (s : State) (r : Fin 64), s.Inv → (s.row r).state = .error →
    Completes (.rowClear r) s fun t =>
      t = s.setRow r { s.row r with state := .idle }) ∧
  -- R540
  (∀ (s : State) (r : Fin 64) (rid : Half), s.Inv → (s.row r).state = .active ∨ (s.row r).state = .parked ∨ (s.row r).state = .stopping →
      (s.row r).hasChain = true →
    Completes (.rowKick r rid) s fun t =>
      t = s.setRow r { s.row r with kick := true }) ∧
  -- R540: the read of the mark waits for a tag
  (∀ (s : State) (r : Fin 64) (rid : Half) (a : Nat), s.Inv → (s.row r).state = .chainEnd → s.rowOwner r = 1 → (s.row r).xfers = [] →
      (s.row r).linkAt = some a → s.rowTagRoom r = false →
    Completes (.rowKick r rid) s fun t =>
      (t.row r).state = .active ∧ (t.row r).chainNext = some a ∧ (t.row r).hasChain = (s.row r).hasChain ∧ t.hbm = s.hbm ∧ t.reg = s.reg ∧
      t.host = s.host) ∧
  -- R529, R532
  (∀ (s : State) (r : Fin 64) (v : Word) (rid : Half), s.Inv → (s.row r).state = .idle → s.rowOwner r ≠ 2 → fld v.toNat 23 22 < 2 →
    Completes (.rowBindWrite r v rid) s fun t =>
      t.rg (Rg.row r 0x28) = v.toNat % 2 ^ 24 ∧ t.drill = s.drill ∧ t.od = s.od ∧ t.hbm = s.hbm ∧ t.g = s.g) ∧
  -- R543, R575
  (∀ (s : State) (r : Fin 64) (v : Word) (rid : Half) (q : Nat), s.Inv → q = v.toNat &&& 0x7FF0FFF0FFF →
      s.reserves + fld q 11 0 ≤ 2048 + fld (s.rg (Rg.row r 0x60)) 11 0 → fld (s.rg (Rg.row r 0x60)) 11 0 ≤ s.reserves → 1 ≤ fld q 27 16 →
      fld q 27 16 ≤ 2048 → 1 ≤ fld q 42 32 → fld q 42 32 ≤ 1912 →
    Completes (.quotaWrite (some r) v rid) s fun t =>
      t.rg (Rg.row r 0x60) = q ∧ t.drill = s.drill ∧ t.od = s.od ∧ t.hbm = s.hbm) ∧
  -- R543
  (∀ (s : State) (v : Word) (rid : Half) (q : Nat), s.Inv → q = v.toNat &&& 0xFFF0FFF → s.reserves + fld q 11 0 ≤ 2048 + fld (s.rg Rg.stileRx) 11 0 →
      fld (s.rg Rg.stileRx) 11 0 ≤ s.reserves → 1 ≤ fld q 27 16 → fld q 27 16 ≤ 2048 →
    Completes (.quotaWrite none v rid) s fun t =>
      t.rg Rg.stileRx = q ∧ t.drill = s.drill ∧ t.od = s.od ∧ t.hbm = s.hbm) ∧
  -- R538-R540: the end mark
  (∀ (s : State) (g : Nat) (d : List Byte) (u : TagUse) (r : Fin 64) (a : Nat), s.Inv → s.tagUse g = some u → u.owner = .chain r a → u.quar = .no →
      (s.row r).hasChain = true → (s.row r).chainNext = some a → d.length = 64 → leNat d = 1 + 4 * 2 ^ 424 → (s.row r).xfers = [] → s.rowOwner r = 1 →
      (s.row r).state = .active → (s.row r).kick = false →
    Completes (.chainEntriesReceived g (some d)) s fun t =>
      (t.row r).state = .chainEnd ∧ (t.row r).pos = some a ∧ (t.row r).linkAt = some a ∧ (t.row r).chainBusy = false ∧ t.tagUse g = none ∧
      t.hbm = s.hbm ∧ t.reg = s.reg) ∧
  -- R538: a transfer, of a row that is PARKED
  (∀ (s : State) (g : Nat) (d : List Byte) (u : TagUse) (r : Fin 64) (a : Nat), s.Inv → s.tagUse g = some u → u.owner = .chain r a → u.quar = .no →
      (s.row r).hasChain = true → (s.row r).chainNext = some a → d.length = 64 → (parseDesc d).opcode = 1 → (parseDesc d).link = false →
      (parseDesc d).recordEn = false → s.headerCheck 1 (parseDesc d) = 0 → s.drillCheck (parseDesc d) (s.harrowSlot (parseDesc d).xform) = 0 →
      (s.row r).state = .parked →
    Completes (.chainEntriesReceived g (some d)) s fun t =>
      (t.row r).xfers.map (fun y => (y.id, y.src, y.d, y.finished)) = (s.row r).xfers.map (fun y => (y.id, y.src, y.d,
      y.finished)) ++ [((s.row r).nextId, .chain a, parseDesc d, none)] ∧ (t.row r).chainNext = some (a + 64) ∧ t.tagUse g = none ∧ t.hbm = s.hbm ∧
      t.reg = s.reg)

/-- One row has a transfer that has begun and nothing is in its way. COULTER_ISSUE reads the whole of up to 512 bytes, of a constant or from HBM, into a piece.
HARROW_GRANT puts whole units that have arrived through the slot's operation and counts them. PRESS_WRITE writes the bytes that stand ready to HBM, changes no
other byte there, and counts them. FEED_SERVED of a request whose bytes are written reports their number to the plot's index register,
      takes the request
off, and counts. -/
def Obligations.DrillMovesBytes : Prop :=
  -- R541: a constant
  (∀ (s : State) (r : Fin 64) (x : Row) (y : Xfer), s.Inv → s.drill.rows = [(r.val, x)] → x.state = .active → x.xfers = [y] → s.rowOwner r = 0 →
      y.begun = true → y.finished = none → y.d.paced = false → y.d.harrowEn = false → s.host.frozen = false → y.endAt = none → y.d.srcSpace = 5 →
      y.readPos = 0 → y.readAuth = y.d.length → 0 < y.d.length → y.d.length ≤ 512 → s.hopperRoom r y.d.length = true → 0 < y.d.length →
    Completes (.coulterIssue) s fun t =>
      (t.row r).xfers.map (fun z => (z.id, z.readPos, z.pieces.map (fun p => (p.off, p.data, p.arrived)))) = [(y.id, y.d.length,
      y.pieces.map (fun p => (p.off, p.data, p.arrived)) ++ [(0, (List.range y.d.length).map (fun i => ((natLe 8 y.d.src).getD (i % 8) 0, false)),
      true)])] ∧ t.drill.lastCoulter = r ∧ t.hbm = s.hbm ∧ t.reg = s.reg ∧ t.host = s.host) ∧
  -- R541: from HBM
  (∀ (s : State) (r : Fin 64) (x : Row) (y : Xfer), s.Inv → s.drill.rows = [(r.val, x)] → x.state = .active → x.xfers = [y] → s.rowOwner r = 0 →
      y.begun = true → y.finished = none → y.d.paced = false → y.d.harrowEn = false → s.host.frozen = false → y.endAt = none → y.ahead = [] →
      y.fails = [] → y.d.srcSpace = 1 → y.readPos = 0 → y.readAuth = y.d.length → 0 < y.d.length → y.d.length ≤ 512 - y.d.src % 64 →
      s.hopperRoom r y.d.length = true → s.Clear → s.Maps y.pasid → y.d.src + y.d.length ≤ hbmBytes →
    Completes (.coulterIssue) s fun t =>
      (t.row r).xfers.map (fun z => (z.id, z.readPos, z.pieces.map (fun p => (p.off, p.data, p.arrived)))) = [(y.id, y.d.length,
      y.pieces.map (fun p => (p.off, p.data, p.arrived)) ++ [(0, (memRead s.hbm y.d.src y.d.length).map (fun b => (b, false)), true)])] ∧
      t.drill.lastCoulter = r ∧ t.val O.bytesRead = (s.val O.bytesRead + y.d.length) % 2 ^ 64 ∧ t.hbm = s.hbm ∧ t.reg = s.reg ∧ t.host = s.host) ∧
  -- R547-R550
  (∀ (s : State) (r : Fin 64) (x : Row) (y : Xfer) (p : Piece), s.Inv → s.drill.rows = [(r.val, x)] → x.state = .active → x.xfers = [y] →
      s.rowOwner r = 0 → y.begun = true → y.finished = none → y.d.paced = false → y.d.harrowEn = true → y.pieces = [p] → p.arrived = true →
      p.data.length = p.len → 0 < p.len → p.len ≤ 4096 → p.len % hxUnit y.harrow = 0 → 0 < hxUnit y.harrow → s.drill.lastHarrow < 64 →
    Completes (.harrowGrant) s fun t =>
      (t.row r).xfers.map (fun z => (z.id, z.pieces, z.ready)) = [(y.id, [], y.ready ++ harrowOp y.harrow p.data)] ∧ t.drill.lastHarrow = r ∧
      t.val O.harrowBytes = (s.val O.harrowBytes + p.len) % 2 ^ 64 ∧ t.hbm = s.hbm ∧ t.reg = s.reg ∧ t.host = s.host) ∧
  -- R542: to HBM
  (∀ (s : State) (r : Fin 64) (x : Row) (y : Xfer), s.Inv → s.drill.rows = [(r.val, x)] → x.state = .active → x.xfers = [y] → s.rowOwner r = 0 →
      y.begun = true → y.finished = none → y.d.paced = false → y.d.harrowEn = false → y.pieces = [] → y.fails = [] → y.ahead = [] → y.endAt = none →
      y.judged = true → y.memmove = false → y.ext = [] → y.d.dstSpace = 1 → y.pressPos = 0 → y.pressAuth = y.d.length → 0 < y.d.length →
      y.ready.length = y.d.length → y.ready.all (fun b => !b.2) = true → y.d.length ≤ 512 - y.d.dst % 64 → s.Clear → s.Maps y.pasid →
      y.d.dst + y.d.length ≤ hbmBytes →
    Completes (.pressWrite) s fun t =>
      memRead t.hbm y.d.dst y.d.length = y.ready.map (fun b => b.1) ∧ (∀ a, a < y.d.dst ∨ y.d.dst + y.d.length ≤ a →
      memByte t.hbm a = memByte s.hbm a) ∧ (t.row r).xfers.map (fun z => (z.id, z.pressPos, z.ready)) = [(y.id, y.d.length, [])] ∧
      t.drill.lastPress = r ∧ t.val O.bytesWritten = (s.val O.bytesWritten + y.d.length) % 2 ^ 64 ∧ t.reg = s.reg) ∧
  -- R552, R614
  (∀ (s : State) (r : Fin 64) (x : Row) (y : Xfer) (p c n k : Nat) (l : List (Nat × Nat × Bool)), s.Inv → s.drill.rows = [(r.val, x)] →
      x.xfers = [y] → s.rowOwner r = 0 → y.d.paced = true → p = y.d.feedPlot → c = y.d.feedCh → (s.feed p c).bound = some (r.val, y.id) →
      (s.feed p c).reqs = (n, k, true) :: l → k ≠ 0 → y.pressPos = y.pressAuth →
    Completes (.feedServed r) s fun t =>
      (t.feed p c).reqs = l ∧ kvGet 0 (t.plot p).idx k = y.pressPos - y.reqStart ∧ s.Counts t O.feedRequests ∧ t.hbm = s.hbm ∧ t.reg = s.reg ∧
      t.host = s.host)

/-- PORT_TRAINED of a port that trains and whose engine is on measures it and sends its IDENT. IDENT of a sled port and of an S64 port, from the peer that belongs there,
puts it in service at its width,
      and a sled port's that names this package's own address refuses it and raises its sources. PORT_DOWN of an active port with nothing held or ordered
takes it out with its source; of an active member it also sends the manager a FAULT_REPORT, where a sled port leads there. PORT_RETRY of a port that may be trains it
again. PORT_MARGIN_CHECK of one active port stores its margins, adds its errors,
      and raises its source where it becomes marginal. PORT_RETRAIN counts retries and changes
no port's state. PROTOCOL_DISCARD of a message that breaks the format is counted and raises PROTOCOL_ERROR. FABRIC_CREDIT_RETURN adds credits,
      and sends the
only message held once they suffice. MESSAGE_RELAY of an active member relays the message where a route and credits are at hand,
      and else counts it as misrouted. -/
def Obligations.PortsComplete : Prop :=
  -- R636, R637
  (∀ (s : State) (p : Fin 13) (full : Bool) (timing voltage : Nat), s.Inv → (s.port p).state = .training → s.engineOff p = false →
    Completes (.portTrained p full timing voltage) s fun t =>
      t.port p = { s.port p with state := .ident, lanes := (if p.val < 3 then 8 else 4) / (if full then 1 else 2), timing := timing, voltage := voltage, reason := 0 } ∧
      t.fab.sent = s.fab.sent ++ [(p.val,
      { kind := .ident, src := s.addr, payload := natLe 2 s.addr ++ natLe 1 (if p.val < 3 then 0 else if p.val < 11 then 1 else 2) ++ natLe 1 (if p.val < 3 then p.val else if p.val < 11 then p.val - 3 else p.val - 11) ++ natLe 8 Config.serial })] ∧
      t.hbm = s.hbm ∧ t.slice = s.slice ∧ t.g = s.g) ∧
  -- R637
  (∀ (s : State) (p : Fin 13) (a idx : Nat) (s64 : Option (Nat × Nat)) (dup : Bool), s.Inv → (s.port p).state = .ident → s.mgr.state = .idle →
      p.val < 3 → rackOf a = rackOf s.addr → sledOf a = sledOf s.addr → posOf a = (posOf s.addr + p.val + 1) % 4 → idx + p.val = 2 → a ≠ s.addr →
    Completes (.ident p a .sled idx s64 dup) s fun t =>
      t.port p = { s.port p with state := (if (s.port p).lanes < 8 then .half else .up), peer := a % 4096, peerPort := idx, reason := (if (s.port p).marginal then 3 else 0) } ∧
      ((s.port p).marginal = true → s.Raises t (Sc.tram (portDie p.val) 4)) ∧ t.fab.sent = s.fab.sent ∧ t.hbm = s.hbm ∧ t.slice = s.slice ∧
      t.g = s.g) ∧
  -- R637
  (∀ (s : State) (p : Fin 13) (a idx : Nat) (s64 : Option (Nat × Nat)), s.Inv → (s.port p).state = .ident → s.mgr.state = .idle → 3 ≤ p.val →
      p.val < 11 → s64 = some (p.val - 3, rackOf s.addr) → idx = sledOf s.addr * 4 + posOf s.addr →
    Completes (.ident p a .s64 idx s64 false) s fun t =>
      t.port p = { s.port p with state := (if (s.port p).lanes < 4 then .half else .up), peer := a % 4096, peerPort := idx % 16, reason := (if (s.port p).marginal then 3 else 0) } ∧
      (t.time.portsUpAt).isSome = true ∧ t.fab.sent = s.fab.sent ∧ t.hbm = s.hbm ∧ t.slice = s.slice ∧ t.g = s.g) ∧
  -- R637, R638
  (∀ (s : State) (p : Fin 13) (a idx : Nat) (cls : PortClass) (s64 : Option (Nat × Nat)) (dup : Bool), s.Inv → (s.port p).state = .ident →
      s.mgr.state = .idle → p.val < 3 → a = s.addr →
    Completes (.ident p a cls idx s64 dup) s fun t =>
      t.port p = { s.port p with state := .refused, reason := 2, retryAt := s.now + 100000000 } ∧
      t.fc.ring = s.fc.ring ++ [{ source := Sc.tram (portDie p.val) 1, cap := { addr := some p.val } }, { source := Sc.tram (portDie p.val) 2, cap := { addr := some p.val } }] ∧
      t.fab.sent = s.fab.sent ∧ t.hbm = s.hbm ∧ t.slice = s.slice ∧ t.g = s.g) ∧
  -- R636
  (∀ (s : State) (p : Fin 13), s.Inv → (s.port p).active = true → s.fab.held = [] → s.fab.ordered = [] → s.slice.state = .none →
    Completes (.portDown p) s fun t =>
      t.port p = { s.port p with state := .down, lanes := 0, reason := 4, credits := [0, 0, 0], returned := [0, 0, 0], retryAt := s.now + 100000000 } ∧
      t.fc.ring = s.fc.ring ++ [{ source := Sc.tram (portDie p.val) 0, cap := { addr := some p.val } }] ∧ t.fab.sent = s.fab.sent ∧ t.hbm = s.hbm ∧
      t.slice = s.slice ∧ t.g = s.g) ∧
  -- R670
  (∀ (s : State) (p : Fin 13) (q : Fin 3), s.Inv → (s.port p).active = true → s.fab.held = [] → s.fab.ordered = [] → s.slice.state = .active →
      p.val < 11 → p.val ≠ q.val → s.slice.mgrAddr ≠ s.addr → rackOf s.slice.mgrAddr = rackOf s.addr → sledOf s.slice.mgrAddr = sledOf s.addr →
      (posOf s.slice.mgrAddr + 4 - posOf s.addr + 3) % 4 = q.val → (s.port q).active = true → (s.port q).credits.length = 3 →
      2 ≤ (s.port q).credits.getD 2 0 → s.slice.id ≠ 0 →
    Completes (.portDown p) s fun t =>
      t.port p = { s.port p with state := .down, lanes := 0, reason := 4, credits := [0, 0, 0], returned := [0, 0, 0], retryAt := s.now + 100000000 } ∧
      t.fc.ring = s.fc.ring ++ [{ source := Sc.tram (portDie p.val) 0, cap := { addr := some p.val } }] ∧ t.fab.sent = s.fab.sent ++ [(q.val,
      { kind := .faultReport, dst := s.slice.mgrAddr, src := s.addr, slice := s.slice.id, hop := s.slice.mgrAddr, payload := natLe 1 2 ++ natLe 1 p.val ++ natLe 32 0 })] ∧
      t.hbm = s.hbm ∧ t.slice = s.slice ∧ t.g = s.g) ∧
  -- R636
  (∀ (s : State) (p : Fin 13), s.Inv → (s.port p).state = .down ∨ (s.port p).state = .refused → s.portAllowed p = true →
    Completes (.portRetry p) s fun t =>
      t = { s with now := max s.now (s.port p).retryAt }.setPort p { state := .training }) ∧
  -- R635, R639
  (∀ (s : State) (p ti vo a b : Nat), s.Inv → p < 13 → (s.port p).active = true →
    Completes (.portMarginCheck [(p, ti, vo)] [(p, a, b)]) s fun t =>
      t.port p = { s.port p with timing := ti, voltage := vo, reason := (if ti < 150 ∨ vo < 12 then 3 else 0) } ∧
      t.val (O.portCorrected + p) = (s.val (O.portCorrected + p) + a) % 2 ^ 64 ∧
      t.val (O.portReplays + p) = (s.val (O.portReplays + p) + b) % 2 ^ 64 ∧ ((ti < 150 ∨ vo < 12) → (s.port p).marginal = false →
      s.Raises t (Sc.tram (portDie p) 4)) ∧ t.fab.sent = s.fab.sent ∧ t.hbm = s.hbm ∧ t.slice = s.slice ∧ t.g = s.g) ∧
  -- R639
  (∀ (s : State) (ports : BitVec 13), s.Inv →
    Completes (.portRetrain ports) s fun t =>
      (∀ p : Fin 13, t.port p = { s.port p with retries := (s.port p).retries + b2n (ports.getLsbD p && (s.port p).active) }) ∧
      t.val O.retrains = (s.val O.retrains + ((List.range 13).filter (fun p => ports.getLsbD p && (s.port p).active)).length) % 2 ^ 64 ∧
      t.fab.sent = s.fab.sent ∧ t.fab.held = s.fab.held ∧ t.hbm = s.hbm ∧ t.slice = s.slice ∧ t.g = s.g) ∧
  -- R646
  (∀ (s : State) (p : Fin 13) (bytes : List Byte), s.Inv → (s.port p).active = true → wireBad bytes = true →
    Completes (.protocolDiscard p bytes) s fun t =>
      s.Counts t O.protocolDiscards ∧ s.Counts t O.msgsRx ∧ s.Raises t (Sc.tram (portDie p.val) 3) ∧ t.fab = s.fab ∧ t.hbm = s.hbm ∧
      t.slice = s.slice ∧ t.g = s.g) ∧
  -- R649
  (∀ (s : State) (p : Fin 13) (vc : Fin 3) (n : Nat), s.Inv → (s.port p).active = true → s.fab.held = [] →
    Completes (.fabricCreditReturn p vc n) s fun t =>
      t = s.setPort p { s.port p with credits := (s.port p).credits.set vc ((s.port p).credits.getD vc 0 + n) }) ∧
  -- R649
  (∀ (s : State) (p : Fin 13) (vc : Fin 3) (n : Nat) (m : Msg), s.Inv → (s.port p).active = true → s.fab.held = [(p.val, m)] → msgVc m.kind = vc.val →
      (s.port p).credits.length = 3 → m.kind ≠ .ident → (wireBytes m).length ≤ 64 * ((s.port p).credits.getD vc 0 + n) →
    Completes (.fabricCreditReturn p vc n) s fun t =>
      t.fab.held = [] ∧ t.fab.sent = s.fab.sent ++ [(p.val, m)] ∧
      t.port p = { s.port p with credits := (s.port p).credits.set vc ((s.port p).credits.getD vc 0 + n - ((wireBytes m).length + 63) / 64) } ∧
      t.hbm = s.hbm ∧ t.slice = s.slice ∧ t.g = s.g) ∧
  -- R643
  (∀ (s : State) (p : Fin 13) (m w : Msg) (h q : Nat), s.Inv → w = onWire m → (s.port p).active = true → w.hop = s.addr → w.dst ≠ s.addr →
      s.slice.state = .active → p.val < 11 → w.kind ≠ .ident → s.route w.kind w.dst = some (h, q) → s.fab.held = [] → (s.port q).credits.length = 3 →
      (wireBytes { w with relayed := true, hop := h }).length ≤ 64 * (s.port q).credits.getD (msgVc w.kind) 0 →
    Completes (.messageRelay p m) s fun t =>
      t.fab.sent = s.fab.sent ++ [(q, { w with relayed := true, hop := h })] ∧ s.Counts t O.relayed ∧ s.Counts t O.msgsRx ∧ t.hbm = s.hbm ∧
      t.slice = s.slice ∧ t.g = s.g) ∧
  -- R643
  (∀ (s : State) (p : Fin 13) (m : Msg), s.Inv → (s.port p).active = true → m.hop % 2 ^ 12 = s.addr → m.dst % 2 ^ 12 ≠ s.addr →
      s.slice.state ≠ .active →
    Completes (.messageRelay p m) s fun t =>
      t.fab.sent = s.fab.sent ∧ s.Counts t O.misrouted ∧ s.Counts t O.msgsRx ∧ t.hbm = s.hbm ∧ t.slice = s.slice ∧ t.g = s.g)

/-- Where a route and credits for the answer are at hand: STILE_WRITE and READ_REQ that a window onto the device-local space allows, of HBM that its context maps directly,
write exactly the payload, or read, and are answered; a write that the window refuses is answered with its status, counted,
      and changes nothing. STAKE_ADD and STAKE_SET
that a window allows, no wait being placed on the stake, act on it, STAKE_READ reads it,
      and each is answered and counted. WRITE_ACK, STAKE_ACK and STAKE_RSP end the only
request outstanding, which they name; READ_RSP fills the only piece of the row's transfer that asked. REMOTE_READ_TIMEOUT of the only request,
      of a row, ends the
transfer with 0x108,
      at its time at the earliest. STILE_CTRL_WRITE of an accepted value to each register of a window that is not enabled stores it; of a CTRL that disables
a window for which nothing waits, it disables it. STILE_DRAIN_DONE with nothing waiting ends the draining. -/
def Obligations.StileMessagesComplete : Prop :=
  -- R653, R655
  (∀ (s : State) (p : Fin 13) (m w : Msg) (h q : Nat) (a : Nat), s.Inv → w = onWire { m with kind := .stileWrite } → s.Receives p m →
      s.stileRefuses p w = none → s.Clear → s.Maps (fld (s.stile w.window 0) 35 16) → fld (s.stile w.window 0) 5 4 = 0 →
      a = s.stile w.window 1 / 4096 * 4096 + w.addr → w.marks = [] → a < hbmBytes → a + w.payload.length ≤ hbmBytes →
      s.route .writeAck w.src = some (h, q) → s.fab.held = [] → (s.port q).credits.length = 3 → 1 ≤ (s.port q).credits.getD 1 0 →
    Completes (.stileWrite p m) s fun t =>
      memRead t.hbm a w.payload.length = w.payload ∧ (∀ x, x < a ∨ a + w.payload.length ≤ x → memByte t.hbm x = memByte s.hbm x) ∧
      t.fab.sent = s.fab.sent ++ [(q,
      { kind := .writeAck, dst := w.src, src := s.addr, slice := s.sliceField, hop := h, tag := w.tag, window := w.window })] ∧ s.Counts t O.msgsRx ∧
      t.drill = s.drill ∧ t.g = s.g ∧ t.plots = s.plots) ∧
  -- R653
  (∀ (s : State) (p : Fin 13) (m w : Msg) (h q : Nat) (c : Nat), s.Inv → w = onWire { m with kind := .stileWrite } → s.Receives p m →
      s.stileRefuses p w = some c → s.route .writeAck w.src = some (h, q) → s.fab.held = [] → (s.port q).credits.length = 3 →
      1 ≤ (s.port q).credits.getD 1 0 →
    Completes (.stileWrite p m) s fun t =>
      t.hbm = s.hbm ∧ t.fab.sent = s.fab.sent ++ [(q,
      { kind := .writeAck, dst := w.src, src := s.addr, slice := s.sliceField, hop := h, tag := w.tag, window := w.window, aux := c })] ∧
      s.Counts t O.stileRefused ∧ s.Counts t O.msgsRx ∧ t.drill = s.drill ∧ t.g = s.g ∧ t.plots = s.plots) ∧
  -- R653, R655
  (∀ (s : State) (p : Fin 13) (m w : Msg) (h q : Nat) (a : Nat), s.Inv → w = onWire { m with kind := .readReq } → s.Receives p m →
      s.stileRefuses p w = none → s.Clear → s.Maps (fld (s.stile w.window 0) 35 16) → fld (s.stile w.window 0) 5 4 = 0 →
      a = s.stile w.window 1 / 4096 * 4096 + w.addr → a < hbmBytes → a + w.aux ≤ hbmBytes → s.route .readRsp w.src = some (h, q) → s.fab.held = [] →
      (s.port q).credits.length = 3 → (40 + w.aux + 63) / 64 ≤ (s.port q).credits.getD 1 0 →
    Completes (.readReq p m) s fun t =>
      t.hbm = s.hbm ∧ t.fab.sent = s.fab.sent ++ [(q,
      { kind := .readRsp, dst := w.src, src := s.addr, slice := s.sliceField, hop := h, tag := w.tag, window := w.window, payload := memRead s.hbm a w.aux })] ∧
      s.Counts t O.msgsRx ∧ t.drill = s.drill ∧ t.g = s.g ∧ t.plots = s.plots) ∧
  -- R652, R653
  (∀ (s : State) (p : Fin 13) (m w : Msg) (h q : Nat), s.Inv → w = onWire { m with kind := .stakeAdd } → s.Receives p m → s.stileRefuses p w = none →
      s.Settled → (∀ x ∈ s.g.waits, x.stake ≠ w.aux) → s.route .stakeAck w.src = some (h, q) → s.fab.held = [] → (s.port q).credits.length = 3 →
      1 ≤ (s.port q).credits.getD 1 0 →
    Completes (.remoteStakeAdd p m) s fun t =>
      t.stake w.aux = (s.stake w.aux + w.addr) % 2 ^ 64 ∧ t.fab.sent = s.fab.sent ++ [(q,
      { kind := .stakeAck, dst := w.src, src := s.addr, slice := s.sliceField, hop := h, tag := w.tag, window := w.window })] ∧
      s.Counts t O.remoteOps ∧ (2 ^ 64 ≤ s.stake w.aux + w.addr → s.Raises t Sc.stakeWrap) ∧ t.g.waits = s.g.waits ∧ t.hbm = s.hbm ∧
      t.drill = s.drill) ∧
  -- R652, R653
  (∀ (s : State) (p : Fin 13) (m w : Msg) (h q : Nat), s.Inv → w = onWire { m with kind := .stakeSet } → s.Receives p m → s.stileRefuses p w = none →
      s.Settled → (∀ x ∈ s.g.waits, x.stake ≠ w.aux) → s.route .stakeAck w.src = some (h, q) → s.fab.held = [] → (s.port q).credits.length = 3 →
      1 ≤ (s.port q).credits.getD 1 0 →
    Completes (.remoteStakeSet p m) s fun t =>
      t.stake w.aux = w.addr ∧ t.fab.sent = s.fab.sent ++ [(q,
      { kind := .stakeAck, dst := w.src, src := s.addr, slice := s.sliceField, hop := h, tag := w.tag, window := w.window })] ∧
      s.Counts t O.remoteOps ∧ t.g.waits = s.g.waits ∧ t.hbm = s.hbm ∧ t.drill = s.drill) ∧
  -- R652, R653
  (∀ (s : State) (p : Fin 13) (m w : Msg) (h q : Nat), s.Inv → w = onWire { m with kind := .stakeRead } → s.Receives p m → s.stileRefuses p w = none →
      s.route .stakeRsp w.src = some (h, q) → s.fab.held = [] → (s.port q).credits.length = 3 → 1 ≤ (s.port q).credits.getD 1 0 →
    Completes (.stakeRead p m) s fun t =>
      t.fab.sent = s.fab.sent ++ [(q,
      { kind := .stakeRsp, dst := w.src, src := s.addr, slice := s.sliceField, hop := h, tag := w.tag, window := w.window, addr := s.stake w.aux })] ∧
      s.Counts t O.remoteOps ∧ t.g = s.g ∧ t.hbm = s.hbm ∧ t.drill = s.drill) ∧
  -- R647, R655
  (∀ (s : State) (p : Fin 13) (m w : Msg) (y : FabReq), s.Inv → w = onWire { m with kind := .writeAck } → s.Receives p m → s.fab.reqs = [y] →
      y.tag = w.tag → y.kind = .stileWrite → y.dst = w.src → s.fab.ordered = [] → w.aux = 0 → (y.owner = .none ∨ ∃ k : Fin 32,
      y.owner = .plotSignal k) →
    Completes (.writeAck p m) s fun t =>
      t.fab.reqs = [] ∧ t.fab.sent = s.fab.sent ∧ t.drill = s.drill ∧ t.plots = s.plots ∧ t.g = s.g ∧ t.hbm = s.hbm ∧ s.Counts t O.msgsRx) ∧
  -- R647, R655
  (∀ (s : State) (p : Fin 13) (m w : Msg) (y : FabReq), s.Inv → w = onWire { m with kind := .stakeAck } → s.Receives p m → s.fab.reqs = [y] →
      y.tag = w.tag → y.kind = .stakeAdd → y.dst = w.src → s.fab.ordered = [] → w.aux = 0 → (y.owner = .none ∨ ∃ k : Fin 32,
      y.owner = .plotSignal k) →
    Completes (.stakeAck p m) s fun t =>
      t.fab.reqs = [] ∧ t.fab.sent = s.fab.sent ∧ t.drill = s.drill ∧ t.plots = s.plots ∧ t.g = s.g ∧ t.hbm = s.hbm ∧ s.Counts t O.msgsRx) ∧
  -- R647, R655
  (∀ (s : State) (p : Fin 13) (m w : Msg) (y : FabReq), s.Inv → w = onWire { m with kind := .stakeAck } → s.Receives p m → s.fab.reqs = [y] →
      y.tag = w.tag → y.kind = .stakeSet → y.dst = w.src → s.fab.ordered = [] → w.aux = 0 → (y.owner = .none ∨ ∃ k : Fin 32,
      y.owner = .plotSignal k) →
    Completes (.stakeAck p m) s fun t =>
      t.fab.reqs = [] ∧ t.fab.sent = s.fab.sent ∧ t.drill = s.drill ∧ t.plots = s.plots ∧ t.g = s.g ∧ t.hbm = s.hbm ∧ s.Counts t O.msgsRx) ∧
  -- R647, R655
  (∀ (s : State) (p : Fin 13) (m w : Msg) (y : FabReq), s.Inv → w = onWire { m with kind := .stakeRsp } → s.Receives p m → s.fab.reqs = [y] →
      y.tag = w.tag → y.kind = .stakeRead → y.dst = w.src → s.fab.ordered = [] → w.aux = 0 → (y.owner = .none ∨ ∃ k : Fin 32,
      y.owner = .plotSignal k) →
    Completes (.stakeRsp p m) s fun t =>
      t.fab.reqs = [] ∧ t.fab.sent = s.fab.sent ∧ t.drill = s.drill ∧ t.plots = s.plots ∧ t.g = s.g ∧ t.hbm = s.hbm ∧ s.Counts t O.msgsRx) ∧
  -- R647, R574
  (∀ (s : State) (p : Fin 13) (m w : Msg) (y : FabReq) (r id off n : Nat) (x : Xfer) (c : Piece), s.Inv → w = onWire { m with kind := .readRsp } →
      s.Receives p m → s.fab.reqs = [y] → y.tag = w.tag → y.kind = .readReq → y.dst = w.src → s.fab.ordered = [] → w.aux = 0 → w.marks = [] →
      s.fab.lateTags = [] → y.owner = .row r id off n → w.payload.length = n → s.rowOwner r ≠ 1 → (s.row r).xfers = [x] → x.id = id → x.pieces = [c] →
      c.off = off → c.len = n → c.arrived = false →
    Completes (.readRsp p m) s fun t =>
      (t.row r).xfers = [{ x with pieces := [{ c with data := w.payload.map (fun b => (b, false)), arrived := true }] }] ∧ t.fab.reqs = [] ∧
      t.fab.sent = s.fab.sent ∧ t.hbm = s.hbm ∧ t.g = s.g ∧ s.Counts t O.msgsRx) ∧
  -- R574
  (∀ (s : State) (tag : Nat) (y : FabReq) (r id off n e : Nat) (x : Xfer) (c : Piece), s.Inv → s.fab.reqs = [y] → y.tag = tag → y.kind = .readReq →
      y.owner = .row r id off n → y.deadline = some e → s.rowOwner r ≠ 1 → (s.row r).xfers = [x] → x.id = id → x.pieces = [c] → c.off = off →
    Completes (.remoteReadTimeout tag) s fun t =>
      t.now = max s.now e ∧ t.fab = { s.fab with reqs := [], lateTags := s.fab.lateTags ++ [tag] } ∧
      (t.row r).xfers = [{ x with pieces := [], readPos := off, endAt := some (0x108, 0) }] ∧ t.hbm = s.hbm ∧ t.reg = s.reg ∧ t.od = s.od ∧
      t.g = s.g) ∧
  -- R656, R686
  (∀ (s : State) (w : Fin 4096) (v : Word) (rid : Half), s.Inv → bit (s.stile w 0) 0 = false → s.fab.draining.contains w.val = false →
      fld v.toNat 5 4 < 2 →
    Completes (.stileCtrlWrite w 0 v rid) s fun t =>
      t = s.setRg (Rg.stile w 0) (v.toNat &&& 0xFFFFF03FF)) ∧
  -- R656
  (∀ (s : State) (w : Fin 4096) (v : Word) (rid : Half), s.Inv → bit (s.stile w 0) 0 = true → bit v.toNat 0 = false →
      (v.toNat &&& 0xFFFFF03FF) / 2 = s.stile w 0 / 2 → s.fab.waiting = [] → fld v.toNat 5 4 < 2 →
    Completes (.stileCtrlWrite w 0 v rid) s fun t =>
      t = s.setRg (Rg.stile w 0) (setBit (s.stile w 0) 0 false)) ∧
  -- R656, R686
  (∀ (s : State) (w : Fin 4096) (v : Word) (rid : Half), s.Inv → bit (s.stile w 0) 0 = false → s.fab.draining.contains w.val = false →
    Completes (.stileCtrlWrite w 1 v rid) s fun t =>
      t = s.setRg (Rg.stile w 8) (v.toNat % 2 ^ 40 / 4096 * 4096)) ∧
  -- R656, R686
  (∀ (s : State) (w : Fin 4096) (v : Word) (rid : Half), s.Inv → bit (s.stile w 0) 0 = false → s.fab.draining.contains w.val = false →
      fld v.toNat 27 0 ≠ 0 →
    Completes (.stileCtrlWrite w 2 v rid) s fun t =>
      t = s.setRg (Rg.stile w 16) (v.toNat &&& 0xFFFFFFFF0FFFFFFF)) ∧
  -- R656, R686
  (∀ (s : State) (w : Fin 4096) (v : Word) (rid : Half), s.Inv → bit (s.stile w 0) 0 = false → s.fab.draining.contains w.val = false →
      fld v.toNat 1 0 ≠ 3 → fld v.toNat 48 32 ≤ 65536 →
    Completes (.stileCtrlWrite w 3 v rid) s fun t =>
      t = s.setRg (Rg.stile w 24) (v.toNat &&& 0x1FFFFFFFFFFF3)) ∧
  -- R656
  (∀ (s : State) (w : Fin 4096), s.fab.waiting = [] → s.fab.owed = [] →
    Completes (.stileDrainDone w) s fun t =>
      t.fab = { s.fab with draining := s.fab.draining.filter (fun k => k != w.val) } ∧ t.reg = s.reg ∧ t.hbm = s.hbm ∧ t.od = s.od ∧
      t.drill = s.drill)

/-- JOIN from the manager and of the slice that SLICE_ACCEPT names makes the package a member; any other is refused with 0x50, where a route and credits for the answer are at hand.
JOIN_ACK of the last member makes the forming slice ACTIVE; one that refuses is noted. MGR_CMD FORM of an accepted list makes the manager member 0 and forms; on an ACTIVE slice it answers
1 and changes nothing else of it. DISSOLVE halts the slice with cause 7, and so does FORMATION_TIMEOUT of members that have not answered,
      10 ms after FORM at the earliest. SLICE_RESTART
of a halted slice whose lost port is known forms the next slice; once that is ACTIVE it opens it for work. SLICE_RELEASE ends a halted membership and its subscriptions. -/
def Obligations.SliceFormsAndEnds : Prop :=
  -- R666
  (∀ (s : State) (p : Fin 13) (m w : Msg), s.Inv → w = onWire { m with kind := .join } → s.Receives p m →
      s.joinOk (bytesAt w.payload 8 2) (bytesAt w.payload 0 4) = true →
    Completes (.sliceJoin p m) s fun t =>
      t.slice.state = .active ∧ t.slice.id = bytesAt w.payload 0 4 ∧ t.slice.index = bytesAt w.payload 4 2 ∧ t.slice.count = bytesAt w.payload 6 2 ∧
      t.slice.mgrAddr = bytesAt w.payload 8 2 ∧ t.slice.barrier = bytesAt w.payload 10 4 ∧ t.slice.lastHeartbeat = s.now ∧
      bit (t.rg Rg.attnCause) At.slice = true ∧ t.hbm = s.hbm ∧ t.mgr = s.mgr) ∧
  -- R666
  (∀ (s : State) (p : Fin 13) (m w : Msg) (h q : Nat), s.Inv → w = onWire { m with kind := .join } → s.Receives p m →
      s.joinOk (bytesAt w.payload 8 2) (bytesAt w.payload 0 4) = false → s.route .joinAck (bytesAt w.payload 8 2) = some (h, q) → s.fab.held = [] →
      (s.port q).credits.length = 3 → 1 ≤ (s.port q).credits.getD 2 0 →
    Completes (.sliceJoin p m) s fun t =>
      t.slice = s.slice ∧ t.fab.sent.map (fun x => (x.1, x.2.kind, x.2.dst, x.2.hop, x.2.payload)) = s.fab.sent.map (fun x => (x.1, x.2.kind, x.2.dst,
      x.2.hop, x.2.payload)) ++ [(q, .joinAck, bytesAt w.payload 8 2, h, natLe 2 0x50 ++ natLe 4 noGen)] ∧ t.hbm = s.hbm ∧ t.mgr = s.mgr) ∧
  -- R665
  (∀ (s : State) (p : Fin 13) (m w : Msg), s.Inv → w = onWire { m with kind := .joinAck } → s.Receives p m → s.mgr.state = .forming →
      s.mgr.restarting = false → s.mgr.members = [w.src] → w.slice = s.val O.mgrSliceId → w.src ≠ s.addr → bytesAt w.payload 0 2 = 0 →
      s.mgr.acks.any (fun k => k.1 == s.addr && k.2.1 == 0) = true → s.ownTramlinesUp = true →
    Completes (.joinAck p m) s fun t =>
      t.mgr = { s.mgr with state := .active, acks := s.mgr.acks.filter (fun k => k.1 != w.src) ++ [(w.src, 0, bytesAt w.payload 2 4)] } ∧
      t.slice = s.slice ∧ bit (t.rg Rg.attnCause) At.slice = true ∧ t.hbm = s.hbm) ∧
  -- R665: a member refuses
  (∀ (s : State) (p : Fin 13) (m w : Msg), s.Inv → w = onWire { m with kind := .joinAck } → s.Receives p m → s.mgr.state = .forming →
      s.mgr.restarting = false → s.mgr.members.contains w.src = true → w.slice = s.val O.mgrSliceId → w.src ≠ s.addr → bytesAt w.payload 0 2 ≠ 0 →
    Completes (.joinAck p m) s fun t =>
      t.mgr = { s.mgr with acks := s.mgr.acks.filter (fun k => k.1 != w.src) ++ [(w.src, bytesAt w.payload 0 2, bytesAt w.payload 2 4)] } ∧
      t.slice = s.slice ∧ t.hbm = s.hbm) ∧
  -- R665
  (∀ (s : State), s.Inv → s.mgr.state = .idle ∨ s.mgr.state = .halted → s.mgr.listsOk s.addr = true → s.noRoute (s.addr :: s.mgr.members) = false →
      s.mgr.lost = [] → s.slice.state ≠ .active → s.mgr.members ≠ [] →
    Completes (.mgrCmdForm) s fun t =>
      t.mgr.state = .forming ∧ t.mgr.members = s.mgr.members ∧ t.mgr.startedAt = s.now ∧ t.slice.state = .active ∧ t.slice.id = s.val O.mgrSliceId ∧
      t.slice.index = 0 ∧ t.slice.count = s.mgr.members.length + 1 ∧ t.slice.mgrAddr = s.addr ∧ t.val O.mgrResult = 0 ∧ t.hbm = s.hbm ∧
      t.drill = s.drill) ∧
  -- R665: the slice is active already
  (∀ (s : State), s.Inv → s.mgr.state = .active →
    Completes (.mgrCmdForm) s fun t =>
      t.val O.mgrResult = 1 ∧ t.mgr = s.mgr ∧ t.slice = s.slice ∧ t.hbm = s.hbm) ∧
  -- R671
  (∀ (s : State), s.Inv → s.mgr.state = .active → s.slice.state = .active →
    Completes (.mgrCmdDissolve) s fun t =>
      t.mgr.state = .halted ∧ t.mgr.cause = 7 ∧ t.mgr.blamed = s.addr ∧ t.mgr.blamedPort = none ∧ t.slice.state = .halted ∧ t.slice.haltCause = 7 ∧
      t.slice.haltSource = s.addr ∧ bit (t.rg Rg.attnCause) At.slice = true) ∧
  -- R665
  (∀ (s : State) (l : List Nat), s.Inv → s.mgr.state = .forming → s.slice.state = .active → s.mgr.acks.all (fun a => a.2.1 == 0) = true →
      l = s.mgr.members.filter (fun a => s.mgr.acks.all (fun k => k.1 != a)) → l ≠ [] →
    Completes (.formationTimeout) s fun t =>
      t.mgr.state = .halted ∧ t.mgr.excluded = s.mgr.excluded ++ l ∧ t.val O.mgrResult = 2 ∧ t.slice.state = .halted ∧ t.slice.haltCause = 7 ∧
      t.slice.haltSource = s.addr ∧ t.now = max s.now (s.mgr.startedAt + 10000000)) ∧
  -- R831
  (∀ (s : State), s.Inv → s.mgr.state = .active → s.mgr.restarting = true →
    Completes (.sliceRestart []) s fun t =>
      t.mgr = { s.mgr with restarting := false } ∧ bit (t.rg Rg.attnCause) At.slice = true ∧ t.slice = s.slice ∧ t.hbm = s.hbm ∧ t.fab = s.fab) ∧
  -- R674, R675
  (∀ (s : State) (l : List RestartEntry) (p : Nat), s.Inv → s.mgr.state = .halted → s.val O.restartAuto = 1 → s.mgr.cause = 2 →
      s.mgr.blamedPort = some p → p < 11 → s.sliceGen ≠ noGen → s.mgr.members ≠ [] → s.mgr.members.contains s.addr = false →
    Completes (.sliceRestart l) s fun t =>
      t.mgr.state = .restarting ∧ t.mgr.members = s.mgr.members ∧ t.mgr.restarting = true ∧ t.slice.state = .active ∧
      t.slice.id = s.val O.mgrSliceId + 1 ∧ t.slice.index = 0 ∧ t.slice.mgrAddr = s.addr ∧ t.hbm = s.hbm) ∧
  -- R210, R667
  (∀ (s : State), s.Inv → s.slice.state = .halted →
    Completes (.sliceRelease) s fun t =>
      t.slice = { s.slice with state := .none, mgrAddr := 0xFFFF, routes := [] } ∧ (∀ i : Fin 32, fld (s.val (O.subscription + i)) 29 28 = 2 →
      fld (t.val (O.subscription + i)) 26 24 = 0) ∧ t.hbm = s.hbm ∧ t.mgr = s.mgr)

/-- HEARTBEAT of the manager is noted by a member and one of a member by the manager. HEARTBEAT_SEND of a member, with a route and credits at hand, sends one. HEARTBEAT_MISSED, 330 ms after
the last one at the earliest, halts a member with cause 5,
      and the slice with cause 4. HALT of the manager halts a member with its cause. MEMBER_RESET and FAULT_REPORT of a member halt the
slice and blame it. POWER_LOSS of a peer, with nothing held or ordered, takes its port out without an event outside a slice,
      and of a member halts the slice with cause 6. MGMT_REQUEST of the manager, with fewer than 8
waiting, waits in its queue. -/
def Obligations.SliceIsWatched : Prop :=
  -- R668
  (∀ (s : State) (p : Fin 13) (m w : Msg), s.Inv → w = onWire { m with kind := .heartbeat } → s.Receives p m → s.slice.state = .active →
      w.slice = s.slice.id → w.src = s.slice.mgrAddr → s.mgr.state = .idle →
    Completes (.heartbeat p m) s fun t =>
      t.slice = { s.slice with lastHeartbeat := s.now } ∧ t.mgr = s.mgr ∧ t.reg = s.reg ∧ t.hbm = s.hbm) ∧
  -- R668
  (∀ (s : State) (p : Fin 13) (m w : Msg), s.Inv → w = onWire { m with kind := .heartbeat } → s.Receives p m → s.slice.state = .active →
      w.slice = s.slice.id → s.mgr.state = .active → s.slice.mgrAddr = s.addr → w.src ≠ s.addr → s.mgr.members.contains w.src = true →
    Completes (.heartbeat p m) s fun t =>
      t.mgr = { s.mgr with heartbeats := s.mgr.heartbeats.map (fun h => if h.1 = w.src then (h.1, s.now) else h) } ∧ t.slice = s.slice ∧
      t.reg = s.reg ∧ t.hbm = s.hbm) ∧
  -- R668
  (∀ (s : State) (h q : Nat), s.Inv → s.slice.state = .active → s.mgr.state = .idle → s.slice.mgrAddr ≠ s.addr →
      s.route .heartbeat s.slice.mgrAddr = some (h, q) → s.fab.held = [] → (s.port q).credits.length = 3 → 1 ≤ (s.port q).credits.getD 2 0 →
    Completes (.heartbeatSend) s fun t =>
      t.fab.sent = s.fab.sent ++ [(q, { kind := .heartbeat, dst := s.slice.mgrAddr, src := s.addr, slice := s.slice.id, hop := h, payload := [1] })] ∧
      t.slice = s.slice ∧ t.hbm = s.hbm) ∧
  -- R668
  (∀ (s : State), s.Inv → s.slice.state = .active → s.slice.mgrAddr ≠ s.addr →
    Completes (.heartbeatMissed none) s fun t =>
      t.now = max s.now (s.slice.lastHeartbeat + 330000) ∧ t.slice.state = .halted ∧ t.slice.haltCause = 5 ∧ t.slice.haltSource = s.slice.mgrAddr ∧
      bit (t.rg Rg.attnCause) At.slice = true ∧ t.mgr = s.mgr) ∧
  -- R668
  (∀ (s : State) (a : BitVec 12) (e : Nat), s.Inv → s.mgr.state = .active → s.slice.state = .active → s.mgr.members.contains a.toNat = true →
      s.mgr.heartbeats.find? (fun h => h.1 == a.toNat) = some (a.toNat, e) →
    Completes (.heartbeatMissed (some a)) s fun t =>
      t.mgr.state = .halted ∧ t.mgr.cause = 4 ∧ t.mgr.blamed = a.toNat ∧ t.mgr.blamedPort = none ∧ t.slice.state = .halted ∧ t.slice.haltCause = 4 ∧
      t.slice.haltSource = a.toNat ∧ bit (t.rg Rg.attnCause) At.slice = true ∧ t.now = max s.now (e + 330000)) ∧
  -- R673
  (∀ (s : State) (p : Fin 13) (m w : Msg), s.Inv → w = onWire { m with kind := .halt } → s.Receives p m → s.slice.state = .active →
      w.slice = s.slice.id → w.src = s.slice.mgrAddr →
    Completes (.haltMessage p m) s fun t =>
      t.slice.state = .halted ∧ t.slice.haltCause = w.aux ∧ t.slice.haltSource = w.addr ∧ bit (t.rg Rg.attnCause) At.slice = true ∧ t.mgr = s.mgr) ∧
  -- R671, R672
  (∀ (s : State) (p : Fin 13) (m w : Msg), s.Inv → w = onWire { m with kind := .memberReset } → s.Receives p m → s.mgr.state = .active →
      s.slice.state = .active → s.mgr.members.contains w.src = true →
    Completes (.memberReset p m) s fun t =>
      t.mgr.state = .halted ∧ t.mgr.cause = 3 ∧ t.mgr.blamed = w.src ∧ t.mgr.blamedPort = none ∧ t.slice.state = .halted ∧ t.slice.haltCause = 3 ∧
      t.slice.haltSource = w.src ∧ bit (t.rg Rg.attnCause) At.slice = true) ∧
  -- R670, R671
  (∀ (s : State) (p : Fin 13) (m w : Msg) (c : Nat), s.Inv → w = onWire { m with kind := .faultReport } → s.Receives p m → s.mgr.state = .active →
      s.slice.state = .active → s.mgr.members.contains w.src = true → w.slice = s.slice.id → c = bytesAt w.payload 0 1 → c ≠ 6 →
      s.mgr.faultLog.length < 1024 →
    Completes (.faultReport p m) s fun t =>
      t.mgr.state = .halted ∧ t.mgr.cause = c ∧ t.mgr.blamed = w.src ∧ t.mgr.blamedPort = (if c = 2 then some (bytesAt w.payload 1 1) else none) ∧
      t.slice.state = .halted ∧ t.slice.haltCause = c ∧ t.slice.haltSource = w.src ∧ bit (t.rg Rg.attnCause) At.slice = true ∧
      t.mgr.faultLog = s.mgr.faultLog ++ [(s.rackTime, w)]) ∧
  -- R672
  (∀ (s : State) (p : Fin 13) (m w : Msg), s.Inv → w = onWire m → (s.port p).active = true → w.src = (s.port p).peer → s.slice.state = .none →
      s.mgr.state = .idle → s.fab.held = [] → s.fab.ordered = [] →
    Completes (.powerLoss p m) s fun t =>
      (t.port p).state = .down ∧ (t.port p).lanes = 0 ∧ t.fab.sent = s.fab.sent ∧ t.fc.ring = s.fc.ring ∧ t.slice = s.slice ∧ t.hbm = s.hbm) ∧
  -- R671, R672
  (∀ (s : State) (p : Fin 13) (m w : Msg), s.Inv → w = onWire m → (s.port p).active = true → w.src = (s.port p).peer → s.mgr.state = .active →
      s.slice.state = .active → s.mgr.members.contains w.src = true → s.fab.held = [] → s.fab.ordered = [] → p.val < 11 → s.portAllowed p = true →
    Completes (.powerLoss p m) s fun t =>
      t.mgr.state = .halted ∧ t.mgr.cause = 6 ∧ t.mgr.blamed = w.src ∧ t.mgr.blamedPort = none ∧ t.slice.state = .halted ∧ t.slice.haltCause = 6 ∧
      t.slice.haltSource = w.src ∧ bit (t.rg Rg.attnCause) At.slice = true ∧ (t.port p).state = .down) ∧
  -- R209
  (∀ (s : State) (p : Fin 13) (m w : Msg), s.Inv → w = onWire { m with kind := .mgmt } → s.Receives p m → bytesAt w.payload 0 1 = 0 →
      s.hl.running = true → s.fw.status ≠ .activating → s.fromManager w = true → s.dict.mgrQueue.length < 8 →
    Completes (.mgmtRequest p m) s fun t =>
      t.dict.mgrQueue = s.dict.mgrQueue ++ [w] ∧ t.fab.sent = s.fab.sent ∧ t.od = (s.bump O.msgsRx).od ∧ t.hbm = s.hbm)

/-- EPOCH_PULSE 0.9 ms or more after the one before it, with no optical port in use, takes the next epoch; one that comes sooner is ignored and counted. EPOCH_MISSING takes the next epoch 1.1 ms after
the last pulse at the earliest, counts it, raises EPOCH_LOST at the third in a row,
      and then runs free where announcements were heard. TIME_ANNOUNCE with a rank is taken where none stands,
and else by its rank,
      raising a source where the epochs differ. TIME_ANNOUNCE_SEND of the master with one rack port sends its own. TIME_MASTER_TAKEOVER takes the role 2 ms after the ports came up and
the last higher announcement at the earliest. TIME_SYNC is echoed,
      and TIME_ECHO stores the offset of the peer's rack and raises its source where it has moved by more than 40 ns. -/
def Obligations.RackTimeCompletes : Prop :=
  -- R660, R661
  (∀ (s : State) (at_ e : Nat), s.Inv → (∀ x ∈ s.time.lastSeen, x + 900000 ≤ max s.now at_) → s.gatewayPorts = [] → e = s.nextEpoch →
    Completes (.epochPulse at_) s fun t =>
      t.now = max s.now at_ ∧ t.time.epoch = e ∧ t.time.base = e * 65536000000 % 2 ^ 64 ∧ t.time.baseAt = t.now ∧ t.time.running = true ∧
      t.time.missing = 0 ∧ t.time.announced = none ∧ t.time.state = s.rtAfter ∧ t.fab = s.fab ∧ t.hbm = s.hbm ∧ t.slice = s.slice ∧ t.g = s.g) ∧
  -- R659
  (∀ (s : State) (at_ x : Nat), s.Inv → s.time.lastSeen = some x → max s.now at_ < x + 900000 →
    Completes (.epochPulse at_) s fun t =>
      t.now = max s.now at_ ∧ t.time = s.time ∧ s.Counts t O.epochIgnored ∧ t.fab = s.fab ∧ t.hbm = s.hbm ∧ t.slice = s.slice ∧ t.g = s.g) ∧
  -- R659
  (∀ (s : State) (x : Nat), s.Inv → s.time.lastPulse = some x →
    Completes (.epochMissing) s fun t =>
      t.now = max s.now (x + 1100000) ∧ t.time.missing = s.time.missing + 1 ∧ t.time.lastPulse = some (x + 1000000) ∧ t.time.epoch = s.nextEpoch ∧
      t.time.announced = none ∧ (s.time.missing = 2 → s.Raises t (Sc.tram 0 0x10)) ∧ (2 ≤ s.time.missing → s.time.hadAnnounce = true →
      t.time.state = .freeRun) ∧ s.Counts t O.epochIgnored ∧ t.fab = s.fab ∧ t.hbm = s.hbm ∧ t.slice = s.slice ∧ t.g = s.g) ∧
  -- R661
  (∀ (s : State) (p : Fin 13) (m w : Msg) (r : Nat), s.Inv → w = onWire m → (s.port p).active = true → m.src ≠ s.addr →
      timeRank (bytesAt w.payload 8 1) w.src = some r → s.time.announced = none →
    Completes (.timeAnnounce p m) s fun t =>
      t.time.announced = some (bytesAt w.payload 0 8, r) ∧ t.time.hadAnnounce = true ∧ ((∀ k ∈ s.ownRank, r < k) → t.time.lastHigher = some s.now ∧
      t.time.master = false) ∧ t.fc.ring = s.fc.ring ∧ s.Counts t O.msgsRx ∧ t.hbm = s.hbm ∧ t.slice = s.slice ∧ t.g = s.g) ∧
  -- R661, R662
  (∀ (s : State) (p : Fin 13) (m w : Msg) (r e k : Nat), s.Inv → w = onWire m → (s.port p).active = true → m.src ≠ s.addr →
      timeRank (bytesAt w.payload 8 1) w.src = some r → s.time.announced = some (e, k) → e ≠ bytesAt w.payload 0 8 → k ≠ r →
    Completes (.timeAnnounce p m) s fun t =>
      t.time.announced = some (if r ≤ k then (bytesAt w.payload 0 8, r) else (e, k)) ∧ s.Raises t (Sc.tram 0 0x11) ∧ s.Counts t O.msgsRx ∧
      t.hbm = s.hbm ∧ t.slice = s.slice ∧ t.g = s.g) ∧
  -- R661
  (∀ (s : State) (p : Nat) (r : Nat), s.Inv → s.time.master = true → s.rackPortFrom 0 = some p → s.fab.held = [] → (s.port p).credits.length = 3 →
      1 ≤ (s.port p).credits.getD 2 0 → s.ownRank = some r → s.time.announced = none → (∀ k : Fin 3, (s.port k).active = false) →
    Completes (.timeAnnounceSend) s fun t =>
      t.fab.sent = s.fab.sent ++ [(p,
      { kind := .timeAnnounce, src := s.addr, broadcast := true, payload := natLe 8 s.nextEpoch ++ natLe 1 (s.val O.timeMaster) ++ natLe 7 0 })] ∧
      t.time = { s.time with announced := some (s.nextEpoch, r), hadAnnounce := true } ∧ t.hbm = s.hbm ∧ t.slice = s.slice ∧ t.g = s.g) ∧
  -- R661
  (∀ (s : State) (r up : Nat), s.Inv → s.time.master = false → s.rackPortsUp = true → s.val O.pkgAddrValid = 1 → s.ownRank = some r →
      s.time.portsUpAt = some up →
    Completes (.timeMasterTakeover) s fun t =>
      t = { s with now := max s.now (max up (s.time.lastHigher.getD 0) + 2000000), time := { s.time with master := true } }) ∧
  -- R663
  (∀ (s : State) (p : Fin 13) (m w : Msg), s.Inv → w = onWire m → (s.port p).active = true → s.fab.held = [] → (s.port p).credits.length = 3 →
      2 ≤ (s.port p).credits.getD 2 0 →
    Completes (.timeSync p m) s fun t =>
      t.fab.sent = s.fab.sent ++ [(p.val,
      { kind := .timeEcho, src := s.addr, dst := w.src, hop := w.src, payload := w.payload.take 8 ++ natLe 8 s.rackTime ++ natLe 8 s.rackTime })] ∧
      t.time = s.time ∧ s.Counts t O.msgsRx ∧ t.hbm = s.hbm ∧ t.slice = s.slice ∧ t.g = s.g) ∧
  -- R663
  (∀ (s : State) (p : Fin 13) (m w : Msg) (d o : Int), s.Inv → w = onWire m → (s.port p).active = true → s.mgr.state = .idle →
      d = (((bytesAt w.payload 8 8 : Int) - bytesAt w.payload 0 8) + ((bytesAt w.payload 16 8 : Int) - s.rackTime)) / 2 → s.time.lastOffset = [(p.val,
      o)] →
    Completes (.timeEcho p m) s fun t =>
      t.time = { s.time with lastOffset := [(p.val, d)] } ∧ (40 * 65536 < (o - d).natAbs → s.Raises t (Sc.tram 0 0x12)) ∧ t.fab.sent = s.fab.sent ∧
      s.Counts t O.msgsRx ∧ t.hbm = s.hbm ∧ t.slice = s.slice ∧ t.g = s.g)

/-- For every state whose queue is not empty, step is exec of the first command on the state with the rest of the
queue. -/
def Obligations.StepRunsFront : Prop :=
  ∀ (s : State) (c : Instr) (rest : List Instr), s.pending = c :: rest → step s = exec c { s with pending := rest }

/-- State.reset satisfies State.Inv: memory and every register table are in canonical form. -/
def Obligations.ResetInv : Prop :=
  State.reset.Inv

/-- From every state that satisfies State.Inv, whatever command stands in front of the queue (or none), a step that
answers a next state answers one that satisfies State.Inv: HBM, the tilth of every plot and their poison marks keep their
canonical form, and every dictionary value, control-window register, configuration dword, latch, plot, furrow, stake, row, feed, port and
fault source stays listed at most once, in order. -/
def Obligations.StepKeepsInv : Prop :=
  ∀ (s t : State), s.Inv → step s = .next t → t.Inv

/-- No command of the table faults or is refused: for every command and every state, exec answers a next state, and it
leaves the commands waiting behind it as they are. -/
def Obligations.NoCommandStops : Prop :=
  ∀ (c : Instr) (s : State), ∃ t, exec c s = .next t ∧ t.pending = s.pending

/-- Whatever stands at the front of the queue, the step that executes it leaves exactly the rest of the queue, in
order; on an empty queue a step leaves the queue empty. -/
def Obligations.QueueIsFifo : Prop :=
  ∀ (s : State), ∃ t, step s = .next t ∧ t.pending = s.pending.tail

/-- A commit that was requested starts no earlier than 1 s after the start of the previous one: PERSIST_COMMIT_START
sets the time to that moment where it is still to come, and starts the commit then. Until then PERSIST_STATUS (OD
0x1200.02) reads PENDING (1). -/
def Obligations.CommitSpacing : Prop :=
  -- the start
  (∀ (s : State) (l : Nat), s.hl.running = true → s.dict.commit = .pending → s.dict.lastStart = some l →
    Completes .persistCommitStart s fun t => t.dict.commit = .busy ∧ t.dict.lastStart = some t.now ∧ t.now = max s.now (l + 1000000000)) ∧
  -- until then
  (∀ (s : State) (r : Route), s.dict.commit = .pending → s.odLive r O.persistStatus = 1)

/-- TXN_EXPIRY of the route's transaction: the time is at least 1 s after its last operation, the transaction is gone,
TXN_EXPIRED (OD 0x1210.05) has counted one, every other dictionary value and every register, mode and buffer is as
before. -/
def Obligations.AbandonedTransactionDropped : Prop :=
  ∀ (s : State) (r : Route) (x : Txn), s.Inv → s.dict.txns = [(r, x)] →
    Completes (.txnExpiry r) s fun t => t.dict.txns = [] ∧ t.now = max s.now (x.last + 1000000000) ∧
      t.val O.txnExpired = (s.val O.txnExpired + 1) % 2 ^ 64 ∧ (∀ k, k ≠ O.txnExpired → k ≠ 0x1210FE → t.val k = s.val k) ∧
      t.reg = s.reg ∧ t.cfg = s.cfg ∧ t.hbm = s.hbm ∧ t.hl = s.hl ∧ t.fw = s.fw ∧ t.cal = s.cal ∧ t.seed = s.seed ∧ t.rot = s.rot ∧ t.stw = s.stw ∧
      t.dict.banks = s.dict.banks ∧ t.dict.commit = s.dict.commit

/-- The frame of every command: what is not among the parts of the state that the command acts on stays as it is, the commands waiting behind it
stay as they are, and time does not run back. -/
def Obligations.CommandsTouchTheirPartsOnly : Prop :=
  ∀ (c : Instr) (s t : State), exec c s = .next t → s.SameBut (partsOf c) t
end

