-- ==== Sys2Proof/Laws/Mem.lean ====
section
/-! SUPPORT. The sparse tables and memory: canonical form is kept by every operation; a read after a write. -/

namespace Sys2Proof.Machine

variable {α : Type} [DecidableEq α] {d : α}

theorem kvWfFrom_mono {m : List (Nat × α)} {lo lo' : Nat} (h : kvWfFrom d lo m = true) (le : lo' ≤ lo) :
    kvWfFrom d lo' m = true := by
  cases m with
  | nil => rfl
  | cons x m =>
    simp only [kvWfFrom, Bool.and_eq_true, decide_eq_true_eq] at h ⊢
    exact ⟨⟨Nat.le_trans le h.1.1, h.1.2⟩, h.2⟩

theorem kvErase_wfFrom (m : List (Nat × α)) (k lo : Nat) (h : kvWfFrom d lo m = true) : kvWfFrom d lo (kvErase m k) = true := by
  induction m generalizing lo with
  | nil => rfl
  | cons x m ih =>
    have h' := h
    simp only [kvWfFrom, Bool.and_eq_true, decide_eq_true_eq] at h
    unfold kvErase
    split
    · exact kvWfFrom_mono h.2 (by omega)
    · split
      · exact h'
      · simp only [kvWfFrom, Bool.and_eq_true, decide_eq_true_eq]
        exact ⟨h.1, ih _ h.2⟩

theorem kvPut_wfFrom (m : List (Nat × α)) (k lo : Nat) (v : α) (hv : v ≠ d) (hk : lo ≤ k) (h : kvWfFrom d lo m = true) :
    kvWfFrom d lo (kvPut m k v) = true := by
  induction m generalizing lo with
  | nil => simp [kvPut, kvWfFrom, hv, hk]
  | cons x m ih =>
    have h' := h
    simp only [kvWfFrom, Bool.and_eq_true, decide_eq_true_eq] at h
    unfold kvPut
    split
    · rename_i e
      simp only [kvWfFrom, Bool.and_eq_true, decide_eq_true_eq]
      exact ⟨⟨hk, by simp [hv]⟩, e ▸ h.2⟩
    · split
      · simp only [kvWfFrom, Bool.and_eq_true, decide_eq_true_eq]
        exact ⟨⟨hk, by simp [hv]⟩, ⟨by omega, h.1.2⟩, h.2⟩
      · simp only [kvWfFrom, Bool.and_eq_true, decide_eq_true_eq]
        exact ⟨h.1, ih _ (by omega) h.2⟩

theorem kvSet_wf (m : List (Nat × α)) (k : Nat) (v : α) (h : kvWf d m = true) : kvWf d (kvSet d m k v) = true := by
  unfold kvSet
  split
  · exact kvErase_wfFrom m k 0 h
  · exact kvPut_wfFrom m k 0 v ‹_› (Nat.zero_le _) h

theorem filter_wfFrom (m : List (Nat × α)) (p : Nat × α → Bool) (lo : Nat) (h : kvWfFrom d lo m = true) :
    kvWfFrom d lo (m.filter p) = true := by
  induction m generalizing lo with
  | nil => rfl
  | cons x m ih =>
    simp only [kvWfFrom, Bool.and_eq_true, decide_eq_true_eq] at h
    rw [List.filter_cons]
    split
    · simp only [kvWfFrom, Bool.and_eq_true, decide_eq_true_eq]
      exact ⟨h.1, ih _ h.2⟩
    · exact kvWfFrom_mono (ih _ h.2) (by omega)

theorem memZero_wf (m : List (Nat × α)) (lo hi : Nat) (h : kvWf d m = true) : kvWf d (memZero m lo hi) = true :=
  filter_wfFrom m _ 0 h

/-- A fold of a step that keeps the canonical form keeps it. -/
theorem foldl_wf {β : Type} (l : List β) (m : List (Nat × α)) (f : List (Nat × α) → β → List (Nat × α))
    (hf : ∀ m x, kvWf d m = true → kvWf d (f m x) = true) (h : kvWf d m = true) : kvWf d (l.foldl f m) = true := by
  induction l generalizing m with
  | nil => exact h
  | cons x l ih => exact ih _ (hf m x h)

/-- Writing bytes keeps memory canonical. -/
theorem memWrite_wf (m : List Host.Cell) (a : Nat) (bs : List Byte) (h : Memory.wf m = true) : Memory.wf (memWrite m a bs) = true := by
  induction bs generalizing m a with
  | nil => exact h
  | cons b bs ih => exact ih _ _ (kvSet_wf m a b h)

/-- Writing enabled bytes keeps memory canonical. -/
theorem memWriteEn_wf (m : List Host.Cell) (a : Nat) (bs : List (Byte × Bool)) (h : Memory.wf m = true) :
    Memory.wf (memWriteEn m a bs) = true := by
  induction bs generalizing m a with
  | nil => exact h
  | cons b bs ih =>
    obtain ⟨b, e⟩ := b
    refine ih _ _ ?_
    cases e with
    | true => exact kvSet_wf m a b h
    | false => exact h

/-- Marking granules keeps the marks canonical. -/
theorem markWrite_wf (p : List (Nat × Bool)) (a : Nat) (en : List Bool) (bad : Bool) (h : kvWf false p = true) :
    kvWf false (markWrite p a en bad) = true := by
  unfold markWrite
  refine foldl_wf _ _ _ (fun p g hp => ?_) h
  dsimp only
  split
  · split
    · exact kvSet_wf _ _ _ hp
    · exact hp
  · split
    · exact kvSet_wf _ _ _ hp
    · exact hp

/-! ### Tables in order -/

omit [DecidableEq α] in
theorem kvRises_mono {m : List (Nat × α)} {lo lo' : Nat} (h : kvRises lo m = true) (le : lo' ≤ lo) : kvRises lo' m = true := by
  cases m with
  | nil => rfl
  | cons x m =>
    simp only [kvRises, Bool.and_eq_true, decide_eq_true_eq] at h ⊢
    exact ⟨Nat.le_trans le h.1, h.2⟩

omit [DecidableEq α] in
theorem kvErase_risesFrom (m : List (Nat × α)) (k lo : Nat) (h : kvRises lo m = true) : kvRises lo (kvErase m k) = true := by
  induction m generalizing lo with
  | nil => rfl
  | cons x m ih =>
    have h' := h
    simp only [kvRises, Bool.and_eq_true, decide_eq_true_eq] at h
    unfold kvErase
    split
    · exact kvRises_mono h.2 (by omega)
    · split
      · exact h'
      · simp only [kvRises, Bool.and_eq_true, decide_eq_true_eq]
        exact ⟨h.1, ih _ h.2⟩

omit [DecidableEq α] in
theorem kvPut_risesFrom (m : List (Nat × α)) (k lo : Nat) (v : α) (hk : lo ≤ k) (h : kvRises lo m = true) :
    kvRises lo (kvPut m k v) = true := by
  induction m generalizing lo with
  | nil => simp [kvPut, kvRises, hk]
  | cons x m ih =>
    have h' := h
    simp only [kvRises, Bool.and_eq_true, decide_eq_true_eq] at h
    unfold kvPut
    split
    · rename_i e
      simp only [kvRises, Bool.and_eq_true, decide_eq_true_eq]
      exact ⟨hk, e ▸ h.2⟩
    · split
      · simp only [kvRises, Bool.and_eq_true, decide_eq_true_eq]
        exact ⟨hk, by omega, h.2⟩
      · simp only [kvRises, Bool.and_eq_true, decide_eq_true_eq]
        exact ⟨h.1, ih _ (by omega) h.2⟩

omit [DecidableEq α] in
theorem kvErase_rises (m : List (Nat × α)) (k : Nat) (h : Rises m) : Rises (kvErase m k) := kvErase_risesFrom m k 0 h

omit [DecidableEq α] in
theorem kvPut_rises (m : List (Nat × α)) (k : Nat) (v : α) (h : Rises m) : Rises (kvPut m k v) :=
  kvPut_risesFrom m k 0 v (Nat.zero_le _) h

theorem kvSet_rises (d : α) (m : List (Nat × α)) (k : Nat) (v : α) (h : Rises m) : Rises (kvSet d m k v) := by
  unfold kvSet
  split
  · exact kvErase_rises m k h
  · exact kvPut_rises m k v h

omit [DecidableEq α] in
/-- What is left of a table by a filter and an update of the values is in order. -/
theorem filterMap_rises {β : Type} (m : List (Nat × α)) (f : Nat × α → Option (Nat × β)) (hf : ∀ e e', f e = some e' → e'.1 = e.1)
    (h : Rises m) : Rises (m.filterMap f) := by
  have key (lo : Nat) (m : List (Nat × α)) (h : kvRises lo m = true) : kvRises lo (m.filterMap f) = true := by
    induction m generalizing lo with
    | nil => rfl
    | cons x m ih =>
      simp only [kvRises, Bool.and_eq_true, decide_eq_true_eq] at h
      rw [List.filterMap_cons]
      split
      · exact kvRises_mono (ih _ h.2) (by omega)
      · rename_i b e
        have := hf _ _ e
        obtain ⟨b1, b2⟩ := b
        simp only [kvRises, Bool.and_eq_true, decide_eq_true_eq]
        simp only at this
        subst this
        exact ⟨h.1, ih _ h.2⟩
  exact key 0 m h

omit [DecidableEq α] in
theorem filter_rises (m : List (Nat × α)) (p : Nat × α → Bool) (h : Rises m) : Rises (m.filter p) := by
  rw [← List.filterMap_eq_filter]
  refine filterMap_rises m _ (fun e e' k => ?_) h
  simp only [Option.guard] at k
  split at k
  · injection k with k
    rw [k]
  · contradiction

omit [DecidableEq α] in
theorem map_rises {β : Type} (m : List (Nat × α)) (f : Nat × α → Nat × β) (hf : ∀ e, (f e).1 = e.1) (h : Rises m) : Rises (m.map f) := by
  rw [← List.filterMap_eq_map]
  refine filterMap_rises m _ (fun e e' k => ?_) h
  injection k with k
  rw [← k]
  exact hf e

omit [DecidableEq α] in
theorem memZero_rises (m : List (Nat × α)) (lo hi : Nat) (h : Rises m) : Rises (memZero m lo hi) := filter_rises m _ h

omit [DecidableEq α] in
/-- A fold of a step that keeps a table in order keeps it. -/
theorem foldl_rises {β : Type} (l : List β) (m : List (Nat × α)) (f : List (Nat × α) → β → List (Nat × α))
    (hf : ∀ m x, Rises m → Rises (f m x)) (h : Rises m) : Rises (l.foldl f m) := by
  induction l generalizing m with
  | nil => exact h
  | cons x l ih => exact ih _ (hf m x h)

theorem wf_risesFrom (m : List (Nat × α)) (lo : Nat) (h : kvWfFrom d lo m = true) : kvRises lo m = true := by
  induction m generalizing lo with
  | nil => rfl
  | cons x m ih =>
    simp only [kvWfFrom, kvRises, Bool.and_eq_true, decide_eq_true_eq] at h ⊢
    exact ⟨h.1.1, ih _ h.2⟩

theorem wf_rises (m : List (Nat × α)) (h : kvWf d m = true) : Rises m := wf_risesFrom m 0 h

/-! ### A read after a write -/

omit [DecidableEq α] in
theorem kvFind_kvPut_same (m : List (Nat × α)) (k : Nat) (v : α) : kvFind (kvPut m k v) k = some v := by
  induction m with
  | nil => simp [kvPut, kvFind]
  | cons x m ih =>
    unfold kvPut
    split
    · simp [kvFind]
    · split
      · simp [kvFind]
      · rename_i h1 h2
        simp only [kvFind, if_neg h1, if_neg h2, ih]

omit [DecidableEq α] in
theorem kvFind_kvPut_other (m : List (Nat × α)) (k k' : Nat) (v : α) (h : k' ≠ k) : kvFind (kvPut m k v) k' = kvFind m k' := by
  induction m with
  | nil =>
    simp only [kvPut, kvFind, if_neg (Ne.symm h)]
    split <;> rfl
  | cons x m ih =>
    obtain ⟨a, w⟩ := x
    unfold kvPut
    split
    · rename_i e
      subst e
      simp only [kvFind, if_neg (Ne.symm h)]
    · split
      · simp only [kvFind, if_neg (Ne.symm h)]
        by_cases h3 : k' < k
        · rw [if_pos h3, if_neg (by omega), if_pos (by omega)]
        · rw [if_neg h3]
      · simp only [kvFind, ih]

omit [DecidableEq α] in
theorem kvFind_below (m : List (Nat × α)) (lo k : Nat) (h : kvRises lo m = true) (hk : k < lo) : kvFind m k = none := by
  cases m with
  | nil => rfl
  | cons x m =>
    simp only [kvRises, Bool.and_eq_true, decide_eq_true_eq] at h
    simp only [kvFind]
    rw [if_neg (by omega), if_pos (by omega)]

omit [DecidableEq α] in
theorem kvFind_kvErase (m : List (Nat × α)) (k k' lo : Nat) (h : kvRises lo m = true) :
    kvFind (kvErase m k) k' = if k' = k then none else kvFind m k' := by
  induction m generalizing lo with
  | nil => simp [kvErase, kvFind]
  | cons x m ih =>
    obtain ⟨a, w⟩ := x
    simp only [kvRises, Bool.and_eq_true, decide_eq_true_eq] at h
    unfold kvErase
    split
    · rename_i e
      subst e
      split
      · rename_i e
        subst e
        exact kvFind_below m _ _ h.2 (by omega)
      · rename_i ne
        simp only [kvFind, if_neg (Ne.symm ne)]
        split
        · exact kvFind_below m _ _ h.2 (by omega)
        · rfl
    · split
      · simp only [kvFind]
        repeat' split
        all_goals first | rfl | omega
      · simp only [kvFind, ih _ h.2]
        repeat' split
        all_goals first | rfl | omega

/-- The table reads the value set at its key, and every other key as before. -/
theorem kvGet_kvSet (m : List (Nat × α)) (k k' : Nat) (v : α) (h : Rises m) :
    kvGet d (kvSet d m k v) k' = if k' = k then v else kvGet d m k' := by
  unfold kvGet kvSet
  split
  · rename_i e
    subst e
    rw [kvFind_kvErase m k k' 0 h]
    split <;> rfl
  · split
    · rename_i e
      subst e
      rw [kvFind_kvPut_same]
      rfl
    · rw [kvFind_kvPut_other m k k' v ‹_›]

omit [DecidableEq α] in
/-- A value listed under a key is what the key reads. -/
theorem kvGet_kvPut (e : α) (m : List (Nat × α)) (k k' : Nat) (v : α) :
    kvGet e (kvPut m k v) k' = if k' = k then v else kvGet e m k' := by
  unfold kvGet
  split
  · rename_i h
    subst h
    rw [kvFind_kvPut_same]
    rfl
  · rw [kvFind_kvPut_other m k k' v ‹_›]

/-- Each byte after a write: the byte written there, or the byte that was there. -/
theorem memByte_memWrite (m : List Host.Cell) (a x : Nat) (bs : List Byte) (h : Memory.wf m = true) :
    memByte (memWrite m a bs) x = if a ≤ x ∧ x < a + bs.length then bs.getD (x - a) 0 else memByte m x := by
  induction bs generalizing m a with
  | nil => simp [memWrite, show ¬(a ≤ x ∧ x < a) by omega]
  | cons b bs ih =>
    rw [show memWrite m a (b :: bs) = memWrite (kvSet memDefault m a b) (a + 1) bs from rfl,
      ih _ _ (kvSet_wf m a b h)]
    rw [show memByte (kvSet memDefault m a b) x = if x = a then b else memByte m x from kvGet_kvSet m a x b (wf_rises m h)]
    rw [List.length_cons]
    by_cases h1 : x = a
    · subst h1
      rw [if_neg (by omega), if_pos rfl, if_pos (by omega), Nat.sub_self]
      rfl
    · rw [if_neg h1]
      by_cases h2 : a + 1 ≤ x ∧ x < a + 1 + bs.length
      · rw [if_pos h2, if_pos (by omega), show x - a = (x - (a + 1)) + 1 by omega]
        rfl
      · rw [if_neg h2, if_neg (by omega)]

end Sys2Proof.Machine
end

