-- ==== Sys2Proof/Laws/Keeps.lean ====
section
/-! SUPPORT. The footprint of an operation: which of State's fields it may change.  `Keeps m s t` says that t differs
from s at most in the fields whose bit of m is set (field k of State is bit k), that the queue is the same, that time
has not gone back, and that the canonical form of HBM survives.  One lemma per operation, in the files Laws/Foot*.lean,
states its footprint; every proof about what a command leaves alone cites these and unfolds no operation. -/

namespace Sys2Proof.Machine

theorem kvFind_mem {α : Type} {m : List (Nat × α)} {k : Nat} {v : α} (h : kvFind m k = some v) : (k, v) ∈ m := by
  induction m with
  | nil => cases h
  | cons e m ih =>
    obtain ⟨a, w⟩ := e
    unfold kvFind at h
    split at h
    · next e => cases h; cases e; exact List.mem_cons_self
    · split at h
      · cases h
      · exact List.mem_cons_of_mem _ (ih h)

theorem PlotsWf.get {m : List (Nat × Plot)} (h : PlotsWf m) (n : Nat) : (kvGet {} m n).Wf := by
  unfold kvGet
  cases e : kvFind m n with
  | none => exact ⟨rfl, rfl⟩
  | some x => exact h.2 _ (kvFind_mem e)

/-- A plot of a state that the invariant holds of is well formed. -/
theorem State.plot_wf {s : State} (i : s.Inv) (n : Nat) : (s.plot n).Wf := i.2.2.2.2.2.2.1.get n

theorem mem_kvErase {α : Type} {m : List (Nat × α)} {k : Nat} {e : Nat × α} (h : e ∈ kvErase m k) : e ∈ m := by
  induction m with
  | nil => cases h
  | cons x m ih =>
    obtain ⟨a, w⟩ := x
    unfold kvErase at h
    split at h
    · exact List.mem_cons_of_mem _ h
    · split at h
      · exact h
      · rcases List.mem_cons.mp h with r | r
        · rw [r]; exact List.mem_cons_self
        · exact List.mem_cons_of_mem _ (ih r)

theorem mem_kvPut {α : Type} {m : List (Nat × α)} {k : Nat} {v : α} {e : Nat × α} (h : e ∈ kvPut m k v) : e = (k, v) ∨ e ∈ m := by
  induction m with
  | nil => exact .inl (List.mem_singleton.mp h)
  | cons x m ih =>
    obtain ⟨a, w⟩ := x
    unfold kvPut at h
    split at h
    · rcases List.mem_cons.mp h with r | r
      · exact .inl r
      · exact .inr (List.mem_cons_of_mem _ r)
    · split at h
      · rcases List.mem_cons.mp h with r | r
        · exact .inl r
        · exact .inr r
      · rcases List.mem_cons.mp h with r | r
        · rw [r]; exact .inr List.mem_cons_self
        · rcases ih r with q | q
          · exact .inl q
          · exact .inr (List.mem_cons_of_mem _ q)

theorem PlotsWf.set {m : List (Nat × Plot)} (h : PlotsWf m) (n : Nat) (p : Plot) (hp : p.Wf) : PlotsWf (kvSet {} m n p) := by
  refine ⟨kvSet_rises _ _ _ _ h.1, fun e he => ?_⟩
  unfold kvSet at he
  split at he
  · exact h.2 e (mem_kvErase he)
  · rcases mem_kvPut he with r | r
    · rw [r]; exact hp
    · exact h.2 e r

theorem PlotsWf.cleared {m : List (Nat × Plot)} (f : Nat × Plot → Bool) (t : Nat) (h : PlotsWf m) :
    PlotsWf ((m.map (fun (e : Nat × Plot) => (e.1, e.2.cleared t))).filter f) := by
  refine ⟨filter_rises _ _ (map_rises _ _ (fun _ => rfl) h.1), fun e he => ?_⟩
  obtain ⟨x, _, rfl⟩ := List.mem_map.mp (List.mem_filter.mp he).1
  exact ⟨rfl, rfl⟩

structure Keeps (m : Nat) (s t : State) : Prop where
  know : m.testBit 0 = false → t.now = s.now
  kfree : m.testBit 1 = false → t.free = s.free
  kod : m.testBit 2 = false → t.od = s.od
  kreg : m.testBit 3 = false → t.reg = s.reg
  kcfg : m.testBit 4 = false → t.cfg = s.cfg
  klatch : m.testBit 5 = false → t.latch = s.latch
  klink : m.testBit 6 = false → t.link = s.link
  khost : m.testBit 7 = false → t.host = s.host
  kg : m.testBit 8 = false → t.g = s.g
  kplat : m.testBit 9 = false → t.plat = s.plat
  kflt : m.testBit 10 = false → t.flt = s.flt
  kmig : m.testBit 11 = false → t.mig = s.mig
  kcoh : m.testBit 12 = false → t.coh = s.coh
  kdrill : m.testBit 13 = false → t.drill = s.drill
  kplots : m.testBit 14 = false → t.plots = s.plots
  khbm : m.testBit 15 = false → t.hbm = s.hbm
  kfc : m.testBit 16 = false → t.fc = s.fc
  kdict : m.testBit 17 = false → t.dict = s.dict
  khop : m.testBit 18 = false → t.hop = s.hop
  kmir : m.testBit 19 = false → t.mir = s.mir
  kfw : m.testBit 20 = false → t.fw = s.fw
  kfab : m.testBit 21 = false → t.fab = s.fab
  ktime : m.testBit 22 = false → t.time = s.time
  kslice : m.testBit 23 = false → t.slice = s.slice
  kmgr : m.testBit 24 = false → t.mgr = s.mgr
  kpwr : m.testBit 25 = false → t.pwr = s.pwr
  kcal : m.testBit 26 = false → t.cal = s.cal
  khl : m.testBit 27 = false → t.hl = s.hl
  kseed : m.testBit 28 = false → t.seed = s.seed
  krot : m.testBit 29 = false → t.rot = s.rot
  kstw : m.testBit 30 = false → t.stw = s.stw
  kpending : t.pending = s.pending
  kmono : s.now ≤ t.now
  kinv : s.Inv → t.Inv

theorem Keeps.refl (m : Nat) (s : State) : Keeps m s s :=
  ⟨fun _ => rfl, fun _ => rfl, fun _ => rfl, fun _ => rfl, fun _ => rfl, fun _ => rfl, fun _ => rfl, fun _ => rfl, fun _ => rfl, fun _ => rfl, fun _ => rfl, fun _ => rfl, fun _ => rfl, fun _ => rfl, fun _ => rfl, fun _ => rfl,
   fun _ => rfl, fun _ => rfl, fun _ => rfl, fun _ => rfl, fun _ => rfl, fun _ => rfl, fun _ => rfl, fun _ => rfl, fun _ => rfl, fun _ => rfl, fun _ => rfl, fun _ => rfl, fun _ => rfl, fun _ => rfl, fun _ => rfl, rfl, Nat.le_refl _, id⟩

theorem sub_bit {m m' k : Nat} (e : m' &&& m = m') (h : m.testBit k = false) : m'.testBit k = false := by
  rw [← e, Nat.testBit_and, h, Bool.and_false]

theorem sub_mask {a b m : Nat} (h : a &&& b = a) (e : b &&& m = b) : a &&& m = a := by
  rw [← h, Nat.and_assoc, e]

theorem bit_mask {b m k : Nat} (h : b.testBit k = true) (e : b &&& m = b) : m.testBit k = true := by
  rw [← e, Nat.testBit_and, Bool.and_eq_true] at h
  exact h.2

/-- Composition: an operation with a smaller footprint may follow. -/
theorem Keeps.step {m m' : Nat} {s t u : State} (h : Keeps m s t) (g : Keeps m' t u) (e : m' &&& m = m') : Keeps m s u :=
  ⟨fun b => (g.know (sub_bit e b)).trans (h.know b),
   fun b => (g.kfree (sub_bit e b)).trans (h.kfree b),
   fun b => (g.kod (sub_bit e b)).trans (h.kod b),
   fun b => (g.kreg (sub_bit e b)).trans (h.kreg b),
   fun b => (g.kcfg (sub_bit e b)).trans (h.kcfg b),
   fun b => (g.klatch (sub_bit e b)).trans (h.klatch b),
   fun b => (g.klink (sub_bit e b)).trans (h.klink b),
   fun b => (g.khost (sub_bit e b)).trans (h.khost b),
   fun b => (g.kg (sub_bit e b)).trans (h.kg b),
   fun b => (g.kplat (sub_bit e b)).trans (h.kplat b),
   fun b => (g.kflt (sub_bit e b)).trans (h.kflt b),
   fun b => (g.kmig (sub_bit e b)).trans (h.kmig b),
   fun b => (g.kcoh (sub_bit e b)).trans (h.kcoh b),
   fun b => (g.kdrill (sub_bit e b)).trans (h.kdrill b),
   fun b => (g.kplots (sub_bit e b)).trans (h.kplots b),
   fun b => (g.khbm (sub_bit e b)).trans (h.khbm b),
   fun b => (g.kfc (sub_bit e b)).trans (h.kfc b),
   fun b => (g.kdict (sub_bit e b)).trans (h.kdict b),
   fun b => (g.khop (sub_bit e b)).trans (h.khop b),
   fun b => (g.kmir (sub_bit e b)).trans (h.kmir b),
   fun b => (g.kfw (sub_bit e b)).trans (h.kfw b),
   fun b => (g.kfab (sub_bit e b)).trans (h.kfab b),
   fun b => (g.ktime (sub_bit e b)).trans (h.ktime b),
   fun b => (g.kslice (sub_bit e b)).trans (h.kslice b),
   fun b => (g.kmgr (sub_bit e b)).trans (h.kmgr b),
   fun b => (g.kpwr (sub_bit e b)).trans (h.kpwr b),
   fun b => (g.kcal (sub_bit e b)).trans (h.kcal b),
   fun b => (g.khl (sub_bit e b)).trans (h.khl b),
   fun b => (g.kseed (sub_bit e b)).trans (h.kseed b),
   fun b => (g.krot (sub_bit e b)).trans (h.krot b),
   fun b => (g.kstw (sub_bit e b)).trans (h.kstw b),
   g.kpending.trans h.kpending, Nat.le_trans h.kmono g.kmono, fun i => g.kinv (h.kinv i)⟩

theorem Keeps.trans {m : Nat} {s t u : State} (h : Keeps m s t) (g : Keeps m t u) : Keeps m s u :=
  h.step g (Nat.and_self m)

theorem Keeps.setfree {m : Nat} {s b : State} (v) (h : Keeps m s b) (e : m.testBit 1 = true) : Keeps m s { b with free := v } :=
  ⟨h.know, fun b => Bool.noConfusion (e.symm.trans b), h.kod, h.kreg, h.kcfg, h.klatch, h.klink, h.khost, h.kg, h.kplat, h.kflt, h.kmig, h.kcoh, h.kdrill, h.kplots, h.khbm,
   h.kfc, h.kdict, h.khop, h.kmir, h.kfw, h.kfab, h.ktime, h.kslice, h.kmgr, h.kpwr, h.kcal, h.khl, h.kseed, h.krot, h.kstw, h.kpending, h.kmono, h.kinv⟩

theorem Keeps.setod {m : Nat} {s b : State} (v) (h : Keeps m s b) (hi : Rises b.od → Rises v) (e : m.testBit 2 = true) :
    Keeps m s { b with od := v } :=
  ⟨h.know, h.kfree, fun b => Bool.noConfusion (e.symm.trans b), h.kreg, h.kcfg, h.klatch, h.klink, h.khost, h.kg, h.kplat, h.kflt, h.kmig, h.kcoh, h.kdrill, h.kplots, h.khbm,
   h.kfc, h.kdict, h.khop, h.kmir, h.kfw, h.kfab, h.ktime, h.kslice, h.kmgr, h.kpwr, h.kcal, h.khl, h.kseed, h.krot, h.kstw, h.kpending, h.kmono, fun i => have i := h.kinv i; ⟨i.1, i.2.1, hi i.2.2.1, i.2.2.2⟩⟩

theorem Keeps.setreg {m : Nat} {s b : State} (v) (h : Keeps m s b) (hi : Rises b.reg → Rises v) (e : m.testBit 3 = true) :
    Keeps m s { b with reg := v } :=
  ⟨h.know, h.kfree, h.kod, fun b => Bool.noConfusion (e.symm.trans b), h.kcfg, h.klatch, h.klink, h.khost, h.kg, h.kplat, h.kflt, h.kmig, h.kcoh, h.kdrill, h.kplots, h.khbm,
   h.kfc, h.kdict, h.khop, h.kmir, h.kfw, h.kfab, h.ktime, h.kslice, h.kmgr, h.kpwr, h.kcal, h.khl, h.kseed, h.krot, h.kstw, h.kpending, h.kmono, fun i => have i := h.kinv i; ⟨i.1, i.2.1, i.2.2.1, hi i.2.2.2.1, i.2.2.2.2⟩⟩

theorem Keeps.setcfg {m : Nat} {s b : State} (v) (h : Keeps m s b) (hi : Rises b.cfg → Rises v) (e : m.testBit 4 = true) :
    Keeps m s { b with cfg := v } :=
  ⟨h.know, h.kfree, h.kod, h.kreg, fun b => Bool.noConfusion (e.symm.trans b), h.klatch, h.klink, h.khost, h.kg, h.kplat, h.kflt, h.kmig, h.kcoh, h.kdrill, h.kplots, h.khbm,
   h.kfc, h.kdict, h.khop, h.kmir, h.kfw, h.kfab, h.ktime, h.kslice, h.kmgr, h.kpwr, h.kcal, h.khl, h.kseed, h.krot, h.kstw, h.kpending, h.kmono, fun i => have i := h.kinv i; ⟨i.1, i.2.1, i.2.2.1, i.2.2.2.1, hi i.2.2.2.2.1, i.2.2.2.2.2⟩⟩

theorem Keeps.setlatch {m : Nat} {s b : State} (v) (h : Keeps m s b) (hi : Rises b.latch → Rises v) (e : m.testBit 5 = true) :
    Keeps m s { b with latch := v } :=
  ⟨h.know, h.kfree, h.kod, h.kreg, h.kcfg, fun b => Bool.noConfusion (e.symm.trans b), h.klink, h.khost, h.kg, h.kplat, h.kflt, h.kmig, h.kcoh, h.kdrill, h.kplots, h.khbm,
   h.kfc, h.kdict, h.khop, h.kmir, h.kfw, h.kfab, h.ktime, h.kslice, h.kmgr, h.kpwr, h.kcal, h.khl, h.kseed, h.krot, h.kstw, h.kpending, h.kmono, fun i => have i := h.kinv i; ⟨i.1, i.2.1, i.2.2.1, i.2.2.2.1, i.2.2.2.2.1, hi i.2.2.2.2.2.1, i.2.2.2.2.2.2⟩⟩

theorem Keeps.setlink {m : Nat} {s b : State} (v) (h : Keeps m s b) (e : m.testBit 6 = true) : Keeps m s { b with link := v } :=
  ⟨h.know, h.kfree, h.kod, h.kreg, h.kcfg, h.klatch, fun b => Bool.noConfusion (e.symm.trans b), h.khost, h.kg, h.kplat, h.kflt, h.kmig, h.kcoh, h.kdrill, h.kplots, h.khbm,
   h.kfc, h.kdict, h.khop, h.kmir, h.kfw, h.kfab, h.ktime, h.kslice, h.kmgr, h.kpwr, h.kcal, h.khl, h.kseed, h.krot, h.kstw, h.kpending, h.kmono, h.kinv⟩

theorem Keeps.sethost {m : Nat} {s b : State} (v) (h : Keeps m s b) (hi : kvWf false b.host.poison = true → kvWf false v.poison = true) (e : m.testBit 7 = true) :
    Keeps m s { b with host := v } :=
  ⟨h.know, h.kfree, h.kod, h.kreg, h.kcfg, h.klatch, h.klink, fun b => Bool.noConfusion (e.symm.trans b), h.kg, h.kplat, h.kflt, h.kmig, h.kcoh, h.kdrill, h.kplots, h.khbm,
   h.kfc, h.kdict, h.khop, h.kmir, h.kfw, h.kfab, h.ktime, h.kslice, h.kmgr, h.kpwr, h.kcal, h.khl, h.kseed, h.krot, h.kstw, h.kpending, h.kmono, fun i => have i := h.kinv i; ⟨i.1, hi i.2.1, i.2.2⟩⟩

theorem Keeps.setg {m : Nat} {s b : State} (v) (h : Keeps m s b) (hi : Rises b.g.furrows → Rises v.furrows) (hj : Rises b.g.stakes → Rises v.stakes) (e : m.testBit 8 = true) :
    Keeps m s { b with g := v } :=
  ⟨h.know, h.kfree, h.kod, h.kreg, h.kcfg, h.klatch, h.klink, h.khost, fun b => Bool.noConfusion (e.symm.trans b), h.kplat, h.kflt, h.kmig, h.kcoh, h.kdrill, h.kplots, h.khbm,
   h.kfc, h.kdict, h.khop, h.kmir, h.kfw, h.kfab, h.ktime, h.kslice, h.kmgr, h.kpwr, h.kcal, h.khl, h.kseed, h.krot, h.kstw, h.kpending, h.kmono, fun i => have i := h.kinv i; ⟨i.1, i.2.1, i.2.2.1, i.2.2.2.1, i.2.2.2.2.1, i.2.2.2.2.2.1, i.2.2.2.2.2.2.1, hi i.2.2.2.2.2.2.2.1, hj i.2.2.2.2.2.2.2.2.1, i.2.2.2.2.2.2.2.2.2⟩⟩

theorem Keeps.setplat {m : Nat} {s b : State} (v) (h : Keeps m s b) (e : m.testBit 9 = true) : Keeps m s { b with plat := v } :=
  ⟨h.know, h.kfree, h.kod, h.kreg, h.kcfg, h.klatch, h.klink, h.khost, h.kg, fun b => Bool.noConfusion (e.symm.trans b), h.kflt, h.kmig, h.kcoh, h.kdrill, h.kplots, h.khbm,
   h.kfc, h.kdict, h.khop, h.kmir, h.kfw, h.kfab, h.ktime, h.kslice, h.kmgr, h.kpwr, h.kcal, h.khl, h.kseed, h.krot, h.kstw, h.kpending, h.kmono, h.kinv⟩

theorem Keeps.setflt {m : Nat} {s b : State} (v) (h : Keeps m s b) (e : m.testBit 10 = true) : Keeps m s { b with flt := v } :=
  ⟨h.know, h.kfree, h.kod, h.kreg, h.kcfg, h.klatch, h.klink, h.khost, h.kg, h.kplat, fun b => Bool.noConfusion (e.symm.trans b), h.kmig, h.kcoh, h.kdrill, h.kplots, h.khbm,
   h.kfc, h.kdict, h.khop, h.kmir, h.kfw, h.kfab, h.ktime, h.kslice, h.kmgr, h.kpwr, h.kcal, h.khl, h.kseed, h.krot, h.kstw, h.kpending, h.kmono, h.kinv⟩

theorem Keeps.setmig {m : Nat} {s b : State} (v) (h : Keeps m s b) (e : m.testBit 11 = true) : Keeps m s { b with mig := v } :=
  ⟨h.know, h.kfree, h.kod, h.kreg, h.kcfg, h.klatch, h.klink, h.khost, h.kg, h.kplat, h.kflt, fun b => Bool.noConfusion (e.symm.trans b), h.kcoh, h.kdrill, h.kplots, h.khbm,
   h.kfc, h.kdict, h.khop, h.kmir, h.kfw, h.kfab, h.ktime, h.kslice, h.kmgr, h.kpwr, h.kcal, h.khl, h.kseed, h.krot, h.kstw, h.kpending, h.kmono, h.kinv⟩

theorem Keeps.setcoh {m : Nat} {s b : State} (v) (h : Keeps m s b) (e : m.testBit 12 = true) : Keeps m s { b with coh := v } :=
  ⟨h.know, h.kfree, h.kod, h.kreg, h.kcfg, h.klatch, h.klink, h.khost, h.kg, h.kplat, h.kflt, h.kmig, fun b => Bool.noConfusion (e.symm.trans b), h.kdrill, h.kplots, h.khbm,
   h.kfc, h.kdict, h.khop, h.kmir, h.kfw, h.kfab, h.ktime, h.kslice, h.kmgr, h.kpwr, h.kcal, h.khl, h.kseed, h.krot, h.kstw, h.kpending, h.kmono, h.kinv⟩

theorem Keeps.setdrill {m : Nat} {s b : State} (v) (h : Keeps m s b) (hi : Rises b.drill.rows → Rises v.rows) (hj : Rises b.drill.feeds → Rises v.feeds) (e : m.testBit 13 = true) :
    Keeps m s { b with drill := v } :=
  ⟨h.know, h.kfree, h.kod, h.kreg, h.kcfg, h.klatch, h.klink, h.khost, h.kg, h.kplat, h.kflt, h.kmig, h.kcoh, fun b => Bool.noConfusion (e.symm.trans b), h.kplots, h.khbm,
   h.kfc, h.kdict, h.khop, h.kmir, h.kfw, h.kfab, h.ktime, h.kslice, h.kmgr, h.kpwr, h.kcal, h.khl, h.kseed, h.krot, h.kstw, h.kpending, h.kmono, fun i => have i := h.kinv i; ⟨i.1, i.2.1, i.2.2.1, i.2.2.2.1, i.2.2.2.2.1, i.2.2.2.2.2.1, i.2.2.2.2.2.2.1, i.2.2.2.2.2.2.2.1, i.2.2.2.2.2.2.2.2.1, hi i.2.2.2.2.2.2.2.2.2.1, hj i.2.2.2.2.2.2.2.2.2.2.1, i.2.2.2.2.2.2.2.2.2.2.2⟩⟩

theorem Keeps.setplots {m : Nat} {s b : State} (v) (h : Keeps m s b) (hi : PlotsWf b.plots → PlotsWf v) (e : m.testBit 14 = true) :
    Keeps m s { b with plots := v } :=
  ⟨h.know, h.kfree, h.kod, h.kreg, h.kcfg, h.klatch, h.klink, h.khost, h.kg, h.kplat, h.kflt, h.kmig, h.kcoh, h.kdrill, fun b => Bool.noConfusion (e.symm.trans b), h.khbm,
   h.kfc, h.kdict, h.khop, h.kmir, h.kfw, h.kfab, h.ktime, h.kslice, h.kmgr, h.kpwr, h.kcal, h.khl, h.kseed, h.krot, h.kstw, h.kpending, h.kmono, fun i => have i := h.kinv i; ⟨i.1, i.2.1, i.2.2.1, i.2.2.2.1, i.2.2.2.2.1, i.2.2.2.2.2.1, hi i.2.2.2.2.2.2.1, i.2.2.2.2.2.2.2⟩⟩

theorem Keeps.setfc {m : Nat} {s b : State} (v) (h : Keeps m s b) (hi : Rises b.fc.srcs → Rises v.srcs) (e : m.testBit 16 = true) :
    Keeps m s { b with fc := v } :=
  ⟨h.know, h.kfree, h.kod, h.kreg, h.kcfg, h.klatch, h.klink, h.khost, h.kg, h.kplat, h.kflt, h.kmig, h.kcoh, h.kdrill, h.kplots, h.khbm,
   fun b => Bool.noConfusion (e.symm.trans b), h.kdict, h.khop, h.kmir, h.kfw, h.kfab, h.ktime, h.kslice, h.kmgr, h.kpwr, h.kcal, h.khl, h.kseed, h.krot, h.kstw, h.kpending, h.kmono, fun i => have i := h.kinv i; ⟨i.1, i.2.1, i.2.2.1, i.2.2.2.1, i.2.2.2.2.1, i.2.2.2.2.2.1, i.2.2.2.2.2.2.1, i.2.2.2.2.2.2.2.1, i.2.2.2.2.2.2.2.2.1, i.2.2.2.2.2.2.2.2.2.1, i.2.2.2.2.2.2.2.2.2.2.1, i.2.2.2.2.2.2.2.2.2.2.2.1, hi i.2.2.2.2.2.2.2.2.2.2.2.2⟩⟩

theorem Keeps.setdict {m : Nat} {s b : State} (v) (h : Keeps m s b) (e : m.testBit 17 = true) : Keeps m s { b with dict := v } :=
  ⟨h.know, h.kfree, h.kod, h.kreg, h.kcfg, h.klatch, h.klink, h.khost, h.kg, h.kplat, h.kflt, h.kmig, h.kcoh, h.kdrill, h.kplots, h.khbm,
   h.kfc, fun b => Bool.noConfusion (e.symm.trans b), h.khop, h.kmir, h.kfw, h.kfab, h.ktime, h.kslice, h.kmgr, h.kpwr, h.kcal, h.khl, h.kseed, h.krot, h.kstw, h.kpending, h.kmono, h.kinv⟩

theorem Keeps.sethop {m : Nat} {s b : State} (v) (h : Keeps m s b) (e : m.testBit 18 = true) : Keeps m s { b with hop := v } :=
  ⟨h.know, h.kfree, h.kod, h.kreg, h.kcfg, h.klatch, h.klink, h.khost, h.kg, h.kplat, h.kflt, h.kmig, h.kcoh, h.kdrill, h.kplots, h.khbm,
   h.kfc, h.kdict, fun b => Bool.noConfusion (e.symm.trans b), h.kmir, h.kfw, h.kfab, h.ktime, h.kslice, h.kmgr, h.kpwr, h.kcal, h.khl, h.kseed, h.krot, h.kstw, h.kpending, h.kmono, h.kinv⟩

theorem Keeps.setmir {m : Nat} {s b : State} (v) (h : Keeps m s b) (e : m.testBit 19 = true) : Keeps m s { b with mir := v } :=
  ⟨h.know, h.kfree, h.kod, h.kreg, h.kcfg, h.klatch, h.klink, h.khost, h.kg, h.kplat, h.kflt, h.kmig, h.kcoh, h.kdrill, h.kplots, h.khbm,
   h.kfc, h.kdict, h.khop, fun b => Bool.noConfusion (e.symm.trans b), h.kfw, h.kfab, h.ktime, h.kslice, h.kmgr, h.kpwr, h.kcal, h.khl, h.kseed, h.krot, h.kstw, h.kpending, h.kmono, h.kinv⟩

theorem Keeps.setfw {m : Nat} {s b : State} (v) (h : Keeps m s b) (e : m.testBit 20 = true) : Keeps m s { b with fw := v } :=
  ⟨h.know, h.kfree, h.kod, h.kreg, h.kcfg, h.klatch, h.klink, h.khost, h.kg, h.kplat, h.kflt, h.kmig, h.kcoh, h.kdrill, h.kplots, h.khbm,
   h.kfc, h.kdict, h.khop, h.kmir, fun b => Bool.noConfusion (e.symm.trans b), h.kfab, h.ktime, h.kslice, h.kmgr, h.kpwr, h.kcal, h.khl, h.kseed, h.krot, h.kstw, h.kpending, h.kmono, h.kinv⟩

theorem Keeps.setfab {m : Nat} {s b : State} (v) (h : Keeps m s b) (hi : Rises b.fab.ports → Rises v.ports) (e : m.testBit 21 = true) :
    Keeps m s { b with fab := v } :=
  ⟨h.know, h.kfree, h.kod, h.kreg, h.kcfg, h.klatch, h.klink, h.khost, h.kg, h.kplat, h.kflt, h.kmig, h.kcoh, h.kdrill, h.kplots, h.khbm,
   h.kfc, h.kdict, h.khop, h.kmir, h.kfw, fun b => Bool.noConfusion (e.symm.trans b), h.ktime, h.kslice, h.kmgr, h.kpwr, h.kcal, h.khl, h.kseed, h.krot, h.kstw, h.kpending, h.kmono, fun i => have i := h.kinv i; ⟨i.1, i.2.1, i.2.2.1, i.2.2.2.1, i.2.2.2.2.1, i.2.2.2.2.2.1, i.2.2.2.2.2.2.1, i.2.2.2.2.2.2.2.1, i.2.2.2.2.2.2.2.2.1, i.2.2.2.2.2.2.2.2.2.1, i.2.2.2.2.2.2.2.2.2.2.1, hi i.2.2.2.2.2.2.2.2.2.2.2.1, i.2.2.2.2.2.2.2.2.2.2.2.2⟩⟩

theorem Keeps.settime {m : Nat} {s b : State} (v) (h : Keeps m s b) (e : m.testBit 22 = true) : Keeps m s { b with time := v } :=
  ⟨h.know, h.kfree, h.kod, h.kreg, h.kcfg, h.klatch, h.klink, h.khost, h.kg, h.kplat, h.kflt, h.kmig, h.kcoh, h.kdrill, h.kplots, h.khbm,
   h.kfc, h.kdict, h.khop, h.kmir, h.kfw, h.kfab, fun b => Bool.noConfusion (e.symm.trans b), h.kslice, h.kmgr, h.kpwr, h.kcal, h.khl, h.kseed, h.krot, h.kstw, h.kpending, h.kmono, h.kinv⟩

theorem Keeps.setslice {m : Nat} {s b : State} (v) (h : Keeps m s b) (e : m.testBit 23 = true) : Keeps m s { b with slice := v } :=
  ⟨h.know, h.kfree, h.kod, h.kreg, h.kcfg, h.klatch, h.klink, h.khost, h.kg, h.kplat, h.kflt, h.kmig, h.kcoh, h.kdrill, h.kplots, h.khbm,
   h.kfc, h.kdict, h.khop, h.kmir, h.kfw, h.kfab, h.ktime, fun b => Bool.noConfusion (e.symm.trans b), h.kmgr, h.kpwr, h.kcal, h.khl, h.kseed, h.krot, h.kstw, h.kpending, h.kmono, h.kinv⟩

theorem Keeps.setmgr {m : Nat} {s b : State} (v) (h : Keeps m s b) (e : m.testBit 24 = true) : Keeps m s { b with mgr := v } :=
  ⟨h.know, h.kfree, h.kod, h.kreg, h.kcfg, h.klatch, h.klink, h.khost, h.kg, h.kplat, h.kflt, h.kmig, h.kcoh, h.kdrill, h.kplots, h.khbm,
   h.kfc, h.kdict, h.khop, h.kmir, h.kfw, h.kfab, h.ktime, h.kslice, fun b => Bool.noConfusion (e.symm.trans b), h.kpwr, h.kcal, h.khl, h.kseed, h.krot, h.kstw, h.kpending, h.kmono, h.kinv⟩

theorem Keeps.setpwr {m : Nat} {s b : State} (v) (h : Keeps m s b) (e : m.testBit 25 = true) : Keeps m s { b with pwr := v } :=
  ⟨h.know, h.kfree, h.kod, h.kreg, h.kcfg, h.klatch, h.klink, h.khost, h.kg, h.kplat, h.kflt, h.kmig, h.kcoh, h.kdrill, h.kplots, h.khbm,
   h.kfc, h.kdict, h.khop, h.kmir, h.kfw, h.kfab, h.ktime, h.kslice, h.kmgr, fun b => Bool.noConfusion (e.symm.trans b), h.kcal, h.khl, h.kseed, h.krot, h.kstw, h.kpending, h.kmono, h.kinv⟩

theorem Keeps.setcal {m : Nat} {s b : State} (v) (h : Keeps m s b) (e : m.testBit 26 = true) : Keeps m s { b with cal := v } :=
  ⟨h.know, h.kfree, h.kod, h.kreg, h.kcfg, h.klatch, h.klink, h.khost, h.kg, h.kplat, h.kflt, h.kmig, h.kcoh, h.kdrill, h.kplots, h.khbm,
   h.kfc, h.kdict, h.khop, h.kmir, h.kfw, h.kfab, h.ktime, h.kslice, h.kmgr, h.kpwr, fun b => Bool.noConfusion (e.symm.trans b), h.khl, h.kseed, h.krot, h.kstw, h.kpending, h.kmono, h.kinv⟩

theorem Keeps.sethl {m : Nat} {s b : State} (v) (h : Keeps m s b) (e : m.testBit 27 = true) : Keeps m s { b with hl := v } :=
  ⟨h.know, h.kfree, h.kod, h.kreg, h.kcfg, h.klatch, h.klink, h.khost, h.kg, h.kplat, h.kflt, h.kmig, h.kcoh, h.kdrill, h.kplots, h.khbm,
   h.kfc, h.kdict, h.khop, h.kmir, h.kfw, h.kfab, h.ktime, h.kslice, h.kmgr, h.kpwr, h.kcal, fun b => Bool.noConfusion (e.symm.trans b), h.kseed, h.krot, h.kstw, h.kpending, h.kmono, h.kinv⟩

theorem Keeps.setseed {m : Nat} {s b : State} (v) (h : Keeps m s b) (e : m.testBit 28 = true) : Keeps m s { b with seed := v } :=
  ⟨h.know, h.kfree, h.kod, h.kreg, h.kcfg, h.klatch, h.klink, h.khost, h.kg, h.kplat, h.kflt, h.kmig, h.kcoh, h.kdrill, h.kplots, h.khbm,
   h.kfc, h.kdict, h.khop, h.kmir, h.kfw, h.kfab, h.ktime, h.kslice, h.kmgr, h.kpwr, h.kcal, h.khl, fun b => Bool.noConfusion (e.symm.trans b), h.krot, h.kstw, h.kpending, h.kmono, h.kinv⟩

theorem Keeps.setrot {m : Nat} {s b : State} (v) (h : Keeps m s b) (e : m.testBit 29 = true) : Keeps m s { b with rot := v } :=
  ⟨h.know, h.kfree, h.kod, h.kreg, h.kcfg, h.klatch, h.klink, h.khost, h.kg, h.kplat, h.kflt, h.kmig, h.kcoh, h.kdrill, h.kplots, h.khbm,
   h.kfc, h.kdict, h.khop, h.kmir, h.kfw, h.kfab, h.ktime, h.kslice, h.kmgr, h.kpwr, h.kcal, h.khl, h.kseed, fun b => Bool.noConfusion (e.symm.trans b), h.kstw, h.kpending, h.kmono, h.kinv⟩

theorem Keeps.setstw {m : Nat} {s b : State} (v) (h : Keeps m s b) (e : m.testBit 30 = true) : Keeps m s { b with stw := v } :=
  ⟨h.know, h.kfree, h.kod, h.kreg, h.kcfg, h.klatch, h.klink, h.khost, h.kg, h.kplat, h.kflt, h.kmig, h.kcoh, h.kdrill, h.kplots, h.khbm,
   h.kfc, h.kdict, h.khop, h.kmir, h.kfw, h.kfab, h.ktime, h.kslice, h.kmgr, h.kpwr, h.kcal, h.khl, h.kseed, h.krot, fun b => Bool.noConfusion (e.symm.trans b), h.kpending, h.kmono, h.kinv⟩

theorem Keeps.setnow {m : Nat} {s b : State} (v : Nat) (h : Keeps m s b) (hv : b.now ≤ v) (e : m.testBit 0 = true) :
    Keeps m s { b with now := v } :=
  ⟨fun b => Bool.noConfusion (e.symm.trans b), h.kfree, h.kod, h.kreg, h.kcfg, h.klatch, h.klink, h.khost, h.kg, h.kplat, h.kflt, h.kmig, h.kcoh, h.kdrill, h.kplots, h.khbm,
   h.kfc, h.kdict, h.khop, h.kmir, h.kfw, h.kfab, h.ktime, h.kslice, h.kmgr, h.kpwr, h.kcal, h.khl, h.kseed, h.krot, h.kstw, h.kpending, Nat.le_trans h.kmono hv, h.kinv⟩

theorem Keeps.ite {m : Nat} {s a b : State} {c : Prop} [Decidable c] (ha : Keeps m s a) (hb : Keeps m s b) :
    Keeps m s (if c then a else b) := by
  split
  · exact ha
  · exact hb

theorem Keeps.dite {m : Nat} {s : State} {c : Prop} [Decidable c] {a : c → State} {b : ¬c → State} (ha : ∀ h, Keeps m s (a h))
    (hb : ∀ h, Keeps m s (b h)) : Keeps m s (if h : c then a h else b h) := by
  split
  · exact ha _
  · exact hb _

theorem Keeps.foldl {m : Nat} {s : State} {α : Type} {f : State → α → State} {a : State} {l : List α} (ha : Keeps m s a)
    (hf : ∀ t x, Keeps m s t → Keeps m s (f t x)) : Keeps m s (l.foldl f a) := by
  induction l generalizing a with
  | nil => exact ha
  | cons x l ih => exact ih (hf a x ha)

theorem Keeps.each {m : Nat} {s : State} {α : Type} {f : State → α → State} {a : State} {l : List α} (ha : Keeps m s a)
    (hf : ∀ t x, Keeps m s t → Keeps m s (f t x)) : Keeps m s (a.each l f) := Keeps.foldl ha hf

theorem Keeps.getD {m : Nat} {s : State} {o : Option State} {d : State} (ho : ∀ t, o = some t → Keeps m s t) (hd : Keeps m s d) :
    Keeps m s (o.getD d) := by
  cases o with
  | none => exact hd
  | some t => exact ho t rfl

/-- `Keeps` of the state in an answer of type State × α. -/
def KeepsP {α : Type} (m : Nat) (s : State) (p : State × α) : Prop := Keeps m s p.1

theorem KeepsP.ite {α : Type} {m : Nat} {s : State} {a b : State × α} {c : Prop} [Decidable c] (ha : KeepsP m s a) (hb : KeepsP m s b) :
    KeepsP m s (if c then a else b) := by
  split
  · exact ha
  · exact hb

theorem KeepsP.dite {α : Type} {m : Nat} {s : State} {c : Prop} [Decidable c] {a : c → State × α} {b : ¬c → State × α} (ha : ∀ h, KeepsP m s (a h))
    (hb : ∀ h, KeepsP m s (b h)) : KeepsP m s (if h : c then a h else b h) := by
  split
  · exact ha _
  · exact hb _

theorem KeepsP.mk {α : Type} {m : Nat} {s t : State} {x : α} (h : Keeps m s t) : KeepsP m s (t, x) := h
theorem KeepsP.fst {α : Type} {m : Nat} {s : State} {p : State × α} (h : KeepsP m s p) : Keeps m s p.1 := h
theorem KeepsP.ofEq {α : Type} {m : Nat} {s t : State} {x : α} {p : State × α} (h : KeepsP m s p) (e : p = (t, x)) : Keeps m s t := by
  subst e
  exact h
theorem KeepsP.step {α : Type} {m m' : Nat} {s t : State} {p : State × α} (h : Keeps m s t) (g : KeepsP m' t p) (e : m' &&& m = m') : KeepsP m s p :=
  Keeps.step h g e
theorem KeepsP.foldl {α β : Type} {m : Nat} {s : State} {f : State × α → β → State × α} {a : State × α} {l : List β} (ha : KeepsP m s a)
    (hf : ∀ t x, KeepsP m s t → KeepsP m s (f t x)) : KeepsP m s (l.foldl f a) := by
  induction l generalizing a with
  | nil => exact ha
  | cons x l ih => exact ih (hf a x ha)

/-- `Keeps` of the state in an answer of type α × State. -/
def KeepsN {α : Type} (m : Nat) (s : State) (p : α × State) : Prop := Keeps m s p.2

theorem KeepsN.ite {α : Type} {m : Nat} {s : State} {a b : α × State} {c : Prop} [Decidable c] (ha : KeepsN m s a) (hb : KeepsN m s b) :
    KeepsN m s (if c then a else b) := by
  split
  · exact ha
  · exact hb

theorem KeepsN.dite {α : Type} {m : Nat} {s : State} {c : Prop} [Decidable c] {a : c → α × State} {b : ¬c → α × State} (ha : ∀ h, KeepsN m s (a h))
    (hb : ∀ h, KeepsN m s (b h)) : KeepsN m s (if h : c then a h else b h) := by
  split
  · exact ha _
  · exact hb _

theorem KeepsN.mk {α : Type} {m : Nat} {s t : State} {x : α} (h : Keeps m s t) : KeepsN m s (x, t) := h
theorem KeepsN.snd {α : Type} {m : Nat} {s : State} {p : α × State} (h : KeepsN m s p) : Keeps m s p.2 := h
theorem KeepsN.ofEq {α : Type} {m : Nat} {s t : State} {x : α} {p : α × State} (h : KeepsN m s p) (e : p = (x, t)) : Keeps m s t := by
  subst e
  exact h
theorem KeepsN.step {α : Type} {m m' : Nat} {s t : State} {p : α × State} (h : Keeps m s t) (g : KeepsN m' t p) (e : m' &&& m = m') : KeepsN m s p :=
  Keeps.step h g e
theorem KeepsN.foldl {α β : Type} {m : Nat} {s : State} {f : α × State → β → α × State} {a : α × State} {l : List β} (ha : KeepsN m s a)
    (hf : ∀ t x, KeepsN m s t → KeepsN m s (f t x)) : KeepsN m s (l.foldl f a) := by
  induction l generalizing a with
  | nil => exact ha
  | cons x l ih => exact ih (hf a x ha)

/-- `Keeps` of the state in an answer of type Out. -/
def KeepsO (m : Nat) (s : State) (p : Out) : Prop := ∀ t, p = .next t → Keeps m s t

theorem KeepsO.ite {m : Nat} {s : State} {a b : Out} {c : Prop} [Decidable c] (ha : KeepsO m s a) (hb : KeepsO m s b) :
    KeepsO m s (if c then a else b) := by
  split
  · exact ha
  · exact hb

theorem KeepsO.dite {m : Nat} {s : State} {c : Prop} [Decidable c] {a : c → Out} {b : ¬c → Out} (ha : ∀ h, KeepsO m s (a h))
    (hb : ∀ h, KeepsO m s (b h)) : KeepsO m s (if h : c then a h else b h) := by
  split
  · exact ha _
  · exact hb _

theorem KeepsO.next {m : Nat} {s t : State} (h : Keeps m s t) : KeepsO m s (.next t) := by
  intro u e
  injection e with e
  exact e ▸ h
theorem KeepsO.step {m m' : Nat} {s t : State} {p : Out} (h : Keeps m s t) (g : KeepsO m' t p) (e : m' &&& m = m') : KeepsO m s p :=
  fun u k => Keeps.step h (g u k) e

/-- `Keeps` of the state in an answer of type Option State. -/
def KeepsS (m : Nat) (s : State) (p : Option State) : Prop := ∀ t, p = some t → Keeps m s t

theorem KeepsS.ite {m : Nat} {s : State} {a b : Option State} {c : Prop} [Decidable c] (ha : KeepsS m s a) (hb : KeepsS m s b) :
    KeepsS m s (if c then a else b) := by
  split
  · exact ha
  · exact hb

theorem KeepsS.dite {m : Nat} {s : State} {c : Prop} [Decidable c] {a : c → Option State} {b : ¬c → Option State} (ha : ∀ h, KeepsS m s (a h))
    (hb : ∀ h, KeepsS m s (b h)) : KeepsS m s (if h : c then a h else b h) := by
  split
  · exact ha _
  · exact hb _

theorem KeepsS.some {m : Nat} {s t : State} (h : Keeps m s t) : KeepsS m s (some t) := by
  intro u e
  injection e with e
  exact e ▸ h
theorem KeepsS.map {α : Type} {m : Nat} {s : State} {f : α → State} {o : Option α} (h : ∀ x, Keeps m s (f x)) : KeepsS m s (o.map f) := by
  intro u e
  obtain ⟨x, -, rfl⟩ := Option.map_eq_some_iff.mp e
  exact h x
theorem KeepsS.none {m : Nat} {s : State} : KeepsS m s none := fun _ e => absurd e.symm (Option.some_ne_none _)
theorem KeepsS.ofEq {m : Nat} {s t : State} {p : Option State} (h : KeepsS m s p) (e : p = Option.some t) : Keeps m s t := h t e
theorem KeepsS.step {m m' : Nat} {s t : State} {p : Option State} (h : Keeps m s t) (g : KeepsS m' t p) (e : m' &&& m = m') : KeepsS m s p :=
  fun u k => Keeps.step h (g u k) e

/-- `Keeps` of the state in an answer of type Option (State × α). -/
def KeepsQ {α : Type} (m : Nat) (s : State) (p : Option (State × α)) : Prop := ∀ t, p = some t → KeepsP m s t

theorem KeepsQ.ite {α : Type} {m : Nat} {s : State} {a b : Option (State × α)} {c : Prop} [Decidable c] (ha : KeepsQ m s a) (hb : KeepsQ m s b) :
    KeepsQ m s (if c then a else b) := by
  split
  · exact ha
  · exact hb

theorem KeepsQ.dite {α : Type} {m : Nat} {s : State} {c : Prop} [Decidable c] {a : c → Option (State × α)} {b : ¬c → Option (State × α)} (ha : ∀ h, KeepsQ m s (a h))
    (hb : ∀ h, KeepsQ m s (b h)) : KeepsQ m s (if h : c then a h else b h) := by
  split
  · exact ha _
  · exact hb _

theorem KeepsQ.some {α : Type} {m : Nat} {s : State} {t : State × α} (h : KeepsP m s t) : KeepsQ m s (some t) := by
  intro u e
  injection e with e
  exact e ▸ h
theorem KeepsQ.none {α : Type} {m : Nat} {s : State} : KeepsQ (α := α) m s none := fun _ e => absurd e.symm (Option.some_ne_none _)
theorem KeepsQ.ofEq {α : Type} {m : Nat} {s t : State} {x : α} {p : Option (State × α)} (h : KeepsQ m s p) (e : p = Option.some (t, x)) : Keeps m s t := h _ e
theorem KeepsQ.ofEq1 {α : Type} {m : Nat} {s : State} {x : State × α} {p : Option (State × α)} (h : KeepsQ m s p) (e : p = Option.some x) : KeepsP m s x := h _ e
theorem KeepsQ.step {α : Type} {m m' : Nat} {s t : State} {p : Option (State × α)} (h : Keeps m s t) (g : KeepsQ m' t p) (e : m' &&& m = m') : KeepsQ m s p :=
  fun u k => Keeps.step h (g u k) e

/-- `Keeps` of the state in an answer of type Option (α × State). -/
def KeepsR {α : Type} (m : Nat) (s : State) (p : Option (α × State)) : Prop := ∀ t, p = some t → KeepsN m s t

theorem KeepsR.ite {α : Type} {m : Nat} {s : State} {a b : Option (α × State)} {c : Prop} [Decidable c] (ha : KeepsR m s a) (hb : KeepsR m s b) :
    KeepsR m s (if c then a else b) := by
  split
  · exact ha
  · exact hb

theorem KeepsR.dite {α : Type} {m : Nat} {s : State} {c : Prop} [Decidable c] {a : c → Option (α × State)} {b : ¬c → Option (α × State)} (ha : ∀ h, KeepsR m s (a h))
    (hb : ∀ h, KeepsR m s (b h)) : KeepsR m s (if h : c then a h else b h) := by
  split
  · exact ha _
  · exact hb _

theorem KeepsR.some {α : Type} {m : Nat} {s : State} {t : α × State} (h : KeepsN m s t) : KeepsR m s (some t) := by
  intro u e
  injection e with e
  exact e ▸ h
theorem KeepsR.none {α : Type} {m : Nat} {s : State} : KeepsR (α := α) m s none := fun _ e => absurd e.symm (Option.some_ne_none _)
theorem KeepsR.ofEq {α : Type} {m : Nat} {s t : State} {x : α} {p : Option (α × State)} (h : KeepsR m s p) (e : p = Option.some (x, t)) : Keeps m s t := h _ e
theorem KeepsR.ofEq1 {α : Type} {m : Nat} {s : State} {x : α × State} {p : Option (α × State)} (h : KeepsR m s p) (e : p = Option.some x) : KeepsN m s x := h _ e
theorem KeepsR.step {α : Type} {m m' : Nat} {s t : State} {p : Option (α × State)} (h : Keeps m s t) (g : KeepsR m' t p) (e : m' &&& m = m') : KeepsR m s p :=
  fun u k => Keeps.step h (g u k) e

end Sys2Proof.Machine
end

