-- ==== Sys2Proof/Laws/FootOps.lean ====
section
/-! SUPPORT. The footprints of the operations of Machine/Ops.lean. -/

namespace Sys2Proof.Machine

theorem State.setVal_keeps (s) (z1) (z2) : Keeps 4 s (State.setVal s z1 z2) := by
  unfold State.setVal
  refine Keeps.setod (m := 4) _ ?_ (kvSet_rises _ _ _ _) rfl
  exact Keeps.refl _ _

theorem State.bumpBy_keeps (s) (z1) (z2) : Keeps 4 s (State.bumpBy s z1 z2) := by
  unfold State.bumpBy
  extract_lets x1 x2
  clear_value x1
  clear_value x2
  refine Keeps.ite ?_ ?_
  · refine Keeps.step ?_ (State.setVal_keeps _ _ _) rfl
    exact Keeps.refl _ _
  · refine Keeps.step ?_ (State.setVal_keeps _ _ _) rfl
    refine Keeps.step ?_ (State.setVal_keeps _ _ _) rfl
    exact Keeps.refl _ _

theorem State.bump_keeps (s) (z1) : Keeps 4 s (State.bump s z1) := by
  unfold State.bump
  refine Keeps.step ?_ (State.bumpBy_keeps _ _ _) rfl
  exact Keeps.refl _ _

theorem State.setRg_keeps (s) (z1) (z2) : Keeps 8 s (State.setRg s z1 z2) := by
  unfold State.setRg
  refine Keeps.setreg (m := 8) _ ?_ (kvSet_rises _ _ _ _) rfl
  exact Keeps.refl _ _

theorem State.resetRegs_keeps (s) (z1) (z2) : Keeps 8 s (State.resetRegs s z1 z2) := by
  unfold State.resetRegs
  refine Keeps.setreg (m := 8) _ ?_ (memZero_rises _ _ _) rfl
  exact Keeps.refl _ _

theorem State.bumpRg_keeps (s) (z1) (z2) (z3) : Keeps 8 s (State.bumpRg s z1 z2 z3) := by
  unfold State.bumpRg
  extract_lets x1
  clear_value x1
  refine Keeps.ite ?_ ?_
  · refine Keeps.step ?_ (State.setRg_keeps _ _ _) rfl
    exact Keeps.refl _ _
  · refine Keeps.step ?_ (State.setRg_keeps _ _ _) rfl
    refine Keeps.step ?_ (State.setRg_keeps _ _ _) rfl
    exact Keeps.refl _ _

theorem State.setBank_keeps (s) (z1) : Keeps 131072 s (State.setBank s z1) := by
  unfold State.setBank
  extract_lets x1 x2
  refine Keeps.setdict (m := 131072) _ ?_ rfl
  exact Keeps.refl _ _

theorem State.draw_keeps (s) : KeepsN 2 s (State.draw s) := by
  unfold State.draw
  refine KeepsN.mk ?_
  refine Keeps.setfree (m := 2) _ ?_ rfl
  exact Keeps.refl _ _

theorem State.setCal_keeps (s) (z1) (z2) (z3) : Keeps 4 s (State.setCal s z1 z2 z3) := by
  unfold State.setCal
  refine Keeps.step ?_ (State.setVal_keeps _ _ _) rfl
  refine Keeps.step ?_ (State.setVal_keeps _ _ _) rfl
  exact Keeps.refl _ _

theorem State.relearn_keeps (s) (z1) (z2) : Keeps 4 s (State.relearn s z1 z2) := by
  unfold State.relearn
  refine Keeps.ite ?_ ?_
  · refine Keeps.step ?_ (State.setCal_keeps _ _ _ _) rfl
    exact Keeps.refl _ _
  · exact Keeps.refl _ _

theorem State.learn_keeps (s) (z1) (z2) : Keeps 6 s (State.learn s z1 z2) := by
  unfold State.learn
  split
  · rename_i y1 y2 y3 y4
    refine Keeps.step ?_ (State.relearn_keeps _ _ _) rfl
    exact Keeps.refl _ _
  · rename_i y5 y6
    refine Keeps.ite ?_ ?_
    · extract_lets x7
      have hx7 : KeepsN 6 s x7 := by
        unfold x7
        refine KeepsN.step ?_ (State.draw_keeps _) rfl
        exact Keeps.refl _ _
      clear_value x7
      refine Keeps.step ?_ (State.relearn_keeps _ _ _) rfl
      refine KeepsN.snd ?_
      assumption
    · exact Keeps.refl _ _

theorem State.until__keeps (s) (z1) : Keeps 1 s (State.until_ s z1) := by
  unfold State.until_
  refine Keeps.setnow (m := 1) _ ?_ (by first | omega | exact Nat.le_max_left _ _ | exact Nat.le_max_right _ _ | exact Nat.le_add_right _ _) rfl
  exact Keeps.refl _ _

theorem State.hlAnswers_keeps (s) : Keeps 167772160 s (State.hlAnswers s) := by
  unfold State.hlAnswers
  refine Keeps.step (m' := 167772160) (t := s) ?_ (by constructor <;> first | exact fun b => Bool.noConfusion b | exact fun _ => rfl | exact rfl | exact Nat.le_refl _ | exact id) rfl
  exact Keeps.refl _ _

theorem State.hlWork_keeps (s) : Keeps 33554432 s (State.hlWork s) := by
  unfold State.hlWork
  refine Keeps.setpwr (m := 33554432) _ ?_ rfl
  exact Keeps.refl _ _

theorem State.raise_keeps (s) (z1) (z2) : Keeps 65536 s (State.raise s z1 z2) := by
  unfold State.raise
  refine Keeps.setfc (m := 65536) _ ?_ id rfl
  exact Keeps.refl _ _

theorem State.raiseIf_keeps (s) (z1) (z2) (z3) : Keeps 65536 s (State.raiseIf s z1 z2 z3) := by
  unfold State.raiseIf
  refine Keeps.ite ?_ ?_
  · refine Keeps.step ?_ (State.raise_keeps _ _ _) rfl
    exact Keeps.refl _ _
  · exact Keeps.refl _ _

theorem State.setFur_keeps (s) (z1) (z2) : Keeps 256 s (State.setFur s z1 z2) := by
  unfold State.setFur
  refine Keeps.setg (m := 256) _ ?_ (kvSet_rises _ _ _ _) id rfl
  exact Keeps.refl _ _

theorem State.setRow_keeps (s) (z1) (z2) : Keeps 8192 s (State.setRow s z1 z2) := by
  unfold State.setRow
  refine Keeps.setdrill (m := 8192) _ ?_ (kvSet_rises _ _ _ _) id rfl
  exact Keeps.refl _ _

theorem State.setPlot_keeps (s : State) (z1 : Nat) (z2 : Plot) (h : s.Inv → z2.Wf) : Keeps 16384 s (State.setPlot s z1 z2) := by
  unfold State.setPlot
  constructor <;> first | exact fun b => Bool.noConfusion b | exact fun _ => rfl | exact rfl | exact Nat.le_refl _ | exact fun i => ⟨i.1, i.2.1, i.2.2.1, i.2.2.2.1, i.2.2.2.2.1, i.2.2.2.2.2.1, i.2.2.2.2.2.2.1.set _ _ (h i), i.2.2.2.2.2.2.2⟩

theorem State.modPlot_keeps (s : State) (z1 : Nat) (z2 : Plot → Plot) (h : ∀ x : Plot, x.Wf → (z2 x).Wf) : Keeps 16384 s (State.modPlot s z1 z2) := by
  exact State.setPlot_keeps _ _ _ (fun i => h _ (State.plot_wf i _))

theorem State.setPort_keeps (s) (z1) (z2) : Keeps 2097152 s (State.setPort s z1 z2) := by
  unfold State.setPort
  refine Keeps.setfab (m := 2097152) _ ?_ (kvSet_rises _ _ _ _) rfl
  exact Keeps.refl _ _

theorem State.setSrc_keeps (s) (z1) (z2) : Keeps 65536 s (State.setSrc s z1 z2) := by
  unfold State.setSrc
  refine Keeps.setfc (m := 65536) _ ?_ (kvSet_rises _ _ _ _) rfl
  exact Keeps.refl _ _

theorem State.setFeed_keeps (s) (z1) (z2) (z3) : Keeps 8192 s (State.setFeed s z1 z2 z3) := by
  unfold State.setFeed
  refine Keeps.setdrill (m := 8192) _ ?_ id (kvSet_rises _ _ _ _) rfl
  exact Keeps.refl _ _

end Sys2Proof.Machine
end

