-- ==== Sys2Proof/Laws/FootCfgSpace.lean ====
section
/-! SUPPORT. The footprints of the operations of Machine/CfgSpace.lean. -/

namespace Sys2Proof.Machine

theorem State.setCfg_keeps (s) (z1) (z2) : Keeps 16 s (State.setCfg s z1 z2) := by
  unfold State.setCfg
  refine Keeps.setcfg (m := 16) _ ?_ (kvSet_rises _ _ _ _) rfl
  exact Keeps.refl _ _

theorem State.orCfg_keeps (s) (z1) (z2) : Keeps 16 s (State.orCfg s z1 z2) := by
  unfold State.orCfg
  refine Keeps.step ?_ (State.setCfg_keeps _ _ _) rfl
  exact Keeps.refl _ _

theorem State.resetCfg_keeps (s) (z1) (z2) : Keeps 16 s (State.resetCfg s z1 z2) := by
  unfold State.resetCfg
  refine Keeps.setcfg (m := 16) _ ?_ (filter_rises _ _) rfl
  exact Keeps.refl _ _

end Sys2Proof.Machine
end

