-- ==== Sys2Proof/Laws/FootHbm.lean ====
section
/-! SUPPORT. The footprints of the operations of Machine/Hbm.lean. -/

namespace Sys2Proof.Machine

theorem State.setHbm_keeps (s : State) (z1 : Store) (h : s.Inv → Memory.wf z1.1 = true ∧ kvWf false z1.2 = true) : Keeps 32896 s (State.setHbm s z1) := by
  constructor <;> first | exact fun b => Bool.noConfusion b | exact fun _ => rfl | exact rfl | exact Nat.le_refl _ | exact fun i => ⟨(h i).1, (h i).2, i.2.2⟩

theorem State.scrubAcre_keeps (s) (z1) : Keeps 33587328 s (State.scrubAcre s z1) := by
  unfold State.scrubAcre
  refine Keeps.ite ?_ ?_
  · extract_lets x1 x2
    have hx1 : Keeps 33587328 s x1 := by
      unfold x1
      refine Keeps.step ?_ (State.setHbm_keeps _ _ (by first | exact fun i => ⟨memZero_wf _ _ _ i.1, memZero_wf _ _ _ i.2.1⟩ | exact fun i => ⟨memWriteEn_wf _ _ _ i.1, markWrite_wf _ _ _ _ i.2.1⟩ | exact fun i => ⟨i.1, by dsimp only; exact kvSet_wf _ _ _ i.2.1⟩ | exact fun i => ⟨foldl_wf _ _ _ (fun _ _ h => kvSet_wf _ _ _ h) (memZero_wf _ _ _ i.1), foldl_wf _ _ _ (fun _ _ h => foldl_wf _ _ _ (fun _ _ h => kvPut_wfFrom _ _ 0 _ (by decide) (Nat.zero_le _) h) h) (memZero_wf _ _ _ i.2.1)⟩)) rfl
      exact Keeps.refl _ _
    clear_value x1
    refine Keeps.setpwr (m := 33587328) _ ?_ rfl
    assumption
  · exact Keeps.refl _ _

theorem State.scrubFor_keeps (s) (z1) (z2) : Keeps 33587328 s (State.scrubFor s z1 z2) := by
  unfold State.scrubFor
  extract_lets x1
  have hx1 : Keeps 33587328 s x1 := by
    unfold x1
    refine Keeps.step ?_ (State.scrubAcre_keeps _ _) rfl
    exact Keeps.refl _ _
  clear_value x1
  refine Keeps.ite ?_ ?_
  · assumption
  · refine Keeps.step ?_ (State.scrubAcre_keeps _ _) rfl
    assumption

theorem State.pendScrub_keeps (s) : Keeps 33554432 s (State.pendScrub s) := by
  unfold State.pendScrub
  refine Keeps.setpwr (m := 33554432) _ ?_ rfl
  exact Keeps.refl _ _

theorem State.hbmWrite_keeps (s) (z1) (z2) (z3) : Keeps 33587328 s (State.hbmWrite s z1 z2 z3) := by
  unfold State.hbmWrite
  extract_lets x1
  have hx1 : Keeps 33587328 s x1 := by
    unfold x1
    refine Keeps.step ?_ (State.scrubFor_keeps _ _ _) rfl
    exact Keeps.refl _ _
  clear_value x1
  refine Keeps.step ?_ (State.setHbm_keeps _ _ (by first | exact fun i => ⟨memZero_wf _ _ _ i.1, memZero_wf _ _ _ i.2.1⟩ | exact fun i => ⟨memWriteEn_wf _ _ _ i.1, markWrite_wf _ _ _ _ i.2.1⟩ | exact fun i => ⟨i.1, by dsimp only; exact kvSet_wf _ _ _ i.2.1⟩ | exact fun i => ⟨foldl_wf _ _ _ (fun _ _ h => kvSet_wf _ _ _ h) (memZero_wf _ _ _ i.1), foldl_wf _ _ _ (fun _ _ h => foldl_wf _ _ _ (fun _ _ h => kvPut_wfFrom _ _ 0 _ (by decide) (Nat.zero_le _) h) h) (memZero_wf _ _ _ i.2.1)⟩)) rfl
  assumption

theorem State.hbmRead_keeps (s) (z1) (z2) : KeepsP 33587328 s (State.hbmRead s z1 z2) := by
  unfold State.hbmRead
  extract_lets x1
  have hx1 : Keeps 33587328 s x1 := by
    unfold x1
    refine Keeps.step ?_ (State.scrubFor_keeps _ _ _) rfl
    exact Keeps.refl _ _
  clear_value x1
  refine KeepsP.mk ?_
  assumption

theorem State.snoops_keeps (s) (z1) (z2) : Keeps 4100 s (State.snoops s z1 z2) := by
  unfold State.snoops
  refine Keeps.ite ?_ ?_
  · exact Keeps.refl _ _
  · extract_lets x1 x2 x3
    refine Keeps.step ?_ (State.bumpBy_keeps _ _ _) rfl
    refine Keeps.setcoh (m := 4100) _ ?_ rfl
    exact Keeps.refl _ _

theorem State.cohAccess_keeps (s) (z1) (z2) (z3) : KeepsP 4100 s (State.cohAccess s z1 z2 z3) := by
  unfold State.cohAccess
  refine KeepsP.ite ?_ ?_
  · refine KeepsP.mk ?_
    refine Keeps.step ?_ (State.snoops_keeps _ _ _) rfl
    exact Keeps.refl _ _
  · extract_lets x1
    refine KeepsP.ite ?_ ?_
    · refine KeepsP.mk ?_
      exact Keeps.refl _ _
    · refine KeepsP.mk ?_
      refine Keeps.step ?_ (State.snoops_keeps _ _ _) rfl
      exact Keeps.refl _ _

theorem State.cohAcres_keeps (s) (z1) (z2) : KeepsP 4100 s (State.cohAcres s z1 z2) := by
  unfold State.cohAcres
  refine KeepsP.ite ?_ ?_
  · refine KeepsP.mk ?_
    refine Keeps.step ?_ (State.snoops_keeps _ _ _) rfl
    exact Keeps.refl _ _
  · extract_lets x1
    refine KeepsP.ite ?_ ?_
    · refine KeepsP.mk ?_
      exact Keeps.refl _ _
    · refine KeepsP.mk ?_
      refine Keeps.step ?_ (State.snoops_keeps _ _ _) rfl
      exact Keeps.refl _ _

theorem storesLoop_keeps (z0) (s) : Keeps 33591428 s (storesLoop z0 s) := by
  induction z0 generalizing s with
  | zero =>
    unfold storesLoop
    exact Keeps.refl _ _
  | succ n ih =>
    unfold storesLoop
    split
    · rename_i y1 y2
      exact Keeps.refl _ _
    · rename_i y3 y4 y5 y6
      refine Keeps.ite ?_ ?_
      · refine Keeps.step ?_ (ih _) rfl
        refine Keeps.step ?_ (State.hbmWrite_keeps _ _ _ _) rfl
        refine Keeps.setcoh (m := 33591428) _ ?_ rfl
        exact Keeps.refl _ _
      · refine Keeps.step ?_ (State.snoops_keeps _ _ _) rfl
        exact Keeps.refl _ _

theorem State.cohStores_keeps (s) : Keeps 33591428 s (State.cohStores s) := by
  unfold State.cohStores
  refine Keeps.step ?_ (storesLoop_keeps _ _) rfl
  exact Keeps.refl _ _

theorem State.hbmStoreAt_keeps (s) (z1) (z2) (z3) : Keeps 33591428 s (State.hbmStoreAt s z1 z2 z3) := by
  unfold State.hbmStoreAt
  refine Keeps.ite ?_ ?_
  · refine Keeps.step ?_ (State.hbmWrite_keeps _ _ _ _) rfl
    exact Keeps.refl _ _
  · refine Keeps.step ?_ (State.cohStores_keeps _) rfl
    refine Keeps.setcoh (m := 33591428) _ ?_ rfl
    exact Keeps.refl _ _

theorem State.setTilth_keeps (s : State) (z1 : Nat) (z2 : Store) (h : s.Inv → Memory.wf z2.1 = true ∧ kvWf false z2.2 = true) : Keeps 16384 s (State.setTilth s z1 z2) := by
  exact State.setPlot_keeps _ _ _ h

theorem State.askPlot_keeps (s) (z1) : Keeps 16384 s (State.askPlot s z1) := by
  unfold State.askPlot
  refine Keeps.ite ?_ ?_
  · refine Keeps.step ?_ (State.modPlot_keeps _ _ _ (by first | exact fun _ h => h | exact fun _ _ => ⟨rfl, rfl⟩ | (intro x h; dsimp only; split <;> exact h) | (intro x h; split <;> exact h) | (intro x h; beta_reduce; split <;> exact h))) rfl
    exact Keeps.refl _ _
  · exact Keeps.refl _ _

end Sys2Proof.Machine
end

