-- ==== Sys2Proof/Laws/FootTx.lean ====
section
/-! SUPPORT. The footprints of the operations of Machine/Tx.lean. -/

namespace Sys2Proof.Machine

theorem State.attn_keeps (s) (z1) : Keeps 8 s (State.attn s z1) := by
  unfold State.attn
  refine Keeps.step ?_ (State.setRg_keeps _ _ _) rfl
  exact Keeps.refl _ _

theorem State.enqueue_keeps (s) (z1) : Keeps 128 s (State.enqueue s z1) := by
  unfold State.enqueue
  refine Keeps.sethost (m := 128) _ ?_ id rfl
  exact Keeps.refl _ _

theorem State.logHeader_keeps (s) (z1) : Keeps 16 s (State.logHeader s z1) := by
  unfold State.logHeader
  refine Keeps.each ?_ ?_
  · exact Keeps.refl _ _
  · intro a1 a2 a3
    refine Keeps.step ?_ (State.setCfg_keeps _ _ _) rfl
    assumption

theorem State.aerCorr_keeps (s) (z1) : Keeps 144 s (State.aerCorr s z1) := by
  unfold State.aerCorr
  extract_lets x1
  have hx1 : Keeps 144 s x1 := by
    unfold x1
    refine Keeps.step ?_ (State.orCfg_keeps _ _ _) rfl
    refine Keeps.step ?_ (State.orCfg_keeps _ _ _) rfl
    exact Keeps.refl _ _
  clear_value x1
  refine Keeps.ite ?_ ?_
  · assumption
  · refine Keeps.step ?_ (State.enqueue_keeps _ _) rfl
    assumption

theorem State.aerFirst_keeps (s) (z1) (z2) : Keeps 16 s (State.aerFirst s z1 z2) := by
  unfold State.aerFirst
  refine Keeps.ite ?_ ?_
  · exact Keeps.refl _ _
  · refine Keeps.step ?_ (State.logHeader_keeps _ _) rfl
    refine Keeps.step ?_ (State.setCfg_keeps _ _ _) rfl
    exact Keeps.refl _ _

theorem State.aerMessage_keeps (s) (z1) (z2) : Keeps 144 s (State.aerMessage s z1 z2) := by
  unfold State.aerMessage
  refine Keeps.ite ?_ ?_
  · exact Keeps.refl _ _
  · refine Keeps.ite ?_ ?_
    · refine Keeps.ite ?_ ?_
      · refine Keeps.step ?_ (State.enqueue_keeps _ _) rfl
        exact Keeps.refl _ _
      · exact Keeps.refl _ _
    · refine Keeps.ite ?_ ?_
      · extract_lets x1
        have hx1 : Keeps 144 s x1 := by
          unfold x1
          refine Keeps.step ?_ (State.enqueue_keeps _ _) rfl
          exact Keeps.refl _ _
        clear_value x1
        refine Keeps.ite ?_ ?_
        · refine Keeps.step ?_ (State.orCfg_keeps _ _ _) rfl
          assumption
        · assumption
      · exact Keeps.refl _ _

theorem State.aer_keeps (s) (z1) (z2) (z3) : Keeps 144 s (State.aer s z1 z2 z3) := by
  unfold State.aer
  extract_lets x1 x2 x3 x4
  clear_value x1
  clear_value x2
  have hx3 : Keeps 144 s x3 := by
    unfold x3
    refine Keeps.step ?_ (State.orCfg_keeps _ _ _) rfl
    exact Keeps.refl _ _
  clear_value x3
  have hx4 : Keeps 144 s x4 := by
    unfold x4
    refine Keeps.ite ?_ ?_
    · refine Keeps.step ?_ (State.orCfg_keeps _ _ _) rfl
      assumption
    · assumption
  clear_value x4
  refine Keeps.ite ?_ ?_
  · assumption
  · refine Keeps.step ?_ (State.aerMessage_keeps _ _ _) rfl
    refine Keeps.step ?_ (State.orCfg_keeps _ _ _) rfl
    refine Keeps.step ?_ (State.aerFirst_keeps _ _ _) rfl
    assumption

theorem State.mmioCapture_keeps (s) (z1) (z2) (z3) (z4) : Keeps 8 s (State.mmioCapture s z1 z2 z3 z4) := by
  unfold State.mmioCapture
  refine Keeps.ite ?_ ?_
  · exact Keeps.refl _ _
  · refine Keeps.step ?_ (State.attn_keeps _ _) rfl
    refine Keeps.step ?_ (State.setRg_keeps _ _ _) rfl
    refine Keeps.step ?_ (State.setRg_keeps _ _ _) rfl
    exact Keeps.refl _ _

theorem State.mmioErr_keeps (s) (z1) (z2) (z3) (z4) : Keeps 65548 s (State.mmioErr s z1 z2 z3 z4) := by
  unfold State.mmioErr
  extract_lets x1 x2 x3
  have hx1 : Keeps 65548 s x1 := by
    unfold x1
    refine Keeps.step ?_ (State.raise_keeps _ _ _) rfl
    exact Keeps.refl _ _
  clear_value x1
  have hx2 : Keeps 65548 s x2 := by
    unfold x2
    refine Keeps.step ?_ (State.bumpRg_keeps _ _ _ _) rfl
    assumption
  clear_value x2
  have hx3 : Keeps 65548 s x3 := by
    unfold x3
    refine Keeps.ite ?_ ?_
    · refine Keeps.step ?_ (State.bump_keeps _ _) rfl
      assumption
    · assumption
  clear_value x3
  refine Keeps.step ?_ (State.mmioCapture_keeps _ _ _ _ _) rfl
  assumption

theorem State.valueErr_keeps (s) (z1) (z2) (z3) : Keeps 65548 s (State.valueErr s z1 z2 z3) := by
  unfold State.valueErr
  refine Keeps.step ?_ (State.mmioErr_keeps _ _ _ _ _) rfl
  exact Keeps.refl _ _

theorem State.left_keeps (s) (z1) : Keeps 65940 s (State.left s z1) := by
  unfold State.left
  extract_lets x1 x2 x3 x4 x5
  have hx1 : Keeps 65940 s x1 := by
    unfold x1
    refine Keeps.ite ?_ ?_
    · refine Keeps.step ?_ (State.bump_keeps _ _) rfl
      exact Keeps.refl _ _
    · exact Keeps.refl _ _
  clear_value x1
  have hx2 : Keeps 65940 s x2 := by
    unfold x2
    refine Keeps.ite ?_ ?_
    · refine Keeps.step ?_ (State.orCfg_keeps _ _ _) rfl
      assumption
    · assumption
  clear_value x2
  have hx4 : Keeps 65940 s x4 := by
    unfold x4
    refine Keeps.sethost (m := 65940) _ ?_ id rfl
    assumption
  clear_value x4
  split
  · rename_i y6 y7 y8
    refine Keeps.step ?_ (State.setFur_keeps _ _ _) rfl
    assumption
  · rename_i y9 y10 y11
    split
    · rename_i y12 y13 y14
      extract_lets x15
      have hx15 : Keeps 65940 s x15 := by
        unfold x15
        refine Keeps.setfc (m := 65940) _ ?_ id rfl
        assumption
      clear_value x15
      refine Keeps.step ?_ (State.bump_keeps _ _) rfl
      assumption
    · rename_i y16 y17
      assumption
  · rename_i y18 y19 y20
    assumption

theorem leavePass_keeps (s) (z1) (z2) (z3) (z4) : KeepsP 65940 s (leavePass s z1 z2 z3 z4) := by
  induction z1 generalizing s z2 z3 z4 with
  | nil =>
    unfold leavePass
    refine KeepsP.mk ?_
    exact Keeps.refl _ _
  | cons x l ih =>
    unfold leavePass
    extract_lets x1 x2 x3 x4 x5
    clear_value x1
    clear_value x2
    have hx3 : KeepsP 65940 s x3 := by
      unfold x3
      refine KeepsP.step ?_ (ih _ _ _ _) rfl
      exact Keeps.refl _ _
    clear_value x3
    have hx5 : Keeps 65940 s x5 := by
      unfold x5
      refine Keeps.ite ?_ ?_
      · exact Keeps.refl _ _
      · refine Keeps.ite ?_ ?_
        · refine Keeps.sethost (m := 65940) _ ?_ id rfl
          exact Keeps.refl _ _
        · refine Keeps.sethost (m := 65940) _ ?_ id rfl
          exact Keeps.refl _ _
    clear_value x5
    refine KeepsP.ite ?_ ?_
    · refine KeepsP.mk ?_
      refine KeepsP.fst ?_
      assumption
    · refine KeepsP.step ?_ (ih _ _ _ _) rfl
      refine Keeps.step ?_ (State.left_keeps _ _) rfl
      assumption

theorem State.drain_keeps (s) : Keeps 65940 s (State.drain s) := by
  unfold State.drain
  extract_lets x1 x2
  have hx1 : ∀ a3, Keeps 65940 s a3 → Keeps 65940 s (x1 a3) := by
    unfold x1
    intro a4 a5
    extract_lets x6 x7 x8 x9 x10 x11 x12
    have hx7 : KeepsP 65940 s x7 := by
      unfold x7
      refine KeepsP.step ?_ (leavePass_keeps _ _ _ _ _) rfl
      refine Keeps.sethost (m := 65940) _ ?_ id rfl
      assumption
    clear_value x7
    have hx8 : Keeps 65940 s x8 := by
      unfold x8
      refine KeepsP.fst ?_
      assumption
    have hx10 : Keeps 65940 s x10 := by
      unfold x10
      refine Keeps.sethost (m := 65940) _ ?_ id rfl
      assumption
    clear_value x10
    refine Keeps.sethost (m := 65940) _ ?_ id rfl
    assumption
  clear_value x1
  have hx2 : Keeps 65940 s x2 := by
    unfold x2
    refine hx1 _ ?_
    exact Keeps.refl _ _
  clear_value x2
  refine Keeps.ite ?_ ?_
  · refine Keeps.ite ?_ ?_
    · assumption
    · refine hx1 _ ?_
      assumption
  · refine hx1 _ ?_
    refine hx1 _ ?_
    assumption

theorem State.post_keeps (s) (z1) : Keeps 65940 s (State.post s z1) := by
  unfold State.post
  refine Keeps.ite ?_ ?_
  · exact Keeps.refl _ _
  · extract_lets x1 x2 x3
    have hx3 : Keeps 65940 s x3 := by
      unfold x3
      refine Keeps.ite ?_ ?_
      · refine Keeps.sethost (m := 65940) _ ?_ id rfl
        exact Keeps.refl _ _
      · refine Keeps.sethost (m := 65940) _ ?_ id rfl
        exact Keeps.refl _ _
    clear_value x3
    refine Keeps.step ?_ (State.drain_keeps _) rfl
    assumption

theorem State.message_keeps (s) (z1) : Keeps 65940 s (State.message s z1) := by
  unfold State.message
  refine Keeps.step ?_ (State.drain_keeps _) rfl
  refine Keeps.step ?_ (State.enqueue_keeps _ _) rfl
  exact Keeps.refl _ _

theorem State.discardPosted_keeps (s) : KeepsP 128 s (State.discardPosted s) := by
  unfold State.discardPosted
  extract_lets x1 x2
  clear_value x1
  refine KeepsP.mk ?_
  refine Keeps.sethost (m := 128) _ ?_ id rfl
  exact Keeps.refl _ _

theorem State.request_keeps (s) (z1) (z2) : KeepsR 65940 s (State.request s z1 z2) := by
  unfold State.request
  refine KeepsR.ite ?_ ?_
  · exact KeepsR.none
  · refine KeepsR.ite ?_ ?_
    · exact KeepsR.none
    · split
      · rename_i y1 y2
        exact KeepsR.none
      · rename_i y3 y4 y5
        extract_lets x6 x7 x8
        have hx8 : Keeps 65940 s x8 := by
          unfold x8
          refine Keeps.sethost (m := 65940) _ ?_ id rfl
          exact Keeps.refl _ _
        clear_value x8
        refine KeepsR.some ?_
        refine KeepsN.mk ?_
        refine Keeps.step ?_ (State.drain_keeps _) rfl
        refine Keeps.step ?_ (State.enqueue_keeps _ _) rfl
        assumption

theorem State.freeTagUse_keeps (s) (z1) : Keeps 128 s (State.freeTagUse s z1) := by
  unfold State.freeTagUse
  refine Keeps.sethost (m := 128) _ ?_ id rfl
  exact Keeps.refl _ _

theorem State.setTag_keeps (s) (z1) (z2) : Keeps 128 s (State.setTag s z1 z2) := by
  unfold State.setTag
  refine Keeps.sethost (m := 128) _ ?_ id rfl
  exact Keeps.refl _ _

theorem State.lateCompletion_keeps (s) (z1) (z2) : Keeps 132 s (State.lateCompletion s z1 z2) := by
  unfold State.lateCompletion
  extract_lets x1
  have hx1 : Keeps 132 s x1 := by
    unfold x1
    refine Keeps.step ?_ (State.bump_keeps _ _) rfl
    exact Keeps.refl _ _
  clear_value x1
  refine Keeps.ite ?_ ?_
  · refine Keeps.step ?_ (State.freeTagUse_keeps _ _) rfl
    assumption
  · assumption

theorem State.abandonTags_keeps (s) : Keeps 128 s (State.abandonTags s) := by
  unfold State.abandonTags
  refine Keeps.sethost (m := 128) _ ?_ id rfl
  exact Keeps.refl _ _

theorem State.readFails_keeps (s) (z1) (z2) : Keeps 65692 s (State.readFails s z1 z2) := by
  unfold State.readFails
  refine Keeps.step ?_ (State.attn_keeps _ _) rfl
  split
  · rename_i y1
    refine Keeps.step ?_ (State.orCfg_keeps _ _ _) rfl
    refine Keeps.step ?_ (State.bump_keeps _ _) rfl
    exact Keeps.refl _ _
  · rename_i y2
    refine Keeps.step ?_ (State.orCfg_keeps _ _ _) rfl
    refine Keeps.step ?_ (State.bump_keeps _ _) rfl
    exact Keeps.refl _ _
  · rename_i y3
    refine Keeps.step ?_ (State.aer_keeps _ _ _ _) rfl
    refine Keeps.step ?_ (State.raise_keeps _ _ _) rfl
    refine Keeps.step ?_ (State.bump_keeps _ _) rfl
    exact Keeps.refl _ _

theorem State.hostReadFails_keeps (s) (z1) (z2) : Keeps 65693 s (State.hostReadFails s z1 z2) := by
  unfold State.hostReadFails
  split
  · rename_i y1 y2 y3 y4
    extract_lets x5 x6 x7
    have hx5 : Keeps 65693 s x5 := by
      unfold x5
      refine Keeps.step ?_ (State.until__keeps _ _) rfl
      exact Keeps.refl _ _
    clear_value x5
    refine Keeps.step ?_ (State.readFails_keeps _ _ _) rfl
    refine Keeps.sethost (m := 65693) _ ?_ id rfl
    assumption
  · rename_i y8 y9 y10 y11
    refine Keeps.step ?_ (State.readFails_keeps _ _ _) rfl
    exact Keeps.refl _ _

theorem State.completeData_keeps (s) (z1) (z2) (z3) : Keeps 65940 s (State.completeData s z1 z2 z3) := by
  unfold State.completeData
  refine Keeps.step ?_ (State.drain_keeps _) rfl
  refine Keeps.step ?_ (State.enqueue_keeps _ _) rfl
  exact Keeps.refl _ _

theorem State.completeMarked_keeps (s) (z1) (z2) : Keeps 65940 s (State.completeMarked s z1 z2) := by
  unfold State.completeMarked
  refine Keeps.step ?_ (State.drain_keeps _) rfl
  refine Keeps.foldl ?_ ?_
  · exact Keeps.refl _ _
  · intro a1 a2 a3
    refine Keeps.step ?_ (State.enqueue_keeps _ _) rfl
    assumption

theorem State.unsupported_keeps (s) (z1) (z2) : Keeps 65940 s (State.unsupported s z1 z2) := by
  unfold State.unsupported
  extract_lets x1 x2
  have hx1 : Keeps 65940 s x1 := by
    unfold x1
    refine Keeps.step ?_ (State.raise_keeps _ _ _) rfl
    refine Keeps.step ?_ (State.bump_keeps _ _) rfl
    exact Keeps.refl _ _
  clear_value x1
  refine Keeps.ite ?_ ?_
  · refine Keeps.step ?_ (State.aer_keeps _ _ _ _) rfl
    refine Keeps.step ?_ (State.bump_keeps _ _) rfl
    assumption
  · refine Keeps.step ?_ (State.drain_keeps _) rfl
    refine Keeps.step ?_ (State.enqueue_keeps _ _) rfl
    refine Keeps.step ?_ (State.aer_keeps _ _ _ _) rfl
    assumption

theorem State.completerAbort_keeps (s) (z1) (z2) : Keeps 65940 s (State.completerAbort s z1 z2) := by
  unfold State.completerAbort
  extract_lets x1 x2
  have hx1 : Keeps 65940 s x1 := by
    unfold x1
    refine Keeps.step ?_ (State.orCfg_keeps _ _ _) rfl
    refine Keeps.step ?_ (State.raise_keeps _ _ _) rfl
    refine Keeps.step ?_ (State.bump_keeps _ _) rfl
    exact Keeps.refl _ _
  clear_value x1
  have hx2 : Keeps 65940 s x2 := by
    unfold x2
    refine Keeps.step ?_ (State.aer_keeps _ _ _ _) rfl
    assumption
  clear_value x2
  refine Keeps.ite ?_ ?_
  · assumption
  · refine Keeps.step ?_ (State.drain_keeps _) rfl
    refine Keeps.step ?_ (State.enqueue_keeps _ _) rfl
    assumption

theorem State.malformed_keeps (s) (z1) : Keeps 65684 s (State.malformed s z1) := by
  unfold State.malformed
  refine Keeps.step ?_ (State.aer_keeps _ _ _ _) rfl
  refine Keeps.step ?_ (State.raise_keeps _ _ _) rfl
  refine Keeps.step ?_ (State.bump_keeps _ _) rfl
  exact Keeps.refl _ _

theorem State.deassert_keeps (s) : Keeps 65940 s (State.deassert s) := by
  unfold State.deassert
  refine Keeps.ite ?_ ?_
  · refine Keeps.step ?_ (State.message_keeps _ _) rfl
    refine Keeps.sethost (m := 65940) _ ?_ id rfl
    exact Keeps.refl _ _
  · exact Keeps.refl _ _

theorem State.leaveL1_keeps (s) : Keeps 68 s (State.leaveL1 s) := by
  unfold State.leaveL1
  refine Keeps.step ?_ (State.bump_keeps _ _) rfl
  refine Keeps.setlink (m := 68) _ ?_ rfl
  exact Keeps.refl _ _

theorem State.assert_keeps (s) : Keeps 66012 s (State.assert s) := by
  unfold State.assert
  refine Keeps.ite ?_ ?_
  · extract_lets x1 x2 x3
    have hx1 : Keeps 66012 s x1 := by
      unfold x1
      refine Keeps.ite ?_ ?_
      · refine Keeps.step ?_ (State.leaveL1_keeps _) rfl
        exact Keeps.refl _ _
      · exact Keeps.refl _ _
    clear_value x1
    have hx2 : Keeps 66012 s x2 := by
      unfold x2
      refine Keeps.step ?_ (State.bumpRg_keeps _ _ _ _) rfl
      assumption
    clear_value x2
    refine Keeps.step ?_ (State.message_keeps _ _) rfl
    refine Keeps.sethost (m := 66012) _ ?_ id rfl
    assumption
  · exact Keeps.refl _ _

end Sys2Proof.Machine
end

