-- ==== Sys2Proof/Laws/FootStake.lean ====
section
/-! SUPPORT. The footprints of the operations of Machine/Stake.lean. -/

namespace Sys2Proof.Machine

theorem State.modSlot_keeps (s) (z1) (z2) (z3) : Keeps 256 s (State.modSlot s z1 z2 z3) := by
  unfold State.modSlot
  refine Keeps.setg (m := 256) _ ?_ id id rfl
  exact Keeps.refl _ _

theorem State.dropSlot_keeps (s) (z1) (z2) : Keeps 256 s (State.dropSlot s z1 z2) := by
  unfold State.dropSlot
  refine Keeps.setg (m := 256) _ ?_ id id rfl
  exact Keeps.refl _ _

theorem State.queueTimeout_keeps (s) (z1) : Keeps 268 s (State.queueTimeout s z1) := by
  unfold State.queueTimeout
  refine Keeps.ite ?_ ?_
  · exact Keeps.refl _ _
  · refine Keeps.step ?_ (State.bump_keeps _ _) rfl
    refine Keeps.step ?_ (State.attn_keeps _ _) rfl
    refine Keeps.setg (m := 268) _ ?_ id id rfl
    exact Keeps.refl _ _

theorem State.queueMore_keeps (s) : Keeps 268 s (State.queueMore s) := by
  unfold State.queueMore
  refine Keeps.ite ?_ ?_
  · exact Keeps.refl _ _
  · refine Keeps.each ?_ ?_
    · exact Keeps.refl _ _
    · intro a1 a2 a3
      refine Keeps.step ?_ (State.queueTimeout_keeps _ _) rfl
      assumption

theorem State.requeue_keeps {m : Nat} {s0 : State} (z0 : Sys2Proof.Machine.State) (z1 : Sys2Proof.Machine.State) (hz0 : Keeps m s0 z0) (hz1 : Keeps m s0 z1) (e : 268 &&& m = 268) : Keeps m s0 (State.requeue z0 z1) := by
  unfold State.requeue
  refine Keeps.ite ?_ ?_
  · refine Keeps.step ?_ (State.queueMore_keeps _) (sub_mask rfl e)
    assumption
  · assumption

theorem State.compareWaits_keeps (s) (z1) : Keeps 268 s (State.compareWaits s z1) := by
  unfold State.compareWaits
  extract_lets x1 x2 x3 x4
  clear_value x1
  have hx3 : Keeps 268 s x3 := by
    unfold x3
    refine Keeps.step ?_ (State.bumpBy_keeps _ _ _) rfl
    exact Keeps.refl _ _
  clear_value x3
  refine Keeps.ite ?_ ?_
  · exact Keeps.refl _ _
  · refine State.requeue_keeps _ _ ?_ ?_ rfl
    · assumption
    · refine Keeps.setg (m := 268) _ ?_ id id rfl
      assumption

theorem State.putStake_keeps (s) (z1) (z2) : Keeps 268 s (State.putStake s z1 z2) := by
  unfold State.putStake
  extract_lets x1 x2
  have hx1 : Keeps 268 s x1 := by
    unfold x1
    refine Keeps.step ?_ (State.bump_keeps _ _) rfl
    exact Keeps.refl _ _
  clear_value x1
  refine Keeps.step ?_ (State.compareWaits_keeps _ _) rfl
  refine Keeps.setg (m := 268) _ ?_ id (kvSet_rises _ _ _ _) rfl
  assumption

theorem State.stakeSetOp_keeps (s) (z1) (z2) : Keeps 268 s (State.stakeSetOp s z1 z2) := by
  unfold State.stakeSetOp
  refine Keeps.step ?_ (State.putStake_keeps _ _ _) rfl
  exact Keeps.refl _ _

theorem State.stakeAddOp_keeps (s) (z1) (z2) (z3) : Keeps 65804 s (State.stakeAddOp s z1 z2 z3) := by
  unfold State.stakeAddOp
  extract_lets x1 x2 x3 x4
  have hx2 : Keeps 65804 s x2 := by
    unfold x2
    refine Keeps.step ?_ (State.bump_keeps _ _) rfl
    refine Keeps.step ?_ (State.raise_keeps _ _ _) rfl
    exact Keeps.refl _ _
  clear_value x2
  have hx4 : Keeps 65804 s x4 := by
    unfold x4
    refine Keeps.ite ?_ ?_
    · exact Keeps.refl _ _
    · refine Keeps.ite ?_ ?_
      · assumption
      · refine Keeps.setg (m := 65804) _ ?_ id id rfl
        assumption
  clear_value x4
  refine Keeps.step ?_ (State.putStake_keeps _ _ _) rfl
  assumption

theorem State.placeWait_keeps (s) (z1) (z2) (z3) (z4) : KeepsS 268 s (State.placeWait s z1 z2 z3 z4) := by
  unfold State.placeWait
  split
  · rename_i y1 y2
    exact KeepsS.none
  · rename_i y3 y4 y5
    extract_lets x6 x7 x8 x9 x10 x11
    have hx10 : Keeps 268 s x10 := by
      unfold x10
      refine Keeps.setg (m := 268) _ ?_ id id rfl
      exact Keeps.refl _ _
    have hx11 : Keeps 268 s x11 := by
      unfold x11
      refine Keeps.ite ?_ ?_
      · refine Keeps.step ?_ (State.setVal_keeps _ _ _) rfl
        assumption
      · assumption
    clear_value x11
    refine KeepsS.some ?_
    refine Keeps.step ?_ (State.compareWaits_keeps _ _) rfl
    assumption

theorem State.withdraw_keeps (s) (z1) : Keeps 268 s (State.withdraw s z1) := by
  unfold State.withdraw
  extract_lets x1 x2
  refine State.requeue_keeps _ _ ?_ ?_ rfl
  · exact Keeps.refl _ _
  · refine Keeps.setg (m := 268) _ ?_ id id rfl
    exact Keeps.refl _ _

theorem State.furrowFail_keeps (s) (z1) (z2) (z3) : Keeps 264 s (State.furrowFail s z1 z2 z3) := by
  unfold State.furrowFail
  extract_lets x1
  split
  · rename_i y2 y3
    refine Keeps.step ?_ (State.attn_keeps _ _) rfl
    refine Keeps.step ?_ (State.setFur_keeps _ _ _) rfl
    exact Keeps.refl _ _
  · rename_i y4 y5
    refine Keeps.step ?_ (State.attn_keeps _ _) rfl
    refine Keeps.step ?_ (State.setFur_keeps _ _ _) rfl
    exact Keeps.refl _ _
  · rename_i y6 y7
    refine Keeps.ite ?_ ?_
    · refine Keeps.step ?_ (State.attn_keeps _ _) rfl
      refine Keeps.step ?_ (State.setFur_keeps _ _ _) rfl
      exact Keeps.refl _ _
    · exact Keeps.refl _ _
  · rename_i y8 y9 y10 y11
    exact Keeps.refl _ _

theorem State.writeTarget_keeps (s) (z1) (z2) (z3) (z4) (z5) : Keeps 33673620 s (State.writeTarget s z1 z2 z3 z4 z5) := by
  unfold State.writeTarget
  split
  · rename_i y1 y2
    refine Keeps.step ?_ (State.post_keeps _ _) rfl
    exact Keeps.refl _ _
  · rename_i y3 y4
    refine Keeps.step ?_ (State.hbmStoreAt_keeps _ _ _ _) rfl
    exact Keeps.refl _ _
  · rename_i y5 y6 y7
    refine Keeps.step ?_ (State.setTilth_keeps _ _ _ (by first | exact fun i => ⟨memWriteEn_wf _ _ _ (State.plot_wf i _).1, markWrite_wf _ _ _ _ (State.plot_wf i _).2⟩ | exact fun i => ⟨memZero_wf _ _ _ (State.plot_wf i _).1, memZero_wf _ _ _ (State.plot_wf i _).2⟩ | exact fun i => ⟨(State.plot_wf i _).1, by dsimp only; exact kvSet_wf _ _ _ (State.plot_wf i _).2⟩)) rfl
    exact Keeps.refl _ _

theorem State.signal_keeps (s) (z1) (z2) (z3) (z4) : KeepsP 65804 s (State.signal s z1 z2 z3 z4) := by
  unfold State.signal
  refine KeepsP.ite ?_ ?_
  · refine KeepsP.mk ?_
    refine Keeps.ite ?_ ?_
    · refine Keeps.step ?_ (State.stakeSetOp_keeps _ _ _) rfl
      exact Keeps.refl _ _
    · refine Keeps.step ?_ (State.stakeAddOp_keeps _ _ _ _) rfl
      exact Keeps.refl _ _
  · refine KeepsP.mk ?_
    exact Keeps.refl _ _

theorem State.countDone_keeps (s) (z1) (z2) : Keeps 4 s (State.countDone s z1 z2) := by
  unfold State.countDone
  split
  · rename_i y1
    refine Keeps.step ?_ (State.bump_keeps _ _) rfl
    exact Keeps.refl _ _
  · rename_i y2
    refine Keeps.ite ?_ ?_
    · refine Keeps.step ?_ (State.bump_keeps _ _) rfl
      exact Keeps.refl _ _
    · refine Keeps.step ?_ (State.bump_keeps _ _) rfl
      refine Keeps.step ?_ (State.bump_keeps _ _) rfl
      exact Keeps.refl _ _
  · rename_i y3 y4 y5
    exact Keeps.refl _ _

theorem State.finish_keeps (s) (z1) (z2) (z3) (z4) (z5) : Keeps 33673628 s (State.finish s z1 z2 z3 z4 z5) := by
  unfold State.finish
  split
  · rename_i y1 y2
    exact Keeps.refl _ _
  · rename_i y3 y4 y5
    extract_lets x6 x7 x8 x9 x10 x11 x12
    clear_value x6
    clear_value x8
    clear_value x9
    clear_value x10
    have hx11 : KeepsP 33673628 s x11 := by
      unfold x11
      refine KeepsP.step ?_ (State.signal_keeps _ _ _ _ _) rfl
      exact Keeps.refl _ _
    clear_value x11
    clear_value x12
    split
    rename_i y13 y14 y15 y16
    have h17 : Keeps 33673628 s y14 := by
      refine KeepsP.ofEq ?_ y16
      refine KeepsP.ite ?_ ?_
      · refine KeepsP.mk ?_
        refine KeepsP.fst ?_
        assumption
      · refine KeepsP.mk ?_
        exact Keeps.refl _ _
    extract_lets x18 x19 x20 x21
    have hx18 : Keeps 33673628 s x18 := by
      unfold x18
      refine Keeps.ite ?_ ?_
      · split
        · rename_i y22 y23 y24
          refine Keeps.step ?_ (State.bump_keeps _ _) rfl
          refine Keeps.step ?_ (State.writeTarget_keeps _ _ _ _ _ _) rfl
          assumption
        · rename_i y25 y26
          assumption
      · assumption
    clear_value x18
    have hx19 : Keeps 33673628 s x19 := by
      unfold x19
      refine Keeps.ite ?_ ?_
      · split
        · rename_i y27 y28 y29
          refine Keeps.step ?_ (State.bump_keeps _ _) rfl
          refine Keeps.step ?_ (State.writeTarget_keeps _ _ _ _ _ _) rfl
          assumption
        · rename_i y30 y31
          assumption
      · assumption
    clear_value x19
    have hx20 : Keeps 33673628 s x20 := by
      unfold x20
      refine Keeps.step ?_ (State.countDone_keeps _ _ _) rfl
      refine Keeps.step ?_ (State.dropSlot_keeps _ _ _) rfl
      assumption
    clear_value x20
    have hx21 : Keeps 33673628 s x21 := by
      unfold x21
      refine Keeps.step ?_ (State.bump_keeps _ _) rfl
      assumption
    clear_value x21
    refine Keeps.ite ?_ ?_
    · assumption
    · refine Keeps.ite ?_ ?_
      · refine Keeps.step ?_ (State.furrowFail_keeps _ _ _ _) rfl
        assumption
      · refine Keeps.ite ?_ ?_
        · assumption
        · refine Keeps.step ?_ (State.furrowFail_keeps _ _ _ _) rfl
          assumption

theorem State.half_keeps (s) (z1) (z2) : Keeps 33673628 s (State.half s z1 z2) := by
  unfold State.half
  split
  · rename_i y1 y2
    exact Keeps.refl _ _
  · rename_i y3 y4 y5
    refine Keeps.ite ?_ ?_
    · exact Keeps.refl _ _
    · extract_lets x6 x7 x8 x9
      clear_value x6
      have hx7 : Keeps 33673628 s x7 := by
        unfold x7
        refine Keeps.step ?_ (State.modSlot_keeps _ _ _ _) rfl
        exact Keeps.refl _ _
      clear_value x7
      have hx8 : KeepsP 33673628 s x8 := by
        unfold x8
        refine KeepsP.step ?_ (State.signal_keeps _ _ _ _ _) rfl
        assumption
      clear_value x8
      have hx9 : Keeps 33673628 s x9 := by
        unfold x9
        refine Keeps.ite ?_ ?_
        · refine Keeps.ite ?_ ?_
          · refine KeepsP.fst ?_
            assumption
          · refine Keeps.step ?_ (State.modSlot_keeps _ _ _ _) rfl
            refine KeepsP.fst ?_
            assumption
        · assumption
      clear_value x9
      refine Keeps.ite ?_ ?_
      · split
        · rename_i y10 y11 y12
          refine Keeps.step ?_ (State.bump_keeps _ _) rfl
          refine Keeps.step ?_ (State.writeTarget_keeps _ _ _ _ _ _) rfl
          assumption
        · rename_i y13 y14
          assumption
      · assumption

theorem State.releaseOne_keeps (s) (z1) : Keeps 33681820 s (State.releaseOne s z1) := by
  unfold State.releaseOne
  extract_lets x1
  have hx1 : ∀ a2 a3, Keeps 33681820 s (x1 a2 a3) := by
    unfold x1
    intro a4 a5
    refine Keeps.step ?_ (State.modSlot_keeps _ _ _ _) rfl
    exact Keeps.refl _ _
  clear_value x1
  split
  · rename_i y6 y7 y8 y9
    refine hx1 _ _
  · rename_i y10 y11 y12 y13
    refine Keeps.ite ?_ ?_
    · refine Keeps.step ?_ (State.finish_keeps _ _ _ _ _ _) rfl
      exact Keeps.refl _ _
    · refine hx1 _ _
  · rename_i y14 y15 y16 y17
    refine Keeps.step ?_ (State.modPlot_keeps _ _ _ (by first | exact fun _ h => h | exact fun _ _ => ⟨rfl, rfl⟩ | (intro x h; dsimp only; split <;> exact h) | (intro x h; split <;> exact h) | (intro x h; beta_reduce; split <;> exact h))) rfl
    exact Keeps.refl _ _
  · rename_i y18 y19 y20
    refine Keeps.step ?_ (State.setRow_keeps _ _ _) rfl
    exact Keeps.refl _ _

theorem releaseLoop_keeps (z0) (s) : Keeps 33681820 s (releaseLoop z0 s) := by
  induction z0 generalizing s with
  | zero =>
    unfold releaseLoop
    exact Keeps.refl _ _
  | succ n ih =>
    unfold releaseLoop
    split
    · rename_i y1 y2
      exact Keeps.refl _ _
    · rename_i y3 y4 y5 y6
      refine Keeps.step ?_ (ih _) rfl
      refine Keeps.step ?_ (State.releaseOne_keeps _ _) rfl
      refine Keeps.setg (m := 33681820) _ ?_ id id rfl
      exact Keeps.refl _ _

theorem State.releaseWaits_keeps (s) : Keeps 33681820 s (State.releaseWaits s) := by
  unfold State.releaseWaits
  refine Keeps.step ?_ (releaseLoop_keeps _ _) rfl
  exact Keeps.refl _ _

theorem State.clearStakes_keeps (s) : Keeps 264 s (State.clearStakes s) := by
  unfold State.clearStakes
  extract_lets x1 x2
  have hx1 : Keeps 264 s x1 := by
    unfold x1
    refine Keeps.step ?_ (State.resetRegs_keeps _ _ _) rfl
    exact Keeps.refl _ _
  clear_value x1
  refine Keeps.setg (m := 264) _ ?_ id (fun _ => rfl) rfl
  assumption

end Sys2Proof.Machine
end

