-- ==== Sys2Proof/Laws/FootPlat.lean ====
section
/-! SUPPORT. The footprints of the operations of Machine/Plat.lean. -/

namespace Sys2Proof.Machine

theorem State.failStream_keeps (s) (z1) (z2) (z3) (z4) : Keeps 26880 s (State.failStream s z1 z2 z3 z4) := by
  unfold State.failStream
  split
  · rename_i y1 y2 y3
    refine Keeps.step ?_ (State.modSlot_keeps _ _ _ _) rfl
    exact Keeps.refl _ _
  · rename_i y4 y5 y6 y7
    refine Keeps.step ?_ (State.setRow_keeps _ _ _) rfl
    exact Keeps.refl _ _
  · rename_i y8 y9
    refine Keeps.step ?_ (State.modPlot_keeps _ _ _ (by first | exact fun _ h => h | exact fun _ _ => ⟨rfl, rfl⟩ | (intro x h; dsimp only; split <;> exact h) | (intro x h; split <;> exact h) | (intro x h; beta_reduce; split <;> exact h))) rfl
    exact Keeps.refl _ _
  · rename_i y10 y11
    exact Keeps.refl _ _
  · rename_i y12 y13
    exact Keeps.refl _ _
  · rename_i y14 y15
    refine Keeps.setmig (m := 26880) _ ?_ rfl
    exact Keeps.refl _ _

theorem State.deny_keeps (s) : Keeps 4 s (State.deny s) := by
  unfold State.deny
  refine Keeps.step ?_ (State.bump_keeps _ _) rfl
  exact Keeps.refl _ _

theorem State.stallFault_keeps (s) (z1) : Keeps 1028 s (State.stallFault s z1) := by
  unfold State.stallFault
  split
  · rename_i y1 y2 y3
    extract_lets x4 x5
    have hx4 : Keeps 1028 s x4 := by
      unfold x4
      refine Keeps.step ?_ (State.bump_keeps _ _) rfl
      exact Keeps.refl _ _
    clear_value x4
    refine Keeps.setflt (m := 1028) _ ?_ rfl
    assumption
  · rename_i y6 y7
    split
    · rename_i y8 y9
      refine Keeps.setflt (m := 1028) _ ?_ rfl
      exact Keeps.refl _ _
    · rename_i y10 y11 y12
      extract_lets x13 x14 x15
      have hx14 : Keeps 1028 s x14 := by
        unfold x14
        refine Keeps.step ?_ (State.bump_keeps _ _) rfl
        exact Keeps.refl _ _
      clear_value x14
      refine Keeps.setflt (m := 1028) _ ?_ rfl
      assumption

theorem State.fault_keeps (s) (z1) (z2) (z3) (z4) (z5) (z6) (z7) : Keeps 27908 s (State.fault s z1 z2 z3 z4 z5 z6 z7) := by
  unfold State.fault
  refine Keeps.ite ?_ ?_
  · refine Keeps.step ?_ (State.bump_keeps _ _) rfl
    refine Keeps.step ?_ (State.failStream_keeps _ _ _ _ _) rfl
    exact Keeps.refl _ _
  · refine Keeps.step ?_ (State.stallFault_keeps _ _) rfl
    exact Keeps.refl _ _

theorem State.reapFaults_keeps (s) : Keeps 1028 s (State.reapFaults s) := by
  unfold State.reapFaults
  extract_lets x1 x2 x3 x4 x5 x6
  clear_value x1
  have hx6 : Keeps 1028 s x6 := by
    unfold x6
    refine Keeps.setflt (m := 1028) _ ?_ rfl
    exact Keeps.refl _ _
  clear_value x6
  refine Keeps.foldl ?_ ?_
  · assumption
  · intro a7 a8 a9
    refine Keeps.step ?_ (State.stallFault_keeps _ _) rfl
    assumption

theorem State.resolve_keeps (s) (z1) (z2) (z3) : Keeps 27908 s (State.resolve s z1 z2 z3) := by
  unfold State.resolve
  split
  · rename_i y1 y2
    exact Keeps.refl _ _
  · rename_i y3 y4 y5
    extract_lets x6 x7
    have hx6 : Keeps 27908 s x6 := by
      unfold x6
      split
      · rename_i y8
        exact Keeps.refl _ _
      · rename_i y9
        refine Keeps.each ?_ ?_
        · exact Keeps.refl _ _
        · intro a10 a11 a12
          refine Keeps.step ?_ (State.failStream_keeps _ _ _ _ _) rfl
          assumption
      · rename_i y13
        refine Keeps.each ?_ ?_
        · exact Keeps.refl _ _
        · intro a14 a15 a16
          refine Keeps.step ?_ (State.failStream_keeps _ _ _ _ _) rfl
          assumption
    clear_value x6
    refine Keeps.step ?_ (State.reapFaults_keeps _) rfl
    refine Keeps.setflt (m := 27908) _ ?_ rfl
    assumption

theorem State.failIdleFaults_keeps (s) : Keeps 27908 s (State.failIdleFaults s) := by
  unfold State.failIdleFaults
  refine Keeps.each ?_ ?_
  · exact Keeps.refl _ _
  · intro a1 a2 a3
    refine Keeps.step ?_ (State.resolve_keeps _ _ _ _) rfl
    assumption

theorem State.install_keeps (s) (z1) : Keeps 512 s (State.install s z1) := by
  unfold State.install
  refine Keeps.setplat (m := 512) _ ?_ rfl
  exact Keeps.refl _ _

theorem State.takeSlot_keeps (s) (z1) : Keeps 516 s (State.takeSlot s z1) := by
  unfold State.takeSlot
  extract_lets x1 x2 x3
  clear_value x1
  have hx2 : Keeps 516 s x2 := by
    unfold x2
    refine Keeps.ite ?_ ?_
    · refine Keeps.step ?_ (State.bump_keeps _ _) rfl
      exact Keeps.refl _ _
    · exact Keeps.refl _ _
  clear_value x2
  refine Keeps.setplat (m := 516) _ ?_ rfl
  assumption

theorem State.startWalk_keeps (s) (z1) : Keeps 516 s (State.startWalk s z1) := by
  unfold State.startWalk
  refine Keeps.ite ?_ ?_
  · exact Keeps.refl _ _
  · refine Keeps.ite ?_ ?_
    · refine Keeps.step ?_ (State.takeSlot_keeps _ _) rfl
      exact Keeps.refl _ _
    · refine Keeps.setplat (m := 516) _ ?_ rfl
      exact Keeps.refl _ _

theorem State.grantSlot_keeps (s) : Keeps 516 s (State.grantSlot s) := by
  unfold State.grantSlot
  extract_lets x1 x2
  clear_value x1
  split
  · rename_i y3
    exact Keeps.refl _ _
  · rename_i y4 y5
    extract_lets x6 x7
    clear_value x7
    refine Keeps.step ?_ (State.takeSlot_keeps _ _) rfl
    refine Keeps.setplat (m := 516) _ ?_ rfl
    exact Keeps.refl _ _

theorem State.grantSlots_keeps (s) : Keeps 516 s (State.grantSlots s) := by
  unfold State.grantSlots
  refine Keeps.each ?_ ?_
  · exact Keeps.refl _ _
  · intro a1 a2 a3
    refine Keeps.step ?_ (State.grantSlot_keeps _) rfl
    assumption

theorem State.setWalk_keeps (s) (z1) : Keeps 512 s (State.setWalk s z1) := by
  unfold State.setWalk
  refine Keeps.setplat (m := 512) _ ?_ rfl
  exact Keeps.refl _ _

theorem State.endWalk_keeps (s) (z1) : Keeps 516 s (State.endWalk s z1) := by
  unfold State.endWalk
  refine Keeps.step ?_ (State.grantSlots_keeps _) rfl
  refine Keeps.setplat (m := 516) _ ?_ rfl
  exact Keeps.refl _ _

theorem State.issueWalks_keeps (s) : Keeps 94100 s (State.issueWalks s) := by
  unfold State.issueWalks
  refine Keeps.each ?_ ?_
  · exact Keeps.refl _ _
  · intro a1 a2 a3
    refine Keeps.ite ?_ ?_
    · refine Keeps.ite ?_ ?_
      · refine Keeps.step ?_ (State.endWalk_keeps _ _) rfl
        assumption
      · refine Keeps.step ?_ (State.fault_keeps _ _ _ _ _ _ _ _) rfl
        refine Keeps.step ?_ (State.endWalk_keeps _ _) rfl
        assumption
    · split
      · rename_i y4 y5
        assumption
      · rename_i y6 y7 y8
        split
        · rename_i y9 y10
          assumption
        · rename_i y11 y12 y13
          have h14 : KeepsN 94100 s y12 := by
            refine KeepsR.ofEq1 ?_ y13
            refine KeepsR.ite ?_ ?_
            · refine KeepsR.step ?_ (State.request_keeps _ _ _) rfl
              assumption
            · exact KeepsR.none
          extract_lets x15
          have hx15 : Keeps 94100 s x15 := by
            unfold x15
            refine Keeps.step ?_ (State.setWalk_keeps _ _) rfl
            refine KeepsN.snd ?_
            assumption
          clear_value x15
          split
          · rename_i y16 y17
            refine Keeps.step ?_ (State.bump_keeps _ _) rfl
            assumption
          · rename_i y18 y19
            refine Keeps.step ?_ (State.bump_keeps _ _) rfl
            assumption
          · rename_i y20 y21
            refine Keeps.step ?_ (State.bump_keeps _ _) rfl
            assumption
          · rename_i y22 y23
            assumption

theorem State.recallCas_keeps (s) : Keeps 94100 s (State.recallCas s) := by
  unfold State.recallCas
  extract_lets x1 x2 x3 x4
  refine Keeps.step ?_ (State.issueWalks_keeps _) rfl
  refine Keeps.step (m' := 640) (t := s) ?_ (by constructor <;> first | exact fun b => Bool.noConfusion b | exact fun _ => rfl | exact rfl | exact Nat.le_refl _ | exact id) rfl
  exact Keeps.refl _ _

theorem State.leaveFaults_keeps (s) (z1) : Keeps 94100 s (State.leaveFaults s z1) := by
  unfold State.leaveFaults
  refine Keeps.step ?_ (State.issueWalks_keeps _) rfl
  refine Keeps.step ?_ (State.grantSlots_keeps _) rfl
  refine Keeps.step (m' := 1536) (t := s) ?_ (by constructor <;> first | exact fun b => Bool.noConfusion b | exact fun _ => rfl | exact rfl | exact Nat.le_refl _ | exact id) rfl
  exact Keeps.refl _ _

theorem State.missHost_keeps (s) (z1) (z2) (z3) (z4) : Keeps 94100 s (State.missHost s z1 z2 z3 z4) := by
  unfold State.missHost
  refine Keeps.ite ?_ ?_
  · exact Keeps.refl _ _
  · refine Keeps.ite ?_ ?_
    · refine Keeps.step ?_ (State.issueWalks_keeps _) rfl
      refine Keeps.step ?_ (State.startWalk_keeps _ _) rfl
      exact Keeps.refl _ _
    · extract_lets x1 x2 x3 x4
      clear_value x3
      refine Keeps.step ?_ (State.issueWalks_keeps _) rfl
      refine Keeps.step ?_ (State.startWalk_keeps _ _) rfl
      exact Keeps.refl _ _

theorem State.missed_keeps {m : Nat} {s0 : State} (z0 : Sys2Proof.Machine.State) (z1 : Sys2Proof.Machine.State) (hz0 : Keeps m s0 z0) (hz1 : Keeps m s0 z1) (e : 4 &&& m = 4) : Keeps m s0 (State.missed z0 z1) := by
  unfold State.missed
  refine Keeps.ite ?_ ?_
  · refine Keeps.step ?_ (State.bump_keeps _ _) (sub_mask rfl e)
    refine Keeps.step ?_ (State.bump_keeps _ _) (sub_mask rfl e)
    assumption
  · assumption

theorem State.lookupParcel_keeps (s) (z1) (z2) (z3) (z4) (z5) : KeepsP 516 s (State.lookupParcel s z1 z2 z3 z4 z5) := by
  unfold State.lookupParcel
  extract_lets x1 x2 x3
  have hx1 : Keeps 516 s x1 := by
    unfold x1
    refine Keeps.step ?_ (State.bump_keeps _ _) rfl
    refine Keeps.ite ?_ ?_
    · exact Keeps.refl _ _
    · refine Keeps.step ?_ (State.bump_keeps _ _) rfl
      exact Keeps.refl _ _
  clear_value x1
  have hx3 : Keeps 516 s x3 := by
    unfold x3
    refine Keeps.step ?_ (State.install_keeps _ _) rfl
    assumption
  clear_value x3
  refine KeepsP.ite ?_ ?_
  · refine KeepsP.mk ?_
    assumption
  · refine KeepsP.mk ?_
    refine Keeps.step ?_ (State.deny_keeps _) rfl
    assumption

theorem State.lookupTable_keeps (s) (z1) (z2) (z3) (z4) (z5) : KeepsP 94100 s (State.lookupTable s z1 z2 z3 z4 z5) := by
  unfold State.lookupTable
  extract_lets x1 x2
  have hx1 : Keeps 94100 s x1 := by
    unfold x1
    refine Keeps.step ?_ (State.bump_keeps _ _) rfl
    refine Keeps.step ?_ (State.bump_keeps _ _) rfl
    exact Keeps.refl _ _
  clear_value x1
  split
  · rename_i y3
    refine KeepsP.ite ?_ ?_
    · refine KeepsP.mk ?_
      refine Keeps.step ?_ (State.deny_keeps _) rfl
      assumption
    · refine KeepsP.ite ?_ ?_
      · refine KeepsP.mk ?_
        refine Keeps.step ?_ (State.deny_keeps _) rfl
        assumption
      · refine KeepsP.mk ?_
        refine State.missed_keeps _ _ ?_ ?_ rfl
        · exact Keeps.refl _ _
        · refine Keeps.step ?_ (State.missHost_keeps _ _ _ _ _) rfl
          exact Keeps.refl _ _
  · rename_i y4
    refine KeepsP.ite ?_ ?_
    · refine KeepsP.ite ?_ ?_
      · refine KeepsP.mk ?_
        assumption
      · refine KeepsP.mk ?_
        refine Keeps.step ?_ (State.deny_keeps _) rfl
        assumption
    · refine KeepsP.ite ?_ ?_
      · refine KeepsP.mk ?_
        refine Keeps.step ?_ (State.deny_keeps _) rfl
        assumption
      · refine KeepsP.mk ?_
        refine State.missed_keeps _ _ ?_ ?_ rfl
        · exact Keeps.refl _ _
        · refine Keeps.step ?_ (State.startWalk_keeps _ _) rfl
          exact Keeps.refl _ _

theorem State.lookup_keeps (s) (z1) (z2) (z3) (z4) : KeepsP 94100 s (State.lookup s z1 z2 z3 z4) := by
  unfold State.lookup
  refine KeepsP.ite ?_ ?_
  · refine KeepsP.mk ?_
    exact Keeps.refl _ _
  · split
    · rename_i y1 y2
      refine KeepsP.mk ?_
      refine Keeps.step ?_ (State.deny_keeps _) rfl
      exact Keeps.refl _ _
    · rename_i y3 y4 y5
      refine KeepsP.ite ?_ ?_
      · refine KeepsP.mk ?_
        refine Keeps.step ?_ (State.deny_keeps _) rfl
        refine Keeps.step ?_ (State.bump_keeps _ _) rfl
        exact Keeps.refl _ _
      · refine KeepsP.ite ?_ ?_
        · refine KeepsP.mk ?_
          refine Keeps.step ?_ (State.issueWalks_keeps _) rfl
          exact Keeps.refl _ _
        · split
          · rename_i y6 y7 y8 y9
            refine KeepsP.step ?_ (State.lookupParcel_keeps _ _ _ _ _ _) rfl
            exact Keeps.refl _ _
          · rename_i y10 y11
            split
            · rename_i y12 y13 y14
              refine KeepsP.mk ?_
              refine Keeps.step ?_ (State.bump_keeps _ _) rfl
              exact Keeps.refl _ _
            · rename_i y15 y16
              refine KeepsP.ite ?_ ?_
              · refine KeepsP.mk ?_
                refine Keeps.step ?_ (State.issueWalks_keeps _) rfl
                exact Keeps.refl _ _
              · refine KeepsP.step ?_ (State.lookupTable_keeps _ _ _ _ _ _) rfl
                exact Keeps.refl _ _

theorem State.lookupTilth_keeps (s) (z1) (z2) (z3) : KeepsP 4 s (State.lookupTilth s z1 z2 z3) := by
  unfold State.lookupTilth
  split
  · rename_i y1 y2
    refine KeepsP.mk ?_
    refine Keeps.step ?_ (State.deny_keeps _) rfl
    exact Keeps.refl _ _
  · rename_i y3 y4 y5
    refine KeepsP.ite ?_ ?_
    · refine KeepsP.mk ?_
      exact Keeps.refl _ _
    · refine KeepsP.mk ?_
      refine Keeps.step ?_ (State.deny_keeps _) rfl
      exact Keeps.refl _ _

theorem State.installLeaf_keeps (s) (z1) (z2) (z3) (z4) (z5) (z6) (z7) : Keeps 512 s (State.installLeaf s z1 z2 z3 z4 z5 z6 z7) := by
  unfold State.installLeaf
  extract_lets x1 x2 x3
  clear_value x1
  clear_value x2
  clear_value x3
  refine Keeps.ite ?_ ?_
  · exact Keeps.refl _ _
  · refine Keeps.step ?_ (State.install_keeps _ _) rfl
    exact Keeps.refl _ _

theorem State.walkFault_keeps (s) (z1) (z2) (z3) : Keeps 28420 s (State.walkFault s z1 z2 z3) := by
  unfold State.walkFault
  refine Keeps.step ?_ (State.fault_keeps _ _ _ _ _ _ _ _) rfl
  refine Keeps.step ?_ (State.endWalk_keeps _ _) rfl
  exact Keeps.refl _ _

theorem State.walkLeaf_keeps (s) (z1) (z2) (z3) : Keeps 94100 s (State.walkLeaf s z1 z2 z3) := by
  unfold State.walkLeaf
  extract_lets x1 x2 x3 x4
  clear_value x1
  clear_value x2
  clear_value x3
  have hx4 : Keeps 94100 s x4 := by
    unfold x4
    refine Keeps.ite ?_ ?_
    · exact Keeps.refl _ _
    · refine Keeps.step ?_ (State.bump_keeps _ _) rfl
      exact Keeps.refl _ _
  clear_value x4
  refine Keeps.ite ?_ ?_
  · refine Keeps.step ?_ (State.walkFault_keeps _ _ _ _) rfl
    exact Keeps.refl _ _
  · refine Keeps.ite ?_ ?_
    · refine Keeps.step ?_ (State.walkFault_keeps _ _ _ _) rfl
      exact Keeps.refl _ _
    · refine Keeps.ite ?_ ?_
      · refine Keeps.ite ?_ ?_
        · refine Keeps.step ?_ (State.walkFault_keeps _ _ _ _) rfl
          exact Keeps.refl _ _
        · refine Keeps.step ?_ (State.issueWalks_keeps _) rfl
          refine Keeps.step ?_ (State.setWalk_keeps _ _) rfl
          assumption
      · refine Keeps.step ?_ (State.endWalk_keeps _ _) rfl
        refine Keeps.step ?_ (State.installLeaf_keeps _ _ _ _ _ _ _ _) rfl
        exact Keeps.refl _ _

theorem State.installGroup_keeps (s) (z1) (z2) (z3) : Keeps 512 s (State.installGroup s z1 z2 z3) := by
  unfold State.installGroup
  extract_lets x1 x2
  clear_value x1
  clear_value x2
  refine Keeps.each ?_ ?_
  · exact Keeps.refl _ _
  · intro a3 a4 a5
    extract_lets x6 x7
    clear_value x6
    clear_value x7
    refine Keeps.ite ?_ ?_
    · assumption
    · refine Keeps.ite ?_ ?_
      · assumption
      · refine Keeps.step ?_ (State.installLeaf_keeps _ _ _ _ _ _ _ _) rfl
        assumption

theorem State.cacheWalk_keeps (s) (z1) (z2) : Keeps 512 s (State.cacheWalk s z1 z2) := by
  unfold State.cacheWalk
  refine Keeps.ite ?_ ?_
  · refine Keeps.setplat (m := 512) _ ?_ rfl
    exact Keeps.refl _ _
  · exact Keeps.refl _ _

theorem State.walkEntry_keeps (s) (z1) (z2) (z3) : Keeps 94100 s (State.walkEntry s z1 z2 z3) := by
  unfold State.walkEntry
  refine Keeps.ite ?_ ?_
  · refine Keeps.step ?_ (State.walkFault_keeps _ _ _ _) rfl
    exact Keeps.refl _ _
  · refine Keeps.ite ?_ ?_
    · refine Keeps.step ?_ (State.walkLeaf_keeps _ _ _ _) rfl
      exact Keeps.refl _ _
    · refine Keeps.ite ?_ ?_
      · refine Keeps.step ?_ (State.failStream_keeps _ _ _ _ _) rfl
        refine Keeps.step ?_ (State.deny_keeps _) rfl
        refine Keeps.step ?_ (State.raise_keeps _ _ _) rfl
        refine Keeps.step ?_ (State.endWalk_keeps _ _) rfl
        exact Keeps.refl _ _
      · extract_lets x1 x2
        clear_value x1
        refine Keeps.step ?_ (State.issueWalks_keeps _) rfl
        refine Keeps.step ?_ (State.setWalk_keeps _ _) rfl
        refine Keeps.step ?_ (State.cacheWalk_keeps _ _ _) rfl
        exact Keeps.refl _ _

theorem State.walkerDone_keeps (s) (z1) (z2) : Keeps 94100 s (State.walkerDone s z1 z2) := by
  unfold State.walkerDone
  split
  · rename_i y1 y2
    exact Keeps.refl _ _
  · rename_i y3 y4 y5
    refine Keeps.ite ?_ ?_
    · refine Keeps.step ?_ (State.issueWalks_keeps _) rfl
      refine Keeps.step ?_ (State.endWalk_keeps _ _) rfl
      exact Keeps.refl _ _
    · extract_lets x6 x7 x8
      clear_value x7
      have hx8 : Keeps 94100 s x8 := by
        unfold x8
        refine Keeps.ite ?_ ?_
        · refine Keeps.step ?_ (State.installGroup_keeps _ _ _ _) rfl
          exact Keeps.refl _ _
        · exact Keeps.refl _ _
      clear_value x8
      refine Keeps.step ?_ (State.issueWalks_keeps _) rfl
      refine Keeps.step ?_ (State.walkEntry_keeps _ _ _ _) rfl
      assumption

theorem State.casDone_keeps (s) (z1) (z2) : Keeps 94100 s (State.casDone s z1 z2) := by
  unfold State.casDone
  split
  · rename_i y1 y2
    exact Keeps.refl _ _
  · rename_i y3 y4 y5
    refine Keeps.ite ?_ ?_
    · refine Keeps.step ?_ (State.issueWalks_keeps _) rfl
      refine Keeps.step ?_ (State.endWalk_keeps _ _) rfl
      exact Keeps.refl _ _
    · extract_lets x6 x7
      clear_value x7
      refine Keeps.ite ?_ ?_
      · refine Keeps.step ?_ (State.issueWalks_keeps _) rfl
        refine Keeps.step ?_ (State.endWalk_keeps _ _) rfl
        refine Keeps.step ?_ (State.installLeaf_keeps _ _ _ _ _ _ _ _) rfl
        exact Keeps.refl _ _
      · refine Keeps.ite ?_ ?_
        · refine Keeps.step ?_ (State.issueWalks_keeps _) rfl
          refine Keeps.step ?_ (State.walkFault_keeps _ _ _ _) rfl
          refine Keeps.step ?_ (State.raise_keeps _ _ _) rfl
          exact Keeps.refl _ _
        · refine Keeps.step ?_ (State.issueWalks_keeps _) rfl
          refine Keeps.step ?_ (State.walkEntry_keeps _ _ _ _) rfl
          exact Keeps.refl _ _

theorem State.walkFailed_keeps (s) (z1) : Keeps 94100 s (State.walkFailed s z1) := by
  unfold State.walkFailed
  split
  · rename_i y1 y2
    exact Keeps.refl _ _
  · rename_i y3 y4 y5
    extract_lets x6
    have hx6 : Keeps 94100 s x6 := by
      unfold x6
      refine Keeps.step ?_ (State.bump_keeps _ _) rfl
      refine Keeps.step ?_ (State.raise_keeps _ _ _) rfl
      refine Keeps.step ?_ (State.endWalk_keeps _ _) rfl
      exact Keeps.refl _ _
    clear_value x6
    refine Keeps.step ?_ (State.issueWalks_keeps _) rfl
    refine Keeps.ite ?_ ?_
    · assumption
    · refine Keeps.step ?_ (State.failStream_keeps _ _ _ _ _) rfl
      assumption

theorem State.atsDone_keeps (s) (z1) (z2) (z3) : Keeps 94100 s (State.atsDone s z1 z2 z3) := by
  unfold State.atsDone
  split
  · rename_i y1 y2
    exact Keeps.refl _ _
  · rename_i y3 y4 y5
    extract_lets x6 x7 x8
    have hx6 : Keeps 94100 s x6 := by
      unfold x6
      refine Keeps.step ?_ (State.endWalk_keeps _ _) rfl
      exact Keeps.refl _ _
    clear_value x6
    have hx7 : Keeps 94100 s x7 := by
      unfold x7
      refine Keeps.each ?_ ?_
      · assumption
      · intro a9 a10 a11
        refine Keeps.step ?_ (State.install_keeps _ _) rfl
        assumption
    clear_value x7
    clear_value x8
    refine Keeps.ite ?_ ?_
    · refine Keeps.step ?_ (State.issueWalks_keeps _) rfl
      assumption
    · refine Keeps.ite ?_ ?_
      · refine Keeps.step ?_ (State.issueWalks_keeps _) rfl
        refine Keeps.step ?_ (State.failStream_keeps _ _ _ _ _) rfl
        refine Keeps.step ?_ (State.deny_keeps _) rfl
        assumption
      · refine Keeps.step ?_ (State.issueWalks_keeps _) rfl
        refine Keeps.ite ?_ ?_
        · assumption
        · refine Keeps.step ?_ (State.fault_keeps _ _ _ _ _ _ _ _) rfl
          assumption

theorem State.acreDone_keeps (s) (z1) : Keeps 33681300 s (State.acreDone s z1) := by
  unfold State.acreDone
  split
  · rename_i y1 y2
    exact Keeps.refl _ _
  · rename_i y3 y4 y5
    extract_lets x6 x7 x8 x9
    have hx6 : Keeps 33681300 s x6 := by
      unfold x6
      refine Keeps.step ?_ (State.endWalk_keeps _ _) rfl
      exact Keeps.refl _ _
    clear_value x6
    have hx7 : KeepsP 33681300 s x7 := by
      unfold x7
      refine KeepsP.step ?_ (State.hbmRead_keeps _ _ _) rfl
      assumption
    clear_value x7
    have hx8 : Keeps 33681300 s x8 := by
      unfold x8
      refine KeepsP.fst ?_
      assumption
    clear_value x9
    refine Keeps.step ?_ (State.issueWalks_keeps _) rfl
    refine Keeps.ite ?_ ?_
    · assumption
    · refine Keeps.ite ?_ ?_
      · refine Keeps.step ?_ (State.fault_keeps _ _ _ _ _ _ _ _) rfl
        assumption
      · refine Keeps.ite ?_ ?_
        · refine Keeps.step ?_ (State.failStream_keeps _ _ _ _ _) rfl
          refine Keeps.step ?_ (State.deny_keeps _) rfl
          refine Keeps.step ?_ (State.raise_keeps _ _ _) rfl
          assumption
        · refine Keeps.ite ?_ ?_
          · refine Keeps.step ?_ (State.failStream_keeps _ _ _ _ _) rfl
            refine Keeps.step ?_ (State.deny_keeps _) rfl
            assumption
          · refine Keeps.ite ?_ ?_
            · assumption
            · refine Keeps.step ?_ (State.install_keeps _ _) rfl
              assumption

theorem State.dropPromotion_keeps (s) (z1) : Keeps 2048 s (State.dropPromotion s z1) := by
  unfold State.dropPromotion
  split
  · rename_i y1 y2
    exact Keeps.refl _ _
  · rename_i y3 y4 y5
    extract_lets x6 x7
    clear_value x6
    refine Keeps.setmig (m := 2048) _ ?_ rfl
    exact Keeps.refl _ _

theorem State.dropAhead_keeps (s) (z1) : Keeps 27008 s (State.dropAhead s z1) := by
  unfold State.dropAhead
  extract_lets x1 x2 x3 x4 x5 x6 x7
  clear_value x1
  have hx3 : Keeps 27008 s x3 := by
    unfold x3
    refine Keeps.sethost (m := 27008) _ ?_ id rfl
    exact Keeps.refl _ _
  clear_value x3
  have hx4 : Keeps 27008 s x4 := by
    unfold x4
    refine Keeps.each ?_ ?_
    · assumption
    · intro a8 a9 a10
      refine Keeps.step ?_ (State.setRow_keeps _ _ _) rfl
      assumption
  clear_value x4
  have hx5 : Keeps 27008 s x5 := by
    unfold x5
    refine Keeps.each ?_ ?_
    · assumption
    · intro a11 a12 a13
      refine Keeps.step ?_ (State.modPlot_keeps _ _ _ (by first | exact fun _ h => h | exact fun _ _ => ⟨rfl, rfl⟩ | (intro x h; dsimp only; split <;> exact h) | (intro x h; split <;> exact h) | (intro x h; beta_reduce; split <;> exact h))) rfl
      assumption
  clear_value x5
  have hx6 : Keeps 27008 s x6 := by
    unfold x6
    refine Keeps.step ?_ (State.dropPromotion_keeps _ _) rfl
    assumption
  clear_value x6
  refine Keeps.setg (m := 27008) _ ?_ id id rfl
  assumption

theorem State.dropXlats_keeps (s) (z1) : Keeps 27520 s (State.dropXlats s z1) := by
  unfold State.dropXlats
  extract_lets x1 x2
  have hx1 : Keeps 27520 s x1 := by
    unfold x1
    refine Keeps.step ?_ (State.dropAhead_keeps _ _) rfl
    exact Keeps.refl _ _
  clear_value x1
  refine Keeps.setplat (m := 27520) _ ?_ rfl
  assumption

theorem State.recallSlots_keeps (s) (z1) : Keeps 94100 s (State.recallSlots s z1) := by
  unfold State.recallSlots
  extract_lets x1 x2 x3 x4
  clear_value x1
  have hx3 : Keeps 94100 s x3 := by
    unfold x3
    refine Keeps.step ?_ (State.leaveFaults_keeps _ _) rfl
    refine Keeps.step ?_ (State.bumpBy_keeps _ _ _) rfl
    exact Keeps.refl _ _
  clear_value x3
  refine Keeps.ite ?_ ?_
  · exact Keeps.refl _ _
  · refine Keeps.setg (m := 94100) _ ?_ id id rfl
    assumption

theorem State.autoRetry_keeps (s) (z1) : Keeps 27908 s (State.autoRetry s z1) := by
  unfold State.autoRetry
  refine Keeps.ite ?_ ?_
  · exact Keeps.refl _ _
  · refine Keeps.each ?_ ?_
    · exact Keeps.refl _ _
    · intro a1 a2 a3
      refine Keeps.step ?_ (State.bump_keeps _ _) rfl
      refine Keeps.step ?_ (State.resolve_keeps _ _ _ _) rfl
      assumption

theorem State.autoRetryAd_keeps (s) : Keeps 27908 s (State.autoRetryAd s) := by
  unfold State.autoRetryAd
  refine Keeps.ite ?_ ?_
  · exact Keeps.refl _ _
  · refine Keeps.each ?_ ?_
    · exact Keeps.refl _ _
    · intro a1 a2 a3
      refine Keeps.step ?_ (State.bump_keeps _ _) rfl
      refine Keeps.step ?_ (State.resolve_keeps _ _ _ _) rfl
      assumption

theorem State.queueCmd_keeps (s) (z1) : Keeps 512 s (State.queueCmd s z1) := by
  unfold State.queueCmd
  refine Keeps.ite ?_ ?_
  · refine Keeps.setplat (m := 512) _ ?_ rfl
    exact Keeps.refl _ _
  · refine Keeps.setplat (m := 512) _ ?_ rfl
    exact Keeps.refl _ _

theorem State.ownCommand_keeps (s) (z1) : Keeps 512 s (State.ownCommand s z1) := by
  unfold State.ownCommand
  refine Keeps.ite ?_ ?_
  · refine Keeps.setplat (m := 512) _ ?_ rfl
    exact Keeps.refl _ _
  · refine Keeps.step ?_ (State.queueCmd_keeps _ _) rfl
    exact Keeps.refl _ _

theorem State.flushPlat_keeps (s) : Keeps 27520 s (State.flushPlat s) := by
  unfold State.flushPlat
  extract_lets x1 x2
  have hx1 : Keeps 27520 s x1 := by
    unfold x1
    refine Keeps.step ?_ (State.dropAhead_keeps _ _) rfl
    exact Keeps.refl _ _
  clear_value x1
  refine Keeps.setplat (m := 27520) _ ?_ rfl
  assumption

theorem State.noteOverlay_keeps (s) (z1) (z2) (z3) : Keeps 512 s (State.noteOverlay s z1 z2 z3) := by
  unfold State.noteOverlay
  extract_lets x1
  refine Keeps.ite ?_ ?_
  · exact Keeps.refl _ _
  · refine Keeps.each ?_ ?_
    · exact Keeps.refl _ _
    · intro a2 a3 a4
      extract_lets x5 x6 x7 x8 x9 x10
      clear_value x6
      clear_value x7
      clear_value x8
      refine Keeps.setplat (m := 512) _ ?_ rfl
      assumption

theorem State.countRegion_keeps (s) (z1) (z2) (z3) : Keeps 2048 s (State.countRegion s z1 z2 z3) := by
  unfold State.countRegion
  extract_lets x1 x2 x3 x4 x5 x6
  clear_value x1
  clear_value x2
  clear_value x3
  clear_value x4
  refine Keeps.setmig (m := 2048) _ ?_ rfl
  exact Keeps.refl _ _

theorem State.countAccess_keeps (s) (z1) (z2) (z3) : Keeps 2048 s (State.countAccess s z1 z2 z3) := by
  unfold State.countAccess
  refine Keeps.ite ?_ ?_
  · exact Keeps.refl _ _
  · refine Keeps.each ?_ ?_
    · exact Keeps.refl _ _
    · intro a1 a2 a3
      extract_lets x4
      clear_value x4
      refine Keeps.step ?_ (State.countRegion_keeps _ _ _ _) rfl
      assumption

theorem State.listHot_keeps (s) : Keeps 2048 s (State.listHot s) := by
  unfold State.listHot
  refine Keeps.each ?_ ?_
  · exact Keeps.refl _ _
  · intro a1 a2 a3
    refine Keeps.ite ?_ ?_
    · refine Keeps.setmig (m := 2048) _ ?_ rfl
      assumption
    · assumption

end Sys2Proof.Machine
end

