-- ==== Sys2Proof/Laws/FootPlatCmd.lean ====
section
/-! SUPPORT. The footprints of the operations of Machine/PlatCmd.lean. -/

namespace Sys2Proof.Machine

theorem State.writePctxCtrl_keeps (s) (z1) (z2) (z3) : Keeps 65548 s (State.writePctxCtrl s z1 z2 z3) := by
  unfold State.writePctxCtrl
  extract_lets x1 x2
  clear_value x1
  clear_value x2
  refine Keeps.ite ?_ ?_
  · refine Keeps.ite ?_ ?_
    · exact Keeps.refl _ _
    · refine Keeps.step ?_ (State.valueErr_keeps _ _ _ _) rfl
      exact Keeps.refl _ _
  · refine Keeps.ite ?_ ?_
    · refine Keeps.step ?_ (State.valueErr_keeps _ _ _ _) rfl
      exact Keeps.refl _ _
    · refine Keeps.step ?_ (State.setRg_keeps _ _ _) rfl
      exact Keeps.refl _ _

theorem State.writePctxOther_keeps (s) (z1) (z2) (z3) (z4) : Keeps 65548 s (State.writePctxOther s z1 z2 z3 z4) := by
  unfold State.writePctxOther
  extract_lets x1 x2
  clear_value x1
  clear_value x2
  refine Keeps.ite ?_ ?_
  · refine Keeps.step ?_ (State.valueErr_keeps _ _ _ _) rfl
    exact Keeps.refl _ _
  · refine Keeps.ite ?_ ?_
    · refine Keeps.step ?_ (State.setRg_keeps _ _ _) rfl
      exact Keeps.refl _ _
    · refine Keeps.ite ?_ ?_
      · refine Keeps.ite ?_ ?_
        · refine Keeps.step ?_ (State.valueErr_keeps _ _ _ _) rfl
          exact Keeps.refl _ _
        · refine Keeps.step ?_ (State.setRg_keeps _ _ _) rfl
          exact Keeps.refl _ _
      · exact Keeps.refl _ _

theorem State.writeTmpl_keeps (s) (z1) (z2) (z3) (z4) : Keeps 65548 s (State.writeTmpl s z1 z2 z3 z4) := by
  unfold State.writeTmpl
  extract_lets x1 x2
  clear_value x1
  clear_value x2
  refine Keeps.ite ?_ ?_
  · refine Keeps.step ?_ (State.valueErr_keeps _ _ _ _) rfl
    exact Keeps.refl _ _
  · refine Keeps.ite ?_ ?_
    · refine Keeps.step ?_ (State.setRg_keeps _ _ _) rfl
      exact Keeps.refl _ _
    · refine Keeps.ite ?_ ?_
      · refine Keeps.step ?_ (State.valueErr_keeps _ _ _ _) rfl
        exact Keeps.refl _ _
      · refine Keeps.step ?_ (State.setRg_keeps _ _ _) rfl
        exact Keeps.refl _ _

theorem State.writePlatCtrl_keeps (s) (z1) (z2) : Keeps 65548 s (State.writePlatCtrl s z1 z2) := by
  unfold State.writePlatCtrl
  extract_lets x1
  clear_value x1
  refine Keeps.ite ?_ ?_
  · refine Keeps.step ?_ (State.valueErr_keeps _ _ _ _) rfl
    exact Keeps.refl _ _
  · refine Keeps.step ?_ (State.setRg_keeps _ _ _) rfl
    exact Keeps.refl _ _

theorem State.cmdSubmit_keeps (s) (z1) : Keeps 66060 s (State.cmdSubmit s z1) := by
  unfold State.cmdSubmit
  refine Keeps.ite ?_ ?_
  · refine Keeps.step ?_ (State.valueErr_keeps _ _ _ _) rfl
    refine Keeps.setplat (m := 66060) _ ?_ rfl
    exact Keeps.refl _ _
  · extract_lets x1 x2 x3 x4
    clear_value x1
    have hx3 : Keeps 66060 s x3 := by
      unfold x3
      refine Keeps.step ?_ (State.queueCmd_keeps _ _) rfl
      exact Keeps.refl _ _
    clear_value x3
    refine Keeps.setplat (m := 66060) _ ?_ rfl
    assumption

theorem State.putParcel_keeps (s) (z1) (z2) : Keeps 512 s (State.putParcel s z1 z2) := by
  unfold State.putParcel
  refine Keeps.setplat (m := 512) _ ?_ rfl
  exact Keeps.refl _ _

theorem State.abandonPromotion_keeps (s) (z1) (z2) : Keeps 94100 s (State.abandonPromotion s z1 z2) := by
  unfold State.abandonPromotion
  extract_lets x1 x2
  have hx1 : Keeps 94100 s x1 := by
    unfold x1
    refine Keeps.step ?_ (State.leaveFaults_keeps _ _) rfl
    exact Keeps.refl _ _
  clear_value x1
  refine Keeps.setmig (m := 94100) _ ?_ rfl
  assumption

theorem State.promoted_keeps (s) (z1) : Keeps 94100 s (State.promoted s z1) := by
  unfold State.promoted
  split
  · rename_i y1 y2
    exact Keeps.refl _ _
  · rename_i y3 y4 y5
    refine Keeps.ite ?_ ?_
    · refine Keeps.step ?_ (State.bump_keeps _ _) rfl
      refine Keeps.setmig (m := 94100) _ ?_ rfl
      exact Keeps.refl _ _
    · refine Keeps.step ?_ (State.abandonPromotion_keeps _ _ _) rfl
      exact Keeps.refl _ _

theorem atsLoop_keeps (z0) (s) : Keeps 512 s (atsLoop z0 s) := by
  induction z0 generalizing s with
  | nil =>
    unfold atsLoop
    refine Keeps.setplat (m := 512) _ ?_ rfl
    exact Keeps.refl _ _
  | cons x l ih =>
    unfold atsLoop
    refine Keeps.ite ?_ ?_
    · refine Keeps.setplat (m := 512) _ ?_ rfl
      exact Keeps.refl _ _
    · refine Keeps.step ?_ (ih _) rfl
      refine Keeps.setplat (m := 512) _ ?_ rfl
      exact Keeps.refl _ _

theorem State.atsNext_keeps (s) : Keeps 512 s (State.atsNext s) := by
  unfold State.atsNext
  refine Keeps.step ?_ (atsLoop_keeps _ _) rfl
  exact Keeps.refl _ _

theorem State.ownNext_keeps (s) : Keeps 512 s (State.ownNext s) := by
  unfold State.ownNext
  split
  · rename_i y1 y2
    exact Keeps.refl _ _
  · rename_i y3 y4 y5 y6
    refine Keeps.ite ?_ ?_
    · exact Keeps.refl _ _
    · refine Keeps.step ?_ (State.queueCmd_keeps _ _) rfl
      refine Keeps.setplat (m := 512) _ ?_ rfl
      exact Keeps.refl _ _

theorem State.cmdDone_keeps (s) (z1) (z2) : Keeps 94108 s (State.cmdDone s z1 z2) := by
  unfold State.cmdDone
  extract_lets x1 x2 x3 x4 x5 x6 x7 x8 x9
  have hx2 : Keeps 94108 s x2 := by
    unfold x2
    refine Keeps.step ?_ (State.ownNext_keeps _) rfl
    refine Keeps.step ?_ (State.atsNext_keeps _) rfl
    refine Keeps.setplat (m := 94108) _ ?_ rfl
    exact Keeps.refl _ _
  clear_value x2
  have hx4 : Keeps 94108 s x4 := by
    unfold x4
    refine Keeps.setplat (m := 94108) _ ?_ rfl
    assumption
  clear_value x4
  have hx5 : Keeps 94108 s x5 := by
    unfold x5
    refine Keeps.ite ?_ ?_
    · assumption
    · split
      · rename_i y10 y11
        refine Keeps.step ?_ (State.putParcel_keeps _ _ _) rfl
        refine Keeps.step ?_ (State.dropXlats_keeps _ _) rfl
        assumption
      · rename_i y12 y13
        split
        · rename_i y14 y15 y16
          refine Keeps.step ?_ (State.setRg_keeps _ _ _) rfl
          assumption
        · rename_i y17 y18
          assumption
      · rename_i y19 y20 y21
        assumption
  clear_value x5
  have hx6 : Keeps 94108 s x6 := by
    unfold x6
    split
    · rename_i y22 y23 y24
      refine Keeps.step ?_ (State.drain_keeps _) rfl
      refine Keeps.step ?_ (State.enqueue_keeps _ _) rfl
      refine Keeps.step ?_ (State.bump_keeps _ _) rfl
      assumption
    · rename_i y25 y26
      refine Keeps.ite ?_ ?_
      · refine Keeps.step ?_ (State.bump_keeps _ _) rfl
        assumption
      · assumption
  clear_value x6
  have hx8 : Keeps 94108 s x8 := by
    unfold x8
    split
    · rename_i y27 y28 y29
      extract_lets x30
      have hx30 : Keeps 94108 s x30 := by
        unfold x30
        refine Keeps.setplat (m := 94108) _ ?_ rfl
        assumption
      clear_value x30
      refine Keeps.ite ?_ ?_
      · refine Keeps.step ?_ (State.post_keeps _ _) rfl
        assumption
      · assumption
    · rename_i y31 y32
      assumption
  clear_value x8
  have hx9 : Keeps 94108 s x9 := by
    unfold x9
    refine Keeps.ite ?_ ?_
    · refine Keeps.step ?_ (State.promoted_keeps _ _) rfl
      assumption
    · assumption
  clear_value x9
  refine Keeps.ite ?_ ?_
  · refine Keeps.step ?_ (State.autoRetry_keeps _ _) rfl
    assumption
  · assumption

theorem State.runCmd_keeps (s) (z1) : Keeps 94110 s (State.runCmd s z1) := by
  unfold State.runCmd
  split
  · rename_i y1 y2 y3 y4 y5 y6
    refine Keeps.ite ?_ ?_
    · exact Keeps.refl _ _
    · refine Keeps.ite ?_ ?_
      · exact Keeps.refl _ _
      · extract_lets x7 x8 x9 x10 x11 x12 x13 x14 x15 x16 x17 x18 x19
        clear_value x7
        have hx10 : Keeps 94110 s x10 := by
          unfold x10
          refine Keeps.setplat (m := 94110) _ ?_ rfl
          exact Keeps.refl _ _
        clear_value x10
        have hx11 : Keeps 94110 s x11 := by
          unfold x11
          refine Keeps.ite ?_ ?_
          · refine Keeps.step ?_ (State.putParcel_keeps _ _ _) rfl
            assumption
          · assumption
        clear_value x11
        have hx13 : Keeps 94110 s x13 := by
          unfold x13
          refine Keeps.ite ?_ ?_
          · refine Keeps.setplat (m := 94110) _ ?_ rfl
            assumption
          · assumption
        clear_value x13
        have hx14 : Keeps 94110 s x14 := by
          unfold x14
          refine Keeps.step ?_ (State.recallSlots_keeps _ _) rfl
          refine Keeps.step ?_ (State.dropXlats_keeps _ _) rfl
          assumption
        clear_value x14
        have hx15 : KeepsN 94110 s x15 := by
          unfold x15
          refine KeepsN.step ?_ (State.draw_keeps _) rfl
          assumption
        clear_value x15
        clear_value x16
        clear_value x17
        have hx18 : Keeps 94110 s x18 := by
          unfold x18
          refine KeepsN.snd ?_
          assumption
        refine Keeps.ite ?_ ?_
        · refine Keeps.step ?_ (State.cmdDone_keeps _ _ _) rfl
          assumption
        · refine Keeps.setplat (m := 94110) _ ?_ rfl
          assumption
  · rename_i y20 y21 y22
    exact Keeps.refl _ _

theorem execPctxValid_keeps (z0) (z1) (z2) (s) : KeepsO 65548 s (execPctxValid z0 z1 z2 s) := by
  unfold execPctxValid
  refine KeepsO.next ?_
  refine Keeps.step ?_ (State.writePctxCtrl_keeps _ _ _ _) rfl
  exact Keeps.refl _ _

theorem execInvalRange_keeps (s) : KeepsO 94110 s (execInvalRange s) := by
  unfold execInvalRange
  refine KeepsO.next ?_
  refine Keeps.step ?_ (State.runCmd_keeps _ _) rfl
  exact Keeps.refl _ _

theorem execInvalPasid_keeps (s) : KeepsO 94110 s (execInvalPasid s) := by
  unfold execInvalPasid
  refine KeepsO.next ?_
  refine Keeps.step ?_ (State.runCmd_keeps _ _) rfl
  exact Keeps.refl _ _

theorem execInvalAll_keeps (s) : KeepsO 94110 s (execInvalAll s) := by
  unfold execInvalAll
  refine KeepsO.next ?_
  refine Keeps.step ?_ (State.runCmd_keeps _ _) rfl
  exact Keeps.refl _ _

theorem execParcelInstall_keeps (s) : KeepsO 94110 s (execParcelInstall s) := by
  unfold execParcelInstall
  refine KeepsO.next ?_
  refine Keeps.step ?_ (State.runCmd_keeps _ _) rfl
  exact Keeps.refl _ _

theorem execParcelRemove_keeps (s) : KeepsO 94110 s (execParcelRemove s) := by
  unfold execParcelRemove
  refine KeepsO.next ?_
  refine Keeps.step ?_ (State.runCmd_keeps _ _) rfl
  exact Keeps.refl _ _

theorem execPasidRetire_keeps (s) : KeepsO 94110 s (execPasidRetire s) := by
  unfold execPasidRetire
  refine KeepsO.next ?_
  refine Keeps.step ?_ (State.runCmd_keeps _ _) rfl
  exact Keeps.refl _ _

theorem execSync_keeps (s) : KeepsO 94110 s (execSync s) := by
  unfold execSync
  refine KeepsO.next ?_
  refine Keeps.step ?_ (State.runCmd_keeps _ _) rfl
  exact Keeps.refl _ _

theorem execAtsInvalidateRequest_keeps (z0) (z1) (z2) (z3) (z4) (s) : KeepsO 512 s (execAtsInvalidateRequest z0 z1 z2 z3 z4 s) := by
  unfold execAtsInvalidateRequest
  extract_lets x1 x2
  refine KeepsO.next ?_
  refine Keeps.ite ?_ ?_
  · refine Keeps.setplat (m := 512) _ ?_ rfl
    exact Keeps.refl _ _
  · refine Keeps.step ?_ (State.queueCmd_keeps _ _) rfl
    exact Keeps.refl _ _

theorem State.consumeWalk_keeps (s) (z1) : KeepsP 132 s (State.consumeWalk s z1) := by
  unfold State.consumeWalk
  split
  · rename_i y1 y2 y3
    refine KeepsP.mk ?_
    refine Keeps.step ?_ (State.freeTagUse_keeps _ _) rfl
    exact Keeps.refl _ _
  · rename_i y4 y5
    split
    · rename_i y6 y7
      refine KeepsP.mk ?_
      exact Keeps.refl _ _
    · rename_i y8 y9 y10
      refine KeepsP.mk ?_
      refine Keeps.step ?_ (State.lateCompletion_keeps _ _ _) rfl
      exact Keeps.refl _ _

theorem execWalkerCompletion_keeps (z0) (z1) (s) : KeepsO 94100 s (execWalkerCompletion z0 z1 s) := by
  unfold execWalkerCompletion
  extract_lets x1
  have hx1 : KeepsP 94100 s x1 := by
    unfold x1
    refine KeepsP.step ?_ (State.consumeWalk_keeps _ _) rfl
    exact Keeps.refl _ _
  clear_value x1
  refine KeepsO.next ?_
  refine Keeps.ite ?_ ?_
  · refine Keeps.step ?_ (State.walkerDone_keeps _ _ _) rfl
    refine KeepsP.fst ?_
    assumption
  · refine KeepsP.fst ?_
    assumption

theorem execAdCasCompletion_keeps (z0) (z1) (s) : KeepsO 94100 s (execAdCasCompletion z0 z1 s) := by
  unfold execAdCasCompletion
  extract_lets x1
  have hx1 : KeepsP 94100 s x1 := by
    unfold x1
    refine KeepsP.step ?_ (State.consumeWalk_keeps _ _) rfl
    exact Keeps.refl _ _
  clear_value x1
  refine KeepsO.next ?_
  refine Keeps.ite ?_ ?_
  · refine Keeps.step ?_ (State.casDone_keeps _ _ _) rfl
    refine KeepsP.fst ?_
    assumption
  · refine KeepsP.fst ?_
    assumption

theorem execWalkError_keeps (z0) (s) : KeepsO 94100 s (execWalkError z0 s) := by
  unfold execWalkError
  extract_lets x1
  have hx1 : KeepsP 94100 s x1 := by
    unfold x1
    refine KeepsP.step ?_ (State.consumeWalk_keeps _ _) rfl
    exact Keeps.refl _ _
  clear_value x1
  refine KeepsO.next ?_
  refine Keeps.ite ?_ ?_
  · refine Keeps.step ?_ (State.walkFailed_keeps _ _) rfl
    refine KeepsP.fst ?_
    assumption
  · refine KeepsP.fst ?_
    assumption

theorem execAtsTranslationCompletion_keeps (z0) (z1) (z2) (s) : KeepsO 94100 s (execAtsTranslationCompletion z0 z1 z2 s) := by
  unfold execAtsTranslationCompletion
  extract_lets x1
  have hx1 : KeepsP 94100 s x1 := by
    unfold x1
    refine KeepsP.step ?_ (State.consumeWalk_keeps _ _) rfl
    exact Keeps.refl _ _
  clear_value x1
  refine KeepsO.next ?_
  refine Keeps.ite ?_ ?_
  · refine Keeps.step ?_ (State.atsDone_keeps _ _ _ _) rfl
    refine KeepsP.fst ?_
    assumption
  · refine KeepsP.fst ?_
    assumption

theorem execAcreEntryRead_keeps (z0) (s) : KeepsO 33681300 s (execAcreEntryRead z0 s) := by
  unfold execAcreEntryRead
  refine KeepsO.next ?_
  refine Keeps.step ?_ (State.acreDone_keeps _ _) rfl
  exact Keeps.refl _ _

theorem execXlateModeSwitchDone_keeps (s) : KeepsO 94108 s (execXlateModeSwitchDone s) := by
  unfold execXlateModeSwitchDone
  split
  · rename_i y1 y2 y3 y4 y5 y6
    refine KeepsO.ite ?_ ?_
    · extract_lets x7 x8 x9 x10
      have hx7 : Keeps 94108 s x7 := by
        unfold x7
        refine Keeps.step ?_ (State.cmdDone_keeps _ _ _) rfl
        exact Keeps.refl _ _
      clear_value x7
      have hx9 : Keeps 94108 s x9 := by
        unfold x9
        refine Keeps.setplat (m := 94108) _ ?_ rfl
        assumption
      clear_value x9
      have hx10 : Keeps 94108 s x10 := by
        unfold x10
        refine Keeps.step ?_ (State.bump_keeps _ _) rfl
        refine Keeps.step ?_ (State.setVal_keeps _ _ _) rfl
        assumption
      clear_value x10
      refine KeepsO.next ?_
      refine Keeps.step ?_ (State.bump_keeps _ _) rfl
      assumption
    · refine KeepsO.next ?_
      exact Keeps.refl _ _
  · rename_i y11 y12 y13
    refine KeepsO.next ?_
    exact Keeps.refl _ _

end Sys2Proof.Machine
end

