-- ==== Sys2Proof/Laws/FootFault.lean ====
section
/-! SUPPORT. The footprints of the operations of Machine/Fault.lean. -/

namespace Sys2Proof.Machine

theorem State.noteRingFull_keeps (s) : Keeps 1028 s (State.noteRingFull s) := by
  unfold State.noteRingFull
  extract_lets x1 x2 x3
  clear_value x1
  have hx2 : Keeps 1028 s x2 := by
    unfold x2
    refine Keeps.ite ?_ ?_
    · refine Keeps.step ?_ (State.bump_keeps _ _) rfl
      exact Keeps.refl _ _
    · exact Keeps.refl _ _
  clear_value x2
  refine Keeps.setflt (m := 1028) _ ?_ rfl
  assumption

theorem State.closeBatch_keeps (s) : Keeps 1024 s (State.closeBatch s) := by
  unfold State.closeBatch
  refine Keeps.setflt (m := 1024) _ ?_ rfl
  exact Keeps.refl _ _

theorem execFaultRecordWrite_keeps (s) : KeepsO 66964 s (execFaultRecordWrite s) := by
  unfold execFaultRecordWrite
  refine KeepsO.ite ?_ ?_
  · refine KeepsO.next ?_
    exact Keeps.refl _ _
  · split
    · rename_i y1 y2
      refine KeepsO.next ?_
      exact Keeps.refl _ _
    · rename_i y3 y4 y5
      extract_lets x6 x7 x8 x9 x10 x11 x12
      clear_value x6
      clear_value x7
      have hx8 : Keeps 66964 s x8 := by
        unfold x8
        refine Keeps.step ?_ (State.post_keeps _ _) rfl
        exact Keeps.refl _ _
      clear_value x8
      have hx11 : Keeps 66964 s x11 := by
        unfold x11
        refine Keeps.setflt (m := 66964) _ ?_ rfl
        assumption
      clear_value x11
      have hx12 : Keeps 66964 s x12 := by
        unfold x12
        refine Keeps.ite ?_ ?_
        · refine Keeps.step ?_ (State.closeBatch_keeps _) rfl
          assumption
        · assumption
      clear_value x12
      refine KeepsO.next ?_
      refine Keeps.step ?_ (State.reapFaults_keeps _) rfl
      refine Keeps.step ?_ (State.noteRingFull_keeps _) rfl
      assumption

theorem execFaultBatchClose_keeps (s) : KeepsO 1025 s (execFaultBatchClose s) := by
  unfold execFaultBatchClose
  split
  · rename_i y1 y2
    refine KeepsO.next ?_
    exact Keeps.refl _ _
  · rename_i y3 y4 y5
    refine KeepsO.next ?_
    refine Keeps.step ?_ (State.closeBatch_keeps _) rfl
    refine Keeps.step ?_ (State.until__keeps _ _) rfl
    exact Keeps.refl _ _

theorem State.writeFaultHead_keeps (s) (z1) (z2) : Keeps 66572 s (State.writeFaultHead s z1 z2) := by
  unfold State.writeFaultHead
  extract_lets x1
  refine Keeps.ite ?_ ?_
  · refine Keeps.step ?_ (State.valueErr_keeps _ _ _ _) rfl
    exact Keeps.refl _ _
  · refine Keeps.step ?_ (State.noteRingFull_keeps _) rfl
    refine Keeps.step ?_ (State.setRg_keeps _ _ _) rfl
    exact Keeps.refl _ _

theorem State.writeFaultCtrl_keeps (s) (z1) (z2) : Keeps 66572 s (State.writeFaultCtrl s z1 z2) := by
  unfold State.writeFaultCtrl
  extract_lets x1 x2 x3 x4
  clear_value x1
  clear_value x2
  have hx3 : Keeps 66572 s x3 := by
    unfold x3
    refine Keeps.step ?_ (State.setRg_keeps _ _ _) rfl
    refine Keeps.step ?_ (State.setRg_keeps _ _ _) rfl
    exact Keeps.refl _ _
  clear_value x3
  refine Keeps.ite ?_ ?_
  · refine Keeps.step ?_ (State.valueErr_keeps _ _ _ _) rfl
    exact Keeps.refl _ _
  · refine Keeps.ite ?_ ?_
    · refine Keeps.step ?_ (State.valueErr_keeps _ _ _ _) rfl
      exact Keeps.refl _ _
    · refine Keeps.ite ?_ ?_
      · refine Keeps.ite ?_ ?_
        · refine Keeps.step ?_ (State.valueErr_keeps _ _ _ _) rfl
          exact Keeps.refl _ _
        · refine Keeps.setflt (m := 66572) _ ?_ rfl
          assumption
      · refine Keeps.step ?_ (State.noteRingFull_keeps _) rfl
        refine Keeps.step ?_ (State.setRg_keeps _ _ _) rfl
        exact Keeps.refl _ _

theorem State.writeFaultRing_keeps (s) (z1) (z2) : Keeps 65548 s (State.writeFaultRing s z1 z2) := by
  unfold State.writeFaultRing
  extract_lets x1
  clear_value x1
  refine Keeps.ite ?_ ?_
  · refine Keeps.step ?_ (State.valueErr_keeps _ _ _ _) rfl
    exact Keeps.refl _ _
  · refine Keeps.step ?_ (State.setRg_keeps _ _ _) rfl
    exact Keeps.refl _ _

theorem State.writeFaultTarget_keeps (s) (z1) : Keeps 8 s (State.writeFaultTarget s z1) := by
  unfold State.writeFaultTarget
  refine Keeps.step ?_ (State.setRg_keeps _ _ _) rfl
  exact Keeps.refl _ _

theorem execFaultHeadWrite_keeps (z0) (z1) (s) : KeepsO 66572 s (execFaultHeadWrite z0 z1 s) := by
  unfold execFaultHeadWrite
  refine KeepsO.next ?_
  refine Keeps.step ?_ (State.writeFaultHead_keeps _ _ _) rfl
  exact Keeps.refl _ _

theorem execFaultCtrlWrite_keeps (z0) (z1) (s) : KeepsO 66572 s (execFaultCtrlWrite z0 z1 s) := by
  unfold execFaultCtrlWrite
  refine KeepsO.next ?_
  refine Keeps.step ?_ (State.writeFaultCtrl_keeps _ _ _) rfl
  exact Keeps.refl _ _

theorem State.respond_keeps (s) (z1) (z2) (z3) : Keeps 27908 s (State.respond s z1 z2 z3) := by
  unfold State.respond
  split
  · rename_i y1 y2
    refine Keeps.step ?_ (State.bump_keeps _ _) rfl
    exact Keeps.refl _ _
  · rename_i y3 y4 y5
    refine Keeps.step ?_ (State.resolve_keeps _ _ _ _) rfl
    refine Keeps.step ?_ (State.bump_keeps _ _) rfl
    exact Keeps.refl _ _

theorem State.respondMigrate_keeps (s) (z1) (z2) (z3) (z4) : Keeps 94108 s (State.respondMigrate s z1 z2 z3 z4) := by
  unfold State.respondMigrate
  split
  · rename_i y1 y2
    refine Keeps.step ?_ (State.bump_keeps _ _) rfl
    exact Keeps.refl _ _
  · rename_i y3 y4 y5
    extract_lets x6 x7 x8 x9
    clear_value x6
    have hx7 : Keeps 94108 s x7 := by
      unfold x7
      refine Keeps.step ?_ (State.valueErr_keeps _ _ _ _) rfl
      refine Keeps.step ?_ (State.resolve_keeps _ _ _ _) rfl
      refine Keeps.step ?_ (State.bump_keeps _ _) rfl
      exact Keeps.refl _ _
    clear_value x7
    clear_value x8
    refine Keeps.ite ?_ ?_
    · assumption
    · split
      · rename_i y10 y11
        assumption
      · rename_i y12 y13 y14
        refine Keeps.ite ?_ ?_
        · assumption
        · extract_lets x15 x16
          have hx15 : Keeps 94108 s x15 := by
            unfold x15
            refine Keeps.step ?_ (State.putParcel_keeps _ _ _) rfl
            exact Keeps.refl _ _
          clear_value x15
          have hx16 : Keeps 94108 s x16 := by
            unfold x16
            refine Keeps.step ?_ (State.recallSlots_keeps _ _) rfl
            refine Keeps.step ?_ (State.dropXlats_keeps _ _) rfl
            assumption
          clear_value x16
          refine Keeps.step ?_ (State.resolve_keeps _ _ _ _) rfl
          refine Keeps.step ?_ (State.bump_keeps _ _) rfl
          assumption

theorem State.respondBatch_keeps (s) (z1) (z2) : Keeps 27908 s (State.respondBatch s z1 z2) := by
  unfold State.respondBatch
  refine Keeps.each ?_ ?_
  · exact Keeps.refl _ _
  · intro a1 a2 a3
    refine Keeps.step ?_ (State.resolve_keeps _ _ _ _) rfl
    refine Keeps.step ?_ (State.bump_keeps _ _) rfl
    assumption

theorem State.writeFaultRespond_keeps (s) (z1) (z2) : Keeps 94108 s (State.writeFaultRespond s z1 z2) := by
  unfold State.writeFaultRespond
  extract_lets x1 x2
  clear_value x1
  clear_value x2
  split
  · rename_i y3 y4
    refine Keeps.step ?_ (State.respond_keeps _ _ _ _) rfl
    exact Keeps.refl _ _
  · rename_i y5 y6
    refine Keeps.step ?_ (State.respond_keeps _ _ _ _) rfl
    exact Keeps.refl _ _
  · rename_i y7 y8
    refine Keeps.step ?_ (State.respond_keeps _ _ _ _) rfl
    exact Keeps.refl _ _
  · rename_i y9 y10
    refine Keeps.step ?_ (State.respondMigrate_keeps _ _ _ _ _) rfl
    exact Keeps.refl _ _
  · rename_i y11 y12
    refine Keeps.step ?_ (State.respondMigrate_keeps _ _ _ _ _) rfl
    exact Keeps.refl _ _
  · rename_i y13 y14 y15 y16 y17 y18
    refine Keeps.step ?_ (State.valueErr_keeps _ _ _ _) rfl
    exact Keeps.refl _ _

theorem State.writeFaultRespondBatch_keeps (s) (z1) (z2) : Keeps 93452 s (State.writeFaultRespondBatch s z1 z2) := by
  unfold State.writeFaultRespondBatch
  split
  · rename_i y1 y2
    refine Keeps.step ?_ (State.respondBatch_keeps _ _ _) rfl
    exact Keeps.refl _ _
  · rename_i y3 y4
    refine Keeps.step ?_ (State.respondBatch_keeps _ _ _) rfl
    exact Keeps.refl _ _
  · rename_i y5 y6
    refine Keeps.step ?_ (State.respondBatch_keeps _ _ _) rfl
    exact Keeps.refl _ _
  · rename_i y7 y8 y9 y10
    refine Keeps.step ?_ (State.valueErr_keeps _ _ _ _) rfl
    exact Keeps.refl _ _

theorem execRetry_keeps (z0) (z1) (s) : KeepsO 27908 s (execRetry z0 z1 s) := by
  unfold execRetry
  refine KeepsO.next ?_
  refine Keeps.step ?_ (State.respond_keeps _ _ _ _) rfl
  exact Keeps.refl _ _

theorem execFail_keeps (z0) (z1) (s) : KeepsO 27908 s (execFail z0 z1 s) := by
  unfold execFail
  refine KeepsO.next ?_
  refine Keeps.step ?_ (State.respond_keeps _ _ _ _) rfl
  exact Keeps.refl _ _

theorem execDeny_keeps (z0) (z1) (s) : KeepsO 27908 s (execDeny z0 z1 s) := by
  unfold execDeny
  refine KeepsO.next ?_
  refine Keeps.step ?_ (State.respond_keeps _ _ _ _) rfl
  exact Keeps.refl _ _

theorem execMigrate4k_keeps (z0) (z1) (z2) (s) : KeepsO 94108 s (execMigrate4k z0 z1 z2 s) := by
  unfold execMigrate4k
  refine KeepsO.next ?_
  refine Keeps.step ?_ (State.respondMigrate_keeps _ _ _ _ _) rfl
  exact Keeps.refl _ _

theorem execMigrate2m_keeps (z0) (z1) (z2) (s) : KeepsO 94108 s (execMigrate2m z0 z1 z2 s) := by
  unfold execMigrate2m
  refine KeepsO.next ?_
  refine Keeps.step ?_ (State.respondMigrate_keeps _ _ _ _ _) rfl
  exact Keeps.refl _ _

theorem execBatchRetry_keeps (z0) (s) : KeepsO 27908 s (execBatchRetry z0 s) := by
  unfold execBatchRetry
  refine KeepsO.next ?_
  refine Keeps.step ?_ (State.respondBatch_keeps _ _ _) rfl
  exact Keeps.refl _ _

theorem execBatchFail_keeps (z0) (s) : KeepsO 27908 s (execBatchFail z0 s) := by
  unfold execBatchFail
  refine KeepsO.next ?_
  refine Keeps.step ?_ (State.respondBatch_keeps _ _ _) rfl
  exact Keeps.refl _ _

theorem execBatchDeny_keeps (z0) (s) : KeepsO 27908 s (execBatchDeny z0 s) := by
  unfold execBatchDeny
  refine KeepsO.next ?_
  refine Keeps.step ?_ (State.respondBatch_keeps _ _ _) rfl
  exact Keeps.refl _ _

theorem execFaultTimeout_keeps (z0) (s) : KeepsO 27909 s (execFaultTimeout z0 s) := by
  unfold execFaultTimeout
  extract_lets x1
  clear_value x1
  split
  · rename_i y2 y3 y4
    refine KeepsO.ite ?_ ?_
    · refine KeepsO.next ?_
      exact Keeps.refl _ _
    · refine KeepsO.next ?_
      refine Keeps.step ?_ (State.resolve_keeps _ _ _ _) rfl
      refine Keeps.step ?_ (State.bump_keeps _ _) rfl
      refine Keeps.step ?_ (State.until__keeps _ _) rfl
      exact Keeps.refl _ _
  · rename_i y5 y6
    refine KeepsO.next ?_
    exact Keeps.refl _ _

theorem execPageRequestSend_keeps (s) : KeepsO 66965 s (execPageRequestSend s) := by
  unfold execPageRequestSend
  extract_lets x1 x2 x3 x4 x5
  have hx2 : Keeps 66965 s x2 := by
    unfold x2
    refine Keeps.ite ?_ ?_
    · refine Keeps.step ?_ (State.until__keeps _ _) rfl
      exact Keeps.refl _ _
    · exact Keeps.refl _ _
  clear_value x2
  clear_value x4
  split
  · rename_i y6 y7
    refine KeepsO.next ?_
    exact Keeps.refl _ _
  · rename_i y8 y9 y10
    refine KeepsO.ite ?_ ?_
    · refine KeepsO.next ?_
      exact Keeps.refl _ _
    · extract_lets x11
      have hx11 : Keeps 66965 s x11 := by
        unfold x11
        refine Keeps.setflt (m := 66965) _ ?_ rfl
        assumption
      clear_value x11
      refine KeepsO.next ?_
      refine Keeps.each ?_ ?_
      · assumption
      · intro a12 a13 a14
        refine Keeps.step ?_ (State.bump_keeps _ _) rfl
        refine Keeps.step ?_ (State.post_keeps _ _) rfl
        assumption

theorem State.prgUnexpectedOp_keeps (s) : Keeps 20 s (State.prgUnexpectedOp s) := by
  unfold State.prgUnexpectedOp
  refine Keeps.step ?_ (State.bump_keeps _ _) rfl
  refine Keeps.step ?_ (State.orCfg_keeps _ _ _) rfl
  exact Keeps.refl _ _

theorem State.prgResponse_keeps (s) (z1) (z2) (z3) : Keeps 27924 s (State.prgResponse s z1 z2 z3) := by
  unfold State.prgResponse
  refine Keeps.ite ?_ ?_
  · exact Keeps.refl _ _
  · split
    · rename_i y1 y2
      refine Keeps.step ?_ (State.prgUnexpectedOp_keeps _) rfl
      exact Keeps.refl _ _
    · rename_i y3 y4 y5
      extract_lets x6 x7 x8 x9
      clear_value x6
      have hx8 : Keeps 27924 s x8 := by
        unfold x8
        refine Keeps.setflt (m := 27924) _ ?_ rfl
        exact Keeps.refl _ _
      clear_value x8
      have hx9 : Keeps 27924 s x9 := by
        unfold x9
        refine Keeps.each ?_ ?_
        · assumption
        · intro a10 a11 a12
          refine Keeps.step ?_ (State.resolve_keeps _ _ _ _) rfl
          assumption
      clear_value x9
      refine Keeps.ite ?_ ?_
      · refine Keeps.step ?_ (State.bump_keeps _ _) rfl
        assumption
      · assumption

theorem execPrgResponseSuccess_keeps (z0) (z1) (s) : KeepsO 27924 s (execPrgResponseSuccess z0 z1 s) := by
  unfold execPrgResponseSuccess
  refine KeepsO.next ?_
  refine Keeps.step ?_ (State.prgResponse_keeps _ _ _ _) rfl
  exact Keeps.refl _ _

theorem execPrgResponseInvalid_keeps (z0) (z1) (s) : KeepsO 27924 s (execPrgResponseInvalid z0 z1 s) := by
  unfold execPrgResponseInvalid
  refine KeepsO.next ?_
  refine Keeps.step ?_ (State.prgResponse_keeps _ _ _ _) rfl
  exact Keeps.refl _ _

theorem execPrgResponseFailure_keeps (z0) (z1) (s) : KeepsO 27924 s (execPrgResponseFailure z0 z1 s) := by
  unfold execPrgResponseFailure
  refine KeepsO.ite ?_ ?_
  · refine KeepsO.next ?_
    exact Keeps.refl _ _
  · split
    · rename_i y1 y2
      refine KeepsO.next ?_
      refine Keeps.step ?_ (State.prgUnexpectedOp_keeps _) rfl
      exact Keeps.refl _ _
    · rename_i y3 y4 y5
      extract_lets x6 x7 x8 x9
      clear_value x6
      have hx7 : Keeps 27924 s x7 := by
        unfold x7
        refine Keeps.step ?_ (State.prgResponse_keeps _ _ _ _) rfl
        exact Keeps.refl _ _
      clear_value x7
      have hx8 : Keeps 27924 s x8 := by
        unfold x8
        refine Keeps.step ?_ (State.orCfg_keeps _ _ _) rfl
        assumption
      clear_value x8
      refine KeepsO.ite ?_ ?_
      · refine KeepsO.next ?_
        assumption
      · refine KeepsO.next ?_
        refine Keeps.setflt (m := 27924) _ ?_ rfl
        assumption

theorem execPrgResponseUnexpected_keeps (z0) (z1) (s) : KeepsO 20 s (execPrgResponseUnexpected z0 z1 s) := by
  unfold execPrgResponseUnexpected
  refine KeepsO.ite ?_ ?_
  · refine KeepsO.next ?_
    exact Keeps.refl _ _
  · split
    · rename_i y1 y2
      refine KeepsO.next ?_
      refine Keeps.step ?_ (State.prgUnexpectedOp_keeps _) rfl
      exact Keeps.refl _ _
    · rename_i y3 y4 y5
      refine KeepsO.next ?_
      exact Keeps.refl _ _

theorem State.priResetOp_keeps (s) : Keeps 1024 s (State.priResetOp s) := by
  unfold State.priResetOp
  refine Keeps.setflt (m := 1024) _ ?_ rfl
  exact Keeps.refl _ _

theorem execPriReset_keeps (s) : KeepsO 1024 s (execPriReset s) := by
  unfold execPriReset
  refine KeepsO.next ?_
  refine Keeps.step ?_ (State.priResetOp_keeps _) rfl
  exact Keeps.refl _ _

end Sys2Proof.Machine
end

