-- ==== Sys2Proof/Laws/FootMigr.lean ====
section
/-! SUPPORT. The footprints of the operations of Machine/Migr.lean. -/

namespace Sys2Proof.Machine

theorem State.listRegion_keeps (s) (z1) (z2) : Keeps 2048 s (State.listRegion s z1 z2) := by
  unfold State.listRegion
  refine Keeps.ite ?_ ?_
  · exact Keeps.refl _ _
  · refine Keeps.ite ?_ ?_
    · refine Keeps.setmig (m := 2048) _ ?_ rfl
      exact Keeps.refl _ _
    · refine Keeps.setmig (m := 2048) _ ?_ rfl
      exact Keeps.refl _ _

theorem execMigEpoch_keeps (s) : KeepsO 2048 s (execMigEpoch s) := by
  unfold execMigEpoch
  extract_lets x1 x2 x3 x4 x5
  clear_value x1
  clear_value x3
  have hx5 : Keeps 2048 s x5 := by
    unfold x5
    refine Keeps.setmig (m := 2048) _ ?_ rfl
    exact Keeps.refl _ _
  clear_value x5
  refine KeepsO.next ?_
  refine Keeps.step ?_ (State.listHot_keeps _) rfl
  refine Keeps.each ?_ ?_
  · assumption
  · intro a6 a7 a8
    refine Keeps.step ?_ (State.listRegion_keeps _ _ _) rfl
    assumption

theorem State.unlist_keeps (s) : Keeps 2048 s (State.unlist s) := by
  unfold State.unlist
  refine Keeps.setmig (m := 2048) _ ?_ rfl
  exact Keeps.refl _ _

theorem State.writeMigWindow_keeps (s) (z1) (z2) (z3) (z4) : Keeps 65548 s (State.writeMigWindow s z1 z2 z3 z4) := by
  unfold State.writeMigWindow
  extract_lets x1 x2 x3
  clear_value x1
  clear_value x2
  clear_value x3
  split
  · rename_i y4
    refine Keeps.ite ?_ ?_
    · refine Keeps.ite ?_ ?_
      · exact Keeps.refl _ _
      · refine Keeps.step ?_ (State.valueErr_keeps _ _ _ _) rfl
        exact Keeps.refl _ _
    · refine Keeps.step ?_ (State.setRg_keeps _ _ _) rfl
      exact Keeps.refl _ _
  · rename_i y5 y6
    refine Keeps.ite ?_ ?_
    · refine Keeps.step ?_ (State.valueErr_keeps _ _ _ _) rfl
      exact Keeps.refl _ _
    · refine Keeps.step ?_ (State.setRg_keeps _ _ _) rfl
      exact Keeps.refl _ _

theorem execMigWindowWrite_keeps (z0) (z1) (z2) (z3) (s) : KeepsO 65548 s (execMigWindowWrite z0 z1 z2 z3 s) := by
  unfold execMigWindowWrite
  refine KeepsO.next ?_
  refine Keeps.step ?_ (State.writeMigWindow_keeps _ _ _ _ _) rfl
  exact Keeps.refl _ _

theorem State.writeMigPool_keeps (s) (z1) (z2) : Keeps 65548 s (State.writeMigPool s z1 z2) := by
  unfold State.writeMigPool
  extract_lets x1
  clear_value x1
  refine Keeps.ite ?_ ?_
  · refine Keeps.step ?_ (State.valueErr_keeps _ _ _ _) rfl
    exact Keeps.refl _ _
  · refine Keeps.step ?_ (State.setRg_keeps _ _ _) rfl
    exact Keeps.refl _ _

theorem execMigPoolWrite_keeps (z0) (z1) (s) : KeepsO 65548 s (execMigPoolWrite z0 z1 s) := by
  unfold execMigPoolWrite
  refine KeepsO.next ?_
  refine Keeps.step ?_ (State.writeMigPool_keeps _ _ _) rfl
  exact Keeps.refl _ _

theorem State.readHotNext_keeps (s) (z1) : KeepsP 2048 s (State.readHotNext s z1) := by
  unfold State.readHotNext
  split
  · rename_i y1 y2 y3 y4 y5
    refine KeepsP.ite ?_ ?_
    · refine KeepsP.mk ?_
      refine Keeps.ite ?_ ?_
      · refine Keeps.step ?_ (State.listHot_keeps _) rfl
        refine Keeps.step ?_ (State.unlist_keeps _) rfl
        exact Keeps.refl _ _
      · exact Keeps.refl _ _
    · refine KeepsP.mk ?_
      exact Keeps.refl _ _
  · rename_i y6 y7
    refine KeepsP.mk ?_
    exact Keeps.refl _ _

end Sys2Proof.Machine
end

