-- ==== Sys2Proof/Laws/FootSow.lean ====
section
/-! SUPPORT. The footprints of the operations of Machine/Sow.lean. -/

namespace Sys2Proof.Machine

theorem State.setLot_keeps (s) (z1) (z2) : Keeps 268435456 s (State.setLot s z1 z2) := by
  unfold State.setLot
  refine Keeps.setseed (m := 268435456) _ ?_ rfl
  exact Keeps.refl _ _

theorem State.setSeed_keeps (s) (z1) : Keeps 268435456 s (State.setSeed s z1) := by
  unfold State.setSeed
  refine Keeps.setseed (m := 268435456) _ ?_ rfl
  exact Keeps.refl _ _

theorem State.resolveAt_keeps (s) (z1) (z2) (z3) (z4) (z5) : KeepsP 94100 s (State.resolveAt s z1 z2 z3 z4 z5) := by
  unfold State.resolveAt
  split
  · rename_i y1
    refine KeepsP.step ?_ (State.lookup_keeps _ _ _ _ _) rfl
    exact Keeps.refl _ _
  · rename_i y2
    refine KeepsP.step ?_ (State.lookup_keeps _ _ _ _ _) rfl
    exact Keeps.refl _ _
  · rename_i y3 y4 y5
    refine KeepsP.step ?_ (State.lookupTilth_keeps _ _ _ _) rfl
    exact Keeps.refl _ _

theorem State.resolveStart_keeps (s) (z1) (z2) (z3) (z4) : KeepsP 94100 s (State.resolveStart s z1 z2 z3 z4) := by
  unfold State.resolveStart
  split
  · rename_i y1
    refine KeepsP.step ?_ (State.resolveAt_keeps _ _ _ _ _ _) rfl
    exact Keeps.refl _ _
  · rename_i y2
    refine KeepsP.step ?_ (State.resolveAt_keeps _ _ _ _ _ _) rfl
    exact Keeps.refl _ _
  · rename_i y3
    refine KeepsP.step ?_ (State.resolveAt_keeps _ _ _ _ _ _) rfl
    exact Keeps.refl _ _
  · rename_i y4
    split
    · rename_i y5 y6 y7
      refine KeepsP.ite ?_ ?_
      · refine KeepsP.mk ?_
        exact Keeps.refl _ _
      · refine KeepsP.mk ?_
        refine Keeps.step ?_ (State.deny_keeps _) rfl
        exact Keeps.refl _ _
    · rename_i y8 y9
      refine KeepsP.mk ?_
      refine Keeps.step ?_ (State.deny_keeps _) rfl
      exact Keeps.refl _ _
  · rename_i y10
    split
    · rename_i y11 y12 y13
      refine KeepsP.ite ?_ ?_
      · refine KeepsP.mk ?_
        exact Keeps.refl _ _
      · refine KeepsP.mk ?_
        refine Keeps.step ?_ (State.deny_keeps _) rfl
        exact Keeps.refl _ _
    · rename_i y14 y15
      refine KeepsP.mk ?_
      refine Keeps.step ?_ (State.deny_keeps _) rfl
      exact Keeps.refl _ _
  · rename_i y16 y17 y18 y19 y20 y21
    refine KeepsP.mk ?_
    exact Keeps.refl _ _

theorem aheadLoop_keeps (z0) (s) (z2) (z3) (z4) (z5) (z6) (z7) : KeepsP 94100 s (aheadLoop z0 s z2 z3 z4 z5 z6 z7) := by
  induction z0 generalizing s z2 z3 z4 z5 z6 z7 with
  | zero =>
    unfold aheadLoop
    refine KeepsP.mk ?_
    exact Keeps.refl _ _
  | succ n ih =>
    unfold aheadLoop
    refine KeepsP.ite ?_ ?_
    · refine KeepsP.mk ?_
      exact Keeps.refl _ _
    · split
      · rename_i y1 y2 y3
        refine KeepsP.step ?_ (ih _ _ _ _ _ _ _) rfl
        exact Keeps.refl _ _
      · rename_i y4 y5
        extract_lets x6 x7 x8 x9
        clear_value x6
        clear_value x7
        have hx8 : KeepsP 94100 s x8 := by
          unfold x8
          refine KeepsP.step ?_ (State.resolveAt_keeps _ _ _ _ _ _) rfl
          exact Keeps.refl _ _
        clear_value x8
        clear_value x9
        refine KeepsP.ite ?_ ?_
        · refine KeepsP.step ?_ (ih _ _ _ _ _ _ _) rfl
          exact Keeps.refl _ _
        · split
          · rename_i y10 y11 y12 y13
            extract_lets x14
            clear_value x14
            refine KeepsP.step ?_ (ih _ _ _ _ _ _ _) rfl
            refine KeepsP.fst ?_
            assumption
          · rename_i y15 y16
            refine KeepsP.step ?_ (ih _ _ _ _ _ _ _) rfl
            refine Keeps.step ?_ (State.failStream_keeps _ _ _ _ _) rfl
            refine KeepsP.fst ?_
            assumption
          · rename_i y17 y18
            refine KeepsP.ite ?_ ?_
            · refine KeepsP.mk ?_
              refine KeepsP.fst ?_
              assumption
            · refine KeepsP.step ?_ (ih _ _ _ _ _ _ _) rfl
              refine KeepsP.fst ?_
              assumption

theorem State.sowFail_keeps (s) (z1) (z2) (z3) (z4) : Keeps 256 s (State.sowFail s z1 z2 z3 z4) := by
  unfold State.sowFail
  refine Keeps.step ?_ (State.modSlot_keeps _ _ _ _) rfl
  exact Keeps.refl _ _

theorem State.sowRanges_keeps (s) (z1) (z2) (z3) : KeepsP 94100 s (State.sowRanges s z1 z2 z3) := by
  unfold State.sowRanges
  refine KeepsP.foldl ?_ ?_
  · refine KeepsP.mk ?_
    exact Keeps.refl _ _
  · intro a1 a2 a3
    refine KeepsP.ite ?_ ?_
    · assumption
    · extract_lets x4 x5
      have hx5 : KeepsP 94100 s x5 := by
        unfold x5
        refine KeepsP.step ?_ (State.resolveStart_keeps _ _ _ _ _) rfl
        refine KeepsP.fst ?_
        assumption
      clear_value x5
      split
      · rename_i y6 y7 y8 y9
        refine KeepsP.ite ?_ ?_
        · refine KeepsP.mk ?_
          refine KeepsP.fst ?_
          assumption
        · extract_lets x10
          refine KeepsP.mk ?_
          refine Keeps.step ?_ (State.modSlot_keeps _ _ _ _) rfl
          refine KeepsP.fst ?_
          assumption
      · rename_i y11 y12
        refine KeepsP.mk ?_
        refine Keeps.step ?_ (State.sowFail_keeps _ _ _ _ _) rfl
        refine KeepsP.fst ?_
        assumption
      · rename_i y13 y14
        refine KeepsP.mk ?_
        refine KeepsP.fst ?_
        assumption

theorem State.slotAhead_keeps (s) (z1) (z2) : Keeps 94100 s (State.slotAhead s z1 z2) := by
  unfold State.slotAhead
  split
  · rename_i y1 y2
    exact Keeps.refl _ _
  · rename_i y3 y4 y5
    refine Keeps.ite ?_ ?_
    · exact Keeps.refl _ _
    · refine Keeps.each ?_ ?_
      · exact Keeps.refl _ _
      · intro a6 a7 a8
        extract_lets x9 x10 x11
        clear_value x9
        have hx11 : KeepsP 94100 s x11 := by
          unfold x11
          refine KeepsP.step ?_ (aheadLoop_keeps _ _ _ _ _ _ _ _) rfl
          assumption
        clear_value x11
        refine Keeps.step ?_ (State.modSlot_keeps _ _ _ _) rfl
        refine KeepsP.fst ?_
        assumption

theorem State.sowTail_keeps (s) (z1) (z2) : KeepsP 94100 s (State.sowTail s z1 z2) := by
  unfold State.sowTail
  split
  · rename_i y1 y2
    refine KeepsP.mk ?_
    exact Keeps.refl _ _
  · rename_i y3 y4 y5
    extract_lets x6 x7
    clear_value x6
    have hx7 : KeepsP 94100 s x7 := by
      unfold x7
      refine KeepsP.step ?_ (State.lookup_keeps _ _ _ _ _) rfl
      exact Keeps.refl _ _
    clear_value x7
    split
    rename_i y8 y9 y10 y11
    have h12 : Keeps 94100 s y9 := by
      refine KeepsP.ofEq ?_ y11
      refine KeepsP.ite ?_ ?_
      · refine KeepsP.ite ?_ ?_
        · refine KeepsP.mk ?_
          refine Keeps.step ?_ (State.modSlot_keeps _ _ _ _) rfl
          exact Keeps.refl _ _
        · split
          · rename_i y13 y14 y15 y16
            refine KeepsP.mk ?_
            refine Keeps.step ?_ (State.modSlot_keeps _ _ _ _) rfl
            refine KeepsP.fst ?_
            assumption
          · rename_i y17 y18
            refine KeepsP.mk ?_
            refine Keeps.step ?_ (State.sowFail_keeps _ _ _ _ _) rfl
            refine Keeps.step ?_ (State.modSlot_keeps _ _ _ _) rfl
            refine KeepsP.fst ?_
            assumption
          · rename_i y19 y20
            refine KeepsP.mk ?_
            refine KeepsP.fst ?_
            assumption
      · refine KeepsP.mk ?_
        exact Keeps.refl _ _
    refine KeepsP.ite ?_ ?_
    · extract_lets x21 x22
      clear_value x21
      have hx22 : KeepsP 94100 s x22 := by
        unfold x22
        refine KeepsP.step ?_ (State.lookup_keeps _ _ _ _ _) rfl
        assumption
      clear_value x22
      split
      · rename_i y23 y24 y25 y26
        refine KeepsP.mk ?_
        refine Keeps.step ?_ (State.modSlot_keeps _ _ _ _) rfl
        refine KeepsP.fst ?_
        assumption
      · rename_i y27 y28
        refine KeepsP.mk ?_
        refine Keeps.step ?_ (State.sowFail_keeps _ _ _ _ _) rfl
        refine Keeps.step ?_ (State.modSlot_keeps _ _ _ _) rfl
        refine KeepsP.fst ?_
        assumption
      · rename_i y29 y30
        refine KeepsP.mk ?_
        refine KeepsP.fst ?_
        assumption
    · refine KeepsP.mk ?_
      assumption

theorem State.sowTry_keeps (s) (z1) (z2) : Keeps 94100 s (State.sowTry s z1 z2) := by
  unfold State.sowTry
  split
  · rename_i y1 y2
    exact Keeps.refl _ _
  · rename_i y3 y4 y5
    refine Keeps.ite ?_ ?_
    · exact Keeps.refl _ _
    · refine Keeps.ite ?_ ?_
      · refine Keeps.step ?_ (State.slotAhead_keeps _ _ _) rfl
        exact Keeps.refl _ _
      · extract_lets x6 x7
        clear_value x7
        split
        rename_i y8 y9 y10 y11
        have h12 : Keeps 94100 s y9 := by
          refine KeepsP.ofEq ?_ y11
          refine KeepsP.ite ?_ ?_
          · refine KeepsP.mk ?_
            exact Keeps.refl _ _
          · refine KeepsP.step ?_ (State.sowRanges_keeps _ _ _ _) rfl
            exact Keeps.refl _ _
        extract_lets x13 x14
        have hx13 : Keeps 94100 s x13 := by
          unfold x13
          refine Keeps.ite ?_ ?_
          · refine Keeps.step ?_ (State.sowFail_keeps _ _ _ _ _) rfl
            assumption
          · assumption
        clear_value x13
        clear_value x14
        split
        rename_i y15 y16 y17 y18
        have h19 : Keeps 94100 s y16 := by
          refine KeepsP.ofEq ?_ y18
          refine KeepsP.step ?_ (State.sowTail_keeps _ _ _) rfl
          assumption
        refine Keeps.ite ?_ ?_
        · assumption
        · refine Keeps.ite ?_ ?_
          · assumption
          · refine Keeps.step ?_ (State.slotAhead_keeps _ _ _) rfl
            refine Keeps.step ?_ (State.modSlot_keeps _ _ _ _) rfl
            assumption

theorem State.sowAhead_keeps (s) (z1) : Keeps 94100 s (State.sowAhead s z1) := by
  unfold State.sowAhead
  refine Keeps.each ?_ ?_
  · exact Keeps.refl _ _
  · intro a1 a2 a3
    refine Keeps.step ?_ (State.sowTry_keeps _ _ _) rfl
    assumption

theorem State.cancelTry_keeps (s) (z1) (z2) : Keeps 33685404 s (State.cancelTry s z1 z2) := by
  unfold State.cancelTry
  extract_lets x1
  have hx1 : Keeps 33685404 s x1 := by
    unfold x1
    refine Keeps.step ?_ (State.sowTry_keeps _ _ _) rfl
    exact Keeps.refl _ _
  clear_value x1
  split
  · rename_i y2 y3 y4
    split
    · rename_i y5 y6 y7
      assumption
    · rename_i y8 y9 y10
      assumption
    · rename_i y11 y12 y13 y14 y15 y16
      refine Keeps.step ?_ (State.finish_keeps _ _ _ _ _ _) rfl
      assumption
    · rename_i y17 y18 y19 y20 y21
      assumption
  · rename_i y22 y23
    assumption

theorem State.pushSlot_keeps (s) (z1) (z2) (z3) (z4) : Keeps 260 s (State.pushSlot s z1 z2 z3 z4) := by
  unfold State.pushSlot
  extract_lets x1 x2 x3 x4 x5 x6 x7
  have hx3 : Keeps 260 s x3 := by
    unfold x3
    refine Keeps.step ?_ (State.setFur_keeps _ _ _) rfl
    exact Keeps.refl _ _
  have hx5 : Keeps 260 s x5 := by
    unfold x5
    refine Keeps.setg (m := 260) _ ?_ id id rfl
    assumption
  have hx6 : Keeps 260 s x6 := by
    unfold x6
    refine Keeps.ite ?_ ?_
    · refine Keeps.step ?_ (State.bump_keeps _ _) rfl
      assumption
    · assumption
  have hx7 : Keeps 260 s x7 := by
    unfold x7
    refine Keeps.ite ?_ ?_
    · refine Keeps.step ?_ (State.setVal_keeps _ _ _) rfl
      assumption
    · assumption
  clear_value x7
  refine Keeps.ite ?_ ?_
  · refine Keeps.step ?_ (State.bump_keeps _ _) rfl
    assumption
  · assumption

theorem State.accept_keeps (s) (z1) (z2) (z3) : Keeps 94100 s (State.accept s z1 z2 z3) := by
  unfold State.accept
  extract_lets x1 x2
  clear_value x1
  have hx2 : Keeps 94100 s x2 := by
    unfold x2
    refine Keeps.ite ?_ ?_
    · refine Keeps.step ?_ (State.deny_keeps _) rfl
      exact Keeps.refl _ _
    · exact Keeps.refl _ _
  clear_value x2
  refine Keeps.step ?_ (State.sowAhead_keeps _ _) rfl
  refine Keeps.step ?_ (State.pushSlot_keeps _ _ _ _ _) rfl
  assumption

theorem State.unstage_keeps (s) (z1) : Keeps 256 s (State.unstage s z1) := by
  unfold State.unstage
  refine Keeps.setg (m := 256) _ ?_ id id rfl
  exact Keeps.refl _ _

theorem State.takeEntry_keeps (s) (z1) (z2) : Keeps 94100 s (State.takeEntry s z1 z2) := by
  unfold State.takeEntry
  extract_lets x1 x2 x3
  have hx3 : Keeps 94100 s x3 := by
    unfold x3
    refine Keeps.step ?_ (State.setFur_keeps _ _ _) rfl
    exact Keeps.refl _ _
  clear_value x3
  refine Keeps.step ?_ (State.accept_keeps _ _ _ _) rfl
  refine Keeps.step ?_ (State.bump_keeps _ _) rfl
  assumption

theorem State.takeNext_keeps (s) (z1) : KeepsS 33685404 s (State.takeNext s z1) := by
  unfold State.takeNext
  extract_lets x1 x2
  have hx2 : KeepsS 33685404 s x2 := by
    unfold x2
    refine KeepsS.map ?_
    intro a3
    refine Keeps.step ?_ (State.takeEntry_keeps _ _ _) rfl
    exact Keeps.refl _ _
  clear_value x2
  refine KeepsS.ite ?_ ?_
  · exact KeepsS.none
  · split
    · rename_i y4 y5
      exact KeepsS.none
    · rename_i y6 y7
      refine KeepsS.map ?_
      intro a8
      refine Keeps.step ?_ (State.cancelTry_keeps _ _ _) rfl
      refine Keeps.step ?_ (State.pushSlot_keeps _ _ _ _ _) rfl
      refine Keeps.step ?_ (State.unstage_keeps _ _) rfl
      exact Keeps.refl _ _
    · rename_i y9 y10 y11
      split
      · rename_i y12 y13 y14 y15
        refine KeepsS.ite ?_ ?_
        · refine KeepsS.some ?_
          refine Keeps.step ?_ (State.accept_keeps _ _ _ _) rfl
          refine Keeps.step ?_ (State.unstage_keeps _ _) rfl
          exact Keeps.refl _ _
        · assumption
      · rename_i y16 y17
        assumption

theorem takeLoop_keeps (z0) (s) (z2) : Keeps 33685404 s (takeLoop z0 s z2) := by
  induction z0 generalizing s z2 with
  | zero =>
    unfold takeLoop
    exact Keeps.refl _ _
  | succ n ih =>
    unfold takeLoop
    split
    · rename_i y1 y2 y3
      have h4 : Keeps 33685404 s y2 := by
        refine KeepsS.ofEq ?_ y3
        refine KeepsS.step ?_ (State.takeNext_keeps _ _) rfl
        exact Keeps.refl _ _
      refine Keeps.step ?_ (ih _ _) rfl
      assumption
    · rename_i y5 y6
      exact Keeps.refl _ _

theorem State.acceptAll_keeps (s) (z1) : Keeps 33685404 s (State.acceptAll s z1) := by
  unfold State.acceptAll
  refine Keeps.step ?_ (takeLoop_keeps _ _ _) rfl
  exact Keeps.refl _ _

theorem State.settleStakes_keeps (s) : Keeps 33685404 s (State.settleStakes s) := by
  unfold State.settleStakes
  extract_lets x1
  have hx1 : Keeps 33685404 s x1 := by
    unfold x1
    refine Keeps.step ?_ (State.releaseWaits_keeps _) rfl
    exact Keeps.refl _ _
  clear_value x1
  refine Keeps.each ?_ ?_
  · assumption
  · intro a2 a3 a4
    refine Keeps.step ?_ (State.acceptAll_keeps _ _) rfl
    assumption

end Sys2Proof.Machine
end

