-- ==== Sys2Proof/Laws/FootDrill.lean ====
section
/-! SUPPORT. The footprints of the operations of Machine/Drill.lean. -/

namespace Sys2Proof.Machine

theorem State.modXfer_keeps (s) (z1) (z2) (z3) : Keeps 8192 s (State.modXfer s z1 z2 z3) := by
  unfold State.modXfer
  refine Keeps.step ?_ (State.setRow_keeps _ _ _) rfl
  exact Keeps.refl _ _

theorem State.noteHopper_keeps (s) : Keeps 4 s (State.noteHopper s) := by
  unfold State.noteHopper
  extract_lets x1
  clear_value x1
  refine Keeps.ite ?_ ?_
  · refine Keeps.step ?_ (State.setVal_keeps _ _ _) rfl
    exact Keeps.refl _ _
  · exact Keeps.refl _ _

theorem State.takeHopper_keeps (s) (z1) (z2) : KeepsP 8192 s (State.takeHopper s z1 z2) := by
  unfold State.takeHopper
  extract_lets x1 x2
  clear_value x1
  refine KeepsP.mk ?_
  refine Keeps.step ?_ (State.setRow_keeps _ _ _) rfl
  exact Keeps.refl _ _

theorem extendLoop_keeps (z0) (s) (z2) (z3) (z4) : KeepsP 94100 s (extendLoop z0 s z2 z3 z4) := by
  induction z0 generalizing s z2 z3 z4 with
  | zero =>
    unfold extendLoop
    refine KeepsP.mk ?_
    exact Keeps.refl _ _
  | succ n ih =>
    unfold extendLoop
    split
    · rename_i y1 y2
      refine KeepsP.mk ?_
      exact Keeps.refl _ _
    · rename_i y3 y4 y5
      extract_lets x6 x7 x8
      clear_value x7
      have hx8 : KeepsP 94100 s x8 := by
        unfold x8
        refine KeepsP.step ?_ (State.resolveAt_keeps _ _ _ _ _ _) rfl
        exact Keeps.refl _ _
      clear_value x8
      refine KeepsP.ite ?_ ?_
      · refine KeepsP.mk ?_
        exact Keeps.refl _ _
      · split
        · rename_i y9 y10
          refine KeepsP.mk ?_
          refine KeepsP.fst ?_
          assumption
        · rename_i y11 y12
          refine KeepsP.mk ?_
          refine KeepsP.fst ?_
          assumption
        · rename_i y13 y14 y15 y16
          extract_lets x17 x18
          have hx18 : Keeps 94100 s x18 := by
            unfold x18
            refine Keeps.step ?_ (State.modXfer_keeps _ _ _ _) rfl
            refine KeepsP.fst ?_
            assumption
          refine KeepsP.ite ?_ ?_
          · refine KeepsP.mk ?_
            refine Keeps.step ?_ (State.modXfer_keeps _ _ _ _) rfl
            assumption
          · refine KeepsP.step ?_ (ih _ _ _ _) rfl
            assumption

theorem State.judge_keeps (s) (z1) (z2) : KeepsP 94100 s (State.judge s z1 z2) := by
  unfold State.judge
  split
  · rename_i y1 y2
    refine KeepsP.mk ?_
    exact Keeps.refl _ _
  · rename_i y3 y4 y5
    refine KeepsP.ite ?_ ?_
    · refine KeepsP.mk ?_
      exact Keeps.refl _ _
    · extract_lets x6 x7 x8
      have hx6 : KeepsP 94100 s x6 := by
        unfold x6
        refine KeepsP.step ?_ (extendLoop_keeps _ _ _ _ _) rfl
        exact Keeps.refl _ _
      clear_value x6
      have hx7 : KeepsP 94100 s x7 := by
        unfold x7
        refine KeepsP.ite ?_ ?_
        · refine KeepsP.step ?_ (extendLoop_keeps _ _ _ _ _) rfl
          refine KeepsP.fst ?_
          assumption
        · refine KeepsP.mk ?_
          refine KeepsP.fst ?_
          assumption
      clear_value x7
      clear_value x8
      refine KeepsP.ite ?_ ?_
      · refine KeepsP.mk ?_
        refine KeepsP.fst ?_
        assumption
      · refine KeepsP.mk ?_
        refine Keeps.step ?_ (State.modXfer_keeps _ _ _ _) rfl
        refine KeepsP.fst ?_
        assumption

theorem State.feedReport_keeps (s) (z1) (z2) (z3) : Keeps 24580 s (State.feedReport s z1 z2 z3) := by
  unfold State.feedReport
  extract_lets x1
  split
  · rename_i y2 y3
    exact Keeps.refl _ _
  · rename_i y4 y5 y6 y7 y8 y9
    extract_lets x10
    have hx10 : Keeps 24580 s x10 := by
      unfold x10
      refine Keeps.step ?_ (State.setFeed_keeps _ _ _ _) rfl
      exact Keeps.refl _ _
    clear_value x10
    refine Keeps.step ?_ (State.bump_keeps _ _) rfl
    refine Keeps.step ?_ (State.modPlot_keeps _ _ _ (by first | exact fun _ h => h | exact fun _ _ => ⟨rfl, rfl⟩ | (intro x h; dsimp only; split <;> exact h) | (intro x h; split <;> exact h) | (intro x h; beta_reduce; split <;> exact h))) rfl
    assumption

theorem State.unbindFeed_keeps (s) (z1) (z2) : Keeps 24580 s (State.unbindFeed s z1 z2) := by
  unfold State.unbindFeed
  refine Keeps.ite ?_ ?_
  · exact Keeps.refl _ _
  · extract_lets x1 x2 x3
    have hx2 : Keeps 24580 s x2 := by
      unfold x2
      split
      · rename_i y4 y5 y6 y7 y8
        refine Keeps.step ?_ (State.feedReport_keeps _ _ _ _) rfl
        exact Keeps.refl _ _
      · rename_i y9 y10
        exact Keeps.refl _ _
    clear_value x2
    refine Keeps.ite ?_ ?_
    · exact Keeps.refl _ _
    · refine Keeps.step ?_ (State.setFeed_keeps _ _ _ _) rfl
      assumption

theorem State.dropReads_keeps (s) (z1) (z2) : Keeps 2097280 s (State.dropReads s z1 z2) := by
  unfold State.dropReads
  refine Keeps.step (m' := 2097280) (t := s) ?_ (by constructor <;> first | exact fun b => Bool.noConfusion b | exact fun _ => rfl | exact rfl | exact Nat.le_refl _ | exact id) rfl
  exact Keeps.refl _ _

theorem State.popXfer_keeps (s) (z1) (z2) : Keeps 2191252 s (State.popXfer s z1 z2) := by
  unfold State.popXfer
  extract_lets x1 x2
  have hx1 : Keeps 2191252 s x1 := by
    unfold x1
    refine Keeps.step ?_ (State.leaveFaults_keeps _ _) rfl
    refine Keeps.step ?_ (State.dropReads_keeps _ _ _) rfl
    refine Keeps.step ?_ (State.unbindFeed_keeps _ _ _) rfl
    exact Keeps.refl _ _
  clear_value x1
  refine Keeps.step ?_ (State.setRow_keeps _ _ _) rfl
  assumption

theorem State.rowIdle_keeps (s) (z1) : Keeps 8192 s (State.rowIdle s z1) := by
  unfold State.rowIdle
  extract_lets x1
  refine Keeps.ite ?_ ?_
  · exact Keeps.refl _ _
  · split
    · rename_i y2 y3
      refine Keeps.step ?_ (State.setRow_keeps _ _ _) rfl
      exact Keeps.refl _ _
    · rename_i y4 y5
      refine Keeps.step ?_ (State.setRow_keeps _ _ _) rfl
      exact Keeps.refl _ _
    · rename_i y6 y7
      refine Keeps.step ?_ (State.setRow_keeps _ _ _) rfl
      exact Keeps.refl _ _
    · rename_i y8 y9 y10 y11
      exact Keeps.refl _ _

theorem State.stopPool_keeps (s) (z1) : Keeps 8192 s (State.stopPool s z1) := by
  unfold State.stopPool
  extract_lets x1
  refine Keeps.ite ?_ ?_
  · refine Keeps.step ?_ (State.setRow_keeps _ _ _) rfl
    exact Keeps.refl _ _
  · exact Keeps.refl _ _

theorem State.rowError_keeps (s) (z1) (z2) (z3) : Keeps 2191260 s (State.rowError s z1 z2 z3) := by
  unfold State.rowError
  extract_lets x1 x2 x3
  have hx1 : Keeps 2191260 s x1 := by
    unfold x1
    refine Keeps.each ?_ ?_
    · exact Keeps.refl _ _
    · intro a4 a5 a6
      refine Keeps.step ?_ (State.popXfer_keeps _ _ _) rfl
      assumption
  clear_value x1
  have hx2 : Keeps 2191260 s x2 := by
    unfold x2
    refine Keeps.step ?_ (State.withdraw_keeps _ _) rfl
    assumption
  clear_value x2
  refine Keeps.step ?_ (State.attn_keeps _ _) rfl
  refine Keeps.step ?_ (State.setRow_keeps _ _ _) rfl
  assumption

theorem State.rowStamp_keeps (s) (z1) (z2) : KeepsP 94100 s (State.rowStamp s z1 z2) := by
  unfold State.rowStamp
  refine KeepsP.ite ?_ ?_
  · refine KeepsP.mk ?_
    exact Keeps.refl _ _
  · extract_lets x1
    have hx1 : KeepsP 94100 s x1 := by
      unfold x1
      refine KeepsP.step ?_ (State.lookup_keeps _ _ _ _ _) rfl
      exact Keeps.refl _ _
    clear_value x1
    split
    · rename_i y2 y3 y4 y5
      refine KeepsP.mk ?_
      refine Keeps.step ?_ (State.modXfer_keeps _ _ _ _) rfl
      refine KeepsP.fst ?_
      assumption
    · rename_i y6 y7
      refine KeepsP.mk ?_
      refine Keeps.step ?_ (State.failStream_keeps _ _ _ _ _) rfl
      refine KeepsP.fst ?_
      assumption
    · rename_i y8 y9
      refine KeepsP.mk ?_
      refine KeepsP.fst ?_
      assumption

theorem State.rowHalf_keeps (s) (z1) (z2) : Keeps 33685404 s (State.rowHalf s z1 z2) := by
  unfold State.rowHalf
  refine Keeps.ite ?_ ?_
  · exact Keeps.refl _ _
  · extract_lets x1 x2 x3
    have hx1 : Keeps 33685404 s x1 := by
      unfold x1
      refine Keeps.step ?_ (State.modXfer_keeps _ _ _ _) rfl
      exact Keeps.refl _ _
    clear_value x1
    have hx2 : KeepsP 33685404 s x2 := by
      unfold x2
      refine KeepsP.step ?_ (State.signal_keeps _ _ _ _ _) rfl
      assumption
    clear_value x2
    have hx3 : Keeps 33685404 s x3 := by
      unfold x3
      refine Keeps.ite ?_ ?_
      · refine Keeps.ite ?_ ?_
        · refine Keeps.step ?_ (State.settleStakes_keeps _) rfl
          refine KeepsP.fst ?_
          assumption
        · refine Keeps.step ?_ (State.modXfer_keeps _ _ _ _) rfl
          refine KeepsP.fst ?_
          assumption
      · assumption
    clear_value x3
    refine Keeps.ite ?_ ?_
    · split
      · rename_i y4 y5 y6
        refine Keeps.step ?_ (State.bump_keeps _ _) rfl
        refine Keeps.step ?_ (State.writeTarget_keeps _ _ _ _ _ _) rfl
        assumption
      · rename_i y7 y8
        assumption
    · assumption

theorem State.rowHalves_keeps (s) (z1) : Keeps 33685404 s (State.rowHalves s z1) := by
  unfold State.rowHalves
  split
  · rename_i y1 y2 y3 y4
    refine Keeps.ite ?_ ?_
    · extract_lets x5
      have hx5 : KeepsP 33685404 s x5 := by
        unfold x5
        refine KeepsP.step ?_ (State.rowStamp_keeps _ _ _) rfl
        exact Keeps.refl _ _
      clear_value x5
      refine Keeps.ite ?_ ?_
      · refine Keeps.step ?_ (State.rowHalf_keeps _ _ _) rfl
        refine KeepsP.fst ?_
        assumption
      · refine KeepsP.fst ?_
        assumption
    · exact Keeps.refl _ _
  · rename_i y6 y7
    exact Keeps.refl _ _

theorem State.completeOwned_keeps (s) (z1) (z2) (z3) : Keeps 35782556 s (State.completeOwned s z1 z2 z3) := by
  unfold State.completeOwned
  extract_lets x1 x2 x3 x4 x5 x6 x7 x8 x9 x10 x11 x12
  have hx1 : Keeps 35782556 s x1 := by
    unfold x1
    refine Keeps.ite ?_ ?_
    · refine Keeps.step ?_ (State.rowHalf_keeps _ _ _) rfl
      exact Keeps.refl _ _
    · exact Keeps.refl _ _
  clear_value x1
  clear_value x3
  have hx4 : KeepsP 35782556 s x4 := by
    unfold x4
    refine KeepsP.ite ?_ ?_
    · refine KeepsP.step ?_ (State.signal_keeps _ _ _ _ _) rfl
      assumption
    · refine KeepsP.mk ?_
      assumption
  clear_value x4
  clear_value x5
  have hx6 : Keeps 35782556 s x6 := by
    unfold x6
    refine KeepsP.fst ?_
    assumption
  have hx7 : Keeps 35782556 s x7 := by
    unfold x7
    refine Keeps.ite ?_ ?_
    · split
      · rename_i y13 y14 y15
        refine Keeps.step ?_ (State.bump_keeps _ _) rfl
        refine Keeps.step ?_ (State.writeTarget_keeps _ _ _ _ _ _) rfl
        assumption
      · rename_i y16 y17
        assumption
    · assumption
  clear_value x7
  have hx8 : Keeps 35782556 s x8 := by
    unfold x8
    refine Keeps.step ?_ (State.popXfer_keeps _ _ _) rfl
    assumption
  clear_value x8
  have hx10 : Keeps 35782556 s x10 := by
    unfold x10
    split
    · rename_i y18 y19 y20
      refine Keeps.step ?_ (State.bump_keeps _ _) rfl
      assumption
    · rename_i y21 y22
      refine Keeps.step ?_ (State.setRow_keeps _ _ _) rfl
      assumption
    · rename_i y23 y24 y25 y26
      assumption
  clear_value x10
  have hx12 : Keeps 35782556 s x12 := by
    unfold x12
    refine Keeps.ite ?_ ?_
    · refine Keeps.step ?_ (State.rowIdle_keeps _ _) rfl
      refine Keeps.step ?_ (State.setRow_keeps _ _ _) rfl
      assumption
    · refine Keeps.step ?_ (State.rowError_keeps _ _ _ _) rfl
      assumption
  clear_value x12
  refine Keeps.step ?_ (State.settleStakes_keeps _) rfl
  assumption

theorem State.leaveOwned_keeps (s) (z1) (z2) (z3) : KeepsP 35782556 s (State.leaveOwned s z1 z2 z3) := by
  unfold State.leaveOwned
  extract_lets x1 x2
  have hx1 : KeepsP 35782556 s x1 := by
    unfold x1
    refine KeepsP.step ?_ (State.rowStamp_keeps _ _ _) rfl
    exact Keeps.refl _ _
  clear_value x1
  refine KeepsP.ite ?_ ?_
  · refine KeepsP.mk ?_
    refine Keeps.step ?_ (State.completeOwned_keeps _ _ _ _) rfl
    refine KeepsP.fst ?_
    assumption
  · refine KeepsP.mk ?_
    refine KeepsP.fst ?_
    assumption

theorem State.completeFurrow_keeps (s) (z1) (z2) (z3) (z4) (z5) (z6) : Keeps 35782556 s (State.completeFurrow s z1 z2 z3 z4 z5 z6) := by
  unfold State.completeFurrow
  extract_lets x1 x2 x3
  clear_value x1
  have hx2 : Keeps 35782556 s x2 := by
    unfold x2
    refine Keeps.ite ?_ ?_
    · refine Keeps.step ?_ (State.half_keeps _ _ _) rfl
      exact Keeps.refl _ _
    · exact Keeps.refl _ _
  clear_value x2
  have hx3 : Keeps 35782556 s x3 := by
    unfold x3
    refine Keeps.step ?_ (State.rowIdle_keeps _ _) rfl
    refine Keeps.step ?_ (State.popXfer_keeps _ _ _) rfl
    assumption
  clear_value x3
  refine Keeps.step ?_ (State.settleStakes_keeps _) rfl
  refine Keeps.step ?_ (State.finish_keeps _ _ _ _ _ _) rfl
  assumption

theorem State.chainWait_keeps (s) (z1) (z2) : Keeps 33685404 s (State.chainWait s z1 z2) := by
  unfold State.chainWait
  refine Keeps.ite ?_ ?_
  · exact Keeps.refl _ _
  · refine Keeps.ite ?_ ?_
    · refine Keeps.step ?_ (State.modXfer_keeps _ _ _ _) rfl
      exact Keeps.refl _ _
    · split
      · rename_i y1 y2 y3
        have h4 : Keeps 33685404 s y2 := by
          refine KeepsS.ofEq ?_ y3
          refine KeepsS.step ?_ (State.placeWait_keeps _ _ _ _ _) rfl
          refine Keeps.step ?_ (State.modXfer_keeps _ _ _ _) rfl
          exact Keeps.refl _ _
        refine Keeps.step ?_ (State.settleStakes_keeps _) rfl
        assumption
      · rename_i y5 y6
        refine Keeps.ite ?_ ?_
        · exact Keeps.refl _ _
        · refine Keeps.step ?_ (State.bump_keeps _ _) rfl
          refine Keeps.step ?_ (State.modXfer_keeps _ _ _ _) rfl
          exact Keeps.refl _ _

theorem State.beginSide_keeps (s) (z1) (z2) (z3) : KeepsP 94100 s (State.beginSide s z1 z2 z3) := by
  unfold State.beginSide
  split
  · rename_i y1 y2
    refine KeepsP.mk ?_
    exact Keeps.refl _ _
  · rename_i y3 y4 y5
    extract_lets x6 x7
    have hx7 : KeepsP 94100 s x7 := by
      unfold x7
      refine KeepsP.step ?_ (State.resolveStart_keeps _ _ _ _ _) rfl
      exact Keeps.refl _ _
    clear_value x7
    refine KeepsP.ite ?_ ?_
    · refine KeepsP.mk ?_
      exact Keeps.refl _ _
    · split
      · rename_i y8 y9 y10 y11
        refine KeepsP.mk ?_
        refine Keeps.step ?_ (State.modXfer_keeps _ _ _ _) rfl
        refine KeepsP.fst ?_
        assumption
      · rename_i y12 y13
        refine KeepsP.mk ?_
        refine Keeps.step ?_ (State.modXfer_keeps _ _ _ _) rfl
        refine KeepsP.fst ?_
        assumption
      · rename_i y14 y15
        refine KeepsP.mk ?_
        refine KeepsP.fst ?_
        assumption

theorem State.beginLookups_keeps (s) (z1) (z2) : KeepsP 94100 s (State.beginLookups s z1 z2) := by
  unfold State.beginLookups
  extract_lets x1 x2 x3
  have hx1 : KeepsP 94100 s x1 := by
    unfold x1
    refine KeepsP.step ?_ (State.beginSide_keeps _ _ _ _) rfl
    exact Keeps.refl _ _
  clear_value x1
  have hx2 : KeepsP 94100 s x2 := by
    unfold x2
    refine KeepsP.step ?_ (State.beginSide_keeps _ _ _ _) rfl
    refine KeepsP.fst ?_
    assumption
  clear_value x2
  have hx3 : KeepsP 94100 s x3 := by
    unfold x3
    refine KeepsP.step ?_ (State.rowStamp_keeps _ _ _) rfl
    refine KeepsP.fst ?_
    assumption
  clear_value x3
  refine KeepsP.mk ?_
  refine KeepsP.fst ?_
  assumption

theorem State.rowAhead_keeps (s) (z1) : Keeps 94100 s (State.rowAhead s z1) := by
  unfold State.rowAhead
  refine Keeps.each ?_ ?_
  · exact Keeps.refl _ _
  · intro a1 a2 a3
    refine KeepsP.fst ?_
    refine KeepsP.step ?_ (State.beginLookups_keeps _ _ _) rfl
    assumption

theorem State.beginFront_keeps (s) (z1) : Keeps 33685404 s (State.beginFront s z1) := by
  unfold State.beginFront
  split
  · rename_i y1 y2
    exact Keeps.refl _ _
  · rename_i y3 y4 y5 y6
    refine Keeps.ite ?_ ?_
    · exact Keeps.refl _ _
    · extract_lets x7 x8 x9
      clear_value x7
      have hx8 : KeepsP 33685404 s x8 := by
        unfold x8
        refine KeepsP.step ?_ (State.beginLookups_keeps _ _ _) rfl
        exact Keeps.refl _ _
      clear_value x8
      have hx9 : Keeps 33685404 s x9 := by
        unfold x9
        refine Keeps.step ?_ (State.chainWait_keeps _ _ _) rfl
        refine KeepsP.fst ?_
        assumption
      clear_value x9
      refine Keeps.ite ?_ ?_
      · refine Keeps.step ?_ (State.modXfer_keeps _ _ _ _) rfl
        exact Keeps.refl _ _
      · refine Keeps.ite ?_ ?_
        · refine KeepsP.fst ?_
          assumption
        · split
          · rename_i y10 y11 y12
            refine Keeps.ite ?_ ?_
            · refine Keeps.step ?_ (State.modXfer_keeps _ _ _ _) rfl
              assumption
            · assumption
          · rename_i y13 y14
            assumption

theorem State.chainRead_keeps (s) (z1) : Keeps 74132 s (State.chainRead s z1) := by
  unfold State.chainRead
  extract_lets x1
  split
  · rename_i y2 y3
    exact Keeps.refl _ _
  · rename_i y4 y5 y6
    refine Keeps.ite ?_ ?_
    · exact Keeps.refl _ _
    · extract_lets x7
      clear_value x7
      split
      · rename_i y8 y9
        exact Keeps.refl _ _
      · rename_i y10 y11 y12
        have h13 : KeepsN 74132 s y11 := by
          refine KeepsR.ofEq1 ?_ y12
          refine KeepsR.ite ?_ ?_
          · refine KeepsR.step ?_ (State.request_keeps _ _ _) rfl
            exact Keeps.refl _ _
          · exact KeepsR.none
        refine Keeps.step ?_ (State.setRow_keeps _ _ _) rfl
        refine KeepsN.snd ?_
        assumption

theorem State.acceptEntry_keeps (s) (z1) (z2) (z3) : Keeps 8192 s (State.acceptEntry s z1 z2 z3) := by
  unfold State.acceptEntry
  extract_lets x1 x2 x3 x4 x5 x6 x7 x8 x9
  clear_value x1
  have hx4 : ∀ a10, Keeps 8192 s (x4 a10) := by
    unfold x4
    intro a11
    refine Keeps.step ?_ (State.setRow_keeps _ _ _) rfl
    exact Keeps.refl _ _
  clear_value x4
  clear_value x6
  clear_value x8
  clear_value x9
  refine Keeps.ite ?_ ?_
  · refine Keeps.ite ?_ ?_
    · refine hx4 _
    · refine Keeps.ite ?_ ?_
      · refine Keeps.step ?_ (State.setRow_keeps _ _ _) rfl
        exact Keeps.refl _ _
      · refine Keeps.step ?_ (State.setRow_keeps _ _ _) rfl
        exact Keeps.refl _ _
  · refine Keeps.ite ?_ ?_
    · refine hx4 _
    · refine hx4 _

theorem acceptEntries_keeps (z0) (s) (z2) (z3) (z4) : Keeps 8192 s (acceptEntries z0 s z2 z3 z4) := by
  induction z0 generalizing s z2 z3 z4 with
  | zero =>
    unfold acceptEntries
    exact Keeps.refl _ _
  | succ n ih =>
    unfold acceptEntries
    refine Keeps.ite ?_ ?_
    · exact Keeps.refl _ _
    · refine Keeps.step ?_ (ih _ _ _ _) rfl
      refine Keeps.step ?_ (State.acceptEntry_keeps _ _ _ _) rfl
      exact Keeps.refl _ _

theorem State.chainEnd_keeps (s) (z1) : Keeps 8192 s (State.chainEnd s z1) := by
  unfold State.chainEnd
  extract_lets x1
  split
  · rename_i y2 y3 y4
    refine Keeps.ite ?_ ?_
    · refine Keeps.ite ?_ ?_
      · refine Keeps.step ?_ (State.setRow_keeps _ _ _) rfl
        exact Keeps.refl _ _
      · refine Keeps.step ?_ (State.setRow_keeps _ _ _) rfl
        exact Keeps.refl _ _
    · exact Keeps.refl _ _
  · rename_i y5 y6
    exact Keeps.refl _ _

theorem settleRow_keeps (z0) (s) (z2) : Keeps 35782556 s (settleRow z0 s z2) := by
  induction z0 generalizing s z2 with
  | zero =>
    unfold settleRow
    exact Keeps.refl _ _
  | succ n ih =>
    unfold settleRow
    extract_lets x1
    refine Keeps.ite ?_ ?_
    · exact Keeps.refl _ _
    · split
      · rename_i y2 y3
        refine Keeps.step ?_ (State.chainRead_keeps _ _) rfl
        refine Keeps.step ?_ (State.chainEnd_keeps _ _) rfl
        exact Keeps.refl _ _
      · rename_i y4 y5 y6 y7
        split
        · rename_i y8 y9 y10
          extract_lets x11
          have hx11 : KeepsP 35782556 s x11 := by
            unfold x11
            refine KeepsP.step ?_ (State.leaveOwned_keeps _ _ _ _) rfl
            exact Keeps.refl _ _
          clear_value x11
          refine Keeps.ite ?_ ?_
          · refine Keeps.step ?_ (ih _ _) rfl
            refine KeepsP.fst ?_
            assumption
          · refine KeepsP.fst ?_
            assumption
        · rename_i y12 y13
          extract_lets x14 x15
          have hx14 : Keeps 35782556 s x14 := by
            unfold x14
            split
            · rename_i y16 y17 y18
              refine Keeps.step ?_ (State.setRow_keeps _ _ _) rfl
              exact Keeps.refl _ _
            · rename_i y19 y20
              exact Keeps.refl _ _
          clear_value x14
          have hx15 : Keeps 35782556 s x15 := by
            unfold x15
            refine Keeps.step ?_ (State.rowAhead_keeps _ _) rfl
            refine Keeps.step ?_ (State.beginFront_keeps _ _) rfl
            assumption
          clear_value x15
          split
          · rename_i y21 y22 y23 y24
            refine Keeps.ite ?_ ?_
            · refine Keeps.step ?_ (ih _ _) rfl
              assumption
            · refine Keeps.step ?_ (State.chainRead_keeps _ _) rfl
              assumption
          · rename_i y25 y26
            assumption

theorem State.settle_keeps (s) (z1) : Keeps 35782556 s (State.settle s z1) := by
  unfold State.settle
  refine Keeps.step ?_ (settleRow_keeps _ _ _) rfl
  exact Keeps.refl _ _

theorem execEngineAcknowledge_keeps (z0) (s) : KeepsO 512 s (execEngineAcknowledge z0 s) := by
  unfold execEngineAcknowledge
  split
  · rename_i y1 y2
    refine KeepsO.next ?_
    exact Keeps.refl _ _
  · rename_i y3 y4 y5
    refine KeepsO.ite ?_ ?_
    · refine KeepsO.next ?_
      exact Keeps.refl _ _
    · refine KeepsO.next ?_
      refine Keeps.setplat (m := 512) _ ?_ rfl
      exact Keeps.refl _ _

theorem State.goOp_keeps (s) (z1) (z2) : Keeps 35782556 s (State.goOp s z1 z2) := by
  unfold State.goOp
  extract_lets x1 x2 x3 x4
  clear_value x2
  clear_value x3
  refine Keeps.ite ?_ ?_
  · refine Keeps.step ?_ (State.valueErr_keeps _ _ _ _) rfl
    exact Keeps.refl _ _
  · refine Keeps.ite ?_ ?_
    · refine Keeps.step ?_ (State.setRow_keeps _ _ _) rfl
      exact Keeps.refl _ _
    · refine Keeps.step ?_ (State.settle_keeps _ _) rfl
      refine Keeps.step ?_ (State.setRow_keeps _ _ _) rfl
      exact Keeps.refl _ _

theorem State.chainGoOp_keeps (s) (z1) (z2) : Keeps 35782556 s (State.chainGoOp s z1 z2) := by
  unfold State.chainGoOp
  extract_lets x1 x2
  clear_value x2
  refine Keeps.ite ?_ ?_
  · refine Keeps.step ?_ (State.valueErr_keeps _ _ _ _) rfl
    exact Keeps.refl _ _
  · refine Keeps.ite ?_ ?_
    · refine Keeps.step ?_ (State.setRow_keeps _ _ _) rfl
      exact Keeps.refl _ _
    · refine Keeps.step ?_ (State.settle_keeps _ _) rfl
      refine Keeps.step ?_ (State.setRow_keeps _ _ _) rfl
      exact Keeps.refl _ _

theorem State.stopDrained_keeps (s) (z1) : Keeps 35782556 s (State.stopDrained s z1) := by
  unfold State.stopDrained
  extract_lets x1
  refine Keeps.ite ?_ ?_
  · exact Keeps.refl _ _
  · split
    · rename_i y2 y3 y4 y5
      refine KeepsP.fst ?_
      refine KeepsP.step ?_ (State.leaveOwned_keeps _ _ _ _) rfl
      exact Keeps.refl _ _
    · rename_i y6 y7
      refine Keeps.step ?_ (State.rowError_keeps _ _ _ _) rfl
      exact Keeps.refl _ _

theorem State.stopOp_keeps (s) (z1) : Keeps 35782556 s (State.stopOp s z1) := by
  unfold State.stopOp
  extract_lets x1
  refine Keeps.ite ?_ ?_
  · exact Keeps.refl _ _
  · split
    · rename_i y2 y3
      refine Keeps.step ?_ (State.setRow_keeps _ _ _) rfl
      exact Keeps.refl _ _
    · rename_i y4 y5
      refine Keeps.step ?_ (State.stopDrained_keeps _ _) rfl
      refine Keeps.step ?_ (State.setRow_keeps _ _ _) rfl
      exact Keeps.refl _ _
    · rename_i y6 y7
      refine Keeps.step ?_ (State.stopDrained_keeps _ _) rfl
      refine Keeps.step ?_ (State.setRow_keeps _ _ _) rfl
      exact Keeps.refl _ _
    · rename_i y8 y9 y10 y11
      exact Keeps.refl _ _

theorem State.clearOp_keeps (s) (z1) : Keeps 8192 s (State.clearOp s z1) := by
  unfold State.clearOp
  extract_lets x1
  refine Keeps.ite ?_ ?_
  · refine Keeps.step ?_ (State.setRow_keeps _ _ _) rfl
    exact Keeps.refl _ _
  · exact Keeps.refl _ _

theorem State.kickOp_keeps (s) (z1) (z2) : Keeps 35782556 s (State.kickOp s z1 z2) := by
  unfold State.kickOp
  extract_lets x1
  split
  · rename_i y2 y3
    refine Keeps.step ?_ (State.settle_keeps _ _) rfl
    refine Keeps.step ?_ (State.setRow_keeps _ _ _) rfl
    exact Keeps.refl _ _
  · rename_i y4 y5
    refine Keeps.ite ?_ ?_
    · refine Keeps.step ?_ (State.setRow_keeps _ _ _) rfl
      exact Keeps.refl _ _
    · refine Keeps.step ?_ (State.valueErr_keeps _ _ _ _) rfl
      exact Keeps.refl _ _
  · rename_i y6 y7
    refine Keeps.ite ?_ ?_
    · refine Keeps.step ?_ (State.setRow_keeps _ _ _) rfl
      exact Keeps.refl _ _
    · refine Keeps.step ?_ (State.valueErr_keeps _ _ _ _) rfl
      exact Keeps.refl _ _
  · rename_i y8 y9
    refine Keeps.ite ?_ ?_
    · refine Keeps.step ?_ (State.setRow_keeps _ _ _) rfl
      exact Keeps.refl _ _
    · refine Keeps.step ?_ (State.valueErr_keeps _ _ _ _) rfl
      exact Keeps.refl _ _
  · rename_i y10 y11 y12 y13 y14
    refine Keeps.step ?_ (State.valueErr_keeps _ _ _ _) rfl
    exact Keeps.refl _ _

theorem State.writeRowCtrl_keeps (s) (z1) (z2) (z3) : Keeps 35782556 s (State.writeRowCtrl s z1 z2 z3) := by
  unfold State.writeRowCtrl
  extract_lets x1 x2
  have hx1 : Keeps 35782556 s x1 := by
    unfold x1
    refine Keeps.ite ?_ ?_
    · refine Keeps.step ?_ (State.clearOp_keeps _ _) rfl
      exact Keeps.refl _ _
    · exact Keeps.refl _ _
  clear_value x1
  have hx2 : Keeps 35782556 s x2 := by
    unfold x2
    refine Keeps.ite ?_ ?_
    · refine Keeps.step ?_ (State.stopOp_keeps _ _) rfl
      assumption
    · assumption
  clear_value x2
  refine Keeps.ite ?_ ?_
  · refine Keeps.step ?_ (State.goOp_keeps _ _ _) rfl
    assumption
  · refine Keeps.ite ?_ ?_
    · refine Keeps.step ?_ (State.chainGoOp_keeps _ _ _) rfl
      assumption
    · assumption

theorem State.writeRowBind_keeps (s) (z1) (z2) (z3) : Keeps 65548 s (State.writeRowBind s z1 z2 z3) := by
  unfold State.writeRowBind
  extract_lets x1
  clear_value x1
  refine Keeps.ite ?_ ?_
  · refine Keeps.step ?_ (State.valueErr_keeps _ _ _ _) rfl
    exact Keeps.refl _ _
  · refine Keeps.step ?_ (State.setRg_keeps _ _ _) rfl
    exact Keeps.refl _ _

theorem State.writeRowDirect_keeps (s) (z1) (z2) (z3) (z4) : Keeps 65548 s (State.writeRowDirect s z1 z2 z3 z4) := by
  unfold State.writeRowDirect
  refine Keeps.ite ?_ ?_
  · refine Keeps.step ?_ (State.valueErr_keeps _ _ _ _) rfl
    exact Keeps.refl _ _
  · extract_lets x1
    clear_value x1
    refine Keeps.step ?_ (State.setRg_keeps _ _ _) rfl
    exact Keeps.refl _ _

theorem State.writeRowQuota_keeps (s) (z1) (z2) (z3) : Keeps 65548 s (State.writeRowQuota s z1 z2 z3) := by
  unfold State.writeRowQuota
  extract_lets x1 x2 x3
  clear_value x1
  clear_value x2
  clear_value x3
  refine Keeps.ite ?_ ?_
  · refine Keeps.step ?_ (State.valueErr_keeps _ _ _ _) rfl
    exact Keeps.refl _ _
  · refine Keeps.step ?_ (State.setRg_keeps _ _ _) rfl
    exact Keeps.refl _ _

theorem State.writeStileRx_keeps (s) (z1) (z2) : Keeps 65548 s (State.writeStileRx s z1 z2) := by
  unfold State.writeStileRx
  extract_lets x1 x2
  clear_value x1
  clear_value x2
  refine Keeps.ite ?_ ?_
  · refine Keeps.step ?_ (State.valueErr_keeps _ _ _ _) rfl
    exact Keeps.refl _ _
  · refine Keeps.step ?_ (State.setRg_keeps _ _ _) rfl
    exact Keeps.refl _ _

theorem State.writeDrillTags_keeps (s) (z1) (z2) : Keeps 65548 s (State.writeDrillTags s z1 z2) := by
  unfold State.writeDrillTags
  extract_lets x1
  clear_value x1
  refine Keeps.ite ?_ ?_
  · refine Keeps.step ?_ (State.valueErr_keeps _ _ _ _) rfl
    exact Keeps.refl _ _
  · refine Keeps.step ?_ (State.setRg_keeps _ _ _) rfl
    exact Keeps.refl _ _

theorem State.writeHarrow_keeps (s) (z1) (z2) (z3) : Keeps 8 s (State.writeHarrow s z1 z2 z3) := by
  unfold State.writeHarrow
  extract_lets x1
  clear_value x1
  refine Keeps.step ?_ (State.setRg_keeps _ _ _) rfl
  exact Keeps.refl _ _

theorem execRowGo_keeps (z0) (z1) (s) : KeepsO 35782556 s (execRowGo z0 z1 s) := by
  unfold execRowGo
  refine KeepsO.next ?_
  refine Keeps.step ?_ (State.goOp_keeps _ _ _) rfl
  exact Keeps.refl _ _

theorem execChainGo_keeps (z0) (z1) (s) : KeepsO 35782556 s (execChainGo z0 z1 s) := by
  unfold execChainGo
  refine KeepsO.next ?_
  refine Keeps.step ?_ (State.chainGoOp_keeps _ _ _) rfl
  exact Keeps.refl _ _

theorem execRowStop_keeps (z0) (s) : KeepsO 35782556 s (execRowStop z0 s) := by
  unfold execRowStop
  refine KeepsO.next ?_
  refine Keeps.step ?_ (State.stopOp_keeps _ _) rfl
  exact Keeps.refl _ _

theorem execRowClear_keeps (z0) (s) : KeepsO 8192 s (execRowClear z0 s) := by
  unfold execRowClear
  refine KeepsO.next ?_
  refine Keeps.step ?_ (State.clearOp_keeps _ _) rfl
  exact Keeps.refl _ _

theorem execRowKick_keeps (z0) (z1) (s) : KeepsO 35782556 s (execRowKick z0 z1 s) := by
  unfold execRowKick
  refine KeepsO.next ?_
  refine Keeps.step ?_ (State.kickOp_keeps _ _ _) rfl
  exact Keeps.refl _ _

theorem execRowBindWrite_keeps (z0) (z1) (z2) (s) : KeepsO 65548 s (execRowBindWrite z0 z1 z2 s) := by
  unfold execRowBindWrite
  refine KeepsO.next ?_
  refine Keeps.step ?_ (State.writeRowBind_keeps _ _ _ _) rfl
  exact Keeps.refl _ _

theorem execQuotaWrite_keeps (z0) (z1) (z2) (s) : KeepsO 65548 s (execQuotaWrite z0 z1 z2 s) := by
  unfold execQuotaWrite
  split
  · rename_i y1 y2
    refine KeepsO.next ?_
    refine Keeps.step ?_ (State.writeRowQuota_keeps _ _ _ _) rfl
    exact Keeps.refl _ _
  · rename_i y3
    refine KeepsO.next ?_
    refine Keeps.step ?_ (State.writeStileRx_keeps _ _ _) rfl
    exact Keeps.refl _ _

theorem State.chainDone_keeps (s) (z1) (z2) (z3) : Keeps 35782556 s (State.chainDone s z1 z2 z3) := by
  unfold State.chainDone
  extract_lets x1 x2 x3 x4
  have hx2 : Keeps 35782556 s x2 := by
    unfold x2
    refine Keeps.step ?_ (State.setRow_keeps _ _ _) rfl
    exact Keeps.refl _ _
  clear_value x2
  refine Keeps.ite ?_ ?_
  · assumption
  · split
    · rename_i y5 y6
      refine Keeps.step ?_ (State.settle_keeps _ _) rfl
      refine Keeps.step ?_ (acceptEntries_keeps _ _ _ _ _) rfl
      assumption
    · rename_i y7
      refine Keeps.step ?_ (State.settle_keeps _ _) rfl
      refine Keeps.step ?_ (State.setRow_keeps _ _ _) rfl
      assumption

theorem execChainEntriesReceived_keeps (z0) (z1) (s) : KeepsO 35782556 s (execChainEntriesReceived z0 z1 s) := by
  unfold execChainEntriesReceived
  split
  · rename_i y1 y2 y3
    split
    · rename_i y4 y5 y6 y7
      refine KeepsO.ite ?_ ?_
      · refine KeepsO.next ?_
        refine Keeps.step ?_ (State.chainDone_keeps _ _ _ _) rfl
        refine Keeps.step ?_ (State.freeTagUse_keeps _ _) rfl
        exact Keeps.refl _ _
      · refine KeepsO.next ?_
        refine Keeps.step ?_ (State.lateCompletion_keeps _ _ _) rfl
        exact Keeps.refl _ _
    · rename_i y8 y9
      refine KeepsO.next ?_
      exact Keeps.refl _ _
  · rename_i y10 y11
    refine KeepsO.next ?_
    exact Keeps.refl _ _

end Sys2Proof.Machine
end

