-- ==== Sys2Proof/Laws/FootPlotBase.lean ====
section
/-! SUPPORT. The footprints of the operations of Machine/PlotBase.lean. -/

namespace Sys2Proof.Machine

theorem State.reachTilth_keeps (s) (z1) : KeepsP 16384 s (State.reachTilth s z1) := by
  unfold State.reachTilth
  extract_lets x1
  refine KeepsP.ite ?_ ?_
  · refine KeepsP.mk ?_
    exact Keeps.refl _ _
  · refine KeepsP.ite ?_ ?_
    · refine KeepsP.mk ?_
      refine Keeps.step ?_ (State.modPlot_keeps _ _ _ (by first | exact fun _ h => h | exact fun _ _ => ⟨rfl, rfl⟩ | (intro x h; dsimp only; split <;> exact h) | (intro x h; split <;> exact h) | (intro x h; beta_reduce; split <;> exact h))) rfl
      exact Keeps.refl _ _
    · refine KeepsP.mk ?_
      refine Keeps.step ?_ (State.askPlot_keeps _ _) rfl
      exact Keeps.refl _ _

theorem State.withdrawNewest_keeps (s) (z1) (z2) : Keeps 24580 s (State.withdrawNewest s z1 z2) := by
  unfold State.withdrawNewest
  extract_lets x1 x2 x3 x4
  have hx2 : Keeps 24580 s x2 := by
    unfold x2
    refine Keeps.step ?_ (State.setFeed_keeps _ _ _ _) rfl
    exact Keeps.refl _ _
  clear_value x2
  have hx3 : Keeps 24580 s x3 := by
    unfold x3
    refine Keeps.ite ?_ ?_
    · refine Keeps.step ?_ (State.modPlot_keeps _ _ _ (by first | exact fun _ h => h | exact fun _ _ => ⟨rfl, rfl⟩ | (intro x h; dsimp only; split <;> exact h) | (intro x h; split <;> exact h) | (intro x h; beta_reduce; split <;> exact h))) rfl
      assumption
    · assumption
  clear_value x3
  clear_value x4
  split
  · rename_i y5 y6
    exact Keeps.refl _ _
  · rename_i y7 y8 y9 y10 y11
    refine Keeps.ite ?_ ?_
    · assumption
    · split
      · rename_i y12 y13
        assumption
      · rename_i y14 y15 y16 y17
        extract_lets x18 x19
        have hx18 : Keeps 24580 s x18 := by
          unfold x18
          refine Keeps.ite ?_ ?_
          · refine Keeps.step ?_ (State.bump_keeps _ _) rfl
            assumption
          · assumption
        clear_value x18
        refine Keeps.step ?_ (State.setRow_keeps _ _ _) rfl
        assumption

theorem State.withdrawFeeds_keeps (s) (z1) : Keeps 24580 s (State.withdrawFeeds s z1) := by
  unfold State.withdrawFeeds
  refine Keeps.each ?_ ?_
  · exact Keeps.refl _ _
  · intro a1 a2 a3
    refine Keeps.each ?_ ?_
    · assumption
    · intro a4 a5 a6
      refine Keeps.step ?_ (State.withdrawNewest_keeps _ _ _) rfl
      assumption

theorem State.leavePlot_keeps (s) (z1) : Keeps 2191260 s (State.leavePlot s z1) := by
  unfold State.leavePlot
  extract_lets x1 x2 x3 x4 x5
  have hx1 : Keeps 2191260 s x1 := by
    unfold x1
    refine Keeps.step ?_ (State.withdraw_keeps _ _) rfl
    exact Keeps.refl _ _
  clear_value x1
  have hx2 : Keeps 2191260 s x2 := by
    unfold x2
    refine Keeps.step ?_ (State.withdrawFeeds_keeps _ _) rfl
    assumption
  clear_value x2
  have hx4 : Keeps 2191260 s x4 := by
    unfold x4
    refine Keeps.setfab (m := 2191260) _ ?_ id rfl
    assumption
  clear_value x4
  have hx5 : Keeps 2191260 s x5 := by
    unfold x5
    refine Keeps.step ?_ (State.leaveFaults_keeps _ _) rfl
    assumption
  clear_value x5
  refine Keeps.step ?_ (State.modPlot_keeps _ _ _ (by first | exact fun _ h => h | exact fun _ _ => ⟨rfl, rfl⟩ | (intro x h; dsimp only; split <;> exact h) | (intro x h; split <;> exact h) | (intro x h; beta_reduce; split <;> exact h))) rfl
  assumption

theorem State.failPlotAt_keeps (s) (z1) (z2) (z3) : Keeps 16384 s (State.failPlotAt s z1 z2 z3) := by
  unfold State.failPlotAt
  refine Keeps.step ?_ (State.modPlot_keeps _ _ _ (by first | exact fun _ h => h | exact fun _ _ => ⟨rfl, rfl⟩ | (intro x h; dsimp only; split <;> exact h) | (intro x h; split <;> exact h) | (intro x h; beta_reduce; split <;> exact h))) rfl
  exact Keeps.refl _ _

theorem State.failPlot_keeps (s) (z1) (z2) : Keeps 16384 s (State.failPlot s z1 z2) := by
  unfold State.failPlot
  refine Keeps.step ?_ (State.failPlotAt_keeps _ _ _ _) rfl
  exact Keeps.refl _ _

theorem State.endPlot_keeps (s) (z1) (z2) (z3) : Keeps 2191260 s (State.endPlot s z1 z2 z3) := by
  unfold State.endPlot
  extract_lets x1 x2 x3
  have hx2 : Keeps 2191260 s x2 := by
    unfold x2
    refine Keeps.step ?_ (State.modSlot_keeps _ _ _ _) rfl
    exact Keeps.refl _ _
  clear_value x2
  have hx3 : Keeps 2191260 s x3 := by
    unfold x3
    refine Keeps.step ?_ (State.modPlot_keeps _ _ _ (by first | exact fun _ h => h | exact fun _ _ => ⟨rfl, rfl⟩ | (intro x h; dsimp only; split <;> exact h) | (intro x h; split <;> exact h) | (intro x h; beta_reduce; split <;> exact h))) rfl
    assumption
  clear_value x3
  refine Keeps.step ?_ (State.leavePlot_keeps _ _) rfl
  assumption

theorem State.haltProgram_keeps (s) (z1) (z2) (z3) (z4) : Keeps 2191260 s (State.haltProgram s z1 z2 z3 z4) := by
  unfold State.haltProgram
  refine Keeps.each ?_ ?_
  · exact Keeps.refl _ _
  · intro a1 a2 a3
    refine Keeps.step ?_ (State.endPlot_keeps _ _ _ _) rfl
    assumption

end Sys2Proof.Machine
end

