-- ==== Sys2Proof/Laws/FootGate.lean ====
section
/-! SUPPORT. The footprints of the operations of Machine/Gate.lean. -/

namespace Sys2Proof.Machine

theorem State.wakeEvent_keeps (s) : Keeps 33554432 s (State.wakeEvent s) := by
  unfold State.wakeEvent
  split
  · rename_i y1 y2
    refine Keeps.ite ?_ ?_
    · refine Keeps.step ?_ (State.hlWork_keeps _) rfl
      refine Keeps.setpwr (m := 33554432) _ ?_ rfl
      exact Keeps.refl _ _
    · refine Keeps.setpwr (m := 33554432) _ ?_ rfl
      exact Keeps.refl _ _
  · rename_i y3 y4
    refine Keeps.setpwr (m := 33554432) _ ?_ rfl
    exact Keeps.refl _ _
  · rename_i y5 y6 y7
    exact Keeps.refl _ _

theorem State.holdRequest_keeps (s) (z1) (z2) (z3) (z4) : Keeps 33554432 s (State.holdRequest s z1 z2 z3 z4) := by
  unfold State.holdRequest
  refine Keeps.ite ?_ ?_
  · exact Keeps.refl _ _
  · refine Keeps.setpwr (m := 33554432) _ ?_ rfl
    exact Keeps.refl _ _

theorem State.noteRefused_keeps (s) (z1) (z2) (z3) : Keeps 33554432 s (State.noteRefused s z1 z2 z3) := by
  unfold State.noteRefused
  extract_lets x1 x2
  refine Keeps.setpwr (m := 33554432) _ ?_ rfl
  exact Keeps.refl _ _

theorem State.refuseFallow_keeps (s) (z1) (z2) (z3) : Keeps 33620372 s (State.refuseFallow s z1 z2 z3) := by
  unfold State.refuseFallow
  extract_lets x1
  have hx1 : Keeps 33620372 s x1 := by
    unfold x1
    refine Keeps.step ?_ (State.noteRefused_keeps _ _ _ _) rfl
    exact Keeps.refl _ _
  clear_value x1
  refine Keeps.ite ?_ ?_
  · refine Keeps.step ?_ (State.bump_keeps _ _) rfl
    assumption
  · refine Keeps.step ?_ (State.drain_keeps _) rfl
    refine Keeps.step ?_ (State.enqueue_keeps _ _) rfl
    refine Keeps.step ?_ (State.orCfg_keeps _ _ _) rfl
    assumption

theorem State.poisonSeen_keeps (s) : Keeps 65556 s (State.poisonSeen s) := by
  unfold State.poisonSeen
  refine Keeps.step ?_ (State.orCfg_keeps _ _ _) rfl
  refine Keeps.step ?_ (State.raise_keeps _ _ _) rfl
  refine Keeps.step ?_ (State.bump_keeps _ _) rfl
  exact Keeps.refl _ _

theorem State.poisonRx_keeps (s) (z1) (z2) : Keeps 65684 s (State.poisonRx s z1 z2) := by
  unfold State.poisonRx
  refine Keeps.step ?_ (State.aer_keeps _ _ _ _) rfl
  refine Keeps.step ?_ (State.poisonSeen_keeps _) rfl
  exact Keeps.refl _ _

theorem State.poisonedCpl_keeps (s) (z1) (z2) (z3) : Keeps 65684 s (State.poisonedCpl s z1 z2 z3) := by
  unfold State.poisonedCpl
  extract_lets x1
  have hx1 : Keeps 65684 s x1 := by
    unfold x1
    refine Keeps.ite ?_ ?_
    · refine Keeps.step ?_ (State.orCfg_keeps _ _ _) rfl
      exact Keeps.refl _ _
    · exact Keeps.refl _ _
  clear_value x1
  refine Keeps.step ?_ (State.poisonRx_keeps _ _ _) rfl
  assumption

theorem State.frozenDiscardOp_keeps (s) (z1) (z2) (z3) : Keeps 65548 s (State.frozenDiscardOp s z1 z2 z3) := by
  unfold State.frozenDiscardOp
  refine Keeps.step ?_ (State.mmioErr_keeps _ _ _ _ _) rfl
  refine Keeps.step ?_ (State.bumpRg_keeps _ _ _ _) rfl
  exact Keeps.refl _ _

theorem State.serveNow_keeps (s) (z1) (z2) (z3) : KeepsP 33620380 s (State.serveNow s z1 z2 z3) := by
  unfold State.serveNow
  extract_lets x1 x2 x3 x4
  clear_value x2
  have hx3 : Keeps 33620380 s x3 := by
    unfold x3
    refine Keeps.step ?_ (State.frozenDiscardOp_keeps _ _ _ _) rfl
    exact Keeps.refl _ _
  clear_value x3
  have hx4 : Keeps 33620380 s x4 := by
    unfold x4
    refine Keeps.step ?_ (State.mmioErr_keeps _ _ _ _ _) rfl
    exact Keeps.refl _ _
  clear_value x4
  refine KeepsP.ite ?_ ?_
  · refine KeepsP.mk ?_
    refine Keeps.ite ?_ ?_
    · refine Keeps.ite ?_ ?_
      · refine Keeps.step ?_ (State.aer_keeps _ _ _ _) rfl
        assumption
      · assumption
    · refine Keeps.step ?_ (State.completeMarked_keeps _ _ _) rfl
      assumption
  · refine KeepsP.ite ?_ ?_
    · refine KeepsP.mk ?_
      refine Keeps.step ?_ (State.holdRequest_keeps _ _ _ _ _) rfl
      exact Keeps.refl _ _
    · refine KeepsP.ite ?_ ?_
      · refine KeepsP.mk ?_
        refine Keeps.ite ?_ ?_
        · refine Keeps.ite ?_ ?_
          · refine Keeps.step ?_ (State.aer_keeps _ _ _ _) rfl
            assumption
          · assumption
        · refine Keeps.step ?_ (State.completeMarked_keeps _ _ _) rfl
          exact Keeps.refl _ _
      · refine KeepsP.ite ?_ ?_
        · refine KeepsP.mk ?_
          refine Keeps.step ?_ (State.mmioErr_keeps _ _ _ _ _) rfl
          refine Keeps.step ?_ (State.aer_keeps _ _ _ _) rfl
          exact Keeps.refl _ _
        · refine KeepsP.mk ?_
          exact Keeps.refl _ _

theorem State.serveGate_keeps (s) (z1) (z2) (z3) : KeepsP 33620380 s (State.serveGate s z1 z2 z3) := by
  unfold State.serveGate
  split
  · rename_i y1 y2
    refine KeepsP.mk ?_
    exact Keeps.refl _ _
  · rename_i y3 y4
    refine KeepsP.ite ?_ ?_
    · refine KeepsP.mk ?_
      refine Keeps.step ?_ (State.wakeEvent_keeps _) rfl
      refine Keeps.step ?_ (State.holdRequest_keeps _ _ _ _ _) rfl
      exact Keeps.refl _ _
    · refine KeepsP.mk ?_
      refine Keeps.step ?_ (State.refuseFallow_keeps _ _ _ _) rfl
      exact Keeps.refl _ _
  · rename_i y5 y6
    refine KeepsP.ite ?_ ?_
    · refine KeepsP.mk ?_
      refine Keeps.step ?_ (State.wakeEvent_keeps _) rfl
      refine Keeps.step ?_ (State.holdRequest_keeps _ _ _ _ _) rfl
      exact Keeps.refl _ _
    · refine KeepsP.mk ?_
      refine Keeps.step ?_ (State.refuseFallow_keeps _ _ _ _) rfl
      exact Keeps.refl _ _
  · rename_i y7 y8
    refine KeepsP.mk ?_
    refine Keeps.step ?_ (State.holdRequest_keeps _ _ _ _ _) rfl
    exact Keeps.refl _ _
  · rename_i y9 y10
    refine KeepsP.ite ?_ ?_
    · refine KeepsP.step ?_ (State.serveNow_keeps _ _ _ _) rfl
      exact Keeps.refl _ _
    · refine KeepsP.mk ?_
      refine Keeps.step ?_ (State.holdRequest_keeps _ _ _ _ _) rfl
      exact Keeps.refl _ _
  · rename_i y11 y12
    refine KeepsP.step ?_ (State.serveNow_keeps _ _ _ _) rfl
    exact Keeps.refl _ _

theorem State.flrDiscard_keeps (s) (z1) : Keeps 4 s (State.flrDiscard s z1) := by
  unfold State.flrDiscard
  refine Keeps.ite ?_ ?_
  · refine Keeps.step ?_ (State.bump_keeps _ _) rfl
    exact Keeps.refl _ _
  · exact Keeps.refl _ _

theorem State.admitReq_keeps (s) (z1) (z2) (z3) : KeepsP 33620380 s (State.admitReq s z1 z2 z3) := by
  unfold State.admitReq
  refine KeepsP.ite ?_ ?_
  · refine KeepsP.mk ?_
    exact Keeps.refl _ _
  · refine KeepsP.ite ?_ ?_
    · refine KeepsP.mk ?_
      refine Keeps.step ?_ (State.flrDiscard_keeps _ _) rfl
      exact Keeps.refl _ _
    · extract_lets x1
      have hx1 : Keeps 33620380 s x1 := by
        unfold x1
        refine Keeps.ite ?_ ?_
        · refine Keeps.step ?_ (State.poisonSeen_keeps _) rfl
          exact Keeps.refl _ _
        · exact Keeps.refl _ _
      clear_value x1
      refine KeepsP.ite ?_ ?_
      · refine KeepsP.mk ?_
        refine Keeps.step ?_ (State.unsupported_keeps _ _ _) rfl
        assumption
      · refine KeepsP.step ?_ (State.serveGate_keeps _ _ _ _) rfl
        assumption

theorem State.noWindow_keeps (s) (z1) (z2) : Keeps 65940 s (State.noWindow s z1 z2) := by
  unfold State.noWindow
  refine Keeps.ite ?_ ?_
  · exact Keeps.refl _ _
  · refine Keeps.ite ?_ ?_
    · refine Keeps.step ?_ (State.flrDiscard_keeps _ _) rfl
      exact Keeps.refl _ _
    · refine Keeps.step ?_ (State.unsupported_keeps _ _ _) rfl
      refine Keeps.ite ?_ ?_
      · refine Keeps.step ?_ (State.poisonSeen_keeps _) rfl
        exact Keeps.refl _ _
      · exact Keeps.refl _ _

theorem State.answerWord_keeps (s) (z1) (z2) : Keeps 65940 s (State.answerWord s z1 z2) := by
  unfold State.answerWord
  refine Keeps.step ?_ (State.completeData_keeps _ _ _ _) rfl
  exact Keeps.refl _ _

end Sys2Proof.Machine
end

