-- ==== Sys2Proof/Laws/FootFurrow.lean ====
section
/-! SUPPORT. The footprints of the operations of Machine/Furrow.lean. -/

namespace Sys2Proof.Machine

theorem State.writeFctx_keeps (s) (z1) (z2) (z3) (z4) : Keeps 65548 s (State.writeFctx s z1 z2 z3 z4) := by
  unfold State.writeFctx
  extract_lets x1 x2 x3
  clear_value x1
  have hx2 : Keeps 65548 s x2 := by
    unfold x2
    refine Keeps.step ?_ (State.valueErr_keeps _ _ _ _) rfl
    exact Keeps.refl _ _
  clear_value x2
  clear_value x3
  refine Keeps.ite ?_ ?_
  · assumption
  · split
    · rename_i y4
      refine Keeps.ite ?_ ?_
      · refine Keeps.step ?_ (State.setRg_keeps _ _ _) rfl
        exact Keeps.refl _ _
      · assumption
    · rename_i y5
      refine Keeps.step ?_ (State.setRg_keeps _ _ _) rfl
      exact Keeps.refl _ _
    · rename_i y6
      refine Keeps.ite ?_ ?_
      · assumption
      · refine Keeps.step ?_ (State.setRg_keeps _ _ _) rfl
        exact Keeps.refl _ _
    · rename_i y7
      refine Keeps.ite ?_ ?_
      · refine Keeps.step ?_ (State.setRg_keeps _ _ _) rfl
        exact Keeps.refl _ _
      · assumption
    · rename_i y8
      refine Keeps.step ?_ (State.setRg_keeps _ _ _) rfl
      exact Keeps.refl _ _
    · rename_i y9 y10 y11 y12 y13 y14
      exact Keeps.refl _ _

theorem State.tailOp_keeps (s) (z1) (z2) : Keeps 65796 s (State.tailOp s z1 z2) := by
  unfold State.tailOp
  extract_lets x1 x2 x3 x4 x5
  have hx1 : Keeps 65796 s x1 := by
    unfold x1
    refine Keeps.step ?_ (State.bump_keeps _ _) rfl
    exact Keeps.refl _ _
  clear_value x1
  have hx3 : ∀ a6, Keeps 65796 s a6 → Keeps 65796 s (x3 a6) := by
    unfold x3
    intro a7 a8
    refine Keeps.step ?_ (State.bump_keeps _ _) rfl
    refine Keeps.step ?_ (State.raise_keeps _ _ _) rfl
    assumption
  clear_value x3
  clear_value x5
  split
  · rename_i y9 y10
    refine Keeps.ite ?_ ?_
    · assumption
    · refine Keeps.ite ?_ ?_
      · refine Keeps.step ?_ (State.setFur_keeps _ _ _) rfl
        assumption
      · refine hx3 _ ?_
        refine Keeps.step ?_ (State.setFur_keeps _ _ _) rfl
        assumption
  · rename_i y11 y12
    refine Keeps.ite ?_ ?_
    · assumption
    · refine Keeps.ite ?_ ?_
      · refine Keeps.step ?_ (State.setFur_keeps _ _ _) rfl
        assumption
      · refine hx3 _ ?_
        refine Keeps.step ?_ (State.setFur_keeps _ _ _) rfl
        assumption
  · rename_i y13 y14 y15
    refine hx3 _ ?_
    assumption

theorem State.inlineOp_keeps (s) (z1) (z2) : Keeps 33685404 s (State.inlineOp s z1 z2) := by
  unfold State.inlineOp
  extract_lets x1 x2 x3 x4 x5
  clear_value x2
  clear_value x5
  split
  · rename_i y6 y7
    refine Keeps.ite ?_ ?_
    · refine Keeps.step ?_ (State.acceptAll_keeps _ _) rfl
      refine Keeps.setg (m := 33685404) _ ?_ id id rfl
      exact Keeps.refl _ _
    · refine Keeps.step ?_ (State.furrowFail_keeps _ _ _ _) rfl
      refine Keeps.step ?_ (State.bump_keeps _ _) rfl
      refine Keeps.step ?_ (State.raise_keeps _ _ _) rfl
      exact Keeps.refl _ _
  · rename_i y8 y9
    refine Keeps.ite ?_ ?_
    · refine Keeps.step ?_ (State.acceptAll_keeps _ _) rfl
      refine Keeps.setg (m := 33685404) _ ?_ id id rfl
      exact Keeps.refl _ _
    · refine Keeps.step ?_ (State.furrowFail_keeps _ _ _ _) rfl
      refine Keeps.step ?_ (State.bump_keeps _ _) rfl
      refine Keeps.step ?_ (State.raise_keeps _ _ _) rfl
      exact Keeps.refl _ _
  · rename_i y10 y11 y12
    refine Keeps.step ?_ (State.bump_keeps _ _) rfl
    refine Keeps.step ?_ (State.raise_keeps _ _ _) rfl
    refine Keeps.step ?_ (State.setFur_keeps _ _ _) rfl
    exact Keeps.refl _ _

theorem execDbTail_keeps (z0) (z1) (z2) (s) : KeepsO 33620380 s (execDbTail z0 z1 z2 s) := by
  unfold execDbTail
  extract_lets x1
  have hx1 : KeepsP 33620380 s x1 := by
    unfold x1
    refine KeepsP.step ?_ (State.admitReq_keeps _ _ _ _) rfl
    exact Keeps.refl _ _
  clear_value x1
  refine KeepsO.next ?_
  refine Keeps.ite ?_ ?_
  · refine Keeps.step ?_ (State.tailOp_keeps _ _ _) rfl
    refine KeepsP.fst ?_
    assumption
  · refine KeepsP.fst ?_
    assumption

theorem execDbInline_keeps (z0) (z1) (z2) (s) : KeepsO 33685404 s (execDbInline z0 z1 z2 s) := by
  unfold execDbInline
  extract_lets x1 x2
  clear_value x1
  have hx2 : KeepsP 33685404 s x2 := by
    unfold x2
    refine KeepsP.step ?_ (State.admitReq_keeps _ _ _ _) rfl
    exact Keeps.refl _ _
  clear_value x2
  refine KeepsO.next ?_
  refine Keeps.ite ?_ ?_
  · refine KeepsP.fst ?_
    assumption
  · refine Keeps.ite ?_ ?_
    · refine Keeps.step ?_ (State.inlineOp_keeps _ _ _) rfl
      refine KeepsP.fst ?_
      assumption
    · refine Keeps.step ?_ (State.mmioErr_keeps _ _ _ _ _) rfl
      refine KeepsP.fst ?_
      assumption

theorem execRingFetch_keeps (s) : KeepsO 65940 s (execRingFetch s) := by
  unfold execRingFetch
  refine KeepsO.ite ?_ ?_
  · refine KeepsO.next ?_
    exact Keeps.refl _ _
  · split
    · rename_i y1 y2
      refine KeepsO.next ?_
      exact Keeps.refl _ _
    · rename_i y3 y4 y5
      extract_lets x6 x7
      clear_value x6
      clear_value x7
      split
      · rename_i y8 y9
        refine KeepsO.next ?_
        exact Keeps.refl _ _
      · rename_i y10 y11 y12
        have h13 : KeepsN 65940 s y11 := by
          refine KeepsR.ofEq1 ?_ y12
          refine KeepsR.ite ?_ ?_
          · refine KeepsR.step ?_ (State.request_keeps _ _ _) rfl
            exact Keeps.refl _ _
          · exact KeepsR.none
        extract_lets x14 x15
        have hx14 : Keeps 65940 s x14 := by
          unfold x14
          refine Keeps.step ?_ (State.setFur_keeps _ _ _) rfl
          refine KeepsN.snd ?_
          assumption
        clear_value x14
        refine KeepsO.next ?_
        refine Keeps.setg (m := 65940) _ ?_ id id rfl
        assumption

theorem State.ringDone_keeps (s) (z1) (z2) (z3) (z4) : Keeps 33685404 s (State.ringDone s z1 z2 z3 z4) := by
  unfold State.ringDone
  extract_lets x1
  split
  · rename_i y2 y3
    refine Keeps.step ?_ (State.acceptAll_keeps _ _) rfl
    refine Keeps.step ?_ (State.setFur_keeps _ _ _) rfl
    exact Keeps.refl _ _
  · rename_i y4 y5
    refine Keeps.step ?_ (State.acceptAll_keeps _ _) rfl
    refine Keeps.step ?_ (State.setFur_keeps _ _ _) rfl
    exact Keeps.refl _ _
  · rename_i y6 y7
    refine Keeps.step ?_ (State.acceptAll_keeps _ _) rfl
    refine Keeps.step ?_ (State.setFur_keeps _ _ _) rfl
    exact Keeps.refl _ _
  · rename_i y8 y9 y10 y11
    exact Keeps.refl _ _

theorem State.dropRing_keeps (s) (z1) : Keeps 384 s (State.dropRing s z1) := by
  unfold State.dropRing
  extract_lets x1 x2 x3 x4 x5
  clear_value x1
  have hx4 : Keeps 384 s x4 := by
    unfold x4
    refine Keeps.sethost (m := 384) _ ?_ id rfl
    exact Keeps.refl _ _
  clear_value x4
  refine Keeps.step ?_ (State.setFur_keeps _ _ _) rfl
  assumption

theorem State.ringFailed_keeps (s) (z1) (z2) (z3) : Keeps 65800 s (State.ringFailed s z1 z2 z3) := by
  unfold State.ringFailed
  extract_lets x1 x2 x3 x4 x5
  clear_value x2
  clear_value x3
  have hx5 : Keeps 65800 s x5 := by
    unfold x5
    refine Keeps.step ?_ (State.setFur_keeps _ _ _) rfl
    exact Keeps.refl _ _
  clear_value x5
  refine Keeps.step ?_ (State.furrowFail_keeps _ _ _ _) rfl
  refine Keeps.step ?_ (State.raise_keeps _ _ _) rfl
  assumption

theorem execRingEntriesReceived_keeps (z0) (z1) (s) : KeepsO 33685404 s (execRingEntriesReceived z0 z1 s) := by
  unfold execRingEntriesReceived
  split
  · rename_i y1 y2 y3
    refine KeepsO.ite ?_ ?_
    · refine KeepsO.next ?_
      split
      · rename_i y4 y5 y6 y7 y8
        refine Keeps.step ?_ (State.lateCompletion_keeps _ _ _) rfl
        exact Keeps.refl _ _
      · rename_i y9 y10 y11
        refine Keeps.step ?_ (State.lateCompletion_keeps _ _ _) rfl
        exact Keeps.refl _ _
      · rename_i y12 y13 y14
        exact Keeps.refl _ _
    · split
      · rename_i y15 y16 y17 y18 y19
        refine KeepsO.next ?_
        refine Keeps.step ?_ (State.ringDone_keeps _ _ _ _ _) rfl
        refine Keeps.step ?_ (State.freeTagUse_keeps _ _) rfl
        exact Keeps.refl _ _
      · rename_i y20 y21 y22
        refine KeepsO.next ?_
        refine Keeps.step ?_ (State.freeTagUse_keeps _ _) rfl
        exact Keeps.refl _ _
      · rename_i y23 y24 y25
        refine KeepsO.next ?_
        exact Keeps.refl _ _
  · rename_i y26 y27
    refine KeepsO.next ?_
    exact Keeps.refl _ _

theorem execRingFault_keeps (z0) (s) : KeepsO 65932 s (execRingFault z0 s) := by
  unfold execRingFault
  split
  · rename_i y1 y2 y3
    refine KeepsO.ite ?_ ?_
    · refine KeepsO.next ?_
      split
      · rename_i y4 y5 y6 y7 y8
        refine Keeps.step ?_ (State.lateCompletion_keeps _ _ _) rfl
        exact Keeps.refl _ _
      · rename_i y9 y10 y11
        refine Keeps.step ?_ (State.lateCompletion_keeps _ _ _) rfl
        exact Keeps.refl _ _
      · rename_i y12 y13 y14
        exact Keeps.refl _ _
    · split
      · rename_i y15 y16 y17 y18 y19
        refine KeepsO.next ?_
        refine Keeps.step ?_ (State.ringFailed_keeps _ _ _ _) rfl
        refine Keeps.step ?_ (State.freeTagUse_keeps _ _) rfl
        exact Keeps.refl _ _
      · rename_i y20 y21 y22
        refine KeepsO.next ?_
        refine Keeps.step ?_ (State.freeTagUse_keeps _ _) rfl
        exact Keeps.refl _ _
      · rename_i y23 y24 y25
        refine KeepsO.next ?_
        exact Keeps.refl _ _
  · rename_i y26 y27
    refine KeepsO.next ?_
    exact Keeps.refl _ _

theorem execHeadWriteback_keeps (z0) (s) : KeepsO 65940 s (execHeadWriteback z0 s) := by
  unfold execHeadWriteback
  extract_lets x1
  refine KeepsO.ite ?_ ?_
  · refine KeepsO.next ?_
    refine Keeps.step ?_ (State.post_keeps _ _) rfl
    refine Keeps.step ?_ (State.setFur_keeps _ _ _) rfl
    exact Keeps.refl _ _
  · refine KeepsO.next ?_
    exact Keeps.refl _ _

theorem State.enableOp_keeps (s) (z1) : Keeps 256 s (State.enableOp s z1) := by
  unfold State.enableOp
  extract_lets x1 x2
  clear_value x2
  refine Keeps.ite ?_ ?_
  · exact Keeps.refl _ _
  · refine Keeps.ite ?_ ?_
    · refine Keeps.step ?_ (State.setFur_keeps _ _ _) rfl
      exact Keeps.refl _ _
    · refine Keeps.step ?_ (State.setFur_keeps _ _ _) rfl
      exact Keeps.refl _ _

theorem State.cancelSlot_keeps (s) (z1) (z2) : Keeps 35782556 s (State.cancelSlot s z1 z2) := by
  unfold State.cancelSlot
  refine Keeps.ite ?_ ?_
  · split
    · rename_i y1 y2
      refine Keeps.each ?_ ?_
      · exact Keeps.refl _ _
      · intro a3 a4 a5
        refine Keeps.step ?_ (State.stopPool_keeps _ _) rfl
        refine Keeps.step ?_ (State.setRow_keeps _ _ _) rfl
        assumption
    · rename_i y6 y7
      refine Keeps.step ?_ (State.haltProgram_keeps _ _ _ _ _) rfl
      exact Keeps.refl _ _
    · rename_i y8 y9 y10
      exact Keeps.refl _ _
  · extract_lets x11 x12 x13
    have hx11 : Keeps 35782556 s x11 := by
      unfold x11
      refine Keeps.step ?_ (State.withdraw_keeps _ _) rfl
      exact Keeps.refl _ _
    clear_value x11
    have hx12 : Keeps 35782556 s x12 := by
      unfold x12
      refine Keeps.step ?_ (State.leaveFaults_keeps _ _) rfl
      assumption
    clear_value x12
    have hx13 : Keeps 35782556 s x13 := by
      unfold x13
      refine Keeps.step ?_ (State.modSlot_keeps _ _ _ _) rfl
      assumption
    clear_value x13
    refine Keeps.step ?_ (State.cancelTry_keeps _ _ _) rfl
    assumption

theorem State.disableOp_keeps (s) (z1) : Keeps 35782556 s (State.disableOp s z1) := by
  unfold State.disableOp
  split
  · rename_i y1 y2
    extract_lets x3 x4 x5
    have hx3 : Keeps 35782556 s x3 := by
      unfold x3
      refine Keeps.step ?_ (State.dropRing_keeps _ _) rfl
      exact Keeps.refl _ _
    clear_value x3
    have hx5 : Keeps 35782556 s x5 := by
      unfold x5
      refine Keeps.step ?_ (State.setFur_keeps _ _ _) rfl
      assumption
    clear_value x5
    refine Keeps.step ?_ (State.settleStakes_keeps _) rfl
    refine Keeps.each ?_ ?_
    · assumption
    · intro a6 a7 a8
      refine Keeps.step ?_ (State.cancelSlot_keeps _ _ _) rfl
      assumption
  · rename_i y9 y10
    extract_lets x11 x12 x13
    have hx11 : Keeps 35782556 s x11 := by
      unfold x11
      refine Keeps.step ?_ (State.dropRing_keeps _ _) rfl
      exact Keeps.refl _ _
    clear_value x11
    have hx13 : Keeps 35782556 s x13 := by
      unfold x13
      refine Keeps.step ?_ (State.setFur_keeps _ _ _) rfl
      assumption
    clear_value x13
    refine Keeps.step ?_ (State.settleStakes_keeps _) rfl
    refine Keeps.each ?_ ?_
    · assumption
    · intro a14 a15 a16
      refine Keeps.step ?_ (State.cancelSlot_keeps _ _ _) rfl
      assumption
  · rename_i y17 y18
    extract_lets x19 x20 x21
    have hx19 : Keeps 35782556 s x19 := by
      unfold x19
      refine Keeps.step ?_ (State.dropRing_keeps _ _) rfl
      exact Keeps.refl _ _
    clear_value x19
    have hx21 : Keeps 35782556 s x21 := by
      unfold x21
      refine Keeps.step ?_ (State.setFur_keeps _ _ _) rfl
      assumption
    clear_value x21
    refine Keeps.step ?_ (State.settleStakes_keeps _) rfl
    refine Keeps.each ?_ ?_
    · assumption
    · intro a22 a23 a24
      refine Keeps.step ?_ (State.cancelSlot_keeps _ _ _) rfl
      assumption
  · rename_i y25 y26 y27 y28
    exact Keeps.refl _ _

theorem State.disabledOp_keeps (s) (z1) : Keeps 256 s (State.disabledOp s z1) := by
  unfold State.disabledOp
  refine Keeps.ite ?_ ?_
  · refine Keeps.step ?_ (State.setFur_keeps _ _ _) rfl
    exact Keeps.refl _ _
  · exact Keeps.refl _ _

theorem State.drainOp_keeps (s) (z1) : Keeps 256 s (State.drainOp s z1) := by
  unfold State.drainOp
  extract_lets x1
  refine Keeps.ite ?_ ?_
  · refine Keeps.step ?_ (State.setFur_keeps _ _ _) rfl
    exact Keeps.refl _ _
  · exact Keeps.refl _ _

theorem State.resumeOp_keeps (s) (z1) : Keeps 256 s (State.resumeOp s z1) := by
  unfold State.resumeOp
  extract_lets x1
  refine Keeps.ite ?_ ?_
  · refine Keeps.step ?_ (State.setFur_keeps _ _ _) rfl
    exact Keeps.refl _ _
  · exact Keeps.refl _ _

theorem State.prioOp_keeps (s) (z1) (z2) : Keeps 8 s (State.prioOp s z1 z2) := by
  unfold State.prioOp
  refine Keeps.step ?_ (State.setRg_keeps _ _ _) rfl
  exact Keeps.refl _ _

theorem State.enableBit_keeps (s) (z1) (z2) : Keeps 35782556 s (State.enableBit s z1 z2) := by
  unfold State.enableBit
  extract_lets x1
  have hx1 : Keeps 35782556 s x1 := by
    unfold x1
    refine Keeps.step ?_ (State.setRg_keeps _ _ _) rfl
    exact Keeps.refl _ _
  clear_value x1
  refine Keeps.ite ?_ ?_
  · refine Keeps.step ?_ (State.disableOp_keeps _ _) rfl
    assumption
  · refine Keeps.ite ?_ ?_
    · refine Keeps.step ?_ (State.enableOp_keeps _ _) rfl
      assumption
    · assumption

theorem State.writeFctxCtrl_keeps (s) (z1) (z2) : Keeps 35782556 s (State.writeFctxCtrl s z1 z2) := by
  unfold State.writeFctxCtrl
  extract_lets x1 x2 x3
  have hx2 : Keeps 35782556 s x2 := by
    unfold x2
    refine Keeps.step ?_ (State.enableBit_keeps _ _ _) rfl
    refine Keeps.step ?_ (State.prioOp_keeps _ _ _) rfl
    exact Keeps.refl _ _
  clear_value x2
  have hx3 : Keeps 35782556 s x3 := by
    unfold x3
    refine Keeps.ite ?_ ?_
    · refine Keeps.step ?_ (State.drainOp_keeps _ _) rfl
      assumption
    · assumption
  clear_value x3
  refine Keeps.ite ?_ ?_
  · assumption
  · refine Keeps.ite ?_ ?_
    · refine Keeps.step ?_ (State.resumeOp_keeps _ _) rfl
      assumption
    · assumption

theorem execFurrowEnable_keeps (z0) (s) : KeepsO 35782556 s (execFurrowEnable z0 s) := by
  unfold execFurrowEnable
  refine KeepsO.next ?_
  refine Keeps.step ?_ (State.enableBit_keeps _ _ _) rfl
  exact Keeps.refl _ _

theorem execFurrowDisable_keeps (z0) (s) : KeepsO 35782556 s (execFurrowDisable z0 s) := by
  unfold execFurrowDisable
  refine KeepsO.next ?_
  refine Keeps.step ?_ (State.enableBit_keeps _ _ _) rfl
  exact Keeps.refl _ _

theorem execFurrowDisabled_keeps (z0) (s) : KeepsO 256 s (execFurrowDisabled z0 s) := by
  unfold execFurrowDisabled
  refine KeepsO.next ?_
  refine Keeps.step ?_ (State.disabledOp_keeps _ _) rfl
  exact Keeps.refl _ _

theorem execDrain_keeps (z0) (s) : KeepsO 256 s (execDrain z0 s) := by
  unfold execDrain
  refine KeepsO.next ?_
  refine Keeps.step ?_ (State.drainOp_keeps _ _) rfl
  exact Keeps.refl _ _

theorem execDrainComplete_keeps (z0) (s) : KeepsO 256 s (execDrainComplete z0 s) := by
  unfold execDrainComplete
  extract_lets x1
  refine KeepsO.ite ?_ ?_
  · refine KeepsO.next ?_
    refine Keeps.step ?_ (State.setFur_keeps _ _ _) rfl
    exact Keeps.refl _ _
  · refine KeepsO.next ?_
    exact Keeps.refl _ _

theorem execResume_keeps (z0) (s) : KeepsO 256 s (execResume z0 s) := by
  unfold execResume
  refine KeepsO.next ?_
  refine Keeps.step ?_ (State.resumeOp_keeps _ _) rfl
  exact Keeps.refl _ _

theorem execPrio_keeps (z0) (z1) (s) : KeepsO 8 s (execPrio z0 z1 s) := by
  unfold execPrio
  refine KeepsO.next ?_
  refine Keeps.step ?_ (State.prioOp_keeps _ _ _) rfl
  exact Keeps.refl _ _

theorem execFctxWrite_keeps (z0) (z1) (z2) (z3) (s) : KeepsO 65548 s (execFctxWrite z0 z1 z2 z3 s) := by
  unfold execFctxWrite
  refine KeepsO.next ?_
  refine Keeps.step ?_ (State.writeFctx_keeps _ _ _ _ _) rfl
  exact Keeps.refl _ _

theorem execDescriptorSown_keeps (z0) (z1) (s) : KeepsO 33685404 s (execDescriptorSown z0 z1 s) := by
  unfold execDescriptorSown
  refine KeepsO.ite ?_ ?_
  · refine KeepsO.next ?_
    refine Keeps.step ?_ (State.settleStakes_keeps _) rfl
    refine Keeps.step ?_ (State.cancelTry_keeps _ _ _) rfl
    exact Keeps.refl _ _
  · refine KeepsO.ite ?_ ?_
    · refine KeepsO.next ?_
      refine Keeps.step ?_ (State.sowTry_keeps _ _ _) rfl
      exact Keeps.refl _ _
    · refine KeepsO.next ?_
      exact Keeps.refl _ _

theorem State.dropFurrows_keeps (s) (z1) : Keeps 94108 s (State.dropFurrows s z1) := by
  unfold State.dropFurrows
  extract_lets x1 x2 x3 x4
  have hx1 : Keeps 94108 s x1 := by
    unfold x1
    refine Keeps.step ?_ (State.withdraw_keeps _ _) rfl
    exact Keeps.refl _ _
  clear_value x1
  have hx2 : Keeps 94108 s x2 := by
    unfold x2
    refine Keeps.step ?_ (State.leaveFaults_keeps _ _) rfl
    assumption
  clear_value x2
  have hx3 : Keeps 94108 s x3 := by
    unfold x3
    refine Keeps.each ?_ ?_
    · assumption
    · intro a5 a6 a7
      extract_lets x8 x9
      have hx8 : Keeps 94108 s x8 := by
        unfold x8
        refine Keeps.step ?_ (State.dropRing_keeps _ _) rfl
        assumption
      clear_value x8
      refine Keeps.step ?_ (State.setFur_keeps _ _ _) rfl
      assumption
  clear_value x3
  refine Keeps.setg (m := 94108) _ ?_ id id rfl
  assumption

theorem execStartPointReached_keeps (z0) (s) : KeepsO 33685404 s (execStartPointReached z0 s) := by
  unfold execStartPointReached
  split
  · rename_i y1 y2
    refine KeepsO.next ?_
    exact Keeps.refl _ _
  · rename_i y3 y4 y5
    refine KeepsO.ite ?_ ?_
    · refine KeepsO.next ?_
      exact Keeps.refl _ _
    · split
      · rename_i y6 y7 y8
        refine KeepsO.next ?_
        refine Keeps.step ?_ (State.sowAhead_keeps _ _) rfl
        refine Keeps.step ?_ (State.settleStakes_keeps _) rfl
        refine Keeps.step ?_ (State.finish_keeps _ _ _ _ _ _) rfl
        exact Keeps.refl _ _
      · rename_i y9 y10
        refine KeepsO.ite ?_ ?_
        · refine KeepsO.next ?_
          refine Keeps.step ?_ (State.modSlot_keeps _ _ _ _) rfl
          exact Keeps.refl _ _
        · refine KeepsO.ite ?_ ?_
          · refine KeepsO.next ?_
            refine Keeps.step ?_ (State.modSlot_keeps _ _ _ _) rfl
            exact Keeps.refl _ _
          · refine KeepsO.ite ?_ ?_
            · refine KeepsO.next ?_
              refine Keeps.step ?_ (State.sowAhead_keeps _ _) rfl
              refine Keeps.step ?_ (State.settleStakes_keeps _) rfl
              refine Keeps.step ?_ (State.finish_keeps _ _ _ _ _ _) rfl
              exact Keeps.refl _ _
            · extract_lets x11 x12
              have hx12 : Keeps 33685404 s x12 := by
                unfold x12
                refine Keeps.step ?_ (State.modSlot_keeps _ _ _ _) rfl
                exact Keeps.refl _ _
              clear_value x12
              split
              · rename_i y13 y14 y15
                have h16 : Keeps 33685404 s y14 := by
                  refine KeepsS.ofEq ?_ y15
                  refine KeepsS.step ?_ (State.placeWait_keeps _ _ _ _ _) rfl
                  assumption
                refine KeepsO.next ?_
                refine Keeps.step ?_ (State.sowAhead_keeps _ _) rfl
                refine Keeps.step ?_ (State.settleStakes_keeps _) rfl
                assumption
              · rename_i y17 y18
                refine KeepsO.next ?_
                refine Keeps.ite ?_ ?_
                · exact Keeps.refl _ _
                · refine Keeps.step ?_ (State.bump_keeps _ _) rfl
                  refine Keeps.step ?_ (State.modSlot_keeps _ _ _ _) rfl
                  exact Keeps.refl _ _

theorem State.markStarted_keeps (s) (z1) (z2) (z3) : Keeps 256 s (State.markStarted s z1 z2 z3) := by
  unfold State.markStarted
  extract_lets x1 x2
  have hx1 : Keeps 256 s x1 := by
    unfold x1
    refine Keeps.step ?_ (State.modSlot_keeps _ _ _ _) rfl
    exact Keeps.refl _ _
  clear_value x1
  refine Keeps.setg (m := 256) _ ?_ id id rfl
  assumption

theorem State.startNop_keeps (s) : Keeps 33685404 s (State.startNop s) := by
  unfold State.startNop
  split
  · rename_i y1 y2
    exact Keeps.refl _ _
  · rename_i y3 y4 y5 y6
    extract_lets x7
    have hx7 : Keeps 33685404 s x7 := by
      unfold x7
      refine Keeps.step ?_ (State.half_keeps _ _ _) rfl
      refine Keeps.step ?_ (State.markStarted_keeps _ _ _ _) rfl
      exact Keeps.refl _ _
    clear_value x7
    refine Keeps.step ?_ (State.sowAhead_keeps _ _) rfl
    refine Keeps.step ?_ (State.settleStakes_keeps _) rfl
    refine Keeps.step ?_ (State.finish_keeps _ _ _ _ _ _) rfl
    assumption

theorem State.startDrill_keeps (s) : Keeps 33685404 s (State.startDrill s) := by
  unfold State.startDrill
  split
  · rename_i y1 y2 y3 y4 y5 y6 y7
    refine Keeps.ite ?_ ?_
    · refine Keeps.step ?_ (State.sowAhead_keeps _ _) rfl
      refine Keeps.step ?_ (State.settleStakes_keeps _) rfl
      refine Keeps.step ?_ (State.finish_keeps _ _ _ _ _ _) rfl
      refine Keeps.step ?_ (State.markStarted_keeps _ _ _ _) rfl
      exact Keeps.refl _ _
    · extract_lets x8 x9 x10
      have hx8 : Keeps 33685404 s x8 := by
        unfold x8
        refine Keeps.step ?_ (State.markStarted_keeps _ _ _ _) rfl
        exact Keeps.refl _ _
      clear_value x8
      refine Keeps.step ?_ (State.sowAhead_keeps _ _) rfl
      refine Keeps.step ?_ (State.setRow_keeps _ _ _) rfl
      assumption
  · rename_i y11 y12 y13
    exact Keeps.refl _ _

theorem State.startSeed_keeps (s) : Keeps 302120860 s (State.startSeed s) := by
  unfold State.startSeed
  split
  · rename_i y1 y2 y3 y4
    refine Keeps.ite ?_ ?_
    · refine Keeps.step ?_ (State.sowAhead_keeps _ _) rfl
      refine Keeps.step ?_ (State.settleStakes_keeps _) rfl
      refine Keeps.step ?_ (State.finish_keeps _ _ _ _ _ _) rfl
      refine Keeps.step ?_ (State.markStarted_keeps _ _ _ _) rfl
      exact Keeps.refl _ _
    · extract_lets x5
      clear_value x5
      refine Keeps.step ?_ (State.sowAhead_keeps _ _) rfl
      refine Keeps.step ?_ (State.setSeed_keeps _ _) rfl
      refine Keeps.step ?_ (State.markStarted_keeps _ _ _ _) rfl
      exact Keeps.refl _ _
  · rename_i y6 y7
    exact Keeps.refl _ _

theorem State.completeOp_keeps (s) (z1) (z2) : Keeps 35782556 s (State.completeOp s z1 z2) := by
  unfold State.completeOp
  extract_lets x1 x2
  have hx1 : KeepsP 35782556 s x1 := by
    unfold x1
    refine KeepsP.step ?_ (State.sowTail_keeps _ _ _) rfl
    exact Keeps.refl _ _
  clear_value x1
  have hx2 : Keeps 35782556 s x2 := by
    unfold x2
    refine KeepsP.fst ?_
    assumption
  split
  · rename_i y3 y4
    assumption
  · rename_i y5 y6 y7
    refine Keeps.ite ?_ ?_
    · assumption
    · split
      · rename_i y8 y9
        split
        · rename_i y10 y11 y12 y13
          split
          · rename_i y14 y15 y16
            refine Keeps.step ?_ (State.sowAhead_keeps _ _) rfl
            refine Keeps.step ?_ (State.completeFurrow_keeps _ _ _ _ _ _ _) rfl
            assumption
          · rename_i y17 y18
            assumption
        · rename_i y19 y20
          assumption
      · rename_i y21 y22
        refine Keeps.ite ?_ ?_
        · assumption
        · extract_lets x23 x24
          clear_value x23
          have hx24 : Keeps 35782556 s x24 := by
            unfold x24
            refine Keeps.ite ?_ ?_
            · refine Keeps.step ?_ (State.half_keeps _ _ _) rfl
              assumption
            · assumption
          clear_value x24
          refine Keeps.step ?_ (State.sowAhead_keeps _ _) rfl
          refine Keeps.step ?_ (State.settleStakes_keeps _) rfl
          refine Keeps.step ?_ (State.finish_keeps _ _ _ _ _ _) rfl
          assumption
      · rename_i y25 y26 y27
        split
        · rename_i y28 y29 y30
          refine Keeps.ite ?_ ?_
          · assumption
          · extract_lets x31
            have hx31 : Keeps 35782556 s x31 := by
              unfold x31
              refine Keeps.ite ?_ ?_
              · refine Keeps.step ?_ (State.half_keeps _ _ _) rfl
                assumption
              · assumption
            clear_value x31
            refine Keeps.step ?_ (State.sowAhead_keeps _ _) rfl
            refine Keeps.step ?_ (State.settleStakes_keeps _) rfl
            refine Keeps.step ?_ (State.finish_keeps _ _ _ _ _ _) rfl
            assumption
        · rename_i y32 y33
          assumption

theorem execDescriptorComplete_keeps (z0) (z1) (s) : KeepsO 35782556 s (execDescriptorComplete z0 z1 s) := by
  unfold execDescriptorComplete
  refine KeepsO.next ?_
  refine Keeps.step ?_ (State.completeOp_keeps _ _ _) rfl
  exact Keeps.refl _ _

theorem State.halfTail_keeps (s) (z1) (z2) : KeepsP 94100 s (State.halfTail s z1 z2) := by
  unfold State.halfTail
  split
  · rename_i y1 y2 y3
    refine KeepsP.ite ?_ ?_
    · refine KeepsP.step ?_ (State.sowTail_keeps _ _ _) rfl
      exact Keeps.refl _ _
    · refine KeepsP.mk ?_
      exact Keeps.refl _ _
  · rename_i y4 y5
    refine KeepsP.mk ?_
    exact Keeps.refl _ _

theorem execHalfPoint_keeps (z0) (z1) (s) : KeepsO 33685404 s (execHalfPoint z0 z1 s) := by
  unfold execHalfPoint
  extract_lets x1 x2
  have hx1 : KeepsP 33685404 s x1 := by
    unfold x1
    refine KeepsP.step ?_ (State.halfTail_keeps _ _ _) rfl
    exact Keeps.refl _ _
  clear_value x1
  have hx2 : Keeps 33685404 s x2 := by
    unfold x2
    refine KeepsP.fst ?_
    assumption
  split
  · rename_i y3 y4
    refine KeepsO.next ?_
    assumption
  · rename_i y5 y6 y7
    refine KeepsO.ite ?_ ?_
    · refine KeepsO.next ?_
      assumption
    · split
      · rename_i y8 y9
        split
        · rename_i y10 y11 y12 y13
          refine KeepsO.ite ?_ ?_
          · refine KeepsO.next ?_
            refine Keeps.step ?_ (State.settleStakes_keeps _) rfl
            refine Keeps.step ?_ (State.half_keeps _ _ _) rfl
            assumption
          · refine KeepsO.next ?_
            assumption
        · rename_i y14 y15
          refine KeepsO.next ?_
          assumption
      · rename_i y16 y17
        refine KeepsO.ite ?_ ?_
        · refine KeepsO.next ?_
          refine Keeps.step ?_ (State.settleStakes_keeps _) rfl
          refine Keeps.step ?_ (State.half_keeps _ _ _) rfl
          assumption
        · refine KeepsO.next ?_
          assumption
      · rename_i y18 y19 y20
        refine KeepsO.next ?_
        assumption

theorem execStakeSet_keeps (z0) (z1) (s) : KeepsO 33685404 s (execStakeSet z0 z1 s) := by
  unfold execStakeSet
  extract_lets x1
  have hx1 : KeepsP 33685404 s x1 := by
    unfold x1
    refine KeepsP.step ?_ (State.admitReq_keeps _ _ _ _) rfl
    exact Keeps.refl _ _
  clear_value x1
  refine KeepsO.next ?_
  refine Keeps.ite ?_ ?_
  · refine Keeps.step ?_ (State.settleStakes_keeps _) rfl
    refine Keeps.step ?_ (State.stakeSetOp_keeps _ _ _) rfl
    refine KeepsP.fst ?_
    assumption
  · refine KeepsP.fst ?_
    assumption

theorem execStakeAdd_keeps (z0) (z1) (s) : KeepsO 33685404 s (execStakeAdd z0 z1 s) := by
  unfold execStakeAdd
  extract_lets x1
  have hx1 : KeepsP 33685404 s x1 := by
    unfold x1
    refine KeepsP.step ?_ (State.admitReq_keeps _ _ _ _) rfl
    exact Keeps.refl _ _
  clear_value x1
  refine KeepsO.next ?_
  refine Keeps.ite ?_ ?_
  · refine Keeps.step ?_ (State.settleStakes_keeps _) rfl
    refine Keeps.step ?_ (State.stakeAddOp_keeps _ _ _ _) rfl
    refine KeepsP.fst ?_
    assumption
  · refine KeepsP.fst ?_
    assumption

theorem State.writeStakeGroup_keeps (s) (z1) (z2) (z3) : Keeps 65548 s (State.writeStakeGroup s z1 z2 z3) := by
  unfold State.writeStakeGroup
  extract_lets x1
  clear_value x1
  refine Keeps.ite ?_ ?_
  · refine Keeps.step ?_ (State.valueErr_keeps _ _ _ _) rfl
    exact Keeps.refl _ _
  · refine Keeps.step ?_ (State.setRg_keeps _ _ _) rfl
    exact Keeps.refl _ _

theorem execStakeGroupWrite_keeps (z0) (z1) (z2) (s) : KeepsO 65548 s (execStakeGroupWrite z0 z1 z2 s) := by
  unfold execStakeGroupWrite
  refine KeepsO.next ?_
  refine Keeps.step ?_ (State.writeStakeGroup_keeps _ _ _ _) rfl
  exact Keeps.refl _ _

theorem State.endWait_keeps (s) (z1) : Keeps 35782556 s (State.endWait s z1) := by
  unfold State.endWait
  extract_lets x1 x2 x3
  have hx1 : ∀ a4 a5 a6, Keeps 35782556 s a4 → Keeps 35782556 s (x1 a4 a5 a6) := by
    unfold x1
    intro a7 a8 a9 a10
    refine Keeps.ite ?_ ?_
    · refine Keeps.step ?_ (State.finish_keeps _ _ _ _ _ _) rfl
      assumption
    · refine Keeps.step ?_ (State.modSlot_keeps _ _ _ _) rfl
      assumption
  clear_value x1
  have hx3 : Keeps 35782556 s x3 := by
    unfold x3
    refine Keeps.setg (m := 35782556) _ ?_ id id rfl
    exact Keeps.refl _ _
  clear_value x3
  split
  · rename_i y11 y12 y13 y14
    refine hx1 _ _ _ ?_
    assumption
  · rename_i y15 y16 y17 y18
    refine hx1 _ _ _ ?_
    assumption
  · rename_i y19 y20 y21 y22
    refine Keeps.step ?_ (State.modPlot_keeps _ _ _ (by first | exact fun _ h => h | exact fun _ _ => ⟨rfl, rfl⟩ | (intro x h; dsimp only; split <;> exact h) | (intro x h; split <;> exact h) | (intro x h; beta_reduce; split <;> exact h))) rfl
    assumption
  · rename_i y23 y24 y25
    extract_lets x26 x27
    have hx27 : Keeps 35782556 s x27 := by
      unfold x27
      refine Keeps.step ?_ (State.setRow_keeps _ _ _) rfl
      assumption
    clear_value x27
    refine Keeps.step ?_ (State.settle_keeps _ _) rfl
    assumption

theorem execStakeDeadlineCheck_keeps (s) : KeepsO 35782556 s (execStakeDeadlineCheck s) := by
  unfold execStakeDeadlineCheck
  refine KeepsO.ite ?_ ?_
  · refine KeepsO.next ?_
    refine Keeps.step ?_ (State.settleStakes_keeps _) rfl
    refine Keeps.each ?_ ?_
    · exact Keeps.refl _ _
    · intro a1 a2 a3
      refine Keeps.ite ?_ ?_
      · refine Keeps.step ?_ (State.endWait_keeps _ _) rfl
        assumption
      · refine Keeps.step ?_ (State.bump_keeps _ _) rfl
        refine Keeps.step ?_ (State.endWait_keeps _ _) rfl
        assumption
  · refine KeepsO.next ?_
    refine Keeps.step ?_ (State.queueMore_keeps _) rfl
    exact Keeps.refl _ _

theorem State.popTimeout_keeps (s) (z1) : KeepsP 268 s (State.popTimeout s z1) := by
  unfold State.popTimeout
  split
  · rename_i y1 y2
    refine KeepsP.mk ?_
    exact Keeps.refl _ _
  · rename_i y3 y4 y5 y6
    extract_lets x7 x8
    have hx8 : Keeps 268 s x8 := by
      unfold x8
      refine Keeps.ite ?_ ?_
      · refine Keeps.step ?_ (State.queueMore_keeps _) rfl
        refine Keeps.setg (m := 268) _ ?_ id id rfl
        exact Keeps.refl _ _
      · exact Keeps.refl _ _
    clear_value x8
    split
    · rename_i y9 y10
      refine KeepsP.mk ?_
      assumption
    · rename_i y11 y12 y13
      extract_lets x14
      refine KeepsP.mk ?_
      assumption

theorem State.cancelWait_keeps (s) (z1) (z2) : Keeps 35782556 s (State.cancelWait s z1 z2) := by
  unfold State.cancelWait
  split
  · rename_i y1 y2 y3
    refine Keeps.ite ?_ ?_
    · refine Keeps.step ?_ (State.queueMore_keeps _) rfl
      refine Keeps.step ?_ (State.settleStakes_keeps _) rfl
      refine Keeps.step ?_ (State.endWait_keeps _ _) rfl
      exact Keeps.refl _ _
    · exact Keeps.refl _ _
  · rename_i y4 y5
    exact Keeps.refl _ _

theorem execStakeWaitCancel_keeps (z0) (z1) (s) : KeepsO 35782556 s (execStakeWaitCancel z0 z1 s) := by
  unfold execStakeWaitCancel
  refine KeepsO.next ?_
  refine Keeps.step ?_ (State.cancelWait_keeps _ _ _) rfl
  exact Keeps.refl _ _

end Sys2Proof.Machine
end

