-- ==== Sys2Proof/Laws/FootCoh.lean ====
section
/-! SUPPORT. The footprints of the operations of Machine/Coh.lean. -/

namespace Sys2Proof.Machine

theorem State.track_keeps (s) (z1) (z2) : Keeps 4096 s (State.track s z1 z2) := by
  unfold State.track
  refine Keeps.setcoh (m := 4096) _ ?_ rfl
  exact Keeps.refl _ _

theorem State.untrack_keeps (s) (z1) : Keeps 4096 s (State.untrack s z1) := by
  unfold State.untrack
  refine Keeps.setcoh (m := 4096) _ ?_ rfl
  exact Keeps.refl _ _

theorem State.cxlAnswer_keeps (s) (z1) : Keeps 4096 s (State.cxlAnswer s z1) := by
  unfold State.cxlAnswer
  refine Keeps.setcoh (m := 4096) _ ?_ rfl
  exact Keeps.refl _ _

theorem State.cxlServe_keeps (s) (z1) : Keeps 33591428 s (State.cxlServe s z1) := by
  unfold State.cxlServe
  extract_lets x1 x2 x3 x4 x5 x6 x7 x8 x9 x10
  clear_value x1
  clear_value x2
  have hx3 : Keeps 33591428 s x3 := by
    unfold x3
    split
    · rename_i y11 y12 y13
      extract_lets x14
      have hx14 : Keeps 33591428 s x14 := by
        unfold x14
        refine Keeps.step ?_ (State.snoops_keeps _ _ _) rfl
        exact Keeps.refl _ _
      clear_value x14
      refine Keeps.ite ?_ ?_
      · refine Keeps.step ?_ (State.bump_keeps _ _) rfl
        assumption
      · assumption
    · rename_i y15 y16
      exact Keeps.refl _ _
  clear_value x3
  have hx5 : Keeps 33591428 s x5 := by
    unfold x5
    refine Keeps.step ?_ (State.snoops_keeps _ _ _) rfl
    exact Keeps.refl _ _
  clear_value x5
  have hx7 : Keeps 33591428 s x7 := by
    unfold x7
    refine Keeps.step ?_ (State.hbmWrite_keeps _ _ _ _) rfl
    exact Keeps.refl _ _
  clear_value x7
  have hx8 : Keeps 33591428 s x8 := by
    unfold x8
    refine Keeps.ite ?_ ?_
    · assumption
    · refine Keeps.ite ?_ ?_
      · refine Keeps.step ?_ (State.track_keeps _ _ _) rfl
        assumption
      · refine Keeps.step ?_ (State.untrack_keeps _ _) rfl
        assumption
  clear_value x8
  have hx9 : KeepsP 33591428 s x9 := by
    unfold x9
    refine KeepsP.step ?_ (State.hbmRead_keeps _ _ _) rfl
    exact Keeps.refl _ _
  clear_value x9
  have hx10 : Keeps 33591428 s x10 := by
    unfold x10
    refine Keeps.ite ?_ ?_
    · refine Keeps.step ?_ (State.track_keeps _ _ _) rfl
      refine KeepsP.fst ?_
      assumption
    · refine KeepsP.fst ?_
      assumption
  clear_value x10
  refine Keeps.ite ?_ ?_
  · refine Keeps.step ?_ (State.cxlAnswer_keeps _ _) rfl
    exact Keeps.refl _ _
  · refine Keeps.ite ?_ ?_
    · refine Keeps.setcoh (m := 33591428) _ ?_ rfl
      assumption
    · refine Keeps.ite ?_ ?_
      · refine Keeps.setcoh (m := 33591428) _ ?_ rfl
        assumption
      · refine Keeps.ite ?_ ?_
        · refine Keeps.step ?_ (State.cxlAnswer_keeps _ _) rfl
          assumption
        · refine Keeps.step ?_ (State.cxlAnswer_keeps _ _) rfl
          assumption

theorem State.cxlRefuse_keeps (s) (z1) : Keeps 4096 s (State.cxlRefuse s z1) := by
  unfold State.cxlRefuse
  refine Keeps.step ?_ (State.cxlAnswer_keeps _ _) rfl
  exact Keeps.refl _ _

theorem State.cxlNow_keeps (s) (z1) : Keeps 33656972 s (State.cxlNow s z1) := by
  unfold State.cxlNow
  refine Keeps.ite ?_ ?_
  · refine Keeps.step ?_ (State.cxlRefuse_keeps _ _) rfl
    refine Keeps.step ?_ (State.frozenDiscardOp_keeps _ _ _ _) rfl
    exact Keeps.refl _ _
  · refine Keeps.ite ?_ ?_
    · refine Keeps.ite ?_ ?_
      · refine Keeps.step ?_ (State.cxlRefuse_keeps _ _) rfl
        refine Keeps.step ?_ (State.mmioErr_keeps _ _ _ _ _) rfl
        exact Keeps.refl _ _
      · refine Keeps.step ?_ (State.cxlAnswer_keeps _ _) rfl
        exact Keeps.refl _ _
    · refine Keeps.step ?_ (State.cxlServe_keeps _ _) rfl
      exact Keeps.refl _ _

theorem State.cxlRequest_keeps (s) (z1) : Keeps 33656972 s (State.cxlRequest s z1) := by
  unfold State.cxlRequest
  refine Keeps.ite ?_ ?_
  · exact Keeps.refl _ _
  · split
    · rename_i y1 y2
      exact Keeps.refl _ _
    · rename_i y3 y4
      refine Keeps.ite ?_ ?_
      · refine Keeps.step ?_ (State.wakeEvent_keeps _) rfl
        refine Keeps.step ?_ (State.holdRequest_keeps _ _ _ _ _) rfl
        exact Keeps.refl _ _
      · refine Keeps.step ?_ (State.cxlRefuse_keeps _ _) rfl
        refine Keeps.step ?_ (State.noteRefused_keeps _ _ _ _) rfl
        exact Keeps.refl _ _
    · rename_i y5 y6
      refine Keeps.ite ?_ ?_
      · refine Keeps.step ?_ (State.wakeEvent_keeps _) rfl
        refine Keeps.step ?_ (State.holdRequest_keeps _ _ _ _ _) rfl
        exact Keeps.refl _ _
      · refine Keeps.step ?_ (State.cxlRefuse_keeps _ _) rfl
        refine Keeps.step ?_ (State.noteRefused_keeps _ _ _ _) rfl
        exact Keeps.refl _ _
    · rename_i y7 y8
      refine Keeps.step ?_ (State.holdRequest_keeps _ _ _ _ _) rfl
      exact Keeps.refl _ _
    · rename_i y9 y10
      refine Keeps.ite ?_ ?_
      · refine Keeps.step ?_ (State.cxlNow_keeps _ _) rfl
        exact Keeps.refl _ _
      · refine Keeps.step ?_ (State.holdRequest_keeps _ _ _ _ _) rfl
        exact Keeps.refl _ _
    · rename_i y11 y12
      refine Keeps.step ?_ (State.cxlNow_keeps _ _) rfl
      exact Keeps.refl _ _

theorem execCxlMemRead_keeps (z0) (s) : KeepsO 33656972 s (execCxlMemRead z0 s) := by
  unfold execCxlMemRead
  refine KeepsO.next ?_
  refine Keeps.step ?_ (State.cxlRequest_keeps _ _) rfl
  exact Keeps.refl _ _

theorem execCxlMemWrite_keeps (z0) (z1) (z2) (z3) (s) : KeepsO 33656972 s (execCxlMemWrite z0 z1 z2 z3 s) := by
  unfold execCxlMemWrite
  refine KeepsO.next ?_
  refine Keeps.step ?_ (State.cxlRequest_keeps _ _) rfl
  exact Keeps.refl _ _

theorem State.cohChange_keeps (s) (z1) : Keeps 4108 s (State.cohChange s z1) := by
  unfold State.cohChange
  extract_lets x1 x2 x3
  have hx1 : Keeps 4108 s x1 := by
    unfold x1
    refine Keeps.step ?_ (State.snoops_keeps _ _ _) rfl
    exact Keeps.refl _ _
  clear_value x1
  have hx2 : Keeps 4108 s x2 := by
    unfold x2
    refine Keeps.step ?_ (State.setRg_keeps _ _ _) rfl
    assumption
  clear_value x2
  refine Keeps.ite ?_ ?_
  · refine Keeps.setcoh (m := 4108) _ ?_ rfl
    assumption
  · assumption

theorem State.cohGo_keeps (s) : Keeps 33591436 s (State.cohGo s) := by
  unfold State.cohGo
  extract_lets x1 x2 x3 x4 x5
  have hx1 : Keeps 33591436 s x1 := by
    unfold x1
    refine Keeps.step ?_ (State.snoops_keeps _ _ _) rfl
    exact Keeps.refl _ _
  clear_value x1
  have hx2 : Keeps 33591436 s x2 := by
    unfold x2
    refine Keeps.step ?_ (State.cohStores_keeps _) rfl
    refine Keeps.each ?_ ?_
    · assumption
    · intro a6 a7 a8
      refine Keeps.step ?_ (State.cohChange_keeps _ _) rfl
      assumption
  clear_value x2
  have hx5 : Keeps 33591436 s x5 := by
    unfold x5
    refine Keeps.setcoh (m := 33591436) _ ?_ rfl
    assumption
  clear_value x5
  refine Keeps.each ?_ ?_
  · assumption
  · intro a9 a10 a11
    refine Keeps.step ?_ (State.cxlServe_keeps _ _) rfl
    assumption

theorem State.bisnpDone_keeps (s) (z1) (z2) : Keeps 33591436 s (State.bisnpDone s z1 z2) := by
  unfold State.bisnpDone
  split
  · rename_i y1 y2
    exact Keeps.refl _ _
  · rename_i y3 y4 y5
    extract_lets x6 x7 x8 x9 x10 x11
    have hx8 : Keeps 33591436 s x8 := by
      unfold x8
      refine Keeps.setcoh (m := 33591436) _ ?_ rfl
      exact Keeps.refl _ _
    clear_value x8
    have hx9 : Keeps 33591436 s x9 := by
      unfold x9
      split
      · rename_i y12 y13
        refine Keeps.ite ?_ ?_
        · assumption
        · refine Keeps.step ?_ (State.hbmWrite_keeps _ _ _ _) rfl
          assumption
      · rename_i y14
        assumption
    clear_value x9
    have hx11 : Keeps 33591436 s x11 := by
      unfold x11
      refine Keeps.ite ?_ ?_
      · refine Keeps.setcoh (m := 33591436) _ ?_ rfl
        assumption
      · assumption
    clear_value x11
    refine Keeps.step ?_ (State.cohGo_keeps _) rfl
    refine Keeps.ite ?_ ?_
    · refine Keeps.step ?_ (State.untrack_keeps _ _) rfl
      assumption
    · refine Keeps.ite ?_ ?_
      · refine Keeps.step ?_ (State.track_keeps _ _ _) rfl
        assumption
      · assumption

theorem State.writeCohWindow_keeps (s) (z1) (z2) (z3) : Keeps 33656972 s (State.writeCohWindow s z1 z2 z3) := by
  unfold State.writeCohWindow
  extract_lets x1 x2 x3 x4
  clear_value x1
  clear_value x2
  have hx4 : Keeps 33656972 s x4 := by
    unfold x4
    refine Keeps.setcoh (m := 33656972) _ ?_ rfl
    exact Keeps.refl _ _
  clear_value x4
  refine Keeps.ite ?_ ?_
  · refine Keeps.ite ?_ ?_
    · refine Keeps.step ?_ (State.valueErr_keeps _ _ _ _) rfl
      exact Keeps.refl _ _
    · refine Keeps.step ?_ (State.cohStores_keeps _) rfl
      refine Keeps.step ?_ (State.cohChange_keeps _ _) rfl
      assumption
  · refine Keeps.ite ?_ ?_
    · refine Keeps.step ?_ (State.valueErr_keeps _ _ _ _) rfl
      exact Keeps.refl _ _
    · refine Keeps.step ?_ (State.setRg_keeps _ _ _) rfl
      exact Keeps.refl _ _

theorem execCohWindowWrite_keeps (z0) (z1) (z2) (s) : KeepsO 33656972 s (execCohWindowWrite z0 z1 z2 s) := by
  unfold execCohWindowWrite
  refine KeepsO.next ?_
  refine Keeps.step ?_ (State.writeCohWindow_keeps _ _ _ _) rfl
  exact Keeps.refl _ _

theorem execHostSnoop_keeps (z0) (z1) (s) : KeepsO 4096 s (execHostSnoop z0 z1 s) := by
  unfold execHostSnoop
  refine KeepsO.ite ?_ ?_
  · refine KeepsO.next ?_
    exact Keeps.refl _ _
  · extract_lets x1 x2 x3 x4
    clear_value x1
    have hx4 : Keeps 4096 s x4 := by
      unfold x4
      refine Keeps.setcoh (m := 4096) _ ?_ rfl
      exact Keeps.refl _ _
    clear_value x4
    refine KeepsO.next ?_
    refine Keeps.step ?_ (State.cxlAnswer_keeps _ _) rfl
    assumption

theorem State.flushDcc_keeps (s) (z1) : Keeps 69764 s (State.flushDcc s z1) := by
  unfold State.flushDcc
  extract_lets x1 x2
  have hx1 : Keeps 69764 s x1 := by
    unfold x1
    refine Keeps.each ?_ ?_
    · exact Keeps.refl _ _
    · intro a3 a4 a5
      refine Keeps.ite ?_ ?_
      · extract_lets x6 x7 x8
        have hx8 : Keeps 69764 s x8 := by
          unfold x8
          refine Keeps.sethost (m := 69764) _ ?_ id rfl
          assumption
        clear_value x8
        refine Keeps.step ?_ (State.bump_keeps _ _) rfl
        assumption
      · refine Keeps.step ?_ (State.raise_keeps _ _ _) rfl
        assumption
  clear_value x1
  refine Keeps.setcoh (m := 69764) _ ?_ rfl
  assumption

theorem State.resetCoh_keeps (s) : Keeps 33591436 s (State.resetCoh s) := by
  unfold State.resetCoh
  extract_lets x1 x2 x3
  have hx1 : Keeps 33591436 s x1 := by
    unfold x1
    refine Keeps.each ?_ ?_
    · exact Keeps.refl _ _
    · intro a4 a5 a6
      refine Keeps.step ?_ (State.setRg_keeps _ _ _) rfl
      assumption
  clear_value x1
  have hx2 : Keeps 33591436 s x2 := by
    unfold x2
    refine Keeps.step ?_ (State.resetRegs_keeps _ _ _) rfl
    assumption
  clear_value x2
  refine Keeps.step ?_ (State.cohStores_keeps _) rfl
  refine Keeps.setcoh (m := 33591436) _ ?_ rfl
  assumption

end Sys2Proof.Machine
end

