-- ==== Sys2Proof/Laws/FootFabric.lean ====
section
/-! SUPPORT. The footprints of the operations of Machine/Fabric.lean. -/

namespace Sys2Proof.Machine

theorem State.noteRackPorts_keeps (s) : Keeps 4194304 s (State.noteRackPorts s) := by
  unfold State.noteRackPorts
  refine Keeps.ite ?_ ?_
  · refine Keeps.ite ?_ ?_
    · exact Keeps.refl _ _
    · refine Keeps.settime (m := 4194304) _ ?_ rfl
      exact Keeps.refl _ _
  · refine Keeps.settime (m := 4194304) _ ?_ rfl
    exact Keeps.refl _ _

theorem State.putOn_keeps (s) (z1) (z2) : Keeps 2097156 s (State.putOn s z1 z2) := by
  unfold State.putOn
  extract_lets x1 x2 x3 x4 x5 x6 x7
  clear_value x2
  clear_value x3
  have hx4 : Keeps 2097156 s x4 := by
    unfold x4
    refine Keeps.ite ?_ ?_
    · exact Keeps.refl _ _
    · refine Keeps.step ?_ (State.setPort_keeps _ _ _) rfl
      exact Keeps.refl _ _
  clear_value x4
  have hx6 : Keeps 2097156 s x6 := by
    unfold x6
    refine Keeps.setfab (m := 2097156) _ ?_ id rfl
    assumption
  clear_value x6
  refine Keeps.ite ?_ ?_
  · refine Keeps.step ?_ (State.bump_keeps _ _) rfl
    assumption
  · refine Keeps.setfab (m := 2097156) _ ?_ id rfl
    exact Keeps.refl _ _

theorem State.noteTurn_keeps (s) (z1) (z2) : Keeps 2097152 s (State.noteTurn s z1 z2) := by
  unfold State.noteTurn
  refine Keeps.ite ?_ ?_
  · refine Keeps.setfab (m := 2097152) _ ?_ id rfl
    exact Keeps.refl _ _
  · exact Keeps.refl _ _

theorem State.sendMsg_keeps (s) (z1) : KeepsP 2097156 s (State.sendMsg s z1) := by
  unfold State.sendMsg
  split
  · rename_i y1 y2
    refine KeepsP.mk ?_
    exact Keeps.refl _ _
  · rename_i y3 y4 y5 y6
    refine KeepsP.mk ?_
    refine Keeps.step ?_ (State.putOn_keeps _ _ _) rfl
    refine Keeps.step ?_ (State.noteTurn_keeps _ _ _) rfl
    exact Keeps.refl _ _

theorem State.tell_keeps (s) (z1) : Keeps 2097156 s (State.tell s z1) := by
  unfold State.tell
  refine KeepsP.fst ?_
  refine KeepsP.step ?_ (State.sendMsg_keeps _ _) rfl
  exact Keeps.refl _ _

theorem State.fabRequest_keeps (s) (z1) (z2) (z3) : KeepsP 2097156 s (State.fabRequest s z1 z2 z3) := by
  unfold State.fabRequest
  extract_lets x1 x2 x3 x4 x5
  clear_value x1
  have hx2 : KeepsP 2097156 s x2 := by
    unfold x2
    refine KeepsP.step ?_ (State.sendMsg_keeps _ _) rfl
    exact Keeps.refl _ _
  clear_value x2
  have hx4 : Keeps 2097156 s x4 := by
    unfold x4
    refine KeepsP.fst ?_
    assumption
  refine KeepsP.ite ?_ ?_
  · refine KeepsP.mk ?_
    refine Keeps.setfab (m := 2097156) _ ?_ id rfl
    assumption
  · refine KeepsP.mk ?_
    refine Keeps.step ?_ (State.bump_keeps _ _) rfl
    exact Keeps.refl _ _

theorem State.stakeRequest_keeps (s) (z1) (z2) : KeepsP 2097156 s (State.stakeRequest s z1 z2) := by
  unfold State.stakeRequest
  extract_lets x1 x2
  refine KeepsP.ite ?_ ?_
  · refine KeepsP.step ?_ (State.fabRequest_keeps _ _ _ _) rfl
    exact Keeps.refl _ _
  · refine KeepsP.mk ?_
    refine Keeps.setfab (m := 2097156) _ ?_ id rfl
    exact Keeps.refl _ _

theorem State.pieceArrives_keeps (s) (z1) (z2) (z3) (z4) : Keeps 8192 s (State.pieceArrives s z1 z2 z3 z4) := by
  unfold State.pieceArrives
  refine Keeps.step ?_ (State.modXfer_keeps _ _ _ _) rfl
  exact Keeps.refl _ _

theorem State.pieceFails_keeps (s) (z1) (z2) (z3) (z4) : Keeps 8192 s (State.pieceFails s z1 z2 z3 z4) := by
  unfold State.pieceFails
  refine Keeps.step ?_ (State.modXfer_keeps _ _ _ _) rfl
  exact Keeps.refl _ _

theorem State.writeFails_keeps (s) (z1) (z2) (z3) (z4) : Keeps 8192 s (State.writeFails s z1 z2 z3 z4) := by
  unfold State.writeFails
  refine Keeps.step ?_ (State.modXfer_keeps _ _ _ _) rfl
  exact Keeps.refl _ _

theorem State.fabFail_keeps (s) (z1) (z2) : Keeps 24576 s (State.fabFail s z1 z2) := by
  unfold State.fabFail
  split
  · rename_i y1 y2 y3 y4 y5 y6
    refine Keeps.ite ?_ ?_
    · refine Keeps.step ?_ (State.pieceFails_keeps _ _ _ _ _) rfl
      exact Keeps.refl _ _
    · refine Keeps.step ?_ (State.writeFails_keeps _ _ _ _ _) rfl
      exact Keeps.refl _ _
  · rename_i y7 y8 y9
    refine Keeps.ite ?_ ?_
    · refine Keeps.step ?_ (State.failPlot_keeps _ _ _) rfl
      exact Keeps.refl _ _
    · exact Keeps.refl _ _
  · rename_i y10 y11
    exact Keeps.refl _ _

theorem State.fabSettle_keeps (s) (z1) : Keeps 35782556 s (State.fabSettle s z1) := by
  unfold State.fabSettle
  split
  · rename_i y1 y2 y3 y4 y5 y6
    refine Keeps.step ?_ (State.stopDrained_keeps _ _) rfl
    refine Keeps.step ?_ (State.settle_keeps _ _) rfl
    refine Keeps.step ?_ (State.rowHalves_keeps _ _) rfl
    exact Keeps.refl _ _
  · rename_i y7 y8
    exact Keeps.refl _ _

theorem State.releaseOrdered_keeps (s) : Keeps 2121732 s (State.releaseOrdered s) := by
  unfold State.releaseOrdered
  extract_lets x1 x2 x3 x4
  have hx3 : Keeps 2121732 s x3 := by
    unfold x3
    refine Keeps.setfab (m := 2121732) _ ?_ id rfl
    exact Keeps.refl _ _
  clear_value x3
  have hx4 : Keeps 2121732 s x4 := by
    unfold x4
    assumption
  refine Keeps.foldl ?_ ?_
  · assumption
  · intro a5 a6 a7
    extract_lets x8 x9 x10
    have hx9 : KeepsP 2121732 s x9 := by
      unfold x9
      refine KeepsP.step ?_ (State.fabRequest_keeps _ _ _ _) rfl
      assumption
    clear_value x9
    refine Keeps.ite ?_ ?_
    · refine Keeps.ite ?_ ?_
      · refine KeepsP.fst ?_
        assumption
      · refine Keeps.step ?_ (State.fabFail_keeps _ _ _) rfl
        refine KeepsP.fst ?_
        assumption
    · refine Keeps.setfab (m := 2121732) _ ?_ id rfl
      assumption

theorem State.dropPort_keeps (s) (z1) : Keeps 35782556 s (State.dropPort s z1) := by
  unfold State.dropPort
  extract_lets x1 x2 x3 x4 x5 x6 x7
  clear_value x2
  have hx5 : Keeps 35782556 s x5 := by
    unfold x5
    refine Keeps.setfab (m := 35782556) _ ?_ id rfl
    exact Keeps.refl _ _
  clear_value x5
  have hx6 : Keeps 35782556 s x6 := by
    unfold x6
    refine Keeps.each ?_ ?_
    · assumption
    · intro a8 a9 a10
      split
      · rename_i y11 y12 y13
        extract_lets x14 x15
        have hx14 : Keeps 35782556 s x14 := by
          unfold x14
          refine KeepsP.fst ?_
          refine KeepsP.step ?_ (State.sendMsg_keeps _ _) rfl
          assumption
        refine Keeps.setfab (m := 35782556) _ ?_ id rfl
        assumption
      · rename_i y16 y17
        assumption
  clear_value x6
  have hx7 : Keeps 35782556 s x7 := by
    unfold x7
    refine Keeps.each ?_ ?_
    · assumption
    · intro a18 a19 a20
      refine Keeps.step ?_ (State.fabFail_keeps _ _ _) rfl
      refine Keeps.step ?_ (State.bump_keeps _ _) rfl
      assumption
  clear_value x7
  refine Keeps.each ?_ ?_
  · refine Keeps.step ?_ (State.releaseOrdered_keeps _) rfl
    assumption
  · intro a21 a22 a23
    refine Keeps.step ?_ (State.fabSettle_keeps _ _) rfl
    assumption

theorem State.refreshPorts_keeps (s) : Keeps 39976860 s (State.refreshPorts s) := by
  unfold State.refreshPorts
  refine Keeps.each ?_ ?_
  · exact Keeps.refl _ _
  · intro a1 a2 a3
    extract_lets x4 x5
    have hx5 : Keeps 39976860 s x5 := by
      unfold x5
      refine Keeps.step ?_ (State.setPort_keeps _ _ _) rfl
      assumption
    clear_value x5
    refine Keeps.ite ?_ ?_
    · refine Keeps.ite ?_ ?_
      · assumption
      · refine Keeps.ite ?_ ?_
        · refine Keeps.step ?_ (State.dropPort_keeps _ _) rfl
          refine Keeps.step ?_ (State.noteRackPorts_keeps _) rfl
          assumption
        · assumption
    · refine Keeps.ite ?_ ?_
      · refine Keeps.step ?_ (State.setPort_keeps _ _ _) rfl
        assumption
      · assumption

theorem State.takeReq_keeps (s) (z1) (z2) : KeepsR 2097152 s (State.takeReq s z1 z2) := by
  unfold State.takeReq
  split
  · rename_i y1 y2
    exact KeepsR.none
  · rename_i y3 y4 y5
    refine KeepsR.some ?_
    refine KeepsN.mk ?_
    refine Keeps.setfab (m := 2097152) _ ?_ id rfl
    exact Keeps.refl _ _

theorem State.ackDone_keeps (s) (z1) (z2) : Keeps 35782556 s (State.ackDone s z1 z2) := by
  unfold State.ackDone
  split
  · rename_i y1 y2
    exact Keeps.refl _ _
  · rename_i y3 y4 y5 y6
    have h7 : Keeps 35782556 s y5 := by
      refine KeepsR.ofEq ?_ y6
      refine KeepsR.step ?_ (State.takeReq_keeps _ _ _) rfl
      exact Keeps.refl _ _
    extract_lets x8
    have hx8 : Keeps 35782556 s x8 := by
      unfold x8
      refine Keeps.ite ?_ ?_
      · assumption
      · refine Keeps.step ?_ (State.fabFail_keeps _ _ _) rfl
        assumption
    clear_value x8
    refine Keeps.step ?_ (State.fabSettle_keeps _ _) rfl
    refine Keeps.step ?_ (State.releaseOrdered_keeps _) rfl
    assumption

theorem State.stakeAckDone_keeps (s) (z1) : Keeps 35782556 s (State.stakeAckDone s z1) := by
  unfold State.stakeAckDone
  split
  · rename_i y1 y2 y3
    have h4 : KeepsN 35782556 s y2 := by
      refine KeepsR.ofEq1 ?_ y3
      refine KeepsR.step ?_ (State.takeReq_keeps _ _ _) rfl
      exact Keeps.refl _ _
    refine Keeps.step ?_ (State.ackDone_keeps _ _ _) rfl
    exact Keeps.refl _ _
  · rename_i y5 y6
    refine Keeps.step ?_ (State.ackDone_keeps _ _ _) rfl
    exact Keeps.refl _ _

theorem State.readRspDone_keeps (s) (z1) : Keeps 35782556 s (State.readRspDone s z1) := by
  unfold State.readRspDone
  refine Keeps.ite ?_ ?_
  · extract_lets x1 x2
    have hx2 : Keeps 35782556 s x2 := by
      unfold x2
      refine Keeps.setfab (m := 35782556) _ ?_ id rfl
      exact Keeps.refl _ _
    clear_value x2
    refine Keeps.step ?_ (State.bump_keeps _ _) rfl
    assumption
  · split
    · rename_i y3 y4
      exact Keeps.refl _ _
    · rename_i y5 y6 y7 y8
      have h9 : Keeps 35782556 s y7 := by
        refine KeepsR.ofEq ?_ y8
        refine KeepsR.step ?_ (State.takeReq_keeps _ _ _) rfl
        exact Keeps.refl _ _
      extract_lets x10
      have hx10 : Keeps 35782556 s x10 := by
        unfold x10
        refine Keeps.ite ?_ ?_
        · refine Keeps.step ?_ (State.fabFail_keeps _ _ _) rfl
          assumption
        · split
          · rename_i y11 y12 y13 y14 y15 y16
            refine Keeps.ite ?_ ?_
            · refine Keeps.step ?_ (State.modXfer_keeps _ _ _ _) rfl
              refine Keeps.step ?_ (State.pieceArrives_keeps _ _ _ _ _) rfl
              assumption
            · assumption
          · rename_i y17 y18
            assumption
      clear_value x10
      refine Keeps.step ?_ (State.fabSettle_keeps _ _) rfl
      assumption

theorem State.giveBack_keeps (s) (z1) (z2) (z3) : Keeps 2097152 s (State.giveBack s z1 z2 z3) := by
  unfold State.giveBack
  refine Keeps.ite ?_ ?_
  · refine Keeps.setfab (m := 2097152) _ ?_ id rfl
    exact Keeps.refl _ _
  · refine Keeps.step ?_ (State.setPort_keeps _ _ _) rfl
    exact Keeps.refl _ _

theorem State.payOwed_keeps (s) : Keeps 2097152 s (State.payOwed s) := by
  unfold State.payOwed
  refine Keeps.ite ?_ ?_
  · exact Keeps.refl _ _
  · extract_lets x1 x2 x3
    have hx3 : Keeps 2097152 s x3 := by
      unfold x3
      refine Keeps.setfab (m := 2097152) _ ?_ id rfl
      exact Keeps.refl _ _
    clear_value x3
    refine Keeps.each ?_ ?_
    · assumption
    · intro a4 a5 a6
      refine Keeps.step ?_ (State.giveBack_keeps _ _ _ _) rfl
      assumption

theorem State.receive_keeps (s) (z1) (z2) : KeepsP 2097156 s (State.receive s z1 z2) := by
  unfold State.receive
  refine KeepsP.ite ?_ ?_
  · refine KeepsP.mk ?_
    exact Keeps.refl _ _
  · extract_lets x1 x2
    have hx1 : Keeps 2097156 s x1 := by
      unfold x1
      refine Keeps.step ?_ (State.bump_keeps _ _) rfl
      exact Keeps.refl _ _
    clear_value x1
    have hx2 : KeepsP 2097156 s x2 := by
      unfold x2
      refine KeepsP.step ?_ (State.sendMsg_keeps _ _) rfl
      assumption
    clear_value x2
    refine KeepsP.ite ?_ ?_
    · refine KeepsP.mk ?_
      refine Keeps.step ?_ (State.bump_keeps _ _) rfl
      assumption
    · refine KeepsP.ite ?_ ?_
      · refine KeepsP.mk ?_
        assumption
      · refine KeepsP.ite ?_ ?_
        · refine KeepsP.mk ?_
          refine Keeps.step ?_ (State.bump_keeps _ _) rfl
          assumption
        · refine KeepsP.ite ?_ ?_
          · refine KeepsP.mk ?_
            refine Keeps.step ?_ (State.bump_keeps _ _) rfl
            refine KeepsP.fst ?_
            assumption
          · refine KeepsP.mk ?_
            refine Keeps.step ?_ (State.bump_keeps _ _) rfl
            assumption

theorem State.stileTarget_keeps (s) (z1) (z2) (z3) : KeepsP 33685396 s (State.stileTarget s z1 z2 z3) := by
  unfold State.stileTarget
  extract_lets x1 x2 x3 x4 x5 x6 x7 x8
  clear_value x1
  clear_value x2
  clear_value x3
  clear_value x5
  have hx7 : KeepsP 33685396 s x7 := by
    unfold x7
    refine KeepsP.step ?_ (State.lookup_keeps _ _ _ _ _) rfl
    exact Keeps.refl _ _
  clear_value x7
  have hx8 : Keeps 33685396 s x8 := by
    unfold x8
    refine Keeps.each ?_ ?_
    · refine KeepsP.fst ?_
      assumption
    · intro a9 a10 a11
      refine Keeps.step ?_ (State.acreDone_keeps _ _) rfl
      assumption
  clear_value x8
  refine KeepsP.ite ?_ ?_
  · split
    · rename_i y12 y13 y14 y15 y16
      have h17 : Keeps 33685396 s y13 := by
        refine KeepsP.ofEq ?_ y16
        refine KeepsP.step ?_ (State.lookupTilth_keeps _ _ _ _) rfl
        exact Keeps.refl _ _
      refine KeepsP.ite ?_ ?_
      · refine KeepsP.mk ?_
        assumption
      · refine KeepsP.ite ?_ ?_
        · refine KeepsP.mk ?_
          refine Keeps.step ?_ (State.modPlot_keeps _ _ _ (by first | exact fun _ h => h | exact fun _ _ => ⟨rfl, rfl⟩ | (intro x h; dsimp only; split <;> exact h) | (intro x h; split <;> exact h) | (intro x h; beta_reduce; split <;> exact h))) rfl
          assumption
        · refine KeepsP.mk ?_
          refine Keeps.step ?_ (State.askPlot_keeps _ _) rfl
          assumption
    · rename_i y18 y19 y20 y21 y22
      have h23 : Keeps 33685396 s y19 := by
        refine KeepsP.ofEq ?_ y22
        refine KeepsP.step ?_ (State.lookupTilth_keeps _ _ _ _) rfl
        exact Keeps.refl _ _
      refine KeepsP.mk ?_
      assumption
  · split
    · rename_i y24 y25 y26 y27
      extract_lets x28
      have hx28 : KeepsP 33685396 s x28 := by
        unfold x28
        refine KeepsP.step ?_ (State.cohAccess_keeps _ _ _ _) rfl
        refine KeepsP.fst ?_
        assumption
      clear_value x28
      refine KeepsP.ite ?_ ?_
      · refine KeepsP.mk ?_
        refine KeepsP.fst ?_
        assumption
      · refine KeepsP.mk ?_
        refine KeepsP.fst ?_
        assumption
    · rename_i y29 y30 y31 y32 y33
      refine KeepsP.mk ?_
      refine KeepsP.fst ?_
      assumption
    · rename_i y34 y35
      refine KeepsP.mk ?_
      refine KeepsP.fst ?_
      assumption
    · rename_i y36 y37
      split
      · rename_i y38 y39 y40
        split
        · rename_i y41 y42 y43
          extract_lets x44
          have hx44 : KeepsP 33685396 s x44 := by
            unfold x44
            refine KeepsP.step ?_ (State.cohAccess_keeps _ _ _ _) rfl
            assumption
          clear_value x44
          refine KeepsP.ite ?_ ?_
          · refine KeepsP.mk ?_
            refine KeepsP.fst ?_
            assumption
          · refine KeepsP.mk ?_
            refine KeepsP.fst ?_
            assumption
        · rename_i y45 y46
          refine KeepsP.mk ?_
          assumption
      · rename_i y47 y48
        refine KeepsP.mk ?_
        assumption

theorem State.putMarked_keeps (s) (z1) (z2) : Keeps 33603712 s (State.putMarked s z1 z2) := by
  unfold State.putMarked
  extract_lets x1
  clear_value x1
  split
  · rename_i y2 y3
    refine Keeps.each ?_ ?_
    · exact Keeps.refl _ _
    · intro a4 a5 a6
      refine Keeps.step ?_ (State.hbmWrite_keeps _ _ _ _) rfl
      assumption
  · rename_i y7 y8 y9
    refine Keeps.each ?_ ?_
    · exact Keeps.refl _ _
    · intro a10 a11 a12
      refine Keeps.step ?_ (State.setTilth_keeps _ _ _ (by first | exact fun i => ⟨memWriteEn_wf _ _ _ (State.plot_wf i _).1, markWrite_wf _ _ _ _ (State.plot_wf i _).2⟩ | exact fun i => ⟨memZero_wf _ _ _ (State.plot_wf i _).1, memZero_wf _ _ _ (State.plot_wf i _).2⟩ | exact fun i => ⟨(State.plot_wf i _).1, by dsimp only; exact kvSet_wf _ _ _ (State.plot_wf i _).2⟩)) rfl
      assumption
  · rename_i y13 y14
    exact Keeps.refl _ _

theorem State.getMarked_keeps (s) (z1) (z2) : KeepsP 33587328 s (State.getMarked s z1 z2) := by
  unfold State.getMarked
  split
  · rename_i y1 y2
    extract_lets x3
    have hx3 : KeepsP 33587328 s x3 := by
      unfold x3
      refine KeepsP.step ?_ (State.hbmRead_keeps _ _ _) rfl
      exact Keeps.refl _ _
    clear_value x3
    refine KeepsP.mk ?_
    refine KeepsP.fst ?_
    assumption
  · rename_i y4 y5 y6
    extract_lets x7
    refine KeepsP.mk ?_
    exact Keeps.refl _ _
  · rename_i y8 y9
    refine KeepsP.mk ?_
    exact Keeps.refl _ _

theorem State.answerMsg_keeps (s) (z1) (z2) (z3) : Keeps 2097156 s (State.answerMsg s z1 z2 z3) := by
  unfold State.answerMsg
  refine Keeps.step ?_ (State.tell_keeps _ _) rfl
  exact Keeps.refl _ _

theorem State.refuseMsg_keeps (s) (z1) (z2) : Keeps 2097156 s (State.refuseMsg s z1 z2) := by
  unfold State.refuseMsg
  extract_lets x1 x2 x3
  have hx1 : Keeps 2097156 s x1 := by
    unfold x1
    refine Keeps.step ?_ (State.bump_keeps _ _) rfl
    exact Keeps.refl _ _
  clear_value x1
  have hx2 : Keeps 2097156 s x2 := by
    unfold x2
    refine Keeps.step ?_ (State.bump_keeps _ _) rfl
    assumption
  clear_value x2
  have hx3 : Keeps 2097156 s x3 := by
    unfold x3
    refine Keeps.ite ?_ ?_
    · refine Keeps.ite ?_ ?_
      · refine Keeps.step ?_ (State.bump_keeps _ _) rfl
        assumption
      · assumption
    · assumption
  clear_value x3
  refine Keeps.step ?_ (State.answerMsg_keeps _ _ _ _) rfl
  assumption

theorem State.stileServe_keeps (s) (z1) (z2) : Keeps 35782556 s (State.stileServe s z1 z2) := by
  unfold State.stileServe
  split
  · rename_i y1 y2 y3
    refine Keeps.step ?_ (State.refuseMsg_keeps _ _ _) rfl
    exact Keeps.refl _ _
  · rename_i y4 y5
    split
    · rename_i y6 y7
      extract_lets x8 x9 x10
      have hx8 : KeepsP 35782556 s x8 := by
        unfold x8
        refine KeepsP.step ?_ (State.stileTarget_keeps _ _ _ _) rfl
        exact Keeps.refl _ _
      clear_value x8
      have hx9 : Keeps 35782556 s x9 := by
        unfold x9
        refine KeepsP.fst ?_
        assumption
      split
      · rename_i y11 y12 y13 y14
        refine Keeps.step ?_ (State.answerMsg_keeps _ _ _ _) rfl
        refine Keeps.step ?_ (State.putMarked_keeps _ _ _) rfl
        refine KeepsP.fst ?_
        assumption
      · rename_i y15 y16
        refine Keeps.step ?_ (State.refuseMsg_keeps _ _ _) rfl
        refine KeepsP.fst ?_
        assumption
      · rename_i y17 y18
        refine Keeps.setfab (m := 35782556) _ ?_ id rfl
        assumption
    · rename_i y19 y20
      extract_lets x21 x22 x23
      have hx21 : KeepsP 35782556 s x21 := by
        unfold x21
        refine KeepsP.step ?_ (State.stileTarget_keeps _ _ _ _) rfl
        exact Keeps.refl _ _
      clear_value x21
      have hx22 : Keeps 35782556 s x22 := by
        unfold x22
        refine KeepsP.fst ?_
        assumption
      split
      · rename_i y24 y25 y26 y27
        extract_lets x28 x29
        have hx28 : KeepsP 35782556 s x28 := by
          unfold x28
          refine KeepsP.step ?_ (State.getMarked_keeps _ _ _) rfl
          refine KeepsP.fst ?_
          assumption
        clear_value x28
        refine Keeps.step ?_ (State.tell_keeps _ _) rfl
        refine KeepsP.fst ?_
        assumption
      · rename_i y30 y31
        refine Keeps.step ?_ (State.refuseMsg_keeps _ _ _) rfl
        refine KeepsP.fst ?_
        assumption
      · rename_i y32 y33
        refine Keeps.setfab (m := 35782556) _ ?_ id rfl
        assumption
    · rename_i y34 y35
      refine Keeps.step ?_ (State.settleStakes_keeps _) rfl
      refine Keeps.step ?_ (State.answerMsg_keeps _ _ _ _) rfl
      refine Keeps.step ?_ (State.stakeAddOp_keeps _ _ _ _) rfl
      refine Keeps.step ?_ (State.bump_keeps _ _) rfl
      exact Keeps.refl _ _
    · rename_i y36 y37
      refine Keeps.step ?_ (State.settleStakes_keeps _) rfl
      refine Keeps.step ?_ (State.answerMsg_keeps _ _ _ _) rfl
      refine Keeps.step ?_ (State.stakeSetOp_keeps _ _ _) rfl
      refine Keeps.step ?_ (State.bump_keeps _ _) rfl
      exact Keeps.refl _ _
    · rename_i y38 y39
      refine Keeps.step ?_ (State.tell_keeps _ _) rfl
      refine Keeps.step ?_ (State.bump_keeps _ _) rfl
      exact Keeps.refl _ _
    · rename_i y40 y41 y42 y43 y44 y45
      exact Keeps.refl _ _

theorem State.drainStiles_keeps (s) : Keeps 2097152 s (State.drainStiles s) := by
  unfold State.drainStiles
  refine Keeps.setfab (m := 2097152) _ ?_ id rfl
  exact Keeps.refl _ _

theorem State.stileRetry_keeps (s) : Keeps 35782548 s (State.stileRetry s) := by
  unfold State.stileRetry
  extract_lets x1 x2 x3
  have hx3 : Keeps 35782548 s x3 := by
    unfold x3
    refine Keeps.setfab (m := 35782548) _ ?_ id rfl
    exact Keeps.refl _ _
  clear_value x3
  refine Keeps.step ?_ (State.payOwed_keeps _) rfl
  refine Keeps.each ?_ ?_
  · assumption
  · intro a4 a5 a6
    extract_lets x7 x8 x9 x10
    have hx7 : KeepsP 35782548 s x7 := by
      unfold x7
      refine KeepsP.step ?_ (State.stileTarget_keeps _ _ _ _) rfl
      assumption
    clear_value x7
    have hx8 : ∀ a11, Keeps 35782548 s a11 → Keeps 35782548 s (x8 a11) := by
      unfold x8
      intro a12 a13
      refine Keeps.step ?_ (State.giveBack_keeps _ _ _ _) rfl
      assumption
    clear_value x8
    have hx9 : Keeps 35782548 s x9 := by
      unfold x9
      refine KeepsP.fst ?_
      assumption
    split
    · rename_i y14 y15
      refine Keeps.setfab (m := 35782548) _ ?_ id rfl
      assumption
    · rename_i y16 y17
      refine hx8 _ ?_
      refine Keeps.step ?_ (State.refuseMsg_keeps _ _ _) rfl
      refine KeepsP.fst ?_
      assumption
    · rename_i y18 y19 y20 y21
      refine Keeps.ite ?_ ?_
      · refine hx8 _ ?_
        refine Keeps.step ?_ (State.answerMsg_keeps _ _ _ _) rfl
        refine Keeps.step ?_ (State.putMarked_keeps _ _ _) rfl
        refine KeepsP.fst ?_
        assumption
      · extract_lets x22 x23
        have hx22 : KeepsP 35782548 s x22 := by
          unfold x22
          refine KeepsP.step ?_ (State.getMarked_keeps _ _ _) rfl
          refine KeepsP.fst ?_
          assumption
        clear_value x22
        refine hx8 _ ?_
        refine Keeps.step ?_ (State.tell_keeps _ _) rfl
        refine KeepsP.fst ?_
        assumption

theorem State.writeStile_keeps (s) (z1) (z2) (z3) (z4) : Keeps 2162700 s (State.writeStile s z1 z2 z3 z4) := by
  unfold State.writeStile
  extract_lets x1 x2 x3 x4 x5 x6 x7 x8 x9 x10
  clear_value x1
  clear_value x2
  clear_value x3
  clear_value x4
  clear_value x5
  have hx6 : Keeps 2162700 s x6 := by
    unfold x6
    refine Keeps.ite ?_ ?_
    · refine Keeps.step ?_ (State.valueErr_keeps _ _ _ _) rfl
      exact Keeps.refl _ _
    · exact Keeps.refl _ _
  clear_value x6
  have hx7 : Keeps 2162700 s x7 := by
    unfold x7
    refine Keeps.step ?_ (State.setRg_keeps _ _ _) rfl
    assumption
  clear_value x7
  clear_value x9
  clear_value x10
  split
  · rename_i y11
    refine Keeps.ite ?_ ?_
    · refine Keeps.step ?_ (State.valueErr_keeps _ _ _ _) rfl
      exact Keeps.refl _ _
    · refine Keeps.ite ?_ ?_
      · refine Keeps.ite ?_ ?_
        · refine Keeps.setfab (m := 2162700) _ ?_ id rfl
          assumption
        · assumption
      · refine Keeps.ite ?_ ?_
        · assumption
        · refine Keeps.step ?_ (State.setRg_keeps _ _ _) rfl
          assumption
  · rename_i y12
    refine Keeps.ite ?_ ?_
    · refine Keeps.step ?_ (State.valueErr_keeps _ _ _ _) rfl
      exact Keeps.refl _ _
    · refine Keeps.step ?_ (State.setRg_keeps _ _ _) rfl
      exact Keeps.refl _ _
  · rename_i y13
    refine Keeps.ite ?_ ?_
    · refine Keeps.step ?_ (State.valueErr_keeps _ _ _ _) rfl
      exact Keeps.refl _ _
    · refine Keeps.step ?_ (State.setRg_keeps _ _ _) rfl
      exact Keeps.refl _ _
  · rename_i y14 y15 y16 y17
    refine Keeps.ite ?_ ?_
    · refine Keeps.step ?_ (State.valueErr_keeps _ _ _ _) rfl
      exact Keeps.refl _ _
    · refine Keeps.step ?_ (State.setRg_keeps _ _ _) rfl
      exact Keeps.refl _ _

theorem execStileCtrlWrite_keeps (z0) (z1) (z2) (z3) (s) : KeepsO 2162700 s (execStileCtrlWrite z0 z1 z2 z3 s) := by
  unfold execStileCtrlWrite
  refine KeepsO.next ?_
  refine Keeps.step ?_ (State.writeStile_keeps _ _ _ _ _) rfl
  exact Keeps.refl _ _

theorem execStileDrainDone_keeps (z0) (s) : KeepsO 35782548 s (execStileDrainDone z0 s) := by
  unfold execStileDrainDone
  extract_lets x1 x2
  have hx1 : Keeps 35782548 s x1 := by
    unfold x1
    refine Keeps.step ?_ (State.stileRetry_keeps _) rfl
    exact Keeps.refl _ _
  clear_value x1
  refine KeepsO.next ?_
  refine Keeps.setfab (m := 35782548) _ ?_ id rfl
  assumption

theorem State.onMsg_keeps {m : Nat} {s0 : State} (z0 : Sys2Proof.Machine.State) (z1 : ℕ) (z2 : Sys2Proof.Msg) (z3 : Sys2Proof.MsgKind) (z4 : Sys2Proof.Machine.State → Sys2Proof.Msg → Sys2Proof.Machine.State) (hz0 : Keeps m s0 z0) (hz4 : ∀ b0 b1, Keeps m s0 b0 → Keeps m s0 (z4 b0 b1)) (e : 2097156 &&& m = 2097156) : Keeps m s0 (State.onMsg z0 z1 z2 z3 z4) := by
  unfold State.onMsg
  refine Keeps.ite ?_ ?_
  · assumption
  · extract_lets x1 x2 x3
    clear_value x1
    have hx2 : KeepsP m s0 x2 := by
      unfold x2
      refine KeepsP.step ?_ (State.receive_keeps _ _ _) (sub_mask rfl e)
      assumption
    clear_value x2
    have hx3 : Keeps m s0 x3 := by
      unfold x3
      refine Keeps.ite ?_ ?_
      · refine hz4 _ _ ?_
        refine KeepsP.fst ?_
        assumption
      · refine KeepsP.fst ?_
        assumption
    clear_value x3
    refine Keeps.ite ?_ ?_
    · assumption
    · refine Keeps.step ?_ (State.giveBack_keeps _ _ _ _) (sub_mask rfl e)
      assumption

theorem execStileWrite_keeps (z0) (z1) (s) : KeepsO 35782556 s (execStileWrite z0 z1 s) := by
  unfold execStileWrite
  refine KeepsO.next ?_
  refine State.onMsg_keeps _ _ _ _ _ ?_ ?_ rfl
  · exact Keeps.refl _ _
  · intro a1 a2 a3
    refine Keeps.step ?_ (State.stileServe_keeps _ _ _) rfl
    assumption

theorem execReadReq_keeps (z0) (z1) (s) : KeepsO 35782556 s (execReadReq z0 z1 s) := by
  unfold execReadReq
  refine KeepsO.next ?_
  refine State.onMsg_keeps _ _ _ _ _ ?_ ?_ rfl
  · exact Keeps.refl _ _
  · intro a1 a2 a3
    refine Keeps.step ?_ (State.stileServe_keeps _ _ _) rfl
    assumption

theorem execRemoteStakeAdd_keeps (z0) (z1) (s) : KeepsO 35782556 s (execRemoteStakeAdd z0 z1 s) := by
  unfold execRemoteStakeAdd
  refine KeepsO.next ?_
  refine State.onMsg_keeps _ _ _ _ _ ?_ ?_ rfl
  · exact Keeps.refl _ _
  · intro a1 a2 a3
    refine Keeps.step ?_ (State.stileServe_keeps _ _ _) rfl
    assumption

theorem execRemoteStakeSet_keeps (z0) (z1) (s) : KeepsO 35782556 s (execRemoteStakeSet z0 z1 s) := by
  unfold execRemoteStakeSet
  refine KeepsO.next ?_
  refine State.onMsg_keeps _ _ _ _ _ ?_ ?_ rfl
  · exact Keeps.refl _ _
  · intro a1 a2 a3
    refine Keeps.step ?_ (State.stileServe_keeps _ _ _) rfl
    assumption

theorem execStakeRead_keeps (z0) (z1) (s) : KeepsO 35782556 s (execStakeRead z0 z1 s) := by
  unfold execStakeRead
  refine KeepsO.next ?_
  refine State.onMsg_keeps _ _ _ _ _ ?_ ?_ rfl
  · exact Keeps.refl _ _
  · intro a1 a2 a3
    refine Keeps.step ?_ (State.stileServe_keeps _ _ _) rfl
    assumption

theorem execWriteAck_keeps (z0) (z1) (s) : KeepsO 35782556 s (execWriteAck z0 z1 s) := by
  unfold execWriteAck
  refine KeepsO.next ?_
  refine State.onMsg_keeps _ _ _ _ _ ?_ ?_ rfl
  · exact Keeps.refl _ _
  · intro a1 a2 a3
    refine Keeps.step ?_ (State.ackDone_keeps _ _ _) rfl
    assumption

theorem execReadRsp_keeps (z0) (z1) (s) : KeepsO 35782556 s (execReadRsp z0 z1 s) := by
  unfold execReadRsp
  refine KeepsO.next ?_
  refine State.onMsg_keeps _ _ _ _ _ ?_ ?_ rfl
  · exact Keeps.refl _ _
  · intro a1 a2 a3
    refine Keeps.step ?_ (State.readRspDone_keeps _ _) rfl
    assumption

theorem execStakeAck_keeps (z0) (z1) (s) : KeepsO 35782556 s (execStakeAck z0 z1 s) := by
  unfold execStakeAck
  refine KeepsO.next ?_
  refine State.onMsg_keeps _ _ _ _ _ ?_ ?_ rfl
  · exact Keeps.refl _ _
  · intro a1 a2 a3
    refine Keeps.step ?_ (State.stakeAckDone_keeps _ _) rfl
    assumption

theorem execStakeRsp_keeps (z0) (z1) (s) : KeepsO 35782556 s (execStakeRsp z0 z1 s) := by
  unfold execStakeRsp
  refine KeepsO.next ?_
  refine State.onMsg_keeps _ _ _ _ _ ?_ ?_ rfl
  · exact Keeps.refl _ _
  · intro a1 a2 a3
    refine Keeps.step ?_ (State.ackDone_keeps _ _ _) rfl
    assumption

theorem execMessageRelay_keeps (z0) (z1) (s) : KeepsO 2097156 s (execMessageRelay z0 z1 s) := by
  unfold execMessageRelay
  refine KeepsO.next ?_
  refine State.onMsg_keeps _ _ _ _ _ ?_ ?_ rfl
  · exact Keeps.refl _ _
  · intro a1 a2 a3
    assumption

theorem execProtocolDiscard_keeps (z0) (z1) (s) : KeepsO 65540 s (execProtocolDiscard z0 z1 s) := by
  unfold execProtocolDiscard
  refine KeepsO.next ?_
  refine Keeps.ite ?_ ?_
  · refine Keeps.step ?_ (State.raise_keeps _ _ _) rfl
    refine Keeps.step ?_ (State.bump_keeps _ _) rfl
    refine Keeps.step ?_ (State.bump_keeps _ _) rfl
    exact Keeps.refl _ _
  · exact Keeps.refl _ _

theorem execFabricCreditReturn_keeps (z0) (z1) (z2) (s) : KeepsO 2097156 s (execFabricCreditReturn z0 z1 z2 s) := by
  unfold execFabricCreditReturn
  extract_lets x1 x2 x3 x4 x5
  have hx2 : Keeps 2097156 s x2 := by
    unfold x2
    refine Keeps.step ?_ (State.setPort_keeps _ _ _) rfl
    exact Keeps.refl _ _
  clear_value x2
  have hx5 : Keeps 2097156 s x5 := by
    unfold x5
    refine Keeps.setfab (m := 2097156) _ ?_ id rfl
    assumption
  clear_value x5
  refine KeepsO.ite ?_ ?_
  · refine KeepsO.next ?_
    exact Keeps.refl _ _
  · refine KeepsO.next ?_
    refine Keeps.each ?_ ?_
    · assumption
    · intro a6 a7 a8
      refine Keeps.step ?_ (State.putOn_keeps _ _ _) rfl
      assumption

theorem execPortTrained_keeps (z0) (z1) (z2) (z3) (s) : KeepsO 2097158 s (execPortTrained z0 z1 z2 z3 s) := by
  unfold execPortTrained
  extract_lets x1 x2 x3 x4 x5 x6
  clear_value x2
  have hx3 : Keeps 2097158 s x3 := by
    unfold x3
    refine Keeps.step ?_ (State.setPort_keeps _ _ _) rfl
    exact Keeps.refl _ _
  clear_value x3
  have hx4 : Keeps 2097158 s x4 := by
    unfold x4
    refine Keeps.step ?_ (State.learn_keeps _ _ _) rfl
    assumption
  clear_value x4
  clear_value x5
  clear_value x6
  refine KeepsO.ite ?_ ?_
  · refine KeepsO.next ?_
    exact Keeps.refl _ _
  · refine KeepsO.next ?_
    refine Keeps.step ?_ (State.putOn_keeps _ _ _) rfl
    assumption

theorem execPortRetry_keeps (z0) (s) : KeepsO 2097153 s (execPortRetry z0 s) := by
  unfold execPortRetry
  extract_lets x1 x2
  have hx2 : Keeps 2097153 s x2 := by
    unfold x2
    refine Keeps.step ?_ (State.until__keeps _ _) rfl
    exact Keeps.refl _ _
  clear_value x2
  refine KeepsO.ite ?_ ?_
  · refine KeepsO.next ?_
    refine Keeps.step ?_ (State.setPort_keeps _ _ _) rfl
    assumption
  · refine KeepsO.next ?_
    assumption

theorem execPortMarginCheck_keeps (z0) (z1) (s) : KeepsO 2162692 s (execPortMarginCheck z0 z1 s) := by
  unfold execPortMarginCheck
  extract_lets x1
  have hx1 : Keeps 2162692 s x1 := by
    unfold x1
    refine Keeps.each ?_ ?_
    · exact Keeps.refl _ _
    · intro a2 a3 a4
      refine Keeps.ite ?_ ?_
      · refine Keeps.step ?_ (State.bumpBy_keeps _ _ _) rfl
        refine Keeps.step ?_ (State.bumpBy_keeps _ _ _) rfl
        assumption
      · assumption
  clear_value x1
  refine KeepsO.next ?_
  refine Keeps.each ?_ ?_
  · assumption
  · intro a5 a6 a7
    extract_lets x8 x9 x10
    have hx10 : Keeps 2162692 s x10 := by
      unfold x10
      refine Keeps.step ?_ (State.setPort_keeps _ _ _) rfl
      assumption
    clear_value x10
    refine Keeps.ite ?_ ?_
    · refine Keeps.step ?_ (State.raiseIf_keeps _ _ _ _) rfl
      assumption
    · assumption

theorem State.retrainPort_keeps (s) (z1) : Keeps 2097156 s (State.retrainPort s z1) := by
  unfold State.retrainPort
  refine Keeps.ite ?_ ?_
  · refine Keeps.step ?_ (State.bump_keeps _ _) rfl
    refine Keeps.step ?_ (State.setPort_keeps _ _ _) rfl
    exact Keeps.refl _ _
  · exact Keeps.refl _ _

theorem execPortRetrain_keeps (z0) (s) : KeepsO 2097156 s (execPortRetrain z0 s) := by
  unfold execPortRetrain
  refine KeepsO.next ?_
  refine Keeps.each ?_ ?_
  · exact Keeps.refl _ _
  · intro a1 a2 a3
    refine Keeps.step ?_ (State.retrainPort_keeps _ _) rfl
    assumption

theorem execRemoteReadTimeout_keeps (z0) (s) : KeepsO 35782557 s (execRemoteReadTimeout z0 s) := by
  unfold execRemoteReadTimeout
  split
  · rename_i y1 y2
    refine KeepsO.next ?_
    exact Keeps.refl _ _
  · rename_i y3 y4 y5
    extract_lets x6 x7 x8
    have hx6 : Keeps 35782557 s x6 := by
      unfold x6
      refine Keeps.step ?_ (State.until__keeps _ _) rfl
      exact Keeps.refl _ _
    clear_value x6
    have hx8 : Keeps 35782557 s x8 := by
      unfold x8
      refine Keeps.setfab (m := 35782557) _ ?_ id rfl
      assumption
    clear_value x8
    refine KeepsO.next ?_
    refine Keeps.step ?_ (State.fabSettle_keeps _ _) rfl
    refine Keeps.step ?_ (State.fabFail_keeps _ _ _) rfl
    assumption

end Sys2Proof.Machine
end

