-- ==== Sys2Proof/Laws/FootSeed.lean ====
section
/-! SUPPORT. The footprints of the operations of Machine/Seed.lean. -/

namespace Sys2Proof.Machine

theorem State.journal_keeps (s) : Keeps 268435460 s (State.journal s) := by
  unfold State.journal
  refine Keeps.step ?_ (State.bumpBy_keeps _ _ _) rfl
  refine Keeps.step ?_ (State.setSeed_keeps _ _) rfl
  exact Keeps.refl _ _

theorem State.takeBand_keeps (s) (z1) (z2) (z3) : Keeps 268435456 s (State.takeBand s z1 z2 z3) := by
  unfold State.takeBand
  refine Keeps.step ?_ (State.setSeed_keeps _ _) rfl
  exact Keeps.refl _ _

theorem State.freeBands_keeps (s) (z1) (z2) : Keeps 268435456 s (State.freeBands s z1 z2) := by
  unfold State.freeBands
  refine Keeps.each ?_ ?_
  · exact Keeps.refl _ _
  · intro a1 a2 a3
    refine Keeps.step ?_ (State.setSeed_keeps _ _) rfl
    assumption

theorem growLoop_keeps (z0) (s) (z2) (z3) : Keeps 268435456 s (growLoop z0 s z2 z3) := by
  induction z0 generalizing s z2 z3 with
  | zero =>
    unfold growLoop
    exact Keeps.refl _ _
  | succ n ih =>
    unfold growLoop
    extract_lets x1
    clear_value x1
    refine Keeps.ite ?_ ?_
    · exact Keeps.refl _ _
    · split
      · rename_i y2 y3 y4
        refine Keeps.step ?_ (ih _ _ _) rfl
        refine Keeps.step ?_ (State.takeBand_keeps _ _ _ _) rfl
        exact Keeps.refl _ _
      · rename_i y5 y6
        exact Keeps.refl _ _

theorem State.programSectors_keeps (s) (z1) (z2) : Keeps 268435460 s (State.programSectors s z1 z2) := by
  unfold State.programSectors
  extract_lets x1
  split
  · rename_i y2 y3
    exact Keeps.refl _ _
  · rename_i y4 y5 y6
    extract_lets x7 x8
    have hx8 : Keeps 268435460 s x8 := by
      unfold x8
      refine Keeps.step ?_ (State.bumpBy_keeps _ _ _) rfl
      refine Keeps.step ?_ (State.setLot_keeps _ _ _) rfl
      exact Keeps.refl _ _
    clear_value x8
    refine Keeps.step ?_ (growLoop_keeps _ _ _ _) rfl
    refine Keeps.step ?_ (State.bumpBy_keeps _ _ _) rfl
    assumption

theorem State.dropDraft_keeps (s) (z1) : Keeps 268435456 s (State.dropDraft s z1) := by
  unfold State.dropDraft
  refine Keeps.step ?_ (State.freeBands_keeps _ _ _) rfl
  refine Keeps.step ?_ (State.setLot_keeps _ _ _) rfl
  exact Keeps.refl _ _

theorem State.commit_keeps (s) (z1) : Keeps 268435460 s (State.commit s z1) := by
  unfold State.commit
  extract_lets x1
  split
  · rename_i y2 y3
    exact Keeps.refl _ _
  · rename_i y4 y5 y6
    extract_lets x7 x8 x9 x10 x11 x12
    have hx10 : Keeps 268435460 s x10 := by
      unfold x10
      refine Keeps.step ?_ (State.setSeed_keeps _ _) rfl
      exact Keeps.refl _ _
    clear_value x10
    have hx11 : Keeps 268435460 s x11 := by
      unfold x11
      refine Keeps.each ?_ ?_
      · assumption
      · intro a13 a14 a15
        refine Keeps.step ?_ (State.freeBands_keeps _ _ _) rfl
        assumption
    clear_value x11
    refine Keeps.step ?_ (State.journal_keeps _) rfl
    refine Keeps.step ?_ (State.setLot_keeps _ _ _) rfl
    assumption

theorem State.noteLotRead_keeps (s) (z1) (z2) : Keeps 268435456 s (State.noteLotRead s z1 z2) := by
  unfold State.noteLotRead
  split
  · rename_i y1 y2
    exact Keeps.refl _ _
  · rename_i y3 y4 y5 y6
    extract_lets x7 x8
    clear_value x8
    refine Keeps.ite ?_ ?_
    · exact Keeps.refl _ _
    · split
      · rename_i y9 y10 y11
        refine Keeps.step ?_ (State.setSeed_keeps _ _) rfl
        exact Keeps.refl _ _
      · rename_i y12 y13
        exact Keeps.refl _ _

theorem State.draftWrite_keeps (s) (z1) (z2) (z3) : KeepsP 268435460 s (State.draftWrite s z1 z2 z3) := by
  unfold State.draftWrite
  extract_lets x1 x2 x3
  clear_value x3
  split
  · rename_i y4 y5
    refine KeepsP.mk ?_
    exact Keeps.refl _ _
  · rename_i y6 y7 y8
    refine KeepsP.ite ?_ ?_
    · refine KeepsP.mk ?_
      refine Keeps.step ?_ (State.setLot_keeps _ _ _) rfl
      exact Keeps.refl _ _
    · refine KeepsP.mk ?_
      refine Keeps.step ?_ (State.programSectors_keeps _ _ _) rfl
      refine Keeps.step ?_ (State.setLot_keeps _ _ _) rfl
      exact Keeps.refl _ _

theorem State.lotStatus_keeps (s) (z1) (z2) : Keeps 4 s (State.lotStatus s z1 z2) := by
  unfold State.lotStatus
  refine Keeps.step ?_ (State.setVal_keeps _ _ _) rfl
  exact Keeps.refl _ _

theorem State.lotRun_keeps (s) (z1) (z2) : Keeps 268435460 s (State.lotRun s z1 z2) := by
  unfold State.lotRun
  extract_lets x1 x2 x3 x4 x5 x6 x7 x8 x9 x10
  have hx2 : Keeps 268435460 s x2 := by
    unfold x2
    refine Keeps.step ?_ (State.setLot_keeps _ _ _) rfl
    exact Keeps.refl _ _
  clear_value x2
  have hx3 : Keeps 268435460 s x3 := by
    unfold x3
    refine Keeps.each ?_ ?_
    · exact Keeps.refl _ _
    · intro a11 a12 a13
      refine Keeps.step ?_ (State.freeBands_keeps _ _ _) rfl
      assumption
  clear_value x3
  have hx4 : Keeps 268435460 s x4 := by
    unfold x4
    refine Keeps.step ?_ (State.setLot_keeps _ _ _) rfl
    assumption
  clear_value x4
  have hx6 : Keeps 268435460 s x6 := by
    unfold x6
    refine Keeps.step ?_ (State.commit_keeps _ _) rfl
    exact Keeps.refl _ _
  clear_value x6
  have hx9 : Keeps 268435460 s x9 := by
    unfold x9
    refine Keeps.step ?_ (State.dropDraft_keeps _ _) rfl
    exact Keeps.refl _ _
  clear_value x9
  split
  · rename_i y14
    refine Keeps.ite ?_ ?_
    · refine Keeps.step ?_ (State.lotStatus_keeps _ _ _) rfl
      exact Keeps.refl _ _
    · refine Keeps.step ?_ (State.lotStatus_keeps _ _ _) rfl
      refine Keeps.step ?_ (State.journal_keeps _) rfl
      refine Keeps.step ?_ (State.setSeed_keeps _ _) rfl
      assumption
  · rename_i y15
    refine Keeps.step ?_ (State.lotStatus_keeps _ _ _) rfl
    refine Keeps.step ?_ (State.journal_keeps _) rfl
    refine Keeps.step ?_ (State.setSeed_keeps _ _) rfl
    assumption
  · rename_i y16
    refine Keeps.ite ?_ ?_
    · refine Keeps.step ?_ (State.lotStatus_keeps _ _ _) rfl
      exact Keeps.refl _ _
    · refine Keeps.step ?_ (State.lotStatus_keeps _ _ _) rfl
      refine Keeps.step ?_ (State.setLot_keeps _ _ _) rfl
      exact Keeps.refl _ _
  · rename_i y17
    refine Keeps.ite ?_ ?_
    · refine Keeps.step ?_ (State.lotStatus_keeps _ _ _) rfl
      exact Keeps.refl _ _
    · refine Keeps.ite ?_ ?_
      · refine Keeps.step ?_ (State.lotStatus_keeps _ _ _) rfl
        exact Keeps.refl _ _
      · refine Keeps.ite ?_ ?_
        · refine Keeps.step ?_ (State.lotStatus_keeps _ _ _) rfl
          exact Keeps.refl _ _
        · refine Keeps.step ?_ (State.lotStatus_keeps _ _ _) rfl
          refine Keeps.step ?_ (State.setLot_keeps _ _ _) rfl
          assumption
  · rename_i y18
    refine Keeps.step ?_ (State.lotStatus_keeps _ _ _) rfl
    refine Keeps.step ?_ (State.setLot_keeps _ _ _) rfl
    assumption
  · rename_i y19 y20 y21 y22 y23 y24
    refine Keeps.step ?_ (State.lotStatus_keeps _ _ _) rfl
    refine Keeps.step ?_ (State.journal_keeps _) rfl
    refine Keeps.step ?_ (State.setLot_keeps _ _ _) rfl
    exact Keeps.refl _ _

theorem State.lotOp_keeps (s) (z1) (z2) : KeepsP 301989892 s (State.lotOp s z1 z2) := by
  unfold State.lotOp
  extract_lets x1
  clear_value x1
  refine KeepsP.ite ?_ ?_
  · refine KeepsP.mk ?_
    exact Keeps.refl _ _
  · refine KeepsP.ite ?_ ?_
    · refine KeepsP.mk ?_
      refine Keeps.step ?_ (State.lotStatus_keeps _ _ _) rfl
      exact Keeps.refl _ _
    · refine KeepsP.ite ?_ ?_
      · refine KeepsP.mk ?_
        refine Keeps.step ?_ (State.lotStatus_keeps _ _ _) rfl
        refine Keeps.step ?_ (State.setSeed_keeps _ _) rfl
        exact Keeps.refl _ _
      · refine KeepsP.mk ?_
        refine Keeps.step ?_ (State.lotRun_keeps _ _ _) rfl
        refine Keeps.step ?_ (State.hlWork_keeps _) rfl
        exact Keeps.refl _ _

theorem State.lotResume_keeps (s) : Keeps 268435460 s (State.lotResume s) := by
  unfold State.lotResume
  split
  · rename_i y1 y2 y3 y4
    refine Keeps.ite ?_ ?_
    · exact Keeps.refl _ _
    · refine Keeps.step ?_ (State.lotRun_keeps _ _ _) rfl
      refine Keeps.step ?_ (State.setSeed_keeps _ _) rfl
      exact Keeps.refl _ _
  · rename_i y5 y6
    exact Keeps.refl _ _

theorem State.lotDrop_keeps (s) (z1) : Keeps 268435460 s (State.lotDrop s z1) := by
  unfold State.lotDrop
  split
  · rename_i y1 y2 y3 y4
    refine Keeps.step ?_ (State.lotStatus_keeps _ _ _) rfl
    refine Keeps.step ?_ (State.setSeed_keeps _ _) rfl
    exact Keeps.refl _ _
  · rename_i y5 y6
    exact Keeps.refl _ _

theorem State.lotCommand_keeps (s) (z1) (z2) : Keeps 301989892 s (State.lotCommand s z1 z2) := by
  unfold State.lotCommand
  refine Keeps.ite ?_ ?_
  · refine KeepsP.fst ?_
    refine KeepsP.step ?_ (State.lotOp_keeps _ _ _) rfl
    exact Keeps.refl _ _
  · exact Keeps.refl _ _

theorem execLotCreate_keeps (z0) (s) : KeepsO 301989892 s (execLotCreate z0 s) := by
  unfold execLotCreate
  refine KeepsO.next ?_
  refine Keeps.step ?_ (State.lotCommand_keeps _ _ _) rfl
  exact Keeps.refl _ _

theorem execLotDelete_keeps (z0) (s) : KeepsO 301989892 s (execLotDelete z0 s) := by
  unfold execLotDelete
  refine KeepsO.next ?_
  refine Keeps.step ?_ (State.lotCommand_keeps _ _ _) rfl
  exact Keeps.refl _ _

theorem execDraftOpen_keeps (z0) (s) : KeepsO 301989892 s (execDraftOpen z0 s) := by
  unfold execDraftOpen
  refine KeepsO.next ?_
  refine Keeps.step ?_ (State.lotCommand_keeps _ _ _) rfl
  exact Keeps.refl _ _

theorem execDraftCommit_keeps (z0) (s) : KeepsO 301989892 s (execDraftCommit z0 s) := by
  unfold execDraftCommit
  refine KeepsO.next ?_
  refine Keeps.step ?_ (State.lotCommand_keeps _ _ _) rfl
  exact Keeps.refl _ _

theorem execDraftAbort_keeps (z0) (s) : KeepsO 301989892 s (execDraftAbort z0 s) := by
  unfold execDraftAbort
  refine KeepsO.next ?_
  refine Keeps.step ?_ (State.lotCommand_keeps _ _ _) rfl
  exact Keeps.refl _ _

theorem execRebind_keeps (z0) (s) : KeepsO 301989892 s (execRebind z0 s) := by
  unfold execRebind
  refine KeepsO.next ?_
  refine Keeps.step ?_ (State.lotCommand_keeps _ _ _) rfl
  exact Keeps.refl _ _

theorem State.checkpoint_keeps (s) : Keeps 268435456 s (State.checkpoint s) := by
  unfold State.checkpoint
  refine Keeps.step ?_ (State.setSeed_keeps _ _) rfl
  exact Keeps.refl _ _

theorem execCheckpointRewrite_keeps (s) : KeepsO 268435457 s (execCheckpointRewrite s) := by
  unfold execCheckpointRewrite
  refine KeepsO.ite ?_ ?_
  · refine KeepsO.next ?_
    exact Keeps.refl _ _
  · refine KeepsO.ite ?_ ?_
    · refine KeepsO.next ?_
      refine Keeps.step ?_ (State.checkpoint_keeps _) rfl
      exact Keeps.refl _ _
    · refine KeepsO.next ?_
      refine Keeps.step ?_ (State.checkpoint_keeps _) rfl
      refine Keeps.step ?_ (State.until__keeps _ _) rfl
      exact Keeps.refl _ _

theorem execKeyDestroyDone_keeps (z0) (s) : KeepsO 268435456 s (execKeyDestroyDone z0 s) := by
  unfold execKeyDestroyDone
  refine KeepsO.ite ?_ ?_
  · extract_lets x1
    have hx1 : Keeps 268435456 s x1 := by
      unfold x1
      refine Keeps.step ?_ (State.checkpoint_keeps _) rfl
      refine Keeps.step ?_ (State.setSeed_keeps _ _) rfl
      exact Keeps.refl _ _
    clear_value x1
    refine KeepsO.next ?_
    refine Keeps.ite ?_ ?_
    · refine Keeps.step ?_ (State.setLot_keeps _ _ _) rfl
      assumption
    · assumption
  · refine KeepsO.next ?_
    exact Keeps.refl _ _

theorem State.seedStart_keeps (s) : Keeps 268435456 s (State.seedStart s) := by
  unfold State.seedStart
  refine Keeps.ite ?_ ?_
  · refine Keeps.step ?_ (State.setSeed_keeps _ _) rfl
    exact Keeps.refl _ _
  · refine Keeps.step ?_ (State.setSeed_keeps _ _) rfl
    exact Keeps.refl _ _

theorem State.formatOp_keeps (s) : Keeps 268435456 s (State.formatOp s) := by
  unfold State.formatOp
  refine Keeps.step ?_ (State.setSeed_keeps _ _) rfl
  exact Keeps.refl _ _

theorem State.dropDrafts_keeps (s) (z1) : Keeps 268500992 s (State.dropDrafts s z1) := by
  unfold State.dropDrafts
  refine Keeps.each ?_ ?_
  · exact Keeps.refl _ _
  · intro a1 a2 a3
    extract_lets x4 x5
    have hx4 : Keeps 268500992 s x4 := by
      unfold x4
      refine Keeps.step ?_ (State.dropDraft_keeps _ _) rfl
      assumption
    clear_value x4
    refine Keeps.step ?_ (State.raiseIf_keeps _ _ _ _) rfl
    refine Keeps.step ?_ (State.setLot_keeps _ _ _) rfl
    assumption

theorem State.capacityCheck_keeps (s) : Keeps 268500992 s (State.capacityCheck s) := by
  unfold State.capacityCheck
  refine Keeps.ite ?_ ?_
  · refine Keeps.step ?_ (State.raise_keeps _ _ _) rfl
    refine Keeps.step ?_ (State.setSeed_keeps _ _) rfl
    exact Keeps.refl _ _
  · exact Keeps.refl _ _

theorem State.relocate_keeps (s) (z1) (z2) (z3) : Keeps 268435460 s (State.relocate s z1 z2 z3) := by
  unfold State.relocate
  split
  · rename_i y1 y2
    exact Keeps.refl _ _
  · rename_i y3 y4 y5
    extract_lets x6
    have hx6 : Keeps 268435460 s x6 := by
      unfold x6
      refine Keeps.step ?_ (State.setSeed_keeps _ _) rfl
      exact Keeps.refl _ _
    clear_value x6
    refine Keeps.step ?_ (State.bumpBy_keeps _ _ _) rfl
    refine Keeps.step ?_ (State.journal_keeps _) rfl
    assumption

theorem execBandRefresh_keeps (z0) (s) : KeepsO 268435460 s (execBandRefresh z0 s) := by
  unfold execBandRefresh
  split
  · rename_i y1 y2
    refine KeepsO.next ?_
    exact Keeps.refl _ _
  · rename_i y3 y4 y5
    refine KeepsO.ite ?_ ?_
    · refine KeepsO.next ?_
      refine Keeps.step ?_ (State.bump_keeps _ _) rfl
      refine Keeps.step ?_ (State.relocate_keeps _ _ _ _) rfl
      exact Keeps.refl _ _
    · refine KeepsO.next ?_
      exact Keeps.refl _ _

theorem execWearMove_keeps (s) : KeepsO 268435460 s (execWearMove s) := by
  unfold execWearMove
  refine KeepsO.ite ?_ ?_
  · refine KeepsO.next ?_
    exact Keeps.refl _ _
  · split
    · rename_i y1 y2 y3
      refine KeepsO.next ?_
      refine Keeps.step ?_ (State.bump_keeps _ _) rfl
      refine Keeps.step ?_ (State.relocate_keeps _ _ _ _) rfl
      exact Keeps.refl _ _
    · rename_i y4 y5
      refine KeepsO.next ?_
      exact Keeps.refl _ _

theorem State.setBad_keeps (s) (z1) : Keeps 268566528 s (State.setBad s z1) := by
  unfold State.setBad
  extract_lets x1
  refine Keeps.step ?_ (State.setBank_keeps _ _) rfl
  refine Keeps.step ?_ (State.setSeed_keeps _ _) rfl
  exact Keeps.refl _ _

theorem State.retire_keeps (s) (z1) : Keeps 268632068 s (State.retire s z1) := by
  unfold State.retire
  refine Keeps.ite ?_ ?_
  · exact Keeps.refl _ _
  · extract_lets x1 x2 x3 x4
    clear_value x1
    have hx2 : Keeps 268632068 s x2 := by
      unfold x2
      refine Keeps.step ?_ (State.setVal_keeps _ _ _) rfl
      refine Keeps.step ?_ (State.setBad_keeps _ _) rfl
      exact Keeps.refl _ _
    clear_value x2
    have hx3 : Keeps 268632068 s x3 := by
      unfold x3
      refine Keeps.ite ?_ ?_
      · assumption
      · refine Keeps.step ?_ (State.journal_keeps _) rfl
        assumption
    clear_value x3
    have hx4 : Keeps 268632068 s x4 := by
      unfold x4
      refine Keeps.ite ?_ ?_
      · refine Keeps.step ?_ (State.setVal_keeps _ _ _) rfl
        refine Keeps.step ?_ (State.setSeed_keeps _ _) rfl
        assumption
      · refine Keeps.step ?_ (State.setSeed_keeps _ _) rfl
        assumption
    clear_value x4
    refine Keeps.step ?_ (State.capacityCheck_keeps _) rfl
    refine Keeps.step ?_ (State.raiseIf_keeps _ _ _ _) rfl
    assumption

theorem State.failDie_keeps (s) (z1) : Keeps 268632068 s (State.failDie s z1) := by
  unfold State.failDie
  refine Keeps.ite ?_ ?_
  · exact Keeps.refl _ _
  · extract_lets x1
    have hx1 : Keeps 268632068 s x1 := by
      unfold x1
      refine Keeps.each ?_ ?_
      · exact Keeps.refl _ _
      · intro a2 a3 a4
        refine Keeps.step ?_ (State.retire_keeps _ _) rfl
        assumption
    clear_value x1
    refine Keeps.step ?_ (State.raise_keeps _ _ _) rfl
    refine Keeps.step ?_ (State.setVal_keeps _ _ _) rfl
    assumption

theorem State.retireBlock_keeps (s) (z1) : Keeps 268632068 s (State.retireBlock s z1) := by
  unfold State.retireBlock
  extract_lets x1 x2
  have hx1 : Keeps 268632068 s x1 := by
    unfold x1
    refine Keeps.step ?_ (State.retire_keeps _ _) rfl
    exact Keeps.refl _ _
  clear_value x1
  clear_value x2
  refine Keeps.ite ?_ ?_
  · refine Keeps.step ?_ (State.failDie_keeps _ _) rfl
    assumption
  · assumption

theorem State.rebuiltBlock_keeps (s) (z1) : Keeps 268632068 s (State.rebuiltBlock s z1) := by
  unfold State.rebuiltBlock
  extract_lets x1 x2 x3
  clear_value x2
  have hx3 : Keeps 268632068 s x3 := by
    unfold x3
    refine Keeps.step ?_ (State.setSeed_keeps _ _) rfl
    exact Keeps.refl _ _
  clear_value x3
  refine Keeps.ite ?_ ?_
  · refine Keeps.step ?_ (State.retireBlock_keeps _ _) rfl
    assumption
  · assumption

theorem execScrub_keeps (z0) (z1) (s) : KeepsO 302186500 s (execScrub z0 z1 s) := by
  unfold execScrub
  split
  · rename_i y1 y2
    refine KeepsO.next ?_
    exact Keeps.refl _ _
  · rename_i y3 y4 y5
    refine KeepsO.ite ?_ ?_
    · refine KeepsO.next ?_
      exact Keeps.refl _ _
    · extract_lets x6 x7 x8 x9 x10 x11
      have hx7 : Keeps 302186500 s x7 := by
        unfold x7
        refine Keeps.step ?_ (State.setSeed_keeps _ _) rfl
        refine Keeps.step ?_ (State.hlWork_keeps _) rfl
        exact Keeps.refl _ _
      clear_value x7
      have hx8 : Keeps 302186500 s x8 := by
        unfold x8
        refine Keeps.step ?_ (State.bumpBy_keeps _ _ _) rfl
        refine Keeps.step ?_ (State.bumpBy_keeps _ _ _) rfl
        refine Keeps.step ?_ (State.bumpBy_keeps _ _ _) rfl
        assumption
      clear_value x8
      have hx10 : Keeps 302186500 s x10 := by
        unfold x10
        refine Keeps.ite ?_ ?_
        · assumption
        · refine Keeps.step ?_ (State.raise_keeps _ _ _) rfl
          refine Keeps.step ?_ (State.setLot_keeps _ _ _) rfl
          assumption
      clear_value x10
      have hx11 : Keeps 302186500 s x11 := by
        unfold x11
        split
        · rename_i y12 y13 y14 y15
          refine Keeps.ite ?_ ?_
          · refine Keeps.step ?_ (State.setCal_keeps _ _ _ _) rfl
            assumption
          · assumption
        · rename_i y16 y17
          assumption
      clear_value x11
      refine KeepsO.next ?_
      refine Keeps.each ?_ ?_
      · assumption
      · intro a18 a19 a20
        refine Keeps.step ?_ (State.rebuiltBlock_keeps _ _) rfl
        assumption

theorem execProgramFailRetire_keeps (z0) (z1) (s) : KeepsO 268632068 s (execProgramFailRetire z0 z1 s) := by
  unfold execProgramFailRetire
  refine KeepsO.next ?_
  refine Keeps.ite ?_ ?_
  · refine Keeps.step ?_ (State.retireBlock_keeps _ _) rfl
    refine Keeps.step ?_ (State.raiseIf_keeps _ _ _ _) rfl
    exact Keeps.refl _ _
  · exact Keeps.refl _ _

theorem execSeedDieFailed_keeps (z0) (s) : KeepsO 268632068 s (execSeedDieFailed z0 s) := by
  unfold execSeedDieFailed
  refine KeepsO.next ?_
  refine Keeps.ite ?_ ?_
  · exact Keeps.refl _ _
  · refine Keeps.step ?_ (State.failDie_keeps _ _) rfl
    exact Keeps.refl _ _

theorem execFtlFormatDone_keeps (s) : KeepsO 302055428 s (execFtlFormatDone s) := by
  unfold execFtlFormatDone
  refine KeepsO.ite ?_ ?_
  · extract_lets x1
    have hx1 : Keeps 302055428 s x1 := by
      unfold x1
      refine Keeps.step ?_ (State.setSeed_keeps _ _) rfl
      refine Keeps.step ?_ (State.hlWork_keeps _) rfl
      exact Keeps.refl _ _
    clear_value x1
    refine KeepsO.next ?_
    refine Keeps.step ?_ (State.bump_keeps _ _) rfl
    refine Keeps.step ?_ (State.capacityCheck_keeps _) rfl
    refine Keeps.step ?_ (State.checkpoint_keeps _) rfl
    assumption
  · refine KeepsO.next ?_
    exact Keeps.refl _ _

theorem State.nandErase_keeps (s) (z1) : Keeps 268435456 s (State.nandErase s z1) := by
  unfold State.nandErase
  refine Keeps.step ?_ (State.setSeed_keeps _ _) rfl
  exact Keeps.refl _ _

theorem State.forgetBlock_keeps (s) (z1) : Keeps 268435456 s (State.forgetBlock s z1) := by
  unfold State.forgetBlock
  refine Keeps.step ?_ (State.setSeed_keeps _ _) rfl
  exact Keeps.refl _ _

theorem hostPieces_keeps (z0) (s) (z2) (z3) (z4) (z5) (z6) (z7) : Keeps 65940 s (hostPieces z0 s z2 z3 z4 z5 z6 z7) := by
  induction z0 generalizing s z2 z3 z4 z5 z6 z7 with
  | zero =>
    unfold hostPieces
    exact Keeps.refl _ _
  | succ n ih =>
    unfold hostPieces
    refine Keeps.ite ?_ ?_
    · exact Keeps.refl _ _
    · extract_lets x1 x2 x3
      clear_value x1
      have hx3 : Keeps 65940 s x3 := by
        unfold x3
        refine Keeps.step ?_ (State.post_keeps _ _) rfl
        exact Keeps.refl _ _
      clear_value x3
      refine Keeps.step ?_ (ih _ _ _ _ _ _ _) rfl
      assumption

theorem State.putBytes_keeps (s) (z1) (z2) (z3) (z4) (z5) (z6) : Keeps 33669524 s (State.putBytes s z1 z2 z3 z4 z5 z6) := by
  unfold State.putBytes
  split
  · rename_i y1 y2
    refine Keeps.step ?_ (hostPieces_keeps _ _ _ _ _ _ _ _) rfl
    exact Keeps.refl _ _
  · rename_i y3 y4
    refine Keeps.step ?_ (State.putMarked_keeps _ _ _) rfl
    exact Keeps.refl _ _

theorem resolveLoop_keeps (z0) (s) (z2) (z3) (z4) (z5) (z6) (z7) (z8) : KeepsP 94100 s (resolveLoop z0 s z2 z3 z4 z5 z6 z7 z8) := by
  induction z0 generalizing s z2 z3 z4 z5 z6 z7 z8 with
  | zero =>
    unfold resolveLoop
    refine KeepsP.mk ?_
    exact Keeps.refl _ _
  | succ n ih =>
    unfold resolveLoop
    refine KeepsP.ite ?_ ?_
    · refine KeepsP.mk ?_
      exact Keeps.refl _ _
    · extract_lets x1
      have hx1 : KeepsP 94100 s x1 := by
        unfold x1
        refine KeepsP.step ?_ (State.resolveAt_keeps _ _ _ _ _ _) rfl
        exact Keeps.refl _ _
      clear_value x1
      split
      · rename_i y2 y3
        refine KeepsP.mk ?_
        refine KeepsP.fst ?_
        assumption
      · rename_i y4 y5
        refine KeepsP.mk ?_
        refine KeepsP.fst ?_
        assumption
      · rename_i y6 y7 y8 y9
        extract_lets x10
        clear_value x10
        refine KeepsP.step ?_ (ih _ _ _ _ _ _ _ _) rfl
        refine KeepsP.fst ?_
        assumption

theorem putExtents_keeps (z0) (s) (z2) (z3) (z4) (z5) (z6) : Keeps 33669524 s (putExtents z0 s z2 z3 z4 z5 z6) := by
  induction z0 generalizing s z2 z3 z4 z5 z6 with
  | nil =>
    unfold putExtents
    exact Keeps.refl _ _
  | cons x l ih =>
    unfold putExtents
    refine Keeps.step ?_ (ih _ _ _ _ _ _) rfl
    refine Keeps.step ?_ (State.putBytes_keeps _ _ _ _ _ _ _) rfl
    exact Keeps.refl _ _

theorem readExt_keeps (z0) (s) (z2) (z3) : KeepsP 33587328 s (readExt z0 s z2 z3) := by
  induction z0 generalizing s z2 z3 with
  | nil =>
    unfold readExt
    refine KeepsP.mk ?_
    exact Keeps.refl _ _
  | cons x l ih =>
    unfold readExt
    split
    · rename_i y1 y2 y3
      refine KeepsP.step ?_ (ih _ _ _) rfl
      exact Keeps.refl _ _
    · rename_i y4 y5
      extract_lets x6
      have hx6 : KeepsP 33587328 s x6 := by
        unfold x6
        refine KeepsP.step ?_ (State.getMarked_keeps _ _ _) rfl
        exact Keeps.refl _ _
      clear_value x6
      refine KeepsP.step ?_ (ih _ _ _) rfl
      refine KeepsP.fst ?_
      assumption

theorem State.hostAnswers_keeps (s) (z1) (z2) (z3) : KeepsP 65693 s (State.hostAnswers s z1 z2 z3) := by
  unfold State.hostAnswers
  refine KeepsP.ite ?_ ?_
  · refine KeepsP.mk ?_
    exact Keeps.refl _ _
  · split
    · rename_i y1 y2 y3
      refine KeepsP.mk ?_
      refine Keeps.step ?_ (State.hostReadFails_keeps _ _ _) rfl
      exact Keeps.refl _ _
    · rename_i y4 y5
      refine KeepsP.mk ?_
      refine Keeps.ite ?_ ?_
      · refine Keeps.step ?_ (State.poisonedCpl_keeps _ _ _ _) rfl
        exact Keeps.refl _ _
      · exact Keeps.refl _ _

theorem State.reachOne_keeps (s) (z1) (z2) (z3) : KeepsP 20484 s (State.reachOne s z1 z2 z3) := by
  unfold State.reachOne
  split
  · rename_i y1 y2
    refine KeepsP.mk ?_
    exact Keeps.refl _ _
  · rename_i y3 y4
    extract_lets x5
    have hx5 : KeepsP 20484 s x5 := by
      unfold x5
      refine KeepsP.step ?_ (State.cohAccess_keeps _ _ _ _) rfl
      exact Keeps.refl _ _
    clear_value x5
    refine KeepsP.mk ?_
    refine KeepsP.fst ?_
    assumption
  · rename_i y6 y7 y8
    extract_lets x9
    have hx9 : KeepsP 20484 s x9 := by
      unfold x9
      refine KeepsP.step ?_ (State.reachTilth_keeps _ _) rfl
      exact Keeps.refl _ _
    clear_value x9
    refine KeepsP.mk ?_
    refine KeepsP.fst ?_
    assumption

theorem reachBuf_keeps (z0) (s) (z2) : KeepsP 20484 s (reachBuf z0 s z2) := by
  induction z0 generalizing s z2 with
  | nil =>
    unfold reachBuf
    refine KeepsP.mk ?_
    exact Keeps.refl _ _
  | cons x l ih =>
    unfold reachBuf
    extract_lets x1
    have hx1 : KeepsP 20484 s x1 := by
      unfold x1
      refine KeepsP.step ?_ (State.reachOne_keeps _ _ _ _) rfl
      exact Keeps.refl _ _
    clear_value x1
    split
    · rename_i y2 y3 y4
      refine KeepsP.mk ?_
      refine KeepsP.fst ?_
      assumption
    · rename_i y5 y6
      refine KeepsP.step ?_ (ih _ _) rfl
      refine KeepsP.fst ?_
      assumption

theorem State.seedResult_keeps (s) (z1) (z2) (z3) (z4) (z5) : Keeps 256 s (State.seedResult s z1 z2 z3 z4 z5) := by
  unfold State.seedResult
  refine Keeps.step ?_ (State.modSlot_keeps _ _ _ _) rfl
  exact Keeps.refl _ _

theorem State.seedBuf_keeps (s) (z1) (z2) (z3) (z4) (z5) : KeepsP 98196 s (State.seedBuf s z1 z2 z3 z4 z5) := by
  unfold State.seedBuf
  extract_lets x1
  have hx1 : KeepsP 98196 s x1 := by
    unfold x1
    refine KeepsP.step ?_ (resolveLoop_keeps _ _ _ _ _ _ _ _ _) rfl
    exact Keeps.refl _ _
  clear_value x1
  split
  · rename_i y2 y3 y4
    refine KeepsP.ite ?_ ?_
    · refine KeepsP.mk ?_
      refine KeepsP.fst ?_
      assumption
    · refine KeepsP.mk ?_
      refine Keeps.step ?_ (State.bump_keeps _ _) rfl
      refine Keeps.step ?_ (State.modSlot_keeps _ _ _ _) rfl
      refine KeepsP.fst ?_
      assumption
  · rename_i y5 y6 y7
    refine KeepsP.mk ?_
    refine Keeps.step ?_ (State.seedResult_keeps _ _ _ _ _ _) rfl
    refine KeepsP.fst ?_
    assumption
  · rename_i y8 y9 y10
    extract_lets x11
    have hx11 : KeepsP 98196 s x11 := by
      unfold x11
      refine KeepsP.step ?_ (reachBuf_keeps _ _ _) rfl
      refine KeepsP.fst ?_
      assumption
    clear_value x11
    split
    · rename_i y12 y13
      refine KeepsP.mk ?_
      refine KeepsP.fst ?_
      assumption
    · rename_i y14 y15
      refine KeepsP.mk ?_
      refine KeepsP.fst ?_
      assumption
    · rename_i y16 y17 y18 y19
      refine KeepsP.mk ?_
      refine Keeps.step ?_ (State.seedResult_keeps _ _ _ _ _ _) rfl
      refine KeepsP.fst ?_
      assumption

theorem State.seedBegin_keeps (s) (z1) (z2) (z3) : KeepsP 33554688 s (State.seedBegin s z1 z2 z3) := by
  unfold State.seedBegin
  split
  · rename_i y1 y2
    refine KeepsP.mk ?_
    exact Keeps.refl _ _
  · rename_i y3 y4 y5
    refine KeepsP.ite ?_ ?_
    · refine KeepsP.mk ?_
      exact Keeps.refl _ _
    · extract_lets x6
      clear_value x6
      refine KeepsP.ite ?_ ?_
      · refine KeepsP.mk ?_
        refine Keeps.step ?_ (State.seedResult_keeps _ _ _ _ _ _) rfl
        refine Keeps.step ?_ (State.hlWork_keeps _) rfl
        exact Keeps.refl _ _
      · refine KeepsP.ite ?_ ?_
        · refine KeepsP.mk ?_
          exact Keeps.refl _ _
        · refine KeepsP.mk ?_
          refine Keeps.step ?_ (State.hlWork_keeps _) rfl
          exact Keeps.refl _ _

theorem execSeedRead_keeps (z0) (z1) (z2) (s) : KeepsO 33685398 s (execSeedRead z0 z1 z2 s) := by
  unfold execSeedRead
  extract_lets x1
  have hx1 : KeepsP 33685398 s x1 := by
    unfold x1
    refine KeepsP.step ?_ (State.seedBegin_keeps _ _ _ _) rfl
    exact Keeps.refl _ _
  clear_value x1
  split
  · rename_i y2 y3
    refine KeepsO.next ?_
    refine KeepsP.fst ?_
    assumption
  · rename_i y4 y5 y6
    extract_lets x7 x8 x9 x10 x11 x12 x13
    clear_value x7
    clear_value x8
    have hx9 : KeepsP 33685398 s x9 := by
      unfold x9
      refine KeepsP.step ?_ (State.seedBuf_keeps _ _ _ _ _ _) rfl
      refine KeepsP.fst ?_
      assumption
    clear_value x9
    have hx11 : Keeps 33685398 s x11 := by
      unfold x11
      refine KeepsP.fst ?_
      assumption
    clear_value x12
    clear_value x13
    split
    · rename_i y14 y15
      refine KeepsO.next ?_
      refine KeepsP.fst ?_
      assumption
    · rename_i y16 y17 y18
      extract_lets x19 x20 x21
      have hx19 : Keeps 33685398 s x19 := by
        unfold x19
        refine Keeps.step ?_ (putExtents_keeps _ _ _ _ _ _ _) rfl
        refine Keeps.setfree (m := 33685398) _ ?_ rfl
        assumption
      clear_value x19
      have hx20 : Keeps 33685398 s x20 := by
        unfold x20
        refine Keeps.ite ?_ ?_
        · refine Keeps.step ?_ (State.raise_keeps _ _ _) rfl
          refine Keeps.step ?_ (State.bumpBy_keeps _ _ _) rfl
          assumption
        · assumption
      clear_value x20
      have hx21 : Keeps 33685398 s x21 := by
        unfold x21
        refine Keeps.ite ?_ ?_
        · refine Keeps.step ?_ (State.bumpBy_keeps _ _ _) rfl
          assumption
        · assumption
      clear_value x21
      refine KeepsO.next ?_
      refine Keeps.step ?_ (State.seedResult_keeps _ _ _ _ _ _) rfl
      assumption

theorem execSeedProgram_keeps (z0) (z1) (z2) (s) : KeepsO 302120861 s (execSeedProgram z0 z1 z2 s) := by
  unfold execSeedProgram
  extract_lets x1
  have hx1 : KeepsP 302120861 s x1 := by
    unfold x1
    refine KeepsP.step ?_ (State.seedBegin_keeps _ _ _ _) rfl
    exact Keeps.refl _ _
  clear_value x1
  split
  · rename_i y2 y3
    refine KeepsO.next ?_
    refine KeepsP.fst ?_
    assumption
  · rename_i y4 y5 y6
    extract_lets x7 x8 x9 x10
    clear_value x7
    clear_value x8
    have hx9 : KeepsP 302120861 s x9 := by
      unfold x9
      refine KeepsP.step ?_ (State.seedBuf_keeps _ _ _ _ _ _) rfl
      refine KeepsP.fst ?_
      assumption
    clear_value x9
    clear_value x10
    split
    · rename_i y11 y12
      refine KeepsO.next ?_
      refine KeepsP.fst ?_
      assumption
    · rename_i y13 y14 y15
      extract_lets x16 x17 x18 x19 x20 x21 x22
      have hx16 : KeepsP 302120861 s x16 := by
        unfold x16
        refine KeepsP.step ?_ (State.hostAnswers_keeps _ _ _ _) rfl
        refine KeepsP.fst ?_
        assumption
      clear_value x16
      have hx17 : KeepsP 302120861 s x17 := by
        unfold x17
        refine KeepsP.step ?_ (readExt_keeps _ _ _ _) rfl
        refine KeepsP.fst ?_
        assumption
      clear_value x17
      have hx21 : Keeps 302120861 s x21 := by
        unfold x21
        refine Keeps.step ?_ (State.setSeed_keeps _ _) rfl
        refine KeepsP.fst ?_
        assumption
      clear_value x21
      have hx22 : Keeps 302120861 s x22 := by
        unfold x22
        refine Keeps.step ?_ (State.bumpBy_keeps _ _ _) rfl
        assumption
      clear_value x22
      split
      · rename_i y23 y24 y25
        refine KeepsO.next ?_
        refine Keeps.step ?_ (State.seedResult_keeps _ _ _ _ _ _) rfl
        refine KeepsP.fst ?_
        assumption
      · rename_i y26 y27
        refine KeepsO.ite ?_ ?_
        · refine KeepsO.next ?_
          refine Keeps.step ?_ (State.seedResult_keeps _ _ _ _ _ _) rfl
          refine KeepsP.fst ?_
          assumption
        · refine KeepsO.next ?_
          refine Keeps.step ?_ (State.seedResult_keeps _ _ _ _ _ _) rfl
          assumption

theorem execSeedErase_keeps (z0) (z1) (z2) (s) : KeepsO 301990144 s (execSeedErase z0 z1 z2 s) := by
  unfold execSeedErase
  extract_lets x1
  have hx1 : KeepsP 301990144 s x1 := by
    unfold x1
    refine KeepsP.step ?_ (State.seedBegin_keeps _ _ _ _) rfl
    exact Keeps.refl _ _
  clear_value x1
  split
  · rename_i y2 y3
    refine KeepsO.next ?_
    refine KeepsP.fst ?_
    assumption
  · rename_i y4 y5 y6
    refine KeepsO.ite ?_ ?_
    · refine KeepsO.next ?_
      refine Keeps.step ?_ (State.seedResult_keeps _ _ _ _ _ _) rfl
      refine Keeps.step ?_ (State.forgetBlock_keeps _ _) rfl
      refine KeepsP.fst ?_
      assumption
    · refine KeepsO.next ?_
      refine Keeps.step ?_ (State.seedResult_keeps _ _ _ _ _ _) rfl
      refine Keeps.step ?_ (State.nandErase_keeps _ _) rfl
      refine KeepsP.fst ?_
      assumption

theorem execMarkBad_keeps (z0) (z1) (z2) (s) : KeepsO 302121216 s (execMarkBad z0 z1 z2 s) := by
  unfold execMarkBad
  extract_lets x1
  have hx1 : KeepsP 302121216 s x1 := by
    unfold x1
    refine KeepsP.step ?_ (State.seedBegin_keeps _ _ _ _) rfl
    exact Keeps.refl _ _
  clear_value x1
  split
  · rename_i y2 y3
    refine KeepsO.next ?_
    refine KeepsP.fst ?_
    assumption
  · rename_i y4 y5 y6
    extract_lets x7 x8
    clear_value x7
    have hx8 : Keeps 302121216 s x8 := by
      unfold x8
      refine Keeps.ite ?_ ?_
      · refine KeepsP.fst ?_
        assumption
      · refine Keeps.step ?_ (State.setBad_keeps _ _) rfl
        refine KeepsP.fst ?_
        assumption
    clear_value x8
    refine KeepsO.next ?_
    refine Keeps.step ?_ (State.seedResult_keeps _ _ _ _ _ _) rfl
    assumption

theorem State.seedOffFails_keeps (s) : Keeps 8448 s (State.seedOffFails s) := by
  unfold State.seedOffFails
  extract_lets x1 x2
  have hx1 : Keeps 8448 s x1 := by
    unfold x1
    refine Keeps.each ?_ ?_
    · exact Keeps.refl _ _
    · intro a3 a4 a5
      refine Keeps.step ?_ (State.seedResult_keeps _ _ _ _ _ _) rfl
      assumption
  clear_value x1
  clear_value x2
  refine Keeps.each ?_ ?_
  · assumption
  · intro a6 a7 a8
    refine Keeps.step ?_ (State.setRow_keeps _ _ _) rfl
    assumption

end Sys2Proof.Machine
end

