-- ==== Sys2Proof/Laws/FootRotate.lean ====
section
/-! SUPPORT. The footprints of the operations of Machine/Rotate.lean. -/

namespace Sys2Proof.Machine

theorem State.modEntry_keeps (s) (z1) (z2) : Keeps 536870912 s (State.modEntry s z1 z2) := by
  unfold State.modEntry
  refine Keeps.setrot (m := 536870912) _ ?_ rfl
  exact Keeps.refl _ _

theorem State.rotSubmitOp_keeps (s) (z1) (z2) : KeepsP 805306368 s (State.rotSubmitOp s z1 z2) := by
  unfold State.rotSubmitOp
  extract_lets x1 x2 x3 x4
  have hx3 : Keeps 805306368 s x3 := by
    unfold x3
    refine Keeps.step ?_ (State.setLot_keeps _ _ _) rfl
    exact Keeps.refl _ _
  clear_value x3
  refine KeepsP.ite ?_ ?_
  · refine KeepsP.mk ?_
    exact Keeps.refl _ _
  · refine KeepsP.ite ?_ ?_
    · refine KeepsP.mk ?_
      exact Keeps.refl _ _
    · refine KeepsP.ite ?_ ?_
      · refine KeepsP.mk ?_
        exact Keeps.refl _ _
      · refine KeepsP.ite ?_ ?_
        · refine KeepsP.mk ?_
          exact Keeps.refl _ _
        · refine KeepsP.ite ?_ ?_
          · refine KeepsP.mk ?_
            exact Keeps.refl _ _
          · refine KeepsP.mk ?_
            refine Keeps.setrot (m := 805306368) _ ?_ rfl
            assumption

theorem State.rotCommand_keeps {m : Nat} {s0 : State} (z0 : Sys2Proof.Machine.State) (z1 : Sys2Proof.Machine.State → Sys2Proof.Machine.State × ℕ) (hz0 : Keeps m s0 z0) (hz1 : ∀ b0, Keeps m s0 b0 → KeepsP m s0 (z1 b0)) (e : 33554432 &&& m = 33554432) : Keeps m s0 (State.rotCommand z0 z1) := by
  unfold State.rotCommand
  refine Keeps.ite ?_ ?_
  · refine KeepsP.fst ?_
    refine hz1 _ ?_
    refine Keeps.step ?_ (State.hlWork_keeps _) (sub_mask rfl e)
    assumption
  · assumption

theorem State.rotPoolOp_keeps (s) (z1) : KeepsP 4 s (State.rotPoolOp s z1) := by
  unfold State.rotPoolOp
  refine KeepsP.ite ?_ ?_
  · refine KeepsP.mk ?_
    exact Keeps.refl _ _
  · refine KeepsP.ite ?_ ?_
    · refine KeepsP.mk ?_
      exact Keeps.refl _ _
    · refine KeepsP.mk ?_
      refine Keeps.step ?_ (State.setVal_keeps _ _ _) rfl
      exact Keeps.refl _ _

theorem execRotPoolWrite_keeps (z0) (s) : KeepsO 33554436 s (execRotPoolWrite z0 s) := by
  unfold execRotPoolWrite
  refine KeepsO.next ?_
  refine State.rotCommand_keeps _ _ ?_ ?_ rfl
  · exact Keeps.refl _ _
  · intro a1 a2
    refine KeepsP.step ?_ (State.rotPoolOp_keeps _ _) rfl
    assumption

theorem State.rotPoolResetOp_keeps (s) (z1) : KeepsP 536870912 s (State.rotPoolResetOp s z1) := by
  unfold State.rotPoolResetOp
  refine KeepsP.ite ?_ ?_
  · refine KeepsP.mk ?_
    refine Keeps.setrot (m := 536870912) _ ?_ rfl
    exact Keeps.refl _ _
  · refine KeepsP.mk ?_
    exact Keeps.refl _ _

theorem execRotPoolReset_keeps (z0) (s) : KeepsO 570425344 s (execRotPoolReset z0 s) := by
  unfold execRotPoolReset
  refine KeepsO.next ?_
  refine State.rotCommand_keeps _ _ ?_ ?_ rfl
  · exact Keeps.refl _ _
  · intro a1 a2
    refine KeepsP.step ?_ (State.rotPoolResetOp_keeps _ _) rfl
    assumption

theorem State.leaveQueue_keeps (s) (z1) : Keeps 805306376 s (State.leaveQueue s z1) := by
  unfold State.leaveQueue
  extract_lets x1 x2 x3 x4
  have hx2 : Keeps 805306376 s x2 := by
    unfold x2
    refine Keeps.ite ?_ ?_
    · refine Keeps.step ?_ (State.setLot_keeps _ _ _) rfl
      exact Keeps.refl _ _
    · exact Keeps.refl _ _
  clear_value x2
  have hx4 : Keeps 805306376 s x4 := by
    unfold x4
    refine Keeps.setrot (m := 805306376) _ ?_ rfl
    assumption
  clear_value x4
  refine Keeps.ite ?_ ?_
  · refine Keeps.step ?_ (State.attn_keeps _ _) rfl
    assumption
  · assumption

theorem State.endEntry_keeps (s) (z1) (z2) (z3) : Keeps 805306380 s (State.endEntry s z1 z2 z3) := by
  unfold State.endEntry
  split
  · rename_i y1 y2
    exact Keeps.refl _ _
  · rename_i y3 y4 y5
    extract_lets x6 x7 x8 x9
    have hx6 : Keeps 805306380 s x6 := by
      unfold x6
      refine Keeps.step ?_ (State.attn_keeps _ _) rfl
      refine Keeps.ite ?_ ?_
      · exact Keeps.refl _ _
      · refine Keeps.step ?_ (State.bump_keeps _ _) rfl
        exact Keeps.refl _ _
    clear_value x6
    have hx8 : Keeps 805306380 s x8 := by
      unfold x8
      refine Keeps.ite ?_ ?_
      · refine Keeps.setrot (m := 805306380) _ ?_ rfl
        assumption
      · assumption
    clear_value x8
    refine Keeps.ite ?_ ?_
    · refine Keeps.step ?_ (State.leaveQueue_keeps _ _) rfl
      assumption
    · refine Keeps.step ?_ (State.modEntry_keeps _ _ _) rfl
      assumption

theorem State.eachAcreEntry_keeps (s) (z1) (z2) : Keeps 33587328 s (State.eachAcreEntry s z1 z2) := by
  unfold State.eachAcreEntry
  split
  · rename_i y1 y2
    exact Keeps.refl _ _
  · rename_i y3 y4 y5
    refine Keeps.foldl ?_ ?_
    · exact Keeps.refl _ _
    · intro a6 a7 a8
      extract_lets x9 x10
      clear_value x9
      have hx10 : KeepsP 33587328 s x10 := by
        unfold x10
        refine KeepsP.step ?_ (State.hbmRead_keeps _ _ _) rfl
        assumption
      clear_value x10
      refine Keeps.step ?_ (State.hbmWrite_keeps _ _ _ _) rfl
      refine KeepsP.fst ?_
      assumption

theorem State.acreTableGo_keeps (s) (z1) (z2) : KeepsP 4100 s (State.acreTableGo s z1 z2) := by
  unfold State.acreTableGo
  split
  · rename_i y1 y2
    refine KeepsP.mk ?_
    exact Keeps.refl _ _
  · rename_i y3 y4 y5
    refine KeepsP.step ?_ (State.cohAccess_keeps _ _ _ _) rfl
    exact Keeps.refl _ _

theorem State.drewAcres_keeps (s) (z1) : Keeps 2 s (State.drewAcres s z1) := by
  unfold State.drewAcres
  refine Keeps.setfree (m := 2) _ ?_ rfl
  exact Keeps.refl _ _

theorem State.invalLot_keeps (s) (z1) (z2) : Keeps 512 s (State.invalLot s z1 z2) := by
  unfold State.invalLot
  refine Keeps.step ?_ (State.ownCommand_keeps _ _) rfl
  exact Keeps.refl _ _

theorem State.freeAcres_keeps (s) (z1) : Keeps 570458754 s (State.freeAcres s z1) := by
  unfold State.freeAcres
  split
  · rename_i y1 y2
    exact Keeps.refl _ _
  · rename_i y3 y4 y5
    extract_lets x6 x7 x8 x9
    have hx7 : Keeps 570458754 s x7 := by
      unfold x7
      refine Keeps.step ?_ (State.invalLot_keeps _ _ _) rfl
      refine Keeps.step ?_ (State.drewAcres_keeps _ _) rfl
      refine Keeps.step ?_ (State.eachAcreEntry_keeps _ _ _) rfl
      exact Keeps.refl _ _
    clear_value x7
    have hx9 : Keeps 570458754 s x9 := by
      unfold x9
      refine Keeps.ite ?_ ?_
      · exact Keeps.refl _ _
      · refine Keeps.setrot (m := 570458754) _ ?_ rfl
        assumption
    clear_value x9
    refine Keeps.step ?_ (State.modEntry_keeps _ _ _) rfl
    assumption

theorem State.sowCheck_keeps (s) (z1) : KeepsP 33587328 s (State.sowCheck s z1) := by
  unfold State.sowCheck
  extract_lets x1
  split
  · rename_i y2 y3
    refine KeepsP.mk ?_
    exact Keeps.refl _ _
  · rename_i y4 y5 y6
    refine KeepsP.ite ?_ ?_
    · refine KeepsP.mk ?_
      exact Keeps.refl _ _
    · extract_lets x7
      have hx7 : Keeps 33587328 s x7 := by
        unfold x7
        refine Keeps.step ?_ (State.scrubFor_keeps _ _ _) rfl
        exact Keeps.refl _ _
      clear_value x7
      refine KeepsP.ite ?_ ?_
      · refine KeepsP.mk ?_
        assumption
      · refine KeepsP.mk ?_
        assumption

theorem State.takeAcres_keeps (s) (z1) : Keeps 536870912 s (State.takeAcres s z1) := by
  unfold State.takeAcres
  split
  · rename_i y1 y2
    exact Keeps.refl _ _
  · rename_i y3 y4 y5
    extract_lets x6 x7 x8 x9
    have hx9 : Keeps 536870912 s x9 := by
      unfold x9
      refine Keeps.setrot (m := 536870912) _ ?_ rfl
      exact Keeps.refl _ _
    clear_value x9
    refine Keeps.ite ?_ ?_
    · refine Keeps.setrot (m := 536870912) _ ?_ rfl
      exact Keeps.refl _ _
    · refine Keeps.step ?_ (State.modEntry_keeps _ _ _) rfl
      assumption

theorem State.startSow_keeps (s) (z1) : Keeps 838897804 s (State.startSow s z1) := by
  unfold State.startSow
  split
  · rename_i y1 y2
    exact Keeps.refl _ _
  · rename_i y3 y4 y5
    extract_lets x6 x7 x8
    have hx6 : KeepsP 838897804 s x6 := by
      unfold x6
      refine KeepsP.step ?_ (State.acreTableGo_keeps _ _ _) rfl
      exact Keeps.refl _ _
    clear_value x6
    have hx7 : KeepsP 838897804 s x7 := by
      unfold x7
      refine KeepsP.step ?_ (State.sowCheck_keeps _ _) rfl
      refine Keeps.step ?_ (State.hlWork_keeps _) rfl
      refine KeepsP.fst ?_
      assumption
    clear_value x7
    have hx8 : Keeps 838897804 s x8 := by
      unfold x8
      refine KeepsP.fst ?_
      assumption
    refine Keeps.ite ?_ ?_
    · refine Keeps.step ?_ (State.modEntry_keeps _ _ _) rfl
      refine KeepsP.fst ?_
      assumption
    · refine Keeps.ite ?_ ?_
      · refine Keeps.step ?_ (State.endEntry_keeps _ _ _ _) rfl
        assumption
      · refine Keeps.step ?_ (State.takeAcres_keeps _ _) rfl
        refine Keeps.step ?_ (State.modEntry_keeps _ _ _) rfl
        assumption

theorem State.cancelHeld_keeps (s) (z1) : Keeps 838898318 s (State.cancelHeld s z1) := by
  unfold State.cancelHeld
  split
  · rename_i y1 y2
    exact Keeps.refl _ _
  · rename_i y3 y4 y5
    extract_lets x6
    have hx6 : KeepsP 838898318 s x6 := by
      unfold x6
      refine KeepsP.step ?_ (State.acreTableGo_keeps _ _ _) rfl
      exact Keeps.refl _ _
    clear_value x6
    refine Keeps.ite ?_ ?_
    · refine Keeps.step ?_ (State.modEntry_keeps _ _ _) rfl
      refine KeepsP.fst ?_
      assumption
    · refine Keeps.ite ?_ ?_
      · refine Keeps.step ?_ (State.endEntry_keeps _ _ _ _) rfl
        refine Keeps.step ?_ (State.freeAcres_keeps _ _) rfl
        exact Keeps.refl _ _
      · split
        · rename_i y7 y8 y9
          refine Keeps.step ?_ (State.leaveQueue_keeps _ _) rfl
          refine Keeps.step ?_ (State.freeAcres_keeps _ _) rfl
          exact Keeps.refl _ _
        · rename_i y10 y11
          exact Keeps.refl _ _

theorem State.cancelWaits_keeps (s) : Keeps 838898318 s (State.cancelWaits s) := by
  unfold State.cancelWaits
  refine Keeps.each ?_ ?_
  · exact Keeps.refl _ _
  · intro a1 a2 a3
    refine Keeps.step ?_ (State.cancelHeld_keeps _ _) rfl
    assumption

theorem execSowStart_keeps (s) : KeepsO 838898318 s (execSowStart s) := by
  unfold execSowStart
  extract_lets x1
  have hx1 : Keeps 838898318 s x1 := by
    unfold x1
    refine Keeps.step ?_ (State.cancelWaits_keeps _) rfl
    exact Keeps.refl _ _
  clear_value x1
  refine KeepsO.ite ?_ ?_
  · refine KeepsO.next ?_
    assumption
  · split
    · rename_i y2 y3 y4
      refine KeepsO.next ?_
      refine Keeps.step ?_ (State.startSow_keeps _ _) rfl
      assumption
    · rename_i y5 y6
      refine KeepsO.next ?_
      assumption

theorem State.goSowOp_keeps (s) (z1) : KeepsP 838897804 s (State.goSowOp s z1) := by
  unfold State.goSowOp
  split
  · rename_i y1 y2
    refine KeepsP.mk ?_
    exact Keeps.refl _ _
  · rename_i y3 y4 y5
    refine KeepsP.ite ?_ ?_
    · refine KeepsP.mk ?_
      exact Keeps.refl _ _
    · refine KeepsP.ite ?_ ?_
      · refine KeepsP.mk ?_
        exact Keeps.refl _ _
      · refine KeepsP.ite ?_ ?_
        · refine KeepsP.mk ?_
          refine Keeps.step ?_ (State.startSow_keeps _ _) rfl
          exact Keeps.refl _ _
        · refine KeepsP.mk ?_
          refine Keeps.step ?_ (State.modEntry_keeps _ _ _) rfl
          exact Keeps.refl _ _

theorem execGoSow_keeps (z0) (s) : KeepsO 838897804 s (execGoSow z0 s) := by
  unfold execGoSow
  refine KeepsO.next ?_
  refine State.rotCommand_keeps _ _ ?_ ?_ rfl
  · exact Keeps.refl _ _
  · intro a1 a2
    refine KeepsP.step ?_ (State.goSowOp_keeps _ _) rfl
    assumption

theorem State.fillAcre_keeps (s) (z1) (z2) (z3) : Keeps 33587328 s (State.fillAcre s z1 z2 z3) := by
  unfold State.fillAcre
  extract_lets x1 x2 x3 x4 x5 x6 x7
  have hx1 : Keeps 33587328 s x1 := by
    unfold x1
    refine Keeps.step ?_ (State.scrubAcre_keeps _ _) rfl
    exact Keeps.refl _ _
  clear_value x1
  clear_value x2
  refine Keeps.step ?_ (State.setHbm_keeps _ _ (by first | exact fun i => ⟨memZero_wf _ _ _ i.1, memZero_wf _ _ _ i.2.1⟩ | exact fun i => ⟨memWriteEn_wf _ _ _ i.1, markWrite_wf _ _ _ _ i.2.1⟩ | exact fun i => ⟨i.1, by dsimp only; exact kvSet_wf _ _ _ i.2.1⟩ | exact fun i => ⟨foldl_wf _ _ _ (fun _ _ h => kvSet_wf _ _ _ h) (memZero_wf _ _ _ i.1), foldl_wf _ _ _ (fun _ _ h => foldl_wf _ _ _ (fun _ _ h => kvPut_wfFrom _ _ 0 _ (by decide) (Nat.zero_le _) h) h) (memZero_wf _ _ _ i.2.1)⟩)) rfl
  assumption

theorem State.sownOp_keeps (s) (z1) : Keeps 570556316 s (State.sownOp s z1) := by
  unfold State.sownOp
  split
  · rename_i y1 y2
    exact Keeps.refl _ _
  · rename_i y3 y4 y5
    extract_lets x6
    split
    · rename_i y7 y8
      exact Keeps.refl _ _
    · rename_i y9 y10 y11
      refine Keeps.ite ?_ ?_
      · exact Keeps.refl _ _
      · extract_lets x12 x13 x14
        clear_value x12
        have hx13 : Keeps 570556316 s x13 := by
          unfold x13
          refine Keeps.step ?_ (State.modEntry_keeps _ _ _) rfl
          exact Keeps.refl _ _
        clear_value x13
        have hx14 : Keeps 570556316 s x14 := by
          unfold x14
          refine Keeps.step ?_ (State.bumpBy_keeps _ _ _) rfl
          refine Keeps.step ?_ (State.bump_keeps _ _) rfl
          assumption
        clear_value x14
        refine Keeps.ite ?_ ?_
        · refine Keeps.step ?_ (State.settleStakes_keeps _) rfl
          refine Keeps.step ?_ (State.stakeAddOp_keeps _ _ _ _) rfl
          assumption
        · assumption

theorem execSowComplete_keeps (s) : KeepsO 838898316 s (execSowComplete s) := by
  unfold execSowComplete
  split
  · rename_i y1 y2
    refine KeepsO.next ?_
    exact Keeps.refl _ _
  · rename_i y3 y4 y5
    extract_lets x6
    have hx6 : Keeps 838898316 s x6 := by
      unfold x6
      refine Keeps.ite ?_ ?_
      · refine Keeps.step ?_ (State.takeAcres_keeps _ _) rfl
        exact Keeps.refl _ _
      · exact Keeps.refl _ _
    clear_value x6
    split
    · rename_i y7 y8
      refine KeepsO.next ?_
      assumption
    · rename_i y9 y10 y11
      extract_lets x12 x13 x14 x15
      have hx13 : KeepsP 838898316 s x13 := by
        unfold x13
        refine KeepsP.step ?_ (State.cohAcres_keeps _ _ _) rfl
        assumption
      clear_value x13
      have hx14 : KeepsP 838898316 s x14 := by
        unfold x14
        refine KeepsP.step ?_ (State.acreTableGo_keeps _ _ _) rfl
        refine KeepsP.fst ?_
        assumption
      clear_value x14
      have hx15 : Keeps 838898316 s x15 := by
        unfold x15
        refine KeepsP.fst ?_
        assumption
      refine KeepsO.ite ?_ ?_
      · refine KeepsO.next ?_
        assumption
      · split
        · rename_i y16 y17
          refine KeepsO.next ?_
          refine Keeps.step ?_ (State.endEntry_keeps _ _ _ _) rfl
          assumption
        · rename_i y18 y19 y20
          refine KeepsO.ite ?_ ?_
          · refine KeepsO.next ?_
            refine KeepsP.fst ?_
            assumption
          · extract_lets x21 x22 x23 x24
            have hx21 : Keeps 838898316 s x21 := by
              unfold x21
              refine Keeps.foldl ?_ ?_
              · assumption
              · intro a25 a26 a27
                refine Keeps.step ?_ (State.fillAcre_keeps _ _ _ _) rfl
                assumption
            clear_value x21
            have hx22 : Keeps 838898316 s x22 := by
              unfold x22
              refine Keeps.step ?_ (State.eachAcreEntry_keeps _ _ _) rfl
              assumption
            clear_value x22
            have hx23 : Keeps 838898316 s x23 := by
              unfold x23
              refine Keeps.step ?_ (State.modEntry_keeps _ _ _) rfl
              refine Keeps.step ?_ (State.invalLot_keeps _ _ _) rfl
              assumption
            clear_value x23
            have hx24 : Keeps 838898316 s x24 := by
              unfold x24
              refine Keeps.step ?_ (State.setSeed_keeps _ _) rfl
              assumption
            clear_value x24
            refine KeepsO.next ?_
            assumption

theorem State.startReap_keeps (s) (z1) : Keeps 838898318 s (State.startReap s z1) := by
  unfold State.startReap
  split
  · rename_i y1 y2
    exact Keeps.refl _ _
  · rename_i y3 y4 y5
    extract_lets x6 x7 x8
    have hx7 : KeepsP 838898318 s x7 := by
      unfold x7
      refine KeepsP.step ?_ (State.acreTableGo_keeps _ _ _) rfl
      exact Keeps.refl _ _
    clear_value x7
    have hx8 : Keeps 838898318 s x8 := by
      unfold x8
      refine Keeps.ite ?_ ?_
      · refine Keeps.step ?_ (State.eachAcreEntry_keeps _ _ _) rfl
        exact Keeps.refl _ _
      · refine Keeps.step ?_ (State.drewAcres_keeps _ _) rfl
        refine Keeps.step ?_ (State.eachAcreEntry_keeps _ _ _) rfl
        exact Keeps.refl _ _
    clear_value x8
    refine Keeps.ite ?_ ?_
    · refine Keeps.step ?_ (State.endEntry_keeps _ _ _ _) rfl
      exact Keeps.refl _ _
    · refine Keeps.ite ?_ ?_
      · refine Keeps.step ?_ (State.endEntry_keeps _ _ _ _) rfl
        exact Keeps.refl _ _
      · refine Keeps.ite ?_ ?_
        · refine Keeps.step ?_ (State.modEntry_keeps _ _ _) rfl
          refine KeepsP.fst ?_
          assumption
        · refine Keeps.step ?_ (State.modEntry_keeps _ _ _) rfl
          refine Keeps.step ?_ (State.invalLot_keeps _ _ _) rfl
          refine Keeps.step ?_ (State.hlWork_keeps _) rfl
          assumption

theorem State.unmappedOp_keeps (s) (z1) : Keeps 805306368 s (State.unmappedOp s z1) := by
  unfold State.unmappedOp
  split
  · rename_i y1 y2
    exact Keeps.refl _ _
  · rename_i y3 y4 y5
    refine Keeps.ite ?_ ?_
    · exact Keeps.refl _ _
    · extract_lets x6 x7 x8
      clear_value x7
      have hx8 : Keeps 805306368 s x8 := by
        unfold x8
        refine Keeps.step ?_ (State.setLot_keeps _ _ _) rfl
        exact Keeps.refl _ _
      clear_value x8
      refine Keeps.step ?_ (State.modEntry_keeps _ _ _) rfl
      assumption

theorem execReapStart_keeps (s) : KeepsO 838898318 s (execReapStart s) := by
  unfold execReapStart
  extract_lets x1
  have hx1 : Keeps 838898318 s x1 := by
    unfold x1
    refine Keeps.step ?_ (State.cancelWaits_keeps _) rfl
    exact Keeps.refl _ _
  clear_value x1
  refine KeepsO.ite ?_ ?_
  · refine KeepsO.next ?_
    assumption
  · split
    · rename_i y2 y3 y4
      refine KeepsO.next ?_
      refine Keeps.step ?_ (State.startReap_keeps _ _) rfl
      assumption
    · rename_i y5 y6
      refine KeepsO.next ?_
      assumption

theorem State.goReapOp_keeps (s) (z1) : KeepsP 838898318 s (State.goReapOp s z1) := by
  unfold State.goReapOp
  split
  · rename_i y1 y2
    refine KeepsP.mk ?_
    exact Keeps.refl _ _
  · rename_i y3 y4 y5
    refine KeepsP.ite ?_ ?_
    · refine KeepsP.mk ?_
      exact Keeps.refl _ _
    · refine KeepsP.ite ?_ ?_
      · refine KeepsP.mk ?_
        exact Keeps.refl _ _
      · refine KeepsP.ite ?_ ?_
        · refine KeepsP.mk ?_
          refine Keeps.step ?_ (State.startReap_keeps _ _) rfl
          exact Keeps.refl _ _
        · refine KeepsP.mk ?_
          refine Keeps.step ?_ (State.modEntry_keeps _ _ _) rfl
          exact Keeps.refl _ _

theorem execGoReap_keeps (z0) (s) : KeepsO 838898318 s (execGoReap z0 s) := by
  unfold execGoReap
  refine KeepsO.next ?_
  refine State.rotCommand_keeps _ _ ?_ ?_ rfl
  · exact Keeps.refl _ _
  · intro a1 a2
    refine KeepsP.step ?_ (State.goReapOp_keeps _ _) rfl
    assumption

theorem State.reapSignal_keeps (s) (z1) : Keeps 33685404 s (State.reapSignal s z1) := by
  unfold State.reapSignal
  refine Keeps.ite ?_ ?_
  · refine Keeps.step ?_ (State.settleStakes_keeps _) rfl
    refine Keeps.step ?_ (State.stakeAddOp_keeps _ _ _ _) rfl
    exact Keeps.refl _ _
  · exact Keeps.refl _ _

theorem State.reapRelease_keeps (s) (z1) (z2) : Keeps 838991772 s (State.reapRelease s z1 z2) := by
  unfold State.reapRelease
  split
  · rename_i y1 y2
    exact Keeps.refl _ _
  · rename_i y3 y4 y5
    extract_lets x6 x7 x8 x9
    have hx7 : Keeps 838991772 s x7 := by
      unfold x7
      refine Keeps.step ?_ (State.bumpBy_keeps _ _ _) rfl
      refine Keeps.step ?_ (State.bump_keeps _ _) rfl
      exact Keeps.refl _ _
    clear_value x7
    have hx8 : Keeps 838991772 s x8 := by
      unfold x8
      refine Keeps.step ?_ (State.modEntry_keeps _ _ _) rfl
      assumption
    clear_value x8
    have hx9 : Keeps 838991772 s x9 := by
      unfold x9
      refine Keeps.step ?_ (State.modEntry_keeps _ _ _) rfl
      assumption
    clear_value x9
    refine Keeps.ite ?_ ?_
    · refine Keeps.step ?_ (State.invalLot_keeps _ _ _) rfl
      refine Keeps.step ?_ (State.eachAcreEntry_keeps _ _ _) rfl
      assumption
    · split
      · rename_i y10 y11 y12
        refine Keeps.step ?_ (State.reapSignal_keeps _ _) rfl
        refine Keeps.step ?_ (State.leaveQueue_keeps _ _) rfl
        assumption
      · rename_i y13 y14
        assumption

theorem State.keptOp_keeps (s) (z1) : Keeps 570556316 s (State.keptOp s z1) := by
  unfold State.keptOp
  split
  · rename_i y1 y2
    exact Keeps.refl _ _
  · rename_i y3 y4 y5
    refine Keeps.ite ?_ ?_
    · exact Keeps.refl _ _
    · refine Keeps.ite ?_ ?_
      · refine Keeps.step ?_ (State.modEntry_keeps _ _ _) rfl
        exact Keeps.refl _ _
      · refine Keeps.step ?_ (State.reapSignal_keeps _ _) rfl
        refine Keeps.step ?_ (State.modEntry_keeps _ _ _) rfl
        exact Keeps.refl _ _

theorem State.keptAfterReplay_keeps (s) : Keeps 570556316 s (State.keptAfterReplay s) := by
  unfold State.keptAfterReplay
  refine Keeps.each ?_ ?_
  · exact Keeps.refl _ _
  · intro a1 a2 a3
    refine Keeps.step ?_ (State.keptOp_keeps _ _) rfl
    assumption

theorem execReapComplete_keeps (s) : KeepsO 838991772 s (execReapComplete s) := by
  unfold execReapComplete
  split
  · rename_i y1 y2
    refine KeepsO.next ?_
    exact Keeps.refl _ _
  · rename_i y3 y4 y5
    refine KeepsO.ite ?_ ?_
    · refine KeepsO.next ?_
      exact Keeps.refl _ _
    · refine KeepsO.ite ?_ ?_
      · refine KeepsO.next ?_
        refine Keeps.step ?_ (State.endEntry_keeps _ _ _ _) rfl
        refine Keeps.step ?_ (State.dropDraft_keeps _ _) rfl
        exact Keeps.refl _ _
      · extract_lets x6 x7 x8 x9 x10 x11 x12 x13 x14
        have hx6 : KeepsP 838991772 s x6 := by
          unfold x6
          refine KeepsP.step ?_ (State.cohAcres_keeps _ _ _) rfl
          exact Keeps.refl _ _
        clear_value x6
        have hx7 : KeepsP 838991772 s x7 := by
          unfold x7
          refine KeepsP.ite ?_ ?_
          · refine KeepsP.step ?_ (State.acreTableGo_keeps _ _ _) rfl
            refine KeepsP.fst ?_
            assumption
          · refine KeepsP.mk ?_
            refine KeepsP.fst ?_
            assumption
        clear_value x7
        have hx8 : Keeps 838991772 s x8 := by
          unfold x8
          refine Keeps.each ?_ ?_
          · refine KeepsP.fst ?_
            assumption
          · intro a15 a16 a17
            refine Keeps.step ?_ (State.scrubAcre_keeps _ _) rfl
            assumption
        clear_value x8
        clear_value x11
        have hx12 : Keeps 838991772 s x12 := by
          unfold x12
          refine Keeps.step ?_ (State.setLot_keeps _ _ _) rfl
          assumption
        clear_value x12
        have hx13 : Keeps 838991772 s x13 := by
          unfold x13
          refine Keeps.step ?_ (State.programSectors_keeps _ _ _) rfl
          assumption
        clear_value x13
        clear_value x14
        refine KeepsO.ite ?_ ?_
        · refine KeepsO.next ?_
          refine KeepsP.fst ?_
          assumption
        · refine KeepsO.ite ?_ ?_
          · refine KeepsO.next ?_
            refine Keeps.step ?_ (State.endEntry_keeps _ _ _ _) rfl
            refine Keeps.step ?_ (State.dropDraft_keeps _ _) rfl
            assumption
          · refine KeepsO.next ?_
            refine Keeps.step ?_ (State.reapRelease_keeps _ _ _) rfl
            refine Keeps.step ?_ (State.commit_keeps _ _) rfl
            assumption

theorem State.ownDone_keeps (s) (z1) : Keeps 838991772 s (State.ownDone s z1) := by
  unfold State.ownDone
  split
  · rename_i y1 y2
    refine Keeps.step ?_ (State.sownOp_keeps _ _) rfl
    exact Keeps.refl _ _
  · rename_i y3 y4
    refine Keeps.step ?_ (State.unmappedOp_keeps _ _) rfl
    exact Keeps.refl _ _
  · rename_i y5 y6
    refine Keeps.step ?_ (State.keptOp_keeps _ _) rfl
    exact Keeps.refl _ _
  · rename_i y7 y8
    refine Keeps.setrot (m := 838991772) _ ?_ rfl
    exact Keeps.refl _ _
  · rename_i y9 y10 y11 y12 y13
    exact Keeps.refl _ _

theorem execInvalidationComplete_keeps (s) : KeepsO 838991772 s (execInvalidationComplete s) := by
  unfold execInvalidationComplete
  split
  · rename_i y1 y2 y3
    refine KeepsO.ite ?_ ?_
    · refine KeepsO.next ?_
      refine Keeps.step ?_ (State.ownDone_keeps _ _) rfl
      refine Keeps.step ?_ (State.cmdDone_keeps _ _ _) rfl
      exact Keeps.refl _ _
    · refine KeepsO.next ?_
      exact Keeps.refl _ _
  · rename_i y4 y5
    refine KeepsO.next ?_
    exact Keeps.refl _ _

theorem State.cancelOp_keeps (s) (z1) : KeepsP 838898318 s (State.cancelOp s z1) := by
  unfold State.cancelOp
  split
  · rename_i y1 y2
    refine KeepsP.mk ?_
    exact Keeps.refl _ _
  · rename_i y3 y4 y5
    refine KeepsP.ite ?_ ?_
    · refine KeepsP.mk ?_
      exact Keeps.refl _ _
    · split
      · rename_i y6 y7
        refine KeepsP.mk ?_
        refine Keeps.step ?_ (State.endEntry_keeps _ _ _ _) rfl
        exact Keeps.refl _ _
      · rename_i y8 y9
        refine KeepsP.ite ?_ ?_
        · extract_lets x10 x11
          have hx11 : Keeps 838898318 s x11 := by
            unfold x11
            refine Keeps.setrot (m := 838898318) _ ?_ rfl
            exact Keeps.refl _ _
          clear_value x11
          refine KeepsP.mk ?_
          refine Keeps.step ?_ (State.endEntry_keeps _ _ _ _) rfl
          assumption
        · refine KeepsP.mk ?_
          exact Keeps.refl _ _
      · rename_i y12 y13
        refine KeepsP.mk ?_
        refine Keeps.step ?_ (State.cancelHeld_keeps _ _) rfl
        exact Keeps.refl _ _
      · rename_i y14 y15
        refine KeepsP.mk ?_
        refine Keeps.step ?_ (State.cancelHeld_keeps _ _) rfl
        exact Keeps.refl _ _
      · rename_i y16 y17
        refine KeepsP.mk ?_
        refine Keeps.step ?_ (State.cancelHeld_keeps _ _) rfl
        exact Keeps.refl _ _
      · rename_i y18 y19 y20 y21 y22 y23
        refine KeepsP.mk ?_
        exact Keeps.refl _ _

theorem execCancel_keeps (z0) (s) : KeepsO 838898318 s (execCancel z0 s) := by
  unfold execCancel
  refine KeepsO.next ?_
  refine State.rotCommand_keeps _ _ ?_ ?_ rfl
  · exact Keeps.refl _ _
  · intro a1 a2
    refine KeepsP.step ?_ (State.cancelOp_keeps _ _) rfl
    assumption

theorem execTrainLimitExpiry_keeps (z0) (s) : KeepsO 570425353 s (execTrainLimitExpiry z0 s) := by
  unfold execTrainLimitExpiry
  split
  · rename_i y1 y2
    refine KeepsO.next ?_
    exact Keeps.refl _ _
  · rename_i y3 y4 y5
    refine KeepsO.ite ?_ ?_
    · extract_lets x6
      have hx6 : Keeps 570425353 s x6 := by
        unfold x6
        refine Keeps.step ?_ (State.until__keeps _ _) rfl
        exact Keeps.refl _ _
      clear_value x6
      refine KeepsO.next ?_
      refine Keeps.step ?_ (State.attn_keeps _ _) rfl
      refine Keeps.step ?_ (State.modEntry_keeps _ _ _) rfl
      refine Keeps.step ?_ (State.hlWork_keeps _) rfl
      assumption
    · refine KeepsO.next ?_
      exact Keeps.refl _ _

theorem State.rotPowerLoss_keeps (s) : Keeps 805306368 s (State.rotPowerLoss s) := by
  unfold State.rotPowerLoss
  extract_lets x1 x2
  have hx1 : Keeps 805306368 s x1 := by
    unfold x1
    refine Keeps.each ?_ ?_
    · exact Keeps.refl _ _
    · intro a3 a4 a5
      refine Keeps.step ?_ (State.setLot_keeps _ _ _) rfl
      assumption
  clear_value x1
  refine Keeps.setrot (m := 805306368) _ ?_ rfl
  assumption

theorem State.rotFundamental_keeps (s) : Keeps 805306380 s (State.rotFundamental s) := by
  unfold State.rotFundamental
  extract_lets x1 x2
  have hx1 : Keeps 805306380 s x1 := by
    unfold x1
    refine Keeps.step ?_ (State.setVal_keeps _ _ _) rfl
    exact Keeps.refl _ _
  clear_value x1
  clear_value x2
  refine Keeps.each ?_ ?_
  · assumption
  · intro a3 a4 a5
    extract_lets x6 x7
    have hx6 : Keeps 805306380 s x6 := by
      unfold x6
      refine Keeps.ite ?_ ?_
      · refine Keeps.step ?_ (State.dropDraft_keeps _ _) rfl
        assumption
      · assumption
    clear_value x6
    refine Keeps.ite ?_ ?_
    · refine Keeps.step ?_ (State.leaveQueue_keeps _ _) rfl
      assumption
    · refine Keeps.step ?_ (State.endEntry_keeps _ _ _ _) rfl
      refine Keeps.step ?_ (State.modEntry_keeps _ _ _) rfl
      assumption

theorem State.rotHeld_keeps (s) : Keeps 805306380 s (State.rotHeld s) := by
  unfold State.rotHeld
  refine Keeps.each ?_ ?_
  · exact Keeps.refl _ _
  · intro a1 a2 a3
    refine Keeps.step ?_ (State.endEntry_keeps _ _ _ _) rfl
    assumption

theorem State.rotHeadlandReset_keeps (s) (z1) : Keeps 805371916 s (State.rotHeadlandReset s z1) := by
  unfold State.rotHeadlandReset
  refine Keeps.ite ?_ ?_
  · refine Keeps.step ?_ (State.rotHeld_keeps _) rfl
    exact Keeps.refl _ _
  · extract_lets x1 x2 x3
    have hx1 : Keeps 805371916 s x1 := by
      unfold x1
      refine Keeps.step ?_ (State.rotPowerLoss_keeps _) rfl
      exact Keeps.refl _ _
    clear_value x1
    have hx3 : Keeps 805371916 s x3 := by
      unfold x3
      refine Keeps.setrot (m := 805371916) _ ?_ rfl
      assumption
    clear_value x3
    refine Keeps.step ?_ (State.raise_keeps _ _ _) rfl
    assumption

theorem State.rotSliceHalt_keeps (s) (z1) : Keeps 805306380 s (State.rotSliceHalt s z1) := by
  unfold State.rotSliceHalt
  refine Keeps.each ?_ ?_
  · exact Keeps.refl _ _
  · intro a1 a2 a3
    refine Keeps.step ?_ (State.endEntry_keeps _ _ _ _) rfl
    refine Keeps.step ?_ (State.dropDraft_keeps _ _) rfl
    assumption

theorem State.seedOffOp_keeps (s) : Keeps 805380364 s (State.seedOffOp s) := by
  unfold State.seedOffOp
  refine Keeps.ite ?_ ?_
  · exact Keeps.refl _ _
  · extract_lets x1 x2 x3
    have hx1 : Keeps 805380364 s x1 := by
      unfold x1
      refine Keeps.each ?_ ?_
      · exact Keeps.refl _ _
      · intro a4 a5 a6
        refine Keeps.step ?_ (State.endEntry_keeps _ _ _ _) rfl
        assumption
    clear_value x1
    have hx2 : Keeps 805380364 s x2 := by
      unfold x2
      refine Keeps.step ?_ (State.lotDrop_keeps _ _) rfl
      refine Keeps.step ?_ (State.rotHeld_keeps _) rfl
      assumption
    clear_value x2
    have hx3 : Keeps 805380364 s x3 := by
      unfold x3
      refine Keeps.step ?_ (State.seedOffFails_keeps _) rfl
      refine Keeps.step ?_ (State.setSeed_keeps _ _) rfl
      assumption
    clear_value x3
    refine Keeps.step ?_ (State.raise_keeps _ _ _) rfl
    assumption

theorem execSeedThermOff_keeps (s) : KeepsO 805380364 s (execSeedThermOff s) := by
  unfold execSeedThermOff
  refine KeepsO.next ?_
  refine Keeps.step ?_ (State.seedOffOp_keeps _) rfl
  exact Keeps.refl _ _

theorem execSeedThermReturn_keeps (s) : KeepsO 268435457 s (execSeedThermReturn s) := by
  unfold execSeedThermReturn
  split
  · rename_i y1 y2 y3
    refine KeepsO.next ?_
    refine Keeps.ite ?_ ?_
    · refine Keeps.step ?_ (State.seedStart_keeps _) rfl
      refine Keeps.step ?_ (State.until__keeps _ _) rfl
      exact Keeps.refl _ _
    · exact Keeps.refl _ _
  · rename_i y4 y5
    refine KeepsO.next ?_
    exact Keeps.refl _ _

end Sys2Proof.Machine
end

