-- ==== Sys2Proof/Laws/FootSlice.lean ====
section
/-! SUPPORT. The footprints of the operations of Machine/Slice.lean. -/

namespace Sys2Proof.Machine

theorem State.dropRouteM_keeps (s) : Keeps 4 s (State.dropRouteM s) := by
  unfold State.dropRouteM
  refine Keeps.each ?_ ?_
  · exact Keeps.refl _ _
  · intro a1 a2 a3
    extract_lets x4
    clear_value x4
    refine Keeps.ite ?_ ?_
    · refine Keeps.step ?_ (State.setVal_keeps _ _ _) rfl
      assumption
    · assumption

theorem State.loseSlice_keeps (s) : Keeps 25165828 s (State.loseSlice s) := by
  unfold State.loseSlice
  refine Keeps.step ?_ (State.dropRouteM_keeps _) rfl
  refine Keeps.step (m' := 25165824) (t := s) ?_ (by constructor <;> first | exact fun b => Bool.noConfusion b | exact fun _ => rfl | exact rfl | exact Nat.le_refl _ | exact id) rfl
  exact Keeps.refl _ _

theorem State.tellDies_keeps (s) (z1) : Keeps 2097156 s (State.tellDies s z1) := by
  unfold State.tellDies
  extract_lets x1
  clear_value x1
  refine Keeps.each ?_ ?_
  · exact Keeps.refl _ _
  · intro a2 a3 a4
    split
    · rename_i y5 y6
      assumption
    · rename_i y7 y8 y9 y10
      refine Keeps.ite ?_ ?_
      · refine Keeps.step ?_ (State.putOn_keeps _ _ _) rfl
        assumption
      · refine Keeps.ite ?_ ?_
        · split
          · rename_i y11 y12 y13
            refine Keeps.step ?_ (State.putOn_keeps _ _ _) rfl
            assumption
          · rename_i y14 y15
            assumption
        · assumption

theorem State.endOptical_keeps (s) : Keeps 48365468 s (State.endOptical s) := by
  unfold State.endOptical
  refine Keeps.step ?_ (State.refreshPorts_keeps _) rfl
  refine Keeps.setslice (m := 48365468) _ ?_ rfl
  exact Keeps.refl _ _

theorem State.failReqs_keeps (s) (z1) : Keeps 35782556 s (State.failReqs s z1) := by
  unfold State.failReqs
  extract_lets x1 x2 x3
  have hx3 : Keeps 35782556 s x3 := by
    unfold x3
    refine Keeps.setfab (m := 35782556) _ ?_ id rfl
    exact Keeps.refl _ _
  clear_value x3
  refine Keeps.each ?_ ?_
  · assumption
  · intro a4 a5 a6
    refine Keeps.step ?_ (State.fabSettle_keeps _ _) rfl
    refine Keeps.step ?_ (State.fabFail_keeps _ _ _) rfl
    assumption

theorem State.failStiles_keeps (s) : Keeps 35782556 s (State.failStiles s) := by
  unfold State.failStiles
  extract_lets x1 x2 x3 x4
  have hx2 : Keeps 35782556 s x2 := by
    unfold x2
    refine Keeps.setfab (m := 35782556) _ ?_ id rfl
    exact Keeps.refl _ _
  clear_value x2
  have hx3 : Keeps 35782556 s x3 := by
    unfold x3
    refine Keeps.step ?_ (State.failReqs_keeps _ _) rfl
    assumption
  clear_value x3
  clear_value x4
  refine Keeps.each ?_ ?_
  · assumption
  · intro a5 a6 a7
    refine Keeps.step ?_ (State.settle_keeps _ _) rfl
    refine Keeps.step ?_ (State.setRow_keeps _ _ _) rfl
    assumption

theorem State.disableJob_keeps (s) : Keeps 35782556 s (State.disableJob s) := by
  unfold State.disableJob
  refine Keeps.ite ?_ ?_
  · exact Keeps.refl _ _
  · extract_lets x1
    clear_value x1
    refine Keeps.each ?_ ?_
    · exact Keeps.refl _ _
    · intro a2 a3 a4
      refine Keeps.step ?_ (State.disableOp_keeps _ _) rfl
      assumption

theorem State.haltMember_keeps (s) (z1) (z2) : Keeps 853671836 s (State.haltMember s z1 z2) := by
  unfold State.haltMember
  refine Keeps.ite ?_ ?_
  · exact Keeps.refl _ _
  · extract_lets x1 x2 x3
    have hx2 : Keeps 853671836 s x2 := by
      unfold x2
      refine Keeps.setslice (m := 853671836) _ ?_ rfl
      exact Keeps.refl _ _
    clear_value x2
    have hx3 : Keeps 853671836 s x3 := by
      unfold x3
      refine Keeps.step ?_ (State.failStiles_keeps _) rfl
      refine Keeps.step ?_ (State.attn_keeps _ _) rfl
      assumption
    clear_value x3
    refine Keeps.step ?_ (State.endOptical_keeps _) rfl
    refine Keeps.step ?_ (State.disableJob_keeps _) rfl
    refine Keeps.step ?_ (State.rotSliceHalt_keeps _ _) rfl
    assumption

theorem State.tellMember_keeps (s) (z1) (z2) : Keeps 2097156 s (State.tellMember s z1 z2) := by
  unfold State.tellMember
  refine Keeps.ite ?_ ?_
  · exact Keeps.refl _ _
  · refine Keeps.step ?_ (State.tell_keeps _ _) rfl
    exact Keeps.refl _ _

theorem State.haltSlice_keeps (s) (z1) (z2) (z3) : Keeps 870449052 s (State.haltSlice s z1 z2 z3) := by
  unfold State.haltSlice
  refine Keeps.ite ?_ ?_
  · exact Keeps.refl _ _
  · extract_lets x1 x2 x3
    have hx1 : Keeps 870449052 s x1 := by
      unfold x1
      refine Keeps.each ?_ ?_
      · exact Keeps.refl _ _
      · intro a4 a5 a6
        refine Keeps.step ?_ (State.tellMember_keeps _ _ _) rfl
        assumption
    clear_value x1
    have hx3 : Keeps 870449052 s x3 := by
      unfold x3
      refine Keeps.setmgr (m := 870449052) _ ?_ rfl
      assumption
    clear_value x3
    refine Keeps.step ?_ (State.haltMember_keeps _ _ _) rfl
    assumption

theorem State.report_keeps (s) (z1) (z2) (z3) : Keeps 870449052 s (State.report s z1 z2 z3) := by
  unfold State.report
  refine Keeps.ite ?_ ?_
  · exact Keeps.refl _ _
  · extract_lets x1 x2 x3
    clear_value x1
    have hx3 : Keeps 870449052 s x3 := by
      unfold x3
      refine Keeps.setmgr (m := 870449052) _ ?_ rfl
      exact Keeps.refl _ _
    clear_value x3
    refine Keeps.ite ?_ ?_
    · refine Keeps.step ?_ (State.haltSlice_keeps _ _ _ _) rfl
      assumption
    · refine Keeps.step ?_ (State.tell_keeps _ _) rfl
      exact Keeps.refl _ _

theorem State.downPort_keeps (s) (z1) (z2) (z3) (z4) : Keeps 870449052 s (State.downPort s z1 z2 z3 z4) := by
  unfold State.downPort
  extract_lets x1 x2 x3
  have hx2 : Keeps 870449052 s x2 := by
    unfold x2
    refine Keeps.step ?_ (State.noteRackPorts_keeps _) rfl
    refine Keeps.step ?_ (State.setPort_keeps _ _ _) rfl
    exact Keeps.refl _ _
  clear_value x2
  have hx3 : Keeps 870449052 s x3 := by
    unfold x3
    refine Keeps.step ?_ (State.dropPort_keeps _ _) rfl
    refine Keeps.step ?_ (State.raiseIf_keeps _ _ _ _) rfl
    assumption
  clear_value x3
  refine Keeps.ite ?_ ?_
  · exact Keeps.refl _ _
  · refine Keeps.ite ?_ ?_
    · refine Keeps.step ?_ (State.report_keeps _ _ _ _) rfl
      assumption
    · assumption

theorem execPortDown_keeps (z0) (s) : KeepsO 870449052 s (execPortDown z0 s) := by
  unfold execPortDown
  refine KeepsO.next ?_
  refine Keeps.step ?_ (State.downPort_keeps _ _ _ _ _) rfl
  exact Keeps.refl _ _

theorem State.leaveSlice_keeps (s) : Keeps 65142684 s (State.leaveSlice s) := by
  unfold State.leaveSlice
  split
  · rename_i y1 y2
    exact Keeps.refl _ _
  · rename_i y3 y4
    extract_lets x5 x6 x7 x8
    have hx5 : Keeps 65142684 s x5 := by
      unfold x5
      refine Keeps.ite ?_ ?_
      · refine Keeps.each ?_ ?_
        · exact Keeps.refl _ _
        · intro a9 a10 a11
          refine Keeps.step ?_ (State.tellMember_keeps _ _ _) rfl
          assumption
      · refine Keeps.ite ?_ ?_
        · refine Keeps.step ?_ (State.tellDies_keeps _ _) rfl
          exact Keeps.refl _ _
        · exact Keeps.refl _ _
    clear_value x5
    have hx8 : Keeps 65142684 s x8 := by
      unfold x8
      refine Keeps.step (m' := 25165824) (t := x5) ?_ (by constructor <;> first | exact fun b => Bool.noConfusion b | exact fun _ => rfl | exact rfl | exact Nat.le_refl _ | exact id) rfl
      assumption
    clear_value x8
    refine Keeps.step ?_ (State.refreshPorts_keeps _) rfl
    refine Keeps.step ?_ (State.failStiles_keeps _) rfl
    refine Keeps.step ?_ (State.dropRouteM_keeps _) rfl
    assumption

theorem State.resetDie_keeps (s) (z1) : Keeps 870449052 s (State.resetDie s z1) := by
  unfold State.resetDie
  refine Keeps.ite ?_ ?_
  · exact Keeps.refl _ _
  · extract_lets x1 x2 x3 x4
    have hx1 : Keeps 870449052 s x1 := by
      unfold x1
      refine Keeps.each ?_ ?_
      · exact Keeps.refl _ _
      · intro a5 a6 a7
        refine Keeps.step ?_ (State.downPort_keeps _ _ _ _ _) rfl
        assumption
    clear_value x1
    have hx3 : Keeps 870449052 s x3 := by
      unfold x3
      refine Keeps.setfab (m := 870449052) _ ?_ id rfl
      assumption
    clear_value x3
    have hx4 : Keeps 870449052 s x4 := by
      unfold x4
      refine Keeps.ite ?_ ?_
      · refine Keeps.settime (m := 870449052) _ ?_ rfl
        assumption
      · assumption
    clear_value x4
    refine Keeps.step ?_ (State.refreshPorts_keeps _) rfl
    refine Keeps.step ?_ (State.leaveSlice_keeps _) rfl
    assumption

theorem State.dieResetDone_keeps (s) (z1) : Keeps 39976860 s (State.dieResetDone s z1) := by
  unfold State.dieResetDone
  refine Keeps.step ?_ (State.refreshPorts_keeps _) rfl
  refine Keeps.setfab (m := 39976860) _ ?_ id rfl
  exact Keeps.refl _ _

theorem State.becomeMember_keeps (s) (z1) (z2) (z3) (z4) (z5) (z6) (z7) : Keeps 48365468 s (State.becomeMember s z1 z2 z3 z4 z5 z6 z7) := by
  unfold State.becomeMember
  extract_lets x1 x2
  have hx2 : Keeps 48365468 s x2 := by
    unfold x2
    refine Keeps.setslice (m := 48365468) _ ?_ rfl
    exact Keeps.refl _ _
  clear_value x2
  refine Keeps.step ?_ (State.refreshPorts_keeps _) rfl
  refine Keeps.step ?_ (State.attn_keeps _ _) rfl
  assumption

theorem State.joinAnswer_keeps (s) (z1) (z2) (z3) : Keeps 10485764 s (State.joinAnswer s z1 z2 z3) := by
  unfold State.joinAnswer
  refine Keeps.ite ?_ ?_
  · refine Keeps.setslice (m := 10485764) _ ?_ rfl
    exact Keeps.refl _ _
  · refine Keeps.step ?_ (State.tell_keeps _ _) rfl
    exact Keeps.refl _ _

theorem State.joinResume_keeps (s) : Keeps 10485764 s (State.joinResume s) := by
  unfold State.joinResume
  split
  · rename_i y1 y2 y3
    refine Keeps.ite ?_ ?_
    · refine Keeps.step ?_ (State.joinAnswer_keeps _ _ _ _) rfl
      refine Keeps.setslice (m := 10485764) _ ?_ rfl
      exact Keeps.refl _ _
    · exact Keeps.refl _ _
  · rename_i y4 y5
    exact Keeps.refl _ _

theorem execSliceJoin_keeps (z0) (z1) (s) : KeepsO 48365468 s (execSliceJoin z0 z1 s) := by
  unfold execSliceJoin
  refine KeepsO.next ?_
  refine State.onMsg_keeps _ _ _ _ _ ?_ ?_ rfl
  · exact Keeps.refl _ _
  · intro a1 a2 a3
    extract_lets x4 x5 x6 x7 x8
    clear_value x5
    clear_value x6
    refine Keeps.ite ?_ ?_
    · refine Keeps.step ?_ (State.joinAnswer_keeps _ _ _ _) rfl
      refine Keeps.step ?_ (State.becomeMember_keeps _ _ _ _ _ _ _ _) rfl
      assumption
    · refine Keeps.step ?_ (State.joinAnswer_keeps _ _ _ _) rfl
      assumption

theorem State.form_keeps (s) (z1) (z2) : Keeps 65142684 s (State.form s z1 z2) := by
  unfold State.form
  extract_lets x1 x2 x3 x4 x5 x6 x7 x8 x9
  have hx4 : Keeps 65142684 s x4 := by
    unfold x4
    refine Keeps.setmgr (m := 65142684) _ ?_ rfl
    exact Keeps.refl _ _
  clear_value x4
  have hx5 : Keeps 65142684 s x5 := by
    unfold x5
    refine Keeps.step ?_ (State.setVal_keeps _ _ _) rfl
    refine Keeps.step ?_ (State.setVal_keeps _ _ _) rfl
    assumption
  clear_value x5
  clear_value x6
  have hx7 : Keeps 65142684 s x7 := by
    unfold x7
    refine Keeps.step ?_ (State.becomeMember_keeps _ _ _ _ _ _ _ _) rfl
    assumption
  clear_value x7
  have hx9 : Keeps 65142684 s x9 := by
    unfold x9
    refine Keeps.setmgr (m := 65142684) _ ?_ rfl
    assumption
  clear_value x9
  refine Keeps.foldl ?_ ?_
  · assumption
  · intro a10 a11 a12
    refine Keeps.step ?_ (State.tell_keeps _ _) rfl
    assumption

theorem State.formFails_keeps (s) (z1) (z2) : Keeps 870449052 s (State.formFails s z1 z2) := by
  unfold State.formFails
  extract_lets x1 x2 x3 x4
  have hx2 : Keeps 870449052 s x2 := by
    unfold x2
    refine Keeps.each ?_ ?_
    · exact Keeps.refl _ _
    · intro a5 a6 a7
      refine Keeps.step ?_ (State.tellMember_keeps _ _ _) rfl
      assumption
  clear_value x2
  have hx4 : Keeps 870449052 s x4 := by
    unfold x4
    refine Keeps.setmgr (m := 870449052) _ ?_ rfl
    assumption
  clear_value x4
  refine Keeps.step ?_ (State.haltMember_keeps _ _ _) rfl
  refine Keeps.step ?_ (State.setVal_keeps _ _ _) rfl
  assumption

theorem State.checkActive_keeps (s) : Keeps 16777228 s (State.checkActive s) := by
  unfold State.checkActive
  refine Keeps.ite ?_ ?_
  · exact Keeps.refl _ _
  · refine Keeps.ite ?_ ?_
    · extract_lets x1 x2
      have hx2 : Keeps 16777228 s x2 := by
        unfold x2
        refine Keeps.setmgr (m := 16777228) _ ?_ rfl
        exact Keeps.refl _ _
      clear_value x2
      refine Keeps.step ?_ (State.attn_keeps _ _) rfl
      refine Keeps.step ?_ (State.setVal_keeps _ _ _) rfl
      assumption
    · exact Keeps.refl _ _

theorem State.formOp_keeps (s) : KeepsP 65142684 s (State.formOp s) := by
  unfold State.formOp
  split
  · rename_i y1 y2
    refine KeepsP.mk ?_
    exact Keeps.refl _ _
  · rename_i y3 y4
    refine KeepsP.mk ?_
    exact Keeps.refl _ _
  · rename_i y5 y6
    refine KeepsP.mk ?_
    refine Keeps.step ?_ (State.setVal_keeps _ _ _) rfl
    exact Keeps.refl _ _
  · rename_i y7 y8 y9 y10
    extract_lets x11 x12
    have hx12 : Keeps 65142684 s x12 := by
      unfold x12
      refine Keeps.setmgr (m := 65142684) _ ?_ rfl
      exact Keeps.refl _ _
    clear_value x12
    refine KeepsP.ite ?_ ?_
    · refine KeepsP.mk ?_
      refine Keeps.step ?_ (State.setVal_keeps _ _ _) rfl
      assumption
    · refine KeepsP.ite ?_ ?_
      · refine KeepsP.mk ?_
        refine Keeps.step ?_ (State.setVal_keeps _ _ _) rfl
        assumption
      · refine KeepsP.ite ?_ ?_
        · refine KeepsP.mk ?_
          refine Keeps.step ?_ (State.setVal_keeps _ _ _) rfl
          assumption
        · refine KeepsP.mk ?_
          refine Keeps.step ?_ (State.checkActive_keeps _) rfl
          refine Keeps.step ?_ (State.form_keeps _ _ _) rfl
          assumption

theorem execMgrCmdForm_keeps (s) : KeepsO 65142684 s (execMgrCmdForm s) := by
  unfold execMgrCmdForm
  refine KeepsO.next ?_
  refine KeepsP.fst ?_
  refine KeepsP.step ?_ (State.formOp_keeps _) rfl
  exact Keeps.refl _ _

theorem State.dissolveOp_keeps (s) : KeepsP 870449052 s (State.dissolveOp s) := by
  unfold State.dissolveOp
  split
  · rename_i y1 y2
    refine KeepsP.mk ?_
    exact Keeps.refl _ _
  · rename_i y3 y4
    refine KeepsP.mk ?_
    exact Keeps.refl _ _
  · rename_i y5 y6 y7
    refine KeepsP.mk ?_
    refine Keeps.step ?_ (State.haltSlice_keeps _ _ _ _) rfl
    exact Keeps.refl _ _

theorem execMgrCmdDissolve_keeps (s) : KeepsO 870449052 s (execMgrCmdDissolve s) := by
  unfold execMgrCmdDissolve
  refine KeepsO.next ?_
  refine KeepsP.fst ?_
  refine KeepsP.step ?_ (State.dissolveOp_keeps _) rfl
  exact Keeps.refl _ _

theorem execFormationTimeout_keeps (s) : KeepsO 870449053 s (execFormationTimeout s) := by
  unfold execFormationTimeout
  refine KeepsO.ite ?_ ?_
  · refine KeepsO.next ?_
    exact Keeps.refl _ _
  · extract_lets x1 x2 x3
    have hx1 : Keeps 870449053 s x1 := by
      unfold x1
      refine Keeps.step ?_ (State.until__keeps _ _) rfl
      exact Keeps.refl _ _
    clear_value x1
    refine KeepsO.next ?_
    refine Keeps.ite ?_ ?_
    · refine Keeps.step ?_ (State.formFails_keeps _ _ _) rfl
      assumption
    · refine Keeps.ite ?_ ?_
      · refine Keeps.step ?_ (State.formFails_keeps _ _ _) rfl
        assumption
      · refine Keeps.step ?_ (State.formFails_keeps _ _ _) rfl
        assumption

theorem State.passOver_keeps (s) (z1) : Keeps 870449052 s (State.passOver s z1) := by
  unfold State.passOver
  extract_lets x1 x2 x3
  clear_value x2
  refine Keeps.ite ?_ ?_
  · refine Keeps.step ?_ (State.formFails_keeps _ _ _) rfl
    exact Keeps.refl _ _
  · split
    · rename_i y4 y5
      refine Keeps.step ?_ (State.formFails_keeps _ _ _) rfl
      exact Keeps.refl _ _
    · rename_i y6 y7 y8
      extract_lets x9 x10 x11
      have hx9 : Keeps 870449052 s x9 := by
        unfold x9
        refine Keeps.setmgr (m := 870449052) _ ?_ rfl
        exact Keeps.refl _ _
      clear_value x9
      have hx11 : Keeps 870449052 s x11 := by
        unfold x11
        refine Keeps.step ?_ (State.tell_keeps _ _) rfl
        assumption
      clear_value x11
      refine Keeps.step ?_ (State.tell_keeps _ _) rfl
      assumption

theorem execJoinAck_keeps (z0) (z1) (s) : KeepsO 870449052 s (execJoinAck z0 z1 s) := by
  unfold execJoinAck
  refine KeepsO.next ?_
  refine State.onMsg_keeps _ _ _ _ _ ?_ ?_ rfl
  · exact Keeps.refl _ _
  · intro a1 a2 a3
    extract_lets x4 x5 x6 x7
    clear_value x4
    clear_value x5
    have hx7 : Keeps 870449052 s x7 := by
      unfold x7
      refine Keeps.setmgr (m := 870449052) _ ?_ rfl
      assumption
    clear_value x7
    refine Keeps.ite ?_ ?_
    · assumption
    · refine Keeps.ite ?_ ?_
      · refine Keeps.step ?_ (State.haltSlice_keeps _ _ _ _) rfl
        assumption
      · refine Keeps.ite ?_ ?_
        · refine Keeps.step ?_ (State.passOver_keeps _ _) rfl
          assumption
        · refine Keeps.step ?_ (State.checkActive_keeps _) rfl
          assumption

theorem execHeartbeat_keeps (z0) (z1) (s) : KeepsO 27262980 s (execHeartbeat z0 z1 s) := by
  unfold execHeartbeat
  refine KeepsO.next ?_
  refine State.onMsg_keeps _ _ _ _ _ ?_ ?_ rfl
  · exact Keeps.refl _ _
  · intro a1 a2 a3
    refine Keeps.ite ?_ ?_
    · assumption
    · extract_lets x4 x5 x6
      have hx5 : Keeps 27262980 s x5 := by
        unfold x5
        refine Keeps.ite ?_ ?_
        · refine Keeps.setslice (m := 27262980) _ ?_ rfl
          assumption
        · assumption
      clear_value x5
      refine Keeps.ite ?_ ?_
      · refine Keeps.setmgr (m := 27262980) _ ?_ rfl
        assumption
      · assumption

theorem execHeartbeatSend_keeps (s) : KeepsO 2097156 s (execHeartbeatSend s) := by
  unfold execHeartbeatSend
  refine KeepsO.ite ?_ ?_
  · refine KeepsO.next ?_
    exact Keeps.refl _ _
  · extract_lets x1
    clear_value x1
    refine KeepsO.next ?_
    refine Keeps.ite ?_ ?_
    · refine Keeps.each ?_ ?_
      · exact Keeps.refl _ _
      · intro a2 a3 a4
        refine Keeps.step ?_ (State.tellMember_keeps _ _ _) rfl
        assumption
    · refine Keeps.step ?_ (State.tellMember_keeps _ _ _) rfl
      exact Keeps.refl _ _

theorem execHeartbeatMissed_keeps (z0) (s) : KeepsO 870449053 s (execHeartbeatMissed z0 s) := by
  unfold execHeartbeatMissed
  refine KeepsO.ite ?_ ?_
  · refine KeepsO.next ?_
    exact Keeps.refl _ _
  · split
    · rename_i y1
      refine KeepsO.ite ?_ ?_
      · refine KeepsO.next ?_
        exact Keeps.refl _ _
      · refine KeepsO.next ?_
        refine Keeps.step ?_ (State.haltMember_keeps _ _ _) rfl
        refine Keeps.step ?_ (State.bumpBy_keeps _ _ _) rfl
        refine Keeps.step ?_ (State.until__keeps _ _) rfl
        exact Keeps.refl _ _
    · rename_i y2 y3
      split
      · rename_i y4 y5 y6
        refine KeepsO.ite ?_ ?_
        · refine KeepsO.next ?_
          refine Keeps.step ?_ (State.haltSlice_keeps _ _ _ _) rfl
          refine Keeps.step ?_ (State.bumpBy_keeps _ _ _) rfl
          refine Keeps.step ?_ (State.until__keeps _ _) rfl
          exact Keeps.refl _ _
        · refine KeepsO.next ?_
          exact Keeps.refl _ _
      · rename_i y7 y8
        refine KeepsO.next ?_
        exact Keeps.refl _ _

theorem execFaultReport_keeps (z0) (z1) (s) : KeepsO 870449052 s (execFaultReport z0 z1 s) := by
  unfold execFaultReport
  refine KeepsO.next ?_
  refine State.onMsg_keeps _ _ _ _ _ ?_ ?_ rfl
  · exact Keeps.refl _ _
  · intro a1 a2 a3
    refine Keeps.ite ?_ ?_
    · assumption
    · extract_lets x4 x5 x6 x7
      have hx5 : Keeps 870449052 s x5 := by
        unfold x5
        refine Keeps.setmgr (m := 870449052) _ ?_ rfl
        assumption
      clear_value x5
      clear_value x6
      clear_value x7
      refine Keeps.ite ?_ ?_
      · split
        · rename_i y8 y9 y10
          refine Keeps.ite ?_ ?_
          · refine Keeps.step ?_ (State.haltSlice_keeps _ _ _ _) rfl
            assumption
          · assumption
        · rename_i y11 y12
          assumption
      · refine Keeps.step ?_ (State.haltSlice_keeps _ _ _ _) rfl
        assumption

theorem execHaltMessage_keeps (z0) (z1) (s) : KeepsO 853671836 s (execHaltMessage z0 z1 s) := by
  unfold execHaltMessage
  refine KeepsO.next ?_
  refine State.onMsg_keeps _ _ _ _ _ ?_ ?_ rfl
  · exact Keeps.refl _ _
  · intro a1 a2 a3
    refine Keeps.ite ?_ ?_
    · refine Keeps.step ?_ (State.haltMember_keeps _ _ _) rfl
      assumption
    · assumption

theorem execMemberReset_keeps (z0) (z1) (s) : KeepsO 870449052 s (execMemberReset z0 z1 s) := by
  unfold execMemberReset
  refine KeepsO.next ?_
  refine State.onMsg_keeps _ _ _ _ _ ?_ ?_ rfl
  · exact Keeps.refl _ _
  · intro a1 a2 a3
    refine Keeps.ite ?_ ?_
    · refine Keeps.step ?_ (State.haltSlice_keeps _ _ _ _) rfl
      assumption
    · assumption

theorem execPowerLoss_keeps (z0) (z1) (s) : KeepsO 870449052 s (execPowerLoss z0 z1 s) := by
  unfold execPowerLoss
  refine KeepsO.ite ?_ ?_
  · refine KeepsO.next ?_
    exact Keeps.refl _ _
  · extract_lets x1 x2 x3 x4
    clear_value x1
    have hx2 : Keeps 870449052 s x2 := by
      unfold x2
      refine Keeps.step ?_ (State.giveBack_keeps _ _ _ _) rfl
      refine Keeps.step ?_ (State.bump_keeps _ _) rfl
      exact Keeps.refl _ _
    clear_value x2
    clear_value x3
    have hx4 : Keeps 870449052 s x4 := by
      unfold x4
      refine Keeps.ite ?_ ?_
      · assumption
      · refine Keeps.step ?_ (State.downPort_keeps _ _ _ _ _) rfl
        assumption
    clear_value x4
    refine KeepsO.ite ?_ ?_
    · refine KeepsO.next ?_
      refine Keeps.ite ?_ ?_
      · refine Keeps.step ?_ (State.haltSlice_keeps _ _ _ _) rfl
        assumption
      · assumption
    · refine KeepsO.next ?_
      refine Keeps.step ?_ (State.report_keeps _ _ _ _) rfl
      assumption

theorem State.sendPowerLoss_keeps (s) : Keeps 2097156 s (State.sendPowerLoss s) := by
  unfold State.sendPowerLoss
  extract_lets x1 x2 x3
  have hx1 : Keeps 2097156 s x1 := by
    unfold x1
    refine Keeps.each ?_ ?_
    · exact Keeps.refl _ _
    · intro a4 a5 a6
      refine Keeps.step ?_ (State.putOn_keeps _ _ _) rfl
      assumption
  clear_value x1
  clear_value x2
  clear_value x3
  refine Keeps.ite ?_ ?_
  · assumption
  · split
    · rename_i y7 y8 y9
      refine Keeps.step ?_ (State.putOn_keeps _ _ _) rfl
      assumption
    · rename_i y10 y11
      assumption

theorem State.releaseOp_keeps (s) : Keeps 48365468 s (State.releaseOp s) := by
  unfold State.releaseOp
  refine Keeps.ite ?_ ?_
  · extract_lets x1 x2
    have hx2 : Keeps 48365468 s x2 := by
      unfold x2
      refine Keeps.setslice (m := 48365468) _ ?_ rfl
      exact Keeps.refl _ _
    clear_value x2
    refine Keeps.step ?_ (State.refreshPorts_keeps _) rfl
    refine Keeps.step ?_ (State.dropRouteM_keeps _) rfl
    assumption
  · exact Keeps.refl _ _

theorem execSliceRelease_keeps (s) : KeepsO 48365468 s (execSliceRelease s) := by
  unfold execSliceRelease
  refine KeepsO.next ?_
  refine Keeps.step ?_ (State.releaseOp_keeps _) rfl
  exact Keeps.refl _ _

theorem State.restartList_keeps (s) : KeepsS 16777216 s (State.restartList s) := by
  unfold State.restartList
  extract_lets x1 x2 x3 x4
  have hx2 : Keeps 16777216 s x2 := by
    unfold x2
    refine Keeps.setmgr (m := 16777216) _ ?_ rfl
    exact Keeps.refl _ _
  clear_value x2
  refine KeepsS.ite ?_ ?_
  · split
    · rename_i y5 y6
      exact KeepsS.none
    · rename_i y7 y8 y9
      refine KeepsS.ite ?_ ?_
      · refine KeepsS.some ?_
        assumption
      · split
        · rename_i y10 y11
          exact KeepsS.none
        · rename_i y12 y13 y14
          extract_lets x15
          have hx15 : Keeps 16777216 s x15 := by
            unfold x15
            refine Keeps.setmgr (m := 16777216) _ ?_ rfl
            assumption
          clear_value x15
          refine KeepsS.ite ?_ ?_
          · exact KeepsS.none
          · refine KeepsS.some ?_
            assumption
  · refine KeepsS.ite ?_ ?_
    · refine KeepsS.ite ?_ ?_
      · exact KeepsS.none
      · split
        · rename_i y16 y17
          exact KeepsS.none
        · rename_i y18 y19 y20
          refine KeepsS.some ?_
          refine Keeps.setmgr (m := 16777216) _ ?_ rfl
          assumption
    · exact KeepsS.none

theorem State.orderSow_keeps (s) (z1) (z2) : Keeps 870449054 s (State.orderSow s z1 z2) := by
  unfold State.orderSow
  extract_lets x1 x2 x3 x4 x5 x6 x7
  have hx2 : ∀ a8, KeepsP 870449054 s a8 → Keeps 870449054 s (x2 a8) := by
    unfold x2
    intro a9 a10
    refine Keeps.ite ?_ ?_
    · refine KeepsP.fst ?_
      assumption
    · refine Keeps.step ?_ (State.haltSlice_keeps _ _ _ _) rfl
      refine KeepsP.fst ?_
      assumption
  clear_value x2
  have hx3 : Keeps 870449054 s x3 := by
    unfold x3
    refine Keeps.each ?_ ?_
    · exact Keeps.refl _ _
    · intro a11 a12 a13
      refine hx2 _ ?_
      refine KeepsP.step ?_ (State.cancelOp_keeps _ _) rfl
      assumption
  clear_value x3
  have hx4 : ∀ a14 a15 a16 a17, Keeps 870449054 s a17 → Keeps 870449054 s (x4 a14 a15 a16 a17) := by
    unfold x4
    intro a18 a19 a20 a21 a22
    refine Keeps.step ?_ (State.tell_keeps _ _) rfl
    assumption
  clear_value x4
  have hx5 : Keeps 870449054 s x5 := by
    unfold x5
    refine Keeps.each ?_ ?_
    · exact Keeps.refl _ _
    · intro a23 a24 a25
      refine hx4 _ _ _ _ ?_
      assumption
  clear_value x5
  have hx6 : Keeps 870449054 s x6 := by
    unfold x6
    refine hx4 _ _ _ _ ?_
    refine hx4 _ _ _ _ ?_
    assumption
  clear_value x6
  refine Keeps.ite ?_ ?_
  · refine Keeps.step ?_ (State.setVal_keeps _ _ _) rfl
    refine hx2 _ ?_
    refine KeepsP.step ?_ (State.rotSubmitOp_keeps _ _ _) rfl
    assumption
  · refine Keeps.setmgr (m := 870449054) _ ?_ rfl
    assumption

theorem State.orderAnswered_keeps (s) (z1) (z2) : Keeps 870449052 s (State.orderAnswered s z1 z2) := by
  unfold State.orderAnswered
  split
  · rename_i y1 y2
    exact Keeps.refl _ _
  · rename_i y3 y4 y5
    extract_lets x6 x7
    refine Keeps.ite ?_ ?_
    · refine Keeps.setmgr (m := 870449052) _ ?_ rfl
      exact Keeps.refl _ _
    · refine Keeps.step ?_ (State.haltSlice_keeps _ _ _ _) rfl
      refine Keeps.setmgr (m := 870449052) _ ?_ rfl
      exact Keeps.refl _ _

theorem execSliceRestart_keeps (z0) (s) : KeepsO 870449054 s (execSliceRestart z0 s) := by
  unfold execSliceRestart
  refine KeepsO.ite ?_ ?_
  · extract_lets x1 x2
    have hx1 : Keeps 870449054 s x1 := by
      unfold x1
      refine Keeps.each ?_ ?_
      · exact Keeps.refl _ _
      · intro a3 a4 a5
        refine Keeps.step ?_ (State.orderSow_keeps _ _ _) rfl
        assumption
    clear_value x1
    refine KeepsO.next ?_
    refine Keeps.step ?_ (State.attn_keeps _ _) rfl
    refine Keeps.setmgr (m := 870449054) _ ?_ rfl
    assumption
  · refine KeepsO.ite ?_ ?_
    · split
      · rename_i y6 y7
        refine KeepsO.next ?_
        exact Keeps.refl _ _
      · rename_i y8 y9 y10
        have h11 : Keeps 870449054 s y9 := by
          refine KeepsS.ofEq ?_ y10
          refine KeepsS.step ?_ (State.restartList_keeps _) rfl
          exact Keeps.refl _ _
        refine KeepsO.ite ?_ ?_
        · refine KeepsO.next ?_
          refine Keeps.step ?_ (State.setVal_keeps _ _ _) rfl
          refine Keeps.setmgr (m := 870449054) _ ?_ rfl
          exact Keeps.refl _ _
        · refine KeepsO.next ?_
          refine Keeps.step ?_ (State.checkActive_keeps _) rfl
          refine Keeps.step ?_ (State.form_keeps _ _ _) rfl
          assumption
    · refine KeepsO.next ?_
      exact Keeps.refl _ _

theorem execIdent_keeps (z0) (z1) (z2) (z3) (z4) (z5) (s) : KeepsO 870449052 s (execIdent z0 z1 z2 z3 z4 z5 s) := by
  unfold execIdent
  extract_lets x1 x2 x3 x4
  clear_value x2
  clear_value x3
  have hx4 : Keeps 870449052 s x4 := by
    unfold x4
    refine Keeps.step ?_ (State.setPort_keeps _ _ _) rfl
    exact Keeps.refl _ _
  clear_value x4
  refine KeepsO.ite ?_ ?_
  · refine KeepsO.next ?_
    exact Keeps.refl _ _
  · split
    · rename_i y5 y6
      refine KeepsO.next ?_
      refine Keeps.step ?_ (State.checkActive_keeps _) rfl
      refine Keeps.step ?_ (State.raiseIf_keeps _ _ _ _) rfl
      refine Keeps.step ?_ (State.noteRackPorts_keeps _) rfl
      assumption
    · rename_i y7 y8
      extract_lets x9 x10
      have hx9 : Keeps 870449052 s x9 := by
        unfold x9
        refine Keeps.step ?_ (State.setPort_keeps _ _ _) rfl
        exact Keeps.refl _ _
      clear_value x9
      have hx10 : Keeps 870449052 s x10 := by
        unfold x10
        refine Keeps.step ?_ (State.raiseIf_keeps _ _ _ _) rfl
        assumption
      clear_value x10
      refine KeepsO.ite ?_ ?_
      · refine KeepsO.next ?_
        refine Keeps.ite ?_ ?_
        · refine Keeps.step ?_ (State.report_keeps _ _ _ _) rfl
          assumption
        · assumption
      · refine KeepsO.next ?_
        refine Keeps.step ?_ (State.raiseIf_keeps _ _ _ _) rfl
        assumption

theorem State.pulse_keeps (s) : Keeps 6291460 s (State.pulse s) := by
  unfold State.pulse
  extract_lets x1 x2 x3 x4 x5 x6 x7 x8
  clear_value x1
  clear_value x2
  clear_value x3
  clear_value x4
  clear_value x5
  have hx6 : Keeps 6291460 s x6 := by
    unfold x6
    refine Keeps.ite ?_ ?_
    · exact Keeps.refl _ _
    · refine Keeps.step ?_ (State.bump_keeps _ _) rfl
      exact Keeps.refl _ _
  clear_value x6
  have hx8 : Keeps 6291460 s x8 := by
    unfold x8
    refine Keeps.settime (m := 6291460) _ ?_ rfl
    assumption
  clear_value x8
  refine Keeps.each ?_ ?_
  · assumption
  · intro a9 a10 a11
    refine Keeps.step ?_ (State.putOn_keeps _ _ _) rfl
    assumption

theorem execEpochPulse_keeps (z0) (s) : KeepsO 6291461 s (execEpochPulse z0 s) := by
  unfold execEpochPulse
  extract_lets x1
  have hx1 : Keeps 6291461 s x1 := by
    unfold x1
    refine Keeps.step ?_ (State.until__keeps _ _) rfl
    exact Keeps.refl _ _
  clear_value x1
  split
  · rename_i y2 y3 y4
    refine KeepsO.ite ?_ ?_
    · refine KeepsO.next ?_
      refine Keeps.step ?_ (State.bump_keeps _ _) rfl
      assumption
    · refine KeepsO.next ?_
      refine Keeps.step ?_ (State.pulse_keeps _) rfl
      assumption
  · rename_i y5 y6
    refine KeepsO.next ?_
    refine Keeps.step ?_ (State.pulse_keeps _) rfl
    assumption

theorem execEpochMissing_keeps (s) : KeepsO 4259845 s (execEpochMissing s) := by
  unfold execEpochMissing
  split
  · rename_i y1 y2
    refine KeepsO.next ?_
    exact Keeps.refl _ _
  · rename_i y3 y4 y5
    extract_lets x6 x7 x8 x9
    have hx6 : Keeps 4259845 s x6 := by
      unfold x6
      refine Keeps.step ?_ (State.bump_keeps _ _) rfl
      refine Keeps.step ?_ (State.until__keeps _ _) rfl
      exact Keeps.refl _ _
    clear_value x6
    clear_value x7
    have hx9 : Keeps 4259845 s x9 := by
      unfold x9
      refine Keeps.settime (m := 4259845) _ ?_ rfl
      assumption
    clear_value x9
    refine KeepsO.next ?_
    refine Keeps.step ?_ (State.raiseIf_keeps _ _ _ _) rfl
    assumption

theorem execTimeAnnounce_keeps (z0) (z1) (s) : KeepsO 6356996 s (execTimeAnnounce z0 z1 s) := by
  unfold execTimeAnnounce
  refine KeepsO.ite ?_ ?_
  · refine KeepsO.next ?_
    exact Keeps.refl _ _
  · extract_lets x1 x2 x3
    clear_value x1
    have hx2 : Keeps 6356996 s x2 := by
      unfold x2
      refine Keeps.step ?_ (State.giveBack_keeps _ _ _ _) rfl
      refine Keeps.step ?_ (State.bump_keeps _ _) rfl
      exact Keeps.refl _ _
    clear_value x2
    clear_value x3
    split
    · rename_i y4 y5
      refine KeepsO.next ?_
      assumption
    · rename_i y6 y7 y8
      extract_lets x9 x10 x11 x12 x13 x14
      have hx10 : Keeps 6356996 s x10 := by
        unfold x10
        refine Keeps.step ?_ (State.raiseIf_keeps _ _ _ _) rfl
        assumption
      clear_value x11
      have hx14 : Keeps 6356996 s x14 := by
        unfold x14
        refine Keeps.settime (m := 6356996) _ ?_ rfl
        assumption
      clear_value x14
      refine KeepsO.next ?_
      assumption

theorem execTimeAnnounceSend_keeps (s) : KeepsO 6291460 s (execTimeAnnounceSend s) := by
  unfold execTimeAnnounceSend
  refine KeepsO.ite ?_ ?_
  · refine KeepsO.next ?_
    exact Keeps.refl _ _
  · extract_lets x1 x2 x3 x4 x5 x6 x7
    clear_value x1
    clear_value x2
    clear_value x3
    have hx5 : Keeps 6291460 s x5 := by
      unfold x5
      refine Keeps.settime (m := 6291460) _ ?_ rfl
      exact Keeps.refl _ _
    clear_value x5
    clear_value x6
    have hx7 : Keeps 6291460 s x7 := by
      unfold x7
      split
      · rename_i y8 y9 y10
        refine Keeps.step ?_ (State.putOn_keeps _ _ _) rfl
        assumption
      · rename_i y11 y12
        assumption
    clear_value x7
    refine KeepsO.next ?_
    refine Keeps.each ?_ ?_
    · assumption
    · intro a13 a14 a15
      refine Keeps.step ?_ (State.putOn_keeps _ _ _) rfl
      assumption

theorem execTimeMasterTakeover_keeps (s) : KeepsO 4194305 s (execTimeMasterTakeover s) := by
  unfold execTimeMasterTakeover
  split
  · rename_i y1 y2 y3 y4 y5 y6
    refine KeepsO.ite ?_ ?_
    · refine KeepsO.next ?_
      exact Keeps.refl _ _
    · extract_lets x7 x8 x9
      clear_value x7
      have hx8 : Keeps 4194305 s x8 := by
        unfold x8
        refine Keeps.step ?_ (State.until__keeps _ _) rfl
        exact Keeps.refl _ _
      clear_value x8
      refine KeepsO.next ?_
      refine Keeps.settime (m := 4194305) _ ?_ rfl
      assumption
  · rename_i y10 y11 y12
    refine KeepsO.next ?_
    exact Keeps.refl _ _

theorem execTimeSync_keeps (z0) (z1) (s) : KeepsO 2097156 s (execTimeSync z0 z1 s) := by
  unfold execTimeSync
  refine KeepsO.ite ?_ ?_
  · refine KeepsO.next ?_
    exact Keeps.refl _ _
  · extract_lets x1 x2 x3
    clear_value x1
    have hx2 : Keeps 2097156 s x2 := by
      unfold x2
      refine Keeps.step ?_ (State.giveBack_keeps _ _ _ _) rfl
      refine Keeps.step ?_ (State.bump_keeps _ _) rfl
      exact Keeps.refl _ _
    clear_value x2
    clear_value x3
    refine KeepsO.next ?_
    refine Keeps.step ?_ (State.putOn_keeps _ _ _) rfl
    assumption

theorem execTimeEcho_keeps (z0) (z1) (s) : KeepsO 6356996 s (execTimeEcho z0 z1 s) := by
  unfold execTimeEcho
  refine KeepsO.ite ?_ ?_
  · refine KeepsO.next ?_
    exact Keeps.refl _ _
  · extract_lets x1 x2 x3 x4 x5 x6 x7 x8 x9 x10 x11 x12
    clear_value x1
    have hx2 : Keeps 6356996 s x2 := by
      unfold x2
      refine Keeps.step ?_ (State.giveBack_keeps _ _ _ _) rfl
      refine Keeps.step ?_ (State.bump_keeps _ _) rfl
      exact Keeps.refl _ _
    clear_value x2
    clear_value x3
    clear_value x4
    clear_value x5
    clear_value x6
    clear_value x7
    clear_value x8
    clear_value x9
    have hx10 : Keeps 6356996 s x10 := by
      unfold x10
      refine Keeps.step ?_ (State.raiseIf_keeps _ _ _ _) rfl
      assumption
    clear_value x10
    have hx12 : Keeps 6356996 s x12 := by
      unfold x12
      refine Keeps.settime (m := 6356996) _ ?_ rfl
      assumption
    clear_value x12
    refine KeepsO.ite ?_ ?_
    · refine KeepsO.next ?_
      refine Keeps.each ?_ ?_
      · assumption
      · intro a13 a14 a15
        refine Keeps.step ?_ (State.tell_keeps _ _) rfl
        assumption
    · refine KeepsO.next ?_
      assumption

end Sys2Proof.Machine
end

