-- ==== Sys2Proof/Laws/FootRows.lean ====
section
/-! SUPPORT. The footprints of the operations of Machine/Rows.lean. -/

namespace Sys2Proof.Machine

theorem State.feedStart_keeps (s) (z1) (z2) : Keeps 8192 s (State.feedStart s z1 z2) := by
  unfold State.feedStart
  refine Keeps.ite ?_ ?_
  · exact Keeps.refl _ _
  · extract_lets x1 x2 x3 x4
    clear_value x1
    clear_value x2
    have hx4 : Keeps 8192 s x4 := by
      unfold x4
      refine Keeps.step ?_ (State.setFeed_keeps _ _ _ _) rfl
      exact Keeps.refl _ _
    clear_value x4
    refine Keeps.ite ?_ ?_
    · refine Keeps.step ?_ (State.modXfer_keeps _ _ _ _) rfl
      exact Keeps.refl _ _
    · refine Keeps.ite ?_ ?_
      · exact Keeps.refl _ _
      · split
        · rename_i y5 y6
          assumption
        · rename_i y7 y8 y9 y10 y11 y12
          refine Keeps.ite ?_ ?_
          · assumption
          · extract_lets x13 x14
            have hx13 : Keeps 8192 s x13 := by
              unfold x13
              refine Keeps.step ?_ (State.setFeed_keeps _ _ _ _) rfl
              assumption
            clear_value x13
            clear_value x14
            refine Keeps.step ?_ (State.modXfer_keeps _ _ _ _) rfl
            assumption

theorem execFeedServed_keeps (z0) (s) : KeepsO 35782556 s (execFeedServed z0 s) := by
  unfold execFeedServed
  split
  · rename_i y1 y2
    refine KeepsO.next ?_
    exact Keeps.refl _ _
  · rename_i y3 y4 y5 y6
    split
    · rename_i y7 y8 y9 y10 y11
      refine KeepsO.ite ?_ ?_
      · refine KeepsO.next ?_
        refine Keeps.step ?_ (State.settle_keeps _ _) rfl
        refine Keeps.step ?_ (State.feedReport_keeps _ _ _ _) rfl
        exact Keeps.refl _ _
      · refine KeepsO.next ?_
        exact Keeps.refl _ _
    · rename_i y12 y13
      refine KeepsO.next ?_
      exact Keeps.refl _ _

theorem State.runAhead_keeps (s) (z1) (z2) (z3) (z4) : Keeps 94100 s (State.runAhead s z1 z2 z3 z4) := by
  unfold State.runAhead
  extract_lets x1 x2 x3 x4 x5
  clear_value x1
  clear_value x3
  have hx5 : KeepsP 94100 s x5 := by
    unfold x5
    refine KeepsP.step ?_ (aheadLoop_keeps _ _ _ _ _ _ _ _) rfl
    exact Keeps.refl _ _
  clear_value x5
  refine Keeps.step ?_ (State.modXfer_keeps _ _ _ _) rfl
  refine KeepsP.fst ?_
  assumption

theorem State.aheadAt_keeps (s) (z1) (z2) (z3) (z4) : KeepsP 94100 s (State.aheadAt s z1 z2 z3 z4) := by
  unfold State.aheadAt
  extract_lets x1
  have hx1 : Keeps 94100 s x1 := by
    unfold x1
    refine Keeps.step ?_ (State.runAhead_keeps _ _ _ _ _) rfl
    exact Keeps.refl _ _
  clear_value x1
  split
  · rename_i y2 y3
    refine KeepsP.mk ?_
    assumption
  · rename_i y4 y5 y6
    split
    · rename_i y7 y8 y9
      refine KeepsP.mk ?_
      assumption
    · rename_i y10 y11
      split
      · rename_i y12 y13 y14
        refine KeepsP.mk ?_
        assumption
      · rename_i y15 y16
        refine KeepsP.ite ?_ ?_
        · refine KeepsP.mk ?_
          assumption
        · refine KeepsP.mk ?_
          refine Keeps.step ?_ (State.bump_keeps _ _) rfl
          refine Keeps.step ?_ (State.modXfer_keeps _ _ _ _) rfl
          assumption

theorem State.senderDie_keeps (s) (z1) (z2) : Keeps 8192 s (State.senderDie s z1 z2) := by
  unfold State.senderDie
  split
  · rename_i y1 y2 y3
    refine Keeps.step ?_ (State.modXfer_keeps _ _ _ _) rfl
    exact Keeps.refl _ _
  · rename_i y4 y5
    exact Keeps.refl _ _

theorem State.addPiece_keeps (s) (z1) (z2) (z3) (z4) (z5) : Keeps 8196 s (State.addPiece s z1 z2 z3 z4 z5) := by
  unfold State.addPiece
  extract_lets x1 x2
  clear_value x2
  refine Keeps.step ?_ (State.noteHopper_keeps _) rfl
  refine Keeps.step ?_ (State.modXfer_keeps _ _ _ _) rfl
  exact Keeps.refl _ _

theorem State.endSource_keeps (s) (z1) (z2) (z3) (z4) : Keeps 8192 s (State.endSource s z1 z2 z3 z4) := by
  unfold State.endSource
  refine Keeps.step ?_ (State.modXfer_keeps _ _ _ _) rfl
  exact Keeps.refl _ _

theorem State.readLocal_keeps (s) (z1) (z2) (z3) (z4) : KeepsP 33616004 s (State.readLocal s z1 z2 z3 z4) := by
  unfold State.readLocal
  extract_lets x1
  have hx1 : ∀ a2 a3, Keeps 33616004 s a2 → KeepsP 33616004 s (x1 a2 a3) := by
    unfold x1
    intro a4 a5 a6
    extract_lets x7 x8
    have hx7 : KeepsP 33616004 s x7 := by
      unfold x7
      refine KeepsP.step ?_ (State.takeHopper_keeps _ _ _) rfl
      assumption
    clear_value x7
    have hx8 : KeepsP 33616004 s x8 := by
      unfold x8
      refine KeepsP.step ?_ (State.getMarked_keeps _ _ _) rfl
      refine KeepsP.fst ?_
      assumption
    clear_value x8
    refine KeepsP.ite ?_ ?_
    · refine KeepsP.mk ?_
      refine KeepsP.fst ?_
      assumption
    · refine KeepsP.mk ?_
      refine Keeps.step ?_ (State.bumpBy_keeps _ _ _) rfl
      refine Keeps.step ?_ (State.addPiece_keeps _ _ _ _ _ _) rfl
      refine KeepsP.fst ?_
      assumption
  clear_value x1
  split
  · rename_i y9 y10
    extract_lets x11 x12
    clear_value x11
    have hx12 : KeepsP 33616004 s x12 := by
      unfold x12
      refine KeepsP.step ?_ (State.cohAccess_keeps _ _ _ _) rfl
      exact Keeps.refl _ _
    clear_value x12
    refine KeepsP.ite ?_ ?_
    · refine hx1 _ _ ?_
      refine KeepsP.fst ?_
      assumption
    · refine KeepsP.mk ?_
      refine KeepsP.fst ?_
      assumption
  · rename_i y13 y14 y15
    extract_lets x16
    have hx16 : KeepsP 33616004 s x16 := by
      unfold x16
      refine KeepsP.step ?_ (State.reachTilth_keeps _ _) rfl
      exact Keeps.refl _ _
    clear_value x16
    split
    · rename_i y17 y18
      refine KeepsP.mk ?_
      refine Keeps.step ?_ (State.endSource_keeps _ _ _ _ _) rfl
      refine KeepsP.fst ?_
      assumption
    · rename_i y19 y20
      refine KeepsP.mk ?_
      refine KeepsP.fst ?_
      assumption
    · rename_i y21 y22
      refine hx1 _ _ ?_
      refine KeepsP.fst ?_
      assumption
  · rename_i y23 y24
    refine KeepsP.mk ?_
    exact Keeps.refl _ _

theorem State.readHost_keeps (s) (z1) (z2) (z3) (z4) (z5) : KeepsP 74132 s (State.readHost s z1 z2 z3 z4 z5) := by
  unfold State.readHost
  extract_lets x1 x2 x3
  clear_value x1
  have hx3 : KeepsP 74132 s x3 := by
    unfold x3
    refine KeepsP.step ?_ (State.takeHopper_keeps _ _ _) rfl
    exact Keeps.refl _ _
  clear_value x3
  refine KeepsP.ite ?_ ?_
  · refine KeepsP.mk ?_
    refine Keeps.step ?_ (State.setRow_keeps _ _ _) rfl
    exact Keeps.refl _ _
  · refine KeepsP.ite ?_ ?_
    · refine KeepsP.mk ?_
      refine KeepsP.fst ?_
      assumption
    · split
      · rename_i y4 y5
        refine KeepsP.mk ?_
        refine KeepsP.fst ?_
        assumption
      · rename_i y6 y7 y8
        have h9 : KeepsN 74132 s y7 := by
          refine KeepsR.ofEq1 ?_ y8
          refine KeepsR.step ?_ (State.request_keeps _ _ _) rfl
          refine KeepsP.fst ?_
          assumption
        refine KeepsP.mk ?_
        refine Keeps.step ?_ (State.bumpBy_keeps _ _ _) rfl
        refine Keeps.step ?_ (State.addPiece_keeps _ _ _ _ _ _) rfl
        refine Keeps.step ?_ (State.setTag_keeps _ _ _) rfl
        refine KeepsN.snd ?_
        assumption

theorem State.readNext_keeps (s) (z1) (z2) : KeepsP 304218004 s (State.readNext s z1 z2) := by
  unfold State.readNext
  extract_lets x1 x2 x3 x4 x5 x6 x7 x8 x9 x10 x11 x12 x13 x14 x15 x16 x17
  clear_value x1
  clear_value x2
  clear_value x3
  clear_value x4
  have hx5 : KeepsP 304218004 s x5 := by
    unfold x5
    refine KeepsP.step ?_ (State.takeHopper_keeps _ _ _) rfl
    exact Keeps.refl _ _
  clear_value x5
  clear_value x7
  clear_value x8
  have hx9 : KeepsP 304218004 s x9 := by
    unfold x9
    refine KeepsP.step ?_ (State.takeHopper_keeps _ _ _) rfl
    exact Keeps.refl _ _
  clear_value x9
  clear_value x10
  have hx11 : KeepsP 304218004 s x11 := by
    unfold x11
    refine KeepsP.step ?_ (State.fabRequest_keeps _ _ _ _) rfl
    refine KeepsP.fst ?_
    assumption
  clear_value x11
  clear_value x12
  clear_value x13
  clear_value x14
  have hx15 : KeepsP 304218004 s x15 := by
    unfold x15
    refine KeepsP.step ?_ (State.takeHopper_keeps _ _ _) rfl
    exact Keeps.refl _ _
  clear_value x15
  clear_value x16
  have hx17 : KeepsP 304218004 s x17 := by
    unfold x17
    refine KeepsP.step ?_ (State.aheadAt_keeps _ _ _ _ _) rfl
    exact Keeps.refl _ _
  clear_value x17
  refine KeepsP.ite ?_ ?_
  · refine KeepsP.mk ?_
    exact Keeps.refl _ _
  · split
    · rename_i y18 y19
      refine KeepsP.ite ?_ ?_
      · refine KeepsP.mk ?_
        refine KeepsP.fst ?_
        assumption
      · refine KeepsP.mk ?_
        refine Keeps.step ?_ (State.addPiece_keeps _ _ _ _ _ _) rfl
        refine KeepsP.fst ?_
        assumption
    · rename_i y20 y21
      refine KeepsP.ite ?_ ?_
      · refine KeepsP.mk ?_
        refine KeepsP.fst ?_
        assumption
      · refine KeepsP.ite ?_ ?_
        · refine KeepsP.mk ?_
          refine Keeps.step ?_ (State.bumpBy_keeps _ _ _) rfl
          refine Keeps.step ?_ (State.addPiece_keeps _ _ _ _ _ _) rfl
          refine KeepsP.fst ?_
          assumption
        · refine KeepsP.mk ?_
          refine Keeps.step ?_ (State.endSource_keeps _ _ _ _ _) rfl
          refine KeepsP.fst ?_
          assumption
    · rename_i y22 y23
      split
      · rename_i y24 y25 y26
        refine KeepsP.mk ?_
        refine Keeps.step ?_ (State.endSource_keeps _ _ _ _ _) rfl
        exact Keeps.refl _ _
      · rename_i y27 y28
        refine KeepsP.mk ?_
        exact Keeps.refl _ _
      · rename_i y29 y30
        refine KeepsP.ite ?_ ?_
        · refine KeepsP.mk ?_
          refine KeepsP.fst ?_
          assumption
        · refine KeepsP.mk ?_
          refine Keeps.step ?_ (State.noteLotRead_keeps _ _ _) rfl
          refine Keeps.step ?_ (State.bumpBy_keeps _ _ _) rfl
          refine Keeps.step ?_ (State.addPiece_keeps _ _ _ _ _ _) rfl
          refine KeepsP.fst ?_
          assumption
    · rename_i y31 y32 y33 y34
      split
      · rename_i y35 y36 y37 y38
        refine KeepsP.mk ?_
        refine Keeps.step ?_ (State.endSource_keeps _ _ _ _ _) rfl
        refine KeepsP.fst ?_
        assumption
      · rename_i y39 y40
        refine KeepsP.mk ?_
        refine KeepsP.fst ?_
        assumption
      · rename_i y41 y42 y43 y44
        extract_lets x45 x46 x47
        clear_value x45
        have hx46 : KeepsP 304218004 s x46 := by
          unfold x46
          split
          · rename_i y48 y49
            refine KeepsP.step ?_ (State.readHost_keeps _ _ _ _ _ _) rfl
            refine KeepsP.fst ?_
            assumption
          · rename_i y50 y51
            refine KeepsP.step ?_ (State.readLocal_keeps _ _ _ _ _) rfl
            refine KeepsP.fst ?_
            assumption
        clear_value x46
        clear_value x47
        refine KeepsP.ite ?_ ?_
        · refine KeepsP.mk ?_
          refine Keeps.step ?_ (State.listHot_keeps _) rfl
          refine Keeps.step ?_ (State.countAccess_keeps _ _ _ _) rfl
          refine KeepsP.fst ?_
          assumption
        · assumption

theorem State.coulterRow_keeps (s) (z1) : KeepsP 304218012 s (State.coulterRow s z1) := by
  unfold State.coulterRow
  extract_lets x1
  refine KeepsP.ite ?_ ?_
  · refine KeepsP.mk ?_
    exact Keeps.refl _ _
  · split
    · rename_i y2 y3
      refine KeepsP.mk ?_
      exact Keeps.refl _ _
    · rename_i y4 y5 y6
      refine KeepsP.ite ?_ ?_
      · refine KeepsP.mk ?_
        exact Keeps.refl _ _
      · extract_lets x7
        have hx7 : Keeps 304218012 s x7 := by
          unfold x7
          refine Keeps.step ?_ (State.senderDie_keeps _ _ _) rfl
          refine Keeps.step ?_ (State.feedStart_keeps _ _ _) rfl
          exact Keeps.refl _ _
        clear_value x7
        split
        · rename_i y8 y9
          refine KeepsP.mk ?_
          assumption
        · rename_i y10 y11 y12
          refine KeepsP.ite ?_ ?_
          · refine KeepsP.mk ?_
            refine Keeps.step ?_ (State.settle_keeps _ _) rfl
            assumption
          · extract_lets x13
            have hx13 : KeepsP 304218012 s x13 := by
              unfold x13
              refine KeepsP.step ?_ (State.readNext_keeps _ _ _) rfl
              assumption
            clear_value x13
            refine KeepsP.ite ?_ ?_
            · refine KeepsP.mk ?_
              refine Keeps.step ?_ (State.settle_keeps _ _) rfl
              refine KeepsP.fst ?_
              assumption
            · assumption

theorem firstTurn_keeps {m : Nat} {s0 : State} (l : List Nat) (s : State) (f : State → Nat → State × Bool)
    (h : Keeps m s0 s) (hf : ∀ t r, Keeps m s0 t → KeepsP m s0 (f t r)) (e : 0 &&& m = 0) : KeepsP m s0 (firstTurn l s f) := by
  induction l generalizing s with
  | nil => exact h
  | cons r l ih => exact KeepsP.ite (hf s r h) (ih _ (hf s r h))

theorem execCoulterIssue_keeps (s) : KeepsO 304218012 s (execCoulterIssue s) := by
  unfold execCoulterIssue
  refine KeepsO.ite ?_ ?_
  · refine KeepsO.next ?_
    exact Keeps.refl _ _
  · extract_lets x1 x2 x3
    have hx1 : KeepsP 304218012 s x1 := by
      unfold x1
      refine firstTurn_keeps _ _ _ ?_ ?_ rfl
      · exact Keeps.refl _ _
      · intro a4 a5 a6
        refine KeepsP.step ?_ (State.coulterRow_keeps _ _) rfl
        assumption
    clear_value x1
    have hx2 : Keeps 304218012 s x2 := by
      unfold x2
      refine KeepsP.fst ?_
      assumption
    split
    · rename_i y7 y8 y9
      refine KeepsO.next ?_
      refine Keeps.setdrill (m := 304218012) _ ?_ id id rfl
      assumption
    · rename_i y10 y11
      refine KeepsO.next ?_
      refine KeepsP.fst ?_
      assumption

theorem State.harrowRow_keeps (s) (z1) : KeepsP 8196 s (State.harrowRow s z1) := by
  unfold State.harrowRow
  extract_lets x1
  refine KeepsP.ite ?_ ?_
  · refine KeepsP.mk ?_
    exact Keeps.refl _ _
  · split
    · rename_i y2 y3
      refine KeepsP.mk ?_
      exact Keeps.refl _ _
    · rename_i y4 y5 y6
      refine KeepsP.ite ?_ ?_
      · refine KeepsP.mk ?_
        exact Keeps.refl _ _
      · extract_lets x7 x8 x9 x10
        clear_value x7
        clear_value x9
        refine KeepsP.ite ?_ ?_
        · refine KeepsP.ite ?_ ?_
          · refine KeepsP.mk ?_
            refine Keeps.step ?_ (State.modXfer_keeps _ _ _ _) rfl
            exact Keeps.refl _ _
          · refine KeepsP.mk ?_
            exact Keeps.refl _ _
        · refine KeepsP.mk ?_
          refine Keeps.step ?_ (State.bumpBy_keeps _ _ _) rfl
          refine Keeps.step ?_ (State.modXfer_keeps _ _ _ _) rfl
          exact Keeps.refl _ _

theorem execHarrowGrant_keeps (s) : KeepsO 35782556 s (execHarrowGrant s) := by
  unfold execHarrowGrant
  extract_lets x1 x2 x3 x4
  have hx2 : KeepsP 35782556 s x2 := by
    unfold x2
    refine firstTurn_keeps _ _ _ ?_ ?_ rfl
    · exact Keeps.refl _ _
    · intro a5 a6 a7
      refine KeepsP.step ?_ (State.harrowRow_keeps _ _) rfl
      assumption
  clear_value x2
  have hx3 : Keeps 35782556 s x3 := by
    unfold x3
    refine KeepsP.fst ?_
    assumption
  split
  · rename_i y8 y9 y10
    refine KeepsO.next ?_
    refine Keeps.step ?_ (State.settle_keeps _ _) rfl
    refine Keeps.setdrill (m := 35782556) _ ?_ id id rfl
    assumption
  · rename_i y11 y12
    refine KeepsO.next ?_
    refine KeepsP.fst ?_
    assumption

theorem State.pullReady_keeps (s) (z1) (z2) : Keeps 8192 s (State.pullReady s z1 z2) := by
  unfold State.pullReady
  refine Keeps.ite ?_ ?_
  · exact Keeps.refl _ _
  · extract_lets x1
    refine Keeps.ite ?_ ?_
    · exact Keeps.refl _ _
    · refine Keeps.step ?_ (State.modXfer_keeps _ _ _ _) rfl
      exact Keeps.refl _ _

theorem State.pressed_keeps (s) (z1) (z2) (z3) (z4) : Keeps 33685404 s (State.pressed s z1 z2 z3 z4) := by
  unfold State.pressed
  extract_lets x1 x2 x3 x4
  have hx1 : Keeps 33685404 s x1 := by
    unfold x1
    refine Keeps.step ?_ (State.modXfer_keeps _ _ _ _) rfl
    exact Keeps.refl _ _
  clear_value x1
  have hx2 : Keeps 33685404 s x2 := by
    unfold x2
    refine Keeps.step ?_ (State.bumpBy_keeps _ _ _) rfl
    assumption
  clear_value x2
  clear_value x4
  refine Keeps.step ?_ (State.rowHalves_keeps _ _) rfl
  refine Keeps.step ?_ (State.setRow_keeps _ _ _) rfl
  assumption

theorem State.pressTo_keeps (s) (z1) (z2) (z3) (z4) : KeepsP 33681812 s (State.pressTo s z1 z2 z3 z4) := by
  unfold State.pressTo
  split
  · rename_i y1 y2
    refine KeepsP.ite ?_ ?_
    · refine KeepsP.mk ?_
      exact Keeps.refl _ _
    · refine KeepsP.mk ?_
      refine Keeps.step ?_ (hostPieces_keeps _ _ _ _ _ _ _ _) rfl
      exact Keeps.refl _ _
  · rename_i y3 y4
    extract_lets x5
    have hx5 : KeepsP 33681812 s x5 := by
      unfold x5
      refine KeepsP.step ?_ (State.cohAccess_keeps _ _ _ _) rfl
      exact Keeps.refl _ _
    clear_value x5
    refine KeepsP.ite ?_ ?_
    · refine KeepsP.mk ?_
      refine Keeps.step ?_ (State.putMarked_keeps _ _ _) rfl
      refine KeepsP.fst ?_
      assumption
    · refine KeepsP.mk ?_
      refine KeepsP.fst ?_
      assumption
  · rename_i y6 y7 y8
    extract_lets x9
    have hx9 : KeepsP 33681812 s x9 := by
      unfold x9
      refine KeepsP.step ?_ (State.reachTilth_keeps _ _) rfl
      exact Keeps.refl _ _
    clear_value x9
    split
    · rename_i y10 y11
      refine KeepsP.mk ?_
      refine Keeps.step ?_ (State.putMarked_keeps _ _ _) rfl
      refine KeepsP.fst ?_
      assumption
    · rename_i y12 y13
      refine KeepsP.mk ?_
      refine KeepsP.fst ?_
      assumption
    · rename_i y14 y15
      refine KeepsP.mk ?_
      refine Keeps.step ?_ (State.modXfer_keeps _ _ _ _) rfl
      refine KeepsP.fst ?_
      assumption

theorem State.hazardWait_keeps (s) (z1) (z2) (z3) (z4) : KeepsP 8196 s (State.hazardWait s z1 z2 z3 z4) := by
  unfold State.hazardWait
  split
  · rename_i y1 y2
    refine KeepsP.mk ?_
    exact Keeps.refl _ _
  · rename_i y3 y4 y5
    refine KeepsP.ite ?_ ?_
    · refine KeepsP.mk ?_
      refine Keeps.step ?_ (State.modXfer_keeps _ _ _ _) rfl
      exact Keeps.refl _ _
    · refine KeepsP.ite ?_ ?_
      · refine KeepsP.mk ?_
        exact Keeps.refl _ _
      · refine KeepsP.mk ?_
        refine Keeps.step ?_ (State.bump_keeps _ _) rfl
        refine Keeps.step ?_ (State.modXfer_keeps _ _ _ _) rfl
        exact Keeps.refl _ _

theorem State.writeNext_keeps (s) (z1) (z2) : KeepsP 304218012 s (State.writeNext s z1 z2) := by
  unfold State.writeNext
  extract_lets x1 x2 x3 x4 x5 x6 x7 x8 x9 x10 x11 x12 x13 x14
  clear_value x1
  clear_value x2
  clear_value x3
  clear_value x4
  clear_value x5
  clear_value x8
  have hx9 : KeepsP 304218012 s x9 := by
    unfold x9
    refine KeepsP.step ?_ (State.fabRequest_keeps _ _ _ _) rfl
    exact Keeps.refl _ _
  clear_value x9
  clear_value x10
  clear_value x11
  have hx12 : KeepsP 304218012 s x12 := by
    unfold x12
    refine KeepsP.step ?_ (State.draftWrite_keeps _ _ _ _) rfl
    exact Keeps.refl _ _
  clear_value x12
  clear_value x13
  have hx14 : KeepsP 304218012 s x14 := by
    unfold x14
    refine KeepsP.step ?_ (State.aheadAt_keeps _ _ _ _ _) rfl
    exact Keeps.refl _ _
  clear_value x14
  refine KeepsP.ite ?_ ?_
  · refine KeepsP.mk ?_
    exact Keeps.refl _ _
  · split
    · rename_i y15 y16
      refine KeepsP.ite ?_ ?_
      · refine KeepsP.mk ?_
        refine Keeps.step ?_ (State.pressed_keeps _ _ _ _ _) rfl
        refine KeepsP.fst ?_
        assumption
      · refine KeepsP.mk ?_
        refine Keeps.step ?_ (State.modXfer_keeps _ _ _ _) rfl
        refine KeepsP.fst ?_
        assumption
    · rename_i y17 y18
      refine KeepsP.ite ?_ ?_
      · refine KeepsP.ite ?_ ?_
        · refine KeepsP.mk ?_
          refine Keeps.step ?_ (State.modXfer_keeps _ _ _ _) rfl
          exact Keeps.refl _ _
        · refine KeepsP.mk ?_
          exact Keeps.refl _ _
      · split
        · rename_i y19 y20 y21
          refine KeepsP.mk ?_
          refine Keeps.step ?_ (State.modXfer_keeps _ _ _ _) rfl
          exact Keeps.refl _ _
        · rename_i y22 y23
          refine KeepsP.mk ?_
          exact Keeps.refl _ _
        · rename_i y24 y25
          refine KeepsP.ite ?_ ?_
          · refine KeepsP.mk ?_
            refine Keeps.step ?_ (State.pressed_keeps _ _ _ _ _) rfl
            refine KeepsP.fst ?_
            assumption
          · refine KeepsP.mk ?_
            refine Keeps.step ?_ (State.modXfer_keeps _ _ _ _) rfl
            refine KeepsP.fst ?_
            assumption
    · rename_i y26 y27 y28
      split
      · rename_i y29 y30 y31 y32
        refine KeepsP.mk ?_
        refine Keeps.step ?_ (State.modXfer_keeps _ _ _ _) rfl
        refine KeepsP.fst ?_
        assumption
      · rename_i y33 y34
        refine KeepsP.mk ?_
        refine KeepsP.fst ?_
        assumption
      · rename_i y35 y36 y37 y38
        extract_lets x39 x40 x41
        clear_value x39
        have hx40 : KeepsP 304218012 s x40 := by
          unfold x40
          refine KeepsP.step ?_ (State.hazardWait_keeps _ _ _ _ _) rfl
          refine KeepsP.fst ?_
          assumption
        clear_value x40
        have hx41 : KeepsP 304218012 s x41 := by
          unfold x41
          refine KeepsP.step ?_ (State.pressTo_keeps _ _ _ _ _) rfl
          refine KeepsP.fst ?_
          assumption
        clear_value x41
        refine KeepsP.ite ?_ ?_
        · refine KeepsP.mk ?_
          refine KeepsP.fst ?_
          assumption
        · split
          · rename_i y42 y43
            refine KeepsP.mk ?_
            refine KeepsP.fst ?_
            assumption
          · rename_i y44 y45
            refine KeepsP.mk ?_
            refine KeepsP.fst ?_
            assumption
          · rename_i y46 y47 y48 y49
            extract_lets x50 x51 x52
            clear_value x50
            have hx51 : Keeps 304218012 s x51 := by
              unfold x51
              refine Keeps.step ?_ (State.pressed_keeps _ _ _ _ _) rfl
              refine KeepsP.fst ?_
              assumption
            clear_value x51
            have hx52 : Keeps 304218012 s x52 := by
              unfold x52
              refine Keeps.ite ?_ ?_
              · refine Keeps.step ?_ (State.listHot_keeps _) rfl
                refine Keeps.step ?_ (State.countAccess_keeps _ _ _ _) rfl
                refine Keeps.step ?_ (State.noteOverlay_keeps _ _ _ _) rfl
                assumption
              · assumption
            clear_value x52
            refine KeepsP.mk ?_
            assumption

theorem State.frontMoves_keeps (s) (z1) : KeepsQ 35782556 s (State.frontMoves s z1) := by
  unfold State.frontMoves
  split
  · rename_i y1 y2 y3 y4
    refine KeepsQ.ite ?_ ?_
    · extract_lets x5
      have hx5 : Keeps 35782556 s x5 := by
        unfold x5
        refine Keeps.step ?_ (State.settle_keeps _ _) rfl
        exact Keeps.refl _ _
      clear_value x5
      split
      · rename_i y6 y7 y8 y9
        refine KeepsQ.some ?_
        refine KeepsP.mk ?_
        assumption
      · rename_i y10 y11
        refine KeepsQ.some ?_
        refine KeepsP.mk ?_
        assumption
    · exact KeepsQ.none
  · rename_i y12 y13
    exact KeepsQ.none

theorem State.pressRow_keeps (s) (z1) : KeepsP 304218012 s (State.pressRow s z1) := by
  unfold State.pressRow
  extract_lets x1 x2
  have hx2 : Keeps 304218012 s x2 := by
    unfold x2
    refine Keeps.step ?_ (State.stopDrained_keeps _ _) rfl
    exact Keeps.refl _ _
  clear_value x2
  refine KeepsP.ite ?_ ?_
  · refine KeepsP.mk ?_
    assumption
  · refine KeepsP.ite ?_ ?_
    · refine KeepsP.mk ?_
      exact Keeps.refl _ _
    · split
      · rename_i y3 y4 y5
        have h6 : KeepsP 304218012 s y4 := by
          refine KeepsQ.ofEq1 ?_ y5
          refine KeepsQ.step ?_ (State.frontMoves_keeps _ _) rfl
          exact Keeps.refl _ _
        assumption
      · rename_i y7 y8
        split
        · rename_i y9 y10
          refine KeepsP.mk ?_
          exact Keeps.refl _ _
        · rename_i y11 y12 y13
          refine KeepsP.ite ?_ ?_
          · refine KeepsP.mk ?_
            exact Keeps.refl _ _
          · extract_lets x14 x15 x16
            have hx14 : Keeps 304218012 s x14 := by
              unfold x14
              refine Keeps.step ?_ (State.feedStart_keeps _ _ _) rfl
              exact Keeps.refl _ _
            clear_value x14
            have hx15 : Keeps 304218012 s x15 := by
              unfold x15
              refine Keeps.step ?_ (State.pullReady_keeps _ _ _) rfl
              assumption
            clear_value x15
            have hx16 : KeepsP 304218012 s x16 := by
              unfold x16
              refine KeepsP.step ?_ (State.judge_keeps _ _ _) rfl
              assumption
            clear_value x16
            split
            · rename_i y17 y18
              refine KeepsP.mk ?_
              assumption
            · rename_i y19 y20 y21
              refine KeepsP.ite ?_ ?_
              · refine KeepsP.mk ?_
                refine Keeps.step ?_ (State.settle_keeps _ _) rfl
                assumption
              · refine KeepsP.ite ?_ ?_
                · refine KeepsP.mk ?_
                  assumption
                · refine KeepsP.ite ?_ ?_
                  · refine KeepsP.mk ?_
                    refine KeepsP.fst ?_
                    assumption
                  · split
                    · rename_i y22 y23
                      refine KeepsP.mk ?_
                      refine KeepsP.fst ?_
                      assumption
                    · rename_i y24 y25 y26
                      refine KeepsP.ite ?_ ?_
                      · refine KeepsP.mk ?_
                        refine Keeps.step ?_ (State.settle_keeps _ _) rfl
                        refine KeepsP.fst ?_
                        assumption
                      · extract_lets x27
                        have hx27 : KeepsP 304218012 s x27 := by
                          unfold x27
                          refine KeepsP.step ?_ (State.writeNext_keeps _ _ _) rfl
                          refine KeepsP.fst ?_
                          assumption
                        clear_value x27
                        refine KeepsP.ite ?_ ?_
                        · refine KeepsP.mk ?_
                          refine Keeps.step ?_ (State.settle_keeps _ _) rfl
                          refine KeepsP.fst ?_
                          assumption
                        · assumption

theorem execPressWrite_keeps (s) : KeepsO 304218012 s (execPressWrite s) := by
  unfold execPressWrite
  extract_lets x1 x2 x3
  have hx1 : KeepsP 304218012 s x1 := by
    unfold x1
    refine firstTurn_keeps _ _ _ ?_ ?_ rfl
    · exact Keeps.refl _ _
    · intro a4 a5 a6
      refine KeepsP.step ?_ (State.pressRow_keeps _ _) rfl
      assumption
  clear_value x1
  have hx2 : Keeps 304218012 s x2 := by
    unfold x2
    refine KeepsP.fst ?_
    assumption
  split
  · rename_i y7 y8 y9
    refine KeepsO.next ?_
    refine Keeps.setdrill (m := 304218012) _ ?_ id id rfl
    assumption
  · rename_i y10 y11
    refine KeepsO.next ?_
    refine KeepsP.fst ?_
    assumption

end Sys2Proof.Machine
end

