-- ==== Sys2Proof/Laws/FootPlot.lean ====
section
/-! SUPPORT. The footprints of the operations of Machine/Plot.lean. -/

namespace Sys2Proof.Machine

theorem State.setIdx_keeps (s) (z1) (z2) (z3) : Keeps 16384 s (State.setIdx s z1 z2 z3) := by
  unfold State.setIdx
  refine Keeps.ite ?_ ?_
  · refine Keeps.step ?_ (State.failPlot_keeps _ _ _) rfl
    exact Keeps.refl _ _
  · refine Keeps.step ?_ (State.modPlot_keeps _ _ _ (by first | exact fun _ h => h | exact fun _ _ => ⟨rfl, rfl⟩ | (intro x h; dsimp only; split <;> exact h) | (intro x h; split <;> exact h) | (intro x h; beta_reduce; split <;> exact h))) rfl
    exact Keeps.refl _ _

theorem reachAll_keeps (z0) (s) (z2) : KeepsP 20484 s (reachAll z0 s z2) := by
  induction z0 generalizing s z2 with
  | nil =>
    unfold reachAll
    refine KeepsP.mk ?_
    exact Keeps.refl _ _
  | cons x l ih =>
    unfold reachAll
    extract_lets x1
    have hx1 : KeepsP 20484 s x1 := by
      unfold x1
      refine KeepsP.step ?_ (State.reachOne_keeps _ _ _ _) rfl
      exact Keeps.refl _ _
    clear_value x1
    split
    · rename_i y2 y3 y4
      refine KeepsP.mk ?_
      refine KeepsP.fst ?_
      assumption
    · rename_i y5 y6
      refine KeepsP.ite ?_ ?_
      · refine KeepsP.mk ?_
        refine KeepsP.fst ?_
        assumption
      · refine KeepsP.step ?_ (ih _ _) rfl
        refine KeepsP.fst ?_
        assumption

theorem State.keepXlat_keeps (s) (z1) (z2) : Keeps 16384 s (State.keepXlat s z1 z2) := by
  unfold State.keepXlat
  refine Keeps.step ?_ (State.modPlot_keeps _ _ _ (by first | exact fun _ h => h | exact fun _ _ => ⟨rfl, rfl⟩ | (intro x h; dsimp only; split <;> exact h) | (intro x h; split <;> exact h) | (intro x h; beta_reduce; split <;> exact h))) rfl
  exact Keeps.refl _ _

theorem State.plotWaits_keeps (s) (z1) (z2) : Keeps 16388 s (State.plotWaits s z1 z2) := by
  unfold State.plotWaits
  refine Keeps.ite ?_ ?_
  · exact Keeps.refl _ _
  · refine Keeps.step ?_ (State.bump_keeps _ _) rfl
    refine Keeps.step ?_ (State.modPlot_keeps _ _ _ (by first | exact fun _ h => h | exact fun _ _ => ⟨rfl, rfl⟩ | (intro x h; dsimp only; split <;> exact h) | (intro x h; split <;> exact h) | (intro x h; beta_reduce; split <;> exact h))) rfl
    exact Keeps.refl _ _

theorem State.plotLookup_keeps (s) (z1) (z2) (z3) : KeepsP 94100 s (State.plotLookup s z1 z2 z3) := by
  unfold State.plotLookup
  extract_lets x1 x2 x3
  clear_value x2
  have hx3 : KeepsP 94100 s x3 := by
    unfold x3
    refine KeepsP.step ?_ (State.resolveAt_keeps _ _ _ _ _ _) rfl
    exact Keeps.refl _ _
  clear_value x3
  split
  · rename_i y4 y5
    refine KeepsP.step ?_ (State.resolveAt_keeps _ _ _ _ _ _) rfl
    exact Keeps.refl _ _
  · rename_i y6 y7 y8
    split
    · rename_i y9 y10 y11
      refine KeepsP.mk ?_
      exact Keeps.refl _ _
    · rename_i y12 y13
      split
      · rename_i y14 y15 y16 y17
        refine KeepsP.mk ?_
        refine Keeps.step ?_ (State.keepXlat_keeps _ _ _) rfl
        refine Keeps.step ?_ (State.modPlot_keeps _ _ _ (by first | exact fun _ h => h | exact fun _ _ => ⟨rfl, rfl⟩ | (intro x h; dsimp only; split <;> exact h) | (intro x h; split <;> exact h) | (intro x h; beta_reduce; split <;> exact h))) rfl
        refine KeepsP.fst ?_
        assumption
      · rename_i y18 y19
        refine KeepsP.mk ?_
        refine Keeps.step ?_ (State.plotWaits_keeps _ _ _) rfl
        refine KeepsP.fst ?_
        assumption
      · rename_i y20 y21
        assumption

theorem plotLoop_keeps (z0) (s) (z2) (z3) (z4) (z5) (z6) : KeepsP 94100 s (plotLoop z0 s z2 z3 z4 z5 z6) := by
  induction z0 generalizing s z2 z3 z4 z5 z6 with
  | zero =>
    unfold plotLoop
    refine KeepsP.mk ?_
    exact Keeps.refl _ _
  | succ n ih =>
    unfold plotLoop
    refine KeepsP.ite ?_ ?_
    · refine KeepsP.mk ?_
      exact Keeps.refl _ _
    · extract_lets x1
      have hx1 : KeepsP 94100 s x1 := by
        unfold x1
        refine KeepsP.step ?_ (State.plotLookup_keeps _ _ _ _) rfl
        exact Keeps.refl _ _
      clear_value x1
      split
      · rename_i y2 y3
        refine KeepsP.mk ?_
        refine KeepsP.fst ?_
        assumption
      · rename_i y4 y5
        refine KeepsP.mk ?_
        refine KeepsP.fst ?_
        assumption
      · rename_i y6 y7 y8 y9
        extract_lets x10
        clear_value x10
        refine KeepsP.step ?_ (ih _ _ _ _ _ _) rfl
        refine KeepsP.fst ?_
        assumption

theorem State.reachRange_keeps (s) (z1) (z2) (z3) (z4) (z5) (z6) : KeepsP 98196 s (State.reachRange s z1 z2 z3 z4 z5 z6) := by
  unfold State.reachRange
  extract_lets x1 x2
  have hx2 : KeepsP 98196 s x2 := by
    unfold x2
    refine KeepsP.step ?_ (plotLoop_keeps _ _ _ _ _ _ _) rfl
    exact Keeps.refl _ _
  clear_value x2
  split
  · rename_i y3 y4 y5
    extract_lets x6
    have hx6 : KeepsP 98196 s x6 := by
      unfold x6
      refine KeepsP.step ?_ (reachAll_keeps _ _ _) rfl
      refine KeepsP.fst ?_
      assumption
    clear_value x6
    split
    · rename_i y7 y8
      refine KeepsP.mk ?_
      refine KeepsP.fst ?_
      assumption
    · rename_i y9 y10
      refine KeepsP.mk ?_
      refine KeepsP.fst ?_
      assumption
    · rename_i y11 y12 y13 y14
      refine KeepsP.mk ?_
      refine KeepsP.fst ?_
      assumption
  · rename_i y15 y16
    assumption

theorem reachRanges_keeps (z0) (s) (z2) (z3) (z4) (z5) (z6) : KeepsP 98196 s (reachRanges z0 s z2 z3 z4 z5 z6) := by
  induction z0 generalizing s z2 z3 z4 z5 z6 with
  | nil =>
    unfold reachRanges
    refine KeepsP.mk ?_
    exact Keeps.refl _ _
  | cons x l ih =>
    unfold reachRanges
    extract_lets x1
    have hx1 : KeepsP 98196 s x1 := by
      unfold x1
      refine KeepsP.step ?_ (State.reachRange_keeps _ _ _ _ _ _ _) rfl
      exact Keeps.refl _ _
    clear_value x1
    split
    · rename_i y2 y3 y4
      refine KeepsP.step ?_ (ih _ _ _ _ _ _) rfl
      refine KeepsP.fst ?_
      assumption
    · rename_i y5 y6
      assumption

theorem writeExt_keeps (z0) (s) (z2) (z3) : Keeps 33669524 s (writeExt z0 s z2 z3) := by
  induction z0 generalizing s z2 z3 with
  | nil =>
    unfold writeExt
    exact Keeps.refl _ _
  | cons x l ih =>
    unfold writeExt
    refine Keeps.step ?_ (ih _ _ _) rfl
    refine Keeps.step ?_ (State.putBytes_keeps _ _ _ _ _ _ _) rfl
    exact Keeps.refl _ _

theorem State.putTilth_keeps (s) (z1) (z2) (z3) : Keeps 33603712 s (State.putTilth s z1 z2 z3) := by
  unfold State.putTilth
  extract_lets x1
  have hx1 : Keeps 33603712 s x1 := by
    unfold x1
    refine Keeps.step ?_ (State.putMarked_keeps _ _ _) rfl
    exact Keeps.refl _ _
  clear_value x1
  refine Keeps.ite ?_ ?_
  · refine Keeps.step ?_ (State.modPlot_keeps _ _ _ (by first | exact fun _ h => h | exact fun _ _ => ⟨rfl, rfl⟩ | (intro x h; dsimp only; split <;> exact h) | (intro x h; split <;> exact h) | (intro x h; beta_reduce; split <;> exact h))) rfl
    assumption
  · assumption

theorem State.claim_keeps (s) : Keeps 33685404 s (State.claim s) := by
  unfold State.claim
  split
  · rename_i y1 y2
    exact Keeps.refl _ _
  · rename_i y3 y4 y5 y6
    refine Keeps.ite ?_ ?_
    · refine Keeps.step ?_ (State.sowAhead_keeps _ _) rfl
      refine Keeps.step ?_ (State.settleStakes_keeps _) rfl
      refine Keeps.step ?_ (State.finish_keeps _ _ _ _ _ _) rfl
      exact Keeps.refl _ _
    · extract_lets x7 x8
      have hx7 : Keeps 33685404 s x7 := by
        unfold x7
        refine Keeps.step ?_ (State.markStarted_keeps _ _ _ _) rfl
        exact Keeps.refl _ _
      clear_value x7
      have hx8 : Keeps 33685404 s x8 := by
        unfold x8
        refine Keeps.each ?_ ?_
        · assumption
        · intro a9 a10 a11
          refine Keeps.step ?_ (State.modPlot_keeps _ _ _ (by first | exact fun _ h => h | exact fun _ _ => ⟨rfl, rfl⟩ | (intro x h; dsimp only; split <;> exact h) | (intro x h; split <;> exact h) | (intro x h; beta_reduce; split <;> exact h))) rfl
          assumption
      clear_value x8
      refine Keeps.step ?_ (State.sowAhead_keeps _ _) rfl
      assumption

theorem execProgramClaim_keeps (s) : KeepsO 33685404 s (execProgramClaim s) := by
  unfold execProgramClaim
  refine KeepsO.next ?_
  refine Keeps.step ?_ (State.claim_keeps _) rfl
  exact Keeps.refl _ _

theorem execDescriptorStart_keeps (z0) (s) : KeepsO 302120860 s (execDescriptorStart z0 s) := by
  unfold execDescriptorStart
  refine KeepsO.next ?_
  split
  · rename_i y1
    refine Keeps.step ?_ (State.startNop_keeps _) rfl
    exact Keeps.refl _ _
  · rename_i y2
    refine Keeps.step ?_ (State.startDrill_keeps _) rfl
    exact Keeps.refl _ _
  · rename_i y3
    refine Keeps.step ?_ (State.claim_keeps _) rfl
    exact Keeps.refl _ _
  · rename_i y4
    refine Keeps.step ?_ (State.startSeed_keeps _) rfl
    exact Keeps.refl _ _

theorem State.scrubTilth_keeps (s) (z1) : Keeps 16388 s (State.scrubTilth s z1) := by
  unfold State.scrubTilth
  extract_lets x1
  have hx1 : Keeps 16388 s x1 := by
    unfold x1
    refine Keeps.step ?_ (State.bump_keeps _ _) rfl
    refine Keeps.step ?_ (State.setTilth_keeps _ _ _ (by first | exact fun i => ⟨memWriteEn_wf _ _ _ (State.plot_wf i _).1, markWrite_wf _ _ _ _ (State.plot_wf i _).2⟩ | exact fun i => ⟨memZero_wf _ _ _ (State.plot_wf i _).1, memZero_wf _ _ _ (State.plot_wf i _).2⟩ | exact fun i => ⟨(State.plot_wf i _).1, by dsimp only; exact kvSet_wf _ _ _ (State.plot_wf i _).2⟩)) rfl
    exact Keeps.refl _ _
  clear_value x1
  refine Keeps.step ?_ (State.modPlot_keeps _ _ _ (by first | exact fun _ h => h | exact fun _ _ => ⟨rfl, rfl⟩ | (intro x h; dsimp only; split <;> exact h) | (intro x h; split <;> exact h) | (intro x h; beta_reduce; split <;> exact h))) rfl
  assumption

theorem State.startProgram_keeps (s) (z1) (z2) (z3) (z4) (z5) (z6) (z7) : Keeps 33603718 s (State.startProgram s z1 z2 z3 z4 z5 z6 z7) := by
  unfold State.startProgram
  extract_lets x1 x2 x3 x4 x5 x6 x7 x8 x9
  have hx2 : Keeps 33603718 s x2 := by
    unfold x2
    refine Keeps.ite ?_ ?_
    · exact Keeps.refl _ _
    · refine Keeps.step ?_ (State.scrubTilth_keeps _ _) rfl
      exact Keeps.refl _ _
  clear_value x2
  have hx3 : Keeps 33603718 s x3 := by
    unfold x3
    refine Keeps.step ?_ (State.bump_keeps _ _) rfl
    assumption
  clear_value x3
  clear_value x5
  clear_value x7
  have hx8 : Keeps 33603718 s x8 := by
    unfold x8
    refine Keeps.setfree (m := 33603718) _ ?_ rfl
    assumption
  clear_value x8
  have hx9 : Keeps 33603718 s x9 := by
    unfold x9
    refine Keeps.step ?_ (State.modPlot_keeps _ _ _ (by first | exact fun _ h => h | exact fun _ _ => ⟨rfl, rfl⟩ | (intro x h; dsimp only; split <;> exact h) | (intro x h; split <;> exact h) | (intro x h; beta_reduce; split <;> exact h))) rfl
    assumption
  clear_value x9
  refine Keeps.step ?_ (State.putTilth_keeps _ _ _ _) rfl
  refine Keeps.step ?_ (State.putTilth_keeps _ _ _ _) rfl
  assumption

theorem State.loadPlot_keeps (s) (z1) (z2) (z3) (z4) : Keeps 33603718 s (State.loadPlot s z1 z2 z3 z4) := by
  unfold State.loadPlot
  extract_lets x1 x2 x3 x4 x5 x6 x7 x8 x9 x10 x11 x12
  clear_value x4
  clear_value x5
  clear_value x9
  have hx11 : Keeps 33603718 s x11 := by
    unfold x11
    refine Keeps.step ?_ (State.modPlot_keeps _ _ _ (by first | exact fun _ h => h | exact fun _ _ => ⟨rfl, rfl⟩ | (intro x h; dsimp only; split <;> exact h) | (intro x h; split <;> exact h) | (intro x h; beta_reduce; split <;> exact h))) rfl
    exact Keeps.refl _ _
  clear_value x11
  have hx12 : Keeps 33603718 s x12 := by
    unfold x12
    refine Keeps.step ?_ (State.setTilth_keeps _ _ _ (by first | exact fun i => ⟨memWriteEn_wf _ _ _ (State.plot_wf i _).1, markWrite_wf _ _ _ _ (State.plot_wf i _).2⟩ | exact fun i => ⟨memZero_wf _ _ _ (State.plot_wf i _).1, memZero_wf _ _ _ (State.plot_wf i _).2⟩ | exact fun i => ⟨(State.plot_wf i _).1, by dsimp only; exact kvSet_wf _ _ _ (State.plot_wf i _).2⟩)) rfl
    assumption
  clear_value x12
  refine Keeps.ite ?_ ?_
  · refine Keeps.step ?_ (State.failPlot_keeps _ _ _) rfl
    exact Keeps.refl _ _
  · split
    · rename_i y13 y14
      refine Keeps.step ?_ (State.startProgram_keeps _ _ _ _ _ _ _ _) rfl
      exact Keeps.refl _ _
    · rename_i y15
      refine Keeps.step ?_ (State.startProgram_keeps _ _ _ _ _ _ _ _) rfl
      assumption

theorem execProgramLoad_keeps (z0) (z1) (z2) (s) : KeepsO 33685407 s (execProgramLoad z0 z1 z2 s) := by
  unfold execProgramLoad
  extract_lets x1
  split
  · rename_i y2 y3
    refine KeepsO.next ?_
    exact Keeps.refl _ _
  · rename_i y4 y5 y6
    refine KeepsO.ite ?_ ?_
    · refine KeepsO.next ?_
      exact Keeps.refl _ _
    · extract_lets x7 x8
      have hx7 : KeepsP 33685407 s x7 := by
        unfold x7
        refine KeepsP.step ?_ (State.reachRange_keeps _ _ _ _ _ _ _) rfl
        exact Keeps.refl _ _
      clear_value x7
      have hx8 : KeepsP 33685407 s x8 := by
        unfold x8
        refine KeepsP.step ?_ (State.reachRange_keeps _ _ _ _ _ _ _) rfl
        refine KeepsP.fst ?_
        assumption
      clear_value x8
      split
      · rename_i y9 y10
        refine KeepsO.next ?_
        refine KeepsP.fst ?_
        assumption
      · rename_i y11 y12 y13 y14
        refine KeepsO.next ?_
        refine Keeps.step ?_ (State.failPlotAt_keeps _ _ _ _) rfl
        refine KeepsP.fst ?_
        assumption
      · rename_i y15 y16 y17
        split
        · rename_i y18 y19
          refine KeepsO.next ?_
          refine KeepsP.fst ?_
          assumption
        · rename_i y20 y21 y22 y23
          refine KeepsO.next ?_
          refine Keeps.step ?_ (State.failPlotAt_keeps _ _ _ _) rfl
          refine KeepsP.fst ?_
          assumption
        · rename_i y24 y25 y26
          extract_lets x27 x28 x29 x30
          have hx27 : KeepsP 33685407 s x27 := by
            unfold x27
            refine KeepsP.step ?_ (State.hostAnswers_keeps _ _ _ _) rfl
            refine KeepsP.fst ?_
            assumption
          clear_value x27
          have hx28 : KeepsP 33685407 s x28 := by
            unfold x28
            refine KeepsP.step ?_ (State.hostAnswers_keeps _ _ _ _) rfl
            refine KeepsP.fst ?_
            assumption
          clear_value x28
          have hx29 : KeepsP 33685407 s x29 := by
            unfold x29
            refine KeepsP.step ?_ (readExt_keeps _ _ _ _) rfl
            refine KeepsP.fst ?_
            assumption
          clear_value x29
          have hx30 : KeepsP 33685407 s x30 := by
            unfold x30
            refine KeepsP.step ?_ (readExt_keeps _ _ _ _) rfl
            refine KeepsP.fst ?_
            assumption
          clear_value x30
          split
          · rename_i y31 y32 y33
            refine KeepsO.next ?_
            refine Keeps.step ?_ (State.failPlotAt_keeps _ _ _ _) rfl
            refine KeepsP.fst ?_
            assumption
          · rename_i y34 y35
            split
            · rename_i y36 y37 y38
              refine KeepsO.next ?_
              refine Keeps.step ?_ (State.failPlotAt_keeps _ _ _ _) rfl
              refine KeepsP.fst ?_
              assumption
            · rename_i y39 y40
              refine KeepsO.next ?_
              refine Keeps.step ?_ (State.loadPlot_keeps _ _ _ _ _) rfl
              refine KeepsP.fst ?_
              assumption

theorem State.issue_keeps {m : Nat} {s0 : State} (z0 : Sys2Proof.Machine.State) (z1 : ℕ) (z2 : ℕ) (z3 : List (ℕ × ℕ)) (z4 : ℕ → Sys2Proof.Machine.State) (hz0 : Keeps m s0 z0) (hz4 : ∀ b0, Keeps m s0 (z4 b0)) (e : 16384 &&& m = 16384) : Keeps m s0 (State.issue z0 z1 z2 z3 z4) := by
  unfold State.issue
  split
  · rename_i y1 y2
    assumption
  · rename_i y3 y4 y5
    refine Keeps.ite ?_ ?_
    · assumption
    · refine Keeps.ite ?_ ?_
      · refine hz4 _
      · refine Keeps.step ?_ (State.failPlot_keeps _ _ _) (sub_mask rfl e)
        assumption

theorem State.jump_keeps (s) (z1) (z2) : Keeps 16384 s (State.jump s z1 z2) := by
  unfold State.jump
  extract_lets x1
  have hx1 : Keeps 16384 s x1 := by
    unfold x1
    refine Keeps.step ?_ (State.modPlot_keeps _ _ _ (by first | exact fun _ h => h | exact fun _ _ => ⟨rfl, rfl⟩ | (intro x h; dsimp only; split <;> exact h) | (intro x h; split <;> exact h) | (intro x h; beta_reduce; split <;> exact h))) rfl
    exact Keeps.refl _ _
  clear_value x1
  split
  · rename_i y2 y3 y4
    refine Keeps.ite ?_ ?_
    · assumption
    · refine Keeps.step ?_ (State.failPlot_keeps _ _ _) rfl
      assumption
  · rename_i y5 y6
    assumption

theorem State.advance_keeps (s) (z1) : Keeps 16384 s (State.advance s z1) := by
  unfold State.advance
  refine Keeps.ite ?_ ?_
  · exact Keeps.refl _ _
  · refine Keeps.step ?_ (State.jump_keeps _ _ _) rfl
    exact Keeps.refl _ _

theorem State.stallStake_keeps (s) (z1) : Keeps 16384 s (State.stallStake s z1) := by
  unfold State.stallStake
  refine Keeps.step ?_ (State.modPlot_keeps _ _ _ (by first | exact fun _ h => h | exact fun _ _ => ⟨rfl, rfl⟩ | (intro x h; dsimp only; split <;> exact h) | (intro x h; split <;> exact h) | (intro x h; beta_reduce; split <;> exact h))) rfl
  exact Keeps.refl _ _

theorem execNop_keeps (z0) (s) : KeepsO 16384 s (execNop z0 s) := by
  unfold execNop
  refine KeepsO.next ?_
  refine State.issue_keeps _ _ _ _ _ ?_ ?_ rfl
  · exact Keeps.refl _ _
  · intro a1
    refine Keeps.step ?_ (State.advance_keeps _ _) rfl
    exact Keeps.refl _ _

theorem execEndProgram_keeps (z0) (s) : KeepsO 2191260 s (execEndProgram z0 s) := by
  unfold execEndProgram
  refine KeepsO.next ?_
  refine State.issue_keeps _ _ _ _ _ ?_ ?_ rfl
  · exact Keeps.refl _ _
  · intro a1
    refine Keeps.ite ?_ ?_
    · exact Keeps.refl _ _
    · refine Keeps.step ?_ (State.endPlot_keeps _ _ _ _) rfl
      exact Keeps.refl _ _

theorem execPlotLoop_keeps (z0) (s) : KeepsO 16384 s (execPlotLoop z0 s) := by
  unfold execPlotLoop
  refine KeepsO.next ?_
  refine State.issue_keeps _ _ _ _ _ ?_ ?_ rfl
  · exact Keeps.refl _ _
  · intro a1
    extract_lets x2
    refine Keeps.ite ?_ ?_
    · refine Keeps.step ?_ (State.failPlot_keeps _ _ _) rfl
      exact Keeps.refl _ _
    · refine Keeps.ite ?_ ?_
      · refine Keeps.step ?_ (State.failPlot_keeps _ _ _) rfl
        exact Keeps.refl _ _
      · refine Keeps.step ?_ (State.advance_keeps _ _) rfl
        refine Keeps.step ?_ (State.setPlot_keeps _ _ _ (fun i => State.plot_wf i _)) rfl
        exact Keeps.refl _ _

theorem execEndloop_keeps (z0) (s) : KeepsO 16384 s (execEndloop z0 s) := by
  unfold execEndloop
  refine KeepsO.next ?_
  refine State.issue_keeps _ _ _ _ _ ?_ ?_ rfl
  · exact Keeps.refl _ _
  · intro a1
    extract_lets x2
    split
    · rename_i y3 y4
      refine Keeps.step ?_ (State.failPlot_keeps _ _ _) rfl
      exact Keeps.refl _ _
    · rename_i y5 y6 y7 y8 y9
      refine Keeps.ite ?_ ?_
      · refine Keeps.step ?_ (State.jump_keeps _ _ _) rfl
        refine Keeps.step ?_ (State.setPlot_keeps _ _ _ (fun i => State.plot_wf i _)) rfl
        exact Keeps.refl _ _
      · refine Keeps.step ?_ (State.advance_keeps _ _) rfl
        refine Keeps.step ?_ (State.setPlot_keeps _ _ _ (fun i => State.plot_wf i _)) rfl
        exact Keeps.refl _ _

theorem execSeti_keeps (z0) (s) : KeepsO 16384 s (execSeti z0 s) := by
  unfold execSeti
  refine KeepsO.next ?_
  refine State.issue_keeps _ _ _ _ _ ?_ ?_ rfl
  · exact Keeps.refl _ _
  · intro a1
    refine Keeps.step ?_ (State.advance_keeps _ _) rfl
    refine Keeps.step ?_ (State.setIdx_keeps _ _ _ _) rfl
    exact Keeps.refl _ _

theorem execAddi_keeps (z0) (s) : KeepsO 16384 s (execAddi z0 s) := by
  unfold execAddi
  refine KeepsO.next ?_
  refine State.issue_keeps _ _ _ _ _ ?_ ?_ rfl
  · exact Keeps.refl _ _
  · intro a1
    refine Keeps.step ?_ (State.advance_keeps _ _) rfl
    refine Keeps.step ?_ (State.setIdx_keeps _ _ _ _) rfl
    exact Keeps.refl _ _

theorem execLdi_keeps (z0) (s) : KeepsO 16384 s (execLdi z0 s) := by
  unfold execLdi
  refine KeepsO.next ?_
  refine State.issue_keeps _ _ _ _ _ ?_ ?_ rfl
  · exact Keeps.refl _ _
  · intro a1
    extract_lets x2
    clear_value x2
    refine Keeps.ite ?_ ?_
    · refine Keeps.step ?_ (State.failPlot_keeps _ _ _) rfl
      exact Keeps.refl _ _
    · refine Keeps.ite ?_ ?_
      · refine Keeps.step ?_ (State.failPlot_keeps _ _ _) rfl
        exact Keeps.refl _ _
      · refine Keeps.step ?_ (State.advance_keeps _ _) rfl
        refine Keeps.step ?_ (State.setIdx_keeps _ _ _ _) rfl
        exact Keeps.refl _ _

theorem execFence_keeps (z0) (s) : KeepsO 16384 s (execFence z0 s) := by
  unfold execFence
  refine KeepsO.next ?_
  refine State.issue_keeps _ _ _ _ _ ?_ ?_ rfl
  · exact Keeps.refl _ _
  · intro a1
    refine Keeps.ite ?_ ?_
    · exact Keeps.refl _ _
    · refine Keeps.step ?_ (State.advance_keeps _ _) rfl
      exact Keeps.refl _ _

theorem execMarkHalf_keeps (z0) (s) : KeepsO 16640 s (execMarkHalf z0 s) := by
  unfold execMarkHalf
  refine KeepsO.next ?_
  refine State.issue_keeps _ _ _ _ _ ?_ ?_ rfl
  · exact Keeps.refl _ _
  · intro a1
    refine Keeps.ite ?_ ?_
    · exact Keeps.refl _ _
    · extract_lets x2 x3
      have hx3 : Keeps 16640 s x3 := by
        unfold x3
        refine Keeps.step ?_ (State.modSlot_keeps _ _ _ _) rfl
        exact Keeps.refl _ _
      clear_value x3
      refine Keeps.step ?_ (State.advance_keeps _ _) rfl
      refine Keeps.step ?_ (State.modPlot_keeps _ _ _ (by first | exact fun _ h => h | exact fun _ _ => ⟨rfl, rfl⟩ | (intro x h; dsimp only; split <;> exact h) | (intro x h; split <;> exact h) | (intro x h; beta_reduce; split <;> exact h))) rfl
      assumption

theorem execTrap_keeps (z0) (s) : KeepsO 16384 s (execTrap z0 s) := by
  unfold execTrap
  refine KeepsO.next ?_
  refine State.issue_keeps _ _ _ _ _ ?_ ?_ rfl
  · exact Keeps.refl _ _
  · intro a1
    refine Keeps.step ?_ (State.failPlot_keeps _ _ _) rfl
    refine Keeps.step ?_ (State.modPlot_keeps _ _ _ (by first | exact fun _ h => h | exact fun _ _ => ⟨rfl, rfl⟩ | (intro x h; dsimp only; split <;> exact h) | (intro x h; split <;> exact h) | (intro x h; beta_reduce; split <;> exact h))) rfl
    exact Keeps.refl _ _

theorem State.plotStake_keeps {m : Nat} {s0 : State} (z0 : Sys2Proof.Machine.State) (z1 : ℕ) (z2 : ℕ) (z3 : Sys2Proof.Machine.State) (hz0 : Keeps m s0 z0) (hz3 : Keeps m s0 z3) (e : 16388 &&& m = 16388) : Keeps m s0 (State.plotStake z0 z1 z2 z3) := by
  unfold State.plotStake
  extract_lets x1
  refine Keeps.ite ?_ ?_
  · assumption
  · refine Keeps.step ?_ (State.failPlot_keeps _ _ _) (sub_mask rfl e)
    refine Keeps.step ?_ (State.bump_keeps _ _) (sub_mask rfl e)
    assumption

theorem execSwait_keeps (z0) (s) : KeepsO 33685404 s (execSwait z0 s) := by
  unfold execSwait
  refine KeepsO.next ?_
  refine State.issue_keeps _ _ _ _ _ ?_ ?_ rfl
  · exact Keeps.refl _ _
  · intro a1
    extract_lets x2 x3
    clear_value x2
    clear_value x3
    refine Keeps.ite ?_ ?_
    · refine Keeps.step ?_ (State.stallStake_keeps _ _) rfl
      exact Keeps.refl _ _
    · refine State.plotStake_keeps _ _ _ _ ?_ ?_ rfl
      · exact Keeps.refl _ _
      · split
        · rename_i y4 y5
          refine Keeps.step ?_ (State.stallStake_keeps _ _) rfl
          exact Keeps.refl _ _
        · rename_i y6 y7 y8
          extract_lets x9
          have hx9 : Keeps 33685404 s x9 := by
            unfold x9
            refine Keeps.step ?_ (State.advance_keeps _ _) rfl
            refine Keeps.step ?_ (State.modPlot_keeps _ _ _ (by first | exact fun _ h => h | exact fun _ _ => ⟨rfl, rfl⟩ | (intro x h; dsimp only; split <;> exact h) | (intro x h; split <;> exact h) | (intro x h; beta_reduce; split <;> exact h))) rfl
            exact Keeps.refl _ _
          clear_value x9
          split
          · rename_i y10 y11 y12
            have h13 : Keeps 33685404 s y11 := by
              refine KeepsS.ofEq ?_ y12
              refine KeepsS.step ?_ (State.placeWait_keeps _ _ _ _ _) rfl
              assumption
            refine Keeps.step ?_ (State.settleStakes_keeps _) rfl
            assumption
          · rename_i y14 y15
            refine Keeps.step ?_ (State.stallStake_keeps _ _) rfl
            exact Keeps.refl _ _

theorem execSjoin_keeps (z0) (s) : KeepsO 16384 s (execSjoin z0 s) := by
  unfold execSjoin
  refine KeepsO.next ?_
  refine State.issue_keeps _ _ _ _ _ ?_ ?_ rfl
  · exact Keeps.refl _ _
  · intro a1
    refine Keeps.ite ?_ ?_
    · refine Keeps.step ?_ (State.stallStake_keeps _ _) rfl
      exact Keeps.refl _ _
    · refine Keeps.step ?_ (State.advance_keeps _ _) rfl
      exact Keeps.refl _ _

theorem execStest_keeps (z0) (s) : KeepsO 16388 s (execStest z0 s) := by
  unfold execStest
  refine KeepsO.next ?_
  refine State.issue_keeps _ _ _ _ _ ?_ ?_ rfl
  · exact Keeps.refl _ _
  · intro a1
    extract_lets x2
    clear_value x2
    refine State.plotStake_keeps _ _ _ _ ?_ ?_ rfl
    · exact Keeps.refl _ _
    · refine Keeps.step ?_ (State.advance_keeps _ _) rfl
      refine Keeps.step ?_ (State.setIdx_keeps _ _ _ _) rfl
      exact Keeps.refl _ _

theorem execSsig_keeps (z0) (s) : KeepsO 33685404 s (execSsig z0 s) := by
  unfold execSsig
  refine KeepsO.next ?_
  refine State.issue_keeps _ _ _ _ _ ?_ ?_ rfl
  · exact Keeps.refl _ _
  · intro a1
    extract_lets x2 x3
    clear_value x2
    refine Keeps.ite ?_ ?_
    · exact Keeps.refl _ _
    · refine State.plotStake_keeps _ _ _ _ ?_ ?_ rfl
      · exact Keeps.refl _ _
      · refine Keeps.step ?_ (State.settleStakes_keeps _) rfl
        refine Keeps.step ?_ (State.advance_keeps _ _) rfl
        refine Keeps.ite ?_ ?_
        · refine Keeps.step ?_ (State.stakeSetOp_keeps _ _ _) rfl
          exact Keeps.refl _ _
        · refine Keeps.step ?_ (State.stakeAddOp_keeps _ _ _ _) rfl
          exact Keeps.refl _ _

theorem execSremote_keeps (z0) (s) : KeepsO 2191252 s (execSremote z0 s) := by
  unfold execSremote
  refine KeepsO.next ?_
  refine State.issue_keeps _ _ _ _ _ ?_ ?_ rfl
  · exact Keeps.refl _ _
  · intro a1
    refine Keeps.ite ?_ ?_
    · refine Keeps.step ?_ (State.failPlot_keeps _ _ _) rfl
      exact Keeps.refl _ _
    · refine Keeps.ite ?_ ?_
      · exact Keeps.refl _ _
      · extract_lets x2 x3 x4
        have hx2 : KeepsP 2191252 s x2 := by
          unfold x2
          refine KeepsP.step ?_ (State.resolveStart_keeps _ _ _ _ _) rfl
          exact Keeps.refl _ _
        clear_value x2
        clear_value x3
        have hx4 : KeepsP 2191252 s x4 := by
          unfold x4
          refine KeepsP.step ?_ (State.stakeRequest_keeps _ _ _) rfl
          refine KeepsP.fst ?_
          assumption
        clear_value x4
        split
        · rename_i y5 y6 y7 y8
          refine Keeps.ite ?_ ?_
          · refine Keeps.step ?_ (State.advance_keeps _ _) rfl
            refine KeepsP.fst ?_
            assumption
          · refine Keeps.step ?_ (State.failPlot_keeps _ _ _) rfl
            refine KeepsP.fst ?_
            assumption
        · rename_i y9 y10
          refine Keeps.step ?_ (State.failPlot_keeps _ _ _) rfl
          refine KeepsP.fst ?_
          assumption

theorem execFeed_keeps (z0) (s) : KeepsO 24576 s (execFeed z0 s) := by
  unfold execFeed
  refine KeepsO.next ?_
  refine State.issue_keeps _ _ _ _ _ ?_ ?_ rfl
  · exact Keeps.refl _ _
  · intro a1
    extract_lets x2 x3 x4 x5
    clear_value x2
    clear_value x3
    have hx5 : Keeps 24576 s x5 := by
      unfold x5
      refine Keeps.step ?_ (State.advance_keeps _ _) rfl
      refine Keeps.step ?_ (State.setFeed_keeps _ _ _ _) rfl
      exact Keeps.refl _ _
    clear_value x5
    refine Keeps.ite ?_ ?_
    · refine Keeps.step ?_ (State.failPlot_keeps _ _ _) rfl
      exact Keeps.refl _ _
    · refine Keeps.ite ?_ ?_
      · refine Keeps.step ?_ (State.modPlot_keeps _ _ _ (by first | exact fun _ h => h | exact fun _ _ => ⟨rfl, rfl⟩ | (intro x h; dsimp only; split <;> exact h) | (intro x h; split <;> exact h) | (intro x h; beta_reduce; split <;> exact h))) rfl
        exact Keeps.refl _ _
      · refine Keeps.ite ?_ ?_
        · refine Keeps.step ?_ (State.modPlot_keeps _ _ _ (by first | exact fun _ h => h | exact fun _ _ => ⟨rfl, rfl⟩ | (intro x h; dsimp only; split <;> exact h) | (intro x h; split <;> exact h) | (intro x h; beta_reduce; split <;> exact h))) rfl
          assumption
        · assumption

theorem execUnfeed_keeps (z0) (s) : KeepsO 24580 s (execUnfeed z0 s) := by
  unfold execUnfeed
  refine KeepsO.next ?_
  refine State.issue_keeps _ _ _ _ _ ?_ ?_ rfl
  · exact Keeps.refl _ _
  · intro a1
    refine Keeps.step ?_ (State.advance_keeps _ _) rfl
    refine Keeps.step ?_ (State.withdrawNewest_keeps _ _ _) rfl
    exact Keeps.refl _ _

theorem execProgramFailure_keeps (z0) (s) : KeepsO 35782556 s (execProgramFailure z0 s) := by
  unfold execProgramFailure
  extract_lets x1
  split
  · rename_i y2 y3 y4
    refine KeepsO.ite ?_ ?_
    · refine KeepsO.next ?_
      refine Keeps.step ?_ (State.settleStakes_keeps _) rfl
      refine Keeps.step ?_ (State.haltProgram_keeps _ _ _ _ _) rfl
      exact Keeps.refl _ _
    · refine KeepsO.next ?_
      exact Keeps.refl _ _
  · rename_i y5 y6
    refine KeepsO.next ?_
    exact Keeps.refl _ _

theorem State.plotWindow_keeps (s) (z1) (z2) (z3) (z4) : KeepsP 33636764 s (State.plotWindow s z1 z2 z3 z4) := by
  unfold State.plotWindow
  extract_lets x1
  refine KeepsP.ite ?_ ?_
  · refine KeepsP.mk ?_
    refine Keeps.step ?_ (State.completerAbort_keeps _ _ _) rfl
    refine Keeps.step ?_ (State.mmioErr_keeps _ _ _ _ _) rfl
    exact Keeps.refl _ _
  · refine KeepsP.ite ?_ ?_
    · refine KeepsP.mk ?_
      exact Keeps.refl _ _
    · refine KeepsP.mk ?_
      refine Keeps.step ?_ (State.holdRequest_keeps _ _ _ _ _) rfl
      refine Keeps.step ?_ (State.askPlot_keeps _ _) rfl
      exact Keeps.refl _ _

theorem State.writePlotCtrl_keeps (s) (z1) (z2) : Keeps 35782556 s (State.writePlotCtrl s z1 z2) := by
  unfold State.writePlotCtrl
  extract_lets x1
  refine Keeps.ite ?_ ?_
  · refine Keeps.step ?_ (State.settleStakes_keeps _) rfl
    refine Keeps.step ?_ (State.haltProgram_keeps _ _ _ _ _) rfl
    exact Keeps.refl _ _
  · exact Keeps.refl _ _

theorem execPlotHalt_keeps (z0) (z1) (s) : KeepsO 35782556 s (execPlotHalt z0 z1 s) := by
  unfold execPlotHalt
  extract_lets x1 x2 x3
  clear_value x1
  have hx2 : KeepsP 35782556 s x2 := by
    unfold x2
    refine KeepsP.step ?_ (State.admitReq_keeps _ _ _ _) rfl
    exact Keeps.refl _ _
  clear_value x2
  have hx3 : KeepsP 35782556 s x3 := by
    unfold x3
    refine KeepsP.step ?_ (State.plotWindow_keeps _ _ _ _ _) rfl
    refine KeepsP.fst ?_
    assumption
  clear_value x3
  refine KeepsO.ite ?_ ?_
  · refine KeepsO.next ?_
    refine KeepsP.fst ?_
    assumption
  · refine KeepsO.next ?_
    refine Keeps.ite ?_ ?_
    · refine Keeps.step ?_ (State.writePlotCtrl_keeps _ _ _) rfl
      refine KeepsP.fst ?_
      assumption
    · refine KeepsP.fst ?_
      assumption

theorem State.writeTilthSplit_keeps (s) (z1) (z2) (z3) : Keeps 81932 s (State.writeTilthSplit s z1 z2 z3) := by
  unfold State.writeTilthSplit
  extract_lets x1 x2
  clear_value x2
  refine Keeps.ite ?_ ?_
  · refine Keeps.step ?_ (State.valueErr_keeps _ _ _ _) rfl
    exact Keeps.refl _ _
  · refine Keeps.ite ?_ ?_
    · exact Keeps.refl _ _
    · refine Keeps.step ?_ (State.modPlot_keeps _ _ _ (by first | exact fun _ h => h | exact fun _ _ => ⟨rfl, rfl⟩ | (intro x h; dsimp only; split <;> exact h) | (intro x h; split <;> exact h) | (intro x h; beta_reduce; split <;> exact h))) rfl
      refine Keeps.step ?_ (State.setRg_keeps _ _ _) rfl
      exact Keeps.refl _ _

theorem execTilthSplitWrite_keeps (z0) (z1) (z2) (s) : KeepsO 33636764 s (execTilthSplitWrite z0 z1 z2 s) := by
  unfold execTilthSplitWrite
  extract_lets x1 x2 x3
  clear_value x1
  have hx2 : KeepsP 33636764 s x2 := by
    unfold x2
    refine KeepsP.step ?_ (State.admitReq_keeps _ _ _ _) rfl
    exact Keeps.refl _ _
  clear_value x2
  have hx3 : KeepsP 33636764 s x3 := by
    unfold x3
    refine KeepsP.step ?_ (State.plotWindow_keeps _ _ _ _ _) rfl
    refine KeepsP.fst ?_
    assumption
  clear_value x3
  refine KeepsO.ite ?_ ?_
  · refine KeepsO.next ?_
    refine KeepsP.fst ?_
    assumption
  · refine KeepsO.next ?_
    refine Keeps.ite ?_ ?_
    · refine Keeps.step ?_ (State.writeTilthSplit_keeps _ _ _ _) rfl
      refine KeepsP.fst ?_
      assumption
    · refine KeepsP.fst ?_
      assumption

end Sys2Proof.Machine
end

