-- ==== Sys2Proof/Laws/FootPlotUnits.lean ====
section
/-! SUPPORT. The footprints of the operations of Machine/PlotUnits.lean. -/

namespace Sys2Proof.Machine

theorem State.noteLines_keeps (s) (z1) (z2) (z3) (z4) : Keeps 2560 s (State.noteLines s z1 z2 z3 z4) := by
  unfold State.noteLines
  refine Keeps.ite ?_ ?_
  · exact Keeps.refl _ _
  · extract_lets x1 x2
    clear_value x1
    clear_value x2
    refine Keeps.step ?_ (State.listHot_keeps _) rfl
    refine Keeps.each ?_ ?_
    · exact Keeps.refl _ _
    · intro a3 a4 a5
      extract_lets x6 x7
      clear_value x6
      have hx7 : Keeps 2560 s x7 := by
        unfold x7
        refine Keeps.ite ?_ ?_
        · refine Keeps.step ?_ (State.noteOverlay_keeps _ _ _ _) rfl
          assumption
        · assumption
      clear_value x7
      refine Keeps.step ?_ (State.countAccess_keeps _ _ _ _) rfl
      assumption

theorem execPlotLoad_keeps (z0) (z1) (s) : KeepsO 33685405 s (execPlotLoad z0 z1 s) := by
  unfold execPlotLoad
  refine KeepsO.next ?_
  refine State.issue_keeps _ _ _ _ _ ?_ ?_ rfl
  · exact Keeps.refl _ _
  · intro a1
    split
    · rename_i y2 y3
      refine Keeps.step ?_ (State.failPlot_keeps _ _ _) rfl
      exact Keeps.refl _ _
    · rename_i y4 y5 y6
      extract_lets x7 x8
      clear_value x7
      clear_value x8
      split
      · rename_i y9 y10
        refine Keeps.step ?_ (State.failPlot_keeps _ _ _) rfl
        exact Keeps.refl _ _
      · rename_i y11 y12 y13
        refine Keeps.ite ?_ ?_
        · refine Keeps.step ?_ (State.failPlot_keeps _ _ _) rfl
          exact Keeps.refl _ _
        · extract_lets x14
          have hx14 : KeepsP 33685405 s x14 := by
            unfold x14
            refine KeepsP.step ?_ (reachRanges_keeps _ _ _ _ _ _ _) rfl
            exact Keeps.refl _ _
          clear_value x14
          split
          · rename_i y15 y16
            refine KeepsP.fst ?_
            assumption
          · rename_i y17 y18 y19 y20
            refine Keeps.step ?_ (State.failPlotAt_keeps _ _ _ _) rfl
            refine KeepsP.fst ?_
            assumption
          · rename_i y21 y22 y23
            extract_lets x24 x25
            have hx24 : KeepsP 33685405 s x24 := by
              unfold x24
              refine KeepsP.step ?_ (State.hostAnswers_keeps _ _ _ _) rfl
              refine KeepsP.fst ?_
              assumption
            clear_value x24
            have hx25 : KeepsP 33685405 s x25 := by
              unfold x25
              refine KeepsP.step ?_ (readExt_keeps _ _ _ _) rfl
              refine KeepsP.fst ?_
              assumption
            clear_value x25
            split
            · rename_i y26 y27 y28
              refine Keeps.step ?_ (State.failPlotAt_keeps _ _ _ _) rfl
              refine KeepsP.fst ?_
              assumption
            · rename_i y29 y30
              refine Keeps.step ?_ (State.advance_keeps _ _) rfl
              refine Keeps.step ?_ (State.noteLines_keeps _ _ _ _ _) rfl
              refine Keeps.step ?_ (State.putTilth_keeps _ _ _ _) rfl
              refine KeepsP.fst ?_
              assumption

theorem execPlotStore_keeps (z0) (s) : KeepsO 33685396 s (execPlotStore z0 s) := by
  unfold execPlotStore
  refine KeepsO.next ?_
  refine State.issue_keeps _ _ _ _ _ ?_ ?_ rfl
  · exact Keeps.refl _ _
  · intro a1
    split
    · rename_i y2 y3
      refine Keeps.step ?_ (State.failPlot_keeps _ _ _) rfl
      exact Keeps.refl _ _
    · rename_i y4 y5 y6
      extract_lets x7 x8
      clear_value x7
      clear_value x8
      split
      · rename_i y9 y10
        refine Keeps.step ?_ (State.failPlot_keeps _ _ _) rfl
        exact Keeps.refl _ _
      · rename_i y11 y12 y13
        refine Keeps.ite ?_ ?_
        · refine Keeps.step ?_ (State.failPlot_keeps _ _ _) rfl
          exact Keeps.refl _ _
        · extract_lets x14 x15
          have hx14 : KeepsP 33685396 s x14 := by
            unfold x14
            refine KeepsP.step ?_ (reachRanges_keeps _ _ _ _ _ _ _) rfl
            exact Keeps.refl _ _
          clear_value x14
          have hx15 : KeepsP 33685396 s x15 := by
            unfold x15
            refine KeepsP.step ?_ (State.getMarked_keeps _ _ _) rfl
            refine KeepsP.fst ?_
            assumption
          clear_value x15
          split
          · rename_i y16 y17
            refine KeepsP.fst ?_
            assumption
          · rename_i y18 y19 y20 y21
            refine Keeps.step ?_ (State.failPlotAt_keeps _ _ _ _) rfl
            refine KeepsP.fst ?_
            assumption
          · rename_i y22 y23 y24
            extract_lets x25 x26
            have hx25 : Keeps 33685396 s x25 := by
              unfold x25
              refine Keeps.step ?_ (writeExt_keeps _ _ _ _) rfl
              refine KeepsP.fst ?_
              assumption
            clear_value x25
            have hx26 : Keeps 33685396 s x26 := by
              unfold x26
              refine Keeps.ite ?_ ?_
              · refine Keeps.step ?_ (State.modPlot_keeps _ _ _ (by first | exact fun _ h => h | exact fun _ _ => ⟨rfl, rfl⟩ | (intro x h; dsimp only; split <;> exact h) | (intro x h; split <;> exact h) | (intro x h; beta_reduce; split <;> exact h))) rfl
                assumption
              · assumption
            clear_value x26
            refine Keeps.step ?_ (State.advance_keeps _ _) rfl
            refine Keeps.step ?_ (State.noteLines_keeps _ _ _ _ _) rfl
            assumption

theorem execTcopy_keeps (z0) (s) : KeepsO 33685396 s (execTcopy z0 s) := by
  unfold execTcopy
  refine KeepsO.next ?_
  refine State.issue_keeps _ _ _ _ _ ?_ ?_ rfl
  · exact Keeps.refl _ _
  · intro a1
    extract_lets x2 x3 x4 x5 x6 x7 x8
    clear_value x2
    clear_value x3
    clear_value x4
    clear_value x5
    have hx6 : KeepsP 33685396 s x6 := by
      unfold x6
      refine KeepsP.step ?_ (State.getMarked_keeps _ _ _) rfl
      exact Keeps.refl _ _
    clear_value x6
    have hx7 : KeepsP 33685396 s x7 := by
      unfold x7
      refine KeepsP.step ?_ (State.reachRange_keeps _ _ _ _ _ _ _) rfl
      exact Keeps.refl _ _
    clear_value x7
    have hx8 : KeepsP 33685396 s x8 := by
      unfold x8
      refine KeepsP.step ?_ (State.getMarked_keeps _ _ _) rfl
      refine KeepsP.fst ?_
      assumption
    clear_value x8
    refine Keeps.ite ?_ ?_
    · refine Keeps.step ?_ (State.failPlot_keeps _ _ _) rfl
      exact Keeps.refl _ _
    · refine Keeps.ite ?_ ?_
      · refine Keeps.step ?_ (State.failPlot_keeps _ _ _) rfl
        exact Keeps.refl _ _
      · refine Keeps.ite ?_ ?_
        · refine Keeps.step ?_ (State.advance_keeps _ _) rfl
          refine Keeps.step ?_ (State.putTilth_keeps _ _ _ _) rfl
          refine KeepsP.fst ?_
          assumption
        · refine Keeps.ite ?_ ?_
          · refine Keeps.step ?_ (State.failPlot_keeps _ _ _) rfl
            exact Keeps.refl _ _
          · split
            · rename_i y9 y10
              refine KeepsP.fst ?_
              assumption
            · rename_i y11 y12 y13 y14
              refine Keeps.step ?_ (State.failPlotAt_keeps _ _ _ _) rfl
              refine KeepsP.fst ?_
              assumption
            · rename_i y15 y16 y17
              extract_lets x18 x19
              have hx18 : Keeps 33685396 s x18 := by
                unfold x18
                refine Keeps.step ?_ (writeExt_keeps _ _ _ _) rfl
                refine KeepsP.fst ?_
                assumption
              clear_value x18
              have hx19 : Keeps 33685396 s x19 := by
                unfold x19
                refine Keeps.ite ?_ ?_
                · refine Keeps.step ?_ (State.modPlot_keeps _ _ _ (by first | exact fun _ h => h | exact fun _ _ => ⟨rfl, rfl⟩ | (intro x h; dsimp only; split <;> exact h) | (intro x h; split <;> exact h) | (intro x h; beta_reduce; split <;> exact h))) rfl
                  assumption
                · assumption
              clear_value x19
              refine Keeps.step ?_ (State.advance_keeps _ _) rfl
              assumption

theorem State.orFlags_keeps (s) (z1) (z2) : Keeps 16384 s (State.orFlags s z1 z2) := by
  unfold State.orFlags
  refine Keeps.step ?_ (State.modPlot_keeps _ _ _ (by first | exact fun _ h => h | exact fun _ _ => ⟨rfl, rfl⟩ | (intro x h; dsimp only; split <;> exact h) | (intro x h; split <;> exact h) | (intro x h; beta_reduce; split <;> exact h))) rfl
  exact Keeps.refl _ _

theorem State.setBed_keeps (s) (z1) (z2) (z3) : Keeps 16384 s (State.setBed s z1 z2 z3) := by
  unfold State.setBed
  refine Keeps.step ?_ (State.modPlot_keeps _ _ _ (by first | exact fun _ h => h | exact fun _ _ => ⟨rfl, rfl⟩ | (intro x h; dsimp only; split <;> exact h) | (intro x h; split <;> exact h) | (intro x h; beta_reduce; split <;> exact h))) rfl
  exact Keeps.refl _ _

theorem execBload_keeps (z0) (s) : KeepsO 33603712 s (execBload z0 s) := by
  unfold execBload
  refine KeepsO.next ?_
  refine State.issue_keeps _ _ _ _ _ ?_ ?_ rfl
  · exact Keeps.refl _ _
  · intro a1
    extract_lets x2 x3 x4 x5 x6 x7 x8 x9
    clear_value x2
    clear_value x3
    have hx4 : KeepsP 33603712 s x4 := by
      unfold x4
      refine KeepsP.step ?_ (State.getMarked_keeps _ _ _) rfl
      exact Keeps.refl _ _
    clear_value x4
    clear_value x5
    clear_value x6
    clear_value x7
    refine Keeps.ite ?_ ?_
    · refine Keeps.step ?_ (State.failPlot_keeps _ _ _) rfl
      exact Keeps.refl _ _
    · refine Keeps.ite ?_ ?_
      · refine Keeps.step ?_ (State.failPlot_keeps _ _ _) rfl
        exact Keeps.refl _ _
      · refine Keeps.step ?_ (State.advance_keeps _ _) rfl
        refine Keeps.step ?_ (State.setBed_keeps _ _ _ _) rfl
        exact Keeps.refl _ _

theorem State.countMacs_keeps (s) (z1) (z2) : Keeps 16388 s (State.countMacs s z1 z2) := by
  unfold State.countMacs
  extract_lets x1
  have hx1 : Keeps 16388 s x1 := by
    unfold x1
    refine Keeps.step ?_ (State.bumpBy_keeps _ _ _) rfl
    exact Keeps.refl _ _
  clear_value x1
  refine Keeps.step ?_ (State.modPlot_keeps _ _ _ (by first | exact fun _ h => h | exact fun _ _ => ⟨rfl, rfl⟩ | (intro x h; dsimp only; split <;> exact h) | (intro x h; split <;> exact h) | (intro x h; beta_reduce; split <;> exact h))) rfl
  assumption

theorem execMatmul_keeps (z0) (s) : KeepsO 33603716 s (execMatmul z0 s) := by
  unfold execMatmul
  refine KeepsO.next ?_
  refine State.issue_keeps _ _ _ _ _ ?_ ?_ rfl
  · exact Keeps.refl _ _
  · intro a1
    extract_lets x2 x3 x4 x5 x6 x7 x8 x9 x10 x11 x12 x13 x14
    clear_value x2
    clear_value x5
    clear_value x6
    clear_value x7
    clear_value x8
    clear_value x9
    clear_value x10
    have hx11 : KeepsP 33603716 s x11 := by
      unfold x11
      refine KeepsP.step ?_ (State.getMarked_keeps _ _ _) rfl
      exact Keeps.refl _ _
    clear_value x11
    refine Keeps.ite ?_ ?_
    · refine Keeps.step ?_ (State.failPlot_keeps _ _ _) rfl
      exact Keeps.refl _ _
    · refine Keeps.ite ?_ ?_
      · refine Keeps.step ?_ (State.failPlot_keeps _ _ _) rfl
        exact Keeps.refl _ _
      · refine Keeps.step ?_ (State.advance_keeps _ _) rfl
        refine Keeps.step ?_ (State.countMacs_keeps _ _ _) rfl
        refine Keeps.step ?_ (State.setBed_keeps _ _ _ _) rfl
        exact Keeps.refl _ _

theorem execAccClear_keeps (z0) (s) : KeepsO 16384 s (execAccClear z0 s) := by
  unfold execAccClear
  refine KeepsO.next ?_
  refine State.issue_keeps _ _ _ _ _ ?_ ?_ rfl
  · exact Keeps.refl _ _
  · intro a1
    extract_lets x2 x3 x4 x5
    clear_value x2
    clear_value x3
    refine Keeps.ite ?_ ?_
    · refine Keeps.step ?_ (State.failPlot_keeps _ _ _) rfl
      exact Keeps.refl _ _
    · refine Keeps.step ?_ (State.advance_keeps _ _) rfl
      refine Keeps.step ?_ (State.setBed_keeps _ _ _ _) rfl
      exact Keeps.refl _ _

theorem execAccAddw_keeps (z0) (s) : KeepsO 33603712 s (execAccAddw z0 s) := by
  unfold execAccAddw
  refine KeepsO.next ?_
  refine State.issue_keeps _ _ _ _ _ ?_ ?_ rfl
  · exact Keeps.refl _ _
  · intro a1
    extract_lets x2 x3 x4 x5 x6 x7 x8
    clear_value x2
    clear_value x4
    clear_value x5
    clear_value x6
    have hx7 : KeepsP 33603712 s x7 := by
      unfold x7
      refine KeepsP.step ?_ (State.getMarked_keeps _ _ _) rfl
      exact Keeps.refl _ _
    clear_value x7
    refine Keeps.ite ?_ ?_
    · refine Keeps.step ?_ (State.failPlot_keeps _ _ _) rfl
      exact Keeps.refl _ _
    · refine Keeps.ite ?_ ?_
      · refine Keeps.step ?_ (State.failPlot_keeps _ _ _) rfl
        exact Keeps.refl _ _
      · refine Keeps.step ?_ (State.advance_keeps _ _) rfl
        refine Keeps.step ?_ (State.setBed_keeps _ _ _ _) rfl
        exact Keeps.refl _ _

theorem execAccStore_keeps (z0) (s) : KeepsO 33603716 s (execAccStore z0 s) := by
  unfold execAccStore
  refine KeepsO.next ?_
  refine State.issue_keeps _ _ _ _ _ ?_ ?_ rfl
  · exact Keeps.refl _ _
  · intro a1
    extract_lets x2 x3 x4 x5 x6
    clear_value x3
    clear_value x4
    clear_value x5
    split
    · rename_i y7 y8
      refine Keeps.step ?_ (State.failPlot_keeps _ _ _) rfl
      exact Keeps.refl _ _
    · rename_i y9 y10 y11
      refine Keeps.ite ?_ ?_
      · refine Keeps.step ?_ (State.failPlot_keeps _ _ _) rfl
        exact Keeps.refl _ _
      · refine Keeps.ite ?_ ?_
        · refine Keeps.step ?_ (State.failPlot_keeps _ _ _) rfl
          exact Keeps.refl _ _
        · extract_lets x12 x13 x14
          have hx14 : Keeps 33603716 s x14 := by
            unfold x14
            refine Keeps.ite ?_ ?_
            · exact Keeps.refl _ _
            · refine Keeps.step ?_ (State.bumpBy_keeps _ _ _) rfl
              exact Keeps.refl _ _
          clear_value x14
          refine Keeps.step ?_ (State.advance_keeps _ _) rfl
          refine Keeps.step ?_ (State.orFlags_keeps _ _ _) rfl
          refine Keeps.step ?_ (State.putTilth_keeps _ _ _ _) rfl
          assumption

theorem State.putVector_keeps (s) (z1) (z2) (z3) (z4) (z5) : Keeps 33603712 s (State.putVector s z1 z2 z3 z4 z5) := by
  unfold State.putVector
  extract_lets x1 x2 x3
  clear_value x2
  clear_value x3
  refine Keeps.step ?_ (State.putTilth_keeps _ _ _ _) rfl
  exact Keeps.refl _ _

theorem State.vecOk_keeps {m : Nat} {s0 : State} (z0 : Sys2Proof.Machine.State) (z1 : ℕ) (z2 : ℕ) (z3 : List (ℕ × ℕ)) (z4 : Sys2Proof.Machine.State) (hz0 : Keeps m s0 z0) (hz4 : Keeps m s0 z4) (e : 16384 &&& m = 16384) : Keeps m s0 (State.vecOk z0 z1 z2 z3 z4) := by
  unfold State.vecOk
  refine Keeps.ite ?_ ?_
  · refine Keeps.step ?_ (State.failPlot_keeps _ _ _) (sub_mask rfl e)
    assumption
  · refine Keeps.ite ?_ ?_
    · refine Keeps.step ?_ (State.failPlot_keeps _ _ _) (sub_mask rfl e)
      assumption
    · assumption

theorem execVbin_keeps (z0) (s) : KeepsO 33603714 s (execVbin z0 s) := by
  unfold execVbin
  refine KeepsO.next ?_
  refine State.issue_keeps _ _ _ _ _ ?_ ?_ rfl
  · exact Keeps.refl _ _
  · intro a1
    extract_lets x2 x3 x4 x5 x6 x7 x8 x9
    clear_value x2
    clear_value x3
    clear_value x4
    clear_value x5
    clear_value x6
    clear_value x7
    clear_value x8
    refine Keeps.ite ?_ ?_
    · refine Keeps.step ?_ (State.failPlot_keeps _ _ _) rfl
      exact Keeps.refl _ _
    · refine State.vecOk_keeps _ _ _ _ _ ?_ ?_ rfl
      · exact Keeps.refl _ _
      · refine Keeps.step ?_ (State.advance_keeps _ _) rfl
        refine Keeps.step ?_ (State.orFlags_keeps _ _ _) rfl
        refine Keeps.step ?_ (State.putVector_keeps _ _ _ _ _ _) rfl
        refine Keeps.setfree (m := 33603714) _ ?_ rfl
        exact Keeps.refl _ _

theorem execVfma_keeps (z0) (s) : KeepsO 33603712 s (execVfma z0 s) := by
  unfold execVfma
  refine KeepsO.next ?_
  refine State.issue_keeps _ _ _ _ _ ?_ ?_ rfl
  · exact Keeps.refl _ _
  · intro a1
    extract_lets x2 x3 x4 x5 x6 x7 x8
    clear_value x2
    clear_value x3
    clear_value x4
    clear_value x5
    clear_value x6
    clear_value x7
    refine Keeps.ite ?_ ?_
    · refine Keeps.step ?_ (State.failPlot_keeps _ _ _) rfl
      exact Keeps.refl _ _
    · refine State.vecOk_keeps _ _ _ _ _ ?_ ?_ rfl
      · exact Keeps.refl _ _
      · refine Keeps.step ?_ (State.advance_keeps _ _) rfl
        refine Keeps.step ?_ (State.orFlags_keeps _ _ _) rfl
        refine Keeps.step ?_ (State.putVector_keeps _ _ _ _ _ _) rfl
        exact Keeps.refl _ _

theorem execVun_keeps (z0) (s) : KeepsO 33603714 s (execVun z0 s) := by
  unfold execVun
  refine KeepsO.next ?_
  refine State.issue_keeps _ _ _ _ _ ?_ ?_ rfl
  · exact Keeps.refl _ _
  · intro a1
    extract_lets x2 x3 x4 x5 x6 x7 x8
    clear_value x2
    clear_value x3
    clear_value x4
    clear_value x5
    clear_value x6
    clear_value x7
    refine Keeps.ite ?_ ?_
    · refine Keeps.step ?_ (State.failPlot_keeps _ _ _) rfl
      exact Keeps.refl _ _
    · refine State.vecOk_keeps _ _ _ _ _ ?_ ?_ rfl
      · exact Keeps.refl _ _
      · refine Keeps.step ?_ (State.advance_keeps _ _) rfl
        refine Keeps.step ?_ (State.orFlags_keeps _ _ _) rfl
        refine Keeps.step ?_ (State.putVector_keeps _ _ _ _ _ _) rfl
        refine Keeps.setfree (m := 33603714) _ ?_ rfl
        exact Keeps.refl _ _

theorem execVcvt_keeps (z0) (s) : KeepsO 33603712 s (execVcvt z0 s) := by
  unfold execVcvt
  refine KeepsO.next ?_
  refine State.issue_keeps _ _ _ _ _ ?_ ?_ rfl
  · exact Keeps.refl _ _
  · intro a1
    extract_lets x2 x3 x4 x5 x6 x7 x8 x9 x10 x11
    clear_value x2
    clear_value x3
    clear_value x4
    clear_value x5
    clear_value x6
    clear_value x7
    clear_value x8
    refine Keeps.ite ?_ ?_
    · refine Keeps.step ?_ (State.failPlot_keeps _ _ _) rfl
      exact Keeps.refl _ _
    · refine State.vecOk_keeps _ _ _ _ _ ?_ ?_ rfl
      · exact Keeps.refl _ _
      · refine Keeps.step ?_ (State.advance_keeps _ _) rfl
        refine Keeps.step ?_ (State.orFlags_keeps _ _ _) rfl
        refine Keeps.step ?_ (State.putVector_keeps _ _ _ _ _ _) rfl
        exact Keeps.refl _ _

theorem execVmuls_keeps (z0) (s) : KeepsO 33603712 s (execVmuls z0 s) := by
  unfold execVmuls
  refine KeepsO.next ?_
  refine State.issue_keeps _ _ _ _ _ ?_ ?_ rfl
  · exact Keeps.refl _ _
  · intro a1
    extract_lets x2 x3 x4 x5 x6 x7 x8
    clear_value x2
    clear_value x3
    clear_value x4
    clear_value x5
    clear_value x6
    refine Keeps.ite ?_ ?_
    · refine Keeps.step ?_ (State.failPlot_keeps _ _ _) rfl
      exact Keeps.refl _ _
    · refine State.vecOk_keeps _ _ _ _ _ ?_ ?_ rfl
      · exact Keeps.refl _ _
      · refine Keeps.step ?_ (State.advance_keeps _ _) rfl
        refine Keeps.step ?_ (State.orFlags_keeps _ _ _) rfl
        refine Keeps.step ?_ (State.putVector_keeps _ _ _ _ _ _) rfl
        exact Keeps.refl _ _

theorem execVred_keeps (z0) (s) : KeepsO 33603714 s (execVred z0 s) := by
  unfold execVred
  refine KeepsO.next ?_
  refine State.issue_keeps _ _ _ _ _ ?_ ?_ rfl
  · exact Keeps.refl _ _
  · intro a1
    extract_lets x2 x3 x4 x5 x6 x7 x8 x9 x10 x11 x12
    clear_value x2
    clear_value x3
    clear_value x4
    clear_value x5
    clear_value x6
    clear_value x7
    clear_value x8
    clear_value x10
    refine Keeps.ite ?_ ?_
    · refine Keeps.step ?_ (State.failPlot_keeps _ _ _) rfl
      exact Keeps.refl _ _
    · refine State.vecOk_keeps _ _ _ _ _ ?_ ?_ rfl
      · exact Keeps.refl _ _
      · refine Keeps.step ?_ (State.advance_keeps _ _) rfl
        refine Keeps.step ?_ (State.orFlags_keeps _ _ _) rfl
        refine Keeps.step ?_ (State.putTilth_keeps _ _ _ _) rfl
        refine Keeps.setfree (m := 33603714) _ ?_ rfl
        exact Keeps.refl _ _

theorem execVaddw_keeps (z0) (s) : KeepsO 33603712 s (execVaddw z0 s) := by
  unfold execVaddw
  refine KeepsO.next ?_
  refine State.issue_keeps _ _ _ _ _ ?_ ?_ rfl
  · exact Keeps.refl _ _
  · intro a1
    extract_lets x2 x3 x4 x5 x6
    clear_value x2
    clear_value x3
    clear_value x4
    clear_value x5
    refine State.vecOk_keeps _ _ _ _ _ ?_ ?_ rfl
    · exact Keeps.refl _ _
    · refine Keeps.step ?_ (State.advance_keeps _ _) rfl
      refine Keeps.step ?_ (State.putVector_keeps _ _ _ _ _ _) rfl
      exact Keeps.refl _ _

theorem execVroundw_keeps (z0) (s) : KeepsO 33603716 s (execVroundw z0 s) := by
  unfold execVroundw
  refine KeepsO.next ?_
  refine State.issue_keeps _ _ _ _ _ ?_ ?_ rfl
  · exact Keeps.refl _ _
  · intro a1
    extract_lets x2 x3 x4 x5 x6 x7 x8 x9 x10
    clear_value x2
    clear_value x3
    clear_value x4
    clear_value x5
    clear_value x6
    have hx10 : Keeps 33603716 s x10 := by
      unfold x10
      refine Keeps.step ?_ (State.bumpBy_keeps _ _ _) rfl
      exact Keeps.refl _ _
    clear_value x10
    refine Keeps.ite ?_ ?_
    · refine Keeps.step ?_ (State.failPlot_keeps _ _ _) rfl
      exact Keeps.refl _ _
    · refine State.vecOk_keeps _ _ _ _ _ ?_ ?_ rfl
      · exact Keeps.refl _ _
      · refine Keeps.step ?_ (State.advance_keeps _ _) rfl
        refine Keeps.step ?_ (State.orFlags_keeps _ _ _) rfl
        refine Keeps.step ?_ (State.putVector_keeps _ _ _ _ _ _) rfl
        assumption

end Sys2Proof.Machine
end

