-- ==== Sys2Proof/Laws/FootGlean.lean ====
section
/-! SUPPORT. The footprints of the operations of Machine/Glean.lean. -/

namespace Sys2Proof.Machine

theorem State.dccPut_keeps (s) (z1) (z2) (z3) : Keeps 70036 s (State.dccPut s z1 z2 z3) := by
  unfold State.dccPut
  refine Keeps.ite ?_ ?_
  · refine Keeps.setcoh (m := 70036) _ ?_ rfl
    exact Keeps.refl _ _
  · extract_lets x1 x2 x3
    have hx2 : Keeps 70036 s x2 := by
      unfold x2
      refine Keeps.ite ?_ ?_
      · exact Keeps.refl _ _
      · split
        · rename_i y4 y5
          exact Keeps.refl _ _
        · rename_i y6 y7 y8 y9
          extract_lets x10 x11
          have hx10 : Keeps 70036 s x10 := by
            unfold x10
            refine Keeps.setcoh (m := 70036) _ ?_ rfl
            exact Keeps.refl _ _
          clear_value x10
          refine Keeps.ite ?_ ?_
          · refine Keeps.step ?_ (State.bump_keeps _ _) rfl
            refine Keeps.step ?_ (State.post_keeps _ _) rfl
            assumption
          · assumption
    clear_value x2
    refine Keeps.setcoh (m := 70036) _ ?_ rfl
    assumption

theorem State.dccGet_keeps (s) (z1) (z2) : KeepsP 70036 s (State.dccGet s z1 z2) := by
  unfold State.dccGet
  split
  · rename_i y1 y2 y3
    refine KeepsP.mk ?_
    refine Keeps.step ?_ (State.bump_keeps _ _) rfl
    exact Keeps.refl _ _
  · rename_i y4 y5
    extract_lets x6 x7
    have hx7 : Keeps 70036 s x7 := by
      unfold x7
      refine Keeps.step ?_ (State.bump_keeps _ _) rfl
      exact Keeps.refl _ _
    clear_value x7
    refine KeepsP.mk ?_
    refine Keeps.ite ?_ ?_
    · assumption
    · refine Keeps.step ?_ (State.dccPut_keeps _ _ _ _) rfl
      assumption

theorem State.gleanHostRead_keeps (s) (z1) (z2) (z3) : KeepsP 70036 s (State.gleanHostRead s z1 z2 z3) := by
  unfold State.gleanHostRead
  refine KeepsP.ite ?_ ?_
  · refine KeepsP.foldl ?_ ?_
    · refine KeepsP.mk ?_
      exact Keeps.refl _ _
    · intro a1 a2 a3
      extract_lets x4 x5
      have hx5 : KeepsP 70036 s x5 := by
        unfold x5
        refine KeepsP.step ?_ (State.dccGet_keeps _ _ _) rfl
        refine KeepsP.fst ?_
        assumption
      clear_value x5
      refine KeepsP.mk ?_
      refine KeepsP.fst ?_
      assumption
  · refine KeepsP.mk ?_
    exact Keeps.refl _ _

theorem State.gleanHostWrite_keeps (s) (z1) (z2) (z3) (z4) (z5) : KeepsP 33673620 s (State.gleanHostWrite s z1 z2 z3 z4 z5) := by
  unfold State.gleanHostWrite
  refine KeepsP.ite ?_ ?_
  · refine KeepsP.foldl ?_ ?_
    · refine KeepsP.mk ?_
      exact Keeps.refl _ _
    · intro a1 a2 a3
      extract_lets x4 x5 x6 x7
      have hx5 : KeepsP 33673620 s x5 := by
        unfold x5
        refine KeepsP.step ?_ (State.dccGet_keeps _ _ _) rfl
        refine KeepsP.fst ?_
        assumption
      clear_value x5
      refine KeepsP.mk ?_
      refine Keeps.step ?_ (State.dccPut_keeps _ _ _ _) rfl
      refine KeepsP.fst ?_
      assumption
  · refine KeepsP.mk ?_
    refine Keeps.step ?_ (State.putBytes_keeps _ _ _ _ _ _ _) rfl
    exact Keeps.refl _ _

theorem gleanRead_keeps (z0) (s) (z2) : KeepsP 33657236 s (gleanRead z0 s z2) := by
  induction z0 generalizing s z2 with
  | nil =>
    unfold gleanRead
    refine KeepsP.mk ?_
    exact Keeps.refl _ _
  | cons x l ih =>
    unfold gleanRead
    extract_lets x1 x2 x3
    have hx1 : KeepsP 33657236 s x1 := by
      unfold x1
      refine KeepsP.step ?_ (State.getMarked_keeps _ _ _) rfl
      exact Keeps.refl _ _
    clear_value x1
    have hx2 : KeepsP 33657236 s x2 := by
      unfold x2
      split
      · rename_i y4 y5 y6
        refine KeepsP.step ?_ (State.gleanHostRead_keeps _ _ _ _) rfl
        exact Keeps.refl _ _
      · rename_i y7 y8
        refine KeepsP.mk ?_
        refine KeepsP.fst ?_
        assumption
    clear_value x2
    have hx3 : KeepsP 33657236 s x3 := by
      unfold x3
      refine KeepsP.step ?_ (ih _ _) rfl
      refine KeepsP.fst ?_
      assumption
    clear_value x3
    refine KeepsP.mk ?_
    refine KeepsP.fst ?_
    assumption

theorem gleanWrite_keeps (z0) (s) (z2) (z3) (z4) : KeepsP 33673620 s (gleanWrite z0 s z2 z3 z4) := by
  induction z0 generalizing s z2 z3 z4 with
  | nil =>
    unfold gleanWrite
    refine KeepsP.mk ?_
    exact Keeps.refl _ _
  | cons x l ih =>
    unfold gleanWrite
    extract_lets x1
    have hx1 : KeepsP 33673620 s x1 := by
      unfold x1
      split
      · rename_i y2 y3 y4
        refine KeepsP.step ?_ (State.gleanHostWrite_keeps _ _ _ _ _ _) rfl
        exact Keeps.refl _ _
      · rename_i y5 y6
        refine KeepsP.mk ?_
        refine Keeps.step ?_ (State.putMarked_keeps _ _ _) rfl
        exact Keeps.refl _ _
    clear_value x1
    refine KeepsP.step ?_ (ih _ _ _ _) rfl
    refine KeepsP.fst ?_
    assumption

theorem State.glean_keeps {m : Nat} {s0 : State} (z0 : Sys2Proof.Machine.State) (z1 : ℕ) (z2 : ℕ) (z3 : Sys2Proof.Machine.Gl → Sys2Proof.Machine.View → Sys2Proof.Machine.State) (hz0 : Keeps m s0 z0) (hz3 : ∀ b0 b1, Keeps m s0 (z3 b0 b1)) (e : 16384 &&& m = 16384) : Keeps m s0 (State.glean z0 z1 z2 z3) := by
  unfold State.glean
  split
  · rename_i y1 y2
    assumption
  · rename_i y3 y4 y5
    refine Keeps.ite ?_ ?_
    · assumption
    · extract_lets x6
      refine Keeps.ite ?_ ?_
      · assumption
      · split
        · rename_i y7 y8
          refine Keeps.step ?_ (State.failPlot_keeps _ _ _) (sub_mask rfl e)
          assumption
        · rename_i y9 y10 y11
          extract_lets x12
          clear_value x12
          refine Keeps.ite ?_ ?_
          · refine Keeps.step ?_ (State.failPlot_keeps _ _ _) (sub_mask rfl e)
            assumption
          · refine hz3 _ _

theorem State.gleanCount_keeps (s) (z1) (z2) : Keeps 16388 s (State.gleanCount s z1 z2) := by
  unfold State.gleanCount
  extract_lets x1 x2
  clear_value x1
  have hx2 : Keeps 16388 s x2 := by
    unfold x2
    refine Keeps.step ?_ (State.bumpBy_keeps _ _ _) rfl
    refine Keeps.step ?_ (State.bumpBy_keeps _ _ _) rfl
    exact Keeps.refl _ _
  clear_value x2
  refine Keeps.step ?_ (State.orFlags_keeps _ _ _) rfl
  assumption

theorem reachRows_keeps (z0) (s) (z2) (z3) (z4) (z5) (z6) (z7) : KeepsP 98196 s (reachRows z0 s z2 z3 z4 z5 z6 z7) := by
  induction z0 generalizing s z7 with
  | nil => exact Keeps.refl _ _
  | cons x l ih =>
    cases x with
    | row i =>
      have h := State.reachRange_keeps s z2 z3.space (s.viewBase z2 z3) (i * z3.ystride + z4) (i * z3.ystride + z4 + z5) z6
      unfold reachRows
      extract_lets r
      split
      · exact Keeps.step h (ih _ _) rfl
      · exact h
      · exact h
    | _ => exact ih _ _

theorem afterReach_keeps {m : Nat} {s0 : State} (z0 : Sys2Proof.Machine.State × Sys2Proof.Machine.RowsAns) (z1 : ℕ) (z2 : Sys2Proof.HostRead) (z3 : Sys2Proof.Machine.State → List (List (Sys2Proof.Machine.Target × ℕ)) → Sys2Proof.Machine.State) (hz0 : KeepsP m s0 z0) (hz3 : ∀ b0 b1, Keeps m s0 b0 → Keeps m s0 (z3 b0 b1)) (e : 82077 &&& m = 82077) : Keeps m s0 (afterReach z0 z1 z2 z3) := by
  unfold afterReach
  split
  · rename_i y1 y2
    refine KeepsP.fst ?_
    assumption
  · rename_i y3 y4 y5 y6
    refine Keeps.step ?_ (State.failPlotAt_keeps _ _ _ _) (sub_mask rfl e)
    refine KeepsP.fst ?_
    assumption
  · rename_i y7 y8 y9
    extract_lets x10
    have hx10 : KeepsP m s0 x10 := by
      unfold x10
      refine KeepsP.step ?_ (State.hostAnswers_keeps _ _ _ _) (sub_mask rfl e)
      refine KeepsP.fst ?_
      assumption
    clear_value x10
    split
    · rename_i y11 y12 y13
      refine Keeps.step ?_ (State.failPlotAt_keeps _ _ _ _) (sub_mask rfl e)
      refine KeepsP.fst ?_
      assumption
    · rename_i y14 y15
      refine hz3 _ _ ?_
      refine KeepsP.fst ?_
      assumption

theorem State.gcachePut_keeps (s) (z1) (z2) (z3) (z4) : Keeps 16384 s (State.gcachePut s z1 z2 z3 z4) := by
  unfold State.gcachePut
  refine Keeps.ite ?_ ?_
  · exact Keeps.refl _ _
  · refine Keeps.step ?_ (State.modPlot_keeps _ _ _ (by first | exact fun _ h => h | exact fun _ _ => ⟨rfl, rfl⟩ | (intro x h; dsimp only; split <;> exact h) | (intro x h; split <;> exact h) | (intro x h; beta_reduce; split <;> exact h))) rfl
    exact Keeps.refl _ _

theorem gatherRows_keeps (z0) (s) (z2) (z3) (z4) (z5) : KeepsP 33676180 s (gatherRows z0 s z2 z3 z4 z5) := by
  induction z0 generalizing s z2 z3 z4 z5 with
  | nil =>
    unfold gatherRows
    refine KeepsP.mk ?_
    exact Keeps.refl _ _
  | cons x l ih =>
    unfold gatherRows
    extract_lets x1 x2 x3
    clear_value x1
    have hx2 : KeepsP 33676180 s x2 := by
      unfold x2
      split
      · rename_i y4 y5 y6
        extract_lets x7 x8 x9
        clear_value x7
        have hx8 : KeepsP 33676180 s x8 := by
          unfold x8
          refine KeepsP.step ?_ (gleanRead_keeps _ _ _) rfl
          refine Keeps.step ?_ (State.noteLines_keeps _ _ _ _ _) rfl
          exact Keeps.refl _ _
        clear_value x8
        have hx9 : Keeps 33676180 s x9 := by
          unfold x9
          refine Keeps.ite ?_ ?_
          · refine KeepsP.fst ?_
            assumption
          · refine Keeps.step ?_ (State.gcachePut_keeps _ _ _ _ _) rfl
            refine KeepsP.fst ?_
            assumption
        clear_value x9
        refine KeepsP.ite ?_ ?_
        · refine KeepsP.step ?_ (gleanRead_keeps _ _ _) rfl
          refine Keeps.step ?_ (State.noteLines_keeps _ _ _ _ _) rfl
          exact Keeps.refl _ _
        · split
          · rename_i y10 y11 y12
            refine KeepsP.mk ?_
            refine Keeps.step ?_ (State.bump_keeps _ _) rfl
            exact Keeps.refl _ _
          · rename_i y13 y14
            refine KeepsP.mk ?_
            assumption
      · rename_i y15 y16
        refine KeepsP.mk ?_
        exact Keeps.refl _ _
    clear_value x2
    have hx3 : KeepsP 33676180 s x3 := by
      unfold x3
      refine KeepsP.step ?_ (ih _ _ _ _ _) rfl
      refine KeepsP.fst ?_
      assumption
    clear_value x3
    refine KeepsP.mk ?_
    refine KeepsP.fst ?_
    assumption

theorem execGather_keeps (z0) (z1) (s) : KeepsO 33685405 s (execGather z0 z1 s) := by
  unfold execGather
  refine KeepsO.next ?_
  refine State.glean_keeps _ _ _ _ ?_ ?_ rfl
  · exact Keeps.refl _ _
  · intro a1 a2
    extract_lets x3 x4 x5 x6
    clear_value x4
    have hx6 : KeepsP 33685405 s x6 := by
      unfold x6
      refine KeepsP.ite ?_ ?_
      · refine KeepsP.step ?_ (reachRows_keeps _ _ _ _ _ _ _ _) rfl
        exact Keeps.refl _ _
      · refine KeepsP.step ?_ (reachRows_keeps _ _ _ _ _ _ _ _) rfl
        exact Keeps.refl _ _
    clear_value x6
    refine afterReach_keeps _ _ _ _ ?_ ?_ rfl
    · assumption
    · intro a7 a8 a9
      extract_lets x10
      have hx10 : KeepsP 33685405 s x10 := by
        unfold x10
        refine KeepsP.step ?_ (gatherRows_keeps _ _ _ _ _ _) rfl
        assumption
      clear_value x10
      refine Keeps.step ?_ (State.advance_keeps _ _) rfl
      refine Keeps.step ?_ (State.gleanCount_keeps _ _ _) rfl
      refine Keeps.step ?_ (State.putTilth_keeps _ _ _ _) rfl
      refine KeepsP.fst ?_
      assumption

theorem State.gcacheDrop_keeps (s) (z1) (z2) (z3) : Keeps 16384 s (State.gcacheDrop s z1 z2 z3) := by
  unfold State.gcacheDrop
  refine Keeps.step ?_ (State.modPlot_keeps _ _ _ (by first | exact fun _ h => h | exact fun _ _ => ⟨rfl, rfl⟩ | (intro x h; dsimp only; split <;> exact h) | (intro x h; split <;> exact h) | (intro x h; beta_reduce; split <;> exact h))) rfl
  exact Keeps.refl _ _

theorem scatterRows_keeps (z0) (s) (z2) (z3) (z4) (z5) (z6) (z7) : Keeps 33673620 s (scatterRows z0 s z2 z3 z4 z5 z6 z7) := by
  induction z0 generalizing s z2 z3 z4 z5 z6 z7 with
  | nil =>
    unfold scatterRows
    exact Keeps.refl _ _
  | cons x l ih =>
    unfold scatterRows
    extract_lets x1 x2 x3 x4
    have hx2 : KeepsP 33673620 s x2 := by
      unfold x2
      refine KeepsP.ite ?_ ?_
      · refine KeepsP.mk ?_
        exact Keeps.refl _ _
      · refine KeepsP.step ?_ (gleanRead_keeps _ _ _) rfl
        exact Keeps.refl _ _
    clear_value x2
    clear_value x4
    split
    · rename_i y5 y6 y7
      extract_lets x8 x9 x10 x11
      clear_value x8
      have hx9 : KeepsP 33673620 s x9 := by
        unfold x9
        refine KeepsP.step ?_ (gleanWrite_keeps _ _ _ _ _) rfl
        refine KeepsP.fst ?_
        assumption
      clear_value x9
      have hx10 : Keeps 33673620 s x10 := by
        unfold x10
        refine Keeps.step ?_ (State.orFlags_keeps _ _ _) rfl
        refine Keeps.step ?_ (State.gcacheDrop_keeps _ _ _ _) rfl
        refine KeepsP.fst ?_
        assumption
      clear_value x10
      have hx11 : Keeps 33673620 s x11 := by
        unfold x11
        refine Keeps.ite ?_ ?_
        · refine Keeps.step ?_ (State.modPlot_keeps _ _ _ (by first | exact fun _ h => h | exact fun _ _ => ⟨rfl, rfl⟩ | (intro x h; dsimp only; split <;> exact h) | (intro x h; split <;> exact h) | (intro x h; beta_reduce; split <;> exact h))) rfl
          assumption
        · assumption
      clear_value x11
      refine Keeps.step ?_ (ih _ _ _ _ _ _ _) rfl
      assumption
    · rename_i y12 y13
      refine Keeps.step ?_ (ih _ _ _ _ _ _ _) rfl
      exact Keeps.refl _ _

theorem State.scatter_keeps (s) (z1) (z2) (z3) : Keeps 33685405 s (State.scatter s z1 z2 z3) := by
  unfold State.scatter
  refine State.glean_keeps _ _ _ _ ?_ ?_ rfl
  · exact Keeps.refl _ _
  · intro a1 a2
    extract_lets x3 x4 x5
    clear_value x4
    refine afterReach_keeps _ _ _ _ ?_ ?_ rfl
    · refine KeepsP.step ?_ (reachRows_keeps _ _ _ _ _ _ _ _) rfl
      exact Keeps.refl _ _
    · intro a6 a7 a8
      extract_lets x9 x10
      have hx9 : KeepsP 33685405 s x9 := by
        unfold x9
        refine KeepsP.step ?_ (State.getMarked_keeps _ _ _) rfl
        assumption
      clear_value x9
      have hx10 : Keeps 33685405 s x10 := by
        unfold x10
        refine Keeps.step ?_ (scatterRows_keeps _ _ _ _ _ _ _ _) rfl
        refine KeepsP.fst ?_
        assumption
      clear_value x10
      refine Keeps.step ?_ (State.advance_keeps _ _) rfl
      refine Keeps.step ?_ (State.noteLines_keeps _ _ _ _ _) rfl
      refine Keeps.step ?_ (State.gleanCount_keeps _ _ _) rfl
      assumption

theorem execScatter_keeps (z0) (z1) (s) : KeepsO 33685405 s (execScatter z0 z1 s) := by
  unfold execScatter
  refine KeepsO.next ?_
  refine Keeps.step ?_ (State.scatter_keeps _ _ _ _) rfl
  exact Keeps.refl _ _

theorem execScatterAdd_keeps (z0) (z1) (s) : KeepsO 33685405 s (execScatterAdd z0 z1 s) := by
  unfold execScatterAdd
  refine KeepsO.next ?_
  refine Keeps.step ?_ (State.scatter_keeps _ _ _ _) rfl
  exact Keeps.refl _ _

theorem execScatterAddw_keeps (z0) (z1) (s) : KeepsO 33685405 s (execScatterAddw z0 z1 s) := by
  unfold execScatterAddw
  refine KeepsO.next ?_
  refine Keeps.step ?_ (State.scatter_keeps _ _ _ _) rfl
  exact Keeps.refl _ _

theorem State.gleanBytes_keeps (s) (z1) (z2) (z3) (z4) (z5) (z6) : KeepsP 33685405 s (State.gleanBytes s z1 z2 z3 z4 z5 z6) := by
  unfold State.gleanBytes
  extract_lets x1
  have hx1 : KeepsP 33685405 s x1 := by
    unfold x1
    refine KeepsP.step ?_ (reachRanges_keeps _ _ _ _ _ _ _) rfl
    exact Keeps.refl _ _
  clear_value x1
  split
  · rename_i y2 y3
    refine KeepsP.mk ?_
    refine KeepsP.fst ?_
    assumption
  · rename_i y4 y5 y6 y7
    refine KeepsP.mk ?_
    refine KeepsP.fst ?_
    assumption
  · rename_i y8 y9 y10
    extract_lets x11 x12
    have hx11 : KeepsP 33685405 s x11 := by
      unfold x11
      refine KeepsP.step ?_ (State.hostAnswers_keeps _ _ _ _) rfl
      refine KeepsP.fst ?_
      assumption
    clear_value x11
    have hx12 : KeepsP 33685405 s x12 := by
      unfold x12
      refine KeepsP.step ?_ (gleanRead_keeps _ _ _) rfl
      refine Keeps.step ?_ (State.noteLines_keeps _ _ _ _ _) rfl
      refine KeepsP.fst ?_
      assumption
    clear_value x12
    split
    · rename_i y13 y14 y15
      refine KeepsP.mk ?_
      refine KeepsP.fst ?_
      assumption
    · rename_i y16 y17
      refine KeepsP.mk ?_
      refine KeepsP.fst ?_
      assumption

theorem csrNodes_keeps (z0) (s) (z2) (z3) (z4) (z5) (z6) (z7) (z8) (z9) : KeepsP 33685405 s (csrNodes z0 s z2 z3 z4 z5 z6 z7 z8 z9) := by
  induction z0 generalizing s z7 z8 z9 with
  | nil => exact Keeps.refl _ _
  | cons x l ih =>
    cases x with
    | row v =>
      unfold csrNodes
      have h := State.gleanBytes_keeps s z2 z3 (8 * v) 16 z6 z7
      extract_lets r top room
      split
      · exact h
      · extract_lets lo hi bad inside n q
        have hq : KeepsP 33685405 s q := Keeps.step h (State.gleanBytes_keeps _ _ _ _ _ _ _) rfl
        clear_value q
        split
        · exact hq
        · extract_lets out
          exact KeepsP.ite hq (Keeps.step hq (ih _ _ _ _) rfl)
    | _ => exact ih _ _ _ _

theorem execCsrExpand_keeps (z0) (z1) (s) : KeepsO 33685405 s (execCsrExpand z0 z1 s) := by
  unfold execCsrExpand
  refine KeepsO.next ?_
  refine State.glean_keeps _ _ _ _ ?_ ?_ rfl
  · exact Keeps.refl _ _
  · intro a1 a2
    split
    · rename_i y3 y4
      refine Keeps.step ?_ (State.failPlot_keeps _ _ _) rfl
      exact Keeps.refl _ _
    · rename_i y5 y6 y7
      extract_lets x8 x9
      have hx9 : KeepsP 33685405 s x9 := by
        unfold x9
        refine KeepsP.step ?_ (csrNodes_keeps _ _ _ _ _ _ _ _ _ _) rfl
        exact Keeps.refl _ _
      clear_value x9
      split
      · rename_i y10 y11 y12 y13
        refine Keeps.ite ?_ ?_
        · refine KeepsP.fst ?_
          assumption
        · refine Keeps.step ?_ (State.failPlotAt_keeps _ _ _ _) rfl
          refine KeepsP.fst ?_
          assumption
      · rename_i y14 y15 y16 y17 y18
        extract_lets x19 x20
        have hx19 : Keeps 33685405 s x19 := by
          unfold x19
          refine Keeps.step ?_ (State.putTilth_keeps _ _ _ _) rfl
          refine Keeps.step ?_ (State.putTilth_keeps _ _ _ _) rfl
          refine KeepsP.fst ?_
          assumption
        clear_value x19
        have hx20 : Keeps 33685405 s x20 := by
          unfold x20
          refine Keeps.step ?_ (State.bumpBy_keeps _ _ _) rfl
          refine Keeps.step ?_ (State.bumpBy_keeps _ _ _) rfl
          assumption
        clear_value x20
        refine Keeps.step ?_ (State.advance_keeps _ _) rfl
        refine Keeps.step ?_ (State.orFlags_keeps _ _ _) rfl
        assumption

end Sys2Proof.Machine
end

