-- ==== Sys2Proof/Laws/FootReset.lean ====
section
/-! SUPPORT. The footprints of the operations of Machine/Reset.lean. -/

namespace Sys2Proof.Machine

theorem State.ownCommit_keeps (s) : Keeps 131072 s (State.ownCommit s) := by
  unfold State.ownCommit
  split
  · rename_i y1 y2
    exact Keeps.refl _ _
  · rename_i y3 y4
    refine Keeps.setdict (m := 131072) _ ?_ rfl
    exact Keeps.refl _ _
  · rename_i y5 y6 y7
    refine Keeps.setdict (m := 131072) _ ?_ rfl
    exact Keeps.refl _ _

theorem State.chooseBank_keeps (s) : Keeps 131072 s (State.chooseBank s) := by
  unfold State.chooseBank
  extract_lets x1 x2 x3
  refine Keeps.setdict (m := 131072) _ ?_ rfl
  exact Keeps.refl _ _

theorem State.restore_keeps (s) (z1) : Keeps 4 s (State.restore s z1) := by
  unfold State.restore
  extract_lets x1
  refine Keeps.setod (m := 4) _ ?_ (fun i => foldl_rises _ _ _ (fun _ _ j => kvSet_rises _ _ _ _ j) (filter_rises _ _ i)) rfl
  exact Keeps.refl _ _

theorem State.bindMigRow_keeps (s) : Keeps 2056 s (State.bindMigRow s) := by
  unfold State.bindMigRow
  refine Keeps.ite ?_ ?_
  · exact Keeps.refl _ _
  · extract_lets x1 x2 x3
    clear_value x1
    have hx2 : Keeps 2056 s x2 := by
      unfold x2
      refine Keeps.step ?_ (State.setRg_keeps _ _ _) rfl
      exact Keeps.refl _ _
    clear_value x2
    refine Keeps.setmig (m := 2056) _ ?_ rfl
    assumption

theorem State.unbindMigRow_keeps (s) : Keeps 2056 s (State.unbindMigRow s) := by
  unfold State.unbindMigRow
  refine Keeps.ite ?_ ?_
  · exact Keeps.refl _ _
  · extract_lets x1 x2 x3
    clear_value x1
    have hx2 : Keeps 2056 s x2 := by
      unfold x2
      refine Keeps.step ?_ (State.setRg_keeps _ _ _) rfl
      exact Keeps.refl _ _
    clear_value x2
    refine Keeps.setmig (m := 2056) _ ?_ rfl
    assumption

theorem State.resetSplit_keeps (s) : Keeps 69132 s (State.resetSplit s) := by
  unfold State.resetSplit
  extract_lets x1 x2 x3 x4 x5
  have hx1 : Keeps 69132 s x1 := by
    unfold x1
    refine Keeps.step ?_ (State.unbindMigRow_keeps _) rfl
    exact Keeps.refl _ _
  clear_value x1
  have hx2 : Keeps 69132 s x2 := by
    unfold x2
    refine Keeps.each ?_ ?_
    · assumption
    · intro a6 a7 a8
      refine Keeps.step ?_ (State.setVal_keeps _ _ _) rfl
      assumption
  clear_value x2
  refine Keeps.step (m' := 67072) (t := x2) ?_ (by constructor <;> first | exact fun b => Bool.noConfusion b | exact fun _ => rfl | exact rfl | exact Nat.le_refl _ | exact id) rfl
  assumption

theorem State.clearGcore_keeps (s) : Keeps 536899336 s (State.clearGcore s) := by
  unfold State.clearGcore
  extract_lets x1 x2
  have hx2 : Keeps 536899336 s x2 := by
    unfold x2
    refine Keeps.step (m' := 536899328) (t := s) ?_ (by constructor <;> first | exact fun b => Bool.noConfusion b | exact fun _ => rfl | exact rfl | exact Nat.le_refl _ | (intro i; obtain ⟨i1, i2, i3, i4, i5, i6, i7, i8, i9, j1, j2, j3, j4⟩ := i; refine ⟨?_, ?_, ?_, ?_, ?_, ?_, ?_, ?_, ?_, ?_, ?_, ?_, ?_⟩ <;> first | assumption | rfl | exact kvSet_rises _ _ _ _ (by assumption) | exact kvPut_rises _ _ _ (by assumption) | exact kvErase_rises _ _ (by assumption) | exact memZero_rises _ _ _ (by assumption) | exact filter_rises _ _ (by assumption) | exact filter_rises _ _ (map_rises _ _ (fun _ => rfl) (by assumption)) | exact PlotsWf.cleared _ _ (by assumption) | exact ⟨rfl, fun _ h => nomatch h⟩ | exact map_rises _ _ (fun _ => rfl) (by assumption))) rfl
    exact Keeps.refl _ _
  clear_value x2
  refine Keeps.step ?_ (State.bindMigRow_keeps _) rfl
  refine Keeps.step ?_ (State.resetRegs_keeps _ _ _) rfl
  refine Keeps.step ?_ (State.resetRegs_keeps _ _ _) rfl
  refine Keeps.step ?_ (State.resetRegs_keeps _ _ _) rfl
  assumption

theorem State.unfreeze_keeps (s) : Keeps 136 s (State.unfreeze s) := by
  unfold State.unfreeze
  extract_lets x1 x2 x3
  clear_value x1
  have hx3 : Keeps 136 s x3 := by
    unfold x3
    refine Keeps.sethost (m := 136) _ ?_ id rfl
    exact Keeps.refl _ _
  clear_value x3
  refine Keeps.step ?_ (State.setRg_keeps _ _ _) rfl
  assumption

theorem State.endErases_keeps (s) : Keeps 268435456 s (State.endErases s) := by
  unfold State.endErases
  refine Keeps.each ?_ ?_
  · exact Keeps.refl _ _
  · intro a1 a2 a3
    refine Keeps.step ?_ (State.nandErase_keeps _ _) rfl
    assumption

theorem State.abortErases_keeps (s) : Keeps 268435456 s (State.abortErases s) := by
  unfold State.abortErases
  refine Keeps.each ?_ ?_
  · exact Keeps.refl _ _
  · intro a1 a2 a3
    refine Keeps.step ?_ (State.setSeed_keeps _ _) rfl
    assumption

theorem State.scrubOnReset_keeps (s) : Keeps 33558532 s (State.scrubOnReset s) := by
  unfold State.scrubOnReset
  refine Keeps.ite ?_ ?_
  · extract_lets x1 x2
    refine Keeps.step ?_ (State.snoops_keeps _ _ _) rfl
    refine Keeps.step ?_ (State.pendScrub_keeps _) rfl
    refine Keeps.setcoh (m := 33558532) _ ?_ rfl
    exact Keeps.refl _ _
  · exact Keeps.refl _ _

theorem State.clearFunction_keeps (s) (z1) : Keeps 870449148 s (State.clearFunction s z1) := by
  unfold State.clearFunction
  extract_lets x1 x2 x3 x4 x5 x6 x7 x8 x9 x10 x11 x12 x13 x14 x15 x16 x17 x18 x19 x20 x21
  have hx1 : Keeps 870449148 s x1 := by
    unfold x1
    refine Keeps.step ?_ (State.flushDcc_keeps _ _) rfl
    exact Keeps.refl _ _
  clear_value x1
  have hx4 : Keeps 870449148 s x4 := by
    unfold x4
    refine Keeps.setfab (m := 870449148) _ ?_ id rfl
    assumption
  clear_value x4
  have hx5 : Keeps 870449148 s x5 := by
    unfold x5
    refine Keeps.step ?_ (State.payOwed_keeps _) rfl
    refine Keeps.each ?_ ?_
    · assumption
    · intro a22 a23 a24
      refine Keeps.step ?_ (State.giveBack_keeps _ _ _ _) rfl
      refine Keeps.step ?_ (State.refuseMsg_keeps _ _ _) rfl
      assumption
  clear_value x5
  have hx6 : Keeps 870449148 s x6 := by
    unfold x6
    refine Keeps.step ?_ (State.rotFundamental_keeps _) rfl
    assumption
  clear_value x6
  have hx7 : Keeps 870449148 s x7 := by
    unfold x7
    refine Keeps.step ?_ (State.clearGcore_keeps _) rfl
    refine Keeps.step ?_ (State.resetSplit_keeps _) rfl
    refine Keeps.step ?_ (State.endErases_keeps _) rfl
    assumption
  clear_value x7
  have hx8 : Keeps 870449148 s x8 := by
    unfold x8
    refine Keeps.step ?_ (State.leaveSlice_keeps _) rfl
    assumption
  clear_value x8
  have hx10 : Keeps 870449148 s x10 := by
    unfold x10
    refine Keeps.setfab (m := 870449148) _ ?_ id rfl
    assumption
  clear_value x10
  have hx11 : Keeps 870449148 s x11 := by
    unfold x11
    refine Keeps.ite ?_ ?_
    · assumption
    · refine Keeps.step ?_ (State.resetCoh_keeps _) rfl
      assumption
  clear_value x11
  have hx12 : Keeps 870449148 s x12 := by
    unfold x12
    refine Keeps.step ?_ (State.scrubOnReset_keeps _) rfl
    assumption
  clear_value x12
  have hx13 : Keeps 870449148 s x13 := by
    unfold x13
    refine Keeps.ite ?_ ?_
    · assumption
    · refine Keeps.step ?_ (State.unfreeze_keeps _) rfl
      assumption
  clear_value x13
  clear_value x14
  have hx15 : Keeps 870449148 s x15 := by
    unfold x15
    refine Keeps.step ?_ (State.setRg_keeps _ _ _) rfl
    refine Keeps.step ?_ (State.resetRegs_keeps _ _ _) rfl
    refine Keeps.step ?_ (State.resetRegs_keeps _ _ _) rfl
    assumption
  clear_value x15
  have hx16 : Keeps 870449148 s x16 := by
    unfold x16
    refine Keeps.step ?_ (State.resetRegs_keeps _ _ _) rfl
    assumption
  clear_value x16
  have hx19 : Keeps 870449148 s x19 := by
    unfold x19
    refine Keeps.step (m' := 65568) (t := x16) ?_ (by constructor <;> first | exact fun b => Bool.noConfusion b | exact fun _ => rfl | exact rfl | exact Nat.le_refl _ | (intro i; obtain ⟨i1, i2, i3, i4, i5, i6, i7, i8, i9, j1, j2, j3, j4⟩ := i; refine ⟨?_, ?_, ?_, ?_, ?_, ?_, ?_, ?_, ?_, ?_, ?_, ?_, ?_⟩ <;> first | assumption | rfl | exact kvSet_rises _ _ _ _ (by assumption) | exact kvPut_rises _ _ _ (by assumption) | exact kvErase_rises _ _ (by assumption) | exact memZero_rises _ _ _ (by assumption) | exact filter_rises _ _ (by assumption) | exact filter_rises _ _ (map_rises _ _ (fun _ => rfl) (by assumption)) | exact PlotsWf.cleared _ _ (by assumption) | exact ⟨rfl, fun _ h => nomatch h⟩ | exact map_rises _ _ (fun _ => rfl) (by assumption))) rfl
    assumption
  clear_value x19
  refine Keeps.ite ?_ ?_
  · refine Keeps.step ?_ (State.resetCfg_keeps _ _ _) rfl
    refine Keeps.sethost (m := 870449148) _ ?_ id rfl
    assumption
  · refine Keeps.step ?_ (State.resetCfg_keeps _ _ _) rfl
    refine Keeps.step (m' := 33554624) (t := x19) ?_ (by constructor <;> first | exact fun b => Bool.noConfusion b | exact fun _ => rfl | exact rfl | exact Nat.le_refl _ | exact id) rfl
    assumption

theorem State.cause_keeps (s) (z1) : Keeps 4 s (State.cause s z1) := by
  unfold State.cause
  refine Keeps.step ?_ (State.setVal_keeps _ _ _) rfl
  exact Keeps.refl _ _

theorem State.hostReset_keeps (s) : Keeps 870449148 s (State.hostReset s) := by
  unfold State.hostReset
  refine Keeps.step ?_ (State.clearFunction_keeps _ _) rfl
  exact Keeps.refl _ _

theorem State.loadCal_keeps (s) : Keeps 65540 s (State.loadCal s) := by
  unfold State.loadCal
  extract_lets x1 x2
  have hx1 : Keeps 65540 s x1 := by
    unfold x1
    refine Keeps.each ?_ ?_
    · exact Keeps.refl _ _
    · intro a3 a4 a5
      refine Keeps.ite ?_ ?_
      · refine Keeps.step ?_ (State.setCal_keeps _ _ _ _) rfl
        assumption
      · split
        · rename_i y6 y7 y8 y9 y10
          refine Keeps.step ?_ (State.setCal_keeps _ _ _ _) rfl
          assumption
        · rename_i y11 y12
          refine Keeps.step ?_ (State.setCal_keeps _ _ _ _) rfl
          assumption
  clear_value x1
  have hx2 : Keeps 65540 s x2 := by
    unfold x2
    refine Keeps.step ?_ (State.setVal_keeps _ _ _) rfl
    refine Keeps.step ?_ (State.setVal_keeps _ _ _) rfl
    assumption
  clear_value x2
  refine Keeps.step ?_ (State.raiseIf_keeps _ _ _ _) rfl
  assumption

theorem State.tearCal_keeps (s) : Keeps 67108870 s (State.tearCal s) := by
  unfold State.tearCal
  refine Keeps.ite ?_ ?_
  · extract_lets x1 x2 x3
    have hx1 : KeepsN 67108870 s x1 := by
      unfold x1
      refine KeepsN.step ?_ (State.draw_keeps _) rfl
      exact Keeps.refl _ _
    clear_value x1
    have hx2 : Keeps 67108870 s x2 := by
      unfold x2
      refine KeepsN.snd ?_
      assumption
    refine Keeps.step ?_ (State.setVal_keeps _ _ _) rfl
    refine Keeps.setcal (m := 67108870) _ ?_ rfl
    assumption
  · exact Keeps.refl _ _

theorem State.tearFw_keeps (s) : Keeps 135266304 s (State.tearFw s) := by
  unfold State.tearFw
  split
  · rename_i y1 y2
    refine Keeps.setfw (m := 135266304) _ ?_ rfl
    exact Keeps.refl _ _
  · rename_i y3 y4
    refine Keeps.setfw (m := 135266304) _ ?_ rfl
    exact Keeps.refl _ _
  · rename_i y5 y6
    refine Keeps.setfw (m := 135266304) _ ?_ rfl
    exact Keeps.refl _ _
  · rename_i y7 y8
    exact Keeps.refl _ _
  · rename_i y9 y10 y11 y12 y13
    extract_lets x14 x15
    clear_value x14
    refine Keeps.step (m' := 135266304) (t := s) ?_ (by constructor <;> first | exact fun b => Bool.noConfusion b | exact fun _ => rfl | exact rfl | exact Nat.le_refl _ | exact id) rfl
    exact Keeps.refl _ _

theorem State.cold_keeps (s) : Keeps 2147483646 s (State.cold s) := by
  unfold State.cold
  extract_lets s1 s2 lost kept r0 r1 r2 t1 t2 m r3
  have h1 : Keeps 2147483646 s s1 := by
    refine Keeps.step ?_ (State.abortErases_keeps _) rfl
    refine Keeps.step ?_ (State.rotPowerLoss_keeps _) rfl
    refine Keeps.step ?_ (State.tearFw_keeps _) rfl
    exact Keeps.step (Keeps.refl _ _) (State.tearCal_keeps _) rfl
  have h2 : Keeps 2147483646 s s2 := Keeps.step h1 (State.chooseBank_keeps _) rfl
  have h3 : Keeps 2147483646 s t1 := by
    refine Keeps.trans h2 ?_
    constructor <;> first | exact fun b => Bool.noConfusion b | exact fun _ => rfl | exact rfl | exact Nat.le_refl _ | exact fun i => ⟨rfl, rfl, foldl_rises _ _ _ (fun _ _ h => kvSet_rises _ _ _ _ h) (filter_rises _ _ i.2.2.1), rfl, rfl, rfl, ⟨rfl, fun _ h => nomatch h⟩, rfl, rfl, rfl, rfl, rfl, rfl⟩
  have h4 : Keeps 2147483646 s t2 := Keeps.step h3 (State.restore_keeps _ _) rfl
  refine Keeps.step ?_ (State.bindMigRow_keeps _) rfl
  refine Keeps.trans h4 ?_
  constructor <;> first | exact fun b => Bool.noConfusion b | exact fun _ => rfl | exact rfl | exact Nat.le_refl _ | exact id

theorem State.takeReadings_keeps (s) (z1) : Keeps 33554432 s (State.takeReadings s z1) := by
  unfold State.takeReadings
  refine Keeps.setpwr (m := 33554432) _ ?_ rfl
  exact Keeps.refl _ _

theorem State.gatePlot_keeps (s) (z1) : Keeps 16384 s (State.gatePlot s z1) := by
  unfold State.gatePlot
  refine Keeps.step ?_ (State.modPlot_keeps _ _ _ (by first | exact fun _ h => h | exact fun _ _ => ⟨rfl, rfl⟩ | (intro x h; dsimp only; split <;> exact h) | (intro x h; split <;> exact h) | (intro x h; beta_reduce; split <;> exact h))) rfl
  exact Keeps.refl _ _

theorem State.holdOff_keeps (s) (z1) : Keeps 35782558 s (State.holdOff s z1) := by
  unfold State.holdOff
  extract_lets x1 x2 x3 x4 x5
  have hx2 : KeepsN 35782558 s x2 := by
    unfold x2
    refine KeepsN.step ?_ (State.draw_keeps _) rfl
    exact Keeps.refl _ _
  clear_value x2
  have hx3 : Keeps 35782558 s x3 := by
    unfold x3
    refine Keeps.ite ?_ ?_
    · refine Keeps.step ?_ (State.settleStakes_keeps _) rfl
      refine Keeps.step ?_ (State.haltProgram_keeps _ _ _ _ _) rfl
      refine KeepsN.snd ?_
      assumption
    · exact Keeps.refl _ _
  clear_value x3
  have hx5 : Keeps 35782558 s x5 := by
    unfold x5
    refine Keeps.setpwr (m := 35782558) _ ?_ rfl
    assumption
  clear_value x5
  refine Keeps.ite ?_ ?_
  · refine Keeps.step ?_ (State.modPlot_keeps _ _ _ (by first | exact fun _ h => h | exact fun _ _ => ⟨rfl, rfl⟩ | (intro x h; dsimp only; split <;> exact h) | (intro x h; split <;> exact h) | (intro x h; beta_reduce; split <;> exact h))) rfl
    assumption
  · refine Keeps.step ?_ (State.gatePlot_keeps _ _) rfl
    assumption

theorem State.failSensor_keeps (s) (z1) : Keeps 35782558 s (State.failSensor s z1) := by
  unfold State.failSensor
  refine Keeps.ite ?_ ?_
  · exact Keeps.refl _ _
  · extract_lets x1 x2 x3 x4 x5
    have hx1 : Keeps 35782558 s x1 := by
      unfold x1
      refine Keeps.step ?_ (State.raise_keeps _ _ _) rfl
      refine Keeps.step ?_ (State.setVal_keeps _ _ _) rfl
      exact Keeps.refl _ _
    clear_value x1
    have hx3 : KeepsN 35782558 s x3 := by
      unfold x3
      refine KeepsN.step ?_ (State.draw_keeps _) rfl
      assumption
    clear_value x3
    have hx4 : Keeps 35782558 s x4 := by
      unfold x4
      refine Keeps.step ?_ (State.takeReadings_keeps _ _) rfl
      refine KeepsN.snd ?_
      assumption
    clear_value x4
    refine Keeps.ite ?_ ?_
    · assumption
    · refine Keeps.ite ?_ ?_
      · refine Keeps.step ?_ (State.holdOff_keeps _ _) rfl
        assumption
      · refine Keeps.ite ?_ ?_
        · refine Keeps.setpwr (m := 35782558) _ ?_ rfl
          assumption
        · assumption

theorem State.noteCool_keeps (s) : Keeps 268435456 s (State.noteCool s) := by
  unfold State.noteCool
  refine Keeps.ite ?_ ?_
  · extract_lets x1
    clear_value x1
    refine Keeps.step ?_ (State.setSeed_keeps _ _) rfl
    exact Keeps.refl _ _
  · exact Keeps.refl _ _

theorem State.sense_keeps (s) (z1) : Keeps 304218014 s (State.sense s z1) := by
  unfold State.sense
  refine Keeps.each ?_ ?_
  · exact Keeps.refl _ _
  · intro a1 a2 a3
    extract_lets x4 x5
    clear_value x4
    have hx5 : Keeps 304218014 s x5 := by
      unfold x5
      refine Keeps.step ?_ (State.takeReadings_keeps _ _) rfl
      assumption
    clear_value x5
    refine Keeps.ite ?_ ?_
    · refine Keeps.step ?_ (State.failSensor_keeps _ _) rfl
      assumption
    · refine Keeps.step ?_ (State.noteCool_keeps _) rfl
      refine Keeps.ite ?_ ?_
      · refine Keeps.step ?_ (State.setVal_keeps _ _ _) rfl
        assumption
      · assumption

theorem State.startUp_keeps (s) (z1) (z2) (z3) : Keeps 2147483646 s (State.startUp s z1 z2 z3) := by
  unfold State.startUp
  extract_lets x1 x2 x3 x4 x5 x6 x7 x8 x9 x10 x11
  clear_value x1
  have hx2 : Keeps 2147483646 s x2 := by
    unfold x2
    refine Keeps.step ?_ (State.cold_keeps _) rfl
    exact Keeps.refl _ _
  clear_value x2
  have hx3 : Keeps 2147483646 s x3 := by
    unfold x3
    refine Keeps.ite ?_ ?_
    · refine Keeps.step ?_ (State.setVal_keeps _ _ _) rfl
      assumption
    · assumption
  clear_value x3
  clear_value x5
  clear_value x7
  have hx8 : Keeps 2147483646 s x8 := by
    unfold x8
    refine Keeps.ite ?_ ?_
    · refine Keeps.step ?_ (State.bump_keeps _ _) rfl
      assumption
    · assumption
  clear_value x8
  have hx10 : Keeps 2147483646 s x10 := by
    unfold x10
    refine Keeps.setpwr (m := 2147483646) _ ?_ rfl
    assumption
  clear_value x10
  have hx11 : Keeps 2147483646 s x11 := by
    unfold x11
    refine Keeps.step ?_ (State.setVal_keeps _ _ _) rfl
    refine Keeps.step ?_ (State.setVal_keeps _ _ _) rfl
    refine Keeps.step ?_ (State.setVal_keeps _ _ _) rfl
    assumption
  clear_value x11
  refine Keeps.ite ?_ ?_
  · refine Keeps.step ?_ (State.setVal_keeps _ _ _) rfl
    refine Keeps.step ?_ (State.setVal_keeps _ _ _) rfl
    refine Keeps.setpwr (m := 2147483646) _ ?_ rfl
    assumption
  · refine Keeps.step ?_ (State.setVal_keeps _ _ _) rfl
    refine Keeps.step ?_ (State.bump_keeps _ _) rfl
    assumption

theorem execPowerOn_keeps (z0) (z1) (s) : KeepsO 2147483647 s (execPowerOn z0 z1 s) := by
  unfold execPowerOn
  refine KeepsO.ite ?_ ?_
  · refine KeepsO.next ?_
    exact Keeps.refl _ _
  · extract_lets x1 x2 x3 x4 x5 x6 x7
    have hx1 : Keeps 2147483647 s x1 := by
      unfold x1
      split
      · rename_i y8 y9 y10
        refine Keeps.step ?_ (State.until__keeps _ _) rfl
        exact Keeps.refl _ _
      · rename_i y11 y12
        exact Keeps.refl _ _
    clear_value x1
    have hx2 : Keeps 2147483647 s x2 := by
      unfold x2
      refine Keeps.step ?_ (State.takeReadings_keeps _ _) rfl
      assumption
    clear_value x2
    have hx4 : Keeps 2147483647 s x4 := by
      unfold x4
      refine Keeps.ite ?_ ?_
      · assumption
      · refine Keeps.setpwr (m := 2147483647) _ ?_ rfl
        assumption
    clear_value x4
    have hx5 : Keeps 2147483647 s x5 := by
      unfold x5
      refine Keeps.step ?_ (State.cold_keeps _) rfl
      assumption
    clear_value x5
    have hx7 : Keeps 2147483647 s x7 := by
      unfold x7
      refine Keeps.setpwr (m := 2147483647) _ ?_ rfl
      assumption
    clear_value x7
    refine KeepsO.ite ?_ ?_
    · refine KeepsO.next ?_
      refine Keeps.step ?_ (State.cause_keeps _ _) rfl
      refine Keeps.ite ?_ ?_
      · refine Keeps.step ?_ (State.setVal_keeps _ _ _) rfl
        assumption
      · assumption
    · refine KeepsO.next ?_
      refine Keeps.step ?_ (State.sense_keeps _ _) rfl
      refine Keeps.step ?_ (State.setVal_keeps _ _ _) rfl
      refine Keeps.step ?_ (State.startUp_keeps _ _ _ _) rfl
      assumption

theorem State.dropVolatile_keeps (s) : Keeps 4 s (State.dropVolatile s) := by
  unfold State.dropVolatile
  extract_lets x1
  clear_value x1
  refine Keeps.setod (m := 4) _ ?_ (filter_rises _ _) rfl
  exact Keeps.refl _ _

theorem State.goDark_keeps (s) (z1) : Keeps 467795964 s (State.goDark s z1) := by
  unfold State.goDark
  extract_lets x1 x2 x3 x4 x5
  have hx1 : Keeps 467795964 s x1 := by
    unfold x1
    refine Keeps.step ?_ (State.dropVolatile_keeps _) rfl
    refine Keeps.step ?_ (State.loseSlice_keeps _) rfl
    refine Keeps.step ?_ (State.abortErases_keeps _) rfl
    exact Keeps.refl _ _
  clear_value x1
  refine Keeps.step (m' := 442630136) (t := x1) ?_ (by constructor <;> first | exact fun b => Bool.noConfusion b | exact fun _ => rfl | exact rfl | exact Nat.le_refl _ | (intro i; obtain ⟨i1, i2, i3, i4, i5, i6, i7, i8, i9, j1, j2, j3, j4⟩ := i; refine ⟨?_, ?_, ?_, ?_, ?_, ?_, ?_, ?_, ?_, ?_, ?_, ?_, ?_⟩ <;> first | assumption | rfl | exact kvSet_rises _ _ _ _ (by assumption) | exact kvPut_rises _ _ _ (by assumption) | exact kvErase_rises _ _ (by assumption) | exact memZero_rises _ _ _ (by assumption) | exact filter_rises _ _ (by assumption) | exact filter_rises _ _ (map_rises _ _ (fun _ => rfl) (by assumption)) | exact PlotsWf.cleared _ _ (by assumption) | exact ⟨rfl, fun _ h => nomatch h⟩ | exact map_rises _ _ (fun _ => rfl) (by assumption))) rfl
  assumption

theorem State.brownoutOp_keeps (s) (z1) : Keeps 535953406 s (State.brownoutOp s z1) := by
  unfold State.brownoutOp
  extract_lets x1 x2 x3 x4 x5 x6 x7 x8 x9
  have hx2 : Keeps 535953406 s x2 := by
    unfold x2
    refine Keeps.setpwr (m := 535953406) _ ?_ rfl
    exact Keeps.refl _ _
  clear_value x2
  have hx3 : Keeps 535953406 s x3 := by
    unfold x3
    refine Keeps.ite ?_ ?_
    · refine Keeps.step ?_ (State.raise_keeps _ _ _) rfl
      assumption
    · assumption
  clear_value x3
  have hx4 : Keeps 535953406 s x4 := by
    unfold x4
    refine Keeps.step ?_ (State.bump_keeps _ _) rfl
    refine Keeps.step ?_ (State.raise_keeps _ _ _) rfl
    assumption
  clear_value x4
  have hx5 : Keeps 535953406 s x5 := by
    unfold x5
    refine Keeps.step ?_ (State.sendPowerLoss_keeps _) rfl
    assumption
  clear_value x5
  have hx7 : Keeps 535953406 s x7 := by
    unfold x7
    refine Keeps.step ?_ (State.goDark_keeps _ _) rfl
    refine Keeps.step ?_ (State.tearFw_keeps _) rfl
    refine Keeps.step ?_ (State.tearCal_keeps _) rfl
    assumption
  clear_value x7
  refine Keeps.ite ?_ ?_
  · assumption
  · refine Keeps.step (m' := 35651584) (t := x7) ?_ (by constructor <;> first | exact fun b => Bool.noConfusion b | exact fun _ => rfl | exact rfl | exact Nat.le_refl _ | exact id) rfl
    assumption

theorem execBrownout_keeps (s) : KeepsO 535953406 s (execBrownout s) := by
  unfold execBrownout
  refine KeepsO.next ?_
  refine Keeps.step ?_ (State.brownoutOp_keeps _ _) rfl
  exact Keeps.refl _ _

theorem execInputOv_keeps (s) : KeepsO 535953406 s (execInputOv s) := by
  unfold execInputOv
  refine KeepsO.next ?_
  refine Keeps.step ?_ (State.brownoutOp_keeps _ _) rfl
  exact Keeps.refl _ _

theorem execInputDip_keeps (s) : KeepsO 4 s (execInputDip s) := by
  unfold execInputDip
  refine KeepsO.next ?_
  refine Keeps.ite ?_ ?_
  · refine Keeps.step ?_ (State.bump_keeps _ _) rfl
    exact Keeps.refl _ _
  · exact Keeps.refl _ _

theorem execModuleResetAssert_keeps (s) : KeepsO 535953406 s (execModuleResetAssert s) := by
  unfold execModuleResetAssert
  refine KeepsO.ite ?_ ?_
  · refine KeepsO.next ?_
    exact Keeps.refl _ _
  · extract_lets x1 x2 x3 x4 x5 x6 x7
    have hx1 : Keeps 535953406 s x1 := by
      unfold x1
      refine Keeps.step ?_ (State.bump_keeps _ _) rfl
      exact Keeps.refl _ _
    clear_value x1
    have hx3 : Keeps 535953406 s x3 := by
      unfold x3
      refine Keeps.step ?_ (State.leaveSlice_keeps _) rfl
      assumption
    clear_value x3
    have hx5 : Keeps 535953406 s x5 := by
      unfold x5
      refine Keeps.step ?_ (State.goDark_keeps _ _) rfl
      refine Keeps.step ?_ (State.tearFw_keeps _) rfl
      refine Keeps.step ?_ (State.tearCal_keeps _) rfl
      assumption
    clear_value x5
    refine KeepsO.ite ?_ ?_
    · refine KeepsO.next ?_
      refine Keeps.setpwr (m := 535953406) _ ?_ rfl
      assumption
    · refine KeepsO.next ?_
      refine Keeps.step (m' := 35651584) (t := x5) ?_ (by constructor <;> first | exact fun b => Bool.noConfusion b | exact fun _ => rfl | exact rfl | exact Nat.le_refl _ | exact id) rfl
      assumption

theorem execModuleResetDeassert_keeps (z0) (s) : KeepsO 2147483646 s (execModuleResetDeassert z0 s) := by
  unfold execModuleResetDeassert
  refine KeepsO.ite ?_ ?_
  · refine KeepsO.next ?_
    exact Keeps.refl _ _
  · extract_lets x1 x2 x3 x4
    have hx2 : Keeps 2147483646 s x2 := by
      unfold x2
      refine Keeps.setpwr (m := 2147483646) _ ?_ rfl
      exact Keeps.refl _ _
    clear_value x2
    have hx3 : Keeps 2147483646 s x3 := by
      unfold x3
      refine Keeps.step ?_ (State.bump_keeps _ _) rfl
      assumption
    clear_value x3
    clear_value x4
    refine KeepsO.ite ?_ ?_
    · refine KeepsO.next ?_
      assumption
    · refine KeepsO.next ?_
      refine Keeps.step ?_ (State.sense_keeps _ _) rfl
      refine Keeps.step ?_ (State.setVal_keeps _ _ _) rfl
      refine Keeps.step ?_ (State.startUp_keeps _ _ _ _) rfl
      refine Keeps.step ?_ (State.takeReadings_keeps _ _) rfl
      assumption

theorem execPerstGlitch_keeps (s) : KeepsO 4 s (execPerstGlitch s) := by
  unfold execPerstGlitch
  refine KeepsO.next ?_
  refine Keeps.ite ?_ ?_
  · refine Keeps.step ?_ (State.bump_keeps _ _) rfl
    exact Keeps.refl _ _
  · exact Keeps.refl _ _

theorem execPerstAssert_keeps (s) : KeepsO 870449148 s (execPerstAssert s) := by
  unfold execPerstAssert
  refine KeepsO.ite ?_ ?_
  · refine KeepsO.next ?_
    exact Keeps.refl _ _
  · extract_lets x1 x2
    have hx1 : Keeps 870449148 s x1 := by
      unfold x1
      refine Keeps.ite ?_ ?_
      · refine Keeps.step ?_ (State.hostReset_keeps _) rfl
        refine Keeps.step ?_ (State.cause_keeps _ _) rfl
        refine Keeps.step ?_ (State.bump_keeps _ _) rfl
        refine Keeps.step ?_ (State.bump_keeps _ _) rfl
        exact Keeps.refl _ _
      · exact Keeps.refl _ _
    clear_value x1
    refine KeepsO.next ?_
    refine Keeps.setpwr (m := 870449148) _ ?_ rfl
    assumption

theorem execPerstDeassert_keeps (s) : KeepsO 33554436 s (execPerstDeassert s) := by
  unfold execPerstDeassert
  refine KeepsO.ite ?_ ?_
  · refine KeepsO.next ?_
    exact Keeps.refl _ _
  · extract_lets x1 x2
    have hx2 : Keeps 33554436 s x2 := by
      unfold x2
      refine Keeps.setpwr (m := 33554436) _ ?_ rfl
      exact Keeps.refl _ _
    clear_value x2
    refine KeepsO.next ?_
    refine Keeps.ite ?_ ?_
    · refine Keeps.step ?_ (State.bump_keeps _ _) rfl
      assumption
    · assumption

theorem execHotReset_keeps (z0) (s) : KeepsO 870449148 s (execHotReset z0 s) := by
  unfold execHotReset
  refine KeepsO.ite ?_ ?_
  · refine KeepsO.next ?_
    exact Keeps.refl _ _
  · extract_lets x1 x2
    have hx1 : Keeps 870449148 s x1 := by
      unfold x1
      refine Keeps.step ?_ (State.hostReset_keeps _) rfl
      refine Keeps.step ?_ (State.cause_keeps _ _) rfl
      refine Keeps.step ?_ (State.bump_keeps _ _) rfl
      exact Keeps.refl _ _
    clear_value x1
    refine KeepsO.next ?_
    refine Keeps.setlink (m := 870449148) _ ?_ rfl
    assumption

theorem State.srcLost_keeps (s) (z1) : Keeps 65536 s (State.srcLost s z1) := by
  unfold State.srcLost
  extract_lets x1
  refine Keeps.step ?_ (State.setSrc_keeps _ _ _) rfl
  exact Keeps.refl _ _

theorem State.fcLostOne_keeps (s) : Keeps 65536 s (State.fcLostOne s) := by
  unfold State.fcLostOne
  refine Keeps.setfc (m := 65536) _ ?_ id rfl
  exact Keeps.refl _ _

theorem execDlDown_keeps (z0) (s) : KeepsO 870449148 s (execDlDown z0 s) := by
  unfold execDlDown
  refine KeepsO.ite ?_ ?_
  · refine KeepsO.next ?_
    exact Keeps.refl _ _
  · extract_lets x1 x2 x3 x4
    have hx2 : Keeps 870449148 s x2 := by
      unfold x2
      refine Keeps.each ?_ ?_
      · exact Keeps.refl _ _
      · intro a5 a6 a7
        refine Keeps.step ?_ (State.raise_keeps _ _ _) rfl
        refine Keeps.step ?_ (State.fcLostOne_keeps _) rfl
        refine Keeps.step ?_ (State.srcLost_keeps _ _) rfl
        assumption
    clear_value x2
    have hx4 : Keeps 870449148 s x4 := by
      unfold x4
      refine Keeps.setfc (m := 870449148) _ ?_ id rfl
      assumption
    clear_value x4
    refine KeepsO.next ?_
    refine Keeps.step ?_ (State.hostReset_keeps _) rfl
    refine Keeps.step ?_ (State.cause_keeps _ _) rfl
    refine Keeps.step ?_ (State.bump_keeps _ _) rfl
    assumption

theorem State.flrOp_keeps (s) : Keeps 65940 s (State.flrOp s) := by
  unfold State.flrOp
  refine Keeps.ite ?_ ?_
  · exact Keeps.refl _ _
  · extract_lets x1 x2 x3 x4
    have hx1 : Keeps 65940 s x1 := by
      unfold x1
      refine Keeps.step ?_ (State.cause_keeps _ _) rfl
      refine Keeps.step ?_ (State.bump_keeps _ _) rfl
      exact Keeps.refl _ _
    clear_value x1
    have hx2 : Keeps 65940 s x2 := by
      unfold x2
      refine Keeps.step ?_ (State.deassert_keeps _) rfl
      assumption
    clear_value x2
    have hx3 : Keeps 65940 s x3 := by
      unfold x3
      refine Keeps.step ?_ (State.abandonTags_keeps _) rfl
      refine KeepsP.fst ?_
      refine KeepsP.step ?_ (State.discardPosted_keeps _) rfl
      assumption
    clear_value x3
    refine Keeps.sethost (m := 65940) _ ?_ id rfl
    assumption

theorem execInitiateFlr_keeps (s) : KeepsO 65940 s (execInitiateFlr s) := by
  unfold execInitiateFlr
  refine KeepsO.next ?_
  refine Keeps.step ?_ (State.flrOp_keeps _) rfl
  exact Keeps.refl _ _

theorem execFlrComplete_keeps (s) : KeepsO 870449148 s (execFlrComplete s) := by
  unfold execFlrComplete
  refine KeepsO.ite ?_ ?_
  · refine KeepsO.next ?_
    exact Keeps.refl _ _
  · refine KeepsO.next ?_
    refine Keeps.step ?_ (State.cohGo_keeps _) rfl
    refine Keeps.step ?_ (State.clearFunction_keeps _ _) rfl
    exact Keeps.refl _ _

theorem execHbmScrubAcre_keeps (z0) (s) : KeepsO 33587328 s (execHbmScrubAcre z0 s) := by
  unfold execHbmScrubAcre
  refine KeepsO.next ?_
  refine Keeps.step ?_ (State.scrubAcre_keeps _ _) rfl
  exact Keeps.refl _ _

theorem State.romRecoveryOp_keeps (s) : Keeps 1005977598 s (State.romRecoveryOp s) := by
  unfold State.romRecoveryOp
  extract_lets x1 x2 x3 x4 x5 x6 x7 x8 x9
  have hx1 : KeepsN 1005977598 s x1 := by
    unfold x1
    refine KeepsN.step ?_ (State.draw_keeps _) rfl
    exact Keeps.refl _ _
  clear_value x1
  clear_value x2
  clear_value x3
  have hx4 : Keeps 1005977598 s x4 := by
    unfold x4
    refine Keeps.step ?_ (State.setRg_keeps _ _ _) rfl
    refine Keeps.step ?_ (State.goDark_keeps _ _) rfl
    refine Keeps.step ?_ (State.rotPowerLoss_keeps _) rfl
    refine KeepsN.snd ?_
    assumption
  clear_value x4
  have hx8 : Keeps 1005977598 s x8 := by
    unfold x8
    refine Keeps.step (m' := 169083008) (t := x4) ?_ (by constructor <;> first | exact fun b => Bool.noConfusion b | exact fun _ => rfl | exact rfl | exact Nat.le_refl _ | exact id) rfl
    assumption
  clear_value x8
  have hx9 : Keeps 1005977598 s x9 := by
    unfold x9
    refine Keeps.step ?_ (State.raise_keeps _ _ _) rfl
    assumption
  clear_value x9
  refine Keeps.ite ?_ ?_
  · assumption
  · refine Keeps.step ?_ (State.setVal_keeps _ _ _) rfl
    assumption

theorem State.firmwareStarts_keeps (s) : Keeps 448200710 s (State.firmwareStarts s) := by
  unfold State.firmwareStarts
  extract_lets x1 x2 x3 x4 x5 x6 x7 x8 x9 x10 x11
  have hx1 : KeepsN 448200710 s x1 := by
    unfold x1
    refine KeepsN.step ?_ (State.draw_keeps _) rfl
    exact Keeps.refl _ _
  clear_value x1
  clear_value x2
  have hx3 : Keeps 448200710 s x3 := by
    unfold x3
    refine KeepsN.snd ?_
    assumption
  have hx6 : Keeps 448200710 s x6 := by
    unfold x6
    refine Keeps.step (m' := 169082880) (t := x3) ?_ (by constructor <;> first | exact fun b => Bool.noConfusion b | exact fun _ => rfl | exact rfl | exact Nat.le_refl _ | exact id) rfl
    assumption
  clear_value x6
  have hx7 : Keeps 448200710 s x7 := by
    unfold x7
    refine Keeps.step ?_ (State.raiseIf_keeps _ _ _ _) rfl
    assumption
  clear_value x7
  have hx8 : Keeps 448200710 s x8 := by
    unfold x8
    refine Keeps.step ?_ (State.ownCommit_keeps _) rfl
    refine Keeps.step ?_ (State.loadCal_keeps _) rfl
    assumption
  clear_value x8
  have hx9 : Keeps 448200710 s x9 := by
    unfold x9
    refine Keeps.ite ?_ ?_
    · assumption
    · refine Keeps.step ?_ (State.seedStart_keeps _) rfl
      assumption
  clear_value x9
  have hx11 : Keeps 448200710 s x11 := by
    unfold x11
    refine Keeps.ite ?_ ?_
    · refine Keeps.step ?_ (State.wakeEvent_keeps _) rfl
      refine Keeps.setpwr (m := 448200710) _ ?_ rfl
      assumption
    · assumption
  clear_value x11
  refine Keeps.step ?_ (State.joinResume_keeps _) rfl
  refine Keeps.ite ?_ ?_
  · refine Keeps.step ?_ (State.setVal_keeps _ _ _) rfl
    assumption
  · assumption

theorem State.jump__keeps (s) (z1) (z2) : Keeps 448200710 s (State.jump_ s z1 z2) := by
  unfold State.jump_
  extract_lets x1 x2
  have hx2 : Keeps 448200710 s x2 := by
    unfold x2
    refine Keeps.sethl (m := 448200710) _ ?_ rfl
    exact Keeps.refl _ _
  clear_value x2
  refine Keeps.step ?_ (State.firmwareStarts_keeps _) rfl
  assumption

theorem State.markBad_keeps (s) (z1) : Keeps 134283264 s (State.markBad s z1) := by
  unfold State.markBad
  refine Keeps.step ?_ (State.raise_keeps _ _ _) rfl
  refine Keeps.sethl (m := 134283264) _ ?_ rfl
  exact Keeps.refl _ _

theorem State.verify_keeps (s) (z1) (z2) : Keeps 1006108670 s (State.verify s z1 z2) := by
  unfold State.verify
  refine Keeps.ite ?_ ?_
  · refine Keeps.step ?_ (State.jump__keeps _ _ _) rfl
    exact Keeps.refl _ _
  · extract_lets x1
    have hx1 : Keeps 1006108670 s x1 := by
      unfold x1
      refine Keeps.step ?_ (State.markBad_keeps _ _) rfl
      exact Keeps.refl _ _
    clear_value x1
    refine Keeps.ite ?_ ?_
    · refine Keeps.step ?_ (State.jump__keeps _ _ _) rfl
      assumption
    · refine Keeps.step ?_ (State.romRecoveryOp_keeps _) rfl
      refine Keeps.step ?_ (State.markBad_keeps _ _) rfl
      assumption

theorem execBootImageSelect_keeps (s) : KeepsO 1006108670 s (execBootImageSelect s) := by
  unfold execBootImageSelect
  refine KeepsO.ite ?_ ?_
  · refine KeepsO.next ?_
    exact Keeps.refl _ _
  · refine KeepsO.ite ?_ ?_
    · refine KeepsO.next ?_
      refine Keeps.step ?_ (State.romRecoveryOp_keeps _) rfl
      exact Keeps.refl _ _
    · extract_lets x1 x2 x3
      have hx3 : Keeps 1006108670 s x3 := by
        unfold x3
        refine Keeps.sethl (m := 1006108670) _ ?_ rfl
        exact Keeps.refl _ _
      clear_value x3
      split
      · rename_i y4 y5 y6
        refine KeepsO.ite ?_ ?_
        · refine KeepsO.next ?_
          refine Keeps.step ?_ (State.verify_keeps _ _ _) rfl
          refine Keeps.sethl (m := 1006108670) _ ?_ rfl
          exact Keeps.refl _ _
        · refine KeepsO.next ?_
          refine Keeps.step ?_ (State.verify_keeps _ _ _) rfl
          refine Keeps.step ?_ (State.raise_keeps _ _ _) rfl
          assumption
      · rename_i y7 y8
        refine KeepsO.next ?_
        refine Keeps.step ?_ (State.verify_keeps _ _ _) rfl
        exact Keeps.refl _ _

theorem execBootRomTimeout_keeps (s) : KeepsO 1005977598 s (execBootRomTimeout s) := by
  unfold execBootRomTimeout
  refine KeepsO.ite ?_ ?_
  · refine KeepsO.next ?_
    exact Keeps.refl _ _
  · extract_lets x1 x2 x3
    have hx3 : Keeps 1005977598 s x3 := by
      unfold x3
      refine Keeps.sethl (m := 1005977598) _ ?_ rfl
      exact Keeps.refl _ _
    clear_value x3
    refine KeepsO.next ?_
    refine Keeps.ite ?_ ?_
    · refine Keeps.step ?_ (State.romRecoveryOp_keeps _) rfl
      assumption
    · assumption

theorem execRomRecovery_keeps (z0) (s) : KeepsO 1005977598 s (execRomRecovery z0 s) := by
  unfold execRomRecovery
  refine KeepsO.ite ?_ ?_
  · refine KeepsO.next ?_
    exact Keeps.refl _ _
  · refine KeepsO.ite ?_ ?_
    · refine KeepsO.next ?_
      refine Keeps.step ?_ (State.romRecoveryOp_keeps _) rfl
      exact Keeps.refl _ _
    · refine KeepsO.next ?_
      exact Keeps.refl _ _

theorem State.confirmOp_keeps (s) : Keeps 134217728 s (State.confirmOp s) := by
  unfold State.confirmOp
  refine Keeps.ite ?_ ?_
  · refine Keeps.sethl (m := 134217728) _ ?_ rfl
    exact Keeps.refl _ _
  · exact Keeps.refl _ _

theorem execTrialImageConfirm_keeps (s) : KeepsO 134217729 s (execTrialImageConfirm s) := by
  unfold execTrialImageConfirm
  refine KeepsO.ite ?_ ?_
  · refine KeepsO.next ?_
    refine Keeps.step ?_ (State.confirmOp_keeps _) rfl
    refine Keeps.step ?_ (State.until__keeps _ _) rfl
    exact Keeps.refl _ _
  · refine KeepsO.next ?_
    exact Keeps.refl _ _

theorem State.endSlots_keeps (s) (z1) : Keeps 524288 s (State.endSlots s z1) := by
  unfold State.endSlots
  extract_lets x1 x2 x3 x4
  clear_value x1
  clear_value x2
  clear_value x3
  refine Keeps.setmir (m := 524288) _ ?_ rfl
  exact Keeps.refl _ _

theorem State.headlandReset_keeps (s) (z1) : Keeps 2082406414 s (State.headlandReset s z1) := by
  unfold State.headlandReset
  extract_lets x1 x2 x3 x4 x5 x6 x7 x8
  have hx1 : Keeps 2082406414 s x1 := by
    unfold x1
    refine Keeps.step ?_ (State.endSlots_keeps _ _) rfl
    refine Keeps.step ?_ (State.bump_keeps _ _) rfl
    exact Keeps.refl _ _
  clear_value x1
  have hx2 : Keeps 2082406414 s x2 := by
    unfold x2
    refine Keeps.step ?_ (State.abortErases_keeps _) rfl
    refine Keeps.step ?_ (State.rotHeadlandReset_keeps _ _) rfl
    refine Keeps.step ?_ (State.tearFw_keeps _) rfl
    refine Keeps.step ?_ (State.tearCal_keeps _) rfl
    assumption
  clear_value x2
  have hx3 : Keeps 2082406414 s x3 := by
    unfold x3
    refine Keeps.step ?_ (State.restore_keeps _ _) rfl
    refine Keeps.step ?_ (State.lotDrop_keeps _ _) rfl
    assumption
  clear_value x3
  have hx4 : Keeps 2082406414 s x4 := by
    unfold x4
    refine Keeps.ite ?_ ?_
    · assumption
    · refine Keeps.step ?_ (State.setSeed_keeps _ _) rfl
      assumption
  clear_value x4
  refine Keeps.step (m' := 1275527168) (t := x4) ?_ (by constructor <;> first | exact fun b => Bool.noConfusion b | exact fun _ => rfl | exact rfl | exact Nat.le_refl _ | exact id) rfl
  assumption

theorem execHeadlandReset_keeps (z0) (s) : KeepsO 2082406414 s (execHeadlandReset z0 s) := by
  unfold execHeadlandReset
  refine KeepsO.ite ?_ ?_
  · refine KeepsO.next ?_
    refine Keeps.step ?_ (State.headlandReset_keeps _ _) rfl
    exact Keeps.refl _ _
  · refine KeepsO.next ?_
    exact Keeps.refl _ _

theorem execHlWatchdog_keeps (z0) (s) : KeepsO 2082406414 s (execHlWatchdog z0 s) := by
  unfold execHlWatchdog
  refine KeepsO.ite ?_ ?_
  · refine KeepsO.next ?_
    refine Keeps.step ?_ (State.headlandReset_keeps _ _) rfl
    refine Keeps.step ?_ (State.cause_keeps _ _) rfl
    refine Keeps.step ?_ (State.raise_keeps _ _ _) rfl
    exact Keeps.refl _ _
  · refine KeepsO.next ?_
    exact Keeps.refl _ _

theorem State.hlResetOp_keeps (s) (z1) (z2) : KeepsP 2082406414 s (State.hlResetOp s z1 z2) := by
  unfold State.hlResetOp
  refine KeepsP.ite ?_ ?_
  · refine KeepsP.mk ?_
    exact Keeps.refl _ _
  · refine KeepsP.ite ?_ ?_
    · refine KeepsP.mk ?_
      refine Keeps.setcal (m := 2082406414) _ ?_ rfl
      exact Keeps.refl _ _
    · refine KeepsP.mk ?_
      refine Keeps.step ?_ (State.headlandReset_keeps _ _) rfl
      refine Keeps.step ?_ (State.cause_keeps _ _) rfl
      exact Keeps.refl _ _

theorem execHlResetRequest_keeps (z0) (z1) (z2) (s) : KeepsO 2082406414 s (execHlResetRequest z0 z1 z2 s) := by
  unfold execHlResetRequest
  refine KeepsO.next ?_
  refine Keeps.ite ?_ ?_
  · refine KeepsP.fst ?_
    refine KeepsP.step ?_ (State.hlResetOp_keeps _ _ _) rfl
    exact Keeps.refl _ _
  · exact Keeps.refl _ _

theorem execRotSubmit_keeps (z0) (z1) (s) : KeepsO 838860800 s (execRotSubmit z0 z1 s) := by
  unfold execRotSubmit
  refine KeepsO.next ?_
  refine Keeps.ite ?_ ?_
  · refine KeepsP.fst ?_
    refine KeepsP.step ?_ (State.rotSubmitOp_keeps _ _ _) rfl
    refine Keeps.step ?_ (State.hlWork_keeps _) rfl
    exact Keeps.refl _ _
  · exact Keeps.refl _ _

theorem execFtlReplay_keeps (z0) (s) : KeepsO 849477533 s (execFtlReplay z0 s) := by
  unfold execFtlReplay
  refine KeepsO.ite ?_ ?_
  · refine KeepsO.next ?_
    exact Keeps.refl _ _
  · extract_lets x1 x2 x3
    have hx1 : Keeps 849477533 s x1 := by
      unfold x1
      refine Keeps.ite ?_ ?_
      · refine Keeps.step ?_ (State.until__keeps _ _) rfl
        exact Keeps.refl _ _
      · exact Keeps.refl _ _
    clear_value x1
    have hx2 : Keeps 849477533 s x2 := by
      unfold x2
      refine Keeps.step ?_ (State.dropDrafts_keeps _ _) rfl
      assumption
    clear_value x2
    have hx3 : Keeps 849477533 s x3 := by
      unfold x3
      refine Keeps.step ?_ (State.setSeed_keeps _ _) rfl
      assumption
    clear_value x3
    refine KeepsO.next ?_
    refine Keeps.step ?_ (State.joinResume_keeps _) rfl
    refine Keeps.step ?_ (State.keptAfterReplay_keeps _) rfl
    refine Keeps.step ?_ (State.capacityCheck_keeps _) rfl
    refine Keeps.step ?_ (State.setVal_keeps _ _ _) rfl
    assumption

theorem State.fencePlot_keeps (s) (z1) : Keeps 35782556 s (State.fencePlot s z1) := by
  unfold State.fencePlot
  extract_lets x1 x2
  have hx2 : Keeps 35782556 s x2 := by
    unfold x2
    refine Keeps.ite ?_ ?_
    · refine Keeps.step ?_ (State.settleStakes_keeps _) rfl
      refine Keeps.step ?_ (State.haltProgram_keeps _ _ _ _ _) rfl
      exact Keeps.refl _ _
    · exact Keeps.refl _ _
  clear_value x2
  refine Keeps.ite ?_ ?_
  · exact Keeps.refl _ _
  · refine Keeps.step ?_ (State.modPlot_keeps _ _ _ (by first | exact fun _ h => h | exact fun _ _ => ⟨rfl, rfl⟩ | (intro x h; dsimp only; split <;> exact h) | (intro x h; split <;> exact h) | (intro x h; beta_reduce; split <;> exact h))) rfl
    assumption

theorem State.plotFenceOp_keeps (s) (z1) : Keeps 35782556 s (State.plotFenceOp s z1) := by
  unfold State.plotFenceOp
  refine Keeps.each ?_ ?_
  · exact Keeps.refl _ _
  · intro a1 a2 a3
    refine Keeps.ite ?_ ?_
    · refine Keeps.step ?_ (State.fencePlot_keeps _ _) rfl
      assumption
    · assumption

theorem execPlotFence_keeps (z0) (z1) (s) : KeepsO 35782556 s (execPlotFence z0 z1 s) := by
  unfold execPlotFence
  refine KeepsO.next ?_
  refine Keeps.ite ?_ ?_
  · refine Keeps.step ?_ (State.plotFenceOp_keeps _ _) rfl
    exact Keeps.refl _ _
  · exact Keeps.refl _ _

theorem State.failNaming_keeps (s) (z1) : Keeps 35782556 s (State.failNaming s z1) := by
  unfold State.failNaming
  extract_lets x1 x2 x3 x4 x5 x6
  have hx2 : Keeps 35782556 s x2 := by
    unfold x2
    refine Keeps.setg (m := 35782556) _ ?_ id id rfl
    exact Keeps.refl _ _
  clear_value x2
  have hx4 : Keeps 35782556 s x4 := by
    unfold x4
    refine Keeps.each ?_ ?_
    · assumption
    · intro a7 a8 a9
      refine Keeps.step ?_ (State.seedResult_keeps _ _ _ _ _ _) rfl
      assumption
  clear_value x4
  have hx5 : Keeps 35782556 s x5 := by
    unfold x5
    refine Keeps.step ?_ (State.settleStakes_keeps _) rfl
    refine Keeps.each ?_ ?_
    · assumption
    · intro a10 a11 a12
      refine Keeps.step ?_ (State.haltProgram_keeps _ _ _ _ _) rfl
      assumption
  clear_value x5
  clear_value x6
  refine Keeps.each ?_ ?_
  · assumption
  · intro a13 a14 a15
    refine Keeps.step ?_ (State.settle_keeps _ _) rfl
    refine Keeps.step ?_ (State.setRow_keeps _ _ _) rfl
    assumption

theorem State.releaseSources_keeps (s) (z1) : Keeps 65536 s (State.releaseSources s z1) := by
  unfold State.releaseSources
  extract_lets x1 x2
  clear_value x1
  refine Keeps.setfc (m := 65536) _ ?_ (map_rises _ _ fun _ => rfl) rfl
  exact Keeps.refl _ _

theorem State.resetPlot_keeps (s) (z1) : Keeps 35782556 s (State.resetPlot s z1) := by
  unfold State.resetPlot
  extract_lets x1 x2 x3 x4
  have hx1 : Keeps 35782556 s x1 := by
    unfold x1
    refine Keeps.step ?_ (State.failNaming_keeps _ _) rfl
    refine Keeps.step ?_ (State.fencePlot_keeps _ _) rfl
    exact Keeps.refl _ _
  clear_value x1
  have hx2 : Keeps 35782556 s x2 := by
    unfold x2
    refine Keeps.step ?_ (State.withdraw_keeps _ _) rfl
    assumption
  clear_value x2
  clear_value x3
  have hx4 : Keeps 35782556 s x4 := by
    unfold x4
    refine Keeps.ite ?_ ?_
    · refine Keeps.step ?_ (State.releaseSources_keeps _ _) rfl
      assumption
    · assumption
  clear_value x4
  refine Keeps.step ?_ (State.modPlot_keeps _ _ _ (by first | exact fun _ h => h | exact fun _ _ => ⟨rfl, rfl⟩ | (intro x h; dsimp only; split <;> exact h) | (intro x h; split <;> exact h) | (intro x h; beta_reduce; split <;> exact h))) rfl
  assumption

theorem State.plotResetOp_keeps (s) (z1) : KeepsP 35782556 s (State.plotResetOp s z1) := by
  unfold State.plotResetOp
  refine KeepsP.ite ?_ ?_
  · refine KeepsP.mk ?_
    exact Keeps.refl _ _
  · refine KeepsP.ite ?_ ?_
    · refine KeepsP.mk ?_
      exact Keeps.refl _ _
    · refine KeepsP.mk ?_
      refine Keeps.step ?_ (State.cause_keeps _ _) rfl
      refine Keeps.each ?_ ?_
      · exact Keeps.refl _ _
      · intro a1 a2 a3
        refine Keeps.ite ?_ ?_
        · refine Keeps.step ?_ (State.resetPlot_keeps _ _) rfl
          assumption
        · assumption

theorem execPlotReset_keeps (z0) (z1) (s) : KeepsO 35782556 s (execPlotReset z0 z1 s) := by
  unfold execPlotReset
  refine KeepsO.next ?_
  refine Keeps.ite ?_ ?_
  · refine KeepsP.fst ?_
    refine KeepsP.step ?_ (State.plotResetOp_keeps _ _) rfl
    exact Keeps.refl _ _
  · exact Keeps.refl _ _

theorem State.plotReady_keeps (s) (z1) : Keeps 35782556 s (State.plotReady s z1) := by
  unfold State.plotReady
  extract_lets x1 x2 x3
  have hx2 : Keeps 35782556 s x2 := by
    unfold x2
    refine Keeps.ite ?_ ?_
    · refine Keeps.step ?_ (State.failNaming_keeps _ _) rfl
      exact Keeps.refl _ _
    · exact Keeps.refl _ _
  clear_value x2
  have hx3 : Keeps 35782556 s x3 := by
    unfold x3
    refine Keeps.step ?_ (State.modPlot_keeps _ _ _ (by first | exact fun _ h => h | exact fun _ _ => ⟨rfl, rfl⟩ | (intro x h; dsimp only; split <;> exact h) | (intro x h; split <;> exact h) | (intro x h; beta_reduce; split <;> exact h))) rfl
    assumption
  clear_value x3
  refine Keeps.ite ?_ ?_
  · refine Keeps.step ?_ (State.releaseSources_keeps _ _) rfl
    assumption
  · assumption

theorem State.tramResetOp_keeps (s) (z1) : KeepsP 870449052 s (State.tramResetOp s z1) := by
  unfold State.tramResetOp
  refine KeepsP.ite ?_ ?_
  · refine KeepsP.mk ?_
    exact Keeps.refl _ _
  · refine KeepsP.ite ?_ ?_
    · refine KeepsP.mk ?_
      exact Keeps.refl _ _
    · refine KeepsP.ite ?_ ?_
      · refine KeepsP.mk ?_
        exact Keeps.refl _ _
      · refine KeepsP.mk ?_
        refine Keeps.step ?_ (State.cause_keeps _ _) rfl
        refine Keeps.each ?_ ?_
        · exact Keeps.refl _ _
        · intro a1 a2 a3
          refine Keeps.ite ?_ ?_
          · refine Keeps.step ?_ (State.resetDie_keeps _ _) rfl
            assumption
          · assumption

theorem execTramReset_keeps (z0) (z1) (s) : KeepsO 870449052 s (execTramReset z0 z1 s) := by
  unfold execTramReset
  refine KeepsO.next ?_
  refine Keeps.ite ?_ ?_
  · refine KeepsP.fst ?_
    refine KeepsP.step ?_ (State.tramResetOp_keeps _ _) rfl
    exact Keeps.refl _ _
  · exact Keeps.refl _ _

end Sys2Proof.Machine
end

