-- ==== Sys2Proof/Laws/FootPower.lean ====
section
/-! SUPPORT. The footprints of the operations of Machine/Power.lean. -/

namespace Sys2Proof.Machine

theorem execVregFault_keeps (z0) (s) : KeepsO 65536 s (execVregFault z0 s) := by
  unfold execVregFault
  refine KeepsO.next ?_
  refine Keeps.step ?_ (State.raiseIf_keeps _ _ _ _) rfl
  exact Keeps.refl _ _

theorem State.reqStatus_keeps (s) (z1) (z2) : Keeps 4 s (State.reqStatus s z1 z2) := by
  unfold State.reqStatus
  refine Keeps.step ?_ (State.setVal_keeps _ _ _) rfl
  exact Keeps.refl _ _

theorem State.askAll_keeps (s) : Keeps 16384 s (State.askAll s) := by
  unfold State.askAll
  refine Keeps.each ?_ ?_
  · exact Keeps.refl _ _
  · intro a1 a2 a3
    refine Keeps.step ?_ (State.askPlot_keeps _ _) rfl
    assumption

theorem State.noteSown_keeps (s) : Keeps 4 s (State.noteSown s) := by
  unfold State.noteSown
  refine Keeps.ite ?_ ?_
  · refine Keeps.step ?_ (State.reqStatus_keeps _ _ _) rfl
    exact Keeps.refl _ _
  · exact Keeps.refl _ _

theorem State.applyRequest_keeps (s) : Keeps 33570820 s (State.applyRequest s) := by
  unfold State.applyRequest
  split
  · rename_i y1 y2
    extract_lets x3 x4
    clear_value x3
    refine Keeps.ite ?_ ?_
    · refine Keeps.step ?_ (State.reqStatus_keeps _ _ _) rfl
      refine Keeps.setpwr (m := 33570820) _ ?_ rfl
      exact Keeps.refl _ _
    · refine Keeps.step ?_ (State.reqStatus_keeps _ _ _) rfl
      exact Keeps.refl _ _
  · rename_i y5 y6
    refine Keeps.step ?_ (State.reqStatus_keeps _ _ _) rfl
    exact Keeps.refl _ _
  · rename_i y7 y8
    refine Keeps.step ?_ (State.noteSown_keeps _) rfl
    refine Keeps.step ?_ (State.reqStatus_keeps _ _ _) rfl
    refine Keeps.step ?_ (State.askAll_keeps _) rfl
    exact Keeps.refl _ _
  · rename_i y9 y10 y11 y12
    refine Keeps.step ?_ (State.reqStatus_keeps _ _ _) rfl
    exact Keeps.refl _ _

theorem State.pwrRequestOp_keeps (s) (z1) : KeepsP 33570820 s (State.pwrRequestOp s z1) := by
  unfold State.pwrRequestOp
  refine KeepsP.ite ?_ ?_
  · refine KeepsP.mk ?_
    exact Keeps.refl _ _
  · extract_lets x1
    have hx1 : Keeps 33570820 s x1 := by
      unfold x1
      refine Keeps.step ?_ (State.setVal_keeps _ _ _) rfl
      exact Keeps.refl _ _
    clear_value x1
    split
    · rename_i y2 y3
      refine KeepsP.mk ?_
      refine Keeps.step ?_ (State.applyRequest_keeps _) rfl
      assumption
    · rename_i y4 y5
      refine KeepsP.ite ?_ ?_
      · refine KeepsP.ite ?_ ?_
        · refine KeepsP.mk ?_
          refine Keeps.step ?_ (State.reqStatus_keeps _ _ _) rfl
          refine Keeps.step ?_ (State.wakeEvent_keeps _) rfl
          assumption
        · refine KeepsP.mk ?_
          assumption
      · refine KeepsP.mk ?_
        refine Keeps.step ?_ (State.reqStatus_keeps _ _ _) rfl
        assumption
    · rename_i y6 y7
      refine KeepsP.ite ?_ ?_
      · refine KeepsP.ite ?_ ?_
        · refine KeepsP.mk ?_
          refine Keeps.step ?_ (State.reqStatus_keeps _ _ _) rfl
          refine Keeps.step ?_ (State.wakeEvent_keeps _) rfl
          assumption
        · refine KeepsP.mk ?_
          assumption
      · refine KeepsP.mk ?_
        assumption
    · rename_i y8 y9
      refine KeepsP.mk ?_
      refine Keeps.ite ?_ ?_
      · refine Keeps.step ?_ (State.reqStatus_keeps _ _ _) rfl
        assumption
      · refine Keeps.step ?_ (State.reqStatus_keeps _ _ _) rfl
        assumption
    · rename_i y10 y11 y12 y13 y14
      refine KeepsP.mk ?_
      refine Keeps.step ?_ (State.reqStatus_keeps _ _ _) rfl
      assumption

theorem execPwrRequestWrite_keeps (z0) (z1) (s) : KeepsO 33570820 s (execPwrRequestWrite z0 z1 s) := by
  unfold execPwrRequestWrite
  refine KeepsO.next ?_
  refine Keeps.ite ?_ ?_
  · refine KeepsP.fst ?_
    refine KeepsP.step ?_ (State.pwrRequestOp_keeps _ _) rfl
    exact Keeps.refl _ _
  · exact Keeps.refl _ _

theorem execFallowWakeEvent_keeps (z0) (s) : KeepsO 33554432 s (execFallowWakeEvent z0 s) := by
  unfold execFallowWakeEvent
  refine KeepsO.next ?_
  refine Keeps.ite ?_ ?_
  · refine Keeps.step ?_ (State.wakeEvent_keeps _) rfl
    exact Keeps.refl _ _
  · exact Keeps.refl _ _

theorem execFallowMaskedEvent_keeps (z0) (s) : KeepsO 33620372 s (execFallowMaskedEvent z0 s) := by
  unfold execFallowMaskedEvent
  refine KeepsO.ite ?_ ?_
  · refine KeepsO.next ?_
    exact Keeps.refl _ _
  · extract_lets x1 x2
    clear_value x1
    split
    · rename_i y3 y4 y5 y6
      refine KeepsO.next ?_
      refine Keeps.ite ?_ ?_
      · exact Keeps.refl _ _
      · refine Keeps.step ?_ (State.refuseFallow_keeps _ _ _ _) rfl
        exact Keeps.refl _ _
    · rename_i y7 y8
      refine KeepsO.next ?_
      refine Keeps.ite ?_ ?_
      · exact Keeps.refl _ _
      · refine Keeps.step ?_ (State.setVal_keeps _ _ _) rfl
        exact Keeps.refl _ _
    · rename_i y9
      refine KeepsO.next ?_
      exact Keeps.refl _ _
    · rename_i y10
      refine KeepsO.next ?_
      refine Keeps.ite ?_ ?_
      · exact Keeps.refl _ _
      · refine Keeps.setpwr (m := 33620372) _ ?_ rfl
        exact Keeps.refl _ _

theorem State.enterFallow_keeps (s) : Keeps 593592204 s (State.enterFallow s) := by
  unfold State.enterFallow
  extract_lets x1 x2 x3 x4 x5
  have hx1 : Keeps 593592204 s x1 := by
    unfold x1
    refine Keeps.step ?_ (State.flushDcc_keeps _ _) rfl
    exact Keeps.refl _ _
  clear_value x1
  have hx2 : Keeps 593592204 s x2 := by
    unfold x2
    refine Keeps.step ?_ (State.dropVolatile_keeps _) rfl
    refine Keeps.step ?_ (State.clearGcore_keeps _) rfl
    assumption
  clear_value x2
  have hx3 : Keeps 593592204 s x3 := by
    unfold x3
    refine Keeps.each ?_ ?_
    · assumption
    · intro a6 a7 a8
      refine Keeps.step ?_ (State.setRg_keeps _ _ _) rfl
      assumption
  clear_value x3
  refine Keeps.step ?_ (State.reqStatus_keeps _ _ _) rfl
  refine Keeps.step (m' := 56627200) (t := x3) ?_ (by constructor <;> first | exact fun b => Bool.noConfusion b | exact fun _ => rfl | exact rfl | exact Nat.le_refl _ | (intro i; obtain ⟨i1, i2, i3, i4, i5, i6, i7, i8, i9, j1, j2, j3, j4⟩ := i; refine ⟨?_, ?_, ?_, ?_, ?_, ?_, ?_, ?_, ?_, ?_, ?_, ?_, ?_⟩ <;> first | assumption | rfl | exact kvSet_rises _ _ _ _ (by assumption) | exact kvPut_rises _ _ _ (by assumption) | exact kvErase_rises _ _ (by assumption) | exact memZero_rises _ _ _ (by assumption) | exact filter_rises _ _ (by assumption) | exact filter_rises _ _ (map_rises _ _ (fun _ => rfl) (by assumption)) | exact PlotsWf.cleared _ _ (by assumption) | exact ⟨rfl, fun _ h => nomatch h⟩ | exact map_rises _ _ (fun _ => rfl) (by assumption))) rfl
  assumption

theorem execPlotWakeTrigger_keeps (z0) (s) : KeepsO 16384 s (execPlotWakeTrigger z0 s) := by
  unfold execPlotWakeTrigger
  refine KeepsO.next ?_
  refine Keeps.ite ?_ ?_
  · refine Keeps.step ?_ (State.askPlot_keeps _ _) rfl
    exact Keeps.refl _ _
  · exact Keeps.refl _ _

theorem execPlotRampStart_keeps (s) : KeepsO 33570817 s (execPlotRampStart s) := by
  unfold execPlotRampStart
  refine KeepsO.ite ?_ ?_
  · refine KeepsO.next ?_
    exact Keeps.refl _ _
  · split
    · rename_i y1 y2
      refine KeepsO.next ?_
      exact Keeps.refl _ _
    · rename_i y3 y4 y5
      extract_lets x6 x7 x8
      have hx6 : Keeps 33570817 s x6 := by
        unfold x6
        split
        · rename_i y9 y10 y11
          refine Keeps.step ?_ (State.until__keeps _ _) rfl
          exact Keeps.refl _ _
        · rename_i y12 y13
          exact Keeps.refl _ _
      clear_value x6
      have hx7 : Keeps 33570817 s x7 := by
        unfold x7
        refine Keeps.step ?_ (State.modPlot_keeps _ _ _ (by first | exact fun _ h => h | exact fun _ _ => ⟨rfl, rfl⟩ | (intro x h; dsimp only; split <;> exact h) | (intro x h; split <;> exact h) | (intro x h; beta_reduce; split <;> exact h))) rfl
        assumption
      clear_value x7
      refine KeepsO.next ?_
      refine Keeps.setpwr (m := 33570817) _ ?_ rfl
      assumption

theorem execPlotIdleGate_keeps (z0) (s) : KeepsO 16385 s (execPlotIdleGate z0 s) := by
  unfold execPlotIdleGate
  extract_lets x1 x2 x3 x4
  clear_value x2
  have hx3 : Keeps 16385 s x3 := by
    unfold x3
    refine Keeps.step ?_ (State.until__keeps _ _) rfl
    exact Keeps.refl _ _
  clear_value x3
  have hx4 : Keeps 16385 s x4 := by
    unfold x4
    refine Keeps.step ?_ (State.gatePlot_keeps _ _) rfl
    assumption
  clear_value x4
  refine KeepsO.ite ?_ ?_
  · refine KeepsO.next ?_
    refine Keeps.ite ?_ ?_
    · refine Keeps.step ?_ (State.modPlot_keeps _ _ _ (by first | exact fun _ h => h | exact fun _ _ => ⟨rfl, rfl⟩ | (intro x h; dsimp only; split <;> exact h) | (intro x h; split <;> exact h) | (intro x h; beta_reduce; split <;> exact h))) rfl
      assumption
    · assumption
  · refine KeepsO.next ?_
    exact Keeps.refl _ _

theorem State.plotHoldOp_keeps (s) (z1) : Keeps 16388 s (State.plotHoldOp s z1) := by
  unfold State.plotHoldOp
  extract_lets x1
  have hx1 : Keeps 16388 s x1 := by
    unfold x1
    refine Keeps.step ?_ (State.setVal_keeps _ _ _) rfl
    exact Keeps.refl _ _
  clear_value x1
  refine Keeps.ite ?_ ?_
  · refine Keeps.each ?_ ?_
    · assumption
    · intro a2 a3 a4
      refine Keeps.ite ?_ ?_
      · refine Keeps.step ?_ (State.askPlot_keeps _ _) rfl
        assumption
      · assumption
  · assumption

theorem execPlotHoldWrite_keeps (z0) (z1) (s) : KeepsO 16388 s (execPlotHoldWrite z0 z1 s) := by
  unfold execPlotHoldWrite
  refine KeepsO.next ?_
  refine Keeps.ite ?_ ?_
  · refine Keeps.step ?_ (State.plotHoldOp_keeps _ _) rfl
    exact Keeps.refl _ _
  · exact Keeps.refl _ _

theorem execRackrefLost_keeps (s) : KeepsO 37814276 s (execRackrefLost s) := by
  unfold execRackrefLost
  refine KeepsO.ite ?_ ?_
  · refine KeepsO.next ?_
    exact Keeps.refl _ _
  · extract_lets x1 x2 x3 x4 x5
    clear_value x1
    clear_value x2
    have hx5 : Keeps 37814276 s x5 := by
      unfold x5
      refine Keeps.step (m' := 37748736) (t := s) ?_ (by constructor <;> first | exact fun b => Bool.noConfusion b | exact fun _ => rfl | exact rfl | exact Nat.le_refl _ | exact id) rfl
      exact Keeps.refl _ _
    clear_value x5
    refine KeepsO.next ?_
    refine Keeps.step ?_ (State.raiseIf_keeps _ _ _ _) rfl
    refine Keeps.step ?_ (State.raise_keeps _ _ _) rfl
    refine Keeps.step ?_ (State.bump_keeps _ _) rfl
    assumption

theorem execRackrefRestored_keeps (s) : KeepsO 39976860 s (execRackrefRestored s) := by
  unfold execRackrefRestored
  refine KeepsO.ite ?_ ?_
  · refine KeepsO.next ?_
    exact Keeps.refl _ _
  · refine KeepsO.next ?_
    refine Keeps.step ?_ (State.refreshPorts_keeps _) rfl
    refine Keeps.setpwr (m := 39976860) _ ?_ rfl
    exact Keeps.refl _ _

theorem execTickTrimUpdate_keeps (z0) (s) : KeepsO 4 s (execTickTrimUpdate z0 s) := by
  unfold execTickTrimUpdate
  refine KeepsO.next ?_
  refine Keeps.ite ?_ ?_
  · refine Keeps.step ?_ (State.setCal_keeps _ _ _ _) rfl
    exact Keeps.refl _ _
  · exact Keeps.refl _ _

theorem execRackrefAbsent_keeps (s) : KeepsO 65536 s (execRackrefAbsent s) := by
  unfold execRackrefAbsent
  refine KeepsO.next ?_
  refine Keeps.step ?_ (State.raiseIf_keeps _ _ _ _) rfl
  exact Keeps.refl _ _

theorem execHfastIdleStop_keeps (s) : KeepsO 33554433 s (execHfastIdleStop s) := by
  unfold execHfastIdleStop
  refine KeepsO.ite ?_ ?_
  · refine KeepsO.next ?_
    exact Keeps.refl _ _
  · extract_lets x1 x2
    have hx1 : Keeps 33554433 s x1 := by
      unfold x1
      refine Keeps.step ?_ (State.until__keeps _ _) rfl
      exact Keeps.refl _ _
    clear_value x1
    refine KeepsO.next ?_
    refine Keeps.setpwr (m := 33554433) _ ?_ rfl
    assumption

theorem execHfastStart_keeps (s) : KeepsO 33554432 s (execHfastStart s) := by
  unfold execHfastStart
  refine KeepsO.next ?_
  refine Keeps.ite ?_ ?_
  · refine Keeps.step ?_ (State.hlWork_keeps _) rfl
    exact Keeps.refl _ _
  · exact Keeps.refl _ _

theorem State.noteReason_keeps (s) (z1) : Keeps 8 s (State.noteReason s z1) := by
  unfold State.noteReason
  refine Keeps.ite ?_ ?_
  · exact Keeps.refl _ _
  · refine Keeps.step ?_ (State.attn_keeps _ _) rfl
    exact Keeps.refl _ _

theorem execPowerSummation_keeps (z0) (z1) (z2) (z3) (z4) (s) : KeepsO 167772172 s (execPowerSummation z0 z1 z2 z3 z4 s) := by
  unfold execPowerSummation
  refine KeepsO.ite ?_ ?_
  · refine KeepsO.next ?_
    exact Keeps.refl _ _
  · extract_lets x1 x2 x3 x4 x5 x6 x7 x8 x9 x10 x11 x12 x13 x14 x15
    clear_value x1
    have hx2 : Keeps 167772172 s x2 := by
      unfold x2
      refine Keeps.step ?_ (State.hlAnswers_keeps _) rfl
      exact Keeps.refl _ _
    clear_value x2
    clear_value x3
    clear_value x4
    clear_value x6
    clear_value x7
    clear_value x8
    clear_value x9
    have hx11 : Keeps 167772172 s x11 := by
      unfold x11
      refine Keeps.setpwr (m := 167772172) _ ?_ rfl
      assumption
    clear_value x11
    have hx12 : Keeps 167772172 s x12 := by
      unfold x12
      refine Keeps.step ?_ (State.bumpBy_keeps _ _ _) rfl
      assumption
    clear_value x12
    have hx13 : Keeps 167772172 s x13 := by
      unfold x13
      refine Keeps.step ?_ (State.setVal_keeps _ _ _) rfl
      refine Keeps.step ?_ (State.setVal_keeps _ _ _) rfl
      assumption
    clear_value x13
    have hx14 : Keeps 167772172 s x14 := by
      unfold x14
      refine Keeps.step ?_ (State.setVal_keeps _ _ _) rfl
      refine Keeps.step ?_ (State.setVal_keeps _ _ _) rfl
      assumption
    clear_value x14
    have hx15 : Keeps 167772172 s x15 := by
      unfold x15
      refine Keeps.step ?_ (State.setVal_keeps _ _ _) rfl
      refine Keeps.step ?_ (State.setVal_keeps _ _ _) rfl
      assumption
    clear_value x15
    refine KeepsO.next ?_
    refine Keeps.step ?_ (State.noteReason_keeps _ _) rfl
    assumption

theorem execPeakLimit_keeps (z0) (z1) (s) : KeepsO 33619980 s (execPeakLimit z0 z1 s) := by
  unfold execPeakLimit
  refine KeepsO.ite ?_ ?_
  · refine KeepsO.next ?_
    exact Keeps.refl _ _
  · extract_lets x1 x2 x3
    clear_value x1
    have hx3 : Keeps 33619980 s x3 := by
      unfold x3
      refine Keeps.setpwr (m := 33619980) _ ?_ rfl
      exact Keeps.refl _ _
    clear_value x3
    refine KeepsO.next ?_
    refine Keeps.step ?_ (State.noteReason_keeps _ _) rfl
    refine Keeps.step ?_ (State.raise_keeps _ _ _) rfl
    refine Keeps.step ?_ (State.bump_keeps _ _) rfl
    assumption

theorem execHeadlandSilent_keeps (s) : KeepsO 33619977 s (execHeadlandSilent s) := by
  unfold execHeadlandSilent
  refine KeepsO.ite ?_ ?_
  · refine KeepsO.next ?_
    exact Keeps.refl _ _
  · extract_lets x1 x2 x3 x4 x5
    clear_value x1
    have hx2 : Keeps 33619977 s x2 := by
      unfold x2
      refine Keeps.step ?_ (State.until__keeps _ _) rfl
      exact Keeps.refl _ _
    clear_value x2
    clear_value x3
    have hx5 : Keeps 33619977 s x5 := by
      unfold x5
      refine Keeps.setpwr (m := 33619977) _ ?_ rfl
      assumption
    clear_value x5
    refine KeepsO.next ?_
    refine Keeps.step ?_ (State.noteReason_keeps _ _) rfl
    refine Keeps.step ?_ (State.raiseIf_keeps _ _ _ _) rfl
    assumption

theorem execShedAssert_keeps (s) : KeepsO 33619980 s (execShedAssert s) := by
  unfold execShedAssert
  refine KeepsO.ite ?_ ?_
  · refine KeepsO.next ?_
    exact Keeps.refl _ _
  · extract_lets x1 x2
    have hx2 : Keeps 33619980 s x2 := by
      unfold x2
      refine Keeps.setpwr (m := 33619980) _ ?_ rfl
      exact Keeps.refl _ _
    clear_value x2
    refine KeepsO.next ?_
    refine Keeps.step ?_ (State.attn_keeps _ _) rfl
    refine Keeps.step ?_ (State.raise_keeps _ _ _) rfl
    refine Keeps.step ?_ (State.bump_keeps _ _) rfl
    refine Keeps.step ?_ (State.bump_keeps _ _) rfl
    assumption

theorem execShedDeassert_keeps (s) : KeepsO 33554444 s (execShedDeassert s) := by
  unfold execShedDeassert
  refine KeepsO.ite ?_ ?_
  · refine KeepsO.next ?_
    exact Keeps.refl _ _
  · extract_lets x1 x2 x3
    clear_value x1
    have hx3 : Keeps 33554444 s x3 := by
      unfold x3
      refine Keeps.setpwr (m := 33554444) _ ?_ rfl
      exact Keeps.refl _ _
    clear_value x3
    refine KeepsO.next ?_
    refine Keeps.step ?_ (State.attn_keeps _ _) rfl
    refine Keeps.step ?_ (State.bump_keeps _ _) rfl
    assumption

theorem execShedReleaseStep_keeps (s) : KeepsO 33554441 s (execShedReleaseStep s) := by
  unfold execShedReleaseStep
  refine KeepsO.ite ?_ ?_
  · refine KeepsO.next ?_
    exact Keeps.refl _ _
  · extract_lets x1 x2 x3 x4
    clear_value x1
    clear_value x2
    have hx3 : Keeps 33554441 s x3 := by
      unfold x3
      refine Keeps.step ?_ (State.until__keeps _ _) rfl
      exact Keeps.refl _ _
    clear_value x3
    refine KeepsO.next ?_
    refine Keeps.step ?_ (State.noteReason_keeps _ _) rfl
    refine Keeps.setpwr (m := 33554441) _ ?_ rfl
    assumption

theorem execThermThrottle_keeps (z0) (z1) (s) : KeepsO 304218014 s (execThermThrottle z0 z1 s) := by
  unfold execThermThrottle
  refine KeepsO.ite ?_ ?_
  · refine KeepsO.next ?_
    exact Keeps.refl _ _
  · extract_lets x1 x2 x3 x4 x5
    have hx1 : Keeps 304218014 s x1 := by
      unfold x1
      refine Keeps.step ?_ (State.sense_keeps _ _) rfl
      exact Keeps.refl _ _
    clear_value x1
    clear_value x2
    have hx4 : Keeps 304218014 s x4 := by
      unfold x4
      refine Keeps.setpwr (m := 304218014) _ ?_ rfl
      assumption
    clear_value x4
    have hx5 : Keeps 304218014 s x5 := by
      unfold x5
      refine Keeps.step ?_ (State.raise_keeps _ _ _) rfl
      assumption
    clear_value x5
    refine KeepsO.ite ?_ ?_
    · refine KeepsO.next ?_
      assumption
    · refine KeepsO.next ?_
      refine Keeps.ite ?_ ?_
      · refine Keeps.step ?_ (State.attn_keeps _ _) rfl
        refine Keeps.step ?_ (State.raise_keeps _ _ _) rfl
        assumption
      · assumption

theorem execThermCapStep_keeps (z0) (s) : KeepsO 304218015 s (execThermCapStep z0 s) := by
  unfold execThermCapStep
  refine KeepsO.ite ?_ ?_
  · refine KeepsO.next ?_
    exact Keeps.refl _ _
  · extract_lets x1 x2 x3 x4 x5 x6 x7 x8 x9
    clear_value x1
    have hx2 : Keeps 304218015 s x2 := by
      unfold x2
      refine Keeps.step ?_ (State.sense_keeps _ _) rfl
      exact Keeps.refl _ _
    clear_value x2
    clear_value x4
    clear_value x5
    have hx6 : Keeps 304218015 s x6 := by
      unfold x6
      split
      · rename_i y10 y11 y12
        refine Keeps.step ?_ (State.until__keeps _ _) rfl
        assumption
      · rename_i y13 y14
        assumption
    clear_value x6
    clear_value x7
    have hx9 : Keeps 304218015 s x9 := by
      unfold x9
      refine Keeps.setpwr (m := 304218015) _ ?_ rfl
      assumption
    clear_value x9
    refine KeepsO.next ?_
    refine Keeps.step ?_ (State.lotResume_keeps _) rfl
    refine Keeps.step ?_ (State.noteReason_keeps _ _) rfl
    assumption

theorem execThermAlarm_keeps (z0) (z1) (s) : KeepsO 304218014 s (execThermAlarm z0 z1 s) := by
  unfold execThermAlarm
  refine KeepsO.ite ?_ ?_
  · refine KeepsO.next ?_
    exact Keeps.refl _ _
  · extract_lets x1
    have hx1 : Keeps 304218014 s x1 := by
      unfold x1
      refine Keeps.step ?_ (State.sense_keeps _ _) rfl
      exact Keeps.refl _ _
    clear_value x1
    refine KeepsO.next ?_
    refine Keeps.ite ?_ ?_
    · refine Keeps.step ?_ (State.attn_keeps _ _) rfl
      refine Keeps.step ?_ (State.raise_keeps _ _ _) rfl
      assumption
    · assumption

theorem execThermTrip_keeps (z0) (z1) (s) : KeepsO 1004666878 s (execThermTrip z0 z1 s) := by
  unfold execThermTrip
  extract_lets x1 x2 x3 x4 x5 x6 x7 x8 x9 x10 x11 x12
  clear_value x1
  have hx2 : Keeps 1004666878 s x2 := by
    unfold x2
    refine Keeps.step ?_ (State.sense_keeps _ _) rfl
    exact Keeps.refl _ _
  clear_value x2
  clear_value x3
  clear_value x4
  have hx5 : Keeps 1004666878 s x5 := by
    unfold x5
    refine Keeps.step ?_ (State.downPort_keeps _ _ _ _ _) rfl
    assumption
  clear_value x5
  have hx7 : Keeps 1004666878 s x7 := by
    unfold x7
    refine Keeps.ite ?_ ?_
    · refine Keeps.step ?_ (State.setPort_keeps _ _ _) rfl
      assumption
    · assumption
  clear_value x7
  have hx10 : Keeps 1004666878 s x10 := by
    unfold x10
    refine Keeps.step ?_ (State.setVal_keeps _ _ _) rfl
    refine Keeps.step ?_ (State.raise_keeps _ _ _) rfl
    assumption
  clear_value x10
  have hx11 : Keeps 1004666878 s x11 := by
    unfold x11
    refine Keeps.ite ?_ ?_
    · assumption
    · refine Keeps.step ?_ (State.goDark_keeps _ _) rfl
      refine Keeps.step ?_ (State.rotPowerLoss_keeps _) rfl
      assumption
  clear_value x11
  refine KeepsO.ite ?_ ?_
  · refine KeepsO.next ?_
    exact Keeps.refl _ _
  · refine KeepsO.ite ?_ ?_
    · refine KeepsO.next ?_
      assumption
    · split
      · rename_i y13
        refine KeepsO.next ?_
        refine Keeps.step ?_ (State.seedOffOp_keeps _) rfl
        assumption
      · rename_i y14
        refine KeepsO.next ?_
        refine Keeps.setpwr (m := 1004666878) _ ?_ rfl
        assumption
      · rename_i y15 y16 y17
        refine KeepsO.ite ?_ ?_
        · refine KeepsO.next ?_
          assumption
        · refine KeepsO.next ?_
          refine Keeps.step (m' := 167772160) (t := x11) ?_ (by constructor <;> first | exact fun b => Bool.noConfusion b | exact fun _ => rfl | exact rfl | exact Nat.le_refl _ | exact id) rfl
          assumption

theorem execSensorFailed_keeps (z0) (s) : KeepsO 35782558 s (execSensorFailed z0 s) := by
  unfold execSensorFailed
  refine KeepsO.next ?_
  refine Keeps.ite ?_ ?_
  · refine Keeps.step ?_ (State.noteReason_keeps _ _) rfl
    refine Keeps.step ?_ (State.failSensor_keeps _ _) rfl
    exact Keeps.refl _ _
  · exact Keeps.refl _ _

theorem State.calUnlockOp_keeps (s) (z1) (z2) : KeepsP 67108864 s (State.calUnlockOp s z1 z2) := by
  unfold State.calUnlockOp
  extract_lets x1 x2
  have hx1 : ∀ a3 a4, Keeps 67108864 s a3 → Keeps 67108864 s (x1 a3 a4) := by
    unfold x1
    intro a5 a6 a7
    split
    · rename_i y8
      refine Keeps.setcal (m := 67108864) _ ?_ rfl
      assumption
    · rename_i y9
      refine Keeps.setcal (m := 67108864) _ ?_ rfl
      assumption
    · rename_i y10
      assumption
  clear_value x1
  refine KeepsP.ite ?_ ?_
  · refine KeepsP.mk ?_
    exact Keeps.refl _ _
  · refine KeepsP.ite ?_ ?_
    · refine KeepsP.mk ?_
      refine hx1 _ _ ?_
      exact Keeps.refl _ _
    · refine KeepsP.ite ?_ ?_
      · refine KeepsP.mk ?_
        exact Keeps.refl _ _
      · refine KeepsP.ite ?_ ?_
        · refine KeepsP.mk ?_
          refine Keeps.setcal (m := 67108864) _ ?_ rfl
          exact Keeps.refl _ _
        · refine KeepsP.mk ?_
          refine hx1 _ _ ?_
          exact Keeps.refl _ _

theorem execCalUnlock_keeps (z0) (z1) (s) : KeepsO 67108864 s (execCalUnlock z0 z1 s) := by
  unfold execCalUnlock
  refine KeepsO.next ?_
  refine Keeps.ite ?_ ?_
  · refine KeepsP.fst ?_
    refine KeepsP.step ?_ (State.calUnlockOp_keeps _ _ _) rfl
    exact Keeps.refl _ _
  · exact Keeps.refl _ _

theorem execCalUnlockExpiry_keeps (s) : KeepsO 67108865 s (execCalUnlockExpiry s) := by
  unfold execCalUnlockExpiry
  extract_lets x1
  clear_value x1
  split
  · rename_i y2
    refine KeepsO.next ?_
    exact Keeps.refl _ _
  · rename_i y3 y4 y5
    extract_lets x6 x7 x8
    have hx6 : Keeps 67108865 s x6 := by
      unfold x6
      refine Keeps.step ?_ (State.until__keeps _ _) rfl
      exact Keeps.refl _ _
    clear_value x6
    clear_value x7
    refine KeepsO.next ?_
    refine Keeps.setcal (m := 67108865) _ ?_ rfl
    assumption

theorem State.calCommitOp_keeps (s) (z1) (z2) : KeepsP 67108868 s (State.calCommitOp s z1 z2) := by
  unfold State.calCommitOp
  refine KeepsP.ite ?_ ?_
  · refine KeepsP.mk ?_
    exact Keeps.refl _ _
  · refine KeepsP.ite ?_ ?_
    · refine KeepsP.mk ?_
      exact Keeps.refl _ _
    · refine KeepsP.ite ?_ ?_
      · refine KeepsP.mk ?_
        exact Keeps.refl _ _
      · refine KeepsP.mk ?_
        refine Keeps.step ?_ (State.setVal_keeps _ _ _) rfl
        refine Keeps.setcal (m := 67108868) _ ?_ rfl
        exact Keeps.refl _ _

theorem execCalCommit_keeps (z0) (z1) (s) : KeepsO 67108868 s (execCalCommit z0 z1 s) := by
  unfold execCalCommit
  refine KeepsO.next ?_
  refine Keeps.ite ?_ ?_
  · refine KeepsP.fst ?_
    refine KeepsP.step ?_ (State.calCommitOp_keeps _ _ _) rfl
    exact Keeps.refl _ _
  · exact Keeps.refl _ _

theorem execCalCommitDone_keeps (s) : KeepsO 2082406414 s (execCalCommitDone s) := by
  unfold execCalCommitDone
  split
  · rename_i y1 y2
    refine KeepsO.next ?_
    exact Keeps.refl _ _
  · rename_i y3 y4 y5
    extract_lets x6 x7 x8 x9 x10 x11 x12 x13
    have hx7 : KeepsN 2082406414 s x7 := by
      unfold x7
      refine KeepsN.step ?_ (State.draw_keeps _) rfl
      exact Keeps.refl _ _
    clear_value x7
    clear_value x8
    have hx9 : Keeps 2082406414 s x9 := by
      unfold x9
      refine KeepsN.snd ?_
      assumption
    have hx11 : Keeps 2082406414 s x11 := by
      unfold x11
      refine Keeps.setcal (m := 2082406414) _ ?_ rfl
      assumption
    clear_value x11
    have hx12 : Keeps 2082406414 s x12 := by
      unfold x12
      refine Keeps.step ?_ (State.setVal_keeps _ _ _) rfl
      refine Keeps.step ?_ (State.setVal_keeps _ _ _) rfl
      refine Keeps.step ?_ (State.setVal_keeps _ _ _) rfl
      assumption
    clear_value x12
    have hx13 : Keeps 2082406414 s x13 := by
      unfold x13
      refine Keeps.step ?_ (State.bump_keeps _ _) rfl
      assumption
    clear_value x13
    refine KeepsO.next ?_
    refine Keeps.ite ?_ ?_
    · refine Keeps.step ?_ (State.headlandReset_keeps _ _) rfl
      refine Keeps.step ?_ (State.cause_keeps _ _) rfl
      assumption
    · assumption

theorem execStrapSample_keeps (z0) (s) : KeepsO 33619974 s (execStrapSample z0 s) := by
  unfold execStrapSample
  refine KeepsO.ite ?_ ?_
  · refine KeepsO.next ?_
    exact Keeps.refl _ _
  · extract_lets x1 x2 x3
    clear_value x1
    have hx2 : ∀ a4 a5 a6 a7 a8, Keeps 33619974 s a4 → Keeps 33619974 s (x2 a4 a5 a6 a7 a8) := by
      unfold x2
      intro a9 a10 a11 a12 a13 a14
      extract_lets x15 x16 x17 x18
      have hx15 : Keeps 33619974 s x15 := by
        unfold x15
        refine Keeps.step ?_ (State.setVal_keeps _ _ _) rfl
        refine Keeps.step ?_ (State.setVal_keeps _ _ _) rfl
        refine Keeps.step ?_ (State.setVal_keeps _ _ _) rfl
        assumption
      clear_value x15
      have hx16 : Keeps 33619974 s x16 := by
        unfold x16
        refine Keeps.step ?_ (State.setVal_keeps _ _ _) rfl
        refine Keeps.step ?_ (State.setVal_keeps _ _ _) rfl
        refine Keeps.step ?_ (State.setVal_keeps _ _ _) rfl
        assumption
      clear_value x16
      have hx17 : Keeps 33619974 s x17 := by
        unfold x17
        refine Keeps.step ?_ (State.setVal_keeps _ _ _) rfl
        assumption
      clear_value x17
      refine Keeps.setpwr (m := 33619974) _ ?_ rfl
      assumption
    clear_value x2
    have hx3 : KeepsN 33619974 s x3 := by
      unfold x3
      refine KeepsN.step ?_ (State.draw_keeps _) rfl
      exact Keeps.refl _ _
    clear_value x3
    split
    · rename_i y19 y20 y21 y22
      refine KeepsO.ite ?_ ?_
      · refine KeepsO.next ?_
        refine hx2 _ _ _ _ _ ?_
        exact Keeps.refl _ _
      · refine KeepsO.next ?_
        refine Keeps.step ?_ (State.raise_keeps _ _ _) rfl
        refine hx2 _ _ _ _ _ ?_
        exact Keeps.refl _ _
    · rename_i y23 y24
      refine KeepsO.ite ?_ ?_
      · refine KeepsO.next ?_
        exact Keeps.refl _ _
      · refine KeepsO.next ?_
        refine Keeps.step ?_ (State.raise_keeps _ _ _) rfl
        refine hx2 _ _ _ _ _ ?_
        refine KeepsN.snd ?_
        assumption

theorem execStrapChanged_keeps (z0) (s) : KeepsO 33619972 s (execStrapChanged z0 s) := by
  unfold execStrapChanged
  refine KeepsO.ite ?_ ?_
  · refine KeepsO.next ?_
    exact Keeps.refl _ _
  · extract_lets x1 x2
    have hx2 : Keeps 33619972 s x2 := by
      unfold x2
      refine Keeps.setpwr (m := 33619972) _ ?_ rfl
      exact Keeps.refl _ _
    clear_value x2
    refine KeepsO.ite ?_ ?_
    · refine KeepsO.next ?_
      assumption
    · refine KeepsO.next ?_
      refine Keeps.step ?_ (State.raise_keeps _ _ _) rfl
      refine Keeps.step ?_ (State.setVal_keeps _ _ _) rfl
      assumption

theorem State.trainingDone_keeps (s) (z1) : Keeps 33554439 s (State.trainingDone s z1) := by
  unfold State.trainingDone
  extract_lets x1 x2 x3 x4 x5
  have hx1 : Keeps 33554439 s x1 := by
    unfold x1
    refine Keeps.step ?_ (State.until__keeps _ _) rfl
    exact Keeps.refl _ _
  clear_value x1
  clear_value x2
  have hx3 : Keeps 33554439 s x3 := by
    unfold x3
    refine Keeps.each ?_ ?_
    · assumption
    · intro a6 a7 a8
      refine Keeps.step ?_ (State.learn_keeps _ _ _) rfl
      assumption
  clear_value x3
  have hx5 : Keeps 33554439 s x5 := by
    unfold x5
    refine Keeps.setpwr (m := 33554439) _ ?_ rfl
    assumption
  clear_value x5
  refine Keeps.step ?_ (State.setVal_keeps _ _ _) rfl
  refine Keeps.step ?_ (State.setVal_keeps _ _ _) rfl
  refine Keeps.step ?_ (State.setVal_keeps _ _ _) rfl
  assumption

end Sys2Proof.Machine
end

