-- ==== Sys2Proof/Laws/FootCollector.lean ====
section
/-! SUPPORT. The footprints of the operations of Machine/Collector.lean. -/

namespace Sys2Proof.Machine

theorem State.freezeRow_keeps (s) (z1) : Keeps 35782556 s (State.freezeRow s z1) := by
  unfold State.freezeRow
  extract_lets x1 x2 x3 x4 x5 x6
  clear_value x3
  have hx4 : Keeps 35782556 s x4 := by
    unfold x4
    refine Keeps.step ?_ (State.setRow_keeps _ _ _) rfl
    exact Keeps.refl _ _
  clear_value x4
  have hx5 : Keeps 35782556 s x5 := by
    unfold x5
    refine Keeps.each ?_ ?_
    · assumption
    · intro a7 a8 a9
      split
      · rename_i y10 y11 y12 y13
        refine Keeps.step ?_ (State.completeFurrow_keeps _ _ _ _ _ _ _) rfl
        assumption
      · rename_i y14 y15
        refine Keeps.step ?_ (State.popXfer_keeps _ _ _) rfl
        assumption
  clear_value x5
  refine Keeps.ite ?_ ?_
  · exact Keeps.refl _ _
  · refine Keeps.ite ?_ ?_
    · refine Keeps.step ?_ (State.settle_keeps _ _) rfl
      assumption
    · refine Keeps.step ?_ (State.attn_keeps _ _) rfl
      refine Keeps.step ?_ (State.setRow_keeps _ _ _) rfl
      assumption

theorem State.freezeOp_keeps (s) (z1) : Keeps 35782556 s (State.freezeOp s z1) := by
  unfold State.freezeOp
  extract_lets x1 x2 x3 x4 x5 x6 x7 x8 x9 x10 x11 x12
  have hx1 : Keeps 35782556 s x1 := by
    unfold x1
    refine Keeps.step ?_ (State.setRg_keeps _ _ _) rfl
    exact Keeps.refl _ _
  clear_value x1
  have hx2 : KeepsP 35782556 s x2 := by
    unfold x2
    refine KeepsP.step ?_ (State.discardPosted_keeps _) rfl
    assumption
  clear_value x2
  clear_value x3
  have hx4 : Keeps 35782556 s x4 := by
    unfold x4
    refine Keeps.step ?_ (State.setRg_keeps _ _ _) rfl
    refine KeepsP.fst ?_
    assumption
  clear_value x4
  have hx5 : Keeps 35782556 s x5 := by
    unfold x5
    refine Keeps.ite ?_ ?_
    · assumption
    · refine Keeps.step ?_ (State.setRg_keeps _ _ _) rfl
      assumption
  clear_value x5
  have hx6 : Keeps 35782556 s x6 := by
    unfold x6
    refine Keeps.step ?_ (State.abandonTags_keeps _) rfl
    refine Keeps.step ?_ (State.flushPlat_keeps _) rfl
    assumption
  clear_value x6
  have hx11 : Keeps 35782556 s x11 := by
    unfold x11
    refine Keeps.step (m' := 66432) (t := x6) ?_ (by constructor <;> first | exact fun b => Bool.noConfusion b | exact fun _ => rfl | exact rfl | exact Nat.le_refl _ | (intro i; obtain ⟨i1, i2, i3, i4, i5, i6, i7, i8, i9, j1, j2, j3, j4⟩ := i; refine ⟨?_, ?_, ?_, ?_, ?_, ?_, ?_, ?_, ?_, ?_, ?_, ?_, ?_⟩ <;> first | assumption | rfl | exact kvSet_rises _ _ _ _ (by assumption) | exact kvPut_rises _ _ _ (by assumption) | exact kvErase_rises _ _ (by assumption) | exact memZero_rises _ _ _ (by assumption) | exact filter_rises _ _ (by assumption) | exact filter_rises _ _ (map_rises _ _ (fun _ => rfl) (by assumption)) | exact PlotsWf.cleared _ _ (by assumption) | exact ⟨rfl, fun _ h => nomatch h⟩ | exact map_rises _ _ (fun _ => rfl) (by assumption))) rfl
    assumption
  clear_value x11
  have hx12 : Keeps 35782556 s x12 := by
    unfold x12
    refine Keeps.step ?_ (State.bump_keeps _ _) rfl
    refine Keeps.step ?_ (State.raise_keeps _ _ _) rfl
    assumption
  clear_value x12
  refine Keeps.ite ?_ ?_
  · assumption
  · refine Keeps.each ?_ ?_
    · assumption
    · intro a13 a14 a15
      refine Keeps.step ?_ (State.freezeRow_keeps _ _) rfl
      assumption

theorem State.memberFault_keeps (s) (z1) : Keeps 870449052 s (State.memberFault s z1) := by
  unfold State.memberFault
  refine Keeps.ite ?_ ?_
  · refine Keeps.step ?_ (State.haltMember_keeps _ _ _) rfl
    refine Keeps.step ?_ (State.report_keeps _ _ _ _) rfl
    exact Keeps.refl _ _
  · exact Keeps.refl _ _

theorem State.jobHalt_keeps (s) (z1) (z2) : Keeps 870449052 s (State.jobHalt s z1 z2) := by
  unfold State.jobHalt
  extract_lets x1 x2
  have hx1 : Keeps 870449052 s x1 := by
    unfold x1
    refine Keeps.step ?_ (State.memberFault_keeps _ _) rfl
    exact Keeps.refl _ _
  clear_value x1
  refine Keeps.ite ?_ ?_
  · refine Keeps.ite ?_ ?_
    · refine Keeps.step ?_ (State.settleStakes_keeps _) rfl
      refine Keeps.step ?_ (State.haltProgram_keeps _ _ _ _ _) rfl
      assumption
    · assumption
  · assumption

theorem State.fencePackage_keeps (s) : Keeps 841088924 s (State.fencePackage s) := by
  unfold State.fencePackage
  extract_lets x1 x2 x3
  have hx1 : Keeps 841088924 s x1 := by
    unfold x1
    refine Keeps.step ?_ (State.freezeOp_keeps _ _) rfl
    refine Keeps.step ?_ (State.plotFenceOp_keeps _ _) rfl
    exact Keeps.refl _ _
  clear_value x1
  have hx3 : Keeps 841088924 s x3 := by
    unfold x3
    refine Keeps.setfc (m := 841088924) _ ?_ id rfl
    assumption
  clear_value x3
  refine Keeps.each ?_ ?_
  · assumption
  · intro a4 a5 a6
    refine Keeps.step ?_ (State.endEntry_keeps _ _ _ _) rfl
    refine Keeps.step ?_ (State.dropDraft_keeps _ _) rfl
    assumption

theorem State.reactDieReset_keeps (s) (z1) : Keeps 870449052 s (State.reactDieReset s z1) := by
  unfold State.reactDieReset
  refine Keeps.ite ?_ ?_
  · exact Keeps.refl _ _
  · refine Keeps.step ?_ (State.resetDie_keeps _ _) rfl
    refine Keeps.step ?_ (State.cause_keeps _ _) rfl
    exact Keeps.refl _ _

theorem State.react_keeps (s) (z1) (z2) (z3) : Keeps 870449052 s (State.react s z1 z2 z3) := by
  unfold State.react
  split
  · rename_i y1
    refine Keeps.step ?_ (State.jobHalt_keeps _ _ _) rfl
    exact Keeps.refl _ _
  · rename_i y2
    refine Keeps.step ?_ (State.fencePlot_keeps _ _) rfl
    exact Keeps.refl _ _
  · rename_i y3
    refine Keeps.step ?_ (State.reactDieReset_keeps _ _) rfl
    exact Keeps.refl _ _
  · rename_i y4
    refine Keeps.step ?_ (State.freezeOp_keeps _ _) rfl
    exact Keeps.refl _ _
  · rename_i y5
    extract_lets x6
    have hx6 : Keeps 870449052 s x6 := by
      unfold x6
      refine Keeps.step ?_ (State.jobHalt_keeps _ _ _) rfl
      exact Keeps.refl _ _
    clear_value x6
    refine Keeps.ite ?_ ?_
    · assumption
    · refine Keeps.step ?_ (State.fencePackage_keeps _) rfl
      assumption
  · rename_i y7
    refine Keeps.step ?_ (State.reactDieReset_keeps _ _) rfl
    refine Keeps.step ?_ (State.jobHalt_keeps _ _ _) rfl
    exact Keeps.refl _ _
  · rename_i y8 y9 y10 y11 y12 y13 y14
    exact Keeps.refl _ _

theorem State.stagingLoss_keeps (s) (z1) : Keeps 65536 s (State.stagingLoss s z1) := by
  unfold State.stagingLoss
  extract_lets x1 x2 x3 x4
  have hx1 : Keeps 65536 s x1 := by
    unfold x1
    refine Keeps.step ?_ (State.fcLostOne_keeps _) rfl
    refine Keeps.step ?_ (State.srcLost_keeps _ _) rfl
    exact Keeps.refl _ _
  clear_value x1
  clear_value x2
  have hx4 : Keeps 65536 s x4 := by
    unfold x4
    refine Keeps.setfc (m := 65536) _ ?_ id rfl
    assumption
  clear_value x4
  refine Keeps.step ?_ (State.raiseIf_keeps _ _ _ _) rfl
  assumption

theorem State.stage_keeps (s) (z1) : KeepsP 65536 s (State.stage s z1) := by
  unfold State.stage
  refine KeepsP.ite ?_ ?_
  · refine KeepsP.mk ?_
    refine Keeps.step ?_ (State.stagingLoss_keeps _ _) rfl
    exact Keeps.refl _ _
  · refine KeepsP.mk ?_
    refine Keeps.setfc (m := 65536) _ ?_ id rfl
    exact Keeps.refl _ _

theorem State.placeRecord_keeps (s) (z1) (z2) (z3) : KeepsP 65536 s (State.placeRecord s z1 z2 z3) := by
  unfold State.placeRecord
  refine KeepsP.ite ?_ ?_
  · refine KeepsP.mk ?_
    exact Keeps.refl _ _
  · split
    · rename_i y1 y2 y3
      extract_lets x4 x5 x6 x7 x8 x9
      clear_value x5
      have hx7 : Keeps 65536 s x7 := by
        unfold x7
        refine Keeps.setfc (m := 65536) _ ?_ id rfl
        exact Keeps.refl _ _
      clear_value x7
      refine KeepsP.ite ?_ ?_
      · refine KeepsP.mk ?_
        refine Keeps.step ?_ (State.setSrc_keeps _ _ _) rfl
        assumption
      · refine KeepsP.mk ?_
        refine Keeps.setfc (m := 65536) _ ?_ id rfl
        exact Keeps.refl _ _
    · rename_i y10 y11
      refine KeepsP.ite ?_ ?_
      · refine KeepsP.mk ?_
        refine Keeps.setfc (m := 65536) _ ?_ id rfl
        exact Keeps.refl _ _
      · extract_lets x12 x13
        have hx12 : KeepsP 65536 s x12 := by
          unfold x12
          refine KeepsP.step ?_ (State.stage_keeps _ _) rfl
          exact Keeps.refl _ _
        clear_value x12
        refine KeepsP.ite ?_ ?_
        · refine KeepsP.mk ?_
          refine Keeps.step ?_ (State.setSrc_keeps _ _ _) rfl
          refine KeepsP.fst ?_
          assumption
        · refine KeepsP.mk ?_
          refine KeepsP.fst ?_
          assumption

theorem State.registerEvent_keeps (s) (z1) (z2) : Keeps 870449052 s (State.registerEvent s z1 z2) := by
  unfold State.registerEvent
  extract_lets x1 x2 x3
  clear_value x1
  clear_value x3
  split
  · rename_i y4 y5
    exact Keeps.refl _ _
  · rename_i y6 y7 y8
    extract_lets x9 x10 x11 x12 x13 x14 x15 x16 x17 x18 x19 x20
    have hx9 : Keeps 870449052 s x9 := by
      unfold x9
      refine Keeps.ite ?_ ?_
      · refine Keeps.step ?_ (State.setSrc_keeps _ _ _) rfl
        exact Keeps.refl _ _
      · exact Keeps.refl _ _
    clear_value x9
    clear_value x12
    clear_value x13
    clear_value x14
    have hx16 : Keeps 870449052 s x16 := by
      unfold x16
      refine Keeps.step ?_ (State.setSrc_keeps _ _ _) rfl
      assumption
    clear_value x16
    have hx18 : Keeps 870449052 s x18 := by
      unfold x18
      refine Keeps.setfc (m := 870449052) _ ?_ id rfl
      assumption
    clear_value x18
    have hx19 : Keeps 870449052 s x19 := by
      unfold x19
      refine Keeps.ite ?_ ?_
      · refine Keeps.step ?_ (State.setVal_keeps _ _ _) rfl
        assumption
      · assumption
    clear_value x19
    have hx20 : KeepsP 870449052 s x20 := by
      unfold x20
      refine KeepsP.step ?_ (State.placeRecord_keeps _ _ _ _) rfl
      assumption
    clear_value x20
    refine Keeps.ite ?_ ?_
    · assumption
    · refine Keeps.step ?_ (State.react_keeps _ _ _ _) rfl
      refine KeepsP.fst ?_
      assumption

theorem State.linkAer_keeps (s) (z1) : Keeps 35782558 s (State.linkAer s z1) := by
  unfold State.linkAer
  extract_lets x1
  clear_value x1
  refine Keeps.ite ?_ ?_
  · refine Keeps.step ?_ (State.aerCorr_keeps _ _) rfl
    refine Keeps.setfree (m := 35782558) _ ?_ rfl
    exact Keeps.refl _ _
  · refine Keeps.ite ?_ ?_
    · refine Keeps.step ?_ (State.aer_keeps _ _ _ _) rfl
      refine Keeps.setfree (m := 35782558) _ ?_ rfl
      exact Keeps.refl _ _
    · refine Keeps.ite ?_ ?_
      · refine Keeps.step ?_ (State.aerCorr_keeps _ _) rfl
        exact Keeps.refl _ _
      · refine Keeps.ite ?_ ?_
        · refine Keeps.step ?_ (State.freezeOp_keeps _ _) rfl
          refine Keeps.step ?_ (State.aer_keeps _ _ _ _) rfl
          exact Keeps.refl _ _
        · exact Keeps.refl _ _

theorem State.eccMark_keeps (s) (z1) : Keeps 49280 s (State.eccMark s z1) := by
  unfold State.eccMark
  extract_lets x1 x2
  clear_value x1
  clear_value x2
  split
  · rename_i y3 y4
    exact Keeps.refl _ _
  · rename_i y5 y6 y7
    refine Keeps.ite ?_ ?_
    · exact Keeps.refl _ _
    · refine Keeps.ite ?_ ?_
      · refine Keeps.step ?_ (State.setHbm_keeps _ _ (by first | exact fun i => ⟨memZero_wf _ _ _ i.1, memZero_wf _ _ _ i.2.1⟩ | exact fun i => ⟨memWriteEn_wf _ _ _ i.1, markWrite_wf _ _ _ _ i.2.1⟩ | exact fun i => ⟨i.1, by dsimp only; exact kvSet_wf _ _ _ i.2.1⟩ | exact fun i => ⟨foldl_wf _ _ _ (fun _ _ h => kvSet_wf _ _ _ h) (memZero_wf _ _ _ i.1), foldl_wf _ _ _ (fun _ _ h => foldl_wf _ _ _ (fun _ _ h => kvPut_wfFrom _ _ 0 _ (by decide) (Nat.zero_le _) h) h) (memZero_wf _ _ _ i.2.1)⟩)) rfl
        exact Keeps.refl _ _
      · refine Keeps.ite ?_ ?_
        · refine Keeps.step ?_ (State.setTilth_keeps _ _ _ (by first | exact fun i => ⟨memWriteEn_wf _ _ _ (State.plot_wf i _).1, markWrite_wf _ _ _ _ (State.plot_wf i _).2⟩ | exact fun i => ⟨memZero_wf _ _ _ (State.plot_wf i _).1, memZero_wf _ _ _ (State.plot_wf i _).2⟩ | exact fun i => ⟨(State.plot_wf i _).1, by dsimp only; exact kvSet_wf _ _ _ (State.plot_wf i _).2⟩)) rfl
          exact Keeps.refl _ _
        · exact Keeps.refl _ _

theorem State.plotError_keeps (s) (z1) : Keeps 35782556 s (State.plotError s z1) := by
  unfold State.plotError
  refine Keeps.ite ?_ ?_
  · extract_lets x1
    refine Keeps.ite ?_ ?_
    · refine Keeps.step ?_ (State.settleStakes_keeps _) rfl
      refine Keeps.step ?_ (State.haltProgram_keeps _ _ _ _ _) rfl
      exact Keeps.refl _ _
    · exact Keeps.refl _ _
  · exact Keeps.refl _ _

theorem execFaultEvent_keeps (z0) (s) : KeepsO 870449054 s (execFaultEvent z0 s) := by
  unfold execFaultEvent
  refine KeepsO.ite ?_ ?_
  · refine KeepsO.next ?_
    exact Keeps.refl _ _
  · split
    · rename_i y1 y2
      refine KeepsO.next ?_
      refine Keeps.step ?_ (State.registerEvent_keeps _ _ _) rfl
      refine Keeps.step ?_ (State.plotError_keeps _ _) rfl
      refine Keeps.step ?_ (State.eccMark_keeps _ _) rfl
      refine Keeps.step ?_ (State.linkAer_keeps _ _) rfl
      exact Keeps.refl _ _
    · rename_i y3
      split
      · rename_i y4 y5
        refine KeepsO.next ?_
        exact Keeps.refl _ _
      · rename_i y6 y7 y8 y9
        refine KeepsO.next ?_
        refine Keeps.step ?_ (State.registerEvent_keeps _ _ _) rfl
        refine Keeps.setfc (m := 870449054) _ ?_ id rfl
        exact Keeps.refl _ _

theorem State.conditionEnd_keeps (s) (z1) (z2) : Keeps 65536 s (State.conditionEnd s z1 z2) := by
  unfold State.conditionEnd
  split
  · rename_i y1 y2
    exact Keeps.refl _ _
  · rename_i y3 y4 y5
    extract_lets x6 x7
    refine Keeps.ite ?_ ?_
    · exact Keeps.refl _ _
    · refine Keeps.ite ?_ ?_
      · refine Keeps.step ?_ (State.setSrc_keeps _ _ _) rfl
        exact Keeps.refl _ _
      · refine Keeps.step ?_ (State.setSrc_keeps _ _ _) rfl
        exact Keeps.refl _ _

theorem execLevelConditionEnd_keeps (z0) (s) : KeepsO 65536 s (execLevelConditionEnd z0 s) := by
  unfold execLevelConditionEnd
  refine KeepsO.next ?_
  refine Keeps.ite ?_ ?_
  · exact Keeps.refl _ _
  · refine Keeps.step ?_ (State.conditionEnd_keeps _ _ _) rfl
    exact Keeps.refl _ _

theorem execEscWindowClose_keeps (z0) (s) : KeepsO 65537 s (execEscWindowClose z0 s) := by
  unfold execEscWindowClose
  split
  · rename_i y1 y2
    refine KeepsO.next ?_
    exact Keeps.refl _ _
  · rename_i y3 y4 y5
    extract_lets x6 x7
    have hx6 : Keeps 65537 s x6 := by
      unfold x6
      refine Keeps.step ?_ (State.until__keeps _ _) rfl
      exact Keeps.refl _ _
    clear_value x6
    refine KeepsO.next ?_
    refine Keeps.step ?_ (State.setSrc_keeps _ _ _) rfl
    assumption

theorem execSourceQuiet_keeps (z0) (s) : KeepsO 65537 s (execSourceQuiet z0 s) := by
  unfold execSourceQuiet
  split
  · rename_i y1 y2
    refine KeepsO.next ?_
    exact Keeps.refl _ _
  · rename_i y3 y4 y5
    extract_lets x6 x7
    have hx6 : Keeps 65537 s x6 := by
      unfold x6
      refine Keeps.step ?_ (State.until__keeps _ _) rfl
      exact Keeps.refl _ _
    clear_value x6
    refine KeepsO.next ?_
    refine Keeps.step ?_ (State.setSrc_keeps _ _ _) rfl
    assumption

theorem State.fatalSample_keeps (s) (z1) : Keeps 870449052 s (State.fatalSample s z1) := by
  unfold State.fatalSample
  refine Keeps.ite ?_ ?_
  · exact Keeps.refl _ _
  · extract_lets x1 x2
    have hx2 : Keeps 870449052 s x2 := by
      unfold x2
      refine Keeps.setfc (m := 870449052) _ ?_ id rfl
      exact Keeps.refl _ _
    clear_value x2
    refine Keeps.ite ?_ ?_
    · refine Keeps.step ?_ (State.reactDieReset_keeps _ _) rfl
      refine Keeps.step ?_ (State.jobHalt_keeps _ _ _) rfl
      assumption
    · refine Keeps.ite ?_ ?_
      · assumption
      · refine Keeps.step ?_ (State.fencePackage_keeps _) rfl
        assumption

theorem execRailSample_keeps (z0) (z1) (z2) (z3) (s) : KeepsO 870449052 s (execRailSample z0 z1 z2 z3 s) := by
  unfold execRailSample
  refine KeepsO.ite ?_ ?_
  · refine KeepsO.next ?_
    exact Keeps.refl _ _
  · extract_lets x1 x2 x3 x4 x5 x6 x7 x8 x9 x10 x11 x12 x13
    clear_value x1
    clear_value x2
    have hx3 : ∀ a14, Keeps 870449052 s a14 → Keeps 870449052 s (x3 a14) := by
      unfold x3
      intro a15 a16
      extract_lets x17 x18
      refine Keeps.step ?_ (State.conditionEnd_keeps _ _ _) rfl
      refine Keeps.setfc (m := 870449052) _ ?_ id rfl
      assumption
    clear_value x3
    have hx5 : Keeps 870449052 s x5 := by
      unfold x5
      refine hx3 _ ?_
      exact Keeps.refl _ _
    clear_value x5
    clear_value x8
    clear_value x9
    clear_value x10
    clear_value x11
    have hx12 : Keeps 870449052 s x12 := by
      unfold x12
      refine Keeps.setfc (m := 870449052) _ ?_ id rfl
      exact Keeps.refl _ _
    clear_value x12
    have hx13 : Keeps 870449052 s x13 := by
      unfold x13
      refine Keeps.ite ?_ ?_
      · refine Keeps.step ?_ (State.fatalSample_keeps _ _) rfl
        exact Keeps.refl _ _
      · exact Keeps.refl _ _
    clear_value x13
    refine KeepsO.ite ?_ ?_
    · refine KeepsO.next ?_
      refine Keeps.setfc (m := 870449052) _ ?_ id rfl
      assumption
    · split
      · rename_i y19 y20
        refine KeepsO.next ?_
        refine Keeps.setfc (m := 870449052) _ ?_ id rfl
        exact Keeps.refl _ _
      · rename_i y21 y22 y23
        refine KeepsO.ite ?_ ?_
        · refine KeepsO.next ?_
          exact Keeps.refl _ _
        · refine KeepsO.ite ?_ ?_
          · refine KeepsO.ite ?_ ?_
            · refine KeepsO.next ?_
              refine Keeps.step ?_ (State.registerEvent_keeps _ _ _) rfl
              assumption
            · refine KeepsO.next ?_
              refine Keeps.setfc (m := 870449052) _ ?_ id rfl
              exact Keeps.refl _ _
          · refine KeepsO.next ?_
            refine hx3 _ ?_
            assumption

theorem execFatalUnspec_keeps (z0) (s) : KeepsO 870449053 s (execFatalUnspec z0 s) := by
  unfold execFatalUnspec
  split
  · rename_i y1 y2
    refine KeepsO.next ?_
    exact Keeps.refl _ _
  · rename_i y3 y4 y5
    extract_lets x6
    have hx6 : Keeps 870449053 s x6 := by
      unfold x6
      refine Keeps.step ?_ (State.until__keeps _ _) rfl
      exact Keeps.refl _ _
    clear_value x6
    refine KeepsO.next ?_
    refine Keeps.step ?_ (State.registerEvent_keeps _ _ _) rfl
    assumption

theorem State.enterQueue_keeps (s) (z1) : Keeps 33619972 s (State.enterQueue s z1) := by
  unfold State.enterQueue
  extract_lets x1 x2 x3 x4 x5 x6 x7 x8 x9 x10 x11 x12 x13 x14
  clear_value x1
  have hx3 : Keeps 33619972 s x3 := by
    unfold x3
    refine Keeps.setfc (m := 33619972) _ ?_ id rfl
    exact Keeps.refl _ _
  clear_value x3
  have hx4 : Keeps 33619972 s x4 := by
    unfold x4
    refine Keeps.step ?_ (State.srcLost_keeps _ _) rfl
    exact Keeps.refl _ _
  clear_value x4
  clear_value x5
  have hx7 : Keeps 33619972 s x7 := by
    unfold x7
    refine Keeps.setfc (m := 33619972) _ ?_ id rfl
    assumption
  clear_value x7
  clear_value x9
  clear_value x11
  have hx12 : Keeps 33619972 s x12 := by
    unfold x12
    refine Keeps.step ?_ (State.setSrc_keeps _ _ _) rfl
    exact Keeps.refl _ _
  clear_value x12
  have hx14 : Keeps 33619972 s x14 := by
    unfold x14
    refine Keeps.setfc (m := 33619972) _ ?_ id rfl
    assumption
  clear_value x14
  refine Keeps.ite ?_ ?_
  · refine Keeps.step ?_ (State.setVal_keeps _ _ _) rfl
    refine Keeps.step ?_ (State.raise_keeps _ _ _) rfl
    refine Keeps.step ?_ (State.bump_keeps _ _) rfl
    refine Keeps.step ?_ (State.srcLost_keeps _ _) rfl
    assumption
  · refine Keeps.ite ?_ ?_
    · refine Keeps.step ?_ (State.raiseIf_keeps _ _ _ _) rfl
      assumption
    · refine Keeps.step ?_ (State.bump_keeps _ _) rfl
      refine Keeps.ite ?_ ?_
      · refine Keeps.step ?_ (State.hlWork_keeps _) rfl
        assumption
      · assumption

theorem execRecordWriter_keeps (s) : KeepsO 33619973 s (execRecordWriter s) := by
  unfold execRecordWriter
  extract_lets x1 x2 x3 x4 x5 x6 x7 x8
  clear_value x1
  clear_value x2
  have hx3 : Keeps 33619973 s x3 := by
    unfold x3
    refine Keeps.step ?_ (State.until__keeps _ _) rfl
    exact Keeps.refl _ _
  clear_value x3
  have hx6 : Keeps 33619973 s x6 := by
    unfold x6
    refine Keeps.each ?_ ?_
    · refine Keeps.setfc (m := 33619973) _ ?_ id rfl
      assumption
    · intro a9 a10 a11
      refine Keeps.step ?_ (State.enterQueue_keeps _ _) rfl
      assumption
  clear_value x6
  clear_value x7
  have hx8 : Keeps 33619973 s x8 := by
    unfold x8
    refine Keeps.setfc (m := 33619973) _ ?_ id rfl
    assumption
  clear_value x8
  refine KeepsO.ite ?_ ?_
  · refine KeepsO.next ?_
    exact Keeps.refl _ _
  · split
    · rename_i y12 y13
      refine KeepsO.next ?_
      assumption
    · rename_i y14 y15 y16
      extract_lets x17 x18
      have hx18 : Keeps 33619973 s x18 := by
        unfold x18
        refine Keeps.ite ?_ ?_
        · refine Keeps.step ?_ (State.setSrc_keeps _ _ _) rfl
          assumption
        · assumption
      clear_value x18
      refine KeepsO.next ?_
      refine Keeps.step ?_ (State.enterQueue_keeps _ _) rfl
      assumption

theorem State.popQueue_keeps (s) : Keeps 65536 s (State.popQueue s) := by
  unfold State.popQueue
  split
  · rename_i y1 y2
    exact Keeps.refl _ _
  · rename_i y3 y4 y5 y6
    refine Keeps.setfc (m := 65536) _ ?_ id rfl
    exact Keeps.refl _ _

theorem execHostRingWrite_keeps (s) : KeepsO 65940 s (execHostRingWrite s) := by
  unfold execHostRingWrite
  refine KeepsO.ite ?_ ?_
  · refine KeepsO.next ?_
    exact Keeps.refl _ _
  · split
    · rename_i y1 y2
      refine KeepsO.next ?_
      exact Keeps.refl _ _
    · rename_i y3 y4 y5
      extract_lets x6 x7 x8 x9 x10 x11
      clear_value x6
      clear_value x7
      have hx10 : Keeps 65940 s x10 := by
        unfold x10
        refine Keeps.setfc (m := 65940) _ ?_ id rfl
        exact Keeps.refl _ _
      clear_value x10
      have hx11 : Keeps 65940 s x11 := by
        unfold x11
        refine Keeps.step ?_ (State.post_keeps _ _) rfl
        assumption
      clear_value x11
      refine KeepsO.next ?_
      refine Keeps.step ?_ (State.post_keeps _ _) rfl
      assumption

theorem State.writeFcRingBase_keeps (s) (z1) (z2) : Keeps 65548 s (State.writeFcRingBase s z1 z2) := by
  unfold State.writeFcRingBase
  extract_lets x1
  clear_value x1
  refine Keeps.ite ?_ ?_
  · refine Keeps.step ?_ (State.valueErr_keeps _ _ _ _) rfl
    exact Keeps.refl _ _
  · refine Keeps.step ?_ (State.setRg_keeps _ _ _) rfl
    exact Keeps.refl _ _

theorem State.writeFcHead_keeps (s) (z1) (z2) : Keeps 65548 s (State.writeFcHead s z1 z2) := by
  unfold State.writeFcHead
  refine Keeps.ite ?_ ?_
  · refine Keeps.step ?_ (State.valueErr_keeps _ _ _ _) rfl
    exact Keeps.refl _ _
  · refine Keeps.setfc (m := 65548) _ ?_ id rfl
    exact Keeps.refl _ _

theorem State.writeFcCtrl_keeps (s) (z1) (z2) : Keeps 65548 s (State.writeFcCtrl s z1 z2) := by
  unfold State.writeFcCtrl
  refine Keeps.ite ?_ ?_
  · refine Keeps.setfc (m := 65548) _ ?_ id rfl
    exact Keeps.refl _ _
  · refine Keeps.ite ?_ ?_
    · exact Keeps.refl _ _
    · refine Keeps.ite ?_ ?_
      · refine Keeps.step ?_ (State.valueErr_keeps _ _ _ _) rfl
        exact Keeps.refl _ _
      · refine Keeps.setfc (m := 65548) _ ?_ id rfl
        exact Keeps.refl _ _

theorem State.writeFcPop_keeps (s) (z1) (z2) : Keeps 65548 s (State.writeFcPop s z1 z2) := by
  unfold State.writeFcPop
  split
  · rename_i y1 y2 y3 y4
    refine Keeps.ite ?_ ?_
    · refine Keeps.step ?_ (State.popQueue_keeps _) rfl
      exact Keeps.refl _ _
    · refine Keeps.step ?_ (State.valueErr_keeps _ _ _ _) rfl
      exact Keeps.refl _ _
  · rename_i y5 y6
    refine Keeps.step ?_ (State.valueErr_keeps _ _ _ _) rfl
    exact Keeps.refl _ _

theorem execFcRingHeadWrite_keeps (z0) (z1) (s) : KeepsO 65548 s (execFcRingHeadWrite z0 z1 s) := by
  unfold execFcRingHeadWrite
  refine KeepsO.next ?_
  refine Keeps.step ?_ (State.writeFcHead_keeps _ _ _) rfl
  exact Keeps.refl _ _

theorem execFcRingEnable_keeps (z0) (z1) (s) : KeepsO 65548 s (execFcRingEnable z0 z1 s) := by
  unfold execFcRingEnable
  refine KeepsO.next ?_
  refine Keeps.step ?_ (State.writeFcCtrl_keeps _ _ _) rfl
  exact Keeps.refl _ _

theorem execFcPop_keeps (z0) (z1) (s) : KeepsO 65548 s (execFcPop z0 z1 s) := by
  unfold execFcPop
  refine KeepsO.next ?_
  refine Keeps.step ?_ (State.writeFcPop_keeps _ _ _) rfl
  exact Keeps.refl _ _

theorem State.recordNextOp_keeps (s) : KeepsP 65536 s (State.recordNextOp s) := by
  unfold State.recordNextOp
  refine KeepsP.ite ?_ ?_
  · refine KeepsP.mk ?_
    exact Keeps.refl _ _
  · split
    · rename_i y1 y2
      refine KeepsP.mk ?_
      exact Keeps.refl _ _
    · rename_i y3 y4 y5 y6
      refine KeepsP.mk ?_
      refine Keeps.step ?_ (State.popQueue_keeps _) rfl
      exact Keeps.refl _ _

theorem execRecordNext_keeps (z0) (s) : KeepsO 65536 s (execRecordNext z0 s) := by
  unfold execRecordNext
  refine KeepsO.ite ?_ ?_
  · refine KeepsO.next ?_
    exact Keeps.refl _ _
  · refine KeepsO.next ?_
    refine KeepsP.fst ?_
    refine KeepsP.step ?_ (State.recordNextOp_keeps _) rfl
    exact Keeps.refl _ _

theorem State.fcReact_keeps (s) (z1) (z2) (z3) : Keeps 870449052 s (State.fcReact s z1 z2 z3) := by
  unfold State.fcReact
  refine Keeps.ite ?_ ?_
  · refine Keeps.step ?_ (State.valueErr_keeps _ _ _ _) rfl
    exact Keeps.refl _ _
  · extract_lets x1 x2 x3 x4
    have hx3 : Keeps 870449052 s x3 := by
      unfold x3
      refine Keeps.step ?_ (State.setSrc_keeps _ _ _) rfl
      exact Keeps.refl _ _
    clear_value x3
    have hx4 : KeepsP 870449052 s x4 := by
      unfold x4
      refine KeepsP.step ?_ (State.stage_keeps _ _) rfl
      assumption
    clear_value x4
    refine Keeps.step ?_ (State.react_keeps _ _ _ _) rfl
    refine KeepsP.fst ?_
    assumption

theorem execFcReactJobHalt_keeps (z0) (z1) (s) : KeepsO 870449052 s (execFcReactJobHalt z0 z1 s) := by
  unfold execFcReactJobHalt
  refine KeepsO.next ?_
  refine Keeps.step ?_ (State.fcReact_keeps _ _ _ _) rfl
  exact Keeps.refl _ _

theorem execFcReactPlotFence_keeps (z0) (z1) (s) : KeepsO 870449052 s (execFcReactPlotFence z0 z1 s) := by
  unfold execFcReactPlotFence
  refine KeepsO.next ?_
  refine Keeps.step ?_ (State.fcReact_keeps _ _ _ _) rfl
  exact Keeps.refl _ _

theorem execFcReactDieReset_keeps (z0) (z1) (s) : KeepsO 870449052 s (execFcReactDieReset z0 z1 s) := by
  unfold execFcReactDieReset
  refine KeepsO.next ?_
  refine Keeps.step ?_ (State.fcReact_keeps _ _ _ _) rfl
  exact Keeps.refl _ _

theorem execFcReactFreeze_keeps (z0) (z1) (s) : KeepsO 870449052 s (execFcReactFreeze z0 z1 s) := by
  unfold execFcReactFreeze
  refine KeepsO.next ?_
  refine Keeps.step ?_ (State.fcReact_keeps _ _ _ _) rfl
  exact Keeps.refl _ _

theorem execFcReactPackageFence_keeps (z0) (z1) (s) : KeepsO 870449052 s (execFcReactPackageFence z0 z1 s) := by
  unfold execFcReactPackageFence
  refine KeepsO.next ?_
  refine Keeps.step ?_ (State.fcReact_keeps _ _ _ _) rfl
  exact Keeps.refl _ _

theorem State.clearSticky_keeps (s) (z1) : Keeps 65536 s (State.clearSticky s z1) := by
  unfold State.clearSticky
  refine Keeps.step ?_ (State.setSrc_keeps _ _ _) rfl
  exact Keeps.refl _ _

theorem execStickyClear_keeps (z0) (z1) (s) : KeepsO 870449052 s (execStickyClear z0 z1 s) := by
  unfold execStickyClear
  extract_lets x1
  have hx1 : Keeps 870449052 s x1 := by
    unfold x1
    refine Keeps.step ?_ (State.clearSticky_keeps _ _) rfl
    exact Keeps.refl _ _
  clear_value x1
  split
  · rename_i y2 y3
    refine KeepsO.next ?_
    refine Keeps.step ?_ (State.registerEvent_keeps _ _ _) rfl
    assumption
  · rename_i y4
    refine KeepsO.next ?_
    assumption

theorem State.setSrcCfg_keeps (s) (z1) (z2) : KeepsP 4 s (State.setSrcCfg s z1 z2) := by
  unfold State.setSrcCfg
  extract_lets x1
  clear_value x1
  refine KeepsP.ite ?_ ?_
  · refine KeepsP.mk ?_
    refine Keeps.step ?_ (State.setVal_keeps _ _ _) rfl
    exact Keeps.refl _ _
  · refine KeepsP.mk ?_
    exact Keeps.refl _ _

theorem State.writeSrcCfg_keeps (s) (z1) (z2) (z3) : Keeps 65548 s (State.writeSrcCfg s z1 z2 z3) := by
  unfold State.writeSrcCfg
  refine Keeps.ite ?_ ?_
  · exact Keeps.refl _ _
  · extract_lets x1
    have hx1 : KeepsP 65548 s x1 := by
      unfold x1
      refine KeepsP.step ?_ (State.setSrcCfg_keeps _ _ _) rfl
      exact Keeps.refl _ _
    clear_value x1
    refine Keeps.ite ?_ ?_
    · refine KeepsP.fst ?_
      assumption
    · refine Keeps.step ?_ (State.valueErr_keeps _ _ _ _) rfl
      exact Keeps.refl _ _

theorem State.odSrcCfg_keeps (s) (z1) (z2) : KeepsP 4 s (State.odSrcCfg s z1 z2) := by
  unfold State.odSrcCfg
  refine KeepsP.ite ?_ ?_
  · refine KeepsP.mk ?_
    exact Keeps.refl _ _
  · extract_lets x1
    have hx1 : KeepsP 4 s x1 := by
      unfold x1
      refine KeepsP.step ?_ (State.setSrcCfg_keeps _ _ _) rfl
      exact Keeps.refl _ _
    clear_value x1
    refine KeepsP.mk ?_
    refine KeepsP.fst ?_
    assumption

theorem execFcSrcCfgWrite_keeps (z0) (z1) (z2) (z3) (s) : KeepsO 65548 s (execFcSrcCfgWrite z0 z1 z2 z3 s) := by
  unfold execFcSrcCfgWrite
  split
  · rename_i y1
    refine KeepsO.next ?_
    refine Keeps.step ?_ (State.writeSrcCfg_keeps _ _ _ _) rfl
    exact Keeps.refl _ _
  · rename_i y2 y3
    refine KeepsO.next ?_
    refine Keeps.ite ?_ ?_
    · refine KeepsP.fst ?_
      refine KeepsP.step ?_ (State.odSrcCfg_keeps _ _ _) rfl
      exact Keeps.refl _ _
    · exact Keeps.refl _ _

theorem execFatalLogWrite_keeps (s) : KeepsO 196608 s (execFatalLogWrite s) := by
  unfold execFatalLogWrite
  refine KeepsO.ite ?_ ?_
  · refine KeepsO.next ?_
    exact Keeps.refl _ _
  · split
    · rename_i y1 y2
      refine KeepsO.next ?_
      exact Keeps.refl _ _
    · rename_i y3 y4 y5 y6
      extract_lets x7 x8
      refine KeepsO.next ?_
      refine Keeps.step ?_ (State.setBank_keeps _ _) rfl
      refine Keeps.setfc (m := 196608) _ ?_ id rfl
      exact Keeps.refl _ _

theorem State.disarm_keeps (s) : Keeps 65540 s (State.disarm s) := by
  unfold State.disarm
  extract_lets x1 x2 x3
  have hx2 : Keeps 65540 s x2 := by
    unfold x2
    refine Keeps.setfc (m := 65540) _ ?_ id rfl
    exact Keeps.refl _ _
  clear_value x2
  have hx3 : Keeps 65540 s x3 := by
    unfold x3
    refine Keeps.each ?_ ?_
    · assumption
    · intro a4 a5 a6
      refine Keeps.step ?_ (State.conditionEnd_keeps _ _ _) rfl
      assumption
  clear_value x3
  refine Keeps.step ?_ (State.setVal_keeps _ _ _) rfl
  refine Keeps.each ?_ ?_
  · assumption
  · intro a7 a8 a9
    refine Keeps.step ?_ (State.setVal_keeps _ _ _) rfl
    assumption

theorem State.forceArmOp_keeps (s) (z1) (z2) : KeepsP 65540 s (State.forceArmOp s z1 z2) := by
  unfold State.forceArmOp
  refine KeepsP.ite ?_ ?_
  · refine KeepsP.mk ?_
    exact Keeps.refl _ _
  · refine KeepsP.ite ?_ ?_
    · refine KeepsP.mk ?_
      refine Keeps.step ?_ (State.disarm_keeps _) rfl
      exact Keeps.refl _ _
    · refine KeepsP.ite ?_ ?_
      · refine KeepsP.mk ?_
        exact Keeps.refl _ _
      · refine KeepsP.mk ?_
        refine Keeps.setfc (m := 65540) _ ?_ id rfl
        exact Keeps.refl _ _

theorem execForceArm_keeps (z0) (z1) (s) : KeepsO 65540 s (execForceArm z0 z1 s) := by
  unfold execForceArm
  refine KeepsO.next ?_
  refine Keeps.ite ?_ ?_
  · refine KeepsP.fst ?_
    refine KeepsP.step ?_ (State.forceArmOp_keeps _ _ _) rfl
    exact Keeps.refl _ _
  · exact Keeps.refl _ _

theorem execForceArmExpiry_keeps (s) : KeepsO 65541 s (execForceArmExpiry s) := by
  unfold execForceArmExpiry
  split
  · rename_i y1 y2
    refine KeepsO.next ?_
    exact Keeps.refl _ _
  · rename_i y3 y4 y5
    refine KeepsO.next ?_
    refine Keeps.step ?_ (State.disarm_keeps _) rfl
    refine Keeps.step ?_ (State.until__keeps _ _) rfl
    exact Keeps.refl _ _

theorem State.forceEventOp_keeps (s) (z1) (z2) : KeepsP 870449052 s (State.forceEventOp s z1 z2) := by
  unfold State.forceEventOp
  refine KeepsP.ite ?_ ?_
  · refine KeepsP.mk ?_
    exact Keeps.refl _ _
  · refine KeepsP.mk ?_
    refine Keeps.each ?_ ?_
    · exact Keeps.refl _ _
    · intro a1 a2 a3
      refine Keeps.step ?_ (State.bump_keeps _ _) rfl
      refine Keeps.step ?_ (State.registerEvent_keeps _ _ _) rfl
      assumption

theorem execForceEvent_keeps (z0) (z1) (z2) (s) : KeepsO 870449052 s (execForceEvent z0 z1 z2 s) := by
  unfold execForceEvent
  refine KeepsO.next ?_
  refine Keeps.ite ?_ ?_
  · refine KeepsP.fst ?_
    refine KeepsP.step ?_ (State.forceEventOp_keeps _ _ _) rfl
    exact Keeps.refl _ _
  · exact Keeps.refl _ _

theorem State.forceLevelOp_keeps (s) (z1) (z2) : KeepsP 870449052 s (State.forceLevelOp s z1 z2) := by
  unfold State.forceLevelOp
  refine KeepsP.ite ?_ ?_
  · refine KeepsP.mk ?_
    exact Keeps.refl _ _
  · extract_lets x1
    have hx1 : Keeps 870449052 s x1 := by
      unfold x1
      refine Keeps.step ?_ (State.setVal_keeps _ _ _) rfl
      exact Keeps.refl _ _
    clear_value x1
    refine KeepsP.mk ?_
    refine Keeps.each ?_ ?_
    · assumption
    · intro a2 a3 a4
      extract_lets x5 x6 x7
      clear_value x5
      clear_value x6
      have hx7 : Keeps 870449052 s x7 := by
        unfold x7
        refine Keeps.step ?_ (State.registerEvent_keeps _ _ _) rfl
        assumption
      clear_value x7
      split
      · rename_i y8 y9
        assumption
      · rename_i y10 y11 y12
        refine Keeps.ite ?_ ?_
        · assumption
        · refine Keeps.ite ?_ ?_
          · refine Keeps.ite ?_ ?_
            · assumption
            · refine Keeps.ite ?_ ?_
              · refine Keeps.step ?_ (State.bump_keeps _ _) rfl
                assumption
              · assumption
          · refine Keeps.step ?_ (State.conditionEnd_keeps _ _ _) rfl
            assumption

theorem execForceLevel_keeps (z0) (z1) (z2) (s) : KeepsO 870449052 s (execForceLevel z0 z1 z2 s) := by
  unfold execForceLevel
  refine KeepsO.next ?_
  refine Keeps.ite ?_ ?_
  · refine KeepsP.fst ?_
    refine KeepsP.step ?_ (State.forceLevelOp_keeps _ _ _) rfl
    exact Keeps.refl _ _
  · exact Keeps.refl _ _

theorem State.forceRailOp_keeps (s) (z1) (z2) : KeepsP 4 s (State.forceRailOp s z1 z2) := by
  unfold State.forceRailOp
  refine KeepsP.ite ?_ ?_
  · refine KeepsP.mk ?_
    exact Keeps.refl _ _
  · refine KeepsP.ite ?_ ?_
    · refine KeepsP.mk ?_
      exact Keeps.refl _ _
    · refine KeepsP.mk ?_
      refine Keeps.step ?_ (State.setVal_keeps _ _ _) rfl
      exact Keeps.refl _ _

theorem execForceRail_keeps (z0) (z1) (z2) (s) : KeepsO 4 s (execForceRail z0 z1 z2 s) := by
  unfold execForceRail
  refine KeepsO.next ?_
  refine Keeps.ite ?_ ?_
  · refine KeepsP.fst ?_
    refine KeepsP.step ?_ (State.forceRailOp_keeps _ _ _) rfl
    exact Keeps.refl _ _
  · exact Keeps.refl _ _

theorem State.writeSrcStatus_keeps (s) (z1) (z2) : Keeps 65536 s (State.writeSrcStatus s z1 z2) := by
  unfold State.writeSrcStatus
  extract_lets x1 x2
  have hx1 : Keeps 65536 s x1 := by
    unfold x1
    refine Keeps.ite ?_ ?_
    · refine Keeps.step ?_ (State.clearSticky_keeps _ _) rfl
      exact Keeps.refl _ _
    · exact Keeps.refl _ _
  clear_value x1
  refine Keeps.step ?_ (State.setSrc_keeps _ _ _) rfl
  assumption

theorem State.writeFcReact_keeps (s) (z1) (z2) : Keeps 870449052 s (State.writeFcReact s z1 z2) := by
  unfold State.writeFcReact
  refine Keeps.step ?_ (State.fcReact_keeps _ _ _ _) rfl
  exact Keeps.refl _ _

theorem State.writeCollector_keeps (s) (z1) (z2) (z3) : KeepsS 870449052 s (State.writeCollector s z1 z2 z3) := by
  unfold State.writeCollector
  refine KeepsS.ite ?_ ?_
  · extract_lets x1
    clear_value x1
    split
    · rename_i y2 y3
      refine KeepsS.some ?_
      refine Keeps.ite ?_ ?_
      · refine Keeps.step ?_ (State.writeSrcStatus_keeps _ _ _) rfl
        exact Keeps.refl _ _
      · exact Keeps.refl _ _
    · rename_i y4 y5
      refine KeepsS.some ?_
      refine Keeps.step ?_ (State.writeSrcCfg_keeps _ _ _ _) rfl
      exact Keeps.refl _ _
    · rename_i y6 y7 y8
      exact KeepsS.none
  · split
    · rename_i y9 y10
      refine KeepsS.some ?_
      refine Keeps.setfc (m := 870449052) _ ?_ id rfl
      exact Keeps.refl _ _
    · rename_i y11 y12
      refine KeepsS.some ?_
      refine Keeps.step ?_ (State.writeFcRingBase_keeps _ _ _) rfl
      exact Keeps.refl _ _
    · rename_i y13 y14
      refine KeepsS.some ?_
      refine Keeps.step ?_ (State.writeFcCtrl_keeps _ _ _) rfl
      exact Keeps.refl _ _
    · rename_i y15 y16
      refine KeepsS.some ?_
      refine Keeps.step ?_ (State.writeFcHead_keeps _ _ _) rfl
      exact Keeps.refl _ _
    · rename_i y17 y18
      refine KeepsS.some ?_
      refine Keeps.setfc (m := 870449052) _ ?_ id rfl
      exact Keeps.refl _ _
    · rename_i y19 y20
      refine KeepsS.some ?_
      refine Keeps.step ?_ (State.writeFcReact_keeps _ _ _) rfl
      exact Keeps.refl _ _
    · rename_i y21 y22
      refine KeepsS.some ?_
      refine Keeps.step ?_ (State.writeFcPop_keeps _ _ _) rfl
      exact Keeps.refl _ _
    · rename_i y23 y24 y25 y26 y27 y28 y29 y30
      exact KeepsS.none

end Sys2Proof.Machine
end

