-- ==== Sys2Proof/Laws/FootHostLink.lean ====
section
/-! SUPPORT. The footprints of the operations of Machine/HostLink.lean. -/

namespace Sys2Proof.Machine

theorem State.trainStop_keeps (s) (z1) : Keeps 64 s (State.trainStop s z1) := by
  unfold State.trainStop
  refine Keeps.ite ?_ ?_
  · exact Keeps.refl _ _
  · refine Keeps.ite ?_ ?_
    · exact Keeps.refl _ _
    · refine Keeps.setlink (m := 64) _ ?_ rfl
      exact Keeps.refl _ _

theorem execLinkTrained_keeps (z0) (s) : KeepsO 66015 s (execLinkTrained z0 s) := by
  unfold execLinkTrained
  split
  · rename_i y1 y2 y3
    refine KeepsO.next ?_
    refine Keeps.step ?_ (State.trainStop_keeps _ _) rfl
    exact Keeps.refl _ _
  · rename_i y4 y5
    extract_lets x6 x7 x8 x9 x10 x11 x12 x13 x14 x15 x16 x17 x18
    clear_value x6
    clear_value x7
    have hx8 : Keeps 66015 s x8 := by
      unfold x8
      split
      · rename_i y19 y20 y21
        refine Keeps.ite ?_ ?_
        · refine Keeps.step ?_ (State.until__keeps _ _) rfl
          exact Keeps.refl _ _
        · exact Keeps.refl _ _
      · rename_i y22 y23
        exact Keeps.refl _ _
    clear_value x8
    clear_value x9
    have hx10 : Keeps 66015 s x10 := by
      unfold x10
      refine Keeps.ite ?_ ?_
      · assumption
      · refine Keeps.step ?_ (State.bump_keeps _ _) rfl
        assumption
    clear_value x10
    have hx11 : Keeps 66015 s x11 := by
      unfold x11
      refine Keeps.step ?_ (State.learn_keeps _ _ _) rfl
      assumption
    clear_value x11
    clear_value x13
    clear_value x14
    have hx15 : Keeps 66015 s x15 := by
      unfold x15
      refine Keeps.step ?_ (State.learn_keeps _ _ _) rfl
      assumption
    clear_value x15
    have hx18 : Keeps 66015 s x18 := by
      unfold x18
      refine Keeps.step (m' := 192) (t := x15) ?_ (by constructor <;> first | exact fun b => Bool.noConfusion b | exact fun _ => rfl | exact rfl | exact Nat.le_refl _ | exact id) rfl
      assumption
    clear_value x18
    refine KeepsO.ite ?_ ?_
    · refine KeepsO.next ?_
      assumption
    · refine KeepsO.ite ?_ ?_
      · refine KeepsO.ite ?_ ?_
        · refine KeepsO.next ?_
          assumption
        · refine KeepsO.next ?_
          refine Keeps.step ?_ (State.drain_keeps _) rfl
          refine Keeps.setlink (m := 66015) _ ?_ rfl
          assumption
      · refine KeepsO.next ?_
        refine Keeps.step ?_ (State.assert_keeps _) rfl
        refine Keeps.step ?_ (State.drain_keeps _) rfl
        refine Keeps.step ?_ (State.raiseIf_keeps _ _ _ _) rfl
        assumption

theorem execLinkRecovery_keeps (s) : KeepsO 68 s (execLinkRecovery s) := by
  unfold execLinkRecovery
  refine KeepsO.ite ?_ ?_
  · refine KeepsO.next ?_
    exact Keeps.refl _ _
  · extract_lets x1 x2 x3 x4 x5
    have hx1 : Keeps 68 s x1 := by
      unfold x1
      refine Keeps.step ?_ (State.bump_keeps _ _) rfl
      exact Keeps.refl _ _
    clear_value x1
    have hx2 : Keeps 68 s x2 := by
      unfold x2
      refine Keeps.step ?_ (State.bump_keeps _ _) rfl
      assumption
    clear_value x2
    have hx4 : Keeps 68 s x4 := by
      unfold x4
      refine Keeps.ite ?_ ?_
      · refine Keeps.setlink (m := 68) _ ?_ rfl
        assumption
      · assumption
    clear_value x4
    refine KeepsO.next ?_
    refine Keeps.setlink (m := 68) _ ?_ rfl
    assumption

theorem execAspmL1Entry_keeps (s) : KeepsO 68 s (execAspmL1Entry s) := by
  unfold execAspmL1Entry
  refine KeepsO.ite ?_ ?_
  · refine KeepsO.next ?_
    exact Keeps.refl _ _
  · extract_lets x1 x2 x3 x4 x5
    clear_value x1
    clear_value x2
    have hx3 : Keeps 68 s x3 := by
      unfold x3
      refine Keeps.step ?_ (State.bump_keeps _ _) rfl
      exact Keeps.refl _ _
    clear_value x3
    have hx4 : Keeps 68 s x4 := by
      unfold x4
      refine Keeps.ite ?_ ?_
      · refine Keeps.step ?_ (State.bump_keeps _ _) rfl
        assumption
      · assumption
    clear_value x4
    refine KeepsO.next ?_
    refine Keeps.setlink (m := 68) _ ?_ rfl
    assumption

theorem execAspmL1Exit_keeps (s) : KeepsO 66012 s (execAspmL1Exit s) := by
  unfold execAspmL1Exit
  refine KeepsO.ite ?_ ?_
  · refine KeepsO.next ?_
    refine Keeps.step ?_ (State.assert_keeps _) rfl
    refine Keeps.step ?_ (State.drain_keeps _) rfl
    refine Keeps.step ?_ (State.leaveL1_keeps _) rfl
    exact Keeps.refl _ _
  · refine KeepsO.next ?_
    exact Keeps.refl _ _

theorem execL0pNarrow_keeps (s) : KeepsO 68 s (execL0pNarrow s) := by
  unfold execL0pNarrow
  extract_lets x1 x2 x3
  clear_value x1
  clear_value x2
  refine KeepsO.ite ?_ ?_
  · refine KeepsO.next ?_
    exact Keeps.refl _ _
  · refine KeepsO.next ?_
    refine Keeps.step ?_ (State.bump_keeps _ _) rfl
    refine Keeps.setlink (m := 68) _ ?_ rfl
    exact Keeps.refl _ _

theorem execL0pWiden_keeps (s) : KeepsO 68 s (execL0pWiden s) := by
  unfold execL0pWiden
  refine KeepsO.ite ?_ ?_
  · refine KeepsO.next ?_
    exact Keeps.refl _ _
  · refine KeepsO.next ?_
    refine Keeps.step ?_ (State.bump_keeps _ _) rfl
    refine Keeps.setlink (m := 68) _ ?_ rfl
    exact Keeps.refl _ _

theorem execLtrSend_keeps (s) : KeepsO 66004 s (execLtrSend s) := by
  unfold execLtrSend
  refine KeepsO.ite ?_ ?_
  · refine KeepsO.next ?_
    exact Keeps.refl _ _
  · extract_lets x1 x2 x3 x4 x5
    clear_value x1
    clear_value x2
    clear_value x3
    have hx5 : Keeps 66004 s x5 := by
      unfold x5
      refine Keeps.setlink (m := 66004) _ ?_ rfl
      exact Keeps.refl _ _
    clear_value x5
    refine KeepsO.next ?_
    refine Keeps.step ?_ (State.drain_keeps _) rfl
    refine Keeps.step ?_ (State.enqueue_keeps _ _) rfl
    assumption

theorem State.d3Enter_keeps (s) : Keeps 33620372 s (State.d3Enter s) := by
  unfold State.d3Enter
  split
  · rename_i y1 y2
    extract_lets x3 x4 x5
    have hx3 : Keeps 33620372 s x3 := by
      unfold x3
      refine Keeps.step ?_ (State.deassert_keeps _) rfl
      exact Keeps.refl _ _
    clear_value x3
    refine Keeps.step (m' := 33554560) (t := x3) ?_ (by constructor <;> first | exact fun b => Bool.noConfusion b | exact fun _ => rfl | exact rfl | exact Nat.le_refl _ | exact id) rfl
    assumption
  · rename_i y6 y7 y8
    refine Keeps.sethost (m := 33620372) _ ?_ id rfl
    exact Keeps.refl _ _
  · rename_i y9 y10
    exact Keeps.refl _ _

theorem execD3hotEntry_keeps (s) : KeepsO 33620372 s (execD3hotEntry s) := by
  unfold execD3hotEntry
  refine KeepsO.next ?_
  refine Keeps.step ?_ (State.d3Enter_keeps _) rfl
  exact Keeps.refl _ _

theorem State.parkRows_keeps (s) : Keeps 8192 s (State.parkRows s) := by
  unfold State.parkRows
  refine Keeps.ite ?_ ?_
  · exact Keeps.refl _ _
  · refine Keeps.each ?_ ?_
    · exact Keeps.refl _ _
    · intro a1 a2 a3
      extract_lets x4
      refine Keeps.ite ?_ ?_
      · assumption
      · refine Keeps.step ?_ (State.setRow_keeps _ _ _) rfl
        assumption

theorem State.unparkRows_keeps (s) : Keeps 35782556 s (State.unparkRows s) := by
  unfold State.unparkRows
  extract_lets x1
  have hx1 : Keeps 35782556 s x1 := by
    unfold x1
    refine Keeps.each ?_ ?_
    · exact Keeps.refl _ _
    · intro a2 a3 a4
      extract_lets x5
      refine Keeps.ite ?_ ?_
      · assumption
      · refine Keeps.ite ?_ ?_
        · refine Keeps.step ?_ (State.setRow_keeps _ _ _) rfl
          assumption
        · refine Keeps.step ?_ (State.setRow_keeps _ _ _) rfl
          assumption
  clear_value x1
  refine Keeps.each ?_ ?_
  · assumption
  · intro a6 a7 a8
    refine Keeps.step ?_ (State.stopDrained_keeps _ _) rfl
    refine Keeps.step ?_ (State.settle_keeps _ _) rfl
    assumption

theorem State.setBme_keeps (s) (z1) : Keeps 35782556 s (State.setBme s z1) := by
  unfold State.setBme
  refine Keeps.ite ?_ ?_
  · exact Keeps.refl _ _
  · extract_lets x1
    have hx1 : Keeps 35782556 s x1 := by
      unfold x1
      refine Keeps.step ?_ (State.setCfg_keeps _ _ _) rfl
      exact Keeps.refl _ _
    clear_value x1
    refine Keeps.ite ?_ ?_
    · refine Keeps.step ?_ (State.issueWalks_keeps _) rfl
      refine Keeps.step ?_ (State.unparkRows_keeps _) rfl
      refine Keeps.step ?_ (State.drain_keeps _) rfl
      assumption
    · refine Keeps.step ?_ (State.parkRows_keeps _) rfl
      assumption

theorem execBusMasterClear_keeps (s) : KeepsO 35782556 s (execBusMasterClear s) := by
  unfold execBusMasterClear
  refine KeepsO.next ?_
  refine Keeps.step ?_ (State.setBme_keeps _ _) rfl
  exact Keeps.refl _ _

theorem execBusMasterSet_keeps (s) : KeepsO 35782556 s (execBusMasterSet s) := by
  unfold execBusMasterSet
  refine KeepsO.next ?_
  refine Keeps.step ?_ (State.setBme_keeps _ _) rfl
  exact Keeps.refl _ _

theorem State.cfgErr_keeps (s) (z1) (z2) (z3) : Keeps 65548 s (State.cfgErr s z1 z2 z3) := by
  unfold State.cfgErr
  extract_lets x1
  clear_value x1
  refine Keeps.step ?_ (State.mmioErr_keeps _ _ _ _ _) rfl
  exact Keeps.refl _ _

theorem State.writeBarSize_keeps (s) (z1) (z2) (z3) : Keeps 65564 s (State.writeBarSize s z1 z2 z3) := by
  unfold State.writeBarSize
  refine Keeps.ite ?_ ?_
  · refine Keeps.step ?_ (State.cfgErr_keeps _ _ _ _) rfl
    exact Keeps.refl _ _
  · refine Keeps.ite ?_ ?_
    · exact Keeps.refl _ _
    · refine Keeps.ite ?_ ?_
      · refine Keeps.step ?_ (State.raise_keeps _ _ _) rfl
        exact Keeps.refl _ _
      · extract_lets x1
        have hx1 : Keeps 65564 s x1 := by
          unfold x1
          refine Keeps.step ?_ (State.setCfg_keeps _ _ _) rfl
          exact Keeps.refl _ _
        clear_value x1
        refine Keeps.step ?_ (State.setRg_keeps _ _ _) rfl
        refine Keeps.step ?_ (State.setCfg_keeps _ _ _) rfl
        refine Keeps.step ?_ (State.setCfg_keeps _ _ _) rfl
        assumption

theorem execBarSizeWrite_keeps (z0) (z1) (s) : KeepsO 65564 s (execBarSizeWrite z0 z1 s) := by
  unfold execBarSizeWrite
  refine KeepsO.next ?_
  refine Keeps.step ?_ (State.writeBarSize_keeps _ _ _ _) rfl
  exact Keeps.refl _ _

theorem State.writeApertureMap_keeps (s) (z1) (z2) : Keeps 65548 s (State.writeApertureMap s z1 z2) := by
  unfold State.writeApertureMap
  extract_lets x1
  clear_value x1
  refine Keeps.ite ?_ ?_
  · refine Keeps.step ?_ (State.valueErr_keeps _ _ _ _) rfl
    exact Keeps.refl _ _
  · refine Keeps.step ?_ (State.setRg_keeps _ _ _) rfl
    exact Keeps.refl _ _

theorem execApertureMapWrite_keeps (z0) (z1) (s) : KeepsO 65548 s (execApertureMapWrite z0 z1 s) := by
  unfold execApertureMapWrite
  refine KeepsO.next ?_
  refine Keeps.step ?_ (State.writeApertureMap_keeps _ _ _) rfl
  exact Keeps.refl _ _

theorem State.cfgEffects_keeps (s) (z1) (z2) (z3) (z4) (z5) (z6) : Keeps 35782620 s (State.cfgEffects s z1 z2 z3 z4 z5 z6) := by
  unfold State.cfgEffects
  split
  · rename_i y1
    extract_lets x2
    have hx2 : Keeps 35782620 s x2 := by
      unfold x2
      refine Keeps.step ?_ (State.setBme_keeps _ _) rfl
      exact Keeps.refl _ _
    clear_value x2
    refine Keeps.ite ?_ ?_
    · refine Keeps.step ?_ (State.deassert_keeps _) rfl
      assumption
    · refine Keeps.ite ?_ ?_
      · refine Keeps.step ?_ (State.assert_keeps _) rfl
        assumption
      · assumption
  · rename_i y3
    refine Keeps.ite ?_ ?_
    · exact Keeps.refl _ _
    · split
      · rename_i y4 y5
        refine Keeps.step ?_ (State.d3Enter_keeps _) rfl
        exact Keeps.refl _ _
      · rename_i y6 y7
        refine Keeps.ite ?_ ?_
        · refine Keeps.sethost (m := 35782620) _ ?_ id rfl
          exact Keeps.refl _ _
        · exact Keeps.refl _ _
      · rename_i y8 y9 y10
        exact Keeps.refl _ _
  · rename_i y11
    extract_lets x12
    have hx12 : Keeps 35782620 s x12 := by
      unfold x12
      refine Keeps.ite ?_ ?_
      · refine Keeps.step ?_ (State.cfgErr_keeps _ _ _ _) rfl
        exact Keeps.refl _ _
      · exact Keeps.refl _ _
    clear_value x12
    refine Keeps.ite ?_ ?_
    · refine Keeps.step ?_ (State.flrOp_keeps _) rfl
      assumption
    · assumption
  · rename_i y13
    extract_lets x14 x15
    clear_value x14
    have hx15 : Keeps 35782620 s x15 := by
      unfold x15
      refine Keeps.ite ?_ ?_
      · refine Keeps.step ?_ (State.autoRetryAd_keeps _) rfl
        exact Keeps.refl _ _
      · refine Keeps.ite ?_ ?_
        · refine Keeps.step ?_ (State.recallCas_keeps _) rfl
          exact Keeps.refl _ _
        · exact Keeps.refl _ _
    clear_value x15
    refine Keeps.ite ?_ ?_
    · refine Keeps.step ?_ (State.cfgErr_keeps _ _ _ _) rfl
      assumption
    · assumption
  · rename_i y16
    refine Keeps.ite ?_ ?_
    · refine Keeps.step ?_ (State.priResetOp_keeps _) rfl
      exact Keeps.refl _ _
    · exact Keeps.refl _ _
  · rename_i y17
    refine Keeps.ite ?_ ?_
    · refine Keeps.step ?_ (State.writeBarSize_keeps _ _ _ _) rfl
      exact Keeps.refl _ _
    · exact Keeps.refl _ _
  · rename_i y18 y19 y20 y21 y22 y23 y24
    exact Keeps.refl _ _

theorem State.cfgWrite_keeps (s) (z1) (z2) (z3) (z4) : Keeps 35782620 s (State.cfgWrite s z1 z2 z3 z4) := by
  unfold State.cfgWrite
  extract_lets x1 x2 x3 x4 x5 x6
  clear_value x1
  clear_value x2
  clear_value x3
  clear_value x4
  clear_value x5
  clear_value x6
  refine Keeps.step ?_ (State.cfgEffects_keeps _ _ _ _ _ _ _) rfl
  refine Keeps.step ?_ (State.setCfg_keeps _ _ _) rfl
  exact Keeps.refl _ _

theorem execConfigRequest_keeps (z0) (z1) (z2) (z3) (z4) (s) : KeepsO 35782620 s (execConfigRequest z0 z1 z2 z3 z4 s) := by
  unfold execConfigRequest
  extract_lets x1
  clear_value x1
  refine KeepsO.ite ?_ ?_
  · refine KeepsO.next ?_
    exact Keeps.refl _ _
  · refine KeepsO.ite ?_ ?_
    · refine KeepsO.next ?_
      refine Keeps.step ?_ (State.drain_keeps _) rfl
      refine Keeps.step ?_ (State.enqueue_keeps _ _) rfl
      refine Keeps.step ?_ (State.cfgWrite_keeps _ _ _ _ _) rfl
      exact Keeps.refl _ _
    · refine KeepsO.next ?_
      refine Keeps.step ?_ (State.drain_keeps _) rfl
      refine Keeps.step ?_ (State.enqueue_keeps _ _) rfl
      exact Keeps.refl _ _

end Sys2Proof.Machine
end

