-- ==== Sys2Proof/Laws/FootHostTxn.lean ====
section
/-! SUPPORT. The footprints of the operations of Machine/HostTxn.lean. -/

namespace Sys2Proof.Machine

theorem State.rowMoves_keeps (s) (z1) : Keeps 35782556 s (State.rowMoves s z1) := by
  unfold State.rowMoves
  refine Keeps.step ?_ (State.stopDrained_keeps _ _) rfl
  refine Keeps.step ?_ (State.settle_keeps _ _) rfl
  exact Keeps.refl _ _

theorem State.ownerFails_keeps (s) (z1) (z2) : Keeps 35782556 s (State.ownerFails s z1 z2) := by
  unfold State.ownerFails
  split
  · rename_i y1 y2 y3 y4 y5
    refine Keeps.step ?_ (State.ringFailed_keeps _ _ _ _) rfl
    exact Keeps.refl _ _
  · rename_i y6 y7 y8 y9
    refine Keeps.step ?_ (State.chainDone_keeps _ _ _ _) rfl
    exact Keeps.refl _ _
  · rename_i y10 y11 y12 y13 y14
    refine Keeps.step ?_ (State.rowMoves_keeps _ _) rfl
    refine Keeps.step ?_ (State.pieceFails_keeps _ _ _ _ _) rfl
    exact Keeps.refl _ _
  · rename_i y15 y16 y17
    refine Keeps.step ?_ (State.rowMoves_keeps _ _) rfl
    exact Keeps.refl _ _
  · rename_i y18 y19 y20
    refine Keeps.ite ?_ ?_
    · refine Keeps.step ?_ (State.atsDone_keeps _ _ _ _) rfl
      exact Keeps.refl _ _
    · refine Keeps.step ?_ (State.walkFailed_keeps _ _) rfl
      exact Keeps.refl _ _
  · rename_i y21 y22 y23 y24 y25 y26
    exact Keeps.refl _ _

theorem State.ownerDone_keeps (s) (z1) (z2) : Keeps 35782556 s (State.ownerDone s z1 z2) := by
  unfold State.ownerDone
  extract_lets x1 x2
  clear_value x2
  split
  · rename_i y3 y4 y5 y6 y7
    refine Keeps.ite ?_ ?_
    · refine Keeps.step ?_ (State.ringFailed_keeps _ _ _ _) rfl
      exact Keeps.refl _ _
    · refine Keeps.step ?_ (State.ringDone_keeps _ _ _ _ _) rfl
      exact Keeps.refl _ _
  · rename_i y8 y9 y10 y11
    refine Keeps.step ?_ (State.chainDone_keeps _ _ _ _) rfl
    exact Keeps.refl _ _
  · rename_i y12 y13 y14 y15 y16
    refine Keeps.step ?_ (State.rowMoves_keeps _ _) rfl
    refine Keeps.step ?_ (State.pieceArrives_keeps _ _ _ _ _) rfl
    exact Keeps.refl _ _
  · rename_i y17 y18 y19
    refine Keeps.step ?_ (State.rowMoves_keeps _ _) rfl
    exact Keeps.refl _ _
  · rename_i y20 y21 y22
    refine Keeps.ite ?_ ?_
    · refine Keeps.step ?_ (State.walkFailed_keeps _ _) rfl
      exact Keeps.refl _ _
    · refine Keeps.ite ?_ ?_
      · refine Keeps.step ?_ (State.casDone_keeps _ _ _) rfl
        exact Keeps.refl _ _
      · refine Keeps.step ?_ (State.walkerDone_keeps _ _ _) rfl
        exact Keeps.refl _ _
  · rename_i y23 y24 y25 y26 y27 y28
    exact Keeps.refl _ _

theorem State.unexpectedOp_keeps (s) (z1) (z2) : Keeps 65684 s (State.unexpectedOp s z1 z2) := by
  unfold State.unexpectedOp
  refine Keeps.step ?_ (State.aer_keeps _ _ _ _) rfl
  refine Keeps.step ?_ (State.raise_keeps _ _ _) rfl
  refine Keeps.step ?_ (State.bump_keeps _ _) rfl
  exact Keeps.refl _ _

theorem State.completion_keeps (s) (z1) (z2) (z3) (z4) : Keeps 35782556 s (State.completion s z1 z2 z3 z4) := by
  unfold State.completion
  split
  · rename_i y1 y2
    refine Keeps.step ?_ (State.unexpectedOp_keeps _ _ _) rfl
    exact Keeps.refl _ _
  · rename_i y3 y4 y5
    refine Keeps.ite ?_ ?_
    · refine Keeps.step ?_ (State.lateCompletion_keeps _ _ _) rfl
      exact Keeps.refl _ _
    · extract_lets x6
      refine Keeps.ite ?_ ?_
      · refine Keeps.step ?_ (State.ownerDone_keeps _ _ _) rfl
        refine Keeps.step ?_ (State.freeTagUse_keeps _ _) rfl
        exact Keeps.refl _ _
      · refine Keeps.step ?_ (State.setTag_keeps _ _ _) rfl
        exact Keeps.refl _ _

theorem execReadCompletion_keeps (z0) (z1) (z2) (s) : KeepsO 35782556 s (execReadCompletion z0 z1 z2 s) := by
  unfold execReadCompletion
  refine KeepsO.next ?_
  refine Keeps.step ?_ (State.completion_keeps _ _ _ _ _) rfl
  exact Keeps.refl _ _

theorem execPoisonedCompletion_keeps (z0) (z1) (z2) (s) : KeepsO 35782556 s (execPoisonedCompletion z0 z1 z2 s) := by
  unfold execPoisonedCompletion
  extract_lets x1
  clear_value x1
  refine KeepsO.next ?_
  refine Keeps.step ?_ (State.completion_keeps _ _ _ _ _) rfl
  refine Keeps.step ?_ (State.poisonedCpl_keeps _ _ _ _) rfl
  exact Keeps.refl _ _

theorem execCompletionTimeout_keeps (z0) (s) : KeepsO 35782557 s (execCompletionTimeout z0 s) := by
  unfold execCompletionTimeout
  split
  · rename_i y1 y2
    refine KeepsO.next ?_
    exact Keeps.refl _ _
  · rename_i y3 y4 y5
    split
    · rename_i y6 y7
      refine KeepsO.next ?_
      exact Keeps.refl _ _
    · rename_i y8 y9
      refine KeepsO.next ?_
      refine Keeps.step ?_ (State.freeTagUse_keeps _ _) rfl
      refine Keeps.step ?_ (State.until__keeps _ _) rfl
      exact Keeps.refl _ _
    · rename_i y10 y11
      extract_lets x12 x13
      have hx12 : Keeps 35782557 s x12 := by
        unfold x12
        refine Keeps.step ?_ (State.until__keeps _ _) rfl
        exact Keeps.refl _ _
      clear_value x12
      have hx13 : Keeps 35782557 s x13 := by
        unfold x13
        refine Keeps.step ?_ (State.setTag_keeps _ _ _) rfl
        assumption
      clear_value x13
      refine KeepsO.next ?_
      refine Keeps.step ?_ (State.ownerFails_keeps _ _ _) rfl
      refine Keeps.step ?_ (State.readFails_keeps _ _ _) rfl
      assumption

theorem execUrCaCompletion_keeps (z0) (z1) (s) : KeepsO 35782556 s (execUrCaCompletion z0 z1 s) := by
  unfold execUrCaCompletion
  split
  · rename_i y1 y2
    refine KeepsO.next ?_
    refine Keeps.step ?_ (State.unexpectedOp_keeps _ _ _) rfl
    exact Keeps.refl _ _
  · rename_i y3 y4 y5
    refine KeepsO.ite ?_ ?_
    · refine KeepsO.next ?_
      refine Keeps.step ?_ (State.lateCompletion_keeps _ _ _) rfl
      exact Keeps.refl _ _
    · extract_lets x6
      clear_value x6
      refine KeepsO.next ?_
      refine Keeps.step ?_ (State.ownerFails_keeps _ _ _) rfl
      refine Keeps.step ?_ (State.freeTagUse_keeps _ _) rfl
      refine Keeps.step ?_ (State.readFails_keeps _ _ _) rfl
      exact Keeps.refl _ _

theorem execUnexpectedCompletion_keeps (z0) (s) : KeepsO 65684 s (execUnexpectedCompletion z0 s) := by
  unfold execUnexpectedCompletion
  split
  · rename_i y1 y2
    refine KeepsO.next ?_
    refine Keeps.step ?_ (State.unexpectedOp_keeps _ _ _) rfl
    exact Keeps.refl _ _
  · rename_i y3 y4 y5
    refine KeepsO.next ?_
    exact Keeps.refl _ _

theorem execTagQuarantineEnd_keeps (z0) (s) : KeepsO 129 s (execTagQuarantineEnd z0 s) := by
  unfold execTagQuarantineEnd
  split
  · rename_i y1 y2 y3
    refine KeepsO.ite ?_ ?_
    · refine KeepsO.next ?_
      refine Keeps.step ?_ (State.freeTagUse_keeps _ _) rfl
      refine Keeps.step ?_ (State.until__keeps _ _) rfl
      exact Keeps.refl _ _
    · refine KeepsO.next ?_
      exact Keeps.refl _ _
  · rename_i y4 y5
    refine KeepsO.next ?_
    exact Keeps.refl _ _

theorem execFlowControlUpdate_keeps (z0) (z1) (s) : KeepsO 33685404 s (execFlowControlUpdate z0 z1 s) := by
  unfold execFlowControlUpdate
  refine KeepsO.ite ?_ ?_
  · refine KeepsO.next ?_
    exact Keeps.refl _ _
  · refine KeepsO.next ?_
    refine Keeps.step ?_ (State.settleStakes_keeps _) rfl
    refine Keeps.step ?_ (State.drain_keeps _) rfl
    refine Keeps.sethost (m := 33685404) _ ?_ id rfl
    exact Keeps.refl _ _

theorem State.freezeBy_keeps (s) (z1) : Keeps 870449052 s (State.freezeBy s z1) := by
  unfold State.freezeBy
  split
  · rename_i y1
    refine Keeps.step ?_ (State.freezeOp_keeps _ _) rfl
    exact Keeps.refl _ _
  · rename_i y2
    refine Keeps.step ?_ (State.freezeOp_keeps _ _) rfl
    refine Keeps.step ?_ (State.aer_keeps _ _ _ _) rfl
    refine Keeps.step ?_ (State.raise_keeps _ _ _) rfl
    exact Keeps.refl _ _
  · rename_i y3
    refine Keeps.step ?_ (State.freezeOp_keeps _ _) rfl
    exact Keeps.refl _ _
  · rename_i y4
    refine Keeps.ite ?_ ?_
    · exact Keeps.refl _ _
    · refine Keeps.step ?_ (State.fencePackage_keeps _) rfl
      refine Keeps.step ?_ (State.memberFault_keeps _ _) rfl
      exact Keeps.refl _ _

theorem execFreeze_keeps (z0) (s) : KeepsO 870449052 s (execFreeze z0 s) := by
  unfold execFreeze
  refine KeepsO.next ?_
  refine Keeps.ite ?_ ?_
  · refine Keeps.step ?_ (State.freezeBy_keeps _ _) rfl
    exact Keeps.refl _ _
  · exact Keeps.refl _ _

theorem State.leaveFrozen_keeps (s) : Keeps 94108 s (State.leaveFrozen s) := by
  unfold State.leaveFrozen
  extract_lets x1 x2 x3 x4 x5 x6
  have hx1 : ∀ a7 a8, Keeps 94108 s a7 → Keeps 94108 s (x1 a7 a8) := by
    unfold x1
    intro a9 a10 a11
    refine Keeps.step ?_ (State.setRg_keeps _ _ _) rfl
    assumption
  clear_value x1
  have hx2 : Keeps 94108 s x2 := by
    unfold x2
    refine Keeps.step ?_ (State.dropFurrows_keeps _ _) rfl
    exact Keeps.refl _ _
  clear_value x2
  have hx3 : Keeps 94108 s x3 := by
    unfold x3
    refine Keeps.each ?_ ?_
    · assumption
    · intro a12 a13 a14
      refine Keeps.step ?_ (State.setRow_keeps _ _ _) rfl
      assumption
  clear_value x3
  have hx4 : Keeps 94108 s x4 := by
    unfold x4
    refine Keeps.step ?_ (State.failIdleFaults_keeps _) rfl
    assumption
  clear_value x4
  have hx6 : Keeps 94108 s x6 := by
    unfold x6
    refine Keeps.sethost (m := 94108) _ ?_ id rfl
    assumption
  clear_value x6
  refine Keeps.ite ?_ ?_
  · refine hx1 _ _ ?_
    exact Keeps.refl _ _
  · refine Keeps.ite ?_ ?_
    · refine hx1 _ _ ?_
      exact Keeps.refl _ _
    · refine Keeps.ite ?_ ?_
      · refine hx1 _ _ ?_
        exact Keeps.refl _ _
      · refine Keeps.ite ?_ ?_
        · refine hx1 _ _ ?_
          exact Keeps.refl _ _
        · refine hx1 _ _ ?_
          refine Keeps.step ?_ (State.setRg_keeps _ _ _) rfl
          assumption

theorem execFreezeRelease_keeps (s) : KeepsO 94108 s (execFreezeRelease s) := by
  unfold execFreezeRelease
  refine KeepsO.next ?_
  refine Keeps.step ?_ (State.leaveFrozen_keeps _) rfl
  exact Keeps.refl _ _

theorem State.rearmOp_keeps (s) : Keeps 8 s (State.rearmOp s) := by
  unfold State.rearmOp
  refine Keeps.step ?_ (State.setRg_keeps _ _ _) rfl
  exact Keeps.refl _ _

theorem execMmioErrRearm_keeps (s) : KeepsO 8 s (execMmioErrRearm s) := by
  unfold execMmioErrRearm
  refine KeepsO.next ?_
  refine Keeps.step ?_ (State.rearmOp_keeps _) rfl
  exact Keeps.refl _ _

theorem State.clearCauses_keeps (s) (z1) (z2) : Keeps 8 s (State.clearCauses s z1 z2) := by
  unfold State.clearCauses
  extract_lets x1
  clear_value x1
  refine Keeps.step ?_ (State.setRg_keeps _ _ _) rfl
  exact Keeps.refl _ _

theorem State.lineMoves_keeps (s) : Keeps 66012 s (State.lineMoves s) := by
  unfold State.lineMoves
  refine Keeps.ite ?_ ?_
  · refine Keeps.step ?_ (State.assert_keeps _) rfl
    exact Keeps.refl _ _
  · refine Keeps.step ?_ (State.deassert_keeps _) rfl
    exact Keeps.refl _ _

theorem execAttnCauseClear_keeps (z0) (z1) (s) : KeepsO 66012 s (execAttnCauseClear z0 z1 s) := by
  unfold execAttnCauseClear
  refine KeepsO.next ?_
  refine Keeps.step ?_ (State.lineMoves_keeps _) rfl
  refine Keeps.step ?_ (State.clearCauses_keeps _ _ _) rfl
  exact Keeps.refl _ _

theorem execAssertInta_keeps (s) : KeepsO 66012 s (execAssertInta s) := by
  unfold execAssertInta
  refine KeepsO.next ?_
  refine Keeps.step ?_ (State.assert_keeps _) rfl
  exact Keeps.refl _ _

theorem execDeassertInta_keeps (s) : KeepsO 65940 s (execDeassertInta s) := by
  unfold execDeassertInta
  refine KeepsO.next ?_
  refine Keeps.ite ?_ ?_
  · exact Keeps.refl _ _
  · refine Keeps.step ?_ (State.deassert_keeps _) rfl
    exact Keeps.refl _ _

theorem execAttnHoldoffExpiry_keeps (s) : KeepsO 66013 s (execAttnHoldoffExpiry s) := by
  unfold execAttnHoldoffExpiry
  split
  · rename_i y1 y2
    refine KeepsO.next ?_
    exact Keeps.refl _ _
  · rename_i y3 y4 y5
    extract_lets x6 x7
    have hx6 : Keeps 66013 s x6 := by
      unfold x6
      refine Keeps.step ?_ (State.until__keeps _ _) rfl
      exact Keeps.refl _ _
    clear_value x6
    refine KeepsO.next ?_
    refine Keeps.step ?_ (State.assert_keeps _) rfl
    refine Keeps.sethost (m := 66013) _ ?_ id rfl
    assumption

end Sys2Proof.Machine
end

