-- ==== Sys2Proof/Laws/FootSplit.lean ====
section
/-! SUPPORT. The footprints of the operations of Machine/Split.lean. -/

namespace Sys2Proof.Machine

theorem State.splitDone_keeps (s) : Keeps 4 s (State.splitDone s) := by
  unfold State.splitDone
  refine Keeps.step ?_ (State.bump_keeps _ _) rfl
  exact Keeps.refl _ _

theorem State.walkSwitch_keeps (s) (z1) : Keeps 516 s (State.walkSwitch s z1) := by
  unfold State.walkSwitch
  refine Keeps.ite ?_ ?_
  · refine Keeps.step ?_ (State.splitDone_keeps _) rfl
    refine Keeps.step ?_ (State.bump_keeps _ _) rfl
    refine Keeps.step ?_ (State.setVal_keeps _ _ _) rfl
    refine Keeps.setplat (m := 516) _ ?_ rfl
    exact Keeps.refl _ _
  · extract_lets x1 x2
    have hx2 : Keeps 516 s x2 := by
      unfold x2
      refine Keeps.setplat (m := 516) _ ?_ rfl
      exact Keeps.refl _ _
    clear_value x2
    refine Keeps.step ?_ (State.queueCmd_keeps _ _) rfl
    assumption

theorem State.ftlSwitch_keeps (s) (z1) : KeepsP 268566532 s (State.ftlSwitch s z1) := by
  unfold State.ftlSwitch
  refine KeepsP.ite ?_ ?_
  · refine KeepsP.mk ?_
    exact Keeps.refl _ _
  · refine KeepsP.ite ?_ ?_
    · refine KeepsP.ite ?_ ?_
      · refine KeepsP.mk ?_
        exact Keeps.refl _ _
      · refine KeepsP.mk ?_
        refine Keeps.step ?_ (State.splitDone_keeps _) rfl
        refine Keeps.step ?_ (State.ownCommit_keeps _) rfl
        refine Keeps.step ?_ (State.setVal_keeps _ _ _) rfl
        refine Keeps.step ?_ (State.setSeed_keeps _ _) rfl
        exact Keeps.refl _ _
    · refine KeepsP.mk ?_
      refine Keeps.step ?_ (State.ownCommit_keeps _) rfl
      refine Keeps.step ?_ (State.setVal_keeps _ _ _) rfl
      refine Keeps.step ?_ (State.formatOp_keeps _) rfl
      exact Keeps.refl _ _

theorem State.classifySwitch_keeps (s) (z1) : Keeps 65536 s (State.classifySwitch s z1) := by
  unfold State.classifySwitch
  extract_lets x1 x2
  clear_value x2
  refine Keeps.setfc (m := 65536) _ ?_ (fun i => filter_rises _ _ (map_rises _ _ (fun _ => rfl) i)) rfl
  exact Keeps.refl _ _

theorem State.migSwitch_keeps (s) (z1) : KeepsP 94108 s (State.migSwitch s z1) := by
  unfold State.migSwitch
  refine KeepsP.ite ?_ ?_
  · extract_lets x1
    have hx1 : Keeps 94108 s x1 := by
      unfold x1
      split
      · rename_i y2 y3 y4
        refine Keeps.step ?_ (State.abandonPromotion_keeps _ _ _) rfl
        exact Keeps.refl _ _
      · rename_i y5 y6
        exact Keeps.refl _ _
    clear_value x1
    refine KeepsP.mk ?_
    refine Keeps.step ?_ (State.splitDone_keeps _) rfl
    refine Keeps.step ?_ (State.unbindMigRow_keeps _) rfl
    assumption
  · refine KeepsP.ite ?_ ?_
    · refine KeepsP.mk ?_
      exact Keeps.refl _ _
    · extract_lets x7 x8
      have hx8 : Keeps 94108 s x8 := by
        unfold x8
        refine Keeps.setmig (m := 94108) _ ?_ rfl
        exact Keeps.refl _ _
      clear_value x8
      refine KeepsP.mk ?_
      refine Keeps.step ?_ (State.splitDone_keeps _) rfl
      refine Keeps.step ?_ (State.bindMigRow_keeps _) rfl
      assumption

theorem State.plainSwitch_keeps (s) (z1) (z2) : KeepsP 4 s (State.plainSwitch s z1 z2) := by
  unfold State.plainSwitch
  refine KeepsP.mk ?_
  refine Keeps.step ?_ (State.splitDone_keeps _) rfl
  refine Keeps.step ?_ (State.setVal_keeps _ _ _) rfl
  exact Keeps.refl _ _

theorem State.splitOp_keeps (s) (z1) (z2) (z3) : KeepsP 268660636 s (State.splitOp s z1 z2 z3) := by
  unfold State.splitOp
  refine KeepsP.ite ?_ ?_
  · refine KeepsP.mk ?_
    exact Keeps.refl _ _
  · refine KeepsP.ite ?_ ?_
    · refine KeepsP.mk ?_
      exact Keeps.refl _ _
    · refine KeepsP.ite ?_ ?_
      · refine KeepsP.mk ?_
        exact Keeps.refl _ _
      · split
        · rename_i y1
          refine KeepsP.ite ?_ ?_
          · refine KeepsP.mk ?_
            refine Keeps.step ?_ (State.walkSwitch_keeps _ _) rfl
            exact Keeps.refl _ _
          · refine KeepsP.mk ?_
            exact Keeps.refl _ _
        · rename_i y2
          extract_lets x3 x4
          have hx4 : Keeps 268660636 s x4 := by
            unfold x4
            refine Keeps.step ?_ (State.splitDone_keeps _) rfl
            refine Keeps.setflt (m := 268660636) _ ?_ rfl
            exact Keeps.refl _ _
          clear_value x4
          refine KeepsP.mk ?_
          refine Keeps.ite ?_ ?_
          · refine Keeps.step ?_ (State.autoRetryAd_keeps _) rfl
            assumption
          · assumption
        · rename_i y5
          refine KeepsP.step ?_ (State.migSwitch_keeps _ _) rfl
          exact Keeps.refl _ _
        · rename_i y6
          refine KeepsP.step ?_ (State.ftlSwitch_keeps _ _) rfl
          exact Keeps.refl _ _
        · rename_i y7
          refine KeepsP.mk ?_
          refine Keeps.step ?_ (State.splitDone_keeps _) rfl
          refine Keeps.step ?_ (State.classifySwitch_keeps _ _) rfl
          exact Keeps.refl _ _
        · rename_i y8
          refine KeepsP.ite ?_ ?_
          · refine KeepsP.mk ?_
            exact Keeps.refl _ _
          · extract_lets x9 x10
            clear_value x9
            have hx10 : KeepsP 268660636 s x10 := by
              unfold x10
              refine KeepsP.step ?_ (State.plainSwitch_keeps _ _ _) rfl
              exact Keeps.refl _ _
            clear_value x10
            refine KeepsP.mk ?_
            refine Keeps.step ?_ (State.noteReason_keeps _ _) rfl
            refine KeepsP.fst ?_
            assumption
        · rename_i y11 y12 y13 y14 y15 y16 y17
          refine KeepsP.step ?_ (State.plainSwitch_keeps _ _ _) rfl
          exact Keeps.refl _ _

theorem State.splitWrite_keeps (s) (z1) (z2) (z3) : Keeps 268660636 s (State.splitWrite s z1 z2 z3) := by
  unfold State.splitWrite
  refine Keeps.ite ?_ ?_
  · refine KeepsP.fst ?_
    refine KeepsP.step ?_ (State.splitOp_keeps _ _ _ _) rfl
    exact Keeps.refl _ _
  · exact Keeps.refl _ _

theorem execSplitWalk_keeps (z0) (z1) (s) : KeepsO 268660636 s (execSplitWalk z0 z1 s) := by
  unfold execSplitWalk
  refine KeepsO.next ?_
  refine Keeps.step ?_ (State.splitWrite_keeps _ _ _ _) rfl
  exact Keeps.refl _ _

theorem execSplitFault_keeps (z0) (z1) (s) : KeepsO 268660636 s (execSplitFault z0 z1 s) := by
  unfold execSplitFault
  refine KeepsO.next ?_
  refine Keeps.step ?_ (State.splitWrite_keeps _ _ _ _) rfl
  exact Keeps.refl _ _

theorem execSplitMig_keeps (z0) (z1) (s) : KeepsO 268660636 s (execSplitMig z0 z1 s) := by
  unfold execSplitMig
  refine KeepsO.next ?_
  refine Keeps.step ?_ (State.splitWrite_keeps _ _ _ _) rfl
  exact Keeps.refl _ _

theorem execSplitFtl_keeps (z0) (z1) (s) : KeepsO 268660636 s (execSplitFtl z0 z1 s) := by
  unfold execSplitFtl
  refine KeepsO.next ?_
  refine Keeps.step ?_ (State.splitWrite_keeps _ _ _ _) rfl
  exact Keeps.refl _ _

theorem execSplitRotation_keeps (z0) (z1) (s) : KeepsO 268660636 s (execSplitRotation z0 z1 s) := by
  unfold execSplitRotation
  refine KeepsO.next ?_
  refine Keeps.step ?_ (State.splitWrite_keeps _ _ _ _) rfl
  exact Keeps.refl _ _

theorem execSplitClassify_keeps (z0) (z1) (s) : KeepsO 268660636 s (execSplitClassify z0 z1 s) := by
  unfold execSplitClassify
  refine KeepsO.next ?_
  refine Keeps.step ?_ (State.splitWrite_keeps _ _ _ _) rfl
  exact Keeps.refl _ _

theorem execSplitRetrain_keeps (z0) (z1) (s) : KeepsO 268660636 s (execSplitRetrain z0 z1 s) := by
  unfold execSplitRetrain
  refine KeepsO.next ?_
  refine Keeps.step ?_ (State.splitWrite_keeps _ _ _ _) rfl
  exact Keeps.refl _ _

theorem execSplitCap_keeps (z0) (z1) (s) : KeepsO 268660636 s (execSplitCap z0 z1 s) := by
  unfold execSplitCap
  refine KeepsO.next ?_
  refine Keeps.step ?_ (State.splitWrite_keeps _ _ _ _) rfl
  exact Keeps.refl _ _

theorem execSplitStakeTo_keeps (z0) (z1) (s) : KeepsO 268660636 s (execSplitStakeTo z0 z1 s) := by
  unfold execSplitStakeTo
  refine KeepsO.next ?_
  refine Keeps.step ?_ (State.splitWrite_keeps _ _ _ _) rfl
  exact Keeps.refl _ _

theorem State.logDecision_keeps (s) (z1) (z2) (z3) (z4) (z5) (z6) (z7) (z8) (z9) : Keeps 1073741828 s (State.logDecision s z1 z2 z3 z4 z5 z6 z7 z8 z9) := by
  unfold State.logDecision
  extract_lets x1 x2 x3 x4 x5 x6 x7
  clear_value x1
  clear_value x3
  have hx5 : Keeps 1073741828 s x5 := by
    unfold x5
    refine Keeps.setstw (m := 1073741828) _ ?_ rfl
    exact Keeps.refl _ _
  clear_value x5
  have hx6 : Keeps 1073741828 s x6 := by
    unfold x6
    refine Keeps.step ?_ (State.bump_keeps _ _) rfl
    refine Keeps.step ?_ (State.setVal_keeps _ _ _) rfl
    assumption
  clear_value x6
  have hx7 : Keeps 1073741828 s x7 := by
    unfold x7
    refine Keeps.ite ?_ ?_
    · refine Keeps.step ?_ (State.bump_keeps _ _) rfl
      assumption
    · assumption
  clear_value x7
  refine Keeps.step ?_ (State.setVal_keeps _ _ _) rfl
  assumption

theorem State.setGoverned_keeps (s) (z1) (z2) : Keeps 4 s (State.setGoverned s z1 z2) := by
  unfold State.setGoverned
  refine Keeps.ite ?_ ?_
  · refine Keeps.step ?_ (State.setVal_keeps _ _ _) rfl
    exact Keeps.refl _ _
  · refine Keeps.step ?_ (State.setVal_keeps _ _ _) rfl
    exact Keeps.refl _ _

theorem State.moveGoverned_keeps (s) (z1) (z2) : Keeps 1073741828 s (State.moveGoverned s z1 z2) := by
  unfold State.moveGoverned
  extract_lets x1 x2 x3
  clear_value x1
  refine Keeps.step ?_ (State.setGoverned_keeps _ _ _) rfl
  refine Keeps.setstw (m := 1073741828) _ ?_ rfl
  exact Keeps.refl _ _

theorem State.overrideBy_keeps (s) (z1) (z2) (z3) : Keeps 1073741828 s (State.overrideBy s z1 z2 z3) := by
  unfold State.overrideBy
  split
  · rename_i y1 y2
    exact Keeps.refl _ _
  · rename_i y3 y4 y5
    extract_lets x6 x7 x8 x9 x10
    have hx7 : Keeps 1073741828 s x7 := by
      unfold x7
      refine Keeps.setstw (m := 1073741828) _ ?_ rfl
      exact Keeps.refl _ _
    clear_value x7
    clear_value x8
    have hx9 : Keeps 1073741828 s x9 := by
      unfold x9
      refine Keeps.step ?_ (State.logDecision_keeps _ _ _ _ _ _ _ _ _ _) rfl
      assumption
    clear_value x9
    refine Keeps.ite ?_ ?_
    · assumption
    · refine Keeps.setstw (m := 1073741828) _ ?_ rfl
      assumption

theorem State.restorePolicy_keeps (s) (z1) : Keeps 1073741836 s (State.restorePolicy s z1) := by
  unfold State.restorePolicy
  refine Keeps.each ?_ ?_
  · exact Keeps.refl _ _
  · intro a1 a2 a3
    extract_lets x4 x5
    clear_value x4
    clear_value x5
    refine Keeps.step ?_ (State.logDecision_keeps _ _ _ _ _ _ _ _ _ _) rfl
    refine Keeps.step ?_ (State.noteReason_keeps _ _) rfl
    refine Keeps.step ?_ (State.moveGoverned_keeps _ _ _) rfl
    assumption

theorem State.policyModeOp_keeps (s) (z1) (z2) : KeepsP 1073741836 s (State.policyModeOp s z1 z2) := by
  unfold State.policyModeOp
  refine KeepsP.ite ?_ ?_
  · refine KeepsP.mk ?_
    exact Keeps.refl _ _
  · extract_lets x1
    have hx1 : Keeps 1073741836 s x1 := by
      unfold x1
      refine Keeps.step ?_ (State.setVal_keeps _ _ _) rfl
      exact Keeps.refl _ _
    clear_value x1
    refine KeepsP.mk ?_
    refine Keeps.ite ?_ ?_
    · assumption
    · refine Keeps.step ?_ (State.restorePolicy_keeps _ _) rfl
      assumption

theorem execPolicyModeWrite_keeps (z0) (z1) (z2) (s) : KeepsO 1073741836 s (execPolicyModeWrite z0 z1 z2 s) := by
  unfold execPolicyModeWrite
  refine KeepsO.next ?_
  refine Keeps.ite ?_ ?_
  · refine KeepsP.fst ?_
    refine KeepsP.step ?_ (State.policyModeOp_keeps _ _ _) rfl
    exact Keeps.refl _ _
  · exact Keeps.refl _ _

end Sys2Proof.Machine
end

