-- ==== Sys2Proof/Laws/FootPersist.lean ====
section
/-! SUPPORT. The footprints of the operations of Machine/Persist.lean. -/

namespace Sys2Proof.Machine

theorem State.commitOp_keeps (s) : Keeps 131072 s (State.commitOp s) := by
  unfold State.commitOp
  split
  · rename_i y1 y2
    refine Keeps.setdict (m := 131072) _ ?_ rfl
    exact Keeps.refl _ _
  · rename_i y3 y4
    refine Keeps.setdict (m := 131072) _ ?_ rfl
    exact Keeps.refl _ _
  · rename_i y5 y6 y7
    refine Keeps.setdict (m := 131072) _ ?_ rfl
    exact Keeps.refl _ _

theorem execPersistCommitStart_keeps (s) : KeepsO 131073 s (execPersistCommitStart s) := by
  unfold execPersistCommitStart
  refine KeepsO.ite ?_ ?_
  · refine KeepsO.next ?_
    exact Keeps.refl _ _
  · extract_lets x1 x2 x3 x4 x5
    have hx1 : Keeps 131073 s x1 := by
      unfold x1
      split
      · rename_i y6 y7 y8
        refine Keeps.step ?_ (State.until__keeps _ _) rfl
        exact Keeps.refl _ _
      · rename_i y9 y10
        exact Keeps.refl _ _
    clear_value x1
    clear_value x3
    refine KeepsO.next ?_
    refine Keeps.setdict (m := 131073) _ ?_ rfl
    assumption

theorem execPersistCommitDone_keeps (s) : KeepsO 131076 s (execPersistCommitDone s) := by
  unfold execPersistCommitDone
  refine KeepsO.ite ?_ ?_
  · refine KeepsO.next ?_
    exact Keeps.refl _ _
  · extract_lets x1 x2 x3 x4
    clear_value x2
    have hx4 : Keeps 131076 s x4 := by
      unfold x4
      refine Keeps.setdict (m := 131076) _ ?_ rfl
      exact Keeps.refl _ _
    clear_value x4
    refine KeepsO.next ?_
    refine Keeps.step ?_ (State.setVal_keeps _ _ _) rfl
    assumption

theorem State.toDefaults_keeps (s) : Keeps 1382285212 s (State.toDefaults s) := by
  unfold State.toDefaults
  extract_lets x1 x2 x3 x4 x5 x6 x7 x8
  clear_value x1
  clear_value x3
  have hx6 : Keeps 1382285212 s x6 := by
    unfold x6
    refine Keeps.step (m' := 1073872900) (t := s) ?_ (by constructor <;> first | exact fun b => Bool.noConfusion b | exact fun _ => rfl | exact rfl | exact Nat.le_refl _ | (intro i; obtain ⟨i1, i2, i3, i4, i5, i6, i7, i8, i9, j1, j2, j3, j4⟩ := i; refine ⟨?_, ?_, ?_, ?_, ?_, ?_, ?_, ?_, ?_, ?_, ?_, ?_, ?_⟩ <;> first | assumption | rfl | exact kvSet_rises _ _ _ _ (by assumption) | exact kvPut_rises _ _ _ (by assumption) | exact kvErase_rises _ _ (by assumption) | exact memZero_rises _ _ _ (by assumption) | exact filter_rises _ _ (by assumption) | exact filter_rises _ _ (map_rises _ _ (fun _ => rfl) (by assumption)) | exact PlotsWf.cleared _ _ (by assumption) | exact ⟨rfl, fun _ h => nomatch h⟩ | exact map_rises _ _ (fun _ => rfl) (by assumption))) rfl
    exact Keeps.refl _ _
  clear_value x6
  have hx7 : Keeps 1382285212 s x7 := by
    unfold x7
    refine Keeps.ite ?_ ?_
    · refine Keeps.step ?_ (State.formatOp_keeps _) rfl
      assumption
    · assumption
  clear_value x7
  have hx8 : Keeps 1382285212 s x8 := by
    unfold x8
    refine Keeps.each ?_ ?_
    · assumption
    · intro a9 a10 a11
      refine Keeps.step ?_ (State.splitDone_keeps _) rfl
      assumption
  clear_value x8
  refine Keeps.step ?_ (State.refreshPorts_keeps _) rfl
  refine Keeps.step ?_ (State.noteReason_keeps _ _) rfl
  assumption

theorem State.defaultsOp_keeps (s) (z1) : KeepsP 1382285212 s (State.defaultsOp s z1) := by
  unfold State.defaultsOp
  refine KeepsP.ite ?_ ?_
  · refine KeepsP.mk ?_
    exact Keeps.refl _ _
  · extract_lets x1 x2
    have hx1 : Keeps 1382285212 s x1 := by
      unfold x1
      refine Keeps.step ?_ (State.toDefaults_keeps _) rfl
      exact Keeps.refl _ _
    clear_value x1
    refine KeepsP.mk ?_
    refine Keeps.step ?_ (State.commitOp_keeps _) rfl
    refine Keeps.setfc (m := 1382285212) _ ?_ id rfl
    assumption

theorem execPersistCommit_keeps (z0) (z1) (s) : KeepsO 131072 s (execPersistCommit z0 z1 s) := by
  unfold execPersistCommit
  refine KeepsO.next ?_
  refine Keeps.ite ?_ ?_
  · refine Keeps.step ?_ (State.commitOp_keeps _) rfl
    exact Keeps.refl _ _
  · exact Keeps.refl _ _

theorem execPersistDefaults_keeps (z0) (z1) (s) : KeepsO 1382285212 s (execPersistDefaults z0 z1 s) := by
  unfold execPersistDefaults
  refine KeepsO.next ?_
  refine Keeps.ite ?_ ?_
  · refine KeepsP.fst ?_
    refine KeepsP.step ?_ (State.defaultsOp_keeps _ _) rfl
    exact Keeps.refl _ _
  · exact Keeps.refl _ _

theorem State.lockOp_keeps (s) (z1) (z2) : Keeps 131072 s (State.lockOp s z1 z2) := by
  unfold State.lockOp
  extract_lets x1 x2 x3
  clear_value x1
  clear_value x2
  refine Keeps.setdict (m := 131072) _ ?_ rfl
  exact Keeps.refl _ _

theorem execLockRequest_keeps (z0) (z1) (s) : KeepsO 131072 s (execLockRequest z0 z1 s) := by
  unfold execLockRequest
  refine KeepsO.next ?_
  refine Keeps.ite ?_ ?_
  · refine Keeps.step ?_ (State.lockOp_keeps _ _ _) rfl
    exact Keeps.refl _ _
  · exact Keeps.refl _ _

theorem execLockExpiry_keeps (z0) (s) : KeepsO 131073 s (execLockExpiry z0 s) := by
  unfold execLockExpiry
  split
  · rename_i y1 y2
    refine KeepsO.next ?_
    exact Keeps.refl _ _
  · rename_i y3 y4 y5
    extract_lets x6 x7
    have hx6 : Keeps 131073 s x6 := by
      unfold x6
      refine Keeps.step ?_ (State.until__keeps _ _) rfl
      exact Keeps.refl _ _
    clear_value x6
    refine KeepsO.next ?_
    refine Keeps.setdict (m := 131073) _ ?_ rfl
    assumption

theorem State.newSession_keeps (s) : Keeps 262146 s (State.newSession s) := by
  unfold State.newSession
  extract_lets x1 x2 x3
  have hx1 : KeepsN 262146 s x1 := by
    unfold x1
    refine KeepsN.step ?_ (State.draw_keeps _) rfl
    exact Keeps.refl _ _
  clear_value x1
  have hx2 : Keeps 262146 s x2 := by
    unfold x2
    refine KeepsN.snd ?_
    assumption
  refine Keeps.sethop (m := 262146) _ ?_ rfl
  assumption

theorem State.keySwitchOp_keeps (s) : KeepsP 393222 s (State.keySwitchOp s) := by
  unfold State.keySwitchOp
  split
  · rename_i y1 y2
    refine KeepsP.mk ?_
    exact Keeps.refl _ _
  · rename_i y3 y4 y5
    extract_lets x6 x7
    have hx7 : Keeps 393222 s x7 := by
      unfold x7
      refine Keeps.sethop (m := 393222) _ ?_ rfl
      exact Keeps.refl _ _
    clear_value x7
    refine KeepsP.mk ?_
    refine Keeps.step ?_ (State.ownCommit_keeps _) rfl
    refine Keeps.step ?_ (State.setVal_keeps _ _ _) rfl
    refine Keeps.step ?_ (State.newSession_keeps _) rfl
    assumption

theorem execHopKeySwitch_keeps (z0) (z1) (s) : KeepsO 393222 s (execHopKeySwitch z0 z1 s) := by
  unfold execHopKeySwitch
  refine KeepsO.next ?_
  refine Keeps.ite ?_ ?_
  · refine KeepsP.fst ?_
    refine KeepsP.step ?_ (State.keySwitchOp_keeps _) rfl
    exact Keeps.refl _ _
  · exact Keeps.refl _ _

theorem State.fwBeginOp_keeps (s) (z1) (z2) : KeepsP 135266304 s (State.fwBeginOp s z1 z2) := by
  unfold State.fwBeginOp
  refine KeepsP.ite ?_ ?_
  · refine KeepsP.mk ?_
    exact Keeps.refl _ _
  · refine KeepsP.ite ?_ ?_
    · refine KeepsP.mk ?_
      exact Keeps.refl _ _
    · refine KeepsP.ite ?_ ?_
      · extract_lets x1 x2
        clear_value x1
        refine KeepsP.mk ?_
        refine Keeps.step (m' := 135266304) (t := s) ?_ (by constructor <;> first | exact fun b => Bool.noConfusion b | exact fun _ => rfl | exact rfl | exact Nat.le_refl _ | exact id) rfl
        exact Keeps.refl _ _
      · refine KeepsP.mk ?_
        exact Keeps.refl _ _

theorem State.fwDataOp_keeps (s) (z1) (z2) (z3) : KeepsP 135266304 s (State.fwDataOp s z1 z2 z3) := by
  unfold State.fwDataOp
  refine KeepsP.ite ?_ ?_
  · refine KeepsP.mk ?_
    exact Keeps.refl _ _
  · refine KeepsP.ite ?_ ?_
    · refine KeepsP.mk ?_
      exact Keeps.refl _ _
    · refine KeepsP.ite ?_ ?_
      · refine KeepsP.mk ?_
        exact Keeps.refl _ _
      · refine KeepsP.ite ?_ ?_
        · refine KeepsP.mk ?_
          exact Keeps.refl _ _
        · refine KeepsP.mk ?_
          refine Keeps.step (m' := 135266304) (t := s) ?_ (by constructor <;> first | exact fun b => Bool.noConfusion b | exact fun _ => rfl | exact rfl | exact Nat.le_refl _ | exact id) rfl
          exact Keeps.refl _ _

theorem State.fwVerifyOp_keeps (s) (z1) : KeepsP 1048576 s (State.fwVerifyOp s z1) := by
  unfold State.fwVerifyOp
  refine KeepsP.ite ?_ ?_
  · refine KeepsP.mk ?_
    exact Keeps.refl _ _
  · refine KeepsP.ite ?_ ?_
    · refine KeepsP.mk ?_
      refine Keeps.setfw (m := 1048576) _ ?_ rfl
      exact Keeps.refl _ _
    · refine KeepsP.mk ?_
      exact Keeps.refl _ _

theorem State.fwVerified_keeps (s) (z1) (z2) : Keeps 135266304 s (State.fwVerified s z1 z2) := by
  unfold State.fwVerified
  extract_lets x1 x2 x3 x4
  clear_value x1
  refine Keeps.step (m' := 135266304) (t := s) ?_ (by constructor <;> first | exact fun b => Bool.noConfusion b | exact fun _ => rfl | exact rfl | exact Nat.le_refl _ | exact id) rfl
  exact Keeps.refl _ _

theorem State.fwActivateOp_keeps (s) (z1) (z2) : KeepsP 2126446606 s (State.fwActivateOp s z1 z2) := by
  unfold State.fwActivateOp
  refine KeepsP.ite ?_ ?_
  · refine KeepsP.mk ?_
    exact Keeps.refl _ _
  · refine KeepsP.ite ?_ ?_
    · refine KeepsP.mk ?_
      exact Keeps.refl _ _
    · extract_lets x1 x2 x3 x4 x5 x6
      clear_value x1
      clear_value x2
      have hx5 : Keeps 2126446606 s x5 := by
        unfold x5
        refine Keeps.step (m' := 135266304) (t := s) ?_ (by constructor <;> first | exact fun b => Bool.noConfusion b | exact fun _ => rfl | exact rfl | exact Nat.le_refl _ | exact id) rfl
        exact Keeps.refl _ _
      clear_value x5
      refine KeepsP.ite ?_ ?_
      · refine KeepsP.mk ?_
        refine Keeps.step ?_ (State.jump__keeps _ _ _) rfl
        refine Keeps.step ?_ (State.cause_keeps _ _) rfl
        assumption
      · refine KeepsP.ite ?_ ?_
        · refine KeepsP.mk ?_
          refine Keeps.setcal (m := 2126446606) _ ?_ rfl
          assumption
        · refine KeepsP.mk ?_
          refine Keeps.step ?_ (State.headlandReset_keeps _ _) rfl
          refine Keeps.step ?_ (State.cause_keeps _ _) rfl
          assumption

theorem State.fwConfirmOp_keeps (s) (z1) : KeepsP 134217728 s (State.fwConfirmOp s z1) := by
  unfold State.fwConfirmOp
  refine KeepsP.ite ?_ ?_
  · refine KeepsP.mk ?_
    exact Keeps.refl _ _
  · refine KeepsP.ite ?_ ?_
    · refine KeepsP.mk ?_
      refine Keeps.step ?_ (State.confirmOp_keeps _) rfl
      exact Keeps.refl _ _
    · refine KeepsP.mk ?_
      exact Keeps.refl _ _

theorem execFwBegin_keeps (z0) (z1) (s) : KeepsO 135266304 s (execFwBegin z0 z1 s) := by
  unfold execFwBegin
  refine KeepsO.next ?_
  refine Keeps.ite ?_ ?_
  · refine KeepsP.fst ?_
    refine KeepsP.step ?_ (State.fwBeginOp_keeps _ _ _) rfl
    exact Keeps.refl _ _
  · exact Keeps.refl _ _

theorem execFwEraseDone_keeps (s) : KeepsO 1048576 s (execFwEraseDone s) := by
  unfold execFwEraseDone
  refine KeepsO.ite ?_ ?_
  · refine KeepsO.next ?_
    refine Keeps.setfw (m := 1048576) _ ?_ rfl
    exact Keeps.refl _ _
  · refine KeepsO.next ?_
    exact Keeps.refl _ _

theorem execFwData_keeps (z0) (z1) (z2) (s) : KeepsO 135266304 s (execFwData z0 z1 z2 s) := by
  unfold execFwData
  refine KeepsO.next ?_
  refine Keeps.ite ?_ ?_
  · refine KeepsP.fst ?_
    refine KeepsP.step ?_ (State.fwDataOp_keeps _ _ _ _) rfl
    exact Keeps.refl _ _
  · exact Keeps.refl _ _

theorem execFwVerify_keeps (z0) (z1) (z2) (s) : KeepsO 135266304 s (execFwVerify z0 z1 z2 s) := by
  unfold execFwVerify
  refine KeepsO.ite ?_ ?_
  · refine KeepsO.next ?_
    exact Keeps.refl _ _
  · extract_lets x1
    have hx1 : Keeps 135266304 s x1 := by
      unfold x1
      refine Keeps.ite ?_ ?_
      · refine KeepsP.fst ?_
        refine KeepsP.step ?_ (State.fwVerifyOp_keeps _ _) rfl
        exact Keeps.refl _ _
      · exact Keeps.refl _ _
    clear_value x1
    refine KeepsO.next ?_
    refine Keeps.ite ?_ ?_
    · refine Keeps.step ?_ (State.fwVerified_keeps _ _ _) rfl
      assumption
    · assumption

theorem execFwActivate_keeps (z0) (z1) (z2) (s) : KeepsO 2126446606 s (execFwActivate z0 z1 z2 s) := by
  unfold execFwActivate
  refine KeepsO.next ?_
  refine Keeps.ite ?_ ?_
  · refine KeepsP.fst ?_
    refine KeepsP.step ?_ (State.fwActivateOp_keeps _ _ _) rfl
    exact Keeps.refl _ _
  · exact Keeps.refl _ _

theorem execFwConfirm_keeps (z0) (z1) (s) : KeepsO 134217728 s (execFwConfirm z0 z1 s) := by
  unfold execFwConfirm
  refine KeepsO.next ?_
  refine Keeps.ite ?_ ?_
  · refine KeepsP.fst ?_
    refine KeepsP.step ?_ (State.fwConfirmOp_keeps _ _) rfl
    exact Keeps.refl _ _
  · exact Keeps.refl _ _

theorem execFwOwnerExpiry_keeps (s) : KeepsO 135266305 s (execFwOwnerExpiry s) := by
  unfold execFwOwnerExpiry
  split
  · rename_i y1 y2
    refine KeepsO.next ?_
    exact Keeps.refl _ _
  · rename_i y3 y4 y5
    refine KeepsO.next ?_
    refine Keeps.step ?_ (State.tearFw_keeps _) rfl
    refine Keeps.step ?_ (State.until__keeps _ _) rfl
    exact Keeps.refl _ _

end Sys2Proof.Machine
end

