-- ==== Sys2Proof/Laws/FootDictWrite.lean ====
section
/-! SUPPORT. The footprints of the operations of Machine/DictWrite.lean. -/

namespace Sys2Proof.Machine

theorem State.lotCmdOp_keeps (s) (z1) : KeepsP 301989892 s (State.lotCmdOp s z1) := by
  unfold State.lotCmdOp
  refine KeepsP.step ?_ (State.lotOp_keeps _ _ _) rfl
  exact Keeps.refl _ _

theorem State.rotCmdOp_keeps (s) (z1) : KeepsP 838898318 s (State.rotCmdOp s z1) := by
  unfold State.rotCmdOp
  refine KeepsP.ite ?_ ?_
  · refine KeepsP.mk ?_
    exact Keeps.refl _ _
  · split
    · rename_i y1 y2
      refine KeepsP.step ?_ (State.goSowOp_keeps _ _) rfl
      exact Keeps.refl _ _
    · rename_i y3 y4
      refine KeepsP.step ?_ (State.goReapOp_keeps _ _) rfl
      exact Keeps.refl _ _
    · rename_i y5 y6
      refine KeepsP.step ?_ (State.cancelOp_keeps _ _) rfl
      exact Keeps.refl _ _
    · rename_i y7 y8 y9 y10
      refine KeepsP.mk ?_
      exact Keeps.refl _ _

theorem State.calItemOp_keeps (s) (z1) (z2) (z3) : KeepsP 4 s (State.calItemOp s z1 z2 z3) := by
  unfold State.calItemOp
  refine KeepsP.ite ?_ ?_
  · refine KeepsP.mk ?_
    refine Keeps.step ?_ (State.setCal_keeps _ _ _ _) rfl
    exact Keeps.refl _ _
  · refine KeepsP.mk ?_
    exact Keeps.refl _ _

theorem State.portRetrainOp_keeps (s) (z1) : Keeps 2097156 s (State.portRetrainOp s z1) := by
  unfold State.portRetrainOp
  refine Keeps.each ?_ ?_
  · exact Keeps.refl _ _
  · intro a1 a2 a3
    refine Keeps.step ?_ (State.retrainPort_keeps _ _) rfl
    assumption

theorem State.store_keeps (s) (z1) (z2) : KeepsP 4 s (State.store s z1 z2) := by
  unfold State.store
  refine KeepsP.mk ?_
  refine Keeps.step ?_ (State.setVal_keeps _ _ _) rfl
  exact Keeps.refl _ _

theorem State.apply1_keeps (s) (z1) (z2) (z3) : KeepsP 2147483550 s (State.apply1 s z1 z2 z3) := by
  unfold State.apply1
  extract_lets x1 x2 x3 x4 x5
  clear_value x1
  have hx3 : KeepsN 2147483550 s x3 := by
    unfold x3
    refine KeepsN.step ?_ (State.draw_keeps _) rfl
    exact Keeps.refl _ _
  clear_value x3
  have hx5 : Keeps 2147483550 s x5 := by
    unfold x5
    refine Keeps.ite ?_ ?_
    · refine Keeps.setdict (m := 2147483550) _ ?_ rfl
      exact Keeps.refl _ _
    · exact Keeps.refl _ _
  clear_value x5
  split
  · rename_i y6
    refine KeepsP.mk ?_
    refine Keeps.sethop (m := 2147483550) _ ?_ rfl
    exact Keeps.refl _ _
  · rename_i y7
    refine KeepsP.step ?_ (State.keySwitchOp_keeps _) rfl
    exact Keeps.refl _ _
  · rename_i y8
    refine KeepsP.mk ?_
    refine Keeps.step ?_ (State.commitOp_keeps _) rfl
    exact Keeps.refl _ _
  · rename_i y9
    refine KeepsP.step ?_ (State.defaultsOp_keeps _ _) rfl
    exact Keeps.refl _ _
  · rename_i y10
    refine KeepsP.mk ?_
    refine Keeps.step ?_ (State.lockOp_keeps _ _ _) rfl
    exact Keeps.refl _ _
  · rename_i y11
    refine KeepsP.step ?_ (State.store_keeps _ _ _) rfl
    exact Keeps.refl _ _
  · rename_i y12
    refine KeepsP.step ?_ (State.hlResetOp_keeps _ _ _) rfl
    refine KeepsN.snd ?_
    assumption
  · rename_i y13
    refine KeepsP.step ?_ (State.plotResetOp_keeps _ _) rfl
    exact Keeps.refl _ _
  · rename_i y14
    refine KeepsP.mk ?_
    refine Keeps.step ?_ (State.plotFenceOp_keeps _ _) rfl
    exact Keeps.refl _ _
  · rename_i y15
    refine KeepsP.step ?_ (State.tramResetOp_keeps _ _) rfl
    exact Keeps.refl _ _
  · rename_i y16
    refine KeepsP.step ?_ (State.fwBeginOp_keeps _ _ _) rfl
    exact Keeps.refl _ _
  · rename_i y17
    refine KeepsP.step ?_ (State.fwVerifyOp_keeps _ _) rfl
    exact Keeps.refl _ _
  · rename_i y18
    refine KeepsP.step ?_ (State.fwActivateOp_keeps _ _ _) rfl
    refine KeepsN.snd ?_
    assumption
  · rename_i y19
    refine KeepsP.step ?_ (State.fwConfirmOp_keeps _ _) rfl
    exact Keeps.refl _ _
  · rename_i y20 y21 y22 y23 y24 y25 y26 y27 y28 y29 y30 y31 y32 y33 y34
    refine KeepsP.step ?_ (State.store_keeps _ _ _) rfl
    assumption

theorem State.apply2_keeps (s) (z1) (z2) (z3) : KeepsP 100679692 s (State.apply2 s z1 z2 z3) := by
  unfold State.apply2
  split
  · rename_i y1
    refine KeepsP.step ?_ (State.pwrRequestOp_keeps _ _) rfl
    exact Keeps.refl _ _
  · rename_i y2
    refine KeepsP.mk ?_
    refine Keeps.step ?_ (State.plotHoldOp_keeps _ _) rfl
    exact Keeps.refl _ _
  · rename_i y3
    refine KeepsP.step ?_ (State.calCommitOp_keeps _ _ _) rfl
    exact Keeps.refl _ _
  · rename_i y4
    refine KeepsP.step ?_ (State.calUnlockOp_keeps _ _ _) rfl
    exact Keeps.refl _ _
  · rename_i y5 y6 y7 y8 y9
    refine KeepsP.ite ?_ ?_
    · refine KeepsP.step ?_ (State.calItemOp_keeps _ _ _ _) rfl
      exact Keeps.refl _ _
    · extract_lets x10
      clear_value x10
      refine KeepsP.mk ?_
      refine Keeps.step ?_ (State.noteReason_keeps _ _) rfl
      refine Keeps.step ?_ (State.setVal_keeps _ _ _) rfl
      exact Keeps.refl _ _

theorem State.apply3_keeps (s) (z1) (z2) : KeepsP 4 s (State.apply3 s z1 z2) := by
  unfold State.apply3
  split
  · rename_i y1
    refine KeepsP.ite ?_ ?_
    · refine KeepsP.step ?_ (State.store_keeps _ _ _) rfl
      exact Keeps.refl _ _
    · refine KeepsP.mk ?_
      exact Keeps.refl _ _
  · rename_i y2
    refine KeepsP.ite ?_ ?_
    · refine KeepsP.step ?_ (State.store_keeps _ _ _) rfl
      exact Keeps.refl _ _
    · refine KeepsP.mk ?_
      exact Keeps.refl _ _
  · rename_i y3
    refine KeepsP.step ?_ (State.store_keeps _ _ _) rfl
    exact Keeps.refl _ _
  · rename_i y4
    refine KeepsP.step ?_ (State.store_keeps _ _ _) rfl
    exact Keeps.refl _ _
  · rename_i y5
    refine KeepsP.step ?_ (State.store_keeps _ _ _) rfl
    exact Keeps.refl _ _
  · rename_i y6 y7 y8 y9 y10 y11
    refine KeepsP.step ?_ (State.store_keeps _ _ _) rfl
    exact Keeps.refl _ _

theorem State.apply5_keeps (s) (z1) (z2) : KeepsP 870449052 s (State.apply5 s z1 z2) := by
  unfold State.apply5
  split
  · rename_i y1
    refine KeepsP.step ?_ (State.store_keeps _ _ _) rfl
    exact Keeps.refl _ _
  · rename_i y2
    refine KeepsP.mk ?_
    refine Keeps.step ?_ (State.refreshPorts_keeps _) rfl
    refine Keeps.step ?_ (State.setVal_keeps _ _ _) rfl
    exact Keeps.refl _ _
  · rename_i y3
    refine KeepsP.ite ?_ ?_
    · refine KeepsP.mk ?_
      refine Keeps.step ?_ (State.releaseOp_keeps _) rfl
      exact Keeps.refl _ _
    · refine KeepsP.mk ?_
      exact Keeps.refl _ _
  · rename_i y4
    refine KeepsP.ite ?_ ?_
    · refine KeepsP.step ?_ (State.store_keeps _ _ _) rfl
      exact Keeps.refl _ _
    · refine KeepsP.mk ?_
      exact Keeps.refl _ _
  · rename_i y5
    split
    · rename_i y6
      refine KeepsP.step ?_ (State.formOp_keeps _) rfl
      exact Keeps.refl _ _
    · rename_i y7
      refine KeepsP.step ?_ (State.dissolveOp_keeps _) rfl
      exact Keeps.refl _ _
    · rename_i y8 y9 y10
      refine KeepsP.mk ?_
      exact Keeps.refl _ _
  · rename_i y11 y12 y13 y14 y15 y16
    refine KeepsP.step ?_ (State.store_keeps _ _ _) rfl
    exact Keeps.refl _ _

theorem State.apply6_keeps (s) (z1) (z2) (z3) : KeepsP 838898318 s (State.apply6 s z1 z2 z3) := by
  unfold State.apply6
  extract_lets x1 x2
  clear_value x1
  split
  · rename_i y3
    refine KeepsP.step ?_ (State.lotCmdOp_keeps _ _) rfl
    exact Keeps.refl _ _
  · rename_i y4
    refine KeepsP.mk ?_
    refine Keeps.setrot (m := 838898318) _ ?_ rfl
    exact Keeps.refl _ _
  · rename_i y5
    refine KeepsP.step ?_ (State.rotSubmitOp_keeps _ _ _) rfl
    exact Keeps.refl _ _
  · rename_i y6
    refine KeepsP.step ?_ (State.rotCmdOp_keeps _ _) rfl
    exact Keeps.refl _ _
  · rename_i y7
    refine KeepsP.step ?_ (State.rotPoolOp_keeps _ _) rfl
    exact Keeps.refl _ _
  · rename_i y8
    refine KeepsP.step ?_ (State.rotPoolResetOp_keeps _ _) rfl
    exact Keeps.refl _ _
  · rename_i y9
    refine KeepsP.mk ?_
    refine Keeps.setrot (m := 838898318) _ ?_ rfl
    exact Keeps.refl _ _
  · rename_i y10 y11 y12 y13 y14 y15 y16 y17
    refine KeepsP.step ?_ (State.store_keeps _ _ _) rfl
    exact Keeps.refl _ _

theorem State.apply7_keeps (s) (z1) (z2) (z3) : KeepsP 1944321948 s (State.apply7 s z1 z2 z3) := by
  unfold State.apply7
  extract_lets x1 x2
  clear_value x1
  clear_value x2
  refine KeepsP.ite ?_ ?_
  · split
    · rename_i y3 y4
      refine KeepsP.mk ?_
      refine Keeps.step ?_ (State.clearSticky_keeps _ _) rfl
      exact Keeps.refl _ _
    · rename_i y5 y6
      refine KeepsP.step ?_ (State.odSrcCfg_keeps _ _ _) rfl
      exact Keeps.refl _ _
    · rename_i y7 y8
      refine KeepsP.mk ?_
      refine Keeps.step ?_ (State.setSrc_keeps _ _ _) rfl
      exact Keeps.refl _ _
    · rename_i y9 y10 y11 y12
      refine KeepsP.mk ?_
      exact Keeps.refl _ _
  · refine KeepsP.ite ?_ ?_
    · refine KeepsP.step ?_ (State.splitOp_keeps _ _ _ _) rfl
      exact Keeps.refl _ _
    · refine KeepsP.ite ?_ ?_
      · refine KeepsP.step ?_ (State.policyModeOp_keeps _ _ _) rfl
        exact Keeps.refl _ _
      · refine KeepsP.ite ?_ ?_
        · refine KeepsP.mk ?_
          refine Keeps.step ?_ (State.portRetrainOp_keeps _ _) rfl
          exact Keeps.refl _ _
        · split
          · rename_i y13
            refine KeepsP.step ?_ (State.forceArmOp_keeps _ _ _) rfl
            exact Keeps.refl _ _
          · rename_i y14
            refine KeepsP.step ?_ (State.forceRailOp_keeps _ _ _) rfl
            exact Keeps.refl _ _
          · rename_i y15
            refine KeepsP.step ?_ (State.forceEventOp_keeps _ _ _) rfl
            exact Keeps.refl _ _
          · rename_i y16
            refine KeepsP.step ?_ (State.forceLevelOp_keeps _ _ _) rfl
            exact Keeps.refl _ _
          · rename_i y17 y18 y19 y20 y21
            refine KeepsP.step ?_ (State.store_keeps _ _ _) rfl
            exact Keeps.refl _ _

theorem State.clearOvfOp_keeps (s) (z1) (z2) : Keeps 65540 s (State.clearOvfOp s z1 z2) := by
  unfold State.clearOvfOp
  refine Keeps.ite ?_ ?_
  · extract_lets x1 x2
    have hx2 : Keeps 65540 s x2 := by
      unfold x2
      refine Keeps.setfc (m := 65540) _ ?_ id rfl
      exact Keeps.refl _ _
    clear_value x2
    refine Keeps.step ?_ (State.setVal_keeps _ _ _) rfl
    assumption
  · refine Keeps.ite ?_ ?_
    · refine Keeps.step ?_ (State.setSrc_keeps _ _ _) rfl
      exact Keeps.refl _ _
    · refine Keeps.step ?_ (State.setVal_keeps _ _ _) rfl
      exact Keeps.refl _ _

theorem State.odApply_keeps (s) (z1) (z2) (z3) : KeepsP 2147483550 s (State.odApply s z1 z2 z3) := by
  unfold State.odApply
  extract_lets x1 x2 x3
  clear_value x2
  have hx3 : KeepsP 2147483550 s x3 := by
    unfold x3
    split
    · rename_i y4 y5
      refine KeepsP.step ?_ (State.apply1_keeps _ _ _ _) rfl
      exact Keeps.refl _ _
    · rename_i y6 y7
      refine KeepsP.step ?_ (State.apply2_keeps _ _ _ _) rfl
      exact Keeps.refl _ _
    · rename_i y8 y9
      refine KeepsP.step ?_ (State.apply3_keeps _ _ _) rfl
      exact Keeps.refl _ _
    · rename_i y10 y11
      refine KeepsP.step ?_ (State.apply3_keeps _ _ _) rfl
      exact Keeps.refl _ _
    · rename_i y12 y13
      refine KeepsP.step ?_ (State.apply5_keeps _ _ _) rfl
      exact Keeps.refl _ _
    · rename_i y14 y15
      refine KeepsP.step ?_ (State.apply6_keeps _ _ _ _) rfl
      exact Keeps.refl _ _
    · rename_i y16 y17 y18 y19 y20 y21 y22
      refine KeepsP.step ?_ (State.apply7_keeps _ _ _ _) rfl
      exact Keeps.refl _ _
  refine KeepsP.ite ?_ ?_
  · refine KeepsP.mk ?_
    refine Keeps.step ?_ (State.clearOvfOp_keeps _ _ _) rfl
    exact Keeps.refl _ _
  · refine KeepsP.ite ?_ ?_
    · refine KeepsP.mk ?_
      refine Keeps.step ?_ (State.overrideBy_keeps _ _ _ _) rfl
      refine KeepsP.fst ?_
      assumption
    · assumption

theorem State.odWrite_keeps (s) (z1) (z2) : KeepsP 2147483550 s (State.odWrite s z1 z2) := by
  unfold State.odWrite
  extract_lets x1 x2
  clear_value x1
  clear_value x2
  refine KeepsP.ite ?_ ?_
  · refine KeepsP.mk ?_
    exact Keeps.refl _ _
  · refine KeepsP.ite ?_ ?_
    · refine KeepsP.mk ?_
      exact Keeps.refl _ _
    · refine KeepsP.ite ?_ ?_
      · refine KeepsP.mk ?_
        exact Keeps.refl _ _
      · refine KeepsP.ite ?_ ?_
        · refine KeepsP.mk ?_
          exact Keeps.refl _ _
        · refine KeepsP.step ?_ (State.odApply_keeps _ _ _ _) rfl
          exact Keeps.refl _ _

theorem State.odRead_keeps (s) (z1) (z2) (z3) (z4) : KeepsP 65536 s (State.odRead s z1 z2 z3 z4) := by
  unfold State.odRead
  extract_lets x1 x2
  clear_value x2
  split
  · rename_i y3 y4
    refine KeepsP.mk ?_
    exact Keeps.refl _ _
  · rename_i y5 y6 y7
    refine KeepsP.ite ?_ ?_
    · refine KeepsP.mk ?_
      exact Keeps.refl _ _
    · refine KeepsP.ite ?_ ?_
      · refine KeepsP.mk ?_
        exact Keeps.refl _ _
      · refine KeepsP.ite ?_ ?_
        · refine KeepsP.mk ?_
          exact Keeps.refl _ _
        · refine KeepsP.ite ?_ ?_
          · refine KeepsP.mk ?_
            exact Keeps.refl _ _
          · refine KeepsP.ite ?_ ?_
            · refine KeepsP.mk ?_
              exact Keeps.refl _ _
            · refine KeepsP.ite ?_ ?_
              · refine KeepsP.step ?_ (State.recordNextOp_keeps _) rfl
                exact Keeps.refl _ _
              · refine KeepsP.ite ?_ ?_
                · refine KeepsP.mk ?_
                  exact Keeps.refl _ _
                · refine KeepsP.mk ?_
                  exact Keeps.refl _ _

theorem State.mgrListOp_keeps (s) (z1) (z2) (z3) : KeepsP 16777216 s (State.mgrListOp s z1 z2 z3) := by
  unfold State.mgrListOp
  extract_lets x1 x2 x3 x4 x5
  clear_value x1
  clear_value x2
  refine KeepsP.ite ?_ ?_
  · refine KeepsP.mk ?_
    exact Keeps.refl _ _
  · refine KeepsP.ite ?_ ?_
    · refine KeepsP.mk ?_
      exact Keeps.refl _ _
    · split
      · rename_i y6
        refine KeepsP.mk ?_
        refine Keeps.setmgr (m := 16777216) _ ?_ rfl
        exact Keeps.refl _ _
      · rename_i y7
        refine KeepsP.mk ?_
        refine Keeps.setmgr (m := 16777216) _ ?_ rfl
        exact Keeps.refl _ _
      · rename_i y8 y9 y10
        refine KeepsP.mk ?_
        refine Keeps.setmgr (m := 16777216) _ ?_ rfl
        exact Keeps.refl _ _

theorem State.blockWrite_keeps (s) (z1) (z2) (z3) (z4) (z5) (z6) (z7) : KeepsP 152043520 s (State.blockWrite s z1 z2 z3 z4 z5 z6 z7) := by
  unfold State.blockWrite
  extract_lets x1 x2
  clear_value x2
  split
  · rename_i y3 y4
    refine KeepsP.mk ?_
    exact Keeps.refl _ _
  · rename_i y5 y6 y7
    refine KeepsP.ite ?_ ?_
    · refine KeepsP.mk ?_
      exact Keeps.refl _ _
    · refine KeepsP.ite ?_ ?_
      · refine KeepsP.mk ?_
        exact Keeps.refl _ _
      · refine KeepsP.ite ?_ ?_
        · refine KeepsP.mk ?_
          exact Keeps.refl _ _
        · refine KeepsP.ite ?_ ?_
          · refine KeepsP.mk ?_
            exact Keeps.refl _ _
          · refine KeepsP.ite ?_ ?_
            · refine KeepsP.mk ?_
              exact Keeps.refl _ _
            · refine KeepsP.ite ?_ ?_
              · refine KeepsP.step ?_ (State.fwDataOp_keeps _ _ _ _) rfl
                exact Keeps.refl _ _
              · refine KeepsP.step ?_ (State.mgrListOp_keeps _ _ _ _) rfl
                exact Keeps.refl _ _

end Sys2Proof.Machine
end

