-- ==== Sys2Proof/Laws/FootDict.lean ====
section
/-! SUPPORT. The footprints of the operations of Machine/Dict.lean. -/

namespace Sys2Proof.Machine

theorem State.readAll_keeps (s) (z1) (z2) : KeepsP 65536 s (State.readAll s z1 z2) := by
  unfold State.readAll
  refine KeepsP.foldl ?_ ?_
  · refine KeepsP.mk ?_
    exact Keeps.refl _ _
  · intro a1 a2 a3
    extract_lets x4
    have hx4 : KeepsP 65536 s x4 := by
      unfold x4
      refine KeepsP.step ?_ (State.odRead_keeps _ _ _ _ _) rfl
      refine KeepsP.fst ?_
      assumption
    clear_value x4
    refine KeepsP.mk ?_
    refine KeepsP.fst ?_
    assumption

theorem State.writeAll_keeps (s) (z1) (z2) : KeepsP 2147483550 s (State.writeAll s z1 z2) := by
  unfold State.writeAll
  extract_lets x1 x2
  clear_value x1
  have hx2 : KeepsP 2147483550 s x2 := by
    unfold x2
    refine KeepsP.foldl ?_ ?_
    · refine KeepsP.mk ?_
      exact Keeps.refl _ _
    · intro a3 a4 a5
      extract_lets x6
      have hx6 : KeepsP 2147483550 s x6 := by
        unfold x6
        refine KeepsP.step ?_ (State.odWrite_keeps _ _ _) rfl
        refine KeepsP.fst ?_
        assumption
      clear_value x6
      refine KeepsP.ite ?_ ?_
      · refine KeepsP.mk ?_
        refine KeepsP.fst ?_
        assumption
      · refine KeepsP.mk ?_
        refine KeepsP.fst ?_
        assumption
  clear_value x2
  refine KeepsP.mk ?_
  split
  · rename_i y7 y8
    refine KeepsP.fst ?_
    assumption
  · rename_i y9 y10 y11 y12
    refine KeepsP.fst ?_
    refine KeepsP.step ?_ (State.odWrite_keeps _ _ _) rfl
    refine KeepsP.fst ?_
    assumption

theorem State.setTxn_keeps (s) (z1) (z2) : Keeps 131072 s (State.setTxn s z1 z2) := by
  unfold State.setTxn
  refine Keeps.setdict (m := 131072) _ ?_ rfl
  exact Keeps.refl _ _

theorem State.closeTxn_keeps (s) (z1) : Keeps 131072 s (State.closeTxn s z1) := by
  unfold State.closeTxn
  refine Keeps.setdict (m := 131072) _ ?_ rfl
  exact Keeps.refl _ _

theorem State.txnOpenOp_keeps (s) (z1) : KeepsP 131072 s (State.txnOpenOp s z1) := by
  unfold State.txnOpenOp
  refine KeepsP.ite ?_ ?_
  · refine KeepsP.mk ?_
    exact Keeps.refl _ _
  · extract_lets x1 x2 x3
    clear_value x1
    have hx2 : Keeps 131072 s x2 := by
      unfold x2
      refine Keeps.step ?_ (State.setTxn_keeps _ _ _) rfl
      exact Keeps.refl _ _
    clear_value x2
    refine KeepsP.mk ?_
    refine Keeps.setdict (m := 131072) _ ?_ rfl
    assumption

theorem State.stageAll_keeps (s) (z1) (z2) (z3) (z4) : KeepsP 131072 s (State.stageAll s z1 z2 z3 z4) := by
  unfold State.stageAll
  extract_lets x1
  refine KeepsP.mk ?_
  refine Keeps.step ?_ (State.setTxn_keeps _ _ _) rfl
  exact Keeps.refl _ _

theorem State.txnApplyOp_keeps (s) (z1) (z2) : KeepsP 2147483550 s (State.txnApplyOp s z1 z2) := by
  unfold State.txnApplyOp
  split
  · rename_i y1 y2 y3
    refine KeepsP.mk ?_
    refine Keeps.ite ?_ ?_
    · refine KeepsP.fst ?_
      refine KeepsP.step ?_ (State.odWrite_keeps _ _ _) rfl
      exact Keeps.refl _ _
    · exact Keeps.refl _ _
  · rename_i y4 y5
    refine KeepsP.mk ?_
    refine Keeps.step ?_ (State.closeTxn_keeps _ _) rfl
    refine KeepsP.fst ?_
    refine KeepsP.step ?_ (State.writeAll_keeps _ _ _) rfl
    exact Keeps.refl _ _

theorem execTxnExpiry_keeps (z0) (s) : KeepsO 131077 s (execTxnExpiry z0 s) := by
  unfold execTxnExpiry
  split
  · rename_i y1 y2
    refine KeepsO.next ?_
    exact Keeps.refl _ _
  · rename_i y3 y4 y5
    refine KeepsO.next ?_
    refine Keeps.step ?_ (State.bump_keeps _ _) rfl
    refine Keeps.step ?_ (State.closeTxn_keeps _ _) rfl
    refine Keeps.step ?_ (State.until__keeps _ _) rfl
    exact Keeps.refl _ _

theorem State.runRead_keeps (s) (z1) (z2) (z3) : KeepsP 65536 s (State.runRead s z1 z2 z3) := by
  unfold State.runRead
  split
  · rename_i y1 y2
    refine KeepsP.mk ?_
    exact Keeps.refl _ _
  · rename_i y3 y4 y5
    refine KeepsP.ite ?_ ?_
    · refine KeepsP.mk ?_
      exact Keeps.refl _ _
    · extract_lets x6
      have hx6 : KeepsP 65536 s x6 := by
        unfold x6
        refine KeepsP.step ?_ (State.readAll_keeps _ _ _) rfl
        exact Keeps.refl _ _
      clear_value x6
      refine KeepsP.mk ?_
      refine KeepsP.fst ?_
      assumption

theorem State.runWrite_keeps (s) (z1) (z2) (z3) : KeepsP 2147483550 s (State.runWrite s z1 z2 z3) := by
  unfold State.runWrite
  split
  · rename_i y1 y2
    refine KeepsP.mk ?_
    exact Keeps.refl _ _
  · rename_i y3 y4 y5
    extract_lets x6
    have hx6 : KeepsP 2147483550 s x6 := by
      unfold x6
      split
      · rename_i y7 y8 y9
        refine KeepsP.ite ?_ ?_
        · refine KeepsP.step ?_ (State.writeAll_keeps _ _ _) rfl
          exact Keeps.refl _ _
        · refine KeepsP.step ?_ (State.stageAll_keeps _ _ _ _ _) rfl
          exact Keeps.refl _ _
      · rename_i y10 y11
        refine KeepsP.step ?_ (State.writeAll_keeps _ _ _) rfl
        exact Keeps.refl _ _
    clear_value x6
    refine KeepsP.mk ?_
    refine KeepsP.fst ?_
    assumption

theorem State.runCheck_keeps (s) (z1) (z2) (z3) : KeepsP 131072 s (State.runCheck s z1 z2 z3) := by
  unfold State.runCheck
  split
  · rename_i y1 y2 y3
    refine KeepsP.mk ?_
    exact Keeps.refl _ _
  · rename_i y4 y5 y6 y7
    refine KeepsP.mk ?_
    exact Keeps.refl _ _
  · rename_i y8 y9 y10 y11 y12 y13
    extract_lets x14
    have hx14 : KeepsP 131072 s x14 := by
      unfold x14
      refine KeepsP.step ?_ (State.stageAll_keeps _ _ _ _ _) rfl
      exact Keeps.refl _ _
    clear_value x14
    refine KeepsP.mk ?_
    refine KeepsP.fst ?_
    assumption

theorem State.runDescribe_keeps (s) (z1) (z2) (z3) : KeepsP 0 s (State.runDescribe s z1 z2 z3) := by
  unfold State.runDescribe
  split
  · rename_i y1 y2
    refine KeepsP.mk ?_
    exact Keeps.refl _ _
  · rename_i y3 y4 y5
    extract_lets x6
    refine KeepsP.mk ?_
    exact Keeps.refl _ _

theorem State.runReadBlock_keeps (s) (z1) (z2) (z3) : KeepsP 0 s (State.runReadBlock s z1 z2 z3) := by
  unfold State.runReadBlock
  extract_lets x1 x2
  clear_value x1
  refine KeepsP.ite ?_ ?_
  · refine KeepsP.mk ?_
    exact Keeps.refl _ _
  · refine KeepsP.mk ?_
    exact Keeps.refl _ _

theorem State.runWriteBlock_keeps (s) (z1) (z2) (z3) : KeepsP 152043520 s (State.runWriteBlock s z1 z2 z3) := by
  unfold State.runWriteBlock
  extract_lets x1 x2
  clear_value x1
  have hx2 : KeepsP 152043520 s x2 := by
    unfold x2
    refine KeepsP.step ?_ (State.blockWrite_keeps _ _ _ _ _ _ _ _) rfl
    exact Keeps.refl _ _
  clear_value x2
  refine KeepsP.ite ?_ ?_
  · refine KeepsP.mk ?_
    exact Keeps.refl _ _
  · refine KeepsP.mk ?_
    refine KeepsP.fst ?_
    assumption

theorem State.nameTxn_keeps (s) (z1) (z2) : KeepsS 131072 s (State.nameTxn s z1 z2) := by
  unfold State.nameTxn
  refine KeepsS.ite (KeepsS.some (Keeps.refl _ _)) ?_
  intro t e
  obtain ⟨x, -, rfl⟩ := Option.map_eq_some_iff.mp e
  exact State.setTxn_keeps _ _ _

theorem State.noteOwner_keeps (s) (z1) : Keeps 1048576 s (State.noteOwner s z1) := by
  unfold State.noteOwner
  refine Keeps.ite ?_ ?_
  · refine Keeps.setfw (m := 1048576) _ ?_ rfl
    exact Keeps.refl _ _
  · exact Keeps.refl _ _

theorem State.dictRun_keeps (s) (z1) (z2) (z3) (z4) : KeepsP 2147483550 s (State.dictRun s z1 z2 z3 z4) := by
  unfold State.dictRun
  refine KeepsP.ite ?_ ?_
  · refine KeepsP.mk ?_
    exact Keeps.refl _ _
  · extract_lets x1
    have hx1 : Keeps 2147483550 s x1 := by
      unfold x1
      refine Keeps.step ?_ (State.noteOwner_keeps _ _) rfl
      refine Keeps.step ?_ (State.hlAnswers_keeps _) rfl
      exact Keeps.refl _ _
    clear_value x1
    split
    · rename_i y2 y3
      refine KeepsP.mk ?_
      assumption
    · rename_i y4 y5 y6
      have h7 : Keeps 2147483550 s y5 := by
        refine KeepsS.ofEq ?_ y6
        refine KeepsS.step ?_ (State.nameTxn_keeps _ _ _) rfl
        assumption
      split
      · rename_i y8
        refine KeepsP.step ?_ (State.runRead_keeps _ _ _ _) rfl
        assumption
      · rename_i y9
        refine KeepsP.step ?_ (State.runWrite_keeps _ _ _ _) rfl
        assumption
      · rename_i y10
        refine KeepsP.step ?_ (State.runReadBlock_keeps _ _ _ _) rfl
        assumption
      · rename_i y11
        refine KeepsP.step ?_ (State.runWriteBlock_keeps _ _ _ _) rfl
        assumption
      · rename_i y12
        refine KeepsP.step ?_ (State.runDescribe_keeps _ _ _ _) rfl
        assumption
      · rename_i y13
        extract_lets x14
        have hx14 : KeepsP 2147483550 s x14 := by
          unfold x14
          refine KeepsP.step ?_ (State.txnOpenOp_keeps _ _) rfl
          assumption
        clear_value x14
        refine KeepsP.mk ?_
        refine KeepsP.fst ?_
        assumption
      · rename_i y15
        refine KeepsP.step ?_ (State.runCheck_keeps _ _ _ _) rfl
        assumption
      · rename_i y16
        split
        · rename_i y17 y18
          refine KeepsP.mk ?_
          assumption
        · rename_i y19 y20 y21
          extract_lets x22
          have hx22 : KeepsP 2147483550 s x22 := by
            unfold x22
            refine KeepsP.step ?_ (State.txnApplyOp_keeps _ _ _) rfl
            assumption
          clear_value x22
          refine KeepsP.mk ?_
          refine KeepsP.fst ?_
          assumption
      · rename_i y23 y24 y25 y26 y27 y28 y29 y30 y31
        split
        · rename_i y32 y33
          refine KeepsP.mk ?_
          assumption
        · rename_i y34 y35 y36
          refine KeepsP.mk ?_
          refine Keeps.step ?_ (State.closeTxn_keeps _ _) rfl
          assumption

theorem State.giveAnswer_keeps (s) (z1) : Keeps 131072 s (State.giveAnswer s z1) := by
  unfold State.giveAnswer
  refine Keeps.setdict (m := 131072) _ ?_ rfl
  exact Keeps.refl _ _

theorem State.sendBytes_keeps (s) (z1) : Keeps 262148 s (State.sendBytes s z1) := by
  unfold State.sendBytes
  refine Keeps.step ?_ (State.bump_keeps _ _) rfl
  refine Keeps.sethop (m := 262148) _ ?_ rfl
  exact Keeps.refl _ _

theorem State.answerField_keeps (s) (z1) (z2) : Keeps 393220 s (State.answerField s z1 z2) := by
  unfold State.answerField
  extract_lets x1
  refine Keeps.step ?_ (State.sendBytes_keeps _ _) rfl
  refine Keeps.step ?_ (State.giveAnswer_keeps _ _) rfl
  exact Keeps.refl _ _

theorem State.frameIn_keeps (s) : Keeps 33816580 s (State.frameIn s) := by
  unfold State.frameIn
  extract_lets x1 x2
  have hx1 : Keeps 33816580 s x1 := by
    unfold x1
    refine Keeps.step ?_ (State.bump_keeps _ _) rfl
    refine Keeps.step ?_ (State.hlWork_keeps _) rfl
    exact Keeps.refl _ _
  clear_value x1
  refine Keeps.ite ?_ ?_
  · refine Keeps.sethop (m := 33816580) _ ?_ rfl
    assumption
  · assumption

theorem State.hopSecond_keeps (s) : Keeps 262144 s (State.hopSecond s) := by
  unfold State.hopSecond
  extract_lets x1 x2
  clear_value x1
  refine Keeps.ite ?_ ?_
  · exact Keeps.refl _ _
  · refine Keeps.sethop (m := 262144) _ ?_ rfl
    exact Keeps.refl _ _

theorem State.queueField_keeps (s) (z1) : Keeps 33816576 s (State.queueField s z1) := by
  unfold State.queueField
  refine Keeps.step ?_ (State.hlWork_keeps _) rfl
  refine Keeps.sethop (m := 33816576) _ ?_ rfl
  exact Keeps.refl _ _

theorem State.fieldRequest_keeps (s) (z1) : Keeps 33947652 s (State.fieldRequest s z1) := by
  unfold State.fieldRequest
  refine Keeps.ite ?_ ?_
  · refine Keeps.step ?_ (State.answerField_keeps _ _ _) rfl
    exact Keeps.refl _ _
  · refine Keeps.ite ?_ ?_
    · refine Keeps.sethop (m := 33947652) _ ?_ rfl
      exact Keeps.refl _ _
    · split
      · rename_i y1 y2 y3
        refine Keeps.step ?_ (State.sendBytes_keeps _ _) rfl
        exact Keeps.refl _ _
      · rename_i y4 y5
        refine Keeps.ite ?_ ?_
        · refine Keeps.step ?_ (State.bump_keeps _ _) rfl
          exact Keeps.refl _ _
        · refine Keeps.ite ?_ ?_
          · refine Keeps.step ?_ (State.bump_keeps _ _) rfl
            exact Keeps.refl _ _
          · refine Keeps.ite ?_ ?_
            · refine Keeps.step ?_ (State.answerField_keeps _ _ _) rfl
              exact Keeps.refl _ _
            · refine Keeps.step ?_ (State.queueField_keeps _ _) rfl
              refine Keeps.sethop (m := 33947652) _ ?_ rfl
              exact Keeps.refl _ _

theorem State.frameReceived_keeps (s) (z1) : Keeps 33947652 s (State.frameReceived s z1) := by
  unfold State.frameReceived
  extract_lets x1 x2 x3 x4 x5 x6 x7
  clear_value x1
  clear_value x3
  clear_value x4
  have hx7 : Keeps 33947652 s x7 := by
    unfold x7
    refine Keeps.step ?_ (State.hopSecond_keeps _) rfl
    refine Keeps.step ?_ (State.frameIn_keeps _) rfl
    exact Keeps.refl _ _
  clear_value x7
  refine Keeps.ite ?_ ?_
  · exact Keeps.refl _ _
  · refine Keeps.ite ?_ ?_
    · refine Keeps.step ?_ (State.bump_keeps _ _) rfl
      exact Keeps.refl _ _
    · refine Keeps.ite ?_ ?_
      · assumption
      · refine Keeps.ite ?_ ?_
        · refine Keeps.step ?_ (State.bump_keeps _ _) rfl
          assumption
        · refine Keeps.ite ?_ ?_
          · assumption
          · refine Keeps.ite ?_ ?_
            · refine Keeps.step ?_ (State.fieldRequest_keeps _ _) rfl
              assumption
            · refine Keeps.ite ?_ ?_
              · refine Keeps.step ?_ (State.answerField_keeps _ _ _) rfl
                assumption
              · refine Keeps.step ?_ (State.queueField_keeps _ _) rfl
                assumption

theorem State.fieldOp_keeps (s) (z1) (z2) (z3) : KeepsP 2147483550 s (State.fieldOp s z1 z2 z3) := by
  unfold State.fieldOp
  extract_lets x1
  have hx1 : Keeps 2147483550 s x1 := by
    unfold x1
    refine Keeps.ite ?_ ?_
    · refine Keeps.step ?_ (State.wakeEvent_keeps _) rfl
      exact Keeps.refl _ _
    · exact Keeps.refl _ _
  clear_value x1
  refine KeepsP.step ?_ (State.dictRun_keeps _ _ _ _ _) rfl
  assumption

theorem State.fieldRun_keeps (s) (z1) : KeepsP 2147483550 s (State.fieldRun s z1) := by
  unfold State.fieldRun
  refine KeepsP.ite ?_ ?_
  · refine KeepsP.ite ?_ ?_
    · refine KeepsP.mk ?_
      refine Keeps.step ?_ (State.bump_keeps _ _) rfl
      exact Keeps.refl _ _
    · extract_lets x1 x2
      have hx2 : Keeps 2147483550 s x2 := by
        unfold x2
        refine Keeps.sethop (m := 2147483550) _ ?_ rfl
        exact Keeps.refl _ _
      clear_value x2
      split
      · rename_i y3 y4
        refine KeepsP.mk ?_
        assumption
      · rename_i y5 y6 y7
        have h8 : Keeps 2147483550 s y6 := by
          refine KeepsS.ofEq ?_ y7
          refine KeepsS.step ?_ (State.nameTxn_keeps _ _ _) rfl
          assumption
        refine KeepsP.mk ?_
        assumption
  · refine KeepsP.ite ?_ ?_
    · split
      · rename_i y9 y10
        refine KeepsP.mk ?_
        exact Keeps.refl _ _
      · rename_i y11 y12 y13
        have h14 : Keeps 2147483550 s y12 := by
          refine KeepsS.ofEq ?_ y13
          refine KeepsS.step ?_ (State.nameTxn_keeps _ _ _) rfl
          exact Keeps.refl _ _
        extract_lets x15
        have hx15 : Keeps 2147483550 s x15 := by
          unfold x15
          refine Keeps.step ?_ (State.newSession_keeps _) rfl
          assumption
        clear_value x15
        refine KeepsP.mk ?_
        assumption
    · extract_lets x16
      have hx16 : KeepsP 2147483550 s x16 := by
        unfold x16
        refine KeepsP.step ?_ (State.fieldOp_keeps _ _ _ _) rfl
        exact Keeps.refl _ _
      clear_value x16
      refine KeepsP.mk ?_
      refine KeepsP.fst ?_
      assumption

theorem State.fieldTake_keeps (s) (z1) : Keeps 2147483550 s (State.fieldTake s z1) := by
  unfold State.fieldTake
  split
  · rename_i y1 y2
    exact Keeps.refl _ _
  · rename_i y3 y4 y5 y6
    refine Keeps.ite ?_ ?_
    · exact Keeps.refl _ _
    · extract_lets x7 x8 x9 x10
      have hx10 : KeepsP 2147483550 s x10 := by
        unfold x10
        refine KeepsP.step ?_ (State.fieldRun_keeps _ _) rfl
        refine Keeps.step ?_ (State.hopSecond_keeps _) rfl
        refine Keeps.step (m' := 393216) (t := s) ?_ (by constructor <;> first | exact fun b => Bool.noConfusion b | exact fun _ => rfl | exact rfl | exact Nat.le_refl _ | exact id) rfl
        exact Keeps.refl _ _
      clear_value x10
      split
      · rename_i y11 y12
        refine KeepsP.fst ?_
        assumption
      · rename_i y13 y14 y15
        refine Keeps.ite ?_ ?_
        · refine KeepsP.fst ?_
          assumption
        · extract_lets x16 x17 x18 x19
          have hx18 : Keeps 2147483550 s x18 := by
            unfold x18
            refine Keeps.step ?_ (State.sendBytes_keeps _ _) rfl
            refine Keeps.step ?_ (State.giveAnswer_keeps _ _) rfl
            refine KeepsP.fst ?_
            assumption
          clear_value x18
          refine Keeps.ite ?_ ?_
          · assumption
          · refine Keeps.sethop (m := 2147483550) _ ?_ rfl
            assumption

theorem State.setSlot_keeps (s) (z1) (z2) : Keeps 524288 s (State.setSlot s z1 z2) := by
  unfold State.setSlot
  refine Keeps.setmir (m := 524288) _ ?_ rfl
  exact Keeps.refl _ _

theorem State.areaWrite_keeps (s) (z1) (z2) : Keeps 8 s (State.areaWrite s z1 z2) := by
  unfold State.areaWrite
  refine Keeps.each ?_ ?_
  · exact Keeps.refl _ _
  · intro a1 a2 a3
    extract_lets x4
    refine Keeps.step ?_ (State.setRg_keeps _ _ _) rfl
    assumption

theorem State.countMirror_keeps (s) : Keeps 524288 s (State.countMirror s) := by
  unfold State.countMirror
  extract_lets x1 x2
  clear_value x1
  refine Keeps.setmir (m := 524288) _ ?_ rfl
  exact Keeps.refl _ _

theorem State.slotDone_keeps (s) (z1) (z2) (z3) (z4) : Keeps 524296 s (State.slotDone s z1 z2 z3 z4) := by
  unfold State.slotDone
  extract_lets x1 x2
  refine Keeps.step ?_ (State.countMirror_keeps _) rfl
  refine Keeps.step ?_ (State.areaWrite_keeps _ _ _) rfl
  refine Keeps.step ?_ (State.setSlot_keeps _ _ _) rfl
  exact Keeps.refl _ _

theorem State.slotWrite_keeps (s) (z1) (z2) (z3) : Keeps 34275340 s (State.slotWrite s z1 z2 z3) := by
  unfold State.slotWrite
  extract_lets x1 x2 x3 x4 x5 x6
  clear_value x2
  have hx4 : Keeps 34275340 s x4 := by
    unfold x4
    refine Keeps.step ?_ (State.setSlot_keeps _ _ _) rfl
    exact Keeps.refl _ _
  clear_value x4
  have hx5 : Keeps 34275340 s x5 := by
    unfold x5
    refine Keeps.step ?_ (State.hlWork_keeps _) rfl
    refine Keeps.step ?_ (State.setSlot_keeps _ _ _) rfl
    assumption
  clear_value x5
  refine Keeps.ite ?_ ?_
  · refine Keeps.ite ?_ ?_
    · refine Keeps.step ?_ (State.valueErr_keeps _ _ _ _) rfl
      exact Keeps.refl _ _
    · exact Keeps.refl _ _
  · refine Keeps.ite ?_ ?_
    · assumption
    · refine Keeps.ite ?_ ?_
      · refine Keeps.step ?_ (State.giveAnswer_keeps _ _) rfl
        refine Keeps.step ?_ (State.slotDone_keeps _ _ _ _ _) rfl
        assumption
      · refine Keeps.ite ?_ ?_
        · refine Keeps.step ?_ (State.giveAnswer_keeps _ _) rfl
          refine Keeps.step ?_ (State.slotDone_keeps _ _ _ _ _) rfl
          assumption
        · refine Keeps.setmir (m := 34275340) _ ?_ rfl
          assumption

theorem execSlotGo_keeps (z0) (z1) (z2) (s) : KeepsO 34275340 s (execSlotGo z0 z1 z2 s) := by
  unfold execSlotGo
  refine KeepsO.next ?_
  refine Keeps.step ?_ (State.slotWrite_keeps _ _ _ _) rfl
  exact Keeps.refl _ _

theorem State.mirrorOp_keeps (s) (z1) : Keeps 2147483550 s (State.mirrorOp s z1) := by
  unfold State.mirrorOp
  split
  · rename_i y1 y2
    exact Keeps.refl _ _
  · rename_i y3 y4 y5 y6
    extract_lets x7 x8 x9 x10 x11 x12 x13
    clear_value x8
    have hx9 : KeepsP 2147483550 s x9 := by
      unfold x9
      refine KeepsP.step ?_ (State.dictRun_keeps _ _ _ _ _) rfl
      exact Keeps.refl _ _
    clear_value x9
    have hx10 : Keeps 2147483550 s x10 := by
      unfold x10
      refine KeepsP.fst ?_
      assumption
    have hx13 : Keeps 2147483550 s x13 := by
      unfold x13
      refine Keeps.step (m' := 655360) (t := x10) ?_ (by constructor <;> first | exact fun b => Bool.noConfusion b | exact fun _ => rfl | exact rfl | exact Nat.le_refl _ | exact id) rfl
      assumption
    clear_value x13
    refine Keeps.ite ?_ ?_
    · exact Keeps.refl _ _
    · refine Keeps.ite ?_ ?_
      · refine KeepsP.fst ?_
        assumption
      · refine Keeps.step ?_ (State.giveAnswer_keeps _ _) rfl
        refine Keeps.step ?_ (State.slotDone_keeps _ _ _ _ _) rfl
        assumption

theorem State.mgmtAnswer_keeps (s) (z1) (z2) : Keeps 35782660 s (State.mgmtAnswer s z1 z2) := by
  unfold State.mgmtAnswer
  refine Keeps.step ?_ (State.tell_keeps _ _) rfl
  refine Keeps.step ?_ (State.giveAnswer_keeps _ _) rfl
  refine Keeps.ite ?_ ?_
  · refine Keeps.step ?_ (State.hlWork_keeps _) rfl
    exact Keeps.refl _ _
  · exact Keeps.refl _ _

theorem State.mgmtRefuse_keeps (s) (z1) : Keeps 35782660 s (State.mgmtRefuse s z1) := by
  unfold State.mgmtRefuse
  refine Keeps.step ?_ (State.bump_keeps _ _) rfl
  refine Keeps.step ?_ (State.mgmtAnswer_keeps _ _ _) rfl
  exact Keeps.refl _ _

theorem execMgmtRequest_keeps (z0) (z1) (s) : KeepsO 870580124 s (execMgmtRequest z0 z1 s) := by
  unfold execMgmtRequest
  refine KeepsO.next ?_
  refine State.onMsg_keeps _ _ _ _ _ ?_ ?_ rfl
  · exact Keeps.refl _ _
  · intro a1 a2 a3
    refine Keeps.ite ?_ ?_
    · refine Keeps.step ?_ (State.orderAnswered_keeps _ _ _) rfl
      assumption
    · refine Keeps.ite ?_ ?_
      · refine Keeps.step ?_ (State.mgmtAnswer_keeps _ _ _) rfl
        assumption
      · refine Keeps.ite ?_ ?_
        · refine Keeps.step ?_ (State.mgmtRefuse_keeps _ _) rfl
          assumption
        · refine Keeps.ite ?_ ?_
          · refine Keeps.step ?_ (State.mgmtAnswer_keeps _ _ _) rfl
            assumption
          · refine Keeps.step ?_ (State.hlWork_keeps _) rfl
            refine Keeps.setdict (m := 870580124) _ ?_ rfl
            assumption

theorem State.managerOp_keeps (s) (z1) : Keeps 2147483550 s (State.managerOp s z1) := by
  unfold State.managerOp
  split
  · rename_i y1 y2
    exact Keeps.refl _ _
  · rename_i y3 y4 y5 y6
    extract_lets x7 x8 x9 x10 x11 x12 x13
    clear_value x7
    clear_value x8
    clear_value x9
    clear_value x10
    have hx12 : Keeps 2147483550 s x12 := by
      unfold x12
      refine Keeps.setdict (m := 2147483550) _ ?_ rfl
      exact Keeps.refl _ _
    clear_value x12
    have hx13 : KeepsP 2147483550 s x13 := by
      unfold x13
      refine KeepsP.ite ?_ ?_
      · refine KeepsP.mk ?_
        assumption
      · refine KeepsP.step ?_ (State.dictRun_keeps _ _ _ _ _) rfl
        assumption
    clear_value x13
    refine Keeps.ite ?_ ?_
    · exact Keeps.refl _ _
    · refine Keeps.ite ?_ ?_
      · refine Keeps.step ?_ (State.mgmtRefuse_keeps _ _) rfl
        assumption
      · refine Keeps.ite ?_ ?_
        · refine Keeps.step ?_ (State.bump_keeps _ _) rfl
          refine Keeps.step ?_ (State.mgmtAnswer_keeps _ _ _) rfl
          refine KeepsP.fst ?_
          assumption
        · refine KeepsP.fst ?_
          assumption

theorem State.dictOp_keeps (s) (z1) (z2) : Keeps 2147483550 s (State.dictOp s z1 z2) := by
  unfold State.dictOp
  split
  · rename_i y1 y2
    refine Keeps.step ?_ (State.frameReceived_keeps _ _) rfl
    exact Keeps.refl _ _
  · rename_i y3
    refine Keeps.step ?_ (State.fieldTake_keeps _ _) rfl
    exact Keeps.refl _ _
  · rename_i y4
    refine Keeps.step ?_ (State.mirrorOp_keeps _ _) rfl
    exact Keeps.refl _ _
  · rename_i y5
    refine Keeps.step ?_ (State.managerOp_keeps _ _) rfl
    exact Keeps.refl _ _

theorem execOdRead_keeps (z0) (s) : KeepsO 2147483550 s (execOdRead z0 s) := by
  unfold execOdRead
  refine KeepsO.next ?_
  refine Keeps.step ?_ (State.dictOp_keeps _ _ _) rfl
  exact Keeps.refl _ _

theorem execOdWrite_keeps (z0) (s) : KeepsO 2147483550 s (execOdWrite z0 s) := by
  unfold execOdWrite
  refine KeepsO.next ?_
  refine Keeps.step ?_ (State.dictOp_keeps _ _ _) rfl
  exact Keeps.refl _ _

theorem execReadBlock_keeps (z0) (s) : KeepsO 2147483550 s (execReadBlock z0 s) := by
  unfold execReadBlock
  refine KeepsO.next ?_
  refine Keeps.step ?_ (State.dictOp_keeps _ _ _) rfl
  exact Keeps.refl _ _

theorem execWriteBlock_keeps (z0) (s) : KeepsO 2147483550 s (execWriteBlock z0 s) := by
  unfold execWriteBlock
  refine KeepsO.next ?_
  refine Keeps.step ?_ (State.dictOp_keeps _ _ _) rfl
  exact Keeps.refl _ _

theorem execDescribe_keeps (z0) (s) : KeepsO 2147483550 s (execDescribe z0 s) := by
  unfold execDescribe
  refine KeepsO.next ?_
  refine Keeps.step ?_ (State.dictOp_keeps _ _ _) rfl
  exact Keeps.refl _ _

theorem execTxnOpen_keeps (z0) (s) : KeepsO 2147483550 s (execTxnOpen z0 s) := by
  unfold execTxnOpen
  refine KeepsO.next ?_
  refine Keeps.step ?_ (State.dictOp_keeps _ _ _) rfl
  exact Keeps.refl _ _

theorem execTxnCheck_keeps (z0) (s) : KeepsO 2147483550 s (execTxnCheck z0 s) := by
  unfold execTxnCheck
  refine KeepsO.next ?_
  refine Keeps.step ?_ (State.dictOp_keeps _ _ _) rfl
  exact Keeps.refl _ _

theorem execTxnApply_keeps (z0) (s) : KeepsO 2147483550 s (execTxnApply z0 s) := by
  unfold execTxnApply
  refine KeepsO.next ?_
  refine Keeps.step ?_ (State.dictOp_keeps _ _ _) rfl
  exact Keeps.refl _ _

theorem execTxnDrop_keeps (z0) (s) : KeepsO 2147483550 s (execTxnDrop z0 s) := by
  unfold execTxnDrop
  refine KeepsO.next ?_
  refine Keeps.step ?_ (State.dictOp_keeps _ _ _) rfl
  exact Keeps.refl _ _

theorem execHello_keeps (z0) (s) : KeepsO 2147483550 s (execHello z0 s) := by
  unfold execHello
  refine KeepsO.next ?_
  refine Keeps.step ?_ (State.dictOp_keeps _ _ _) rfl
  exact Keeps.refl _ _

theorem execSessionReset_keeps (z0) (s) : KeepsO 2147483550 s (execSessionReset z0 s) := by
  unfold execSessionReset
  refine KeepsO.next ?_
  refine Keeps.step ?_ (State.dictOp_keeps _ _ _) rfl
  exact Keeps.refl _ _

theorem execNotifyAck_keeps (z0) (s) : KeepsO 2147483550 s (execNotifyAck z0 s) := by
  unfold execNotifyAck
  refine KeepsO.next ?_
  refine Keeps.step ?_ (State.dictOp_keeps _ _ _) rfl
  exact Keeps.refl _ _

theorem execForeignFrame_keeps (z0) (s) : KeepsO 33947652 s (execForeignFrame z0 s) := by
  unfold execForeignFrame
  refine KeepsO.next ?_
  refine Keeps.step ?_ (State.frameReceived_keeps _ _) rfl
  exact Keeps.refl _ _

theorem execPlcaFallback_keeps (z0) (s) : KeepsO 262148 s (execPlcaFallback z0 s) := by
  unfold execPlcaFallback
  refine KeepsO.ite ?_ ?_
  · refine KeepsO.next ?_
    exact Keeps.refl _ _
  · refine KeepsO.ite ?_ ?_
    · refine KeepsO.next ?_
      refine Keeps.sethop (m := 262148) _ ?_ rfl
      exact Keeps.refl _ _
    · refine KeepsO.next ?_
      refine Keeps.step ?_ (State.bump_keeps _ _) rfl
      refine Keeps.sethop (m := 262148) _ ?_ rfl
      exact Keeps.refl _ _

theorem State.setSub_keeps (s) (z1) (z2) : Keeps 131072 s (State.setSub s z1 z2) := by
  unfold State.setSub
  refine Keeps.setdict (m := 131072) _ ?_ rfl
  exact Keeps.refl _ _

theorem State.loseNotify_keeps (s) (z1) (z2) : Keeps 655364 s (State.loseNotify s z1 z2) := by
  unfold State.loseNotify
  extract_lets x1 x2 x3 x4
  have hx2 : Keeps 655364 s x2 := by
    unfold x2
    refine Keeps.step ?_ (State.bump_keeps _ _) rfl
    refine Keeps.step ?_ (State.setSub_keeps _ _ _) rfl
    exact Keeps.refl _ _
  clear_value x2
  clear_value x3
  refine Keeps.ite ?_ ?_
  · refine Keeps.setmir (m := 655364) _ ?_ rfl
    assumption
  · assumption

theorem State.sendNotify_keeps (s) (z1) : Keeps 262148 s (State.sendNotify s z1) := by
  unfold State.sendNotify
  refine Keeps.step ?_ (State.sendBytes_keeps _ _) rfl
  exact Keeps.refl _ _

theorem State.deliver_keeps (s) (z1) (z2) (z3) : Keeps 3014668 s (State.deliver s z1 z2 z3) := by
  unfold State.deliver
  extract_lets x1 x2 x3 x4 x5 x6 x7 x8 x9 x10 x11 x12
  have hx1 : ∀ a13, Keeps 3014668 s a13 → Keeps 3014668 s (x1 a13) := by
    unfold x1
    intro a14 a15
    refine Keeps.step ?_ (State.setSub_keeps _ _ _) rfl
    assumption
  clear_value x1
  have hx4 : Keeps 3014668 s x4 := by
    unfold x4
    refine Keeps.sethop (m := 3014668) _ ?_ rfl
    exact Keeps.refl _ _
  clear_value x4
  clear_value x5
  have hx7 : Keeps 3014668 s x7 := by
    unfold x7
    refine Keeps.setmir (m := 3014668) _ ?_ rfl
    exact Keeps.refl _ _
  clear_value x7
  have hx8 : Keeps 3014668 s x8 := by
    unfold x8
    refine Keeps.step ?_ (State.areaWrite_keeps _ _ _) rfl
    refine hx1 _ ?_
    assumption
  clear_value x8
  have hx10 : Keeps 3014668 s x10 := by
    unfold x10
    refine Keeps.setdict (m := 3014668) _ ?_ rfl
    exact Keeps.refl _ _
  clear_value x10
  clear_value x12
  split
  · rename_i y16
    refine Keeps.ite ?_ ?_
    · refine Keeps.step ?_ (State.loseNotify_keeps _ _ _) rfl
      exact Keeps.refl _ _
    · refine Keeps.step ?_ (State.sendNotify_keeps _ _) rfl
      refine hx1 _ ?_
      assumption
  · rename_i y17
    refine Keeps.ite ?_ ?_
    · refine Keeps.step ?_ (State.loseNotify_keeps _ _ _) rfl
      exact Keeps.refl _ _
    · refine Keeps.ite ?_ ?_
      · refine Keeps.step ?_ (State.attn_keeps _ _) rfl
        assumption
      · assumption
  · rename_i y18 y19 y20
    refine Keeps.ite ?_ ?_
    · refine Keeps.step ?_ (State.loseNotify_keeps _ _ _) rfl
      exact Keeps.refl _ _
    · refine Keeps.step ?_ (State.tellMember_keeps _ _ _) rfl
      refine hx1 _ ?_
      assumption

theorem State.evalSub_keeps (s) (z1) : Keeps 3014668 s (State.evalSub s z1) := by
  unfold State.evalSub
  extract_lets x1 x2 x3 x4 x5 x6 x7
  clear_value x1
  clear_value x2
  clear_value x3
  clear_value x4
  clear_value x6
  clear_value x7
  refine Keeps.ite ?_ ?_
  · exact Keeps.refl _ _
  · split
    · rename_i y8 y9
      exact Keeps.refl _ _
    · rename_i y10 y11 y12
      refine Keeps.ite ?_ ?_
      · refine Keeps.ite ?_ ?_
        · exact Keeps.refl _ _
        · refine Keeps.step ?_ (State.deliver_keeps _ _ _ _) rfl
          refine Keeps.step ?_ (State.setSub_keeps _ _ _) rfl
          exact Keeps.refl _ _
      · extract_lets x13
        clear_value x13
        split
        · rename_i y14 y15 y16 y17 y18 y19
          extract_lets x20
          clear_value x20
          refine Keeps.ite ?_ ?_
          · refine Keeps.step ?_ (State.deliver_keeps _ _ _ _) rfl
            refine Keeps.step ?_ (State.setSub_keeps _ _ _) rfl
            exact Keeps.refl _ _
          · refine Keeps.step ?_ (State.setSub_keeps _ _ _) rfl
            exact Keeps.refl _ _
        · rename_i y21 y22 y23
          refine Keeps.step ?_ (State.setSub_keeps _ _ _) rfl
          exact Keeps.refl _ _

theorem execNotifyEvaluation_keeps (s) : KeepsO 3014668 s (execNotifyEvaluation s) := by
  unfold execNotifyEvaluation
  refine KeepsO.next ?_
  refine Keeps.ite ?_ ?_
  · refine Keeps.each ?_ ?_
    · exact Keeps.refl _ _
    · intro a1 a2 a3
      refine Keeps.step ?_ (State.evalSub_keeps _ _) rfl
      assumption
  · exact Keeps.refl _ _

theorem execNotifyResend_keeps (z0) (s) : KeepsO 34471941 s (execNotifyResend z0 s) := by
  unfold execNotifyResend
  split
  · rename_i y1 y2
    refine KeepsO.next ?_
    exact Keeps.refl _ _
  · rename_i y3 y4 y5
    refine KeepsO.ite ?_ ?_
    · refine KeepsO.next ?_
      exact Keeps.refl _ _
    · extract_lets x6 x7 x8 x9
      have hx6 : Keeps 34471941 s x6 := by
        unfold x6
        refine Keeps.step ?_ (State.until__keeps _ _) rfl
        exact Keeps.refl _ _
      clear_value x6
      have hx9 : Keeps 34471941 s x9 := by
        unfold x9
        refine Keeps.sethop (m := 34471941) _ ?_ rfl
        assumption
      clear_value x9
      refine KeepsO.ite ?_ ?_
      · refine KeepsO.next ?_
        refine Keeps.step ?_ (State.loseNotify_keeps _ _ _) rfl
        refine Keeps.sethop (m := 34471941) _ ?_ rfl
        assumption
      · refine KeepsO.next ?_
        refine Keeps.step ?_ (State.sendNotify_keeps _ _) rfl
        refine Keeps.step ?_ (State.hlWork_keeps _) rfl
        assumption

end Sys2Proof.Machine
end

