-- ==== Sys2Proof/Laws/FootPolicy.lean ====
section
/-! SUPPORT. The footprints of the operations of Machine/Policy.lean. -/

namespace Sys2Proof.Machine

theorem State.steward_keeps {m : Nat} {s0 : State} (z0 : Sys2Proof.Machine.State) (z1 : Sys2Proof.Machine.State → Sys2Proof.Machine.State) (hz0 : Keeps m s0 z0) (hz1 : ∀ b0, Keeps m s0 b0 → Keeps m s0 (z1 b0)) (e : 33554432 &&& m = 33554432) : Keeps m s0 (State.steward z0 z1) := by
  unfold State.steward
  refine Keeps.ite ?_ ?_
  · refine hz1 _ ?_
    refine Keeps.step ?_ (State.hlWork_keeps _) (sub_mask rfl e)
    assumption
  · assumption

theorem State.adviseOn_keeps (s) (z1) (z2) (z3) (z4) (z5) (z6) (z7) (z8) : Keeps 1073741836 s (State.adviseOn s z1 z2 z3 z4 z5 z6 z7 z8) := by
  unfold State.adviseOn
  refine Keeps.ite ?_ ?_
  · exact Keeps.refl _ _
  · extract_lets x1 x2
    have hx1 : Keeps 1073741836 s x1 := by
      unfold x1
      refine Keeps.step ?_ (State.attn_keeps _ _) rfl
      refine Keeps.step ?_ (State.logDecision_keeps _ _ _ _ _ _ _ _ _ _) rfl
      exact Keeps.refl _ _
    clear_value x1
    refine Keeps.setstw (m := 1073741836) _ ?_ rfl
    assumption

theorem State.advise_keeps (s) (z1) (z2) (z3) (z4) (z5) (z6) (z7) : Keeps 1073741836 s (State.advise s z1 z2 z3 z4 z5 z6 z7) := by
  unfold State.advise
  refine Keeps.step ?_ (State.adviseOn_keeps _ _ _ _ _ _ _ _ _) rfl
  exact Keeps.refl _ _

theorem State.decideOn_keeps (s) (z1) (z2) (z3) (z4) (z5) : Keeps 1073741836 s (State.decideOn s z1 z2 z3 z4 z5) := by
  unfold State.decideOn
  extract_lets x1 x2
  clear_value x1
  clear_value x2
  refine Keeps.ite ?_ ?_
  · exact Keeps.refl _ _
  · split
    · rename_i y3 y4
      exact Keeps.refl _ _
    · rename_i y5 y6
      refine Keeps.step ?_ (State.advise_keeps _ _ _ _ _ _ _ _) rfl
      exact Keeps.refl _ _
    · rename_i y7 y8 y9
      refine Keeps.ite ?_ ?_
      · refine Keeps.step ?_ (State.logDecision_keeps _ _ _ _ _ _ _ _ _ _) rfl
        exact Keeps.refl _ _
      · refine Keeps.step ?_ (State.logDecision_keeps _ _ _ _ _ _ _ _ _ _) rfl
        refine Keeps.step ?_ (State.noteReason_keeps _ _) rfl
        refine Keeps.step ?_ (State.moveGoverned_keeps _ _ _) rfl
        exact Keeps.refl _ _

theorem State.powerDecide_keeps (s) (z1) (z2) : Keeps 1073741836 s (State.powerDecide s z1 z2) := by
  unfold State.powerDecide
  extract_lets x1 x2 x3 x4 x5
  clear_value x1
  clear_value x2
  clear_value x3
  clear_value x4
  clear_value x5
  refine Keeps.ite ?_ ?_
  · refine Keeps.step ?_ (State.decideOn_keeps _ _ _ _ _ _) rfl
    exact Keeps.refl _ _
  · refine Keeps.ite ?_ ?_
    · refine Keeps.step ?_ (State.decideOn_keeps _ _ _ _ _ _) rfl
      exact Keeps.refl _ _
    · refine Keeps.ite ?_ ?_
      · refine Keeps.step ?_ (State.decideOn_keeps _ _ _ _ _ _) rfl
        exact Keeps.refl _ _
      · exact Keeps.refl _ _

theorem execPolicyPower_keeps (z0) (z1) (s) : KeepsO 1107296268 s (execPolicyPower z0 z1 s) := by
  unfold execPolicyPower
  refine KeepsO.next ?_
  refine State.steward_keeps _ _ ?_ ?_ rfl
  · exact Keeps.refl _ _
  · intro a1 a2
    refine Keeps.step ?_ (State.powerDecide_keeps _ _ _) rfl
    assumption

theorem State.migDecide_keeps (s) (z1) (z2) (z3) : Keeps 1073741836 s (State.migDecide s z1 z2 z3) := by
  unfold State.migDecide
  extract_lets x1
  clear_value x1
  refine Keeps.ite ?_ ?_
  · refine Keeps.step ?_ (State.decideOn_keeps _ _ _ _ _ _) rfl
    exact Keeps.refl _ _
  · refine Keeps.ite ?_ ?_
    · refine Keeps.step ?_ (State.decideOn_keeps _ _ _ _ _ _) rfl
      exact Keeps.refl _ _
    · exact Keeps.refl _ _

theorem execPolicyMigration_keeps (z0) (z1) (z2) (s) : KeepsO 1107296268 s (execPolicyMigration z0 z1 z2 s) := by
  unfold execPolicyMigration
  refine KeepsO.next ?_
  refine State.steward_keeps _ _ ?_ ?_ rfl
  · exact Keeps.refl _ _
  · intro a1 a2
    refine Keeps.step ?_ (State.migDecide_keeps _ _ _ _) rfl
    assumption

theorem State.seedDecide_keeps (s) : Keeps 1073741836 s (State.seedDecide s) := by
  unfold State.seedDecide
  extract_lets x1 x2 x3 x4 x5 x6 x7
  clear_value x1
  clear_value x2
  clear_value x3
  clear_value x4
  have hx5 : Keeps 1073741836 s x5 := by
    unfold x5
    refine Keeps.ite ?_ ?_
    · refine Keeps.step ?_ (State.decideOn_keeps _ _ _ _ _ _) rfl
      exact Keeps.refl _ _
    · refine Keeps.ite ?_ ?_
      · refine Keeps.step ?_ (State.decideOn_keeps _ _ _ _ _ _) rfl
        exact Keeps.refl _ _
      · exact Keeps.refl _ _
  clear_value x5
  clear_value x6
  clear_value x7
  refine Keeps.ite ?_ ?_
  · refine Keeps.step ?_ (State.decideOn_keeps _ _ _ _ _ _) rfl
    assumption
  · assumption

theorem execPolicySeedbank_keeps (s) : KeepsO 1107296268 s (execPolicySeedbank s) := by
  unfold execPolicySeedbank
  refine KeepsO.next ?_
  refine State.steward_keeps _ _ ?_ ?_ rfl
  · exact Keeps.refl _ _
  · intro a1 a2
    refine Keeps.step ?_ (State.seedDecide_keeps _) rfl
    assumption

theorem State.escDecide_keeps (s) (z1) (z2) (z3) : Keeps 1073741836 s (State.escDecide s z1 z2 z3) := by
  unfold State.escDecide
  extract_lets x1 x2
  clear_value x1
  clear_value x2
  refine Keeps.ite ?_ ?_
  · exact Keeps.refl _ _
  · refine Keeps.ite ?_ ?_
    · refine Keeps.step ?_ (State.decideOn_keeps _ _ _ _ _ _) rfl
      exact Keeps.refl _ _
    · refine Keeps.ite ?_ ?_
      · refine Keeps.step ?_ (State.decideOn_keeps _ _ _ _ _ _) rfl
        exact Keeps.refl _ _
      · exact Keeps.refl _ _

theorem execPolicyFaultThreshold_keeps (z0) (s) : KeepsO 1107296268 s (execPolicyFaultThreshold z0 s) := by
  unfold execPolicyFaultThreshold
  refine KeepsO.next ?_
  refine State.steward_keeps _ _ ?_ ?_ rfl
  · exact Keeps.refl _ _
  · intro a1 a2
    refine Keeps.each ?_ ?_
    · assumption
    · intro a3 a4 a5
      refine Keeps.step ?_ (State.escDecide_keeps _ _ _ _) rfl
      assumption

theorem State.rotationDecide_keeps (s) (z1) (z2) : Keeps 1073741836 s (State.rotationDecide s z1 z2) := by
  unfold State.rotationDecide
  extract_lets x1 x2
  clear_value x1
  clear_value x2
  split
  · rename_i y3 y4
    refine Keeps.ite ?_ ?_
    · refine Keeps.step ?_ (State.decideOn_keeps _ _ _ _ _ _) rfl
      exact Keeps.refl _ _
    · exact Keeps.refl _ _
  · rename_i y5
    refine Keeps.ite ?_ ?_
    · refine Keeps.step ?_ (State.decideOn_keeps _ _ _ _ _ _) rfl
      exact Keeps.refl _ _
    · exact Keeps.refl _ _

theorem execPolicyRotation_keeps (z0) (z1) (s) : KeepsO 1107296268 s (execPolicyRotation z0 z1 s) := by
  unfold execPolicyRotation
  refine KeepsO.next ?_
  refine State.steward_keeps _ _ ?_ ?_ rfl
  · exact Keeps.refl _ _
  · intro a1 a2
    refine Keeps.step ?_ (State.rotationDecide_keeps _ _ _) rfl
    assumption

theorem State.portAct_keeps (s) (z1) (z2) (z3) : Keeps 1075838988 s (State.portAct s z1 z2 z3) := by
  unfold State.portAct
  extract_lets x1 x2 x3 x4 x5 x6 x7 x8 x9 x10 x11 x12
  clear_value x3
  clear_value x4
  clear_value x5
  have hx6 : Keeps 1075838988 s x6 := by
    unfold x6
    refine Keeps.step ?_ (State.retrainPort_keeps _ _) rfl
    exact Keeps.refl _ _
  clear_value x6
  have hx8 : Keeps 1075838988 s x8 := by
    unfold x8
    refine Keeps.step ?_ (State.setPort_keeps _ _ _) rfl
    assumption
  clear_value x8
  have hx12 : Keeps 1075838988 s x12 := by
    unfold x12
    refine Keeps.setstw (m := 1075838988) _ ?_ rfl
    assumption
  clear_value x12
  split
  · rename_i y13 y14
    exact Keeps.refl _ _
  · rename_i y15 y16
    refine Keeps.step ?_ (State.advise_keeps _ _ _ _ _ _ _ _) rfl
    exact Keeps.refl _ _
  · rename_i y17 y18 y19
    refine Keeps.step ?_ (State.logDecision_keeps _ _ _ _ _ _ _ _ _ _) rfl
    assumption

theorem State.portDecide_keeps (s) (z1) (z2) : Keeps 1075838988 s (State.portDecide s z1 z2) := by
  unfold State.portDecide
  extract_lets x1 x2 x3
  clear_value x2
  clear_value x3
  refine Keeps.ite ?_ ?_
  · exact Keeps.refl _ _
  · refine Keeps.ite ?_ ?_
    · refine Keeps.ite ?_ ?_
      · refine Keeps.step ?_ (State.portAct_keeps _ _ _ _) rfl
        exact Keeps.refl _ _
      · refine Keeps.step ?_ (State.portAct_keeps _ _ _ _) rfl
        exact Keeps.refl _ _
    · refine Keeps.ite ?_ ?_
      · refine Keeps.step ?_ (State.portAct_keeps _ _ _ _) rfl
        exact Keeps.refl _ _
      · exact Keeps.refl _ _

theorem State.linkDecide_keeps (s) (z1) : Keeps 1073741902 s (State.linkDecide s z1) := by
  unfold State.linkDecide
  refine Keeps.ite ?_ ?_
  · exact Keeps.refl _ _
  · extract_lets x1 x2 x3 x4 x5 x6
    have hx1 : KeepsN 1073741902 s x1 := by
      unfold x1
      refine KeepsN.step ?_ (State.draw_keeps _) rfl
      exact Keeps.refl _ _
    clear_value x1
    clear_value x2
    clear_value x3
    have hx4 : Keeps 1073741902 s x4 := by
      unfold x4
      refine KeepsN.snd ?_
      assumption
    have hx6 : Keeps 1073741902 s x6 := by
      unfold x6
      refine Keeps.setlink (m := 1073741902) _ ?_ rfl
      assumption
    clear_value x6
    split
    · rename_i y7 y8
      exact Keeps.refl _ _
    · rename_i y9 y10
      refine Keeps.step ?_ (State.adviseOn_keeps _ _ _ _ _ _ _ _ _) rfl
      refine KeepsN.snd ?_
      assumption
    · rename_i y11 y12 y13
      refine Keeps.ite ?_ ?_
      · exact Keeps.refl _ _
      · refine Keeps.step ?_ (State.logDecision_keeps _ _ _ _ _ _ _ _ _ _) rfl
        refine Keeps.step ?_ (State.bump_keeps _ _) rfl
        assumption

theorem State.linkPolicy_keeps (s) (z1) (z2) : Keeps 1075839054 s (State.linkPolicy s z1 z2) := by
  unfold State.linkPolicy
  refine Keeps.ite ?_ ?_
  · exact Keeps.refl _ _
  · refine Keeps.each ?_ ?_
    · refine Keeps.step ?_ (State.linkDecide_keeps _ _) rfl
      exact Keeps.refl _ _
    · intro a1 a2 a3
      refine Keeps.step ?_ (State.portDecide_keeps _ _ _) rfl
      assumption

theorem execPolicyLink_keeps (z0) (z1) (z2) (s) : KeepsO 1109393486 s (execPolicyLink z0 z1 z2 s) := by
  unfold execPolicyLink
  extract_lets x1
  have hx1 : Keeps 1109393486 s x1 := by
    unfold x1
    refine Keeps.ite ?_ ?_
    · refine Keeps.step ?_ (State.bumpBy_keeps _ _ _) rfl
      refine Keeps.step ?_ (State.bumpBy_keeps _ _ _) rfl
      exact Keeps.refl _ _
    · exact Keeps.refl _ _
  clear_value x1
  refine KeepsO.next ?_
  refine State.steward_keeps _ _ ?_ ?_ rfl
  · assumption
  · intro a2 a3
    refine Keeps.step ?_ (State.linkPolicy_keeps _ _ _) rfl
    assumption

theorem State.fallowAct_keeps (s) (z1) (z2) (z3) : Keeps 1107312652 s (State.fallowAct s z1 z2 z3) := by
  unfold State.fallowAct
  extract_lets x1 x2
  clear_value x1
  have hx2 : Keeps 1107312652 s x2 := by
    unfold x2
    refine Keeps.step ?_ (State.logDecision_keeps _ _ _ _ _ _ _ _ _ _) rfl
    exact Keeps.refl _ _
  clear_value x2
  refine Keeps.ite ?_ ?_
  · exact Keeps.refl _ _
  · split
    · rename_i y3 y4
      exact Keeps.refl _ _
    · rename_i y5 y6
      refine Keeps.step ?_ (State.advise_keeps _ _ _ _ _ _ _ _) rfl
      exact Keeps.refl _ _
    · rename_i y7 y8 y9
      refine Keeps.ite ?_ ?_
      · refine Keeps.step ?_ (State.logDecision_keeps _ _ _ _ _ _ _ _ _ _) rfl
        exact Keeps.refl _ _
      · refine Keeps.ite ?_ ?_
        · refine KeepsP.fst ?_
          refine KeepsP.step ?_ (State.pwrRequestOp_keeps _ _) rfl
          assumption
        · refine Keeps.ite ?_ ?_
          · refine Keeps.step ?_ (State.reqStatus_keeps _ _ _) rfl
            refine Keeps.step ?_ (State.wakeEvent_keeps _) rfl
            refine Keeps.step ?_ (State.setVal_keeps _ _ _) rfl
            assumption
          · refine Keeps.step ?_ (State.setVal_keeps _ _ _) rfl
            assumption

theorem State.fallowDecide_keeps (s) (z1) : Keeps 1107312653 s (State.fallowDecide s z1) := by
  unfold State.fallowDecide
  refine Keeps.ite ?_ ?_
  · exact Keeps.refl _ _
  · split
    · rename_i y1 y2
      refine Keeps.ite ?_ ?_
      · refine Keeps.step ?_ (State.fallowAct_keeps _ _ _ _) rfl
        exact Keeps.refl _ _
      · exact Keeps.refl _ _
    · rename_i y3 y4
      refine Keeps.ite ?_ ?_
      · exact Keeps.refl _ _
      · extract_lets x5 x6
        have hx5 : Keeps 1107312653 s x5 := by
          unfold x5
          refine Keeps.step ?_ (State.until__keeps _ _) rfl
          exact Keeps.refl _ _
        clear_value x5
        refine Keeps.ite ?_ ?_
        · refine Keeps.step ?_ (State.fallowAct_keeps _ _ _ _) rfl
          assumption
        · refine Keeps.setpwr (m := 1107312653) _ ?_ rfl
          assumption
    · rename_i y7 y8 y9
      exact Keeps.refl _ _

theorem execPolicyFallow_keeps (z0) (s) : KeepsO 1107312653 s (execPolicyFallow z0 s) := by
  unfold execPolicyFallow
  refine KeepsO.next ?_
  refine State.steward_keeps _ _ ?_ ?_ rfl
  · exact Keeps.refl _ _
  · intro a1 a2
    refine Keeps.step ?_ (State.fallowDecide_keeps _ _) rfl
    assumption

end Sys2Proof.Machine
end

