-- ==== Sys2Proof/Laws/FootHostReg.lean ====
section
/-! SUPPORT. The footprints of the operations of Machine/HostReg.lean. -/

namespace Sys2Proof.Machine

theorem State.takeWord_keeps (s) (z1) (z2) (z3) (z4) : KeepsP 2350 s (State.takeWord s z1 z2 z3 z4) := by
  unfold State.takeWord
  extract_lets x1
  clear_value x1
  refine KeepsP.ite ?_ ?_
  · refine KeepsP.mk ?_
    refine Keeps.setlatch (m := 2350) _ ?_ (kvPut_rises _ _ _) rfl
    exact Keeps.refl _ _
  · refine KeepsP.ite ?_ ?_
    · split
      · rename_i y2 y3 y4
        refine KeepsP.mk ?_
        refine Keeps.setlatch (m := 2350) _ ?_ (kvErase_rises _ _) rfl
        exact Keeps.refl _ _
      · rename_i y5 y6
        refine KeepsP.mk ?_
        exact Keeps.refl _ _
    · refine KeepsP.ite ?_ ?_
      · refine KeepsP.step ?_ (State.popTimeout_keeps _ _) rfl
        exact Keeps.refl _ _
      · refine KeepsP.ite ?_ ?_
        · refine KeepsP.step ?_ (State.readHotNext_keeps _ _) rfl
          exact Keeps.refl _ _
        · refine KeepsP.ite ?_ ?_
          · refine KeepsP.mk ?_
            refine KeepsN.snd ?_
            refine KeepsN.step ?_ (State.draw_keeps _) rfl
            exact Keeps.refl _ _
          · refine KeepsP.mk ?_
            exact Keeps.refl _ _

theorem State.gateReq_keeps (s) (z1) (z2) (z3) (z4) : KeepsP 33620380 s (State.gateReq s z1 z2 z3 z4) := by
  unfold State.gateReq
  refine KeepsP.ite ?_ ?_
  · refine KeepsP.step ?_ (State.serveGate_keeps _ _ _ _) rfl
    exact Keeps.refl _ _
  · refine KeepsP.step ?_ (State.admitReq_keeps _ _ _ _) rfl
    exact Keeps.refl _ _

theorem State.controlRead_keeps (s) (z1) (z2) : Keeps 33638846 s (State.controlRead s z1 z2) := by
  unfold State.controlRead
  extract_lets x1 x2 x3 x4
  have hx1 : KeepsP 33638846 s x1 := by
    unfold x1
    refine KeepsP.step ?_ (State.gateReq_keeps _ _ _ _ _) rfl
    exact Keeps.refl _ _
  clear_value x1
  have hx2 : KeepsP 33638846 s x2 := by
    unfold x2
    split
    · rename_i y5 y6 y7
      refine KeepsP.step ?_ (State.plotWindow_keeps _ _ _ _ _) rfl
      refine KeepsP.fst ?_
      assumption
    · rename_i y8 y9
      refine KeepsP.mk ?_
      refine KeepsP.fst ?_
      assumption
  clear_value x2
  have hx3 : Keeps 33638846 s x3 := by
    unfold x3
    refine KeepsP.fst ?_
    assumption
  have hx4 : KeepsP 33638846 s x4 := by
    unfold x4
    refine KeepsP.step ?_ (State.takeWord_keeps _ _ _ _ _) rfl
    assumption
  clear_value x4
  refine Keeps.ite ?_ ?_
  · refine KeepsP.fst ?_
    assumption
  · refine Keeps.ite ?_ ?_
    · refine KeepsP.fst ?_
      assumption
    · refine Keeps.ite ?_ ?_
      · refine Keeps.step ?_ (State.completeMarked_keeps _ _ _) rfl
        assumption
      · refine Keeps.ite ?_ ?_
        · refine Keeps.step ?_ (State.unsupported_keeps _ _ _) rfl
          refine Keeps.step ?_ (State.mmioErr_keeps _ _ _ _ _) rfl
          assumption
        · refine Keeps.step ?_ (State.answerWord_keeps _ _ _) rfl
          refine KeepsP.fst ?_
          assumption

theorem State.writeHdm_keeps (s) (z1) (z2) : Keeps 4104 s (State.writeHdm s z1 z2) := by
  unfold State.writeHdm
  extract_lets x1 x2 x3 x4 x5
  clear_value x1
  clear_value x2
  have hx3 : Keeps 4104 s x3 := by
    unfold x3
    refine Keeps.step ?_ (State.setRg_keeps _ _ _) rfl
    exact Keeps.refl _ _
  clear_value x3
  have hx5 : Keeps 4104 s x5 := by
    unfold x5
    refine Keeps.step ?_ (State.setRg_keeps _ _ _) rfl
    exact Keeps.refl _ _
  clear_value x5
  refine Keeps.ite ?_ ?_
  · refine Keeps.ite ?_ ?_
    · refine Keeps.setcoh (m := 4104) _ ?_ rfl
      assumption
    · refine Keeps.ite ?_ ?_
      · exact Keeps.refl _ _
      · refine Keeps.ite ?_ ?_
        · refine Keeps.setcoh (m := 4104) _ ?_ rfl
          assumption
        · refine Keeps.step ?_ (State.setRg_keeps _ _ _) rfl
          exact Keeps.refl _ _
  · refine Keeps.ite ?_ ?_
    · refine Keeps.step ?_ (State.setRg_keeps _ _ _) rfl
      exact Keeps.refl _ _
    · refine Keeps.ite ?_ ?_
      · refine Keeps.step ?_ (State.setRg_keeps _ _ _) rfl
        exact Keeps.refl _ _
      · refine Keeps.ite ?_ ?_
        · exact Keeps.refl _ _
        · refine Keeps.step ?_ (State.setRg_keeps _ _ _) rfl
          exact Keeps.refl _ _

theorem State.gateWrite_keeps (s) (z1) (z2) (z3) : Keeps 870449116 s (State.gateWrite s z1 z2 z3) := by
  unfold State.gateWrite
  refine Keeps.ite ?_ ?_
  · refine Keeps.step ?_ (State.writeStile_keeps _ _ _ _ _) rfl
    exact Keeps.refl _ _
  · refine Keeps.ite ?_ ?_
    · refine Keeps.step ?_ (State.writeCohWindow_keeps _ _ _ _) rfl
      exact Keeps.refl _ _
    · refine Keeps.ite ?_ ?_
      · refine Keeps.step ?_ (State.writeHdm_keeps _ _ _) rfl
        exact Keeps.refl _ _
      · split
        · rename_i y1
          refine Keeps.step ?_ (State.writeApertureMap_keeps _ _ _) rfl
          exact Keeps.refl _ _
        · rename_i y2
          extract_lets x3
          have hx3 : Keeps 870449116 s x3 := by
            unfold x3
            refine Keeps.ite ?_ ?_
            · refine Keeps.step ?_ (State.freezeBy_keeps _ _) rfl
              exact Keeps.refl _ _
            · exact Keeps.refl _ _
          clear_value x3
          refine Keeps.ite ?_ ?_
          · refine Keeps.step ?_ (State.leaveFrozen_keeps _) rfl
            assumption
          · assumption
        · rename_i y4
          refine Keeps.step ?_ (State.setRg_keeps _ _ _) rfl
          exact Keeps.refl _ _
        · rename_i y5
          refine Keeps.step ?_ (State.lineMoves_keeps _) rfl
          refine Keeps.step ?_ (State.clearCauses_keeps _ _ _) rfl
          exact Keeps.refl _ _
        · rename_i y6
          refine Keeps.step ?_ (State.lineMoves_keeps _) rfl
          refine Keeps.step ?_ (State.setRg_keeps _ _ _) rfl
          exact Keeps.refl _ _
        · rename_i y7
          refine Keeps.ite ?_ ?_
          · refine Keeps.step ?_ (State.valueErr_keeps _ _ _ _) rfl
            exact Keeps.refl _ _
          · refine Keeps.step ?_ (State.setRg_keeps _ _ _) rfl
            exact Keeps.refl _ _
        · rename_i y8
          refine Keeps.ite ?_ ?_
          · refine Keeps.step ?_ (State.rearmOp_keeps _) rfl
            exact Keeps.refl _ _
          · exact Keeps.refl _ _
        · rename_i y9 y10 y11 y12 y13 y14 y15 y16
          exact Keeps.refl _ _

theorem State.drillWrite_keeps (s) (z1) (z2) (z3) : Keeps 35782556 s (State.drillWrite s z1 z2 z3) := by
  unfold State.drillWrite
  refine Keeps.ite ?_ ?_
  · extract_lets x1 x2
    clear_value x1
    split
    · rename_i y3 y4
      refine Keeps.step ?_ (State.writeRowBind_keeps _ _ _ _) rfl
      exact Keeps.refl _ _
    · rename_i y5 y6
      refine Keeps.step ?_ (State.writeRowCtrl_keeps _ _ _ _) rfl
      exact Keeps.refl _ _
    · rename_i y7 y8
      refine Keeps.ite ?_ ?_
      · refine Keeps.step ?_ (State.kickOp_keeps _ _ _) rfl
        exact Keeps.refl _ _
      · exact Keeps.refl _ _
    · rename_i y9 y10
      refine Keeps.ite ?_ ?_
      · refine Keeps.step ?_ (State.setRow_keeps _ _ _) rfl
        exact Keeps.refl _ _
      · exact Keeps.refl _ _
    · rename_i y11 y12
      refine Keeps.step ?_ (State.writeRowQuota_keeps _ _ _ _) rfl
      exact Keeps.refl _ _
    · rename_i y13 y14
      refine Keeps.ite ?_ ?_
      · refine Keeps.step ?_ (State.setRow_keeps _ _ _) rfl
        exact Keeps.refl _ _
      · exact Keeps.refl _ _
    · rename_i y15 y16 y17 y18 y19 y20 y21
      refine Keeps.ite ?_ ?_
      · refine Keeps.step ?_ (State.writeRowDirect_keeps _ _ _ _ _) rfl
        exact Keeps.refl _ _
      · exact Keeps.refl _ _
  · refine Keeps.ite ?_ ?_
    · refine Keeps.ite ?_ ?_
      · refine Keeps.step ?_ (State.writeStileRx_keeps _ _ _) rfl
        exact Keeps.refl _ _
      · refine Keeps.ite ?_ ?_
        · refine Keeps.step ?_ (State.writeDrillTags_keeps _ _ _) rfl
          exact Keeps.refl _ _
        · exact Keeps.refl _ _
    · refine Keeps.step ?_ (State.writeHarrow_keeps _ _ _ _) rfl
      exact Keeps.refl _ _

theorem State.platWrite_keeps (s) (z1) (z2) (z3) : Keeps 94108 s (State.platWrite s z1 z2 z3) := by
  unfold State.platWrite
  extract_lets x1 x2 x3
  clear_value x1
  clear_value x2
  refine Keeps.ite ?_ ?_
  · split
    · rename_i y4 y5
      refine Keeps.step ?_ (State.writePctxCtrl_keeps _ _ _ _) rfl
      exact Keeps.refl _ _
    · rename_i y6 y7
      exact Keeps.refl _ _
    · rename_i y8 y9 y10
      refine Keeps.step ?_ (State.writePctxOther_keeps _ _ _ _ _) rfl
      exact Keeps.refl _ _
  · refine Keeps.ite ?_ ?_
    · exact Keeps.refl _ _
    · refine Keeps.ite ?_ ?_
      · refine Keeps.step ?_ (State.writeTmpl_keeps _ _ _ _ _) rfl
        exact Keeps.refl _ _
      · refine Keeps.ite ?_ ?_
        · refine Keeps.step ?_ (State.valueErr_keeps _ _ _ _) rfl
          exact Keeps.refl _ _
        · refine Keeps.ite ?_ ?_
          · refine Keeps.step ?_ (State.setRg_keeps _ _ _) rfl
            exact Keeps.refl _ _
          · refine Keeps.ite ?_ ?_
            · refine Keeps.step ?_ (State.writeMigWindow_keeps _ _ _ _ _) rfl
              exact Keeps.refl _ _
            · refine Keeps.ite ?_ ?_
              · refine Keeps.step ?_ (State.writePlatCtrl_keeps _ _ _) rfl
                exact Keeps.refl _ _
              · refine Keeps.ite ?_ ?_
                · refine Keeps.ite ?_ ?_
                  · refine Keeps.step ?_ (State.cmdSubmit_keeps _ _) rfl
                    exact Keeps.refl _ _
                  · exact Keeps.refl _ _
                · refine Keeps.ite ?_ ?_
                  · refine Keeps.ite ?_ ?_
                    · refine Keeps.setplat (m := 94108) _ ?_ rfl
                      exact Keeps.refl _ _
                    · exact Keeps.refl _ _
                  · refine Keeps.ite ?_ ?_
                    · refine Keeps.step ?_ (State.setRg_keeps _ _ _) rfl
                      exact Keeps.refl _ _
                    · refine Keeps.ite ?_ ?_
                      · refine Keeps.step ?_ (State.writeFaultRing_keeps _ _ _) rfl
                        exact Keeps.refl _ _
                      · refine Keeps.ite ?_ ?_
                        · refine Keeps.step ?_ (State.writeFaultCtrl_keeps _ _ _) rfl
                          exact Keeps.refl _ _
                        · refine Keeps.ite ?_ ?_
                          · refine Keeps.step ?_ (State.writeFaultHead_keeps _ _ _) rfl
                            exact Keeps.refl _ _
                          · refine Keeps.ite ?_ ?_
                            · refine Keeps.step ?_ (State.writeFaultRespond_keeps _ _ _) rfl
                              exact Keeps.refl _ _
                            · refine Keeps.ite ?_ ?_
                              · refine Keeps.step ?_ (State.writeFaultTarget_keeps _ _) rfl
                                exact Keeps.refl _ _
                              · refine Keeps.ite ?_ ?_
                                · refine Keeps.step ?_ (State.writeFaultRespondBatch_keeps _ _ _) rfl
                                  exact Keeps.refl _ _
                                · refine Keeps.ite ?_ ?_
                                  · refine Keeps.step ?_ (State.writeMigPool_keeps _ _ _) rfl
                                    exact Keeps.refl _ _
                                  · exact Keeps.refl _ _

theorem State.furrowWrite_keeps (s) (z1) (z2) (z3) : Keeps 35782556 s (State.furrowWrite s z1 z2 z3) := by
  unfold State.furrowWrite
  refine Keeps.ite ?_ ?_
  · extract_lets x1 x2
    clear_value x1
    split
    · rename_i y3 y4
      refine Keeps.step ?_ (State.writeFctxCtrl_keeps _ _ _) rfl
      exact Keeps.refl _ _
    · rename_i y5 y6
      refine Keeps.step ?_ (State.setFur_keeps _ _ _) rfl
      exact Keeps.refl _ _
    · rename_i y7 y8
      exact Keeps.refl _ _
    · rename_i y9 y10 y11 y12
      refine Keeps.step ?_ (State.writeFctx_keeps _ _ _ _ _) rfl
      exact Keeps.refl _ _
  · refine Keeps.ite ?_ ?_
    · refine Keeps.ite ?_ ?_
      · refine Keeps.step ?_ (State.valueErr_keeps _ _ _ _) rfl
        exact Keeps.refl _ _
      · refine Keeps.step ?_ (State.setRg_keeps _ _ _) rfl
        exact Keeps.refl _ _
    · exact Keeps.refl _ _

theorem State.stakeWrite_keeps (s) (z1) (z2) (z3) : Keeps 35782556 s (State.stakeWrite s z1 z2 z3) := by
  unfold State.stakeWrite
  refine Keeps.ite ?_ ?_
  · refine Keeps.step ?_ (State.settleStakes_keeps _) rfl
    refine Keeps.step ?_ (State.stakeSetOp_keeps _ _ _) rfl
    exact Keeps.refl _ _
  · refine Keeps.ite ?_ ?_
    · refine Keeps.step ?_ (State.settleStakes_keeps _) rfl
      refine Keeps.step ?_ (State.stakeAddOp_keeps _ _ _ _) rfl
      exact Keeps.refl _ _
    · refine Keeps.ite ?_ ?_
      · refine Keeps.step ?_ (State.writeStakeGroup_keeps _ _ _ _) rfl
        exact Keeps.refl _ _
      · refine Keeps.ite ?_ ?_
        · refine Keeps.step ?_ (State.cancelWait_keeps _ _ _) rfl
          exact Keeps.refl _ _
        · refine Keeps.ite ?_ ?_
          · refine Keeps.ite ?_ ?_
            · refine Keeps.setg (m := 35782556) _ ?_ id id rfl
              exact Keeps.refl _ _
            · exact Keeps.refl _ _
          · exact Keeps.refl _ _

theorem State.mirrorWrite_keeps (s) (z1) (z2) (z3) : Keeps 34275340 s (State.mirrorWrite s z1 z2 z3) := by
  unfold State.mirrorWrite
  refine Keeps.ite ?_ ?_
  · refine Keeps.ite ?_ ?_
    · refine Keeps.step ?_ (State.slotWrite_keeps _ _ _ _) rfl
      exact Keeps.refl _ _
    · exact Keeps.refl _ _
  · split
    · rename_i y1
      refine Keeps.setmir (m := 34275340) _ ?_ rfl
      exact Keeps.refl _ _
    · rename_i y2
      refine Keeps.step ?_ (State.setRg_keeps _ _ _) rfl
      exact Keeps.refl _ _
    · rename_i y3
      refine Keeps.setmir (m := 34275340) _ ?_ rfl
      exact Keeps.refl _ _
    · rename_i y4 y5 y6 y7
      exact Keeps.refl _ _

theorem State.plotWrite_keeps (s) (z1) (z2) (z3) : Keeps 35782556 s (State.plotWrite s z1 z2 z3) := by
  unfold State.plotWrite
  extract_lets x1
  clear_value x1
  split
  · rename_i y2 y3
    refine Keeps.step ?_ (State.modPlot_keeps _ _ _ (by first | exact fun _ h => h | exact fun _ _ => ⟨rfl, rfl⟩ | (intro x h; dsimp only; split <;> exact h) | (intro x h; split <;> exact h) | (intro x h; beta_reduce; split <;> exact h))) rfl
    exact Keeps.refl _ _
  · rename_i y4 y5
    refine Keeps.step ?_ (State.writeTilthSplit_keeps _ _ _ _) rfl
    exact Keeps.refl _ _
  · rename_i y6 y7
    refine Keeps.step ?_ (State.writePlotCtrl_keeps _ _ _) rfl
    exact Keeps.refl _ _
  · rename_i y8 y9
    refine Keeps.ite ?_ ?_
    · refine Keeps.step ?_ (State.modPlot_keeps _ _ _ (by first | exact fun _ h => h | exact fun _ _ => ⟨rfl, rfl⟩ | (intro x h; dsimp only; split <;> exact h) | (intro x h; split <;> exact h) | (intro x h; beta_reduce; split <;> exact h))) rfl
      exact Keeps.refl _ _
    · exact Keeps.refl _ _
  · rename_i y10 y11 y12 y13 y14
    exact Keeps.refl _ _

theorem State.writeReg_keeps (s) (z1) (z2) (z3) : Keeps 871104476 s (State.writeReg s z1 z2 z3) := by
  unfold State.writeReg
  refine Keeps.ite ?_ ?_
  · refine Keeps.step ?_ (State.gateWrite_keeps _ _ _ _) rfl
    exact Keeps.refl _ _
  · refine Keeps.ite ?_ ?_
    · refine Keeps.step ?_ (State.drillWrite_keeps _ _ _ _) rfl
      exact Keeps.refl _ _
    · refine Keeps.ite ?_ ?_
      · refine Keeps.step ?_ (State.platWrite_keeps _ _ _ _) rfl
        exact Keeps.refl _ _
      · refine Keeps.ite ?_ ?_
        · refine Keeps.step ?_ (State.furrowWrite_keeps _ _ _ _) rfl
          exact Keeps.refl _ _
        · refine Keeps.ite ?_ ?_
          · refine Keeps.step ?_ (State.stakeWrite_keeps _ _ _ _) rfl
            exact Keeps.refl _ _
          · refine Keeps.ite ?_ ?_
            · refine Keeps.step ?_ (State.mirrorWrite_keeps _ _ _ _) rfl
              exact Keeps.refl _ _
            · refine Keeps.ite ?_ ?_
              · refine Keeps.getD (fun a1 a2 => ?_) ?_
                · refine KeepsS.ofEq ?_ a2
                  refine KeepsS.step ?_ (State.writeCollector_keeps _ _ _ _) rfl
                  exact Keeps.refl _ _
                · exact Keeps.refl _ _
              · refine Keeps.step ?_ (State.plotWrite_keeps _ _ _ _) rfl
                exact Keeps.refl _ _

theorem State.bufferWrite_keeps (s) (z1) : Keeps 8 s (State.bufferWrite s z1) := by
  unfold State.bufferWrite
  refine KeepsP.fst ?_
  refine KeepsP.foldl ?_ ?_
  · refine KeepsP.mk ?_
    exact Keeps.refl _ _
  · intro a1 a2 a3
    refine KeepsP.mk ?_
    refine Keeps.ite ?_ ?_
    · refine Keeps.step ?_ (State.setRg_keeps _ _ _) rfl
      refine KeepsP.fst ?_
      assumption
    · refine KeepsP.fst ?_
      assumption

theorem State.recapture_keeps {m : Nat} {s0 : State} (z0 : Sys2Proof.Machine.State) (z1 : Sys2Proof.Machine.State) (z2 : Sys2Proof.MemReq) (hz0 : Keeps m s0 z0) (hz1 : Keeps m s0 z1) (e : 8 &&& m = 8) : Keeps m s0 (State.recapture z0 z1 z2) := by
  unfold State.recapture
  refine Keeps.ite ?_ ?_
  · refine Keeps.step ?_ (State.setRg_keeps _ _ _) (sub_mask rfl e)
    refine Keeps.step ?_ (State.setRg_keeps _ _ _) (sub_mask rfl e)
    assumption
  · assumption

theorem State.controlApply_keeps (s) (z1) : Keeps 871104476 s (State.controlApply s z1) := by
  unfold State.controlApply
  extract_lets x1 x2 x3 x4
  clear_value x1
  clear_value x2
  have hx3 : Keeps 871104476 s x3 := by
    unfold x3
    refine Keeps.step ?_ (State.mmioErr_keeps _ _ _ _ _) rfl
    exact Keeps.refl _ _
  clear_value x3
  have hx4 : Keeps 871104476 s x4 := by
    unfold x4
    refine Keeps.step ?_ (State.writeReg_keeps _ _ _ _) rfl
    exact Keeps.refl _ _
  clear_value x4
  refine Keeps.ite ?_ ?_
  · refine Keeps.step ?_ (State.bufferWrite_keeps _ _) rfl
    exact Keeps.refl _ _
  · refine Keeps.ite ?_ ?_
    · assumption
    · split
      · rename_i y5 y6
        refine Keeps.step ?_ (State.bump_keeps _ _) rfl
        exact Keeps.refl _ _
      · rename_i y7 y8
        refine Keeps.ite ?_ ?_
        · refine State.recapture_keeps _ _ _ ?_ ?_ rfl
          · exact Keeps.refl _ _
          · refine Keeps.step ?_ (State.writeReg_keeps _ _ _ _) rfl
            exact Keeps.refl _ _
        · assumption
      · rename_i y9 y10 y11
        refine Keeps.ite ?_ ?_
        · refine State.recapture_keeps _ _ _ ?_ ?_ rfl
          · exact Keeps.refl _ _
          · refine Keeps.ite ?_ ?_
            · refine Keeps.step ?_ (State.writeReg_keeps _ _ _ _) rfl
              assumption
            · assumption
        · refine Keeps.ite ?_ ?_
          · refine State.recapture_keeps _ _ _ ?_ ?_ rfl
            · exact Keeps.refl _ _
            · refine Keeps.step ?_ (State.writeReg_keeps _ _ _ _) rfl
              exact Keeps.refl _ _
          · refine Keeps.ite ?_ ?_
            · refine Keeps.step ?_ (State.bump_keeps _ _) rfl
              exact Keeps.refl _ _
            · refine Keeps.ite ?_ ?_
              · refine State.recapture_keeps _ _ _ ?_ ?_ rfl
                · exact Keeps.refl _ _
                · refine Keeps.step ?_ (State.writeReg_keeps _ _ _ _) rfl
                  exact Keeps.refl _ _
              · assumption

theorem State.controlWrite_keeps (s) (z1) (z2) : Keeps 871104476 s (State.controlWrite s z1 z2) := by
  unfold State.controlWrite
  extract_lets x1
  have hx1 : KeepsP 871104476 s x1 := by
    unfold x1
    refine KeepsP.step ?_ (State.gateReq_keeps _ _ _ _ _) rfl
    exact Keeps.refl _ _
  clear_value x1
  refine Keeps.ite ?_ ?_
  · refine KeepsP.fst ?_
    assumption
  · split
    · rename_i y2 y3 y4
      extract_lets x5
      have hx5 : KeepsP 871104476 s x5 := by
        unfold x5
        refine KeepsP.step ?_ (State.plotWindow_keeps _ _ _ _ _) rfl
        refine KeepsP.fst ?_
        assumption
      clear_value x5
      refine Keeps.ite ?_ ?_
      · refine Keeps.step ?_ (State.controlApply_keeps _ _) rfl
        refine KeepsP.fst ?_
        assumption
      · refine KeepsP.fst ?_
        assumption
    · rename_i y6 y7
      refine Keeps.step ?_ (State.controlApply_keeps _ _) rfl
      refine KeepsP.fst ?_
      assumption

theorem State.doorbellWrite_keeps (s) (z1) (z2) : Keeps 33685404 s (State.doorbellWrite s z1 z2) := by
  unfold State.doorbellWrite
  extract_lets x1 x2 x3 x4 x5
  have hx1 : KeepsP 33685404 s x1 := by
    unfold x1
    refine KeepsP.step ?_ (State.gateReq_keeps _ _ _ _ _) rfl
    exact Keeps.refl _ _
  clear_value x1
  have hx2 : Keeps 33685404 s x2 := by
    unfold x2
    refine KeepsP.fst ?_
    assumption
  clear_value x3
  clear_value x4
  clear_value x5
  refine Keeps.ite ?_ ?_
  · refine KeepsP.fst ?_
    assumption
  · refine Keeps.ite ?_ ?_
    · refine Keeps.ite ?_ ?_
      · refine Keeps.step ?_ (State.mmioErr_keeps _ _ _ _ _) rfl
        assumption
      · refine Keeps.step ?_ (State.tailOp_keeps _ _ _) rfl
        assumption
    · refine Keeps.ite ?_ ?_
      · refine Keeps.step ?_ (State.inlineOp_keeps _ _ _) rfl
        assumption
      · refine Keeps.step ?_ (State.mmioErr_keeps _ _ _ _ _) rfl
        assumption

theorem State.doorbellRead_keeps (s) (z1) (z2) : Keeps 33620380 s (State.doorbellRead s z1 z2) := by
  unfold State.doorbellRead
  extract_lets x1 x2 x3 x4
  have hx1 : KeepsP 33620380 s x1 := by
    unfold x1
    refine KeepsP.step ?_ (State.gateReq_keeps _ _ _ _ _) rfl
    exact Keeps.refl _ _
  clear_value x1
  have hx2 : Keeps 33620380 s x2 := by
    unfold x2
    refine KeepsP.fst ?_
    assumption
  clear_value x4
  refine Keeps.ite ?_ ?_
  · refine KeepsP.fst ?_
    assumption
  · refine Keeps.ite ?_ ?_
    · refine Keeps.step ?_ (State.answerWord_keeps _ _ _) rfl
      assumption
    · refine Keeps.step ?_ (State.completeMarked_keeps _ _ _) rfl
      assumption

theorem State.reachAp_keeps (s) (z1) (z2) (z3) (z4) : KeepsP 33640860 s (State.reachAp s z1 z2 z3 z4) := by
  unfold State.reachAp
  split
  · rename_i y1 y2
    extract_lets x3
    have hx3 : KeepsP 33640860 s x3 := by
      unfold x3
      refine KeepsP.step ?_ (State.cohAccess_keeps _ _ _ _) rfl
      exact Keeps.refl _ _
    clear_value x3
    refine KeepsP.ite ?_ ?_
    · assumption
    · refine KeepsP.mk ?_
      refine Keeps.step ?_ (State.holdRequest_keeps _ _ _ _ _) rfl
      refine KeepsP.fst ?_
      assumption
  · rename_i y4 y5 y6
    extract_lets x7
    have hx7 : KeepsP 33640860 s x7 := by
      unfold x7
      refine KeepsP.step ?_ (State.plotWindow_keeps _ _ _ _ _) rfl
      exact Keeps.refl _ _
    clear_value x7
    refine KeepsP.mk ?_
    refine Keeps.ite ?_ ?_
    · refine Keeps.step ?_ (State.modPlot_keeps _ _ _ (by first | exact fun _ h => h | exact fun _ _ => ⟨rfl, rfl⟩ | (intro x h; dsimp only; split <;> exact h) | (intro x h; split <;> exact h) | (intro x h; beta_reduce; split <;> exact h))) rfl
      refine KeepsP.fst ?_
      assumption
    · refine KeepsP.fst ?_
      assumption

theorem State.touchTilth_keeps (s) (z1) (z2) (z3) : Keeps 16386 s (State.touchTilth s z1 z2 z3) := by
  unfold State.touchTilth
  extract_lets x1 x2 x3
  clear_value x1
  have hx2 : Keeps 16386 s x2 := by
    unfold x2
    refine Keeps.step ?_ (State.modPlot_keeps _ _ _ (by first | exact fun _ h => h | exact fun _ _ => ⟨rfl, rfl⟩ | (intro x h; dsimp only; split <;> exact h) | (intro x h; split <;> exact h) | (intro x h; beta_reduce; split <;> exact h))) rfl
    exact Keeps.refl _ _
  clear_value x2
  have hx3 : KeepsN 16386 s x3 := by
    unfold x3
    refine KeepsN.step ?_ (State.draw_keeps _) rfl
    assumption
  clear_value x3
  refine Keeps.ite ?_ ?_
  · refine Keeps.step ?_ (State.modPlot_keeps _ _ _ (by first | exact fun _ h => h | exact fun _ _ => ⟨rfl, rfl⟩ | (intro x h; dsimp only; split <;> exact h) | (intro x h; split <;> exact h) | (intro x h; beta_reduce; split <;> exact h))) rfl
    refine KeepsN.snd ?_
    assumption
  · assumption

theorem State.putAp_keeps (s) (z1) (z2) (z3) : Keeps 33603714 s (State.putAp s z1 z2 z3) := by
  unfold State.putAp
  split
  · rename_i y1 y2
    refine Keeps.step ?_ (State.hbmWrite_keeps _ _ _ _) rfl
    exact Keeps.refl _ _
  · rename_i y3 y4 y5
    refine Keeps.step ?_ (State.touchTilth_keeps _ _ _ _) rfl
    refine Keeps.step ?_ (State.setTilth_keeps _ _ _ (by first | exact fun i => ⟨memWriteEn_wf _ _ _ (State.plot_wf i _).1, markWrite_wf _ _ _ _ (State.plot_wf i _).2⟩ | exact fun i => ⟨memZero_wf _ _ _ (State.plot_wf i _).1, memZero_wf _ _ _ (State.plot_wf i _).2⟩ | exact fun i => ⟨(State.plot_wf i _).1, by dsimp only; exact kvSet_wf _ _ _ (State.plot_wf i _).2⟩)) rfl
    exact Keeps.refl _ _

theorem State.getAp_keeps (s) (z1) (z2) : KeepsP 33587328 s (State.getAp s z1 z2) := by
  unfold State.getAp
  split
  · rename_i y1 y2
    extract_lets x3
    have hx3 : KeepsP 33587328 s x3 := by
      unfold x3
      refine KeepsP.step ?_ (State.hbmRead_keeps _ _ _) rfl
      exact Keeps.refl _ _
    clear_value x3
    refine KeepsP.mk ?_
    refine KeepsP.fst ?_
    assumption
  · rename_i y4 y5 y6
    refine KeepsP.mk ?_
    exact Keeps.refl _ _

theorem State.apertureReadOp_keeps (s) (z1) (z2) : Keeps 33673628 s (State.apertureReadOp s z1 z2) := by
  unfold State.apertureReadOp
  extract_lets x1
  have hx1 : KeepsP 33673628 s x1 := by
    unfold x1
    refine KeepsP.step ?_ (State.gateReq_keeps _ _ _ _ _) rfl
    exact Keeps.refl _ _
  clear_value x1
  refine Keeps.ite ?_ ?_
  · refine KeepsP.fst ?_
    assumption
  · refine Keeps.ite ?_ ?_
    · refine Keeps.step ?_ (State.unsupported_keeps _ _ _) rfl
      refine KeepsP.fst ?_
      assumption
    · split
      · rename_i y2 y3
        refine Keeps.step ?_ (State.unsupported_keeps _ _ _) rfl
        refine KeepsP.fst ?_
        assumption
      · rename_i y4 y5 y6
        extract_lets x7 x8
        have hx7 : KeepsP 33673628 s x7 := by
          unfold x7
          refine KeepsP.step ?_ (State.reachAp_keeps _ _ _ _ _) rfl
          refine KeepsP.fst ?_
          assumption
        clear_value x7
        have hx8 : KeepsP 33673628 s x8 := by
          unfold x8
          refine KeepsP.step ?_ (State.getAp_keeps _ _ _) rfl
          refine KeepsP.fst ?_
          assumption
        clear_value x8
        refine Keeps.ite ?_ ?_
        · refine KeepsP.fst ?_
          assumption
        · refine Keeps.step ?_ (State.completeMarked_keeps _ _ _) rfl
          refine KeepsP.fst ?_
          assumption

theorem State.apertureWriteOp_keeps (s) (z1) (z2) : Keeps 33673630 s (State.apertureWriteOp s z1 z2) := by
  unfold State.apertureWriteOp
  extract_lets x1
  have hx1 : KeepsP 33673630 s x1 := by
    unfold x1
    refine KeepsP.step ?_ (State.gateReq_keeps _ _ _ _ _) rfl
    exact Keeps.refl _ _
  clear_value x1
  refine Keeps.ite ?_ ?_
  · refine KeepsP.fst ?_
    assumption
  · refine Keeps.ite ?_ ?_
    · refine Keeps.step ?_ (State.malformed_keeps _ _) rfl
      refine KeepsP.fst ?_
      assumption
    · split
      · rename_i y2 y3
        refine Keeps.step ?_ (State.unsupported_keeps _ _ _) rfl
        refine KeepsP.fst ?_
        assumption
      · rename_i y4 y5 y6
        extract_lets x7 x8
        have hx7 : KeepsP 33673630 s x7 := by
          unfold x7
          refine KeepsP.step ?_ (State.reachAp_keeps _ _ _ _ _) rfl
          refine KeepsP.fst ?_
          assumption
        clear_value x7
        have hx8 : Keeps 33673630 s x8 := by
          unfold x8
          refine Keeps.ite ?_ ?_
          · refine Keeps.step ?_ (State.aer_keeps _ _ _ _) rfl
            refine KeepsP.fst ?_
            assumption
          · refine KeepsP.fst ?_
            assumption
        clear_value x8
        refine Keeps.ite ?_ ?_
        · refine KeepsP.fst ?_
          assumption
        · refine Keeps.step ?_ (State.putAp_keeps _ _ _ _) rfl
          assumption

theorem State.casOp_keeps (s) (z1) (z2) (z3) : Keeps 33685406 s (State.casOp s z1 z2 z3) := by
  unfold State.casOp
  extract_lets x1 x2 x3 x4 x5
  have hx1 : KeepsP 33685406 s x1 := by
    unfold x1
    refine KeepsP.step ?_ (State.gateReq_keeps _ _ _ _ _) rfl
    exact Keeps.refl _ _
  clear_value x1
  have hx2 : Keeps 33685406 s x2 := by
    unfold x2
    refine KeepsP.fst ?_
    assumption
  clear_value x3
  clear_value x4
  have hx5 : Keeps 33685406 s x5 := by
    unfold x5
    refine Keeps.ite ?_ ?_
    · refine Keeps.step ?_ (State.settleStakes_keeps _) rfl
      refine Keeps.step ?_ (State.putStake_keeps _ _ _) rfl
      assumption
    · refine Keeps.step ?_ (State.bump_keeps _ _) rfl
      assumption
  clear_value x5
  refine Keeps.ite ?_ ?_
  · refine KeepsP.fst ?_
    assumption
  · refine Keeps.ite ?_ ?_
    · refine Keeps.step ?_ (State.unsupported_keeps _ _ _) rfl
      assumption
    · refine Keeps.ite ?_ ?_
      · split
        · rename_i y6 y7
          refine Keeps.step ?_ (State.unsupported_keeps _ _ _) rfl
          assumption
        · rename_i y8 y9 y10
          extract_lets x11 x12 x13 x14
          have hx11 : KeepsP 33685406 s x11 := by
            unfold x11
            refine KeepsP.step ?_ (State.reachAp_keeps _ _ _ _ _) rfl
            assumption
          clear_value x11
          have hx12 : KeepsP 33685406 s x12 := by
            unfold x12
            refine KeepsP.step ?_ (State.getAp_keeps _ _ _) rfl
            refine KeepsP.fst ?_
            assumption
          clear_value x12
          clear_value x13
          have hx14 : Keeps 33685406 s x14 := by
            unfold x14
            refine Keeps.ite ?_ ?_
            · refine Keeps.step ?_ (State.putAp_keeps _ _ _ _) rfl
              refine KeepsP.fst ?_
              assumption
            · refine KeepsP.fst ?_
              assumption
          clear_value x14
          refine Keeps.ite ?_ ?_
          · refine KeepsP.fst ?_
            assumption
          · refine Keeps.step ?_ (State.completeMarked_keeps _ _ _) rfl
            assumption
      · refine Keeps.ite ?_ ?_
        · refine Keeps.step ?_ (State.completeData_keeps _ _ _ _) rfl
          assumption
        · refine Keeps.step ?_ (State.unsupported_keeps _ _ _) rfl
          assumption

theorem State.atomicAt_keeps (s) (z1) (z2) (z3) : Keeps 33685406 s (State.atomicAt s z1 z2 z3) := by
  unfold State.atomicAt
  refine Keeps.ite ?_ ?_
  · refine Keeps.step ?_ (State.casOp_keeps _ _ _ _) rfl
    exact Keeps.refl _ _
  · extract_lets x1
    have hx1 : KeepsP 33685406 s x1 := by
      unfold x1
      refine KeepsP.step ?_ (State.gateReq_keeps _ _ _ _ _) rfl
      exact Keeps.refl _ _
    clear_value x1
    refine Keeps.ite ?_ ?_
    · refine Keeps.step ?_ (State.unsupported_keeps _ _ _) rfl
      refine KeepsP.fst ?_
      assumption
    · refine KeepsP.fst ?_
      assumption

theorem State.readAt_keeps (s) (z1) (z2) (z3) : Keeps 33675710 s (State.readAt s z1 z2 z3) := by
  unfold State.readAt
  split
  · rename_i y1
    refine Keeps.step ?_ (State.controlRead_keeps _ _ _) rfl
    exact Keeps.refl _ _
  · rename_i y2
    refine Keeps.step ?_ (State.doorbellRead_keeps _ _ _) rfl
    exact Keeps.refl _ _
  · rename_i y3
    refine Keeps.step ?_ (State.apertureReadOp_keeps _ _ _) rfl
    exact Keeps.refl _ _
  · rename_i y4
    exact Keeps.refl _ _

theorem State.writeAt_keeps (s) (z1) (z2) (z3) : Keeps 871104478 s (State.writeAt s z1 z2 z3) := by
  unfold State.writeAt
  split
  · rename_i y1
    refine Keeps.step ?_ (State.controlWrite_keeps _ _ _) rfl
    exact Keeps.refl _ _
  · rename_i y2
    refine Keeps.step ?_ (State.doorbellWrite_keeps _ _ _) rfl
    exact Keeps.refl _ _
  · rename_i y3
    refine Keeps.step ?_ (State.apertureWriteOp_keeps _ _ _) rfl
    exact Keeps.refl _ _
  · rename_i y4
    exact Keeps.refl _ _

theorem State.atWindow_keeps {m : Nat} {s0 : State} (z0 : Sys2Proof.Machine.State) (z1 : Sys2Proof.MemReq) (z2 : Bool) (z3 : Sys2Proof.Window → Sys2Proof.MemReq → Sys2Proof.Machine.State) (z4 : Option (Sys2Proof.Window × ℕ)) (hz0 : Keeps m s0 z0) (hz3 : ∀ b0 b1, Keeps m s0 (z3 b0 b1)) (e : 65940 &&& m = 65940) : Keeps m s0 (State.atWindow z0 z1 z2 z3 z4) := by
  unfold State.atWindow
  split
  · rename_i y1 y2
    refine hz3 _ _
  · rename_i y3
    refine Keeps.step ?_ (State.noWindow_keeps _ _ _) (sub_mask rfl e)
    assumption

theorem State.hostRead_keeps (s) (z1) : Keeps 33675710 s (State.hostRead s z1) := by
  unfold State.hostRead
  extract_lets x1
  clear_value x1
  refine State.atWindow_keeps _ _ _ _ _ ?_ ?_ rfl
  · exact Keeps.refl _ _
  · intro a2 a3
    refine Keeps.step ?_ (State.readAt_keeps _ _ _ _) rfl
    exact Keeps.refl _ _

theorem State.hostWrite_keeps (s) (z1) : Keeps 871104478 s (State.hostWrite s z1) := by
  unfold State.hostWrite
  extract_lets x1
  clear_value x1
  refine State.atWindow_keeps _ _ _ _ _ ?_ ?_ rfl
  · exact Keeps.refl _ _
  · intro a2 a3
    refine Keeps.step ?_ (State.writeAt_keeps _ _ _ _) rfl
    exact Keeps.refl _ _

theorem State.hostAtomic_keeps (s) (z1) (z2) : Keeps 33685406 s (State.hostAtomic s z1 z2) := by
  unfold State.hostAtomic
  extract_lets x1
  clear_value x1
  refine State.atWindow_keeps _ _ _ _ _ ?_ ?_ rfl
  · exact Keeps.refl _ _
  · intro a2 a3
    refine Keeps.step ?_ (State.atomicAt_keeps _ _ _ _) rfl
    exact Keeps.refl _ _

theorem State.serveHeld_keeps (s) (z1) : Keeps 871104510 s (State.serveHeld s z1) := by
  unfold State.serveHeld
  extract_lets x1 x2 x3
  clear_value x1
  have hx2 : Keeps 871104510 s x2 := by
    unfold x2
    split
    · rename_i y4 y5 y6
      refine Keeps.step ?_ (State.cxlNow_keeps _ _) rfl
      exact Keeps.refl _ _
    · rename_i y7 y8
      refine Keeps.ite ?_ ?_
      · refine Keeps.step ?_ (State.writeAt_keeps _ _ _ _) rfl
        exact Keeps.refl _ _
      · refine Keeps.ite ?_ ?_
        · refine Keeps.step ?_ (State.atomicAt_keeps _ _ _ _) rfl
          exact Keeps.refl _ _
        · refine Keeps.step ?_ (State.readAt_keeps _ _ _ _) rfl
          exact Keeps.refl _ _
  clear_value x2
  refine Keeps.ite ?_ ?_
  · refine Keeps.setpwr (m := 871104510) _ ?_ rfl
    assumption
  · assumption

theorem State.serveHolds_keeps (s) : Keeps 871104510 s (State.serveHolds s) := by
  unfold State.serveHolds
  extract_lets x1 x2
  refine Keeps.each ?_ ?_
  · refine Keeps.setpwr (m := 871104510) _ ?_ rfl
    exact Keeps.refl _ _
  · intro a3 a4 a5
    refine Keeps.step ?_ (State.serveHeld_keeps _ _) rfl
    assumption

theorem State.lateRequest_keeps (s) (z1) : Keeps 33620380 s (State.lateRequest s z1) := by
  unfold State.lateRequest
  extract_lets x1 x2
  have hx2 : Keeps 33620380 s x2 := by
    unfold x2
    refine Keeps.setpwr (m := 33620380) _ ?_ rfl
    exact Keeps.refl _ _
  clear_value x2
  refine Keeps.step ?_ (State.bump_keeps _ _) rfl
  refine Keeps.step ?_ (State.mmioErr_keeps _ _ _ _ _) rfl
  refine Keeps.step ?_ (State.completerAbort_keeps _ _ _) rfl
  assumption

theorem execApertureRead_keeps (z0) (s) : KeepsO 33675710 s (execApertureRead z0 s) := by
  unfold execApertureRead
  refine KeepsO.next ?_
  refine Keeps.step ?_ (State.hostRead_keeps _ _) rfl
  exact Keeps.refl _ _

theorem execApertureWrite_keeps (z0) (s) : KeepsO 871104478 s (execApertureWrite z0 s) := by
  unfold execApertureWrite
  refine KeepsO.next ?_
  refine Keeps.step ?_ (State.hostWrite_keeps _ _) rfl
  exact Keeps.refl _ _

theorem execAtomicCas_keeps (z0) (z1) (z2) (z3) (z4) (s) : KeepsO 33685406 s (execAtomicCas z0 z1 z2 z3 z4 s) := by
  unfold execAtomicCas
  refine KeepsO.next ?_
  refine Keeps.step ?_ (State.hostAtomic_keeps _ _ _) rfl
  exact Keeps.refl _ _

theorem execRegisterWrite_keeps (z0) (s) : KeepsO 871104478 s (execRegisterWrite z0 s) := by
  unfold execRegisterWrite
  refine KeepsO.next ?_
  refine Keeps.step ?_ (State.hostWrite_keeps _ _) rfl
  exact Keeps.refl _ _

theorem execCounterLowRead_keeps (z0) (s) : KeepsO 33675710 s (execCounterLowRead z0 s) := by
  unfold execCounterLowRead
  refine KeepsO.next ?_
  refine Keeps.step ?_ (State.hostRead_keeps _ _) rfl
  exact Keeps.refl _ _

theorem execCounterHighRead_keeps (z0) (s) : KeepsO 33675710 s (execCounterHighRead z0 s) := by
  unfold execCounterHighRead
  refine KeepsO.next ?_
  refine Keeps.step ?_ (State.hostRead_keeps _ _) rfl
  exact Keeps.refl _ _

theorem execStakeToNext_keeps (z0) (s) : KeepsO 33675710 s (execStakeToNext z0 s) := by
  unfold execStakeToNext
  refine KeepsO.next ?_
  refine Keeps.step ?_ (State.hostRead_keeps _ _) rfl
  exact Keeps.refl _ _

theorem execMigHotNext_keeps (z0) (s) : KeepsO 33675710 s (execMigHotNext z0 s) := by
  unfold execMigHotNext
  refine KeepsO.next ?_
  refine Keeps.step ?_ (State.hostRead_keeps _ _) rfl
  exact Keeps.refl _ _

theorem execUnsupportedRequest_keeps (z0) (z1) (z2) (s) : KeepsO 871104510 s (execUnsupportedRequest z0 z1 z2 s) := by
  unfold execUnsupportedRequest
  refine KeepsO.ite ?_ ?_
  · refine KeepsO.next ?_
    exact Keeps.refl _ _
  · extract_lets x1
    have hx1 : ∀ a2, Keeps 871104510 s a2 → Keeps 871104510 s (x1 a2) := by
      unfold x1
      intro a3 a4
      refine Keeps.step ?_ (State.unsupported_keeps _ _ _) rfl
      refine Keeps.ite ?_ ?_
      · refine Keeps.step ?_ (State.poisonSeen_keeps _) rfl
        assumption
      · assumption
    clear_value x1
    split
    · rename_i y5
      refine KeepsO.next ?_
      refine Keeps.step ?_ (State.hostRead_keeps _ _) rfl
      exact Keeps.refl _ _
    · rename_i y6
      refine KeepsO.next ?_
      refine Keeps.ite ?_ ?_
      · exact Keeps.refl _ _
      · refine hx1 _ ?_
        exact Keeps.refl _ _
    · rename_i y7
      refine KeepsO.next ?_
      refine Keeps.ite ?_ ?_
      · exact Keeps.refl _ _
      · refine hx1 _ ?_
        exact Keeps.refl _ _
    · rename_i y8
      refine KeepsO.next ?_
      refine Keeps.ite ?_ ?_
      · refine Keeps.step ?_ (State.hostWrite_keeps _ _) rfl
        exact Keeps.refl _ _
      · refine Keeps.step ?_ (State.hostRead_keeps _ _) rfl
        exact Keeps.refl _ _
    · rename_i y9
      refine KeepsO.next ?_
      refine Keeps.step ?_ (State.hostAtomic_keeps _ _ _) rfl
      exact Keeps.refl _ _
    · rename_i y10
      refine KeepsO.next ?_
      refine Keeps.ite ?_ ?_
      · refine Keeps.step ?_ (State.hostWrite_keeps _ _) rfl
        exact Keeps.refl _ _
      · refine Keeps.step ?_ (State.hostRead_keeps _ _) rfl
        exact Keeps.refl _ _
    · rename_i y11
      refine KeepsO.next ?_
      refine hx1 _ ?_
      exact Keeps.refl _ _

theorem execWindowRequestLate_keeps (z0) (z1) (z2) (s) : KeepsO 871104511 s (execWindowRequestLate z0 z1 z2 s) := by
  unfold execWindowRequestLate
  split
  · rename_i y1 y2
    refine KeepsO.next ?_
    exact Keeps.refl _ _
  · rename_i y3 y4 y5
    refine KeepsO.ite ?_ ?_
    · refine KeepsO.next ?_
      refine Keeps.step ?_ (State.serveHolds_keeps _) rfl
      refine Keeps.step ?_ (State.lateRequest_keeps _ _) rfl
      refine Keeps.step ?_ (State.until__keeps _ _) rfl
      exact Keeps.refl _ _
    · refine KeepsO.next ?_
      refine Keeps.step ?_ (State.lateRequest_keeps _ _) rfl
      refine Keeps.step ?_ (State.until__keeps _ _) rfl
      exact Keeps.refl _ _

theorem execBisnpResponse_keeps (z0) (z1) (s) : KeepsO 871104510 s (execBisnpResponse z0 z1 s) := by
  unfold execBisnpResponse
  refine KeepsO.next ?_
  refine Keeps.step ?_ (State.serveHolds_keeps _) rfl
  refine Keeps.step ?_ (State.stileRetry_keeps _) rfl
  refine Keeps.step ?_ (State.bisnpDone_keeps _ _ _) rfl
  exact Keeps.refl _ _

end Sys2Proof.Machine
end

