-- ==== Sys2Proof/Laws/FootPromote.lean ====
section
/-! SUPPORT. The footprints of the operations of Machine/Promote.lean. -/

namespace Sys2Proof.Machine

theorem State.beginPromotion_keeps (s) : Keeps 2560 s (State.beginPromotion s) := by
  unfold State.beginPromotion
  split
  · rename_i y1 y2
    exact Keeps.refl _ _
  · rename_i y3 y4 y5 y6 y7
    refine Keeps.ite ?_ ?_
    · exact Keeps.refl _ _
    · refine Keeps.ite ?_ ?_
      · refine Keeps.step ?_ (State.listHot_keeps _) rfl
        refine Keeps.step ?_ (State.unlist_keeps _) rfl
        exact Keeps.refl _ _
      · split
        · rename_i y8 y9
          refine Keeps.ite ?_ ?_
          · exact Keeps.refl _ _
          · extract_lets x10 x11
            have hx10 : Keeps 2560 s x10 := by
              unfold x10
              refine Keeps.step ?_ (State.unlist_keeps _) rfl
              exact Keeps.refl _ _
            clear_value x10
            refine Keeps.step ?_ (State.listHot_keeps _) rfl
            refine Keeps.setmig (m := 2560) _ ?_ rfl
            assumption
        · rename_i y12 y13 y14
          extract_lets x15 x16
          have hx15 : Keeps 2560 s x15 := by
            unfold x15
            refine Keeps.step ?_ (State.listHot_keeps _) rfl
            refine Keeps.step ?_ (State.unlist_keeps _) rfl
            exact Keeps.refl _ _
          clear_value x15
          refine Keeps.step ?_ (State.ownCommand_keeps _ _) rfl
          refine Keeps.setmig (m := 2560) _ ?_ rfl
          assumption

theorem promoteLoop_keeps (z0) (s) : Keeps 94100 s (promoteLoop z0 s) := by
  induction z0 generalizing s with
  | zero =>
    unfold promoteLoop
    exact Keeps.refl _ _
  | succ n ih =>
    unfold promoteLoop
    split
    · rename_i y1 y2
      exact Keeps.refl _ _
    · rename_i y3 y4 y5
      refine Keeps.ite ?_ ?_
      · exact Keeps.refl _ _
      · extract_lets x6 x7 x8
        have hx6 : KeepsP 94100 s x6 := by
          unfold x6
          refine KeepsP.step ?_ (State.lookup_keeps _ _ _ _ _) rfl
          exact Keeps.refl _ _
        clear_value x6
        have hx7 : Keeps 94100 s x7 := by
          unfold x7
          refine KeepsP.fst ?_
          assumption
        split
        · rename_i y9 y10 y11 y12
          refine Keeps.step ?_ (ih _) rfl
          refine Keeps.setmig (m := 94100) _ ?_ rfl
          assumption
        · rename_i y13 y14
          refine Keeps.step ?_ (State.abandonPromotion_keeps _ _ _) rfl
          refine KeepsP.fst ?_
          assumption
        · rename_i y15 y16
          refine Keeps.ite ?_ ?_
          · refine Keeps.step ?_ (State.abandonPromotion_keeps _ _ _) rfl
            refine KeepsP.fst ?_
            assumption
          · refine KeepsP.fst ?_
            assumption

theorem execPromotion_keeps (z0) (s) : KeepsO 94100 s (execPromotion z0 s) := by
  unfold execPromotion
  split
  · rename_i y1 y2
    refine KeepsO.next ?_
    refine Keeps.step ?_ (State.beginPromotion_keeps _) rfl
    exact Keeps.refl _ _
  · rename_i y3 y4 y5
    refine KeepsO.ite ?_ ?_
    · refine KeepsO.next ?_
      exact Keeps.refl _ _
    · refine KeepsO.ite ?_ ?_
      · refine KeepsO.next ?_
        refine Keeps.step ?_ (State.abandonPromotion_keeps _ _ _) rfl
        exact Keeps.refl _ _
      · refine KeepsO.next ?_
        refine Keeps.step ?_ (promoteLoop_keeps _ _) rfl
        exact Keeps.refl _ _

theorem State.installOverlay_keeps (s) (z1) : Keeps 94100 s (State.installOverlay s z1) := by
  unfold State.installOverlay
  split
  · rename_i y1 y2
    refine Keeps.step ?_ (State.abandonPromotion_keeps _ _ _) rfl
    exact Keeps.refl _ _
  · rename_i y3 y4 y5
    refine Keeps.ite ?_ ?_
    · refine Keeps.step ?_ (State.abandonPromotion_keeps _ _ _) rfl
      exact Keeps.refl _ _
    · refine Keeps.step ?_ (State.ownCommand_keeps _ _) rfl
      refine Keeps.setmig (m := 94100) _ ?_ rfl
      exact Keeps.refl _ _

theorem State.copyRegion_keeps (s) (z1) (z2) (z3) : Keeps 33605764 s (State.copyRegion s z1 z2 z3) := by
  unfold State.copyRegion
  extract_lets x1 x2
  have hx1 : KeepsP 33605764 s x1 := by
    unfold x1
    refine KeepsP.step ?_ (readExt_keeps _ _ _ _) rfl
    exact Keeps.refl _ _
  clear_value x1
  have hx2 : Keeps 33605764 s x2 := by
    unfold x2
    refine Keeps.step ?_ (State.countAccess_keeps _ _ _ _) rfl
    refine Keeps.step ?_ (State.putMarked_keeps _ _ _) rfl
    refine KeepsP.fst ?_
    assumption
  clear_value x2
  refine Keeps.step ?_ (State.listHot_keeps _) rfl
  refine Keeps.step ?_ (State.bumpBy_keeps _ _ _) rfl
  refine Keeps.step ?_ (State.bumpBy_keeps _ _ _) rfl
  assumption

theorem execPromotionCopyDone_keeps (z0) (s) : KeepsO 33685405 s (execPromotionCopyDone z0 s) := by
  unfold execPromotionCopyDone
  split
  · rename_i y1 y2
    refine KeepsO.next ?_
    exact Keeps.refl _ _
  · rename_i y3 y4 y5
    extract_lets x6 x7 x8 x9
    have hx7 : KeepsP 33685405 s x7 := by
      unfold x7
      refine KeepsP.step ?_ (reachBuf_keeps _ _ _) rfl
      exact Keeps.refl _ _
    clear_value x7
    have hx8 : KeepsP 33685405 s x8 := by
      unfold x8
      refine KeepsP.step ?_ (State.reachOne_keeps _ _ _ _) rfl
      refine KeepsP.fst ?_
      assumption
    clear_value x8
    have hx9 : KeepsP 33685405 s x9 := by
      unfold x9
      refine KeepsP.step ?_ (State.hostAnswers_keeps _ _ _ _) rfl
      refine KeepsP.fst ?_
      assumption
    clear_value x9
    refine KeepsO.ite ?_ ?_
    · refine KeepsO.next ?_
      exact Keeps.refl _ _
    · split
      · rename_i y10 y11
        refine KeepsO.next ?_
        refine KeepsP.fst ?_
        assumption
      · rename_i y12 y13 y14 y15
        refine KeepsO.next ?_
        refine Keeps.step ?_ (State.abandonPromotion_keeps _ _ _) rfl
        refine KeepsP.fst ?_
        assumption
      · rename_i y16 y17
        refine KeepsO.ite ?_ ?_
        · refine KeepsO.next ?_
          refine KeepsP.fst ?_
          assumption
        · split
          · rename_i y18 y19 y20
            refine KeepsO.next ?_
            refine Keeps.step ?_ (State.abandonPromotion_keeps _ _ _) rfl
            refine KeepsP.fst ?_
            assumption
          · rename_i y21 y22
            refine KeepsO.next ?_
            refine Keeps.step ?_ (State.installOverlay_keeps _ _) rfl
            refine Keeps.step ?_ (State.copyRegion_keeps _ _ _ _) rfl
            refine KeepsP.fst ?_
            assumption

theorem State.cleanPage_keeps (s) (z1) (z2) : Keeps 512 s (State.cleanPage s z1 z2) := by
  unfold State.cleanPage
  extract_lets x1
  refine Keeps.step ?_ (State.putParcel_keeps _ _ _) rfl
  exact Keeps.refl _ _

theorem State.losePage_keeps (s) (z1) (z2) : Keeps 68100 s (State.losePage s z1 z2) := by
  unfold State.losePage
  extract_lets x1 x2
  have hx2 : Keeps 68100 s x2 := by
    unfold x2
    refine Keeps.setmig (m := 68100) _ ?_ rfl
    exact Keeps.refl _ _
  clear_value x2
  refine Keeps.step ?_ (State.bump_keeps _ _) rfl
  refine Keeps.step ?_ (State.raise_keeps _ _ _) rfl
  refine Keeps.step ?_ (State.cleanPage_keeps _ _ _) rfl
  assumption

theorem State.writePage_keeps (s) (z1) (z2) (z3) (z4) : KeepsP 33676180 s (State.writePage s z1 z2 z3 z4) := by
  unfold State.writePage
  extract_lets x1 x2 x3 x4
  clear_value x1
  have hx2 : KeepsP 33676180 s x2 := by
    unfold x2
    refine KeepsP.step ?_ (State.reachOne_keeps _ _ _ _) rfl
    exact Keeps.refl _ _
  clear_value x2
  have hx3 : KeepsP 33676180 s x3 := by
    unfold x3
    refine KeepsP.step ?_ (State.reachOne_keeps _ _ _ _) rfl
    refine KeepsP.fst ?_
    assumption
  clear_value x3
  have hx4 : KeepsP 33676180 s x4 := by
    unfold x4
    refine KeepsP.step ?_ (State.getMarked_keeps _ _ _) rfl
    refine KeepsP.fst ?_
    assumption
  clear_value x4
  refine KeepsP.ite ?_ ?_
  · refine KeepsP.mk ?_
    refine KeepsP.fst ?_
    assumption
  · split
    · rename_i y5 y6
      refine KeepsP.mk ?_
      refine KeepsP.fst ?_
      assumption
    · rename_i y7 y8 y9 y10
      refine KeepsP.mk ?_
      refine Keeps.step ?_ (State.losePage_keeps _ _ _) rfl
      refine KeepsP.fst ?_
      assumption
    · rename_i y11 y12
      refine KeepsP.mk ?_
      refine Keeps.step ?_ (State.bumpBy_keeps _ _ _) rfl
      refine Keeps.step ?_ (State.cleanPage_keeps _ _ _) rfl
      refine Keeps.step ?_ (State.putBytes_keeps _ _ _ _ _ _ _) rfl
      refine KeepsP.fst ?_
      assumption

theorem evictLoop_keeps (z0) (s) (z2) : Keeps 33685396 s (evictLoop z0 s z2) := by
  induction z0 generalizing s z2 with
  | zero =>
    unfold evictLoop
    exact Keeps.refl _ _
  | succ n ih =>
    unfold evictLoop
    extract_lets x1
    split
    · rename_i y2 y3
      exact Keeps.refl _ _
    · rename_i y4 y5 y6 y7
      refine Keeps.ite ?_ ?_
      · refine Keeps.step ?_ (ih _ _) rfl
        refine Keeps.step ?_ (State.losePage_keeps _ _ _) rfl
        exact Keeps.refl _ _
      · extract_lets x8
        have hx8 : KeepsP 33685396 s x8 := by
          unfold x8
          refine KeepsP.step ?_ (State.lookup_keeps _ _ _ _ _) rfl
          exact Keeps.refl _ _
        clear_value x8
        split
        · rename_i y9 y10 y11 y12
          extract_lets x13
          have hx13 : KeepsP 33685396 s x13 := by
            unfold x13
            refine KeepsP.step ?_ (State.writePage_keeps _ _ _ _ _) rfl
            refine KeepsP.fst ?_
            assumption
          clear_value x13
          refine Keeps.ite ?_ ?_
          · refine Keeps.step ?_ (ih _ _) rfl
            refine KeepsP.fst ?_
            assumption
          · refine KeepsP.fst ?_
            assumption
        · rename_i y14 y15
          refine Keeps.step ?_ (ih _ _) rfl
          refine Keeps.step ?_ (State.losePage_keeps _ _ _) rfl
          refine KeepsP.fst ?_
          assumption
        · rename_i y16 y17
          refine Keeps.ite ?_ ?_
          · refine Keeps.step ?_ (ih _ _) rfl
            refine Keeps.step ?_ (State.losePage_keeps _ _ _) rfl
            refine KeepsP.fst ?_
            assumption
          · refine KeepsP.fst ?_
            assumption

theorem State.evictEnd_keeps (s) (z1) : Keeps 94100 s (State.evictEnd s z1) := by
  unfold State.evictEnd
  extract_lets x1 x2 x3 x4 x5 x6
  have hx3 : Keeps 94100 s x3 := by
    unfold x3
    refine Keeps.step ?_ (State.recallSlots_keeps _ _) rfl
    refine Keeps.step ?_ (State.dropXlats_keeps _ _) rfl
    refine Keeps.step ?_ (State.putParcel_keeps _ _ _) rfl
    exact Keeps.refl _ _
  clear_value x3
  have hx6 : Keeps 94100 s x6 := by
    unfold x6
    refine Keeps.step (m' := 2560) (t := x3) ?_ (by constructor <;> first | exact fun b => Bool.noConfusion b | exact fun _ => rfl | exact rfl | exact Nat.le_refl _ | exact id) rfl
    assumption
  clear_value x6
  refine Keeps.ite ?_ ?_
  · exact Keeps.refl _ _
  · refine Keeps.step ?_ (State.bump_keeps _ _) rfl
    assumption

theorem execEviction_keeps (z0) (z1) (s) : KeepsO 33685396 s (execEviction z0 z1 s) := by
  unfold execEviction
  extract_lets x1 x2
  refine KeepsO.ite ?_ ?_
  · refine KeepsO.next ?_
    exact Keeps.refl _ _
  · refine KeepsO.ite ?_ ?_
    · refine KeepsO.next ?_
      exact Keeps.refl _ _
    · refine KeepsO.ite ?_ ?_
      · refine KeepsO.next ?_
        exact Keeps.refl _ _
      · refine KeepsO.next ?_
        refine Keeps.step ?_ (State.evictEnd_keeps _ _) rfl
        refine Keeps.step ?_ (evictLoop_keeps _ _ _) rfl
        refine Keeps.setmig (m := 33685396) _ ?_ rfl
        exact Keeps.refl _ _

end Sys2Proof.Machine
end

