-- ==== Sys2Proof/Laws/FootServe.lean ====
section
/-! SUPPORT. The footprints of the operations of Machine/Serve.lean. -/

namespace Sys2Proof.Machine

theorem State.askHeld_keeps (s) : Keeps 16384 s (State.askHeld s) := by
  unfold State.askHeld
  extract_lets x1
  clear_value x1
  refine Keeps.each ?_ ?_
  · exact Keeps.refl _ _
  · intro a2 a3 a4
    refine Keeps.ite ?_ ?_
    · refine Keeps.step ?_ (State.askPlot_keeps _ _) rfl
      assumption
    · assumption

theorem State.coreOn_keeps (s) : Keeps 39976860 s (State.coreOn s) := by
  unfold State.coreOn
  extract_lets x1 x2 x3
  have hx1 : Keeps 39976860 s x1 := by
    unfold x1
    refine Keeps.step ?_ (State.raiseIf_keeps _ _ _ _) rfl
    exact Keeps.refl _ _
  clear_value x1
  have hx3 : Keeps 39976860 s x3 := by
    unfold x3
    refine Keeps.setpwr (m := 39976860) _ ?_ rfl
    assumption
  clear_value x3
  refine Keeps.step ?_ (State.askHeld_keeps _) rfl
  refine Keeps.step ?_ (State.refreshPorts_keeps _) rfl
  assumption

theorem State.logRefused_keeps (s) : Keeps 33619980 s (State.logRefused s) := by
  unfold State.logRefused
  split
  · rename_i y1 y2
    exact Keeps.refl _ _
  · rename_i y3 y4 y5
    extract_lets x6 x7 x8 x9 x10 x11 x12 x13
    clear_value x6
    have hx7 : Keeps 33619980 s x7 := by
      unfold x7
      refine Keeps.each ?_ ?_
      · exact Keeps.refl _ _
      · intro a14 a15 a16
        refine Keeps.step ?_ (State.raise_keeps _ _ _) rfl
        assumption
    clear_value x7
    clear_value x8
    have hx9 : Keeps 33619980 s x9 := by
      unfold x9
      refine Keeps.step ?_ (State.setRg_keeps _ _ _) rfl
      assumption
    clear_value x9
    have hx10 : Keeps 33619980 s x10 := by
      unfold x10
      refine Keeps.ite ?_ ?_
      · refine Keeps.step ?_ (State.setRg_keeps _ _ _) rfl
        assumption
      · assumption
    clear_value x10
    have hx11 : Keeps 33619980 s x11 := by
      unfold x11
      refine Keeps.step ?_ (State.mmioCapture_keeps _ _ _ _ _) rfl
      refine Keeps.step ?_ (State.bumpBy_keeps _ _ _) rfl
      assumption
    clear_value x11
    have hx12 : Keeps 33619980 s x12 := by
      unfold x12
      refine Keeps.step ?_ (State.attn_keeps _ _) rfl
      assumption
    clear_value x12
    refine Keeps.setpwr (m := 33619980) _ ?_ rfl
    assumption

theorem State.backToTilled_keeps (s) : Keeps 871104510 s (State.backToTilled s) := by
  unfold State.backToTilled
  extract_lets x1 x2 x3
  have hx2 : Keeps 871104510 s x2 := by
    unfold x2
    refine Keeps.setpwr (m := 871104510) _ ?_ rfl
    exact Keeps.refl _ _
  clear_value x2
  have hx3 : Keeps 871104510 s x3 := by
    unfold x3
    refine Keeps.step ?_ (State.askHeld_keeps _) rfl
    refine Keeps.step ?_ (State.logRefused_keeps _) rfl
    assumption
  clear_value x3
  refine Keeps.step ?_ (State.serveHolds_keeps _) rfl
  refine Keeps.ite ?_ ?_
  · refine Keeps.step ?_ (State.applyRequest_keeps _) rfl
    assumption
  · refine Keeps.step ?_ (State.reqStatus_keeps _ _ _) rfl
    assumption

theorem execFallowEntryComplete_keeps (s) : KeepsO 871104510 s (execFallowEntryComplete s) := by
  unfold execFallowEntryComplete
  refine KeepsO.ite ?_ ?_
  · refine KeepsO.next ?_
    exact Keeps.refl _ _
  · refine KeepsO.next ?_
    refine Keeps.ite ?_ ?_
    · refine Keeps.step ?_ (State.backToTilled_keeps _) rfl
      exact Keeps.refl _ _
    · refine Keeps.step ?_ (State.enterFallow_keeps _) rfl
      exact Keeps.refl _ _

theorem execFallowWakeComplete_keeps (s) : KeepsO 1944846335 s (execFallowWakeComplete s) := by
  unfold execFallowWakeComplete
  refine KeepsO.ite ?_ ?_
  · refine KeepsO.next ?_
    exact Keeps.refl _ _
  · extract_lets x1 x2 x3 x4 x5 x6 x7 x8
    have hx1 : Keeps 1944846335 s x1 := by
      unfold x1
      refine Keeps.step ?_ (State.until__keeps _ _) rfl
      exact Keeps.refl _ _
    clear_value x1
    have hx3 : Keeps 1944846335 s x3 := by
      unfold x3
      refine Keeps.step ?_ (State.hlWork_keeps _) rfl
      refine Keeps.setpwr (m := 1944846335) _ ?_ rfl
      assumption
    clear_value x3
    have hx4 : Keeps 1944846335 s x4 := by
      unfold x4
      refine Keeps.step ?_ (State.coreOn_keeps _) rfl
      refine Keeps.step ?_ (State.logRefused_keeps _) rfl
      assumption
    clear_value x4
    have hx5 : Keeps 1944846335 s x5 := by
      unfold x5
      refine Keeps.ite ?_ ?_
      · refine Keeps.step ?_ (State.applyRequest_keeps _) rfl
        assumption
      · assumption
    clear_value x5
    have hx7 : Keeps 1944846335 s x7 := by
      unfold x7
      refine Keeps.setpwr (m := 1944846335) _ ?_ rfl
      assumption
    clear_value x7
    have hx8 : Keeps 1944846335 s x8 := by
      unfold x8
      refine Keeps.ite ?_ ?_
      · refine Keeps.step ?_ (State.fallowAct_keeps _ _ _ _) rfl
        assumption
      · assumption
    clear_value x8
    refine KeepsO.next ?_
    refine Keeps.step ?_ (State.serveHolds_keeps _) rfl
    assumption

theorem execHoldBufferTimeout_keeps (s) : KeepsO 33624469 s (execHoldBufferTimeout s) := by
  unfold execHoldBufferTimeout
  split
  · rename_i y1 y2
    refine KeepsO.next ?_
    exact Keeps.refl _ _
  · rename_i y3 y4 y5 y6
    refine KeepsO.ite ?_ ?_
    · refine KeepsO.next ?_
      exact Keeps.refl _ _
    · extract_lets x7 x8 x9
      have hx7 : Keeps 33624469 s x7 := by
        unfold x7
        refine Keeps.step ?_ (State.until__keeps _ _) rfl
        exact Keeps.refl _ _
      clear_value x7
      have hx9 : Keeps 33624469 s x9 := by
        unfold x9
        refine Keeps.setpwr (m := 33624469) _ ?_ rfl
        assumption
      clear_value x9
      refine KeepsO.next ?_
      split
      · rename_i y10 y11 y12
        refine Keeps.step ?_ (State.cxlRefuse_keeps _ _) rfl
        assumption
      · rename_i y13 y14
        refine Keeps.step ?_ (State.completerAbort_keeps _ _ _) rfl
        refine Keeps.ite ?_ ?_
        · refine Keeps.step ?_ (State.bump_keeps _ _) rfl
          assumption
        · assumption

theorem State.plotUp_keeps (s) (z1) : Keeps 871104510 s (State.plotUp s z1) := by
  unfold State.plotUp
  refine Keeps.step ?_ (State.serveHolds_keeps _) rfl
  refine Keeps.step ?_ (State.stileRetry_keeps _) rfl
  refine Keeps.step ?_ (State.noteSown_keeps _) rfl
  refine Keeps.step ?_ (State.plotReady_keeps _ _) rfl
  exact Keeps.refl _ _

theorem execPlotWakeComplete_keeps (z0) (s) : KeepsO 871104510 s (execPlotWakeComplete z0 s) := by
  unfold execPlotWakeComplete
  refine KeepsO.next ?_
  refine Keeps.ite ?_ ?_
  · refine Keeps.step ?_ (State.plotUp_keeps _ _) rfl
    exact Keeps.refl _ _
  · exact Keeps.refl _ _

theorem execResetComplete_keeps (z0) (s) : KeepsO 871104510 s (execResetComplete z0 s) := by
  unfold execResetComplete
  split
  · rename_i y1 y2
    refine KeepsO.next ?_
    refine Keeps.ite ?_ ?_
    · refine Keeps.step ?_ (State.plotUp_keeps _ _) rfl
      exact Keeps.refl _ _
    · exact Keeps.refl _ _
  · rename_i y3 y4
    refine KeepsO.next ?_
    refine Keeps.ite ?_ ?_
    · refine Keeps.step ?_ (State.releaseSources_keeps _ _) rfl
      refine Keeps.step ?_ (State.dieResetDone_keeps _ _) rfl
      exact Keeps.refl _ _
    · exact Keeps.refl _ _
  · rename_i y5 y6 y7
    refine KeepsO.next ?_
    exact Keeps.refl _ _

theorem execHbmTrainingDone_keeps (z0) (s) : KeepsO 871104511 s (execHbmTrainingDone z0 s) := by
  unfold execHbmTrainingDone
  refine KeepsO.ite ?_ ?_
  · refine KeepsO.next ?_
    exact Keeps.refl _ _
  · extract_lets x1
    have hx1 : Keeps 871104511 s x1 := by
      unfold x1
      refine Keeps.step ?_ (State.coreOn_keeps _) rfl
      refine Keeps.step ?_ (State.trainingDone_keeps _ _) rfl
      exact Keeps.refl _ _
    clear_value x1
    refine KeepsO.next ?_
    refine Keeps.step ?_ (State.serveHolds_keeps _) rfl
    refine Keeps.ite ?_ ?_
    · assumption
    · refine Keeps.step ?_ (State.applyRequest_keeps _) rfl
      assumption

theorem execD3hotExit_keeps (s) : KeepsO 871104510 s (execD3hotExit s) := by
  unfold execD3hotExit
  split
  · rename_i y1 y2
    refine KeepsO.next ?_
    exact Keeps.refl _ _
  · rename_i y3 y4
    refine KeepsO.next ?_
    refine Keeps.sethost (m := 871104510) _ ?_ id rfl
    exact Keeps.refl _ _
  · rename_i y5 y6 y7
    refine KeepsO.next ?_
    refine Keeps.step ?_ (State.serveHolds_keeps _) rfl
    refine Keeps.step ?_ (State.stileRetry_keeps _) rfl
    refine Keeps.step ?_ (State.cohGo_keeps _) rfl
    refine Keeps.step ?_ (State.assert_keeps _) rfl
    refine Keeps.step ?_ (State.drain_keeps _) rfl
    refine Keeps.sethost (m := 871104510) _ ?_ id rfl
    exact Keeps.refl _ _

end Sys2Proof.Machine
end

