-- ==== Sys2Proof/Laws/State.lean ====
section
/-! SUPPORT. State's named reads after its named updates: what each update writes, and that the others do not see it. -/

namespace Sys2Proof.Machine

/-! ### Dictionary values and counters -/

theorem State.val_setVal (s : State) (k k' v : Nat) (h : Rises s.od) :
    (s.setVal k v).val k' = if k' = k then v else s.val k' := by
  unfold State.val State.setVal
  dsimp only
  by_cases e : k' = k
  · subst e
    rw [kvGet_kvSet s.od k' k' v h]
  · rw [if_neg e]
    unfold kvGet kvSet
    split
    · rw [kvFind_kvErase s.od k k' 0 h, if_neg e]
    · rw [kvFind_kvPut_other s.od k k' v e]

theorem State.setVal_rises (s : State) (k v : Nat) (h : Rises s.od) : Rises (s.setVal k v).od := kvSet_rises _ _ _ _ h

/-- A counter counts modulo 2^64 (R216); `k` is not the overflow object of its own index. -/
theorem State.val_bumpBy (s : State) (k n : Nat) (h : Rises s.od) (hk : k % 256 ≠ 0xFE) :
    (s.bumpBy k n).val k = (s.val k + n) % 2 ^ 64 := by
  unfold State.bumpBy
  dsimp only
  split
  · rename_i lt
    rw [State.val_setVal _ _ _ _ h, if_pos rfl, Nat.mod_eq_of_lt lt]
  · rw [State.val_setVal _ _ _ _ (State.setVal_rises _ _ _ h), if_neg (by omega), State.val_setVal _ _ _ _ h, if_pos rfl]

/-- A counter's event leaves every other object alone but the overflow object of its index. -/
theorem State.val_bumpBy_other (s : State) (k k' n : Nat) (h : Rises s.od) (hk : k' ≠ k) (ho : k' ≠ k / 256 * 256 + 0xFE) :
    (s.bumpBy k n).val k' = s.val k' := by
  unfold State.bumpBy
  dsimp only
  split
  · rw [State.val_setVal _ _ _ _ h, if_neg hk]
  · rw [State.val_setVal _ _ _ _ (State.setVal_rises _ _ _ h), if_neg ho, State.val_setVal _ _ _ _ h, if_neg hk]

theorem State.bumpBy_rises (s : State) (k n : Nat) (h : Rises s.od) : Rises (s.bumpBy k n).od := by
  unfold State.bumpBy
  dsimp only
  split
  · exact State.setVal_rises _ _ _ h
  · exact State.setVal_rises _ _ _ (State.setVal_rises _ _ _ h)

theorem State.val_bump (s : State) (k : Nat) (h : Rises s.od) (hk : k % 256 ≠ 0xFE) : (s.bump k).val k = (s.val k + 1) % 2 ^ 64 :=
  State.val_bumpBy s k 1 h hk

/-! ### Control-window registers and configuration space -/

theorem State.rg_setRg (s : State) (a a' v : Nat) (h : Rises s.reg) : (s.setRg a v).rg a' = if a' = a then v else s.rg a' := by
  unfold State.rg State.setRg
  dsimp only
  by_cases e : a' = a
  · subst e
    rw [kvGet_kvSet s.reg a' a' v h]
  · rw [if_neg e]
    unfold kvGet kvSet
    split
    · rw [kvFind_kvErase s.reg a a' 0 h, if_neg e]
    · rw [kvFind_kvPut_other s.reg a a' v e]

theorem State.setRg_rises (s : State) (a v : Nat) (h : Rises s.reg) : Rises (s.setRg a v).reg := kvSet_rises _ _ _ _ h

theorem State.cfgv_setCfg (s : State) (a a' v : Nat) (h : Rises s.cfg) : (s.setCfg a v).cfgv a' = if a' = a then v else s.cfgv a' := by
  unfold State.cfgv State.setCfg
  dsimp only
  by_cases e : a' = a
  · subst e
    rw [kvGet_kvSet s.cfg a' a' v h]
  · rw [if_neg e]
    unfold kvGet kvSet
    split
    · rw [kvFind_kvErase s.cfg a a' 0 h, if_neg e]
    · rw [kvFind_kvPut_other s.cfg a a' v e]

/-! ### Engines and ports -/

theorem State.plot_setPlot (s : State) (n n' : Nat) (p : Plot) (h : Rises s.plots) : (s.setPlot n p).plot n' = if n' = n then p else s.plot n' :=
  kvGet_kvSet s.plots n n' p h

theorem State.plot_modPlot (s : State) (n n' : Nat) (f : Plot → Plot) (h : Rises s.plots) :
    (s.modPlot n f).plot n' = if n' = n then f (s.plot n) else s.plot n' := State.plot_setPlot s n n' _ h

theorem State.setPlot_rises (s : State) (n : Nat) (p : Plot) (h : Rises s.plots) : Rises (s.setPlot n p).plots := kvSet_rises _ _ _ _ h

theorem State.modPlot_rises (s : State) (n : Nat) (f : Plot → Plot) (h : Rises s.plots) : Rises (s.modPlot n f).plots :=
  kvSet_rises _ _ _ _ h

theorem State.fur_setFur (s : State) (n n' : Nat) (f : Furrow) (h : Rises s.g.furrows) : (s.setFur n f).fur n' = if n' = n then f else s.fur n' :=
  kvGet_kvSet s.g.furrows n n' f h

theorem State.row_setRow (s : State) (r r' : Nat) (x : Row) (h : Rises s.drill.rows) : (s.setRow r x).row r' = if r' = r then x else s.row r' :=
  kvGet_kvSet s.drill.rows r r' x h

theorem State.port_setPort (s : State) (p p' : Nat) (x : Port) (h : Rises s.fab.ports) : (s.setPort p x).port p' = if p' = p then x else s.port p' :=
  kvGet_kvSet s.fab.ports p p' x h

theorem State.src_setSrc (s : State) (n n' : Nat) (x : Src) (h : Rises s.fc.srcs) : (s.setSrc n x).src n' = if n' = n then x else s.src n' :=
  kvGet_kvSet s.fc.srcs n n' x h

/-! ### What the named updates leave alone -/

@[simp] theorem State.setVal_now (s : State) (k v : Nat) : (s.setVal k v).now = s.now := rfl
@[simp] theorem State.setVal_free (s : State) (k v : Nat) : (s.setVal k v).free = s.free := rfl
@[simp] theorem State.setVal_reg (s : State) (k v : Nat) : (s.setVal k v).reg = s.reg := rfl
@[simp] theorem State.setVal_cfg (s : State) (k v : Nat) : (s.setVal k v).cfg = s.cfg := rfl
@[simp] theorem State.setVal_latch (s : State) (k v : Nat) : (s.setVal k v).latch = s.latch := rfl
@[simp] theorem State.setVal_link (s : State) (k v : Nat) : (s.setVal k v).link = s.link := rfl
@[simp] theorem State.setVal_host (s : State) (k v : Nat) : (s.setVal k v).host = s.host := rfl
@[simp] theorem State.setVal_g (s : State) (k v : Nat) : (s.setVal k v).g = s.g := rfl
@[simp] theorem State.setVal_plat (s : State) (k v : Nat) : (s.setVal k v).plat = s.plat := rfl
@[simp] theorem State.setVal_flt (s : State) (k v : Nat) : (s.setVal k v).flt = s.flt := rfl
@[simp] theorem State.setVal_mig (s : State) (k v : Nat) : (s.setVal k v).mig = s.mig := rfl
@[simp] theorem State.setVal_coh (s : State) (k v : Nat) : (s.setVal k v).coh = s.coh := rfl
@[simp] theorem State.setVal_drill (s : State) (k v : Nat) : (s.setVal k v).drill = s.drill := rfl
@[simp] theorem State.setVal_plots (s : State) (k v : Nat) : (s.setVal k v).plots = s.plots := rfl
@[simp] theorem State.setVal_hbm (s : State) (k v : Nat) : (s.setVal k v).hbm = s.hbm := rfl
@[simp] theorem State.setVal_fc (s : State) (k v : Nat) : (s.setVal k v).fc = s.fc := rfl
@[simp] theorem State.setVal_dict (s : State) (k v : Nat) : (s.setVal k v).dict = s.dict := rfl
@[simp] theorem State.setVal_hop (s : State) (k v : Nat) : (s.setVal k v).hop = s.hop := rfl
@[simp] theorem State.setVal_mir (s : State) (k v : Nat) : (s.setVal k v).mir = s.mir := rfl
@[simp] theorem State.setVal_fw (s : State) (k v : Nat) : (s.setVal k v).fw = s.fw := rfl
@[simp] theorem State.setVal_fab (s : State) (k v : Nat) : (s.setVal k v).fab = s.fab := rfl
@[simp] theorem State.setVal_time (s : State) (k v : Nat) : (s.setVal k v).time = s.time := rfl
@[simp] theorem State.setVal_slice (s : State) (k v : Nat) : (s.setVal k v).slice = s.slice := rfl
@[simp] theorem State.setVal_mgr (s : State) (k v : Nat) : (s.setVal k v).mgr = s.mgr := rfl
@[simp] theorem State.setVal_pwr (s : State) (k v : Nat) : (s.setVal k v).pwr = s.pwr := rfl
@[simp] theorem State.setVal_cal (s : State) (k v : Nat) : (s.setVal k v).cal = s.cal := rfl
@[simp] theorem State.setVal_hl (s : State) (k v : Nat) : (s.setVal k v).hl = s.hl := rfl
@[simp] theorem State.setVal_seed (s : State) (k v : Nat) : (s.setVal k v).seed = s.seed := rfl
@[simp] theorem State.setVal_rot (s : State) (k v : Nat) : (s.setVal k v).rot = s.rot := rfl
@[simp] theorem State.setVal_stw (s : State) (k v : Nat) : (s.setVal k v).stw = s.stw := rfl
@[simp] theorem State.setVal_pending (s : State) (k v : Nat) : (s.setVal k v).pending = s.pending := rfl
@[simp] theorem State.setRg_now (s : State) (a v : Nat) : (s.setRg a v).now = s.now := rfl
@[simp] theorem State.setRg_free (s : State) (a v : Nat) : (s.setRg a v).free = s.free := rfl
@[simp] theorem State.setRg_od (s : State) (a v : Nat) : (s.setRg a v).od = s.od := rfl
@[simp] theorem State.setRg_cfg (s : State) (a v : Nat) : (s.setRg a v).cfg = s.cfg := rfl
@[simp] theorem State.setRg_latch (s : State) (a v : Nat) : (s.setRg a v).latch = s.latch := rfl
@[simp] theorem State.setRg_link (s : State) (a v : Nat) : (s.setRg a v).link = s.link := rfl
@[simp] theorem State.setRg_host (s : State) (a v : Nat) : (s.setRg a v).host = s.host := rfl
@[simp] theorem State.setRg_g (s : State) (a v : Nat) : (s.setRg a v).g = s.g := rfl
@[simp] theorem State.setRg_plat (s : State) (a v : Nat) : (s.setRg a v).plat = s.plat := rfl
@[simp] theorem State.setRg_flt (s : State) (a v : Nat) : (s.setRg a v).flt = s.flt := rfl
@[simp] theorem State.setRg_mig (s : State) (a v : Nat) : (s.setRg a v).mig = s.mig := rfl
@[simp] theorem State.setRg_coh (s : State) (a v : Nat) : (s.setRg a v).coh = s.coh := rfl
@[simp] theorem State.setRg_drill (s : State) (a v : Nat) : (s.setRg a v).drill = s.drill := rfl
@[simp] theorem State.setRg_plots (s : State) (a v : Nat) : (s.setRg a v).plots = s.plots := rfl
@[simp] theorem State.setRg_hbm (s : State) (a v : Nat) : (s.setRg a v).hbm = s.hbm := rfl
@[simp] theorem State.setRg_fc (s : State) (a v : Nat) : (s.setRg a v).fc = s.fc := rfl
@[simp] theorem State.setRg_dict (s : State) (a v : Nat) : (s.setRg a v).dict = s.dict := rfl
@[simp] theorem State.setRg_hop (s : State) (a v : Nat) : (s.setRg a v).hop = s.hop := rfl
@[simp] theorem State.setRg_mir (s : State) (a v : Nat) : (s.setRg a v).mir = s.mir := rfl
@[simp] theorem State.setRg_fw (s : State) (a v : Nat) : (s.setRg a v).fw = s.fw := rfl
@[simp] theorem State.setRg_fab (s : State) (a v : Nat) : (s.setRg a v).fab = s.fab := rfl
@[simp] theorem State.setRg_time (s : State) (a v : Nat) : (s.setRg a v).time = s.time := rfl
@[simp] theorem State.setRg_slice (s : State) (a v : Nat) : (s.setRg a v).slice = s.slice := rfl
@[simp] theorem State.setRg_mgr (s : State) (a v : Nat) : (s.setRg a v).mgr = s.mgr := rfl
@[simp] theorem State.setRg_pwr (s : State) (a v : Nat) : (s.setRg a v).pwr = s.pwr := rfl
@[simp] theorem State.setRg_cal (s : State) (a v : Nat) : (s.setRg a v).cal = s.cal := rfl
@[simp] theorem State.setRg_hl (s : State) (a v : Nat) : (s.setRg a v).hl = s.hl := rfl
@[simp] theorem State.setRg_seed (s : State) (a v : Nat) : (s.setRg a v).seed = s.seed := rfl
@[simp] theorem State.setRg_rot (s : State) (a v : Nat) : (s.setRg a v).rot = s.rot := rfl
@[simp] theorem State.setRg_stw (s : State) (a v : Nat) : (s.setRg a v).stw = s.stw := rfl
@[simp] theorem State.setRg_pending (s : State) (a v : Nat) : (s.setRg a v).pending = s.pending := rfl
@[simp] theorem State.setCfg_now (s : State) (a v : Nat) : (s.setCfg a v).now = s.now := rfl
@[simp] theorem State.setCfg_free (s : State) (a v : Nat) : (s.setCfg a v).free = s.free := rfl
@[simp] theorem State.setCfg_od (s : State) (a v : Nat) : (s.setCfg a v).od = s.od := rfl
@[simp] theorem State.setCfg_reg (s : State) (a v : Nat) : (s.setCfg a v).reg = s.reg := rfl
@[simp] theorem State.setCfg_latch (s : State) (a v : Nat) : (s.setCfg a v).latch = s.latch := rfl
@[simp] theorem State.setCfg_link (s : State) (a v : Nat) : (s.setCfg a v).link = s.link := rfl
@[simp] theorem State.setCfg_host (s : State) (a v : Nat) : (s.setCfg a v).host = s.host := rfl
@[simp] theorem State.setCfg_g (s : State) (a v : Nat) : (s.setCfg a v).g = s.g := rfl
@[simp] theorem State.setCfg_plat (s : State) (a v : Nat) : (s.setCfg a v).plat = s.plat := rfl
@[simp] theorem State.setCfg_flt (s : State) (a v : Nat) : (s.setCfg a v).flt = s.flt := rfl
@[simp] theorem State.setCfg_mig (s : State) (a v : Nat) : (s.setCfg a v).mig = s.mig := rfl
@[simp] theorem State.setCfg_coh (s : State) (a v : Nat) : (s.setCfg a v).coh = s.coh := rfl
@[simp] theorem State.setCfg_drill (s : State) (a v : Nat) : (s.setCfg a v).drill = s.drill := rfl
@[simp] theorem State.setCfg_plots (s : State) (a v : Nat) : (s.setCfg a v).plots = s.plots := rfl
@[simp] theorem State.setCfg_hbm (s : State) (a v : Nat) : (s.setCfg a v).hbm = s.hbm := rfl
@[simp] theorem State.setCfg_fc (s : State) (a v : Nat) : (s.setCfg a v).fc = s.fc := rfl
@[simp] theorem State.setCfg_dict (s : State) (a v : Nat) : (s.setCfg a v).dict = s.dict := rfl
@[simp] theorem State.setCfg_hop (s : State) (a v : Nat) : (s.setCfg a v).hop = s.hop := rfl
@[simp] theorem State.setCfg_mir (s : State) (a v : Nat) : (s.setCfg a v).mir = s.mir := rfl
@[simp] theorem State.setCfg_fw (s : State) (a v : Nat) : (s.setCfg a v).fw = s.fw := rfl
@[simp] theorem State.setCfg_fab (s : State) (a v : Nat) : (s.setCfg a v).fab = s.fab := rfl
@[simp] theorem State.setCfg_time (s : State) (a v : Nat) : (s.setCfg a v).time = s.time := rfl
@[simp] theorem State.setCfg_slice (s : State) (a v : Nat) : (s.setCfg a v).slice = s.slice := rfl
@[simp] theorem State.setCfg_mgr (s : State) (a v : Nat) : (s.setCfg a v).mgr = s.mgr := rfl
@[simp] theorem State.setCfg_pwr (s : State) (a v : Nat) : (s.setCfg a v).pwr = s.pwr := rfl
@[simp] theorem State.setCfg_cal (s : State) (a v : Nat) : (s.setCfg a v).cal = s.cal := rfl
@[simp] theorem State.setCfg_hl (s : State) (a v : Nat) : (s.setCfg a v).hl = s.hl := rfl
@[simp] theorem State.setCfg_seed (s : State) (a v : Nat) : (s.setCfg a v).seed = s.seed := rfl
@[simp] theorem State.setCfg_rot (s : State) (a v : Nat) : (s.setCfg a v).rot = s.rot := rfl
@[simp] theorem State.setCfg_stw (s : State) (a v : Nat) : (s.setCfg a v).stw = s.stw := rfl
@[simp] theorem State.setCfg_pending (s : State) (a v : Nat) : (s.setCfg a v).pending = s.pending := rfl
@[simp] theorem State.setPlot_now (s : State) (n : Nat) (p : Plot) : (s.setPlot n p).now = s.now := rfl
@[simp] theorem State.setPlot_free (s : State) (n : Nat) (p : Plot) : (s.setPlot n p).free = s.free := rfl
@[simp] theorem State.setPlot_od (s : State) (n : Nat) (p : Plot) : (s.setPlot n p).od = s.od := rfl
@[simp] theorem State.setPlot_reg (s : State) (n : Nat) (p : Plot) : (s.setPlot n p).reg = s.reg := rfl
@[simp] theorem State.setPlot_cfg (s : State) (n : Nat) (p : Plot) : (s.setPlot n p).cfg = s.cfg := rfl
@[simp] theorem State.setPlot_latch (s : State) (n : Nat) (p : Plot) : (s.setPlot n p).latch = s.latch := rfl
@[simp] theorem State.setPlot_link (s : State) (n : Nat) (p : Plot) : (s.setPlot n p).link = s.link := rfl
@[simp] theorem State.setPlot_host (s : State) (n : Nat) (p : Plot) : (s.setPlot n p).host = s.host := rfl
@[simp] theorem State.setPlot_g (s : State) (n : Nat) (p : Plot) : (s.setPlot n p).g = s.g := rfl
@[simp] theorem State.setPlot_plat (s : State) (n : Nat) (p : Plot) : (s.setPlot n p).plat = s.plat := rfl
@[simp] theorem State.setPlot_flt (s : State) (n : Nat) (p : Plot) : (s.setPlot n p).flt = s.flt := rfl
@[simp] theorem State.setPlot_mig (s : State) (n : Nat) (p : Plot) : (s.setPlot n p).mig = s.mig := rfl
@[simp] theorem State.setPlot_coh (s : State) (n : Nat) (p : Plot) : (s.setPlot n p).coh = s.coh := rfl
@[simp] theorem State.setPlot_drill (s : State) (n : Nat) (p : Plot) : (s.setPlot n p).drill = s.drill := rfl
@[simp] theorem State.setPlot_hbm (s : State) (n : Nat) (p : Plot) : (s.setPlot n p).hbm = s.hbm := rfl
@[simp] theorem State.setPlot_fc (s : State) (n : Nat) (p : Plot) : (s.setPlot n p).fc = s.fc := rfl
@[simp] theorem State.setPlot_dict (s : State) (n : Nat) (p : Plot) : (s.setPlot n p).dict = s.dict := rfl
@[simp] theorem State.setPlot_hop (s : State) (n : Nat) (p : Plot) : (s.setPlot n p).hop = s.hop := rfl
@[simp] theorem State.setPlot_mir (s : State) (n : Nat) (p : Plot) : (s.setPlot n p).mir = s.mir := rfl
@[simp] theorem State.setPlot_fw (s : State) (n : Nat) (p : Plot) : (s.setPlot n p).fw = s.fw := rfl
@[simp] theorem State.setPlot_fab (s : State) (n : Nat) (p : Plot) : (s.setPlot n p).fab = s.fab := rfl
@[simp] theorem State.setPlot_time (s : State) (n : Nat) (p : Plot) : (s.setPlot n p).time = s.time := rfl
@[simp] theorem State.setPlot_slice (s : State) (n : Nat) (p : Plot) : (s.setPlot n p).slice = s.slice := rfl
@[simp] theorem State.setPlot_mgr (s : State) (n : Nat) (p : Plot) : (s.setPlot n p).mgr = s.mgr := rfl
@[simp] theorem State.setPlot_pwr (s : State) (n : Nat) (p : Plot) : (s.setPlot n p).pwr = s.pwr := rfl
@[simp] theorem State.setPlot_cal (s : State) (n : Nat) (p : Plot) : (s.setPlot n p).cal = s.cal := rfl
@[simp] theorem State.setPlot_hl (s : State) (n : Nat) (p : Plot) : (s.setPlot n p).hl = s.hl := rfl
@[simp] theorem State.setPlot_seed (s : State) (n : Nat) (p : Plot) : (s.setPlot n p).seed = s.seed := rfl
@[simp] theorem State.setPlot_rot (s : State) (n : Nat) (p : Plot) : (s.setPlot n p).rot = s.rot := rfl
@[simp] theorem State.setPlot_stw (s : State) (n : Nat) (p : Plot) : (s.setPlot n p).stw = s.stw := rfl
@[simp] theorem State.setPlot_pending (s : State) (n : Nat) (p : Plot) : (s.setPlot n p).pending = s.pending := rfl
@[simp] theorem State.modPlot_now (s : State) (n : Nat) (f : Plot → Plot) : (s.modPlot n f).now = s.now := rfl
@[simp] theorem State.modPlot_free (s : State) (n : Nat) (f : Plot → Plot) : (s.modPlot n f).free = s.free := rfl
@[simp] theorem State.modPlot_od (s : State) (n : Nat) (f : Plot → Plot) : (s.modPlot n f).od = s.od := rfl
@[simp] theorem State.modPlot_reg (s : State) (n : Nat) (f : Plot → Plot) : (s.modPlot n f).reg = s.reg := rfl
@[simp] theorem State.modPlot_cfg (s : State) (n : Nat) (f : Plot → Plot) : (s.modPlot n f).cfg = s.cfg := rfl
@[simp] theorem State.modPlot_latch (s : State) (n : Nat) (f : Plot → Plot) : (s.modPlot n f).latch = s.latch := rfl
@[simp] theorem State.modPlot_link (s : State) (n : Nat) (f : Plot → Plot) : (s.modPlot n f).link = s.link := rfl
@[simp] theorem State.modPlot_host (s : State) (n : Nat) (f : Plot → Plot) : (s.modPlot n f).host = s.host := rfl
@[simp] theorem State.modPlot_g (s : State) (n : Nat) (f : Plot → Plot) : (s.modPlot n f).g = s.g := rfl
@[simp] theorem State.modPlot_plat (s : State) (n : Nat) (f : Plot → Plot) : (s.modPlot n f).plat = s.plat := rfl
@[simp] theorem State.modPlot_flt (s : State) (n : Nat) (f : Plot → Plot) : (s.modPlot n f).flt = s.flt := rfl
@[simp] theorem State.modPlot_mig (s : State) (n : Nat) (f : Plot → Plot) : (s.modPlot n f).mig = s.mig := rfl
@[simp] theorem State.modPlot_coh (s : State) (n : Nat) (f : Plot → Plot) : (s.modPlot n f).coh = s.coh := rfl
@[simp] theorem State.modPlot_drill (s : State) (n : Nat) (f : Plot → Plot) : (s.modPlot n f).drill = s.drill := rfl
@[simp] theorem State.modPlot_hbm (s : State) (n : Nat) (f : Plot → Plot) : (s.modPlot n f).hbm = s.hbm := rfl
@[simp] theorem State.modPlot_fc (s : State) (n : Nat) (f : Plot → Plot) : (s.modPlot n f).fc = s.fc := rfl
@[simp] theorem State.modPlot_dict (s : State) (n : Nat) (f : Plot → Plot) : (s.modPlot n f).dict = s.dict := rfl
@[simp] theorem State.modPlot_hop (s : State) (n : Nat) (f : Plot → Plot) : (s.modPlot n f).hop = s.hop := rfl
@[simp] theorem State.modPlot_mir (s : State) (n : Nat) (f : Plot → Plot) : (s.modPlot n f).mir = s.mir := rfl
@[simp] theorem State.modPlot_fw (s : State) (n : Nat) (f : Plot → Plot) : (s.modPlot n f).fw = s.fw := rfl
@[simp] theorem State.modPlot_fab (s : State) (n : Nat) (f : Plot → Plot) : (s.modPlot n f).fab = s.fab := rfl
@[simp] theorem State.modPlot_time (s : State) (n : Nat) (f : Plot → Plot) : (s.modPlot n f).time = s.time := rfl
@[simp] theorem State.modPlot_slice (s : State) (n : Nat) (f : Plot → Plot) : (s.modPlot n f).slice = s.slice := rfl
@[simp] theorem State.modPlot_mgr (s : State) (n : Nat) (f : Plot → Plot) : (s.modPlot n f).mgr = s.mgr := rfl
@[simp] theorem State.modPlot_pwr (s : State) (n : Nat) (f : Plot → Plot) : (s.modPlot n f).pwr = s.pwr := rfl
@[simp] theorem State.modPlot_cal (s : State) (n : Nat) (f : Plot → Plot) : (s.modPlot n f).cal = s.cal := rfl
@[simp] theorem State.modPlot_hl (s : State) (n : Nat) (f : Plot → Plot) : (s.modPlot n f).hl = s.hl := rfl
@[simp] theorem State.modPlot_seed (s : State) (n : Nat) (f : Plot → Plot) : (s.modPlot n f).seed = s.seed := rfl
@[simp] theorem State.modPlot_rot (s : State) (n : Nat) (f : Plot → Plot) : (s.modPlot n f).rot = s.rot := rfl
@[simp] theorem State.modPlot_stw (s : State) (n : Nat) (f : Plot → Plot) : (s.modPlot n f).stw = s.stw := rfl
@[simp] theorem State.modPlot_pending (s : State) (n : Nat) (f : Plot → Plot) : (s.modPlot n f).pending = s.pending := rfl
@[simp] theorem State.setFur_now (s : State) (n : Nat) (f : Furrow) : (s.setFur n f).now = s.now := rfl
@[simp] theorem State.setFur_free (s : State) (n : Nat) (f : Furrow) : (s.setFur n f).free = s.free := rfl
@[simp] theorem State.setFur_od (s : State) (n : Nat) (f : Furrow) : (s.setFur n f).od = s.od := rfl
@[simp] theorem State.setFur_reg (s : State) (n : Nat) (f : Furrow) : (s.setFur n f).reg = s.reg := rfl
@[simp] theorem State.setFur_cfg (s : State) (n : Nat) (f : Furrow) : (s.setFur n f).cfg = s.cfg := rfl
@[simp] theorem State.setFur_latch (s : State) (n : Nat) (f : Furrow) : (s.setFur n f).latch = s.latch := rfl
@[simp] theorem State.setFur_link (s : State) (n : Nat) (f : Furrow) : (s.setFur n f).link = s.link := rfl
@[simp] theorem State.setFur_host (s : State) (n : Nat) (f : Furrow) : (s.setFur n f).host = s.host := rfl
@[simp] theorem State.setFur_plat (s : State) (n : Nat) (f : Furrow) : (s.setFur n f).plat = s.plat := rfl
@[simp] theorem State.setFur_flt (s : State) (n : Nat) (f : Furrow) : (s.setFur n f).flt = s.flt := rfl
@[simp] theorem State.setFur_mig (s : State) (n : Nat) (f : Furrow) : (s.setFur n f).mig = s.mig := rfl
@[simp] theorem State.setFur_coh (s : State) (n : Nat) (f : Furrow) : (s.setFur n f).coh = s.coh := rfl
@[simp] theorem State.setFur_drill (s : State) (n : Nat) (f : Furrow) : (s.setFur n f).drill = s.drill := rfl
@[simp] theorem State.setFur_plots (s : State) (n : Nat) (f : Furrow) : (s.setFur n f).plots = s.plots := rfl
@[simp] theorem State.setFur_hbm (s : State) (n : Nat) (f : Furrow) : (s.setFur n f).hbm = s.hbm := rfl
@[simp] theorem State.setFur_fc (s : State) (n : Nat) (f : Furrow) : (s.setFur n f).fc = s.fc := rfl
@[simp] theorem State.setFur_dict (s : State) (n : Nat) (f : Furrow) : (s.setFur n f).dict = s.dict := rfl
@[simp] theorem State.setFur_hop (s : State) (n : Nat) (f : Furrow) : (s.setFur n f).hop = s.hop := rfl
@[simp] theorem State.setFur_mir (s : State) (n : Nat) (f : Furrow) : (s.setFur n f).mir = s.mir := rfl
@[simp] theorem State.setFur_fw (s : State) (n : Nat) (f : Furrow) : (s.setFur n f).fw = s.fw := rfl
@[simp] theorem State.setFur_fab (s : State) (n : Nat) (f : Furrow) : (s.setFur n f).fab = s.fab := rfl
@[simp] theorem State.setFur_time (s : State) (n : Nat) (f : Furrow) : (s.setFur n f).time = s.time := rfl
@[simp] theorem State.setFur_slice (s : State) (n : Nat) (f : Furrow) : (s.setFur n f).slice = s.slice := rfl
@[simp] theorem State.setFur_mgr (s : State) (n : Nat) (f : Furrow) : (s.setFur n f).mgr = s.mgr := rfl
@[simp] theorem State.setFur_pwr (s : State) (n : Nat) (f : Furrow) : (s.setFur n f).pwr = s.pwr := rfl
@[simp] theorem State.setFur_cal (s : State) (n : Nat) (f : Furrow) : (s.setFur n f).cal = s.cal := rfl
@[simp] theorem State.setFur_hl (s : State) (n : Nat) (f : Furrow) : (s.setFur n f).hl = s.hl := rfl
@[simp] theorem State.setFur_seed (s : State) (n : Nat) (f : Furrow) : (s.setFur n f).seed = s.seed := rfl
@[simp] theorem State.setFur_rot (s : State) (n : Nat) (f : Furrow) : (s.setFur n f).rot = s.rot := rfl
@[simp] theorem State.setFur_stw (s : State) (n : Nat) (f : Furrow) : (s.setFur n f).stw = s.stw := rfl
@[simp] theorem State.setFur_pending (s : State) (n : Nat) (f : Furrow) : (s.setFur n f).pending = s.pending := rfl
@[simp] theorem State.setRow_now (s : State) (n : Nat) (x : Row) : (s.setRow n x).now = s.now := rfl
@[simp] theorem State.setRow_free (s : State) (n : Nat) (x : Row) : (s.setRow n x).free = s.free := rfl
@[simp] theorem State.setRow_od (s : State) (n : Nat) (x : Row) : (s.setRow n x).od = s.od := rfl
@[simp] theorem State.setRow_reg (s : State) (n : Nat) (x : Row) : (s.setRow n x).reg = s.reg := rfl
@[simp] theorem State.setRow_cfg (s : State) (n : Nat) (x : Row) : (s.setRow n x).cfg = s.cfg := rfl
@[simp] theorem State.setRow_latch (s : State) (n : Nat) (x : Row) : (s.setRow n x).latch = s.latch := rfl
@[simp] theorem State.setRow_link (s : State) (n : Nat) (x : Row) : (s.setRow n x).link = s.link := rfl
@[simp] theorem State.setRow_host (s : State) (n : Nat) (x : Row) : (s.setRow n x).host = s.host := rfl
@[simp] theorem State.setRow_g (s : State) (n : Nat) (x : Row) : (s.setRow n x).g = s.g := rfl
@[simp] theorem State.setRow_plat (s : State) (n : Nat) (x : Row) : (s.setRow n x).plat = s.plat := rfl
@[simp] theorem State.setRow_flt (s : State) (n : Nat) (x : Row) : (s.setRow n x).flt = s.flt := rfl
@[simp] theorem State.setRow_mig (s : State) (n : Nat) (x : Row) : (s.setRow n x).mig = s.mig := rfl
@[simp] theorem State.setRow_coh (s : State) (n : Nat) (x : Row) : (s.setRow n x).coh = s.coh := rfl
@[simp] theorem State.setRow_plots (s : State) (n : Nat) (x : Row) : (s.setRow n x).plots = s.plots := rfl
@[simp] theorem State.setRow_hbm (s : State) (n : Nat) (x : Row) : (s.setRow n x).hbm = s.hbm := rfl
@[simp] theorem State.setRow_fc (s : State) (n : Nat) (x : Row) : (s.setRow n x).fc = s.fc := rfl
@[simp] theorem State.setRow_dict (s : State) (n : Nat) (x : Row) : (s.setRow n x).dict = s.dict := rfl
@[simp] theorem State.setRow_hop (s : State) (n : Nat) (x : Row) : (s.setRow n x).hop = s.hop := rfl
@[simp] theorem State.setRow_mir (s : State) (n : Nat) (x : Row) : (s.setRow n x).mir = s.mir := rfl
@[simp] theorem State.setRow_fw (s : State) (n : Nat) (x : Row) : (s.setRow n x).fw = s.fw := rfl
@[simp] theorem State.setRow_fab (s : State) (n : Nat) (x : Row) : (s.setRow n x).fab = s.fab := rfl
@[simp] theorem State.setRow_time (s : State) (n : Nat) (x : Row) : (s.setRow n x).time = s.time := rfl
@[simp] theorem State.setRow_slice (s : State) (n : Nat) (x : Row) : (s.setRow n x).slice = s.slice := rfl
@[simp] theorem State.setRow_mgr (s : State) (n : Nat) (x : Row) : (s.setRow n x).mgr = s.mgr := rfl
@[simp] theorem State.setRow_pwr (s : State) (n : Nat) (x : Row) : (s.setRow n x).pwr = s.pwr := rfl
@[simp] theorem State.setRow_cal (s : State) (n : Nat) (x : Row) : (s.setRow n x).cal = s.cal := rfl
@[simp] theorem State.setRow_hl (s : State) (n : Nat) (x : Row) : (s.setRow n x).hl = s.hl := rfl
@[simp] theorem State.setRow_seed (s : State) (n : Nat) (x : Row) : (s.setRow n x).seed = s.seed := rfl
@[simp] theorem State.setRow_rot (s : State) (n : Nat) (x : Row) : (s.setRow n x).rot = s.rot := rfl
@[simp] theorem State.setRow_stw (s : State) (n : Nat) (x : Row) : (s.setRow n x).stw = s.stw := rfl
@[simp] theorem State.setRow_pending (s : State) (n : Nat) (x : Row) : (s.setRow n x).pending = s.pending := rfl
@[simp] theorem State.setPort_now (s : State) (n : Nat) (x : Port) : (s.setPort n x).now = s.now := rfl
@[simp] theorem State.setPort_free (s : State) (n : Nat) (x : Port) : (s.setPort n x).free = s.free := rfl
@[simp] theorem State.setPort_od (s : State) (n : Nat) (x : Port) : (s.setPort n x).od = s.od := rfl
@[simp] theorem State.setPort_reg (s : State) (n : Nat) (x : Port) : (s.setPort n x).reg = s.reg := rfl
@[simp] theorem State.setPort_cfg (s : State) (n : Nat) (x : Port) : (s.setPort n x).cfg = s.cfg := rfl
@[simp] theorem State.setPort_latch (s : State) (n : Nat) (x : Port) : (s.setPort n x).latch = s.latch := rfl
@[simp] theorem State.setPort_link (s : State) (n : Nat) (x : Port) : (s.setPort n x).link = s.link := rfl
@[simp] theorem State.setPort_host (s : State) (n : Nat) (x : Port) : (s.setPort n x).host = s.host := rfl
@[simp] theorem State.setPort_g (s : State) (n : Nat) (x : Port) : (s.setPort n x).g = s.g := rfl
@[simp] theorem State.setPort_plat (s : State) (n : Nat) (x : Port) : (s.setPort n x).plat = s.plat := rfl
@[simp] theorem State.setPort_flt (s : State) (n : Nat) (x : Port) : (s.setPort n x).flt = s.flt := rfl
@[simp] theorem State.setPort_mig (s : State) (n : Nat) (x : Port) : (s.setPort n x).mig = s.mig := rfl
@[simp] theorem State.setPort_coh (s : State) (n : Nat) (x : Port) : (s.setPort n x).coh = s.coh := rfl
@[simp] theorem State.setPort_drill (s : State) (n : Nat) (x : Port) : (s.setPort n x).drill = s.drill := rfl
@[simp] theorem State.setPort_plots (s : State) (n : Nat) (x : Port) : (s.setPort n x).plots = s.plots := rfl
@[simp] theorem State.setPort_hbm (s : State) (n : Nat) (x : Port) : (s.setPort n x).hbm = s.hbm := rfl
@[simp] theorem State.setPort_fc (s : State) (n : Nat) (x : Port) : (s.setPort n x).fc = s.fc := rfl
@[simp] theorem State.setPort_dict (s : State) (n : Nat) (x : Port) : (s.setPort n x).dict = s.dict := rfl
@[simp] theorem State.setPort_hop (s : State) (n : Nat) (x : Port) : (s.setPort n x).hop = s.hop := rfl
@[simp] theorem State.setPort_mir (s : State) (n : Nat) (x : Port) : (s.setPort n x).mir = s.mir := rfl
@[simp] theorem State.setPort_fw (s : State) (n : Nat) (x : Port) : (s.setPort n x).fw = s.fw := rfl
@[simp] theorem State.setPort_time (s : State) (n : Nat) (x : Port) : (s.setPort n x).time = s.time := rfl
@[simp] theorem State.setPort_slice (s : State) (n : Nat) (x : Port) : (s.setPort n x).slice = s.slice := rfl
@[simp] theorem State.setPort_mgr (s : State) (n : Nat) (x : Port) : (s.setPort n x).mgr = s.mgr := rfl
@[simp] theorem State.setPort_pwr (s : State) (n : Nat) (x : Port) : (s.setPort n x).pwr = s.pwr := rfl
@[simp] theorem State.setPort_cal (s : State) (n : Nat) (x : Port) : (s.setPort n x).cal = s.cal := rfl
@[simp] theorem State.setPort_hl (s : State) (n : Nat) (x : Port) : (s.setPort n x).hl = s.hl := rfl
@[simp] theorem State.setPort_seed (s : State) (n : Nat) (x : Port) : (s.setPort n x).seed = s.seed := rfl
@[simp] theorem State.setPort_rot (s : State) (n : Nat) (x : Port) : (s.setPort n x).rot = s.rot := rfl
@[simp] theorem State.setPort_stw (s : State) (n : Nat) (x : Port) : (s.setPort n x).stw = s.stw := rfl
@[simp] theorem State.setPort_pending (s : State) (n : Nat) (x : Port) : (s.setPort n x).pending = s.pending := rfl
@[simp] theorem State.setSrc_now (s : State) (n : Nat) (x : Src) : (s.setSrc n x).now = s.now := rfl
@[simp] theorem State.setSrc_free (s : State) (n : Nat) (x : Src) : (s.setSrc n x).free = s.free := rfl
@[simp] theorem State.setSrc_od (s : State) (n : Nat) (x : Src) : (s.setSrc n x).od = s.od := rfl
@[simp] theorem State.setSrc_reg (s : State) (n : Nat) (x : Src) : (s.setSrc n x).reg = s.reg := rfl
@[simp] theorem State.setSrc_cfg (s : State) (n : Nat) (x : Src) : (s.setSrc n x).cfg = s.cfg := rfl
@[simp] theorem State.setSrc_latch (s : State) (n : Nat) (x : Src) : (s.setSrc n x).latch = s.latch := rfl
@[simp] theorem State.setSrc_link (s : State) (n : Nat) (x : Src) : (s.setSrc n x).link = s.link := rfl
@[simp] theorem State.setSrc_host (s : State) (n : Nat) (x : Src) : (s.setSrc n x).host = s.host := rfl
@[simp] theorem State.setSrc_g (s : State) (n : Nat) (x : Src) : (s.setSrc n x).g = s.g := rfl
@[simp] theorem State.setSrc_plat (s : State) (n : Nat) (x : Src) : (s.setSrc n x).plat = s.plat := rfl
@[simp] theorem State.setSrc_flt (s : State) (n : Nat) (x : Src) : (s.setSrc n x).flt = s.flt := rfl
@[simp] theorem State.setSrc_mig (s : State) (n : Nat) (x : Src) : (s.setSrc n x).mig = s.mig := rfl
@[simp] theorem State.setSrc_coh (s : State) (n : Nat) (x : Src) : (s.setSrc n x).coh = s.coh := rfl
@[simp] theorem State.setSrc_drill (s : State) (n : Nat) (x : Src) : (s.setSrc n x).drill = s.drill := rfl
@[simp] theorem State.setSrc_plots (s : State) (n : Nat) (x : Src) : (s.setSrc n x).plots = s.plots := rfl
@[simp] theorem State.setSrc_hbm (s : State) (n : Nat) (x : Src) : (s.setSrc n x).hbm = s.hbm := rfl
@[simp] theorem State.setSrc_dict (s : State) (n : Nat) (x : Src) : (s.setSrc n x).dict = s.dict := rfl
@[simp] theorem State.setSrc_hop (s : State) (n : Nat) (x : Src) : (s.setSrc n x).hop = s.hop := rfl
@[simp] theorem State.setSrc_mir (s : State) (n : Nat) (x : Src) : (s.setSrc n x).mir = s.mir := rfl
@[simp] theorem State.setSrc_fw (s : State) (n : Nat) (x : Src) : (s.setSrc n x).fw = s.fw := rfl
@[simp] theorem State.setSrc_fab (s : State) (n : Nat) (x : Src) : (s.setSrc n x).fab = s.fab := rfl
@[simp] theorem State.setSrc_time (s : State) (n : Nat) (x : Src) : (s.setSrc n x).time = s.time := rfl
@[simp] theorem State.setSrc_slice (s : State) (n : Nat) (x : Src) : (s.setSrc n x).slice = s.slice := rfl
@[simp] theorem State.setSrc_mgr (s : State) (n : Nat) (x : Src) : (s.setSrc n x).mgr = s.mgr := rfl
@[simp] theorem State.setSrc_pwr (s : State) (n : Nat) (x : Src) : (s.setSrc n x).pwr = s.pwr := rfl
@[simp] theorem State.setSrc_cal (s : State) (n : Nat) (x : Src) : (s.setSrc n x).cal = s.cal := rfl
@[simp] theorem State.setSrc_hl (s : State) (n : Nat) (x : Src) : (s.setSrc n x).hl = s.hl := rfl
@[simp] theorem State.setSrc_seed (s : State) (n : Nat) (x : Src) : (s.setSrc n x).seed = s.seed := rfl
@[simp] theorem State.setSrc_rot (s : State) (n : Nat) (x : Src) : (s.setSrc n x).rot = s.rot := rfl
@[simp] theorem State.setSrc_stw (s : State) (n : Nat) (x : Src) : (s.setSrc n x).stw = s.stw := rfl
@[simp] theorem State.setSrc_pending (s : State) (n : Nat) (x : Src) : (s.setSrc n x).pending = s.pending := rfl

end Sys2Proof.Machine
end

