-- ==== Sys2Proof/Laws/Quiet.lean ====
section
/-! SUPPORT. What the retry and release operations do when nothing waits for them: nothing. -/

namespace Sys2Proof.Machine

theorem State.payOwed_none (s : State) (h : s.fab.owed = []) : s.payOwed = s := by
  unfold State.payOwed
  split
  · rfl
  · dsimp only
    rw [h]
    show ({ s with fab := { s.fab with owed := [] } } : State) = s
    rw [← h]

theorem State.stileRetry_none (s : State) (h : s.fab.waiting = []) (k : s.fab.owed = []) : s.stileRetry = s := by
  unfold State.stileRetry
  dsimp only
  rw [h]
  show State.payOwed { s with fab := { s.fab with waiting := [] } } = s
  rw [← h]
  exact State.payOwed_none s k

theorem State.serveHolds_none (s : State) (h : s.pwr.hold = []) : s.serveHolds = s := by
  unfold State.serveHolds
  dsimp only
  rw [h]
  show ({ s with pwr := { s.pwr with hold := [] } } : State) = s
  rw [← h]

end Sys2Proof.Machine
end

