-- ==== Sys2Proof/Laws/Effects.lean ====
section
/-! SUPPORT. What the larger shared operations do, where their footprint alone does not say it. -/

namespace Sys2Proof.Machine

/-! ### Tables -/

/-- A key of a filtered table. -/
theorem kvFind_filter {α : Type} (p : Nat × α → Bool) (k : Nat) : ∀ (m : List (Nat × α)) (lo : Nat), kvRises lo m = true →
    kvFind (m.filter p) k = (match kvFind m k with | some v => if p (k, v) then some v else none | none => none) := by
  intro m
  induction m with
  | nil => intro lo _; rfl
  | cons c m ih =>
    intro lo h
    obtain ⟨a, v⟩ := c
    unfold kvRises at h
    rw [Bool.and_eq_true] at h
    have ih' := ih (a + 1) h.2
    have gone : a = k → kvFind m k = none := fun e => kvFind_below m (a + 1) k h.2 (by omega)
    have low : k < a → kvFind m k = none := fun e => kvFind_below m (a + 1) k h.2 (by omega)
    rw [List.filter_cons]
    by_cases e : a = k
    · subst e
      cases hp : p (a, v)
      · rw [if_neg (by decide), ih', gone rfl]
        simp [kvFind, hp]
      · simp [kvFind, hp]
    · by_cases l : k < a
      · cases hp : p (a, v)
        · rw [if_neg (by decide), ih', low l]
          simp [kvFind, e, l]
        · simp [kvFind, e, l]
      · cases hp : p (a, v)
        · rw [if_neg (by decide), ih']
          simp [kvFind, e, l]
        · simp only [if_true, kvFind, e, l, if_false]
          exact ih'

/-- A key just written reads as written, where the value is not the default. -/
theorem kvGet_kvSet_self {α : Type} [DecidableEq α] (d : α) (m : List (Nat × α)) (k : Nat) (v : α) (h : v ≠ d) :
    kvGet d (kvSet d m k v) k = v := by
  unfold kvGet kvSet
  rw [if_neg h, kvFind_kvPut_same]
  rfl

/-- A zeroed range reads as the default. -/
theorem memByte_memZero (m : List Host.Cell) (lo hi a : Nat) (h : Memory.wf m = true) :
    memByte (memZero m lo hi) a = if lo ≤ a ∧ a < hi then memDefault else memByte m a := by
  unfold memByte kvGet memZero
  rw [kvFind_filter _ a m 0 (wf_rises m h)]
  cases kvFind m a with
  | none => simp
  | some v =>
    by_cases c : lo ≤ a ∧ a < hi
    · rw [if_pos c]
      simp [Nat.not_lt.mpr c.1, Nat.not_le.mpr c.2]
    · rw [if_neg c]
      have : (decide (a < lo) || decide (hi ≤ a)) = true := by
        simp only [Bool.or_eq_true, decide_eq_true_eq]; omega
      simp only [this, if_true]

/-! ### Loops -/

/-- A loop of which only the step for `k` does anything is that step. -/
theorem State.each_single {α : Type} [DecidableEq α] (f : State → α → State) (k : α) (h : ∀ s x, x ≠ k → f s x = s) :
    ∀ (l : List α) (s : State), l.Nodup → k ∈ l → s.each l f = f s k := by
  have none : ∀ (l : List α) (s : State), k ∉ l → s.each l f = s := by
    intro l
    induction l with
    | nil => intro s _; rfl
    | cons a l ih =>
      intro s hk
      show (f s a).each l f = s
      rw [h s a (fun e => hk (e ▸ List.mem_cons_self)), ih s (fun e => hk (List.mem_cons_of_mem _ e))]
  intro l
  induction l with
  | nil => intro s _ hk; exact absurd hk List.not_mem_nil
  | cons a l ih =>
    intro s hn hk
    show (f s a).each l f = f s k
    rcases List.nodup_cons.mp hn with ⟨ha, hl⟩
    by_cases e : a = k
    · subst e
      exact none l _ ha
    · rw [h s a e]
      exact ih s hl ((List.mem_cons.mp hk).resolve_left (fun x => e x.symm))

/-- A property that every step keeps survives the loop. -/
theorem State.each_keeps {α : Type} (P : State → Prop) (f : State → α → State) (h : ∀ s x, P s → P (f s x)) :
    ∀ (l : List α) (s : State), P s → P (s.each l f) := by
  intro l
  induction l with
  | nil => intro s hs; exact hs
  | cons a l ih => intro s hs; exact ih _ (h s a hs)

/-- A loop over the plots that a mask of one bit picks is its step for that plot. -/
theorem State.each_mask (f : State → Nat → State) (n p : Nat) (hp : p < n) (s : State) (m : Nat) (hm : ∀ k, bit m k = decide (k = p)) :
    s.each (List.range n) (fun s k => if bit m k then f s k else s) = f s p := by
  rw [State.each_single (fun s k => if bit m k then f s k else s) p _ _ s List.nodup_range (List.mem_range.mpr hp)]
  · rw [hm, if_pos (by simp)]
  · intro s x hx
    rw [hm, if_neg (by simpa using hx)]

/-! ### Boot control -/

/-- Boot control as an update leaves it (R139): the other copy is written, with the higher sequence number. -/
theorem Headland.boot_setBoot (h : Headland) (f : BootCtl → BootCtl)
    (hs : ∀ c, (f c).seq = c.seq) (hc : ∀ c, (f c).crcOk = c.crcOk) :
    (h.setBoot f).boot = f { h.boot with seq := h.boot.seq + 1, crcOk := true } := by
  unfold Headland.setBoot Headland.boot
  cases e : h.bootB?
  · have : ({ h with bootB := f { h.bootA with seq := h.bootA.seq + 1, crcOk := true } } : Headland).bootB? = true := by
      simp [Headland.bootB?, hs, hc]
    simp [this]
  · have : ({ h with bootA := f { h.bootB with seq := h.bootB.seq + 1, crcOk := true } } : Headland).bootB? = false := by
      simp [Headland.bootB?, hs, hc]
    simp [this]

/-! ### The dictionary mirror -/

/-- A slot that is done: DONE, with its status; its place in the order and the answers are the caller's (R233). -/
theorem State.slotDone_eff (u : State) (n st tx : Nat) (b : List Byte) :
    ((u.slotDone n st tx b).mslot n).state = 2 ∧ ((u.slotDone n st tx b).mslot n).status = st ∧
    (u.slotDone n st tx b).mir.order = u.mir.order ∧ (u.slotDone n st tx b).dict = u.dict := by
  unfold State.slotDone State.countMirror
  extract_lets m m2 r
  have em : ∀ (v : State) (x : MSlot) (hx : x ≠ {}), (v.setSlot n x).mslot n = x := fun v x hx => kvGet_kvSet_self _ _ _ _ hx
  have ar : ∀ (v : State) d, (v.areaWrite d b).mir = v.mir := fun v d => (State.areaWrite_keeps v d b).kmir rfl
  have hm2 : m2 ≠ {} := by
    intro e
    have : m2.state = 0 := by rw [e]
    exact absurd this (show (2 : Nat) ≠ 0 by decide)
  have key : kvGet {} ((u.setSlot n m2).areaWrite (slotBase n + 2048) b).mir.slots n = m2 := by
    rw [ar]; exact em u m2 hm2
  refine ⟨?_, ?_, ?_, ?_⟩
  · show (kvGet {} ((u.setSlot n m2).areaWrite (slotBase n + 2048) b).mir.slots n).state = 2
    rw [key]
  · show (kvGet {} ((u.setSlot n m2).areaWrite (slotBase n + 2048) b).mir.slots n).status = st
    rw [key]
  · show ((u.setSlot n m2).areaWrite (slotBase n + 2048) b).mir.order = _
    rw [ar]; rfl
  · show ((u.setSlot n m2).areaWrite (slotBase n + 2048) b).dict = _
    rw [(State.areaWrite_keeps _ _ _).kdict rfl]; rfl

/-- The operation of the slot whose turn it is runs, and its answer goes to the slot (R205, R207). -/
theorem State.mirrorOp_run (s : State) (n op : Nat) (h : s.SlotTurn n op) (u : State) (a : Answer)
    (hr : s.dictRun .H op (s.mslot n).txn (s.slotBody n) = (u, a)) (e1 : u.hl = s.hl) (e2 : u.mir = s.mir) :
    s.mirrorOp op = (({ u with mir := { u.mir with order := s.mir.order.tail }, dict := { u.dict with lastRoute := .H } } : State).slotDone n
      a.status a.txn a.body).giveAnswer a := by
  obtain ⟨h1, h2, h3, h4, h5⟩ := h
  obtain ⟨rest, h2⟩ : ∃ rest, s.mir.order = n :: rest := by
    cases e : s.mir.order with
    | nil => rw [e] at h2; exact absurd h2 (by simp)
    | cons x xs => rw [e] at h2; simp at h2; exact ⟨xs, by rw [h2]⟩
  have em : ∀ k, u.mslot k = s.mslot k := by intro k; unfold State.mslot; rw [e2]
  have es : u.sameRun true = true := by unfold State.sameRun State.hlAlive; rw [e1, h1]; rfl
  have hb : s.areaRead (slotBase n + 256) (s.mslot n).bodyLen = s.slotBody n := rfl
  unfold State.mirrorOp
  rw [h2]
  simp only [h1, h4, hb, hr]
  simp only [es, em, h5]
  simp [h3]

/-- What the turn of a slot leaves. -/
theorem State.mirrorOp_eff (s : State) (n op : Nat) (h : s.SlotTurn n op) (u : State) (a : Answer)
    (hr : s.dictRun .H op (s.mslot n).txn (s.slotBody n) = (u, a)) (e1 : u.hl = s.hl) (e2 : u.mir = s.mir) :
    ((s.mirrorOp op).mslot n).state = 2 ∧ ((s.mirrorOp op).mslot n).status = a.status ∧ (s.mirrorOp op).mir.order = s.mir.order.tail ∧
    (s.mirrorOp op).dict = { u.dict with lastRoute := .H, answers := u.dict.answers ++ [a] } := by
  rw [State.mirrorOp_run s n op h u a hr e1 e2]
  have k := State.slotDone_eff ({ u with mir := { u.mir with order := s.mir.order.tail }, dict := { u.dict with lastRoute := .H } } : State) n a.status a.txn a.body
  refine ⟨k.1, k.2.1, k.2.2.1, ?_⟩
  unfold State.giveAnswer
  rw [k.2.2.2]
/-! ### The steward -/

/-- A decision is logged, newest first, and leaves every object alone but the log's own (R793, R794). -/
theorem State.logDecision_val (s : State) (p o r i b old new : Nat) (m : Int) (rt k : Nat) (hi : Rises s.od)
    (h1 : k ≠ O.logSeq) (h2 : k / 256 ≠ O.decisions / 256) (h3 : k ≠ (0x8010 + p) * 256 + 2) (h4 : O.logOverwritten / 256 = O.decisions / 256) :
    (s.logDecision p o r i b old new m rt).val k = s.val k := by
  unfold State.logDecision
  extract_lets n d w b s1 s2 s3
  have r1 : Rises s1.od := hi
  have r2 : Rises s2.od := State.bumpBy_rises _ _ _ (State.setVal_rises _ _ _ r1)
  have hd : k ≠ O.decisions := fun e => h2 (by rw [e])
  have ho : k ≠ O.logOverwritten := fun e => h2 (by rw [e, h4])
  have r3 : Rises s3.od := by
    show Rises (ite _ _ _ : State).od
    split
    · exact State.bumpBy_rises _ _ _ r2
    · exact r2
  have e2 : s2.val k = s.val k := by
    show ((s1.setVal O.logSeq _).bumpBy O.decisions 1).val k = _
    rw [State.val_bumpBy_other _ _ _ _ (State.setVal_rises _ _ _ r1) hd (by intro e; apply h2; rw [e]; decide), State.val_setVal _ _ _ _ r1, if_neg h1]
    rfl
  have e3 : s3.val k = s2.val k := by
    show (ite _ _ _ : State).val k = _
    split
    · exact State.val_bumpBy_other _ _ _ _ r2 ho (by intro e; apply h2; rw [e]; decide)
    · rfl
  rw [State.val_setVal _ _ _ _ r3, if_neg h3, e3, e2]

theorem State.logDecision_head (s : State) (p o r i b old new : Nat) (m : Int) (rt : Nat) :
    (s.logDecision p o r i b old new m rt).stw.log.head? =
      some { seq := s.val O.logSeq, policy := p, outcome := o, reason := r, timeValid := s.timeValid, route := rt, idx := i, sub := b,
             old := old, new := new, measure := m, time := s.rackTime } := by
  unfold State.logDecision
  extract_lets n d w b s1 s2 s3
  rw [(State.setVal_keeps _ _ _).kstw rfl]
  have e3 : s3.stw = s2.stw := by
    show (ite _ _ _ : State).stw = _
    split
    · exact (State.bump_keeps _ _).kstw rfl
    · rfl
  have e2 : s2.stw = s1.stw := ((State.bump_keeps _ _).kstw rfl).trans ((State.setVal_keeps _ _ _).kstw rfl)
  rw [e3, e2]
  rfl

/-- A policy that acts moves its object and logs that it did (R791). -/
theorem State.decideOn_acts (s : State) (p r k new : Nat) (m : Int) (hi : Rises s.od) (ho : s.overridden k = false)
    (hn : new ≠ governed k (s.val k)) (hp : s.policyRuns p = 2) (hr : s.stewardRefused k = false)
    (hk : (decide (k % 256 = 6) && decide (0x7100 ≤ k / 256)) = false)
    (h1 : k ≠ O.logSeq) (h2 : k / 256 ≠ O.decisions / 256) (h3 : k ≠ (0x8010 + p) * 256 + 2) :
    (s.decideOn p r k new m).val k = new ∧
    ∃ d, (s.decideOn p r k new m).stw.log.head? = some d ∧ d.policy = p ∧ d.outcome = 0 ∧ d.reason = r ∧ d.idx = k / 256 ∧ d.sub = k % 256 ∧
      d.old = governed k (s.val k) ∧ d.new = new := by
  have e : s.decideOn p r k new m = ((s.moveGoverned k new).noteReason s.capReason).logDecision p 0 r (k / 256) (k % 256) (governed k (s.val k)) new m := by
    unfold State.decideOn
    simp only [ho, hp, hr]
    rw [if_neg (by simpa using hn)]
    rfl
  have mv : (s.moveGoverned k new).val k = new := by
    unfold State.moveGoverned State.setGoverned
    dsimp only
    rw [hk, if_neg (by decide)]
    refine (State.val_setVal _ _ _ _ ?_).trans (if_pos rfl)
    exact hi
  have rv : Rises ((s.moveGoverned k new).noteReason s.capReason).od := by
    rw [(State.noteReason_keeps _ _).kod rfl]
    unfold State.moveGoverned State.setGoverned
    dsimp only
    rw [hk, if_neg (by decide)]
    refine State.setVal_rises _ _ _ ?_
    exact hi
  rw [e]
  refine ⟨?_, ⟨_, State.logDecision_head _ _ _ _ _ _ _ _ _ _, rfl, rfl, rfl, rfl, rfl, rfl, rfl⟩⟩
  rw [State.logDecision_val _ _ _ _ _ _ _ _ _ _ k rv h1 h2 h3 (by decide)]
  show kvGet _ ((s.moveGoverned k new).noteReason s.capReason).od k = _
  rw [(State.noteReason_keeps _ _).kod rfl]
  exact mv

/-! ### Resets -/

/-- A fundamental reset, hot reset or DL_Down leaves the link down, nothing queued or outstanding, D0, and the collector's
host ring disabled (R119). -/
theorem State.hostReset_eff (s : State) :
    s.hostReset.link.up = false ∧ s.hostReset.link.ltssm = .detect ∧ s.hostReset.host.tags = [] ∧ s.hostReset.host.queue = [] ∧
    s.hostReset.host.power = .d0 ∧ s.hostReset.fc.ringEnable = false ∧ s.hostReset.pwr.hold = [] := by
  unfold State.hostReset State.clearFunction
  exact ⟨rfl, rfl, rfl, rfl, rfl, rfl, rfl⟩

/-- FLR clears what the fundamental reset clears, and the function is in D0 again (R305). -/
theorem State.clearFunction_flr (s : State) :
    (s.clearFunction true).host.inFlr = false ∧ (s.clearFunction true).host.power = .d0 ∧ (s.clearFunction true).latch = [] ∧
    (s.clearFunction true).fc.ringEnable = false := by
  unfold State.clearFunction
  exact ⟨rfl, rfl, rfl, rfl⟩

/-- A Headland reset stops the firmware and drops its transactions, locks and unlocks (R131). -/
theorem State.headlandReset_eff (s : State) (ok : Bool) :
    (s.headlandReset ok).hl.running = false ∧ (s.headlandReset ok).dict.txns = [] ∧ (s.headlandReset ok).dict.locks = [] ∧
    (s.headlandReset ok).cal.unlockF = none ∧ (s.headlandReset ok).cal.unlockH = none ∧ (s.headlandReset ok).hop.kept = [] ∧
    (s.headlandReset ok).hl.silentSince = (s.headlandReset ok).now :=
  ⟨rfl, rfl, rfl, rfl, rfl, rfl, rfl⟩

/-- A bit that was set reads as it was set. -/
theorem bit_setBit (v n : Nat) (b : Bool) : bit (setBit v n b) n = b := by
  unfold setBit setFld fld bit
  have e1 : n + 1 - n = 1 := by omega
  rw [e1]
  have p : 0 < 2 ^ n := Nat.two_pow_pos n
  have h1 : v / 2 ^ n % 2 ≤ v / 2 ^ n := Nat.mod_le _ _
  have h2 : v / 2 ^ n % 2 * 2 ^ n ≤ v := le_trans (Nat.mul_le_mul_right _ h1) (Nat.div_mul_le_self v (2 ^ n))
  have h3 : (v - v / 2 ^ n % 2 * 2 ^ n) / 2 ^ n = v / 2 ^ n - v / 2 ^ n % 2 := by
    rw [Nat.mul_comm, Nat.sub_mul_div]
  rw [Nat.testBit_eq_decide_div_mod_eq]
  simp only [Nat.pow_one]
  rw [Nat.add_mul_div_right _ _ p, h3]
  cases b <;> simp <;> omega

end Sys2Proof.Machine
end

