-- ==== Sys2Proof/Laws/FootTick.lean ====
section
/-! SUPPORT. The footprints of the operations of Machine/Tick.lean. -/

namespace Sys2Proof.Machine

theorem idle_keeps (s) : KeepsO 1 s (idle s) := by
  unfold idle
  refine KeepsO.next ?_
  refine Keeps.setnow (m := 1) _ ?_ (by first | omega | exact Nat.le_max_left _ _ | exact Nat.le_max_right _ _ | exact Nat.le_add_right _ _) rfl
  exact Keeps.refl _ _

end Sys2Proof.Machine
end

