-- ==== Sys2Proof/Laws/Parts.lean ====
section
/-! SUPPORT. The footprint of an operation, said in the parts of the state that the statements name. -/

namespace Sys2Proof.Machine

/-- The parts in the order of the bits of a footprint. -/
def allParts : List Part :=
  [.now, .free, .od, .reg, .cfg, .latch, .link, .host, .g, .plat, .flt, .mig, .coh, .drill, .plots, .hbm, .fc,
   .dict, .hop, .mir, .fw, .fab, .time, .slice, .mgr, .pwr, .cal, .hl, .seed, .rot, .stw]

/-- An operation with footprint m changes nothing outside the parts ps, where ps lists every part that m marks. -/
theorem Keeps.same_but {m : Nat} {ps : List Part} {s t : State} (h : Keeps m s t)
    (e : (List.range 31).all (fun k => !m.testBit k || decide (allParts.getD k .now ∈ ps)) = true) : s.SameBut ps t := by
  have c : ∀ k : Nat, k < 31 → allParts.getD k .now ∈ ps ∨ m.testBit k = false := by
    intro k hk
    have := List.all_eq_true.mp e k (List.mem_range.mpr hk)
    cases hb : m.testBit k
    · exact .inr rfl
    · rw [hb] at this
      exact .inl (by simpa using this)
  refine ⟨(c 0 (by decide)).imp id h.know,
    (c 1 (by decide)).imp id h.kfree,
    (c 2 (by decide)).imp id h.kod,
    (c 3 (by decide)).imp id h.kreg,
    (c 4 (by decide)).imp id h.kcfg,
    (c 5 (by decide)).imp id h.klatch,
    (c 6 (by decide)).imp id h.klink,
    (c 7 (by decide)).imp id h.khost,
    (c 8 (by decide)).imp id h.kg,
    (c 9 (by decide)).imp id h.kplat,
    (c 10 (by decide)).imp id h.kflt,
    (c 11 (by decide)).imp id h.kmig,
    (c 12 (by decide)).imp id h.kcoh,
    (c 13 (by decide)).imp id h.kdrill,
    (c 14 (by decide)).imp id h.kplots,
    (c 15 (by decide)).imp id h.khbm,
    (c 16 (by decide)).imp id h.kfc,
    (c 17 (by decide)).imp id h.kdict,
    (c 18 (by decide)).imp id h.khop,
    (c 19 (by decide)).imp id h.kmir,
    (c 20 (by decide)).imp id h.kfw,
    (c 21 (by decide)).imp id h.kfab,
    (c 22 (by decide)).imp id h.ktime,
    (c 23 (by decide)).imp id h.kslice,
    (c 24 (by decide)).imp id h.kmgr,
    (c 25 (by decide)).imp id h.kpwr,
    (c 26 (by decide)).imp id h.kcal,
    (c 27 (by decide)).imp id h.khl,
    (c 28 (by decide)).imp id h.kseed,
    (c 29 (by decide)).imp id h.krot,
    (c 30 (by decide)).imp id h.kstw, h.kpending, h.kmono⟩

end Sys2Proof.Machine
end

