-- ==== Sys2Proof/Laws/Sends.lean ====
section
/-! SUPPORT. What sending moves in the host interface: the wire, the two queues and the credits, nothing else. -/

namespace Sys2Proof.Machine

/-- A message that leaves is added to the wire; nothing else of the host interface moves. -/
theorem State.left_host (s : State) (t : Tlp) : (s.left t).host = { s.host with wire := s.host.wire ++ [t] } := by
  unfold State.left
  have a : ∀ (x : State) (k : Nat), (x.bump k).host = x.host := fun x k => by rw [(State.bump_keeps _ _).khost rfl]
  have b : ∀ (x : State) (k v : Nat), (x.orCfg k v).host = x.host := fun x k v => by rw [(State.orCfg_keeps _ _ _).khost rfl]
  have c : ∀ (x : State) (k : Nat) v, (x.setFur k v).host = x.host := fun x k v => rfl
  cases ho : t.owner <;> simp only [] <;> (repeat' split) <;> simp [a, b, c]

/-- Whether a message stays in the queue: its gate is closed, its credit is missing or one before it holds it back. -/
def State.stays (s : State) (t : Tlp) (kp kn kc : Bool) : Bool :=
  !(if t.kind.free then s.mayMessage t.kind else s.mayRequest) ||
    (if t.kind.cpl then kc
     else if t.kind.posted then s.host.pCredit == 0 || (kp && (!t.kind.free || s.mayRequest || t.kind == .atsInvalidateCpl))
     else s.host.npCredit == 0 || kp || kn)

/-- The credit a message takes as it leaves. -/
def State.takeCredit (s : State) (t : Tlp) : State :=
  if t.kind.cpl then s
  else if t.kind.posted then { s with host := { s.host with pCredit := s.host.pCredit - 1 } }
  else { s with host := { s.host with npCredit := s.host.npCredit - 1 } }

/-- One message of a pass over the queue. -/
theorem leavePass_cons (s : State) (t : Tlp) (l : List Tlp) (a b c : Bool) :
    leavePass s (t :: l) a b c =
      if s.stays t a b c = true then
        let r := leavePass s l (a || t.kind.posted) (b || !(t.kind.posted || t.kind.cpl))
          (c || (t.kind.posted && !t.ro && (t.kind.free || s.mayRequest)))
        (r.1, t :: r.2)
      else leavePass ((s.takeCredit t).left t) l a b c := rfl

/-- A pass over the queue moves the wire and the credits only. -/
theorem leavePass_host (l : List Tlp) (s : State) (a b c : Bool) :
    ∃ w p n, (leavePass s l a b c).1.host = { s.host with wire := w, pCredit := p, npCredit := n } := by
  induction l generalizing s a b c with
  | nil => exact ⟨_, _, _, rfl⟩
  | cons t l ih =>
    have tc : ∃ p n, (s.takeCredit t).host = { s.host with pCredit := p, npCredit := n } := by
      unfold State.takeCredit
      repeat' split
      all_goals exact ⟨_, _, rfl⟩
    obtain ⟨p, n, tc⟩ := tc
    rw [leavePass_cons]
    split
    · exact ih s _ _ _
    · obtain ⟨w, p, m, h⟩ := ih ((s.takeCredit t).left t) a b c
      exact ⟨w, p, m, by rw [h, State.left_host, tc]⟩

/-- One state's host interface is another's but for the wire, the two queues and the credits. -/
def SendsOnly (s t : State) : Prop :=
  ∃ w p n q b, t.host = { s.host with wire := w, pCredit := p, npCredit := n, queue := q, blocked := b }

theorem SendsOnly.refl (s : State) : SendsOnly s s := ⟨_, _, _, _, _, rfl⟩

theorem SendsOnly.trans {s t u : State} (h : SendsOnly s t) (k : SendsOnly t u) : SendsOnly s u := by
  obtain ⟨_, _, _, _, _, h⟩ := h
  obtain ⟨_, _, _, _, _, k⟩ := k
  exact ⟨_, _, _, _, _, by rw [k, h]⟩

/-- Draining moves the wire, the two queues and the credits only. -/
theorem State.drain_host (s : State) : SendsOnly s s.drain := by
  let f : State → State := fun s =>
    let r := leavePass { s with host := { s.host with queue := [] } } s.host.queue false false false
    let s := { r.1 with host := { r.1.host with queue := r.2 } }
    let a := admitBlocked (512 - s.postedHeld) s.host.queue s.host.blocked
    { s with host := { s.host with queue := a.1, blocked := a.2 } }
  have hf : ∀ x, SendsOnly x (f x) := by
    intro x
    obtain ⟨w, p, n, h⟩ := leavePass_host x.host.queue { x with host := { x.host with queue := [] } } false false false
    exact ⟨w, p, n, _, _, by dsimp only [f]; rw [h]⟩
  have e : s.drain = (let s := f s; if s.host.blocked.isEmpty then (if s.host.queue.isEmpty then s else f s) else f (f s)) := rfl
  rw [e]
  dsimp only
  split
  · split
    · exact hf s
    · exact (hf s).trans (hf _)
  · exact ((hf s).trans (hf _)).trans (hf _)

theorem State.enqueue_drain_host (s : State) (t : Tlp) : SendsOnly s (s.enqueue t).drain :=
  SendsOnly.trans ⟨_, _, _, _, _, rfl⟩ (State.drain_host _)

theorem State.drain_power (s : State) : s.drain.host.power = s.host.power := by
  obtain ⟨_, _, _, _, _, h⟩ := s.drain_host; rw [h]

theorem State.drain_tags (s : State) : s.drain.host.tags = s.host.tags := by
  obtain ⟨_, _, _, _, _, h⟩ := s.drain_host; rw [h]

theorem State.drain_attn (s : State) : s.drain.host.attnAsserted = s.host.attnAsserted := by
  obtain ⟨_, _, _, _, _, h⟩ := s.drain_host; rw [h]

theorem State.drain_holdoff (s : State) : s.drain.host.attnHoldoff = s.host.attnHoldoff := by
  obtain ⟨_, _, _, _, _, h⟩ := s.drain_host; rw [h]

theorem State.drain_frozen (s : State) : s.drain.host.frozen = s.host.frozen := by
  obtain ⟨_, _, _, _, _, h⟩ := s.drain_host; rw [h]

theorem State.drain_inFlr (s : State) : s.drain.host.inFlr = s.host.inFlr := by
  obtain ⟨_, _, _, _, _, h⟩ := s.drain_host; rw [h]

theorem State.drain_poison (s : State) : s.drain.host.poison = s.host.poison := by
  obtain ⟨_, _, _, _, _, h⟩ := s.drain_host; rw [h]

theorem State.assert_power (s : State) : s.assert.host.power = s.host.power := by
  unfold State.assert State.message
  dsimp only
  split
  · rw [State.drain_power]
    simp only [State.enqueue]
    rw [(State.bumpRg_keeps _ _ _ _).khost rfl]
    split
    · rw [(State.leaveL1_keeps _).khost rfl]
    · rfl
  · rfl

/-- An interrupt taken in a low-power link state brings the link to L0, else the link stays (R276). -/
theorem State.assert_link (s : State) (h : s.link.ltssm = .l0) : s.assert.link = s.link := by
  unfold State.assert State.message
  dsimp only
  split
  · rw [(State.drain_keeps _).klink rfl]
    simp only [State.enqueue]
    rw [(State.bumpRg_keeps _ _ _ _).klink rfl]
    rw [show s.inL1 = false by simp [State.inL1, h]]
    rfl
  · rfl

/-- A message of no owner that is not poisoned only joins the wire. -/
theorem State.left_plain (s : State) (t : Tlp) (ho : t.owner = .none) (he : t.ep = false) :
    s.left t = { s with host := { s.host with wire := s.host.wire ++ [t] } } := by
  unfold State.left
  simp only [ho, he]
  rfl

/-- A pass over a queue of one posted message that nothing holds back. -/
theorem leavePass_one (s : State) (t : Tlp) (hs : s.stays t false false false = false) (hp : t.kind.posted = true) (hc : t.kind.cpl = false)
    (ho : t.owner = .none) (he : t.ep = false) :
    leavePass s [t] false false false = ({ s with host := { s.host with pCredit := s.host.pCredit - 1, wire := s.host.wire ++ [t] } }, []) := by
  rw [leavePass_cons, hs, if_neg (by decide)]
  unfold State.takeCredit
  rw [hc, if_neg (by decide), if_pos hp, State.left_plain _ _ ho he]
  rfl

/-- The queue of one message that nothing holds back drains at once. -/
theorem State.drain_one (s : State) (t : Tlp) (hq : s.host.queue = [t]) (hb : s.host.blocked = [])
    (hs : State.stays { s with host := { s.host with queue := [] } } t false false false = false) (hp : t.kind.posted = true)
    (hc : t.kind.cpl = false) (ho : t.owner = .none) (he : t.ep = false) :
    s.drain = { s with host := { s.host with queue := [], pCredit := s.host.pCredit - 1, wire := s.host.wire ++ [t] } } := by
  have e := leavePass_one { s with host := { s.host with queue := [] } } t hs hp hc ho he
  let f : State → State := fun s =>
    let r := leavePass { s with host := { s.host with queue := [] } } s.host.queue false false false
    let s := { r.1 with host := { r.1.host with queue := r.2 } }
    let a := admitBlocked (512 - s.postedHeld) s.host.queue s.host.blocked
    { s with host := { s.host with queue := a.1, blocked := a.2 } }
  have hf : f s = { s with host := { s.host with queue := [], pCredit := s.host.pCredit - 1, wire := s.host.wire ++ [t] } } := by
    have hg : ∀ r : State × List Tlp, leavePass { s with host := { s.host with queue := [] } } [t] false false false = r → f s =
        (let x : State := { r.1 with host := { r.1.host with queue := r.2 } }
         let a := admitBlocked (512 - x.postedHeld) x.host.queue x.host.blocked
         { x with host := { x.host with queue := a.1, blocked := a.2 } }) := by
      intro r h; subst h; rw [← hq]
    rw [hg _ e]
    simp only [hb, admitBlocked]
  have d : s.drain = (let s := f s; if s.host.blocked.isEmpty then (if s.host.queue.isEmpty then s else f s) else f (f s)) := rfl
  rw [d, hf]
  simp only [hb]
  rfl

/-- A message that nothing holds back leaves at once. -/
theorem State.sends_now (s : State) (t : Tlp) (h : s.SendsNow) (hf : t.kind.free = true) (hp : t.kind.posted = true)
    (hi : t.kind.intx = true → s.host.power = .d0) (hc : t.kind.cpl = false) (ho : t.owner = .none) (he : t.ep = false) :
    (s.enqueue t).drain = { s with host := { s.host with pCredit := s.host.pCredit - 1, wire := s.host.wire ++ [t] } } := by
  obtain ⟨h1, h2, h3, h4, h5, h6⟩ := h
  have hn : ¬ s.host.pCredit = 0 := by omega
  have hs : State.stays { (s.enqueue t) with host := { (s.enqueue t).host with queue := [] } } t false false false = false := by
    cases hk : t.kind.intx with
    | false => simp [State.stays, hf, hp, hc, State.mayMessage, State.enqueue, h1, h2, h6, hn, hk]
    | true => simp [State.stays, hf, hp, hc, State.mayMessage, State.enqueue, h1, h2, h6, hn, hk, hi hk]
  rw [State.drain_one (s.enqueue t) t (by simp [State.enqueue, h3]) h4 hs hp hc ho he]
  simp [State.enqueue, h3]

/-- Every byte of memory after a write with byte enables. -/
theorem memByte_memWriteEn (d : List (Byte × Bool)) (m : List Host.Cell) (a x : Nat) (h : Memory.wf m = true) :
    memByte (memWriteEn m a d) x = byteAfter m a d x := by
  induction d generalizing m a with
  | nil => simp [memWriteEn, byteAfter]
  | cons e d ih =>
    obtain ⟨b, e⟩ := e
    have hw : Memory.wf (if e then kvSet memDefault m a b else m) = true := by
      split
      · exact kvSet_wf m a b h
      · exact h
    have hb : memByte (if e then kvSet memDefault m a b else m) x = if x = a ∧ e = true then b else memByte m x := by
      cases e
      · simp
      · simp only [memByte, if_true, and_true]
        exact kvGet_kvSet m a x b (wf_rises m h)
    simp only [memWriteEn]
    rw [ih _ _ hw]
    unfold byteAfter
    rw [hb]
    by_cases h1 : x = a
    · subst h1
      simp
      cases e <;> simp
    · by_cases h2 : a ≤ x
      · have h3 : a + 1 ≤ x := by omega
        have h4 : x - a = (x - (a + 1)) + 1 := by omega
        simp [h1, h2, h3, h4]
      · have h3 : ¬ a + 1 ≤ x := by omega
        simp [h1, h2, h3]

/-- A plain request is admitted where the block serves the host. -/
theorem State.admits (s : State) (w : Window) (write : Bool) (r : MemReq) (h : s.ServesHost) (hr : r.Plain) :
    s.admitReq w write r = s.serveNow w write r := by
  obtain ⟨h1, h2, h3, h4, h5, h6, h7⟩ := h
  obtain ⟨r1, r2⟩ := hr
  simp [State.admitReq, State.serveGate, h1, h2, h3, h4, h5, r1, r2]

/-- With no wait met and nothing staged there is nothing to settle. -/
theorem State.settleStakes_none (s : State) (h : s.Settled) : s.settleStakes = s := by
  have r : s.releaseWaits = s := by
    unfold State.releaseWaits
    generalize s.g.waits.length + s.g.met.length = n
    cases n with
    | zero => rfl
    | succ n => simp [releaseLoop, h.1]
  unfold State.settleStakes
  simp only [r, h.2]
  rfl

end Sys2Proof.Machine
end

