-- ==== Sys2Proof/WellFormed.lean ====
section
/-! DEFINITION. Which operands a command of the table can carry.  exec is total: it gives every operand an effect, and cuts a message to its
fields; these checks say which terms are commands that the outside can send. -/

namespace Sys2Proof

/-- The fields of a fabric message are as wide as its header holds them, and the payload is at most 4,096 bytes (R646). -/
def Msg.fits (m : Msg) : Bool :=
  decide (m.dst < 2 ^ 12) && decide (m.src < 2 ^ 12) && decide (m.hop < 2 ^ 12) && decide (m.slice < 2 ^ 32) && decide (m.tag < 2 ^ 32)
    && decide (m.window < 2 ^ 12) && decide (m.aux < 2 ^ 16) && decide (m.addr < 2 ^ 64) && decide (m.payload.length ≤ 4096)
    && m.marks.all (fun g => decide (g < 64))

/-- Readings name sensors of the module, 0-89 (R92). -/
def sensorsKnown (l : List (Nat × Int)) : Bool := l.all (fun e => decide (e.1 < 90))

/-- An opcode table command with operands that it can carry. -/
def Instr.wellFormed : Instr → Bool
  | .stileWrite _ m | .writeAck _ m | .readReq _ m | .readRsp _ m | .remoteStakeAdd _ m | .remoteStakeSet _ m | .stakeRead _ m
  | .stakeAck _ m | .stakeRsp _ m | .messageRelay _ m | .mgmtRequest _ m | .sliceJoin _ m | .joinAck _ m | .heartbeat _ m
  | .faultReport _ m | .haltMessage _ m | .memberReset _ m | .powerLoss _ m | .timeAnnounce _ m | .timeSync _ m | .timeEcho _ m => m.fits
  | .powerOn _ l | .thermCapStep l | .moduleResetDeassert l => sensorsKnown l
  | .strapSample tries => tries.all (fun t => t.length == 4 && t.all (fun v => decide (v < 2 ^ 15)))
  | .ident _ a _ _ _ _ => decide (a < 2 ^ 12)
  | .portMarginCheck ms fs => ms.all (fun e => decide (e.1 < 13)) && fs.all (fun e => decide (e.1 < 13))
  | .dbInline _ d _ => d.length == 64
  | .rotSubmit _ d => d.length == 32
  | .cxlMemWrite _ d _ _ => d.length == 64
  | .bisnpResponse _ (some d) => d.length == 64
  | .fwData _ _ d => decide (d.length ≤ 1024)
  | _ => true

end Sys2Proof
end

