-- ==== Sys2Proof/Tests/Slice0.lean ====
section
/-! SUPPORT. Witnesses: for every clause of a statement a state and operands that meet all its conditions together; and small tests of
single steps.  A witness state is State.reset with the parts set that the conditions speak of. -/

open Sys2Proof Sys2Proof.Machine

namespace Sys2Proof.Tests

set_option Elab.async false

/-- The host is served at once and messages and writes of the Z20 leave at once. -/
def serve (s : State) : State :=
  let s : State := { s with link := { s.link with up := true, ltssm := .l0 }, pwr := { s.pwr with mode := .up, hold := [], aon := true } }
  let s : State := { s with host := { s.host with inFlr := false, power := .d0, frozen := false, queue := [], blocked := [], pCredit := 100, npCredit := 100 } }
  s.setCfg 4 6
/-- No wait that was met and no staged inline descriptor. -/
def settled (s : State) : State :=
  { s with g := { s.g with met := [], staging := [], furrows := s.g.furrows.map (fun (e : Nat × Furrow) => (e.1, { e.2 with early := [] })) } }
/-- Firmware runs and nothing else has the dictionary. -/
def firm (s : State) : State := { s with hl := { s.hl with running := true }, pwr := { s.pwr with aon := true }, fw := {} }
/-- Slot n asks for an operation and it is its turn. -/
def slotReq (s : State) (n op txn : Nat) (b : List Byte) : State :=
  (({ firm s with mir := { order := [n] }, hop := { s.hop with waiting := [] }, dict := { banks := s.dict.banks } } : State).setSlot n
    { state := 1, op := op, txn := txn, bodyLen := b.length }).areaWrite (slotBase n + 0x100) b

/-- The host is served and its three windows stand at addresses of their own. -/
def bars (s : State) : State :=
  let s := (((((serve s).setCfg 0x010 4).setCfg 0x014 0).setCfg 0x018 0x10000004).setCfg 0x01C 0).setCfg 0x020 0xC
  let s := (s.setCfg 0x024 1).setCfg 0x188 (0x24 + 10 * 2 ^ 8)
  { s with pwr := { s.pwr with scrub := [] }, coh := {}, host := { s.host with poison := [] }, latch := [] }

/-- Parts set as several witnesses need them. -/
def base1 (s : State) : State :=
  ((({ s with plots := [], hbm := [(0x20005, 9)], g := { met := [], staging := [] }, drill := {}, fab := { ports := [(0, { state := .up, lanes := 8, peer := 1, peerPort := 2, credits := [100, 100, 100], timing := 300, voltage := 40 }), (4, { state := .up, lanes := 8, peer := 1, peerPort := 2, credits := [100, 100, 100], timing := 300, voltage := 40 })] }, slice := { state := .active, id := 7, mgrAddr := 0 }, mgr := { state := .active, members := [1, 2], heartbeats := [(1, 50), (2, 60)] }, coh := {}, seed := {}, rot := {}, plat := {}, flt := {}, mig := {}, time := {}, hl := { s.hl with running := true }, dict := {}, mir := {}, fc := { s.fc with packageFenced := false }, reg := s.reg.filter (fun c => (c.1 < 0x70000 || 0x80000 ≤ c.1) && (c.1 < 0x40000 || 0x60000 ≤ c.1)), pwr := { s.pwr with scrub := [], refEver := true }, host := { s.host with poison := [] } } : State).setVal O.pkgAddr 0).setVal O.pkgAddrValid 1).setVal O.portEnable 0x1FFF

/-- Parts set as several witnesses need them. -/
def base2 (s : State) : State :=
  ((({ s with plots := [], hbm := [(0x20005, 9)], g := { met := [], staging := [] }, drill := {}, fab := { ports := [(0, { state := .up, lanes := 8, peer := 1, peerPort := 2, credits := [100, 100, 100], timing := 300, voltage := 40 }), (4, { state := .up, lanes := 8, peer := 1, peerPort := 2, credits := [100, 100, 100], timing := 300, voltage := 40 })], reqs := [{ tag := 77, kind := .readReq, dst := 8, owner := .row 2 7 0 64, deadline := some 900, port := 4 }] }, slice := {}, mgr := {}, coh := {}, seed := {}, rot := {}, plat := {}, flt := {}, mig := {}, time := {}, hl := { s.hl with running := true }, dict := {}, mir := {}, fc := { s.fc with packageFenced := false }, reg := s.reg.filter (fun c => (c.1 < 0x70000 || 0x80000 ≤ c.1) && (c.1 < 0x40000 || 0x60000 ≤ c.1)), pwr := { s.pwr with scrub := [], refEver := true }, host := { s.host with poison := [] } } : State).setVal O.pkgAddr 0).setVal O.pkgAddrValid 1).setVal O.portEnable 0x1FFF

/-- Parts set as several witnesses need them. -/
def base3 (s : State) : State :=
  ((({ s with plots := [], hbm := [(0x20005, 9)], g := { met := [], staging := [] }, drill := {}, fab := { ports := [(0, { state := .up, lanes := 8, peer := 1, peerPort := 2, credits := [100, 100, 100], timing := 300, voltage := 40 }), (4, { state := .up, lanes := 8, peer := 1, peerPort := 2, credits := [100, 100, 100], timing := 300, voltage := 40 })] }, slice := {}, mgr := { state := .forming, members := [1], acks := [(0, 0, 0xFFFFFFFF)] }, coh := {}, seed := {}, rot := {}, plat := {}, flt := {}, mig := {}, time := {}, hl := { s.hl with running := true }, dict := {}, mir := {}, fc := { s.fc with packageFenced := false }, reg := s.reg.filter (fun c => (c.1 < 0x70000 || 0x80000 ≤ c.1) && (c.1 < 0x40000 || 0x60000 ≤ c.1)), pwr := { s.pwr with scrub := [], refEver := true }, host := { s.host with poison := [] } } : State).setVal O.pkgAddr 0).setVal O.pkgAddrValid 1).setVal O.portEnable 0x1FFF

/-- Parts set as several witnesses need them. -/
def base4 (s : State) : State :=
  ((({ s with plots := [], hbm := [(0x20005, 9)], g := { met := [], staging := [] }, drill := {}, fab := { ports := [(0, { state := .up, lanes := 8, peer := 1, peerPort := 2, credits := [100, 100, 100], timing := 300, voltage := 40 }), (4, { state := .up, lanes := 8, peer := 1, peerPort := 2, credits := [100, 100, 100], timing := 300, voltage := 40 })] }, slice := { state := .active, id := 5, mgrAddr := 1 }, mgr := {}, coh := {}, seed := {}, rot := {}, plat := {}, flt := {}, mig := {}, time := {}, hl := { s.hl with running := true }, dict := {}, mir := {}, fc := { s.fc with packageFenced := false }, reg := s.reg.filter (fun c => (c.1 < 0x70000 || 0x80000 ≤ c.1) && (c.1 < 0x40000 || 0x60000 ≤ c.1)), pwr := { s.pwr with scrub := [], refEver := true }, host := { s.host with poison := [] } } : State).setVal O.pkgAddr 0).setVal O.pkgAddrValid 1).setVal O.portEnable 0x1FFF

/-- Parts set as several witnesses need them. -/
def base5 (s : State) : State :=
  ((({ s with plots := [], hbm := [(0x20005, 9)], g := { met := [], staging := [] }, drill := {}, fab := { ports := [(0, { state := .up, lanes := 8, peer := 1, peerPort := 2, credits := [100, 100, 100], timing := 300, voltage := 40 }), (4, { state := .up, lanes := 8, peer := 1, peerPort := 2, credits := [100, 100, 100], timing := 300, voltage := 40 })] }, slice := { state := .active, id := 7, mgrAddr := 1 }, mgr := {}, coh := {}, seed := {}, rot := {}, plat := {}, flt := {}, mig := {}, time := {}, hl := { s.hl with running := true }, dict := {}, mir := {}, fc := { s.fc with packageFenced := false }, reg := s.reg.filter (fun c => (c.1 < 0x70000 || 0x80000 ≤ c.1) && (c.1 < 0x40000 || 0x60000 ≤ c.1)), pwr := { s.pwr with scrub := [], refEver := true }, host := { s.host with poison := [] } } : State).setVal O.pkgAddr 0).setVal O.pkgAddrValid 1).setVal O.portEnable 0x1FFF

/-- Parts set as several witnesses need them. -/
def base6 (s : State) : State :=
  ((({ s with plots := [], hbm := [(0x20005, 9)], g := { met := [], staging := [], stakes := [(10, 7)] }, drill := {}, fab := { ports := [(0, { state := .up, lanes := 8, peer := 1, peerPort := 2, credits := [100, 100, 100], timing := 300, voltage := 40 }), (4, { state := .up, lanes := 8, peer := 1, peerPort := 2, credits := [100, 100, 100], timing := 300, voltage := 40 })] }, slice := {}, mgr := {}, coh := {}, seed := {}, rot := {}, plat := {}, flt := {}, mig := {}, time := {}, hl := { s.hl with running := true }, dict := {}, mir := {}, fc := { s.fc with packageFenced := false }, reg := s.reg.filter (fun c => (c.1 < 0x70000 || 0x80000 ≤ c.1) && (c.1 < 0x40000 || 0x60000 ≤ c.1)), pwr := { s.pwr with scrub := [], refEver := true }, host := { s.host with poison := [] } } : State).setVal O.pkgAddr 0).setVal O.pkgAddrValid 1).setVal O.portEnable 0x1FFF

/-- Parts set as several witnesses need them. -/
def base7 (s : State) : State :=
  ((({ s with plots := [], hbm := [(0x20005, 9)], g := { met := [], staging := [] }, drill := {}, fab := { ports := [(0, { state := .up, lanes := 8, peer := 1, peerPort := 2, credits := [100, 100, 100], timing := 300, voltage := 40 }), (4, { state := .up, lanes := 8, peer := 1, peerPort := 2, credits := [100, 100, 100], timing := 300, voltage := 40 })] }, slice := {}, mgr := {}, coh := {}, seed := {}, rot := {}, plat := {}, flt := {}, mig := {}, time := {}, hl := { s.hl with running := true }, dict := {}, mir := {}, fc := { s.fc with packageFenced := false }, reg := s.reg.filter (fun c => (c.1 < 0x70000 || 0x80000 ≤ c.1) && (c.1 < 0x40000 || 0x60000 ≤ c.1)), pwr := { s.pwr with scrub := [], refEver := true }, host := { s.host with poison := [] } } : State).setVal O.pkgAddr 0).setVal O.pkgAddrValid 1).setVal O.portEnable 0x1FFF

/-- Parts set as several witnesses need them. -/
def base8 (s : State) : State :=
  { s with flt := {}, drill := {}, fab := {}, rot := {}, host := { s.host with tags := [] }, g := {}, mig := {}, plat := { walks := [{ id := 1, kind := .table, stream := .gleaner 4, ctx := 1, pasid := 5, priv := false, space := .host, va := 0x4123, access := .read }], queue := [], executing := none, cache := [{ pasid := 5, space := .host, va := 0x1000, size := 0x1000, base := .host 0x8000, r := true, w := true, a := true, source := .table }, { pasid := 6, space := .host, va := 0x1000, size := 0x1000, base := .host 0x8000, r := true, w := true, a := true, source := .table }] } }

/-- Parts set as several witnesses need them. -/
def base9 (s : State) : State :=
  { s with plots := [(3, { state := .idle }), (5, { state := .idle }), (9, { state := .idle, furrow := 3, seq := 4, mask := 8, bypass := true, prog := some { id := 1, pasid := 5, crc := 0, views := [], cmds := [0, 0] } })], g := { furrows := [(3, { state := .enabled })], store := [{ furrow := 3, seq := 4, state := .sown, d := { opcode := 2, body := natLe 20 0 ++ natLe 2 0x28 ++ natLe 26 0 } }] }, drill := {}, fab := {}, coh := {}, seed := {}, plat := {}, flt := {}, rot := {}, time := {}, slice := {}, fc := {}, pwr := { s.pwr with plotHeldOff := 0, aon := true } }

/-- Parts set as several witnesses need them. -/
def base10 (s : State) : State :=
  { s with rot := {}, drill := {}, g := {}, plat := {}, flt := {}, coh := {}, host := { s.host with poison := [] }, hl := { s.hl with running := true }, seed := { state := .ready, lots := [(3, { state := .draft, pasid := 5, size := 1, dlvBase := 4, rights := 7, key := 2, gens := [{ num := 8, base := none, data := [(5, 7)] }], draft := some { data := [(9, 9)], base := some 8, prior := .ready } })] }, pwr := { s.pwr with aon := true, mode := .up, nandPause := false, perst := false, scrub := [] }, fc := { s.fc with packageFenced := false } }

/-- Parts set as several witnesses need them. -/
def base11 (s : State) : State :=
  { s with rot := {}, drill := {}, g := {}, plat := {}, flt := {}, coh := {}, host := { s.host with poison := [] }, hl := { s.hl with running := true }, seed := { state := .ready, lots := [(3, { state := .ready, pasid := 5, size := 1, dlvBase := 4, rights := 7, key := 2, gens := [{ num := 8, base := none, data := [(5, 7)] }] })] }, pwr := { s.pwr with aon := true, mode := .up, nandPause := false, perst := false, scrub := [] }, fc := { s.fc with packageFenced := false } }

/-- Parts set as several witnesses need them. -/
def base12 (s : State) : State :=
  { s with flt := {}, drill := {}, fab := {}, rot := {}, host := { s.host with tags := [] }, g := {}, mig := {}, plat := { walks := [], queue := [], executing := none, cache := [{ pasid := 5, space := .host, va := 0x1000, size := 0x1000, base := .host 0x8000, r := true, w := true, a := true, source := .table }, { pasid := 6, space := .host, va := 0x1000, size := 0x1000, base := .host 0x8000, r := true, w := true, a := true, source := .table }] } }

/-- Parts set as several witnesses need them. -/
def base13 (s : State) : State :=
  { s with rot := {}, drill := {}, g := {}, plat := {}, flt := {}, coh := {}, host := { s.host with poison := [] }, hl := { s.hl with running := true }, seed := { state := .ready, lots := [(3, { state := .rotating, pasid := 5, size := 1, dlvBase := 4, rights := 7, key := 2 })] }, pwr := { s.pwr with aon := true, mode := .up, nandPause := false, perst := false, scrub := [] }, fc := { s.fc with packageFenced := false } }

/-- Parts set as several witnesses need them. -/
def base14 (s : State) : State :=
  { s with rot := {}, drill := {}, g := {}, plat := {}, flt := {}, coh := {}, host := { s.host with poison := [] }, hl := { s.hl with running := true }, seed := { state := .ready, lots := [(3, { state := .ready, pasid := 5, size := 1, dlvBase := 4, rights := 7, key := 2 })] }, pwr := { s.pwr with aon := true, mode := .up, nandPause := false, perst := false, scrub := [] }, fc := { s.fc with packageFenced := false } }

/-- Parts set as several witnesses need them. -/
def base15 (s : State) : State :=
  { s with plots := [], g := {}, drill := { rows := [(2, {})] }, fab := {}, coh := {}, seed := {}, plat := {}, flt := {}, rot := {}, mig := {}, hbm := [(0x10005, 9), (0x10012, 7)], reg := s.reg.filter (fun c => (c.1 < 0x280000 || 0x300000 ≤ c.1) && (c.1 < 0x70000 || 0x80000 ≤ c.1)), pwr := { s.pwr with scrub := [], plotHeldOff := 0 }, host := { s.host with poison := [], tags := [], blocked := [] } }

/-- Parts set as several witnesses need them. -/
def base16 (s : State) : State :=
  { s with fc := { queue := [{ source := 0x142, cls := .corrected, seq := some 7 }] }, slice := {}, mgr := {}, plots := [], g := {}, drill := {}, fab := {}, rot := {}, seed := {}, plat := {}, flt := {}, coh := {}, time := {}, hl := { s.hl with running := true }, dict := {}, mir := {}, fw := {}, pwr := { s.pwr with aon := true, mode := .up, plotHeldOff := 0 } }

/-- Parts set as several witnesses need them. -/
def base17 (s : State) : State :=
  { s with fc := { railOn := [(3, 5), (17, 5)], railAgreed := 2 ^ 38 - 1 }, slice := {}, mgr := {}, plots := [], g := {}, drill := {}, fab := {}, rot := {}, seed := {}, plat := {}, flt := {}, coh := {}, time := {}, hl := { s.hl with running := true }, dict := {}, mir := {}, fw := {}, pwr := { s.pwr with aon := true, mode := .up, plotHeldOff := 0 } }

/-- Parts set as several witnesses need them. -/
def base18 (s : State) : State :=
  { s with rot := { entries := [{ ticket := 1, raw := [], lot := 3, flags := 1, gen := 0xFFFFFFFF, sownStake := 0, reapedStake := 0, doneStake := 0, doneValue := 0, trainLimit := 60, state := .sown, acres := [100], held := true }] }, hbm := [], reg := s.reg.filter (fun c => c.1 < 0x280000 || 0x300000 ≤ c.1), dict := {}, fw := {}, mir := {} }

/-- Parts set as several witnesses need them. -/
def base19 (s : State) : State :=
  { s with rot := {}, drill := {}, g := {}, plat := {}, flt := {}, coh := {}, host := { s.host with poison := [] }, hl := { s.hl with running := true }, seed := { state := .host, order := [(3, 4)] }, pwr := { s.pwr with aon := true, mode := .up, nandPause := false, perst := false, scrub := [] }, fc := { s.fc with packageFenced := false } }

/-- Parts set as several witnesses need them. -/
def base20 (s : State) : State :=
  { s with drill :=  { rows := [(2, { state := .active, xfers := [{ id := 7, src := .furrow 3 4, pasid := 5, begun := true, readAuth := 64, pressAuth := 64, readPos := 64, pieces := [{ off := 0, len := 64, data := [], arrived := false }], d := { opcode := 1, body := natLe 8 0 ++ natLe 8 0 ++ natLe 4 64 ++ natLe 1 0x13 ++ natLe 27 0 } }] })] } }

/-- Parts set as several witnesses need them. -/
def base21 (s : State) : State :=
  { s with rot := {}, drill := {}, g := {}, plat := {}, flt := {}, coh := {}, host := { s.host with poison := [] }, hl := { s.hl with running := true }, seed := { state := .ready }, pwr := { s.pwr with aon := true, mode := .up, nandPause := false, perst := false, scrub := [] }, fc := { s.fc with packageFenced := false } }

/-- Parts set as several witnesses need them. -/
def base22 (s : State) : State :=
  { s with fc := { armedUntil := some 9 }, slice := {}, mgr := {}, plots := [], g := {}, drill := {}, fab := {}, rot := {}, seed := {}, plat := {}, flt := {}, coh := {}, time := {}, hl := { s.hl with running := true }, dict := {}, mir := {}, fw := {}, pwr := { s.pwr with aon := true, mode := .up, plotHeldOff := 0 } }

/-- Parts set as several witnesses need them. -/
def base23 (s : State) : State :=
  { s with fc := { tail := 9 }, slice := {}, mgr := {}, plots := [], g := {}, drill := {}, fab := {}, rot := {}, seed := {}, plat := {}, flt := {}, coh := {}, time := {}, hl := { s.hl with running := true }, dict := {}, mir := {}, fw := {}, pwr := { s.pwr with aon := true, mode := .up, plotHeldOff := 0 } }

/-- Parts set as several witnesses need them. -/
def base24 (s : State) : State :=
  { s with rot := { entries := [{ ticket := 1, raw := [], lot := 3, flags := 1, gen := 0xFFFFFFFF, sownStake := 0, reapedStake := 0, doneStake := 0, doneValue := 0, trainLimit := 60 }] }, hbm := [], reg := s.reg.filter (fun c => c.1 < 0x280000 || 0x300000 ≤ c.1), dict := {}, fw := {}, mir := {} }

/-- Parts set as several witnesses need them. -/
def base25 (s : State) : State :=
  { s with fc := {}, slice := {}, mgr := {}, plots := [], g := {}, drill := {}, fab := {}, rot := {}, seed := {}, plat := {}, flt := {}, coh := {}, time := {}, hl := { s.hl with running := true }, dict := {}, mir := {}, fw := {}, pwr := { s.pwr with aon := true, mode := .up, plotHeldOff := 0 } }

/-- Parts set as several witnesses need them. -/
def base26 (s : State) : State :=
  { s with plots := [], flt := { entries := [{ handle := 6, gen := 2, pasid := 5, priv := false, space := .host, page := 0x4000, access := .read, reason := 1, level := 0, streams := [(.gleaner 4, 0x4123)], pri := true, prg := some 3 }], prgs := [(3, 5, [6])] } }

/-- Parts set as several witnesses need them. -/
def base27 (s : State) : State :=
  { s with host := { s.host with poison := [] }, link := { s.link with protocol := 1 }, coh := { hdmSize := 0x10000000, dcc := [(7, true, List.replicate 64 9)] }, pwr := { s.pwr with scrub := [] }, reg := s.reg.filter (fun c => c.1 < 0x800 || 0x880 ≤ c.1) }

/-- Parts set as several witnesses need them. -/
def base28 (s : State) : State :=
  { s with plots := [], flt := { entries := [{ handle := 6, gen := 2, pasid := 5, priv := false, space := .host, page := 0x4000, access := .read, reason := 1, level := 0, streams := [(.gleaner 4, 0x4123)], pri := false, recorded := true, batch := 9 }] } }

/-- Parts set as several witnesses need them. -/
def base29 (s : State) : State :=
  { s with plots := [], flt := { entries := [{ handle := 6, gen := 2, pasid := 5, priv := false, space := .host, page := 0x4000, access := .read, reason := 1, level := 0, streams := [(.gleaner 4, 0x4123)], pri := false, recorded := true }] } }

/-- Parts set as several witnesses need them. -/
def base30 (s : State) : State :=
  ({ s with pwr := { s.pwr with mode := .up, aon := true, hold := [], plotHeldOff := 0 }, hl := { s.hl with running := true }, dict := {}, host := { s.host with power := .d0 }, plots := [], drill := {}, seed := {}, rot := {}, slice := {}, g := {} } : State)

/-- Parts set as several witnesses need them. -/
def base31 (s : State) : State :=
  { s with g := { s.g with store := [{ furrow := 3, seq := 4, d := { opcode := 2, body := [0,0,0,0,0,0,0,0, 0,0,0,0,0,0,0,0, 64,0,0,0, 3,0] ++ List.replicate 10 0 }, inl := true, pasid := 0, state := .started, endMask := 3, halfMask := 3 }] } }

/-- Parts set as several witnesses need them. -/
def base32 (s : State) : State :=
  { s with plots := [], flt := { entries := [{ handle := 6, gen := 2, pasid := 5, priv := false, space := .host, page := 0x4000, access := .read, reason := 1, level := 0, streams := [(.gleaner 4, 0x4123)], pri := false }] } }

/-- Parts set as several witnesses need them. -/
def base33 (s : State) : State :=
  (((({ s with g := { s.g with store := [], staging := [], waits := [], stakes := [] } } : State).setFur 3 { state := .enabled, tail := 2 }).setRg (Rg.fctx 3 0) 0x1004)).setRg (Rg.fctx 3 0x10) (256 + 16 * 2 ^ 32)

/-- Parts set as several witnesses need them. -/
def base34 (s : State) : State :=
  { s with hl := { s.hl with running := false, bootState := 0, full := 3, genuine := 3, bootA := {}, bootB := {} }, pwr := { s.pwr with aon := true, modrst := false, mode := .starting } }

/-- Parts set as several witnesses need them. -/
def base35 (s : State) : State :=
  { firm s with dict := { s.dict with locks := [] }, fw := { status := .receiving, owner := some .F, length := 100, received := 100 }, cal := { s.cal with busy := none } }

/-- Parts set as several witnesses need them. -/
def base36 (s : State) : State :=
  { s with rot := { entries := [] }, hbm := [], reg := s.reg.filter (fun c => c.1 < 0x280000 || 0x300000 ≤ c.1), dict := {}, fw := {}, mir := {} }

/-- Parts set as several witnesses need them. -/
def base37 (s : State) : State :=
  { firm s with dict := {}, mir := {}, hop := { s.hop with waiting := [] }, stw := {}, pwr := { s.pwr with mode := .up, aon := true } }

/-- Parts set as several witnesses need them. -/
def base38 (s : State) : State :=
  { s with mig := { hostMode := false }, plat := { s.plat with parcels := [], queue := [] }, pwr := { s.pwr with scrub := [] } }

/-- Parts set as several witnesses need them. -/
def base39 (s : State) : State :=
  { s with host := { s.host with tags := [{ tag := 9, owner := .furrowRing 3 0 2, addr := 0x1000, len := 128, at_ := 7 }] } }

/-- Parts set as several witnesses need them. -/
def base40 (s : State) : State :=
  { s with host := { s.host with tags := [{ tag := 9, owner := .row 3 1 0, addr := 0x1000, len := 128, at_ := 7 }] } }

/-- Parts set as several witnesses need them. -/
def base41 (s : State) : State :=
  ({ s with pwr := { s.pwr with mode := .fallow, aon := true }, hl := { s.hl with running := true }, dict := {} } : State)

/-- Parts set as several witnesses need them. -/
def base42 (s : State) : State :=
  { s with host := { s.host with tags := [{ tag := 9, owner := .furrowRing 3 0 2, addr := 0x1000, len := 128 }] } }

/-- Parts set as several witnesses need them. -/
def base43 (s : State) : State :=
  { firm s with dict := { s.dict with locks := [] }, fw := {}, cal := { s.cal with busy := none } }

/-- Parts set as several witnesses need them. -/
def base44 (s : State) : State :=
  { s with dict := { s.dict with txns := [(.H, { id := 9, last := 5 })], locks := [] }, fw := {} }

/-- Parts set as several witnesses need them. -/
def base45 (s : State) : State :=
  { s with reg := s.reg.filter (fun c => c.1 < 0x280000 || 0x300000 ≤ c.1) }

/-- Parts set as several witnesses need them. -/
def base46 (s : State) : State :=
  ({ s with g := { s.g with stakes := [(5, 7)], waits := [] } } : State)

/-- Parts set as several witnesses need them. -/
def base47 (s : State) : State :=
  { firm s with dict := { s.dict with locks := [] } }

/-- Parts set as several witnesses need them. -/
def base48 (s : State) : State :=
  { s with pwr := { s.pwr with perst := false } }

/-- Parts set as several witnesses need them. -/
def base49 (s : State) : State :=
  { s with hbm := [(100 * 0x4000000 + 5, 7)] }

/-- A reading stands no lower than what the sensor gave. -/
theorem reading_ge (s : State) (n : Nat) (v : Int) (h : s.sensorBad n = false) (k : v ≤ sext 16 (kvGet 0 s.pwr.temps n)) : v ≤ s.reading n := by
  unfold State.reading
  simp only [h, Bool.false_eq_true, if_false]
  split <;> omega

/-- A maximum stands no lower than what it starts from. -/
theorem fold_max_ge {α : Type} (f : α → Int) : ∀ (l : List α) (m v : Int), v ≤ m → v ≤ l.foldl (fun k i => max k (f i)) m
  | [], _, _, h => h
  | _ :: l, _, _, h => fold_max_ge f l _ _ (Int.le_trans h (Int.le_max_left _ _))

/-- The margin of the logic class is small where its first sensor is hot. -/
theorem margin_le (s : State) (v m : Int) (h : v ≤ s.reading 0) (k : s.thrAt 0 - v ≤ m) : s.marginOf s.closest ≤ m := by
  have e : ∃ l, (List.range 90).filter (fun n => thermClass n == 0) = 0 :: l := ⟨_, rfl⟩
  obtain ⟨l, e⟩ := e
  have g : v ≤ s.hottest 0 := by
    unfold State.hottest
    rw [e]
    exact fold_max_ge _ _ _ _ h
  have c : s.marginOf s.closest ≤ s.marginOf 0 := by
    unfold State.closest
    simp only [List.foldl]
    split <;> split <;> omega
  have o : s.marginOf 0 = s.thrAt 0 - s.hottest 0 := rfl
  omega

/-- The little-endian bytes of a number give it back. -/
theorem leNat_natLe : ∀ (n v : Nat), leNat (natLe n v) = v % 2 ^ (8 * n)
  | 0, v => by simp [natLe, leNat, Nat.mod_one]
  | n + 1, v => by
    unfold natLe leNat
    rw [leNat_natLe n (v / 256), BitVec.toNat_ofNat, show 8 * (n + 1) = 8 + 8 * n by omega, Nat.pow_add, Nat.mod_mul]

theorem natLe_length : ∀ (n v : Nat), (natLe n v).length = n
  | 0, _ => rfl
  | n + 1, v => by unfold natLe; simp [natLe_length n]

/-- A frame for this module: its address, the bytes up to the payload, the payload and the tag. -/
def frameFor (key mid p : List Byte) : List Byte :=
  natLe 6 Config.macAddr ++ (mid ++ (p ++ hopTag key (natLe 6 Config.macAddr ++ (mid.take 6 ++ p))))

/-- Such a frame is authentic, and carries the request of its payload. -/
theorem frameFor_authentic (s : State) (mid p : List Byte) (hm : mid.length = 8) (hp : p.length = 20) (he : mid.drop 6 = [0x88, 0xB5])
    (h : bytesAt p 0 1 = 1 ∧ bytesAt p 1 1 = 1 ∧ bytesAt p 4 1 = s.node ∧ bytesAt p 2 1 ≠ 0 ∧ bytesAt p 6 2 = 0) :
    s.Authentic (frameFor s.fieldKey mid p) ∧ (hopRequest (frameFor s.fieldKey mid p)).op = bytesAt p 2 1 ∧
      (hopRequest (frameFor s.fieldKey mid p)).nonce = bytesAt p 8 4 := by
  obtain ⟨h0, h1, h4, h2, h6⟩ := h
  have d : ∀ (n : Nat) (a : List Byte), n ≤ 20 → ∀ k, n + k ≤ 20 → bytesAt (p ++ a) n k = bytesAt p n k := by
    intro n a hn k hk
    unfold bytesAt
    rw [List.drop_append_of_le_length (by omega), List.take_append_of_le_length (by rw [List.length_drop]; omega)]
  have l6 := natLe_length 6 Config.macAddr
  have e14 : ∀ a : List Byte, (natLe 6 Config.macAddr ++ (mid ++ a)).drop 14 = a := by
    intro a
    rw [List.drop_append, l6, List.drop_eq_nil_of_le (by omega), List.nil_append, List.drop_append, hm,
      List.drop_eq_nil_of_le (by omega)]
    rfl
  have e12 : ∀ a : List Byte, (natLe 6 Config.macAddr ++ (mid ++ a)).take 12 = natLe 6 Config.macAddr ++ mid.take 6 := by
    intro a
    rw [List.take_append, l6, List.take_of_length_le (by omega), List.take_append_of_le_length (by omega)]
  have t : ∀ a : List Byte, (p ++ a).take 20 = p := by
    intro a
    rw [List.take_append_of_le_length (by omega), List.take_of_length_le (by omega)]
  unfold State.Authentic hopRequest hopPayload frameFor
  simp only [e14, e12]
  rw [d 0 _ (by omega) 1 (by omega), d 1 _ (by omega) 1 (by omega), d 4 _ (by omega) 1 (by omega), d 2 _ (by omega) 1 (by omega),
    d 6 _ (by omega) 2 (by omega), d 8 _ (by omega) 4 (by omega), h6, t]
  refine ⟨⟨?_, ?_, ?_, h0, h1, h4, h2, ?_⟩, rfl, rfl⟩
  · unfold bytesAt
    rw [List.drop_zero, List.take_append_of_le_length (by omega), List.take_of_length_le (by omega), leNat_natLe]
  · rw [List.drop_append, l6, List.drop_eq_nil_of_le (by omega), List.nil_append, List.drop_append_of_le_length (by omega), he]
    rfl
  · rw [List.length_append, hp]
    have : (hopTag s.fieldKey (natLe 6 Config.macAddr ++ (mid.take 6 ++ p))).length ≤ 16 := List.length_take_le _ _
    omega
  · rw [List.drop_append_of_le_length (by omega), List.drop_eq_nil_of_le (by omega), List.nil_append, List.append_assoc]
    unfold hopTag
    rw [List.take_take, Nat.min_self]

/-! ### FurrowStatesComplete -/

def wst_FurrowStatesComplete_0 : State :=
  (fun (s : State) => (((({ s with g := {} } : State).setFur 0 { tail := 5, seq := 3 }).setRg (Rg.fctx 0 0) 4).setRg (Rg.fctx 0 0x10) 0x100).setRg (Rg.fctx 0 8) 1 |> fun s => { s with reg := s.reg.filter (fun c => c.1 < 0x280000 || 0x300000 ≤ c.1) } |> fun s => (s.setRg (Rg.pctx 1 0) (2 ^ 63 + 2 ^ 29 + 1))) State.reset
theorem wit_FurrowStatesComplete_0 : ∃ (n : Fin 4096), (wst_FurrowStatesComplete_0).Inv ∧ ((wst_FurrowStatesComplete_0).fur n).state = .disabled ∧
    (wst_FurrowStatesComplete_0).enableCheck n = 0 :=
  ⟨(0), by
    unfold State.Inv PlotsWf Plot.Wf Rises
    decide +kernel⟩

def wst_FurrowStatesComplete_1 : State :=
  (fun (s : State) => ({ s with g := { s.g with store := [], staging := [], met := [] } } : State).setFur 3 { state := .enabled, tail := 2 }) State.reset
theorem wit_FurrowStatesComplete_1 : ∃ (n : Fin 4096), (wst_FurrowStatesComplete_1).Inv ∧ ((wst_FurrowStatesComplete_1).fur n).state = .enabled ∧
    (wst_FurrowStatesComplete_1).slotsOf n = [] ∧ (wst_FurrowStatesComplete_1).stagedOf n = [] ∧ (wst_FurrowStatesComplete_1).Settled :=
  ⟨(3), by
    unfold State.Settled State.Inv PlotsWf Plot.Wf Rises
    decide +kernel⟩

def wst_FurrowStatesComplete_2 : State :=
  (fun (s : State) => ({ s with g := { s.g with store := [], staging := [] }, coh := {}, host := { s.host with queue := [], blocked := [], tags := [] } } : State).setFur 3 { state := .disabling, tail := 2 }) State.reset
theorem wit_FurrowStatesComplete_2 : ∃ (n : Fin 4096), (wst_FurrowStatesComplete_2).Inv ∧ ((wst_FurrowStatesComplete_2).fur n).state = .disabling ∧
    (wst_FurrowStatesComplete_2).slotsOf n = [] ∧ (wst_FurrowStatesComplete_2).stagedOf n = [] ∧ (wst_FurrowStatesComplete_2).furrowBusy n = false :=
  ⟨(3), by
    unfold State.Inv PlotsWf Plot.Wf Rises
    decide +kernel⟩

def wst_FurrowStatesComplete_3 : State :=
  (fun (s : State) => s.setFur 3 { state := .enabled, tail := 2 }) State.reset
theorem wit_FurrowStatesComplete_3 : ∃ (n : Fin 4096), (wst_FurrowStatesComplete_3).Inv ∧ ((wst_FurrowStatesComplete_3).fur n).state = .enabled :=
  ⟨(3), by
    unfold State.Inv PlotsWf Plot.Wf Rises
    decide +kernel⟩

def wst_FurrowStatesComplete_4 : State :=
  (fun (s : State) => ({ s with g := { s.g with store := [], staging := [] } } : State).setFur 3 { state := .draining, tail := 2, head := 2, drainTail := 2 }) State.reset
theorem wit_FurrowStatesComplete_4 : ∃ (n : Fin 4096), (wst_FurrowStatesComplete_4).Inv ∧ ((wst_FurrowStatesComplete_4).fur n).state = .draining ∧
    ((wst_FurrowStatesComplete_4).fur n).head = ((wst_FurrowStatesComplete_4).fur n).drainTail ∧ (wst_FurrowStatesComplete_4).slotsOf n = [] ∧
    (wst_FurrowStatesComplete_4).stagedOf n = [] :=
  ⟨(3), by
    unfold State.Inv PlotsWf Plot.Wf Rises
    decide +kernel⟩

def wst_FurrowStatesComplete_5 : State :=
  (fun (s : State) => s.setFur 3 { state := .error, tail := 2, errCode := 0xD1 }) State.reset
theorem wit_FurrowStatesComplete_5 : ∃ (n : Fin 4096), (wst_FurrowStatesComplete_5).Inv ∧ ((wst_FurrowStatesComplete_5).fur n).state = .error :=
  ⟨(3), by
    unfold State.Inv PlotsWf Plot.Wf Rises
    decide +kernel⟩

def wst_FurrowStatesComplete_6 : State :=
  State.reset
theorem wit_FurrowStatesComplete_6 : ∃ (_n : Fin 4096) (_p : Fin 8), (wst_FurrowStatesComplete_6).Inv :=
  ⟨(3), (5), by
    unfold State.Inv PlotsWf Plot.Wf Rises
    decide +kernel⟩

/-! ### FurrowContextsAndDoorbellsComplete -/

def wst_FurrowContextsAndDoorbellsComplete_0 : State :=
  (fun (s : State) => s.setFur 3 {}) State.reset
theorem wit_FurrowContextsAndDoorbellsComplete_0 : ∃ (n : Fin 4096) (v : Word) (_rid : Half), (wst_FurrowContextsAndDoorbellsComplete_0).Inv ∧
    ((wst_FurrowContextsAndDoorbellsComplete_0).fur n).state = .disabled ∧ log2Ok (fld v.toNat 4 0) = true :=
  ⟨(3), (0x12345006), (7), by
    unfold State.Inv PlotsWf Plot.Wf Rises
    decide +kernel⟩

def wst_FurrowContextsAndDoorbellsComplete_1 : State :=
  (fun (s : State) => s.setFur 3 {}) State.reset
theorem wit_FurrowContextsAndDoorbellsComplete_1 : ∃ (n : Fin 4096) (_v : Word) (_rid : Half), (wst_FurrowContextsAndDoorbellsComplete_1).Inv ∧
    ((wst_FurrowContextsAndDoorbellsComplete_1).fur n).state = .disabled :=
  ⟨(3), (0xFFFFFFFFFFFFFFFF), (7), by
    unfold State.Inv PlotsWf Plot.Wf Rises
    decide +kernel⟩

def wst_FurrowContextsAndDoorbellsComplete_2 : State :=
  (fun (s : State) => s.setFur 3 {}) State.reset
theorem wit_FurrowContextsAndDoorbellsComplete_2 : ∃ (n : Fin 4096) (v : Word) (_rid : Half), (wst_FurrowContextsAndDoorbellsComplete_2).Inv ∧
    ((wst_FurrowContextsAndDoorbellsComplete_2).fur n).state = .disabled ∧ 1 ≤ fld v.toNat 12 0 ∧ fld v.toNat 12 0 ≤ 4096 ∧ fld v.toNat 28 16 ≤ 4096 ∧
    fld v.toNat 38 32 ≤ 64 :=
  ⟨(3), (0x4000100100), (7), by
    unfold State.Inv PlotsWf Plot.Wf Rises
    decide +kernel⟩

def wst_FurrowContextsAndDoorbellsComplete_3 : State :=
  (fun (s : State) => s.setFur 3 {}) State.reset
theorem wit_FurrowContextsAndDoorbellsComplete_3 : ∃ (n : Fin 4096) (v : Word) (_rid : Half), (wst_FurrowContextsAndDoorbellsComplete_3).Inv ∧
    ((wst_FurrowContextsAndDoorbellsComplete_3).fur n).state = .disabled ∧ log2Ok (fld v.toNat 4 0) = true :=
  ⟨(3), (0x12345006), (7), by
    unfold State.Inv PlotsWf Plot.Wf Rises
    decide +kernel⟩

def wst_FurrowContextsAndDoorbellsComplete_4 : State :=
  (fun (s : State) => s.setFur 3 {}) State.reset
theorem wit_FurrowContextsAndDoorbellsComplete_4 : ∃ (n : Fin 4096) (_v : Word) (_rid : Half), (wst_FurrowContextsAndDoorbellsComplete_4).Inv ∧
    ((wst_FurrowContextsAndDoorbellsComplete_4).fur n).state = .disabled :=
  ⟨(3), (0xFFFFFFFFFFFFFFFF), (7), by
    unfold State.Inv PlotsWf Plot.Wf Rises
    decide +kernel⟩

def wst_FurrowContextsAndDoorbellsComplete_5 : State :=
  (fun (s : State) => ((serve s).setFur 3 { state := .enabled, tail := 2 }).setRg (Rg.fctx 3 0) 4) State.reset
theorem wit_FurrowContextsAndDoorbellsComplete_5 : ∃ (n : Fin 4096) (v : Word32) (_rid : Half), (wst_FurrowContextsAndDoorbellsComplete_5).Inv ∧
    (wst_FurrowContextsAndDoorbellsComplete_5).ServesHost ∧ ((wst_FurrowContextsAndDoorbellsComplete_5).fur n).state = .enabled ∧
    (v.toNat + 2 ^ 32 - ((wst_FurrowContextsAndDoorbellsComplete_5).fur n).head) % 2 ^ 32 ≤ 2 ^ (wst_FurrowContextsAndDoorbellsComplete_5).ringLog2 n ∧
    ((wst_FurrowContextsAndDoorbellsComplete_5).fur n).tail < 2 ^ 32 ∧ (((wst_FurrowContextsAndDoorbellsComplete_5).fur n).tail = v.toNat ∨
    (((wst_FurrowContextsAndDoorbellsComplete_5).fur n).tail + 2 ^ 32 - ((wst_FurrowContextsAndDoorbellsComplete_5).fur n).head) % 2 ^ 32 < (v.toNat + 2 ^ 32 - ((wst_FurrowContextsAndDoorbellsComplete_5).fur n).head) % 2 ^ 32) :=
  ⟨(3), (2), (7), by
    unfold State.ServesHost State.Inv PlotsWf Plot.Wf Rises
    decide +kernel⟩

def wst_FurrowContextsAndDoorbellsComplete_6 : State :=
  (fun (s : State) => (({ (serve s) with g := { s.g with staging := [] } } : State).setFur 3 { state := .enabled, tail := 2 }).setRg (Rg.fctx 3 0x10) (2 ^ 36 + 1)) State.reset
theorem wit_FurrowContextsAndDoorbellsComplete_6 : ∃ (n : Fin 4096) (d : List Byte) (_rid : Half), (wst_FurrowContextsAndDoorbellsComplete_6).Inv ∧
    (wst_FurrowContextsAndDoorbellsComplete_6).ServesHost ∧ ((wst_FurrowContextsAndDoorbellsComplete_6).fur n).state = .enabled ∧ d.length = 64 ∧
    (wst_FurrowContextsAndDoorbellsComplete_6).stagedOf n = [] ∧ ((wst_FurrowContextsAndDoorbellsComplete_6).fur n).early = [] ∧
    0 < (wst_FurrowContextsAndDoorbellsComplete_6).inlineLimit n ∧
    ((wst_FurrowContextsAndDoorbellsComplete_6).fur n).tail ≠ ((wst_FurrowContextsAndDoorbellsComplete_6).fur n).head :=
  ⟨(3), (List.replicate 64 0), (7), by
    unfold State.ServesHost State.Inv PlotsWf Plot.Wf Rises
    decide +kernel⟩

/-! ### FurrowFetchAndStartComplete -/

def wst_FurrowFetchAndStartComplete_0 : State :=
  (fun (s : State) => (({ (settled (serve s)) with g := { s.g with furrows := [], store := [], staging := [], met := [], waits := [], lastFetch := 4095 } } : State).setFur 3 { state := .enabled, tail := 2 }).setRg (Rg.fctx 3 0) 0x1004 |> fun s => { (s.setRg (Rg.fctx 3 0x10) (256 + 16 * 2 ^ 32)) with host := { s.host with tags := [] }, drill := {} }) State.reset
theorem wit_FurrowFetchAndStartComplete_0 : ∃ (n : Fin 4096) (g : Nat),
    (wst_FurrowFetchAndStartComplete_0).furrowsOn.filter (fun m => decide (0 < (wst_FurrowFetchAndStartComplete_0).fetchSize m)) = [n.val] ∧
    (wst_FurrowFetchAndStartComplete_0).fetcherTags < (wst_FurrowFetchAndStartComplete_0).fetchTags.2 ∧
    (wst_FurrowFetchAndStartComplete_0).hopperFree (64 * (wst_FurrowFetchAndStartComplete_0).fetchSize n) = true ∧
    (wst_FurrowFetchAndStartComplete_0).mayRequest = true ∧ (wst_FurrowFetchAndStartComplete_0).tagRoom false = true ∧
    (wst_FurrowFetchAndStartComplete_0).freeTag = some g ∧ ((wst_FurrowFetchAndStartComplete_0).fur n).gaps = [] :=
  ⟨(3), (wst_FurrowFetchAndStartComplete_0.freeTag.getD 0), by
    decide +kernel⟩

def wst_FurrowFetchAndStartComplete_1 : State :=
  (fun (s : State) => base42 ((({ (settled (serve s)) with g := { s.g with furrows := [], store := [], staging := [], met := [], waits := [], lastFetch := 4095 } } : State).setFur 3 { state := .enabled, tail := 2 }).setRg (Rg.fctx 3 0) 0x1004 |> fun s => { (s.setRg (Rg.fctx 3 0x10) (256 + 16 * 2 ^ 32)) with host := { s.host with tags := [] }, drill := {} })) State.reset
theorem wit_FurrowFetchAndStartComplete_1 : ∃ (g : Nat) (_d : List Byte) (n : Fin 4096) (k : Nat) (u : TagUse),
    (wst_FurrowFetchAndStartComplete_1).Inv ∧ (wst_FurrowFetchAndStartComplete_1).tagUse g = some u ∧
    u.owner = .furrowRing n ((wst_FurrowFetchAndStartComplete_1).fur n).head k ∧ u.quar = .no ∧
    ((wst_FurrowFetchAndStartComplete_1).fur n).state = .enabled ∧ ((wst_FurrowFetchAndStartComplete_1).fur n).early = [] ∧
    (wst_FurrowFetchAndStartComplete_1).stagedOf n = [] ∧ 1 ≤ k ∧ (wst_FurrowFetchAndStartComplete_1).host.frozen = false ∧
    k ≤ (wst_FurrowFetchAndStartComplete_1).slotRoom n false :=
  ⟨(9), (List.replicate 128 0), (3), (2), ({ tag := 9, owner := .furrowRing 3 0 2, addr := 0x1000, len := 128 }), by
    unfold State.Inv PlotsWf Plot.Wf Rises
    decide +kernel⟩

def wst_FurrowFetchAndStartComplete_2 : State :=
  (fun (s : State) => base42 ((({ (settled (serve s)) with g := { s.g with furrows := [], store := [], staging := [], met := [], waits := [], lastFetch := 4095 } } : State).setFur 3 { state := .enabled, tail := 2 }).setRg (Rg.fctx 3 0) 0x1004 |> fun s => { (s.setRg (Rg.fctx 3 0x10) (256 + 16 * 2 ^ 32)) with host := { s.host with tags := [] }, drill := {} })) State.reset
theorem wit_FurrowFetchAndStartComplete_2 : ∃ (g : Nat) (n : Fin 4096) (k : Nat) (u : TagUse), (wst_FurrowFetchAndStartComplete_2).Inv ∧
    (wst_FurrowFetchAndStartComplete_2).tagUse g = some u ∧ u.owner = .furrowRing n ((wst_FurrowFetchAndStartComplete_2).fur n).head k ∧
    u.quar = .no ∧ ((wst_FurrowFetchAndStartComplete_2).fur n).state = .enabled :=
  ⟨(9), (3), (2), ({ tag := 9, owner := .furrowRing 3 0 2, addr := 0x1000, len := 128 }), by
    unfold State.Inv PlotsWf Plot.Wf Rises
    decide +kernel⟩

def wst_FurrowFetchAndStartComplete_3 : State :=
  (fun (s : State) => ((serve s).setFur 3 { state := .enabled, tail := 2, shadowDue := true }).setRg (Rg.fctx 3 0x20) 0x1001) State.reset
theorem wit_FurrowFetchAndStartComplete_3 : ∃ (n : Fin 4096), (wst_FurrowFetchAndStartComplete_3).Inv ∧
    (wst_FurrowFetchAndStartComplete_3).WritesNow ∧ ((wst_FurrowFetchAndStartComplete_3).fur n).shadowDue = true ∧
    ((wst_FurrowFetchAndStartComplete_3).fur n).shadowQueued = false ∧ (wst_FurrowFetchAndStartComplete_3).shadowEn n = true :=
  ⟨(3), by
    unfold State.WritesNow State.SendsNow State.Inv PlotsWf Plot.Wf Rises
    decide +kernel⟩

def wst_FurrowFetchAndStartComplete_4 : State :=
  (fun (s : State) => (fun (s : State) => { s with g := { s.g with store := [{ furrow := 3, seq := 4, d := {}, inl := true, pasid := 0 }] } }) ((({ (settled (serve s)) with g := { s.g with furrows := [], store := [], staging := [], met := [], waits := [], lastFetch := 4095 } } : State).setFur 3 { state := .enabled, tail := 2 }).setRg (Rg.fctx 3 0) 0x1004 |> fun s => { (s.setRg (Rg.fctx 3 0x10) (256 + 16 * 2 ^ 32)) with host := { s.host with tags := [] }, drill := {} })) State.reset
theorem wit_FurrowFetchAndStartComplete_4 : ∃ (n : Fin 4096) (x : Slot), (wst_FurrowFetchAndStartComplete_4).g.store = [x] ∧ x.furrow = n ∧
    x.state = .unsown ∧ x.result = none ∧ x.d.opcode = 0 ∧ x.d.waitEn = false ∧ x.d.signalEn = false ∧ x.d.stampEn = false ∧ x.d.recordEn = false ∧
    ((wst_FurrowFetchAndStartComplete_4).fur n).state = .enabled :=
  ⟨(3), ({ furrow := 3, seq := 4, d := {}, inl := true, pasid := 0 }), by
    decide +kernel⟩

def wst_FurrowFetchAndStartComplete_5 : State :=
  (fun (s : State) => (fun (s : State) => { s with g := { s.g with store := [{ furrow := 3, seq := 4, d := { signalEn := true, signalStake := 5, signalValue := 6 }, inl := true, pasid := 0, state := .sown }] } }) ((({ (settled (serve s)) with g := { s.g with furrows := [], store := [], staging := [], met := [], waits := [], lastFetch := 4095 } } : State).setFur 3 { state := .enabled, tail := 2 }).setRg (Rg.fctx 3 0) 0x1004 |> fun s => { (s.setRg (Rg.fctx 3 0x10) (256 + 16 * 2 ^ 32)) with host := { s.host with tags := [] }, drill := {} })) State.reset
theorem wit_FurrowFetchAndStartComplete_5 : ∃ (n : Fin 4096) (x : Slot), (wst_FurrowFetchAndStartComplete_5).front n = some x ∧
    (wst_FurrowFetchAndStartComplete_5).slot n x.seq = some x ∧ (wst_FurrowFetchAndStartComplete_5).mayStart n = true ∧ x.state = .sown ∧
    x.result = none ∧ x.d.waitEn = false ∧ x.atStart = none :=
  ⟨(3), ({ furrow := 3, seq := 4, d := { signalEn := true, signalStake := 5, signalValue := 6 }, inl := true, pasid := 0, state := .sown }), by
    decide +kernel⟩

def wst_FurrowFetchAndStartComplete_6 : State :=
  (fun (s : State) => (fun (s : State) => ({ s with g := { s.g with store := [{ furrow := 3, seq := 4, d := { waitEn := true, waitStake := 7, waitValue := 100 }, inl := true, pasid := 0, state := .sown }], stakes := [] } } : State).setRg (Rg.stakeGroup 0) (2 * 2 ^ 20)) ((({ (settled (serve s)) with g := { s.g with furrows := [], store := [], staging := [], met := [], waits := [], lastFetch := 4095 } } : State).setFur 3 { state := .enabled, tail := 2 }).setRg (Rg.fctx 3 0) 0x1004 |> fun s => { (s.setRg (Rg.fctx 3 0x10) (256 + 16 * 2 ^ 32)) with host := { s.host with tags := [] }, drill := {} })) State.reset
theorem wit_FurrowFetchAndStartComplete_6 : ∃ (n : Fin 4096) (x : Slot) (h : Nat), (wst_FurrowFetchAndStartComplete_6).front n = some x ∧
    (wst_FurrowFetchAndStartComplete_6).g.store = [x] ∧ (wst_FurrowFetchAndStartComplete_6).mayStart n = true ∧ x.state = .sown ∧ x.result = none ∧
    x.d.waitEn = true ∧ x.wait = none ∧ x.waitMet = false ∧ armedStamp x.d = false ∧
    (wst_FurrowFetchAndStartComplete_6).stakeOk (.furrow n) x.d.waitStake = true ∧
    (wst_FurrowFetchAndStartComplete_6).freeHandle (.desc n x.seq) = some h ∧
    condMet (x.d.waitCond == 1) ((wst_FurrowFetchAndStartComplete_6).stake x.d.waitStake) x.d.waitValue = false ∧
    (wst_FurrowFetchAndStartComplete_6).Settled ∧ (wst_FurrowFetchAndStartComplete_6).g.waits = [] :=
  ⟨(3), ({ furrow := 3, seq := 4, d := { waitEn := true, waitStake := 7, waitValue := 100 }, inl := true, pasid := 0, state := .sown }), (0), by
    unfold State.Settled
    decide +kernel⟩

/-! ### DescriptorsCompleteAndStakesComplete -/

def wst_DescriptorsCompleteAndStakesComplete_0 : State :=
  (fun (s : State) => base31 ((({ (settled (serve s)) with g := { s.g with furrows := [], store := [], staging := [], met := [], waits := [], lastFetch := 4095 } } : State).setFur 3 { state := .enabled, tail := 2 }).setRg (Rg.fctx 3 0) 0x1004 |> fun s => { (s.setRg (Rg.fctx 3 0x10) (256 + 16 * 2 ^ 32)) with host := { s.host with tags := [] }, drill := {} })) State.reset
theorem wit_DescriptorsCompleteAndStakesComplete_0 : ∃ (n : Fin 4096) (q : Nat) (x : Slot),
    (wst_DescriptorsCompleteAndStakesComplete_0).slot n q = some x ∧ x.state = .started ∧ x.d.opcode = 2 ∧
    x.halfMask &&& x.d.plotMask = x.d.plotMask ∧ x.halfDone = false ∧ ((x.d.stampEn = true → x.stampAt.isSome = true)) ∧ ((x.d.recordEn = true →
    x.recordAt.isSome = true)) ∧ (wst_DescriptorsCompleteAndStakesComplete_0).Settled ∧ (wst_DescriptorsCompleteAndStakesComplete_0).g.waits = [] :=
  ⟨(3), (4), ({ furrow := 3, seq := 4, d := { opcode := 2, body := [0,0,0,0,0,0,0,0, 0,0,0,0,0,0,0,0, 64,0,0,0, 3,0] ++ List.replicate 10 0 }, inl := true, pasid := 0, state := .started, endMask := 3, halfMask := 3 }), by
    unfold State.Settled
    decide +kernel⟩

def wst_DescriptorsCompleteAndStakesComplete_1 : State :=
  (fun (s : State) => base31 ((({ (settled (serve s)) with g := { s.g with furrows := [], store := [], staging := [], met := [], waits := [], lastFetch := 4095 } } : State).setFur 3 { state := .enabled, tail := 2 }).setRg (Rg.fctx 3 0) 0x1004 |> fun s => { (s.setRg (Rg.fctx 3 0x10) (256 + 16 * 2 ^ 32)) with host := { s.host with tags := [] }, drill := {} })) State.reset
theorem wit_DescriptorsCompleteAndStakesComplete_1 : ∃ (n : Fin 4096) (q : Nat) (x : Slot),
    (wst_DescriptorsCompleteAndStakesComplete_1).slot n q = some x ∧ x.state = .started ∧ x.d.opcode = 2 ∧ x.endMask &&& x.d.plotMask = x.d.plotMask ∧
    ((x.d.stampEn = true → x.stampAt.isSome = true)) ∧ ((x.d.recordEn = true → x.recordAt.isSome = true)) ∧
    (wst_DescriptorsCompleteAndStakesComplete_1).Settled :=
  ⟨(3), (4), ({ furrow := 3, seq := 4, d := { opcode := 2, body := [0,0,0,0,0,0,0,0, 0,0,0,0,0,0,0,0, 64,0,0,0, 3,0] ++ List.replicate 10 0 }, inl := true, pasid := 0, state := .started, endMask := 3, halfMask := 3 }), by
    unfold State.Settled
    decide +kernel⟩

def wst_DescriptorsCompleteAndStakesComplete_2 : State :=
  (fun (s : State) => base46 ((({ (settled (serve s)) with g := { s.g with furrows := [], store := [], staging := [], met := [], waits := [], lastFetch := 4095 } } : State).setFur 3 { state := .enabled, tail := 2 }).setRg (Rg.fctx 3 0) 0x1004 |> fun s => { (s.setRg (Rg.fctx 3 0x10) (256 + 16 * 2 ^ 32)) with host := { s.host with tags := [] }, drill := {} })) State.reset
theorem wit_DescriptorsCompleteAndStakesComplete_2 : ∃ (k : Fin 65536) (_v : Word), (wst_DescriptorsCompleteAndStakesComplete_2).Inv ∧
    (wst_DescriptorsCompleteAndStakesComplete_2).ServesHost ∧ (wst_DescriptorsCompleteAndStakesComplete_2).Settled ∧
    ((∀ w ∈ (wst_DescriptorsCompleteAndStakesComplete_2).g.waits, w.stake ≠ k)) :=
  ⟨(5), (0), by
    unfold State.ServesHost State.Settled State.Inv PlotsWf Plot.Wf Rises
    decide +kernel⟩

def wst_DescriptorsCompleteAndStakesComplete_3 : State :=
  (fun (s : State) => (fun (s : State) => ({ s with g := { s.g with stakes := [(5, 7)], waits := [{ handle := 0, stake := 5, equal := false, value := 9, who := .desc 3 4, deadline := none }], store := [{ furrow := 3, seq := 4, d := { waitEn := true, waitStake := 7, waitValue := 100 }, inl := true, pasid := 0, state := .sown }] } } : State)) ((({ (settled (serve s)) with g := { s.g with furrows := [], store := [], staging := [], met := [], waits := [], lastFetch := 4095 } } : State).setFur 3 { state := .enabled, tail := 2 }).setRg (Rg.fctx 3 0) 0x1004 |> fun s => { (s.setRg (Rg.fctx 3 0x10) (256 + 16 * 2 ^ 32)) with host := { s.host with tags := [] }, drill := {} })) State.reset
theorem wit_DescriptorsCompleteAndStakesComplete_3 : ∃ (k : Fin 65536) (v : Word) (w : Wait) (n : Nat) (q : Nat),
    (wst_DescriptorsCompleteAndStakesComplete_3).Inv ∧ (wst_DescriptorsCompleteAndStakesComplete_3).ServesHost ∧
    (wst_DescriptorsCompleteAndStakesComplete_3).Settled ∧ (wst_DescriptorsCompleteAndStakesComplete_3).g.waits = [w] ∧ w.stake = k ∧
    condMet w.equal v.toNat w.value = true ∧ w.who = .desc n q :=
  ⟨(5), (9), ({ handle := 0, stake := 5, equal := false, value := 9, who := .desc 3 4, deadline := none }), (3), (4), by
    unfold State.ServesHost State.Settled State.Inv PlotsWf Plot.Wf Rises
    decide +kernel⟩

def wst_DescriptorsCompleteAndStakesComplete_4 : State :=
  (fun (s : State) => base46 ((({ (settled (serve s)) with g := { s.g with furrows := [], store := [], staging := [], met := [], waits := [], lastFetch := 4095 } } : State).setFur 3 { state := .enabled, tail := 2 }).setRg (Rg.fctx 3 0) 0x1004 |> fun s => { (s.setRg (Rg.fctx 3 0x10) (256 + 16 * 2 ^ 32)) with host := { s.host with tags := [] }, drill := {} })) State.reset
theorem wit_DescriptorsCompleteAndStakesComplete_4 : ∃ (k : Fin 65536) (_v : Word), (wst_DescriptorsCompleteAndStakesComplete_4).Inv ∧
    (wst_DescriptorsCompleteAndStakesComplete_4).ServesHost ∧ (wst_DescriptorsCompleteAndStakesComplete_4).Settled ∧
    ((∀ w ∈ (wst_DescriptorsCompleteAndStakesComplete_4).g.waits, w.stake ≠ k)) :=
  ⟨(5), (0), by
    unfold State.ServesHost State.Settled State.Inv PlotsWf Plot.Wf Rises
    decide +kernel⟩

def wst_DescriptorsCompleteAndStakesComplete_5 : State :=
  State.reset
theorem wit_DescriptorsCompleteAndStakesComplete_5 : ∃ (_g : Fin 1024) (v : Word) (_rid : Half), (wst_DescriptorsCompleteAndStakesComplete_5).Inv ∧
    fld v.toNat 21 20 ≠ 3 :=
  ⟨(0), (0xFFFFFFFFFFDFFFFF), (0), by
    unfold State.Inv PlotsWf Plot.Wf Rises
    decide +kernel⟩

def wst_DescriptorsCompleteAndStakesComplete_6 : State :=
  (fun (s : State) => (s.setVal O.splitStakeTo 0) |> settled |> fun s => { s with now := 100, g := { s.g with waits := [{ handle := 0, stake := 5, equal := false, value := 9, who := .desc 3 4, deadline := some 50 }, { handle := 1, stake := 5, equal := false, value := 9, who := .desc 3 4, deadline := some 150 }] } }) State.reset
theorem wit_DescriptorsCompleteAndStakesComplete_6 : (wst_DescriptorsCompleteAndStakesComplete_6).val O.splitStakeTo = 0 ∧
    (wst_DescriptorsCompleteAndStakesComplete_6).Settled ∧
    (wst_DescriptorsCompleteAndStakesComplete_6).g.waits.all (fun w => match w.who with | .chain _ => false | _ => true) = true :=
  by
    unfold State.Settled
    decide +kernel

def wst_DescriptorsCompleteAndStakesComplete_7 : State :=
  (fun (s : State) => (s.setVal O.splitStakeTo 1) |> settled |> fun s => { s with now := 100, g := { s.g with toQueue := [], waits := [{ handle := 3, stake := 5, equal := false, value := 9, who := .desc 3 4, deadline := some 50 }] } }) State.reset
theorem wit_DescriptorsCompleteAndStakesComplete_7 : ∃ (w : Wait) (d : Nat), (wst_DescriptorsCompleteAndStakesComplete_7).Inv ∧
    (wst_DescriptorsCompleteAndStakesComplete_7).val O.splitStakeTo ≠ 0 ∧ (wst_DescriptorsCompleteAndStakesComplete_7).g.waits = [w] ∧
    w.deadline = some d ∧ d ≤ (wst_DescriptorsCompleteAndStakesComplete_7).now ∧ w.queued = false ∧
    (wst_DescriptorsCompleteAndStakesComplete_7).g.toQueue = [] :=
  ⟨({ handle := 3, stake := 5, equal := false, value := 9, who := .desc 3 4, deadline := some 50 }), (50), by
    unfold State.Inv PlotsWf Plot.Wf Rises
    decide +kernel⟩

def wst_DescriptorsCompleteAndStakesComplete_8 : State :=
  (fun (s : State) => (fun (s : State) => ({ s with g := { s.g with waitGen := [(3, 2)], waits := [{ handle := 3, stake := 5, equal := false, value := 9, who := .desc 3 4, deadline := none }], store := [{ furrow := 3, seq := 4, d := { waitEn := true, waitStake := 7, waitValue := 100 }, inl := true, pasid := 0, state := .waiting }] } } : State)) ((({ (settled (serve s)) with g := { s.g with furrows := [], store := [], staging := [], met := [], waits := [], lastFetch := 4095 } } : State).setFur 3 { state := .enabled, tail := 2 }).setRg (Rg.fctx 3 0) 0x1004 |> fun s => { (s.setRg (Rg.fctx 3 0x10) (256 + 16 * 2 ^ 32)) with host := { s.host with tags := [] }, drill := {} })) State.reset
theorem wit_DescriptorsCompleteAndStakesComplete_8 : ∃ (h : Fin 16384) (gen : Half) (w : Wait) (n : Nat) (q : Nat),
    (wst_DescriptorsCompleteAndStakesComplete_8).g.waits = [w] ∧ w.handle = h ∧ w.who = .desc n q ∧
    (wst_DescriptorsCompleteAndStakesComplete_8).waits n q = true ∧ kvGet 0 (wst_DescriptorsCompleteAndStakesComplete_8).g.waitGen h = gen.toNat ∧
    (wst_DescriptorsCompleteAndStakesComplete_8).Settled :=
  ⟨(3), (2), ({ handle := 3, stake := 5, equal := false, value := 9, who := .desc 3 4, deadline := none }), (3), (4), by
    unfold State.Settled
    decide +kernel⟩

/-! ### PowerRequestsComplete -/

def wst_PowerRequestsComplete_0 : State :=
  (fun (s : State) => base30 s) State.reset
theorem wit_PowerRequestsComplete_0 : ∃ (r : Route), (wst_PowerRequestsComplete_0).Inv ∧ (wst_PowerRequestsComplete_0).served r 0x200002 = true ∧
    (wst_PowerRequestsComplete_0).pwr.mode = .up ∧ ((wst_PowerRequestsComplete_0).setVal O.pwrRequest 1).fallowFails = 0 :=
  ⟨(.F), by
    unfold State.Inv PlotsWf Plot.Wf Rises
    decide +kernel⟩

def wst_PowerRequestsComplete_1 : State :=
  (fun (s : State) => (base30 s).setPlot 3 { state := .idle }) State.reset
theorem wit_PowerRequestsComplete_1 : ∃ (r : Route), (wst_PowerRequestsComplete_1).Inv ∧ (wst_PowerRequestsComplete_1).served r 0x200002 = true ∧
    (wst_PowerRequestsComplete_1).pwr.mode = .up ∧ ((wst_PowerRequestsComplete_1).setVal O.pwrRequest 1).fallowFails ≠ 0 :=
  ⟨(.F), by
    unfold State.Inv PlotsWf Plot.Wf Rises
    decide +kernel⟩

def wst_PowerRequestsComplete_2 : State :=
  (fun (s : State) => (base41 s).setVal O.fallowWakeMask 15) State.reset
theorem wit_PowerRequestsComplete_2 : ∃ (c : Fin 4), (wst_PowerRequestsComplete_2).pwr.mode = .fallow ∧
    (wst_PowerRequestsComplete_2).hl.running = true ∧ bit ((wst_PowerRequestsComplete_2).val O.fallowWakeMask) c = true :=
  ⟨(0), by
    decide +kernel⟩

def wst_PowerRequestsComplete_3 : State :=
  (fun (s : State) => (base41 s).setVal O.fallowWakeMask 8) State.reset
theorem wit_PowerRequestsComplete_3 : ∃ (v : Nat), (wst_PowerRequestsComplete_3).Inv ∧ (wst_PowerRequestsComplete_3).pwr.mode = .fallow ∧
    bit ((wst_PowerRequestsComplete_3).val O.fallowWakeMask) 1 = false ∧ v ≤ 3 :=
  ⟨(0), by
    unfold State.Inv PlotsWf Plot.Wf Rises
    decide +kernel⟩

def wst_PowerRequestsComplete_4 : State :=
  (fun (s : State) => (fun (s : State) => { s with now := 10 ^ 19, pwr := { s.pwr with fallowAt := 0 } }) (((base41 s).setVal O.fallowWakeMask 7).setVal O.wakeAfterS 1)) State.reset
theorem wit_PowerRequestsComplete_4 : (wst_PowerRequestsComplete_4).pwr.mode = .fallow ∧
    bit ((wst_PowerRequestsComplete_4).val O.fallowWakeMask) 3 = false ∧ (wst_PowerRequestsComplete_4).val O.wakeAfterS ≠ 0 ∧
    (wst_PowerRequestsComplete_4).pwr.fallowAt + (wst_PowerRequestsComplete_4).val O.wakeAfterS * 1000000000 ≤ (wst_PowerRequestsComplete_4).now :=
  by
    decide +kernel

def wst_PowerRequestsComplete_5 : State :=
  (fun (s : State) => (fun (s : State) => { s with pwr := { s.pwr with mode := .entering, entryAbandoned := false } }) (base30 s)) State.reset
theorem wit_PowerRequestsComplete_5 : (wst_PowerRequestsComplete_5).Inv ∧ (wst_PowerRequestsComplete_5).pwr.mode = .entering ∧
    (wst_PowerRequestsComplete_5).pwr.entryAbandoned = false ∧ (wst_PowerRequestsComplete_5).fallowFails = 0 :=
  by
    unfold State.Inv PlotsWf Plot.Wf Rises
    decide +kernel

def wst_PowerRequestsComplete_6 : State :=
  (fun (s : State) => (fun (s : State) => { s with pwr := { s.pwr with mode := .waking, deferredTimer := false, hold := [], refused := s.pwr.refused % 4 } }) (((base30 s)).setVal O.pwrRequest 1)) State.reset
theorem wit_PowerRequestsComplete_6 : (wst_PowerRequestsComplete_6).Inv ∧ (wst_PowerRequestsComplete_6).pwr.mode = .waking ∧
    (wst_PowerRequestsComplete_6).pwr.deferredTimer = false ∧ (wst_PowerRequestsComplete_6).pwr.hold = [] ∧
    (wst_PowerRequestsComplete_6).val O.pwrRequest < 2 :=
  by
    unfold State.Inv PlotsWf Plot.Wf Rises
    decide +kernel

def wst_PowerRequestsComplete_7 : State :=
  (fun (s : State) => (fun (s : State) => { s with pwr := { s.pwr with mode := .waking, hold := [{ win := .control, write := false, r := { off := 8, len := 8 }, since := 5 }, { win := .control, write := true, r := { off := 16, len := 8 }, since := 6 }] } }) s) State.reset
theorem wit_PowerRequestsComplete_7 : ∃ (h : Held) (l : List Held), (wst_PowerRequestsComplete_7).Inv ∧ (wst_PowerRequestsComplete_7).pwr.mode ≠ .up ∧
    (wst_PowerRequestsComplete_7).pwr.hold = h :: l ∧ h.cxl = none :=
  ⟨({ win := .control, write := false, r := { off := 8, len := 8 }, since := 5 }), ([{ win := .control, write := true, r := { off := 16, len := 8 }, since := 6 }]), by
    unfold State.Inv PlotsWf Plot.Wf Rises
    decide +kernel⟩

/-! ### PlotPowerCompletes -/

def wst_PlotPowerCompletes_0 : State :=
  (fun (s : State) => (fun (s : State) => { s with pwr := { s.pwr with mode := .up, aon := true, hold := [] } }) s) State.reset
theorem wit_PlotPowerCompletes_0 : ∃ (d : Fin 24), bit (wst_PlotPowerCompletes_0).domainOn d = true :=
  ⟨(0), by
    decide +kernel⟩

def wst_PlotPowerCompletes_1 : State :=
  (fun (s : State) => base30 s) State.reset
theorem wit_PlotPowerCompletes_1 : ∃ (p : Fin 16), (wst_PlotPowerCompletes_1).Inv ∧ (wst_PlotPowerCompletes_1).pwr.mode = .up ∧
    ((wst_PlotPowerCompletes_1).plot p).state = .gated ∧ bit (wst_PlotPowerCompletes_1).pwr.plotHeldOff p = false :=
  ⟨(0), by
    unfold State.Inv PlotsWf Plot.Wf Rises
    decide +kernel⟩

def wst_PlotPowerCompletes_2 : State :=
  (fun (s : State) => (fun (s : State) => { s with pwr := { s.pwr with shed := false } }) (((base30 s)).setPlot 4 { rampQueued := true })) State.reset
theorem wit_PlotPowerCompletes_2 : ∃ (n : Nat), (wst_PlotPowerCompletes_2).Inv ∧ (wst_PlotPowerCompletes_2).pwr.shed = false ∧
    (wst_PlotPowerCompletes_2).pwr.mode = .up ∧
    (List.range 16).find? (fun n => ((wst_PlotPowerCompletes_2).plot n).rampQueued && !((wst_PlotPowerCompletes_2).plot n).ramping) = some n :=
  ⟨(4), by
    unfold State.Inv PlotsWf Plot.Wf Rises
    decide +kernel⟩

def wst_PlotPowerCompletes_3 : State :=
  (fun (s : State) => (fun (s : State) => { s with fab := {} }) (((base30 s)).setPlot 4 { ramping := true, state := .waking })) State.reset
theorem wit_PlotPowerCompletes_3 : ∃ (p : Fin 16), (wst_PlotPowerCompletes_3).Inv ∧ ((wst_PlotPowerCompletes_3).plot p).ramping = true ∧
    ((wst_PlotPowerCompletes_3).plot p).resetting = false ∧ ((wst_PlotPowerCompletes_3).plot p).state = .waking ∧
    ((wst_PlotPowerCompletes_3).plot p).busy = false ∧ (wst_PlotPowerCompletes_3).fab.waiting = [] ∧ (wst_PlotPowerCompletes_3).fab.owed = [] ∧
    (wst_PlotPowerCompletes_3).pwr.hold = [] :=
  ⟨(4), by
    unfold State.Inv PlotsWf Plot.Wf Rises
    decide +kernel⟩

def wst_PlotPowerCompletes_4 : State :=
  (fun (s : State) => ((((base30 s)).setPlot 4 { state := .idle, owner := some 5 }).setVal O.plotHold 0).setVal O.plotIdleTimeout 100) State.reset
theorem wit_PlotPowerCompletes_4 : ∃ (p : Fin 16), (wst_PlotPowerCompletes_4).Inv ∧ ((wst_PlotPowerCompletes_4).plot p).state = .idle ∧
    ((wst_PlotPowerCompletes_4).plot p).busy = false ∧ ((wst_PlotPowerCompletes_4).plot p).slots = [] ∧
    (wst_PlotPowerCompletes_4).val O.plotIdleTimeout ≠ 0 ∧ bit ((wst_PlotPowerCompletes_4).val O.plotHold) p = false :=
  ⟨(4), by
    unfold State.Inv PlotsWf Plot.Wf Rises
    decide +kernel⟩

def wst_PlotPowerCompletes_5 : State :=
  (fun (s : State) => base30 s) State.reset
theorem wit_PlotPowerCompletes_5 : ∃ (r : Route) (_m : Half), (wst_PlotPowerCompletes_5).Inv ∧ (wst_PlotPowerCompletes_5).served r 0x200005 = true :=
  ⟨(.F), (0xFFFF), by
    unfold State.Inv PlotsWf Plot.Wf Rises
    decide +kernel⟩

/-! ### ClocksComplete -/

def wst_ClocksComplete_0 : State :=
  (fun (s : State) => { s with pwr := { s.pwr with refValid := true } }) State.reset
theorem wit_ClocksComplete_0 : (wst_ClocksComplete_0).Inv ∧ (wst_ClocksComplete_0).pwr.refValid = true :=
  by
    unfold State.Inv PlotsWf Plot.Wf Rises
    decide +kernel

def wst_ClocksComplete_1 : State :=
  (fun (s : State) => { s with pwr := { s.pwr with refValid := false, aon := true } }) State.reset
theorem wit_ClocksComplete_1 : (wst_ClocksComplete_1).pwr.refValid = false ∧ (wst_ClocksComplete_1).pwr.aon = true :=
  by
    decide +kernel

def wst_ClocksComplete_2 : State :=
  (fun (s : State) => { s with pwr := { s.pwr with refValid := true }, hl := { s.hl with running := true } }) State.reset
theorem wit_ClocksComplete_2 : ∃ (_v : Word32), (wst_ClocksComplete_2).Inv ∧ (wst_ClocksComplete_2).pwr.refValid = true ∧
    (wst_ClocksComplete_2).hl.running = true :=
  ⟨(0xFFFFFFFF), by
    unfold State.Inv PlotsWf Plot.Wf Rises
    decide +kernel⟩

def wst_ClocksComplete_3 : State :=
  (fun (s : State) => { s with pwr := { s.pwr with refEver := false, aon := true } }) State.reset
theorem wit_ClocksComplete_3 : (wst_ClocksComplete_3).pwr.refEver = false ∧ (wst_ClocksComplete_3).pwr.aon = true :=
  by
    decide +kernel

def wst_ClocksComplete_4 : State :=
  (fun (s : State) => { s with pwr := { s.pwr with hfast := true, holdover := s.pwr.holdover % 16 }, hl := { s.hl with running := true }, mir := {}, dict := {}, hop := {}, fc := {}, seed := {}, rot := {} }) State.reset
theorem wit_ClocksComplete_4 : (wst_ClocksComplete_4).pwr.hfast = true ∧ (wst_ClocksComplete_4).hl.running = true ∧
    (wst_ClocksComplete_4).hasWork = false :=
  by
    decide +kernel

def wst_ClocksComplete_5 : State :=
  (fun (s : State) => { s with pwr := { s.pwr with aon := true } }) State.reset
theorem wit_ClocksComplete_5 : (wst_ClocksComplete_5).pwr.aon = true :=
  by
    decide +kernel

/-! ### EnvelopeAndThermalComplete -/

def wst_EnvelopeAndThermalComplete_0 : State :=
  (fun (s : State) => { s with pwr := { s.pwr with aon := true }, hl := { s.hl with running := true } }) State.reset
theorem wit_EnvelopeAndThermalComplete_0 : ∃ (_vin _iin _p _avg : Nat) (_l : Fin 17), (wst_EnvelopeAndThermalComplete_0).Inv ∧
    (wst_EnvelopeAndThermalComplete_0).pwr.aon = true ∧ (wst_EnvelopeAndThermalComplete_0).hl.running = true :=
  ⟨(54000), (40000), (2160000), (2000000), (0), by
    unfold State.Inv PlotsWf Plot.Wf Rises
    decide +kernel⟩

def wst_EnvelopeAndThermalComplete_1 : State :=
  (fun (s : State) => { s with pwr := { s.pwr with aon := true } }) State.reset
theorem wit_EnvelopeAndThermalComplete_1 : ∃ (_d : Bool) (_l : Fin 17), (wst_EnvelopeAndThermalComplete_1).Inv ∧
    (wst_EnvelopeAndThermalComplete_1).pwr.aon = true :=
  ⟨(true), (0), by
    unfold State.Inv PlotsWf Plot.Wf Rises
    decide +kernel⟩

def wst_EnvelopeAndThermalComplete_2 : State :=
  (fun (s : State) => { s with pwr := { s.pwr with aon := true, orphan := false } }) State.reset
theorem wit_EnvelopeAndThermalComplete_2 : (wst_EnvelopeAndThermalComplete_2).Inv ∧ (wst_EnvelopeAndThermalComplete_2).pwr.orphan = false ∧
    (wst_EnvelopeAndThermalComplete_2).pwr.aon = true :=
  by
    unfold State.Inv PlotsWf Plot.Wf Rises
    decide +kernel

def wst_EnvelopeAndThermalComplete_3 : State :=
  (fun (s : State) => { s with pwr := { s.pwr with aon := true, shed := false } }) State.reset
theorem wit_EnvelopeAndThermalComplete_3 : (wst_EnvelopeAndThermalComplete_3).Inv ∧ (wst_EnvelopeAndThermalComplete_3).pwr.shed = false ∧
    (wst_EnvelopeAndThermalComplete_3).pwr.aon = true :=
  by
    unfold State.Inv PlotsWf Plot.Wf Rises
    decide +kernel

def wst_EnvelopeAndThermalComplete_4 : State :=
  (fun (s : State) => { s with pwr := { s.pwr with shed := true } }) State.reset
theorem wit_EnvelopeAndThermalComplete_4 : (wst_EnvelopeAndThermalComplete_4).Inv ∧ (wst_EnvelopeAndThermalComplete_4).pwr.shed = true :=
  by
    unfold State.Inv PlotsWf Plot.Wf Rises
    decide +kernel

def wst_EnvelopeAndThermalComplete_5 : State :=
  (fun (s : State) => { s with pwr := { s.pwr with shed := false, shedLevel := 16 } }) State.reset
theorem wit_EnvelopeAndThermalComplete_5 : (wst_EnvelopeAndThermalComplete_5).Inv ∧ (wst_EnvelopeAndThermalComplete_5).pwr.shed = false ∧
    (wst_EnvelopeAndThermalComplete_5).pwr.shedLevel ≠ 0 :=
  by
    unfold State.Inv PlotsWf Plot.Wf Rises
    decide +kernel

def wst_EnvelopeAndThermalComplete_6 : State :=
  (fun (s : State) => { s with pwr := { s.pwr with aon := true, tripped := false }, od := s.od.filter (fun e => e.1 / 256 < 0x2000 || 0x2900 ≤ e.1 / 256) }) State.reset
theorem wit_EnvelopeAndThermalComplete_6 : ∃ (n : Fin 90) (v : Int), (wst_EnvelopeAndThermalComplete_6).Inv ∧
    (wst_EnvelopeAndThermalComplete_6).pwr.aon = true ∧
    (wst_EnvelopeAndThermalComplete_6).thrAt (thermClass n) ≤ ((wst_EnvelopeAndThermalComplete_6).sense [(n.val, v)]).reading n ∧ thermClass n ≠ 4 :=
  ⟨(0), (2000), by
    unfold State.Inv PlotsWf Plot.Wf Rises
    refine ⟨?_, ?_, reading_ge _ _ _ (by decide +kernel) (by decide +kernel), ?_⟩ <;> decide +kernel⟩

def wst_EnvelopeAndThermalComplete_7 : State :=
  (fun (s : State) => { s with pwr := { s.pwr with aon := true, tripped := false }, od := s.od.filter (fun e => e.1 / 256 < 0x2000 || 0x2900 ≤ e.1 / 256) }) State.reset
theorem wit_EnvelopeAndThermalComplete_7 : ∃ (_l : List (Nat × Int)), (wst_EnvelopeAndThermalComplete_7).Inv ∧
    (wst_EnvelopeAndThermalComplete_7).pwr.aon = true :=
  ⟨([]), by
    unfold State.Inv PlotsWf Plot.Wf Rises
    decide +kernel⟩

def wst_EnvelopeAndThermalComplete_8 : State :=
  (fun (s : State) => { s with pwr := { s.pwr with aon := true, tripped := false }, od := s.od.filter (fun e => e.1 / 256 < 0x2000 || 0x2900 ≤ e.1 / 256) }) State.reset
theorem wit_EnvelopeAndThermalComplete_8 : ∃ (n : Fin 90) (v : Int), (wst_EnvelopeAndThermalComplete_8).Inv ∧
    (wst_EnvelopeAndThermalComplete_8).pwr.aon = true ∧ ((wst_EnvelopeAndThermalComplete_8).sense [(n.val,
    v)]).alarmAt (thermClass n) ≤ ((wst_EnvelopeAndThermalComplete_8).sense [(n.val, v)]).reading n :=
  ⟨(0), (2000), by
    unfold State.Inv PlotsWf Plot.Wf Rises
    refine ⟨?_, ?_, reading_ge _ _ _ (by decide +kernel) (by decide +kernel)⟩ <;> decide +kernel⟩

def wst_EnvelopeAndThermalComplete_9 : State :=
  (fun (s : State) => { s with pwr := { s.pwr with aon := true, tripped := false }, od := s.od.filter (fun e => e.1 / 256 < 0x2000 || 0x2900 ≤ e.1 / 256) }) State.reset
theorem wit_EnvelopeAndThermalComplete_9 : ∃ (n : Fin 90) (v : Int), (wst_EnvelopeAndThermalComplete_9).Inv ∧
    (wst_EnvelopeAndThermalComplete_9).pwr.aon = true ∧ (wst_EnvelopeAndThermalComplete_9).pwr.tripped = false ∧ thermClass n ≤ 2 ∧
    (tripAt (thermClass n) : Int) ≤ ((wst_EnvelopeAndThermalComplete_9).sense [(n.val, v)]).reading n :=
  ⟨(0), (2300), by
    unfold State.Inv PlotsWf Plot.Wf Rises
    refine ⟨?_, ?_, ?_, ?_, reading_ge _ _ _ (by decide +kernel) (by decide +kernel)⟩ <;> decide +kernel⟩

def wst_EnvelopeAndThermalComplete_10 : State :=
  (fun (s : State) => { s with pwr := { s.pwr with aon := true, tripped := false }, od := s.od.filter (fun e => e.1 / 256 < 0x2000 || 0x2900 ≤ e.1 / 256) }) State.reset
theorem wit_EnvelopeAndThermalComplete_10 : ∃ (n : Fin 90) (v : Int), (wst_EnvelopeAndThermalComplete_10).pwr.aon = true ∧ thermClass n = 4 ∧
    (tripAt 4 : Int) ≤ ((wst_EnvelopeAndThermalComplete_10).sense [(n.val, v)]).reading n :=
  ⟨(88), (2300), by
    refine ⟨?_, ?_, reading_ge _ _ _ (by decide +kernel) (by decide +kernel)⟩ <;> decide +kernel⟩

def wst_EnvelopeAndThermalComplete_11 : State :=
  (fun (s : State) => { s with pwr := { s.pwr with aon := true, tripped := false }, od := s.od.filter (fun e => e.1 / 256 < 0x2000 || 0x2900 ≤ e.1 / 256) }) State.reset
theorem wit_EnvelopeAndThermalComplete_11 : ∃ (n : Fin 90), (wst_EnvelopeAndThermalComplete_11).Inv ∧
    (wst_EnvelopeAndThermalComplete_11).pwr.aon = true ∧ (wst_EnvelopeAndThermalComplete_11).sensorBad n = false ∧
    (wst_EnvelopeAndThermalComplete_11).val O.sensorFailed < 2 ^ 90 ∧
    (thermPart n).any (fun m => decide (m ≠ n.val) && !(wst_EnvelopeAndThermalComplete_11).sensorBad m) = true :=
  ⟨(0), by
    unfold State.Inv PlotsWf Plot.Wf Rises
    decide +kernel⟩

/-! ### CalibrationCompletes -/

def wst_CalibrationCompletes_0 : State :=
  (fun (s : State) => { s with hl := { s.hl with running := true }, dict := {}, cal := { s.cal with hold := none, busy := none } }) State.reset
theorem wit_CalibrationCompletes_0 : ∃ (k : Word32), (wst_CalibrationCompletes_0).served .F 0x280101 = true ∧ k.toNat = 0x5EEDCA1B ∧
    (wst_CalibrationCompletes_0).cal.hold = none :=
  ⟨(0x5EEDCA1B), by
    decide +kernel⟩

def wst_CalibrationCompletes_1 : State :=
  (fun (s : State) => { s with hl := { s.hl with running := true }, dict := {}, cal := { s.cal with hold := none, busy := none } }) State.reset
theorem wit_CalibrationCompletes_1 : ∃ (k : Word32), (wst_CalibrationCompletes_1).served .H 0x280101 = true ∧ k.toNat ≠ 0x5EEDCA1B ∧ k.toNat ≠ 0 ∧
    (wst_CalibrationCompletes_1).cal.hold = none :=
  ⟨(0x5EEDCA1C), by
    decide +kernel⟩

def wst_CalibrationCompletes_2 : State :=
  (fun (s : State) => { s with cal := { s.cal with unlockF := some 70, unlockH := none, hold := none } }) State.reset
theorem wit_CalibrationCompletes_2 : ∃ (e : Nat), (wst_CalibrationCompletes_2).cal.unlockF = some e ∧
    (wst_CalibrationCompletes_2).cal.unlockH = none ∧ (wst_CalibrationCompletes_2).cal.hold = none :=
  ⟨(70), by
    decide +kernel⟩

def wst_CalibrationCompletes_3 : State :=
  (fun (s : State) => { s with hl := { s.hl with running := true }, dict := {}, cal := { s.cal with unlockF := some 70, unlockH := some 70, busy := none } }) State.reset
theorem wit_CalibrationCompletes_3 : ∃ (r : Route), (wst_CalibrationCompletes_3).Inv ∧ (wst_CalibrationCompletes_3).served r 0x280005 = true ∧
    (wst_CalibrationCompletes_3).unlocked r = true ∧ (wst_CalibrationCompletes_3).cal.busy = none :=
  ⟨(.F), by
    unfold State.Inv PlotsWf Plot.Wf Rises
    decide +kernel⟩

def wst_CalibrationCompletes_4 : State :=
  (fun (s : State) => { s with cal := { s.cal with busy := some 3, resetWaits := false } }) State.reset
theorem wit_CalibrationCompletes_4 : ∃ (b : Nat), (wst_CalibrationCompletes_4).Inv ∧ (wst_CalibrationCompletes_4).cal.busy = some b ∧
    (wst_CalibrationCompletes_4).cal.resetWaits = false :=
  ⟨(3), by
    unfold State.Inv PlotsWf Plot.Wf Rises
    decide +kernel⟩

def wst_CalibrationCompletes_5 : State :=
  (fun (s : State) => ({ s with pwr := { s.pwr with aon := true, modrst := false } } : State).setVal O.strapTries 0) State.reset
theorem wit_CalibrationCompletes_5 : ∃ (tries : List (List Nat)) (v k : Nat), (wst_CalibrationCompletes_5).Inv ∧
    (wst_CalibrationCompletes_5).pwr.aon = true ∧ (wst_CalibrationCompletes_5).pwr.modrst = false ∧
    (wst_CalibrationCompletes_5).val O.strapTries = 0 ∧ firstStable 16 tries 1 = some (v, k) ∧ parityOk v = true :=
  ⟨([[0x1005, 0x1005, 0x1005, 0x1004], [0x105, 0x105, 0x105, 0x105]]), (0x105), (2), by
    unfold State.Inv PlotsWf Plot.Wf Rises
    decide +kernel⟩

def wst_CalibrationCompletes_6 : State :=
  (fun (s : State) => (({ s with pwr := { s.pwr with aon := true } } : State).setVal O.strapTries 1).setVal O.gpEnable 0) State.reset
theorem wit_CalibrationCompletes_6 : ∃ (n : Fin 15), (wst_CalibrationCompletes_6).Inv ∧ (wst_CalibrationCompletes_6).pwr.aon = true ∧
    (wst_CalibrationCompletes_6).val O.strapTries ≠ 0 ∧ bit ((wst_CalibrationCompletes_6).val O.gpEnable) n = false :=
  ⟨(0), by
    unfold State.Inv PlotsWf Plot.Wf Rises
    decide +kernel⟩

/-! ### PowerCycleCompletes -/

def wst_PowerCycleCompletes_0 : State :=
  (fun (s : State) => { s with pwr := { s.pwr with mode := .off, aon := false, modrst := false, tripped := false } }) State.reset
theorem wit_PowerCycleCompletes_0 : ∃ (_ms : Nat) (_l : List (Nat × Int)), (wst_PowerCycleCompletes_0).Inv ∧
    (wst_PowerCycleCompletes_0).pwr.mode = .off ∧ (wst_PowerCycleCompletes_0).pwr.aon = false ∧ (wst_PowerCycleCompletes_0).pwr.modrst = false ∧
    (wst_PowerCycleCompletes_0).pwr.tripped = false :=
  ⟨(7), ([]), by
    unfold State.Inv PlotsWf Plot.Wf Rises
    decide +kernel⟩

def wst_PowerCycleCompletes_1 : State :=
  (fun (s : State) => { s with pwr := { s.pwr with aon := true } }) State.reset
theorem wit_PowerCycleCompletes_1 : (wst_PowerCycleCompletes_1).pwr.aon = true :=
  by
    decide +kernel

def wst_PowerCycleCompletes_2 : State :=
  (fun (s : State) => { s with pwr := { s.pwr with aon := true } }) State.reset
theorem wit_PowerCycleCompletes_2 : (wst_PowerCycleCompletes_2).pwr.aon = true :=
  by
    decide +kernel

def wst_PowerCycleCompletes_3 : State :=
  (fun (s : State) => { s with pwr := { s.pwr with aon := true } }) State.reset
theorem wit_PowerCycleCompletes_3 : (wst_PowerCycleCompletes_3).Inv ∧ (wst_PowerCycleCompletes_3).pwr.aon = true :=
  by
    unfold State.Inv PlotsWf Plot.Wf Rises
    decide +kernel

def wst_PowerCycleCompletes_4 : State :=
  (fun (s : State) => { s with pwr := { s.pwr with aon := true, modrst := false } }) State.reset
theorem wit_PowerCycleCompletes_4 : (wst_PowerCycleCompletes_4).pwr.modrst = false ∧ (wst_PowerCycleCompletes_4).pwr.aon = true :=
  by
    decide +kernel

def wst_PowerCycleCompletes_5 : State :=
  (fun (s : State) => { s with pwr := { s.pwr with aon := true, modrst := true, tripped := false, tripBefore := false } }) State.reset
theorem wit_PowerCycleCompletes_5 : ∃ (_l : List (Nat × Int)), (wst_PowerCycleCompletes_5).Inv ∧ (wst_PowerCycleCompletes_5).pwr.modrst = true ∧
    (wst_PowerCycleCompletes_5).pwr.aon = true ∧ (wst_PowerCycleCompletes_5).pwr.tripped = false ∧
    (wst_PowerCycleCompletes_5).pwr.tripBefore = false :=
  ⟨([]), by
    unfold State.Inv PlotsWf Plot.Wf Rises
    decide +kernel⟩

/-! ### HostResetCompletes -/

def wst_HostResetCompletes_0 : State :=
  (fun (s : State) => { s with pwr := { s.pwr with aon := true } }) State.reset
theorem wit_HostResetCompletes_0 : (wst_HostResetCompletes_0).Inv ∧ (wst_HostResetCompletes_0).pwr.aon = true :=
  by
    unfold State.Inv PlotsWf Plot.Wf Rises
    decide +kernel

def wst_HostResetCompletes_1 : State :=
  (fun (s : State) => { s with fab := {}, pwr := { s.pwr with aon := true, perst := false } }) State.reset
theorem wit_HostResetCompletes_1 : (wst_HostResetCompletes_1).pwr.perst = false ∧ (wst_HostResetCompletes_1).pwr.aon = true :=
  by
    decide +kernel

def wst_HostResetCompletes_2 : State :=
  (fun (s : State) => { s with pwr := { s.pwr with aon := true, perst := true } }) State.reset
theorem wit_HostResetCompletes_2 : (wst_HostResetCompletes_2).Inv ∧ (wst_HostResetCompletes_2).pwr.perst = true ∧
    (wst_HostResetCompletes_2).pwr.aon = true :=
  by
    unfold State.Inv PlotsWf Plot.Wf Rises
    decide +kernel

def wst_HostResetCompletes_3 : State :=
  (fun (s : State) => { s with pwr := { s.pwr with aon := true, perst := false, mode := .up }, fab := {} }) State.reset
theorem wit_HostResetCompletes_3 : ∃ (_d : Bool), (wst_HostResetCompletes_3).glinkOn = true ∧ (wst_HostResetCompletes_3).pwr.perst = false :=
  ⟨(true), by
    decide +kernel⟩

def wst_HostResetCompletes_4 : State :=
  (fun (s : State) => { s with fab := {}, link := { s.link with up := true } }) State.reset
theorem wit_HostResetCompletes_4 : ∃ (_n : Nat), (wst_HostResetCompletes_4).link.up = true :=
  ⟨(0), by
    decide +kernel⟩

def wst_HostResetCompletes_5 : State :=
  (fun (s : State) => { s with pwr := { s.pwr with perst := false }, link := { s.link with up := true } }) State.reset
theorem wit_HostResetCompletes_5 : (wst_HostResetCompletes_5).Inv ∧ (wst_HostResetCompletes_5).link.up = true ∧
    (wst_HostResetCompletes_5).pwr.perst = false :=
  by
    unfold State.Inv PlotsWf Plot.Wf Rises
    decide +kernel

def wst_HostResetCompletes_6 : State :=
  (fun (s : State) => { s with fab := {}, coh := {}, plat := {}, host := { s.host with inFlr := true, queue := [] }, pwr := { s.pwr with hold := [] } }) State.reset
theorem wit_HostResetCompletes_6 : (wst_HostResetCompletes_6).host.inFlr = true ∧ (wst_HostResetCompletes_6).pwr.hold = [] ∧
    (wst_HostResetCompletes_6).atsOpen = false ∧ (wst_HostResetCompletes_6).coh = {} :=
  by
    decide +kernel

def wst_HostResetCompletes_7 : State :=
  (fun (s : State) => { s with fab := { s.fab with dieReset := [0, 1] } }) State.reset
theorem wit_HostResetCompletes_7 : ∃ (d : Fin 2), (wst_HostResetCompletes_7).Inv ∧ (wst_HostResetCompletes_7).fab.dieReset.contains d.val = true :=
  ⟨(0), by
    unfold State.Inv PlotsWf Plot.Wf Rises
    decide +kernel⟩

def wst_HostResetCompletes_8 : State :=
  (fun (s : State) => { s with pwr := { s.pwr with scrub := [(0, 2), (5, 6144)] }, hbm := [(0, 5), (67108864, 6), (67108865, 7), (402653184, 9)], coh := {} }) State.reset
theorem wit_HostResetCompletes_8 : ∃ (k : Fin 6144) (_a : Nat), (wst_HostResetCompletes_8).Inv ∧ (wst_HostResetCompletes_8).scrubPending k = true ∧
    (wst_HostResetCompletes_8).scrubHeld k = false :=
  ⟨(0), (0), by
    unfold State.Inv PlotsWf Plot.Wf Rises
    decide +kernel⟩

/-! ### BootCompletes -/

def wst_BootCompletes_0 : State :=
  (fun (s : State) => ((base34) s).setVal O.strapTries 0) State.reset
theorem wit_BootCompletes_0 : (wst_BootCompletes_0).pwr.aon = true ∧ (wst_BootCompletes_0).pwr.modrst = false ∧
    (wst_BootCompletes_0).pwr.mode = .starting ∧ (wst_BootCompletes_0).hl.running = false ∧ (wst_BootCompletes_0).hl.bootState ≠ 3 ∧
    (wst_BootCompletes_0).val O.strapTries = 0 ∧ (wst_BootCompletes_0).hl.boot.pending = none ∧
    (wst_BootCompletes_0).hl.good (wst_BootCompletes_0).hl.boot.active = true :=
  by
    decide +kernel

def wst_BootCompletes_1 : State :=
  (fun (s : State) => (base34) s |> fun s => { s with hl := { s.hl with romFails := 2 } }) State.reset
theorem wit_BootCompletes_1 : (wst_BootCompletes_1).pwr.aon = true ∧ (wst_BootCompletes_1).pwr.modrst = false ∧
    (wst_BootCompletes_1).hl.running = false ∧ (wst_BootCompletes_1).hl.bootState ≠ 3 ∧ (wst_BootCompletes_1).hl.romFails < 3 :=
  by
    decide +kernel

def wst_BootCompletes_2 : State :=
  (fun (s : State) => (base34) s) State.reset
theorem wit_BootCompletes_2 : (wst_BootCompletes_2).pwr.aon = true ∧ (wst_BootCompletes_2).pwr.modrst = false ∧
    (wst_BootCompletes_2).hl.running = false ∧ (wst_BootCompletes_2).hl.bootState ≠ 3 :=
  by
    decide +kernel

def wst_BootCompletes_3 : State :=
  (fun (s : State) => { s with hl := { s.hl with running := true, bootState := 1 } }) State.reset
theorem wit_BootCompletes_3 : (wst_BootCompletes_3).hl.running = true ∧ (wst_BootCompletes_3).hl.bootState = 1 :=
  by
    decide +kernel

def wst_BootCompletes_4 : State :=
  (fun (s : State) => { s with pwr := { s.pwr with aon := true, modrst := false } }) State.reset
theorem wit_BootCompletes_4 : ∃ (_ok : Bool), (wst_BootCompletes_4).pwr.aon = true ∧ (wst_BootCompletes_4).pwr.modrst = false :=
  ⟨(true), by
    decide +kernel⟩

def wst_BootCompletes_5 : State :=
  (fun (s : State) => { s with pwr := { s.pwr with aon := true, modrst := false }, hl := { s.hl with running := true } }) State.reset
theorem wit_BootCompletes_5 : ∃ (_ok : Bool), (wst_BootCompletes_5).pwr.aon = true ∧ (wst_BootCompletes_5).pwr.modrst = false ∧
    (wst_BootCompletes_5).hl.running = true :=
  ⟨(true), by
    decide +kernel⟩

def wst_BootCompletes_6 : State :=
  (fun (s : State) => { s with dict := {}, hl := { s.hl with running := true }, cal := { s.cal with busy := none } }) State.reset
theorem wit_BootCompletes_6 : ∃ (r : Route) (_ok : Bool), (wst_BootCompletes_6).served r 0x188301 = true ∧ (wst_BootCompletes_6).cal.busy = none :=
  ⟨(.F), (true), by
    decide +kernel⟩

/-! ### PartResetsComplete -/

def wst_PartResetsComplete_0 : State :=
  (fun (s : State) => { s with hl := { s.hl with running := true }, seed := { s.seed with state := .replaying }, slice := { s.slice with joining := none } }) State.reset
theorem wit_PartResetsComplete_0 : ∃ (_us : Word32), (wst_PartResetsComplete_0).Inv ∧ (wst_PartResetsComplete_0).hl.running = true ∧
    (wst_PartResetsComplete_0).seed.state = .replaying ∧ (wst_PartResetsComplete_0).slice.joining = none :=
  ⟨(5), by
    unfold State.Inv PlotsWf Plot.Wf Rises
    decide +kernel⟩

def wst_PartResetsComplete_1 : State :=
  (fun (s : State) => { s with fab := {}, dict := {}, hl := { s.hl with running := true }, pwr := { s.pwr with mode := .up } }) State.reset
theorem wit_PartResetsComplete_1 : ∃ (r : Route) (m : Half) (p : Fin 16), (wst_PartResetsComplete_1).Inv ∧
    (wst_PartResetsComplete_1).served r 0x188503 = true ∧ bit m.toNat p = true ∧ ((wst_PartResetsComplete_1).plot p).state ≠ .fenced :=
  ⟨(.F), (0xFFFF), (0), by
    unfold State.Inv PlotsWf Plot.Wf Rises
    decide +kernel⟩

def wst_PartResetsComplete_2 : State :=
  (fun (s : State) => { s with fab := {}, dict := {}, hl := { s.hl with running := true }, pwr := { s.pwr with mode := .up } }) State.reset
theorem wit_PartResetsComplete_2 : ∃ (r : Route) (m : Half) (p : Fin 16), (wst_PartResetsComplete_2).Inv ∧
    (wst_PartResetsComplete_2).served r 0x188502 = true ∧ (wst_PartResetsComplete_2).pwr.mode = .up ∧ bit m.toNat p = true ∧
    bit (wst_PartResetsComplete_2).pwr.plotHeldOff p = false :=
  ⟨(.F), (0xFFFF), (0), by
    unfold State.Inv PlotsWf Plot.Wf Rises
    decide +kernel⟩

def wst_PartResetsComplete_3 : State :=
  (fun (s : State) => { s with fab := {}, dict := {}, hl := { s.hl with running := true }, pwr := { s.pwr with mode := .up } }) State.reset
theorem wit_PartResetsComplete_3 : ∃ (r : Route) (m : Byte) (d : Fin 2), (wst_PartResetsComplete_3).Inv ∧
    (wst_PartResetsComplete_3).served r 0x188504 = true ∧ (wst_PartResetsComplete_3).pwr.mode = .up ∧ m.toNat < 4 ∧ bit m.toNat d = true :=
  ⟨(.F), (3), (0), by
    unfold State.Inv PlotsWf Plot.Wf Rises
    decide +kernel⟩

def wst_PartResetsComplete_4 : State :=
  (fun (s : State) => (({ s with pwr := { s.pwr with mode := .starting, powerAt := some 30, hold := [] }, hl := { s.hl with running := true } } : State).setVal O.pwrRequest 0)) State.reset
theorem wit_PartResetsComplete_4 : ∃ (_l : List (Nat × Nat)) (a : Nat), (wst_PartResetsComplete_4).Inv ∧
    (wst_PartResetsComplete_4).pwr.mode = .starting ∧ (wst_PartResetsComplete_4).pwr.powerAt = some a ∧
    (wst_PartResetsComplete_4).val O.pwrRequest = 0 ∧ (wst_PartResetsComplete_4).hl.running = true ∧ (wst_PartResetsComplete_4).pwr.hold = [] :=
  ⟨([]), (30), by
    unfold State.Inv PlotsWf Plot.Wf Rises
    decide +kernel⟩

def wst_PartResetsComplete_5 : State :=
  (fun (s : State) => { s with host := { s.host with power := .leaving false }, pwr := { s.pwr with hold := [] }, coh := {}, fab := { s.fab with waiting := [], owed := [] } }) State.reset
theorem wit_PartResetsComplete_5 : (wst_PartResetsComplete_5).Inv ∧ (wst_PartResetsComplete_5).host.power = .leaving false ∧
    (wst_PartResetsComplete_5).pwr.hold = [] ∧ (wst_PartResetsComplete_5).coh.scrubbing = [] ∧ (wst_PartResetsComplete_5).coh.changing = [] ∧
    (wst_PartResetsComplete_5).coh.stores = [] ∧ (wst_PartResetsComplete_5).coh.waiting = [] ∧ (wst_PartResetsComplete_5).fab.waiting = [] ∧
    (wst_PartResetsComplete_5).fab.owed = [] :=
  by
    unfold State.Inv PlotsWf Plot.Wf Rises
    decide +kernel

/-! ### DictionaryReadsComplete -/

def wst_DictionaryReadsComplete_0 : State :=
  (fun (s : State) => slotReq s 3 1 0 [1, 0, 0, 0, 0x00, 0x10, 1, 7]) State.reset
theorem wit_DictionaryReadsComplete_0 : ∃ (n : Nat) (e : WEntry), (wst_DictionaryReadsComplete_0).SlotTurn n 1 ∧
    ((wst_DictionaryReadsComplete_0).mslot n).txn = 0 ∧ parseReads ((wst_DictionaryReadsComplete_0).slotBody n) = some [e] ∧ mostBytes [e] ≤ 2048 :=
  ⟨(3), (((parseReads (wst_DictionaryReadsComplete_0.slotBody 3)).getD [{ idx := 0, sub := 0, ty := 0, data := [] }]).headD { idx := 0, sub := 0, ty := 0, data := [] }), by
    unfold State.SlotTurn
    decide +kernel⟩

def wst_DictionaryReadsComplete_1 : State :=
  (fun (s : State) => slotReq s 3 5 0 [1, 0, 0, 0, 0x00, 0x10, 1, 7]) State.reset
theorem wit_DictionaryReadsComplete_1 : ∃ (n : Nat) (e : WEntry), (wst_DictionaryReadsComplete_1).SlotTurn n 5 ∧
    ((wst_DictionaryReadsComplete_1).mslot n).txn = 0 ∧ parseReads ((wst_DictionaryReadsComplete_1).slotBody n) = some [e] :=
  ⟨(3), (((parseReads (wst_DictionaryReadsComplete_1.slotBody 3)).getD [{ idx := 0, sub := 0, ty := 0, data := [] }]).headD { idx := 0, sub := 0, ty := 0, data := [] }), by
    unfold State.SlotTurn
    decide +kernel⟩

def wst_DictionaryReadsComplete_2 : State :=
  (fun (s : State) => slotReq s 3 3 0 [1,0,0,0, 0x60,0x18,1,0, 0,0,0,0, 16,0,0,0]) State.reset
theorem wit_DictionaryReadsComplete_2 : ∃ (n : Nat) (b : List Byte), (wst_DictionaryReadsComplete_2).SlotTurn n 3 ∧
    ((wst_DictionaryReadsComplete_2).mslot n).txn = 0 ∧ (wst_DictionaryReadsComplete_2).slotBody n = b ∧ blockOk b false = true ∧
    12 + pad4 (bytesAt b 12 2) ≤ 2048 :=
  ⟨(3), (wst_DictionaryReadsComplete_2.slotBody 3), by
    unfold State.SlotTurn
    decide +kernel⟩

def wst_DictionaryReadsComplete_3 : State :=
  (fun (s : State) => slotReq s 3 2 0 [1,0,0,0, 0x00,0x20,5,2, 2,0,9,0]) State.reset
theorem wit_DictionaryReadsComplete_3 : ∃ (n : Nat) (e : WEntry) (u : State) (k : Nat), (wst_DictionaryReadsComplete_3).SlotTurn n 2 ∧
    ((wst_DictionaryReadsComplete_3).mslot n).txn = 0 ∧ parseWrites ((wst_DictionaryReadsComplete_3).slotBody n) = some [e] ∧
    ((wst_DictionaryReadsComplete_3).hlAnswers.noteOwner .H).odWrite .H e = (u, k) ∧
    u.hl = ((wst_DictionaryReadsComplete_3).hlAnswers.noteOwner .H).hl ∧ u.mir = (wst_DictionaryReadsComplete_3).mir :=
  ⟨(3), (((parseWrites (wst_DictionaryReadsComplete_3.slotBody 3)).getD [{ idx := 0, sub := 0, ty := 0, data := [] }]).headD { idx := 0, sub := 0, ty := 0, data := [] }), (((wst_DictionaryReadsComplete_3.hlAnswers.noteOwner .H).odWrite .H (((parseWrites (wst_DictionaryReadsComplete_3.slotBody 3)).getD [{ idx := 0, sub := 0, ty := 0, data := [] }]).headD { idx := 0, sub := 0, ty := 0, data := [] })).1), (((wst_DictionaryReadsComplete_3.hlAnswers.noteOwner .H).odWrite .H (((parseWrites (wst_DictionaryReadsComplete_3.slotBody 3)).getD [{ idx := 0, sub := 0, ty := 0, data := [] }]).headD { idx := 0, sub := 0, ty := 0, data := [] })).2), by
    unfold State.SlotTurn
    decide +kernel⟩

def wst_DictionaryReadsComplete_4 : State :=
  (fun (s : State) => slotReq s 3 4 0 [1,0,0,0, 0x90,0x18,3,0, 0,0,0,0, 4,0,0,0, 1,2,3,4]) State.reset
theorem wit_DictionaryReadsComplete_4 : ∃ (n : Nat) (b : List Byte) (u : State) (k : Nat), (wst_DictionaryReadsComplete_4).SlotTurn n 4 ∧
    ((wst_DictionaryReadsComplete_4).mslot n).txn = 0 ∧ (wst_DictionaryReadsComplete_4).slotBody n = b ∧ blockOk b true = true ∧
    ((wst_DictionaryReadsComplete_4).hlAnswers.noteOwner .H).blockWrite .H (bytesAt b 4 2) (bytesAt b 6 1) (bytesAt b 7 1) (bytesAt b 8 4) (bytesAt b 12 2) ((b.drop 16).take (bytesAt b 12 2)) = (u,
    k) ∧ u.hl = ((wst_DictionaryReadsComplete_4).hlAnswers.noteOwner .H).hl ∧ u.mir = (wst_DictionaryReadsComplete_4).mir :=
  ⟨(3), (wst_DictionaryReadsComplete_4.slotBody 3), (((wst_DictionaryReadsComplete_4.hlAnswers.noteOwner .H).blockWrite .H (bytesAt (wst_DictionaryReadsComplete_4.slotBody 3) 4 2) (bytesAt (wst_DictionaryReadsComplete_4.slotBody 3) 6 1) (bytesAt (wst_DictionaryReadsComplete_4.slotBody 3) 7 1) (bytesAt (wst_DictionaryReadsComplete_4.slotBody 3) 8 4) (bytesAt (wst_DictionaryReadsComplete_4.slotBody 3) 12 2) (((wst_DictionaryReadsComplete_4.slotBody 3).drop 16).take (bytesAt (wst_DictionaryReadsComplete_4.slotBody 3) 12 2))).1), (((wst_DictionaryReadsComplete_4.hlAnswers.noteOwner .H).blockWrite .H (bytesAt (wst_DictionaryReadsComplete_4.slotBody 3) 4 2) (bytesAt (wst_DictionaryReadsComplete_4.slotBody 3) 6 1) (bytesAt (wst_DictionaryReadsComplete_4.slotBody 3) 7 1) (bytesAt (wst_DictionaryReadsComplete_4.slotBody 3) 8 4) (bytesAt (wst_DictionaryReadsComplete_4.slotBody 3) 12 2) (((wst_DictionaryReadsComplete_4.slotBody 3).drop 16).take (bytesAt (wst_DictionaryReadsComplete_4.slotBody 3) 12 2))).2), by
    unfold State.SlotTurn
    decide +kernel⟩

def wst_DictionaryReadsComplete_5 : State :=
  (fun (s : State) => { firm s with mir := { s.mir with slots := [] } }) State.reset
theorem wit_DictionaryReadsComplete_5 : ∃ (n : Fin 16) (v : Word) (_rid : Half), ((wst_DictionaryReadsComplete_5).mslot n).state ≠ 1 ∧
    bit v.toNat 63 = true ∧ (wst_DictionaryReadsComplete_5).mirrorServed = true ∧ 4 ≤ fld v.toNat 42 32 ∧ fld v.toNat 42 32 ≤ 1792 :=
  ⟨(0), (0x8000001000020001), (7), by
    decide +kernel⟩

/-! ### TransactionsComplete -/

def wst_TransactionsComplete_0 : State :=
  (fun (s : State) => slotReq s 3 6 0 [1,0,0,0]) State.reset
theorem wit_TransactionsComplete_0 : ∃ (n : Nat), (wst_TransactionsComplete_0).SlotTurn n 6 ∧ ((wst_TransactionsComplete_0).mslot n).txn = 0 ∧
    (wst_TransactionsComplete_0).dict.txns = [] :=
  ⟨(3), by
    unfold State.SlotTurn
    decide +kernel⟩

def wst_TransactionsComplete_1 : State :=
  (fun (s : State) => (base44) (slotReq s 3 6 0 [1,0,0,0])) State.reset
theorem wit_TransactionsComplete_1 : ∃ (n : Nat) (x : Txn), (wst_TransactionsComplete_1).SlotTurn n 6 ∧
    ((wst_TransactionsComplete_1).mslot n).txn = 0 ∧ (wst_TransactionsComplete_1).dict.txns = [(.H, x)] :=
  ⟨(3), ({ id := 9, last := 5 }), by
    unfold State.SlotTurn
    decide +kernel⟩

def wst_TransactionsComplete_2 : State :=
  (fun (s : State) => (base44) (slotReq s 3 7 9 [1,0,0,0, 0x00,0x20,5,2, 2,0,0,0])) State.reset
theorem wit_TransactionsComplete_2 : ∃ (n : Nat) (x : Txn) (e : WEntry), (wst_TransactionsComplete_2).SlotTurn n 7 ∧
    ((wst_TransactionsComplete_2).mslot n).txn = x.id ∧ x.id ≠ 0 ∧ (wst_TransactionsComplete_2).dict.txns = [(.H, x)] ∧
    parseWrites ((wst_TransactionsComplete_2).slotBody n) = some [e] ∧ x.staged = [] ∧ e.data.length ≤ 4096 ∧
    (((wst_TransactionsComplete_2).hlAnswers.noteOwner .H).setTxn .H { x with last := (wst_TransactionsComplete_2).now }).odCheck .H e true false = 0 :=
  ⟨(3), ({ id := 9, last := 5 }), (((parseWrites (wst_TransactionsComplete_2.slotBody 3)).getD [{ idx := 0, sub := 0, ty := 0, data := [] }]).headD { idx := 0, sub := 0, ty := 0, data := [] }), by
    unfold State.SlotTurn
    decide +kernel⟩

def wst_TransactionsComplete_3 : State :=
  (fun (s : State) => (base44) (slotReq s 3 9 9 [1,0,0,0])) State.reset
theorem wit_TransactionsComplete_3 : ∃ (n : Nat) (x : Txn), (wst_TransactionsComplete_3).SlotTurn n 9 ∧
    ((wst_TransactionsComplete_3).mslot n).txn = x.id ∧ x.id ≠ 0 ∧ (wst_TransactionsComplete_3).dict.txns = [(.H, x)] :=
  ⟨(3), ({ id := 9, last := 5 }), by
    unfold State.SlotTurn
    decide +kernel⟩

def wst_TransactionsComplete_4 : State :=
  (fun (s : State) => (base44) (slotReq s 3 8 9 [1,0,0,0])) State.reset
theorem wit_TransactionsComplete_4 : ∃ (n : Nat) (x : Txn), (wst_TransactionsComplete_4).SlotTurn n 8 ∧
    ((wst_TransactionsComplete_4).mslot n).txn = x.id ∧ x.id ≠ 0 ∧ (wst_TransactionsComplete_4).dict.txns = [(.H, x)] ∧
    x.staged.all (fun y => y.1) = true ∧
    ((((wst_TransactionsComplete_4).hlAnswers.noteOwner .H).setTxn .H { x with last := (wst_TransactionsComplete_4).now }).tryStaged .H x.staged).find? (fun y => y.2 != 0) = none :=
  ⟨(3), ({ id := 9, last := 5 }), by
    unfold State.SlotTurn
    decide +kernel⟩

def wst_TransactionsComplete_5 : State :=
  (fun (s : State) => (fun (s : State) => { s with dict := { s.dict with txns := [(.H, { id := 9, last := 5, staged := [(true, { idx := 0x2000, sub := 5, ty := 2, data := [7, 0] })] })], locks := [] }, fw := {} } : State →
    State) (slotReq s 3 8 9 [1,0,0,0])) State.reset
theorem wit_TransactionsComplete_5 : ∃ (n : Nat) (x : Txn) (y : WEntry × Nat), (wst_TransactionsComplete_5).SlotTurn n 8 ∧
    ((wst_TransactionsComplete_5).mslot n).txn = x.id ∧ x.id ≠ 0 ∧ (wst_TransactionsComplete_5).dict.txns = [(.H, x)] ∧
    ((((wst_TransactionsComplete_5).hlAnswers.noteOwner .H).setTxn .H { x with last := (wst_TransactionsComplete_5).now }).tryStaged .H x.staged).find? (fun y => y.2 != 0) = some y ∧
    y.1.idx ≠ 0x2801 :=
  ⟨(3), ({ id := 9, last := 5, staged := [(true, { idx := 0x2000, sub := 5, ty := 2, data := [7, 0] })] }), (({ idx := 0x2000, sub := 5, ty := 2, data := [7, 0] }, 10)), by
    unfold State.SlotTurn
    decide +kernel⟩

def wst_TransactionsComplete_6 : State :=
  (fun (s : State) => { s with dict := { s.dict with txns := [(.F, { id := 9, last := 5 })] } }) State.reset
theorem wit_TransactionsComplete_6 : ∃ (r : Route) (x : Txn), (wst_TransactionsComplete_6).Inv ∧ (wst_TransactionsComplete_6).dict.txns = [(r, x)] :=
  ⟨(.F), ({ id := 9, last := 5 }), by
    unfold State.Inv PlotsWf Plot.Wf Rises
    decide +kernel⟩

/-! ### FieldNetworkCompletes -/

def wst_FieldNetworkCompletes_0 : State :=
  (fun (s : State) => (fun (s : State) => { firm s with dict := { s.dict with lastRoute := .M }, hop := { s.hop with waiting := [{ mac := 0x112233445566, node := 5, op := 0, nonce := s.hop.nonce, seq := 7, txn := 0, body := [] }], hellos := 0, rates := [], second := s.now / 1000000000 } } : State →
    State) s) State.reset
theorem wit_FieldNetworkCompletes_0 : ∃ (q : FieldReq) (l : List FieldReq), (wst_FieldNetworkCompletes_0).hop.waiting = q :: l ∧
    (wst_FieldNetworkCompletes_0).hlAlive = true ∧ (wst_FieldNetworkCompletes_0).turn .F = true ∧ q.op = 0 ∧
    (((wst_FieldNetworkCompletes_0).hop.second = (wst_FieldNetworkCompletes_0).now / 1000000000 → (wst_FieldNetworkCompletes_0).hop.hellos < 10)) :=
  ⟨({ mac := 0x112233445566, node := 5, op := 0, nonce := wst_FieldNetworkCompletes_0.hop.nonce, seq := 7, txn := 0, body := [] }), ([]), by
    decide +kernel⟩

def wst_FieldNetworkCompletes_1 : State :=
  (fun (s : State) => (fun (s : State) => { firm s with dict := { s.dict with lastRoute := .M }, hop := { s.hop with waiting := [{ mac := 0x112233445566, node := 5, op := 0xC, nonce := s.hop.nonce, seq := 7, txn := 0, body := [] }], hellos := 0, rates := [], second := s.now / 1000000000 } } : State →
    State) s) State.reset
theorem wit_FieldNetworkCompletes_1 : ∃ (q : FieldReq) (l : List FieldReq), (wst_FieldNetworkCompletes_1).hop.waiting = q :: l ∧
    (wst_FieldNetworkCompletes_1).hl.running = true ∧ (wst_FieldNetworkCompletes_1).turn .F = true ∧ q.op = 0xC :=
  ⟨({ mac := 0x112233445566, node := 5, op := 0xC, nonce := wst_FieldNetworkCompletes_1.hop.nonce, seq := 7, txn := 0, body := [] }), ([]), by
    decide +kernel⟩

def wst_FieldNetworkCompletes_2 : State :=
  (fun (s : State) => (fun (s : State) => { s with hop := { s.hop with nonce := s.hop.nonce % 2 ^ 32, key := some 0 }, pwr := { s.pwr with aon := true } } : State →
    State) ((firm s).setVal O.t1sNode 4)) State.reset
theorem wit_FieldNetworkCompletes_2 : ∃ (f : List Byte), (wst_FieldNetworkCompletes_2).hlAlive = true ∧ (wst_FieldNetworkCompletes_2).pwr.aon = true ∧
    (wst_FieldNetworkCompletes_2).Authentic f ∧ (hopRequest f).op = 0xB ∧ (hopRequest f).nonce = (wst_FieldNetworkCompletes_2).hop.nonce :=
  ⟨(frameFor wst_FieldNetworkCompletes_2.fieldKey (natLe 6 0x112233445566 ++ [0x88, 0xB5]) ([1, 1, 0xB, 0] ++ natLe 1 wst_FieldNetworkCompletes_2.node ++ [5, 0, 0] ++ natLe 4 wst_FieldNetworkCompletes_2.hop.nonce ++ natLe 4 7 ++ [0, 0, 0, 0])), by
    have k := frameFor_authentic wst_FieldNetworkCompletes_2 (natLe 6 0x112233445566 ++ [0x88, 0xB5]) ([1, 1,
    0xB, 0] ++ natLe 1 wst_FieldNetworkCompletes_2.node ++ [5, 0, 0] ++ natLe 4 wst_FieldNetworkCompletes_2.hop.nonce ++ natLe 4 7 ++ [0, 0, 0,
    0]) rfl rfl rfl (by decide +kernel)
    exact ⟨by decide +kernel, by decide +kernel, k.1, k.2.1.trans (by decide +kernel), k.2.2.trans (by decide +kernel)⟩⟩

def wst_FieldNetworkCompletes_3 : State :=
  (fun (s : State) => firm s) State.reset
theorem wit_FieldNetworkCompletes_3 : ∃ (f : List Byte), (wst_FieldNetworkCompletes_3).Inv ∧ (wst_FieldNetworkCompletes_3).hlAlive = true ∧
    (wst_FieldNetworkCompletes_3).pwr.aon = true ∧ (f.drop 12).take 2 ≠ [0x88, 0xB5] :=
  ⟨([]), by
    unfold State.Inv PlotsWf Plot.Wf Rises
    decide +kernel⟩

def wst_FieldNetworkCompletes_4 : State :=
  (fun (s : State) => firm s) State.reset
theorem wit_FieldNetworkCompletes_4 : (wst_FieldNetworkCompletes_4).Inv ∧ (wst_FieldNetworkCompletes_4).pwr.aon = true ∧
    (wst_FieldNetworkCompletes_4).hop.plca ≠ 1 :=
  by
    unfold State.Inv PlotsWf Plot.Wf Rises
    decide +kernel

def wst_FieldNetworkCompletes_5 : State :=
  (fun (s : State) => { firm s with hop := { s.hop with plca := 1 } }) State.reset
theorem wit_FieldNetworkCompletes_5 : (wst_FieldNetworkCompletes_5).pwr.aon = true ∧ (wst_FieldNetworkCompletes_5).hop.plca = 1 :=
  by
    decide +kernel

def wst_FieldNetworkCompletes_6 : State :=
  (fun (s : State) => ({ firm s with hop := { s.hop with unacked := [{ seq := 7, note := { idx := 0, sub := 0, ty := 0, lost := 0, timeValid := false, truncated := false, domainOff := false, number := 1, time := 0, value := 0 }, resends := 1, at_ := 50 }] } } : State).setVal O.notifyDestMac 77) State.reset
theorem wit_FieldNetworkCompletes_6 : ∃ (q : Nat) (u : Unacked), (wst_FieldNetworkCompletes_6).hop.unacked = [u] ∧ u.seq = q ∧ u.resends < 3 ∧
    (wst_FieldNetworkCompletes_6).val O.notifyDestMac ≠ 0 ∧ (wst_FieldNetworkCompletes_6).hl.running = true :=
  ⟨(7), ({ seq := 7, note := { idx := 0, sub := 0, ty := 0, lost := 0, timeValid := false, truncated := false, domainOff := false, number := 1, time := 0, value := 0 }, resends := 1, at_ := 50 }), by
    decide +kernel⟩

def wst_FieldNetworkCompletes_7 : State :=
  (fun (s : State) => (fun (s : State) => { firm s with od := s.od.filter (fun e => e.1 / 256 != O.subscription / 256), hop := { s.hop with unacked := [] }, dict := { s.dict with subs := [(1, { lastVal := some 8, seen := some 8 })] } } : State →
    State) s |> fun s => (((s.setVal O.subscription (0x2000 + 5 * 2 ^ 16 + 2 ^ 24)).setVal O.notifyDestMac 77).setVal 0x200005 9)) State.reset
theorem wit_FieldNetworkCompletes_7 : ∃ (row : ObjRow) (old cur : Nat), (wst_FieldNetworkCompletes_7).Inv ∧
    (wst_FieldNetworkCompletes_7).hl.running = true ∧ ((∀ n : Fin 31, (wst_FieldNetworkCompletes_7).val (O.subscription + (n.val + 1)) = 0)) ∧
    fld ((wst_FieldNetworkCompletes_7).val O.subscription) 26 24 = 1 ∧ fld ((wst_FieldNetworkCompletes_7).val O.subscription) 29 28 = 0 ∧
    objRow? (fld ((wst_FieldNetworkCompletes_7).val O.subscription) 15 0) (fld ((wst_FieldNetworkCompletes_7).val O.subscription) 23 16) = some row ∧
    (wst_FieldNetworkCompletes_7).odOff (fld ((wst_FieldNetworkCompletes_7).val O.subscription) 15 0 * 256 + fld ((wst_FieldNetworkCompletes_7).val O.subscription) 23 16) = false ∧
    row.acc ≠ .wo ∧
    (wst_FieldNetworkCompletes_7).odLive .F (fld ((wst_FieldNetworkCompletes_7).val O.subscription) 15 0 * 256 + fld ((wst_FieldNetworkCompletes_7).val O.subscription) 23 16) = cur ∧
    (wst_FieldNetworkCompletes_7).sub 1 = { lastVal := some old, seen := some old } ∧ cur ≠ old ∧
    (wst_FieldNetworkCompletes_7).val O.notifyDestMac ≠ 0 ∧ (wst_FieldNetworkCompletes_7).hop.unacked = [] :=
  ⟨(((objRow? 0x2000 5).getD ⟨0, 0, 0, .u8, .ro, 0, 0, 0, .any⟩)), (8), (9), by
    unfold State.Inv PlotsWf Plot.Wf Rises
    decide +kernel⟩

/-! ### PersistenceCompletes -/

def wst_PersistenceCompletes_0 : State :=
  (fun (s : State) => { base47 s with dict := { s.dict with commit := .done, locks := [] } }) State.reset
theorem wit_PersistenceCompletes_0 : ∃ (r : Route), (wst_PersistenceCompletes_0).served r 0x120001 = true ∧
    ((wst_PersistenceCompletes_0).dict.commit = .idle ∨ (wst_PersistenceCompletes_0).dict.commit = .done) :=
  ⟨(.F), by
    decide +kernel⟩

def wst_PersistenceCompletes_1 : State :=
  (fun (s : State) => { firm s with dict := { s.dict with commit := .pending } }) State.reset
theorem wit_PersistenceCompletes_1 : (wst_PersistenceCompletes_1).hl.running = true ∧ (wst_PersistenceCompletes_1).dict.commit = .pending :=
  by
    decide +kernel

def wst_PersistenceCompletes_2 : State :=
  (fun (s : State) => { firm s with dict := { s.dict with commit := .busy, again := false } }) State.reset
theorem wit_PersistenceCompletes_2 : (wst_PersistenceCompletes_2).Inv ∧ (wst_PersistenceCompletes_2).hl.running = true ∧
    (wst_PersistenceCompletes_2).dict.commit = .busy ∧ (wst_PersistenceCompletes_2).dict.again = false :=
  by
    unfold State.Inv PlotsWf Plot.Wf Rises
    decide +kernel

def wst_PersistenceCompletes_3 : State :=
  (fun (s : State) => base47 s) State.reset
theorem wit_PersistenceCompletes_3 : ∃ (r : Route), (wst_PersistenceCompletes_3).served r 0x120003 = true :=
  ⟨(.F), by
    decide +kernel⟩

def wst_PersistenceCompletes_4 : State :=
  (fun (s : State) => base47 s) State.reset
theorem wit_PersistenceCompletes_4 : ∃ (_r : Route) (m : Half), (wst_PersistenceCompletes_4).hl.running = true ∧ m.toNat &&& 0x81FE = m.toNat ∧
    (wst_PersistenceCompletes_4).dict.locks = [] :=
  ⟨(.F), (0x81FE), by
    decide +kernel⟩

def wst_PersistenceCompletes_5 : State :=
  (fun (s : State) => { s with dict := { s.dict with locks := [(.M, 6, 50)] } }) State.reset
theorem wit_PersistenceCompletes_5 : ∃ (r : Route) (g : Nat) (e : Nat), (wst_PersistenceCompletes_5).dict.locks = [(r, g, e)] :=
  ⟨(.M), (6), (50), by
    decide +kernel⟩

def wst_PersistenceCompletes_6 : State :=
  (fun (s : State) => { base47 s with hop := { s.hop with staged := some 44 } }) State.reset
theorem wit_PersistenceCompletes_6 : ∃ (r : Route) (k : Nat), (wst_PersistenceCompletes_6).Inv ∧
    (wst_PersistenceCompletes_6).served r 0x111004 = true ∧ (wst_PersistenceCompletes_6).hop.staged = some k :=
  ⟨(.F), (44), by
    unfold State.Inv PlotsWf Plot.Wf Rises
    decide +kernel⟩

/-! ### FirmwareDownloadCompletes -/

def wst_FirmwareDownloadCompletes_0 : State :=
  (fun (s : State) => base43 s) State.reset
theorem wit_FirmwareDownloadCompletes_0 : ∃ (r : Route) (n : Word32), (wst_FirmwareDownloadCompletes_0).fwServed r 0x189002 = true ∧
    (wst_FirmwareDownloadCompletes_0).fw.status = .idle ∧ (wst_FirmwareDownloadCompletes_0).fw.owner = none ∧ n.toNat ≠ 0 ∧ n.toNat ≤ 3997696 :=
  ⟨(.F), (1), by
    decide +kernel⟩

def wst_FirmwareDownloadCompletes_1 : State :=
  (fun (s : State) => (fun (s : State) => { firm s with dict := { s.dict with locks := [] }, fw := { status := .erasing }, cal := { s.cal with busy := none } } : State →
    State) s) State.reset
theorem wit_FirmwareDownloadCompletes_1 : (wst_FirmwareDownloadCompletes_1).fw.status = .erasing :=
  by
    decide +kernel

def wst_FirmwareDownloadCompletes_2 : State :=
  (fun (s : State) => (fun (s : State) => { firm s with dict := { s.dict with locks := [] }, fw := { status := .receiving, owner := some .F, length := 100, received := 8 }, cal := { s.cal with busy := none } } : State →
    State) s) State.reset
theorem wit_FirmwareDownloadCompletes_2 : ∃ (r : Route) (off : Word32) (d : List Byte), (wst_FirmwareDownloadCompletes_2).fwServed r 0x189003 = true ∧
    (wst_FirmwareDownloadCompletes_2).fw.owner = some r ∧ (wst_FirmwareDownloadCompletes_2).fw.status = .receiving ∧ off.toNat % 4 = 0 ∧ d ≠ [] ∧
    d.length ≤ 1024 ∧ off.toNat = (wst_FirmwareDownloadCompletes_2).fw.received ∧
    off.toNat + d.length ≤ (wst_FirmwareDownloadCompletes_2).fw.length :=
  ⟨(.F), (8), ([1,2,3,4]), by
    decide +kernel⟩

def wst_FirmwareDownloadCompletes_3 : State :=
  (fun (s : State) => base35 s) State.reset
theorem wit_FirmwareDownloadCompletes_3 : ∃ (r : Route) (_ok : Bool) (_v : Word32), (wst_FirmwareDownloadCompletes_3).fwServed r 0x189005 = true ∧
    (wst_FirmwareDownloadCompletes_3).fw.owner = some r ∧ (wst_FirmwareDownloadCompletes_3).fw.status = .receiving ∧
    (wst_FirmwareDownloadCompletes_3).fw.received = (wst_FirmwareDownloadCompletes_3).fw.length :=
  ⟨(.F), (true), (0x01020304), by
    decide +kernel⟩

def wst_FirmwareDownloadCompletes_4 : State :=
  (fun (s : State) => (fun (s : State) => { firm s with dict := { s.dict with locks := [] }, fw := { status := .verified }, cal := { s.cal with busy := none } } : State →
    State) s) State.reset
theorem wit_FirmwareDownloadCompletes_4 : ∃ (r : Route) (_ok : Bool), (wst_FirmwareDownloadCompletes_4).served r 0x189006 = true ∧
    (wst_FirmwareDownloadCompletes_4).fw.status = .verified ∧ (wst_FirmwareDownloadCompletes_4).cal.busy = none :=
  ⟨(.F), (true), by
    decide +kernel⟩

def wst_FirmwareDownloadCompletes_5 : State :=
  (fun (s : State) => (fun (s : State) => { s with hl := { s.hl with bootState := 1 } } : State → State) (base43 s)) State.reset
theorem wit_FirmwareDownloadCompletes_5 : ∃ (r : Route), (wst_FirmwareDownloadCompletes_5).served r 0x189007 = true ∧
    (wst_FirmwareDownloadCompletes_5).fw.owner = none ∧ (wst_FirmwareDownloadCompletes_5).hl.bootState = 1 :=
  ⟨(.F), by
    decide +kernel⟩

def wst_FirmwareDownloadCompletes_6 : State :=
  (fun (s : State) => base35 s) State.reset
theorem wit_FirmwareDownloadCompletes_6 : ∃ (r : Route), (wst_FirmwareDownloadCompletes_6).fw.owner = some r ∧
    (wst_FirmwareDownloadCompletes_6).fw.status = .receiving :=
  ⟨(.F), by
    decide +kernel⟩

/-! ### SplitsComplete -/

def wst_SplitsComplete_0 : State :=
  (fun (s : State) => (({ (base47 s) with pwr := { s.pwr with mode := .up, aon := true }, plat := { s.plat with switching := none, mode := false, atsHeld := [] } } : State).setCfg 0x164 (2 ^ 31)).setCfg 0x15C (2 ^ 16)) State.reset
theorem wit_SplitsComplete_0 : ∃ (r : Route), (wst_SplitsComplete_0).served r 0x800001 = true ∧ (wst_SplitsComplete_0).gcoreOn = true ∧
    (wst_SplitsComplete_0).plat.switching = none ∧ (wst_SplitsComplete_0).plat.mode = false ∧ (wst_SplitsComplete_0).walkSwitchOk true = true ∧
    (wst_SplitsComplete_0).plat.atsHeld = [] :=
  ⟨(.F), by
    decide +kernel⟩

def wst_SplitsComplete_1 : State :=
  (fun (s : State) => (({ (base47 s) with flt := { s.flt with mode := false } } : State).setCfg 0x078 0)) State.reset
theorem wit_SplitsComplete_1 : ∃ (r : Route), (wst_SplitsComplete_1).Inv ∧ (wst_SplitsComplete_1).served r 0x800002 = true ∧
    (wst_SplitsComplete_1).flt.mode = false ∧ (wst_SplitsComplete_1).atomicEnable = false :=
  ⟨(.F), by
    unfold State.Inv PlotsWf Plot.Wf Rises
    decide +kernel⟩

def wst_SplitsComplete_2 : State :=
  (fun (s : State) => { (base47 s) with mig := { s.mig with hostMode := false } }) State.reset
theorem wit_SplitsComplete_2 : ∃ (r : Route), (wst_SplitsComplete_2).served r 0x800003 = true ∧ (wst_SplitsComplete_2).mig.hostMode = false :=
  ⟨(.F), by
    decide +kernel⟩

def wst_SplitsComplete_3 : State :=
  (fun (s : State) => ({ (base47 s) with seed := { s.seed with state := .ready, waiting := none, lots := [], unformatted := false }, rot := {}, g := {}, drill := {} } : State).setVal O.splitFtl 0) State.reset
theorem wit_SplitsComplete_3 : ∃ (r : Route), (wst_SplitsComplete_3).Inv ∧ (wst_SplitsComplete_3).served r 0x800004 = true ∧
    (wst_SplitsComplete_3).splitBusy 4 = false ∧ (wst_SplitsComplete_3).seed.state = .ready ∧ (wst_SplitsComplete_3).val O.splitFtl = 0 ∧
    (wst_SplitsComplete_3).seedTouched = false ∧ (wst_SplitsComplete_3).seed.waiting = none ∧ (wst_SplitsComplete_3).seed.lots = [] ∧
    (wst_SplitsComplete_3).rot.entries = [] :=
  ⟨(.F), by
    unfold State.Inv PlotsWf Plot.Wf Rises
    decide +kernel⟩

def wst_SplitsComplete_4 : State :=
  (fun (s : State) => (base47 s).setVal O.splitRotation 0) State.reset
theorem wit_SplitsComplete_4 : ∃ (r : Route), (wst_SplitsComplete_4).Inv ∧ (wst_SplitsComplete_4).served r 0x800005 = true ∧
    (wst_SplitsComplete_4).val O.splitRotation = 0 :=
  ⟨(.F), by
    unfold State.Inv PlotsWf Plot.Wf Rises
    decide +kernel⟩

def wst_SplitsComplete_5 : State :=
  (fun (s : State) => { (base47 s) with fc := { s.fc with mode := false } }) State.reset
theorem wit_SplitsComplete_5 : ∃ (r : Route), (wst_SplitsComplete_5).Inv ∧ (wst_SplitsComplete_5).served r 0x800006 = true ∧
    (wst_SplitsComplete_5).fc.mode = false :=
  ⟨(.F), by
    unfold State.Inv PlotsWf Plot.Wf Rises
    decide +kernel⟩

def wst_SplitsComplete_6 : State :=
  (fun (s : State) => (base47 s).setVal O.splitRetrain 0) State.reset
theorem wit_SplitsComplete_6 : ∃ (r : Route), (wst_SplitsComplete_6).Inv ∧ (wst_SplitsComplete_6).served r 0x800007 = true ∧
    (wst_SplitsComplete_6).val O.splitRetrain = 0 :=
  ⟨(.F), by
    unfold State.Inv PlotsWf Plot.Wf Rises
    decide +kernel⟩

def wst_SplitsComplete_7 : State :=
  (fun (s : State) => (base47 s).setVal O.splitCap 0) State.reset
theorem wit_SplitsComplete_7 : (wst_SplitsComplete_7).Inv ∧ (wst_SplitsComplete_7).served .H 0x800008 = true ∧
    (wst_SplitsComplete_7).val O.splitCap = 0 :=
  by
    unfold State.Inv PlotsWf Plot.Wf Rises
    decide +kernel

def wst_SplitsComplete_8 : State :=
  (fun (s : State) => (base47 s).setVal O.splitCap 0) State.reset
theorem wit_SplitsComplete_8 : (wst_SplitsComplete_8).val O.splitCap = 0 :=
  by
    decide +kernel

def wst_SplitsComplete_9 : State :=
  (fun (s : State) => (base47 s).setVal O.splitStakeTo 0) State.reset
theorem wit_SplitsComplete_9 : ∃ (r : Route), (wst_SplitsComplete_9).Inv ∧ (wst_SplitsComplete_9).served r 0x800009 = true ∧
    (wst_SplitsComplete_9).val O.splitStakeTo = 0 :=
  ⟨(.F), by
    unfold State.Inv PlotsWf Plot.Wf Rises
    decide +kernel⟩

/-! ### PoliciesComplete -/

def wst_PoliciesComplete_0 : State :=
  (fun (s : State) => base37 s) State.reset
theorem wit_PoliciesComplete_0 : ∃ (i : Fin 7) (r : Route), (wst_PoliciesComplete_0).Inv ∧
    (wst_PoliciesComplete_0).served r ((0x8010 + i) * 256 + 1) = true :=
  ⟨(0), (.F), by
    unfold State.Inv PlotsWf Plot.Wf Rises
    decide +kernel⟩

def wst_PoliciesComplete_1 : State :=
  (fun (s : State) => ({ ((base37 s).setVal ((0x8010 + 0) * 256 + 1) 2).setVal O.splitCap 0 with pwr := { s.pwr with mode := .up, aon := true, temps := [(0, 3000)] } } : State).setVal O.powerCap 2500) State.reset
theorem wit_PoliciesComplete_1 : ∃ (_peaks : Bool), (wst_PoliciesComplete_1).Inv ∧ (wst_PoliciesComplete_1).stewardTurn = true ∧
    (wst_PoliciesComplete_1).marginOf (wst_PoliciesComplete_1).closest ≤ (((wst_PoliciesComplete_1).val O.marginC * 16 : Nat) : Int) ∧
    (wst_PoliciesComplete_1).overridden O.powerCap = false ∧ (wst_PoliciesComplete_1).policyRuns 0 = 2 ∧
    (wst_PoliciesComplete_1).stewardRefused O.powerCap = false ∧
    min ((wst_PoliciesComplete_1).val O.powerCap) (max ((wst_PoliciesComplete_1).val O.floorW) ((wst_PoliciesComplete_1).val O.powerCap - (wst_PoliciesComplete_1).val O.stepW)) ≠ (wst_PoliciesComplete_1).val O.powerCap :=
  ⟨(true), by
    unfold State.Inv PlotsWf Plot.Wf Rises
    refine ⟨?_, ?_, margin_le _ 3000 _ (reading_ge _ _ _ (by decide +kernel) (by decide +kernel)) (by decide +kernel), ?_, ?_, ?_, ?_⟩ <;> decide +kernel⟩

def wst_PoliciesComplete_2 : State :=
  (fun (s : State) => ({ ((base37 s).setVal ((0x8010 + 1) * 256 + 1) 2) with mig := { s.mig with hostMode := false } } : State).setVal O.migHotThreshold 20) State.reset
theorem wit_PoliciesComplete_2 : ∃ (p e : Nat) (_idle : Bool), (wst_PoliciesComplete_2).Inv ∧ (wst_PoliciesComplete_2).stewardTurn = true ∧
    p < 2 * e ∧ (wst_PoliciesComplete_2).overridden O.migHotThreshold = false ∧ (wst_PoliciesComplete_2).policyRuns 1 = 2 ∧
    (wst_PoliciesComplete_2).stewardRefused O.migHotThreshold = false ∧
    max ((wst_PoliciesComplete_2).val O.migHotThreshold) (min ((wst_PoliciesComplete_2).val O.threshMax) (2 * (wst_PoliciesComplete_2).val O.migHotThreshold)) ≠ (wst_PoliciesComplete_2).val O.migHotThreshold :=
  ⟨(5), (9), (true), by
    unfold State.Inv PlotsWf Plot.Wf Rises
    decide +kernel⟩

def wst_PoliciesComplete_3 : State :=
  (fun (s : State) => (({ (((base37 s).setVal ((0x8010 + 2) * 256 + 1) 2).setVal O.splitFtl 0) with seed := { s.seed with state := .ready, bands := [(0, { lot := 0, gen := some 0 })] }, now := 10 ^ 18, stw := { s.stw with base := [], holds := [(O.wearSpread, 10 ^ 19)] } } : State).setVal O.scrubInterval 1).setVal O.scrubRate 100) State.reset
theorem wit_PoliciesComplete_3 : (wst_PoliciesComplete_3).Inv ∧ (wst_PoliciesComplete_3).stewardTurn = true ∧
    80 * ((wst_PoliciesComplete_3).val O.scrubInterval * 24) ≤ 100 * (wst_PoliciesComplete_3).odLive .H O.scrubLagH ∧
    (wst_PoliciesComplete_3).overridden O.scrubRate = false ∧ (wst_PoliciesComplete_3).policyRuns 2 = 2 ∧
    (wst_PoliciesComplete_3).stewardRefused O.scrubRate = false ∧
    max ((wst_PoliciesComplete_3).val O.scrubRate) (min ((wst_PoliciesComplete_3).val O.rateMax) (2 * (wst_PoliciesComplete_3).val O.scrubRate)) ≠ (wst_PoliciesComplete_3).val O.scrubRate ∧
    (wst_PoliciesComplete_3).overridden O.wearSpread = true :=
  by
    unfold State.Inv PlotsWf Plot.Wf Rises
    decide +kernel

def wst_PoliciesComplete_4 : State :=
  (fun (s : State) => ({ ((base37 s).setVal ((0x8010 + 4) * 256 + 1) 2) with fc := { s.fc with mode := false } } : State).setVal 0x710006 (16 * 256)) State.reset
theorem wit_PoliciesComplete_4 : ∃ (n day week : Nat), (wst_PoliciesComplete_4).Inv ∧ (wst_PoliciesComplete_4).stewardTurn = true ∧ n < 0x800 ∧
    srcEscalates n = true ∧ 0 < day ∧ 2 * week ≤ 7 * day ∧ (wst_PoliciesComplete_4).overridden ((0x7100 + n) * 256 + 6) = false ∧
    (wst_PoliciesComplete_4).policyRuns 4 = 2 ∧ (wst_PoliciesComplete_4).stewardRefused ((0x7100 + n) * 256 + 6) = false ∧
    min (fld ((wst_PoliciesComplete_4).val ((0x7100 + n) * 256 + 6)) 15 8) (max ((wst_PoliciesComplete_4).val O.escMin) (fld ((wst_PoliciesComplete_4).val ((0x7100 + n) * 256 + 6)) 15 8 / 2)) ≠ fld ((wst_PoliciesComplete_4).val ((0x7100 + n) * 256 + 6)) 15 8 :=
  ⟨(0x100), (9), (3), by
    unfold State.Inv PlotsWf Plot.Wf Rises
    decide +kernel⟩

def wst_PoliciesComplete_5 : State :=
  (fun (s : State) => (fun (s : State) => { s with rot := { entries := [{ ticket := 1, raw := [], lot := 2, flags := 0, gen := 0, sownStake := 0, reapedStake := 0, doneStake := 0, doneValue := 0, trainLimit := 0 }] }, seed := { s.seed with state := .ready, lots := [(2, { size := 1, state := .ready })] } } : State →
    State) (((((base37 s).setVal ((0x8010 + 5) * 256 + 1) 2).setVal O.splitRotation 0).setVal O.residentMax 1).setVal O.residentLimit 5 |> fun s => s.setVal O.rotPool (16 * 2 ^ 16 + 100))) State.reset
theorem wit_PoliciesComplete_5 : ∃ (_d : Word32) (_w : Bool) (n : Nat), (wst_PoliciesComplete_5).Inv ∧ (wst_PoliciesComplete_5).stewardTurn = true ∧
    (wst_PoliciesComplete_5).nextLotAcres = some n ∧ n ≤ (wst_PoliciesComplete_5).acresFree.length ∧
    (wst_PoliciesComplete_5).val O.residentMax < (wst_PoliciesComplete_5).val O.residentLimit ∧
    (wst_PoliciesComplete_5).overridden O.residentMax = false ∧ (wst_PoliciesComplete_5).policyRuns 5 = 2 ∧
    (wst_PoliciesComplete_5).stewardRefused O.residentMax = false :=
  ⟨(5), (true), (1), by
    unfold State.Inv PlotsWf Plot.Wf Rises
    decide +kernel⟩

def wst_PoliciesComplete_6 : State :=
  (fun (s : State) => { s with link := { s.link with up := true }, hl := { s.hl with running := false } }) State.reset
theorem wit_PoliciesComplete_6 : ∃ (_fec _rep : Nat) (_b : BitVec 13), (wst_PoliciesComplete_6).Inv ∧ (wst_PoliciesComplete_6).link.up = true ∧
    (wst_PoliciesComplete_6).stewardTurn = false :=
  ⟨(7), (0), (0), by
    unfold State.Inv PlotsWf Plot.Wf Rises
    decide +kernel⟩

def wst_PoliciesComplete_7 : State :=
  (fun (s : State) => ((({ ((base37 s).setVal ((0x8010 + 6) * 256 + 1) 2) with pwr := { s.pwr with mode := .fallow, aon := true } } : State).setVal O.fallowWakeMask 7).setVal O.wakeAfterS 5)) State.reset
theorem wit_PoliciesComplete_7 : (wst_PoliciesComplete_7).stewardTurn = true ∧ (wst_PoliciesComplete_7).pwr.mode = .fallow ∧
    (wst_PoliciesComplete_7).val O.wakeAfterS ≠ 0 ∧ (wst_PoliciesComplete_7).policyRuns 6 ≠ 0 ∧
    bit ((wst_PoliciesComplete_7).val O.fallowWakeMask) 3 = false :=
  by
    decide +kernel

def wst_PoliciesComplete_8 : State :=
  (fun (s : State) => { ((base37 s).setVal ((0x8010 + 6) * 256 + 1) 2) with g := {}, drill := {}, plots := [], rot := {}, seed := {}, slice := {}, host := { s.host with power := .d0 } }) State.reset
theorem wit_PoliciesComplete_8 : (wst_PoliciesComplete_8).Inv ∧ (wst_PoliciesComplete_8).stewardTurn = true ∧
    (wst_PoliciesComplete_8).pwr.mode = .up ∧ (wst_PoliciesComplete_8).fallowFails = 0 ∧ (wst_PoliciesComplete_8).overridden O.pwrRequest = false ∧
    (wst_PoliciesComplete_8).policyRuns 6 = 2 ∧ (wst_PoliciesComplete_8).stewardRefused O.pwrRequest = false :=
  by
    unfold State.Inv PlotsWf Plot.Wf Rises
    decide +kernel

/-! ### HostMemoryRequestsComplete -/

def wst_HostMemoryRequestsComplete_0 : State :=
  (fun (s : State) => (bars s).setRg Rg.apertureMap 0) State.reset
theorem wit_HostMemoryRequestsComplete_0 : ∃ (r : MemReq) (off a : Nat), (wst_HostMemoryRequestsComplete_0).ServesHost ∧
    (wst_HostMemoryRequestsComplete_0).SendsNow ∧ r.Plain ∧ (wst_HostMemoryRequestsComplete_0).locate r = some (.aperture, off) ∧
    (wst_HostMemoryRequestsComplete_0).apTarget off r.len = some (.hbm a) ∧ (wst_HostMemoryRequestsComplete_0).coh.snoopFilter = [] ∧
    (wst_HostMemoryRequestsComplete_0).pwr.scrub = [] ∧ (wst_HostMemoryRequestsComplete_0).coh.scrubbing = [] ∧
    (wst_HostMemoryRequestsComplete_0).host.poison = [] ∧ 0 < r.len ∧ r.len ≤ (wst_HostMemoryRequestsComplete_0).maxRead ∧
    off % (wst_HostMemoryRequestsComplete_0).maxPayload + r.len ≤ (wst_HostMemoryRequestsComplete_0).maxPayload :=
  ⟨({ addr := 0x100000040, len := 8, tag := 5 }), (0x40), (0x40), by
    unfold State.SendsNow State.ServesHost MemReq.Plain
    decide +kernel⟩

def wst_HostMemoryRequestsComplete_1 : State :=
  (fun (s : State) => (bars s).setRg Rg.apertureMap 0) State.reset
theorem wit_HostMemoryRequestsComplete_1 : ∃ (r : MemReq) (off a : Nat), (wst_HostMemoryRequestsComplete_1).ServesHost ∧
    (wst_HostMemoryRequestsComplete_1).SendsNow ∧ r.Plain ∧ (wst_HostMemoryRequestsComplete_1).Inv ∧
    (wst_HostMemoryRequestsComplete_1).locate r = some (.aperture, off) ∧ (wst_HostMemoryRequestsComplete_1).apTarget off r.len = some (.hbm a) ∧
    (wst_HostMemoryRequestsComplete_1).coh.snoopFilter = [] ∧ (wst_HostMemoryRequestsComplete_1).pwr.scrub = [] ∧
    (wst_HostMemoryRequestsComplete_1).coh.scrubbing = [] ∧ 0 < r.len ∧ r.len ≤ (wst_HostMemoryRequestsComplete_1).maxPayload :=
  ⟨({ addr := 0x100000040, len := 8, tag := 5, data := [1, 2, 3, 4, 5, 6, 7, 8] }), (0x40), (0x40), by
    unfold State.SendsNow State.ServesHost State.Inv PlotsWf Plot.Wf Rises MemReq.Plain
    decide +kernel⟩

def wst_HostMemoryRequestsComplete_2 : State :=
  (fun (s : State) => (bars s).setRg Rg.apertureMap 0) State.reset
theorem wit_HostMemoryRequestsComplete_2 : ∃ (r : MemReq) (_c _w : Word) (off a : Nat), (wst_HostMemoryRequestsComplete_2).ServesHost ∧
    (wst_HostMemoryRequestsComplete_2).SendsNow ∧ r.Plain ∧ (wst_HostMemoryRequestsComplete_2).Inv ∧
    (wst_HostMemoryRequestsComplete_2).locate { r with len := 8 } = some (.aperture, off) ∧
    (wst_HostMemoryRequestsComplete_2).apTarget off 8 = some (.hbm a) ∧ (wst_HostMemoryRequestsComplete_2).coh.snoopFilter = [] ∧
    (wst_HostMemoryRequestsComplete_2).pwr.scrub = [] ∧ (wst_HostMemoryRequestsComplete_2).coh.scrubbing = [] ∧
    (wst_HostMemoryRequestsComplete_2).host.poison = [] ∧ off % 8 = 0 :=
  ⟨({ addr := 0x100000040, len := 8, tag := 5 }), (0), (0x1234567800000001), (0x40), (0x40), by
    unfold State.SendsNow State.ServesHost State.Inv PlotsWf Plot.Wf Rises MemReq.Plain
    decide +kernel⟩

def wst_HostMemoryRequestsComplete_3 : State :=
  (fun (s : State) => bars s) State.reset
theorem wit_HostMemoryRequestsComplete_3 : ∃ (r : MemReq) (off : Nat) (k : Fin 5), (wst_HostMemoryRequestsComplete_3).ServesHost ∧
    (wst_HostMemoryRequestsComplete_3).SendsNow ∧ r.Plain ∧ (wst_HostMemoryRequestsComplete_3).locate r = some (.control, off) ∧
    off = 0x200200 + 8 * k ∧ r.len = 8 ∧ reqWhole { r with off := off } = true ∧ r.data.length = 8 ∧ (wst_HostMemoryRequestsComplete_3).Inv :=
  ⟨({ addr := 0x200200, len := 8, data := [1,2,3,4,5,6,7,8] }), (0x200200), (0), by
    unfold State.SendsNow State.ServesHost State.Inv PlotsWf Plot.Wf Rises MemReq.Plain
    decide +kernel⟩

def wst_HostMemoryRequestsComplete_4 : State :=
  (fun (s : State) => bars s) State.reset
theorem wit_HostMemoryRequestsComplete_4 : ∃ (r : MemReq), (wst_HostMemoryRequestsComplete_4).ServesHost ∧
    (wst_HostMemoryRequestsComplete_4).SendsNow ∧ r.Plain ∧ (wst_HostMemoryRequestsComplete_4).locate r = some (.control, 0x414) ∧ r.len = 4 ∧
    r.fbe = 0xF ∧ r.data.length = 4 ∧ leNat r.data ≤ 1000 ∧ (wst_HostMemoryRequestsComplete_4).Inv :=
  ⟨({ addr := 0x414, len := 4, data := [1,2,0,0] }), by
    unfold State.SendsNow State.ServesHost State.Inv PlotsWf Plot.Wf Rises MemReq.Plain
    decide +kernel⟩

def wst_HostMemoryRequestsComplete_5 : State :=
  (fun (s : State) => bars s) State.reset
theorem wit_HostMemoryRequestsComplete_5 : ∃ (r : MemReq) (off : Nat), (wst_HostMemoryRequestsComplete_5).ServesHost ∧
    (wst_HostMemoryRequestsComplete_5).SendsNow ∧ r.Plain ∧ (wst_HostMemoryRequestsComplete_5).locate r = some (.control, off) ∧
    counterWord off = true ∧ off < 0x2000000 ∧ r.len = 4 :=
  ⟨({ addr := 0x300, len := 4 }), (0x300), by
    unfold State.SendsNow State.ServesHost MemReq.Plain
    decide +kernel⟩

def wst_HostMemoryRequestsComplete_6 : State :=
  (fun (s : State) => { bars s with latch := [(0x300, 77), (0x400008, 78)] }) State.reset
theorem wit_HostMemoryRequestsComplete_6 : ∃ (r : MemReq) (off h : Nat), (wst_HostMemoryRequestsComplete_6).Inv ∧
    (wst_HostMemoryRequestsComplete_6).ServesHost ∧ (wst_HostMemoryRequestsComplete_6).SendsNow ∧ r.Plain ∧
    (wst_HostMemoryRequestsComplete_6).locate { r with addr := r.addr / 8 * 8 + 4, len := 4 } = some (.control, off + 4) ∧ counterWord off = true ∧
    off < 0x2000000 ∧ kvFind (wst_HostMemoryRequestsComplete_6).latch off = some h :=
  ⟨({ addr := 0x300, len := 4 }), (0x300), (77), by
    unfold State.SendsNow State.ServesHost State.Inv PlotsWf Plot.Wf Rises MemReq.Plain
    decide +kernel⟩

/-! ### HostReadsOfQueuesAndErrorsComplete -/

def wst_HostReadsOfQueuesAndErrorsComplete_0 : State :=
  (fun (s : State) => { bars s with g := { s.g with toQueue := [9], waits := [{ handle := 9, stake := 77, value := 1, equal := false, who := .desc 3 4, deadline := none, queued := true }] } }) State.reset
theorem wit_HostReadsOfQueuesAndErrorsComplete_0 : ∃ (r : MemReq) (h : Nat) (hs : List Nat) (w : Wait),
    (wst_HostReadsOfQueuesAndErrorsComplete_0).ServesHost ∧ (wst_HostReadsOfQueuesAndErrorsComplete_0).SendsNow ∧ r.Plain ∧
    (wst_HostReadsOfQueuesAndErrorsComplete_0).locate { r with addr := (wst_HostReadsOfQueuesAndErrorsComplete_0).atControl 0x510000 } = some (.control,
    0x510000) ∧ r.off % 8 = 0 ∧ r.len = 8 ∧ reqWhole { r with off := 0x510000 } = true ∧
    (wst_HostReadsOfQueuesAndErrorsComplete_0).g.toQueue = h :: hs ∧ (wst_HostReadsOfQueuesAndErrorsComplete_0).g.waits = [w] ∧ w.handle = h ∧
    w.queued = true ∧ w.who = .desc 3 4 ∧ w.equal = false :=
  ⟨({ len := 8 }), (9), ([]), ({ handle := 9, stake := 77, value := 1, equal := false, who := .desc 3 4, deadline := none, queued := true }), by
    unfold State.SendsNow State.ServesHost MemReq.Plain
    decide +kernel⟩

def wst_HostReadsOfQueuesAndErrorsComplete_1 : State :=
  (fun (s : State) => { bars s with mig := { s.mig with hot := [(5, 0x400000)], counters := [], hostMode := true } }) State.reset
theorem wit_HostReadsOfQueuesAndErrorsComplete_1 : ∃ (r : MemReq) (p a : Nat), (wst_HostReadsOfQueuesAndErrorsComplete_1).ServesHost ∧
    (wst_HostReadsOfQueuesAndErrorsComplete_1).SendsNow ∧ r.Plain ∧
    (wst_HostReadsOfQueuesAndErrorsComplete_1).locate { r with addr := (wst_HostReadsOfQueuesAndErrorsComplete_1).atControl 0x202008 } = some (.control,
    0x202008) ∧ r.off % 8 = 0 ∧ r.len = 8 ∧ reqWhole { r with off := 0x202008 } = true ∧ (wst_HostReadsOfQueuesAndErrorsComplete_1).mig.hot = [(p,
    a)] ∧ (wst_HostReadsOfQueuesAndErrorsComplete_1).mig.hostMode = true ∧ (wst_HostReadsOfQueuesAndErrorsComplete_1).mig.counters = [] :=
  ⟨({ len := 8 }), (5), (0x400000), by
    unfold State.SendsNow State.ServesHost MemReq.Plain
    decide +kernel⟩

def wst_HostReadsOfQueuesAndErrorsComplete_2 : State :=
  (fun (s : State) => bars s) State.reset
theorem wit_HostReadsOfQueuesAndErrorsComplete_2 : ∃ (r : MemReq), (wst_HostReadsOfQueuesAndErrorsComplete_2).Inv ∧
    (wst_HostReadsOfQueuesAndErrorsComplete_2).ServesHost ∧ (wst_HostReadsOfQueuesAndErrorsComplete_2).locate r = none ∧ r.ep = false :=
  ⟨({ addr := 0x900000000000, len := 8 }), by
    unfold State.ServesHost State.Inv PlotsWf Plot.Wf Rises
    decide +kernel⟩

def wst_HostReadsOfQueuesAndErrorsComplete_3 : State :=
  (fun (s : State) => { bars s with pwr := { s.pwr with mode := .waking, hold := [{ win := .aperture, write := false, r := { len := 8, off := 0x40 }, since := 5 }] } }) State.reset
theorem wit_HostReadsOfQueuesAndErrorsComplete_3 : ∃ (h : Held), (wst_HostReadsOfQueuesAndErrorsComplete_3).Inv ∧
    (wst_HostReadsOfQueuesAndErrorsComplete_3).pwr.hold = [h] ∧ h.cxl = none ∧ ¬ ((wst_HostReadsOfQueuesAndErrorsComplete_3).pwr.mode = .up) ∧
    ¬ ((wst_HostReadsOfQueuesAndErrorsComplete_3).pwr.mode = .starting) :=
  ⟨({ win := .aperture, write := false, r := { len := 8, off := 0x40 }, since := 5 }), by
    unfold State.Inv PlotsWf Plot.Wf Rises
    decide +kernel⟩

def wst_HostReadsOfQueuesAndErrorsComplete_4 : State :=
  (fun (s : State) => { bars s with fab := {}, coh := { snoopFilter := [(1, true)], outstanding := [{ line := 1, n := 1, inv := true, left := [1] }] }, pwr := { s.pwr with hold := [], scrub := [] } }) State.reset
theorem wit_HostReadsOfQueuesAndErrorsComplete_4 : ∃ (o : Snoop) (d : List Byte), (wst_HostReadsOfQueuesAndErrorsComplete_4).Inv ∧
    (wst_HostReadsOfQueuesAndErrorsComplete_4).coh.outstanding = [o] ∧ o.left = [o.line] ∧ o.inv = true ∧
    (wst_HostReadsOfQueuesAndErrorsComplete_4).coh.changing = [] ∧ (wst_HostReadsOfQueuesAndErrorsComplete_4).coh.scrubbing = [] ∧
    (wst_HostReadsOfQueuesAndErrorsComplete_4).coh.waiting = [] ∧ (wst_HostReadsOfQueuesAndErrorsComplete_4).pwr.hold = [] ∧
    (wst_HostReadsOfQueuesAndErrorsComplete_4).pwr.scrub = [] ∧ (wst_HostReadsOfQueuesAndErrorsComplete_4).fab.waiting = [] ∧
    (wst_HostReadsOfQueuesAndErrorsComplete_4).fab.owed = [] ∧ (wst_HostReadsOfQueuesAndErrorsComplete_4).coh.stores = [] ∧ d.length = 64 :=
  ⟨({ line := 1, n := 1, inv := true, left := [1] }), (List.replicate 64 7), by
    unfold State.Inv PlotsWf Plot.Wf Rises
    decide +kernel⟩

/-! ### LinkTrainsAndSavesPower -/

def wst_LinkTrainsAndSavesPower_0 : State :=
  (fun (s : State) => (({ serve s with pwr := { (serve s).pwr with perst := false }, link := {}, fc := {}, flt := {}, mig := {} } : State).setRg Rg.attnCause 0 |> fun s => (s.setVal O.linkWidthMax 16).setVal O.linkSpeedMax 6)) State.reset
theorem wit_LinkTrainsAndSavesPower_0 : ∃ (o : LinkOffer), (wst_LinkTrainsAndSavesPower_0).Inv ∧ (wst_LinkTrainsAndSavesPower_0).glinkOn = true ∧
    (wst_LinkTrainsAndSavesPower_0).pwr.perst = false ∧ (wst_LinkTrainsAndSavesPower_0).link.up = false ∧
    (wst_LinkTrainsAndSavesPower_0).pwr.mode ≠ .starting ∧ 0 < widthFor o.lanes ((wst_LinkTrainsAndSavesPower_0).val O.linkWidthMax) ∧ o.flit = true ∧
    0 < min (min o.speed 6) ((wst_LinkTrainsAndSavesPower_0).val O.linkSpeedMax) ∧ (wst_LinkTrainsAndSavesPower_0).host.queue = [] ∧
    (wst_LinkTrainsAndSavesPower_0).host.blocked = [] ∧ (wst_LinkTrainsAndSavesPower_0).linePending = false :=
  ⟨({ speed := 6, lanes := 16, flit := true, cxl := true }), by
    unfold State.Inv PlotsWf Plot.Wf Rises
    decide +kernel⟩

def wst_LinkTrainsAndSavesPower_1 : State :=
  (fun (s : State) => (fun (s : State) => { s with link := { s.link with stewardRetrain := false } } : State → State) (serve s)) State.reset
theorem wit_LinkTrainsAndSavesPower_1 : (wst_LinkTrainsAndSavesPower_1).Inv ∧ (wst_LinkTrainsAndSavesPower_1).link.up = true ∧
    (wst_LinkTrainsAndSavesPower_1).link.stewardRetrain = false :=
  by
    unfold State.Inv PlotsWf Plot.Wf Rises
    decide +kernel

def wst_LinkTrainsAndSavesPower_2 : State :=
  (fun (s : State) => (fun (s : State) => { s with link := { s.link with stewardRetrain := true } } : State → State) (serve s)) State.reset
theorem wit_LinkTrainsAndSavesPower_2 : (wst_LinkTrainsAndSavesPower_2).Inv ∧ (wst_LinkTrainsAndSavesPower_2).link.up = true ∧
    (wst_LinkTrainsAndSavesPower_2).link.stewardRetrain = true :=
  by
    unfold State.Inv PlotsWf Plot.Wf Rises
    decide +kernel

def wst_LinkTrainsAndSavesPower_3 : State :=
  (fun (s : State) => (fun (s : State) => { s with host := { s.host with tags := [] } } : State →
    State) (((serve s).setCfg 0x060 2).setCfg 0x1C8 0)) State.reset
theorem wit_LinkTrainsAndSavesPower_3 : (wst_LinkTrainsAndSavesPower_3).Inv ∧ (wst_LinkTrainsAndSavesPower_3).link.up = true ∧
    (wst_LinkTrainsAndSavesPower_3).link.ltssm = .l0 ∧ bit ((wst_LinkTrainsAndSavesPower_3).cfgv 0x060) 1 = true ∧
    (wst_LinkTrainsAndSavesPower_3).host.queue = [] ∧ (wst_LinkTrainsAndSavesPower_3).host.blocked = [] ∧
    (wst_LinkTrainsAndSavesPower_3).readsOutstanding = 0 ∧ bit ((wst_LinkTrainsAndSavesPower_3).cfgv 0x1C8) 2 = false ∧
    bit ((wst_LinkTrainsAndSavesPower_3).cfgv 0x1C8) 3 = false :=
  by
    unfold State.Inv PlotsWf Plot.Wf Rises
    decide +kernel

def wst_LinkTrainsAndSavesPower_4 : State :=
  (fun (s : State) => (fun (s : State) => { s with fc := {}, flt := {}, mig := {}, link := { s.link with ltssm := .l11 } } : State →
    State) ((serve s).setRg Rg.attnCause 0)) State.reset
theorem wit_LinkTrainsAndSavesPower_4 : (wst_LinkTrainsAndSavesPower_4).Inv ∧ (wst_LinkTrainsAndSavesPower_4).inL1 = true ∧
    (wst_LinkTrainsAndSavesPower_4).host.queue = [] ∧ (wst_LinkTrainsAndSavesPower_4).host.blocked = [] ∧
    (wst_LinkTrainsAndSavesPower_4).linePending = false :=
  by
    unfold State.Inv PlotsWf Plot.Wf Rises
    decide +kernel

def wst_LinkTrainsAndSavesPower_5 : State :=
  (fun (s : State) => (fun (s : State) => { s with link := { s.link with flit := true, l0pWidth := 16 } } : State →
    State) (((serve s).setCfg 0x3E8 8).setVal O.l0pMinWidth 8)) State.reset
theorem wit_LinkTrainsAndSavesPower_5 : (wst_LinkTrainsAndSavesPower_5).Inv ∧ (wst_LinkTrainsAndSavesPower_5).link.up = true ∧
    (wst_LinkTrainsAndSavesPower_5).link.ltssm = .l0 ∧ (wst_LinkTrainsAndSavesPower_5).link.flit = true ∧
    (wst_LinkTrainsAndSavesPower_5).l0pEnable = true ∧ (wst_LinkTrainsAndSavesPower_5).link.l0pWidth = 16 ∧
    (wst_LinkTrainsAndSavesPower_5).l0pFloor ≤ 8 :=
  by
    unfold State.Inv PlotsWf Plot.Wf Rises
    decide +kernel

def wst_LinkTrainsAndSavesPower_6 : State :=
  (fun (s : State) => (fun (s : State) => { s with link := { s.link with flit := true, l0pWidth := 4, width := 16 } } : State →
    State) (serve s)) State.reset
theorem wit_LinkTrainsAndSavesPower_6 : (wst_LinkTrainsAndSavesPower_6).Inv ∧ (wst_LinkTrainsAndSavesPower_6).link.up = true ∧
    (wst_LinkTrainsAndSavesPower_6).link.flit = true ∧ (wst_LinkTrainsAndSavesPower_6).link.l0pWidth ≠ (wst_LinkTrainsAndSavesPower_6).link.width :=
  by
    unfold State.Inv PlotsWf Plot.Wf Rises
    decide +kernel

def wst_LinkTrainsAndSavesPower_7 : State :=
  (fun (s : State) => ((serve s).setCfg 0x078 (2 ^ 10)).setCfg 0x3F4 0x08640864) State.reset
theorem wit_LinkTrainsAndSavesPower_7 : (wst_LinkTrainsAndSavesPower_7).SendsNow ∧ (wst_LinkTrainsAndSavesPower_7).ltrEnable = true ∧
    (wst_LinkTrainsAndSavesPower_7).pwr.mode ≠ .fallow :=
  by
    unfold State.SendsNow
    decide +kernel

def wst_LinkTrainsAndSavesPower_8 : State :=
  (fun (s : State) => (fun (s : State) => { s with host := { s.host with attnAsserted := false } } : State → State) (serve s)) State.reset
theorem wit_LinkTrainsAndSavesPower_8 : (wst_LinkTrainsAndSavesPower_8).host.power = .d0 ∧
    (wst_LinkTrainsAndSavesPower_8).host.attnAsserted = false :=
  by
    decide +kernel

/-! ### ConfigurationCompletes -/

def wst_ConfigurationCompletes_0 : State :=
  (fun (s : State) => base48 (serve s)) State.reset
theorem wit_ConfigurationCompletes_0 : ∃ (_off : BitVec 12) (_be : BitVec 4) (_v : Word32) (_rid : Half), (wst_ConfigurationCompletes_0).SendsNow ∧
    (wst_ConfigurationCompletes_0).glinkOn = true ∧ (wst_ConfigurationCompletes_0).pwr.perst = false :=
  ⟨(0), (0xF), (0), (1), by
    unfold State.SendsNow
    decide +kernel⟩

def wst_ConfigurationCompletes_1 : State :=
  (fun (s : State) => base48 (serve s)) State.reset
theorem wit_ConfigurationCompletes_1 : ∃ (be : BitVec 4) (_v : Word32) (_rid : Half), (wst_ConfigurationCompletes_1).Inv ∧
    (wst_ConfigurationCompletes_1).SendsNow ∧ (wst_ConfigurationCompletes_1).glinkOn = true ∧ (wst_ConfigurationCompletes_1).pwr.perst = false ∧
    bit be.toNat 0 = true :=
  ⟨(0xF), (0x12345678), (1), by
    unfold State.SendsNow State.Inv PlotsWf Plot.Wf Rises
    decide +kernel⟩

def wst_ConfigurationCompletes_2 : State :=
  (fun (s : State) => ((serve s).setCfg 4 4).setCfg 0x188 0xC24) State.reset
theorem wit_ConfigurationCompletes_2 : ∃ (z : BitVec 6) (_rid : Half), (wst_ConfigurationCompletes_2).Inv ∧ 10 ≤ z.toNat ∧ z.toNat ≤ 19 ∧
    z.toNat ≠ (wst_ConfigurationCompletes_2).barSize ∧ (wst_ConfigurationCompletes_2).memEnable = false :=
  ⟨(10), (0), by
    unfold State.Inv PlotsWf Plot.Wf Rises
    decide +kernel⟩

def wst_ConfigurationCompletes_3 : State :=
  (fun (s : State) => (serve s).setCfg 0x188 (0x24 + 12 * 2 ^ 8)) State.reset
theorem wit_ConfigurationCompletes_3 : ∃ (v : Word) (_rid : Half), (wst_ConfigurationCompletes_3).Inv ∧
    fld v.toNat 8 0 % 2 ^ ((wst_ConfigurationCompletes_3).barSize - 10) = 0 :=
  ⟨(0), (0), by
    unfold State.Inv PlotsWf Plot.Wf Rises
    decide +kernel⟩

def wst_ConfigurationCompletes_4 : State :=
  (fun (s : State) => serve s) State.reset
theorem wit_ConfigurationCompletes_4 : (wst_ConfigurationCompletes_4).Inv ∧ (wst_ConfigurationCompletes_4).bme = true ∧
    (wst_ConfigurationCompletes_4).gcoreUp = true :=
  by
    unfold State.Inv PlotsWf Plot.Wf Rises
    decide +kernel

def wst_ConfigurationCompletes_5 : State :=
  (fun (s : State) => (fun (s : State) => { s with drill := {}, plat := { s.plat with walks := [] } } : State →
    State) ((serve s).setCfg 4 2)) State.reset
theorem wit_ConfigurationCompletes_5 : (wst_ConfigurationCompletes_5).Inv ∧ (wst_ConfigurationCompletes_5).bme = false ∧
    (wst_ConfigurationCompletes_5).drill.rows = [] ∧ (wst_ConfigurationCompletes_5).host.queue = [] ∧
    (wst_ConfigurationCompletes_5).host.blocked = [] ∧ (wst_ConfigurationCompletes_5).plat.walks = [] :=
  by
    unfold State.Inv PlotsWf Plot.Wf Rises
    decide +kernel

/-! ### CompletionsAndCreditsComplete -/

def wst_CompletionsAndCreditsComplete_0 : State :=
  (fun (s : State) => base40 (settled (serve s))) State.reset
theorem wit_CompletionsAndCreditsComplete_0 : ∃ (g : Nat) (_d : List Byte) (u : TagUse), (wst_CompletionsAndCreditsComplete_0).host.tags = [u] ∧
    u.tag = g ∧ u.quar = .no :=
  ⟨(9), ([1,2]), ({ tag := 9, owner := .row 3 1 0, addr := 0x1000, len := 128, at_ := 7 }), by
    decide +kernel⟩

def wst_CompletionsAndCreditsComplete_1 : State :=
  (fun (s : State) => base33 (base39 (settled (serve s)))) State.reset
theorem wit_CompletionsAndCreditsComplete_1 : ∃ (g : Nat) (_d : List Byte) (u : TagUse) (n : Fin 4096) (k : Nat),
    (wst_CompletionsAndCreditsComplete_1).Inv ∧ (wst_CompletionsAndCreditsComplete_1).tagUse g = some u ∧
    u.owner = .furrowRing n ((wst_CompletionsAndCreditsComplete_1).fur n).head k ∧ u.quar = .no ∧
    ((wst_CompletionsAndCreditsComplete_1).fur n).state = .enabled ∧ ((wst_CompletionsAndCreditsComplete_1).fur n).early = [] ∧
    (wst_CompletionsAndCreditsComplete_1).stagedOf n = [] ∧ (wst_CompletionsAndCreditsComplete_1).host.frozen = false ∧ 1 ≤ k ∧ u.got = [] :=
  ⟨(9), (List.replicate 128 0), ({ tag := 9, owner := .furrowRing 3 0 2, addr := 0x1000, len := 128, at_ := 7 }), (3), (2), by
    unfold State.Inv PlotsWf Plot.Wf Rises
    decide +kernel⟩

def wst_CompletionsAndCreditsComplete_2 : State :=
  (fun (s : State) => base40 (settled (serve s))) State.reset
theorem wit_CompletionsAndCreditsComplete_2 : ∃ (g : Nat) (_d : List Byte) (u : TagUse), (wst_CompletionsAndCreditsComplete_2).host.tags = [u] ∧
    u.tag = g ∧ u.quar = .no ∧ (wst_CompletionsAndCreditsComplete_2).Inv :=
  ⟨(9), ([1,2]), ({ tag := 9, owner := .row 3 1 0, addr := 0x1000, len := 128, at_ := 7 }), by
    unfold State.Inv PlotsWf Plot.Wf Rises
    decide +kernel⟩

def wst_CompletionsAndCreditsComplete_3 : State :=
  (fun (s : State) => base33 (base39 (settled (serve s)))) State.reset
theorem wit_CompletionsAndCreditsComplete_3 : ∃ (g : Nat) (u : TagUse) (n : Fin 4096) (k : Nat),
    (wst_CompletionsAndCreditsComplete_3).host.tags = [u] ∧ u.tag = g ∧ u.quar = .no ∧ (wst_CompletionsAndCreditsComplete_3).Inv ∧
    u.owner = .furrowRing n ((wst_CompletionsAndCreditsComplete_3).fur n).head k ∧ ((wst_CompletionsAndCreditsComplete_3).fur n).state = .enabled :=
  ⟨(9), ({ tag := 9, owner := .furrowRing 3 0 2, addr := 0x1000, len := 128, at_ := 7 }), (3), (2), by
    unfold State.Inv PlotsWf Plot.Wf Rises
    decide +kernel⟩

def wst_CompletionsAndCreditsComplete_4 : State :=
  (fun (s : State) => base33 (base39 (settled (serve s)))) State.reset
theorem wit_CompletionsAndCreditsComplete_4 : ∃ (g : Nat) (_ca : Bool) (u : TagUse) (n : Fin 4096) (k : Nat),
    (wst_CompletionsAndCreditsComplete_4).host.tags = [u] ∧ u.tag = g ∧ u.quar = .no ∧ (wst_CompletionsAndCreditsComplete_4).Inv ∧
    u.owner = .furrowRing n ((wst_CompletionsAndCreditsComplete_4).fur n).head k ∧ ((wst_CompletionsAndCreditsComplete_4).fur n).state = .enabled :=
  ⟨(9), (true), ({ tag := 9, owner := .furrowRing 3 0 2, addr := 0x1000, len := 128, at_ := 7 }), (3), (2), by
    unfold State.Inv PlotsWf Plot.Wf Rises
    decide +kernel⟩

def wst_CompletionsAndCreditsComplete_5 : State :=
  (fun (s : State) => base40 (settled (serve s))) State.reset
theorem wit_CompletionsAndCreditsComplete_5 : ∃ (g : Nat), (wst_CompletionsAndCreditsComplete_5).Inv ∧
    (wst_CompletionsAndCreditsComplete_5).tagUse g = none :=
  ⟨(8), by
    unfold State.Inv PlotsWf Plot.Wf Rises
    decide +kernel⟩

def wst_CompletionsAndCreditsComplete_6 : State :=
  (fun (s : State) => (fun (s : State) => { s with host := { s.host with tags := [{ tag := 9, owner := .furrowRing 3 0 2, addr := 0x1000, len := 128, at_ := 7, quar := .timedOut }] } } : State →
    State) (settled (serve s))) State.reset
theorem wit_CompletionsAndCreditsComplete_6 : ∃ (g : Nat) (u : TagUse), (wst_CompletionsAndCreditsComplete_6).host.tags = [u] ∧ u.tag = g ∧
    u.quar = .timedOut :=
  ⟨(9), ({ tag := 9, owner := .furrowRing 3 0 2, addr := 0x1000, len := 128, at_ := 7, quar := .timedOut }), by
    decide +kernel⟩

def wst_CompletionsAndCreditsComplete_7 : State :=
  (fun (s : State) => settled (serve s)) State.reset
theorem wit_CompletionsAndCreditsComplete_7 : ∃ (_p _n : Nat), (wst_CompletionsAndCreditsComplete_7).link.up = true ∧
    (wst_CompletionsAndCreditsComplete_7).host.queue = [] ∧ (wst_CompletionsAndCreditsComplete_7).host.blocked = [] ∧
    (wst_CompletionsAndCreditsComplete_7).Settled :=
  ⟨(5), (6), by
    unfold State.Settled
    decide +kernel⟩

/-! ### FreezeAndAttentionComplete -/

def wst_FreezeAndAttentionComplete_0 : State :=
  (fun (s : State) => (fun (s : State) => { s with drill := {} } : State → State) (serve s)) State.reset
theorem wit_FreezeAndAttentionComplete_0 : (wst_FreezeAndAttentionComplete_0).Inv ∧ (wst_FreezeAndAttentionComplete_0).pwr.aon = true ∧
    (wst_FreezeAndAttentionComplete_0).host.frozen = false ∧ (wst_FreezeAndAttentionComplete_0).drill.rows = [] :=
  by
    unfold State.Inv PlotsWf Plot.Wf Rises
    decide +kernel

def wst_FreezeAndAttentionComplete_1 : State :=
  (fun (s : State) => (fun (s : State) => { s with drill := {}, fc := {}, g := {}, flt := {}, plat := {}, host := { s.host with frozen := true, tags := [] } } : State →
    State) ((serve s).setCfg 4 2)) State.reset
theorem wit_FreezeAndAttentionComplete_1 : (wst_FreezeAndAttentionComplete_1).Inv ∧ (wst_FreezeAndAttentionComplete_1).host.frozen = true ∧
    (wst_FreezeAndAttentionComplete_1).fc.packageFenced = false ∧ (wst_FreezeAndAttentionComplete_1).bme = false ∧
    (wst_FreezeAndAttentionComplete_1).readsOutstanding = 0 ∧ (wst_FreezeAndAttentionComplete_1).drill.rows = [] :=
  by
    unfold State.Inv PlotsWf Plot.Wf Rises
    decide +kernel

def wst_FreezeAndAttentionComplete_2 : State :=
  (fun (s : State) => s.setRg Rg.mmioErrInfo 0xFF) State.reset
theorem wit_FreezeAndAttentionComplete_2 : (wst_FreezeAndAttentionComplete_2).Inv :=
  by
    unfold State.Inv PlotsWf Plot.Wf Rises
    decide +kernel

def wst_FreezeAndAttentionComplete_3 : State :=
  (fun (s : State) => (serve s).setRg Rg.attnCause 0x3BBC) State.reset
theorem wit_FreezeAndAttentionComplete_3 : ∃ (_v _a : Word), (wst_FreezeAndAttentionComplete_3).Inv :=
  ⟨(0x10), (0), by
    unfold State.Inv PlotsWf Plot.Wf Rises
    decide +kernel⟩

def wst_FreezeAndAttentionComplete_4 : State :=
  (fun (s : State) => (fun (s : State) => { s with fc := {}, flt := {}, mig := {}, host := { s.host with attnAsserted := false, attnHoldoff := none } } : State →
    State) (((serve s).setRg Rg.attnCause 4).setRg Rg.attnMask 0x3FFF)) State.reset
theorem wit_FreezeAndAttentionComplete_4 : (wst_FreezeAndAttentionComplete_4).SendsNow ∧ (wst_FreezeAndAttentionComplete_4).linePending = true ∧
    (wst_FreezeAndAttentionComplete_4).host.attnAsserted = false ∧ (wst_FreezeAndAttentionComplete_4).intxDisable = false ∧
    (wst_FreezeAndAttentionComplete_4).host.power = .d0 ∧ (wst_FreezeAndAttentionComplete_4).host.attnHoldoff = none ∧
    (wst_FreezeAndAttentionComplete_4).Inv :=
  by
    unfold State.SendsNow State.Inv PlotsWf Plot.Wf Rises
    decide +kernel

def wst_FreezeAndAttentionComplete_5 : State :=
  (fun (s : State) => (fun (s : State) => { s with fc := {}, flt := {}, mig := {}, host := { s.host with attnAsserted := true, attnHoldoff := none } } : State →
    State) (((serve s).setRg Rg.attnCause 0).setRg Rg.attnMask 0x3FFF)) State.reset
theorem wit_FreezeAndAttentionComplete_5 : (wst_FreezeAndAttentionComplete_5).SendsNow ∧ (wst_FreezeAndAttentionComplete_5).linePending = false ∧
    (wst_FreezeAndAttentionComplete_5).host.attnAsserted = true ∧ (wst_FreezeAndAttentionComplete_5).host.power = .d0 :=
  by
    unfold State.SendsNow
    decide +kernel

def wst_FreezeAndAttentionComplete_6 : State :=
  (fun (s : State) => (fun (s : State) => { s with fc := {}, flt := {}, mig := {}, host := { s.host with attnAsserted := false, attnHoldoff := some 55 } } : State →
    State) (((serve s).setRg Rg.attnCause 0).setRg Rg.attnMask 0x3FFF)) State.reset
theorem wit_FreezeAndAttentionComplete_6 : ∃ (h : Nat), (wst_FreezeAndAttentionComplete_6).host.attnHoldoff = some h ∧
    (wst_FreezeAndAttentionComplete_6).linePending = false :=
  ⟨(55), by
    decide +kernel⟩

/-! ### TranslationCommandsComplete -/

def wst_TranslationCommandsComplete_0 : State :=
  (fun (s : State) => (((base45 ((fun (s : State) => { s with flt := {}, drill := {}, fab := {}, rot := {}, host := { s.host with tags := [] }, g := {}, mig := {}, plat := { walks := [], queue := [{ ticket := some 3, kind := 1, space := 0, pasid := 5, start := 0x1000, length := 0x1000 }], executing := none, cache := [{ pasid := 5, space := .host, va := 0x1000, size := 0x1000, base := .host 0x8000, r := true, w := true, a := true, source := .table }, { pasid := 6, space := .host, va := 0x1000, size := 0x1000, base := .host 0x8000, r := true, w := true, a := true, source := .table }] } } : State →
    State) (serve s))).setRg (Rg.pctx 1 0) (2 ^ 63 + 3 * 2 ^ 24 + 5)).setRg (Rg.tmplA 0) (1 + 12 * 8 + 9 * 256 + 9 * 4096 + 2 ^ 16 + 51 * 2 ^ 24)).setRg (Rg.tmplB 0) (1 * 2 ^ 6)) State.reset
theorem wit_TranslationCommandsComplete_0 : ∃ (c : PlatCmd), (wst_TranslationCommandsComplete_0).plat.executing = none ∧
    (wst_TranslationCommandsComplete_0).plat.queue = [c] ∧ c.kind = 1 ∧ (wst_TranslationCommandsComplete_0).cmdCheck c = 0 ∧
    (wst_TranslationCommandsComplete_0).plat.parcels = [] ∧ (wst_TranslationCommandsComplete_0).host.tags = [] ∧
    (wst_TranslationCommandsComplete_0).drill.rows = [] :=
  ⟨({ ticket := some 3, kind := 1, space := 0, pasid := 5, start := 0x1000, length := 0x1000 }), by
    decide +kernel⟩

def wst_TranslationCommandsComplete_1 : State :=
  (fun (s : State) => (((base45 ((fun (s : State) => { s with flt := {}, drill := {}, fab := {}, rot := {}, host := { s.host with tags := [] }, g := {}, mig := {}, plat := { walks := [], queue := [{ ticket := some 3, kind := 2, space := 0, pasid := 5 }], executing := none, cache := [{ pasid := 5, space := .host, va := 0x1000, size := 0x1000, base := .host 0x8000, r := true, w := true, a := true, source := .table }, { pasid := 6, space := .host, va := 0x1000, size := 0x1000, base := .host 0x8000, r := true, w := true, a := true, source := .table }] } } : State →
    State) (serve s))).setRg (Rg.pctx 1 0) (2 ^ 63 + 3 * 2 ^ 24 + 5)).setRg (Rg.tmplA 0) (1 + 12 * 8 + 9 * 256 + 9 * 4096 + 2 ^ 16 + 51 * 2 ^ 24)).setRg (Rg.tmplB 0) (1 * 2 ^ 6)) State.reset
theorem wit_TranslationCommandsComplete_1 : ∃ (c : PlatCmd), (wst_TranslationCommandsComplete_1).plat.executing = none ∧
    (wst_TranslationCommandsComplete_1).plat.queue = [c] ∧ c.kind = 2 ∧ (wst_TranslationCommandsComplete_1).cmdCheck c = 0 ∧
    (wst_TranslationCommandsComplete_1).plat.parcels = [] ∧ (wst_TranslationCommandsComplete_1).host.tags = [] ∧
    (wst_TranslationCommandsComplete_1).drill.rows = [] :=
  ⟨({ ticket := some 3, kind := 2, space := 0, pasid := 5 }), by
    decide +kernel⟩

def wst_TranslationCommandsComplete_2 : State :=
  (fun (s : State) => (((base45 ((fun (s : State) => { s with flt := {}, drill := {}, fab := {}, rot := {}, host := { s.host with tags := [] }, g := {}, mig := {}, plat := { walks := [], queue := [{ ticket := some 3, kind := 3, space := 0, pasid := 5 }], executing := none, cache := [{ pasid := 5, space := .host, va := 0x1000, size := 0x1000, base := .host 0x8000, r := true, w := true, a := true, source := .table }, { pasid := 6, space := .host, va := 0x1000, size := 0x1000, base := .host 0x8000, r := true, w := true, a := true, source := .table }] } } : State →
    State) (serve s))).setRg (Rg.pctx 1 0) (2 ^ 63 + 3 * 2 ^ 24 + 5)).setRg (Rg.tmplA 0) (1 + 12 * 8 + 9 * 256 + 9 * 4096 + 2 ^ 16 + 51 * 2 ^ 24)).setRg (Rg.tmplB 0) (1 * 2 ^ 6)) State.reset
theorem wit_TranslationCommandsComplete_2 : ∃ (c : PlatCmd), (wst_TranslationCommandsComplete_2).plat.executing = none ∧
    (wst_TranslationCommandsComplete_2).plat.queue = [c] ∧ c.kind = 3 ∧ (wst_TranslationCommandsComplete_2).cmdCheck c = 0 ∧
    (wst_TranslationCommandsComplete_2).plat.parcels = [] ∧ (wst_TranslationCommandsComplete_2).host.tags = [] ∧
    (wst_TranslationCommandsComplete_2).drill.rows = [] :=
  ⟨({ ticket := some 3, kind := 3, space := 0, pasid := 5 }), by
    decide +kernel⟩

def wst_TranslationCommandsComplete_3 : State :=
  (fun (s : State) => (((base45 ((fun (s : State) => { s with flt := {}, drill := {}, fab := {}, rot := {}, host := { s.host with tags := [] }, g := {}, mig := {}, plat := { walks := [], queue := [{ ticket := some 3, kind := 4, space := 0, pasid := 5, start := 0x4000, length := 0x1000, target := 1, targetAddr := 0x10000, rights := 7 }], executing := none, cache := [{ pasid := 5, space := .host, va := 0x1000, size := 0x1000, base := .host 0x8000, r := true, w := true, a := true, source := .table }, { pasid := 6, space := .host, va := 0x1000, size := 0x1000, base := .host 0x8000, r := true, w := true, a := true, source := .table }] } } : State →
    State) (serve s))).setRg (Rg.pctx 1 0) (2 ^ 63 + 3 * 2 ^ 24 + 5)).setRg (Rg.tmplA 0) (1 + 12 * 8 + 9 * 256 + 9 * 4096 + 2 ^ 16 + 51 * 2 ^ 24)).setRg (Rg.tmplB 0) (1 * 2 ^ 6)) State.reset
theorem wit_TranslationCommandsComplete_3 : ∃ (c : PlatCmd), (wst_TranslationCommandsComplete_3).plat.executing = none ∧
    (wst_TranslationCommandsComplete_3).plat.queue = [c] ∧ c.kind = 4 ∧ (wst_TranslationCommandsComplete_3).cmdCheck c = 0 ∧
    (wst_TranslationCommandsComplete_3).plat.parcels = [] ∧ (wst_TranslationCommandsComplete_3).host.tags = [] ∧
    (wst_TranslationCommandsComplete_3).drill.rows = [] ∧ c.own = .no :=
  ⟨({ ticket := some 3, kind := 4, space := 0, pasid := 5, start := 0x4000, length := 0x1000, target := 1, targetAddr := 0x10000, rights := 7 }), by
    decide +kernel⟩

def wst_TranslationCommandsComplete_4 : State :=
  (fun (s : State) => (((base45 ((fun (s : State) => { s with flt := {}, drill := {}, fab := {}, rot := {}, host := { s.host with tags := [] }, g := {}, mig := {}, plat := { walks := [], queue := [{ ticket := some 3, kind := 5, space := 0, pasid := 5, parcel := 9 }], executing := none, cache := [{ pasid := 5, space := .host, va := 0x1000, size := 0x1000, base := .host 0x8000, r := true, w := true, a := true, source := .table }, { pasid := 6, space := .host, va := 0x1000, size := 0x1000, base := .host 0x8000, r := true, w := true, a := true, source := .table }], parcels := [(9, { pasid := 5, start := 0x4000, length := 0x1000, target := .hbm 0x10000, r := true, valid := true })] } } : State →
    State) (serve s))).setRg (Rg.pctx 1 0) (2 ^ 63 + 3 * 2 ^ 24 + 5)).setRg (Rg.tmplA 0) (1 + 12 * 8 + 9 * 256 + 9 * 4096 + 2 ^ 16 + 51 * 2 ^ 24)).setRg (Rg.tmplB 0) (1 * 2 ^ 6)) State.reset
theorem wit_TranslationCommandsComplete_4 : ∃ (c : PlatCmd) (p : Parcel), (wst_TranslationCommandsComplete_4).plat.executing = none ∧
    (wst_TranslationCommandsComplete_4).plat.queue = [c] ∧ c.kind = 5 ∧ (wst_TranslationCommandsComplete_4).cmdCheck c = 0 ∧
    (wst_TranslationCommandsComplete_4).plat.parcels = [(c.parcel, p)] ∧ p.valid = true ∧ p.z20 = false ∧
    (wst_TranslationCommandsComplete_4).host.tags = [] ∧ (wst_TranslationCommandsComplete_4).drill.rows = [] :=
  ⟨({ ticket := some 3, kind := 5, space := 0, pasid := 5, parcel := 9 }), ({ pasid := 5, start := 0x4000, length := 0x1000, target := .hbm 0x10000, r := true, valid := true }), by
    decide +kernel⟩

def wst_TranslationCommandsComplete_5 : State :=
  (fun (s : State) => (((base45 ((fun (s : State) => { s with flt := {}, drill := {}, fab := {}, rot := {}, host := { s.host with tags := [] }, g := {}, mig := {}, plat := { walks := [], queue := [{ ticket := some 3, kind := 6, space := 0, pasid := 5 }], executing := none, cache := [{ pasid := 5, space := .host, va := 0x1000, size := 0x1000, base := .host 0x8000, r := true, w := true, a := true, source := .table }, { pasid := 6, space := .host, va := 0x1000, size := 0x1000, base := .host 0x8000, r := true, w := true, a := true, source := .table }] } } : State →
    State) (serve s))).setRg (Rg.pctx 1 0) (2 ^ 63 + 3 * 2 ^ 24 + 5)).setRg (Rg.tmplA 0) (1 + 12 * 8 + 9 * 256 + 9 * 4096 + 2 ^ 16 + 51 * 2 ^ 24)).setRg (Rg.tmplB 0) (1 * 2 ^ 6)) State.reset
theorem wit_TranslationCommandsComplete_5 : ∃ (c : PlatCmd), (wst_TranslationCommandsComplete_5).plat.executing = none ∧
    (wst_TranslationCommandsComplete_5).plat.queue = [c] ∧ c.kind = 6 ∧ (wst_TranslationCommandsComplete_5).cmdCheck c = 0 ∧
    (wst_TranslationCommandsComplete_5).plat.parcels = [] ∧ (wst_TranslationCommandsComplete_5).host.tags = [] ∧
    (wst_TranslationCommandsComplete_5).drill.rows = [] :=
  ⟨({ ticket := some 3, kind := 6, space := 0, pasid := 5 }), by
    decide +kernel⟩

def wst_TranslationCommandsComplete_6 : State :=
  (fun (s : State) => (((base45 ((fun (s : State) => { s with flt := {}, drill := {}, fab := {}, rot := {}, host := { s.host with tags := [] }, g := {}, mig := {}, plat := { walks := [], queue := [{ ticket := some 3, kind := 7, space := 0, pasid := 5 }], executing := none, cache := [{ pasid := 5, space := .host, va := 0x1000, size := 0x1000, base := .host 0x8000, r := true, w := true, a := true, source := .table }, { pasid := 6, space := .host, va := 0x1000, size := 0x1000, base := .host 0x8000, r := true, w := true, a := true, source := .table }] } } : State →
    State) (serve s))).setRg (Rg.pctx 1 0) (2 ^ 63 + 3 * 2 ^ 24 + 5)).setRg (Rg.tmplA 0) (1 + 12 * 8 + 9 * 256 + 9 * 4096 + 2 ^ 16 + 51 * 2 ^ 24)).setRg (Rg.tmplB 0) (1 * 2 ^ 6)) State.reset
theorem wit_TranslationCommandsComplete_6 : ∃ (c : PlatCmd) (k : Nat), (wst_TranslationCommandsComplete_6).Inv ∧
    (wst_TranslationCommandsComplete_6).plat.executing = none ∧ (wst_TranslationCommandsComplete_6).plat.queue = [c] ∧ c.kind = 7 ∧
    (wst_TranslationCommandsComplete_6).cmdCheck c = 0 ∧ c.ticket = some k ∧ c.stampEn = false ∧ c.ats = none ∧ c.own = .no ∧
    (wst_TranslationCommandsComplete_6).plat.atsHeld = [] ∧ (wst_TranslationCommandsComplete_6).plat.ownHeld = [] :=
  ⟨({ ticket := some 3, kind := 7, space := 0, pasid := 5 }), (3), by
    unfold State.Inv PlotsWf Plot.Wf Rises
    decide +kernel⟩

def wst_TranslationCommandsComplete_7 : State :=
  (fun (s : State) => (((base45 ((fun (s : State) => { s with flt := {}, drill := {}, fab := {}, rot := {}, host := { s.host with tags := [] }, g := {}, mig := {}, plat := { walks := [], queue := [], executing := some { ticket := some 3, kind := 2, space := 0, pasid := 5 }, cache := [{ pasid := 5, space := .host, va := 0x1000, size := 0x1000, base := .host 0x8000, r := true, w := true, a := true, source := .table }, { pasid := 6, space := .host, va := 0x1000, size := 0x1000, base := .host 0x8000, r := true, w := true, a := true, source := .table }], acks := 2 ^ 20 - 1 } } : State →
    State) (serve s))).setRg (Rg.pctx 1 0) (2 ^ 63 + 3 * 2 ^ 24 + 5)).setRg (Rg.tmplA 0) (1 + 12 * 8 + 9 * 256 + 9 * 4096 + 2 ^ 16 + 51 * 2 ^ 24)).setRg (Rg.tmplB 0) (1 * 2 ^ 6)) State.reset
theorem wit_TranslationCommandsComplete_7 : ∃ (e : Fin 21) (c : PlatCmd), (wst_TranslationCommandsComplete_7).plat.executing = some c ∧
    (wst_TranslationCommandsComplete_7).engineBusy c.cover e = false :=
  ⟨(0), ({ ticket := some 3, kind := 2, space := 0, pasid := 5 }), by
    decide +kernel⟩

def wst_TranslationCommandsComplete_8 : State :=
  (fun (s : State) => base12 (serve s)) State.reset
theorem wit_TranslationCommandsComplete_8 : ∃ (_i : Nat) (_p : Option Nat) (_g : Bool) (_a _n : Nat),
    (wst_TranslationCommandsComplete_8).atsQueued < 32 ∧ (wst_TranslationCommandsComplete_8).plat.atsHeld = [] :=
  ⟨(4), (some 5), (true), (0x1000), (0x2000), by
    decide +kernel⟩

def wst_TranslationCommandsComplete_9 : State :=
  (fun (s : State) => (fun (s : State) => { s with flt := {}, drill := {}, fab := {}, rot := {}, host := { s.host with tags := [] }, g := {}, mig := {}, plat := { walks := [], queue := [], executing := some { ticket := none, kind := 3, space := 0, headland := true, modeSwitch := true }, cache := [{ pasid := 5, space := .host, va := 0x1000, size := 0x1000, base := .host 0x8000, r := true, w := true, a := true, source := .table }, { pasid := 6, space := .host, va := 0x1000, size := 0x1000, base := .host 0x8000, r := true, w := true, a := true, source := .table }], switching := some true } } : State →
    State) (serve s)) State.reset
theorem wit_TranslationCommandsComplete_9 : ∃ (c : PlatCmd) (m : Bool), (wst_TranslationCommandsComplete_9).Inv ∧
    (wst_TranslationCommandsComplete_9).plat.executing = some c ∧ (wst_TranslationCommandsComplete_9).plat.switching = some m ∧
    c = { ticket := none, kind := 3, space := 0, headland := true, modeSwitch := true } ∧ (wst_TranslationCommandsComplete_9).plat.acks = 0 ∧
    (wst_TranslationCommandsComplete_9).flt.entries = [] ∧ (wst_TranslationCommandsComplete_9).plat.atsHeld = [] :=
  ⟨({ ticket := none, kind := 3, space := 0, headland := true, modeSwitch := true }), (true), by
    unfold State.Inv PlotsWf Plot.Wf Rises
    decide +kernel⟩

def wst_TranslationCommandsComplete_10 : State :=
  (fun (s : State) => (((base45 (base12 (serve s))).setRg (Rg.pctx 1 0) (2 ^ 63 + 3 * 2 ^ 24 + 5)).setRg (Rg.tmplA 0) (1 + 12 * 8 + 9 * 256 + 9 * 4096 + 2 ^ 16 + 51 * 2 ^ 24)).setRg (Rg.tmplB 0) (1 * 2 ^ 6)) State.reset
theorem wit_TranslationCommandsComplete_10 : ∃ (c : Fin 16384) (v : Word) (_rid : Half), (wst_TranslationCommandsComplete_10).Inv ∧
    bit ((wst_TranslationCommandsComplete_10).pctxCtrl c) 63 = false ∧ bit v.toNat 63 = true ∧ fld v.toNat 19 0 ≠ 0 ∧
    (wst_TranslationCommandsComplete_10).ctxOf (fld v.toNat 19 0) = none :=
  ⟨(7), (0x8000FFFFFFFFFFFF), (0), by
    unfold State.Inv PlotsWf Plot.Wf Rises
    decide +kernel⟩

/-! ### WalksComplete -/

def wst_WalksComplete_0 : State :=
  (fun (s : State) => (((base45 (base8 (serve s))).setRg (Rg.pctx 1 0) (2 ^ 63 + 3 * 2 ^ 24 + 5)).setRg (Rg.tmplA 0) (1 + 12 * 8 + 9 * 256 + 9 * 4096 + 2 ^ 16 + 51 * 2 ^ 24)).setRg (Rg.tmplB 0) (1 * 2 ^ 6)) State.reset
theorem wit_WalksComplete_0 : ∃ (w : Walk) (d : List Byte) (f : Tmpl) (e : Nat), (wst_WalksComplete_0).plat.walks = [w] ∧ w.kind = .table ∧
    w.issued = true ∧ w.stale = false ∧ (wst_WalksComplete_0).host.tags = [] ∧ (wst_WalksComplete_0).plat.slotWait = [] ∧ w.level = 0 ∧ d.length = 8 ∧
    f = (wst_WalksComplete_0).tmplOf w.ctx ∧ e = leNat d ∧ f.present e = true ∧ f.adEn = false ∧ f.userEn = false ∧ w.noWrite = none ∧
    (w.access = .read ∨ f.writes e = true) :=
  ⟨({ id := 1, kind := .table, stream := .gleaner 4, ctx := 1, pasid := 5, priv := false, space := .host, va := 0x4123, access := .read }), (natLe 8 0x12345003), (wst_WalksComplete_0.tmplOf 1), (0x12345003), by
    decide +kernel⟩

def wst_WalksComplete_1 : State :=
  (fun (s : State) => ((((base45 ((fun (s : State) => { s with flt := {}, drill := {}, fab := {}, rot := {}, host := { s.host with tags := [] }, g := {}, mig := {}, plat := { walks := [{ id := 1, kind := .cas, stream := .gleaner 4, ctx := 1, pasid := 5, priv := false, space := .host, va := 0x4123, access := .write, entry := 0x12345003 }], queue := [], executing := none, cache := [{ pasid := 5, space := .host, va := 0x1000, size := 0x1000, base := .host 0x8000, r := true, w := true, a := true, source := .table }, { pasid := 6, space := .host, va := 0x1000, size := 0x1000, base := .host 0x8000, r := true, w := true, a := true, source := .table }] } } : State →
    State) (serve s))).setRg (Rg.pctx 1 0) (2 ^ 63 + 3 * 2 ^ 24 + 5)).setRg (Rg.tmplA 0) (1 + 12 * 8 + 9 * 256 + 9 * 4096 + 2 ^ 16 + 51 * 2 ^ 24)).setRg (Rg.tmplB 0) (1 * 2 ^ 6)).setRg (Rg.tmplB 0) (1 * 2 ^ 6 + 5 * 2 ^ 18 + 6 * 2 ^ 24 + 2 ^ 37)) State.reset
theorem wit_WalksComplete_1 : ∃ (w : Walk) (v : Word) (f : Tmpl), (wst_WalksComplete_1).plat.walks = [w] ∧ w.kind = .cas ∧ w.issued = true ∧
    w.stale = false ∧ (wst_WalksComplete_1).host.tags = [] ∧ (wst_WalksComplete_1).plat.slotWait = [] ∧ w.level = 0 ∧ w.entry = v.toNat ∧
    f = (wst_WalksComplete_1).tmplOf w.ctx ∧ f.adEn = true ∧ f.userEn = false ∧ w.noWrite = none ∧ w.access = .write ∧
    f.writes (f.mark w.entry true) = true ∧ f.dirty (f.mark w.entry true) = true :=
  ⟨({ id := 1, kind := .cas, stream := .gleaner 4, ctx := 1, pasid := 5, priv := false, space := .host, va := 0x4123, access := .write, entry := 0x12345003 }), (0x12345003), (wst_WalksComplete_1.tmplOf 1), by
    decide +kernel⟩

def wst_WalksComplete_2 : State :=
  (fun (s : State) => (((base45 ((fun (s : State) => { s with flt := {}, drill := {}, fab := {}, rot := {}, host := { s.host with tags := [] }, g := {}, mig := {}, plat := { walks := [{ id := 1, kind := .ats, stream := .gleaner 4, ctx := 1, pasid := 5, priv := false, space := .host, va := 0x4123, access := .read }], queue := [], executing := none, cache := [{ pasid := 5, space := .host, va := 0x1000, size := 0x1000, base := .host 0x8000, r := true, w := true, a := true, source := .table }, { pasid := 6, space := .host, va := 0x1000, size := 0x1000, base := .host 0x8000, r := true, w := true, a := true, source := .table }] } } : State →
    State) (serve s))).setRg (Rg.pctx 1 0) (2 ^ 63 + 3 * 2 ^ 24 + 5)).setRg (Rg.tmplA 0) (1 + 12 * 8 + 9 * 256 + 9 * 4096 + 2 ^ 16 + 51 * 2 ^ 24)).setRg (Rg.tmplB 0) (1 * 2 ^ 6)) State.reset
theorem wit_WalksComplete_2 : ∃ (w : Walk) (x : AtsEntry), (wst_WalksComplete_2).plat.walks = [w] ∧ w.kind = .ats ∧ w.issued = true ∧
    w.stale = false ∧ (wst_WalksComplete_2).host.tags = [] ∧ (wst_WalksComplete_2).plat.slotWait = [] ∧ w.access = .read ∧ x.r = true ∧ x.va ≤ w.va ∧
    w.va < x.va + x.size :=
  ⟨({ id := 1, kind := .ats, stream := .gleaner 4, ctx := 1, pasid := 5, priv := false, space := .host, va := 0x4123, access := .read }), ({ va := 0x4000, size := 0x1000, addr := 0x77000, r := true, w := false }), by
    decide +kernel⟩

def wst_WalksComplete_3 : State :=
  (fun (s : State) => (fun (s : State) => { s with hbm := [(0x10000, 3), (0x10001, 7)], pwr := { s.pwr with scrub := [] } } : State →
    State) (((((base45 ((fun (s : State) => { s with flt := {}, drill := {}, fab := {}, rot := {}, host := { s.host with tags := [] }, g := {}, mig := {}, plat := { walks := [{ id := 1, kind := .acre, stream := .gleaner 4, ctx := 1, pasid := 5, priv := false, space := .devlocal, va := 0x4123, access := .read }], queue := [], executing := none, cache := [{ pasid := 5, space := .host, va := 0x1000, size := 0x1000, base := .host 0x8000, r := true, w := true, a := true, source := .table }, { pasid := 6, space := .host, va := 0x1000, size := 0x1000, base := .host 0x8000, r := true, w := true, a := true, source := .table }] } } : State →
    State) (serve s))).setRg (Rg.pctx 1 0) (2 ^ 63 + 3 * 2 ^ 24 + 5)).setRg (Rg.tmplA 0) (1 + 12 * 8 + 9 * 256 + 9 * 4096 + 2 ^ 16 + 51 * 2 ^ 24)).setRg (Rg.tmplB 0) (1 * 2 ^ 6)).setRg (Rg.pctx 1 0x10) (0x10000 + 10))) State.reset
theorem wit_WalksComplete_3 : ∃ (w : Walk) (e : Nat), (wst_WalksComplete_3).plat.walks = [w] ∧ w.kind = .acre ∧ w.stale = false ∧
    (wst_WalksComplete_3).plat.slotWait = [] ∧ (wst_WalksComplete_3).pwr.scrub = [] ∧ (wst_WalksComplete_3).coh.scrubbing = [] ∧
    e = leNat (memRead (wst_WalksComplete_3).hbm ((wst_WalksComplete_3).acreBase w.ctx + 8 * (w.va / acreBytes)) 8) ∧ bit e 0 = true ∧ fld e 7 4 = 0 ∧
    fld e 63 21 = 0 ∧ fld e 20 8 < hbmAcres ∧ hasRight (bit e 1) (bit e 2) (bit e 3) w.access = true :=
  ⟨({ id := 1, kind := .acre, stream := .gleaner 4, ctx := 1, pasid := 5, priv := false, space := .devlocal, va := 0x4123, access := .read }), (0x703), by
    decide +kernel⟩

def wst_WalksComplete_4 : State :=
  (fun (s : State) => (fun (s : State) => { s with plots := [] } : State →
    State) ((((base45 (base8 (serve s))).setRg (Rg.pctx 1 0) (2 ^ 63 + 3 * 2 ^ 24 + 5)).setRg (Rg.tmplA 0) (1 + 12 * 8 + 9 * 256 + 9 * 4096 + 2 ^ 16 + 51 * 2 ^ 24)).setRg (Rg.tmplB 0) (1 * 2 ^ 6))) State.reset
theorem wit_WalksComplete_4 : ∃ (w : Walk) (p : Fin 16), (wst_WalksComplete_4).Inv ∧ (wst_WalksComplete_4).plat.walks = [w] ∧ w.kind = .table ∧
    w.issued = true ∧ w.stale = false ∧ (wst_WalksComplete_4).host.tags = [] ∧ (wst_WalksComplete_4).plat.slotWait = [] ∧ w.stream = .gleaner p ∧
    ((wst_WalksComplete_4).plot p).ended = none :=
  ⟨({ id := 1, kind := .table, stream := .gleaner 4, ctx := 1, pasid := 5, priv := false, space := .host, va := 0x4123, access := .read }), (4), by
    unfold State.Inv PlotsWf Plot.Wf Rises
    decide +kernel⟩

/-! ### PageFaultRingCompletes -/

def wst_PageFaultRingCompletes_0 : State :=
  (fun (s : State) => (((base32 ((((base45 (base12 (serve s))).setRg (Rg.pctx 1 0) (2 ^ 63 + 3 * 2 ^ 24 + 5)).setRg (Rg.tmplA 0) (1 + 12 * 8 + 9 * 256 + 9 * 4096 + 2 ^ 16 + 51 * 2 ^ 24)).setRg (Rg.tmplB 0) (1 * 2 ^ 6))).setRg Rg.faultCtrl (1 + 8 * 2 ^ 8 + 10 * 2 ^ 16)).setRg Rg.faultRing 0x20008).setRg Rg.faultHead 0) State.reset
theorem wit_PageFaultRingCompletes_0 : ∃ (e : FaultEntry), (wst_PageFaultRingCompletes_0).WritesNow ∧ (wst_PageFaultRingCompletes_0).Inv ∧
    (wst_PageFaultRingCompletes_0).faultRingOn = true ∧ (wst_PageFaultRingCompletes_0).faultRingFull = false ∧
    (wst_PageFaultRingCompletes_0).flt.entries = [e] ∧ e.pri = false ∧ e.recorded = false ∧ e.resolved = false ∧
    (wst_PageFaultRingCompletes_0).flt.waiting = [] ∧ (wst_PageFaultRingCompletes_0).flt.batchOpen = none ∧
    2 ≤ fld ((wst_PageFaultRingCompletes_0).rg Rg.faultCtrl) 14 8 :=
  ⟨({ handle := 6, gen := 2, pasid := 5, priv := false, space := .host, page := 0x4000, access := .read, reason := 1, level := 0, streams := [(.gleaner 4, 0x4123)], pri := false }), by
    unfold State.WritesNow State.SendsNow State.Inv PlotsWf Plot.Wf Rises
    decide +kernel⟩

def wst_PageFaultRingCompletes_1 : State :=
  (fun (s : State) => (fun (s : State) => { s with plots := [], flt := { entries := [{ handle := 6, gen := 2, pasid := 5, priv := false, space := .host, page := 0x4000, access := .read, reason := 1, level := 0, streams := [(.gleaner 4, 0x4123)], pri := false }], batchOpen := some (3, 77) } } : State →
    State) ((((base45 (base12 (serve s))).setRg (Rg.pctx 1 0) (2 ^ 63 + 3 * 2 ^ 24 + 5)).setRg (Rg.tmplA 0) (1 + 12 * 8 + 9 * 256 + 9 * 4096 + 2 ^ 16 + 51 * 2 ^ 24)).setRg (Rg.tmplB 0) (1 * 2 ^ 6))) State.reset
theorem wit_PageFaultRingCompletes_1 : ∃ (n b : Nat), (wst_PageFaultRingCompletes_1).flt.batchOpen = some (n, b) :=
  ⟨(3), (77), by
    decide +kernel⟩

def wst_PageFaultRingCompletes_2 : State :=
  (fun (s : State) => ((fun (s : State) => { s with plots := [], flt := { entries := [{ handle := 6, gen := 2, pasid := 5, priv := false, space := .host, page := 0x4000, access := .read, reason := 1, level := 0, streams := [(.gleaner 4, 0x4123)], pri := false }], tail := 9, index := 9 } } : State →
    State) ((((base45 (base12 (serve s))).setRg (Rg.pctx 1 0) (2 ^ 63 + 3 * 2 ^ 24 + 5)).setRg (Rg.tmplA 0) (1 + 12 * 8 + 9 * 256 + 9 * 4096 + 2 ^ 16 + 51 * 2 ^ 24)).setRg (Rg.tmplB 0) (1 * 2 ^ 6))).setRg Rg.faultHead 0) State.reset
theorem wit_PageFaultRingCompletes_2 : ∃ (v : Word32) (_rid : Half), (wst_PageFaultRingCompletes_2).Inv ∧
    (v.toNat + 2 ^ 32 - (wst_PageFaultRingCompletes_2).rg Rg.faultHead) % 2 ^ 32 ≤ ((wst_PageFaultRingCompletes_2).flt.tail + 2 ^ 32 - (wst_PageFaultRingCompletes_2).rg Rg.faultHead) % 2 ^ 32 :=
  ⟨(0), (0), by
    unfold State.Inv PlotsWf Plot.Wf Rises
    decide +kernel⟩

def wst_PageFaultRingCompletes_3 : State :=
  (fun (s : State) => ((base32 ((((base45 (base12 (serve s))).setRg (Rg.pctx 1 0) (2 ^ 63 + 3 * 2 ^ 24 + 5)).setRg (Rg.tmplA 0) (1 + 12 * 8 + 9 * 256 + 9 * 4096 + 2 ^ 16 + 51 * 2 ^ 24)).setRg (Rg.tmplB 0) (1 * 2 ^ 6))).setRg Rg.faultCtrl (8 * 2 ^ 8 + 10 * 2 ^ 16)).setRg Rg.faultRing 0x20008) State.reset
theorem wit_PageFaultRingCompletes_3 : ∃ (v : Word) (_rid : Half), (wst_PageFaultRingCompletes_3).Inv ∧
    bit ((wst_PageFaultRingCompletes_3).rg Rg.faultCtrl) 0 = false ∧ bit v.toNat 0 = true ∧ (wst_PageFaultRingCompletes_3).faultRingLog2 ≠ 0 ∧
    1 ≤ fld v.toNat 14 8 ∧ fld v.toNat 14 8 ≤ 64 ∧ 1 ≤ fld v.toNat 25 16 ∧ fld v.toNat 25 16 ≤ 1000 :=
  ⟨(0xA0801), (0), by
    unfold State.Inv PlotsWf Plot.Wf Rises
    decide +kernel⟩

def wst_PageFaultRingCompletes_4 : State :=
  (fun (s : State) => base29 ((((base45 (base12 (serve s))).setRg (Rg.pctx 1 0) (2 ^ 63 + 3 * 2 ^ 24 + 5)).setRg (Rg.tmplA 0) (1 + 12 * 8 + 9 * 256 + 9 * 4096 + 2 ^ 16 + 51 * 2 ^ 24)).setRg (Rg.tmplB 0) (1 * 2 ^ 6))) State.reset
theorem wit_PageFaultRingCompletes_4 : ∃ (e : FaultEntry) (h : Fin 16384) (k : Half) (p : Fin 16) (va : Nat), (wst_PageFaultRingCompletes_4).Inv ∧
    (wst_PageFaultRingCompletes_4).flt.entries = [e] ∧ e.handle = h ∧ e.gen = k.toNat ∧ e.resolved = false ∧ e.pri = false ∧ e.recorded = true ∧
    e.streams = [(.gleaner p, va)] ∧ ((wst_PageFaultRingCompletes_4).plot p).ended = none ∧ (wst_PageFaultRingCompletes_4).flt.waiting = [] :=
  ⟨({ handle := 6, gen := 2, pasid := 5, priv := false, space := .host, page := 0x4000, access := .read, reason := 1, level := 0, streams := [(.gleaner 4, 0x4123)], pri := false, recorded := true }), (6), (2), (4), (0x4123), by
    unfold State.Inv PlotsWf Plot.Wf Rises
    decide +kernel⟩

def wst_PageFaultRingCompletes_5 : State :=
  (fun (s : State) => base29 ((((base45 (base12 (serve s))).setRg (Rg.pctx 1 0) (2 ^ 63 + 3 * 2 ^ 24 + 5)).setRg (Rg.tmplA 0) (1 + 12 * 8 + 9 * 256 + 9 * 4096 + 2 ^ 16 + 51 * 2 ^ 24)).setRg (Rg.tmplB 0) (1 * 2 ^ 6))) State.reset
theorem wit_PageFaultRingCompletes_5 : ∃ (e : FaultEntry) (h : Fin 16384) (k : Half) (p : Fin 16) (va : Nat), (wst_PageFaultRingCompletes_5).Inv ∧
    (wst_PageFaultRingCompletes_5).flt.entries = [e] ∧ e.handle = h ∧ e.gen = k.toNat ∧ e.resolved = false ∧ e.pri = false ∧ e.recorded = true ∧
    e.streams = [(.gleaner p, va)] ∧ ((wst_PageFaultRingCompletes_5).plot p).ended = none ∧ (wst_PageFaultRingCompletes_5).flt.waiting = [] :=
  ⟨({ handle := 6, gen := 2, pasid := 5, priv := false, space := .host, page := 0x4000, access := .read, reason := 1, level := 0, streams := [(.gleaner 4, 0x4123)], pri := false, recorded := true }), (6), (2), (4), (0x4123), by
    unfold State.Inv PlotsWf Plot.Wf Rises
    decide +kernel⟩

def wst_PageFaultRingCompletes_6 : State :=
  (fun (s : State) => base29 ((((base45 (base12 (serve s))).setRg (Rg.pctx 1 0) (2 ^ 63 + 3 * 2 ^ 24 + 5)).setRg (Rg.tmplA 0) (1 + 12 * 8 + 9 * 256 + 9 * 4096 + 2 ^ 16 + 51 * 2 ^ 24)).setRg (Rg.tmplB 0) (1 * 2 ^ 6))) State.reset
theorem wit_PageFaultRingCompletes_6 : ∃ (e : FaultEntry) (h : Fin 16384) (k : Half) (p : Fin 16) (va : Nat), (wst_PageFaultRingCompletes_6).Inv ∧
    (wst_PageFaultRingCompletes_6).flt.entries = [e] ∧ e.handle = h ∧ e.gen = k.toNat ∧ e.resolved = false ∧ e.pri = false ∧ e.recorded = true ∧
    e.streams = [(.gleaner p, va)] ∧ ((wst_PageFaultRingCompletes_6).plot p).ended = none ∧ (wst_PageFaultRingCompletes_6).flt.waiting = [] :=
  ⟨({ handle := 6, gen := 2, pasid := 5, priv := false, space := .host, page := 0x4000, access := .read, reason := 1, level := 0, streams := [(.gleaner 4, 0x4123)], pri := false, recorded := true }), (6), (2), (4), (0x4123), by
    unfold State.Inv PlotsWf Plot.Wf Rises
    decide +kernel⟩

def wst_PageFaultRingCompletes_7 : State :=
  (fun (s : State) => (((base29 ((((base45 (base12 (serve s))).setRg (Rg.pctx 1 0) (2 ^ 63 + 3 * 2 ^ 24 + 5)).setRg (Rg.tmplA 0) (1 + 12 * 8 + 9 * 256 + 9 * 4096 + 2 ^ 16 + 51 * 2 ^ 24)).setRg (Rg.tmplB 0) (1 * 2 ^ 6))).setRg Rg.faultTarget 0x400000).setVal O.migParcelFirst 100).setVal O.migParcelCount 8) State.reset
theorem wit_PageFaultRingCompletes_7 : ∃ (e : FaultEntry) (h : Fin 16384) (k : Half) (p : Fin 16) (va : Nat) (_rid : Half) (i : Nat),
    (wst_PageFaultRingCompletes_7).Inv ∧ (wst_PageFaultRingCompletes_7).flt.entries = [e] ∧ e.handle = h ∧ e.gen = k.toNat ∧ e.resolved = false ∧
    e.pri = false ∧ e.recorded = true ∧ e.streams = [(.gleaner p, va)] ∧ ((wst_PageFaultRingCompletes_7).plot p).ended = none ∧
    (wst_PageFaultRingCompletes_7).flt.waiting = [] ∧ e.space = .host ∧ e.reason = Rs.notPresent ∧
    (wst_PageFaultRingCompletes_7).freeReserved = some i ∧ (wst_PageFaultRingCompletes_7).parcelsOf e.pasid < 1024 ∧
    (wst_PageFaultRingCompletes_7).rg Rg.faultTarget + 2 ^ 12 ≤ hbmBytes ∧ (wst_PageFaultRingCompletes_7).rg Rg.faultTarget % 2 ^ 12 = 0 ∧
    (wst_PageFaultRingCompletes_7).host.tags = [] ∧ (wst_PageFaultRingCompletes_7).drill.rows = [] ∧ (wst_PageFaultRingCompletes_7).g.store = [] :=
  ⟨({ handle := 6, gen := 2, pasid := 5, priv := false, space := .host, page := 0x4000, access := .read, reason := 1, level := 0, streams := [(.gleaner 4, 0x4123)], pri := false, recorded := true }), (6), (2), (4), (0x4123), (0), (100), by
    unfold State.Inv PlotsWf Plot.Wf Rises
    decide +kernel⟩

def wst_PageFaultRingCompletes_8 : State :=
  (fun (s : State) => (((base29 ((((base45 (base12 (serve s))).setRg (Rg.pctx 1 0) (2 ^ 63 + 3 * 2 ^ 24 + 5)).setRg (Rg.tmplA 0) (1 + 12 * 8 + 9 * 256 + 9 * 4096 + 2 ^ 16 + 51 * 2 ^ 24)).setRg (Rg.tmplB 0) (1 * 2 ^ 6))).setRg Rg.faultTarget 0x400000).setVal O.migParcelFirst 100).setVal O.migParcelCount 8) State.reset
theorem wit_PageFaultRingCompletes_8 : ∃ (e : FaultEntry) (h : Fin 16384) (k : Half) (p : Fin 16) (va : Nat) (_rid : Half) (i : Nat),
    (wst_PageFaultRingCompletes_8).Inv ∧ (wst_PageFaultRingCompletes_8).flt.entries = [e] ∧ e.handle = h ∧ e.gen = k.toNat ∧ e.resolved = false ∧
    e.pri = false ∧ e.recorded = true ∧ e.streams = [(.gleaner p, va)] ∧ ((wst_PageFaultRingCompletes_8).plot p).ended = none ∧
    (wst_PageFaultRingCompletes_8).flt.waiting = [] ∧ e.space = .host ∧ e.reason = Rs.notPresent ∧
    (wst_PageFaultRingCompletes_8).freeReserved = some i ∧ (wst_PageFaultRingCompletes_8).parcelsOf e.pasid < 1024 ∧
    (wst_PageFaultRingCompletes_8).rg Rg.faultTarget + 2 ^ 21 ≤ hbmBytes ∧ (wst_PageFaultRingCompletes_8).rg Rg.faultTarget % 2 ^ 21 = 0 ∧
    (wst_PageFaultRingCompletes_8).host.tags = [] ∧ (wst_PageFaultRingCompletes_8).drill.rows = [] ∧ (wst_PageFaultRingCompletes_8).g.store = [] :=
  ⟨({ handle := 6, gen := 2, pasid := 5, priv := false, space := .host, page := 0x4000, access := .read, reason := 1, level := 0, streams := [(.gleaner 4, 0x4123)], pri := false, recorded := true }), (6), (2), (4), (0x4123), (0), (100), by
    unfold State.Inv PlotsWf Plot.Wf Rises
    decide +kernel⟩

/-! ### BatchesAndPageRequestsComplete -/

def wst_BatchesAndPageRequestsComplete_0 : State :=
  (fun (s : State) => base28 ((((base45 (base12 (serve s))).setRg (Rg.pctx 1 0) (2 ^ 63 + 3 * 2 ^ 24 + 5)).setRg (Rg.tmplA 0) (1 + 12 * 8 + 9 * 256 + 9 * 4096 + 2 ^ 16 + 51 * 2 ^ 24)).setRg (Rg.tmplB 0) (1 * 2 ^ 6))) State.reset
theorem wit_BatchesAndPageRequestsComplete_0 : ∃ (e : FaultEntry) (b : Half) (p : Fin 16) (va : Nat), (wst_BatchesAndPageRequestsComplete_0).Inv ∧
    (wst_BatchesAndPageRequestsComplete_0).flt.entries = [e] ∧ e.batch = b.toNat ∧ e.resolved = false ∧ e.pri = false ∧ e.recorded = true ∧
    e.streams = [(.gleaner p, va)] ∧ ((wst_BatchesAndPageRequestsComplete_0).plot p).ended = none ∧
    (wst_BatchesAndPageRequestsComplete_0).flt.waiting = [] :=
  ⟨({ handle := 6, gen := 2, pasid := 5, priv := false, space := .host, page := 0x4000, access := .read, reason := 1, level := 0, streams := [(.gleaner 4, 0x4123)], pri := false, recorded := true, batch := 9 }), (9), (4), (0x4123), by
    unfold State.Inv PlotsWf Plot.Wf Rises
    decide +kernel⟩

def wst_BatchesAndPageRequestsComplete_1 : State :=
  (fun (s : State) => base28 ((((base45 (base12 (serve s))).setRg (Rg.pctx 1 0) (2 ^ 63 + 3 * 2 ^ 24 + 5)).setRg (Rg.tmplA 0) (1 + 12 * 8 + 9 * 256 + 9 * 4096 + 2 ^ 16 + 51 * 2 ^ 24)).setRg (Rg.tmplB 0) (1 * 2 ^ 6))) State.reset
theorem wit_BatchesAndPageRequestsComplete_1 : ∃ (e : FaultEntry) (b : Half) (p : Fin 16) (va : Nat), (wst_BatchesAndPageRequestsComplete_1).Inv ∧
    (wst_BatchesAndPageRequestsComplete_1).flt.entries = [e] ∧ e.batch = b.toNat ∧ e.resolved = false ∧ e.pri = false ∧ e.recorded = true ∧
    e.streams = [(.gleaner p, va)] ∧ ((wst_BatchesAndPageRequestsComplete_1).plot p).ended = none ∧
    (wst_BatchesAndPageRequestsComplete_1).flt.waiting = [] :=
  ⟨({ handle := 6, gen := 2, pasid := 5, priv := false, space := .host, page := 0x4000, access := .read, reason := 1, level := 0, streams := [(.gleaner 4, 0x4123)], pri := false, recorded := true, batch := 9 }), (9), (4), (0x4123), by
    unfold State.Inv PlotsWf Plot.Wf Rises
    decide +kernel⟩

def wst_BatchesAndPageRequestsComplete_2 : State :=
  (fun (s : State) => base28 ((((base45 (base12 (serve s))).setRg (Rg.pctx 1 0) (2 ^ 63 + 3 * 2 ^ 24 + 5)).setRg (Rg.tmplA 0) (1 + 12 * 8 + 9 * 256 + 9 * 4096 + 2 ^ 16 + 51 * 2 ^ 24)).setRg (Rg.tmplB 0) (1 * 2 ^ 6))) State.reset
theorem wit_BatchesAndPageRequestsComplete_2 : ∃ (e : FaultEntry) (b : Half) (p : Fin 16) (va : Nat), (wst_BatchesAndPageRequestsComplete_2).Inv ∧
    (wst_BatchesAndPageRequestsComplete_2).flt.entries = [e] ∧ e.batch = b.toNat ∧ e.resolved = false ∧ e.pri = false ∧ e.recorded = true ∧
    e.streams = [(.gleaner p, va)] ∧ ((wst_BatchesAndPageRequestsComplete_2).plot p).ended = none ∧
    (wst_BatchesAndPageRequestsComplete_2).flt.waiting = [] :=
  ⟨({ handle := 6, gen := 2, pasid := 5, priv := false, space := .host, page := 0x4000, access := .read, reason := 1, level := 0, streams := [(.gleaner 4, 0x4123)], pri := false, recorded := true, batch := 9 }), (9), (4), (0x4123), by
    unfold State.Inv PlotsWf Plot.Wf Rises
    decide +kernel⟩

def wst_BatchesAndPageRequestsComplete_3 : State :=
  (fun (s : State) => (base29 ((((base45 (base12 (serve s))).setRg (Rg.pctx 1 0) (2 ^ 63 + 3 * 2 ^ 24 + 5)).setRg (Rg.tmplA 0) (1 + 12 * 8 + 9 * 256 + 9 * 4096 + 2 ^ 16 + 51 * 2 ^ 24)).setRg (Rg.tmplB 0) (1 * 2 ^ 6))).setVal O.faultTimeoutMs 7) State.reset
theorem wit_BatchesAndPageRequestsComplete_3 : ∃ (e : FaultEntry) (h : Fin 16384) (p : Fin 16) (va : Nat),
    (wst_BatchesAndPageRequestsComplete_3).Inv ∧ (wst_BatchesAndPageRequestsComplete_3).flt.entries = [e] ∧ e.handle = h ∧ e.resolved = false ∧
    e.pri = false ∧ e.recorded = true ∧ e.streams = [(.gleaner p, va)] ∧ ((wst_BatchesAndPageRequestsComplete_3).plot p).ended = none ∧
    (wst_BatchesAndPageRequestsComplete_3).flt.waiting = [] ∧ (wst_BatchesAndPageRequestsComplete_3).val O.faultTimeoutMs ≠ 0 :=
  ⟨({ handle := 6, gen := 2, pasid := 5, priv := false, space := .host, page := 0x4000, access := .read, reason := 1, level := 0, streams := [(.gleaner 4, 0x4123)], pri := false, recorded := true }), (6), (4), (0x4123), by
    unfold State.Inv PlotsWf Plot.Wf Rises
    decide +kernel⟩

def wst_BatchesAndPageRequestsComplete_4 : State :=
  (fun (s : State) => (((fun (s : State) => { s with plots := [], flt := { entries := [{ handle := 6, gen := 2, pasid := 5, priv := false, space := .host, page := 0x4000, access := .read, reason := 1, level := 0, streams := [(.gleaner 4, 0x4123)], pri := true }] } } : State →
    State) ((((base45 (base12 (serve s))).setRg (Rg.pctx 1 0) (2 ^ 63 + 3 * 2 ^ 24 + 5)).setRg (Rg.tmplA 0) (1 + 12 * 8 + 9 * 256 + 9 * 4096 + 2 ^ 16 + 51 * 2 ^ 24)).setRg (Rg.tmplB 0) (1 * 2 ^ 6))).setCfg 0x174 1).setCfg 0x17C 5) State.reset
theorem wit_BatchesAndPageRequestsComplete_4 : ∃ (e : FaultEntry), (wst_BatchesAndPageRequestsComplete_4).Inv ∧
    (wst_BatchesAndPageRequestsComplete_4).WritesNow ∧ (wst_BatchesAndPageRequestsComplete_4).flt.entries = [e] ∧ e.pri = true ∧ e.resolved = false ∧
    e.prg = none ∧ e.access = .read ∧ e.priv = false ∧ (wst_BatchesAndPageRequestsComplete_4).flt.prgs = [] ∧
    (wst_BatchesAndPageRequestsComplete_4).priEnable = true ∧ (wst_BatchesAndPageRequestsComplete_4).flt.priResponseFailure = false ∧
    0 < (wst_BatchesAndPageRequestsComplete_4).cfgv 0x17C :=
  ⟨({ handle := 6, gen := 2, pasid := 5, priv := false, space := .host, page := 0x4000, access := .read, reason := 1, level := 0, streams := [(.gleaner 4, 0x4123)], pri := true }), by
    unfold State.WritesNow State.SendsNow State.Inv PlotsWf Plot.Wf Rises
    decide +kernel⟩

def wst_BatchesAndPageRequestsComplete_5 : State :=
  (fun (s : State) => base26 ((((base45 (base12 (serve s))).setRg (Rg.pctx 1 0) (2 ^ 63 + 3 * 2 ^ 24 + 5)).setRg (Rg.tmplA 0) (1 + 12 * 8 + 9 * 256 + 9 * 4096 + 2 ^ 16 + 51 * 2 ^ 24)).setRg (Rg.tmplB 0) (1 * 2 ^ 6))) State.reset
theorem wit_BatchesAndPageRequestsComplete_5 : ∃ (e : FaultEntry) (g : Fin 512) (q : Nat) (p : Fin 16) (va : Nat),
    (wst_BatchesAndPageRequestsComplete_5).Inv ∧ (wst_BatchesAndPageRequestsComplete_5).host.frozen = false ∧
    (wst_BatchesAndPageRequestsComplete_5).flt.prgs = [(g.val, q, [e.handle])] ∧ (wst_BatchesAndPageRequestsComplete_5).flt.entries = [e] ∧
    e.pri = true ∧ e.resolved = false ∧ e.prg = some g.val ∧ e.streams = [(.gleaner p, va)] ∧
    ((wst_BatchesAndPageRequestsComplete_5).plot p).ended = none ∧ (wst_BatchesAndPageRequestsComplete_5).flt.waiting = [] :=
  ⟨({ handle := 6, gen := 2, pasid := 5, priv := false, space := .host, page := 0x4000, access := .read, reason := 1, level := 0, streams := [(.gleaner 4, 0x4123)], pri := true, prg := some 3 }), (3), (5), (4), (0x4123), by
    unfold State.Inv PlotsWf Plot.Wf Rises
    decide +kernel⟩

def wst_BatchesAndPageRequestsComplete_6 : State :=
  (fun (s : State) => base26 ((((base45 (base12 (serve s))).setRg (Rg.pctx 1 0) (2 ^ 63 + 3 * 2 ^ 24 + 5)).setRg (Rg.tmplA 0) (1 + 12 * 8 + 9 * 256 + 9 * 4096 + 2 ^ 16 + 51 * 2 ^ 24)).setRg (Rg.tmplB 0) (1 * 2 ^ 6))) State.reset
theorem wit_BatchesAndPageRequestsComplete_6 : ∃ (e : FaultEntry) (g : Fin 512) (q : Nat) (p : Fin 16) (va : Nat),
    (wst_BatchesAndPageRequestsComplete_6).Inv ∧ (wst_BatchesAndPageRequestsComplete_6).host.frozen = false ∧
    (wst_BatchesAndPageRequestsComplete_6).flt.prgs = [(g.val, q, [e.handle])] ∧ (wst_BatchesAndPageRequestsComplete_6).flt.entries = [e] ∧
    e.pri = true ∧ e.resolved = false ∧ e.prg = some g.val ∧ e.streams = [(.gleaner p, va)] ∧
    ((wst_BatchesAndPageRequestsComplete_6).plot p).ended = none ∧ (wst_BatchesAndPageRequestsComplete_6).flt.waiting = [] :=
  ⟨({ handle := 6, gen := 2, pasid := 5, priv := false, space := .host, page := 0x4000, access := .read, reason := 1, level := 0, streams := [(.gleaner 4, 0x4123)], pri := true, prg := some 3 }), (3), (5), (4), (0x4123), by
    unfold State.Inv PlotsWf Plot.Wf Rises
    decide +kernel⟩

def wst_BatchesAndPageRequestsComplete_7 : State :=
  (fun (s : State) => base26 ((((base45 (base12 (serve s))).setRg (Rg.pctx 1 0) (2 ^ 63 + 3 * 2 ^ 24 + 5)).setRg (Rg.tmplA 0) (1 + 12 * 8 + 9 * 256 + 9 * 4096 + 2 ^ 16 + 51 * 2 ^ 24)).setRg (Rg.tmplB 0) (1 * 2 ^ 6))) State.reset
theorem wit_BatchesAndPageRequestsComplete_7 : ∃ (e : FaultEntry) (g : Fin 512) (q : Nat) (p : Fin 16) (va : Nat),
    (wst_BatchesAndPageRequestsComplete_7).Inv ∧ (wst_BatchesAndPageRequestsComplete_7).host.frozen = false ∧
    (wst_BatchesAndPageRequestsComplete_7).flt.prgs = [(g.val, q, [e.handle])] ∧ (wst_BatchesAndPageRequestsComplete_7).flt.entries = [e] ∧
    e.pri = true ∧ e.resolved = false ∧ e.prg = some g.val ∧ e.streams = [(.gleaner p, va)] ∧
    ((wst_BatchesAndPageRequestsComplete_7).plot p).ended = none ∧ (wst_BatchesAndPageRequestsComplete_7).flt.waiting = [] :=
  ⟨({ handle := 6, gen := 2, pasid := 5, priv := false, space := .host, page := 0x4000, access := .read, reason := 1, level := 0, streams := [(.gleaner 4, 0x4123)], pri := true, prg := some 3 }), (3), (5), (4), (0x4123), by
    unfold State.Inv PlotsWf Plot.Wf Rises
    decide +kernel⟩

def wst_BatchesAndPageRequestsComplete_8 : State :=
  (fun (s : State) => base32 ((((base45 (base12 (serve s))).setRg (Rg.pctx 1 0) (2 ^ 63 + 3 * 2 ^ 24 + 5)).setRg (Rg.tmplA 0) (1 + 12 * 8 + 9 * 256 + 9 * 4096 + 2 ^ 16 + 51 * 2 ^ 24)).setRg (Rg.tmplB 0) (1 * 2 ^ 6))) State.reset
theorem wit_BatchesAndPageRequestsComplete_8 : ∃ (g : Fin 512) (q : Option Nat), (wst_BatchesAndPageRequestsComplete_8).Inv ∧
    (wst_BatchesAndPageRequestsComplete_8).host.frozen = false ∧ (wst_BatchesAndPageRequestsComplete_8).prgOf g q = none :=
  ⟨(3), (none), by
    unfold State.Inv PlotsWf Plot.Wf Rises
    decide +kernel⟩

def wst_BatchesAndPageRequestsComplete_9 : State :=
  (fun (s : State) => base26 ((((base45 (base12 (serve s))).setRg (Rg.pctx 1 0) (2 ^ 63 + 3 * 2 ^ 24 + 5)).setRg (Rg.tmplA 0) (1 + 12 * 8 + 9 * 256 + 9 * 4096 + 2 ^ 16 + 51 * 2 ^ 24)).setRg (Rg.tmplB 0) (1 * 2 ^ 6))) State.reset
theorem wit_BatchesAndPageRequestsComplete_9 : True :=
  by
    decide +kernel

/-! ### MigrationAndCoherenceComplete -/

def wst_MigrationAndCoherenceComplete_0 : State :=
  (fun (s : State) => (fun (s : State) => { s with mig := { hostMode := false, counters := [(4, { pasid := 5, region := 0x400000, count := 9, hot := true })] }, plat := { s.plat with parcels := [], queue := [] }, pwr := { s.pwr with scrub := [] } } : State →
    State) ((((base45 (base12 (serve s))).setRg (Rg.pctx 1 0) (2 ^ 63 + 3 * 2 ^ 24 + 5)).setRg (Rg.tmplA 0) (1 + 12 * 8 + 9 * 256 + 9 * 4096 + 2 ^ 16 + 51 * 2 ^ 24)).setRg (Rg.tmplB 0) (1 * 2 ^ 6))) State.reset
theorem wit_MigrationAndCoherenceComplete_0 : ∃ (i : Nat) (c : AccCounter), (wst_MigrationAndCoherenceComplete_0).mig.counters = [(i, c)] ∧
    (wst_MigrationAndCoherenceComplete_0).mig.skipped = [] ∧ c.marked = false ∧ 2 ≤ c.count :=
  ⟨(4), ({ pasid := 5, region := 0x400000, count := 9, hot := true }), by
    decide +kernel⟩

def wst_MigrationAndCoherenceComplete_1 : State :=
  (fun (s : State) => (((((fun (s : State) => { s with mig := { hostMode := false, hot := [(5, 0x400000)] }, plat := { s.plat with parcels := [], queue := [] }, pwr := { s.pwr with scrub := [] } } : State →
    State) ((((base45 (base12 (serve s))).setRg (Rg.pctx 1 0) (2 ^ 63 + 3 * 2 ^ 24 + 5)).setRg (Rg.tmplA 0) (1 + 12 * 8 + 9 * 256 + 9 * 4096 + 2 ^ 16 + 51 * 2 ^ 24)).setRg (Rg.tmplB 0) (1 * 2 ^ 6))).setRg (Rg.migWindow 0 0) (2 ^ 63 + 5)).setRg (Rg.migWindow 0 8) 0x400000).setRg (Rg.migWindow 0 16) 0x400000).setRg Rg.migPool (8 * 2 ^ 16 + 20)) State.reset
theorem wit_MigrationAndCoherenceComplete_1 : ∃ (_k : Nat) (p r f : Nat), (wst_MigrationAndCoherenceComplete_1).mig.hot = [(p, r)] ∧
    (wst_MigrationAndCoherenceComplete_1).mig.hostMode = false ∧ (wst_MigrationAndCoherenceComplete_1).mig.copying = none ∧
    (wst_MigrationAndCoherenceComplete_1).mayRequest = true ∧ (wst_MigrationAndCoherenceComplete_1).inWindow p r (2 ^ 21) = true ∧
    (wst_MigrationAndCoherenceComplete_1).regionBarred p r = false ∧ (wst_MigrationAndCoherenceComplete_1).freeFrame = some f ∧
    (wst_MigrationAndCoherenceComplete_1).mig.counters = [] ∧ (wst_MigrationAndCoherenceComplete_1).plat.atsHeld = [] :=
  ⟨(4), (5), (0x400000), (20 * 0x4000000), by
    decide +kernel⟩

def wst_MigrationAndCoherenceComplete_2 : State :=
  (fun (s : State) => (fun (s : State) => { s with plat := { s.plat with cache := [{ pasid := 5, space := .host, va := 0x400000, size := 0x1000, base := .host 0x8000, r := true, w := true, a := true, source := .table }] } } : State →
    State) ((fun (s : State) => { s with mig := { hostMode := false, copying := some { pasid := 5, region := 0x400000, frame := 0x4000 } }, plat := { s.plat with parcels := [], queue := [] }, pwr := { s.pwr with scrub := [] } } : State →
    State) ((((base45 (base12 (serve s))).setRg (Rg.pctx 1 0) (2 ^ 63 + 3 * 2 ^ 24 + 5)).setRg (Rg.tmplA 0) (1 + 12 * 8 + 9 * 256 + 9 * 4096 + 2 ^ 16 + 51 * 2 ^ 24)).setRg (Rg.tmplB 0) (1 * 2 ^ 6)))) State.reset
theorem wit_MigrationAndCoherenceComplete_2 : ∃ (c : Promotion) (x : Target) (n : Nat), (wst_MigrationAndCoherenceComplete_2).mig.copying = some c ∧
    (wst_MigrationAndCoherenceComplete_2).ownPending .region = false ∧ (wst_MigrationAndCoherenceComplete_2).mayRequest = true ∧
    (wst_MigrationAndCoherenceComplete_2).mig.fails = [] ∧ c.pages.length < 512 ∧
    ((wst_MigrationAndCoherenceComplete_2).lookup (migWho false c.pasid) .host (c.region + c.pages.length * 4096) .write).2 = .at_ x n :=
  ⟨({ pasid := 5, region := 0x400000, frame := 0x4000 }), (.host 0x8000), (0x1000), by
    decide +kernel⟩

def wst_MigrationAndCoherenceComplete_3 : State :=
  (fun (s : State) => (((fun (s : State) => { s with mig := { hostMode := false, counters := [], copying := some { pasid := 5, region := 0x400000, frame := 0x4000, pages := List.replicate 512 (.hbm 0x800000) } }, plat := { s.plat with parcels := [], queue := [] }, coh := {}, host := { s.host with poison := [] }, pwr := { s.pwr with scrub := [] } } : State →
    State) ((((base45 (base12 (serve s))).setRg (Rg.pctx 1 0) (2 ^ 63 + 3 * 2 ^ 24 + 5)).setRg (Rg.tmplA 0) (1 + 12 * 8 + 9 * 256 + 9 * 4096 + 2 ^ 16 + 51 * 2 ^ 24)).setRg (Rg.tmplB 0) (1 * 2 ^ 6))).setVal O.migParcelFirst 100).setVal O.migParcelCount 8) State.reset
theorem wit_MigrationAndCoherenceComplete_3 : ∃ (_h : HostRead) (c : Promotion) (i : Nat), (wst_MigrationAndCoherenceComplete_3).Inv ∧
    (wst_MigrationAndCoherenceComplete_3).mig.copying = some c ∧ c.copied = false ∧ c.pages.length = 512 ∧
    c.pages.all (fun x => match x with | .hbm _ => true | _ => false) = true ∧ (wst_MigrationAndCoherenceComplete_3).mayRequest = true ∧
    (wst_MigrationAndCoherenceComplete_3).ownPending .region = false ∧ (wst_MigrationAndCoherenceComplete_3).freeReserved = some i ∧
    (wst_MigrationAndCoherenceComplete_3).parcelsOf c.pasid < 1024 ∧ (wst_MigrationAndCoherenceComplete_3).pwr.scrub = [] ∧
    (wst_MigrationAndCoherenceComplete_3).coh.snoopFilter = [] ∧ (wst_MigrationAndCoherenceComplete_3).coh.scrubbing = [] ∧
    (wst_MigrationAndCoherenceComplete_3).host.poison = [] ∧ (wst_MigrationAndCoherenceComplete_3).mig.counters = [] ∧
    (wst_MigrationAndCoherenceComplete_3).plat.atsHeld = [] :=
  ⟨({}), ({ pasid := 5, region := 0x400000, frame := 0x4000, pages := List.replicate 512 (.hbm 0x800000) }), (100), by
    unfold State.Inv PlotsWf Plot.Wf Rises
    decide +kernel⟩

def wst_MigrationAndCoherenceComplete_4 : State :=
  (fun (s : State) => (fun (s : State) => { s with mig := { hostMode := false }, plat := { s.plat with parcels := [(9, { pasid := 5, start := 0x400000, length := 0x200000, target := .hbm 0x10000000, r := true, w := true, a := true, overlay := true, z20 := true, valid := true })], queue := [{ ticket := some 3, kind := 5, space := 0, pasid := 5, parcel := 9 }] }, pwr := { s.pwr with scrub := [] } } : State →
    State) ((((base45 (base12 (serve s))).setRg (Rg.pctx 1 0) (2 ^ 63 + 3 * 2 ^ 24 + 5)).setRg (Rg.tmplA 0) (1 + 12 * 8 + 9 * 256 + 9 * 4096 + 2 ^ 16 + 51 * 2 ^ 24)).setRg (Rg.tmplB 0) (1 * 2 ^ 6))) State.reset
theorem wit_MigrationAndCoherenceComplete_4 : ∃ (i : Fin 65536) (_n : Nat) (p : Parcel), (wst_MigrationAndCoherenceComplete_4).Inv ∧
    (wst_MigrationAndCoherenceComplete_4).plat.parcels = [(i.val, p)] ∧ p.valid = true ∧ p.z20 = true ∧
    (wst_MigrationAndCoherenceComplete_4).evictionDue i p = true ∧ (wst_MigrationAndCoherenceComplete_4).mig.evicting = none ∧
    (wst_MigrationAndCoherenceComplete_4).mayRequest = true ∧ p.dirty = [] ∧ (wst_MigrationAndCoherenceComplete_4).host.tags = [] ∧
    (wst_MigrationAndCoherenceComplete_4).drill.rows = [] ∧ (wst_MigrationAndCoherenceComplete_4).g.store = [] :=
  ⟨(9), (0), ({ pasid := 5, start := 0x400000, length := 0x200000, target := .hbm 0x10000000, r := true, w := true, a := true, overlay := true, z20 := true, valid := true }), by
    unfold State.Inv PlotsWf Plot.Wf Rises
    decide +kernel⟩

def wst_MigrationAndCoherenceComplete_5 : State :=
  (fun (s : State) => (base38 ((((base45 (base12 (serve s))).setRg (Rg.pctx 1 0) (2 ^ 63 + 3 * 2 ^ 24 + 5)).setRg (Rg.tmplA 0) (1 + 12 * 8 + 9 * 256 + 9 * 4096 + 2 ^ 16 + 51 * 2 ^ 24)).setRg (Rg.tmplB 0) (1 * 2 ^ 6))).setRg (Rg.migWindow 3 0) 0) State.reset
theorem wit_MigrationAndCoherenceComplete_5 : ∃ (w : Fin 64) (_v : Word) (_rid : Half), (wst_MigrationAndCoherenceComplete_5).Inv ∧
    bit ((wst_MigrationAndCoherenceComplete_5).rg (Rg.migWindow w 0)) 63 = false :=
  ⟨(3), (0x8000000000300005), (0), by
    unfold State.Inv PlotsWf Plot.Wf Rises
    decide +kernel⟩

def wst_MigrationAndCoherenceComplete_6 : State :=
  (fun (s : State) => (base38 ((((base45 (base12 (serve s))).setRg (Rg.pctx 1 0) (2 ^ 63 + 3 * 2 ^ 24 + 5)).setRg (Rg.tmplA 0) (1 + 12 * 8 + 9 * 256 + 9 * 4096 + 2 ^ 16 + 51 * 2 ^ 24)).setRg (Rg.tmplB 0) (1 * 2 ^ 6))).setRg (Rg.migWindow 3 0) 0) State.reset
theorem wit_MigrationAndCoherenceComplete_6 : ∃ (w : Fin 64) (_v : Word) (_rid : Half), (wst_MigrationAndCoherenceComplete_6).Inv ∧
    bit ((wst_MigrationAndCoherenceComplete_6).rg (Rg.migWindow w 0)) 63 = false :=
  ⟨(3), (0x8000000000300005), (0), by
    unfold State.Inv PlotsWf Plot.Wf Rises
    decide +kernel⟩

def wst_MigrationAndCoherenceComplete_7 : State :=
  (fun (s : State) => { (base38 ((((base45 (base12 (serve s))).setRg (Rg.pctx 1 0) (2 ^ 63 + 3 * 2 ^ 24 + 5)).setRg (Rg.tmplA 0) (1 + 12 * 8 + 9 * 256 + 9 * 4096 + 2 ^ 16 + 51 * 2 ^ 24)).setRg (Rg.tmplB 0) (1 * 2 ^ 6))) with mig := {} }) State.reset
theorem wit_MigrationAndCoherenceComplete_7 : ∃ (v : Word) (_rid : Half), (wst_MigrationAndCoherenceComplete_7).Inv ∧
    (wst_MigrationAndCoherenceComplete_7).mig.hostMode = true ∧ (wst_MigrationAndCoherenceComplete_7).z20Overlays = [] ∧ fld v.toNat 12 0 < hbmAcres ∧
    fld v.toNat 12 0 + fld v.toNat 28 16 ≤ hbmAcres :=
  ⟨(0x00080014), (0), by
    unfold State.Inv PlotsWf Plot.Wf Rises
    decide +kernel⟩

def wst_MigrationAndCoherenceComplete_8 : State :=
  (fun (s : State) => base27 (serve s)) State.reset
theorem wit_MigrationAndCoherenceComplete_8 : ∃ (l : Nat), (wst_MigrationAndCoherenceComplete_8).cxlOn = true ∧
    (wst_MigrationAndCoherenceComplete_8).pwr.mode = .up ∧ (wst_MigrationAndCoherenceComplete_8).host.frozen = false ∧
    (wst_MigrationAndCoherenceComplete_8).host.power = .d0 ∧ l * 64 < (wst_MigrationAndCoherenceComplete_8).coh.hdmSize ∧
    (wst_MigrationAndCoherenceComplete_8).cohWindowOf (l * 64) = none ∧ (wst_MigrationAndCoherenceComplete_8).pwr.scrub = [] ∧
    (wst_MigrationAndCoherenceComplete_8).coh.scrubbing = [] ∧ (wst_MigrationAndCoherenceComplete_8).host.poison = [] :=
  ⟨(0), by
    decide +kernel⟩

def wst_MigrationAndCoherenceComplete_9 : State :=
  (fun (s : State) => base27 (serve s)) State.reset
theorem wit_MigrationAndCoherenceComplete_9 : ∃ (l : Nat) (d : List Byte) (_k : Bool), (wst_MigrationAndCoherenceComplete_9).Inv ∧
    (wst_MigrationAndCoherenceComplete_9).cxlOn = true ∧ (wst_MigrationAndCoherenceComplete_9).pwr.mode = .up ∧
    (wst_MigrationAndCoherenceComplete_9).host.frozen = false ∧ (wst_MigrationAndCoherenceComplete_9).host.power = .d0 ∧
    l * 64 < (wst_MigrationAndCoherenceComplete_9).coh.hdmSize ∧ (wst_MigrationAndCoherenceComplete_9).cohWindowOf (l * 64) = none ∧
    (wst_MigrationAndCoherenceComplete_9).pwr.scrub = [] ∧ (wst_MigrationAndCoherenceComplete_9).coh.scrubbing = [] ∧ d.length = 64 :=
  ⟨(0), (List.replicate 64 5), (true), by
    unfold State.Inv PlotsWf Plot.Wf Rises
    decide +kernel⟩

def wst_MigrationAndCoherenceComplete_10 : State :=
  (fun (s : State) => base27 (serve s)) State.reset
theorem wit_MigrationAndCoherenceComplete_10 : ∃ (k : Fin 16) (v : Word) (_rid : Half), (wst_MigrationAndCoherenceComplete_10).Inv ∧
    bit ((wst_MigrationAndCoherenceComplete_10).rg (Rg.cohWindow k)) 63 = false ∧ fld v.toNat 12 0 < hbmAcres ∧
    fld v.toNat 12 0 + fld v.toNat 28 16 ≤ hbmAcres ∧ 0 < fld v.toNat 28 16 :=
  ⟨(0), (0x8000000000080014), (0), by
    unfold State.Inv PlotsWf Plot.Wf Rises
    decide +kernel⟩

def wst_MigrationAndCoherenceComplete_11 : State :=
  (fun (s : State) => base27 (serve s)) State.reset
theorem wit_MigrationAndCoherenceComplete_11 : ∃ (l : Nat) (d : List Byte), (wst_MigrationAndCoherenceComplete_11).cxlOn = true ∧
    (wst_MigrationAndCoherenceComplete_11).coh.dcc = [(l, true, d)] :=
  ⟨(7), (List.replicate 64 9), by
    decide +kernel⟩

def wst_MigrationAndCoherenceComplete_12 : State :=
  (fun (s : State) => base27 (serve s)) State.reset
theorem wit_MigrationAndCoherenceComplete_12 : ∃ (l : Nat) (d : List Byte), (wst_MigrationAndCoherenceComplete_12).cxlOn = true ∧
    (wst_MigrationAndCoherenceComplete_12).coh.dcc = [(l, true, d)] :=
  ⟨(7), (List.replicate 64 9), by
    decide +kernel⟩

/-! ### LotCommandsComplete -/

def wst_LotCommandsComplete_0 : State :=
  (fun (s : State) => (base21 ((s).setVal O.splitFtl 0)).setVal O.lotCapacity (2 ^ 40)) State.reset
theorem wit_LotCommandsComplete_0 : ∃ (c : LotCmd), (wst_LotCommandsComplete_0).Inv ∧ (wst_LotCommandsComplete_0).hl.running = true ∧
    (wst_LotCommandsComplete_0).seed.state = .ready ∧ (wst_LotCommandsComplete_0).pwr.nandPause = false ∧
    (wst_LotCommandsComplete_0).lotRefused 1 c = 0 ∧
    (wst_LotCommandsComplete_0).lotReserved + 3 * c.size * acreBytes ≤ (wst_LotCommandsComplete_0).val O.lotCapacity :=
  ⟨({ lot := 3, pasid := 5, size := 2, base := 4, rights := 7 }), by
    unfold State.Inv PlotsWf Plot.Wf Rises
    decide +kernel⟩

def wst_LotCommandsComplete_1 : State :=
  (fun (s : State) => base11 ((s).setVal O.splitFtl 0)) State.reset
theorem wit_LotCommandsComplete_1 : ∃ (c : LotCmd) (l : Lot), (wst_LotCommandsComplete_1).Inv ∧ (wst_LotCommandsComplete_1).hl.running = true ∧
    (wst_LotCommandsComplete_1).seed.state = .ready ∧ (wst_LotCommandsComplete_1).pwr.nandPause = false ∧
    (wst_LotCommandsComplete_1).lotRefused 2 c = 0 ∧ l = (wst_LotCommandsComplete_1).lot c.lot :=
  ⟨({ lot := 3, pasid := 5, size := 2, base := 4, rights := 7 }), (wst_LotCommandsComplete_1.lot 3), by
    unfold State.Inv PlotsWf Plot.Wf Rises
    decide +kernel⟩

def wst_LotCommandsComplete_2 : State :=
  (fun (s : State) => base11 ((s).setVal O.splitFtl 0)) State.reset
theorem wit_LotCommandsComplete_2 : ∃ (c : LotCmd) (l : Lot) (g : Gen), (wst_LotCommandsComplete_2).Inv ∧
    (wst_LotCommandsComplete_2).hl.running = true ∧ (wst_LotCommandsComplete_2).seed.state = .ready ∧
    (wst_LotCommandsComplete_2).pwr.nandPause = false ∧ (wst_LotCommandsComplete_2).lotRefused 3 c = 0 ∧ l = (wst_LotCommandsComplete_2).lot c.lot ∧
    l.gens = [g] :=
  ⟨({ lot := 3, pasid := 5, size := 2, base := 4, rights := 7 }), (wst_LotCommandsComplete_2.lot 3), ({ num := 8, base := none, data := [(5, 7)] }), by
    unfold State.Inv PlotsWf Plot.Wf Rises
    decide +kernel⟩

def wst_LotCommandsComplete_3 : State :=
  (fun (s : State) => base10 ((s).setVal O.splitFtl 0)) State.reset
theorem wit_LotCommandsComplete_3 : ∃ (c : LotCmd) (l : Lot) (d : Draft), (wst_LotCommandsComplete_3).Inv ∧
    (wst_LotCommandsComplete_3).hl.running = true ∧ (wst_LotCommandsComplete_3).seed.state = .ready ∧
    (wst_LotCommandsComplete_3).pwr.nandPause = false ∧ (wst_LotCommandsComplete_3).lotRefused 4 c = 0 ∧ l = (wst_LotCommandsComplete_3).lot c.lot ∧
    l.draft = some d ∧ d.tainted = false ∧ l.nextGen ≤ 0xFFFFFFFE :=
  ⟨({ lot := 3, pasid := 5, size := 2, base := 4, rights := 7 }), (wst_LotCommandsComplete_3.lot 3), ({ data := [(9, 9)], base := some 8, prior := .ready }), by
    unfold State.Inv PlotsWf Plot.Wf Rises
    decide +kernel⟩

def wst_LotCommandsComplete_4 : State :=
  (fun (s : State) => base10 ((s).setVal O.splitFtl 0)) State.reset
theorem wit_LotCommandsComplete_4 : ∃ (c : LotCmd) (l : Lot) (d : Draft), (wst_LotCommandsComplete_4).Inv ∧
    (wst_LotCommandsComplete_4).hl.running = true ∧ (wst_LotCommandsComplete_4).seed.state = .ready ∧
    (wst_LotCommandsComplete_4).pwr.nandPause = false ∧ (wst_LotCommandsComplete_4).lotRefused 5 c = 0 ∧ l = (wst_LotCommandsComplete_4).lot c.lot ∧
    l.draft = some d :=
  ⟨({ lot := 3, pasid := 5, size := 2, base := 4, rights := 7 }), (wst_LotCommandsComplete_4.lot 3), ({ data := [(9, 9)], base := some 8, prior := .ready }), by
    unfold State.Inv PlotsWf Plot.Wf Rises
    decide +kernel⟩

def wst_LotCommandsComplete_5 : State :=
  (fun (s : State) => base11 ((s).setVal O.splitFtl 0)) State.reset
theorem wit_LotCommandsComplete_5 : ∃ (c : LotCmd) (l : Lot), (wst_LotCommandsComplete_5).Inv ∧ (wst_LotCommandsComplete_5).hl.running = true ∧
    (wst_LotCommandsComplete_5).seed.state = .ready ∧ (wst_LotCommandsComplete_5).pwr.nandPause = false ∧
    (wst_LotCommandsComplete_5).lotRefused 6 c = 0 ∧ l = (wst_LotCommandsComplete_5).lot c.lot :=
  ⟨({ lot := 3, pasid := 5, size := 2, base := 9, rights := 7 }), (wst_LotCommandsComplete_5.lot 3), by
    unfold State.Inv PlotsWf Plot.Wf Rises
    decide +kernel⟩

def wst_LotCommandsComplete_6 : State :=
  (fun (s : State) => (fun (s : State) => { s with rot := {}, drill := {}, g := {}, plat := {}, flt := {}, coh := {}, host := { s.host with poison := [] }, hl := { s.hl with running := true }, seed := { state := .ready, lots := [(3, { state := .deleting, pasid := 5, size := 1, dlvBase := 4, rights := 7, key := 2 })], wrapped := [(3, 2, 9)] }, pwr := { s.pwr with aon := true, mode := .up, nandPause := false, perst := false, scrub := [] }, fc := { s.fc with packageFenced := false } } : State →
    State) ((s).setVal O.splitFtl 0)) State.reset
theorem wit_LotCommandsComplete_6 : ∃ (k : Fin 16384) (l : Lot) (i m : Nat), (wst_LotCommandsComplete_6).nandPrograms = true ∧
    (wst_LotCommandsComplete_6).seed.lots = [(k.val, l)] ∧ l.state = .deleting ∧ (wst_LotCommandsComplete_6).seed.wrapped = [(k.val, i, m)] :=
  ⟨(3), (wst_LotCommandsComplete_6.lot 3), (2), (9), by
    decide +kernel⟩

def wst_LotCommandsComplete_7 : State :=
  (fun (s : State) => (fun (s : State) => { s with rot := {}, drill := {}, g := {}, plat := {}, flt := {}, coh := {}, host := { s.host with poison := [] }, hl := { s.hl with running := true }, seed := { state := .ready, records := 7, checkpointAt := 5 }, pwr := { s.pwr with aon := true, mode := .up, nandPause := false, perst := false, scrub := [] }, fc := { s.fc with packageFenced := false } } : State →
    State) ((s).setVal O.splitFtl 0)) State.reset
theorem wit_LotCommandsComplete_7 : (wst_LotCommandsComplete_7).nandPrograms = true :=
  by
    decide +kernel

/-! ### SeedbankUpkeepCompletes -/

def wst_SeedbankUpkeepCompletes_0 : State :=
  (fun (s : State) => (fun (s : State) => { s with rot := {}, drill := {}, g := {}, plat := {}, flt := {}, coh := {}, host := { s.host with poison := [] }, hl := { s.hl with running := true }, seed := { state := .ready, bands := [(6, { lot := 3, gen := some 8, cycles := 900 })] }, pwr := { s.pwr with aon := true, mode := .up, nandPause := false, perst := false, scrub := [] }, fc := { s.fc with packageFenced := false } } : State →
    State) ((s).setVal O.splitFtl 0)) State.reset
theorem wit_SeedbankUpkeepCompletes_0 : ∃ (k : Fin 15616) (r : BandRead) (b : Band), (wst_SeedbankUpkeepCompletes_0).Inv ∧
    kvFind (wst_SeedbankUpkeepCompletes_0).seed.bands k = some b ∧ (wst_SeedbankUpkeepCompletes_0).ftlUp = true ∧ r.lost = [] ∧ r.order = none ∧
    r.blocks = [] :=
  ⟨(6), ({ retries := 4, step := 2, age := 7, rebuilt := 1 }), ({ lot := 3, gen := some 8, cycles := 900 }), by
    unfold State.Inv PlotsWf Plot.Wf Rises
    decide +kernel⟩

def wst_SeedbankUpkeepCompletes_1 : State :=
  (fun (s : State) => (fun (s : State) => { s with rot := {}, drill := {}, g := {}, plat := {}, flt := {}, coh := {}, host := { s.host with poison := [] }, hl := { s.hl with running := true }, seed := { state := .ready, lostBands := 15600, bands := [(6, { lot := 3, gen := some 8, cycles := 900, rebuilt := true })] }, pwr := { s.pwr with aon := true, mode := .up, nandPause := false, perst := false, scrub := [] }, fc := { s.fc with packageFenced := false } } : State →
    State) ((s).setVal O.splitFtl 0)) State.reset
theorem wit_SeedbankUpkeepCompletes_1 : ∃ (k : Fin 15616) (b : Band) (j : Nat), (wst_SeedbankUpkeepCompletes_1).Inv ∧
    (wst_SeedbankUpkeepCompletes_1).nandPrograms = true ∧ (wst_SeedbankUpkeepCompletes_1).seed.bands = [(k.val, b)] ∧
    (wst_SeedbankUpkeepCompletes_1).needsRefresh b = true ∧ (wst_SeedbankUpkeepCompletes_1).freeBand true = some j :=
  ⟨(6), ({ lot := 3, gen := some 8, cycles := 900, rebuilt := true }), ((wst_SeedbankUpkeepCompletes_1.freeBand true).getD 0), by
    unfold State.Inv PlotsWf Plot.Wf Rises
    decide +kernel⟩

def wst_SeedbankUpkeepCompletes_2 : State :=
  (fun (s : State) => ((fun (s : State) => { s with rot := {}, drill := {}, g := {}, plat := {}, flt := {}, coh := {}, host := { s.host with poison := [] }, hl := { s.hl with running := true }, seed := { state := .ready, lostBands := 15600, bands := [(6, { lot := 3, gen := some 8, cycles := 900 })] }, pwr := { s.pwr with aon := true, mode := .up, nandPause := false, perst := false, scrub := [] }, fc := { s.fc with packageFenced := false } } : State →
    State) ((s).setVal O.splitFtl 0)).setVal O.wearSpread 100) State.reset
theorem wit_SeedbankUpkeepCompletes_2 : ∃ (k : Fin 15616) (b : Band) (j : Nat), (wst_SeedbankUpkeepCompletes_2).Inv ∧
    (wst_SeedbankUpkeepCompletes_2).nandPrograms = true ∧ (wst_SeedbankUpkeepCompletes_2).seed.bands = [(k.val, b)] ∧
    (wst_SeedbankUpkeepCompletes_2).val O.wearSpread < (wst_SeedbankUpkeepCompletes_2).peMax - (wst_SeedbankUpkeepCompletes_2).peMin ∧
    (wst_SeedbankUpkeepCompletes_2).freeBand false = some j :=
  ⟨(6), ({ lot := 3, gen := some 8, cycles := 900 }), ((wst_SeedbankUpkeepCompletes_2.freeBand false).getD 0), by
    unfold State.Inv PlotsWf Plot.Wf Rises
    decide +kernel⟩

def wst_SeedbankUpkeepCompletes_3 : State :=
  (fun (s : State) => (fun (s : State) => { s with rot := {}, drill := {}, g := {}, plat := {}, flt := {}, coh := {}, host := { s.host with poison := [] }, hl := { s.hl with running := true }, seed := { state := .ready, bad := [9] }, pwr := { s.pwr with aon := true, mode := .up, nandPause := false, perst := false, scrub := [] }, fc := { s.fc with packageFenced := false } } : State →
    State) ((s).setVal O.splitFtl 0)) State.reset
theorem wit_SeedbankUpkeepCompletes_3 : ∃ (b : Fin 131072) (_e : Bool), (wst_SeedbankUpkeepCompletes_3).Inv ∧
    (wst_SeedbankUpkeepCompletes_3).ftlUp = true ∧ (wst_SeedbankUpkeepCompletes_3).seed.bad.contains b = false ∧
    ((wst_SeedbankUpkeepCompletes_3).seed.bad.filter (fun x => x / 2048 == b.val / 2048)).length < 256 :=
  ⟨(5), (true), by
    unfold State.Inv PlotsWf Plot.Wf Rises
    decide +kernel⟩

def wst_SeedbankUpkeepCompletes_4 : State :=
  (fun (s : State) => (base21 ((s).setVal O.splitFtl 0)).setVal O.diesFailed 0) State.reset
theorem wit_SeedbankUpkeepCompletes_4 : ∃ (d : Fin 64), (wst_SeedbankUpkeepCompletes_4).Inv ∧ (wst_SeedbankUpkeepCompletes_4).seed.state = .ready ∧
    bit ((wst_SeedbankUpkeepCompletes_4).val O.diesFailed) d = false :=
  ⟨(5), by
    unfold State.Inv PlotsWf Plot.Wf Rises
    decide +kernel⟩

def wst_SeedbankUpkeepCompletes_5 : State :=
  (fun (s : State) => (fun (s : State) => { s with rot := {}, drill := {}, g := {}, plat := {}, flt := {}, coh := {}, host := { s.host with poison := [] }, hl := { s.hl with running := true }, seed := { state := .formatting }, pwr := { s.pwr with aon := true, mode := .up, nandPause := false, perst := false, scrub := [] }, fc := { s.fc with packageFenced := false } } : State →
    State) ((s).setVal O.splitFtl 0)) State.reset
theorem wit_SeedbankUpkeepCompletes_5 : (wst_SeedbankUpkeepCompletes_5).Inv ∧ (wst_SeedbankUpkeepCompletes_5).seed.state = .formatting :=
  by
    unfold State.Inv PlotsWf Plot.Wf Rises
    decide +kernel

def wst_SeedbankUpkeepCompletes_6 : State :=
  (fun (s : State) => base14 ((s).setVal O.splitFtl 0)) State.reset
theorem wit_SeedbankUpkeepCompletes_6 : (wst_SeedbankUpkeepCompletes_6).seed.state = .ready ∧ (wst_SeedbankUpkeepCompletes_6).rot.entries = [] ∧
    (wst_SeedbankUpkeepCompletes_6).seed.waiting = none ∧ (wst_SeedbankUpkeepCompletes_6).g.store = [] ∧
    (wst_SeedbankUpkeepCompletes_6).drill.rows = [] :=
  by
    decide +kernel

def wst_SeedbankUpkeepCompletes_7 : State :=
  (fun (s : State) => (fun (s : State) => { s with rot := {}, drill := {}, g := {}, plat := {}, flt := {}, coh := {}, host := { s.host with poison := [] }, hl := { s.hl with running := true }, seed := { state := .off, coolSince := some 6 }, pwr := { s.pwr with aon := true, mode := .up, nandPause := false, perst := false, scrub := [] }, fc := { s.fc with packageFenced := false } } : State →
    State) ((s).setVal O.splitFtl 0)) State.reset
theorem wit_SeedbankUpkeepCompletes_7 : ∃ (m : Nat), (wst_SeedbankUpkeepCompletes_7).seed.coolSince = some m ∧
    (wst_SeedbankUpkeepCompletes_7).seed.state = .off ∧ (wst_SeedbankUpkeepCompletes_7).hl.running = true ∧
    (wst_SeedbankUpkeepCompletes_7).seed.unformatted = false ∧ bit ((wst_SeedbankUpkeepCompletes_7).val O.splitFtl) 0 = false :=
  ⟨(6), by
    decide +kernel⟩

/-! ### SeedDescriptorsAndReapsComplete -/

def wst_SeedDescriptorsAndReapsComplete_0 : State :=
  (fun (s : State) => (base19 ((serve s).setVal O.splitFtl 0) |> fun (s : State) => { s with flt := {}, plat := {}, host := { s.host with tags := [] }, drill := {}, g := { store := [{ furrow := 3, seq := 4, state := .started, d := { opcode := 3, body := natLe 8 0x10000 ++ natLe 4 0x100 ++ natLe 1 0 ++ natLe 1 0 ++ natLe 2 1 ++ natLe 16 0 } }] } }).setRg (Rg.fctx 3 8) (2 ^ 21)) State.reset
theorem wit_SeedDescriptorsAndReapsComplete_0 : ∃ (n : Fin 4096) (q : Nat) (r : NandResult) (x : Slot), (wst_SeedDescriptorsAndReapsComplete_0).Inv ∧
    (wst_SeedDescriptorsAndReapsComplete_0).seedDesc n q 0 = some x ∧ (wst_SeedDescriptorsAndReapsComplete_0).seedTurn n q x.d = true ∧
    (wst_SeedDescriptorsAndReapsComplete_0).seedOpCheck x.d = 0 ∧ (wst_SeedDescriptorsAndReapsComplete_0).g.store = [x] ∧
    (wst_SeedDescriptorsAndReapsComplete_0).furBypass n = true ∧ (wst_SeedDescriptorsAndReapsComplete_0).mayRequest = true ∧ x.d.bspace = 0 ∧
    x.d.raw = false ∧ x.d.noRetry = false ∧ r.lost = [] :=
  ⟨(3), (4), ({ step := 3, bits := 4, retries := 2 }), ({ furrow := 3, seq := 4, state := .started, d := { opcode := 3, body := natLe 8 0x10000 ++ natLe 4 0x100 ++ natLe 1 0 ++ natLe 1 0 ++ natLe 2 1 ++ natLe 16 0 } }), by
    unfold State.Inv PlotsWf Plot.Wf Rises
    decide +kernel⟩

def wst_SeedDescriptorsAndReapsComplete_1 : State :=
  (fun (s : State) => (base19 ((serve s).setVal O.splitFtl 0) |> fun (s : State) => { s with flt := {}, plat := {}, host := { s.host with tags := [] }, drill := {}, g := { store := [{ furrow := 3, seq := 4, state := .started, d := { opcode := 3, body := natLe 8 0x10000 ++ natLe 4 0x100 ++ natLe 1 1 ++ natLe 1 0 ++ natLe 2 1 ++ natLe 16 0 } }] } }).setRg (Rg.fctx 3 8) (2 ^ 21)) State.reset
theorem wit_SeedDescriptorsAndReapsComplete_1 : ∃ (n : Fin 4096) (q : Nat) (r : NandResult) (x : Slot), (wst_SeedDescriptorsAndReapsComplete_1).Inv ∧
    (wst_SeedDescriptorsAndReapsComplete_1).seedDesc n q 1 = some x ∧ (wst_SeedDescriptorsAndReapsComplete_1).seedTurn n q x.d = true ∧
    (wst_SeedDescriptorsAndReapsComplete_1).seedOpCheck x.d = 0 ∧ (wst_SeedDescriptorsAndReapsComplete_1).g.store = [x] ∧
    (wst_SeedDescriptorsAndReapsComplete_1).pwr.nandPause = false ∧ (wst_SeedDescriptorsAndReapsComplete_1).furBypass n = true ∧
    (wst_SeedDescriptorsAndReapsComplete_1).mayRequest = true ∧ (wst_SeedDescriptorsAndReapsComplete_1).tagRoom false = true ∧
    (wst_SeedDescriptorsAndReapsComplete_1).freeTag.isSome = true ∧
    (wst_SeedDescriptorsAndReapsComplete_1).hopperFree (min (x.d.count * x.d.pageBytes * 4) (wst_SeedDescriptorsAndReapsComplete_1).maxRead) = true ∧
    x.d.bspace = 0 ∧ x.d.raw = false ∧ r.host.fail = none ∧ r.host.data.all (fun y => !y.2) = true :=
  ⟨(3), (4), ({ failed := true }), ({ furrow := 3, seq := 4, state := .started, d := { opcode := 3, body := natLe 8 0x10000 ++ natLe 4 0x100 ++ natLe 1 1 ++ natLe 1 0 ++ natLe 2 1 ++ natLe 16 0 } }), by
    unfold State.Inv PlotsWf Plot.Wf Rises
    decide +kernel⟩

def wst_SeedDescriptorsAndReapsComplete_2 : State :=
  (fun (s : State) => (base19 ((serve s).setVal O.splitFtl 0) |> fun (s : State) => { s with flt := {}, plat := {}, host := { s.host with tags := [] }, drill := {}, g := { store := [{ furrow := 3, seq := 4, state := .started, d := { opcode := 3, body := natLe 8 0x10000 ++ natLe 4 0x100 ++ natLe 1 2 ++ natLe 1 0 ++ natLe 2 1 ++ natLe 16 0 } }] } }).setRg (Rg.fctx 3 8) (2 ^ 21)) State.reset
theorem wit_SeedDescriptorsAndReapsComplete_2 : ∃ (n : Fin 4096) (q : Nat) (r : NandResult) (x : Slot),
    (wst_SeedDescriptorsAndReapsComplete_2).seedDesc n q 2 = some x ∧ (wst_SeedDescriptorsAndReapsComplete_2).seedTurn n q x.d = true ∧
    (wst_SeedDescriptorsAndReapsComplete_2).seedOpCheck x.d = 0 ∧ (wst_SeedDescriptorsAndReapsComplete_2).g.store = [x] ∧
    (wst_SeedDescriptorsAndReapsComplete_2).pwr.nandPause = false ∧ r.failed = false :=
  ⟨(3), (4), ({}), ({ furrow := 3, seq := 4, state := .started, d := { opcode := 3, body := natLe 8 0x10000 ++ natLe 4 0x100 ++ natLe 1 2 ++ natLe 1 0 ++ natLe 2 1 ++ natLe 16 0 } }), by
    decide +kernel⟩

def wst_SeedDescriptorsAndReapsComplete_3 : State :=
  (fun (s : State) => (base19 ((serve s).setVal O.splitFtl 0) |> fun (s : State) => { s with flt := {}, plat := {}, host := { s.host with tags := [] }, drill := {}, g := { store := [{ furrow := 3, seq := 4, state := .started, d := { opcode := 3, body := natLe 8 0x10000 ++ natLe 4 0x100 ++ natLe 1 3 ++ natLe 1 0 ++ natLe 2 1 ++ natLe 16 0 } }] } }).setRg (Rg.fctx 3 8) (2 ^ 21)) State.reset
theorem wit_SeedDescriptorsAndReapsComplete_3 : ∃ (n : Fin 4096) (q : Nat) (_r : NandResult) (x : Slot),
    (wst_SeedDescriptorsAndReapsComplete_3).seedDesc n q 3 = some x ∧ (wst_SeedDescriptorsAndReapsComplete_3).seedTurn n q x.d = true ∧
    (wst_SeedDescriptorsAndReapsComplete_3).seedOpCheck x.d = 0 ∧ (wst_SeedDescriptorsAndReapsComplete_3).g.store = [x] :=
  ⟨(3), (4), ({}), ({ furrow := 3, seq := 4, state := .started, d := { opcode := 3, body := natLe 8 0x10000 ++ natLe 4 0x100 ++ natLe 1 3 ++ natLe 1 0 ++ natLe 2 1 ++ natLe 16 0 } }), by
    decide +kernel⟩

def wst_SeedDescriptorsAndReapsComplete_4 : State :=
  (fun (s : State) => (((base18 (base13 ((s).setVal O.splitFtl 0))).setRg (Rg.pctx 1 0) (2 ^ 63 + 2 ^ 25 + 5)).setRg (Rg.pctx 1 0x10) (0x10000 + 20)) |> fun (s : State) => (((s.setVal O.rotPool (16 * 2 ^ 16 + 100)).setVal O.rotRun 1).setVal O.residentMax 4).setVal O.splitRotation 0) State.reset
theorem wit_SeedDescriptorsAndReapsComplete_4 : ∃ (e : RotEntry), (wst_SeedDescriptorsAndReapsComplete_4).reapRuns = true ∧
    (wst_SeedDescriptorsAndReapsComplete_4).rot.entries = [e] ∧ e.state = .sown ∧ e.keep = false ∧
    ((wst_SeedDescriptorsAndReapsComplete_4).lot e.lot).nextGen ≤ 0xFFFFFFFE ∧ (wst_SeedDescriptorsAndReapsComplete_4).seed.state = .ready ∧
    ((wst_SeedDescriptorsAndReapsComplete_4).acreTableGo ((wst_SeedDescriptorsAndReapsComplete_4).lot e.lot) true).2 = true ∧
    (wst_SeedDescriptorsAndReapsComplete_4).plat.atsHeld = [] ∧ (wst_SeedDescriptorsAndReapsComplete_4).plat.ownHeld = [] ∧
    (wst_SeedDescriptorsAndReapsComplete_4).ownQueued < 8 ∧ (wst_SeedDescriptorsAndReapsComplete_4).nextReap = some e :=
  ⟨({ ticket := 1, raw := [], lot := 3, flags := 1, gen := 0xFFFFFFFF, sownStake := 0, reapedStake := 0, doneStake := 0, doneValue := 0, trainLimit := 60, state := .sown, acres := [100], held := true }), by
    decide +kernel⟩

def wst_SeedDescriptorsAndReapsComplete_5 : State :=
  (fun (s : State) => (((base18 (base13 ((s).setVal O.splitFtl 0))).setRg (Rg.pctx 1 0) (2 ^ 63 + 2 ^ 25 + 5)).setRg (Rg.pctx 1 0x10) (0x10000 + 20)) |> fun (s : State) => (((s.setVal O.rotPool (16 * 2 ^ 16 + 100)).setVal O.rotRun 1).setVal O.residentMax 4).setVal O.splitRotation 0) State.reset
theorem wit_SeedDescriptorsAndReapsComplete_5 : ∃ (k : Word32) (e : RotEntry), (wst_SeedDescriptorsAndReapsComplete_5).reapRuns = true ∧
    (wst_SeedDescriptorsAndReapsComplete_5).rot.entries = [e] ∧ e.state = .sown ∧ e.keep = false ∧
    ((wst_SeedDescriptorsAndReapsComplete_5).lot e.lot).nextGen ≤ 0xFFFFFFFE ∧ (wst_SeedDescriptorsAndReapsComplete_5).seed.state = .ready ∧
    ((wst_SeedDescriptorsAndReapsComplete_5).acreTableGo ((wst_SeedDescriptorsAndReapsComplete_5).lot e.lot) true).2 = true ∧
    (wst_SeedDescriptorsAndReapsComplete_5).plat.atsHeld = [] ∧ (wst_SeedDescriptorsAndReapsComplete_5).plat.ownHeld = [] ∧
    (wst_SeedDescriptorsAndReapsComplete_5).ownQueued < 8 ∧ (wst_SeedDescriptorsAndReapsComplete_5).hl.running = true ∧ e.ticket = k.toNat :=
  ⟨(1), ({ ticket := 1, raw := [], lot := 3, flags := 1, gen := 0xFFFFFFFF, sownStake := 0, reapedStake := 0, doneStake := 0, doneValue := 0, trainLimit := 60, state := .sown, acres := [100], held := true }), by
    decide +kernel⟩

def wst_SeedDescriptorsAndReapsComplete_6 : State :=
  (fun (s : State) => base49 (((((fun (s : State) => { s with rot := { entries := [{ ticket := 1, raw := [], lot := 3, flags := 1, gen := 0xFFFFFFFF, sownStake := 0, reapedStake := 0, doneStake := 0, doneValue := 0, trainLimit := 60, state := .reaping, step := 2, acres := [100], held := true }] }, hbm := [], reg := s.reg.filter (fun c => c.1 < 0x280000 || 0x300000 ≤ c.1), dict := {}, fw := {}, mir := {} } : State →
    State) ((fun (s : State) => { s with rot := {}, drill := {}, g := {}, plat := {}, flt := {}, coh := {}, host := { s.host with poison := [] }, hl := { s.hl with running := true }, seed := { state := .ready, lots := [(3, { state := .rotating, pasid := 5, size := 1, dlvBase := 4, rights := 7, key := 2, gens := [{ num := 8, base := none, data := [(5, 7)] }], draft := some { prior := .rotating, base := some 8 } })] }, pwr := { s.pwr with aon := true, mode := .up, nandPause := false, perst := false, scrub := [] }, fc := { s.fc with packageFenced := false } } : State →
    State) ((s).setVal O.splitFtl 0))).setRg (Rg.pctx 1 0) (2 ^ 63 + 2 ^ 25 + 5)).setRg (Rg.pctx 1 0x10) (0x10000 + 20)) |> fun (s : State) => (((s.setVal O.rotPool (16 * 2 ^ 16 + 100)).setVal O.rotRun 1).setVal O.residentMax 4).setVal O.splitRotation 0)) State.reset
theorem wit_SeedDescriptorsAndReapsComplete_6 : ∃ (e : RotEntry) (a : Nat) (l : Lot) (d : Draft), (wst_SeedDescriptorsAndReapsComplete_6).Inv ∧
    (wst_SeedDescriptorsAndReapsComplete_6).nandPrograms = true ∧ (wst_SeedDescriptorsAndReapsComplete_6).seed.state = .ready ∧
    (wst_SeedDescriptorsAndReapsComplete_6).rot.entries = [e] ∧ e.state = .reaping ∧ e.step = 2 ∧ e.acres = [a] ∧ e.keep = false ∧ e.reapSig = false ∧
    l = (wst_SeedDescriptorsAndReapsComplete_6).lot e.lot ∧ l.draft = some d ∧ l.state = .rotating ∧ l.nextGen ≤ 0xFFFFFFFE ∧
    (wst_SeedDescriptorsAndReapsComplete_6).host.poison = [] ∧ (wst_SeedDescriptorsAndReapsComplete_6).coh.snoopFilter = [] ∧
    (wst_SeedDescriptorsAndReapsComplete_6).pwr.scrub = [] ∧ (wst_SeedDescriptorsAndReapsComplete_6).coh.scrubbing = [] :=
  ⟨({ ticket := 1, raw := [], lot := 3, flags := 1, gen := 0xFFFFFFFF, sownStake := 0, reapedStake := 0, doneStake := 0, doneValue := 0, trainLimit := 60, state := .reaping, step := 2, acres := [100], held := true }), (100), (wst_SeedDescriptorsAndReapsComplete_6.lot 3), ({ prior := .rotating, base := some 8 }), by
    unfold State.Inv PlotsWf Plot.Wf Rises
    decide +kernel⟩

def wst_SeedDescriptorsAndReapsComplete_7 : State :=
  (fun (s : State) => (((base18 (base13 ((s).setVal O.splitFtl 0))).setRg (Rg.pctx 1 0) (2 ^ 63 + 2 ^ 25 + 5)).setRg (Rg.pctx 1 0x10) (0x10000 + 20)) |> fun (s : State) => (((s.setVal O.rotPool (16 * 2 ^ 16 + 100)).setVal O.rotRun 1).setVal O.residentMax 4).setVal O.splitRotation 0) State.reset
theorem wit_SeedDescriptorsAndReapsComplete_7 : ∃ (k : Word32) (e : RotEntry), (wst_SeedDescriptorsAndReapsComplete_7).Inv ∧
    (wst_SeedDescriptorsAndReapsComplete_7).rot.entries = [e] ∧ e.ticket = k.toNat ∧ e.state = .sown ∧ e.limitPassed = false ∧ e.trainLimit ≠ 0 :=
  ⟨(1), ({ ticket := 1, raw := [], lot := 3, flags := 1, gen := 0xFFFFFFFF, sownStake := 0, reapedStake := 0, doneStake := 0, doneValue := 0, trainLimit := 60, state := .sown, acres := [100], held := true }), by
    unfold State.Inv PlotsWf Plot.Wf Rises
    decide +kernel⟩

/-! ### RotationSowsComplete -/

def wst_RotationSowsComplete_0 : State :=
  (fun (s : State) => firm ((((base36 (base14 ((s).setVal O.splitFtl 0))).setRg (Rg.pctx 1 0) (2 ^ 63 + 2 ^ 25 + 5)).setRg (Rg.pctx 1 0x10) (0x10000 + 20)) |> fun (s : State) => (((s.setVal O.rotPool (16 * 2 ^ 16 + 100)).setVal O.rotRun 1).setVal O.residentMax 4).setVal O.splitRotation 0)) State.reset
theorem wit_RotationSowsComplete_0 : ∃ (r : Route) (b : List Byte) (l : Lot), (wst_RotationSowsComplete_0).served r 0x620003 = true ∧ b.length = 32 ∧
    (wst_RotationSowsComplete_0).seed.state = .ready ∧
    (wst_RotationSowsComplete_0).rotEntryBad (parseEntry (wst_RotationSowsComplete_0).rot.next b) = false ∧
    bit ((wst_RotationSowsComplete_0).val O.splitFtl) 0 = false ∧
    l = (wst_RotationSowsComplete_0).lot (parseEntry (wst_RotationSowsComplete_0).rot.next b).lot ∧ l.state = .ready ∧
    (wst_RotationSowsComplete_0).seed.waiting = none ∧ (wst_RotationSowsComplete_0).rot.entries.length < 256 :=
  ⟨(.F), (natLe 2 3 ++ natLe 2 0 ++ natLe 4 0xFFFFFFFF ++ natLe 24 0), (wst_RotationSowsComplete_0.lot 3), by
    decide +kernel⟩

def wst_RotationSowsComplete_1 : State :=
  (fun (s : State) => (((base24 (base13 ((s).setVal O.splitFtl 0))).setRg (Rg.pctx 1 0) (2 ^ 63 + 2 ^ 25 + 5)).setRg (Rg.pctx 1 0x10) (0x10000 + 20)) |> fun (s : State) => (((s.setVal O.rotPool (16 * 2 ^ 16 + 100)).setVal O.rotRun 1).setVal O.residentMax 4).setVal O.splitRotation 0) State.reset
theorem wit_RotationSowsComplete_1 : ∃ (e : RotEntry), (wst_RotationSowsComplete_1).rotRuns = true ∧ (wst_RotationSowsComplete_1).rot.entries = [e] ∧
    e.state = .queued ∧ ((wst_RotationSowsComplete_1).hlWork.sowCheck e).2 = 0 ∧
    ((wst_RotationSowsComplete_1).lot e.lot).size ≤ (wst_RotationSowsComplete_1).acresFree.length ∧ (wst_RotationSowsComplete_1).pwr.scrub = [] ∧
    ((wst_RotationSowsComplete_1).acreTableGo ((wst_RotationSowsComplete_1).lot e.lot) false).2 = true ∧
    (wst_RotationSowsComplete_1).nextSow = some e :=
  ⟨({ ticket := 1, raw := [], lot := 3, flags := 1, gen := 0xFFFFFFFF, sownStake := 0, reapedStake := 0, doneStake := 0, doneValue := 0, trainLimit := 60 }), by
    decide +kernel⟩

def wst_RotationSowsComplete_2 : State :=
  (fun (s : State) => (((base24 (base13 ((s).setVal O.splitFtl 0))).setRg (Rg.pctx 1 0) (2 ^ 63 + 2 ^ 25 + 5)).setRg (Rg.pctx 1 0x10) (0x10000 + 20)) |> fun (s : State) => (((s.setVal O.rotPool (16 * 2 ^ 16 + 100)).setVal O.rotRun 1).setVal O.residentMax 4).setVal O.splitRotation 1) State.reset
theorem wit_RotationSowsComplete_2 : ∃ (k : Word32) (e : RotEntry), (wst_RotationSowsComplete_2).rotRuns = true ∧
    (wst_RotationSowsComplete_2).rot.entries = [e] ∧ e.state = .queued ∧ ((wst_RotationSowsComplete_2).hlWork.sowCheck e).2 = 0 ∧
    ((wst_RotationSowsComplete_2).lot e.lot).size ≤ (wst_RotationSowsComplete_2).acresFree.length ∧ (wst_RotationSowsComplete_2).pwr.scrub = [] ∧
    ((wst_RotationSowsComplete_2).acreTableGo ((wst_RotationSowsComplete_2).lot e.lot) false).2 = true ∧
    (wst_RotationSowsComplete_2).hl.running = true ∧ (wst_RotationSowsComplete_2).val O.splitRotation = 1 ∧ e.ticket = k.toNat :=
  ⟨(1), ({ ticket := 1, raw := [], lot := 3, flags := 1, gen := 0xFFFFFFFF, sownStake := 0, reapedStake := 0, doneStake := 0, doneValue := 0, trainLimit := 60 }), by
    decide +kernel⟩

def wst_RotationSowsComplete_3 : State :=
  (fun (s : State) => base49 (((((fun (s : State) => { s with rot := { entries := [{ ticket := 1, raw := [], lot := 3, flags := 1, gen := 0xFFFFFFFF, sownStake := 0, reapedStake := 0, doneStake := 0, doneValue := 0, trainLimit := 60, state := .sowing, step := 3, acres := [100] }] }, hbm := [], reg := s.reg.filter (fun c => c.1 < 0x280000 || 0x300000 ≤ c.1), dict := {}, fw := {}, mir := {} } : State →
    State) (base13 ((s).setVal O.splitFtl 0))).setRg (Rg.pctx 1 0) (2 ^ 63 + 2 ^ 25 + 5)).setRg (Rg.pctx 1 0x10) (0x10000 + 20)) |> fun (s : State) => (((s.setVal O.rotPool (16 * 2 ^ 16 + 100)).setVal O.rotRun 1).setVal O.residentMax 4).setVal O.splitRotation 0)) State.reset
theorem wit_RotationSowsComplete_3 : ∃ (e : RotEntry) (a c : Nat) (l : Lot), (wst_RotationSowsComplete_3).Inv ∧
    (wst_RotationSowsComplete_3).ftlUp = true ∧ (wst_RotationSowsComplete_3).rot.entries = [e] ∧ e.state = .sowing ∧ e.step = 3 ∧ e.acres = [a] ∧
    e.gen = noGen ∧ l = (wst_RotationSowsComplete_3).lot e.lot ∧ l.size = 1 ∧ l.rights < 8 ∧ a < 6144 ∧
    (wst_RotationSowsComplete_3).ctxOf l.pasid = some c ∧ (wst_RotationSowsComplete_3).coh.snoopFilter = [] ∧
    (wst_RotationSowsComplete_3).pwr.scrub = [] ∧ (wst_RotationSowsComplete_3).coh.scrubbing = [] ∧
    (wst_RotationSowsComplete_3).acreEntryAt c l.dlvBase / acreBytes ≠ a ∧ (wst_RotationSowsComplete_3).plat.atsHeld = [] ∧
    (wst_RotationSowsComplete_3).plat.ownHeld = [] ∧ (wst_RotationSowsComplete_3).ownQueued < 8 :=
  ⟨({ ticket := 1, raw := [], lot := 3, flags := 1, gen := 0xFFFFFFFF, sownStake := 0, reapedStake := 0, doneStake := 0, doneValue := 0, trainLimit := 60, state := .sowing, step := 3, acres := [100] }), (100), (1), (wst_RotationSowsComplete_3.lot 3), by
    unfold State.Inv PlotsWf Plot.Wf Rises
    decide +kernel⟩

def wst_RotationSowsComplete_4 : State :=
  (fun (s : State) => (fun (s : State) => { s with plat := { executing := some { ticket := none, headland := true, kind := 1, space := 1, pasid := 5, start := 0, length := 0x4000000, own := .sow 1 } } } : State →
    State) (((((fun (s : State) => { s with rot := { entries := [{ ticket := 1, raw := [], lot := 3, flags := 1, gen := 0xFFFFFFFF, sownStake := 0, reapedStake := 0, doneStake := 0, doneValue := 0, trainLimit := 60, state := .sowing, step := 5, acres := [100] }] }, hbm := [], reg := s.reg.filter (fun c => c.1 < 0x280000 || 0x300000 ≤ c.1), dict := {}, fw := {}, mir := {} } : State →
    State) (base13 ((s).setVal O.splitFtl 0))).setRg (Rg.pctx 1 0) (2 ^ 63 + 2 ^ 25 + 5)).setRg (Rg.pctx 1 0x10) (0x10000 + 20)) |> fun (s : State) => (((s.setVal O.rotPool (16 * 2 ^ 16 + 100)).setVal O.rotRun 1).setVal O.residentMax 4).setVal O.splitRotation 0)) State.reset
theorem wit_RotationSowsComplete_4 : ∃ (c : PlatCmd) (e : RotEntry), (wst_RotationSowsComplete_4).Inv ∧
    (wst_RotationSowsComplete_4).plat.executing = some c ∧ (wst_RotationSowsComplete_4).plat.acks = 0 ∧ c.modeSwitch = false ∧ c.kind = 1 ∧
    c.ats = none ∧ c.ticket = none ∧ c.headland = true ∧ c.own = .sow e.ticket ∧ (wst_RotationSowsComplete_4).rot.entries = [e] ∧ e.state = .sowing ∧
    e.step = 5 ∧ e.gen = noGen ∧ e.sowSig = false ∧ (wst_RotationSowsComplete_4).flt.entries = [] ∧ (wst_RotationSowsComplete_4).plat.atsHeld = [] :=
  ⟨({ ticket := none, headland := true, kind := 1, space := 1, pasid := 5, start := 0, length := 0x4000000, own := .sow 1 }), ({ ticket := 1, raw := [], lot := 3, flags := 1, gen := 0xFFFFFFFF, sownStake := 0, reapedStake := 0, doneStake := 0, doneValue := 0, trainLimit := 60, state := .sowing, step := 5, acres := [100] }), by
    unfold State.Inv PlotsWf Plot.Wf Rises
    decide +kernel⟩

def wst_RotationSowsComplete_5 : State :=
  (fun (s : State) => (((base24 (base13 ((s).setVal O.splitFtl 0))).setRg (Rg.pctx 1 0) (2 ^ 63 + 2 ^ 25 + 5)).setRg (Rg.pctx 1 0x10) (0x10000 + 20)) |> fun (s : State) => (((s.setVal O.rotPool (16 * 2 ^ 16 + 100)).setVal O.rotRun 1).setVal O.residentMax 4).setVal O.splitRotation 0) State.reset
theorem wit_RotationSowsComplete_5 : ∃ (k : Word32) (e : RotEntry) (l : Lot), (wst_RotationSowsComplete_5).Inv ∧
    (wst_RotationSowsComplete_5).hl.running = true ∧ (wst_RotationSowsComplete_5).seed.state = .ready ∧
    (wst_RotationSowsComplete_5).rot.entries = [e] ∧ e.ticket = k.toNat ∧ e.state = .queued ∧ e.acres = [] ∧
    l = (wst_RotationSowsComplete_5).lot e.lot ∧ l.state = .rotating :=
  ⟨(1), ({ ticket := 1, raw := [], lot := 3, flags := 1, gen := 0xFFFFFFFF, sownStake := 0, reapedStake := 0, doneStake := 0, doneValue := 0, trainLimit := 60 }), (wst_RotationSowsComplete_5.lot 3), by
    unfold State.Inv PlotsWf Plot.Wf Rises
    decide +kernel⟩

def wst_RotationSowsComplete_6 : State :=
  (fun (s : State) => ((((base36 (base13 ((s).setVal O.splitFtl 0))).setRg (Rg.pctx 1 0) (2 ^ 63 + 2 ^ 25 + 5)).setRg (Rg.pctx 1 0x10) (0x10000 + 20)) |> fun (s : State) => (((s.setVal O.rotPool (16 * 2 ^ 16 + 100)).setVal O.rotRun 1).setVal O.residentMax 4).setVal O.splitRotation 0).setRg Rg.migPool 0) State.reset
theorem wit_RotationSowsComplete_6 : ∃ (v : Word32), (wst_RotationSowsComplete_6).Inv ∧ (wst_RotationSowsComplete_6).hl.running = true ∧
    (wst_RotationSowsComplete_6).seed.state = .ready ∧ (wst_RotationSowsComplete_6).rotPoolBad v.toNat = false ∧
    (wst_RotationSowsComplete_6).acresOwned = [] :=
  ⟨(0x00100064), by
    unfold State.Inv PlotsWf Plot.Wf Rises
    decide +kernel⟩

def wst_RotationSowsComplete_7 : State :=
  (fun (s : State) => ((((fun (s : State) => { s with rot := { entries := [], quarantined := true }, hbm := [], reg := s.reg.filter (fun c => c.1 < 0x280000 || 0x300000 ≤ c.1), dict := {}, fw := {}, mir := {} } : State →
    State) (base13 ((s).setVal O.splitFtl 0))).setRg (Rg.pctx 1 0) (2 ^ 63 + 2 ^ 25 + 5)).setRg (Rg.pctx 1 0x10) (0x10000 + 20)) |> fun (s : State) => (((s.setVal O.rotPool (16 * 2 ^ 16 + 100)).setVal O.rotRun 1).setVal O.residentMax 4).setVal O.splitRotation 0) State.reset
theorem wit_RotationSowsComplete_7 : (wst_RotationSowsComplete_7).hl.running = true ∧ (wst_RotationSowsComplete_7).seed.state = .ready :=
  by
    decide +kernel

/-! ### EventsRegister -/

def wst_EventsRegister_0 : State :=
  (fun (s : State) => ((fun (s : State) => { s with fc := { ring := [{ source := 0x142 }] }, slice := {}, mgr := {}, plots := [], g := {}, drill := {}, fab := {}, rot := {}, seed := {}, plat := {}, flt := {}, coh := {}, time := {}, hl := { s.hl with running := true }, dict := {}, mir := {}, fw := {}, pwr := { s.pwr with aon := true, mode := .up, plotHeldOff := 0 } } : State →
    State) (serve (s))).setVal ((0x7100 + 0x142) * 256 + 6) (2 ^ 5 + 2 ^ 16 + 2 ^ 32)) State.reset
theorem wit_EventsRegister_0 : ∃ (n : Nat) (i : SrcInfo) (e : Event) (es : List Event), (wst_EventsRegister_0).Inv ∧
    (wst_EventsRegister_0).pwr.aon = true ∧ (wst_EventsRegister_0).fc.ring = e :: es ∧ e.source = n ∧ srcInfo n = some i ∧ i.level = false ∧
    (wst_EventsRegister_0).classInForce n ((wst_EventsRegister_0).src n).escalated = 0 ∧ (wst_EventsRegister_0).srcEscCount n = 0 ∧
    (wst_EventsRegister_0).srcRecord n = true ∧ (wst_EventsRegister_0).fc.staging = [] :=
  ⟨(0x142), ((srcInfo 0x142).getD { cls := 0 }), ({ source := 0x142 }), ([]), by
    unfold State.Inv PlotsWf Plot.Wf Rises
    decide +kernel⟩

def wst_EventsRegister_1 : State :=
  (fun (s : State) => (base25 (serve (s))).setVal ((0x7100 + 0x142) * 256 + 6) (2 ^ 5 + 2 ^ 16 + 2 ^ 32)) State.reset
theorem wit_EventsRegister_1 : ∃ (n : Nat) (i : SrcInfo) (a : EvArg), (wst_EventsRegister_1).Inv ∧ (wst_EventsRegister_1).pwr.aon = true ∧
    a.source = n ∧ 0x140 ≤ n ∧ n < 0x170 ∧ srcInfo n = some i ∧ i.level = false ∧
    (wst_EventsRegister_1).classInForce n ((wst_EventsRegister_1).src n).escalated = 0 ∧ (wst_EventsRegister_1).srcEscCount n = 0 ∧
    (wst_EventsRegister_1).srcRecord n = true ∧ (wst_EventsRegister_1).fc.staging = [] :=
  ⟨(0x142), ((srcInfo 0x142).getD { cls := 0 }), ({ source := 0x142 }), by
    unfold State.Inv PlotsWf Plot.Wf Rises
    decide +kernel⟩

def wst_EventsRegister_2 : State :=
  (fun (s : State) => ({ (base17 (serve (s))) with plots := [(3, { state := .idle })], now := 10 ^ 9 } : State).setVal O.forceRail 0) State.reset
theorem wit_EventsRegister_2 : ∃ (d : Fin 19) (f : Bool) (m : Nat), (wst_EventsRegister_2).Inv ∧ (wst_EventsRegister_2).pwr.aon = true ∧
    (wst_EventsRegister_2).railDieOn d = true ∧ kvFind (wst_EventsRegister_2).fc.railOn d = some m ∧ m + 10000 ≤ (wst_EventsRegister_2).now ∧
    bit ((wst_EventsRegister_2).val O.forceRail) (2 * d + b2n f) = false :=
  ⟨(3), (true), (5), by
    unfold State.Inv PlotsWf Plot.Wf Rises
    decide +kernel⟩

def wst_EventsRegister_3 : State :=
  (fun (s : State) => ({ ((fun (s : State) => { s with fc := { railOn := [(3, 5), (17, 5)] }, slice := {}, mgr := {}, plots := [], g := {}, drill := {}, fab := {}, rot := {}, seed := {}, plat := {}, flt := {}, coh := {}, time := {}, hl := { s.hl with running := true }, dict := {}, mir := {}, fw := {}, pwr := { s.pwr with aon := true, mode := .up, plotHeldOff := 0 } } : State → State) (serve (s))) with plots := [(3, { state := .idle })], now := 10 ^ 9 } : State).setVal O.forceRail 0) State.reset
theorem wit_EventsRegister_3 : ∃ (d : Fin 19) (f _x : Bool) (m : Nat), (wst_EventsRegister_3).pwr.aon = true ∧
    (wst_EventsRegister_3).railDieOn d = true ∧ kvFind (wst_EventsRegister_3).fc.railOn d = some m ∧ m + 10000 ≤ (wst_EventsRegister_3).now ∧
    bit ((wst_EventsRegister_3).val O.forceRail) (2 * d + b2n f) = false ∧ bit (wst_EventsRegister_3).fc.railAgreed (2 * d + b2n f) = false :=
  ⟨(3), (true), (true), (5), by
    decide +kernel⟩

def wst_EventsRegister_4 : State :=
  (fun (s : State) => ((({ (base17 (serve (s))) with plots := [(3, { state := .idle })], now := 10 ^ 9 } : State).setVal O.forceRail 0).setVal ((0x7100 + 0xD6) * 256 + 6) (2 ^ 16 + 2 ^ 32)).setVal ((0x7100 + 0xF2) * 256 + 6) (2 ^ 16 + 2 ^ 32)) State.reset
theorem wit_EventsRegister_4 : ∃ (d : Fin 19) (_x : Bool) (m : Nat) (n : Nat), (wst_EventsRegister_4).Inv ∧ (wst_EventsRegister_4).pwr.aon = true ∧
    (wst_EventsRegister_4).railDieOn d = true ∧ kvFind (wst_EventsRegister_4).fc.railOn d = some m ∧ m + 10000 ≤ (wst_EventsRegister_4).now ∧
    bit ((wst_EventsRegister_4).val O.forceRail) (2 * d + b2n false) = false ∧ bit (wst_EventsRegister_4).fc.railAgreed (2 * d) = true ∧
    bit (wst_EventsRegister_4).fc.railFault (2 * d) = false ∧ n = 0xD0 + 2 * d.val ∧ ((wst_EventsRegister_4).src n).cond = false ∧
    ((wst_EventsRegister_4).src n).forcedCond = false ∧ (wst_EventsRegister_4).classInForce n ((wst_EventsRegister_4).src n).escalated = 0 ∧
    (wst_EventsRegister_4).srcEscCount n = 0 :=
  ⟨(3), (true), (5), (0xD6), by
    unfold State.Inv PlotsWf Plot.Wf Rises
    decide +kernel⟩

def wst_EventsRegister_5 : State :=
  (fun (s : State) => { (((((fun (s : State) => { s with fc := { fatalSeen := [(16, 5)], packageFenced := true }, slice := {}, mgr := {}, plots := [], g := {}, drill := {}, fab := {}, rot := {}, seed := {}, plat := {}, flt := {}, coh := {}, time := {}, hl := { s.hl with running := true }, dict := {}, mir := {}, fw := {}, pwr := { s.pwr with aon := true, mode := .up, plotHeldOff := 0 } } : State → State) (serve (s))).setVal ((0x7100 + 0x27F) * 256 + 6) 2).setVal ((0x7100 + 0x3FF) * 256 + 6) 2).setVal ((0x7100 + 0x7FF) * 256 + 6) 2) with fab := { dieReset := [0, 1] } }) State.reset
theorem wit_EventsRegister_5 : ∃ (d : Fin 19) (m n : Nat), (wst_EventsRegister_5).Inv ∧ (wst_EventsRegister_5).fc.fatalSeen = [(d.val, m)] ∧
    n = (if d.val < 16 then Sc.plot d 0x3F else if d.val = 16 then Sc.gateFatalUnspec else Sc.tram (d - 17) 0x3F) ∧
    (wst_EventsRegister_5).slice.state = .none ∧ (wst_EventsRegister_5).fc.packageFenced = true ∧ ((d.val < 16 →
    ((wst_EventsRegister_5).plot d).busy = false)) ∧ ((17 ≤ d.val → (wst_EventsRegister_5).fab.dieReset.contains (d - 17) = true)) ∧
    (wst_EventsRegister_5).srcRecord n = false :=
  ⟨(16), (5), (0x27F), by
    unfold State.Inv PlotsWf Plot.Wf Rises
    decide +kernel⟩

def wst_EventsRegister_6 : State :=
  (fun (s : State) => (fun (s : State) => { s with fc := { srcs := [(0x142, { sticky := true, window := some (7, 2) })] }, slice := {}, mgr := {}, plots := [], g := {}, drill := {}, fab := {}, rot := {}, seed := {}, plat := {}, flt := {}, coh := {}, time := {}, hl := { s.hl with running := true }, dict := {}, mir := {}, fw := {}, pwr := { s.pwr with aon := true, mode := .up, plotHeldOff := 0 } } : State →
    State) (serve (s))) State.reset
theorem wit_EventsRegister_6 : ∃ (n : Fin 2048) (a b : Nat), (wst_EventsRegister_6).Inv ∧ ((wst_EventsRegister_6).src n).window = some (a, b) :=
  ⟨(0x142), (7), (2), by
    unfold State.Inv PlotsWf Plot.Wf Rises
    decide +kernel⟩

def wst_EventsRegister_7 : State :=
  (fun (s : State) => (fun (s : State) => { s with fc := { srcs := [(0x142, { sticky := true, live := true, quietFrom := some (7, true) })] }, slice := {}, mgr := {}, plots := [], g := {}, drill := {}, fab := {}, rot := {}, seed := {}, plat := {}, flt := {}, coh := {}, time := {}, hl := { s.hl with running := true }, dict := {}, mir := {}, fw := {}, pwr := { s.pwr with aon := true, mode := .up, plotHeldOff := 0 } } : State →
    State) (serve (s))) State.reset
theorem wit_EventsRegister_7 : ∃ (n : Fin 2048) (a : Nat) (b : Bool), (wst_EventsRegister_7).Inv ∧ ((wst_EventsRegister_7).src n).quietFrom = some (a,
    b) :=
  ⟨(0x142), (7), (true), by
    unfold State.Inv PlotsWf Plot.Wf Rises
    decide +kernel⟩

def wst_EventsRegister_8 : State :=
  (fun (s : State) => (fun (s : State) => { s with pwr := { s.pwr with shed := false } } : State →
    State) ((fun (s : State) => { s with fc := { srcs := [(2, { sticky := true, live := true, cond := true })] }, slice := {}, mgr := {}, plots := [], g := {}, drill := {}, fab := {}, rot := {}, seed := {}, plat := {}, flt := {}, coh := {}, time := {}, hl := { s.hl with running := true }, dict := {}, mir := {}, fw := {}, pwr := { s.pwr with aon := true, mode := .up, plotHeldOff := 0 } } : State →
    State) (serve (s)))) State.reset
theorem wit_EventsRegister_8 : ∃ (n : Fin 2048) (i : SrcInfo), (wst_EventsRegister_8).Inv ∧ srcInfo n = some i ∧ i.level = true ∧ i.byReset = false ∧
    ((wst_EventsRegister_8).src n).cond = true ∧ ((wst_EventsRegister_8).src n).forcedCond = false ∧ (wst_EventsRegister_8).condHolds n = false :=
  ⟨(2), ((srcInfo 2).getD { cls := 0 }), by
    unfold State.Inv PlotsWf Plot.Wf Rises
    decide +kernel⟩

def wst_EventsRegister_9 : State :=
  (fun (s : State) => (fun (s : State) => { s with fc := { srcs := [(0x142, { sticky := true, live := true, events := 4 })] }, slice := {}, mgr := {}, plots := [], g := {}, drill := {}, fab := {}, rot := {}, seed := {}, plat := {}, flt := {}, coh := {}, time := {}, hl := { s.hl with running := true }, dict := {}, mir := {}, fw := {}, pwr := { s.pwr with aon := true, mode := .up, plotHeldOff := 0 } } : State →
    State) (serve (s))) State.reset
theorem wit_EventsRegister_9 : ∃ (_n : Fin 2048), (wst_EventsRegister_9).Inv :=
  ⟨(0x142), by
    unfold State.Inv PlotsWf Plot.Wf Rises
    decide +kernel⟩

/-! ### RecordsComplete -/

def wst_RecordsComplete_0 : State :=
  (fun (s : State) => (fun (s : State) => { s with fc := { staging := [{ r := { source := 0x142, cls := .corrected } }] }, slice := {}, mgr := {}, plots := [], g := {}, drill := {}, fab := {}, rot := {}, seed := {}, plat := {}, flt := {}, coh := {}, time := {}, hl := { s.hl with running := true }, dict := {}, mir := {}, fw := {}, pwr := { s.pwr with aon := true, mode := .up, plotHeldOff := 0 } } : State →
    State) (serve (s))) State.reset
theorem wit_RecordsComplete_0 : ∃ (e : StagingEntry), (wst_RecordsComplete_0).Inv ∧ (wst_RecordsComplete_0).fc.staging = [e] ∧
    (wst_RecordsComplete_0).fc.due = [] ∧ (wst_RecordsComplete_0).fc.queue = [] ∧ (e.r.cls == .fatal) = false ∧
    (wst_RecordsComplete_0).eligibleAt e ≤ 2 ^ 80 :=
  ⟨({ r := { source := 0x142, cls := .corrected } }), by
    unfold State.Inv PlotsWf Plot.Wf Rises
    decide +kernel⟩

def wst_RecordsComplete_1 : State :=
  (fun (s : State) => ((fun (s : State) => { s with fc := { queue := [{ source := 0x142, cls := .corrected, seq := some 7 }], ringEnable := true }, slice := {}, mgr := {}, plots := [], g := {}, drill := {}, fab := {}, rot := {}, seed := {}, plat := {}, flt := {}, coh := {}, time := {}, hl := { s.hl with running := true }, dict := {}, mir := {}, fw := {}, pwr := { s.pwr with aon := true, mode := .up, plotHeldOff := 0 } } : State →
    State) (serve (s))).setRg Rg.fcRingBase 0x20008) State.reset
theorem wit_RecordsComplete_1 : ∃ (r : Record) (q : Nat), (wst_RecordsComplete_1).Inv ∧ (wst_RecordsComplete_1).WritesNow ∧
    2 ≤ (wst_RecordsComplete_1).host.pCredit ∧ (wst_RecordsComplete_1).gcoreUp = true ∧ (wst_RecordsComplete_1).fc.ringEnable = true ∧
    (wst_RecordsComplete_1).fcRingFull = false ∧ (wst_RecordsComplete_1).fc.queue = [r] ∧ r.seq = some q ∧ (wst_RecordsComplete_1).fc.inFlight = [] :=
  ⟨({ source := 0x142, cls := .corrected, seq := some 7 }), (7), by
    unfold State.WritesNow State.SendsNow State.Inv PlotsWf Plot.Wf Rises
    decide +kernel⟩

def wst_RecordsComplete_2 : State :=
  (fun (s : State) => base23 (serve (s))) State.reset
theorem wit_RecordsComplete_2 : ∃ (v : Word32) (_rid : Half),
    (v.toNat + 2 ^ 32 - (wst_RecordsComplete_2).fc.head) % 2 ^ 32 ≤ ((wst_RecordsComplete_2).fc.tail + 2 ^ 32 - (wst_RecordsComplete_2).fc.head) % 2 ^ 32 :=
  ⟨(0), (0), by
    decide +kernel⟩

def wst_RecordsComplete_3 : State :=
  (fun (s : State) => (base23 (serve (s))).setRg Rg.fcRingBase 0x20008) State.reset
theorem wit_RecordsComplete_3 : ∃ (v : Word32) (_rid : Half), bit v.toNat 0 = true ∧ (wst_RecordsComplete_3).fc.ringEnable = false ∧
    4 ≤ (wst_RecordsComplete_3).fcRingLog2 ∧ (wst_RecordsComplete_3).fcRingLog2 ≤ 16 :=
  ⟨(1), (0), by
    decide +kernel⟩

def wst_RecordsComplete_4 : State :=
  (fun (s : State) => (fun (s : State) => { s with fc := { ringEnable := true }, slice := {}, mgr := {}, plots := [], g := {}, drill := {}, fab := {}, rot := {}, seed := {}, plat := {}, flt := {}, coh := {}, time := {}, hl := { s.hl with running := true }, dict := {}, mir := {}, fw := {}, pwr := { s.pwr with aon := true, mode := .up, plotHeldOff := 0 } } : State →
    State) (serve (s))) State.reset
theorem wit_RecordsComplete_4 : ∃ (v : Word32) (_rid : Half), bit v.toNat 0 = false :=
  ⟨(0), (0), by
    decide +kernel⟩

def wst_RecordsComplete_5 : State :=
  (fun (s : State) => base16 (serve (s))) State.reset
theorem wit_RecordsComplete_5 : ∃ (v : Word) (_rid : Half) (r : Record) (rs : List Record), (wst_RecordsComplete_5).fc.queue = r :: rs ∧
    (wst_RecordsComplete_5).fc.ringEnable = false ∧ r.seq = some (v.toNat % 2 ^ 31) :=
  ⟨(7), (0), ({ source := 0x142, cls := .corrected, seq := some 7 }), ([]), by
    decide +kernel⟩

def wst_RecordsComplete_6 : State :=
  (fun (s : State) => base16 (serve (s))) State.reset
theorem wit_RecordsComplete_6 : ∃ (r : Route) (x : Record) (rs : List Record), (wst_RecordsComplete_6).hl.running = true ∧ (r = .F ∨ r = .H) ∧
    (wst_RecordsComplete_6).fc.queue = x :: rs ∧ (wst_RecordsComplete_6).fc.ringEnable = false :=
  ⟨(.F), ({ source := 0x142, cls := .corrected, seq := some 7 }), ([]), by
    decide +kernel⟩

def wst_RecordsComplete_7 : State :=
  (fun (s : State) => (fun (s : State) => { s with fc := { fatalPending := [{ source := 0x142, cls := .corrected, seq := some 7 }] }, slice := {}, mgr := {}, plots := [], g := {}, drill := {}, fab := {}, rot := {}, seed := {}, plat := {}, flt := {}, coh := {}, time := {}, hl := { s.hl with running := true }, dict := {}, mir := {}, fw := {}, pwr := { s.pwr with aon := true, mode := .up, plotHeldOff := 0 } } : State →
    State) (serve (s))) State.reset
theorem wit_RecordsComplete_7 : ∃ (r : Record) (rs : List Record), (wst_RecordsComplete_7).hl.running = true ∧
    (wst_RecordsComplete_7).fc.fatalPending = r :: rs :=
  ⟨({ source := 0x142, cls := .corrected, seq := some 7 }), ([]), by
    decide +kernel⟩

def wst_RecordsComplete_8 : State :=
  (fun (s : State) => base25 (serve (s))) State.reset
theorem wit_RecordsComplete_8 : ∃ (n : Fin 2048) (v : Word) (_rid : Half), (wst_RecordsComplete_8).Inv ∧
    (wst_RecordsComplete_8).srcCfgOk n (v.toNat % 2 ^ 48) = true :=
  ⟨(0x142), (0xFFFF000500050020), (0), by
    unfold State.Inv PlotsWf Plot.Wf Rises
    decide +kernel⟩

def wst_RecordsComplete_9 : State :=
  (fun (s : State) => base25 (serve (s))) State.reset
theorem wit_RecordsComplete_9 : ∃ (n : Fin 2048) (v : Word) (r : Route) (_rid : Half), (wst_RecordsComplete_9).Inv ∧
    (wst_RecordsComplete_9).srcCfgOk n (v.toNat % 2 ^ 48) = true ∧ (wst_RecordsComplete_9).served r ((0x7100 + n) * 256 + 6) = true :=
  ⟨(0x142), (0xFFFF000500050020), (.F), (0), by
    unfold State.Inv PlotsWf Plot.Wf Rises
    decide +kernel⟩

/-! ### ReactionsAndForcingComplete -/

def wst_ReactionsAndForcingComplete_0 : State :=
  (fun (s : State) => base25 (serve (s))) State.reset
theorem wit_ReactionsAndForcingComplete_0 : ∃ (n : Fin 2048) (_rid : Half), (wst_ReactionsAndForcingComplete_0).Inv ∧ codeAllowed n 1 = true ∧
    (wst_ReactionsAndForcingComplete_0).fc.staging = [] ∧ (wst_ReactionsAndForcingComplete_0).slice.state = .none ∧ isPlotSrc n = false :=
  ⟨(0x142), (0), by
    unfold State.Inv PlotsWf Plot.Wf Rises
    decide +kernel⟩

def wst_ReactionsAndForcingComplete_1 : State :=
  (fun (s : State) => { (base25 (serve (s))) with slice := { state := .active, id := 4, mgrAddr := 4095 } }) State.reset
theorem wit_ReactionsAndForcingComplete_1 : ∃ (n : Fin 2048) (_rid : Half), (wst_ReactionsAndForcingComplete_1).Inv ∧ codeAllowed n 1 = true ∧
    (wst_ReactionsAndForcingComplete_1).fc.staging = [] ∧ (wst_ReactionsAndForcingComplete_1).slice.state = .active ∧ isPlotSrc n = false ∧
    (wst_ReactionsAndForcingComplete_1).slice.mgrAddr ≠ (wst_ReactionsAndForcingComplete_1).addr :=
  ⟨(0x142), (0), by
    unfold State.Inv PlotsWf Plot.Wf Rises
    decide +kernel⟩

def wst_ReactionsAndForcingComplete_2 : State :=
  (fun (s : State) => { (base25 (serve (s))) with plots := [(1, { state := .idle })] }) State.reset
theorem wit_ReactionsAndForcingComplete_2 : ∃ (n : Fin 2048) (_rid : Half), (wst_ReactionsAndForcingComplete_2).Inv ∧ codeAllowed n 2 = true ∧
    (wst_ReactionsAndForcingComplete_2).fc.staging = [] ∧ (wst_ReactionsAndForcingComplete_2).slice.state = .none ∧ isPlotSrc n = true ∧
    ((wst_ReactionsAndForcingComplete_2).plot (srcPlot n)).busy = false :=
  ⟨(0x342), (0), by
    unfold State.Inv PlotsWf Plot.Wf Rises
    decide +kernel⟩

def wst_ReactionsAndForcingComplete_3 : State :=
  (fun (s : State) => base25 (serve (s))) State.reset
theorem wit_ReactionsAndForcingComplete_3 : ∃ (n : Fin 2048) (_rid : Half), (wst_ReactionsAndForcingComplete_3).Inv ∧ codeAllowed n 3 = true ∧
    (wst_ReactionsAndForcingComplete_3).fc.staging = [] ∧ (wst_ReactionsAndForcingComplete_3).slice.state = .none ∧
    (wst_ReactionsAndForcingComplete_3).drill.rows = [] ∧ (wst_ReactionsAndForcingComplete_3).fab = {} :=
  ⟨(0x781), (0), by
    unfold State.Inv PlotsWf Plot.Wf Rises
    decide +kernel⟩

def wst_ReactionsAndForcingComplete_4 : State :=
  (fun (s : State) => base25 (serve (s))) State.reset
theorem wit_ReactionsAndForcingComplete_4 : ∃ (n : Fin 2048) (_rid : Half), (wst_ReactionsAndForcingComplete_4).Inv ∧ codeAllowed n 4 = true ∧
    (wst_ReactionsAndForcingComplete_4).fc.staging = [] ∧ (wst_ReactionsAndForcingComplete_4).slice.state = .none ∧
    (wst_ReactionsAndForcingComplete_4).host.frozen = false ∧ (wst_ReactionsAndForcingComplete_4).drill.rows = [] :=
  ⟨(0x142), (0), by
    unfold State.Inv PlotsWf Plot.Wf Rises
    decide +kernel⟩

def wst_ReactionsAndForcingComplete_5 : State :=
  (fun (s : State) => base25 (serve (s))) State.reset
theorem wit_ReactionsAndForcingComplete_5 : ∃ (n : Fin 2048) (_rid : Half), (wst_ReactionsAndForcingComplete_5).Inv ∧ codeAllowed n 5 = true ∧
    (wst_ReactionsAndForcingComplete_5).fc.staging = [] ∧ (wst_ReactionsAndForcingComplete_5).slice.state = .none ∧
    (wst_ReactionsAndForcingComplete_5).fc.packageFenced = false ∧ (wst_ReactionsAndForcingComplete_5).drill.rows = [] ∧
    (wst_ReactionsAndForcingComplete_5).g.store = [] :=
  ⟨(0x142), (0), by
    unfold State.Inv PlotsWf Plot.Wf Rises
    decide +kernel⟩

def wst_ReactionsAndForcingComplete_6 : State :=
  (fun (s : State) => base25 (serve (s))) State.reset
theorem wit_ReactionsAndForcingComplete_6 : ∃ (r : Route), (wst_ReactionsAndForcingComplete_6).served r 0xF00001 = true ∧ r ≠ .M :=
  ⟨(.F), by
    decide +kernel⟩

def wst_ReactionsAndForcingComplete_7 : State :=
  (fun (s : State) => ((base22 (serve (s))).setVal O.forceRail 5).setVal (O.forceLevel + 3) 5) State.reset
theorem wit_ReactionsAndForcingComplete_7 : ∃ (a : Nat), (wst_ReactionsAndForcingComplete_7).Inv ∧
    (wst_ReactionsAndForcingComplete_7).fc.armedUntil = some a ∧ (wst_ReactionsAndForcingComplete_7).fc.srcs = [] :=
  ⟨(9), by
    unfold State.Inv PlotsWf Plot.Wf Rises
    decide +kernel⟩

def wst_ReactionsAndForcingComplete_8 : State :=
  (fun (s : State) => { ((base22 (serve (s))).setVal ((0x7100 + 0x142) * 256 + 6) (2 ^ 5 + 2 ^ 16 + 2 ^ 32)) with now := 5 }) State.reset
theorem wit_ReactionsAndForcingComplete_8 : ∃ (r : Route) (k : Fin 32) (v : Word) (n : Nat) (i : SrcInfo), (wst_ReactionsAndForcingComplete_8).Inv ∧
    (wst_ReactionsAndForcingComplete_8).armed = true ∧ (wst_ReactionsAndForcingComplete_8).served r (0xF10001 + k) = true ∧
    forceBits k v.toNat = [n] ∧ srcInfo n = some i ∧ i.level = false ∧
    (wst_ReactionsAndForcingComplete_8).classInForce n ((wst_ReactionsAndForcingComplete_8).src n).escalated = 0 ∧
    (wst_ReactionsAndForcingComplete_8).srcEscCount n = 0 ∧ (wst_ReactionsAndForcingComplete_8).srcRecord n = true ∧
    (wst_ReactionsAndForcingComplete_8).fc.staging = [] :=
  ⟨(.F), (5), (4), (0x142), ((srcInfo 0x142).getD { cls := 0 }), by
    unfold State.Inv PlotsWf Plot.Wf Rises
    decide +kernel⟩

def wst_ReactionsAndForcingComplete_9 : State :=
  (fun (s : State) => { ((base22 (serve (s))).setVal ((0x7100 + 2) * 256 + 6) (2 ^ 16 + 2 ^ 32)) with now := 5 }) State.reset
theorem wit_ReactionsAndForcingComplete_9 : ∃ (r : Route) (k : Fin 32) (v : Word) (n : Nat) (i : SrcInfo), (wst_ReactionsAndForcingComplete_9).Inv ∧
    (wst_ReactionsAndForcingComplete_9).armed = true ∧ (wst_ReactionsAndForcingComplete_9).served r (0xF10101 + k) = true ∧
    forceBits k v.toNat = [n] ∧ srcInfo n = some i ∧ i.level = true ∧ (wst_ReactionsAndForcingComplete_9).fc.srcs = [] ∧
    (wst_ReactionsAndForcingComplete_9).classInForce n false = 0 ∧ (wst_ReactionsAndForcingComplete_9).srcEscCount n = 0 :=
  ⟨(.F), (0), (4), (2), ((srcInfo 2).getD { cls := 0 }), by
    unfold State.Inv PlotsWf Plot.Wf Rises
    decide +kernel⟩

def wst_ReactionsAndForcingComplete_10 : State :=
  (fun (s : State) => { (base22 (serve (s))) with now := 5 }) State.reset
theorem wit_ReactionsAndForcingComplete_10 : ∃ (r : Route) (l : Bool) (v : Word), (wst_ReactionsAndForcingComplete_10).Inv ∧
    (wst_ReactionsAndForcingComplete_10).armed = true ∧ (wst_ReactionsAndForcingComplete_10).served r (if l then 0xF00102 else 0xF00101) = true ∧
    v.toNat < 2 ^ 38 :=
  ⟨(.F), (true), (0), by
    unfold State.Inv PlotsWf Plot.Wf Rises
    decide +kernel⟩

/-! ### PlotControlCompletes -/

def wst_PlotControlCompletes_0 : State :=
  (fun (s : State) => (fun (s : State) => { s with plots := [(3, { state := .running, furrow := 3, seq := 4, mask := 8, bypass := true, prog := some { id := 1, pasid := 5, crc := 0, views := [], cmds := [0, 0] } })], g := {}, drill := {}, fab := {}, coh := {}, seed := {}, plat := {}, flt := {}, rot := {}, time := {}, slice := {}, fc := {}, pwr := { s.pwr with plotHeldOff := 0, aon := true } } : State →
    State) (serve s)) State.reset
theorem wit_PlotControlCompletes_0 : ∃ (p : Fin 16) (v : Nat), (wst_PlotControlCompletes_0).Inv ∧ (wst_PlotControlCompletes_0).Issues p 0x00 v [] :=
  ⟨(3), ((wst_PlotControlCompletes_0.nextCmd 3).getD 0), by
    unfold State.Issues State.Inv PlotsWf Plot.Wf Rises
    decide +kernel⟩

def wst_PlotControlCompletes_1 : State :=
  (fun (s : State) => (fun (s : State) => { s with plots := [(3, { state := .running, furrow := 3, seq := 4, mask := 8, bypass := true, prog := some { id := 1, pasid := 5, crc := 0, views := [], cmds := [0x00050002, 0] }, loops := [(1, 2), (0, 3)] })], g := {}, drill := {}, fab := {}, coh := {}, seed := {}, plat := {}, flt := {}, rot := {}, time := {}, slice := {}, fc := {}, pwr := { s.pwr with plotHeldOff := 0, aon := true } } : State →
    State) (serve s)) State.reset
theorem wit_PlotControlCompletes_1 : ∃ (p : Fin 16) (v : Nat), (wst_PlotControlCompletes_1).Inv ∧ (wst_PlotControlCompletes_1).Issues p 0x02 v [(31,
    16)] ∧ fld v 31 16 ≠ 0 ∧ ((wst_PlotControlCompletes_1).plot p).loops.length < 4 :=
  ⟨(3), ((wst_PlotControlCompletes_1.nextCmd 3).getD 0), by
    unfold State.Issues State.Inv PlotsWf Plot.Wf Rises
    decide +kernel⟩

def wst_PlotControlCompletes_2 : State :=
  (fun (s : State) => (fun (s : State) => { s with plots := [(3, { state := .running, furrow := 3, seq := 4, mask := 8, bypass := true, prog := some { id := 1, pasid := 5, crc := 0, views := [], cmds := [3, 0] }, loops := [(0, 1), (0, 3)] })], g := {}, drill := {}, fab := {}, coh := {}, seed := {}, plat := {}, flt := {}, rot := {}, time := {}, slice := {}, fc := {}, pwr := { s.pwr with plotHeldOff := 0, aon := true } } : State →
    State) (serve s)) State.reset
theorem wit_PlotControlCompletes_2 : ∃ (p : Fin 16) (v : Nat) (a n : Nat) (l : List (Nat × Nat)), (wst_PlotControlCompletes_2).Inv ∧
    (wst_PlotControlCompletes_2).Issues p 0x03 v [] ∧ ((wst_PlotControlCompletes_2).plot p).loops = (a, n) :: l ∧ n ≤ 1 :=
  ⟨(3), ((wst_PlotControlCompletes_2.nextCmd 3).getD 0), (0), (1), ([(0, 3)]), by
    unfold State.Issues State.Inv PlotsWf Plot.Wf Rises
    decide +kernel⟩

def wst_PlotControlCompletes_3 : State :=
  (fun (s : State) => (fun (s : State) => { s with plots := [(3, { state := .running, furrow := 3, seq := 4, mask := 8, bypass := true, prog := some { id := 1, pasid := 5, crc := 0, views := [], cmds := [3, 0] }, loops := [(0, 2), (0, 3)] })], g := {}, drill := {}, fab := {}, coh := {}, seed := {}, plat := {}, flt := {}, rot := {}, time := {}, slice := {}, fc := {}, pwr := { s.pwr with plotHeldOff := 0, aon := true } } : State →
    State) (serve s)) State.reset
theorem wit_PlotControlCompletes_3 : ∃ (p : Fin 16) (v : Nat) (a n : Nat) (l : List (Nat × Nat)), (wst_PlotControlCompletes_3).Inv ∧
    (wst_PlotControlCompletes_3).Issues p 0x03 v [] ∧ ((wst_PlotControlCompletes_3).plot p).loops = (a, n) :: l ∧ 1 < n ∧
    a ≤ ((wst_PlotControlCompletes_3).plot p).pc :=
  ⟨(3), ((wst_PlotControlCompletes_3.nextCmd 3).getD 0), (0), (2), ([(0, 3)]), by
    unfold State.Issues State.Inv PlotsWf Plot.Wf Rises
    decide +kernel⟩

def wst_PlotControlCompletes_4 : State :=
  (fun (s : State) => (fun (s : State) => { s with plots := [(3, { state := .running, furrow := 3, seq := 4, mask := 8, bypass := true, prog := some { id := 1, pasid := 5, crc := 0, views := [], cmds := [7 * 2 ^ 64 + 0x5004, 0] } })], g := {}, drill := {}, fab := {}, coh := {}, seed := {}, plat := {}, flt := {}, rot := {}, time := {}, slice := {}, fc := {}, pwr := { s.pwr with plotHeldOff := 0, aon := true } } : State →
    State) (serve s)) State.reset
theorem wit_PlotControlCompletes_4 : ∃ (p : Fin 16) (v : Nat), (wst_PlotControlCompletes_4).Inv ∧ (wst_PlotControlCompletes_4).Issues p 0x04 v [(15,
    12), (127, 64)] ∧ fld v 15 12 ≠ 0 :=
  ⟨(3), ((wst_PlotControlCompletes_4.nextCmd 3).getD 0), by
    unfold State.Issues State.Inv PlotsWf Plot.Wf Rises
    decide +kernel⟩

def wst_PlotControlCompletes_5 : State :=
  (fun (s : State) => (fun (s : State) => { s with plots := [(3, { state := .running, furrow := 3, seq := 4, mask := 8, bypass := true, prog := some { id := 1, pasid := 5, crc := 0, views := [], cmds := [(2 ^ 64 - 1) * 2 ^ 64 + 0x25005, 0] }, idx := [(2, 9)] })], g := {}, drill := {}, fab := {}, coh := {}, seed := {}, plat := {}, flt := {}, rot := {}, time := {}, slice := {}, fc := {}, pwr := { s.pwr with plotHeldOff := 0, aon := true } } : State →
    State) (serve s)) State.reset
theorem wit_PlotControlCompletes_5 : ∃ (p : Fin 16) (v : Nat), (wst_PlotControlCompletes_5).Inv ∧ (wst_PlotControlCompletes_5).Issues p 0x05 v [(15,
    12), (19, 16), (127, 64)] ∧ fld v 15 12 ≠ 0 :=
  ⟨(3), ((wst_PlotControlCompletes_5.nextCmd 3).getD 0), by
    unfold State.Issues State.Inv PlotsWf Plot.Wf Rises
    decide +kernel⟩

def wst_PlotControlCompletes_6 : State :=
  (fun (s : State) => (fun (s : State) => { s with plots := [(3, { state := .running, furrow := 3, seq := 4, mask := 8, bypass := true, prog := some { id := 1, pasid := 5, crc := 0, views := [], cmds := [0x2000001000005006, 0] }, tilth := [(17, 3)], idx := [(2, 0)] })], g := {}, drill := {}, fab := {}, coh := {}, seed := {}, plat := {}, flt := {}, rot := {}, time := {}, slice := {}, fc := {}, pwr := { s.pwr with plotHeldOff := 0, aon := true } } : State →
    State) (serve s)) State.reset
theorem wit_PlotControlCompletes_6 : ∃ (p : Fin 16) (v : Nat), (wst_PlotControlCompletes_6).Inv ∧ (wst_PlotControlCompletes_6).Issues p 0x06 v [(15,
    12), (63, 32)] ∧ fld v 15 12 ≠ 0 ∧ (wst_PlotControlCompletes_6).tref p v 32 % 8 = 0 ∧
    (wst_PlotControlCompletes_6).tref p v 32 + 8 ≤ (wst_PlotControlCompletes_6).dataTop p :=
  ⟨(3), ((wst_PlotControlCompletes_6.nextCmd 3).getD 0), by
    unfold State.Issues State.Inv PlotsWf Plot.Wf Rises
    decide +kernel⟩

def wst_PlotControlCompletes_7 : State :=
  (fun (s : State) => (fun (s : State) => { s with plots := [(3, { state := .running, furrow := 3, seq := 4, mask := 8, bypass := true, prog := some { id := 1, pasid := 5, crc := 0, views := [], cmds := [7, 0] } })], g := {}, drill := {}, fab := {}, coh := {}, seed := {}, plat := {}, flt := {}, rot := {}, time := {}, slice := {}, fc := {}, pwr := { s.pwr with plotHeldOff := 0, aon := true }, host := { s.host with blocked := [] } } : State →
    State) (serve s)) State.reset
theorem wit_PlotControlCompletes_7 : ∃ (p : Fin 16) (v : Nat), (wst_PlotControlCompletes_7).Inv ∧ (wst_PlotControlCompletes_7).Issues p 0x07 v [] ∧
    (wst_PlotControlCompletes_7).signalsOut p = false :=
  ⟨(3), ((wst_PlotControlCompletes_7.nextCmd 3).getD 0), by
    unfold State.Issues State.Inv PlotsWf Plot.Wf Rises
    decide +kernel⟩

def wst_PlotControlCompletes_8 : State :=
  (fun (s : State) => (fun (s : State) => { s with plots := [(3, { state := .running, furrow := 3, seq := 4, mask := 8, bypass := true, prog := some { id := 1, pasid := 5, crc := 0, views := [], cmds := [8, 0] } })], g := { store := [{ furrow := 3, seq := 4, d := {} }] }, drill := {}, fab := {}, coh := {}, seed := {}, plat := {}, flt := {}, rot := {}, time := {}, slice := {}, fc := {}, pwr := { s.pwr with plotHeldOff := 0, aon := true }, host := { s.host with blocked := [] } } : State →
    State) (serve s)) State.reset
theorem wit_PlotControlCompletes_8 : ∃ (p : Fin 16) (v : Nat), (wst_PlotControlCompletes_8).Inv ∧ (wst_PlotControlCompletes_8).Issues p 0x08 v [] ∧
    (wst_PlotControlCompletes_8).signalsOut p = false :=
  ⟨(3), ((wst_PlotControlCompletes_8.nextCmd 3).getD 0), by
    unfold State.Issues State.Inv PlotsWf Plot.Wf Rises
    decide +kernel⟩

/-! ### ProgramsStartAndEnd -/

def wst_ProgramsStartAndEnd_0 : State :=
  (fun (s : State) => (fun (s : State) => { s with plots := [(3, { state := .running, furrow := 3, seq := 4, mask := 8, bypass := true, prog := some { id := 1, pasid := 5, crc := 0, views := [], cmds := [0, 0] } })], g := { furrows := [(3, { state := .enabled })], store := [{ furrow := 3, seq := 4, state := .sown, d := { opcode := 0 } }] }, drill := {}, fab := {}, coh := {}, seed := {}, plat := {}, flt := {}, rot := {}, time := {}, slice := {}, fc := {}, pwr := { s.pwr with plotHeldOff := 0, aon := true } } : State →
    State) (serve s)) State.reset
theorem wit_ProgramsStartAndEnd_0 : ∃ (n : Nat) (x : Slot), (wst_ProgramsStartAndEnd_0).winner 0 = some (n, x) ∧
    (wst_ProgramsStartAndEnd_0).slot n x.seq = some x ∧ x.halfDone = false ∧ x.halfDenied = false ∧ x.d.signalEn = false ∧ x.d.halfSignal = false ∧
    x.d.recordEn = false ∧ x.d.stampEn = false ∧ x.d.halfStampEn = false ∧ (wst_ProgramsStartAndEnd_0).Settled ∧ (wst_ProgramsStartAndEnd_0).Inv :=
  ⟨(3), ((wst_ProgramsStartAndEnd_0.slot 3 4).getD { furrow := 0, seq := 0, d := {} }), by
    unfold State.Settled State.Inv PlotsWf Plot.Wf Rises
    decide +kernel⟩

def wst_ProgramsStartAndEnd_1 : State :=
  (fun (s : State) => (fun (s : State) => { s with plots := [(3, { state := .running, furrow := 3, seq := 4, mask := 8, bypass := true, prog := some { id := 1, pasid := 5, crc := 0, views := [], cmds := [0, 0] } })], g := { furrows := [(3, { state := .enabled })], store := [{ furrow := 3, seq := 4, state := .sown, d := { opcode := 1, body := natLe 64 0 } }] }, drill := {}, fab := {}, coh := {}, seed := {}, plat := {}, flt := {}, rot := {}, time := {}, slice := {}, fc := {}, pwr := { s.pwr with plotHeldOff := 0, aon := true } } : State →
    State) (serve s)) State.reset
theorem wit_ProgramsStartAndEnd_1 : ∃ (n r : Nat) (x : Slot), (wst_ProgramsStartAndEnd_1).Inv ∧ (wst_ProgramsStartAndEnd_1).winner 1 = some (n, x) ∧
    (wst_ProgramsStartAndEnd_1).poolRow = some r ∧ x.doomed = false ∧ x.d.srcSpace < 4 ∧ x.d.dstSpace < 4 ∧
    (wst_ProgramsStartAndEnd_1).slot n x.seq = some x :=
  ⟨(3), (wst_ProgramsStartAndEnd_1.poolRow.getD 0), ((wst_ProgramsStartAndEnd_1.slot 3 4).getD { furrow := 0, seq := 0, d := {} }), by
    unfold State.Inv PlotsWf Plot.Wf Rises
    decide +kernel⟩

def wst_ProgramsStartAndEnd_2 : State :=
  (fun (s : State) => base9 (serve s)) State.reset
theorem wit_ProgramsStartAndEnd_2 : ∃ (n : Nat) (x : Slot), (wst_ProgramsStartAndEnd_2).Inv ∧ (wst_ProgramsStartAndEnd_2).claimWinner = some (n, x) ∧
    x.doomed = false ∧ ((∀ p : Fin 16, bit x.d.plotMask p = true → ((wst_ProgramsStartAndEnd_2).plot p).state = .idle)) ∧
    (wst_ProgramsStartAndEnd_2).slot n x.seq = some x :=
  ⟨(3), ((wst_ProgramsStartAndEnd_2.slot 3 4).getD { furrow := 0, seq := 0, d := {} }), by
    unfold State.Inv PlotsWf Plot.Wf Rises
    decide +kernel⟩

def wst_ProgramsStartAndEnd_3 : State :=
  (fun (s : State) => base9 (serve s)) State.reset
theorem wit_ProgramsStartAndEnd_3 : ∃ (n : Nat) (x : Slot), (wst_ProgramsStartAndEnd_3).Inv ∧ (wst_ProgramsStartAndEnd_3).claimWinner = some (n, x) ∧
    x.doomed = false ∧ ((∀ p : Fin 16, bit x.d.plotMask p = true → ((wst_ProgramsStartAndEnd_3).plot p).state = .idle)) ∧
    (wst_ProgramsStartAndEnd_3).slot n x.seq = some x :=
  ⟨(3), ((wst_ProgramsStartAndEnd_3.slot 3 4).getD { furrow := 0, seq := 0, d := {} }), by
    unfold State.Inv PlotsWf Plot.Wf Rises
    decide +kernel⟩

def wst_ProgramsStartAndEnd_4 : State :=
  (fun (s : State) => (fun (s : State) => { s with plots := [(3, { state := .running, furrow := 3, seq := 4, mask := 8, bypass := true, prog := some { id := 1, pasid := 5, crc := 0, views := [], cmds := [0, 0] } })], g := { furrows := [(3, { state := .enabled })], store := [{ furrow := 3, seq := 4, state := .sown, d := { opcode := 3, body := natLe 48 0 } }] }, drill := {}, fab := {}, coh := {}, seed := {}, plat := {}, flt := {}, rot := {}, time := {}, slice := {}, fc := {}, pwr := { s.pwr with plotHeldOff := 0, aon := true } } : State →
    State) (serve s)) State.reset
theorem wit_ProgramsStartAndEnd_4 : ∃ (n : Nat) (x : Slot), (wst_ProgramsStartAndEnd_4).Inv ∧ (wst_ProgramsStartAndEnd_4).winner 3 = some (n, x) ∧
    x.doomed = false ∧ (wst_ProgramsStartAndEnd_4).slot n x.seq = some x :=
  ⟨(3), ((wst_ProgramsStartAndEnd_4.slot 3 4).getD { furrow := 0, seq := 0, d := {} }), by
    unfold State.Inv PlotsWf Plot.Wf Rises
    decide +kernel⟩

def wst_ProgramsStartAndEnd_5 : State :=
  (fun (s : State) => (fun (s : State) => { s with hbm := [(65536, 80), (65537, 76), (65538, 79), (65539, 84), (65540, 1), (65542, 1), (65568, 77), (65576, 72), (65577, 147), (65578, 98), (65579, 61), (65600, 1)] } : State →
    State) (((fun (s : State) => { s with plots := [(3, { state := .loading, furrow := 3, seq := 4, mask := 8, bypass := false, prog := some { id := 1, pasid := 5, crc := 0, views := [], cmds := [0, 0] }, resident := [], pasid := 5 })], g := { store := [{ furrow := 3, seq := 4, state := .started, d := { opcode := 2, body := natLe 8 0x10000 ++ natLe 8 0 ++ natLe 4 80 ++ natLe 2 8 ++ natLe 1 1 ++ natLe 25 0 } }] }, drill := {}, fab := {}, coh := {}, seed := {}, plat := {}, flt := {}, rot := {}, time := {}, slice := {}, fc := {}, pwr := { s.pwr with plotHeldOff := 0, aon := true, scrub := [] }, host := { s.host with poison := [] }, reg := s.reg.filter (fun c => c.1 < 0x280000 || 0x300000 ≤ c.1) } : State →
    State) (serve s)).setRg (Rg.pctx 1 0) (2 ^ 63 + 2 ^ 26 + 2 ^ 25 + 5))) State.reset
theorem wit_ProgramsStartAndEnd_5 : ∃ (p : Fin 16) (_c _d : HostRead) (a room : Nat) (x : Slot) (b : List Byte), (wst_ProgramsStartAndEnd_5).Inv ∧
    ((wst_ProgramsStartAndEnd_5).plot p).state = .loading ∧ ((wst_ProgramsStartAndEnd_5).plot p).ended = none ∧
    (wst_ProgramsStartAndEnd_5).slot ((wst_ProgramsStartAndEnd_5).plot p).furrow ((wst_ProgramsStartAndEnd_5).plot p).seq = some x ∧ x.d.cspace = 1 ∧
    x.d.argWords = 0 ∧
    ((wst_ProgramsStartAndEnd_5).lookup ((wst_ProgramsStartAndEnd_5).plotWho p) .devlocal x.d.container .read).2 = .at_ (.hbm a) room ∧
    x.d.containerLen ≤ room ∧ (wst_ProgramsStartAndEnd_5).coh.snoopFilter = [] ∧ (wst_ProgramsStartAndEnd_5).host.poison = [] ∧
    (wst_ProgramsStartAndEnd_5).pwr.scrub = [] ∧ (wst_ProgramsStartAndEnd_5).coh.scrubbing = [] ∧ ((wst_ProgramsStartAndEnd_5).plot p).resident = [] ∧
    b = memRead (wst_ProgramsStartAndEnd_5).hbm a x.d.containerLen ∧
    containerCheck (parseHeader b) b x.d.containerLen ((wst_ProgramsStartAndEnd_5).dataTop p) 0 false = 0 :=
  ⟨(3), ({}), ({}), (0x10000), ((match (wst_ProgramsStartAndEnd_5.lookup (wst_ProgramsStartAndEnd_5.plotWho 3) .devlocal 0x10000 .read).2 with | .at_ _ n => n | _ => 0)), ({ furrow := 3, seq := 4, state := .started, d := { opcode := 2, body := natLe 8 0x10000 ++ natLe 8 0 ++ natLe 4 80 ++ natLe 2 8 ++ natLe 1 1 ++ natLe 25 0 } }), (memRead wst_ProgramsStartAndEnd_5.hbm 0x10000 80), by
    unfold State.Inv PlotsWf Plot.Wf Rises
    decide +kernel⟩

def wst_ProgramsStartAndEnd_6 : State :=
  (fun (s : State) => (fun (s : State) => { s with plots := [(3, { state := .running, furrow := 3, seq := 4, mask := 8, bypass := true, prog := some { id := 1, pasid := 5, crc := 0, views := [], cmds := [1, 0] }, tilth := [(5, 6)], flags := { nan := true } })], g := { store := [{ furrow := 3, seq := 4, d := {  } }] }, drill := {}, fab := {}, coh := {}, seed := {}, plat := {}, flt := {}, rot := {}, time := {}, slice := {}, fc := {}, pwr := { s.pwr with plotHeldOff := 0, aon := true }, host := { s.host with blocked := [] } } : State →
    State) (serve s)) State.reset
theorem wit_ProgramsStartAndEnd_6 : ∃ (p : Fin 16) (v : Nat) (y : Slot), (wst_ProgramsStartAndEnd_6).Inv ∧
    (wst_ProgramsStartAndEnd_6).nextCmd p = some v ∧ v = 1 ∧ (wst_ProgramsStartAndEnd_6).signalsOut p = false ∧
    (wst_ProgramsStartAndEnd_6).slot ((wst_ProgramsStartAndEnd_6).plot p).furrow ((wst_ProgramsStartAndEnd_6).plot p).seq = some y ∧
    bit y.endMask p = false ∧ codeOk y.endCode = true ∧ (wst_ProgramsStartAndEnd_6).drill.feeds = [] ∧ (wst_ProgramsStartAndEnd_6).g.waits = [] ∧
    (wst_ProgramsStartAndEnd_6).flt.entries = [] ∧ (wst_ProgramsStartAndEnd_6).plat.walks = [] ∧ (wst_ProgramsStartAndEnd_6).plat.slotWait = [] :=
  ⟨(3), ((wst_ProgramsStartAndEnd_6.nextCmd 3).getD 0), ({ furrow := 3, seq := 4, d := {  } }), by
    unfold State.Inv PlotsWf Plot.Wf Rises
    decide +kernel⟩

def wst_ProgramsStartAndEnd_7 : State :=
  (fun (s : State) => (fun (s : State) => { s with plots := [(3, { state := .running, furrow := 3, seq := 4, mask := 8, bypass := true, prog := some { id := 1, pasid := 5, crc := 0, views := [], cmds := [0xBEEF0009, 0] } })], g := {}, drill := {}, fab := {}, coh := {}, seed := {}, plat := {}, flt := {}, rot := {}, time := {}, slice := {}, fc := {}, pwr := { s.pwr with plotHeldOff := 0, aon := true } } : State →
    State) (serve s)) State.reset
theorem wit_ProgramsStartAndEnd_7 : ∃ (p : Fin 16) (v : Nat), (wst_ProgramsStartAndEnd_7).nextCmd p = some v ∧ v % 256 = 9 ∧ onlyFields v [(31,
    16)] = true ∧ (wst_ProgramsStartAndEnd_7).Inv :=
  ⟨(3), ((wst_ProgramsStartAndEnd_7.nextCmd 3).getD 0), by
    unfold State.Inv PlotsWf Plot.Wf Rises
    decide +kernel⟩

def wst_ProgramsStartAndEnd_8 : State :=
  (fun (s : State) => (fun (s : State) => { s with plots := [(3, { state := .running, furrow := 3, seq := 4, mask := 8, bypass := true, prog := some { id := 1, pasid := 5, crc := 0, views := [], cmds := [0, 0] }, ended := some 0x205 })], g := { store := [{ furrow := 3, seq := 4, d := { opcode := 2, body := natLe 20 0 ++ natLe 2 8 ++ natLe 26 0 } }] }, drill := {}, fab := {}, coh := {}, seed := {}, plat := {}, flt := {}, rot := {}, time := {}, slice := {}, fc := {}, pwr := { s.pwr with plotHeldOff := 0, aon := true } } : State →
    State) (serve s)) State.reset
theorem wit_ProgramsStartAndEnd_8 : ∃ (p : Fin 16) (c : Nat) (y : Slot), (wst_ProgramsStartAndEnd_8).Inv ∧
    (wst_ProgramsStartAndEnd_8).failure p = some c ∧
    (wst_ProgramsStartAndEnd_8).plotsOf ((wst_ProgramsStartAndEnd_8).plot p).furrow ((wst_ProgramsStartAndEnd_8).plot p).seq = [p.val] ∧
    ((wst_ProgramsStartAndEnd_8).plot p).state = .running ∧ ((wst_ProgramsStartAndEnd_8).plot p).mask ≠ 0 ∧
    (wst_ProgramsStartAndEnd_8).slot ((wst_ProgramsStartAndEnd_8).plot p).furrow ((wst_ProgramsStartAndEnd_8).plot p).seq = some y ∧
    codeOk y.endCode = true ∧ (wst_ProgramsStartAndEnd_8).drill.feeds = [] ∧ (wst_ProgramsStartAndEnd_8).g.waits = [] ∧
    (wst_ProgramsStartAndEnd_8).flt.entries = [] ∧ (wst_ProgramsStartAndEnd_8).plat.walks = [] ∧ (wst_ProgramsStartAndEnd_8).plat.slotWait = [] ∧
    (wst_ProgramsStartAndEnd_8).Settled :=
  ⟨(3), (0x205), ({ furrow := 3, seq := 4, d := { opcode := 2, body := natLe 20 0 ++ natLe 2 8 ++ natLe 26 0 } }), by
    unfold State.Settled State.Inv PlotsWf Plot.Wf Rises
    decide +kernel⟩

def wst_ProgramsStartAndEnd_9 : State :=
  (fun (s : State) => bars ((fun (s : State) => { s with plots := [(3, { state := .running, furrow := 3, seq := 4, mask := 8, bypass := true, prog := some { id := 1, pasid := 5, crc := 0, views := [], cmds := [0, 0] } })], g := { store := [{ furrow := 3, seq := 4, d := { opcode := 2, body := natLe 20 0 ++ natLe 2 8 ++ natLe 26 0 } }] }, drill := {}, fab := {}, coh := {}, seed := {}, plat := {}, flt := {}, rot := {}, time := {}, slice := {}, fc := {}, pwr := { s.pwr with plotHeldOff := 0, aon := true } } : State →
    State) (serve s))) State.reset
theorem wit_ProgramsStartAndEnd_9 : ∃ (p : Fin 16) (_rid : Half) (y : Slot), (wst_ProgramsStartAndEnd_9).Inv ∧
    (wst_ProgramsStartAndEnd_9).ServesHost ∧
    (wst_ProgramsStartAndEnd_9).plotsOf ((wst_ProgramsStartAndEnd_9).plot p).furrow ((wst_ProgramsStartAndEnd_9).plot p).seq = [p.val] ∧
    ((wst_ProgramsStartAndEnd_9).plot p).state = .running ∧ ((wst_ProgramsStartAndEnd_9).plot p).mask ≠ 0 ∧
    (wst_ProgramsStartAndEnd_9).slot ((wst_ProgramsStartAndEnd_9).plot p).furrow ((wst_ProgramsStartAndEnd_9).plot p).seq = some y ∧
    codeOk y.endCode = true ∧ (wst_ProgramsStartAndEnd_9).drill.feeds = [] ∧ (wst_ProgramsStartAndEnd_9).g.waits = [] ∧
    (wst_ProgramsStartAndEnd_9).flt.entries = [] ∧ (wst_ProgramsStartAndEnd_9).plat.walks = [] ∧ (wst_ProgramsStartAndEnd_9).plat.slotWait = [] ∧
    (wst_ProgramsStartAndEnd_9).Settled :=
  ⟨(3), (7), ({ furrow := 3, seq := 4, d := { opcode := 2, body := natLe 20 0 ++ natLe 2 8 ++ natLe 26 0 } }), by
    unfold State.ServesHost State.Settled State.Inv PlotsWf Plot.Wf Rises
    decide +kernel⟩

def wst_ProgramsStartAndEnd_10 : State :=
  (fun (s : State) => bars ((fun (s : State) => { s with plots := [(3, { state := .idle, gcache := [(1, 2, 3, [])], furrow := 3, seq := 4, mask := 8, bypass := true, prog := some { id := 1, pasid := 5, crc := 0, views := [], cmds := [0, 0] } })], g := {}, drill := {}, fab := {}, coh := {}, seed := {}, plat := {}, flt := {}, rot := {}, time := {}, slice := {}, fc := {}, pwr := { s.pwr with plotHeldOff := 0, aon := true } } : State →
    State) (serve s))) State.reset
theorem wit_ProgramsStartAndEnd_10 : ∃ (p : Fin 16) (v : Word) (_rid : Half), (wst_ProgramsStartAndEnd_10).Inv ∧
    (wst_ProgramsStartAndEnd_10).ServesHost ∧ ((wst_ProgramsStartAndEnd_10).plot p).state = .idle ∧ v.toNat % 128 ≤ 64 :=
  ⟨(3), (64), (7), by
    unfold State.ServesHost State.Inv PlotsWf Plot.Wf Rises
    decide +kernel⟩

/-! ### PlotStakesAndFeedsComplete -/

def wst_PlotStakesAndFeedsComplete_0 : State :=
  (fun (s : State) => ((fun (s : State) => { s with plots := [(3, { state := .running, furrow := 3, seq := 4, mask := 8, bypass := true, prog := some { id := 1, pasid := 5, crc := 0, views := [], cmds := [9 * 2 ^ 64 + 0x200050010, 0] } })], g := {}, drill := {}, fab := {}, coh := {}, seed := {}, plat := {}, flt := {}, rot := {}, time := {}, slice := {}, fc := {}, pwr := { s.pwr with plotHeldOff := 0, aon := true } } : State →
    State) (serve s)).setRg (Rg.stakeGroup 0) (2 * 2 ^ 20)) State.reset
theorem wit_PlotStakesAndFeedsComplete_0 : ∃ (p : Fin 16) (v : Nat) (h : Nat), (wst_PlotStakesAndFeedsComplete_0).Inv ∧
    (wst_PlotStakesAndFeedsComplete_0).Issues p 0x10 v [(8, 8), (15, 12), (31, 16), (35, 32), (127, 64)] ∧
    (wst_PlotStakesAndFeedsComplete_0).stakeOk (.program p ((wst_PlotStakesAndFeedsComplete_0).plot p).pasid ((wst_PlotStakesAndFeedsComplete_0).plot p).bypass) (fld v 31 16) = true ∧
    ((wst_PlotStakesAndFeedsComplete_0).plot p).slots.any (fun y => y.1 == fld v 35 32) = false ∧
    (wst_PlotStakesAndFeedsComplete_0).freeHandle (.plot p (fld v 35 32)) = some h ∧
    condMet (bit v 8) ((wst_PlotStakesAndFeedsComplete_0).stake (fld v 31 16)) ((wst_PlotStakesAndFeedsComplete_0).value p v) = false ∧
    (wst_PlotStakesAndFeedsComplete_0).Settled ∧ ((∀ w ∈ (wst_PlotStakesAndFeedsComplete_0).g.waits,
    condMet w.equal ((wst_PlotStakesAndFeedsComplete_0).stake w.stake) w.value = false)) :=
  ⟨(3), ((wst_PlotStakesAndFeedsComplete_0.nextCmd 3).getD 0), ((wst_PlotStakesAndFeedsComplete_0.freeHandle (.plot 3 2)).getD 0), by
    unfold State.Settled State.Issues State.Inv PlotsWf Plot.Wf Rises
    decide +kernel⟩

def wst_PlotStakesAndFeedsComplete_1 : State :=
  (fun (s : State) => (fun (s : State) => { s with plots := [(3, { state := .running, furrow := 3, seq := 4, mask := 8, bypass := true, prog := some { id := 1, pasid := 5, crc := 0, views := [], cmds := [0x00050011, 0] }, slots := [(1, 9)] })], g := {}, drill := {}, fab := {}, coh := {}, seed := {}, plat := {}, flt := {}, rot := {}, time := {}, slice := {}, fc := {}, pwr := { s.pwr with plotHeldOff := 0, aon := true } } : State →
    State) (serve s)) State.reset
theorem wit_PlotStakesAndFeedsComplete_1 : ∃ (p : Fin 16) (v : Nat), (wst_PlotStakesAndFeedsComplete_1).Inv ∧
    (wst_PlotStakesAndFeedsComplete_1).Issues p 0x11 v [(31, 16)] ∧
    ((wst_PlotStakesAndFeedsComplete_1).plot p).slots.any (fun y => bit (fld v 31 16) y.1) = false :=
  ⟨(3), ((wst_PlotStakesAndFeedsComplete_1.nextCmd 3).getD 0), by
    unfold State.Issues State.Inv PlotsWf Plot.Wf Rises
    decide +kernel⟩

def wst_PlotStakesAndFeedsComplete_2 : State :=
  (fun (s : State) => ((fun (s : State) => { s with plots := [(3, { state := .running, furrow := 3, seq := 4, mask := 8, bypass := true, prog := some { id := 1, pasid := 5, crc := 0, views := [], cmds := [9 * 2 ^ 64 + 0x500050012, 0] } })], g := { stakes := [(5, 10)] }, drill := {}, fab := {}, coh := {}, seed := {}, plat := {}, flt := {}, rot := {}, time := {}, slice := {}, fc := {}, pwr := { s.pwr with plotHeldOff := 0, aon := true } } : State →
    State) (serve s)).setRg (Rg.stakeGroup 0) (2 * 2 ^ 20)) State.reset
theorem wit_PlotStakesAndFeedsComplete_2 : ∃ (p : Fin 16) (v : Nat), (wst_PlotStakesAndFeedsComplete_2).Inv ∧
    (wst_PlotStakesAndFeedsComplete_2).Issues p 0x12 v [(8, 8), (15, 12), (19, 16), (47, 32), (127, 64)] ∧
    (wst_PlotStakesAndFeedsComplete_2).stakeOk (.program p ((wst_PlotStakesAndFeedsComplete_2).plot p).pasid ((wst_PlotStakesAndFeedsComplete_2).plot p).bypass) (fld v 47 32) = true ∧
    fld v 19 16 ≠ 0 :=
  ⟨(3), ((wst_PlotStakesAndFeedsComplete_2.nextCmd 3).getD 0), by
    unfold State.Issues State.Inv PlotsWf Plot.Wf Rises
    decide +kernel⟩

def wst_PlotStakesAndFeedsComplete_3 : State :=
  (fun (s : State) => ((fun (s : State) => { s with plots := [(3, { state := .running, furrow := 3, seq := 4, mask := 8, bypass := true, prog := some { id := 1, pasid := 5, crc := 0, views := [], cmds := [9 * 2 ^ 64 + 0x50113, 0] } })], g := { stakes := [(5, 10)] }, drill := {}, fab := {}, coh := {}, seed := {}, plat := {}, flt := {}, rot := {}, time := {}, slice := {}, fc := {}, pwr := { s.pwr with plotHeldOff := 0, aon := true }, host := { s.host with blocked := [] } } : State →
    State) (serve s)).setRg (Rg.stakeGroup 0) (2 * 2 ^ 20)) State.reset
theorem wit_PlotStakesAndFeedsComplete_3 : ∃ (p : Fin 16) (v : Nat), (wst_PlotStakesAndFeedsComplete_3).Inv ∧
    (wst_PlotStakesAndFeedsComplete_3).Issues p 0x13 v [(8, 8), (15, 12), (31, 16), (127, 64)] ∧
    (wst_PlotStakesAndFeedsComplete_3).stakeOk (.program p ((wst_PlotStakesAndFeedsComplete_3).plot p).pasid ((wst_PlotStakesAndFeedsComplete_3).plot p).bypass) (fld v 31 16) = true ∧
    (wst_PlotStakesAndFeedsComplete_3).writesOut p = false ∧ (wst_PlotStakesAndFeedsComplete_3).Settled ∧
    (wst_PlotStakesAndFeedsComplete_3).g.waits = [] ∧ bit v 8 = true :=
  ⟨(3), ((wst_PlotStakesAndFeedsComplete_3.nextCmd 3).getD 0), by
    unfold State.Settled State.Issues State.Inv PlotsWf Plot.Wf Rises
    decide +kernel⟩

def wst_PlotStakesAndFeedsComplete_4 : State :=
  (fun (s : State) => ((fun (s : State) => { s with plots := [(3, { state := .running, furrow := 3, seq := 4, mask := 8, bypass := true, prog := some { id := 1, pasid := 5, crc := 0, views := [], cmds := [9 * 2 ^ 64 + 0x50013, 0] } })], g := { stakes := [(5, 10)] }, drill := {}, fab := {}, coh := {}, seed := {}, plat := {}, flt := {}, rot := {}, time := {}, slice := {}, fc := {}, pwr := { s.pwr with plotHeldOff := 0, aon := true }, host := { s.host with blocked := [] } } : State →
    State) (serve s)).setRg (Rg.stakeGroup 0) (2 * 2 ^ 20)) State.reset
theorem wit_PlotStakesAndFeedsComplete_4 : ∃ (p : Fin 16) (v : Nat), (wst_PlotStakesAndFeedsComplete_4).Inv ∧
    (wst_PlotStakesAndFeedsComplete_4).Issues p 0x13 v [(8, 8), (15, 12), (31, 16), (127, 64)] ∧
    (wst_PlotStakesAndFeedsComplete_4).stakeOk (.program p ((wst_PlotStakesAndFeedsComplete_4).plot p).pasid ((wst_PlotStakesAndFeedsComplete_4).plot p).bypass) (fld v 31 16) = true ∧
    (wst_PlotStakesAndFeedsComplete_4).writesOut p = false ∧ (wst_PlotStakesAndFeedsComplete_4).Settled ∧
    (wst_PlotStakesAndFeedsComplete_4).g.waits = [] ∧ bit v 8 = false ∧
    (wst_PlotStakesAndFeedsComplete_4).stake (fld v 31 16) + (wst_PlotStakesAndFeedsComplete_4).value p v < 2 ^ 64 :=
  ⟨(3), ((wst_PlotStakesAndFeedsComplete_4.nextCmd 3).getD 0), by
    unfold State.Settled State.Issues State.Inv PlotsWf Plot.Wf Rises
    decide +kernel⟩

def wst_PlotStakesAndFeedsComplete_5 : State :=
  (fun (s : State) => (((fun (s : State) => { s with plots := [(3, { state := .running, furrow := 3, seq := 4, mask := 8, bypass := true, prog := some { id := 1, pasid := 5, crc := 0, views := [], cmds := [9 * 2 ^ 64 + 0x0002000700050014, 0] }, pasid := 5 })], g := {}, drill := {}, fab := { ordered := [{ m := { kind := .stakeAdd, dst := 7 }, owner := .plotSignal 3, after := [] }] }, coh := {}, seed := {}, plat := {}, flt := {}, rot := {}, time := {}, slice := {}, fc := {}, pwr := { s.pwr with plotHeldOff := 0, aon := true }, host := { s.host with blocked := [] }, reg := s.reg.filter (fun c => c.1 < 0x280000 || 0x300000 ≤ c.1) } : State →
    State) (serve s)).setRg (Rg.pctx 1 0) (2 ^ 63 + 2 ^ 27 + 5))) State.reset
theorem wit_PlotStakesAndFeedsComplete_5 : ∃ (p : Fin 16) (v : Nat) (c : Nat), (wst_PlotStakesAndFeedsComplete_5).Inv ∧
    (wst_PlotStakesAndFeedsComplete_5).Issues p 0x14 v [(8, 8), (15, 12), (31, 16), (43, 32), (59, 48), (127, 64)] ∧
    fld v 43 32 ≠ (wst_PlotStakesAndFeedsComplete_5).addr ∧ (wst_PlotStakesAndFeedsComplete_5).writesOut p = false ∧
    (wst_PlotStakesAndFeedsComplete_5).ctxOf ((wst_PlotStakesAndFeedsComplete_5).plot p).pasid = some c ∧
    bit ((wst_PlotStakesAndFeedsComplete_5).pctxCtrl c) 27 = true ∧
    (wst_PlotStakesAndFeedsComplete_5).fab.ordered.any (fun h => h.m.dst == fld v 43 32) = true :=
  ⟨(3), ((wst_PlotStakesAndFeedsComplete_5.nextCmd 3).getD 0), (1), by
    unfold State.Issues State.Inv PlotsWf Plot.Wf Rises
    decide +kernel⟩

def wst_PlotStakesAndFeedsComplete_6 : State :=
  (fun (s : State) => (fun (s : State) => { s with plots := [(3, { state := .running, furrow := 3, seq := 4, mask := 8, bypass := true, prog := some { id := 1, pasid := 5, crc := 0, views := [], cmds := [0x00404000 * 2 ^ 8 * 0 + 0x400000 + 0x1123, 0] } })], g := {}, drill := {}, fab := {}, coh := {}, seed := {}, plat := {}, flt := {}, rot := {}, time := {}, slice := {}, fc := {}, pwr := { s.pwr with plotHeldOff := 0, aon := true } } : State →
    State) (serve s)) State.reset
theorem wit_PlotStakesAndFeedsComplete_6 : ∃ (p : Fin 16) (v : Nat), (wst_PlotStakesAndFeedsComplete_6).Inv ∧
    (wst_PlotStakesAndFeedsComplete_6).Issues p 0x23 v [(10, 8), (15, 12), (47, 16)] ∧ fld v 47 16 % 64 = 0 ∧ fld v 47 16 ≤ 0x100000 ∧
    fld v 15 12 ≠ 0 ∧ ((wst_PlotStakesAndFeedsComplete_6).feed p (fld v 9 8)).reqs.length < 4 ∧ bit v 10 = false :=
  ⟨(3), ((wst_PlotStakesAndFeedsComplete_6.nextCmd 3).getD 0), by
    unfold State.Issues State.Inv PlotsWf Plot.Wf Rises
    decide +kernel⟩

def wst_PlotStakesAndFeedsComplete_7 : State :=
  (fun (s : State) => (fun (s : State) => { s with plots := [(3, { state := .running, furrow := 3, seq := 4, mask := 8, bypass := true, prog := some { id := 1, pasid := 5, crc := 0, views := [], cmds := [0x400000 + 0x1523, 0] } })], g := {}, drill := {}, fab := {}, coh := {}, seed := {}, plat := {}, flt := {}, rot := {}, time := {}, slice := {}, fc := {}, pwr := { s.pwr with plotHeldOff := 0, aon := true } } : State →
    State) (serve s)) State.reset
theorem wit_PlotStakesAndFeedsComplete_7 : ∃ (p : Fin 16) (v : Nat), (wst_PlotStakesAndFeedsComplete_7).Inv ∧
    (wst_PlotStakesAndFeedsComplete_7).Issues p 0x23 v [(10, 8), (15, 12), (47, 16)] ∧ fld v 47 16 % 64 = 0 ∧ fld v 47 16 ≤ 0x100000 ∧
    fld v 15 12 ≠ 0 ∧ ((wst_PlotStakesAndFeedsComplete_7).feed p (fld v 9 8)).reqs.length < 4 ∧ bit v 10 = true :=
  ⟨(3), ((wst_PlotStakesAndFeedsComplete_7.nextCmd 3).getD 0), by
    unfold State.Issues State.Inv PlotsWf Plot.Wf Rises
    decide +kernel⟩

def wst_PlotStakesAndFeedsComplete_8 : State :=
  (fun (s : State) => (fun (s : State) => { s with plots := [(3, { state := .running, furrow := 3, seq := 4, mask := 8, bypass := true, prog := some { id := 1, pasid := 5, crc := 0, views := [], cmds := [0x124, 0] } })], g := {}, drill := { feeds := [(13, { reqs := [(64, 1, true), (128, 2, false)] })] }, fab := {}, coh := {}, seed := {}, plat := {}, flt := {}, rot := {}, time := {}, slice := {}, fc := {}, pwr := { s.pwr with plotHeldOff := 0, aon := true } } : State →
    State) (serve s)) State.reset
theorem wit_PlotStakesAndFeedsComplete_8 : ∃ (p : Fin 16) (v : Nat) (l : List (Nat × Nat × Bool)) (a b : Nat),
    (wst_PlotStakesAndFeedsComplete_8).Inv ∧ (wst_PlotStakesAndFeedsComplete_8).Issues p 0x24 v [(9, 8)] ∧
    ((wst_PlotStakesAndFeedsComplete_8).feed p (fld v 9 8)).reqs = l ++ [(a, b, false)] ∧
    ((wst_PlotStakesAndFeedsComplete_8).plot p).feedWait = none :=
  ⟨(3), ((wst_PlotStakesAndFeedsComplete_8.nextCmd 3).getD 0), ([(64, 1, true)]), (128), (2), by
    unfold State.Issues State.Inv PlotsWf Plot.Wf Rises
    decide +kernel⟩

/-! ### PlotMovesComplete -/

def wst_PlotMovesComplete_0 : State :=
  (fun (s : State) => ((((fun (s : State) => { s with plots := [(3, { state := .running, furrow := 3, seq := 4, mask := 8, bypass := false, prog := some { id := 1, pasid := 5, crc := 0, views := [{ space := 1, arg := 255, x := 80, base := 0x10000, ystride := 96, y := 20 }], cmds := [0x2000000010000010000000020, 0] }, pasid := 5, tilth := [(3, 1), (64, 0x80), (0x41, 0x3C), (0x105, 0x77), (0x140, 0xC0), (0x141, 0x40)] })], g := {}, drill := {}, fab := {}, coh := {}, seed := {}, plat := {}, flt := {}, rot := {}, time := {}, slice := {}, fc := {}, pwr := { s.pwr with plotHeldOff := 0, aon := true, scrub := [] }, hbm := [(0x10005, 9), (0x10182, 7), (0x101E1, 3)], host := { s.host with poison := [], blocked := [], queue := [] }, reg := s.reg.filter (fun c => c.1 < 0x280000 || 0x300000 ≤ c.1) } : State →
    State) (serve s)).setRg (Rg.pctx 1 0) (2 ^ 63 + 2 ^ 24 + 2 ^ 25 + 2 ^ 26 + 5)).setRg (Rg.tilthSplit 3) 0)) State.reset
theorem wit_PlotMovesComplete_0 : ∃ (p : Fin 16) (v : Nat) (w : View) (l : List (Nat × Nat)) (e : List (Target × Nat)) (h : HostRead),
    (wst_PlotMovesComplete_0).Inv ∧ (wst_PlotMovesComplete_0).Issues p 0x20 v [(15, 12), (23, 16), (63, 32), (95, 64), (127, 96)] ∧
    (wst_PlotMovesComplete_0).view? p (fld v 23 16) = some w ∧
    lineRanges w ((fld v 95 64 + (wst_PlotMovesComplete_0).idx p (fld v 15 12)) % 2 ^ 64) (fld v 127 96) = some l ∧
    (wst_PlotMovesComplete_0).tref p v 32 + fld v 127 96 * w.x ≤ (wst_PlotMovesComplete_0).dataTop p ∧
    (reachRanges l (wst_PlotMovesComplete_0) p w.space ((wst_PlotMovesComplete_0).viewBase p w) .read []).2 = .ok e ∧
    (wst_PlotMovesComplete_0).Direct p ∧ Clean h :=
  ⟨(3), ((wst_PlotMovesComplete_0.nextCmd 3).getD 0), ({ space := 1, arg := 255, x := 80, base := 0x10000, ystride := 96, y := 20 }), ((lineRanges { space := 1, arg := 255, x := 80, base := 0x10000, ystride := 96, y := 20 } 4 2).getD []), (match (reachRanges ((lineRanges { space := 1, arg := 255, x := 80, base := 0x10000, ystride := 96, y := 20 } 4 2).getD []) wst_PlotMovesComplete_0 3 1 0x10000 .read []).2 with | .ok e => e | _ => []), ({}), by
    unfold State.Issues State.Direct State.Clear State.Maps State.Inv PlotsWf Plot.Wf Rises Clean
    decide +kernel⟩

def wst_PlotMovesComplete_1 : State :=
  (fun (s : State) => ((((fun (s : State) => { s with plots := [(3, { state := .running, furrow := 3, seq := 4, mask := 8, bypass := false, prog := some { id := 1, pasid := 5, crc := 0, views := [{ space := 1, arg := 255, x := 80, base := 0x10000, ystride := 96, y := 20 }], cmds := [0x1000000010000004000000021, 0] }, pasid := 5, tilth := [(3, 1), (64, 0x80), (0x41, 0x3C), (0x105, 0x77), (0x140, 0xC0), (0x141, 0x40)] })], g := {}, drill := {}, fab := {}, coh := {}, seed := {}, plat := {}, flt := {}, rot := {}, time := {}, slice := {}, fc := {}, pwr := { s.pwr with plotHeldOff := 0, aon := true, scrub := [] }, hbm := [(0x10005, 9), (0x10182, 7), (0x101E1, 3)], host := { s.host with poison := [], blocked := [], queue := [] }, reg := s.reg.filter (fun c => c.1 < 0x280000 || 0x300000 ≤ c.1) } : State →
    State) (serve s)).setRg (Rg.pctx 1 0) (2 ^ 63 + 2 ^ 24 + 2 ^ 25 + 2 ^ 26 + 5)).setRg (Rg.tilthSplit 3) 0)) State.reset
theorem wit_PlotMovesComplete_1 : ∃ (p : Fin 16) (v : Nat) (w : View) (l : List (Nat × Nat)) (e : List (Target × Nat)) (a n : Nat),
    (wst_PlotMovesComplete_1).Inv ∧ (wst_PlotMovesComplete_1).Issues p 0x21 v [(15, 12), (23, 16), (63, 32), (95, 64), (127, 96)] ∧
    (wst_PlotMovesComplete_1).view? p (fld v 23 16) = some w ∧
    lineRanges w ((fld v 95 64 + (wst_PlotMovesComplete_1).idx p (fld v 15 12)) % 2 ^ 64) (fld v 127 96) = some l ∧
    (wst_PlotMovesComplete_1).tref p v 32 + fld v 127 96 * w.x ≤ (wst_PlotMovesComplete_1).dataTop p ∧
    (reachRanges l (wst_PlotMovesComplete_1) p w.space ((wst_PlotMovesComplete_1).viewBase p w) .write []).2 = .ok e ∧
    (wst_PlotMovesComplete_1).Direct p ∧ e = [(.hbm a, n)] :=
  ⟨(3), ((wst_PlotMovesComplete_1.nextCmd 3).getD 0), ({ space := 1, arg := 255, x := 80, base := 0x10000, ystride := 96, y := 20 }), ((lineRanges { space := 1, arg := 255, x := 80, base := 0x10000, ystride := 96, y := 20 } 4 1).getD []), (match (reachRanges ((lineRanges { space := 1, arg := 255, x := 80, base := 0x10000, ystride := 96, y := 20 } 4 1).getD []) wst_PlotMovesComplete_1 3 1 0x10000 .write []).2 with | .ok e => e | _ => []), (0x10180), (80), by
    unfold State.Issues State.Direct State.Clear State.Maps State.Inv PlotsWf Plot.Wf Rises
    decide +kernel⟩

def wst_PlotMovesComplete_2 : State :=
  (fun (s : State) => ((((fun (s : State) => { s with plots := [(3, { state := .running, furrow := 3, seq := 4, mask := 8, bypass := true, prog := some { id := 1, pasid := 5, crc := 0, views := [{ space := 0, arg := 255, x := 80, base := 0x10000, ystride := 96, y := 20 }], cmds := [0x1000000010000004000000021, 0] }, pasid := 5, tilth := [(3, 1), (64, 0x80), (0x41, 0x3C), (0x105, 0x77), (0x140, 0xC0), (0x141, 0x40)] })], g := {}, drill := {}, fab := {}, coh := {}, seed := {}, plat := {}, flt := {}, rot := {}, time := {}, slice := {}, fc := {}, pwr := { s.pwr with plotHeldOff := 0, aon := true, scrub := [] }, hbm := [(0x10005, 9), (0x10182, 7), (0x101E1, 3)], host := { s.host with poison := [], blocked := [], queue := [] }, reg := s.reg.filter (fun c => c.1 < 0x280000 || 0x300000 ≤ c.1), mig := {} } : State →
    State) (serve s)).setRg (Rg.pctx 1 0) (2 ^ 63 + 2 ^ 24 + 2 ^ 25 + 2 ^ 26 + 5)).setRg (Rg.tilthSplit 3) 0)) State.reset
theorem wit_PlotMovesComplete_2 : ∃ (p : Fin 16) (v : Nat) (w : View) (l : List (Nat × Nat)) (e : List (Target × Nat)) (a n : Nat),
    (wst_PlotMovesComplete_2).Inv ∧ (wst_PlotMovesComplete_2).Issues p 0x21 v [(15, 12), (23, 16), (63, 32), (95, 64), (127, 96)] ∧
    (wst_PlotMovesComplete_2).view? p (fld v 23 16) = some w ∧
    lineRanges w ((fld v 95 64 + (wst_PlotMovesComplete_2).idx p (fld v 15 12)) % 2 ^ 64) (fld v 127 96) = some l ∧
    (wst_PlotMovesComplete_2).tref p v 32 + fld v 127 96 * w.x ≤ (wst_PlotMovesComplete_2).dataTop p ∧
    (reachRanges l (wst_PlotMovesComplete_2) p w.space ((wst_PlotMovesComplete_2).viewBase p w) .write []).2 = .ok e ∧
    (wst_PlotMovesComplete_2).Direct p ∧ (wst_PlotMovesComplete_2).WritesNow ∧ e = [(.host a, n)] ∧ 0 < n ∧ n ≤ (wst_PlotMovesComplete_2).maxPayload ∧
    a % 4096 + n ≤ 4096 ∧ (wst_PlotMovesComplete_2).mig = {} :=
  ⟨(3), ((wst_PlotMovesComplete_2.nextCmd 3).getD 0), ({ space := 0, arg := 255, x := 80, base := 0x10000, ystride := 96, y := 20 }), ((lineRanges { space := 1, arg := 255, x := 80, base := 0x10000, ystride := 96, y := 20 } 4 1).getD []), (match (reachRanges ((lineRanges { space := 1, arg := 255, x := 80, base := 0x10000, ystride := 96, y := 20 } 4 1).getD []) wst_PlotMovesComplete_2 3 0 0x10000 .write []).2 with | .ok e => e | _ => []), (0x10180), (80), by
    unfold State.WritesNow State.SendsNow State.Issues State.Direct State.Clear State.Maps State.Inv PlotsWf Plot.Wf Rises
    decide +kernel⟩

def wst_PlotMovesComplete_3 : State :=
  (fun (s : State) => ((((fun (s : State) => { s with plots := [(3, { state := .running, furrow := 3, seq := 4, mask := 8, bypass := false, prog := some { id := 1, pasid := 5, crc := 0, views := [{ space := 1, arg := 255, x := 80, base := 0x10000, ystride := 96, y := 20 }], cmds := [0xc000000080000000400022, 0] }, pasid := 5, tilth := [(3, 1), (64, 0x80), (0x41, 0x3C), (0x105, 0x77), (0x140, 0xC0), (0x141, 0x40)] })], g := {}, drill := {}, fab := {}, coh := {}, seed := {}, plat := {}, flt := {}, rot := {}, time := {}, slice := {}, fc := {}, pwr := { s.pwr with plotHeldOff := 0, aon := true, scrub := [] }, hbm := [(0x10005, 9), (0x10182, 7), (0x101E1, 3)], host := { s.host with poison := [], blocked := [], queue := [] }, reg := s.reg.filter (fun c => c.1 < 0x280000 || 0x300000 ≤ c.1) } : State →
    State) (serve s)).setRg (Rg.pctx 1 0) (2 ^ 63 + 2 ^ 24 + 2 ^ 25 + 2 ^ 26 + 5)).setRg (Rg.tilthSplit 3) 0)) State.reset
theorem wit_PlotMovesComplete_3 : ∃ (p : Fin 16) (v : Nat), (wst_PlotMovesComplete_3).Inv ∧ (wst_PlotMovesComplete_3).Issues p 0x22 v [(12, 8), (47,
    16), (79, 48), (111, 80)] ∧ (wst_PlotMovesComplete_3).tref p v 16 % 64 = 0 ∧ (wst_PlotMovesComplete_3).tref p v 48 % 64 = 0 ∧
    fld v 111 80 % 64 = 0 ∧ (wst_PlotMovesComplete_3).tref p v 16 + fld v 111 80 ≤ (wst_PlotMovesComplete_3).dataTop p ∧
    (wst_PlotMovesComplete_3).Direct p ∧ bit v 12 = false ∧
    (wst_PlotMovesComplete_3).tref p v 48 + fld v 111 80 ≤ (wst_PlotMovesComplete_3).dataTop p :=
  ⟨(3), ((wst_PlotMovesComplete_3.nextCmd 3).getD 0), by
    unfold State.Issues State.Direct State.Clear State.Maps State.Inv PlotsWf Plot.Wf Rises
    decide +kernel⟩

def wst_PlotMovesComplete_4 : State :=
  (fun (s : State) => ((((((fun (s : State) => { s with plots := [(3, { state := .running, furrow := 3, seq := 4, mask := 8, bypass := false, prog := some { id := 1, pasid := 5, crc := 0, views := [{ space := 1, arg := 255, x := 80, base := 0x10000, ystride := 96, y := 20 }], cmds := [0x4000002000000000401522, 0] }, pasid := 5, tilth := [(3, 1), (64, 0x80), (0x41, 0x3C), (0x105, 0x77), (0x140, 0xC0), (0x141, 0x40)] })], g := {}, drill := {}, fab := {}, coh := {}, seed := {}, plat := {}, flt := {}, rot := {}, time := {}, slice := {}, fc := {}, pwr := { s.pwr with plotHeldOff := 0, aon := true, scrub := [] }, hbm := [(0x10005, 9), (0x10182, 7), (0x101E1, 3)], host := { s.host with poison := [], blocked := [], queue := [] }, reg := s.reg.filter (fun c => c.1 < 0x280000 || 0x300000 ≤ c.1) } : State →
    State) (serve s)).setRg (Rg.pctx 1 0) (2 ^ 63 + 2 ^ 24 + 2 ^ 25 + 2 ^ 26 + 5)).setRg (Rg.tilthSplit 3) 0)).setPlot 5 { state := .idle, tilth := [(0x2000, 3)] }).setRg (Rg.pctx 1 0) (2 ^ 63 + 2 ^ 37 + 2 ^ 26 + 2 ^ 25 + 5)) State.reset
theorem wit_PlotMovesComplete_4 : ∃ (p : Fin 16) (v : Nat) (q : Fin 16) (o : Nat), (wst_PlotMovesComplete_4).Inv ∧
    (wst_PlotMovesComplete_4).Issues p 0x22 v [(12, 8), (47, 16), (79, 48), (111, 80)] ∧ (wst_PlotMovesComplete_4).tref p v 16 % 64 = 0 ∧
    (wst_PlotMovesComplete_4).tref p v 48 % 64 = 0 ∧ fld v 111 80 % 64 = 0 ∧
    (wst_PlotMovesComplete_4).tref p v 16 + fld v 111 80 ≤ (wst_PlotMovesComplete_4).dataTop p ∧ (wst_PlotMovesComplete_4).Direct p ∧
    bit v 12 = true ∧ (wst_PlotMovesComplete_4).tref p v 48 < 2 ^ 28 ∧
    ((wst_PlotMovesComplete_4).reachRange p 2 (fld v 11 8 * 2 ^ 28 + (wst_PlotMovesComplete_4).tref p v 48) 0 (fld v 111 80) .write).2 = .ok [(.tilth q o,
    fld v 111 80)] ∧ q ≠ p ∧ ((wst_PlotMovesComplete_4).plot q).poison = [] :=
  ⟨(3), ((wst_PlotMovesComplete_4.nextCmd 3).getD 0), (5), (0x2000), by
    unfold State.Issues State.Direct State.Clear State.Maps State.Inv PlotsWf Plot.Wf Rises
    decide +kernel⟩

def wst_PlotMovesComplete_5 : State :=
  (fun (s : State) => ((((fun (s : State) => { s with plots := [(3, { state := .running, furrow := 3, seq := 4, mask := 8, bypass := false, prog := some { id := 1, pasid := 5, crc := 0, views := [{ space := 1, arg := 255, x := 80, base := 0x10000, ystride := 96, y := 20 }], cmds := [0x4000050930, 0] }, pasid := 5, tilth := [(3, 1), (64, 0x80), (0x41, 0x3C), (0x105, 0x77), (0x140, 0xC0), (0x141, 0x40)] })], g := {}, drill := {}, fab := {}, coh := {}, seed := {}, plat := {}, flt := {}, rot := {}, time := {}, slice := {}, fc := {}, pwr := { s.pwr with plotHeldOff := 0, aon := true, scrub := [] }, hbm := [(0x10005, 9), (0x10182, 7), (0x101E1, 3)], host := { s.host with poison := [], blocked := [], queue := [] }, reg := s.reg.filter (fun c => c.1 < 0x280000 || 0x300000 ≤ c.1) } : State →
    State) (serve s)).setRg (Rg.pctx 1 0) (2 ^ 63 + 2 ^ 24 + 2 ^ 25 + 2 ^ 26 + 5)).setRg (Rg.tilthSplit 3) 0)) State.reset
theorem wit_PlotMovesComplete_5 : ∃ (p : Fin 16) (v : Nat), (wst_PlotMovesComplete_5).Inv ∧ (wst_PlotMovesComplete_5).Issues p 0x30 v [(11, 8), (23,
    16), (63, 32)] ∧ (pairMode (fld v 23 16) (fld v 23 16)).isSome = true ∧ (wst_PlotMovesComplete_5).tref p v 32 % 64 = 0 ∧
    (wst_PlotMovesComplete_5).tref p v 32 + tileBytes (fld v 23 16) ≤ (wst_PlotMovesComplete_5).dataTop p ∧ (wst_PlotMovesComplete_5).Direct p ∧
    bit v 10 = false ∧ ((wst_PlotMovesComplete_5).plot p).beds.length = 4 :=
  ⟨(3), ((wst_PlotMovesComplete_5.nextCmd 3).getD 0), by
    unfold State.Issues State.Direct State.Clear State.Maps State.Inv PlotsWf Plot.Wf Rises
    decide +kernel⟩

def wst_PlotMovesComplete_6 : State :=
  (fun (s : State) => ((((fun (s : State) => { s with plots := [(3, { state := .running, furrow := 3, seq := 4, mask := 8, bypass := false, prog := some { id := 1, pasid := 5, crc := 0, views := [{ space := 1, arg := 255, x := 80, base := 0x10000, ystride := 96, y := 20 }], cmds := [0x4000050d30, 0] }, pasid := 5, tilth := [(3, 1), (64, 0x80), (0x41, 0x3C), (0x105, 0x77), (0x140, 0xC0), (0x141, 0x40)] })], g := {}, drill := {}, fab := {}, coh := {}, seed := {}, plat := {}, flt := {}, rot := {}, time := {}, slice := {}, fc := {}, pwr := { s.pwr with plotHeldOff := 0, aon := true, scrub := [] }, hbm := [(0x10005, 9), (0x10182, 7), (0x101E1, 3)], host := { s.host with poison := [], blocked := [], queue := [] }, reg := s.reg.filter (fun c => c.1 < 0x280000 || 0x300000 ≤ c.1) } : State →
    State) (serve s)).setRg (Rg.pctx 1 0) (2 ^ 63 + 2 ^ 24 + 2 ^ 25 + 2 ^ 26 + 5)).setRg (Rg.tilthSplit 3) 0)) State.reset
theorem wit_PlotMovesComplete_6 : ∃ (p : Fin 16) (v : Nat), (wst_PlotMovesComplete_6).Inv ∧ (wst_PlotMovesComplete_6).Issues p 0x30 v [(11, 8), (23,
    16), (63, 32)] ∧ (pairMode (fld v 23 16) (fld v 23 16)).isSome = true ∧ (wst_PlotMovesComplete_6).tref p v 32 % 64 = 0 ∧
    (wst_PlotMovesComplete_6).tref p v 32 + tileBytes (fld v 23 16) ≤ (wst_PlotMovesComplete_6).dataTop p ∧ (wst_PlotMovesComplete_6).Direct p ∧
    bit v 10 = true ∧ ((wst_PlotMovesComplete_6).plot p).beds.length = 4 :=
  ⟨(3), ((wst_PlotMovesComplete_6.nextCmd 3).getD 0), by
    unfold State.Issues State.Direct State.Clear State.Maps State.Inv PlotsWf Plot.Wf Rises
    decide +kernel⟩

def wst_PlotMovesComplete_7 : State :=
  (fun (s : State) => ((((fun (s : State) => { s with plots := [(3, { state := .running, furrow := 3, seq := 4, mask := 8, bypass := false, prog := some { id := 1, pasid := 5, crc := 0, views := [{ space := 1, arg := 255, x := 80, base := 0x10000, ystride := 96, y := 20 }], cmds := [0xfff004010232, 0] }, pasid := 5, tilth := [(3, 1), (64, 0x80), (0x41, 0x3C), (0x105, 0x77), (0x140, 0xC0), (0x141, 0x40)], idx := [(4, 5)] })], g := {}, drill := {}, fab := {}, coh := {}, seed := {}, plat := {}, flt := {}, rot := {}, time := {}, slice := {}, fc := {}, pwr := { s.pwr with plotHeldOff := 0, aon := true, scrub := [] }, hbm := [(0x10005, 9), (0x10182, 7), (0x101E1, 3)], host := { s.host with poison := [], blocked := [], queue := [] }, reg := s.reg.filter (fun c => c.1 < 0x280000 || 0x300000 ≤ c.1) } : State →
    State) (serve s)).setRg (Rg.pctx 1 0) (2 ^ 63 + 2 ^ 24 + 2 ^ 25 + 2 ^ 26 + 5)).setRg (Rg.tilthSplit 3) 0)) State.reset
theorem wit_PlotMovesComplete_7 : ∃ (p : Fin 16) (v : Nat), (wst_PlotMovesComplete_7).Inv ∧ (wst_PlotMovesComplete_7).Issues p 0x32 v [(9, 8), (23,
    16), (27, 24), (47, 32)] ∧ fld v 23 16 ≤ 2 ∧ ((fld v 23 16 = 1 → -320 ≤ sext 16 (fld v 47 32 + (wst_PlotMovesComplete_7).idx p (fld v 27 24)) ∧
    sext 16 (fld v 47 32 + (wst_PlotMovesComplete_7).idx p (fld v 27 24)) ≤ 320)) ∧ ((wst_PlotMovesComplete_7).plot p).beds.length = 4 :=
  ⟨(3), ((wst_PlotMovesComplete_7.nextCmd 3).getD 0), by
    unfold State.Issues State.Inv PlotsWf Plot.Wf Rises
    decide +kernel⟩

def wst_PlotMovesComplete_8 : State :=
  (fun (s : State) => ((((fun (s : State) => { s with plots := [(3, { state := .running, furrow := 3, seq := 4, mask := 8, bypass := false, prog := some { id := 1, pasid := 5, crc := 0, views := [{ space := 1, arg := 255, x := 80, base := 0x10000, ystride := 96, y := 20 }], cmds := [0x300010000004000000233, 0] }, pasid := 5, tilth := [(3, 1), (64, 0x80), (0x41, 0x3C), (0x105, 0x77), (0x140, 0xC0), (0x141, 0x40)], beds := [{}, {}, { cells := [(768, { fix := 5 }), (780, { nan := true })] }, {}] })], g := {}, drill := {}, fab := {}, coh := {}, seed := {}, plat := {}, flt := {}, rot := {}, time := {}, slice := {}, fc := {}, pwr := { s.pwr with plotHeldOff := 0, aon := true, scrub := [] }, hbm := [(0x10005, 9), (0x10182, 7), (0x101E1, 3)], host := { s.host with poison := [], blocked := [], queue := [] }, reg := s.reg.filter (fun c => c.1 < 0x280000 || 0x300000 ≤ c.1) } : State →
    State) (serve s)).setRg (Rg.pctx 1 0) (2 ^ 63 + 2 ^ 24 + 2 ^ 25 + 2 ^ 26 + 5)).setRg (Rg.tilthSplit 3) 0)) State.reset
theorem wit_PlotMovesComplete_8 : ∃ (p : Fin 16) (v : Nat), (wst_PlotMovesComplete_8).Inv ∧ (wst_PlotMovesComplete_8).Issues p 0x33 v [(9, 8), (63,
    32), (79, 64), (95, 80)] ∧ rowsOk (fld v 79 64) (fld v 95 80) = true ∧ (wst_PlotMovesComplete_8).tref p v 32 % 64 = 0 ∧
    (wst_PlotMovesComplete_8).tref p v 32 + fld v 79 64 * 4096 ≤ (wst_PlotMovesComplete_8).dataTop p ∧ (wst_PlotMovesComplete_8).Direct p ∧
    ((wst_PlotMovesComplete_8).plot p).beds.length = 4 :=
  ⟨(3), ((wst_PlotMovesComplete_8.nextCmd 3).getD 0), by
    unfold State.Issues State.Direct State.Clear State.Maps State.Inv PlotsWf Plot.Wf Rises
    decide +kernel⟩

/-! ### BedsAndReductionsComplete -/

def wst_BedsAndReductionsComplete_0 : State :=
  (fun (s : State) => ((((fun (s : State) => { s with plots := [(3, { state := .running, furrow := 3, seq := 4, mask := 8, bypass := false, prog := some { id := 1, pasid := 5, crc := 0, views := [{ space := 1, arg := 255, x := 80, base := 0x10000, ystride := 96, y := 20 }], cmds := [0x300020000004000050131, 0] }, pasid := 5, tilth := [(3, 1), (64, 0x80), (0x41, 0x3C), (0x105, 0x77), (0x140, 0xC0), (0x141, 0x40)], beds := [{}, { mode := 2, ew := 88, buf0 := { ty := 5, data := (List.range 65536).map (fun n => BitVec.ofNat 8 (n * 7 + n / 256)) }, cells := [(768, { fix := 5 })] }, {}, {}] })], g := {}, drill := {}, fab := {}, coh := {}, seed := {}, plat := {}, flt := {}, rot := {}, time := {}, slice := {}, fc := {}, pwr := { s.pwr with plotHeldOff := 0, aon := true, scrub := [] }, hbm := [(0x10005, 9), (0x10182, 7), (0x101E1, 3)], host := { s.host with poison := [], blocked := [], queue := [] }, reg := s.reg.filter (fun c => c.1 < 0x280000 || 0x300000 ≤ c.1) } : State →
    State) (serve s)).setRg (Rg.pctx 1 0) (2 ^ 63 + 2 ^ 24 + 2 ^ 25 + 2 ^ 26 + 5)).setRg (Rg.tilthSplit 3) 0)) State.reset
theorem wit_BedsAndReductionsComplete_0 : ∃ (p : Fin 16) (v : Nat) (x : Tile) (k : Nat), (wst_BedsAndReductionsComplete_0).Inv ∧
    (wst_BedsAndReductionsComplete_0).Issues p 0x31 v [(10, 8), (23, 16), (63, 32), (79, 64), (95, 80)] ∧
    x = (if bit v 10 then ((wst_BedsAndReductionsComplete_0).bed p (fld v 9 8)).buf1 else ((wst_BedsAndReductionsComplete_0).bed p (fld v 9 8)).buf0) ∧
    pairMode x.ty (fld v 23 16) = some ((wst_BedsAndReductionsComplete_0).bed p (fld v 9 8)).mode ∧ rowsOk (fld v 79 64) (fld v 95 80) = true ∧
    (wst_BedsAndReductionsComplete_0).tref p v 32 % 64 = 0 ∧ k = depthOf (fld v 23 16) ∧
    (wst_BedsAndReductionsComplete_0).tref p v 32 + fld v 79 64 * (k * typeBits (fld v 23 16) / 8) ≤ (wst_BedsAndReductionsComplete_0).dataTop p ∧
    (wst_BedsAndReductionsComplete_0).Direct p ∧ depthOf x.ty = k ∧ ((wst_BedsAndReductionsComplete_0).plot p).beds.length = 4 :=
  ⟨(3), ((wst_BedsAndReductionsComplete_0.nextCmd 3).getD 0), ((if bit ((wst_BedsAndReductionsComplete_0.nextCmd 3).getD 0) 10 then (wst_BedsAndReductionsComplete_0.bed 3 (fld ((wst_BedsAndReductionsComplete_0.nextCmd 3).getD 0) 9 8)).buf1 else (wst_BedsAndReductionsComplete_0.bed 3 (fld ((wst_BedsAndReductionsComplete_0.nextCmd 3).getD 0) 9 8)).buf0)), (256), by
    unfold State.Issues State.Direct State.Clear State.Maps State.Inv PlotsWf Plot.Wf Rises
    refine ⟨?_, ?_, rfl, ?_, ?_, ?_, ?_, ?_, ?_, ?_, ?_⟩ <;> decide +kernel⟩

def wst_BedsAndReductionsComplete_1 : State :=
  (fun (s : State) => ((((fun (s : State) => { s with plots := [(3, { state := .running, furrow := 3, seq := 4, mask := 8, bypass := false, prog := some { id := 1, pasid := 5, crc := 0, views := [{ space := 1, arg := 255, x := 80, base := 0x10000, ystride := 96, y := 20 }], cmds := [0x300010000008000000134, 0] }, pasid := 5, tilth := [(3, 1), (64, 0x80), (0x41, 0x3C), (0x105, 0x77), (0x140, 0xC0), (0x141, 0x40)], beds := [{}, { mode := 2, ew := 88, cells := [(768, { fix := 5 }), (800, { fix := -3, inexact := true }), (801, { pinf := true })] }, {}, {}] })], g := {}, drill := {}, fab := {}, coh := {}, seed := {}, plat := {}, flt := {}, rot := {}, time := {}, slice := {}, fc := {}, pwr := { s.pwr with plotHeldOff := 0, aon := true, scrub := [] }, hbm := [(0x10005, 9), (0x10182, 7), (0x101E1, 3)], host := { s.host with poison := [], blocked := [], queue := [] }, reg := s.reg.filter (fun c => c.1 < 0x280000 || 0x300000 ≤ c.1) } : State →
    State) (serve s)).setRg (Rg.pctx 1 0) (2 ^ 63 + 2 ^ 24 + 2 ^ 25 + 2 ^ 26 + 5)).setRg (Rg.tilthSplit 3) 0)) State.reset
theorem wit_BedsAndReductionsComplete_1 : ∃ (p : Fin 16) (v : Nat) (y : Nat), (wst_BedsAndReductionsComplete_1).Inv ∧
    (wst_BedsAndReductionsComplete_1).Issues p 0x34 v [(9, 8), (13, 11), (63, 32), (79, 64), (95, 80)] ∧ ((fld v 13 11 = 0 ∧ y = 4) ∨
    (fld v 13 11 = 1 ∧ y = 2) ∨ (fld v 13 11 = 2 ∧ y = 3)) ∧ rowsOk (fld v 79 64) (fld v 95 80) = true ∧
    (wst_BedsAndReductionsComplete_1).tref p v 32 % 64 = 0 ∧
    (wst_BedsAndReductionsComplete_1).tref p v 32 + fld v 79 64 * 32 * typeBits y ≤ (wst_BedsAndReductionsComplete_1).dataTop p ∧
    (wst_BedsAndReductionsComplete_1).Direct p ∧ ((wst_BedsAndReductionsComplete_1).bed p (fld v 9 8)).bad = [] :=
  ⟨(3), ((wst_BedsAndReductionsComplete_1.nextCmd 3).getD 0), (4), by
    unfold State.Issues State.Direct State.Clear State.Maps State.Inv PlotsWf Plot.Wf Rises
    decide +kernel⟩

def wst_BedsAndReductionsComplete_2 : State :=
  (fun (s : State) => ((((fun (s : State) => { s with plots := [(3, { state := .running, furrow := 3, seq := 4, mask := 8, bypass := false, prog := some { id := 1, pasid := 5, crc := 0, views := [{ space := 1, arg := 255, x := 80, base := 0x10000, ystride := 96, y := 20 }], cmds := [0x300010000008000001934, 0] }, pasid := 5, tilth := [(3, 1), (64, 0x80), (0x41, 0x3C), (0x105, 0x77), (0x140, 0xC0), (0x141, 0x40)], beds := [{}, { mode := 2, ew := 88, cells := [(768, { fix := 5 }), (800, { fix := -3, inexact := true }), (801, { pinf := true })] }, {}, {}] })], g := {}, drill := {}, fab := {}, coh := {}, seed := {}, plat := {}, flt := {}, rot := {}, time := {}, slice := {}, fc := {}, pwr := { s.pwr with plotHeldOff := 0, aon := true, scrub := [] }, hbm := [(0x10005, 9), (0x10182, 7), (0x101E1, 3)], host := { s.host with poison := [], blocked := [], queue := [] }, reg := s.reg.filter (fun c => c.1 < 0x280000 || 0x300000 ≤ c.1) } : State →
    State) (serve s)).setRg (Rg.pctx 1 0) (2 ^ 63 + 2 ^ 24 + 2 ^ 25 + 2 ^ 26 + 5)).setRg (Rg.tilthSplit 3) 0)) State.reset
theorem wit_BedsAndReductionsComplete_2 : ∃ (p : Fin 16) (v : Nat), (wst_BedsAndReductionsComplete_2).Inv ∧
    (wst_BedsAndReductionsComplete_2).Issues p 0x34 v [(9, 8), (13, 11), (63, 32), (79, 64), (95, 80)] ∧ fld v 13 11 = 3 ∧
    rowsOk (fld v 79 64) (fld v 95 80) = true ∧ (wst_BedsAndReductionsComplete_2).tref p v 32 % 64 = 0 ∧
    (wst_BedsAndReductionsComplete_2).tref p v 32 + fld v 79 64 * 4096 ≤ (wst_BedsAndReductionsComplete_2).dataTop p ∧
    (wst_BedsAndReductionsComplete_2).Direct p ∧ ((wst_BedsAndReductionsComplete_2).bed p (fld v 9 8)).bad = [] :=
  ⟨(3), ((wst_BedsAndReductionsComplete_2.nextCmd 3).getD 0), by
    unfold State.Issues State.Direct State.Clear State.Maps State.Inv PlotsWf Plot.Wf Rises
    decide +kernel⟩

def wst_BedsAndReductionsComplete_3 : State :=
  (fun (s : State) => ((((fun (s : State) => { s with plots := [(3, { state := .running, furrow := 3, seq := 4, mask := 8, bypass := false, prog := some { id := 1, pasid := 5, crc := 0, views := [{ space := 1, arg := 255, x := 80, base := 0x10000, ystride := 96, y := 20 }], cmds := [0x300010000008000002134, 0] }, pasid := 5, tilth := [(3, 1), (64, 0x80), (0x41, 0x3C), (0x105, 0x77), (0x140, 0xC0), (0x141, 0x40)], beds := [{}, { mode := 2, ew := 88, cells := [(768, { fix := 5 }), (800, { fix := -3, inexact := true }), (801, { fix := 2 ^ 40 }), (802, { fix := -(2 ^ 40) })] }, {}, {}] })], g := {}, drill := {}, fab := {}, coh := {}, seed := {}, plat := {}, flt := {}, rot := {}, time := {}, slice := {}, fc := {}, pwr := { s.pwr with plotHeldOff := 0, aon := true, scrub := [] }, hbm := [(0x10005, 9), (0x10182, 7), (0x101E1, 3)], host := { s.host with poison := [], blocked := [], queue := [] }, reg := s.reg.filter (fun c => c.1 < 0x280000 || 0x300000 ≤ c.1) } : State →
    State) (serve s)).setRg (Rg.pctx 1 0) (2 ^ 63 + 2 ^ 24 + 2 ^ 25 + 2 ^ 26 + 5)).setRg (Rg.tilthSplit 3) 0)) State.reset
theorem wit_BedsAndReductionsComplete_3 : ∃ (p : Fin 16) (v : Nat), (wst_BedsAndReductionsComplete_3).Inv ∧
    (wst_BedsAndReductionsComplete_3).Issues p 0x34 v [(9, 8), (13, 11), (63, 32), (79, 64), (95, 80)] ∧ fld v 13 11 = 4 ∧
    ((wst_BedsAndReductionsComplete_3).bed p (fld v 9 8)).mode = 2 ∧ rowsOk (fld v 79 64) (fld v 95 80) = true ∧
    (wst_BedsAndReductionsComplete_3).tref p v 32 % 64 = 0 ∧
    (wst_BedsAndReductionsComplete_3).tref p v 32 + fld v 79 64 * 1024 ≤ (wst_BedsAndReductionsComplete_3).dataTop p ∧
    (wst_BedsAndReductionsComplete_3).Direct p ∧ ((wst_BedsAndReductionsComplete_3).bed p (fld v 9 8)).bad = [] :=
  ⟨(3), ((wst_BedsAndReductionsComplete_3.nextCmd 3).getD 0), by
    unfold State.Issues State.Direct State.Clear State.Maps State.Inv PlotsWf Plot.Wf Rises
    decide +kernel⟩

def wst_BedsAndReductionsComplete_4 : State :=
  (fun (s : State) => ((((fun (s : State) => { s with plots := [(3, { state := .running, furrow := 3, seq := 4, mask := 8, bypass := false, prog := some { id := 1, pasid := 5, crc := 0, views := [{ space := 1, arg := 255, x := 80, base := 0x10000, ystride := 96, y := 20 }], cmds := [0x18000100000200000000402045, 0] }, pasid := 5, tilth := [(3, 1), (64, 0x80), (0x41, 0x3C), (0x105, 0x77), (0x140, 0xC0), (0x141, 0x40)] })], g := {}, drill := {}, fab := {}, coh := {}, seed := {}, plat := {}, flt := {}, rot := {}, time := {}, slice := {}, fc := {}, pwr := { s.pwr with plotHeldOff := 0, aon := true, scrub := [] }, hbm := [(0x10005, 9), (0x10182, 7), (0x101E1, 3)], host := { s.host with poison := [], blocked := [], queue := [] }, reg := s.reg.filter (fun c => c.1 < 0x280000 || 0x300000 ≤ c.1) } : State →
    State) (serve s)).setRg (Rg.pctx 1 0) (2 ^ 63 + 2 ^ 24 + 2 ^ 25 + 2 ^ 26 + 5)).setRg (Rg.tilthSplit 3) 0)) State.reset
theorem wit_BedsAndReductionsComplete_4 : ∃ (p : Fin 16) (v : Nat), (wst_BedsAndReductionsComplete_4).Inv ∧
    (wst_BedsAndReductionsComplete_4).Issues p 0x45 v [(15, 8), (47, 16), (79, 48), (95, 80), (111, 96)] ∧ ((fld v 15 12 = 2 ∨ fld v 15 12 = 3 ∨
    fld v 15 12 = 4)) ∧ fld v 95 80 ≠ 0 ∧ (wst_BedsAndReductionsComplete_4).tref p v 16 % 64 = 0 ∧
    (wst_BedsAndReductionsComplete_4).tref p v 16 + ((fld v 95 80 * 64) * typeBits (fld v 15 12) / 8) ≤ (wst_BedsAndReductionsComplete_4).dataTop p ∧
    (wst_BedsAndReductionsComplete_4).Direct p ∧ fld v 11 8 = 0 ∧ (wst_BedsAndReductionsComplete_4).tref p v 48 % 64 = 0 ∧
    (wst_BedsAndReductionsComplete_4).tref p v 48 + 16 ≤ (wst_BedsAndReductionsComplete_4).dataTop p :=
  ⟨(3), ((wst_BedsAndReductionsComplete_4.nextCmd 3).getD 0), by
    unfold State.Issues State.Direct State.Clear State.Maps State.Inv PlotsWf Plot.Wf Rises
    decide +kernel⟩

def wst_BedsAndReductionsComplete_5 : State :=
  (fun (s : State) => ((((fun (s : State) => { s with plots := [(3, { state := .running, furrow := 3, seq := 4, mask := 8, bypass := false, prog := some { id := 1, pasid := 5, crc := 0, views := [{ space := 1, arg := 255, x := 80, base := 0x10000, ystride := 96, y := 20 }], cmds := [0x100000200000000404345, 0] }, pasid := 5, tilth := [(3, 1), (64, 0x80), (0x41, 0x3C), (0x105, 0x77), (0x140, 0xC0), (0x141, 0x40)] })], g := {}, drill := {}, fab := {}, coh := {}, seed := {}, plat := {}, flt := {}, rot := {}, time := {}, slice := {}, fc := {}, pwr := { s.pwr with plotHeldOff := 0, aon := true, scrub := [] }, hbm := [(0x10005, 9), (0x10182, 7), (0x101E1, 3)], host := { s.host with poison := [], blocked := [], queue := [] }, reg := s.reg.filter (fun c => c.1 < 0x280000 || 0x300000 ≤ c.1) } : State →
    State) (serve s)).setRg (Rg.pctx 1 0) (2 ^ 63 + 2 ^ 24 + 2 ^ 25 + 2 ^ 26 + 5)).setRg (Rg.tilthSplit 3) 0)) State.reset
theorem wit_BedsAndReductionsComplete_5 : ∃ (p : Fin 16) (v : Nat), (wst_BedsAndReductionsComplete_5).Inv ∧
    (wst_BedsAndReductionsComplete_5).Issues p 0x45 v [(15, 8), (47, 16), (79, 48), (95, 80), (111, 96)] ∧ ((fld v 15 12 = 2 ∨ fld v 15 12 = 3 ∨
    fld v 15 12 = 4)) ∧ fld v 95 80 ≠ 0 ∧ (wst_BedsAndReductionsComplete_5).tref p v 16 % 64 = 0 ∧
    (wst_BedsAndReductionsComplete_5).tref p v 16 + ((fld v 95 80 * 64) * typeBits (fld v 15 12) / 8) ≤ (wst_BedsAndReductionsComplete_5).dataTop p ∧
    (wst_BedsAndReductionsComplete_5).Direct p ∧ fld v 11 8 = 3 ∧ (wst_BedsAndReductionsComplete_5).tref p v 48 % 64 = 0 ∧
    (wst_BedsAndReductionsComplete_5).tref p v 48 + 8 ≤ (wst_BedsAndReductionsComplete_5).dataTop p :=
  ⟨(3), ((wst_BedsAndReductionsComplete_5.nextCmd 3).getD 0), by
    unfold State.Issues State.Direct State.Clear State.Maps State.Inv PlotsWf Plot.Wf Rises
    decide +kernel⟩

def wst_BedsAndReductionsComplete_6 : State :=
  (fun (s : State) => ((((fun (s : State) => { s with plots := [(3, { state := .running, furrow := 3, seq := 4, mask := 8, bypass := false, prog := some { id := 1, pasid := 5, crc := 0, views := [{ space := 1, arg := 255, x := 80, base := 0x10000, ystride := 96, y := 20 }], cmds := [0x100000200000000404145, 0] }, pasid := 5, tilth := [(3, 1), (64, 0x80), (0x41, 0x3C), (0x105, 0x77), (0x140, 0xC0), (0x141, 0x40)] })], g := {}, drill := {}, fab := {}, coh := {}, seed := {}, plat := {}, flt := {}, rot := {}, time := {}, slice := {}, fc := {}, pwr := { s.pwr with plotHeldOff := 0, aon := true, scrub := [] }, hbm := [(0x10005, 9), (0x10182, 7), (0x101E1, 3)], host := { s.host with poison := [], blocked := [], queue := [] }, reg := s.reg.filter (fun c => c.1 < 0x280000 || 0x300000 ≤ c.1) } : State →
    State) (serve s)).setRg (Rg.pctx 1 0) (2 ^ 63 + 2 ^ 24 + 2 ^ 25 + 2 ^ 26 + 5)).setRg (Rg.tilthSplit 3) 0)) State.reset
theorem wit_BedsAndReductionsComplete_6 : ∃ (p : Fin 16) (v : Nat) (g : Bool), (wst_BedsAndReductionsComplete_6).Inv ∧
    (wst_BedsAndReductionsComplete_6).Issues p 0x45 v [(15, 8), (47, 16), (79, 48), (95, 80), (111, 96)] ∧ ((fld v 15 12 = 2 ∨ fld v 15 12 = 3 ∨
    fld v 15 12 = 4)) ∧ fld v 95 80 ≠ 0 ∧ (wst_BedsAndReductionsComplete_6).tref p v 16 % 64 = 0 ∧
    (wst_BedsAndReductionsComplete_6).tref p v 16 + ((fld v 95 80 * 64) * typeBits (fld v 15 12) / 8) ≤ (wst_BedsAndReductionsComplete_6).dataTop p ∧
    (wst_BedsAndReductionsComplete_6).Direct p ∧ fld v 11 8 = (if g then 1 else 2) ∧ (wst_BedsAndReductionsComplete_6).tref p v 48 % 64 = 0 ∧
    (wst_BedsAndReductionsComplete_6).tref p v 48 + typeBits (fld v 15 12) / 8 ≤ (wst_BedsAndReductionsComplete_6).dataTop p :=
  ⟨(3), ((wst_BedsAndReductionsComplete_6.nextCmd 3).getD 0), (true), by
    unfold State.Issues State.Direct State.Clear State.Maps State.Inv PlotsWf Plot.Wf Rises
    decide +kernel⟩

def wst_BedsAndReductionsComplete_7 : State :=
  (fun (s : State) => ((((fun (s : State) => { s with plots := [(3, { state := .running, furrow := 3, seq := 4, mask := 8, bypass := false, prog := some { id := 1, pasid := 5, crc := 0, views := [{ space := 1, arg := 255, x := 80, base := 0x10000, ystride := 96, y := 20 }], cmds := [0x10000080000000100000000400046, 0] }, pasid := 5, tilth := [(3, 1), (64, 0x80), (0x41, 0x3C), (0x105, 0x77), (0x140, 0xC0), (0x141, 0x40)] })], g := {}, drill := {}, fab := {}, coh := {}, seed := {}, plat := {}, flt := {}, rot := {}, time := {}, slice := {}, fc := {}, pwr := { s.pwr with plotHeldOff := 0, aon := true, scrub := [] }, hbm := [(0x10005, 9), (0x10182, 7), (0x101E1, 3)], host := { s.host with poison := [], blocked := [], queue := [] }, reg := s.reg.filter (fun c => c.1 < 0x280000 || 0x300000 ≤ c.1) } : State →
    State) (serve s)).setRg (Rg.pctx 1 0) (2 ^ 63 + 2 ^ 24 + 2 ^ 25 + 2 ^ 26 + 5)).setRg (Rg.tilthSplit 3) 0)) State.reset
theorem wit_BedsAndReductionsComplete_7 : ∃ (p : Fin 16) (v : Nat), (wst_BedsAndReductionsComplete_7).Inv ∧
    (wst_BedsAndReductionsComplete_7).Issues p 0x46 v [(47, 16), (79, 48), (111, 80), (127, 112)] ∧ fld v 127 112 ≠ 0 ∧
    (wst_BedsAndReductionsComplete_7).tref p v 16 % 64 = 0 ∧
    (wst_BedsAndReductionsComplete_7).tref p v 16 + 16 * (fld v 127 112 * 64) ≤ (wst_BedsAndReductionsComplete_7).dataTop p ∧
    (wst_BedsAndReductionsComplete_7).tref p v 48 % 64 = 0 ∧
    (wst_BedsAndReductionsComplete_7).tref p v 48 + 16 * (fld v 127 112 * 64) ≤ (wst_BedsAndReductionsComplete_7).dataTop p ∧
    (wst_BedsAndReductionsComplete_7).tref p v 80 % 64 = 0 ∧
    (wst_BedsAndReductionsComplete_7).tref p v 80 + 16 * (fld v 127 112 * 64) ≤ (wst_BedsAndReductionsComplete_7).dataTop p ∧
    (wst_BedsAndReductionsComplete_7).Direct p :=
  ⟨(3), ((wst_BedsAndReductionsComplete_7.nextCmd 3).getD 0), by
    unfold State.Issues State.Direct State.Clear State.Maps State.Inv PlotsWf Plot.Wf Rises
    decide +kernel⟩

def wst_BedsAndReductionsComplete_8 : State :=
  (fun (s : State) => ((((fun (s : State) => { s with plots := [(3, { state := .running, furrow := 3, seq := 4, mask := 8, bypass := false, prog := some { id := 1, pasid := 5, crc := 0, views := [{ space := 1, arg := 255, x := 80, base := 0x10000, ystride := 96, y := 20 }], cmds := [0x18000100000800000000400447, 0] }, pasid := 5, tilth := [(3, 1), (64, 0x80), (0x41, 0x3C), (0x105, 0x77), (0x140, 0xC0), (0x141, 0x40)] })], g := {}, drill := {}, fab := {}, coh := {}, seed := {}, plat := {}, flt := {}, rot := {}, time := {}, slice := {}, fc := {}, pwr := { s.pwr with plotHeldOff := 0, aon := true, scrub := [] }, hbm := [(0x10005, 9), (0x10182, 7), (0x101E1, 3)], host := { s.host with poison := [], blocked := [], queue := [] }, reg := s.reg.filter (fun c => c.1 < 0x280000 || 0x300000 ≤ c.1) } : State →
    State) (serve s)).setRg (Rg.pctx 1 0) (2 ^ 63 + 2 ^ 24 + 2 ^ 25 + 2 ^ 26 + 5)).setRg (Rg.tilthSplit 3) 0)) State.reset
theorem wit_BedsAndReductionsComplete_8 : ∃ (p : Fin 16) (v : Nat), (wst_BedsAndReductionsComplete_8).Inv ∧
    (wst_BedsAndReductionsComplete_8).Issues p 0x47 v [(11, 8), (47, 16), (79, 48), (95, 80), (111, 96)] ∧ ((fld v 11 8 = 2 ∨ fld v 11 8 = 3 ∨
    fld v 11 8 = 4)) ∧ fld v 95 80 ≠ 0 ∧ (wst_BedsAndReductionsComplete_8).tref p v 16 % 64 = 0 ∧
    (wst_BedsAndReductionsComplete_8).tref p v 16 + 16 * (fld v 95 80 * 64) ≤ (wst_BedsAndReductionsComplete_8).dataTop p ∧
    (wst_BedsAndReductionsComplete_8).tref p v 48 % 64 = 0 ∧
    (wst_BedsAndReductionsComplete_8).tref p v 48 + ((fld v 95 80 * 64) * typeBits (fld v 11 8) / 8) ≤ (wst_BedsAndReductionsComplete_8).dataTop p ∧
    (wst_BedsAndReductionsComplete_8).Direct p :=
  ⟨(3), ((wst_BedsAndReductionsComplete_8.nextCmd 3).getD 0), by
    unfold State.Issues State.Direct State.Clear State.Maps State.Inv PlotsWf Plot.Wf Rises
    decide +kernel⟩

/-! ### VectorCommandsComplete -/

def wst_VectorCommandsComplete_0 : State :=
  (fun (s : State) => ((((fun (s : State) => { s with plots := [(3, { state := .running, furrow := 3, seq := 4, mask := 8, bypass := false, prog := some { id := 1, pasid := 5, crc := 0, views := [{ space := 1, arg := 255, x := 80, base := 0x10000, ystride := 96, y := 20 }], cmds := [0x10000080000000100000000402040, 0] }, pasid := 5, tilth := [(3, 1), (64, 0x80), (0x41, 0x3C), (0x105, 0x77), (0x140, 0xC0), (0x141, 0x40)] })], g := {}, drill := {}, fab := {}, coh := {}, seed := {}, plat := {}, flt := {}, rot := {}, time := {}, slice := {}, fc := {}, pwr := { s.pwr with plotHeldOff := 0, aon := true, scrub := [] }, hbm := [(0x10005, 9), (0x10182, 7), (0x101E1, 3)], host := { s.host with poison := [], blocked := [], queue := [] }, reg := s.reg.filter (fun c => c.1 < 0x280000 || 0x300000 ≤ c.1) } : State →
    State) (serve s)).setRg (Rg.pctx 1 0) (2 ^ 63 + 2 ^ 24 + 2 ^ 25 + 2 ^ 26 + 5)).setRg (Rg.tilthSplit 3) 0)) State.reset
theorem wit_VectorCommandsComplete_0 : ∃ (p : Fin 16) (v : Nat) (r : List Nat), (wst_VectorCommandsComplete_0).Inv ∧
    (wst_VectorCommandsComplete_0).Issues p 0x40 v [(15, 8), (47, 16), (79, 48), (111, 80), (127, 112)] ∧ ((fld v 15 12 = 2 ∨ fld v 15 12 = 3 ∨
    fld v 15 12 = 4)) ∧ fld v 127 112 ≠ 0 ∧ (wst_VectorCommandsComplete_0).tref p v 16 % 64 = 0 ∧
    (wst_VectorCommandsComplete_0).tref p v 16 + ((fld v 127 112 * 64) * typeBits (fld v 15 12) / 8) ≤ (wst_VectorCommandsComplete_0).dataTop p ∧
    (wst_VectorCommandsComplete_0).tref p v 48 % 64 = 0 ∧
    (wst_VectorCommandsComplete_0).tref p v 48 + ((fld v 127 112 * 64) * typeBits (fld v 15 12) / 8) ≤ (wst_VectorCommandsComplete_0).dataTop p ∧
    (wst_VectorCommandsComplete_0).tref p v 80 % 64 = 0 ∧
    (wst_VectorCommandsComplete_0).tref p v 80 + ((fld v 127 112 * 64) * typeBits (fld v 15 12) / 8) ≤ (wst_VectorCommandsComplete_0).dataTop p ∧
    (wst_VectorCommandsComplete_0).Direct p ∧ fld v 11 8 = 0 ∧
    r = (((wst_VectorCommandsComplete_0).operand p ((wst_VectorCommandsComplete_0).tref p v 16) (fld v 15 12) (fld v 127 112 * 64)).zip ((wst_VectorCommandsComplete_0).operand p ((wst_VectorCommandsComplete_0).tref p v 48) (fld v 15 12) (fld v 127 112 * 64))).map (fun x => (encodeNum (fld v 15 12) .nearest ((numOf (fld v 15 12) x.1).add (numOf (fld v 15 12) x.2))).1) :=
  ⟨(3), ((wst_VectorCommandsComplete_0.nextCmd 3).getD 0), (((wst_VectorCommandsComplete_0.operand 3 (wst_VectorCommandsComplete_0.tref 3 ((wst_VectorCommandsComplete_0.nextCmd 3).getD 0) 16) (fld ((wst_VectorCommandsComplete_0.nextCmd 3).getD 0) 15 12) (fld ((wst_VectorCommandsComplete_0.nextCmd 3).getD 0) 127 112 * 64)).zip (wst_VectorCommandsComplete_0.operand 3 (wst_VectorCommandsComplete_0.tref 3 ((wst_VectorCommandsComplete_0.nextCmd 3).getD 0) 48) (fld ((wst_VectorCommandsComplete_0.nextCmd 3).getD 0) 15 12) (fld ((wst_VectorCommandsComplete_0.nextCmd 3).getD 0) 127 112 * 64))).map (fun x => (encodeNum (fld ((wst_VectorCommandsComplete_0.nextCmd 3).getD 0) 15 12) .nearest ((numOf (fld ((wst_VectorCommandsComplete_0.nextCmd 3).getD 0) 15 12) x.1).add (numOf (fld ((wst_VectorCommandsComplete_0.nextCmd 3).getD 0) 15 12) x.2))).1)), by
    unfold State.Issues State.Direct State.Clear State.Maps State.Inv PlotsWf Plot.Wf Rises
    decide +kernel⟩

def wst_VectorCommandsComplete_1 : State :=
  (fun (s : State) => ((((fun (s : State) => { s with plots := [(3, { state := .running, furrow := 3, seq := 4, mask := 8, bypass := false, prog := some { id := 1, pasid := 5, crc := 0, views := [{ space := 1, arg := 255, x := 80, base := 0x10000, ystride := 96, y := 20 }], cmds := [0x10000080000000100000000402140, 0] }, pasid := 5, tilth := [(3, 1), (64, 0x80), (0x41, 0x3C), (0x105, 0x77), (0x140, 0xC0), (0x141, 0x40)] })], g := {}, drill := {}, fab := {}, coh := {}, seed := {}, plat := {}, flt := {}, rot := {}, time := {}, slice := {}, fc := {}, pwr := { s.pwr with plotHeldOff := 0, aon := true, scrub := [] }, hbm := [(0x10005, 9), (0x10182, 7), (0x101E1, 3)], host := { s.host with poison := [], blocked := [], queue := [] }, reg := s.reg.filter (fun c => c.1 < 0x280000 || 0x300000 ≤ c.1) } : State →
    State) (serve s)).setRg (Rg.pctx 1 0) (2 ^ 63 + 2 ^ 24 + 2 ^ 25 + 2 ^ 26 + 5)).setRg (Rg.tilthSplit 3) 0)) State.reset
theorem wit_VectorCommandsComplete_1 : ∃ (p : Fin 16) (v : Nat) (r : List Nat), (wst_VectorCommandsComplete_1).Inv ∧
    (wst_VectorCommandsComplete_1).Issues p 0x40 v [(15, 8), (47, 16), (79, 48), (111, 80), (127, 112)] ∧ ((fld v 15 12 = 2 ∨ fld v 15 12 = 3 ∨
    fld v 15 12 = 4)) ∧ fld v 127 112 ≠ 0 ∧ (wst_VectorCommandsComplete_1).tref p v 16 % 64 = 0 ∧
    (wst_VectorCommandsComplete_1).tref p v 16 + ((fld v 127 112 * 64) * typeBits (fld v 15 12) / 8) ≤ (wst_VectorCommandsComplete_1).dataTop p ∧
    (wst_VectorCommandsComplete_1).tref p v 48 % 64 = 0 ∧
    (wst_VectorCommandsComplete_1).tref p v 48 + ((fld v 127 112 * 64) * typeBits (fld v 15 12) / 8) ≤ (wst_VectorCommandsComplete_1).dataTop p ∧
    (wst_VectorCommandsComplete_1).tref p v 80 % 64 = 0 ∧
    (wst_VectorCommandsComplete_1).tref p v 80 + ((fld v 127 112 * 64) * typeBits (fld v 15 12) / 8) ≤ (wst_VectorCommandsComplete_1).dataTop p ∧
    (wst_VectorCommandsComplete_1).Direct p ∧ fld v 11 8 = 1 ∧
    r = (((wst_VectorCommandsComplete_1).operand p ((wst_VectorCommandsComplete_1).tref p v 16) (fld v 15 12) (fld v 127 112 * 64)).zip ((wst_VectorCommandsComplete_1).operand p ((wst_VectorCommandsComplete_1).tref p v 48) (fld v 15 12) (fld v 127 112 * 64))).map (fun x => (encodeNum (fld v 15 12) .nearest ((numOf (fld v 15 12) x.1).add (numOf (fld v 15 12) x.2).negate)).1) :=
  ⟨(3), ((wst_VectorCommandsComplete_1.nextCmd 3).getD 0), (((wst_VectorCommandsComplete_1.operand 3 (wst_VectorCommandsComplete_1.tref 3 ((wst_VectorCommandsComplete_1.nextCmd 3).getD 0) 16) (fld ((wst_VectorCommandsComplete_1.nextCmd 3).getD 0) 15 12) (fld ((wst_VectorCommandsComplete_1.nextCmd 3).getD 0) 127 112 * 64)).zip (wst_VectorCommandsComplete_1.operand 3 (wst_VectorCommandsComplete_1.tref 3 ((wst_VectorCommandsComplete_1.nextCmd 3).getD 0) 48) (fld ((wst_VectorCommandsComplete_1.nextCmd 3).getD 0) 15 12) (fld ((wst_VectorCommandsComplete_1.nextCmd 3).getD 0) 127 112 * 64))).map (fun x => (encodeNum (fld ((wst_VectorCommandsComplete_1.nextCmd 3).getD 0) 15 12) .nearest ((numOf (fld ((wst_VectorCommandsComplete_1.nextCmd 3).getD 0) 15 12) x.1).add (numOf (fld ((wst_VectorCommandsComplete_1.nextCmd 3).getD 0) 15 12) x.2).negate)).1)), by
    unfold State.Issues State.Direct State.Clear State.Maps State.Inv PlotsWf Plot.Wf Rises
    decide +kernel⟩

def wst_VectorCommandsComplete_2 : State :=
  (fun (s : State) => ((((fun (s : State) => { s with plots := [(3, { state := .running, furrow := 3, seq := 4, mask := 8, bypass := false, prog := some { id := 1, pasid := 5, crc := 0, views := [{ space := 1, arg := 255, x := 80, base := 0x10000, ystride := 96, y := 20 }], cmds := [0x10000080000000100000000402240, 0] }, pasid := 5, tilth := [(3, 1), (64, 0x80), (0x41, 0x3C), (0x105, 0x77), (0x140, 0xC0), (0x141, 0x40)] })], g := {}, drill := {}, fab := {}, coh := {}, seed := {}, plat := {}, flt := {}, rot := {}, time := {}, slice := {}, fc := {}, pwr := { s.pwr with plotHeldOff := 0, aon := true, scrub := [] }, hbm := [(0x10005, 9), (0x10182, 7), (0x101E1, 3)], host := { s.host with poison := [], blocked := [], queue := [] }, reg := s.reg.filter (fun c => c.1 < 0x280000 || 0x300000 ≤ c.1) } : State →
    State) (serve s)).setRg (Rg.pctx 1 0) (2 ^ 63 + 2 ^ 24 + 2 ^ 25 + 2 ^ 26 + 5)).setRg (Rg.tilthSplit 3) 0)) State.reset
theorem wit_VectorCommandsComplete_2 : ∃ (p : Fin 16) (v : Nat) (r : List Nat), (wst_VectorCommandsComplete_2).Inv ∧
    (wst_VectorCommandsComplete_2).Issues p 0x40 v [(15, 8), (47, 16), (79, 48), (111, 80), (127, 112)] ∧ ((fld v 15 12 = 2 ∨ fld v 15 12 = 3 ∨
    fld v 15 12 = 4)) ∧ fld v 127 112 ≠ 0 ∧ (wst_VectorCommandsComplete_2).tref p v 16 % 64 = 0 ∧
    (wst_VectorCommandsComplete_2).tref p v 16 + ((fld v 127 112 * 64) * typeBits (fld v 15 12) / 8) ≤ (wst_VectorCommandsComplete_2).dataTop p ∧
    (wst_VectorCommandsComplete_2).tref p v 48 % 64 = 0 ∧
    (wst_VectorCommandsComplete_2).tref p v 48 + ((fld v 127 112 * 64) * typeBits (fld v 15 12) / 8) ≤ (wst_VectorCommandsComplete_2).dataTop p ∧
    (wst_VectorCommandsComplete_2).tref p v 80 % 64 = 0 ∧
    (wst_VectorCommandsComplete_2).tref p v 80 + ((fld v 127 112 * 64) * typeBits (fld v 15 12) / 8) ≤ (wst_VectorCommandsComplete_2).dataTop p ∧
    (wst_VectorCommandsComplete_2).Direct p ∧ fld v 11 8 = 2 ∧
    r = (((wst_VectorCommandsComplete_2).operand p ((wst_VectorCommandsComplete_2).tref p v 16) (fld v 15 12) (fld v 127 112 * 64)).zip ((wst_VectorCommandsComplete_2).operand p ((wst_VectorCommandsComplete_2).tref p v 48) (fld v 15 12) (fld v 127 112 * 64))).map (fun x => (encodeNum (fld v 15 12) .nearest ((numOf (fld v 15 12) x.1).mul (numOf (fld v 15 12) x.2))).1) :=
  ⟨(3), ((wst_VectorCommandsComplete_2.nextCmd 3).getD 0), (((wst_VectorCommandsComplete_2.operand 3 (wst_VectorCommandsComplete_2.tref 3 ((wst_VectorCommandsComplete_2.nextCmd 3).getD 0) 16) (fld ((wst_VectorCommandsComplete_2.nextCmd 3).getD 0) 15 12) (fld ((wst_VectorCommandsComplete_2.nextCmd 3).getD 0) 127 112 * 64)).zip (wst_VectorCommandsComplete_2.operand 3 (wst_VectorCommandsComplete_2.tref 3 ((wst_VectorCommandsComplete_2.nextCmd 3).getD 0) 48) (fld ((wst_VectorCommandsComplete_2.nextCmd 3).getD 0) 15 12) (fld ((wst_VectorCommandsComplete_2.nextCmd 3).getD 0) 127 112 * 64))).map (fun x => (encodeNum (fld ((wst_VectorCommandsComplete_2.nextCmd 3).getD 0) 15 12) .nearest ((numOf (fld ((wst_VectorCommandsComplete_2.nextCmd 3).getD 0) 15 12) x.1).mul (numOf (fld ((wst_VectorCommandsComplete_2.nextCmd 3).getD 0) 15 12) x.2))).1)), by
    unfold State.Issues State.Direct State.Clear State.Maps State.Inv PlotsWf Plot.Wf Rises
    decide +kernel⟩

def wst_VectorCommandsComplete_3 : State :=
  (fun (s : State) => ((((fun (s : State) => { s with plots := [(3, { state := .running, furrow := 3, seq := 4, mask := 8, bypass := false, prog := some { id := 1, pasid := 5, crc := 0, views := [{ space := 1, arg := 255, x := 80, base := 0x10000, ystride := 96, y := 20 }], cmds := [0x10000080000000100000000404340, 0] }, pasid := 5, tilth := [(3, 1), (64, 0x80), (0x41, 0x3C), (0x105, 0x77), (0x140, 0xC0), (0x141, 0x40)] })], g := {}, drill := {}, fab := {}, coh := {}, seed := {}, plat := {}, flt := {}, rot := {}, time := {}, slice := {}, fc := {}, pwr := { s.pwr with plotHeldOff := 0, aon := true, scrub := [] }, hbm := [(0x10005, 9), (0x10182, 7), (0x101E1, 3)], host := { s.host with poison := [], blocked := [], queue := [] }, reg := s.reg.filter (fun c => c.1 < 0x280000 || 0x300000 ≤ c.1) } : State →
    State) (serve s)).setRg (Rg.pctx 1 0) (2 ^ 63 + 2 ^ 24 + 2 ^ 25 + 2 ^ 26 + 5)).setRg (Rg.tilthSplit 3) 0)) State.reset
theorem wit_VectorCommandsComplete_3 : ∃ (p : Fin 16) (v : Nat) (r : List Nat), (wst_VectorCommandsComplete_3).Inv ∧
    (wst_VectorCommandsComplete_3).Issues p 0x40 v [(15, 8), (47, 16), (79, 48), (111, 80), (127, 112)] ∧ ((fld v 15 12 = 2 ∨ fld v 15 12 = 3 ∨
    fld v 15 12 = 4)) ∧ fld v 127 112 ≠ 0 ∧ (wst_VectorCommandsComplete_3).tref p v 16 % 64 = 0 ∧
    (wst_VectorCommandsComplete_3).tref p v 16 + ((fld v 127 112 * 64) * typeBits (fld v 15 12) / 8) ≤ (wst_VectorCommandsComplete_3).dataTop p ∧
    (wst_VectorCommandsComplete_3).tref p v 48 % 64 = 0 ∧
    (wst_VectorCommandsComplete_3).tref p v 48 + ((fld v 127 112 * 64) * typeBits (fld v 15 12) / 8) ≤ (wst_VectorCommandsComplete_3).dataTop p ∧
    (wst_VectorCommandsComplete_3).tref p v 80 % 64 = 0 ∧
    (wst_VectorCommandsComplete_3).tref p v 80 + ((fld v 127 112 * 64) * typeBits (fld v 15 12) / 8) ≤ (wst_VectorCommandsComplete_3).dataTop p ∧
    (wst_VectorCommandsComplete_3).Direct p ∧ fld v 11 8 = 3 ∧
    r = (((wst_VectorCommandsComplete_3).operand p ((wst_VectorCommandsComplete_3).tref p v 16) (fld v 15 12) (fld v 127 112 * 64)).zip ((wst_VectorCommandsComplete_3).operand p ((wst_VectorCommandsComplete_3).tref p v 48) (fld v 15 12) (fld v 127 112 * 64))).map (fun x => (encodeNum (fld v 15 12) .nearest ((numOf (fld v 15 12) x.1).div (numOf (fld v 15 12) x.2)).1 ((numOf (fld v 15 12) x.1).div (numOf (fld v 15 12) x.2)).2).1) :=
  ⟨(3), ((wst_VectorCommandsComplete_3.nextCmd 3).getD 0), (((wst_VectorCommandsComplete_3.operand 3 (wst_VectorCommandsComplete_3.tref 3 ((wst_VectorCommandsComplete_3.nextCmd 3).getD 0) 16) (fld ((wst_VectorCommandsComplete_3.nextCmd 3).getD 0) 15 12) (fld ((wst_VectorCommandsComplete_3.nextCmd 3).getD 0) 127 112 * 64)).zip (wst_VectorCommandsComplete_3.operand 3 (wst_VectorCommandsComplete_3.tref 3 ((wst_VectorCommandsComplete_3.nextCmd 3).getD 0) 48) (fld ((wst_VectorCommandsComplete_3.nextCmd 3).getD 0) 15 12) (fld ((wst_VectorCommandsComplete_3.nextCmd 3).getD 0) 127 112 * 64))).map (fun x => (encodeNum (fld ((wst_VectorCommandsComplete_3.nextCmd 3).getD 0) 15 12) .nearest ((numOf (fld ((wst_VectorCommandsComplete_3.nextCmd 3).getD 0) 15 12) x.1).div (numOf (fld ((wst_VectorCommandsComplete_3.nextCmd 3).getD 0) 15 12) x.2)).1 ((numOf (fld ((wst_VectorCommandsComplete_3.nextCmd 3).getD 0) 15 12) x.1).div (numOf (fld ((wst_VectorCommandsComplete_3.nextCmd 3).getD 0) 15 12) x.2)).2).1)), by
    unfold State.Issues State.Direct State.Clear State.Maps State.Inv PlotsWf Plot.Wf Rises
    decide +kernel⟩

def wst_VectorCommandsComplete_4 : State :=
  (fun (s : State) => ((((fun (s : State) => { s with plots := [(3, { state := .running, furrow := 3, seq := 4, mask := 8, bypass := false, prog := some { id := 1, pasid := 5, crc := 0, views := [{ space := 1, arg := 255, x := 80, base := 0x10000, ystride := 96, y := 20 }], cmds := [0x10000080000000100000000403540, 0] }, pasid := 5, tilth := [(3, 1), (64, 0x80), (0x41, 0x3C), (0x105, 0x77), (0x140, 0xC0), (0x141, 0x40)] })], g := {}, drill := {}, fab := {}, coh := {}, seed := {}, plat := {}, flt := {}, rot := {}, time := {}, slice := {}, fc := {}, pwr := { s.pwr with plotHeldOff := 0, aon := true, scrub := [] }, hbm := [(0x10005, 9), (0x10182, 7), (0x101E1, 3)], host := { s.host with poison := [], blocked := [], queue := [] }, reg := s.reg.filter (fun c => c.1 < 0x280000 || 0x300000 ≤ c.1) } : State →
    State) (serve s)).setRg (Rg.pctx 1 0) (2 ^ 63 + 2 ^ 24 + 2 ^ 25 + 2 ^ 26 + 5)).setRg (Rg.tilthSplit 3) 0)) State.reset
theorem wit_VectorCommandsComplete_4 : ∃ (p : Fin 16) (v : Nat) (r : List Nat), (wst_VectorCommandsComplete_4).Inv ∧
    (wst_VectorCommandsComplete_4).Issues p 0x40 v [(15, 8), (47, 16), (79, 48), (111, 80), (127, 112)] ∧ ((fld v 15 12 = 2 ∨ fld v 15 12 = 3 ∨
    fld v 15 12 = 4)) ∧ fld v 127 112 ≠ 0 ∧ (wst_VectorCommandsComplete_4).tref p v 16 % 64 = 0 ∧
    (wst_VectorCommandsComplete_4).tref p v 16 + ((fld v 127 112 * 64) * typeBits (fld v 15 12) / 8) ≤ (wst_VectorCommandsComplete_4).dataTop p ∧
    (wst_VectorCommandsComplete_4).tref p v 48 % 64 = 0 ∧
    (wst_VectorCommandsComplete_4).tref p v 48 + ((fld v 127 112 * 64) * typeBits (fld v 15 12) / 8) ≤ (wst_VectorCommandsComplete_4).dataTop p ∧
    (wst_VectorCommandsComplete_4).tref p v 80 % 64 = 0 ∧
    (wst_VectorCommandsComplete_4).tref p v 80 + ((fld v 127 112 * 64) * typeBits (fld v 15 12) / 8) ≤ (wst_VectorCommandsComplete_4).dataTop p ∧
    (wst_VectorCommandsComplete_4).Direct p ∧ ((fld v 11 8 = 4 ∨ fld v 11 8 = 5)) ∧
    r = (((wst_VectorCommandsComplete_4).operand p ((wst_VectorCommandsComplete_4).tref p v 16) (fld v 15 12) (fld v 127 112 * 64)).zip ((wst_VectorCommandsComplete_4).operand p ((wst_VectorCommandsComplete_4).tref p v 48) (fld v 15 12) (fld v 127 112 * 64))).mapIdx (fun i x => pickNum (fld v 15 12) (fld v 11 8 == 4) ((wst_VectorCommandsComplete_4).free + i) x.1 x.2) :=
  ⟨(3), ((wst_VectorCommandsComplete_4.nextCmd 3).getD 0), (((wst_VectorCommandsComplete_4.operand 3 (wst_VectorCommandsComplete_4.tref 3 ((wst_VectorCommandsComplete_4.nextCmd 3).getD 0) 16) (fld ((wst_VectorCommandsComplete_4.nextCmd 3).getD 0) 15 12) (fld ((wst_VectorCommandsComplete_4.nextCmd 3).getD 0) 127 112 * 64)).zip (wst_VectorCommandsComplete_4.operand 3 (wst_VectorCommandsComplete_4.tref 3 ((wst_VectorCommandsComplete_4.nextCmd 3).getD 0) 48) (fld ((wst_VectorCommandsComplete_4.nextCmd 3).getD 0) 15 12) (fld ((wst_VectorCommandsComplete_4.nextCmd 3).getD 0) 127 112 * 64))).mapIdx (fun i x => pickNum (fld ((wst_VectorCommandsComplete_4.nextCmd 3).getD 0) 15 12) (fld ((wst_VectorCommandsComplete_4.nextCmd 3).getD 0) 11 8 == 4) (wst_VectorCommandsComplete_4.free + i) x.1 x.2)), by
    unfold State.Issues State.Direct State.Clear State.Maps State.Inv PlotsWf Plot.Wf Rises
    decide +kernel⟩

def wst_VectorCommandsComplete_5 : State :=
  (fun (s : State) => ((((fun (s : State) => { s with plots := [(3, { state := .running, furrow := 3, seq := 4, mask := 8, bypass := false, prog := some { id := 1, pasid := 5, crc := 0, views := [{ space := 1, arg := 255, x := 80, base := 0x10000, ystride := 96, y := 20 }], cmds := [0x10000080000000100000000404041, 0] }, pasid := 5, tilth := [(3, 1), (64, 0x80), (0x41, 0x3C), (0x105, 0x77), (0x140, 0xC0), (0x141, 0x40)] })], g := {}, drill := {}, fab := {}, coh := {}, seed := {}, plat := {}, flt := {}, rot := {}, time := {}, slice := {}, fc := {}, pwr := { s.pwr with plotHeldOff := 0, aon := true, scrub := [] }, hbm := [(0x10005, 9), (0x10182, 7), (0x101E1, 3)], host := { s.host with poison := [], blocked := [], queue := [] }, reg := s.reg.filter (fun c => c.1 < 0x280000 || 0x300000 ≤ c.1) } : State →
    State) (serve s)).setRg (Rg.pctx 1 0) (2 ^ 63 + 2 ^ 24 + 2 ^ 25 + 2 ^ 26 + 5)).setRg (Rg.tilthSplit 3) 0)) State.reset
theorem wit_VectorCommandsComplete_5 : ∃ (p : Fin 16) (v : Nat) (r : List Nat), (wst_VectorCommandsComplete_5).Inv ∧
    (wst_VectorCommandsComplete_5).Issues p 0x41 v [(15, 12), (47, 16), (79, 48), (111, 80), (127, 112)] ∧ ((fld v 15 12 = 2 ∨ fld v 15 12 = 3 ∨
    fld v 15 12 = 4)) ∧ fld v 127 112 ≠ 0 ∧ (wst_VectorCommandsComplete_5).tref p v 16 % 64 = 0 ∧
    (wst_VectorCommandsComplete_5).tref p v 16 + ((fld v 127 112 * 64) * typeBits (fld v 15 12) / 8) ≤ (wst_VectorCommandsComplete_5).dataTop p ∧
    (wst_VectorCommandsComplete_5).tref p v 48 % 64 = 0 ∧
    (wst_VectorCommandsComplete_5).tref p v 48 + ((fld v 127 112 * 64) * typeBits (fld v 15 12) / 8) ≤ (wst_VectorCommandsComplete_5).dataTop p ∧
    (wst_VectorCommandsComplete_5).tref p v 80 % 64 = 0 ∧
    (wst_VectorCommandsComplete_5).tref p v 80 + ((fld v 127 112 * 64) * typeBits (fld v 15 12) / 8) ≤ (wst_VectorCommandsComplete_5).dataTop p ∧
    (wst_VectorCommandsComplete_5).Direct p ∧
    r = (((wst_VectorCommandsComplete_5).operand p ((wst_VectorCommandsComplete_5).tref p v 16) (fld v 15 12) (fld v 127 112 * 64)).zip (((wst_VectorCommandsComplete_5).operand p ((wst_VectorCommandsComplete_5).tref p v 48) (fld v 15 12) (fld v 127 112 * 64)).zip ((wst_VectorCommandsComplete_5).operand p ((wst_VectorCommandsComplete_5).tref p v 80) (fld v 15 12) (fld v 127 112 * 64)))).map (fun x => (encodeNum (fld v 15 12) .nearest (((numOf (fld v 15 12) x.1).mul (numOf (fld v 15 12) x.2.1)).add (numOf (fld v 15 12) x.2.2))).1) :=
  ⟨(3), ((wst_VectorCommandsComplete_5.nextCmd 3).getD 0), (((wst_VectorCommandsComplete_5.operand 3 (wst_VectorCommandsComplete_5.tref 3 ((wst_VectorCommandsComplete_5.nextCmd 3).getD 0) 16) (fld ((wst_VectorCommandsComplete_5.nextCmd 3).getD 0) 15 12) (fld ((wst_VectorCommandsComplete_5.nextCmd 3).getD 0) 127 112 * 64)).zip ((wst_VectorCommandsComplete_5.operand 3 (wst_VectorCommandsComplete_5.tref 3 ((wst_VectorCommandsComplete_5.nextCmd 3).getD 0) 48) (fld ((wst_VectorCommandsComplete_5.nextCmd 3).getD 0) 15 12) (fld ((wst_VectorCommandsComplete_5.nextCmd 3).getD 0) 127 112 * 64)).zip (wst_VectorCommandsComplete_5.operand 3 (wst_VectorCommandsComplete_5.tref 3 ((wst_VectorCommandsComplete_5.nextCmd 3).getD 0) 80) (fld ((wst_VectorCommandsComplete_5.nextCmd 3).getD 0) 15 12) (fld ((wst_VectorCommandsComplete_5.nextCmd 3).getD 0) 127 112 * 64)))).map (fun x => (encodeNum (fld ((wst_VectorCommandsComplete_5.nextCmd 3).getD 0) 15 12) .nearest (((numOf (fld ((wst_VectorCommandsComplete_5.nextCmd 3).getD 0) 15 12) x.1).mul (numOf (fld ((wst_VectorCommandsComplete_5.nextCmd 3).getD 0) 15 12) x.2.1)).add (numOf (fld ((wst_VectorCommandsComplete_5.nextCmd 3).getD 0) 15 12) x.2.2))).1)), by
    unfold State.Issues State.Direct State.Clear State.Maps State.Inv PlotsWf Plot.Wf Rises
    decide +kernel⟩

def wst_VectorCommandsComplete_6 : State :=
  (fun (s : State) => ((((fun (s : State) => { s with plots := [(3, { state := .running, furrow := 3, seq := 4, mask := 8, bypass := false, prog := some { id := 1, pasid := 5, crc := 0, views := [{ space := 1, arg := 255, x := 80, base := 0x10000, ystride := 96, y := 20 }], cmds := [0x100000800000000403942, 0] }, pasid := 5, tilth := [(3, 1), (64, 0x80), (0x41, 0x3C), (0x105, 0x77), (0x140, 0xC0), (0x141, 0x40)] })], g := {}, drill := {}, fab := {}, coh := {}, seed := {}, plat := {}, flt := {}, rot := {}, time := {}, slice := {}, fc := {}, pwr := { s.pwr with plotHeldOff := 0, aon := true, scrub := [] }, hbm := [(0x10005, 9), (0x10182, 7), (0x101E1, 3)], host := { s.host with poison := [], blocked := [], queue := [] }, reg := s.reg.filter (fun c => c.1 < 0x280000 || 0x300000 ≤ c.1) } : State →
    State) (serve s)).setRg (Rg.pctx 1 0) (2 ^ 63 + 2 ^ 24 + 2 ^ 25 + 2 ^ 26 + 5)).setRg (Rg.tilthSplit 3) 0)) State.reset
theorem wit_VectorCommandsComplete_6 : ∃ (p : Fin 16) (v : Nat) (r : List Nat), (wst_VectorCommandsComplete_6).Inv ∧
    (wst_VectorCommandsComplete_6).Issues p 0x42 v [(15, 8), (47, 16), (79, 48), (95, 80)] ∧ ((fld v 15 12 = 2 ∨ fld v 15 12 = 3 ∨ fld v 15 12 = 4)) ∧
    fld v 95 80 ≠ 0 ∧ (wst_VectorCommandsComplete_6).tref p v 16 % 64 = 0 ∧
    (wst_VectorCommandsComplete_6).tref p v 16 + ((fld v 95 80 * 64) * typeBits (fld v 15 12) / 8) ≤ (wst_VectorCommandsComplete_6).dataTop p ∧
    (wst_VectorCommandsComplete_6).tref p v 48 % 64 = 0 ∧
    (wst_VectorCommandsComplete_6).tref p v 48 + ((fld v 95 80 * 64) * typeBits (fld v 15 12) / 8) ≤ (wst_VectorCommandsComplete_6).dataTop p ∧
    (wst_VectorCommandsComplete_6).Direct p ∧ fld v 11 8 ≤ 9 ∧
    r = ((wst_VectorCommandsComplete_6).operand p ((wst_VectorCommandsComplete_6).tref p v 16) (fld v 15 12) (fld v 95 80 * 64)).mapIdx (fun i x => (vun (fld v 15 12) (fld v 11 8) ((wst_VectorCommandsComplete_6).free + i) x).getD 0) :=
  ⟨(3), ((wst_VectorCommandsComplete_6.nextCmd 3).getD 0), ((wst_VectorCommandsComplete_6.operand 3 (wst_VectorCommandsComplete_6.tref 3 ((wst_VectorCommandsComplete_6.nextCmd 3).getD 0) 16) (fld ((wst_VectorCommandsComplete_6.nextCmd 3).getD 0) 15 12) (fld ((wst_VectorCommandsComplete_6.nextCmd 3).getD 0) 95 80 * 64)).mapIdx (fun i x => (vun (fld ((wst_VectorCommandsComplete_6.nextCmd 3).getD 0) 15 12) (fld ((wst_VectorCommandsComplete_6.nextCmd 3).getD 0) 11 8) (wst_VectorCommandsComplete_6.free + i) x).getD 0)), by
    unfold State.Issues State.Direct State.Clear State.Maps State.Inv PlotsWf Plot.Wf Rises
    decide +kernel⟩

def wst_VectorCommandsComplete_7 : State :=
  (fun (s : State) => ((((fun (s : State) => { s with plots := [(3, { state := .running, furrow := 3, seq := 4, mask := 8, bypass := false, prog := some { id := 1, pasid := 5, crc := 0, views := [{ space := 1, arg := 255, x := 80, base := 0x10000, ystride := 96, y := 20 }], cmds := [0x40400000000100000800000000402044, 0] }, pasid := 5, tilth := [(3, 1), (64, 0x80), (0x41, 0x3C), (0x105, 0x77), (0x140, 0xC0), (0x141, 0x40)] })], g := {}, drill := {}, fab := {}, coh := {}, seed := {}, plat := {}, flt := {}, rot := {}, time := {}, slice := {}, fc := {}, pwr := { s.pwr with plotHeldOff := 0, aon := true, scrub := [] }, hbm := [(0x10005, 9), (0x10182, 7), (0x101E1, 3)], host := { s.host with poison := [], blocked := [], queue := [] }, reg := s.reg.filter (fun c => c.1 < 0x280000 || 0x300000 ≤ c.1) } : State →
    State) (serve s)).setRg (Rg.pctx 1 0) (2 ^ 63 + 2 ^ 24 + 2 ^ 25 + 2 ^ 26 + 5)).setRg (Rg.tilthSplit 3) 0)) State.reset
theorem wit_VectorCommandsComplete_7 : ∃ (p : Fin 16) (v : Nat) (r : List Nat), (wst_VectorCommandsComplete_7).Inv ∧
    (wst_VectorCommandsComplete_7).Issues p 0x44 v [(15, 12), (47, 16), (79, 48), (95, 80), (127, 96)] ∧ ((fld v 15 12 = 2 ∨ fld v 15 12 = 3 ∨
    fld v 15 12 = 4)) ∧ fld v 95 80 ≠ 0 ∧ (wst_VectorCommandsComplete_7).tref p v 16 % 64 = 0 ∧
    (wst_VectorCommandsComplete_7).tref p v 16 + ((fld v 95 80 * 64) * typeBits (fld v 15 12) / 8) ≤ (wst_VectorCommandsComplete_7).dataTop p ∧
    (wst_VectorCommandsComplete_7).tref p v 48 % 64 = 0 ∧
    (wst_VectorCommandsComplete_7).tref p v 48 + ((fld v 95 80 * 64) * typeBits (fld v 15 12) / 8) ≤ (wst_VectorCommandsComplete_7).dataTop p ∧
    (wst_VectorCommandsComplete_7).Direct p ∧
    r = ((wst_VectorCommandsComplete_7).operand p ((wst_VectorCommandsComplete_7).tref p v 16) (fld v 15 12) (fld v 95 80 * 64)).map (fun x => (encodeNum (fld v 15 12) .nearest ((numOf (fld v 15 12) x).mul (numOf 4 (fld v 127 96)))).1) :=
  ⟨(3), ((wst_VectorCommandsComplete_7.nextCmd 3).getD 0), ((wst_VectorCommandsComplete_7.operand 3 (wst_VectorCommandsComplete_7.tref 3 ((wst_VectorCommandsComplete_7.nextCmd 3).getD 0) 16) (fld ((wst_VectorCommandsComplete_7.nextCmd 3).getD 0) 15 12) (fld ((wst_VectorCommandsComplete_7.nextCmd 3).getD 0) 95 80 * 64)).map (fun x => (encodeNum (fld ((wst_VectorCommandsComplete_7.nextCmd 3).getD 0) 15 12) .nearest ((numOf (fld ((wst_VectorCommandsComplete_7.nextCmd 3).getD 0) 15 12) x).mul (numOf 4 (fld ((wst_VectorCommandsComplete_7.nextCmd 3).getD 0) 127 96)))).1)), by
    unfold State.Issues State.Direct State.Clear State.Maps State.Inv PlotsWf Plot.Wf Rises
    decide +kernel⟩

def wst_VectorCommandsComplete_8 : State :=
  (fun (s : State) => ((((fun (s : State) => { s with plots := [(3, { state := .running, furrow := 3, seq := 4, mask := 8, bypass := false, prog := some { id := 1, pasid := 5, crc := 0, views := [{ space := 1, arg := 255, x := 80, base := 0x10000, ystride := 96, y := 20 }], cmds := [0x402000100000800000000403043, 0] }, pasid := 5, tilth := [(3, 1), (64, 0x80), (0x41, 0x3C), (0x105, 0x77), (0x140, 0xC0), (0x141, 0x40)], idx := [(4, 99)] })], g := {}, drill := {}, fab := {}, coh := {}, seed := {}, plat := {}, flt := {}, rot := {}, time := {}, slice := {}, fc := {}, pwr := { s.pwr with plotHeldOff := 0, aon := true, scrub := [] }, hbm := [(0x10005, 9), (0x10182, 7), (0x101E1, 3)], host := { s.host with poison := [], blocked := [], queue := [] }, reg := s.reg.filter (fun c => c.1 < 0x280000 || 0x300000 ≤ c.1) } : State →
    State) (serve s)).setRg (Rg.pctx 1 0) (2 ^ 63 + 2 ^ 24 + 2 ^ 25 + 2 ^ 26 + 5)).setRg (Rg.tilthSplit 3) 0)) State.reset
theorem wit_VectorCommandsComplete_8 : ∃ (p : Fin 16) (v : Nat) (r : List (Nat × Bool × Bool)), (wst_VectorCommandsComplete_8).Inv ∧
    (wst_VectorCommandsComplete_8).Issues p 0x43 v [(15, 8), (47, 16), (79, 48), (95, 80), (103, 96), (107, 104)] ∧ fld v 11 8 ≤ 7 ∧ fld v 15 12 ≤ 7 ∧
    fld v 103 96 ≤ 2 ∧ fld v 95 80 ≠ 0 ∧ (wst_VectorCommandsComplete_8).tref p v 16 % 64 = 0 ∧
    (wst_VectorCommandsComplete_8).tref p v 16 + ((fld v 95 80 * 64) * typeBits (fld v 15 12) / 8) ≤ (wst_VectorCommandsComplete_8).dataTop p ∧
    (wst_VectorCommandsComplete_8).tref p v 48 % 64 = 0 ∧
    (wst_VectorCommandsComplete_8).tref p v 48 + ((fld v 95 80 * 64) * typeBits (fld v 11 8) / 8) ≤ (wst_VectorCommandsComplete_8).dataTop p ∧
    (wst_VectorCommandsComplete_8).Direct p ∧
    r = ((wst_VectorCommandsComplete_8).operand p ((wst_VectorCommandsComplete_8).tref p v 16) (fld v 15 12) (fld v 95 80 * 64)).mapIdx (fun i x => convert (fld v 11 8) (fld v 15 12) (if fld v 103 96 = 0 then .nearest else if fld v 103 96 = 1 then .zero else .stochastic (stochasticR ((wst_VectorCommandsComplete_8).idx p (fld v 107 104)) i)) x) :=
  ⟨(3), ((wst_VectorCommandsComplete_8.nextCmd 3).getD 0), ((wst_VectorCommandsComplete_8.operand 3 0x40 3 64).mapIdx (fun i x => convert 0 3 (.stochastic (stochasticR 99 i)) x)), by
    unfold State.Issues State.Direct State.Clear State.Maps State.Inv PlotsWf Plot.Wf Rises
    decide +kernel⟩

/-! ### GleanerCompletes -/

def wst_GleanerCompletes_0 : State :=
  (fun (s : State) => ((((fun (s : State) => { s with plots := [(3, { state := .running, furrow := 3, seq := 4, mask := 8, bypass := false, prog := some { id := 1, pasid := 5, crc := 0, views := [{ space := 1, arg := 255, x := 80, base := 0x10000, ystride := 96, y := 20 }], cmds := [0x4000050, 0] }, pasid := 5, tilth := [(1029, 0x08), (1032, 0x03), (1037, 0x10), (1040, 0x10), (1044, 0x20), (1049, 0x20), (2048, 0x01), (2052, 0x04), (2056, 0x19)] })], g := {}, drill := {}, fab := {}, coh := {}, seed := {}, plat := {}, flt := {}, rot := {}, time := {}, slice := {}, fc := {}, pwr := { s.pwr with plotHeldOff := 0, aon := true, scrub := [] }, hbm := [(0x10070, 5), (0x10071, 9), (0x100D1, 7), (0x10191, 3)], host := { s.host with poison := [], blocked := [], queue := [] }, reg := s.reg.filter (fun c => c.1 < 0x280000 || 0x300000 ≤ c.1) } : State →
    State) (serve s)).setRg (Rg.pctx 1 0) (2 ^ 63 + 2 ^ 24 + 2 ^ 25 + 2 ^ 26 + 5)).setRg (Rg.tilthSplit 3) 0)) State.reset
theorem wit_GleanerCompletes_0 : ∃ (p : Fin 16) (v : Nat) (_h : HostRead) (d : Gl) (w : View) (b : Nat), (wst_GleanerCompletes_0).Inv ∧
    (wst_GleanerCompletes_0).Issues p 0x50 v [(47, 16)] ∧ (wst_GleanerCompletes_0).gleanFailure p v = none ∧
    d = (wst_GleanerCompletes_0).gleanDesc p ((wst_GleanerCompletes_0).tref p v 16) ∧ d.kind = 0 ∧ (wst_GleanerCompletes_0).view? p d.view = some w ∧
    (wst_GleanerCompletes_0).gleanCheck p d w = 0 ∧ w.space = 1 ∧ b = (wst_GleanerCompletes_0).viewBase p w ∧ b + w.y * w.ystride + w.x ≤ hbmBytes ∧
    (wst_GleanerCompletes_0).Direct p ∧ ((wst_GleanerCompletes_0).plot p).state = .running ∧ d.cache = false ∧ d.nullSkip = false :=
  ⟨(3), ((wst_GleanerCompletes_0.nextCmd 3).getD 0), ({}), (wst_GleanerCompletes_0.gleanDesc 3 0x400), ({ space := 1, arg := 255, x := 80, base := 0x10000, ystride := 96, y := 20 }), (0x10000), by
    unfold State.Issues State.Direct State.Clear State.Maps State.Inv PlotsWf Plot.Wf Rises
    decide +kernel⟩

def wst_GleanerCompletes_1 : State :=
  (fun (s : State) => ((((fun (s : State) => { s with plots := [(3, { state := .running, furrow := 3, seq := 4, mask := 8, bypass := false, prog := some { id := 1, pasid := 5, crc := 0, views := [{ space := 1, arg := 255, x := 80, base := 0x10000, ystride := 96, y := 20 }], cmds := [0x4000050, 0] }, pasid := 5, tilth := [(1025, 0x01), (1029, 0x08), (1032, 0x03), (1037, 0x10), (1040, 0x10), (1044, 0x20), (1049, 0x20), (2048, 0x01), (2052, 0x04), (2056, 0x01)] })], g := {}, drill := {}, fab := {}, coh := {}, seed := {}, plat := {}, flt := {}, rot := {}, time := {}, slice := {}, fc := {}, pwr := { s.pwr with plotHeldOff := 0, aon := true, scrub := [] }, hbm := [(0x10070, 5), (0x10071, 9), (0x100D1, 7), (0x10191, 3)], host := { s.host with poison := [], blocked := [], queue := [] }, reg := s.reg.filter (fun c => c.1 < 0x280000 || 0x300000 ≤ c.1) } : State →
    State) (serve s)).setRg (Rg.pctx 1 0) (2 ^ 63 + 2 ^ 24 + 2 ^ 25 + 2 ^ 26 + 5)).setRg (Rg.tilthSplit 3) 2)) State.reset
theorem wit_GleanerCompletes_1 : ∃ (p : Fin 16) (v : Nat) (_h : HostRead) (d : Gl) (w : View) (b : Nat), (wst_GleanerCompletes_1).Inv ∧
    (wst_GleanerCompletes_1).Issues p 0x50 v [(47, 16)] ∧ (wst_GleanerCompletes_1).gleanFailure p v = none ∧
    d = (wst_GleanerCompletes_1).gleanDesc p ((wst_GleanerCompletes_1).tref p v 16) ∧ d.kind = 0 ∧ (wst_GleanerCompletes_1).view? p d.view = some w ∧
    (wst_GleanerCompletes_1).gleanCheck p d w = 0 ∧ w.space = 1 ∧ b = (wst_GleanerCompletes_1).viewBase p w ∧ b + w.y * w.ystride + w.x ≤ hbmBytes ∧
    (wst_GleanerCompletes_1).Direct p ∧ ((wst_GleanerCompletes_1).plot p).state = .running ∧ d.cache = true ∧ d.nullSkip = false ∧
    ((wst_GleanerCompletes_1).plot p).gcache = [] :=
  ⟨(3), ((wst_GleanerCompletes_1.nextCmd 3).getD 0), ({}), (wst_GleanerCompletes_1.gleanDesc 3 0x400), ({ space := 1, arg := 255, x := 80, base := 0x10000, ystride := 96, y := 20 }), (0x10000), by
    unfold State.Issues State.Direct State.Clear State.Maps State.Inv PlotsWf Plot.Wf Rises
    decide +kernel⟩

def wst_GleanerCompletes_2 : State :=
  (fun (s : State) => ((((fun (s : State) => { s with plots := [(3, { state := .running, furrow := 3, seq := 4, mask := 8, bypass := false, prog := some { id := 1, pasid := 5, crc := 0, views := [{ space := 1, arg := 255, x := 80, base := 0x10000, ystride := 96, y := 20 }], cmds := [0x4000050, 0] }, pasid := 5, tilth := [(1024, 0x01), (1029, 0x08), (1032, 0x03), (1037, 0x10), (1040, 0x10), (1044, 0x20), (1049, 0x20), (2048, 0x01), (2052, 0x04), (2056, 0x19), (4096, 0x01), (4097, 0x02), (4098, 0x03), (4099, 0x04), (4100, 0x05), (4101, 0x06), (4102, 0x07), (4103, 0x08), (4104, 0x09), (4105, 0x0A), (4106, 0x0B), (4107, 0x0C), (4108, 0x0D), (4109, 0x0E), (4110, 0x0F), (4111, 0x10), (4112, 0x11), (4113, 0x12), (4114, 0x13), (4115, 0x14), (4116, 0x15), (4117, 0x16), (4118, 0x17), (4119, 0x18), (4120, 0x19), (4121, 0x1A), (4122, 0x1B), (4123, 0x1C), (4124, 0x1D), (4125, 0x1E), (4126, 0x1F), (4127, 0x20), (4128, 0x21), (4129, 0x22), (4130, 0x23), (4131, 0x24), (4132, 0x25), (4133, 0x26), (4134, 0x27), (4135, 0x28), (4136, 0x29), (4137, 0x2A), (4138, 0x2B), (4139, 0x2C), (4140, 0x2D), (4141, 0x2E), (4142, 0x2F), (4143, 0x30), (4144, 0x31), (4145, 0x32), (4146, 0x33), (4147, 0x34), (4148, 0x35), (4149, 0x36), (4150, 0x37), (4151, 0x38), (4152, 0x39), (4153, 0x3A), (4154, 0x3B), (4155, 0x3C), (4156, 0x3D), (4157, 0x3E), (4158, 0x3F), (4159, 0x40), (4160, 0x41), (4161, 0x42), (4162, 0x43), (4163, 0x44), (4164, 0x45), (4165, 0x46), (4166, 0x47), (4167, 0x48), (4168, 0x49), (4169, 0x4A), (4170, 0x4B), (4171, 0x4C), (4172, 0x4D), (4173, 0x4E), (4174, 0x4F), (4175, 0x50), (4176, 0x51), (4177, 0x52), (4178, 0x53), (4179, 0x54), (4180, 0x55), (4181, 0x56), (4182, 0x57), (4183, 0x58), (4184, 0x59), (4185, 0x5A), (4186, 0x5B), (4187, 0x5C), (4188, 0x5D), (4189, 0x5E), (4190, 0x5F), (4191, 0x60)] })], g := {}, drill := {}, fab := {}, coh := {}, seed := {}, plat := {}, flt := {}, rot := {}, time := {}, slice := {}, fc := {}, pwr := { s.pwr with plotHeldOff := 0, aon := true, scrub := [] }, hbm := [(0x10070, 5), (0x10071, 9), (0x100D1, 7), (0x10191, 3)], host := { s.host with poison := [], blocked := [], queue := [] }, reg := s.reg.filter (fun c => c.1 < 0x280000 || 0x300000 ≤ c.1) } : State →
    State) (serve s)).setRg (Rg.pctx 1 0) (2 ^ 63 + 2 ^ 24 + 2 ^ 25 + 2 ^ 26 + 5)).setRg (Rg.tilthSplit 3) 0)) State.reset
theorem wit_GleanerCompletes_2 : ∃ (p : Fin 16) (v : Nat) (_h : HostRead) (d : Gl) (w : View) (b : Nat), (wst_GleanerCompletes_2).Inv ∧
    (wst_GleanerCompletes_2).Issues p 0x50 v [(47, 16)] ∧ (wst_GleanerCompletes_2).gleanFailure p v = none ∧
    d = (wst_GleanerCompletes_2).gleanDesc p ((wst_GleanerCompletes_2).tref p v 16) ∧ d.kind = 1 ∧ (wst_GleanerCompletes_2).view? p d.view = some w ∧
    (wst_GleanerCompletes_2).gleanCheck p d w = 0 ∧ w.space = 1 ∧ b = (wst_GleanerCompletes_2).viewBase p w ∧ b + w.y * w.ystride + w.x ≤ hbmBytes ∧
    (wst_GleanerCompletes_2).Direct p ∧ ((wst_GleanerCompletes_2).plot p).state = .running ∧ d.nullSkip = false ∧ w.x ≤ w.ystride :=
  ⟨(3), ((wst_GleanerCompletes_2.nextCmd 3).getD 0), ({}), (wst_GleanerCompletes_2.gleanDesc 3 0x400), ({ space := 1, arg := 255, x := 80, base := 0x10000, ystride := 96, y := 20 }), (0x10000), by
    unfold State.Issues State.Direct State.Clear State.Maps State.Inv PlotsWf Plot.Wf Rises
    decide +kernel⟩

def wst_GleanerCompletes_3 : State :=
  (fun (s : State) => ((((fun (s : State) => { s with plots := [(3, { state := .running, furrow := 3, seq := 4, mask := 8, bypass := false, prog := some { id := 1, pasid := 5, crc := 0, views := [{ space := 1, arg := 255, x := 80, base := 0x10000, ystride := 96, y := 20 }], cmds := [0x4000050, 0] }, pasid := 5, tilth := [(1024, 0x02), (1029, 0x08), (1032, 0x03), (1037, 0x10), (1040, 0x10), (1044, 0x20), (1049, 0x20), (2048, 0x01), (2052, 0x04), (2056, 0x19), (4098, 0x80), (4099, 0x3F), (4102, 0x80), (4103, 0x3F), (4106, 0x80), (4107, 0x3F), (4110, 0x80), (4111, 0x3F), (4114, 0x80), (4115, 0x3F), (4118, 0x80), (4119, 0x3F), (4122, 0x80), (4123, 0x3F), (4126, 0x80), (4127, 0x3F), (4130, 0x80), (4131, 0x3F), (4134, 0x80), (4135, 0x3F), (4138, 0x80), (4139, 0x3F), (4142, 0x80), (4143, 0x3F), (4146, 0x80), (4147, 0x3F), (4150, 0x80), (4151, 0x3F), (4154, 0x80), (4155, 0x3F), (4158, 0x80), (4159, 0x3F), (4162, 0x80), (4163, 0x3F), (4166, 0x80), (4167, 0x3F), (4170, 0x80), (4171, 0x3F), (4174, 0x80), (4175, 0x3F), (4178, 0x80), (4179, 0x3F), (4182, 0x80), (4183, 0x3F), (4186, 0x80), (4187, 0x3F), (4190, 0x80), (4191, 0x3F)] })], g := {}, drill := {}, fab := {}, coh := {}, seed := {}, plat := {}, flt := {}, rot := {}, time := {}, slice := {}, fc := {}, pwr := { s.pwr with plotHeldOff := 0, aon := true, scrub := [] }, hbm := [(0x10070, 5), (0x10071, 9), (0x100D1, 7), (0x10191, 3)], host := { s.host with poison := [], blocked := [], queue := [] }, reg := s.reg.filter (fun c => c.1 < 0x280000 || 0x300000 ≤ c.1) } : State →
    State) (serve s)).setRg (Rg.pctx 1 0) (2 ^ 63 + 2 ^ 24 + 2 ^ 25 + 2 ^ 26 + 5)).setRg (Rg.tilthSplit 3) 0)) State.reset
theorem wit_GleanerCompletes_3 : ∃ (p : Fin 16) (v : Nat) (_h : HostRead) (d : Gl) (w : View) (b : Nat), (wst_GleanerCompletes_3).Inv ∧
    (wst_GleanerCompletes_3).Issues p 0x50 v [(47, 16)] ∧ (wst_GleanerCompletes_3).gleanFailure p v = none ∧
    d = (wst_GleanerCompletes_3).gleanDesc p ((wst_GleanerCompletes_3).tref p v 16) ∧ d.kind = 2 ∧ (wst_GleanerCompletes_3).view? p d.view = some w ∧
    (wst_GleanerCompletes_3).gleanCheck p d w = 0 ∧ w.space = 1 ∧ b = (wst_GleanerCompletes_3).viewBase p w ∧ b + w.y * w.ystride + w.x ≤ hbmBytes ∧
    (wst_GleanerCompletes_3).Direct p ∧ ((wst_GleanerCompletes_3).plot p).state = .running ∧ d.nullSkip = false ∧ w.x ≤ w.ystride :=
  ⟨(3), ((wst_GleanerCompletes_3.nextCmd 3).getD 0), ({}), (wst_GleanerCompletes_3.gleanDesc 3 0x400), ({ space := 1, arg := 255, x := 80, base := 0x10000, ystride := 96, y := 20 }), (0x10000), by
    unfold State.Issues State.Direct State.Clear State.Maps State.Inv PlotsWf Plot.Wf Rises
    decide +kernel⟩

def wst_GleanerCompletes_4 : State :=
  (fun (s : State) => ((((fun (s : State) => { s with plots := [(3, { state := .running, furrow := 3, seq := 4, mask := 8, bypass := false, prog := some { id := 1, pasid := 5, crc := 0, views := [{ space := 1, arg := 255, x := 80, base := 0x10000, ystride := 96, y := 20 }], cmds := [0x4000050, 0] }, pasid := 5, tilth := [(1024, 0x03), (1029, 0x08), (1032, 0x03), (1037, 0x10), (1040, 0x10), (1044, 0x20), (1049, 0x20), (2048, 0x01), (2052, 0x04), (2056, 0x19), (4098, 0x80), (4099, 0x3F), (4102, 0x80), (4103, 0x3F), (4106, 0x80), (4107, 0x3F), (4110, 0x80), (4111, 0x3F), (4114, 0x80), (4115, 0x3F), (4118, 0x80), (4119, 0x3F), (4122, 0x80), (4123, 0x3F), (4126, 0x80), (4127, 0x3F), (4130, 0x80), (4131, 0x3F), (4134, 0x80), (4135, 0x3F), (4138, 0x80), (4139, 0x3F), (4142, 0x80), (4143, 0x3F), (4146, 0x80), (4147, 0x3F), (4150, 0x80), (4151, 0x3F), (4154, 0x80), (4155, 0x3F), (4158, 0x80), (4159, 0x3F), (4162, 0x80), (4163, 0x3F), (4166, 0x80), (4167, 0x3F), (4170, 0x80), (4171, 0x3F), (4174, 0x80), (4175, 0x3F), (4178, 0x80), (4179, 0x3F), (4182, 0x80), (4183, 0x3F), (4186, 0x80), (4187, 0x3F), (4190, 0x80), (4191, 0x3F)] })], g := {}, drill := {}, fab := {}, coh := {}, seed := {}, plat := {}, flt := {}, rot := {}, time := {}, slice := {}, fc := {}, pwr := { s.pwr with plotHeldOff := 0, aon := true, scrub := [] }, hbm := [(0x10070, 5), (0x10071, 9), (0x100D1, 7), (0x10191, 3)], host := { s.host with poison := [], blocked := [], queue := [] }, reg := s.reg.filter (fun c => c.1 < 0x280000 || 0x300000 ≤ c.1) } : State →
    State) (serve s)).setRg (Rg.pctx 1 0) (2 ^ 63 + 2 ^ 24 + 2 ^ 25 + 2 ^ 26 + 5)).setRg (Rg.tilthSplit 3) 0)) State.reset
theorem wit_GleanerCompletes_4 : ∃ (p : Fin 16) (v : Nat) (_h : HostRead) (d : Gl) (w : View) (b : Nat), (wst_GleanerCompletes_4).Inv ∧
    (wst_GleanerCompletes_4).Issues p 0x50 v [(47, 16)] ∧ (wst_GleanerCompletes_4).gleanFailure p v = none ∧
    d = (wst_GleanerCompletes_4).gleanDesc p ((wst_GleanerCompletes_4).tref p v 16) ∧ d.kind = 3 ∧ (wst_GleanerCompletes_4).view? p d.view = some w ∧
    (wst_GleanerCompletes_4).gleanCheck p d w = 0 ∧ w.space = 1 ∧ b = (wst_GleanerCompletes_4).viewBase p w ∧ b + w.y * w.ystride + w.x ≤ hbmBytes ∧
    (wst_GleanerCompletes_4).Direct p ∧ ((wst_GleanerCompletes_4).plot p).state = .running ∧ d.nullSkip = false ∧ w.x ≤ w.ystride :=
  ⟨(3), ((wst_GleanerCompletes_4.nextCmd 3).getD 0), ({}), (wst_GleanerCompletes_4.gleanDesc 3 0x400), ({ space := 1, arg := 255, x := 80, base := 0x10000, ystride := 96, y := 20 }), (0x10000), by
    unfold State.Issues State.Direct State.Clear State.Maps State.Inv PlotsWf Plot.Wf Rises
    decide +kernel⟩

def wst_GleanerCompletes_5 : State :=
  (fun (s : State) => ((((fun (s : State) => { s with plots := [(3, { state := .running, furrow := 3, seq := 4, mask := 8, bypass := false, prog := some { id := 1, pasid := 5, crc := 0, views := [{ space := 1, arg := 255, x := 64, base := 0x10000, ystride := 64, y := 1 }, { space := 1, arg := 255, x := 256, base := 0x20000, ystride := 256, y := 1 }], cmds := [0x4000050, 0] }, pasid := 5, tilth := [(1024, 0x04), (1027, 0x01), (1029, 0x08), (1032, 0x02), (1037, 0x10), (1040, 0x10), (1044, 0x20), (1049, 0x20), (1052, 0x14), (2052, 0x02)] })], g := {}, drill := {}, fab := {}, coh := {}, seed := {}, plat := {}, flt := {}, rot := {}, time := {}, slice := {}, fc := {}, pwr := { s.pwr with plotHeldOff := 0, aon := true, scrub := [] }, hbm := [(0x10008, 3), (0x10010, 5), (0x10018, 7), (0x20000, 1), (0x20004, 9), (0x20015, 6), (0x20018, 8)], host := { s.host with poison := [], blocked := [], queue := [] }, reg := s.reg.filter (fun c => c.1 < 0x280000 || 0x300000 ≤ c.1) } : State →
    State) (serve s)).setRg (Rg.pctx 1 0) (2 ^ 63 + 2 ^ 24 + 2 ^ 25 + 2 ^ 26 + 5)).setRg (Rg.tilthSplit 3) 0)) State.reset
theorem wit_GleanerCompletes_5 : ∃ (p : Fin 16) (v : Nat) (_h : HostRead) (d : Gl) (w : View) (b : Nat) (u : View) (c : Nat),
    (wst_GleanerCompletes_5).Inv ∧ (wst_GleanerCompletes_5).Issues p 0x50 v [(47, 16)] ∧ (wst_GleanerCompletes_5).gleanFailure p v = none ∧
    d = (wst_GleanerCompletes_5).gleanDesc p ((wst_GleanerCompletes_5).tref p v 16) ∧ d.kind = 4 ∧ (wst_GleanerCompletes_5).view? p d.view = some w ∧
    (wst_GleanerCompletes_5).gleanCheck p d w = 0 ∧ w.space = 1 ∧ b = (wst_GleanerCompletes_5).viewBase p w ∧ b + w.y * w.ystride + w.x ≤ hbmBytes ∧
    (wst_GleanerCompletes_5).Direct p ∧ ((wst_GleanerCompletes_5).plot p).state = .running ∧ d.nullSkip = false ∧
    (wst_GleanerCompletes_5).view? p d.view2 = some u ∧ u.space = 1 ∧ c = (wst_GleanerCompletes_5).viewBase p u ∧ c + u.x * u.y ≤ hbmBytes ∧
    w.ystride = w.x ∧ u.ystride = u.x ∧ d.data + 4 * d.cap ≤ d.outCount ∧ ((∀ j < d.count,
    (leNat (memRead ((wst_GleanerCompletes_5).plot p).tilth (d.idx + j * d.width) d.width)) + 1 < w.x * w.y / 8 ∧
    leNat (memRead (wst_GleanerCompletes_5).hbm (b + 8 * (leNat (memRead ((wst_GleanerCompletes_5).plot p).tilth (d.idx + j * d.width) d.width))) 8) ≤ leNat (memRead (wst_GleanerCompletes_5).hbm (b + 8 * ((leNat (memRead ((wst_GleanerCompletes_5).plot p).tilth (d.idx + j * d.width) d.width)) + 1)) 8) ∧
    leNat (memRead (wst_GleanerCompletes_5).hbm (b + 8 * ((leNat (memRead ((wst_GleanerCompletes_5).plot p).tilth (d.idx + j * d.width) d.width)) + 1)) 8) ≤ u.x * u.y / 4)) ∧
    ((List.range d.count).flatMap (fun j => (let i := (leNat (memRead ((wst_GleanerCompletes_5).plot p).tilth (d.idx + j * d.width) d.width)); memRead (wst_GleanerCompletes_5).hbm (c + 4 * leNat (memRead (wst_GleanerCompletes_5).hbm (b + 8 * i) 8)) (4 * (leNat (memRead (wst_GleanerCompletes_5).hbm (b + 8 * (i + 1)) 8) - leNat (memRead (wst_GleanerCompletes_5).hbm (b + 8 * i) 8)))))).length ≤ 4 * d.cap :=
  ⟨(3), ((wst_GleanerCompletes_5.nextCmd 3).getD 0), ({}), (wst_GleanerCompletes_5.gleanDesc 3 0x400), ({ space := 1, arg := 255, x := 64, base := 0x10000, ystride := 64, y := 1 }), (0x10000), ({ space := 1, arg := 255, x := 256, base := 0x20000, ystride := 256, y := 1 }), (0x20000), by
    unfold State.Issues State.Direct State.Clear State.Maps State.Inv PlotsWf Plot.Wf Rises
    decide +kernel⟩

/-! ### RowCommandsComplete -/

def wst_RowCommandsComplete_0 : State :=
  (fun (s : State) => ((((((base15 (serve s)).setRg (Rg.pctx 1 0) (2 ^ 63 + 2 ^ 25 + 2 ^ 26 + 5)).setRg (Rg.row 2 0x28) (5 + 2 ^ 22)).setRg (Rg.row 2 0x10) 64).setRg (Rg.row 2 0x18) 0x11).setRg (Rg.row 2 8) 0x20000).setCfg 4 2) State.reset
theorem wit_RowCommandsComplete_0 : ∃ (r : Fin 64) (_rid : Half), (wst_RowCommandsComplete_0).Inv ∧ (wst_RowCommandsComplete_0).rowOwner r = 1 ∧
    ((wst_RowCommandsComplete_0).row r).state = .idle ∧ (wst_RowCommandsComplete_0).bindOk r = true ∧ (wst_RowCommandsComplete_0).bme = false ∧
    (wst_RowCommandsComplete_0).drillCheck ((wst_RowCommandsComplete_0).directDesc r) ((wst_RowCommandsComplete_0).harrowSlot ((wst_RowCommandsComplete_0).directDesc r).xform) = 0 :=
  ⟨(2), (0), by
    unfold State.Inv PlotsWf Plot.Wf Rises
    decide +kernel⟩

def wst_RowCommandsComplete_1 : State :=
  (fun (s : State) => (((((base15 (serve s)).setRg (Rg.pctx 1 0) (2 ^ 63 + 2 ^ 25 + 2 ^ 26 + 5)).setRg (Rg.row 2 0x28) (5 + 2 ^ 22)).setRg (Rg.row 2 0x10) 64).setRg (Rg.row 2 0x18) 0x11).setRg (Rg.row 2 8) 0x20000) State.reset
theorem wit_RowCommandsComplete_1 : ∃ (r : Fin 64) (_rid : Half), (wst_RowCommandsComplete_1).Inv ∧ (wst_RowCommandsComplete_1).rowOwner r = 1 ∧
    ((wst_RowCommandsComplete_1).row r).state = .idle ∧ (wst_RowCommandsComplete_1).bindOk r = true ∧ (wst_RowCommandsComplete_1).bme = true ∧
    (wst_RowCommandsComplete_1).drillCheck ((wst_RowCommandsComplete_1).directDesc r) ((wst_RowCommandsComplete_1).harrowSlot ((wst_RowCommandsComplete_1).directDesc r).xform) = 0 ∧
    (wst_RowCommandsComplete_1).Clear ∧ (wst_RowCommandsComplete_1).Maps ((wst_RowCommandsComplete_1).rowPasid r) ∧
    ((wst_RowCommandsComplete_1).directDesc r).srcSpace = 1 ∧ ((wst_RowCommandsComplete_1).directDesc r).src < hbmBytes ∧
    ((wst_RowCommandsComplete_1).directDesc r).dstSpace = 1 ∧ ((wst_RowCommandsComplete_1).directDesc r).dst < hbmBytes ∧
    0 < ((wst_RowCommandsComplete_1).directDesc r).length ∧ ((((wst_RowCommandsComplete_1).directDesc r).signalEn = true →
    (wst_RowCommandsComplete_1).stakeOk ((wst_RowCommandsComplete_1).rowIssuer r) ((wst_RowCommandsComplete_1).directDesc r).signalStake = true)) :=
  ⟨(2), (0), by
    unfold State.Clear State.Maps State.Inv PlotsWf Plot.Wf Rises
    decide +kernel⟩

def wst_RowCommandsComplete_2 : State :=
  (fun (s : State) => ((((((base15 (serve s)).setRg (Rg.pctx 1 0) (2 ^ 63 + 2 ^ 25 + 2 ^ 26 + 5)).setRg (Rg.row 2 0x28) (5 + 2 ^ 22)).setRg (Rg.row 2 0x10) 64).setRg (Rg.row 2 0x18) 0x11).setRg (Rg.row 2 8) 0x20000).setCfg 4 2) State.reset
theorem wit_RowCommandsComplete_2 : ∃ (r : Fin 64) (_rid : Half), (wst_RowCommandsComplete_2).Inv ∧ (wst_RowCommandsComplete_2).rowOwner r = 1 ∧
    ((wst_RowCommandsComplete_2).row r).state = .idle ∧ (wst_RowCommandsComplete_2).bindOk r = true ∧ (wst_RowCommandsComplete_2).bme = false :=
  ⟨(2), (0), by
    unfold State.Inv PlotsWf Plot.Wf Rises
    decide +kernel⟩

def wst_RowCommandsComplete_3 : State :=
  (fun (s : State) => ((((((base15 (serve s)).setRg (Rg.pctx 1 0) (2 ^ 63 + 2 ^ 25 + 2 ^ 26 + 5)).setRg (Rg.row 2 0x28) (5 + 2 ^ 22)).setRg (Rg.row 2 0x10) 64).setRg (Rg.row 2 0x18) 0x11).setRg (Rg.row 2 8) 0x20000).setRg (Rg.row 2 0x30) 0x4440) State.reset
theorem wit_RowCommandsComplete_3 : ∃ (r : Fin 64) (_rid : Half) (g : Nat), (wst_RowCommandsComplete_3).Inv ∧
    (wst_RowCommandsComplete_3).rowOwner r = 1 ∧ ((wst_RowCommandsComplete_3).row r).state = .idle ∧ (wst_RowCommandsComplete_3).bindOk r = true ∧
    (wst_RowCommandsComplete_3).bme = true ∧ ((wst_RowCommandsComplete_3).row r).xfers = [] ∧ ((wst_RowCommandsComplete_3).row r).chainBusy = false ∧
    (wst_RowCommandsComplete_3).rowTagRoom r = true ∧ (wst_RowCommandsComplete_3).hopperRoom r 512 = true ∧
    (wst_RowCommandsComplete_3).mayRequest = true ∧ (wst_RowCommandsComplete_3).tagRoom false = true ∧ (wst_RowCommandsComplete_3).freeTag = some g ∧
    ((∀ n : Fin 513, (wst_RowCommandsComplete_3).hopperRoom r n = true)) :=
  ⟨(2), (0), (wst_RowCommandsComplete_3.freeTag.getD 0), by
    unfold State.Inv PlotsWf Plot.Wf Rises
    decide +kernel⟩

def wst_RowCommandsComplete_4 : State :=
  (fun (s : State) => (((fun (s : State) => { s with plots := [], g := {}, drill := { rows := [(2, { state := .chainEnd, hasChain := true, linkAt := some 64, code := 5 })] }, fab := {}, coh := {}, seed := {}, plat := {}, flt := {}, rot := {}, mig := {}, hbm := [(0x10005, 9), (0x10012, 7)], reg := s.reg.filter (fun c => (c.1 < 0x280000 || 0x300000 ≤ c.1) && (c.1 < 0x70000 || 0x80000 ≤ c.1)), pwr := { s.pwr with scrub := [], plotHeldOff := 0 }, host := { s.host with poison := [], tags := [], blocked := [] } } : State →
    State) (serve s)).setRg (Rg.pctx 1 0) (2 ^ 63 + 2 ^ 25 + 2 ^ 26 + 5)).setRg (Rg.row 2 0x28) (5 + 2 ^ 22)) State.reset
theorem wit_RowCommandsComplete_4 : ∃ (r : Fin 64), (wst_RowCommandsComplete_4).Inv ∧ (wst_RowCommandsComplete_4).rowOwner r = 1 ∧
    ((wst_RowCommandsComplete_4).row r).state = .chainEnd :=
  ⟨(2), by
    unfold State.Inv PlotsWf Plot.Wf Rises
    decide +kernel⟩

def wst_RowCommandsComplete_5 : State :=
  (fun (s : State) => (((fun (s : State) => { s with plots := [], g := {}, drill := { rows := [(2, { state := .active, hasChain := true, chainNext := some 64 })] }, fab := {}, coh := {}, seed := {}, plat := {}, flt := {}, rot := {}, mig := {}, hbm := [(0x10005, 9), (0x10012, 7)], reg := s.reg.filter (fun c => (c.1 < 0x280000 || 0x300000 ≤ c.1) && (c.1 < 0x70000 || 0x80000 ≤ c.1)), pwr := { s.pwr with scrub := [], plotHeldOff := 0 }, host := { s.host with poison := [], tags := [], blocked := [] } } : State →
    State) (serve s)).setRg (Rg.pctx 1 0) (2 ^ 63 + 2 ^ 25 + 2 ^ 26 + 5)).setRg (Rg.row 2 0x28) (5 + 2 ^ 22)) State.reset
theorem wit_RowCommandsComplete_5 : ∃ (r : Fin 64), (wst_RowCommandsComplete_5).Inv ∧ (wst_RowCommandsComplete_5).rowOwner r = 1 ∧
    (((wst_RowCommandsComplete_5).row r).state = .active ∨ ((wst_RowCommandsComplete_5).row r).state = .parked) ∧
    (wst_RowCommandsComplete_5).rowDrained r = true ∧ ((wst_RowCommandsComplete_5).row r).xfers = [] :=
  ⟨(2), by
    unfold State.Inv PlotsWf Plot.Wf Rises
    decide +kernel⟩

def wst_RowCommandsComplete_6 : State :=
  (fun (s : State) => (((fun (s : State) => { s with plots := [], g := {}, drill := { rows := [(2, { state := .active, hasChain := true, chainNext := some 64 })] }, fab := {}, coh := {}, seed := {}, plat := {}, flt := {}, rot := {}, mig := {}, hbm := [(0x10005, 9), (0x10012, 7)], reg := s.reg.filter (fun c => (c.1 < 0x280000 || 0x300000 ≤ c.1) && (c.1 < 0x70000 || 0x80000 ≤ c.1)), pwr := { s.pwr with scrub := [], plotHeldOff := 0 }, host := { s.host with poison := [], tags := [{ tag := 4, owner := .chain 2 64, addr := 64, len := 512 }], blocked := [] } } : State →
    State) (serve s)).setRg (Rg.pctx 1 0) (2 ^ 63 + 2 ^ 25 + 2 ^ 26 + 5)).setRg (Rg.row 2 0x28) (5 + 2 ^ 22)) State.reset
theorem wit_RowCommandsComplete_6 : ∃ (r : Fin 64), (wst_RowCommandsComplete_6).Inv ∧ (wst_RowCommandsComplete_6).rowOwner r = 1 ∧
    (((wst_RowCommandsComplete_6).row r).state = .active ∨ ((wst_RowCommandsComplete_6).row r).state = .parked) ∧
    (wst_RowCommandsComplete_6).rowDrained r = false :=
  ⟨(2), by
    unfold State.Inv PlotsWf Plot.Wf Rises
    decide +kernel⟩

def wst_RowCommandsComplete_7 : State :=
  (fun (s : State) => (fun (s : State) => { s with plots := [], g := {}, drill := { rows := [(2, { state := .error, code := 5 })] }, fab := {}, coh := {}, seed := {}, plat := {}, flt := {}, rot := {}, mig := {}, hbm := [(0x10005, 9), (0x10012, 7)], reg := s.reg.filter (fun c => (c.1 < 0x280000 || 0x300000 ≤ c.1) && (c.1 < 0x70000 || 0x80000 ≤ c.1)), pwr := { s.pwr with scrub := [], plotHeldOff := 0 }, host := { s.host with poison := [], tags := [], blocked := [] } } : State →
    State) (serve s)) State.reset
theorem wit_RowCommandsComplete_7 : ∃ (r : Fin 64), (wst_RowCommandsComplete_7).Inv ∧ ((wst_RowCommandsComplete_7).row r).state = .error :=
  ⟨(2), by
    unfold State.Inv PlotsWf Plot.Wf Rises
    decide +kernel⟩

def wst_RowCommandsComplete_8 : State :=
  (fun (s : State) => (fun (s : State) => { s with plots := [], g := {}, drill := { rows := [(2, { state := .parked, hasChain := true })] }, fab := {}, coh := {}, seed := {}, plat := {}, flt := {}, rot := {}, mig := {}, hbm := [(0x10005, 9), (0x10012, 7)], reg := s.reg.filter (fun c => (c.1 < 0x280000 || 0x300000 ≤ c.1) && (c.1 < 0x70000 || 0x80000 ≤ c.1)), pwr := { s.pwr with scrub := [], plotHeldOff := 0 }, host := { s.host with poison := [], tags := [], blocked := [] } } : State →
    State) (serve s)) State.reset
theorem wit_RowCommandsComplete_8 : ∃ (r : Fin 64) (_rid : Half), (wst_RowCommandsComplete_8).Inv ∧
    (((wst_RowCommandsComplete_8).row r).state = .active ∨ ((wst_RowCommandsComplete_8).row r).state = .parked ∨
    ((wst_RowCommandsComplete_8).row r).state = .stopping) ∧ ((wst_RowCommandsComplete_8).row r).hasChain = true :=
  ⟨(2), (0), by
    unfold State.Inv PlotsWf Plot.Wf Rises
    decide +kernel⟩

def wst_RowCommandsComplete_9 : State :=
  (fun (s : State) => ((((fun (s : State) => { s with plots := [], g := {}, drill := { rows := [(2, { state := .chainEnd, hasChain := true, linkAt := some 64 })] }, fab := {}, coh := {}, seed := {}, plat := {}, flt := {}, rot := {}, mig := {}, hbm := [(0x10005, 9), (0x10012, 7)], reg := s.reg.filter (fun c => (c.1 < 0x280000 || 0x300000 ≤ c.1) && (c.1 < 0x70000 || 0x80000 ≤ c.1)), pwr := { s.pwr with scrub := [], plotHeldOff := 0 }, host := { s.host with poison := [], tags := [], blocked := [] } } : State →
    State) (serve s)).setRg (Rg.pctx 1 0) (2 ^ 63 + 2 ^ 25 + 2 ^ 26 + 5)).setRg (Rg.row 2 0x28) (5 + 2 ^ 22)).setRg (Rg.row 2 0x60) (2 ^ 16)) State.reset
theorem wit_RowCommandsComplete_9 : ∃ (r : Fin 64) (_rid : Half) (a : Nat), (wst_RowCommandsComplete_9).Inv ∧
    ((wst_RowCommandsComplete_9).row r).state = .chainEnd ∧ (wst_RowCommandsComplete_9).rowOwner r = 1 ∧
    ((wst_RowCommandsComplete_9).row r).xfers = [] ∧ ((wst_RowCommandsComplete_9).row r).linkAt = some a ∧
    (wst_RowCommandsComplete_9).rowTagRoom r = false :=
  ⟨(2), (0), (64), by
    unfold State.Inv PlotsWf Plot.Wf Rises
    decide +kernel⟩

def wst_RowCommandsComplete_10 : State :=
  (fun (s : State) => base15 (serve s)) State.reset
theorem wit_RowCommandsComplete_10 : ∃ (r : Fin 64) (v : Word) (_rid : Half), (wst_RowCommandsComplete_10).Inv ∧
    ((wst_RowCommandsComplete_10).row r).state = .idle ∧ (wst_RowCommandsComplete_10).rowOwner r ≠ 2 ∧ fld v.toNat 23 22 < 2 :=
  ⟨(2), (0x500005), (0), by
    unfold State.Inv PlotsWf Plot.Wf Rises
    decide +kernel⟩

def wst_RowCommandsComplete_11 : State :=
  (fun (s : State) => base15 (serve s)) State.reset
theorem wit_RowCommandsComplete_11 : ∃ (r : Fin 64) (v : Word) (_rid : Half) (q : Nat), (wst_RowCommandsComplete_11).Inv ∧
    q = v.toNat &&& 0x7FF0FFF0FFF ∧
    (wst_RowCommandsComplete_11).reserves + fld q 11 0 ≤ 2048 + fld ((wst_RowCommandsComplete_11).rg (Rg.row r 0x60)) 11 0 ∧
    fld ((wst_RowCommandsComplete_11).rg (Rg.row r 0x60)) 11 0 ≤ (wst_RowCommandsComplete_11).reserves ∧ 1 ≤ fld q 27 16 ∧ fld q 27 16 ≤ 2048 ∧
    1 ≤ fld q 42 32 ∧ fld q 42 32 ≤ 1912 :=
  ⟨(2), (0x4000100004), (0), (0x4000100004), by
    unfold State.Inv PlotsWf Plot.Wf Rises
    decide +kernel⟩

def wst_RowCommandsComplete_12 : State :=
  (fun (s : State) => base15 (serve s)) State.reset
theorem wit_RowCommandsComplete_12 : ∃ (v : Word) (_rid : Half) (q : Nat), (wst_RowCommandsComplete_12).Inv ∧ q = v.toNat &&& 0xFFF0FFF ∧
    (wst_RowCommandsComplete_12).reserves + fld q 11 0 ≤ 2048 + fld ((wst_RowCommandsComplete_12).rg Rg.stileRx) 11 0 ∧
    fld ((wst_RowCommandsComplete_12).rg Rg.stileRx) 11 0 ≤ (wst_RowCommandsComplete_12).reserves ∧ 1 ≤ fld q 27 16 ∧ fld q 27 16 ≤ 2048 :=
  ⟨(0x100004), (0), (0x100004), by
    unfold State.Inv PlotsWf Plot.Wf Rises
    decide +kernel⟩

def wst_RowCommandsComplete_13 : State :=
  (fun (s : State) => (((fun (s : State) => { s with plots := [], g := {}, drill := { rows := [(2, { state := .active, hasChain := true, chainBusy := true, chainNext := some 128 })] }, fab := {}, coh := {}, seed := {}, plat := {}, flt := {}, rot := {}, mig := {}, hbm := [(0x10005, 9), (0x10012, 7)], reg := s.reg.filter (fun c => (c.1 < 0x280000 || 0x300000 ≤ c.1) && (c.1 < 0x70000 || 0x80000 ≤ c.1)), pwr := { s.pwr with scrub := [], plotHeldOff := 0 }, host := { s.host with poison := [], tags := [{ tag := 4, owner := .chain 2 128, addr := 128, len := 512 }], blocked := [] } } : State →
    State) (serve s)).setRg (Rg.pctx 1 0) (2 ^ 63 + 2 ^ 25 + 2 ^ 26 + 5)).setRg (Rg.row 2 0x28) (5 + 2 ^ 22)) State.reset
theorem wit_RowCommandsComplete_13 : ∃ (g : Nat) (d : List Byte) (u : TagUse) (r : Fin 64) (a : Nat), (wst_RowCommandsComplete_13).Inv ∧
    (wst_RowCommandsComplete_13).tagUse g = some u ∧ u.owner = .chain r a ∧ u.quar = .no ∧ ((wst_RowCommandsComplete_13).row r).hasChain = true ∧
    ((wst_RowCommandsComplete_13).row r).chainNext = some a ∧ d.length = 64 ∧ leNat d = 1 + 4 * 2 ^ 424 ∧
    ((wst_RowCommandsComplete_13).row r).xfers = [] ∧ (wst_RowCommandsComplete_13).rowOwner r = 1 ∧
    ((wst_RowCommandsComplete_13).row r).state = .active ∧ ((wst_RowCommandsComplete_13).row r).kick = false :=
  ⟨(4), (natLe 64 (1 + 4 * 2 ^ 424)), ({ tag := 4, owner := .chain 2 128, addr := 128, len := 512 }), (2), (128), by
    unfold State.Inv PlotsWf Plot.Wf Rises
    decide +kernel⟩

def wst_RowCommandsComplete_14 : State :=
  (fun (s : State) => (((fun (s : State) => { s with plots := [], g := {}, drill := { rows := [(2, { state := .parked, hasChain := true, chainBusy := true, chainNext := some 128 })] }, fab := {}, coh := {}, seed := {}, plat := {}, flt := {}, rot := {}, mig := {}, hbm := [(0x10005, 9), (0x10012, 7)], reg := s.reg.filter (fun c => (c.1 < 0x280000 || 0x300000 ≤ c.1) && (c.1 < 0x70000 || 0x80000 ≤ c.1)), pwr := { s.pwr with scrub := [], plotHeldOff := 0 }, host := { s.host with poison := [], tags := [{ tag := 4, owner := .chain 2 128, addr := 128, len := 512 }], blocked := [] } } : State →
    State) (serve s)).setRg (Rg.pctx 1 0) (2 ^ 63 + 2 ^ 25 + 2 ^ 26 + 5)).setRg (Rg.row 2 0x28) (5 + 2 ^ 22)) State.reset
theorem wit_RowCommandsComplete_14 : ∃ (g : Nat) (d : List Byte) (u : TagUse) (r : Fin 64) (a : Nat), (wst_RowCommandsComplete_14).Inv ∧
    (wst_RowCommandsComplete_14).tagUse g = some u ∧ u.owner = .chain r a ∧ u.quar = .no ∧ ((wst_RowCommandsComplete_14).row r).hasChain = true ∧
    ((wst_RowCommandsComplete_14).row r).chainNext = some a ∧ d.length = 64 ∧ (parseDesc d).opcode = 1 ∧ (parseDesc d).link = false ∧
    (parseDesc d).recordEn = false ∧ (wst_RowCommandsComplete_14).headerCheck 1 (parseDesc d) = 0 ∧
    (wst_RowCommandsComplete_14).drillCheck (parseDesc d) ((wst_RowCommandsComplete_14).harrowSlot (parseDesc d).xform) = 0 ∧
    ((wst_RowCommandsComplete_14).row r).state = .parked :=
  ⟨(4), ((natLe 1 1 ++ natLe 31 0 ++ natLe 8 0x20000 ++ natLe 8 0x30000 ++ natLe 4 64 ++ natLe 1 0x11 ++ natLe 11 0)), ({ tag := 4, owner := .chain 2 128, addr := 128, len := 512 }), (2), (128), by
    unfold State.Inv PlotsWf Plot.Wf Rises
    decide +kernel⟩

/-! ### DrillMovesBytes -/

def wst_DrillMovesBytes_0 : State :=
  (fun (s : State) => ((((fun (s : State) => { s with plots := [], g := {}, drill := { rows := [(2, { state := .active, xfers := [{ id := 7, src := .furrow 3 4, pasid := 5, begun := true, readAuth := 64, pressAuth := 64, d := { opcode := 1, body := natLe 8 0x10000 ++ natLe 8 0x20000 ++ natLe 4 64 ++ natLe 1 21 ++ natLe 1 0 ++ natLe 1 0 ++ natLe 1 0 ++ natLe 24 0 } }] })] }, fab := {}, coh := {}, seed := {}, plat := {}, flt := {}, rot := {}, mig := {}, hbm := [(0x10005, 9), (0x10012, 7)], reg := s.reg.filter (fun c => (c.1 < 0x280000 || 0x300000 ≤ c.1) && (c.1 < 0x70000 || 0x80000 ≤ c.1)), pwr := { s.pwr with scrub := [], plotHeldOff := 0 }, host := { s.host with poison := [], tags := [], blocked := [] } } : State →
    State) (serve s)).setRg (Rg.pctx 1 0) (2 ^ 63 + 2 ^ 25 + 2 ^ 26 + 5)).setRg (Rg.row 2 0x60) 0x10000100010).setRg Rg.platCtrl (0x10 + 4 * 2 ^ 8 + 4 * 2 ^ 16)) State.reset
theorem wit_DrillMovesBytes_0 : ∃ (r : Fin 64) (x : Row) (y : Xfer), (wst_DrillMovesBytes_0).Inv ∧ (wst_DrillMovesBytes_0).drill.rows = [(r.val, x)] ∧
    x.state = .active ∧ x.xfers = [y] ∧ (wst_DrillMovesBytes_0).rowOwner r = 0 ∧ y.begun = true ∧ y.finished = none ∧ y.d.paced = false ∧
    y.d.harrowEn = false ∧ (wst_DrillMovesBytes_0).host.frozen = false ∧ y.endAt = none ∧ y.d.srcSpace = 5 ∧ y.readPos = 0 ∧ y.readAuth = y.d.length ∧
    0 < y.d.length ∧ y.d.length ≤ 512 ∧ (wst_DrillMovesBytes_0).hopperRoom r y.d.length = true ∧ 0 < y.d.length :=
  ⟨(2), (wst_DrillMovesBytes_0.row 2), ({ id := 7, src := .furrow 3 4, pasid := 5, begun := true, readAuth := 64, pressAuth := 64, d := { opcode := 1, body := natLe 8 0x10000 ++ natLe 8 0x20000 ++ natLe 4 64 ++ natLe 1 21 ++ natLe 1 0 ++ natLe 1 0 ++ natLe 1 0 ++ natLe 24 0 } }), by
    unfold State.Inv PlotsWf Plot.Wf Rises
    decide +kernel⟩

def wst_DrillMovesBytes_1 : State :=
  (fun (s : State) => ((((fun (s : State) => { s with plots := [], g := {}, drill := { rows := [(2, { state := .active, xfers := [{ id := 7, src := .furrow 3 4, pasid := 5, begun := true, readAuth := 64, pressAuth := 64, d := { opcode := 1, body := natLe 8 0x10000 ++ natLe 8 0x20000 ++ natLe 4 64 ++ natLe 1 17 ++ natLe 1 0 ++ natLe 1 0 ++ natLe 1 0 ++ natLe 24 0 } }] })] }, fab := {}, coh := {}, seed := {}, plat := {}, flt := {}, rot := {}, mig := {}, hbm := [(0x10005, 9), (0x10012, 7)], reg := s.reg.filter (fun c => (c.1 < 0x280000 || 0x300000 ≤ c.1) && (c.1 < 0x70000 || 0x80000 ≤ c.1)), pwr := { s.pwr with scrub := [], plotHeldOff := 0 }, host := { s.host with poison := [], tags := [], blocked := [] } } : State →
    State) (serve s)).setRg (Rg.pctx 1 0) (2 ^ 63 + 2 ^ 25 + 2 ^ 26 + 5)).setRg (Rg.row 2 0x60) 0x10000100010).setRg Rg.platCtrl (0x10 + 4 * 2 ^ 8 + 4 * 2 ^ 16)) State.reset
theorem wit_DrillMovesBytes_1 : ∃ (r : Fin 64) (x : Row) (y : Xfer), (wst_DrillMovesBytes_1).Inv ∧ (wst_DrillMovesBytes_1).drill.rows = [(r.val, x)] ∧
    x.state = .active ∧ x.xfers = [y] ∧ (wst_DrillMovesBytes_1).rowOwner r = 0 ∧ y.begun = true ∧ y.finished = none ∧ y.d.paced = false ∧
    y.d.harrowEn = false ∧ (wst_DrillMovesBytes_1).host.frozen = false ∧ y.endAt = none ∧ y.ahead = [] ∧ y.fails = [] ∧ y.d.srcSpace = 1 ∧
    y.readPos = 0 ∧ y.readAuth = y.d.length ∧ 0 < y.d.length ∧ y.d.length ≤ 512 - y.d.src % 64 ∧
    (wst_DrillMovesBytes_1).hopperRoom r y.d.length = true ∧ (wst_DrillMovesBytes_1).Clear ∧ (wst_DrillMovesBytes_1).Maps y.pasid ∧
    y.d.src + y.d.length ≤ hbmBytes :=
  ⟨(2), (wst_DrillMovesBytes_1.row 2), ({ id := 7, src := .furrow 3 4, pasid := 5, begun := true, readAuth := 64, pressAuth := 64, d := { opcode := 1, body := natLe 8 0x10000 ++ natLe 8 0x20000 ++ natLe 4 64 ++ natLe 1 17 ++ natLe 1 0 ++ natLe 1 0 ++ natLe 1 0 ++ natLe 24 0 } }), by
    unfold State.Clear State.Maps State.Inv PlotsWf Plot.Wf Rises
    decide +kernel⟩

def wst_DrillMovesBytes_2 : State :=
  (fun (s : State) => ((((fun (s : State) => { s with plots := [], g := {}, drill := { rows := [(2, { state := .active, xfers := [{ id := 7, src := .furrow 3 4, pasid := 5, begun := true, readAuth := 64, pressAuth := 64, d := { opcode := 1, body := natLe 8 0x10000 ++ natLe 8 0x20000 ++ natLe 4 64 ++ natLe 1 17 ++ natLe 1 1 ++ natLe 1 0 ++ natLe 1 0 ++ natLe 24 0 }, harrow := (List.replicate 8 0).set 0 5, pieces := [{ off := 0, len := 64, data := (List.range 64).map (fun n => (BitVec.ofNat 8 (n * 3), false)), arrived := true }], readPos := 64 }] })] }, fab := {}, coh := {}, seed := {}, plat := {}, flt := {}, rot := {}, mig := {}, hbm := [(0x10005, 9), (0x10012, 7)], reg := s.reg.filter (fun c => (c.1 < 0x280000 || 0x300000 ≤ c.1) && (c.1 < 0x70000 || 0x80000 ≤ c.1)), pwr := { s.pwr with scrub := [], plotHeldOff := 0 }, host := { s.host with poison := [], tags := [], blocked := [] } } : State →
    State) (serve s)).setRg (Rg.pctx 1 0) (2 ^ 63 + 2 ^ 25 + 2 ^ 26 + 5)).setRg (Rg.row 2 0x60) 0x10000100010).setRg Rg.platCtrl (0x10 + 4 * 2 ^ 8 + 4 * 2 ^ 16)) State.reset
theorem wit_DrillMovesBytes_2 : ∃ (r : Fin 64) (x : Row) (y : Xfer) (p : Piece), (wst_DrillMovesBytes_2).Inv ∧
    (wst_DrillMovesBytes_2).drill.rows = [(r.val, x)] ∧ x.state = .active ∧ x.xfers = [y] ∧ (wst_DrillMovesBytes_2).rowOwner r = 0 ∧ y.begun = true ∧
    y.finished = none ∧ y.d.paced = false ∧ y.d.harrowEn = true ∧ y.pieces = [p] ∧ p.arrived = true ∧ p.data.length = p.len ∧ 0 < p.len ∧
    p.len ≤ 4096 ∧ p.len % hxUnit y.harrow = 0 ∧ 0 < hxUnit y.harrow ∧ (wst_DrillMovesBytes_2).drill.lastHarrow < 64 :=
  ⟨(2), (wst_DrillMovesBytes_2.row 2), ({ id := 7, src := .furrow 3 4, pasid := 5, begun := true, readAuth := 64, pressAuth := 64, d := { opcode := 1, body := natLe 8 0x10000 ++ natLe 8 0x20000 ++ natLe 4 64 ++ natLe 1 17 ++ natLe 1 1 ++ natLe 1 0 ++ natLe 1 0 ++ natLe 24 0 }, harrow := (List.replicate 8 0).set 0 5, pieces := [{ off := 0, len := 64, data := (List.range 64).map (fun n => (BitVec.ofNat 8 (n * 3), false)), arrived := true }], readPos := 64 }), ({ off := 0, len := 64, data := (List.range 64).map (fun n => (BitVec.ofNat 8 (n * 3), false)), arrived := true }), by
    unfold State.Inv PlotsWf Plot.Wf Rises
    decide +kernel⟩

def wst_DrillMovesBytes_3 : State :=
  (fun (s : State) => ((((fun (s : State) => { s with plots := [], g := {}, drill := { rows := [(2, { state := .active, xfers := [{ id := 7, src := .furrow 3 4, pasid := 5, begun := true, readAuth := 64, pressAuth := 64, d := { opcode := 1, body := natLe 8 0x10000 ++ natLe 8 0x20000 ++ natLe 4 64 ++ natLe 1 17 ++ natLe 1 0 ++ natLe 1 0 ++ natLe 1 0 ++ natLe 24 0 }, readPos := 64, ready := (List.range 64).map (fun n => (BitVec.ofNat 8 (n * 3), false)), judged := true }] })] }, fab := {}, coh := {}, seed := {}, plat := {}, flt := {}, rot := {}, mig := {}, hbm := [(0x10005, 9), (0x10012, 7)], reg := s.reg.filter (fun c => (c.1 < 0x280000 || 0x300000 ≤ c.1) && (c.1 < 0x70000 || 0x80000 ≤ c.1)), pwr := { s.pwr with scrub := [], plotHeldOff := 0 }, host := { s.host with poison := [], tags := [], blocked := [] } } : State →
    State) (serve s)).setRg (Rg.pctx 1 0) (2 ^ 63 + 2 ^ 25 + 2 ^ 26 + 5)).setRg (Rg.row 2 0x60) 0x10000100010).setRg Rg.platCtrl (0x10 + 4 * 2 ^ 8 + 4 * 2 ^ 16)) State.reset
theorem wit_DrillMovesBytes_3 : ∃ (r : Fin 64) (x : Row) (y : Xfer), (wst_DrillMovesBytes_3).Inv ∧ (wst_DrillMovesBytes_3).drill.rows = [(r.val, x)] ∧
    x.state = .active ∧ x.xfers = [y] ∧ (wst_DrillMovesBytes_3).rowOwner r = 0 ∧ y.begun = true ∧ y.finished = none ∧ y.d.paced = false ∧
    y.d.harrowEn = false ∧ y.pieces = [] ∧ y.fails = [] ∧ y.ahead = [] ∧ y.endAt = none ∧ y.judged = true ∧ y.memmove = false ∧ y.ext = [] ∧
    y.d.dstSpace = 1 ∧ y.pressPos = 0 ∧ y.pressAuth = y.d.length ∧ 0 < y.d.length ∧ y.ready.length = y.d.length ∧ y.ready.all (fun b => !b.2) = true ∧
    y.d.length ≤ 512 - y.d.dst % 64 ∧ (wst_DrillMovesBytes_3).Clear ∧ (wst_DrillMovesBytes_3).Maps y.pasid ∧ y.d.dst + y.d.length ≤ hbmBytes :=
  ⟨(2), (wst_DrillMovesBytes_3.row 2), ({ id := 7, src := .furrow 3 4, pasid := 5, begun := true, readAuth := 64, pressAuth := 64, d := { opcode := 1, body := natLe 8 0x10000 ++ natLe 8 0x20000 ++ natLe 4 64 ++ natLe 1 17 ++ natLe 1 0 ++ natLe 1 0 ++ natLe 1 0 ++ natLe 24 0 }, readPos := 64, ready := (List.range 64).map (fun n => (BitVec.ofNat 8 (n * 3), false)), judged := true }), by
    unfold State.Clear State.Maps State.Inv PlotsWf Plot.Wf Rises
    decide +kernel⟩

def wst_DrillMovesBytes_4 : State :=
  (fun (s : State) => ((((fun (s : State) => { s with plots := [], g := {}, drill := { feeds := [(13, { bound := some (2, 7), reqs := [(48, 4, true), (64, 5, false)] })], rows := [(2, { state := .active, xfers := [{ id := 7, src := .furrow 3 4, pasid := 5, begun := true, readAuth := 64, pressAuth := 48, d := { opcode := 1, body := natLe 8 0x10000 ++ natLe 8 0x20000 ++ natLe 4 64 ++ natLe 1 17 ++ natLe 1 2 ++ natLe 1 0 ++ natLe 1 19 ++ natLe 24 0 }, pressPos := 48, reqStart := 16 }] })] }, fab := {}, coh := {}, seed := {}, plat := {}, flt := {}, rot := {}, mig := {}, hbm := [(0x10005, 9), (0x10012, 7)], reg := s.reg.filter (fun c => (c.1 < 0x280000 || 0x300000 ≤ c.1) && (c.1 < 0x70000 || 0x80000 ≤ c.1)), pwr := { s.pwr with scrub := [], plotHeldOff := 0 }, host := { s.host with poison := [], tags := [], blocked := [] } } : State →
    State) (serve s)).setRg (Rg.pctx 1 0) (2 ^ 63 + 2 ^ 25 + 2 ^ 26 + 5)).setRg (Rg.row 2 0x60) 0x10000100010).setRg Rg.platCtrl (0x10 + 4 * 2 ^ 8 + 4 * 2 ^ 16)) State.reset
theorem wit_DrillMovesBytes_4 : ∃ (r : Fin 64) (x : Row) (y : Xfer) (p c n k : Nat) (l : List (Nat × Nat × Bool)), (wst_DrillMovesBytes_4).Inv ∧
    (wst_DrillMovesBytes_4).drill.rows = [(r.val, x)] ∧ x.xfers = [y] ∧ (wst_DrillMovesBytes_4).rowOwner r = 0 ∧ y.d.paced = true ∧ p = y.d.feedPlot ∧
    c = y.d.feedCh ∧ ((wst_DrillMovesBytes_4).feed p c).bound = some (r.val, y.id) ∧ ((wst_DrillMovesBytes_4).feed p c).reqs = (n, k, true) :: l ∧
    k ≠ 0 ∧ y.pressPos = y.pressAuth :=
  ⟨(2), (wst_DrillMovesBytes_4.row 2), ({ id := 7, src := .furrow 3 4, pasid := 5, begun := true, readAuth := 64, pressAuth := 48, d := { opcode := 1, body := natLe 8 0x10000 ++ natLe 8 0x20000 ++ natLe 4 64 ++ natLe 1 17 ++ natLe 1 2 ++ natLe 1 0 ++ natLe 1 19 ++ natLe 24 0 }, pressPos := 48, reqStart := 16 }), (3), (1), (48), (4), ([(64, 5, false)]), by
    unfold State.Inv PlotsWf Plot.Wf Rises
    decide +kernel⟩

/-! ### PortsComplete -/

def wst_PortsComplete_0 : State :=
  (fun (s : State) => ((fun (s : State) => ((({ s with plots := [], hbm := [(0x20005, 9)], g := { met := [], staging := [] }, drill := {}, fab := { ports := [(0, { state := .training }), (4, { state := .training }), (12, { state := .training })] }, slice := {}, mgr := {}, coh := {}, seed := {}, rot := {}, plat := {}, flt := {}, mig := {}, time := {}, hl := { s.hl with running := true }, dict := {}, mir := {}, fc := { s.fc with packageFenced := false }, reg := s.reg.filter (fun c => (c.1 < 0x70000 || 0x80000 ≤ c.1) && (c.1 < 0x40000 || 0x60000 ≤ c.1)), pwr := { s.pwr with scrub := [], refEver := true }, host := { s.host with poison := [] } } : State).setVal O.pkgAddr 0).setVal O.pkgAddrValid 1).setVal O.portEnable 0x1FFF : State →
    State) (serve s))) State.reset
theorem wit_PortsComplete_0 : ∃ (p : Fin 13) (_full : Bool) (_timing _voltage : Nat), (wst_PortsComplete_0).Inv ∧
    ((wst_PortsComplete_0).port p).state = .training ∧ (wst_PortsComplete_0).engineOff p = false :=
  ⟨(0), (true), (250), (30), by
    unfold State.Inv PlotsWf Plot.Wf Rises
    decide +kernel⟩

def wst_PortsComplete_1 : State :=
  (fun (s : State) => ((fun (s : State) => ((({ s with plots := [], hbm := [(0x20005, 9)], g := { met := [], staging := [] }, drill := {}, fab := { ports := [(0, { state := .ident, lanes := 4, timing := 300, voltage := 40 }), (1, { state := .ident, lanes := 8 })] }, slice := {}, mgr := {}, coh := {}, seed := {}, rot := {}, plat := {}, flt := {}, mig := {}, time := {}, hl := { s.hl with running := true }, dict := {}, mir := {}, fc := { s.fc with packageFenced := false }, reg := s.reg.filter (fun c => (c.1 < 0x70000 || 0x80000 ≤ c.1) && (c.1 < 0x40000 || 0x60000 ≤ c.1)), pwr := { s.pwr with scrub := [], refEver := true }, host := { s.host with poison := [] } } : State).setVal O.pkgAddr 0).setVal O.pkgAddrValid 1).setVal O.portEnable 0x1FFF : State →
    State) (serve s))) State.reset
theorem wit_PortsComplete_1 : ∃ (p : Fin 13) (a idx : Nat) (_s64 : Option (Nat × Nat)) (_dup : Bool), (wst_PortsComplete_1).Inv ∧
    ((wst_PortsComplete_1).port p).state = .ident ∧ (wst_PortsComplete_1).mgr.state = .idle ∧ p.val < 3 ∧
    rackOf a = rackOf (wst_PortsComplete_1).addr ∧ sledOf a = sledOf (wst_PortsComplete_1).addr ∧
    posOf a = (posOf (wst_PortsComplete_1).addr + p.val + 1) % 4 ∧ idx + p.val = 2 ∧ a ≠ (wst_PortsComplete_1).addr :=
  ⟨(0), (1), (2), (none), (false), by
    unfold State.Inv PlotsWf Plot.Wf Rises
    decide +kernel⟩

def wst_PortsComplete_2 : State :=
  (fun (s : State) => ((fun (s : State) => ((({ s with plots := [], hbm := [(0x20005, 9)], g := { met := [], staging := [] }, drill := {}, fab := { ports := [(4, { state := .ident, lanes := 4, timing := 300, voltage := 40 })] }, slice := {}, mgr := {}, coh := {}, seed := {}, rot := {}, plat := {}, flt := {}, mig := {}, time := {}, hl := { s.hl with running := true }, dict := {}, mir := {}, fc := { s.fc with packageFenced := false }, reg := s.reg.filter (fun c => (c.1 < 0x70000 || 0x80000 ≤ c.1) && (c.1 < 0x40000 || 0x60000 ≤ c.1)), pwr := { s.pwr with scrub := [], refEver := true }, host := { s.host with poison := [] } } : State).setVal O.pkgAddr 0).setVal O.pkgAddrValid 1).setVal O.portEnable 0x1FFF : State →
    State) (serve s))) State.reset
theorem wit_PortsComplete_2 : ∃ (p : Fin 13) (_a idx : Nat) (s64 : Option (Nat × Nat)), (wst_PortsComplete_2).Inv ∧
    ((wst_PortsComplete_2).port p).state = .ident ∧ (wst_PortsComplete_2).mgr.state = .idle ∧ 3 ≤ p.val ∧ p.val < 11 ∧ s64 = some (p.val - 3,
    rackOf (wst_PortsComplete_2).addr) ∧ idx = sledOf (wst_PortsComplete_2).addr * 4 + posOf (wst_PortsComplete_2).addr :=
  ⟨(4), (0), (0), (some (1, 0)), by
    unfold State.Inv PlotsWf Plot.Wf Rises
    decide +kernel⟩

def wst_PortsComplete_3 : State :=
  (fun (s : State) => ((fun (s : State) => ((({ s with plots := [], hbm := [(0x20005, 9)], g := { met := [], staging := [] }, drill := {}, fab := { ports := [(0, { state := .ident, lanes := 4, timing := 300, voltage := 40 })] }, slice := {}, mgr := {}, coh := {}, seed := {}, rot := {}, plat := {}, flt := {}, mig := {}, time := {}, hl := { s.hl with running := true }, dict := {}, mir := {}, fc := { s.fc with packageFenced := false }, reg := s.reg.filter (fun c => (c.1 < 0x70000 || 0x80000 ≤ c.1) && (c.1 < 0x40000 || 0x60000 ≤ c.1)), pwr := { s.pwr with scrub := [], refEver := true }, host := { s.host with poison := [] } } : State).setVal O.pkgAddr 0).setVal O.pkgAddrValid 1).setVal O.portEnable 0x1FFF : State →
    State) (serve s))) State.reset
theorem wit_PortsComplete_3 : ∃ (p : Fin 13) (a _idx : Nat) (_cls : PortClass) (_s64 : Option (Nat × Nat)) (_dup : Bool), (wst_PortsComplete_3).Inv ∧
    ((wst_PortsComplete_3).port p).state = .ident ∧ (wst_PortsComplete_3).mgr.state = .idle ∧ p.val < 3 ∧ a = (wst_PortsComplete_3).addr :=
  ⟨(0), (0), (2), (.sled), (none), (false), by
    unfold State.Inv PlotsWf Plot.Wf Rises
    decide +kernel⟩

def wst_PortsComplete_4 : State :=
  (fun (s : State) => (base7 (serve s))) State.reset
theorem wit_PortsComplete_4 : ∃ (p : Fin 13), (wst_PortsComplete_4).Inv ∧ ((wst_PortsComplete_4).port p).active = true ∧
    (wst_PortsComplete_4).fab.held = [] ∧ (wst_PortsComplete_4).fab.ordered = [] ∧ (wst_PortsComplete_4).slice.state = .none :=
  ⟨(0), by
    unfold State.Inv PlotsWf Plot.Wf Rises
    decide +kernel⟩

def wst_PortsComplete_5 : State :=
  (fun (s : State) => (base4 (serve s))) State.reset
theorem wit_PortsComplete_5 : ∃ (p : Fin 13) (q : Fin 3), (wst_PortsComplete_5).Inv ∧ ((wst_PortsComplete_5).port p).active = true ∧
    (wst_PortsComplete_5).fab.held = [] ∧ (wst_PortsComplete_5).fab.ordered = [] ∧ (wst_PortsComplete_5).slice.state = .active ∧ p.val < 11 ∧
    p.val ≠ q.val ∧ (wst_PortsComplete_5).slice.mgrAddr ≠ (wst_PortsComplete_5).addr ∧
    rackOf (wst_PortsComplete_5).slice.mgrAddr = rackOf (wst_PortsComplete_5).addr ∧
    sledOf (wst_PortsComplete_5).slice.mgrAddr = sledOf (wst_PortsComplete_5).addr ∧
    (posOf (wst_PortsComplete_5).slice.mgrAddr + 4 - posOf (wst_PortsComplete_5).addr + 3) % 4 = q.val ∧
    ((wst_PortsComplete_5).port q).active = true ∧ ((wst_PortsComplete_5).port q).credits.length = 3 ∧
    2 ≤ ((wst_PortsComplete_5).port q).credits.getD 2 0 ∧ (wst_PortsComplete_5).slice.id ≠ 0 :=
  ⟨(4), (0), by
    unfold State.Inv PlotsWf Plot.Wf Rises
    decide +kernel⟩

def wst_PortsComplete_6 : State :=
  (fun (s : State) => ((fun (s : State) => ((({ s with plots := [], hbm := [(0x20005, 9)], g := { met := [], staging := [] }, drill := {}, fab := { ports := [(0, { state := .down, retryAt := 10 ^ 19 }), (4, { state := .refused, peer := 3 })] }, slice := {}, mgr := {}, coh := {}, seed := {}, rot := {}, plat := {}, flt := {}, mig := {}, time := {}, hl := { s.hl with running := true }, dict := {}, mir := {}, fc := { s.fc with packageFenced := false }, reg := s.reg.filter (fun c => (c.1 < 0x70000 || 0x80000 ≤ c.1) && (c.1 < 0x40000 || 0x60000 ≤ c.1)), pwr := { s.pwr with scrub := [], refEver := true }, host := { s.host with poison := [] } } : State).setVal O.pkgAddr 0).setVal O.pkgAddrValid 1).setVal O.portEnable 0x1FFF : State →
    State) (serve s))) State.reset
theorem wit_PortsComplete_6 : ∃ (p : Fin 13), (wst_PortsComplete_6).Inv ∧ (((wst_PortsComplete_6).port p).state = .down ∨
    ((wst_PortsComplete_6).port p).state = .refused) ∧ (wst_PortsComplete_6).portAllowed p = true :=
  ⟨(0), by
    unfold State.Inv PlotsWf Plot.Wf Rises
    decide +kernel⟩

def wst_PortsComplete_7 : State :=
  (fun (s : State) => (base7 (serve s))) State.reset
theorem wit_PortsComplete_7 : ∃ (p _ti _vo _a _b : Nat), (wst_PortsComplete_7).Inv ∧ p < 13 ∧ ((wst_PortsComplete_7).port p).active = true :=
  ⟨(0), (149), (12), (0), (5), by
    unfold State.Inv PlotsWf Plot.Wf Rises
    decide +kernel⟩

def wst_PortsComplete_8 : State :=
  (fun (s : State) => (base7 (serve s))) State.reset
theorem wit_PortsComplete_8 : ∃ (_ports : BitVec 13), (wst_PortsComplete_8).Inv :=
  ⟨(0x1FFF), by
    unfold State.Inv PlotsWf Plot.Wf Rises
    decide +kernel⟩

def wst_PortsComplete_9 : State :=
  (fun (s : State) => (base7 (serve s))) State.reset
theorem wit_PortsComplete_9 : ∃ (p : Fin 13) (bytes : List Byte), (wst_PortsComplete_9).Inv ∧ ((wst_PortsComplete_9).port p).active = true ∧
    wireBad bytes = true :=
  ⟨(0), ([1, 2]), by
    unfold State.Inv PlotsWf Plot.Wf Rises
    decide +kernel⟩

def wst_PortsComplete_10 : State :=
  (fun (s : State) => (base7 (serve s))) State.reset
theorem wit_PortsComplete_10 : ∃ (p : Fin 13) (_vc : Fin 3) (_n : Nat), (wst_PortsComplete_10).Inv ∧ ((wst_PortsComplete_10).port p).active = true ∧
    (wst_PortsComplete_10).fab.held = [] :=
  ⟨(0), (0), (7), by
    unfold State.Inv PlotsWf Plot.Wf Rises
    decide +kernel⟩

def wst_PortsComplete_11 : State :=
  (fun (s : State) => ((fun (s : State) => ((({ s with plots := [], hbm := [(0x20005, 9)], g := { met := [], staging := [] }, drill := {}, fab := { ports := [(0, { state := .up, credits := [0, 1, 0] })], held := [(0, { kind := .readRsp, payload := List.replicate 90 7 })] }, slice := {}, mgr := {}, coh := {}, seed := {}, rot := {}, plat := {}, flt := {}, mig := {}, time := {}, hl := { s.hl with running := true }, dict := {}, mir := {}, fc := { s.fc with packageFenced := false }, reg := s.reg.filter (fun c => (c.1 < 0x70000 || 0x80000 ≤ c.1) && (c.1 < 0x40000 || 0x60000 ≤ c.1)), pwr := { s.pwr with scrub := [], refEver := true }, host := { s.host with poison := [] } } : State).setVal O.pkgAddr 0).setVal O.pkgAddrValid 1).setVal O.portEnable 0x1FFF : State →
    State) (serve s))) State.reset
theorem wit_PortsComplete_11 : ∃ (p : Fin 13) (vc : Fin 3) (n : Nat) (m : Msg), (wst_PortsComplete_11).Inv ∧
    ((wst_PortsComplete_11).port p).active = true ∧ (wst_PortsComplete_11).fab.held = [(p.val, m)] ∧ msgVc m.kind = vc.val ∧
    ((wst_PortsComplete_11).port p).credits.length = 3 ∧ m.kind ≠ .ident ∧
    (wireBytes m).length ≤ 64 * (((wst_PortsComplete_11).port p).credits.getD vc 0 + n) :=
  ⟨(0), (1), (2), ({ kind := .readRsp, payload := List.replicate 90 7 }), by
    unfold State.Inv PlotsWf Plot.Wf Rises
    decide +kernel⟩

def wst_PortsComplete_12 : State :=
  (fun (s : State) => (base4 (serve s))) State.reset
theorem wit_PortsComplete_12 : ∃ (p : Fin 13) (m w : Msg) (h q : Nat), (wst_PortsComplete_12).Inv ∧ w = onWire m ∧
    ((wst_PortsComplete_12).port p).active = true ∧ w.hop = (wst_PortsComplete_12).addr ∧ w.dst ≠ (wst_PortsComplete_12).addr ∧
    (wst_PortsComplete_12).slice.state = .active ∧ p.val < 11 ∧ w.kind ≠ .ident ∧ (wst_PortsComplete_12).route w.kind w.dst = some (h, q) ∧
    (wst_PortsComplete_12).fab.held = [] ∧ ((wst_PortsComplete_12).port q).credits.length = 3 ∧
    (wireBytes { w with relayed := true, hop := h }).length ≤ 64 * ((wst_PortsComplete_12).port q).credits.getD (msgVc w.kind) 0 :=
  ⟨(4), ({ kind := .readRsp, dst := 1, src := 8, payload := [1, 2] }), ({ kind := .readRsp, dst := 1, src := 8, payload := [1, 2] }), (1), (0), by
    unfold State.Inv PlotsWf Plot.Wf Rises
    decide +kernel⟩

def wst_PortsComplete_13 : State :=
  (fun (s : State) => (base7 (serve s))) State.reset
theorem wit_PortsComplete_13 : ∃ (p : Fin 13) (m : Msg), (wst_PortsComplete_13).Inv ∧ ((wst_PortsComplete_13).port p).active = true ∧
    m.hop % 2 ^ 12 = (wst_PortsComplete_13).addr ∧ m.dst % 2 ^ 12 ≠ (wst_PortsComplete_13).addr ∧ (wst_PortsComplete_13).slice.state ≠ .active :=
  ⟨(4), ({ kind := .readRsp, dst := 1, src := 8, payload := [1, 2] }), by
    unfold State.Inv PlotsWf Plot.Wf Rises
    decide +kernel⟩

/-! ### StileMessagesComplete -/

def wst_StileMessagesComplete_0 : State :=
  (fun (s : State) => (((((((base7 (serve s))).setRg (Rg.pctx 1 0) (2 ^ 63 + 2 ^ 25 + 2 ^ 26 + 5)).setRg (Rg.stile 2 0) (1 + 2 + 4 + 8 + 5 * 2 ^ 16)).setRg (Rg.stile 2 8) 0x20000).setRg (Rg.stile 2 16) 16).setRg (Rg.stile 2 24) (1 + 8 * 2 ^ 4 + 9 * 2 ^ 16 + 4 * 2 ^ 32)).setRg (Rg.stakeGroup 0) (2 ^ 22)) State.reset
theorem wit_StileMessagesComplete_0 : ∃ (p : Fin 13) (m w : Msg) (h q : Nat) (a : Nat), (wst_StileMessagesComplete_0).Inv ∧
    w = onWire { m with kind := .stileWrite } ∧ (wst_StileMessagesComplete_0).Receives p m ∧ (wst_StileMessagesComplete_0).stileRefuses p w = none ∧
    (wst_StileMessagesComplete_0).Clear ∧ (wst_StileMessagesComplete_0).Maps (fld ((wst_StileMessagesComplete_0).stile w.window 0) 35 16) ∧
    fld ((wst_StileMessagesComplete_0).stile w.window 0) 5 4 = 0 ∧ a = (wst_StileMessagesComplete_0).stile w.window 1 / 4096 * 4096 + w.addr ∧
    w.marks = [] ∧ a < hbmBytes ∧ a + w.payload.length ≤ hbmBytes ∧ (wst_StileMessagesComplete_0).route .writeAck w.src = some (h, q) ∧
    (wst_StileMessagesComplete_0).fab.held = [] ∧ ((wst_StileMessagesComplete_0).port q).credits.length = 3 ∧
    1 ≤ ((wst_StileMessagesComplete_0).port q).credits.getD 1 0 :=
  ⟨(4), ({ src := 8, window := 2, tag := 77, addr := 3, payload := [1, 2, 3] }), ({ kind := .stileWrite, src := 8, window := 2, tag := 77, addr := 3, payload := [1, 2, 3] }), (8), (4), (0x20003), by
    unfold State.Receives State.Clear State.Maps State.Inv PlotsWf Plot.Wf Rises
    decide +kernel⟩

def wst_StileMessagesComplete_1 : State :=
  (fun (s : State) => (((((((base7 (serve s))).setRg (Rg.pctx 1 0) (2 ^ 63 + 2 ^ 25 + 2 ^ 26 + 5)).setRg (Rg.stile 2 0) 0).setRg (Rg.stile 2 8) 0x20000).setRg (Rg.stile 2 16) 16).setRg (Rg.stile 2 24) (1 + 8 * 2 ^ 4 + 9 * 2 ^ 16 + 4 * 2 ^ 32)).setRg (Rg.stakeGroup 0) (2 ^ 22)) State.reset
theorem wit_StileMessagesComplete_1 : ∃ (p : Fin 13) (m w : Msg) (h q : Nat) (c : Nat), (wst_StileMessagesComplete_1).Inv ∧
    w = onWire { m with kind := .stileWrite } ∧ (wst_StileMessagesComplete_1).Receives p m ∧ (wst_StileMessagesComplete_1).stileRefuses p w = some c ∧
    (wst_StileMessagesComplete_1).route .writeAck w.src = some (h, q) ∧ (wst_StileMessagesComplete_1).fab.held = [] ∧
    ((wst_StileMessagesComplete_1).port q).credits.length = 3 ∧ 1 ≤ ((wst_StileMessagesComplete_1).port q).credits.getD 1 0 :=
  ⟨(4), ({ src := 8, window := 2, tag := 77, addr := 3, payload := [1, 2, 3] }), ({ kind := .stileWrite, src := 8, window := 2, tag := 77, addr := 3, payload := [1, 2, 3] }), (8), (4), (0x52), by
    unfold State.Receives State.Inv PlotsWf Plot.Wf Rises
    decide +kernel⟩

def wst_StileMessagesComplete_2 : State :=
  (fun (s : State) => (((((((base7 (serve s))).setRg (Rg.pctx 1 0) (2 ^ 63 + 2 ^ 25 + 2 ^ 26 + 5)).setRg (Rg.stile 2 0) (1 + 2 + 4 + 8 + 5 * 2 ^ 16)).setRg (Rg.stile 2 8) 0x20000).setRg (Rg.stile 2 16) 16).setRg (Rg.stile 2 24) (1 + 8 * 2 ^ 4 + 9 * 2 ^ 16 + 4 * 2 ^ 32)).setRg (Rg.stakeGroup 0) (2 ^ 22)) State.reset
theorem wit_StileMessagesComplete_2 : ∃ (p : Fin 13) (m w : Msg) (h q : Nat) (a : Nat), (wst_StileMessagesComplete_2).Inv ∧
    w = onWire { m with kind := .readReq } ∧ (wst_StileMessagesComplete_2).Receives p m ∧ (wst_StileMessagesComplete_2).stileRefuses p w = none ∧
    (wst_StileMessagesComplete_2).Clear ∧ (wst_StileMessagesComplete_2).Maps (fld ((wst_StileMessagesComplete_2).stile w.window 0) 35 16) ∧
    fld ((wst_StileMessagesComplete_2).stile w.window 0) 5 4 = 0 ∧ a = (wst_StileMessagesComplete_2).stile w.window 1 / 4096 * 4096 + w.addr ∧
    a < hbmBytes ∧ a + w.aux ≤ hbmBytes ∧ (wst_StileMessagesComplete_2).route .readRsp w.src = some (h, q) ∧
    (wst_StileMessagesComplete_2).fab.held = [] ∧ ((wst_StileMessagesComplete_2).port q).credits.length = 3 ∧
    (40 + w.aux + 63) / 64 ≤ ((wst_StileMessagesComplete_2).port q).credits.getD 1 0 :=
  ⟨(4), ({ src := 8, window := 2, tag := 77, addr := 3, aux := 70 }), ({ kind := .readReq, src := 8, window := 2, tag := 77, addr := 3, aux := 70 }), (8), (4), (0x20003), by
    unfold State.Receives State.Clear State.Maps State.Inv PlotsWf Plot.Wf Rises
    decide +kernel⟩

def wst_StileMessagesComplete_3 : State :=
  (fun (s : State) => (((((((base6 (serve s))).setRg (Rg.pctx 1 0) (2 ^ 63 + 2 ^ 25 + 2 ^ 26 + 5)).setRg (Rg.stile 2 0) (1 + 2 + 4 + 8 + 5 * 2 ^ 16)).setRg (Rg.stile 2 8) 0x20000).setRg (Rg.stile 2 16) 16).setRg (Rg.stile 2 24) (1 + 8 * 2 ^ 4 + 9 * 2 ^ 16 + 4 * 2 ^ 32)).setRg (Rg.stakeGroup 0) (2 ^ 22)) State.reset
theorem wit_StileMessagesComplete_3 : ∃ (p : Fin 13) (m w : Msg) (h q : Nat), (wst_StileMessagesComplete_3).Inv ∧
    w = onWire { m with kind := .stakeAdd } ∧ (wst_StileMessagesComplete_3).Receives p m ∧ (wst_StileMessagesComplete_3).stileRefuses p w = none ∧
    (wst_StileMessagesComplete_3).Settled ∧ ((∀ x ∈ (wst_StileMessagesComplete_3).g.waits, x.stake ≠ w.aux)) ∧
    (wst_StileMessagesComplete_3).route .stakeAck w.src = some (h, q) ∧ (wst_StileMessagesComplete_3).fab.held = [] ∧
    ((wst_StileMessagesComplete_3).port q).credits.length = 3 ∧ 1 ≤ ((wst_StileMessagesComplete_3).port q).credits.getD 1 0 :=
  ⟨(4), ({ src := 8, window := 2, tag := 77, aux := 10, addr := 2 ^ 64 - 2 }), ({ kind := .stakeAdd, src := 8, window := 2, tag := 77, aux := 10, addr := 2 ^ 64 - 2 }), (8), (4), by
    unfold State.Receives State.Settled State.Inv PlotsWf Plot.Wf Rises
    decide +kernel⟩

def wst_StileMessagesComplete_4 : State :=
  (fun (s : State) => (((((((base6 (serve s))).setRg (Rg.pctx 1 0) (2 ^ 63 + 2 ^ 25 + 2 ^ 26 + 5)).setRg (Rg.stile 2 0) (1 + 2 + 4 + 8 + 5 * 2 ^ 16)).setRg (Rg.stile 2 8) 0x20000).setRg (Rg.stile 2 16) 16).setRg (Rg.stile 2 24) (1 + 8 * 2 ^ 4 + 9 * 2 ^ 16 + 4 * 2 ^ 32)).setRg (Rg.stakeGroup 0) (2 ^ 22)) State.reset
theorem wit_StileMessagesComplete_4 : ∃ (p : Fin 13) (m w : Msg) (h q : Nat), (wst_StileMessagesComplete_4).Inv ∧
    w = onWire { m with kind := .stakeSet } ∧ (wst_StileMessagesComplete_4).Receives p m ∧ (wst_StileMessagesComplete_4).stileRefuses p w = none ∧
    (wst_StileMessagesComplete_4).Settled ∧ ((∀ x ∈ (wst_StileMessagesComplete_4).g.waits, x.stake ≠ w.aux)) ∧
    (wst_StileMessagesComplete_4).route .stakeAck w.src = some (h, q) ∧ (wst_StileMessagesComplete_4).fab.held = [] ∧
    ((wst_StileMessagesComplete_4).port q).credits.length = 3 ∧ 1 ≤ ((wst_StileMessagesComplete_4).port q).credits.getD 1 0 :=
  ⟨(4), ({ src := 8, window := 2, tag := 77, aux := 10, addr := 2 ^ 64 - 2 }), ({ kind := .stakeSet, src := 8, window := 2, tag := 77, aux := 10, addr := 2 ^ 64 - 2 }), (8), (4), by
    unfold State.Receives State.Settled State.Inv PlotsWf Plot.Wf Rises
    decide +kernel⟩

def wst_StileMessagesComplete_5 : State :=
  (fun (s : State) => (((((((base6 (serve s))).setRg (Rg.pctx 1 0) (2 ^ 63 + 2 ^ 25 + 2 ^ 26 + 5)).setRg (Rg.stile 2 0) (1 + 2 + 4 + 8 + 5 * 2 ^ 16)).setRg (Rg.stile 2 8) 0x20000).setRg (Rg.stile 2 16) 16).setRg (Rg.stile 2 24) (1 + 8 * 2 ^ 4 + 9 * 2 ^ 16 + 4 * 2 ^ 32)).setRg (Rg.stakeGroup 0) (2 ^ 22)) State.reset
theorem wit_StileMessagesComplete_5 : ∃ (p : Fin 13) (m w : Msg) (h q : Nat), (wst_StileMessagesComplete_5).Inv ∧
    w = onWire { m with kind := .stakeRead } ∧ (wst_StileMessagesComplete_5).Receives p m ∧ (wst_StileMessagesComplete_5).stileRefuses p w = none ∧
    (wst_StileMessagesComplete_5).route .stakeRsp w.src = some (h, q) ∧ (wst_StileMessagesComplete_5).fab.held = [] ∧
    ((wst_StileMessagesComplete_5).port q).credits.length = 3 ∧ 1 ≤ ((wst_StileMessagesComplete_5).port q).credits.getD 1 0 :=
  ⟨(4), ({ src := 8, window := 2, tag := 77, aux := 10 }), ({ kind := .stakeRead, src := 8, window := 2, tag := 77, aux := 10 }), (8), (4), by
    unfold State.Receives State.Inv PlotsWf Plot.Wf Rises
    decide +kernel⟩

def wst_StileMessagesComplete_6 : State :=
  (fun (s : State) => ((fun (s : State) => ((({ s with plots := [], hbm := [(0x20005, 9)], g := { met := [], staging := [] }, drill := {}, fab := { ports := [(0, { state := .up, lanes := 8, peer := 1, peerPort := 2, credits := [100, 100, 100], timing := 300, voltage := 40 }), (4, { state := .up, lanes := 8, peer := 1, peerPort := 2, credits := [100, 100, 100], timing := 300, voltage := 40 })], reqs := [{ tag := 77, kind := .stileWrite, dst := 8, owner := .none, deadline := some 900, port := 4 }] }, slice := {}, mgr := {}, coh := {}, seed := {}, rot := {}, plat := {}, flt := {}, mig := {}, time := {}, hl := { s.hl with running := true }, dict := {}, mir := {}, fc := { s.fc with packageFenced := false }, reg := s.reg.filter (fun c => (c.1 < 0x70000 || 0x80000 ≤ c.1) && (c.1 < 0x40000 || 0x60000 ≤ c.1)), pwr := { s.pwr with scrub := [], refEver := true }, host := { s.host with poison := [] } } : State).setVal O.pkgAddr 0).setVal O.pkgAddrValid 1).setVal O.portEnable 0x1FFF : State →
    State) (serve s))) State.reset
theorem wit_StileMessagesComplete_6 : ∃ (p : Fin 13) (m w : Msg) (y : FabReq), (wst_StileMessagesComplete_6).Inv ∧
    w = onWire { m with kind := .writeAck } ∧ (wst_StileMessagesComplete_6).Receives p m ∧ (wst_StileMessagesComplete_6).fab.reqs = [y] ∧
    y.tag = w.tag ∧ y.kind = .stileWrite ∧ y.dst = w.src ∧ (wst_StileMessagesComplete_6).fab.ordered = [] ∧ w.aux = 0 ∧ ((y.owner = .none ∨
    ∃ k : Fin 32, y.owner = .plotSignal k)) :=
  ⟨(4), ({ src := 8, tag := 77, aux := 0 }), ({ kind := .writeAck, src := 8, tag := 77, aux := 0 }), ({ tag := 77, kind := .stileWrite, dst := 8, owner := .none, deadline := some 900, port := 4 }), by
    unfold State.Receives State.Inv PlotsWf Plot.Wf Rises
    decide +kernel⟩

def wst_StileMessagesComplete_7 : State :=
  (fun (s : State) => ((fun (s : State) => ((({ s with plots := [], hbm := [(0x20005, 9)], g := { met := [], staging := [] }, drill := {}, fab := { ports := [(0, { state := .up, lanes := 8, peer := 1, peerPort := 2, credits := [100, 100, 100], timing := 300, voltage := 40 }), (4, { state := .up, lanes := 8, peer := 1, peerPort := 2, credits := [100, 100, 100], timing := 300, voltage := 40 })], reqs := [{ tag := 77, kind := .stakeAdd, dst := 8, owner := .none, deadline := some 900, port := 4 }] }, slice := {}, mgr := {}, coh := {}, seed := {}, rot := {}, plat := {}, flt := {}, mig := {}, time := {}, hl := { s.hl with running := true }, dict := {}, mir := {}, fc := { s.fc with packageFenced := false }, reg := s.reg.filter (fun c => (c.1 < 0x70000 || 0x80000 ≤ c.1) && (c.1 < 0x40000 || 0x60000 ≤ c.1)), pwr := { s.pwr with scrub := [], refEver := true }, host := { s.host with poison := [] } } : State).setVal O.pkgAddr 0).setVal O.pkgAddrValid 1).setVal O.portEnable 0x1FFF : State →
    State) (serve s))) State.reset
theorem wit_StileMessagesComplete_7 : ∃ (p : Fin 13) (m w : Msg) (y : FabReq), (wst_StileMessagesComplete_7).Inv ∧
    w = onWire { m with kind := .stakeAck } ∧ (wst_StileMessagesComplete_7).Receives p m ∧ (wst_StileMessagesComplete_7).fab.reqs = [y] ∧
    y.tag = w.tag ∧ y.kind = .stakeAdd ∧ y.dst = w.src ∧ (wst_StileMessagesComplete_7).fab.ordered = [] ∧ w.aux = 0 ∧ ((y.owner = .none ∨
    ∃ k : Fin 32, y.owner = .plotSignal k)) :=
  ⟨(4), ({ src := 8, tag := 77, aux := 0 }), ({ kind := .stakeAck, src := 8, tag := 77, aux := 0 }), ({ tag := 77, kind := .stakeAdd, dst := 8, owner := .none, deadline := some 900, port := 4 }), by
    unfold State.Receives State.Inv PlotsWf Plot.Wf Rises
    decide +kernel⟩

def wst_StileMessagesComplete_8 : State :=
  (fun (s : State) => ((fun (s : State) => ((({ s with plots := [], hbm := [(0x20005, 9)], g := { met := [], staging := [] }, drill := {}, fab := { ports := [(0, { state := .up, lanes := 8, peer := 1, peerPort := 2, credits := [100, 100, 100], timing := 300, voltage := 40 }), (4, { state := .up, lanes := 8, peer := 1, peerPort := 2, credits := [100, 100, 100], timing := 300, voltage := 40 })], reqs := [{ tag := 77, kind := .stakeSet, dst := 8, owner := .none, deadline := some 900, port := 4 }] }, slice := {}, mgr := {}, coh := {}, seed := {}, rot := {}, plat := {}, flt := {}, mig := {}, time := {}, hl := { s.hl with running := true }, dict := {}, mir := {}, fc := { s.fc with packageFenced := false }, reg := s.reg.filter (fun c => (c.1 < 0x70000 || 0x80000 ≤ c.1) && (c.1 < 0x40000 || 0x60000 ≤ c.1)), pwr := { s.pwr with scrub := [], refEver := true }, host := { s.host with poison := [] } } : State).setVal O.pkgAddr 0).setVal O.pkgAddrValid 1).setVal O.portEnable 0x1FFF : State →
    State) (serve s))) State.reset
theorem wit_StileMessagesComplete_8 : ∃ (p : Fin 13) (m w : Msg) (y : FabReq), (wst_StileMessagesComplete_8).Inv ∧
    w = onWire { m with kind := .stakeAck } ∧ (wst_StileMessagesComplete_8).Receives p m ∧ (wst_StileMessagesComplete_8).fab.reqs = [y] ∧
    y.tag = w.tag ∧ y.kind = .stakeSet ∧ y.dst = w.src ∧ (wst_StileMessagesComplete_8).fab.ordered = [] ∧ w.aux = 0 ∧ ((y.owner = .none ∨
    ∃ k : Fin 32, y.owner = .plotSignal k)) :=
  ⟨(4), ({ src := 8, tag := 77, aux := 0 }), ({ kind := .stakeAck, src := 8, tag := 77, aux := 0 }), ({ tag := 77, kind := .stakeSet, dst := 8, owner := .none, deadline := some 900, port := 4 }), by
    unfold State.Receives State.Inv PlotsWf Plot.Wf Rises
    decide +kernel⟩

def wst_StileMessagesComplete_9 : State :=
  (fun (s : State) => ((fun (s : State) => ((({ s with plots := [], hbm := [(0x20005, 9)], g := { met := [], staging := [] }, drill := {}, fab := { ports := [(0, { state := .up, lanes := 8, peer := 1, peerPort := 2, credits := [100, 100, 100], timing := 300, voltage := 40 }), (4, { state := .up, lanes := 8, peer := 1, peerPort := 2, credits := [100, 100, 100], timing := 300, voltage := 40 })], reqs := [{ tag := 77, kind := .stakeRead, dst := 8, owner := .none, deadline := some 900, port := 4 }] }, slice := {}, mgr := {}, coh := {}, seed := {}, rot := {}, plat := {}, flt := {}, mig := {}, time := {}, hl := { s.hl with running := true }, dict := {}, mir := {}, fc := { s.fc with packageFenced := false }, reg := s.reg.filter (fun c => (c.1 < 0x70000 || 0x80000 ≤ c.1) && (c.1 < 0x40000 || 0x60000 ≤ c.1)), pwr := { s.pwr with scrub := [], refEver := true }, host := { s.host with poison := [] } } : State).setVal O.pkgAddr 0).setVal O.pkgAddrValid 1).setVal O.portEnable 0x1FFF : State →
    State) (serve s))) State.reset
theorem wit_StileMessagesComplete_9 : ∃ (p : Fin 13) (m w : Msg) (y : FabReq), (wst_StileMessagesComplete_9).Inv ∧
    w = onWire { m with kind := .stakeRsp } ∧ (wst_StileMessagesComplete_9).Receives p m ∧ (wst_StileMessagesComplete_9).fab.reqs = [y] ∧
    y.tag = w.tag ∧ y.kind = .stakeRead ∧ y.dst = w.src ∧ (wst_StileMessagesComplete_9).fab.ordered = [] ∧ w.aux = 0 ∧ ((y.owner = .none ∨
    ∃ k : Fin 32, y.owner = .plotSignal k)) :=
  ⟨(4), ({ src := 8, tag := 77, aux := 0 }), ({ kind := .stakeRsp, src := 8, tag := 77, aux := 0 }), ({ tag := 77, kind := .stakeRead, dst := 8, owner := .none, deadline := some 900, port := 4 }), by
    unfold State.Receives State.Inv PlotsWf Plot.Wf Rises
    decide +kernel⟩

def wst_StileMessagesComplete_10 : State :=
  (fun (s : State) => base20 ((base2 (serve s)))) State.reset
theorem wit_StileMessagesComplete_10 : ∃ (p : Fin 13) (m w : Msg) (y : FabReq) (r id off n : Nat) (x : Xfer) (c : Piece),
    (wst_StileMessagesComplete_10).Inv ∧ w = onWire { m with kind := .readRsp } ∧ (wst_StileMessagesComplete_10).Receives p m ∧
    (wst_StileMessagesComplete_10).fab.reqs = [y] ∧ y.tag = w.tag ∧ y.kind = .readReq ∧ y.dst = w.src ∧
    (wst_StileMessagesComplete_10).fab.ordered = [] ∧ w.aux = 0 ∧ w.marks = [] ∧ (wst_StileMessagesComplete_10).fab.lateTags = [] ∧
    y.owner = .row r id off n ∧ w.payload.length = n ∧ (wst_StileMessagesComplete_10).rowOwner r ≠ 1 ∧
    ((wst_StileMessagesComplete_10).row r).xfers = [x] ∧ x.id = id ∧ x.pieces = [c] ∧ c.off = off ∧ c.len = n ∧ c.arrived = false :=
  ⟨(4), ({ src := 8, tag := 77, payload := List.replicate 64 9 }), ({ kind := .readRsp, src := 8, tag := 77, payload := List.replicate 64 9 }), ({ tag := 77, kind := .readReq, dst := 8, owner := .row 2 7 0 64, deadline := some 900, port := 4 }), (2), (7), (0), (64), ({ id := 7, src := .furrow 3 4, pasid := 5, begun := true, readAuth := 64, pressAuth := 64, readPos := 64, pieces := [{ off := 0, len := 64, data := [], arrived := false }], d := { opcode := 1, body := natLe 8 0 ++ natLe 8 0 ++ natLe 4 64 ++ natLe 1 0x13 ++ natLe 27 0 } }), ({ off := 0, len := 64, data := [], arrived := false }), by
    unfold State.Receives State.Inv PlotsWf Plot.Wf Rises
    decide +kernel⟩

def wst_StileMessagesComplete_11 : State :=
  (fun (s : State) => base20 ((base2 (serve s)))) State.reset
theorem wit_StileMessagesComplete_11 : ∃ (tag : Nat) (y : FabReq) (r id off n e : Nat) (x : Xfer) (c : Piece), (wst_StileMessagesComplete_11).Inv ∧
    (wst_StileMessagesComplete_11).fab.reqs = [y] ∧ y.tag = tag ∧ y.kind = .readReq ∧ y.owner = .row r id off n ∧ y.deadline = some e ∧
    (wst_StileMessagesComplete_11).rowOwner r ≠ 1 ∧ ((wst_StileMessagesComplete_11).row r).xfers = [x] ∧ x.id = id ∧ x.pieces = [c] ∧ c.off = off :=
  ⟨(77), ({ tag := 77, kind := .readReq, dst := 8, owner := .row 2 7 0 64, deadline := some 900, port := 4 }), (2), (7), (0), (64), (900), ({ id := 7, src := .furrow 3 4, pasid := 5, begun := true, readAuth := 64, pressAuth := 64, readPos := 64, pieces := [{ off := 0, len := 64, data := [], arrived := false }], d := { opcode := 1, body := natLe 8 0 ++ natLe 8 0 ++ natLe 4 64 ++ natLe 1 0x13 ++ natLe 27 0 } }), ({ off := 0, len := 64, data := [], arrived := false }), by
    unfold State.Inv PlotsWf Plot.Wf Rises
    decide +kernel⟩

def wst_StileMessagesComplete_12 : State :=
  (fun (s : State) => (((((((base7 (serve s))).setRg (Rg.pctx 1 0) (2 ^ 63 + 2 ^ 25 + 2 ^ 26 + 5)).setRg (Rg.stile 2 0) 0).setRg (Rg.stile 2 8) 0x20000).setRg (Rg.stile 2 16) 16).setRg (Rg.stile 2 24) (1 + 8 * 2 ^ 4 + 9 * 2 ^ 16 + 4 * 2 ^ 32)).setRg (Rg.stakeGroup 0) (2 ^ 22)) State.reset
theorem wit_StileMessagesComplete_12 : ∃ (w : Fin 4096) (v : Word) (_rid : Half), (wst_StileMessagesComplete_12).Inv ∧
    bit ((wst_StileMessagesComplete_12).stile w 0) 0 = false ∧ (wst_StileMessagesComplete_12).fab.draining.contains w.val = false ∧
    fld v.toNat 5 4 < 2 :=
  ⟨(2), (0xFFFFFFFFFFFFFFDF), (0), by
    unfold State.Inv PlotsWf Plot.Wf Rises
    decide +kernel⟩

def wst_StileMessagesComplete_13 : State :=
  (fun (s : State) => (((((((base7 (serve s))).setRg (Rg.pctx 1 0) (2 ^ 63 + 2 ^ 25 + 2 ^ 26 + 5)).setRg (Rg.stile 2 0) (1 + 2 + 4 + 8 + 5 * 2 ^ 16)).setRg (Rg.stile 2 8) 0x20000).setRg (Rg.stile 2 16) 16).setRg (Rg.stile 2 24) (1 + 8 * 2 ^ 4 + 9 * 2 ^ 16 + 4 * 2 ^ 32)).setRg (Rg.stakeGroup 0) (2 ^ 22)) State.reset
theorem wit_StileMessagesComplete_13 : ∃ (w : Fin 4096) (v : Word) (_rid : Half), (wst_StileMessagesComplete_13).Inv ∧
    bit ((wst_StileMessagesComplete_13).stile w 0) 0 = true ∧ bit v.toNat 0 = false ∧
    (v.toNat &&& 0xFFFFF03FF) / 2 = (wst_StileMessagesComplete_13).stile w 0 / 2 ∧ (wst_StileMessagesComplete_13).fab.waiting = [] ∧
    fld v.toNat 5 4 < 2 :=
  ⟨(2), ((BitVec.ofNat 64 (2 + 4 + 8 + 5 * 2 ^ 16))), (0), by
    unfold State.Inv PlotsWf Plot.Wf Rises
    decide +kernel⟩

def wst_StileMessagesComplete_14 : State :=
  (fun (s : State) => (((((((base7 (serve s))).setRg (Rg.pctx 1 0) (2 ^ 63 + 2 ^ 25 + 2 ^ 26 + 5)).setRg (Rg.stile 2 0) 0).setRg (Rg.stile 2 8) 0x20000).setRg (Rg.stile 2 16) 16).setRg (Rg.stile 2 24) (1 + 8 * 2 ^ 4 + 9 * 2 ^ 16 + 4 * 2 ^ 32)).setRg (Rg.stakeGroup 0) (2 ^ 22)) State.reset
theorem wit_StileMessagesComplete_14 : ∃ (w : Fin 4096) (_v : Word) (_rid : Half), (wst_StileMessagesComplete_14).Inv ∧
    bit ((wst_StileMessagesComplete_14).stile w 0) 0 = false ∧ (wst_StileMessagesComplete_14).fab.draining.contains w.val = false :=
  ⟨(2), (0xFFFFFFFFFFFFFFDF), (0), by
    unfold State.Inv PlotsWf Plot.Wf Rises
    decide +kernel⟩

def wst_StileMessagesComplete_15 : State :=
  (fun (s : State) => (((((((base7 (serve s))).setRg (Rg.pctx 1 0) (2 ^ 63 + 2 ^ 25 + 2 ^ 26 + 5)).setRg (Rg.stile 2 0) 0).setRg (Rg.stile 2 8) 0x20000).setRg (Rg.stile 2 16) 16).setRg (Rg.stile 2 24) (1 + 8 * 2 ^ 4 + 9 * 2 ^ 16 + 4 * 2 ^ 32)).setRg (Rg.stakeGroup 0) (2 ^ 22)) State.reset
theorem wit_StileMessagesComplete_15 : ∃ (w : Fin 4096) (v : Word) (_rid : Half), (wst_StileMessagesComplete_15).Inv ∧
    bit ((wst_StileMessagesComplete_15).stile w 0) 0 = false ∧ (wst_StileMessagesComplete_15).fab.draining.contains w.val = false ∧
    fld v.toNat 27 0 ≠ 0 :=
  ⟨(2), (0xFFFFFFFFFFFFFFDF), (0), by
    unfold State.Inv PlotsWf Plot.Wf Rises
    decide +kernel⟩

def wst_StileMessagesComplete_16 : State :=
  (fun (s : State) => (((((((base7 (serve s))).setRg (Rg.pctx 1 0) (2 ^ 63 + 2 ^ 25 + 2 ^ 26 + 5)).setRg (Rg.stile 2 0) 0).setRg (Rg.stile 2 8) 0x20000).setRg (Rg.stile 2 16) 16).setRg (Rg.stile 2 24) (1 + 8 * 2 ^ 4 + 9 * 2 ^ 16 + 4 * 2 ^ 32)).setRg (Rg.stakeGroup 0) (2 ^ 22)) State.reset
theorem wit_StileMessagesComplete_16 : ∃ (w : Fin 4096) (v : Word) (_rid : Half), (wst_StileMessagesComplete_16).Inv ∧
    bit ((wst_StileMessagesComplete_16).stile w 0) 0 = false ∧ (wst_StileMessagesComplete_16).fab.draining.contains w.val = false ∧
    fld v.toNat 1 0 ≠ 3 ∧ fld v.toNat 48 32 ≤ 65536 :=
  ⟨(2), (0xFFFE0000FFFFFFFE), (0), by
    unfold State.Inv PlotsWf Plot.Wf Rises
    decide +kernel⟩

def wst_StileMessagesComplete_17 : State :=
  (fun (s : State) => ((fun (s : State) => ((({ s with plots := [], hbm := [(0x20005, 9)], g := { met := [], staging := [] }, drill := {}, fab := { ports := [(0, { state := .up, lanes := 8, peer := 1, peerPort := 2, credits := [100, 100, 100], timing := 300, voltage := 40 }), (4, { state := .up, lanes := 8, peer := 1, peerPort := 2, credits := [100, 100, 100], timing := 300, voltage := 40 })], draining := [2, 5] }, slice := {}, mgr := {}, coh := {}, seed := {}, rot := {}, plat := {}, flt := {}, mig := {}, time := {}, hl := { s.hl with running := true }, dict := {}, mir := {}, fc := { s.fc with packageFenced := false }, reg := s.reg.filter (fun c => (c.1 < 0x70000 || 0x80000 ≤ c.1) && (c.1 < 0x40000 || 0x60000 ≤ c.1)), pwr := { s.pwr with scrub := [], refEver := true }, host := { s.host with poison := [] } } : State).setVal O.pkgAddr 0).setVal O.pkgAddrValid 1).setVal O.portEnable 0x1FFF : State →
    State) (serve s))) State.reset
theorem wit_StileMessagesComplete_17 : ∃ (_w : Fin 4096), (wst_StileMessagesComplete_17).fab.waiting = [] ∧
    (wst_StileMessagesComplete_17).fab.owed = [] :=
  ⟨(2), by
    decide +kernel⟩

/-! ### SliceFormsAndEnds -/

def wst_SliceFormsAndEnds_0 : State :=
  (fun (s : State) => (fun (s : State) => { s with time := { s.time with state := .aligned } }.setVal O.sliceAccept (2 ^ 63 + 2 ^ 32 + 4)) ((base7 (serve s)))) State.reset
theorem wit_SliceFormsAndEnds_0 : ∃ (p : Fin 13) (m w : Msg), (wst_SliceFormsAndEnds_0).Inv ∧ w = onWire { m with kind := .join } ∧
    (wst_SliceFormsAndEnds_0).Receives p m ∧ (wst_SliceFormsAndEnds_0).joinOk (bytesAt w.payload 8 2) (bytesAt w.payload 0 4) = true :=
  ⟨(4), ({ src := 1, payload := (joinPayload 7 3 5 1 9 [] []) }), ({ kind := .join, src := 1, payload := (joinPayload 7 3 5 1 9 [] []) }), by
    unfold State.Receives State.Inv PlotsWf Plot.Wf Rises
    decide +kernel⟩

def wst_SliceFormsAndEnds_1 : State :=
  (fun (s : State) => ((base7 (serve s))).setVal O.sliceAccept 0) State.reset
theorem wit_SliceFormsAndEnds_1 : ∃ (p : Fin 13) (m w : Msg) (h q : Nat), (wst_SliceFormsAndEnds_1).Inv ∧ w = onWire { m with kind := .join } ∧
    (wst_SliceFormsAndEnds_1).Receives p m ∧ (wst_SliceFormsAndEnds_1).joinOk (bytesAt w.payload 8 2) (bytesAt w.payload 0 4) = false ∧
    (wst_SliceFormsAndEnds_1).route .joinAck (bytesAt w.payload 8 2) = some (h, q) ∧ (wst_SliceFormsAndEnds_1).fab.held = [] ∧
    ((wst_SliceFormsAndEnds_1).port q).credits.length = 3 ∧ 1 ≤ ((wst_SliceFormsAndEnds_1).port q).credits.getD 2 0 :=
  ⟨(4), ({ src := 1, payload := (joinPayload 7 3 5 1 9 [] []) }), ({ kind := .join, src := 1, payload := (joinPayload 7 3 5 1 9 [] []) }), (1), (0), by
    unfold State.Receives State.Inv PlotsWf Plot.Wf Rises
    decide +kernel⟩

def wst_SliceFormsAndEnds_2 : State :=
  (fun (s : State) => ((base3 (serve s))).setVal O.mgrSliceId 7) State.reset
theorem wit_SliceFormsAndEnds_2 : ∃ (p : Fin 13) (m w : Msg), (wst_SliceFormsAndEnds_2).Inv ∧ w = onWire { m with kind := .joinAck } ∧
    (wst_SliceFormsAndEnds_2).Receives p m ∧ (wst_SliceFormsAndEnds_2).mgr.state = .forming ∧ (wst_SliceFormsAndEnds_2).mgr.restarting = false ∧
    (wst_SliceFormsAndEnds_2).mgr.members = [w.src] ∧ w.slice = (wst_SliceFormsAndEnds_2).val O.mgrSliceId ∧ w.src ≠ (wst_SliceFormsAndEnds_2).addr ∧
    bytesAt w.payload 0 2 = 0 ∧ (wst_SliceFormsAndEnds_2).mgr.acks.any (fun k => k.1 == (wst_SliceFormsAndEnds_2).addr && k.2.1 == 0) = true ∧
    (wst_SliceFormsAndEnds_2).ownTramlinesUp = true :=
  ⟨(0), ({ src := 1, slice := 7, payload := natLe 2 0 ++ natLe 4 12 }), ({ kind := .joinAck, src := 1, slice := 7, payload := natLe 2 0 ++ natLe 4 12 }), by
    unfold State.Receives State.Inv PlotsWf Plot.Wf Rises
    decide +kernel⟩

def wst_SliceFormsAndEnds_3 : State :=
  (fun (s : State) => ((base3 (serve s))).setVal O.mgrSliceId 7) State.reset
theorem wit_SliceFormsAndEnds_3 : ∃ (p : Fin 13) (m w : Msg), (wst_SliceFormsAndEnds_3).Inv ∧ w = onWire { m with kind := .joinAck } ∧
    (wst_SliceFormsAndEnds_3).Receives p m ∧ (wst_SliceFormsAndEnds_3).mgr.state = .forming ∧ (wst_SliceFormsAndEnds_3).mgr.restarting = false ∧
    (wst_SliceFormsAndEnds_3).mgr.members.contains w.src = true ∧ w.slice = (wst_SliceFormsAndEnds_3).val O.mgrSliceId ∧
    w.src ≠ (wst_SliceFormsAndEnds_3).addr ∧ bytesAt w.payload 0 2 ≠ 0 :=
  ⟨(0), ({ src := 1, slice := 7, payload := natLe 2 0x50 }), ({ kind := .joinAck, src := 1, slice := 7, payload := natLe 2 0x50 }), by
    unfold State.Receives State.Inv PlotsWf Plot.Wf Rises
    decide +kernel⟩

def wst_SliceFormsAndEnds_4 : State :=
  (fun (s : State) => (((fun (s : State) => ((({ s with plots := [], hbm := [(0x20005, 9)], g := { met := [], staging := [] }, drill := {}, fab := { ports := [(0, { state := .up, lanes := 8, peer := 1, peerPort := 2, credits := [100, 100, 100], timing := 300, voltage := 40 }), (4, { state := .up, lanes := 8, peer := 1, peerPort := 2, credits := [100, 100, 100], timing := 300, voltage := 40 })] }, slice := {}, mgr := { members := [1, 2] }, coh := {}, seed := {}, rot := {}, plat := {}, flt := {}, mig := {}, time := {}, hl := { s.hl with running := true }, dict := {}, mir := {}, fc := { s.fc with packageFenced := false }, reg := s.reg.filter (fun c => (c.1 < 0x70000 || 0x80000 ≤ c.1) && (c.1 < 0x40000 || 0x60000 ≤ c.1)), pwr := { s.pwr with scrub := [], refEver := true }, host := { s.host with poison := [] } } : State).setVal O.pkgAddr 0).setVal O.pkgAddrValid 1).setVal O.portEnable 0x1FFF : State →
    State) (serve s))).setVal O.mgrSliceId 7) State.reset
theorem wit_SliceFormsAndEnds_4 : (wst_SliceFormsAndEnds_4).Inv ∧ ((wst_SliceFormsAndEnds_4).mgr.state = .idle ∨
    (wst_SliceFormsAndEnds_4).mgr.state = .halted) ∧ (wst_SliceFormsAndEnds_4).mgr.listsOk (wst_SliceFormsAndEnds_4).addr = true ∧
    (wst_SliceFormsAndEnds_4).noRoute ((wst_SliceFormsAndEnds_4).addr :: (wst_SliceFormsAndEnds_4).mgr.members) = false ∧
    (wst_SliceFormsAndEnds_4).mgr.lost = [] ∧ (wst_SliceFormsAndEnds_4).slice.state ≠ .active ∧ (wst_SliceFormsAndEnds_4).mgr.members ≠ [] :=
  by
    unfold State.Inv PlotsWf Plot.Wf Rises
    decide +kernel

def wst_SliceFormsAndEnds_5 : State :=
  (fun (s : State) => ((fun (s : State) => ((({ s with plots := [], hbm := [(0x20005, 9)], g := { met := [], staging := [] }, drill := {}, fab := { ports := [(0, { state := .up, lanes := 8, peer := 1, peerPort := 2, credits := [100, 100, 100], timing := 300, voltage := 40 }), (4, { state := .up, lanes := 8, peer := 1, peerPort := 2, credits := [100, 100, 100], timing := 300, voltage := 40 })] }, slice := {}, mgr := { state := .active, members := [1, 2] }, coh := {}, seed := {}, rot := {}, plat := {}, flt := {}, mig := {}, time := {}, hl := { s.hl with running := true }, dict := {}, mir := {}, fc := { s.fc with packageFenced := false }, reg := s.reg.filter (fun c => (c.1 < 0x70000 || 0x80000 ≤ c.1) && (c.1 < 0x40000 || 0x60000 ≤ c.1)), pwr := { s.pwr with scrub := [], refEver := true }, host := { s.host with poison := [] } } : State).setVal O.pkgAddr 0).setVal O.pkgAddrValid 1).setVal O.portEnable 0x1FFF : State →
    State) (serve s))) State.reset
theorem wit_SliceFormsAndEnds_5 : (wst_SliceFormsAndEnds_5).Inv ∧ (wst_SliceFormsAndEnds_5).mgr.state = .active :=
  by
    unfold State.Inv PlotsWf Plot.Wf Rises
    decide +kernel

def wst_SliceFormsAndEnds_6 : State :=
  (fun (s : State) => (base1 (serve s))) State.reset
theorem wit_SliceFormsAndEnds_6 : (wst_SliceFormsAndEnds_6).Inv ∧ (wst_SliceFormsAndEnds_6).mgr.state = .active ∧
    (wst_SliceFormsAndEnds_6).slice.state = .active :=
  by
    unfold State.Inv PlotsWf Plot.Wf Rises
    decide +kernel

def wst_SliceFormsAndEnds_7 : State :=
  (fun (s : State) => ((fun (s : State) => ((({ s with plots := [], hbm := [(0x20005, 9)], g := { met := [], staging := [] }, drill := {}, fab := { ports := [(0, { state := .up, lanes := 8, peer := 1, peerPort := 2, credits := [100, 100, 100], timing := 300, voltage := 40 }), (4, { state := .up, lanes := 8, peer := 1, peerPort := 2, credits := [100, 100, 100], timing := 300, voltage := 40 })] }, slice := { state := .active, id := 7, mgrAddr := 0 }, mgr := { state := .forming, members := [1, 2], startedAt := 500, acks := [(0, 0, 4), (2, 0, 9)] }, coh := {}, seed := {}, rot := {}, plat := {}, flt := {}, mig := {}, time := {}, hl := { s.hl with running := true }, dict := {}, mir := {}, fc := { s.fc with packageFenced := false }, reg := s.reg.filter (fun c => (c.1 < 0x70000 || 0x80000 ≤ c.1) && (c.1 < 0x40000 || 0x60000 ≤ c.1)), pwr := { s.pwr with scrub := [], refEver := true }, host := { s.host with poison := [] } } : State).setVal O.pkgAddr 0).setVal O.pkgAddrValid 1).setVal O.portEnable 0x1FFF : State →
    State) (serve s))) State.reset
theorem wit_SliceFormsAndEnds_7 : ∃ (l : List Nat), (wst_SliceFormsAndEnds_7).Inv ∧ (wst_SliceFormsAndEnds_7).mgr.state = .forming ∧
    (wst_SliceFormsAndEnds_7).slice.state = .active ∧ (wst_SliceFormsAndEnds_7).mgr.acks.all (fun a => a.2.1 == 0) = true ∧
    l = (wst_SliceFormsAndEnds_7).mgr.members.filter (fun a => (wst_SliceFormsAndEnds_7).mgr.acks.all (fun k => k.1 != a)) ∧ l ≠ [] :=
  ⟨([1]), by
    unfold State.Inv PlotsWf Plot.Wf Rises
    decide +kernel⟩

def wst_SliceFormsAndEnds_8 : State :=
  (fun (s : State) => ((fun (s : State) => ((({ s with plots := [], hbm := [(0x20005, 9)], g := { met := [], staging := [] }, drill := {}, fab := { ports := [(0, { state := .up, lanes := 8, peer := 1, peerPort := 2, credits := [100, 100, 100], timing := 300, voltage := 40 }), (4, { state := .up, lanes := 8, peer := 1, peerPort := 2, credits := [100, 100, 100], timing := 300, voltage := 40 })] }, slice := { state := .active, id := 7, mgrAddr := 0 }, mgr := { state := .active, members := [1, 2], restarting := true }, coh := {}, seed := {}, rot := {}, plat := {}, flt := {}, mig := {}, time := {}, hl := { s.hl with running := true }, dict := {}, mir := {}, fc := { s.fc with packageFenced := false }, reg := s.reg.filter (fun c => (c.1 < 0x70000 || 0x80000 ≤ c.1) && (c.1 < 0x40000 || 0x60000 ≤ c.1)), pwr := { s.pwr with scrub := [], refEver := true }, host := { s.host with poison := [] } } : State).setVal O.pkgAddr 0).setVal O.pkgAddrValid 1).setVal O.portEnable 0x1FFF : State →
    State) (serve s))) State.reset
theorem wit_SliceFormsAndEnds_8 : (wst_SliceFormsAndEnds_8).Inv ∧ (wst_SliceFormsAndEnds_8).mgr.state = .active ∧
    (wst_SliceFormsAndEnds_8).mgr.restarting = true :=
  by
    unfold State.Inv PlotsWf Plot.Wf Rises
    decide +kernel

def wst_SliceFormsAndEnds_9 : State :=
  (fun (s : State) => ((fun (s : State) => ({ s with seed := { s.seed with lots := [(0, { pasid := 0, gens := [{ num := 5, base := none }] })] } } : State).setVal O.slicePasid 0) (((((fun (s : State) => ((({ s with plots := [], hbm := [(0x20005, 9)], g := { met := [], staging := [] }, drill := {}, fab := { ports := [(0, { state := .up, lanes := 8, peer := 1, peerPort := 2, credits := [100, 100, 100], timing := 300, voltage := 40 }), (4, { state := .up, lanes := 8, peer := 1, peerPort := 2, credits := [100, 100, 100], timing := 300, voltage := 40 })] }, slice := { state := .halted, id := 7, mgrAddr := 0 }, mgr := { state := .halted, members := [1, 2], cause := 2, blamed := 1, blamedPort := some 0 }, coh := {}, seed := {}, rot := {}, plat := {}, flt := {}, mig := {}, time := {}, hl := { s.hl with running := true }, dict := {}, mir := {}, fc := { s.fc with packageFenced := false }, reg := s.reg.filter (fun c => (c.1 < 0x70000 || 0x80000 ≤ c.1) && (c.1 < 0x40000 || 0x60000 ≤ c.1)), pwr := { s.pwr with scrub := [], refEver := true }, host := { s.host with poison := [] } } : State).setVal O.pkgAddr 0).setVal O.pkgAddrValid 1).setVal O.portEnable 0x1FFF : State →
    State) (serve s))).setVal O.restartAuto 1).setVal O.sliceLot 0))) State.reset
theorem wit_SliceFormsAndEnds_9 : ∃ (_l : List RestartEntry) (p : Nat), (wst_SliceFormsAndEnds_9).Inv ∧
    (wst_SliceFormsAndEnds_9).mgr.state = .halted ∧ (wst_SliceFormsAndEnds_9).val O.restartAuto = 1 ∧ (wst_SliceFormsAndEnds_9).mgr.cause = 2 ∧
    (wst_SliceFormsAndEnds_9).mgr.blamedPort = some p ∧ p < 11 ∧ (wst_SliceFormsAndEnds_9).sliceGen ≠ noGen ∧
    (wst_SliceFormsAndEnds_9).mgr.members ≠ [] ∧ (wst_SliceFormsAndEnds_9).mgr.members.contains (wst_SliceFormsAndEnds_9).addr = false :=
  ⟨([]), (0), by
    unfold State.Inv PlotsWf Plot.Wf Rises
    decide +kernel⟩

def wst_SliceFormsAndEnds_10 : State :=
  (fun (s : State) => (((fun (s : State) => ((({ s with plots := [], hbm := [(0x20005, 9)], g := { met := [], staging := [] }, drill := {}, fab := { ports := [(0, { state := .up, lanes := 8, peer := 1, peerPort := 2, credits := [100, 100, 100], timing := 300, voltage := 40 }), (4, { state := .up, lanes := 8, peer := 1, peerPort := 2, credits := [100, 100, 100], timing := 300, voltage := 40 })] }, slice := { state := .halted, id := 7, mgrAddr := 1, routes := [(1, 8192)] }, mgr := {}, coh := {}, seed := {}, rot := {}, plat := {}, flt := {}, mig := {}, time := {}, hl := { s.hl with running := true }, dict := {}, mir := {}, fc := { s.fc with packageFenced := false }, reg := s.reg.filter (fun c => (c.1 < 0x70000 || 0x80000 ≤ c.1) && (c.1 < 0x40000 || 0x60000 ≤ c.1)), pwr := { s.pwr with scrub := [], refEver := true }, host := { s.host with poison := [] } } : State).setVal O.pkgAddr 0).setVal O.pkgAddrValid 1).setVal O.portEnable 0x1FFF : State →
    State) (serve s))).setVal (O.subscription + 3) (2 ^ 29 + 5 * 2 ^ 24)) State.reset
theorem wit_SliceFormsAndEnds_10 : (wst_SliceFormsAndEnds_10).Inv ∧ (wst_SliceFormsAndEnds_10).slice.state = .halted :=
  by
    unfold State.Inv PlotsWf Plot.Wf Rises
    decide +kernel

/-! ### SliceIsWatched -/

def wst_SliceIsWatched_0 : State :=
  (fun (s : State) => (base5 (serve s))) State.reset
theorem wit_SliceIsWatched_0 : ∃ (p : Fin 13) (m w : Msg), (wst_SliceIsWatched_0).Inv ∧ w = onWire { m with kind := .heartbeat } ∧
    (wst_SliceIsWatched_0).Receives p m ∧ (wst_SliceIsWatched_0).slice.state = .active ∧ w.slice = (wst_SliceIsWatched_0).slice.id ∧
    w.src = (wst_SliceIsWatched_0).slice.mgrAddr ∧ (wst_SliceIsWatched_0).mgr.state = .idle :=
  ⟨(0), ({ src := 1, slice := 7, payload := [1] }), ({ kind := .heartbeat, src := 1, slice := 7, payload := [1] }), by
    unfold State.Receives State.Inv PlotsWf Plot.Wf Rises
    decide +kernel⟩

def wst_SliceIsWatched_1 : State :=
  (fun (s : State) => (base1 (serve s))) State.reset
theorem wit_SliceIsWatched_1 : ∃ (p : Fin 13) (m w : Msg), (wst_SliceIsWatched_1).Inv ∧ w = onWire { m with kind := .heartbeat } ∧
    (wst_SliceIsWatched_1).Receives p m ∧ (wst_SliceIsWatched_1).slice.state = .active ∧ w.slice = (wst_SliceIsWatched_1).slice.id ∧
    (wst_SliceIsWatched_1).mgr.state = .active ∧ (wst_SliceIsWatched_1).slice.mgrAddr = (wst_SliceIsWatched_1).addr ∧
    w.src ≠ (wst_SliceIsWatched_1).addr ∧ (wst_SliceIsWatched_1).mgr.members.contains w.src = true :=
  ⟨(0), ({ src := 1, slice := 7, payload := [1] }), ({ kind := .heartbeat, src := 1, slice := 7, payload := [1] }), by
    unfold State.Receives State.Inv PlotsWf Plot.Wf Rises
    decide +kernel⟩

def wst_SliceIsWatched_2 : State :=
  (fun (s : State) => (base5 (serve s))) State.reset
theorem wit_SliceIsWatched_2 : ∃ (h q : Nat), (wst_SliceIsWatched_2).Inv ∧ (wst_SliceIsWatched_2).slice.state = .active ∧
    (wst_SliceIsWatched_2).mgr.state = .idle ∧ (wst_SliceIsWatched_2).slice.mgrAddr ≠ (wst_SliceIsWatched_2).addr ∧
    (wst_SliceIsWatched_2).route .heartbeat (wst_SliceIsWatched_2).slice.mgrAddr = some (h, q) ∧ (wst_SliceIsWatched_2).fab.held = [] ∧
    ((wst_SliceIsWatched_2).port q).credits.length = 3 ∧ 1 ≤ ((wst_SliceIsWatched_2).port q).credits.getD 2 0 :=
  ⟨(1), (0), by
    unfold State.Inv PlotsWf Plot.Wf Rises
    decide +kernel⟩

def wst_SliceIsWatched_3 : State :=
  (fun (s : State) => (base5 (serve s))) State.reset
theorem wit_SliceIsWatched_3 : (wst_SliceIsWatched_3).Inv ∧ (wst_SliceIsWatched_3).slice.state = .active ∧
    (wst_SliceIsWatched_3).slice.mgrAddr ≠ (wst_SliceIsWatched_3).addr :=
  by
    unfold State.Inv PlotsWf Plot.Wf Rises
    decide +kernel

def wst_SliceIsWatched_4 : State :=
  (fun (s : State) => (base1 (serve s))) State.reset
theorem wit_SliceIsWatched_4 : ∃ (a : BitVec 12) (e : Nat), (wst_SliceIsWatched_4).Inv ∧ (wst_SliceIsWatched_4).mgr.state = .active ∧
    (wst_SliceIsWatched_4).slice.state = .active ∧ (wst_SliceIsWatched_4).mgr.members.contains a.toNat = true ∧
    (wst_SliceIsWatched_4).mgr.heartbeats.find? (fun h => h.1 == a.toNat) = some (a.toNat, e) :=
  ⟨(2), (60), by
    unfold State.Inv PlotsWf Plot.Wf Rises
    decide +kernel⟩

def wst_SliceIsWatched_5 : State :=
  (fun (s : State) => (base5 (serve s))) State.reset
theorem wit_SliceIsWatched_5 : ∃ (p : Fin 13) (m w : Msg), (wst_SliceIsWatched_5).Inv ∧ w = onWire { m with kind := .halt } ∧
    (wst_SliceIsWatched_5).Receives p m ∧ (wst_SliceIsWatched_5).slice.state = .active ∧ w.slice = (wst_SliceIsWatched_5).slice.id ∧
    w.src = (wst_SliceIsWatched_5).slice.mgrAddr :=
  ⟨(0), ({ src := 1, slice := 7, aux := 3, addr := 2 }), ({ kind := .halt, src := 1, slice := 7, aux := 3, addr := 2 }), by
    unfold State.Receives State.Inv PlotsWf Plot.Wf Rises
    decide +kernel⟩

def wst_SliceIsWatched_6 : State :=
  (fun (s : State) => (base1 (serve s))) State.reset
theorem wit_SliceIsWatched_6 : ∃ (p : Fin 13) (m w : Msg), (wst_SliceIsWatched_6).Inv ∧ w = onWire { m with kind := .memberReset } ∧
    (wst_SliceIsWatched_6).Receives p m ∧ (wst_SliceIsWatched_6).mgr.state = .active ∧ (wst_SliceIsWatched_6).slice.state = .active ∧
    (wst_SliceIsWatched_6).mgr.members.contains w.src = true :=
  ⟨(0), ({ src := 1, slice := 7 }), ({ kind := .memberReset, src := 1, slice := 7 }), by
    unfold State.Receives State.Inv PlotsWf Plot.Wf Rises
    decide +kernel⟩

def wst_SliceIsWatched_7 : State :=
  (fun (s : State) => (base1 (serve s))) State.reset
theorem wit_SliceIsWatched_7 : ∃ (p : Fin 13) (m w : Msg) (c : Nat), (wst_SliceIsWatched_7).Inv ∧ w = onWire { m with kind := .faultReport } ∧
    (wst_SliceIsWatched_7).Receives p m ∧ (wst_SliceIsWatched_7).mgr.state = .active ∧ (wst_SliceIsWatched_7).slice.state = .active ∧
    (wst_SliceIsWatched_7).mgr.members.contains w.src = true ∧ w.slice = (wst_SliceIsWatched_7).slice.id ∧ c = bytesAt w.payload 0 1 ∧ c ≠ 6 ∧
    (wst_SliceIsWatched_7).mgr.faultLog.length < 1024 :=
  ⟨(0), ({ src := 1, slice := 7, payload := [1, 0] ++ natLe 32 5 }), ({ kind := .faultReport, src := 1, slice := 7, payload := [1, 0] ++ natLe 32 5 }), (1), by
    unfold State.Receives State.Inv PlotsWf Plot.Wf Rises
    decide +kernel⟩

def wst_SliceIsWatched_8 : State :=
  (fun (s : State) => (base7 (serve s))) State.reset
theorem wit_SliceIsWatched_8 : ∃ (p : Fin 13) (m w : Msg), (wst_SliceIsWatched_8).Inv ∧ w = onWire m ∧ ((wst_SliceIsWatched_8).port p).active = true ∧
    w.src = ((wst_SliceIsWatched_8).port p).peer ∧ (wst_SliceIsWatched_8).slice.state = .none ∧ (wst_SliceIsWatched_8).mgr.state = .idle ∧
    (wst_SliceIsWatched_8).fab.held = [] ∧ (wst_SliceIsWatched_8).fab.ordered = [] :=
  ⟨(0), ({ kind := .powerLoss, src := 1 }), ({ kind := .powerLoss, src := 1 }), by
    unfold State.Inv PlotsWf Plot.Wf Rises
    decide +kernel⟩

def wst_SliceIsWatched_9 : State :=
  (fun (s : State) => (base1 (serve s))) State.reset
theorem wit_SliceIsWatched_9 : ∃ (p : Fin 13) (m w : Msg), (wst_SliceIsWatched_9).Inv ∧ w = onWire m ∧ ((wst_SliceIsWatched_9).port p).active = true ∧
    w.src = ((wst_SliceIsWatched_9).port p).peer ∧ (wst_SliceIsWatched_9).mgr.state = .active ∧ (wst_SliceIsWatched_9).slice.state = .active ∧
    (wst_SliceIsWatched_9).mgr.members.contains w.src = true ∧ (wst_SliceIsWatched_9).fab.held = [] ∧ (wst_SliceIsWatched_9).fab.ordered = [] ∧
    p.val < 11 ∧ (wst_SliceIsWatched_9).portAllowed p = true :=
  ⟨(0), ({ kind := .powerLoss, src := 1 }), ({ kind := .powerLoss, src := 1 }), by
    unfold State.Inv PlotsWf Plot.Wf Rises
    decide +kernel⟩

def wst_SliceIsWatched_10 : State :=
  (fun (s : State) => (fun (s : State) => { s with fw := {} }.setVal O.mgrRouteEnable 1) ((base5 (serve s)))) State.reset
theorem wit_SliceIsWatched_10 : ∃ (p : Fin 13) (m w : Msg), (wst_SliceIsWatched_10).Inv ∧ w = onWire { m with kind := .mgmt } ∧
    (wst_SliceIsWatched_10).Receives p m ∧ bytesAt w.payload 0 1 = 0 ∧ (wst_SliceIsWatched_10).hl.running = true ∧
    (wst_SliceIsWatched_10).fw.status ≠ .activating ∧ (wst_SliceIsWatched_10).fromManager w = true ∧
    (wst_SliceIsWatched_10).dict.mgrQueue.length < 8 :=
  ⟨(0), ({ src := 1, payload := mgmtPayload 1 [] }), ({ kind := .mgmt, src := 1, payload := mgmtPayload 1 [] }), by
    unfold State.Receives State.Inv PlotsWf Plot.Wf Rises
    decide +kernel⟩

/-! ### RackTimeCompletes -/

def wst_RackTimeCompletes_0 : State :=
  (fun (s : State) => (fun (s : State) => { s with time := { announced := some (9, 3), lastSeen := none } }) ((base7 (serve s)))) State.reset
theorem wit_RackTimeCompletes_0 : ∃ (at_ e : Nat), (wst_RackTimeCompletes_0).Inv ∧ ((∀ x ∈ (wst_RackTimeCompletes_0).time.lastSeen,
    x + 900000 ≤ max (wst_RackTimeCompletes_0).now at_)) ∧ (wst_RackTimeCompletes_0).gatewayPorts = [] ∧ e = (wst_RackTimeCompletes_0).nextEpoch :=
  ⟨(5), (9), by
    unfold State.Inv PlotsWf Plot.Wf Rises
    decide +kernel⟩

def wst_RackTimeCompletes_1 : State :=
  (fun (s : State) => (fun (s : State) => { s with now := 100, time := { lastSeen := some 50 } }) ((base7 (serve s)))) State.reset
theorem wit_RackTimeCompletes_1 : ∃ (at_ x : Nat), (wst_RackTimeCompletes_1).Inv ∧ (wst_RackTimeCompletes_1).time.lastSeen = some x ∧
    max (wst_RackTimeCompletes_1).now at_ < x + 900000 :=
  ⟨(5), (50), by
    unfold State.Inv PlotsWf Plot.Wf Rises
    decide +kernel⟩

def wst_RackTimeCompletes_2 : State :=
  (fun (s : State) => (fun (s : State) => { s with now := 100, time := { lastPulse := some 50, missing := 2, hadAnnounce := true } }) ((base7 (serve s)))) State.reset
theorem wit_RackTimeCompletes_2 : ∃ (x : Nat), (wst_RackTimeCompletes_2).Inv ∧ (wst_RackTimeCompletes_2).time.lastPulse = some x :=
  ⟨(50), by
    unfold State.Inv PlotsWf Plot.Wf Rises
    decide +kernel⟩

def wst_RackTimeCompletes_3 : State :=
  (fun (s : State) => (fun (s : State) => { s with now := 100, time := { master := true } }) ((base7 (serve s)))) State.reset
theorem wit_RackTimeCompletes_3 : ∃ (p : Fin 13) (m w : Msg) (r : Nat), (wst_RackTimeCompletes_3).Inv ∧ w = onWire m ∧
    ((wst_RackTimeCompletes_3).port p).active = true ∧ m.src ≠ (wst_RackTimeCompletes_3).addr ∧ timeRank (bytesAt w.payload 8 1) w.src = some r ∧
    (wst_RackTimeCompletes_3).time.announced = none :=
  ⟨(0), ({ kind := .timeAnnounce, src := 1, payload := natLe 8 44 ++ natLe 1 1 ++ natLe 7 0 }), ({ kind := .timeAnnounce, src := 1, payload := natLe 8 44 ++ natLe 1 1 ++ natLe 7 0 }), (1), by
    unfold State.Inv PlotsWf Plot.Wf Rises
    decide +kernel⟩

def wst_RackTimeCompletes_4 : State :=
  (fun (s : State) => (fun (s : State) => { s with now := 100, time := { announced := some (9, 4) } }) ((base7 (serve s)))) State.reset
theorem wit_RackTimeCompletes_4 : ∃ (p : Fin 13) (m w : Msg) (r e k : Nat), (wst_RackTimeCompletes_4).Inv ∧ w = onWire m ∧
    ((wst_RackTimeCompletes_4).port p).active = true ∧ m.src ≠ (wst_RackTimeCompletes_4).addr ∧ timeRank (bytesAt w.payload 8 1) w.src = some r ∧
    (wst_RackTimeCompletes_4).time.announced = some (e, k) ∧ e ≠ bytesAt w.payload 0 8 ∧ k ≠ r :=
  ⟨(0), ({ kind := .timeAnnounce, src := 1, payload := natLe 8 44 ++ natLe 1 1 ++ natLe 7 0 }), ({ kind := .timeAnnounce, src := 1, payload := natLe 8 44 ++ natLe 1 1 ++ natLe 7 0 }), (1), (9), (4), by
    unfold State.Inv PlotsWf Plot.Wf Rises
    decide +kernel⟩

def wst_RackTimeCompletes_5 : State :=
  (fun (s : State) => (fun (s : State) => { s with now := 100, time := { master := true } }.setVal O.timeMaster 1) (((fun (s : State) => ((({ s with plots := [], hbm := [(0x20005, 9)], g := { met := [], staging := [] }, drill := {}, fab := { ports := [(4, { state := .up, lanes := 8, peer := 1, peerPort := 2, credits := [100, 100, 100], timing := 300, voltage := 40 })] }, slice := {}, mgr := {}, coh := {}, seed := {}, rot := {}, plat := {}, flt := {}, mig := {}, time := {}, hl := { s.hl with running := true }, dict := {}, mir := {}, fc := { s.fc with packageFenced := false }, reg := s.reg.filter (fun c => (c.1 < 0x70000 || 0x80000 ≤ c.1) && (c.1 < 0x40000 || 0x60000 ≤ c.1)), pwr := { s.pwr with scrub := [], refEver := true }, host := { s.host with poison := [] } } : State).setVal O.pkgAddr 0).setVal O.pkgAddrValid 1).setVal O.portEnable 0x1FFF : State →
    State) (serve s)))) State.reset
theorem wit_RackTimeCompletes_5 : ∃ (p : Nat) (r : Nat), (wst_RackTimeCompletes_5).Inv ∧ (wst_RackTimeCompletes_5).time.master = true ∧
    (wst_RackTimeCompletes_5).rackPortFrom 0 = some p ∧ (wst_RackTimeCompletes_5).fab.held = [] ∧
    ((wst_RackTimeCompletes_5).port p).credits.length = 3 ∧ 1 ≤ ((wst_RackTimeCompletes_5).port p).credits.getD 2 0 ∧
    (wst_RackTimeCompletes_5).ownRank = some r ∧ (wst_RackTimeCompletes_5).time.announced = none ∧ ((∀ k : Fin 3,
    ((wst_RackTimeCompletes_5).port k).active = false)) :=
  ⟨(4), (0), by
    unfold State.Inv PlotsWf Plot.Wf Rises
    decide +kernel⟩

def wst_RackTimeCompletes_6 : State :=
  (fun (s : State) => (fun (s : State) => { s with now := 100, time := { portsUpAt := some 9, lastHigher := some 20 } }.setVal O.timeMaster 1) ((base7 (serve s)))) State.reset
theorem wit_RackTimeCompletes_6 : ∃ (r up : Nat), (wst_RackTimeCompletes_6).Inv ∧ (wst_RackTimeCompletes_6).time.master = false ∧
    (wst_RackTimeCompletes_6).rackPortsUp = true ∧ (wst_RackTimeCompletes_6).val O.pkgAddrValid = 1 ∧ (wst_RackTimeCompletes_6).ownRank = some r ∧
    (wst_RackTimeCompletes_6).time.portsUpAt = some up :=
  ⟨(0), (9), by
    unfold State.Inv PlotsWf Plot.Wf Rises
    decide +kernel⟩

def wst_RackTimeCompletes_7 : State :=
  (fun (s : State) => (base7 (serve s))) State.reset
theorem wit_RackTimeCompletes_7 : ∃ (p : Fin 13) (m w : Msg), (wst_RackTimeCompletes_7).Inv ∧ w = onWire m ∧
    ((wst_RackTimeCompletes_7).port p).active = true ∧ (wst_RackTimeCompletes_7).fab.held = [] ∧
    ((wst_RackTimeCompletes_7).port p).credits.length = 3 ∧ 2 ≤ ((wst_RackTimeCompletes_7).port p).credits.getD 2 0 :=
  ⟨(0), ({ kind := .timeSync, src := 1, payload := natLe 8 44 }), ({ kind := .timeSync, src := 1, payload := natLe 8 44 }), by
    unfold State.Inv PlotsWf Plot.Wf Rises
    decide +kernel⟩

def wst_RackTimeCompletes_8 : State :=
  (fun (s : State) => (fun (s : State) => { s with time := { lastOffset := [(0, 3000000)] } }) ((base7 (serve s)))) State.reset
theorem wit_RackTimeCompletes_8 : ∃ (p : Fin 13) (m w : Msg) (d o : Int), (wst_RackTimeCompletes_8).Inv ∧ w = onWire m ∧
    ((wst_RackTimeCompletes_8).port p).active = true ∧ (wst_RackTimeCompletes_8).mgr.state = .idle ∧
    d = (((bytesAt w.payload 8 8 : Int) - bytesAt w.payload 0 8) + ((bytesAt w.payload 16 8 : Int) - (wst_RackTimeCompletes_8).rackTime)) / 2 ∧
    (wst_RackTimeCompletes_8).time.lastOffset = [(p.val, o)] :=
  ⟨(0), ({ kind := .timeEcho, src := 1, payload := natLe 8 44 ++ natLe 8 80 ++ natLe 8 90 }), ({ kind := .timeEcho, src := 1, payload := natLe 8 44 ++ natLe 8 80 ++ natLe 8 90 }), (63), (3000000), by
    unfold State.Inv PlotsWf Plot.Wf Rises
    decide +kernel⟩

/-! ### Single steps against the worked examples of the spec -/

/-- What holds of the next state of a command. -/
def after (c : Instr) (s : State) (p : State → Bool) : Bool := match exec c s with | .next t => p t | _ => false

/-- Straps of rack 37, sled 9, position 2 with SPAR open (03_reset_startup_location.md, worked example of R145): address 2,406, node 3. -/
theorem test_strap_address :
    after (.strapSample [List.replicate 4 0x1966]) { State.reset with pwr := { State.reset.pwr with aon := true, modrst := false } }
      (fun t => t.val O.pkgAddr == 2406 && t.val O.pkgAddrValid == 1 && t.val O.t1sNode == 3) = true := by decide +kernel

/-- The same with SPAR tied low: the count of ones is odd. -/
theorem test_strap_parity :
    after (.strapSample [List.replicate 4 0x0966]) { State.reset with pwr := { State.reset.pwr with aon := true, modrst := false } }
      (fun t => t.val O.pkgAddrValid == 0 && t.val O.strapStatus == 2) = true := by decide +kernel

/-- Rack Time at the pulse of epoch 3,600,000 (13_fabric_hierarchy.md, worked example of R658). -/
theorem test_rack_time :
    after (.epochPulse 5) { State.reset with time := { announced := some (3600000, 0) } }
      (fun t => t.rackTime == 0x34630B8A0000000) = true := by decide +kernel

/-- Rack 12, sled 3, position 1 (13_fabric_hierarchy.md, worked example of R644). -/
theorem test_package_address : rackOf 0x030D = 12 ∧ sledOf 0x030D = 3 ∧ posOf 0x030D = 1 := by decide

/-- The inner and outer hash of HMAC-SHA-256: test case 2 of RFC 4231 (log entry 123). -/
theorem test_hmac :
    (hmac [0x4A, 0x65, 0x66, 0x65] ([0x77, 0x68, 0x61, 0x74, 0x20, 0x64, 0x6F, 0x20, 0x79, 0x61, 0x20, 0x77, 0x61, 0x6E, 0x74, 0x20]
      ++ [0x66, 0x6F, 0x72, 0x20, 0x6E, 0x6F, 0x74, 0x68, 0x69, 0x6E, 0x67, 0x3F])).take 8
      = [0x5B, 0xDC, 0xC1, 0x46, 0xBF, 0x60, 0x75, 0x4E] := by decide +kernel

/-! ### Each check of WellFormed refuses an ill-formed term -/

theorem test_wf_message : (Instr.stileWrite 0 { dst := 2 ^ 12 }).wellFormed = false ∧ (Instr.heartbeat 0 { marks := [64] }).wellFormed = false := by decide
theorem test_wf_readings : (Instr.thermCapStep [(90, 0)]).wellFormed = false ∧ (Instr.powerOn 3 [(89, 0)]).wellFormed = true := by decide
theorem test_wf_straps : (Instr.strapSample [[1, 1, 1]]).wellFormed = false := by decide
theorem test_wf_ident : (Instr.ident 0 (2 ^ 12) .sled 0 none false).wellFormed = false := by decide
theorem test_wf_margins : (Instr.portMarginCheck [(13, 0, 0)] []).wellFormed = false := by decide
theorem test_wf_inline : (Instr.dbInline 0 [] 0).wellFormed = false := by decide
theorem test_wf_submit : (Instr.rotSubmit .H []).wellFormed = false := by decide
theorem test_wf_line : (Instr.cxlMemWrite 0 [] false false).wellFormed = false ∧ (Instr.bisnpResponse 0 (some [])).wellFormed = false := by decide

theorem test_wf_firmware : (Instr.fwData .F 0 (List.replicate 1025 0)).wellFormed = false := by decide +kernel

end Sys2Proof.Tests
end

section
namespace Sys2Proof.Machine

/-! ### Persistence commits: their start and their status (R174-R176, R231) -/

/-- A pending commit behind an earlier start waits out the second of R176, and the time it starts at is the new start. -/
theorem completes_persistCommitStart_of_lastStart {s : State} {l : Nat} (running : s.hl.running = true)
    (pending : s.dict.commit = .pending) (last : s.dict.lastStart = some l) :
    Completes .persistCommitStart s fun t =>
      t.dict.commit = .busy ∧ t.dict.lastStart = some t.now ∧ t.now = max s.now (l + 1000000000) := by
  have served : (!s.hl.running || !(s.dict.commit == .pending)) = false := by simp [running, pending]
  have runs : exec .persistCommitStart s = execPersistCommitStart s := rfl
  rw [Completes, runs, execPersistCommitStart, served, last]
  exact ⟨_, rfl, rfl, rfl, rfl⟩

/-- What PERSIST_STATUS shows (R231): PENDING while a further commit stands behind a BUSY one, else the state of the commit. -/
theorem State.odLive_persistStatus (s : State) (r : Route) :
    s.odLive r O.persistStatus = if s.dict.again then 1 else s.dict.commit.code := rfl

theorem State.odLive_persistStatus_of_pending {s : State} (r : Route) (pending : s.dict.commit = .pending) :
    s.odLive r O.persistStatus = 1 := by
  rw [State.odLive_persistStatus, pending]
  exact ite_self 1

/-- Settles O58: the start of a commit behind an earlier one, and what PERSIST_STATUS reads of a pending one. -/
theorem commitSpacing : Obligations.CommitSpacing :=
  ⟨fun _ _ running pending last => completes_persistCommitStart_of_lastStart running pending last,
    fun _ r pending => State.odLive_persistStatus_of_pending r pending⟩

end Sys2Proof.Machine
end

section
namespace Sys2Proof.Machine

set_option Elab.async false

/-! ### What every command keeps, and that every command answers -/

/-- From s to t nothing changed outside the parts ps, no waiting command came or went, and the invariant held on. -/
def Framed (ps : List Part) (s t : State) : Prop := s.SameBut ps t ∧ t.pending = s.pending ∧ (s.Inv → t.Inv)

theorem KeepsO.framed {m : Nat} {s t : State} {o : Out} {ps : List Part} (h : KeepsO m s o)
    (e : (List.range 31).all (fun k => !m.testBit k || decide (allParts.getD k .now ∈ ps)) = true) (ho : o = .next t) : Framed ps s t :=
  ⟨(h t ho).same_but e, (h t ho).kpending, (h t ho).kinv⟩

/-- Every command stays inside its parts, leaves the waiting commands and keeps the invariant: its footprint, from Laws/Foot*.lean, said in
the parts that partsOf lists. -/
theorem exec_framed {c : Instr} {s t : State} (h : exec c s = .next t) : Framed (partsOf c) s t := by
  cases c with
  | powerOn _ _ => exact (execPowerOn_keeps _ _ s).framed rfl h
  | inputDip => exact (execInputDip_keeps s).framed rfl h
  | brownout => exact (execBrownout_keeps s).framed rfl h
  | inputOv => exact (execInputOv_keeps s).framed rfl h
  | vregFault _ => exact (execVregFault_keeps _ s).framed rfl h
  | pwrRequestWrite _ _ => exact (execPwrRequestWrite_keeps _ _ s).framed rfl h
  | fallowEntryComplete => exact (execFallowEntryComplete_keeps s).framed rfl h
  | fallowWakeEvent _ => exact (execFallowWakeEvent_keeps _ s).framed rfl h
  | fallowMaskedEvent _ => exact (execFallowMaskedEvent_keeps _ s).framed rfl h
  | fallowWakeComplete => exact (execFallowWakeComplete_keeps s).framed rfl h
  | holdBufferTimeout => exact (execHoldBufferTimeout_keeps s).framed rfl h
  | plotWakeTrigger _ => exact (execPlotWakeTrigger_keeps _ s).framed rfl h
  | plotWakeComplete _ => exact (execPlotWakeComplete_keeps _ s).framed rfl h
  | plotIdleGate _ => exact (execPlotIdleGate_keeps _ s).framed rfl h
  | plotHoldWrite _ _ => exact (execPlotHoldWrite_keeps _ _ s).framed rfl h
  | rackrefLost => exact (execRackrefLost_keeps s).framed rfl h
  | rackrefRestored => exact (execRackrefRestored_keeps s).framed rfl h
  | tickTrimUpdate _ => exact (execTickTrimUpdate_keeps _ s).framed rfl h
  | rackrefAbsent => exact (execRackrefAbsent_keeps s).framed rfl h
  | hfastIdleStop => exact (execHfastIdleStop_keeps s).framed rfl h
  | hfastStart => exact (execHfastStart_keeps s).framed rfl h
  | powerSummation _ _ _ _ _ => exact (execPowerSummation_keeps _ _ _ _ _ s).framed rfl h
  | peakLimit _ _ => exact (execPeakLimit_keeps _ _ s).framed rfl h
  | headlandSilent => exact (execHeadlandSilent_keeps s).framed rfl h
  | shedAssert => exact (execShedAssert_keeps s).framed rfl h
  | shedDeassert => exact (execShedDeassert_keeps s).framed rfl h
  | shedReleaseStep => exact (execShedReleaseStep_keeps s).framed rfl h
  | thermThrottle _ _ => exact (execThermThrottle_keeps _ _ s).framed rfl h
  | thermCapStep _ => exact (execThermCapStep_keeps _ s).framed rfl h
  | thermAlarm _ _ => exact (execThermAlarm_keeps _ _ s).framed rfl h
  | thermTrip _ _ => exact (execThermTrip_keeps _ _ s).framed rfl h
  | sensorFailed _ => exact (execSensorFailed_keeps _ s).framed rfl h
  | calUnlock _ _ => exact (execCalUnlock_keeps _ _ s).framed rfl h
  | calUnlockExpiry => exact (execCalUnlockExpiry_keeps s).framed rfl h
  | calCommit _ _ => exact (execCalCommit_keeps _ _ s).framed rfl h
  | calCommitDone => exact (execCalCommitDone_keeps s).framed rfl h
  | moduleResetAssert => exact (execModuleResetAssert_keeps s).framed rfl h
  | moduleResetDeassert _ => exact (execModuleResetDeassert_keeps _ s).framed rfl h
  | perstAssert => exact (execPerstAssert_keeps s).framed rfl h
  | perstGlitch => exact (execPerstGlitch_keeps s).framed rfl h
  | perstDeassert => exact (execPerstDeassert_keeps s).framed rfl h
  | hotReset _ => exact (execHotReset_keeps _ s).framed rfl h
  | dlDown _ => exact (execDlDown_keeps _ s).framed rfl h
  | initiateFlr => exact (execInitiateFlr_keeps s).framed rfl h
  | flrComplete => exact (execFlrComplete_keeps s).framed rfl h
  | resetComplete _ => exact (execResetComplete_keeps _ s).framed rfl h
  | hbmScrubAcre _ => exact (execHbmScrubAcre_keeps _ s).framed rfl h
  | hlWatchdog _ => exact (execHlWatchdog_keeps _ s).framed rfl h
  | hlResetRequest _ _ _ => exact (execHlResetRequest_keeps _ _ _ s).framed rfl h
  | headlandReset _ => exact (execHeadlandReset_keeps _ s).framed rfl h
  | plotFence _ _ => exact (execPlotFence_keeps _ _ s).framed rfl h
  | plotReset _ _ => exact (execPlotReset_keeps _ _ s).framed rfl h
  | tramReset _ _ => exact (execTramReset_keeps _ _ s).framed rfl h
  | strapSample _ => exact (execStrapSample_keeps _ s).framed rfl h
  | strapChanged _ => exact (execStrapChanged_keeps _ s).framed rfl h
  | bootImageSelect => exact (execBootImageSelect_keeps s).framed rfl h
  | bootRomTimeout => exact (execBootRomTimeout_keeps s).framed rfl h
  | romRecovery _ => exact (execRomRecovery_keeps _ s).framed rfl h
  | trialImageConfirm => exact (execTrialImageConfirm_keeps s).framed rfl h
  | hbmTrainingDone _ => exact (execHbmTrainingDone_keeps _ s).framed rfl h
  | hello _ => exact (execHello_keeps _ s).framed rfl h
  | odRead _ => exact (execOdRead_keeps _ s).framed rfl h
  | odWrite _ => exact (execOdWrite_keeps _ s).framed rfl h
  | readBlock _ => exact (execReadBlock_keeps _ s).framed rfl h
  | writeBlock _ => exact (execWriteBlock_keeps _ s).framed rfl h
  | describe _ => exact (execDescribe_keeps _ s).framed rfl h
  | txnOpen _ => exact (execTxnOpen_keeps _ s).framed rfl h
  | txnCheck _ => exact (execTxnCheck_keeps _ s).framed rfl h
  | txnApply _ => exact (execTxnApply_keeps _ s).framed rfl h
  | txnDrop _ => exact (execTxnDrop_keeps _ s).framed rfl h
  | txnExpiry _ => exact (execTxnExpiry_keeps _ s).framed rfl h
  | notifyAck _ => exact (execNotifyAck_keeps _ s).framed rfl h
  | sessionReset _ => exact (execSessionReset_keeps _ s).framed rfl h
  | foreignFrame _ => exact (execForeignFrame_keeps _ s).framed rfl h
  | notifyEvaluation => exact (execNotifyEvaluation_keeps s).framed rfl h
  | notifyResend _ => exact (execNotifyResend_keeps _ s).framed rfl h
  | slotGo _ _ _ => exact (execSlotGo_keeps _ _ _ s).framed rfl h
  | mgmtRequest _ _ => exact (execMgmtRequest_keeps _ _ s).framed rfl h
  | persistCommit _ _ => exact (execPersistCommit_keeps _ _ s).framed rfl h
  | persistCommitStart => exact (execPersistCommitStart_keeps s).framed rfl h
  | persistCommitDone => exact (execPersistCommitDone_keeps s).framed rfl h
  | persistDefaults _ _ => exact (execPersistDefaults_keeps _ _ s).framed rfl h
  | lockRequest _ _ => exact (execLockRequest_keeps _ _ s).framed rfl h
  | lockExpiry _ => exact (execLockExpiry_keeps _ s).framed rfl h
  | hopKeySwitch _ _ => exact (execHopKeySwitch_keeps _ _ s).framed rfl h
  | fwBegin _ _ => exact (execFwBegin_keeps _ _ s).framed rfl h
  | fwEraseDone => exact (execFwEraseDone_keeps s).framed rfl h
  | fwData _ _ _ => exact (execFwData_keeps _ _ _ s).framed rfl h
  | fwVerify _ _ _ => exact (execFwVerify_keeps _ _ _ s).framed rfl h
  | fwActivate _ _ _ => exact (execFwActivate_keeps _ _ _ s).framed rfl h
  | fwConfirm _ _ => exact (execFwConfirm_keeps _ _ s).framed rfl h
  | fwOwnerExpiry => exact (execFwOwnerExpiry_keeps s).framed rfl h
  | counterLowRead _ => exact (execCounterLowRead_keeps _ s).framed rfl h
  | counterHighRead _ => exact (execCounterHighRead_keeps _ s).framed rfl h
  | configRequest _ _ _ _ _ => exact (execConfigRequest_keeps _ _ _ _ _ s).framed rfl h
  | barSizeWrite _ _ => exact (execBarSizeWrite_keeps _ _ s).framed rfl h
  | busMasterClear => exact (execBusMasterClear_keeps s).framed rfl h
  | busMasterSet => exact (execBusMasterSet_keeps s).framed rfl h
  | linkTrained _ => exact (execLinkTrained_keeps _ s).framed rfl h
  | aspmL1Entry => exact (execAspmL1Entry_keeps s).framed rfl h
  | l0pNarrow => exact (execL0pNarrow_keeps s).framed rfl h
  | l0pWiden => exact (execL0pWiden_keeps s).framed rfl h
  | ltrSend => exact (execLtrSend_keeps s).framed rfl h
  | d3hotEntry => exact (execD3hotEntry_keeps s).framed rfl h
  | d3hotExit => exact (execD3hotExit_keeps s).framed rfl h
  | windowRequestLate _ _ _ => exact (execWindowRequestLate_keeps _ _ _ s).framed rfl h
  | apertureMapWrite _ _ => exact (execApertureMapWrite_keeps _ _ s).framed rfl h
  | apertureRead _ => exact (execApertureRead_keeps _ s).framed rfl h
  | apertureWrite _ => exact (execApertureWrite_keeps _ s).framed rfl h
  | atomicCas _ _ _ _ _ => exact (execAtomicCas_keeps _ _ _ _ _ s).framed rfl h
  | registerWrite _ => exact (execRegisterWrite_keeps _ s).framed rfl h
  | unsupportedRequest _ _ _ => exact (execUnsupportedRequest_keeps _ _ _ s).framed rfl h
  | readCompletion _ _ _ => exact (execReadCompletion_keeps _ _ _ s).framed rfl h
  | poisonedCompletion _ _ _ => exact (execPoisonedCompletion_keeps _ _ _ s).framed rfl h
  | completionTimeout _ => exact (execCompletionTimeout_keeps _ s).framed rfl h
  | urCaCompletion _ _ => exact (execUrCaCompletion_keeps _ _ s).framed rfl h
  | unexpectedCompletion _ => exact (execUnexpectedCompletion_keeps _ s).framed rfl h
  | freeze _ => exact (execFreeze_keeps _ s).framed rfl h
  | freezeRelease => exact (execFreezeRelease_keeps s).framed rfl h
  | mmioErrRearm => exact (execMmioErrRearm_keeps s).framed rfl h
  | attnCauseClear _ _ => exact (execAttnCauseClear_keeps _ _ s).framed rfl h
  | assertInta => exact (execAssertInta_keeps s).framed rfl h
  | deassertInta => exact (execDeassertInta_keeps s).framed rfl h
  | attnHoldoffExpiry => exact (execAttnHoldoffExpiry_keeps s).framed rfl h
  | furrowEnable _ => exact (execFurrowEnable_keeps _ s).framed rfl h
  | furrowDisable _ => exact (execFurrowDisable_keeps _ s).framed rfl h
  | furrowDisabled _ => exact (execFurrowDisabled_keeps _ s).framed rfl h
  | drain _ => exact (execDrain_keeps _ s).framed rfl h
  | drainComplete _ => exact (execDrainComplete_keeps _ s).framed rfl h
  | resume _ => exact (execResume_keeps _ s).framed rfl h
  | prio _ _ => exact (execPrio_keeps _ _ s).framed rfl h
  | fctxWrite _ _ _ _ => exact (execFctxWrite_keeps _ _ _ _ s).framed rfl h
  | dbTail _ _ _ => exact (execDbTail_keeps _ _ _ s).framed rfl h
  | dbInline _ _ _ => exact (execDbInline_keeps _ _ _ s).framed rfl h
  | ringFetch => exact (execRingFetch_keeps s).framed rfl h
  | ringEntriesReceived _ _ => exact (execRingEntriesReceived_keeps _ _ s).framed rfl h
  | ringFault _ => exact (execRingFault_keeps _ s).framed rfl h
  | headWriteback _ => exact (execHeadWriteback_keeps _ s).framed rfl h
  | descriptorSown _ _ => exact (execDescriptorSown_keeps _ _ s).framed rfl h
  | startPointReached _ => exact (execStartPointReached_keeps _ s).framed rfl h
  | descriptorStart _ => exact (execDescriptorStart_keeps _ s).framed rfl h
  | halfPoint _ _ => exact (execHalfPoint_keeps _ _ s).framed rfl h
  | descriptorComplete _ _ => exact (execDescriptorComplete_keeps _ _ s).framed rfl h
  | stakeSet _ _ => exact (execStakeSet_keeps _ _ s).framed rfl h
  | stakeAdd _ _ => exact (execStakeAdd_keeps _ _ s).framed rfl h
  | stakeGroupWrite _ _ _ => exact (execStakeGroupWrite_keeps _ _ _ s).framed rfl h
  | stakeDeadlineCheck => exact (execStakeDeadlineCheck_keeps s).framed rfl h
  | stakeToNext _ => exact (execStakeToNext_keeps _ s).framed rfl h
  | stakeWaitCancel _ _ => exact (execStakeWaitCancel_keeps _ _ s).framed rfl h
  | pctxValid _ _ _ => exact (execPctxValid_keeps _ _ _ s).framed rfl h
  | invalRange => exact (execInvalRange_keeps s).framed rfl h
  | invalPasid => exact (execInvalPasid_keeps s).framed rfl h
  | invalAll => exact (execInvalAll_keeps s).framed rfl h
  | parcelInstall => exact (execParcelInstall_keeps s).framed rfl h
  | parcelRemove => exact (execParcelRemove_keeps s).framed rfl h
  | pasidRetire => exact (execPasidRetire_keeps s).framed rfl h
  | sync => exact (execSync_keeps s).framed rfl h
  | engineAcknowledge _ => exact (execEngineAcknowledge_keeps _ s).framed rfl h
  | invalidationComplete => exact (execInvalidationComplete_keeps s).framed rfl h
  | atsInvalidateRequest _ _ _ _ _ => exact (execAtsInvalidateRequest_keeps _ _ _ _ _ s).framed rfl h
  | walkerCompletion _ _ => exact (execWalkerCompletion_keeps _ _ s).framed rfl h
  | adCasCompletion _ _ => exact (execAdCasCompletion_keeps _ _ s).framed rfl h
  | walkError _ => exact (execWalkError_keeps _ s).framed rfl h
  | atsTranslationCompletion _ _ _ => exact (execAtsTranslationCompletion_keeps _ _ _ s).framed rfl h
  | acreEntryRead _ => exact (execAcreEntryRead_keeps _ s).framed rfl h
  | xlateModeSwitchDone => exact (execXlateModeSwitchDone_keeps s).framed rfl h
  | faultRecordWrite => exact (execFaultRecordWrite_keeps s).framed rfl h
  | faultBatchClose => exact (execFaultBatchClose_keeps s).framed rfl h
  | faultHeadWrite _ _ => exact (execFaultHeadWrite_keeps _ _ s).framed rfl h
  | faultCtrlWrite _ _ => exact (execFaultCtrlWrite_keeps _ _ s).framed rfl h
  | retry _ _ => exact (execRetry_keeps _ _ s).framed rfl h
  | fail _ _ => exact (execFail_keeps _ _ s).framed rfl h
  | deny _ _ => exact (execDeny_keeps _ _ s).framed rfl h
  | migrate4k _ _ _ => exact (execMigrate4k_keeps _ _ _ s).framed rfl h
  | migrate2m _ _ _ => exact (execMigrate2m_keeps _ _ _ s).framed rfl h
  | batchRetry _ => exact (execBatchRetry_keeps _ s).framed rfl h
  | batchFail _ => exact (execBatchFail_keeps _ s).framed rfl h
  | batchDeny _ => exact (execBatchDeny_keeps _ s).framed rfl h
  | faultTimeout _ => exact (execFaultTimeout_keeps _ s).framed rfl h
  | pageRequestSend => exact (execPageRequestSend_keeps s).framed rfl h
  | prgResponseSuccess _ _ => exact (execPrgResponseSuccess_keeps _ _ s).framed rfl h
  | prgResponseInvalid _ _ => exact (execPrgResponseInvalid_keeps _ _ s).framed rfl h
  | prgResponseFailure _ _ => exact (execPrgResponseFailure_keeps _ _ s).framed rfl h
  | prgResponseUnexpected _ _ => exact (execPrgResponseUnexpected_keeps _ _ s).framed rfl h
  | priReset => exact (execPriReset_keeps s).framed rfl h
  | migEpoch => exact (execMigEpoch_keeps s).framed rfl h
  | promotion _ => exact (execPromotion_keeps _ s).framed rfl h
  | promotionCopyDone _ => exact (execPromotionCopyDone_keeps _ s).framed rfl h
  | eviction _ _ => exact (execEviction_keeps _ _ s).framed rfl h
  | migHotNext _ => exact (execMigHotNext_keeps _ s).framed rfl h
  | migWindowWrite _ _ _ _ => exact (execMigWindowWrite_keeps _ _ _ _ s).framed rfl h
  | migPoolWrite _ _ => exact (execMigPoolWrite_keeps _ _ s).framed rfl h
  | cxlMemRead _ => exact (execCxlMemRead_keeps _ s).framed rfl h
  | cxlMemWrite _ _ _ _ => exact (execCxlMemWrite_keeps _ _ _ _ s).framed rfl h
  | bisnpResponse _ _ => exact (execBisnpResponse_keeps _ _ s).framed rfl h
  | cohWindowWrite _ _ _ => exact (execCohWindowWrite_keeps _ _ _ s).framed rfl h
  | hostSnoop _ _ => exact (execHostSnoop_keeps _ _ s).framed rfl h
  | rowGo _ _ => exact (execRowGo_keeps _ _ s).framed rfl h
  | chainGo _ _ => exact (execChainGo_keeps _ _ s).framed rfl h
  | rowStop _ => exact (execRowStop_keeps _ s).framed rfl h
  | rowClear _ => exact (execRowClear_keeps _ s).framed rfl h
  | rowKick _ _ => exact (execRowKick_keeps _ _ s).framed rfl h
  | rowBindWrite _ _ _ => exact (execRowBindWrite_keeps _ _ _ s).framed rfl h
  | quotaWrite _ _ _ => exact (execQuotaWrite_keeps _ _ _ s).framed rfl h
  | chainEntriesReceived _ _ => exact (execChainEntriesReceived_keeps _ _ s).framed rfl h
  | coulterIssue => exact (execCoulterIssue_keeps s).framed rfl h
  | pressWrite => exact (execPressWrite_keeps s).framed rfl h
  | harrowGrant => exact (execHarrowGrant_keeps s).framed rfl h
  | remoteReadTimeout _ => exact (execRemoteReadTimeout_keeps _ s).framed rfl h
  | programClaim => exact (execProgramClaim_keeps s).framed rfl h
  | programLoad _ _ _ => exact (execProgramLoad_keeps _ _ _ s).framed rfl h
  | nop _ => exact (execNop_keeps _ s).framed rfl h
  | endProgram _ => exact (execEndProgram_keeps _ s).framed rfl h
  | plotLoop _ => exact (execPlotLoop_keeps _ s).framed rfl h
  | endloop _ => exact (execEndloop_keeps _ s).framed rfl h
  | seti _ => exact (execSeti_keeps _ s).framed rfl h
  | addi _ => exact (execAddi_keeps _ s).framed rfl h
  | ldi _ => exact (execLdi_keeps _ s).framed rfl h
  | fence _ => exact (execFence_keeps _ s).framed rfl h
  | markHalf _ => exact (execMarkHalf_keeps _ s).framed rfl h
  | trap _ => exact (execTrap_keeps _ s).framed rfl h
  | swait _ => exact (execSwait_keeps _ s).framed rfl h
  | sjoin _ => exact (execSjoin_keeps _ s).framed rfl h
  | stest _ => exact (execStest_keeps _ s).framed rfl h
  | ssig _ => exact (execSsig_keeps _ s).framed rfl h
  | sremote _ => exact (execSremote_keeps _ s).framed rfl h
  | plotLoad _ _ => exact (execPlotLoad_keeps _ _ s).framed rfl h
  | plotStore _ => exact (execPlotStore_keeps _ s).framed rfl h
  | tcopy _ => exact (execTcopy_keeps _ s).framed rfl h
  | feed _ => exact (execFeed_keeps _ s).framed rfl h
  | unfeed _ => exact (execUnfeed_keeps _ s).framed rfl h
  | feedServed _ => exact (execFeedServed_keeps _ s).framed rfl h
  | bload _ => exact (execBload_keeps _ s).framed rfl h
  | matmul _ => exact (execMatmul_keeps _ s).framed rfl h
  | accClear _ => exact (execAccClear_keeps _ s).framed rfl h
  | accAddw _ => exact (execAccAddw_keeps _ s).framed rfl h
  | accStore _ => exact (execAccStore_keeps _ s).framed rfl h
  | vbin _ => exact (execVbin_keeps _ s).framed rfl h
  | vfma _ => exact (execVfma_keeps _ s).framed rfl h
  | vun _ => exact (execVun_keeps _ s).framed rfl h
  | vcvt _ => exact (execVcvt_keeps _ s).framed rfl h
  | vmuls _ => exact (execVmuls_keeps _ s).framed rfl h
  | vred _ => exact (execVred_keeps _ s).framed rfl h
  | vaddw _ => exact (execVaddw_keeps _ s).framed rfl h
  | vroundw _ => exact (execVroundw_keeps _ s).framed rfl h
  | gather _ _ => exact (execGather_keeps _ _ s).framed rfl h
  | scatter _ _ => exact (execScatter_keeps _ _ s).framed rfl h
  | scatterAdd _ _ => exact (execScatterAdd_keeps _ _ s).framed rfl h
  | scatterAddw _ _ => exact (execScatterAddw_keeps _ _ s).framed rfl h
  | csrExpand _ _ => exact (execCsrExpand_keeps _ _ s).framed rfl h
  | plotHalt _ _ => exact (execPlotHalt_keeps _ _ s).framed rfl h
  | programFailure _ => exact (execProgramFailure_keeps _ s).framed rfl h
  | tilthSplitWrite _ _ _ => exact (execTilthSplitWrite_keeps _ _ _ s).framed rfl h
  | portTrained _ _ _ _ => exact (execPortTrained_keeps _ _ _ _ s).framed rfl h
  | ident _ _ _ _ _ _ => exact (execIdent_keeps _ _ _ _ _ _ s).framed rfl h
  | portDown _ => exact (execPortDown_keeps _ s).framed rfl h
  | portRetry _ => exact (execPortRetry_keeps _ s).framed rfl h
  | portMarginCheck _ _ => exact (execPortMarginCheck_keeps _ _ s).framed rfl h
  | portRetrain _ => exact (execPortRetrain_keeps _ s).framed rfl h
  | stileWrite _ _ => exact (execStileWrite_keeps _ _ s).framed rfl h
  | writeAck _ _ => exact (execWriteAck_keeps _ _ s).framed rfl h
  | readReq _ _ => exact (execReadReq_keeps _ _ s).framed rfl h
  | readRsp _ _ => exact (execReadRsp_keeps _ _ s).framed rfl h
  | remoteStakeAdd _ _ => exact (execRemoteStakeAdd_keeps _ _ s).framed rfl h
  | remoteStakeSet _ _ => exact (execRemoteStakeSet_keeps _ _ s).framed rfl h
  | stakeRead _ _ => exact (execStakeRead_keeps _ _ s).framed rfl h
  | stakeAck _ _ => exact (execStakeAck_keeps _ _ s).framed rfl h
  | stakeRsp _ _ => exact (execStakeRsp_keeps _ _ s).framed rfl h
  | messageRelay _ _ => exact (execMessageRelay_keeps _ _ s).framed rfl h
  | protocolDiscard _ _ => exact (execProtocolDiscard_keeps _ _ s).framed rfl h
  | sliceJoin _ _ => exact (execSliceJoin_keeps _ _ s).framed rfl h
  | joinAck _ _ => exact (execJoinAck_keeps _ _ s).framed rfl h
  | heartbeat _ _ => exact (execHeartbeat_keeps _ _ s).framed rfl h
  | heartbeatSend => exact (execHeartbeatSend_keeps s).framed rfl h
  | heartbeatMissed _ => exact (execHeartbeatMissed_keeps _ s).framed rfl h
  | faultReport _ _ => exact (execFaultReport_keeps _ _ s).framed rfl h
  | haltMessage _ _ => exact (execHaltMessage_keeps _ _ s).framed rfl h
  | memberReset _ _ => exact (execMemberReset_keeps _ _ s).framed rfl h
  | powerLoss _ _ => exact (execPowerLoss_keeps _ _ s).framed rfl h
  | mgrCmdForm => exact (execMgrCmdForm_keeps s).framed rfl h
  | mgrCmdDissolve => exact (execMgrCmdDissolve_keeps s).framed rfl h
  | formationTimeout => exact (execFormationTimeout_keeps s).framed rfl h
  | sliceRestart _ => exact (execSliceRestart_keeps _ s).framed rfl h
  | sliceRelease => exact (execSliceRelease_keeps s).framed rfl h
  | stileCtrlWrite _ _ _ _ => exact (execStileCtrlWrite_keeps _ _ _ _ s).framed rfl h
  | stileDrainDone _ => exact (execStileDrainDone_keeps _ s).framed rfl h
  | epochPulse _ => exact (execEpochPulse_keeps _ s).framed rfl h
  | epochMissing => exact (execEpochMissing_keeps s).framed rfl h
  | timeAnnounce _ _ => exact (execTimeAnnounce_keeps _ _ s).framed rfl h
  | timeAnnounceSend => exact (execTimeAnnounceSend_keeps s).framed rfl h
  | timeMasterTakeover => exact (execTimeMasterTakeover_keeps s).framed rfl h
  | timeSync _ _ => exact (execTimeSync_keeps _ _ s).framed rfl h
  | timeEcho _ _ => exact (execTimeEcho_keeps _ _ s).framed rfl h
  | lotCreate _ => exact (execLotCreate_keeps _ s).framed rfl h
  | lotDelete _ => exact (execLotDelete_keeps _ s).framed rfl h
  | draftOpen _ => exact (execDraftOpen_keeps _ s).framed rfl h
  | draftCommit _ => exact (execDraftCommit_keeps _ s).framed rfl h
  | draftAbort _ => exact (execDraftAbort_keeps _ s).framed rfl h
  | rebind _ => exact (execRebind_keeps _ s).framed rfl h
  | keyDestroyDone _ => exact (execKeyDestroyDone_keeps _ s).framed rfl h
  | ftlReplay _ => exact (execFtlReplay_keeps _ s).framed rfl h
  | checkpointRewrite => exact (execCheckpointRewrite_keeps s).framed rfl h
  | scrub _ _ => exact (execScrub_keeps _ _ s).framed rfl h
  | bandRefresh _ => exact (execBandRefresh_keeps _ s).framed rfl h
  | wearMove => exact (execWearMove_keeps s).framed rfl h
  | programFailRetire _ _ => exact (execProgramFailRetire_keeps _ _ s).framed rfl h
  | seedDieFailed _ => exact (execSeedDieFailed_keeps _ s).framed rfl h
  | seedThermOff => exact (execSeedThermOff_keeps s).framed rfl h
  | seedThermReturn => exact (execSeedThermReturn_keeps s).framed rfl h
  | ftlFormatDone => exact (execFtlFormatDone_keeps s).framed rfl h
  | seedRead _ _ _ => exact (execSeedRead_keeps _ _ _ s).framed rfl h
  | seedProgram _ _ _ => exact (execSeedProgram_keeps _ _ _ s).framed rfl h
  | seedErase _ _ _ => exact (execSeedErase_keeps _ _ _ s).framed rfl h
  | markBad _ _ r => exact (execMarkBad_keeps _ _ r s).framed rfl h
  | rotSubmit _ _ => exact (execRotSubmit_keeps _ _ s).framed rfl h
  | goSow _ => exact (execGoSow_keeps _ s).framed rfl h
  | goReap _ => exact (execGoReap_keeps _ s).framed rfl h
  | cancel _ => exact (execCancel_keeps _ s).framed rfl h
  | sowStart => exact (execSowStart_keeps s).framed rfl h
  | sowComplete => exact (execSowComplete_keeps s).framed rfl h
  | reapStart => exact (execReapStart_keeps s).framed rfl h
  | reapComplete => exact (execReapComplete_keeps s).framed rfl h
  | trainLimitExpiry _ => exact (execTrainLimitExpiry_keeps _ s).framed rfl h
  | rotPoolReset _ => exact (execRotPoolReset_keeps _ s).framed rfl h
  | rotPoolWrite _ => exact (execRotPoolWrite_keeps _ s).framed rfl h
  | faultEvent _ => exact (execFaultEvent_keeps _ s).framed rfl h
  | railSample _ _ _ _ => exact (execRailSample_keeps _ _ _ _ s).framed rfl h
  | fatalUnspec _ => exact (execFatalUnspec_keeps _ s).framed rfl h
  | recordWriter => exact (execRecordWriter_keeps s).framed rfl h
  | escWindowClose _ => exact (execEscWindowClose_keeps _ s).framed rfl h
  | sourceQuiet _ => exact (execSourceQuiet_keeps _ s).framed rfl h
  | hostRingWrite => exact (execHostRingWrite_keeps s).framed rfl h
  | fcRingHeadWrite _ _ => exact (execFcRingHeadWrite_keeps _ _ s).framed rfl h
  | fcRingEnable _ _ => exact (execFcRingEnable_keeps _ _ s).framed rfl h
  | fcPop _ _ => exact (execFcPop_keeps _ _ s).framed rfl h
  | recordNext _ => exact (execRecordNext_keeps _ s).framed rfl h
  | fcReactJobHalt _ _ => exact (execFcReactJobHalt_keeps _ _ s).framed rfl h
  | fcReactPlotFence _ _ => exact (execFcReactPlotFence_keeps _ _ s).framed rfl h
  | fcReactDieReset _ _ => exact (execFcReactDieReset_keeps _ _ s).framed rfl h
  | fcReactFreeze _ _ => exact (execFcReactFreeze_keeps _ _ s).framed rfl h
  | fcReactPackageFence _ _ => exact (execFcReactPackageFence_keeps _ _ s).framed rfl h
  | stickyClear _ _ => exact (execStickyClear_keeps _ _ s).framed rfl h
  | fcSrcCfgWrite _ _ _ _ => exact (execFcSrcCfgWrite_keeps _ _ _ _ s).framed rfl h
  | fatalLogWrite => exact (execFatalLogWrite_keeps s).framed rfl h
  | forceArm _ _ => exact (execForceArm_keeps _ _ s).framed rfl h
  | forceArmExpiry => exact (execForceArmExpiry_keeps s).framed rfl h
  | forceEvent _ _ _ => exact (execForceEvent_keeps _ _ _ s).framed rfl h
  | forceLevel _ _ _ => exact (execForceLevel_keeps _ _ _ s).framed rfl h
  | forceRail _ _ _ => exact (execForceRail_keeps _ _ _ s).framed rfl h
  | splitWalk _ _ => exact (execSplitWalk_keeps _ _ s).framed rfl h
  | splitFault _ _ => exact (execSplitFault_keeps _ _ s).framed rfl h
  | splitMig _ _ => exact (execSplitMig_keeps _ _ s).framed rfl h
  | splitFtl _ _ => exact (execSplitFtl_keeps _ _ s).framed rfl h
  | splitRotation _ _ => exact (execSplitRotation_keeps _ _ s).framed rfl h
  | splitClassify _ _ => exact (execSplitClassify_keeps _ _ s).framed rfl h
  | splitRetrain _ _ => exact (execSplitRetrain_keeps _ _ s).framed rfl h
  | splitCap _ _ => exact (execSplitCap_keeps _ _ s).framed rfl h
  | splitStakeTo _ _ => exact (execSplitStakeTo_keeps _ _ s).framed rfl h
  | policyPower _ _ => exact (execPolicyPower_keeps _ _ s).framed rfl h
  | policyMigration _ _ _ => exact (execPolicyMigration_keeps _ _ _ s).framed rfl h
  | policySeedbank => exact (execPolicySeedbank_keeps s).framed rfl h
  | policyLink _ _ _ => exact (execPolicyLink_keeps _ _ _ s).framed rfl h
  | policyFaultThreshold _ => exact (execPolicyFaultThreshold_keeps _ s).framed rfl h
  | policyRotation _ _ => exact (execPolicyRotation_keeps _ _ s).framed rfl h
  | policyFallow _ => exact (execPolicyFallow_keeps _ s).framed rfl h
  | policyModeWrite _ _ _ => exact (execPolicyModeWrite_keeps _ _ _ s).framed rfl h
  | tagQuarantineEnd _ => exact (execTagQuarantineEnd_keeps _ s).framed rfl h
  | plotRampStart => exact (execPlotRampStart_keeps s).framed rfl h
  | flowControlUpdate _ _ => exact (execFlowControlUpdate_keeps _ _ s).framed rfl h
  | fabricCreditReturn _ _ _ => exact (execFabricCreditReturn_keeps _ _ _ s).framed rfl h
  | aspmL1Exit => exact (execAspmL1Exit_keeps s).framed rfl h
  | linkRecovery => exact (execLinkRecovery_keeps s).framed rfl h
  | levelConditionEnd _ => exact (execLevelConditionEnd_keeps _ s).framed rfl h
  | plcaFallback _ => exact (execPlcaFallback_keeps _ s).framed rfl h

/-- The command is answered with a next state. -/
def Answers (o : Out) : Prop := ∃ t, o = .next t

theorem Answers.next (t : State) : Answers (.next t) := ⟨t, rfl⟩

theorem execPowerOn_answers (inrush readings s) : Answers (execPowerOn inrush readings s) := by
  unfold execPowerOn
  repeat' (first | with_reducible exact .next _ | extract_lets | split)

theorem execFallowEntryComplete_answers (s) : Answers (execFallowEntryComplete s) := by
  unfold execFallowEntryComplete
  repeat' (first | with_reducible exact .next _ | extract_lets | split)

theorem execFallowMaskedEvent_answers (e s) : Answers (execFallowMaskedEvent e s) := by
  unfold execFallowMaskedEvent
  repeat' (first | with_reducible exact .next _ | extract_lets | split)

theorem execFallowWakeComplete_answers (s) : Answers (execFallowWakeComplete s) := by
  unfold execFallowWakeComplete
  repeat' (first | with_reducible exact .next _ | extract_lets | split)

theorem execHoldBufferTimeout_answers (s) : Answers (execHoldBufferTimeout s) := by
  unfold execHoldBufferTimeout
  repeat' (first | with_reducible exact .next _ | extract_lets | split)

theorem execPlotIdleGate_answers (p s) : Answers (execPlotIdleGate p s) := by
  unfold execPlotIdleGate
  repeat' (first | with_reducible exact .next _ | extract_lets | split)

theorem execRackrefLost_answers (s) : Answers (execRackrefLost s) := by
  unfold execRackrefLost
  repeat' (first | with_reducible exact .next _ | extract_lets | split)

theorem execRackrefRestored_answers (s) : Answers (execRackrefRestored s) := by
  unfold execRackrefRestored
  repeat' (first | with_reducible exact .next _ | extract_lets | split)

theorem execHfastIdleStop_answers (s) : Answers (execHfastIdleStop s) := by
  unfold execHfastIdleStop
  repeat' (first | with_reducible exact .next _ | extract_lets | split)

theorem execPowerSummation_answers (vin iin power avg level s) : Answers (execPowerSummation vin iin power avg level s) := by
  unfold execPowerSummation
  repeat' (first | with_reducible exact .next _ | extract_lets | split)

theorem execPeakLimit_answers (duration level s) : Answers (execPeakLimit duration level s) := by
  unfold execPeakLimit
  repeat' (first | with_reducible exact .next _ | extract_lets | split)

theorem execHeadlandSilent_answers (s) : Answers (execHeadlandSilent s) := by
  unfold execHeadlandSilent
  repeat' (first | with_reducible exact .next _ | extract_lets | split)

theorem execShedAssert_answers (s) : Answers (execShedAssert s) := by
  unfold execShedAssert
  repeat' (first | with_reducible exact .next _ | extract_lets | split)

theorem execShedDeassert_answers (s) : Answers (execShedDeassert s) := by
  unfold execShedDeassert
  repeat' (first | with_reducible exact .next _ | extract_lets | split)

theorem execShedReleaseStep_answers (s) : Answers (execShedReleaseStep s) := by
  unfold execShedReleaseStep
  repeat' (first | with_reducible exact .next _ | extract_lets | split)

theorem execThermThrottle_answers (sensor temp s) : Answers (execThermThrottle sensor temp s) := by
  unfold execThermThrottle
  repeat' (first | with_reducible exact .next _ | extract_lets | split)

theorem execThermCapStep_answers (readings s) : Answers (execThermCapStep readings s) := by
  unfold execThermCapStep
  repeat' (first | with_reducible exact .next _ | extract_lets | split)

theorem execThermAlarm_answers (sensor temp s) : Answers (execThermAlarm sensor temp s) := by
  unfold execThermAlarm
  repeat' (first | with_reducible exact .next _ | extract_lets | split)

theorem execThermTrip_answers (sensor temp s) : Answers (execThermTrip sensor temp s) := by
  unfold execThermTrip
  extract_lets dying s1 c
  clear_value c
  repeat' (first | with_reducible exact .next _ | extract_lets | split)

theorem execCalUnlockExpiry_answers (s) : Answers (execCalUnlockExpiry s) := by
  unfold execCalUnlockExpiry
  extract_lets ends
  clear_value ends
  cases ends with
  | nil => exact .next _
  | cons t ts => exact .next _

theorem execCalCommitDone_answers (s) : Answers (execCalCommitDone s) := by
  unfold execCalCommitDone
  repeat' (first | with_reducible exact .next _ | extract_lets | split)

theorem execModuleResetAssert_answers (s) : Answers (execModuleResetAssert s) := by
  unfold execModuleResetAssert
  repeat' (first | with_reducible exact .next _ | extract_lets | split)

theorem execModuleResetDeassert_answers (readings s) : Answers (execModuleResetDeassert readings s) := by
  unfold execModuleResetDeassert
  repeat' (first | with_reducible exact .next _ | extract_lets | split)

theorem execPerstAssert_answers (s) : Answers (execPerstAssert s) := by
  unfold execPerstAssert
  repeat' (first | with_reducible exact .next _ | extract_lets | split)

theorem execPerstDeassert_answers (s) : Answers (execPerstDeassert s) := by
  unfold execPerstDeassert
  repeat' (first | with_reducible exact .next _ | extract_lets | split)

theorem execHotReset_answers (disable s) : Answers (execHotReset disable s) := by
  unfold execHotReset
  repeat' (first | with_reducible exact .next _ | extract_lets | split)

theorem execDlDown_answers (lost s) : Answers (execDlDown lost s) := by
  unfold execDlDown
  repeat' (first | with_reducible exact .next _ | extract_lets | split)

theorem execFlrComplete_answers (s) : Answers (execFlrComplete s) := by
  unfold execFlrComplete
  repeat' (first | with_reducible exact .next _ | extract_lets | split)

theorem execResetComplete_answers (k s) : Answers (execResetComplete k s) := by
  unfold execResetComplete
  repeat' (first | with_reducible exact .next _ | extract_lets | split)

theorem execHlWatchdog_answers (crcOk s) : Answers (execHlWatchdog crcOk s) := by
  unfold execHlWatchdog
  repeat' (first | with_reducible exact .next _ | extract_lets | split)

theorem execHeadlandReset_answers (crcOk s) : Answers (execHeadlandReset crcOk s) := by
  unfold execHeadlandReset
  repeat' (first | with_reducible exact .next _ | extract_lets | split)

theorem execStrapSample_answers (tries s) : Answers (execStrapSample tries s) := by
  unfold execStrapSample
  repeat' (first | with_reducible exact .next _ | extract_lets | split)

theorem execStrapChanged_answers (pin s) : Answers (execStrapChanged pin s) := by
  unfold execStrapChanged
  repeat' (first | with_reducible exact .next _ | extract_lets | split)

theorem execBootImageSelect_answers (s) : Answers (execBootImageSelect s) := by
  unfold execBootImageSelect
  repeat' (first | with_reducible exact .next _ | extract_lets | split)

theorem execBootRomTimeout_answers (s) : Answers (execBootRomTimeout s) := by
  unfold execBootRomTimeout
  repeat' (first | with_reducible exact .next _ | extract_lets | split)

theorem execRomRecovery_answers (norDead s) : Answers (execRomRecovery norDead s) := by
  unfold execRomRecovery
  repeat' (first | with_reducible exact .next _ | extract_lets | split)

theorem execTrialImageConfirm_answers (s) : Answers (execTrialImageConfirm s) := by
  unfold execTrialImageConfirm
  repeat' (first | with_reducible exact .next _ | extract_lets | split)

theorem execHbmTrainingDone_answers (learned s) : Answers (execHbmTrainingDone learned s) := by
  unfold execHbmTrainingDone
  repeat' (first | with_reducible exact .next _ | extract_lets | split)

theorem execTxnExpiry_answers (route s) : Answers (execTxnExpiry route s) := by
  unfold execTxnExpiry
  repeat' (first | with_reducible exact .next _ | extract_lets | split)

theorem execNotifyResend_answers (seq s) : Answers (execNotifyResend seq s) := by
  unfold execNotifyResend
  repeat' (first | with_reducible exact .next _ | extract_lets | split)

theorem execPersistCommitStart_answers (s) : Answers (execPersistCommitStart s) := by
  unfold execPersistCommitStart
  repeat' (first | with_reducible exact .next _ | extract_lets | split)

theorem execPersistCommitDone_answers (s) : Answers (execPersistCommitDone s) := by
  unfold execPersistCommitDone
  repeat' (first | with_reducible exact .next _ | extract_lets | split)

theorem execLockExpiry_answers (route s) : Answers (execLockExpiry route s) := by
  unfold execLockExpiry
  repeat' (first | with_reducible exact .next _ | extract_lets | split)

theorem execFwEraseDone_answers (s) : Answers (execFwEraseDone s) := by
  unfold execFwEraseDone
  repeat' (first | with_reducible exact .next _ | extract_lets | split)

theorem execFwVerify_answers (route ok version s) : Answers (execFwVerify route ok version s) := by
  unfold execFwVerify
  repeat' (first | with_reducible exact .next _ | extract_lets | split)

theorem execFwOwnerExpiry_answers (s) : Answers (execFwOwnerExpiry s) := by
  unfold execFwOwnerExpiry
  repeat' (first | with_reducible exact .next _ | extract_lets | split)

theorem execConfigRequest_answers (write off be val rid s) : Answers (execConfigRequest write off be val rid s) := by
  unfold execConfigRequest
  repeat' (first | with_reducible exact .next _ | extract_lets | split)

theorem execLinkTrained_answers (offer s) : Answers (execLinkTrained offer s) := by
  unfold execLinkTrained
  repeat' (first | with_reducible exact .next _ | extract_lets | split)

theorem execAspmL1Entry_answers (s) : Answers (execAspmL1Entry s) := by
  unfold execAspmL1Entry
  repeat' (first | with_reducible exact .next _ | extract_lets | split)

theorem execL0pNarrow_answers (s) : Answers (execL0pNarrow s) := by
  unfold execL0pNarrow
  repeat' (first | with_reducible exact .next _ | extract_lets | split)

theorem execL0pWiden_answers (s) : Answers (execL0pWiden s) := by
  unfold execL0pWiden
  repeat' (first | with_reducible exact .next _ | extract_lets | split)

theorem execLtrSend_answers (s) : Answers (execLtrSend s) := by
  unfold execLtrSend
  repeat' (first | with_reducible exact .next _ | extract_lets | split)

theorem execD3hotExit_answers (s) : Answers (execD3hotExit s) := by
  unfold execD3hotExit
  repeat' (first | with_reducible exact .next _ | extract_lets | split)

theorem execWindowRequestLate_answers (win write r s) : Answers (execWindowRequestLate win write r s) := by
  unfold execWindowRequestLate
  repeat' (first | with_reducible exact .next _ | extract_lets | split)

theorem execUnsupportedRequest_answers (kind posted r s) : Answers (execUnsupportedRequest kind posted r s) := by
  unfold execUnsupportedRequest
  repeat' (first | with_reducible exact .next _ | extract_lets | split)

theorem execPoisonedCompletion_answers (tag data last s) : Answers (execPoisonedCompletion tag data last s) := by
  unfold execPoisonedCompletion
  repeat' (first | with_reducible exact .next _ | extract_lets | split)

theorem execCompletionTimeout_answers (tag s) : Answers (execCompletionTimeout tag s) := by
  unfold execCompletionTimeout
  repeat' (first | with_reducible exact .next _ | extract_lets | split)

theorem execUrCaCompletion_answers (tag ca s) : Answers (execUrCaCompletion tag ca s) := by
  unfold execUrCaCompletion
  repeat' (first | with_reducible exact .next _ | extract_lets | split)

theorem execUnexpectedCompletion_answers (tag s) : Answers (execUnexpectedCompletion tag s) := by
  unfold execUnexpectedCompletion
  repeat' (first | with_reducible exact .next _ | extract_lets | split)

theorem execAttnHoldoffExpiry_answers (s) : Answers (execAttnHoldoffExpiry s) := by
  unfold execAttnHoldoffExpiry
  repeat' (first | with_reducible exact .next _ | extract_lets | split)

theorem execDrainComplete_answers (n s) : Answers (execDrainComplete n s) := by
  unfold execDrainComplete
  repeat' (first | with_reducible exact .next _ | extract_lets | split)

theorem execDbTail_answers (n tail rid s) : Answers (execDbTail n tail rid s) := by
  unfold execDbTail
  repeat' (first | with_reducible exact .next _ | extract_lets | split)

theorem execDbInline_answers (n data rid s) : Answers (execDbInline n data rid s) := by
  unfold execDbInline
  repeat' (first | with_reducible exact .next _ | extract_lets | split)

theorem execRingFetch_answers (s) : Answers (execRingFetch s) := by
  unfold execRingFetch
  repeat' (first | with_reducible exact .next _ | extract_lets | split)

theorem execRingEntriesReceived_answers (tag data s) : Answers (execRingEntriesReceived tag data s) := by
  unfold execRingEntriesReceived
  repeat' (first | with_reducible exact .next _ | extract_lets | split)

theorem execRingFault_answers (tag s) : Answers (execRingFault tag s) := by
  unfold execRingFault
  repeat' (first | with_reducible exact .next _ | extract_lets | split)

theorem execHeadWriteback_answers (n s) : Answers (execHeadWriteback n s) := by
  unfold execHeadWriteback
  repeat' (first | with_reducible exact .next _ | extract_lets | split)

theorem execDescriptorSown_answers (n seq s) : Answers (execDescriptorSown n seq s) := by
  unfold execDescriptorSown
  repeat' (first | with_reducible exact .next _ | extract_lets | split)

theorem execStartPointReached_answers (n s) : Answers (execStartPointReached n s) := by
  unfold execStartPointReached
  repeat' (first | with_reducible exact .next _ | extract_lets | split)

theorem execHalfPoint_answers (n seq s) : Answers (execHalfPoint n seq s) := by
  unfold execHalfPoint
  repeat' (first | with_reducible exact .next _ | extract_lets | split)

theorem execStakeSet_answers (k val s) : Answers (execStakeSet k val s) := by
  unfold execStakeSet
  repeat' (first | with_reducible exact .next _ | extract_lets | split)

theorem execStakeAdd_answers (k val s) : Answers (execStakeAdd k val s) := by
  unfold execStakeAdd
  repeat' (first | with_reducible exact .next _ | extract_lets | split)

theorem execStakeDeadlineCheck_answers (s) : Answers (execStakeDeadlineCheck s) := by
  unfold execStakeDeadlineCheck
  repeat' (first | with_reducible exact .next _ | extract_lets | split)

theorem execEngineAcknowledge_answers (engine s) : Answers (execEngineAcknowledge engine s) := by
  unfold execEngineAcknowledge
  repeat' (first | with_reducible exact .next _ | extract_lets | split)

theorem execInvalidationComplete_answers (s) : Answers (execInvalidationComplete s) := by
  unfold execInvalidationComplete
  repeat' (first | with_reducible exact .next _ | extract_lets | split)

theorem execAtsInvalidateRequest_answers (itag pasid global start len s) : Answers (execAtsInvalidateRequest itag pasid global start len s) := by
  unfold execAtsInvalidateRequest
  repeat' (first | with_reducible exact .next _ | extract_lets | split)

theorem execWalkerCompletion_answers (walk data s) : Answers (execWalkerCompletion walk data s) := by
  unfold execWalkerCompletion
  repeat' (first | with_reducible exact .next _ | extract_lets | split)

theorem execAdCasCompletion_answers (walk found s) : Answers (execAdCasCompletion walk found s) := by
  unfold execAdCasCompletion
  repeat' (first | with_reducible exact .next _ | extract_lets | split)

theorem execWalkError_answers (walk s) : Answers (execWalkError walk s) := by
  unfold execWalkError
  repeat' (first | with_reducible exact .next _ | extract_lets | split)

theorem execAtsTranslationCompletion_answers (walk ok xs s) : Answers (execAtsTranslationCompletion walk ok xs s) := by
  unfold execAtsTranslationCompletion
  repeat' (first | with_reducible exact .next _ | extract_lets | split)

theorem execXlateModeSwitchDone_answers (s) : Answers (execXlateModeSwitchDone s) := by
  unfold execXlateModeSwitchDone
  repeat' (first | with_reducible exact .next _ | extract_lets | split)

theorem execFaultRecordWrite_answers (s) : Answers (execFaultRecordWrite s) := by
  unfold execFaultRecordWrite
  repeat' (first | with_reducible exact .next _ | extract_lets | split)

theorem execFaultBatchClose_answers (s) : Answers (execFaultBatchClose s) := by
  unfold execFaultBatchClose
  repeat' (first | with_reducible exact .next _ | extract_lets | split)

theorem execFaultTimeout_answers (handle s) : Answers (execFaultTimeout handle s) := by
  unfold execFaultTimeout
  repeat' (first | with_reducible exact .next _ | extract_lets | split)

theorem execPageRequestSend_answers (s) : Answers (execPageRequestSend s) := by
  unfold execPageRequestSend
  repeat' (first | with_reducible exact .next _ | extract_lets | split)

theorem execPrgResponseFailure_answers (prg pasid s) : Answers (execPrgResponseFailure prg pasid s) := by
  unfold execPrgResponseFailure
  repeat' (first | with_reducible exact .next _ | extract_lets | split)

theorem execPrgResponseUnexpected_answers (prg pasid s) : Answers (execPrgResponseUnexpected prg pasid s) := by
  unfold execPrgResponseUnexpected
  repeat' (first | with_reducible exact .next _ | extract_lets | split)

theorem execMigEpoch_answers (s) : Answers (execMigEpoch s) := by
  unfold execMigEpoch
  repeat' (first | with_reducible exact .next _ | extract_lets | split)

theorem execPromotion_answers (pages s) : Answers (execPromotion pages s) := by
  unfold execPromotion
  repeat' (first | with_reducible exact .next _ | extract_lets | split)

theorem execPromotionCopyDone_answers (h s) : Answers (execPromotionCopyDone h s) := by
  unfold execPromotionCopyDone
  repeat' (first | with_reducible exact .next _ | extract_lets | split)

theorem execEviction_answers (parcel pages s) : Answers (execEviction parcel pages s) := by
  unfold execEviction
  repeat' (first | with_reducible exact .next _ | extract_lets | split)

theorem execHostSnoop_answers (line inv s) : Answers (execHostSnoop line inv s) := by
  unfold execHostSnoop
  repeat' (first | with_reducible exact .next _ | extract_lets | split)

theorem execQuotaWrite_answers (row val rid s) : Answers (execQuotaWrite row val rid s) := by
  unfold execQuotaWrite
  repeat' (first | with_reducible exact .next _ | extract_lets | split)

theorem execChainEntriesReceived_answers (tag data s) : Answers (execChainEntriesReceived tag data s) := by
  unfold execChainEntriesReceived
  repeat' (first | with_reducible exact .next _ | extract_lets | split)

theorem execCoulterIssue_answers (s) : Answers (execCoulterIssue s) := by
  unfold execCoulterIssue
  repeat' (first | with_reducible exact .next _ | extract_lets | split)

theorem execPressWrite_answers (s) : Answers (execPressWrite s) := by
  unfold execPressWrite
  repeat' (first | with_reducible exact .next _ | extract_lets | split)

theorem execHarrowGrant_answers (s) : Answers (execHarrowGrant s) := by
  unfold execHarrowGrant
  repeat' (first | with_reducible exact .next _ | extract_lets | split)

theorem execRemoteReadTimeout_answers (tag s) : Answers (execRemoteReadTimeout tag s) := by
  unfold execRemoteReadTimeout
  repeat' (first | with_reducible exact .next _ | extract_lets | split)

theorem execProgramLoad_answers (plot c a s) : Answers (execProgramLoad plot c a s) := by
  unfold execProgramLoad
  repeat' (first | with_reducible exact .next _ | extract_lets | split)

theorem execFeedServed_answers (row s) : Answers (execFeedServed row s) := by
  unfold execFeedServed
  repeat' (first | with_reducible exact .next _ | extract_lets | split)

theorem execPlotHalt_answers (plot rid s) : Answers (execPlotHalt plot rid s) := by
  unfold execPlotHalt
  repeat' (first | with_reducible exact .next _ | extract_lets | split)

theorem execProgramFailure_answers (plot s) : Answers (execProgramFailure plot s) := by
  unfold execProgramFailure
  repeat' (first | with_reducible exact .next _ | extract_lets | split)

theorem execTilthSplitWrite_answers (plot val rid s) : Answers (execTilthSplitWrite plot val rid s) := by
  unfold execTilthSplitWrite
  repeat' (first | with_reducible exact .next _ | extract_lets | split)

theorem execPortTrained_answers (p full timing voltage s) : Answers (execPortTrained p full timing voltage s) := by
  unfold execPortTrained
  repeat' (first | with_reducible exact .next _ | extract_lets | split)

theorem execIdent_answers (p addr cls idx s64 dup s) : Answers (execIdent p addr cls idx s64 dup s) := by
  unfold execIdent
  repeat' (first | with_reducible exact .next _ | extract_lets | split)

theorem execPortRetry_answers (p s) : Answers (execPortRetry p s) := by
  unfold execPortRetry
  repeat' (first | with_reducible exact .next _ | extract_lets | split)

theorem execPortMarginCheck_answers (margins frames s) : Answers (execPortMarginCheck margins frames s) := by
  unfold execPortMarginCheck
  repeat' (first | with_reducible exact .next _ | extract_lets | split)

theorem execHeartbeatSend_answers (s) : Answers (execHeartbeatSend s) := by
  unfold execHeartbeatSend
  repeat' (first | with_reducible exact .next _ | extract_lets | split)

theorem execHeartbeatMissed_answers (who s) : Answers (execHeartbeatMissed who s) := by
  unfold execHeartbeatMissed
  repeat' (first | with_reducible exact .next _ | extract_lets | split)

theorem execPowerLoss_answers (p m s) : Answers (execPowerLoss p m s) := by
  unfold execPowerLoss
  repeat' (first | with_reducible exact .next _ | extract_lets | split)

theorem execFormationTimeout_answers (s) : Answers (execFormationTimeout s) := by
  unfold execFormationTimeout
  repeat' (first | with_reducible exact .next _ | extract_lets | split)

theorem execSliceRestart_answers (entries s) : Answers (execSliceRestart entries s) := by
  unfold execSliceRestart
  repeat' (first | with_reducible exact .next _ | extract_lets | split)

theorem execStileDrainDone_answers (w s) : Answers (execStileDrainDone w s) := by
  unfold execStileDrainDone
  repeat' (first | with_reducible exact .next _ | extract_lets | split)

theorem execEpochPulse_answers (at_ s) : Answers (execEpochPulse at_ s) := by
  unfold execEpochPulse
  repeat' (first | with_reducible exact .next _ | extract_lets | split)

theorem execEpochMissing_answers (s) : Answers (execEpochMissing s) := by
  unfold execEpochMissing
  repeat' (first | with_reducible exact .next _ | extract_lets | split)

theorem execTimeAnnounce_answers (p m s) : Answers (execTimeAnnounce p m s) := by
  unfold execTimeAnnounce
  repeat' (first | with_reducible exact .next _ | extract_lets | split)

theorem execTimeAnnounceSend_answers (s) : Answers (execTimeAnnounceSend s) := by
  unfold execTimeAnnounceSend
  repeat' (first | with_reducible exact .next _ | extract_lets | split)

theorem execTimeMasterTakeover_answers (s) : Answers (execTimeMasterTakeover s) := by
  unfold execTimeMasterTakeover
  repeat' (first | with_reducible exact .next _ | extract_lets | split)

theorem execTimeSync_answers (p m s) : Answers (execTimeSync p m s) := by
  unfold execTimeSync
  repeat' (first | with_reducible exact .next _ | extract_lets | split)

theorem execTimeEcho_answers (p m s) : Answers (execTimeEcho p m s) := by
  unfold execTimeEcho
  repeat' (first | with_reducible exact .next _ | extract_lets | split)

theorem execKeyDestroyDone_answers (lot s) : Answers (execKeyDestroyDone lot s) := by
  unfold execKeyDestroyDone
  repeat' (first | with_reducible exact .next _ | extract_lets | split)

theorem execFtlReplay_answers (us s) : Answers (execFtlReplay us s) := by
  unfold execFtlReplay
  repeat' (first | with_reducible exact .next _ | extract_lets | split)

theorem execCheckpointRewrite_answers (s) : Answers (execCheckpointRewrite s) := by
  unfold execCheckpointRewrite
  repeat' (first | with_reducible exact .next _ | extract_lets | split)

theorem execScrub_answers (band r s) : Answers (execScrub band r s) := by
  unfold execScrub
  repeat' (first | with_reducible exact .next _ | extract_lets | split)

theorem execBandRefresh_answers (band s) : Answers (execBandRefresh band s) := by
  unfold execBandRefresh
  repeat' (first | with_reducible exact .next _ | extract_lets | split)

theorem execWearMove_answers (s) : Answers (execWearMove s) := by
  unfold execWearMove
  repeat' (first | with_reducible exact .next _ | extract_lets | split)

theorem execSeedThermReturn_answers (s) : Answers (execSeedThermReturn s) := by
  unfold execSeedThermReturn
  repeat' (first | with_reducible exact .next _ | extract_lets | split)

theorem execFtlFormatDone_answers (s) : Answers (execFtlFormatDone s) := by
  unfold execFtlFormatDone
  repeat' (first | with_reducible exact .next _ | extract_lets | split)

theorem execSeedRead_answers (n seq r s) : Answers (execSeedRead n seq r s) := by
  unfold execSeedRead
  repeat' (first | with_reducible exact .next _ | extract_lets | split)

theorem execSeedProgram_answers (n seq r s) : Answers (execSeedProgram n seq r s) := by
  unfold execSeedProgram
  repeat' (first | with_reducible exact .next _ | extract_lets | split)

theorem execSeedErase_answers (n seq r s) : Answers (execSeedErase n seq r s) := by
  unfold execSeedErase
  repeat' (first | with_reducible exact .next _ | extract_lets | split)

theorem execMarkBad_answers (n seq r s) : Answers (execMarkBad n seq r s) := by
  unfold execMarkBad
  repeat' (first | with_reducible exact .next _ | extract_lets | split)

theorem execSowStart_answers (s) : Answers (execSowStart s) := by
  unfold execSowStart
  repeat' (first | with_reducible exact .next _ | extract_lets | split)

theorem execSowComplete_answers (s) : Answers (execSowComplete s) := by
  unfold execSowComplete
  repeat' (first | with_reducible exact .next _ | extract_lets | split)

theorem execReapStart_answers (s) : Answers (execReapStart s) := by
  unfold execReapStart
  repeat' (first | with_reducible exact .next _ | extract_lets | split)

theorem execReapComplete_answers (s) : Answers (execReapComplete s) := by
  unfold execReapComplete
  repeat' (first | with_reducible exact .next _ | extract_lets | split)

theorem execTrainLimitExpiry_answers (ticket s) : Answers (execTrainLimitExpiry ticket s) := by
  unfold execTrainLimitExpiry
  repeat' (first | with_reducible exact .next _ | extract_lets | split)

theorem execFaultEvent_answers (e s) : Answers (execFaultEvent e s) := by
  unfold execFaultEvent
  repeat' (first | with_reducible exact .next _ | extract_lets | split)

theorem execRailSample_answers (die fatalPair p n s) : Answers (execRailSample die fatalPair p n s) := by
  unfold execRailSample
  repeat' (first | with_reducible exact .next _ | extract_lets | split)

theorem execFatalUnspec_answers (die s) : Answers (execFatalUnspec die s) := by
  unfold execFatalUnspec
  repeat' (first | with_reducible exact .next _ | extract_lets | split)

theorem execRecordWriter_answers (s) : Answers (execRecordWriter s) := by
  unfold execRecordWriter
  repeat' (first | with_reducible exact .next _ | extract_lets | split)

theorem execEscWindowClose_answers (source s) : Answers (execEscWindowClose source s) := by
  unfold execEscWindowClose
  repeat' (first | with_reducible exact .next _ | extract_lets | split)

theorem execSourceQuiet_answers (source s) : Answers (execSourceQuiet source s) := by
  unfold execSourceQuiet
  repeat' (first | with_reducible exact .next _ | extract_lets | split)

theorem execHostRingWrite_answers (s) : Answers (execHostRingWrite s) := by
  unfold execHostRingWrite
  repeat' (first | with_reducible exact .next _ | extract_lets | split)

theorem execRecordNext_answers (route s) : Answers (execRecordNext route s) := by
  unfold execRecordNext
  repeat' (first | with_reducible exact .next _ | extract_lets | split)

theorem execStickyClear_answers (source again s) : Answers (execStickyClear source again s) := by
  unfold execStickyClear
  repeat' (first | with_reducible exact .next _ | extract_lets | split)

theorem execFcSrcCfgWrite_answers (source val route rid s) : Answers (execFcSrcCfgWrite source val route rid s) := by
  unfold execFcSrcCfgWrite
  repeat' (first | with_reducible exact .next _ | extract_lets | split)

theorem execFatalLogWrite_answers (s) : Answers (execFatalLogWrite s) := by
  unfold execFatalLogWrite
  repeat' (first | with_reducible exact .next _ | extract_lets | split)

theorem execForceArmExpiry_answers (s) : Answers (execForceArmExpiry s) := by
  unfold execForceArmExpiry
  repeat' (first | with_reducible exact .next _ | extract_lets | split)

theorem execPolicyLink_answers (fec replays restored s) : Answers (execPolicyLink fec replays restored s) := by
  unfold execPolicyLink
  repeat' (first | with_reducible exact .next _ | extract_lets | split)

theorem execTagQuarantineEnd_answers (tag s) : Answers (execTagQuarantineEnd tag s) := by
  unfold execTagQuarantineEnd
  repeat' (first | with_reducible exact .next _ | extract_lets | split)

theorem execPlotRampStart_answers (s) : Answers (execPlotRampStart s) := by
  unfold execPlotRampStart
  repeat' (first | with_reducible exact .next _ | extract_lets | split)

theorem execFlowControlUpdate_answers (posted nonPosted s) : Answers (execFlowControlUpdate posted nonPosted s) := by
  unfold execFlowControlUpdate
  repeat' (first | with_reducible exact .next _ | extract_lets | split)

theorem execFabricCreditReturn_answers (p vc n s) : Answers (execFabricCreditReturn p vc n s) := by
  unfold execFabricCreditReturn
  repeat' (first | with_reducible exact .next _ | extract_lets | split)

theorem execAspmL1Exit_answers (s) : Answers (execAspmL1Exit s) := by
  unfold execAspmL1Exit
  repeat' (first | with_reducible exact .next _ | extract_lets | split)

theorem execLinkRecovery_answers (s) : Answers (execLinkRecovery s) := by
  unfold execLinkRecovery
  repeat' (first | with_reducible exact .next _ | extract_lets | split)

theorem execPlcaFallback_answers (beacon s) : Answers (execPlcaFallback beacon s) := by
  unfold execPlcaFallback
  repeat' (first | with_reducible exact .next _ | extract_lets | split)

/-- Every command answers a next state (log entry 12). -/
theorem exec_answers (c : Instr) (s : State) : Answers (exec c s) := by
  cases c with
  | powerOn _ _ => exact execPowerOn_answers _ _ s
  | inputDip => exact .next _
  | brownout => exact .next _
  | inputOv => exact .next _
  | vregFault _ => exact .next _
  | pwrRequestWrite _ _ => exact .next _
  | fallowEntryComplete => exact execFallowEntryComplete_answers s
  | fallowWakeEvent _ => exact .next _
  | fallowMaskedEvent _ => exact execFallowMaskedEvent_answers _ s
  | fallowWakeComplete => exact execFallowWakeComplete_answers s
  | holdBufferTimeout => exact execHoldBufferTimeout_answers s
  | plotWakeTrigger _ => exact .next _
  | plotWakeComplete _ => exact .next _
  | plotIdleGate _ => exact execPlotIdleGate_answers _ s
  | plotHoldWrite _ _ => exact .next _
  | rackrefLost => exact execRackrefLost_answers s
  | rackrefRestored => exact execRackrefRestored_answers s
  | tickTrimUpdate _ => exact .next _
  | rackrefAbsent => exact .next _
  | hfastIdleStop => exact execHfastIdleStop_answers s
  | hfastStart => exact .next _
  | powerSummation _ _ _ _ _ => exact execPowerSummation_answers _ _ _ _ _ s
  | peakLimit _ _ => exact execPeakLimit_answers _ _ s
  | headlandSilent => exact execHeadlandSilent_answers s
  | shedAssert => exact execShedAssert_answers s
  | shedDeassert => exact execShedDeassert_answers s
  | shedReleaseStep => exact execShedReleaseStep_answers s
  | thermThrottle _ _ => exact execThermThrottle_answers _ _ s
  | thermCapStep _ => exact execThermCapStep_answers _ s
  | thermAlarm _ _ => exact execThermAlarm_answers _ _ s
  | thermTrip _ _ => exact execThermTrip_answers _ _ s
  | sensorFailed _ => exact .next _
  | calUnlock _ _ => exact .next _
  | calUnlockExpiry => exact execCalUnlockExpiry_answers s
  | calCommit _ _ => exact .next _
  | calCommitDone => exact execCalCommitDone_answers s
  | moduleResetAssert => exact execModuleResetAssert_answers s
  | moduleResetDeassert _ => exact execModuleResetDeassert_answers _ s
  | perstAssert => exact execPerstAssert_answers s
  | perstGlitch => exact .next _
  | perstDeassert => exact execPerstDeassert_answers s
  | hotReset _ => exact execHotReset_answers _ s
  | dlDown _ => exact execDlDown_answers _ s
  | initiateFlr => exact .next _
  | flrComplete => exact execFlrComplete_answers s
  | resetComplete _ => exact execResetComplete_answers _ s
  | hbmScrubAcre _ => exact .next _
  | hlWatchdog _ => exact execHlWatchdog_answers _ s
  | hlResetRequest _ _ _ => exact .next _
  | headlandReset _ => exact execHeadlandReset_answers _ s
  | plotFence _ _ => exact .next _
  | plotReset _ _ => exact .next _
  | tramReset _ _ => exact .next _
  | strapSample _ => exact execStrapSample_answers _ s
  | strapChanged _ => exact execStrapChanged_answers _ s
  | bootImageSelect => exact execBootImageSelect_answers s
  | bootRomTimeout => exact execBootRomTimeout_answers s
  | romRecovery _ => exact execRomRecovery_answers _ s
  | trialImageConfirm => exact execTrialImageConfirm_answers s
  | hbmTrainingDone _ => exact execHbmTrainingDone_answers _ s
  | hello _ => exact .next _
  | odRead _ => exact .next _
  | odWrite _ => exact .next _
  | readBlock _ => exact .next _
  | writeBlock _ => exact .next _
  | describe _ => exact .next _
  | txnOpen _ => exact .next _
  | txnCheck _ => exact .next _
  | txnApply _ => exact .next _
  | txnDrop _ => exact .next _
  | txnExpiry _ => exact execTxnExpiry_answers _ s
  | notifyAck _ => exact .next _
  | sessionReset _ => exact .next _
  | foreignFrame _ => exact .next _
  | notifyEvaluation => exact .next _
  | notifyResend _ => exact execNotifyResend_answers _ s
  | slotGo _ _ _ => exact .next _
  | mgmtRequest _ _ => exact .next _
  | persistCommit _ _ => exact .next _
  | persistCommitStart => exact execPersistCommitStart_answers s
  | persistCommitDone => exact execPersistCommitDone_answers s
  | persistDefaults _ _ => exact .next _
  | lockRequest _ _ => exact .next _
  | lockExpiry _ => exact execLockExpiry_answers _ s
  | hopKeySwitch _ _ => exact .next _
  | fwBegin _ _ => exact .next _
  | fwEraseDone => exact execFwEraseDone_answers s
  | fwData _ _ _ => exact .next _
  | fwVerify _ _ _ => exact execFwVerify_answers _ _ _ s
  | fwActivate _ _ _ => exact .next _
  | fwConfirm _ _ => exact .next _
  | fwOwnerExpiry => exact execFwOwnerExpiry_answers s
  | counterLowRead _ => exact .next _
  | counterHighRead _ => exact .next _
  | configRequest _ _ _ _ _ => exact execConfigRequest_answers _ _ _ _ _ s
  | barSizeWrite _ _ => exact .next _
  | busMasterClear => exact .next _
  | busMasterSet => exact .next _
  | linkTrained _ => exact execLinkTrained_answers _ s
  | aspmL1Entry => exact execAspmL1Entry_answers s
  | l0pNarrow => exact execL0pNarrow_answers s
  | l0pWiden => exact execL0pWiden_answers s
  | ltrSend => exact execLtrSend_answers s
  | d3hotEntry => exact .next _
  | d3hotExit => exact execD3hotExit_answers s
  | windowRequestLate _ _ _ => exact execWindowRequestLate_answers _ _ _ s
  | apertureMapWrite _ _ => exact .next _
  | apertureRead _ => exact .next _
  | apertureWrite _ => exact .next _
  | atomicCas _ _ _ _ _ => exact .next _
  | registerWrite _ => exact .next _
  | unsupportedRequest _ _ _ => exact execUnsupportedRequest_answers _ _ _ s
  | readCompletion _ _ _ => exact .next _
  | poisonedCompletion _ _ _ => exact execPoisonedCompletion_answers _ _ _ s
  | completionTimeout _ => exact execCompletionTimeout_answers _ s
  | urCaCompletion _ _ => exact execUrCaCompletion_answers _ _ s
  | unexpectedCompletion _ => exact execUnexpectedCompletion_answers _ s
  | freeze _ => exact .next _
  | freezeRelease => exact .next _
  | mmioErrRearm => exact .next _
  | attnCauseClear _ _ => exact .next _
  | assertInta => exact .next _
  | deassertInta => exact .next _
  | attnHoldoffExpiry => exact execAttnHoldoffExpiry_answers s
  | furrowEnable _ => exact .next _
  | furrowDisable _ => exact .next _
  | furrowDisabled _ => exact .next _
  | drain _ => exact .next _
  | drainComplete _ => exact execDrainComplete_answers _ s
  | resume _ => exact .next _
  | prio _ _ => exact .next _
  | fctxWrite _ _ _ _ => exact .next _
  | dbTail _ _ _ => exact execDbTail_answers _ _ _ s
  | dbInline _ _ _ => exact execDbInline_answers _ _ _ s
  | ringFetch => exact execRingFetch_answers s
  | ringEntriesReceived _ _ => exact execRingEntriesReceived_answers _ _ s
  | ringFault _ => exact execRingFault_answers _ s
  | headWriteback _ => exact execHeadWriteback_answers _ s
  | descriptorSown _ _ => exact execDescriptorSown_answers _ _ s
  | startPointReached _ => exact execStartPointReached_answers _ s
  | descriptorStart _ => exact .next _
  | halfPoint _ _ => exact execHalfPoint_answers _ _ s
  | descriptorComplete _ _ => exact .next _
  | stakeSet _ _ => exact execStakeSet_answers _ _ s
  | stakeAdd _ _ => exact execStakeAdd_answers _ _ s
  | stakeGroupWrite _ _ _ => exact .next _
  | stakeDeadlineCheck => exact execStakeDeadlineCheck_answers s
  | stakeToNext _ => exact .next _
  | stakeWaitCancel _ _ => exact .next _
  | pctxValid _ _ _ => exact .next _
  | invalRange => exact .next _
  | invalPasid => exact .next _
  | invalAll => exact .next _
  | parcelInstall => exact .next _
  | parcelRemove => exact .next _
  | pasidRetire => exact .next _
  | sync => exact .next _
  | engineAcknowledge _ => exact execEngineAcknowledge_answers _ s
  | invalidationComplete => exact execInvalidationComplete_answers s
  | atsInvalidateRequest _ _ _ _ _ => exact execAtsInvalidateRequest_answers _ _ _ _ _ s
  | walkerCompletion _ _ => exact execWalkerCompletion_answers _ _ s
  | adCasCompletion _ _ => exact execAdCasCompletion_answers _ _ s
  | walkError _ => exact execWalkError_answers _ s
  | atsTranslationCompletion _ _ _ => exact execAtsTranslationCompletion_answers _ _ _ s
  | acreEntryRead _ => exact .next _
  | xlateModeSwitchDone => exact execXlateModeSwitchDone_answers s
  | faultRecordWrite => exact execFaultRecordWrite_answers s
  | faultBatchClose => exact execFaultBatchClose_answers s
  | faultHeadWrite _ _ => exact .next _
  | faultCtrlWrite _ _ => exact .next _
  | retry _ _ => exact .next _
  | fail _ _ => exact .next _
  | deny _ _ => exact .next _
  | migrate4k _ _ _ => exact .next _
  | migrate2m _ _ _ => exact .next _
  | batchRetry _ => exact .next _
  | batchFail _ => exact .next _
  | batchDeny _ => exact .next _
  | faultTimeout _ => exact execFaultTimeout_answers _ s
  | pageRequestSend => exact execPageRequestSend_answers s
  | prgResponseSuccess _ _ => exact .next _
  | prgResponseInvalid _ _ => exact .next _
  | prgResponseFailure _ _ => exact execPrgResponseFailure_answers _ _ s
  | prgResponseUnexpected _ _ => exact execPrgResponseUnexpected_answers _ _ s
  | priReset => exact .next _
  | migEpoch => exact execMigEpoch_answers s
  | promotion _ => exact execPromotion_answers _ s
  | promotionCopyDone _ => exact execPromotionCopyDone_answers _ s
  | eviction _ _ => exact execEviction_answers _ _ s
  | migHotNext _ => exact .next _
  | migWindowWrite _ _ _ _ => exact .next _
  | migPoolWrite _ _ => exact .next _
  | cxlMemRead _ => exact .next _
  | cxlMemWrite _ _ _ _ => exact .next _
  | bisnpResponse _ _ => exact .next _
  | cohWindowWrite _ _ _ => exact .next _
  | hostSnoop _ _ => exact execHostSnoop_answers _ _ s
  | rowGo _ _ => exact .next _
  | chainGo _ _ => exact .next _
  | rowStop _ => exact .next _
  | rowClear _ => exact .next _
  | rowKick _ _ => exact .next _
  | rowBindWrite _ _ _ => exact .next _
  | quotaWrite _ _ _ => exact execQuotaWrite_answers _ _ _ s
  | chainEntriesReceived _ _ => exact execChainEntriesReceived_answers _ _ s
  | coulterIssue => exact execCoulterIssue_answers s
  | pressWrite => exact execPressWrite_answers s
  | harrowGrant => exact execHarrowGrant_answers s
  | remoteReadTimeout _ => exact execRemoteReadTimeout_answers _ s
  | programClaim => exact .next _
  | programLoad _ _ _ => exact execProgramLoad_answers _ _ _ s
  | nop _ => exact .next _
  | endProgram _ => exact .next _
  | plotLoop _ => exact .next _
  | endloop _ => exact .next _
  | seti _ => exact .next _
  | addi _ => exact .next _
  | ldi _ => exact .next _
  | fence _ => exact .next _
  | markHalf _ => exact .next _
  | trap _ => exact .next _
  | swait _ => exact .next _
  | sjoin _ => exact .next _
  | stest _ => exact .next _
  | ssig _ => exact .next _
  | sremote _ => exact .next _
  | plotLoad _ _ => exact .next _
  | plotStore _ => exact .next _
  | tcopy _ => exact .next _
  | feed _ => exact .next _
  | unfeed _ => exact .next _
  | feedServed _ => exact execFeedServed_answers _ s
  | bload _ => exact .next _
  | matmul _ => exact .next _
  | accClear _ => exact .next _
  | accAddw _ => exact .next _
  | accStore _ => exact .next _
  | vbin _ => exact .next _
  | vfma _ => exact .next _
  | vun _ => exact .next _
  | vcvt _ => exact .next _
  | vmuls _ => exact .next _
  | vred _ => exact .next _
  | vaddw _ => exact .next _
  | vroundw _ => exact .next _
  | gather _ _ => exact .next _
  | scatter _ _ => exact .next _
  | scatterAdd _ _ => exact .next _
  | scatterAddw _ _ => exact .next _
  | csrExpand _ _ => exact .next _
  | plotHalt _ _ => exact execPlotHalt_answers _ _ s
  | programFailure _ => exact execProgramFailure_answers _ s
  | tilthSplitWrite _ _ _ => exact execTilthSplitWrite_answers _ _ _ s
  | portTrained _ _ _ _ => exact execPortTrained_answers _ _ _ _ s
  | ident _ _ _ _ _ _ => exact execIdent_answers _ _ _ _ _ _ s
  | portDown _ => exact .next _
  | portRetry _ => exact execPortRetry_answers _ s
  | portMarginCheck _ _ => exact execPortMarginCheck_answers _ _ s
  | portRetrain _ => exact .next _
  | stileWrite _ _ => exact .next _
  | writeAck _ _ => exact .next _
  | readReq _ _ => exact .next _
  | readRsp _ _ => exact .next _
  | remoteStakeAdd _ _ => exact .next _
  | remoteStakeSet _ _ => exact .next _
  | stakeRead _ _ => exact .next _
  | stakeAck _ _ => exact .next _
  | stakeRsp _ _ => exact .next _
  | messageRelay _ _ => exact .next _
  | protocolDiscard _ _ => exact .next _
  | sliceJoin _ _ => exact .next _
  | joinAck _ _ => exact .next _
  | heartbeat _ _ => exact .next _
  | heartbeatSend => exact execHeartbeatSend_answers s
  | heartbeatMissed _ => exact execHeartbeatMissed_answers _ s
  | faultReport _ _ => exact .next _
  | haltMessage _ _ => exact .next _
  | memberReset _ _ => exact .next _
  | powerLoss _ _ => exact execPowerLoss_answers _ _ s
  | mgrCmdForm => exact .next _
  | mgrCmdDissolve => exact .next _
  | formationTimeout => exact execFormationTimeout_answers s
  | sliceRestart _ => exact execSliceRestart_answers _ s
  | sliceRelease => exact .next _
  | stileCtrlWrite _ _ _ _ => exact .next _
  | stileDrainDone _ => exact execStileDrainDone_answers _ s
  | epochPulse _ => exact execEpochPulse_answers _ s
  | epochMissing => exact execEpochMissing_answers s
  | timeAnnounce _ _ => exact execTimeAnnounce_answers _ _ s
  | timeAnnounceSend => exact execTimeAnnounceSend_answers s
  | timeMasterTakeover => exact execTimeMasterTakeover_answers s
  | timeSync _ _ => exact execTimeSync_answers _ _ s
  | timeEcho _ _ => exact execTimeEcho_answers _ _ s
  | lotCreate _ => exact .next _
  | lotDelete _ => exact .next _
  | draftOpen _ => exact .next _
  | draftCommit _ => exact .next _
  | draftAbort _ => exact .next _
  | rebind _ => exact .next _
  | keyDestroyDone _ => exact execKeyDestroyDone_answers _ s
  | ftlReplay _ => exact execFtlReplay_answers _ s
  | checkpointRewrite => exact execCheckpointRewrite_answers s
  | scrub _ _ => exact execScrub_answers _ _ s
  | bandRefresh _ => exact execBandRefresh_answers _ s
  | wearMove => exact execWearMove_answers s
  | programFailRetire _ _ => exact .next _
  | seedDieFailed _ => exact .next _
  | seedThermOff => exact .next _
  | seedThermReturn => exact execSeedThermReturn_answers s
  | ftlFormatDone => exact execFtlFormatDone_answers s
  | seedRead _ _ _ => exact execSeedRead_answers _ _ _ s
  | seedProgram _ _ _ => exact execSeedProgram_answers _ _ _ s
  | seedErase _ _ _ => exact execSeedErase_answers _ _ _ s
  | markBad _ _ r => exact execMarkBad_answers _ _ r s
  | rotSubmit _ _ => exact .next _
  | goSow _ => exact .next _
  | goReap _ => exact .next _
  | cancel _ => exact .next _
  | sowStart => exact execSowStart_answers s
  | sowComplete => exact execSowComplete_answers s
  | reapStart => exact execReapStart_answers s
  | reapComplete => exact execReapComplete_answers s
  | trainLimitExpiry _ => exact execTrainLimitExpiry_answers _ s
  | rotPoolReset _ => exact .next _
  | rotPoolWrite _ => exact .next _
  | faultEvent _ => exact execFaultEvent_answers _ s
  | railSample _ _ _ _ => exact execRailSample_answers _ _ _ _ s
  | fatalUnspec _ => exact execFatalUnspec_answers _ s
  | recordWriter => exact execRecordWriter_answers s
  | escWindowClose _ => exact execEscWindowClose_answers _ s
  | sourceQuiet _ => exact execSourceQuiet_answers _ s
  | hostRingWrite => exact execHostRingWrite_answers s
  | fcRingHeadWrite _ _ => exact .next _
  | fcRingEnable _ _ => exact .next _
  | fcPop _ _ => exact .next _
  | recordNext _ => exact execRecordNext_answers _ s
  | fcReactJobHalt _ _ => exact .next _
  | fcReactPlotFence _ _ => exact .next _
  | fcReactDieReset _ _ => exact .next _
  | fcReactFreeze _ _ => exact .next _
  | fcReactPackageFence _ _ => exact .next _
  | stickyClear _ _ => exact execStickyClear_answers _ _ s
  | fcSrcCfgWrite _ _ _ _ => exact execFcSrcCfgWrite_answers _ _ _ _ s
  | fatalLogWrite => exact execFatalLogWrite_answers s
  | forceArm _ _ => exact .next _
  | forceArmExpiry => exact execForceArmExpiry_answers s
  | forceEvent _ _ _ => exact .next _
  | forceLevel _ _ _ => exact .next _
  | forceRail _ _ _ => exact .next _
  | splitWalk _ _ => exact .next _
  | splitFault _ _ => exact .next _
  | splitMig _ _ => exact .next _
  | splitFtl _ _ => exact .next _
  | splitRotation _ _ => exact .next _
  | splitClassify _ _ => exact .next _
  | splitRetrain _ _ => exact .next _
  | splitCap _ _ => exact .next _
  | splitStakeTo _ _ => exact .next _
  | policyPower _ _ => exact .next _
  | policyMigration _ _ _ => exact .next _
  | policySeedbank => exact .next _
  | policyLink _ _ _ => exact execPolicyLink_answers _ _ _ s
  | policyFaultThreshold _ => exact .next _
  | policyRotation _ _ => exact .next _
  | policyFallow _ => exact .next _
  | policyModeWrite _ _ _ => exact .next _
  | tagQuarantineEnd _ => exact execTagQuarantineEnd_answers _ s
  | plotRampStart => exact execPlotRampStart_answers s
  | flowControlUpdate _ _ => exact execFlowControlUpdate_answers _ _ s
  | fabricCreditReturn _ _ _ => exact execFabricCreditReturn_answers _ _ _ s
  | aspmL1Exit => exact execAspmL1Exit_answers s
  | linkRecovery => exact execLinkRecovery_answers s
  | levelConditionEnd _ => exact .next _
  | plcaFallback _ => exact execPlcaFallback_answers _ s

/-! ### The obligations on the step and the queue -/

/-- Settles O60: the footprint of each command's meaning, said in the parts that partsOf lists. -/
theorem commandsTouchTheirPartsOnly : Obligations.CommandsTouchTheirPartsOnly :=
  fun _ _ _ h => (exec_framed h).1

/-- Settles O56: the branches of every meaning answer next states, and no footprint holds the queue. -/
theorem noCommandStops : Obligations.NoCommandStops := by
  intro c s
  obtain ⟨t, h⟩ := exec_answers c s
  obtain ⟨-, pending, -⟩ := exec_framed h
  exact ⟨t, h, pending⟩

/-- Settles O53: it is the definition of the step at a queue that is not empty. -/
theorem stepRunsFront : Obligations.StepRunsFront := by
  intro s c rest front
  rw [step, front]

/-- Settles O57: on an empty queue time passes, else O56 for the state with the rest of the queue. -/
theorem queueIsFifo : Obligations.QueueIsFifo := by
  intro s
  cases front : s.pending with
  | nil =>
    have idles : step s = idle s := by rw [step, front]
    exact ⟨_, idles, front⟩
  | cons c rest =>
    obtain ⟨t, runs, pending⟩ := noCommandStops c { s with pending := rest }
    exact ⟨t, (stepRunsFront s c rest front).trans runs, pending⟩

/-- Settles O54: every table of the invariant is empty right after reset. -/
theorem resetInv : Obligations.ResetInv :=
  ⟨rfl, rfl, rfl, rfl, rfl, rfl, ⟨rfl, fun _ listed => absurd listed List.not_mem_nil⟩, rfl, rfl, rfl, rfl, rfl, rfl⟩

/-- Settles O55: the invariant speaks of no waiting command, time passing alone keeps it, and every command keeps it by its footprint. -/
theorem stepKeepsInv : Obligations.StepKeepsInv := by
  intro s t inv runs
  cases front : s.pending with
  | nil =>
    rw [step, front] at runs
    exact (idle_keeps s t runs).kinv inv
  | cons c rest =>
    rw [stepRunsFront s c rest front] at runs
    obtain ⟨-, -, keeps⟩ := exec_framed runs
    exact keeps inv

end Sys2Proof.Machine
end

section
namespace Sys2Proof.Machine

set_option Elab.async false

/-! ### Registers and furrows after an update -/

theorem find?_kvErase_of_not {α : Type} (p : Nat × α → Bool) (m : List (Nat × α)) (k : Nat) (unmet : ∀ x, p (k, x) = false) :
    (kvErase m k).find? p = m.find? p := by
  induction m with
  | nil => rfl
  | cons e m ih => grind [kvErase]

theorem find?_kvPut_of_not {α : Type} (p : Nat × α → Bool) (m : List (Nat × α)) (k : Nat) (v : α) (unmet : ∀ x, p (k, x) = false) :
    (kvPut m k v).find? p = m.find? p := by
  induction m with
  | nil => simp [kvPut, unmet]
  | cons e m ih => grind [kvPut]

/-- A search that no entry of the key k meets does not see the key being written. -/
theorem find?_kvSet_of_not {α : Type} [DecidableEq α] (d : α) (p : Nat × α → Bool) (m : List (Nat × α)) (k : Nat) (v : α)
    (unmet : ∀ x, p (k, x) = false) : (kvSet d m k v).find? p = m.find? p := by
  unfold kvSet
  split
  · exact find?_kvErase_of_not p m k unmet
  · exact find?_kvPut_of_not p m k v unmet

theorem State.rg_setRg_same (s : State) (a v : Nat) (h : Rises s.reg) : (s.setRg a v).rg a = v := by
  rw [State.rg_setRg s a a v h, if_pos rfl]

theorem State.rg_setRg_ne {s : State} {a a' : Nat} (v : Nat) (h : Rises s.reg) (ne : a' ≠ a) : (s.setRg a v).rg a' = s.rg a' := by
  rw [State.rg_setRg s a a' v h, if_neg ne]

/-- A register outside the context slots does not say which context a PASID has. -/
theorem State.ctxOf_setRg {s : State} {a : Nat} (v pasid : Nat) (out : a < 0x280000 ∨ 0x300000 ≤ a) : (s.setRg a v).ctxOf pasid = s.ctxOf pasid := by
  unfold State.ctxOf
  congr 1
  refine find?_kvSet_of_not _ _ _ _ _ fun x => ?_
  have outside : (decide (0x280000 ≤ a) && decide (a < 0x300000)) = false := by
    rw [Bool.and_eq_false_iff, decide_eq_false_iff_not, decide_eq_false_iff_not]
    omega
  simp only [outside, Bool.false_and]

theorem State.fur_setFur_same (s : State) (n : Nat) (f : Furrow) (h : Rises s.g.furrows) : (s.setFur n f).fur n = f := by
  rw [State.fur_setFur s n n f h, if_pos rfl]

theorem State.ctxOf_lt {s : State} {pasid c : Nat} (found : s.ctxOf pasid = some c) : c < 0x4000 := by
  unfold State.ctxOf at found
  obtain ⟨e, entry, rfl⟩ := Option.map_eq_some_iff.mp found
  have slot := List.find?_some entry
  simp only [Bool.and_eq_true, decide_eq_true_eq] at slot
  omega

/-- FCTX_CTRL of a furrow is no register that the checks of its enable read (R364). -/
theorem State.enableCheck_setRg_fctxCtrl {s : State} (n v : Nat) (h : Rises s.reg) :
    (s.setRg (Rg.fctx n 0x28) v).enableCheck n = s.enableCheck n := by
  have other : ∀ m off, off ≠ 0x28 → off < 0x40 → (s.setRg (Rg.fctx n 0x28) v).rg (Rg.fctx m off) = s.rg (Rg.fctx m off) :=
    fun m off ne lt => State.rg_setRg_ne v h (by unfold Rg.fctx; omega)
  have pasid : (s.setRg (Rg.fctx n 0x28) v).furPasid n = s.furPasid n := congrArg (fld · 19 0) (other n 0x08 (by decide) (by decide))
  have priv : (s.setRg (Rg.fctx n 0x28) v).furPriv n = s.furPriv n := congrArg (bit · 20) (other n 0x08 (by decide) (by decide))
  have bypass : (s.setRg (Rg.fctx n 0x28) v).furBypass n = s.furBypass n := congrArg (bit · 21) (other n 0x08 (by decide) (by decide))
  have size : (s.setRg (Rg.fctx n 0x28) v).ringLog2 n = s.ringLog2 n := congrArg (fld · 4 0) (other n 0x00 (by decide) (by decide))
  have most : (s.setRg (Rg.fctx n 0x28) v).storeMax n = s.storeMax n := congrArg (fld · 12 0) (other n 0x10 (by decide) (by decide))
  have least : (s.setRg (Rg.fctx n 0x28) v).storeMin = s.storeMin :=
    funext fun m => congrArg (fld · 28 16) (other m 0x10 (by decide) (by decide))
  have inline : (s.setRg (Rg.fctx n 0x28) v).inlineLimit = s.inlineLimit :=
    funext fun m => congrArg (fld · 38 32) (other m 0x10 (by decide) (by decide))
  have records : (s.setRg (Rg.fctx n 0x28) v).recordLog2 n = s.recordLog2 n := congrArg (fld · 4 0) (other n 0x18 (by decide) (by decide))
  have area : (s.setRg (Rg.fctx n 0x28) v).recordBase n = s.recordBase n := congrArg (· / 4096 * 4096) (other n 0x18 (by decide) (by decide))
  have on : (s.setRg (Rg.fctx n 0x28) v).furrowsOn = s.furrowsOn := rfl
  have ctx : (s.setRg (Rg.fctx n 0x28) v).ctxOf (s.furPasid n) = s.ctxOf (s.furPasid n) := State.ctxOf_setRg v _ (.inr (by unfold Rg.fctx; omega))
  have ctrl : ∀ c, s.ctxOf (s.furPasid n) = some c → (s.setRg (Rg.fctx n 0x28) v).pctxCtrl c = s.pctxCtrl c := fun c found =>
    State.rg_setRg_ne v h (by have := State.ctxOf_lt found; unfold Rg.pctx Rg.fctx; omega)
  unfold State.enableCheck
  simp only [pasid, priv, bypass, size, most, least, inline, records, area, on, ctx]
  cases found : s.ctxOf (s.furPasid n) with
  | none => rfl
  | some c => simp only [ctrl c found]

theorem fld_setBit_zero (v hi lo : Nat) (b : Bool) (above : 1 ≤ lo) : fld (setBit v 0 b) hi lo = fld v hi lo := by
  have whole : setBit v 0 b / 2 = v / 2 := by
    unfold setBit setFld fld
    cases b <;> simp <;> omega
  obtain ⟨k, rfl⟩ : ∃ k, lo = k + 1 := ⟨lo - 1, by omega⟩
  unfold fld
  rw [Nat.pow_succ', ← Nat.div_div_eq_div_mul, whole, Nat.div_div_eq_div_mul]

/-- ENABLE written 1 in FCTX_CTRL of a DISABLED furrow that may be enabled (R363, R364). -/
theorem State.enableBit_of_disabled {s : State} {n : Nat} (h : Rises s.reg) (off : (s.fur n).state = .disabled) (passes : s.enableCheck n = 0) :
    s.enableBit n true = (s.setRg (Rg.fctx n 0x28) (setBit (s.rg (Rg.fctx n 0x28)) 0 true)).setFur n
      { tailRejected := (s.fur n).tailRejected, inlineRejected := (s.fur n).inlineRejected, shadowQueued := (s.fur n).shadowQueued,
        state := .enabled } := by
  have same : ∀ a v, (s.setRg a v).fur n = s.fur n := fun _ _ => rfl
  simp [State.enableBit, State.enableOp, same, off, State.enableCheck_setRg_fctxCtrl n _ h, passes]

theorem completes_furrowEnable (s : State) (n : Fin 4096) (inv : s.Inv) (off : (s.fur n).state = .disabled) (passes : s.enableCheck n = 0) :
    Completes (.furrowEnable n) s fun t =>
      (t.fur n).state = .enabled ∧ (t.fur n).head = 0 ∧ (t.fur n).tail = 0 ∧ (t.fur n).seq = 0 ∧ bit (t.rg (Rg.fctx n 0x28)) 0 = true ∧
      t.prioOf n = s.prioOf n ∧ t.hbm = s.hbm := by
  obtain ⟨-, -, -, regs, -, -, -, furs, -⟩ := inv
  refine ⟨_, rfl, ?_⟩
  rw [State.enableBit_of_disabled regs off passes]
  have ctrl : ∀ u f, ((s.setRg (Rg.fctx n 0x28) u).setFur n f).rg (Rg.fctx n 0x28) = u := fun u _ => State.rg_setRg_same s _ u regs
  have fur : ∀ u f, ((s.setRg (Rg.fctx n 0x28) u).setFur n f).fur n = f := fun u f => State.fur_setFur_same _ _ _ furs
  simp only [fur, ctrl, State.prioOf, bit_setBit, fld_setBit_zero _ 10 8 _ (by decide)]
  exact ⟨trivial, trivial, trivial, trivial, trivial, trivial, rfl⟩

theorem State.Settled.toAccept {s : State} (settled : s.Settled) {m : Nat} (on : m ∈ s.furrowsOn) : s.toAccept m = 0 := by
  by_contra some
  have listed : m ∈ s.furrowsOn.filter (fun n => decide (0 < s.toAccept n)) := List.mem_filter.mpr ⟨on, by simp; omega⟩
  rw [settled.2] at listed
  exact List.not_mem_nil listed

theorem State.settled_of_toAccept {s : State} (met : s.g.met = []) (none : ∀ m ∈ s.furrowsOn, s.toAccept m = 0) : s.Settled :=
  ⟨met, List.filter_eq_nil_iff.mpr fun m on => by simp [none m on]⟩

theorem mem_kvSet {α : Type} [DecidableEq α] {d : α} {m : List (Nat × α)} {k : Nat} {v : α} {e : Nat × α} (h : e ∈ kvSet d m k v) :
    e = (k, v) ∨ e ∈ m := by
  unfold kvSet at h
  split at h
  · exact .inr (mem_kvErase h)
  · exact mem_kvPut h

theorem State.mem_furrowsOn_setFur {s : State} {n m : Nat} {f : Furrow} (on : m ∈ (s.setFur n f).furrowsOn) : m = n ∨ m ∈ s.furrowsOn := by
  unfold State.furrowsOn at on ⊢
  obtain ⟨e, listed, rfl⟩ := List.mem_map.mp on
  obtain ⟨mem, enabled⟩ := List.mem_filter.mp listed
  rcases mem_kvSet mem with rfl | old
  · exact .inl rfl
  · exact .inr (List.mem_map.mpr ⟨e, List.mem_filter.mpr ⟨old, enabled⟩, rfl⟩)

theorem State.toAccept_setFur_ne {s : State} {n m : Nat} {f : Furrow} (h : Rises s.g.furrows) (ne : m ≠ n) :
    (s.setFur n f).toAccept m = s.toAccept m := by
  unfold State.toAccept
  rw [State.fur_setFur _ _ _ _ h, if_neg ne]
  rfl

theorem State.toAccept_setFur_of_none {s : State} {n : Nat} {f : Furrow} (h : Rises s.g.furrows) (early : f.early = []) (staged : s.stagedOf n = []) :
    (s.setFur n f).toAccept n = 0 := by
  have none : (s.setFur n f).stagedOf n = [] := staged
  rw [State.toAccept, State.fur_setFur_same _ _ _ h, early, none]
  rfl

/-- A furrow with nothing to accept may be written: the stakes stay settled. -/
theorem State.Settled.setFur {s : State} {n : Nat} {f : Furrow} (settled : s.Settled) (h : Rises s.g.furrows) (none : (s.setFur n f).toAccept n = 0) :
    (s.setFur n f).Settled := by
  refine State.settled_of_toAccept settled.1 fun m on => ?_
  by_cases same : m = n
  · rw [same, none]
  · rw [State.toAccept_setFur_ne h same]
    exact settled.toAccept ((State.mem_furrowsOn_setFur on).resolve_left same)

/-- ENABLE written 0 (R365) for an ENABLED furrow without descriptors: what it has read of its ring is dropped, nothing is cancelled. -/
theorem State.disableOp_of_enabled {s : State} {n : Nat} (h : Rises s.g.furrows) (on : (s.fur n).state = .enabled) (slots : s.slotsOf n = [])
    (staged : s.stagedOf n = []) (settled : s.Settled) :
    s.disableOp n = (s.dropRing n).setFur n { s.fur n with fetching := 0, early := [], gaps := [], state := .disabling } := by
  have dropped : (s.dropRing n).fur n = { s.fur n with fetching := 0, early := [], gaps := [] } := State.fur_setFur_same _ _ _ h
  have rises : Rises (s.dropRing n).g.furrows := kvSet_rises _ _ _ _ h
  have drops : (s.dropRing n).Settled := State.Settled.setFur settled h (State.toAccept_setFur_of_none h rfl staged)
  have quiet : ((s.dropRing n).setFur n { s.fur n with fetching := 0, early := [], gaps := [], state := .disabling }).Settled :=
    State.Settled.setFur drops rises (State.toAccept_setFur_of_none rises rfl staged)
  unfold State.disableOp
  rw [on]
  dsimp only
  rw [dropped]
  have slots' : ((s.dropRing n).setFur n { s.fur n with fetching := 0, early := [], gaps := [], state := .disabling }).slotsOf n = [] := slots
  rw [slots']
  exact State.settleStakes_none _ quiet

theorem completes_furrowDisable (s : State) (n : Fin 4096) (inv : s.Inv) (on : (s.fur n).state = .enabled) (slots : s.slotsOf n = [])
    (staged : s.stagedOf n = []) (settled : s.Settled) :
    Completes (.furrowDisable n) s fun t =>
      (t.fur n).state = .disabling ∧ (t.fur n).head = (s.fur n).head ∧ bit (t.rg (Rg.fctx n 0x28)) 0 = false ∧ t.hbm = s.hbm := by
  obtain ⟨-, -, -, regs, -, -, -, furs, -⟩ := inv
  refine ⟨_, rfl, ?_⟩
  let u := s.setRg (Rg.fctx n 0x28) (setBit (s.rg (Rg.fctx n 0x28)) 0 false)
  have e : s.enableBit n false = u.disableOp n := rfl
  rw [e, State.disableOp_of_enabled (s := u) furs on slots staged settled]
  have fur : ∀ f, ((u.dropRing n).setFur n f).fur n = f := fun f => State.fur_setFur_same _ _ _ (kvSet_rises _ _ _ _ furs)
  have ctrl : ∀ f, ((u.dropRing n).setFur n f).rg (Rg.fctx n 0x28) = u.rg (Rg.fctx n 0x28) := fun f => rfl
  have stored : u.rg (Rg.fctx n 0x28) = setBit (s.rg (Rg.fctx n 0x28)) 0 false := State.rg_setRg_same _ _ _ regs
  beta_reduce
  rw [fur, ctrl, stored, bit_setBit]
  exact ⟨rfl, rfl, rfl, rfl⟩

theorem completes_furrowDisabled (s : State) (n : Fin 4096) (inv : s.Inv) (off : (s.fur n).state = .disabling) (slots : s.slotsOf n = [])
    (staged : s.stagedOf n = []) (idle : s.furrowBusy n = false) :
    Completes (.furrowDisabled n) s fun t => (t.fur n).state = .disabled ∧ t.reg = s.reg ∧ t.hbm = s.hbm := by
  obtain ⟨-, -, -, -, -, -, -, furs, -⟩ := inv
  refine ⟨_, rfl, ?_⟩
  have e : s.disabledOp n = s.setFur n { s.fur n with state := .disabled } := by
    simp [State.disabledOp, off, slots, staged, idle]
  rw [e]
  beta_reduce
  rw [State.fur_setFur_same _ _ _ furs]
  exact ⟨rfl, rfl, rfl⟩

theorem completes_drain (s : State) (n : Fin 4096) (inv : s.Inv) (on : (s.fur n).state = .enabled) :
    Completes (.drain n) s fun t =>
      (t.fur n).state = .draining ∧ (t.fur n).drainTail = (s.fur n).tail ∧ t.reg = s.reg ∧ t.hbm = s.hbm := by
  obtain ⟨-, -, -, -, -, -, -, furs, -⟩ := inv
  refine ⟨_, rfl, ?_⟩
  have e : s.drainOp n = s.setFur n { s.fur n with state := .draining, drainTail := (s.fur n).tail } := by simp [State.drainOp, on]
  rw [e]
  beta_reduce
  rw [State.fur_setFur_same _ _ _ furs]
  exact ⟨rfl, rfl, rfl, rfl⟩

theorem completes_drainComplete (s : State) (n : Fin 4096) (inv : s.Inv) (draining : (s.fur n).state = .draining)
    (drained : (s.fur n).head = (s.fur n).drainTail) (slots : s.slotsOf n = []) (staged : s.stagedOf n = []) :
    Completes (.drainComplete n) s fun t => (t.fur n).state = .disabled ∧ t.reg = s.reg ∧ t.hbm = s.hbm := by
  obtain ⟨-, -, -, -, -, -, -, furs, -⟩ := inv
  have e : exec (.drainComplete n) s = .next (s.setFur n { s.fur n with state := .disabled }) := by
    simp [exec, execDrainComplete, draining, drained, slots, staged]
  refine ⟨_, e, ?_⟩
  beta_reduce
  rw [State.fur_setFur_same _ _ _ furs]
  exact ⟨rfl, rfl, rfl⟩

theorem completes_resume (s : State) (n : Fin 4096) (inv : s.Inv) (failed : (s.fur n).state = .error) :
    Completes (.resume n) s fun t =>
      (t.fur n).state = .enabled ∧ (t.fur n).head = (s.fur n).head ∧ (t.fur n).tail = (s.fur n).tail ∧ t.reg = s.reg ∧ t.hbm = s.hbm := by
  obtain ⟨-, -, -, -, -, -, -, furs, -⟩ := inv
  refine ⟨_, rfl, ?_⟩
  have e : s.resumeOp n = s.setFur n { s.fur n with state := .enabled } := by simp [State.resumeOp, failed]
  rw [e]
  beta_reduce
  rw [State.fur_setFur_same _ _ _ furs]
  exact ⟨rfl, rfl, rfl, rfl, rfl⟩

theorem completes_prio (s : State) (n : Fin 4096) (p : Fin 8) (inv : s.Inv) :
    Completes (.prio n p) s fun t =>
      t.prioOf n = p ∧ bit (t.rg (Rg.fctx n 0x28)) 0 = bit (s.rg (Rg.fctx n 0x28)) 0 ∧ t.g = s.g ∧ t.hbm = s.hbm := by
  obtain ⟨-, -, -, regs, -⟩ := inv
  refine ⟨_, rfl, ?_⟩
  have ctrl : (s.prioOp n p).rg (Rg.fctx n 0x28) = p.val % 8 * 256 + s.rg (Rg.fctx n 0x28) % 2 := State.rg_setRg_same _ _ _ regs
  have prio : (s.prioOp n p).prioOf n = p := by
    unfold State.prioOf fld
    rw [ctrl]
    omega
  have enable : bit ((s.prioOp n p).rg (Rg.fctx n 0x28)) 0 = bit (s.rg (Rg.fctx n 0x28)) 0 := by
    rw [ctrl]
    unfold bit
    rw [Nat.testBit_zero, Nat.testBit_zero]
    congr 1
    simp only [eq_iff_iff]
    omega
  exact ⟨prio, enable, rfl, rfl⟩

/-- Settles O1: the states of a furrow, clause by clause. -/
theorem furrowStatesComplete : Obligations.FurrowStatesComplete :=
  ⟨completes_furrowEnable, completes_furrowDisable, completes_furrowDisabled, completes_drain, completes_drainComplete, completes_resume,
    completes_prio⟩

end Sys2Proof.Machine
end

section
namespace Sys2Proof.Machine

set_option Elab.async false

/-! ### Furrow contexts and doorbells (R338, R349, R353, R383) -/

/-- A plain request is served where the block serves the host. -/
theorem State.admitReq_of_servesHost {s : State} (w : Window) (write : Bool) {r : MemReq} (serves : s.ServesHost) (plain : r.Plain) :
    s.admitReq w write r = (s, true) := by
  rw [State.admits s w write r serves plain]
  obtain ⟨-, up, -, -, -, thawed, none⟩ := serves
  obtain ⟨-, clean⟩ := plain
  have first : s.behind w write = false := by simp [State.behind, none]
  simp [State.serveNow, up, thawed, clean, first]

theorem fld_and_mask (v m hi lo : Nat) (all : ∀ i < hi + 1 - lo, m.testBit (i + lo) = true) : fld (v &&& m) hi lo = fld v hi lo := by
  unfold fld
  refine Nat.eq_of_testBit_eq fun i => ?_
  rw [Nat.testBit_mod_two_pow, Nat.testBit_mod_two_pow, Nat.testBit_div_two_pow, Nat.testBit_div_two_pow, Nat.testBit_and]
  by_cases inside : i < hi + 1 - lo
  · rw [all i inside, Bool.and_true]
  · simp [inside]

theorem fld_mod_two_pow (v k hi lo : Nat) (inside : hi < k) (le : lo ≤ hi) : fld (v % 2 ^ k) hi lo = fld v hi lo := by
  unfold fld
  refine Nat.eq_of_testBit_eq fun i => ?_
  rw [Nat.testBit_mod_two_pow, Nat.testBit_mod_two_pow, Nat.testBit_div_two_pow, Nat.testBit_div_two_pow, Nat.testBit_mod_two_pow]
  by_cases inside : i < hi + 1 - lo
  · simp [inside]; omega
  · simp [inside]

theorem bit_mod_two_pow (v k n : Nat) (inside : n < k) : bit (v % 2 ^ k) n = bit v n := by
  unfold bit
  rw [Nat.testBit_mod_two_pow]
  simp [inside]

/-- A context write that is not refused stores its value in the register. -/
theorem completes_fctxWrite_of_stores {s : State} {n : Fin 4096} {reg : Fin 5} {v : Word} {rid : Half} {x : Nat} {P : State → Prop}
    (stores : s.writeFctx n reg v.toNat rid = s.setRg (Rg.fctx n (8 * reg)) x) (holds : P (s.setRg (Rg.fctx n (8 * reg)) x)) :
    Completes (.fctxWrite n reg v rid) s P :=
  ⟨_, congrArg Host.Outcome.next stores, holds⟩

theorem completes_fctxWrite_ring (s : State) (n : Fin 4096) (v : Word) (rid : Half) (inv : s.Inv) (off : (s.fur n).state = .disabled)
    (legal : log2Ok (fld v.toNat 4 0) = true) :
    Completes (.fctxWrite n 0 v rid) s fun t =>
      t.ringLog2 n = fld v.toNat 4 0 ∧ t.ringBase n = v.toNat / 4096 * 4096 ∧ t.g = s.g ∧ t.od = s.od ∧ t.hbm = s.hbm := by
  obtain ⟨-, -, -, regs, -⟩ := inv
  refine completes_fctxWrite_of_stores (x := v.toNat / 4096 * 4096 + fld v.toNat 4 0) (by simp [State.writeFctx, off, legal]) ?_
  refine ⟨?_, ?_, rfl, rfl, rfl⟩
  · refine (congrArg (fld · 4 0) (State.rg_setRg_same s _ _ regs)).trans ?_
    simp only [fld]; omega
  · refine (congrArg (· / 4096 * 4096) (State.rg_setRg_same s _ _ regs)).trans ?_
    simp only [fld]; omega

theorem completes_fctxWrite_pasid (s : State) (n : Fin 4096) (v : Word) (rid : Half) (inv : s.Inv) (off : (s.fur n).state = .disabled) :
    Completes (.fctxWrite n 1 v rid) s fun t =>
      t.furPasid n = fld v.toNat 19 0 ∧ t.furPriv n = bit v.toNat 20 ∧ t.furBypass n = bit v.toNat 21 ∧ t.furErrCont n = bit v.toNat 22 ∧
      t.g = s.g ∧ t.od = s.od := by
  obtain ⟨-, -, -, regs, -⟩ := inv
  refine completes_fctxWrite_of_stores (x := v.toNat % 2 ^ 23) (by simp [State.writeFctx, off]) ?_
  have reads : (s.setRg (Rg.fctx n 0x08) (v.toNat % 2 ^ 23)).rg (Rg.fctx n 0x08) = v.toNat % 2 ^ 23 := State.rg_setRg_same s _ _ regs
  refine ⟨?_, ?_, ?_, ?_, rfl, rfl⟩
  · exact (congrArg (fld · 19 0) reads).trans (fld_mod_two_pow _ 23 19 0 (by decide) (by decide))
  · exact (congrArg (bit · 20) reads).trans (bit_mod_two_pow _ 23 20 (by decide))
  · exact (congrArg (bit · 21) reads).trans (bit_mod_two_pow _ 23 21 (by decide))
  · exact (congrArg (bit · 22) reads).trans (bit_mod_two_pow _ 23 22 (by decide))

theorem completes_fctxWrite_store (s : State) (n : Fin 4096) (v : Word) (rid : Half) (inv : s.Inv) (off : (s.fur n).state = .disabled)
    (least : 1 ≤ fld v.toNat 12 0) (most : fld v.toNat 12 0 ≤ 4096) (reserve : fld v.toNat 28 16 ≤ 4096) (inline : fld v.toNat 38 32 ≤ 64) :
    Completes (.fctxWrite n 2 v rid) s fun t =>
      t.storeMax n = fld v.toNat 12 0 ∧ t.storeMin n = fld v.toNat 28 16 ∧ t.inlineLimit n = fld v.toNat 38 32 ∧ t.g = s.g ∧ t.od = s.od := by
  obtain ⟨-, -, -, regs, -⟩ := inv
  have maxKept : fld (v.toNat &&& 0x7F1FFF1FFF) 12 0 = fld v.toNat 12 0 := fld_and_mask _ _ _ _ (by decide)
  have minKept : fld (v.toNat &&& 0x7F1FFF1FFF) 28 16 = fld v.toNat 28 16 := fld_and_mask _ _ _ _ (by decide)
  have inlKept : fld (v.toNat &&& 0x7F1FFF1FFF) 38 32 = fld v.toNat 38 32 := fld_and_mask _ _ _ _ (by decide)
  refine completes_fctxWrite_of_stores (x := v.toNat &&& 0x7F1FFF1FFF) ?_ ?_
  · simp [State.writeFctx, off, maxKept, minKept, inlKept]
    omega
  · have reads : (s.setRg (Rg.fctx n 0x10) (v.toNat &&& 0x7F1FFF1FFF)).rg (Rg.fctx n 0x10) = v.toNat &&& 0x7F1FFF1FFF :=
      State.rg_setRg_same s _ _ regs
    exact ⟨(congrArg (fld · 12 0) reads).trans maxKept, (congrArg (fld · 28 16) reads).trans minKept,
      (congrArg (fld · 38 32) reads).trans inlKept, rfl, rfl⟩

theorem completes_fctxWrite_records (s : State) (n : Fin 4096) (v : Word) (rid : Half) (inv : s.Inv) (off : (s.fur n).state = .disabled)
    (legal : log2Ok (fld v.toNat 4 0) = true) :
    Completes (.fctxWrite n 3 v rid) s fun t =>
      t.recordLog2 n = fld v.toNat 4 0 ∧ t.recordBase n = v.toNat / 4096 * 4096 ∧ t.g = s.g ∧ t.od = s.od := by
  obtain ⟨-, -, -, regs, -⟩ := inv
  refine completes_fctxWrite_of_stores (x := v.toNat / 4096 * 4096 + fld v.toNat 4 0) (by simp [State.writeFctx, off, legal]) ?_
  refine ⟨?_, ?_, rfl, rfl⟩
  · refine (congrArg (fld · 4 0) (State.rg_setRg_same s _ _ regs)).trans ?_
    simp only [fld]; omega
  · refine (congrArg (· / 4096 * 4096) (State.rg_setRg_same s _ _ regs)).trans ?_
    simp only [fld]; omega

theorem completes_fctxWrite_shadow (s : State) (n : Fin 4096) (v : Word) (rid : Half) (inv : s.Inv) (off : (s.fur n).state = .disabled) :
    Completes (.fctxWrite n 4 v rid) s fun t =>
      t.shadowEn n = bit v.toNat 0 ∧ t.shadowAddr n = v.toNat / 8 * 8 ∧ t.g = s.g ∧ t.od = s.od := by
  obtain ⟨-, -, -, regs, -⟩ := inv
  refine completes_fctxWrite_of_stores (x := v.toNat / 8 * 8 + v.toNat % 2) (by simp [State.writeFctx, off]) ?_
  refine ⟨?_, ?_, rfl, rfl⟩
  · refine (congrArg (bit · 0) (State.rg_setRg_same s _ _ regs)).trans ?_
    simp only [bit, Nat.testBit_zero]
    congr 1
    rw [eq_iff_iff]
    omega
  · refine (congrArg (· / 8 * 8) (State.rg_setRg_same s _ _ regs)).trans ?_
    omega

theorem completes_dbTail (s : State) (n : Fin 4096) (v : Word32) (rid : Half) (inv : s.Inv) (serves : s.ServesHost) (on : (s.fur n).state = .enabled)
    (room : (v.toNat + 2 ^ 32 - (s.fur n).head) % 2 ^ 32 ≤ 2 ^ s.ringLog2 n) (small : (s.fur n).tail < 2 ^ 32)
    (ahead : (s.fur n).tail = v.toNat ∨
      ((s.fur n).tail + 2 ^ 32 - (s.fur n).head) % 2 ^ 32 < (v.toNat + 2 ^ 32 - (s.fur n).head) % 2 ^ 32) :
    Completes (.dbTail n v rid) s fun t =>
      (t.fur n).tail = v.toNat ∧ (t.fur n).head = (s.fur n).head ∧ s.Counts t O.doorbells ∧ t.hbm = s.hbm := by
  obtain ⟨-, -, objs, -, -, -, -, furs, -⟩ := inv
  have runs : exec (.dbTail n v rid) s = .next (s.tailOp n v.toNat) := by
    rw [exec, execDbTail, State.admitReq_of_servesHost _ _ serves ⟨rfl, rfl⟩]
    rfl
  refine ⟨_, runs, ?_⟩
  have counted : (s.bump O.doorbells).val O.doorbells = (s.val O.doorbells + 1) % 2 ^ 64 := State.val_bump _ _ objs (by decide)
  have g : (s.bump O.doorbells).g = s.g := (State.bump_keeps _ _).kg rfl
  have reg : (s.bump O.doorbells).reg = s.reg := (State.bump_keeps _ _).kreg rfl
  have hbm : (s.bump O.doorbells).hbm = s.hbm := (State.bump_keeps _ _).khbm rfl
  have fur : ∀ m, (s.bump O.doorbells).fur m = s.fur m := fun m => by rw [State.fur, State.fur, g]
  have size : (s.bump O.doorbells).ringLog2 n = s.ringLog2 n := by rw [State.ringLog2, State.ringLog2, State.rg, State.rg, reg]
  by_cases same : (s.fur n).tail = v.toNat
  · have e : s.tailOp n v.toNat = s.bump O.doorbells := by
      simp [State.tailOp, fur, on, same]
    rw [e]
    exact ⟨by rw [fur, same], by rw [fur], counted, hbm⟩
  · have e : s.tailOp n v.toNat = (s.bump O.doorbells).setFur n { s.fur n with tail := v.toNat } := by
      have moves : (v.toNat + 2 ^ 32 - (s.fur n).tail) % 2 ^ 32 ≠ 0 := by have := v.isLt; omega
      have takes := ahead.resolve_left same
      simp only [State.tailOp, fur, on, size]
      rw [if_neg moves, if_pos (by simp only [Bool.and_eq_true, decide_eq_true_eq]; exact ⟨room, takes⟩)]
    rw [e]
    beta_reduce
    rw [State.fur_setFur_same _ _ _ (by rw [g]; exact furs)]
    exact ⟨rfl, rfl, counted, hbm⟩

theorem completes_dbInline (s : State) (n : Fin 4096) (d : List Byte) (rid : Half) (_inv : s.Inv) (serves : s.ServesHost)
    (on : (s.fur n).state = .enabled) (whole : d.length = 64) (staged : s.stagedOf n = []) (early : (s.fur n).early = [])
    (room : 0 < s.inlineLimit n) (published : (s.fur n).tail ≠ (s.fur n).head) :
    Completes (.dbInline n d rid) s fun t =>
      t.g.staging = s.g.staging ++ [{ furrow := n, after := (s.fur n).tail, d := parseDesc d }] ∧ t.g.store = s.g.store ∧ t.hbm = s.hbm := by
  have runs : exec (.dbInline n d rid) s = .next (s.inlineOp n d) := by
    rw [exec, execDbInline, State.admitReq_of_servesHost _ _ serves ⟨rfl, rfl⟩, whole]
    rfl
  let x : Staged := { furrow := n, after := (s.fur n).tail, d := parseDesc d }
  let u : State := { s with g := { s.g with staging := s.g.staging ++ [x] } }
  have stagedNow : u.stagedOf n = [x] := by
    show (s.g.staging ++ [x]).filter _ = [x]
    rw [List.filter_append]
    show s.stagedOf n ++ _ = _
    rw [staged]
    simp [x]
  have waits : u.takeNext n = none := by
    have late : ¬ x.after = (u.fur n).head := published
    have none : (u.fur n).early = [] := early
    have enabled : (u.fur n).state = .enabled := on
    simp [State.takeNext, stagedNow, late, none, enabled]
  have e : s.inlineOp n d = u := by
    have one : u.toAccept n = 1 := by
      show (u.stagedOf n).length + ((s.fur n).early.map _).foldl _ 0 = 1
      rw [stagedNow, early]; rfl
    have accepts : u.acceptAll n = u := by rw [State.acceptAll, one, takeLoop, waits]
    simp only [State.inlineOp, on, staged, List.length_nil, if_pos room]
    exact accepts
  rw [e] at runs
  exact ⟨u, runs, rfl, rfl, rfl⟩

/-- Settles O2: each context register and each doorbell has its clause. -/
theorem furrowContextsAndDoorbellsComplete : Obligations.FurrowContextsAndDoorbellsComplete :=
  ⟨completes_fctxWrite_ring, completes_fctxWrite_pasid, completes_fctxWrite_store, completes_fctxWrite_records, completes_fctxWrite_shadow,
    completes_dbTail, completes_dbInline⟩

end Sys2Proof.Machine
end

section
namespace Sys2Proof.Machine

set_option Elab.async false

/-! ### Plots wake and go off (R75-R79, R106, R107) -/

theorem State.plot_modPlot_same (s : State) (n : Nat) (f : Plot → Plot) (h : Rises s.plots) : (s.modPlot n f).plot n = f (s.plot n) := by
  rw [State.plot_modPlot s n n f h, if_pos rfl]

theorem State.plot_modPlot_ne {s : State} {n m : Nat} (f : Plot → Plot) (h : Rises s.plots) (ne : m ≠ n) : (s.modPlot n f).plot m = s.plot m := by
  rw [State.plot_modPlot s n m f h, if_neg ne]

theorem completes_vregFault (s : State) (d : Fin 24) (on : bit s.domainOn d = true) :
    Completes (.vregFault d) s fun t => s.Raises t (Sc.vreg d) ∧ t.od = s.od ∧ t.pwr = s.pwr := by
  have runs : exec (.vregFault d) s = .next (s.raise (Sc.vreg d)) := by
    rw [exec, execVregFault, on]
    rfl
  exact ⟨_, runs, rfl, rfl, rfl⟩

/-- A gated plot that is not held off and is asked to wake waits for its ramp (R75). -/
theorem State.askPlot_of_gated {s : State} {n : Nat} (gated : (s.plot n).state = .gated) (free : bit s.pwr.plotHeldOff n = false) :
    s.askPlot n = s.modPlot n (fun y => { y with rampQueued := true }) := by
  simp [State.askPlot, gated, free]

theorem completes_plotWakeTrigger (s : State) (p : Fin 16) (inv : s.Inv) (up : s.pwr.mode = .up) (gated : (s.plot p).state = .gated)
    (free : bit s.pwr.plotHeldOff p = false) :
    Completes (.plotWakeTrigger p) s fun t =>
      t.plot p = { s.plot p with rampQueued := true } ∧ (∀ q : Fin 16, q ≠ p → t.plot q = s.plot q) ∧ t.od = s.od := by
  obtain ⟨-, -, -, -, -, -, ⟨plots, -⟩, -⟩ := inv
  have runs : exec (.plotWakeTrigger p) s = .next (s.modPlot p (fun y => { y with rampQueued := true })) := by
    rw [exec, execPlotWakeTrigger, up, ← State.askPlot_of_gated gated free]
    rfl
  exact ⟨_, runs, State.plot_modPlot_same s p _ plots, fun q ne => State.plot_modPlot_ne _ plots (Fin.val_ne_of_ne ne), rfl⟩

theorem completes_plotRampStart (s : State) (n : Nat) (inv : s.Inv) (unshed : s.pwr.shed = false) (up : s.pwr.mode = .up)
    (waits : (List.range 16).find? (fun n => (s.plot n).rampQueued && !(s.plot n).ramping) = some n) :
    Completes (.plotRampStart) s fun t =>
      (t.plot n).ramping = true ∧ (t.plot n).state = (if (s.plot n).state = .gated then .waking else (s.plot n).state) ∧
      t.pwr.lastRamp = some t.now ∧ t.now = (match s.pwr.lastRamp with | some l => max s.now (l + 110000) | none => s.now) := by
  obtain ⟨-, -, -, -, -, -, ⟨plots, -⟩, -⟩ := inv
  let ramped (y : Plot) : Plot := { y with ramping := true, state := (if y.state == .gated then .waking else y.state) }
  have ramps : ∀ u : State, u.plots = s.plots → (u.modPlot n ramped).plot n = ramped (s.plot n) := fun u e => by
    have same : u.plot n = s.plot n := congrArg (kvGet ({} : Plot) · n) e
    rw [State.plot_modPlot_same _ _ _ (e ▸ plots), same]
  have state : ((ramped (s.plot n)).state = if (s.plot n).state = .gated then .waking else (s.plot n).state) := by
    simp only [ramped, beq_iff_eq]
  cases last : s.pwr.lastRamp with
  | none =>
    refine ⟨{ s.modPlot n ramped with pwr := { s.pwr with lastRamp := some s.now } }, ?_, ?_⟩
    · simp [exec, execPlotRampStart, unshed, up, waits, last, ramped, State.until_]
    · exact ⟨congrArg Plot.ramping (ramps s rfl), (congrArg Plot.state (ramps s rfl)).trans state, rfl, rfl⟩
  | some l =>
    refine ⟨{ (s.until_ (l + 110000)).modPlot n ramped with pwr := { s.pwr with lastRamp := some (max s.now (l + 110000)) } }, ?_, ?_⟩
    · simp [exec, execPlotRampStart, unshed, up, waits, last, ramped, State.until_]
    · exact ⟨congrArg Plot.ramping (ramps (s.until_ _) rfl), (congrArg Plot.state (ramps (s.until_ _) rfl)).trans state, rfl, rfl⟩

/-- Nothing but dictionary values changes when PWR_REQ_STATUS notes that every plot is on. -/
theorem State.noteSown_cases (s : State) : s.noteSown = s ∨ s.noteSown = s.reqStatus 1 0 := by
  unfold State.noteSown
  split
  · exact .inr rfl
  · exact .inl rfl

theorem completes_plotWakeComplete (s : State) (p : Fin 16) (inv : s.Inv) (ramping : (s.plot p).ramping = true) (whole : (s.plot p).resetting = false)
    (waking : (s.plot p).state = .waking) (free : (s.plot p).busy = false) (stiles : s.fab.waiting = []) (owed : s.fab.owed = [])
    (held : s.pwr.hold = []) :
    Completes (.plotWakeComplete p) s fun t =>
      (t.plot p).state = .idle ∧ (t.plot p).ramping = false ∧ (t.plot p).tilth = [] ∧ (t.plot p).idleSince = s.now := by
  obtain ⟨-, -, -, -, -, -, ⟨plots, -⟩, -⟩ := inv
  have unclaimed : (s.plot p).mask = 0 := by simpa [Plot.busy, waking] using free
  have ready : (s.plotReady p).plot p = { s.plot p with state := .idle, rampQueued := false, ramping := false, off := false, resetting := false, idleSince := s.now, tilth := [], poison := [], resident := [], prog := none, gcache := [], idx := [], loops := [], slots := [], pc := 0 } := by
    simp [State.plotReady, whole, waking, unclaimed, State.plot_modPlot_same _ _ _ plots]
  have rest : ∀ u : State, u.fab = s.fab → u.pwr = s.pwr → u.stileRetry.serveHolds = u := fun u fab pwr => by
    rw [State.stileRetry_none u (by rw [fab, stiles]) (by rw [fab, owed]), State.serveHolds_none u (by rw [pwr, held])]
  have fab : (s.plotReady p).fab = s.fab := by simp [State.plotReady, whole]
  have pwr : (s.plotReady p).pwr = s.pwr := by simp [State.plotReady, whole]
  have runs : exec (.plotWakeComplete p) s = .next (s.plotReady p).noteSown := by
    rw [exec, execPlotWakeComplete, ramping, whole, State.plotUp]
    rcases State.noteSown_cases (s.plotReady p) with e | e
    · rw [e, rest (s.plotReady p) fab pwr]; rfl
    · rw [e, rest ((s.plotReady p).reqStatus 1 0) fab pwr]; rfl
  have plot : (s.plotReady p).noteSown.plot p = (s.plotReady p).plot p := by
    rcases State.noteSown_cases (s.plotReady p) with e | e <;> rw [e] <;> rfl
  refine ⟨_, runs, ?_⟩
  beta_reduce
  rw [plot, ready]
  exact ⟨rfl, rfl, rfl, rfl⟩

theorem completes_plotIdleGate (s : State) (p : Fin 16) (inv : s.Inv) (idle : (s.plot p).state = .idle) (free : (s.plot p).busy = false)
    (slots : (s.plot p).slots = []) (timeout : s.val O.plotIdleTimeout ≠ 0) (unheld : bit (s.val O.plotHold) p = false) :
    Completes (.plotIdleGate p) s fun t =>
      (t.plot p).state = .gated ∧ (t.plot p).tilth = [] ∧ (t.plot p).owner = (s.plot p).owner ∧
      t.now = max s.now ((s.plot p).idleSince + s.val O.plotIdleTimeout * 1000) := by
  obtain ⟨-, -, -, -, -, -, ⟨plots, -⟩, -⟩ := inv
  have runs : exec (.plotIdleGate p) s = .next ((s.until_ ((s.plot p).idleSince + s.val O.plotIdleTimeout * 1000)).gatePlot p) := by
    simp [exec, execPlotIdleGate, idle, free, slots, timeout, unheld]
  refine ⟨_, runs, ?_⟩
  beta_reduce
  unfold State.gatePlot
  rw [State.plot_modPlot_same]
  · exact ⟨rfl, rfl, rfl, rfl⟩
  · exact plots

/-- In a loop that asks the plots of a mask, a gated plot of the mask that is not held off comes to wait for its ramp. -/
theorem State.rampQueued_each_ask (m p : Nat) (named : bit m p = true) (l : List Nat) :
    ∀ s : State, Rises s.plots → (s.plot p).state = .gated → bit s.pwr.plotHeldOff p = false → p ∈ l ∨ (s.plot p).rampQueued = true →
      ((s.each l (fun s n => if bit m n then s.askPlot n else s)).plot p).rampQueued = true := by
  induction l with
  | nil => intro s _ _ _ waits; exact waits.resolve_left List.not_mem_nil
  | cons n l ih =>
    intro s plots gated free waits
    let u := if bit m n then s.askPlot n else s
    show ((u.each l _).plot p).rampQueued = true
    by_cases same : n = p
    · subst same
      have asked : u = s.modPlot n (fun y => { y with rampQueued := true }) := (if_pos named).trans (State.askPlot_of_gated gated free)
      have plot : u.plot n = { s.plot n with rampQueued := true } := by rw [asked]; exact State.plot_modPlot_same s n _ plots
      refine ih u ?_ ?_ ?_ (.inr ?_)
      · rw [asked]; exact State.modPlot_rises s n _ plots
      · rw [plot]; exact gated
      · rw [asked]; exact free
      · rw [plot]
    · have keeps : u = s ∨ u = s.modPlot n (fun y => { y with rampQueued := true }) := by
        simp only [u, State.askPlot]
        split
        · split
          · exact .inr rfl
          · exact .inl rfl
        · exact .inl rfl
      have plot : u.plot p = s.plot p := by
        rcases keeps with e | e
        · rw [e]
        · rw [e]; exact State.plot_modPlot_ne _ plots (Ne.symm same)
      refine ih u ?_ ?_ ?_ ?_
      · rcases keeps with e | e
        · rw [e]; exact plots
        · rw [e]; exact State.modPlot_rises s n _ plots
      · rw [plot]; exact gated
      · rcases keeps with e | e <;> rw [e] <;> exact free
      · rw [plot]
        exact waits.imp_left fun mem => (List.mem_cons.mp mem).resolve_left (Ne.symm same)

theorem completes_plotHoldWrite (s : State) (r : Route) (m : Half) (inv : s.Inv) (served : s.served r 0x200005 = true) :
    Completes (.plotHoldWrite r m) s fun t =>
      t.val O.plotHold = m.toNat ∧ (s.pwr.mode = .up → ∀ p : Fin 16, bit m.toNat p = true → (s.plot p).state = .gated →
      bit s.pwr.plotHeldOff p = false → (t.plot p).rampQueued = true) := by
  obtain ⟨-, -, objs, -, -, -, ⟨plots, -⟩, -⟩ := inv
  have whole : m.toNat % 65536 = m.toNat := Nat.mod_eq_of_lt m.isLt
  have runs : exec (.plotHoldWrite r m) s = .next (s.plotHoldOp m.toNat) := by
    rw [exec, execPlotHoldWrite, served]
    rfl
  have od : (s.plotHoldOp m.toNat).od = (s.setVal O.plotHold m.toNat).od := by
    unfold State.plotHoldOp
    rw [whole]
    dsimp only
    split
    · exact State.each_keeps (fun u => u.od = (s.setVal O.plotHold m.toNat).od) _
        (fun u n h => by
          split
          · rw [(State.askPlot_keeps u n).kod rfl, h]
          · exact h) _ _ rfl
    · rfl
  refine ⟨_, runs, ?_, ?_⟩
  · rw [State.val, od]
    exact (State.val_setVal s _ _ _ objs).trans (if_pos rfl)
  · intro up p named gated free
    have e : s.plotHoldOp m.toNat = (s.setVal O.plotHold m.toNat).each (List.range 16) (fun s n => if bit m.toNat n then s.askPlot n else s) := by
      unfold State.plotHoldOp
      rw [whole]
      have mode : (s.setVal O.plotHold m.toNat).pwr.mode = .up := up
      simp only [mode]
      rfl
    rw [e]
    exact State.rampQueued_each_ask _ _ named _ _ plots gated free (.inl (List.mem_range.mpr p.isLt))

/-- Settles O6: each command of a plot's power has its clause. -/
theorem plotPowerCompletes : Obligations.PlotPowerCompletes :=
  ⟨completes_vregFault, completes_plotWakeTrigger, completes_plotRampStart, completes_plotWakeComplete, completes_plotIdleGate,
    completes_plotHoldWrite⟩

end Sys2Proof.Machine
end

section
namespace Sys2Proof.Machine

set_option Elab.async false

/-! ### Relations of states that hold along a run -/

/-- `R` of a state and the state in an answer of type State × α. -/
abbrev OnFst {α : Type} (R : State → State → Prop) (s : State) (p : State × α) : Prop := R s p.1
/-- `R` of a state and the state in an answer of type α × State. -/
abbrev OnSnd {α : Type} (R : State → State → Prop) (s : State) (p : α × State) : Prop := R s p.2
/-- `R` of a state and the answer, where there is one. -/
def OnSome {α : Type} (R : State → α → Prop) (s : State) (o : Option α) : Prop := ∀ t, o = some t → R s t

theorem rel_ite {α : Type} {R : State → α → Prop} {s : State} {a b : α} {c : Prop} [Decidable c] (ha : R s a) (hb : R s b) :
    R s (if c then a else b) := by
  split
  · exact ha
  · exact hb

theorem rel_foldl {α β : Type} {R : State → β → Prop} {s : State} {f : β → α → β} {a : β} {l : List α} (ha : R s a)
    (hf : ∀ t x, R s t → R s (f t x)) : R s (l.foldl f a) := by
  induction l generalizing a with
  | nil => exact ha
  | cons x l ih => exact ih (hf a x ha)

theorem rel_each {α : Type} {R : State → State → Prop} {s a : State} {f : State → α → State} {l : List α} (ha : R s a)
    (hf : ∀ t x, R s t → R s (f t x)) : R s (a.each l f) := rel_foldl ha hf

theorem onFst_ofEq {α : Type} {R : State → State → Prop} {s t : State} {x : α} {p : State × α} (h : OnFst R s p) (e : p = (t, x)) : R s t := by
  subst e
  exact h

theorem onFst_mk {α : Type} {R : State → State → Prop} {s t : State} {x : α} (h : R s t) : OnFst R s (t, x) := h

theorem onSnd_ofEq {α : Type} {R : State → State → Prop} {s t : State} {x : α} {p : α × State} (h : OnSnd R s p) (e : p = (x, t)) : R s t := by
  subst e
  exact h

theorem onSome_ofEq {α : Type} {R : State → α → Prop} {s : State} {x : α} {o : Option α} (h : OnSome R s o) (e : o = some x) : R s x := h x e

theorem onSome_some {α : Type} {R : State → α → Prop} {s : State} {x : α} (h : R s x) : OnSome R s (some x) := by
  intro u e
  injection e with e
  exact e ▸ h

theorem onSome_none {α : Type} {R : State → α → Prop} {s : State} : OnSome R s none := fun _ e => nomatch e

theorem onSome_map {α : Type} {R : State → State → Prop} {s : State} {f : α → State} {o : Option α} (h : ∀ x, R s (f x)) : OnSome R s (o.map f) := by
  intro u e
  obtain ⟨x, -, rfl⟩ := Option.map_eq_some_iff.mp e
  exact h x

/-! ### What the engines' work leaves alone -/

/-- The dictionary objects that the engines' work writes: counters, the two high-water marks of GCORE's stores, and the failed sensors. -/
def engineObjects : List Nat :=
  [O.adCas, O.atsRequests, O.bisnpSent, O.denials, O.descFailed, O.descriptors, O.faults, O.faultsAborted, O.faultsAttached,
   O.feedRequests, O.feedWithdrawn, O.inlineAccepted, O.lookups, O.misses, O.msgsTx, O.ops, O.poisonSent, O.portDownFails,
   O.programsFailed, O.programsRun, O.records3100, O.ringEntries, O.ringRecords, O.stamps, O.storeFull, O.waiterFull, O.waitsMet,
   O.walkerReads, O.walks, O.wraps, O.rotAbandoned, O.rotFailed, O.storeHigh, O.waitersHigh, O.sensorFailed, O.timeouts]

/-- An object that no event of an engine writes, neither as a counter nor as the overflow object of a counter's index. -/
def steadyObject (k : Nat) : Bool := engineObjects.all (fun c => k != c && k != c / 256 * 256 + 0xFE)

/-- What the engines' work leaves alone: objects other than theirs, of the power state all but what scrubbing, readings and held-off plots note,
of the host's side all but queues, credits, tags and poison, and of the collector all but new events and records on their way. -/
structure EngineSteady (s t : State) : Prop where
  objs : Rises s.od → Rises t.od ∧ ∀ k, steadyObject k = true → t.val k = s.val k
  pwr : t.pwr = { s.pwr with scrub := t.pwr.scrub, temps := t.pwr.temps, plotHeldOff := t.pwr.plotHeldOff, sensorFloor := t.pwr.sensorFloor }
  host : t.host = { s.host with queue := t.host.queue, blocked := t.host.blocked, wire := t.host.wire, pCredit := t.host.pCredit,
                                npCredit := t.host.npCredit, tags := t.host.tags, poison := t.host.poison }
  fc : ∃ l, t.fc = { s.fc with ring := s.fc.ring ++ l, inFlight := t.fc.inFlight, unacked := t.fc.unacked, queue := t.fc.queue,
                               queueArmed := t.fc.queueArmed }

theorem EngineSteady.same {s t : State} (od : t.od = s.od) (pwr : t.pwr = s.pwr) (host : t.host = s.host) (fc : t.fc = s.fc) :
    EngineSteady s t where
  objs h := ⟨od ▸ h, fun _ _ => by rw [State.val, State.val, od]⟩
  pwr := by rw [pwr]
  host := by rw [host]
  fc := ⟨[], by rw [fc, List.append_nil]⟩

theorem EngineSteady.refl (s : State) : EngineSteady s s := .same rfl rfl rfl rfl

theorem EngineSteady.trans {s t u : State} (h : EngineSteady s t) (g : EngineSteady t u) : EngineSteady s u where
  objs r := by
    obtain ⟨r', hv⟩ := h.objs r
    obtain ⟨r'', gv⟩ := g.objs r'
    exact ⟨r'', fun k steady => (gv k steady).trans (hv k steady)⟩
  pwr := by rw [g.pwr, h.pwr]
  host := by rw [g.host, h.host]
  fc := by
    obtain ⟨l, hl⟩ := h.fc
    obtain ⟨m, gm⟩ := g.fc
    exact ⟨l ++ m, by rw [gm, hl, List.append_assoc]⟩

/-- An operation whose footprint spares dictionary, power, host and collector. -/
theorem EngineSteady.keeps {m : Nat} {s t : State} (h : Keeps m s t) (e : 33620100 &&& m = 0) : EngineSteady s t := by
  have spared : ∀ k, Nat.testBit 33620100 k = true → m.testBit k = false := fun k hk => by
    have both : (33620100 &&& m).testBit k = false := e ▸ Nat.zero_testBit k
    rwa [Nat.testBit_and, hk, Bool.true_and] at both
  exact .same (h.kod (spared 2 rfl)) (h.kpwr (spared 25 rfl)) (h.khost (spared 7 rfl)) (h.kfc (spared 16 rfl))

theorem steadyObject_ne {k c : Nat} (steady : steadyObject k = true) (mem : c ∈ engineObjects) : k ≠ c ∧ k ≠ c / 256 * 256 + 0xFE := by
  have := List.all_eq_true.mp steady c mem
  rwa [Bool.and_eq_true, bne_iff_ne, bne_iff_ne] at this

theorem EngineSteady.bumpBy {s : State} {c n : Nat} (mem : c ∈ engineObjects) : EngineSteady s (s.bumpBy c n) where
  objs h := ⟨State.bumpBy_rises s c n h, fun k steady =>
    State.val_bumpBy_other s c k n h (steadyObject_ne steady mem).1 (steadyObject_ne steady mem).2⟩
  pwr := by rw [(State.bumpBy_keeps s c n).kpwr rfl]
  host := by rw [(State.bumpBy_keeps s c n).khost rfl]
  fc := ⟨[], by rw [(State.bumpBy_keeps s c n).kfc rfl, List.append_nil]⟩

theorem EngineSteady.setVal {s : State} {c v : Nat} (mem : c ∈ engineObjects) : EngineSteady s (s.setVal c v) where
  objs h := ⟨State.setVal_rises s c v h, fun k steady => by
    rw [State.val_setVal s c k v h, if_neg (steadyObject_ne steady mem).1]⟩
  pwr := rfl
  host := rfl
  fc := ⟨[], by rw [List.append_nil]; rfl⟩

theorem EngineSteady.setpwr {s : State} {p : Power}
    (h : p = { s.pwr with scrub := p.scrub, temps := p.temps, plotHeldOff := p.plotHeldOff, sensorFloor := p.sensorFloor }) :
    EngineSteady s { s with pwr := p } where
  objs r := ⟨r, fun _ _ => rfl⟩
  pwr := h
  host := rfl
  fc := ⟨[], by rw [List.append_nil]⟩

theorem EngineSteady.sethost {s : State} {p : HostFace}
    (h : p = { s.host with queue := p.queue, blocked := p.blocked, wire := p.wire, pCredit := p.pCredit, npCredit := p.npCredit, tags := p.tags, poison := p.poison }) :
    EngineSteady s { s with host := p } where
  objs r := ⟨r, fun _ _ => rfl⟩
  pwr := rfl
  host := h
  fc := ⟨[], by rw [List.append_nil]⟩

theorem EngineSteady.setfc {s : State} {f : Collector}
    (h : f = { s.fc with inFlight := f.inFlight, unacked := f.unacked, queue := f.queue, queueArmed := f.queueArmed }) :
    EngineSteady s { s with fc := f } where
  objs r := ⟨r, fun _ _ => rfl⟩
  pwr := rfl
  host := rfl
  fc := ⟨[], by rw [List.append_nil]; exact h⟩

theorem EngineSteady.raise {s : State} {n : Nat} {c : Cap} : EngineSteady s (s.raise n c) where
  objs r := ⟨r, fun _ _ => rfl⟩
  pwr := rfl
  host := rfl
  fc := ⟨[_], rfl⟩

theorem onSome_step {s t : State} {o : Option State} (h : EngineSteady s t) (g : OnSome EngineSteady t o) : OnSome EngineSteady s o :=
  fun u e => h.trans (g u e)

theorem onSomeFst_step {α : Type} {s t : State} {o : Option (State × α)} (h : EngineSteady s t) (g : OnSome (OnFst EngineSteady) t o) :
    OnSome (OnFst EngineSteady) s o :=
  fun u e => h.trans (g u e)

theorem onSomeSnd_step {α : Type} {s t : State} {o : Option (α × State)} (h : EngineSteady s t) (g : OnSome (OnSnd EngineSteady) t o) :
    OnSome (OnSnd EngineSteady) s o :=
  fun u e => h.trans (g u e)

theorem EngineSteady.setreg {s : State} (v) : EngineSteady s { s with reg := v } := .same rfl rfl rfl rfl
theorem EngineSteady.setlatch {s : State} (v) : EngineSteady s { s with latch := v } := .same rfl rfl rfl rfl
theorem EngineSteady.setg {s : State} (v) : EngineSteady s { s with g := v } := .same rfl rfl rfl rfl
theorem EngineSteady.setplat {s : State} (v) : EngineSteady s { s with plat := v } := .same rfl rfl rfl rfl
theorem EngineSteady.setflt {s : State} (v) : EngineSteady s { s with flt := v } := .same rfl rfl rfl rfl
theorem EngineSteady.setcoh {s : State} (v) : EngineSteady s { s with coh := v } := .same rfl rfl rfl rfl
theorem EngineSteady.setdrill {s : State} (v) : EngineSteady s { s with drill := v } := .same rfl rfl rfl rfl
theorem EngineSteady.setplots {s : State} (v) : EngineSteady s { s with plots := v } := .same rfl rfl rfl rfl
theorem EngineSteady.setfab {s : State} (v) : EngineSteady s { s with fab := v } := .same rfl rfl rfl rfl
theorem EngineSteady.setslice {s : State} (v) : EngineSteady s { s with slice := v } := .same rfl rfl rfl rfl
theorem EngineSteady.setmgr {s : State} (v) : EngineSteady s { s with mgr := v } := .same rfl rfl rfl rfl
theorem EngineSteady.setseed {s : State} (v) : EngineSteady s { s with seed := v } := .same rfl rfl rfl rfl
theorem EngineSteady.setrot {s : State} (v) : EngineSteady s { s with rot := v } := .same rfl rfl rfl rfl

theorem EngineSteady.setHbm {s : State} (m : Store) : EngineSteady s (s.setHbm m) where
  objs r := ⟨r, fun _ _ => rfl⟩
  pwr := rfl
  host := rfl
  fc := ⟨[], by rw [List.append_nil]; rfl⟩

theorem State.queueTimeout_steady (s) (z1) : EngineSteady s (State.queueTimeout s z1) := by
  unfold State.queueTimeout
  refine rel_ite ?_ ?_
  · exact EngineSteady.refl _
  · refine EngineSteady.trans ?_ (.bumpBy (by decide))
    refine EngineSteady.trans ?_ (.keeps (State.attn_keeps _ _) rfl)
    exact .setg _

theorem State.queueMore_steady (s) : EngineSteady s (State.queueMore s) := by
  unfold State.queueMore
  refine rel_ite ?_ ?_
  · exact EngineSteady.refl _
  · refine rel_each ?_ ?_
    · exact EngineSteady.refl _
    · intro a1 a2 a3
      refine EngineSteady.trans ?_ (State.queueTimeout_steady _ _)
      assumption

theorem State.requeue_steady {r s t : State} (hs : EngineSteady r s) (ht : EngineSteady r t) : EngineSteady r (s.requeue t) :=
  rel_ite (ht.trans (State.queueMore_steady _)) ht

theorem State.missed_steady {r s t : State} (hs : EngineSteady r s) (ht : EngineSteady r t) : EngineSteady r (s.missed t) :=
  rel_ite ((ht.trans (.bumpBy (c := O.lookups) (n := 1) (by decide))).trans (.bumpBy (c := O.misses) (n := 1) (by decide))) ht

theorem State.raiseIf_steady (s) (z1) (z2) (z3) : EngineSteady s (State.raiseIf s z1 z2 z3) := by
  unfold State.raiseIf
  refine rel_ite ?_ ?_
  · exact .raise
  · exact EngineSteady.refl _

theorem State.scrubAcre_steady (s) (z1) : EngineSteady s (State.scrubAcre s z1) := by
  unfold State.scrubAcre
  refine rel_ite ?_ ?_
  · extract_lets x1 x2
    have hx1 : EngineSteady s x1 := by
      unfold x1
      exact .setHbm _
    clear_value x1
    exact hx1.trans (.setpwr (p := { s.pwr with scrub := _ }) (by rw [hx1.pwr]))
  · exact EngineSteady.refl _

theorem State.scrubFor_steady (s) (z1) (z2) : EngineSteady s (State.scrubFor s z1 z2) := by
  unfold State.scrubFor
  extract_lets x1
  have hx1 : EngineSteady s x1 := by
    unfold x1
    exact State.scrubAcre_steady _ _
  clear_value x1
  refine rel_ite ?_ ?_
  · assumption
  · refine EngineSteady.trans ?_ (State.scrubAcre_steady _ _)
    assumption

theorem State.hbmWrite_steady (s) (z1) (z2) (z3) : EngineSteady s (State.hbmWrite s z1 z2 z3) := by
  unfold State.hbmWrite
  extract_lets x1
  have hx1 : EngineSteady s x1 := by
    unfold x1
    exact State.scrubFor_steady _ _ _
  clear_value x1
  refine EngineSteady.trans ?_ (.setHbm _)
  assumption

theorem State.snoops_steady (s) (z1) (z2) : EngineSteady s (State.snoops s z1 z2) := by
  unfold State.snoops
  refine rel_ite ?_ ?_
  · exact EngineSteady.refl _
  · extract_lets x1 x2 x3
    refine EngineSteady.trans ?_ (.bumpBy (by decide))
    exact .setcoh _

theorem storesLoop_steady (z0) (s) : EngineSteady s (storesLoop z0 s) := by
  induction z0 generalizing s with
  | zero =>
    unfold storesLoop
    exact EngineSteady.refl _
  | succ n ih =>
    unfold storesLoop
    split
    · rename_i y1 y2
      exact EngineSteady.refl _
    · rename_i y3 y4 y5 y6
      refine rel_ite ?_ ?_
      · refine EngineSteady.trans ?_ (ih _)
        refine EngineSteady.trans ?_ (State.hbmWrite_steady _ _ _ _)
        exact .setcoh _
      · exact State.snoops_steady _ _ _

theorem State.cohStores_steady (s) : EngineSteady s (State.cohStores s) := by
  unfold State.cohStores
  exact storesLoop_steady _ _

theorem State.hbmStoreAt_steady (s) (z1) (z2) (z3) : EngineSteady s (State.hbmStoreAt s z1 z2 z3) := by
  unfold State.hbmStoreAt
  refine rel_ite ?_ ?_
  · exact State.hbmWrite_steady _ _ _ _
  · refine EngineSteady.trans ?_ (State.cohStores_steady _)
    exact .setcoh _

theorem State.enqueue_steady (s) (z1) : EngineSteady s (State.enqueue s z1) := by
  unfold State.enqueue
  exact .sethost rfl

theorem State.left_steady (s) (z1) : EngineSteady s (State.left s z1) := by
  unfold State.left
  extract_lets x1 x2 x3 x4 x5
  have hx1 : EngineSteady s x1 := by
    unfold x1
    refine rel_ite ?_ ?_
    · exact .bumpBy (by decide)
    · exact EngineSteady.refl _
  clear_value x1
  have hx2 : EngineSteady s x2 := by
    unfold x2
    refine rel_ite ?_ ?_
    · refine EngineSteady.trans ?_ (.keeps (State.orCfg_keeps _ _ _) rfl)
      assumption
    · assumption
  clear_value x2
  have hx4 : EngineSteady s x4 := by
    unfold x4
    refine EngineSteady.trans ?_ (.sethost rfl)
    assumption
  clear_value x4
  split
  · rename_i y6 y7 y8
    refine EngineSteady.trans ?_ (.keeps (State.setFur_keeps _ _ _) rfl)
    assumption
  · rename_i y9 y10 y11
    split
    · rename_i y12 y13 y14
      extract_lets x15
      have hx15 : EngineSteady s x15 := by
        unfold x15
        refine EngineSteady.trans ?_ (.setfc rfl)
        assumption
      clear_value x15
      refine EngineSteady.trans ?_ (.bumpBy (by decide))
      assumption
    · rename_i y16 y17
      assumption
  · rename_i y18 y19 y20
    assumption

theorem leavePass_steady (s) (z1) (z2) (z3) (z4) : OnFst EngineSteady s (leavePass s z1 z2 z3 z4) := by
  induction z1 generalizing s z2 z3 z4 with
  | nil =>
    unfold leavePass
    refine onFst_mk ?_
    exact EngineSteady.refl _
  | cons x l ih =>
    unfold leavePass
    extract_lets x1 x2 x3 x4 x5
    clear_value x1
    clear_value x2
    have hx3 : OnFst EngineSteady s x3 := by
      unfold x3
      exact ih _ _ _ _
    clear_value x3
    have hx5 : EngineSteady s x5 := by
      unfold x5
      refine rel_ite ?_ ?_
      · exact EngineSteady.refl _
      · refine rel_ite ?_ ?_
        · exact .sethost rfl
        · exact .sethost rfl
    clear_value x5
    refine rel_ite ?_ ?_
    · refine onFst_mk ?_
      show EngineSteady s _
      assumption
    · refine EngineSteady.trans ?_ (ih _ _ _ _)
      refine EngineSteady.trans ?_ (State.left_steady _ _)
      assumption

theorem State.drain_steady (s) : EngineSteady s (State.drain s) := by
  unfold State.drain
  extract_lets x1 x2
  have hx1 : ∀ a3, EngineSteady s a3 → EngineSteady s (x1 a3) := by
    unfold x1
    intro a4 a5
    extract_lets x6 x7 x8 x9 x10 x11 x12
    have hx7 : OnFst EngineSteady s x7 := by
      unfold x7
      refine EngineSteady.trans ?_ (leavePass_steady _ _ _ _ _)
      refine EngineSteady.trans ?_ (.sethost rfl)
      assumption
    clear_value x7
    have hx8 : EngineSteady s x8 := by
      unfold x8
      show EngineSteady s _
      assumption
    have hx10 : EngineSteady s x10 := by
      unfold x10
      refine EngineSteady.trans ?_ (.sethost rfl)
      assumption
    clear_value x10
    refine EngineSteady.trans ?_ (.sethost rfl)
    assumption
  clear_value x1
  have hx2 : EngineSteady s x2 := by
    unfold x2
    refine hx1 _ ?_
    exact EngineSteady.refl _
  clear_value x2
  refine rel_ite ?_ ?_
  · refine rel_ite ?_ ?_
    · assumption
    · refine hx1 _ ?_
      assumption
  · refine hx1 _ ?_
    refine hx1 _ ?_
    assumption

theorem State.post_steady (s) (z1) : EngineSteady s (State.post s z1) := by
  unfold State.post
  refine rel_ite ?_ ?_
  · exact EngineSteady.refl _
  · extract_lets x1 x2 x3
    have hx3 : EngineSteady s x3 := by
      unfold x3
      refine rel_ite ?_ ?_
      · exact .sethost rfl
      · exact .sethost rfl
    clear_value x3
    refine EngineSteady.trans ?_ (State.drain_steady _)
    assumption

theorem State.request_steady (s) (z1) (z2) : OnSome (OnSnd EngineSteady) s (State.request s z1 z2) := by
  unfold State.request
  refine rel_ite ?_ ?_
  · exact onSome_none
  · refine rel_ite ?_ ?_
    · exact onSome_none
    · split
      · rename_i y1 y2
        exact onSome_none
      · rename_i y3 y4 y5
        extract_lets x6 x7 x8
        have hx8 : EngineSteady s x8 := by
          unfold x8
          exact .sethost rfl
        clear_value x8
        refine onSome_some ?_
        show EngineSteady s _
        refine EngineSteady.trans ?_ (State.drain_steady _)
        refine EngineSteady.trans ?_ (State.enqueue_steady _ _)
        assumption

theorem State.compareWaits_steady (s) (z1) : EngineSteady s (State.compareWaits s z1) := by
  unfold State.compareWaits
  extract_lets x1 x2 x3 x4
  clear_value x1
  have hx3 : EngineSteady s x3 := by
    unfold x3
    exact .bumpBy (by decide)
  clear_value x3
  refine rel_ite ?_ ?_
  · exact EngineSteady.refl _
  · refine State.requeue_steady ?_ ?_
    · assumption
    · refine EngineSteady.trans ?_ (.setg _)
      assumption

theorem State.putStake_steady (s) (z1) (z2) : EngineSteady s (State.putStake s z1 z2) := by
  unfold State.putStake
  extract_lets x1 x2
  have hx1 : EngineSteady s x1 := by
    unfold x1
    exact .bumpBy (by decide)
  clear_value x1
  refine EngineSteady.trans ?_ (State.compareWaits_steady _ _)
  refine EngineSteady.trans ?_ (.setg _)
  assumption

theorem State.stakeSetOp_steady (s) (z1) (z2) : EngineSteady s (State.stakeSetOp s z1 z2) := by
  unfold State.stakeSetOp
  exact State.putStake_steady _ _ _

theorem State.stakeAddOp_steady (s) (z1) (z2) (z3) : EngineSteady s (State.stakeAddOp s z1 z2 z3) := by
  unfold State.stakeAddOp
  extract_lets x1 x2 x3 x4
  have hx2 : EngineSteady s x2 := by
    unfold x2
    refine EngineSteady.trans ?_ (.bumpBy (by decide))
    exact .raise
  clear_value x2
  have hx4 : EngineSteady s x4 := by
    unfold x4
    refine rel_ite ?_ ?_
    · exact EngineSteady.refl _
    · refine rel_ite ?_ ?_
      · assumption
      · refine EngineSteady.trans ?_ (.setg _)
        assumption
  clear_value x4
  refine EngineSteady.trans ?_ (State.putStake_steady _ _ _)
  assumption

theorem State.placeWait_steady (s) (z1) (z2) (z3) (z4) : OnSome EngineSteady s (State.placeWait s z1 z2 z3 z4) := by
  unfold State.placeWait
  split
  · rename_i y1 y2
    exact onSome_none
  · rename_i y3 y4 y5
    extract_lets x6 x7 x8 x9 x10 x11
    have hx10 : EngineSteady s x10 := by
      unfold x10
      exact .setg _
    have hx11 : EngineSteady s x11 := by
      unfold x11
      refine rel_ite ?_ ?_
      · refine EngineSteady.trans ?_ (.setVal (by decide))
        assumption
      · assumption
    clear_value x11
    refine onSome_some ?_
    refine EngineSteady.trans ?_ (State.compareWaits_steady _ _)
    assumption

theorem State.withdraw_steady (s) (z1) : EngineSteady s (State.withdraw s z1) := by
  unfold State.withdraw
  extract_lets x1 x2
  refine State.requeue_steady ?_ ?_
  · exact EngineSteady.refl _
  · exact .setg _

theorem State.writeTarget_steady (s) (z1) (z2) (z3) (z4) (z5) : EngineSteady s (State.writeTarget s z1 z2 z3 z4 z5) := by
  unfold State.writeTarget
  split
  · rename_i y1 y2
    exact State.post_steady _ _
  · rename_i y3 y4
    exact State.hbmStoreAt_steady _ _ _ _
  · rename_i y5 y6 y7
    exact .setplots _

theorem State.signal_steady (s) (z1) (z2) (z3) (z4) : OnFst EngineSteady s (State.signal s z1 z2 z3 z4) := by
  unfold State.signal
  refine rel_ite ?_ ?_
  · refine onFst_mk ?_
    refine rel_ite ?_ ?_
    · exact State.stakeSetOp_steady _ _ _
    · exact State.stakeAddOp_steady _ _ _ _
  · refine onFst_mk ?_
    exact EngineSteady.refl _

theorem State.countDone_steady (s) (z1) (z2) : EngineSteady s (State.countDone s z1 z2) := by
  unfold State.countDone
  split
  · rename_i y1
    exact .bumpBy (by decide)
  · rename_i y2
    refine rel_ite ?_ ?_
    · exact .bumpBy (by decide)
    · refine EngineSteady.trans ?_ (.bumpBy (by decide))
      exact .bumpBy (by decide)
  · rename_i y3 y4 y5
    exact EngineSteady.refl _

theorem State.finish_steady (s) (z1) (z2) (z3) (z4) (z5) : EngineSteady s (State.finish s z1 z2 z3 z4 z5) := by
  unfold State.finish
  split
  · rename_i y1 y2
    exact EngineSteady.refl _
  · rename_i y3 y4 y5
    extract_lets x6 x7 x8 x9 x10 x11 x12
    clear_value x6
    clear_value x8
    clear_value x9
    clear_value x10
    have hx11 : OnFst EngineSteady s x11 := by
      unfold x11
      exact State.signal_steady _ _ _ _ _
    clear_value x11
    clear_value x12
    split
    rename_i y13 y14 y15 y16
    have h17 : EngineSteady s y14 := by
      refine onFst_ofEq ?_ y16
      refine rel_ite ?_ ?_
      · refine onFst_mk ?_
        show EngineSteady s _
        assumption
      · refine onFst_mk ?_
        exact EngineSteady.refl _
    extract_lets x18 x19 x20 x21
    have hx18 : EngineSteady s x18 := by
      unfold x18
      refine rel_ite ?_ ?_
      · split
        · rename_i y22 y23 y24
          refine EngineSteady.trans ?_ (.bumpBy (by decide))
          refine EngineSteady.trans ?_ (State.writeTarget_steady _ _ _ _ _ _)
          assumption
        · rename_i y25 y26
          assumption
      · assumption
    clear_value x18
    have hx19 : EngineSteady s x19 := by
      unfold x19
      refine rel_ite ?_ ?_
      · split
        · rename_i y27 y28 y29
          refine EngineSteady.trans ?_ (.bumpBy (by decide))
          refine EngineSteady.trans ?_ (State.writeTarget_steady _ _ _ _ _ _)
          assumption
        · rename_i y30 y31
          assumption
      · assumption
    clear_value x19
    have hx20 : EngineSteady s x20 := by
      unfold x20
      refine EngineSteady.trans ?_ (State.countDone_steady _ _ _)
      refine EngineSteady.trans ?_ (.keeps (State.dropSlot_keeps _ _ _) rfl)
      assumption
    clear_value x20
    have hx21 : EngineSteady s x21 := by
      unfold x21
      refine EngineSteady.trans ?_ (.bumpBy (by decide))
      assumption
    clear_value x21
    refine rel_ite ?_ ?_
    · assumption
    · refine rel_ite ?_ ?_
      · refine EngineSteady.trans ?_ (.keeps (State.furrowFail_keeps _ _ _ _) rfl)
        assumption
      · refine rel_ite ?_ ?_
        · assumption
        · refine EngineSteady.trans ?_ (.keeps (State.furrowFail_keeps _ _ _ _) rfl)
          assumption

theorem State.releaseOne_steady (s) (z1) : EngineSteady s (State.releaseOne s z1) := by
  unfold State.releaseOne
  extract_lets x1
  have hx1 : ∀ a2 a3, EngineSteady s (x1 a2 a3) := by
    unfold x1
    intro a4 a5
    exact .keeps (State.modSlot_keeps _ _ _ _) rfl
  clear_value x1
  split
  · rename_i y6 y7 y8 y9
    refine hx1 _ _
  · rename_i y10 y11 y12 y13
    refine rel_ite ?_ ?_
    · exact State.finish_steady _ _ _ _ _ _
    · refine hx1 _ _
  · rename_i y14 y15 y16 y17
    exact .setplots _
  · rename_i y18 y19 y20
    exact .keeps (State.setRow_keeps _ _ _) rfl

theorem releaseLoop_steady (z0) (s) : EngineSteady s (releaseLoop z0 s) := by
  induction z0 generalizing s with
  | zero =>
    unfold releaseLoop
    exact EngineSteady.refl _
  | succ n ih =>
    unfold releaseLoop
    split
    · rename_i y1 y2
      exact EngineSteady.refl _
    · rename_i y3 y4 y5 y6
      refine EngineSteady.trans ?_ (ih _)
      refine EngineSteady.trans ?_ (State.releaseOne_steady _ _)
      exact .setg _

theorem State.releaseWaits_steady (s) : EngineSteady s (State.releaseWaits s) := by
  unfold State.releaseWaits
  exact releaseLoop_steady _ _

theorem State.deny_steady (s) : EngineSteady s (State.deny s) := by
  unfold State.deny
  exact .bumpBy (by decide)

theorem State.stallFault_steady (s) (z1) : EngineSteady s (State.stallFault s z1) := by
  unfold State.stallFault
  split
  · rename_i y1 y2 y3
    extract_lets x4 x5
    have hx4 : EngineSteady s x4 := by
      unfold x4
      exact .bumpBy (by decide)
    clear_value x4
    refine EngineSteady.trans ?_ (.setflt _)
    assumption
  · rename_i y6 y7
    split
    · rename_i y8 y9
      exact .setflt _
    · rename_i y10 y11 y12
      extract_lets x13 x14 x15
      have hx14 : EngineSteady s x14 := by
        unfold x14
        exact .bumpBy (by decide)
      clear_value x14
      refine EngineSteady.trans ?_ (.setflt _)
      assumption

theorem State.fault_steady (s) (z1) (z2) (z3) (z4) (z5) (z6) (z7) : EngineSteady s (State.fault s z1 z2 z3 z4 z5 z6 z7) := by
  unfold State.fault
  refine rel_ite ?_ ?_
  · refine EngineSteady.trans ?_ (.bumpBy (by decide))
    exact .keeps (State.failStream_keeps _ _ _ _ _) rfl
  · exact State.stallFault_steady _ _

theorem State.takeSlot_steady (s) (z1) : EngineSteady s (State.takeSlot s z1) := by
  unfold State.takeSlot
  extract_lets x1 x2 x3
  clear_value x1
  have hx2 : EngineSteady s x2 := by
    unfold x2
    refine rel_ite ?_ ?_
    · exact .bumpBy (by decide)
    · exact EngineSteady.refl _
  clear_value x2
  refine EngineSteady.trans ?_ (.setplat _)
  assumption

theorem State.startWalk_steady (s) (z1) : EngineSteady s (State.startWalk s z1) := by
  unfold State.startWalk
  refine rel_ite ?_ ?_
  · exact EngineSteady.refl _
  · refine rel_ite ?_ ?_
    · exact State.takeSlot_steady _ _
    · exact .setplat _

theorem State.grantSlot_steady (s) : EngineSteady s (State.grantSlot s) := by
  unfold State.grantSlot
  extract_lets x1 x2
  clear_value x1
  split
  · rename_i y3
    exact EngineSteady.refl _
  · rename_i y4 y5
    extract_lets x6 x7
    clear_value x7
    refine EngineSteady.trans ?_ (State.takeSlot_steady _ _)
    exact .setplat _

theorem State.grantSlots_steady (s) : EngineSteady s (State.grantSlots s) := by
  unfold State.grantSlots
  refine rel_each ?_ ?_
  · exact EngineSteady.refl _
  · intro a1 a2 a3
    refine EngineSteady.trans ?_ (State.grantSlot_steady _)
    assumption

theorem State.endWalk_steady (s) (z1) : EngineSteady s (State.endWalk s z1) := by
  unfold State.endWalk
  refine EngineSteady.trans ?_ (State.grantSlots_steady _)
  exact .setplat _

theorem State.issueWalks_steady (s) : EngineSteady s (State.issueWalks s) := by
  unfold State.issueWalks
  refine rel_each ?_ ?_
  · exact EngineSteady.refl _
  · intro a1 a2 a3
    refine rel_ite ?_ ?_
    · refine rel_ite ?_ ?_
      · refine EngineSteady.trans ?_ (State.endWalk_steady _ _)
        assumption
      · refine EngineSteady.trans ?_ (State.fault_steady _ _ _ _ _ _ _ _)
        refine EngineSteady.trans ?_ (State.endWalk_steady _ _)
        assumption
    · split
      · rename_i y4 y5
        assumption
      · rename_i y6 y7 y8
        split
        · rename_i y9 y10
          assumption
        · rename_i y11 y12 y13
          have h14 : OnSnd EngineSteady s y12 := by
            refine onSome_ofEq ?_ y13
            refine rel_ite ?_ ?_
            · refine onSomeSnd_step ?_ (State.request_steady _ _ _)
              assumption
            · exact onSome_none
          extract_lets x15
          have hx15 : EngineSteady s x15 := by
            unfold x15
            refine EngineSteady.trans ?_ (.keeps (State.setWalk_keeps _ _) rfl)
            show EngineSteady s _
            assumption
          clear_value x15
          split
          · rename_i y16 y17
            refine EngineSteady.trans ?_ (.bumpBy (by decide))
            assumption
          · rename_i y18 y19
            refine EngineSteady.trans ?_ (.bumpBy (by decide))
            assumption
          · rename_i y20 y21
            refine EngineSteady.trans ?_ (.bumpBy (by decide))
            assumption
          · rename_i y22 y23
            assumption

theorem State.leaveFaults_steady (s) (z1) : EngineSteady s (State.leaveFaults s z1) := by
  unfold State.leaveFaults
  refine EngineSteady.trans ?_ (State.issueWalks_steady _)
  refine EngineSteady.trans ?_ (State.grantSlots_steady _)
  exact .same rfl rfl rfl rfl

theorem State.missHost_steady (s) (z1) (z2) (z3) (z4) : EngineSteady s (State.missHost s z1 z2 z3 z4) := by
  unfold State.missHost
  refine rel_ite ?_ ?_
  · exact EngineSteady.refl _
  · refine rel_ite ?_ ?_
    · refine EngineSteady.trans ?_ (State.issueWalks_steady _)
      exact State.startWalk_steady _ _
    · extract_lets x1 x2 x3 x4
      clear_value x3
      refine EngineSteady.trans ?_ (State.issueWalks_steady _)
      exact State.startWalk_steady _ _

theorem State.lookupParcel_steady (s) (z1) (z2) (z3) (z4) (z5) : OnFst EngineSteady s (State.lookupParcel s z1 z2 z3 z4 z5) := by
  unfold State.lookupParcel
  extract_lets x1 x2 x3
  have hx1 : EngineSteady s x1 := by
    unfold x1
    refine EngineSteady.trans ?_ (.bumpBy (by decide))
    refine rel_ite ?_ ?_
    · exact EngineSteady.refl _
    · exact .bumpBy (by decide)
  clear_value x1
  have hx3 : EngineSteady s x3 := by
    unfold x3
    refine EngineSteady.trans ?_ (.keeps (State.install_keeps _ _) rfl)
    assumption
  clear_value x3
  refine rel_ite ?_ ?_
  · refine onFst_mk ?_
    assumption
  · refine onFst_mk ?_
    refine EngineSteady.trans ?_ (State.deny_steady _)
    assumption

theorem State.lookupTable_steady (s) (z1) (z2) (z3) (z4) (z5) : OnFst EngineSteady s (State.lookupTable s z1 z2 z3 z4 z5) := by
  unfold State.lookupTable
  extract_lets x1 x2
  have hx1 : EngineSteady s x1 := by
    unfold x1
    refine EngineSteady.trans ?_ (.bumpBy (by decide))
    exact .bumpBy (by decide)
  clear_value x1
  split
  · rename_i y3
    refine rel_ite ?_ ?_
    · refine onFst_mk ?_
      refine EngineSteady.trans ?_ (State.deny_steady _)
      assumption
    · refine rel_ite ?_ ?_
      · refine onFst_mk ?_
        refine EngineSteady.trans ?_ (State.deny_steady _)
        assumption
      · refine onFst_mk ?_
        refine State.missed_steady ?_ ?_
        · exact EngineSteady.refl _
        · exact State.missHost_steady _ _ _ _ _
  · rename_i y4
    refine rel_ite ?_ ?_
    · refine rel_ite ?_ ?_
      · refine onFst_mk ?_
        assumption
      · refine onFst_mk ?_
        refine EngineSteady.trans ?_ (State.deny_steady _)
        assumption
    · refine rel_ite ?_ ?_
      · refine onFst_mk ?_
        refine EngineSteady.trans ?_ (State.deny_steady _)
        assumption
      · refine onFst_mk ?_
        refine State.missed_steady ?_ ?_
        · exact EngineSteady.refl _
        · exact State.startWalk_steady _ _

theorem State.lookup_steady (s) (z1) (z2) (z3) (z4) : OnFst EngineSteady s (State.lookup s z1 z2 z3 z4) := by
  unfold State.lookup
  refine rel_ite ?_ ?_
  · refine onFst_mk ?_
    exact EngineSteady.refl _
  · split
    · rename_i y1 y2
      refine onFst_mk ?_
      exact State.deny_steady _
    · rename_i y3 y4 y5
      refine rel_ite ?_ ?_
      · refine onFst_mk ?_
        refine EngineSteady.trans ?_ (State.deny_steady _)
        exact .bumpBy (by decide)
      · refine rel_ite ?_ ?_
        · refine onFst_mk ?_
          exact State.issueWalks_steady _
        · split
          · rename_i y6 y7 y8 y9
            exact State.lookupParcel_steady _ _ _ _ _ _
          · rename_i y10 y11
            split
            · rename_i y12 y13 y14
              refine onFst_mk ?_
              exact .bumpBy (by decide)
            · rename_i y15 y16
              refine rel_ite ?_ ?_
              · refine onFst_mk ?_
                exact State.issueWalks_steady _
              · exact State.lookupTable_steady _ _ _ _ _ _

theorem State.lookupTilth_steady (s) (z1) (z2) (z3) : OnFst EngineSteady s (State.lookupTilth s z1 z2 z3) := by
  unfold State.lookupTilth
  split
  · rename_i y1 y2
    refine onFst_mk ?_
    exact State.deny_steady _
  · rename_i y3 y4 y5
    refine rel_ite ?_ ?_
    · refine onFst_mk ?_
      exact EngineSteady.refl _
    · refine onFst_mk ?_
      exact State.deny_steady _

theorem State.resolveAt_steady (s) (z1) (z2) (z3) (z4) (z5) : OnFst EngineSteady s (State.resolveAt s z1 z2 z3 z4 z5) := by
  unfold State.resolveAt
  split
  · rename_i y1
    exact State.lookup_steady _ _ _ _ _
  · rename_i y2
    exact State.lookup_steady _ _ _ _ _
  · rename_i y3 y4 y5
    exact State.lookupTilth_steady _ _ _ _

theorem State.resolveStart_steady (s) (z1) (z2) (z3) (z4) : OnFst EngineSteady s (State.resolveStart s z1 z2 z3 z4) := by
  unfold State.resolveStart
  split
  · rename_i y1
    exact State.resolveAt_steady _ _ _ _ _ _
  · rename_i y2
    exact State.resolveAt_steady _ _ _ _ _ _
  · rename_i y3
    exact State.resolveAt_steady _ _ _ _ _ _
  · rename_i y4
    split
    · rename_i y5 y6 y7
      refine rel_ite ?_ ?_
      · refine onFst_mk ?_
        exact EngineSteady.refl _
      · refine onFst_mk ?_
        exact State.deny_steady _
    · rename_i y8 y9
      refine onFst_mk ?_
      exact State.deny_steady _
  · rename_i y10
    split
    · rename_i y11 y12 y13
      refine rel_ite ?_ ?_
      · refine onFst_mk ?_
        exact EngineSteady.refl _
      · refine onFst_mk ?_
        exact State.deny_steady _
    · rename_i y14 y15
      refine onFst_mk ?_
      exact State.deny_steady _
  · rename_i y16 y17 y18 y19 y20 y21
    refine onFst_mk ?_
    exact EngineSteady.refl _

theorem aheadLoop_steady (z0) (s) (z2) (z3) (z4) (z5) (z6) (z7) : OnFst EngineSteady s (aheadLoop z0 s z2 z3 z4 z5 z6 z7) := by
  induction z0 generalizing s z2 z3 z4 z5 z6 z7 with
  | zero =>
    unfold aheadLoop
    refine onFst_mk ?_
    exact EngineSteady.refl _
  | succ n ih =>
    unfold aheadLoop
    refine rel_ite ?_ ?_
    · refine onFst_mk ?_
      exact EngineSteady.refl _
    · split
      · rename_i y1 y2 y3
        exact ih _ _ _ _ _ _ _
      · rename_i y4 y5
        extract_lets x6 x7 x8 x9
        clear_value x6
        clear_value x7
        have hx8 : OnFst EngineSteady s x8 := by
          unfold x8
          exact State.resolveAt_steady _ _ _ _ _ _
        clear_value x8
        clear_value x9
        refine rel_ite ?_ ?_
        · exact ih _ _ _ _ _ _ _
        · split
          · rename_i y10 y11 y12 y13
            extract_lets x14
            clear_value x14
            refine EngineSteady.trans ?_ (ih _ _ _ _ _ _ _)
            show EngineSteady s _
            assumption
          · rename_i y15 y16
            refine EngineSteady.trans ?_ (ih _ _ _ _ _ _ _)
            refine EngineSteady.trans ?_ (.keeps (State.failStream_keeps _ _ _ _ _) rfl)
            show EngineSteady s _
            assumption
          · rename_i y17 y18
            refine rel_ite ?_ ?_
            · refine onFst_mk ?_
              show EngineSteady s _
              assumption
            · refine EngineSteady.trans ?_ (ih _ _ _ _ _ _ _)
              show EngineSteady s _
              assumption

theorem State.sowRanges_steady (s) (z1) (z2) (z3) : OnFst EngineSteady s (State.sowRanges s z1 z2 z3) := by
  unfold State.sowRanges
  refine rel_foldl ?_ ?_
  · refine onFst_mk ?_
    exact EngineSteady.refl _
  · intro a1 a2 a3
    refine rel_ite ?_ ?_
    · assumption
    · extract_lets x4 x5
      have hx5 : OnFst EngineSteady s x5 := by
        unfold x5
        refine EngineSteady.trans ?_ (State.resolveStart_steady _ _ _ _ _)
        show EngineSteady s _
        assumption
      clear_value x5
      split
      · rename_i y6 y7 y8 y9
        refine rel_ite ?_ ?_
        · refine onFst_mk ?_
          show EngineSteady s _
          assumption
        · extract_lets x10
          refine onFst_mk ?_
          refine EngineSteady.trans ?_ (.keeps (State.modSlot_keeps _ _ _ _) rfl)
          show EngineSteady s _
          assumption
      · rename_i y11 y12
        refine onFst_mk ?_
        refine EngineSteady.trans ?_ (.keeps (State.sowFail_keeps _ _ _ _ _) rfl)
        show EngineSteady s _
        assumption
      · rename_i y13 y14
        refine onFst_mk ?_
        show EngineSteady s _
        assumption

theorem State.slotAhead_steady (s) (z1) (z2) : EngineSteady s (State.slotAhead s z1 z2) := by
  unfold State.slotAhead
  split
  · rename_i y1 y2
    exact EngineSteady.refl _
  · rename_i y3 y4 y5
    refine rel_ite ?_ ?_
    · exact EngineSteady.refl _
    · refine rel_each ?_ ?_
      · exact EngineSteady.refl _
      · intro a6 a7 a8
        extract_lets x9 x10 x11
        clear_value x9
        have hx11 : OnFst EngineSteady s x11 := by
          unfold x11
          refine EngineSteady.trans ?_ (aheadLoop_steady _ _ _ _ _ _ _ _)
          assumption
        clear_value x11
        refine EngineSteady.trans ?_ (.keeps (State.modSlot_keeps _ _ _ _) rfl)
        show EngineSteady s _
        assumption

theorem State.sowTail_steady (s) (z1) (z2) : OnFst EngineSteady s (State.sowTail s z1 z2) := by
  unfold State.sowTail
  split
  · rename_i y1 y2
    refine onFst_mk ?_
    exact EngineSteady.refl _
  · rename_i y3 y4 y5
    extract_lets x6 x7
    clear_value x6
    have hx7 : OnFst EngineSteady s x7 := by
      unfold x7
      exact State.lookup_steady _ _ _ _ _
    clear_value x7
    split
    rename_i y8 y9 y10 y11
    have h12 : EngineSteady s y9 := by
      refine onFst_ofEq ?_ y11
      refine rel_ite ?_ ?_
      · refine rel_ite ?_ ?_
        · refine onFst_mk ?_
          exact .keeps (State.modSlot_keeps _ _ _ _) rfl
        · split
          · rename_i y13 y14 y15 y16
            refine onFst_mk ?_
            refine EngineSteady.trans ?_ (.keeps (State.modSlot_keeps _ _ _ _) rfl)
            show EngineSteady s _
            assumption
          · rename_i y17 y18
            refine onFst_mk ?_
            refine EngineSteady.trans ?_ (.keeps (State.sowFail_keeps _ _ _ _ _) rfl)
            refine EngineSteady.trans ?_ (.keeps (State.modSlot_keeps _ _ _ _) rfl)
            show EngineSteady s _
            assumption
          · rename_i y19 y20
            refine onFst_mk ?_
            show EngineSteady s _
            assumption
      · refine onFst_mk ?_
        exact EngineSteady.refl _
    refine rel_ite ?_ ?_
    · extract_lets x21 x22
      clear_value x21
      have hx22 : OnFst EngineSteady s x22 := by
        unfold x22
        refine EngineSteady.trans ?_ (State.lookup_steady _ _ _ _ _)
        assumption
      clear_value x22
      split
      · rename_i y23 y24 y25 y26
        refine onFst_mk ?_
        refine EngineSteady.trans ?_ (.keeps (State.modSlot_keeps _ _ _ _) rfl)
        show EngineSteady s _
        assumption
      · rename_i y27 y28
        refine onFst_mk ?_
        refine EngineSteady.trans ?_ (.keeps (State.sowFail_keeps _ _ _ _ _) rfl)
        refine EngineSteady.trans ?_ (.keeps (State.modSlot_keeps _ _ _ _) rfl)
        show EngineSteady s _
        assumption
      · rename_i y29 y30
        refine onFst_mk ?_
        show EngineSteady s _
        assumption
    · refine onFst_mk ?_
      assumption

theorem State.sowTry_steady (s) (z1) (z2) : EngineSteady s (State.sowTry s z1 z2) := by
  unfold State.sowTry
  split
  · rename_i y1 y2
    exact EngineSteady.refl _
  · rename_i y3 y4 y5
    refine rel_ite ?_ ?_
    · exact EngineSteady.refl _
    · refine rel_ite ?_ ?_
      · exact State.slotAhead_steady _ _ _
      · extract_lets x6 x7
        clear_value x7
        split
        rename_i y8 y9 y10 y11
        have h12 : EngineSteady s y9 := by
          refine onFst_ofEq ?_ y11
          refine rel_ite ?_ ?_
          · refine onFst_mk ?_
            exact EngineSteady.refl _
          · exact State.sowRanges_steady _ _ _ _
        extract_lets x13 x14
        have hx13 : EngineSteady s x13 := by
          unfold x13
          refine rel_ite ?_ ?_
          · refine EngineSteady.trans ?_ (.keeps (State.sowFail_keeps _ _ _ _ _) rfl)
            assumption
          · assumption
        clear_value x13
        clear_value x14
        split
        rename_i y15 y16 y17 y18
        have h19 : EngineSteady s y16 := by
          refine onFst_ofEq ?_ y18
          refine EngineSteady.trans ?_ (State.sowTail_steady _ _ _)
          assumption
        refine rel_ite ?_ ?_
        · assumption
        · refine rel_ite ?_ ?_
          · assumption
          · refine EngineSteady.trans ?_ (State.slotAhead_steady _ _ _)
            refine EngineSteady.trans ?_ (.keeps (State.modSlot_keeps _ _ _ _) rfl)
            assumption

theorem State.sowAhead_steady (s) (z1) : EngineSteady s (State.sowAhead s z1) := by
  unfold State.sowAhead
  refine rel_each ?_ ?_
  · exact EngineSteady.refl _
  · intro a1 a2 a3
    refine EngineSteady.trans ?_ (State.sowTry_steady _ _ _)
    assumption

theorem State.cancelTry_steady (s) (z1) (z2) : EngineSteady s (State.cancelTry s z1 z2) := by
  unfold State.cancelTry
  extract_lets x1
  have hx1 : EngineSteady s x1 := by
    unfold x1
    exact State.sowTry_steady _ _ _
  clear_value x1
  split
  · rename_i y2 y3 y4
    split
    · rename_i y5 y6 y7
      assumption
    · rename_i y8 y9 y10
      assumption
    · rename_i y11 y12 y13 y14 y15 y16
      refine EngineSteady.trans ?_ (State.finish_steady _ _ _ _ _ _)
      assumption
    · rename_i y17 y18 y19 y20 y21
      assumption
  · rename_i y22 y23
    assumption

theorem State.pushSlot_steady (s) (z1) (z2) (z3) (z4) : EngineSteady s (State.pushSlot s z1 z2 z3 z4) := by
  unfold State.pushSlot
  extract_lets x1 x2 x3 x4 x5 x6 x7
  have hx3 : EngineSteady s x3 := by
    unfold x3
    exact .keeps (State.setFur_keeps _ _ _) rfl
  have hx5 : EngineSteady s x5 := by
    unfold x5
    refine EngineSteady.trans ?_ (.setg _)
    assumption
  have hx6 : EngineSteady s x6 := by
    unfold x6
    refine rel_ite ?_ ?_
    · refine EngineSteady.trans ?_ (.bumpBy (by decide))
      assumption
    · assumption
  have hx7 : EngineSteady s x7 := by
    unfold x7
    refine rel_ite ?_ ?_
    · refine EngineSteady.trans ?_ (.setVal (by decide))
      assumption
    · assumption
  clear_value x7
  refine rel_ite ?_ ?_
  · refine EngineSteady.trans ?_ (.bumpBy (by decide))
    assumption
  · assumption

theorem State.accept_steady (s) (z1) (z2) (z3) : EngineSteady s (State.accept s z1 z2 z3) := by
  unfold State.accept
  extract_lets x1 x2
  clear_value x1
  have hx2 : EngineSteady s x2 := by
    unfold x2
    refine rel_ite ?_ ?_
    · exact State.deny_steady _
    · exact EngineSteady.refl _
  clear_value x2
  refine EngineSteady.trans ?_ (State.sowAhead_steady _ _)
  refine EngineSteady.trans ?_ (State.pushSlot_steady _ _ _ _ _)
  assumption

theorem State.takeEntry_steady (s) (z1) (z2) : EngineSteady s (State.takeEntry s z1 z2) := by
  unfold State.takeEntry
  extract_lets x1 x2 x3
  have hx3 : EngineSteady s x3 := by
    unfold x3
    exact .keeps (State.setFur_keeps _ _ _) rfl
  clear_value x3
  refine EngineSteady.trans ?_ (State.accept_steady _ _ _ _)
  refine EngineSteady.trans ?_ (.bumpBy (by decide))
  assumption

theorem State.takeNext_steady (s) (z1) : OnSome EngineSteady s (State.takeNext s z1) := by
  unfold State.takeNext
  extract_lets x1 x2
  have hx2 : OnSome EngineSteady s x2 := by
    unfold x2
    refine onSome_map ?_
    intro a3
    exact State.takeEntry_steady _ _ _
  clear_value x2
  refine rel_ite ?_ ?_
  · exact onSome_none
  · split
    · rename_i y4 y5
      exact onSome_none
    · rename_i y6 y7
      refine onSome_map ?_
      intro a8
      refine EngineSteady.trans ?_ (State.cancelTry_steady _ _ _)
      refine EngineSteady.trans ?_ (State.pushSlot_steady _ _ _ _ _)
      exact .keeps (State.unstage_keeps _ _) rfl
    · rename_i y9 y10 y11
      split
      · rename_i y12 y13 y14 y15
        refine rel_ite ?_ ?_
        · refine onSome_some ?_
          refine EngineSteady.trans ?_ (State.accept_steady _ _ _ _)
          exact .keeps (State.unstage_keeps _ _) rfl
        · assumption
      · rename_i y16 y17
        assumption

theorem takeLoop_steady (z0) (s) (z2) : EngineSteady s (takeLoop z0 s z2) := by
  induction z0 generalizing s z2 with
  | zero =>
    unfold takeLoop
    exact EngineSteady.refl _
  | succ n ih =>
    unfold takeLoop
    split
    · rename_i y1 y2 y3
      have h4 : EngineSteady s y2 := by
        refine onSome_ofEq ?_ y3
        exact State.takeNext_steady _ _
      refine EngineSteady.trans ?_ (ih _ _)
      assumption
    · rename_i y5 y6
      exact EngineSteady.refl _

theorem State.acceptAll_steady (s) (z1) : EngineSteady s (State.acceptAll s z1) := by
  unfold State.acceptAll
  exact takeLoop_steady _ _ _

theorem State.settleStakes_steady (s) : EngineSteady s (State.settleStakes s) := by
  unfold State.settleStakes
  extract_lets x1
  have hx1 : EngineSteady s x1 := by
    unfold x1
    exact State.releaseWaits_steady _
  clear_value x1
  refine rel_each ?_ ?_
  · assumption
  · intro a2 a3 a4
    refine EngineSteady.trans ?_ (State.acceptAll_steady _ _)
    assumption

theorem State.feedReport_steady (s) (z1) (z2) (z3) : EngineSteady s (State.feedReport s z1 z2 z3) := by
  unfold State.feedReport
  extract_lets x1
  split
  · rename_i y2 y3
    exact EngineSteady.refl _
  · rename_i y4 y5 y6 y7 y8 y9
    extract_lets x10
    have hx10 : EngineSteady s x10 := by
      unfold x10
      exact .keeps (State.setFeed_keeps _ _ _ _) rfl
    clear_value x10
    refine EngineSteady.trans ?_ (.bumpBy (by decide))
    refine EngineSteady.trans ?_ (.setplots _)
    assumption

theorem State.unbindFeed_steady (s) (z1) (z2) : EngineSteady s (State.unbindFeed s z1 z2) := by
  unfold State.unbindFeed
  refine rel_ite ?_ ?_
  · exact EngineSteady.refl _
  · extract_lets x1 x2 x3
    have hx2 : EngineSteady s x2 := by
      unfold x2
      split
      · rename_i y4 y5 y6 y7 y8
        exact State.feedReport_steady _ _ _ _
      · rename_i y9 y10
        exact EngineSteady.refl _
    clear_value x2
    refine rel_ite ?_ ?_
    · exact EngineSteady.refl _
    · refine EngineSteady.trans ?_ (.keeps (State.setFeed_keeps _ _ _ _) rfl)
      assumption

theorem State.dropReads_steady (s) (z1) (z2) : EngineSteady s (State.dropReads s z1 z2) := by
  unfold State.dropReads
  exact ⟨fun r => ⟨r, fun _ _ => rfl⟩, rfl, rfl, [], by rw [List.append_nil]⟩

theorem State.popXfer_steady (s) (z1) (z2) : EngineSteady s (State.popXfer s z1 z2) := by
  unfold State.popXfer
  extract_lets x1 x2
  have hx1 : EngineSteady s x1 := by
    unfold x1
    refine EngineSteady.trans ?_ (State.leaveFaults_steady _ _)
    refine EngineSteady.trans ?_ (State.dropReads_steady _ _ _)
    exact State.unbindFeed_steady _ _ _
  clear_value x1
  refine EngineSteady.trans ?_ (.keeps (State.setRow_keeps _ _ _) rfl)
  assumption

theorem State.rowError_steady (s) (z1) (z2) (z3) : EngineSteady s (State.rowError s z1 z2 z3) := by
  unfold State.rowError
  extract_lets x1 x2 x3
  have hx1 : EngineSteady s x1 := by
    unfold x1
    refine rel_each ?_ ?_
    · exact EngineSteady.refl _
    · intro a4 a5 a6
      refine EngineSteady.trans ?_ (State.popXfer_steady _ _ _)
      assumption
  clear_value x1
  have hx2 : EngineSteady s x2 := by
    unfold x2
    refine EngineSteady.trans ?_ (State.withdraw_steady _ _)
    assumption
  clear_value x2
  refine EngineSteady.trans ?_ (.keeps (State.attn_keeps _ _) rfl)
  refine EngineSteady.trans ?_ (.keeps (State.setRow_keeps _ _ _) rfl)
  assumption

theorem State.rowStamp_steady (s) (z1) (z2) : OnFst EngineSteady s (State.rowStamp s z1 z2) := by
  unfold State.rowStamp
  refine rel_ite ?_ ?_
  · refine onFst_mk ?_
    exact EngineSteady.refl _
  · extract_lets x1
    have hx1 : OnFst EngineSteady s x1 := by
      unfold x1
      exact State.lookup_steady _ _ _ _ _
    clear_value x1
    split
    · rename_i y2 y3 y4 y5
      refine onFst_mk ?_
      refine EngineSteady.trans ?_ (.keeps (State.modXfer_keeps _ _ _ _) rfl)
      show EngineSteady s _
      assumption
    · rename_i y6 y7
      refine onFst_mk ?_
      refine EngineSteady.trans ?_ (.keeps (State.failStream_keeps _ _ _ _ _) rfl)
      show EngineSteady s _
      assumption
    · rename_i y8 y9
      refine onFst_mk ?_
      show EngineSteady s _
      assumption

theorem State.rowHalf_steady (s) (z1) (z2) : EngineSteady s (State.rowHalf s z1 z2) := by
  unfold State.rowHalf
  refine rel_ite ?_ ?_
  · exact EngineSteady.refl _
  · extract_lets x1 x2 x3
    have hx1 : EngineSteady s x1 := by
      unfold x1
      exact .keeps (State.modXfer_keeps _ _ _ _) rfl
    clear_value x1
    have hx2 : OnFst EngineSteady s x2 := by
      unfold x2
      refine EngineSteady.trans ?_ (State.signal_steady _ _ _ _ _)
      assumption
    clear_value x2
    have hx3 : EngineSteady s x3 := by
      unfold x3
      refine rel_ite ?_ ?_
      · refine rel_ite ?_ ?_
        · refine EngineSteady.trans ?_ (State.settleStakes_steady _)
          show EngineSteady s _
          assumption
        · refine EngineSteady.trans ?_ (.keeps (State.modXfer_keeps _ _ _ _) rfl)
          show EngineSteady s _
          assumption
      · assumption
    clear_value x3
    refine rel_ite ?_ ?_
    · split
      · rename_i y4 y5 y6
        refine EngineSteady.trans ?_ (.bumpBy (by decide))
        refine EngineSteady.trans ?_ (State.writeTarget_steady _ _ _ _ _ _)
        assumption
      · rename_i y7 y8
        assumption
    · assumption

theorem State.rowHalves_steady (s) (z1) : EngineSteady s (State.rowHalves s z1) := by
  unfold State.rowHalves
  split
  · rename_i y1 y2 y3 y4
    refine rel_ite ?_ ?_
    · extract_lets x5
      have hx5 : OnFst EngineSteady s x5 := by
        unfold x5
        exact State.rowStamp_steady _ _ _
      clear_value x5
      refine rel_ite ?_ ?_
      · refine EngineSteady.trans ?_ (State.rowHalf_steady _ _ _)
        show EngineSteady s _
        assumption
      · show EngineSteady s _
        assumption
    · exact EngineSteady.refl _
  · rename_i y6 y7
    exact EngineSteady.refl _

theorem State.completeOwned_steady (s) (z1) (z2) (z3) : EngineSteady s (State.completeOwned s z1 z2 z3) := by
  unfold State.completeOwned
  extract_lets x1 x2 x3 x4 x5 x6 x7 x8 x9 x10 x11 x12
  have hx1 : EngineSteady s x1 := by
    unfold x1
    refine rel_ite ?_ ?_
    · exact State.rowHalf_steady _ _ _
    · exact EngineSteady.refl _
  clear_value x1
  clear_value x3
  have hx4 : OnFst EngineSteady s x4 := by
    unfold x4
    refine rel_ite ?_ ?_
    · refine EngineSteady.trans ?_ (State.signal_steady _ _ _ _ _)
      assumption
    · refine onFst_mk ?_
      assumption
  clear_value x4
  clear_value x5
  have hx6 : EngineSteady s x6 := by
    unfold x6
    show EngineSteady s _
    assumption
  have hx7 : EngineSteady s x7 := by
    unfold x7
    refine rel_ite ?_ ?_
    · split
      · rename_i y13 y14 y15
        refine EngineSteady.trans ?_ (.bumpBy (by decide))
        refine EngineSteady.trans ?_ (State.writeTarget_steady _ _ _ _ _ _)
        assumption
      · rename_i y16 y17
        assumption
    · assumption
  clear_value x7
  have hx8 : EngineSteady s x8 := by
    unfold x8
    refine EngineSteady.trans ?_ (State.popXfer_steady _ _ _)
    assumption
  clear_value x8
  have hx10 : EngineSteady s x10 := by
    unfold x10
    split
    · rename_i y18 y19 y20
      refine EngineSteady.trans ?_ (.bumpBy (by decide))
      assumption
    · rename_i y21 y22
      refine EngineSteady.trans ?_ (.keeps (State.setRow_keeps _ _ _) rfl)
      assumption
    · rename_i y23 y24 y25 y26
      assumption
  clear_value x10
  have hx12 : EngineSteady s x12 := by
    unfold x12
    refine rel_ite ?_ ?_
    · refine EngineSteady.trans ?_ (.keeps (State.rowIdle_keeps _ _) rfl)
      refine EngineSteady.trans ?_ (.keeps (State.setRow_keeps _ _ _) rfl)
      assumption
    · refine EngineSteady.trans ?_ (State.rowError_steady _ _ _ _)
      assumption
  clear_value x12
  refine EngineSteady.trans ?_ (State.settleStakes_steady _)
  assumption

theorem State.leaveOwned_steady (s) (z1) (z2) (z3) : OnFst EngineSteady s (State.leaveOwned s z1 z2 z3) := by
  unfold State.leaveOwned
  extract_lets x1 x2
  have hx1 : OnFst EngineSteady s x1 := by
    unfold x1
    exact State.rowStamp_steady _ _ _
  clear_value x1
  refine rel_ite ?_ ?_
  · refine onFst_mk ?_
    refine EngineSteady.trans ?_ (State.completeOwned_steady _ _ _ _)
    show EngineSteady s _
    assumption
  · refine onFst_mk ?_
    show EngineSteady s _
    assumption

theorem State.chainWait_steady (s) (z1) (z2) : EngineSteady s (State.chainWait s z1 z2) := by
  unfold State.chainWait
  refine rel_ite ?_ ?_
  · exact EngineSteady.refl _
  · refine rel_ite ?_ ?_
    · exact .keeps (State.modXfer_keeps _ _ _ _) rfl
    · split
      · rename_i y1 y2 y3
        have h4 : EngineSteady s y2 := by
          refine onSome_ofEq ?_ y3
          refine onSome_step ?_ (State.placeWait_steady _ _ _ _ _)
          exact .keeps (State.modXfer_keeps _ _ _ _) rfl
        refine EngineSteady.trans ?_ (State.settleStakes_steady _)
        assumption
      · rename_i y5 y6
        refine rel_ite ?_ ?_
        · exact EngineSteady.refl _
        · refine EngineSteady.trans ?_ (.bumpBy (by decide))
          exact .keeps (State.modXfer_keeps _ _ _ _) rfl

theorem State.beginSide_steady (s) (z1) (z2) (z3) : OnFst EngineSteady s (State.beginSide s z1 z2 z3) := by
  unfold State.beginSide
  split
  · rename_i y1 y2
    refine onFst_mk ?_
    exact EngineSteady.refl _
  · rename_i y3 y4 y5
    extract_lets x6 x7
    have hx7 : OnFst EngineSteady s x7 := by
      unfold x7
      exact State.resolveStart_steady _ _ _ _ _
    clear_value x7
    refine rel_ite ?_ ?_
    · refine onFst_mk ?_
      exact EngineSteady.refl _
    · split
      · rename_i y8 y9 y10 y11
        refine onFst_mk ?_
        refine EngineSteady.trans ?_ (.keeps (State.modXfer_keeps _ _ _ _) rfl)
        show EngineSteady s _
        assumption
      · rename_i y12 y13
        refine onFst_mk ?_
        refine EngineSteady.trans ?_ (.keeps (State.modXfer_keeps _ _ _ _) rfl)
        show EngineSteady s _
        assumption
      · rename_i y14 y15
        refine onFst_mk ?_
        show EngineSteady s _
        assumption

theorem State.beginLookups_steady (s) (z1) (z2) : OnFst EngineSteady s (State.beginLookups s z1 z2) := by
  unfold State.beginLookups
  extract_lets x1 x2 x3
  have hx1 : OnFst EngineSteady s x1 := by
    unfold x1
    exact State.beginSide_steady _ _ _ _
  clear_value x1
  have hx2 : OnFst EngineSteady s x2 := by
    unfold x2
    refine EngineSteady.trans ?_ (State.beginSide_steady _ _ _ _)
    show EngineSteady s _
    assumption
  clear_value x2
  have hx3 : OnFst EngineSteady s x3 := by
    unfold x3
    refine EngineSteady.trans ?_ (State.rowStamp_steady _ _ _)
    show EngineSteady s _
    assumption
  clear_value x3
  refine onFst_mk ?_
  show EngineSteady s _
  assumption

theorem State.rowAhead_steady (s) (z1) : EngineSteady s (State.rowAhead s z1) := by
  unfold State.rowAhead
  refine rel_each ?_ ?_
  · exact EngineSteady.refl _
  · intro a1 a2 a3
    show EngineSteady s _
    refine EngineSteady.trans ?_ (State.beginLookups_steady _ _ _)
    assumption

theorem State.beginFront_steady (s) (z1) : EngineSteady s (State.beginFront s z1) := by
  unfold State.beginFront
  split
  · rename_i y1 y2
    exact EngineSteady.refl _
  · rename_i y3 y4 y5 y6
    refine rel_ite ?_ ?_
    · exact EngineSteady.refl _
    · extract_lets x7 x8 x9
      clear_value x7
      have hx8 : OnFst EngineSteady s x8 := by
        unfold x8
        exact State.beginLookups_steady _ _ _
      clear_value x8
      have hx9 : EngineSteady s x9 := by
        unfold x9
        refine EngineSteady.trans ?_ (State.chainWait_steady _ _ _)
        show EngineSteady s _
        assumption
      clear_value x9
      refine rel_ite ?_ ?_
      · exact .keeps (State.modXfer_keeps _ _ _ _) rfl
      · refine rel_ite ?_ ?_
        · show EngineSteady s _
          assumption
        · split
          · rename_i y10 y11 y12
            refine rel_ite ?_ ?_
            · refine EngineSteady.trans ?_ (.keeps (State.modXfer_keeps _ _ _ _) rfl)
              assumption
            · assumption
          · rename_i y13 y14
            assumption

theorem State.chainRead_steady (s) (z1) : EngineSteady s (State.chainRead s z1) := by
  unfold State.chainRead
  extract_lets x1
  split
  · rename_i y2 y3
    exact EngineSteady.refl _
  · rename_i y4 y5 y6
    refine rel_ite ?_ ?_
    · exact EngineSteady.refl _
    · extract_lets x7
      clear_value x7
      split
      · rename_i y8 y9
        exact EngineSteady.refl _
      · rename_i y10 y11 y12
        have h13 : OnSnd EngineSteady s y11 := by
          refine onSome_ofEq ?_ y12
          refine rel_ite ?_ ?_
          · exact State.request_steady _ _ _
          · exact onSome_none
        refine EngineSteady.trans ?_ (.keeps (State.setRow_keeps _ _ _) rfl)
        show EngineSteady s _
        assumption

theorem settleRow_steady (z0) (s) (z2) : EngineSteady s (settleRow z0 s z2) := by
  induction z0 generalizing s z2 with
  | zero =>
    unfold settleRow
    exact EngineSteady.refl _
  | succ n ih =>
    unfold settleRow
    extract_lets x1
    refine rel_ite ?_ ?_
    · exact EngineSteady.refl _
    · split
      · rename_i y2 y3
        refine EngineSteady.trans ?_ (State.chainRead_steady _ _)
        exact .keeps (State.chainEnd_keeps _ _) rfl
      · rename_i y4 y5 y6 y7
        split
        · rename_i y8 y9 y10
          extract_lets x11
          have hx11 : OnFst EngineSteady s x11 := by
            unfold x11
            exact State.leaveOwned_steady _ _ _ _
          clear_value x11
          refine rel_ite ?_ ?_
          · refine EngineSteady.trans ?_ (ih _ _)
            show EngineSteady s _
            assumption
          · show EngineSteady s _
            assumption
        · rename_i y12 y13
          extract_lets x14 x15
          have hx14 : EngineSteady s x14 := by
            unfold x14
            split
            · rename_i y16 y17 y18
              exact .keeps (State.setRow_keeps _ _ _) rfl
            · rename_i y19 y20
              exact EngineSteady.refl _
          clear_value x14
          have hx15 : EngineSteady s x15 := by
            unfold x15
            refine EngineSteady.trans ?_ (State.rowAhead_steady _ _)
            refine EngineSteady.trans ?_ (State.beginFront_steady _ _)
            assumption
          clear_value x15
          split
          · rename_i y21 y22 y23 y24
            refine rel_ite ?_ ?_
            · refine EngineSteady.trans ?_ (ih _ _)
              assumption
            · refine EngineSteady.trans ?_ (State.chainRead_steady _ _)
              assumption
          · rename_i y25 y26
            assumption

theorem State.settle_steady (s) (z1) : EngineSteady s (State.settle s z1) := by
  unfold State.settle
  exact settleRow_steady _ _ _

theorem State.stopDrained_steady (s) (z1) : EngineSteady s (State.stopDrained s z1) := by
  unfold State.stopDrained
  extract_lets x1
  refine rel_ite ?_ ?_
  · exact EngineSteady.refl _
  · split
    · rename_i y2 y3 y4 y5
      show EngineSteady s _
      exact State.leaveOwned_steady _ _ _ _
    · rename_i y6 y7
      exact State.rowError_steady _ _ _ _

theorem State.withdrawNewest_steady (s) (z1) (z2) : EngineSteady s (State.withdrawNewest s z1 z2) := by
  unfold State.withdrawNewest
  extract_lets x1 x2 x3 x4
  have hx2 : EngineSteady s x2 := by
    unfold x2
    exact .keeps (State.setFeed_keeps _ _ _ _) rfl
  clear_value x2
  have hx3 : EngineSteady s x3 := by
    unfold x3
    refine rel_ite ?_ ?_
    · refine EngineSteady.trans ?_ (.setplots _)
      assumption
    · assumption
  clear_value x3
  clear_value x4
  split
  · rename_i y5 y6
    exact EngineSteady.refl _
  · rename_i y7 y8 y9 y10 y11
    refine rel_ite ?_ ?_
    · assumption
    · split
      · rename_i y12 y13
        assumption
      · rename_i y14 y15 y16 y17
        extract_lets x18 x19
        have hx18 : EngineSteady s x18 := by
          unfold x18
          refine rel_ite ?_ ?_
          · refine EngineSteady.trans ?_ (.bumpBy (by decide))
            assumption
          · assumption
        clear_value x18
        refine EngineSteady.trans ?_ (.keeps (State.setRow_keeps _ _ _) rfl)
        assumption

theorem State.withdrawFeeds_steady (s) (z1) : EngineSteady s (State.withdrawFeeds s z1) := by
  unfold State.withdrawFeeds
  refine rel_each ?_ ?_
  · exact EngineSteady.refl _
  · intro a1 a2 a3
    refine rel_each ?_ ?_
    · assumption
    · intro a4 a5 a6
      refine EngineSteady.trans ?_ (State.withdrawNewest_steady _ _ _)
      assumption

theorem State.leavePlot_steady (s) (z1) : EngineSteady s (State.leavePlot s z1) := by
  unfold State.leavePlot
  extract_lets x1 x2 x3 x4 x5
  have hx1 : EngineSteady s x1 := by
    unfold x1
    exact State.withdraw_steady _ _
  clear_value x1
  have hx2 : EngineSteady s x2 := by
    unfold x2
    refine EngineSteady.trans ?_ (State.withdrawFeeds_steady _ _)
    assumption
  clear_value x2
  have hx4 : EngineSteady s x4 := by
    unfold x4
    refine EngineSteady.trans ?_ (.setfab _)
    assumption
  clear_value x4
  have hx5 : EngineSteady s x5 := by
    unfold x5
    refine EngineSteady.trans ?_ (State.leaveFaults_steady _ _)
    assumption
  clear_value x5
  refine EngineSteady.trans ?_ (.setplots _)
  assumption

theorem State.endPlot_steady (s) (z1) (z2) (z3) : EngineSteady s (State.endPlot s z1 z2 z3) := by
  unfold State.endPlot
  extract_lets x1 x2 x3
  have hx2 : EngineSteady s x2 := by
    unfold x2
    exact .keeps (State.modSlot_keeps _ _ _ _) rfl
  clear_value x2
  have hx3 : EngineSteady s x3 := by
    unfold x3
    refine EngineSteady.trans ?_ (.setplots _)
    assumption
  clear_value x3
  refine EngineSteady.trans ?_ (State.leavePlot_steady _ _)
  assumption

theorem State.haltProgram_steady (s) (z1) (z2) (z3) (z4) : EngineSteady s (State.haltProgram s z1 z2 z3 z4) := by
  unfold State.haltProgram
  refine rel_each ?_ ?_
  · exact EngineSteady.refl _
  · intro a1 a2 a3
    refine EngineSteady.trans ?_ (State.endPlot_steady _ _ _ _)
    assumption

theorem State.dropRing_steady (s) (z1) : EngineSteady s (State.dropRing s z1) := by
  unfold State.dropRing
  extract_lets x1 x2 x3 x4 x5
  clear_value x1
  have hx4 : EngineSteady s x4 := by
    unfold x4
    exact .sethost rfl
  clear_value x4
  refine EngineSteady.trans ?_ (.keeps (State.setFur_keeps _ _ _) rfl)
  assumption

theorem State.cancelSlot_steady (s) (z1) (z2) : EngineSteady s (State.cancelSlot s z1 z2) := by
  unfold State.cancelSlot
  refine rel_ite ?_ ?_
  · split
    · rename_i y1 y2
      refine rel_each ?_ ?_
      · exact EngineSteady.refl _
      · intro a3 a4 a5
        refine EngineSteady.trans ?_ (.keeps (State.stopPool_keeps _ _) rfl)
        refine EngineSteady.trans ?_ (.keeps (State.setRow_keeps _ _ _) rfl)
        assumption
    · rename_i y6 y7
      exact State.haltProgram_steady _ _ _ _ _
    · rename_i y8 y9 y10
      exact EngineSteady.refl _
  · extract_lets x11 x12 x13
    have hx11 : EngineSteady s x11 := by
      unfold x11
      exact State.withdraw_steady _ _
    clear_value x11
    have hx12 : EngineSteady s x12 := by
      unfold x12
      refine EngineSteady.trans ?_ (State.leaveFaults_steady _ _)
      assumption
    clear_value x12
    have hx13 : EngineSteady s x13 := by
      unfold x13
      refine EngineSteady.trans ?_ (.keeps (State.modSlot_keeps _ _ _ _) rfl)
      assumption
    clear_value x13
    refine EngineSteady.trans ?_ (State.cancelTry_steady _ _ _)
    assumption

theorem State.disableOp_steady (s) (z1) : EngineSteady s (State.disableOp s z1) := by
  unfold State.disableOp
  split
  · rename_i y1 y2
    extract_lets x3 x4 x5
    have hx3 : EngineSteady s x3 := by
      unfold x3
      exact State.dropRing_steady _ _
    clear_value x3
    have hx5 : EngineSteady s x5 := by
      unfold x5
      refine EngineSteady.trans ?_ (.keeps (State.setFur_keeps _ _ _) rfl)
      assumption
    clear_value x5
    refine EngineSteady.trans ?_ (State.settleStakes_steady _)
    refine rel_each ?_ ?_
    · assumption
    · intro a6 a7 a8
      refine EngineSteady.trans ?_ (State.cancelSlot_steady _ _ _)
      assumption
  · rename_i y9 y10
    extract_lets x11 x12 x13
    have hx11 : EngineSteady s x11 := by
      unfold x11
      exact State.dropRing_steady _ _
    clear_value x11
    have hx13 : EngineSteady s x13 := by
      unfold x13
      refine EngineSteady.trans ?_ (.keeps (State.setFur_keeps _ _ _) rfl)
      assumption
    clear_value x13
    refine EngineSteady.trans ?_ (State.settleStakes_steady _)
    refine rel_each ?_ ?_
    · assumption
    · intro a14 a15 a16
      refine EngineSteady.trans ?_ (State.cancelSlot_steady _ _ _)
      assumption
  · rename_i y17 y18
    extract_lets x19 x20 x21
    have hx19 : EngineSteady s x19 := by
      unfold x19
      exact State.dropRing_steady _ _
    clear_value x19
    have hx21 : EngineSteady s x21 := by
      unfold x21
      refine EngineSteady.trans ?_ (.keeps (State.setFur_keeps _ _ _) rfl)
      assumption
    clear_value x21
    refine EngineSteady.trans ?_ (State.settleStakes_steady _)
    refine rel_each ?_ ?_
    · assumption
    · intro a22 a23 a24
      refine EngineSteady.trans ?_ (State.cancelSlot_steady _ _ _)
      assumption
  · rename_i y25 y26 y27 y28
    exact EngineSteady.refl _

theorem State.putOn_steady (s) (z1) (z2) : EngineSteady s (State.putOn s z1 z2) := by
  unfold State.putOn
  extract_lets x1 x2 x3 x4 x5 x6 x7
  clear_value x2
  clear_value x3
  have hx4 : EngineSteady s x4 := by
    unfold x4
    refine rel_ite ?_ ?_
    · exact EngineSteady.refl _
    · exact .keeps (State.setPort_keeps _ _ _) rfl
  clear_value x4
  have hx6 : EngineSteady s x6 := by
    unfold x6
    refine EngineSteady.trans ?_ (.setfab _)
    assumption
  clear_value x6
  refine rel_ite ?_ ?_
  · refine EngineSteady.trans ?_ (.bumpBy (by decide))
    assumption
  · exact .setfab _

theorem State.sendMsg_steady (s) (z1) : OnFst EngineSteady s (State.sendMsg s z1) := by
  unfold State.sendMsg
  split
  · rename_i y1 y2
    refine onFst_mk ?_
    exact EngineSteady.refl _
  · rename_i y3 y4 y5 y6
    refine onFst_mk ?_
    refine EngineSteady.trans ?_ (State.putOn_steady _ _ _)
    exact .keeps (State.noteTurn_keeps _ _ _) rfl

theorem State.tell_steady (s) (z1) : EngineSteady s (State.tell s z1) := by
  unfold State.tell
  show EngineSteady s _
  exact State.sendMsg_steady _ _

theorem State.fabRequest_steady (s) (z1) (z2) (z3) : OnFst EngineSteady s (State.fabRequest s z1 z2 z3) := by
  unfold State.fabRequest
  extract_lets x1 x2 x3 x4 x5
  clear_value x1
  have hx2 : OnFst EngineSteady s x2 := by
    unfold x2
    exact State.sendMsg_steady _ _
  clear_value x2
  have hx4 : EngineSteady s x4 := by
    unfold x4
    show EngineSteady s _
    assumption
  refine rel_ite ?_ ?_
  · refine onFst_mk ?_
    refine EngineSteady.trans ?_ (.setfab _)
    assumption
  · refine onFst_mk ?_
    exact .bumpBy (by decide)

theorem State.fabSettle_steady (s) (z1) : EngineSteady s (State.fabSettle s z1) := by
  unfold State.fabSettle
  split
  · rename_i y1 y2 y3 y4 y5 y6
    refine EngineSteady.trans ?_ (State.stopDrained_steady _ _)
    refine EngineSteady.trans ?_ (State.settle_steady _ _)
    exact State.rowHalves_steady _ _
  · rename_i y7 y8
    exact EngineSteady.refl _

theorem State.releaseOrdered_steady (s) : EngineSteady s (State.releaseOrdered s) := by
  unfold State.releaseOrdered
  extract_lets x1 x2 x3 x4
  have hx3 : EngineSteady s x3 := by
    unfold x3
    exact .setfab _
  clear_value x3
  have hx4 : EngineSteady s x4 := by
    unfold x4
    assumption
  refine rel_foldl ?_ ?_
  · assumption
  · intro a5 a6 a7
    extract_lets x8 x9 x10
    have hx9 : OnFst EngineSteady s x9 := by
      unfold x9
      refine EngineSteady.trans ?_ (State.fabRequest_steady _ _ _ _)
      assumption
    clear_value x9
    refine rel_ite ?_ ?_
    · refine rel_ite ?_ ?_
      · show EngineSteady s _
        assumption
      · refine EngineSteady.trans ?_ (.keeps (State.fabFail_keeps _ _ _) rfl)
        show EngineSteady s _
        assumption
    · refine EngineSteady.trans ?_ (.setfab _)
      assumption

theorem State.dropPort_steady (s) (z1) : EngineSteady s (State.dropPort s z1) := by
  unfold State.dropPort
  extract_lets x1 x2 x3 x4 x5 x6 x7
  clear_value x2
  have hx5 : EngineSteady s x5 := by
    unfold x5
    exact .setfab _
  clear_value x5
  have hx6 : EngineSteady s x6 := by
    unfold x6
    refine rel_each ?_ ?_
    · assumption
    · intro a8 a9 a10
      split
      · rename_i y11 y12 y13
        extract_lets x14 x15
        have hx14 : EngineSteady s x14 := by
          unfold x14
          show EngineSteady s _
          refine EngineSteady.trans ?_ (State.sendMsg_steady _ _)
          assumption
        refine EngineSteady.trans ?_ (.setfab _)
        assumption
      · rename_i y16 y17
        assumption
  clear_value x6
  have hx7 : EngineSteady s x7 := by
    unfold x7
    refine rel_each ?_ ?_
    · assumption
    · intro a18 a19 a20
      refine EngineSteady.trans ?_ (.keeps (State.fabFail_keeps _ _ _) rfl)
      refine EngineSteady.trans ?_ (.bumpBy (by decide))
      assumption
  clear_value x7
  refine rel_each ?_ ?_
  · refine EngineSteady.trans ?_ (State.releaseOrdered_steady _)
    assumption
  · intro a21 a22 a23
    refine EngineSteady.trans ?_ (State.fabSettle_steady _ _)
    assumption

theorem State.refreshPorts_steady (s) : EngineSteady s (State.refreshPorts s) := by
  unfold State.refreshPorts
  refine rel_each ?_ ?_
  · exact EngineSteady.refl _
  · intro a1 a2 a3
    extract_lets x4 x5
    have hx5 : EngineSteady s x5 := by
      unfold x5
      refine EngineSteady.trans ?_ (.keeps (State.setPort_keeps _ _ _) rfl)
      assumption
    clear_value x5
    refine rel_ite ?_ ?_
    · refine rel_ite ?_ ?_
      · assumption
      · refine rel_ite ?_ ?_
        · refine EngineSteady.trans ?_ (State.dropPort_steady _ _)
          refine EngineSteady.trans ?_ (.keeps (State.noteRackPorts_keeps _) rfl)
          assumption
        · assumption
    · refine rel_ite ?_ ?_
      · refine EngineSteady.trans ?_ (.keeps (State.setPort_keeps _ _ _) rfl)
        assumption
      · assumption

theorem State.endEntry_steady (s) (z1) (z2) (z3) : EngineSteady s (State.endEntry s z1 z2 z3) := by
  unfold State.endEntry
  split
  · rename_i y1 y2
    exact EngineSteady.refl _
  · rename_i y3 y4 y5
    extract_lets x6 x7 x8 x9
    have hx6 : EngineSteady s x6 := by
      unfold x6
      refine EngineSteady.trans ?_ (.keeps (State.attn_keeps _ _) rfl)
      refine rel_ite ?_ ?_
      · exact EngineSteady.refl _
      · exact .bumpBy (by split <;> decide)
    clear_value x6
    have hx8 : EngineSteady s x8 := by
      unfold x8
      refine rel_ite ?_ ?_
      · refine EngineSteady.trans ?_ (.setrot _)
        assumption
      · assumption
    clear_value x8
    refine rel_ite ?_ ?_
    · refine EngineSteady.trans ?_ (.keeps (State.leaveQueue_keeps _ _) rfl)
      assumption
    · refine EngineSteady.trans ?_ (.keeps (State.modEntry_keeps _ _ _) rfl)
      assumption

theorem State.rotSliceHalt_steady (s) (z1) : EngineSteady s (State.rotSliceHalt s z1) := by
  unfold State.rotSliceHalt
  refine rel_each ?_ ?_
  · exact EngineSteady.refl _
  · intro a1 a2 a3
    refine EngineSteady.trans ?_ (State.endEntry_steady _ _ _ _)
    refine EngineSteady.trans ?_ (.keeps (State.dropDraft_keeps _ _) rfl)
    assumption

theorem State.endOptical_steady (s) : EngineSteady s (State.endOptical s) := by
  unfold State.endOptical
  refine EngineSteady.trans ?_ (State.refreshPorts_steady _)
  exact .setslice _

theorem State.failReqs_steady (s) (z1) : EngineSteady s (State.failReqs s z1) := by
  unfold State.failReqs
  extract_lets x1 x2 x3
  have hx3 : EngineSteady s x3 := by
    unfold x3
    exact .setfab _
  clear_value x3
  refine rel_each ?_ ?_
  · assumption
  · intro a4 a5 a6
    refine EngineSteady.trans ?_ (State.fabSettle_steady _ _)
    refine EngineSteady.trans ?_ (.keeps (State.fabFail_keeps _ _ _) rfl)
    assumption

theorem State.failStiles_steady (s) : EngineSteady s (State.failStiles s) := by
  unfold State.failStiles
  extract_lets x1 x2 x3 x4
  have hx2 : EngineSteady s x2 := by
    unfold x2
    exact .setfab _
  clear_value x2
  have hx3 : EngineSteady s x3 := by
    unfold x3
    refine EngineSteady.trans ?_ (State.failReqs_steady _ _)
    assumption
  clear_value x3
  clear_value x4
  refine rel_each ?_ ?_
  · assumption
  · intro a5 a6 a7
    refine EngineSteady.trans ?_ (State.settle_steady _ _)
    refine EngineSteady.trans ?_ (.keeps (State.setRow_keeps _ _ _) rfl)
    assumption

theorem State.disableJob_steady (s) : EngineSteady s (State.disableJob s) := by
  unfold State.disableJob
  refine rel_ite ?_ ?_
  · exact EngineSteady.refl _
  · extract_lets x1
    clear_value x1
    refine rel_each ?_ ?_
    · exact EngineSteady.refl _
    · intro a2 a3 a4
      refine EngineSteady.trans ?_ (State.disableOp_steady _ _)
      assumption

theorem State.haltMember_steady (s) (z1) (z2) : EngineSteady s (State.haltMember s z1 z2) := by
  unfold State.haltMember
  refine rel_ite ?_ ?_
  · exact EngineSteady.refl _
  · extract_lets x1 x2 x3
    have hx2 : EngineSteady s x2 := by
      unfold x2
      exact .setslice _
    clear_value x2
    have hx3 : EngineSteady s x3 := by
      unfold x3
      refine EngineSteady.trans ?_ (State.failStiles_steady _)
      refine EngineSteady.trans ?_ (.keeps (State.attn_keeps _ _) rfl)
      assumption
    clear_value x3
    refine EngineSteady.trans ?_ (State.endOptical_steady _)
    refine EngineSteady.trans ?_ (State.disableJob_steady _)
    refine EngineSteady.trans ?_ (State.rotSliceHalt_steady _ _)
    assumption

theorem State.tellMember_steady (s) (z1) (z2) : EngineSteady s (State.tellMember s z1 z2) := by
  unfold State.tellMember
  refine rel_ite ?_ ?_
  · exact EngineSteady.refl _
  · exact State.tell_steady _ _

theorem State.haltSlice_steady (s) (z1) (z2) (z3) : EngineSteady s (State.haltSlice s z1 z2 z3) := by
  unfold State.haltSlice
  refine rel_ite ?_ ?_
  · exact EngineSteady.refl _
  · extract_lets x1 x2 x3
    have hx1 : EngineSteady s x1 := by
      unfold x1
      refine rel_each ?_ ?_
      · exact EngineSteady.refl _
      · intro a4 a5 a6
        refine EngineSteady.trans ?_ (State.tellMember_steady _ _ _)
        assumption
    clear_value x1
    have hx3 : EngineSteady s x3 := by
      unfold x3
      refine EngineSteady.trans ?_ (.setmgr _)
      assumption
    clear_value x3
    refine EngineSteady.trans ?_ (State.haltMember_steady _ _ _)
    assumption

theorem State.report_steady (s) (z1) (z2) (z3) : EngineSteady s (State.report s z1 z2 z3) := by
  unfold State.report
  refine rel_ite ?_ ?_
  · exact EngineSteady.refl _
  · extract_lets x1 x2 x3
    clear_value x1
    have hx3 : EngineSteady s x3 := by
      unfold x3
      exact .setmgr _
    clear_value x3
    refine rel_ite ?_ ?_
    · refine EngineSteady.trans ?_ (State.haltSlice_steady _ _ _ _)
      assumption
    · exact State.tell_steady _ _

theorem State.downPort_steady (s) (z1) (z2) (z3) (z4) : EngineSteady s (State.downPort s z1 z2 z3 z4) := by
  unfold State.downPort
  extract_lets x1 x2 x3
  have hx2 : EngineSteady s x2 := by
    unfold x2
    refine EngineSteady.trans ?_ (.keeps (State.noteRackPorts_keeps _) rfl)
    exact .keeps (State.setPort_keeps _ _ _) rfl
  clear_value x2
  have hx3 : EngineSteady s x3 := by
    unfold x3
    refine EngineSteady.trans ?_ (State.dropPort_steady _ _)
    refine EngineSteady.trans ?_ (State.raiseIf_steady _ _ _ _)
    assumption
  clear_value x3
  refine rel_ite ?_ ?_
  · exact EngineSteady.refl _
  · refine rel_ite ?_ ?_
    · refine EngineSteady.trans ?_ (State.report_steady _ _ _ _)
      assumption
    · assumption

theorem State.takeReadings_steady (s) (z1) : EngineSteady s (State.takeReadings s z1) := by
  unfold State.takeReadings
  exact .setpwr rfl

theorem State.holdOff_steady (s) (z1) : EngineSteady s (State.holdOff s z1) := by
  unfold State.holdOff
  extract_lets x1 x2 x3 x4 x5
  have hx2 : OnSnd EngineSteady s x2 := by
    unfold x2
    exact EngineSteady.keeps (State.draw_keeps _) rfl
  clear_value x2
  have hx3 : EngineSteady s x3 := by
    unfold x3
    refine rel_ite ?_ ?_
    · refine EngineSteady.trans ?_ (State.settleStakes_steady _)
      refine EngineSteady.trans ?_ (State.haltProgram_steady _ _ _ _ _)
      show EngineSteady s _
      assumption
    · exact EngineSteady.refl _
  clear_value x3
  have hx5 : EngineSteady s x5 := by
    unfold x5
    refine EngineSteady.trans ?_ (.setpwr rfl)
    assumption
  clear_value x5
  refine rel_ite ?_ ?_
  · refine EngineSteady.trans ?_ (.setplots _)
    assumption
  · refine EngineSteady.trans ?_ (.keeps (State.gatePlot_keeps _ _) rfl)
    assumption

theorem State.failSensor_steady (s) (z1) : EngineSteady s (State.failSensor s z1) := by
  unfold State.failSensor
  refine rel_ite ?_ ?_
  · exact EngineSteady.refl _
  · extract_lets x1 x2 x3 x4 x5
    have hx1 : EngineSteady s x1 := by
      unfold x1
      refine EngineSteady.trans ?_ (.raise)
      exact .setVal (by decide)
    clear_value x1
    have hx3 : OnSnd EngineSteady s x3 := by
      unfold x3
      refine EngineSteady.trans ?_ (EngineSteady.keeps (State.draw_keeps _) rfl)
      assumption
    clear_value x3
    have hx4 : EngineSteady s x4 := by
      unfold x4
      refine EngineSteady.trans ?_ (State.takeReadings_steady _ _)
      show EngineSteady s _
      assumption
    clear_value x4
    refine rel_ite ?_ ?_
    · assumption
    · refine rel_ite ?_ ?_
      · refine EngineSteady.trans ?_ (State.holdOff_steady _ _)
        assumption
      · refine rel_ite ?_ ?_
        · refine EngineSteady.trans ?_ (.setpwr rfl)
          assumption
        · assumption

theorem State.sense_steady (s) (z1) : EngineSteady s (State.sense s z1) := by
  unfold State.sense
  refine rel_each ?_ ?_
  · exact EngineSteady.refl _
  · intro a1 a2 a3
    extract_lets x4 x5
    clear_value x4
    have hx5 : EngineSteady s x5 := by
      unfold x5
      refine EngineSteady.trans ?_ (State.takeReadings_steady _ _)
      assumption
    clear_value x5
    refine rel_ite ?_ ?_
    · refine EngineSteady.trans ?_ (State.failSensor_steady _ _)
      assumption
    · refine EngineSteady.trans ?_ (.keeps (State.noteCool_keeps _) rfl)
      refine rel_ite ?_ ?_
      · refine EngineSteady.trans ?_ (.setVal (by decide))
        assumption
      · assumption


end Sys2Proof.Machine
end

section
namespace Sys2Proof.Machine

/-! ### Counters and causes: what a counter's event and a cause leave alone -/

@[simp] theorem State.bumpBy_now (s : State) (k n : Nat) : (s.bumpBy k n).now = s.now := (State.bumpBy_keeps s k n).know rfl
@[simp] theorem State.bumpBy_pwr (s : State) (k n : Nat) : (s.bumpBy k n).pwr = s.pwr := (State.bumpBy_keeps s k n).kpwr rfl
@[simp] theorem State.bumpBy_reg (s : State) (k n : Nat) : (s.bumpBy k n).reg = s.reg := (State.bumpBy_keeps s k n).kreg rfl
@[simp] theorem State.bump_now (s : State) (k : Nat) : (s.bump k).now = s.now := State.bumpBy_now s k 1
@[simp] theorem State.bump_pwr (s : State) (k : Nat) : (s.bump k).pwr = s.pwr := State.bumpBy_pwr s k 1
@[simp] theorem State.bump_reg (s : State) (k : Nat) : (s.bump k).reg = s.reg := State.bumpBy_reg s k 1
@[simp] theorem State.bump_fc (s : State) (k : Nat) : (s.bump k).fc = s.fc := (State.bump_keeps s k).kfc rfl

/-- A counter's event changes dictionary values only. -/
theorem State.val_bump_other {s : State} {k k' : Nat} (h : Rises s.od) (hk : k' ≠ k) (ho : k' ≠ k / 256 * 256 + 0xFE) :
    (s.bump k).val k' = s.val k' := State.val_bumpBy_other s k k' 1 h hk ho

theorem State.val_setVal_same (s : State) (k v : Nat) (h : Rises s.od) : (s.setVal k v).val k = v := by
  rw [State.val_setVal _ _ _ _ h, if_pos rfl]

theorem State.bump_rises {s : State} (k : Nat) (h : Rises s.od) : Rises (s.bump k).od := State.bumpBy_rises s k 1 h

theorem bit_or_two_pow (v n : Nat) : bit (v ||| 2 ^ n) n = true := by simp [bit]

/-- A cause that is set stands in ATTN_CAUSE. -/
theorem State.bit_attn (s : State) (n : Nat) (h : Rises s.reg) : bit ((s.attn n).rg Rg.attnCause) n = true := by
  rw [State.attn, State.rg_setRg_same _ _ _ h]
  exact bit_or_two_pow _ _

/-- CAP_REASON's change sets the POWER cause and nothing else (R90). -/
theorem State.noteReason_cases (s : State) (old : Nat) : s.noteReason old = s ∨ s.noteReason old = s.attn At.power := by
  unfold State.noteReason
  split
  · exact .inl rfl
  · exact .inr rfl

@[simp] theorem State.noteReason_pwr (s : State) (old : Nat) : (s.noteReason old).pwr = s.pwr := (State.noteReason_keeps s old).kpwr rfl
@[simp] theorem State.noteReason_od (s : State) (old : Nat) : (s.noteReason old).od = s.od := (State.noteReason_keeps s old).kod rfl
@[simp] theorem State.noteReason_fc (s : State) (old : Nat) : (s.noteReason old).fc = s.fc := (State.noteReason_keeps s old).kfc rfl
@[simp] theorem State.noteReason_now (s : State) (old : Nat) : (s.noteReason old).now = s.now := (State.noteReason_keeps s old).know rfl
@[simp] theorem State.noteReason_plots (s : State) (old : Nat) : (s.noteReason old).plots = s.plots :=
  (State.noteReason_keeps s old).kplots rfl
@[simp] theorem State.val_noteReason (s : State) (old k : Nat) : (s.noteReason old).val k = s.val k :=
  congrArg (fun od => kvGet (odDefault k) od k) (State.noteReason_od s old)
@[simp] theorem State.throttle_noteReason (s : State) (old : Nat) : (s.noteReason old).throttle = s.throttle := by
  simp [State.throttle, State.otherLevel]

/-! ### The power envelope (R60, R87-R91) -/

/-- POWER_SUMMATION's last step: the mean power and the input's values, and the extremes of the input (R87, R89). -/
def State.storeInput (s : State) (power vin iin : Nat) : State :=
  let s := (s.setVal O.pkgPower power).setVal O.vin vin
  let s := (s.setVal O.iin iin).setVal O.pin (vin * iin / 1000)
  (s.setVal O.vinMin (min vin (s.val O.vinMin))).setVal O.iinMax (max iin (s.val O.iinMax))

theorem State.storeInput_stores (s : State) (power vin iin : Nat) (h : Rises s.od) :
    (s.storeInput power vin iin).val O.pkgPower = power ∧ (s.storeInput power vin iin).val O.vin = vin ∧
    (s.storeInput power vin iin).val O.iin = iin ∧ (s.storeInput power vin iin).val O.pin = vin * iin / 1000 ∧
    (s.storeInput power vin iin).val O.vinMin = min vin (s.val O.vinMin) ∧ (s.storeInput power vin iin).val O.iinMax = max iin (s.val O.iinMax) := by
  simp (disch := apply_rules [State.setVal_rises, h]) [State.storeInput, State.val_setVal, O.vin, O.iin, O.pin, O.pkgPower, O.vinMin, O.iinMax]

/-- The state from which POWER_SUMMATION stores its values: the sample taken, `level` the loop's throttle level. -/
def State.summed (s : State) (p level : Nat) : State :=
  { s.hlAnswers with pwr := { s.hlAnswers.pwr with energyFrac := (s.pwr.energyFrac + p) % 100000, sums := (p :: s.pwr.sums).take 10, capLevel := level, capHost := s.val O.splitCap == 1, peakLevel := if decide (p ≤ 2500000) then 0 else s.pwr.peakLevel } }

theorem completes_powerSummation (s : State) (vin iin p avg : Nat) (l : Fin 17) (inv : s.Inv) (aon : s.pwr.aon = true) (running : s.hl.running = true) :
    Completes (.powerSummation vin iin p avg l) s fun t =>
      t.pwr.energyFrac = (s.pwr.energyFrac + p) % 100000 ∧ t.pwr.sums = (p :: s.pwr.sums).take 10 ∧ t.val O.vin = vin ∧ t.val O.iin = iin ∧
      t.val O.pin = vin * iin / 1000 ∧ t.val O.pkgPower = ((p :: s.pwr.sums).take 10).foldl (· + ·) 0 / ((p :: s.pwr.sums).take 10).length ∧
      (s.val O.splitCap ≠ 1 → s.pwr.orphan = false → s.effCap * 1000 < avg → 1 ≤ t.pwr.capLevel) ∧ t.val O.vinMin = min vin (s.val O.vinMin) ∧
      t.val O.iinMax = max iin (s.val O.iinMax) ∧ (p ≤ 2500000 → t.pwr.peakLevel = 0) ∧ t.pwr.capHost = (s.val O.splitCap == 1) := by
  obtain ⟨-, -, objs, -⟩ := inv
  obtain ⟨level, runs, above⟩ : ∃ level, exec (.powerSummation vin iin p avg l) s = .next ((((s.summed p level).bumpBy O.pkgEnergy ((s.pwr.energyFrac + p) / 100000)).storeInput
      (((p :: s.pwr.sums).take 10).foldl (· + ·) 0 / ((p :: s.pwr.sums).take 10).length) vin iin).noteReason s.capReason) ∧
      (s.val O.splitCap ≠ 1 → s.effCap * 1000 < avg → 1 ≤ level) := by
    rw [exec, execPowerSummation, aon, running]
    refine ⟨_, rfl, fun hw above => ?_⟩
    have split : (s.hlAnswers.val O.splitCap == 1) = false := beq_eq_false_iff_ne.mpr hw
    have passed : decide (s.hlAnswers.effCap * 1000 < if s.hlAnswers.val (calOrigin 0x2878) = 0 then avg * 105 / 100 else avg) = true := by
      have same : s.hlAnswers.effCap = s.effCap := rfl
      rw [decide_eq_true_iff, same]
      split <;> omega
    rw [split]
    exact le_of_le_of_eq (Nat.le_max_left 1 _) (if_pos passed).symm
  obtain ⟨power, vin', iin', pin, vinMin, iinMax⟩ := State.storeInput_stores ((s.summed p level).bumpBy O.pkgEnergy ((s.pwr.energyFrac + p) / 100000))
    (((p :: s.pwr.sums).take 10).foldl (· + ·) 0 / ((p :: s.pwr.sums).take 10).length) vin iin (State.bumpBy_rises _ _ _ objs)
  have kept : ∀ k, k ≠ O.pkgEnergy → k ≠ O.pkgEnergy / 256 * 256 + 0xFE →
      ((s.summed p level).bumpBy O.pkgEnergy ((s.pwr.energyFrac + p) / 100000)).val k = s.val k := fun k ne ne' =>
    State.val_bumpBy_other (s.summed p level) _ k _ objs ne ne'
  refine ⟨_, runs, ?_⟩
  simp only [State.val_noteReason, State.noteReason_pwr]
  rw [kept _ (by decide) (by decide)] at vinMin iinMax
  have pwr : ∀ w : State, (w.storeInput (((p :: s.pwr.sums).take 10).foldl (· + ·) 0 / ((p :: s.pwr.sums).take 10).length) vin iin).pwr = w.pwr := fun _ => rfl
  rw [pwr, State.bumpBy_pwr]
  exact ⟨rfl, rfl, vin', iin', pin, power, fun hw _ => above hw, vinMin, iinMax, fun calm => if_pos (decide_eq_true calm), rfl⟩

theorem State.level_le_throttle_of_peak (s : State) : s.pwr.peakLevel ≤ s.throttle := by
  simp only [State.throttle, State.otherLevel]
  omega

theorem completes_peakLimit (s : State) (d : Bool) (l : Fin 17) (inv : s.Inv) (aon : s.pwr.aon = true) :
    Completes (.peakLimit d l) s fun t =>
      t.pwr.peakLevel = max 1 l.val ∧ t.pwr.peakDuration = d ∧ s.Counts t O.peakEvents ∧ s.Raises t Sc.peakLimit ∧ max 1 l.val ≤ t.throttle := by
  obtain ⟨-, -, objs, -⟩ := inv
  let u : State := { s with pwr := { s.pwr with peakLevel := max 1 l.val, peakDuration := d } }
  have runs : exec (.peakLimit d l) s = .next (((u.bump O.peakEvents).raise Sc.peakLimit).noteReason s.capReason) := by
    rw [exec, execPeakLimit, aon]
    rfl
  have pwr : (((u.bump O.peakEvents).raise Sc.peakLimit).noteReason s.capReason).pwr = u.pwr := by
    rw [State.noteReason_pwr]
    exact State.bump_pwr u _
  refine ⟨_, runs, congrArg Power.peakLevel pwr, congrArg Power.peakDuration pwr, ?_, ?_, ?_⟩
  · rw [State.Counts, State.val_noteReason]
    exact State.val_bump u O.peakEvents objs (by decide)
  · rw [State.Raises, State.noteReason_fc]
    exact congrArg (fun f : Collector => f.ring ++ [_]) (State.bump_fc u _)
  · exact le_of_eq_of_le (congrArg Power.peakLevel pwr).symm (State.level_le_throttle_of_peak _)

theorem State.floor_of_orphan {s : State} (orphan : s.pwr.orphan = true) : 16 ≤ s.throttle := by
  simp only [State.throttle, State.otherLevel, orphan, Bool.true_or, if_true]
  omega

theorem State.gcoreOn_of_up {s : State} (up : s.pwr.mode = .up) : s.gcoreOn = true := by
  rw [State.gcoreOn, State.onFrom, up]

theorem State.gcoreOn_of_fallow {s : State} (fallow : s.pwr.mode = .fallow) : s.gcoreOn = false := by
  rw [State.gcoreOn, State.onFrom, fallow]

theorem completes_headlandSilent (s : State) (heard : s.pwr.orphan = false) (aon : s.pwr.aon = true) :
    Completes (.headlandSilent) s fun t =>
      t.pwr.orphan = true ∧ 16 ≤ t.throttle ∧ t.now = max s.now (s.hl.silentSince + 50000001) ∧ (s.pwr.mode = .up → s.Raises t Sc.headlandSilent) ∧
      (s.pwr.mode = .fallow → t.pwr.silentDue = true) := by
  let late := s.until_ (s.hl.silentSince + 50000001)
  let u : State := { late with pwr := { s.pwr with orphan := true, silentDue := !late.gcoreOn } }
  have runs : exec (.headlandSilent) s = .next ((u.raiseIf late.gcoreOn Sc.headlandSilent).noteReason s.capReason) := by
    rw [exec, execHeadlandSilent, heard, aon]
    rfl
  have pwr : ((u.raiseIf late.gcoreOn Sc.headlandSilent).noteReason s.capReason).pwr = u.pwr := by
    rw [State.noteReason_pwr]
    exact (State.raiseIf_keeps _ _ _ _).kpwr rfl
  refine ⟨_, runs, congrArg Power.orphan pwr, State.floor_of_orphan (congrArg Power.orphan pwr), ?_, fun up => ?_, fun fallow => ?_⟩
  · rw [State.noteReason_now]
    exact (State.raiseIf_keeps _ _ _ _).know rfl
  · have on : late.gcoreOn = true := State.gcoreOn_of_up up
    rw [State.Raises, State.noteReason_fc, on]
    rfl
  · have off : late.gcoreOn = false := State.gcoreOn_of_fallow fallow
    rw [congrArg Power.silentDue pwr]
    show (!late.gcoreOn) = true
    rw [off]
    rfl

theorem completes_shedAssert (s : State) (inv : s.Inv) (unshed : s.pwr.shed = false) (aon : s.pwr.aon = true) :
    Completes (.shedAssert) s fun t =>
      t.pwr.shed = true ∧ 16 ≤ t.throttle ∧ s.Counts t O.shedCount ∧ s.Counts t O.signalChanges ∧ s.Raises t Sc.shedActive ∧
      bit (t.rg Rg.attnCause) At.power = true := by
  obtain ⟨-, -, objs, regs, -⟩ := inv
  let u : State := { s with pwr := { s.pwr with shed := true, shedLevel := 16 } }
  let v : State := (u.bump O.shedCount).bump O.signalChanges
  have runs : exec (.shedAssert) s = .next ((v.raise Sc.shedActive).attn At.power) := by
    rw [exec, execShedAssert, unshed, aon]
    rfl
  have pwr : ((v.raise Sc.shedActive).attn At.power).pwr = u.pwr := by
    rw [(State.attn_keeps _ _).kpwr rfl, (State.raise_keeps _ _ _).kpwr rfl, State.bump_pwr, State.bump_pwr]
  have val (k : Nat) : ((v.raise Sc.shedActive).attn At.power).val k = v.val k := by
    rw [State.val, (State.attn_keeps _ _).kod rfl, (State.raise_keeps _ _ _).kod rfl, State.val]
  refine ⟨_, runs, by rw [pwr], ?_, ?_, ?_, ?_, ?_⟩
  · rw [State.throttle, show _ = 16 from congrArg Power.shedLevel pwr]
    exact Nat.le_max_right _ _
  · refine (val _).trans ((State.val_bump_other (s := u.bump O.shedCount) (State.bump_rises _ objs) (by decide) (by decide)).trans ?_)
    exact State.val_bump u O.shedCount objs (by decide)
  · refine (val _).trans ((State.val_bump (u.bump O.shedCount) O.signalChanges (State.bump_rises _ objs) (by decide)).trans ?_)
    exact congrArg (fun n => (n + 1) % 2 ^ 64) (State.val_bump_other (s := u) objs (by decide) (by decide))
  · exact congrArg (fun f : Collector => f.ring ++ [_]) ((State.bump_fc _ _).trans (State.bump_fc u _))
  · refine State.bit_attn _ _ ?_
    show Rises v.reg
    rw [State.bump_reg, State.bump_reg]
    exact regs

theorem completes_shedDeassert (s : State) (inv : s.Inv) (shed : s.pwr.shed = true) :
    Completes (.shedDeassert) s fun t =>
      t.pwr.shed = false ∧ bit (t.rg Rg.attnCause) At.power = true ∧ t.pwr.shedLevel = (if s.val O.shedReleaseRamp ≠ 0 ∧
      s.otherLevel < 16 then 16 else 0) ∧ s.Counts t O.signalChanges := by
  obtain ⟨-, -, objs, regs, -⟩ := inv
  let u : State := { s with pwr := { s.pwr with shed := false, shedLevel := (if s.val O.shedReleaseRamp != 0 && decide (s.otherLevel < 16) then 16 else 0), shedFrom := s.now, shedTo := s.otherLevel } }
  have runs : exec (.shedDeassert) s = .next ((u.bump O.signalChanges).attn At.power) := by
    rw [exec, execShedDeassert, shed]
    rfl
  have pwr : (u.bump O.signalChanges).pwr = u.pwr := State.bump_pwr _ _
  refine ⟨_, runs, congrArg Power.shed pwr, ?_, (congrArg Power.shedLevel pwr).trans ?_, State.val_bump u O.signalChanges objs (by decide)⟩
  · refine State.bit_attn _ _ ?_
    rw [State.bump_reg]
    exact regs
  · simp [u]

theorem completes_shedReleaseStep (s : State) (unshed : s.pwr.shed = false) (held : s.pwr.shedLevel ≠ 0) :
    Completes (.shedReleaseStep) s fun t =>
      t.pwr.shed = false ∧ t.pwr.shedLevel = (if s.pwr.shedLevel - 1 ≤ s.otherLevel then 0 else s.pwr.shedLevel - 1) ∧ t.od = s.od := by
  rw [Completes, exec, execShedReleaseStep, unshed, Bool.false_or, decide_eq_false held]
  refine ⟨_, rfl, ?_⟩
  simp only [State.noteReason_pwr, State.noteReason_od]
  exact ⟨unshed, rfl, rfl⟩

/-! ### Thermal limits (R92-R96) -/

@[simp] theorem State.lotResume_pwr (s : State) : s.lotResume.pwr = s.pwr := (State.lotResume_keeps s).kpwr rfl

theorem EngineSteady.thermCap {s t : State} (h : EngineSteady s t) : t.pwr.thermCap = s.pwr.thermCap := by rw [h.pwr]
theorem EngineSteady.tripped {s t : State} (h : EngineSteady s t) : t.pwr.tripped = s.pwr.tripped := by rw [h.pwr]

theorem completes_thermCapStep (s : State) (l : List (Nat × Int)) (aon : s.pwr.aon = true) :
    Completes (.thermCapStep l) s fun t =>
      t.pwr.thermCap = (if (List.range 90).any (fun n => (s.sense l).stillHot n && decide (thermClass n ≤ 2)) then max 600 ((s.sense l).effCap - 100) else min 2500 (s.pwr.thermCap + 100)) := by
  rw [← (State.sense_steady s l).thermCap, ← List.any_filter]
  rw [Completes, exec, execThermCapStep, aon]
  refine ⟨_, rfl, ?_⟩
  rw [State.lotResume_pwr, State.noteReason_pwr]
  cases (s.sense l).pwr.capStepAt <;> rfl

theorem completes_thermAlarm (s : State) (n : Fin 90) (v : Int) (inv : s.Inv) (aon : s.pwr.aon = true)
    (alarm : (s.sense [(n.val, v)]).alarmAt (thermClass n) ≤ (s.sense [(n.val, v)]).reading n) :
    Completes (.thermAlarm n v) s fun t =>
      (s.sense [(n.val, v)]).Raises t Sc.thermAlarm ∧ bit (t.rg Rg.attnCause) At.power = true := by
  have runs : exec (.thermAlarm n v) s = .next (((s.sense [(n.val, v)]).raise Sc.thermAlarm).attn At.power) := by
    rw [exec, execThermAlarm, aon]
    exact congrArg Host.Outcome.next (if_pos alarm)
  obtain ⟨-, -, -, regs, -⟩ := (State.sense_keeps s [(n.val, v)]).kinv inv
  exact ⟨_, runs, rfl, State.bit_attn _ _ regs⟩

/-- Events that wait for the collector stay when the module goes dark: the sideband ring is AON's. -/
theorem State.goDark_ring (s : State) (aon : Bool) : (s.goDark aon).fc.ring = s.fc.ring := by
  have lost : (s.abortErases.loseSlice).fc = s.fc := ((State.loseSlice_keeps _).kfc rfl).trans ((State.abortErases_keeps _).kfc rfl)
  show s.abortErases.loseSlice.fc.ring = s.fc.ring
  rw [lost]

/-- Of a package sensor's class (0 to 2), a trip takes the arm of THERM_TRIP that darkens the package. -/
theorem execThermTrip_package {s : State} {n : Fin 90} {v : Int} (aon : s.pwr.aon = true) (untripped : (s.sense [(n.val, v)]).pwr.tripped = false)
    (package : thermClass n ≤ 2) (hot : (tripAt (thermClass n) : Int) ≤ (s.sense [(n.val, v)]).reading n) :
    execThermTrip n v s =
      let u := ((((s.sense [(n.val, v)]).raise Sc.thermTrip).setVal O.tripSensor n).rotPowerLoss).goDark true
      .next { u with pwr := { u.pwr with tripped := true, tripBefore := true, tripClass := thermClass n }, hl := (s.sense [(n.val, v)]).hl } := by
  have warm : ¬(s.sense [(n.val, v)]).reading n < (tripAt (thermClass n) : Int) := Int.not_lt.mpr hot
  have cases : thermClass n = 0 ∨ thermClass n = 1 ∨ thermClass n = 2 := by omega
  rcases cases with c | c | c <;> rw [c] at warm <;> cases brown : s.pwr.brownAt <;>
    simp only [execThermTrip, aon, brown, warm, c, untripped, Bool.not_true, Bool.false_and, Bool.false_eq_true, if_false]

theorem completes_thermTrip (s : State) (n : Fin 90) (v : Int) (aon : s.pwr.aon = true) (untripped : s.pwr.tripped = false)
    (package : thermClass n ≤ 2) (hot : (tripAt (thermClass n) : Int) ≤ (s.sense [(n.val, v)]).reading n) :
    Completes (.thermTrip n v) s fun t =>
      t.pwr.tripped = true ∧ t.pwr.mode = .off ∧ t.pwr.aon = true ∧ t.pwr.tripClass = thermClass n ∧ t.hbm = [] ∧ t.plots = [] ∧
      { source := Sc.thermTrip } ∈ t.fc.ring := by
  have still : (s.sense [(n.val, v)]).pwr.tripped = false := (State.sense_steady _ _).tripped.trans untripped
  refine ⟨_, (exec.eq_def _ _).trans (execThermTrip_package aon still package hot), rfl, rfl, rfl, rfl, rfl, rfl, ?_⟩
  show _ ∈ (State.goDark _ true).fc.ring
  rw [State.goDark_ring, (State.rotPowerLoss_keeps _).kfc rfl]
  exact List.mem_append_right _ (List.mem_singleton.mpr rfl)

theorem execThermTrip_optical {s : State} {n : Fin 90} {v : Int} (aon : s.pwr.aon = true) (optical : thermClass n = 4)
    (hot : (tripAt 4 : Int) ≤ (s.sense [(n.val, v)]).reading n) :
    ∃ u : State, EngineSteady s u ∧ execThermTrip n v s = .next { u with pwr := { u.pwr with opticalOff := setBit u.pwr.opticalOff (n.val - 88) true } } := by
  have warm : ¬(s.sense [(n.val, v)]).reading n < (tripAt 4 : Int) := Int.not_lt.mpr hot
  refine ⟨_, ?_, by cases brown : s.pwr.brownAt <;> simp only [execThermTrip, aon, brown, optical, warm, Bool.not_true, Bool.false_and, Bool.false_eq_true, if_false] <;> rfl⟩
  have down := EngineSteady.trans (State.sense_steady s [(n.val, v)]) (State.downPort_steady _ (11 + (n.val - 88)) 4 true true)
  refine rel_ite ?_ down
  exact down.trans (.keeps (State.setPort_keeps _ _ _) rfl)

theorem completes_thermTrip_optical (s : State) (n : Fin 90) (v : Int) (aon : s.pwr.aon = true) (optical : thermClass n = 4)
    (hot : (tripAt 4 : Int) ≤ (s.sense [(n.val, v)]).reading n) :
    Completes (.thermTrip n v) s fun t => bit t.pwr.opticalOff (n.val - 88) = true ∧ t.pwr.tripped = s.pwr.tripped := by
  obtain ⟨u, steady, runs⟩ := execThermTrip_optical aon optical hot
  exact ⟨_, (exec.eq_def _ _).trans runs, bit_setBit _ _ _, steady.tripped⟩

theorem testBit_add_two_pow_ne {v n m : Nat} (clear : v.testBit n = false) (ne : m ≠ n) : (v + 2 ^ n).testBit m = v.testBit m := by
  rcases Nat.lt_or_gt_of_ne ne with lt | gt
  · rw [Nat.add_comm]
    exact Nat.testBit_two_pow_add_gt lt v
  · obtain ⟨k, rfl⟩ := Nat.exists_eq_add_of_lt gt
    have even : v / 2 ^ n % 2 = 0 := by
      rw [Nat.testBit_eq_decide_div_mod_eq] at clear
      have := of_decide_eq_false clear
      omega
    have same : (v + 2 ^ n) / 2 ^ (n + 1) = v / 2 ^ (n + 1) := by
      rw [Nat.pow_succ, ← Nat.div_div_eq_div_mul, ← Nat.div_div_eq_div_mul, Nat.add_div_right _ (Nat.two_pow_pos n)]
      omega
    have shift : ∀ w : Nat, w.testBit (n + k + 1) = (w / 2 ^ (n + 1)).testBit k := fun w => by
      rw [Nat.testBit_div_two_pow]
      congr 1
      omega
    rw [shift, shift, same]

theorem completes_sensorFailed (s : State) (n : Fin 90) (inv : s.Inv) (aon : s.pwr.aon = true) (good : s.sensorBad n = false)
    (spare : (thermPart n).any (fun m => decide (m ≠ n.val) && !s.sensorBad m) = true) (small : s.val O.sensorFailed < 2 ^ 90) :
    Completes (.sensorFailed n) s fun t =>
      t.val O.sensorFailed = s.val O.sensorFailed + 2 ^ n.val ∧ s.Raises t Sc.sensorFailed ∧ t.plots = s.plots := by
  obtain ⟨-, -, objs, -⟩ := inv
  let u := (s.setVal O.sensorFailed (s.val O.sensorFailed + 2 ^ n.val)).raise Sc.sensorFailed
  have marked : u.val O.sensorFailed = s.val O.sensorFailed + 2 ^ n.val := State.val_setVal_same s _ _ objs
  have left : (thermPart n).all (fun m => u.sensorBad m) = false := by
    obtain ⟨m, mem, other⟩ := List.any_eq_true.mp spare
    rw [Bool.and_eq_true, decide_eq_true_iff, Bool.not_eq_true'] at other
    refine List.all_eq_false.mpr ⟨m, mem, ?_⟩
    rw [State.sensorBad, marked, bit, testBit_add_two_pow_ne good other.1]
    exact Bool.not_eq_true _ ▸ other.2
  have fails : s.failSensor n = u := by
    rw [State.failSensor, if_neg (Bool.not_eq_true _ ▸ good)]
    exact if_pos (by rw [left]; rfl)
  have runs : exec (.sensorFailed n) s = .next (u.noteReason s.capReason) := by
    rw [exec, execSensorFailed, aon, fails]
    rfl
  refine ⟨_, runs, ?_, ?_, ?_⟩
  · rw [State.val_noteReason, marked]
  · rw [State.Raises, State.noteReason_fc]
    rfl
  · exact State.noteReason_plots _ _

theorem steadyObject_thrAt (n : Nat) : steadyObject (O.thermThresh + 2 * thermClass n) = true := by
  have cases : thermClass n = 0 ∨ thermClass n = 1 ∨ thermClass n = 2 ∨ thermClass n = 3 ∨ thermClass n = 4 := by
    unfold thermClass
    split_ifs <;> decide
  rcases cases with c | c | c | c | c <;> rw [c] <;> decide

theorem completes_thermThrottle (s : State) (n : Fin 90) (v : Int) (inv : s.Inv) (aon : s.pwr.aon = true)
    (hot : s.thrAt (thermClass n) ≤ (s.sense [(n.val, v)]).reading n) (electric : thermClass n ≠ 4) :
    Completes (.thermThrottle n v) s fun t =>
      (s.sense [(n.val, v)]).Raises t Sc.thermThrottle ∧ t.pwr.hot = setBit s.pwr.hot n true ∧ (thermClass n = 3 → t.pwr.nandPause = true) ∧
      (thermClass n = 1 → t.pwr.refresh2x = setBit s.pwr.refresh2x (n.val - 74) true) ∧ (thermClass n ≤ 2 → t.pwr.capStepAt.isSome = true) := by
  obtain ⟨-, -, objs, -⟩ := inv
  have steady := State.sense_steady s [(n.val, v)]
  let u := s.sense [(n.val, v)]
  have thr : u.thrAt (thermClass n) = s.thrAt (thermClass n) :=
    congrArg (fun v : Nat => sext 16 v) ((steady.objs objs).2 _ (steadyObject_thrAt n))
  have hotBits : u.pwr.hot = s.pwr.hot := by rw [steady.pwr]
  have refresh : u.pwr.refresh2x = s.pwr.refresh2x := by rw [steady.pwr]
  let w : State := { u with pwr := { u.pwr with
    hot := setBit u.pwr.hot n true,
    capStepAt := (if u.pwr.capStepAt.isNone && decide (thermClass n ≤ 2) then some u.now else u.pwr.capStepAt),
    refresh2x := (if thermClass n = 1 then setBit u.pwr.refresh2x (n.val - 74) true else u.pwr.refresh2x),
    nandPause := u.pwr.nandPause || thermClass n == 3 } }
  have runs : exec (.thermThrottle n v) s = .next (w.raise Sc.thermThrottle) := by
    rw [exec, execThermThrottle, aon]
    refine (if_neg (Int.not_lt.mpr (le_of_eq_of_le thr hot))).trans ?_
    exact congrArg Host.Outcome.next (if_neg electric)
  refine ⟨_, runs, rfl, congrArg (setBit · n true) hotBits, fun c => ?_, fun c => ?_, fun c => ?_⟩
  · simp [w, State.raise, c]
  · simp [w, State.raise, c, refresh]
  · show (if u.pwr.capStepAt.isNone && decide (thermClass n ≤ 2) then some u.now else u.pwr.capStepAt).isSome = true
    rw [decide_eq_true c]
    cases u.pwr.capStepAt <;> rfl

/-- Settles O8: the envelope's commands are writes of the power state with their counter and source; a reading's own engine work (a part whose
sensors have all failed is held off) leaves limits, latches and thresholds as they are. -/
theorem envelopeAndThermalComplete : Obligations.EnvelopeAndThermalComplete :=
  ⟨completes_powerSummation, completes_peakLimit, fun s _ => completes_headlandSilent s, completes_shedAssert, completes_shedDeassert,
   fun s _ => completes_shedReleaseStep s, completes_thermThrottle, fun s l _ => completes_thermCapStep s l, completes_thermAlarm,
   fun s n v _ => completes_thermTrip s n v, completes_thermTrip_optical,
   fun s n inv aon good small spare => completes_sensorFailed s n inv aon good spare small⟩

end Sys2Proof.Machine
end

section
namespace Sys2Proof.Machine

/-! ### Clocks (R81-R86) -/

theorem completes_rackrefLost (s : State) (inv : s.Inv) (valid : s.pwr.refValid = true) :
    Completes (.rackrefLost) s fun t =>
      t.pwr.refValid = false ∧ t.pwr.tickRef = false ∧ s.Counts t O.tickSwitchCount ∧ (s.time.state = .aligned → t.time.state = .holdover) ∧
      ({ source := Sc.tickRefLost } : Event) ∈ t.fc.ring ∧ (s.pllOn = true → ({ source := Sc.pllHoldover } : Event) ∈ t.fc.ring) := by
  obtain ⟨-, -, objs, -⟩ := inv
  let hold := b2n s.pllOn + 2 * b2n (s.pllOn && s.dieOn 0) + 4 * b2n (s.pllOn && s.dieOn 1) + 8 * b2n s.pwr.hfast
  let locked := hold != 0 || !s.plotPlls.isEmpty
  let u : State := { s with pwr := { s.pwr with refValid := false, tickRef := false, holdover := hold },
                            time := { s.time with state := (if s.time.state == .aligned then .holdover else s.time.state) } }
  let v := (u.bump O.tickSwitchCount).raise Sc.tickRefLost
  have runs : exec (.rackrefLost) s = .next (v.raiseIf locked Sc.pllHoldover) := by
    rw [exec, execRackrefLost, valid]
    rfl
  have kept := State.raiseIf_keeps v locked Sc.pllHoldover {}
  have pwr : (v.raiseIf locked Sc.pllHoldover).pwr = u.pwr := (kept.kpwr rfl).trans (State.bump_pwr u _)
  have od : (v.raiseIf locked Sc.pllHoldover).od = (u.bump O.tickSwitchCount).od := kept.kod rfl
  have time : (v.raiseIf locked Sc.pllHoldover).time = u.time := (kept.ktime rfl).trans ((State.bump_keeps u _).ktime rfl)
  have raised : ({ source := Sc.tickRefLost } : Event) ∈ v.fc.ring := List.mem_append_right _ (List.mem_singleton.mpr rfl)
  refine ⟨_, runs, ?_, ?_, ?_, fun aligned => ?_, ?_, fun pll => ?_⟩
  · rw [pwr]
  · rw [pwr]
  · rw [State.Counts, State.val, od]
    exact State.val_bump u O.tickSwitchCount objs (by decide)
  · rw [time]
    exact if_pos (beq_iff_eq.mpr aligned)
  · unfold State.raiseIf
    split
    · exact List.mem_append_left _ raised
    · exact raised
  · have on : locked = true := by
      have one : hold ≠ 0 := by
        simp only [hold, pll, b2n, if_true]
        omega
      simp [locked, one]
    rw [on]
    exact List.mem_append_right _ (List.mem_singleton.mpr rfl)

theorem completes_rackrefRestored (s : State) (lost : s.pwr.refValid = false) (aon : s.pwr.aon = true) :
    Completes (.rackrefRestored) s fun t =>
      t.pwr.refValid = true ∧ t.pwr.refEver = true ∧ t.pwr.refSince = s.now ∧ t.pwr.tickRef = true ∧ t.pwr.holdover = 0 := by
  rw [Completes, exec, execRackrefRestored, lost, aon]
  refine ⟨_, rfl, ?_⟩
  rw [(State.refreshPorts_steady _).pwr]
  exact ⟨rfl, rfl, rfl, rfl, rfl⟩

theorem completes_tickTrimUpdate (s : State) (v : Word32) (inv : s.Inv) (valid : s.pwr.refValid = true) (running : s.hl.running = true) :
    Completes (.tickTrimUpdate v) s fun t =>
      t.val (calOrigin 0x2840) = 2 ∧ t.val (calValue 0x2840) = v.toNat ∧ t.pwr = s.pwr ∧ t.reg = s.reg := by
  obtain ⟨-, -, objs, -⟩ := inv
  have runs : exec (.tickTrimUpdate v) s = .next (s.setCal 0x2840 2 v.toNat) := by
    rw [exec, execTickTrimUpdate, valid, running]
    rfl
  refine ⟨_, runs, ?_, ?_, rfl, rfl⟩
  · rw [State.setCal, State.val_setVal _ _ _ _ (State.setVal_rises _ _ _ objs), if_neg (by decide), State.val_setVal_same _ _ _ objs]
  · exact State.val_setVal_same _ _ _ (State.setVal_rises _ _ _ objs)

theorem completes_rackrefAbsent (s : State) (never : s.pwr.refEver = false) (aon : s.pwr.aon = true) :
    Completes (.rackrefAbsent) s fun t => s.Raises t Sc.rackrefAbsent ∧ t.od = s.od ∧ t.pwr = s.pwr := by
  rw [Completes, exec, execRackrefAbsent, never, aon]
  exact ⟨_, rfl, rfl, rfl, rfl⟩

theorem bit_and_seven (v : Nat) : bit (v &&& 7) 3 = false := by
  rw [bit, Nat.testBit_and]
  exact Bool.and_false _

theorem completes_hfastIdleStop (s : State) (runs : s.pwr.hfast = true) (running : s.hl.running = true) (idle : s.hasWork = false) :
    Completes (.hfastIdleStop) s fun t =>
      t.pwr.hfast = false ∧ t.now = max s.now (s.pwr.hfastAt + s.val O.hfastIdle * 1000) ∧ bit t.pwr.holdover 3 = false ∧ t.od = s.od := by
  rw [Completes, exec, execHfastIdleStop, runs, running, idle]
  exact ⟨_, rfl, rfl, rfl, bit_and_seven _, rfl⟩

theorem completes_hfastStart (s : State) (aon : s.pwr.aon = true) :
    Completes (.hfastStart) s fun t => t.pwr.hfast = true ∧ t.pwr.hfastAt = s.now ∧ t.od = s.od ∧ t.reg = s.reg := by
  rw [Completes, exec, execHfastStart, aon]
  exact ⟨_, rfl, rfl, rfl, rfl, rfl⟩

/-- Settles O7: each change of the rack reference, the trim and the fast clock is its command's own write of the power state; the ports
that a restored reference lets train leave the clocks as they are. -/
theorem clocksComplete : Obligations.ClocksComplete :=
  ⟨completes_rackrefLost, completes_rackrefRestored, completes_tickTrimUpdate, completes_rackrefAbsent, completes_hfastIdleStop, completes_hfastStart⟩

end Sys2Proof.Machine
end

section
namespace Sys2Proof.Machine

/-! ### Power requests and Fallow (R69-R74, R104, R105) -/

theorem completes_pwrRequest_accepted (s : State) (r : Route) (inv : s.Inv) (served : s.served r 0x200002 = true) (up : s.pwr.mode = .up)
    (passes : (s.setVal O.pwrRequest 1).fallowFails = 0) :
    Completes (.pwrRequestWrite r 1) s fun t =>
      t.pwr.mode = .entering ∧ t.val O.pwrRequest = 1 ∧ t.val O.pwrReqStatus = 3 * 2 ^ 14 ∧ t.reg = s.reg ∧ t.hbm = s.hbm := by
  obtain ⟨-, -, objs, -⟩ := inv
  let u := s.setVal O.pwrRequest 1
  have asked : u.val O.pwrRequest = 1 := State.val_setVal_same s _ _ objs
  let v : State := { u with pwr := { s.pwr with mode := .entering, entryAbandoned := false } }
  have runs : exec (.pwrRequestWrite r 1) s = .next (v.reqStatus 3 0) := by
    have applied : u.applyRequest = v.reqStatus 3 0 := by
      rw [State.applyRequest, asked]
      exact if_pos passes
    rw [exec, execPwrRequestWrite, served, ← applied]
    simp [State.pwrRequestOp, up, u]
  refine ⟨_, runs, rfl, ?_, State.val_setVal_same v _ _ (State.setVal_rises s O.pwrRequest 1 objs), rfl, rfl⟩
  rw [State.reqStatus, State.val_setVal v _ _ _ (State.setVal_rises s O.pwrRequest 1 objs), if_neg (by decide)]
  exact asked

theorem completes_pwrRequest_refused (s : State) (r : Route) (inv : s.Inv) (served : s.served r 0x200002 = true) (up : s.pwr.mode = .up)
    (fails : (s.setVal O.pwrRequest 1).fallowFails ≠ 0) :
    Completes (.pwrRequestWrite r 1) s fun t =>
      t.pwr.mode = .up ∧ t.val O.pwrRequest = 1 ∧ t.val O.pwrReqStatus = 2 * 2 ^ 14 + (s.setVal O.pwrRequest 1).fallowFails ∧ t.reg = s.reg ∧
      t.hbm = s.hbm := by
  obtain ⟨-, -, objs, -⟩ := inv
  let u := s.setVal O.pwrRequest 1
  have asked : u.val O.pwrRequest = 1 := State.val_setVal_same s _ _ objs
  have runs : exec (.pwrRequestWrite r 1) s = .next (u.reqStatus 2 u.fallowFails) := by
    have applied : u.applyRequest = u.reqStatus 2 u.fallowFails := by
      rw [State.applyRequest, asked]
      exact if_neg fails
    rw [exec, execPwrRequestWrite, served, ← applied]
    simp [State.pwrRequestOp, up, u]
  refine ⟨_, runs, up, ?_, State.val_setVal_same u _ _ (State.setVal_rises _ _ _ objs), rfl, rfl⟩
  rw [State.reqStatus, State.val_setVal u _ _ _ (State.setVal_rises _ _ _ objs), if_neg (by decide)]
  exact asked

theorem completes_fallowWakeEvent (s : State) (c : Fin 4) (fallow : s.pwr.mode = .fallow) (running : s.hl.running = true)
    (masked : bit (s.val O.fallowWakeMask) c = true) :
    Completes (.fallowWakeEvent c) s fun t => t.pwr.mode = .waking ∧ t.pwr.wakeAt = s.now ∧ t.od = s.od ∧ t.hbm = s.hbm := by
  have runs : exec (.fallowWakeEvent c) s = .next (({ s with pwr := { s.pwr with mode := .waking, wakeAt := s.now } } : State).hlWork) := by
    simp [exec, execFallowWakeEvent, masked, State.wakeEvent, fallow, running]
  exact ⟨_, runs, rfl, rfl, rfl, rfl⟩

theorem completes_fallowMaskedEvent_request (s : State) (v : Nat) (inv : s.Inv) (fallow : s.pwr.mode = .fallow)
    (unmasked : bit (s.val O.fallowWakeMask) 1 = false) (small : v ≤ 3) :
    Completes (.fallowMaskedEvent (.request v)) s fun t => t.pwr.mode = .fallow ∧ t.val O.pwrRequest = v ∧ t.reg = s.reg ∧ t.hbm = s.hbm := by
  obtain ⟨-, -, objs, -⟩ := inv
  have runs : exec (.fallowMaskedEvent (.request v)) s = .next (s.setVal O.pwrRequest v) := by
    simp [exec, execFallowMaskedEvent, fallow, unmasked, small]
  exact ⟨_, runs, fallow, State.val_setVal_same s _ _ objs, rfl, rfl⟩

theorem completes_fallowMaskedEvent_timer (s : State) (fallow : s.pwr.mode = .fallow) (unmasked : bit (s.val O.fallowWakeMask) 3 = false)
    (set : s.val O.wakeAfterS ≠ 0) (past : s.pwr.fallowAt + s.val O.wakeAfterS * 1000000000 ≤ s.now) :
    Completes (.fallowMaskedEvent .timer) s fun t => t.pwr.mode = .fallow ∧ t.pwr.deferredTimer = true ∧ t.od = s.od := by
  have runs : exec (.fallowMaskedEvent .timer) s = .next { s with pwr := { s.pwr with deferredTimer := true } } := by
    simp [exec, execFallowMaskedEvent, fallow, unmasked, set, past]
  exact ⟨_, runs, fallow, rfl, rfl⟩

/-- What GCORE and the dies held is gone (R70, R516): the state in which Fallow is entered. -/
def State.lostForFallow (s : State) : State :=
  ((s.flushDcc (s.link.up && s.link.ltssm == .l0)).clearGcore.dropVolatile).each (List.range 16) (fun s k => s.setRg (Rg.cohWindow k) 0)

theorem State.lostForFallow_keeps (s : State) : Keeps 536969100 s s.lostForFallow := by
  refine Keeps.each ?_ fun t k h => h.step (State.setRg_keeps _ _ _) rfl
  exact ((((Keeps.refl _ s).step (State.flushDcc_keeps s _) rfl).step (State.clearGcore_keeps _) rfl).step (State.dropVolatile_keeps _) rfl)

theorem completes_fallowEntryComplete (s : State) (inv : s.Inv) (entering : s.pwr.mode = .entering) (wanted : s.pwr.entryAbandoned = false)
    (passes : s.fallowFails = 0) :
    Completes (.fallowEntryComplete) s fun t =>
      t.pwr.mode = .fallow ∧ t.pwr.fallowAt = s.now ∧ t.val O.pwrReqStatus = 2 ^ 14 ∧ t.hl = s.hl := by
  have runs : exec (.fallowEntryComplete) s = .next s.enterFallow := by
    simp [exec, execFallowEntryComplete, entering, wanted, passes]
  have lost := s.lostForFallow_keeps
  obtain ⟨-, -, objs, -⟩ := lost.kinv inv
  have od : s.enterFallow.od = kvSet (odDefault O.pwrReqStatus) s.lostForFallow.od O.pwrReqStatus (1 * 2 ^ 14 + 0) := by
    simp only [State.enterFallow, State.reqStatus, State.setVal, State.lostForFallow]
  have at_ : s.enterFallow.pwr.fallowAt = s.lostForFallow.now := by
    simp only [State.enterFallow, State.reqStatus, State.setVal, State.lostForFallow]
  refine ⟨_, runs, rfl, at_.trans (lost.know rfl), ?_, (State.enterFallow_keeps s).khl rfl⟩
  show kvGet _ s.enterFallow.od _ = _
  rw [od, kvGet_kvSet _ _ _ _ objs, if_pos rfl, Nat.one_mul, Nat.add_zero]

/-- What LOG_REFUSED notes of the window requests refused in Fallow, the first of them `h` (R72). -/
def State.notedRefused (s : State) (h : Held) : State :=
  let n := s.pwr.refused
  let s := s.each (List.range n) (fun s i =>
    s.raise Sc.mmioLate (if i = 0 then { access := if h.write then 2 else 1, masterKind := 1, addr := some h.r.off } else {}))
  let v := s.rg Rg.mmioErrCount + n
  let s := s.setRg Rg.mmioErrCount (v % 2 ^ 64)
  let s := if 2 ^ 64 ≤ v then s.setRg Rg.hostErrOvf (s.rg Rg.hostErrOvf ||| 2 ^ 2) else s
  ((s.bumpBy O.mmioLateCount n).mmioCapture .late h.win h.write h.r).attn At.mmioError

theorem State.logRefused_some {s : State} {h : Held} (first : s.pwr.refusedFirst = some h) :
    s.logRefused = { s.notedRefused h with pwr := { (s.notedRefused h).pwr with refused := 0, refusedFirst := none } } := by
  simp only [State.logRefused, first, State.notedRefused]

theorem State.notedRefused_notes (s : State) (h : Held) (objs : Rises s.od) :
    (s.notedRefused h).pwr = s.pwr ∧ (s.notedRefused h).now = s.now ∧ Rises (s.notedRefused h).od ∧
    (s.notedRefused h).val O.pwrRequest = s.val O.pwrRequest := by
  let t := s.each (List.range s.pwr.refused) (fun s i =>
    s.raise Sc.mmioLate (if i = 0 then { access := if h.write then 2 else 1, masterKind := 1, addr := some h.r.off } else {}))
  let v := t.rg Rg.mmioErrCount + s.pwr.refused
  let counted := t.setRg Rg.mmioErrCount (v % 2 ^ 64)
  let u := if 2 ^ 64 ≤ v then counted.setRg Rg.hostErrOvf (counted.rg Rg.hostErrOvf ||| 2 ^ 2) else counted
  have raised : Keeps 65544 s t := Keeps.each (Keeps.refl _ _) fun _ _ k => k.step (State.raise_keeps _ _ _) rfl
  have noted : Keeps 65544 s u := by
    refine Keeps.ite ?_ ?_
    · exact (raised.step (State.setRg_keeps _ _ _) rfl).step (State.setRg_keeps _ _ _) rfl
    · exact raised.step (State.setRg_keeps _ _ _) rfl
  have captured : ∀ w : State, Keeps 8 w ((w.mmioCapture .late h.win h.write h.r).attn At.mmioError) := fun w =>
    (State.mmioCapture_keeps _ _ _ _ _).step (State.attn_keeps _ _) rfl
  have last := captured (u.bumpBy O.mmioLateCount s.pwr.refused)
  have rises : Rises u.od := by rw [noted.kod rfl]; exact objs
  show _ ∧ _ ∧ Rises (State.attn _ _).od ∧ State.val (State.attn _ _) _ = _
  refine ⟨?_, ?_, ?_, ?_⟩
  · exact (last.kpwr rfl).trans ((State.bumpBy_pwr _ _ _).trans (noted.kpwr rfl))
  · exact (last.know rfl).trans ((State.bumpBy_now _ _ _).trans (noted.know rfl))
  · exact (last.kod rfl) ▸ State.bumpBy_rises _ _ _ rises
  · have same : u.val O.pwrRequest = s.val O.pwrRequest := by rw [State.val, State.val, noted.kod rfl]
    rw [State.val, last.kod rfl, ← same]
    exact State.val_bumpBy_other u _ _ _ rises (by decide) (by decide)

/-- Logging the requests refused in Fallow clears their count and leaves time, the other power state and the request as they are. -/
theorem State.logRefused_leaves (s : State) (objs : Rises s.od) :
    s.logRefused.pwr = { s.pwr with refused := s.logRefused.pwr.refused, refusedFirst := none } ∧ s.logRefused.now = s.now ∧
    Rises s.logRefused.od ∧ s.logRefused.val O.pwrRequest = s.val O.pwrRequest := by
  cases first : s.pwr.refusedFirst with
  | none =>
    have same : s.logRefused = s := by rw [State.logRefused, first]
    rw [same, ← first]
    exact ⟨rfl, rfl, objs, rfl⟩
  | some h =>
    obtain ⟨pwr, now, rises, request⟩ := s.notedRefused_notes h objs
    rw [State.logRefused_some first]
    exact ⟨by rw [pwr], now, rises, request⟩

/-- The core's return raises what stayed due and refreshes ports and held plots. -/
theorem State.coreOn_steady (s : State) (objs : Rises s.od) :
    s.coreOn.pwr = { s.pwr with silentDue := false, scrub := s.coreOn.pwr.scrub, temps := s.coreOn.pwr.temps,
                                plotHeldOff := s.coreOn.pwr.plotHeldOff, sensorFloor := s.coreOn.pwr.sensorFloor } ∧
    s.coreOn.now = s.now ∧ s.coreOn.val O.pwrRequest = s.val O.pwrRequest := by
  let t := s.raiseIf s.pwr.silentDue Sc.headlandSilent
  let u : State := { t with pwr := { t.pwr with silentDue := false } }
  have due := State.raiseIf_keeps s s.pwr.silentDue Sc.headlandSilent {}
  have pwr : t.pwr = s.pwr := due.kpwr rfl
  have asked := State.askHeld_keeps u.refreshPorts
  have steady : EngineSteady u s.coreOn := (State.refreshPorts_steady u).trans (.keeps asked rfl)
  have cleared : u.pwr = { s.pwr with silentDue := false } := by
    show ({ t.pwr with silentDue := false } : Power) = _
    rw [pwr]
  refine ⟨?_, (State.coreOn_keeps s).know rfl, ?_⟩
  · rw [steady.pwr, cleared]
  · have same : u.val O.pwrRequest = s.val O.pwrRequest := by
      show kvGet _ t.od _ = _
      rw [due.kod rfl, State.val]
    refine ((steady.objs ?_).2 _ (by decide)).trans same
    show Rises t.od
    rw [due.kod rfl]
    exact objs

theorem completes_fallowWakeComplete (s : State) (inv : s.Inv) (waking : s.pwr.mode = .waking) (undeferred : s.pwr.deferredTimer = false)
    (free : s.pwr.hold = []) (unasked : s.val O.pwrRequest < 2) :
    Completes (.fallowWakeComplete) s fun t =>
      t.pwr.mode = .up ∧ t.pwr.hfast = true ∧ t.now = max s.now (s.pwr.wakeAt + 180000) ∧ t.pwr.refusedFirst = none := by
  obtain ⟨-, -, objs, -⟩ := inv
  let late := s.until_ (s.pwr.wakeAt + 180000)
  let u := ({ late with pwr := { late.pwr with mode := .up } } : State).hlWork
  obtain ⟨logged, now, rises, request⟩ := State.logRefused_leaves u objs
  obtain ⟨core, now', request'⟩ := State.coreOn_steady u.logRefused rises
  let t := u.logRefused.coreOn
  have small : ¬2 ≤ t.val O.pwrRequest := by
    have same : t.val O.pwrRequest = s.val O.pwrRequest := request'.trans request
    omega
  have timer : t.pwr.deferredTimer = false := by rw [core, logged]; exact undeferred
  have hold : t.pwr.hold = [] := by rw [core, logged]; exact free
  have runs : exec (.fallowWakeComplete) s = .next t := by
    have served : t.serveHolds = t := State.serveHolds_none t hold
    rw [exec, execFallowWakeComplete, waking, ← served]
    show Host.Outcome.next (State.serveHolds (if (if 2 ≤ t.val O.pwrRequest then t.applyRequest else t).pwr.deferredTimer then _ else _)) = _
    rw [if_neg small, timer]
    rfl
  refine ⟨t, runs, ?_, ?_, ?_, ?_⟩
  · rw [core, logged]; rfl
  · rw [core, logged]; rfl
  · exact now'.trans now
  · rw [core, logged]

/-- A Completer Abort is counted; its completion's way through the queue does not count another (R308). -/
theorem State.completerAbort_counts (s : State) (r : MemReq) (posted : Bool) (objs : Rises s.od) :
    (s.completerAbort r posted).val O.caSent = (s.val O.caSent + 1) % 2 ^ 64 := by
  let u := ((s.bump O.caSent).raise Sc.hostCaSent { access := if posted then 2 else 1, addr := some r.off }).orCfg 0x004 (2 ^ 27)
  let v := u.aer Ue.completerAbort (!posted) (u.reqHeader posted r)
  have od : v.od = (s.bump O.caSent).od := (State.aer_keeps u _ _ _).kod rfl
  have counted : v.val O.caSent = (s.val O.caSent + 1) % 2 ^ 64 := by
    rw [State.val, od]
    exact State.val_bump s O.caSent objs (by decide)
  show State.val (if posted then v else (v.enqueue _).drain) _ = _
  split
  · exact counted
  · refine (((State.drain_steady (v.enqueue _)).objs ?_).2 _ (by decide)).trans counted
    show Rises v.od
    rw [od]
    exact State.bump_rises _ objs

theorem completes_holdBufferTimeout (s : State) (h : Held) (l : List Held) (inv : s.Inv) (down : s.pwr.mode ≠ .up) (held : s.pwr.hold = h :: l)
    (plain : h.cxl = none) :
    Completes (.holdBufferTimeout) s fun t => t.pwr.hold = l ∧ t.now = max s.now (h.since + 1000000) ∧ s.Counts t O.caSent := by
  obtain ⟨-, -, objs, -⟩ := inv
  let u : State := { s.until_ (h.since + 1000000) with pwr := { s.pwr with hold := l } }
  let v := if h.write then u.bump O.mmioDiscarded else u
  have runs : exec (.holdBufferTimeout) s = .next (v.completerAbort h.r h.write) := by
    simp [exec, execHoldBufferTimeout, held, down, plain, u, v, State.until_]
  have kept : Keeps 4 u v := Keeps.ite (State.bump_keeps u _) (Keeps.refl _ _)
  have aborted := State.completerAbort_keeps v h.r h.write
  have rises : Rises v.od := rel_ite (R := fun _ t : State => Rises t.od) (s := u) (State.bump_rises _ objs) objs
  have before : v.val O.caSent = s.val O.caSent :=
    rel_ite (R := fun s t : State => t.val O.caSent = s.val O.caSent) (s := u) (State.val_bump_other objs (by decide) (by decide)) rfl
  refine ⟨_, runs, ?_, ?_, ?_⟩
  · rw [aborted.kpwr rfl, kept.kpwr rfl]
  · rw [aborted.know rfl, kept.know rfl]
    rfl
  · rw [State.Counts, State.completerAbort_counts v _ _ rises, before]

/-- Settles O5: a request is a write of the power state with its status; the wake's core refreshes ports and plots but leaves the request, the
held requests and the clocks; a refused held request is counted once. -/
theorem powerRequestsComplete : Obligations.PowerRequestsComplete :=
  ⟨completes_pwrRequest_accepted, completes_pwrRequest_refused, completes_fallowWakeEvent, completes_fallowMaskedEvent_request,
   completes_fallowMaskedEvent_timer, completes_fallowEntryComplete, completes_fallowWakeComplete, completes_holdBufferTimeout⟩

end Sys2Proof.Machine
end

section
namespace Sys2Proof.Machine

/-! ### The calibration set and the straps (R98, R99, R144-R147) -/

theorem completes_calUnlock_key (s : State) (k : Word32) (served : s.served .F 0x280101 = true) (key : k.toNat = 0x5EEDCA1B)
    (free : s.cal.hold = none) :
    Completes (.calUnlock .F k) s fun t =>
      t.cal.unlockF = some (s.now + 60000000000) ∧ t.cal.unlockH = s.cal.unlockH ∧ t.od = s.od := by
  have runs : exec (.calUnlock .F k) s = .next { s with cal := { s.cal with unlockF := some (s.now + 60000000000) } } := by
    simp [exec, execCalUnlock, served, State.calUnlockOp, key, free]
  exact ⟨_, runs, rfl, rfl, rfl⟩

theorem completes_calUnlock_wrong (s : State) (k : Word32) (served : s.served .H 0x280101 = true) (wrong : k.toNat ≠ 0x5EEDCA1B)
    (some_ : k.toNat ≠ 0) (free : s.cal.hold = none) :
    Completes (.calUnlock .H k) s fun t =>
      t.cal.unlockH = s.cal.unlockH ∧ t.cal.hold = some (s.now + 10000000000) ∧ t.od = s.od := by
  have runs : exec (.calUnlock .H k) s = .next { s with cal := { s.cal with hold := some (s.now + 10000000000) } } := by
    simp [exec, execCalUnlock, served, State.calUnlockOp, wrong, some_, free]
  exact ⟨_, runs, rfl, rfl, rfl⟩

theorem completes_calUnlockExpiry (s : State) (e : Nat) (unlocked : s.cal.unlockF = some e) (other : s.cal.unlockH = none) (free : s.cal.hold = none) :
    Completes (.calUnlockExpiry) s fun t => t.cal.unlockF = none ∧ t.now = max s.now e ∧ t.od = s.od := by
  have runs : exec (.calUnlockExpiry) s = .next { s.until_ e with cal := { s.cal with unlockF := none, unlockH := none, hold := none } } := by
    simp [exec, execCalUnlockExpiry, unlocked, other, free, State.until_]
  exact ⟨_, runs, rfl, rfl, rfl⟩

theorem completes_calCommit (s : State) (r : Route) (inv : s.Inv) (served : s.served r 0x280005 = true) (unlocked : s.unlocked r = true)
    (idle : s.cal.busy = none) :
    Completes (.calCommit r 1) s fun t => t.cal.busy = some s.now ∧ t.val O.calCommitStatus = 1 ∧ t.cal.stored = s.cal.stored := by
  obtain ⟨-, -, objs, -⟩ := inv
  let u : State := { s with cal := { s.cal with busy := some s.now } }
  have runs : exec (.calCommit r 1) s = .next (u.setVal O.calCommitStatus 1) := by
    simp [exec, execCalCommit, served, State.calCommitOp, unlocked, idle, u]
  exact ⟨_, runs, rfl, State.val_setVal_same u _ _ objs, rfl⟩

/-- The store of a commit's end (R99): the status, the state and the set's CRC. -/
def State.storeCommit (s : State) (crc : Nat) : State := ((s.setVal O.calCommitStatus 2).setVal O.calState 0).setVal O.calCrc crc

theorem State.storeCommit_stores (s : State) (crc : Nat) (h : Rises s.od) :
    (s.storeCommit crc).val O.calCommitStatus = 2 ∧ (s.storeCommit crc).val O.calState = 0 ∧
    (s.storeCommit crc).val O.calCommits = s.val O.calCommits := by
  simp (disch := apply_rules [State.setVal_rises, h]) [State.storeCommit, State.val_setVal, O.calCommitStatus, O.calState, O.calCrc, O.calCommits]

theorem completes_calCommitDone (s : State) (b : Nat) (inv : s.Inv) (busy : s.cal.busy = some b) (alone : s.cal.resetWaits = false) :
    Completes (.calCommitDone) s fun t =>
      t.cal.busy = none ∧ t.cal.crcOk = true ∧ t.val O.calCommitStatus = 2 ∧ t.val O.calState = 0 ∧ s.Counts t O.calCommits ∧
      t.cal.stored = calItems.map (fun i => (i, s.val (calOrigin i), s.val (calValue i))) := by
  obtain ⟨-, -, objs, -⟩ := inv
  let set := calItems.map (fun i => (i, s.val (calOrigin i), s.val (calValue i)))
  let crc := s.draw.1 % 2 ^ 32
  let u : State := { s.draw.2 with cal := { s.cal with busy := none, stored := set, crcOk := true, crc := some crc, resetWaits := false } }
  have runs : exec (.calCommitDone) s = .next ((u.storeCommit crc).bump O.calCommits) := by
    rw [exec, execCalCommitDone, busy, alone]
    rfl
  have rises : Rises (u.storeCommit crc).od := State.setVal_rises _ _ _ (State.setVal_rises _ _ _ (State.setVal_rises u _ _ objs))
  have cal : ((u.storeCommit crc).bump O.calCommits).cal = u.cal := (State.bump_keeps (u.storeCommit crc) _).kcal rfl
  have val : ∀ k, k ≠ O.calCommits → k ≠ O.calCommits / 256 * 256 + 0xFE →
      ((u.storeCommit crc).bump O.calCommits).val k = (u.storeCommit crc).val k := fun k ne ne' => State.val_bump_other rises ne ne'
  obtain ⟨status, state, commits⟩ := State.storeCommit_stores u crc objs
  refine ⟨_, runs, congrArg Calib.busy cal, congrArg Calib.crcOk cal, ?_, ?_, ?_, congrArg Calib.stored cal⟩
  · rw [val _ (by decide) (by decide), status]
  · rw [val _ (by decide) (by decide), state]
  · rw [State.Counts, State.val_bump _ _ rises (by decide), commits]
    rfl

/-- The store of a strap sample (R144-R146): what STRAP_SAMPLE notes of the levels `v`, taken at try `n`. -/
def State.putStraps (s : State) (v addrOk status n : Nat) : State :=
  let s := ((s.setVal O.strapSampled v).setVal O.pkgAddr (fld v 11 6 * 64 + fld v 5 2 * 4 + fld v 1 0)).setVal O.pkgAddrValid addrOk
  let s := ((s.setVal O.t1sNode (fld v 1 0 + 1)).setVal O.hostMode (1 - fld v 13 13)).setVal O.strapStatus status
  s.setVal O.strapTries n

theorem State.putStraps_stores (s : State) (v addrOk status n : Nat) (h : Rises s.od) :
    (s.putStraps v addrOk status n).val O.strapSampled = v ∧ (s.putStraps v addrOk status n).val O.strapTries = n ∧
    (s.putStraps v addrOk status n).val O.strapStatus = status ∧ (s.putStraps v addrOk status n).val O.pkgAddrValid = addrOk ∧
    (s.putStraps v addrOk status n).val O.pkgAddr = fld v 11 6 * 64 + fld v 5 2 * 4 + fld v 1 0 ∧
    (s.putStraps v addrOk status n).val O.hostMode = 1 - fld v 13 13 ∧ (s.putStraps v addrOk status n).val O.t1sNode = fld v 1 0 + 1 := by
  simp (disch := apply_rules [State.setVal_rises, h]) [State.putStraps, State.val_setVal, O.strapSampled, O.pkgAddr, O.pkgAddrValid, O.t1sNode,
    O.hostMode, O.strapStatus, O.strapTries]

theorem completes_strapSample (s : State) (tries : List (List Nat)) (v k : Nat) (inv : s.Inv) (aon : s.pwr.aon = true) (held : s.pwr.modrst = false)
    (fresh : s.val O.strapTries = 0) (stable : firstStable 16 tries 1 = some (v, k)) (parity : parityOk v = true) :
    Completes (.strapSample tries) s fun t =>
      t.val O.strapSampled = v ∧ t.val O.strapTries = k ∧ t.val O.strapStatus = 0 ∧ t.val O.pkgAddrValid = 1 ∧
      t.val O.pkgAddr = fld v 11 6 * 64 + fld v 5 2 * 4 + fld v 1 0 ∧ t.val O.hostMode = 1 - fld v 13 13 ∧ t.val O.t1sNode = fld v 1 0 + 1 := by
  obtain ⟨-, -, objs, -⟩ := inv
  have runs : exec (.strapSample tries) s =
      .next { s.putStraps v 1 0 k with pwr := { s.pwr with pins := (((tries.take 16).getLastD []).getLastD 0) % 2 ^ 15 } } := by
    simp [exec, execStrapSample, aon, held, fresh, stable, parity, State.putStraps]
  refine ⟨_, runs, ?_⟩
  simp only [State.val]
  exact State.putStraps_stores s v 1 0 k objs

theorem completes_strapChanged (s : State) (n : Fin 15) (inv : s.Inv) (aon : s.pwr.aon = true) (sampled : s.val O.strapTries ≠ 0)
    (strap : bit (s.val O.gpEnable) n = false) :
    Completes (.strapChanged n) s fun t =>
      t.val O.strapChanged = s.val O.strapChanged ||| 2 ^ n.val ∧ t.pwr.pins = setBit s.pwr.pins n (!bit s.pwr.pins n) ∧ s.Raises t Sc.strapChanged := by
  obtain ⟨-, -, objs, -⟩ := inv
  let u : State := { s with pwr := { s.pwr with pins := setBit s.pwr.pins n (!bit s.pwr.pins n) } }
  have runs : exec (.strapChanged n) s = .next ((u.setVal O.strapChanged (s.val O.strapChanged ||| 2 ^ n.val)).raise Sc.strapChanged) := by
    rw [exec, execStrapChanged, aon, Bool.not_true, Bool.false_or, decide_eq_false sampled]
    exact if_neg (Bool.eq_false_iff.mp strap)
  exact ⟨_, runs, State.val_setVal_same u _ _ objs, rfl, rfl⟩

/-- Settles O9: each clause is the store of its command; the objects it names are distinct. -/
theorem calibrationCompletes : Obligations.CalibrationCompletes :=
  ⟨completes_calUnlock_key, completes_calUnlock_wrong, completes_calUnlockExpiry, completes_calCommit, completes_calCommitDone,
   completes_strapSample, completes_strapChanged⟩

end Sys2Proof.Machine
end

section
namespace Sys2Proof.Machine

/-! ### The module's power cycle (R63, R64, R121, R135, R161) -/

/-- What AON keeps of the power state across its loss of power (R65, R161). -/
def Power.kept (p : Power) : Power :=
  { ovHold := p.ovHold, brownAt := p.brownAt, bulkAt := p.bulkAt, modrst := p.modrst, perst := p.perst, brownBefore := p.brownBefore,
    tripBefore := p.tripBefore, temps := p.temps, tripped := p.tripped, tripClass := p.tripClass, pins := p.pins }

theorem State.cold_pwr (s : State) : s.cold.pwr = s.pwr.kept := by
  have torn : (((s.tearCal.tearFw).rotPowerLoss).abortErases.chooseBank).pwr = s.pwr := by
    rw [(State.chooseBank_keeps _).kpwr rfl, (State.abortErases_keeps _).kpwr rfl, (State.rotPowerLoss_keeps _).kpwr rfl,
      (State.tearFw_keeps _).kpwr rfl, (State.tearCal_keeps _).kpwr rfl]
  unfold State.cold
  extract_lets s1 s2 bank kept r0 r1 r2 t1 t2 m r3
  refine ((State.bindMigRow_keeps _).kpwr rfl).trans ?_
  refine ((State.restore_keeps t1 (fun _ => true)).kpwr rfl).trans ?_
  show s2.pwr.kept = _
  rw [torn]

/-- The objects that a start stores (R135, R161). -/
def State.noteStart (s : State) (causes why : Nat) : State :=
  ((((s.setVal O.resetCause causes).setVal O.lastStartCause why).setVal O.tripSensor 0).bump O.powerOnCount).setVal O.startPhase 1

theorem State.noteStart_rises (s : State) (causes why : Nat) (h : Rises s.od) : Rises (s.noteStart causes why).od :=
  State.setVal_rises _ _ _ (State.bump_rises _ (State.setVal_rises _ _ _ (State.setVal_rises _ _ _ (State.setVal_rises _ _ _ h))))

theorem State.noteStart_stores (s : State) (causes why : Nat) (h : Rises s.od) :
    (s.noteStart causes why).val O.resetCause = causes ∧ (s.noteStart causes why).val O.lastStartCause = why ∧
    (s.noteStart causes why).val O.startPhase = 1 := by
  let t := ((s.setVal O.resetCause causes).setVal O.lastStartCause why).setVal O.tripSensor 0
  have rises : Rises t.od := State.setVal_rises _ _ _ (State.setVal_rises _ _ _ (State.setVal_rises _ _ _ h))
  have stored : t.val O.resetCause = causes ∧ t.val O.lastStartCause = why := by
    simp (disch := apply_rules [State.setVal_rises, h]) [t, State.val_setVal, O.resetCause, O.lastStartCause, O.tripSensor]
  have rest : ∀ k, k ≠ O.startPhase → k ≠ O.powerOnCount → k ≠ O.powerOnCount / 256 * 256 + 0xFE →
      (s.noteStart causes why).val k = t.val k := fun k ne ne' ne'' => by
    refine (State.val_setVal (t.bump O.powerOnCount) O.startPhase k 1 (State.bump_rises _ rises)).trans ?_
    rw [if_neg ne, State.val_bump_other rises ne' ne'']
  refine ⟨?_, ?_, State.val_setVal_same _ _ _ (State.bump_rises _ rises)⟩
  · rw [rest _ (by decide) (by decide) (by decide), stored.1]
  · rw [rest _ (by decide) (by decide) (by decide), stored.2]

theorem EngineSteady.mode {s t : State} (h : EngineSteady s t) : t.pwr.mode = s.pwr.mode := by rw [h.pwr]
theorem EngineSteady.aon {s t : State} (h : EngineSteady s t) : t.pwr.aon = s.pwr.aon := by rw [h.pwr]
theorem EngineSteady.modrst {s t : State} (h : EngineSteady s t) : t.pwr.modrst = s.pwr.modrst := by rw [h.pwr]
theorem EngineSteady.startAt {s t : State} (h : EngineSteady s t) : t.pwr.startAt = s.pwr.startAt := by rw [h.pwr]

/-- A start of a module that no trip holds: start-up step 1, AON on, the cause a brown-out's before the caller's `why`, a trip's before both. -/
theorem State.startUp_starts (s : State) (why : Nat) (bits : List Nat) (keep : Bool) (inv : s.Inv) (cool : s.pwr.tripped = false) :
    let t := s.startUp why bits keep
    t.pwr.mode = .starting ∧ t.pwr.aon = true ∧ t.pwr.modrst = s.pwr.modrst ∧ t.pwr.startAt = s.now ∧ Rises t.od ∧ t.val O.startPhase = 1 ∧
    t.val O.lastStartCause = (if s.pwr.tripBefore then 2 else if s.pwr.brownBefore then 1 else why) ∧
    t.val O.resetCause = (bits ++ (if s.pwr.brownBefore then [2] else []) ++ (if s.pwr.tripBefore then [3] else [])).foldl (fun m n => m ||| 2 ^ n)
      (if keep then s.val O.resetCause else 0) := by
  have pwr := s.cold_pwr
  obtain ⟨-, -, objs, -⟩ := (State.cold_keeps s).kinv inv
  let t1 := s.cold
  let causes := (bits ++ (if s.pwr.brownBefore then [2] else []) ++ (if s.pwr.tripBefore then [3] else [])).foldl (fun m n => m ||| 2 ^ n)
      (if keep then s.val O.resetCause else 0)
  let why' := if s.pwr.tripBefore then 2 else if s.pwr.brownBefore then 1 else why
  let t2 := if s.pwr.brownBefore then t1.bump O.brownoutCount else t1
  let p : Power := { t2.pwr with mode := .starting, aon := true, startAt := t2.now, hfast := true, hfastAt := t2.now, brownBefore := false, tripBefore := false, tripped := false, tripClass := 0, ovHold := none }
  let t3 : State := { t2 with pwr := p }
  have untripped : s.cold.pwr.tripped = false := by rw [pwr]; exact cool
  have brown : s.cold.pwr.brownBefore = s.pwr.brownBefore := by rw [pwr]; rfl
  have trip : s.cold.pwr.tripBefore = s.pwr.tripBefore := by rw [pwr]; rfl
  have starts : s.startUp why bits keep = t3.noteStart causes why' := by
    simp only [State.startUp, untripped, brown, trip, Bool.false_and, Bool.false_eq_true, if_false]
    rfl
  have rises : Rises t2.od := rel_ite (R := fun _ t : State => Rises t.od) (s := t1) (State.bump_rises _ objs) objs
  have kept : Keeps 4 t1 t2 := Keeps.ite (State.bump_keeps _ _) (Keeps.refl _ _)
  have now : t2.now = s.now := (kept.know rfl).trans ((State.cold_keeps s).know rfl)
  have held : t2.pwr.modrst = s.pwr.modrst := by rw [kept.kpwr rfl, pwr]; rfl
  obtain ⟨causes', why'', phase⟩ := State.noteStart_stores t3 causes why' rises
  intro t
  have same : t = t3.noteStart causes why' := starts
  have power : t.pwr = p := by
    rw [same]
    exact State.bump_pwr _ _
  refine ⟨by rw [power], by rw [power], by rw [power]; exact held, by rw [power]; exact now, ?_, ?_, ?_, ?_⟩
  · rw [same]; exact State.noteStart_rises t3 causes why' rises
  · rw [same]; exact phase
  · rw [same]; exact why''
  · rw [same]; exact causes'

/-- The state that POWER_ON starts: the hold-off of an overvoltage past, readings taken, the bulk capacitors charging (R63, R135). -/
def State.powered (s : State) (l : List (Nat × Int)) : State :=
  let s := (match s.pwr.ovHold with | some x => s.until_ (x + 10000000) | none => s).takeReadings l
  { s with pwr := { s.pwr with bulkAt := s.now + 30000000 } }

theorem State.powered_now (s : State) (l : List (Nat × Int)) :
    (s.powered l).now = (match s.pwr.ovHold with | some x => max s.now (x + 10000000) | none => s.now) := by
  unfold State.powered
  cases s.pwr.ovHold <;> rfl

theorem State.powered_keeps (s : State) (l : List (Nat × Int)) : Keeps 33554433 s (s.powered l) := by
  refine Keeps.setpwr (m := 33554433) _ ?_ rfl
  refine Keeps.step ?_ (State.takeReadings_keeps _ _) rfl
  cases s.pwr.ovHold with
  | none => exact Keeps.refl _ _
  | some x => exact (Keeps.refl _ s).step (State.until__keeps _ _) rfl

theorem State.powered_pwr (s : State) (l : List (Nat × Int)) :
    (s.powered l).pwr = { s.pwr with temps := (s.powered l).pwr.temps, bulkAt := (s.powered l).pwr.bulkAt } := by
  unfold State.powered
  cases s.pwr.ovHold <;> rfl

theorem completes_powerOn (s : State) (ms : Nat) (l : List (Nat × Int)) (inv : s.Inv) (off : s.pwr.mode = .off) (dark : s.pwr.aon = false)
    (free : s.pwr.modrst = false) (cool : s.pwr.tripped = false) :
    Completes (.powerOn ms l) s fun t =>
      t.pwr.mode = .starting ∧ t.pwr.aon = true ∧ t.val O.startPhase = 1 ∧ t.val O.inrushMs = ms % 65536 ∧
      t.val O.lastStartCause = (if s.pwr.tripBefore then 2 else if s.pwr.brownBefore then 1 else 0) ∧
      t.pwr.startAt = (match s.pwr.ovHold with | some x => max s.now (x + 10000000) | none => s.now) := by
  let u := s.powered l
  have upwr := s.powered_pwr l
  have cool' : u.pwr.tripped = false := by rw [upwr]; exact cool
  obtain ⟨mode, aon, -, at_, rises, phase, why, -⟩ := State.startUp_starts u 0 [0] false ((s.powered_keeps l).kinv inv) cool'
  let v := (u.startUp 0 [0] false).setVal O.inrushMs (ms % 65536)
  have vpwr : v.pwr = (u.startUp 0 [0] false).pwr := (State.setVal_keeps _ _ _).kpwr rfl
  have steady := State.sense_steady v l
  have runs : exec (.powerOn ms l) s = .next (v.sense l) := by
    rw [exec, execPowerOn, off, dark]
    cases hold : s.pwr.ovHold <;> simp [State.takeReadings, State.until_, free, dark, v, u, State.powered, hold]
  have val : ∀ k, steadyObject k = true → (v.sense l).val k = v.val k := (steady.objs (State.setVal_rises _ _ _ rises)).2
  have started : ∀ k, k ≠ O.inrushMs → v.val k = (u.startUp 0 [0] false).val k := fun k ne => by
    rw [State.val_setVal _ _ _ _ rises, if_neg ne]
  refine ⟨_, runs, ?_, ?_, ?_, ?_, ?_, ?_⟩
  · rw [steady.mode, vpwr]; exact mode
  · rw [steady.aon, vpwr]; exact aon
  · rw [val _ (by decide), started _ (by decide), phase]
  · rw [val _ (by decide), State.val_setVal_same _ _ _ rises]
  · rw [val _ (by decide), started _ (by decide), why, upwr]
  · rw [steady.startAt, vpwr]; exact at_.trans (s.powered_now l)

theorem completes_brownout (s : State) (aon : s.pwr.aon = true) :
    Completes (.brownout) s fun t =>
      t.pwr.mode = .off ∧ t.pwr.aon = false ∧ t.pwr.brownBefore = true ∧ t.pwr.brownAt = some t.now ∧ t.hbm = [] ∧ t.plots = [] ∧
      t.hl.running = false ∧ t.link = {} := by
  rw [Completes, exec, execBrownout, State.brownoutOp, aon]
  simp only [Bool.not_true, Bool.and_false, Bool.false_eq_true, if_false]
  exact ⟨_, rfl, rfl, rfl, rfl, rfl, rfl, rfl, rfl, rfl⟩

theorem State.goDark_ovHold (s : State) (aon : Bool) : (s.goDark aon).pwr.ovHold = s.pwr.ovHold := by
  have lost : s.abortErases.loseSlice.pwr = s.pwr := ((State.loseSlice_keeps _).kpwr rfl).trans ((State.abortErases_keeps _).kpwr rfl)
  show s.abortErases.loseSlice.pwr.ovHold = _
  rw [lost]

theorem completes_inputOv (s : State) (aon : s.pwr.aon = true) :
    Completes (.inputOv) s fun t =>
      t.pwr.mode = .off ∧ t.pwr.aon = false ∧ t.pwr.ovHold.isSome = true ∧ t.hbm = [] ∧ t.plots = [] ∧ t.hl.running = false := by
  let u : State := { s with pwr := { s.pwr with ovHold := some s.now } }
  let v := (((u.raise 0x001).raise Sc.brownout).bump O.brownoutCount).sendPowerLoss
  have pwr : (v.tearCal.tearFw).pwr = u.pwr := by
    rw [(State.tearFw_keeps _).kpwr rfl, (State.tearCal_keeps _).kpwr rfl, (State.sendPowerLoss_keeps _).kpwr rfl, State.bump_pwr]
    rfl
  rw [Completes, exec, execInputOv, State.brownoutOp, aon]
  simp only [Bool.not_true, Bool.and_false, Bool.false_eq_true, if_false, if_true]
  refine ⟨_, rfl, rfl, rfl, ?_, rfl, rfl, rfl⟩
  show ((v.tearCal.tearFw).goDark false).pwr.ovHold.isSome = true
  rw [State.goDark_ovHold, pwr]
  rfl

theorem completes_inputDip (s : State) (inv : s.Inv) (aon : s.pwr.aon = true) :
    Completes (.inputDip) s fun t => s.Counts t O.dipCount ∧ t.pwr = s.pwr ∧ t.reg = s.reg ∧ t.hbm = s.hbm := by
  obtain ⟨-, -, objs, -⟩ := inv
  have runs : exec (.inputDip) s = .next (s.bump O.dipCount) := by
    rw [exec, execInputDip, aon]
    rfl
  exact ⟨_, runs, State.val_bump s _ objs (by decide), State.bump_pwr _ _, State.bump_reg _ _, (State.bump_keeps _ _).khbm rfl⟩

theorem completes_moduleResetAssert (s : State) (free : s.pwr.modrst = false) (aon : s.pwr.aon = true) :
    Completes (.moduleResetAssert) s fun t =>
      t.pwr.mode = .off ∧ t.pwr.aon = true ∧ t.pwr.modrst = true ∧ t.hbm = [] ∧ t.plots = [] ∧ t.hl.running = false ∧ t.link = {} := by
  have on : (s.bump O.signalChanges).pwr.aon = true := by rw [State.bump_pwr]; exact aon
  rw [Completes, exec, execModuleResetAssert, free]
  simp only [Bool.false_eq_true, if_false, on, Bool.not_true]
  exact ⟨_, rfl, rfl, rfl, rfl, rfl, rfl, rfl, rfl⟩

theorem completes_moduleResetDeassert (s : State) (l : List (Nat × Int)) (inv : s.Inv) (held : s.pwr.modrst = true) (aon : s.pwr.aon = true)
    (cool : s.pwr.tripped = false) (calm : s.pwr.tripBefore = false) :
    Completes (.moduleResetDeassert l) s fun t =>
      t.pwr.mode = .starting ∧ t.pwr.modrst = false ∧ t.val O.startPhase = 1 ∧ t.val O.lastStartCause = (if s.pwr.brownBefore then 1 else 3) ∧
      s.Counts t O.signalChanges ∧ bit (t.val O.resetCause) 1 = true := by
  let u : State := { s with pwr := { s.pwr with modrst := false } }
  let v := u.bump O.signalChanges
  let w := v.takeReadings l
  obtain ⟨-, -, objs, -⟩ := id inv
  have vpwr : v.pwr = u.pwr := State.bump_pwr _ _
  have keeps : Keeps 33554436 s w := by
    refine Keeps.step ?_ (State.takeReadings_keeps _ _) rfl
    refine Keeps.step ?_ (State.bump_keeps _ _) rfl
    exact (Keeps.refl _ s).setpwr (m := 33554436) _ rfl
  have cool' : w.pwr.tripped = false := by show v.pwr.tripped = false; rw [vpwr]; exact cool
  have calm' : w.pwr.tripBefore = false := by show v.pwr.tripBefore = false; rw [vpwr]; exact calm
  have brown : w.pwr.brownBefore = s.pwr.brownBefore := by show v.pwr.brownBefore = _; rw [vpwr]
  have free : w.pwr.modrst = false := by show v.pwr.modrst = false; rw [vpwr]
  obtain ⟨mode, -, rst, -, rises, phase, why, causes⟩ := State.startUp_starts w 3 [1] true (keeps.kinv inv) cool'
  have released : (w.startUp 3 [1] true).pwr.modrst = false := rst.trans free
  let x := (w.startUp 3 [1] true).setVal O.signalChanges (v.val O.signalChanges)
  have xpwr : x.pwr = (w.startUp 3 [1] true).pwr := (State.setVal_keeps _ _ _).kpwr rfl
  have steady := State.sense_steady x l
  have runs : exec (.moduleResetDeassert l) s = .next (x.sense l) := by
    have on : v.pwr.aon = true := by rw [vpwr]; exact aon
    rw [exec, execModuleResetDeassert, held]
    refine (if_neg (by decide)).trans ?_
    exact if_neg (by rw [on]; decide)
  have val : ∀ k, steadyObject k = true → (x.sense l).val k = x.val k := (steady.objs (State.setVal_rises _ _ _ rises)).2
  have started : ∀ k, k ≠ O.signalChanges → x.val k = (w.startUp 3 [1] true).val k := fun k ne => by
    rw [State.val_setVal _ _ _ _ rises, if_neg ne]
  refine ⟨_, runs, ?_, ?_, ?_, ?_, ?_, ?_⟩
  · rw [steady.mode, xpwr]; exact mode
  · rw [steady.modrst, xpwr]; exact released
  · exact (val _ (by decide)).trans ((started _ (by decide)).trans phase)
  · rw [val _ (by decide), started _ (by decide), why, calm', brown]
    rfl
  · rw [State.Counts, val _ (by decide)]
    refine (State.val_setVal_same _ _ _ rises).trans ?_
    exact State.val_bump u _ objs (by decide)
  · rw [val _ (by decide), started _ (by decide), causes, calm']
    cases w.pwr.brownBefore with
    | false => exact bit_or_two_pow _ 1
    | true => exact (Nat.testBit_or _ _ 1).trans (by rw [show Nat.testBit _ 1 = true from bit_or_two_pow _ 1, Bool.true_or])

/-- Settles O10: every way down goes through the same loss of power, every way up through the same start; the readings sensed after a start touch
no object that it stored. -/
theorem powerCycleCompletes : Obligations.PowerCycleCompletes :=
  ⟨completes_powerOn, completes_brownout, completes_inputOv, completes_inputDip, completes_moduleResetAssert, completes_moduleResetDeassert⟩

end Sys2Proof.Machine
end

section
namespace Sys2Proof.Machine

set_option Elab.async false

/-! ### RESET_COMPLETE of a Tramline die can write HBM (R120)

With its die out of reset, every port is judged anew; a port that is up where it may not be is dropped, and the requests that left by it fail.
A row whose transfer is finished is then settled, and its stamp goes to HBM. -/

/-- A die in reset while its port 0 stands up and row 0 has a finished transfer whose stamp goes to HBM and whose stile write left by that port. -/
def dieResetWithStamp : State :=
  { State.reset with
    reg := [(Rg.row 0 0x28, 2 ^ 22)]
    fab := { State.reset.fab with
      dieReset := [0]
      ports := [(0, { state := .up })]
      reqs := [{ tag := 0, kind := .stileWrite, dst := 0, owner := .row 0 0 0 0 }] }
    drill := { State.reset.drill with
      rows := [(0, { state := .active
                     xfers := [{ src := .direct, d := { stampEn := true, stampValue := 1 }, stampAt := some (.hbm 0), finished := some (0, 0) }] })] } }

theorem dieResetWithStamp_inv : dieResetWithStamp.Inv :=
  ⟨rfl, rfl, rfl, rfl, rfl, rfl, ⟨rfl, fun _ listed => absurd listed List.not_mem_nil⟩, rfl, rfl, rfl, rfl, rfl, rfl⟩

/-- What a command leaves, read by `f`: for a state of which every part is written out, a value that evaluates. -/
def leaves {α : Type} (c : Instr) (s : State) (f : State → α) : Option α := match exec c s with | .next t => some (f t) | _ => none

theorem leaves_of_next {α : Type} {c : Instr} {s t : State} (f : State → α) (runs : exec c s = .next t) : leaves c s f = some (f t) := by
  rw [leaves, runs]

theorem dieReset_stamps : leaves (.resetComplete (.tram 0)) dieResetWithStamp (fun t => memByte t.hbm 0) = some 1 := by decide +kernel

/-- Refutes O11: RESET_COMPLETE of a Tramline die does not always leave HBM, for the state `dieResetWithStamp` ends with a stamp there. -/
theorem not_hostResetCompletes : ¬ Obligations.HostResetCompletes := by
  rintro ⟨-, -, -, -, -, -, -, resetComplete, -⟩
  obtain ⟨t, runs, -, hbm⟩ := resetComplete dieResetWithStamp 0 dieResetWithStamp_inv rfl
  have stamped := dieReset_stamps
  rw [leaves_of_next _ runs, hbm] at stamped
  exact absurd stamped (by decide)

end Sys2Proof.Machine
end

section
namespace Sys2Proof.Machine

set_option Elab.async false

/-! ### A plot reset does not always leave the tilth empty (R133)

The plots of the mask are reset one after another. A later plot's reset fails the transfers that name that plot, and the stamp of such a transfer
may go to the tilth of a plot that was reset, and emptied, before. -/

/-- Row 0 has a transfer that reads plot 1 and whose stamp goes to plot 0's tilth. -/
def plotResetWithStamp : State :=
  { State.reset with
    pwr := { State.reset.pwr with mode := .up }
    hl := { State.reset.hl with running := true }
    reg := [(Rg.row 0 0x28, 2 ^ 22)]
    drill := { State.reset.drill with
      rows := [(0, { state := .active
                     xfers := [{ src := .direct, begun := true, stampAt := some (.tilth 0 0)
                                 d := { opcode := 1, stampEn := true, stampValue := 1
                                        body := [0, 0, 0, 0x10, 0, 0, 0, 0, 0, 0, 0, 0, 0, 0, 0, 0, 1, 0, 0, 0, 2] } }] })] } }

theorem plotResetWithStamp_inv : plotResetWithStamp.Inv :=
  ⟨rfl, rfl, rfl, rfl, rfl, rfl, ⟨rfl, fun _ listed => absurd listed List.not_mem_nil⟩, rfl, rfl, rfl, rfl, rfl, rfl⟩

theorem plotReset_stamps : leaves (.plotReset .H 3) plotResetWithStamp (fun t => (t.plot 0).tilth) = some [(0, 1), (4, 0x40)] := by
  decide +kernel

/-- Refutes O13: PLOT_RESET of plots 0 and 1 in the state `plotResetWithStamp` leaves the stamp of plot 1's transfer in plot 0's tilth. -/
theorem not_partResetsComplete : ¬ Obligations.PartResetsComplete := by
  rintro ⟨-, -, plotReset, -⟩
  obtain ⟨t, runs, -, -, -, empty⟩ :=
    plotReset plotResetWithStamp .H 3 0 plotResetWithStamp_inv (by decide +kernel) rfl (by decide) (by decide)
  have stamped := plotReset_stamps
  rw [leaves_of_next _ runs, show (t.plot 0).tilth = [] from empty] at stamped
  exact absurd stamped (by decide)

end Sys2Proof.Machine
end

section
namespace Sys2Proof.Machine

/-! ### Transactions on the host's mirror (R179-R182, R221) -/

/-- The transaction field of a slot that is done: a TXN_OPEN that succeeds names its transaction there (R179). -/
theorem State.mslot_txn_slotDone (u : State) (n st tx : Nat) (b : List Byte) :
    ((u.slotDone n st tx b).mslot n).txn = (if (u.mslot n).op = 6 && st = 0 then tx else (u.mslot n).txn) := by
  unfold State.slotDone State.countMirror
  extract_lets m m' r
  have done : m' ≠ {} := fun e => absurd (congrArg MSlot.state e) (show (2 : Nat) ≠ 0 by decide)
  have area : ∀ (v : State) d, (v.areaWrite d b).mir = v.mir := fun v d => (State.areaWrite_keeps v d b).kmir rfl
  show (kvGet {} ((u.setSlot n m').areaWrite (slotBase n + 2048) b).mir.slots n).txn = _
  rw [area]
  exact congrArg MSlot.txn (kvGet_kvSet_self _ _ _ _ done)

/-- The turn of a slot whose operation leaves the firmware running and the mirror as it is: the slot is done with the operation's answer. -/
theorem State.mirrorOp_of_dictRun {s u : State} {n op : Nat} {a : Answer} (turn : s.SlotTurn n op)
    (ran : s.dictRun .H op (s.mslot n).txn (s.slotBody n) = (u, a)) (running : u.hl.running = true) (mir : u.mir = s.mir) :
    s.mirrorOp op = (({ u with mir := { u.mir with order := s.mir.order.tail }, dict := { u.dict with lastRoute := .H } } : State).slotDone n
      a.status a.txn a.body).giveAnswer a := by
  obtain ⟨up, first, route, opcode, pending⟩ := turn
  obtain ⟨rest, order⟩ : ∃ rest, s.mir.order = n :: rest := by
    cases e : s.mir.order with
    | nil => rw [e] at first; exact nomatch first
    | cons x xs =>
      rw [e, List.head?_cons, Option.some.injEq] at first
      exact ⟨xs, by rw [first]⟩
  have slot : u.mslot n = s.mslot n := congrArg (fun m : Mirror => kvGet ({} : MSlot) m.slots n) mir
  have alive : u.sameRun true = true := by simp [State.sameRun, State.hlAlive, running]
  have body : s.areaRead (slotBase n + 256) (s.mslot n).bodyLen = s.slotBody n := rfl
  simp [State.mirrorOp, order, opcode, up, route, body, ran, alive, slot, pending]

/-- What a mirror slot's turn leaves, where its operation leaves the mirror and the firmware running. -/
theorem State.mirrorOp_leaves {s u : State} {n op : Nat} {a : Answer} (turn : s.SlotTurn n op)
    (ran : s.dictRun .H op (s.mslot n).txn (s.slotBody n) = (u, a)) (running : u.hl.running = true) (mir : u.mir = s.mir) :
    ((s.mirrorOp op).mslot n).state = 2 ∧ ((s.mirrorOp op).mslot n).status = a.status ∧
    ((s.mirrorOp op).mslot n).txn = (if op = 6 && a.status = 0 then a.txn else (s.mslot n).txn) ∧
    (s.mirrorOp op).dict.txns = u.dict.txns ∧ (s.mirrorOp op).od = u.od ∧ (s.mirrorOp op).hl = u.hl := by
  have slot : u.mslot n = s.mslot n := congrArg (fun m : Mirror => kvGet ({} : MSlot) m.slots n) mir
  let v : State := { u with mir := { u.mir with order := s.mir.order.tail }, dict := { u.dict with lastRoute := .H } }
  obtain ⟨state, status, -, dict⟩ := State.slotDone_eff v n a.status a.txn a.body
  have done := State.slotDone_keeps v n a.status a.txn a.body
  have txn := State.mslot_txn_slotDone v n a.status a.txn a.body
  rw [State.mirrorOp_of_dictRun turn ran running mir]
  obtain ⟨-, -, -, opcode, -⟩ := turn
  refine ⟨state, status, txn.trans ?_, show (v.slotDone n a.status a.txn a.body).dict.txns = _ by rw [dict], done.kod rfl, done.khl rfl⟩
  show (if (u.mslot n).op = 6 && a.status = 0 then a.txn else (u.mslot n).txn) = _
  rw [slot, opcode]

theorem State.hlAnswers_noteOwner_now (s : State) (r : Route) : (s.hlAnswers.noteOwner r).now = s.now := (State.noteOwner_keeps _ _).know rfl
theorem State.hlAnswers_noteOwner_dict (s : State) (r : Route) : (s.hlAnswers.noteOwner r).dict = s.dict := (State.noteOwner_keeps _ _).kdict rfl
theorem State.hlAnswers_noteOwner_mir (s : State) (r : Route) : (s.hlAnswers.noteOwner r).mir = s.mir := (State.noteOwner_keeps _ _).kmir rfl
theorem State.hlAnswers_noteOwner_od (s : State) (r : Route) : (s.hlAnswers.noteOwner r).od = s.od := (State.noteOwner_keeps _ _).kod rfl
theorem State.hlAnswers_noteOwner_running (s : State) (r : Route) : (s.hlAnswers.noteOwner r).hl.running = s.hl.running := by
  rw [(State.noteOwner_keeps s.hlAnswers r).khl rfl]
  rfl

theorem State.txns_setTxn_of_none {s : State} {r : Route} (x : Txn) (none_ : s.dict.txns = []) : (s.setTxn r x).dict.txns = [(r, x)] := by
  simp [State.setTxn, routeSet, none_]

theorem State.txns_setTxn_of_own {s : State} {r : Route} {x : Txn} (y : Txn) (own : s.dict.txns = [(r, x)]) : (s.setTxn r y).dict.txns = [(r, y)] := by
  simp [State.setTxn, routeSet, own]

theorem State.txnOf_own {s : State} {r : Route} {x : Txn} (own : s.dict.txns = [(r, x)]) : s.txnOf r x.id = some x := by
  simp [State.txnOf, own]

theorem State.nameTxn_own {s : State} {r : Route} {x : Txn} (own : s.dict.txns = [(r, x)]) (named : x.id ≠ 0) :
    s.nameTxn r x.id = some (s.setTxn r { x with last := s.now }) := by
  rw [State.nameTxn, if_neg named, State.txnOf_own own]
  rfl

/-- What the operations of a transaction run on: the state that serves the route, its transaction's time noted. -/
def State.named (s : State) (x : Txn) : State := (s.hlAnswers.noteOwner .H).setTxn .H { x with last := s.now }

theorem State.named_txns {s : State} {x : Txn} (own : s.dict.txns = [(.H, x)]) : (s.named x).dict.txns = [(.H, { x with last := s.now })] :=
  State.txns_setTxn_of_own _ ((congrArg Dict.txns (s.hlAnswers_noteOwner_dict .H)).trans own)

theorem State.named_running {s : State} (x : Txn) (running : s.hl.running = true) : (s.named x).hl.running = true :=
  (s.hlAnswers_noteOwner_running .H).trans running

theorem State.named_mir (s : State) (x : Txn) : (s.named x).mir = s.mir := s.hlAnswers_noteOwner_mir .H
theorem State.named_od (s : State) (x : Txn) : (s.named x).od = s.od := s.hlAnswers_noteOwner_od .H

/-- An operation that names the route's transaction runs on the state that notes its time. -/
theorem State.nameTxn_answers {s : State} {x : Txn} (own : s.dict.txns = [(.H, x)]) (named : x.id ≠ 0) :
    (s.hlAnswers.noteOwner .H).nameTxn .H x.id = some (s.named x) := by
  rw [State.nameTxn_own ((congrArg Dict.txns (s.hlAnswers_noteOwner_dict .H)).trans own) named, s.hlAnswers_noteOwner_now .H]
  rfl

theorem completes_txnOpen (s : State) (n : Nat) (turn : s.SlotTurn n 6) (outside : (s.mslot n).txn = 0) (none_ : s.dict.txns = []) :
    Completes (.txnOpen .mirror) s fun t =>
      (t.mslot n).state = 2 ∧ (t.mslot n).status = 0 ∧ t.dict.txns = [(.H, { id := s.freshTxn, last := s.now })] ∧ (t.mslot n).txn = s.freshTxn := by
  let v := s.hlAnswers.noteOwner .H
  have dict : v.dict = s.dict := s.hlAnswers_noteOwner_dict .H
  have fresh : v.freshTxn = s.freshTxn := by rw [State.freshTxn, State.freshTxn, dict]
  let w := v.setTxn .H { id := s.freshTxn, last := s.now }
  have ran : s.dictRun .H 6 (s.mslot n).txn (s.slotBody n) =
      ({ w with dict := { w.dict with nextTxn := s.freshTxn % 0xFFFF + 1 } }, { route := .H, status := 0, txn := s.freshTxn }) := by
    have now : v.now = s.now := s.hlAnswers_noteOwner_now .H
    simp [State.dictRun, outside, State.nameTxn, State.txnOpenOp, v, w, dict, none_, fresh, now]
  obtain ⟨running, -⟩ := id turn
  obtain ⟨state, status, txn, txns, -⟩ := State.mirrorOp_leaves turn ran ((s.hlAnswers_noteOwner_running .H).trans running) (s.hlAnswers_noteOwner_mir .H)
  exact ⟨_, rfl, state, status, txns.trans (State.txns_setTxn_of_none _ ((congrArg Dict.txns dict).trans none_)), txn⟩

theorem completes_txnOpen_again (s : State) (n : Nat) (x : Txn) (turn : s.SlotTurn n 6) (outside : (s.mslot n).txn = 0) (own : s.dict.txns = [(.H, x)]) :
    Completes (.txnOpen .mirror) s fun t =>
      (t.mslot n).state = 2 ∧ (t.mslot n).status = Od.state ∧ t.dict.txns = s.dict.txns := by
  have dict := s.hlAnswers_noteOwner_dict .H
  have ran : s.dictRun .H 6 (s.mslot n).txn (s.slotBody n) = (s.hlAnswers.noteOwner .H, { route := .H, status := Od.state, txn := 0 }) := by
    simp [State.dictRun, outside, State.nameTxn, State.txnOpenOp, dict, own]
  obtain ⟨running, -⟩ := id turn
  obtain ⟨state, status, -, txns, -⟩ := State.mirrorOp_leaves turn ran ((s.hlAnswers_noteOwner_running .H).trans running) (s.hlAnswers_noteOwner_mir .H)
  exact ⟨_, rfl, state, status, txns.trans (congrArg Dict.txns dict)⟩

theorem completes_txnCheck (s : State) (n : Nat) (x : Txn) (e : WEntry) (turn : s.SlotTurn n 7) (inside : (s.mslot n).txn = x.id) (named : x.id ≠ 0)
    (own : s.dict.txns = [(.H, x)]) (one : parseWrites (s.slotBody n) = some [e]) (first : x.staged = []) (small : e.data.length ≤ 4096)
    (passes : (s.named x).odCheck .H e true false = 0) :
    Completes (.txnCheck .mirror) s fun t =>
      (t.mslot n).status = 0 ∧ t.dict.txns = [(.H, { x with last := s.now, staged := [(true, e)] })] ∧ t.od = s.od := by
  let y : Txn := { x with last := s.now }
  have staged : (s.named x).stageEntry .H true y e = ({ y with staged := [(true, e)] }, 0) := by
    simp [State.stageEntry, passes, y, first, small]
  have ran : s.dictRun .H 7 (s.mslot n).txn (s.slotBody n) = ((s.named x).setTxn .H { y with staged := [(true, e)] },
      withEntries .H x.id [{ idx := e.idx, sub := e.sub, ty := e.ty, status := 0 }]) := by
    have mine : (s.named x).txnOf .H x.id = some y := State.txnOf_own (x := y) (State.named_txns own)
    simp [State.dictRun, inside, State.nameTxn_answers own named, State.runCheck, mine, one, State.stageAll, staged]
  obtain ⟨running, -⟩ := id turn
  obtain ⟨-, status, -, txns, od, -⟩ := State.mirrorOp_leaves turn ran (State.named_running x running) (s.named_mir x)
  exact ⟨_, rfl, status, txns.trans (State.txns_setTxn_of_own _ (State.named_txns own)), od.trans (s.named_od x)⟩

theorem completes_txnDrop (s : State) (n : Nat) (x : Txn) (turn : s.SlotTurn n 9) (inside : (s.mslot n).txn = x.id) (named : x.id ≠ 0)
    (own : s.dict.txns = [(.H, x)]) :
    Completes (.txnDrop .mirror) s fun t => (t.mslot n).status = 0 ∧ t.dict.txns = [] ∧ t.od = s.od := by
  have ran : s.dictRun .H 9 (s.mslot n).txn (s.slotBody n) = ((s.named x).closeTxn .H, refusal .H x.id 0) := by
    have mine : (s.named x).txnOf .H x.id = some { x with last := s.now } := State.txnOf_own (x := { x with last := s.now }) (State.named_txns own)
    simp [State.dictRun, inside, State.nameTxn_answers own named, mine]
  obtain ⟨running, -⟩ := id turn
  obtain ⟨-, status, -, txns, od, -⟩ := State.mirrorOp_leaves turn ran (State.named_running x running) (s.named_mir x)
  refine ⟨_, rfl, status, txns.trans ?_, od.trans (s.named_od x)⟩
  simp [State.closeTxn, State.named_txns own]

theorem completes_txnApply_checks (s : State) (n : Nat) (x : Txn) (turn : s.SlotTurn n 8) (inside : (s.mslot n).txn = x.id) (named : x.id ≠ 0)
    (own : s.dict.txns = [(.H, x)]) (checks : x.staged.all (fun y => y.1) = true)
    (pass : ((s.named x).tryStaged .H x.staged).find? (fun y => y.2 != 0) = none) :
    Completes (.txnApply .mirror) s fun t => (t.mslot n).status = 0 ∧ t.dict.txns = [] ∧ t.od = s.od := by
  have mine : (s.named x).txnOf .H x.id = some { x with last := s.now } := State.txnOf_own (x := { x with last := s.now }) (State.named_txns own)
  have writes : x.staged.filter (fun y => !y.1) = [] := by
    rw [List.filter_eq_nil_iff]
    intro y mem
    simp [List.all_eq_true.mp checks y mem]
  have ran : s.dictRun .H 8 (s.mslot n).txn (s.slotBody n) = ((s.named x).closeTxn .H, refusal .H x.id 0) := by
    simp [State.dictRun, inside, State.nameTxn_answers own named, mine, State.txnApplyOp, pass, writes, State.writeAll]
  obtain ⟨running, -⟩ := id turn
  obtain ⟨-, status, -, txns, od, -⟩ := State.mirrorOp_leaves turn ran (State.named_running x running) (s.named_mir x)
  refine ⟨_, rfl, status, txns.trans ?_, od.trans (s.named_od x)⟩
  simp [State.closeTxn, State.named_txns own]

theorem completes_txnApply_fails (s : State) (n : Nat) (x : Txn) (y : WEntry × Nat) (turn : s.SlotTurn n 8) (inside : (s.mslot n).txn = x.id)
    (named : x.id ≠ 0) (own : s.dict.txns = [(.H, x)])
    (fails : ((s.named x).tryStaged .H x.staged).find? (fun y => y.2 != 0) = some y) (plain : y.1.idx ≠ 0x2801) :
    Completes (.txnApply .mirror) s fun t =>
      (t.mslot n).status = y.2 ∧ t.dict.txns = [(.H, { x with last := s.now })] ∧ t.od = s.od ∧ t.hl.running = true := by
  have mine : (s.named x).txnOf .H x.id = some { x with last := s.now } := State.txnOf_own (x := { x with last := s.now }) (State.named_txns own)
  have ran : s.dictRun .H 8 (s.mslot n).txn (s.slotBody n) = (s.named x, refusal .H x.id y.2) := by
    simp [State.dictRun, inside, State.nameTxn_answers own named, mine, State.txnApplyOp, fails, plain]
  obtain ⟨running, -⟩ := id turn
  obtain ⟨-, status, -, txns, od, hl⟩ := State.mirrorOp_leaves turn ran (State.named_running x running) (s.named_mir x)
  refine ⟨_, rfl, status, txns.trans (State.named_txns own), od.trans (s.named_od x), ?_⟩
  exact (congrArg Headland.running hl).trans (State.named_running x running)

theorem completes_txnExpiry (s : State) (r : Route) (x : Txn) (inv : s.Inv) (own : s.dict.txns = [(r, x)]) :
    Completes (.txnExpiry r) s fun t =>
      t.dict.txns = [] ∧ s.Counts t O.txnExpired ∧ t.now = max s.now (x.last + 1000000000) ∧ t.reg = s.reg ∧ t.hbm = s.hbm := by
  obtain ⟨-, -, objs, -⟩ := inv
  let u := (s.until_ (x.last + 1000000000)).closeTxn r
  have runs : exec (.txnExpiry r) s = .next (u.bump O.txnExpired) := by
    simp [exec, execTxnExpiry, own, u]
  refine ⟨_, runs, ?_, State.val_bump u _ objs (by decide), State.bump_now _ _, State.bump_reg _ _, (State.bump_keeps u _).khbm rfl⟩
  rw [(State.bump_keeps u _).kdict rfl]
  simp [u, State.closeTxn, State.until_, own]

/-- Settles O15: the operations of a transaction run on the state that notes its time; the slot's turn adds the answer and leaves the objects. -/
theorem transactionsComplete : Obligations.TransactionsComplete :=
  ⟨completes_txnOpen, completes_txnOpen_again, completes_txnCheck, completes_txnDrop, completes_txnApply_checks, completes_txnApply_fails,
   completes_txnExpiry⟩

end Sys2Proof.Machine
end

section
namespace Sys2Proof.Machine

set_option Elab.async false

/-! ### HELLO on a transaction that is not open (R196)

HELLO is accepted with any transaction identifier, and one that names no open transaction of the field route is answered NO_TXN. -/

/-- A HELLO waits that names transaction 5, and none is open. -/
def helloOfNoTransaction : State :=
  { State.reset with
    hl := { State.reset.hl with running := true }
    hop := { State.reset.hop with waiting := [{ mac := 1, node := 1, op := 0, nonce := 0, seq := 1, txn := 5, body := [] }] } }

theorem helloOfNoTransaction_status :
    leaves (.hello .field) helloOfNoTransaction (fun t => t.dict.answers.map Answer.status) = some [Od.noTxn] := by
  decide +kernel

/-- Refutes O16: HELLO in the state `helloOfNoTransaction` is answered NO_TXN, not with status 0. -/
theorem not_fieldNetworkCompletes : ¬ Obligations.FieldNetworkCompletes := by
  rintro ⟨hello, -⟩
  obtain ⟨t, runs, -, answers, -⟩ :=
    hello helloOfNoTransaction _ [] rfl rfl (by decide) rfl (fun _ => by decide)
  have status := helloOfNoTransaction_status
  rw [leaves_of_next _ runs, answers] at status
  exact absurd status (by decide)

end Sys2Proof.Machine
end

section
namespace Sys2Proof.Machine

/-! ### Commits, defaults, locks and the field key (R174-R178, R183, R203) -/

/-- A commit that is asked for stands pending, or is asked for again behind the one that runs (R174). -/
theorem State.commitOp_pends (s : State) : s.commitOp.dict.commit = .pending ∨ s.commitOp.dict.again = true := by
  cases running : s.dict.commit <;> simp [State.commitOp, running]

theorem State.commitOp_fatalLog (s : State) : s.commitOp.fc.fatalLog = s.fc.fatalLog := by
  cases running : s.dict.commit <;> simp [State.commitOp, running]

theorem State.lockHeld_of_none (s : State) (r : Route) (none_ : s.dict.locks = []) : s.lockHeld r = 0 := by
  simp [State.lockHeld, none_]

theorem State.val_ownCommit (s : State) (k : Nat) : s.ownCommit.val k = s.val k := by
  cases running : s.dict.commit <;> simp [State.ownCommit, running, State.val]

theorem State.ownCommit_hop (s : State) : s.ownCommit.hop = s.hop := by
  cases running : s.dict.commit <;> simp [State.ownCommit, running]

theorem completes_persistCommit (s : State) (r : Route) (served : s.served r 0x120001 = true)
    (free : s.dict.commit = .idle ∨ s.dict.commit = .done) :
    Completes (.persistCommit r 1) s fun t => t.dict.commit = .pending ∧ t.dict.own = false ∧ t.od = s.od := by
  have runs : exec (.persistCommit r 1) s = .next { s with dict := { s.dict with commit := .pending, own := false } } := by
    obtain idle | done := free
    · simp [exec, execPersistCommit, served, State.commitOp, idle]
    · simp [exec, execPersistCommit, served, State.commitOp, done]
  exact ⟨_, runs, rfl, rfl, rfl⟩

/-- The wait for the earliest moment of a commit's start (R176). -/
def State.awaitStart (s : State) : State := match s.dict.lastStart with | some t => s.until_ (t + 1000000000) | none => s

theorem State.awaitStart_leaves (s : State) :
    s.awaitStart.dict = s.dict ∧ s.awaitStart.snapshotVals = s.snapshotVals ∧
    s.awaitStart.now = (match s.dict.lastStart with | some l => max s.now (l + 1000000000) | none => s.now) := by
  unfold State.awaitStart
  cases s.dict.lastStart <;> exact ⟨rfl, rfl, rfl⟩

/-- A bank while a commit writes it (R175). -/
def Bank.torn (b : Bank) : Bank := { b with crcOk := false }

/-- The start of a commit: the values of now, and the bank that is not in use torn (R175). -/
def State.startCommit (s : State) : State :=
  { s with dict := { s.dict with
      commit := .busy, lastStart := some s.now, snapshot := s.snapshotVals
      banks := if s.dict.bankB then (s.dict.banks.1.torn, s.dict.banks.2) else (s.dict.banks.1, s.dict.banks.2.torn) } }

theorem completes_persistCommitStart (s : State) (running : s.hl.running = true) (pending : s.dict.commit = .pending) :
    Completes (.persistCommitStart) s fun t =>
      t.dict.commit = .busy ∧ t.dict.lastStart = some t.now ∧ t.dict.snapshot = s.snapshotVals ∧
      (if s.dict.bankB then t.dict.banks.1.crcOk else t.dict.banks.2.crcOk) = false ∧
      t.now = (match s.dict.lastStart with | some l => max s.now (l + 1000000000) | none => s.now) := by
  have runs : exec (.persistCommitStart) s = .next (s.awaitStart.startCommit) := by
    simp only [exec, execPersistCommitStart, running, pending]; rfl
  refine ⟨_, runs, rfl, rfl, s.awaitStart_leaves.2.1, ?_, s.awaitStart_leaves.2.2⟩
  simp only [State.startCommit, s.awaitStart_leaves.1]
  cases s.dict.bankB <;> rfl

theorem completes_persistCommitDone (s : State) (inv : s.Inv) (running : s.hl.running = true) (busy : s.dict.commit = .busy)
    (last : s.dict.again = false) :
    Completes (.persistCommitDone) s fun t =>
      t.dict.commit = .done ∧ t.dict.bankB = !s.dict.bankB ∧
      t.bank = { seq := (s.bank.seq + 1) % 2 ^ 32, vals := kvSet 0 s.dict.snapshot O.persistCommits ((s.val O.persistCommits + 1) % 2 ^ 32), log := s.fc.fatalLog, bad := s.seed.bad } ∧
      t.val O.persistCommits = (s.val O.persistCommits + 1) % 2 ^ 32 := by
  obtain ⟨-, -, objs, -⟩ := inv
  refine ⟨_, by simp only [exec, execPersistCommitDone, running, busy, last]; rfl, rfl, rfl, ?_, ?_⟩
  · cases bank : s.dict.bankB <;> simp [State.bank, bank, State.setVal]
  · exact State.val_setVal_same _ _ _ objs

theorem completes_persistDefaults (s : State) (r : Route) (served : s.served r 0x120003 = true) :
    Completes (.persistDefaults r 0xDEF00001) s fun t =>
      t.fc.fatalLog = [] ∧ (t.dict.commit = .pending ∨ t.dict.again = true) := by
  let u : State := { s.toDefaults with fc := { s.toDefaults.fc with fatalLog := [] } }
  have runs : exec (.persistDefaults r 0xDEF00001) s = .next u.commitOp := by
    simp [exec, execPersistDefaults, served, State.defaultsOp, u]
  exact ⟨_, runs, u.commitOp_fatalLog, u.commitOp_pends⟩

theorem completes_lockRequest (s : State) (r : Route) (m : Half) (running : s.hl.running = true) (lockable : m.toNat &&& 0x81FE = m.toNat)
    (none_ : s.dict.locks = []) :
    Completes (.lockRequest r m) s fun t =>
      t.dict.locks = [(r, maskOf 16 (fun g => bit m.toNat g), s.now + 10000000000)] ∧ t.od = s.od := by
  have runs : exec (.lockRequest r m) s = .next (s.lockOp r m.toNat) := by simp [exec, execLockRequest, running, lockable]
  have others : ∀ g, bit (([Route.F, Route.H, Route.M].filter (fun q => !(q == r))).foldl (fun m q => m ||| s.lockHeld q) 0) g = false := by
    intro g
    simp only [s.lockHeld_of_none _ none_, Nat.or_zero, List.foldl_fixed]
    simp [bit]
  refine ⟨_, runs, ?_, rfl⟩
  simp only [State.lockOp, others, routeSet, none_]
  simp

theorem completes_lockExpiry (s : State) (r : Route) (g e : Nat) (lock : s.dict.locks = [(r, g, e)]) :
    Completes (.lockExpiry r) s fun t => t.dict.locks = [] ∧ t.now = max s.now e ∧ t.od = s.od := by
  have runs : exec (.lockExpiry r) s = .next { s.until_ e with dict := { s.dict with locks := [] } } := by
    simp [exec, execLockExpiry, lock, State.until_]
  exact ⟨_, runs, rfl, rfl, rfl⟩

/-- The switch to the staged field key up to its commit (R203). -/
def State.switchKey (s : State) (k : Nat) : State :=
  ({ s with hop := { s.hop with key := some k, staged := none } } : State).newSession.setVal O.hopKeyGen ((s.val O.hopKeyGen + 1) % 2 ^ 32)

theorem completes_hopKeySwitch (s : State) (r : Route) (k : Nat) (inv : s.Inv) (served : s.served r 0x111004 = true)
    (staged : s.hop.staged = some k) :
    Completes (.hopKeySwitch r 1) s fun t =>
      t.hop.key = some k ∧ t.hop.staged = none ∧ t.hop.high = 0 ∧ t.hop.kept = [] ∧ t.val O.hopKeyGen = (s.val O.hopKeyGen + 1) % 2 ^ 32 := by
  obtain ⟨-, -, objs, -⟩ := inv
  have runs : exec (.hopKeySwitch r 1) s = .next (s.switchKey k).ownCommit := by
    simp [exec, execHopKeySwitch, served, State.keySwitchOp, staged, State.switchKey, State.val]
  refine ⟨_, runs, ?_⟩
  beta_reduce
  rw [State.ownCommit_hop, State.val_ownCommit]
  exact ⟨rfl, rfl, rfl, rfl, State.val_setVal_same _ _ _ objs⟩

/-- Settles O17: each command is its operation of the dictionary's store, lock table or field session; the commit at the end of PERSIST_DEFAULTS
and HOP_KEY_SWITCH touches the store's own state only. -/
theorem persistenceCompletes : Obligations.PersistenceCompletes :=
  ⟨completes_persistCommit, completes_persistCommitStart, completes_persistCommitDone, completes_persistDefaults, completes_lockRequest,
    completes_lockExpiry, completes_hopKeySwitch⟩

end Sys2Proof.Machine
end

section
namespace Sys2Proof.Machine

/-! ### A firmware download from FW_BEGIN to FW_CONFIRM (R139-R141, R219) -/

theorem Headland.setBoot_genuine (h : Headland) (f : BootCtl → BootCtl) : (h.setBoot f).genuine = h.genuine := by
  unfold Headland.setBoot
  cases h.bootB? <;> rfl

theorem Headland.setBoot_bootState (h : Headland) (f : BootCtl → BootCtl) : (h.setBoot f).bootState = h.bootState := by
  unfold Headland.setBoot
  cases h.bootB? <;> rfl

theorem State.fwOwned_of_none (s : State) (r : Route) (none_ : s.fw.owner = none) : s.fwOwned r = false := by
  rw [State.fwOwned, none_]

theorem State.fwOwned_of_own (s : State) (r : Route) (own : s.fw.owner = some r) : s.fwOwned r = false := by
  simp [State.fwOwned, own]

theorem State.fwServed_of_served (s : State) (r : Route) (k : Nat) (served : s.served r k = true) : s.fwServed r k = true := by
  simp [State.fwServed, served]

theorem State.running_of_served (s : State) (r : Route) (k : Nat) (served : s.served r k = true) : s.hl.running = true := by
  simp only [State.served, Bool.and_eq_true] at served
  exact served.1.1

theorem completes_fwBegin (s : State) (r : Route) (n : Word32) (served : s.fwServed r 0x189002 = true) (idle : s.fw.status = .idle)
    (free : s.fw.owner = none) (some_ : n.toNat ≠ 0) (small : n.toNat ≤ 3997696) :
    Completes (.fwBegin r n) s fun t =>
      t.fw.status = .erasing ∧ t.fw.owner = some r ∧ t.fw.length = n.toNat ∧ t.fw.received = 0 ∧ bit t.hl.full s.fwSlot = false ∧ t.od = s.od := by
  have runs : exec (.fwBegin r n) s =
      .next { s with fw := { status := .erasing, owner := some r, length := n.toNat, lastOp := s.now }
                     hl := { s.hl with full := setBit s.hl.full s.fwSlot false, genuine := setBit s.hl.genuine s.fwSlot false } } := by
    simp [exec, execFwBegin, served, State.fwBeginOp, s.fwOwned_of_none r free, idle, some_, Nat.not_lt.mpr small]
  exact ⟨_, runs, rfl, rfl, rfl, rfl, bit_setBit _ _ _, rfl⟩

theorem completes_fwEraseDone (s : State) (erasing : s.fw.status = .erasing) :
    Completes (.fwEraseDone) s fun t => t.fw = { s.fw with status := .receiving } ∧ t.hl = s.hl ∧ t.od = s.od := by
  have runs : exec (.fwEraseDone) s = .next { s with fw := { s.fw with status := .receiving } } := by
    simp [exec, execFwEraseDone, erasing]
  exact ⟨_, runs, rfl, rfl, rfl⟩

theorem completes_fwData (s : State) (r : Route) (off : Word32) (d : List Byte) (served : s.fwServed r 0x189003 = true)
    (own : s.fw.owner = some r) (receiving : s.fw.status = .receiving) (aligned : off.toNat % 4 = 0) (some_ : d ≠ []) (small : d.length ≤ 1024)
    (next : off.toNat = s.fw.received) (fits : off.toNat + d.length ≤ s.fw.length) :
    Completes (.fwData r off d) s fun t =>
      t.fw.received = s.fw.received + d.length ∧ t.fw.lastOp = s.now ∧ t.fw.status = .receiving ∧ bit t.hl.full s.fwSlot = true := by
  have runs : exec (.fwData r off d) s =
      .next { s with fw := { s.fw with received := s.fw.received + d.length, lastOp := s.now }
                     hl := { s.hl with full := setBit s.hl.full s.fwSlot true } } := by
    simp [exec, execFwData, served, State.fwDataOp, s.fwOwned_of_own r own, receiving, aligned, some_, Nat.not_lt.mpr small, ← next,
      Nat.not_lt.mpr fits]
  exact ⟨_, runs, rfl, rfl, receiving, bit_setBit _ _ _⟩

theorem State.fwVerified_leaves (s : State) (ok : Bool) (v : Nat) :
    (s.fwVerified ok v).fw.status = (if ok then .verified else .failed) ∧ (s.fwVerified ok v).fw.owner = none ∧
    (s.fwVerified ok v).fw.version = v ∧ bit (s.fwVerified ok v).hl.genuine s.fwSlot = ok := by
  refine ⟨rfl, rfl, rfl, ?_⟩
  rw [State.fwVerified, Headland.setBoot_genuine]
  exact bit_setBit _ _ _

theorem completes_fwVerify (s : State) (r : Route) (ok : Bool) (v : Word32) (served : s.fwServed r 0x189005 = true)
    (own : s.fw.owner = some r) (receiving : s.fw.status = .receiving) (complete : s.fw.received = s.fw.length) :
    Completes (.fwVerify r ok v) s fun t =>
      t.fw.status = (if ok then .verified else .failed) ∧ t.fw.owner = none ∧ t.fw.version = v.toNat ∧ bit t.hl.genuine s.fwSlot = ok := by
  let u : State := { s with fw := { s.fw with status := .verifying, lastOp := s.now } }
  have runs : exec (.fwVerify r ok v) s = .next (u.fwVerified ok v.toNat) := by
    simp [exec, execFwVerify, served, State.fwVerifyOp, s.fwOwned_of_own r own, receiving, complete, u]
  exact ⟨_, runs, u.fwVerified_leaves ok v.toNat⟩

theorem completes_fwActivate (s : State) (r : Route) (ok : Bool) (served : s.served r 0x189006 = true) (verified : s.fw.status = .verified)
    (idle : s.cal.busy = none) :
    Completes (.fwActivate r 0xF1A5C0DE ok) s fun t => t.hl.running = false ∧ t.dict.txns = [] ∧ t.dict.locks = [] := by
  let hl := s.hl.setBoot (fun c => { c with pending := some s.fwSlot, trials := 3 })
  let u : State := { s with hl := { hl with fallback := false }, fw := { s.fw with status := .activating, owner := none } }
  have runs : exec (.fwActivate r 0xF1A5C0DE ok) s = .next ((u.cause 6).headlandReset ok) := by
    simp [exec, execFwActivate, s.fwServed_of_served r _ served, State.fwActivateOp, verified, idle, s.running_of_served r _ served, u, hl]
  obtain ⟨stopped, txns, locks, -⟩ := (u.cause 6).headlandReset_eff ok
  exact ⟨_, runs, stopped, txns, locks⟩

theorem completes_fwConfirm (s : State) (r : Route) (served : s.served r 0x189007 = true) (free : s.fw.owner = none) (trial : s.hl.bootState = 1) :
    Completes (.fwConfirm r 1) s fun t =>
      t.hl.bootState = 0 ∧ t.hl.boot.active = s.hl.image ∧ t.hl.boot.pending = none ∧ t.od = s.od := by
  let confirm : BootCtl → BootCtl := fun c => { c with active := s.hl.image, pending := none, trials := 0 }
  let u : State := { s with hl := ({ s.hl with bootState := 0 }).setBoot confirm }
  have runs : exec (.fwConfirm r 1) s = .next u := by
    simp [exec, execFwConfirm, s.fwServed_of_served r _ served, State.fwConfirmOp, s.fwOwned_of_none r free, s.running_of_served r _ served, trial,
      State.confirmOp, u, confirm]
  have boot := Headland.boot_setBoot { s.hl with bootState := 0 } confirm (fun _ => rfl) (fun _ => rfl)
  exact ⟨_, runs, Headland.setBoot_bootState _ _, by rw [show u.hl.boot = _ from boot], by rw [show u.hl.boot = _ from boot], rfl⟩

theorem completes_fwOwnerExpiry (s : State) (r : Route) (own : s.fw.owner = some r) (receiving : s.fw.status = .receiving) :
    Completes (.fwOwnerExpiry) s fun t =>
      t.fw = {} ∧ t.now = max s.now (s.fw.lastOp + 10000000000) ∧ bit t.hl.boot.bad (1 - s.hl.image) = true := by
  have runs : exec (.fwOwnerExpiry) s = .next (s.until_ (s.fw.lastOp + 10000000000)).tearFw := by simp [exec, execFwOwnerExpiry, own]
  have torn : (s.until_ (s.fw.lastOp + 10000000000)).tearFw =
      { s.until_ (s.fw.lastOp + 10000000000) with
        fw := {}
        hl := ({ s.hl with genuine := setBit s.hl.genuine (1 - s.hl.image) false }).setBoot
          (fun c => { c with bad := setBit c.bad (1 - s.hl.image) true }) } := by
    simp [State.tearFw, State.until_, receiving]
  refine ⟨_, runs, by rw [torn], by rw [torn]; rfl, ?_⟩
  rw [torn]
  dsimp only
  rw [Headland.boot_setBoot _ (fun c => { c with bad := setBit c.bad (1 - s.hl.image) true }) (fun _ => rfl) (fun _ => rfl)]
  exact bit_setBit _ _ _

/-- Settles O18: each command is its operation of the download, and boot control is read back through `Headland.boot_setBoot`. -/
theorem firmwareDownloadCompletes : Obligations.FirmwareDownloadCompletes :=
  ⟨completes_fwBegin, completes_fwEraseDone, completes_fwData, completes_fwVerify, completes_fwActivate, completes_fwConfirm,
    completes_fwOwnerExpiry⟩

end Sys2Proof.Machine
end

section
namespace Sys2Proof.Machine

/-! ### The selectors of the splits (R464, R465, R711, R750, R782, R785) -/

/-- A switch at once sets its selector and counts (R785). -/
theorem State.plainSwitch_switches (s : State) (sub : Nat) (objs : Rises s.od) (small : 3 < sub ∧ sub < 10) :
    (s.plainSwitch sub 1).1.val (0x800000 + sub) = 1 ∧ s.Counts (s.plainSwitch sub 1).1 O.splitSwitches := by
  have rises := s.setVal_rises (0x800000 + sub) 1 objs
  refine ⟨?_, ?_⟩
  · rw [State.plainSwitch, State.splitDone, State.val_bump_other rises (by unfold O.splitSwitches; omega) (by unfold O.splitSwitches; omega),
      State.val_setVal_same _ _ _ objs]
  · rw [State.Counts, State.plainSwitch, State.splitDone, State.val_bump _ _ rises (by decide), State.val_setVal _ _ _ _ objs,
      if_neg (by unfold O.splitSwitches; omega)]

theorem completes_splitWalk (s : State) (r : Route) (served : s.served r 0x800001 = true) (on : s.gcoreOn = true)
    (free : s.plat.switching = none) (hardware : s.plat.mode = false) (ok : s.walkSwitchOk true = true) (none_ : s.plat.atsHeld = []) :
    Completes (.splitWalk r 1) s fun t =>
      t.plat.switching = some true ∧ t.plat.mode = false ∧
      t.plat.queue = s.plat.queue ++ [{ ticket := none, kind := 3, space := 0, headland := true, modeSwitch := true }] ∧ t.od = s.od := by
  have runs : exec (.splitWalk r 1) s = .next (s.walkSwitch true) := by
    simp [exec, execSplitWalk, State.splitWrite, served, State.splitOp, State.splitBusy, free, State.splitMode, hardware, ok]
  refine ⟨_, runs, ?_⟩
  simp [State.walkSwitch, on, State.queueCmd, none_, hardware]

theorem completes_splitFault (s : State) (r : Route) (inv : s.Inv) (served : s.served r 0x800002 = true) (hardware : s.flt.mode = false)
    (off : s.atomicEnable = false) :
    Completes (.splitFault r 1) s fun t => t.flt.mode = true ∧ s.Counts t O.splitSwitches := by
  obtain ⟨-, -, objs, -⟩ := inv
  let u : State := { s with flt := { s.flt with mode := true } }
  have still : u.splitDone.atomicEnable = false := by
    rw [State.atomicEnable, State.cfgv, (u.splitDone_keeps).kcfg rfl]
    exact off
  have runs : exec (.splitFault r 1) s = .next u.splitDone := by
    simp [exec, execSplitFault, State.splitWrite, served, State.splitOp, State.splitBusy, State.splitMode, hardware, still, u]
  refine ⟨_, runs, ?_, u.val_bump _ objs (by decide)⟩
  rw [(u.splitDone_keeps).kflt rfl]

/-- The steps of an engine leave who migrates and promotes as it is. -/
def SameMigMode (s t : State) : Prop := t.mig.hostMode = s.mig.hostMode

theorem SameMigMode.keeps {m : Nat} {s t u : State} (h : SameMigMode s t) (k : Keeps m t u) (hm : m.testBit 11 = false) : SameMigMode s u :=
  (congrArg Migration.hostMode (k.kmig hm)).trans h

theorem State.failStream_sameMigMode (s : State) (st : Stream) (acc : Access) (code va : Nat) : SameMigMode s (s.failStream st acc code va) := by
  cases st <;> rfl

theorem State.fault_sameMigMode (s : State) (who : Who) (space : Space) (va : Nat) (acc : Access) (reason level : Nat) (pri : Bool) :
    SameMigMode s (s.fault who space va acc reason level pri) := by
  unfold State.fault
  exact rel_ite ((s.failStream_sameMigMode _ _ _ _).keeps (State.bump_keeps _ _) rfl) (SameMigMode.keeps rfl (State.stallFault_keeps _ _) rfl)

/-- A walk's request that leaves goes to the host link alone. -/
theorem State.request_sameMigMode (s : State) (t : Tlp) (walk : Bool) (r : Nat × State) (sent : s.request t walk = some r) : SameMigMode s r.2 :=
  SameMigMode.keeps rfl (State.request_keeps _ _ _ _ sent) rfl

theorem State.issueWalks_sameMigMode (s : State) : SameMigMode s s.issueWalks := by
  unfold State.issueWalks
  refine rel_each rfl fun t w same => rel_ite (rel_ite ?_ ?_) ?_
  · exact same.keeps (State.endWalk_keeps _ _) rfl
  · exact (State.fault_sameMigMode _ _ _ _ _ _ _ _).trans (same.keeps (State.endWalk_keeps _ _) rfl)
  · split
    · exact same
    · split
      · exact same
      · next r sent =>
        have left : SameMigMode t r.2 := by
          split at sent
          · exact State.request_sameMigMode _ _ _ _ sent
          · cases sent
        have issued : SameMigMode s (r.2.setWalk { w with issued := true }) := SameMigMode.keeps (left.trans same) (State.setWalk_keeps _ _) rfl
        dsimp only
        generalize r.2.setWalk { w with issued := true } = u at issued ⊢
        cases w.kind with
        | acre => exact issued
        | _ => exact SameMigMode.keeps issued (State.bump_keeps _ _) rfl

theorem State.abandonPromotion_hostMode (s : State) (pasid region : Nat) : (s.abandonPromotion pasid region).mig.hostMode = s.mig.hostMode := by
  refine Eq.trans (b := (s.leaveFaults (fun st => st == .mig false)).mig.hostMode) rfl ?_
  exact (State.issueWalks_sameMigMode _).trans (congrArg Migration.hostMode ((State.grantSlots_keeps _).kmig rfl))

/-- The migration row goes back to its owner as the host takes the migrations (R785). -/
theorem State.unbindMigRow_gives (s : State) (hardware : s.mig.hostMode = false) :
    s.unbindMigRow.mig.hostMode = true ∧ s.unbindMigRow.mig.rowOwner = 0 := by
  rw [State.unbindMigRow, if_neg (by simp [hardware])]
  exact ⟨rfl, rfl⟩

theorem completes_splitMig (s : State) (r : Route) (served : s.served r 0x800003 = true) (hardware : s.mig.hostMode = false) :
    Completes (.splitMig r 1) s fun t => t.mig.hostMode = true ∧ t.mig.rowOwner = 0 := by
  have write : exec (.splitMig r 1) s = .next (s.migSwitch true).1 := by
    simp [exec, execSplitMig, State.splitWrite, served, State.splitOp, State.splitBusy, State.splitMode, hardware]
  have given (u : State) (same : u.mig.hostMode = false) :
      u.unbindMigRow.splitDone.mig.hostMode = true ∧ u.unbindMigRow.splitDone.mig.rowOwner = 0 := by
    rw [(State.splitDone_keeps _).kmig rfl]
    exact u.unbindMigRow_gives same
  cases copying : s.mig.copying with
  | none => exact ⟨s.unbindMigRow.splitDone, by rw [write, State.migSwitch, copying]; rfl, given s hardware⟩
  | some c =>
    refine ⟨(s.abandonPromotion c.pasid c.region).unbindMigRow.splitDone, by rw [write, State.migSwitch, copying]; rfl, given _ ?_⟩
    rw [State.abandonPromotion_hostMode, hardware]

theorem completes_splitFtl (s : State) (r : Route) (inv : s.Inv) (served : s.served r 0x800004 = true) (free : s.splitBusy 4 = false)
    (ready : s.seed.state = .ready) (hardware : s.val O.splitFtl = 0) (untouched : s.seedTouched = false) (idle : s.seed.waiting = none)
    (noLots : s.seed.lots = []) (noEntries : s.rot.entries = []) :
    Completes (.splitFtl r 1) s fun t => t.seed.state = .host ∧ t.val O.splitFtl = 1 := by
  obtain ⟨-, -, objs, -⟩ := inv
  let u : State := (s.setSeed (fun d => { d with state := .host })).setVal O.splitFtl 1
  have rises : Rises u.ownCommit.od := by
    rw [(u.ownCommit_keeps).kod rfl]
    exact State.setVal_rises _ _ _ objs
  have notHost : s.splitMode 4 = false := by
    have formatted : s.seed.unformatted = false := free
    simp [State.splitMode, hardware, formatted]
  have runs : exec (.splitFtl r 1) s = .next u.ownCommit.splitDone := by
    simp [exec, execSplitFtl, State.splitWrite, served, State.splitOp, free, notHost, State.ftlSwitch, untouched, idle, noLots, noEntries, ready, u]
  refine ⟨_, runs, ?_, ?_⟩
  · rw [(State.splitDone_keeps _).kseed rfl, (State.ownCommit_keeps _).kseed rfl]
    rfl
  · rw [State.splitDone, State.val_bump_other rises (by decide) (by decide), State.val_ownCommit]
    exact State.val_setVal_same _ _ _ objs

theorem completes_splitRotation (s : State) (r : Route) (inv : s.Inv) (served : s.served r 0x800005 = true) (hardware : s.val O.splitRotation = 0) :
    Completes (.splitRotation r 1) s fun t => t.val O.splitRotation = 1 ∧ s.Counts t O.splitSwitches := by
  obtain ⟨-, -, objs, -⟩ := inv
  have runs : exec (.splitRotation r 1) s = .next (s.plainSwitch 5 1).1 := by
    simp [exec, execSplitRotation, State.splitWrite, served, State.splitOp, State.splitBusy, State.splitMode, hardware]
  exact ⟨_, runs, s.plainSwitch_switches 5 objs (by decide)⟩

theorem completes_splitClassify (s : State) (r : Route) (inv : s.Inv) (served : s.served r 0x800006 = true) (hardware : s.fc.mode = false) :
    Completes (.splitClassify r 1) s fun t =>
      t.fc.mode = true ∧ (∀ e ∈ t.fc.srcs, e.2.escalated = false ∧ e.2.window = none) ∧ s.Counts t O.splitSwitches := by
  obtain ⟨-, -, objs, -⟩ := inv
  have runs : exec (.splitClassify r 1) s = .next (s.classifySwitch true).splitDone := by
    simp [exec, execSplitClassify, State.splitWrite, served, State.splitOp, State.splitBusy, State.splitMode, hardware]
  refine ⟨_, runs, ?_⟩
  beta_reduce
  rw [(State.splitDone_keeps _).kfc rfl]
  refine ⟨rfl, ?_, (s.classifySwitch true).val_bump _ objs (by decide)⟩
  intro e listed
  obtain ⟨source, -, rfl⟩ := List.mem_map.mp (List.mem_filter.mp listed).1
  simp

theorem completes_splitRetrain (s : State) (r : Route) (inv : s.Inv) (served : s.served r 0x800007 = true) (hardware : s.val O.splitRetrain = 0) :
    Completes (.splitRetrain r 1) s fun t => t.val O.splitRetrain = 1 ∧ s.Counts t O.splitSwitches := by
  obtain ⟨-, -, objs, -⟩ := inv
  have runs : exec (.splitRetrain r 1) s = .next (s.plainSwitch 7 1).1 := by
    simp [exec, execSplitRetrain, State.splitWrite, served, State.splitOp, State.splitBusy, State.splitMode, hardware]
  exact ⟨_, runs, s.plainSwitch_switches 7 objs (by decide)⟩

theorem completes_splitCap (s : State) (inv : s.Inv) (served : s.served .H 0x800008 = true) (hardware : s.val O.splitCap = 0) :
    Completes (.splitCap .H 1) s fun t => t.val O.splitCap = 1 ∧ s.Counts t O.splitSwitches := by
  obtain ⟨-, -, objs, -⟩ := inv
  have runs : exec (.splitCap .H 1) s = .next ((s.plainSwitch 8 1).1.noteReason s.capReason) := by
    simp [exec, execSplitCap, State.splitWrite, served, State.splitOp, State.splitBusy, State.splitMode, hardware]
  refine ⟨_, runs, ?_⟩
  simp only [State.Counts, State.val_noteReason]
  exact s.plainSwitch_switches 8 objs (by decide)

theorem completes_splitCap_field (s : State) (hardware : s.val O.splitCap = 0) : Completes (.splitCap .F 1) s fun t => t = s := by
  refine ⟨s, ?_, rfl⟩
  simp [exec, execSplitCap, State.splitWrite, State.splitOp, State.splitBusy, State.splitMode, hardware]

theorem completes_splitStakeTo (s : State) (r : Route) (inv : s.Inv) (served : s.served r 0x800009 = true) (hardware : s.val O.splitStakeTo = 0) :
    Completes (.splitStakeTo r 1) s fun t => t.val O.splitStakeTo = 1 ∧ s.Counts t O.splitSwitches := by
  obtain ⟨-, -, objs, -⟩ := inv
  have runs : exec (.splitStakeTo r 1) s = .next (s.plainSwitch 9 1).1 := by
    simp [exec, execSplitStakeTo, State.splitWrite, served, State.splitOp, State.splitBusy, State.splitMode, hardware]
  exact ⟨_, runs, s.plainSwitch_switches 9 objs (by decide)⟩

/-- Settles O19: a served selector is one switch; the promotion that SPLIT_MIG abandons leaves who migrates as it was (`SameMigMode`). -/
theorem splitsComplete : Obligations.SplitsComplete :=
  ⟨completes_splitWalk, completes_splitFault, completes_splitMig, completes_splitFtl, completes_splitRotation, completes_splitClassify,
    completes_splitRetrain, completes_splitCap, completes_splitCap_field, completes_splitStakeTo⟩

end Sys2Proof.Machine
end

section
namespace Sys2Proof.Machine

/-! ### The steward's decisions (R788-R794) -/

theorem State.steward_of_turn (s : State) (f : State → State) (turn : s.stewardTurn = true) : s.steward f = f s.hlWork := if_pos turn

/-- The objects about the decision log stand at index 0x8001 and at the policy's own. -/
theorem State.val_logDecision {s : State} {policy k : Nat} (outcome reason idx sub old new : Nat) (measure : Int) (objs : Rises s.od)
    (log : k / 256 ≠ 0x8001) (last : k ≠ (0x8010 + policy) * 256 + 2) :
    (s.logDecision policy outcome reason idx sub old new measure).val k = s.val k :=
  s.logDecision_val policy outcome reason idx sub old new measure 0 k objs (by rintro rfl; exact log rfl) log last rfl

/-- A policy in Auto halves or doubles a source's ESC_COUNT and leaves the source's other settings (R788, R792). -/
theorem State.decideOn_escCount (s : State) (policy reason n new : Nat) (measure : Int) (objs : Rises s.od) (source : n < 0x800)
    (free : s.overridden ((0x7100 + n) * 256 + 6) = false) (moves : new ≠ governed ((0x7100 + n) * 256 + 6) (s.val ((0x7100 + n) * 256 + 6)))
    (auto : s.policyRuns policy = 2) (accepted : s.stewardRefused ((0x7100 + n) * 256 + 6) = false) :
    (s.decideOn policy reason ((0x7100 + n) * 256 + 6) new measure).val ((0x7100 + n) * 256 + 6) =
      setFld (s.val ((0x7100 + n) * 256 + 6)) 15 8 new := by
  generalize hk : (0x7100 + n) * 256 + 6 = k at *
  have setting : (k % 256 = 6 && 0x7100 ≤ k / 256) = true := by
    simp only [Bool.and_eq_true, decide_eq_true_eq]
    omega
  have wrote : s.decideOn policy reason k new measure =
      ((s.moveGoverned k new).noteReason s.capReason).logDecision policy 0 reason (k / 256) (k % 256) (governed k (s.val k)) new measure := by
    simp [State.decideOn, free, moves, auto, accepted]
  have moved : Rises ((s.moveGoverned k new).noteReason s.capReason).od := by
    rw [State.noteReason_od, State.moveGoverned, State.setGoverned, if_pos setting]
    exact State.setVal_rises _ _ _ objs
  rw [wrote, State.val_logDecision _ _ _ _ _ _ _ moved (by omega) (by omega), State.val_noteReason, State.moveGoverned, State.setGoverned,
    if_pos setting]
  exact State.val_setVal_same _ _ _ objs

theorem completes_policyModeWrite (s : State) (i : Fin 7) (r : Route) (inv : s.Inv) (served : s.served r ((0x8010 + i) * 256 + 1) = true) :
    Completes (.policyModeWrite i r 2) s fun t => t.policyMode i = 2 ∧ t.stw = s.stw ∧ t.reg = s.reg := by
  obtain ⟨-, -, objs, -⟩ := inv
  have runs : exec (.policyModeWrite i r 2) s = .next (s.setVal ((0x8010 + i) * 256 + 1) 2) := by
    simp [exec, execPolicyModeWrite, served, State.policyModeOp]
  exact ⟨_, runs, State.val_setVal_same _ _ _ objs, rfl, rfl⟩

theorem completes_policyPower (s : State) (peaks : Bool) (inv : s.Inv) (turn : s.stewardTurn = true)
    (close : s.marginOf s.closest ≤ ((s.val O.marginC * 16 : Nat) : Int)) (free : s.overridden O.powerCap = false) (auto : s.policyRuns 0 = 2)
    (accepted : s.stewardRefused O.powerCap = false)
    (moves : min (s.val O.powerCap) (max (s.val O.floorW) (s.val O.powerCap - s.val O.stepW)) ≠ s.val O.powerCap) :
    Completes (.policyPower true peaks) s fun t =>
      t.val O.powerCap = min (s.val O.powerCap) (max (s.val O.floorW) (s.val O.powerCap - s.val O.stepW)) ∧ t.stw.log.head?.map (fun d => (d.policy,
      d.outcome, d.reason, d.new)) = some (0, 0, s.closest + 1, min (s.val O.powerCap) (max (s.val O.floorW) (s.val O.powerCap - s.val O.stepW))) := by
  obtain ⟨-, -, objs, -⟩ := inv
  let new := min (s.val O.powerCap) (max (s.val O.floorW) (s.val O.powerCap - s.val O.stepW))
  have decides : s.hlWork.powerDecide true peaks = s.hlWork.decideOn 0 (s.closest + 1) O.powerCap new (s.hottest s.closest) := by
    have close' : s.hlWork.marginOf s.hlWork.closest ≤ ((s.hlWork.val O.marginC * 16 : Nat) : Int) := close
    rw [State.powerDecide]
    rw [if_pos (by rw [Bool.true_and]; exact decide_eq_true close')]
    rfl
  have runs : exec (.policyPower true peaks) s = .next (s.hlWork.decideOn 0 (s.closest + 1) O.powerCap new (s.hottest s.closest)) := by
    rw [exec, execPolicyPower, s.steward_of_turn _ turn, decides]
  obtain ⟨value, d, head, policy, outcome, reason, -, -, -, lower⟩ :=
    s.hlWork.decideOn_acts 0 (s.closest + 1) O.powerCap new (s.hottest s.closest) objs free moves auto accepted rfl (by decide) (by decide) (by decide)
  exact ⟨_, runs, value, by rw [head, Option.map_some, policy, outcome, reason, lower]⟩

theorem completes_policyMigration (s : State) (p e : Nat) (idle : Bool) (inv : s.Inv) (turn : s.stewardTurn = true) (few : p < 2 * e)
    (free : s.overridden O.migHotThreshold = false) (auto : s.policyRuns 1 = 2) (accepted : s.stewardRefused O.migHotThreshold = false)
    (moves : max (s.val O.migHotThreshold) (min (s.val O.threshMax) (2 * s.val O.migHotThreshold)) ≠ s.val O.migHotThreshold) :
    Completes (.policyMigration p e idle) s fun t =>
      t.val O.migHotThreshold = max (s.val O.migHotThreshold) (min (s.val O.threshMax) (2 * s.val O.migHotThreshold)) := by
  obtain ⟨-, -, objs, -⟩ := inv
  let new := max (s.val O.migHotThreshold) (min (s.val O.threshMax) (2 * s.val O.migHotThreshold))
  have runs : exec (.policyMigration p e idle) s = .next (s.hlWork.decideOn 1 1 O.migHotThreshold new e) := by
    rw [exec, execPolicyMigration, s.steward_of_turn _ turn, State.migDecide]
    rw [if_pos few]
    rfl
  exact ⟨_, runs, (s.hlWork.decideOn_acts 1 1 O.migHotThreshold new e objs free moves auto accepted rfl (by decide) (by decide) (by decide)).1⟩

theorem completes_policyRotation (s : State) (d : Word32) (w : Bool) (n : Nat) (inv : s.Inv) (turn : s.stewardTurn = true)
    (next : s.nextLotAcres = some n) (fits : n ≤ s.acresFree.length) (below : s.val O.residentMax < s.val O.residentLimit)
    (free : s.overridden O.residentMax = false) (auto : s.policyRuns 5 = 2) (accepted : s.stewardRefused O.residentMax = false) :
    Completes (.policyRotation (some d) w) s fun t => t.val O.residentMax = s.val O.residentMax + 1 := by
  obtain ⟨-, -, objs, -⟩ := inv
  have runs : exec (.policyRotation (some d) w) s =
      .next (s.hlWork.decideOn 5 1 O.residentMax (s.val O.residentMax + 1) (sext 32 d.toNat)) := by
    have next' : s.hlWork.nextLotAcres = some n := next
    have fits' : n ≤ s.hlWork.acresFree.length := fits
    have below' : s.hlWork.val O.residentMax < s.hlWork.val O.residentLimit := below
    rw [exec, execPolicyRotation, s.steward_of_turn _ turn, State.rotationDecide]
    simp only [next', fits', below']
    rfl
  exact ⟨_, runs, (s.hlWork.decideOn_acts 5 1 O.residentMax _ _ objs free (Nat.succ_ne_self _) auto accepted rfl (by decide) (by decide)
    (by decide)).1⟩

theorem completes_policyFaultThreshold (s : State) (n day week : Nat) (inv : s.Inv) (turn : s.stewardTurn = true) (source : n < 0x800)
    (escalates : srcEscalates n = true) (some_ : 0 < day) (doubles : 2 * week ≤ 7 * day)
    (free : s.overridden ((0x7100 + n) * 256 + 6) = false) (auto : s.policyRuns 4 = 2)
    (accepted : s.stewardRefused ((0x7100 + n) * 256 + 6) = false)
    (moves : min (fld (s.val ((0x7100 + n) * 256 + 6)) 15 8) (max (s.val O.escMin) (fld (s.val ((0x7100 + n) * 256 + 6)) 15 8 / 2)) ≠
      fld (s.val ((0x7100 + n) * 256 + 6)) 15 8) :
    Completes (.policyFaultThreshold [(n, day, week)]) s fun t =>
      t.val ((0x7100 + n) * 256 + 6) = setFld (s.val ((0x7100 + n) * 256 + 6)) 15 8 (min (fld (s.val ((0x7100 + n) * 256 + 6)) 15 8) (max (s.val O.escMin) (fld (s.val ((0x7100 + n) * 256 + 6)) 15 8 / 2))) := by
  obtain ⟨-, -, objs, -⟩ := inv
  have count (v : Nat) : governed ((0x7100 + n) * 256 + 6) v = fld v 15 8 := by
    rw [governed, if_pos]
    simp only [Bool.and_eq_true, decide_eq_true_eq]
    omega
  have runs : exec (.policyFaultThreshold [(n, day, week)]) s = .next (s.hlWork.decideOn 4 1 ((0x7100 + n) * 256 + 6)
      (min (fld (s.val ((0x7100 + n) * 256 + 6)) 15 8) (max (s.val O.escMin) (fld (s.val ((0x7100 + n) * 256 + 6)) 15 8 / 2))) day) := by
    rw [exec, execPolicyFaultThreshold, s.steward_of_turn _ turn, State.each]
    simp only [List.foldl, State.escDecide, escalates, count, some_, doubles]
    rfl
  exact ⟨_, runs, s.hlWork.decideOn_escCount 4 1 n _ _ objs source free (by rw [count]; exact moves) auto accepted⟩

theorem State.bump_writes (s : State) (k : Nat) : ∃ od, s.bump k = { s with od := od } := by
  unfold State.bump State.bumpBy
  dsimp only
  split <;> exact ⟨_, rfl⟩

/-- A log entry touches the log and dictionary values alone. -/
theorem State.logDecision_writes (s : State) (policy outcome reason idx sub old new : Nat) (measure : Int) :
    ∃ od log, s.logDecision policy outcome reason idx sub old new measure = { s with od := od, stw := { s.stw with log := log } } ∧
      (Rises s.od → Rises od) := by
  unfold State.logDecision
  extract_lets n d full stw logged counted last
  obtain ⟨od, decided⟩ : ∃ od, counted = { logged with od := od } := State.bump_writes (logged.setVal O.logSeq _) _
  obtain ⟨od', overwritten⟩ := counted.bump_writes O.logOverwritten
  have rises : Rises s.od → Rises counted.od := fun objs => State.bump_rises _ (State.setVal_rises logged _ _ objs)
  simp only [last]
  split
  · refine ⟨_, _, by rw [overwritten, decided]; rfl, fun objs => kvSet_rises _ _ _ _ ?_⟩
    exact (congrArg State.od overwritten) ▸ State.bump_rises _ (rises objs)
  · exact ⟨_, _, by rw [decided]; rfl, fun objs => kvSet_rises _ _ _ _ ((congrArg State.od decided) ▸ rises objs)⟩

theorem State.logDecision_holds (s : State) (policy outcome reason idx sub old new : Nat) (measure : Int) :
    (s.logDecision policy outcome reason idx sub old new measure).stw.holds = s.stw.holds := by
  obtain ⟨od, log, logged, -⟩ := s.logDecision_writes policy outcome reason idx sub old new measure
  rw [logged]

theorem State.setGoverned_stw (s : State) (k v : Nat) : (s.setGoverned k v).stw = s.stw := by
  unfold State.setGoverned
  split <;> rfl

/-- A decision leaves the overrides as they are. -/
theorem State.overridden_decideOn (s : State) (policy reason k new k' : Nat) (measure : Int) (free : s.overridden k = false)
    (moves : new ≠ governed k (s.val k)) (auto : s.policyRuns policy = 2) (accepted : s.stewardRefused k = false) :
    (s.decideOn policy reason k new measure).overridden k' = s.overridden k' := by
  have wrote : s.decideOn policy reason k new measure =
      ((s.moveGoverned k new).noteReason s.capReason).logDecision policy 0 reason (k / 256) (k % 256) (governed k (s.val k)) new measure := by
    simp [State.decideOn, free, moves, auto, accepted]
  have holds : (s.decideOn policy reason k new measure).stw.holds = s.stw.holds := by
    rw [wrote, State.logDecision_holds, (State.noteReason_keeps _ _).kstw rfl, State.moveGoverned, State.setGoverned_stw]
  rw [State.overridden, State.overridden, holds, (State.decideOn_keeps _ _ _ _ _ _).know rfl]

theorem completes_policySeedbank (s : State) (inv : s.Inv) (turn : s.stewardTurn = true)
    (lags : 80 * (s.val O.scrubInterval * 24) ≤ 100 * s.odLive .H O.scrubLagH) (free : s.overridden O.scrubRate = false)
    (auto : s.policyRuns 2 = 2) (accepted : s.stewardRefused O.scrubRate = false)
    (moves : max (s.val O.scrubRate) (min (s.val O.rateMax) (2 * s.val O.scrubRate)) ≠ s.val O.scrubRate) (held : s.overridden O.wearSpread = true) :
    Completes (.policySeedbank) s fun t => t.val O.scrubRate = max (s.val O.scrubRate) (min (s.val O.rateMax) (2 * s.val O.scrubRate)) := by
  obtain ⟨-, -, objs, -⟩ := inv
  let u := s.hlWork.decideOn 2 1 O.scrubRate (max (s.val O.scrubRate) (min (s.val O.rateMax) (2 * s.val O.scrubRate))) (s.odLive .H O.scrubLagH)
  have held' : u.overridden O.wearSpread = true := (State.overridden_decideOn s.hlWork 2 1 _ _ _ _ free moves auto accepted).trans held
  have runs : exec (.policySeedbank) s = .next u := by
    have lags' : 80 * (s.hlWork.val O.scrubInterval * 24) ≤ 100 * s.hlWork.odLive .H O.scrubLagH := lags
    have second (new : Nat) (m : Int) : u.decideOn 2 3 O.wearSpread new m = u := by simp [State.decideOn, held']
    rw [exec, execPolicySeedbank, s.steward_of_turn _ turn, State.seedDecide]
    simp only [lags', if_true]
    exact congrArg _ ((ite_congr rfl (fun _ => second _ _) (fun _ => rfl)).trans (ite_self u))
  exact ⟨_, runs, (s.hlWork.decideOn_acts 2 1 O.scrubRate _ _ objs free moves auto accepted rfl (by decide) (by decide) (by decide)).1⟩

theorem completes_policyLink (s : State) (fec rep : Nat) (b : BitVec 13) (inv : s.Inv) (up : s.link.up = true) (wait : s.stewardTurn = false) :
    Completes (.policyLink fec rep b) s fun t =>
      t.val O.fecCorrected = (s.val O.fecCorrected + fec) % 2 ^ 64 ∧ t.val O.replays = (s.val O.replays + rep) % 2 ^ 64 ∧ t.reg = s.reg ∧
      t.stw = s.stw := by
  obtain ⟨-, -, objs, -⟩ := inv
  let u : State := (s.bumpBy O.fecCorrected fec).bumpBy O.replays rep
  have wait' : u.stewardTurn = false := by
    have k : Keeps 4 s u := (State.bumpBy_keeps s _ _).step (State.bumpBy_keeps _ _ _) rfl
    rw [State.stewardTurn, k.khl rfl, k.khop rfl, k.kmir rfl, k.kdict rfl]
    exact wait
  have runs : exec (.policyLink fec rep b) s = .next u := by
    rw [exec, execPolicyLink, if_pos up, State.steward, if_neg (by rw [wait']; decide)]
  refine ⟨_, runs, ?_, ?_, ?_, ?_⟩
  · rw [State.val_bumpBy_other _ _ _ _ (State.bumpBy_rises _ _ _ objs) (by decide) (by decide), State.val_bumpBy _ _ _ objs (by decide)]
  · rw [State.val_bumpBy _ _ _ (State.bumpBy_rises _ _ _ objs) (by decide), State.val_bumpBy_other _ _ _ _ objs (by decide) (by decide)]
  · rw [State.bumpBy_reg, State.bumpBy_reg]
  · rw [(State.bumpBy_keeps _ _ _).kstw rfl, (State.bumpBy_keeps _ _ _).kstw rfl]

theorem completes_policyFallow_timer (s : State) (turn : s.stewardTurn = true) (fallow : s.pwr.mode = .fallow) (timed : s.val O.wakeAfterS ≠ 0)
    (on : s.policyRuns 6 ≠ 0) (masked : bit (s.val O.fallowWakeMask) 3 = false) :
    Completes (.policyFallow true) s fun t =>
      t.pwr.deferredTimer = true ∧ t.now = max s.now (s.pwr.fallowAt + s.val O.wakeAfterS * 1000000000) ∧ t.od = s.od := by
  have runs : exec (.policyFallow true) s = .next
      { s.hlWork.until_ (s.pwr.fallowAt + s.val O.wakeAfterS * 1000000000) with
        pwr := { s.hlWork.pwr with deferredTimer := true } } := by
    have fallow' : s.hlWork.pwr.mode = .fallow := fallow
    have timed' : (s.hlWork.val O.wakeAfterS = 0 || s.hlWork.policyRuns 6 = 0) = false := by
      simp only [Bool.or_eq_false_iff, decide_eq_false_iff_not]
      exact ⟨timed, on⟩
    rw [exec, execPolicyFallow, s.steward_of_turn _ turn, State.fallowDecide, fallow']
    simp only [timed']
    exact congrArg _ (if_neg (ne_true_of_eq_false masked))
  exact ⟨_, runs, rfl, rfl, rfl⟩

theorem completes_policyFallow_idle (s : State) (inv : s.Inv) (turn : s.stewardTurn = true) (up : s.pwr.mode = .up) (idle : s.fallowFails = 0)
    (free : s.overridden O.pwrRequest = false) (auto : s.policyRuns 6 = 2) (accepted : s.stewardRefused O.pwrRequest = false) :
    Completes (.policyFallow true) s fun t =>
      t.val O.pwrRequest = 1 ∧ t.stw.log.head?.map (fun d => (d.policy, d.outcome, d.new)) = some (6, 0, 1) := by
  obtain ⟨-, -, objs, -⟩ := inv
  let u : State := s.hlWork.logDecision 6 0 1 0x2000 2 (s.val O.pwrRequest) 1 (s.val O.idleS)
  let v : State := u.setVal O.pwrRequest 1
  let w : State := { v with pwr := { v.pwr with mode := .entering, entryAbandoned := false } }
  have runs : exec (.policyFallow true) s = .next (u.pwrRequestOp 1).1 := by
    have up' : s.hlWork.pwr.mode = .up := up
    have idle' : s.hlWork.fallowFails = 0 := idle
    have free' : s.hlWork.overridden O.pwrRequest = false := free
    have auto' : s.hlWork.policyRuns 6 = 2 := auto
    have accepted' : s.hlWork.stewardRefused O.pwrRequest = false := accepted
    rw [exec, execPolicyFallow, s.steward_of_turn _ turn, State.fallowDecide, up']
    simp only [idle', State.fallowAct, free', auto', accepted']
    rfl
  obtain ⟨od, log, logged, rises⟩ := s.hlWork.logDecision_writes 6 0 1 0x2000 2 (s.val O.pwrRequest) 1 (s.val O.idleS)
  have logged : u = { s.hlWork with od := od, stw := { s.stw with log := log } } := logged
  have objsU : Rises u.od := by rw [logged]; exact rises objs
  have asked : v.val O.pwrRequest = 1 := State.val_setVal_same u _ _ objsU
  have idleV : v.fallowFails = 0 := by simp only [v, logged]; exact idle
  have enters : (u.pwrRequestOp 1).1 = w.reqStatus 3 0 := by
    have upV : v.pwr.mode = .up := by simp only [v, logged]; exact up
    have applied : v.applyRequest = w.reqStatus 3 0 := by
      rw [State.applyRequest, asked]
      exact if_pos idleV
    rw [← applied]
    simp only [State.pwrRequestOp, show (u.setVal O.pwrRequest 1).pwr.mode = .up from upV]
    rfl
  refine ⟨_, runs, ?_⟩
  beta_reduce
  rw [enters, State.reqStatus, State.val_setVal w _ _ _ (show Rises w.od from State.setVal_rises u O.pwrRequest 1 objsU), if_neg (by decide)]
  refine ⟨asked, ?_⟩
  have head := s.hlWork.logDecision_head 6 0 1 0x2000 2 (s.val O.pwrRequest) 1 (s.val O.idleS) 0
  exact congrArg (Option.map fun d => (d.policy, d.outcome, d.new)) head

/-- Settles O20: on the steward's turn each policy comes down to one decision of its own, which writes its object and logs it. -/
theorem policiesComplete : Obligations.PoliciesComplete :=
  ⟨completes_policyModeWrite, completes_policyPower, completes_policyMigration, completes_policySeedbank, completes_policyFaultThreshold,
    completes_policyRotation, completes_policyLink, completes_policyFallow_timer, completes_policyFallow_idle⟩

end Sys2Proof.Machine
end

section
namespace Sys2Proof.Machine

set_option Elab.async false

/-! ### The upper half of a stake value is no place for a first read (R215, R396)

`counterWord` holds for every offset of the stake values, not only for the aligned ones. A read of 4 bytes at the upper half of a stake value is
the second read of R215: it latches nothing. -/

/-- The host is served, messages leave at once, and the control window stands at address 0. -/
def hostServed : State :=
  { State.reset with
    link := { State.reset.link with up := true, ltssm := .l0 }
    host := { State.reset.host with inFlr := false, power := .d0, frozen := false, queue := [], blocked := [], pCredit := 100, npCredit := 100 }
    pwr := { State.reset.pwr with mode := .up, hold := [] }
    cfg := kvSet (cfgReset 4) State.reset.cfg 4 6 }

/-- A read of the upper half of stake value 0. -/
def upperHalfRead : MemReq := { addr := 0x400004, len := 4 }

theorem upperHalfRead_latches : leaves (.counterLowRead upperHalfRead) hostServed (fun t => kvFind t.latch 0x400004) = some none := by
  decide +kernel

/-- Refutes O21: a read of the upper half of a stake value, at an offset that `counterWord` takes for a counter, latches nothing. -/
theorem not_hostMemoryRequestsComplete : ¬ Obligations.HostMemoryRequestsComplete := by
  rintro ⟨-, -, -, -, -, lowRead, -⟩
  obtain ⟨t, runs, latched, -⟩ :=
    lowRead hostServed upperHalfRead 0x400004 (by unfold State.ServesHost; decide +kernel) (by unfold State.SendsNow; decide +kernel)
      ⟨rfl, rfl⟩ (by decide +kernel) (by decide) (by decide) rfl
  have nothing := upperHalfRead_latches
  rw [leaves_of_next _ runs, latched] at nothing
  exact absurd nothing (by simp)

end Sys2Proof.Machine
end

section
namespace Sys2Proof.Machine

set_option Elab.async false

/-! ### A training can stop short (R234, R235)

LINK_TRAINED also stands for a training that stops in an earlier state of the LTSSM: the offer then names that state, and the link stays down. -/

/-- The package is up and its host link is down. -/
def linkDown : State := { State.reset with pwr := { State.reset.pwr with mode := .up, perst := false } }

/-- A full offer of a training that stops in Polling. -/
def offerThatStops : LinkOffer := { speed := 6, lanes := 16, flit := true, cxl := false, stop := some .polling }

theorem linkDown_inv : linkDown.Inv :=
  ⟨rfl, rfl, rfl, rfl, rfl, rfl, ⟨rfl, fun _ listed => absurd listed List.not_mem_nil⟩, rfl, rfl, rfl, rfl, rfl, rfl⟩

theorem linkTrained_stays_down : leaves (.linkTrained offerThatStops) linkDown (fun t => t.link.up) = some false := by
  decide +kernel

/-- Refutes O23: an offer whose training stops in Polling meets every hypothesis on LINK_TRAINED and leaves the link down. -/
theorem not_linkTrainsAndSavesPower : ¬ Obligations.LinkTrainsAndSavesPower := by
  rintro ⟨trained, -⟩
  obtain ⟨t, runs, up, -⟩ :=
    trained linkDown offerThatStops linkDown_inv (by decide +kernel) (by decide +kernel) (by decide +kernel) (by decide +kernel) (by decide +kernel)
      rfl (by decide +kernel) rfl rfl (by decide +kernel)
  have down := linkTrained_stays_down
  rw [leaves_of_next _ runs, up] at down
  exact absurd down (by decide)

end Sys2Proof.Machine
end

section
namespace Sys2Proof.Machine

set_option Elab.async false

/-! ### A configuration dword wider than 32 bits (R243)

The state does not keep a configuration dword within 32 bits; a configuration write does. Of such a dword the write changes more than the byte that
it enables. -/

/-- The host is served, and the dword of Interrupt Line holds a bit above its 32. -/
def wideDword : State :=
  { hostServed with
    pwr := { hostServed.pwr with perst := false }
    cfg := kvSet (cfgReset 0x03C) hostServed.cfg 0x03C (2 ^ 32) }

theorem wideDword_inv : wideDword.Inv :=
  ⟨rfl, rfl, rfl, rfl, by unfold Rises; decide +kernel, rfl, ⟨rfl, fun _ listed => absurd listed List.not_mem_nil⟩, rfl, rfl, rfl, rfl, rfl, rfl⟩

theorem configWrite_cuts : leaves (.configRequest true 0x03C 1 5 0) wideDword (fun t => t.cfgv 0x03C) = some 5 := by
  decide +kernel

/-- Refutes O24: in the state `wideDword` a write of Interrupt Line also clears what stands above bit 31 of its dword. -/
theorem not_configurationCompletes : ¬ Obligations.ConfigurationCompletes := by
  rintro ⟨-, interruptLine, -⟩
  obtain ⟨t, runs, line, -⟩ :=
    interruptLine wideDword 1 5 0 wideDword_inv (by unfold State.SendsNow; decide +kernel) (by decide +kernel) (by decide +kernel) (by decide)
  have cut := configWrite_cuts
  rw [leaves_of_next _ runs, line] at cut
  exact absurd cut (by decide +kernel)

end Sys2Proof.Machine
end

section
namespace Sys2Proof.Machine

set_option Elab.async false

/-! ### Ring entries that arrive while the furrow may take none (R287, R354)

A furrow whose share of the store is used up keeps the entries that arrive; it consumes them when it has a slot again. -/

/-- Furrow 0 is enabled with no slot of the store to take, and its read at HEAD is outstanding. -/
def ringReadWithoutRoom : State :=
  { State.reset with
    reg := [(Rg.fctx 0 0x10, 0)]
    g := { State.reset.g with furrows := [(0, { state := .enabled })] }
    host := { State.reset.host with tags := [{ tag := 0, owner := .furrowRing 0 0 1, addr := 0, len := 64 }] } }

theorem ringReadWithoutRoom_inv : ringReadWithoutRoom.Inv :=
  ⟨rfl, rfl, rfl, rfl, rfl, rfl, ⟨rfl, fun _ listed => absurd listed List.not_mem_nil⟩, rfl, rfl, rfl, rfl, rfl, rfl⟩

theorem readCompletion_keeps_head : leaves (.readCompletion 0 [] true) ringReadWithoutRoom (fun t => (t.fur 0).head) = some 0 := by
  decide +kernel

/-- Refutes O25: in the state `ringReadWithoutRoom` the last completion of the ring read at HEAD leaves HEAD where it stands. -/
theorem not_completionsAndCreditsComplete : ¬ Obligations.CompletionsAndCreditsComplete := by
  rintro ⟨-, ringRead, -⟩
  obtain ⟨t, runs, head, -⟩ :=
    ringRead ringReadWithoutRoom 0 [] { tag := 0, owner := .furrowRing 0 0 1, addr := 0, len := 64 } 0 1 ringReadWithoutRoom_inv (by decide +kernel) rfl rfl rfl rfl rfl rfl
      le_rfl rfl
  have still := readCompletion_keeps_head
  rw [leaves_of_next _ runs, show (t.fur 0).head = _ from head] at still
  exact absurd still (by decide +kernel)

end Sys2Proof.Machine
end

section
namespace Sys2Proof.Machine

set_option Elab.async false

/-! ### A counter register wider than 64 bits (R215, R320)

The state does not keep a counter register of the window within 64 bits. One that stands above them starts again at 0 with its next event. -/

/-- The host is served, a cause of the attention line is set, and ATTN_ASSERTS stands above its 64 bits. -/
def wideCounter : State :=
  { hostServed with reg := kvSet (regReset Rg.attnAsserts) (kvSet (regReset Rg.attnMask) [(Rg.attnCause, 1)] Rg.attnMask 1) Rg.attnAsserts (2 ^ 64 + 5) }

theorem wideCounter_inv : wideCounter.Inv :=
  ⟨rfl, rfl, rfl, rfl, by unfold Rises; decide +kernel, rfl, ⟨rfl, fun _ listed => absurd listed List.not_mem_nil⟩, rfl, rfl, rfl, rfl, rfl, rfl⟩

theorem assertInta_restarts : leaves .assertInta wideCounter (fun t => t.rg Rg.attnAsserts) = some 0 := by
  decide +kernel

/-- Refutes O26: in the state `wideCounter` ASSERT_INTA leaves ATTN_ASSERTS at 0, not at its successor modulo 2^64. -/
theorem not_freezeAndAttentionComplete : ¬ Obligations.FreezeAndAttentionComplete := by
  rintro ⟨-, -, -, -, assertInta, -⟩
  obtain ⟨t, runs, -, -, count, -⟩ :=
    assertInta wideCounter (by unfold State.SendsNow; decide +kernel) (by decide +kernel) rfl (by decide +kernel) rfl rfl wideCounter_inv
  have restarted := assertInta_restarts
  rw [leaves_of_next _ runs, count] at restarted
  exact absurd restarted (by decide +kernel)

end Sys2Proof.Machine
end

section
namespace Sys2Proof.Machine

/-! ### The command executor (R428, R451-R465) -/

/-- Of the translation state a step moves the walks alone: their slots and what waits for one. -/
def WalksOnly (s t : State) : Prop := ∃ walks slotWait, t.plat = { s.plat with walks := walks, slotWait := slotWait }

theorem WalksOnly.refl (s : State) : WalksOnly s s := ⟨_, _, rfl⟩

theorem WalksOnly.trans {s t u : State} (h : WalksOnly s t) (h' : WalksOnly t u) : WalksOnly s u := by
  obtain ⟨walks, slotWait, first⟩ := h
  obtain ⟨walks', slotWait', second⟩ := h'
  exact ⟨walks', slotWait', by rw [second, first]⟩

theorem WalksOnly.keeps {m : Nat} {s t u : State} (h : WalksOnly s t) (k : Keeps m t u) (hm : m.testBit 9 = false) : WalksOnly s u := by
  obtain ⟨walks, slotWait, moved⟩ := h
  exact ⟨walks, slotWait, (k.kplat hm).trans moved⟩

theorem State.takeSlot_walksOnly (s : State) (w : Walk) : WalksOnly s (s.takeSlot w) := by
  have counted : WalksOnly s (if w.kind == .table then s.bump O.walks else s) :=
    rel_ite ((WalksOnly.refl s).keeps (State.bump_keeps _ _) rfl) (WalksOnly.refl s)
  exact counted.trans ⟨_, _, rfl⟩

theorem State.grantSlot_walksOnly (s : State) : WalksOnly s s.grantSlot := by
  unfold State.grantSlot
  extract_lets next
  cases next with
  | none => exact WalksOnly.refl s
  | some w => exact WalksOnly.trans ⟨_, _, rfl⟩ (State.takeSlot_walksOnly _ _)

theorem State.grantSlots_walksOnly (s : State) : WalksOnly s s.grantSlots :=
  rel_each (WalksOnly.refl s) fun t _ h => h.trans t.grantSlot_walksOnly

theorem State.endWalk_walksOnly (s : State) (id : Nat) : WalksOnly s (s.endWalk id) := WalksOnly.trans ⟨_, _, rfl⟩ (State.grantSlots_walksOnly _)

theorem State.issueWalks_walksOnly (s : State) : WalksOnly s s.issueWalks := by
  unfold State.issueWalks
  refine rel_each (WalksOnly.refl s) fun t w h => rel_ite (rel_ite ?_ ?_) ?_
  · exact h.trans (State.endWalk_walksOnly _ _)
  · exact (h.trans (State.endWalk_walksOnly _ _)).keeps (State.fault_keeps _ _ _ _ _ _ _ _) rfl
  · split
    · exact h
    · split
      · exact h
      · next r sent =>
        have left : WalksOnly s r.2 := by
          split at sent
          · exact h.keeps (State.request_keeps _ _ _ _ sent) rfl
          · cases sent
        have issued : WalksOnly s (r.2.setWalk { w with issued := true }) := left.trans ⟨_, _, rfl⟩
        dsimp only
        generalize r.2.setWalk { w with issued := true } = u at issued ⊢
        cases w.kind with
        | acre => exact issued
        | _ => exact issued.keeps (State.bump_keeps _ _) rfl

theorem State.leaveFaults_walksOnly (s : State) (f : Stream → Bool) : WalksOnly s (s.leaveFaults f) := by
  refine WalksOnly.trans ?_ (State.issueWalks_walksOnly _)
  refine WalksOnly.trans ?_ (State.grantSlots_walksOnly _)
  exact ⟨_, _, rfl⟩

theorem State.recallSlots_walksOnly (s : State) (c : Cover) : WalksOnly s (s.recallSlots c) := by
  unfold State.recallSlots
  extract_lets held gone t g
  refine rel_ite (WalksOnly.refl s) ?_
  have left : WalksOnly s t := ((WalksOnly.refl s).keeps (State.bumpBy_keeps _ _ _) rfl).trans (State.leaveFaults_walksOnly _ _)
  exact left

/-- The drop and recall phases of a command begin (R459). -/
def State.beginPhases (s : State) (c : PlatCmd) : State :=
  let t := (s.dropXlats c.cover).recallSlots c.cover
  let d := t.draw
  { d.2 with plat := { d.2.plat with
      executing := some c, acks := t.allEngines
      dropUntil := t.now + min (d.1 % 1000) (d.1 / 1000 % 1000), recallUntil := t.now + max (d.1 % 1000) (d.1 / 1000 % 1000) } }

/-- What a command that has begun has done (R451, R459). -/
structure Begun (s : State) (c : PlatCmd) (t : State) : Prop where
  executing : t.plat.executing = some c
  queue : t.plat.queue = s.plat.queue
  acks : t.plat.acks = s.allEngines
  cache : t.plat.cache = s.plat.cache.filter (fun x => !c.cover.hits x.pasid x.space x.va (x.va + x.size))
  parcels : t.plat.parcels = s.plat.parcels
  retiring : t.plat.retiring = s.plat.retiring
  hbm : t.hbm = s.hbm
  reg : t.reg = s.reg

theorem State.beginPhases_begun (s : State) (c : PlatCmd) : Begun s c (s.beginPhases c) := by
  let u := s.dropXlats c.cover
  have dropped : u.plat = { (s.dropAhead c.cover).plat with
      cache := (s.dropAhead c.cover).plat.cache.filter (fun x => !c.cover.hits x.pasid x.space x.va (x.va + x.size))
      walkCache := u.plat.walkCache, walks := u.plat.walks, slotWait := u.plat.slotWait } := rfl
  rw [(State.dropAhead_keeps _ _).kplat rfl] at dropped
  have keeps : Keeps 94100 s (u.recallSlots c.cover) := ((Keeps.refl _ s).step (State.dropXlats_keeps s c.cover) rfl).step (State.recallSlots_keeps _ _) rfl
  obtain ⟨walks, slotWait, plat⟩ := u.recallSlots_walksOnly c.cover
  have engines : (u.recallSlots c.cover).allEngines = s.allEngines := by rw [State.allEngines, keeps.klink rfl, State.allEngines]
  rw [dropped] at plat
  have hbm := keeps.khbm rfl
  have reg := keeps.kreg rfl
  unfold State.beginPhases
  rw [show s.dropXlats c.cover = u from rfl]
  generalize u.recallSlots c.cover = v at *
  constructor
  · rfl
  · show v.plat.queue = _; rw [plat]
  · exact engines
  · show v.plat.cache = _; rw [plat]
  · show v.plat.parcels = _; rw [plat]
  · show v.plat.retiring = _; rw [plat]
  · exact hbm
  · exact reg

/-- The executor is idle, and one command that passes its checks stands in its queue. -/
structure OneCommand (s : State) (c : PlatCmd) : Prop where
  idle : s.plat.executing = none
  queue : s.plat.queue = [c]
  checked : s.cmdCheck c = 0

theorem State.withRange_of_kind (s : State) (c : PlatCmd) (kind : c.kind ≠ 5) : s.withRange c = c := by
  simp [State.withRange, kind]

theorem State.overlaysIn_nil (s : State) (c : Cover) (none_ : s.plat.parcels = []) : s.overlaysIn c = [] := by
  rw [State.overlaysIn, none_]; rfl

/-- A command that passes its checks and covers no overlay of the Z20 begins its phases (R452, R459, R503). -/
theorem State.runCmd_begins (s : State) (c : PlatCmd) (one : OneCommand s c) (some_ : c.kind ≠ 7) (clear : s.overlaysIn (s.withRange c).cover = []) :
    s.runCmd c.kind =
      (let t := { s with plat := { s.plat with queue := [] } }
       let t := if (s.withRange c).kind == 4 then t.putParcel (s.withRange c).parcel ((s.withRange c).toParcel ((s.withRange c).own == Own.overlay)) else t
       let t := if (s.withRange c).kind == 6 then { t with plat := { t.plat with retiring := some (s.withRange c).pasid } } else t
       t).beginPhases (s.withRange c) := by
  have same : (s.withRange c).kind = c.kind := by
    unfold State.withRange
    dsimp only
    split <;> rfl
  rw [State.runCmd, one.idle, one.queue]
  dsimp only
  rw [if_neg (by simp), if_neg (by simp [clear]), if_neg (by simp [one.checked, same, some_])]
  rfl

theorem completes_inval (s : State) (c : PlatCmd) (k : Nat) (one : OneCommand s c) (kind : c.kind = k) (inval : k = 1 ∨ k = 2 ∨ k = 3)
    (none_ : s.plat.parcels = []) :
    (s.runCmd k).plat.executing = some c ∧ (s.runCmd k).plat.queue = [] ∧ (s.runCmd k).plat.acks = s.allEngines ∧
    (s.runCmd k).plat.cache = s.plat.cache.filter (fun x => !c.cover.hits x.pasid x.space x.va (x.va + x.size)) ∧ (s.runCmd k).hbm = s.hbm ∧
    (s.runCmd k).reg = s.reg := by
  have runs := s.runCmd_begins c one (by omega) (s.overlaysIn_nil _ none_)
  rw [s.withRange_of_kind c (by omega)] at runs
  dsimp only at runs
  rw [if_neg (by simp; omega), if_neg (by simp; omega)] at runs
  rw [← kind, runs]
  have begun := State.beginPhases_begun { s with plat := { s.plat with queue := [] } } c
  exact ⟨begun.executing, begun.queue, begun.acks, begun.cache, begun.hbm, begun.reg⟩

theorem completes_parcelInstall (s : State) (c : PlatCmd) (one : OneCommand s c) (kind : c.kind = 4) (none_ : s.plat.parcels = []) (own : c.own = .no) :
    Completes (.parcelInstall) s fun t =>
      t.plat.executing = some c ∧ t.plat.queue = [] ∧ t.plat.acks = s.allEngines ∧ kvGet {} t.plat.parcels c.parcel = c.toParcel false ∧
      t.hbm = s.hbm ∧ t.reg = s.reg := by
  have runs := s.runCmd_begins c one (by omega) (s.overlaysIn_nil _ none_)
  rw [s.withRange_of_kind c (by omega)] at runs
  simp only [kind, own] at runs
  let u : State := State.putParcel { s with plat := { s.plat with queue := [] } } c.parcel (c.toParcel false)
  have begun := u.beginPhases_begun c
  refine ⟨u.beginPhases c, congrArg Host.Outcome.next runs, begun.executing, begun.queue, begun.acks, ?_, begun.hbm, begun.reg⟩
  rw [begun.parcels]
  exact (congrArg (fun m => kvGet {} (kvSet {} m c.parcel (c.toParcel false)) c.parcel) none_).trans (kvGet_kvSet_self _ _ _ _ (by simp [PlatCmd.toParcel]))

theorem completes_parcelRemove (s : State) (c : PlatCmd) (p : Parcel) (one : OneCommand s c) (kind : c.kind = 5) (parcel : s.plat.parcels = [(c.parcel, p)])
    (host : p.z20 = false) :
    Completes (.parcelRemove) s fun t =>
      t.plat.executing = some (s.withRange c) ∧ t.plat.queue = [] ∧ t.plat.acks = s.allEngines ∧ t.plat.parcels = s.plat.parcels ∧
      t.plat.cache = s.plat.cache.filter (fun x => !(s.withRange c).cover.hits x.pasid x.space x.va (x.va + x.size)) ∧ t.hbm = s.hbm ∧
      t.reg = s.reg := by
  have runs := s.runCmd_begins c one (by omega) (by simp [State.overlaysIn, parcel, host])
  have same : (s.withRange c).kind = 5 := by
    unfold State.withRange
    dsimp only
    split <;> exact kind
  simp only [kind, same] at runs
  have begun := State.beginPhases_begun { s with plat := { s.plat with queue := [] } } (s.withRange c)
  exact ⟨_, congrArg Host.Outcome.next runs, begun.executing, begun.queue, begun.acks, begun.parcels, begun.cache, begun.hbm, begun.reg⟩

theorem completes_pasidRetire (s : State) (c : PlatCmd) (one : OneCommand s c) (kind : c.kind = 6) (none_ : s.plat.parcels = []) :
    Completes (.pasidRetire) s fun t =>
      t.plat.executing = some c ∧ t.plat.retiring = some c.pasid ∧ t.plat.queue = [] ∧ t.plat.acks = s.allEngines ∧
      t.plat.cache = s.plat.cache.filter (fun x => !c.cover.hits x.pasid x.space x.va (x.va + x.size)) ∧ t.hbm = s.hbm ∧ t.reg = s.reg := by
  have runs := s.runCmd_begins c one (by omega) (s.overlaysIn_nil _ none_)
  rw [s.withRange_of_kind c (by omega)] at runs
  simp only [kind] at runs
  have begun := State.beginPhases_begun { s with plat := { s.plat with queue := [], retiring := some c.pasid } } c
  exact ⟨_, congrArg Host.Outcome.next runs, begun.executing, begun.retiring, begun.queue, begun.acks, begun.cache, begun.hbm, begun.reg⟩

theorem State.cmdDone_sync (s : State) (c : PlatCmd) (k : Nat) (kind : c.kind = 7) (ticket : c.ticket = some k) (plain : c.stampEn = false)
    (ats : c.ats = none) (own : c.own = .no) (noAts : s.plat.atsHeld = []) (noOwn : s.plat.ownHeld = []) :
    s.cmdDone c 0 =
      (let t := State.bump { s with plat := { s.plat with executing := none, acks := 0, atsHeld := [] } } O.commands
       { t with plat := { t.plat with ticketDone := k, lastResult := 0 } }) := by
  simp [State.cmdDone, kind, ticket, plain, ats, own, State.atsNext, noAts, atsLoop, State.ownNext, noOwn]

theorem completes_sync (s : State) (c : PlatCmd) (k : Nat) (inv : s.Inv) (one : OneCommand s c) (kind : c.kind = 7) (ticket : c.ticket = some k)
    (plain : c.stampEn = false) (ats : c.ats = none) (own : c.own = .no) (noAts : s.plat.atsHeld = []) (noOwn : s.plat.ownHeld = []) :
    Completes (.sync) s fun t =>
      t.plat.ticketDone = k ∧ t.plat.lastResult = 0 ∧ t.plat.executing = none ∧ t.plat.queue = [] ∧ t.plat.cache = s.plat.cache ∧
      s.Counts t O.commands ∧ t.hbm = s.hbm ∧ t.reg = s.reg := by
  obtain ⟨-, -, objs, -⟩ := inv
  let u : State := { s with plat := { s.plat with queue := [], executing := none, acks := 0, atsHeld := [] } }
  have runs : exec (.sync) s = .next { u.bump O.commands with plat := { (u.bump O.commands).plat with ticketDone := k, lastResult := 0 } } := by
    have done := State.cmdDone_sync { s with plat := { s.plat with queue := [] } } c k kind ticket plain ats own noAts noOwn
    rw [exec, execSync, State.runCmd, one.idle, one.queue]
    simp only [kind, one.checked, s.withRange_of_kind c (by omega)]
    exact congrArg Host.Outcome.next done
  have plat : (u.bump O.commands).plat = u.plat := (State.bump_keeps _ _).kplat rfl
  refine ⟨_, runs, rfl, rfl, ?_, ?_, ?_, State.val_bump u _ objs (by decide), (State.bump_keeps _ _).khbm rfl, State.bump_reg _ _⟩
  · show (u.bump O.commands).plat.executing = none; rw [plat]
  · show (u.bump O.commands).plat.queue = []; rw [plat]
  · show (u.bump O.commands).plat.cache = _; rw [plat]

theorem completes_engineAcknowledge (s : State) (e : Fin 21) (c : PlatCmd) (executing : s.plat.executing = some c)
    (idle : s.engineBusy c.cover e = false) :
    Completes (.engineAcknowledge e) s fun t => t = { s with plat := { s.plat with acks := setBit s.plat.acks e false } } := by
  refine ⟨_, ?_, rfl⟩
  simp only [exec, execEngineAcknowledge, executing, idle]
  rfl

theorem completes_atsInvalidateRequest (s : State) (i : Nat) (p : Option Nat) (g : Bool) (a n : Nat) (few : s.atsQueued < 32)
    (none_ : s.plat.atsHeld = []) :
    Completes (.atsInvalidateRequest i p g a n) s fun t =>
      t = { s with plat := { s.plat with queue := s.plat.queue ++ [{ ticket := none, kind := 1, space := 0, pasid := p.getD 0, start := a, length := n, ats := some i, allPasids := g || p.isNone }] } } := by
  refine ⟨_, ?_, rfl⟩
  rw [exec, execAtsInvalidateRequest, if_neg (by omega), State.queueCmd, none_]
  rfl

/-- The INVAL_ALL of a mode switch (R465). -/
def switchCmd : PlatCmd := { ticket := none, kind := 3, space := 0, headland := true, modeSwitch := true }

theorem State.ownNext_executing (s : State) : s.ownNext.plat.executing = s.plat.executing := by
  unfold State.ownNext State.queueCmd
  cases s.plat.ownHeld with
  | nil => rfl
  | cons c rest => dsimp only; split <;> [rfl; split <;> rfl]

theorem State.cmdDone_switch (s : State) (noFaults : s.flt.entries = []) (noAts : s.plat.atsHeld = []) :
    s.cmdDone switchCmd 0 = State.ownNext { s with plat := { s.plat with executing := none, acks := 0, atsHeld := [] } } := by
  have retried (t : State) (c : Cover) (none_ : t.flt.entries = []) : t.autoRetry c = t := by
    simp [State.autoRetry, none_, State.each]
  rw [State.cmdDone, State.atsNext]
  simp only [noAts, atsLoop, switchCmd]
  refine retried (State.ownNext { s with plat := { s.plat with executing := none, acks := 0, atsHeld := [] } }) _ ?_
  rw [(State.ownNext_keeps _).kflt rfl]
  exact noFaults

theorem completes_xlateModeSwitchDone (s : State) (c : PlatCmd) (m : Bool) (inv : s.Inv) (executing : s.plat.executing = some c)
    (switching : s.plat.switching = some m) (switch : c = switchCmd) (acked : s.plat.acks = 0) (noFaults : s.flt.entries = [])
    (noAts : s.plat.atsHeld = []) :
    Completes (.xlateModeSwitchDone) s fun t =>
      t.plat.mode = m ∧ t.plat.switching = none ∧ t.plat.executing = none ∧ t.val O.splitWalk = b2n m ∧ s.Counts t O.modeSwitches ∧
      s.Counts t O.splitSwitches ∧ t.hbm = s.hbm ∧ t.reg = s.reg := by
  obtain ⟨-, -, objs, -⟩ := inv
  subst switch
  let u := s.cmdDone switchCmd 0
  let v := State.setVal { u with plat := { u.plat with mode := m, switching := none } } O.splitWalk (b2n m)
  have runs : exec (.xlateModeSwitchDone) s = .next ((v.bump O.modeSwitches).bump O.splitSwitches) := by
    rw [exec, execXlateModeSwitchDone, executing, switching]
    exact if_pos (by rw [acked]; rfl)
  have done := s.cmdDone_switch noFaults noAts
  have idle : u.plat.executing = none := by rw [show u = _ from done, State.ownNext_executing]
  have od : u.od = s.od := by rw [show u = _ from done, (State.ownNext_keeps _).kod rfl]
  have hbm : u.hbm = s.hbm := by rw [show u = _ from done, (State.ownNext_keeps _).khbm rfl]
  have reg : u.reg = s.reg := by rw [show u = _ from done, (State.ownNext_keeps _).kreg rfl]
  have objsU : Rises u.od := od ▸ objs
  have objsV : Rises v.od := State.setVal_rises _ _ _ objsU
  have val (k : Nat) (ne : k ≠ O.splitWalk) : v.val k = s.val k := by
    refine (State.val_setVal _ _ _ _ objsU).trans ?_
    rw [if_neg ne, State.val, State.val, show ({ u with plat := _ } : State).od = s.od from od]
  have walk : v.val O.splitWalk = b2n m := State.val_setVal_same _ _ _ objsU
  have plat : ((v.bump O.modeSwitches).bump O.splitSwitches).plat = { u.plat with mode := m, switching := none } := by
    rw [(State.bump_keeps _ _).kplat rfl, (State.bump_keeps _ _).kplat rfl]
    rfl
  refine ⟨_, runs, by rw [plat], by rw [plat], by rw [plat]; exact idle, ?_, ?_, ?_, ?_, ?_⟩
  · rw [State.val_bump_other (State.bump_rises _ objsV) (by decide) (by decide), State.val_bump_other objsV (by decide) (by decide), walk]
  · rw [State.Counts, State.val_bump_other (State.bump_rises _ objsV) (by decide) (by decide), State.val_bump _ _ objsV (by decide), val _ (by decide)]
  · rw [State.Counts, State.val_bump _ _ (State.bump_rises _ objsV) (by decide), State.val_bump_other objsV (by decide) (by decide), val _ (by decide)]
  · rw [(State.bump_keeps _ _).khbm rfl, (State.bump_keeps _ _).khbm rfl]; exact hbm
  · rw [State.bump_reg, State.bump_reg]; exact reg

theorem fld_pctxMask (v : Nat) : fld (v &&& pctxMask) 19 0 = fld v 19 0 := fld_and_mask v pctxMask 19 0 (by decide)

theorem completes_pctxValid (s : State) (c : Fin 16384) (v : Word) (rid : Half) (inv : s.Inv) (invalid : bit (s.pctxCtrl c) 63 = false)
    (valid : bit v.toNat 63 = true) (named : fld v.toNat 19 0 ≠ 0) (free : s.ctxOf (fld v.toNat 19 0) = none) :
    Completes (.pctxValid c v rid) s fun t => t.pctxCtrl c = v.toNat &&& pctxMask ∧ t.od = s.od ∧ t.hbm = s.hbm ∧ t.plat = s.plat := by
  obtain ⟨-, -, -, regs, -⟩ := inv
  have pasid := fld_pctxMask v.toNat
  have runs : exec (.pctxValid c v rid) s = .next (s.setRg (Rg.pctx c 0) (v.toNat &&& pctxMask)) := by
    rw [exec, execPctxValid, State.writePctxCtrl]
    have invalid : bit (s.rg (Rg.pctx c 0)) 63 = false := invalid
    rw [if_neg (by rw [invalid]; decide), if_neg (by simp [pasid, named, free])]
  exact ⟨_, runs, State.rg_setRg_same _ _ _ regs, rfl, rfl, rfl⟩

/-- Settles O27: a command of the executor either begins its phases (`State.beginPhases_begun`), during which the translation state moves in its
walks alone, or completes at once. -/
theorem translationCommandsComplete : Obligations.TranslationCommandsComplete :=
  ⟨fun s c idle queue kind checked none_ _ _ => ⟨_, rfl, completes_inval s c 1 ⟨idle, queue, checked⟩ kind (by decide) none_⟩,
    fun s c idle queue kind checked none_ _ _ => ⟨_, rfl, completes_inval s c 2 ⟨idle, queue, checked⟩ kind (by decide) none_⟩,
    fun s c idle queue kind checked none_ _ _ => ⟨_, rfl, completes_inval s c 3 ⟨idle, queue, checked⟩ kind (by decide) none_⟩,
    fun s c idle queue kind checked none_ _ _ own => completes_parcelInstall s c ⟨idle, queue, checked⟩ kind none_ own,
    fun s c p idle queue kind checked parcel _ host _ _ => completes_parcelRemove s c p ⟨idle, queue, checked⟩ kind parcel host,
    fun s c idle queue kind checked none_ _ _ => completes_pasidRetire s c ⟨idle, queue, checked⟩ kind none_,
    fun s c k inv idle queue kind checked => completes_sync s c k inv ⟨idle, queue, checked⟩ kind,
    completes_engineAcknowledge, completes_atsInvalidateRequest, completes_xlateModeSwitchDone, completes_pctxValid⟩

end Sys2Proof.Machine
end

section
namespace Sys2Proof.Machine

set_option Elab.async false

/-! ### A walk beside a range that was dropped (R443, R459)

An invalidation that ran while a walk was in flight leaves the walk in force where it covers another address; the walk then installs no translation
that reaches into the range that was dropped. -/

/-- An ATS walk of address 0x4123, beside which the range from 0x4800 to 0x4900 was dropped. -/
def walkBesideDrop : Walk :=
  { id := 1, kind := .ats, stream := .gleaner 0, ctx := 0, pasid := 5, priv := false, space := .host, va := 0x4123, access := .read
    drops := [(0x4800, 0x4900)] }

def oneWalk : State := { State.reset with plat := { State.reset.plat with walks := [walkBesideDrop] } }

/-- The page of the walk's address, readable. -/
def pageAround : AtsEntry := { va := 0x4000, size := 0x1000, addr := 0x77000, r := true, w := false }

theorem atsTranslation_installs_nothing :
    leaves (.atsTranslationCompletion walkBesideDrop.id true [pageAround]) oneWalk (fun t => t.plat.cache) = some [] := by
  decide +kernel

/-- Refutes O28: of the walk `walkBesideDrop` a translation that covers its address and the dropped range is not installed. -/
theorem not_walksComplete : ¬ Obligations.WalksComplete := by
  rintro ⟨-, -, translated, -⟩
  obtain ⟨t, runs, -, installed, -⟩ :=
    translated oneWalk walkBesideDrop pageAround rfl rfl rfl rfl rfl rfl rfl rfl (by decide) (by decide)
  have nothing := atsTranslation_installs_nothing
  rw [leaves_of_next _ runs, Option.some.injEq] at nothing
  rw [nothing] at installed
  exact absurd installed (by simp)

end Sys2Proof.Machine
end

section
namespace Sys2Proof.Machine

set_option Elab.async false

/-! ### A generation listed twice (R486)

The table of the fault handles' generations holds no entry for a generation of 0. Nothing keeps a handle from being listed twice in it: where its
generation comes round to 0, one entry goes and the other is read. -/

/-- The entry of handle 0 at its last generation, on which plot 0's gleaner waits. -/
def lastGeneration : FaultEntry :=
  { handle := 0, gen := 65535, pasid := 5, priv := false, space := .host, page := 0, access := .read, reason := 0, level := 0
    streams := [(.gleaner 0, 0)], pri := false, recorded := true }

/-- One fault entry, whose handle stands twice in the table of generations. -/
def generationTwice : State :=
  { State.reset with flt := { State.reset.flt with entries := [lastGeneration], gens := [(0, 65535), (0, 8)] } }

theorem generationTwice_inv : generationTwice.Inv :=
  ⟨rfl, rfl, rfl, rfl, rfl, rfl, ⟨rfl, fun _ listed => absurd listed List.not_mem_nil⟩, rfl, rfl, rfl, rfl, rfl, rfl⟩

theorem retry_generation : leaves (.retry 0 65535) generationTwice (fun t => kvGet 0 t.flt.gens 0) = some 8 := by
  decide +kernel

/-- Refutes O29: in the state `generationTwice` RETRY leaves handle 0 at generation 8, not at the one after 65535. -/
theorem not_pageFaultRingCompletes : ¬ Obligations.PageFaultRingCompletes := by
  rintro ⟨-, -, -, -, retry, -⟩
  obtain ⟨t, runs, -, generation, -⟩ :=
    retry generationTwice lastGeneration 0 65535 0 0 generationTwice_inv rfl rfl (by decide) rfl rfl rfl rfl (by decide +kernel) rfl
  have other := retry_generation
  rw [leaves_of_next _ runs, show kvGet 0 t.flt.gens 0 = _ from generation] at other
  exact absurd other (by decide)

end Sys2Proof.Machine
end

section
namespace Sys2Proof.Machine

/-! ### A posted write that leaves at once (R278, R297) -/

/-- A message whose leaving joins the wire and does nothing else: it is not poisoned, and no head write-back and no VALID word. -/
def Tlp.LeavesOnly (t : Tlp) : Prop := ∀ s : State, s.left t = { s with host := { s.host with wire := s.host.wire ++ [t] } }

theorem leavePass_posted (s : State) (t : Tlp) (free : s.stays t false false false = false) (posted : t.kind.posted = true)
    (request : t.kind.cpl = false) (plain : t.LeavesOnly) :
    leavePass s [t] false false false = ({ s with host := { s.host with pCredit := s.host.pCredit - 1, wire := s.host.wire ++ [t] } }, []) := by
  rw [leavePass_cons, free, if_neg (by decide)]
  unfold State.takeCredit
  rw [request, if_neg (by decide), if_pos posted, plain]
  rfl

/-- One step of draining: what may leave leaves, and what was held back takes the free places. -/
def State.drainStep (s : State) : State :=
  let r := leavePass { s with host := { s.host with queue := [] } } s.host.queue false false false
  let u := { r.1 with host := { r.1.host with queue := r.2 } }
  let a := admitBlocked (512 - u.postedHeld) u.host.queue u.host.blocked
  { u with host := { u.host with queue := a.1, blocked := a.2 } }

theorem State.drain_eq (s : State) :
    s.drain = if s.drainStep.host.blocked.isEmpty then (if s.drainStep.host.queue.isEmpty then s.drainStep else s.drainStep.drainStep)
      else s.drainStep.drainStep.drainStep := rfl

theorem State.drain_posted (s : State) (t : Tlp) (queue : s.host.queue = [t]) (none_ : s.host.blocked = [])
    (free : State.stays { s with host := { s.host with queue := [] } } t false false false = false) (posted : t.kind.posted = true)
    (request : t.kind.cpl = false) (plain : t.LeavesOnly) :
    s.drain = { s with host := { s.host with queue := [], pCredit := s.host.pCredit - 1, wire := s.host.wire ++ [t] } } := by
  have step : s.drainStep = { s with host := { s.host with queue := [], pCredit := s.host.pCredit - 1, wire := s.host.wire ++ [t] } } := by
    rw [State.drainStep, queue, leavePass_posted _ t free posted request plain]
    simp only [none_, admitBlocked]
  rw [State.drain_eq, step]
  simp only [none_]
  rfl

/-- A write of the Z20 that leaves at once takes a posted credit and joins the wire. -/
theorem State.post_leaves (s : State) (t : Tlp) (now : s.WritesNow) (posted : t.kind.posted = true) (request : t.kind.cpl = false)
    (gated : t.kind.free = false) (plain : (s.addrType t).LeavesOnly) :
    s.post t = { s with host := { s.host with pCredit := s.host.pCredit - 1, wire := s.host.wire ++ [s.addrType t] } } := by
  obtain ⟨⟨up, l0, queue, blocked, credit, noFlr⟩, bme, d0, thawed⟩ := now
  have room : s.postedHeld = 0 := by simp [State.postedHeld, queue]
  let u : State := { s with host := { s.host with queue := [s.addrType t] } }
  have posts : s.post t = u.drain := by
    rw [State.post, thawed, noFlr, room, blocked, queue]
    rfl
  have kind : (s.addrType t).kind = t.kind := rfl
  have free : State.stays { u with host := { u.host with queue := [] } } (s.addrType t) false false false = false := by
    have gate : State.mayRequest { u with host := { u.host with queue := [] } } = true := by
      have bme : bit (s.cfgv 0x004) 2 = true := bme
      simp [State.mayRequest, u, up, l0, d0, State.bme, State.cfgv, thawed, noFlr]
      exact bme
    simp only [State.stays, kind, gated, request, posted, gate, u]
    simp
    omega
  rw [posts, State.drain_posted u (s.addrType t) rfl blocked free posted request plain]
  simp only [u, queue]

/-! ### Responses to the only fault entry (R486, R487, R493, R495, R496) -/

/-- The only fault entry is open, its record is written or it is a page request, and one plot's gleaner waits on it. -/
structure OneFault (s : State) (e : FaultEntry) (p va : Nat) : Prop where
  only : s.flt.entries = [e]
  pending : e.resolved = false
  shown : e.recorded = true ∨ e.pri = true
  stream : e.streams = [(.gleaner p, va)]
  behind : s.flt.waiting = []

/-- The only fault entry's slot is free, its handle at the next generation. -/
def State.freeFaultSlot (s : State) (e : FaultEntry) : State :=
  { s with flt := { s.flt with entries := [], gens := kvSet 0 s.flt.gens e.handle ((e.gen + 1) % 2 ^ 16), waiting := [] } }

/-- A plot's program ends on an access that was not granted. -/
def Plot.endAt (x : Plot) (code va : Nat) : Plot := if x.ended.isSome then x else { x with ended := some code, endAddr := va }

/-- What a response does to the plot whose gleaner waits. -/
def State.answerPlot (s : State) (r : Resolve) (p va : Nat) : State :=
  match r with
  | .retry => s
  | .failed => s.modPlot p (fun x => x.endAt 0x20 va)
  | .denied => s.modPlot p (fun x => x.endAt 0x21 va)

theorem State.resolve_only (s : State) (e : FaultEntry) (r : Resolve) (p va : Nat) (one : OneFault s e p va) :
    s.resolve e.handle r = (s.answerPlot r p va).freeFaultSlot e := by
  obtain ⟨only, pending, shown, stream, behind⟩ := one
  have found : s.flt.entries.find? (fun x => x.handle == e.handle && !x.resolved) = some e := by simp [only, pending]
  have freed (u : State) (flt : u.flt = s.flt) :
      State.reapFaults { u with flt := { u.flt with entries := u.flt.entries.map (fun (x : FaultEntry) =>
        if x.handle == e.handle then { x with resolved := true, streams := [], autoRetried := x.autoRetried || false } else x) } } =
        u.freeFaultSlot e := by
    rcases shown with shown | shown <;> simp [State.reapFaults, State.freeFaultSlot, flt, only, behind, shown]
  rw [State.resolve, found]
  cases r with
  | retry => exact freed s rfl
  | failed => simp only [stream]; exact freed (s.modPlot p (fun x => x.endAt 0x20 va)) rfl
  | denied => simp only [stream]; exact freed (s.modPlot p (fun x => x.endAt 0x21 va)) rfl

theorem State.ended_answerPlot (s : State) (r : Resolve) (p va : Nat) (plots : Rises s.plots) (runs : (s.plot p).ended = none) :
    ((s.answerPlot r p va).plot p).ended = (match r with | .retry => none | .failed => some 0x20 | .denied => some 0x21) := by
  cases r with
  | retry => exact runs
  | failed => rw [State.answerPlot, State.plot_modPlot_same _ _ _ plots, Plot.endAt, runs]; rfl
  | denied => rw [State.answerPlot, State.plot_modPlot_same _ _ _ plots, Plot.endAt, runs]; rfl

theorem State.answerPlot_keeps (s : State) (r : Resolve) (p va : Nat) :
    (s.answerPlot r p va).od = s.od ∧ (s.answerPlot r p va).hbm = s.hbm ∧ (s.answerPlot r p va).reg = s.reg ∧ (s.answerPlot r p va).now = s.now ∧
    (s.answerPlot r p va).cfg = s.cfg := by
  cases r <;> exact ⟨rfl, rfl, rfl, rfl, rfl⟩

/-- What a counted response to the only fault entry leaves. -/
structure Answered (s : State) (r : Resolve) (p k : Nat) (t : State) : Prop where
  entries : t.flt.entries = []
  counts : s.Counts t k
  ended : (t.plot p).ended = (match r with | .retry => none | .failed => some 0x20 | .denied => some 0x21)
  plots : r = .retry → t.plots = s.plots
  hbm : t.hbm = s.hbm
  reg : t.reg = s.reg

theorem State.resolve_answers (s : State) (e : FaultEntry) (r : Resolve) (p va k : Nat) (inv : s.Inv) (counter : k % 256 ≠ 0xFE)
    (one : OneFault s e p va) (runs : (s.plot p).ended = none) : Answered s r p k ((s.bump k).resolve e.handle r) := by
  obtain ⟨-, -, objs, -, -, -, ⟨plots, -⟩, -⟩ := inv
  obtain ⟨only, pending, shown, stream, behind⟩ := one
  have keeps := s.bump_keeps k
  have one' : OneFault (s.bump k) e p va :=
    ⟨by rw [keeps.kflt rfl]; exact only, pending, shown, stream, by rw [keeps.kflt rfl]; exact behind⟩
  obtain ⟨od, hbm, reg, -, -⟩ := (s.bump k).answerPlot_keeps r p va
  have runs' : ((s.bump k).plot p).ended = none := by rw [State.plot, keeps.kplots rfl]; exact runs
  rw [State.resolve_only _ e r p va one']
  constructor
  · rfl
  · refine Eq.trans ?_ (s.val_bump k objs counter)
    exact congrArg (fun m => kvGet (odDefault k) m k) od
  · exact State.ended_answerPlot _ r p va (by rw [keeps.kplots rfl]; exact plots) runs'
  · rintro rfl
    exact keeps.kplots rfl
  · exact hbm.trans (keeps.khbm rfl)
  · exact reg.trans (keeps.kreg rfl)

theorem State.respondBatch_answers (s : State) (e : FaultEntry) (b : Half) (r : Resolve) (p va : Nat) (inv : s.Inv) (batch : e.batch = b.toNat)
    (ring : e.pri = false) (recorded : e.recorded = true) (one : OneFault s e p va) (runs : (s.plot p).ended = none) :
    Answered s r p O.responses (s.respondBatch b.toNat r) := by
  have answered : s.respondBatch b.toNat r = (s.bump O.responses).resolve e.handle r := by
    simp [State.respondBatch, one.only, recorded, one.pending, ring, batch, State.each]
  rw [answered]
  exact s.resolve_answers e r p va _ inv (by decide) one runs

theorem completes_faultTimeout (s : State) (e : FaultEntry) (h : Fin 16384) (p : Fin 16) (va : Nat) (inv : s.Inv) (handle : e.handle = h)
    (one : OneFault s e p va) (runs : (s.plot p).ended = none) (timed : s.val O.faultTimeoutMs ≠ 0) :
    Completes (.faultTimeout h) s fun t =>
      t.flt.entries = [] ∧ s.Counts t O.faultTimeouts ∧ t.now = max s.now (e.createdAt + s.val O.faultTimeoutMs * 1000000) ∧
      (t.plot p).ended = some 0x20 ∧ t.hbm = s.hbm ∧ t.reg = s.reg := by
  let u := s.until_ (e.createdAt + s.val O.faultTimeoutMs * 1000000)
  have exec_ : exec (.faultTimeout h) s = .next ((u.bump O.faultTimeouts).resolve e.handle .failed) := by
    simp [exec, execFaultTimeout, one.only, handle, one.pending, timed, u]
  have answered := u.resolve_answers e .failed p va O.faultTimeouts ((s.until__keeps _).kinv inv) (by decide)
    ⟨one.only, one.pending, one.shown, one.stream, one.behind⟩ runs
  refine ⟨_, exec_, answered.entries, answered.counts, ?_, answered.ended, answered.hbm, answered.reg⟩
  rw [(State.resolve_keeps _ _ _ _).know rfl, State.bump_now]
  rfl

theorem find_first_index {n : Nat} (pos : 0 < n) :
    (List.range n).find? (fun i => ([] : List (Nat × Nat × List Nat)).all (fun g => g.1 != i)) = some 0 := by
  obtain ⟨m, rfl⟩ := Nat.exists_eq_succ_of_ne_zero pos.ne'
  rw [List.range_succ_eq_map]
  rfl

theorem completes_pageRequestSend (s : State) (e : FaultEntry) (inv : s.Inv) (now : s.WritesNow) (only : s.flt.entries = [e]) (pri : e.pri = true)
    (pending : e.resolved = false) (unsent : e.prg = none) (read : e.access = .read) (user : e.priv = false) (none_ : s.flt.prgs = [])
    (enabled : s.priEnable = true) (served : s.flt.priResponseFailure = false) (room : 0 < s.cfgv 0x17C) :
    Completes (.pageRequestSend) s fun t =>
      t.flt.prgs = [(0, e.pasid, [e.handle])] ∧ t.flt.entries = [{ e with prg := some 0 }] ∧ s.Counts t O.pageRequests ∧ (∃ w,
      t.host.wire = s.host.wire ++ [w] ∧ w.kind = .prgLast ∧ w.addr = e.page ∧ w.pasid = some e.pasid ∧ w.data = [1]) := by
  obtain ⟨-, -, objs, -⟩ := inv
  have next : s.nextPrg = [e] := by
    have some_ : min 64 (s.cfgv 0x17C - s.pagesOut) = (min 64 (s.cfgv 0x17C - s.pagesOut) - 1) + 1 := by
      have : s.pagesOut = 0 := by simp [State.pagesOut, none_]
      omega
    simp only [State.nextPrg, only]
    rw [some_]
    simp [pri, pending, unsent]
  let w : Tlp := { kind := .prgLast, addr := e.page, tag := 0, pasid := some e.pasid, data := [1], owner := .pageReq 0 }
  let u : State := { s.until_ s.prgDue with flt := { s.flt with prgs := [(0, e.pasid, [e.handle])], entries := [{ e with prg := some 0 }] } }
  have may : s.mayRequest = true := by
    obtain ⟨⟨up, l0, -, -, -, noFlr⟩, bme, d0, thawed⟩ := now
    simp [State.mayRequest, up, l0, d0, bme, thawed, noFlr]
  have exec_ : exec (.pageRequestSend) s = .next ((u.post w).bump O.pageRequests) := by
    have free : (List.range 512).find? (fun i => s.flt.prgs.all (fun g => g.1 != i)) = some 0 := by
      simp only [none_]
      exact find_first_index (by decide)
    change execPageRequestSend s = _
    unfold execPageRequestSend
    generalize List.range 512 = slots at free ⊢
    simp only [free, next, may, enabled, served]
    cases e
    subst read user
    simp [State.each, State.until_, only, none_]
    rfl
  have posts := u.post_leaves w now rfl rfl rfl (fun _ => rfl)
  refine ⟨_, exec_, ?_, ?_, ?_, u.addrType w, ?_, rfl, rfl, rfl, rfl⟩
  · rw [(State.bump_keeps _ _).kflt rfl, posts]
  · rw [(State.bump_keeps _ _).kflt rfl, posts]
  · rw [posts]; exact State.val_bump _ _ objs (by decide)
  · rw [(State.bump_keeps _ _).khost rfl, posts]; rfl

/-- The only page request group is that of the only fault entry, and the package is not Frozen. -/
structure OneGroup (s : State) (e : FaultEntry) (g q p va : Nat) : Prop where
  thawed : s.host.frozen = false
  group : s.flt.prgs = [(g, q, [e.handle])]
  request : e.pri = true
  sent : e.prg = some g
  one : OneFault s e p va

theorem State.prgResponse_answers (s : State) (e : FaultEntry) (r : Resolve) (g q p va : Nat) (inv : s.Inv) (group : OneGroup s e g q p va)
    (runs : (s.plot p).ended = none) : (s.prgResponse g (some q) r).flt.prgs = [] ∧ Answered s r p O.prgResponses (s.prgResponse g (some q) r) := by
  obtain ⟨thawed, group, request, sent, one⟩ := group
  let u : State := { s with flt := { s.flt with prgs := [] } }
  have responds : s.prgResponse g (some q) r = (u.resolve e.handle r).bump O.prgResponses := by
    simp [State.prgResponse, thawed, State.prgOf, group, State.prgLive, one.only, request, sent, one.pending, one.stream, State.each, u]
  obtain ⟨-, -, objs, -, -, -, ⟨plots, -⟩, -⟩ := inv
  have one' : OneFault u e p va := ⟨one.only, one.pending, one.shown, one.stream, one.behind⟩
  obtain ⟨od, hbm, reg, -, -⟩ := u.answerPlot_keeps r p va
  have keeps := ((u.answerPlot r p va).freeFaultSlot e).bump_keeps O.prgResponses
  have od' : ((u.answerPlot r p va).freeFaultSlot e).od = s.od := od
  have prgs : (u.answerPlot r p va).flt.prgs = [] := by cases r <;> rfl
  rw [responds, State.resolve_only u e r p va one']
  refine ⟨(congrArg Faults.prgs (keeps.kflt rfl)).trans prgs, congrArg Faults.entries (keeps.kflt rfl), ?_, ?_, ?_, ?_, ?_⟩
  · refine (State.val_bump _ _ (by rw [od']; exact objs) (by decide)).trans ?_
    simp only [State.val, od']
  · rw [State.plot, keeps.kplots rfl]
    exact u.ended_answerPlot r p va plots runs
  · rintro rfl
    exact keeps.kplots rfl
  · exact (keeps.khbm rfl).trans hbm
  · exact (keeps.kreg rfl).trans reg

/-- Response Failure also stops later requests and sets its status bit. -/
theorem completes_prgResponseFailure (s : State) (e : FaultEntry) (g : Fin 512) (q p va : Nat) (inv : s.Inv) (group : OneGroup s e g q p va)
    (runs : (s.plot p).ended = none) :
    Completes (.prgResponseFailure g (some q)) s fun t =>
      t.flt.prgs = [] ∧ t.flt.entries = [] ∧ s.Counts t O.prgResponses ∧ (t.plot p).ended = some 0x20 ∧ t.flt.priResponseFailure = true ∧
      bit (t.cfgv 0x174) 16 = true ∧ t.hbm = s.hbm ∧ t.reg = s.reg := by
  obtain ⟨prgs, answered⟩ := State.prgResponse_answers s e .failed g q p va inv group runs
  obtain ⟨thawed, group, request, sent, one⟩ := group
  let u := s.prgResponse g (some q) .failed
  have exec_ : exec (.prgResponseFailure g (some q)) s =
      .next { u.orCfg 0x174 (2 ^ 16) with flt := { u.flt with priResponseFailure := true } } := by
    have found : s.prgOf g (some q) = some [e.handle] := by simp [State.prgOf, group]
    have live : s.prgLive g = true := by simp [State.prgLive, one.only, request, sent, one.pending, one.stream]
    rw [exec, execPrgResponseFailure, thawed, found, live]
    rfl
  obtain ⟨-, -, -, -, cfg, -⟩ := (State.prgResponse_keeps s g (some q) .failed).kinv inv
  refine ⟨_, exec_, prgs, answered.entries, answered.counts, answered.ended, rfl, ?_, answered.hbm, answered.reg⟩
  refine (congrArg (bit · 16) (State.cfgv_setCfg u 0x174 0x174 _ cfg)).trans ?_
  exact bit_or_two_pow _ _

theorem priReset_forgets (s : State) :
    Completes (.priReset) s fun t =>
      t = { s with flt := { s.flt with prgs := [], priResponseFailure := s.flt.priResponseFailure && s.priEnable,
                                       entries := s.flt.entries.map (fun e => { e with prg := none }) } } := ⟨_, rfl, rfl⟩


/-- A PRG Response that matches no group (R495). -/
theorem completes_prgResponseUnexpected (s : State) (g : Fin 512) (q : Option Nat) (inv : s.Inv) (thawed : s.host.frozen = false)
    (none_ : s.prgOf g q = none) :
    Completes (.prgResponseUnexpected g q) s fun t =>
      s.Counts t O.prgUnexpected ∧ bit (t.cfgv 0x174) 17 = true ∧ t.flt = s.flt ∧ t.hbm = s.hbm ∧ t.reg = s.reg := by
  obtain ⟨-, -, objs, -, cfg, -⟩ := inv
  let u := s.orCfg 0x174 (2 ^ 17)
  have exec_ : exec (.prgResponseUnexpected g q) s = .next (u.bump O.prgUnexpected) := by
    rw [exec, execPrgResponseUnexpected, thawed, none_]
    rfl
  have keeps := u.bump_keeps O.prgUnexpected
  refine ⟨_, exec_, u.val_bump _ objs (by decide), ?_, keeps.kflt rfl, keeps.khbm rfl, keeps.kreg rfl⟩
  rw [State.cfgv, keeps.kcfg rfl]
  refine (congrArg (bit · 17) (State.cfgv_setCfg s 0x174 0x174 _ cfg)).trans ?_
  exact bit_or_two_pow _ _

/-- Settles O30: responses end the only fault entry and what its gleaner runs, page requests leave as a group of one and PRG Responses answer it, and
PRI_RESET forgets the groups. -/
theorem batchesAndPageRequestsComplete : Obligations.BatchesAndPageRequestsComplete := by
  refine ⟨fun s e b p va inv only batch pending pri recorded stream runs behind => ?_,
    fun s e b p va inv only batch pending pri recorded stream runs behind => ?_,
    fun s e b p va inv only batch pending pri recorded stream runs behind => ?_,
    fun s e h p va inv only handle pending pri recorded stream runs behind timed =>
      completes_faultTimeout s e h p va inv handle ⟨only, pending, .inl recorded, stream, behind⟩ runs timed,
    fun s e inv now only pri pending unsent read user none_ enabled served room =>
      completes_pageRequestSend s e inv now only pri pending unsent read user none_ enabled served room,
    fun s e g q p va inv thawed group only pri pending sent stream runs behind => ?_,
    fun s e g q p va inv thawed group only pri pending sent stream runs behind => ?_,
    fun s e g q p va inv thawed group only pri pending sent stream runs behind =>
      completes_prgResponseFailure s e g q p va inv ⟨thawed, group, pri, sent, only, pending, .inr pri, stream, behind⟩ runs,
    completes_prgResponseUnexpected, priReset_forgets⟩
  · have answered := State.respondBatch_answers s e b .retry p va inv batch pri recorded ⟨only, pending, .inl recorded, stream, behind⟩ runs
    exact ⟨_, rfl, answered.entries, answered.counts, answered.plots rfl, answered.hbm, answered.reg⟩
  · have answered := State.respondBatch_answers s e b .failed p va inv batch pri recorded ⟨only, pending, .inl recorded, stream, behind⟩ runs
    exact ⟨_, rfl, answered.entries, answered.counts, answered.ended, answered.hbm, answered.reg⟩
  · have answered := State.respondBatch_answers s e b .denied p va inv batch pri recorded ⟨only, pending, .inl recorded, stream, behind⟩ runs
    exact ⟨_, rfl, answered.entries, answered.counts, answered.ended, answered.hbm, answered.reg⟩
  · obtain ⟨groups, answered⟩ := State.prgResponse_answers s e .retry g q p va inv ⟨thawed, group, pri, sent, only, pending, .inr pri, stream, behind⟩ runs
    exact ⟨_, rfl, groups, answered.entries, answered.counts, answered.plots rfl, answered.hbm, answered.reg⟩
  · obtain ⟨groups, answered⟩ := State.prgResponse_answers s e .failed g q p va inv ⟨thawed, group, pri, sent, only, pending, .inr pri, stream, behind⟩ runs
    exact ⟨_, rfl, groups, answered.entries, answered.counts, answered.ended, answered.hbm, answered.reg⟩

end Sys2Proof.Machine
end

section
namespace Sys2Proof.Machine

/-! ### Access counters and promotions (R497, R500) -/

/-- One counter that is not marked puts no region on the list. -/
theorem State.listHot_unmarked (s : State) (i : Nat) (c : AccCounter) (only : s.mig.counters = [(i, c)]) (marked : c.marked = false) :
    s.listHot = s := by simp [State.listHot, only, State.each, marked]

theorem State.listHot_none (s : State) (none_ : s.mig.counters = []) : s.listHot = s := by
  simp [State.listHot, none_, State.each]

theorem completes_migEpoch (s : State) (i : Nat) (c : AccCounter) (only : s.mig.counters = [(i, c)]) (skipped : s.mig.skipped = [])
    (marked : c.marked = false) (many : 2 ≤ c.count) :
    Completes (.migEpoch) s fun t =>
      t.mig.epoch = s.mig.epoch + 1 ∧ t.mig.counters = [(i,
        { c with count := c.count / 2, hot := c.hot && decide (s.val O.migHotThreshold ≤ 2 * (c.count / 2)) })] ∧ t.mig.hot = s.mig.hot ∧
      t.od = s.od ∧ t.reg = s.reg := by
  have stays : c.count / 2 ≠ 0 := by omega
  have halved : [(i, { c with count := c.count / 2, hot := c.hot && decide (s.val O.migHotThreshold ≤ 2 * (c.count / 2)) })].filter
      (fun (e : Nat × AccCounter) => decide (e.2.count ≠ 0)) =
      [(i, { c with count := c.count / 2, hot := c.hot && decide (s.val O.migHotThreshold ≤ 2 * (c.count / 2)) })] :=
    List.filter_cons_of_pos (by simpa using stays)
  refine ⟨_, rfl, ?_⟩
  simp only [only, skipped, List.map_cons, List.map_nil, halved, State.each, List.foldl_nil]
  rw [State.listHot_unmarked _ i { c with count := c.count / 2, hot := c.hot && decide (s.val O.migHotThreshold ≤ 2 * (c.count / 2)) } rfl marked]
  exact ⟨rfl, rfl, rfl, rfl, rfl⟩

theorem completes_promotion (s : State) (k p r f : Nat) (hot : s.mig.hot = [(p, r)]) (hardware : s.mig.hostMode = false)
    (idle : s.mig.copying = none) (may : s.mayRequest = true) (window : s.inWindow p r (2 ^ 21) = true) (open_ : s.regionBarred p r = false)
    (frame : s.freeFrame = some f) (cold : s.mig.counters = []) (ats : s.plat.atsHeld = []) :
    Completes (.promotion k) s fun t =>
      t.mig.copying = some { pasid := p, region := r, frame := f } ∧ t.mig.hot = [] ∧ t.plat.queue = s.plat.queue ++ [regionInval p r] ∧
      t.reg = s.reg ∧ t.hbm = s.hbm ∧ t.od = s.od := by
  have begins : s.beginPromotion =
      State.ownCommand { s.unlist with mig := { s.unlist.mig with copying := some { pasid := p, region := r, frame := f } } } (regionInval p r) := by
    simp only [State.beginPromotion, hot, hardware, may, window, open_, frame]
    rw [State.listHot_none s.unlist cold]
    rfl
  refine ⟨s.beginPromotion, by simp only [exec, execPromotion, idle], ?_⟩
  rw [begins, State.ownCommand, State.queueCmd]
  simp [regionInval, State.unlist, hot, ats]

/-- A promotion in progress translates its next page. -/
theorem completes_promotion_page (s : State) (c : Promotion) (x : Target) (n : Nat) (copying : s.mig.copying = some c)
    (done : s.ownPending .region = false) (may : s.mayRequest = true) (whole : s.mig.fails = []) (more : c.pages.length < 512)
    (found : (s.lookup (migWho false c.pasid) .host (c.region + c.pages.length * 4096) .write).2 = .at_ x n) :
    Completes (.promotion 1) s fun t =>
      t.mig.copying = some { c with pages := c.pages ++ [x] } ∧ t.reg = s.reg ∧ t.hbm = s.hbm := by
  let a := (s.lookup (migWho false c.pasid) .host (c.region + c.pages.length * 4096) .write).1
  have runs : exec (.promotion 1) s = .next { a with mig := { a.mig with copying := some { c with pages := c.pages ++ [x] } } } := by
    simp only [exec, execPromotion, copying, done, may, whole, promoteLoop, if_neg (show ¬ 512 ≤ c.pages.length by omega), found]
    rfl
  have keeps := State.lookup_keeps s (migWho false c.pasid) .host (c.region + c.pages.length * 4096) .write
  exact ⟨_, runs, rfl, keeps.kreg rfl, keeps.khbm rfl⟩

/-! ### The copy of a region whose pages lie in HBM (R500 steps 4 and 5) -/

/-- Pages that all lie in HBM. -/
def InHbm (ext : List (Target × Nat)) : Prop := ∀ e ∈ ext, ∃ a, e.1 = .hbm a

/-- No coherent line is tracked and no acre waits for a snoop. -/
structure NoSnoops (s : State) : Prop where
  filter : s.coh.snoopFilter = []
  scrubbing : s.coh.scrubbing = []

theorem State.reachOne_hbm (s : State) (a n : Nat) (acc : Access) (quiet : NoSnoops s) : s.reachOne (.hbm a) n acc = (s, none) := by
  have lines (w : Bool) : s.cohLines w a n = [] := by
    simp [State.cohLines, State.tracked, State.maybeModified, quiet.filter, kvFind]
  simp [State.reachOne, State.cohAccess, State.scrubHeld, quiet.scrubbing, lines]

theorem reachBuf_inHbm (s : State) (acc : Access) (quiet : NoSnoops s) (ext : List (Target × Nat)) (lies : InHbm ext) :
    reachBuf ext s acc = (s, none) := by
  induction ext with
  | nil => rfl
  | cons e rest ih =>
    obtain ⟨t, n⟩ := e
    obtain ⟨a, rfl⟩ := lies _ List.mem_cons_self
    simp only [reachBuf, s.reachOne_hbm a n acc quiet]
    exact ih fun e listed => lies e (List.mem_cons_of_mem _ listed)

theorem anyHost_inHbm (ext : List (Target × Nat)) (lies : InHbm ext) : anyHost ext = false := by
  refine List.any_eq_false.2 fun e listed => ?_
  obtain ⟨a, at_⟩ := lies e listed
  simp [at_]

theorem inHbm_pages (pages : List Target) (all : pages.all (fun x => match x with | .hbm _ => true | _ => false) = true) :
    InHbm (pages.map (fun t => (t, 4096))) := by
  intro e listed
  obtain ⟨t, page, rfl⟩ := List.mem_map.1 listed
  have hbm := List.all_eq_true.1 all t page
  cases t with
  | hbm a => exact ⟨a, rfl⟩
  | host a => exact absurd hbm Bool.false_ne_true
  | tilth p o => exact absurd hbm Bool.false_ne_true

theorem State.val_counted (u : State) (k n : Nat) (objs : Rises u.od) (read : k ≠ O.bytesRead) (wrote : k ≠ O.bytesWritten)
    (noCount : k % 256 ≠ 0xFE) : ((u.bumpBy O.bytesRead n).bumpBy O.bytesWritten n).val k = u.val k := by
  have flag (a : Nat) : k ≠ a / 256 * 256 + 0xFE := by omega
  exact (State.val_bumpBy_other _ _ k n (u.bumpBy_rises _ n objs) wrote (flag _)).trans (u.val_bumpBy_other _ k n objs read (flag _))

/-- The copy counts bytes and leaves every other object. -/
theorem State.val_copyRegion (s : State) (c : Promotion) (ext : List (Target × Nat)) (host : List (Byte × Bool)) (k : Nat) (objs : Rises s.od)
    (read : k ≠ O.bytesRead) (wrote : k ≠ O.bytesWritten) (noCount : k % 256 ≠ 0xFE) : (s.copyRegion c ext host).val k = s.val k := by
  unfold State.copyRegion
  extract_lets g u
  have keeps : KeepsP 33605760 s g :=
    KeepsP.step (m := 33605760) (Keeps.refl _ s) (readExt_keeps ext s host []) rfl
  clear_value g
  have od : Keeps 33605760 s u := by
    unfold u
    refine Keeps.step ?_ (State.countAccess_keeps _ _ _ _) rfl
    exact (KeepsP.fst keeps).step (State.putMarked_keeps _ _ _) rfl
  replace od : u.od = s.od := od.kod rfl
  clear_value u
  generalize 2 ^ 21 = n
  rw [State.val, (State.listHot_keeps _).kod rfl]
  exact (u.val_counted k n (by rw [od]; exact objs) read wrote noCount).trans (by rw [State.val, State.val, od])

/-- The overlay's installation joins the executor's queue. -/
theorem State.installOverlay_queues (u : State) (c : Promotion) (i : Nat) (free : u.freeReserved = some i) (room : ¬ 1024 ≤ u.parcelsOf c.pasid)
    (ats : u.plat.atsHeld = []) :
    (u.installOverlay c).mig.copying = some { c with copied := true } ∧
    (u.installOverlay c).plat.queue = u.plat.queue ++ [overlayInstall i c.pasid c.region c.frame] ∧ (u.installOverlay c).reg = u.reg := by
  have plain : (overlayInstall i c.pasid c.region c.frame).headland = false := rfl
  simp only [State.installOverlay, free, if_neg room, State.ownCommand, plain, State.queueCmd, ats, Bool.false_and, Bool.false_eq_true, if_false,
    List.isEmpty_nil, if_true, and_self]

theorem completes_promotionCopyDone (s : State) (h : HostRead) (c : Promotion) (i : Nat) (inv : s.Inv) (copying : s.mig.copying = some c)
    (fresh : c.copied = false) (whole : c.pages.length = 512) (hbm : InHbm (c.pages.map (fun t => (t, 4096)))) (may : s.mayRequest = true)
    (done : s.ownPending .region = false) (free : s.freeReserved = some i) (room : s.parcelsOf c.pasid < 1024) (quiet : NoSnoops s)
    (ats : s.plat.atsHeld = []) :
    Completes (.promotionCopyDone h) s fun t =>
      t.mig.copying = some { c with copied := true } ∧ t.plat.queue = s.plat.queue ++ [overlayInstall i c.pasid c.region c.frame] ∧
      t.reg = s.reg := by
  let u := s.copyRegion c (c.pages.map (fun t => (t, 4096))) h.data
  have copies : exec (.promotionCopyDone h) s = .next (u.installOverlay c) := by
    have started : ¬ (c.copied || decide (c.pages.length < 512) || !s.mayRequest || s.ownPending .region) = true := by
      simp [fresh, whole, may, done]
    have frame : (s.reachOne (.hbm c.frame) (2 ^ 21) .write) = (s, none) := s.reachOne_hbm _ _ _ quiet
    have answers : s.hostAnswers (c.pages.map (fun t => (t, 4096))) h h.data = (s, none) := by
      simp [State.hostAnswers, anyHost_inHbm _ hbm]
    change execPromotionCopyDone h s = _
    rw [execPromotionCopyDone, copying]
    dsimp only
    rw [if_neg started, reachBuf_inHbm s .read quiet _ hbm]
    dsimp only
    rw [frame]
    dsimp only
    rw [answers]
    rfl
  have keeps := s.copyRegion_keeps c (c.pages.map (fun t => (t, 4096))) h.data
  obtain ⟨-, -, objs, -⟩ := inv
  have free' : u.freeReserved = some i := by
    have count := s.val_copyRegion c (c.pages.map (fun t => (t, 4096))) h.data O.migParcelCount objs (by decide) (by decide) (by decide)
    have first := s.val_copyRegion c (c.pages.map (fun t => (t, 4096))) h.data O.migParcelFirst objs (by decide) (by decide) (by decide)
    rw [← free, State.freeReserved, State.freeReserved, count, first, keeps.kplat rfl]
  have room' : ¬ 1024 ≤ u.parcelsOf c.pasid := by
    rw [State.parcelsOf, keeps.kplat rfl]
    exact Nat.not_le.2 room
  have plat : u.plat = s.plat := keeps.kplat rfl
  have reg : u.reg = s.reg := keeps.kreg rfl
  obtain ⟨copying', queue, reg'⟩ := u.installOverlay_queues c i free' room' (by rw [plat]; exact ats)
  exact ⟨_, copies, copying', by rw [queue, plat], by rw [reg', reg]⟩

/-! ### An eviction (R503) -/

/-- What is dropped with a range leaves the wire, and an empty descriptor store empty. -/
theorem State.dropAhead_leaves (s : State) (c : Cover) :
    (s.g.store = [] → (s.dropAhead c).g.store = []) ∧ (s.dropAhead c).host.wire = s.host.wire := by
  unfold State.dropAhead
  extract_lets under face tagged rows plots promoted
  have keeps : Keeps 26624 tagged promoted := by
    have xfers : Keeps 26624 tagged rows := Keeps.each (Keeps.refl _ _) fun v r kept => kept.step (State.setRow_keeps _ _ _) rfl
    have buffers : Keeps 26624 tagged plots := Keeps.each xfers fun v p kept => kept.step (State.modPlot_keeps _ _ _ (fun _ h => h)) rfl
    exact buffers.step (State.dropPromotion_keeps _ _) rfl
  constructor
  · intro empty
    have store : promoted.g.store = [] := (congrArg (·.store) (keeps.kg rfl)).trans empty
    simp [store]
  · exact congrArg (·.wire) (keeps.khost rfl)

theorem State.parcels_dropXlats (s : State) (c : Cover) : (s.dropXlats c).plat.parcels = s.plat.parcels :=
  congrArg (·.parcels) ((s.dropAhead_keeps c).kplat rfl)

theorem State.recallSlots_none (s : State) (c : Cover) (empty : s.g.store = []) : s.recallSlots c = s := by
  simp [State.recallSlots, empty]

theorem completes_eviction (s : State) (i : Fin 65536) (n : Nat) (p : Parcel) (inv : s.Inv) (only : s.plat.parcels = [(i.val, p)])
    (valid : p.valid = true) (own : p.z20 = true) (due : s.evictionDue i p = true) (idle : s.mig.evicting = none) (may : s.mayRequest = true)
    (clean : p.dirty = []) (tags : s.host.tags = []) (empty : s.g.store = []) :
    Completes (.eviction i n) s fun t =>
      t.plat.parcels = [] ∧ s.Counts t O.evictions ∧ t.host.wire = s.host.wire ∧ t.hbm = s.hbm ∧ t.reg = s.reg := by
  let c : Cover := { pasid := some p.pasid, host := true, dev := false, lo := p.start, hi := p.start + p.length }
  let u := { s with mig := { s.mig with evicting := some i.val } }
  let v := (u.putParcel i {}).dropXlats c
  have found : kvGet {} s.plat.parcels i = p := by simp [kvGet, kvFind, only]
  have loop : evictLoop n u i = u := by
    cases n with
    | zero => rfl
    | succ n => simp only [evictLoop, u, found, clean]
  have ends : exec (.eviction i n) s = .next (({ v with
      plat := { v.plat with queue := (match v.plat.queue with
        | q :: qs => (if q.kind == 5 && q.parcel == i then { q with overlay := true } else q) :: qs
        | [] => []) },
      mig := { v.mig with evicting := none } } : State).bump O.evictions) := by
    have waits : ¬ (!s.host.frozen && !s.mayRequest) = true := by simp [may]
    change execEviction i n s = _
    rw [execEviction, found, valid, own, idle]
    dsimp only
    rw [if_neg (by decide), due, if_neg (by decide), if_neg waits, loop, State.evictEnd]
    have found' : kvGet {} u.plat.parcels i = p := found
    rw [found', clean]
    dsimp only
    rw [State.recallSlots_none]
    · rfl
    · exact (State.dropAhead_leaves _ _).1 empty
  let w : State := { v with
    plat := { v.plat with queue := (match v.plat.queue with
      | q :: qs => (if q.kind == 5 && q.parcel == i then { q with overlay := true } else q) :: qs
      | [] => []) },
    mig := { v.mig with evicting := none } }
  have moves : Keeps 27520 s v :=
    ((Keeps.setmig _ (Keeps.refl 27520 s) rfl).step (State.putParcel_keeps u i {}) rfl).step (State.dropXlats_keeps _ c) rfl
  have parcels : v.plat.parcels = [] := by
    refine (State.parcels_dropXlats _ c).trans ?_
    simp [State.putParcel, kvSet, kvErase, u, only]
  have wire : v.host.wire = s.host.wire := (State.dropAhead_leaves (u.putParcel i {}) c).2
  have od : w.od = s.od := moves.kod rfl
  have keeps := w.bump_keeps O.evictions
  refine ⟨_, ends, ?_, ?_, ?_, (keeps.khbm rfl).trans (moves.khbm rfl), (keeps.kreg rfl).trans (moves.kreg rfl)⟩
  · exact (congrArg (·.parcels) (keeps.kplat rfl)).trans parcels
  · obtain ⟨-, -, objs, -⟩ := inv
    refine (w.val_bump O.evictions (by rw [od]; exact objs) (by decide)).trans ?_
    rw [State.val, State.val, od]
  · exact (congrArg (·.wire) (keeps.khost rfl)).trans wire

/-! ### Registers of the migration engine and of the coherent windows (R499, R501, R510) -/

theorem completes_migWindowWrite_ctrl (s : State) (w : Fin 64) (v : Word) (rid : Half) (inv : s.Inv) (off : bit (s.rg (Rg.migWindow w 0)) 63 = false) :
    Completes (.migWindowWrite w 0 v rid) s fun t =>
      t.rg (Rg.migWindow w 0) = v.toNat &&& (2 ^ 63 + 0xFFFFF) ∧ t.od = s.od ∧ t.hbm = s.hbm ∧ t.mig = s.mig := by
  obtain ⟨-, -, -, regs, -⟩ := inv
  have writes : exec (.migWindowWrite w 0 v rid) s = .next (s.setRg (Rg.migWindow w 0) (v.toNat &&& (2 ^ 63 + 0xFFFFF))) := by
    change Host.Outcome.next (s.writeMigWindow w 0 v.toNat rid) = _
    unfold State.writeMigWindow
    dsimp only
    rw [off]
    rfl
  exact ⟨_, writes, State.rg_setRg_same s _ _ regs, rfl, rfl, rfl⟩

theorem State.writeMigWindow_start (s : State) (w val : Nat) (rid : Half) (off : bit (s.rg (Rg.migWindow w 0)) 63 = false) :
    s.writeMigWindow w 1 val rid = s.setRg (Rg.migWindow w 8) (val / 2 ^ 21 * 2 ^ 21) := by
  unfold State.writeMigWindow
  dsimp only
  rw [off]
  exact if_neg Bool.false_ne_true

theorem completes_migWindowWrite_start (s : State) (w : Fin 64) (v : Word) (rid : Half) (inv : s.Inv) (off : bit (s.rg (Rg.migWindow w 0)) 63 = false) :
    Completes (.migWindowWrite w 1 v rid) s fun t =>
      t.rg (Rg.migWindow w 8) = v.toNat / 2 ^ 21 * 2 ^ 21 ∧ t.rg (Rg.migWindow w 0) = s.rg (Rg.migWindow w 0) ∧ t.od = s.od ∧ t.hbm = s.hbm := by
  obtain ⟨-, -, -, regs, -⟩ := inv
  have writes : exec (.migWindowWrite w 1 v rid) s = .next (s.setRg (Rg.migWindow w 8) (v.toNat / 2 ^ 21 * 2 ^ 21)) := by
    exact congrArg Host.Outcome.next (s.writeMigWindow_start w v.toNat rid off)
  have other : Rg.migWindow w 0 ≠ Rg.migWindow w 8 := by unfold Rg.migWindow; omega
  exact ⟨_, writes, State.rg_setRg_same s _ _ regs, State.rg_setRg_ne _ regs other, (s.setRg_keeps _ _).kod rfl, (s.setRg_keeps _ _).khbm rfl⟩

theorem completes_migPoolWrite (s : State) (v : Word) (rid : Half) (inv : s.Inv) (host : s.mig.hostMode = true) (none_ : s.z20Overlays = [])
    (first : fld v.toNat 12 0 < hbmAcres) (last : fld v.toNat 12 0 + fld v.toNat 28 16 ≤ hbmAcres) :
    Completes (.migPoolWrite v rid) s fun t =>
      t.rg Rg.migPool = v.toNat &&& 0x1FFF1FFF ∧ t.od = s.od ∧ t.hbm = s.hbm ∧ t.mig = s.mig := by
  obtain ⟨-, -, -, regs, -⟩ := inv
  have low : fld (v.toNat &&& 0x1FFF1FFF) 12 0 = fld v.toNat 12 0 := fld_and_mask _ _ _ _ (by decide)
  have high : fld (v.toNat &&& 0x1FFF1FFF) 28 16 = fld v.toNat 28 16 := fld_and_mask _ _ _ _ (by decide)
  have writes : exec (.migPoolWrite v rid) s = .next (s.setRg Rg.migPool (v.toNat &&& 0x1FFF1FFF)) := by
    simp [exec, execMigPoolWrite, State.writeMigPool, host, none_, low, high, Nat.not_le.2 first, Nat.not_lt.2 last]
  exact ⟨_, writes, State.rg_setRg_same s _ _ regs, rfl, rfl, rfl⟩

theorem completes_cohWindowWrite (s : State) (k : Fin 16) (v : Word) (rid : Half) (inv : s.Inv) (off : bit (s.rg (Rg.cohWindow k)) 63 = false)
    (first : fld v.toNat 12 0 < hbmAcres) (last : fld v.toNat 12 0 + fld v.toNat 28 16 ≤ hbmAcres) (some_ : 0 < fld v.toNat 28 16) :
    Completes (.cohWindowWrite k v rid) s fun t =>
      t.rg (Rg.cohWindow k) = v.toNat &&& (2 ^ 63 + 0x1FFF1FFF) ∧ t.od = s.od ∧ t.hbm = s.hbm ∧ t.coh = s.coh := by
  obtain ⟨-, -, -, regs, -⟩ := inv
  have low : fld (v.toNat &&& (2 ^ 63 + 0x1FFF1FFF)) 12 0 = fld v.toNat 12 0 := fld_and_mask _ _ _ _ (by decide)
  have high : fld (v.toNat &&& (2 ^ 63 + 0x1FFF1FFF)) 28 16 = fld v.toNat 28 16 := fld_and_mask _ _ _ _ (by decide)
  have writes : exec (.cohWindowWrite k v rid) s = .next (s.setRg (Rg.cohWindow k) (v.toNat &&& (2 ^ 63 + 0x1FFF1FFF))) := by
    change Host.Outcome.next (s.writeCohWindow k v.toNat rid) = _
    unfold State.writeCohWindow
    dsimp only
    rw [off, low, high, if_neg Bool.false_ne_true]
    simp [Nat.not_le.2 first, Nat.not_lt.2 last, some_.ne']
  exact ⟨_, writes, State.rg_setRg_same s _ _ regs, rfl, rfl, rfl⟩

/-! ### Coherent requests and snoops of the host (R508, R516) -/

/-- CXL requests of a line that the decoder covers and no coherent window holds are served at once. -/
structure CxlServes (s : State) (l : Nat) : Prop where
  on : s.cxlOn = true
  up : s.pwr.mode = .up
  thawed : s.host.frozen = false
  power : s.host.power = .d0
  covered : l * 64 < s.coh.hdmSize
  window : s.cohWindowOf (l * 64) = none
  scrub : s.pwr.scrub = []
  scrubbing : s.coh.scrubbing = []

theorem State.scrubFor_none (s : State) (a n : Nat) (scrub : s.pwr.scrub = []) : s.scrubFor a n = s := by
  simp [State.scrubFor, State.scrubAcre, State.scrubPending, scrub]

theorem State.cxlRequest_serves (s : State) (q : CxlReq) (serves : CxlServes s q.line) :
    s.cxlRequest q = if q.write then (s.setHbm (storeWrite s.hbmStore (q.line * 64) (enAll q.data) q.poison)).cxlAnswer { line := q.line }
      else s.cxlAnswer { line := q.line, data := memRead s.hbm (q.line * 64) 64, poison := marked s.host.poison (q.line * 64) 64 } := by
  obtain ⟨on, up, thawed, power, covered, window, scrub, scrubbing⟩ := serves
  simp [State.cxlRequest, on, up, State.cxlNow, thawed, power, State.cxlServe, Nat.not_le.2 covered, window, State.scrubHeld, scrubbing,
    State.hbmWrite, State.hbmRead, State.scrubFor_none _ _ _ scrub]

theorem completes_cxlMemRead (s : State) (l : Nat) (serves : CxlServes s l) (sound : s.host.poison = []) :
    Completes (.cxlMemRead l) s fun t =>
      t = { s with coh := { s.coh with rsp := s.coh.rsp ++ [{ line := l, data := memRead s.hbm (l * 64) 64 }] } } := by
  refine ⟨_, rfl, ?_⟩
  have clean : marked s.host.poison (l * 64) 64 = false := by simp [marked, sound, kvGet, kvFind]
  rw [State.cxlRequest_serves s _ serves, if_neg Bool.false_ne_true, clean]
  rfl

theorem completes_cxlMemWrite (s : State) (l : Nat) (d : List Byte) (k : Bool) (inv : s.Inv) (serves : CxlServes s l) (whole : d.length = 64) :
    Completes (.cxlMemWrite l d false k) s fun t =>
      t.coh = { s.coh with rsp := s.coh.rsp ++ [{ line := l }] } ∧ (∀ x, memByte t.hbm x = byteAfter s.hbm (l * 64) (enAll d) x) ∧ t.od = s.od ∧
      t.reg = s.reg := by
  obtain ⟨hbm, -⟩ := inv
  refine ⟨_, rfl, ?_⟩
  rw [State.cxlRequest_serves s _ serves, if_pos rfl, List.take_of_length_le whole.le]
  exact ⟨rfl, fun x => memByte_memWriteEn _ _ _ _ hbm, rfl, rfl⟩

theorem completes_hostSnoop (s : State) (l : Nat) (d : List Byte) (invalidate : Bool) (on : s.cxlOn = true) (held : s.coh.dcc = [(l, true, d)]) :
    Completes (.hostSnoop l invalidate) s fun t =>
      t = { s with coh := { s.coh with dcc := (if invalidate then [] else [(l, false, d)]), rsp := s.coh.rsp ++ [{ line := l, data := d }] } } := by
  refine ⟨_, if_neg (by rw [on]; decide), ?_⟩
  cases invalidate <;> simp [held, State.cxlAnswer]

/-- Settles O31: the migration engine counts, promotes and evicts, and requests and snoops of a coherent host are served. -/
theorem migrationAndCoherenceComplete : Obligations.MigrationAndCoherenceComplete :=
  ⟨completes_migEpoch, completes_promotion, completes_promotion_page,
    fun s h c i inv copying fresh whole hbm may done free room _ filter scrubbing _ _ ats =>
      completes_promotionCopyDone s h c i inv copying fresh whole (inHbm_pages c.pages hbm) may done free room ⟨filter, scrubbing⟩ ats,
    fun s i n p inv only valid own due idle may clean tags _ empty => completes_eviction s i n p inv only valid own due idle may clean tags empty,
    completes_migWindowWrite_ctrl, completes_migWindowWrite_start, completes_migPoolWrite,
    fun s l on up thawed power covered window scrub scrubbing sound =>
      completes_cxlMemRead s l ⟨on, up, thawed, power, covered, window, scrub, scrubbing⟩ sound,
    fun s l d k inv on up thawed power covered window scrub scrubbing whole =>
      completes_cxlMemWrite s l d k inv ⟨on, up, thawed, power, covered, window, scrub, scrubbing⟩ whole,
    completes_cohWindowWrite, fun s l d => completes_hostSnoop s l d true, fun s l d => completes_hostSnoop s l d false⟩

end Sys2Proof.Machine
end

section
namespace Sys2Proof.Machine

set_option Elab.async false

/-! ### A lot listed twice (R697)

The table of lots holds no entry for a lot that is free. Nothing keeps a lot from being listed twice in it: where a draft is discarded that was opened
on a free lot, one entry goes and the other is read. -/

/-- A lot in DRAFT that was free before. -/
def draftOfFree : Lot := { state := .draft, draft := some { base := none, prior := .free } }

/-- The firmware runs and the controller is READY; lot 0 stands twice in the table. -/
def lotTwice : State :=
  { State.reset with
    hl := { State.reset.hl with running := true }
    seed := { State.reset.seed with state := .ready, lots := [(0, draftOfFree), (0, { key := 7 })] } }

theorem lotTwice_inv : lotTwice.Inv :=
  ⟨rfl, rfl, rfl, rfl, rfl, rfl, ⟨rfl, fun _ listed => absurd listed List.not_mem_nil⟩, rfl, rfl, rfl, rfl, rfl, rfl⟩

theorem draftAbort_key : leaves (.draftAbort { lot := 0 }) lotTwice (fun t => (t.lot 0).key) = some 7 := by
  decide +kernel

/-- Refutes O32: in the state `lotTwice` DRAFT_ABORT leaves the lot with the key of its other entry, not as it was without the draft. -/
theorem not_lotCommandsComplete : ¬ Obligations.LotCommandsComplete := by
  rintro ⟨-, -, -, -, abort, -⟩
  obtain ⟨t, runs, lot, -⟩ := abort lotTwice { lot := 0 } draftOfFree { base := none, prior := .free } lotTwice_inv rfl rfl rfl (by decide +kernel)
    (by decide +kernel) rfl
  have other := draftAbort_key
  rw [leaves_of_next _ runs, show t.lot 0 = _ from lot] at other
  exact absurd other (by decide)

end Sys2Proof.Machine
end

section
namespace Sys2Proof.Machine

/-! ### The array's stock through what only counts or reports (R694, R702) -/

/-- Bad blocks, spares, lots and bands as they were, and no event of the ring gone. -/
structure SameStock (s t : State) : Prop where
  bad : t.seed.bad = s.seed.bad
  spareUsed : t.seed.spareUsed = s.seed.spareUsed
  lostBands : t.seed.lostBands = s.seed.lostBands
  lots : t.seed.lots = s.seed.lots
  bands : t.seed.bands = s.seed.bands
  ring : ∀ e ∈ s.fc.ring, e ∈ t.fc.ring

theorem SameStock.refl (s : State) : SameStock s s := ⟨rfl, rfl, rfl, rfl, rfl, fun _ h => h⟩

theorem SameStock.trans {s t u : State} (a : SameStock s t) (b : SameStock t u) : SameStock s u :=
  ⟨b.bad.trans a.bad, b.spareUsed.trans a.spareUsed, b.lostBands.trans a.lostBands, b.lots.trans a.lots, b.bands.trans a.bands,
    fun e listed => b.ring e (a.ring e listed)⟩

/-- Whatever leaves the seedbank and the fault collector leaves the stock. -/
theorem SameStock.of_eq {s t : State} (seed : t.seed = s.seed) (fc : t.fc = s.fc) : SameStock s t := by
  constructor <;> simp [seed, fc]

theorem State.setVal_stock (s : State) (k v : Nat) : SameStock s (s.setVal k v) :=
  .of_eq ((s.setVal_keeps k v).kseed rfl) ((s.setVal_keeps k v).kfc rfl)

theorem State.bumpBy_stock (s : State) (k n : Nat) : SameStock s (s.bumpBy k n) :=
  .of_eq ((s.bumpBy_keeps k n).kseed rfl) ((s.bumpBy_keeps k n).kfc rfl)

theorem State.journal_stock (s : State) : SameStock s s.journal := by
  have counted : SameStock s (s.setSeed (fun d => { d with records := d.records + 1 })) := ⟨rfl, rfl, rfl, rfl, rfl, fun _ h => h⟩
  rw [State.journal]
  exact counted.trans (State.bumpBy_stock _ _ _)

theorem State.raise_stock (s : State) (n : Nat) (c : Cap) : SameStock s (s.raise n c) :=
  ⟨rfl, rfl, rfl, rfl, rfl, fun _ listed => List.mem_append_left _ listed⟩

theorem State.raiseIf_stock (s : State) (b : Bool) (n : Nat) (c : Cap) : SameStock s (s.raiseIf b n c) := by
  unfold State.raiseIf
  split
  · exact s.raise_stock n c
  · exact .refl s

theorem State.capacityCheck_stock (s : State) : SameStock s s.capacityCheck := by
  unfold State.capacityCheck
  split
  · have closed : SameStock s (s.setSeed (fun d => { d with state := .readOnly })) := ⟨rfl, rfl, rfl, rfl, rfl, fun _ h => h⟩
    exact closed.trans (State.raise_stock _ _ _)
  · exact .refl s

theorem State.val_journal (s : State) (k : Nat) (objs : Rises s.od) (other : k ≠ O.nandBytes) (noFlag : k ≠ O.nandBytes / 256 * 256 + 0xFE) :
    s.journal.val k = s.val k := State.val_bumpBy_other _ _ k _ objs other noFlag

/-! ### A block is retired (R694) -/

/-- The bad-block table with one block more. -/
def withBad (l : List Nat) (b : Nat) : List Nat := l.filter (fun x => decide (x < b)) ++ b :: l.filter (fun x => decide (b < x))

theorem mem_withBad (l : List Nat) (b x : Nat) : x ∈ withBad l b ↔ x = b ∨ x ∈ l := by
  simp only [withBad, List.mem_append, List.mem_cons, List.mem_filter, decide_eq_true_eq]
  constructor
  · rintro (⟨listed, -⟩ | rfl | ⟨listed, -⟩)
    · exact .inr listed
    · exact .inl rfl
    · exact .inr listed
  · rintro (rfl | listed)
    · exact .inr (.inl rfl)
    · rcases Nat.lt_trichotomy x b with less | rfl | more
      · exact .inl ⟨listed, less⟩
      · exact .inr (.inl rfl)
      · exact .inr (.inr ⟨listed, more⟩)

/-- The journal's record, and the spare or the band that is used up. -/
def State.useSpare (s : State) (had : Nat) : State :=
  let u := if s.seed.state == .host || s.seed.state == .formatting then s else s.journal
  if had = 0 then (u.setSeed (fun d => { d with lostBands := d.lostBands + 1 })).setVal O.lotCapacity (u.val O.lotCapacity - 0x1F000000)
  else u.setSeed (fun d => { d with spareUsed := d.spareUsed + 1 })

/-- What using up a spare leaves. -/
structure SpareUsed (s : State) (had : Nat) (t : State) : Prop where
  bad : t.seed.bad = s.seed.bad
  spareUsed : t.seed.spareUsed = s.seed.spareUsed + (if had = 0 then 0 else 1)
  lostBands : t.seed.lostBands = s.seed.lostBands + (if had = 0 then 1 else 0)
  lots : t.seed.lots = s.seed.lots
  ring : ∀ e ∈ s.fc.ring, e ∈ t.fc.ring
  objs : Rises t.od
  grownBad : t.val O.grownBad = s.val O.grownBad

theorem State.useSpare_uses (s : State) (had : Nat) (objs : Rises s.od) : SpareUsed s had (s.useSpare had) := by
  unfold State.useSpare
  extract_lets u
  have stock : SameStock s u := by
    unfold u
    split
    · exact .refl s
    · exact s.journal_stock
  have rises : Rises u.od := by
    unfold u
    split
    · exact objs
    · exact State.bumpBy_rises _ _ _ objs
  have grown : u.val O.grownBad = s.val O.grownBad := by
    unfold u
    split
    · rfl
    · exact s.val_journal _ objs (by decide) (by decide)
  clear_value u
  obtain ⟨bad, spare, lost, lots, -, ring⟩ := stock
  by_cases none_ : had = 0
  · rw [if_pos none_]
    have keeps := (u.setSeed (fun d => { d with lostBands := d.lostBands + 1 })).setVal_keeps O.lotCapacity (u.val O.lotCapacity - 0x1F000000)
    have seed := keeps.kseed rfl
    refine ⟨?_, ?_, ?_, ?_, ?_, State.setVal_rises _ _ _ rises, ?_⟩
    · rw [seed]; exact bad
    · rw [seed, if_pos none_]; exact spare
    · rw [seed, if_pos none_, ← lost]; rfl
    · rw [seed]; exact lots
    · rw [keeps.kfc rfl]; exact ring
    · refine (State.val_setVal (u.setSeed _) O.lotCapacity O.grownBad _ rises).trans ?_
      rw [if_neg (by decide)]
      exact grown
  · rw [if_neg none_]
    refine ⟨bad, ?_, ?_, lots, ring, rises, grown⟩
    · rw [if_neg none_, ← spare]; rfl
    · rw [if_neg none_]; exact lost

/-- What retiring a block that was not bad leaves. -/
structure Retired (s : State) (b : Nat) (t : State) : Prop where
  bad : t.seed.bad = withBad s.seed.bad b
  spareUsed : t.seed.spareUsed = s.seed.spareUsed + (if s.spareLeft = 0 then 0 else 1)
  lostBands : t.seed.lostBands = s.seed.lostBands + (if s.spareLeft = 0 then 1 else 0)
  lots : t.seed.lots = s.seed.lots
  ring : ∀ e ∈ s.fc.ring, e ∈ t.fc.ring
  grownBad : t.val O.grownBad = s.val O.grownBad + 1

theorem State.retire_retires (s : State) (b : Nat) (objs : Rises s.od) (new : s.seed.bad.contains b = false) : Retired s b (s.retire b) := by
  let u := (s.setBad b).setVal O.grownBad (s.val O.grownBad + 1)
  have stages : s.retire b = ((u.useSpare s.spareLeft).raiseIf (s.spareLeft == 1025) Sc.seedSpareLow).capacityCheck := by
    rw [State.retire, new]
    rfl
  have rises : Rises u.od := State.setVal_rises _ _ _ objs
  have seed : u.seed = (s.setBad b).seed := ((s.setBad b).setVal_keeps _ _).kseed rfl
  have fc : u.fc = s.fc := ((s.setBad b).setVal_keeps _ _).kfc rfl
  have grown : u.val O.grownBad = s.val O.grownBad + 1 := State.val_setVal_same _ _ _ objs
  obtain ⟨bad, spare, lost, lots, ring, objs', grown'⟩ := u.useSpare_uses s.spareLeft rises
  let v := u.useSpare s.spareLeft
  have stock : SameStock v (s.retire b) := by
    rw [stages]
    exact (v.raiseIf_stock _ _ _).trans (State.capacityCheck_stock _)
  have od : (s.retire b).od = v.od := by
    rw [stages, (State.capacityCheck_keeps _).kod rfl, (State.raiseIf_keeps _ _ _ _).kod rfl]
  refine ⟨stock.bad.trans (bad.trans ?_), stock.spareUsed.trans (spare.trans ?_), stock.lostBands.trans (lost.trans ?_),
    stock.lots.trans (lots.trans ?_), fun e listed => stock.ring e (ring e (by rw [fc]; exact listed)), ?_⟩
  · rw [seed]; rfl
  · rw [seed]; rfl
  · rw [seed]; rfl
  · rw [seed]; rfl
  · rw [State.val, od]; exact grown'.trans grown

/-! ### SCRUB, BAND_REFRESH and WEAR_MOVE (R708, R709) -/

theorem completes_scrub (s : State) (k : Fin 15616) (r : BandRead) (b : Band) (inv : s.Inv) (found : kvFind s.seed.bands k = some b)
    (up : s.ftlUp = true) (whole : r.lost = []) (plain : r.order = none) (none_ : r.blocks = []) :
    Completes (.scrub k r) s fun t =>
      kvFind t.seed.bands k = some { b with readAt := s.now, reads := b.reads + 1, age := r.age, step := r.step, bits := r.bits, rebuilt := decide (0 < r.rebuilt) } ∧
      t.seed.lots = s.seed.lots ∧ t.val O.retryReads = (s.val O.retryReads + r.retries) % 2 ^ 64 ∧ t.hbm = s.hbm := by
  obtain ⟨-, -, objs, -⟩ := inv
  let b' : Band := { b with readAt := s.now, reads := b.reads + 1, age := r.age, step := r.step, bits := r.bits, rebuilt := decide (0 < r.rebuilt) }
  let u := s.hlWork.setSeed (fun d => { d with bands := kvPut d.bands k b' })
  let v := u.bumpBy O.retryReads r.retries
  let w := v.bumpBy O.parityRebuilds r.rebuilt
  have runs : exec (.scrub k r) s = .next (w.bumpBy O.ueSectors 0) := by
    change execScrub k r s = _
    simp only [execScrub, found, up, whole, plain, none_]
    rfl
  have keeps : Keeps 4 u (w.bumpBy O.ueSectors 0) :=
    ((u.bumpBy_keeps _ _).step (v.bumpBy_keeps _ _) rfl).step (w.bumpBy_keeps _ _) rfl
  have rises : Rises v.od := State.bumpBy_rises _ _ _ objs
  refine ⟨_, runs, ?_, ?_, ?_, keeps.khbm rfl⟩
  · rw [keeps.kseed rfl]
    exact kvFind_kvPut_same _ _ _
  · rw [keeps.kseed rfl]
    rfl
  · calc (w.bumpBy O.ueSectors 0).val O.retryReads
      _ = w.val O.retryReads := State.val_bumpBy_other _ _ _ _ (State.bumpBy_rises _ _ _ rises) (by decide) (by decide)
      _ = v.val O.retryReads := State.val_bumpBy_other _ _ _ _ rises (by decide) (by decide)
      _ = (s.val O.retryReads + r.retries) % 2 ^ 64 := State.val_bumpBy u _ _ objs (by decide)

/-- The only band moves to the free band j. -/
structure Relocated (s : State) (b : Band) (j : Nat) (t : State) : Prop where
  bands : t.seed.bands = [(j, { lot := b.lot, gen := b.gen, cycles := s.freePe j + 1, readAt := s.now })]
  lots : t.seed.lots = s.seed.lots
  hbm : t.hbm = s.hbm
  objs : Rises t.od
  counts : ∀ k, k ≠ O.nandBytes → k ≠ O.nandBytes / 256 * 256 + 0xFE → t.val k = s.val k

theorem State.relocate_relocates (s : State) (k : Nat) (b : Band) (lowest : Bool) (j : Nat) (objs : Rises s.od) (only : s.seed.bands = [(k, b)])
    (free : s.freeBand lowest = some j) : Relocated s b j (s.relocate k b lowest) := by
  let u := s.setSeed (fun d => { d with
    bands := kvPut (kvErase d.bands k) j { lot := b.lot, gen := b.gen, cycles := s.freePe j + 1, readAt := s.now },
    freeCycles := kvSet d.formats (kvErase d.freeCycles j) k b.cycles })
  have moves (n : Nat) : Relocated s b j (u.journal.bumpBy O.nandBytes n) := by
    have stock : SameStock u (u.journal.bumpBy O.nandBytes n) := u.journal_stock.trans (State.bumpBy_stock _ _ _)
    have rises : Rises u.journal.od := State.bumpBy_rises _ _ _ objs
    refine ⟨stock.bands.trans ?_, stock.lots, ?_, State.bumpBy_rises _ _ _ rises, fun k other noFlag => ?_⟩
    · simp [u, State.setSeed, only, kvErase, kvPut]
    · rw [(State.bumpBy_keeps _ _ _).khbm rfl, (State.journal_keeps _).khbm rfl]
      rfl
    · rw [State.val_bumpBy_other _ _ k _ rises other noFlag, State.val_journal u k objs other noFlag]
      rfl
  have stages : s.relocate k b lowest = u.journal.bumpBy O.nandBytes 0x20000000 := by
    rw [State.relocate, free]
  rw [stages]
  exact moves _

theorem completes_bandRefresh (s : State) (k : Fin 15616) (b : Band) (j : Nat) (inv : s.Inv) (programs : s.nandPrograms = true)
    (only : s.seed.bands = [(k.val, b)]) (needs : s.needsRefresh b = true) (free : s.freeBand true = some j) :
    Completes (.bandRefresh k) s fun t =>
      t.seed.bands = [(j, { lot := b.lot, gen := b.gen, cycles := s.freePe j + 1, readAt := s.now })] ∧ t.seed.lots = s.seed.lots ∧ t.hbm = s.hbm ∧
      s.Counts t O.refreshes := by
  obtain ⟨-, -, objs, -⟩ := inv
  obtain ⟨bands, lots, hbm, rises, counts⟩ := s.relocate_relocates k b true j objs only free
  have runs : exec (.bandRefresh k) s = .next ((s.relocate k b true).bump O.refreshes) := by
    have found : kvFind s.seed.bands k = some b := by simp [only, kvFind]
    change execBandRefresh k s = _
    simp only [execBandRefresh, found, programs, needs, Bool.and_self, if_true]
  have keeps := (s.relocate k b true).bump_keeps O.refreshes
  refine ⟨_, runs, by rw [keeps.kseed rfl]; exact bands, by rw [keeps.kseed rfl]; exact lots, (keeps.khbm rfl).trans hbm, ?_⟩
  rw [State.Counts, State.val_bump _ _ rises (by decide), counts _ (by decide) (by decide)]

theorem completes_wearMove (s : State) (k : Fin 15616) (b : Band) (j : Nat) (inv : s.Inv) (programs : s.nandPrograms = true)
    (only : s.seed.bands = [(k.val, b)]) (worn : s.val O.wearSpread < s.peMax - s.peMin) (free : s.freeBand false = some j) :
    Completes (.wearMove) s fun t =>
      t.seed.bands = [(j, { lot := b.lot, gen := b.gen, cycles := s.freePe j + 1, readAt := s.now })] ∧ t.seed.lots = s.seed.lots ∧ t.hbm = s.hbm ∧
      s.Counts t O.wearMoves := by
  obtain ⟨-, -, objs, -⟩ := inv
  obtain ⟨bands, lots, hbm, rises, counts⟩ := s.relocate_relocates k b false j objs only free
  have runs : exec (.wearMove) s = .next ((s.relocate k b false).bump O.wearMoves) := by
    have least : s.leastWorn = some (k.val, b) := by simp [State.leastWorn, only]
    have moves : ¬ (!s.nandPrograms || decide (s.peMax - s.peMin ≤ s.val O.wearSpread)) = true := by
      simp [programs, Nat.not_le.2 worn]
    change execWearMove s = _
    rw [execWearMove, if_neg moves, least]
  have keeps := (s.relocate k b false).bump_keeps O.wearMoves
  refine ⟨_, runs, by rw [keeps.kseed rfl]; exact bands, by rw [keeps.kseed rfl]; exact lots, (keeps.khbm rfl).trans hbm, ?_⟩
  rw [State.Counts, State.val_bump _ _ rises (by decide), counts _ (by decide) (by decide)]

/-! ### Blocks and dies fail (R694) -/

theorem length_filter_withBad (l : List Nat) (b : Nat) (p : Nat → Bool) : ((withBad l b).filter p).length ≤ (l.filter p).length + 1 := by
  have split_ : ((l.filter (fun x => decide (x < b))).filter p).length + ((l.filter (fun x => decide (b < x))).filter p).length ≤ (l.filter p).length := by
    induction l with
    | nil => simp
    | cons x l ih =>
      have one : ¬ (x < b ∧ b < x) := fun both => Nat.lt_asymm both.1 both.2
      by_cases less : x < b <;> by_cases more : b < x <;> by_cases kept : p x <;> simp [List.filter_cons, less, more, kept, -List.filter_filter] <;> omega
  rw [withBad, List.filter_append, List.length_append, List.filter_cons]
  split
  · rw [List.length_cons]; omega
  · omega

theorem completes_programFailRetire (s : State) (b : Fin 131072) (e : Bool) (inv : s.Inv) (up : s.ftlUp = true) (new : s.seed.bad.contains b = false)
    (few : (s.seed.bad.filter (fun x => x / 2048 == b.val / 2048)).length < 256) :
    Completes (.programFailRetire b e) s fun t =>
      t.seed.bad.contains b.val = true ∧ t.seed.spareUsed = s.seed.spareUsed + (if s.spareLeft = 0 then 0 else 1) ∧
      t.seed.lostBands = s.seed.lostBands + (if s.spareLeft = 0 then 1 else 0) ∧ t.val O.grownBad = (s.val O.grownBad + 1) ∧
      t.seed.lots = s.seed.lots ∧ (e = false → { source := Sc.seedProgramFail } ∈ t.fc.ring) ∧ t.hbm = s.hbm := by
  obtain ⟨-, -, objs, -⟩ := inv
  let u := s.raiseIf (!e) Sc.seedProgramFail
  have stock : SameStock s u := s.raiseIf_stock _ _ _
  have od : u.od = s.od := (s.raiseIf_keeps _ _ _).kod rfl
  have new' : u.seed.bad.contains b.val = false := by rw [stock.bad]; exact new
  obtain ⟨bad, spare, lost, lots, ring, grown⟩ := u.retire_retires b (by rw [od]; exact objs) new'
  have left : u.spareLeft = s.spareLeft := by rw [State.spareLeft, State.spareLeft, stock.spareUsed]
  have runs : exec (.programFailRetire b e) s = .next (u.retire b) := by
    have few' : ¬ 256 < ((u.retire b).seed.bad.filter (fun x => x / 2048 == b.val / 2048)).length := by
      have := length_filter_withBad u.seed.bad b (fun x => x / 2048 == b.val / 2048)
      rw [bad]
      rw [stock.bad] at this ⊢
      omega
    change Host.Outcome.next (if s.ftlUp || s.seed.state == .formatting then u.retireBlock b else s) = _
    rw [up, State.retireBlock, if_neg few']
    rfl
  refine ⟨_, runs, ?_, ?_, ?_, ?_, lots.trans stock.lots, ?_, ?_⟩
  · rw [bad, List.contains_iff_mem, mem_withBad]
    exact .inl rfl
  · rw [spare, left, stock.spareUsed]
  · rw [lost, left, stock.lostBands]
  · rw [grown, State.val, State.val, od]
  · rintro rfl
    exact ring _ (List.mem_append_right _ (List.mem_singleton.2 rfl))
  · exact ((u.retire_keeps b).khbm rfl).trans ((s.raiseIf_keeps _ _ _).khbm rfl)

/-- Blocks that are retired one after another all end up bad, and no bad block becomes good again. -/
structure Worn (s : State) (l : List Nat) (t : State) : Prop where
  retired : ∀ b ∈ l, b ∈ t.seed.bad
  bad : ∀ b ∈ s.seed.bad, b ∈ t.seed.bad
  lots : t.seed.lots = s.seed.lots
  inv : t.Inv
  hbm : t.hbm = s.hbm

theorem State.retire_wears (s : State) (b : Nat) (inv : s.Inv) : Worn s [b] (s.retire b) := by
  have inv' := (s.retire_keeps b).kinv inv
  have hbm := (s.retire_keeps b).khbm rfl
  obtain ⟨-, -, objs, -⟩ := inv
  cases new : s.seed.bad.contains b with
  | true =>
    have same : s.retire b = s := by rw [State.retire, new]; rfl
    rw [same] at inv' ⊢
    exact ⟨fun x only => by rw [List.mem_singleton.1 only]; exact List.contains_iff_mem.1 new, fun _ listed => listed, rfl, inv', rfl⟩
  | false =>
    obtain ⟨bad, -, -, lots, -, -⟩ := s.retire_retires b objs new
    refine ⟨fun x only => ?_, fun x listed => ?_, lots, inv', hbm⟩
    · rw [bad, mem_withBad]; exact .inl (List.mem_singleton.1 only)
    · rw [bad, mem_withBad]; exact .inr listed

theorem State.retireAll_wears (f : Nat → Nat) (l : List Nat) (s : State) (inv : s.Inv) : Worn s (l.map f) (s.each l (fun s b => s.retire (f b))) := by
  induction l generalizing s with
  | nil => exact ⟨fun _ listed => absurd listed List.not_mem_nil, fun _ listed => listed, rfl, inv, rfl⟩
  | cons b l ih =>
    have first := s.retire_wears (f b) inv
    have rest := ih (s.retire (f b)) first.inv
    refine ⟨fun x listed => ?_, fun x listed => rest.bad x (first.bad x listed), rest.lots.trans first.lots, rest.inv, rest.hbm.trans first.hbm⟩
    rcases List.mem_cons.1 listed with rfl | later
    · exact rest.bad _ (first.retired _ List.mem_cons_self)
    · exact rest.retired x later

/-- The blocks of a die that are retired where it fails, n of them. -/
def State.wearDie (s : State) (d n : Nat) : State := s.each (List.range n) (fun s b => s.retire (2048 * d + b))

/-- The die's bit, and its source. -/
def State.markDie (s : State) (d : Nat) : State := (s.setVal O.diesFailed (s.val O.diesFailed ||| 2 ^ d)).raise Sc.seedDieFailed

theorem State.failDie_marks (s : State) (d : Nat) (works : bit (s.val O.diesFailed) d = false) : s.failDie d = (s.wearDie d 2048).markDie d :=
  if_neg (by rw [works]; decide)

theorem State.markDie_keeps (s : State) (d : Nat) : Keeps 65540 s (s.markDie d) :=
  ((Keeps.refl 65540 s).step (State.setVal_keeps _ _ _) rfl).step (State.raise_keeps _ _ _) rfl

theorem State.val_markDie (s : State) (d : Nat) (objs : Rises s.od) : (s.markDie d).val O.diesFailed = s.val O.diesFailed ||| 2 ^ d := by
  have od : (s.markDie d).od = (s.setVal O.diesFailed (s.val O.diesFailed ||| 2 ^ d)).od := (State.raise_keeps _ _ _).kod rfl
  rw [State.val, od]
  exact s.val_setVal_same O.diesFailed _ objs

theorem completes_seedDieFailed (s : State) (d : Fin 64) (inv : s.Inv) (ready : s.seed.state = .ready) (works : bit (s.val O.diesFailed) d = false) :
    Completes (.seedDieFailed d) s fun t =>
      bit (t.val O.diesFailed) d = true ∧ (∀ b : Fin 2048, t.seed.bad.contains (2048 * d.val + b) = true) ∧
      { source := Sc.seedDieFailed } ∈ t.fc.ring ∧ t.seed.lots = s.seed.lots ∧ t.hbm = s.hbm := by
  have worn := s.retireAll_wears (fun b => 2048 * d + b) (List.range 2048) inv
  have runs : exec (.seedDieFailed d) s = .next ((s.wearDie d 2048).markDie d) := by
    rw [← s.failDie_marks d works]
    exact congrArg Host.Outcome.next (if_neg (by rw [ready]; decide))
  change Worn s _ (s.wearDie d 2048) at worn
  generalize s.wearDie d 2048 = u at worn runs
  obtain ⟨retired, -, lots, ⟨-, -, objs, -⟩, hbm⟩ := worn
  have kept := u.markDie_keeps d
  refine ⟨_, runs, ?_, fun b => ?_, List.mem_append_right _ (List.mem_singleton.2 rfl), ?_, (kept.khbm rfl).trans hbm⟩
  · rw [u.val_markDie d objs]
    exact bit_or_two_pow _ _
  · rw [kept.kseed rfl]
    exact List.contains_iff_mem.2 (retired _ (List.mem_map.2 ⟨b, List.mem_range.2 b.isLt, rfl⟩))
  · rw [kept.kseed rfl]
    exact lots

/-! ### The array is formatted, turned off and comes back (R710, R711) -/

/-- The state of a format that is done, before its checkpoint. -/
def State.formatted (s : State) : State :=
  s.hlWork.setSeed (fun d => { d with
    state := .ready, unformatted := false, lots := [], bands := [], raw := [], wrapped := [], formats := d.formats + 1,
    freeCycles := (d.freeCycles ++ d.bands.map (fun e => (e.1, e.2.cycles))).foldl (fun m e => kvSet (d.formats + 1) m e.1 (e.2 + 1)) [],
    blocks := (d.blocks.map (fun (e : Nat × Block) => (e.1, { e.2 with next := none, aborted := false }))).filter (fun e => decide (e.2 ≠ {})) })

/-- Without lots every capacity suffices. -/
theorem State.capacityCheck_empty (s : State) (empty : s.seed.lots = []) : s.capacityCheck = s := by
  have none_ : s.lotReserved = 0 := by simp [State.lotReserved, empty]
  simp [State.capacityCheck, none_]

theorem completes_ftlFormatDone (s : State) (inv : s.Inv) (formatting : s.seed.state = .formatting) :
    Completes (.ftlFormatDone) s fun t =>
      t.seed.state = .ready ∧ t.seed.lots = [] ∧ t.seed.bands = [] ∧ t.seed.raw = [] ∧ t.seed.formats = s.seed.formats + 1 ∧
      s.Counts t O.splitSwitches ∧ t.hbm = s.hbm := by
  obtain ⟨-, -, objs, -⟩ := inv
  let u := s.formatted
  have runs : exec (.ftlFormatDone) s = .next (u.checkpoint.bump O.splitSwitches) := by
    have done : exec (.ftlFormatDone) s = .next (u.checkpoint.capacityCheck.bump O.splitSwitches) := if_pos (by rw [formatting]; rfl)
    rw [done, State.capacityCheck_empty _ rfl]
  have keeps := u.checkpoint.bump_keeps O.splitSwitches
  have seed := keeps.kseed rfl
  refine ⟨_, runs, ?_, ?_, ?_, ?_, ?_, State.val_bump _ _ objs (by decide), keeps.khbm rfl⟩ <;> rw [seed] <;> rfl

theorem completes_seedThermOff (s : State) (ready : s.seed.state = .ready) (queue : s.rot.entries = []) (waits : s.seed.waiting = none)
    (store : s.g.store = []) (rows : s.drill.rows = []) :
    Completes (.seedThermOff) s fun t =>
      t.seed.state = .off ∧ t.seed.lots = s.seed.lots ∧ s.Raises t Sc.seedThermOff ∧ t.od = s.od ∧ t.hbm = s.hbm := by
  have runs : exec (.seedThermOff) s = .next ((s.setSeed (fun d => { d with state := .off, coolSince := none })).raise Sc.seedThermOff) := by
    simp [exec, execSeedThermOff, State.seedOffOp, ready, queue, State.each, State.rotHeld, State.lotDrop, waits, State.seedOffFails, State.setSeed,
      store, rows]
  exact ⟨_, runs, rfl, rfl, rfl, rfl, rfl⟩

theorem completes_seedThermReturn (s : State) (m : Nat) (cool : s.seed.coolSince = some m) (off : s.seed.state = .off) (runs : s.hl.running = true)
    (formatted : s.seed.unformatted = false) (hardware : bit (s.val O.splitFtl) 0 = false) :
    Completes (.seedThermReturn) s fun t =>
      t.seed.state = .replaying ∧ t.seed.lots = s.seed.lots ∧ t.now = max s.now (m + 10000000000) ∧ t.od = s.od := by
  have returns : exec (.seedThermReturn) s =
      .next ((s.until_ (m + 10000000000)).setSeed (fun d => { d with state := .replaying, coolSince := none })) := by
    change execSeedThermReturn s = _
    rw [execSeedThermReturn, cool, off, runs]
    simp only [beq_self_eq_true, Bool.and_self, if_true, State.seedStart]
    rw [show (s.until_ (m + 10000000000)).val O.splitFtl = s.val O.splitFtl from rfl, hardware]
    simp only [Bool.false_eq_true, if_false, State.setSeed, State.until_, formatted]
  exact ⟨_, returns, rfl, rfl, rfl, rfl⟩

/-- Settles O33: bands are read, moved and retired, dies fail, and a format, the thermal limit and the return from it change the controller's state. -/
theorem seedbankUpkeepCompletes : Obligations.SeedbankUpkeepCompletes :=
  ⟨completes_scrub, completes_bandRefresh, completes_wearMove, completes_programFailRetire, completes_seedDieFailed, completes_ftlFormatDone,
    completes_seedThermOff, completes_seedThermReturn⟩

end Sys2Proof.Machine
end

section
namespace Sys2Proof.Machine

set_option Elab.async false

/-! ### A reap that is ordered while a cancel waits (R716)

CANCEL of a SOWN entry that has to wait keeps the entry SOWN. GO_REAP of such an entry is refused. -/

/-- A SOWN entry whose cancel waits. -/
def cancelWaiting : RotEntry := 
  { ticket := 1, raw := [], lot := 0, flags := 0, gen := 0, sownStake := 0, reapedStake := 0, doneStake := 0, doneValue := 0, trainLimit := 0
    state := .sown, want := 3 }

/-- Rotation runs, and the cancel of its only entry waits. -/
def cancelWaits : State :=
  { State.reset with
    hl := { State.reset.hl with running := true }
    pwr := { State.reset.pwr with mode := .up, perst := false }
    seed := { State.reset.seed with state := .ready }
    rot := { State.reset.rot with entries := [cancelWaiting], quarantined := false } }

theorem goReap_state : leaves (.goReap 1) cancelWaits (fun t => t.rot.entries.map (·.state)) = some [.sown] := by
  decide +kernel

/-- Refutes O34: in the state `cancelWaits` GO_REAP leaves the entry SOWN. -/
theorem not_seedDescriptorsAndReapsComplete : ¬ Obligations.SeedDescriptorsAndReapsComplete := by
  rintro ⟨-, -, -, -, -, goReap, -⟩
  obtain ⟨t, runs, entries, -⟩ :=
    goReap cancelWaits 1 cancelWaiting (by decide +kernel) rfl rfl (by decide +kernel) (by decide +kernel) rfl (by decide +kernel) rfl rfl
      (by decide +kernel) rfl rfl
  have other := goReap_state
  rw [leaves_of_next _ runs, entries] at other
  exact absurd other (by decide)

end Sys2Proof.Machine
end

section
namespace Sys2Proof.Machine

set_option Elab.async false

/-! ### An unspecified fatal source whose CFG holds no class (R741, R745)

The class of a source in force is read from its CFG, that of a source of fixed class as well. Nothing in the statement keeps the CFG of an unspecified
fatal source at its class, and a source of class 0 is no fatal one. -/

/-- The package is fenced, the Gate's high level stands unexplained, and CFG of its unspecified fatal source is 0. -/
def classlessFatal : State :=
  ({ State.reset with fc := { State.reset.fc with fatalSeen := [(16, 0)], packageFenced := true } } : State).setVal ((0x7100 + Sc.gateFatalUnspec) * 256 + 6) 0

theorem classlessFatal_inv : classlessFatal.Inv :=
  ⟨rfl, rfl, by unfold Rises; decide +kernel, rfl, rfl, rfl, ⟨rfl, fun _ listed => absurd listed List.not_mem_nil⟩, rfl, rfl, rfl, rfl, rfl, rfl⟩

theorem fatalUnspec_seen : leaves (.fatalUnspec 16) classlessFatal (fun t => t.fc.fatalSeen) = some [(16, 0)] := by
  decide +kernel

/-- Refutes O36: in the state `classlessFatal` FATAL_UNSPEC leaves the high level unexplained. -/
theorem not_eventsRegister : ¬ Obligations.EventsRegister := by
  rintro ⟨-, -, -, -, -, unspecified, -⟩
  obtain ⟨t, runs, -, seen, -⟩ :=
    unspecified classlessFatal 16 0 Sc.gateFatalUnspec classlessFatal_inv rfl rfl rfl rfl (fun low => absurd low (by decide))
      (fun high => absurd high (by decide)) (by decide +kernel)
  have other := fatalUnspec_seen
  rw [leaves_of_next _ runs, seen] at other
  exact absurd other (by decide)

end Sys2Proof.Machine
end

section
namespace Sys2Proof.Machine

/-! ### A posted write that leaves at once, whatever its leaving does (R278, R297) -/

/-- A message whose leaving does nothing to the host's side but join the wire. -/
def Tlp.JoinsWire (t : Tlp) : Prop := ∀ s : State, (s.left t).host = { s.host with wire := s.host.wire ++ [t] }

/-- A posted credit is taken. -/
def State.payPosted (s : State) : State := { s with host := { s.host with pCredit := s.host.pCredit - 1 } }

theorem leavePass_leaves (s : State) (t : Tlp) (free : s.stays t false false false = false) (posted : t.kind.posted = true)
    (request : t.kind.cpl = false) : leavePass s [t] false false false = (s.payPosted.left t, []) := by
  rw [leavePass_cons, free, if_neg (by decide)]
  unfold State.takeCredit
  rw [request, if_neg (by decide), if_pos posted]
  rfl

theorem State.clear_empty (s : State) (queue : s.host.queue = []) (blocked : s.host.blocked = []) :
    { s with host := { s.host with queue := [], blocked := [] } } = s := by
  have host : { s.host with queue := [], blocked := [] } = s.host := by
    rw [← queue]
    exact congrArg (fun b => { s.host with blocked := b }) (queue.trans blocked.symm)
  rw [host]

theorem State.drain_leaves (s : State) (t : Tlp) (queue : s.host.queue = [t]) (none_ : s.host.blocked = [])
    (free : State.stays { s with host := { s.host with queue := [] } } t false false false = false) (posted : t.kind.posted = true)
    (request : t.kind.cpl = false) (joins : t.JoinsWire) :
    s.drain = (State.payPosted { s with host := { s.host with queue := [] } }).left t := by
  let u := State.payPosted { s with host := { s.host with queue := [] } }
  have host : (u.left t).host = { u.host with wire := u.host.wire ++ [t] } := joins u
  have empty : (u.left t).host.queue = [] := by rw [host]; rfl
  have none_' : (u.left t).host.blocked = [] := by rw [host]; exact none_
  have step : s.drainStep = u.left t := by
    rw [State.drainStep, queue, leavePass_leaves _ t free posted request]
    change (let a := admitBlocked _ [] (u.left t).host.blocked
            ({ u.left t with host := { (u.left t).host with queue := a.1, blocked := a.2 } } : State)) = u.left t
    rw [none_']
    exact State.clear_empty _ empty none_'
  rw [State.drain_eq, step, none_', empty]
  rfl

/-- A write of the Z20 that leaves at once takes a posted credit and leaves. -/
theorem State.post_leaves_now (s : State) (t : Tlp) (now : s.WritesNow) (posted : t.kind.posted = true) (request : t.kind.cpl = false)
    (gated : t.kind.free = false) (typed : s.addrType t = t) (joins : t.JoinsWire) : s.post t = s.payPosted.left t := by
  obtain ⟨⟨up, l0, queue, blocked, credit, noFlr⟩, bme, d0, thawed⟩ := now
  have room : s.postedHeld = 0 := by simp [State.postedHeld, queue]
  let u : State := { s with host := { s.host with queue := [t] } }
  have posts : s.post t = u.drain := by
    rw [State.post, thawed, noFlr, room, blocked, queue, typed]
    rfl
  have free : State.stays { u with host := { u.host with queue := [] } } t false false false = false := by
    have gate : State.mayRequest { u with host := { u.host with queue := [] } } = true := by
      have bme : bit (s.cfgv 0x004) 2 = true := bme
      simp [State.mayRequest, u, up, l0, d0, State.bme, State.cfgv, thawed, noFlr]
      exact bme
    simp only [State.stays, gated, request, posted, gate, u]
    simp
    omega
  rw [posts, State.drain_leaves u t rfl blocked free posted request joins]
  simp only [u, State.payPosted, ← queue]

/-! ### The record writer (R755, R757) -/

/-- A record that is not fatal enters the empty internal queue. -/
structure Entered (s : State) (r : Record) (t : State) : Prop where
  queue : t.fc.queue.map (fun x => (x.source, x.cls, x.seq)) = [(r.source, r.cls, some s.fc.seq)]
  seq : t.fc.seq = (s.fc.seq + 1) % 2 ^ 31
  staging : t.fc.staging = s.fc.staging
  now : t.now = s.now
  counts : s.Counts t O.records7000

theorem State.enterQueue_enters (s : State) (r : Record) (objs : Rises s.od) (empty : s.fc.queue = []) (plain : (r.cls == .fatal) = false) :
    Entered s r (s.enterQueue r) := by
  unfold State.enterQueue
  extract_lets n _ _ _ armed _ _ x q r' first u _ v
  rw [if_neg (by simp [plain]), if_neg (by simp [State.plainQueued, empty])]
  have fc : v.fc.queue = [r'] ∧ v.fc.seq = (s.fc.seq + 1) % 2 ^ 31 ∧ v.fc.staging = s.fc.staging ∧ v.now = s.now ∧ v.od = s.od := by
    unfold v
    exact ⟨by simp [u, State.setSrc, empty], rfl, rfl, rfl, rfl⟩
  have entry : (r'.source, r'.cls, r'.seq) = (r.source, r.cls, some s.fc.seq) := rfl
  clear_value v r'
  obtain ⟨queue, seq, staging, now, od⟩ := fc
  let w := if v.hl.running then v.hlWork else v
  have same : w.fc = v.fc ∧ w.now = v.now ∧ w.od = v.od := by
    unfold w
    split <;> exact ⟨rfl, rfl, rfl⟩
  obtain ⟨fc', now', od'⟩ := same
  have keeps := w.bump_keeps O.records7000
  change Entered s r (w.bump O.records7000)
  refine ⟨?_, ?_, ?_, ?_, ?_⟩
  · rw [keeps.kfc rfl, fc', queue, List.map_singleton, entry]
  · rw [keeps.kfc rfl, fc', seq]
  · rw [keeps.kfc rfl, fc', staging]
  · rw [keeps.know rfl, now', now]
  · refine (w.val_bump O.records7000 (by rw [od', od]; exact objs) (by decide)).trans ?_
    rw [State.val, State.val, od', od]

theorem completes_recordWriter (s : State) (e : StagingEntry) (inv : s.Inv) (only : s.fc.staging = [e]) (none_ : s.fc.due = [])
    (empty : s.fc.queue = []) (plain : (e.r.cls == .fatal) = false) (bound : s.eligibleAt e ≤ 2 ^ 80) :
    Completes (.recordWriter) s fun t =>
      t.fc.staging = [] ∧ t.fc.queue.map (fun r => (r.source, r.cls, r.seq)) = [(e.r.source, e.r.cls, some s.fc.seq)] ∧
      t.fc.seq = (s.fc.seq + 1) % 2 ^ 31 ∧ t.now = max s.now (max ((s.now / 320 + 1) * 320) (s.eligibleAt e)) ∧ s.Counts t O.records7000 := by
  obtain ⟨-, -, objs, -⟩ := inv
  let u := s.until_ (max ((s.now / 320 + 1) * 320) (s.eligibleAt e))
  let v : State := { u with fc := u.fc.unstage [] }
  let w := if e.latch then v.setSrc e.r.source { v.src e.r.source with pending := false } else v
  have runs : exec (.recordWriter) s = .next (w.enterQueue e.r) := by
    have eligible : u.eligibleAt e ≤ u.now := by
      have now : u.now = max s.now (max ((s.now / 320 + 1) * 320) (s.eligibleAt e)) := rfl
      have same : u.eligibleAt e = s.eligibleAt e := rfl
      omega
    have first : min (2 ^ 80) (s.eligibleAt e) = s.eligibleAt e := Nat.min_eq_right bound
    change execRecordWriter s = _
    unfold execRecordWriter
    extract_lets edge first_ a l _ b i c
    rw [if_neg (by simp [only])]
    have least : first_ = s.eligibleAt e := by
      unfold first_
      rw [only]
      exact first
    have same : b = u := by
      have waits : a = u := by simp only [a, none_, List.isEmpty_nil, if_true, least, edge, u]
      simp only [b, l, waits]
      have none_' : u.fc.due = [] := none_
      rw [none_']
      exact congrArg (fun d => { u with fc := { u.fc with due := d } }) none_'.symm
    have found : b.fc.staging.find? (fun e => decide (b.eligibleAt e ≤ b.now)) = some e := by
      have only' : u.fc.staging = [e] := only
      rw [same, only']
      exact List.find?_cons_of_pos (decide_eq_true eligible)
    have index : b.fc.staging.findIdx (fun e => decide (b.eligibleAt e ≤ b.now)) = 0 := by
      have only' : u.fc.staging = [e] := only
      rw [same, only', List.findIdx_cons, decide_eq_true eligible]
      rfl
    have left : c = v := by
      have gone : u.fc.staging.eraseIdx 0 = [] := by rw [show u.fc.staging = [e] from only]; rfl
      unfold c i v
      rw [index, same, gone]
    rw [found, left]
  have kept : w.fc.staging = [] ∧ w.fc.queue = [] ∧ w.fc.seq = s.fc.seq ∧ w.now = u.now ∧ w.od = s.od := by
    unfold w
    split <;> exact ⟨rfl, empty, rfl, rfl, rfl⟩
  clear_value w
  obtain ⟨staging, queue, seq, now, od⟩ := kept
  have entered := w.enterQueue_enters e.r (by rw [od]; exact objs) queue plain
  refine ⟨_, runs, entered.staging.trans staging, ?_, ?_, entered.now.trans now, ?_⟩
  · rw [entered.queue, seq]
  · rw [entered.seq, seq]
  · refine entered.counts.trans ?_
    rw [State.val, State.val, od]

/-! ### The host ring, pops and the fatal log (R758-R767) -/

theorem joinsWire_fcBody (t : Tlp) (q : Nat) (owner : t.owner = .fcBody q) (sound : t.ep = false) : t.JoinsWire := by
  intro s
  simp only [State.left, sound, owner]
  rfl

theorem joinsWire_fcValid (t : Tlp) (q : Nat) (owner : t.owner = .fcValid q) (sound : t.ep = false) : t.JoinsWire := by
  intro s
  simp only [State.left, sound, owner]
  split
  · exact (State.bump_keeps _ _).khost rfl
  · rfl

/-- The VALID word of the only record leaves: the record leaves the queue and is counted. -/
theorem State.left_valid (s : State) (t : Tlp) (r : Record) (q : Nat) (owner : t.owner = .fcValid q) (sound : t.ep = false)
    (only : s.fc.queue = [r]) (number : r.seq = some q) :
    ∃ v : State, s.left t = v.bump O.ringRecords ∧ v.fc.queue = [] ∧ v.fc.tail = s.fc.tail ∧ v.od = s.od ∧ v.hbm = s.hbm := by
  have found : s.fc.queue.find? (fun x => x.seq == some q) = some r := by simp [only, number]
  have gone : s.fc.queue.filter (fun x => x.seq != some q) = [] := by simp [only, number]
  unfold State.left
  simp only [sound, owner, Bool.false_and, Bool.false_eq_true, if_false, found]
  exact ⟨_, rfl, gone, rfl, rfl, rfl⟩

theorem completes_hostRingWrite (s : State) (r : Record) (q : Nat) (inv : s.Inv) (now : s.WritesNow) (credits : 2 ≤ s.host.pCredit)
    (up : s.gcoreUp = true) (on : s.fc.ringEnable = true) (room : s.fcRingFull = false) (only : s.fc.queue = [r]) (number : r.seq = some q)
    (none_ : s.fc.inFlight = []) :
    Completes (.hostRingWrite) s fun t =>
      t.host.wire = s.host.wire ++ [{ kind := .memWrite, addr := s.rg Rg.fcRingBase / 4096 * 4096 + s.fc.tail % 2 ^ s.fcRingLog2 * 32, data := (recordLayout r).take 28, len := 28, owner := .fcBody q }, { kind := .memWrite, addr := s.rg Rg.fcRingBase / 4096 * 4096 + s.fc.tail % 2 ^ s.fcRingLog2 * 32 + 28, data := (recordLayout r).drop 28, len := 4, owner := .fcValid q }] ∧
      t.fc.queue = [] ∧ t.fc.tail = (s.fc.tail + 1) % 2 ^ 32 ∧ s.Counts t O.ringRecords ∧ t.hbm = s.hbm := by
  obtain ⟨-, -, objs, -⟩ := inv
  let a := s.rg Rg.fcRingBase / 4096 * 4096 + s.fc.tail % 2 ^ s.fcRingLog2 * 32
  let body : Tlp := { kind := .memWrite, addr := a, data := (recordLayout r).take 28, len := 28, owner := .fcBody q }
  let word : Tlp := { kind := .memWrite, addr := a + 28, data := (recordLayout r).drop 28, len := 4, owner := .fcValid q }
  let u : State := { s with fc := { s.fc with queue := [r], inFlight := [q], tail := (s.fc.tail + 1) % 2 ^ 32 } }
  obtain ⟨⟨linkUp, l0, queue, blocked, credit, noFlr⟩, bme, d0, thawed⟩ := id now
  have runs : exec (.hostRingWrite) s = .next ((u.post body).post word) := by
    have held : s.postedHeld = 0 := by simp [State.postedHeld, queue]
    have ready : ¬ (!s.fc.ringEnable || s.fcRingFull || !s.bme || s.host.frozen || s.host.inFlr || !s.gcoreUp || !(s.host.power == .d0) || !s.link.up
        || decide (511 ≤ s.postedHeld) || !s.host.blocked.isEmpty) = true := by
      simp [on, room, bme, thawed, noFlr, up, d0, linkUp, held, blocked]
    change execHostRingWrite s = _
    rw [execHostRingWrite, if_neg ready]
    simp only [only, number, none_, List.find?_cons, List.contains_nil, Bool.not_false, Option.getD_some]
    rfl
  have first : u.post body = u.payPosted.left body :=
    u.post_leaves_now body now rfl rfl rfl rfl (joinsWire_fcBody body q rfl rfl)
  let v := u.payPosted.left body
  have v_eq : v = { u.payPosted with host := { u.payPosted.host with wire := s.host.wire ++ [body] } } := rfl
  have now' : v.WritesNow := by
    rw [v_eq]
    exact ⟨⟨linkUp, l0, queue, blocked, by change 0 < s.host.pCredit - 1; omega, noFlr⟩, bme, d0, thawed⟩
  have second : v.post word = v.payPosted.left word :=
    v.post_leaves_now word now' rfl rfl rfl rfl (joinsWire_fcValid word q rfl rfl)
  obtain ⟨w, leaves_, queue', tail, od, hbm⟩ := v.payPosted.left_valid word r q rfl rfl (by rw [v_eq]; rfl) number
  have keeps := w.bump_keeps O.ringRecords
  refine ⟨_, runs, ?_⟩
  rw [first, second]
  refine ⟨?_, ?_, ?_, ?_, ?_⟩
  · rw [joinsWire_fcValid word q rfl rfl]
    change (v.host.wire ++ [word]) = _
    rw [v_eq]
    simp [body, word, a]
  · rw [leaves_, keeps.kfc rfl, queue']
  · rw [leaves_, keeps.kfc rfl, tail, v_eq]
    rfl
  · rw [leaves_]
    refine (w.val_bump O.ringRecords (by rw [od, v_eq]; exact objs) (by decide)).trans ?_
    rw [State.val, State.val, od, v_eq]
    rfl
  · rw [leaves_, keeps.khbm rfl, hbm, v_eq]
    rfl

theorem completes_fcRingHeadWrite (s : State) (v : Word32) (rid : Half)
    (behind : (v.toNat + 2 ^ 32 - s.fc.head) % 2 ^ 32 ≤ (s.fc.tail + 2 ^ 32 - s.fc.head) % 2 ^ 32) :
    Completes (.fcRingHeadWrite v rid) s fun t => t = { s with fc := { s.fc with head := v.toNat } } := by
  have small : v.toNat % 2 ^ 32 = v.toNat := Nat.mod_eq_of_lt v.isLt
  refine ⟨_, congrArg Host.Outcome.next (if_neg (Nat.not_lt.2 behind)), ?_⟩
  rw [small]

theorem completes_fcRingEnable_on (s : State) (v : Word32) (rid : Half) (on : bit v.toNat 0 = true) (off : s.fc.ringEnable = false)
    (least : 4 ≤ s.fcRingLog2) (most : s.fcRingLog2 ≤ 16) :
    Completes (.fcRingEnable v rid) s fun t => t = { s with fc := { s.fc with ringEnable := true, head := 0, tail := 0 } } := by
  have writes : s.writeFcCtrl v.toNat rid = { s with fc := { s.fc with ringEnable := true, head := 0, tail := 0 } } := by
    simp [State.writeFcCtrl, on, off, Nat.not_lt.2 least, Nat.not_lt.2 most]
  exact ⟨_, congrArg Host.Outcome.next writes, rfl⟩

theorem completes_fcRingEnable_off (s : State) (v : Word32) (rid : Half) (off : bit v.toNat 0 = false) :
    Completes (.fcRingEnable v rid) s fun t => t = { s with fc := { s.fc with ringEnable := false } } :=
  ⟨_, congrArg Host.Outcome.next (if_pos (by rw [off]; decide)), rfl⟩

theorem State.popQueue_pops (s : State) (r : Record) (rs : List Record) (head : s.fc.queue = r :: rs) :
    s.popQueue = { s with fc := { s.fc with queue := rs, queueArmed := s.fc.queueArmed || !(r.cls == .fatal), popped := s.fc.popped ++ [r] } } := by
  rw [State.popQueue, head]

theorem completes_fcPop (s : State) (v : Word) (rid : Half) (r : Record) (rs : List Record) (head : s.fc.queue = r :: rs)
    (off : s.fc.ringEnable = false) (number : r.seq = some (v.toNat % 2 ^ 31)) :
    Completes (.fcPop v rid) s fun t =>
      t = { s with fc := { s.fc with queue := rs, queueArmed := s.fc.queueArmed || !(r.cls == .fatal), popped := s.fc.popped ++ [r] } } := by
  have pops : s.writeFcPop v.toNat rid = s.popQueue := by
    rw [State.writeFcPop, head]
    exact if_pos (by rw [off, number]; simp)
  exact ⟨_, congrArg Host.Outcome.next pops, s.popQueue_pops r rs head⟩

theorem completes_recordNext (s : State) (r : Route) (x : Record) (rs : List Record) (running : s.hl.running = true) (route : r = .F ∨ r = .H)
    (head : s.fc.queue = x :: rs) (off : s.fc.ringEnable = false) :
    Completes (.recordNext r) s fun t =>
      t = { s with fc := { s.fc with queue := rs, queueArmed := s.fc.queueArmed || !(x.cls == .fatal), popped := s.fc.popped ++ [x] } } := by
  have pops : exec (.recordNext r) s = .next s.popQueue := by
    have reads : s.recordNextOp.1 = s.popQueue := by
      rw [State.recordNextOp, off, head]
      rfl
    rw [← reads]
    exact if_neg (by rcases route with rfl | rfl <;> simp [running])
  exact ⟨_, pops, s.popQueue_pops x rs head⟩

theorem completes_fatalLogWrite (s : State) (r : Record) (rs : List Record) (running : s.hl.running = true) (pending : s.fc.fatalPending = r :: rs) :
    Completes (.fatalLogWrite) s fun t =>
      t.fc = { s.fc with fatalLog := (r :: s.fc.fatalLog).take 16, fatalPending := rs } ∧ t.bank.log = (r :: s.fc.fatalLog).take 16 ∧ t.od = s.od ∧
      t.hbm = s.hbm := by
  let log := (r :: s.fc.fatalLog).take 16
  have runs : exec (.fatalLogWrite) s =
      .next (({ s with fc := { s.fc with fatalLog := log, fatalPending := rs } } : State).setBank (fun b => { b with log := log })) := by
    change execFatalLogWrite s = _
    rw [execFatalLogWrite, running, pending]
    rfl
  refine ⟨_, runs, rfl, ?_, rfl, rfl⟩
  simp only [State.setBank, State.bank]
  split <;> rfl

/-! ### CFG of a source (R745, R781) -/

theorem State.setSrcCfg_stores (s : State) (n v : Nat) (ok : s.srcCfgOk n (v % 2 ^ 48) = true) :
    s.setSrcCfg n v = (s.setVal ((0x7100 + n) * 256 + 6) (v % 2 ^ 48), true) := if_pos ok

/-- A reserved source has no CFG that may be written. -/
theorem State.srcInfo_of_srcCfgOk (s : State) (n v : Nat) (ok : s.srcCfgOk n v = true) : (srcInfo n).isNone = false := by
  cases info : srcInfo n with
  | none => rw [State.srcCfgOk, info] at ok; exact absurd ok Bool.false_ne_true
  | some i => rfl

theorem State.setVal_srcCfg (s : State) (n v : Nat) (inv : s.Inv) :
    (s.setVal ((0x7100 + n) * 256 + 6) v).srcCfg n = v ∧ (s.setVal ((0x7100 + n) * 256 + 6) v).fc = s.fc ∧
    (s.setVal ((0x7100 + n) * 256 + 6) v).reg = s.reg ∧ (s.setVal ((0x7100 + n) * 256 + 6) v).hbm = s.hbm := by
  obtain ⟨-, -, objs, -⟩ := inv
  have keeps := s.setVal_keeps ((0x7100 + n) * 256 + 6) v
  exact ⟨s.val_setVal_same _ _ objs, keeps.kfc rfl, keeps.kreg rfl, keeps.khbm rfl⟩

theorem completes_fcSrcCfgWrite (s : State) (n : Fin 2048) (v : Word) (rid : Half) (inv : s.Inv) (ok : s.srcCfgOk n (v.toNat % 2 ^ 48) = true) :
    Completes (.fcSrcCfgWrite n v none rid) s fun t => t.srcCfg n = v.toNat % 2 ^ 48 ∧ t.fc = s.fc ∧ t.reg = s.reg ∧ t.hbm = s.hbm := by
  have writes : s.writeSrcCfg n v.toNat rid = s.setVal ((0x7100 + n) * 256 + 6) (v.toNat % 2 ^ 48) := by
    rw [State.writeSrcCfg, State.srcInfo_of_srcCfgOk s n _ ok, State.setSrcCfg_stores s n _ ok]
    rfl
  exact ⟨_, congrArg Host.Outcome.next writes, s.setVal_srcCfg n _ inv⟩

theorem completes_fcSrcCfgWrite_route (s : State) (n : Fin 2048) (v : Word) (r : Route) (rid : Half) (inv : s.Inv)
    (ok : s.srcCfgOk n (v.toNat % 2 ^ 48) = true) (served : s.served r ((0x7100 + n) * 256 + 6) = true) :
    Completes (.fcSrcCfgWrite n v (some r) rid) s fun t =>
      t.srcCfg n = v.toNat % 2 ^ 48 ∧ t.fc = s.fc ∧ t.reg = s.reg ∧ t.hbm = s.hbm := by
  have writes : (if s.served r ((0x7100 + n) * 256 + 6) then (s.odSrcCfg n v.toNat).1 else s) =
      s.setVal ((0x7100 + n) * 256 + 6) (v.toNat % 2 ^ 48) := by
    rw [served, State.odSrcCfg, State.srcInfo_of_srcCfgOk s n _ ok, State.setSrcCfg_stores s n _ ok]
    rfl
  exact ⟨_, congrArg Host.Outcome.next writes, s.setVal_srcCfg n _ inv⟩

/-- Settles O37: records go from staging to the internal queue, from there to the host, and the fatal ones to the log. -/
theorem recordsComplete : Obligations.RecordsComplete :=
  ⟨completes_recordWriter, completes_hostRingWrite, completes_fcRingHeadWrite, completes_fcRingEnable_on, completes_fcRingEnable_off,
    completes_fcPop, completes_recordNext, completes_fatalLogWrite, completes_fcSrcCfgWrite, completes_fcSrcCfgWrite_route⟩

end Sys2Proof.Machine
end

section
namespace Sys2Proof.Machine

/-! ### A table that is set twice at one key -/

theorem kvPut_kvPut {α : Type} (m : List (Nat × α)) (k : Nat) (v w : α) : kvPut (kvPut m k v) k w = kvPut m k w := by
  induction m with
  | nil => simp [kvPut]
  | cons e m ih =>
    obtain ⟨a, x⟩ := e
    by_cases same : a = k
    · simp [kvPut, same]
    · by_cases below : k < a
      · simp [kvPut, same, below]
      · simp [kvPut, same, below, ih]

theorem kvErase_kvPut {α : Type} (m : List (Nat × α)) (k : Nat) (v : α) : kvErase (kvPut m k v) k = kvErase m k := by
  induction m with
  | nil => simp [kvPut, kvErase]
  | cons e m ih =>
    obtain ⟨a, x⟩ := e
    by_cases same : a = k
    · simp [kvPut, kvErase, same]
    · by_cases below : k < a
      · simp [kvPut, kvErase, same, below]
      · simp [kvPut, kvErase, same, below, ih]

/-- Before a rising table an entry of a smaller key is put in front, and none is erased. -/
theorem kvPut_above {α : Type} (m : List (Nat × α)) (k : Nat) (w : α) (rises : kvRises (k + 1) m = true) : kvPut m k w = (k, w) :: m := by
  cases m with
  | nil => rfl
  | cons e m =>
    simp only [kvRises, Bool.and_eq_true, decide_eq_true_eq] at rises
    simp [kvPut, show e.1 ≠ k by omega, show k < e.1 by omega]

theorem kvErase_above {α : Type} (m : List (Nat × α)) (k : Nat) (rises : kvRises (k + 1) m = true) : kvErase m k = m := by
  cases m with
  | nil => rfl
  | cons e m =>
    simp only [kvRises, Bool.and_eq_true, decide_eq_true_eq] at rises
    simp [kvErase, show e.1 ≠ k by omega, show k < e.1 by omega]

theorem kvPut_kvErase {α : Type} (m : List (Nat × α)) (k lo : Nat) (w : α) (rises : kvRises lo m = true) :
    kvPut (kvErase m k) k w = kvPut m k w := by
  induction m generalizing lo with
  | nil => rfl
  | cons e m ih =>
    obtain ⟨a, x⟩ := e
    simp only [kvRises, Bool.and_eq_true] at rises
    by_cases same : a = k
    · subst same
      simp [kvPut, kvErase, kvPut_above m a w rises.2]
    · by_cases below : k < a
      · simp [kvErase, same, below]
      · simp [kvPut, kvErase, same, below, ih _ rises.2]

theorem kvErase_kvErase {α : Type} (m : List (Nat × α)) (k lo : Nat) (rises : kvRises lo m = true) : kvErase (kvErase m k) k = kvErase m k := by
  induction m generalizing lo with
  | nil => rfl
  | cons e m ih =>
    obtain ⟨a, x⟩ := e
    simp only [kvRises, Bool.and_eq_true] at rises
    by_cases same : a = k
    · subst same
      simp [kvErase, kvErase_above m a rises.2]
    · by_cases below : k < a
      · simp [kvErase, same, below]
      · simp [kvErase, same, below, ih _ rises.2]

theorem kvSet_kvSet {α : Type} [DecidableEq α] (d : α) (m : List (Nat × α)) (k : Nat) (v w : α) (rises : Rises m) :
    kvSet d (kvSet d m k v) k w = kvSet d m k w := by
  unfold kvSet
  by_cases first : v = d <;> by_cases second : w = d
  · simp [first, second, kvErase_kvErase m k 0 rises]
  · simp [first, second, kvPut_kvErase m k 0 w rises]
  · simp [first, second, kvErase_kvPut]
  · simp [first, second, kvPut_kvPut]

/-! ### A command that issues (R592, R596) -/

theorem State.setPlot_setPlot (s : State) (p : Nat) (x y : Plot) (plots : Rises s.plots) : (s.setPlot p x).setPlot p y = s.setPlot p y := by
  simp only [State.setPlot, kvSet_kvSet {} s.plots p x y plots]

theorem State.plot_setPlot_same (s : State) (p : Nat) (x : Plot) (plots : Rises s.plots) : (s.setPlot p x).plot p = x := by
  rw [State.plot_setPlot s p p x plots, if_pos rfl]

/-- What a command that issues does is what its code says. -/
theorem State.issue_of_issues {s : State} {p op v : Nat} {fields : List (Nat × Nat)} (issues : s.Issues p op v fields) (f : Nat → State) :
    s.issue p op fields f = f v := by
  obtain ⟨next, code, only, -⟩ := issues
  rw [State.issue, next]
  simp [code, only]

theorem State.ended_of_nextCmd {s : State} {p v : Nat} (next : s.nextCmd p = some v) : (s.plot p).ended = none := by
  unfold State.nextCmd at next
  dsimp only at next
  split at next
  · next runs =>
    simp only [Bool.and_eq_true, Option.isNone_iff_eq_none] at runs
    exact runs.1.2
  · exact absurd next (by simp)

theorem State.ended_of_issues {s : State} {p op v : Nat} {fields : List (Nat × Nat)} (issues : s.Issues p op v fields) : (s.plot p).ended = none :=
  State.ended_of_nextCmd issues.1

/-- The plot's next command is due at `pc`. -/
def Plot.goOn (x : Plot) (pc : Nat) : Plot := { x with pc := pc, stalledStake := false, stalledFeed := false }

/-- A plot whose program has a command at `pc` goes on there. -/
theorem State.jump_goes (s : State) (p pc : Nat) (plots : Rises s.plots)
    (more : (s.plot p).prog.map (fun g => decide (pc < g.cmds.length)) = some true) : s.jump p pc = s.setPlot p ((s.plot p).goOn pc) := by
  obtain ⟨g, prog, inside⟩ := Option.map_eq_some_iff.1 more
  have prog' : ((s.setPlot p ((s.plot p).goOn pc)).plot p).prog = some g := by
    rw [State.plot_setPlot_same s p _ plots]
    exact prog
  change (match ((s.setPlot p ((s.plot p).goOn pc)).plot p).prog with
    | some g => if pc < g.cmds.length then s.setPlot p ((s.plot p).goOn pc) else State.failPlot _ p 0x203
    | none => s.setPlot p ((s.plot p).goOn pc)) = _
  rw [prog']
  exact if_pos (of_decide_eq_true inside)

theorem State.jump_setPlot (s : State) (p pc : Nat) (x : Plot) (plots : Rises s.plots) (more : x.prog.map (fun g => decide (pc < g.cmds.length)) = some true) :
    (s.setPlot p x).jump p pc = s.setPlot p (x.goOn pc) := by
  have same := s.plot_setPlot_same p x plots
  rw [State.jump_goes _ p pc (kvSet_rises _ _ _ _ plots) (by rw [same]; exact more), same, State.setPlot_setPlot s p x _ plots]

theorem State.advance_setPlot (s : State) (p : Nat) (x : Plot) (plots : Rises s.plots) (runs : x.ended = none)
    (more : x.prog.map (fun g => decide (x.pc + 1 < g.cmds.length)) = some true) :
    (s.setPlot p x).advance p = s.setPlot p (x.goOn (x.pc + 1)) := by
  unfold State.advance
  rw [State.plot_setPlot_same s p x plots, runs]
  exact s.jump_setPlot p _ x plots more

/-- The plot itself goes on where nothing of it is written. -/
theorem State.advance_issues {s : State} {p op v : Nat} {fields : List (Nat × Nat)} (plots : Rises s.plots) (issues : s.Issues p op v fields) :
    s.advance p = s.setPlot p (s.issued p) := by
  unfold State.advance
  rw [State.ended_of_issues issues]
  exact s.jump_goes p _ plots issues.2.2.2

/-- A command that writes its plot and goes on leaves the plot so written, at its next command. -/
theorem State.write_issues {s : State} {p op v : Nat} {fields : List (Nat × Nat)} (plots : Rises s.plots) (issues : s.Issues p op v fields)
    (x : Plot) (ended : x.ended = (s.plot p).ended) (pc : x.pc = (s.plot p).pc) (prog : x.prog = (s.plot p).prog) :
    (s.setPlot p x).advance p = s.setPlot p (x.goOn (x.pc + 1)) :=
  s.advance_setPlot p x plots (ended.trans (State.ended_of_issues issues)) (by rw [prog, pc]; exact issues.2.2.2)

/-! ### The control commands (R591, R594, R597) -/

theorem completes_nop (s : State) (p : Fin 16) (v : Nat) (inv : s.Inv) (issues : s.Issues p 0x00 v []) :
    Completes (.nop p) s fun t => t = s.setPlot p (s.issued p) := by
  obtain ⟨-, -, -, -, -, -, ⟨plots, -⟩, -⟩ := inv
  exact ⟨_, congrArg Host.Outcome.next (State.issue_of_issues issues _), State.advance_issues plots issues⟩

theorem completes_plotLoop (s : State) (p : Fin 16) (v : Nat) (inv : s.Inv) (issues : s.Issues p 0x02 v [(31, 16)]) (some_ : fld v 31 16 ≠ 0)
    (room : (s.plot p).loops.length < 4) :
    Completes (.plotLoop p) s fun t =>
      t = s.setPlot p { s.issued p with loops := ((s.plot p).pc + 1, fld v 31 16) :: (s.plot p).loops } := by
  obtain ⟨-, -, -, -, -, -, ⟨plots, -⟩, -⟩ := inv
  refine ⟨_, congrArg Host.Outcome.next (State.issue_of_issues issues _), ?_⟩
  dsimp only
  rw [if_neg some_, if_neg (Nat.not_le.2 room)]
  exact State.write_issues plots issues _ rfl rfl rfl

theorem completes_endloop_last (s : State) (p : Fin 16) (v a n : Nat) (l : List (Nat × Nat)) (inv : s.Inv) (issues : s.Issues p 0x03 v [])
    (open_ : (s.plot p).loops = (a, n) :: l) (last : n ≤ 1) :
    Completes (.endloop p) s fun t => t = s.setPlot p { s.issued p with loops := l } := by
  obtain ⟨-, -, -, -, -, -, ⟨plots, -⟩, -⟩ := inv
  refine ⟨_, congrArg Host.Outcome.next (State.issue_of_issues issues _), ?_⟩
  dsimp only
  simp only [open_, if_neg (Nat.not_lt.2 last)]
  exact State.write_issues plots issues _ rfl rfl rfl

theorem completes_endloop_again (s : State) (p : Fin 16) (v a n : Nat) (l : List (Nat × Nat)) (inv : s.Inv) (issues : s.Issues p 0x03 v [])
    (open_ : (s.plot p).loops = (a, n) :: l) (more : 1 < n) (back : a ≤ (s.plot p).pc) :
    Completes (.endloop p) s fun t => t = s.setPlot p { s.issued p with loops := (a, n - 1) :: l, pc := a } := by
  obtain ⟨-, -, -, -, -, -, ⟨plots, -⟩, -⟩ := inv
  obtain ⟨g, prog, inside⟩ := Option.map_eq_some_iff.1 issues.2.2.2
  refine ⟨_, congrArg Host.Outcome.next (State.issue_of_issues issues _), ?_⟩
  dsimp only
  simp only [open_, if_pos more]
  refine s.jump_setPlot p a { s.plot p with loops := (a, n - 1) :: l } plots ?_
  rw [prog, Option.map_some, decide_eq_true (Nat.lt_of_le_of_lt (back.trans (Nat.le_succ _)) (of_decide_eq_true inside))]

/-- An index register other than I[0] is written. -/
theorem State.setIdx_sets (s : State) (p k v : Nat) (some_ : k ≠ 0) :
    s.setIdx p k v = s.setPlot p { s.plot p with idx := kvSet 0 (s.plot p).idx k (v % 2 ^ 64) } := if_neg some_

theorem fld_lt (v hi lo : Nat) : fld v hi lo < 2 ^ (hi + 1 - lo) := Nat.mod_lt _ (Nat.two_pow_pos _)

theorem completes_seti (s : State) (p : Fin 16) (v : Nat) (inv : s.Inv) (issues : s.Issues p 0x04 v [(15, 12), (127, 64)]) (some_ : fld v 15 12 ≠ 0) :
    Completes (.seti p) s fun t => t = s.setPlot p { s.issued p with idx := kvSet 0 (s.plot p).idx (fld v 15 12) (fld v 127 64) } := by
  obtain ⟨-, -, -, -, -, -, ⟨plots, -⟩, -⟩ := inv
  refine ⟨_, congrArg Host.Outcome.next (State.issue_of_issues issues _), ?_⟩
  dsimp only
  rw [s.setIdx_sets p _ _ some_, Nat.mod_eq_of_lt (fld_lt v 127 64)]
  exact State.write_issues plots issues _ rfl rfl rfl

theorem completes_addi (s : State) (p : Fin 16) (v : Nat) (inv : s.Inv) (issues : s.Issues p 0x05 v [(15, 12), (19, 16), (127, 64)])
    (some_ : fld v 15 12 ≠ 0) :
    Completes (.addi p) s fun t =>
      t = s.setPlot p { s.issued p with idx := kvSet 0 (s.plot p).idx (fld v 15 12) ((s.idx p (fld v 19 16) + fld v 127 64) % 2 ^ 64) } := by
  obtain ⟨-, -, -, -, -, -, ⟨plots, -⟩, -⟩ := inv
  refine ⟨_, congrArg Host.Outcome.next (State.issue_of_issues issues _), ?_⟩
  dsimp only
  rw [s.setIdx_sets p _ _ some_]
  exact State.write_issues plots issues _ rfl rfl rfl

theorem leNat_lt (bs : List Byte) : leNat bs < 2 ^ (8 * bs.length) := by
  induction bs with
  | nil => exact Nat.one_pos
  | cons b bs ih =>
    have byte : b.toNat < 2 ^ 8 := b.isLt
    rw [leNat, List.length_cons, Nat.mul_succ, Nat.pow_add]
    omega

theorem length_memRead (m : List Host.Cell) (a n : Nat) : (memRead m a n).length = n := by
  induction n generalizing a with
  | zero => rfl
  | succ n ih => rw [memRead, List.length_cons, ih]

theorem completes_ldi (s : State) (p : Fin 16) (v : Nat) (inv : s.Inv) (issues : s.Issues p 0x06 v [(15, 12), (63, 32)]) (some_ : fld v 15 12 ≠ 0)
    (aligned : s.tref p v 32 % 8 = 0) (inside : s.tref p v 32 + 8 ≤ s.dataTop p) :
    Completes (.ldi p) s fun t =>
      t = s.setPlot p { s.issued p with idx := kvSet 0 (s.plot p).idx (fld v 15 12) (leNat (memRead (s.plot p).tilth (s.tref p v 32) 8)) } := by
  obtain ⟨-, -, -, -, -, -, ⟨plots, -⟩, -⟩ := inv
  have word : leNat (memRead (s.plot p).tilth (s.tref p v 32) 8) < 2 ^ 64 := (leNat_lt _).trans_eq (by rw [length_memRead])
  refine ⟨_, congrArg Host.Outcome.next (State.issue_of_issues issues _), ?_⟩
  dsimp only
  rw [if_neg (by simp [aligned]), if_neg (Nat.not_lt.2 inside)]
  generalize leNat (memRead (s.plot p).tilth (s.tref p v 32) 8) = w at word ⊢
  rw [s.setIdx_sets p _ _ some_, Nat.mod_eq_of_lt word]
  exact State.write_issues plots issues _ rfl rfl rfl

theorem completes_fence (s : State) (p : Fin 16) (v : Nat) (inv : s.Inv) (issues : s.Issues p 0x07 v []) (quiet : s.signalsOut p = false) :
    Completes (.fence p) s fun t => t = s.setPlot p (s.issued p) := by
  obtain ⟨-, -, -, -, -, -, ⟨plots, -⟩, -⟩ := inv
  refine ⟨_, congrArg Host.Outcome.next (State.issue_of_issues issues _), ?_⟩
  dsimp only
  rw [quiet, if_neg Bool.false_ne_true]
  exact State.advance_issues plots issues

theorem completes_markHalf (s : State) (p : Fin 16) (v : Nat) (inv : s.Inv) (issues : s.Issues p 0x08 v []) (quiet : s.signalsOut p = false) :
    Completes (.markHalf p) s fun t =>
      t = (s.modSlot (s.plot p).furrow (s.plot p).seq (fun y => { y with halfMask := y.halfMask ||| 2 ^ p.val })).setPlot p
        { s.issued p with halfDone := true } := by
  obtain ⟨-, -, -, -, -, -, ⟨plots, -⟩, -⟩ := inv
  let u := s.modSlot (s.plot p).furrow (s.plot p).seq (fun y => { y with halfMask := y.halfMask ||| 2 ^ p.val })
  refine ⟨_, congrArg Host.Outcome.next (State.issue_of_issues issues _), ?_⟩
  dsimp only
  rw [quiet, if_neg Bool.false_ne_true]
  exact u.advance_setPlot p { s.plot p with halfDone := true } plots (State.ended_of_issues issues) issues.2.2.2

/-- Settles O39: the control commands write what they name of their plot and go on. -/
theorem plotControlCompletes : Obligations.PlotControlCompletes :=
  ⟨completes_nop, completes_plotLoop, completes_endloop_last, completes_endloop_again, completes_seti, completes_addi, completes_ldi, completes_fence,
    completes_markHalf⟩

end Sys2Proof.Machine
end

section
namespace Sys2Proof.Machine

set_option Elab.async false

/-! ### A NOP whose stamp or record address failed to translate (R345, R359)

A descriptor that keeps such a failure completes with it, whatever it asks for, and its failure is counted. -/

/-- A SOWN NOP that keeps a failure of its tail. -/
def failedTail : Slot := { furrow := 0, seq := 0, d := {}, state := .sown, tailFail := some (0x21, 0) }

/-- Furrow 0 is ENABLED, and the NOP is its only descriptor. -/
def nopFails : State :=
  { State.reset with g := { State.reset.g with furrows := [(0, { state := .enabled })], store := [failedTail] } }

theorem nopFails_inv : nopFails.Inv :=
  ⟨rfl, rfl, rfl, rfl, rfl, rfl, ⟨rfl, fun _ listed => absurd listed List.not_mem_nil⟩, rfl, rfl, rfl, rfl, rfl, rfl⟩

theorem nopFails_counts : leaves (.descriptorStart 0) nopFails (fun t => t.od == nopFails.od) = some false := by
  decide +kernel

/-- Refutes O40: in the state `nopFails` DESCRIPTOR_START of the NOP counts a failed descriptor. -/
theorem not_programsStartAndEnd : ¬ Obligations.ProgramsStartAndEnd := by
  rintro ⟨start, -⟩
  obtain ⟨t, runs, -, -, od⟩ :=
    start nopFails 0 failedTail (by decide +kernel) rfl rfl rfl rfl rfl rfl rfl rfl ⟨rfl, by decide +kernel⟩ nopFails_inv
  have other := nopFails_counts
  rw [leaves_of_next _ runs, od] at other
  exact absurd other (by decide +kernel)

end Sys2Proof.Machine
end

section
namespace Sys2Proof.Machine

/-! ### Stakes without waits (R387, R402) -/

theorem State.compareWaits_unmet (s : State) (k : Nat) (unmet : ∀ w ∈ s.g.waits, w.stake = k → condMet w.equal (s.stake k) w.value = false) :
    s.compareWaits k = s := by
  have none_ : s.g.waits.filter (fun w => w.stake == k && condMet w.equal (s.stake k) w.value) = [] := by
    refine List.filter_eq_nil_iff.2 fun w listed met => ?_
    simp only [Bool.and_eq_true, beq_iff_eq] at met
    rw [unmet w listed met.1] at met
    exact absurd met.2 Bool.false_ne_true
  unfold State.compareWaits
  extract_lets v met
  have none_' : met = [] := none_
  rw [none_']
  rfl

/-- The stake is set and the operation counted. -/
theorem State.putStake_quiet (s : State) (k v : Nat) (none_ : s.g.waits = []) :
    s.putStake k v = { s.bump O.ops with g := { s.g with stakes := kvSet 0 s.g.stakes k v } } := by
  have g : (s.bump O.ops).g = s.g := (s.bump_keeps _).kg rfl
  unfold State.putStake
  dsimp only
  rw [State.compareWaits_unmet, g]
  intro w listed
  rw [g, none_] at listed
  exact absurd listed List.not_mem_nil

/-- What is settled stays settled where only plots, stakes and counters change. -/
theorem State.Settled.of_same {s t : State} (settled : s.Settled) (met : t.g.met = s.g.met) (furrows : t.g.furrows = s.g.furrows)
    (staging : t.g.staging = s.g.staging) : t.Settled := by
  have accepts (n : Nat) : t.toAccept n = s.toAccept n := by
    simp only [State.toAccept, State.stagedOf, State.fur, furrows, staging]
  refine ⟨met.trans settled.1, ?_⟩
  rw [State.furrowsOn, furrows]
  simp only [accepts]
  exact settled.2

/-! ### Commands of a plot on stakes (R615) -/

theorem State.plotStake_allowed (s : State) (p k : Nat) (f : State)
    (right : s.stakeOk (.program p (s.plot p).pasid (s.plot p).bypass) k = true) : s.plotStake p k f = f := if_pos right

theorem completes_sjoin (s : State) (p : Fin 16) (v : Nat) (inv : s.Inv) (issues : s.Issues p 0x11 v [(31, 16)])
    (free : (s.plot p).slots.any (fun y => bit (fld v 31 16) y.1) = false) :
    Completes (.sjoin p) s fun t => t = s.setPlot p (s.issued p) := by
  obtain ⟨-, -, -, -, -, -, ⟨plots, -⟩, -⟩ := inv
  refine ⟨_, congrArg Host.Outcome.next (State.issue_of_issues issues _), ?_⟩
  dsimp only
  rw [free, if_neg Bool.false_ne_true]
  exact State.advance_issues plots issues

theorem condMet_iff (equal : Bool) (value v : Nat) : (condMet equal value v = true) ↔ (if equal then value = v else v ≤ value) := by
  cases equal <;> simp [condMet]

theorem completes_stest (s : State) (p : Fin 16) (v : Nat) (inv : s.Inv) (issues : s.Issues p 0x12 v [(8, 8), (15, 12), (19, 16), (47, 32), (127, 64)])
    (right : s.stakeOk (.program p (s.plot p).pasid (s.plot p).bypass) (fld v 47 32) = true) (some_ : fld v 19 16 ≠ 0) :
    Completes (.stest p) s fun t =>
      t = s.setPlot p { s.issued p with idx := kvSet 0 (s.plot p).idx (fld v 19 16) (if (if bit v 8 then s.stake (fld v 47 32) = s.value p v else s.value p v ≤ s.stake (fld v 47 32)) then 1 else 0) } := by
  obtain ⟨-, -, -, -, -, -, ⟨plots, -⟩, -⟩ := inv
  refine ⟨_, congrArg Host.Outcome.next (State.issue_of_issues issues _), ?_⟩
  dsimp only
  have word : b2n (condMet (bit v 8) (s.stake (fld v 47 32)) (s.value p v)) % 2 ^ 64 =
      if (if bit v 8 then s.stake (fld v 47 32) = s.value p v else s.value p v ≤ s.stake (fld v 47 32)) then 1 else 0 := by
    have met := condMet_iff (bit v 8) (s.stake (fld v 47 32)) (s.value p v)
    cases holds : condMet (bit v 8) (s.stake (fld v 47 32)) (s.value p v) with
    | true => rw [if_pos (met.1 holds)]; rfl
    | false => rw [if_neg (fun yes => by rw [met.2 yes] at holds; exact absurd holds (by decide))]; rfl
  rw [s.plotStake_allowed _ _ _ right, s.setIdx_sets p _ _ some_, word]
  exact State.write_issues plots issues _ rfl rfl rfl

/-- A stake that is set while nothing waits, before the plot goes on. -/
def State.withStake (s : State) (k v : Nat) : State := { s.bump O.ops with g := { s.g with stakes := kvSet 0 s.g.stakes k v } }

/-- What SSIG leaves that sets stake k to x. -/
structure Signalled (s : State) (p : Fin 16) (k x : Nat) (t : State) : Prop where
  stake : t.stake k = x
  plot : t.plot p = s.issued p
  counts : s.Counts t O.ops
  hbm : t.hbm = s.hbm
  fc : t.fc = s.fc
  others : ∀ j : Fin 65536, j.val ≠ k → t.stake j = s.stake j

theorem State.ssig_signals (s : State) (p : Fin 16) (v k x : Nat) (fields : List (Nat × Nat)) (inv : s.Inv) (issues : s.Issues p 0x13 v fields)
    (settled : s.Settled) : Signalled s p k x ((s.withStake k x).advance p).settleStakes := by
  obtain ⟨-, -, objs, -, -, -, ⟨plots, -⟩, -, stakes, -⟩ := inv
  have keeps := s.bump_keeps O.ops
  have plots' : (s.withStake k x).plots = s.plots := keeps.kplots rfl
  have plot : (s.withStake k x).plot p = s.plot p := by rw [State.plot, plots']; rfl
  have goes : (s.withStake k x).advance p = (s.withStake k x).setPlot p (s.issued p) := by
    unfold State.advance
    rw [plot, State.ended_of_issues issues]
    refine ((s.withStake k x).jump_goes p _ (by rw [plots']; exact plots) (by rw [plot]; exact issues.2.2.2)).trans ?_
    rw [plot]
    rfl
  have settled' : ((s.withStake k x).setPlot p (s.issued p)).Settled := settled.of_same rfl rfl rfl
  rw [goes, State.settleStakes_none _ settled']
  refine ⟨?_, ?_, ?_, keeps.khbm rfl, keeps.kfc rfl, fun j other => ?_⟩
  · exact (kvGet_kvSet s.g.stakes k k x stakes).trans (if_pos rfl)
  · exact State.plot_setPlot_same _ p _ (by rw [plots']; exact plots)
  · exact State.val_bump s O.ops objs (by decide)
  · exact (kvGet_kvSet s.g.stakes k j x stakes).trans (if_neg other)

theorem completes_ssig_set (s : State) (p : Fin 16) (v : Nat) (inv : s.Inv) (issues : s.Issues p 0x13 v [(8, 8), (15, 12), (31, 16), (127, 64)])
    (right : s.stakeOk (.program p (s.plot p).pasid (s.plot p).bypass) (fld v 31 16) = true) (quiet : s.writesOut p = false) (settled : s.Settled)
    (none_ : s.g.waits = []) (set_ : bit v 8 = true) :
    Completes (.ssig p) s fun t =>
      t.stake (fld v 31 16) = s.value p v ∧ t.plot p = s.issued p ∧ s.Counts t O.ops ∧ t.hbm = s.hbm ∧ t.fc = s.fc ∧ (∀ j : Fin 65536,
      j.val ≠ fld v 31 16 → t.stake j = s.stake j) := by
  have word : s.value p v % 2 ^ 64 = s.value p v := Nat.mod_eq_of_lt (Nat.mod_lt _ (Nat.two_pow_pos _))
  refine ⟨_, congrArg Host.Outcome.next (State.issue_of_issues issues _), ?_⟩
  dsimp only
  generalize s.value p v = x at word
  rw [quiet, if_neg Bool.false_ne_true, s.plotStake_allowed _ _ _ right, if_pos set_, State.stakeSetOp, word, s.putStake_quiet _ _ none_]
  obtain ⟨stake, plot, counts, hbm, fc, others⟩ := s.ssig_signals p v (fld v 31 16) x _ inv issues settled
  exact ⟨stake, plot, counts, hbm, fc, others⟩

theorem completes_ssig_add (s : State) (p : Fin 16) (v : Nat) (inv : s.Inv) (issues : s.Issues p 0x13 v [(8, 8), (15, 12), (31, 16), (127, 64)])
    (right : s.stakeOk (.program p (s.plot p).pasid (s.plot p).bypass) (fld v 31 16) = true) (quiet : s.writesOut p = false) (settled : s.Settled)
    (none_ : s.g.waits = []) (add : bit v 8 = false) (small : s.stake (fld v 31 16) + s.value p v < 2 ^ 64) :
    Completes (.ssig p) s fun t =>
      t.stake (fld v 31 16) = s.stake (fld v 31 16) + s.value p v ∧ t.plot p = s.issued p ∧ s.Counts t O.ops ∧ t.hbm = s.hbm ∧ t.fc = s.fc ∧
      (∀ j : Fin 65536, j.val ≠ fld v 31 16 → t.stake j = s.stake j) := by
  have word : s.value p v % 2 ^ 64 = s.value p v := Nat.mod_eq_of_lt (Nat.mod_lt _ (Nat.two_pow_pos _))
  have sum : (s.stake (fld v 31 16) + s.value p v) % 2 ^ 64 = s.stake (fld v 31 16) + s.value p v := Nat.mod_eq_of_lt small
  refine ⟨_, congrArg Host.Outcome.next (State.issue_of_issues issues _), ?_⟩
  dsimp only
  generalize s.value p v = x at word small sum
  have adds : s.stakeAddOp (.program p (s.plot p).pasid (s.plot p).bypass) (fld v 31 16) x =
      s.withStake (fld v 31 16) (s.stake (fld v 31 16) + x) := by
    unfold State.stakeAddOp
    dsimp only
    rw [word, if_pos small, sum]
    exact s.putStake_quiet _ _ none_
  rw [quiet, if_neg Bool.false_ne_true, s.plotStake_allowed _ _ _ right, if_neg (by rw [add]; decide), adds]
  obtain ⟨stake, plot, counts, hbm, fc, others⟩ := s.ssig_signals p v (fld v 31 16) _ _ inv issues settled
  exact ⟨stake, plot, counts, hbm, fc, others⟩

/-- A wait that is not met is placed. -/
structure Placed (s : State) (k : Nat) (equal : Bool) (v : Nat) (who : Waiter) (h : Nat) (t : State) : Prop where
  waits : t.g.waits.map (fun w => (w.handle, w.stake, w.equal, w.value, w.who)) =
    s.g.waits.map (fun w => (w.handle, w.stake, w.equal, w.value, w.who)) ++ [(h, k, equal, v, who)]
  stakes : t.g.stakes = s.g.stakes
  met : t.g.met = s.g.met
  furrows : t.g.furrows = s.g.furrows
  staging : t.g.staging = s.g.staging
  store : t.g.store = s.g.store
  plots : t.plots = s.plots
  hbm : t.hbm = s.hbm

theorem State.placeWait_places (s : State) (k : Nat) (equal : Bool) (v : Nat) (who : Waiter) (h : Nat) (free : s.freeHandle who = some h)
    (unmet : condMet equal (s.stake k) v = false) (others : ∀ w ∈ s.g.waits, condMet w.equal (s.stake w.stake) w.value = false) :
    ∃ t, s.placeWait k equal v who = some t ∧ Placed s k equal v who h t := by
  unfold State.placeWait
  rw [free]
  dsimp -zeta only
  extract_lets timeout dl w _ u u'
  have g : u'.g = u.g := by
    unfold u'
    split
    · exact (u.setVal_keeps _ _).kg rfl
    · rfl
  have plots : u'.plots = u.plots := by
    unfold u'
    split
    · exact (u.setVal_keeps _ _).kplots rfl
    · rfl
  have hbm : u'.hbm = u.hbm := by
    unfold u'
    split
    · exact (u.setVal_keeps _ _).khbm rfl
    · rfl
  clear_value u'
  have still : u'.compareWaits k = u' := by
    refine u'.compareWaits_unmet k fun x listed at_ => ?_
    rw [State.stake, g]
    rw [g] at listed
    rcases List.mem_append.1 listed with old | new
    · subst at_; exact others x old
    · rw [List.mem_singleton.1 new]; exact unmet
  refine ⟨_, rfl, ?_⟩
  rw [still]
  exact ⟨by rw [g]; simp [u, w], by rw [g], by rw [g], by rw [g], by rw [g], by rw [g], plots, hbm⟩

theorem completes_swait (s : State) (p : Fin 16) (v h : Nat) (inv : s.Inv)
    (issues : s.Issues p 0x10 v [(8, 8), (15, 12), (31, 16), (35, 32), (127, 64)])
    (right : s.stakeOk (.program p (s.plot p).pasid (s.plot p).bypass) (fld v 31 16) = true)
    (room : (s.plot p).slots.any (fun y => y.1 == fld v 35 32) = false) (free : s.freeHandle (.plot p (fld v 35 32)) = some h)
    (unmet : condMet (bit v 8) (s.stake (fld v 31 16)) (s.value p v) = false) (settled : s.Settled)
    (others : ∀ w ∈ s.g.waits, condMet w.equal (s.stake w.stake) w.value = false) :
    Completes (.swait p) s fun t =>
      t.plot p = { s.issued p with slots := kvPut (s.plot p).slots (fld v 35 32) h } ∧ t.g.waits.map (fun w => (w.handle, w.stake, w.equal, w.value,
      w.who)) = s.g.waits.map (fun w => (w.handle, w.stake, w.equal, w.value, w.who)) ++ [(h, fld v 31 16, bit v 8, s.value p v,
      .plot p (fld v 35 32))] ∧ t.g.stakes = s.g.stakes ∧ t.hbm = s.hbm := by
  obtain ⟨-, -, -, -, -, -, ⟨plots, -⟩, -⟩ := inv
  have goes : (s.modPlot p (fun x => { x with slots := kvPut x.slots (fld v 35 32) h })).advance p =
      s.setPlot p { s.issued p with slots := kvPut (s.plot p).slots (fld v 35 32) h } := State.write_issues plots issues _ rfl rfl rfl
  obtain ⟨t, places, placed⟩ := State.placeWait_places (s.setPlot p { s.issued p with slots := kvPut (s.plot p).slots (fld v 35 32) h }) (fld v 31 16)
    (bit v 8) (s.value p v) (.plot p (fld v 35 32)) h free unmet others
  obtain ⟨waits, stakes, met, furrows, staging, -, plots', hbm⟩ := placed
  have settled' : t.Settled := settled.of_same met furrows staging
  refine ⟨_, congrArg Host.Outcome.next (State.issue_of_issues issues _), ?_⟩
  dsimp only
  rw [room, if_neg Bool.false_ne_true, s.plotStake_allowed _ _ _ right, free]
  dsimp only
  rw [goes, places]
  dsimp only
  rw [State.settleStakes_none _ settled']
  refine ⟨?_, waits, stakes, hbm⟩
  rw [State.plot, plots']
  exact State.plot_setPlot_same s p _ plots

theorem completes_sremote (s : State) (p : Fin 16) (v c : Nat) (inv : s.Inv)
    (issues : s.Issues p 0x14 v [(8, 8), (15, 12), (31, 16), (43, 32), (59, 48), (127, 64)]) (other : fld v 43 32 ≠ s.addr)
    (quiet : s.writesOut p = false) (ctx : s.ctxOf (s.plot p).pasid = some c) (right : bit (s.pctxCtrl c) 27 = true)
    (behind : s.fab.ordered.any (fun h => h.m.dst == fld v 43 32) = true) :
    Completes (.sremote p) s fun t =>
      t.plot p = s.issued p ∧ t.fab.ordered.map (fun o => (o.m, o.owner)) = s.fab.ordered.map (fun o => (o.m,
      o.owner)) ++ [({ kind := (if bit v 8 then .stakeSet else .stakeAdd), dst := fld v 43 32, window := fld v 59 48, aux := fld v 31 16, addr := s.value p v, ordered := true }, .plotSignal p)] ∧
      t.g = s.g ∧ t.od = s.od ∧ t.hbm = s.hbm := by
  obtain ⟨-, -, -, -, -, -, ⟨plots, -⟩, -⟩ := inv
  let m : Msg := { kind := (if bit v 8 then .stakeSet else .stakeAdd), dst := fld v 43 32, window := fld v 59 48, aux := fld v 31 16, addr := s.value p v }
  let before := (s.fab.reqs.filter (fun q => q.dst == m.dst && q.kind == .stileWrite)).map (fun (q : FabReq) => q.tag)
  let u : State := { s with fab := { s.fab with ordered := s.fab.ordered ++ [{ m := { m with ordered := true }, owner := .plotSignal p, after := before }] } }
  have queued : s.stakeRequest m (.plotSignal p) = (u, true) := by
    have waits : (before.isEmpty && s.fab.ordered.all (fun h => h.m.dst != m.dst)) = false := by
      obtain ⟨h, listed, at_⟩ := List.any_eq_true.1 behind
      have stays : s.fab.ordered.all (fun h => h.m.dst != m.dst) = false :=
        List.all_eq_false.2 ⟨h, listed, by rw [beq_iff_eq.1 at_]; simp [m]⟩
      rw [stays, Bool.and_false]
    unfold State.stakeRequest
    dsimp only
    rw [if_neg (by rw [waits]; decide)]
  have starts : s.resolveStart (s.plotWho p) 3 0 .write = (s, .at_ (.host 0) 0) := by
    have ctx' : s.ctxOf (s.plotWho p).pasid = some c := ctx
    simp only [State.resolveStart, ctx', right, if_true]
  have goes : u.advance p = u.setPlot p (s.issued p) := State.advance_issues (s := u) plots (fields := _) issues
  refine ⟨_, congrArg Host.Outcome.next (State.issue_of_issues issues _), ?_⟩
  dsimp only
  rw [if_neg other, quiet, if_neg Bool.false_ne_true, starts]
  dsimp only
  rw [show s.stakeRequest _ (.plotSignal p) = (u, true) from queued]
  dsimp only
  rw [if_pos rfl, goes]
  exact ⟨State.plot_setPlot_same u p _ plots, by simp [u, m, State.setPlot], rfl, rfl, rfl⟩

/-! ### Feeds (R553, R614) -/

/-- A request that FEED puts behind the others of its channel. -/
def State.putFeed (s : State) (p : Nat) (v : Nat) : State :=
  s.setFeed p (fld v 9 8) { s.feed p (fld v 9 8) with reqs := (s.feed p (fld v 9 8)).reqs ++ [(fld v 47 16, fld v 15 12, false)] }

theorem State.feed_issues (s : State) (p : Fin 16) (v : Nat) (plots : Rises s.plots) (issues : s.Issues p 0x23 v [(10, 8), (15, 12), (47, 16)])
    (aligned : fld v 47 16 % 64 = 0) (short : fld v 47 16 ≤ 0x100000) (some_ : fld v 15 12 ≠ 0) (room : (s.feed p (fld v 9 8)).reqs.length < 4) :
    exec (.feed p) s = .next (if bit v 10 then ((s.putFeed p v).setPlot p (s.issued p)).modPlot p (fun x => { x with feedWait := some (fld v 9 8), stalledFeed := true })
      else (s.putFeed p v).setPlot p (s.issued p)) := by
  have goes : (s.putFeed p v).advance p = (s.putFeed p v).setPlot p (s.issued p) := State.advance_issues (s := s.putFeed p v) plots issues
  refine (congrArg Host.Outcome.next (State.issue_of_issues issues _)).trans ?_
  dsimp only
  rw [if_neg (by simp [aligned, Nat.not_lt.2 short, some_]), if_neg (Nat.not_le.2 room)]
  rw [← goes]
  rfl

theorem completes_feed (s : State) (p : Fin 16) (v : Nat) (inv : s.Inv) (issues : s.Issues p 0x23 v [(10, 8), (15, 12), (47, 16)])
    (aligned : fld v 47 16 % 64 = 0) (short : fld v 47 16 ≤ 0x100000) (some_ : fld v 15 12 ≠ 0) (room : (s.feed p (fld v 9 8)).reqs.length < 4)
    (on : bit v 10 = false) :
    Completes (.feed p) s fun t => t = (s.putFeed p v).setPlot p (s.issued p) := by
  obtain ⟨-, -, -, -, -, -, ⟨plots, -⟩, -⟩ := inv
  refine ⟨_, s.feed_issues p v plots issues aligned short some_ room, ?_⟩
  rw [on, if_neg Bool.false_ne_true]

theorem completes_feed_wait (s : State) (p : Fin 16) (v : Nat) (inv : s.Inv) (issues : s.Issues p 0x23 v [(10, 8), (15, 12), (47, 16)])
    (aligned : fld v 47 16 % 64 = 0) (short : fld v 47 16 ≤ 0x100000) (some_ : fld v 15 12 ≠ 0) (room : (s.feed p (fld v 9 8)).reqs.length < 4)
    (waits : bit v 10 = true) :
    Completes (.feed p) s fun t => t = (s.putFeed p v).setPlot p { s.issued p with feedWait := some (fld v 9 8), stalledFeed := true } := by
  obtain ⟨-, -, -, -, -, -, ⟨plots, -⟩, -⟩ := inv
  have plots' : Rises (s.putFeed p v).plots := plots
  refine ⟨_, s.feed_issues p v plots issues aligned short some_ room, ?_⟩
  rw [if_pos waits, State.modPlot, State.plot_setPlot_same _ p _ plots', State.setPlot_setPlot _ p _ _ plots']

theorem completes_unfeed (s : State) (p : Fin 16) (v : Nat) (l : List (Nat × Nat × Bool)) (a b : Nat) (inv : s.Inv)
    (issues : s.Issues p 0x24 v [(9, 8)]) (newest : (s.feed p (fld v 9 8)).reqs = l ++ [(a, b, false)]) (on : (s.plot p).feedWait = none) :
    Completes (.unfeed p) s fun t => t = (s.setFeed p (fld v 9 8) { s.feed p (fld v 9 8) with reqs := l }).setPlot p (s.issued p) := by
  obtain ⟨-, -, -, -, -, -, ⟨plots, -⟩, -⟩ := inv
  let u := s.setFeed p (fld v 9 8) { s.feed p (fld v 9 8) with reqs := l }
  have withdraws : s.withdrawNewest p (fld v 9 8) = u := by
    have stays : (u.plot p).feedWait = none := on
    unfold State.withdrawNewest
    simp only [newest, List.getLast?_append, List.getLast?_singleton, Option.some_or, List.dropLast_concat]
    rw [if_pos (by decide : (!false) = true)]
    change (if _ && (u.plot p).feedWait == _ then _ else u) = u
    rw [stays, if_neg (by rw [Bool.and_eq_true]; exact fun both => Bool.noConfusion both.2)]
  have goes : u.advance p = u.setPlot p (s.issued p) := State.advance_issues (s := u) plots issues
  refine ⟨_, congrArg Host.Outcome.next (State.issue_of_issues issues _), ?_⟩
  dsimp only
  rw [withdraws, goes]

/-- Settles O41: commands on stakes wait, test and signal by the stake's value, and feeds queue and withdraw their requests. -/
theorem plotStakesAndFeedsComplete : Obligations.PlotStakesAndFeedsComplete :=
  ⟨completes_swait, completes_sjoin, completes_stest, completes_ssig_set, completes_ssig_add, completes_sremote, completes_feed, completes_feed_wait,
    completes_unfeed⟩

end Sys2Proof.Machine
end

section
namespace Sys2Proof.Machine

set_option Elab.async false

/-! ### A gleaner's translation buffer that holds another place (R461, R610)

The gleaner uses the translations of its buffer before it asks for one. `State.Direct` says how the context maps
addresses and empties the shared cache, but says nothing of the buffer, so a row may come from elsewhere. -/

/-- The gleaner's own translation of the first line of the device-local space: it lies at HBM address 64. -/
def staleXlat : Xlat :=
  { pasid := 5, space := .devlocal, va := 0, size := 4, base := .hbm 64, r := true, w := false, a := false, source := .table }

/-- A view of one row of 4 bytes at HBM address 0. -/
def firstLine : View := { space := 1, arg := 255, x := 4, base := 0, ystride := 4, y := 1 }

/-- Plot 3 runs GATHER with its descriptor at tilth offset 0: one index, 0, at offset 64, data at offset 128. -/
def gathering : Plot :=
  { state := .running, pasid := 5, prog := some { id := 1, pasid := 5, crc := 0, views := [firstLine], cmds := [0x50, 0] },
    gbuf := [staleXlat], tilth := [(4, 64), (8, 1), (12, 128), (20, 4)] }

/-- The context of PASID 5 maps the device-local space directly; the byte at HBM address 64 is 7, the first ones are 0. -/
def gathersElsewhere : State :=
  { State.reset with plots := [(3, gathering)], hbm := [(64, 7)], reg := [(Rg.pctx 1 0, 2 ^ 63 + 2 ^ 25 + 2 ^ 26 + 5)], host := {} }

theorem gathersElsewhere_inv : gathersElsewhere.Inv := by
  unfold State.Inv PlotsWf Plot.Wf Rises
  decide +kernel

theorem gathersElsewhere_direct : gathersElsewhere.Direct 3 := by
  unfold State.Direct State.Clear State.Maps
  decide +kernel

theorem gathersElsewhere_reads : leaves (.gather 3 {}) gathersElsewhere (fun t => memRead (t.plot (3 : Fin 16)).tilth 128 4) = some [7, 0, 0, 0] := by
  decide +kernel

theorem gathersElsewhere_data : (gathersElsewhere.gleanDesc 3 0).data = 128 := by decide +kernel

theorem gathersElsewhere_row :
    (List.range (gathersElsewhere.gleanDesc 3 0).count).flatMap (fun j =>
      let i := leNat (memRead (gathersElsewhere.plot (3 : Fin 16)).tilth ((gathersElsewhere.gleanDesc 3 0).idx + j * (gathersElsewhere.gleanDesc 3 0).width)
        (gathersElsewhere.gleanDesc 3 0).width)
      if i < firstLine.y then
        memRead gathersElsewhere.hbm (0 + i * firstLine.ystride + (gathersElsewhere.gleanDesc 3 0).rowOff) (gathersElsewhere.gleanDesc 3 0).rowBytes
      else List.replicate (gathersElsewhere.gleanDesc 3 0).rowBytes 0) = [0, 0, 0, 0] := by
  decide +kernel

/-- Refutes O45: in the state `gathersElsewhere` GATHER of row 0 stores the bytes of HBM address 64. -/
theorem not_gleanerCompletes : ¬ Obligations.GleanerCompletes := by
  rintro ⟨gather, -⟩
  obtain ⟨t, runs, ⟨-, stored, -⟩, -⟩ :=
    gather gathersElsewhere 3 0x50 {} (gathersElsewhere.gleanDesc 3 0) firstLine 0 gathersElsewhere_inv
      (by unfold State.Issues; decide +kernel) (by decide +kernel) (by decide +kernel) (by decide +kernel) (by decide +kernel)
      (by decide +kernel) (by decide +kernel) (by decide +kernel) (by decide +kernel) gathersElsewhere_direct (by decide +kernel)
      (by decide +kernel) (by decide +kernel)
  have other := gathersElsewhere_reads
  rw [leaves_of_next _ runs] at other
  rw [gathersElsewhere_row, gathersElsewhere_data] at stored
  have zeros : memRead (t.plot (3 : Fin 16)).tilth 128 4 = [0, 0, 0, 0] := stored
  rw [zeros] at other
  exact absurd other (by decide)

end Sys2Proof.Machine
end

section
namespace Sys2Proof.Machine

set_option Elab.async false

/-! ### A doorbell shadow that leaves ahead of a chain read (R297, R539)

CHAIN_GO puts the read of the chain behind what waits for the link, and what can leave then leaves: here the write of a
furrow's shadow, which the furrow notes. -/

/-- The write of furrow 0's shadow, ready to leave. -/
def shadowWrite : Tlp := { kind := .memWrite, addr := 0x1000, data := [0], len := 1, owner := .shadow 0 }

/-- Row 2 is owned and IDLE with a binding to PASID 5; the link is up, Bus Master Enable is set, and furrow 0's shadow write is queued. -/
def shadowQueuedFirst : State :=
  { State.reset with
    link := { State.reset.link with up := true, ltssm := .l0 }
    host := { State.reset.host with queue := [shadowWrite], pCredit := 100, npCredit := 100 }
    cfg := [(4, 6)]
    g := { State.reset.g with furrows := [(0, { shadowQueued := true })] }
    reg := [(Rg.row 2 0x28, 5 + 2 ^ 22), (Rg.pctx 1 0, 2 ^ 63 + 5)] }

theorem shadowQueuedFirst_inv : shadowQueuedFirst.Inv := by
  unfold State.Inv PlotsWf Plot.Wf Rises
  decide +kernel

theorem shadowQueuedFirst_leaves : leaves (.chainGo 2 0) shadowQueuedFirst (fun t => t.g == shadowQueuedFirst.g) = some false := by
  decide +kernel

/-- Refutes O46: in the state `shadowQueuedFirst` CHAIN_GO lets the shadow's write leave, and furrow 0 is as at reset. -/
theorem not_rowCommandsComplete : ¬ Obligations.RowCommandsComplete := by
  rintro ⟨-, -, -, chainGo, -⟩
  obtain ⟨t, runs, -, -, -, -, -, -, frame⟩ :=
    chainGo shadowQueuedFirst 2 0 0 shadowQueuedFirst_inv (by decide +kernel) (by decide +kernel) (by decide +kernel) (by decide +kernel) rfl rfl
      (by decide +kernel) (by decide +kernel) (by decide +kernel) (by decide +kernel) (by decide +kernel) (by decide +kernel)
  have other := shadowQueuedFirst_leaves
  rw [leaves_of_next _ runs, frame] at other
  exact absurd other (by decide +kernel)

end Sys2Proof.Machine
end

section
namespace Sys2Proof.Machine

set_option Elab.async false

/-! ### An optical port whose engine tripped (R635, R636)

A port that may be trained is trained again only where its engine is on; the leave to train does not ask for that. -/

/-- Port 11 is down and allowed: an active slice uses it. Its optical engine is off. -/
def engineTripped : State :=
  { State.reset with
    pwr := { State.reset.pwr with mode := .up, aon := true, refEver := true, opticalOff := 1 }
    od := [(O.pkgAddrValid, 1), (O.portEnable, 2 ^ 11)]
    slice := { State.reset.slice with state := .active, optical := [(11, 0, 0)] }
    fab := { State.reset.fab with ports := [(11, { state := .down })] } }

theorem engineTripped_inv : engineTripped.Inv := by
  unfold State.Inv PlotsWf Plot.Wf Rises
  decide +kernel

theorem engineTripped_stays : leaves (.portRetry 11) engineTripped (fun t => (t.port 11).state) = some .down := by
  decide +kernel

/-- Refutes O48: in the state `engineTripped` PORT_RETRY leaves port 11 down. -/
theorem not_portsComplete : ¬ Obligations.PortsComplete := by
  rintro ⟨-, -, -, -, -, -, retry, -⟩
  obtain ⟨t, runs, trains⟩ := retry engineTripped 11 engineTripped_inv (.inl (by decide +kernel)) (by decide +kernel)
  have other := engineTripped_stays
  rw [leaves_of_next _ runs, trains] at other
  exact absurd other (by decide +kernel)

end Sys2Proof.Machine
end

section
namespace Sys2Proof.Machine

set_option Elab.async false

/-! ### The address of a remote read that timed out (R574)

A transfer whose read is not answered ends with the address of the byte that failed, which need not be 0. -/

/-- Row 2 asked another package for the first 8 bytes of its transfer, which start at address 8. -/
def askingXfer : Xfer := { src := .direct, d := { body := natLe 8 8 }, pieces := [{ off := 0, len := 8 }] }

def remoteRead : FabReq := { tag := 1, kind := .readReq, dst := 5, owner := .row 2 0 0 8, deadline := some 0 }

def remoteReadWaits : State :=
  { State.reset with
    drill := { State.reset.drill with rows := [(2, { xfers := [askingXfer] })] }
    fab := { State.reset.fab with reqs := [remoteRead] } }

theorem remoteReadWaits_inv : remoteReadWaits.Inv := by
  unfold State.Inv PlotsWf Plot.Wf Rises
  decide +kernel

theorem remoteReadWaits_ends : leaves (.remoteReadTimeout 1) remoteReadWaits (fun t => (t.row 2).xfers.map (·.endAt)) = some [some (0x108, 8)] := by
  decide +kernel

/-- Refutes O49: in the state `remoteReadWaits` the transfer ends with address 8. -/
theorem not_stileMessagesComplete : ¬ Obligations.StileMessagesComplete := by
  rintro ⟨-, -, -, -, -, -, -, -, -, -, -, timeout, -⟩
  obtain ⟨t, runs, -, -, ends, -⟩ :=
    timeout remoteReadWaits 1 remoteRead 2 0 0 8 0 askingXfer { off := 0, len := 8 } remoteReadWaits_inv rfl rfl rfl rfl rfl (by decide +kernel)
      rfl rfl rfl rfl
  have other := remoteReadWaits_ends
  rw [leaves_of_next _ runs, ends] at other
  exact absurd other (by decide)

end Sys2Proof.Machine
end

section
namespace Sys2Proof.Machine

set_option Elab.async false

/-! ### A stamp that a lost port brings about (R636, R672)

A port that goes down fails the requests that left by it, and a transfer that ends so writes its stamp. -/

/-- A transfer that failed and stamps HBM address 0 when it leaves. -/
def stampingXfer : Xfer :=
  { src := .direct, d := { stampEn := true, stampValue := 1 }, stampAt := some (.hbm 0), finished := some (0x108, 0) }

/-- Row 2 is owned and ACTIVE with that transfer; its last write left by port 3 and is not answered. -/
def stampWaits : State :=
  { State.reset with
    reg := [(Rg.row 2 0x28, 2 ^ 22)]
    drill := { State.reset.drill with rows := [(2, { state := .active, xfers := [stampingXfer] })] }
    fab := { State.reset.fab with
      ports := [(3, { state := .up })], reqs := [{ tag := 1, kind := .stileWrite, dst := 5, owner := .row 2 0 0 8, port := 3 }] } }

theorem stampWaits_inv : stampWaits.Inv := by
  unfold State.Inv PlotsWf Plot.Wf Rises
  decide +kernel

theorem stampWaits_stamps : leaves (.powerLoss 3 {}) stampWaits (fun t => t.hbm == stampWaits.hbm) = some false := by
  decide +kernel

/-- Refutes O51: in the state `stampWaits` POWER_LOSS of the peer of port 3 writes the stamp of row 2's transfer to HBM. -/
theorem not_sliceIsWatched : ¬ Obligations.SliceIsWatched := by
  rintro ⟨-, -, -, -, -, -, -, -, powerLoss, -⟩
  obtain ⟨t, runs, -, -, -, -, -, hbm⟩ :=
    powerLoss stampWaits 3 {} (onWire {}) stampWaits_inv rfl (by decide +kernel) (by decide +kernel) rfl rfl rfl rfl
  have other := stampWaits_stamps
  rw [leaves_of_next _ runs, hbm] at other
  exact absurd other (by decide +kernel)

end Sys2Proof.Machine
end

section
namespace Sys2Proof.Machine

set_option Elab.async false

/-! ### A furrow listed twice (R346, R354)

Where the statement does not ask for the invariant, a furrow may stand in the list twice. The write of its shadow, which
leaves with the descriptor's stamp, puts the first entry back to its reset value and so shows the second, whose early
ring entry is then accepted under the sequence number that became free. -/

/-- The write of furrow 5's shadow, ready to leave. -/
def shadowOfFive : Tlp := { kind := .memWrite, addr := 0x1000, data := [0], len := 1, owner := .shadow 5 }

/-- A PROGRAM descriptor of no plot that has ended and writes a stamp to host memory. -/
def endedProgram : Slot :=
  { furrow := 5, seq := 7, d := { opcode := 2, stampEn := true }, state := .started, stampAt := some (.host 0x2000) }

/-- Furrow 5 is listed as DISABLED and, behind that, as ENABLED with an entry to accept under SEQ 7. -/
def listedTwice : State :=
  { State.reset with
    link := { State.reset.link with up := true, ltssm := .l0 }
    host := { State.reset.host with queue := [shadowOfFive], pCredit := 100, npCredit := 100 }
    cfg := [(4, 6)]
    reg := [(Rg.fctx 5 0x10, 10 + 10 * 2 ^ 16)]
    g := { State.reset.g with
      furrows := [(5, { shadowQueued := true }), (5, { state := .enabled, seq := 7, early := [(0, 1, [])] })], store := [endedProgram] } }

theorem listedTwice_settled : listedTwice.Settled := ⟨rfl, by decide +kernel⟩

theorem listedTwice_slot : leaves (.descriptorComplete 5 7) listedTwice (fun t => (t.slot 5 7).isNone) = some false := by
  decide +kernel

/-- Refutes O4: in the state `listedTwice` DESCRIPTOR_COMPLETE frees the slot, and the next entry takes it under the same SEQ. -/
theorem not_descriptorsCompleteAndStakesComplete : ¬ Obligations.DescriptorsCompleteAndStakesComplete := by
  rintro ⟨-, complete, -⟩
  obtain ⟨t, runs, freed⟩ :=
    complete listedTwice 5 7 endedProgram (by decide +kernel) rfl rfl (by decide +kernel) (fun _ => rfl) (fun h => absurd h (by decide))
      listedTwice_settled
  have other := listedTwice_slot
  rw [leaves_of_next _ runs] at other
  have none_ : t.slot 5 7 = none := freed
  rw [none_] at other
  exact absurd other (by decide)

end Sys2Proof.Machine
end

section
namespace Sys2Proof.Machine

/-! ### What a lookup leaves alone

A lookup may start walks, fault, and let posted writes leave. Of GCORE's own state it touches the store, where it notes
what a sowing stream found, and the mark that a furrow's shadow is queued. -/

theorem kvFind_kvErase_other {α : Type} (m : List (Nat × α)) (k n : Nat) (v : α) (other : n ≠ k) (found : kvFind m n = some v) :
    kvFind (kvErase m k) n = some v := by
  induction m with
  | nil => exact absurd found (by simp [kvFind])
  | cons e m ih =>
    obtain ⟨a, w⟩ := e
    simp only [kvFind] at found
    simp only [kvErase]
    by_cases at_ : a = n
    · rw [if_pos at_] at found
      rw [if_neg (by omega)]
      split
      · simp [kvFind, at_, found]
      · simp [kvFind, at_, found]
    · rw [if_neg at_] at found
      split at found
      · exact absurd found (by simp)
      · rename_i notBefore
        split
        · exact found
        · split
          · simp [kvFind, at_, notBefore, found]
          · simp [kvFind, at_, notBefore, ih found]

theorem kvFind_kvSet_other {α : Type} [DecidableEq α] (d : α) (m : List (Nat × α)) (k n : Nat) (v w : α) (other : n ≠ k)
    (found : kvFind m n = some v) : kvFind (kvSet d m k w) n = some v := by
  unfold kvSet
  split
  · exact kvFind_kvErase_other m k n v other found
  · rw [kvFind_kvPut_other m k n w other, found]

/-- The furrows of a list that are not DISABLED. -/
def onFurrows (l : List (Nat × Furrow)) : List Nat := (l.filter (fun f => !(f.2.state == .disabled))).map (fun f => f.1)

theorem onFurrows_cons (e : Nat × Furrow) (l : List (Nat × Furrow)) :
    onFurrows (e :: l) = if e.2.state = .disabled then onFurrows l else e.1 :: onFurrows l := by
  by_cases off : e.2.state = .disabled <;> simp [onFurrows, off]

theorem onFurrows_kvPut (l : List (Nat × Furrow)) (n : Nat) (f : Furrow) (same : f.state = (kvGet {} l n).state) :
    onFurrows (kvPut l n f) = onFurrows l := by
  induction l with
  | nil =>
    have off : f.state = .disabled := same
    rw [kvPut, onFurrows_cons, if_pos off]
  | cons e l ih =>
    obtain ⟨a, w⟩ := e
    simp only [kvGet, kvFind] at same
    simp only [kvPut]
    by_cases at_ : a = n
    · rw [if_pos at_] at same ⊢
      have same : f.state = w.state := same
      rw [onFurrows_cons, onFurrows_cons]
      dsimp only
      rw [same, at_]
    · rw [if_neg at_] at same ⊢
      split at same
      · rename_i before
        have off : f.state = .disabled := same
        rw [if_pos before, onFurrows_cons (n, f), if_pos off]
      · rename_i after
        rw [if_neg after, onFurrows_cons, onFurrows_cons, ih same]

theorem onFurrows_kvErase (l : List (Nat × Furrow)) (n : Nat) (off : (kvGet {} l n).state = .disabled) : onFurrows (kvErase l n) = onFurrows l := by
  induction l with
  | nil => rfl
  | cons e l ih =>
    obtain ⟨a, w⟩ := e
    simp only [kvGet, kvFind] at off
    simp only [kvErase]
    by_cases at_ : a = n
    · rw [if_pos at_] at off ⊢
      have off : w.state = .disabled := off
      rw [onFurrows_cons, if_pos off]
    · rw [if_neg at_] at off ⊢
      split at off
      · rename_i before
        rw [if_pos before]
      · rename_i after
        rw [if_neg after, onFurrows_cons, onFurrows_cons, ih off]

/-- From the furrows l to m no furrow was enabled or disabled, and of one that is not DISABLED only the mark of its shadow may differ. -/
structure ShadowsOnly (l m : List (Nat × Furrow)) : Prop where
  on : onFurrows m = onFurrows l
  kept : ∀ n f, kvFind l n = some f → f.state ≠ .disabled → ∃ b, kvFind m n = some { f with shadowQueued := b }

theorem ShadowsOnly.refl (l : List (Nat × Furrow)) : ShadowsOnly l l := ⟨rfl, fun _ f found _ => ⟨f.shadowQueued, found⟩⟩

theorem ShadowsOnly.trans {l m o : List (Nat × Furrow)} (h : ShadowsOnly l m) (g : ShadowsOnly m o) : ShadowsOnly l o where
  on := g.on.trans h.on
  kept n f found on := by
    obtain ⟨b, found'⟩ := h.kept n f found on
    exact g.kept n { f with shadowQueued := b } found' on

theorem ShadowsOnly.left (l : List (Nat × Furrow)) (n : Nat) : ShadowsOnly l (kvSet {} l n { kvGet {} l n with shadowQueued := false }) where
  on := by
    unfold kvSet
    split
    · rename_i blank
      exact onFurrows_kvErase l n (congrArg Furrow.state blank)
    · exact onFurrows_kvPut l n _ rfl
  kept k f found on := by
    by_cases at_ : k = n
    · subst at_
      have same : kvGet {} l k = f := by rw [kvGet, found]; rfl
      rw [same]
      refine ⟨false, ?_⟩
      rw [kvSet, if_neg (fun blank => on (congrArg Furrow.state blank)), kvFind_kvPut_same]
    · exact ⟨f.shadowQueued, kvFind_kvSet_other _ l n k f _ at_ found⟩

/-- The objects that count lookups, walks, faults and what leaves on the host link. -/
def lookObjects : List Nat :=
  [O.adCas, O.atsRequests, O.denials, O.faults, O.faultsAborted, O.faultsAttached, O.lookups, O.misses, O.poisonSent, O.ringRecords,
   O.walkerReads, O.walks]

/-- An object that no lookup writes, neither as a counter nor as the overflow object of a counter's index. -/
def unlookedObject (k : Nat) : Bool := lookObjects.all (fun c => k != c && k != c / 256 * 256 + 0xFE)

/-- What a descriptor's slot keeps under lookups: whose it is, how far it has come, and the wait it holds. -/
def Slot.standing (x : Slot) : Nat × Nat × DescState × Option Nat := (x.furrow, x.seq, x.state, x.wait)

structure LookSteady (s t : State) : Prop where
  objs : Rises s.od → Rises t.od ∧ ∀ k, unlookedObject k = true → t.val k = s.val k
  g : t.g = { s.g with furrows := t.g.furrows, store := t.g.store }
  furrows : ShadowsOnly s.g.furrows t.g.furrows
  store : t.g.store.map Slot.standing = s.g.store.map Slot.standing

theorem LookSteady.same {s t : State} (od : t.od = s.od) (g : t.g = s.g) : LookSteady s t where
  objs h := ⟨od ▸ h, fun _ _ => by rw [State.val, State.val, od]⟩
  g := by rw [g]
  furrows := by rw [g]; exact .refl _
  store := by rw [g]

theorem LookSteady.refl (s : State) : LookSteady s s := .same rfl rfl

theorem LookSteady.trans {s t u : State} (h : LookSteady s t) (g : LookSteady t u) : LookSteady s u where
  objs r := by
    obtain ⟨r', hv⟩ := h.objs r
    obtain ⟨r'', gv⟩ := g.objs r'
    exact ⟨r'', fun k free => (gv k free).trans (hv k free)⟩
  g := by rw [g.g, h.g]
  furrows := h.furrows.trans g.furrows
  store := g.store.trans h.store

/-- An operation whose footprint spares the dictionary and GCORE. -/
theorem LookSteady.keeps {m : Nat} {s t : State} (h : Keeps m s t) (e : 260 &&& m = 0) : LookSteady s t := by
  have spared : ∀ k, Nat.testBit 260 k = true → m.testBit k = false := fun k hk => by
    have both : (260 &&& m).testBit k = false := e ▸ Nat.zero_testBit k
    rwa [Nat.testBit_and, hk, Bool.true_and] at both
  exact .same (h.kod (spared 2 rfl)) (h.kg (spared 8 rfl))

theorem unlookedObject_ne {k c : Nat} (free : unlookedObject k = true) (mem : c ∈ lookObjects) : k ≠ c ∧ k ≠ c / 256 * 256 + 0xFE := by
  have := List.all_eq_true.mp free c mem
  rwa [Bool.and_eq_true, bne_iff_ne, bne_iff_ne] at this

theorem LookSteady.bumpBy {s : State} {c n : Nat} (mem : c ∈ lookObjects) : LookSteady s (s.bumpBy c n) where
  objs h := ⟨State.bumpBy_rises s c n h, fun k free =>
    State.val_bumpBy_other s c k n h (unlookedObject_ne free mem).1 (unlookedObject_ne free mem).2⟩
  g := by rw [(State.bumpBy_keeps s c n).kg rfl]
  furrows := by rw [(State.bumpBy_keeps s c n).kg rfl]; exact .refl _
  store := by rw [(State.bumpBy_keeps s c n).kg rfl]

theorem LookSteady.sethost {s : State} (v) : LookSteady s { s with host := v } := .same rfl rfl
theorem LookSteady.setfc {s : State} (v) : LookSteady s { s with fc := v } := .same rfl rfl
theorem LookSteady.setplat {s : State} (v) : LookSteady s { s with plat := v } := .same rfl rfl
theorem LookSteady.setflt {s : State} (v) : LookSteady s { s with flt := v } := .same rfl rfl

theorem LookSteady.modSlot {s : State} {n q : Nat} {f : Slot → Slot} (keeps : ∀ x, (f x).standing = x.standing) :
    LookSteady s (s.modSlot n q f) where
  objs h := ⟨h, fun _ _ => rfl⟩
  g := rfl
  furrows := .refl _
  store := by
    unfold State.modSlot
    rw [List.map_map]
    refine List.map_congr_left fun x _ => ?_
    dsimp only [Function.comp]
    split
    · exact keeps x
    · rfl

theorem Slot.failAt_standing (x : Slot) (rec : Nat) (acc : Access) (code va : Nat) : (x.failAt rec acc code va).standing = x.standing := by
  unfold Slot.failAt
  extract_lets
  split
  · rfl
  · rfl
  · rfl

theorem State.failStream_lookSteady (s st acc code va) : LookSteady s (State.failStream s st acc code va) := by
  unfold State.failStream
  split
  · exact .modSlot fun x => x.failAt_standing _ _ _ _
  · exact .keeps (State.setRow_keeps _ _ _) rfl
  · exact .same rfl rfl
  · exact .refl _
  · exact .refl _
  · exact .same rfl rfl

theorem State.sowFail_lookSteady (s n q code addr) : LookSteady s (State.sowFail s n q code addr) := by
  unfold State.sowFail
  refine .modSlot fun x => ?_
  split
  · rfl
  · split
    · rfl
    · rfl

theorem State.shadowLeft_lookSteady (s n) : LookSteady s (State.setFur s n { s.fur n with shadowQueued := false }) where
  objs h := ⟨h, fun _ _ => rfl⟩
  g := rfl
  furrows := .left _ n
  store := rfl

theorem onSomeSnd_look {α : Type} {s t : State} {o : Option (α × State)} (h : LookSteady s t) (g : OnSome (OnSnd LookSteady) t o) :
    OnSome (OnSnd LookSteady) s o := fun x e => h.trans (g x e)

theorem State.enqueue_lookSteady (s) (z1) : LookSteady s (State.enqueue s z1) := by
  unfold State.enqueue
  exact .sethost _

theorem State.left_lookSteady (s) (z1) : LookSteady s (State.left s z1) := by
  unfold State.left
  extract_lets x1 x2 x3 x4 x5
  have hx1 : LookSteady s x1 := by
    unfold x1
    refine rel_ite ?_ ?_
    · exact .bumpBy (by decide)
    · exact LookSteady.refl _
  clear_value x1
  have hx2 : LookSteady s x2 := by
    unfold x2
    refine rel_ite ?_ ?_
    · refine LookSteady.trans ?_ (.keeps (State.orCfg_keeps _ _ _) rfl)
      assumption
    · assumption
  clear_value x2
  have hx4 : LookSteady s x4 := by
    unfold x4
    refine LookSteady.trans ?_ (.sethost _)
    assumption
  clear_value x4
  split
  · rename_i y6 y7 y8
    refine LookSteady.trans ?_ (State.shadowLeft_lookSteady _ _)
    assumption
  · rename_i y9 y10 y11
    split
    · rename_i y12 y13 y14
      extract_lets x15
      have hx15 : LookSteady s x15 := by
        unfold x15
        refine LookSteady.trans ?_ (.setfc _)
        assumption
      clear_value x15
      refine LookSteady.trans ?_ (.bumpBy (by decide))
      assumption
    · rename_i y16 y17
      assumption
  · rename_i y18 y19 y20
    assumption

theorem leavePass_lookSteady (s) (z1) (z2) (z3) (z4) : OnFst LookSteady s (leavePass s z1 z2 z3 z4) := by
  induction z1 generalizing s z2 z3 z4 with
  | nil =>
    unfold leavePass
    refine onFst_mk ?_
    exact LookSteady.refl _
  | cons x l ih =>
    unfold leavePass
    extract_lets x1 x2 x3 x4 x5
    clear_value x1
    clear_value x2
    have hx3 : OnFst LookSteady s x3 := by
      unfold x3
      exact ih _ _ _ _
    clear_value x3
    have hx5 : LookSteady s x5 := by
      unfold x5
      refine rel_ite ?_ ?_
      · exact LookSteady.refl _
      · refine rel_ite ?_ ?_
        · exact .sethost _
        · exact .sethost _
    clear_value x5
    refine rel_ite ?_ ?_
    · refine onFst_mk ?_
      show LookSteady s _
      assumption
    · refine LookSteady.trans ?_ (ih _ _ _ _)
      refine LookSteady.trans ?_ (State.left_lookSteady _ _)
      assumption

theorem State.drain_lookSteady (s) : LookSteady s (State.drain s) := by
  unfold State.drain
  extract_lets x1 x2
  have hx1 : ∀ a3, LookSteady s a3 → LookSteady s (x1 a3) := by
    unfold x1
    intro a4 a5
    extract_lets x6 x7 x8 x9 x10 x11 x12
    have hx7 : OnFst LookSteady s x7 := by
      unfold x7
      refine LookSteady.trans ?_ (leavePass_lookSteady _ _ _ _ _)
      refine LookSteady.trans ?_ (.sethost _)
      assumption
    clear_value x7
    have hx8 : LookSteady s x8 := by
      unfold x8
      show LookSteady s _
      assumption
    have hx10 : LookSteady s x10 := by
      unfold x10
      refine LookSteady.trans ?_ (.sethost _)
      assumption
    clear_value x10
    refine LookSteady.trans ?_ (.sethost _)
    assumption
  clear_value x1
  have hx2 : LookSteady s x2 := by
    unfold x2
    refine hx1 _ ?_
    exact LookSteady.refl _
  clear_value x2
  refine rel_ite ?_ ?_
  · refine rel_ite ?_ ?_
    · assumption
    · refine hx1 _ ?_
      assumption
  · refine hx1 _ ?_
    refine hx1 _ ?_
    assumption

theorem State.request_lookSteady (s) (z1) (z2) : OnSome (OnSnd LookSteady) s (State.request s z1 z2) := by
  unfold State.request
  refine rel_ite ?_ ?_
  · exact onSome_none
  · refine rel_ite ?_ ?_
    · exact onSome_none
    · split
      · rename_i y1 y2
        exact onSome_none
      · rename_i y3 y4 y5
        extract_lets x6 x7 x8
        have hx8 : LookSteady s x8 := by
          unfold x8
          exact .sethost _
        clear_value x8
        refine onSome_some ?_
        show LookSteady s _
        refine LookSteady.trans ?_ (State.drain_lookSteady _)
        refine LookSteady.trans ?_ (State.enqueue_lookSteady _ _)
        assumption

theorem State.deny_lookSteady (s) : LookSteady s (State.deny s) := by
  unfold State.deny
  exact .bumpBy (by decide)

theorem State.stallFault_lookSteady (s) (z1) : LookSteady s (State.stallFault s z1) := by
  unfold State.stallFault
  split
  · rename_i y1 y2 y3
    extract_lets x4 x5
    have hx4 : LookSteady s x4 := by
      unfold x4
      exact .bumpBy (by decide)
    clear_value x4
    refine LookSteady.trans ?_ (.setflt _)
    assumption
  · rename_i y6 y7
    split
    · rename_i y8 y9
      exact .setflt _
    · rename_i y10 y11 y12
      extract_lets x13 x14 x15
      have hx14 : LookSteady s x14 := by
        unfold x14
        exact .bumpBy (by decide)
      clear_value x14
      refine LookSteady.trans ?_ (.setflt _)
      assumption

theorem State.fault_lookSteady (s) (z1) (z2) (z3) (z4) (z5) (z6) (z7) : LookSteady s (State.fault s z1 z2 z3 z4 z5 z6 z7) := by
  unfold State.fault
  refine rel_ite ?_ ?_
  · refine LookSteady.trans ?_ (.bumpBy (by decide))
    exact State.failStream_lookSteady _ _ _ _ _
  · exact State.stallFault_lookSteady _ _

theorem State.takeSlot_lookSteady (s) (z1) : LookSteady s (State.takeSlot s z1) := by
  unfold State.takeSlot
  extract_lets x1 x2 x3
  clear_value x1
  have hx2 : LookSteady s x2 := by
    unfold x2
    refine rel_ite ?_ ?_
    · exact .bumpBy (by decide)
    · exact LookSteady.refl _
  clear_value x2
  refine LookSteady.trans ?_ (.setplat _)
  assumption

theorem State.startWalk_lookSteady (s) (z1) : LookSteady s (State.startWalk s z1) := by
  unfold State.startWalk
  refine rel_ite ?_ ?_
  · exact LookSteady.refl _
  · refine rel_ite ?_ ?_
    · exact State.takeSlot_lookSteady _ _
    · exact .setplat _

theorem State.grantSlot_lookSteady (s) : LookSteady s (State.grantSlot s) := by
  unfold State.grantSlot
  extract_lets x1 x2
  clear_value x1
  split
  · rename_i y3
    exact LookSteady.refl _
  · rename_i y4 y5
    extract_lets x6 x7
    clear_value x7
    refine LookSteady.trans ?_ (State.takeSlot_lookSteady _ _)
    exact .setplat _

theorem State.grantSlots_lookSteady (s) : LookSteady s (State.grantSlots s) := by
  unfold State.grantSlots
  refine rel_each ?_ ?_
  · exact LookSteady.refl _
  · intro a1 a2 a3
    refine LookSteady.trans ?_ (State.grantSlot_lookSteady _)
    assumption

theorem State.endWalk_lookSteady (s) (z1) : LookSteady s (State.endWalk s z1) := by
  unfold State.endWalk
  refine LookSteady.trans ?_ (State.grantSlots_lookSteady _)
  exact .setplat _

theorem State.issueWalks_lookSteady (s) : LookSteady s (State.issueWalks s) := by
  unfold State.issueWalks
  refine rel_each ?_ ?_
  · exact LookSteady.refl _
  · intro a1 a2 a3
    refine rel_ite ?_ ?_
    · refine rel_ite ?_ ?_
      · refine LookSteady.trans ?_ (State.endWalk_lookSteady _ _)
        assumption
      · refine LookSteady.trans ?_ (State.fault_lookSteady _ _ _ _ _ _ _ _)
        refine LookSteady.trans ?_ (State.endWalk_lookSteady _ _)
        assumption
    · split
      · rename_i y4 y5
        assumption
      · rename_i y6 y7 y8
        split
        · rename_i y9 y10
          assumption
        · rename_i y11 y12 y13
          have h14 : OnSnd LookSteady s y12 := by
            refine onSome_ofEq ?_ y13
            refine rel_ite ?_ ?_
            · refine onSomeSnd_look ?_ (State.request_lookSteady _ _ _)
              assumption
            · exact onSome_none
          extract_lets x15
          have hx15 : LookSteady s x15 := by
            unfold x15
            refine LookSteady.trans ?_ (.keeps (State.setWalk_keeps _ _) rfl)
            show LookSteady s _
            assumption
          clear_value x15
          split
          · rename_i y16 y17
            refine LookSteady.trans ?_ (.bumpBy (by decide))
            assumption
          · rename_i y18 y19
            refine LookSteady.trans ?_ (.bumpBy (by decide))
            assumption
          · rename_i y20 y21
            refine LookSteady.trans ?_ (.bumpBy (by decide))
            assumption
          · rename_i y22 y23
            assumption

theorem State.missed_lookSteady {r s t : State} (hs : LookSteady r s) (ht : LookSteady r t) : LookSteady r (s.missed t) :=
  rel_ite ((ht.trans (.bumpBy (c := O.lookups) (n := 1) (by decide))).trans (.bumpBy (c := O.misses) (n := 1) (by decide))) ht

theorem State.missHost_lookSteady (s) (z1) (z2) (z3) (z4) : LookSteady s (State.missHost s z1 z2 z3 z4) := by
  unfold State.missHost
  refine rel_ite ?_ ?_
  · exact LookSteady.refl _
  · refine rel_ite ?_ ?_
    · refine LookSteady.trans ?_ (State.issueWalks_lookSteady _)
      exact State.startWalk_lookSteady _ _
    · extract_lets x1 x2 x3 x4
      clear_value x3
      refine LookSteady.trans ?_ (State.issueWalks_lookSteady _)
      exact State.startWalk_lookSteady _ _

theorem State.lookupParcel_lookSteady (s) (z1) (z2) (z3) (z4) (z5) : OnFst LookSteady s (State.lookupParcel s z1 z2 z3 z4 z5) := by
  unfold State.lookupParcel
  extract_lets x1 x2 x3
  have hx1 : LookSteady s x1 := by
    unfold x1
    refine LookSteady.trans ?_ (.bumpBy (by decide))
    refine rel_ite ?_ ?_
    · exact LookSteady.refl _
    · exact .bumpBy (by decide)
  clear_value x1
  have hx3 : LookSteady s x3 := by
    unfold x3
    refine LookSteady.trans ?_ (.keeps (State.install_keeps _ _) rfl)
    assumption
  clear_value x3
  refine rel_ite ?_ ?_
  · refine onFst_mk ?_
    assumption
  · refine onFst_mk ?_
    refine LookSteady.trans ?_ (State.deny_lookSteady _)
    assumption

theorem State.lookupTable_lookSteady (s) (z1) (z2) (z3) (z4) (z5) : OnFst LookSteady s (State.lookupTable s z1 z2 z3 z4 z5) := by
  unfold State.lookupTable
  extract_lets x1 x2
  have hx1 : LookSteady s x1 := by
    unfold x1
    refine LookSteady.trans ?_ (.bumpBy (by decide))
    exact .bumpBy (by decide)
  clear_value x1
  split
  · rename_i y3
    refine rel_ite ?_ ?_
    · refine onFst_mk ?_
      refine LookSteady.trans ?_ (State.deny_lookSteady _)
      assumption
    · refine rel_ite ?_ ?_
      · refine onFst_mk ?_
        refine LookSteady.trans ?_ (State.deny_lookSteady _)
        assumption
      · refine onFst_mk ?_
        refine State.missed_lookSteady ?_ ?_
        · exact LookSteady.refl _
        · exact State.missHost_lookSteady _ _ _ _ _
  · rename_i y4
    refine rel_ite ?_ ?_
    · refine rel_ite ?_ ?_
      · refine onFst_mk ?_
        assumption
      · refine onFst_mk ?_
        refine LookSteady.trans ?_ (State.deny_lookSteady _)
        assumption
    · refine rel_ite ?_ ?_
      · refine onFst_mk ?_
        refine LookSteady.trans ?_ (State.deny_lookSteady _)
        assumption
      · refine onFst_mk ?_
        refine State.missed_lookSteady ?_ ?_
        · exact LookSteady.refl _
        · exact State.startWalk_lookSteady _ _

theorem State.lookup_lookSteady (s) (z1) (z2) (z3) (z4) : OnFst LookSteady s (State.lookup s z1 z2 z3 z4) := by
  unfold State.lookup
  refine rel_ite ?_ ?_
  · refine onFst_mk ?_
    exact LookSteady.refl _
  · split
    · rename_i y1 y2
      refine onFst_mk ?_
      exact State.deny_lookSteady _
    · rename_i y3 y4 y5
      refine rel_ite ?_ ?_
      · refine onFst_mk ?_
        refine LookSteady.trans ?_ (State.deny_lookSteady _)
        exact .bumpBy (by decide)
      · refine rel_ite ?_ ?_
        · refine onFst_mk ?_
          exact State.issueWalks_lookSteady _
        · split
          · rename_i y6 y7 y8 y9
            exact State.lookupParcel_lookSteady _ _ _ _ _ _
          · rename_i y10 y11
            split
            · rename_i y12 y13 y14
              refine onFst_mk ?_
              exact .bumpBy (by decide)
            · rename_i y15 y16
              refine rel_ite ?_ ?_
              · refine onFst_mk ?_
                exact State.issueWalks_lookSteady _
              · exact State.lookupTable_lookSteady _ _ _ _ _ _

theorem State.lookupTilth_lookSteady (s) (z1) (z2) (z3) : OnFst LookSteady s (State.lookupTilth s z1 z2 z3) := by
  unfold State.lookupTilth
  split
  · rename_i y1 y2
    refine onFst_mk ?_
    exact State.deny_lookSteady _
  · rename_i y3 y4 y5
    refine rel_ite ?_ ?_
    · refine onFst_mk ?_
      exact LookSteady.refl _
    · refine onFst_mk ?_
      exact State.deny_lookSteady _

theorem State.resolveAt_lookSteady (s) (z1) (z2) (z3) (z4) (z5) : OnFst LookSteady s (State.resolveAt s z1 z2 z3 z4 z5) := by
  unfold State.resolveAt
  split
  · rename_i y1
    exact State.lookup_lookSteady _ _ _ _ _
  · rename_i y2
    exact State.lookup_lookSteady _ _ _ _ _
  · rename_i y3 y4 y5
    exact State.lookupTilth_lookSteady _ _ _ _

theorem State.resolveStart_lookSteady (s) (z1) (z2) (z3) (z4) : OnFst LookSteady s (State.resolveStart s z1 z2 z3 z4) := by
  unfold State.resolveStart
  split
  · rename_i y1
    exact State.resolveAt_lookSteady _ _ _ _ _ _
  · rename_i y2
    exact State.resolveAt_lookSteady _ _ _ _ _ _
  · rename_i y3
    exact State.resolveAt_lookSteady _ _ _ _ _ _
  · rename_i y4
    split
    · rename_i y5 y6 y7
      refine rel_ite ?_ ?_
      · refine onFst_mk ?_
        exact LookSteady.refl _
      · refine onFst_mk ?_
        exact State.deny_lookSteady _
    · rename_i y8 y9
      refine onFst_mk ?_
      exact State.deny_lookSteady _
  · rename_i y10
    split
    · rename_i y11 y12 y13
      refine rel_ite ?_ ?_
      · refine onFst_mk ?_
        exact LookSteady.refl _
      · refine onFst_mk ?_
        exact State.deny_lookSteady _
    · rename_i y14 y15
      refine onFst_mk ?_
      exact State.deny_lookSteady _
  · rename_i y16 y17 y18 y19 y20 y21
    refine onFst_mk ?_
    exact LookSteady.refl _

theorem aheadLoop_lookSteady (z0) (s) (z2) (z3) (z4) (z5) (z6) (z7) : OnFst LookSteady s (aheadLoop z0 s z2 z3 z4 z5 z6 z7) := by
  induction z0 generalizing s z2 z3 z4 z5 z6 z7 with
  | zero =>
    unfold aheadLoop
    refine onFst_mk ?_
    exact LookSteady.refl _
  | succ n ih =>
    unfold aheadLoop
    refine rel_ite ?_ ?_
    · refine onFst_mk ?_
      exact LookSteady.refl _
    · split
      · rename_i y1 y2 y3
        exact ih _ _ _ _ _ _ _
      · rename_i y4 y5
        extract_lets x6 x7 x8 x9
        clear_value x6
        clear_value x7
        have hx8 : OnFst LookSteady s x8 := by
          unfold x8
          exact State.resolveAt_lookSteady _ _ _ _ _ _
        clear_value x8
        clear_value x9
        refine rel_ite ?_ ?_
        · exact ih _ _ _ _ _ _ _
        · split
          · rename_i y10 y11 y12 y13
            extract_lets x14
            clear_value x14
            refine LookSteady.trans ?_ (ih _ _ _ _ _ _ _)
            show LookSteady s _
            assumption
          · rename_i y15 y16
            refine LookSteady.trans ?_ (ih _ _ _ _ _ _ _)
            refine LookSteady.trans ?_ (State.failStream_lookSteady _ _ _ _ _)
            show LookSteady s _
            assumption
          · rename_i y17 y18
            refine rel_ite ?_ ?_
            · refine onFst_mk ?_
              show LookSteady s _
              assumption
            · refine LookSteady.trans ?_ (ih _ _ _ _ _ _ _)
              show LookSteady s _
              assumption

theorem State.sowRanges_lookSteady (s) (z1) (z2) (z3) : OnFst LookSteady s (State.sowRanges s z1 z2 z3) := by
  unfold State.sowRanges
  refine rel_foldl ?_ ?_
  · refine onFst_mk ?_
    exact LookSteady.refl _
  · intro a1 a2 a3
    refine rel_ite ?_ ?_
    · assumption
    · extract_lets x4 x5
      have hx5 : OnFst LookSteady s x5 := by
        unfold x5
        refine LookSteady.trans ?_ (State.resolveStart_lookSteady _ _ _ _ _)
        show LookSteady s _
        assumption
      clear_value x5
      split
      · rename_i y6 y7 y8 y9
        refine rel_ite ?_ ?_
        · refine onFst_mk ?_
          show LookSteady s _
          assumption
        · extract_lets x10
          refine onFst_mk ?_
          refine LookSteady.trans ?_ (.modSlot fun _ => rfl)
          show LookSteady s _
          assumption
      · rename_i y11 y12
        refine onFst_mk ?_
        refine LookSteady.trans ?_ (State.sowFail_lookSteady _ _ _ _ _)
        show LookSteady s _
        assumption
      · rename_i y13 y14
        refine onFst_mk ?_
        show LookSteady s _
        assumption

theorem State.slotAhead_lookSteady (s) (z1) (z2) : LookSteady s (State.slotAhead s z1 z2) := by
  unfold State.slotAhead
  split
  · rename_i y1 y2
    exact LookSteady.refl _
  · rename_i y3 y4 y5
    refine rel_ite ?_ ?_
    · exact LookSteady.refl _
    · refine rel_each ?_ ?_
      · exact LookSteady.refl _
      · intro a6 a7 a8
        extract_lets x9 x10 x11
        clear_value x9
        have hx11 : OnFst LookSteady s x11 := by
          unfold x11
          refine LookSteady.trans ?_ (aheadLoop_lookSteady _ _ _ _ _ _ _ _)
          assumption
        clear_value x11
        refine LookSteady.trans ?_ (.modSlot fun _ => rfl)
        show LookSteady s _
        assumption

theorem State.sowTail_lookSteady (s) (z1) (z2) : OnFst LookSteady s (State.sowTail s z1 z2) := by
  unfold State.sowTail
  split
  · rename_i y1 y2
    refine onFst_mk ?_
    exact LookSteady.refl _
  · rename_i y3 y4 y5
    extract_lets x6 x7
    clear_value x6
    have hx7 : OnFst LookSteady s x7 := by
      unfold x7
      exact State.lookup_lookSteady _ _ _ _ _
    clear_value x7
    split
    rename_i y8 y9 y10 y11
    have h12 : LookSteady s y9 := by
      refine onFst_ofEq ?_ y11
      refine rel_ite ?_ ?_
      · refine rel_ite ?_ ?_
        · refine onFst_mk ?_
          exact .modSlot fun _ => rfl
        · split
          · rename_i y13 y14 y15 y16
            refine onFst_mk ?_
            refine LookSteady.trans ?_ (.modSlot fun _ => rfl)
            show LookSteady s _
            assumption
          · rename_i y17 y18
            refine onFst_mk ?_
            refine LookSteady.trans ?_ (State.sowFail_lookSteady _ _ _ _ _)
            refine LookSteady.trans ?_ (.modSlot fun _ => rfl)
            show LookSteady s _
            assumption
          · rename_i y19 y20
            refine onFst_mk ?_
            show LookSteady s _
            assumption
      · refine onFst_mk ?_
        exact LookSteady.refl _
    refine rel_ite ?_ ?_
    · extract_lets x21 x22
      clear_value x21
      have hx22 : OnFst LookSteady s x22 := by
        unfold x22
        refine LookSteady.trans ?_ (State.lookup_lookSteady _ _ _ _ _)
        assumption
      clear_value x22
      split
      · rename_i y23 y24 y25 y26
        refine onFst_mk ?_
        refine LookSteady.trans ?_ (.modSlot fun _ => rfl)
        show LookSteady s _
        assumption
      · rename_i y27 y28
        refine onFst_mk ?_
        refine LookSteady.trans ?_ (State.sowFail_lookSteady _ _ _ _ _)
        refine LookSteady.trans ?_ (.modSlot fun _ => rfl)
        show LookSteady s _
        assumption
      · rename_i y29 y30
        refine onFst_mk ?_
        show LookSteady s _
        assumption
    · refine onFst_mk ?_
      assumption

end Sys2Proof.Machine
end

section
namespace Sys2Proof.Machine

/-! ### Ring reads (R348, R352) -/

/-- A furrow that is not DISABLED keeps all but its shadow's mark. -/
theorem ShadowsOnly.fur {s t : State} (steady : ShadowsOnly s.g.furrows t.g.furrows) (n : Nat) (on : (s.fur n).state ≠ .disabled) :
    ∃ b, t.fur n = { s.fur n with shadowQueued := b } := by
  cases found : kvFind s.g.furrows n with
  | none => exact absurd (by rw [State.fur, kvGet, found]; rfl) on
  | some f =>
    have here : s.fur n = f := by rw [State.fur, kvGet, found]; rfl
    rw [here] at on ⊢
    obtain ⟨b, found'⟩ := steady.kept n f found on
    exact ⟨b, by rw [State.fur, kvGet, found']; rfl⟩

theorem State.fur_setFur_on (s : State) (n : Nat) (f : Furrow) (on : f.state ≠ .disabled) : (s.setFur n f).fur n = f :=
  kvGet_kvSet_self _ _ _ _ fun blank => on (congrArg Furrow.state blank)

theorem highest_single (n : Nat) (p : Nat → Nat) : highest [n] p = [n] := by
  simp [highest]

theorem takeTurn_single (n last : Nat) : takeTurn [n] last = some n := by
  unfold takeTurn
  by_cases after : last < n <;> simp [after]

theorem State.fetches_of_fetchSize {s : State} {n : Nat} (room : 0 < s.fetchSize n) : (s.fur n).state ≠ .disabled := by
  intro off
  unfold State.fetchSize at room
  dsimp only at room
  rw [off, if_pos (by decide)] at room
  exact absurd room (Nat.lt_irrefl 0)

theorem State.request_leaves (s : State) (m : Tlp) (g : Nat) (may : s.mayRequest = true) (room : s.tagRoom false = true) (free : s.freeTag = some g) :
    ∃ t, s.request m = some (g, t) ∧ LookSteady s t ∧
      t.host.tags = s.host.tags ++ [{ tag := g, owner := m.owner, addr := m.addr, len := m.len, at_ := s.now }] := by
  simp only [State.mayRequest, Bool.and_eq_true, Bool.not_eq_true', beq_iff_eq] at may
  obtain ⟨⟨⟨⟨⟨up, -⟩, d0⟩, bme⟩, thawed⟩, noFlr⟩ := may
  have asks := s.request_lookSteady m false
  have goes : s.request m = some (g, (({ s with host := { s.host with tags := s.host.tags ++
      [{ tag := g, owner := m.owner, addr := m.addr, len := m.len, at_ := s.now }] } } : State).enqueue (s.addrType { m with tag := g })).drain) := by
    unfold State.request
    rw [thawed, noFlr, bme, d0, up, room, free]
    rfl
  refine ⟨_, goes, asks _ goes, ?_⟩
  rw [State.drain_tags]
  rfl

theorem Furrow.fetched_noGaps {f : Furrow} {k : Nat} (gaps : f.gaps = []) : f.fetched k = { f with fetching := f.fetching + k } := by
  simp only [Furrow.fetched, gaps]

theorem completes_ringFetch (s : State) (n : Fin 4096) (g : Nat) (only : s.furrowsOn.filter (fun m => decide (0 < s.fetchSize m)) = [n.val])
    (tags : s.fetcherTags < s.fetchTags.2) (hopper : s.hopperFree (64 * s.fetchSize n) = true) (may : s.mayRequest = true)
    (room : s.tagRoom false = true) (free : s.freeTag = some g) (noGaps : (s.fur n).gaps = []) :
    Completes (.ringFetch) s fun t =>
      (t.fur n).fetching = (s.fur n).fetching + s.fetchSize n ∧ (t.fur n).head = (s.fur n).head ∧ t.g.lastFetch = n ∧ (∃ u ∈ t.host.tags, u.tag = g ∧
      u.owner = .furrowRing n (((s.fur n).head + (s.fur n).fetching) % 2 ^ 32) (s.fetchSize n)) := by
  have listed : n.val ∈ s.furrowsOn.filter (fun m => decide (0 < s.fetchSize m)) := by rw [only]; exact List.mem_singleton_self _
  have on := State.fetches_of_fetchSize (of_decide_eq_true (List.mem_filter.1 listed).2)
  have from_ : s.fetchFrom n = ((((s.fur n).head + (s.fur n).fetching) % 2 ^ 32),
      ((s.fur n).tail + 2 ^ 32 - ((s.fur n).head + (s.fur n).fetching) % 2 ^ 32) % 2 ^ 32) := by
    rw [State.fetchFrom]
    dsimp only
    rw [noGaps]
  obtain ⟨t, asks, steady, held⟩ := s.request_leaves
    { kind := .memRead, addr := s.ringBase n + (s.fetchFrom n).1 % 2 ^ s.ringLog2 n * 64, len := 64 * s.fetchSize n,
      owner := .furrowRing n (s.fetchFrom n).1 (s.fetchSize n) } g may room free
  obtain ⟨b, kept⟩ := steady.furrows.fur n on
  have gaps : (t.fur n).gaps = [] := by rw [kept]; exact noGaps
  have fetched := Furrow.fetched_noGaps (k := s.fetchSize n) gaps
  let u := t.setFur n ((t.fur n).fetched (s.fetchSize n))
  have runs : exec .ringFetch s = .next { u with g := { u.g with lastFetch := n } } := by
    change execRingFetch s = _
    rw [execRingFetch, if_neg (Nat.not_le.2 tags), only, highest_single, takeTurn_single]
    dsimp only
    rw [if_pos hopper, asks]
  have here : u.fur n = { t.fur n with fetching := (t.fur n).fetching + s.fetchSize n } := by
    refine (t.fur_setFur_on n _ ?_).trans fetched
    rw [fetched, kept]
    exact on
  refine ⟨_, runs, ?_, ?_, rfl, ?_⟩
  · change (u.fur n).fetching = _
    rw [here, kept]
  · change (u.fur n).head = _
    rw [here, kept]
  · change ∃ u ∈ t.host.tags, _
    rw [held]
    exact ⟨_, List.mem_append_right _ (List.mem_singleton_self _), rfl, congrArg (Owner.furrowRing n · _) (congrArg Prod.fst from_)⟩

theorem State.ringFailed_fails (s : State) (n start k : Nat) (inv : Rises s.g.furrows) (regs : Rises s.reg) (on : (s.fur n).state = .enabled) :
    ((s.ringFailed n start k).fur n).state = .error ∧ ((s.ringFailed n start k).fur n).errCode = 0xD1 ∧
      ((s.ringFailed n start k).fur n).head = (s.fur n).head ∧
      (s.ringFailed n start k).fc.ring = s.fc.ring ++ [{ source := Sc.furrowRing, cap := { masterKind := 2, master := n } }] ∧
      bit ((s.ringFailed n start k).rg Rg.attnCause) At.furrowError = true := by
  unfold State.ringFailed
  extract_lets f ahead q lower u
  have here : u.fur n = { f with gaps := lower ++ [(start, k)] ++ f.gaps.filter (fun g => !lower.contains g) } := s.fur_setFur_same n _ inv
  let r := u.raise Sc.furrowRing { masterKind := 2, master := n }
  have furs : Rises r.g.furrows := kvSet_rises _ _ _ _ inv
  have fails : r.furrowFail n 0xD1 q = (r.setFur n { r.fur n with state := .error, errCode := 0xD1, errSeq := q }).attn At.furrowError := by
    have state : (r.fur n).state = .enabled := by
      change (u.fur n).state = _
      rw [here]
      exact on
    unfold State.furrowFail
    dsimp only
    rw [state]
  have after : ((r.furrowFail n 0xD1 q).fur n) = { u.fur n with state := .error, errCode := 0xD1, errSeq := q } := by
    rw [fails]
    exact r.fur_setFur_same n _ furs
  refine ⟨by rw [after], by rw [after], by rw [after, here], by rw [fails]; rfl, ?_⟩
  rw [fails]
  exact State.bit_attn _ _ regs

theorem completes_ringFault (s : State) (g : Nat) (n : Fin 4096) (k : Nat) (u : TagUse) (inv : s.Inv) (used : s.tagUse g = some u)
    (owner : u.owner = .furrowRing n (s.fur n).head k) (inUse : u.quar = .no) (on : (s.fur n).state = .enabled) :
    Completes (.ringFault g) s fun t =>
      (t.fur n).state = .error ∧ (t.fur n).errCode = 0xD1 ∧ (t.fur n).head = (s.fur n).head ∧
      t.fc.ring = s.fc.ring ++ [{ source := Sc.furrowRing, cap := { masterKind := 2, master := n } }] ∧
      bit (t.rg Rg.attnCause) At.furrowError = true := by
  obtain ⟨-, -, -, regs, -, -, -, furs, -⟩ := inv
  have runs : exec (.ringFault g) s = .next ((s.freeTagUse g).ringFailed n (s.fur n).head k) := by
    change execRingFault g s = _
    rw [execRingFault, used]
    dsimp only
    rw [inUse, if_neg (by decide), owner]
  exact ⟨_, runs, (s.freeTagUse g).ringFailed_fails n (s.fur n).head k furs regs on⟩

end Sys2Proof.Machine
end

section
namespace Sys2Proof.Machine

/-! ### Head write-backs (R341) -/

/-- The write of a furrow's shadow. -/
def State.shadowTlp (s : State) (n : Nat) : Tlp :=
  { kind := .memWrite, addr := s.shadowAddr n, data := natLe 4 (s.fur n).head ++ natLe 4 (s.fur n).tail, len := 8, owner := .shadow n }

theorem completes_headWriteback (s : State) (n : Fin 4096) (inv : s.Inv) (now : s.WritesNow) (due : (s.fur n).shadowDue = true)
    (idle : (s.fur n).shadowQueued = false) (en : s.shadowEn n = true) :
    Completes (.headWriteback n) s fun t =>
      (t.fur n).shadowDue = false ∧ t.host.wire = s.host.wire ++ [s.shadowTlp n] ∧ t.hbm = s.hbm := by
  obtain ⟨-, -, -, -, -, -, -, furs, -⟩ := inv
  obtain ⟨⟨-, -, -, -, -, noFlr⟩, -, -, thawed⟩ := id now
  let u := s.setFur n { s.fur n with shadowDue := false, shadowQueued := true }
  have runs : exec (.headWriteback n) s = .next (u.post (s.shadowTlp n)) := by
    change execHeadWriteback n s = _
    rw [execHeadWriteback, due, idle, en, thawed, noFlr]
    rfl
  have posts : u.post (s.shadowTlp n) = u.payPosted.left (s.shadowTlp n) :=
    u.post_leaves_now _ now rfl rfl rfl rfl (State.left_host · _)
  let v := u.payPosted
  let w : State := { v with host := { v.host with wire := v.host.wire ++ [s.shadowTlp n] } }
  have leaves_ : v.left (s.shadowTlp n) = w.setFur n { v.fur n with shadowQueued := false } := rfl
  have furs' : Rises v.g.furrows := kvSet_rises _ _ _ _ furs
  have here : v.fur n = { s.fur n with shadowDue := false, shadowQueued := true } := s.fur_setFur_same n _ furs
  refine ⟨_, runs, ?_⟩
  rw [posts, leaves_]
  refine ⟨?_, rfl, rfl⟩
  rw [w.fur_setFur_same n _ furs', here]

/-! ### The start point (R345, R358) -/

theorem State.slot_modSlot (s : State) (n q : Nat) (f : Slot → Slot) (keeps : ∀ x, (f x).furrow = x.furrow ∧ (f x).seq = x.seq) :
    (s.modSlot n q f).slot n q = (s.slot n q).map f := by
  unfold State.slot State.modSlot
  dsimp only
  rw [List.find?_map]
  have same : ((fun x : Slot => x.furrow == n && x.seq == q) ∘ fun x => if (x.furrow == n && x.seq == q) = true then f x else x) =
      fun x => x.furrow == n && x.seq == q := by
    funext x
    dsimp only [Function.comp]
    split
    · rw [(keeps x).1, (keeps x).2]
    · rfl
  rw [same]
  cases found : s.g.store.find? (fun x => x.furrow == n && x.seq == q) with
  | none => rfl
  | some x => exact congrArg some (if_pos (List.find?_some found))

theorem completes_startPointReached (s : State) (n : Fin 4096) (x : Slot) (front : s.front n = some x) (here : s.slot n x.seq = some x)
    (may : s.mayStart n = true) (sown : x.state = .sown) (open_ : x.result = none) (noWait : x.d.waitEn = false) (first : x.atStart = none) :
    Completes (.startPointReached n) s fun t => t.slot n x.seq = some { x with atStart := some s.now } ∧ t.reg = s.reg ∧ t.hbm = s.hbm := by
  let f (y : Slot) : Slot := { y with atStart := (match y.atStart with | some t => some t | none => some s.now) }
  have runs : exec (.startPointReached n) s = .next (s.modSlot n x.seq f) := by
    change execStartPointReached n s = _
    rw [execStartPointReached, front]
    dsimp only
    rw [may, sown, if_neg (by decide), open_]
    dsimp only
    rw [noWait]
    rfl
  refine ⟨_, runs, ?_, rfl, rfl⟩
  rw [State.slot_modSlot s n x.seq f fun y => ⟨rfl, rfl⟩, here]
  simp only [Option.map_some, f, first]

/-! ### Sowing (R454) -/

theorem State.slot_single {s : State} {x : Slot} {n q : Nat} (only : s.g.store = [x]) (mine : x.furrow = n) (at_ : x.seq = q) : s.slot n q = some x := by
  simp [State.slot, only, mine, at_]

theorem Slot.passed_of_unsown {x : Slot} (unsown : x.state = .unsown) (noWait : x.d.waitEn = false) : x.passed = false := by
  simp [Slot.passed, armedStamp, unsown, noWait]

theorem State.sowWindow_single {s : State} {x : Slot} {n : Nat} (only : s.g.store = [x]) (mine : x.furrow = n) (waits : x.passed = false) :
    s.sowWindow n = [x] := by
  simp [State.sowWindow, State.slotsOf, only, mine, waits]

/-- A NOP that asks for nothing becomes SOWN. -/
def Slot.nopSown (s : State) (y : Slot) : Slot :=
  { y with state := .sown, harrow := [], tile := fld (s.rg Rg.platCtrl) 4 0, tiles := fld (s.rg Rg.platCtrl) 12 8 }

theorem State.sowTail_plain {s : State} {n q : Nat} {x : Slot} (here : s.slot n q = some x) (noStamp : x.d.stampEn = false)
    (noRecord : x.d.recordEn = false) : s.sowTail n q = (s, false) := by
  simp [State.sowTail, here, noStamp, noRecord]

theorem State.slotAhead_nop {s : State} {n q : Nat} {x : Slot} (here : s.slot n q = some x) (nop : x.d.opcode = 0) : s.slotAhead n q = s := by
  have none_ : descRanges x.d x.harrow = [] := by simp [descRanges, nop]
  unfold State.slotAhead
  rw [here]
  dsimp only
  rw [none_]
  split
  · rfl
  · rfl

theorem State.sowTry_nop {s : State} {n q : Nat} {x : Slot} (here : s.slot n q = some x) (unsown : x.state = .unsown) (open_ : x.result = none)
    (nop : x.d.opcode = 0) (noWait : x.d.waitEn = false) (noSignal : x.d.signalEn = false) (noStamp : x.d.stampEn = false)
    (noRecord : x.d.recordEn = false) : s.sowTry n q = s.modSlot n q (Slot.nopSown s) := by
  have ranges (h : List Nat) : descRanges x.d h = [] := by simp [descRanges, nop]
  have harrow : s.harrowOf x.d = [] := by simp [State.harrowOf, nop]
  have tail := State.sowTail_plain here noStamp noRecord
  have after : (s.modSlot n q (Slot.nopSown s)).slot n q = some (Slot.nopSown s x) := by
    rw [State.slot_modSlot s n q (Slot.nopSown s) fun y => ⟨rfl, rfl⟩, here]
    rfl
  have ahead := State.slotAhead_nop after (show (Slot.nopSown s x).d.opcode = 0 from nop)
  have sows : s.sowRanges n q [] = (s, false) := rfl
  unfold State.sowTry
  simp only [here, unsown, open_, noWait, noSignal, noStamp, noRecord, ranges, harrow, sows, tail, ahead, Bool.false_and, Bool.false_or,
    Option.isSome_none, if_neg Bool.false_ne_true]
  exact ahead

theorem completes_descriptorSown (s : State) (n : Fin 4096) (x : Slot) (only : s.g.store = [x]) (mine : x.furrow = n) (unsown : x.state = .unsown)
    (open_ : x.result = none) (nop : x.d.opcode = 0) (noWait : x.d.waitEn = false) (noSignal : x.d.signalEn = false) (noStamp : x.d.stampEn = false)
    (noRecord : x.d.recordEn = false) (on : (s.fur n).state = .enabled) :
    Completes (.descriptorSown n x.seq) s fun t =>
      (t.slot n x.seq).map (fun y => (y.state, y.result)) = some (.sown, none) ∧ t.hbm = s.hbm := by
  have here := State.slot_single only mine rfl
  have window := State.sowWindow_single only mine (Slot.passed_of_unsown unsown noWait)
  have sows := State.sowTry_nop here unsown open_ nop noWait noSignal noStamp noRecord
  have runs : exec (.descriptorSown n x.seq) s = .next (s.modSlot n x.seq (Slot.nopSown s)) := by
    change execDescriptorSown n x.seq s = _
    rw [execDescriptorSown, on, window, sows]
    simp
  refine ⟨_, runs, ?_, rfl⟩
  rw [State.slot_modSlot s n x.seq (Slot.nopSown s) fun y => ⟨rfl, rfl⟩, here]
  exact congrArg (fun r => some (DescState.sown, r)) open_

/-! ### A wait at the start point (R402) -/

theorem State.sowTry_looks {s : State} {n q : Nat} {x : Slot} (here : s.slot n q = some x) (tried : x.state ≠ .unsown) :
    LookSteady s (s.sowTry n q) := by
  unfold State.sowTry
  rw [here]
  dsimp only
  split
  · exact .refl s
  · rw [if_pos (by simpa using tried)]
    exact s.slotAhead_lookSteady n q

theorem State.furrow_of_front {s : State} {n : Nat} {x : Slot} (front : s.front n = some x) : x.furrow = n :=
  beq_iff_eq.1 (List.mem_filter.1 (List.mem_of_find?_eq_some front)).2

/-- A lone slot keeps its standing under lookups. -/
theorem LookSteady.slot_single {s t : State} {x : Slot} (steady : LookSteady s t) (only : s.g.store = [x]) :
    ∃ y, t.slot x.furrow x.seq = some y ∧ y.standing = x.standing := by
  have kept := steady.store
  rw [only] at kept
  obtain ⟨y, only', same⟩ := List.map_eq_singleton_iff.1 kept
  refine ⟨y, State.slot_single only' ?_ ?_, same⟩
  · exact congrArg Prod.fst same
  · exact congrArg (fun z => z.2.1) same

theorem completes_startPointReached_waits (s : State) (n : Fin 4096) (x : Slot) (h : Nat) (front : s.front n = some x) (only : s.g.store = [x])
    (may : s.mayStart n = true) (sown : x.state = .sown) (open_ : x.result = none) (waits : x.d.waitEn = true) (free : x.wait = none)
    (unmet : x.waitMet = false) (plain : armedStamp x.d = false) (right : s.stakeOk (.furrow n) x.d.waitStake = true)
    (handle : s.freeHandle (.desc n x.seq) = some h)
    (below : condMet (x.d.waitCond == 1) (s.stake x.d.waitStake) x.d.waitValue = false) (settled : s.Settled) (none_ : s.g.waits = []) :
    Completes (.startPointReached n) s fun t =>
      (t.slot n x.seq).map (fun y => (y.state, y.wait)) = some (.waiting, some h) ∧ (∃ w ∈ t.g.waits, w.handle = h ∧ w.stake = x.d.waitStake ∧
      w.value = x.d.waitValue ∧ w.equal = (x.d.waitCond == 1) ∧ w.who = .desc n x.seq) := by
  have mine := State.furrow_of_front front
  let y : Slot := { x with state := .waiting, wait := some h }
  let m := s.modSlot n x.seq (fun y => { y with state := .waiting, wait := some h })
  obtain ⟨u, places, placed⟩ := m.placeWait_places x.d.waitStake (x.d.waitCond == 1) x.d.waitValue (.desc n x.seq) h handle below
    (fun w listed => absurd (none_ ▸ listed) List.not_mem_nil)
  obtain ⟨placedWaits, -, met, furrows, staging, store, -, -⟩ := placed
  have store : u.g.store = [y] := by
    rw [store]
    simp [m, y, State.modSlot, only, mine]
  have passed : y.passed = false := by
    change ((DescState.waiting == .started) || (armedStamp x.d && _)) = false
    rw [plain]
    rfl
  have window : u.sowWindow n = [y] := State.sowWindow_single store mine passed
  have here : u.slot n y.seq = some y := State.slot_single store mine rfl
  have steady : LookSteady u (u.sowTry n y.seq) := State.sowTry_looks here (by simp [y])
  have runs : exec (.startPointReached n) s = .next (u.sowTry n y.seq) := by
    have ahead : u.settleStakes.sowAhead n = u.sowTry n y.seq := by
      rw [State.settleStakes_none u (settled.of_same met furrows staging), State.sowAhead, window]
      rfl
    change execStartPointReached n s = _
    rw [execStartPointReached, front]
    dsimp only
    rw [may, sown, if_neg (by decide), open_]
    dsimp only
    rw [waits, unmet, if_neg (by decide), free, if_neg (by decide), right, if_neg (by decide), plain, if_neg (by decide), handle, places]
    exact congrArg Host.Outcome.next ahead
  refine ⟨_, runs, ?_, ?_⟩
  · obtain ⟨z, found, same⟩ := steady.slot_single store
    have at_ : y.furrow = n := mine
    rw [at_] at found
    change ((u.sowTry n y.seq).slot n y.seq).map _ = _
    rw [found]
    exact congrArg some (congrArg (fun k => (k.2.2.1, k.2.2.2)) same)
  · have listed : (u.sowTry n y.seq).g.waits = u.g.waits := by rw [steady.g]
    have none_ : m.g.waits = [] := none_
    rw [none_, List.map_nil, List.nil_append] at placedWaits
    obtain ⟨w, only', same⟩ := List.map_eq_singleton_iff.1 placedWaits
    simp only [Prod.mk.injEq] at same
    obtain ⟨handle, stake, equal, value, who⟩ := same
    exact ⟨w, by rw [listed, only']; exact List.mem_singleton_self w, handle, stake, value, equal, who⟩

end Sys2Proof.Machine
end

section
namespace Sys2Proof.Machine

/-! ### Sowing leaves the store's room (R354) -/

/-- What sowing keeps: of the store whose slots are held, of the furrows all but their shadows' marks. -/
structure SowSteady (s t : State) : Prop where
  objs : Rises s.od → Rises t.od ∧ ∀ k, unlookedObject k = true → t.val k = s.val k
  g : t.g = { s.g with furrows := t.g.furrows, store := t.g.store }
  furrows : ShadowsOnly s.g.furrows t.g.furrows
  slots : t.g.store.map Slot.furrow = s.g.store.map Slot.furrow

theorem LookSteady.sows {s t : State} (h : LookSteady s t) : SowSteady s t where
  objs := h.objs
  g := h.g
  furrows := h.furrows
  slots := by
    have firsts := congrArg (List.map Prod.fst) h.store
    rwa [List.map_map, List.map_map] at firsts

theorem SowSteady.trans {s t u : State} (h : SowSteady s t) (g : SowSteady t u) : SowSteady s u where
  objs r := by
    obtain ⟨r', hv⟩ := h.objs r
    obtain ⟨r'', gv⟩ := g.objs r'
    exact ⟨r'', fun k free => (gv k free).trans (hv k free)⟩
  g := by rw [g.g, h.g]
  furrows := h.furrows.trans g.furrows
  slots := g.slots.trans h.slots

theorem SowSteady.modSlot {s : State} {n q : Nat} {f : Slot → Slot} (keeps : ∀ x, (f x).furrow = x.furrow) : SowSteady s (s.modSlot n q f) where
  objs h := ⟨h, fun _ _ => rfl⟩
  g := rfl
  furrows := .refl _
  slots := by
    unfold State.modSlot
    rw [List.map_map]
    refine List.map_congr_left fun x _ => ?_
    dsimp only [Function.comp]
    split
    · exact keeps x
    · rfl

theorem State.sowTry_sows (s : State) (n q : Nat) : SowSteady s (s.sowTry n q) := by
  unfold State.sowTry
  split
  · exact (LookSteady.refl s).sows
  · rename_i x here
    refine rel_ite ?_ ?_
    · exact (LookSteady.refl s).sows
    · refine rel_ite ?_ ?_
      · exact (s.slotAhead_lookSteady n q).sows
      · extract_lets h
        split
        rename_i a w ranges
        have sowed : LookSteady s a := by
          refine onFst_ofEq ?_ ranges
          refine rel_ite ?_ ?_
          · exact .refl s
          · exact s.sowRanges_lookSteady _ _ _
        extract_lets b failed
        have checked : LookSteady s b := by
          unfold b
          refine rel_ite ?_ ?_
          · exact sowed.trans (a.sowFail_lookSteady _ _ _ _)
          · exact sowed
        clear_value b failed
        split
        rename_i c w' tail
        have looked : LookSteady s c := by
          refine onFst_ofEq ?_ tail
          exact checked.trans (b.sowTail_lookSteady _ _)
        refine rel_ite ?_ ?_
        · exact looked.sows
        · refine rel_ite ?_ ?_
          · exact looked.sows
          · refine SowSteady.trans ?_ (State.slotAhead_lookSteady _ n q).sows
            refine looked.sows.trans (.modSlot ?_)
            exact fun _ => rfl

theorem State.sowAhead_sows (s : State) (n : Nat) : SowSteady s (s.sowAhead n) :=
  rel_each (LookSteady.refl s).sows fun t x h => h.trans (t.sowTry_sows n x.seq)

/-! ### The room for slots (R354) -/

theorem State.length_slotsOf (s : State) (n : Nat) : (s.slotsOf n).length = ((s.g.store.map Slot.furrow).filter (· == n)).length := by
  rw [State.slotsOf, List.filter_map, List.length_map]
  rfl

theorem State.slotRoom_congr {s t : State} (n : Nat) (reg : t.reg = s.reg) (on : t.furrowsOn = s.furrowsOn)
    (slots : t.g.store.map Slot.furrow = s.g.store.map Slot.furrow) : t.slotRoom n false = s.slotRoom n false := by
  have length : t.g.store.length = s.g.store.length := by
    have := congrArg List.length slots
    rwa [List.length_map, List.length_map] at this
  have own (m : Nat) : t.ownSlots m false = s.ownSlots m false := by
    simp only [State.ownSlots, State.length_slotsOf, slots, if_neg Bool.false_ne_true]
  simp only [State.slotRoom, State.storeMax, State.storeMin, State.rg, reg, on, own, length, if_neg Bool.false_ne_true]

theorem State.slotRoom_pushed {s t : State} (n : Nat) (reg : t.reg = s.reg) (on : t.furrowsOn = s.furrowsOn)
    (slots : t.g.store.map Slot.furrow = s.g.store.map Slot.furrow ++ [n]) : s.slotRoom n false ≤ t.slotRoom n false + 1 := by
  have length : t.g.store.length = s.g.store.length + 1 := by
    have := congrArg List.length slots
    rwa [List.length_map, List.length_append, List.length_map, List.length_singleton] at this
  have own : t.ownSlots n false = s.ownSlots n false + 1 := by
    simp [State.ownSlots, State.length_slotsOf, slots]
  have others : (t.furrowsOn.filter (fun m => m != n)).map (fun m => t.storeMin m - t.ownSlots m false) =
      (s.furrowsOn.filter (fun m => m != n)).map (fun m => s.storeMin m - s.ownSlots m false) := by
    rw [on]
    refine List.map_congr_left fun m listed => ?_
    have other : n ≠ m := fun e => by simp [e] at listed
    have same : t.ownSlots m false = s.ownSlots m false := by
      simp [State.ownSlots, State.length_slotsOf, slots, other]
    rw [same, State.storeMin, State.storeMin, State.rg, State.rg, reg]
  have most : t.storeMax n = s.storeMax n := by rw [State.storeMax, State.storeMax, State.rg, State.rg, reg]
  have least : t.storeMin n = s.storeMin n := by rw [State.storeMin, State.storeMin, State.rg, State.rg, reg]
  simp only [State.slotRoom, own, others, most, least, length, if_neg Bool.false_ne_true, Nat.add_zero]
  omega

/-! ### Acceptance of ring entries (R352, R354) -/

theorem State.furrowsOn_setFur (s : State) (n : Nat) (f : Furrow) (same : f.state = (s.fur n).state) : (s.setFur n f).furrowsOn = s.furrowsOn := by
  change onFurrows (kvSet {} s.g.furrows n f) = onFurrows s.g.furrows
  unfold kvSet
  split
  · rename_i blank
    exact onFurrows_kvErase _ n (same.symm.trans (congrArg Furrow.state blank))
  · exact onFurrows_kvPut _ n f same

/-- A descriptor is appended to the store under the furrow's SEQ. -/
structure Pushed (s : State) (n : Nat) (t : State) : Prop where
  fur : t.fur n = { s.fur n with seq := ((s.fur n).seq + 1) % 2 ^ 32 }
  on : t.furrowsOn = s.furrowsOn
  slots : t.g.store.map Slot.furrow = s.g.store.map Slot.furrow ++ [n]
  staging : t.g.staging = s.g.staging
  od : Rises t.od
  count : t.val O.ringEntries = s.val O.ringEntries

theorem State.pushSlot_pushed (s : State) (n : Nat) (d : Desc) (r : Option (Nat × Nat × Nat)) (od : Rises s.od) (furs : Rises s.g.furrows) :
    Pushed s n (s.pushSlot n d false r) := by
  unfold State.pushSlot
  extract_lets f x u _ v w y
  have wg : w.g = v.g ∧ Rises w.od ∧ w.val O.ringEntries = v.val O.ringEntries := by
    unfold w
    split
    · exact ⟨(v.bump_keeps _).kg rfl, State.bump_rises _ od, State.val_bump_other od (by decide) (by decide)⟩
    · exact ⟨rfl, od, rfl⟩
  have yg : y.g = w.g ∧ Rises y.od ∧ y.val O.ringEntries = w.val O.ringEntries := by
    unfold y
    split
    · exact ⟨(w.setVal_keeps _ _).kg rfl, w.setVal_rises _ _ wg.2.1, by rw [State.val_setVal _ _ _ _ wg.2.1, if_neg (by decide)]⟩
    · exact ⟨rfl, wg.2.1, rfl⟩
  obtain ⟨wg, -, wcount⟩ := wg
  obtain ⟨yg, yod, ycount⟩ := yg
  have g : y.g = v.g := yg.trans wg
  rw [if_neg Bool.false_ne_true]
  refine ⟨?_, ?_, ?_, by rw [g]; rfl, yod, ycount.trans wcount⟩
  · rw [State.fur, g]
    exact s.fur_setFur_same n _ furs
  · rw [State.furrowsOn, g]
    exact s.furrowsOn_setFur n _ rfl
  · rw [g]
    exact List.map_append

/-- The entries from index i on that were read and are still to be accepted. -/
def entriesLeft (i k : Nat) (d : List Byte) : List (Nat × Nat × List Byte) := if k = 0 then [] else [(i, k, d)]

/-- Furrow n is ENABLED and may accept the k entries at HEAD that were read, and has nothing else to accept. -/
structure MayAccept (s : State) (n k : Nat) (d : List Byte) : Prop where
  inv : s.Inv
  on : (s.fur n).state = .enabled
  early : (s.fur n).early = entriesLeft (s.fur n).head k d
  staged : s.stagedOf n = []
  thawed : s.host.frozen = false
  room : k ≤ s.slotRoom n false

/-- k entries were accepted. -/
structure Accepted (s : State) (n k : Nat) (t : State) : Prop where
  head : (t.fur n).head = ((s.fur n).head + k) % 2 ^ 32
  seq : (t.fur n).seq = ((s.fur n).seq + k) % 2 ^ 32
  tail : (t.fur n).tail = (s.fur n).tail
  count : t.val O.ringEntries = (s.val O.ringEntries + k) % 2 ^ 64

/-- An entry is taken off a furrow's ring. -/
def Furrow.tookOne (f : Furrow) (rest : List (Nat × Nat × List Byte)) (shadow : Bool) : Furrow :=
  { f with head := (f.head + 1) % 2 ^ 32, fetching := f.fetching - 1, early := rest, shadowDue := f.shadowDue || shadow }

theorem State.takeEntry_accepts (s : State) (n k : Nat) (d : List Byte) (may : MayAccept s n (k + 1) d) :
    Accepted s n 1 (s.takeEntry n ((s.fur n).head, k + 1, d)) ∧ MayAccept (s.takeEntry n ((s.fur n).head, k + 1, d)) n k (d.drop 64) := by
  obtain ⟨inv, on, early, staged, thawed, room⟩ := may
  have keeps := s.takeEntry_keeps n ((s.fur n).head, k + 1, d)
  have inv' := keeps.kinv inv
  have reg := keeps.kreg rfl
  have host := (s.takeEntry_steady n ((s.fur n).head, k + 1, d)).host
  obtain ⟨-, -, od, -, -, -, -, furs, -⟩ := inv
  generalize taken : s.takeEntry n ((s.fur n).head, k + 1, d) = t at *
  unfold State.takeEntry at taken
  extract_lets f rest u at taken
  have left : f.early.filter (fun x => x.1 != f.head) = [] := by
    rw [early, entriesLeft, if_neg (Nat.succ_ne_zero k)]
    simp [f]
  have rest_ : rest = entriesLeft ((f.head + 1) % 2 ^ 32) k (d.drop 64) := by
    unfold rest entriesLeft
    cases k with
    | zero => rfl
    | succ k => rw [if_neg (show ¬ k + 1 + 1 ≤ 1 by omega), if_neg (Nat.succ_ne_zero k)]; rfl
  let a := u.bump O.ringEntries
  have aod : Rises a.od := State.bump_rises _ od
  have ag : a.g = u.g := (u.bump_keeps _).kg rfl
  have acount : a.val O.ringEntries = (s.val O.ringEntries + 1) % 2 ^ 64 := State.val_bump u _ od (by decide)
  unfold State.accept at taken
  extract_lets c b at taken
  have denies : LookSteady a b := rel_ite (.bumpBy (by decide)) (.refl a)
  have bod := (denies.objs aod).1
  have bg : b.g = a.g := by
    unfold b
    split
    · exact (a.deny_keeps).kg rfl
    · rfl
  have bfur : b.fur n = f.tookOne rest (s.shadowEn n) := by
    rw [State.fur, bg, ag]
    refine (s.fur_setFur_same n _ furs).trans ?_
    rw [left, List.append_nil]
    rfl
  have bfurs : Rises b.g.furrows := by
    rw [bg, ag]
    exact kvSet_rises _ _ _ _ furs
  let r : Option (Nat × Nat × Nat) := if c = 0 then none else some (c, 0, 0)
  let p := b.pushSlot n (parseDesc (d.take 64)) false r
  obtain ⟨pfur, pon, pslots, pstaging, pod, pcount⟩ : Pushed b n p := b.pushSlot_pushed n _ r bod bfurs
  have sows : SowSteady p t := taken ▸ p.sowAhead_sows n
  rw [bfur] at pfur
  obtain ⟨m, tfur⟩ := sows.furrows.fur n (by rw [pfur]; exact fun off => absurd (on.symm.trans off) (by decide))
  rw [pfur] at tfur
  have count : t.val O.ringEntries = (s.val O.ringEntries + 1) % 2 ^ 64 := by
    rw [(sows.objs pod).2 _ (by decide), pcount, (denies.objs aod).2 _ (by decide), acount]
  have slots : t.g.store.map Slot.furrow = s.g.store.map Slot.furrow ++ [n] := by
    rw [sows.slots, pslots, bg, ag]
    rfl
  have onSame : t.furrowsOn = s.furrowsOn := by
    refine (sows.furrows.on.trans pon).trans ?_
    rw [State.furrowsOn, bg, ag]
    exact s.furrowsOn_setFur n _ rfl
  have staging : t.g.staging = s.g.staging := by
    rw [sows.g, pstaging, bg, ag]
    rfl
  refine ⟨⟨by rw [tfur]; rfl, by rw [tfur]; rfl, by rw [tfur]; rfl, count⟩, ⟨inv', by rw [tfur]; exact on, ?_, ?_, ?_, ?_⟩⟩
  · rw [tfur]
    exact rest_
  · rw [State.stagedOf, staging]
    exact staged
  · rw [host]
    exact thawed
  · have := State.slotRoom_pushed n reg onSame slots
    omega

theorem State.takeNext_entry {s : State} {n k : Nat} {d : List Byte} (may : MayAccept s n (k + 1) d) :
    s.takeNext n = some (s.takeEntry n ((s.fur n).head, k + 1, d)) := by
  obtain ⟨-, on, early, staged, thawed, room⟩ := may
  have found : (s.fur n).early.find? (fun e => e.1 == (s.fur n).head) = some ((s.fur n).head, k + 1, d) := by
    rw [early, entriesLeft, if_neg (Nat.succ_ne_zero k)]
    simp
  have some_ : s.slotRoom n false ≠ 0 := by omega
  unfold State.takeNext
  dsimp only
  rw [thawed, if_neg (by simpa using some_), on, staged, found]
  rfl

theorem takeLoop_accepts (n k : Nat) : ∀ (s : State) (d : List Byte), MayAccept s n (k + 1) d → Accepted s n (k + 1) (takeLoop (k + 1) s n) := by
  induction k with
  | zero =>
    intro s d may
    rw [takeLoop, State.takeNext_entry may]
    exact (s.takeEntry_accepts n 0 d may).1
  | succ k ih =>
    intro s d may
    obtain ⟨⟨head, seq, tail, count⟩, next⟩ := s.takeEntry_accepts n (k + 1) d may
    obtain ⟨head', seq', tail', count'⟩ := ih _ _ next
    rw [takeLoop, State.takeNext_entry may]
    refine ⟨?_, ?_, tail'.trans tail, ?_⟩
    · rw [head', head]; omega
    · rw [seq', seq]; omega
    · rw [count', count]; omega

theorem State.ringDone_enabled {s : State} {n start k : Nat} {d : List Byte} (on : (s.fur n).state = .enabled) :
    s.ringDone n start k d = (s.setFur n { s.fur n with early := (s.fur n).early ++ [(start, k, d)] }).acceptAll n := by
  unfold State.ringDone
  dsimp only
  split
  · rfl
  · rfl
  · rfl
  · rename_i other _ _
    exact absurd on other

theorem completes_ringEntriesReceived (s : State) (g : Nat) (d : List Byte) (n : Fin 4096) (k : Nat) (u : TagUse) (inv : s.Inv)
    (used : s.tagUse g = some u) (owner : u.owner = .furrowRing n (s.fur n).head k) (inUse : u.quar = .no) (on : (s.fur n).state = .enabled)
    (early : (s.fur n).early = []) (staged : s.stagedOf n = []) (some_ : 1 ≤ k) (thawed : s.host.frozen = false) (room : k ≤ s.slotRoom n false) :
    Completes (.ringEntriesReceived g d) s fun t =>
      (t.fur n).head = ((s.fur n).head + k) % 2 ^ 32 ∧ (t.fur n).seq = ((s.fur n).seq + k) % 2 ^ 32 ∧ (t.fur n).tail = (s.fur n).tail ∧
      t.val O.ringEntries = (s.val O.ringEntries + k) % 2 ^ 64 := by
  obtain ⟨k, rfl⟩ : ∃ j, k = j + 1 := ⟨k - 1, by omega⟩
  obtain ⟨-, -, -, -, -, -, -, furs, -⟩ := id inv
  let f : Furrow := { s.fur n with early := (s.fur n).early ++ [((s.fur n).head, k + 1, d)] }
  have arrived : f.early = [((s.fur n).head, k + 1, d)] := congrArg (· ++ _) early
  let v := s.freeTagUse g
  let w := v.setFur n f
  have here : w.fur n = f := v.fur_setFur_same n f furs
  have inv' : w.Inv := (v.setFur_keeps n f).kinv ((s.freeTagUse_keeps g).kinv inv)
  have room' : w.slotRoom n false = s.slotRoom n false := State.slotRoom_congr n rfl (v.furrowsOn_setFur n f rfl) rfl
  have may : MayAccept w n (k + 1) d :=
    ⟨inv', by rw [here]; exact on, by rw [here]; exact arrived, staged, thawed, by rw [room']; exact room⟩
  have fuel : w.toAccept n = k + 1 := by
    have none_ : w.stagedOf n = [] := staged
    rw [State.toAccept, none_, here, arrived]
    simp
  have runs : exec (.ringEntriesReceived g d) s = .next (takeLoop (k + 1) w n) := by
    have accepts : v.ringDone n (s.fur n).head (k + 1) d = takeLoop (k + 1) w n := by
      rw [State.ringDone_enabled (s := v) on]
      change w.acceptAll n = _
      rw [State.acceptAll, fuel]
    change execRingEntriesReceived g d s = _
    rw [execRingEntriesReceived, used]
    dsimp only
    rw [inUse, if_neg (by decide), owner]
    exact congrArg Host.Outcome.next accepts
  obtain ⟨head, seq, tail, count⟩ := takeLoop_accepts n k w d may
  rw [here] at head seq tail
  exact ⟨_, runs, head, seq, tail, count⟩

/-- Settles O3: ring reads, acceptance, head write-backs, sowing and the start point, one lemma per clause. -/
theorem furrowFetchAndStartComplete : Obligations.FurrowFetchAndStartComplete :=
  ⟨completes_ringFetch, completes_ringEntriesReceived, completes_ringFault, completes_headWriteback,
    fun s n x only mine unsown open_ nop noWait noSignal noStamp noRecord on =>
      completes_descriptorSown s n x only mine unsown open_ nop noWait noSignal noStamp noRecord on,
    completes_startPointReached, completes_startPointReached_waits⟩

end Sys2Proof.Machine
end

section
namespace Sys2Proof.Machine

/-! ### Epochs (R659-R661) -/

theorem State.each_no_gateways (s : State) (f : State → Nat → State) (noPorts : s.gatewayPorts = []) : s.each s.gatewayPorts f = s := by
  rw [noPorts]
  rfl

/-- Rack Time set to an epoch of its own at a pulse. -/
def RackTime.pulsed (x : RackTime) (now want e : Nat) (slew error : Int) (state : RtState) : RackTime :=
  { x with
    base := want % 2 ^ 64, baseAt := now, slew := slew, running := true, epoch := e, lastSeen := some now, lastPulse := some now, missing := 0,
    announced := none, lastError := error, state := state }

theorem State.gatewayPorts_of_same {s t : State} (fab : t.fab = s.fab) (slice : t.slice = s.slice) : t.gatewayPorts = s.gatewayPorts := by
  simp only [State.gatewayPorts, State.port, fab, slice]

/-- How far Rack Time is off the epoch that begins. -/
def State.epochError (s : State) : Int := (s.rackTime : Int) - ((s.nextEpoch * epochUnits : Nat) : Int)

theorem State.pulse_without_gateways (s : State) (noPorts : s.gatewayPorts = []) :
    ∃ (u : State) (slew error : Int), Keeps 4 s u ∧
      s.pulse = { u with time := RackTime.pulsed u.time u.now (s.nextEpoch * epochUnits) s.nextEpoch slew error u.rtAfter } := by
  obtain ⟨u, stepped⟩ : ∃ u : State, u = (if s.epochError.natAbs ≤ slewUnits then s else s.bump O.rtSteps) := ⟨_, rfl⟩
  have keeps : Keeps 4 s u := by
    rw [stepped]
    exact Keeps.ite (Keeps.refl _ s) (s.bump_keeps _)
  refine ⟨u, if decide (s.epochError.natAbs ≤ slewUnits) && s.time.running then s.epochError else 0, s.epochError * 1000 / 65536, keeps, ?_⟩
  rw [State.pulse]
  dsimp only
  rw [State.epochError] at stepped
  rw [← stepped]
  exact State.each_no_gateways _ _ ((State.gatewayPorts_of_same (keeps.kfab rfl) (keeps.kslice rfl)).trans noPorts)

theorem State.pulse_quiet (s : State) (noPorts : s.gatewayPorts = []) (e : Nat) (next : e = s.nextEpoch) :
    s.pulse.now = s.now ∧ s.pulse.time.epoch = e ∧ s.pulse.time.base = e * 65536000000 % 2 ^ 64 ∧ s.pulse.time.baseAt = s.now ∧
      s.pulse.time.running = true ∧ s.pulse.time.missing = 0 ∧ s.pulse.time.announced = none ∧ s.pulse.time.state = s.rtAfter ∧
      s.pulse.fab = s.fab ∧ s.pulse.hbm = s.hbm ∧ s.pulse.slice = s.slice ∧ s.pulse.g = s.g := by
  obtain ⟨u, slew, error, keeps, pulsed⟩ := s.pulse_without_gateways noPorts
  have after : u.rtAfter = s.rtAfter := by simp only [State.rtAfter, keeps.ktime rfl, keeps.kpwr rfl]
  rw [pulsed, next]
  exact ⟨keeps.know rfl, rfl, rfl, keeps.know rfl, rfl, rfl, rfl, after, keeps.kfab rfl, keeps.khbm rfl, keeps.kslice rfl, keeps.kg rfl⟩

theorem completes_epochPulse (s : State) (at_ e : Nat) (spaced : ∀ x ∈ s.time.lastSeen, x + 900000 ≤ max s.now at_) (noPorts : s.gatewayPorts = [])
    (next : e = s.nextEpoch) :
    Completes (.epochPulse at_) s fun t =>
      t.now = max s.now at_ ∧ t.time.epoch = e ∧ t.time.base = e * 65536000000 % 2 ^ 64 ∧ t.time.baseAt = t.now ∧ t.time.running = true ∧
      t.time.missing = 0 ∧ t.time.announced = none ∧ t.time.state = s.rtAfter ∧ t.fab = s.fab ∧ t.hbm = s.hbm ∧ t.slice = s.slice ∧ t.g = s.g := by
  have runs : exec (.epochPulse at_) s = .next (s.until_ at_).pulse := by
    change execEpochPulse at_ s = _
    unfold execEpochPulse
    dsimp only
    cases seen : s.time.lastSeen with
    | none =>
      have seen : (s.until_ at_).time.lastSeen = none := seen
      rw [seen]
    | some x =>
      have late : ¬ (s.until_ at_).now < x + 900000 := Nat.not_lt.2 (spaced x seen)
      have seen : (s.until_ at_).time.lastSeen = some x := seen
      rw [seen]
      exact if_neg late
  obtain ⟨now, epoch, base, baseAt, others⟩ := (s.until_ at_).pulse_quiet noPorts e next
  exact ⟨_, runs, now, epoch, base, baseAt.trans now.symm, others⟩

theorem completes_epochPulse_soon (s : State) (at_ x : Nat) (inv : s.Inv) (seen : s.time.lastSeen = some x) (soon : max s.now at_ < x + 900000) :
    Completes (.epochPulse at_) s fun t =>
      t.now = max s.now at_ ∧ t.time = s.time ∧ s.Counts t O.epochIgnored ∧ t.fab = s.fab ∧ t.hbm = s.hbm ∧ t.slice = s.slice ∧ t.g = s.g := by
  obtain ⟨-, -, od, -⟩ := inv
  let u := s.until_ at_
  have keeps := u.bump_keeps O.epochIgnored
  have runs : exec (.epochPulse at_) s = .next (u.bump O.epochIgnored) := by
    change execEpochPulse at_ s = _
    unfold execEpochPulse
    dsimp only
    have seen : u.time.lastSeen = some x := seen
    rw [seen]
    exact if_pos soon
  exact ⟨_, runs, keeps.know rfl, keeps.ktime rfl, State.val_bump u _ od (by decide), keeps.kfab rfl, keeps.khbm rfl, keeps.kslice rfl,
    keeps.kg rfl⟩

theorem completes_epochMissing (s : State) (x : Nat) (inv : s.Inv) (last : s.time.lastPulse = some x) :
    Completes (.epochMissing) s fun t =>
      t.now = max s.now (x + 1100000) ∧ t.time.missing = s.time.missing + 1 ∧ t.time.lastPulse = some (x + 1000000) ∧ t.time.epoch = s.nextEpoch ∧
      t.time.announced = none ∧ (s.time.missing = 2 → s.Raises t (Sc.tram 0 0x10)) ∧ (2 ≤ s.time.missing → s.time.hadAnnounce = true →
      t.time.state = .freeRun) ∧ s.Counts t O.epochIgnored ∧ t.fab = s.fab ∧ t.hbm = s.hbm ∧ t.slice = s.slice ∧ t.g = s.g := by
  obtain ⟨-, -, od, -⟩ := inv
  let u := s.until_ (x + 1100000)
  let v := u.bump O.epochIgnored
  have keeps : Keeps 4 u v := u.bump_keeps O.epochIgnored
  have time : v.time = s.time := keeps.ktime rfl
  let w : State := { v with time := { v.time with
    missing := v.time.missing + 1, lastPulse := some (x + 1000000), epoch := v.nextEpoch, announced := none,
    state := (if 3 ≤ v.time.missing + 1 && v.time.hadAnnounce then .freeRun else v.time.state) } }
  have runs : exec .epochMissing s = .next (w.raiseIf (v.time.missing + 1 == 3) (Sc.tram 0 0x10)) := by
    change execEpochMissing s = _
    unfold execEpochMissing
    rw [last]
  have raised := w.raiseIf_keeps (v.time.missing + 1 == 3) (Sc.tram 0 0x10) {}
  have next : v.nextEpoch = s.nextEpoch := by rw [State.nextEpoch, State.nextEpoch, time]
  have count : v.val O.epochIgnored = (s.val O.epochIgnored + 1) % 2 ^ 64 := State.val_bump u _ od (by decide)
  have od' := raised.kod rfl
  refine ⟨_, runs, (raised.know rfl).trans (keeps.know rfl), ?_, ?_, ?_, ?_, ?_, ?_, ?_, (raised.kfab rfl).trans (keeps.kfab rfl),
    (raised.khbm rfl).trans (keeps.khbm rfl), (raised.kslice rfl).trans (keeps.kslice rfl), (raised.kg rfl).trans (keeps.kg rfl)⟩
  · rw [raised.ktime rfl, ← time]
  · rw [raised.ktime rfl]
  · rw [raised.ktime rfl, ← next]
  · rw [raised.ktime rfl]
  · intro third
    rw [time, third]
    exact congrArg (· ++ [_]) (congrArg Collector.ring (keeps.kfc rfl))
  · intro third announced
    rw [raised.ktime rfl]
    change (if _ then RtState.freeRun else _) = _
    rw [time, announced, if_pos (by simpa using third)]
  · rw [State.Counts, State.val, od']
    exact count

/-! ### Announcements (R661, R662) -/

/-- A message of the fabric that has arrived: it is counted and its units are given back to the port. -/
def State.taken (s : State) (p n : Nat) : State := (s.bump O.msgsRx).giveBack p 2 n

theorem State.taken_keeps (s : State) (p n : Nat) : Keeps 2097156 s (s.taken p n) :=
  Keeps.step (Keeps.step (Keeps.refl 2097156 s) (s.bump_keeps O.msgsRx) rfl) (State.giveBack_keeps _ p 2 n) rfl

theorem State.Counts.of_od {s t u : State} {k : Nat} (same : u.od = t.od) (counts : s.Counts t k) : s.Counts u k := by
  rw [State.Counts, State.val] at counts ⊢
  rw [same]
  exact counts

theorem State.taken_counts (s : State) (p n : Nat) (inv : s.Inv) : s.Counts (s.taken p n) O.msgsRx := by
  obtain ⟨-, -, od, -⟩ := inv
  have same : (s.taken p n).od = (s.bump O.msgsRx).od := (State.giveBack_keeps _ p 2 n).kod rfl
  rw [State.Counts, State.val, same]
  exact State.val_bump s _ od (by decide)

theorem State.taken_val (s : State) (p n k : Nat) (inv : s.Inv) (other : k ≠ O.msgsRx) (noOverflow : k ≠ O.msgsRx / 256 * 256 + 0xFE) :
    (s.taken p n).val k = s.val k := by
  obtain ⟨-, -, od, -⟩ := inv
  have same : (s.taken p n).od = (s.bump O.msgsRx).od := (State.giveBack_keeps _ p 2 n).kod rfl
  rw [State.val, same]
  exact State.val_bump_other od other noOverflow

theorem State.taken_fab (s : State) (p n : Nat) :
    (s.taken p n).fab = (s.setPort p { s.port p with returned := (s.port p).returned.set 2 ((s.port p).returned.getD 2 0 + n) }).fab := by
  have same : (s.bump O.msgsRx).fab = s.fab := (s.bump_keeps O.msgsRx).kfab rfl
  rw [State.taken, State.giveBack, if_neg (by simp)]
  simp only [State.setPort, State.port, same]

theorem State.taken_addr (s : State) (p n : Nat) (inv : s.Inv) : (s.taken p n).addr = s.addr :=
  s.taken_val p n _ inv (by decide) (by decide)

theorem State.taken_ownRank (s : State) (p n : Nat) (inv : s.Inv) : (s.taken p n).ownRank = s.ownRank := by
  rw [State.ownRank, State.ownRank, s.taken_addr p n inv, s.taken_val p n _ inv (by decide) (by decide)]

theorem State.taken_rackTime (s : State) (p n : Nat) : (s.taken p n).rackTime = s.rackTime := by
  rw [State.rackTime, State.rackTime, (s.taken_keeps p n).know rfl, (s.taken_keeps p n).ktime rfl]

theorem completes_timeAnnounce_first (s : State) (p : Fin 13) (m w : Msg) (r : Nat) (inv : s.Inv) (wire : w = onWire m)
    (up : (s.port p).active = true) (foreign : m.src ≠ s.addr) (rank : timeRank (bytesAt w.payload 8 1) w.src = some r)
    (none_ : s.time.announced = none) :
    Completes (.timeAnnounce p m) s fun t =>
      t.time.announced = some (bytesAt w.payload 0 8, r) ∧ t.time.hadAnnounce = true ∧ ((∀ k ∈ s.ownRank, r < k) → t.time.lastHigher = some s.now ∧
      t.time.master = false) ∧ t.fc.ring = s.fc.ring ∧ s.Counts t O.msgsRx ∧ t.hbm = s.hbm ∧ t.slice = s.slice ∧ t.g = s.g := by
  let u := s.taken p (msgUnits w)
  have keeps := s.taken_keeps p (msgUnits w)
  have time : u.time = s.time := keeps.ktime rfl
  have none' : u.time.announced = none := by rw [time, none_]
  let higher := match u.ownRank with | some q => decide (r < q) | none => true
  have runs : exec (.timeAnnounce p m) s = .next { u with time := { u.time with
      announced := some (bytesAt w.payload 0 8, r), hadAnnounce := true,
      lastHigher := (if higher then some u.now else u.time.lastHigher), master := u.time.master && !higher } } := by
    subst wire
    change execTimeAnnounce p m s = _
    unfold execTimeAnnounce
    rw [if_neg (by simp [up, foreign])]
    dsimp only
    rw [rank]
    have none'' : ((s.bump O.msgsRx).giveBack p 2 (msgUnits (onWire m))).time.announced = none := none'
    simp only [none'', State.raiseIf, Bool.false_eq_true, if_false, if_true]
    rfl
  refine ⟨_, runs, rfl, rfl, ?_, ?_, s.taken_counts p (msgUnits w) inv, keeps.khbm rfl, keeps.kslice rfl, keeps.kg rfl⟩
  · intro above
    have higher_true : higher = true := by
      change (match u.ownRank with | some q => decide (r < q) | none => true) = true
      rw [s.taken_ownRank p (msgUnits w) inv]
      cases own : s.ownRank with
      | none => rfl
      | some q => exact decide_eq_true (above q (by simp [own]))
    dsimp only
    rw [higher_true, if_pos rfl, keeps.know rfl]
    exact ⟨rfl, Bool.and_false _⟩
  · exact congrArg Collector.ring (keeps.kfc rfl)

theorem completes_timeAnnounce_conflict (s : State) (p : Fin 13) (m w : Msg) (r e k : Nat) (inv : s.Inv) (wire : w = onWire m)
    (up : (s.port p).active = true) (foreign : m.src ≠ s.addr) (rank : timeRank (bytesAt w.payload 8 1) w.src = some r)
    (announced : s.time.announced = some (e, k)) (epochs : e ≠ bytesAt w.payload 0 8) (ranks : k ≠ r) :
    Completes (.timeAnnounce p m) s fun t =>
      t.time.announced = some (if r ≤ k then (bytesAt w.payload 0 8, r) else (e, k)) ∧ s.Raises t (Sc.tram 0 0x11) ∧ s.Counts t O.msgsRx ∧
      t.hbm = s.hbm ∧ t.slice = s.slice ∧ t.g = s.g := by
  obtain ⟨u, heard⟩ : ∃ u : State, u = s.taken p (msgUnits w) := ⟨_, rfl⟩
  have keeps : Keeps 2097156 s u := heard ▸ s.taken_keeps p (msgUnits w)
  have time : u.time = s.time := keeps.ktime rfl
  have announced' : u.time.announced = some (e, k) := by rw [time, announced]
  let v := u.raise (Sc.tram 0 0x11)
  let higher := match v.ownRank with | some q => decide (r < q) | none => true
  have runs : exec (.timeAnnounce p m) s = .next { v with time := { v.time with
      announced := (if decide (r ≤ k) then some (bytesAt w.payload 0 8, r) else some (e, k)), hadAnnounce := true,
      lastHigher := (if higher then some v.now else v.time.lastHigher), master := v.time.master && !higher } } := by
    subst wire
    change execTimeAnnounce p m s = _
    unfold execTimeAnnounce
    rw [if_neg (by simp [up, foreign])]
    dsimp only
    rw [rank]
    have heard : u = (s.bump O.msgsRx).giveBack p 2 (msgUnits (onWire m)) := heard
    have conflict : (e != bytesAt (onWire m).payload 0 8 && k != r) = true := by simp [epochs, ranks]
    have kept : (u.raise (Sc.tram 0 0x11)).time.announced = some (e, k) := announced'
    simp only [← heard, announced', conflict, State.raiseIf, if_true, kept]
    rfl
  refine ⟨_, runs, ?_, ?_, ?_, keeps.khbm rfl, keeps.kslice rfl, keeps.kg rfl⟩
  · by_cases better : r ≤ k
    · simp [better]
    · simp [better]
  · exact congrArg (· ++ [_]) (congrArg Collector.ring (keeps.kfc rfl))
  · exact State.Counts.of_od (t := u) rfl (heard ▸ s.taken_counts p (msgUnits w) inv)

/-! ### What a port sends at once -/

/-- A port that has sent a message of its partner's credits. -/
def spends (x : Port) (m : Msg) : Port :=
  { x with credits := x.credits.set (msgVc m.kind) (x.credits.getD (msgVc m.kind) 0 - msgUnits m) }

theorem State.putOn_now (s : State) (p : Nat) (m : Msg) (plain : m.kind ≠ .ident) (noHeld : s.fab.held = [])
    (credits : msgUnits m ≤ (s.port p).credits.getD (msgVc m.kind) 0) :
    (s.putOn p m).fab = { (s.setPort p (spends (s.port p) m)).fab with sent := s.fab.sent ++ [(p, m)] } := by
  rw [State.putOn]
  dsimp only
  rw [if_pos (by rw [noHeld]; simpa using Or.inr credits)]
  refine (State.bump_keeps _ O.msgsTx).kfab rfl |>.trans ?_
  rw [if_neg (by simpa using plain)]
  rfl

theorem State.putOn_val (s : State) (p : Nat) (m : Msg) (k : Nat) (od : Rises s.od) (other : k ≠ O.msgsTx)
    (noOverflow : k ≠ O.msgsTx / 256 * 256 + 0xFE) : (s.putOn p m).val k = s.val k := by
  rw [State.putOn]
  dsimp only
  split
  · split
    · exact State.val_bump_other (s := { s with fab := _ }) od other noOverflow
    · exact State.val_bump_other (s := { s.setPort _ _ with fab := _ }) od other noOverflow
  · rfl

theorem State.putOn_port_other (s : State) (p q : Nat) (m : Msg) (plain : m.kind ≠ .ident) (noHeld : s.fab.held = [])
    (credits : msgUnits m ≤ (s.port p).credits.getD (msgVc m.kind) 0) (ports : Rises s.fab.ports) (other : q ≠ p) :
    (s.putOn p m).port q = s.port q := by
  rw [State.port, s.putOn_now p m plain noHeld credits]
  exact (State.port_setPort s p q _ ports).trans (if_neg other)

theorem length_natLe (n v : Nat) : (natLe n v).length = n := by
  induction n generalizing v with
  | zero => rfl
  | succ n ih => rw [natLe, List.length_cons, ih]

theorem wireBytes_length (m : Msg) : (wireBytes m).length = 40 + m.payload.length := by
  simp only [wireBytes, List.length_append, length_natLe]

theorem msgUnits_one (m : Msg) (short : m.payload.length ≤ 24) : msgUnits m = 1 := by
  rw [msgUnits, wireBytes_length]
  omega

theorem completes_timeAnnounceSend (s : State) (p : Nat) (r : Nat) (inv : s.Inv) (master : s.time.master = true)
    (leads : s.rackPortFrom 0 = some p) (noHeld : s.fab.held = []) (credits : 1 ≤ (s.port p).credits.getD 2 0) (own : s.ownRank = some r)
    (none_ : s.time.announced = none) (noSled : ∀ k : Fin 3, (s.port k).active = false) :
    Completes (.timeAnnounceSend) s fun t =>
      t.fab.sent = s.fab.sent ++ [(p,
      { kind := .timeAnnounce, src := s.addr, broadcast := true, payload := natLe 8 s.nextEpoch ++ natLe 1 (s.val O.timeMaster) ++ natLe 7 0 })] ∧
      t.time = { s.time with announced := some (s.nextEpoch, r), hadAnnounce := true } ∧ t.hbm = s.hbm ∧ t.slice = s.slice ∧ t.g = s.g := by
  obtain ⟨-, -, od, -, -, -, -, -, -, -, -, ports, -⟩ := id inv
  let m : Msg := { kind := .timeAnnounce, src := s.addr, broadcast := true,
                   payload := natLe 8 s.nextEpoch ++ natLe 1 (s.val O.timeMaster) ++ natLe 7 0 }
  obtain ⟨u, noted⟩ : ∃ u : State, u = { s with time := { s.time with announced := some (s.nextEpoch, r), hadAnnounce := true } } := ⟨_, rfl⟩
  have fab : u.fab = s.fab := by rw [noted]
  have port : u.port p = s.port p := by rw [State.port, fab, ← State.port]
  have noHeld' : u.fab.held = [] := by rw [fab, noHeld]
  have leads' : u.rackPortFrom 0 = some p := by simpa only [State.rackPortFrom, State.port, fab] using leads
  have units : msgUnits m ≤ (u.port p).credits.getD (msgVc m.kind) 0 := by
    rw [msgUnits_one m (by simp [m, length_natLe]), port]
    exact credits
  have member : p ∈ (List.range 8).map (fun i => 3 + (0 + i) % 8) := List.mem_of_find?_eq_some leads
  have active : (s.port p).active = true := List.find?_some (p := fun p => (s.port p).active) leads
  obtain ⟨i, below, rfl⟩ := List.mem_map.1 member
  have rackUp : s.rackPortsUp = true := by
    rw [State.rackPortsUp, List.any_eq_true]
    refine ⟨i, below, ?_⟩
    rw [Nat.zero_add, Nat.mod_eq_of_lt (List.mem_range.1 below)] at active
    exact active
  have quiet : (List.range 3).filter (fun q => ((u.putOn (3 + (0 + i) % 8) m).port q).active) = [] := by
    rw [List.filter_eq_nil_iff]
    intro q sled
    have small := List.mem_range.1 sled
    rw [u.putOn_port_other _ q m (nomatch ·) noHeld' units (fab ▸ ports) (by omega), State.port, fab]
    exact Bool.eq_false_iff.1 (noSled ⟨q, small⟩)
  have runs : exec .timeAnnounceSend s = .next (u.putOn (3 + (0 + i) % 8) m) := by
    change execTimeAnnounceSend s = _
    unfold execTimeAnnounceSend
    rw [if_neg (by simp [master, rackUp])]
    dsimp only
    have rank : s.ownRank.getD 8191 = r := by rw [own]; rfl
    have addr : u.addr = s.addr := by rw [noted]; rfl
    have role : u.val O.timeMaster = s.val O.timeMaster := by rw [noted]; rfl
    simp only [none_, rank, if_true, ← noted, leads', addr, role]
    rw [quiet]
    rfl
  have keeps := u.putOn_keeps (3 + (0 + i) % 8) m
  refine ⟨_, runs, ?_, (keeps.ktime rfl).trans (by rw [noted]), (keeps.khbm rfl).trans (by rw [noted]),
    (keeps.kslice rfl).trans (by rw [noted]), (keeps.kg rfl).trans (by rw [noted])⟩
  rw [u.putOn_now _ m (nomatch ·) noHeld' units, fab]

theorem completes_timeMasterTakeover (s : State) (r up : Nat) (slave : s.time.master = false) (ports : s.rackPortsUp = true)
    (valid : s.val O.pkgAddrValid = 1) (own : s.ownRank = some r) (since : s.time.portsUpAt = some up) :
    Completes (.timeMasterTakeover) s fun t =>
      t = { s with now := max s.now (max up (s.time.lastHigher.getD 0) + 2000000), time := { s.time with master := true } } := by
  have runs : exec .timeMasterTakeover s =
      .next { s with now := max s.now (max up (s.time.lastHigher.getD 0) + 2000000), time := { s.time with master := true } } := by
    change execTimeMasterTakeover s = _
    unfold execTimeMasterTakeover
    rw [own, since]
    exact if_neg (by simp [slave, ports, valid])
  exact ⟨_, runs, rfl⟩

/-! ### Echoes between the racks (R663) -/

theorem completes_timeSync (s : State) (p : Fin 13) (m w : Msg) (inv : s.Inv) (wire : w = onWire m) (up : (s.port p).active = true)
    (noHeld : s.fab.held = []) (credits : 2 ≤ (s.port p).credits.getD 2 0) :
    Completes (.timeSync p m) s fun t =>
      t.fab.sent = s.fab.sent ++ [(p.val,
      { kind := .timeEcho, src := s.addr, dst := w.src, hop := w.src, payload := w.payload.take 8 ++ natLe 8 s.rackTime ++ natLe 8 s.rackTime })] ∧
      t.time = s.time ∧ s.Counts t O.msgsRx ∧ t.hbm = s.hbm ∧ t.slice = s.slice ∧ t.g = s.g := by
  obtain ⟨-, -, od, -, -, -, -, -, -, -, -, ports, -⟩ := id inv
  let u := s.taken p (msgUnits w)
  have taken := s.taken_keeps p (msgUnits w)
  let echo : Msg := { kind := .timeEcho, src := s.addr, dst := w.src, hop := w.src,
                      payload := w.payload.take 8 ++ natLe 8 s.rackTime ++ natLe 8 s.rackTime }
  have runs : exec (.timeSync p m) s = .next (u.putOn p echo) := by
    subst wire
    change execTimeSync p m s = _
    unfold execTimeSync
    rw [if_neg (by simp [up])]
    dsimp only [echo]
    rw [← s.taken_rackTime p (msgUnits (onWire m)), ← s.taken_addr p (msgUnits (onWire m)) inv]
    rfl
  have port : u.port p = { s.port p with returned := (s.port p).returned.set 2 ((s.port p).returned.getD 2 0 + msgUnits w) } := by
    rw [State.port, s.taken_fab p (msgUnits w)]
    exact (State.port_setPort s p p _ ports).trans (if_pos rfl)
  have units : msgUnits echo ≤ (u.port p).credits.getD (msgVc echo.kind) 0 := by
    rw [msgUnits_one echo (by simp only [echo, List.length_append, length_natLe, List.length_take]; omega), port]
    exact Nat.le_of_succ_le credits
  have held : u.fab.held = [] := by
    rw [s.taken_fab p (msgUnits w)]
    exact noHeld
  have sent := u.putOn_keeps p echo
  refine ⟨_, runs, ?_, (sent.ktime rfl).trans (taken.ktime rfl), ?_, (sent.khbm rfl).trans (taken.khbm rfl), (sent.kslice rfl).trans (taken.kslice rfl),
    (sent.kg rfl).trans (taken.kg rfl)⟩
  · rw [u.putOn_now p echo (nomatch ·) held units, s.taken_fab p (msgUnits w)]
    rfl
  · have counted : (u.putOn p echo).val O.msgsRx = u.val O.msgsRx := u.putOn_val p echo _ (taken.kinv inv).2.2.1 (by decide) (by decide)
    rw [State.Counts, counted]
    exact s.taken_counts p (msgUnits w) inv

theorem completes_timeEcho (s : State) (p : Fin 13) (m w : Msg) (d o : Int) (inv : s.Inv) (wire : w = onWire m) (up : (s.port p).active = true)
    (idle : s.mgr.state = .idle)
    (offset : d = (((bytesAt w.payload 8 8 : Int) - bytesAt w.payload 0 8) + ((bytesAt w.payload 16 8 : Int) - s.rackTime)) / 2)
    (last : s.time.lastOffset = [(p.val, o)]) :
    Completes (.timeEcho p m) s fun t =>
      t.time = { s.time with lastOffset := [(p.val, d)] } ∧ (40 * 65536 < (o - d).natAbs → s.Raises t (Sc.tram 0 0x12)) ∧ t.fab.sent = s.fab.sent ∧
      s.Counts t O.msgsRx ∧ t.hbm = s.hbm ∧ t.slice = s.slice ∧ t.g = s.g := by
  obtain ⟨u, heard⟩ : ∃ u : State, u = s.taken p (msgUnits w) := ⟨_, rfl⟩
  have taken : Keeps 2097156 s u := heard ▸ s.taken_keeps p (msgUnits w)
  have time : u.time = s.time := taken.ktime rfl
  obtain ⟨jump, moves⟩ : ∃ jump : Bool, jump = decide (40 * 65536 < (o - d).natAbs) := ⟨_, rfl⟩
  obtain ⟨v, raises⟩ : ∃ v : State, v = u.raiseIf jump (Sc.tram 0 0x12) := ⟨_, rfl⟩
  have raised : Keeps 65536 u v := raises ▸ u.raiseIf_keeps jump (Sc.tram 0 0x12) {}
  have time' : v.time = s.time := (raised.ktime rfl).trans time
  let t : State := { v with time := { v.time with lastOffset := [(p.val, d)] } }
  have runs : exec (.timeEcho p m) s = .next t := by
    subst wire
    change execTimeEcho p m s = _
    unfold execTimeEcho
    rw [if_neg (by simp [up])]
    dsimp only
    have heard : u = (s.bump O.msgsRx).giveBack p 2 (msgUnits (onWire m)) := heard
    have measured : u.rackTime = s.rackTime := by rw [State.rackTime, time, taken.know rfl, ← State.rackTime]
    have known : u.time.lastOffset = [(p.val, o)] := by rw [time, last]
    have known' : v.time.lastOffset = [(p.val, o)] := by rw [time', last]
    have found : [(p.val, o)].find? (fun x => x.1 == p.val) = some (p.val, o) := by simp
    have gone : [(p.val, o)].filter (fun x => x.1 != p.val) = [] := by simp
    have plain : t.isManager = false := by
      have same : t.mgr = s.mgr := (raised.kmgr rfl).trans (taken.kmgr rfl)
      rw [State.isManager, same, idle]
      rfl
    rw [← heard, measured, known, found]
    dsimp only
    rw [← offset]
    simp only [← moves, ← raises, known', gone, List.nil_append]
    exact if_neg (by rw [Bool.not_eq_true]; exact plain)
  refine ⟨_, runs, ?_, ?_, ?_, ?_, (raised.khbm rfl).trans (taken.khbm rfl), (raised.kslice rfl).trans (taken.kslice rfl),
    (raised.kg rfl).trans (taken.kg rfl)⟩
  · change { v.time with lastOffset := [(p.val, d)] } = _
    rw [time']
  · intro moved
    change v.fc.ring = _
    rw [raises, State.raiseIf, moves, if_pos (decide_eq_true moved)]
    exact congrArg (· ++ [_]) (congrArg Collector.ring (taken.kfc rfl))
  · change v.fab.sent = _
    rw [raised.kfab rfl, heard, s.taken_fab p (msgUnits w)]
    rfl
  · exact State.Counts.of_od (raised.kod rfl) (heard ▸ s.taken_counts p (msgUnits w) inv)

/-- Settles O52: what each pulse, announcement and echo leaves is the next epoch, the taken announcement and the measured offset. -/
theorem rackTimeCompletes : Obligations.RackTimeCompletes :=
  ⟨fun s at_ e _ spaced noPorts next => completes_epochPulse s at_ e spaced noPorts next,
   fun s at_ x inv seen soon => completes_epochPulse_soon s at_ x inv seen soon,
   fun s x inv last => completes_epochMissing s x inv last,
   fun s p m w r inv wire up foreign rank none_ => completes_timeAnnounce_first s p m w r inv wire up foreign rank none_,
   fun s p m w r e k inv wire up foreign rank announced epochs ranks =>
     completes_timeAnnounce_conflict s p m w r e k inv wire up foreign rank announced epochs ranks,
   fun s p r inv master leads noHeld _ credits own none_ noSled =>
     completes_timeAnnounceSend s p r inv master leads noHeld credits own none_ noSled,
   fun s r up _ slave ports valid own since => completes_timeMasterTakeover s r up slave ports valid own since,
   fun s p m w inv wire up noHeld _ credits => completes_timeSync s p m w inv wire up noHeld credits,
   fun s p m w d o inv wire up idle offset last => completes_timeEcho s p m w d o inv wire up idle offset last⟩

end Sys2Proof.Machine
end

section
namespace Sys2Proof.Machine

set_option Elab.async false

/-! ### A feed request that had no bytes (R552, R614)

The report of no bytes takes the index register off its list; of a register that the list holds twice, and nothing in `State.Inv` keeps
the registers of a plot from that, the older value is read then. -/

/-- The transfer that serves channel 1 of plot 3 has written nothing since its request began. -/
def idleFeeder : Xfer :=
  { id := 7, src := .furrow 3 4, begun := true,
    d := { opcode := 1, body := List.replicate 21 0 ++ natLe 1 2 ++ natLe 1 0 ++ natLe 1 19 } }

/-- Plot 3 lists its index register 4 twice; the request of its channel 1 reports to that register. -/
def registerTwice : State :=
  { State.reset with
    plots := [(3, { idx := [(4, 5), (4, 6)] })]
    drill := { feeds := [(13, { bound := some (2, 7), reqs := [(48, 4, true)] })], rows := [(2, { state := .active, xfers := [idleFeeder] })] } }

theorem registerTwice_inv : registerTwice.Inv := by
  unfold State.Inv PlotsWf Plot.Wf Rises
  decide +kernel

theorem registerTwice_keeps_older : leaves (.feedServed 2) registerTwice (fun t => kvGet 0 (t.plot 3).idx 4) = some 6 := by
  decide +kernel

/-- Refutes O47: in the state `registerTwice` the register reads 6 after a report of no bytes. -/
theorem not_drillMovesBytes : ¬ Obligations.DrillMovesBytes := by
  rintro ⟨-, -, -, -, feedServed⟩
  obtain ⟨t, runs, -, reported, -⟩ := feedServed registerTwice 2 { state := .active, xfers := [idleFeeder] } idleFeeder 3 1 48 4 [] registerTwice_inv
    rfl rfl (by decide +kernel) (by decide +kernel) (by decide +kernel) (by decide +kernel) (by decide +kernel) (by decide +kernel) (by decide) rfl
  have other := registerTwice_keeps_older
  rw [leaves_of_next _ runs, reported] at other
  exact absurd other (by decide)

end Sys2Proof.Machine
end

section
namespace Sys2Proof.Machine

/-! ### What reaching a range leaves

Where every byte of a range is reached at once, only counters, the translation cache and the books of the plots (the gleaner's translations, the
address it waits at, the time the plot went idle) have changed. -/

/-- A plot whose books alone have changed. -/
def BooksOnly (x y : Plot) : Prop :=
  ∃ gbuf waitAt idleSince, y = { x with gbuf := gbuf, waitAt := waitAt, idleSince := idleSince }

theorem BooksOnly.refl (x : Plot) : BooksOnly x x := ⟨_, _, _, rfl⟩

theorem BooksOnly.trans {x y z : Plot} (xy : BooksOnly x y) (yz : BooksOnly y z) : BooksOnly x z := by
  obtain ⟨g, w, i, rfl⟩ := xy
  obtain ⟨g', w', i', rfl⟩ := yz
  exact ⟨g', w', i', rfl⟩

theorem BooksOnly.wf {x y : Plot} (books : BooksOnly x y) (wf : x.Wf) : y.Wf := by
  obtain ⟨g, w, i, rfl⟩ := books
  exact wf

/-- What reaching a range may change. -/
structure Reached (s t : State) : Prop where
  keeps : Keeps 16900 s t
  plots : ∀ q, BooksOnly (s.plot q) (t.plot q)

theorem Reached.refl (s : State) : Reached s s := ⟨Keeps.refl _ s, fun q => BooksOnly.refl _⟩

theorem Reached.trans {s t u : State} (st : Reached s t) (tu : Reached t u) : Reached s u :=
  ⟨st.keeps.trans tu.keeps, fun q => (st.plots q).trans (tu.plots q)⟩

theorem Reached.of_keeps {s t : State} (keeps : Keeps 516 s t) : Reached s t :=
  ⟨(Keeps.refl 16900 s).step keeps rfl, fun q => by rw [State.plot, State.plot, keeps.kplots rfl]; exact BooksOnly.refl _⟩

theorem State.Inv.plots_rise {s : State} (inv : s.Inv) : Rises s.plots := by
  obtain ⟨-, -, -, -, -, -, ⟨rises, -⟩, -⟩ := inv
  exact rises

theorem Reached.of_modPlot {s : State} (inv : s.Inv) (p : Nat) (f : Plot → Plot) (books : ∀ x, BooksOnly x (f x)) : Reached s (s.modPlot p f) := by
  refine ⟨(Keeps.refl 16900 s).step (s.modPlot_keeps p f fun x wf => (books x).wf wf) rfl, fun q => ?_⟩
  rw [State.plot_modPlot s p q f inv.plots_rise]
  split
  case isTrue same => subst same; exact books _
  case isFalse => exact BooksOnly.refl _

/-! ### Lookups that answer -/

theorem State.lookupParcel_at (s : State) (who : Who) (space : Space) (va : Nat) (acc : Access) (p : Parcel) :
    Keeps 516 s (s.lookupParcel who space va acc p).1 ∨ (s.lookupParcel who space va acc p).2 = .denied := by
  have counted : Keeps 516 s ((if (s.cached who space va acc).isSome then s else s.bump O.misses).bump O.lookups) :=
    ((Keeps.refl 516 s).step (Keeps.ite (Keeps.refl 4 s) (s.bump_keeps _)) rfl).step (State.bump_keeps _ _) rfl
  unfold State.lookupParcel
  dsimp only
  split
  · exact .inl (counted.step (State.install_keeps _ _) rfl)
  · exact .inr rfl

theorem State.lookupTable_at {s : State} {who : Who} {space : Space} {va c : Nat} {acc : Access} {t : Target} {room : Nat}
    (found : (s.lookupTable who space va acc c).2 = .at_ t room) : Keeps 516 s (s.lookupTable who space va acc c).1 := by
  have counted : Keeps 516 s ((s.bump O.lookups).bump O.misses) :=
    ((Keeps.refl 516 s).step (s.bump_keeps _) rfl).step (State.bump_keeps _ _) rfl
  cases space with
  | host =>
    unfold State.lookupTable at found
    dsimp only at found
    split at found
    · cases found
    · split at found <;> cases found
  | devlocal =>
    unfold State.lookupTable at found ⊢
    dsimp only at found ⊢
    split
    · rename_i maps
      rw [if_pos maps] at found
      split
      · exact counted
      · rename_i outside
        rw [if_neg outside] at found
        cases found
    · rename_i walks
      rw [if_neg walks] at found
      split at found <;> cases found

theorem State.lookup_at {s : State} {who : Who} {space : Space} {va : Nat} {acc : Access} {t : Target} {room : Nat}
    (found : (s.lookup who space va acc).2 = .at_ t room) : Keeps 516 s (s.lookup who space va acc).1 := by
  unfold State.lookup at found ⊢
  split
  · exact Keeps.refl _ s
  rename_i mapped
  rw [if_neg mapped] at found
  cases ctx : s.ctxOf who.pasid with
  | none => rw [ctx] at found; cases found
  | some c =>
    rw [ctx] at found
    dsimp only at found ⊢
    generalize bit (s.pctxCtrl c) _ = enabled at found ⊢
    obtain rfl : enabled = true := by
      cases enabled with
      | false => cases found
      | true => rfl
    rw [if_neg (by decide)] at found ⊢
    by_cases held : s.lookupHeld who space va = true
    · rw [if_pos held] at found
      cases found
    rw [if_neg held] at found ⊢
    cases parcel : s.parcelOf who.stream who.pasid space va with
    | some x =>
      rw [parcel] at found
      rcases s.lookupParcel_at who space va acc x.2 with keeps | denied
      · exact keeps
      · exact absurd (denied.symm.trans found) (nomatch ·)
    | none =>
      rw [parcel] at found
      cases hit : s.cached who space va acc with
      | some x => exact (Keeps.refl 516 s).step (s.bump_keeps _) rfl
      | none =>
        rw [hit] at found
        dsimp only at found ⊢
        split
        · rename_i walks
          rw [if_pos walks] at found
          cases found
        · rename_i quiet
          rw [if_neg quiet] at found
          exact State.lookupTable_at found

theorem State.resolveAt_at {s : State} {who : Who} {sp start delta : Nat} {acc : Access} {t : Target} {room : Nat}
    (found : (s.resolveAt who sp start delta acc).2 = .at_ t room) : Keeps 516 s (s.resolveAt who sp start delta acc).1 := by
  unfold State.resolveAt at found ⊢
  split
  · exact State.lookup_at found
  · exact State.lookup_at found
  · exact (Keeps.refl 516 s).step (s.lookupTilth_keeps _ _ _) rfl

theorem State.plotLookup_at {s : State} (inv : s.Inv) {p : Nat} {ra : Side} {off : Nat} {t : Target} {room : Nat}
    (found : (s.plotLookup p ra off).2 = .at_ t room) : Reached s (s.plotLookup p ra off).1 := by
  unfold State.plotLookup at found ⊢
  dsimp only at found ⊢
  cases space : ra.space (s.plotWho p).bypass with
  | none =>
    rw [space] at found
    exact .of_keeps (State.resolveAt_at found)
  | some space' =>
    rw [space] at found
    dsimp only at found ⊢
    split
    · exact .refl s
    rename_i unbuffered
    rw [unbuffered] at found
    dsimp only at found ⊢
    cases answer : (s.resolveAt (s.plotWho p) ra.sp ra.start off ra.acc).2 with
    | wait => rw [answer] at found; cases found
    | denied => rw [answer] at found; exact absurd (answer.symm.trans found) (nomatch ·)
    | at_ t' room' =>
      have keeps := State.resolveAt_at answer
      have cleared := Reached.of_modPlot (keeps.kinv inv) p (fun x => { x with waitAt := none }) fun x => ⟨_, _, _, rfl⟩
      exact (Reached.of_keeps keeps).trans (cleared.trans (.of_modPlot (cleared.keeps.kinv (keeps.kinv inv)) p _ fun x => ⟨_, _, _, rfl⟩))

theorem plotLoop_ok (fuel : Nat) {s : State} (inv : s.Inv) {p : Nat} {ra : Side} {off stop : Nat} {l e : List (Target × Nat)}
    (found : (plotLoop fuel s p ra off stop l).2 = .ok e) : Reached s (plotLoop fuel s p ra off stop l).1 := by
  induction fuel generalizing s off l with
  | zero => exact .refl s
  | succ fuel ih =>
    rw [plotLoop] at found ⊢
    split
    · exact .refl s
    rename_i more
    rw [if_neg more] at found
    dsimp only at found ⊢
    cases answer : (s.plotLookup p ra off).2 with
    | wait => rw [answer] at found; cases found
    | denied => rw [answer] at found; cases found
    | at_ t room =>
      rw [answer] at found
      have first := State.plotLookup_at inv answer
      exact first.trans (ih (first.keeps.kinv inv) found)

/-! ### Ranges that are reached at once -/

theorem State.reachTilth_ready {s : State} (inv : s.Inv) {q : Nat} (ready : (s.reachTilth q).2 = .ready) : Reached s (s.reachTilth q).1 := by
  unfold State.reachTilth at ready ⊢
  dsimp only at ready ⊢
  split
  · exact .refl s
  rename_i free
  rw [if_neg free] at ready
  split
  · exact .of_modPlot inv q _ fun x => ⟨_, _, _, rfl⟩
  · rename_i off
    rw [if_neg off] at ready
    cases ready

theorem State.cohAccess_ready {s : State} {write : Bool} {a n : Nat} (ready : (s.cohAccess write a n).2 = true) :
    (s.cohAccess write a n).1 = s := by
  unfold State.cohAccess at ready ⊢
  split
  · rename_i scrubbed
    rw [if_pos scrubbed] at ready
    cases ready
  rename_i clean
  rw [if_neg clean] at ready
  dsimp only at ready ⊢
  split
  · rfl
  · rename_i tracked
    rw [if_neg tracked] at ready
    cases ready

theorem State.reachOne_reached {s : State} (inv : s.Inv) {t : Target} {n : Nat} {acc : Access} (reached : (s.reachOne t n acc).2 = none) :
    Reached s (s.reachOne t n acc).1 := by
  cases t with
  | host a => exact .refl s
  | hbm a =>
    have ready : (s.cohAccess (!(acc == .read)) a n).2 = true := by
      simpa [State.reachOne] using reached
    rw [State.reachOne, State.cohAccess_ready ready]
    exact .refl s
  | tilth q o =>
    have ready : (s.reachTilth q).2 = .ready := by
      rw [State.reachOne] at reached
      dsimp only at reached
      cases answer : (s.reachTilth q).2 with
      | ready => rfl
      | waits => rw [answer] at reached; cases reached
      | fenced => rw [answer] at reached; cases reached
    exact State.reachTilth_ready inv ready

theorem not_and_none_of_ite {outside : Prop} [Decidable outside] {s : State} {code : Nat} {r : State × Option Nat}
    (reached : (if outside then (s, some code) else r).2 = none) : ¬outside ∧ r.2 = none := by
  split at reached
  · cases reached
  · exact ⟨‹_›, reached⟩

theorem reachAll_reached (l : List (Target × Nat)) {s : State} (inv : s.Inv) {acc : Access} (reached : (reachAll l s acc).2 = none) :
    Reached s (reachAll l s acc).1 := by
  induction l generalizing s with
  | nil => exact .refl s
  | cons e l ih =>
    obtain ⟨t, n⟩ := e
    unfold reachAll at reached ⊢
    dsimp only at reached ⊢
    cases answer : (s.reachOne t n acc).2 with
    | some c => rw [answer] at reached; cases reached
    | none =>
      rw [answer] at reached
      have first := State.reachOne_reached inv answer
      obtain ⟨inside, rest⟩ := not_and_none_of_ite reached
      dsimp only
      rw [if_neg inside]
      exact first.trans (ih (first.keeps.kinv inv) rest)

theorem State.reachRange_ok {s : State} (inv : s.Inv) {p sp start lo hi : Nat} {acc : Access} {e : List (Target × Nat)}
    (found : (s.reachRange p sp start lo hi acc).2 = .ok e) : Reached s (s.reachRange p sp start lo hi acc).1 := by
  unfold State.reachRange at found ⊢
  dsimp only at found ⊢
  cases covered : (plotLoop (hi - lo + 1) s p { dst := false, sp := sp, start := start, len := hi, acc := acc } lo hi []).2 with
  | waits => rw [covered] at found; exact absurd (covered.symm.trans found) (nomatch ·)
  | fails c a => rw [covered] at found; exact absurd (covered.symm.trans found) (nomatch ·)
  | ok l =>
    rw [covered] at found
    have first := plotLoop_ok _ inv covered
    dsimp only at found ⊢
    split
    case h_1 reached => exact first.trans (reachAll_reached l (first.keeps.kinv inv) reached)
    case h_2 waits => rw [waits] at found; cases found
    case h_3 c nonzero fails =>
      rw [fails] at found
      split at found <;> simp_all

theorem reachRanges_ok (l : List (Nat × Nat)) {s : State} (inv : s.Inv) {p sp start : Nat} {acc : Access} {got e : List (Target × Nat)}
    (found : (reachRanges l s p sp start acc got).2 = .ok e) : Reached s (reachRanges l s p sp start acc got).1 := by
  induction l generalizing s got with
  | nil => exact .refl s
  | cons r rs ih =>
    obtain ⟨lo, hi⟩ := r
    rw [reachRanges] at found ⊢
    cases answer : (s.reachRange p sp start lo hi acc).2 with
    | ok k =>
      rw [answer] at found
      dsimp only at found ⊢
      have first := State.reachRange_ok inv answer
      exact first.trans (ih (first.keeps.kinv inv) found)
    | waits => rw [answer] at found; exact absurd (answer.symm.trans found) (nomatch ·)
    | fails c a => rw [answer] at found; exact absurd (answer.symm.trans found) (nomatch ·)

/-! ### A range that one extent covers -/

theorem plotLoop_covers (fuel : Nat) {s : State} {p : Nat} {ra : Side} {off stop : Nat} {l e : List (Target × Nat)}
    (found : (plotLoop fuel s p ra off stop l).2 = .ok e) :
    ∃ k, e = l ++ k ∧ (k.length < fuel → (k.map (·.2)).sum = stop - off) := by
  induction fuel generalizing s off l with
  | zero =>
    cases found
    exact ⟨[], (List.append_nil _).symm, fun none_ => absurd none_ (Nat.not_lt_zero _)⟩
  | succ fuel ih =>
    rw [plotLoop] at found
    split at found
    case isTrue done =>
      cases found
      exact ⟨[], (List.append_nil _).symm, fun _ => (Nat.sub_eq_zero_of_le done).symm⟩
    case isFalse more =>
      dsimp only at found
      cases answer : (s.plotLookup p ra off).2 with
      | wait => rw [answer] at found; cases found
      | denied => rw [answer] at found; cases found
      | at_ t room =>
        rw [answer] at found
        obtain ⟨k, rfl, sum⟩ := ih found
        refine ⟨(t, min room (stop - off)) :: k, by rw [List.append_assoc, List.singleton_append], fun short => ?_⟩
        rw [List.map_cons, List.sum_cons, sum (Nat.lt_of_succ_lt_succ short)]
        omega

theorem State.reachRange_covers {s : State} {p sp start lo hi : Nat} {acc : Access} {e : List (Target × Nat)}
    (found : (s.reachRange p sp start lo hi acc).2 = .ok e) (single : e.length ≤ 1) : (e.map (·.2)).sum = hi - lo := by
  unfold State.reachRange at found
  dsimp only at found
  cases covered : (plotLoop (hi - lo + 1) s p { dst := false, sp := sp, start := start, len := hi, acc := acc } lo hi []).2 with
  | waits => rw [covered] at found; exact absurd (covered.symm.trans found) (nomatch ·)
  | fails c a => rw [covered] at found; exact absurd (covered.symm.trans found) (nomatch ·)
  | ok l =>
    rw [covered] at found
    have same : l = e := by
      dsimp only at found
      split at found <;> simp_all
    subst same
    by_cases empty : hi ≤ lo
    · rw [plotLoop, if_pos empty] at covered
      cases covered
      exact (Nat.sub_eq_zero_of_le empty).symm
    · obtain ⟨k, same, sum⟩ := plotLoop_covers _ covered
      rw [List.nil_append] at same
      subst same
      exact sum (by omega)

theorem reachRanges_covers (l : List (Nat × Nat)) {s : State} {p sp start : Nat} {acc : Access} {got e : List (Target × Nat)}
    (found : (reachRanges l s p sp start acc got).2 = .ok e) :
    ∃ k, e = got ++ k ∧ (k.length ≤ 1 → (k.map (·.2)).sum = (l.map (fun r => r.2 - r.1)).sum) := by
  induction l generalizing s got with
  | nil =>
    cases found
    exact ⟨[], (List.append_nil _).symm, fun _ => rfl⟩
  | cons r rs ih =>
    obtain ⟨lo, hi⟩ := r
    rw [reachRanges] at found
    cases answer : (s.reachRange p sp start lo hi acc).2 with
    | ok k =>
      rw [answer] at found
      obtain ⟨k', rfl, sum⟩ := ih found
      refine ⟨k ++ k', List.append_assoc _ _ _, fun single => ?_⟩
      rw [List.length_append] at single
      rw [List.map_append, List.sum_append, State.reachRange_covers answer (by omega), sum (by omega), List.map_cons, List.sum_cons]
    | waits => rw [answer] at found; exact absurd (answer.symm.trans found) (nomatch ·)
    | fails c a => rw [answer] at found; exact absurd (answer.symm.trans found) (nomatch ·)

theorem lineRanges_sum {w : View} {first count : Nat} {l : List (Nat × Nat)} (lines : lineRanges w first count = some l) :
    (l.map (fun r => r.2 - r.1)).sum = count * w.x := by
  unfold lineRanges at lines
  split at lines
  · cases lines
  cases lines
  rw [List.map_map]
  have each : ((fun r : Nat × Nat => r.2 - r.1) ∘ fun i => ((first + i) * w.ystride, (first + i) * w.ystride + w.x)) = fun _ => w.x := by
    funext i
    exact Nat.add_sub_cancel_left ..
  rw [each, List.map_const', List.length_range, List.sum_replicate, smul_eq_mul]

theorem reachRanges_single {w : View} {first count : Nat} {l : List (Nat × Nat)} (lines : lineRanges w first count = some l) {s : State}
    {p sp start : Nat} {acc : Access} {t : Target} {n : Nat} (found : (reachRanges l s p sp start acc []).2 = .ok [(t, n)]) : count * w.x = n := by
  obtain ⟨k, single, sum⟩ := reachRanges_covers l found
  rw [List.nil_append] at single
  subst single
  rw [← lineRanges_sum lines, ← sum (Nat.le_refl 1)]
  rfl

theorem withVas_single (t : Target) (n : Nat) (rs : List (Nat × Nat)) (start : Nat) : ∃ va, withVas [(t, n)] rs start = [((t, n), va)] := by
  unfold withVas
  cases rs.filter (fun r => decide (r.1 < r.2)) with
  | nil => exact ⟨_, rfl⟩
  | cons r rs => exact ⟨_, rfl⟩

end Sys2Proof.Machine
end

section
namespace Sys2Proof.Machine

/-! ### Bytes that are written and read again -/

theorem memWriteEn_all (m : List Host.Cell) (a : Nat) (d : List (Byte × Bool)) :
    memWriteEn m a (d.map fun y => (y.1, true)) = memWrite m a (d.map (·.1)) := by
  induction d generalizing m a with
  | nil => rfl
  | cons b d ih => exact ih _ _

theorem memWrite_append (m : List Host.Cell) (a : Nat) (bs cs : List Byte) : memWrite m a (bs ++ cs) = memWrite (memWrite m a bs) (a + bs.length) cs := by
  induction bs generalizing m a with
  | nil => rfl
  | cons b bs ih =>
    rw [List.cons_append, memWrite, ih, List.length_cons, memWrite, Nat.add_right_comm, Nat.add_assoc]

theorem memWrite_take_drop (m : List Host.Cell) (a k : Nat) (bs : List Byte) :
    memWrite (memWrite m a (bs.take k)) (a + k) (bs.drop k) = memWrite m a bs := by
  rcases Nat.le_total k bs.length with inside | beyond
  · conv_rhs => rw [← List.take_append_drop k bs, memWrite_append, List.length_take, Nat.min_eq_left inside]
  · rw [List.take_of_length_le beyond, List.drop_of_length_le beyond]
    rfl

theorem memRead_eq_map (m : List Host.Cell) (a n : Nat) : memRead m a n = (List.range n).map fun i => memByte m (a + i) := by
  induction n generalizing a with
  | zero => rfl
  | succ n ih =>
    rw [memRead, ih, List.range_succ_eq_map, List.map_cons, List.map_map, Nat.add_zero]
    congr 1
    refine List.map_congr_left fun i _ => ?_
    rw [Function.comp_apply, Nat.add_right_comm, Nat.add_assoc]

theorem memRead_memWrite (m : List Host.Cell) (a : Nat) (bs : List Byte) (wf : Memory.wf m = true) : memRead (memWrite m a bs) a bs.length = bs := by
  rw [memRead_eq_map]
  refine List.ext_getElem (by rw [List.length_map, List.length_range]) fun i short inside => ?_
  rw [List.getElem_map, List.getElem_range, memByte_memWrite m a _ bs wf, if_pos (by omega), Nat.add_sub_cancel_left,
    List.getD_eq_getElem _ _ inside]

theorem memByte_memWrite_outside (m : List Host.Cell) (a x : Nat) (bs : List Byte) (wf : Memory.wf m = true) (outside : x < a ∨ a + bs.length ≤ x) :
    memByte (memWrite m a bs) x = memByte m x := by
  rw [memByte_memWrite m a x bs wf, if_neg (by omega)]

/-! ### Marked bytes in tilth -/

/-- One plot has changed, to `x`. -/
structure Replotted (s t : State) (p : Nat) (x : Plot) : Prop where
  keeps : Keeps 16384 s t
  others : ∀ q, q ≠ p → t.plot q = s.plot q
  plot : t.plot p = x

theorem Replotted.refl (s : State) (p : Nat) : Replotted s s p (s.plot p) := ⟨Keeps.refl _ s, fun _ _ => rfl, rfl⟩

theorem Replotted.trans {s t u : State} {p : Nat} {x y : Plot} (st : Replotted s t p x) (tu : Replotted t u p y) : Replotted s u p y :=
  ⟨st.keeps.trans tu.keeps, fun q ne => (tu.others q ne).trans (st.others q ne), tu.plot⟩

theorem Replotted.of_setPlot {s : State} (inv : s.Inv) (p : Nat) (x : Plot) (wf : x.Wf) : Replotted s (s.setPlot p x) p x :=
  ⟨State.setPlot_keeps _ _ _ (fun _ => wf), fun q ne => (State.plot_setPlot s p q x inv.plots_rise).trans (if_neg ne),
    State.plot_setPlot_same s p x inv.plots_rise⟩

theorem Replotted.of_modPlot {s : State} (inv : s.Inv) (p : Nat) (f : Plot → Plot) (wf : (s.plot p).Wf → (f (s.plot p)).Wf) :
    Replotted s (s.modPlot p f) p (f (s.plot p)) :=
  .of_setPlot inv p _ (wf (State.plot_wf inv p))

theorem State.each_granules_tilth (fuel : Nat) {s : State} (inv : s.Inv) (p o : Nat) (d : List (Byte × Bool)) (enough : d.length ≤ fuel) :
    ∃ poison, Replotted s
      (s.each (granulePieces fuel o d) fun s b =>
        s.setTilth p (storeWrite (s.tilthStore p) b.1 (b.2.map fun y => (y.1, true)) (b.2.any (fun y => y.2)))) p
      { s.plot p with tilth := memWrite (s.plot p).tilth o (d.map (·.1)), poison := poison } := by
  induction fuel generalizing s o d with
  | zero =>
    rw [List.length_eq_zero_iff.1 (Nat.le_zero.1 enough)]
    exact ⟨_, .refl s p⟩
  | succ fuel ih =>
    cases d with
    | nil => exact ⟨_, .refl s p⟩
    | cons b d =>
      have some_ : 0 < 64 - o % 64 := Nat.sub_pos_of_lt (Nat.mod_lt _ (by decide))
      generalize piece : 64 - o % 64 = k at some_
      have here : granulePieces (fuel + 1) o (b :: d) = (o, (b :: d).take k) :: granulePieces fuel (o + k) ((b :: d).drop k) := by
        rw [granulePieces, if_neg (by simp), piece]
      rw [here]
      obtain ⟨wf, wfPoison⟩ := State.plot_wf inv p
      have first := Replotted.of_setPlot inv p { s.plot p with
          tilth := memWriteEn (s.plot p).tilth o (((b :: d).take k).map fun y => (y.1, true))
          poison := markWrite (s.plot p).poison o ((((b :: d).take k).map fun y => (y.1, true)).map (·.2)) (((b :: d).take k).any fun y => y.2) }
        ⟨memWriteEn_wf _ _ _ wf, markWrite_wf _ _ _ _ wfPoison⟩
      obtain ⟨poison, rest⟩ := ih (first.keeps.kinv inv) (o + k) ((b :: d).drop k) (by rw [List.length_drop]; omega)
      refine ⟨poison, first.trans ?_⟩
      rw [first.plot] at rest
      have written : memWrite (memWriteEn (s.plot p).tilth o (((b :: d).take k).map fun y => (y.1, true))) (o + k) (((b :: d).drop k).map (·.1)) =
          memWrite (s.plot p).tilth o ((b :: d).map (·.1)) := by
        rw [memWriteEn_all, List.map_take, List.map_drop, memWrite_take_drop]
      rw [← written]
      exact rest

theorem State.putMarked_tilth {s : State} (inv : s.Inv) (p o : Nat) (d : List (Byte × Bool)) :
    ∃ poison, Replotted s (s.putMarked (.tilth p o) d) p
      { s.plot p with tilth := memWrite (s.plot p).tilth o (d.map (·.1)), poison := poison } :=
  State.each_granules_tilth _ inv p o d (Nat.le_refl _)

/-- Tilth that a command writes: the bytes, and the marks of bad data where there is some. -/
theorem State.putTilth_writes {s : State} (inv : s.Inv) (p o : Nat) (d : List (Byte × Bool)) :
    ∃ poison poisoned, Replotted s (s.putTilth p o d) p
      { s.plot p with tilth := memWrite (s.plot p).tilth o (d.map (·.1)), poison := poison, poisoned := poisoned } := by
  obtain ⟨poison, written⟩ := State.putMarked_tilth inv p o d
  unfold State.putTilth
  dsimp only
  split
  · have marked := Replotted.of_modPlot (written.keeps.kinv inv) p (fun x => { x with poisoned := true }) id
    rw [written.plot] at marked
    exact ⟨poison, true, written.trans marked⟩
  · exact ⟨poison, _, written⟩

theorem State.getMarked_tilth_bytes (s : State) (p o n : Nat) :
    ((s.getMarked (.tilth p o) n).2.map (·.1)) = memRead (s.plot p).tilth o n := by
  change ((memRead (s.plot p).tilth o n).mapIdx fun i b => (b, kvGet false (s.plot p).poison ((o + i) / 64))).map (·.1) = _
  exact List.ext_getElem (by simp) (by simp)

theorem State.getMarked_tilth_good {s : State} {p : Nat} (good : (s.plot p).poison = []) (o n : Nat) :
    (s.getMarked (.tilth p o) n).2 = (memRead (s.plot p).tilth o n).map fun b => (b, false) := by
  change (memRead (s.plot p).tilth o n).mapIdx (fun i b => (b, kvGet false (s.plot p).poison ((o + i) / 64))) = _
  rw [good]
  exact List.ext_getElem (by simp) (by simp [kvGet, kvFind])

/-! ### Marked bytes in HBM -/

theorem State.each_granules_hbm (fuel : Nat) {s : State} (scrub : s.pwr.scrub = []) (a : Nat) (d : List (Byte × Bool)) (enough : d.length ≤ fuel) :
    ∃ poison, (s.each (granulePieces fuel a d) fun s b => s.hbmWrite b.1 (b.2.map fun y => (y.1, true)) (b.2.any fun y => y.2)) =
      { s with hbm := memWrite s.hbm a (d.map (·.1)), host := { s.host with poison := poison } } := by
  induction fuel generalizing s a d with
  | zero =>
    rw [List.length_eq_zero_iff.1 (Nat.le_zero.1 enough)]
    exact ⟨_, rfl⟩
  | succ fuel ih =>
    cases d with
    | nil => exact ⟨_, rfl⟩
    | cons b d =>
      have some_ : 0 < 64 - a % 64 := Nat.sub_pos_of_lt (Nat.mod_lt _ (by decide))
      generalize piece : 64 - a % 64 = k at some_
      have here : granulePieces (fuel + 1) a (b :: d) = (a, (b :: d).take k) :: granulePieces fuel (a + k) ((b :: d).drop k) := by
        rw [granulePieces, if_neg (by simp), piece]
      obtain ⟨u, first⟩ : ∃ u, u = s.hbmWrite a (((b :: d).take k).map fun y => (y.1, true)) (((b :: d).take k).any fun y => y.2) := ⟨_, rfl⟩
      have written := first
      rw [State.hbmWrite, State.scrubFor_none s _ _ scrub] at written
      obtain ⟨poison, rest⟩ := ih (s := u) (by rw [written]; exact scrub) (a + k) ((b :: d).drop k) (by rw [List.length_drop]; omega)
      have bytes : u.hbm = memWrite s.hbm a (((b :: d).map (·.1)).take k) := by
        rw [written, ← List.map_take]
        exact memWriteEn_all _ _ _
      refine ⟨poison, ?_⟩
      rw [here, State.each, List.foldl_cons, ← first]
      refine rest.trans ?_
      rw [bytes, List.map_drop, memWrite_take_drop, written]
      rfl

theorem State.putMarked_hbm {s : State} (scrub : s.pwr.scrub = []) (a : Nat) (d : List (Byte × Bool)) :
    ∃ poison, s.putMarked (.hbm a) d = { s with hbm := memWrite s.hbm a (d.map (·.1)), host := { s.host with poison := poison } } :=
  State.each_granules_hbm _ scrub a d (Nat.le_refl _)

theorem State.getMarked_hbm {s : State} (scrub : s.pwr.scrub = []) (a n : Nat) :
    (s.getMarked (.hbm a) n).1 = s ∧ (s.getMarked (.hbm a) n).2.map (·.1) = memRead s.hbm a n := by
  rw [State.getMarked]
  dsimp only
  rw [State.hbmRead, State.scrubFor_none s a n scrub]
  exact ⟨rfl, List.ext_getElem (by simp) (by simp)⟩

theorem Reached.tilth {s u : State} (reached : Reached s u) (q : Nat) : (u.plot q).tilth = (s.plot q).tilth := by
  obtain ⟨g, w, i, books⟩ := reached.plots q
  rw [books]

theorem readExt_bytes {s u : State} (reached : Reached s u) (scrub : s.pwr.scrub = []) (e : List (Target × Nat)) (host got : List (Byte × Bool)) :
    (readExt e u host got).1 = u ∧ (readExt e u host got).2.map (·.1) = got.map (·.1) ++ s.extBytes e (host.map (·.1)) := by
  have scrub' : u.pwr.scrub = [] := by rw [reached.keeps.kpwr rfl, scrub]
  induction e generalizing host got with
  | nil => exact ⟨rfl, (List.append_nil _).symm⟩
  | cons x e ih =>
    obtain ⟨t, n⟩ := x
    cases t with
    | host a =>
      obtain ⟨same, bytes⟩ := ih (host.drop n) (got ++ (host ++ List.replicate n (0, false)).take n)
      refine ⟨same, bytes.trans ?_⟩
      simp only [State.extBytes, List.map_append, List.map_take, List.map_replicate, List.map_drop, List.append_assoc]
    | hbm a =>
      obtain ⟨unchanged, read⟩ := State.getMarked_hbm scrub' a n
      obtain ⟨same, bytes⟩ := ih host (got ++ (u.getMarked (.hbm a) n).2)
      change (readExt e (u.getMarked (.hbm a) n).1 host _).1 = u ∧ (readExt e (u.getMarked (.hbm a) n).1 host _).2.map _ = _
      rw [unchanged]
      refine ⟨same, bytes.trans ?_⟩
      rw [List.map_append, read, reached.keeps.khbm rfl, State.extBytes, List.append_assoc]
    | tilth q o =>
      obtain ⟨same, bytes⟩ := ih host (got ++ (u.getMarked (.tilth q o) n).2)
      refine ⟨same, bytes.trans ?_⟩
      rw [List.map_append, State.getMarked_tilth_bytes, reached.tilth, State.extBytes, List.append_assoc]

/-! ### The next command -/

/-- A plot that still stands at the same command of its program. -/
structure SameCommand (x y : Plot) : Prop where
  pc : y.pc = x.pc
  prog : y.prog = x.prog
  ended : y.ended = x.ended

theorem BooksOnly.sameCommand {x y : Plot} (books : BooksOnly x y) : SameCommand x y := by
  obtain ⟨g, w, i, rfl⟩ := books
  exact ⟨rfl, rfl, rfl⟩

theorem State.advance_replots {s u : State} (inv : u.Inv) {p op v : Nat} {fields : List (Nat × Nat)} (issues : s.Issues p op v fields)
    (same : SameCommand (s.plot p) (u.plot p)) : Replotted u (u.advance p) p ((u.plot p).goOn ((s.plot p).pc + 1)) := by
  have goes : u.advance p = u.setPlot p ((u.plot p).goOn ((s.plot p).pc + 1)) := by
    unfold State.advance
    rw [same.ended, State.ended_of_issues issues, same.pc]
    exact u.jump_goes p _ inv.plots_rise (by rw [same.prog]; exact issues.2.2.2)
  rw [goes]
  exact .of_setPlot inv p _ (State.plot_wf inv p)

/-- What a command leaves that writes tilth of its own plot and nothing else of the block's memory. -/
theorem State.stores_of_plot {s t : State} (inv : s.Inv) {m p d : Nat} {bs : List Byte} (keeps : Keeps m s t)
    (masked : m.testBit 15 = false ∧ m.testBit 3 = false ∧ m.testBit 8 = false) (pc : (t.plot p).pc = (s.plot p).pc + 1)
    (tilth : (t.plot p).tilth = memWrite (s.plot p).tilth d bs) : s.Stores t p d bs := by
  obtain ⟨hbm, reg, g⟩ := masked
  obtain ⟨wf, -⟩ := State.plot_wf inv p
  refine ⟨pc, ?_, keeps.khbm hbm, keeps.kreg reg, keeps.kg g, fun x outside => ?_⟩
  · rw [tilth, memRead_memWrite _ _ _ wf]
  · rw [tilth, memByte_memWrite_outside _ _ _ _ wf outside]

end Sys2Proof.Machine
end

section
namespace Sys2Proof.Machine

/-! ### LOAD (R597) -/

theorem Clean.unmarked {h : HostRead} (clean : Clean h) (n : Nat) : ((h.data.take n).any fun y => y.2) = false := by
  obtain ⟨-, good⟩ := clean
  rw [List.any_eq_false]
  intro y taken
  have := List.all_eq_true.1 good y (List.mem_of_mem_take taken)
  simpa using this

theorem State.hostAnswers_clean (s : State) (e : List (Target × Nat)) {h : HostRead} (clean : Clean h) : s.hostAnswers e h h.data = (s, none) := by
  unfold State.hostAnswers
  split
  · rfl
  · rw [clean.1]
    dsimp only
    rw [clean.unmarked]
    rfl

theorem completes_plotLoad (s : State) (p : Fin 16) (v : Nat) (w : View) (l : List (Nat × Nat)) (e : List (Target × Nat)) (h : HostRead)
    (inv : s.Inv) (issues : s.Issues p 0x20 v [(15, 12), (23, 16), (63, 32), (95, 64), (127, 96)]) (view : s.view? p (fld v 23 16) = some w)
    (lines : lineRanges w ((fld v 95 64 + s.idx p (fld v 15 12)) % 2 ^ 64) (fld v 127 96) = some l)
    (fits : s.tref p v 32 + fld v 127 96 * w.x ≤ s.dataTop p)
    (found : (reachRanges l s p w.space (s.viewBase p w) .read []).2 = .ok e) (scrub : s.pwr.scrub = []) (clean : Clean h) :
    Completes (.plotLoad p h) s fun t => s.Stores t p (s.tref p v 32) (s.extBytes e (h.data.map (fun y => y.1))) := by
  obtain ⟨u, answer⟩ : ∃ u, u = (reachRanges l s p w.space (s.viewBase p w) .read []).1 := ⟨_, rfl⟩
  have reached : Reached s u := answer ▸ reachRanges_ok l inv found
  obtain ⟨unchanged, bytes⟩ := readExt_bytes reached scrub e h.data []
  obtain ⟨poison, poisoned, written⟩ := State.putTilth_writes (reached.keeps.kinv inv) p (s.tref p v 32) (readExt e u h.data []).2
  let u' := u.putTilth p (s.tref p v 32) (readExt e u h.data []).2
  have noted := u'.noteLines_keeps p w l false
  have inv' := noted.kinv (written.keeps.kinv (reached.keeps.kinv inv))
  obtain ⟨g, x, i, books⟩ := reached.plots p
  have plot : (u'.noteLines p w l false).plot p = { u.plot p with
      tilth := memWrite (u.plot p).tilth (s.tref p v 32) ((readExt e u h.data []).2.map (·.1)), poison := poison, poisoned := poisoned } := by
    rw [State.plot, noted.kplots rfl]
    exact written.plot
  have goes := State.advance_replots inv' issues ⟨by rw [plot, books], by rw [plot, books], by rw [plot, books]⟩
  have runs : exec (.plotLoad p h) s = .next ((u'.noteLines p w l false).advance p) := by
    refine congrArg Host.Outcome.next ((State.issue_of_issues issues _).trans ?_)
    dsimp only
    rw [view]
    dsimp only
    rw [lines]
    dsimp only
    rw [if_neg (Nat.not_lt.2 fits), found]
    dsimp only
    rw [← answer, State.hostAnswers_clean u e clean]
    dsimp only
    rw [unchanged]
  refine ⟨_, runs, State.stores_of_plot inv (m := 16900 ||| 2560) ?_ (by decide) ?_ ?_⟩
  · exact ((((Keeps.refl (16900 ||| 2560) s).step reached.keeps rfl).step written.keeps rfl).step noted rfl).step goes.keeps rfl
  · rw [goes.plot]
    rfl
  · rw [goes.plot]
    change ((u'.noteLines p w l false).plot p).tilth = _
    rw [plot]
    dsimp only
    rw [reached.tilth, bytes]
    rfl

/-! ### STORE (R597) -/

theorem State.anyMarked_good {s : State} {p : Nat} (good : (s.plot p).poison = []) (o n : Nat) :
    ((s.getMarked (.tilth p o) n).2.any fun y => y.2) = false := by
  rw [State.getMarked_tilth_good good, List.any_map, List.any_eq_false]
  exact fun b _ => Bool.false_ne_true

theorem Reached.poison {s u : State} (reached : Reached s u) (q : Nat) : (u.plot q).poison = (s.plot q).poison := by
  obtain ⟨g, w, i, books⟩ := reached.plots q
  rw [books]

/-- A STORE that reaches one extent at once writes the tilth there, notes the lines and goes on. -/
theorem State.plotStore_runs {s : State} (inv : s.Inv) {p : Fin 16} {v : Nat} {w : View} {l : List (Nat × Nat)} {target : Target} {n : Nat}
    (issues : s.Issues p 0x21 v [(15, 12), (23, 16), (63, 32), (95, 64), (127, 96)]) (view : s.view? p (fld v 23 16) = some w)
    (lines : lineRanges w ((fld v 95 64 + s.idx p (fld v 15 12)) % 2 ^ 64) (fld v 127 96) = some l)
    (fits : s.tref p v 32 + fld v 127 96 * w.x ≤ s.dataTop p)
    (found : (reachRanges l s p w.space (s.viewBase p w) .write []).2 = .ok [(target, n)]) (good : (s.plot p).poison = []) :
    ∃ u va, Reached s u ∧ exec (.plotStore p) s =
      .next (((u.putBytes target va ((memRead (s.plot p).tilth (s.tref p v 32) n).map fun b => (b, false)) (u.plotTag p) (u.plotRo p)
        (.gleaner p)).noteLines p w l true).advance p) := by
  obtain ⟨u, answer⟩ : ∃ u, u = (reachRanges l s p w.space (s.viewBase p w) .write []).1 := ⟨_, rfl⟩
  have reached : Reached s u := answer ▸ reachRanges_ok l inv found
  have whole := reachRanges_single lines found
  obtain ⟨va, vas⟩ := withVas_single target n l (s.viewBase p w)
  have good' : (u.plot p).poison = [] := (reached.poison p).trans good
  have bytes := State.getMarked_tilth_good good' (s.tref p v 32) n
  rw [reached.tilth] at bytes
  refine ⟨u, va, reached, congrArg Host.Outcome.next ((State.issue_of_issues issues _).trans ?_)⟩
  dsimp only
  rw [view]
  dsimp only
  rw [lines]
  dsimp only
  rw [if_neg (Nat.not_lt.2 fits), found]
  dsimp only
  rw [← answer, vas, whole, State.anyMarked_good good', bytes]
  rw [if_neg (by decide), writeExt, List.take_of_length_le (by rw [List.length_map, length_memRead])]
  rfl

/-- After a command that has changed neither plots nor program, the plot stands at its next command with its tilth as it was. -/
theorem State.advance_same {s u x y : State} {m p op v : Nat} {fields : List (Nat × Nat)} (reached : Reached s u) (inv : s.Inv)
    (issues : s.Issues p op v fields) (inv' : x.Inv) (noted : Keeps m x y) (plots : x.plots = u.plots)
    (masked : m.testBit 14 = false := by decide) :
    Replotted y (y.advance p) p ((u.plot p).goOn ((s.plot p).pc + 1)) ∧ ((y.advance p).plot p).tilth = (s.plot p).tilth := by
  have plot : y.plot p = u.plot p := by rw [State.plot, State.plot, noted.kplots masked, plots]
  have goes := State.advance_replots (noted.kinv inv') issues (plot ▸ (reached.plots p).sameCommand)
  rw [plot] at goes
  refine ⟨goes, ?_⟩
  rw [goes.plot]
  exact reached.tilth p

theorem completes_plotStore_hbm (s : State) (p : Fin 16) (v : Nat) (w : View) (l : List (Nat × Nat)) (a n : Nat) (inv : s.Inv)
    (issues : s.Issues p 0x21 v [(15, 12), (23, 16), (63, 32), (95, 64), (127, 96)]) (view : s.view? p (fld v 23 16) = some w)
    (lines : lineRanges w ((fld v 95 64 + s.idx p (fld v 15 12)) % 2 ^ 64) (fld v 127 96) = some l)
    (fits : s.tref p v 32 + fld v 127 96 * w.x ≤ s.dataTop p)
    (found : (reachRanges l s p w.space (s.viewBase p w) .write []).2 = .ok [(.hbm a, n)]) (scrub : s.pwr.scrub = [])
    (good : (s.plot p).poison = []) :
    Completes (.plotStore p) s fun t =>
      memRead t.hbm a n = memRead (s.plot p).tilth (s.tref p v 32) n ∧ (∀ x, x < a ∨ a + n ≤ x → memByte t.hbm x = memByte s.hbm x) ∧
      (t.plot p).tilth = (s.plot p).tilth ∧ (t.plot p).pc = (s.plot p).pc + 1 ∧ t.reg = s.reg ∧ t.g = s.g := by
  obtain ⟨u, va, reached, runs⟩ := State.plotStore_runs inv issues view lines fits found good
  have scrub' : u.pwr.scrub = [] := by rw [reached.keeps.kpwr rfl, scrub]
  obtain ⟨poison, wrote⟩ := State.putMarked_hbm scrub' a ((memRead (s.plot p).tilth (s.tref p v 32) n).map fun b => (b, false))
  have kept := u.putMarked_keeps (.hbm a) ((memRead (s.plot p).tilth (s.tref p v 32) n).map fun b => (b, false))
  obtain ⟨x, written⟩ : ∃ x, x = u.putMarked (.hbm a) ((memRead (s.plot p).tilth (s.tref p v 32) n).map fun b => (b, false)) := ⟨_, rfl⟩
  rw [← written] at wrote kept
  have runs : exec (.plotStore p) s = .next ((x.noteLines p w l true).advance p) := written ▸ runs
  have noted := x.noteLines_keeps p w l true
  obtain ⟨goes, tilth⟩ := State.advance_same reached inv issues ((kept.kinv (reached.keeps.kinv inv))) noted (by rw [wrote])
  obtain ⟨wf, -⟩ := inv
  have hbm : ((x.noteLines p w l true).advance p).hbm = memWrite s.hbm a (memRead (s.plot p).tilth (s.tref p v 32) n) := by
    rw [goes.keeps.khbm rfl, noted.khbm rfl, wrote, List.map_map]
    dsimp only
    rw [reached.keeps.khbm rfl]
    exact congrArg (memWrite s.hbm a) (List.map_id _)
  refine ⟨_, runs, ?_, fun y outside => ?_, tilth, by rw [goes.plot]; rfl, ?_, ?_⟩
  · rw [hbm]
    have back := memRead_memWrite s.hbm a (memRead (s.plot p).tilth (s.tref p v 32) n) wf
    rwa [length_memRead] at back
  · rw [hbm, memByte_memWrite_outside _ _ _ _ wf (by rwa [length_memRead])]
  · rw [goes.keeps.kreg rfl, noted.kreg rfl, kept.kreg rfl, reached.keeps.kreg rfl]
  · rw [goes.keeps.kg rfl, noted.kg rfl, kept.kg rfl, reached.keeps.kg rfl]

/-! ### A write to host memory (R597, R297) -/

theorem State.post_addrType (s : State) (t : Tlp) : s.post t = s.post (s.addrType t) := rfl

theorem hostPieces_one {s : State} {a va : Nat} {d : List (Byte × Bool)} {pasid : Option Nat} {ro : Bool} {o : Owner} (fuel : Nat)
    (some_ : d ≠ []) (payload : d.length ≤ s.maxPayload) (page : a % 4096 + d.length ≤ 4096) :
    hostPieces (fuel + 2) s a va d pasid ro o =
      s.post { kind := .memWrite, addr := a, data := d.map (·.1), len := d.length, pasid := pasid, ro := ro && s.roEnable,
               ep := d.any (·.2), va := some va, owner := o } := by
  have whole : min (min s.maxPayload d.length) (4096 - a % 4096) = d.length := by omega
  rw [hostPieces, if_neg (by simpa using some_)]
  dsimp only
  rw [whole, List.take_length, List.drop_length, hostPieces]
  exact if_pos rfl

theorem Reached.writesNow {s u : State} (reached : Reached s u) (now : s.WritesNow) : u.WritesNow := by
  obtain ⟨⟨up, l0, queue, blocked, credit, noFlr⟩, bme, d0, thawed⟩ := now
  have host : u.host = s.host := reached.keeps.khost rfl
  have link : u.link = s.link := reached.keeps.klink rfl
  have cfg : u.cfg = s.cfg := reached.keeps.kcfg rfl
  refine ⟨⟨?_, ?_, ?_, ?_, ?_, ?_⟩, ?_, ?_, ?_⟩
  · rwa [link]
  · rwa [link]
  · rwa [host]
  · rwa [host]
  · rwa [host]
  · rwa [host]
  · rwa [State.bme, State.cfgv, cfg, ← State.cfgv, ← State.bme]
  · rwa [host]
  · rwa [host]

theorem completes_plotStore_host (s : State) (p : Fin 16) (v : Nat) (w : View) (l : List (Nat × Nat)) (a n : Nat) (inv : s.Inv)
    (issues : s.Issues p 0x21 v [(15, 12), (23, 16), (63, 32), (95, 64), (127, 96)]) (view : s.view? p (fld v 23 16) = some w)
    (lines : lineRanges w ((fld v 95 64 + s.idx p (fld v 15 12)) % 2 ^ 64) (fld v 127 96) = some l)
    (fits : s.tref p v 32 + fld v 127 96 * w.x ≤ s.dataTop p)
    (found : (reachRanges l s p w.space (s.viewBase p w) .write []).2 = .ok [(.host a, n)]) (good : (s.plot p).poison = [])
    (now : s.WritesNow) (some_ : 0 < n) (payload : n ≤ s.maxPayload) (page : a % 4096 + n ≤ 4096) :
    Completes (.plotStore p) s fun t =>
      t.host.wire.map (fun x => (x.kind, x.addr, x.data, x.owner)) = s.host.wire.map (fun x => (x.kind, x.addr, x.data, x.owner)) ++ [(.memWrite, a,
      memRead (s.plot p).tilth (s.tref p v 32) n, .gleaner p)] ∧ (t.plot p).tilth = (s.plot p).tilth ∧ (t.plot p).pc = (s.plot p).pc + 1 ∧
      t.hbm = s.hbm ∧ t.reg = s.reg := by
  obtain ⟨u, va, reached, runs⟩ := State.plotStore_runs inv issues view lines fits found good
  obtain ⟨d, data⟩ : ∃ d, d = (memRead (s.plot p).tilth (s.tref p v 32) n).map fun b => (b, false) := ⟨_, rfl⟩
  have length : d.length = n := by rw [data, List.length_map, length_memRead]
  have payload' : d.length ≤ u.maxPayload := by
    rwa [length, State.maxPayload, State.cfgv, reached.keeps.kcfg rfl, ← State.cfgv, ← State.maxPayload]
  obtain ⟨m, message⟩ : ∃ m : Tlp, m = u.addrType
      { kind := .memWrite, addr := a, data := d.map (·.1), len := d.length, pasid := u.plotTag p, ro := u.plotRo p && u.roEnable,
        ep := d.any (·.2), va := some va, owner := .gleaner p } := ⟨_, rfl⟩
  have posts : u.putBytes (.host a) va d (u.plotTag p) (u.plotRo p) (.gleaner p) = u.payPosted.left m := by
    obtain ⟨fuel, rfl⟩ : ∃ fuel, n = fuel + 1 := ⟨n - 1, by omega⟩
    rw [State.putBytes, length, hostPieces_one fuel (List.ne_nil_of_length_pos (by omega)) payload' (by omega), State.post_addrType, ← message]
    exact u.post_leaves_now m (reached.writesNow now) (by rw [message]; rfl) (by rw [message]; rfl) (by rw [message]; rfl) (by rw [message]; rfl)
      fun x => x.left_host m
  rw [← data, posts] at runs
  have left := u.payPosted.left_keeps m
  have wire : (u.payPosted.left m).host.wire = s.host.wire ++ [m] := by
    rw [State.left_host, State.payPosted, reached.keeps.khost rfl]
  have noted := (u.payPosted.left m).noteLines_keeps p w l true
  obtain ⟨goes, tilth⟩ := State.advance_same reached inv issues (left.kinv (reached.keeps.kinv inv)) noted (left.kplots rfl)
  refine ⟨_, runs, ?_, tilth, by rw [goes.plot]; rfl, ?_, ?_⟩
  · rw [goes.keeps.khost rfl, noted.khost rfl, wire, List.map_append, List.map_singleton, message, data]
    have bytes : ((memRead (s.plot p).tilth (s.tref p v 32) n).map fun b => (b, false)).map (·.1) = memRead (s.plot p).tilth (s.tref p v 32) n := by
      rw [List.map_map]
      exact List.map_id _
    dsimp only [State.addrType]
    rw [bytes]
  · rw [goes.keeps.khbm rfl, noted.khbm rfl, left.khbm rfl]
    exact reached.keeps.khbm rfl
  · rw [goes.keeps.kreg rfl, noted.kreg rfl, left.kreg rfl]
    exact reached.keeps.kreg rfl

/-! ### TCOPY (R597, R616) -/

theorem completes_tcopy (s : State) (p : Fin 16) (v : Nat) (inv : s.Inv) (issues : s.Issues p 0x22 v [(12, 8), (47, 16), (79, 48), (111, 80)])
    (srcAligned : s.tref p v 16 % 64 = 0) (dstAligned : s.tref p v 48 % 64 = 0) (whole : fld v 111 80 % 64 = 0)
    (srcFits : s.tref p v 16 + fld v 111 80 ≤ s.dataTop p) (within : bit v 12 = false) (dstFits : s.tref p v 48 + fld v 111 80 ≤ s.dataTop p) :
    Completes (.tcopy p) s fun t =>
      s.Stores t p (s.tref p v 48) (memRead (s.plot p).tilth (s.tref p v 16) (fld v 111 80)) ∧ t.od = s.od := by
  obtain ⟨poison, poisoned, written⟩ := State.putTilth_writes inv p (s.tref p v 48) (s.getMarked (.tilth p (s.tref p v 16)) (fld v 111 80)).2
  rw [State.getMarked_tilth_bytes] at written
  have goes := State.advance_replots (written.keeps.kinv inv) issues
    ⟨by rw [written.plot], by rw [written.plot], by rw [written.plot]⟩
  rw [written.plot] at goes
  refine ⟨_, congrArg Host.Outcome.next ((State.issue_of_issues issues _).trans ?_),
    State.stores_of_plot inv (written.keeps.trans goes.keeps) (by decide) ?_ ?_, (goes.keeps.kod rfl).trans (written.keeps.kod rfl)⟩
  · dsimp only
    rw [if_neg (by simp [srcAligned, dstAligned, whole]), if_neg (by simp [within]; omega), if_pos (by simp [within])]
    rfl
  · rw [goes.plot]
    rfl
  · rw [goes.plot]
    rfl

theorem completes_tcopy_other (s : State) (p : Fin 16) (v : Nat) (q : Fin 16) (o : Nat) (inv : s.Inv)
    (issues : s.Issues p 0x22 v [(12, 8), (47, 16), (79, 48), (111, 80)]) (srcAligned : s.tref p v 16 % 64 = 0)
    (dstAligned : s.tref p v 48 % 64 = 0) (whole : fld v 111 80 % 64 = 0) (srcFits : s.tref p v 16 + fld v 111 80 ≤ s.dataTop p)
    (good : (s.plot p).poison = []) (outside : bit v 12 = true) (inTilth : s.tref p v 48 < 2 ^ 28)
    (found : (s.reachRange p 2 (fld v 11 8 * 2 ^ 28 + s.tref p v 48) 0 (fld v 111 80) .write).2 = .ok [(.tilth q o, fld v 111 80)]) (other : q ≠ p) :
    Completes (.tcopy p) s fun t =>
      memRead (t.plot q).tilth o (fld v 111 80) = memRead (s.plot p).tilth (s.tref p v 16) (fld v 111 80) ∧ (t.plot p).tilth = (s.plot p).tilth ∧
      (t.plot p).pc = (s.plot p).pc + 1 ∧ t.hbm = s.hbm ∧ t.g = s.g := by
  obtain ⟨u, answer⟩ : ∃ u, u = (s.reachRange p 2 (fld v 11 8 * 2 ^ 28 + s.tref p v 48) 0 (fld v 111 80) .write).1 := ⟨_, rfl⟩
  have reached : Reached s u := answer ▸ State.reachRange_ok inv found
  have inv' := reached.keeps.kinv inv
  obtain ⟨va, vas⟩ := withVas_single (.tilth q o) (fld v 111 80) [(0, fld v 111 80)] (fld v 11 8 * 2 ^ 28 + s.tref p v 48)
  have good' : (u.plot p).poison = [] := (reached.poison p).trans good
  have bytes := State.getMarked_tilth_bytes u p (s.tref p v 16) (fld v 111 80)
  obtain ⟨d, data⟩ : ∃ d, d = (u.getMarked (.tilth p (s.tref p v 16)) (fld v 111 80)).2 := ⟨_, rfl⟩
  rw [← data, reached.tilth] at bytes
  have length : d.length = fld v 111 80 := by rw [← List.length_map (f := (·.1)), bytes, length_memRead]
  obtain ⟨poison, written⟩ := State.putMarked_tilth inv' q o d
  obtain ⟨x, written_⟩ : ∃ x, x = u.putMarked (.tilth q o) d := ⟨_, rfl⟩
  rw [← written_] at written
  have plot : x.plot p = u.plot p := written.others p fun same => other (Fin.ext same.symm)
  have goes := State.advance_replots (written.keeps.kinv inv') issues (plot ▸ (reached.plots p).sameCommand)
  obtain ⟨wf, -⟩ := State.plot_wf inv q
  refine ⟨x.advance p, congrArg Host.Outcome.next ((State.issue_of_issues issues _).trans ?_), ?_, ?_, by rw [goes.plot]; rfl, ?_, ?_⟩
  · dsimp only
    rw [if_neg (by simp [srcAligned, dstAligned, whole]), if_neg (by simp [outside]; omega), if_neg (by simp [outside]),
      if_neg (Nat.not_le.2 inTilth), found]
    dsimp only
    rw [← answer, vas, State.anyMarked_good good', if_neg (by decide), ← data, writeExt, List.take_of_length_le (Nat.le_of_eq length), written_]
    rfl
  · rw [goes.others q fun same => other (Fin.ext same), written.plot]
    dsimp only
    rw [reached.tilth, bytes]
    have back := memRead_memWrite (s.plot q).tilth o (memRead (s.plot p).tilth (s.tref p v 16) (fld v 111 80)) wf
    rwa [length_memRead] at back
  · rw [goes.plot, plot]
    exact reached.tilth p
  · rw [goes.keeps.khbm rfl, written.keeps.khbm rfl, reached.keeps.khbm rfl]
  · rw [goes.keeps.kg rfl, written.keeps.kg rfl, reached.keeps.kg rfl]

end Sys2Proof.Machine
end

section
namespace Sys2Proof.Machine

/-! ### The beds of a plot -/

theorem State.setBed_replots {s : State} (inv : s.Inv) (p k : Nat) (x : Bed) :
    Replotted s (s.setBed p k x) p { s.plot p with beds := (s.plot p).beds.set k x } :=
  .of_modPlot inv p _ id

/-- What a command leaves that sets one bed of its plot. -/
structure BedSet (s t : State) (p k : Nat) (x : Bed) : Prop where
  bed : t.bed p k = x
  pc : (t.plot p).pc = (s.plot p).pc + 1
  tilth : (t.plot p).tilth = (s.plot p).tilth
  hbm : t.hbm = s.hbm
  od : t.od = s.od

theorem State.setBed_advance {s : State} (inv : s.Inv) {p op v k : Nat} {fields : List (Nat × Nat)} (issues : s.Issues p op v fields) (x : Bed)
    (inside : k < (s.plot p).beds.length) : BedSet s ((s.setBed p k x).advance p) p k x := by
  have set := State.setBed_replots inv p k x
  have goes := State.advance_replots (set.keeps.kinv inv) issues ⟨by rw [set.plot], by rw [set.plot], by rw [set.plot]⟩
  rw [set.plot] at goes
  refine ⟨?_, by rw [goes.plot]; rfl, by rw [goes.plot]; rfl, (goes.keeps.khbm rfl).trans (set.keeps.khbm rfl),
    (goes.keeps.kod rfl).trans (set.keeps.kod rfl)⟩
  rw [State.bed, goes.plot]
  change ((s.plot p).beds.set k x).getD k {} = x
  rw [List.getD_eq_getElem _ _ (by rwa [List.length_set]), List.getElem_set_self]

/-! ### BLOAD and ACC_CLEAR (R601) -/

theorem fld_bed_lt {v : Nat} {beds : List Bed} (four : beds.length = 4) : fld v 9 8 < beds.length :=
  four ▸ fld_lt v 9 8

/-- The tile that BLOAD takes out of good tilth. -/
theorem State.bload_runs {s : State} {p : Fin 16} {v : Nat} (issues : s.Issues p 0x30 v [(11, 8), (23, 16), (63, 32)])
    (type : (pairMode (fld v 23 16) (fld v 23 16)).isSome = true) (aligned : s.tref p v 32 % 64 = 0)
    (fits : s.tref p v 32 + tileBytes (fld v 23 16) ≤ s.dataTop p) (good : (s.plot p).poison = []) :
    exec (.bload p) s = .next ((s.setBed p (fld v 9 8)
      (if bit v 10 then
        { s.bed p (fld v 9 8) with buf1 := { ty := fld v 23 16, data := memRead (s.plot p).tilth (s.tref p v 32) (tileBytes (fld v 23 16)), trans := bit v 11 } }
      else
        { s.bed p (fld v 9 8) with buf0 := { ty := fld v 23 16, data := memRead (s.plot p).tilth (s.tref p v 32) (tileBytes (fld v 23 16)), trans := bit v 11 } })).advance p) := by
  refine congrArg Host.Outcome.next ((State.issue_of_issues issues _).trans ?_)
  have known : (pairMode (fld v 23 16) (fld v 23 16)).isNone = false := by
    rw [← Option.not_isSome, type]
    rfl
  dsimp only
  rw [if_neg (by simp [known, aligned]), if_neg (Nat.not_lt.2 fits), State.getMarked_tilth_good good]
  have unmarked : (((memRead (s.plot p).tilth (s.tref p v 32) (tileBytes (fld v 23 16))).map fun b => (b, false)).map fun y => y.2).toArray.any id =
      false := by
    rw [List.any_toArray, List.map_map, List.any_map, List.any_eq_false]
    exact fun _ _ => Bool.false_ne_true
  have bytes : ((memRead (s.plot p).tilth (s.tref p v 32) (tileBytes (fld v 23 16))).map fun b => (b, false)).map (fun y => y.1) =
      memRead (s.plot p).tilth (s.tref p v 32) (tileBytes (fld v 23 16)) := by
    rw [List.map_map]
    exact List.map_id _
  simp only [unmarked, bytes, Bool.false_and, List.filter_false]

theorem completes_bload_first (s : State) (p : Fin 16) (v : Nat) (inv : s.Inv) (issues : s.Issues p 0x30 v [(11, 8), (23, 16), (63, 32)])
    (type : (pairMode (fld v 23 16) (fld v 23 16)).isSome = true) (aligned : s.tref p v 32 % 64 = 0)
    (fits : s.tref p v 32 + tileBytes (fld v 23 16) ≤ s.dataTop p) (good : (s.plot p).poison = []) (buffer : bit v 10 = false)
    (four : (s.plot p).beds.length = 4) :
    Completes (.bload p) s fun t =>
      t.bed p (fld v 9 8) = { s.bed p (fld v 9 8) with buf0 := { ty := fld v 23 16, data := memRead (s.plot p).tilth (s.tref p v 32) (tileBytes (fld v 23 16)), trans := bit v 11 } } ∧
      (t.plot p).pc = (s.plot p).pc + 1 ∧ (t.plot p).tilth = (s.plot p).tilth ∧ t.hbm = s.hbm ∧ t.od = s.od := by
  have runs := State.bload_runs issues type aligned fits good
  obtain ⟨bed, pc, tilth, hbm, od⟩ := State.setBed_advance inv issues _ (fld_bed_lt four)
  exact ⟨_, runs, bed.trans (if_neg (by rw [buffer]; decide)), pc, tilth, hbm, od⟩

theorem completes_bload_second (s : State) (p : Fin 16) (v : Nat) (inv : s.Inv) (issues : s.Issues p 0x30 v [(11, 8), (23, 16), (63, 32)])
    (type : (pairMode (fld v 23 16) (fld v 23 16)).isSome = true) (aligned : s.tref p v 32 % 64 = 0)
    (fits : s.tref p v 32 + tileBytes (fld v 23 16) ≤ s.dataTop p) (good : (s.plot p).poison = []) (buffer : bit v 10 = true)
    (four : (s.plot p).beds.length = 4) :
    Completes (.bload p) s fun t =>
      t.bed p (fld v 9 8) = { s.bed p (fld v 9 8) with buf1 := { ty := fld v 23 16, data := memRead (s.plot p).tilth (s.tref p v 32) (tileBytes (fld v 23 16)), trans := bit v 11 } } ∧
      (t.plot p).pc = (s.plot p).pc + 1 ∧ (t.plot p).tilth = (s.plot p).tilth ∧ t.hbm = s.hbm ∧ t.od = s.od := by
  have runs := State.bload_runs issues type aligned fits good
  obtain ⟨bed, pc, tilth, hbm, od⟩ := State.setBed_advance inv issues _ (fld_bed_lt four)
  exact ⟨_, runs, bed.trans (if_pos buffer), pc, tilth, hbm, od⟩

theorem completes_accClear (s : State) (p : Fin 16) (v : Nat) (inv : s.Inv) (issues : s.Issues p 0x32 v [(9, 8), (23, 16), (27, 24), (47, 32)])
    (mode : fld v 23 16 ≤ 2)
    (exponent : fld v 23 16 = 1 → -320 ≤ sext 16 (fld v 47 32 + s.idx p (fld v 27 24)) ∧ sext 16 (fld v 47 32 + s.idx p (fld v 27 24)) ≤ 320)
    (four : (s.plot p).beds.length = 4) :
    Completes (.accClear p) s fun t =>
      t.bed p (fld v 9 8) = { s.bed p (fld v 9 8) with mode := fld v 23 16, ew := (if fld v 23 16 = 0 then 56 else if fld v 23 16 = 2 then 88 else sext 16 (fld v 47 32 + s.idx p (fld v 27 24))), base := none, cells := [], bad := [] } ∧
      (t.plot p).pc = (s.plot p).pc + 1 ∧ (t.plot p).tilth = (s.plot p).tilth ∧ t.hbm = s.hbm ∧ t.od = s.od := by
  obtain ⟨bed, pc, tilth, hbm, od⟩ := State.setBed_advance inv issues _ (fld_bed_lt four)
  refine ⟨_, congrArg Host.Outcome.next ((State.issue_of_issues issues _).trans ?_), bed, pc, tilth, hbm, od⟩
  exact if_neg (by simp; omega)

/-! ### Cells of a bed -/

theorem kvFind_append_left {α : Type} (k : Nat) (l m : List (Nat × α)) (below : ∀ e ∈ l, e.1 < k) : kvFind (l ++ m) k = kvFind m k := by
  induction l with
  | nil => rfl
  | cons e l ih =>
    have small := below e List.mem_cons_self
    rw [List.cons_append, kvFind, if_neg (Nat.ne_of_lt small), if_neg (Nat.not_lt.2 (Nat.le_of_lt small)),
      ih fun e later => below e (List.mem_cons_of_mem _ later)]

theorem kvFind_mapIdx {α : Type} (l : List α) (lo i : Nat) (inside : i < l.length) (m : List (Nat × α)) :
    kvFind (l.mapIdx (fun i w => (lo + i, w)) ++ m) (lo + i) = some l[i] := by
  induction l generalizing lo i with
  | nil => exact absurd inside (Nat.not_lt_zero _)
  | cons w l ih =>
    rw [List.mapIdx_cons, List.cons_append, kvFind]
    cases i with
    | zero => exact if_pos rfl
    | succ i =>
      rw [if_neg (by omega), if_neg (by omega)]
      have next := ih (lo + 1) i (Nat.lt_of_succ_lt_succ inside)
      simp only [Nat.add_right_comm lo 1, Nat.add_assoc] at next ⊢
      exact next

theorem Bed.cell_setCells (b : Bed) (lo i : Nat) (l : List (Wide × Bool)) (inside : i < l.length) : (b.setCells lo l).cell (lo + i) = l[i].1 := by
  have found : kvFind (b.setCells lo l).cells (lo + i) = some l[i].1 := by
    have below : ∀ e ∈ b.cells.filter (fun c => decide (c.1 < lo)), e.1 < lo + i := fun e kept => by
      have := of_decide_eq_true (List.mem_filter.1 kept).2
      omega
    have named : l.mapIdx (fun i (w : Wide × Bool) => (lo + i, w.1)) = (l.map (·.1)).mapIdx (fun i w => (lo + i, w)) :=
      List.ext_getElem (by simp) (by simp)
    rw [Bed.setCells]
    dsimp only
    rw [List.append_assoc, kvFind_append_left _ _ _ below, named, kvFind_mapIdx _ lo i (by rwa [List.length_map]), List.getElem_map]
  rw [Bed.cell, found]

/-! ### ACC_ADDW (R605) -/

theorem memRead_take (m : List Host.Cell) (a k n : Nat) (inside : k ≤ n) : (memRead m a n).take k = memRead m a k := by
  rw [memRead_eq_map, memRead_eq_map, ← List.map_take, List.take_range, Nat.min_eq_left inside]

theorem memRead_drop (m : List Host.Cell) (a k n : Nat) : (memRead m a n).drop k = memRead m (a + k) (n - k) := by
  induction k generalizing a n with
  | zero => rfl
  | succ k ih =>
    cases n with
    | zero => rw [Nat.zero_sub]; rfl
    | succ n => rw [memRead, List.drop_succ_cons, ih, Nat.add_assoc, Nat.add_comm 1 k, Nat.succ_sub_succ]

theorem splitWords_length (k n : Nat) (bs : List Byte) : (splitWords k n bs).length = n := by
  induction n generalizing bs with
  | zero => rfl
  | succ n ih => rw [splitWords, List.length_cons, ih]

theorem splitWords_memRead (m : List Host.Cell) (k n a i : Nat) (inside : i < n) (more : Nat) :
    (splitWords k n (memRead m a (n * k + more)))[i]'(by rwa [splitWords_length]) = leNat (memRead m (a + k * i) k) := by
  induction n generalizing a i with
  | zero => exact absurd inside (Nat.not_lt_zero _)
  | succ n ih =>
    simp only [splitWords]
    cases i with
    | zero =>
      rw [List.getElem_cons_zero, memRead_take _ _ _ _ (by rw [Nat.succ_mul]; omega)]
      rfl
    | succ i =>
      have rest : (memRead m a ((n + 1) * k + more)).drop k = memRead m (a + k) (n * k + more) := by
        rw [memRead_drop]
        congr 1
        rw [Nat.succ_mul]
        omega
      rw [List.getElem_cons_succ]
      simp only [rest]
      rw [ih (a + k) i (Nat.lt_of_succ_lt_succ inside), Nat.mul_succ]
      congr 2
      omega

theorem elems_wide (n : Nat) (bs : List Byte) : elems 8 n bs = splitWords 16 n bs := rfl

theorem completes_accAddw (s : State) (p : Fin 16) (v : Nat) (inv : s.Inv) (issues : s.Issues p 0x33 v [(9, 8), (63, 32), (79, 64), (95, 80)])
    (rows : rowsOk (fld v 79 64) (fld v 95 80) = true) (aligned : s.tref p v 32 % 64 = 0)
    (fits : s.tref p v 32 + fld v 79 64 * 4096 ≤ s.dataTop p) (four : (s.plot p).beds.length = 4) :
    Completes (.accAddw p) s fun t =>
      (∀ i < fld v 79 64 * 256,
      (t.bed p (fld v 9 8)).cell (fld v 95 80 * 256 + i) = wideAdd ((s.bed p (fld v 9 8)).cell (fld v 95 80 * 256 + i)) (wideOf (leNat (memRead (s.plot p).tilth (s.tref p v 32 + 16 * i) 16)))) ∧
      (t.plot p).pc = (s.plot p).pc + 1 ∧ (t.plot p).tilth = (s.plot p).tilth ∧ t.hbm = s.hbm ∧ t.od = s.od := by
  obtain ⟨g, read⟩ : ∃ g, g = (s.getMarked (.tilth p (s.tref p v 32)) (fld v 79 64 * 4096)).2 := ⟨_, rfl⟩
  have bytes := s.getMarked_tilth_bytes p (s.tref p v 32) (fld v 79 64 * 4096)
  rw [← read] at bytes
  obtain ⟨cells, added⟩ : ∃ cells, cells = (elems 8 (fld v 79 64 * 256) (g.map (·.1))).mapIdx (fun i w =>
      (wideAdd ((s.bed p (fld v 9 8)).cell (fld v 95 80 * 256 + i)) (wideOf w),
        ((g.drop (16 * i)).take 16).any (fun y => y.2) || kvGet false (s.bed p (fld v 9 8)).bad (fld v 95 80 * 256 + i))) := ⟨_, rfl⟩
  have words : elems 8 (fld v 79 64 * 256) (g.map (·.1)) =
      splitWords 16 (fld v 79 64 * 256) (memRead (s.plot p).tilth (s.tref p v 32) (fld v 79 64 * 256 * 16 + 0)) := by
    have size : fld v 79 64 * 4096 = fld v 79 64 * 256 * 16 + 0 := by omega
    rw [bytes, size, elems_wide]
  have length : cells.length = fld v 79 64 * 256 := by rw [added, List.length_mapIdx, words, splitWords_length]
  obtain ⟨bed, pc, tilth, hbm, od⟩ := State.setBed_advance inv issues ((s.bed p (fld v 9 8)).setCells (fld v 95 80 * 256) cells) (fld_bed_lt four)
  refine ⟨_, congrArg Host.Outcome.next ((State.issue_of_issues issues _).trans ?_), fun i inside => ?_, pc, tilth, hbm, od⟩
  · dsimp only
    rw [if_neg (by simp [rows, aligned]), if_neg (Nat.not_lt.2 fits), ← read, ← added]
  · rw [bed, Bed.cell_setCells _ _ _ _ (by rwa [length])]
    simp only [added, List.getElem_mapIdx, words, splitWords_memRead _ _ _ _ _ inside]

/-- Settles O42: what a move reads stands in tilth or HBM, and each move writes exactly those bytes, tile or cells. -/
theorem plotMovesComplete : Obligations.PlotMovesComplete :=
  ⟨fun s p v w l e h inv issues view lines fits found direct clean =>
     completes_plotLoad s p v w l e h inv issues view lines fits found direct.1.2.1 clean,
   fun s p v w l e a n inv issues view lines fits found direct single =>
     completes_plotStore_hbm s p v w l a n inv issues view lines fits (single ▸ found) direct.1.2.1 direct.2.1,
   fun s p v w l e a n inv issues view lines fits found direct now single some_ payload page _ =>
     completes_plotStore_host s p v w l a n inv issues view lines fits (single ▸ found) direct.2.1 now some_ payload page,
   fun s p v inv issues srcAligned dstAligned whole srcFits _ within dstFits =>
     completes_tcopy s p v inv issues srcAligned dstAligned whole srcFits within dstFits,
   fun s p v q o inv issues srcAligned dstAligned whole srcFits direct outside inTilth found other _ =>
     completes_tcopy_other s p v q o inv issues srcAligned dstAligned whole srcFits direct.2.1 outside inTilth found other,
   fun s p v inv issues type aligned fits direct buffer four =>
     completes_bload_first s p v inv issues type aligned fits direct.2.1 buffer four,
   fun s p v inv issues type aligned fits direct buffer four =>
     completes_bload_second s p v inv issues type aligned fits direct.2.1 buffer four,
   fun s p v inv issues mode exponent four => completes_accClear s p v inv issues mode exponent four,
   fun s p v inv issues rows aligned fits _ four => completes_accAddw s p v inv issues rows aligned fits four⟩

end Sys2Proof.Machine
end

section
namespace Sys2Proof.Machine

/-! ### Vector commands: the checks, the bytes and the flags -/

theorem State.vecOk_passes {s : State} {p n : Nat} {ops : List (Nat × Nat)} (f : State) (some_ : n ≠ 0)
    (good : ∀ o ∈ ops, o.1 % 64 = 0 ∧ o.1 + o.2 ≤ s.dataTop p) : s.vecOk p n ops f = f := by
  have aligned : (ops.any fun o => o.1 % 64 != 0) = false := by
    rw [List.any_eq_false]
    exact fun o listed => by simp [(good o listed).1]
  have inside : (ops.any fun o => decide (s.dataTop p < o.1 + o.2)) = false := by
    rw [List.any_eq_false]
    exact fun o listed => by simpa using (good o listed).2
  rw [State.vecOk, aligned, inside, if_neg (by simp [some_]), if_neg (by decide)]

/-- What a command leaves that writes bytes of its plot's tilth. -/
theorem State.writes_stores {s u : State} (inv : s.Inv) {p op v : Nat} {fields : List (Nat × Nat)} (issues : s.Issues p op v fields)
    (keeps : Keeps 6 s u) (d : Nat) (marked : List (Byte × Bool)) :
    s.Stores ((u.putTilth p d marked).advance p) p d (marked.map (·.1)) := by
  have inv' := keeps.kinv inv
  obtain ⟨poison, poisoned, written⟩ := State.putTilth_writes inv' p d marked
  have plot : u.plot p = s.plot p := by rw [State.plot, State.plot, keeps.kplots rfl]
  rw [plot] at written
  have goes := State.advance_replots (written.keeps.kinv inv') issues ⟨by rw [written.plot], by rw [written.plot], by rw [written.plot]⟩
  rw [written.plot] at goes
  refine State.stores_of_plot inv (m := 16390) (((Keeps.refl _ s).step keeps rfl).step (written.keeps.trans goes.keeps) rfl) (by decide) ?_ ?_
  · rw [goes.plot]
    rfl
  · rw [goes.plot]
    rfl

/-- What a command leaves that writes bytes of its plot's tilth and adds to the flags of its program. -/
theorem State.writes_flags {s u : State} (inv : s.Inv) {p op v : Nat} {fields : List (Nat × Nat)} (issues : s.Issues p op v fields)
    (keeps : Keeps 6 s u) (d : Nat) (marked : List (Byte × Bool)) (a : Arith) :
    s.Stores (((u.putTilth p d marked).orFlags p a).advance p) p d (marked.map (·.1)) ∧
    ((((u.putTilth p d marked).orFlags p a).advance p).plot p).flags = (s.plot p).flags.or a ∧
    (((u.putTilth p d marked).orFlags p a).advance p).od = u.od := by
  have inv' := keeps.kinv inv
  obtain ⟨poison, poisoned, written⟩ := State.putTilth_writes inv' p d marked
  have plot : u.plot p = s.plot p := by rw [State.plot, State.plot, keeps.kplots rfl]
  rw [plot] at written
  have flagged := Replotted.of_modPlot (written.keeps.kinv inv') p (fun x => { x with flags := x.flags.or a }) id
  rw [written.plot] at flagged
  have goes := State.advance_replots (flagged.keeps.kinv (written.keeps.kinv inv')) issues
    ⟨by rw [flagged.plot], by rw [flagged.plot], by rw [flagged.plot]⟩
  rw [flagged.plot] at goes
  have all := written.keeps.trans (flagged.keeps.trans goes.keeps)
  refine ⟨State.stores_of_plot inv (m := 16390) (((Keeps.refl _ s).step keeps rfl).step all rfl) (by decide) ?_ ?_, ?_, all.kod rfl⟩
  · exact congrArg Plot.pc goes.plot
  · exact congrArg Plot.tilth goes.plot
  · exact congrArg Plot.flags goes.plot

theorem Keeps.free (s : State) (n : Nat) : Keeps 6 s { s with free := n } := (Keeps.refl 6 s).setfree n rfl

theorem map_mark (bs : List Byte) (f : Nat → Bool) : (bs.mapIdx fun i b => (b, f i)).map (·.1) = bs :=
  List.ext_getElem (by simp) (by simp)

/-- What a command leaves that writes elements of a type that fills whole bytes, and flags where a result is a NaN. -/
theorem State.vector_stores {s u : State} (inv : s.Inv) {p op v : Nat} {fields : List (Nat × Nat)} (issues : s.Issues p op v fields)
    (keeps : Keeps 6 s u) (d t : Nat) (bytes : t ≠ 6) (l : List Nat) (ins : List (Nat × Nat)) (od : u.od = s.od) :
    s.Stores (((u.putVector p d t l ins).orFlags p (nanFlag t l)).advance p) p d (l.flatMap fun x => natLe (typeBits t / 8) x) ∧
    ((((u.putVector p d t l ins).orFlags p (nanFlag t l)).advance p).plot p).flags.nan = ((s.plot p).flags.nan || l.any (isNanBits t)) ∧
    (((u.putVector p d t l ins).orFlags p (nanFlag t l)).advance p).od = s.od := by
  have packed : packElems t l = l.flatMap fun x => natLe (typeBits t / 8) x := if_neg bytes
  obtain ⟨stores, flags, same⟩ := State.writes_flags inv issues keeps d
    ((packElems t l).mapIdx fun i b => (b, ins.any fun i_ => marked (u.plot p).poison (i_.1 + elemsBytes i_.2 (i / 64 * (512 / typeBits t)))
      (max 1 (elemsBytes i_.2 (512 / typeBits t))))) (nanFlag t l)
  rw [map_mark] at stores
  exact ⟨by rw [← packed]; exact stores, congrArg Arith.nan flags, same.trans od⟩

theorem vecType_of {t : Nat} (float : t = 2 ∨ t = 3 ∨ t = 4) : vecType t = true ∧ t ≠ 6 := by
  rcases float with rfl | rfl | rfl <;> decide

/-! ### Elementwise commands (R597, R599) -/

/-- The elements that VBIN computes. -/
def State.vbinElems (s : State) (p v : Nat) : List Nat :=
  ((s.operand p (s.tref p v 16) (fld v 15 12) (fld v 127 112 * 64)).zip (s.operand p (s.tref p v 48) (fld v 15 12) (fld v 127 112 * 64))).mapIdx
    fun i x => (vbin (fld v 15 12) (fld v 11 8) (s.free + i) x.1 x.2).getD 0

theorem completes_vbin (s : State) (p : Fin 16) (v : Nat) (r : List Nat) (inv : s.Inv)
    (issues : s.Issues p 0x40 v [(15, 8), (47, 16), (79, 48), (111, 80), (127, 112)]) (float : fld v 15 12 = 2 ∨ fld v 15 12 = 3 ∨ fld v 15 12 = 4)
    (some_ : fld v 127 112 ≠ 0) (aAligned : s.tref p v 16 % 64 = 0)
    (aFits : s.tref p v 16 + ((fld v 127 112 * 64) * typeBits (fld v 15 12) / 8) ≤ s.dataTop p) (bAligned : s.tref p v 48 % 64 = 0)
    (bFits : s.tref p v 48 + ((fld v 127 112 * 64) * typeBits (fld v 15 12) / 8) ≤ s.dataTop p) (dAligned : s.tref p v 80 % 64 = 0)
    (dFits : s.tref p v 80 + ((fld v 127 112 * 64) * typeBits (fld v 15 12) / 8) ≤ s.dataTop p) (known : fld v 11 8 ≤ 5)
    (results : r = s.vbinElems p v) :
    Completes (.vbin p) s fun t =>
      s.Stores t p (s.tref p v 80) (r.flatMap (fun x => natLe (typeBits (fld v 15 12) / 8) x)) ∧
      (t.plot p).flags.nan = ((s.plot p).flags.nan || r.any (isNanBits (fld v 15 12))) ∧ t.od = s.od := by
  obtain ⟨vector, bytes⟩ := vecType_of float
  refine ⟨_, congrArg Host.Outcome.next ((State.issue_of_issues issues _).trans ?_),
    State.vector_stores inv issues (Keeps.free s (s.free + fld v 127 112 * 64)) (s.tref p v 80) (fld v 15 12) bytes r
      [(s.tref p v 16, fld v 15 12), (s.tref p v 48, fld v 15 12)] rfl⟩
  dsimp only
  rw [if_neg (by simp [vector, known]), State.vecOk_passes _ (by omega) (by
    simp only [List.forall_mem_cons, List.not_mem_nil, false_imp_iff, implies_true, and_true]
    exact ⟨⟨aAligned, aFits⟩, ⟨bAligned, bFits⟩, dAligned, dFits⟩)]
  rw [results]
  rfl

theorem State.vbinElems_eq_map (s : State) (p v : Nat) (f : Nat × Nat → Nat)
    (each : ∀ free x, (vbin (fld v 15 12) (fld v 11 8) free x.1 x.2).getD 0 = f x) :
    s.vbinElems p v =
      ((s.operand p (s.tref p v 16) (fld v 15 12) (fld v 127 112 * 64)).zip (s.operand p (s.tref p v 48) (fld v 15 12) (fld v 127 112 * 64))).map f :=
  List.ext_getElem (by simp [State.vbinElems]) fun i _ _ => by simp [State.vbinElems, each]

theorem completes_vfma (s : State) (p : Fin 16) (v : Nat) (r : List Nat) (inv : s.Inv)
    (issues : s.Issues p 0x41 v [(15, 12), (47, 16), (79, 48), (111, 80), (127, 112)]) (float : fld v 15 12 = 2 ∨ fld v 15 12 = 3 ∨ fld v 15 12 = 4)
    (some_ : fld v 127 112 ≠ 0) (aAligned : s.tref p v 16 % 64 = 0)
    (aFits : s.tref p v 16 + ((fld v 127 112 * 64) * typeBits (fld v 15 12) / 8) ≤ s.dataTop p) (bAligned : s.tref p v 48 % 64 = 0)
    (bFits : s.tref p v 48 + ((fld v 127 112 * 64) * typeBits (fld v 15 12) / 8) ≤ s.dataTop p) (dAligned : s.tref p v 80 % 64 = 0)
    (dFits : s.tref p v 80 + ((fld v 127 112 * 64) * typeBits (fld v 15 12) / 8) ≤ s.dataTop p)
    (results : r = ((s.operand p (s.tref p v 16) (fld v 15 12) (fld v 127 112 * 64)).zip ((s.operand p (s.tref p v 48) (fld v 15 12) (fld v 127 112 * 64)).zip (s.operand p (s.tref p v 80) (fld v 15 12) (fld v 127 112 * 64)))).map (fun x => (encodeNum (fld v 15 12) .nearest (((numOf (fld v 15 12) x.1).mul (numOf (fld v 15 12) x.2.1)).add (numOf (fld v 15 12) x.2.2))).1)) :
    Completes (.vfma p) s fun t =>
      s.Stores t p (s.tref p v 80) (r.flatMap (fun x => natLe (typeBits (fld v 15 12) / 8) x)) ∧
      (t.plot p).flags.nan = ((s.plot p).flags.nan || r.any (isNanBits (fld v 15 12))) ∧ t.od = s.od := by
  obtain ⟨vector, bytes⟩ := vecType_of float
  refine ⟨_, congrArg Host.Outcome.next ((State.issue_of_issues issues _).trans ?_),
    State.vector_stores inv issues (Keeps.refl 6 s) (s.tref p v 80) (fld v 15 12) bytes r
      [(s.tref p v 16, fld v 15 12), (s.tref p v 48, fld v 15 12), (s.tref p v 80, fld v 15 12)] rfl⟩
  dsimp only
  rw [if_neg (by simp [vector]), State.vecOk_passes _ (by omega) (by
    simp only [List.forall_mem_cons, List.not_mem_nil, false_imp_iff, implies_true, and_true]
    exact ⟨⟨aAligned, aFits⟩, ⟨bAligned, bFits⟩, dAligned, dFits⟩)]
  have same : zip3 (fun _ x y z => (encodeNum (fld v 15 12) .nearest (((numOf (fld v 15 12) x).mul (numOf (fld v 15 12) y)).add (numOf (fld v 15 12) z))).1)
      (s.operand p (s.tref p v 16) (fld v 15 12) (fld v 127 112 * 64)) (s.operand p (s.tref p v 48) (fld v 15 12) (fld v 127 112 * 64))
      (s.operand p (s.tref p v 80) (fld v 15 12) (fld v 127 112 * 64)) = r := by
    rw [results]
    exact List.ext_getElem (by simp [zip3]) (by simp [zip3])
  rw [same]

theorem completes_vun (s : State) (p : Fin 16) (v : Nat) (r : List Nat) (inv : s.Inv)
    (issues : s.Issues p 0x42 v [(15, 8), (47, 16), (79, 48), (95, 80)]) (float : fld v 15 12 = 2 ∨ fld v 15 12 = 3 ∨ fld v 15 12 = 4)
    (some_ : fld v 95 80 ≠ 0) (aAligned : s.tref p v 16 % 64 = 0)
    (aFits : s.tref p v 16 + ((fld v 95 80 * 64) * typeBits (fld v 15 12) / 8) ≤ s.dataTop p) (dAligned : s.tref p v 48 % 64 = 0)
    (dFits : s.tref p v 48 + ((fld v 95 80 * 64) * typeBits (fld v 15 12) / 8) ≤ s.dataTop p) (known : fld v 11 8 ≤ 9)
    (results : r = (s.operand p (s.tref p v 16) (fld v 15 12) (fld v 95 80 * 64)).mapIdx (fun i x => (vun (fld v 15 12) (fld v 11 8) (s.free + i) x).getD 0)) :
    Completes (.vun p) s fun t =>
      s.Stores t p (s.tref p v 48) (r.flatMap (fun x => natLe (typeBits (fld v 15 12) / 8) x)) ∧
      (t.plot p).flags.nan = ((s.plot p).flags.nan || r.any (isNanBits (fld v 15 12))) ∧ t.od = s.od := by
  obtain ⟨vector, bytes⟩ := vecType_of float
  refine ⟨_, congrArg Host.Outcome.next ((State.issue_of_issues issues _).trans ?_),
    State.vector_stores inv issues (Keeps.free s (s.free + fld v 95 80 * 64)) (s.tref p v 48) (fld v 15 12) bytes r
      [(s.tref p v 16, fld v 15 12)] rfl⟩
  dsimp only
  rw [if_neg (by simp [vector, known]), State.vecOk_passes _ (by omega) (by
    simp only [List.forall_mem_cons, List.not_mem_nil, false_imp_iff, implies_true, and_true]
    exact ⟨⟨aAligned, aFits⟩, dAligned, dFits⟩), ← results]

theorem completes_vmuls (s : State) (p : Fin 16) (v : Nat) (r : List Nat) (inv : s.Inv)
    (issues : s.Issues p 0x44 v [(15, 12), (47, 16), (79, 48), (95, 80), (127, 96)]) (float : fld v 15 12 = 2 ∨ fld v 15 12 = 3 ∨ fld v 15 12 = 4)
    (some_ : fld v 95 80 ≠ 0) (aAligned : s.tref p v 16 % 64 = 0)
    (aFits : s.tref p v 16 + ((fld v 95 80 * 64) * typeBits (fld v 15 12) / 8) ≤ s.dataTop p) (dAligned : s.tref p v 48 % 64 = 0)
    (dFits : s.tref p v 48 + ((fld v 95 80 * 64) * typeBits (fld v 15 12) / 8) ≤ s.dataTop p)
    (results : r = (s.operand p (s.tref p v 16) (fld v 15 12) (fld v 95 80 * 64)).map (fun x => (encodeNum (fld v 15 12) .nearest ((numOf (fld v 15 12) x).mul (numOf 4 (fld v 127 96)))).1)) :
    Completes (.vmuls p) s fun t =>
      s.Stores t p (s.tref p v 48) (r.flatMap (fun x => natLe (typeBits (fld v 15 12) / 8) x)) ∧
      (t.plot p).flags.nan = ((s.plot p).flags.nan || r.any (isNanBits (fld v 15 12))) ∧ t.od = s.od := by
  obtain ⟨vector, bytes⟩ := vecType_of float
  refine ⟨_, congrArg Host.Outcome.next ((State.issue_of_issues issues _).trans ?_),
    State.vector_stores inv issues (Keeps.refl 6 s) (s.tref p v 48) (fld v 15 12) bytes r [(s.tref p v 16, fld v 15 12)] rfl⟩
  dsimp only
  rw [if_neg (by simp [vector]), State.vecOk_passes _ (by omega) (by
    simp only [List.forall_mem_cons, List.not_mem_nil, false_imp_iff, implies_true, and_true]
    exact ⟨⟨aAligned, aFits⟩, dAligned, dFits⟩), ← results]

/-! ### VCVT (R600) -/

theorem completes_vcvt (s : State) (p : Fin 16) (v : Nat) (r : List (Nat × Bool × Bool)) (inv : s.Inv)
    (issues : s.Issues p 0x43 v [(15, 8), (47, 16), (79, 48), (95, 80), (103, 96), (107, 104)]) (into : fld v 11 8 ≤ 7) (from_ : fld v 15 12 ≤ 7)
    (mode : fld v 103 96 ≤ 2) (some_ : fld v 95 80 ≠ 0) (aAligned : s.tref p v 16 % 64 = 0)
    (aFits : s.tref p v 16 + ((fld v 95 80 * 64) * typeBits (fld v 15 12) / 8) ≤ s.dataTop p) (dAligned : s.tref p v 48 % 64 = 0)
    (dFits : s.tref p v 48 + ((fld v 95 80 * 64) * typeBits (fld v 11 8) / 8) ≤ s.dataTop p)
    (results : r = (s.operand p (s.tref p v 16) (fld v 15 12) (fld v 95 80 * 64)).mapIdx (fun i x => convert (fld v 11 8) (fld v 15 12) (if fld v 103 96 = 0 then .nearest else if fld v 103 96 = 1 then .zero else .stochastic (stochasticR (s.idx p (fld v 107 104)) i)) x)) :
    Completes (.vcvt p) s fun t =>
      s.Stores t p (s.tref p v 48) (packElems (fld v 11 8) (r.map (fun x => x.1))) ∧
      (t.plot p).flags.fp8Sat = ((s.plot p).flags.fp8Sat || r.any (fun x => x.2.1)) ∧
      (t.plot p).flags.intSat = ((s.plot p).flags.intSat || r.any (fun x => x.2.2)) ∧ t.od = s.od := by
  obtain ⟨stores, flags, od⟩ := State.writes_flags inv issues (Keeps.refl 6 s) (s.tref p v 48)
    ((packElems (fld v 11 8) (r.map fun x => x.1)).mapIdx fun i b => (b, [(s.tref p v 16, fld v 15 12)].any fun i_ =>
      marked (s.plot p).poison (i_.1 + elemsBytes i_.2 (i / 64 * (512 / typeBits (fld v 11 8)))) (max 1 (elemsBytes i_.2 (512 / typeBits (fld v 11 8))))))
    { nan := !(fld v 11 8 == 5 || fld v 11 8 == 6 || fld v 11 8 == 7) && (r.map fun x => x.1).any (isNanBits (fld v 11 8)),
      fp8Sat := r.any (fun x => x.2.1), intSat := r.any (fun x => x.2.2) }
  rw [map_mark] at stores
  refine ⟨_, congrArg Host.Outcome.next ((State.issue_of_issues issues _).trans ?_), stores, congrArg Arith.fp8Sat flags, congrArg Arith.intSat flags, od⟩
  dsimp only
  rw [if_neg (by simp; omega), State.vecOk_passes _ (by omega) (by
    simp only [List.forall_mem_cons, List.not_mem_nil, false_imp_iff, implies_true, and_true]
    exact ⟨⟨aAligned, aFits⟩, dAligned, dFits⟩), ← results]
  rfl

/-- Settles O44: each command computes element by element and stores the packed results with the flags they raise. -/
theorem vectorCommandsComplete : Obligations.VectorCommandsComplete :=
  ⟨fun s p v r inv issues float some_ a1 a2 b1 b2 d1 d2 _ op results =>
     completes_vbin s p v r inv issues float some_ a1 a2 b1 b2 d1 d2 (by omega)
       (results.trans (s.vbinElems_eq_map p v _ fun _ _ => by rw [op]; rfl).symm),
   fun s p v r inv issues float some_ a1 a2 b1 b2 d1 d2 _ op results =>
     completes_vbin s p v r inv issues float some_ a1 a2 b1 b2 d1 d2 (by omega)
       (results.trans (s.vbinElems_eq_map p v _ fun _ _ => by rw [op]; rfl).symm),
   fun s p v r inv issues float some_ a1 a2 b1 b2 d1 d2 _ op results =>
     completes_vbin s p v r inv issues float some_ a1 a2 b1 b2 d1 d2 (by omega)
       (results.trans (s.vbinElems_eq_map p v _ fun _ _ => by rw [op]; rfl).symm),
   fun s p v r inv issues float some_ a1 a2 b1 b2 d1 d2 _ op results =>
     completes_vbin s p v r inv issues float some_ a1 a2 b1 b2 d1 d2 (by omega)
       (results.trans (s.vbinElems_eq_map p v _ fun _ _ => by rw [op]; rfl).symm),
   fun s p v r inv issues float some_ a1 a2 b1 b2 d1 d2 _ op results =>
     completes_vbin s p v r inv issues float some_ a1 a2 b1 b2 d1 d2 (by omega)
       (results.trans (by
         unfold State.vbinElems
         rcases op with op | op <;> rw [op] <;> rfl)),
   fun s p v r inv issues float some_ a1 a2 b1 b2 d1 d2 _ results => completes_vfma s p v r inv issues float some_ a1 a2 b1 b2 d1 d2 results,
   fun s p v r inv issues float some_ a1 a2 d1 d2 _ known results => completes_vun s p v r inv issues float some_ a1 a2 d1 d2 known results,
   fun s p v r inv issues float some_ a1 a2 d1 d2 _ results => completes_vmuls s p v r inv issues float some_ a1 a2 d1 d2 results,
   fun s p v r inv issues into from_ mode some_ a1 a2 d1 d2 _ results => completes_vcvt s p v r inv issues into from_ mode some_ a1 a2 d1 d2 results⟩

end Sys2Proof.Machine
end

section
namespace Sys2Proof.Machine

/-- What a command leaves that writes elements of its plot's tilth. -/
theorem State.vector_bytes {s u : State} (inv : s.Inv) {p op v : Nat} {fields : List (Nat × Nat)} (issues : s.Issues p op v fields)
    (keeps : Keeps 6 s u) (d t : Nat) (l : List Nat) (ins : List (Nat × Nat)) :
    s.Stores ((u.putVector p d t l ins).advance p) p d (packElems t l) := by
  have stores := State.writes_stores inv issues keeps d
    ((packElems t l).mapIdx fun i b => (b, ins.any fun i_ => marked (u.plot p).poison (i_.1 + elemsBytes i_.2 (i / 64 * (512 / typeBits t)))
      (max 1 (elemsBytes i_.2 (512 / typeBits t)))))
  rw [map_mark] at stores
  exact stores

/-- What a command leaves that writes elements of its plot's tilth and adds to the flags of its program. -/
theorem State.vector_flags {s u : State} (inv : s.Inv) {p op v : Nat} {fields : List (Nat × Nat)} (issues : s.Issues p op v fields)
    (keeps : Keeps 6 s u) (d t : Nat) (l : List Nat) (ins : List (Nat × Nat)) (a : Arith) :
    s.Stores (((u.putVector p d t l ins).orFlags p a).advance p) p d (packElems t l) := by
  obtain ⟨stores, -⟩ := State.writes_flags inv issues keeps d
    ((packElems t l).mapIdx fun i b => (b, ins.any fun i_ => marked (u.plot p).poison (i_.1 + elemsBytes i_.2 (i / 64 * (512 / typeBits t)))
      (max 1 (elemsBytes i_.2 (512 / typeBits t))))) a
  rw [map_mark] at stores
  exact stores

theorem packElems_map {α : Type} (t : Nat) (bytes : t ≠ 6) (l : List α) (f : α → Nat) :
    packElems t (l.map f) = l.flatMap fun x => natLe (typeBits t / 8) (f x) := by
  rw [packElems, if_neg bytes, List.flatMap_map]

/-! ### Wide partials (R605, R606) -/

theorem completes_vaddw (s : State) (p : Fin 16) (v : Nat) (inv : s.Inv) (issues : s.Issues p 0x46 v [(47, 16), (79, 48), (111, 80), (127, 112)])
    (some_ : fld v 127 112 ≠ 0) (aAligned : s.tref p v 16 % 64 = 0) (aFits : s.tref p v 16 + 16 * (fld v 127 112 * 64) ≤ s.dataTop p)
    (bAligned : s.tref p v 48 % 64 = 0) (bFits : s.tref p v 48 + 16 * (fld v 127 112 * 64) ≤ s.dataTop p) (dAligned : s.tref p v 80 % 64 = 0)
    (dFits : s.tref p v 80 + 16 * (fld v 127 112 * 64) ≤ s.dataTop p) :
    Completes (.vaddw p) s fun t =>
      s.Stores t p (s.tref p v 80) (((s.operand p (s.tref p v 16) 8 (fld v 127 112 * 64)).zip (s.operand p (s.tref p v 48) 8 (fld v 127 112 * 64))).flatMap (fun x => natLe 16 (wideAdd (wideOf x.1) (wideOf x.2)).code)) := by
  have stores := State.vector_bytes inv issues (Keeps.refl 6 s) (s.tref p v 80) 8
    (((s.operand p (s.tref p v 16) 8 (fld v 127 112 * 64)).zip (s.operand p (s.tref p v 48) 8 (fld v 127 112 * 64))).map
      fun (x : Nat × Nat) => (wideAdd (wideOf x.1) (wideOf x.2)).code) [(s.tref p v 16, 8), (s.tref p v 48, 8)]
  rw [packElems_map 8 (by decide)] at stores
  refine ⟨_, congrArg Host.Outcome.next ((State.issue_of_issues issues _).trans ?_), stores⟩
  dsimp only
  exact State.vecOk_passes _ (by omega) (by
    simp only [List.forall_mem_cons, List.not_mem_nil, false_imp_iff, implies_true, and_true]
    exact ⟨⟨aAligned, aFits⟩, ⟨bAligned, bFits⟩, dAligned, dFits⟩)

theorem completes_vroundw (s : State) (p : Fin 16) (v : Nat) (inv : s.Inv)
    (issues : s.Issues p 0x47 v [(11, 8), (47, 16), (79, 48), (95, 80), (111, 96)]) (float : fld v 11 8 = 2 ∨ fld v 11 8 = 3 ∨ fld v 11 8 = 4)
    (some_ : fld v 95 80 ≠ 0) (aAligned : s.tref p v 16 % 64 = 0) (aFits : s.tref p v 16 + 16 * (fld v 95 80 * 64) ≤ s.dataTop p)
    (dAligned : s.tref p v 48 % 64 = 0) (dFits : s.tref p v 48 + ((fld v 95 80 * 64) * typeBits (fld v 11 8) / 8) ≤ s.dataTop p) :
    Completes (.vroundw p) s fun t =>
      s.Stores t p (s.tref p v 48) ((s.operand p (s.tref p v 16) 8 (fld v 95 80 * 64)).flatMap (fun x => natLe (typeBits (fld v 11 8) / 8) (roundWide (fld v 11 8) (sext 16 (fld v 111 96)) (wideOf x)))) := by
  obtain ⟨vector, bytes⟩ := vecType_of float
  obtain ⟨ws, wide⟩ : ∃ ws, ws = (s.operand p (s.tref p v 16) 8 (fld v 95 80 * 64)).map wideOf := ⟨_, rfl⟩
  have counted := s.bumpBy_keeps O.inexactCells (ws.filter (fun w => w.inexact)).length
  have stores := State.vector_flags inv issues ((Keeps.refl 6 s).step counted rfl) (s.tref p v 48) (fld v 11 8)
    (ws.map (roundWide (fld v 11 8) (sext 16 (fld v 111 96)))) [(s.tref p v 16, 8)]
    (orAll (ws.map fun w => roundFlags (fld v 11 8) w (roundWide (fld v 11 8) (sext 16 (fld v 111 96)) w)))
  have packed : packElems (fld v 11 8) (ws.map (roundWide (fld v 11 8) (sext 16 (fld v 111 96)))) =
      (s.operand p (s.tref p v 16) 8 (fld v 95 80 * 64)).flatMap
        (fun x => natLe (typeBits (fld v 11 8) / 8) (roundWide (fld v 11 8) (sext 16 (fld v 111 96)) (wideOf x))) := by
    rw [packElems_map _ bytes, wide, List.flatMap_map]
  rw [packed] at stores
  refine ⟨_, congrArg Host.Outcome.next ((State.issue_of_issues issues _).trans ?_), stores⟩
  dsimp only
  rw [if_neg (by simp [vector]), State.vecOk_passes _ (by omega) (by
    simp only [List.forall_mem_cons, List.not_mem_nil, false_imp_iff, implies_true, and_true]
    exact ⟨⟨aAligned, aFits⟩, dAligned, dFits⟩), ← wide]

/-! ### Reductions (R597, R605) -/

/-- The bytes that the result of VRED takes. -/
def vredSize (op t : Nat) : Nat := if op = 0 then 16 else if op = 3 then 8 else typeBits t / 8

/-- The bytes that VRED computes. -/
def State.vredBytes (s : State) (p v : Nat) : List Byte :=
  match fld v 11 8 with
  | 0 => natLe 16 (((s.operand p (s.tref p v 16) (fld v 15 12) (fld v 95 80 * 64)).map (fun x => image (sext 16 (fld v 111 96)) (numOf (fld v 15 12) x))).foldl wideAdd {}).code
  | 1 => natLe (vredSize (fld v 11 8) (fld v 15 12)) (pickAll (fld v 15 12) true s.free (s.operand p (s.tref p v 16) (fld v 15 12) (fld v 95 80 * 64)))
  | 2 => natLe (vredSize (fld v 11 8) (fld v 15 12)) (pickAll (fld v 15 12) false s.free (s.operand p (s.tref p v 16) (fld v 15 12) (fld v 95 80 * 64)))
  | _ => natLe 8 (toTwos 64 (maxExp (fld v 15 12) (s.operand p (s.tref p v 16) (fld v 15 12) (fld v 95 80 * 64))))

theorem completes_vred (s : State) (p : Fin 16) (v : Nat) (inv : s.Inv)
    (issues : s.Issues p 0x45 v [(15, 8), (47, 16), (79, 48), (95, 80), (111, 96)]) (float : fld v 15 12 = 2 ∨ fld v 15 12 = 3 ∨ fld v 15 12 = 4)
    (some_ : fld v 95 80 ≠ 0) (aAligned : s.tref p v 16 % 64 = 0)
    (aFits : s.tref p v 16 + ((fld v 95 80 * 64) * typeBits (fld v 15 12) / 8) ≤ s.dataTop p) (known : fld v 11 8 ≤ 3)
    (dAligned : s.tref p v 48 % 64 = 0) (dFits : s.tref p v 48 + vredSize (fld v 11 8) (fld v 15 12) ≤ s.dataTop p) :
    Completes (.vred p) s fun t => s.Stores t p (s.tref p v 48) (s.vredBytes p v) := by
  obtain ⟨vector, -⟩ := vecType_of float
  have marks (bad : Bool) : ((s.vredBytes p v).map fun b => (b, bad)).map (·.1) = s.vredBytes p v := by
    rw [List.map_map]
    exact List.map_id _
  obtain ⟨stores, -⟩ := State.writes_flags inv issues (Keeps.free s (s.free + fld v 95 80 * 64)) (s.tref p v 48)
    ((s.vredBytes p v).map fun b => (b, marked (s.plot p).poison (s.tref p v 16) (elemsBytes (fld v 15 12) (fld v 95 80 * 64))))
    (if fld v 11 8 = 1 || fld v 11 8 = 2 then nanFlag (fld v 15 12) [leNat (s.vredBytes p v)] else {})
  rw [marks] at stores
  refine ⟨_, congrArg Host.Outcome.next ((State.issue_of_issues issues _).trans ?_), stores⟩
  dsimp only
  rw [if_neg (by simp [vector, known])]
  refine (State.vecOk_passes _ (by omega) (by
    simp only [List.forall_mem_cons, List.not_mem_nil, false_imp_iff, implies_true, and_true]
    exact ⟨⟨aAligned, aFits⟩, dAligned, dFits⟩)).trans ?_
  rfl

theorem completes_vred_sum (s : State) (p : Fin 16) (v : Nat) (inv : s.Inv)
    (issues : s.Issues p 0x45 v [(15, 8), (47, 16), (79, 48), (95, 80), (111, 96)]) (float : fld v 15 12 = 2 ∨ fld v 15 12 = 3 ∨ fld v 15 12 = 4)
    (some_ : fld v 95 80 ≠ 0) (aAligned : s.tref p v 16 % 64 = 0)
    (aFits : s.tref p v 16 + ((fld v 95 80 * 64) * typeBits (fld v 15 12) / 8) ≤ s.dataTop p) (op : fld v 11 8 = 0)
    (dAligned : s.tref p v 48 % 64 = 0) (dFits : s.tref p v 48 + 16 ≤ s.dataTop p) :
    Completes (.vred p) s fun t =>
      s.Stores t p (s.tref p v 48) (natLe 16 (((s.operand p (s.tref p v 16) (fld v 15 12) (fld v 95 80 * 64)).map (fun x => image (sext 16 (fld v 111 96)) (numOf (fld v 15 12) x))).foldl wideAdd {}).code) := by
  obtain ⟨t, runs, stores⟩ := completes_vred s p v inv issues float some_ aAligned aFits (by omega) dAligned (by rw [op]; exact dFits)
  rw [State.vredBytes, op] at stores
  exact ⟨t, runs, stores⟩

theorem completes_vred_exponent (s : State) (p : Fin 16) (v : Nat) (inv : s.Inv)
    (issues : s.Issues p 0x45 v [(15, 8), (47, 16), (79, 48), (95, 80), (111, 96)]) (float : fld v 15 12 = 2 ∨ fld v 15 12 = 3 ∨ fld v 15 12 = 4)
    (some_ : fld v 95 80 ≠ 0) (aAligned : s.tref p v 16 % 64 = 0)
    (aFits : s.tref p v 16 + ((fld v 95 80 * 64) * typeBits (fld v 15 12) / 8) ≤ s.dataTop p) (op : fld v 11 8 = 3)
    (dAligned : s.tref p v 48 % 64 = 0) (dFits : s.tref p v 48 + 8 ≤ s.dataTop p) :
    Completes (.vred p) s fun t =>
      s.Stores t p (s.tref p v 48) (natLe 8 (toTwos 64 (maxExp (fld v 15 12) (s.operand p (s.tref p v 16) (fld v 15 12) (fld v 95 80 * 64))))) := by
  obtain ⟨t, runs, stores⟩ := completes_vred s p v inv issues float some_ aAligned aFits (by omega) dAligned (by rw [op]; exact dFits)
  rw [State.vredBytes, op] at stores
  exact ⟨t, runs, stores⟩

theorem completes_vred_pick (s : State) (p : Fin 16) (v : Nat) (g : Bool) (inv : s.Inv)
    (issues : s.Issues p 0x45 v [(15, 8), (47, 16), (79, 48), (95, 80), (111, 96)]) (float : fld v 15 12 = 2 ∨ fld v 15 12 = 3 ∨ fld v 15 12 = 4)
    (some_ : fld v 95 80 ≠ 0) (aAligned : s.tref p v 16 % 64 = 0)
    (aFits : s.tref p v 16 + ((fld v 95 80 * 64) * typeBits (fld v 15 12) / 8) ≤ s.dataTop p) (op : fld v 11 8 = (if g then 1 else 2))
    (dAligned : s.tref p v 48 % 64 = 0) (dFits : s.tref p v 48 + typeBits (fld v 15 12) / 8 ≤ s.dataTop p) :
    Completes (.vred p) s fun t =>
      s.Stores t p (s.tref p v 48) (natLe (typeBits (fld v 15 12) / 8) (pickAll (fld v 15 12) g s.free (s.operand p (s.tref p v 16) (fld v 15 12) (fld v 95 80 * 64)))) := by
  cases g with
  | true =>
    obtain ⟨t, runs, stores⟩ := completes_vred s p v inv issues float some_ aAligned aFits (by rw [op]; decide) dAligned (by rw [op]; exact dFits)
    rw [State.vredBytes, op] at stores
    exact ⟨t, runs, stores⟩
  | false =>
    obtain ⟨t, runs, stores⟩ := completes_vred s p v inv issues float some_ aAligned aFits (by rw [op]; decide) dAligned (by rw [op]; exact dFits)
    rw [State.vredBytes, op] at stores
    exact ⟨t, runs, stores⟩

/-! ### ACC_STORE (R606) -/

/-- The bits of type `t` that ACC_STORE makes of a cell. -/
def storedBits (t : Nat) (ew : Int) (w : Wide) : Nat := if t = 8 then w.code else if t = 7 then (wideInt w).1 else roundWide t ew w

/-- The cells that ACC_STORE stores. -/
def State.storedCells (s : State) (p v : Nat) : List Wide :=
  (List.range (fld v 79 64 * 256)).map fun i => (s.bed p (fld v 9 8)).cell (fld v 95 80 * 256 + i)

theorem packMarked_bytes (t : Nat) (l : List (Nat × Bool)) :
    (packMarked t l).map (·.1) = l.flatMap fun y => natLe (typeBits t / 8) y.1 := by
  rw [packMarked, List.map_flatMap]
  refine congrArg (l.flatMap ·) (funext fun y => ?_)
  rw [List.map_map]
  exact List.map_id _

theorem completes_accStore (s : State) (p : Fin 16) (v : Nat) (t : Nat) (inv : s.Inv)
    (issues : s.Issues p 0x34 v [(9, 8), (13, 11), (63, 32), (79, 64), (95, 80)]) (format : fmtType (fld v 13 11) = some t)
    (integer : t = 7 → (s.bed p (fld v 9 8)).mode = 2) (rows : rowsOk (fld v 79 64) (fld v 95 80) = true) (aligned : s.tref p v 32 % 64 = 0)
    (fits : s.tref p v 32 + fld v 79 64 * 32 * typeBits t ≤ s.dataTop p) :
    Completes (.accStore p) s fun u =>
      s.Stores u p (s.tref p v 32) ((s.storedCells p v).flatMap fun w => natLe (typeBits t / 8) (storedBits t (s.bed p (fld v 9 8)).ew w)) := by
  obtain ⟨cells, read⟩ : ∃ cells, cells = (List.range (fld v 79 64 * 256)).map (fun i =>
      ((s.bed p (fld v 9 8)).cell (fld v 95 80 * 256 + i), kvGet false (s.bed p (fld v 9 8)).bad (fld v 95 80 * 256 + i))) := ⟨_, rfl⟩
  obtain ⟨out, rounded⟩ : ∃ out, out = cells.map (fun (c : Wide × Bool) =>
      if t = 8 then (c.1.code, c.2) else if t = 7 then ((wideInt c.1).1, c.2) else (roundWide t (s.bed p (fld v 9 8)).ew c.1, c.2)) := ⟨_, rfl⟩
  obtain ⟨flags, raised⟩ : ∃ flags, flags = orAll (cells.map (fun (c : Wide × Bool) =>
      if t = 8 then {} else if t = 7 then { intSat := (wideInt c.1).2 } else roundFlags t c.1 (roundWide t (s.bed p (fld v 9 8)).ew c.1))) := ⟨_, rfl⟩
  obtain ⟨u, counted⟩ : ∃ u, u = (if t = 8 || t = 7 then s else s.bumpBy O.inexactCells (cells.filter (fun (c : Wide × Bool) => c.1.inexact)).length) :=
    ⟨_, rfl⟩
  have keeps : Keeps 6 s u := counted ▸ (Keeps.refl 6 s).step (Keeps.ite (Keeps.refl 4 s) (s.bumpBy_keeps _ _)) rfl
  obtain ⟨stores, -⟩ := State.writes_flags inv issues keeps (s.tref p v 32) (packMarked t out) flags
  have bytes : (packMarked t out).map (·.1) =
      (s.storedCells p v).flatMap fun w => natLe (typeBits t / 8) (storedBits t (s.bed p (fld v 9 8)).ew w) := by
    rw [packMarked_bytes, rounded, read, State.storedCells, List.map_map, List.flatMap_map, List.flatMap_map]
    refine congrArg (List.flatMap · _) (funext fun i => ?_)
    unfold storedBits
    dsimp only [Function.comp_apply]
    split
    · rfl
    · split <;> rfl
  rw [bytes] at stores
  refine ⟨_, congrArg Host.Outcome.next ((State.issue_of_issues issues _).trans ?_), stores⟩
  dsimp only
  rw [format]
  dsimp only
  rw [if_neg (by simp [rows, aligned]; exact integer), if_neg (Nat.not_lt.2 fits), ← read, ← rounded, ← raised, ← counted]

theorem wideInt_saturates (w : Wide) : (wideInt w).1 = toTwos 32 (max (-(2 ^ 31)) (min (2 ^ 31 - 1) w.fix.toInt)) := by
  unfold wideInt toTwos
  dsimp only
  generalize w.fix.toInt = i
  split
  · rw [min_eq_left (by omega), max_eq_right (by decide)]
    decide
  · split
    · rw [max_eq_left (by omega)]
      decide
    · rw [min_eq_right (by omega), max_eq_right (by omega)]

end Sys2Proof.Machine
end

section
namespace Sys2Proof.Machine

/-! ### The elements of one row of an operand (R601) -/

theorem splitWords_drop (k n j : Nat) (bs : List Byte) : (splitWords k n bs).drop j = splitWords k (n - j) (bs.drop (j * k)) := by
  induction j generalizing n bs with
  | zero => rw [List.drop_zero, Nat.zero_mul, List.drop_zero, Nat.sub_zero]
  | succ j ih =>
    cases n with
    | zero => rw [Nat.zero_sub]; rfl
    | succ n => rw [splitWords, List.drop_succ_cons, ih, List.drop_drop, Nat.succ_sub_succ, Nat.succ_mul, Nat.add_comm]

theorem splitWords_take (k n j : Nat) (bs : List Byte) (inside : j ≤ n) : (splitWords k n bs).take j = splitWords k j (bs.take (j * k)) := by
  induction j generalizing n bs with
  | zero => rw [List.take_zero]; rfl
  | succ j ih =>
    obtain ⟨n, rfl⟩ : ∃ n', n = n' + 1 := ⟨n - 1, by omega⟩
    rw [splitWords, List.take_succ_cons, ih n _ (Nat.le_of_succ_le_succ inside), splitWords, List.take_take, List.drop_take, Nat.succ_mul,
      Nat.add_sub_cancel, Nat.min_eq_left (Nat.le_add_left k _)]

/-- The two INT4 elements of a byte. -/
def nibbles (b : Byte) : List Nat := [b.toNat % 16, b.toNat / 16]

theorem nibbles_drop (j : Nat) (bs : List Byte) : (bs.flatMap nibbles).drop (2 * j) = (bs.drop j).flatMap nibbles := by
  induction j generalizing bs with
  | zero => rfl
  | succ j ih =>
    cases bs with
    | nil => simp
    | cons b bs => exact ih bs

theorem nibbles_take (j : Nat) (bs : List Byte) : (bs.flatMap nibbles).take (2 * j) = (bs.take j).flatMap nibbles := by
  induction j generalizing bs with
  | zero => rfl
  | succ j ih =>
    cases bs with
    | nil => simp
    | cons b bs => exact congrArg (nibbles b ++ ·) (ih bs)

theorem memRead_slice (m : List Host.Cell) (a n j k : Nat) (inside : j + k ≤ n) : ((memRead m a n).drop j).take k = memRead m (a + j) k := by
  rw [memRead_drop, memRead_take _ _ _ _ (by omega)]

/-- A type that a bed multiplies: its elements fill whole bytes, or it is INT4. -/
theorem elems_row (m : List Host.Cell) (a rows i t : Nat) (inside : i < rows) (whole : t = 6 ∨ 8 ∣ typeBits t) :
    ((elems t (rows * depthOf t) (memRead m a (rows * (depthOf t * typeBits t / 8)))).drop (i * depthOf t)).take (depthOf t) =
      elems t (depthOf t) (memRead m (a + i * (depthOf t * typeBits t / 8)) (depthOf t * typeBits t / 8)) := by
  by_cases int4 : t = 6
  · subst int4
    have rest : i * 256 + 256 ≤ rows * 256 := by omega
    change ((((memRead m a (rows * 256)).flatMap nibbles).take (rows * 512)).drop (i * 512)).take 512 =
      ((memRead m (a + i * 256) 256).flatMap nibbles).take 512
    rw [show rows * 512 = 2 * (rows * 256) by omega, show i * 512 = 2 * (i * 256) by omega, show 512 = 2 * 256 from rfl,
      nibbles_take, nibbles_drop, nibbles_take, nibbles_take, List.take_of_length_le (Nat.le_of_eq (length_memRead _ _ _)),
      memRead_slice _ _ _ _ _ rest, List.take_of_length_le (Nat.le_of_eq (length_memRead _ _ _))]
  · obtain ⟨k, bits⟩ := whole.resolve_left int4
    have size : depthOf t * typeBits t / 8 = depthOf t * k := by
      rw [bits, Nat.mul_left_comm, Nat.mul_div_cancel_left _ (by decide)]
    have word : typeBits t / 8 = k := by rw [bits, Nat.mul_div_cancel_left _ (by decide)]
    have rest : i * (depthOf t * k) + depthOf t * k ≤ rows * (depthOf t * k) := by
      rw [← Nat.succ_mul]
      exact Nat.mul_le_mul_right _ inside
    have enough : depthOf t ≤ rows * depthOf t - i * depthOf t := by
      rw [← Nat.sub_mul]
      exact Nat.le_mul_of_pos_left _ (Nat.sub_pos_of_lt inside)
    rw [elems, if_neg int4, elems, if_neg int4, word, size, splitWords_drop, splitWords_take _ _ _ _ enough, Nat.mul_assoc,
      memRead_slice _ _ _ _ _ rest]

theorem rowsOf_getElem? (k n i : Nat) (l : List Num) (inside : i < n) : (rowsOf k n l)[i]? = some ((l.drop (i * k)).take k) := by
  induction n generalizing i l with
  | zero => exact absurd inside (Nat.not_lt_zero _)
  | succ n ih =>
    cases i with
    | zero => simp [rowsOf]
    | succ i => rw [rowsOf, List.getElem?_cons_succ, ih i _ (Nat.lt_of_succ_lt_succ inside), List.drop_drop, Nat.succ_mul, Nat.add_comm]

theorem flatten_getElem? {α : Type} (l : List (List α)) (c i n : Nat) (all : ∀ r ∈ l, r.length = c) (inside : n < c) :
    l.flatten[i * c + n]? = l[i]?.bind fun r => r[n]? := by
  induction l generalizing i with
  | nil => rfl
  | cons r l ih =>
    have length : r.length = c := all r List.mem_cons_self
    rw [List.flatten_cons]
    cases i with
    | zero => rw [Nat.zero_mul, Nat.zero_add, List.getElem?_append_left (by omega)]; rfl
    | succ i =>
      rw [List.getElem?_append_right (by rw [Nat.succ_mul]; omega), List.getElem?_cons_succ,
        ← ih i fun r later => all r (List.mem_cons_of_mem _ later)]
      congr 1
      rw [Nat.succ_mul]
      omega

/-! ### The columns of a stationary buffer -/

theorem elems_getElem?_isSome (t n i : Nat) (bs : List Byte) (words : t ≠ 6) (inside : i < n) : (elems t n bs)[i]?.isSome = true := by
  rw [elems, if_neg words, List.getElem?_eq_getElem (by rwa [splitWords_length])]
  rfl

theorem elemNum_getD (t n i : Nat) (bs : List Byte) (inside : i < n) :
    ((elems t n bs).map (elemNum t)).toArray.getD i (.fin false 0 0) = elemNum t ((elems t n bs).getD i 0) := by
  rw [Array.getD_eq_getD_getElem?, List.getElem?_toArray, List.getElem?_map, List.getD_eq_getElem?_getD]
  cases found : (elems t n bs)[i]? with
  | some x => rfl
  | none =>
    by_cases int4 : t = 6
    · subst int4
      rfl
    · exact absurd (elems_getElem?_isSome t n i bs int4 inside) (by rw [found]; decide)

theorem tileIndex_lt {k q n : Nat} (trans : Bool) (row : q < k) (column : n < 256) : (if trans then n * k + q else q * 256 + n) < k * 256 := by
  cases trans with
  | true =>
    have : (n + 1) * k ≤ 256 * k := Nat.mul_le_mul_right k column
    rw [Nat.succ_mul] at this
    simp only [if_true]
    omega
  | false =>
    simp only [Bool.false_eq_true, if_false]
    omega

theorem tileColumns_getElem? (x : Tile) (k n : Nat) (depth : depthOf x.ty = k) (column : n < 256) :
    (tileColumns x)[n]? = some ((List.range k).map fun q =>
      elemNum x.ty ((elems x.ty (k * 256) x.data).getD (if x.trans then n * k + q else q * 256 + n) 0)) := by
  subst depth
  rw [tileColumns]
  rw [List.getElem?_map, List.getElem?_range column, Option.map_some]
  refine congrArg some (List.map_congr_left fun q row => ?_)
  rw [tileIndex]
  exact elemNum_getD _ _ _ _ (tileIndex_lt x.trans (List.mem_range.1 row) column)

theorem tileColumns_length (x : Tile) : (tileColumns x).length = 256 := by
  rw [tileColumns]
  rw [List.length_map, List.length_range]

/-! ### MATMUL (R601, R602, R629) -/

theorem types_of_pairMode {a b mode : Nat} (pair : pairMode b a = some mode) : (a = 6 ∨ 8 ∣ typeBits a) := by
  unfold pairMode at pair
  have small : a ≤ 6 := by
    split at pair
    · rename_i floats
      simp at floats
      omega
    split at pair
    · rename_i halves
      simp at halves
      omega
    split at pair
    · rename_i integers
      simp at integers
      omega
    · cases pair
  interval_cases a <;> decide

theorem Bed.cell_setCells_of {b : Bed} {lo i : Nat} {l : List (Wide × Bool)} {w : Wide × Bool} (found : l[i]? = some w) :
    (b.setCells lo l).cell (lo + i) = w.1 := by
  obtain ⟨inside, rfl⟩ := List.getElem?_eq_some_iff.1 found
  exact b.cell_setCells lo i l inside

/-- What a command leaves that sets one bed of its plot and counts MACs. -/
theorem State.setBed_countMacs {s : State} (inv : s.Inv) {p op v k : Nat} {fields : List (Nat × Nat)} (issues : s.Issues p op v fields) (x : Bed)
    (n : Nat) (inside : k < (s.plot p).beds.length) :
    (((s.setBed p k x).countMacs p n).advance p).bed p k = x ∧
    ((((s.setBed p k x).countMacs p n).advance p).plot p).macs = ((s.plot p).macs + n) % 2 ^ 64 ∧
    ((((s.setBed p k x).countMacs p n).advance p).plot p).pc = (s.plot p).pc + 1 ∧
    ((((s.setBed p k x).countMacs p n).advance p).plot p).tilth = (s.plot p).tilth ∧
    (((s.setBed p k x).countMacs p n).advance p).hbm = s.hbm := by
  have set := State.setBed_replots inv p k x
  have counted := (s.setBed p k x).bumpBy_keeps O.macs n
  have inv' := counted.kinv (set.keeps.kinv inv)
  have plot : ((s.setBed p k x).bumpBy O.macs n).plot p = { s.plot p with beds := (s.plot p).beds.set k x } := by
    rw [State.plot, counted.kplots rfl]
    exact set.plot
  have added := Replotted.of_modPlot inv' p
    (fun y => { y with macs := (y.macs + n) % 2 ^ 64, macsOvf := y.macsOvf || decide (2 ^ 64 ≤ y.macs + n) }) id
  rw [plot] at added
  have goes := State.advance_replots (added.keeps.kinv inv') issues ⟨by rw [added.plot], by rw [added.plot], by rw [added.plot]⟩
  rw [added.plot] at goes
  have tilth := congrArg Plot.tilth goes.plot
  refine ⟨?_, congrArg Plot.macs goes.plot, congrArg Plot.pc goes.plot, tilth,
    ((goes.keeps.khbm rfl).trans (added.keeps.khbm rfl)).trans ((counted.khbm rfl).trans (set.keeps.khbm rfl))⟩
  have beds : ((((s.setBed p k x).countMacs p n).advance p).plot p).beds = (s.plot p).beds.set k x := by
    have beds := congrArg Plot.beds goes.plot
    exact beds
  rw [State.bed, beds, List.getD_eq_getElem _ _ (by rwa [List.length_set]), List.getElem_set_self]

theorem completes_matmul (s : State) (p : Fin 16) (v : Nat) (x : Tile) (k : Nat) (inv : s.Inv)
    (issues : s.Issues p 0x31 v [(10, 8), (23, 16), (63, 32), (79, 64), (95, 80)])
    (tile : x = (if bit v 10 then (s.bed p (fld v 9 8)).buf1 else (s.bed p (fld v 9 8)).buf0))
    (pair : pairMode x.ty (fld v 23 16) = some (s.bed p (fld v 9 8)).mode) (rows : rowsOk (fld v 79 64) (fld v 95 80) = true)
    (aligned : s.tref p v 32 % 64 = 0) (depth : k = depthOf (fld v 23 16))
    (fits : s.tref p v 32 + fld v 79 64 * (k * typeBits (fld v 23 16) / 8) ≤ s.dataTop p) (square : depthOf x.ty = k)
    (four : (s.plot p).beds.length = 4) :
    Completes (.matmul p) s fun t =>
      (∀ i < fld v 79 64, ∀ n < 256,
      (t.bed p (fld v 9 8)).cell ((fld v 95 80 + i) * 256 + n) = wideAdd ((s.bed p (fld v 9 8)).cell ((fld v 95 80 + i) * 256 + n)) (dotImage (s.bed p (fld v 9 8)).ew ((elems (fld v 23 16) k (memRead (s.plot p).tilth (s.tref p v 32 + i * (k * typeBits (fld v 23 16) / 8)) (k * typeBits (fld v 23 16) / 8))).map (elemNum (fld v 23 16))) ((List.range k).map (fun q => elemNum x.ty ((elems x.ty (k * 256) x.data).getD (if x.trans then n * k + q else q * 256 + n) 0))))) ∧
      (t.plot p).macs = ((s.plot p).macs + fld v 79 64 * k * 256) % 2 ^ 64 ∧ (t.plot p).pc = (s.plot p).pc + 1 ∧ (t.plot p).tilth = (s.plot p).tilth ∧
      t.hbm = s.hbm := by
  obtain ⟨g, read⟩ : ∃ g, g = (s.getMarked (.tilth p (s.tref p v 32)) (fld v 79 64 * (depthOf (fld v 23 16) * typeBits (fld v 23 16) / 8))).2 :=
    ⟨_, rfl⟩
  have bytes := s.getMarked_tilth_bytes p (s.tref p v 32) (fld v 79 64 * (depthOf (fld v 23 16) * typeBits (fld v 23 16) / 8))
  rw [← read] at bytes
  obtain ⟨operand, split⟩ : ∃ operand, operand = rowsOf (depthOf (fld v 23 16)) (fld v 79 64)
    ((elems (fld v 23 16) (fld v 79 64 * depthOf (fld v 23 16)) (g.map (·.1))).map (elemNum (fld v 23 16))) := ⟨_, rfl⟩
  obtain ⟨products, multiplied⟩ : ∃ products, products = operand.mapIdx (fun i r =>
      (tileColumns x).mapIdx (fun n c =>
        (wideAdd ((s.bed p (fld v 9 8)).cell ((fld v 95 80 + i) * 256 + n)) (dotImage (s.bed p (fld v 9 8)).ew r c),
          ((g.drop (i * (depthOf (fld v 23 16) * typeBits (fld v 23 16) / 8))).take (depthOf (fld v 23 16) * typeBits (fld v 23 16) / 8)).any (fun y => y.2) ||
            x.bad.contains n || kvGet false (s.bed p (fld v 9 8)).bad ((fld v 95 80 + i) * 256 + n)))) := ⟨_, rfl⟩
  obtain ⟨bed, macs, pc, tilth, hbm⟩ := State.setBed_countMacs inv issues ((s.bed p (fld v 9 8)).setCells (fld v 95 80 * 256) products.flatten)
    (fld v 79 64 * depthOf (fld v 23 16) * 256) (fld_bed_lt four)
  refine ⟨_, congrArg Host.Outcome.next ((State.issue_of_issues issues _).trans ?_), fun i row n column => ?_, by rw [macs, depth], pc, tilth, hbm⟩
  · dsimp only
    rw [← tile, if_neg (by simp [pair, rows, aligned]), if_neg (by rw [← depth]; exact Nat.not_lt.2 fits), ← read, ← split, ← multiplied]
  · have whole : ∀ r ∈ products, r.length = 256 := fun r listed => by
      rw [multiplied] at listed
      obtain ⟨i, short, rfl⟩ := List.mem_mapIdx.1 listed
      rw [List.length_mapIdx, tileColumns_length]
    obtain ⟨a, row_⟩ : ∃ a, a = (elems (fld v 23 16) k (memRead (s.plot p).tilth (s.tref p v 32 + i * (k * typeBits (fld v 23 16) / 8))
        (k * typeBits (fld v 23 16) / 8))).map (elemNum (fld v 23 16)) := ⟨_, rfl⟩
    obtain ⟨b, column_⟩ : ∃ b, b = (List.range k).map fun q =>
        elemNum x.ty ((elems x.ty (k * 256) x.data).getD (if x.trans then n * k + q else q * 256 + n) 0) := ⟨_, rfl⟩
    have left : operand[i]? = some a := by
      rw [split, rowsOf_getElem? _ _ _ _ row, bytes, ← List.map_drop, ← List.map_take, elems_row _ _ _ _ _ row (types_of_pairMode pair), row_, depth]
    have right : (tileColumns x)[n]? = some b := column_ ▸ tileColumns_getElem? x k n square column
    obtain ⟨bad, cell⟩ : ∃ bad, products.flatten[i * 256 + n]? =
        some (wideAdd ((s.bed p (fld v 9 8)).cell ((fld v 95 80 + i) * 256 + n)) (dotImage (s.bed p (fld v 9 8)).ew a b), bad) := by
      rw [flatten_getElem? products 256 i n whole column, multiplied, List.getElem?_mapIdx, left, Option.map_some, Option.bind_some,
        List.getElem?_mapIdx, right]
      exact ⟨_, rfl⟩
    have place : (fld v 95 80 + i) * 256 + n = fld v 95 80 * 256 + (i * 256 + n) := by omega
    rw [bed, place, Bed.cell_setCells_of cell, place, ← row_, ← column_]

/-- Settles O43: a bed accumulates the image of each dot product, and what is stored or reduced is the spec's rounding of the operands. -/
theorem bedsAndReductionsComplete : Obligations.BedsAndReductionsComplete :=
  ⟨fun s p v x k inv issues tile pair rows aligned depth fits _ square four =>
     completes_matmul s p v x k inv issues tile pair rows aligned depth fits square four,
   fun s p v y inv issues format rows aligned fits _ _ => by
     have known : fmtType (fld v 13 11) = some y ∧ (y = 4 ∨ y = 2 ∨ y = 3) := by
       rcases format with ⟨code, rfl⟩ | ⟨code, rfl⟩ | ⟨code, rfl⟩ <;> rw [code] <;> decide
     obtain ⟨t, runs, stores⟩ := completes_accStore s p v y inv issues known.1 (by omega) rows aligned fits
     have rounded : storedBits y (s.bed p (fld v 9 8)).ew = roundWide y (s.bed p (fld v 9 8)).ew := by
       funext w
       rw [storedBits, if_neg (by omega), if_neg (by omega)]
     rw [rounded] at stores
     exact ⟨t, runs, stores⟩,
   fun s p v inv issues code rows aligned fits _ _ =>
     completes_accStore s p v 8 inv issues (by rw [code]; rfl) (fun int => absurd int (by decide)) rows aligned (by rw [Nat.mul_assoc]; exact fits),
   fun s p v inv issues code mode rows aligned fits _ _ => by
     obtain ⟨t, runs, stores⟩ :=
       completes_accStore s p v 7 inv issues (by rw [code]; rfl) (fun _ => mode) rows aligned (by rw [Nat.mul_assoc]; exact fits)
     have saturated : storedBits 7 (s.bed p (fld v 9 8)).ew = fun w => toTwos 32 (max (-(2 ^ 31)) (min (2 ^ 31 - 1) w.fix.toInt)) := by
       funext w
       exact wideInt_saturates w
     rw [saturated] at stores
     exact ⟨t, runs, stores⟩,
   fun s p v inv issues float some_ aAligned aFits _ op dAligned dFits =>
     completes_vred_sum s p v inv issues float some_ aAligned aFits op dAligned dFits,
   fun s p v inv issues float some_ aAligned aFits _ op dAligned dFits =>
     completes_vred_exponent s p v inv issues float some_ aAligned aFits op dAligned dFits,
   fun s p v g inv issues float some_ aAligned aFits _ op dAligned dFits =>
     completes_vred_pick s p v g inv issues float some_ aAligned aFits op dAligned dFits,
   fun s p v inv issues some_ aAligned aFits bAligned bFits dAligned dFits _ =>
     completes_vaddw s p v inv issues some_ aAligned aFits bAligned bFits dAligned dFits,
   fun s p v inv issues float some_ aAligned aFits dAligned dFits _ =>
     completes_vroundw s p v inv issues float some_ aAligned aFits dAligned dFits⟩

end Sys2Proof.Machine
end
